-- ==== Sys2Proof/Word.lean ====
section
/-! DEFINITION. The plain data the model is made of: a byte, and a table of values by key. -/

namespace Sys2Proof

/-- A byte of memory or of a message. -/
abbrev Byte := BitVec 8

/-- Values by number: a list of (key, value) pairs in one canonical form (keys strictly rising, no value equal to what
an unlisted key holds), so that equal tables are equal data. Its operations stand in `Machine/Tbl.lean`. -/
abbrev Tbl (α : Type) := List (Nat × α)

end Sys2Proof
end

