-- ==== Sys2Proof/Machine/Tbl.lean ====
section
/-! DEFINITION. Operations on tables and bit fields: reading and writing one key, canonical form, bit fields of words,
little-endian bytes, saturating counters. -/

namespace Sys2Proof

/-- The value under key `k`; `d` is what an unlisted key holds. -/
def Tbl.get {α : Type} (d : α) : Tbl α → Nat → α
  | [], _ => d
  | (j, v) :: t, k => if j = k then v else Tbl.get d t k

/-- Remove key `k`. -/
def Tbl.erase {α : Type} : Tbl α → Nat → Tbl α
  | [], _ => []
  | (j, v) :: t, k => if j = k then Tbl.erase t k else (j, v) :: Tbl.erase t k

/-- Insert a pair before the first larger key. -/
def Tbl.insert {α : Type} : Tbl α → Nat → α → Tbl α
  | [], k, v => [(k, v)]
  | (j, w) :: t, k, v => if k < j then (k, v) :: (j, w) :: t else (j, w) :: Tbl.insert t k v

/-- Write `v` under key `k`; writing what an unlisted key holds removes the entry. -/
def Tbl.set {α : Type} [DecidableEq α] (d : α) (t : Tbl α) (k : Nat) (v : α) : Tbl α :=
  if v = d then Tbl.erase t k else Tbl.insert (Tbl.erase t k) k v

/-- Apply `f` to the value under key `k`. -/
def Tbl.upd {α : Type} [DecidableEq α] (d : α) (t : Tbl α) (k : Nat) (f : α → α) : Tbl α :=
  Tbl.set d t k (f (Tbl.get d t k))

/-- The keys rise strictly. -/
def Tbl.sorted {α : Type} : Tbl α → Bool
  | [] => true
  | (j, _) :: t => t.all (fun p => decide (j < p.1)) && Tbl.sorted t

/-- The canonical form: keys strictly rising, no entry equal to what an unlisted key holds. -/
def Tbl.wf {α : Type} [DecidableEq α] (d : α) (t : Tbl α) : Bool :=
  Tbl.sorted t && t.all (fun p => decide (p.2 ≠ d))

/-- Bits [lo + n - 1 : lo] of a word. -/
def bits (w lo n : Nat) : Nat := (w >>> lo) % 2 ^ n

/-- Bit `i` of a word, as a truth value. -/
def bit (w i : Nat) : Bool := w.testBit i

/-- 1 for true, 0 for false. -/
def b2n (b : Bool) : Nat := if b then 1 else 0

/-- A mask word with bit `i` set. -/
def setBit (w i : Nat) : Nat := w ||| 2 ^ i

/-- A word with the bits of mask `m` (below 2^32) cleared. -/
def clearMask (w m : Nat) : Nat := w &&& ((2 ^ 32 - 1) ^^^ (m &&& (2 ^ 32 - 1)))

/-- The bits of `w` that are 0 in `old` and 1 in `w`, for 32-bit words. -/
def risen (old w : Nat) : Nat := clearMask w old

/-- The set bits of the low `n` bits, in ascending order. -/
def bitList (w n : Nat) : List Nat := (List.range n).filter (fun i => w.testBit i)

/-- Word with the bits of `l` set. -/
def maskOf (l : List Nat) : Nat := l.foldl setBit 0

/-- The number whose two's complement in `n` bits is `w`. -/
def sx (n w : Nat) : Int :=
  if w % 2 ^ n < 2 ^ (n - 1) then ((w % 2 ^ n : Nat) : Int) else ((w % 2 ^ n : Nat) : Int) - (2 ^ n : Nat)

/-- The two's complement of `i` in `n` bits. -/
def tc (n : Nat) (i : Int) : Nat := (i % ((2 ^ n : Nat) : Int)).toNat

/-- `i` limited to lo..hi. -/
def clampI (lo hi i : Int) : Int := if i < lo then lo else if hi < i then hi else i

/-- Count up, saturating at `m`. -/
def satAdd (m a b : Nat) : Nat := min m (a + b)

/-- The low `n` bytes of `v`, least significant first. -/
def le (n v : Nat) : List Byte := (List.range n).map (fun i => BitVec.ofNat 8 (v >>> (8 * i)))

/-- The low `n` bytes of `v`, most significant first. -/
def be (n v : Nat) : List Byte := (le n v).reverse
/-- The number whose big-endian bytes are given. -/
def fromBe (l : List Byte) : Nat := l.foldl (fun n b => 256 * n + b.toNat) 0
/-- `l` cut or padded with zeros to `n` bytes. -/
def fitBytes (n : Nat) (l : List Byte) : List Byte := (l ++ List.replicate n 0).take n

/-- The number whose little-endian bytes are given. -/
def fromLe : List Byte → Nat
  | [] => 0
  | b :: t => b.toNat + 256 * fromLe t

/-- Floor of `a / b` for whole numbers (0 for `b` = 0). -/
def floorDiv (a b : Int) : Int := a.fdiv b

/-- Round `a / b` to the nearest whole number, a half away from zero, for `b` > 0. -/
def roundDiv (a b : Int) : Int :=
  if a < 0 then - ((2 * (-a) + b) / (2 * b)) else (2 * a + b) / (2 * b)

end Sys2Proof
end

