-- ==== Sys2Proof/Machine/Units.lean ====
section
/-! DEFINITION. The records State is made of, one per kind of unit: plain data, every field at its reset value by
default. A register field that the specification computes from other state has no field here. -/

namespace Sys2Proof.Machine

/-- The module modes (02_modes_and_startup.md R34), numbered by `Mode.code`. -/
inductive Mode where
  | off | safe | ready | cal | run | service
deriving DecidableEq, Repr

/-- The power stage before and after t0 (02 R40, R48): off, in soft start, in regulation. -/
inductive Stage where
  | off | starting | on
deriving DecidableEq, Repr

/-- The burst states of a site (02 R38), numbered by `Burst.code`. -/
inductive Burst where
  | idle | armed | running | draining | aborted
deriving DecidableEq, Repr

/-- What leaves the module at its lands, in the order it leaves (latest first in `State.outs`). -/
inductive Out where
  /-- an MSI-X message on a vector of a function (16 R338) -/
  | msix (fn vector : Nat)
  /-- a DMA write with a function's requester ID (15 R327) -/
  | dma (fn addr : Nat) (data : List Byte)
  /-- the data of a completed register or aperture read -/
  | word (fn value : Nat)
  /-- Unsupported Request to a function under reset (16 R339) -/
  | unsupported (fn : Nat)
  /-- a PMBus reply, least significant byte first (03 R61) -/
  | smbus (data : List Byte)
  /-- a PMBus command or datum not acknowledged (03 R61) -/
  | nack
  /-- a message sent as MCTP over SMBus or through a DOE mailbox: path, then bytes (16 R350, 17 R355, R366) -/
  | message (path : Nat) (data : List Byte)
  /-- a BSYNC_OUT slot and the TT of its reference point (04 R80) -/
  | bsync (slot at_ : Nat)
  /-- a TRIG_OUT pulse, from and to in fine steps (04 R83) -/
  | pulse (line from_ to_ : Nat)
  /-- the bytes a master's read of bank memory returns (15 R309) -/
  | bank (master : Nat) (data : List Byte)
  /-- bits shifted out of the JTAG register (19 R413) -/
  | jtag (value : Nat)
deriving DecidableEq, Repr

/-- The common page header (05_register_pages.md R90 to R93). -/
structure Hdr where
  en : Bool := true
  lock : Bool := false
  resetBusy : Bool := false
  retired : Bool := false
  irqStatus : Nat := 0
  irqEnable : Nat := 0
  errCount : Nat := 0
  lastCode : Nat := 0
  owner : Nat := 16
  vector : Nat := 0
deriving DecidableEq, Repr

/-- GLB registers and the power-up record (02 R37, 05 GLB registers). -/
structure Glb where
  mode : Mode := .safe
  busy : Bool := true
  target : Mode := .ready
  warmup : Bool := true
  pwrWarn : Bool := false
  lastReject : Nat := 0
  /-- GLB_SAFE_CAUSE bits 0 to 9 as numbered there; bit 10 LIFECYCLE is read from OTP -/
  cause : Nat := 1
  pwrOk : Bool := false
  pllLock : Bool := false
  fwOk : Bool := false
  fwSlot : Bool := false
  bmemClear : Bool := false
  hbmClear : Bool := false
  mcLoaded : Bool := false
  retireLoaded : Bool := false
  calLoaded : Bool := false
  calDefault : Bool := false
  bootMs : Nat := 0
  /-- GLB_HOST_TIME as committed (0 not set) and the uptime of the commit -/
  hostMs : Nat := 0
  hostAt : Nat := 0
  /-- GLB_BCAST_GROUP records of the owner function, by 16 × g + word -/
  groups : Tbl Nat := []
  /-- READY has been entered since power-up -/
  readied : Bool := false
  /-- uptime of PWR_GOOD, and of the setting of WARMUP -/
  goodAt : Nat := 0
  warmAt : Nat := 0
  /-- WARMUP samples taken, one every 10 ms, and those of the last 60 s, latest first: for each region the sum of its
  six CLU_TEMP values in 1/1,024 °C -/
  warmN : Nat := 0
  warmTemps : List (List Int) := []
  /-- uptime of the latest of them -/
  warmLast : Nat := 0
  /-- uptime (root edges) of the last accepted mode request (02 R52) -/
  reqAt : Option Nat := none
  /-- a BUSY transition entered by a SAFE cause or owner request (not power-up) -/
  toSafe : Bool := false
  /-- the REQUEST cause is to be set when the SAFE transition completes (02 R49) -/
  safeReq : Bool := false
  /-- SERVICE to READY with a committed Deldivel image awaiting activation (02 R35): passes through SAFE and boot -/
  reboot : Bool := false
  /-- a committed Deldivel image awaits activation -/
  fwCommitted : Bool := false
  /-- BUSY belongs to the power-up sequence, or to its part after an activation: BOOT_READY ends it -/
  seq : Bool := true
  /-- solder links down: bit d as in HLTH_LINK_RETRY_d (01 R20) -/
  linksDown : Nat := 0
deriving DecidableEq, Repr

/-- A PCIe error a function reports by AER (16 R340): a host access that failed, a request under reset, a TLP that failed
its IDE integrity check. -/
inductive AerReport where
  | hostError | unsupportedRequest | ideCheckFailed
deriving DecidableEq, Repr

/-- An access to a function's MSI-X capability or to its BAR 4 (16 R337, R338): MSI-X enabled or disabled, a vector unmasked,
a 4-byte write or read of the table and the pending bit array. -/
inductive MsixAccess where
  | enable (on : Bool)
  | unmask (v : Nat)
  | write (off val : Nat)
  | read (off : Nat)
deriving DecidableEq, Repr

/-- A BAR: its bytes, whether it is 64-bit, whether it is prefetchable (16 R337). -/
structure Bar where
  bytes : Nat
  wide : Bool := true
  prefetch : Bool := false
deriving DecidableEq, Repr

/-- What the capability structures of an endpoint's functions advertise (16 R335): link rate in 0.1 GT/s and widths,
payload and read-request sizes, tags, features, power states. -/
structure PcieCaps where
  rate : Nat := 320
  rateMin : Nat := 25
  widths : List Nat
  payload : List Nat := [128, 256, 512]
  readReq : List Nat := [128, 256, 512, 1024, 2048, 4096]
  tagBits : Nat := 10
  outstanding : Nat := 768
  ari : Bool := true
  firstVf : Nat := 1
  vfStride : Nat := 1
  totalVfs : Nat
  aer : Bool := true
  doe : Bool := true
  ideSelective : Bool := true
  ats : Bool := false
  pri : Bool := false
  pasid : Bool := false
  peerToPeer : Bool := false
  aspmL0s : Bool := false
  aspmL1 : Bool := false
  l1Substates : Bool := false
  d3hot : Bool := true
  noSoftReset : Bool := false
deriving DecidableEq, Repr

/-- What the spec keeps apart for each PCIe function: staging, snapshots, counters, queue windows, push staging,
MSI-X, held completions (05 R88, R89; 15 R321, R325, R333; 16 R338, R339). -/
structure Fn where
  /-- staged low words by page × 4,096 + offset of the _LO register (05 R88) -/
  stage : Tbl (Option Nat) := []
  /-- read snapshots by page × 4,096 + offset of the _LO register (05 R88) -/
  snap : Tbl Nat := []
  bcastSkip : Nat := 0
  deniedCount : Nat := 0
  deniedOff : Nat := 0
  deniedWrite : Bool := false
  descSel : Nat := 0
  desc0 : Nat := 0
  desc1 : Nat := 0
  desc2 : Nat := 0
  desc3 : Nat := 0
  descErr : Nat := 0
  pushSel : Nat := 0
  push : Tbl (Option Nat) := []
  msixOn : Bool := false
  /-- vectors whose mask bit is 0: every vector is masked after reset (PRESUMED: PCIe) -/
  msixOpen : Tbl Bool := []
  msixPend : Tbl Bool := []
  /-- words 0 to 2 of the MSI-X table entries (address low, address high, data), by 4 × vector + word (16 R337) -/
  msixTable : Tbl Nat := []
  /-- PCIe errors reported by AER on the function (16 R340, 17 R357) -/
  aer : List AerReport := []
  inReset : Bool := false
  /-- completion entries waiting for room: (queue, entry bytes), oldest first (15 R321) -/
  held : List (Nat × List Byte) := []
deriving DecidableEq, Repr

/-- One barrier of a site (08 R171). -/
structure Barrier where
  count : Nat := 0
  arrived : Nat := 0
  lastTT : Nat := 0
  gen : Nat := 0
  /-- completions: (generation, C, TT at which it is or was delivered, delivered) -/
  done : List (Nat × Nat × Nat × Bool) := []
deriving DecidableEq, Repr

/-- One hardware queue descriptor (15 R317) and, for a segment queue, its slip (08 R166). -/
structure QDesc where
  base : Nat := 0
  log2 : Nat := 0
  head : Nat := 0
  tail : Nat := 0
  owner : Nat := 0
  type : Nat := 0
  enable : Bool := false
  ownerFn : Bool := false
  released : Bool := false
  irqEn : Bool := false
  vector : Nat := 0
  slip : Nat := 0
  /-- lengths in slots of the records held by a stream queue, oldest first (15 R318, R324) -/
  recs : List Nat := []
  /-- uptime at which each waiting entry of a command queue became visible, oldest first (15 R324, 18 R399) -/
  shown : List Nat := []
deriving DecidableEq, Repr

/-- An entry of the ERR log (18 R392). -/
structure ErrEntry where
  code : Nat := 0
  /-- the SITE byte: site in [3:0], bit 4 set when attributable to none -/
  site : Nat := 16
  ty : Nat := 0
  inst : Nat := 0
  transient : Bool := false
  permanent : Bool := false
  seq : Nat := 0
  firstTT : Nat := 0
  lastTT : Nat := 0
  count : Nat := 1
  detail : Nat := 0
  open_ : Bool := true
deriving DecidableEq, Repr

/-- The ERR page and log (18 R392 to R395, R401). -/
structure ErrLog where
  queue : Nat := 0
  valid : Bool := false
  /-- entries not yet mirrored, oldest first -/
  ring : List ErrEntry := []
  /-- number of the next entry (wraps at 2^16); its low 12 bits are ERR_TAIL.INDEX -/
  nextSeq : Nat := 0
  /-- number of the next entry to mirror; its low 12 bits are ERR_HEAD.INDEX -/
  headSeq : Nat := 0
  lost : Nat := 0
  /-- errors missed since the last ERR_LOST entry, with first and last TT -/
  missed : Nat := 0
  missFirst : Nat := 0
  missLast : Nat := 0
  /-- the reserve of 1,024 waiting errors, in order of arrival -/
  reserve : List ErrEntry := []
  /-- uptime (in fine steps) of the last new entry -/
  lastWrite : Option Nat := none
  lastCode : Nat := 0
  lastTy : Nat := 0
  lastInst : Nat := 0
deriving DecidableEq, Repr

/-- A module histogram of the HLTH page (18 R399, R402). -/
structure ModHist where
  run : Bool := false
  shift : Nat := 0
  bins : Tbl Nat := []
  minV : Nat := 0xFFFFFFFFFFFFFFFF
  maxV : Nat := 0
  count : Nat := 0
  sum : Nat := 0
deriving DecidableEq, Repr

/-- The HLTH page (18 R402). -/
structure Hlth where
  retries : Tbl Nat := []
  cmdlat : ModHist := { run := true, shift := 6 }
  qdepth : ModHist := {}
  queue : Nat := 0
  /-- accepted latencies not yet binned, in ns, oldest first; uptime of the last QDEPTH sample (R399) -/
  lat : List Nat := []
  sampledAt : Nat := 0
deriving DecidableEq, Repr

/-- A HIST unit (18 R396, R397, R403). -/
structure Hist where
  run : Bool := false
  sat : Bool := false
  kind : Nat := 0
  lane : Nat := 0
  comp : Bool := false
  dir : Nat := 2
  input : Nat := 0
  dac : Nat := 0
  raw : Bool := false
  origin : Int := 0
  width : Nat := 1
  bins : Tbl Nat := []
  minV : Int := 0x7FFFFFFFFFFFFFFF
  maxV : Int := -0x8000000000000000
  count : Nat := 0
  sum : Int := 0
  /-- values of the source not yet binned, oldest first -/
  feed : List Int := []
deriving DecidableEq, Repr

/-- Transients of one unit still in a 10 s window (TT, latest first) and its retirement (18 R383, R384). -/
structure Fault1 where
  times : List Nat := []
  retired : Bool := false
deriving DecidableEq, Repr

/-- The BMEM page, the background tester and port tokens (15 R308, R309, R311, R331). -/
structure Bmem where
  collide : Nat := 0
  conflict : Nat := 0
  testEn : Bool := true
  interval : Nat := 10
  passes : Nat := 0
  abandoned : Nat := 0
  fails : Nat := 0
  shadowHits : Nat := 0
  /-- region borrowed now, last borrowed, next in the pass -/
  active : Bool := false
  region : Nat := 0
  next : Nat := 0
  /-- uptime of the last region start -/
  startAt : Option Nat := none
  /-- the march runs on the borrowed region (cleared when a write abandons it) -/
  marching : Bool := false
  /-- regions to test again after the last region of the pass -/
  retest : List Nat := []
  /-- words that failed once, to be tested again in the next pass -/
  suspect : List Nat := []
  /-- last winner of each bank's port A (0 to 12) and port B (0 to 3) -/
  winA : Tbl Nat := []
  winB : Tbl Nat := []
deriving DecidableEq, Repr

/-- An HBM stack (15 R313 to R316, R332). -/
structure Hbm where
  cleared : Bool := false
  selfRefresh : Bool := false
  bp : Bool := false
  failed : Bool := false
  eccCorr : Nat := 0
  eccUncorr : Nat := 0
  served : Tbl Nat := []
  demand : Tbl Nat := []
  degFail : Bool := false
  degAcq : Bool := false
  degHost : Bool := false
  /-- queue traffic, class 1, is under back-pressure (15 R315, R316) -/
  bpQueue : Bool := false
  events : Nat := 0
  temp : Int := 0
  doubleRefresh : Bool := false
deriving DecidableEq, Repr

/-- The 48 V input and the PWR page (03 R53 to R63). -/
structure Pwr where
  /-- the PWR_EN land -/
  en : Bool := false
  /-- input voltage now, mV -/
  vin : Nat := 0
  /-- the undervoltage lockout: released at 34 V rising, engaged below 32 V (02 R40) -/
  uvlo : Bool := true
  ov : Bool := false
  oc : Bool := false
  ot : Bool := false
  shed : Bool := false
  /-- PWR_VIN, PWR_IIN, PWR_PIN, PWR_GROUP_POWER_g as last refreshed -/
  mv : Nat := 0
  ma : Nat := 0
  mw : Nat := 0
  groups : Tbl Nat := []
  /-- READ_TEMPERATURE_1 of each PMBus page as last refreshed, 1/1,024 °C -/
  temps : Tbl Int := []
  cntUv : Nat := 0
  cntOv : Nat := 0
  cntOc : Nat := 0
  cntOt : Nat := 0
  /-- load shedding steps 1 and 2 of R46 taken, step 3 not yet -/
  shedDue : Bool := false
  /-- PWR_EN went low: the power stage is to stop (02 R50); uptime of the edge -/
  stopDue : Bool := false
  stopAt : Nat := 0
  /-- the analog dies have been unpowered during this SAFE (02 R45, R47) -/
  analogOff : Bool := false
  /-- no new NOR erase or program (02 R46, R49) -/
  norHold : Bool := false
deriving DecidableEq, Repr

/-- Clocks and the CLK page (03 R64 to R73). -/
structure Clk where
  refclkOk : Bool := false
  locked : Bool := false
  holdover : Bool := false
  ttAligned : Bool := false
  /-- TT root count modulo 400 at ACLK rising edges -/
  phase : Nat := 0
  ppm : Int := 0
  cntLoss : Nat := 0
  cntUnlock : Nat := 0
  /-- uptime of the first PLL lock: the common root edge of the dividers (03 R65) -/
  lockAt : Nat := 0
  /-- a REFCLK fault not yet ended by REFCLK_RETURN -/
  refLost : Bool := false
deriving DecidableEq, Repr

/-- One TRIG_IN line (04 R82). -/
structure TrigIn where
  en : Bool := false
  edge : Nat := 0
  routeAcq : Bool := false
  routeEng : Bool := false
  routeQ : Bool := false
  owner : Nat := 16
  queue : Nat := 0
  stamp : Nat := 0
  last : Option Nat := none
  seq : Nat := 0
  stamped : Nat := 0
  lost : Nat := 0
  /-- stamps on their way to the engines, oldest first (08 R168) -/
  flight : List Nat := []
deriving DecidableEq, Repr

/-- One TRIG_OUT line (04 R83). -/
structure TrigOut where
  en : Bool := false
  src : Nat := 0
  sel : Nat := 0
  polarity : Bool := false
  owner : Nat := 16
  offset : Nat := 32768
  width : Nat := 16384
  pulses : Nat := 0
  dropped : Nat := 0
  late : Nat := 0
  /-- end of the previous pulse -/
  lastEnd : Option Nat := none
  /-- events not yet turned into pulses, oldest first: TT the pulse begins at, and whether its event came late -/
  events : List (Nat × Bool) := []
deriving DecidableEq, Repr

/-- The Benest frame sync bus (04 R74 to R81, R84). -/
structure Sync where
  lock : Bool := false
  /-- consecutive valid slots before lock, consecutive slots without a valid frame in lock -/
  good : Nat := 0
  bad : Nat := 0
  slewing : Bool := false
  /-- a clock fault has come since the LOAD whose slew runs: TT_ALIGNED waits for a new LOAD (03 R72) -/
  stale : Bool := false
  /-- uptime of the LOAD, or of the slew's last step (R79) -/
  slewAt : Nat := 0
  /-- uptime (root edges) of the last accepted LOAD, and the root ticks it moved TT by (R80) -/
  loadAt : Option Nat := none
  loadBy : Int := 0
  staged : Bool := false
  stage40 : Nat := 0
  loadReject : Nat := 0
  rxEn : Bool := true
  echoEn : Bool := true
  loadEn : Bool := true
  startEn : Bool := true
  delay : Nat := 0
  target : Nat := 0
  current : Nat := 0
  crcErr : Nat := 0
  loads : Nat := 0
  starts : Nat := 0
  stops : Nat := 0
  ignored : Nat := 0
  trigIn : Tbl TrigIn := []
  trigOut : Tbl TrigOut := []
deriving DecidableEq, Repr

/-- The SMBus target: PMBus and MCTP (03 R61, R62; 16 R349, R350). -/
structure Smb where
  page : Nat := 0
  /-- STATUS_INPUT, STATUS_CML (module) and STATUS_TEMPERATURE per page, as PMBus numbers their bits -/
  stInput : Nat := 0
  stCml : Nat := 0
  stTemp : Tbl Nat := []
  eid : Nat := 0
deriving DecidableEq, Repr

/-- The test access port (19 R413, R414). -/
structure Jtag where
  ir : Nat := 1
  /-- the boundary register: value preloaded for the 12 lands -/
  preload : Nat := 0
  /-- what the lands are held to: none for their functions, a value, or released -/
  hold : Option Nat := none
  released : Bool := false
deriving DecidableEq, Repr

/-- A region: thermal state, microcode copy and reloads (07 R144, R151; 19 R417, R418). -/
structure Rgn where
  shutdown : Bool := false
  warn : Bool := false
  cool : Bool := false
  temp : Int := 0
  source : Nat := 0
  /-- the seven sensors as last read, and the uptime of that reading -/
  sensors : Tbl Int := []
  sampledAt : Option Nat := none
  /-- RGN_LOADER_STATUS, RGN_MC_VERSION -/
  loaderState : Nat := 0
  slot : Bool := false
  fallback : Bool := false
  /-- engines whose control stores hold the running image: LOADED of them -/
  holding : List Nat := []
  lastErr : Nat := 0
  version : Nat := 0
  /-- engines whose reload the loader performs or queues, in order, and the start of the first (07 R144) -/
  reloads : List Nat := []
  reloadAt : Nat := 0
  /-- step 5 of an install: control stores loaded so far, whether it has begun, and the uptime the next load began
  (07 R148, R149) -/
  instN : Option Nat := none
  instOn : Bool := false
  instAt : Nat := 0
deriving DecidableEq, Repr

/-- A segment that ended under 06 R105: only its next block on each channel is still judged (08 R158). -/
structure Ended where
  segId : Nat := 0
  mask : Nat := 0
  eff : Nat := 0
  next : Nat := 0
deriving DecidableEq, Repr

/-- The resume token (07 R142) with the stacks kept inside the engine. -/
structure Token where
  upc : Nat := 0
  ustack : List Nat := []
  pdepth : Nat := 0
  cls : Nat := 0
  live : Bool := false
  op : Nat := 0
  ipoff : Nat := 0
  uc0 : Nat := 0
  uis : Nat := 0
  z : Bool := false
  neg : Bool := false
  carry : Bool := false
  /-- the site of its segment -/
  site : Option Nat := none
deriving DecidableEq, Repr

/-- A site: grants, burst state, barriers (02 R38, 08 R152 to R173, 16 R341 to R352). -/
structure Site where
  vfOn : Bool := false
  logEn : Bool := true
  st : Burst := .idle
  srcFrame : Bool := false
  frameArmed : Bool := false
  /-- T_s of a pending start, fine steps -/
  pendStart : Option Nat := none
  /-- T_s of the burst in progress -/
  startT : Nat := 0
  abortCause : Nat := 0
  lastReject : Nat := 0
  burstCount : Nat := 0
  /-- TT of ABORTED entry t_a, and whether its abort point A has passed -/
  abortT : Option Nat := none
  abortDone : Bool := false
  /-- a pending or passed cut: its T in fine steps -/
  cut : Option Nat := none
  /-- engines of the site are to be counted stopped once they are; FCU and ACQ flushed markers -/
  drainT : Nat := 0
  acqFlushed : Bool := false
  lclkDiv : Nat := 40
  /-- divider in force since the last LCLK tick, and the root count of that tick -/
  lclkNow : Nat := 40
  lclkLast : Option Nat := none
  group : Nat := 0
  lateHiz : Bool := false
  lead : Nat := 1000
  tether : Nat := 500
  teMask : Nat := 0
  qBase : Nat := 0
  qCount : Nat := 0
  logQ : Nat := 0
  logQValid : Bool := false
  cplQ : Nat := 0
  cplQValid : Bool := false
  /-- SITE_BCAST_GROUP records by 16 × g + word -/
  groups : Tbl Nat := []
  /-- round-robin pointer of queue placement (08 R160) -/
  rr : Nat := 0
  barriers : Tbl Barrier := []
  /-- log entries dropped by a full log queue: count, first and last TT (15 R321) -/
  logLost : Nat := 0
  lostFirst : Nat := 0
  lostLast : Nat := 0
  /-- end of lane restoration after a cluster step (14 R288): a burst may start only after it -/
  restoreT : Nat := 0
  /-- FIRST_N count of the burst and capture mode, site wide (11 R236, R237) -/
  fcuMode : Nat := 0
  firstCount : Nat := 0
  firstDone : Bool := false
  /-- segments that ended under R105 in this burst -/
  ended : List Ended := []
deriving DecidableEq, Repr

/-- A MEM_GRANT in progress: where its completion goes, and the units it moves (15 R327). -/
structure Grant where
  cq : Nat := 0
  tag : Nat := 0
  /-- uptime at which the command became visible (18 R399) -/
  seen : Nat := 0
  holder : Nat := 16
  bank : Bool := false
  first : Nat := 0
  count : Nat := 0
deriving DecidableEq, Repr

/-- Queue manager state that is not a descriptor or per function (15 R333). -/
structure Qmgr where
  /-- a MEM_GRANT clearing its units (15 R312, R327) -/
  grant : Option Grant := none
  ready : Bool := false
  /-- the function whose command was taken last (01 R26) -/
  lastFn : Nat := 17
  dbDrop : Nat := 0
  stealLocal : Nat := 0
  stealRemote : Nat := 0
deriving DecidableEq, Repr

/-- One block of a segment for one channel (08 R153). `group` is the segment's CH_MASK: the FCU closes a record over
the segment's channels (11 R228). -/
structure Block where
  tt : Nat := 0
  segId : Nat := 0
  seq : Nat := 0
  syms : List Nat := []
  tss : List Nat := []
  holdv : List Bool := []
  engine : Nat := 0
  site : Nat := 0
  group : Nat := 0
deriving DecidableEq, Repr

/-- An entry of a FIFO's posting record (08 R155). -/
structure PostRec where
  segId : Nat := 0
  next : Nat := 0
  lastTT : Nat := 0
deriving DecidableEq, Repr

/-- A format register TG_FMT_t (09 R184, R186). -/
structure Fmt where
  format : Nat := 0
  cmode : Bool := false
  dscript : Nat := 0
  escript : Nat := 0
deriving DecidableEq, Repr

/-- A driver edge waiting for its placed time (09 R181, R188): `base` is the time without CAL; action 0 low, 1 high,
2 toggle on the data path, 0 off, 1 on on the enable path. -/
structure PEdge where
  base : Int := 0
  /-- CAL term in force at its placed time, when that has passed and the term then changed (09 R194) -/
  cal : Option Int := none
  ui : Nat := 0
  enable : Bool := false
  e : Nat := 0
  act : Nat := 0
deriving DecidableEq, Repr

/-- A compare event waiting for its time (09 R187): open and close (equal for a strobe) without CAL, UI start, UI in
block, symbol, block. -/
structure CmpEv where
  open_ : Int := 0
  close : Int := 0
  /-- CAL terms in force at the placed open and close times, when the term has changed since (09 R194) -/
  calO : Option Int := none
  calC : Option Int := none
  window : Bool := false
  ui0 : Nat := 0
  k : Nat := 0
  sym : Nat := 0
  holdv : Bool := false
  engine : Nat := 0
  site : Nat := 0
  segId : Nat := 0
  seq : Nat := 0
  group : Nat := 0
  /-- UIs of the event's block -/
  uis : Nat := 64
  masked : Bool := false
  /-- FCU EN when the block was released (05 R92) -/
  fcu : Bool := true
deriving DecidableEq, Repr

/-- A judged compare event on its way to its destinations (11 R226). `viol` is the first violating instant. -/
structure CmpRes where
  due : Int := 0
  at_ : Int := 0
  ev : CmpEv := {}
  pass : Bool := true
  capt : Bool := false
  ch : Bool := false
  cl : Bool := false
  viol : Int := 0
deriving DecidableEq, Repr

/-- A stamped crossing of a comparator output (11 R222): comparator false CH, true CL. -/
structure Cross where
  tt : Nat := 0
  cl : Bool := false
  rising : Bool := false
  /-- stamped while CMP EN is 0: judged, but not given to ACQ or HIST (05 R92) -/
  hid : Bool := false
deriving DecidableEq, Repr

/-- The block a channel plays: next UI, whether its UIs have no effect (TG EN = 0, free run), mask taken at release. -/
structure Play where
  blk : Block := {}
  k : Nat := 0
  inert : Bool := false
deriving DecidableEq, Repr

/-- A level-queue entry (10 R214). -/
structure LvlEntry where
  dac : Nat := 0
  code : Nat := 0
  stamp : Nat := 0
deriving DecidableEq, Repr

/-- Calibration of a channel (14 R280, R295): timing terms of drive data, enable, compare (internal and plane), level
gains and offsets by DAC, PMU force and measure gains and offsets by range; what is in force and what waits. -/
structure CalTerms where
  drive : Int := 0
  enable : Int := 0
  compare : Int := 0
  /-- spine terms of the channel's cluster, and the plane delay τ of R292 -/
  spDrive : Int := 0
  spEnable : Int := 0
  spCompare : Int := 0
  tau : Int := 0
  /-- region temperature at which the spine terms and the other terms were measured; the other terms come from FACTORY
  (14 R293, R300) -/
  spAt : Int := 0
  at_ : Int := 0
  factory : Bool := false
  gain : Tbl Int := []
  off : Tbl Int := []
  pmu : Tbl Int := []
deriving DecidableEq, Repr

/-- A channel: digital slice and analog channel, TG, CMP, PE and LVL pages (08 R153 to R159, 09, 10, 11). -/
structure Chan where
  /-- uptime of the last read-back of the analog configuration (18 R387) -/
  readAt : Nat := 0
  -- timing generator and formatter
  drvSkew : Int := 0
  cmpSkew : Int := 0
  perInt : Nat := 4096
  perFrac : Nat := 0
  symLo : Nat := 0x76543210
  symHi : Nat := 0x77777A98
  frRun : Bool := false
  frAnch : Bool := false
  frTs : Nat := 0
  frSym : Nat := 1
  frM0 : Nat := 0
  frU : Nat := 0
  /-- UI starts of the run are offset by this much after a TIME_LOAD (09 R192) -/
  frShift : Int := 0
  frStop : Bool := false
  conflict : Bool := false
  tsInv : Bool := false
  overlap : Bool := false
  calStale : Bool := false
  edges : Tbl Nat := []
  fmts : Tbl Fmt := []
  /-- the previous effective symbol the burst began with (06 R121) -/
  prev : Nat := 2
  /-- the latest UI each segment of this burst has produced: the segment's effective start, the UI's start, its effective
  symbol (06 R121) -/
  tails : List (Nat × Nat × Nat) := []
  -- pin event FIFO
  fifo : List Block := []
  posted : List PostRec := []
  /-- blocks (SEG_ID, SEQ) of this burst that have arrived by their deadline, held or dropped (08 R158) -/
  inTime : List (Nat × Nat) := []
  spans : List (Nat × Nat) := []
  play : Option Play := none
  /-- blocks released lately, latest first: what an address lane of a BITMAP read shows 320 ns later (11 R238) -/
  hist : List Block := []
  pfLogged : Bool := false
  flying : List Block := []
  -- formatter state
  high : Bool := false
  en : Bool := false
  pedges : List PEdge := []
  /-- a Hi-Z sequence has removed the driver enable: later driver edges are suppressed (09 R189) -/
  noDrive : Bool := false
  lastData : Option Int := none
  lastEn : Option Int := none
  -- compare logic
  outCH : Bool := false
  outCL : Bool := false
  crossings : List Cross := []
  cmpEvs : List CmpEv := []
  results : List CmpRes := []
  fcuEn : Bool := true
  captSrc : Bool := false
  failSeen : Bool := false
  mask : Bool := false
  maskNow : Bool := false
  /-- CMP_MASK.MASK as the most recent block was released (11 R246) -/
  maskRel : Bool := false
  /-- FCU EN as the block in play was released (05 R92) -/
  fcuNow : Bool := true
  hard : Bool := false
  failCount : Nat := 0
  countSat : Bool := false
  lastPass : Bool := false
  mValid : Bool := false
  reps : Nat := 0
  tdcCh : Bool := false
  tdcCl : Bool := false
  tdcEdge : Nat := 0
  -- pin electronics
  full : Bool := true
  drvMode : Nat := 0
  term : Bool := false
  clamp : Bool := false
  /-- a driver range change in progress: its start (uptime), and the DRV_MODE, TERM_EN and CLAMP_EN of the write that
  take effect with it -/
  rangeAt : Option Nat := none
  ctrlNext : Option (Nat × Bool × Bool) := none
  loadMode : Nat := 0
  pmuMode : Nat := 0
  pmuConn : Bool := false
  pmuSense : Bool := false
  pmuRange : Nat := 4
  /-- a PMU range change in progress: its start (uptime), whether the old stage has opened, applied DAC 9 code held -/
  pmuAt : Option Nat := none
  pmuOld : Bool := false
  /-- the range left by the change -/
  pmuWas : Nat := 4
  pmuHold : Nat := 0
  /-- MADC samples of the lane carry RANGING until this uptime -/
  rangingTo : Nat := 0
  compliance : Bool := false
  senseFb : Bool := false
  owEn : Bool := false
  owDir : Bool := false
  owCur : Nat := 0
  vchAct : Bool := false
  vclAct : Bool := false
  vchSeen : Bool := false
  vclSeen : Bool := false
  protHi : Bool := false
  protLo : Bool := false
  clEvents : Nat := 0
  conPol : Bool := false
  conCur : Nat := 1
  conAt : Option Nat := none
  conRes : Nat := 0
  -- levels
  codes : Tbl Nat := []
  lvlq : List LvlEntry := []
  lvlFly : List LvlEntry := []
  /-- DACs the latest LCLK tick set, and its uptime (10 R219) -/
  lvlSet : List Nat := []
  lvlSetAt : Nat := 0
  lvlOver : Bool := false
  lvlLate : Bool := false
  lvlDrop : Nat := 0
  -- Hi-Z sequence in progress (true: with the level-DAC step of SAFE entry)
  hiz : Option Bool := none
  /-- a Hi-Z sequence that starts at the abort point of the site (08 R159); true: with the level-DAC step -/
  hizDue : Option Bool := none
  /-- held Hi-Z: retired slice waiting for its spare, or retired channel (01 R13, R14) -/
  held : Bool := false
  /-- the hold of R13 or R14 starts at the abort point its fault has set -/
  outDue : Bool := false
  -- calibration
  cal : CalTerms := {}
  calNext : Option CalTerms := none
  /-- uptime since which the pending coefficients wait, or of the last step of a gradual move -/
  calNextAt : Nat := 0
  /-- what waited before the run that measured the pending coefficients, and since when: it waits again if that run is
  abandoned (14 R289) -/
  calOld : Option (CalTerms × Nat) := none
  calSlew : Bool := false
  /-- difference between the raw code at a DAC and the corrected one during a gradual move, by DAC; TT root count of the
  LCLK tick it last moved at -/
  rawLag : Tbl Int := []
  rawAt : Option Nat := none
deriving DecidableEq, Repr

/-- A frame of the pattern stack (06 R111): a loop frame holds its remaining count. -/
structure Frame where
  loop : Bool := false
  count : Nat := 0
  off : Nat := 0
deriving DecidableEq, Repr

/-- A segment as the queue manager placed it: its 64 descriptor bytes, the queue it came from and that queue's site,
its effective start (08 R166), and what a re-execution needs (08 R175): the previous effective symbols of its channels
at its first UI and the conditions it has resolved. -/
structure Seg where
  raw : List Byte := []
  queue : Nat := 0
  site : Nat := 0
  eff : Nat := 0
  prev0 : Option (List Nat) := none
  resolved : Nat := 0
  /-- blocks an execution that was abandoned had posted (07 R143) -/
  posted : Nat := 0
  /-- the segment fail flag and the latest compare event since the last resolution, whichever engine posted the block
  (06 R115) -/
  fail : Bool := false
  lastCmp : Int := 0
  /-- results of hold-vector compares of the segment: UI, passed, instant (11 R227) -/
  holds : List (Nat × Bool × Int) := []
deriving DecidableEq, Repr

/-- A conditional instruction that has not yet led to its exit (06 R115, 08 R167 to R169). `kind` 1 MATCH, 2 JMPF,
3 SYNC on a barrier, 4 SYNC on a trigger line. `sel` is the barrier or line, `gen` the generation waited for. -/
structure Cond where
  kind : Nat := 1
  u0 : Nat := 0
  timeout : Nat := 0
  target : Nat := 0
  sense : Bool := false
  sel : Nat := 0
  gen : Nat := 0
  /-- MATCH: compare events of repetitions not yet delivered: repetition and instant -/
  ats : List (Nat × Int) := []
  /-- TT at which the engine began to wait -/
  since : Nat := 0
  /-- next repetition the match combiner delivers, and repetitions in which a position failed -/
  rep : Nat := 0
  fails : List Nat := []
  /-- the resolution: continue after the instruction (true) or at TARGET, t_d, E -/
  res : Option (Bool × Int × Int) := none
deriving DecidableEq, Repr

/-- The event a handler serves: class (3 SYNC, 4 MATCH, 5 TRIGGER), its flag, line and stamp. -/
structure Evt where
  cls : Nat := 0
  flag : Bool := false
  line : Nat := 0
  stamp : Nat := 0
deriving DecidableEq, Repr

/-- Blocks of the segment's channels under assembly: effective symbols by position, timesets, HOLDV (07 R134). -/
structure Asm where
  syms : List (List Nat) := []
  tss : List Nat := []
  holdv : List Bool := []
deriving DecidableEq, Repr

/-- A tin engine: its deque, current segment, datapath, events and TE page (07, 08 R160 to R163). -/
structure Eng where
  deque : List Seg := []
  /-- the re-queue slot: pushed at the tail (true) or the head (07 R143) -/
  slot : Option (Bool × Seg) := none
  /-- last victim in each region, and the rest of the probing pass (08 R162) -/
  victim : Tbl Nat := []
  order : List Nat := []
  /-- CCLK cycle of the engine's last probe, and of the last steal from its deque (08 R162, R176) -/
  probeAt : Option Nat := none
  lostAt : Option Nat := none
  /-- site of the previous segment; none: the engine cannot vouch for it (01 R31) -/
  lastSite : Option Nat := none
  cur : Option Seg := none
  /-- the segment is being taken: descriptor checks and scrub still to come -/
  taking : Bool := false
  /-- execution begins at this TT -/
  beginAt : Nat := 0
  segId : Nat := 0
  upc : Nat := 0
  ustack : List Nat := []
  uc0 : Nat := 0
  z : Bool := false
  neg : Bool := false
  carry : Bool := false
  gr : Tbl Nat := []
  op : Nat := 0
  ir : Nat := 0
  ipoff : Nat := 0
  fetch : Nat := 0
  ipnext : Nat := 0
  staging : List Nat := []
  pstack : List Frame := []
  /-- scan bit stream, codes still to expand, decompressor table -/
  stream : List Bool := []
  codes : List Nat := []
  table : Option (List Nat) := none
  curTs : Nat := 0
  /-- instructions dispatched since the segment started or last produced a UI -/
  spin : Nat := 0
  uis : Nat := 0
  plain : Nat := 0
  posted : Nat := 0
  asm : Asm := {}
  full : Option Asm := none
  /-- effective symbols of the segment's last UI by position, empty before its first (06 R121) -/
  prevs : List Nat := []
  /-- codes of the UI being written, and lane-UIs written of the current instruction (micro level) -/
  lanes : List Nat := []
  laneDone : Nat := 0
  /-- a multi-UI instruction under way: UIs it has produced -/
  job : Option Nat := none
  cond : Option Cond := none
  /-- the barrier generation the segment's latest arrival joined (08 R171) -/
  joined : Nat := 0
  /-- the segment fail flag (06 R115), and the latest compare event of a non-hold UI delivered since the last resolution -/
  fail : Bool := false
  lastCmp : Int := 0
  mdone : Bool := false
  mflag : Bool := false
  sflag : Bool := false
  handler : Bool := false
  evt : Evt := {}
  /-- what EVT reads as: a free value taken at entry of a handler -/
  evtWord : Nat := 0
  token : Token := {}
  /-- the machine check whose reload waits or runs: its code, site and address (07 R144, 18 R383) -/
  reloadCode : Nat := 0
  reloadSite : Option Nat := none
  reloadAddr : Nat := 0
  pendSync : Bool := false
  pendMatch : Option Bool := none
  pendTrig : Tbl (Option Nat) := []
  /-- out of the pool for a reload (07 R144) -/
  reload : Bool := false
  /-- the pattern-cache line a stalled word waits for -/
  miss : Option Nat := none
  stealMade : Nat := 0
  stealSuf : Nat := 0
  mcPar : Nat := 0
  mcDisp : Nat := 0
  mcUstk : Nat := 0
  mcScan : Nat := 0
  scrubs : Nat := 0
  /-- ECLK cycles in STATE 1 to 4, and since when the engine has been in one -/
  busy : Nat := 0
  busyFrom : Option Nat := none
deriving DecidableEq, Repr

/-- Calibration of a lane: what CLU_CAL_TAP reports beside DUE, PENDING and RETIRED (14 R303), whether its next step is
applied gradually, and how its units fared. -/
structure LaneCal where
  deferred : Bool := false
  failed : Bool := false
  env : Bool := false
  gradual : Bool := false
  /-- the last step that measured the lane failed its timing terms; its last reflection failed -/
  sliceFailed : Bool := false
  reflFailed : Bool := false
  /-- the analog channel failed in the last run or sequence that measured it, the start of that run or sequence, and
  whether it had failed in the one before (14 R294) -/
  chFailed : Bool := false
  chAt : Nat := 0
  chBefore : Bool := false
deriving DecidableEq, Repr

/-- A cluster: slices, spare, temperature sensor, calibration tap (01 R13, R14; 14 R303). -/
structure Clu where
  /-- CLU_SLICE_STATUS.RETIRED -/
  retired : Nat := 0
  spareFor : Nat := 8
  /-- the lane whose retired slice waits for the spare (01 R13) -/
  spareWait : Option Nat := none
  temp : Int := 0
  lanes : Tbl LaneCal := []
  step : Bool := false
  /-- uptime (root edges) from which the step in progress measures -/
  stepAt : Nat := 0
  /-- lanes the step in progress covers, and the uptime (root edges) from which they are isolated -/
  isolated : Nat := 0
  isoAt : Nat := 0
  /-- the next step of the cluster is a recovery step -/
  recovery : Bool := false
  /-- previous results failed: spine, MADC -/
  spineFailed : Bool := false
  madcFailed : Bool := false
deriving DecidableEq, Repr

/-- What a conversion finds at its hold instant (12 R248, R250, R254): the lane's PMU range and mode and the measure
coefficients in force, whether it lies in a range change (RANGING), carries a pull current (OW), is unavailable (NA). -/
structure Probe where
  range : Nat := 0
  mode : Nat := 0
  pmu : Tbl Int := []
  ranging : Bool := false
  ow : Bool := false
  na : Bool := false
deriving DecidableEq, Repr

/-- A scan of an MADC: start edge, what was latched there, inputs still to convert, start of the conversion in
progress and what it found at its hold instant, once that has passed (12 R250). -/
structure Scan where
  start : Nat := 0
  mask : Nat := 0
  mon : Nat := 0
  spare : Nat := 0
  left : List Nat := []
  cstart : Nat := 0
  held : Option Probe := none
  seq : Nat := 0
deriving DecidableEq, Repr

/-- A pending gap: TT of the first lost record, records lost, its scan number (12 R256, 13 R276). -/
structure Gap where
  tt : Nat := 0
  n : Nat := 0
  seq : Nat := 0
deriving DecidableEq, Repr

/-- A measurement ADC (12). -/
structure Madc where
  run : Bool := false
  spare : Nat := 0
  mon : Nat := 3
  mask : Nat := 0
  src : Nat := 0
  period : Nat := 1000
  queue : Nat := 0
  qValid : Bool := false
  lost : Nat := 0
  empty : Nat := 0
  /-- result words, bit 28 FRESH -/
  results : Tbl Nat := []
  scan : Option Scan := none
  pending : Bool := false
  /-- a trigger that came at the completion at which the pending one starts its scan (12 R260) -/
  again : Bool := false
  /-- scans started since reset or owner change -/
  scans : Nat := 0
  /-- end of the last over-range conversion -/
  overEnd : Option Nat := none
  /-- records not yet moved to the queue, oldest first: (TT, word, input, scan number) -/
  recs : List (Nat × Nat × Nat × Nat) := []
  gap : Option Gap := none
  /-- coefficients in force: 2 × scale + (0 gain, 1 offset), scale 0 16 µV, 1 64 µV, 2 1/1,024 °C; waiting ones -/
  cal : Tbl Int := []
  calNext : Option (Tbl Int) := none
deriving DecidableEq, Repr

/-- A record of an ACQ unit: kind 0 EDGE, 1 SAMPLE, 2 MARK, 3 GAP (13 R265). -/
structure AcqRec where
  tt : Nat := 0
  data : Nat := 0
  info : Nat := 0
  kind : Nat := 0
  armSeq : Nat := 0
deriving DecidableEq, Repr

/-- A level crossing the trigger detector works on: its time, X_hi or X_lo, direction, when it is known, and whether
its time is interpolated (13 R267). -/
structure LvlCross where
  t : Int := 0
  hi : Bool := false
  rising : Bool := false
  avail : Int := 0
  interp : Bool := false
deriving DecidableEq, Repr

/-- A trigger and acquisition unit (13). -/
structure Acq where
  single : Bool := false
  run : Bool := false
  edgeEn : Bool := false
  sampleEn : Bool := false
  ty : Nat := 0
  slope : Nat := 0
  level : Bool := true
  cond : Nat := 0
  markId : Nat := 0
  fromMadc : Bool := false
  lane : Nat := 0
  input : Nat := 0
  line : Nat := 0
  markMask : Nat := 0
  thLo : Int := 0
  thHi : Int := 0
  limA : Nat := 4096000
  limB : Nat := 8192000
  pre : Nat := 0
  post : Nat := 32767
  queue : Nat := 0
  qValid : Bool := false
  ignored : Nat := 0
  gapCount : Nat := 0
  /-- 0 IDLE, 1 STREAM, 2 ARMING, 3 ARMED, 4 POST, 5 DRAIN -/
  state : Nat := 0
  spill : Bool := false
  lastEnd : Nat := 0
  armSeq : Nat := 0
  armT : Nat := 0
  runT : Nat := 0
  /-- STREAM ended at this TT: records before it are still delivered -/
  stopT : Option Nat := none
  /-- POST ended by DISARM -/
  cut : Bool := false
  postLeft : Nat := 0
  buf : List AcqRec := []
  gap : Option Gap := none
  /-- records on their way: (arrival instant, record), in order of arrival -/
  fly : List (Nat × AcqRec) := []
  /-- stamps the channels have delivered that still count toward their limit (lane, TT), and those the unit has accepted
  that count toward the cluster's (R263) -/
  recent : List (Nat × Nat) := []
  recentU : List Nat := []
  /-- crossings since the arm instant, oldest first; triggers declared so far; reference instant of TIMEOUT -/
  cross : List LvlCross := []
  declared : Nat := 0
  ref : Int := 0
  /-- the reference instant comes from interpolation (13 R265) -/
  refInterp : Bool := false
  /-- last sample of the trigger input: hold instant, value; hold instants of the samples since the arm instant, oldest
  first -/
  prev : Option (Nat × Int) := none
  holds : List Nat := []
  /-- pattern MARK events (TT, MARK_ID, arrival) in order of declaration: since the arm instant, or still to come while the
  unit is not armed; TRIG_IN stamps delivered since the arm instant -/
  marks : List (Nat × Nat × Nat) := []
  stamps : List Nat := []
deriving DecidableEq, Repr
/-- An open record of an FCU (11 R228 to R231): block, fails and captures so far. `fails` by lane × 64 + UI. -/
structure FcuRec where
  segId : Nat := 0
  seq : Nat := 0
  site : Nat := 0
  tt : Nat := 0
  group : Nat := 0
  /-- fails: (lane × 64 + UI, sparse entry) -/
  fails : Tbl Nat := []
  capts : Tbl Nat := []
  captUis : Nat := 0
  /-- UIs of the block -/
  uis : Nat := 64
  trunc : Bool := false
  /-- due time of the latest result of the block in the region: the cycle the record closes in (11 R233) -/
  last : Int := 0
  /-- the burst ended with the record open (11 R244) -/
  past : Bool := false
deriving DecidableEq, Repr

/-- The partition of one site in an FCU (11 R234 to R243). -/
structure FcuPart where
  sparseEn : Bool := true
  captEn : Bool := true
  n : Nat := 16777216
  queue : Nat := 0
  qValid : Bool := false
  units : Nat := 0
  level : Nat := 0
  /-- committed records waiting in the ring, oldest first: bytes of each -/
  ring : List (List Byte) := []
  /-- bitmap updates staged in the ring, oldest first: device address, bit (11 R238) -/
  ups : List (Nat × Nat) := []
  /-- the last update written to HBM, and whether its bit was set before: a read of its word that cannot be corrected loses
  it (15 R314) -/
  lastUp : Option (Nat × Nat × Bool) := none
  /-- bytes held by the ring -/
  fill : Nat := 0
  gap : Bool := false
  gapTT : Nat := 0
  gapRecs : Nat := 0
  gapFails : Nat := 0
  records : Nat := 0
  lost : Nat := 0
  noAddr : Nat := 0
  range : Nat := 0
  pseq : Nat := 0
  /-- the scramble table loaded for the site (256 bytes) -/
  table : Option (List Byte) := none
deriving DecidableEq, Repr

/-- A fail capture unit (11 R228 to R247). -/
structure Fcu where
  l1 : Nat := 4
  l2 : Nat := 7
  l0 : Nat := 2
  sumCount : Nat := 0
  lostCount : Nat := 0
  scrBase : Nat := 0
  parts : Tbl FcuPart := []
  recs : List FcuRec := []
deriving DecidableEq, Repr

/-- A CAL page: 0 to 3 the regions, 4 the module-wide sequence (14 R284 to R302). -/
structure Cal where
  auto : Bool := true
  refplane : Bool := true
  /-- CAL_STATUS.STATE -/
  state : Nat := 0
  lastOk : Bool := false
  /-- instance 4: the plane terms in force are those of FACTORY -/
  factory : Bool := false
  done : Nat := 0
  lastErr : Nat := 0
  count : Nat := 0
  failCount : Nat := 0
  lastTT : Nat := 0
  hostMs : Nat := 0
  deltaT : Nat := 2000
  tempRef : Int := 0
  /-- uptime of the end of the holdoff -/
  holdEnd : Nat := 0
  /-- uptime of the start of the run; of the last temperature evaluation; and, in root edges, of the start of the
  measurement in progress: the common step, or in the CAL sequence the region's cluster or channel -/
  startAt : Nat := 0
  evalAt : Option Nat := none
  stepAt : Nat := 0
  /-- a result of the run in progress failed -/
  failed : Bool := false
  /-- the common step of the run is done; clusters whose MADC part is done; clusters the run has yet to cover -/
  common : Bool := false
  madcDone : Nat := 0
  /-- lanes of the region (bit 8 × cluster-in-region + lane) that the run still owes -/
  todo : Nat := 0
  /-- the run belongs to a spare switch only: no common step -/
  spareOnly : Bool := false
  /-- coefficients of the run, and of the next one, are applied gradually (14 R297) -/
  gradual : Bool := false
  gradualNext : Bool := false
  /-- instance 4: a region shut down during the sequence -/
  spoiled : Bool := false
  /-- instance 4: plane delays measured in this sequence, and channels refused or failed -/
  planes : Tbl (Option Int) := []
  refused : Tbl Nat := []
deriving DecidableEq, Repr
/-- An open result frame of a producer: plaintext collected and how many records it is, uptime of its last record, its
FRAME_SEQ (17 R371). -/
structure Frm where
  pt : List Byte := []
  n : Nat := 0
  last : Nat := 0
  seq : Nat := 0
deriving DecidableEq, Repr

/-- What the security engine holds for a site (17). -/
structure SecSite where
  loaded : Bool := false
  loadId : Nat := 0
  /-- container key K (R363) and result key Kr (R368) -/
  key : List Byte := []
  kr : List Byte := []
  /-- result frames by kind × 256 + instance -/
  frames : Tbl Frm := []
  /-- the bound queue (R370) -/
  boundQ : Option Nat := none
  /-- burst allowance left, EXPIRY and REQUIRE_IDE of the container, digest of its header, DEST of the content -/
  allow : Nat := 0
  expiry : Nat := 0
  needIde : Bool := false
  /-- SITE_MASK and MIN_FW of its policy (R368) -/
  siteMask : Nat := 0
  minFw : Nat := 0
  digest : List Byte := []
  dest : Nat := 0
  len : Nat := 0
  /-- sealed registers, by window offset (R361) -/
  regs : List Nat := []
  /-- an UNLOAD waiting for its frames: uptime of its start, path and TAG of its response -/
  unload : Option (Nat × Nat × Nat) := none
deriving DecidableEq, Repr

/-- The CTR_DRBG of the security engine: key, counter block, requests since it was last seeded (17 R358). -/
structure Drbg where
  key : List Byte := []
  v : Nat := 0
  count : Nat := 0
deriving DecidableEq, Repr

/-- A selective IDE stream of a function (17 R357): 0 not keyed, 1 Secure, 2 Insecure. -/
abbrev IdeState := Nat

/-- What verifying a Deldivel image finds: its certificate carries the firmware-signing key usage, the SHA-384 of the root
certificate its chain ends in, and whether the signature verifies under the certificate's key (17 R374). -/
structure FwVerdict where
  usage : Bool := true
  root : List Byte := []
  sig : Bool := false
deriving DecidableEq, Repr

/-- A request to the Foyris DOE protocol: the mailbox it came to (255: one that was reset since, which gets no answer), its
bytes, and what verifying the image it names finds (17 R366). -/
structure Doe where
  fn : Nat := 0
  raw : List Byte := []
  sig : FwVerdict := {}
deriving DecidableEq, Repr

/-- An IDE_KM request over the SPDM session of a path (17 R357): a query, the programming of keys, the start and the stop of
the use of the programmed keys. -/
inductive IdeKm where
  | query (path : Nat)
  | keyProg (path : Nat) (keys : List Byte)
  | setGo (path : Nat)
  | setStop (path : Nat)
deriving DecidableEq, Repr

/-- The security engine and its SEC page (17 R382). -/
structure Sec where
  /-- SEC_SEALED_SITES -/
  sealedSites : Nat := 0
  sites : Tbl SecSite := []
  drbgOk : Bool := false
  identityOk : Bool := false
  lastErr : Nat := 0
  /-- the accepted transition in progress: its target state, the platform-key hash OTP will hold -/
  lcBusy : Option (Nat × List Byte) := none
  /-- holders whose granules are being zeroed under a new key -/
  wiping : List Nat := []
  /-- the random generator (R358) -/
  drbg : Drbg := {}
  /-- key epoch of each holder: which drawing of its XTS keys is in force; and that key pair, 64 bytes (R358) -/
  epochs : Tbl Nat := []
  xts : Tbl (List Byte) := []
  tActive : Nat := 0
  tSeen : Nat := 0
  extEn : Bool := true
  cMesh : Nat := 0
  cExt : Nat := 0
  cGlitch : Nat := 0
  cTemp : Nat := 0
  /-- IDE stream of each function -/
  ide : Tbl IdeState := []
  /-- keys IDE_KM programmed for the stream of each function -/
  ideKeys : Tbl (List Byte) := []
  ideFails : Nat := 0
  fwVersion : Nat := 0
  fwFloor : Nat := 0
  mcFloor : Nat := 0
  /-- host-time high-water HW as held at a bound; the largest GLB_HOST_TIME held since power-up; the stored bound S -/
  hw : Nat := 0
  hwSeen : Nat := 0
  bound : Nat := 0
  /-- LOAD_IDs assigned since power-up -/
  loads : Nat := 0
  /-- open SPDM sessions by path (functions 0 to 17; 18 MCTP), finished sessions among them -/
  sessions : Tbl Nat := []
  finished : Tbl Nat := []
  /-- image bytes collected by FW_RECOVER -/
  recover : List Byte := []
  /-- the Deldivel measurement the alias key was derived from; the alias key, empty when none is held (R354, R380) -/
  aliasOf : List Byte := []
  aliasKey : List Byte := []
  /-- LOADs that wait for HBM to be cleared (R40, R358); requests to a mailbox that handles another (R366), oldest first -/
  loadWait : List Doe := []
  doeWait : List Doe := []
deriving DecidableEq, Repr

/-- A microcode image as a slot or a loader holds it (07 R146): version, the 256 dispatch entries, the words. -/
structure McImage where
  version : Nat := 0
  dispatch : List Nat := []
  words : List Nat := []
deriving DecidableEq, Repr

/-- An engine's control store and dispatch table as the region loader wrote them: words of 128 data bits with 8 parity
bits above them, entries with their parity bit; a word or entry not listed is 0 (07 R126, R127, R131, R146). -/
structure CStore where
  words : List Nat := []
  entries : List Nat := []
deriving DecidableEq, Repr

/-- A word of a pattern-cache line: plain, or the ciphertext of a plaintext under a key pair at a device address (01
R32). -/
inductive LineWord where
  | plain (w : Nat)
  | sealed (key : List Byte) (addr w : Nat)
deriving DecidableEq, Repr

/-- A line of the pattern cache, 32 words of a 1 KiB line as read from HBM (07 R133, 15 R305). The line of a sealed site is
held as ciphertext under the key epoch `key` (01 R32). -/
structure CLine where
  site : Nat := 0
  line : Nat := 0
  key : Option Nat := none
  data : List LineWord := []
deriving DecidableEq, Repr

/-- The image NOR holds at the model's reset: entry words that dispatch or resume, one routine that halts (log entry 4). -/
def McImage.blank : McImage :=
  let safe := 2 ^ 127
  let none_ := 10 * 2 ^ 96
  let resume := safe + 7 * 2 ^ 124 + none_
  { dispatch := [0x1001, 0x5001, 0x5001, 0x1001, 0x5001, 0x1001, 0x1001, 0x5001] ++ List.replicate 7 0
      ++ [0x1001, 0x1001, 0x7001, 0x1001, 0x1001, 0x1001, 0x1001] ++ List.replicate 10 0 ++ [0x7001] ++ List.replicate 15 0
      ++ [0x5001, 0x5001] ++ List.replicate 206 0
    words := [safe + 5 * 2 ^ 124 + none_, safe + 6 * 2 ^ 56 + none_] ++ List.replicate 6 0
      ++ [resume] ++ List.replicate 7 0 ++ [resume] ++ List.replicate 7 0 ++ [resume] }

/-- A Deldivel image as a slot holds it (17 R374): IMAGE_VERSION and its bytes. -/
structure FwImage where
  version : Nat := 0
  bytes : List Byte := []
deriving DecidableEq, Repr

/-- The Deldivel image NOR holds at the model's reset: a body of one byte, the microcode signing key of scalar 4 (log entry
4). -/
def FwImage.blank : FwImage :=
  { bytes := [0x4B, 0x56, 0x46, 0x57] ++ le 2 1 ++ le 2 0 ++ le 4 0 ++ le 4 1 ++ List.replicate 1040 0
      ++ be 96 0x138251CD52AC9298C1C8AAD977321DEB97E709BD0B4CA0ACA55DC8AD51DCFC9D1589A1597E3A5120E1EFD631C63E1835CACAE29869A62E1631E8A28181AB56616DC45D918ABC09F3AB0E63CF792AA4DCED7387BE37BBA569549F1C02B270ED67
      ++ List.replicate 225 0 }

/-- The A and B slots of a record: none for a slot that is not valid, else its SEQ and contents (14 R298). -/
structure Slots (α : Type) where
  a : Option (Nat × α) := none
  b : Option (Nat × α) := none
deriving DecidableEq, Repr

/-- A slot of a record in NOR, field by field as the layout names them, its payload as what it stands for (14 R298). -/
structure RecSlot (α : Type) where
  magic : List Byte := []
  record : Nat := 0
  format : Nat := 0
  seq : Nat := 0
  length : Nat := 0
  payloadCrc : Nat := 0
  value : α
  commit : List Byte := []
  commitSeq : Nat := 0
  hdrCrc : Nat := 0
deriving DecidableEq, Repr

/-- The A and B slots of a record as NOR holds them: none for an erased slot (14 R298, R299). -/
structure RecSlots (α : Type) where
  a : Option (RecSlot α) := none
  b : Option (RecSlot α) := none
deriving DecidableEq, Repr

/-- A calibration record: the terms of channels, the coefficients of MADCs, temperature and host time (14 R298). -/
structure CalRec where
  chans : Tbl CalTerms := []
  madcs : Tbl (Tbl Int) := []
  tempRef : Int := 0
  hostMs : Nat := 0
  /-- PLANE: each channel's last outcome: 0 none or passed, 1 CAL_ENV, 2 CAL_REFLECT -/
  outcomes : Tbl Nat := []
deriving DecidableEq, Repr

/-- The SEC record (17 R365). -/
structure SecRec where
  bound : Nat := 0
  fwFloor : Nat := 0
  mcFloor : Nat := 0
  lcState : Nat := 2
  lcCounter : Nat := 1
  platform : List Byte := []
deriving DecidableEq, Repr

/-- The NOR die: records by ID (0 to 3 REGION, 4 PLANE, 5 FACTORY, 6 RETIRE, 7 SEC, 8 Deldivel), and the management
controller's writing of them. -/
structure Nor where
  cal : Tbl (RecSlots CalRec) := []
  factory : CalRec := {}
  /-- retired units, kind × 256 + index -/
  ret : RecSlots (List Nat) := {}
  sec : RecSlots SecRec := {}
  fw : Slots FwImage := { a := some (0, FwImage.blank) }
  mc : Tbl (Slots McImage) := []
  /-- the record being written, and record IDs waiting to be written, oldest first (14 R299) -/
  writing : Option Nat := none
  todo : List Nat := []
  /-- uptime of the last write of each calibration record; REGION records whose write waits for its 10 min -/
  last : Tbl (Option Nat) := []
  owed : List Nat := []
  /-- the Deldivel image being committed, whether into slot A (FW_RECOVER), path and TAG of its response -/
  fwStage : Option (FwImage × Bool × Nat × Nat) := none
  /-- the microcode image MC_INSTALL is committing: region mask, image, completion queue, TAG and uptime at which the
  command became visible -/
  mcStage : Option (Nat × McImage × Nat × Nat × Nat) := none
deriving DecidableEq, Repr

/-- One-time-programmable memory: lifecycle state and counter, platform-key hash, identity key (17 R354, R376). -/
structure Otp where
  lcState : Nat := 2
  lcCounter : Nat := 1
  /-- SHA-384 of the enrolled platform key, 0 for none -/
  platform : List Byte := be 48 0x728F0B1F7C8F999347DCA33C1964CF745779012692830EDC267075562DC31278439732D095AD7C6363EB54EB284BC8E4
  /-- SHA-384 of the device identity public key (RECIPIENT, 17 R362) -/
  device : List Byte := be 48 0xA19D4DB171B582EB8052B0CFE555E17894AA22D1C8A9770950697DD8F796D2FA4BF0A56AD80006B7EA08E1191F814B65
  /-- the private scalar of the identity key; none once it is erased (R354, R378) -/
  identity : Option Nat := some 1
  /-- SHA-384 of the Foyris root certificate (R374), and the Foyris lifecycle key (R377) -/
  root : List Byte := List.replicate 48 0
  foyris : List Byte := be 96 0x77A41D4606FFA1464793C7E5FDC7D98CB9D3910202DCD06BEA4F240D3566DA6B408BBAE5026580D02D7E5C70500C831C995F7CA0B0C42837D0BBE9602A9FC998520B41C85115AA5F7684C0EDC111EACC24ABD6BE4B5D298B65F28600A2F1DF1
deriving DecidableEq, Repr

/-- A 4-byte access of a function in its doorbell aperture (15 R323): a write of a value, or a read. -/
inductive BarAccess where
  | write (off val : Nat)
  | read (off : Nat)
deriving DecidableEq, Repr

/-- A bank-memory access of a master: master 0 to 12 on port A and 13 to 16 on port B in ring order, offset, the bytes
written (none: a read of `len` bytes); `got` holds what a read has returned so far (15 R307, R310). -/
structure BankReq where
  master : Nat := 0
  off : Nat := 0
  len : Nat := 32
  data : Option (List Byte) := none
  got : List Byte := []
deriving DecidableEq, Repr

end Sys2Proof.Machine
end

