-- ==== Sys2Proof/Syntax.lean ====
section
/-! DEFINITION. The commands the module takes: one constructor per row of the opcode table, with the operands a requester,
a bus or an event of the module gives. Events of the module's own units are commands too; a command whose condition does
not hold leaves the module as it is. Operands: `fn` PCIe function (0 owner, s + 1 site s, 17 the second endpoint's physical
function), `st` site, `q` queue, `ch` channel, `k` cluster, `r` region, `e` engine or endpoint, `ty inst` page, `val` the word
written. -/

namespace Sys2Proof

/-- The commands. -/
inductive Instr where
  /-- R40: Undervoltage lockout released with PWR_EN high (t0) starts power-stage soft-start with inrush limited. -/
  | powerUpStart (vin : Nat)
  /-- R40: Rails reach regulation: PWR_GOOD asserts, SAFE is entered with BOOT set, analog dies leave reset Hi-Z, and PLL lock, boot code and memory clearing start. -/
  | pwrGood (bifur : Bool) (smbAddr : Nat)
  /-- R64: The ROOTCLK PLL locks to REFCLK, TT starts at 0 and clocks switch to ROOTCLK derivation. -/
  | pllLock
  /-- R41: The PLL has not locked 2 ms after PWR_GOOD, so GLB_SAFE_CAUSE.CLOCK is set. -/
  | pllLockTimeout
  /-- R312: Hardware clearing of bank memory completes and BMEM_CLEAR is set. -/
  | bmemClearDone (ok : Bool)
  /-- R312: Hardware clearing of the HBM stacks completes, HBM_CLEAR is set and stalled reads proceed. -/
  | hbmClearDone (failed : Nat)
  /-- R374: Verification of the newest Deldivel slot ends: the image starts, the older slot is used as fallback, or FW_VERIFY is set. -/
  | fwVerifyDone (sigA sigB : Machine.FwVerdict)
  /-- R16: Once BMEM_CLEAR and FW_OK hold, the region loaders verify microcode, hold it in bank memory and load all control stores. -/
  | mcLoadDone (sigs : Nat)
  /-- R427: Retirement records are read from NOR and applied, and spare slices are assigned. -/
  | retireLoad
  /-- R300: The newest valid calibration slots are applied, or factory coefficients with CAL_DEFAULT set. -/
  | calLoad
  /-- R40: The power-up sequence ends: BOOT clears, BOOT_MS is written and READY is entered with WARMUP set. -/
  | bootReady
  /-- R45: The 10 ms sample of the region temperatures judges the 60 s spread condition for clearing WARMUP. -/
  | warmupSample
  /-- R45: 15 min after WARMUP was set, WARMUP clears. -/
  | warmupTimeout
  /-- R46: Input falls below 33 V: PWR_WARN and POWER are set, bursts abort with BURST_ABORT_POWER, SAFE is entered and no new NOR write starts. -/
  | powerFailWarning (vin : Nat)
  /-- R46: Within 50 us of the warning the module sheds load to 5 W, with HBM in self-refresh and the analog dies powered down. -/
  | loadShedDone
  /-- R47: Input rises to 34 V before lockout and PWR_WARN clears; the module stays in SAFE with POWER set. -/
  | powerWarnRelease (vin : Nat)
  /-- R48: Input falls below 32 V, the power stage stops and the module is OFF. -/
  | undervoltageLockout (vin : Nat)
  /-- R50: PWR_EN going low forces a shutdown handled like a power-fail warning. -/
  | pwrEnLow
  /-- R50: 2 ms after PWR_EN low, or earlier once no NOR write runs, the power stage stops; a new t0 may follow at once. -/
  | powerStageStop
  /-- R54: Input current above 11.0 A for 10 us logs PWR_OVERCURRENT, sets FATAL and takes the power-fail actions. -/
  | pwrOvercurrent
  /-- R55: Input rising through 77 V sets OV and POWER, logs PWR_OVERVOLTAGE and takes the power-fail actions. -/
  | pwrOvervoltage (vin : Nat)
  /-- R55: Input falling below 76 V clears PWR_STATUS.OV. -/
  | pwrOvRelease (vin : Nat)
  /-- R56: The power stage reaching 125 C logs PWR_OVERTEMP, sets OT and FATAL and takes the power-fail actions. -/
  | pwrOvertemp
  /-- R56: The power stage falling below 115 C clears PWR_STATUS.OT. -/
  | pwrOtClear
  /-- R61: Every 1 ms the telemetry values and PWR registers are refreshed. -/
  | telemetryRefresh (mv ma mw : Nat) (groups : List Nat) (temps : List Int) (ppm : Int)
  /-- R61: PMBus PAGE reads or selects the telemetry page; a value above 7 is NACKed. -/
  | page (v : Option Nat)
  /-- R62: PMBus CLEAR_FAULTS clears STATUS bits whose condition has ended and may release SMB_ALERT_N. -/
  | clearFaults
  /-- R61: PMBus CAPABILITY returns 0xD0. -/
  | capability
  /-- R61: PMBus read of the 77 V overvoltage limit. -/
  | vinOvFaultLimit
  /-- R61: PMBus read of the 33 V undervoltage warning limit. -/
  | vinUvWarnLimit
  /-- R61: PMBus read of the 32 V undervoltage fault limit. -/
  | vinUvFaultLimit
  /-- R61: PMBus read of the low byte of STATUS_WORD. -/
  | statusByte
  /-- R61: PMBus read of the status summary of the page. -/
  | statusWord
  /-- R61: PMBus read of the input warning and fault bits. -/
  | statusInput
  /-- R61: PMBus read of the over-temperature warning and fault bits. -/
  | statusTemperature
  /-- R61: PMBus read of the invalid-command, invalid-data and PEC-failure bits. -/
  | statusCml
  /-- R61: PMBus read of the input voltage. -/
  | readVin
  /-- R61: PMBus read of the input current. -/
  | readIin
  /-- R61: PMBus read of the temperature of the page's group. -/
  | readTemperature1
  /-- R61: PMBus read of the power of the page's group. -/
  | readPout
  /-- R61: PMBus read of the input power. -/
  | readPin
  /-- R61: PMBus read returning 0x44. -/
  | pmbusRevision
  /-- R61: PMBus read returning FOYRIS. -/
  | mfrId
  /-- R61: PMBus read returning the ordering code of the grade. -/
  | mfrModel
  /-- R61: An unsupported PMBus command, a write to a read-only command or a PEC mismatch is NACKed and sets STATUS_CML. -/
  | pmbusInvalid (kind : Nat)
  /-- R62: The module answers the SMBus Alert Response Address while it holds SMB_ALERT_N low. -/
  | smbusAlertResponse
  /-- R349: SMBus clock held low for more than 25 ms resets the interface and drops the transaction. -/
  | smbusTimeout
  /-- R71: A missing or off-frequency REFCLK sends the PLL into holdover, logs CLOCK_LOSS and enters SAFE. -/
  | clockLoss
  /-- R71: Phase error above 20 ps for 1 us with REFCLK valid sends the PLL into holdover, logs PLL_UNLOCK and enters SAFE. -/
  | pllUnlock
  /-- R72: The PLL relocks after a fault, holdover ends, LOCKED is set and TT_ALIGNED stays 0. -/
  | pllRelock
  /-- R42: An analog die with no valid link frame for 10 us puts its 48 channels in the power-up state. -/
  | analogLinkWatchdog (die : Nat)
  /-- R19: A solder-link transfer failing its CRC is retried in order and counted in HLTH. -/
  | linkRetry (d : Nat)
  /-- R20: 8 consecutive CRC failures put the link down: fatal fault, all channels Hi-Z, SAFE. -/
  | linkDown (d : Nat)
  /-- R49: GLB_MODE_CTRL request for SAFE, an orderly shutdown that needs FORCE from RUN unless every site is IDLE. -/
  | modeReqSafe (fn : Nat) (force : Bool)
  /-- R35: GLB_MODE_CTRL request for READY from SAFE, RUN, CAL or SERVICE, checked against causes, busy sites and FORCE. -/
  | modeReqReady (fn : Nat) (force : Bool)
  /-- R35: GLB_MODE_CTRL request for CAL from READY, rejected while any channel is free-running. -/
  | modeReqCal (fn : Nat)
  /-- R35: GLB_MODE_CTRL request for RUN from READY. -/
  | modeReqRun (fn : Nat)
  /-- R35: GLB_MODE_CTRL request for SERVICE from READY. -/
  | modeReqService (fn : Nat)
  /-- R35: A REQ of 0, 6 or 7, or a transition not in the table, is rejected with MODE_ILLEGAL. -/
  | modeReqIllegal (fn val : Nat)
  /-- R36: An accepted transition completes: MODE updates, BUSY clears, the GLB MODE cause is set and sites receive mode-change notice. -/
  | modeTransitionDone
  /-- R51: PERST_N asserted resets both endpoints, aborting or disarming sites and moving RUN to READY. -/
  | perstAssert
  /-- R68: Link-down of an endpoint, including loss of PCIE_REFCLK, acts as a reset of that endpoint. -/
  | pcieLinkDown (e : Nat)
  /-- R339: FLR, clearing VF Enable or D3hot to D0 resets a function, clearing its per-function state and aborting or disarming its site. -/
  | functionReset (fn how : Nat)
  /-- R339: The function reset completes within 10 ms and the function accepts requests again. -/
  | functionResetDone (fn : Nat)
  /-- R338: Unmasking a vector, or enabling MSI-X, with its pending bit set sends one message. -/
  | msixVectorUnmask (fn : Nat) (a : Machine.MsixAccess)
  /-- R87: A register write without a row of its own, handled under the access type, width, mapping, ownership and range checks. -/
  | regWrite (fn a be val : Nat)
  /-- R87: A read of an RC field returns the value and clears the field. -/
  | rcRead (fn a be : Nat)
  /-- R88: A write to a _LO register is staged for the writing function. -/
  | pairLoWrite (fn ty inst lo val : Nat)
  /-- R88: A write to a _HI register commits the staged low half with the high half, under the whole-value range rule. -/
  | pairHiCommit (fn ty inst lo val : Nat)
  /-- R88: A read of a _LO register, including CLK_TT_LO, captures the 64-bit value into the function's snapshot. -/
  | pairLoRead (fn ty inst lo : Nat)
  /-- R92: A BLK_CTRL write of EN = 0 stops the instance as its block defines, unless it is busy. -/
  | blkEnClear (fn ty inst : Nat)
  /-- R92: A BLK_CTRL write of EN = 1 lets the instance act again. -/
  | blkEnSet (fn ty inst : Nat)
  /-- R91: A BLK_CTRL write of SOFT_RESET = 1 starts a reset of the instance to its reset state, except BLK_OWNER. -/
  | blkSoftReset (fn ty inst : Nat)
  /-- R91: The soft reset completes within 10 us and RESET_BUSY clears. -/
  | softResetDone (ty inst : Nat)
  /-- R91: A BLK_CTRL write of LOCK = 1 locks every RWL field of the page. -/
  | blkLock (fn ty inst : Nat)
  /-- R93: A write of BLK_IRQ_SET sets the matching defined cause bits. -/
  | blkIrqSet (fn ty inst val : Nat)
  /-- R93: A write of BLK_IRQ_ENABLE enables causes and sends a message for an enable written while its cause is set. -/
  | blkIrqEnableWrite (fn ty inst val : Nat)
  /-- R90: A write of BLK_OWNER changes owner and vector under R29, R30 and R93, moving all four channel pages together. -/
  | blkOwnerWrite (fn ty inst val : Nat)
  /-- R94: A write to instance 0xE0 + g or 0xFF reaches its owned targets on one CCLK edge, skipping and counting the others. -/
  | broadcastWrite (fn ty inst off val : Nat)
  /-- R341: An owner-function write of SITE_CH_MASK_k grants or returns channels of the site. -/
  | siteChMaskWrite (fn st k val : Nat)
  /-- R342: An owner-function write of SITE_CLU_MASK grants or returns cluster MADC, ACQ and HIST units together. -/
  | siteCluMaskWrite (fn st val : Nat)
  /-- R343: An owner-function write of the site's engine mask, allowed only while the site is IDLE. -/
  | siteTeMaskWrite (fn st k val : Nat)
  /-- R344: A write of SITE_QUEUE_BASE or SITE_QUEUE_COUNT changes the site's queue range after overlap and enabled-queue checks. -/
  | siteQueueRangeWrite (fn st : Nat) (isCount : Bool) (val : Nat)
  /-- R38: SITE_BURST_CMD ARM takes an IDLE site to ARMED with start source HOST or FRAME. -/
  | burstArm (fn st : Nat) (frame : Bool)
  /-- R38: SITE_BURST_CMD DISARM returns an ARMED site to IDLE and cancels any pending start. -/
  | burstDisarm (fn st : Nat)
  /-- R346: SITE_BURST_CMD START names T from T24 and makes the start pending if it lies at least the lead time ahead. -/
  | burstStart (fn st t24 : Nat)
  /-- R173: SITE_BURST_CMD STOP sets a cut at arrival plus L and the DRAINING entry at once. -/
  | burstStop (fn st : Nat)
  /-- R38: SITE_BURST_CMD ABORT takes a RUNNING or DRAINING site to ABORTED with BURST_ABORT_HOST. -/
  | burstAbort (fn st : Nat)
  /-- R38: SITE_BURST_CMD ACK returns an ABORTED site to IDLE once its engines have stopped and its FIFOs are flushed. -/
  | burstAck (fn st : Nat)
  /-- R345: A SITE_BURST_CMD OP of 0 or 7 to 15 is rejected with PARAM_RANGE. -/
  | burstCmdInvalid (fn st op : Nat)
  /-- R347: At T_s minus L a site with a pending start enters RUNNING, increments its burst count and posts a completion. -/
  | burstRunEntry (st : Nat)
  /-- R174: A RUNNING site with no segment executing, queued or placeable enters DRAINING. -/
  | burstDrainEntry (st : Nat)
  /-- R173: At T minus L of a pending cut the site enters DRAINING, and blocks and descriptors beyond the cut are discarded. -/
  | stopDrainEntry (st : Nat)
  /-- R38: A DRAINING site whose FIFOs are empty and whose FCU and ACQ units are flushed enters IDLE and posts a completion. -/
  | burstIdleEntry (st : Nat)
  /-- R13: When the owning site is IDLE, the crossbar switches the spare slice in for a retired slice, with its configuration copied. -/
  | spareSwitch (k : Nat)
  /-- R76: A 64-bit BSYNC_IN frame slot is received: checked for preamble and CRC, decoded, discarded or ignored, and echoed. -/
  | bsyncFrameSlot (w : Nat)
  /-- R76: Four slots without a valid frame lose frame lock and log SYNC_LOSS. -/
  | syncLoss
  /-- R77: BSYNC NOP command, which does nothing. -/
  | bsyncNop
  /-- R79: TIME_LOAD STAGE stores the upper 40 bits of the root count and sets STAGED. -/
  | timeLoadStage (t40 : Nat)
  /-- R79: TIME_LOAD LOAD sets TT from the staged bits and SYNC_DELAY, then starts the phase slew, or is rejected. -/
  | timeLoadLoad (t24 : Nat)
  /-- R79: Each microsecond the ROOTCLK phase moves one fine step, and TT_ALIGNED is set when the slew completes. -/
  | phaseSlewStep
  /-- R77: BSYNC ARM marks the FRAME-armed sites of the group as frame-armed. -/
  | bsyncArm (g : Nat)
  /-- R78: BSYNC START_AT makes the start pending for each frame-armed site of the group, or rejects it as late. -/
  | startAt (g t40 : Nat)
  /-- R77: BSYNC STOP_AT sets a cut at the named time for the RUNNING sites of the group. -/
  | stopAt (g t40 : Nat)
  /-- R80: BSYNC PING is echoed with the module status in its payload. -/
  | ping
  /-- R82: An enabled TRIG_IN edge is stamped, or counted as lost, and routed to ACQ, engines and the stamp queue. -/
  | trigInEdge (line : Nat) (rising : Bool) (tt : Nat)
  /-- R83: A TRIG_OUT event emits a pulse at its TT plus the offset, or the pulse is dropped or emitted late. -/
  | trigOutPulse (line : Nat)
  /-- R83: A write of TRIG_OUT_n_CTRL.FIRE = 1 makes an event at the TT of the write. -/
  | trigOutFire (fn line : Nat)
  /-- R160: Each CCLK cycle the queue manager moves one released descriptor onto an engine deque, or leaves it waiting. -/
  | segmentPlace
  /-- R161: An idle engine pops the nearest head entry of a RUNNING site from its own deque. -/
  | dequePop (e : Nat)
  /-- R162: An engine with nothing to pop probes one victim tail per CCLK and steals it when stealable. -/
  | stealProbe (e : Nat)
  /-- R135: An engine takes a segment: descriptor checks, scrub when needed, state reset and start at microword 0x000. -/
  | segmentTake (e : Nat)
  /-- R163: An engine leaving the pool has its deque entries redistributed, one per CCLK, ahead of new placements. -/
  | dequeHandover (e : Nat)
  /-- R143: A segment in an engine's re-queue slot enters the deque in the first cycle an entry is free. -/
  | requeueSlotDrain (e : Nat)
  /-- R109: Instruction NOP, which produces nothing. -/
  | nop (e : Nat)
  /-- R109: Instruction VEC produces K UIs from its data words. -/
  | vec (e : Nat)
  /-- R109: Instruction RPT repeats one vector C times. -/
  | rpt (e : Nat)
  /-- R109: Instruction HOLD produces H UIs of symbol HOLD on every position. -/
  | hold (e : Nat)
  /-- R121: Instruction TSET sets the current timeset. -/
  | tset (e : Nat)
  /-- R118: Instruction LVL sends a DAC entry stamped with the next UI to one or all channels' level queues. -/
  | lvl (e : Nat)
  /-- R117: Instruction MARK produces an event at the next UI for TRIG_OUT lines and ACQ units. -/
  | mark (e : Nat)
  /-- R115: Instruction SYNC signals a barrier arrival and/or waits on a barrier or trigger under a hold vector. -/
  | sync (e : Nat)
  /-- R101: Instruction HALT pads to the block end, ends the segment, adds any slip and releases SUCC_QUEUE. -/
  | halt (e : Nat)
  /-- R110: Instruction JMP continues at TARGET. -/
  | jmp (e : Nat)
  /-- R115: Instruction JMPF branches on the segment fail flag under a hold vector. -/
  | jmpf (e : Nat)
  /-- R111: Instruction CALL pushes a call frame and continues at TARGET. -/
  | call (e : Nat)
  /-- R111: Instruction RET pops a call frame and continues at its offset. -/
  | ret (e : Nat)
  /-- R111: Instruction LOOP pushes a loop frame. -/
  | loop (e : Nat)
  /-- R111: Instruction ENDLOOP decrements the top loop frame and loops or pops it. -/
  | endloop (e : Nat)
  /-- R115: Instruction MATCH emits hold-vector repetitions until a repetition matches or the timeout passes. -/
  | matchVec (e : Nat)
  /-- R123: Instruction SCAN merges scan bits from the stream into a background vector. -/
  | scan (e : Nat)
  /-- R124: Instruction DECOMP expands coded bytes through the decompressor table into scan bits. -/
  | decomp (e : Nat)
  /-- R109: An opcode not in the table ends the segment with SEG_OPCODE. -/
  | invalidOpcode (e : Nat)
  /-- R129: A microword with SEQ NEXT acts and continues at the next address. -/
  | microNext (e : Nat)
  /-- R129: A microword with SEQ JUMP acts and continues at ADDR. -/
  | microJump (e : Nat)
  /-- R129: A microword with SEQ CJUMP acts and continues at ADDR when its condition holds. -/
  | microCjump (e : Nat)
  /-- R129: A microword with SEQ CALL pushes the return address on the micro-stack. -/
  | microCall (e : Nat)
  /-- R129: A microword with SEQ RET pops the micro-stack. -/
  | microRet (e : Nat)
  /-- R132: A microword with SEQ DISPATCH fetches the next instruction and dispatches after the dispatch checks. -/
  | microDispatch (e : Nat)
  /-- R129: A microword with SEQ ULOOP decrements UC0 and loops while it is nonzero. -/
  | microUloop (e : Nat)
  /-- R138: A microword with SEQ RESUME restores the resume token, unmasks interrupts and returns to the recorded word. -/
  | microResume (e : Nat)
  /-- R133: A pattern-cache line read from HBM completes and the stalled fetch word proceeds. -/
  | cacheMissFill (e : Nat)
  /-- R134: A completed block is posted to every channel's FIFO once there is room and the tethered gate allows it. -/
  | blockPost (e : Nat)
  /-- R138: A pending SYNC, MATCH or TRIGGER interrupt is taken at a SAFE word: token recorded, classes masked, handler entered. -/
  | engineInterruptTake (e : Nat)
  /-- R140: ABORT is taken: token recorded, partial blocks discarded and the segment ended. -/
  | abortTake (e : Nat)
  /-- R143: A parity or micro-stack machine check stops the engine, abandons the segment and decides its fate. -/
  | machineCheck (e kind : Nat)
  /-- R144: The 40 us control-store reload and read-back completes; the engine rejoins the pool or is retired. -/
  | reloadDone (e : Nat) (mismatch : Bool)
  /-- R145: Every 64 ECLK cycles an idle engine checks one control-store word's parity and starts a reload on error. -/
  | idleScan (e : Nat) (bad : Bool)
  /-- R154: A posted block reaches a pin event FIFO and is admitted, or dropped as late, duplicate or overlapping. -/
  | blockArrive (ch : Nat)
  /-- R158: At a block's deadline the slice checks its parity and the underrun rule is judged. -/
  | blockDeadline (ch segId seq : Nat) (parityBad : Bool)
  /-- R154: The FIFO releases a block to the timing generator at its TT. -/
  | blockRelease (ch : Nat)
  /-- R183: A UI begins on a channel, taking its effective symbol and timeset; an invalid timeset plays as HOLD. -/
  | uiStart (ch : Nat)
  /-- R188: A driver data or enable edge is applied at its placed time, or discarded under the spacing rule. -/
  | edgeApply (ch : Nat)
  /-- R223: At a strobe or window close the compare logic judges pass or fail, or capture, for the UI. -/
  | compareEvent (ch : Nat)
  /-- R222: A comparator output crossing is stamped by the TDC and sent to compare logic, ACQ and HIST. -/
  | comparatorCrossing (ch : Nat) (cl rising : Bool) (tt : Nat)
  /-- R226: 320 ns after the compare event the result reaches the FCU, counters, fail flag or match combiner. -/
  | compareResult (ch : Nat)
  /-- R227: The match combiner delivers a repetition result to the engine, resolving a MATCH or JMPF. -/
  | matchResult (e : Nat)
  /-- R168: A barrier completion is delivered to its waiting engines 8 ns after completion. -/
  | barrierComplete (st b : Nat)
  /-- R168: At T_out an unresolved SYNC or MATCH takes its timeout path. -/
  | condTimeout (e : Nat)
  /-- R191: A TG_FREERUN write with RUN = 1 starts a free run anchored to the TT grid. -/
  | freerunStart (fn ch ts sym : Nat)
  /-- R193: A TG_FREERUN write with RUN = 0 stops the free run at the end of the current UI. -/
  | freerunStop (fn ch ts sym : Nat)
  /-- R177: A TG_PERIOD_HI write commits the period, rejected below the grade minimum or while busy. -/
  | tgPeriodCommit (fn ch val : Nat)
  /-- R120: A TG_SYMMAP_HI write commits the symbol map. -/
  | tgSymmapCommit (fn ch val : Nat)
  /-- R182: A write of TG_EDGE_t_e or TG_FMT_t stores the value and recomputes VALID. -/
  | timesetWrite (fn ch t edge val : Nat)
  /-- R194: During gradual application a timing CAL term moves one fine step per microsecond, or a raw code one LSB per LCLK tick. -/
  | calSlewStep (ch : Nat) (levels : Bool)
  /-- R194: A free-running channel whose coefficients have waited 10 min sets CAL_STALE. -/
  | calStale (ch : Nat)
  /-- R426: A write of PE_CTRL is checked and sets driver mode, termination, clamps and range, starting a range change. -/
  | peCtrlWrite (fn ch val : Nat)
  /-- R201: At 5 us the new output stage connects and RANGE_BUSY clears. -/
  | driverRangeDone (ch : Nat)
  /-- R207: A write of PE_PMU_CTRL sets the PMU mode and connects or disconnects the PMU. -/
  | pePmuCtrlWrite (fn ch val : Nat)
  /-- R209: A write of PE_PMU_RANGE changes the range, make-before-break while connected. -/
  | pePmuRangeWrite (fn ch val : Nat)
  /-- R209: At 20 us of a PMU range change the old range's stage opens. -/
  | pmuOldStageOpen (ch : Nat)
  /-- R209: At 22 us the PMU range change settles, PMU_RANGING clears and RANGING ends. -/
  | pmuRangeDone (ch : Nat)
  /-- R207: A force-sense difference above 1.0 V for 10 us makes the PMU fall back to local sense. -/
  | pmuSenseFallback (ch : Nat)
  /-- R207: The PMU reaching its current or voltage limit starts a compliance episode. -/
  | pmuCompliance (ch : Nat) (x : Int)
  /-- R204: A programmable clamp starts to conduct and the cause CLAMP is set. -/
  | clampConduct (ch : Nat) (high on : Bool)
  /-- R205: A protective clamp conducting above 1 mA sets its status bit and PROT_CLAMP. -/
  | protClampConduct (ch : Nat) (high : Bool)
  /-- R217: A write of PE_CONTACT.START = 1 starts a contact test on a Hi-Z channel. -/
  | contactTestStart (fn ch pol cur : Nat)
  /-- R217: The contact test is judged and its result published at 60 us with CONTACT_DONE. -/
  | contactTestDone (ch : Nat) (mv : Int)
  /-- R212: A write of LVL_DAC_d stores the code and recomputes the applied and raw codes. -/
  | lvlDacWrite (fn ch d val : Nat)
  /-- R214: A write of LVL_QUEUE_PUSH adds a host entry stamped with its arrival TT, or is rejected when full. -/
  | lvlQueuePush (fn ch val : Nat)
  /-- R215: A write of LVL_QUEUE_CTRL.FLUSH = 1 empties the level queue without applying it. -/
  | lvlQueueFlush (fn ch : Nat)
  /-- R215: An engine level entry reaches a channel's queue and is inserted, dropped or marked late. -/
  | lvlEntryArrive (ch : Nat)
  /-- R214: At each LCLK tick of the site, due level-queue entries are applied, at most one per DAC. -/
  | lclkTick (st : Nat)
  /-- R228: A block's record closes, takes its form and degradation level, and is committed to the partition ring. -/
  | fcuRecordClose (r segId seq : Nat)
  /-- R235: Committed records, with any pending GAP first, move from the ring to the fail queue as it has room. -/
  | fcuRecordMove (r st : Nat)
  /-- R234: An owner write of FCU_P_SIZE resizes and clears a partition. -/
  | fcuPSizeWrite (fn r st val : Nat)
  /-- R236: A write of FCU_P_CTRL through any FCU window sets the site's mode in all four FCUs. -/
  | fcuPCtrlWrite (fn r st val : Nat)
  /-- R251: A write of MADC_CTRL.START = 1 is one scan trigger. -/
  | madcStart (fn k : Nat)
  /-- R251: A write of MADC_CTRL.RUN = 1 enables the automatic trigger source. -/
  | madcRunStart (fn k spare mon : Nat)
  /-- R252: A write of MADC_CTRL.RUN = 0 disables the automatic source and clears the pending trigger. -/
  | madcRunStop (fn k spare mon : Nat)
  /-- R251: A periodic trigger arrives at its TT and starts a scan, becomes pending or is lost. -/
  | madcPeriodicTrigger (k : Nat)
  /-- R250: A 1 us conversion ends: its result word is written, a record queued, and the scan continues or completes. -/
  | madcConversionDone (k : Nat) (raw : Int)
  /-- R388: A conversion not complete 2 us after its start logs MADC_FAULT and writes no result. -/
  | madcConversionTimeout (k : Nat)
  /-- R256: MADC records, with any pending gap first, are written to the stream queue when they fit. -/
  | madcRecordMove (k : Nat)
  /-- R270: A write of ACQ_ARM.ARM = 1 is checked and takes the unit to ARMING. -/
  | acqArm (fn k : Nat)
  /-- R275: A write of ACQ_ARM.DISARM = 1 disarms the detector or ends the capture as the state gives. -/
  | acqDisarm (fn k : Nat)
  /-- R268: A write of ACQ_ARM.FORCE = 1 while ARMED is a type-7 trigger at the TT of the write. -/
  | acqForce (fn k : Nat)
  /-- R270: At the live instant L = a + 128 ns the unit enters ARMED. -/
  | acqLive (k : Nat)
  /-- R272: A write of ACQ_CTRL.RUN = 1 in STREAM mode starts the stream. -/
  | acqRunStart (fn k : Nat)
  /-- R272: A write of ACQ_CTRL.RUN = 0 disarms the unit and ends the stream at the write's TT. -/
  | acqRunStop (fn k : Nat)
  /-- R264: An EDGE or SAMPLE record arrives and is written to the buffer under the rate limits, or lost into the gap. -/
  | acqRecordArrive (k : Nat)
  /-- R269: The detector declares a trigger at D, and it is accepted with a mark or ignored. -/
  | acqTriggerDeclare (k : Nat)
  /-- R276: Records move from the ACQ ring or capture buffer to the stream queue as it has room. -/
  | acqRingMove (k : Nat)
  /-- R274: A SINGLE capture's last record reaches the queue; DONE is set and the unit returns to IDLE. -/
  | acqCaptureDone (k : Nat)
  /-- R272: After RUN = 0 the unit returns to IDLE once its ring is empty and sets STOPPED. -/
  | acqStreamStopped (k : Nat)
  /-- R277: 500 ns after a site enters DRAINING or ABORTED its ACQ units count as flushed. -/
  | acqBurstFlush (st : Nat)
  /-- R285: Every 10 ms with AUTO set the region temperature move is evaluated and may make a run due. -/
  | calTempEval (r : Nat)
  /-- R285: A write of CAL_CTRL.START = 1 makes the region's internal run due. -/
  | calStart (fn idx : Nat)
  /-- R289: A write of CAL_CTRL.ABORT = 1 abandons the run in progress. -/
  | calAbort (fn idx : Nat)
  /-- R284: The VREF check and the spine-term measurements of the common step complete. -/
  | calCommonStepDone (r : Nat) (vref vbg : Int) (spine : List Int)
  /-- R286: A cluster step begins once its lanes are available: the MADC is held and the lanes are isolated. -/
  | calClusterStepStart (k : Nat)
  /-- R294: A cluster step ends: results are checked, coefficients applied or failed, and the lanes restored. -/
  | calClusterStepDone (k : Nat) (lanes : List (List Int)) (madc : List Int)
  /-- R285: 10 s after a failed run the temperature-trigger holdoff ends. -/
  | calHoldoffExpiry (r : Nat)
  /-- R291: The environment check of a cluster's channels completes, refusing channels with CAL_ENV. -/
  | calEnvCheckDone (k : Nat) (v : List (Int × Int × Int))
  /-- R292: The 256 reflection repetitions of a channel complete and give its plane term, or fail with CAL_REFLECT. -/
  | calReflectDone (ch : Nat) (sum spread : Int) (clean : Bool)
  /-- R290: The CAL sequence commits its records and leaves for READY with the new coefficients in force. -/
  | calSequenceDone
  /-- R299: An A/B slot write of a calibration, retirement, SEC or firmware record commits. -/
  | norRecordWriteDone
  /-- R387: Every 100 us the analog configuration is read back, and a mismatch logs ANALOG_FAULT and is rewritten. -/
  | analogReadback (ch : Nat) (bad again : Bool)
  /-- R417: Every 1 ms the seven region sensors are read, setting WARN or COOL. -/
  | thermalSensorSample (r : Nat) (temps : List Int)
  /-- R18: A sensor at 115 C shuts the region down: channels Hi-Z, engines out of the pool and sites aborted late. -/
  | regionThermalShutdown (r : Nat)
  /-- R417: A write of RGN_THERMAL_CTRL.REENABLE = 1 with COOL set ends the thermal shutdown. -/
  | reenable (fn r : Nat)
  /-- R309: A master's bank-memory access is arbitrated on its port and resolved against the other port. -/
  | bankAccess (l : List Machine.BankReq)
  /-- R311: Every INTERVAL ms the background tester borrows the next 64 KiB region into the shadow. -/
  | bmemTestRegionStart
  /-- R311: The march of a region ends and the region is restored from the shadow, logging failing words. -/
  | bmemMarchDone (fails : List Nat)
  /-- R314: An uncorrectable HBM read returns no data, is logged HBM_UNCORR and charged to the stack. -/
  | hbmUncorrRead (addr who idx j : Nat)
  /-- R324: A DB write with OP TAIL advances the tail of a segment or command queue after checks. -/
  | doorbellTail (fn q index : Nat)
  /-- R324: A DB write with OP HEAD advances the head of a stream, completion or log queue after checks. -/
  | doorbellHead (fn q index : Nat)
  /-- R324: A DB write with OP RELEASE sets RELEASED on a segment queue. -/
  | doorbellRelease (fn db : Nat)
  /-- R325: A write of PUSH_SEL selects the push queue and discards the staging entry. -/
  | pushSelWrite (fn : Nat) (a : Machine.BarAccess)
  /-- R325: Writes to PUSH stage bytes, and the byte-63 write appends a complete entry at TAIL. -/
  | pushWrite (fn off : Nat) (data : List Byte)
  /-- R319: QMGR_DESC_CMD OP READ copies a queue descriptor into QMGR_DESC_0 to 3. -/
  | descRead (fn : Nat)
  /-- R320: QMGR_DESC_CMD OP WRITE checks and writes a queue descriptor. -/
  | descWrite (fn : Nat)
  /-- R327: Management command NOP completes with no action. -/
  | cmdNop (q : Nat)
  /-- R327: Command COPY_IN copies host memory into module memory. -/
  | copyIn (q : Nat) (data : List Byte)
  /-- R327: Command COPY_OUT copies module memory to the host. -/
  | copyOut (q : Nat) (err : Option Nat)
  /-- R327: Command QUEUE_OUT copies whole entries from a queue's head to the host and advances HEAD. -/
  | queueOut (q : Nat) (err : Option Nat)
  /-- R171: Command BARRIER_SET sets a barrier's COUNT while the site is IDLE. -/
  | barrierSet (q : Nat)
  /-- R239: Command FCU_SCRAMBLE_LOAD loads a site's 256-byte scramble table. -/
  | fcuScrambleLoad (q : Nat)
  /-- R327: Command CAL_READ writes a channel's coefficient block to the host. -/
  | calRead (q : Nat) (err : Option Nat)
  /-- R148: Command MC_INSTALL checks, stores and loads a microcode image in SERVICE. -/
  | mcInstall (q : Nat) (key : List Byte)
  /-- R327: Command MEM_GRANT clears memory units and moves them to a new holder. -/
  | memGrant (q : Nat)
  /-- R326: A command entry with an unknown CODE completes with CMD_UNKNOWN. -/
  | cmdUnknown (q : Nat)
  /-- R321: A completion held while its queue was full is posted once a slot frees. -/
  | heldCompletionPost (fn : Nat)
  /-- R321: A full site log queue writes a LOST entry with its drop count when a slot frees. -/
  | logLostEntry (st : Nat)
  /-- R355: SPDM GET_VERSION request. -/
  | spdmGetVersion (path : Nat)
  /-- R355: SPDM GET_CAPABILITIES request. -/
  | spdmGetCapabilities (path : Nat) (req : List Byte)
  /-- R355: SPDM NEGOTIATE_ALGORITHMS request. -/
  | spdmNegotiateAlgorithms (path : Nat) (req : List Byte)
  /-- R355: SPDM GET_DIGESTS request. -/
  | spdmGetDigests (path : Nat)
  /-- R354: SPDM GET_CERTIFICATE returns the slot-0 chain. -/
  | spdmGetCertificate (path slot off len : Nat)
  /-- R355: SPDM CHALLENGE signed with the alias key. -/
  | spdmChallenge (path : Nat) (req : List Byte)
  /-- R356: SPDM GET_MEASUREMENTS returns the signed measurement blocks. -/
  | spdmGetMeasurements (path : Nat) (req : List Byte)
  /-- R355: SPDM KEY_EXCHANGE opens a session. -/
  | spdmKeyExchange (path : Nat) (req : List Byte)
  /-- R355: SPDM FINISH completes session setup. -/
  | spdmFinish (path : Nat) (ok : Bool)
  /-- R355: SPDM HEARTBEAT request. -/
  | spdmHeartbeat (path : Nat)
  /-- R355: SPDM KEY_UPDATE request. -/
  | spdmKeyUpdate (path : Nat)
  /-- R355: SPDM END_SESSION ends a session. -/
  | spdmEndSession (path : Nat)
  /-- R355: Any other SPDM request draws ERROR UnsupportedRequest. -/
  | spdmUnsupported (path : Nat)
  /-- R357: IDE_KM over a function's SPDM session programs the keys of its selective IDE stream. -/
  | ideKm (req : Machine.IdeKm)
  /-- R357: A TLP failing its IDE check is dropped, the stream becomes Insecure and IDE_FAIL is logged. -/
  | ideIntegrityFail (fn : Nat)
  /-- R350: MCTP control command Set Endpoint ID. -/
  | setEndpointId (op eid : Nat)
  /-- R350: MCTP control command Get Endpoint ID. -/
  | getEndpointId
  /-- R350: MCTP control command Get Endpoint UUID. -/
  | getEndpointUuid
  /-- R350: MCTP control command Get MCTP Version Support. -/
  | getMctpVersionSupport (type : Nat)
  /-- R350: MCTP control command Get Message Type Support. -/
  | getMessageTypeSupport
  /-- R350: Another MCTP control command is answered with ERROR_UNSUPPORTED_CMD, and other message types are discarded. -/
  | mctpUnsupported (type cmd : Nat)
  /-- R367: Foyris DOE LOAD checks and unseals a container into the site's HBM and returns a signed receipt. Its operands are
  the request's bytes in their four parts: the header dwords, SRC, LENGTH and DEST. -/
  | load (fn : Nat) (head src len dest : List Byte)
  /-- R369: Foyris DOE BIND writes sealed setup registers and bound descriptors for one burst. -/
  | bind (fn : Nat) (raw : List Byte)
  /-- R373: Foyris DOE UNLOAD flushes frames, destroys keys, clears sealed registers and re-keys the site. -/
  | unload (fn : Nat) (raw : List Byte)
  /-- R366: Foyris DOE STATUS returns LOAD_ID, bursts left, expiry, HW and the floors. -/
  | doeStatus (fn : Nat) (raw : List Byte)
  /-- R375: Foyris DOE FW_INSTALL checks a Deldivel image and commits it to the inactive NOR slot. -/
  | fwInstall (fn : Nat) (raw : List Byte) (sig : Machine.FwVerdict)
  /-- R375: Foyris DOE FW_RECOVER collects a recovery image and commits it to slot A at LAST. -/
  | fwRecover (fn : Nat) (raw : List Byte) (sig : Machine.FwVerdict)
  /-- R375: Foyris DOE FLOOR_COMMIT raises the firmware and/or microcode floor. -/
  | floorCommit (fn : Nat) (raw : List Byte)
  /-- R366: An unknown Foyris DOE OP completes with CMD_UNKNOWN. -/
  | doeUnknown (fn : Nat) (raw : List Byte)
  /-- R372: A sealed result frame closes when full or after 2 us without a record, and is written to its queue. -/
  | resultFrameClose (st kind inst : Nat)
  /-- R364: A commit of GLB_HOST_TIME sets host time and may raise HW. -/
  | glbHostTimeCommit (fn hi : Nat)
  /-- R364: Before HW passes S, S = HW + 10 min is written to the SEC record. -/
  | hwBoundWrite
  /-- R360: A write of SEC_SEALED_SITES seals or unseals sites and re-keys them. -/
  | secSealedSitesWrite (fn val : Nat)
  /-- R378: A write of SEC_LIFECYCLE_CMD checks the token and runs the lifecycle transition steps. The word is given by its
  fields: TO, TOKEN, and the reserved bits [7:3] and [31:27] together. -/
  | lifecycleTransition (fn to_ token rest : Nat)
  /-- R380: A tamper source fires: keys zeroized, electrum wiped, containers unloaded and SAFE entered. -/
  | tamper (src : Nat)
  /-- R390: A write of ERR_CTRL with CLR_KIND nonzero clears a unit's retirement in SERVICE. -/
  | retireClear (fn kind idx : Nat)
  /-- R393: An ERR entry closes 1 ms after its FIRST_TT and is copied to site log queues. -/
  | errEntryClose
  /-- R394: When a new entry can be written, waiting reserved errors are written, then the ERR_LOST entry. -/
  | errReserveWrite
  /-- R395: A closed entry is copied to the owner function's log queue as it has room and ERR_HEAD advances. -/
  | errMirror
  /-- R397: A value from the source enters its bin and the statistics are updated. -/
  | histSample (k : Nat)
  /-- R398: A write of HIST_CTRL.RUN = 1 starts collection. -/
  | histRunStart (fn k : Nat)
  /-- R398: A write of HIST_CTRL.RUN = 0 stops collection once BUSY drains. -/
  | histRunStop (fn k : Nat)
  /-- R403: A write of HIST_CTRL.CLEAR = 1 restores every statistic and bin. -/
  | histClear (fn k : Nat)
  /-- R399: A command's latency `ns` from visibility to completion enters the CMDLAT histogram. -/
  | cmdlatSample (ns : Nat)
  /-- R399: Every 1 us the selected queue's occupancy enters the QDEPTH histogram. -/
  | qdepthSample
  /-- R402: A write of HLTH_HIST_CTRL.CMD_CLEAR = 1 zeroes CMDLAT. -/
  | cmdClear (fn : Nat)
  /-- R402: A write of HLTH_HIST_CTRL.QD_CLEAR = 1 zeroes QDEPTH. -/
  | qdClear (fn : Nat)
  /-- R413: JTAG EXTEST drives and observes the 12 boundary lands while the mode is SAFE. -/
  | extest (seen drive : Nat)
  /-- R413: JTAG IDCODE selects the identification register. -/
  | idcode
  /-- R413: JTAG SAMPLE/PRELOAD observes the 12 lands without affecting them. -/
  | samplePreload (seen load : Nat)
  /-- R413: JTAG CLAMP holds the 12 lands at preloaded values while the mode is SAFE. -/
  | clampLands
  /-- R413: JTAG HIGHZ releases the outputs of the 12 lands while the mode is SAFE. -/
  | highz
  /-- R413: JTAG BYPASS, and every other code, selects the one-bit bypass register. -/
  | bypass (code : Nat)
  /-- R72: REFCLK returns within 200 ppm after a CLOCK_LOSS, REFCLK_OK sets and the PLL starts to relock. -/
  | refclkReturn
  /-- R40: Once PWR_GOOD is high and PERST_N is deasserted the endpoint trains and its link comes up, and the GLB, SEC and ERR pages start to answer the owner function. -/
  | pcieLinkUp (e : Nat)
  /-- R339: The host sets VF Enable with NumVFs, bringing up the site virtual functions, and SITE_CTRL.VF_PRESENT becomes 1. -/
  | vfEnableSet (pf num : Nat)
  /-- R37: The tamper loop closes again or the detector goes inactive, so SEC_TAMPER_STATUS.ACTIVE clears and GLB_SAFE_CAUSE.TAMPER becomes clearable. -/
  | tamperConditionEnd (src : Nat)
  /-- R44: The timed Hi-Z sequence completes with the PMU disconnected and, on SAFE entry, the level DACs at the zero code, so the channel reaches Hi-Z or the power-up state. -/
  | hizSequenceDone (ch : Nat)
  /-- R159: At A = t_a + 32 ns after ABORTED entry no further UI plays and each channel takes the state R39 gives (hold or Hi-Z, compares masked). -/
  | abortPoint (st : Nat)
  /-- R168: A TRIG_IN stamp reaches the engines of the owner's site 40 ns after the stamp and latches as a pending TRIGGER event, replacing an earlier untaken one. -/
  | triggerEventArrive (line : Nat)
  /-- R312: MEM_GRANT finishes zeroing the moved units, the grant takes effect and the completion is posted, ending the OWNER_CONFLICT rejection of the new holder. -/
  | memGrantDone
  /-- R148: The install finishes writing NOR and loading the 24 control stores, then updates RGN_MC_VERSION and RGN_LOADER_STATUS and posts the completion. -/
  | mcInstallDone
  /-- R378: The lifecycle transition finishes programming OTP, LC_BUSY clears and the cause LC_DONE is set. -/
  | lcDone
  /-- R358: The zeroing of a holder's HBM granules under its new AES-XTS key completes and SEC_STATUS.WIPING clears.
  Without a holder: an internal check of the security engine fails (R385; log entry 55). -/
  | rekeyDone (h : Option Nat)
  /-- R313: Every 1 ms each stack's temperature is refreshed in HBM_TEMP, and above 95 C the controller doubles the refresh rate. -/
  | hbmTempRefresh (t0 t1 t2 : Int × Nat)
  /-- R332: Each 100 us window ends: the bandwidth registers are updated, throttled classes are set in HBM_DEGRADE and EVENTS counts the window. -/
  | hbmBwWindow (idx : Nat) (served demand : List Nat) (thr : Nat) (bp : Bool)
deriving DecidableEq, Repr

end Sys2Proof
end

