-- ==== Sys2Proof/Config.lean ====
section
/-! DEFINITION. What the specification leaves open: opaque functions with no body. Nothing can be proved about a value
of theirs. -/

namespace Sys2Proof.Config

/-- A value the specification does not state, by the number of the use (log entry 5). -/
opaque freeValue : Nat → BitVec 64
/-- What the on-die entropy source gives, by the number of the use (17 R358). -/
opaque entropy : Nat → List Byte
/-- The SPDM slot-0 certificate chain for an alias public key X‖Y (17 R354). -/
opaque certChain : List Byte → List Byte
/-- The digest of the boot code (17 R356). -/
opaque bootDigest : List Byte
/-- The fields of an SPDM response that its standard gives and this specification does not: response code, draw, request. -/
opaque spdmBody : Nat → Nat → List Byte → List Byte
/-- The payload bytes of a calibration record, by record ID and the numbers it holds (14 R298), and of the RETIRE record, by
the retired units (18 R389). -/
opaque calPayload : Nat → List Int → List Byte
opaque retirePayload : List Nat → List Byte
/-- The module's MCTP endpoint UUID (16 R350). -/
opaque uuid : List Byte

end Sys2Proof.Config
end

