-- ==== Sys2Proof/Machine/Codes.lean ====
section
/-! DEFINITION. The module's fixed numbers: error codes (18_faults_and_health.md R391), block type codes
(05_register_pages.md R97), instance counts, times in fine steps. -/

namespace Sys2Proof.Code
abbrev paramRange : Nat := 0x1001
abbrev ownerConflict : Nat := 0x1002
abbrev blkBusy : Nat := 0x1003
abbrev accessDenied : Nat := 0x1004
abbrev regWidth : Nat := 0x1005
abbrev regUnmapped : Nat := 0x1006
abbrev regLocked : Nat := 0x1007
abbrev modeIllegal : Nat := 0x1008
abbrev modeBusy : Nat := 0x1009
abbrev modeCauseActive : Nat := 0x100A
abbrev svcMode : Nat := 0x100B
abbrev peConflict : Nat := 0x100C
abbrev peBusy : Nat := 0x100D
abbrev freerunMode : Nat := 0x100E
abbrev levelQueueFull : Nat := 0x100F
abbrev acqState : Nat := 0x1010
abbrev acqNoQueue : Nat := 0x1011
abbrev cmdUnknown : Nat := 0x1012
abbrev cmdFormat : Nat := 0x1013
abbrev cmdNoCq : Nat := 0x1014
abbrev burstBusy : Nat := 0x2001
abbrev burstNotArmed : Nat := 0x2002
abbrev burstMode : Nat := 0x2003
abbrev burstNoEngine : Nat := 0x2004
abbrev burstLateStart : Nat := 0x2005
abbrev burstSource : Nat := 0x2006
abbrev burstState : Nat := 0x2007
abbrev burstAbortLate : Nat := 0x2010
abbrev burstAbortHost : Nat := 0x2011
abbrev burstAbortSafe : Nat := 0x2012
abbrev burstAbortPower : Nat := 0x2013
abbrev segCrc : Nat := 0x3001
abbrev segFormat : Nat := 0x3002
abbrev segChannel : Nat := 0x3003
abbrev segRange : Nat := 0x3004
abbrev segSealed : Nat := 0x3005
abbrev segOpcode : Nat := 0x3006
abbrev segOperand : Nat := 0x3007
abbrev segStack : Nat := 0x3008
abbrev segSpin : Nat := 0x3009
abbrev segTether : Nat := 0x300A
abbrev segDecomp : Nat := 0x300B
abbrev edgeConflict : Nat := 0x4001
abbrev tsInvalid : Nat := 0x4002
abbrev pinOverlap : Nat := 0x4003
abbrev pinFreerun : Nat := 0x4004
abbrev calStale : Nat := 0x4005
abbrev levelDropped : Nat := 0x4006
abbrev pmuSense : Nat := 0x4007
abbrev acqTimeJump : Nat := 0x4008
abbrev calEnv : Nat := 0x5001
abbrev calRef : Nat := 0x5002
abbrev calClock : Nat := 0x5003
abbrev calPlaus : Nat := 0x5004
abbrev calReflect : Nat := 0x5005
abbrev hbmUncorr : Nat := 0x6001
abbrev bmemTestFail : Nat := 0x6002
abbrev queueDbDrop : Nat := 0x6003
abbrev queueFull : Nat := 0x6004
abbrev dmaHostErr : Nat := 0x6005
abbrev mcParity : Nat := 0x7001
abbrev mcDispatch : Nat := 0x7002
abbrev mcUstack : Nat := 0x7003
abbrev mcScan : Nat := 0x7004
abbrev mcImageFormat : Nat := 0x7010
abbrev mcImageSig : Nat := 0x7011
abbrev mcImageVersion : Nat := 0x7012
abbrev mcImageDispatch : Nat := 0x7013
abbrev mcImageSafe : Nat := 0x7014
abbrev mcImageStack : Nat := 0x7015
abbrev microcodeFallback : Nat := 0x7020
abbrev clockLoss : Nat := 0x8001
abbrev pllUnlock : Nat := 0x8002
abbrev syncCrc : Nat := 0x8010
abbrev syncLoss : Nat := 0x8011
abbrev syncTimeReject : Nat := 0x8012
abbrev pwrOvercurrent : Nat := 0x8020
abbrev pwrOvervoltage : Nat := 0x8021
abbrev pwrOvertemp : Nat := 0x8022
abbrev pwrWarn : Nat := 0x8023
abbrev regionThermal : Nat := 0x8024
abbrev secState : Nat := 0x9001
abbrev qfyFormat : Nat := 0x9002
abbrev qfyRecipient : Nat := 0x9003
abbrev qfyAuth : Nat := 0x9004
abbrev qfyPolicy : Nat := 0x9005
abbrev qfyExpired : Nat := 0x9006
abbrev qfyIde : Nat := 0x9007
abbrev qfyBursts : Nat := 0x9008
abbrev qfyBind : Nat := 0x9009
abbrev fwImageFormat : Nat := 0x9010
abbrev fwImageSig : Nat := 0x9011
abbrev fwImageVersion : Nat := 0x9012
abbrev firmwareFallback : Nat := 0x9013
abbrev lcDenied : Nat := 0x9020
abbrev lcToken : Nat := 0x9021
abbrev tamper : Nat := 0x9030
abbrev tamperConfig : Nat := 0x9031
abbrev ideFail : Nat := 0x9032
abbrev sliceParity : Nat := 0xA001
abbrev analogFault : Nat := 0xA002
abbrev madcFault : Nat := 0xA003
abbrev unitRetired : Nat := 0xA010
abbrev chRetired : Nat := 0xA011
abbrev sliceSpared : Nat := 0xA012
abbrev retireCleared : Nat := 0xA013
abbrev linkDown : Nat := 0xE001
abbrev memClearFail : Nat := 0xE002
abbrev bmemBankFail : Nat := 0xE003
abbrev hbmStackFail : Nat := 0xE004
abbrev fatalInternal : Nat := 0xE005
abbrev errLost : Nat := 0xF001
end Sys2Proof.Code

namespace Sys2Proof.Ty
abbrev glb : Nat := 0x00
abbrev pwr : Nat := 0x01
abbrev clk : Nat := 0x02
abbrev sync : Nat := 0x03
abbrev sec : Nat := 0x04
abbrev site : Nat := 0x06
abbrev qmgr : Nat := 0x07
abbrev bmem : Nat := 0x08
abbrev hbm : Nat := 0x09
abbrev err : Nat := 0x0A
abbrev hlth : Nat := 0x0B
abbrev cal : Nat := 0x0C
abbrev te : Nat := 0x10
abbrev tg : Nat := 0x11
abbrev cmp : Nat := 0x12
abbrev pe : Nat := 0x13
abbrev lvl : Nat := 0x14
abbrev madc : Nat := 0x15
abbrev acq : Nat := 0x16
abbrev hist : Nat := 0x17
abbrev fcu : Nat := 0x18
abbrev clu : Nat := 0x1A
abbrev rgn : Nat := 0x1B

/-- Instances of each block type (R97); 0 where the type code is unmapped. -/
def count : Nat → Nat
  | 0x00 => 1 | 0x01 => 1 | 0x02 => 1 | 0x03 => 1 | 0x04 => 1 | 0x06 => 16 | 0x07 => 1 | 0x08 => 1 | 0x09 => 3
  | 0x0A => 1 | 0x0B => 1 | 0x0C => 5 | 0x10 => 96 | 0x11 => 192 | 0x12 => 192 | 0x13 => 192 | 0x14 => 192
  | 0x15 => 24 | 0x16 => 24 | 0x17 => 24 | 0x18 => 4 | 0x1A => 24 | 0x1B => 4 | _ => 0

/-- The register at an offset is the _LO half of a 64-bit pair (05 R88, R97). -/
def pairLo (ty off : Nat) : Bool :=
  match ty with
  | 0x00 => off == 0x050
  | 0x02 => off == 0x044
  | 0x03 => decide (0x060 ≤ off ∧ off < 0x0E0 ∧ (off - 0x060) % 0x20 = 8)
  | 0x0B => [0x300, 0x308, 0x310, 0x318, 0x320, 0x328, 0x330, 0x338].contains off
  | 0x0C => off == 0x050 || off == 0x058
  | 0x10 => off == 0x070
  | 0x11 => off == 0x044 || off == 0x050
  | 0x12 => off == 0x054
  | 0x16 => off == 0x058 || off == 0x060
  | 0x17 => [0x048, 0x054, 0x05C, 0x064, 0x06C].contains off
  | 0x18 => decide (0x400 ≤ off ∧ off < 0x800 ∧ (off - 0x400) % 0x40 = 0x14)
  | _ => false

/-- Every mapped block type code. -/
def all : List Nat :=
  [0, 1, 2, 3, 4, 6, 7, 8, 9, 10, 11, 12, 16, 17, 18, 19, 20, 21, 22, 23, 24, 26, 27]
end Sys2Proof.Ty

namespace Sys2Proof
/-- Fine steps in one root tick (62.5 ps), one ns, one microsecond, one ms, one second (1 fine step = 1/4,096 ns). -/
abbrev fsRoot : Nat := 256
abbrev fsNs : Nat := 4096
abbrev fsUs : Nat := 4096 * 1000
abbrev fsMs : Nat := 4096 * 1000000
abbrev fsSec : Nat := 4096 * 1000000000
abbrev nChan : Nat := 192
abbrev nEng : Nat := 96
abbrev nClu : Nat := 24
abbrev nRgn : Nat := 4
abbrev nSite : Nat := 16
/-- The OWNER code of the owner function (R90). -/
abbrev ownerFn : Nat := 16
abbrev sat32 : Nat := 0xFFFFFFFF
abbrev sat16 : Nat := 0xFFFF
abbrev sat8 : Nat := 0xFF
end Sys2Proof
end

