-- ==== Sys2Proof/Machine/Crypto.lean ====
section
/-! DEFINITION. The algorithms that 17_security.md names: SHA-384 and HMAC, HKDF (R354, R363), AES-256 with GCM (R363, R371)
and XTS (R358), P-384 with ECDH and ECDSA (R354, R363, R368, R377), CTR_DRBG (R358). The specification names them and does
not write them out: they follow FIPS 180-4, RFC 5869, FIPS 197, NIST SP 800-38D, IEEE 1619, FIPS 186-5 and NIST SP 800-90A
(PRESUMED, log entry 58). -/

namespace Sys2Proof.Machine

/-! ### SHA-384, HMAC and HKDF -/

/-- The round constants of SHA-384. -/
def shaK : List Nat :=
  [
    0x428a2f98d728ae22, 0x7137449123ef65cd, 0xb5c0fbcfec4d3b2f, 0xe9b5dba58189dbbc, 0x3956c25bf348b538,
    0x59f111f1b605d019, 0x923f82a4af194f9b, 0xab1c5ed5da6d8118, 0xd807aa98a3030242, 0x12835b0145706fbe,
    0x243185be4ee4b28c, 0x550c7dc3d5ffb4e2, 0x72be5d74f27b896f, 0x80deb1fe3b1696b1, 0x9bdc06a725c71235,
    0xc19bf174cf692694, 0xe49b69c19ef14ad2, 0xefbe4786384f25e3, 0x0fc19dc68b8cd5b5, 0x240ca1cc77ac9c65,
    0x2de92c6f592b0275, 0x4a7484aa6ea6e483, 0x5cb0a9dcbd41fbd4, 0x76f988da831153b5, 0x983e5152ee66dfab,
    0xa831c66d2db43210, 0xb00327c898fb213f, 0xbf597fc7beef0ee4, 0xc6e00bf33da88fc2, 0xd5a79147930aa725,
    0x06ca6351e003826f, 0x142929670a0e6e70, 0x27b70a8546d22ffc, 0x2e1b21385c26c926, 0x4d2c6dfc5ac42aed,
    0x53380d139d95b3df, 0x650a73548baf63de, 0x766a0abb3c77b2a8, 0x81c2c92e47edaee6, 0x92722c851482353b] ++ [
    0xa2bfe8a14cf10364, 0xa81a664bbc423001, 0xc24b8b70d0f89791, 0xc76c51a30654be30, 0xd192e819d6ef5218,
    0xd69906245565a910, 0xf40e35855771202a, 0x106aa07032bbd1b8, 0x19a4c116b8d2d0c8, 0x1e376c085141ab53,
    0x2748774cdf8eeb99, 0x34b0bcb5e19b48a8, 0x391c0cb3c5c95a63, 0x4ed8aa4ae3418acb, 0x5b9cca4f7763e373,
    0x682e6ff3d6b2b8a3, 0x748f82ee5defb2fc, 0x78a5636f43172f60, 0x84c87814a1f0ab72, 0x8cc702081a6439ec,
    0x90befffa23631e28, 0xa4506cebde82bde9, 0xbef9a3f7b2c67915, 0xc67178f2e372532b, 0xca273eceea26619c,
    0xd186b8c721c0c207, 0xeada7dd6cde0eb1e, 0xf57d4f7fee6ed178, 0x06f067aa72176fba, 0x0a637dc5a2c898a6,
    0x113f9804bef90dae, 0x1b710b35131c471b, 0x28db77f523047d84, 0x32caab7b40c72493, 0x3c9ebe0a15c9bebc,
    0x431d67c49c100d4c, 0x4cc5d4becb3e42b6, 0x597f299cfc657e2a, 0x5fcb6fab3ad6faec, 0x6c44198c4a475817]

/-- The initial hash value of SHA-384. -/
def shaH : List Nat := [
    0xcbbb9d5dc1059ed8, 0x629a292a367cd507, 0x9159015a3070dd17, 0x152fecd8f70e5939,
    0x67332667ffc00b31, 0x8eb44a8768581511, 0xdb0c2e0d64f98fa7, 0x47b5481dbefa4fa4]

def rotr64 (n x : Nat) : Nat := (x >>> n) ||| ((x <<< (64 - n)) % 2 ^ 64)

/-- The 80 rounds over the eight working variables; `w` holds the sixteen words of the schedule next in turn. -/
@[irreducible] def shaRounds : List Nat → List Nat → List Nat → List Nat
  | st, _, [] => st
  | [a, b, c, d, e, f, g, h], w, k :: ks =>
    let t1 := h + (rotr64 14 e ^^^ rotr64 18 e ^^^ rotr64 41 e) + ((e &&& f) ^^^ ((2 ^ 64 - 1 - e) &&& g)) + k + w.headD 0
    let t2 := (rotr64 28 a ^^^ rotr64 34 a ^^^ rotr64 39 a) + ((a &&& b) ^^^ (a &&& c) ^^^ (b &&& c))
    let x := w.getD 1 0
    let y := w.getD 14 0
    let n := (rotr64 19 y ^^^ rotr64 61 y ^^^ (y >>> 6)) + w.getD 9 0 + (rotr64 1 x ^^^ rotr64 8 x ^^^ (x >>> 7)) + w.headD 0
    shaRounds [(t1 + t2) % 2 ^ 64, a, b, c, (d + t1) % 2 ^ 64, e, f, g] (w.drop 1 ++ [n % 2 ^ 64]) ks
  | st, _, _ => st

/-- A block of 128 bytes enters the hash. -/
def shaBlock (st : List Nat) (blk : List Byte) : List Nat :=
  let w := (List.range 16).map (fun i => fromBe ((blk.drop (8 * i)).take 8))
  (List.zip st (shaRounds st w shaK)).map (fun p => (p.1 + p.2) % 2 ^ 64)
def shaBlocks : Nat → List Byte → List Nat → List Nat
  | 0, _, st => st
  | n + 1, l, st => shaBlocks n (l.drop 128) (shaBlock st (l.take 128))

/-- SHA-384 of a message. -/
@[irreducible] def sha384 (m : List Byte) : List Byte :=
  let pad := m ++ [0x80] ++ List.replicate ((239 - m.length % 128) % 128) 0 ++ be 16 (8 * m.length)
  ((shaBlocks (pad.length / 128) pad shaH).take 6).flatMap (be 8)

def xorBytes (a b : List Byte) : List Byte := List.zipWith (· ^^^ ·) a b

/-- HMAC-SHA-384. -/
def hmac384 (key m : List Byte) : List Byte :=
  let k := fitBytes 128 (if 128 < key.length then sha384 key else key)
  sha384 (xorBytes k (List.replicate 128 0x5C) ++ sha384 (xorBytes k (List.replicate 128 0x36) ++ m))

/-- The blocks of HKDF's expansion after `t`, from number `i` on. -/
def hkdfBlocks (prk info : List Byte) : Nat → Nat → List Byte → List Byte
  | 0, _, _ => []
  | n + 1, i, t => let b := hmac384 prk (t ++ info ++ le 1 i); b ++ hkdfBlocks prk info n (i + 1) b

/-- HKDF-SHA-384 of a salt, input keying material, info and a length. -/
@[irreducible] def hkdf (salt ikm info : List Byte) (len : Nat) : List Byte :=
  (hkdfBlocks (hmac384 (if salt = [] then List.replicate 48 0 else salt) ikm) info ((len + 47) / 48) 1 []).take len

/-! ### AES-256 -/

/-- The substitution box and its inverse, 32 bytes a number, least significant first. -/
def aesBox : List Nat := [
    0xc072a49cafa2d4adf04759fa7dc982ca76abd7fe2b670130c56f6bf27b777c63,
    0x75b227ebe28012079a059618c323c7041531d871f1e5a534ccf73f362693fdb7,
    0xcf584c4a39becb6a5bb1fc20ed00d153842fe329b3d63b52a05a6e1b1a2c8309,
    0xd2f3ff1021dab6bcf5389d928f40a351a89f3c507f02f94585334d43fbaaefd0,
    0xdb0b5ede14b8ee4688902a22dc4f816073195d643d7ea7c41744975fec130ccd,
    0x08ae7a65eaf4566ca94ed58d6d37c8e779e4959162acd3c25c2406490a3a32e0,
    0x9e1dc186b95735610ef6034866b53e708a8bbd4b1f74dde8c6b4a61c2e2578ba,
    0x16bb54b00f2d99416842e6bf0d89a18cdf2855cee9871e9b948ed9691198f8e1]

def aesInvBox : List Nat := [
    0xcbe9dec444438e3487ff2f9b8239e37cfbd7f3819ea340bf38a53630d56a0952,
    0x25d18b6d49a25b76b224d92866a12e084ec3fa420b954cee3d23c2a632947b54,
    0x849d8da75746155edab9edfd5048706c92b6655dcc5ca4d41698688664f6f872,
    0x6b8a130103bdafc1020f3fca8f1e2cd00645b3b80558e4f70ad3bc8c00abd890,
    0x6edf751ce837f9e28535ade72274ac9673e6b4f0cecff297eadc674f4111913a,
    0xf45acd78fec0db9a2079d2c64b3e56fc1bbe18aa0e62b76f89c5291d711af147,
    0xef9cc9939f7ae52d0d4ab519a97f51605fec8027591012b131c7078833a8dd1f,
    0x7d0c2155631469e126d677ba7e042b17619953833cbbebc8b0f52aae4d3be0a0]

/-- A byte through a box. -/
def boxAt (box : List Nat) (b : Nat) : Nat := bits (box.getD (b / 32) 0) (8 * (b % 32)) 8
/-- Product in the field of AES. -/
def xtime (b : Nat) : Nat := if b < 128 then 2 * b else (2 * b) ^^^ 0x11B
def gmul (k b : Nat) : Nat :=
  let b2 := xtime b
  let b4 := xtime b2
  let b8 := xtime b4
  (if bit k 0 then b else 0) ^^^ (if bit k 1 then b2 else 0) ^^^ (if bit k 2 then b4 else 0) ^^^ (if bit k 3 then b8 else 0)

/-- The key schedule: `n` more words of four bytes after `w`, the latest first; `i` numbers the next, `rc` its round constant. -/
def aesExpand : Nat → Nat → Nat → List (List Nat) → List (List Nat)
  | 0, _, _, w => w
  | n + 1, i, rc, w =>
    let t := w.headD []
    let sub := t.map (boxAt aesBox)
    let u := if i % 8 = 0 then List.zipWith (· ^^^ ·) (sub.drop 1 ++ sub.take 1) [rc, 0, 0, 0] else if i % 8 = 4 then sub else t
    aesExpand n (i + 1) (if i % 8 = 0 then xtime rc else rc) (List.zipWith (· ^^^ ·) (w.getD 7 []) u :: w)
/-- The fifteen round keys of a 32-byte key. -/
def aesKeys (key : List Byte) : List (List Nat) :=
  let k := (fitBytes 32 key).map (·.toNat)
  let w := (aesExpand 52 8 1 ((List.range 8).map (fun i => (k.drop (4 * i)).take 4)).reverse).reverse
  (List.range 15).map (fun r => ((w.drop (4 * r)).take 4).flatten)

/-- MixColumns with the row `m` of its matrix. -/
def mixCols (m : List Nat) (st : List Nat) : List Nat :=
  (List.range 16).map (fun i => (List.range 4).foldl
    (fun x j => x ^^^ gmul (m.getD ((j + 4 - i % 4) % 4) 0) (st.getD (i / 4 * 4 + j) 0)) 0)
def subShift (st : List Nat) : List Nat :=
  (List.range 16).map (fun i => boxAt aesBox (st.getD ((i + 4 * (i % 4)) % 16) 0))
def invSubShift (st : List Nat) : List Nat :=
  (List.range 16).map (fun i => boxAt aesInvBox (st.getD ((i + 12 * (i % 4)) % 16) 0))
def xorNats (a b : List Nat) : List Nat := List.zipWith (· ^^^ ·) a b

def aesRounds : List (List Nat) → List Nat → List Nat
  | [], st => st
  | [k], st => xorNats (subShift st) k
  | k :: ks, st => aesRounds ks (xorNats (mixCols [2, 3, 1, 1] (subShift st)) k)
def aesInvRounds : List (List Nat) → List Nat → List Nat
  | [], st => st
  | [k], st => xorNats (invSubShift st) k
  | k :: ks, st => aesInvRounds ks (mixCols [14, 11, 13, 9] (xorNats (invSubShift st) k))

/-- AES-256 of a block of 16 bytes, with the round keys of a key, and its inverse. -/
@[irreducible] def aesEnc (keys : List (List Nat)) (b : List Byte) : List Byte :=
  (aesRounds (keys.drop 1) (xorNats ((fitBytes 16 b).map (·.toNat)) (keys.headD []))).map (BitVec.ofNat 8)
@[irreducible] def aesDec (keys : List (List Nat)) (b : List Byte) : List Byte :=
  let r := keys.reverse
  (aesInvRounds (r.drop 1) (xorNats ((fitBytes 16 b).map (·.toNat)) (r.headD []))).map (BitVec.ofNat 8)

/-! ### GCM and XTS -/

/-- Product in the field of GCM, bits counted from the most significant; `n` bits of `x` are left. -/
def ghashMul (x : Nat) : Nat → Nat → Nat → Nat
  | 0, _, z => z
  | n + 1, v, z => ghashMul x n (if bit v 0 then (v / 2) ^^^ (0xE1 * 2 ^ 120) else v / 2) (if bit x n then z ^^^ v else z)
def ghashBlocks (h : Nat) : Nat → List Byte → Nat → Nat
  | 0, _, y => y
  | n + 1, l, y => ghashBlocks h n (l.drop 16) (ghashMul (y ^^^ fromBe (l.take 16)) 128 h 0)
/-- `l` padded with zeros to whole blocks. -/
def padBlocks (l : List Byte) : List Byte := fitBytes ((l.length + 15) / 16 * 16) l
/-- `n` blocks of the counter mode keystream from counter `i` on. -/
def ctrStream (keys : List (List Nat)) (nonce : List Byte) : Nat → Nat → List Byte
  | 0, _ => []
  | n + 1, i => aesEnc keys (nonce ++ be 4 i) ++ ctrStream keys nonce n (i + 1)
/-- The tag of associated data and a ciphertext. -/
def gcmTag (keys : List (List Nat)) (nonce aad c : List Byte) : List Byte :=
  let l := padBlocks aad ++ padBlocks c ++ be 8 (8 * aad.length) ++ be 8 (8 * c.length)
  xorBytes (be 16 (ghashBlocks (fromBe (aesEnc keys (List.replicate 16 0))) (l.length / 16) l 0)) (aesEnc keys (nonce ++ be 4 1))

/-- AES-256-GCM: the ciphertext and tag of a plaintext under a key, a nonce and associated data. -/
@[irreducible] def gcmSeal (key nonce aad p : List Byte) : List Byte :=
  let ks := aesKeys key
  let c := xorBytes p (ctrStream ks nonce ((p.length + 15) / 16) 2)
  c ++ gcmTag ks nonce aad c
/-- AES-256-GCM opening of ciphertext ‖ tag: none where the tag fails. -/
@[irreducible] def gcmOpen (key nonce aad ct : List Byte) : Option (List Byte) :=
  let ks := aesKeys key
  let c := ct.take (ct.length - 16)
  if 16 ≤ ct.length ∧ gcmTag ks nonce aad c = ct.drop (ct.length - 16) then
    some (xorBytes c (ctrStream ks nonce ((c.length + 15) / 16) 2))
  else none

/-- The tweak of the block at device address `a` (R358): the data unit is 4 KiB, its tweak the address shifted right by 12. -/
def xtsTweak (key : List Byte) (a : Nat) : List Byte :=
  le 16 ((List.range (a % 4096 / 16)).foldl (fun t _ => if t < 2 ^ 127 then 2 * t else (2 * t - 2 ^ 128) ^^^ 0x87)
    (fromLe (aesEnc (aesKeys (key.drop 32)) (le 16 (a / 4096)))))
/-- AES-256-XTS of the 16-byte block at a device address under a key pair of 64 bytes, and its inverse. -/
@[irreducible] def xtsCipher (key : List Byte) (a : Nat) (b : List Byte) : List Byte :=
  let t := xtsTweak key a
  xorBytes (aesEnc (aesKeys key) (xorBytes (fitBytes 16 b) t)) t
@[irreducible] def xtsPlain (key : List Byte) (a : Nat) (b : List Byte) : List Byte :=
  let t := xtsTweak key a
  xorBytes (aesDec (aesKeys key) (xorBytes (fitBytes 16 b) t)) t

/-! ### P-384 -/

def p384P : Nat := 2 ^ 384 - 2 ^ 128 - 2 ^ 96 + 2 ^ 32 - 1
def p384N : Nat := 0xFFFFFFFFFFFFFFFFFFFFFFFFFFFFFFFFFFFFFFFFFFFFFFFFC7634D81F4372DDF581A0DB248B0A77AECEC196ACCC52973
def p384B : Nat := 0xB3312FA7E23EE7E4988E056BE3F82D19181D9C6EFE8141120314088F5013875AC656398D8A2ED19D2A85C8EDD3EC2AEF
def p384Gx : Nat := 0xAA87CA22BE8B05378EB1C71EF320AD746E1D3B628BA79B9859F741E082542A385502F25DBF55296C3A545E3872760AB7
def p384Gy : Nat := 0x3617DE4A96262C6F5D9E98BF9292DC29F8F41DBD289A147CE9DA3113B5F0B8C00A60B1CE1D7E819D7A431D7C90EA0E5F

/-- `b` to the power whose `n` low bits `e` gives, modulo `m`. -/
def powMod (m b e : Nat) : Nat → Nat
  | 0 => 1 % m
  | n + 1 => let h := powMod m b (e / 2) n; if bit e 0 then h * h % m * b % m else h * h % m
/-- The inverse modulo a prime below 2^384. -/
@[irreducible] def invMod (m a : Nat) : Nat := powMod m (a % m) (m - 2) 384
def subP (a b : Nat) : Nat := (a + p384P - b % p384P) % p384P

/-- A point of the curve in Jacobian coordinates; z = 0 is the neutral one. -/
abbrev Pt := Nat × Nat × Nat

def ptDouble : Pt → Pt
  | (x, y, z) =>
    let d := z * z % p384P
    let g := y * y % p384P
    let b := x * g % p384P
    let a := 3 * (subP x d * ((x + d) % p384P) % p384P) % p384P
    let x3 := subP (a * a % p384P) (8 * b)
    (x3, subP (a * subP (4 * b) x3 % p384P) (8 * (g * g)), 2 * (y * z) % p384P)
def ptAdd : Pt → Pt → Pt
  | (x1, y1, z1), (x2, y2, z2) =>
    if z1 = 0 then (x2, y2, z2)
    else if z2 = 0 then (x1, y1, z1)
    else
      let a := z1 * z1 % p384P
      let b := z2 * z2 % p384P
      let u1 := x1 * b % p384P
      let u2 := x2 * a % p384P
      let s1 := y1 * z2 % p384P * b % p384P
      let s2 := y2 * z1 % p384P * a % p384P
      if u1 = u2 then (if s1 = s2 then ptDouble (x1, y1, z1) else (1, 1, 0))
      else
        let h := subP u2 u1
        let r := subP s2 s1
        let h2 := h * h % p384P
        let h3 := h * h2 % p384P
        let v := u1 * h2 % p384P
        let x3 := subP (subP (r * r % p384P) h3) (2 * v)
        (x3, subP (r * subP v x3 % p384P) (s1 * h3), h * z1 % p384P * z2 % p384P)
/-- The multiple of a point by the number whose `n` low bits `k` gives. -/
def ptMul (p : Pt) (k : Nat) : Nat → Pt
  | 0 => (1, 1, 0)
  | n + 1 => let h := ptDouble (ptMul p (k / 2) n); if bit k 0 then ptAdd h p else h
/-- The affine coordinates of a point that is not the neutral one. -/
def ptAffine : Pt → Nat × Nat
  | (x, y, z) =>
    let i := invMod p384P z
    let i2 := i * i % p384P
    (x * i2 % p384P, y * i2 % p384P * i % p384P)
/-- The point of 96 bytes X‖Y. -/
def ptOf (b : List Byte) : Pt := (fromBe (b.take 48), fromBe ((b.drop 48).take 48), 1)
def ptG : Pt := (p384Gx, p384Gy, 1)

/-- 96 bytes X‖Y are a point of P-384 (R367 step 4). -/
@[irreducible] def p384Point (b : List Byte) : Bool :=
  let x := fromBe (b.take 48)
  let y := fromBe ((b.drop 48).take 48)
  b.length == 96 && decide (x < p384P ∧ y < p384P) && y * y % p384P == (x * x % p384P * x + 3 * (p384P - x) + p384B) % p384P
/-- The public key X‖Y of a private scalar. -/
@[irreducible] def p384Pub (d : Nat) : List Byte := let a := ptAffine (ptMul ptG d 384); be 48 a.1 ++ be 48 a.2
/-- The x-coordinate of ECDH of a private scalar and a public key X‖Y. -/
@[irreducible] def ecdhX (d : Nat) (pub : List Byte) : List Byte := be 48 (ptAffine (ptMul (ptOf pub) d 384)).1
/-- A private scalar from 48 bytes, 1 to the order of the curve less 1. -/
def scalarOf (b : List Byte) : Nat := fromBe b % (p384N - 1) + 1

/-- The ECDSA signature of a message by a private scalar, with the per-message secret `k`, r then s. -/
@[irreducible] def ecdsaSign (d k : Nat) (m : List Byte) : List Byte :=
  let r := (ptAffine (ptMul ptG k 384)).1 % p384N
  be 48 r ++ be 48 (invMod p384N k * ((fromBe (sha384 m) + r * d) % p384N) % p384N)
/-- An ECDSA signature, r then s, of a message verifies under a public key X‖Y. -/
@[irreducible] def ecdsaVerify (pub m sig : List Byte) : Bool :=
  let r := fromBe (sig.take 48)
  let t := fromBe ((sig.drop 48).take 48)
  let w := invMod p384N t
  let p := ptAdd (ptMul ptG (fromBe (sha384 m) * w % p384N) 384) (ptMul (ptOf pub) (r * w % p384N) 384)
  p384Point pub && decide (1 ≤ r ∧ r < p384N ∧ 1 ≤ t ∧ t < p384N) && p.2.2 != 0 && (ptAffine p).1 % p384N == r

/-! ### CTR_DRBG (AES-256, without a derivation function) -/

/-- The state advances by 48 bytes of new material. -/
@[irreducible] def Drbg.update (g : Drbg) (data : List Byte) : Drbg :=
  let ks := aesKeys g.key
  let t := xorBytes ((List.range 3).flatMap (fun i => aesEnc ks (be 16 (g.v + 1 + i)))) (fitBytes 48 data)
  { g with key := t.take 32, v := fromBe (t.drop 32) }
/-- Seeded from 48 bytes of entropy. -/
def Drbg.seed (entropy : List Byte) : Drbg := ({} : Drbg).update entropy
/-- One request for `n` bytes. -/
@[irreducible] def Drbg.draw (g : Drbg) (n : Nat) : List Byte × Drbg :=
  let ks := aesKeys g.key
  let m := (n + 15) / 16
  (((List.range m).flatMap (fun i => aesEnc ks (be 16 (g.v + 1 + i)))).take n,
    { (({ g with v := (g.v + m) % 2 ^ 128 } : Drbg).update []) with count := g.count + 1 })

end Sys2Proof.Machine
end

