-- ==== Sys2Proof/Machine/State.lean ====
section
/-! DEFINITION. The state of the module as plain data, the reasons a step can stop, and the state after reset. -/

namespace Sys2Proof.Machine

/-- No event of the module stops the machine: the specification gives every fault an effect (error log, SAFE entry,
retirement), so there is no fault. -/
inductive Fault where
deriving DecidableEq, Repr

/-- Why a command is not taken. -/
inductive Refusal where
  /-- raised by `exec` for a command that has no meaning yet (safe) -/
  | notModelled (mnemonic : String)
  /-- raised by a meaning whose command names a unit, line, page or vector the module does not have (safe) -/
  | noSuchUnit
deriving DecidableEq, Repr

/-- Every piece of state the specification gives the module, and the queue of waiting commands. -/
structure State where
  /-- ordering grade: false KVX-Q192-48L-16, true KVX-Q192-48L-08 (00 R4) -/
  grade08 : Bool := false
  /-- straps as sampled at PWR_GOOD (16 R334, R349) -/
  bifur : Bool := false
  smbAddr : Nat := 0
  /-- TT root count (03 R69) -/
  root : Nat := 0
  /-- root edges since the model's reset: the clock of every timer that does not follow TT -/
  uptime : Nat := 0
  /-- first PLL lock has happened since power-up (03 R69, R71) -/
  everLocked : Bool := false
  stage : Stage := .off
  /-- links of endpoint 0 and 1 up (02 R40, 03 R68) -/
  link0 : Bool := false
  link1 : Bool := false
  pwr : Pwr := {}
  glb : Glb := {}
  clk : Clk := {}
  sync : Sync := {}
  sec : Sec := {}
  hdrs : Tbl Hdr := []
  fns : Tbl Fn := []
  sites : Tbl Site := []
  queues : Tbl QDesc := []
  qmgr : Qmgr := {}
  bmem : Bmem := {}
  hbms : Tbl Hbm := []
  err : ErrLog := {}
  hlth : Hlth := {}
  cals : Tbl Cal := []
  clus : Tbl Clu := []
  rgns : Tbl Rgn := []
  fcus : Tbl Fcu := []
  madcs : Tbl Madc := []
  acqs : Tbl Acq := []
  hists : Tbl Hist := []
  chans : Tbl Chan := []
  tes : Tbl Eng := []
  /-- device memory, byte by address: HBM and bank memory (15 R304, R312) -/
  mem : List Host.Cell := []
  /-- bytes of sealed sites stored as ciphertext by COPY_IN (15 R329, 17 R358) -/
  ctext : Tbl (Option Byte) := []
  /-- holder of each HBM granule and of each general unit of bank memory: 0 to 15 site, 16 owner function (15 R306) -/
  hbmHolder : Tbl Nat := []
  bankHolder : Tbl Nat := []
  nor : Nor := {}
  otp : Otp := {}
  /-- transients and retirement by unit, kind × 256 + index (18 R383) -/
  faults : Tbl Fault1 := []
  smb : Smb := {}
  jtag : Jtag := {}
  /-- what left the module, latest first -/
  outs : List Out := []
  /-- the free-value counter -/
  free : Nat := 0
  /-- lines of the pattern cache, most recently used first (07 R133, 15 R305) -/
  pcache : List CLine := []
  /-- the verified microcode of each region, held in bank memory (07 R144, 01 R16) -/
  micro : Tbl McImage := []
  /-- control store and dispatch table of each engine (07 R126) -/
  stores : Tbl CStore := []
  /-- segments handed back to the segment queue they came from because no engine of their site is in service, oldest
  first (08 R163) -/
  returned : List Seg := []
  /-- the queue the queue manager placed from last (08 R160) -/
  placedQ : Nat := 0
  /-- commands waiting, first in first out -/
  pending : List Instr := []
deriving DecidableEq, Repr

/-- The module with its power stage off, before t0: every register at its Reset column value, memory with nothing
listed, no command waiting. -/
def State.reset : State := {}

end Sys2Proof.Machine
end

