-- ==== Sys2Proof/Machine/Access.lean ====
section
/-! DEFINITION. Named reads and updates of one piece of State: the only way the meanings reach a unit. -/

namespace Sys2Proof.Machine

/-- TT in fine steps (03 R69): the live counter changes on root edges only, so its fine field is 0. -/
def State.now (s : State) : Nat := (s.root * 256) % 2 ^ 64
/-- Time since the model's reset in fine steps, for timers that do not follow TT. -/
def State.up (s : State) : Nat := s.uptime * 256

/-- The difference a − b of two 64-bit times, by which R69 orders them. -/
def ttDiff (a b : Nat) : Int := sx 64 (a % 2 ^ 64 + 2 ^ 64 - b % 2 ^ 64)
def ttLe (a b : Nat) : Bool := decide (0 ≤ ttDiff b a)
def ttLt (a b : Nat) : Bool := decide (0 < ttDiff b a)
/-- The instant `t` has come at TT `now`, by the difference of the two 64-bit times (R69). -/
def ttReached (now t : Int) : Bool := decide ((now - t) % 2 ^ 64 < 2 ^ 63)
/-- The later of two 64-bit times. -/
def ttMax (a b : Nat) : Nat := if ttLe a b then b else a
/-- A 64-bit time moved by a signed number of steps. -/
def ttMove (t : Nat) (d : Int) : Nat := (((t : Int) + d) % (2 ^ 64 : Nat)).toNat

/-- Do `f` for each number of a list, in order. -/
def forEach (l : List Nat) (f : Nat → State → State) (s : State) : State := l.foldl (fun t i => f i t) s
/-- `f s` when `c` holds, else `s`. -/
def when (c : Bool) (f : State → State) (s : State) : State := if c then f s else s

/-- The reset header of a page: OWNER is 16, and s on SITE_s (05 R92). -/
def hdrReset (ty inst : Nat) : Hdr := if ty = Ty.site ∧ inst < nSite then { owner := inst } else {}
def pageKey (ty inst : Nat) : Nat := ty * 256 + inst
def State.hdr (s : State) (ty inst : Nat) : Hdr := Tbl.get (hdrReset ty inst) s.hdrs (pageKey ty inst)
def State.modHdr (s : State) (ty inst : Nat) (f : Hdr → Hdr) : State :=
  { s with hdrs := Tbl.upd (hdrReset ty inst) s.hdrs (pageKey ty inst) f }

def State.fn (s : State) (i : Nat) : Fn := Tbl.get {} s.fns i
def State.modFn (s : State) (i : Nat) (f : Fn → Fn) : State := { s with fns := Tbl.upd {} s.fns i f }
def State.site (s : State) (i : Nat) : Site := Tbl.get {} s.sites i
def State.modSite (s : State) (i : Nat) (f : Site → Site) : State := { s with sites := Tbl.upd {} s.sites i f }
def State.queue (s : State) (q : Nat) : QDesc := Tbl.get {} s.queues q
def State.modQueue (s : State) (q : Nat) (f : QDesc → QDesc) : State := { s with queues := Tbl.upd {} s.queues q f }
def State.hbm (s : State) (i : Nat) : Hbm := Tbl.get {} s.hbms i
def State.modHbm (s : State) (i : Nat) (f : Hbm → Hbm) : State := { s with hbms := Tbl.upd {} s.hbms i f }
def State.cal (s : State) (i : Nat) : Cal := Tbl.get {} s.cals i
def State.modCal (s : State) (i : Nat) (f : Cal → Cal) : State := { s with cals := Tbl.upd {} s.cals i f }
def State.clu (s : State) (i : Nat) : Clu := Tbl.get {} s.clus i
def State.modClu (s : State) (i : Nat) (f : Clu → Clu) : State := { s with clus := Tbl.upd {} s.clus i f }
def State.rgn (s : State) (i : Nat) : Rgn := Tbl.get {} s.rgns i
def State.modRgn (s : State) (i : Nat) (f : Rgn → Rgn) : State := { s with rgns := Tbl.upd {} s.rgns i f }
def State.fcu (s : State) (i : Nat) : Fcu := Tbl.get {} s.fcus i
def State.modFcu (s : State) (i : Nat) (f : Fcu → Fcu) : State := { s with fcus := Tbl.upd {} s.fcus i f }
def State.madc (s : State) (i : Nat) : Madc := Tbl.get {} s.madcs i
def State.modMadc (s : State) (i : Nat) (f : Madc → Madc) : State := { s with madcs := Tbl.upd {} s.madcs i f }
def State.acq (s : State) (i : Nat) : Acq := Tbl.get {} s.acqs i
def State.modAcq (s : State) (i : Nat) (f : Acq → Acq) : State := { s with acqs := Tbl.upd {} s.acqs i f }
def State.hist (s : State) (i : Nat) : Hist := Tbl.get {} s.hists i
def State.modHist (s : State) (i : Nat) (f : Hist → Hist) : State := { s with hists := Tbl.upd {} s.hists i f }
def State.chan (s : State) (i : Nat) : Chan := Tbl.get {} s.chans i
def State.modChan (s : State) (i : Nat) (f : Chan → Chan) : State := { s with chans := Tbl.upd {} s.chans i f }
def State.te (s : State) (i : Nat) : Eng := Tbl.get {} s.tes i
def State.modTe (s : State) (i : Nat) (f : Eng → Eng) : State := { s with tes := Tbl.upd {} s.tes i f }
def State.fault (s : State) (k : Nat) : Fault1 := Tbl.get {} s.faults k
def State.modFault (s : State) (k : Nat) (f : Fault1 → Fault1) : State := { s with faults := Tbl.upd {} s.faults k f }
def State.trigIn (s : State) (n : Nat) : TrigIn := Tbl.get {} s.sync.trigIn n
def State.modTrigIn (s : State) (n : Nat) (f : TrigIn → TrigIn) : State :=
  { s with sync := { s.sync with trigIn := Tbl.upd {} s.sync.trigIn n f } }
def State.trigOut (s : State) (n : Nat) : TrigOut := Tbl.get {} s.sync.trigOut n
def State.modTrigOut (s : State) (n : Nat) (f : TrigOut → TrigOut) : State :=
  { s with sync := { s.sync with trigOut := Tbl.upd {} s.sync.trigOut n f } }
def State.secSite (s : State) (i : Nat) : SecSite := Tbl.get {} s.sec.sites i
def State.modSecSite (s : State) (i : Nat) (f : SecSite → SecSite) : State :=
  { s with sec := { s.sec with sites := Tbl.upd {} s.sec.sites i f } }
def State.modGlb (s : State) (f : Glb → Glb) : State := { s with glb := f s.glb }
def State.modPwr (s : State) (f : Pwr → Pwr) : State := { s with pwr := f s.pwr }
def State.modClk (s : State) (f : Clk → Clk) : State := { s with clk := f s.clk }
def State.modSync (s : State) (f : Sync → Sync) : State := { s with sync := f s.sync }
def State.modSec (s : State) (f : Sec → Sec) : State := { s with sec := f s.sec }
def State.modErr (s : State) (f : ErrLog → ErrLog) : State := { s with err := f s.err }
def State.modHlth (s : State) (f : Hlth → Hlth) : State := { s with hlth := f s.hlth }
def State.modBmem (s : State) (f : Bmem → Bmem) : State := { s with bmem := f s.bmem }
def State.modQmgr (s : State) (f : Qmgr → Qmgr) : State := { s with qmgr := f s.qmgr }
def State.modNor (s : State) (f : Nor → Nor) : State := { s with nor := f s.nor }
def State.modSmb (s : State) (f : Smb → Smb) : State := { s with smb := f s.smb }
def State.modJtag (s : State) (f : Jtag → Jtag) : State := { s with jtag := f s.jtag }

/-- The next free value (log entry 5). -/
def State.freeVal (s : State) : Nat := (Config.freeValue s.free).toNat
def State.useFree (s : State) : State := { s with free := s.free + 1 }

/-- Append to what has left the module. -/
def State.emit (s : State) (o : Out) : State := { s with outs := o :: s.outs }

/-- The outcome of a command that names only units the module has: a next state; else the refusal by name. -/
def onUnit (ok : Bool) (t : State) : Host.Outcome State Fault Refusal :=
  if ok then .next t else .refused .noSuchUnit

/-! ### Numbering of channels, clusters, regions, engines (01 R8, R12) -/

def cluOf (ch : Nat) : Nat := ch / 8
def laneOf (ch : Nat) : Nat := ch % 8
def rgnOfCh (ch : Nat) : Nat := ch / 48
def rgnOfClu (k : Nat) : Nat := k / 6
def rgnOfTe (e : Nat) : Nat := e / 24
def chansOfRgn (r : Nat) : List Nat := (List.range 48).map (· + 48 * r)
def chansOfClu (k : Nat) : List Nat := (List.range 8).map (· + 8 * k)
def clusOfRgn (r : Nat) : List Nat := (List.range 6).map (· + 6 * r)
def tesOfRgn (r : Nat) : List Nat := (List.range 24).map (· + 24 * r)

/-- The code of a mode (02 R34) and of a burst state (16 R352). -/
def Mode.code : Mode → Nat
  | .off => 0 | .safe => 1 | .ready => 2 | .cal => 3 | .run => 4 | .service => 5
def Burst.code : Burst → Nat
  | .idle => 0 | .armed => 1 | .running => 2 | .draining => 3 | .aborted => 4

/-- The site of a function (SITE_s is function s + 1), and the function of an OWNER code. -/
def siteOfFn (fn : Nat) : Option Nat := if 1 ≤ fn ∧ fn ≤ 16 then some (fn - 1) else none
def fnOfOwner (o : Nat) : Nat := if o < 16 then o + 1 else 0
/-- The OWNER code of a function. -/
def ownerOfFn (fn : Nat) : Nat := if 1 ≤ fn ∧ fn ≤ 16 then fn - 1 else 16

/-- The site is a sealed site (17 R360). -/
def State.isSealed (s : State) (st : Nat) : Bool := decide (st < 16) && bit s.sec.sealedSites st

/-- Owner of a channel's four pages, kept on its TG page (05 R90). -/
def State.chOwner (s : State) (ch : Nat) : Nat := (s.hdr Ty.tg ch).owner
/-- The channels a site owns. -/
def State.siteChans (s : State) (st : Nat) : List Nat := (List.range nChan).filter (fun c => s.chOwner c == st)
def State.siteSt (s : State) (o : Nat) : Burst := if o < 16 then (s.site o).st else .idle
/-- The site serves no burst: an OWNER code of the owner function counts as IDLE. -/
def State.siteIdle (s : State) (o : Nat) : Bool := s.siteSt o == .idle

end Sys2Proof.Machine
end

