-- ==== Sys2Proof/Machine/Ops.lean ====
section
/-! DEFINITION. The shared operations: memory, interrupts, queues, the ERR log, access checks. -/

namespace Sys2Proof.Machine

/-! ### Memory (15 R304 to R306) -/

def hbmTop : Nat := 0x1200000000
def bankBase : Nat := 0xFF00000000
def bankTop : Nat := 0xFF06000000
/-- Bank-memory offset of general unit 0. -/
def unitBase : Nat := 0x5900000

/-- A device address lies in HBM or bank memory (R304). -/
def addrOk (a : Nat) : Bool := a < hbmTop || (bankBase ≤ a && a < bankTop)

/-- The byte at a device address; memory was cleared to 0 at power-up (R312). -/
def State.byte (s : State) (a : Nat) : Byte := Tbl.get (0 : Byte) s.mem a
def State.setByte (s : State) (a : Nat) (b : Byte) : State :=
  { s with mem := Tbl.set (0 : Byte) s.mem a b, ctext := Tbl.set none s.ctext a none }
def State.bytes (s : State) (a n : Nat) : List Byte := (List.range n).map (fun i => s.byte (a + i))
def State.setBytes (s : State) : Nat → List Byte → State
  | _, [] => s
  | a, b :: t => (s.setByte a b).setBytes (a + 1) t
/-- The little-endian number of `n` bytes at `a`. -/
def State.num (s : State) (a n : Nat) : Nat := fromLe (s.bytes a n)

/-- The holder of the unit a device address lies in, 32 for an address no function can be granted (R306). -/
def State.holderAt (s : State) (a : Nat) : Nat :=
  if a < hbmTop then Tbl.get 16 s.hbmHolder (a >>> 28)
  else if bankBase + unitBase ≤ a ∧ a < bankTop then Tbl.get 16 s.bankHolder ((a - bankBase - unitBase) >>> 16)
  else 32

/-- The first addresses of the 64 KiB units (HBM: 256 MiB granules) that [a, a + n) touches. -/
def touched (a n : Nat) : List Nat :=
  if n = 0 then []
  else if a < hbmTop then
    (List.range (((a + n - 1) >>> 28) - (a >>> 28) + 1)).map (fun i => ((a >>> 28) + i) <<< 28)
  else (List.range (((a + n - 1) >>> 16) - (a >>> 16) + 1)).map (fun i => ((a >>> 16) + i) <<< 16)

/-- Every unit the range touches is held by the holder `o` (R306). -/
def State.granted (s : State) (o a n : Nat) : Bool :=
  addrOk a && addrOk (a + n - 1) && ((touched a n).all (fun u => s.holderAt u == o))

/-- Wipe a range of memory to zero. -/
def State.wipe (s : State) (a n : Nat) : State :=
  { s with mem := s.mem.filter (fun c => ¬ (a ≤ c.1 ∧ c.1 < a + n)),
           ctext := s.ctext.filter (fun c => ¬ (a ≤ c.1 ∧ c.1 < a + n)) }

/-! ### Control stores (07 R127, R131) -/

/-- The XOR of the `n` low bits of a word. -/
def oddOnes (n w : Nat) : Bool := (List.range n).foldl (fun b i => b != bit w i) false
/-- A control-store word with its 8 parity bits: bit k makes data bits [16 k + 15 : 16 k] even (R127). -/
def withParity (w : Nat) : Nat :=
  w % 2 ^ 128 + 2 ^ 128 * maskOf ((List.range 8).filter (fun k => oddOnes 16 (bits w (16 * k) 16)))
/-- The parity of a control-store word is correct. -/
def wordParityOk (w : Nat) : Bool := (List.range 8).all (fun k => oddOnes 16 (bits w (16 * k) 16) == bit w (128 + k))
/-- A dispatch entry with bit 15 making bits [15:0] even (R131). -/
def entryParity (d : Nat) : Nat := d % 2 ^ 15 + 2 ^ 15 * b2n (oddOnes 15 d)
def entryParityOk (d : Nat) : Bool := !oddOnes 16 d

/-- The region loader writes an engine's control store and dispatch table from the region's verified copy (01 R16). -/
def State.loadStore (s : State) (e : Nat) : State :=
  let i : McImage := Tbl.get {} s.micro (rgnOfTe e)
  { s with stores := Tbl.set {} s.stores e { words := i.words.map withParity, entries := i.dispatch.map entryParity } }

/-- The region loader's verified copy in bank memory (01 R16). -/
def State.setCopy (s : State) (r : Nat) (i : McImage) : State := { s with micro := Tbl.set {} s.micro r i }

/-- Step 5 of an install begins in region `r` at uptime `at_`: its verified copy is replaced, no store holds the new image
yet (07 R148). -/
def State.installBegin (s : State) (r at_ : Nat) : State :=
  (match s.nor.mcStage with
   | some (_, i, _) => s.setCopy r i
   | none => s).modRgn r (fun y => { y with instOn := true, instAt := at_, holding := [] })

/-- One root edge of step 5 of an install: each region loader writes its 24 control stores one at a time, 40 µs each,
from the end of a reload in progress on (07 R148, R149). -/
def State.installStep (s : State) : State :=
  forEach [0, 1, 2, 3] (fun r t =>
    let x := t.rgn r
    match x.instN with
    | none => t
    | some n =>
      if 24 ≤ n then t
      else if ¬ x.instOn then
        (if x.reloads.isEmpty then t.installBegin r x.reloadAt else t)
      else if x.instAt + 40 * fsUs ≤ t.up then
        (t.loadStore (24 * r + n)).modRgn r (fun y => { y with
          instN := some (n + 1), instAt := y.instAt + 40 * fsUs, holding := y.holding.filter (· != 24 * r + n) ++ [24 * r + n]
          instOn := decide (n + 1 < 24), reloadAt := if n + 1 < 24 then y.reloadAt else t.up })
      else t) s

/-! ### Interrupts (05 R93, 16 R338) -/

/-- One message on a vector of a function, or its pending bit when the vector is masked or MSI-X disabled. -/
def State.msix (s : State) (fn v : Nat) : State :=
  let f := s.fn fn
  if f.msixOn ∧ Tbl.get false f.msixOpen v then s.emit (.msix fn v)
  else s.modFn fn (fun f => { f with msixPend := Tbl.set false f.msixPend v true })

/-- One message for each bit of `m` on the page's vector, except that PWR causes leave only while the link of
endpoint 0 is up (03 R63). -/
def State.pageMsgs (s : State) (ty inst m : Nat) : State :=
  let h := s.hdr ty inst
  if ty = Ty.pwr ∧ ¬ s.link0 then s
  else forEach (bitList m 32) (fun _ t => t.msix (fnOfOwner h.owner) h.vector) s

/-- Set cause bits of a page; each bit of STATUS AND ENABLE that goes from 0 to 1 sends one message (R93). -/
def State.cause (s : State) (ty inst m : Nat) : State :=
  let h := s.hdr ty inst
  let new := risen h.irqStatus m
  (s.modHdr ty inst (fun h => { h with irqStatus := h.irqStatus ||| m })).pageMsgs ty inst (new &&& h.irqEnable)

/-- The cause bits a page defines (each block's own chapter). -/
def causesOf : Nat → Nat
  | 0x00 => 0x7      -- GLB: MODE, SAFE_CAUSE, MODE_REJECT (05 R96)
  | 0x01 => 0x3F     -- PWR (03 R63)
  | 0x02 => 0xF      -- CLK (03 R73)
  | 0x03 => 0x7F     -- SYNC (04 R84)
  | 0x04 => 0x7      -- SEC: TAMPER, LC_DONE, IDE_CHANGE (17 R382)
  | 0x06 => 0x3      -- SITE: BURST, MODE (16 R352)
  | 0x07 => 0x1      -- QMGR: DB_DROP (15 R333)
  | 0x08 => 0x1      -- BMEM: TEST_FAIL (15 R331)
  | 0x09 => 0x3      -- HBM: UNCORR, DEGRADE (15 R332)
  | 0x0A => 0x7      -- ERR: FATAL, LOST, RETIRED (18 R401)
  | 0x0C => 0x7      -- CAL: DONE, FAIL, WAITING (14 R302)
  | 0x10 => 0x7      -- TE: MCHECK, RELOADED, RETIRED (07 R150)
  | 0x11 => 0x1F     -- TG (09 R197)
  | 0x12 => 0x3      -- CMP (11 R246)
  | 0x13 => 0x7F     -- PE (10 R220)
  | 0x14 => 0x7      -- LVL (10 R221)
  | 0x15 => 0xF      -- MADC (12 R261)
  | 0x16 => 0xF      -- ACQ (13 R279)
  | 0x17 => 0x1      -- HIST: SAT (18 R403)
  | 0x18 => 0x7      -- FCU (11 R247)
  | 0x1A => 0x3      -- CLU (14 R303)
  | 0x1B => 0x7      -- RGN: WARN, SHUTDOWN, COOL (19 R418)
  | _ => 0

/-! ### Queues the module produces into (15 R317 to R322, R328) -/

def QDesc.slots (d : QDesc) : Nat := 2 ^ d.log2
def QDesc.used (d : QDesc) : Nat := (d.tail + d.slots - d.head) % d.slots
/-- Slots free for the producer; a queue with ENABLE = 0 counts as full (R320). -/
def QDesc.room (d : QDesc) : Nat := if d.enable then d.slots - 1 - d.used else 0
/-- Slot size by TYPE (R318). -/
def slotSize : Nat → Nat
  | 1 => 64 | 2 => 16 | 3 => 32 | 4 => 32 | 5 => 64 | _ => 16
/-- The function a queue belongs to (descriptor's OWNER and OWNER_FN, R319). -/
def QDesc.fn (d : QDesc) : Nat := if d.ownerFn then 0 else d.owner + 1
/-- The site whose range holds queue q; 16 for the owner function (R319). -/
def State.qOwner (s : State) (q : Nat) : Nat :=
  ((List.range 16).find? (fun i => (s.site i).qBase ≤ q && q < (s.site i).qBase + (s.site i).qCount)).getD 16

/-- Bank-memory region of an offset is borrowed by the tester. -/
def State.borrowed (s : State) (off : Nat) : Bool := s.bmem.active && s.bmem.region == off >>> 16

/-- An access to the borrowed region goes to the shadow; a write during the march abandons the region (R311). -/
def State.shadowHit (s : State) (off : Nat) (write : Bool) : State :=
  if ¬ s.borrowed off then s
  else
    let s1 := s.modBmem (fun b => { b with shadowHits := satAdd sat32 b.shadowHits 1 })
    if write ∧ s.bmem.marching then
      s1.modBmem (fun b => { b with
        marching := false, active := false, abandoned := satAdd sat8 b.abandoned 1, retest := b.retest ++ [b.region] })
    else s1

/-- An access to the device addresses [a, a + n): each word of bank memory it touches is one access (R310, R311). -/
def State.bankHits (s : State) (a n : Nat) (write : Bool) : State :=
  if ¬ s.bmem.active ∨ a < bankBase ∨ n = 0 then s
  else forEach (List.range ((a + n - 1 - bankBase) / 32 - (a - bankBase) / 32 + 1))
    (fun i t => t.shadowHit ((a - bankBase) / 32 * 32 + 32 * i) write) s
/-- An access to a queue's descriptor in the queue table (R317). -/
def State.qHit (s : State) (q : Nat) (write : Bool) : State := s.bankHits (bankBase + 16 * q) 16 write

/-- Write consecutive slots of a queue's body from TAIL, wrapping at the end, and advance TAIL; a message when the
queue goes from empty to not empty with IRQ_EN (R322). The caller has checked the room. -/
def State.produce (s : State) (q : Nat) (slots : List (List Byte)) : State :=
  let d := s.queue q
  let s1 := (slots.foldl (fun (p : State × Nat) b =>
    ((p.1.bankHits (d.base + slotSize d.type * p.2) b.length true).setBytes (d.base + slotSize d.type * p.2) b,
      (p.2 + 1) % d.slots)) (s.qHit q true, d.tail)).1
  let s2 := s1.modQueue q (fun d => { d with tail := (d.tail + slots.length) % d.slots })
  when (d.irqEn && d.head == d.tail && !slots.isEmpty && d.type != 1) (fun t => t.msix d.fn d.vector) s2

/-- The HBM stack of a device address (R313). -/
def hbmStack (a : Nat) : Nat := (a >>> 12) % 3

/-- The stack that holds the next slot of a queue, none for a queue in bank memory. -/
def State.tailStack (s : State) (q : Nat) : Option Hbm :=
  let d := s.queue q
  if d.base < hbmTop then some (s.hbm (hbmStack (d.base + slotSize d.type * d.tail))) else none
/-- The acquisition class of the stack that takes a queue's next slot is under back-pressure (R316): the stack reports
back-pressure and throttles the class (DEDUCED, log entry 57). -/
def State.acqHeld (s : State) (q : Nat) : Bool := (s.tailStack q).any (fun h => h.bp && h.degAcq)
/-- Queue traffic, class 1, of the stack that takes a queue's next slot is under back-pressure (R315, R316). -/
def State.bpHeld (s : State) (q : Nat) : Bool := (s.tailStack q).any (·.bpQueue)

/-- Split bytes into slots of `n` bytes. -/
def chunks (n : Nat) : Nat → List Byte → List (List Byte)
  | 0, _ => []
  | k + 1, l => if l.isEmpty then [] else l.take n :: chunks n k (l.drop n)

/-- A stream record of 16 × n bytes written whole when the stream queue has room; the Bool says whether. -/
def State.stream (s : State) (q : Nat) (rec : List Byte) : State × Bool :=
  let n := (rec.length + 15) / 16
  if n ≤ (s.queue q).room then
    ((s.produce q (chunks 16 n rec)).modQueue q (fun d => { d with recs := d.recs ++ [n] }), true)
  else (s, false)

/-- Records left after `n` slots are consumed, none when `n` splits a record. -/
def recsAfter : List Nat → Nat → Option (List Nat)
  | l, 0 => some l
  | [], _ + 1 => none
  | r :: t, n + 1 => if r ≤ n + 1 ∧ 0 < r then recsAfter t (n + 1 - r) else none

/-- HEAD of a queue moved by its consumer; for a segment or command queue that becomes empty, the message of R322. -/
def State.consume (s : State) (q n : Nat) : State :=
  let d := s.queue q
  let s1 := (s.qHit q true).modQueue q (fun d => { d with
    head := (d.head + n) % d.slots, recs := (recsAfter d.recs n).getD [], shown := d.shown.drop n })
  when (d.irqEn && decide (0 < n) && (s1.queue q).head == d.tail && (d.type == 1 || d.type == 5))
    (fun t => t.msix d.fn d.vector) s1

/-- A completion entry (R328). -/
def cplBytes (kind status id tt : Nat) (result : List Byte) : List Byte :=
  le 1 kind ++ le 1 0 ++ le 2 status ++ le 4 id ++ le 8 tt ++ (result ++ List.replicate 16 0).take 16

/-- Post a completion to a queue, or hold it while the queue has no room (R321). -/
def State.postCpl (s : State) (fn q : Nat) (entry : List Byte) : State :=
  if 0 < (s.queue q).room ∧ (s.fn fn).held.all (fun h => h.1 != q) then s.produce q [entry]
  else s.modFn fn (fun f => { f with held := f.held ++ [(q, entry)] })

/-! ### The ERR log (18 R392 to R395) -/

/-- The 32 bytes of a log entry (R392). -/
def ErrEntry.bytes (e : ErrEntry) : List Byte :=
  le 2 e.code ++ le 1 e.site ++ le 1 e.ty ++ le 1 e.inst
    ++ le 1 (b2n (decide (1 < e.count)) + 2 * b2n e.transient + 4 * b2n e.permanent)
    ++ le 2 e.seq ++ le 8 e.firstTT ++ le 8 e.lastTT ++ le 4 e.count ++ le 4 e.detail

/-- Post an entry to a site's log queue while LOG_EN and VALID are 1; a full queue drops and counts it (15 R321). -/
def State.postLog (s : State) (st : Nat) (e : List Byte) : State :=
  let x := s.site st
  if x.logEn ∧ x.logQValid then
    if 0 < (s.queue x.logQ).room ∧ x.logLost = 0 then s.produce x.logQ [e]
    else s.modSite st (fun x => { x with
      logLost := satAdd sat32 x.logLost 1, lostFirst := if x.logLost = 0 then s.now else x.lostFirst, lostLast := s.now })
  else s

/-- The sites whose log queues take a copy of a closed entry (R395). -/
def State.copySites (s : State) (e : ErrEntry) : List Nat :=
  if e.site < 16 then [e.site]
  else if e.code = Code.unitRetired ∧ bits e.detail 0 3 = 1 then
    (List.range 16).filter (fun i => bit (s.site i).teMask (bits e.detail 8 8))
  else []

/-- Site copies of a closing entry. -/
def State.copyEntry (s : State) (e : ErrEntry) : State :=
  forEach (s.copySites e) (fun i t => t.postLog i e.bytes) s

/-- Close every open entry of the ring that `p` names, in SEQ order, with its site copies (R393). -/
def State.closeEntries (s : State) (p : ErrEntry → Bool) : State :=
  let dueL := s.err.ring.filter (fun e => e.open_ && p e)
  dueL.foldl (fun t e => t.copyEntry e)
    (s.modErr (fun l => { l with ring := l.ring.map (fun e => if e.open_ && p e then { e with open_ := false } else e) }))

/-- Entries whose FIRST_TT lies 1 ms or more back close before any error of this TT is judged (R393). -/
def State.closeDue (s : State) : State := s.closeEntries (fun e => ttLe (e.firstTT + fsMs) s.now)

/-- A new entry can be written now: 100 ns since the last, room in the ring (R394). -/
def State.errCanWrite (s : State) : Bool :=
  (s.err.ring.length < 4096) &&
    (match s.err.lastWrite with | none => true | some t => decide (t + 100 * fsNs ≤ s.up))

def openCount (l : List ErrEntry) : Nat := (l.filter (·.open_)).length

/-- The open entry with the earliest FIRST_TT. -/
def earliest : List ErrEntry → Option ErrEntry
  | [] => none
  | e :: t => match earliest t with
    | none => if e.open_ then some e else none
    | some x => if e.open_ ∧ ttLe e.firstTT x.firstTT then some e else some x

/-- Write a new entry: it takes the next number, closes at once for classes 0xE, 0xF and transients, a 65th open entry
closes the earliest, and the ERR causes are set (R393, R395). -/
def State.writeEntry (s : State) (e : ErrEntry) : State :=
  let atOnce := decide (0xE000 ≤ e.code) || e.transient
  let e' := { e with seq := s.err.nextSeq, open_ := !atOnce }
  let s0 := if !atOnce ∧ 64 ≤ openCount s.err.ring then
      (match earliest s.err.ring with | some x => s.closeEntries (fun y => y.seq == x.seq) | none => s)
    else s
  let s1 := s0.modErr (fun l => { l with ring := l.ring ++ [e'], nextSeq := (l.nextSeq + 1) % 65536,
                                         lastWrite := some s.up })
  let s2 := if atOnce then s1.copyEntry e' else s1
  s2.cause Ty.err 0
    ((if e.code / 4096 = 0xE then 1 else 0) + (if e.code = Code.errLost then 2 else 0)
      + (if e.code = Code.unitRetired ∨ e.code = Code.chRetired then 4 else 0))

/-- The errors that wait in the reserve instead of being missed (R394). -/
def reservedKind (e : ErrEntry) : Bool :=
  e.code / 4096 == 0xE || e.code == Code.unitRetired || e.code == Code.chRetired || e.code == Code.sliceSpared
    || e.code == Code.retireCleared || (e.transient && e.permanent)

/-- While a new entry can be written, a waiting reserved error is written, then the ERR_LOST entry (R394). -/
def State.errDrain (s : State) : State :=
  if s.errCanWrite then
    match s.err.reserve with
    | e :: t => (s.modErr (fun l => { l with reserve := t })).writeEntry e
    | [] =>
      if s.err.missed = 0 then s
      else (s.modErr (fun l => { l with missed := 0 })).writeEntry
        { code := Code.errLost, site := 16, ty := Ty.err, inst := 0, firstTT := s.err.missFirst,
          lastTT := s.err.missLast, count := s.err.missed }
  else s

/-- An error that opens a new entry: written, kept in the reserve, or missed (R394). -/
def State.newEntry (s : State) (e : ErrEntry) : State :=
  let s := s.errDrain
  if s.errCanWrite then s.writeEntry e
  else if reservedKind e ∧ s.err.reserve.length < 1024 then s.modErr (fun l => { l with reserve := l.reserve ++ [e] })
  else s.modErr (fun l => { l with
    lost := satAdd sat32 l.lost 1, missed := satAdd sat32 l.missed 1
    missFirst := if l.missed = 0 then s.now else l.missFirst, missLast := s.now })

/-- The error coalesces into this entry at TT t (R393). -/
def ErrEntry.joins (e : ErrEntry) (code ty inst t : Nat) : Bool :=
  e.open_ && e.code == code && e.ty == ty && e.inst == inst && ttLe e.firstTT t && ttLt t (e.firstTT + fsMs)

/-- Raise an error of TT `tt`: counted on its source page, coalesced, or a new entry (R393). `site` is the site it is
attributable to. -/
def State.raiseAt (s : State) (tt code ty inst : Nat) (site : Option Nat) (detail : Nat) (tr perm : Bool) : State :=
  let s := s.closeDue
  let s := s.modHdr ty inst (fun h => { h with errCount := satAdd sat16 h.errCount 1, lastCode := code })
  let s := s.modErr (fun l => { l with lastCode := code, lastTy := ty, lastInst := inst })
  if !tr && s.err.ring.any (fun e => e.joins code ty inst s.now) then
    s.modErr (fun l => { l with ring := l.ring.map (fun e =>
      if e.joins code ty inst s.now then { e with count := satAdd sat32 e.count 1, lastTT := tt } else e) })
  else s.newEntry { code := code, site := site.getD 16, ty := ty, inst := inst, transient := tr, permanent := perm,
                    firstTT := tt, lastTT := tt, detail := detail }

/-- Raise an error at the present TT. -/
def State.raiseFull (s : State) (code ty inst : Nat) (site : Option Nat) (detail : Nat) (tr perm : Bool) : State :=
  s.raiseAt s.now code ty inst site detail tr perm

/-- Raise an error that is no transient, with DETAIL 0 or as given. -/
def State.raise (s : State) (code ty inst : Nat) (site : Option Nat := none) (detail : Nat := 0) : State :=
  s.raiseFull code ty inst site detail false false

/-- The site of an OWNER code, none for the owner function. -/
def siteOpt (o : Nat) : Option Nat := if o < 16 then some o else none

/-- An error against a page, attributed to the site that owns the page. -/
def State.raisePage (s : State) (code ty inst : Nat) : State := s.raise code ty inst (siteOpt (s.hdr ty inst).owner)

/-! ### Reaching a page (02 R34, R36; 05 R85 to R89) -/

/-- The modes that must both permit an activity: the old mode and TARGET while BUSY (02 R36). -/
def State.modes (s : State) : List Mode :=
  if s.stage ≠ .on then [.off] else if s.glb.busy then [s.glb.mode, s.glb.target] else [s.glb.mode]
def State.inMode (s : State) (l : List Mode) : Bool := s.modes.all (fun m => l.contains m)
/-- A site is open only in READY, CAL, RUN and SERVICE (02 R34). -/
def State.siteOpen (s : State) : Bool := s.inMode [.ready, .cal, .run, .service]

/-- Endpoint of a function (16 R334). -/
def State.endpointOf (s : State) (fn : Nat) : Nat :=
  if fn = 17 then 1 else if s.bifur ∧ 9 ≤ fn then 1 else 0
/-- A function of the layout the PCIE_BIFUR strap selected: the owner function, the auxiliary function in layout 1, and a
virtual function while it is enabled (R334). -/
def State.fnExists (s : State) (fn : Nat) : Bool :=
  match siteOfFn fn with | some k => (s.site k).vfOn | none => decide (fn = 0 ∨ (fn = 17 ∧ s.bifur))
/-- Requests reach the function: its link is up, and a virtual function is enabled, or under the reset that the clearing of
its VF Enable is (R339). -/
def State.fnUp (s : State) (fn : Nat) : Bool :=
  (if s.endpointOf fn = 1 then s.link1 else s.link0) && (s.fnExists fn || (s.fn fn).inReset)

/-- A PCIe error is reported by AER on a function (R340). -/
def State.aerReport (s : State) (fn : Nat) (r : AerReport) : State :=
  s.modFn fn (fun f => { f with aer := if f.aer.contains r then f.aer else f.aer ++ [r] })
/-- A request to a function under reset draws Unsupported Request (R339). -/
def State.refuseReset (s : State) (fn : Nat) : State := (s.aerReport fn .unsupportedRequest).emit (.unsupported fn)

/-- What an endpoint's capability structures advertise, by layout (R335). -/
def State.pcieCaps (s : State) : PcieCaps :=
  if s.bifur then { widths := [8, 4, 2, 1], totalVfs := 8 } else { widths := [16, 8, 4, 2, 1], totalVfs := 16 }

/-- The die revision: 1, the one whose identification code 19 R413 states. -/
def dieRevision : Nat := 1
/-- Vendor ID, Device ID, class code, revision ID, subsystem vendor ID and subsystem ID that the configuration space of a
function reads (R336); none for a function that is not there. -/
def State.configIds (s : State) (fn : Nat) : Option (List Nat) :=
  let dev := if fn = 0 then 0x0192 else if fn = 17 then 0x0194 else 0x0193
  if s.fnExists fn then some [0x1E5F, dev, 0x118000, dieRevision, 0x1E5F, dev] else none

/-- Bytes of each BAR of a function: register window, doorbell aperture, MSI-X table; none for the auxiliary function
(R334, R337). -/
def barBytes (fn bar : Nat) : Option Nat :=
  if 17 ≤ fn then none
  else match bar with
    | 0 => some (256 * 2 ^ 20)
    | 2 => some (8 * 2 ^ 10)
    | 4 => some (if fn = 0 then 16 * 2 ^ 10 else 8 * 2 ^ 10)
    | _ => none

/-- A BAR of a function (R337). -/
def barOf (fn bar : Nat) : Option Bar := (barBytes fn bar).map (fun n => { bytes := n })

/-- A page is mapped (R85). -/
def mapped (ty inst : Nat) : Bool := decide (inst < Ty.count ty)
def isBcast (ty inst : Nat) : Bool := decide (0 < Ty.count ty) && (inst == 0xFF || (decide (0xE0 ≤ inst) && decide (inst < 0xFF)))

/-- Registers the block index marks "every function" (R97), and BLK_ID and BLK_CAP. R89 denies a site every TE register
but two while the header tables let every function read BLK_ID and BLK_CAP: the header tables hold here, on TE pages too
(DESIGN CHOICE, log entry 55). -/
def sharedReg (ty off : Nat) : Bool :=
  off == 0x000 || off == 0x004 ||
  (ty == Ty.glb && [0x044, 0x050, 0x054, 0x058, 0x05C, 0x060, 0x064].contains off) ||
  (ty == Ty.clk && [0x040, 0x044, 0x048].contains off) ||
  (ty == Ty.sec && [0x044, 0x060, 0x064].contains off) ||
  (ty == Ty.clu && off == 0x048) || (ty == Ty.rgn && off == 0x044)

/-- Windows of a page that belong to a site (R89, R97): its partition window in an FCU page, its copies of the QMGR
descriptor registers, TE_STATUS and TE_DEQUE_DEPTH of its engines (reads). -/
def State.siteWindow (s : State) (k ty inst off : Nat) (write : Bool) : Bool :=
  (ty == Ty.fcu && decide (0x400 + 0x40 * k ≤ off) && decide (off < 0x440 + 0x40 * k)) ||
  (ty == Ty.qmgr && decide (0x044 ≤ off) && decide (off ≤ 0x058)) ||
  (ty == Ty.te && !write && (off == 0x040 || off == 0x04C) && bit (s.site k).teMask inst)

/-- The registers of an own page that a site may only read: BLK_OWNER and the grant registers of its SITE page. -/
def siteReadOnly (ty off : Nat) : Bool :=
  off == 0x020 || (ty == Ty.site && decide (0x060 ≤ off) && decide (off ≤ 0x08C))

/-- The function may make this access (R89, with R34 and R36 for the modes). -/
def State.mayAccess (s : State) (fn ty inst off : Nat) (write : Bool) : Bool :=
  let own : Bool := match siteOfFn fn with
    | none => fn == 0
    | some k =>
      if (s.hdr ty inst).owner = k ∧ ty ≠ Ty.te then !(write && siteReadOnly ty off)
      else s.siteWindow k ty inst off write || (!write && sharedReg ty off)
  own && (!write ||
    ((s.inMode [.ready, .cal, .run, .service] || (fn == 0 && (ty == Ty.glb || ty == Ty.sec || ty == Ty.err))) &&
     (fn == 0 || s.siteOpen) &&
     (fn == 0 || s.inMode [.ready, .run] || !([Ty.tg, Ty.cmp, Ty.pe, Ty.lvl].contains ty))))

def pageOff (ty inst off : Nat) : Nat := ty * 2 ^ 20 + inst * 2 ^ 12 + off

/-- A denied access: counted for the requester and logged ACCESS_DENIED (R89). -/
def State.deny (s : State) (fn ty inst off : Nat) (write : Bool) : State :=
  let a := pageOff ty inst off
  (s.modFn fn (fun f => { f with deniedCount := satAdd sat32 f.deniedCount 1, deniedOff := a, deniedWrite := write })).raise
    Code.accessDenied ty inst (siteOfFn fn) (a + b2n write * 2 ^ 31)

/-- An access to an unmapped page (R86, R392). -/
def State.denyUnmapped (s : State) (fn ty inst off : Nat) (write : Bool) : State :=
  s.raise Code.regUnmapped Ty.glb 0 (siteOfFn fn) (pageOff ty inst off + b2n write * 2 ^ 31)

/-- A write to a locked field, or a site's soft reset of a locked page: ignored and logged REG_LOCKED (R87, R91, R392). -/
def State.locked (s : State) (fn ty inst off : Nat) : State :=
  s.raise Code.regLocked ty inst (siteOfFn fn) (pageOff ty inst off + 2 ^ 31)

/-- The page lies on an analog die whose solder link is down: it reads 0 and drops writes, unlogged (R88). -/
def State.pageDead (s : State) (ty inst : Nat) : Bool :=
  ((ty == Ty.pe || ty == Ty.lvl) && bit s.glb.linksDown (inst / 48)) || (ty == Ty.madc && bit s.glb.linksDown (inst / 6))

/-- The register is a sealed register of a site (17 R361). -/
def State.sealedReg (s : State) (ty inst off : Nat) : Bool :=
  decide (Ty.tg ≤ ty ∧ ty ≤ Ty.lvl) &&
    (s.secSite (s.hdr ty inst).owner).regs.contains (pageOff ty inst off)

/-- A register write under the checks every write takes first: a function that can send, not under reset, a mapped
page, one on a dead link dropped unlogged (R88), access under R89; a retired page ignores every write but BLK_OWNER
(R92). -/
def State.onWrite (s : State) (fn ty inst off : Nat) (op : State → State) : State :=
  if ¬ s.fnUp fn then s
  else if (s.fn fn).inReset then s.refuseReset fn
  else if ¬ mapped ty inst then s.denyUnmapped fn ty inst off true
  else if s.pageDead ty inst then s
  else if ¬ s.mayAccess fn ty inst off true ∨ s.sealedReg ty inst off then s.deny fn ty inst off true
  else if (s.hdr ty inst).retired ∧ off ≠ 0x020 then s
  else op s

/-- A register read under the same checks; `v` is the value, `op` the side effect. A refused read returns 0. -/
def State.onRead (s : State) (fn ty inst off : Nat) (op : State → State × Nat) : State :=
  if ¬ s.fnUp fn then s
  else if (s.fn fn).inReset then s.refuseReset fn
  else if isBcast ty inst then s.emit (.word fn 0)
  else if ¬ mapped ty inst then (s.denyUnmapped fn ty inst off false).emit (.word fn 0)
  else if s.pageDead ty inst then s.emit (.word fn 0)
  else if ¬ s.mayAccess fn ty inst off false then (s.deny fn ty inst off false).emit (.word fn 0)
  else if s.sealedReg ty inst off then s.emit (.word fn 0)
  else let r := op s; r.1.emit (.word fn r.2)

/-- The instance serves a site that is not IDLE (R91, R92): by the OWNER of its page. -/
def State.ownerBusy (s : State) (ty inst : Nat) : Bool := !s.siteIdle (s.hdr ty inst).owner

end Sys2Proof.Machine
end

