-- ==== Sys2Proof/Machine/Queue.lean ====
section
/-! DEFINITION. Family: doorbells, pushes, queue descriptors, held completions and lost log entries
(15_memory_and_queues.md R317 to R325); delivery of result records to stream queues (17_security.md R371, R372). -/

namespace Sys2Proof.Machine

/-- A dropped doorbell or push: counted, QMGR cause DB_DROP, logged with function and queue (R324). -/
def State.dbDrop (s : State) (fn q code : Nat) : State :=
  ((s.modQmgr (fun m => { m with dbDrop := satAdd sat32 m.dbDrop 1 })).cause Ty.qmgr 0 1).raise
    code Ty.qmgr 0 (siteOfFn fn) (q % 2 ^ 20 + (fn % 32) * 2 ^ 20)

/-- The function is under reset. -/
def State.inReset (s : State) (fn : Nat) : Bool := (s.fn fn).inReset

/-- A doorbell of function `fn` for queue `q`: dropped unless the function is served, the queue manager is ready, the
queue belongs to it and is enabled, and `ok` holds (R324). -/
def State.doorbell (s : State) (fn q : Nat) (ok : QDesc → Bool) (act : State → State) : State :=
  if ¬ s.fnUp fn then s
  else if s.inReset fn ∨ ¬ s.qmgr.ready ∨ s.qOwner q ≠ ownerOfFn fn ∨ fn = 17 then s.dbDrop fn q Code.queueDbDrop
  else if (s.queue q).enable ∧ ok (s.queue q) then act s
  else s.dbDrop fn q Code.queueDbDrop

/-- The queue is the bound queue of its sealed site: TAIL doorbells and pushes are dropped (17 R370). -/
def State.isBound (s : State) (q : Nat) : Bool := (s.secSite (s.qOwner q)).boundQ == some q

/-- TAIL of a segment or command queue moves to `index`; new entries of a command queue become visible at `at_`. -/
def QDesc.append (d : QDesc) (index at_ : Nat) : QDesc :=
  { d with
    tail := index
    shown := if d.type = 5 then d.shown ++ List.replicate ((index + d.slots - d.tail) % d.slots) at_ else [] }

/-- DOORBELL_TAIL: DB with OP TAIL on a segment or command queue (R324). -/
def execDoorbellTail (fn q index : Nat) (s : State) : Host.Outcome State Fault Refusal :=
  onUnit (decide (fn < 18 ∧ q < 2 ^ 20)) (s.doorbell fn q
    (fun d => (d.type == 1 || d.type == 5) && !s.isBound q && decide (index < d.slots)
      && decide (d.used ≤ (index + d.slots - d.head) % d.slots))
    (fun t => (t.qHit q true).modQueue q (fun d => d.append index t.uptime)))

/-- DOORBELL_HEAD: DB with OP HEAD on a stream, completion or log queue; a stream record is never split (R324). -/
def execDoorbellHead (fn q index : Nat) (s : State) : Host.Outcome State Fault Refusal :=
  onUnit (decide (fn < 18 ∧ q < 2 ^ 20)) (s.doorbell fn q
    (fun d => (d.type == 2 || d.type == 3 || d.type == 4) && decide (index < d.slots)
      && decide ((index + d.slots - d.head) % d.slots ≤ d.used)
      && (d.type != 2 || (recsAfter d.recs ((index + d.slots - d.head) % d.slots)).isSome))
    (fun t => t.consume q ((index + (t.queue q).slots - (t.queue q).head) % (t.queue q).slots)))

/-- OP RELEASE sets RELEASED; a queue already released is left as it is (R324, 08 R165). -/
def State.qRelease (s : State) (fn q index : Nat) : State :=
  s.doorbell fn q
    (fun d => d.type == 1 && decide (index < d.slots)
      && [Burst.idle, Burst.armed, Burst.running].contains (s.siteSt (ownerOfFn fn)))
    (fun t => (t.qHit q true).modQueue q (fun d => { d with released := true }))

/-- DOORBELL_RELEASE: the 8 bytes of DB with an OP that is neither TAIL nor HEAD; of these only RELEASE, 2, passes the
checks (R323, R324). -/
def execDoorbellRelease (fn db : Nat) (s : State) : Host.Outcome State Fault Refusal :=
  onUnit (decide (fn < 18 ∧ db < 2 ^ 64 ∧ 2 ≤ bits db 20 4)) (
    if bits db 20 4 = 2 then s.qRelease fn (bits db 0 20) (bits db 32 24)
    else s.doorbell fn (bits db 0 20) (fun _ => false) (fun t => t))

/-- A 4-byte write in the doorbell aperture but for PUSH: PUSH_SEL selects the queue that receives pushes and discards the
staging entry; a partial write of DB is dropped as a doorbell; any other is dropped (R323 to R325). -/
def State.barWrite (s : State) (fn off val : Nat) : State :=
  if off = 8 then (if s.inReset fn then s.refuseReset fn else s.modFn fn (fun f => { f with pushSel := val % 2 ^ 20, push := [] }))
  else if off < 8 then s.doorbell fn (if off < 4 then bits val 0 20 else 0) (fun _ => false) (fun t => t)
  else s

/-- PUSH_SEL_WRITE: a write in the doorbell aperture, or a read, of PUSH_SEL or of an offset that reads 0 (R323, R325). -/
def execPushSelWrite (fn : Nat) (a : BarAccess) (s : State) : Host.Outcome State Fault Refusal :=
  onUnit (decide (fn < 17)) (
    if ¬ s.fnUp fn then s
    else match a with
      | .write off val => s.barWrite fn off val
      | .read off => if s.inReset fn then s.refuseReset fn else s.emit (.word fn (if off = 8 then (s.fn fn).pushSel else 0)))

/-- Bytes written to PUSH staged from byte `off` on. -/
def stageBytes (push : Tbl (Option Nat)) : Nat → List Byte → Tbl (Option Nat)
  | _, [] => push
  | off, b :: t => stageBytes (Tbl.set none push off (some b.toNat)) (off + 1) t

/-- The staged entry when every byte has been written since the last append. -/
def stagedEntry (push : Tbl (Option Nat)) : Option (List Byte) :=
  if (List.range 64).all (fun k => (Tbl.get none push k).isSome) then
    some ((List.range 64).map (fun k => BitVec.ofNat 8 ((Tbl.get none push k).getD 0)))
  else none

/-- PUSH: bytes collect in the function's staging entry; the write of byte 63 appends a complete entry (R325). -/
def State.pushBytes (s : State) (fn off : Nat) (data : List Byte) : State :=
  let push := stageBytes (s.fn fn).push off data
  if off + data.length ≠ 64 ∨ data = [] then s.modFn fn (fun f => { f with push := push })
  else
    let q := (s.fn fn).pushSel
    let d := s.queue q
    match stagedEntry push with
    | none => s.dbDrop fn q Code.queueDbDrop
    | some e =>
      if s.qmgr.ready ∧ s.qOwner q = ownerOfFn fn ∧ d.enable ∧ (d.type = 1 ∨ d.type = 5) ∧ ¬ s.isBound q then
        if 0 < d.room then
          (((s.modFn fn (fun f => { f with push := [] })).qHit q true).bankHits (d.base + 64 * d.tail) 64 true).setBytes
            (d.base + 64 * d.tail) e |>.modQueue q (fun d => d.append ((d.tail + 1) % d.slots) s.uptime)
        else (s.modFn fn (fun f => { f with push := push })).dbDrop fn q Code.queueFull
      else s.dbDrop fn q Code.queueDbDrop

def execPushWrite (fn off : Nat) (data : List Byte) (s : State) : Host.Outcome State Fault Refusal :=
  onUnit (decide (fn < 17 ∧ off + data.length ≤ 64)) (
    if ¬ s.fnUp fn then s
    else if (s.fn fn).inReset then s.refuseReset fn
    else s.pushBytes fn off data)

/-- A descriptor as its 128-bit value (R317). -/
def QDesc.word (d : QDesc) : Nat :=
  d.base % 2 ^ 40 + (d.log2 % 32) * 2 ^ 40 + (d.head % 2 ^ 24) * 2 ^ 45 + (d.tail % 2 ^ 24) * 2 ^ 69
    + (d.owner % 16) * 2 ^ 93 + (d.type % 8) * 2 ^ 97 + b2n d.enable * 2 ^ 100 + b2n d.ownerFn * 2 ^ 101
    + b2n d.released * 2 ^ 102 + b2n d.irqEn * 2 ^ 103 + (d.vector % 2 ^ 12) * 2 ^ 108

/-- QMGR_DESC_CMD OP READ copies the selected descriptor into QMGR_DESC_0 to 3 (R319). -/
def State.descRead (s : State) (fn : Nat) : State :=
  let q := (s.fn fn).descSel
  if fn = 0 ∨ s.qOwner q = ownerOfFn fn then
    let w := (s.queue q).word
    (s.qHit q false).modFn fn (fun f => { f with
      desc0 := bits w 0 32, desc1 := bits w 32 32, desc2 := bits w 64 32, desc3 := bits w 96 32, descErr := 0 })
  else (s.modFn fn (fun f => { f with descErr := Code.ownerConflict })).raise Code.ownerConflict Ty.qmgr 0 (siteOfFn fn)

def execDescRead (fn : Nat) (s : State) : Host.Outcome State Fault Refusal :=
  onUnit (decide (fn < 18)) (s.onWrite fn Ty.qmgr 0 0x058 (fun t => t.descRead fn))

/-- A SYNC, FCU, ACQ or MADC register names the queue as enabled (R320 check 8). -/
def State.queueNamed (s : State) (q : Nat) : Bool :=
  ((List.range 4).any (fun n => (s.trigIn n).routeQ && (s.trigIn n).en && (s.trigIn n).queue == q))
    || ((List.range nClu).any (fun k => ((s.madc k).qValid && (s.madc k).queue == q)
        || ((s.acq k).qValid && (s.acq k).queue == q)))
    || ((List.range nRgn).any (fun r => (List.range nSite).any (fun i =>
        (Tbl.get {} (s.fcu r).parts i).qValid && (Tbl.get {} (s.fcu r).parts i).queue == q)))

/-- The checks of a descriptor WRITE in their order; 0 when all pass (R320). `w` is the 128-bit value written. A BASE
outside both memories is a PARAM_RANGE of check 4 (R304; the place in the order is DEDUCED, log entry 57). -/
def State.descCheck (s : State) (fn q w : Nat) : Nat :=
  let d := s.queue q
  let own := s.qOwner q
  let type := bits w 97 3
  let log2 := bits w 40 5
  let base := bits w 0 40
  let en := bit w 100
  if ¬ (fn = 0 ∨ own = ownerOfFn fn) then Code.ownerConflict
  else if bits w 104 4 ≠ 0 ∨ bits w 120 8 ≠ 0 then Code.paramRange
  else if d.enable ∧ (base ≠ d.base ∨ log2 ≠ d.log2 ∨ type ≠ d.type) then Code.blkBusy
  else if en ∧ ¬ d.enable ∧ ¬ (1 ≤ type ∧ type ≤ 5 ∧ 4 ≤ log2 ∧ log2 ≤ 24 ∧ base % 64 = 0 ∧ addrOk base) then Code.paramRange
  else if en ∧ ¬ d.enable ∧ ¬ s.granted own base (slotSize type * 2 ^ log2) then Code.ownerConflict
  else if (if own < 16 then 63 else 255) < bits w 108 12 then Code.paramRange
  else if bit w 102 ∧ type ≠ 1 then Code.paramRange
  else if bit w 102 ≠ d.released ∧ ¬ s.siteIdle own then Code.blkBusy
  else if d.enable ∧ ¬ en ∧ (s.queueNamed q ∨ ¬ s.siteIdle own) then Code.blkBusy
  else 0

/-- QMGR_DESC_CMD OP WRITE: checked, then stored with OWNER and OWNER_FN from the range rule; HEAD and TAIL of the
write are ignored and enabling sets both to 0 (R319, R320). -/
def State.descWrite (s : State) (fn : Nat) : State :=
  let f := s.fn fn
  let q := f.descSel
  let w := f.desc0 + f.desc1 * 2 ^ 32 + f.desc2 * 2 ^ 64 + f.desc3 * 2 ^ 96
  let code := s.descCheck fn q w
  let s := s.modFn fn (fun f => { f with descErr := code })
  if code ≠ 0 then s.raise code Ty.qmgr 0 (siteOfFn fn)
  else
    let own := s.qOwner q
    (s.qHit q true).modQueue q (fun d =>
      let fresh := bit w 100 && !d.enable
      { d with
        base := bits w 0 40, log2 := bits w 40 5, type := bits w 97 3, enable := bit w 100, released := bit w 102
        irqEn := bit w 103, vector := bits w 108 12, owner := if own < 16 then own else 0, ownerFn := own == 16
        head := if fresh then 0 else d.head, tail := if fresh then 0 else d.tail
        recs := if fresh then [] else d.recs, slip := if fresh then 0 else d.slip, shown := if fresh then [] else d.shown })

def execDescWrite (fn : Nat) (s : State) : Host.Outcome State Fault Refusal :=
  onUnit (decide (fn < 18)) (s.onWrite fn Ty.qmgr 0 0x058 (fun t => t.descWrite fn))

/-- The first held completion whose queue has room, and the others in order. -/
def takeHeld (room : Nat → Bool) : List (Nat × List Byte) → Option ((Nat × List Byte) × List (Nat × List Byte))
  | [] => none
  | h :: t => if room h.1 then some (h, t) else (takeHeld room t).map (fun r => (r.1, h :: r.2))

/-- HELD_COMPLETION_POST: the oldest held completion of a function whose queue has a free slot is posted (R321). -/
def State.postHeld (s : State) (fn : Nat) : State :=
  match takeHeld (fun q => decide (0 < (s.queue q).room)) (s.fn fn).held with
  | none => s
  | some (h, rest) => (s.modFn fn (fun f => { f with held := rest })).produce h.1 [h.2]

def execHeldCompletionPost (fn : Nat) (s : State) : Host.Outcome State Fault Refusal :=
  onUnit (decide (fn < 17)) (s.postHeld fn)

/-- LOG_LOST_ENTRY: with a slot free, a full site log queue gets its LOST entry with the count dropped (R321). -/
def State.logLostEntry (s : State) (st : Nat) : State :=
  let x := s.site st
  if 0 < x.logLost ∧ x.logEn ∧ x.logQValid ∧ 0 < (s.queue x.logQ).room then
    (s.produce x.logQ [ErrEntry.bytes
      { code := Code.errLost, site := 16, ty := Ty.err, inst := 0, firstTT := x.lostFirst, lastTT := x.lostLast
        count := x.logLost }]).modSite st (fun x => { x with logLost := 0 })
  else s

def execLogLostEntry (st : Nat) (s : State) : Host.Outcome State Fault Refusal :=
  onUnit (decide (st < 16)) (s.logLostEntry st)

/-! ### Result records on their way to stream queues, in sealed frames for a sealed site (17 R371, R372) -/

/-- IEEE 802.3 CRC-32 (06 R103). -/
def crc32 (l : List Byte) : Nat :=
  (l.foldl (fun c b => (List.range 8).foldl (fun c _ =>
    if c % 2 = 1 then (c / 2) ^^^ 0xEDB88320 else c / 2) (c ^^^ b.toNat)) 0xFFFFFFFF) ^^^ 0xFFFFFFFF
/-- Plaintext limit of a frame for a destination queue (R372). -/
def frameLimit (d : QDesc) : Nat := min 4096 (16 * (2 ^ d.log2 - 1) - 48)

/-- The stream record of a frame: header, ciphertext under Kr, tag (R371). -/
def frameBytes (x : SecSite) (st kind inst : Nat) (f : Frm) : List Byte :=
  let hdr : List Byte := [0x51, 0x46, 0x59, 0x52] ++ le 1 st ++ le 1 kind ++ le 1 inst ++ le 1 0 ++ le 8 f.seq
    ++ le 4 x.loadId ++ le 4 f.pt.length ++ le 8 0
  let nonce := le 1 kind ++ le 1 inst ++ le 2 0 ++ be 8 f.seq
  hdr ++ gcmSeal x.kr nonce hdr f.pt

def frmKey (kind inst : Nat) : Nat := kind * 256 + inst
def State.frm (s : State) (st kind inst : Nat) : Frm := Tbl.get {} (s.secSite st).frames (frmKey kind inst)
def State.modFrm (s : State) (st kind inst : Nat) (f : Frm → Frm) : State :=
  s.modSecSite st (fun x => { x with frames := Tbl.upd {} x.frames (frmKey kind inst) f })

/-- Close and write the open frame of a producer when its queue has room; the Bool says whether none is open after. -/
def State.closeFrame (s : State) (st kind inst q : Nat) : State × Bool :=
  let f := s.frm st kind inst
  if f.pt = [] then (s, true)
  else
    let r := s.stream q (frameBytes (s.secSite st) st kind inst f)
    if r.2 then (r.1.modFrm st kind inst (fun f => { f with pt := [], n := 0, seq := f.seq + 1 }), true) else (s, false)

/-- A sealed site with no container loaded: its records are discarded and counted as lost (R361). -/
def State.sealedEmpty (s : State) (o : Nat) : Bool := s.isSealed o && !(s.secSite o).loaded

/-- A whole record of a unit of owner `o` on its way to a stream queue: plain, or collected into the sealed frame of
its producer; true when it was taken. -/
def State.deliver (s : State) (o kind inst q : Nat) (rec : List Byte) : State × Bool :=
  if ¬ s.isSealed o then s.stream q rec
  else
    let lim := frameLimit (s.queue q)
    if lim < rec.length then (s, false)
    else
      let f := s.frm o kind inst
      let r := if lim < f.pt.length + rec.length then s.closeFrame o kind inst q else (s, true)
      if r.2 then (r.1.modFrm o kind inst (fun f => { f with pt := f.pt ++ rec, n := f.n + 1, last := s.up }), true) else (s, false)

/-- The stream queue of a producer of sealed frames. -/
def State.frameQueue (s : State) (st kind inst : Nat) : Nat :=
  match kind with
  | 0 => (Tbl.get {} (s.fcu inst).parts st).queue
  | 1 => (s.acq inst).queue
  | _ => (s.madc inst).queue

end Sys2Proof.Machine
end

