-- ==== Sys2Proof/Machine/Operands.lean ====
section
/-! DEFINITION. Values the meanings compute from registers: periods and UI starts, timeset validity, the edges and
compare events of a UI, level codes and windows, PMU scales, effective symbols (chapters 06, 09, 10, 11). -/

namespace Sys2Proof.Machine

/-! ### Symbols (06 R120, R121) -/

abbrev symD0 : Nat := 0
abbrev symD1 : Nat := 1
abbrev symDOFF : Nat := 2
abbrev symMASK : Nat := 7
abbrev symKEEP : Nat := 8
abbrev symCAPT : Nat := 9
abbrev symHOLD : Nat := 10

/-- Entry `k` of the channel's symbol map (R120). -/
def Chan.symmap (c : Chan) (k : Nat) : Nat := if k < 8 then bits c.symLo (4 * k) 4 else bits c.symHi (4 * (k - 8)) 4

/-- The effective symbol of a UI from its base symbol and the previous effective symbol (R121). -/
def effSym (prev sym : Nat) : Nat :=
  if sym = symKEEP then prev
  else if sym = symMASK then
    if prev = symD0 ∨ prev = symD1 ∨ prev = symDOFF ∨ prev = symHOLD then prev else symDOFF
  else sym

def isDrive (sym : Nat) : Bool := sym == symD0 || sym == symD1
def isCompare (sym : Nat) : Bool := decide (3 ≤ sym ∧ sym ≤ 6)

/-! ### Period and UI grid (09 R177, R178) -/

/-- The fixed-point period Q. -/
def Chan.q (c : Chan) : Nat := 65536 * c.perInt + c.perFrac
/-- ⌊n × Q / 65,536⌋ fine steps. -/
def Chan.span (c : Chan) (n : Nat) : Nat := n * c.q / 65536
/-- Start of UI `k` of a block (R178): from the block's TT and number alone. -/
def Chan.uiStart (c : Chan) (tt seq k : Nat) : Nat := tt + c.span (64 * seq + k) - c.span (64 * seq)
/-- Minimum period by range and grade (01 R3). -/
def minPeriod (full grade08 : Bool) : Nat := if full then 1280 else if grade08 then 512 else 256
/-- Minimum driver edge spacing Smin (R182). -/
def Chan.smin (c : Chan) : Nat := if c.full then 640 else 128

/-! ### Timesets (09 R181 to R187) -/

def Chan.edge (c : Chan) (t e : Nat) : Nat := Tbl.get 0 c.edges (8 * t + e)
def Chan.fmt (c : Chan) (t : Nat) : Fmt := Tbl.get {} c.fmts t

/-- DSCRIPT action of data edge e in D0 (false) or D1 UIs (R186). -/
def Fmt.dact (f : Fmt) (e : Nat) (d1 : Bool) : Nat := bits f.dscript (4 * e + (if d1 then 2 else 0)) 2
/-- ESCRIPT action of E4 (false) or E5 in D0 (false) or D1 UIs (R186). -/
def Fmt.eact (f : Fmt) (e5 d1 : Bool) : Nat := bits f.escript ((if e5 then 4 else 0) + (if d1 then 2 else 0)) 2

def Fmt.scripted (f : Fmt) : Bool := f.format == 12 || f.format == 13 || f.format == 14
/-- Used data edges by format (R184, R186). -/
def Fmt.dataEdges (f : Fmt) : List Nat :=
  match f.format with
  | 0 => [0] | 1 => [0] | 10 => [0]
  | 2 => [0, 1] | 3 => [0, 1] | 4 => [0, 1] | 6 => [0, 1] | 11 => [0, 1]
  | 5 => [0, 1, 2] | 8 => [0, 1, 2]
  | 7 => [0, 1, 2, 3] | 9 => [0, 1, 2, 3]
  | 15 => []
  | _ => (List.range 4).filter (fun e => f.dact e false != 0 || f.dact e true != 0)

def Fmt.usesE4 (f : Fmt) : Bool :=
  f.format != 15 && (f.format != 14 || f.eact false false != 0 || f.eact false true != 0)
/-- The pairs of edges that must ascend by Smin (R182, R184). -/
def Fmt.ordered (f : Fmt) : List (Nat × Nat) :=
  match f.format with
  | 3 => [(0, 1)] | 4 => [(0, 1)] | 6 => [(0, 1)] | 11 => [(0, 1)]
  | 5 => [(0, 1), (1, 2)] | 8 => [(0, 1), (1, 2)]
  | 7 => [(0, 1), (2, 3)]
  | 9 => [(0, 1), (1, 2), (2, 3)]
  | 12 => f.dataEdges.zip f.dataEdges.tail | 13 => f.dataEdges.zip f.dataEdges.tail
  | 14 => f.dataEdges.zip f.dataEdges.tail
  | _ => []

/-- TG_FMT_t.VALID (R182). -/
def Chan.tsValid (c : Chan) (t : Nat) : Bool :=
  let f := c.fmt t
  let d := c.edge t
  let used := f.dataEdges ++ (if f.usesE4 then [4] else []) ++ [5, 6] ++ (if f.cmode then [7] else [])
  let window := f.format == 10 || f.format == 13 || (f.format == 14 && f.usesE4)
  used.all (fun e => decide (d e < 2 * c.perInt))
    && f.ordered.all (fun p => decide (d p.1 + c.smin ≤ d p.2))
    && f.dataEdges.all (fun a => f.dataEdges.all (fun b => decide (d a + c.smin ≤ d b + c.perInt)))
    && (!window || (decide (d 4 + c.smin ≤ d 5) && decide (d 5 + c.smin ≤ d 4 + c.perInt)))
    && (!f.cmode || (decide (d 6 < d 7) && decide (d 7 ≤ d 6 + c.perInt)))
    && (f.format != 14 || !([f.eact false false, f.eact false true, f.eact true false, f.eact true true].contains 3))

/-- Data actions of a drive UI: (edge, 0 low, 1 high, 2 toggle), by format (R184, R186). -/
def Fmt.dataActs (f : Fmt) (d1 : Bool) : List (Nat × Nat) :=
  match f.format, d1 with
  | 0, false => [(0, 0)] | 0, true => [(0, 1)]
  | 1, false => [(0, 1)] | 1, true => [(0, 0)]
  | 2, false => [(1, 0)] | 2, true => [(0, 1)]
  | 3, false => [(0, 0)] | 3, true => [(0, 1), (1, 0)]
  | 4, false => [(0, 0), (1, 1)] | 4, true => [(0, 1)]
  | 5, false => [(0, 1), (1, 0), (2, 1)] | 5, true => [(0, 0), (1, 1), (2, 0)]
  | 6, false => [(0, 1), (1, 0)] | 6, true => [(0, 0), (1, 1)]
  | 7, false => [(2, 1), (3, 0)] | 7, true => [(0, 1), (1, 0)]
  | 8, false => [(0, 1), (1, 0)] | 8, true => [(0, 1), (2, 0)]
  | 9, false => [(0, 0)] | 9, true => [(0, 1), (1, 0), (2, 1), (3, 0)]
  | 10, false => [(0, 0)] | 10, true => [(0, 1)]
  | 11, false => [(0, 0), (1, 1)] | 11, true => [(0, 1), (1, 0)]
  | 15, _ => []
  | _, d => ((List.range 4).filter (fun e => f.dact e d != 0)).map (fun e => (e, f.dact e d - 1))

/-- Enable actions of a UI: (edge, 0 off, 1 on) (R185). -/
def Fmt.enActs (f : Fmt) (sym : Nat) : List (Nat × Nat) :=
  if sym = symHOLD then []
  else if isDrive sym ∧ f.format ≠ 15 then
    match f.format with
    | 10 => [(4, 1), (5, 0)] | 13 => [(4, 1), (5, 0)]
    | 14 =>
      let d := sym == symD1
      (if f.eact false d = 1 then [(4, 1)] else if f.eact false d = 2 then [(4, 0)] else []) ++
      (if f.eact true d = 1 then [(5, 1)] else if f.eact true d = 2 then [(5, 0)] else [])
    | _ => [(4, 1)]
  else [(5, 0)]

/-- The edges a UI that starts at `u` produces, placed without CAL (R181, R184 to R186). -/
def Chan.uiEdges (c : Chan) (u n t sym : Nat) : List PEdge :=
  let f := c.fmt t
  let at_ := fun e => (u : Int) + (c.edge t e : Nat) + c.drvSkew
  (if isDrive sym then (f.dataActs (sym == symD1)).map (fun a => { base := at_ a.1, ui := n, e := a.1, act := a.2 }) else [])
    ++ (f.enActs sym).map (fun a => { base := at_ a.1, ui := n, enable := true, e := a.1, act := a.2 })

/-- CAL terms in force: spine, channel and plane term of each path (R194, 14 R281; plane terms from τ, 14 R292). -/
def Chan.calDrive (c : Chan) : Int := c.cal.spDrive + c.cal.drive - c.cal.tau
def Chan.calEnable (c : Chan) : Int := c.cal.spEnable + c.cal.enable - c.cal.tau
def Chan.calCompare (c : Chan) : Int := c.cal.spCompare + c.cal.compare + c.cal.tau

/-- CAL term of an edge: the one in force at its placed time (R194). -/
def Chan.edgeCal (c : Chan) (p : PEdge) : Int := p.cal.getD (if p.enable then c.calEnable else c.calDrive)
/-- Placed time of a waiting edge (R181). -/
def Chan.edgeTime (c : Chan) (p : PEdge) : Int := p.base + c.edgeCal p
/-- Placed open (a strobe's time) and close times of a compare event (R181, R187). -/
def Chan.evOpen (c : Chan) (e : CmpEv) : Int := e.open_ + e.calO.getD c.calCompare
def Chan.evClose (c : Chan) (e : CmpEv) : Int := e.close + e.calC.getD c.calCompare
/-- Edges and compare times placed at or before `now` keep the CAL term in force until now (R194, R196). -/
def Chan.freeze (now : Int) (c : Chan) : Chan :=
  { c with
    pedges := c.pedges.map (fun p => if ttReached now (c.edgeTime p) then { p with cal := some (c.edgeCal p) } else p)
    cmpEvs := c.cmpEvs.map (fun e => { e with
      calO := if ttReached now (c.evOpen e) then some (e.calO.getD c.calCompare) else e.calO
      calC := if ttReached now (c.evClose e) then some (e.calC.getD c.calCompare) else e.calC }) }
/-- New coefficients take effect at `now`. -/
def Chan.setCal (now : Int) (k : CalTerms) (c : Chan) : Chan := { c.freeze now with cal := k }

/-- Order of application (R188): placed time, then UI, data before enable, edge number. -/
def Chan.edgeBefore (c : Chan) (a b : PEdge) : Bool :=
  if c.edgeTime a ≠ c.edgeTime b then !ttReached (c.edgeTime a) (c.edgeTime b)
  else if a.ui ≠ b.ui then decide (a.ui < b.ui)
  else if a.enable ≠ b.enable then b.enable
  else decide (a.e ≤ b.e)

/-- The next edge to apply. -/
def Chan.nextEdge (c : Chan) : List PEdge → Option PEdge
  | [] => none
  | p :: t => match Chan.nextEdge c t with
    | none => some p
    | some x => if c.edgeBefore p x then some p else some x

/-! ### Levels (10 R211, R212) -/

/-- The zero code of DAC d. -/
def zeroCode (d : Nat) : Nat := if d = 7 ∨ d = 8 then 0 else 0x4000
/-- The stored code of DAC d. -/
def Chan.code (c : Chan) (d : Nat) : Nat := Tbl.get (zeroCode d) c.codes d
def Chan.setCode (c : Chan) (d v : Nat) : Chan := { c with codes := Tbl.set (zeroCode d) c.codes d (v % 65536) }

/-- The window of DAC d for the range and PMU mode. -/
def window (d : Nat) (full fimv : Bool) : Nat × Nat :=
  match d with
  | 5 => (8384, 44384) | 6 => (8384, 44384)
  | 7 => (0, 64000) | 8 => (0, 64000)
  | 9 => if fimv then (384, 32384) else (8384, 44384)
  | 2 => if full then (8384, 36384) else (12384, 24384)
  | _ => if full then (8384, 44384) else (12384, 24384)

def clampN (w : Nat × Nat) (v : Nat) : Nat := if v < w.1 then w.1 else if w.2 < v then w.2 else v

/-- A stored code clamped to its window. -/
def Chan.windowed (c : Chan) (d : Nat) : Nat := clampN (window d c.full (c.pmuMode == 2)) (c.code d)
/-- The applied code of DAC d: windowed, the fast-range swing limit on VIH, and DAC 9 held during a PMU range change. -/
def Chan.applied (c : Chan) (d : Nat) : Nat :=
  if d = 0 ∧ ¬ c.full then min (c.windowed 0) (c.windowed 1 + 6000)
  else if d = 9 ∧ c.pmuAt.isSome then c.pmuHold
  else c.windowed d
def Chan.swingLimit (c : Chan) : Bool := !c.full && decide (c.windowed 1 + 6000 < c.windowed 0)
def Chan.swingLow (c : Chan) : Bool := !c.full && decide (c.applied 0 < c.applied 1 + 400)
def Chan.clampOrder (c : Chan) : Bool := decide (c.applied 5 < c.applied 6 + 2000)
/-- The raw code at the DAC input (R213): the applied code corrected by gain and offset (14 R281), saturating. -/
def Chan.raw (c : Chan) (d : Nat) : Nat :=
  let a : Int := c.applied d
  let z : Int := zeroCode d
  let force := d = 9 ∧ c.pmuMode = 2
  let g := if force then Tbl.get 0 c.cal.pmu (4 * c.pmuRange) else Tbl.get 0 c.cal.gain d
  let o := if force then Tbl.get 0 c.cal.pmu (4 * c.pmuRange + 1) else Tbl.get 0 c.cal.off d
  (clampI 0 65535 (a + roundDiv (g * (a - z)) 1048576 + o + Tbl.get 0 c.rawLag d)).toNat

/-- Full scale of a PMU range in nA (R208). -/
def pmuFs (r : Nat) : Nat := match r with | 0 => 2000 | 1 => 20000 | 2 => 200000 | 3 => 2000000 | _ => 32000000
/-- The PMU level code rescaled to a new range (R210). -/
def pmuRescale (old rOld rNew : Nat) : Int :=
  16384 + roundDiv (((old : Int) - 16384) * (pmuFs rOld : Nat)) (pmuFs rNew : Nat)

/-! ### Driver, load, Hi-Z (10 R198, R203, R206) -/

/-- The level DAC the driver connects to CH_nnn_F through 50 Ω (R198): 0 VIH, 1 VIL, 2 VTT as termination; none: the
output stage and the termination are open. -/
def Chan.driver (c : Chan) : Option Nat :=
  if c.held ∨ c.rangeAt.isSome then none
  else match c.drvMode with
    | 1 => if c.en then some (if c.high then 0 else 1) else if c.term then some 2 else none
    | 2 => some 1
    | 3 => some 0
    | 4 => some 2
    | _ => none
/-- The applied code the driver or its termination brings to the pin (R198, R211). -/
def Chan.driverCode (c : Chan) : Option Nat := c.driver.map c.applied
/-- DRV_ON: the driver drives VIH or VIL at the pin (R220). -/
def Chan.drvOn (c : Chan) : Bool := c.driver == some 0 || c.driver == some 1
/-- The active load is engaged at TT `now`: in MODE 1 from 2 ns after an enable-off edge (R203). -/
def Chan.loadOn (now : Nat) (c : Chan) : Bool :=
  !c.held && (c.loadMode == 2 || (c.loadMode == 1 && (c.drvMode == 0 || c.drvMode == 4
    || (c.drvMode == 1 && !c.en && c.lastEn.all (fun t => decide ((2 * fsNs : Nat) ≤ ((now : Int) - t) % 2 ^ 64))))))
/-- The current of the engaged load into the pin in nA, for a pin at `uv` µV (R203): it sinks IOH above VTT, sources IOL
below, and moves linearly between within 50 mV of VTT. -/
def Chan.loadCurrent (c : Chan) (uv : Int) : Int :=
  let d := uv - 250 * ((c.applied 2 : Int) - 16384)
  let ioh : Int := 500 * (c.applied 7 : Nat)
  let iol : Int := 500 * (c.applied 8 : Nat)
  if 50000 ≤ d then -ioh else if d ≤ -50000 then iol else iol - roundDiv ((ioh + iol) * (d + 50000)) 100000
/-- The programmable clamps act: CLAMP_EN in effect and VCH 0.5 V above VCL. -/
def Chan.clampsAct (c : Chan) : Bool := c.clamp && !c.clampOrder
/-- Clamps that do not act are open and conduct nothing (R204). -/
def Chan.settleClamps (c : Chan) : Chan := if c.clampsAct then c else { c with vchAct := false, vclAct := false }
/-- A contact test has its source connected: until 52 µs (R217). -/
def Chan.contactOn (up : Nat) (c : Chan) : Bool := c.conAt.any (fun a => decide (up < a + 52 * fsUs))

/-! ### Isolation by a cluster step (14 R284, R287) -/

/-- Lanes of a cluster isolated now. -/
def State.isoNow (s : State) (k : Nat) : Nat := if (s.clu k).isoAt ≤ s.uptime then (s.clu k).isolated else 0
/-- The isolation of a channel's lane ends; it stays due. -/
def State.laneFree (s : State) (ch : Nat) : State :=
  s.modClu (cluOf ch) (fun k => { k with isolated := clearMask k.isolated (2 ^ laneOf ch) })
/-- PE_STATUS.HIZ at TT `now` and uptime `up` (R206). -/
def Chan.isHiz (now up : Nat) (c : Chan) : Bool :=
  (c.held || (c.drvMode == 0 || (c.drvMode == 1 && !c.en && !c.term)) && !c.loadOn now && !c.pmuConn && !c.contactOn up)
    && !(c.clampsAct && (c.vchAct || c.vclAct))
/-- The channel as its pin shows it: while the lane is isolated the calibration switch holds the pin open, whatever the
registers have been written to (14 R287). -/
def State.pinView (s : State) (ch : Nat) : Chan :=
  if bit (s.isoNow (cluOf ch)) (laneOf ch) then { s.chan ch with held := true } else s.chan ch
/-- A connected PMU is at its limit (R207): in FVMI with an output current of `x` pA, at 110 % of the full scale of its
range, of either range while a change connects both (R209); in FIMV with `x` µV at the pin, at the applied VCL or VCH, or
at −2.0 V or +7.0 V while CLAMP_ORDER is 1. -/
def Chan.pmuAtLimit (c : Chan) (x : Int) : Bool :=
  if c.pmuMode = 2 then
    let lo : Int := if c.clampOrder then 8384 else c.applied 6
    let hi : Int := if c.clampOrder then 44384 else c.applied 5
    decide (x ≤ 250 * (lo - 16384) ∨ 250 * (hi - 16384) ≤ x)
  else
    let fs := if c.pmuOld then max (pmuFs c.pmuRange) (pmuFs c.pmuWas) else pmuFs c.pmuRange
    decide (1100 * fs ≤ x.natAbs)

/-- R199, R179: a change is refused while the channel's site is not IDLE or the channel is free-running. -/
def State.chBusy (s : State) (ch : Nat) : Bool := !s.siteIdle (s.chOwner ch) || (s.chan ch).frRun

end Sys2Proof.Machine
end

