-- ==== Sys2Proof/Machine/Pins.lean ====
section
/-! DEFINITION. Family: pin electronics and levels (10_pin_electronics.md). Register operations are named `w…`; they
run after the access check of `State.onWrite`. -/

namespace Sys2Proof.Machine

/-- A write to a page refused with a code: logged against the page, nothing else changes (05 R424). -/
def State.reject (s : State) (fn code ty inst : Nat) : State :=
  s.raise code ty inst (match siteOpt (s.hdr ty inst).owner with | some k => some k | none => siteOfFn fn)

/-- The first failing check of a list (order of 05 R424), 0 when all pass. -/
def firstFail : List (Bool × Nat) → Nat
  | [] => 0
  | (bad, code) :: t => if bad then code else firstFail t

/-- Refuse with the first failing check, else act. -/
def State.checked (s : State) (fn ty inst : Nat) (checks : List (Bool × Nat)) (act : State → State) : State :=
  let c := firstFail checks
  if c ≠ 0 then s.reject fn c ty inst else act s

/-- PE_CTRL as a word. -/
def Chan.peCtrl (c : Chan) : Nat := b2n c.full + 2 * c.drvMode + 16 * b2n c.term + 32 * b2n c.clamp

/-- PE_CTRL once a range change has ended. -/
def Chan.peSettled (c : Chan) : Chan :=
  match c.ctrlNext with
  | some (drv, term, clamp) => { c with drvMode := drv, term := term, clamp := clamp, ctrlNext := none }
  | none => c

/-- A write of PE_CTRL (R426 checks; R201: with a change of RANGE the other fields take effect when the change ends). During
a change, whether the write changes a field is judged against the fields to come: the specification does not say which
(DESIGN CHOICE, log entry 55). -/
def State.wPeCtrl (s : State) (fn ch val : Nat) : State :=
  let c := s.chan ch
  let full := bit val 0
  let drv := bits val 1 3
  let clamp := bit val 5
  s.checked fn Ty.pe ch
    [(val % 64 != c.peSettled.peCtrl && s.chBusy ch, Code.blkBusy),
     (!(s.hdr Ty.pe ch).en && (drv != 0 || clamp), Code.blkBusy),
     (c.conAt.isSome || (full != c.full && c.rangeAt.isSome), Code.peBusy),
     (decide (4 < drv), Code.paramRange),
     (full != c.full && decide (c.perInt < minPeriod full s.grade08), Code.paramRange),
     (drv != 0 && c.pmuConn, Code.peConflict)]
    (fun t => (when (full != c.full) (fun u => u.laneFree ch) t).modChan ch (fun c =>
      if full != c.full then { c with full := full, rangeAt := some s.up, ctrlNext := some (drv, bit val 4, clamp) }
      else ({ c with drvMode := drv, term := bit val 4, clamp := clamp, ctrlNext := none } : Chan).settleClamps))

/-- PE_CTRL_WRITE. -/
def execPeCtrlWrite (fn ch val : Nat) (s : State) : Host.Outcome State Fault Refusal :=
  onUnit (decide (fn < 18)) (s.onWrite fn Ty.pe ch 0x040 (fun t => t.wPeCtrl fn ch val))

/-- DRIVER_RANGE_DONE: at 5 µs the new stage connects, RANGE_BUSY clears, cause RANGE_DONE (R201). -/
def execDriverRangeDone (ch : Nat) (s : State) : Host.Outcome State Fault Refusal :=
  onUnit (decide (ch < nChan)) (
    match (s.chan ch).rangeAt with
    | none => s
    | some a =>
      if a + 5 * fsUs ≤ s.up then (s.modChan ch (fun c => ({ c.peSettled with rangeAt := none } : Chan).settleClamps)).cause Ty.pe ch 1
      else s)

/-- A write of PE_LOAD_CTRL (R199, R200, R217; 05 R92). -/
def State.wPeLoad (s : State) (fn ch val : Nat) : State :=
  let c := s.chan ch
  let m := bits val 0 2
  s.checked fn Ty.pe ch
    [(m != c.loadMode && s.chBusy ch, Code.blkBusy), (!(s.hdr Ty.pe ch).en && m != 0, Code.blkBusy),
     (c.conAt.isSome, Code.peBusy), (m == 3, Code.paramRange), (m != 0 && c.pmuConn, Code.peConflict)]
    (fun t => t.modChan ch (fun c => { c with loadMode := m }))

/-- A write of PE_PMU_CTRL (R200, R207, R217). A disconnect ends a range change; RANGING ends 2 µs later (R219). A connection
during a driver range change whose DRV_MODE to come is not OFF is PE_CONFLICT: the specification does not say (DESIGN
CHOICE, log entry 55). -/
def State.wPePmu (s : State) (fn ch val : Nat) : State :=
  let c := s.chan ch
  let m := bits val 0 2
  let conn := bit val 2
  s.checked fn Ty.pe ch
    [(!(s.hdr Ty.pe ch).en && conn, Code.blkBusy), (c.conAt.isSome, Code.peBusy),
     (m == 3, Code.paramRange), (conn && m == 0, Code.paramRange),
     (conn && c.pmuConn && m != c.pmuMode, Code.peConflict),
     (conn && (c.drvMode != 0 || c.peSettled.drvMode != 0 || c.loadMode != 0), Code.peConflict)]
    (fun t => (when (conn && !c.pmuConn) (fun u => u.laneFree ch) t).modChan ch (fun c => { c with
      pmuMode := m, pmuConn := conn, pmuSense := bit val 3
      pmuAt := if conn then c.pmuAt else none
      pmuOld := c.pmuOld && conn
      rangingTo := if !conn && c.pmuAt.isSome then s.up + 2 * fsUs else c.rangingTo
      compliance := c.compliance && conn }))

/-- PE_PMU_CTRL_WRITE. -/
def execPePmuCtrlWrite (fn ch val : Nat) (s : State) : Host.Outcome State Fault Refusal :=
  onUnit (decide (fn < 18)) (s.onWrite fn Ty.pe ch 0x04C (fun t => t.wPePmu fn ch val))

/-- A write of PE_PMU_RANGE: at once while disconnected; make-before-break while connected, in FIMV at the rescaled
code (R208 to R210). -/
def State.wPmuRange (s : State) (fn ch val : Nat) : State :=
  let c := s.chan ch
  let r := bits val 0 3
  let new := pmuRescale (c.applied 9) c.pmuRange r
  s.checked fn Ty.pe ch
    [(c.pmuAt.isSome, Code.peBusy), (decide (4 < r), Code.paramRange),
     (c.pmuConn && c.pmuMode == 2 && r != c.pmuRange && !(decide (384 ≤ new ∧ new ≤ 32384)), Code.paramRange)]
    (fun t =>
      if r = c.pmuRange then t
      else if ¬ c.pmuConn then t.modChan ch (fun c => { c with pmuRange := r })
      else (t.laneFree ch).modChan ch (fun c =>
        let c1 := if c.pmuMode = 2 then c.setCode 9 new.toNat else c
        { c1 with
          pmuRange := r, pmuAt := some s.up, pmuOld := true, pmuWas := c.pmuRange, pmuHold := c1.applied 9
          rangingTo := s.up + 22 * fsUs }))

/-- PE_PMU_RANGE_WRITE. -/
def execPePmuRangeWrite (fn ch val : Nat) (s : State) : Host.Outcome State Fault Refusal :=
  onUnit (decide (fn < 18)) (s.onWrite fn Ty.pe ch 0x050 (fun t => t.wPmuRange fn ch val))

/-- PMU_OLD_STAGE_OPEN: at 20 µs the old range's stage opens (R209). -/
def execPmuOldStageOpen (ch : Nat) (s : State) : Host.Outcome State Fault Refusal :=
  onUnit (decide (ch < nChan)) (
    match (s.chan ch).pmuAt with
    | none => s
    | some a => if a + 20 * fsUs ≤ s.up then s.modChan ch (fun c => { c with pmuOld := false }) else s)

/-- PMU_RANGE_DONE: at 22 µs settling completes: PMU_RANGING clears, stored DAC 9 codes apply, cause PMU_RANGE_DONE
(R209, R219). -/
def execPmuRangeDone (ch : Nat) (s : State) : Host.Outcome State Fault Refusal :=
  onUnit (decide (ch < nChan)) (
    match (s.chan ch).pmuAt with
    | none => s
    | some a =>
      if a + 22 * fsUs ≤ s.up then
        (s.modChan ch (fun c => { c with pmuAt := none, pmuOld := false })).cause Ty.pe ch 2
      else s)

/-- PMU_SENSE_FALLBACK: a connected PMU regulating at the Kelvin land falls back to local sense (R207). Clearing
SENSE_FALLBACK returns it to the Kelvin land (DESIGN CHOICE, log entry 56). -/
def execPmuSenseFallback (ch : Nat) (s : State) : Host.Outcome State Fault Refusal :=
  onUnit (decide (ch < nChan)) (
    if (s.chan ch).pmuConn ∧ ¬ (s.chan ch).pmuSense ∧ ¬ (s.chan ch).senseFb then
      ((s.modChan ch (fun c => { c with senseFb := true })).cause Ty.pe ch 64).raisePage Code.pmuSense Ty.pe ch
    else s)

/-- PMU_COMPLIANCE: the limited quantity of a connected PMU (current in pA under FVMI, pin voltage in µV under FIMV)
reaches its limit or leaves it; the start of each episode sets the cause (R207). -/
def execPmuCompliance (ch : Nat) (x : Int) (s : State) : Host.Outcome State Fault Refusal :=
  onUnit (decide (ch < nChan)) (
    let c := s.chan ch
    let lim := c.pmuConn && c.pmuAtLimit x
    when (lim && !c.compliance) (fun t => t.cause Ty.pe ch 4) (s.modChan ch (fun c => { c with compliance := lim })))

/-- CLAMP_CONDUCT: a programmable clamp that acts starts to conduct (`on`), or stops; each start is counted and sets
the cause CLAMP (R204). -/
def execClampConduct (ch : Nat) (high on : Bool) (s : State) : Host.Outcome State Fault Refusal :=
  onUnit (decide (ch < nChan)) (
    let c := s.chan ch
    if ¬ on then s.modChan ch (fun c => if high then { c with vchAct := false } else { c with vclAct := false })
    else if c.clampsAct ∧ ¬ (if high then c.vchAct else c.vclAct) then
      (s.modChan ch (fun c =>
        let c := { c with clEvents := satAdd sat16 c.clEvents 1 }
        if high then { c with vchAct := true, vchSeen := true } else { c with vclAct := true, vclSeen := true })).cause
          Ty.pe ch 8
    else s)

/-- PROT_CLAMP_CONDUCT: a protective clamp conducts above 1 mA while the analog die is powered (R205). -/
def execProtClampConduct (ch : Nat) (high : Bool) (s : State) : Host.Outcome State Fault Refusal :=
  onUnit (decide (ch < nChan)) (
    if s.stage = .on ∧ ¬ s.pwr.analogOff then
      (s.modChan ch (fun c =>
        let c := { c with clEvents := satAdd sat16 c.clEvents 1 }
        if high then { c with protHi := true } else { c with protLo := true })).cause Ty.pe ch 16
    else s)

/-- A write of PE_OPENWIRE (R216, R220). -/
def State.wOpenWire (s : State) (fn ch val : Nat) : State :=
  s.checked fn Ty.pe ch [(bits val 2 2 == 3, Code.paramRange)]
    (fun t => t.modChan ch (fun c => { c with owEn := bit val 0, owDir := bit val 1, owCur := bits val 2 2 }))

/-- A write of PE_CLAMP_STATUS: W1C of the SEEN bits. -/
def State.wClampStatus (s : State) (ch val : Nat) : State :=
  s.modChan ch (fun c => { c with
    vchSeen := c.vchSeen && !bit val 2, vclSeen := c.vclSeen && !bit val 3
    protHi := c.protHi && !bit val 4, protLo := c.protLo && !bit val 5 })

/-- A write of PE_CONTACT: POLARITY and CURRENT are stored; START = 1 runs a test under the checks of R217. -/
def State.wContact (s : State) (fn ch val : Nat) : State :=
  let c := s.chan ch
  let start := bit val 0
  s.checked fn Ty.pe ch
    [(start && (!s.siteIdle (s.chOwner ch) || c.conAt.isSome || !(s.hdr Ty.pe ch).en), Code.blkBusy),
     (start && !c.isHiz s.now s.up, Code.peConflict)]
    (fun t => (when start (fun u => u.laneFree ch) t).modChan ch (fun c => { c with
      conPol := bit val 1, conCur := bits val 2 2
      conAt := if start then some s.up else c.conAt
      conRes := if start then 0 else c.conRes }))

/-- CONTACT_TEST_START: a write of PE_CONTACT with START = 1. -/
def execContactTestStart (fn ch pol cur : Nat) (s : State) : Host.Outcome State Fault Refusal :=
  onUnit (decide (fn < 18)) (s.onWrite fn Ty.pe ch 0x05C
    (fun t => t.wContact fn ch (1 + 2 * (pol % 2) + 4 * (cur % 4))))

/-- CONTACT_TEST_DONE: at 60 µs the result judged from the force-land voltage (mV) is published (R217). -/
def execContactTestDone (ch : Nat) (mv : Int) (s : State) : Host.Outcome State Fault Refusal :=
  onUnit (decide (ch < nChan)) (
    match (s.chan ch).conAt with
    | none => s
    | some a =>
      if a + 60 * fsUs ≤ s.up then
        (s.modChan ch (fun c => { c with
          conAt := none
          conRes := if -200 < mv ∧ mv < 200 then 3 else if mv ≤ -1500 ∨ 1500 ≤ mv then 2 else 1 })).cause Ty.pe ch 32
      else s)

/-! ### Levels -/

/-- A write of LVL_DAC_d: every code is stored; applied and raw codes follow (R212). A queue entry for the DAC applied at
a tick of the same CCLK cycle is stored after it, so its code stands (R219). -/
def State.wLvlDac (s : State) (ch d val : Nat) : State :=
  s.modChan ch (fun c =>
    if c.lvlSet.contains d ∧ s.up < c.lvlSetAt + fsNs then c else (c.setCode d (val % 65536)).settleClamps)

/-- LVL_DAC_WRITE. -/
def execLvlDacWrite (fn ch d val : Nat) (s : State) : Host.Outcome State Fault Refusal :=
  onUnit (decide (fn < 18 ∧ d < 10)) (s.onWrite fn Ty.lvl ch (0x040 + 4 * d) (fun t => t.wLvlDac ch d val))

/-- Insert in ascending stamp order, equal stamps in order of arrival (R214). -/
def lvlInsert (e : LvlEntry) : List LvlEntry → List LvlEntry
  | [] => [e]
  | x :: t => if ttLt e.stamp x.stamp then e :: x :: t else x :: lvlInsert e t

/-- A write of LVL_QUEUE_PUSH: a host entry stamped with its arrival TT (R214, R215). -/
def State.wLvlPush (s : State) (fn ch val : Nat) : State :=
  s.checked fn Ty.lvl ch
    [(decide (64 ≤ (s.chan ch).lvlq.length), Code.levelQueueFull), (decide (9 < bits val 16 4), Code.paramRange)]
    (fun t => t.modChan ch (fun c => { c with
      lvlq := lvlInsert { dac := bits val 16 4, code := val % 65536, stamp := s.now } c.lvlq }))

/-- LVL_QUEUE_PUSH. -/
def execLvlQueuePush (fn ch val : Nat) (s : State) : Host.Outcome State Fault Refusal :=
  onUnit (decide (fn < 18)) (s.onWrite fn Ty.lvl ch 0x080 (fun t => t.wLvlPush fn ch val))

/-- A write of LVL_QUEUE_CTRL: FLUSH empties the queue without applying it (R215). -/
def State.wLvlCtrl (s : State) (ch val : Nat) : State :=
  if bit val 0 then s.modChan ch (fun c => { c with lvlq := [] }) else s

/-- LVL_QUEUE_FLUSH. -/
def execLvlQueueFlush (fn ch : Nat) (s : State) : Host.Outcome State Fault Refusal :=
  onUnit (decide (fn < 18)) (s.onWrite fn Ty.lvl ch 0x084 (fun t => t.wLvlCtrl ch 1))

/-- A write of LVL_QUEUE_STATUS: W1C of OVERFLOW and LATE. -/
def State.wLvlStatus (s : State) (ch val : Nat) : State :=
  s.modChan ch (fun c => { c with lvlOver := c.lvlOver && !bit val 18, lvlLate := c.lvlLate && !bit val 19 })

/-- The LCLK clock of a channel: its site's, or the owner function's (kept as site 16, N = 40, R214). -/
def State.lclkOf (s : State) (ch : Nat) : Nat := s.chOwner ch

/-- LVL_ENTRY_ARRIVE: the oldest engine entry on its way to the channel is inserted, dropped on a full queue, or
marked late (R215); entries for a retired channel are dropped. -/
def State.lvlArrive (s : State) (ch : Nat) : State :=
  match (s.chan ch).lvlFly with
  | [] => s
  | e :: rest =>
    let s := s.modChan ch (fun c => { c with lvlFly := rest })
    if (s.hdr Ty.lvl ch).retired then s
    else if 64 ≤ (s.chan ch).lvlq.length then
      ((s.modChan ch (fun c => { c with lvlOver := true, lvlDrop := satAdd sat8 c.lvlDrop 1 })).cause
        Ty.lvl ch 2).raisePage Code.levelDropped Ty.lvl ch
    else
      let s1 := s.modChan ch (fun c => { c with lvlq := lvlInsert e c.lvlq })
      match (s.site (s.lclkOf ch)).lclkLast with
      | some t => if ttLe e.stamp (t * 256) then (s1.modChan ch (fun c => { c with lvlLate := true })).cause Ty.lvl ch 4 else s1
      | none => s1

def execLvlEntryArrive (ch : Nat) (s : State) : Host.Outcome State Fault Refusal :=
  onUnit (decide (ch < nChan)) (s.lvlArrive ch)

/-- One tick on a queue: due entries in stamp order, at most one per DAC (R214): (kept, applied). -/
def lvlTick (tt : Nat) : List LvlEntry → List Nat → List LvlEntry × List LvlEntry
  | [], _ => ([], [])
  | e :: t, done =>
    if ttLt tt e.stamp then (e :: t, [])
    else if done.contains e.dac then let r := lvlTick tt t done; (e :: r.1, r.2)
    else let r := lvlTick tt t (e.dac :: done); (r.1, e :: r.2)

/-- One LCLK tick on one channel; cause EMPTY when application empties the queue (R215). Entries queued when the channel
retires are still applied: the rule does not name retirement among what empties the queue (DESIGN CHOICE, log entry 55). -/
def State.lvlStep (s : State) (ch : Nat) : State :=
  let c := s.chan ch
  if ¬ (s.hdr Ty.lvl ch).en ∨ c.lvlq.isEmpty then s
  else
    let r := lvlTick s.now c.lvlq []
    let s1 := s.modChan ch (fun c => (r.2.foldl (fun (c : Chan) e => c.setCode e.dac e.code)
      { c with lvlq := r.1, lvlSet := r.2.map (fun e => e.dac), lvlSetAt := s.up }).settleClamps)
    when (r.1.isEmpty && !r.2.isEmpty) (fun t => t.cause Ty.lvl ch 1) s1

/-- It is an LCLK tick of the site, not yet taken: a multiple of 400 N root ticks after the common root edge of the
dividers (03 R65, R66). -/
def State.lclkDue (s : State) (st : Nat) : Bool :=
  s.everLocked && (s.uptime - s.clk.lockAt) % (400 * (s.site st).lclkNow) == 0 && (s.site st).lclkLast != some s.root

/-- LCLK_TICK of a site (16: the owner function's channels): level queues step; a new divider takes effect (03 R66). -/
def State.lclkTick (s : State) (st : Nat) : State :=
  let s1 := forEach (s.siteChans st) (fun ch t => t.lvlStep ch) s
  s1.modSite st (fun x => { x with lclkLast := some s.root, lclkNow := x.lclkDiv })

end Sys2Proof.Machine
end

