-- ==== Sys2Proof/Machine/Timing.lean ====
section
/-! DEFINITION. Family: timing generators, formatters and pin event FIFOs (08 R153 to R157, 09, 06 R120). -/

namespace Sys2Proof.Machine

/-! ### 64-bit pairs (05 R88) -/

def pairKey (ty inst lo : Nat) : Nat := pageOff ty inst lo
/-- Stage a low half for the writing function. -/
def State.stageLo (s : State) (fn ty inst lo val : Nat) : State :=
  s.modFn fn (fun f => { f with stage := Tbl.set none f.stage (pairKey ty inst lo) (some (val % 2 ^ 32)) })
/-- The staged low half, or the current one when none is staged since the last commit. -/
def State.lowHalf (s : State) (fn ty inst lo cur : Nat) : Nat :=
  (Tbl.get none (s.fn fn).stage (pairKey ty inst lo)).getD cur
/-- A commit uses up the staged half. So does a _HI write that is rejected: the specification does not say that its
staged half stays (DESIGN CHOICE, log entry 55). -/
def State.unstage (s : State) (fn ty inst lo : Nat) : State :=
  s.modFn fn (fun f => { f with stage := Tbl.set none f.stage (pairKey ty inst lo) none })

/-! ### TG registers (R177 to R182, R191 to R193, R197) -/

def sx16 (v : Nat) : Int := sx 16 v

/-- A write of TG_CTRL (R179). -/
def State.wTgCtrl (s : State) (fn ch val : Nat) : State :=
  s.checked fn Ty.tg ch [(s.chBusy ch, Code.blkBusy)]
    (fun t => t.modChan ch (fun c => { c with drvSkew := sx16 (bits val 0 16), cmpSkew := sx16 (bits val 16 16) }))

/-- A write of TG_PERIOD_HI commits INT and FRAC (R177, R179). -/
def State.wPeriodHi (s : State) (fn ch val : Nat) : State :=
  let c := s.chan ch
  let int := s.lowHalf fn Ty.tg ch 0x044 (c.perInt % 2 ^ 32) + bits val 0 16 * 2 ^ 32
  (s.unstage fn Ty.tg ch 0x044).checked fn Ty.tg ch
    [(s.chBusy ch, Code.blkBusy), (decide (int < minPeriod c.full s.grade08), Code.paramRange)]
    (fun t => t.modChan ch (fun c => { c with perInt := int, perFrac := bits val 16 16 }))

/-- TG_PERIOD_COMMIT. -/
def execTgPeriodCommit (fn ch val : Nat) (s : State) : Host.Outcome State Fault Refusal :=
  onUnit (decide (fn < 18)) (s.onWrite fn Ty.tg ch 0x048 (fun t => t.wPeriodHi fn ch val))

/-- A symbol map entry of 0xB to 0xF is invalid (06 R120). -/
def mapBad (w : Nat) : Bool := (List.range 8).any (fun k => decide (0xA < bits w (4 * k) 4))

/-- A write of TG_SYMMAP_HI commits the symbol map (06 R120). -/
def State.wSymHi (s : State) (fn ch val : Nat) : State :=
  let lo := s.lowHalf fn Ty.tg ch 0x050 (s.chan ch).symLo
  (s.unstage fn Ty.tg ch 0x050).checked fn Ty.tg ch
    [(s.chBusy ch, Code.blkBusy), (mapBad lo || mapBad val, Code.paramRange)]
    (fun t => t.modChan ch (fun c => { c with symLo := lo, symHi := val % 2 ^ 32 }))

/-- TG_SYMMAP_COMMIT. -/
def execTgSymmapCommit (fn ch val : Nat) (s : State) : Host.Outcome State Fault Refusal :=
  onUnit (decide (fn < 18)) (s.onWrite fn Ty.tg ch 0x054 (fun t => t.wSymHi fn ch val))

/-- A write of TG_EDGE_t_e (index 8 t + e): every delay is stored; VALID follows (R181, R182). -/
def State.wEdge (s : State) (fn ch i val : Nat) : State :=
  s.checked fn Ty.tg ch [(s.chBusy ch, Code.blkBusy)]
    (fun t => t.modChan ch (fun c => { c with edges := Tbl.set 0 c.edges i (val % 2 ^ 31) }))

/-- A write of TG_FMT_t: every value valid; VALID follows (R182, R184). -/
def State.wFmt (s : State) (fn ch i val : Nat) : State :=
  s.checked fn Ty.tg ch [(s.chBusy ch, Code.blkBusy)]
    (fun t => t.modChan ch (fun c => { c with
      fmts := Tbl.set {} c.fmts i
        { format := bits val 0 4, cmode := bit val 4, dscript := bits val 8 16, escript := bits val 24 8 } }))

/-- TIMESET_WRITE: TG_EDGE_t_e for `edge` = e below 8, TG_FMT_t for `edge` = 8. -/
def execTimesetWrite (fn ch t edge val : Nat) (s : State) : Host.Outcome State Fault Refusal :=
  onUnit (decide (fn < 18 ∧ t < 64 ∧ edge ≤ 8)) (
    if edge < 8 then s.onWrite fn Ty.tg ch (0x400 + 0x20 * t + 4 * edge) (fun x => x.wEdge fn ch (8 * t + edge) val)
    else s.onWrite fn Ty.tg ch (0xC00 + 4 * t) (fun x => x.wFmt fn ch t val))

/-- A write of TG_STATUS: W1C of CONFLICT, TS_INVALID, OVERLAP. -/
def State.wTgStatus (s : State) (ch val : Nat) : State :=
  s.modChan ch (fun c => { c with
    conflict := c.conflict && !bit val 2, tsInv := c.tsInv && !bit val 3, overlap := c.overlap && !bit val 4 })

/-- Pending coefficients take effect at a boundary (14 R295). -/
def Chan.boundary (now : Int) (c : Chan) : Chan :=
  match c.calNext with
  | some k => if c.calSlew then c else { c.setCal now k with calNext := none, calOld := none, calStale := false }
  | none => { c with calStale := c.calStale && c.calSlew }

/-- A boundary of every channel of a region that is idle: none of them runs free (R194; 14 R295). -/
def State.rgnBoundary (s : State) (r : Nat) : State :=
  if (chansOfRgn r).any (fun ch => (s.chan ch).frRun) then s
  else forEach (chansOfRgn r) (fun ch t => t.modChan ch (Chan.boundary s.now)) s

/-- The free run ends: L and EN stand, FREERUN clears, cause FREERUN_STOP; its stop is a boundary, and in READY the last
one of a region is a boundary of every channel of it (R193, R194). -/
def State.endRun (s : State) (ch : Nat) : State :=
  if (s.chan ch).frRun then
    let s1 := (s.modChan ch (fun c => Chan.boundary s.now { c with frRun := false, frAnch := false, frStop := false, frShift := 0 })).cause
      Ty.tg ch 8
    when (s1.glb.mode == .ready && !s1.glb.busy) (fun t => t.rgnBoundary (rgnOfCh ch)) s1
  else s

/-- The start of the free run's next UI (R192). -/
def Chan.freeAt (c : Chan) : Nat := ttMove (c.span (c.frM0 + c.frU)) c.frShift

/-- A write of TG_FREERUN (R191 checks in order; R193 stop). A stop accepted before the first UI of the run has begun ends
the run at once: the specification names only the end of the current UI (DESIGN CHOICE, log entry 55). -/
def State.wFreerun (s : State) (fn ch val : Nat) : State :=
  let c := s.chan ch
  let ts := bits val 1 6
  let sym := bits val 7 4
  if bit val 0 then
    s.checked fn Ty.tg ch
      [(!s.inMode [.ready, .run], Code.freerunMode),
       (s.chBusy ch || !(s.hdr Ty.tg ch).en, Code.blkBusy),
       (decide (2 < sym), Code.paramRange), (!c.tsValid ts, Code.tsInvalid)]
      (fun t => t.modChan ch (fun c => { c with
        frRun := true, frAnch := true, frTs := ts, frSym := sym, frU := 0, frStop := false, frShift := 0, noDrive := false
        frM0 := ((s.now + 2 * fsUs) * 65536 + c.q - 1) / c.q }))
  else if c.frRun then
    if c.frU = 0 then s.endRun ch else s.modChan ch (fun c => { c with frStop := true })
  else s.checked fn Ty.tg ch [(decide (2 < sym), Code.paramRange)]
    (fun t => t.modChan ch (fun c => { c with frTs := ts, frSym := sym }))

/-- FREERUN_START: TG_FREERUN written with RUN = 1. -/
def execFreerunStart (fn ch ts sym : Nat) (s : State) : Host.Outcome State Fault Refusal :=
  onUnit (decide (fn < 18)) (s.onWrite fn Ty.tg ch 0x058
    (fun t => t.wFreerun fn ch (1 + 2 * (ts % 64) + 128 * (sym % 16))))

/-- FREERUN_STOP: TG_FREERUN written with RUN = 0. -/
def execFreerunStop (fn ch ts sym : Nat) (s : State) : Host.Outcome State Fault Refusal :=
  onUnit (decide (fn < 18)) (s.onWrite fn Ty.tg ch 0x058
    (fun t => t.wFreerun fn ch (2 * (ts % 64) + 128 * (sym % 16))))

/-! ### UIs and edges -/

/-- The abort point of the channel's site: UIs from it on do not play (08 R159). -/
def State.abortPoint (s : State) (ch : Nat) : Option Nat :=
  let o := s.chOwner ch
  if o < 16 then (s.site o).abortT.map (· + 32 * fsNs) else none

/-- A UI that starts at `u` on the channel: an invalid timeset plays as HOLD and is reported (R183); otherwise its
driver edges and its compare event are queued (R184 to R187). `b` is its block (none for a free run). -/
def State.startUi (s : State) (ch u t sym : Nat) (b : Option (Block × Nat)) : State :=
  let c := s.chan ch
  if ¬ c.tsValid t then
    ((s.modChan ch (fun c => { c with tsInv := true })).cause Ty.tg ch 2).raisePage Code.tsInvalid Ty.tg ch
  else
    let f := c.fmt t
    let o : Int := (u : Int) + (c.edge t 6 : Nat) + c.cmpSkew
    let cl : Int := if f.cmode then (u : Int) + (c.edge t 7 : Nat) + c.cmpSkew else o
    let ev : List CmpEv := match b with
      | none => []
      | some (bl, k) =>
        if isCompare sym ∨ sym = symCAPT then
          [{ open_ := o, close := cl, window := f.cmode, ui0 := u, k := k, sym := sym
             holdv := bl.holdv.getD k false, engine := bl.engine, site := bl.site, segId := bl.segId, seq := bl.seq, group := bl.group, uis := bl.syms.length
             masked := c.maskNow, fcu := c.fcuNow }]
        else []
    s.modChan ch (fun c => { c with
      pedges := if c.noDrive then c.pedges else c.pedges ++ c.uiEdges u u t sym, cmpEvs := c.cmpEvs ++ ev })

/-- The UI the channel begins next, when it is known: start, timeset, symbol (a released block's, the next block's in the
FIFO, or the free run's). -/
def State.nextUi (s : State) (ch : Nat) : Option (Nat × Nat × Nat) :=
  let c := s.chan ch
  match c.play, c.fifo with
  | some p, _ =>
    if p.inert then none else some (c.uiStart p.blk.tt p.blk.seq p.k, p.blk.tss.getD p.k 0, p.blk.syms.getD p.k symHOLD)
  | none, b :: _ =>
    if c.frRun ∨ ¬ (s.hdr Ty.tg ch).en then none else some (b.tt, b.tss.getD 0 0, b.syms.getD 0 symHOLD)
  | none, [] => none

/-- The free run's next UI, unless a stop is due at its start. -/
def State.nextFree (s : State) (ch : Nat) : Option (Nat × Nat × Nat) :=
  let c := s.chan ch
  if c.play.isSome ∨ ¬ c.frRun ∨ c.frStop then none
  else some (c.freeAt, c.frTs, if (s.hdr Ty.tg ch).en then c.frSym else symHOLD)

/-- The driver edges of the UI that begins next: one placed before that UI's start (a negative skew or CAL term) takes
its place among the edges of the UI in play (R188). -/
def State.nextEdges (s : State) (ch : Nat) : List PEdge :=
  let c := s.chan ch
  match (s.nextFree ch).orElse (fun _ => s.nextUi ch) with
  | some (u, t, sym) => if c.noDrive ∨ ¬ c.tsValid t ∨ (s.abortPoint ch).any (fun a => ttLe a u) then [] else c.uiEdges u u t sym
  | none => []

/-- A UI's edges are due from its start, or from the placed time of its first edge when that is earlier (R181). -/
def State.uiDue (s : State) (ch u t sym : Nat) : Bool :=
  ttLe u s.now || ((s.chan ch).tsValid t && ((s.chan ch).uiEdges u u t sym).any (fun p => ttReached s.now ((s.chan ch).edgeTime p)))

/-- UI_START: the next UI of the block in play, or of the free run, begins (R178, R192). A stop of a free run takes
effect at the end of its last UI, once the edges that spill past it are applied (R193). A UI whose first edge was placed
before its start and has been applied has begun: it is played out too (DESIGN CHOICE, log entry 55). -/
def State.uiStartStep (s : State) (ch : Nat) : State :=
  let c := s.chan ch
  match c.play with
  | some p =>
    let u := c.uiStart p.blk.tt p.blk.seq p.k
    if ¬ s.uiDue ch u (p.blk.tss.getD p.k 0) (p.blk.syms.getD p.k symHOLD) then s
    else if (s.abortPoint ch).any (fun a => ttLe a u) then s.modChan ch (fun c => { c with play := none })
    else
      let s1 := s.modChan ch (fun c => { c with play := if 63 ≤ p.k then none else some { p with k := p.k + 1 } })
      if p.inert then s1
      else s1.startUi ch u (p.blk.tss.getD p.k 0) (p.blk.syms.getD p.k symHOLD) (some (p.blk, p.k))
  | none =>
    if c.frRun then
      let u := c.freeAt
      if c.frStop then (if ¬ ttLe u s.now ∨ ¬ c.pedges.isEmpty then s else s.endRun ch)
      else if ¬ s.uiDue ch u c.frTs (if (s.hdr Ty.tg ch).en then c.frSym else symHOLD) then s
      else (s.modChan ch (fun c => { c with frU := c.frU + 1 })).startUi ch u c.frTs
        (if (s.hdr Ty.tg ch).en then c.frSym else symHOLD) none
    else s

def execUiStart (ch : Nat) (s : State) : Host.Outcome State Fault Refusal :=
  onUnit (decide (ch < nChan)) (s.uiStartStep ch)

/-- The formatter applies an edge at time t: an edge that changes nothing is none; one closer than Smin to the last on
its path is discarded (R188). -/
def Chan.applyEdge (c : Chan) (p : PEdge) : Chan × Bool :=
  let t := c.edgeTime p
  let target := if p.enable then p.act == 1 else if p.act = 2 then !c.high else p.act == 1
  let cur := if p.enable then c.en else c.high
  if target = cur then (c, false)
  else
    let last := if p.enable then c.lastEn else c.lastData
    if last.any (fun l => decide ((t - l + 2 ^ 40) % 2 ^ 64 < 2 ^ 40 + (c.smin : Nat))) then ({ c with conflict := true }, true)
    else if p.enable then ({ c with en := target, lastEn := some t }, false)
    else ({ c with high := target, lastData := some t }, false)

/-- EDGE_APPLY: the next driver edge of the channel, when its placed time has come and no edge of the UI that begins next
precedes it (R188). -/
def State.edgeStep (s : State) (ch : Nat) : State :=
  let c := s.chan ch
  match c.nextEdge c.pedges with
  | none => s
  | some p =>
    if ¬ ttReached s.now (c.edgeTime p) ∨ (s.nextEdges ch).any (fun x => !ttReached (c.edgeTime x) (c.edgeTime p)) then s
    else
      let r := ({ c with pedges := c.pedges.erase p } : Chan).applyEdge p
      let s1 := s.modChan ch (fun _ => r.1)
      if r.2 then (s1.cause Ty.tg ch 1).raisePage Code.edgeConflict Ty.tg ch else s1

def execEdgeApply (ch : Nat) (s : State) : Host.Outcome State Fault Refusal :=
  onUnit (decide (ch < nChan)) (s.edgeStep ch)

/-! ### The pin event FIFO (08 R153 to R157, R347) -/

def Block.deadline (b : Block) : Nat := (b.tt + 2 ^ 64 - 32 * fsNs) % 2 ^ 64
/-- Insert in ascending TT. -/
def fifoInsert (b : Block) : List Block → List Block
  | [] => [b]
  | x :: t => if ttLt b.tt x.tt then b :: x :: t else x :: fifoInsert b t

def Chan.postRec (c : Chan) (segId : Nat) : Option PostRec := c.posted.find? (fun r => r.segId == segId)
/-- A block counts as in the FIFO once it has arrived by its deadline, whether the FIFO holds or has dropped it (R158). -/
def Chan.present (c : Chan) (segId seq : Nat) : Bool := c.inTime.contains (segId, seq)

/-- The record whose last block has the earliest TT. -/
def earliestRec : List PostRec → Option PostRec
  | [] => none
  | r :: t => match earliestRec t with
    | none => some r
    | some x => if ttLe r.lastTT x.lastTT then some r else some x

/-- Accept a block into the posting record (R155). -/
def Chan.record (c : Chan) (b : Block) : Chan :=
  let r : PostRec := { segId := b.segId, next := b.seq + 1, lastTT := b.tt }
  if c.posted.any (fun x => x.segId == b.segId) then
    { c with posted := c.posted.map (fun x => if x.segId == b.segId then r else x) }
  else
    let keep := if 64 ≤ c.posted.length then
        (match earliestRec c.posted with | some x => c.posted.filter (fun y => y.segId != x.segId) | none => c.posted)
      else c.posted
    { c with posted := keep ++ [r] }

/-- The spans the channel holds or has released in this burst (R156). -/
def Chan.overlaps (c : Chan) (b : Block) : Bool :=
  let len := c.span 64
  (c.spans ++ c.fifo.map (fun x => (x.tt, x.tt + len))).any (fun p => ttLt b.tt p.2 && ttLt p.1 (b.tt + len))

/-- A value of a channel's source reaches the HIST unit of its cluster when the unit selects it (18 R396, 01 R29). -/
def State.histFeed (s : State) (ch kind : Nat) (v : Hist → Option Int) : State :=
  let k := cluOf ch
  let h := s.hist k
  let own := (s.hdr Ty.hist k).owner
  if h.run ∧ h.kind = kind ∧ h.lane = laneOf ch ∧ (own = 16 ∨ s.chOwner ch = own) then
    match v h with
    | some x => s.modHist k (fun h => { h with feed := h.feed ++ [x] })
    | none => s
  else s

/-- A dropped block's symbols are still those an address lane of a BITMAP read shows (11 R238). -/
def Chan.dropBlock (c : Chan) (b : Block) : Chan := { c with hist := (b :: c.hist).take 96 }

/-- A block reaches the FIFO at the present TT (R154 to R156, R347; cut R173; retired channel 06 R102). -/
def State.takeBlock (s : State) (ch : Nat) (b : Block) : State :=
  let x := s.site b.site
  if (x.st ≠ .running ∧ x.st ≠ .draining) ∨ ttLt b.deadline s.now ∨ ttLt b.tt x.startT then s
  else
  let s := s.modChan ch (fun c => { c with inTime := if c.inTime.contains (b.segId, b.seq) then c.inTime else (b.segId, b.seq) :: c.inTime })
  let c := s.chan ch
  if x.st = .draining ∧ x.cut.any (fun t => ttLe t b.tt) then s
  else if (c.postRec b.segId).any (fun r => decide (b.seq < r.next)) then s
  else if (s.hdr Ty.tg ch).retired then s.modChan ch (fun c => (c.record b).dropBlock b)
  else if c.overlaps b then
    ((s.modChan ch (fun c => { (c.record b).dropBlock b with overlap := true })).cause Ty.tg ch 4).raisePage Code.pinOverlap Ty.tg ch
  else s.modChan ch (fun c => { c.record b with fifo := fifoInsert b c.fifo })

/-- BLOCK_ARRIVE: the oldest block on its way to the channel reaches its FIFO. -/
def execBlockArrive (ch : Nat) (s : State) : Host.Outcome State Fault Refusal :=
  onUnit (decide (ch < nChan)) (
    match (s.chan ch).flying with
    | [] => s
    | b :: rest =>
      let s1 := s.modChan ch (fun c => { c with flying := rest })
      let dup := ((s1.chan ch).postRec b.segId).any (fun r => decide (b.seq < r.next))
      let s2 := when (s.siteSt b.site == .running || s.siteSt b.site == .draining) (fun t =>
        when (!dup) (fun u => u.histFeed ch 2 (fun _ => some (ttDiff b.deadline s.now))) t) s1
      s2.takeBlock ch b)

/-- The TT of a block on the lowest-numbered channel of its segment's group in the region, from its TT `tt` on the channel
(11 R228). -/
def State.recTT (s : State) (ch group seq tt : Nat) : Nat :=
  let low := ((chansOfRgn (rgnOfCh ch)).find? (fun x => bit group x)).getD ch
  ttMove tt (((s.chan low).span (64 * seq) : Nat) - ((s.chan ch).span (64 * seq) : Nat) : Int)

/-- The record is of the block (R228): SEG_ID is distinct only within a site (06 R102). -/
def FcuRec.same (c d : FcuRec) : Bool := c.site == d.site && c.segId == d.segId && c.seq == d.seq
/-- Act on the record of a block in a region's FCU; `fresh` opens it. -/
def State.withRec (s : State) (r : Nat) (fresh : FcuRec) (f : FcuRec → FcuRec) : State :=
  s.modFcu r (fun u => { u with
    recs := if u.recs.any fresh.same then u.recs.map (fun x => if fresh.same x then f x else x) else u.recs ++ [f fresh] })

/-- FCU mode of a site. -/
def State.fcuMode (s : State) (st : Nat) : Nat := (s.site st).fcuMode

/-- The FCU opens the record of a released block that has compare events for it on the channel (11 R228, R236). -/
def State.openRec (s : State) (ch : Nat) (b : Block) : State :=
  let judged := (List.range b.syms.length).any (fun k =>
    !b.holdv.getD k false && (isCompare (b.syms.getD k 0) || b.syms.getD k 0 == symCAPT))
  if 2 ≤ s.fcuMode b.site ∨ ¬ judged ∨ ¬ (s.chan ch).fcuEn ∨ ¬ (s.hdr Ty.fcu (rgnOfCh ch)).en ∨ ¬ (s.hdr Ty.tg ch).en then s
  else s.withRec (rgnOfCh ch) { segId := b.segId, seq := b.seq, site := b.site, group := b.group, uis := b.syms.length
                                tt := s.recTT ch b.group b.seq b.tt } id

/-- BLOCK_RELEASE: the block at the head of the FIFO goes to the timing generator at its TT; on a free-running channel
it is removed without effect and PIN_FREERUN logged once per burst (R193); TG EN = 0 makes its UIs inert (05 R92);
CMP_MASK and CMP EN are judged here (11 R225). -/
def State.release (s : State) (ch : Nat) : State :=
  let c := s.chan ch
  match c.fifo with
  | [] => s
  | b :: rest =>
    if ttLt s.now b.tt then s
    else if (s.site b.site).st = .draining ∧ (s.site b.site).cut.any (fun t => ttLe t b.tt) then s.modChan ch (fun c => { c with fifo := rest })
    else
      let s1 := s.modChan ch (fun c => { c with fifo := rest, spans := (b.tt, b.tt + c.span 64) :: c.spans })
      if c.frRun then
        let s1 := s1.modChan ch (fun c => c.dropBlock b)
        if c.pfLogged then s1
        else (s1.modChan ch (fun c => { c with pfLogged := true })).raisePage Code.pinFreerun Ty.tg ch
      else (s1.modChan ch (fun c => { c with
        play := some { blk := b, k := 0, inert := !(s.hdr Ty.tg ch).en }, hist := (b :: c.hist).take 96, maskRel := c.mask
        maskNow := c.mask || !(s.hdr Ty.cmp ch).en, fcuNow := (s.hdr Ty.fcu (rgnOfCh ch)).en })).openRec ch b

def execBlockRelease (ch : Nat) (s : State) : Host.Outcome State Fault Refusal :=
  onUnit (decide (ch < nChan)) (s.release ch)

end Sys2Proof.Machine
end

