-- ==== Sys2Proof/Machine/Compare.lean ====
section
/-! DEFINITION. Family: compare logic and fail capture (11_compare_and_fail_capture.md). -/

namespace Sys2Proof.Machine

/-! ### Judging (R222 to R225) -/

/-- The latest crossing of a comparator stamped at or before `t`. -/
def crossAt (l : List Cross) (cl : Bool) (t : Int) : Option Cross :=
  (l.filter (fun x => x.cl == cl && ttReached t x.tt)).foldl
    (fun b x => match b with | none => some x | some y => if ttLe y.tt x.tt then some x else some y) none

/-- The earliest crossing of a comparator stamped inside (a, b). -/
def crossIn (l : List Cross) (cl : Bool) (a b : Int) : Option Cross :=
  (l.filter (fun x => x.cl == cl && !ttReached a x.tt && !ttReached x.tt b)).foldl
    (fun m x => match m with | none => some x | some y => if ttLt x.tt y.tt then some x else some y) none

/-- A comparator's output at instant `t`: after every crossing stamped at or before it (R222). -/
def Chan.outAt (c : Chan) (cl : Bool) (t : Int) : Bool :=
  match crossAt c.crossings cl t with
  | some x => x.rising
  | none => match crossIn c.crossings cl t (t + (2 ^ 63 - 1)) with
    | some x => !x.rising
    | none => if cl then c.outCL else c.outCH

/-- The output has the value `v` throughout [a, b); the first instant it has not (R222). -/
def Chan.holds (c : Chan) (cl v : Bool) (a b : Int) : Option Int :=
  if c.outAt cl a ≠ v then some a else (crossIn c.crossings cl a b).map (fun x => a + ((x.tt : Int) - a) % 2 ^ 64)

/-- The earlier of two violations. -/
def firstViol (a b : Option Int) : Option Int :=
  match a, b with
  | some x, some y => some (min x y)
  | some x, none => some x
  | none, y => y

/-- The first violation of a compare event between its open and close times (R223); none: it passes. -/
def Chan.violation (c : Chan) (sym : Nat) (win : Bool) (a b : Int) : Option Int :=
  let b := if win then b else a
  if sym = 3 then c.holds true true a b
  else if sym = 4 then c.holds false true a b
  else firstViol (c.holds false false a b) (c.holds true false a b)

/-- The capture bit of a CAPT UI (R224). -/
def Chan.captBit (c : Chan) (win : Bool) (a b : Int) : Bool :=
  c.outAt c.captSrc a || (win && (c.crossings.any (fun x => x.cl == c.captSrc && x.rising
    && !ttReached a x.tt && !ttReached x.tt b)))

/-- The event with the earliest close. -/
def nextEv : List CmpEv → Option CmpEv
  | [] => none
  | e :: t => match nextEv t with
    | none => some e
    | some x => if ttReached x.close e.close then some e else some x

/-- COMPARE_EVENT: the next compare event of the channel, at its strobe or window close: masked events produce no
result, and a masked hold-vector position counts as a pass (R225); the result is due 320 ns later (R226). On a channel whose
retirement sets an abort point the masking starts there (01 R13). -/
def State.compareStep (s : State) (ch : Nat) : State :=
  let c := s.chan ch
  match nextEv c.cmpEvs with
  | none => s
  | some e =>
    let a := c.evOpen e
    let b := c.evClose e
    if ¬ ttReached s.now b then s
    else
      let s1 := s.modChan ch (fun c => { c with cmpEvs := c.cmpEvs.erase e })
      let masked := e.masked || c.hard || c.held || ((s.hdr Ty.cmp ch).retired && !c.outDue) || c.frRun
        || (s.abortPoint ch).any (fun p => ttReached b p)
      let v := c.violation e.sym e.window a b
      let res : CmpRes :=
        if e.sym = symCAPT then
          { due := b + 320 * fsNs, at_ := b, ev := { e with calO := some (a - e.open_), calC := some (b - e.close) }
            pass := true, capt := c.captBit e.window a b }
        else
          { due := b + 320 * fsNs, at_ := b, ev := { e with calO := some (a - e.open_), calC := some (b - e.close) }
            pass := v.isNone
            ch := c.outAt false (v.getD a), cl := c.outAt true (v.getD a), viol := v.getD a - e.ui0 }
      if masked then s1
      else s1.modChan ch (fun c => { c with results := c.results ++ [res] })

def execCompareEvent (ch : Nat) (s : State) : Host.Outcome State Fault Refusal :=
  onUnit (decide (ch < nChan)) (s.compareStep ch)

/-! ### Records and partitions (R228 to R244) -/

def State.part (s : State) (r st : Nat) : FcuPart := Tbl.get {} (s.fcu r).parts st
def State.modPart (s : State) (r st : Nat) (f : FcuPart → FcuPart) : State :=
  s.modFcu r (fun u => { u with parts := Tbl.upd {} u.parts st f })

/-- Capacity of a partition in bytes. -/
def FcuPart.cap (p : FcuPart) : Nat := p.units * 65536

/-- The 32-byte record header (R229). -/
def recHeader (tt segId seq st r kind flags nfail nent lanes pseq : Nat) : List Byte :=
  le 8 tt ++ le 4 segId ++ le 4 seq ++ le 1 (st % 16 + 16 * r) ++ le 1 kind ++ le 2 flags ++ le 2 nfail ++ le 2 nent
    ++ le 6 lanes ++ le 2 pseq

/-- The level at a commit that takes `len` bytes at level 2 (R241): a partition that leaves level 3 is at 2 for this
commit. -/
def fcuLevel (u : Fcu) (p : FcuPart) (len : Nat) : Nat :=
  let f := 8 * p.fill
  match p.level with
  | 0 => if u.l2 * p.cap ≤ f then 2 else if u.l1 * p.cap ≤ f then 1 else 0
  | 1 => if u.l2 * p.cap ≤ f then 2 else if f < u.l0 * p.cap then 0 else 1
  | 2 => if f < u.l0 * p.cap then 0 else 2
  | _ => if p.fill + len ≤ p.cap then 2 else 3

/-- LEVEL as a partition reports it: a partition of size 0 reads 3 (R243). -/
def FcuPart.shown (p : FcuPart) : Nat := if p.units = 0 then 3 else p.level

/-- A partition event (R235): a cause of the FCU page (R247) and an entry in the site's log queue. The specification
gives the entry no CODE: it is a free value (log entries 5 and 56). -/
def State.partEvent (s : State) (r st mask : Nat) : State :=
  ((s.cause Ty.fcu r mask).postLog st (ErrEntry.bytes
    { code := s.freeVal % 2 ^ 16, site := st, ty := Ty.fcu, inst := r, firstTT := s.now, lastTT := s.now })).useFree

/-- Set a partition's level: event DEGRADE when it rises from 0, event LOST when it rises to 3 (R247; a partition of size
0 is at 3 from the start). -/
def State.setLevel (s : State) (r st lv : Nat) : State :=
  let p := s.part r st
  let s1 := s.modPart r st (fun p => { p with level := lv })
  let s2 := when (p.level == 0 && lv != 0 && p.units != 0) (fun t => t.partEvent r st 1) s1
  when (p.level != 3 && lv == 3) (fun t => t.partEvent r st 2) s2

/-- A record or update lost: counted, cause LOST (R242, R243). -/
def State.loseUpdate (s : State) (r st : Nat) : State :=
  ((s.modPart r st (fun p => { p with lost := satAdd sat32 p.lost 1 })).modFcu r
    (fun u => { u with lostCount := satAdd sat16 u.lostCount 1 })).cause Ty.fcu r 2

/-- A record lost at level 3: also into the pending gap, when the partition has a ring (R242). -/
def State.loseRecord (s : State) (r st tt nfail : Nat) : State :=
  let s1 := s.loseUpdate r st
  if (s.part r st).units = 0 then s1
  else s1.modPart r st (fun p => { p with
    gap := true, gapTT := if p.gap then p.gapTT else tt, gapRecs := (if p.gap then p.gapRecs else 0) + 1
    gapFails := satAdd sat32 (if p.gap then p.gapFails else 0) nfail })

/-- Put a record into a ring; `count` for records other than GAP. -/
def State.pushRing (s : State) (r st : Nat) (rec : Nat → List Byte) (count : Bool) : State :=
  s.modPart r st (fun p =>
    let b := rec p.pseq
    { p with
      ring := p.ring ++ [b], fill := p.fill + b.length, pseq := (p.pseq + 1) % 65536
      records := p.records + (if count then 1 else 0) })

/-- A pending gap is committed once 32 bytes are free (R242). -/
def State.commitGap (s : State) (r st : Nat) : State :=
  let p := s.part r st
  if p.gap ∧ p.fill + 32 ≤ p.cap then
    (s.pushRing r st (fun n => recHeader p.gapTT p.gapRecs p.gapFails st r 3 0 0 0 0 n) false).modPart r st
      (fun p => { p with gap := false, gapRecs := 0, gapFails := 0 })
  else s

/-- A record of `len` bytes of a sealed site above the frame limit of its fail queue does not fit (17 R372). -/
def State.overFrame (s : State) (st r len : Nat) : Bool :=
  s.isSealed st && (s.part r st).qValid && decide (frameLimit (s.queue (s.part r st).queue) < len)

/-- Commit a record of which the full and the level-2 forms are given; the Bool says that it was not lost (R241).
`keepAt` is the highest level at which the full form is kept. One made while a sealed site has no container loaded is
discarded and counted as lost (17 R361). -/
def State.commitRecord (s : State) (r st tt nfail : Nat) (full summary : Nat → List Byte) (keepAt : Nat) : State × Bool :=
  if s.sealedEmpty st then (s.loseUpdate r st, false) else
  let s := s.commitGap r st
  let p := s.part r st
  let sumLen := (summary 0).length
  let fullLen := (full 0).length
  let lv := fcuLevel (s.fcu r) p (if 2 ≤ keepAt then fullLen else sumLen)
  let keep := decide (lv ≤ keepAt)
  let len := if keep then fullLen else sumLen
  if p.units = 0 ∨ lv = 3 ∨ p.cap < p.fill + len ∨ s.overFrame st r len then ((s.setLevel r st 3).loseRecord r st tt nfail, false)
  else
    let s1 := (s.setLevel r st lv).pushRing r st (if keep then full else summary) true
    (if keep then s1 else s1.modFcu r (fun u => { u with sumCount := satAdd sat16 u.sumCount 1 }), true)

/-- Sparse entries of a record in ascending lane, then UI. -/
def FcuRec.entries (c : FcuRec) : List Nat := c.fails.map (·.2)
def FcuRec.lanes (l : Tbl Nat) : Nat := maskOf ((l.map (fun p => p.1 / 64)))
/-- 384-byte bitmap from keys lane × 64 + UI (R230). -/
def bitmap (keys : List Nat) : List Byte :=
  (List.range 384).map (fun i => BitVec.ofNat 8 (maskOf ((keys.filter (fun k => k / 8 == i)).map (· % 8))))

/-- FIRST_N: a committed or lost record counts toward N; the N-th ends the site's records (R237). -/
def State.countN (s : State) (r st : Nat) : State :=
  let x := s.site st
  if s.fcuMode st ≠ 1 ∨ x.firstDone then s
  else
    let last := decide ((s.part r st).n ≤ x.firstCount + 1)
    when last (fun t => t.partEvent r st 4) (s.modSite st (fun x => { x with firstCount := x.firstCount + 1, firstDone := last }))

/-- Commit the fail record of a closed block: form (R232), FIRST_N (R237), degradation (R241). -/
def State.commitFail (s : State) (r : Nat) (c : FcuRec) : State :=
  let st := c.site
  let mode := s.fcuMode st
  let n := c.fails.length
  if n = 0 ∨ 2 ≤ mode ∨ (mode = 1 ∧ (s.site st).firstDone) then s
  else
    let p := s.part r st
    let last := mode = 1 ∧ p.n ≤ (s.site st).firstCount + 1
    let fl := b2n c.trunc + (if last then 4 else 0)
    let lanes := FcuRec.lanes c.fails
    let sparse := n ≤ 4 ∧ p.sparseEn
    let full := fun q =>
      if sparse then recHeader c.tt c.segId c.seq st r 1 fl n n lanes q
          ++ (c.entries ++ List.replicate (4 - n) 0).flatMap (fun e => le 8 e)
      else recHeader c.tt c.segId c.seq st r 0 fl n 0 lanes q ++ bitmap (c.fails.map (·.1))
    let sum := fun q => recHeader c.tt c.segId c.seq st r 2 (fl + 2) n 0 lanes q
    (s.commitRecord r st c.tt n full sum (if sparse then 1 else 0)).1.countN r st

/-- Commit the CAPTURE record of a closed block, directly after its fail record (R232); in FIRST_N mode none once N is
reached, and a lost one counts toward N (R237). -/
def State.commitCapture (s : State) (r : Nat) (c : FcuRec) : State :=
  let st := c.site
  let p := s.part r st
  if c.captUis = 0 ∨ ¬ p.captEn ∨ 2 ≤ s.fcuMode st ∨ (s.fcuMode st = 1 ∧ (s.site st).firstDone) then s
  else
    let full := fun q => recHeader c.tt c.segId c.seq st r 4 (b2n c.trunc) 0 0 c.captUis q
      ++ bitmap (c.capts.map (·.1))
    let w := s.commitRecord r st c.tt 0 full full 2
    if w.2 then w.1 else w.1.countN r st

/-- The block has, from UI `k` on, a compare event whose result contributes to a record (R228). -/
def Block.judgedFrom (b : Block) (k : Nat) : Bool :=
  (List.range b.syms.length).any (fun i => decide (k ≤ i) && !b.holdv.getD i false
    && (isCompare (b.syms.getD i 0) || b.syms.getD i 0 == symCAPT))

/-- No compare event of the block (segId, seq) that contributes to its record is still to come on the channel, nor the
result of one (R228). -/
def Chan.blockDone (c : Chan) (segId seq : Nat) : Bool :=
  !(c.fifo.any (fun b => b.segId == segId && b.seq == seq && b.judgedFrom 0))
    && !(c.flying.any (fun b => b.segId == segId && b.seq == seq && b.judgedFrom 0))
    && !(c.play.any (fun p => p.blk.segId == segId && p.blk.seq == seq && !p.inert && p.blk.judgedFrom p.k))
    && !(c.cmpEvs.any (fun e => e.segId == segId && e.seq == seq && !e.holdv))
    && !(c.results.any (fun x => x.ev.segId == segId && x.ev.seq == seq && !x.ev.holdv))

/-- Every channel of the segment in the region has produced the result of its last compare event of the block, or the
block ended at a cut or an abort point (R228). -/
def State.recClosed (s : State) (r : Nat) (c : FcuRec) : Bool :=
  let x := s.site c.site
  let past := c.past || x.abortDone || x.cut.any (fun t => ttLe t s.now)
  (chansOfRgn r).all (fun ch => !bit c.group ch ||
    (((s.chan ch).present c.segId c.seq || past || (s.chan ch).hist.any (fun b => b.site == c.site && b.segId == c.segId && b.seq == c.seq))
      && (s.chan ch).blockDone c.segId c.seq))

/-- TRUNC (R229): an abort point falls before the end of the block, or a cut at or before its TT, on a channel of its
segment in the region. A block that began before a cut plays whole (08 R173). -/
def State.recTrunc (s : State) (r : Nat) (c : FcuRec) : Bool :=
  let x := s.site c.site
  let chs := (chansOfRgn r).filter (fun ch => bit c.group ch)
  let eff := ttMove c.tt (-(chs.head?.elim 0 (fun ch => (s.chan ch).span (64 * c.seq)) : Nat))
  c.trunc || chs.any (fun ch =>
    x.abortT.any (fun t => ttLt (t + 32 * fsNs) (eff + (s.chan ch).span (64 * c.seq + c.uis)))
      || x.cut.any (fun t => ttLe t (eff + (s.chan ch).span (64 * c.seq))))

/-- At the end of an aborted burst the records still open keep whether they were cut (R244). -/
def State.recsPast (s : State) (st : Nat) : State :=
  forEach (List.range nRgn) (fun r t => t.modFcu r (fun u => { u with
    recs := u.recs.map (fun c => if c.site = st then { c with trunc := s.recTrunc r c, past := true } else c) })) s

/-- The instant a record closes: the due time of its last result, or the abort point or cut that ended its block when that
is later (R228, R244). -/
def State.recEnds (s : State) (r : Nat) (c : FcuRec) : Int :=
  let x := s.site c.site
  if ¬ s.recTrunc r c then c.last
  else max c.last (match x.abortT, x.cut with | some t, _ => t + 32 * fsNs | none, some t => t | none, none => 0)

/-- Records of one CCLK cycle are committed in ascending SEG_ID, then SEQ; FIRST_N counts regions in ascending order
within a cycle (R233, R237). `rc` and `ro` are the regions of the records, `to_` and `tc` the instants they close. -/
def FcuRec.before (ro rc : Nat) (to_ tc : Int) (o c : FcuRec) : Bool :=
  let co := to_ / 4096
  let cc := tc / 4096
  decide (co < cc) || (co == cc && (decide (ro < rc) || (ro == rc && (decide (o.segId < c.segId) || (o.segId == c.segId && decide (o.seq < c.seq))))))

/-- A closed record of the site goes before this one. -/
def State.recWaits (s : State) (r : Nat) (c : FcuRec) : Bool :=
  (List.range nRgn).any (fun i => (i == r || s.fcuMode c.site == 1)
    && (s.fcu i).recs.any (fun o => o.site == c.site && s.recClosed i o && o.before i r (s.recEnds i o) (s.recEnds r c) c))

/-- FCU_RECORD_CLOSE: the record of a block closes and is committed to the partition ring (R228 to R233). -/
def State.closeRecord (s : State) (r segId seq : Nat) : State :=
  match (s.fcu r).recs.find? (fun c => c.segId == segId && c.seq == seq && s.recClosed r c && !s.recWaits r c) with
  | none => s
  | some c =>
    let d := { c with trunc := s.recTrunc r c }
    ((s.modFcu r (fun u => { u with recs := u.recs.erase c })).commitFail r d).commitCapture r d

/-- A result reaches the record of its block in the channel's region. -/
def State.toRec (s : State) (ch : Nat) (v : CmpRes) (f : FcuRec → FcuRec) : State :=
  let e := v.ev
  let c := s.chan ch
  let tt := ttMove e.ui0 ((c.span (64 * e.seq) : Nat) - (c.span (64 * e.seq + e.k) : Nat) : Int)
  s.withRec (rgnOfCh ch) { segId := e.segId, seq := e.seq, site := e.site, group := e.group, uis := e.uis
                           tt := s.recTT ch e.group e.seq tt } (fun c => f { c with last := max c.last v.due })

/-- The sparse entry of a fail (R231). -/
def sparseEntry (lane : Nat) (x : CmpRes) : Nat :=
  lane + 64 * x.ev.k + 4096 * x.ev.sym + b2n x.ch * 65536 + b2n x.cl * 131072 + b2n x.ev.window * 262144
    + (min sat32 x.viol.toNat) * 2 ^ 32

/-- The address bit and data bit of a fail in BITMAP mode (R238): some index, or which drop count. The failing lane may
itself be an address lane: the bit is set and its own symbol, no D1, gives a 0 (R245; log entry 57). -/
def bitmapIndex (r ch : Nat) (t : List Byte) (symAt : Nat → Option Nat) : Option Nat ⊕ Bool :=
  let byte := fun i => (t.getD i 0).toNat
  let abits := byte 0
  let dmask := fromLe ((t.drop 16).take 8)
  let lane := ch - 48 * r
  let bitsL := (List.range abits).map (fun i => if byte (24 + i) = lane then some symD0 else symAt (48 * r + byte (24 + i)))
  if bitsL.any (fun b => b != some symD0 && b != some symD1) then .inr false
  else
    let raw := maskOf ((List.range abits).filter (fun i => bitsL.getD i none == some symD1))
    let a := maskOf ((List.range abits).filter (fun j => bit raw (byte (56 + j) % 32) != bit (byte (56 + j)) 7))
    let dw := (bitList dmask 48).length
    let idx := a * dw + ((bitList dmask 48).filter (· < lane)).length
    if 2 ^ byte 1 ≤ idx then .inr true else .inl (some idx)

/-- HBM refuses class 3 traffic to a device address: its stack reports back-pressure and throttles the class (15 R315,
R316; DEDUCED, log entry 57). -/
def State.fcuHeld (s : State) (a : Nat) : Bool :=
  decide (a < hbmTop) && (s.hbm (hbmStack a)).bp && (s.hbm (hbmStack a)).degFail

/-- Staged updates written to HBM in order, and those that wait; bits are only set. -/
def State.writeUps (s : State) : List (Nat × Nat) → State × List (Nat × Nat)
  | [] => (s, [])
  | u :: t => if s.fcuHeld u.1 then (s, u :: t) else (s.setByte u.1 ((s.byte u.1) ||| BitVec.ofNat 8 (2 ^ u.2))).writeUps t
/-- A partition's staged updates go to HBM as it takes them (R238). -/
def State.drainUps (s : State) (r st : Nat) : State :=
  let p := s.part r st
  let w := s.writeUps p.ups
  let done := p.ups.take (p.ups.length - w.2.length)
  w.1.modPart r st (fun p => { p with
    ups := w.2, fill := p.fill - 8 * done.length
    lastUp := match done.getLast? with
      | some u => some (u.1, u.2, bit (s.byte u.1).toNat u.2 || done.dropLast.contains u)
      | none => p.lastUp })

/-- The update whose read of the 32-byte word at `addr` cannot be corrected is lost (15 R314): the first staged one in
that word, else the last one written there. -/
def State.dropUpdate (s : State) (r st addr : Nat) : State :=
  let p := s.part r st
  let here := fun (a : Nat) => a / 32 == addr / 32
  match p.ups.find? (fun u => here u.1), p.lastUp with
  | some u, _ => s.modPart r st (fun p => { p with ups := p.ups.erase u, fill := p.fill - 8 })
  | none, some (a, b, was) =>
    if here a ∧ ¬ was then
      (s.setByte a (BitVec.ofNat 8 (clearMask (s.byte a).toNat (2 ^ b)))).modPart r st (fun p => { p with lastUp := none })
    else s
  | none, none => s

/-- A fail of a non-HOLDV UI in BITMAP mode stages one update of the site's HBM bitmap, or is counted (R238, R241,
R243). -/
def State.bitmapUpdate (s : State) (ch : Nat) (e : CmpEv) (symAt : Nat → Option Nat) : State :=
  let r := rgnOfCh ch
  let p := s.part r e.site
  match p.table with
  | none => s.modPart r e.site (fun p => { p with noAddr := satAdd sat16 p.noAddr 1 })
  | some t =>
    if ¬ bit (fromLe ((t.drop 16).take 8)) (ch - 48 * r) then s
    else match bitmapIndex r ch t symAt with
      | .inr false => s.modPart r e.site (fun p => { p with noAddr := satAdd sat16 p.noAddr 1 })
      | .inr true => s.modPart r e.site (fun p => { p with range := satAdd sat16 p.range 1 })
      | .inl none => s
      | .inl (some i) =>
        if p.units = 0 ∨ p.cap < p.fill + 8 then (s.setLevel r e.site 3).loseUpdate r e.site
        else
          let a := fromLe ((t.drop 8).take 8) % 2 ^ 40 + i / 8
          ((s.setLevel r e.site (fcuLevel (s.fcu r) p 8)).modPart r e.site (fun p => { p with
            ups := p.ups ++ [(a, i % 8)], fill := p.fill + 8 })).drainUps r e.site

/-- A fail counted in CMP_FAIL_COUNT: FAIL_SEEN and its cause, saturation at 2^48 − 1 and its cause once (R226, R245). -/
def State.countFail (s : State) (ch : Nat) : State :=
  let c := s.chan ch
  let full := c.failCount + 1 ≥ 2 ^ 48 - 1
  let s1 := s.modChan ch (fun c => { c with
    failCount := satAdd (2 ^ 48 - 1) c.failCount 1, failSeen := true, countSat := c.countSat || decide full })
  let s2 := if c.failSeen then s1 else s1.cause Ty.cmp ch 1
  if full ∧ ¬ c.countSat then s2.cause Ty.cmp ch 2 else s2

/-- FCU_RECORD_MOVE: staged updates go to HBM, a pending gap is committed when it fits, then the oldest record of the ring
goes to `deliver`, which says whether the fail queue took it (R235); records wait while HBM refuses fail spill (15 R315). -/
def State.moveRecord (s : State) (r st : Nat) (deliver : State → Nat → List Byte → State × Bool) : State :=
  let s := (s.drainUps r st).commitGap r st
  let p := s.part r st
  let q := s.queue p.queue
  match p.ring with
  | [] => s
  | rec :: rest =>
    if ¬ p.qValid ∨ s.fcuHeld (q.base + slotSize q.type * q.tail) then s
    else
      let d := deliver s p.queue rec
      if d.2 then d.1.modPart r st (fun p => { p with ring := rest, fill := p.fill - rec.length }) else s

/-- A write of FCU_P_SIZE; a change of size clears the partition (R234, 01 R30). -/
def State.wPSize (s : State) (fn r st val : Nat) : State :=
  let others := ((List.range 16).filter (· != st)).foldl (fun n i => n + (s.part r i).units) 0
  s.checked fn Ty.fcu r
    [(!s.siteIdle st, Code.blkBusy), (decide (128 < bits val 0 8 ∨ 128 < others + bits val 0 8), Code.paramRange)]
    (fun t => if bits val 0 8 = (t.part r st).units then t else t.modPart r st (fun p => { p with
      units := bits val 0 8, level := 0, ring := [], ups := [], fill := 0, gap := false, gapRecs := 0, gapFails := 0, pseq := 0
      records := 0, lost := 0, noAddr := 0, range := 0 }))

/-- FCU_P_SIZE_WRITE: owner function only; read-only to the site. -/
def execFcuPSizeWrite (fn r st val : Nat) (s : State) : Host.Outcome State Fault Refusal :=
  onUnit (decide (fn < 18 ∧ st < 16)) (s.onWrite fn Ty.fcu r (0x400 + 0x40 * st + 0x0C)
    (fun t => if fn = 0 then t.wPSize fn r st val else t.deny fn Ty.fcu r (0x400 + 0x40 * st + 0x0C) true))

/-- A write of FCU_P_CTRL through any FCU window sets the site's mode in all four (R236). -/
def State.wPCtrl (s : State) (fn r st val : Nat) : State :=
  s.checked fn Ty.fcu r [(!s.siteIdle st, Code.blkBusy)]
    (fun t => forEach [0, 1, 2, 3] (fun i t => t.modPart i st (fun p => { p with
        sparseEn := bit val 2, captEn := bit val 3 }))
      (t.modSite st (fun x => { x with fcuMode := bits val 0 2 })))

/-- FCU_P_CTRL_WRITE. -/
def execFcuPCtrlWrite (fn r st val : Nat) (s : State) : Host.Outcome State Fault Refusal :=
  onUnit (decide (fn < 18 ∧ st < 16)) (s.onWrite fn Ty.fcu r (0x400 + 0x40 * st) (fun t => t.wPCtrl fn r st val))

/-- A write of FCU_P_N, site-wide (R236, R247). -/
def State.wPN (s : State) (fn r st val : Nat) : State :=
  s.checked fn Ty.fcu r
    [(!s.siteIdle st, Code.blkBusy), (decide (bits val 0 25 = 0 ∨ 16777216 < bits val 0 25), Code.paramRange)]
    (fun t => forEach [0, 1, 2, 3] (fun i t => t.modPart i st (fun p => { p with n := bits val 0 25 })) t)

/-- A write of FCU_CTRL (R247). -/
def State.wFcuCtrl (s : State) (fn r val : Nat) : State :=
  let l1 := bits val 0 3
  let l2 := bits val 3 3
  let l0 := bits val 6 3
  s.checked fn Ty.fcu r [(!(decide (1 ≤ l0 ∧ l0 < l1 ∧ l1 < l2 ∧ l2 ≤ 7)), Code.paramRange)]
    (fun t => t.modFcu r (fun u => { u with l1 := l1, l2 := l2, l0 := l0 }))

/-- CMP_CTRL, CMP_TDC_CTRL (a change needs an idle channel), CMP_MASK, CMP_STATUS, CMP_FAIL_COUNT_HI (R246). -/
def State.wCmpCtrl (s : State) (fn ch val : Nat) : State :=
  let c := s.chan ch
  s.checked fn Ty.cmp ch [((bit val 0 != c.fcuEn || bit val 1 != c.captSrc) && s.chBusy ch, Code.blkBusy)]
    (fun t => t.modChan ch (fun c => { c with fcuEn := bit val 0, captSrc := bit val 1 }))
def State.wTdcCtrl (s : State) (fn ch val : Nat) : State :=
  let c := s.chan ch
  s.checked fn Ty.cmp ch
    [((bit val 0 != c.tdcCh || bit val 1 != c.tdcCl || bits val 2 2 != c.tdcEdge) && s.chBusy ch, Code.blkBusy),
     (bits val 2 2 == 3, Code.paramRange)]
    (fun t => t.modChan ch (fun c => { c with tdcCh := bit val 0, tdcCl := bit val 1, tdcEdge := bits val 2 2 }))
def State.wCmpMask (s : State) (ch val : Nat) : State := s.modChan ch (fun c => { c with mask := bit val 0 })
def State.wCmpStatus (s : State) (ch val : Nat) : State :=
  s.modChan ch (fun c => { c with failSeen := c.failSeen && !bit val 2 })
def State.wFailHi (s : State) (fn ch val : Nat) : State :=
  let lo := s.lowHalf fn Ty.cmp ch 0x054 ((s.chan ch).failCount % 2 ^ 32)
  (s.unstage fn Ty.cmp ch 0x054).checked fn Ty.cmp ch [(lo + bits val 0 16 != 0, Code.paramRange)]
    (fun t => t.modChan ch (fun c => { c with failCount := 0, countSat := false }))

end Sys2Proof.Machine
end

