-- ==== Sys2Proof/Machine/Burst.lean ====
section
/-! DEFINITION. Family: site bursts (02 R38, R39; 08 R159, R166, R171 to R174; 16 R345 to R348). -/

namespace Sys2Proof.Machine

/-! ### Reports -/

/-- A completion for a segment (KIND 1) or burst (KIND 2): posted to SITE_COMPLETION_QUEUE while VALID, else counted in
the SITE page's BLK_ERR_COUNT (16 R352). So is one that finds the queue full and 64 completions of the function held: the
specification does not cover it (15 R321; DESIGN CHOICE, log entry 55). -/
def State.siteCpl (s : State) (st : Nat) (entry : List Byte) : State :=
  let x := s.site st
  if x.cplQValid ∧ (0 < (s.queue x.cplQ).room ∨ (s.fn (st + 1)).held.length < 64) then s.postCpl (st + 1) x.cplQ entry
  else s.modHdr Ty.site st (fun h => { h with errCount := satAdd sat16 h.errCount 1 })

/-- The completion of KIND 2 for a state entered at TT `tt` (R348). -/
def State.burstCplAt (s : State) (st status tt : Nat) (entered : Burst) : State :=
  s.siteCpl st (cplBytes 2 status (s.site st).burstCount tt (le 2 entered.code))
def State.burstCpl (s : State) (st status : Nat) (entered : Burst) : State := s.burstCplAt st status s.now entered

/-- The burst notice of RUNNING and IDLE entry (R348). -/
def State.burstNotice (s : State) (st : Nat) (entered : Burst) : State :=
  s.postLog st (ErrEntry.bytes { code := 0, site := st, ty := 6, inst := st, firstTT := s.now, lastTT := s.now, detail := (s.site st).burstCount % 2 ^ 29 + entered.code * 2 ^ 29 })

/-- A class 0x2 code of a site: its DETAIL is the burst count (18 R392). -/
def State.raiseBurst (s : State) (code st : Nat) : State := s.raise code Ty.site st (some st) (s.site st).burstCount

/-- A refused burst command (R345). -/
def State.rejectBurst (s : State) (st code : Nat) : State :=
  (s.modSite st (fun x => { x with lastReject := code })).raiseBurst code st

/-! ### Engines, deques, queues of a site -/

def allTes : List Nat := List.range nEng
/-- The engines executing or taking a segment of a site. -/
def State.siteRuns (s : State) (st : Nat) : List Nat := allTes.filter (fun e => (s.te e).cur.any (fun g => g.site == st))

/-- Remove a site's entries from every deque and re-queue slot. -/
def State.clearDeques (s : State) (st : Nat) : State :=
  forEach allTes (fun e t => t.modTe e (fun x => { x with
    deque := x.deque.filter (fun g => g.site != st)
    slot := x.slot.filter (fun g => g.2.site != st) })) { s with returned := s.returned.filter (fun g => g.site != st) }

/-- An engine comes back to the pool with an empty deque; the entries it still holds go back to their segment queues: what
becomes of them the specification does not say (08 R163; DESIGN CHOICE, log entry 55). -/
def State.emptyDeque (s : State) (e : Nat) : State :=
  let x := s.te e
  ({ s with returned := s.returned ++ x.deque ++ (x.slot.map (·.2)).toList } : State).modTe e (fun x => { x with
    deque := [], slot := none, lastSite := none })

/-- The numbers of the enabled segment queues of a site. -/
def State.segQueues (s : State) (st : Nat) : List Nat :=
  (s.queues.filter (fun p => p.2.enable && p.2.type == 1 && !p.2.ownerFn && p.2.owner == st)).map (·.1)

/-- Set the head of each segment queue of a site to its tail (R173, R174). -/
def State.discardQueues (s : State) (st : Nat) : State :=
  forEach (s.segQueues st) (fun q t => t.modQueue q (fun d => { d with head := d.tail })) s

/-- Barriers restart: counts arrived and generations at 0 (R171). -/
def State.resetBarriers (s : State) (st : Nat) : State :=
  s.modSite st (fun x => { x with
    barriers := (x.barriers.map (fun p => (p.1, ({ count := p.2.count } : Barrier)))).filter (fun p => p.2 ≠ {}) })

/-! ### ABORTED -/

def abortCauseCode (code : Nat) : Nat := code - 0x200F

/-- Entry to ABORTED of a RUNNING or DRAINING site at TT `t` (R38, R39, R159, R171, R174, R348). The FIFOs keep only
blocks that begin before the abort point. -/
def State.abortSiteAt (s : State) (st code t : Nat) : State :=
  if (s.site st).st ≠ .running ∧ (s.site st).st ≠ .draining then s
  else
    let s1 := (((s.modSite st (fun x => { x with
      st := .aborted, abortCause := abortCauseCode code, abortT := some t, abortDone := false, cut := none
      pendStart := none, ended := [] })).clearDeques st).discardQueues st).resetBarriers st
    let s2 := forEach (s1.siteChans st) (fun ch u => u.modChan ch (fun c => { c with
      fifo := c.fifo.filter (fun b => ttLt b.tt (t + 32 * fsNs)) })) s1
    ((s2.burstCplAt st code t .aborted).raiseBurst code st).cause Ty.site st 1

/-- Entry to ABORTED at the present TT. -/
def State.abortSite (s : State) (st code : Nat) : State := s.abortSiteAt st code s.now

/-- Waiting coefficients of a site's channels take effect when it is IDLE (14 R295). -/
def State.siteBoundary (s : State) (st : Nat) : State :=
  forEach (s.siteChans st) (fun ch t => t.modChan ch (fun c => if c.frRun then c else c.boundary s.now)) s

/-- An ARMED site goes IDLE; a pending start is cancelled. -/
def State.disarm (s : State) (st : Nat) : State :=
  if (s.site st).st = .armed then
    (s.modSite st (fun x => { x with st := .idle, pendStart := none, frameArmed := false })).siteBoundary st
  else s

def allSites : List Nat := List.range nSite
/-- Abort every burst of the sites of `l` with a code, and disarm the armed ones. -/
def State.endBursts (s : State) (l : List Nat) (code : Nat) : State :=
  forEach l (fun st t => (t.abortSite st code).disarm st) s

/-! ### Burst commands -/

/-- An engine in service (01 R33): not retired, EN = 1, region not in thermal shutdown. -/
def State.inService (s : State) (e : Nat) : Bool :=
  !(s.hdr Ty.te e).retired && (s.hdr Ty.te e).en && !(s.rgn (rgnOfTe e)).shutdown
/-- In the stealing pool: in service and not reloading. -/
def State.inPool (s : State) (e : Nat) : Bool := s.inService e && !(s.te e).reload

/-- Lanes of the site are isolated by a cluster step (14 R287). -/
def State.siteIsolated (s : State) (st : Nat) : Bool :=
  (s.siteChans st).any (fun ch => bit (s.isoNow (cluOf ch)) (laneOf ch))

/-- No step covers a lane of the site; they stay due (14 R288, R301). -/
def State.endIsolation (s : State) (st : Nat) : State := forEach (s.siteChans st) (fun ch t => t.laneFree ch) s

/-- ARM (R38, R345, 08 R166, 14 R288). -/
def State.arm (s : State) (st : Nat) (frame : Bool) : State :=
  let x := s.site st
  if x.st ≠ .idle then s.rejectBurst st Code.burstState
  else if ¬ s.inMode [.run] then s.rejectBurst st Code.burstMode
  else if ¬ (bitList x.teMask nEng).any (fun e => s.inService e) then s.rejectBurst st Code.burstNoEngine
  else
    let iso := s.siteIsolated st
    let s2 := forEach (s.segQueues st) (fun q t => t.modQueue q (fun d => { d with slip := 0 })) (s.endIsolation st)
    s2.modSite st (fun x => { x with
      st := .armed, srcFrame := frame, frameArmed := false, abortCause := 0, pendStart := none
      restoreT := if iso then s.now + 5 * fsUs else x.restoreT })

def State.disarmCmd (s : State) (st : Nat) : State :=
  if (s.site st).st = .armed then s.disarm st else s.rejectBurst st Code.burstState

/-- Root ticks from `now` to the smallest root count at or after it whose low 24 bits are `t24` (R346). -/
def startAhead (now t24 : Nat) : Nat := (t24 % 2 ^ 24 + 2 ^ 24 - now % 2 ^ 24) % 2 ^ 24

/-- Fine steps left of a restoration of the site's lanes (14 R288). -/
def State.restoreWait (s : State) (st : Nat) : Nat :=
  let d := ttDiff (s.site st).restoreT s.now
  if 0 < d ∧ d ≤ 5 * fsUs then d.toNat else 0
/-- Fine steps a start must lie ahead of its arrival: the lead time, from the end of a lane restoration still running
(R38, 14 R288). -/
def State.startWait (s : State) (st : Nat) : Nat := s.restoreWait st + (s.site st).lead * fsNs

/-- A start `ahead` root ticks after the present TT: late, or pending (R346, R78). -/
def State.acceptStart (s : State) (st ahead : Nat) : State :=
  if ahead * 256 < s.startWait st then s.rejectBurst st Code.burstLateStart
  else s.modSite st (fun x => { x with pendStart := some ((s.root + ahead) * 256 % 2 ^ 64) })

/-- START (R345, R346; 02 R52 for a mode request that ends RUN). During a restoration it is judged as though it arrived
at the restoration's end (14 R288). -/
def State.start (s : State) (st t24 : Nat) : State :=
  let x := s.site st
  if s.glb.busy ∧ s.glb.mode = .run ∧ s.glb.target ≠ .run then s.rejectBurst st Code.burstMode
  else match x.st with
    | .idle => s.rejectBurst st Code.burstNotArmed
    | .running => s.rejectBurst st Code.burstBusy
    | .armed =>
      let w := (s.restoreWait st + 255) / 256
      let ahead := startAhead (s.root + w) t24
      if x.srcFrame then s.rejectBurst st Code.burstSource
      else if 2 ^ 23 ≤ ahead then s.rejectBurst st Code.burstLateStart
      else s.acceptStart st (w + ahead)
    | _ => s.rejectBurst st Code.burstState

/-- A cut at T fine steps (08 R173): a second one before the DRAINING entry replaces it. -/
def State.setCut (s : State) (st T : Nat) : State := s.modSite st (fun x => { x with cut := some T })

def State.stop (s : State) (st : Nat) : State :=
  if (s.site st).st = .running then s.setCut st ((s.now + (s.site st).lead * fsNs) % 2 ^ 64)
  else s.rejectBurst st Code.burstState

/-- The flush of the site's FCU partitions closes their open sealed frames (11 R244, 17 R372). -/
def State.fcuFrames (s : State) (st : Nat) : State :=
  if s.isSealed st then forEach (List.range nRgn) (fun r t => (t.closeFrame st 0 r (t.frameQueue st 0 r)).1) s else s

/-- Entry to IDLE from DRAINING or ABORTED: completion, notice, cause (R348). -/
def State.enterIdle (s : State) (st : Nat) : State :=
  let s1 := ((s.fcuFrames st).recsPast st).modSite st (fun x => { x with
    st := .idle, cut := none, abortT := none, abortDone := false, ended := [] })
  (((s1.siteBoundary st).burstCpl st 0 .idle).burstNotice st .idle).cause Ty.site st 1

/-- Nothing of the site is left in an engine or a FIFO. -/
def State.flushed (s : State) (st : Nat) : Bool :=
  (s.siteRuns st).isEmpty && (s.siteChans st).all (fun ch => (s.chan ch).fifo.isEmpty && (s.chan ch).flying.isEmpty)

/-- ACK: with the engines stopped and the FIFOs flushed, else BURST_BUSY (R38). -/
def State.ack (s : State) (st : Nat) : State :=
  if (s.site st).st ≠ .aborted then s.rejectBurst st Code.burstState
  else if (s.site st).abortDone ∧ s.flushed st then s.enterIdle st
  else s.rejectBurst st Code.burstBusy

/-! ### Entries by time -/

/-- The UI that starts last, with its symbol. -/
def lastTail : List (Nat × Nat × Nat) → Option (Nat × Nat)
  | [] => none
  | (_, t, y) :: l => match lastTail l with
    | some (u, z) => if ttLe t u then some (u, z) else some (t, y)
    | none => some (t, y)
/-- The previous effective symbol of a UI that starts at `t`: that of the latest UI of the burst that starts before it,
else the one the channel carried into the burst (06 R121). -/
def Chan.symBefore (c : Chan) (t : Nat) : Nat := (lastTail (c.tails.filter (fun x => ttLt x.2.1 t))).elim c.prev (·.2)
/-- The effective symbol the channel carries out of the burst. -/
def Chan.lastSym (c : Chan) : Nat := (lastTail c.tails).elim c.prev (·.2)

/-- The compare state of a channel at RUNNING entry: hold-vector counts restart, the FIFO's posting record and spans
clear, masks of an earlier Hi-Z end (R155, R156, R246). -/
def Chan.enterRun (c : Chan) : Chan :=
  { c with posted := [], inTime := [], spans := [], hist := [], pfLogged := false, mValid := false, reps := 0, hard := false
           prev := c.lastSym, tails := [], noDrive := false }

/-- BURST_RUN_ENTRY: at T_s − L (R347, R348, R171, 11 R237). -/
def State.runEntry (s : State) (st : Nat) : State :=
  let x := s.site st
  match x.pendStart with
  | none => s
  | some ts =>
    if x.st ≠ .armed ∨ ttLt (s.now + x.lead * fsNs) ts then s
    else
      let s1 := (s.modSite st (fun x => { x with
        st := .running, pendStart := none, startT := ts, burstCount := (x.burstCount + 1) % 2 ^ 32, frameArmed := false
        cut := none, firstCount := 0, firstDone := false, ended := [], acqFlushed := false })).resetBarriers st
      let s2 := forEach (s1.siteChans st) (fun ch t => t.modChan ch Chan.enterRun) s1
      ((s2.burstCpl st 0 .running).burstNotice st .running).cause Ty.site st 1

def execBurstRunEntry (st : Nat) (s : State) : Host.Outcome State Fault Refusal :=
  onUnit (decide (st < nSite)) (s.runEntry st)

def State.enterDrain (s : State) (st : Nat) : State :=
  s.modSite st (fun x => { x with st := .draining, drainT := s.now, acqFlushed := false })

/-- A segment of the site executes, waits on a deque or in a re-queue slot, or waits in a released segment queue. -/
def State.workLeft (s : State) (st : Nat) : Bool :=
  !(s.siteRuns st).isEmpty || s.returned.any (fun g => g.site == st)
    || allTes.any (fun e => (s.te e).deque.any (fun g => g.site == st) || (s.te e).slot.any (fun g => g.2.site == st))
    || (s.segQueues st).any (fun q => (s.queue q).released && (s.queue q).head != (s.queue q).tail)

/-- BURST_DRAIN_ENTRY (R174). -/
def execBurstDrainEntry (st : Nat) (s : State) : Host.Outcome State Fault Refusal :=
  onUnit (decide (st < nSite)) (
    if (s.site st).st = .running ∧ (s.site st).cut = none ∧ ¬ s.workLeft st then s.enterDrain st else s)

/-- STOP_DRAIN_ENTRY: at T − L of a pending cut: blocks at or after T drop, descriptors not executing are discarded
(R173). -/
def State.stopDrain (s : State) (st : Nat) : State :=
  let x := s.site st
  match x.cut with
  | none => s
  | some T =>
    if x.st ≠ .running ∨ ttLt (s.now + x.lead * fsNs) T then s
    else
      let s1 := ((s.enterDrain st).clearDeques st).discardQueues st
      forEach (s1.siteChans st) (fun ch t => t.modChan ch (fun c => { c with
        fifo := c.fifo.filter (fun b => ttLt b.tt T) })) s1

def execStopDrainEntry (st : Nat) (s : State) : Host.Outcome State Fault Refusal :=
  onUnit (decide (st < nSite)) (s.stopDrain st)

/-- UIs of the block in play still to begin have compare events. -/
def Play.compares (p : Play) : Bool := !p.inert && (p.blk.syms.drop p.k).any (fun y => isCompare y || y == symCAPT)

/-- The site's FCU partitions are flushed: no record of the burst is open or still to be opened (11 R244). -/
def State.fcuFlushed (s : State) (st : Nat) : Bool :=
  ((List.range nRgn).all (fun r => (s.fcu r).recs.all (fun c => c.site != st)))
    && (s.siteChans st).all (fun ch => (s.chan ch).play.all (fun p => !p.compares) && (s.chan ch).cmpEvs.isEmpty && (s.chan ch).results.isEmpty)

/-- The site owns an ACQ unit. -/
def State.siteAcqs (s : State) (st : Nat) : List Nat := (List.range nClu).filter (fun k => (s.hdr Ty.acq k).owner == st)

/-- A segment that ended under 06 R105 has a next block still to be judged before the cut: it is pending (R158). -/
def State.endedLeft (s : State) (st : Nat) : Bool :=
  (s.site st).ended.any (fun d => (bitList d.mask nChan).any (fun ch =>
    !(s.chOwner ch == st && (s.chan ch).present d.segId d.next)
      && (s.site st).cut.all (fun T => ttLt (d.eff + (s.chan ch).span (64 * d.next)) T)))

/-- A segment of the site executes, is handed back, or waits on a deque or in a re-queue slot. -/
def State.segsLeft (s : State) (st : Nat) : Bool :=
  !(s.siteRuns st).isEmpty || s.returned.any (fun g => g.site == st)
    || allTes.any (fun e => (s.te e).deque.any (fun g => g.site == st) || (s.te e).slot.any (fun g => g.2.site == st))

/-- BURST_IDLE_ENTRY: DRAINING to IDLE (R38). A descriptor enqueued meanwhile waits for the next burst (R174). -/
def execBurstIdleEntry (st : Nat) (s : State) : Host.Outcome State Fault Refusal :=
  onUnit (decide (st < nSite)) (
    if (s.site st).st = .draining ∧ s.flushed st ∧ ¬ s.segsLeft st ∧ s.fcuFlushed st ∧ ¬ s.endedLeft st
        ∧ ((s.site st).acqFlushed ∨ s.siteAcqs st = []) then s.enterIdle st
    else s)

end Sys2Proof.Machine
end

