-- ==== Sys2Proof/Machine/Seal.lean ====
section
/-! DEFINITION. The closing of fail records and their move to their stream queue (11_compare_and_fail_capture.md R228 to R240). -/

namespace Sys2Proof.Machine

/-- While a site drains or is aborted and its FCU partitions are flushed, their open sealed frames close (11 R244, 17 R372). -/
def State.flushFrames (s : State) (st : Nat) : State :=
  if ((s.site st).st = .draining ∨ (s.site st).st = .aborted) ∧ s.fcuFlushed st then s.fcuFrames st else s

/-- FCU_RECORD_CLOSE (11 R228 to R233, R244). -/
def execFcuRecordClose (r segId seq : Nat) (s : State) : Host.Outcome State Fault Refusal :=
  onUnit (decide (r < nRgn)) (((s.fcu r).recs.filter (fun c => c.segId == segId && c.seq == seq)).foldl
    (fun t c => t.flushFrames c.site) (s.closeRecord r segId seq))

/-- FCU_RECORD_MOVE (11 R235, R240); a record above the frame limit of a queue named since is lost (17 R372). -/
def execFcuRecordMove (r st : Nat) (s : State) : Host.Outcome State Fault Refusal :=
  onUnit (decide (r < nRgn ∧ st < nSite)) (s.moveRecord r st (fun t q rec =>
    if t.overFrame st r rec.length then (t.loseUpdate r st, true) else t.deliver st 0 r q rec))

/-- The queue a result register names belongs to the owner and is an enabled stream queue. -/
def State.streamQueueOk (s : State) (o q : Nat) : Bool := s.qOwner q == o && (s.queue q).type == 2

end Sys2Proof.Machine
end

