-- ==== Sys2Proof/Machine/Madc.lean ====
section
/-! DEFINITION. Family: measurement ADCs (12_measurement_adc.md). The feed of a result into the cluster's ACQ unit is in
Acq.lean. -/

namespace Sys2Proof.Machine

/-- MADC_STATUS.STATE (R253): 0 ACTIVE, 1 HELD, 2 STOPPED, 3 RETIRED. A hold that comes mid-scan lets the scan
complete first (R260). -/
def State.madcState (s : State) (k : Nat) : Nat :=
  if (s.hdr Ty.madc k).retired then 3
  else if s.stage ≠ .on ∨ s.glb.mode = .safe ∨ (s.glb.busy ∧ s.glb.target = .safe) ∨ ¬ (s.hdr Ty.madc k).en then 2
  else if (s.glb.mode = .cal ∨ s.glb.mode = .service ∨ (s.clu k).step) ∧ (s.madc k).scan.isNone then 1
  else 0

/-- Lanes an MADC, ACQ or HIST unit of owner `o` may use: not another site's (01 R29). -/
def State.laneMine (s : State) (o k lane : Nat) : Bool := o == 16 || s.chOwner (8 * k + lane) == o
/-- Scan-mask bits that R29 excludes. -/
def State.maskMine (s : State) (k m : Nat) : Nat :=
  maskOf ((bitList m 32).filter (fun n => decide (24 ≤ n) || s.laneMine (s.hdr Ty.madc k).owner k (n % 8)))

/-- The first ACLK rising edge at or after TT `t`, in fine steps: the dividers count root edges from the first lock (03
R65). -/
def State.aclkAt (s : State) (t : Nat) : Nat :=
  let r : Int := (ttDiff t s.now + 255) / 256
  let n : Int := (s.uptime : Int) - (s.clk.lockAt : Int) + r
  ttMove s.now ((r + (-n) % 400) * 256)

/-- Lost trigger: counted, cause TRIG_LOST (R252). -/
def State.madcLose (s : State) (k : Nat) : State :=
  (s.modMadc k (fun m => { m with lost := satAdd 0xFFFFFF m.lost 1 })).cause Ty.madc k 4

/-- A trigger that finds the mask empty. -/
def Madc.noScan (m : Madc) : Madc := { m with empty := satAdd sat8 m.empty 1 }

/-- Start a scan of the mask at the first ACLK edge at or after `t`; an empty mask starts none (R250). -/
def State.madcStart (s : State) (k t : Nat) : State :=
  let e := s.aclkAt t
  s.modMadc k (fun m => if m.mask = 0 then m.noScan else { m with
    scan := some { start := e, mask := m.mask, mon := m.mon, spare := m.spare, left := bitList m.mask 32, cstart := e
                   seq := m.scans % 65536 }
    scans := m.scans + 1 })

/-- The scan's last conversion has ended at TT `t`. -/
def Scan.endsBy (c : Scan) (t : Nat) : Bool := decide (c.left.length ≤ 1) && ttLe (c.cstart + fsUs) t

/-- A scan trigger that arrives at TT `t`; `cont` is the continuous source, which never waits and is never lost. One that
comes at the completion at which a pending trigger starts its scan becomes pending in its turn (R250 to R253, R260). -/
def State.madcTriggerAt (s : State) (k : Nat) (cont : Bool) (t : Nat) : State :=
  let m := s.madc k
  match s.madcState k with
  | 0 =>
    match m.scan with
    | none => s.madcStart k t
    | some c =>
      if cont then s
      else if ¬ m.pending then s.modMadc k (fun m => { m with pending := true })
      else if c.endsBy t ∧ ¬ m.again then s.modMadc k (fun m => { m with again := true })
      else s.madcLose k
  | 1 => if cont then s else s.madcLose k
  | _ => s

/-- A scan trigger at the present TT. -/
def State.madcTrigger (s : State) (k : Nat) (cont : Bool := false) : State := s.madcTriggerAt k cont s.now

/-- The MADC has left ACTIVE: the sample pairs of the cluster's ACQ unit restart (13 R267, R278). -/
def State.acqRestartPairs (s : State) (k : Nat) : State := s.modAcq k (fun a => { a with prev := none })

/-- Entry to STOPPED: the scan is abandoned, RUN and the pending trigger clear (R253). -/
def State.madcStop (s : State) (k : Nat) : State :=
  (s.modMadc k (fun m => { m with run := false, scan := none, pending := false, again := false })).acqRestartPairs k
/-- A hold begins: HELD is entered, which clears the pending latch, once no scan runs (R252, R253, R260). -/
def State.madcHold (s : State) (k : Nat) : State :=
  let s1 := s.modMadc k (fun m => { m with pending := m.pending && m.scan.isSome, again := m.again && m.scan.isSome })
  if (s.madc k).scan.isSome then s1 else s1.acqRestartPairs k

/-- A write to mask, MON_SEL or SPARE_LANE at TT `now` still counts for a scan whose start edge lies ahead of it or in
its CCLK cycle (R250, R260). With the mask empty that trigger starts no scan, nor does a pending one then. -/
def Madc.relatch (m : Madc) (now : Nat) : Madc :=
  match m.scan with
  | some c =>
    if c.cstart = c.start ∧ ttLt now (c.start + 4096) then
      if m.mask = 0 then
        let m1 := ({ m with scan := none, scans := m.scans - 1, pending := false, again := false } : Madc).noScan
        if m.pending then m1.noScan else m1
      else { m with scan := some { c with mask := m.mask, mon := m.mon, spare := m.spare, left := bitList m.mask 32 } }
    else m
  | none => m

/-- A write of MADC_CTRL (R249, R251, R252, R261). -/
def State.wMadcCtrl (s : State) (fn k val : Nat) : State :=
  let m := s.madc k
  let lane := bits val 2 3
  s.checked fn Ty.madc k
    [(decide (9 < bits val 6 4), Code.paramRange), (!s.laneMine (s.hdr Ty.madc k).owner k lane, Code.ownerConflict)]
    (fun t =>
      let run := bit val 1 && decide (t.madcState k < 2)
      let t1 := t.modMadc k (fun m => ({ m with
        run := run, spare := lane, mon := bits val 6 4, pending := m.pending && (run || !m.run), again := m.again && (run || !m.run) } : Madc).relatch t.now)
      let t2 := when (run && !m.run && m.src == 1) (fun u => u.madcTrigger k true) t1
      when (bit val 0) (fun u => u.madcTrigger k) t2)

/-- A write of MADC_SCAN_MASK. -/
def State.wMadcMask (s : State) (k val : Nat) : State :=
  s.modMadc k (fun m => ({ m with mask := s.maskMine k val } : Madc).relatch s.now)

/-- A write of MADC_TRIG_SRC (R252, R261). -/
def State.wMadcSrc (s : State) (fn k val : Nat) : State :=
  s.checked fn Ty.madc k
    [((s.madc k).run, Code.blkBusy), (decide (4 < bits val 0 3 ∨ bits val 16 16 = 0), Code.paramRange)]
    (fun t => t.modMadc k (fun m => { m with src := bits val 0 3, period := bits val 16 16, pending := false, again := false }))

/-- A write of MADC_QUEUE (05 R425). -/
def State.wMadcQueue (s : State) (fn k val : Nat) : State :=
  s.checked fn Ty.madc k
    [(bit val 31 && !s.streamQueueOk (s.hdr Ty.madc k).owner (bits val 0 20), Code.ownerConflict)]
    (fun t => t.modMadc k (fun m => { m with queue := bits val 0 20, qValid := bit val 31 }))

def madcWord (run : Bool) (spare mon : Nat) : Nat := 2 * b2n run + 4 * spare + 64 * mon

/-- MADC_START: one trigger; the other fields of the register are written back as they stand. -/
def execMadcStart (fn k : Nat) (s : State) : Host.Outcome State Fault Refusal :=
  onUnit (decide (fn < 18)) (s.onWrite fn Ty.madc k 0x040 (fun t =>
    let m := t.madc k
    t.wMadcCtrl fn k (1 + madcWord m.run m.spare m.mon)))
/-- MADC_RUN_START: a write of MADC_CTRL with RUN = 1. -/
def execMadcRunStart (fn k spare mon : Nat) (s : State) : Host.Outcome State Fault Refusal :=
  onUnit (decide (fn < 18)) (s.onWrite fn Ty.madc k 0x040 (fun t => t.wMadcCtrl fn k (madcWord true (spare % 8) (mon % 16))))
/-- MADC_RUN_STOP: a write of MADC_CTRL with RUN = 0. -/
def execMadcRunStop (fn k spare mon : Nat) (s : State) : Host.Outcome State Fault Refusal :=
  onUnit (decide (fn < 18)) (s.onWrite fn Ty.madc k 0x040 (fun t => t.wMadcCtrl fn k (madcWord false (spare % 8) (mon % 16))))

/-- MADC_PERIODIC_TRIGGER: at a root count j × 16,000 × PERIOD + ACLK_PHASE (R251). -/
def execMadcPeriodicTrigger (k : Nat) (s : State) : Host.Outcome State Fault Refusal :=
  onUnit (decide (k < nClu)) (
    let m := s.madc k
    if m.run ∧ m.src = 2 ∧ s.root % (16000 * m.period) = s.clk.phase then s.madcTrigger k else s)

/-! ### Conversions (R248, R254 to R257) -/

/-- What the conversion of the next input of a scan finds now. -/
def State.madcProbe (s : State) (k : Nat) (c : Scan) : Probe :=
  let n := c.left.headD 0
  let ch := 8 * k + n % 8
  let x := s.chan ch
  let sp := s.chan (8 * k + c.spare)
  let ranging := fun (y : Chan) => decide (s.up < y.rangingTo ∧ y.rangingTo ≤ s.up + 22 * fsUs)
  let o := (s.hdr Ty.madc k).owner
  { range := x.pmuRange, mode := x.pmuMode, pmu := x.cal.pmu
    ranging := (decide (n < 24) && ranging x) || (n == 24 && ranging sp)
    ow := (decide (n < 8) && !x.pmuSense && x.owEn) || (n == 24 && sp.owEn)
    na := (decide (n < 24) && ((s.hdr Ty.pe ch).retired || !s.laneMine o k (n % 8))) || (n == 24 && !s.laneMine o k c.spare) }

/-- The hold instant of the conversion in progress: 20 ACLK periods after its start (R250). -/
def Scan.hold (c : Scan) : Nat := c.cstart + 500 * fsNs

/-- Each conversion whose hold instant is now takes what it finds. -/
def State.madcSample (s : State) : State :=
  forEach (List.range nClu) (fun k t => match (t.madc k).scan with
    | some c => if c.left ≠ [] ∧ c.hold % 2 ^ 64 = t.now then
        t.modMadc k (fun m => { m with scan := some { c with held := some (t.madcProbe k c) } }) else t
    | none => t) s

/-- What the conversion in progress found at its hold instant. -/
def State.madcFound (s : State) (k : Nat) (c : Scan) : Probe := c.held.getD (s.madcProbe k c)
/-- The calibrated value of a raw conversion (14 R281): MADC coefficients of the input's scale, then the lane's PMU
measure coefficients on current scales. -/
def State.madcCorrect (s : State) (k n mon : Nat) (p : Probe) (raw : Int) : Int :=
  let m := s.madc k
  let fimv := decide (p.mode = 2)
  let scale : Option Nat :=
    if n < 8 ∨ n = 24 ∨ n = 29 ∨ n = 30 ∨ n = 31 then some 0
    else if 26 ≤ n ∧ n ≤ 28 then some 1
    else if n = 25 then some 2
    else if 16 ≤ n ∧ n < 24 ∧ (mon < 7 ∨ (mon = 9 ∧ ¬ fimv)) then some 0
    else none
  let v1 := match scale with
    | some i => raw + roundDiv (Tbl.get 0 m.cal (2 * i) * raw) 1048576 + Tbl.get 0 m.cal (2 * i + 1)
    | none => raw
  if 8 ≤ n ∧ n < 16 then
    v1 + roundDiv (Tbl.get 0 p.pmu (4 * p.range + 2) * v1) 1048576 + Tbl.get 0 p.pmu (4 * p.range + 3)
  else v1

/-- The result word of a conversion of input `n` (R254); the Bool is OVR. -/
def State.madcWord (s : State) (k : Nat) (c : Scan) (n : Nat) (raw : Int) : Nat × Bool :=
  let m := s.madc k
  let p := s.madcFound k c
  let v := s.madcCorrect k n c.mon p raw
  let ovr := !p.na && decide (v < -524288 ∨ 524287 < v)
  let value := if p.na then 0 else tc 20 (clampI (-524288) 524287 v)
  let settle := m.overEnd.any (fun e => decide (e ≤ c.cstart ∧ c.cstart < e + 2 * fsUs))
  let cur := decide (8 ≤ n ∧ n < 16) || (decide (16 ≤ n ∧ n < 24) && c.mon == 9 && p.mode == 2)
  (value + b2n ovr * 2 ^ 20 + b2n p.ranging * 2 ^ 21 + b2n settle * 2 ^ 22 + b2n p.ow * 2 ^ 23
    + (if cur then p.range else 0) * 2 ^ 24 + b2n p.na * 2 ^ 27, ovr)

/-- The scan goes on with its next input, or completes: cause SCAN_DONE, then the pending or continuous trigger starts
the next scan (R250 to R252); a hold that waited for the completion is entered (R260). -/
def State.madcNext (s : State) (k : Nat) (c : Scan) (at_ : Nat) : State :=
  match c.left with
  | [] => s
  | _ :: [] =>
    let s1 := (s.modMadc k (fun m => { m with scan := none })).cause Ty.madc k 1
    let m := s1.madc k
    let s2 := s1.modMadc k (fun x => { x with pending := m.again && (s1.madcState k == 0), again := false })
    if s1.madcState k ≠ 0 then s2.acqRestartPairs k
    else if m.pending then s2.madcStart k at_
    else when (m.run && m.src == 1) (fun t => t.madcTrigger k true) s1
  | _ :: rest => s.modMadc k (fun m => { m with scan := some { c with left := rest, cstart := at_, held := none } })

/-- A conversion faults: MADC_FAULT is a transient of the MADC, charged in Faults.lean; it writes no result and the scan
continues (18 R388), unless that transient has retired the MADC and so ended it. -/
def State.madcFaultNext (s : State) (k : Nat) (c : Scan) (at_ : Nat) : State :=
  if (s.madc k).scan.isNone then s else s.madcNext k c at_

/-- `n` records that cannot be stored join the pending gap (R256). -/
def State.madcGap (s : State) (k tt seq n : Nat) : State :=
  (s.modMadc k (fun m => { m with gap := some (match m.gap with
    | none => { tt := tt, n := satAdd sat32 0 n, seq := seq }
    | some g => { g with n := satAdd sat32 g.n n }) })).cause Ty.madc k 8

/-- A conversion's result: register, record (of a sealed site with no container loaded: lost, 17 R361), over-range interval; the value goes to HIST units that select it. -/
def State.madcResult (s : State) (k : Nat) (c : Scan) (n : Nat) (raw : Int) : State :=
  let w := s.madcWord k c n raw
  let s1 := s.modMadc k (fun m => { m with
    results := Tbl.set 0 m.results n (w.1 + 2 ^ 28)
    overEnd := if w.2 then some (c.cstart + fsUs) else m.overEnd
    recs := if m.qValid ∧ ¬ s.sealedEmpty (s.hdr Ty.madc k).owner then m.recs ++ [(c.hold % 2 ^ 64, w.1, n, c.seq)] else m.recs })
  let s1 := when ((s.madc k).qValid && s.sealedEmpty (s.hdr Ty.madc k).owner) (fun t => t.madcGap k (c.hold % 2 ^ 64) c.seq 1) s1
  let s2 := when w.2 (fun t => t.cause Ty.madc k 2) s1
  let h := s2.hist k
  if h.run ∧ h.kind = 3 ∧ h.input = n ∧ (s2.hdr Ty.hist k).owner = (s2.hdr Ty.madc k).owner ∧ ¬ bit w.1 27 then
    s2.modHist k (fun h => { h with feed := h.feed ++ [sx 20 w.1] })
  else s2

/-- The 16 bytes of an MADC record (R256). -/
def madcRec (tt word input kind seq : Nat) : List Byte :=
  le 8 tt ++ le 4 word ++ le 1 (input % 32 + 32 * kind) ++ le 1 0 ++ le 2 seq

/-- MADC_RECORD_MOVE: the oldest record, behind a pending gap, to the stream queue, or into the gap when it does not
fit or HBM holds its class back (R256). -/
def State.madcMove (s : State) (k : Nat) : State :=
  let m := s.madc k
  let o := (s.hdr Ty.madc k).owner
  match m.recs with
  | [] => s
  | (tt, w, n, seq) :: rest =>
    let s1 := s.modMadc k (fun m => { m with recs := rest })
    let r := if s.bpHeld m.queue then (s1, false) else match m.gap with
        | none => s1.deliver o 2 k m.queue (madcRec tt w n 0 seq)
        | some g =>
          if 2 ≤ (s1.queue m.queue).room ∨ s.isSealed o then
            let a := s1.deliver o 2 k m.queue (madcRec g.tt g.n 0 1 g.seq)
            if a.2 then (a.1.modMadc k (fun m => { m with gap := none })).deliver o 2 k m.queue (madcRec tt w n 0 seq)
            else a
          else (s1, false)
      if r.2 then r.1 else r.1.madcGap k tt seq 1

def execMadcRecordMove (k : Nat) (s : State) : Host.Outcome State Fault Refusal :=
  onUnit (decide (k < nClu)) (s.madcMove k)

end Sys2Proof.Machine
end

