-- ==== Sys2Proof/Machine/Acq.lean ====
section
/-! DEFINITION. Family: triggers and acquisition (13_triggers_and_acquisition.md), the result feed of an MADC into it,
and MADC conversions (12 R250). -/

namespace Sys2Proof.Machine

/-! ### Events to TRIG_OUT lines (04 R83) -/

/-- An event of TT `tt` reaches a TRIG_OUT line: its pulse begins at TT + OFFSET, or now when that has passed (04 R83);
a line with EN = 0 is held low. -/
def State.trigOutEvent (s : State) (line tt : Nat) : State :=
  let o := s.trigOut line
  let start := (tt + o.offset) % 2 ^ 64
  let late := ttLt start s.now
  if o.en then s.modTrigOut line (fun o => { o with events := o.events ++ [(if late then s.now else start, late)] }) else s

/-! ### Writing records (R264, R273, R274, R276) -/

def AcqRec.bytes (r : AcqRec) : List Byte := le 8 r.tt ++ le 4 r.data ++ le 1 r.info ++ le 1 r.kind ++ le 2 r.armSeq

/-- The unit captures a window: its buffer holds the capture, not a ring. -/
def Acq.windowed (a : Acq) : Bool := a.single && !(a.spill && decide (4 ≤ a.state))

/-- A record or stamp lost: it joins the pending gap and counts (R263, R276). -/
def Acq.lose (a : Acq) (tt : Nat) : Acq :=
  { a with
    gapCount := satAdd sat32 a.gapCount 1
    gap := some (match a.gap with | none => { tt := tt, n := 1 } | some g => { g with n := satAdd sat32 g.n 1 }) }

/-- Append a record; while a capture waits for its trigger only the latest P stay. -/
def Acq.append (a : Acq) (r : AcqRec) : Acq :=
  let b := a.buf ++ [r]
  { a with buf := if a.single ∧ (a.state = 2 ∨ a.state = 3) then b.drop (b.length - a.pre) else b }

/-- One post-trigger record written; the Q-th takes the unit to DRAIN (R274). -/
def Acq.countPost (a : Acq) : Acq :=
  if a.state = 4 then { a with postLeft := a.postLeft - 1, state := if a.postLeft ≤ 1 then 5 else 4 } else a

/-- Write the pending gap if there is one and it has a slot (R276); the Bool says whether one was written. -/
def Acq.writeGap (a : Acq) : Acq × Bool :=
  match a.gap with
  | none => (a, false)
  | some g => (({ a with gap := none }.append
      { tt := g.tt, data := g.n, info := 0, kind := 3, armSeq := a.armSeq }).countPost, true)

/-- The unit is taking records of this TT (R272, R273). -/
def Acq.takes (a : Acq) (tt : Nat) : Bool :=
  if a.single then decide (2 ≤ a.state ∧ a.state ≤ 4) && (ttLe a.armT tt || a.state == 4)
  else decide (1 ≤ a.state) && ttLe a.runT tt && !(a.stopT.any (fun t => ttLe t tt))

/-- A TT on the unit's own scale, which runs on from the arm instant without wrapping (03 R69). -/
def Acq.lift (a : Acq) (tt : Nat) : Int := (a.armT : Int) + ttDiff tt a.armT

/-- A record arrives: written when the unit is taking records and a slot is free, else lost into the gap. One made while a
sealed site has no container loaded is discarded and counted as lost (17 R361). -/
def State.acqWrite (s : State) (k : Nat) (r : AcqRec) : State :=
  let a := s.acq k
  if ¬ a.takes r.tt then s
  else if s.sealedEmpty (s.hdr Ty.acq k).owner then s.modAcq k (fun a => { a with gapCount := satAdd sat32 a.gapCount 1 })
  else if ¬ a.windowed ∧ 32766 ≤ a.buf.length then s.modAcq k (fun a => a.lose r.tt)
  else
    let g := a.writeGap
    let b := if g.1.state = 5 then g.1 else (g.1.append { r with armSeq := a.armSeq }).countPost
    when g.2 (fun t => t.cause Ty.acq k 4) (s.modAcq k (fun _ => b))

/-! ### Rate limits and arrival (R263, R264) -/

/-- Records on their way, in order of arrival: CCLK cycle, EDGE before SAMPLE, then TT, lane, CH before CL, or input
(R264). -/
def flyBefore (x y : Nat × AcqRec) : Bool :=
  if x.1 / 4096 ≠ y.1 / 4096 then ttLt (x.1 / 4096 * 4096) (y.1 / 4096 * 4096)
  else if x.2.kind ≠ y.2.kind then decide (x.2.kind < y.2.kind)
  else if x.2.kind = 0 then
    if x.2.tt ≠ y.2.tt then ttLt x.2.tt y.2.tt
    else if x.2.info % 8 ≠ y.2.info % 8 then decide (x.2.info % 8 < y.2.info % 8)
    else decide (x.2.info % 16 < y.2.info % 16)
  else decide (x.2.info < y.2.info)

def flyInsert (x : Nat × AcqRec) : List (Nat × AcqRec) → List (Nat × AcqRec)
  | [] => [x]
  | y :: t => if flyBefore x y then x :: y :: t else y :: flyInsert x t

/-- A channel has delivered its 5 stamps of the 2 ns interval, the unit has accepted its 4 of the 1 ns interval (R263). -/
def Acq.chanFull (a : Acq) (lane tt : Nat) : Bool :=
  decide (5 ≤ (a.recent.filter (fun x => x.1 == lane && x.2 / (2 * fsNs) == tt / (2 * fsNs))).length)
def Acq.unitFull (a : Acq) (tt : Nat) : Bool := decide (4 ≤ (a.recentU.filter (fun x => x / fsNs == tt / fsNs)).length)

/-- A stamp passes the two rate limits and is written, or is lost at the first it exceeds (R263). -/
def State.acqEdge (s : State) (k : Nat) (r : AcqRec) : State :=
  let lane := r.info % 8
  let a := s.acq k
  if ¬ a.takes r.tt then s
  else if a.chanFull lane r.tt then s.modAcq k (fun a => a.lose r.tt)
  else
    let s1 := s.modAcq k (fun a => { a with recent := (lane, r.tt) :: a.recent.take 48 })
    if a.unitFull r.tt then s1.modAcq k (fun a => a.lose r.tt)
    else (s1.modAcq k (fun a => { a with recentU := r.tt :: a.recentU.take 8 })).acqWrite k r

/-! ### The detector (R267 to R269) -/

/-- The crossings of level X with a slope: 0 rise, 1 fall, 2 either. -/
def pick (l : List LvlCross) (hi : Bool) (slope : Nat) : List LvlCross :=
  l.filter (fun c => c.hi == hi && (slope == 2 || (slope == 0) == c.rising))

/-- A trigger the history holds: T, interpolated, and the instant at which it is known (none: once a sample or the
present lies past T, for the long cases). -/
abbrev Cand := Int × Bool × Option Int

/-- Each leading crossing of X with the next crossing of X: its return, or the leading crossing from which the pulse restarts
(R268). -/
def pulses (hi : Bool) (slope : Nat) : List LvlCross → List (LvlCross × Option LvlCross)
  | [] => []
  | c :: t =>
    if c.hi == hi && (slope == 2 || (slope == 0) == c.rising) then
      (c, t.find? (fun d => d.hi == hi)) :: pulses hi slope t
    else pulses hi slope t

/-- The trigger of one pulse under COND (R268). -/
def pulseCand (cond : Nat) (A B : Int) (p : LvlCross × Option LvlCross) : List Cand :=
  let short := fun (lo up : Int) => match p.2 with
    | some r => if r.rising != p.1.rising ∧ lo ≤ r.t - p.1.t ∧ r.t - p.1.t < up then [((r.t, r.interp, some r.avail) : Cand)] else []
    | none => []
  let long := fun (w : Int) => match p.2 with
    | some r => if w ≤ r.t - p.1.t then [((p.1.t + w, p.1.interp, none) : Cand)] else []
    | none => [((p.1.t + w, p.1.interp, none) : Cand)]
  match cond with
  | 0 => short (-1) A
  | 1 => long A
  | 2 => short A B
  | _ => short (-1) A ++ long B

/-- RUNT and SLEW judged at each later crossing `c`, `before` being the earlier ones, latest first (R268). The first
level is left by `first` (X_hi or X_lo, direction); `fresh` restarts it. -/
def lastCross (hi rising : Bool) (l : List LvlCross) : Option LvlCross := l.find? (fun d => d.hi == hi && d.rising == rising)

def runtAt (A : Int) (slope : Nat) (before : List LvlCross) (c : LvlCross) : List Cand :=
  let one := fun (hi : Bool) (rise : Bool) =>
    if c.hi == hi && c.rising != rise then
      match lastCross hi rise before with
      | some f =>
        let between := before.takeWhile (fun d => d != f)
        if between.any (fun d => d.hi != hi && d.rising == rise) then []
        else if A = 0 ∨ c.t - f.t < A then [((c.t, c.interp, some c.avail) : Cand)] else []
      | none => []
    else []
  (if slope ≠ 1 then one false true else []) ++ (if slope ≠ 0 then one true false else [])

def slewAt (out : Bool) (A B : Int) (slope : Nat) (before : List LvlCross) (c : LvlCross) : List Cand :=
  let one := fun (from_ : Bool) (rise : Bool) =>
    if c.hi != from_ && c.rising == rise then
      match lastCross from_ rise before with
      | some f =>
        let between := before.takeWhile (fun d => d != f)
        if between.any (fun d => (d.hi == from_ && d.rising != rise) || (d.hi != from_ && d.rising == rise)) then []
        else
          let w := c.t - f.t
          let inside := decide (A ≤ w ∧ w < B)
          if inside != out then [((c.t, c.interp, some c.avail) : Cand)] else []
      | none => []
    else []
  (if slope ≠ 1 then one false true else []) ++ (if slope ≠ 0 then one true false else [])

/-- Judge each crossing of the history against the earlier ones. -/
def overHistory (f : List LvlCross → LvlCross → List Cand) : List LvlCross → List LvlCross → List Cand
  | _, [] => []
  | before, c :: t => f before c ++ overHistory f (c :: before) t

/-- TIMEOUT from the reference instant `p`, interpolated or not: the first gap of A without a qualifying crossing (R265,
R268). -/
def timeoutAt (A : Int) : Int → Bool → List LvlCross → Int × Bool
  | p, i, [] => (p + A, i)
  | p, i, c :: t => if c.t < p then timeoutAt A p i t else if c.t < p + A then timeoutAt A c.t c.interp t else (p + A, i)

/-- The triggers of the configured type in the history, ascending T. -/
def Acq.cands (a : Acq) : List Cand :=
  let A : Int := a.limA
  let B : Int := a.limB
  match a.ty with
  | 0 => (pick a.cross a.level a.slope).map (fun c => (c.t, c.interp, some c.avail))
  | 1 => (pulses a.level a.slope a.cross).flatMap (pulseCand a.cond A B)
  | 2 => overHistory (runtAt A a.slope) [] a.cross
  | 3 => let p := timeoutAt A a.ref a.refInterp (pick a.cross a.level a.slope); [(p.1, p.2, none)]
  | 4 => overHistory (slewAt (a.cond == 1) A B a.slope) [] a.cross
  | 5 => (a.marks.filter (fun m => (m.2.1 ^^^ a.markId) &&& a.markMask == 0)).map
      (fun m => (a.lift m.1, false, some (a.lift (ttMax m.1 m.2.2))))
  | _ => a.stamps.map (fun t => (a.lift t, false, some (a.lift t + 40 * fsNs)))

/-- The declaration instant of a candidate, none while it cannot be known (R269): for the long cases of an MADC source the
end of conversion of the first sample held at or after T. -/
def Acq.declAt (a : Acq) (now : Nat) (c : Cand) : Option Int :=
  match c.2.2 with
  | some d => some d
  | none =>
    if a.fromMadc then (a.holds.find? (fun h => decide (c.1 ≤ a.lift h))).map (fun h => a.lift h + 500 * fsNs)
    else if ttReached now (c.1 + 64 * fsNs) then some (c.1 + 64 * fsNs) else none

/-- The trigger the detector declares next, with its instant D, when that is known. A TIMEOUT starts anew from each of
its triggers. -/
def Acq.nextDecl (a : Acq) (now : Nat) : Option (Cand × Int) :=
  if a.state < 2 then none
  else (a.cands[if a.ty = 3 then 0 else a.declared]?).bind (fun c => (a.declAt now c).map (fun d => (c, d)))

/-- The next record on its way is written. -/
def State.acqLand (s : State) (k : Nat) : State :=
  match (s.acq k).fly with
  | [] => s
  | (_, r) :: rest =>
    let s1 := s.modAcq k (fun a => { a with fly := rest })
    if r.kind = 0 then s1.acqEdge k r else s1.acqWrite k r

/-- ACQ_RECORD_ARRIVE: the next record on its way is written, with its CCLK cycle over and every MARK of that cycle in
front of it (R264). -/
def State.acqArrive (s : State) (k : Nat) : State :=
  match (s.acq k).fly with
  | [] => s
  | (due, _) :: _ =>
    if ¬ ttLe (due / 4096 * 4096 + 4096) s.now
        ∨ ((s.acq k).nextDecl s.now).any (fun p => decide (p.2 / 4096 ≤ (s.acq k).lift due / 4096)) then s
    else s.acqLand k

/-- The records of the CCLK cycles before that of `tt` are written (R264). -/
def State.acqCatchUp (s : State) (k tt : Nat) : State :=
  (s.acq k).fly.foldl (fun t x => when (ttLt x.1 (tt / 4096 * 4096)) (fun u => u.acqLand k) t) s

def execAcqRecordArrive (k : Nat) (s : State) : Host.Outcome State Fault Refusal :=
  onUnit (decide (k < nClu)) (s.acqArrive k)

/-- MARK record of an accepted trigger: pre-trigger count, PRE_SHORT, INTERP, SPILL (R265, R273, R274). -/
def Acq.markRec (a : Acq) (t : Int) (ty : Nat) (interp : Bool) (id : Nat) : AcqRec :=
  let preN := if a.single then a.buf.length else 0
  let spill := a.single && decide (32768 < a.pre + 1 + a.post)
  { tt := (t % (2 ^ 64 : Nat)).toNat, data := preN + id * 2 ^ 16
    info := ty + 8 * b2n (a.single && decide (preN < a.pre)) + 16 * b2n interp + 32 * b2n spill
    kind := 2, armSeq := a.armSeq }

/-- A mark goes into the buffer of a stream whose two reserved slots may hold the marks of earlier arms: with no slot left
it joins the pending gap, which the specification does not cover (R276; DESIGN CHOICE, log entry 55). -/
def Acq.putMark (a : Acq) (m : AcqRec) : Acq :=
  if ¬ a.single ∧ 32768 ≤ a.buf.length then a.lose m.tt else { a with buf := a.buf ++ [m] }

/-- An accepted trigger declared at D, behind the records that came before it: gap, mark, state, cause, and the event for
TRIG_OUT and MADC (R264, R269, R271). -/
def State.acqAccept (s0 : State) (k : Nat) (t : Int) (ty : Nat) (interp : Bool) (id D : Nat) : State :=
  let s := s0.acqCatchUp k D
  let g := if (s.acq k).single ∨ (s.acq k).buf.length < 32767 then (s.acq k).writeGap else (s.acq k, false)
  let a := g.1
  let m := a.markRec t ty interp id
  let b := if a.single then
      { a.putMark m with state := 4, postLeft := a.post, spill := decide (32768 < a.pre + 1 + a.post), cut := false }
    else { a.putMark m with state := 1 }
  let s1 := (s.modAcq k (fun _ => b)).cause Ty.acq k (1 + 4 * b2n g.2)
  let o := (s1.hdr Ty.acq k).owner
  let s2 := forEach (List.range 4) (fun n u =>
    let l := u.trigOut n
    when (l.src == 2 && l.sel == k && l.owner == o) (fun v => v.trigOutEvent n D) u) s1
  when ((s2.madc k).src == 4 && (s2.madc k).run && (s2.hdr Ty.madc k).owner == o) (fun u => u.madcTriggerAt k false D) s2

/-- The unit is ARMED at TT `D`, or ARMING with the live instant in that CCLK cycle or before it (R278). -/
def Acq.liveAt (a : Acq) (D : Nat) : Bool :=
  a.state == 3 || (a.state == 2 && ttLe ((a.armT + 128 * fsNs) / 4096 * 4096) D)

/-- A trigger declared at D: accepted while ARMED unless its T lies in [a, L), else ignored and counted (R271). -/
def State.acqTrigger (s : State) (k : Nat) (t : Int) (ty : Nat) (interp : Bool) (id D : Nat) : State :=
  let a := s.acq k
  if a.liveAt D ∧ (a.state = 3 ∧ (ty = 7 ∨ t < a.armT) ∨ (a.armT + 128 * fsNs : Int) ≤ t) then s.acqAccept k t ty interp id D
  else s.modAcq k (fun a => { a with ignored := satAdd sat32 a.ignored 1 })

/-- The next trigger of the history is declared if its D has come by the instant `by_` (R269, R271). -/
def State.acqDeclareBy (s : State) (k by_ : Nat) : State :=
  let a := s.acq k
  match a.nextDecl by_ with
  | none => s
  | some (c, d) =>
    if ¬ ttReached by_ d then s
    else
      let id := if a.ty = 5 then (a.marks.filter (fun m => (m.2.1 ^^^ a.markId) &&& a.markMask == 0))[a.declared]?.elim 0 (·.2.1)
        else if a.ty = 6 then a.line else 0
      (s.modAcq k (fun a => { a with
        declared := a.declared + 1, ref := if a.ty = 3 then c.1 else a.ref
        refInterp := if a.ty = 3 then c.2.1 else a.refInterp })).acqTrigger k c.1 a.ty c.2.1 id (d % (2 ^ 64 : Nat)).toNat

/-- ACQ_TRIGGER_DECLARE: the next trigger of the history whose D has come is declared. -/
def State.acqDeclare (s : State) (k : Nat) : State := s.acqDeclareBy k s.now

def execAcqTriggerDeclare (k : Nat) (s : State) : Host.Outcome State Fault Refusal :=
  onUnit (decide (k < nClu)) (s.acqDeclare k)

/-! ### Feeds -/

/-- A comparator stamp reaches the cluster's unit: the detector directly, EDGE records under CMP_TDC_CTRL (R262, R267). -/
def State.acqStamp (s : State) (ch : Nat) (cl rising : Bool) (raw : Nat) : State :=
  let k := cluOf ch
  let a := s.acq k
  let c := s.chan ch
  let lane := laneOf ch
  let tt := (((raw : Int) - c.calCompare) % (2 ^ 64 : Nat)).toNat
  if (s.hdr Ty.cmp ch).retired ∨ ¬ (s.hdr Ty.cmp ch).en ∨ ¬ s.laneMine (s.hdr Ty.acq k).owner k lane then s
  else
    let det := decide (2 ≤ a.state) && !a.fromMadc && a.lane == lane && ttLe a.armT tt && decide (a.ty < 5)
    let x : LvlCross := { t := a.lift tt, hi := !cl, rising := rising != cl, avail := a.lift tt + 64 * fsNs }
    let s1 := when det (fun t => t.modAcq k (fun a => { a with cross := a.cross ++ [x] })) s
    let on := (if cl then c.tdcCl else c.tdcCh) && (c.tdcEdge == 0 || (c.tdcEdge == 1) == rising)
    when (on && a.edgeEn && decide (1 ≤ a.state)) (fun t => t.modAcq k (fun a => { a with
      fly := flyInsert (tt + 64 * fsNs, { tt := tt, info := lane + 8 * b2n cl + 16 * b2n rising, kind := 0 }) a.fly })) s1

/-- The interpolated crossing of level `x` between two samples, none when the pair does not cross it (R267). -/
def pairCross (t0 t1 v0 v1 x : Int) (hi : Bool) : List LvlCross :=
  let step := (t1 - t0) / 256
  let rise := decide (v0 < x ∧ x ≤ v1)
  let fall := decide (x ≤ v0 ∧ v1 < x)
  if rise || fall then
    let j := if v1 - v0 < 0 then (256 * (v0 - x)) / (v0 - v1) else (256 * (x - v0)) / (v1 - v0)
    [{ t := t0 + j * step, hi := hi, rising := rise, avail := t1 + 500 * fsNs, interp := true }]
  else []

/-- An MADC result reaches the unit of the same owner: a SAMPLE record and the detector (R257, R262, R267). -/
def State.acqSample (s : State) (k n hold word : Nat) : State :=
  let a := s.acq k
  if (s.hdr Ty.acq k).owner ≠ (s.hdr Ty.madc k).owner ∨ a.state = 0 then s
  else
    let s1 := when a.sampleEn (fun t => t.modAcq k (fun a => { a with
      fly := flyInsert (hold + 500 * fsNs, { tt := hold, data := word, info := n, kind := 1 }) a.fly })) s
    if a.state < 2 ∨ ¬ a.fromMadc ∨ a.input ≠ n ∨ ttLt hold a.armT then s1
    else if bit word 27 then s1.modAcq k (fun a => { a with prev := none, holds := a.holds ++ [hold] })
    else
      let v := sx 20 word
      let xs := match a.prev with
        | none => []
        | some (t0, v0) =>
          let lo := pairCross (a.lift t0) (a.lift hold) v0 v a.thLo false
          let hi := pairCross (a.lift t0) (a.lift hold) v0 v a.thHi true
          -- both levels in one pair: in order of their times; at equal times the level met first in the direction
          match lo, hi with
          | [l], [h] => if l.t < h.t ∨ (l.t = h.t ∧ v0 < v) then [l, h] else [h, l]
          | _, _ => lo ++ hi
      s1.modAcq k (fun a => { a with cross := a.cross ++ xs, prev := some (hold, v), holds := a.holds ++ [hold] })

/-- MARK events in the order in which they are declared: T, or the arrival when that is later (R269). -/
def markInsert (m : Nat × Nat × Nat) : List (Nat × Nat × Nat) → List (Nat × Nat × Nat)
  | [] => [m]
  | x :: t => if ttLt (ttMax m.1 m.2.2) (ttMax x.1 x.2.2) then m :: x :: t else x :: markInsert m t
/-- MARK events still to be declared. -/
def Acq.dueMarks (a : Acq) (now : Nat) : List (Nat × Nat × Nat) := a.marks.filter (fun m => ttLe now (ttMax m.1 m.2.2))

/-- A pattern MARK event reaches every ACQ unit of the site, ahead of its TT or not (06 R117); a unit that is not armed
keeps those to come. -/
def State.acqMark (s : State) (st tt id : Nat) : State :=
  forEach (s.siteAcqs st) (fun k t => t.modAcq k (fun a => { a with
    marks := markInsert (tt, id, s.now) (if a.state < 2 then a.dueMarks s.now else a.marks) })) s

/-- A TRIG_IN stamp on the ACQ route reaches the units of the line's owner (04 R82). -/
def State.acqTrigIn (s : State) (o line tt : Nat) : State :=
  forEach (List.range nClu) (fun k t =>
    when ((t.hdr Ty.acq k).owner == o && (t.acq k).line == line && decide (2 ≤ (t.acq k).state) && ttLe (t.acq k).armT tt)
      (fun u => u.modAcq k (fun a => { a with stamps := a.stamps ++ [tt] })) t) s

/-- MADC_CONVERSION_DONE: the conversion in progress ends with a raw reading (12 R250). An AGND reading beyond
±10 mV faults instead and is charged by MADC_CONVERSION_TIMEOUT's rule (18 R388), in Faults.lean. -/
def State.madcDone (s : State) (k : Nat) (raw : Int) (fault : State → State) : State :=
  match (s.madc k).scan with
  | none => s
  | some c =>
    match c.left with
    | [] => s
    | n :: _ =>
      let e := c.cstart + fsUs
      if ¬ ttLe e s.now then s
      else if n = 31 ∧ (raw < -625 ∨ 625 < raw) then (fault s).madcFaultNext k c e
      else ((s.madcResult k c n raw).acqSample k n c.hold (s.madcWord k c n raw).1).madcNext k c e

/-! ### Arming and stopping (R270 to R277) -/

/-- The unit leaves its capture: IDLE, LAST_END, records discarded. -/
def Acq.abandon (a : Acq) (end_ : Nat) : Acq :=
  { a with state := 0, buf := [], gap := none, fly := [], lastEnd := end_, stopT := none, cross := [], prev := none, holds := [], stamps := [] }

/-- DISARM (R272, R275). -/
def State.acqDisarm (s : State) (k : Nat) : State :=
  let a := s.acq k
  if ¬ a.single then s.modAcq k (fun a => if 2 ≤ a.state then { a with state := 1 } else a)
  else match a.state with
    | 2 => s.modAcq k (fun a => a.abandon 2)
    | 3 => s.modAcq k (fun a => a.abandon 2)
    | 4 => s.modAcq k (fun a => { a with state := 5, cut := true })
    | _ => s

/-- RUN = 0 at the present TT: disarm, and the stream ends (R272). -/
def State.acqRunStop (s : State) (k : Nat) : State :=
  if (s.acq k).single ∨ ¬ (s.acq k).run then s.modAcq k (fun a => { a with run := false })
  else (s.acqDisarm k).modAcq k (fun a => { a with run := false, stopT := some s.now })

/-- SAFE entry, or EN = 0 (R277). -/
def State.acqSafe (s : State) (k : Nat) : State :=
  (s.modAcq k (fun a => { a.abandon 2 with run := false })).cause Ty.acq k 8

/-- The checks of R270 on an ARM. -/
def State.acqArmCheck (s : State) (k : Nat) : Nat :=
  let a := s.acq k
  let o := (s.hdr Ty.acq k).owner
  let ch := 8 * k + a.lane
  let c := s.chan ch
  let cmpSrc := decide (a.ty < 5) && !a.fromMadc
  let madcSrc := decide (a.ty < 5) && a.fromMadc
  firstFail [
    (!s.inMode [.ready, .run], Code.acqState),
    (!a.qValid, Code.acqNoQueue),
    (!a.single && (!a.run || a.state == 0), Code.acqState),
    (if a.single then a.state != 0 else a.state != 1, Code.blkBusy),
    ((a.ty == 1 || a.ty == 3 || a.ty == 4) && a.limA == 0, Code.paramRange),
    (((a.ty == 1 && decide (2 ≤ a.cond)) || a.ty == 4) && !(decide (a.limA < a.limB)), Code.paramRange),
    (a.single && a.post == 0, Code.paramRange),
    ((a.ty == 2 || a.ty == 4) && (if a.fromMadc then decide (a.thHi ≤ a.thLo) else decide (c.applied 3 ≤ c.applied 4)),
      Code.paramRange),
    (cmpSrc && (s.chOwner ch != o || (s.hdr Ty.pe ch).retired), Code.ownerConflict),
    (madcSrc && ((s.hdr Ty.madc k).owner != o || s.madcState k == 3
      || (decide (a.input < 24) && !s.laneMine o k (a.input % 8))
      || (a.input == 24 && !s.laneMine o k (s.madc k).spare)), Code.ownerConflict),
    (a.ty == 6 && ((s.trigIn a.line).owner != o || !(s.trigIn a.line).routeAcq), Code.ownerConflict)]

/-- An ARM (R270). -/
def State.acqArm (s : State) (fn k : Nat) : State :=
  let e := s.acqArmCheck k
  if e ≠ 0 then s.reject fn e Ty.acq k
  else s.modAcq k (fun a => { a with
    state := 2, armSeq := (a.armSeq + 1) % 65536, armT := s.now, cross := [], declared := 0, prev := none, holds := [], refInterp := false
    marks := a.dueMarks s.now, stamps := []
    ref := s.now + 128 * fsNs, buf := if a.single then [] else a.buf, gap := if a.single then none else a.gap })

/-- A FORCE (R268, R271). A trigger of the configured type declared in this CCLK cycle has the earlier T, or comes first on
an equal one (R278). -/
def State.acqForce (s : State) (fn k : Nat) : State :=
  let a := s.acq k
  if a.state < 2 then s.reject fn Code.acqState Ty.acq k
  else
    let s1 := s.acqDeclareBy k (s.now / 4096 * 4096 + 4095)
    if (s1.acq k).state < 2 then s1.modAcq k (fun a => { a with ignored := satAdd sat32 a.ignored 1 })
    else s1.acqTrigger k ((s1.acq k).lift s.now) 7 false 0 s.now

/-- A write of ACQ_ARM (R279). -/
def State.wAcqArm (s : State) (fn k val : Nat) : State :=
  if 1 < (bitList val 3).length then s.reject fn Code.paramRange Ty.acq k
  else if bit val 0 then s.acqArm fn k
  else if bit val 1 then s.acqDisarm k
  else if bit val 2 then s.acqForce fn k
  else s

def execAcqArm (fn k : Nat) (s : State) : Host.Outcome State Fault Refusal :=
  onUnit (decide (fn < 18)) (s.onWrite fn Ty.acq k 0x07C (fun t => t.wAcqArm fn k 1))
def execAcqDisarm (fn k : Nat) (s : State) : Host.Outcome State Fault Refusal :=
  onUnit (decide (fn < 18)) (s.onWrite fn Ty.acq k 0x07C (fun t => t.wAcqArm fn k 2))
def execAcqForce (fn k : Nat) (s : State) : Host.Outcome State Fault Refusal :=
  onUnit (decide (fn < 18)) (s.onWrite fn Ty.acq k 0x07C (fun t => t.wAcqArm fn k 4))

/-- ACQ_LIVE: at L = a + 128 ns the unit enters ARMED (R270). -/
def execAcqLive (k : Nat) (s : State) : Host.Outcome State Fault Refusal :=
  onUnit (decide (k < nClu)) (
    if (s.acq k).state = 2 ∧ ttLe ((s.acq k).armT + 128 * fsNs) s.now then s.modAcq k (fun a => { a with state := 3 }) else s)

/-- A write of ACQ_CTRL (R272, R273, R279). With EN = 0 a write of RUN = 1 is rejected with ACQ_STATE, while an ARM is
taken: R272 and R277 do not name EN (DESIGN CHOICE, log entry 55). -/
def State.wAcqCtrl (s : State) (fn k val : Nat) : State :=
  let a := s.acq k
  let single := bit val 0
  let run := bit val 1
  let changes := single != a.single || bit val 2 != a.edgeEn || bit val 3 != a.sampleEn
  if a.run && !run && !changes then s.acqRunStop k
  else s.checked fn Ty.acq k
    [(run && single, Code.acqState), ((changes || (run && !a.run)) && a.state != 0, Code.blkBusy),
     (run && !a.run && (!s.inMode [.ready, .run] || !(s.hdr Ty.acq k).en), Code.acqState),
     (run && !a.run && !a.qValid, Code.acqNoQueue)]
    (fun t => t.modAcq k (fun a => { a with
      single := single, edgeEn := bit val 2, sampleEn := bit val 3, run := run
      state := if run && !a.run then 1 else a.state
      runT := if run && !a.run then s.now else a.runT, stopT := if run && !a.run then none else a.stopT }))

/-- A configuration register of the unit: refused unless IDLE when the write changes it (R279). -/
def State.acqConfig (s : State) (fn k : Nat) (bad : Bool) (code : Nat) (f : Acq → Acq) : State :=
  let a := s.acq k
  s.checked fn Ty.acq k [(f a != a && a.state != 0, Code.blkBusy), (bad, code)] (fun t => t.modAcq k f)

def State.wAcqType (s : State) (fn k val : Nat) : State :=
  s.acqConfig fn k (bits val 0 3 == 7 || bits val 3 2 == 3 || (bits val 0 3 == 4 && decide (2 ≤ bits val 6 2))) Code.paramRange
    (fun a => { a with
      ty := bits val 0 3, slope := bits val 3 2, level := bit val 5, cond := bits val 6 2, markId := bits val 16 16 })
def State.wAcqSrc (s : State) (fn k val : Nat) : State :=
  s.acqConfig fn k false 0 (fun a => { a with
    fromMadc := bit val 0, lane := bits val 1 3, input := bits val 4 5, line := bits val 9 2, markMask := bits val 16 16 })
def State.wAcqThresh (s : State) (fn k : Nat) (hi : Bool) (val : Nat) : State :=
  s.acqConfig fn k false 0 (fun a => if hi then { a with thHi := sx 20 val } else { a with thLo := sx 20 val })
def State.wAcqLimit (s : State) (fn k lo : Nat) (val : Nat) : State :=
  let a := s.acq k
  let isB := lo == 0x060
  let v := s.lowHalf fn Ty.acq k lo ((if isB then a.limB else a.limA) % 2 ^ 32) + bits val 0 16 * 2 ^ 32
  (s.unstage fn Ty.acq k lo).acqConfig fn k false 0 (fun a => if isB then { a with limB := v } else { a with limA := v })
def State.wAcqPre (s : State) (fn k val : Nat) : State :=
  s.acqConfig fn k false 0 (fun a => { a with pre := bits val 0 15 })
def State.wAcqPost (s : State) (fn k val : Nat) : State :=
  s.acqConfig fn k (val % 2 ^ 32 == 0) Code.paramRange (fun a => { a with post := val % 2 ^ 32 })
def State.wAcqQueue (s : State) (fn k val : Nat) : State :=
  s.acqConfig fn k (bit val 31 && !s.streamQueueOk (s.hdr Ty.acq k).owner (bits val 0 20)) Code.ownerConflict
    (fun a => { a with queue := bits val 0 20, qValid := bit val 31 })

/-- ACQ_RUN_START: a write of ACQ_CTRL with RUN = 1, the other fields as they stand. -/
def execAcqRunStart (fn k : Nat) (s : State) : Host.Outcome State Fault Refusal :=
  onUnit (decide (fn < 18)) (s.onWrite fn Ty.acq k 0x040 (fun t =>
    let a := t.acq k
    t.wAcqCtrl fn k (b2n a.single + 2 + 4 * b2n a.edgeEn + 8 * b2n a.sampleEn)))
/-- ACQ_RUN_STOP: a write of ACQ_CTRL with RUN = 0. -/
def execAcqRunStop (fn k : Nat) (s : State) : Host.Outcome State Fault Refusal :=
  onUnit (decide (fn < 18)) (s.onWrite fn Ty.acq k 0x040 (fun t =>
    let a := t.acq k
    t.wAcqCtrl fn k (b2n a.single + 4 * b2n a.edgeEn + 8 * b2n a.sampleEn)))

/-- A pending gap that no record has taken along is written alone once a slot is free (R276). -/
def State.acqLoneGap (s : State) (k : Nat) : State :=
  let a := s.acq k
  if a.state ≠ 0 ∧ a.gap.isSome ∧ (a.windowed ∨ a.buf.length < 32766) then
    (s.modAcq k (fun a => a.writeGap.1)).cause Ty.acq k 4
  else s

/-- ACQ_RING_MOVE: a lone gap is written; the oldest record of the ring, or of a finished capture, to the queue (R274, R276). A
record above the frame limit of a sealed site's queue joins the gap (17 R372). -/
def State.acqMove (s : State) (k : Nat) : State :=
  let a := s.acq k
  let o := (s.hdr Ty.acq k).owner
  let moves := if a.single then a.state == 5 || (a.state == 4 && a.spill) else decide (1 ≤ a.state)
  if ¬ moves then s.acqLoneGap k
  else
    let s0 := s.acqLoneGap k
    match (s0.acq k).buf with
    | [] => s0
    | r :: rest =>
      if s0.isSealed o ∧ frameLimit (s0.queue (s0.acq k).queue) < r.bytes.length then
        s0.modAcq k (fun a => ({ a with buf := rest } : Acq).lose r.tt)
      else if s0.acqHeld (s0.acq k).queue then s0
      else
        let d := s0.deliver o 1 k (s0.acq k).queue r.bytes
        if d.2 then d.1.modAcq k (fun a => { a with buf := rest }) else s0

def execAcqRingMove (k : Nat) (s : State) : Host.Outcome State Fault Refusal :=
  onUnit (decide (k < nClu)) (s.acqMove k)

/-- ACQ_CAPTURE_DONE (R274, R275). -/
def execAcqCaptureDone (k : Nat) (s : State) : Host.Outcome State Fault Refusal :=
  onUnit (decide (k < nClu)) (
    let a := s.acq k
    if a.single ∧ a.state = 5 ∧ a.buf = [] ∧ a.gap = none then
      (s.modAcq k (fun a => { a.abandon (if a.cut then 2 else 1) with cut := false })).cause Ty.acq k (if a.cut then 8 else 2)
    else s)

/-- A conversion in progress will give the unit a SAMPLE record of a TT before `t` (R264, R272). -/
def State.sampleAhead (s : State) (k t : Nat) : Bool :=
  (s.acq k).sampleEn && (s.hdr Ty.acq k).owner == (s.hdr Ty.madc k).owner && (s.madc k).scan.any (fun c => !c.left.isEmpty && ttLt c.hold t)

/-- ACQ_STREAM_STOPPED (R272). -/
def execAcqStreamStopped (k : Nat) (s : State) : Host.Outcome State Fault Refusal :=
  onUnit (decide (k < nClu)) (
    let a := s.acq k
    match a.stopT with
    | none => s
    | some t =>
      if ¬ a.single ∧ a.buf = [] ∧ a.gap = none ∧ a.fly.all (fun x => ttLe t x.2.tt) ∧ ¬ s.sampleAhead k t then
        (s.modAcq k (fun a => { a.abandon a.lastEnd with run := false })).cause Ty.acq k 8
      else s)

/-- ACQ_BURST_FLUSH: 500 ns after DRAINING or ABORTED entry the site's units count as flushed (R277); open sealed
frames close at the flush (17 R372). -/
def execAcqBurstFlush (st : Nat) (s : State) : Host.Outcome State Fault Refusal :=
  onUnit (decide (st < nSite)) (
    let x := s.site st
    let since := match x.st with | .draining => some x.drainT | .aborted => x.abortT | _ => none
    match since with
    | none => s
    | some t =>
      if ¬ ttLe (t + 500 * fsNs) s.now then s
      else
        let s1 := s.modSite st (fun x => { x with acqFlushed := true })
        forEach (s1.siteAcqs st) (fun k u =>
          if u.isSealed st then (u.closeFrame st 1 k (u.acq k).queue).1 else u) s1)

end Sys2Proof.Machine
end

