-- ==== Sys2Proof/Machine/Modes.lean ====
section
/-! DEFINITION. Family: module modes, Hi-Z, SAFE entry, mode requests, resets of endpoints and functions
(02_modes_and_startup.md, 16_sites_and_hosts.md R334 to R339). -/

namespace Sys2Proof.Machine

/-! ### GLB_SAFE_CAUSE (R37) -/

abbrev causeBoot : Nat := 1
abbrev causeFw : Nat := 2
abbrev causeMc : Nat := 4
abbrev causeMem : Nat := 8
abbrev causeLink : Nat := 16
abbrev causeTamper : Nat := 32
abbrev causeFatal : Nat := 64
abbrev causePower : Nat := 128
abbrev causeRequest : Nat := 256
abbrev causeClock : Nat := 512

/-- Set cause bits; GLB cause SAFE_CAUSE for each that rises (05 R96). -/
def State.setCause (s : State) (m : Nat) : State :=
  let new := risen s.glb.cause m
  when (new != 0) (fun t => t.cause Ty.glb 0 2) (s.modGlb (fun g => { g with cause := g.cause ||| m }))

/-- The lifecycle state is BLANK or END (GLB_SAFE_CAUSE.LIFECYCLE). -/
def State.lcHeld (s : State) : Bool := s.otp.lcState == 0 || s.otp.lcState == 4

/-- The conditions under which a write of 1 leaves a cause bit at 1 (R37). -/
def State.causeHeld (s : State) : Nat :=
  (if s.sec.tActive ≠ 0 then causeTamper else 0) + (if s.glb.linksDown ≠ 0 then causeLink else 0)
    + (if s.clk.locked then 0 else causeClock)
    + (if s.pwr.vin < 34000 ∨ s.pwr.ov ∨ ¬ s.pwr.en then causePower else 0) + (if s.pwr.ot then causeFatal else 0)

/-- A write of GLB_SAFE_CAUSE. -/
def State.wSafeCause (s : State) (val : Nat) : State :=
  s.modGlb (fun g => { g with cause := clearMask g.cause (clearMask (bits val 0 10) s.causeHeld) })

/-- Every cause bit but BOOT is clear, the PLL is locked to REFCLK, the lifecycle permits READY (R35). -/
def State.readyOk (s : State) : Bool := clearMask s.glb.cause causeBoot == 0 && s.clk.locked && !s.lcHeld

/-! ### Pins (R43, R44, 10 R206) -/

/-- The Hi-Z sequence starts on a channel: the driver step. A range change, contact test or free run ends. `safe`: with
the level-DAC step. A driver range change that it abandons drops the TERM_EN and CLAMP_EN of the write too, and RANGING of an
abandoned PMU range change ends 2 µs after the sequence starts: the specification gives neither (DESIGN CHOICE, log entry
55). -/
def State.hizStart (s : State) (safe : Bool) (ch : Nat) : State :=
  (s.endRun ch).modChan ch (fun c => { c with
    drvMode := 0, hard := true, pedges := [], noDrive := true, rangeAt := none, ctrlNext := none, conAt := none
    rangingTo := if c.pmuAt.isSome then s.up + 2 * fsUs else c.rangingTo
    pmuAt := none, pmuOld := false, hiz := some (safe || c.hiz.getD false), hizDue := none })

/-- The rest of the sequence: load off, PMU disconnected, and on SAFE entry clamps off, level DACs at the zero code and
the level queue empty. -/
def Chan.hizEnd (c : Chan) (safe : Bool) : Chan :=
  let c := { c with loadMode := 0, pmuConn := false, compliance := false, hiz := none }
  if safe then ({ c with clamp := false, codes := [], lvlq := [] } : Chan).settleClamps else c

/-- HIZ_SEQUENCE_DONE. -/
def State.hizDone (s : State) (ch : Nat) : State :=
  match (s.chan ch).hiz with
  | none => s
  | some safe => s.modChan ch (fun c => c.hizEnd safe)

def execHizSequenceDone (ch : Nat) (s : State) : Host.Outcome State Fault Refusal :=
  onUnit (decide (ch < nChan)) (s.hizDone ch)

/-- The abort point of the channel's site is still ahead. -/
def State.beforeA (s : State) (ch : Nat) : Bool :=
  let o := s.chOwner ch
  decide (o < 16) && (s.site o).st == .aborted && !(s.site o).abortDone

/-- Hi-Z of a channel that a cause has ordered: a channel of a site whose abort point is ahead plays on to it, and its
sequence starts there (R39; 08 R159). -/
def State.hizFrom (s : State) (safe : Bool) (ch : Nat) : State :=
  if s.beforeA ch then (s.endRun ch).modChan ch (fun c => { c with hizDue := some (safe || c.hizDue.getD false) })
  else s.hizStart safe ch

def allChans : List Nat := List.range nChan
/-- Hi-Z of a list of channels begins. -/
def State.hizAll (s : State) (safe : Bool) (l : List Nat) : State := forEach l (fun ch t => t.hizFrom safe ch) s

/-- The power-up state at once (R42). -/
def State.powerUpPins (s : State) (ch : Nat) : State := (s.hizStart true ch).modChan ch (fun c => c.hizEnd true)

/-- ANALOG_LINK_WATCHDOG (R42). -/
def execAnalogLinkWatchdog (die : Nat) (s : State) : Host.Outcome State Fault Refusal :=
  onUnit (decide (die < nRgn)) (forEach (chansOfRgn die) (fun ch t => t.powerUpPins ch) s)

/-! ### Work a mode change ends (R52; 14 R289; 12 R253; 13 R277) -/

/-- Coefficients pending since the run that is abandoned are discarded; what waited before it waits on. -/
def Chan.dropSince (c : Chan) (t : Nat) : Chan :=
  if t ≤ c.calNextAt ∧ ¬ c.calSlew then
    match c.calOld with
    | some (k, a) => { c with calNext := some k, calNextAt := a, calOld := none }
    | none => { c with calNext := none, calStale := false }
  else c

/-- A failed result: its code is the last, the run has a failed result, and so has the CAL sequence it belongs to. -/
def State.calFail (s : State) (r code : Nat) : State :=
  let s1 := s.modCal r (fun c => { c with failed := true, lastErr := code })
  if (s.cal 4).state = 6 then s1.modCal 4 (fun c => { c with failed := true, lastErr := code }) else s1

/-- The MADC leaves HELD: its coefficients take effect and the continuous source resumes (12 R253, 14 R295). -/
def State.madcRelease (s : State) (k : Nat) : State :=
  let s1 := s.modMadc k (fun m => match m.calNext with | some t => { m with cal := t, calNext := none } | none => m)
  when ((s1.madc k).run && (s1.madc k).src == 1 && (s1.madc k).scan.isNone) (fun t => t.madcTrigger k true) s1

/-- A cluster step in progress ends unmeasured, its MADC released. -/
def State.stepEnd (s : State) (k : Nat) : State :=
  when (s.clu k).step (fun t => (t.modClu k (fun x => { x with step := false, isolated := 0 })).madcRelease k) s

/-- The run of CAL instance `i`, or the sequence, is abandoned (14 R289, R290): what it has measured and not applied
goes, on every channel and MADC for the sequence (R52); a step in progress ends and its MADC is released. -/
def State.calAbandon (s : State) (i : Nat) : State :=
  let c := s.cal i
  if i < 4 ∧ (1 ≤ c.state ∧ c.state ≤ 4) then
    let s1 := s.modCal i (fun c => { c with
      state := 0, failCount := satAdd sat32 c.failCount 1, lastOk := false, todo := 0, common := false, failed := false
      spareOnly := false, gradual := false })
    let s2 := forEach (chansOfRgn i) (fun ch t => t.modChan ch (fun x => x.dropSince c.startAt)) s1
    (forEach (clusOfRgn i) (fun k t =>
      (when (!c.spareOnly && bit c.madcDone (k % 6)) (fun u => u.modMadc k (fun m => { m with calNext := none })) t).stepEnd k)
      s2).cause Ty.cal i 2
  else if i < 4 then forEach (clusOfRgn i) (fun k t => t.stepEnd k) s
  else if i = 4 ∧ 6 ≤ c.state then
    let s1 := s.modCal 4 (fun c => { c with
      state := 0, failCount := satAdd sat32 c.failCount 1, lastOk := false, planes := [], refused := [] })
    let s2 := forEach (List.range nChan) (fun ch t => t.modChan ch (fun x => x.dropSince c.startAt)) s1
    (forEach (List.range nClu) (fun k t => t.modMadc k (fun m => { m with calNext := none })) s2).cause Ty.cal 4 2
  else s

def State.calAbandonAll (s : State) : State := forEach [0, 1, 2, 3, 4] (fun i t => t.calAbandon i) s

/-- Which of two slots is the newer (14 R298). -/
def Slots.newer {α : Type} (p : Slots α) : Bool :=
  -- true: slot B is the newest valid copy
  match p.a, p.b with
  | none, some _ => true
  | some (x, _), some (y, _) => decide (1 ≤ (y + 2 ^ 32 - x) % 2 ^ 32 ∧ (y + 2 ^ 32 - x) % 2 ^ 32 < 2 ^ 31)
  | _, _ => false
/-- What slot B (true) or A holds. -/
def Slots.at_ {α : Type} (p : Slots α) (b : Bool) : Option (Nat × α) := if b then p.b else p.a
def Slots.newest {α : Type} (p : Slots α) : Option (Nat × α) := p.at_ p.newer
def Slots.older {α : Type} (p : Slots α) : Option (Nat × α) := p.at_ (!p.newer)
/-- Commit a new copy, with the sequence number after the newest, into a slot. -/
def Slots.put {α : Type} (p : Slots α) (b : Bool) (v : α) : Slots α :=
  let n := (match p.newest with | some (x, _) => x + 1 | none => 1) % 2 ^ 32
  if b then { p with b := some (n, v) } else { p with a := some (n, v) }
/-- A slot is left invalid. -/
def Slots.drop {α : Type} (p : Slots α) (b : Bool) : Slots α := if b then { p with b := none } else { p with a := none }

/-! ### Record slots (14 R298, R299) -/

def ascii (l : List Char) : List Byte := l.map (fun c => BitVec.ofNat 8 c.toNat)
def magicCal : List Byte := ascii ['K', 'V', 'C', 'L']
def magicRetire : List Byte := ascii ['K', 'V', 'R', 'T']
def magicSec : List Byte := ascii ['K', 'V', 'S', 'C']
def commitMark : List Byte := ascii ['C', 'M', 'I', 'T']

/-- Bytes 0x0000 to 0x001F of a slot. -/
def RecSlot.header {α : Type} (r : RecSlot α) : List Byte :=
  r.magic ++ le 1 r.record ++ le 1 r.format ++ le 2 0 ++ le 4 r.seq ++ le 4 r.length ++ le 4 r.payloadCrc ++ List.replicate 12 0
/-- The slot is valid for a record: its magic, ID and format, its commit record, its sequence number and both CRCs; `enc`
gives the bytes of a payload. -/
def RecSlot.valid {α : Type} (magic : List Byte) (id : Nat) (enc : α → List Byte) (r : RecSlot α) : Bool :=
  r.magic == magic && r.record == id && r.format == 1 && r.commit == commitMark && r.commitSeq == r.seq
    && crc32 r.header == r.hdrCrc && crc32 ((enc r.value).take r.length) == r.payloadCrc
/-- A slot programmed whole. -/
def RecSlot.made {α : Type} (magic : List Byte) (id : Nat) (enc : α → List Byte) (seq : Nat) (v : α) : RecSlot α :=
  let r : RecSlot α := { magic := magic, record := id, format := 1, seq := seq, length := (enc v).length
                         payloadCrc := crc32 (enc v), value := v, commit := commitMark, commitSeq := seq }
  { r with hdrCrc := crc32 r.header }
/-- The valid slots of a record: sequence number and contents. -/
def RecSlots.view {α : Type} (magic : List Byte) (id : Nat) (enc : α → List Byte) (p : RecSlots α) : Slots α :=
  let f := fun (o : Option (RecSlot α)) => o.bind (fun r => if r.valid magic id enc then some (r.seq, r.value) else none)
  { a := f p.a, b := f p.b }
/-- The slot a record is written into: the one that does not hold its newest valid copy (true: B). -/
def Slots.target {α : Type} (p : Slots α) : Bool := !p.newer && p.a.isSome
/-- The sequence number of the next copy. -/
def Slots.nextSeq {α : Type} (p : Slots α) : Nat := (match p.newest with | some (x, _) => x + 1 | none => 1) % 2 ^ 32
def RecSlots.put {α : Type} (p : RecSlots α) (b : Bool) (r : Option (RecSlot α)) : RecSlots α :=
  if b then { p with b := r } else { p with a := r }
/-- A record's writing starts: the slot it goes to holds no valid copy from here on. -/
def RecSlots.erase {α : Type} (magic : List Byte) (id : Nat) (enc : α → List Byte) (p : RecSlots α) : RecSlots α :=
  p.put (p.view magic id enc).target none
/-- A record commits; the other slot is erased in advance, unless no erase may start (02 R46). -/
def RecSlots.program {α : Type} (magic : List Byte) (id : Nat) (enc : α → List Byte) (hold : Bool) (v : α) (p : RecSlots α) :
    RecSlots α :=
  let w := p.view magic id enc
  let p1 := p.put w.target (some (RecSlot.made magic id enc w.nextSeq v))
  if hold then p1 else p1.put (!w.target) none

/-- The numbers a calibration record holds (R298). -/
def CalRec.nums (c : CalRec) : List Int :=
  c.tempRef :: (c.hostMs : Int) :: (c.chans.map (fun (p : Nat × CalTerms) => ((p.1 : Nat) : Int) ::
    [p.2.drive, p.2.enable, p.2.compare, p.2.spDrive, p.2.spEnable, p.2.spCompare, p.2.tau]
      ++ (p.2.gain ++ p.2.off ++ p.2.pmu).map (fun (q : Nat × Int) => q.2))).flatten
    ++ (c.madcs.map (fun (p : Nat × Tbl Int) => p.2.map (fun (q : Nat × Int) => q.2))).flatten
    ++ c.outcomes.map (fun (p : Nat × Nat) => ((p.2 : Nat) : Int))
def calEnc (id : Nat) (c : CalRec) : List Byte := Config.calPayload id c.nums
/-- The 128 bytes of the SEC record's payload (17 R365). -/
def SecRec.bytes (c : SecRec) : List Byte :=
  le 8 c.bound ++ le 4 c.fwFloor ++ le 4 c.mcFloor ++ le 1 c.lcState ++ le 1 c.lcCounter ++ le 2 0 ++ fitBytes 48 c.platform
    ++ List.replicate 60 0
/-- The valid slots of the calibration record `r`, of the RETIRE record (18 R389) and of the SEC record (17 R365). -/
def Nor.calSlots (n : Nor) (r : Nat) : Slots CalRec := (Tbl.get ({} : RecSlots CalRec) n.cal r).view magicCal r (calEnc r)
def Nor.retSlots (n : Nor) : Slots (List Nat) := n.ret.view magicRetire 6 Config.retirePayload
def Nor.secSlots (n : Nor) : Slots SecRec := n.sec.view magicSec 7 SecRec.bytes
/-- The slot of record `r` that its next copy goes to is erased. -/
def Nor.erase (n : Nor) (r : Nat) : Nor :=
  if r < 5 then { n with cal := Tbl.upd {} n.cal r (fun p => p.erase magicCal r (calEnc r)) }
  else if r = 6 then { n with ret := n.ret.erase magicRetire 6 Config.retirePayload }
  else if r = 7 then { n with sec := n.sec.erase magicSec 7 SecRec.bytes }
  else n

/-- The slots of a region as NOR holds them at the model's reset. -/
def mcAtReset : Slots McImage := { a := some (0, McImage.blank) }
def State.mcSlots (s : State) (r : Nat) : Slots McImage := Tbl.get mcAtReset s.nor.mc r
def State.modMc (s : State) (r : Nat) (f : Slots McImage → Slots McImage) : State :=
  s.modNor (fun n => { n with mc := Tbl.upd mcAtReset n.mc r f })

/-- The state of a region loader with no install: reloading, else idle. -/
def Rgn.loaderRest (x : Rgn) : Nat := if x.reloads.isEmpty then 0 else 3

/-- An abandoned install in a region: its inactive slot is invalid, and once step 5 has begun the loader writes the running
slot's image again (07 R148: a failure at any step leaves the running image; that the stores are whole at once is a DESIGN
CHOICE, log entry 56). -/
def State.installUndo (s : State) (r : Nat) : State :=
  let x := s.rgn r
  let s1 := (s.modMc r (fun p => p.drop (!x.slot))).modRgn r (fun y => { y with instN := none, instOn := false, loaderState := y.loaderRest })
  match x.instN with
  | none => s1
  | some n =>
    if ¬ x.instOn ∧ n = 0 then s1
    else
      (forEach (tesOfRgn r) (fun e t => t.loadStore e) (s1.setCopy r ((((s.mcSlots r).at_ x.slot).map (·.2)).getD {}))).modRgn r
        (fun y => { y with holding := tesOfRgn r, reloadAt := s.up })

/-- A firmware or microcode update is abandoned: the slot being written is invalid, the running image stays (R52). -/
def State.updateAbandon (s : State) : State :=
  let s1 := match s.nor.fwStage with
    | some (_, intoA, _) => s.modNor (fun n => { n with
        fwStage := none, fw := n.fw.drop (!intoA && !s.glb.fwSlot), writing := if n.writing = some 8 then none else n.writing
        todo := n.todo.filter (· != 8) })
    | none => s
  match s1.nor.mcStage with
  | some (m, _) => (forEach (bitList m 4) (fun r t => t.installUndo r) s1).modNor (fun n => { n with mcStage := none })
  | none => s1

/-- Analog and measurement units on SAFE entry. -/
def State.unitsSafe (s : State) : State :=
  forEach (List.range nClu) (fun k t => ((t.madcStop k).acqSafe k).modHist k (fun h => { h with run := false })) s

/-! ### SAFE entry (R35, R36, R44, R52) -/

/-- SAFE is entered: every burst ends with `code`, Hi-Z runs on every channel with its level-DAC step, runs are
abandoned; the transition completes at MODE_TRANSITION_DONE. -/
def State.safeEntry (s : State) (code : Nat) : State :=
  let s1 := (((s.endBursts allSites code).hizAll true allChans).calAbandonAll).unitsSafe
  s1.modGlb (fun g => { g with busy := true, target := .safe, seq := false, reboot := false, toSafe := true })

/-- SAFE entered by a SAFE cause: an update in progress is abandoned too (R52). -/
def State.enterSafe (s : State) (code : Nat) : State := s.updateAbandon.safeEntry code

/-- SAFE entered by an owner request: a NOR write in progress is finished and none starts (R49). -/
def State.safeRequest (s : State) : State :=
  ((s.safeEntry Code.burstAbortHost).modGlb (fun g => { g with safeReq := true, reqAt := some s.uptime })).modPwr (fun p => { p with norHold := true })

/-- SAFE is being entered, or is the mode with no transition in progress. -/
def State.inSafe (s : State) : Bool :=
  (s.glb.mode == .safe && !s.glb.busy) || (s.glb.busy && s.glb.target == .safe)

/-- A run may become due (14 R285). -/
def State.calAllowed (s : State) (r : Nat) : Bool :=
  s.stage == .on && s.glb.mode != .safe && !s.inSafe && !(s.rgn r).shutdown && (s.hdr Ty.cal r).en

/-- A SAFE cause arises (R35, R36, R52): its bits are set; SAFE is entered unless the module is OFF or in SAFE; a
transition from SAFE in progress ends at once, but a clock cause leaves the power-up sequence running (R41). -/
def State.toSafe (s : State) (m code : Nat) : State :=
  let s1 := s.setCause m
  if s1.stage ≠ .on ∨ s1.inSafe then s1
  else if s1.glb.mode = .safe then
    if m = causeClock ∧ s1.glb.seq then s1
    else (s1.modGlb (fun g => { g with busy := false, target := .safe, seq := false })).cause Ty.glb 0 1
  else s1.enterSafe code

/-! ### Mode requests (R35, R36, R49) -/

/-- A rejected request. -/
def State.modeReject (s : State) (code : Nat) : State :=
  ((s.modGlb (fun g => { g with lastReject := code })).raise code Ty.glb 0).cause Ty.glb 0 4

def State.allIdle (s : State) : Bool := allSites.all (fun i => s.siteIdle i)

/-- An accepted transition begins. -/
def State.begin (s : State) (m : Mode) : State :=
  s.modGlb (fun g => { g with busy := true, target := m, toSafe := false, reqAt := some s.uptime })

/-- RUN ends: bursts end with BURST_ABORT_HOST and armed sites go IDLE (R38, R49, R52). -/
def State.endRunMode (s : State) : State := s.endBursts allSites Code.burstAbortHost

/-- A write of GLB_MODE_CTRL. -/
def State.wModeCtrl (s : State) (val : Nat) : State :=
  let force := bit val 8
  let g := s.glb
  if g.busy then s.modeReject Code.modeBusy
  else match g.mode, bits val 0 3 with
    | .safe, 1 => (s.setCause causeRequest).cause Ty.glb 0 1
    | .safe, 2 => if s.readyOk then s.begin .ready else s.modeReject Code.modeCauseActive
    | .run, 1 =>
      if ¬ s.allIdle ∧ ¬ force then s.modeReject Code.modeBusy else s.safeRequest
    | .run, 2 => if ¬ s.allIdle ∧ ¬ force then s.modeReject Code.modeBusy else s.endRunMode.begin .ready
    | .off, _ => s.modeReject Code.modeIllegal
    | .safe, _ => s.modeReject Code.modeIllegal
    | .run, _ => s.modeReject Code.modeIllegal
    | _, 1 => s.safeRequest
    | .ready, 3 =>
      if allChans.any (fun ch => (s.chan ch).frRun) then s.modeReject Code.modeBusy
      else ((forEach [0, 1, 2, 3] (fun i t => t.calAbandon i) s).hizAll false allChans).begin .cal
    | .ready, 4 => s.begin .run
    | .ready, 5 => ((forEach [0, 1, 2, 3] (fun i t => t.calAbandon i) s).hizAll false allChans).begin .service
    | .cal, 2 => (s.calAbandonAll.hizAll false allChans).begin .ready
    | .service, 2 =>
      let s1 := (s.calAbandonAll.hizAll g.fwCommitted allChans).begin .ready
      s1.modGlb (fun g => { g with reboot := g.fwCommitted })
    | _, _ => s.modeReject Code.modeIllegal

def State.modeReq (s : State) (fn val : Nat) : State := s.onWrite fn Ty.glb 0 0x040 (fun t => t.wModeCtrl val)

def execModeReqSafe (fn : Nat) (force : Bool) (s : State) : Host.Outcome State Fault Refusal :=
  onUnit (decide (fn < 18)) (s.modeReq fn (1 + 256 * b2n force))
def execModeReqReady (fn : Nat) (force : Bool) (s : State) : Host.Outcome State Fault Refusal :=
  onUnit (decide (fn < 18)) (s.modeReq fn (2 + 256 * b2n force))
def execModeReqCal (fn : Nat) (s : State) : Host.Outcome State Fault Refusal :=
  onUnit (decide (fn < 18)) (s.modeReq fn 3)
def execModeReqRun (fn : Nat) (s : State) : Host.Outcome State Fault Refusal :=
  onUnit (decide (fn < 18)) (s.modeReq fn 4)
def execModeReqService (fn : Nat) (s : State) : Host.Outcome State Fault Refusal :=
  onUnit (decide (fn < 18)) (s.modeReq fn 5)
/-- MODE_REQ_ILLEGAL: any other value of the register, or a transition the table lacks. -/
def execModeReqIllegal (fn val : Nat) (s : State) : Host.Outcome State Fault Refusal :=
  onUnit (decide (fn < 18)) (s.modeReq fn val)

/-! ### Completion (R36, R45, R47, 16 R348) -/

/-- Every site's mode-change cause, when RUN or SAFE is entered or left. -/
def State.siteNotice (s : State) (a b : Mode) : State :=
  when ((a == .run) != (b == .run) || (a == .safe) != (b == .safe))
    (fun t => forEach allSites (fun i u => u.cause Ty.site i 2) t) s

/-- A started NOR write of the oldest waiting record, unless writes are held (14 R299, 02 R46). -/
def State.norStart (s : State) : State :=
  if s.pwr.norHold ∨ s.nor.writing.isSome then s
  else match s.nor.todo with
    | [] => s
    | r :: rest => s.modNor (fun n => { n.erase r with writing := some r, todo := rest })

/-- A record is to be written; a record already waiting is not queued again. -/
def State.norWrite (s : State) (r : Nat) : State :=
  (if s.nor.todo.contains r then s else s.modNor (fun n => { n with todo := n.todo ++ [r] })).norStart

/-- Entry to READY from SAFE: a load shed ends (R47) with every die in the power-up state, BOOT clears (R40), BOOT_MS is
written at the first entry since power-up, WARMUP is set then or when the analog dies were unpowered (R45). A fraction of a
millisecond is dropped from BOOT_MS: the specification gives no rounding (DESIGN CHOICE, log entry 55). -/
def State.leaveSafe (s : State) : State :=
  let boot := !s.glb.readied
  let warm := boot || s.pwr.analogOff
  let s1 := s.modPwr (fun p => { p with shed := false, shedDue := false, analogOff := false, norHold := false })
  let s2 := forEach [0, 1, 2] (fun i t => t.modHbm i (fun h => { h with selfRefresh := false })) s1
  (s2.modGlb (fun g => { g with
    cause := clearMask g.cause causeBoot, readied := true
    bootMs := if boot then min 65535 ((s.up - g.goodAt) / fsMs) else g.bootMs
    warmup := warm || g.warmup, warmAt := if warm then s.up else g.warmAt
    warmN := if warm then 0 else g.warmN, warmTemps := if warm then [] else g.warmTemps })).norStart

/-- A region's internal run of the lanes `todo` is due; it ends a holdoff, and begins with its common step at the next root
edge (14 R284, R285, R302). -/
def Cal.runStart (c : Cal) (todo uptime : Nat) : Cal :=
  { c with
    state := 1, todo := todo, common := false, failed := false, madcDone := 0, done := 0, spareOnly := false
    gradual := c.gradualNext, gradualNext := false, holdEnd := 0, startAt := uptime * 256, stepAt := uptime }

/-- With every region run of the CAL sequence ended, the sequence moves to its next phase (R290). -/
def State.seqAdvance (s : State) : State :=
  if (s.cal 4).state = 6 ∧ [0, 1, 2, 3].all (fun i => (s.cal i).state == 0 || (s.cal i).state == 5) then
    if (s.cal 4).refplane then
      forEach [0, 1, 2, 3] (fun r t => t.modCal r (fun c => { c with stepAt := s.uptime }))
        (s.modCal 4 (fun c => { c with state := 7, todo := 2 ^ 24 - 1, done := 0 }))
    else forEach [0, 1, 2, 3, 4] (fun r t => t.norWrite r) (s.modCal 4 (fun c => { c with state := 9, done := 0 }))
  else s

/-- The CAL sequence starts: a run of every region is due (14 R285, R290). A region in thermal shutdown or with EN at 0
has none: the sequence goes on without it and is not successful. -/
def State.calSequence (s : State) : State :=
  let s1 := s.modCal 4 (fun c => { c with state := 6, done := 0, failed := false, spoiled := false, planes := [], refused := [], startAt := s.up })
  (forEach [0, 1, 2, 3] (fun i t =>
    if (t.rgn i).shutdown ∨ ¬ (t.hdr Ty.cal i).en then t.modCal 4 (fun c => { c with spoiled := true })
    else t.modCal i (fun c => c.runStart (2 ^ 48 - 1) s.uptime)) s1).seqAdvance

/-- A mode change, except between READY and RUN, abandons the internal runs in progress (14 R289). -/
def State.modeLeft (s : State) (old m : Mode) : State :=
  if old = m ∨ (old = .ready ∧ m = .run) ∨ (old = .run ∧ m = .ready) then s
  else forEach [0, 1, 2, 3] (fun i t => t.calAbandon i) s

/-- The mode is entered and BUSY ends. Entry to CAL or SERVICE disarms and stops every ACQ unit (13 R277). -/
def State.finish (s : State) (m : Mode) : State :=
  let old := s.glb.mode
  let s1 := when (old == .safe && m == .ready) State.leaveSafe s
  let s2 := s1.modGlb (fun g => { g with mode := m, busy := false, target := m, seq := false, reboot := false, toSafe := false, safeReq := false })
  let s3 := if m = .cal ∨ m = .service then
      forEach (List.range nClu) (fun k t => ((t.madcHold k).acqDisarm k).acqRunStop k) s2
    else if old = .cal ∨ old = .service then forEach (List.range nClu) (fun k t => t.madcRelease k) s2
    else if m = .safe then forEach (List.range nClu) (fun k t => t.acqRestartPairs k) s2
    else s2
  let s4 := when (m == .cal) State.calSequence (s3.modeLeft old m)
  let s4 := when (m == .ready) (fun t => forEach (List.range nRgn) (fun r u => u.rgnBoundary r) t) s4
  (s4.cause Ty.glb 0 1).siteNotice old m

/-- A NOR write is in progress: a record's, or a microcode image's. -/
def State.norBusy (s : State) : Bool := s.nor.writing.isSome || s.nor.mcStage.isSome

/-- EXTEST, CLAMP and HIGHZ end when the mode leaves SAFE (19 R414). -/
def State.jtagRelease (s : State) : State := s.modJtag (fun j => { j with hold := none, released := false })

/-- MODE_TRANSITION_DONE: once no Hi-Z sequence runs and, on an owner request for SAFE, no NOR write (R49). The power-up
sequence ends by BOOT_READY instead; an activation of a committed image first reaches SAFE and its boot steps (R35). -/
def State.transitionDone (s : State) : State :=
  let g := s.glb
  if s.stage ≠ .on ∨ ¬ g.busy ∨ g.seq ∨ allChans.any (fun ch => (s.chan ch).hiz.isSome || (s.chan ch).hizDue.isSome)
      ∨ (g.mode = .safe ∧ g.target = .ready ∧ s.sec.wiping ≠ []) ∨ (g.safeReq ∧ s.norBusy) then s
  else if g.reboot then
    (s.calAbandonAll.unitsSafe.modGlb (fun g => { g with
      mode := .safe, reboot := false, seq := true, fwOk := false, mcLoaded := false, calLoaded := false, calDefault := false
      fwCommitted := false })).siteNotice g.mode .safe
  else if g.target = .safe then
    let s1 := when g.safeReq (fun t => t.setCause causeRequest) s
    s1.finish .safe
  else when (g.mode == .safe) State.jtagRelease (s.finish g.target)

def execModeTransitionDone (s : State) : Host.Outcome State Fault Refusal := .next s.transitionDone

/-- BOOT_READY: every step of the power-up sequence has completed. With the lifecycle BLANK or END the module stays in
SAFE (R40, R41). -/
def State.bootReady (s : State) : State :=
  let g := s.glb
  if s.stage = .on ∧ g.mode = .safe ∧ g.busy ∧ g.seq ∧ g.pwrOk ∧ g.fwOk ∧ g.bmemClear ∧ g.hbmClear ∧ g.mcLoaded
      ∧ g.retireLoaded ∧ g.calLoaded then
    if s.readyOk then (s.finish .ready).jtagRelease
    else if s.lcHeld then (s.modGlb (fun g => { g with busy := false, target := .safe, seq := false })).cause Ty.glb 0 1
    else s
  else s

def execBootReady (s : State) : Host.Outcome State Fault Refusal := .next s.bootReady

/-! ### Warm-up (R45) -/

/-- Region temperature: the mean of its six cluster sensors (14 R285), rounded down. -/
def State.rgnTemp (s : State) (r : Nat) : Int :=
  floorDiv ((clusOfRgn r).foldl (fun n k => n + (s.clu k).temp) 0) 6

def listMax (l : List Int) : Int := l.foldl (fun m x => if m < x then x else m) (l.headD 0)
def listMin (l : List Int) : Int := l.foldl (fun m x => if x < m then x else m) (l.headD 0)

/-- The sum of a region's six cluster temperatures. -/
def State.rgnSum (s : State) (r : Nat) : Int := (clusOfRgn r).foldl (fun n k => n + (s.clu k).temp) 0

/-- WARMUP_SAMPLE: every 10 ms from the setting of WARMUP, at entry to READY; WARMUP clears at a sample that closes 60 s, of
6,001 samples 10 ms apart, in which the mean of no region has spread over 0.5 °C or more. Sums of six stand for the means. -/
def State.warmSample (s : State) : State :=
  let n := s.glb.warmN
  if ¬ s.glb.warmup ∨ ¬ s.glb.readied ∨ s.stage ≠ .on ∨ s.up < (if n = 0 then s.glb.warmAt else s.glb.warmLast + 10 * fsMs) then s
  else
    let hist := ([0, 1, 2, 3].map s.rgnSum :: s.glb.warmTemps).take 6001
    let steady := (List.range 4).all (fun r =>
      let l := hist.map (fun p => p.getD r 0)
      decide (listMax l - listMin l < 6 * 512))
    s.modGlb (fun g => { g with warmN := n + 1, warmLast := s.up, warmTemps := hist, warmup := !(steady && decide (6000 ≤ n)) })

def execWarmupSample (s : State) : Host.Outcome State Fault Refusal := .next s.warmSample

/-- WARMUP_TIMEOUT. -/
def execWarmupTimeout (s : State) : Host.Outcome State Fault Refusal :=
  .next (if s.glb.warmup ∧ s.glb.readied ∧ s.glb.warmAt + 900 * fsSec ≤ s.up then s.modGlb (fun g => { g with warmup := false }) else s)

/-! ### Endpoints and functions (R51, 16 R334, R338, R339) -/

/-- Sites whose virtual function sits on an endpoint. -/
def State.epSites (s : State) (e : Nat) : List Nat := allSites.filter (fun i => s.endpointOf (i + 1) == e)
/-- Functions of an endpoint. -/
def State.epFns (s : State) (e : Nat) : List Nat := (List.range 18).filter (fun f => s.endpointOf f == e && (f != 17 || s.bifur))

/-- A mailbox is reset: its requests that wait are gone, and the responses to those under way are discarded (17 R381). -/
def State.doeForget (s : State) (fn : Nat) : State :=
  let s1 := s.modSec (fun x => { x with
    doeWait := x.doeWait.filter (·.fn != fn), loadWait := x.loadWait.map (fun d => if d.fn = fn then { d with fn := 255 } else d) })
  let s2 := forEach allSites (fun i t => t.modSecSite i (fun x => { x with
    unload := x.unload.map (fun (a, p, g) => (a, if p = fn then 255 else p, g)) })) s1
  s2.modNor (fun n => { n with fwStage := n.fwStage.map (fun (i, a, p, g) => (i, a, if p = fn then 255 else p, g)) })

/-- The per-function state of a reset function clears; its commands that have not started are discarded (R339); its
SPDM sessions end (17 R355). -/
def State.fnClear (s : State) (fn : Nat) : State :=
  let s1 := s.modFn fn (fun f => { ({} : Fn) with inReset := true, held := f.held, aer := f.aer })
  let qs := (s.queues.filter (fun p => p.2.type == 5 && p.2.fn == fn)).map (·.1)
  let s2 := forEach qs (fun q t => t.modQueue q (fun d => { d with head := d.tail })) s1
  (s2.modSec (fun x => { x with sessions := Tbl.set 0 x.sessions fn 0, finished := Tbl.set 0 x.finished fn 0 })).doeForget fn

/-- A reset of an endpoint (R51): its functions are reset and VF Enable clears. -/
def State.endpointReset (s : State) (e : Nat) : State :=
  let l := if e = 0 then allSites else s.epSites 1
  let s1 := s.endBursts l Code.burstAbortHost
  let s2 := forEach (s.epFns e) (fun f t => t.fnClear f) s1
  let s3 := forEach (s.epSites e) (fun i t => t.modSite i (fun x => { x with vfOn := false })) s2
  if e = 0 ∧ s3.glb.mode = .run ∧ ¬ s3.glb.busy then s3.begin .ready else s3

/-- PERST_ASSERT: both endpoints are reset, and every SPDM session ends, MCTP's too (17 R355). -/
def execPerstAssert (s : State) : Host.Outcome State Fault Refusal :=
  let s1 := { s with link0 := false, link1 := false }.modSec (fun x => { x with sessions := [], finished := [] })
  .next (let s2 := s1.endpointReset 0; if s.bifur then s2.endpointReset 1 else s2)

/-- PCIE_LINK_DOWN of an endpoint (03 R68). -/
def execPcieLinkDown (e : Nat) (s : State) : Host.Outcome State Fault Refusal :=
  onUnit (decide (e = 0 ∨ (e = 1 ∧ s.bifur)))
    ((if e = 0 then { s with link0 := false } else { s with link1 := false }).endpointReset e)

/-- PCIE_LINK_UP: an endpoint trains once PWR_GOOD is high (R40). -/
def execPcieLinkUp (e : Nat) (s : State) : Host.Outcome State Fault Refusal :=
  onUnit (decide (e < 2))
    (if s.stage ≠ .on ∨ (e = 1 ∧ ¬ s.bifur) then s else if e = 0 then { s with link0 := true } else { s with link1 := true })

/-- A reset of a virtual function (R339). -/
def State.vfReset (s : State) (i : Nat) : State := (s.endBursts [i] Code.burstAbortHost).fnClear (i + 1)

/-- FUNCTION_RESET: `how` 0 FLR, 1 VF Enable cleared on a physical function, 2 D3hot to D0. A virtual function that is not
enabled is not there to be reset. -/
def State.functionReset (s : State) (fn how : Nat) : State :=
  match siteOfFn fn with
  | some i => if s.fnExists fn then s.vfReset i else s
  | none =>
    let e := if fn = 17 then 1 else 0
    if how = 1 then
      forEach ((s.epSites e).filter (fun i => (s.site i).vfOn)) (fun i t => (t.vfReset i).modSite i (fun x => { x with vfOn := false })) s
    else s.endpointReset e

def execFunctionReset (fn how : Nat) (s : State) : Host.Outcome State Fault Refusal :=
  onUnit (decide (fn < 18 ∧ how < 3 ∧ (fn ≠ 17 ∨ s.bifur))) (s.functionReset fn how)

/-- FUNCTION_RESET_DONE. -/
def execFunctionResetDone (fn : Nat) (s : State) : Host.Outcome State Fault Refusal :=
  onUnit (decide (fn < 18)) (s.modFn fn (fun f => { f with inReset := false }))

/-- VF_ENABLE_SET by a physical function (0, or 17 in layout 1) with NumVFs. -/
def execVfEnableSet (pf num : Nat) (s : State) : Host.Outcome State Fault Refusal :=
  onUnit (decide (pf = 0 ∨ (pf = 17 ∧ s.bifur))) (
    if ¬ s.fnUp pf ∨ (s.fn pf).inReset then s
    else forEach ((s.epSites (if pf = 17 then 1 else 0)).take num) (fun i t => t.modSite i (fun x => { x with vfOn := true })) s)

/-- Send one message for each pending vector that may leave. -/
def State.msixFlush (s : State) (fn : Nat) : State :=
  forEach (((s.fn fn).msixPend.filter (fun p => p.2)).map (·.1)) (fun v t =>
    if (t.fn fn).msixOn ∧ Tbl.get false (t.fn fn).msixOpen v then
      (t.modFn fn (fun f => { f with msixPend := Tbl.set false f.msixPend v false })).emit (.msix fn v)
    else t) s

/-- Vectors of a function (R338), and the offset of its pending bit array (R337). -/
def vectorsOf (fn : Nat) : Nat := if fn = 0 then 256 else 64
def pbaAt (fn : Nat) : Nat := if fn = 0 then 0x2000 else 0x1000
/-- A word of BAR 4: address, data and mask words of the vectors, pending bits; any other offset reads 0. -/
def State.msixWord (s : State) (fn off : Nat) : Nat :=
  let f := s.fn fn
  let k := off / 4
  if off < 16 * vectorsOf fn then
    (if k % 4 = 3 then b2n (!Tbl.get false f.msixOpen (k / 4)) else Tbl.get 0 f.msixTable k)
  else if pbaAt fn ≤ off ∧ off < pbaAt fn + vectorsOf fn / 8 then
    maskOf ((List.range 32).filter (fun i => Tbl.get false f.msixPend (8 * (off / 4 * 4 - pbaAt fn) + i)))
  else 0
/-- A write of a word of BAR 4: the pending bits and any other offset take none. -/
def State.msixWrite (s : State) (fn off val : Nat) : State :=
  let k := off / 4
  if 16 * vectorsOf fn ≤ off then s
  else if k % 4 = 3 then s.modFn fn (fun f => { f with msixOpen := Tbl.set false f.msixOpen (k / 4) (!bit val 0) })
  else s.modFn fn (fun f => { f with msixTable := Tbl.set 0 f.msixTable k (val % 2 ^ 32) })

/-- MSIX_VECTOR_UNMASK: an access to the MSI-X capability or to BAR 4; a vector unmasked, or MSI-X enabled, sends what is
pending (R337, R338). -/
def execMsixVectorUnmask (fn : Nat) (a : MsixAccess) (s : State) : Host.Outcome State Fault Refusal :=
  onUnit (decide (fn < 17) && (match a with | .unmask n => decide (n < vectorsOf fn) | _ => true)) (
    if ¬ s.fnUp fn then s
    else if (s.fn fn).inReset then s.refuseReset fn
    else match a with
      | .enable on => (s.modFn fn (fun f => { f with msixOn := on })).msixFlush fn
      | .unmask n => (s.modFn fn (fun f => { f with msixOpen := Tbl.set false f.msixOpen n true })).msixFlush fn
      | .write off val => (s.msixWrite fn off val).msixFlush fn
      | .read off => s.emit (.word fn (s.msixWord fn off)))

end Sys2Proof.Machine
end

