-- ==== Sys2Proof/Machine/Power.lean ====
section
/-! DEFINITION. Family: power-up, the 48 V input, PMBus telemetry and clocks (02 R40 to R50; 03_power_and_clocks.md). -/

namespace Sys2Proof.Machine

/-! ### Power-up (02 R40, R41) -/

/-- The input stands at `v` mV: the lockout is released at 34 V and engaged below 32 V (R40). -/
def Pwr.input (p : Pwr) (v : Nat) : Pwr :=
  { p with vin := v, uvlo := if 34000 ≤ v then false else if v < 32000 then true else p.uvlo }

/-- POWER_UP_START: PWR_EN is high and the input stands at `vin` mV; from OFF with the lockout released, soft-start
begins (R40, R50). -/
def execPowerUpStart (vin : Nat) (s : State) : Host.Outcome State Fault Refusal :=
  let s1 := s.modPwr (fun p => { p.input vin with en := true })
  .next (if s.stage = .off ∧ ¬ s1.pwr.uvlo then { s1 with stage := .starting } else s1)

/-- The DRBG is seeded anew from the entropy source (17 R358). -/
def State.drbgSeed (s : State) : State :=
  (s.modSec (fun x => { x with drbg := Drbg.seed (fitBytes 48 (Config.entropy s.free)) })).useFree
/-- The DRBG reseeds after 2^20 requests (17 R358). -/
def State.drbgReseed (s : State) : State :=
  (s.modSec (fun x => { x with drbg := { (x.drbg.update (fitBytes 48 (Config.entropy s.free))) with count := 0 } })).useFree
/-- One request of the security engine for `n` bytes of its DRBG. -/
def State.draw (s : State) (n : Nat) : State × List Byte :=
  let s1 := when (decide (2 ^ 20 ≤ s.sec.drbg.count)) State.drbgReseed s
  (s1.modSec (fun x => { x with drbg := (s1.sec.drbg.draw n).2 }), (s1.sec.drbg.draw n).1)

/-- A holder's key pair is drawn anew: its granules read as zeros under it (17 R358). -/
def State.newKey (s : State) (h : Nat) : State :=
  let k := s.draw 64
  (k.1.modSec (fun x => { x with epochs := Tbl.set 0 x.epochs h (k.1.free + 1), xts := Tbl.set [] x.xts h k.2 })).useFree

/-- HBM granules of a holder zeroed under its new key; WIPING until REKEY_DONE (17 R358). -/
def State.rekey (s : State) (h : Nat) : State :=
  let s1 := s.newKey h
  let grans := (List.range 288).filter (fun g => Tbl.get 16 s1.hbmHolder g == h)
  (forEach grans (fun g t => t.wipe (g * 2 ^ 28) (2 ^ 28)) s1).modSec (fun x => { x with wiping := x.wiping.filter (· != h) ++ [h] })

/-- The module as PWR_GOOD finds it: every register at its reset value, memory being cleared, the analog dies in the
power-up state; NOR, OTP, the input, the commands waiting and what has left the module stay. The straps are sampled. -/
def State.powerGood (s : State) (bifur : Bool) (smbAddr : Nat) : State :=
  let rec_ := match s.nor.secSlots.newest with | some (_, r) => r | none => { lcState := s.otp.lcState, lcCounter := s.otp.lcCounter }
  let base : State := {
    grade08 := s.grade08, bifur := bifur, smbAddr := smbAddr % 8, uptime := s.uptime, stage := .on
    pwr := { en := s.pwr.en, vin := s.pwr.vin, uvlo := s.pwr.uvlo }
    glb := { pwrOk := true, goodAt := s.up }
    sec := { drbgOk := true, tActive := s.sec.tActive, fwFloor := rec_.fwFloor, mcFloor := rec_.mcFloor
             hw := rec_.bound, bound := rec_.bound }
    nor := s.nor, otp := s.otp, outs := s.outs, free := s.free, pending := s.pending }
  let s1 := forEach (List.range 17) (fun h t => t.newKey h) base.drbgSeed
  if rec_.lcState ≠ s.otp.lcState ∨ rec_.lcCounter ≠ s.otp.lcCounter then s1.norWrite 7 else s1

/-- PWR_GOOD: the rails reach regulation (R40). -/
def execPwrGood (bifur : Bool) (smbAddr : Nat) (s : State) : Host.Outcome State Fault Refusal :=
  .next (if s.stage = .starting then s.powerGood bifur smbAddr else s)

/-- PLL_LOCK: the first lock since power-up; TT starts at 0 (03 R64, R65, R69, R73; 02 R37). CLK_STATUS.REFCLK_OK first
reads 1 here: from when on after power-up it does, the specification does not say (DESIGN CHOICE, log entry 55). -/
def State.pllLock (s : State) : State :=
  if s.stage ≠ .on ∨ s.everLocked then s
  else
    let s1 := { s with root := 0, everLocked := true }
    let s2 := (s1.modClk (fun c => { c with refclkOk := true, locked := true, phase := 0, lockAt := s.uptime })).modGlb
      (fun g => { g with pllLock := true, cause := if bit g.cause 0 then clearMask g.cause causeClock else g.cause })
    s2.cause Ty.clk 0 4

def execPllLock (s : State) : Host.Outcome State Fault Refusal := .next s.pllLock

/-- PLL_LOCK_TIMEOUT: 2 ms after PWR_GOOD without lock (R41). -/
def execPllLockTimeout (s : State) : Host.Outcome State Fault Refusal :=
  .next (if s.stage = .on ∧ ¬ s.everLocked ∧ s.glb.goodAt + 2 * fsMs ≤ s.up then s.toSafe causeClock Code.burstAbortSafe else s)

/-- A failed clearing: MEM_CLEAR, a fatal entry (R41). -/
def State.clearFail (s : State) (ty inst : Nat) : State :=
  (s.raise Code.memClearFail ty inst).toSafe causeMem Code.burstAbortSafe

/-- BMEM_CLEAR_DONE: bank memory cleared, the queue table with it (15 R312, R333), or its clearing failed. -/
def execBmemClearDone (ok : Bool) (s : State) : Host.Outcome State Fault Refusal :=
  .next (
    if s.stage ≠ .on ∨ s.glb.bmemClear then s
    else if ok then (s.modGlb (fun g => { g with bmemClear := true })).modQmgr (fun m => { m with ready := true })
    else s.clearFail Ty.bmem 0)

/-- Clearing of HBM ends with the stacks of mask `failed` not cleared (15 R312). -/
def State.hbmCleared (s : State) (failed : Nat) : State :=
  if s.stage ≠ .on ∨ s.glb.hbmClear then s
  else
    let s1 := forEach [0, 1, 2] (fun i t => t.modHbm i (fun h => { h with cleared := !bit failed i })) s
    if failed % 8 = 0 then s1.modGlb (fun g => { g with hbmClear := true })
    else forEach (bitList failed 3) (fun i t => t.clearFail Ty.hbm i) s1

/-- Little-endian field of a container or image. -/
def fld (b : List Byte) (off n : Nat) : Nat := fromLe ((b.drop off).take n)
def zeros (b : List Byte) (off n : Nat) : Bool := ((b.drop off).take n).all (· == 0)

/-- The checks of a Deldivel image in their order, 0 when all pass: form, certificate with its chain to the root whose hash OTP
holds, signature, version (17 R374). -/
def State.fwCheck (s : State) (b : List Byte) (v : FwVerdict) : Nat :=
  let n := fld b 0x0C 4
  if ¬ (b.take 4 = [0x4B, 0x56, 0x46, 0x57] ∧ fld b 4 2 = 1 ∧ zeros b 6 2 ∧ zeros b 0x14 12 ∧ zeros b 0x480 128
      ∧ 1 ≤ n ∧ n ≤ 8387216 ∧ b.length = 0x500 + n + 96) then Code.fwImageFormat
  else if ¬ v.usage ∨ v.root ≠ s.otp.root then Code.fwImageSig
  else if ¬ v.sig then Code.fwImageSig
  else if fld b 8 4 < s.sec.fwFloor then Code.fwImageVersion
  else 0

/-- The Deldivel image in a slot passes: the slot is valid and the checks of its bytes pass (17 R374). -/
def State.fwPass (s : State) (slot : Option (Nat × FwImage)) (v : FwVerdict) : Bool :=
  match slot with | some (_, i) => s.fwCheck i.bytes v == 0 | none => false

/-- An image starts: its version and measurement, and the alias certificate (17 R354). -/
def State.fwStart (s : State) (slotB : Bool) (i : FwImage) : State :=
  (s.modGlb (fun g => { g with fwOk := true, fwSlot := slotB })).modSec (fun x => { x with
    fwVersion := i.version, identityOk := s.otp.identity.isSome, aliasOf := sha384 i.bytes
    aliasKey := match s.otp.identity with | some d => hkdf [] (be 48 d) (sha384 i.bytes) 48 | none => []
    sessions := [], finished := [] })

/-- FW_VERIFY_DONE: the newest slot is verified, then the older (R40, R41). `sigA` and `sigB` say what verifying each
slot finds. -/
def State.fwVerify (s : State) (sigA sigB : FwVerdict) : State :=
  if s.stage ≠ .on ∨ s.glb.fwOk then s
  else
    let p := s.nor.fw
    let newB := p.newer
    let pass := fun (b : Bool) => if b then s.fwPass p.b sigB else s.fwPass p.a sigA
    let img := fun (b : Bool) => match (if b then p.b else p.a) with | some (_, i) => i | none => {}
    if pass newB then s.fwStart newB (img newB)
    else if pass (!newB) then (s.fwStart (!newB) (img (!newB))).raise Code.firmwareFallback Ty.glb 0
    else s.toSafe causeFw Code.burstAbortSafe

def execFwVerifyDone (sigA sigB : FwVerdict) (s : State) : Host.Outcome State Fault Refusal := .next (s.fwVerify sigA sigB)

/-! ### Input events (R46 to R50, 03 R54 to R56, R63) -/

/-- Steps 1 to 3 of R46: bursts abort with BURST_ABORT_POWER, SAFE is entered, no NOR write starts, load shedding
begins unless it has (03 R63). -/
def State.powerSteps (s : State) (m : Nat) : State :=
  let s1 := s.toSafe m Code.burstAbortPower
  if s1.pwr.shed ∨ s1.pwr.shedDue then s1.modPwr (fun p => { p with norHold := true })
  else (s1.modPwr (fun p => { p with norHold := true, shedDue := true })).cause Ty.pwr 0 16

/-- POWER_FAIL_WARNING: the input falls to `vin` mV, below 33 V. A mode request accepted in the same CCLK cycle is rejected
with MODE_BUSY (R52). -/
def State.powerWarn (s : State) (vin : Nat) : State :=
  if s.stage ≠ .on ∨ 33000 ≤ vin ∨ s.glb.pwrWarn then s
  else
    let s1 := (s.modPwr (fun p => { p.input vin with cntUv := satAdd sat8 p.cntUv 1 })).modGlb (fun g => { g with pwrWarn := true })
    let s2 := s1.modSmb (fun x => { x with stInput := setBit x.stInput 5 })
    let s3 := when (s.glb.reqAt.any (fun t => s.uptime / 16 == t / 16)) (fun t => (t.modGlb (fun g => { g with safeReq := false })).modeReject Code.modeBusy) s2
    ((s3.cause Ty.pwr 0 1).raise Code.pwrWarn Ty.pwr 0).powerSteps causePower

def execPowerFailWarning (vin : Nat) (s : State) : Host.Outcome State Fault Refusal := .next (s.powerWarn vin)

/-- LOAD_SHED_DONE: HBM in self-refresh, the analog dies powered down (R46). -/
def State.shedDone (s : State) : State :=
  if ¬ s.pwr.shedDue ∨ s.stage ≠ .on then s
  else
    let s1 := s.modPwr (fun p => { p with shedDue := false, shed := true, analogOff := true })
    forEach [0, 1, 2] (fun i t => t.modHbm i (fun h => { h with selfRefresh := true })) s1

def execLoadShedDone (s : State) : Host.Outcome State Fault Refusal := .next s.shedDone

/-- POWER_WARN_RELEASE: the input rises to 34 V (R47). -/
def execPowerWarnRelease (vin : Nat) (s : State) : Host.Outcome State Fault Refusal :=
  .next (if s.glb.pwrWarn ∧ 34000 ≤ vin then
      (s.modPwr (fun p => p.input vin)).modGlb (fun g => { g with pwrWarn := false })
    else s)

/-- The power stage stops: OFF; an interrupted NOR write leaves the previous slot (R48). -/
def State.powerOff (s : State) : State :=
  let s1 := s.updateAbandon.modNor (fun n => { n with writing := none, todo := [], owed := [], fwStage := none, mcStage := none })
  { s1 with
    stage := .off, link0 := false, link1 := false, everLocked := false
    pwr := { s1.pwr with stopDue := false } }

/-- UNDERVOLTAGE_LOCKOUT: the input falls below 32 V. -/
def execUndervoltageLockout (vin : Nat) (s : State) : Host.Outcome State Fault Refusal :=
  .next (if vin < 32000 ∧ s.stage ≠ .off then s.powerOff.modPwr (fun p => p.input vin)
    else if vin < 32000 then s.modPwr (fun p => p.input vin) else s)

/-- PWR_EN_LOW: a forced shutdown, handled as a power-fail warning (R50). In soft-start the power stage stops at once. -/
def State.pwrEnLow (s : State) : State :=
  if ¬ s.pwr.en then s
  else
    let s1 := s.modPwr (fun p => { p with en := false })
    match s1.stage with
    | .off => s1
    | .starting => s1.powerOff
    | .on => ((s1.cause Ty.pwr 0 32).powerSteps causePower).modPwr (fun p =>
        if p.stopDue then p else { p with stopDue := true, stopAt := s.up })

def execPwrEnLow (s : State) : Host.Outcome State Fault Refusal := .next s.pwrEnLow

/-- POWER_STAGE_STOP: 2 ms after PWR_EN went low, or once no NOR write runs; with PWR_EN high again and the lockout
released a new power-up starts at once (R50). -/
def State.stageStop (s : State) : State :=
  if ¬ s.pwr.stopDue ∨ s.stage ≠ .on ∨ (s.nor.writing.isSome ∧ s.up < s.pwr.stopAt + 2 * fsMs) then s
  else
    let s1 := s.powerOff
    if s1.pwr.en ∧ ¬ s1.pwr.uvlo then { s1 with stage := .starting } else s1

def execPowerStageStop (s : State) : Host.Outcome State Fault Refusal := .next s.stageStop

/-- PWR_OVERCURRENT (03 R54). -/
def State.overCurrent (s : State) : State :=
  if s.stage ≠ .on then s
  else
    let s1 := (s.modPwr (fun p => { p with oc := true, cntOc := satAdd sat8 p.cntOc 1 })).modSmb
      (fun x => { x with stInput := setBit x.stInput 2 })
    ((s1.cause Ty.pwr 0 4).raise Code.pwrOvercurrent Ty.pwr 0).powerSteps causeFatal

def execPwrOvercurrent (s : State) : Host.Outcome State Fault Refusal := .next s.overCurrent

/-- PWR_OVERVOLTAGE: the input rises to `vin` mV, through 77 V (03 R55). -/
def State.overVoltage (s : State) (vin : Nat) : State :=
  if s.stage ≠ .on ∨ vin < 77000 ∨ s.pwr.ov then s
  else
    let s1 := (s.modPwr (fun p => { p.input vin with ov := true, cntOv := satAdd sat8 p.cntOv 1 })).modSmb
      (fun x => { x with stInput := setBit x.stInput 7 })
    ((s1.cause Ty.pwr 0 2).raise Code.pwrOvervoltage Ty.pwr 0).powerSteps causePower

def execPwrOvervoltage (vin : Nat) (s : State) : Host.Outcome State Fault Refusal := .next (s.overVoltage vin)

/-- PWR_OV_RELEASE: the input falls to `vin` mV, below 76 V. -/
def execPwrOvRelease (vin : Nat) (s : State) : Host.Outcome State Fault Refusal :=
  .next (if s.pwr.ov ∧ vin < 76000 then s.modPwr (fun p => { p.input vin with ov := false }) else s)

/-- PWR_OVERTEMP (03 R56). -/
def State.overTemp (s : State) : State :=
  if s.stage ≠ .on ∨ s.pwr.ot then s
  else
    let s1 := (s.modPwr (fun p => { p with ot := true, cntOt := satAdd sat8 p.cntOt 1 })).modSmb
      (fun x => { x with stTemp := Tbl.upd 0 x.stTemp 0 (fun v => setBit v 7) })
    ((s1.cause Ty.pwr 0 8).raise Code.pwrOvertemp Ty.pwr 0).powerSteps causeFatal

def execPwrOvertemp (s : State) : Host.Outcome State Fault Refusal := .next s.overTemp

/-- PWR_OT_CLEAR. -/
def execPwrOtClear (s : State) : Host.Outcome State Fault Refusal :=
  .next (s.modPwr (fun p => { p with ot := false }))

/-! ### Telemetry and PMBus (03 R61, R62) -/

/-- °C in the units of temperature registers. -/
def degC (n : Int) : Int := n * 1024

/-- The over-temperature warning condition of a page. -/
def pageHot (page : Nat) (t : Int) : Bool := decide ((if page = 0 then degC 115 else degC 110) ≤ t)
/-- The over-temperature fault condition of a page: the power stage, or the thermal shutdown of a region. -/
def State.pageFault (s : State) (page : Nat) (t : Int) : Bool :=
  (page == 0 && decide (degC 125 ≤ t)) || (decide (2 ≤ page ∧ page ≤ 5) && (s.rgn (page - 2)).shutdown)

/-- TELEMETRY_REFRESH: input voltage (mV), current (mA), power (mW), group powers (mW) and page temperatures
(1/1,024 °C) as measured, and the REFCLK error (0.01 ppm). -/
def State.telemetry (s : State) (mv ma mw : Nat) (groups : List Nat) (temps : List Int) (ppm : Int) : State :=
  if s.stage ≠ .on then s
  else
    let g := (List.range 7).foldl (fun t i => Tbl.set 0 t (i + 1) (groups.getD i 0)) []
    let tt := (List.range 8).foldl (fun t i => Tbl.set 0 t i (temps.getD i 0)) []
    let s1 := (s.modPwr (fun p => { p.input mv with mv := mv, ma := ma, mw := mw, groups := g, temps := tt })).modClk
      (fun c => { c with ppm := clampI (-32767) 32767 ppm })
    s1.modSmb (fun x => { x with
      stTemp := (List.range 8).foldl (fun t p => Tbl.upd 0 t p (fun v =>
        (if s1.pageFault p (temps.getD p 0) then setBit v 7 else v) ||| (if pageHot p (temps.getD p 0) then 64 else 0))) x.stTemp })

def execTelemetryRefresh (mv ma mw : Nat) (groups : List Nat) (temps : List Int) (ppm : Int) (s : State) :
    Host.Outcome State Fault Refusal := .next (s.telemetry mv ma mw groups temps ppm)

/-- Mantissa and exponent of LINEAR11 for `v` thousandths: the smallest exponent whose mantissa fits 11 bits. -/
def lin11 (v : Int) : Nat :=
  let mant := fun (e : Int) => if e < 0 then roundDiv (v * (2 ^ (-e).toNat : Nat)) 1000 else roundDiv v (1000 * (2 ^ e.toNat : Nat))
  let e := ((List.range 32).map (fun (i : Nat) => (i : Int) - 16)).find? (fun e => decide (-1024 ≤ mant e ∧ mant e ≤ 1023))
  let e := e.getD 15
  tc 11 (mant e) + 2048 * tc 5 e

/-- A PMBus page's STATUS_WORD, bits as PMBus 1.4 numbers them. -/
def State.statusWord (s : State) (page : Nat) : Nat :=
  let x := s.smb
  let t := Tbl.get 0 x.stTemp page
  let inp := page = 0 ∧ x.stInput ≠ 0
  b2n (decide inp) + (if page = 0 ∧ bit x.stInput 4 then 8 else 0) + (if t ≠ 0 then 4 else 0) + (if x.stCml ≠ 0 then 2 else 0)
    + (if inp then 8192 else 0)
/-- SMB_ALERT_N is low (R62). -/
def State.smbAlert (s : State) : Bool := (List.range 8).any (fun p => s.statusWord p != 0)

/-- A PMBus transaction answered while the module is powered. -/
def State.onPmbus (s : State) (op : State → State) : State :=
  if s.stage = .on ∧ s.jtag.hold.isNone ∧ ¬ s.jtag.released then op s else s
/-- A command not acknowledged; `b` is the STATUS_CML bit it sets. -/
def State.nack (s : State) (b : Nat) : State := (s.modSmb (fun x => { x with stCml := setBit x.stCml b })).emit .nack
/-- A read answered with `n` bytes on the pages that support it, else a NACK (R61). -/
def State.pmRead (s : State) (pages : List Nat) (n : Nat) (v : State → Nat) : State :=
  s.onPmbus (fun t => if pages.contains t.smb.page then t.emit (.smbus (le n (v t))) else t.nack 7)

def allPages : List Nat := [0, 1, 2, 3, 4, 5, 6, 7]

/-- PAGE read (none) or written. -/
def execPage (v : Option Nat) (s : State) : Host.Outcome State Fault Refusal :=
  .next (s.onPmbus (fun t => match v with
    | none => t.emit (.smbus (le 1 t.smb.page))
    | some p => if p < 8 then t.modSmb (fun x => { x with page := p }) else t.nack 6))

/-- A sensor of a page's die has last read 110 °C or more: the digital-die sensors for page 1, the cluster sensors of the
analog die for pages 2 to 5. -/
def State.sensorHot (s : State) (page : Nat) : Bool :=
  (page == 1 && (List.range 4).any (fun r => decide (degC 110 ≤ Tbl.get 0 (s.rgn r).sensors 6)))
    || (decide (2 ≤ page ∧ page ≤ 5) && (List.range 6).any (fun i => decide (degC 110 ≤ Tbl.get 0 (s.rgn (page - 2)).sensors i)))

/-- CLEAR_FAULTS clears the bits whose condition has ended. -/
def State.clearFaults (s : State) : State :=
  s.modSmb (fun x => { x with
    stInput := (if s.glb.pwrWarn then x.stInput &&& 32 else 0) ||| (if s.pwr.ov then x.stInput &&& 128 else 0)
    stCml := 0
    stTemp := (List.range 8).foldl (fun t p =>
      let v := Tbl.get 0 x.stTemp p
      let tmp := Tbl.get 0 s.pwr.temps p
      Tbl.set 0 t p ((if s.pageFault p tmp ∨ (p = 0 ∧ s.pwr.ot) then v &&& 128 else 0)
        ||| (if pageHot p tmp ∨ s.sensorHot p then v &&& 64 else 0))) [] })

def execClearFaults (s : State) : Host.Outcome State Fault Refusal := .next (s.onPmbus State.clearFaults)
def execCapability (s : State) : Host.Outcome State Fault Refusal := .next (s.pmRead allPages 1 (fun _ => 0xD0))
def execVinOvFaultLimit (s : State) : Host.Outcome State Fault Refusal := .next (s.pmRead [0] 2 (fun _ => lin11 77000))
def execVinUvWarnLimit (s : State) : Host.Outcome State Fault Refusal := .next (s.pmRead [0] 2 (fun _ => lin11 33000))
def execVinUvFaultLimit (s : State) : Host.Outcome State Fault Refusal := .next (s.pmRead [0] 2 (fun _ => lin11 32000))
def execStatusByte (s : State) : Host.Outcome State Fault Refusal :=
  .next (s.pmRead allPages 1 (fun t => t.statusWord t.smb.page % 256))
def execStatusWord (s : State) : Host.Outcome State Fault Refusal :=
  .next (s.pmRead allPages 2 (fun t => t.statusWord t.smb.page))
def execStatusInput (s : State) : Host.Outcome State Fault Refusal := .next (s.pmRead [0] 1 (fun t => t.smb.stInput))
def execStatusTemperature (s : State) : Host.Outcome State Fault Refusal :=
  .next (s.pmRead allPages 1 (fun t => Tbl.get 0 t.smb.stTemp t.smb.page))
def execStatusCml (s : State) : Host.Outcome State Fault Refusal := .next (s.pmRead allPages 1 (fun t => t.smb.stCml))
def execReadVin (s : State) : Host.Outcome State Fault Refusal := .next (s.pmRead [0] 2 (fun t => lin11 t.pwr.mv))
def execReadIin (s : State) : Host.Outcome State Fault Refusal := .next (s.pmRead [0] 2 (fun t => lin11 t.pwr.ma))
def execReadTemperature1 (s : State) : Host.Outcome State Fault Refusal :=
  .next (s.pmRead allPages 2 (fun t => lin11 (roundDiv (Tbl.get 0 t.pwr.temps t.smb.page * 1000) 1024)))
def execReadPout (s : State) : Host.Outcome State Fault Refusal :=
  .next (s.pmRead [1, 2, 3, 4, 5, 6, 7] 2 (fun t => lin11 ((Tbl.get 0 t.pwr.groups t.smb.page : Nat) : Int)))
def execReadPin (s : State) : Host.Outcome State Fault Refusal := .next (s.pmRead [0] 2 (fun t => lin11 t.pwr.mw))
def execPmbusRevision (s : State) : Host.Outcome State Fault Refusal := .next (s.pmRead allPages 1 (fun _ => 0x44))

/-- MFR_ID, returned as its characters. -/
def execMfrId (s : State) : Host.Outcome State Fault Refusal :=
  .next (s.onPmbus (fun t => t.emit (.smbus (ascii ['F', 'O', 'Y', 'R', 'I', 'S']))))
def modelName (grade08 : Bool) : List Byte :=
  ascii (['K', 'V', 'X', '-', 'Q', '1', '9', '2', '-', '4', '8', 'L', '-'] ++ if grade08 then ['0', '8'] else ['1', '6'])
def execMfrModel (s : State) : Host.Outcome State Fault Refusal :=
  .next (s.onPmbus (fun t => t.emit (.smbus (modelName t.grade08))))
/-- PMBUS_INVALID: `kind` 0 an unsupported command, 1 a write to a read-only command, 2 a PEC mismatch. -/
def execPmbusInvalid (kind : Nat) (s : State) : Host.Outcome State Fault Refusal :=
  onUnit (decide (kind < 3)) (s.onPmbus (fun t => t.nack (if kind = 0 then 7 else if kind = 1 then 6 else 5)))
/-- SMBUS_ALERT_RESPONSE: the module answers with its address. -/
def execSmbusAlertResponse (s : State) : Host.Outcome State Fault Refusal :=
  .next (s.onPmbus (fun t => if t.smbAlert then t.emit (.smbus (le 1 (2 * (0x58 + t.smbAddr)))) else t))
/-- SMBUS_TIMEOUT: the transaction in progress is dropped (16 R349); a transaction of this model is one command, so none
is in progress between commands. -/
def execSmbusTimeout (s : State) : Host.Outcome State Fault Refusal := .next s

/-! ### Clocks (03 R69, R71, R72) -/

/-- Calibration runs that are due begin their common step (14 R284, R302). -/
def State.calBegin (s : State) : State :=
  forEach [0, 1, 2, 3] (fun r t => if (t.cal r).state = 1 then t.modCal r (fun c => { c with state := 2 }) else t) s

/-- One root edge: the model's time advances; TT advances from the first PLL lock on, holdover included (R69). The MADC
conversions whose hold instant it is take what they find (12 R250), region loaders go on with an install (07 R148), and a
calibration run that is due begins (14 R302). -/
def State.rootEdge (s : State) : State :=
  ({ s with uptime := s.uptime + 1, root := if s.everLocked then (s.root + 1) % 2 ^ 64 else s.root } :
    State).madcSample.installStep.calBegin

/-- A region measures timing terms now: its common step or a cluster step is in progress. -/
def State.calMeasures (s : State) (r : Nat) : Bool :=
  (s.cal r).state == 2 || (clusOfRgn r).any (fun k => (s.clu k).step)
/-- PLL holdover: a run that measures fails with CAL_CLOCK (14 R283). -/
def State.calClock (s : State) : State :=
  forEach [0, 1, 2, 3] (fun r t =>
    if t.calMeasures r then (t.calFail r Code.calClock).raise Code.calClock Ty.cal r else t) s

/-- A clock fault: holdover, TT not aligned until a new TIME_LOAD, so a slew in progress sets nothing at its end (R71,
R72), SAFE. -/
def State.clockFault (s : State) (code m : Nat) : State :=
  let s1 := ((s.modClk (fun c => { c with locked := false, holdover := true, ttAligned := false })).modGlb
    (fun g => { g with pllLock := false })).modSync (fun x => { x with stale := true })
  ((s1.cause Ty.clk 0 m).raise code Ty.clk 0).calClock.toSafe causeClock Code.burstAbortSafe

/-- CLOCK_LOSS. -/
def State.clockLoss (s : State) : State :=
  if s.stage ≠ .on ∨ ¬ s.everLocked ∨ s.clk.refLost then s
  else (s.modClk (fun c => { c with refclkOk := false, refLost := true, cntLoss := satAdd sat16 c.cntLoss 1 })).clockFault
    Code.clockLoss 1

def execClockLoss (s : State) : Host.Outcome State Fault Refusal := .next s.clockLoss

/-- PLL_UNLOCK with REFCLK valid. -/
def State.pllUnlock (s : State) : State :=
  if s.stage ≠ .on ∨ ¬ s.clk.locked ∨ ¬ s.clk.refclkOk then s
  else (s.modClk (fun c => { c with cntUnlock := satAdd sat16 c.cntUnlock 1 })).clockFault Code.pllUnlock 2

def execPllUnlock (s : State) : Host.Outcome State Fault Refusal := .next s.pllUnlock

/-- PLL_RELOCK; while BOOT is 1 the module clears CLOCK itself (02 R37). -/
def State.pllRelock (s : State) : State :=
  if s.stage ≠ .on ∨ ¬ s.everLocked ∨ s.clk.locked ∨ ¬ s.clk.refclkOk then s
  else
    let s1 := (s.modClk (fun c => { c with locked := true, holdover := false })).modGlb (fun g => { g with
      pllLock := true, cause := if bit g.cause 0 then clearMask g.cause causeClock else g.cause })
    s1.cause Ty.clk 0 4

def execPllRelock (s : State) : Host.Outcome State Fault Refusal := .next s.pllRelock

/-- REFCLK_RETURN. -/
def execRefclkReturn (s : State) : Host.Outcome State Fault Refusal :=
  .next (if s.clk.refLost then s.modClk (fun c => { c with refLost := false, refclkOk := true }) else s)

/-! ### Solder links (01 R19, R20) -/

/-- LINK_RETRY on link d (0 to 3 AD_0 to AD_3, 4 to 6 HBM_0 to HBM_2, 7 NOR). -/
def execLinkRetry (d : Nat) (s : State) : Host.Outcome State Fault Refusal :=
  onUnit (decide (d < 8)) (s.modHlth (fun h => { h with retries := Tbl.upd 0 h.retries d (fun n => satAdd sat32 n 1) }))

/-- LINK_DOWN of a link. -/
def execLinkDown (d : Nat) (s : State) : Host.Outcome State Fault Refusal :=
  onUnit (decide (d < 8)) (
    if s.stage ≠ .on then s
    else ((s.modGlb (fun g => { g with linksDown := setBit g.linksDown d })).raise Code.linkDown Ty.hlth 0).toSafe
      causeLink Code.burstAbortSafe)

end Sys2Proof.Machine
end

