-- ==== Sys2Proof/Machine/Faults.lean ====
section
/-! DEFINITION. Family: transients, retirement and spare slices (18 R383 to R390, 01 R13, R14, R427), MADC conversions
(12 R250, 18 R388), region thermal protection (19 R417, R418). -/

namespace Sys2Proof.Machine

/-! ### Units by kind, as ERR_CTRL.CLR_KIND numbers them; 6 a bank, 7 an HBM stack, 8 the
security engine -/

abbrev kEngine : Nat := 1
abbrev kSlice : Nat := 2
abbrev kChannel : Nat := 3
abbrev kMadc : Nat := 4
abbrev kSpine : Nat := 5
abbrev kBank : Nat := 6
abbrev kStack : Nat := 7
abbrev kSecurity : Nat := 8
def unitKey (kind i : Nat) : Nat := kind * 256 + i
/-- Units of a kind (18 R401). -/
def unitCount (kind : Nat) : Nat :=
  match kind with | 1 => 96 | 2 => 216 | 3 => 192 | 4 => 24 | 5 => 24 | _ => 0

/-- The four pages of a retired channel; no spare is to take its lane. -/
def State.channelPages (s : State) (ch : Nat) : State :=
  (forEach [Ty.tg, Ty.cmp, Ty.pe, Ty.lvl] (fun ty t => t.modHdr ty ch (fun h => { h with retired := true })) s).modClu
    (cluOf ch) (fun k => if k.spareWait = some (laneOf ch) then { k with spareWait := none } else k)

/-- An analog channel out of service: held Hi-Z, compares masked (R14, R385). -/
def State.channelHold (s : State) (ch : Nat) : State :=
  (s.hizStart false ch).modChan ch (fun c => { c with held := true, outDue := false })

/-- The four pages of a channel, and its analog channel. -/
def State.channelOut (s : State) (ch : Nat) : State := (s.channelPages ch).channelHold ch

/-- A fault of the channel's slice that sets an abort point of its site starts its hold there (R13): one is ahead. -/
def State.abortAhead (s : State) (ch : Nat) : Bool :=
  let o := s.chOwner ch
  decide (o < 16) && ((s.site o).st == .running || (s.site o).st == .draining
    || ((s.site o).st == .aborted && !(s.site o).abortDone))

/-- The key's unit is marked retired and the RETIRE record is to be written (R389). -/
def State.markRetired (s : State) (key : Nat) : State := (s.modFault key (fun f => { f with retired := true })).norWrite 6

/-- A unit armed on the comparators of a retired channel disarms (13 R278). -/
def State.acqLaneGone (s : State) (ch : Nat) : State :=
  let a := s.acq (cluOf ch)
  when ((a.state == 2 || a.state == 3) && decide (a.ty < 5) && !a.fromMadc && a.lane == laneOf ch)
    (fun t => t.acqDisarm (cluOf ch)) s

/-- An analog channel is retired: CH_RETIRED goes to its site. `late`: its hold starts at the abort point to come. -/
def State.retireChannel (s : State) (ch : Nat) (late : Bool := false) : State :=
  if (s.fault (unitKey kChannel ch)).retired then s
  else
    let s1 := s.markRetired (unitKey kChannel ch)
    let s2 := if late then (s1.channelPages ch).modChan ch (fun c => { c with outDue := true }) else s1.channelOut ch
    (s2.acqLaneGone ch).raise Code.chRetired Ty.pe ch (siteOpt (s.chOwner ch)) (kChannel + 256 * ch)

/-- The spare slice of a cluster is in service and serves no lane. -/
def Clu.spareFree (k : Clu) : Bool := !bit k.retired 8 && k.spareFor == 8 && k.spareWait.isNone

/-- The site an error of a digital slice is attributable to: the owner of the channel it serves (DEDUCED). -/
def State.sliceSite (s : State) (k n : Nat) : Option Nat :=
  let lane := if n = 8 then (s.clu k).spareFor else n
  if lane < 8 then siteOpt (s.chOwner (8 * k + lane)) else none

/-- A digital slice is retired: the spare is to take its lane, else the lane's analog channel is retired (R13, R14,
R385). `hold` says whether the lane is held at once, or at the abort point the fault sets for its site. -/
def State.retireSlice (s : State) (k n : Nat) (hold : Bool) : State :=
  let x := s.clu k
  let s1 := ((s.markRetired (unitKey kSlice (9 * k + n))).modClu k (fun x => { x with retired := setBit x.retired n })).raise
    Code.unitRetired Ty.clu k (s.sliceSite k n) (kSlice + 256 * (9 * k + n))
  if n = 8 then
    let lanes := (if x.spareFor < 8 then [x.spareFor] else []) ++ x.spareWait.toList
    forEach lanes (fun l t => t.retireChannel (8 * k + l) (!hold && s.abortAhead (8 * k + l)))
      (s1.modClu k (fun x => { x with spareFor := 8, spareWait := none }))
  else
    let late := !hold && s.abortAhead (8 * k + n)
    if x.spareFree then
      (s1.modClu k (fun x => { x with spareWait := some n })).modChan (8 * k + n) (fun c =>
        { c with held := c.held || !late, outDue := c.outDue || late })
    else s1.retireChannel (8 * k + n) late

/-- The permanent effect on a unit; the table does not list the security engine, and a failed internal check of its is fatal
(R385). -/
def State.retireUnit (s : State) (kind i : Nat) (hold : Bool) : State :=
  match kind with
  | 1 => (((s.markRetired (unitKey 1 i)).modHdr Ty.te i (fun h => { h with retired := true })).raise Code.unitRetired Ty.te i none
      (1 + 256 * i)).cause Ty.te i 4
  | 2 => s.retireSlice (i / 9) (i % 9) hold
  | 3 => s.retireChannel i
  | 4 =>
    (((s.markRetired (unitKey 4 i)).modHdr Ty.madc i (fun h => { h with retired := true })).madcStop i |>.modClu i
      (fun k => { k with recovery := true })).raise Code.unitRetired Ty.madc i (siteOpt (s.hdr Ty.madc i).owner) (4 + 256 * i)
  | 5 =>
    forEach (chansOfClu i) (fun ch t => t.retireChannel ch)
      (((s.markRetired (unitKey 5 i)).modClu i (fun k => { k with recovery := true })).raise Code.unitRetired Ty.clu i none (5 + 256 * i))
  | 6 => (s.raise Code.bmemBankFail Ty.bmem 0).toSafe causeFatal Code.burstAbortSafe
  | 7 => ((s.modHbm i (fun h => { h with failed := true })).raise Code.hbmStackFail Ty.hbm i).toSafe causeFatal Code.burstAbortSafe
  | _ => (s.raise Code.fatalInternal Ty.sec 0).toSafe causeFatal Code.burstAbortSafe

/-- Transients of the unit already counted in the 10 s up to the present TT; one counted earlier in the same cycle is
among them (R383, R400; DEDUCED, log entry 57). -/
def State.recent (s : State) (key : Nat) : Nat :=
  ((s.fault key).times.filter (fun t => ttLe t s.now && ttLe s.now (t + 10 * fsSec))).length

/-- The unit's next transient is its permanent fault. -/
def State.permanent (s : State) (key : Nat) (retryFailed : Bool) : Bool := retryFailed || decide (2 ≤ s.recent key)

/-- A transient charged to a unit: logged with TT `tt`, counted, and the unit retired when the fault is permanent (R383,
R384). `ty` and `inst` are the source page. -/
def State.transientAt (s : State) (tt kind i code ty inst : Nat) (site : Option Nat) (detail : Nat) (retryFailed hold : Bool) : State :=
  let key := unitKey kind i
  if (s.fault key).retired then s.raiseAt tt code ty inst site detail false false
  else
    let perm := s.permanent key retryFailed
    let s1 := (s.raiseAt tt code ty inst site detail true perm).modFault key (fun f => { f with
      times := s.now :: f.times })
    if perm then s1.retireUnit kind i hold else s1

/-- A transient of the present TT. -/
def State.transient (s : State) (kind i code ty inst : Nat) (site : Option Nat) (detail : Nat) (retryFailed hold : Bool) : State :=
  s.transientAt s.now kind i code ty inst site detail retryFailed hold

/-! ### Abort point (02 R39, 08 R159) -/

/-- ABORT_POINT: 32 ns after ABORTED entry no UI plays, compares are masked, each channel holds or goes Hi-Z; a lane
whose retirement waits for this point is held from it (01 R13). -/
def State.abortPointStep (s : State) (st : Nat) : State :=
  let x := s.site st
  match x.abortT with
  | none => s
  | some t =>
    if x.abortDone ∨ ¬ ttLe (t + 32 * fsNs) s.now then s
    else
      let s1 := s.modSite st (fun x => { x with abortDone := true })
      forEach (s1.siteChans st) (fun ch u =>
        let u1 := u.modChan ch (fun c => { c with
          fifo := [], hard := true, play := c.play.filter (fun p => ttLt (c.uiStart p.blk.tt p.blk.seq p.k) (t + 32 * fsNs)) })
        let u2 := when (u1.chan ch).outDue (fun v => v.channelHold ch) u1
        when ((x.lateHiz || decide (3 ≤ x.abortCause) || (u.rgn (rgnOfCh ch)).shutdown || (u2.chan ch).hizDue.isSome)
            && (u2.chan ch).hiz.isNone)
          (fun v => v.hizStart ((u2.chan ch).hizDue.getD false) ch) u2) s1

def execAbortPoint (st : Nat) (s : State) : Host.Outcome State Fault Refusal :=
  onUnit (decide (st < nSite)) (s.abortPointStep st)

/-! ### Spare slices -/

/-- A run that owes one lane's step alone begins: no common step, no MADC part (14 R285). A holdoff goes on after it. -/
def Cal.spareStart (c : Cal) (lane up : Nat) : Cal :=
  { c with
    state := 3, todo := setBit 0 lane, common := true, spareOnly := true, failed := false, done := 0, startAt := up, madcDone := 63 }

/-- A lane's step becomes due, gradually applied (14 R297, R301), in the run in progress or by itself. Where no run may
become due (R285) the lane is deferred: the specification does not say what becomes of its step (DESIGN CHOICE, log entry
55). -/
def State.laneDue (s : State) (ch : Nat) : State :=
  let r := rgnOfCh ch
  let ok := s.calAllowed r
  let s1 := s.modClu (cluOf ch) (fun k => { k with lanes := Tbl.upd {} k.lanes (laneOf ch) (fun l => { l with
    gradual := true, deferred := l.deferred || !ok }) })
  when ok (fun t => t.modCal r (fun c =>
    if 1 ≤ c.state ∧ c.state ≤ 4 then { c with todo := setBit c.todo (ch % 48) } else c.spareStart (ch % 48) s.up)) s1

/-- A slice returns to service, or takes over a lane, with no failed step behind it (14 R294). -/
def Clu.sliceFresh (x : Clu) (n : Nat) : Clu :=
  { x with lanes := Tbl.upd {} x.lanes (if n = 8 then x.spareFor else n) (fun l => { l with sliceFailed := false }) }

/-- SPARE_SWITCH: with the owning site IDLE the spare takes the lane, its configuration copied (R13); the lane's
calibration step is due. -/
def State.spareSwitch (s : State) (k : Nat) : State :=
  match (s.clu k).spareWait with
  | none => s
  | some n =>
    let ch := 8 * k + n
    if ¬ s.siteIdle (s.chOwner ch) ∨ (s.hdr Ty.pe ch).retired then s
    else
      let s1 := (s.modClu k (fun x => ({ x with spareFor := n, spareWait := none } : Clu).sliceFresh 8)).modChan ch (fun c => { c with held := false, outDue := false })
      (((s1.raise Code.sliceSpared Ty.clu k (siteOpt (s.chOwner ch)) (kSlice + 256 * (9 * k + n))).cause Ty.clu k 1).laneDue ch).modCal (rgnOfClu k) (fun c =>
        { c with gradualNext := true })

def execSpareSwitch (k : Nat) (s : State) : Host.Outcome State Fault Refusal :=
  onUnit (decide (k < nClu)) (s.spareSwitch k)

/-- The slice that serves a channel, as a unit index (R13). -/
def State.sliceOf (s : State) (ch : Nat) : Nat :=
  let k := cluOf ch
  9 * k + (if (s.clu k).spareFor = laneOf ch then 8 else laneOf ch)

/-! ### Retirement records (R389, R427) -/

/-- The spare slice of a cluster at power-up. No site owns a channel then, and the specification does not say that a lane
it retires makes a CH_RETIRED entry: the model logs none (DESIGN CHOICE, log entry 55). -/
def State.assignSpare (s : State) (k : Nat) : State :=
  let x := s.clu k
  let out := fun (n : Nat) => (s.hdr Ty.pe (8 * k + n)).retired
  let need := (bitList x.retired 8).filter (fun n => !out n)
  let chosen := if bit x.retired 8 then none else need.head?
  let s1 := s.modClu k (fun x => { x with spareFor := chosen.getD 8 })
  forEach (need.filter (fun n => chosen != some n)) (fun n t =>
    ((t.modFault (unitKey kChannel (8 * k + n)) (fun f => { f with retired := true })).channelOut (8 * k + n)).norWrite 6) s1

/-- One retired unit of the record is applied, without a log entry. -/
def State.applyRetired (s : State) (key : Nat) : State :=
  let i := key % 256
  let s1 := s.modFault key (fun f => { f with retired := true })
  match key / 256 with
  | 1 => s1.modHdr Ty.te i (fun h => { h with retired := true })
  | 2 => s1.modClu (i / 9) (fun x => { x with retired := setBit x.retired (i % 9) })
  | 3 => s1.channelOut i
  | 4 => s1.modHdr Ty.madc i (fun h => { h with retired := true })
  | 5 => forEach (chansOfClu i) (fun ch t => t.channelOut ch) s1
  | _ => s

/-- RETIRE_LOAD (02 R40). -/
def State.retireLoad (s : State) : State :=
  if s.stage ≠ .on ∨ ¬ s.glb.fwOk ∨ s.glb.retireLoaded then s
  else
    let keys := match s.nor.retSlots.newest with | some (_, l) => l | none => []
    let s1 := forEach keys (fun key t => t.applyRetired key) s
    (forEach (List.range nClu) (fun k t => t.assignSpare k) s1).modGlb (fun g => { g with retireLoaded := true })

def execRetireLoad (s : State) : Host.Outcome State Fault Refusal := .next s.retireLoad

/-- The retired units, as the RETIRE record holds them. -/
def State.retiredUnits (s : State) : List Nat := (s.faults.filter (fun p => p.2.retired)).map (·.1)

/-- An analog channel's retirement is cleared (R390). -/
def State.clearChannel (s : State) (ch : Nat) : State :=
  let k := s.clu (cluOf ch)
  let n := laneOf ch
  if bit k.retired n ∧ k.spareFor ≠ n then s
  else
    let s1 := forEach [Ty.tg, Ty.cmp, Ty.pe, Ty.lvl] (fun ty t => t.modHdr ty ch (fun h => { h with retired := false })) s
    (((s1.powerUpPins ch).modChan ch (fun c => { c with held := false })).modClu (cluOf ch) (fun k => { k with
      lanes := Tbl.upd {} k.lanes n (fun l => { l with chFailed := false }) })).laneDue ch

/-- A retirement clear by ERR_CTRL (R390, R401). -/
def State.retireClear (s : State) (kind i : Nat) : State :=
  if s.glb.mode ≠ .service ∨ s.glb.busy then s.raise Code.svcMode Ty.err 0
  else if 5 < kind ∨ unitCount kind ≤ i then s.raise Code.paramRange Ty.err 0
  else if ¬ (s.fault (unitKey kind i)).retired then s
  else
    let s1 := ((s.modFault (unitKey kind i) (fun _ => {})).norWrite 6).raise Code.retireCleared Ty.err 0 none (kind + 256 * i)
    match kind with
    | 1 => (s1.modHdr Ty.te i (fun h => { h with retired := false })).modTe i (fun e => { e with
          reload := true, lastSite := none, reloadCode := Code.mcParity, reloadSite := none, reloadAddr := 0 })
        |>.modRgn (rgnOfTe i) (fun r => { r with
          reloads := r.reloads ++ [i], holding := r.holding.filter (· != i), loaderState := 3, reloadAt := if r.reloads = [] then s.up else r.reloadAt })
    | 2 => s1.modClu (i / 9) (fun x =>
        let x := x.sliceFresh (i % 9)
        if x.spareFor = i % 9 ∨ x.spareWait = some (i % 9) then x else { x with retired := clearMask x.retired (2 ^ (i % 9)) })
    | 3 => s1.clearChannel i
    | 4 => (s1.modHdr Ty.madc i (fun h => { h with retired := false, en := true, irqStatus := 0, irqEnable := 0, errCount := 0, lastCode := 0 })).modMadc i
        (fun m => { ({} : Madc) with cal := m.cal, calNext := m.calNext }) |>.modClu i (fun x => { x with madcFailed := false })
    | 5 => forEach (chansOfClu i) (fun ch t =>
        (t.modFault (unitKey kChannel ch) (fun _ => {})).clearChannel ch) (s1.modClu i (fun x => { x with spineFailed := false }))
    | _ => s1

/-- A write of ERR_CTRL: QUEUE and VALID under R425, then a clear. -/
def State.wErrCtrl (s : State) (fn val : Nat) : State :=
  let q := bits val 0 20
  let bad := bit val 20 && !(s.qOwner q == 16 && (s.queue q).type == 4)
  let s1 := if bad then s.reject fn Code.ownerConflict Ty.err 0
    else s.modErr (fun e => { e with queue := q, valid := bit val 20 })
  if bits val 21 3 = 0 then s1 else s1.retireClear (bits val 21 3) (bits val 24 8)

/-- RETIRE_CLEAR: ERR_CTRL written with CLR_KIND nonzero, QUEUE and VALID as read. -/
def execRetireClear (fn kind i : Nat) (s : State) : Host.Outcome State Fault Refusal :=
  onUnit (decide (fn < 18 ∧ 0 < kind ∧ kind < 8 ∧ i < 256)) (s.onWrite fn Ty.err 0 0x040 (fun t =>
    t.wErrCtrl fn (t.err.queue + b2n t.err.valid * 2 ^ 20 + kind * 2 ^ 21 + i * 2 ^ 24)))

/-! ### Self-checks of channels and MADCs -/

/-- The read-back of a channel's configuration, 100 µs after the last one: `bad` it differs from the commanded one,
`again` the read-back after the rewrite differs too (R387). -/
def State.readback (s : State) (ch : Nat) (bad again : Bool) : State :=
  if s.stage ≠ .on ∨ s.pwr.analogOff ∨ s.up < (s.chan ch).readAt * 256 + 100 * fsUs then s
  else
    let s1 := s.modChan ch (fun c => { c with readAt := s.uptime })
    if bad then s1.transient kChannel ch Code.analogFault Ty.pe ch (siteOpt (s.chOwner ch)) 0 again true else s1

/-- ANALOG_READBACK. -/
def execAnalogReadback (ch : Nat) (bad again : Bool) (s : State) : Host.Outcome State Fault Refusal :=
  onUnit (decide (ch < nChan)) (s.readback ch bad again)

/-- MADC_FAULT of the conversion in progress. -/
def State.madcFault (s : State) (k : Nat) : State :=
  s.transient kMadc k Code.madcFault Ty.madc k (siteOpt (s.hdr Ty.madc k).owner) 0 false true

/-- MADC_CONVERSION_DONE with a raw reading. -/
def execMadcConversionDone (k : Nat) (raw : Int) (s : State) : Host.Outcome State Fault Refusal :=
  onUnit (decide (k < nClu)) (s.madcDone k raw (fun t => t.madcFault k))

/-- MADC_CONVERSION_TIMEOUT: 2 µs after its start a conversion has not completed (R388). -/
def execMadcConversionTimeout (k : Nat) (s : State) : Host.Outcome State Fault Refusal :=
  onUnit (decide (k < nClu)) (
    match (s.madc k).scan with
    | none => s
    | some c =>
      if c.left = [] ∨ ¬ ttLe (c.cstart + 2 * fsUs) s.now then s
      else (s.madcFault k).madcFaultNext k c (c.cstart + 2 * fsUs))

/-! ### Thermal protection (01 R18, 19 R417) -/

/-- THERMAL_SENSOR_SAMPLE: the seven sensors of a region (six clusters, then the digital die), 1/1,024 °C. CLU_TEMP and
a HIST unit on TEMP follow. The over-temperature warning goes to the PMBus pages of the sensors that are hot: page 1 the
digital die, 2 + r the analog die (03 R61). -/
def State.thermalSample (s : State) (r : Nat) (l : List Int) : State :=
  let v := fun i => l.getD i 0
  let all := (List.range 7).map v
  let hot := listMax all
  let src := ((List.range 7).find? (fun i => v i == hot)).getD 0
  let warn := decide (degC 110 ≤ hot)
  let x := s.rgn r
  let cool := x.shutdown && all.all (fun t => decide (t < degC 100))
  let s1 := s.modRgn r (fun g => { g with
    temp := hot, source := src, sensors := (List.range 7).foldl (fun t i => Tbl.set 0 t i (v i)) [], warn := warn, cool := cool
    sampledAt := some s.up })
  let s2 := forEach (List.range 6) (fun i t =>
    let k := 6 * r + i
    let t1 := t.modClu k (fun c => { c with temp := v i })
    when ((t1.hist k).run && (t1.hist k).kind == 5) (fun u => u.modHist k (fun h => { h with feed := h.feed ++ [v i] })) t1) s1
  let s3 := when (warn && !x.warn) (fun t => t.cause Ty.rgn r 1) s2
  let s4 := when (decide (degC 110 ≤ v 6)) (fun t => t.modSmb (fun m => { m with stTemp := Tbl.upd 0 m.stTemp 1 (fun w => setBit w 6) })) s3
  let s4 := when ((List.range 6).any (fun i => decide (degC 110 ≤ v i))) (fun t => t.modSmb (fun m => { m with
    stTemp := Tbl.upd 0 m.stTemp (2 + r) (fun w => setBit w 6) })) s4
  when (cool && !x.cool) (fun t => t.cause Ty.rgn r 4) s4

/-- THERMAL_SENSOR_SAMPLE: 1 ms after the last reading of the region. -/
def execThermalSensorSample (r : Nat) (temps : List Int) (s : State) : Host.Outcome State Fault Refusal :=
  onUnit (decide (r < nRgn)) (
    if s.stage = .on ∧ (s.rgn r).sampledAt.all (fun t => decide (t + fsMs ≤ s.up)) then s.thermalSample r temps else s)

/-- A write of RGN_THERMAL_CTRL: REENABLE ends a shutdown while COOL reads 1 (R417); the region's run becomes due. -/
def State.reenable (s : State) (fn r : Nat) : State :=
  let x := s.rgn r
  if ¬ x.shutdown then s
  else if ¬ x.cool then s.reject fn Code.blkBusy Ty.rgn r
  else
    let s1 := s.modRgn r (fun g => { g with shutdown := false, cool := false })
    let s2 := forEach (tesOfRgn r) (fun e t => t.emptyDeque e) s1
    s2.modCal r (fun c =>
      if 1 ≤ c.state ∧ c.state ≤ 4 ∨ ¬ (s.hdr Ty.cal r).en then c
      else c.runStart (2 ^ 48 - 1) s.uptime)

def State.wThermal (s : State) (fn r val : Nat) : State := if bit val 0 then s.reenable fn r else s

/-- REENABLE. -/
def execReenable (fn r : Nat) (s : State) : Host.Outcome State Fault Refusal :=
  onUnit (decide (fn < 18)) (s.onWrite fn Ty.rgn r 0x048 (fun t => t.wThermal fn r 1))

end Sys2Proof.Machine
end

