-- ==== Sys2Proof/Machine/Cal.lean ====
section
/-! DEFINITION. Family: calibration (14_calibration.md; 09 R194; 02 R40, R43). -/

namespace Sys2Proof.Machine

/-! ### Host time (05 GLB registers, 17 R364) -/

/-- GLB_HOST_TIME now: the committed value advanced with TT; 0 while not set. -/
def State.hostTime (s : State) : Nat :=
  if s.glb.hostMs = 0 then 0 else s.glb.hostMs + (s.uptime - s.glb.hostAt) / 16000000

/-! ### Applying coefficients (R194, R295, R296) -/

/-- The newest terms a channel holds: those that wait, else those in force. -/
def Chan.newestCal (c : Chan) : CalTerms := c.calNext.getD c.cal

/-- No channel of the region is free-running. -/
def State.rgnQuiet (s : State) (r : Nat) : Bool := (chansOfRgn r).all (fun ch => !(s.chan ch).frRun)

/-- A boundary of the channel (R295); a free-running channel waits for its stop. -/
def State.atBoundary (s : State) (ch : Nat) : Bool :=
  !(s.chan ch).frRun &&
    (s.siteIdle (s.chOwner ch) || ((s.glb.mode == .ready && !s.glb.busy) && s.rgnQuiet (rgnOfCh ch)))

/-- Coefficients move gradually now: warm-up in READY or RUN, SERVICE, or recovery (R295, 02 R45). -/
def State.gradualNow (s : State) (recovery : Bool) : Bool :=
  recovery || (s.glb.warmup && (s.glb.mode == .ready || s.glb.mode == .run)) || s.glb.mode == .service

/-- Level terms replaced, with the raw codes left where they stand (a gradual move, R295). -/
def Chan.levelLag (c : Chan) (k : CalTerms) : Chan :=
  let c2 := { c with cal := { c.cal with gain := k.gain, off := k.off, pmu := k.pmu } }
  { c2 with rawLag := (List.range 10).foldl (fun t d => Tbl.set 0 t d ((c.raw d : Int) - (({ c2 with rawLag := [] } : Chan).raw d : Int))) [] }

/-- Terms wait; those that waited before the run that began at `since` are kept aside (R289). -/
def Chan.await (c : Chan) (since up : Nat) (k : CalTerms) : Chan :=
  { c with
    calOld := if c.calNextAt < since then c.calNext.map (fun o => (o, c.calNextAt)) else c.calOld
    calNext := some k, calNextAt := up, calSlew := false }

/-- A gradual move of the channel's terms is in progress. -/
def Chan.moving (c : Chan) : Bool := c.calSlew || c.rawLag != []

/-- New terms arrive for a channel: gradually, which a move in progress stays, at once at a boundary, or waiting (R295,
R296). In CAL they wait for the end of the sequence. Terms that replace waiting ones begin the 10 min of CAL_STALE again:
the specification is silent (DESIGN CHOICE, log entry 55). -/
def State.applyTerms (s : State) (ch : Nat) (k : CalTerms) (recovery : Bool) : State :=
  let since := (s.cal (rgnOfCh ch)).startAt
  if s.glb.mode = .cal then s.modChan ch (fun c => c.await since s.up k)
  else if s.gradualNow recovery || (s.chan ch).moving then
    s.modChan ch (fun c => let c := c.levelLag k; { c with calNext := some k, calNextAt := s.up, calSlew := true, calStale := false })
  else if s.atBoundary ch then
    s.modChan ch (fun c => { c.setCal s.now k with calNext := none, calOld := none, calSlew := false, calStale := false })
  else s.modChan ch (fun c => c.await since s.up k)

/-- One unit towards a target. -/
def toward (x t : Int) : Int := if x < t then x + 1 else if t < x then x - 1 else x

/-- One fine step of the CAL term of each path toward its target (R295). -/
def CalTerms.stepTo (c k : CalTerms) : CalTerms :=
  if c.tau ≠ k.tau then { c with tau := toward c.tau k.tau }
  else
    { c with
      spDrive := toward c.spDrive k.spDrive, drive := if c.spDrive = k.spDrive then toward c.drive k.drive else c.drive
      spEnable := toward c.spEnable k.spEnable, enable := if c.spEnable = k.spEnable then toward c.enable k.enable else c.enable
      spCompare := toward c.spCompare k.spCompare
      compare := if c.spCompare = k.spCompare then toward c.compare k.compare else c.compare }

/-- The timing terms agree. -/
def CalTerms.sameTiming (c k : CalTerms) : Bool :=
  c.tau == k.tau && c.spDrive == k.spDrive && c.spEnable == k.spEnable && c.spCompare == k.spCompare
    && c.drive == k.drive && c.enable == k.enable && c.compare == k.compare

/-- CAL_SLEW_STEP of the timing terms: no sooner than 1 µs after the last. -/
def State.slewTiming (s : State) (ch : Nat) : State :=
  let c := s.chan ch
  match c.calNext with
  | none => s
  | some k =>
    if ¬ c.calSlew ∨ s.up < c.calNextAt + fsUs then s
    else
      let n := c.cal.stepTo k
      s.modChan ch (fun c =>
        if n.sameTiming k then { c.setCal s.now k with calNext := none, calOld := none, calSlew := false, calNextAt := s.up }
        else { c.setCal s.now n with calNextAt := s.up })

/-- CAL_SLEW_STEP of the raw codes: one LSB at an LCLK tick of the owner. -/
def State.slewLevels (s : State) (ch : Nat) : State :=
  let c := s.chan ch
  if (s.site (s.lclkOf ch)).lclkLast ≠ some s.root ∨ c.rawAt = some s.root then s
  else s.modChan ch (fun c => { c with rawAt := some s.root, rawLag := (List.range 10).foldl (fun t d => Tbl.upd 0 t d (fun v => toward v 0)) c.rawLag })

/-- CAL_SLEW_STEP: timing terms, or the raw level codes. -/
def execCalSlewStep (ch : Nat) (levels : Bool) (s : State) : Host.Outcome State Fault Refusal :=
  onUnit (decide (ch < nChan)) (if levels then s.slewLevels ch else s.slewTiming ch)

/-- CAL_STALE: a free-running channel whose coefficients have waited 10 min (R194). -/
def execCalStale (ch : Nat) (s : State) : Host.Outcome State Fault Refusal :=
  onUnit (decide (ch < nChan)) (
    let c := s.chan ch
    if c.frRun ∧ c.calNext.isSome ∧ ¬ c.calSlew ∧ ¬ c.calStale ∧ c.calNextAt + 600 * fsSec ≤ s.up then
      ((s.modChan ch (fun c => { c with calStale := true })).cause Ty.tg ch 16).raisePage Code.calStale Ty.tg ch
    else s)

/-! ### Runs (R284 to R289) -/

/-- Lanes of a region whose analog channel is in service. -/
def State.rgnLanes (s : State) (r : Nat) : Nat :=
  maskOf ((List.range 48).filter (fun i => !(s.hdr Ty.pe (48 * r + i)).retired))

/-- A region's run becomes due. -/
def State.calDue (s : State) (r : Nat) : State :=
  if ¬ s.calAllowed r then s
  else s.modCal r (fun c =>
    if 1 ≤ c.state ∧ c.state ≤ 4 then c else c.runStart (s.rgnLanes r) s.uptime)

/-- A REGION record may be written: its last write lies 10 min back (R299). -/
def State.recordFree (s : State) (r : Nat) : Bool := (Tbl.get none s.nor.last r).all (fun t => decide (t + 600 * fsSec ≤ s.up))

/-- CAL_TEMP_EVAL (R285), 10 ms after the last: the region temperature has moved by CAL_DELTA_T or more. A REGION record
that waited for its 10 min is written (DEDUCED, log entry 57). -/
def State.calEval (s : State) (r : Nat) : State :=
  let c := s.cal r
  let d := s.rgnTemp r - c.tempRef
  let s0 := when (s.nor.owed.contains r && s.recordFree r)
    (fun t => (t.modNor (fun n => { n with owed := n.owed.erase r })).norWrite r) s
  if c.auto ∧ c.evalAt.all (fun t => decide (t + 10 * fsMs ≤ s.up)) then
    let s1 := s0.modCal r (fun c => { c with evalAt := some s.up })
    if c.state ≠ 5 ∧ ((c.deltaT : Int) * 1024 ≤ d * 1000 ∨ (c.deltaT : Int) * 1024 ≤ -d * 1000) then s1.calDue r else s1
  else s0

def execCalTempEval (r : Nat) (s : State) : Host.Outcome State Fault Refusal := onUnit (decide (r < nRgn)) (s.calEval r)

/-- A write of CAL_CTRL (R302). -/
def State.wCalCtrl (s : State) (i val : Nat) : State :=
  if i = 4 then s.modCal 4 (fun c => { c with refplane := bit val 2 })
  else
    let s1 := s.modCal i (fun c => { c with auto := bit val 1 })
    let s2 := when (bit val 3) (fun t => t.calAbandon i) s1
    when (bit val 0) (fun t => t.calDue i) s2

/-- A write of CAL_DELTA_T. -/
def State.wDeltaT (s : State) (fn i val : Nat) : State :=
  if i = 4 then s
  else s.checked fn Ty.cal i [(!(decide (500 ≤ bits val 0 15 ∧ bits val 0 15 ≤ 20000)), Code.paramRange)]
    (fun t => t.modCal i (fun c => { c with deltaT := bits val 0 15 }))

/-- CAL_START and CAL_ABORT: CAL_CTRL written with the other fields as they stand. -/
def execCalStart (fn i : Nat) (s : State) : Host.Outcome State Fault Refusal :=
  onUnit (decide (fn < 18)) (s.onWrite fn Ty.cal i 0x040 (fun t =>
    t.wCalCtrl i (1 + 2 * b2n (t.cal i).auto + 4 * b2n (t.cal i).refplane)))
def execCalAbort (fn i : Nat) (s : State) : Host.Outcome State Fault Refusal :=
  onUnit (decide (fn < 18)) (s.onWrite fn Ty.cal i 0x040 (fun t =>
    t.wCalCtrl i (8 + 2 * b2n (t.cal i).auto + 4 * b2n (t.cal i).refplane)))

/-- The channel is quiet (R286). -/
def Chan.quiet (c : Chan) : Bool := !c.frRun && !c.pmuConn && c.conAt.isNone && c.rangeAt.isNone && c.pmuAt.isNone
/-- The lane's site is IDLE, or it belongs to the owner function. -/
def State.laneIdle (s : State) (ch : Nat) : Bool := s.siteIdle (s.chOwner ch)
/-- The lane is available for a cluster step (R286). -/
def State.laneAvail (s : State) (ch : Nat) : Bool :=
  s.inMode [.ready, .run, .cal, .service] && s.laneIdle ch && (s.chan ch).quiet && !(s.hdr Ty.pe ch).retired

/-- The run or sequence of an instance ends: counters, causes, holdoff (R294). -/
def State.calEnd (s0 : State) (i : Nat) : State :=
  let s := s0.modCal i (fun c => { c with gradual := false })
  let c := s.cal i
  if c.failed then
    (s.modCal i (fun c => { c with
      state := if i < 4 then 5 else 0, failCount := satAdd sat32 c.failCount 1, lastOk := false, holdEnd := s.up + 10 * fsSec })).cause Ty.cal i 2
  else
    (s.modCal i (fun c => { c with
      state := 0, count := satAdd sat32 c.count 1, lastOk := true, lastTT := s.now, hostMs := s.hostTime
      tempRef := if i < 4 then s.rgnTemp i else floorDiv (s.rgnTemp 0 + s.rgnTemp 1 + s.rgnTemp 2 + s.rgnTemp 3) 4 })).cause Ty.cal i 1

/-- A REGION record is written after a successful run, at most once per 10 min: it waits for its time (R299). -/
def State.calRecord (s : State) (r : Nat) : State :=
  if s.recordFree r then s.norWrite r
  else s.modNor (fun n => { n with owed := if n.owed.contains r then n.owed else n.owed ++ [r] })

/-- The lanes of `later` are deferred (R286). -/
def State.calDefer (s : State) (r : Nat) (later : List Nat) : State :=
  forEach later (fun i t => t.modClu (6 * r + i / 8) (fun k => { k with
    lanes := Tbl.upd {} k.lanes (i % 8) (fun l => { l with deferred := true }) })) s
/-- The run of the instance, `c` before this step, completes: a run for a spare lane alone ends; another, with no failed
result, outside CAL leaves a record (R284, R286). After a spare lane's run a holdoff goes on (R285). -/
def State.calComplete (s : State) (r : Nat) (c : Cal) : State :=
  if c.spareOnly then s.modCal r (fun c => { c with state := if s.up < c.holdEnd then 5 else 0, spareOnly := false })
  else
    let s3 := s.calEnd r
    (when (!c.failed && s3.glb.mode != .cal) (fun t => t.calRecord r) s3).seqAdvance
/-- After a step: lanes out of service leave the run; IDLE lanes that are not quiet are deferred at their cluster's turn,
clusters being taken in ascending index; the run completes, or waits for sites that are not IDLE (R284, R286). -/
def State.calAdvance (s : State) (r : Nat) : State :=
  let c := s.cal r
  if ¬ c.common ∨ ¬ (3 ≤ c.state ∧ c.state ≤ 4) ∨ (clusOfRgn r).any (fun k => (s.clu k).step) then s
  else
    let lanes := bitList c.todo 48
    let live := lanes.filter (fun i => !(s.hdr Ty.pe (48 * r + i)).retired)
    let turn := ((live.filter (fun i => s.laneAvail (48 * r + i))).headD 48) / 8
    let later := live.filter (fun i => decide (i / 8 ≤ turn) && s.laneIdle (48 * r + i) && !(s.chan (48 * r + i)).quiet)
    let left := live.filter (fun i => !later.contains i)
    let s2 := (s.calDefer r later).modCal r (fun c => { c with todo := maskOf left })
    if left = [] then s2.calComplete r c
    else if left.all (fun i => !s.laneIdle (48 * r + i)) then
      when (c.state != 4) (fun t => t.cause Ty.cal r 4) (s2.modCal r (fun c => { c with state := 4 }))
    else s2.modCal r (fun c => { c with state := 3 })

/-- |x| ≤ n. -/
def withinI (x : Int) (n : Int) : Bool := decide (-n ≤ x ∧ x ≤ n)
/-- Change from the previous value within 40 + 2 × moved fine steps, `moved` in 1/1,024 °C (R293). -/
def changeOk (new old moved : Int) : Bool := withinI ((new - old) * 512) (40 * 512 + (if moved < 0 then -moved else moved))
/-- A timing term is plausible: within `lim` of factory and of its previous value. -/
def termOk (lim new old fac moved : Int) : Bool := withinI (new - fac) lim && changeOk new old moved

/-- The region's run fails as a whole (R282, R283). -/
def State.runFail (s : State) (r code : Nat) : State :=
  let s1 := ((s.calFail r code).raise code Ty.cal r).modCal r (fun c => { c with todo := 0 })
  (s1.calEnd r).seqAdvance

/-- Root edges in `n` µs. -/
def rootUs (n : Nat) : Nat := 16000 * n
/-- A TIME_LOAD slew met a measurement that began at uptime `t`: its timing terms are measured again (R301). -/
def State.slewMet (s : State) (t : Nat) : Bool := decide (0 < s.sync.slewAt ∧ t ≤ s.sync.slewAt)

/-- The spine terms of a cluster (drive, enable, compare) are plausible against those in force on a channel (R293). -/
def spineOk (v : Nat → Int) (old fac : CalTerms) (temp : Int) : Bool :=
  let mv := temp - old.spAt
  termOk 400 (v 0) old.spDrive fac.spDrive mv && termOk 400 (v 1) old.spEnable fac.spEnable mv
    && termOk 400 (v 2) old.spCompare fac.spCompare mv

/-- CAL_COMMON_STEP_DONE: VREF_EXT and the bandgap in µV, judged after 200 µs, and the spine terms of the six clusters
(drive, enable, compare each) as measured after 400 µs more (R282 to R284). -/
def State.calCommon (s : State) (r : Nat) (vref vbg : Int) (spine : List Int) : State :=
  let c := s.cal r
  if c.state ≠ 2 ∨ s.uptime < c.stepAt + rootUs 200 then s
  else if vref < 1000000 ∨ ¬ withinI ((vref - vbg) * 200) vbg then s.runFail r Code.calRef
  else if s.sync.slewing ∨ s.uptime < c.stepAt + rootUs 600 then s
  else if s.clk.holdover then s.runFail r Code.calClock
  else if s.slewMet c.stepAt then s.modCal r (fun c => { c with stepAt := s.uptime })
  else
    let temp := s.rgnTemp r
    let s1 := forEach (clusOfRgn r) (fun k t =>
      let v := fun (p : Nat) => spine.getD (3 * (k % 6) + p) 0
      let fac := Tbl.get ({} : CalTerms) t.nor.factory.chans (8 * k)
      if (chansOfClu k).all (fun ch => spineOk v (t.chan ch).cal fac temp) then
        let t1 := t.modClu k (fun x => { x with spineFailed := false })
        forEach (chansOfClu k) (fun ch u => u.applyTerms ch { (u.chan ch).newestCal with
          spDrive := v 0, spEnable := v 1, spCompare := v 2, spAt := temp } c.gradual) t1
      else
        ((t.calFail r Code.calPlaus).transient kSpine k Code.calPlaus Ty.clu k none 0 (t.clu k).spineFailed true).modClu k
          (fun x => { x with spineFailed := true })) s
    (s1.modCal r (fun c => { c with state := 3, common := true })).calAdvance r

def execCalCommonStepDone (r : Nat) (vref vbg : Int) (spine : List Int) (s : State) : Host.Outcome State Fault Refusal :=
  onUnit (decide (r < nRgn)) (s.calCommon r vref vbg spine)

/-- Lanes of a cluster that are due or deferred, and available (R286). -/
def State.stepLanes (s : State) (k : Nat) : List Nat :=
  let c := s.cal (rgnOfClu k)
  (List.range 8).filter (fun l => ((bit c.todo (8 * (k % 6) + l) && c.common && decide (3 ≤ c.state ∧ c.state ≤ 4))
    || (Tbl.get {} (s.clu k).lanes l).deferred) && s.laneAvail (8 * k + l))
/-- The cluster's step has an MADC part: the MADC is in service and the run has not measured it (R284). -/
def State.madcPart (s : State) (k : Nat) : Bool := !(s.hdr Ty.madc k).retired && !bit (s.cal (rgnOfClu k)).madcDone (k % 6)

/-- CAL_CLUSTER_STEP_START: the first cluster of the region with lanes to measure; its MADC is held, and the lanes are
isolated once the MADC part is over (R284, R286, R287). -/
def State.clusterStart (s : State) (k : Nat) : State :=
  let r := rgnOfClu k
  let lanes := s.stepLanes k
  if ¬ s.calAllowed r ∨ (clusOfRgn r).any (fun j => (s.clu j).step || (decide (j < k) && s.stepLanes j != [])) then s
  else if lanes = [] then s.calAdvance r
  else
    let s1 := s.modClu k (fun x => { x with
      step := true, stepAt := s.uptime, isolated := maskOf lanes, isoAt := s.uptime + (if s.madcPart k then rootUs 300 else 0) })
    let s2 := when ((s.cal r).state == 4) (fun t => t.modCal r (fun c => { c with state := 3 })) s1
    s2.madcHold k

def execCalClusterStepStart (k : Nat) (s : State) : Host.Outcome State Fault Refusal :=
  onUnit (decide (k < nClu)) (s.clusterStart k)

/-- The terms of a lane from its 43 measured values: three timing terms, ten gains, ten offsets, force and measure gain
and offset of five PMU ranges; `temp` is the region temperature. -/
def measuredTerms (old : CalTerms) (temp : Int) (v : List Int) : CalTerms :=
  { old with
    at_ := temp, factory := false
    drive := v.getD 0 0, enable := v.getD 1 0, compare := v.getD 2 0
    gain := (List.range 10).foldl (fun t d => Tbl.set 0 t d (v.getD (3 + d) 0)) []
    off := (List.range 10).foldl (fun t d => Tbl.set 0 t d (v.getD (13 + d) 0)) []
    pmu := (List.range 20).foldl (fun t d => Tbl.set 0 t d (v.getD (23 + d) 0)) [] }

/-- Channel timing terms are plausible (R293). -/
def timingOk (new old fac : CalTerms) (moved : Int) : Bool :=
  termOk 800 new.drive old.drive fac.drive moved && termOk 800 new.enable old.enable fac.enable moved
    && termOk 800 new.compare old.compare fac.compare moved
/-- Level and PMU terms are plausible (R293): 1 % and 2 % gains in 2^-20, offsets in codes (1 % of FS: 160 codes of force,
5,000 codes of measure). -/
def levelsOk (new fac : CalTerms) : Bool :=
  (List.range 10).all (fun d => withinI (Tbl.get 0 new.gain d - Tbl.get 0 fac.gain d) 10486
      && withinI (Tbl.get 0 new.off d - Tbl.get 0 fac.off d) (if d = 3 ∨ d = 4 then 120 else 160))
    && (List.range 20).all (fun i =>
      withinI (Tbl.get 0 new.pmu i - Tbl.get 0 fac.pmu i) (if i % 2 = 0 then 20971 else if i % 4 = 1 then 160 else 5000))
/-- MADC terms are plausible (R293): gains within 0.5 %, offsets within 125 codes. -/
def madcOk (new fac : Tbl Int) : Bool :=
  (List.range 6).all (fun i => withinI (Tbl.get 0 new i - Tbl.get 0 fac i) (if i % 2 = 0 then 5242 else 125))

/-- The channel's results in a run or sequence that began at `at_`: failed or not; whether it had failed in the one before
stays (R294). -/
def LaneCal.judge (x : LaneCal) (at_ : Nat) (bad : Bool) : LaneCal :=
  if x.chAt = at_ then { x with chFailed := x.chFailed || bad }
  else { x with chAt := at_, chBefore := x.chFailed, chFailed := bad }

/-- One lane's results (R294); the slice and the analog channel are judged apart. -/
def State.laneResult (s : State) (k l : Nat) (v : List Int) (recovery : Bool) : State :=
  let ch := 8 * k + l
  let r := rgnOfClu k
  let old := (s.chan ch).cal
  let fac := Tbl.get ({} : CalTerms) s.nor.factory.chans ch
  let temp := s.rgnTemp r
  let new := measuredTerms (s.chan ch).newestCal temp v
  let at_ := (s.cal r).startAt
  let lane := Tbl.get ({} : LaneCal) (s.clu k).lanes l
  let setLane := fun (t : State) (f : LaneCal → LaneCal) => t.modClu k (fun x => { x with lanes := Tbl.upd {} x.lanes l f })
  let tOk := timingOk new old fac (temp - old.at_)
  let lOk := levelsOk new fac
  if tOk && lOk then
    (setLane s (fun x => { x.judge at_ false with
      failed := false, sliceFailed := false, deferred := false, gradual := false })).applyTerms ch new (recovery || lane.gradual)
  else
    let s1 := (setLane s (fun x => { x.judge at_ (!lOk) with failed := true, sliceFailed := !tOk, deferred := false })).calFail r
      Code.calPlaus
    let s2 := when (!tOk) (fun t => t.transient kSlice (t.sliceOf ch) Code.calPlaus Ty.clu k (siteOpt (t.chOwner ch)) 0 lane.sliceFailed true) s1
    when (!lOk) (fun t => t.transient kChannel ch Code.calPlaus Ty.pe ch (siteOpt (t.chOwner ch)) 0 (lane.judge at_ true).chBefore true) s2

/-- The MADC part of a step (R284, R294, R295). -/
def State.madcMeasured (s : State) (k : Nat) (v : List Int) : State :=
  let r := rgnOfClu k
  let new : Tbl Int := (List.range 6).foldl (fun t i => Tbl.set 0 t i (v.getD i 0)) []
  let s1 := s.modCal r (fun c => { c with madcDone := setBit c.madcDone (k % 6) })
  if madcOk new (Tbl.get [] s.nor.factory.madcs k) then
    (s1.modMadc k (fun m => { m with calNext := some new })).modClu k (fun x => { x with madcFailed := false })
  else
    ((s1.calFail r Code.calPlaus).transient kMadc k Code.calPlaus Ty.madc k (siteOpt (s.hdr Ty.madc k).owner) 0 (s.clu k).madcFailed true).modClu
      k (fun x => { x with madcFailed := true })

/-- Root edges a cluster step measures: 300 µs of MADC part, then its lanes for 1.6 ms, or for 4.8 ms through the
calibration reference unit; a step every lane has left is over (R284). -/
def State.stepLen (s : State) (k : Nat) : Nat :=
  if (s.clu k).isolated = 0 then 0
  else (if s.madcPart k then rootUs 300 else 0) + (if (s.hdr Ty.madc k).retired then rootUs 4800 else rootUs 1600)

/-- CAL_CLUSTER_STEP_DONE: results of the step's lanes (43 values each, by lane) and of the MADC (six values); lanes whose
isolation ended early stay due, timing terms that met a slew are measured again, and under PLL holdover the run fails
(R283, R284, R287, R288, R294, R301). -/
def State.clusterDone (s : State) (k : Nat) (lanes : List (List Int)) (madc : List Int) : State :=
  let r := rgnOfClu k
  let x := s.clu k
  if ¬ x.step ∨ (x.isolated ≠ 0 ∧ (s.sync.slewing ∨ s.uptime < x.stepAt + s.stepLen k)) then s
  else if x.isolated ≠ 0 ∧ s.clk.holdover then
    let s1 := s.stepEnd k
    if 1 ≤ (s.cal r).state ∧ (s.cal r).state ≤ 4 then s1.runFail r Code.calClock else (s1.calFail r Code.calClock).raise Code.calClock Ty.cal r
  else if x.isolated ≠ 0 ∧ s.slewMet x.stepAt then s.modClu k (fun x => { x with stepAt := s.uptime })
  else
    let covered := (bitList x.isolated 8).filter (fun l => !(s.hdr Ty.pe (8 * k + l)).retired)
    let rec_ := x.recovery || (s.cal r).gradual
    let doMadc := s.madcPart k && decide (x.stepAt + rootUs 300 ≤ s.uptime)
    let s0 := s.modClu k (fun x => { x with recovery := false })
    let s1 := when doMadc (fun t => t.madcMeasured k madc) s0
    let s2 := forEach covered (fun l t => t.laneResult k l (lanes.getD l []) rec_) s1
    let m := maskOf (covered.map (· + 8 * (k % 6)))
    let n := (bitList ((s2.cal r).todo &&& m) 48).length
    let s3 := s2.modCal r (fun c => { c with todo := c.todo &&& ((2 ^ 48 - 1) ^^^ m), done := c.done + n })
    let s3 := when ((s3.cal 4).state == 6) (fun t => t.modCal 4 (fun c => { c with done := c.done + n })) s3
    let s4 := (s3.modClu k (fun x => { x with step := false, isolated := 0 })).cause Ty.clu k 2
    let s5 := when (s4.madcState k == 0) (fun t => t.madcRelease k) s4
    s5.calAdvance r

def execCalClusterStepDone (k : Nat) (lanes : List (List Int)) (madc : List Int) (s : State) : Host.Outcome State Fault Refusal :=
  onUnit (decide (k < nClu)) (s.clusterDone k lanes madc)

/-- CAL_HOLDOFF_EXPIRY. -/
def execCalHoldoffExpiry (r : Nat) (s : State) : Host.Outcome State Fault Refusal :=
  onUnit (decide (r < nRgn)) (
    if (s.cal r).state = 5 ∧ (s.cal r).holdEnd ≤ s.up then s.modCal r (fun c => { c with state := 0 }) else s)

/-! ### Reference plane (R290 to R292) -/

/-- Channels a phase of the sequence covers. -/
def State.planeChans (s : State) : List Nat := allChans.filter (fun ch => !(s.hdr Ty.pe ch).retired && !(s.rgn (rgnOfCh ch)).shutdown)

/-- The plausibility phase begins once every channel has been reflected or refused; the five records are written. -/
def State.reflectAdvance (s : State) : State :=
  let c := s.cal 4
  if c.state = 8 ∧ s.planeChans.all (fun ch => (Tbl.get none c.planes ch).isSome || Tbl.get 0 c.refused ch != 0) then
    forEach [0, 1, 2, 3, 4] (fun r t => t.norWrite r) (s.modCal 4 (fun c => { c with state := 9, done := 0 }))
  else s

/-- CAL_ENV_CHECK_DONE of a cluster, the clusters of a region in turn, 5 ms each: by lane the land voltage (µV) and the
currents (nA) at +0.5 V and -0.5 V. -/
def State.envDone (s : State) (k : Nat) (v : List (Int × Int × Int)) : State :=
  let c := s.cal 4
  let r := rgnOfClu k
  if c.state ≠ 7 ∨ ¬ bit c.todo k ∨ (clusOfRgn r).any (fun j => decide (j < k) && bit c.todo j)
      ∨ s.uptime < (s.cal r).stepAt + rootUs 5000 then s
  else
    let live := (List.range 8).filter (fun l => s.planeChans.contains (8 * k + l))
    let s1 := forEach live (fun l t =>
      let m := v.getD l (0, 0, 0)
      let bad := !(withinI m.1 50000 && withinI m.2.1 500 && withinI m.2.2 500)
      let ch := 8 * k + l
      let t1 := t.modClu k (fun x => { x with lanes := Tbl.upd {} x.lanes l (fun y => { y with env := bad }) })
      if bad then
        ((t1.calFail 4 Code.calEnv).modCal 4 (fun c => { c with refused := Tbl.set 0 c.refused ch 1 })).raise Code.calEnv Ty.pe ch (siteOpt (t.chOwner ch))
      else t1) s
    let s2 := (s1.modCal 4 (fun c => { c with todo := clearMask c.todo (2 ^ k), done := c.done + live.length })).modCal r
      (fun c => { c with stepAt := s.uptime })
    if (s2.cal 4).todo = 0 then
      (forEach [0, 1, 2, 3] (fun r t => t.modCal r (fun c => { c with stepAt := s.uptime }))
        (s2.modCal 4 (fun c => { c with state := 8, done := 0 }))).reflectAdvance
    else s2

def execCalEnvCheckDone (k : Nat) (v : List (Int × Int × Int)) (s : State) : Host.Outcome State Fault Refusal :=
  onUnit (decide (k < nClu)) (s.envDone k v)

/-- The channel has been reflected or refused in this sequence. -/
def Cal.settled (c : Cal) (ch : Nat) : Bool := (Tbl.get none c.planes ch).isSome || Tbl.get 0 c.refused ch != 0

/-- CAL_REFLECT_DONE of a channel, the channels of a region in turn, 2.5 ms each: the sum of t_R − t_L over the 256
repetitions, their spread, and whether every repetition had exactly one crossing of each comparator (R292). -/
def State.reflectDone (s : State) (ch : Nat) (sum spread : Int) (clean : Bool) : State :=
  let c := s.cal 4
  let r := rgnOfCh ch
  if c.state ≠ 8 ∨ ¬ s.planeChans.contains ch ∨ c.settled ch
      ∨ s.planeChans.any (fun j => rgnOfCh j == r && decide (j < ch) && !c.settled j)
      ∨ s.uptime < (s.cal r).stepAt + rootUs 2500 then s
  else
    let tau := roundDiv sum 512
    let lane := Tbl.get ({} : LaneCal) (s.clu (cluOf ch)).lanes (laneOf ch)
    let setLane := fun (t : State) (f : LaneCal → LaneCal) => t.modClu (cluOf ch) (fun x => { x with lanes := Tbl.upd {} x.lanes (laneOf ch) f })
    let s1 := (s.modCal 4 (fun c => { c with done := c.done + 1 })).modCal r (fun c => { c with stepAt := s.uptime })
    if clean ∧ spread ≤ 64 ∧ 0 ≤ tau ∧ tau ≤ 20480 then
      ((setLane s1 (fun x => { x.judge c.startAt false with reflFailed := false })).modCal 4 (fun c => { c with planes := Tbl.set none c.planes ch (some tau) })).modChan ch
        (fun x => x.await c.startAt s.up { x.newestCal with tau := tau }) |>.reflectAdvance
    else
      ((((setLane s1 (fun x => { x.judge c.startAt true with failed := true, reflFailed := true })).calFail 4 Code.calReflect).modCal 4
        (fun c => { c with refused := Tbl.set 0 c.refused ch 2 })).transient kChannel ch Code.calReflect Ty.pe ch (siteOpt (s.chOwner ch)) 0 (lane.judge c.startAt true).chBefore true).reflectAdvance

def execCalReflectDone (ch : Nat) (sum spread : Int) (clean : Bool) (s : State) : Host.Outcome State Fault Refusal :=
  onUnit (decide (ch < nChan)) (s.reflectDone ch sum spread clean)

/-- CAL_SEQUENCE_DONE: with its records written the sequence ends; the new coefficients take effect and CAL leaves for
READY (R290, R294). -/
def State.sequenceDone (s : State) : State :=
  let c := s.cal 4
  if c.state ≠ 9 ∨ s.glb.mode ≠ .cal ∨ s.glb.busy ∨ (List.range 5).any (fun r => s.nor.todo.contains r || s.nor.writing == some r) then s
  else
    let s1 := forEach allChans (fun ch t => t.modChan ch (fun x => { x.setCal s.now x.newestCal with calNext := none, calOld := none, calSlew := false, calStale := false })) s
    let s2 := (s1.modCal 4 (fun c => { c with
      failed := c.failed || c.spoiled, factory := c.factory && (!c.refplane || c.failed || c.spoiled) })).calEnd 4
    ((s2.modCal 4 (fun c => { c with planes := [], refused := [], failed := false, spoiled := false })).hizAll false allChans).begin .ready

def execCalSequenceDone (s : State) : Host.Outcome State Fault Refusal := .next s.sequenceDone

/-! ### Records (R298 to R300) -/

/-- The record a REGION or PLANE slot is written from: the newest terms. -/
def State.calRec (s : State) (r : Nat) : CalRec :=
  if r = 4 then
    { chans := allChans.foldl (fun t ch => Tbl.set {} t ch { tau := (s.chan ch).newestCal.tau }) []
      outcomes := allChans.foldl (fun t ch =>
        let x := Tbl.get ({} : LaneCal) (s.clu (cluOf ch)).lanes (laneOf ch)
        Tbl.set 0 t ch (if x.env then 1 else if x.reflFailed then 2 else 0)) [] }
  else
    { chans := (chansOfRgn r).foldl (fun t ch => Tbl.set {} t ch { (s.chan ch).newestCal with tau := 0, spAt := 0, at_ := 0, factory := false }) []
      madcs := (clusOfRgn r).foldl (fun t k => Tbl.set [] t k ((s.madc k).calNext.getD (s.madc k).cal)) []
      tempRef := (s.cal r).tempRef, hostMs := (s.cal r).hostMs }

/-- One region's coefficients loaded from a record. -/
def State.calApply (s : State) (r : Nat) (c : CalRec) (factory : Bool) : State :=
  let s1 := forEach (chansOfRgn r) (fun ch t => t.modChan ch (fun x => { x with
    cal := { Tbl.get ({} : CalTerms) c.chans ch with tau := x.cal.tau, spAt := c.tempRef, at_ := c.tempRef, factory := factory }
    calNext := none, calOld := none, calSlew := false, rawLag := [] })) s
  let s2 := forEach (clusOfRgn r) (fun k t => t.modMadc k (fun m => { m with cal := Tbl.get [] c.madcs k, calNext := none })) s1
  s2.modCal r (fun x => { x with tempRef := c.tempRef, hostMs := c.hostMs })

/-- CAL_LOAD: the newest valid slot of each record, or the matching part of FACTORY with CAL_DEFAULT (R300). -/
def State.calLoad (s : State) : State :=
  if s.stage ≠ .on ∨ ¬ s.glb.fwOk ∨ s.glb.calLoaded then s
  else
    let newest := fun r => (s.nor.calSlots r).newest
    let plane := match newest 4 with | some (_, c) => c.chans | none => []
    let s0 := forEach allChans (fun ch t => t.modChan ch (fun x => { x with cal := { x.cal with tau := (Tbl.get ({} : CalTerms) plane ch).tau } })) s
    let s1 := forEach [0, 1, 2, 3] (fun r t => match newest r with
      | some (_, c) => t.calApply r c false
      | none => t.calApply r s.nor.factory true) s0
    let dflt := (List.range 5).any (fun r => (newest r).isNone)
    (s1.modCal 4 (fun c => { c with factory := (newest 4).isNone })).modGlb (fun g => { g with calLoaded := true, calDefault := dflt })

def execCalLoad (s : State) : Host.Outcome State Fault Refusal := .next s.calLoad

end Sys2Proof.Machine
end

