-- ==== Sys2Proof/Machine/Sync.lean ====
section
/-! DEFINITION. Family: the Benest frame sync bus and the trigger lines (04_benest_sync.md). A slot is handled as one
command at its arrival; its reference point lies 10,880 root ticks before (R77). -/

namespace Sys2Proof.Machine

/-! ### Frames (R75, R80) -/

/-- One step of the CRC-8 with polynomial 0x07. -/
def crc8Step (c : Nat) (b : Bool) : Nat :=
  if bit c 7 = b then 2 * c % 256 else (2 * c % 256) ^^^ 7
/-- CRC-8 of bits [55:8] of a frame, most significant bit first (R75). -/
def crc8 (w : Nat) : Nat := (List.range 48).foldl (fun c i => crc8Step c (bit w (55 - i))) 0
def preambleOk (w : Nat) : Bool := bits w 56 8 == 0xB4
def crcOk (w : Nat) : Bool := bits w 0 8 == crc8 w
/-- A frame of a command (R75). -/
def bsyncFrame (cmd param payload : Nat) : Nat :=
  let w := 0xB4 * 2 ^ 56 + cmd % 16 * 2 ^ 52 + param % 16 * 2 ^ 48 + payload % 2 ^ 40 * 2 ^ 8
  w + crc8 w

/-- Root ticks from a frame's reference point to its arrival, and to its echo (R77, R80). -/
abbrev syncArrival : Nat := 10880
abbrev syncEcho : Nat := 320
/-- TT root count at the reference point of a frame that arrives now: the count as it ran then, when a LOAD has moved TT
since (R80). -/
def State.refRoot (s : State) : Nat :=
  ttMove s.root (-(syncArrival : Int) - (if s.sync.loadAt.any (fun t => decide (s.uptime < t + syncArrival)) then s.sync.loadBy else 0))

/-- The PING reply to a PING of PARAM `param`: the received bits with their PAYLOAD and CRC replaced (R80). -/
def State.pingReply (s : State) (param : Nat) : Nat :=
  bsyncFrame 5 param (s.sync.crcErr % 256 * 2 ^ 32 + b2n s.clk.ttAligned * 2 ^ 31 + b2n s.clk.locked * 2 ^ 30
    + s.glb.mode.code * 2 ^ 27 + s.refRoot % 2 ^ 24)

/-- The echo of a slot with valid preamble: the bits received, but a PING with a valid CRC carries the reply (R80).
Whether RX_EN governs it the specification does not say: ECHO_EN alone does here (DESIGN CHOICE, log entry 55). -/
def State.echo (s : State) (w : Nat) : State :=
  if s.sync.echoEn ∧ preambleOk w then
    s.emit (.bsync (if bits w 52 4 = 5 ∧ crcOk w then s.pingReply (bits w 48 4) else w)
      ((s.refRoot + syncEcho) * 256 % 2 ^ 64))
  else s

/-! ### Commands (R76 to R79) -/

def State.syncIgnore (s : State) : State := s.modSync (fun x => { x with ignored := satAdd sat8 x.ignored 1 })

/-- The sites a group code addresses; 15 is every group (R75). -/
def State.groupSites (s : State) (g : Nat) : List Nat := allSites.filter (fun i => g == 15 || (s.site i).group == g)

/-- Root ticks from now to the smallest root count at or after the present one with these low 40 bits; none when it
names a past time (R77). -/
def State.namedAhead (s : State) (t40 : Nat) : Option Nat :=
  let ahead := (t40 % 2 ^ 40 + 2 ^ 40 - s.root % 2 ^ 40) % 2 ^ 40
  if 2 ^ 39 ≤ ahead then none else some ahead

/-- ARM marks the FRAME-armed sites of the group (R77). -/
def State.frameArm (s : State) (g : Nat) : State :=
  forEach (s.groupSites g) (fun i t => t.modSite i (fun x =>
    if x.st = .armed ∧ x.srcFrame then { x with frameArmed := true } else x)) s

/-- START_AT at one site (R78, R38; 14 R288). A site armed with source HOST ignores it; a RUNNING site rejects it; any
other site that is not frame-armed, IDLE after a DISARM among them, is counted in IGNORED (DEDUCED, log entry 57). A
late START_AT leaves an earlier pending start as it is: the specification does not say that it cancels it (DESIGN
CHOICE, log entry 55). -/
def State.frameStart (s : State) (t40 i : Nat) : State :=
  let x := s.site i
  if x.st ≠ .idle ∧ ¬ x.srcFrame then s
  else if x.st = .running then s.rejectBurst i Code.burstBusy
  else if x.st ≠ .armed ∨ ¬ x.frameArmed then s.syncIgnore
  else match s.namedAhead t40 with
    | none => s.rejectBurst i Code.burstLateStart
    | some n => s.acceptStart i n

/-- STOP_AT at one site: a cut at T, or at arrival when T is past (R77). -/
def State.frameStop (s : State) (t40 i : Nat) : State :=
  if (s.site i).st = .running ∧ (s.site i).srcFrame then
    s.setCut i ((s.root + (s.namedAhead t40).getD 0) * 256 % 2 ^ 64)
  else s

/-- The reason a LOAD is rejected: 0 none, else SYNC_STATUS.LOAD_REJECT (R79). When several conditions hold the
specification does not say which is written: the first of this order (DESIGN CHOICE, log entry 55). -/
def State.loadReason (s : State) : Nat :=
  if allSites.any (fun i => [Burst.armed, .running, .draining].contains (s.site i).st) then 1
  else if ¬ s.sync.staged then 2
  else if ¬ s.clk.locked then 3
  else if ¬ s.sync.loadEn then 4
  else 0

/-- The slew ends when CURRENT reaches TARGET: TT_ALIGNED and its CLK cause (R79), unless a clock fault came since the
LOAD (03 R72). -/
def State.slewCheck (s : State) : State :=
  if s.sync.slewing ∧ s.sync.current = s.sync.target then
    let s1 := s.modSync (fun x => { x with slewing := false })
    if s.sync.stale then s1 else (s1.modClk (fun c => { c with ttAligned := true })).cause Ty.clk 0 8
  else s

/-- A channel when TT jumps by `df` fine steps: every instant it holds stays the same instant; a free run keeps its UI
instants but loses its anchor (09 R192). -/
def Chan.jump (c : Chan) (df : Int) : Chan :=
  { c with
    frShift := if c.frRun then c.frShift + df else c.frShift, frAnch := c.frAnch && !c.frRun
    pedges := c.pedges.map (fun p => { p with base := p.base + df })
    lastData := c.lastData.map (· + df), lastEn := c.lastEn.map (· + df)
    crossings := c.crossings.map (fun x => { x with tt := ttMove x.tt df })
    cmpEvs := c.cmpEvs.map (fun e => { e with open_ := e.open_ + df, close := e.close + df, ui0 := ttMove e.ui0 df })
    results := c.results.map (fun r => { r with
      due := r.due + df, at_ := r.at_ + df, ev := { r.ev with open_ := r.ev.open_ + df, close := r.ev.close + df, ui0 := ttMove r.ev.ui0 df } }) }

/-- What follows TT when the root count jumps by `d` ticks: what is timed by TT keeps its instants, an acquisition in
progress is disarmed (03 R66, R69; 09 R192; 13 R278). Times move modulo 2^64. -/
def State.jump (s : State) (d : Int) : State :=
  let df : Int := d * 256
  let mvf := fun (t : Nat) => ttMove t df
  let s1 := s.modClk (fun c => { c with phase := (((ttMove s.root d : Int) - ((s.uptime : Int) - (c.lockAt : Int))) % 400).toNat })
  let s2 := forEach (List.range 17) (fun i t => t.modSite i (fun x => { x with
    lclkLast := x.lclkLast.map (fun r => ttMove r d), abortT := x.abortT.map mvf, restoreT := mvf x.restoreT })) s1
  let s3 := forEach allChans (fun ch t => t.modChan ch (fun c => c.jump df)) s2
  let s4 := forEach [0, 1, 2, 3] (fun n t => (t.modTrigIn n (fun x => { x with
    last := x.last.map mvf, flight := x.flight.map mvf })).modTrigOut n (fun o => { o with
    lastEnd := o.lastEnd.map mvf, events := o.events.map (fun p => (mvf p.1, p.2)) })) s3
  forEach (List.range nClu) (fun k t =>
    let t1 := t.modMadc k (fun m => { m with
      overEnd := m.overEnd.map mvf
      scan := m.scan.map (fun c => { c with start := mvf c.start, cstart := mvf c.cstart }) })
    let t2 := t1.modAcq k (fun a => { a with
      recent := a.recent.map (fun p => (p.1, mvf p.2)), recentU := a.recentU.map mvf, fly := a.fly.map (fun p => (mvf p.1, p.2))
      prev := a.prev.map (fun p => (mvf p.1, p.2)), holds := a.holds.map mvf, runT := mvf a.runT, stopT := a.stopT.map mvf })
    if [2, 3, 4].contains (t2.acq k).state then (t2.acqDisarm k).raisePage Code.acqTimeJump Ty.acq k else t2) s4

/-- TIME_LOAD LOAD (R79, R81). The specification does not say that a rejected LOAD uses up the staged bits, nor that an
accepted one clears TT_ALIGNED until its slew completes: here it keeps them, and it does (DESIGN CHOICE, log entry 55). -/
def State.timeLoad (s : State) (t24 : Nat) : State :=
  let r := s.loadReason
  if r ≠ 0 then
    ((s.modSync (fun x => { x with loadReject := r })).cause Ty.sync 0 16).raise Code.syncTimeReject Ty.sync 0
  else
    let D := s.sync.delay
    let V := s.sync.stage40 * 2 ^ 24 + t24 % 2 ^ 24
    let new : Nat := (V + (D + 255) / 256 + syncArrival) % 2 ^ 64
    let s1 := { s.jump ((new : Int) - (s.root : Int)) with root := new }
    let s2 := (s1.modSync (fun x => { x with
      staged := false, slewing := true, stale := false, slewAt := s.uptime, loadAt := some s.uptime, loadBy := (new : Int) - (s.root : Int), target := (256 - D % 256) % 256
      loads := satAdd sat8 x.loads 1 })).modClk
        (fun c => { c with ttAligned := false })
    (s2.cause Ty.sync 0 8).slewCheck

/-- The action of a decoded command; an unknown code or a nonzero reserved field is ignored and counted (R76, R77). -/
def State.bsyncCmd (s : State) (w : Nat) : State :=
  let param := bits w 48 4
  let pay := bits w 8 40
  let armed := fun (act : State → State) => if s.sync.startEn then act s else s.syncIgnore
  match bits w 52 4 with
  | 0 => if param = 0 ∧ pay = 0 then s else s.syncIgnore
  | 1 =>
    if param = 1 then s.modSync (fun x => { x with stage40 := pay, staged := true })
    else if param = 0 ∧ bits w 32 16 = 0 then s.timeLoad (bits w 8 24)
    else s.syncIgnore
  | 2 => if pay = 0 then armed (fun t => t.frameArm param) else s.syncIgnore
  | 3 =>
    let s1 := s.modSync (fun x => { x with starts := satAdd sat8 x.starts 1 })
    if s.sync.startEn then forEach (s1.groupSites param) (fun i t => t.frameStart pay i) s1 else s1.syncIgnore
  | 4 =>
    let s1 := s.modSync (fun x => { x with stops := satAdd sat8 x.stops 1 })
    if s.sync.startEn then forEach (s1.groupSites param) (fun i t => t.frameStop pay i) s1 else s1.syncIgnore
  | 5 => if param = 0 ∧ pay = 0 then s else s.syncIgnore
  | _ => s.syncIgnore

/-- A slot without a valid frame while the module has lock: discarded and counted, unless RX_EN is 0 (R76). -/
def State.badSlot (s : State) : State :=
  let s1 := s.modSync (fun x => { x with good := 0, bad := x.bad + 1 })
  if s.sync.rxEn then
    ((s1.modSync (fun x => { x with crcErr := satAdd sat32 x.crcErr 1 })).cause Ty.sync 0 4).raise Code.syncCrc Ty.sync 0
  else s1

/-- A frame slot arrives: echoed, then counted toward lock, or handled (R76, R80). Without power there is no receiver. -/
def State.frameSlot (s : State) (w : Nat) : State :=
  if s.stage ≠ .on then s
  else
    let s0 := s.echo w
    let ok := s.sync.rxEn && preambleOk w && crcOk w
    if s.sync.lock ∧ s.sync.bad < 4 then
      if ok then (s0.modSync (fun x => { x with bad := 0 })).bsyncCmd w else s0.badSlot
    else if s.sync.lock then s0
    else if ¬ ok then s0.modSync (fun x => { x with good := 0 })
    else if s.sync.good = 0 then s0.modSync (fun x => { x with good := 1 })
    else (s0.modSync (fun x => { x with lock := true, good := 0, bad := 0 })).cause Ty.sync 0 1

def execBsyncFrameSlot (w : Nat) (s : State) : Host.Outcome State Fault Refusal := .next (s.frameSlot (w % 2 ^ 64))

/-- SYNC_LOSS: the fourth slot in a row without a valid frame (R76). -/
def execSyncLoss (s : State) : Host.Outcome State Fault Refusal :=
  .next (if s.sync.lock ∧ 4 ≤ s.sync.bad then
    ((s.modSync (fun x => { x with lock := false, bad := 0, good := 0 })).cause Ty.sync 0 2).raise Code.syncLoss Ty.sync 0
  else s)

/-- The rows that name one command: the slot that carries it. -/
def execBsyncNop (s : State) : Host.Outcome State Fault Refusal := .next (s.frameSlot (bsyncFrame 0 0 0))
def execTimeLoadStage (t40 : Nat) (s : State) : Host.Outcome State Fault Refusal := .next (s.frameSlot (bsyncFrame 1 1 t40))
def execTimeLoadLoad (t24 : Nat) (s : State) : Host.Outcome State Fault Refusal := .next (s.frameSlot (bsyncFrame 1 0 (t24 % 2 ^ 24)))
def execBsyncArm (g : Nat) (s : State) : Host.Outcome State Fault Refusal := .next (s.frameSlot (bsyncFrame 2 g 0))
def execStartAt (g t40 : Nat) (s : State) : Host.Outcome State Fault Refusal := .next (s.frameSlot (bsyncFrame 3 g t40))
def execStopAt (g t40 : Nat) (s : State) : Host.Outcome State Fault Refusal := .next (s.frameSlot (bsyncFrame 4 g t40))
def execPing (s : State) : Host.Outcome State Fault Refusal := .next (s.frameSlot (bsyncFrame 5 0 0))

/-- PHASE_SLEW_STEP: the ROOTCLK phase moves one fine step toward TARGET, 1 µs after the LOAD or the last step (R79). -/
def State.slewStep (s : State) : State :=
  if ¬ s.sync.slewing ∨ s.uptime < s.sync.slewAt + 16000 then s
  else (s.modSync (fun x => { x with
    slewAt := s.uptime, current := if x.current < x.target then x.current + 1 else x.current - 1 })).slewCheck

def execPhaseSlewStep (s : State) : Host.Outcome State Fault Refusal := .next s.slewStep

/-! ### Trigger inputs (R82) -/

/-- An edge or stamp record of a line is lost (R82, R84). -/
def State.trigLost (s : State) (n : Nat) : State :=
  (s.modTrigIn n (fun x => { x with lost := satAdd sat16 x.lost 1 })).cause Ty.sync 0 32

/-- A stamp is relayed to the TRIG_OUT lines of the same owner that name the line (R83). -/
def State.trigRelay (s : State) (n tt : Nat) : State :=
  forEach [0, 1, 2, 3] (fun m t =>
    let o := t.trigOut m
    when (o.src == 3 && o.sel == n && o.owner == (t.trigIn n).owner) (fun u => u.trigOutEvent m tt) t) s

/-- The trigger stamp record (R82). -/
def stampRec (tt seq n : Nat) (rising : Bool) : List Byte :=
  le 8 tt ++ le 4 seq ++ le 1 (n + 4 * b2n rising) ++ le 3 0

/-- TRIG_IN_EDGE: an edge on a line at TT `tt` (R82). SEQ counts the edge itself (DEDUCED). A record whose queue is not
a stream queue of the line's owner now is lost (01 R28; log entry 57). -/
def State.trigEdge (s : State) (n : Nat) (rising : Bool) (tt : Nat) : State :=
  let x := s.trigIn n
  if s.stage ≠ .on ∨ ¬ x.en ∨ (x.edge = 0 ∧ ¬ rising) ∨ (x.edge = 1 ∧ rising) then s
  else if x.last.any (fun l => decide ((tt + 2 ^ 64 - l) % 2 ^ 64 < 5 * fsNs)) then s.trigLost n
  else
    let seq := (x.seq + 1) % 2 ^ 32
    let s1 := s.modTrigIn n (fun x => { x with
      stamp := tt, last := some tt, seq := seq, stamped := satAdd sat16 x.stamped 1
      flight := if x.routeEng ∧ x.owner < 16 then x.flight ++ [tt] else x.flight })
    let s2 := when x.routeAcq (fun t => t.acqTrigIn x.owner n tt) s1
    let s3 := if x.routeQ then
        (let r := s2.stream x.queue (stampRec tt seq n rising)
         if r.2 ∧ s2.streamQueueOk x.owner x.queue then r.1 else s2.trigLost n)
      else s2
    s3.trigRelay n tt

def execTrigInEdge (line : Nat) (rising : Bool) (tt : Nat) (s : State) : Host.Outcome State Fault Refusal :=
  onUnit (decide (line < 4)) (s.trigEdge line rising (tt % 2 ^ 64))

/-! ### Trigger outputs (R83) -/

/-- A pulse from `start` begins before the previous pulse's end `e` plus 2 ns; ends more than 1 s ahead are old ones of
before a wrap of TT. -/
def pulseClash (start e : Nat) : Bool :=
  let d := ttDiff (e + 2 * fsNs) start
  decide (0 < d ∧ d < fsSec)

/-- The event of a line whose pulse begins first. -/
def firstEvent : List (Nat × Bool) → Option (Nat × Bool)
  | [] => none
  | e :: t => match firstEvent t with
    | none => some e
    | some x => if ttLe e.1 x.1 then some e else some x

/-- TRIG_OUT_PULSE: the event of a line whose pulse is the next to begin becomes that pulse once its start has come,
emitted late, or is dropped (R83). -/
def State.trigPulse (s : State) (n : Nat) : State :=
  let o := s.trigOut n
  match firstEvent o.events with
  | none => s
  | some (start, late) =>
    let s0 := s.modTrigOut n (fun o => { o with events := o.events.erase (start, late) })
    if ttLt s.now start then s
    else if ¬ o.en then s0
    else if o.lastEnd.any (fun e => pulseClash start e) then
      (s0.modTrigOut n (fun o => { o with dropped := satAdd sat8 o.dropped 1 })).cause Ty.sync 0 64
    else
      let s1 := (s0.modTrigOut n (fun o => { o with
        pulses := satAdd sat16 o.pulses 1, lastEnd := some ((start + o.width) % 2 ^ 64)
        late := if late then satAdd sat8 o.late 1 else o.late })).emit (.pulse n start ((start + o.width) % 2 ^ 64))
      when late (fun t => t.cause Ty.sync 0 64) s1

def execTrigOutPulse (line : Nat) (s : State) : Host.Outcome State Fault Refusal :=
  onUnit (decide (line < 4)) (s.trigPulse line)

/-! ### Registers -/

def State.wSyncCtrl (s : State) (val : Nat) : State :=
  s.modSync (fun x => { x with rxEn := bit val 0, echoEn := bit val 1, loadEn := bit val 2, startEn := bit val 3 })
def State.wSyncDelay (s : State) (val : Nat) : State := s.modSync (fun x => { x with delay := bits val 0 24 })

/-- A new OWNER of a trigger line is refused: an unknown code, a site that is not IDLE, a line that is not stopped (01
R30; that a stopped line is one with EN = 0 is DEDUCED). -/
def State.lineOwnerBad (s : State) (old new : Nat) (en : Bool) : Bool :=
  decide (16 < new) || (old != new && (en || !s.siteIdle old || !s.siteIdle new))

/-- A write of TRIG_IN_n_CTRL; a new OWNER takes over no queue, stamp in flight or count of the old one (01 R30). -/
def State.wTrigIn (s : State) (fn n val : Nat) : State :=
  let x := s.trigIn n
  let own := bits val 6 5
  s.checked fn Ty.sync 0 [(bits val 1 2 == 3, Code.paramRange), (s.lineOwnerBad x.owner own x.en, Code.ownerConflict)]
    (fun t => t.modTrigIn n (fun x =>
      let y : TrigIn := if own = x.owner then x else { x with flight := [], queue := 0, seq := 0 }
      { y with en := bit val 0, edge := bits val 1 2, routeAcq := bit val 3, routeEng := bit val 4, routeQ := bit val 5, owner := own }))

def State.wTrigInQueue (s : State) (fn n val : Nat) : State :=
  s.checked fn Ty.sync 0 [(!s.streamQueueOk (s.trigIn n).owner (bits val 0 20), Code.ownerConflict)]
    (fun t => t.modTrigIn n (fun x => { x with queue := bits val 0 20 }))

/-- SEL of a TRIG_OUT line names a unit or line of its owner (R83). -/
def State.selBad (s : State) (src sel own : Nat) : Bool :=
  match src with
  | 2 => !(decide (sel < nClu) && (s.hdr Ty.acq sel).owner == own)
  | 3 => !(decide (sel < 4) && (s.trigIn sel).owner == own)
  | _ => false

def State.wTrigOut (s : State) (fn n val : Nat) : State :=
  let o := s.trigOut n
  let own := bits val 11 5
  s.checked fn Ty.sync 0
    [(decide (4 ≤ bits val 1 3) || s.selBad (bits val 1 3) (bits val 4 5) own, Code.paramRange),
     (s.lineOwnerBad o.owner own o.en, Code.ownerConflict)]
    (fun t =>
      let t1 := t.modTrigOut n (fun o => { o with
        en := bit val 0, src := bits val 1 3, sel := bits val 4 5, polarity := bit val 9, owner := own
        events := if own = o.owner then o.events else [] })
      when (bit val 10) (fun u => u.trigOutEvent n u.now) t1)

def State.wTrigOutOffset (s : State) (fn n val : Nat) : State :=
  s.checked fn Ty.sync 0 [(decide (bits val 0 24 < 32768), Code.paramRange)]
    (fun t => t.modTrigOut n (fun o => { o with offset := bits val 0 24 }))
def State.wTrigOutWidth (s : State) (fn n val : Nat) : State :=
  s.checked fn Ty.sync 0 [(decide (bits val 0 20 < 8192), Code.paramRange)]
    (fun t => t.modTrigOut n (fun o => { o with width := bits val 0 20 }))

/-- TRIG_OUT_n_CTRL as read. -/
def TrigOut.ctrl (o : TrigOut) : Nat := b2n o.en + 2 * o.src + 16 * o.sel + 512 * b2n o.polarity + 2048 * o.owner
def TrigIn.ctrl (x : TrigIn) : Nat :=
  b2n x.en + 2 * x.edge + 8 * b2n x.routeAcq + 16 * b2n x.routeEng + 32 * b2n x.routeQ + 64 * x.owner

/-- TRIG_OUT_FIRE: TRIG_OUT_n_CTRL written as read, with FIRE = 1. -/
def execTrigOutFire (fn line : Nat) (s : State) : Host.Outcome State Fault Refusal :=
  onUnit (decide (fn < 18 ∧ line < 4)) (s.onWrite fn Ty.sync 0 (0x0E0 + 0x10 * line) (fun t =>
    t.wTrigOut fn line ((t.trigOut line).ctrl + 1024)))

end Sys2Proof.Machine
end

