-- ==== Sys2Proof/Machine/Engine.lean ====
section
/-! DEFINITION. Shared operations of the tin engines: descriptors, the pattern cache, UIs and blocks, ends of segments,
conditions, marks, level entries and barriers (06_pattern_model.md, 07_tin_engines.md, 08 R153 to R171). -/

namespace Sys2Proof.Machine

/-! ### Descriptors (06 R103) -/

/-- 32-bit word `k` of the descriptor. -/
def Seg.w (g : Seg) (k : Nat) : Nat := fromLe ((g.raw.drop (4 * k)).take 4)
def Seg.segId (g : Seg) : Nat := g.w 0
def Seg.siteField (g : Seg) : Nat := bits (g.w 1) 0 4
def Seg.reloc (g : Seg) : Bool := bit (g.w 1) 8
def Seg.tethered (g : Seg) : Bool := bit (g.w 1) 9
def Seg.syncBefore (g : Seg) : Bool := bit (g.w 1) 10
def Seg.syncAfter (g : Seg) : Bool := bit (g.w 1) 11
def Seg.sealed_ (g : Seg) : Bool := bit (g.w 1) 12
def Seg.startTt (g : Seg) : Nat := g.w 2 + g.w 3 * 2 ^ 32
def Seg.ip (g : Seg) : Nat := g.w 4 + bits (g.w 5) 0 8 * 2 ^ 32
def Seg.len (g : Seg) : Nat := g.w 6
def Seg.succ (g : Seg) : Nat := bits (g.w 7) 0 20
def Seg.succValid (g : Seg) : Bool := bit (g.w 7) 31
def Seg.mask (g : Seg) : Nat := fromLe ((g.raw.drop 32).take 24)
/-- The channels of the group in position order (R99). -/
def Seg.chans (g : Seg) : List Nat := bitList g.mask nChan
def Seg.n (g : Seg) : Nat := g.chans.length
/-- Words of one vector (R108). -/
def Seg.vw (g : Seg) : Nat := (g.n + 63) / 64
def Seg.dOff (g : Seg) : Nat := bits (g.w 14) 0 24
def Seg.dEntries (g : Seg) : Nat := bits (g.w 14) 24 8 + 1
def Seg.hasTable (g : Seg) : Bool := g.w 14 != 0

/-! ### The stream and the pattern cache (06 R106, 07 R133, 15 R304) -/

def Seg.line (g : Seg) (off : Nat) : Nat := (g.ip + 32 * off) / 1024

/-- The key epoch under which a site's lines are ciphertext; none for a site that is not sealed (01 R32). -/
def State.lineKey (s : State) (st : Nat) : Option Nat := if s.isSealed st then some (Tbl.get 0 s.sec.epochs st) else none
/-- The AES-256-XTS key pair of a holder of HBM (17 R358). -/
def State.xtsKey (s : State) (o : Nat) : List Byte := Tbl.get [] s.sec.xts o
/-- The line of a site held in the cache. A line held under an earlier key of its site is no hit (DEDUCED, log entry
29). -/
def State.lineOf (s : State) (st line : Nat) : Option CLine :=
  s.pcache.find? (fun l => l.site == st && l.line == line && l.key == s.lineKey st)
def State.cached (s : State) (g : Seg) (off : Nat) : Bool := (s.lineOf g.site (g.line off)).isSome

/-- What the fetch path makes of a word at a device address with a site's key: ciphertext under another key or address
opens to what AES-XTS makes of it (01 R32). -/
def LineWord.open_ (key : List Byte) (addr : Nat) : LineWord → Nat
  | .plain w => w
  | .sealed k a w =>
    if key = k ∧ addr = a then w
    else fromLe ([0, 16].flatMap (fun i => xtsPlain key (addr + i) (xtsCipher k (a + i) (((le 32 w).drop i).take 16))))

/-- Word `off` of a segment's stream: from its line in the cache, decrypted by the fetch path, else from HBM. -/
def State.streamWord (s : State) (g : Seg) (off : Nat) : Nat :=
  match s.lineOf g.site (g.line off) with
  | some l => (l.data.getD ((g.ip + 32 * off) % 1024 / 32) (.plain 0)).open_ (s.xtsKey g.site) ((g.ip + 32 * off) / 32 * 32)
  | none => s.num (g.ip + 32 * off) 32

/-- A line becomes the most recently used of its set of 16. -/
def cacheAdd (l : List CLine) (x : CLine) : List CLine :=
  let l1 := x :: l.filter (fun y => !(y.site == x.site && y.line == x.line))
  let same := l1.filter (fun y => y.line % 1536 == x.line % 1536)
  match same[16]? with
  | some old => l1.filter (· != old)
  | none => l1

/-- A word of HBM as a site's line holds it: ciphertext under the site's key where it is sealed (01 R32). -/
def State.lineWord (s : State) (st a : Nat) : LineWord :=
  match s.lineKey st with
  | some _ => .sealed (s.xtsKey st) a (s.num a 32)
  | none => .plain (s.num a 32)

/-- The line as the cache holds it, or as it is read from HBM now. -/
def State.readLine (s : State) (st line : Nat) : CLine :=
  (s.lineOf st line).getD {
    site := st, line := line, key := s.lineKey st
    data := (List.range 32).map (fun i => s.lineWord st (1024 * line + 32 * i)) }

/-- A fetch of a line, and the prefetch of the next two. -/
def State.cacheTouch (s : State) (st line : Nat) : State :=
  let r := s.readLine st
  { s with pcache := cacheAdd (cacheAdd (cacheAdd s.pcache (r (line + 2))) (r (line + 1))) (r line) }
/-- Fetches of these stream words. -/
def State.touchAll (s : State) (g : Seg) (l : List Nat) : State := forEach l (fun o t => t.cacheTouch g.site (g.line o)) s

/-- The first obstacle to reading these stream words: none, a word at or beyond LENGTH, or a miss. -/
inductive Fetch where
  | ok | beyond | miss (line : Nat)
deriving DecidableEq, Repr

def State.fetchAll (s : State) (g : Seg) : List Nat → Fetch
  | [] => .ok
  | o :: t => if g.len ≤ o then .beyond else if s.cached g o then s.fetchAll g t else .miss (g.line o)

/-! ### Times of a segment (06 R100, 08 R166, R167) -/

/-- Start of UI `u` of the segment on channel `ch`. -/
def State.uiAt (s : State) (g : Seg) (ch u : Nat) : Nat := g.eff + (s.chan ch).span u
/-- The pace channel: smallest period, lowest position on a tie. -/
def State.pace (s : State) (g : Seg) : Nat :=
  g.chans.foldl (fun b ch => if (s.chan ch).q < (s.chan b).q then ch else b) (g.chans.headD 0)
def State.paceAt (s : State) (g : Seg) (u : Nat) : Nat := s.uiAt g (s.pace g) u
/-- The smallest block-aligned UI at or after `u0` whose start on the pace channel is at or after `bound` (R169). -/
def State.exitUi (s : State) (g : Seg) (u0 : Nat) (bound : Int) : Nat :=
  let q := (s.chan (s.pace g)).q
  let n := (((bound - (g.eff : Int)).toNat * 65536 + q - 1) / q + 63) / 64
  64 * max ((u0 + 63) / 64) n

/-! ### Ends of a segment -/

/-- The site still has work from this segment: RUNNING or DRAINING. -/
def State.siteGoing (s : State) (st : Nat) : Bool := (s.site st).st == .running || (s.site st).st == .draining

/-- The room of BLOCK_POST: every FIFO of the group admits the block (08 R154). -/
def State.roomFor (s : State) (g : Seg) (b : Nat) : Bool :=
  g.chans.all (fun ch => ttLt (s.uiAt g ch (64 * b)) (s.now + (s.chan ch).span (1023 * 64)))

/-- BLOCK_POST: the complete block goes to every channel's FIFO (07 R134, 08 R153). -/
def State.blockPost (s : State) (e : Nat) : State :=
  let x := s.te e
  match x.cur, x.full with
  | some g, some a =>
    let b := x.uis / 64 - 1
    if ¬ s.siteGoing g.site ∨ ¬ s.roomFor g b then s
    else
      let s1 := (g.chans.zip (List.range g.n)).foldl (fun t p =>
        t.modChan p.1 (fun c => { c with flying := c.flying ++ [
          { tt := (g.eff + c.span (64 * b)) % 2 ^ 64, segId := g.segId, seq := b, syms := a.syms.getD p.2 [], tss := a.tss
            holdv := a.holdv, engine := e, site := g.site, group := g.mask }] })) s
      s1.modTe e (fun x => { x with full := none, posted := b + 1 })
  | _, _ => s

def execBlockPost (e : Nat) (s : State) : Host.Outcome State Fault Refusal :=
  onUnit (decide (e < nEng)) (s.blockPost e)

/-- ECLK cycles of a busy spell that ends now (07 R150). -/
def Eng.endBusy (x : Eng) (up : Nat) : Eng :=
  { x with busy := x.busy + (match x.busyFrom with | some t => (up - t) / 2048 | none => 0), busyFrom := none }

/-- The engine has no segment any more: a complete block is posted first; partial blocks and the segment's pending events
go. The UIs of a discarded partial block still count as the channel's previous UIs (06 R121: DESIGN CHOICE, log entry
56). -/
def State.endSeg (s : State) (e : Nat) : State :=
  (s.blockPost e).modTe e (fun x => { x.endBusy s.up with
    cur := none, taking := false, asm := {}, full := none, cond := none, job := none, staging := [], lanes := []
    handler := false, pendSync := false, pendMatch := none, pendTrig := [], miss := none
    token := { x.token with live := false } })

/-- A rejected segment, or one that stops on an execution error: completion with the code, SUCC_QUEUE not released; its next block on each channel stays judged (06 R105). -/
def State.segStop (s : State) (e code : Nat) : State :=
  match (s.te e).cur with
  | none => s
  | some g =>
    let st := g.site
    let s0 := s.blockPost e
    let s1 := (s0.modSite st (fun x => { x with
      ended := x.ended ++ [{ segId := g.segId, mask := g.mask, eff := g.eff, next := max (s0.te e).posted g.posted }] })).endSeg e
    s1.siteCpl st (cplBytes 1 code g.segId s.now [])

/-- The same with the code logged against the site's page. -/
def State.segErr (s : State) (e code : Nat) : State :=
  match (s.te e).cur with
  | none => s
  | some g => (s.segStop e code).raise code Ty.site g.site (some g.site) g.segId

/-- A DRAINING site's cut has reached the segment's next block on every channel (08 R173). -/
def State.cutReached (s : State) (e : Nat) (g : Seg) : Bool :=
  let x := s.site g.site
  x.st == .draining && x.cut.any (fun T => g.chans.all (fun ch => ttLe T (s.uiAt g ch (64 * ((s.te e).uis / 64)))))

/-- SUCC_QUEUE of a halting segment (R165, R166). -/
def State.releaseSucc (s : State) (g : Seg) : State :=
  if ¬ g.succValid then s
  else
    let d := s.queue g.succ
    if ¬ (d.enable ∧ d.type = 1 ∧ s.qOwner g.succ = g.site) then
      s.raise Code.ownerConflict Ty.site g.site (some g.site)
    else if d.released then s
    else s.modQueue g.succ (fun q => { q with released := true, slip := (s.queue g.queue).slip })

/-- A halt on a block boundary with every block posted: slip, release of SUCC_QUEUE, no completion (R165, R166). -/
def State.halt (s : State) (e : Nat) (g : Seg) : State :=
  let x := s.te e
  let qmax := g.chans.foldl (fun m ch => max m (s.chan ch).q) 0
  let delta := (x.uis - 64 * ((x.plain + 63) / 64)) * qmax / 65536
  let s1 := if g.tethered then s.modQueue g.queue (fun q => { q with slip := q.slip + delta }) else s
  (s1.releaseSucc g).endSeg e

/-! ### UIs and blocks (06 R100, R121; 07 R134; 08 R153) -/

/-- The effective symbols of the UI before the segment's next one, by position: its own, or before its first UI those of
the latest UI before it that the channels have been given, by start. A segment begun before its predecessor on the channels
has produced its last UI takes what they then hold (R121 names no other; DESIGN CHOICE, log entry 56). -/
def State.prevsOf (s : State) (e : Nat) (g : Seg) : List Nat :=
  if (s.te e).prevs.isEmpty then g.chans.map (fun ch => (s.chan ch).symBefore g.eff) else (s.te e).prevs

/-- The effective symbol of a UI; of a hold vector's, a KEEP that repeats CAPT acts as MASK too (R114). -/
def holdEff (hold : Bool) (prev sym : Nat) : Nat :=
  let y := effSym prev sym
  if hold && y == symCAPT then effSym prev symMASK else y

/-- One UI with base symbols by position goes into the blocks under assembly, KEEP and MASK resolved. `hold` marks a
hold-vector repetition or exit fill, `plain` a UI that counts toward the nominal length (R166). -/
def State.putUi (s : State) (e : Nat) (g : Seg) (syms : List Nat) (ts : Nat) (hold plain : Bool) : State :=
  let x := s.te e
  let prevs := s.prevsOf e g
  let effs := List.zipWith (holdEff hold) prevs syms
  let s1 := (g.chans.zip effs).foldl (fun t p => t.modChan p.1 (fun c =>
    { c with tails := c.tails.filter (·.1 != g.eff) ++ [(g.eff, (g.eff + c.span x.uis) % 2 ^ 64, p.2)] })) s
  let asm : Asm := {
    syms := if x.asm.syms.isEmpty then effs.map (fun y => [y]) else List.zipWith (fun l y => l ++ [y]) x.asm.syms effs
    tss := x.asm.tss ++ [ts], holdv := x.asm.holdv ++ [hold] }
  let done := (x.uis + 1) % 64 = 0
  s1.modTe e (fun x => { x with
    cur := x.cur.map (fun h => if h.prev0.isNone then { h with prev0 := some prevs } else h)
    asm := if done then {} else asm, full := if done then some asm else x.full, prevs := effs
    uis := x.uis + 1, plain := if plain then x.plain + 1 else x.plain, spin := 0 })

/-- The next UI would begin block 2^32 (R101). -/
def Eng.full32 (x : Eng) : Bool := decide (64 * 2 ^ 32 ≤ x.uis)

/-- Base symbols of a vector of codes that starts at code `i` of consecutive stream words from `w0`. -/
def State.codesAt (s : State) (g : Seg) (w0 i : Nat) : List Nat :=
  (g.chans.zip (List.range g.n)).map (fun p =>
    (s.chan p.1).symmap (bits (s.streamWord g (w0 + (i + p.2) / 64)) (4 * ((i + p.2) % 64)) 4))

/-- A symbol of a hold vector: CAPT acts as MASK (R114). -/
def holdSym (y : Nat) : Nat := if y = symCAPT then symMASK else y

/-- The next UI would complete a block for which some FIFO has no room: an EMIT of it stalls (R134). -/
def State.noRoom (s : State) (e : Nat) (g : Seg) : Bool :=
  (s.te e).uis % 64 == 63 && !s.roomFor g ((s.te e).uis / 64)

/-! ### Marks, level entries, barrier arrivals -/

/-- MARK (06 R116, R117). -/
def State.mark (s : State) (g : Seg) (u ref outs : Nat) (acq : Bool) (id : Nat) : State :=
  let tt := s.uiAt g (g.chans.getD ref 0) u
  let s1 := forEach [0, 1, 2, 3] (fun n t =>
    let o := t.trigOut n
    when (bit outs n && o.owner == g.site && o.src == 1) (fun v => v.trigOutEvent n tt) t) s
  when acq (fun t => t.acqMark g.site tt id) s1

/-- LVL to some positions (06 R118). -/
def State.lvlSend (s : State) (g : Seg) (u : Nat) (pos : List Nat) (dac code : Nat) : State :=
  forEach pos (fun p t =>
    let ch := g.chans.getD p 0
    t.modChan ch (fun c => { c with lvlFly := c.lvlFly ++ [{ dac := dac, code := code, stamp := g.eff + c.span u }] })) s

def State.barrier (s : State) (st b : Nat) : Barrier := Tbl.get {} (s.site st).barriers b
def State.modBarrier (s : State) (st b : Nat) (f : Barrier → Barrier) : State :=
  s.modSite st (fun x => { x with barriers := Tbl.upd {} x.barriers b f })

/-- One arrival at a barrier; the COUNT-th completes the generation at the latest arrival TT, and its delivery falls 8 ns
after the later of that and the present (08 R168, R171). -/
def State.arrive (s : State) (st b tt : Nat) : State :=
  s.modBarrier st b (fun x =>
    if x.count = 0 then x
    else
      let c := max x.lastTT tt
      if x.count ≤ x.arrived + 1 then
        { x with arrived := 0, lastTT := 0, gen := x.gen + 1, done := x.done ++ [(x.gen, c, max c s.now + 8 * fsNs, false)] }
      else { x with arrived := x.arrived + 1, lastTT := c })

/-! ### Conditions (06 R115, 08 R167 to R169) -/

/-- The condition of an engine is resolved: the fail flag and the compare record restart (R115). -/
def State.resolve (s : State) (e : Nat) (after : Bool) (td E : Int) : State :=
  s.modTe e (fun x => { x with
    cond := x.cond.map (fun c => { c with res := some (after, td, E) }), fail := false, lastCmp := 0
    cur := x.cur.map (fun g => { g with resolved := g.resolved + 1, fail := false, lastCmp := 0, holds := [] }) })

/-- A hold-vector result of UI `u` for a MATCH: repetition `u` − `u0` (11 R227). -/
def Cond.holdSeen (c : Cond) (u : Nat) (pass : Bool) (at_ : Int) : Cond :=
  if c.kind = 1 ∧ c.u0 ≤ u then
    { c with fails := if pass then c.fails else c.fails ++ [u - c.u0], ats := c.ats ++ [(u - c.u0, at_)] }
  else c
/-- A condition as it opens: with the results that blocks of its segment posted by another engine have already given. -/
def Cond.opened (c : Cond) (g : Seg) : Cond := g.holds.foldl (fun c v => c.holdSeen v.1 v.2.1 v.2.2) c

/-- T_out of a condition. -/
def State.tOut (s : State) (g : Seg) (c : Cond) : Nat := s.paceAt g (c.u0 + c.timeout)

/-- A barrier completion the waiting SYNC of engine `e` can take now: the generation it waits for, completed before
T_out and delivered (R141, R168). -/
def State.takeBarrier (s : State) (e : Nat) : State :=
  let x := s.te e
  match x.cur, x.cond with
  | some g, some c =>
    if c.kind ≠ 3 ∨ c.res.isSome then s
    else match (s.barrier g.site c.sel).done.find? (fun d => d.1 == c.gen && ttLe d.2.2.1 s.now) with
      | none => s
      | some d =>
        let td := ttMax d.2.2.1 c.since
        if ttLt d.2.1 (s.tOut g c) ∧ ttLe td (s.tOut g c) then
          (s.resolve e true td d.2.1).modTe e (fun x => { x with pendSync := true })
        else s
  | _, _ => s

/-- A trigger stamp for the waiting SYNC of engine `e` (R115, R168). -/
def State.takeTrigger (s : State) (e line tt : Nat) : State :=
  let x := s.te e
  match x.cur, x.cond with
  | some g, some c =>
    if c.kind = 4 ∧ c.res.isNone ∧ c.sel = line ∧ ttLe (s.paceAt g c.u0) tt ∧ ttLt tt (s.tOut g c) then
      s.resolve e true ((tt : Int) + 40 * fsNs) tt
    else s
  | _, _ => s

/-- TRIGGER_EVENT_ARRIVE: 40 ns after the stamp it reaches every engine executing a segment of the owner's site, and
replaces an earlier untaken event of the line (07 R141, 08 R168). -/
def State.triggerArrive (s : State) (n : Nat) : State :=
  let x := s.trigIn n
  match x.flight with
  | [] => s
  | tt :: rest =>
    if ¬ ttLe (tt + 40 * fsNs) s.now then s
    else forEach (s.siteRuns x.owner) (fun e t =>
        if (t.te e).taking ∨ ¬ ttLe (t.te e).beginAt s.now then t
        else (t.modTe e (fun y => { y with pendTrig := Tbl.set none y.pendTrig n (some tt) })).takeTrigger e n tt)
      (s.modTrigIn n (fun x => { x with flight := rest }))

def execTriggerEventArrive (line : Nat) (s : State) : Host.Outcome State Fault Refusal :=
  onUnit (decide (line < 4)) (s.triggerArrive line)

/-- BARRIER_COMPLETE: a completion of a barrier reaches its waiters at its delivery TT (R168). -/
def State.barrierComplete (s : State) (st b : Nat) : State :=
  match (s.barrier st b).done.find? (fun d => !d.2.2.2) with
  | none => s
  | some d =>
    if ¬ ttLe d.2.2.1 s.now then s
    else forEach (s.siteRuns st) (fun e t => if (t.te e).cond.any (fun c => c.sel == b) then t.takeBarrier e else t)
      (s.modBarrier st b (fun x => { x with done := x.done.map (fun y => if y.1 = d.1 then (y.1, y.2.1, y.2.2.1, true) else y) }))

def execBarrierComplete (st b : Nat) (s : State) : Host.Outcome State Fault Refusal :=
  onUnit (decide (st < nSite ∧ b < 256)) (s.barrierComplete st b)

/-- A UI of a block is still to be judged on a channel. -/
def Chan.uiOutstanding (c : Chan) (segId u : Nat) : Bool :=
  let hit := fun (b : Block) => b.segId == segId && b.seq == u / 64
  c.fifo.any hit || c.flying.any hit || c.play.any (fun p => hit p.blk && decide (p.k ≤ u % 64))
    || c.cmpEvs.any (fun v => v.segId == segId && v.seq == u / 64 && v.k == u % 64)
    || c.results.any (fun v => v.ev.segId == segId && v.ev.seq == u / 64 && v.ev.k == u % 64)

/-- S_m of the repetition a MATCH judges next: its latest compare event that gave a result, or its start (R168, R225). -/
def State.repEvent (s : State) (g : Seg) (c : Cond) : Int :=
  let l := (c.ats.filter (fun p => p.1 == c.rep)).map (·.2)
  l.foldl max (l.headD (s.paceAt g (c.u0 + c.rep)))

/-- A non-hold UI before UI `u` of the segment has no result yet on a channel that is to give one. -/
def Chan.plainOutstanding (c : Chan) (segId u : Nat) : Bool :=
  let hit := fun (b : Block) => b.segId == segId && decide (64 * b.seq < u)
  c.fifo.any hit || c.flying.any hit || c.play.any (fun p => hit p.blk && decide (64 * p.blk.seq + p.k < u))
    || c.cmpEvs.any (fun v => v.segId == segId && !v.holdv) || c.results.any (fun v => v.ev.segId == segId && !v.ev.holdv)

/-- The timeset of a UI of the instruction in IR (R121). -/
def Eng.uiTs (x : Eng) : Nat := if bit x.ir 241 then bits x.ir 242 6 else x.curTs

/-- MATCH_RESULT: the result of the next repetition of a MATCH, or the resolution of a JMPF (R115, R168; 11 R227). -/
def State.matchStep (s : State) (e : Nat) : State :=
  let x := s.te e
  match x.cur, x.cond with
  | some g, some c =>
    if c.res.isSome then s
    else if c.kind = 1 then
      let u := c.u0 + c.rep
      let td := s.repEvent g c + 320 * fsNs
      if x.uis ≤ u ∨ ¬ ttReached s.now td ∨ g.chans.any (fun ch => (s.chan ch).uiOutstanding g.segId u) then s
      else if ¬ c.fails.contains c.rep then
        (s.resolve e true td td).modTe e (fun x => { x with pendMatch := some true })
      else if c.timeout ≤ c.rep + 1 then
        (s.resolve e false td td).modTe e (fun x => { x with pendMatch := some false })
      else s.modTe e (fun x => { x with cond := some { c with rep := c.rep + 1, ats := c.ats.filter (fun p => p.1 != c.rep) } })
    else if c.kind = 2 then
      let td := max x.lastCmp (s.paceAt g c.u0) + 320 * fsNs
      let open_ := decide (64 * x.posted < c.u0) || g.chans.any (fun ch => (s.chan ch).plainOutstanding g.segId c.u0)
      if ¬ ttReached s.now td ∨ open_ then s
      else
        let taken := x.fail != c.sense
        (s.resolve e (!taken) td td).modTe e (fun x => { x with pendMatch := some taken })
    else s
  | _, _ => s

def execMatchResult (e : Nat) (s : State) : Host.Outcome State Fault Refusal :=
  onUnit (decide (e < nEng)) (s.matchStep e)

/-- COND_TIMEOUT: at T_out an unresolved SYNC takes its timeout path; a completion or stamp in time is taken first; a
MATCH takes it with the result of its last repetition (R168, R176). -/
def State.condTimeout (s : State) (e : Nat) : State :=
  let x := s.te e
  match x.cur, x.cond with
  | some g, some c =>
    if c.res.isSome then s
    else if c.kind = 1 then (if c.timeout ≤ c.rep + 1 then s.matchStep e else s)
    else if c.kind = 3 ∨ c.kind = 4 then
      let t := s.tOut g c
      let line := s.trigIn c.sel
      if ¬ ttLe t s.now ∨ (c.kind = 4 ∧ line.owner = g.site
          ∧ line.flight.any (fun tt => ttLe (s.paceAt g c.u0) tt && ttLt tt t)) then s
      else
        let s1 := s.takeBarrier e
        if (s1.te e).cond.any (fun d => d.res.isSome) then s1 else s1.resolve e false t t
    else s
  | _, _ => s

def execCondTimeout (e : Nat) (s : State) : Host.Outcome State Fault Refusal :=
  onUnit (decide (e < nEng)) (s.condTimeout e)

/-- CACHE_MISS_FILL: the line a stalled word waits for has been read (07 R133). No line is read before HBM_CLEAR (02
R40). -/
def State.missFill (s : State) (e : Nat) : State :=
  match (s.te e).miss, (s.te e).cur with
  | some l, some g => if ¬ s.glb.hbmClear then s else (s.modTe e (fun x => { x with miss := none })).cacheTouch g.site l
  | _, _ => s

def execCacheMissFill (e : Nat) (s : State) : Host.Outcome State Fault Refusal :=
  onUnit (decide (e < nEng)) (s.missFill e)

end Sys2Proof.Machine
end

