-- ==== Sys2Proof/Machine/Program.lean ====
section
/-! DEFINITION. Family: the vector instructions (06_pattern_model.md R106 to R124, dispatch checks 07 R132). A row names
an engine; it acts on the instruction word at the engine's fetch pointer, or goes on with that instruction. An
instruction that produces UIs stops at each complete block until BLOCK_POST has posted it; the next row of the same name
goes on. -/

namespace Sys2Proof.Machine

/-- The opcodes of the table (R109). -/
def opcodes : List Nat :=
  [0x00, 0x01, 0x02, 0x03, 0x04, 0x05, 0x06, 0x07, 0x0F, 0x10, 0x11, 0x12, 0x13, 0x14, 0x15, 0x20, 0x30, 0x31]
/-- The opcodes that use their TS field, and those allowed only in a tethered segment (07 R131). -/
def tsUse (op : Nat) : Bool := [0x01, 0x02, 0x04, 0x07, 0x11, 0x20, 0x30, 0x31].contains op
def condOp (op : Nat) : Bool := op == 0x11 || op == 0x20

/-- Bits [223:0] an opcode assigns; the others are reserved (R106, R109). -/
def operandMask (op : Nat) : Nat :=
  match op with
  | 0x01 => 2 ^ 32 - 1 | 0x02 => 2 ^ 32 - 1 | 0x03 => 2 ^ 32 - 1
  | 0x05 => 0xFFFF1FFF | 0x06 => 0xFFFF1FFF
  | 0x07 => 2 ^ 77 - 1
  | 0x10 => 2 ^ 32 - 1 | 0x11 => 2 ^ 33 - 1 | 0x12 => 2 ^ 32 - 1 | 0x14 => 2 ^ 32 - 1
  | 0x20 => 2 ^ 64 - 1 | 0x30 => 2 ^ 112 - 1 | 0x31 => 2 ^ 144 - 1
  | _ => 0

/-- Operand bits outside the mask. -/
def strayBits (op ir : Nat) : Bool := (bits ir 0 224 ||| operandMask op) != operandMask op

/-- The dispatch checks in order; 0 when all pass (07 R132 checks 2 to 5), from the entry's VALID, TS_USE and COND_OP
flags. `n` counts this instruction. -/
def dispatchCheck (valid ts cond : Bool) (ir n : Nat) (tethered : Bool) : Nat :=
  if ¬ valid then Code.segOpcode
  else if bits ir 224 17 ≠ 0 ∨ (¬ ts ∧ bits ir 241 7 ≠ 0) then Code.segFormat
  else if cond ∧ ¬ tethered then Code.segTether
  else if 65536 ≤ n then Code.segSpin
  else 0

/-- The checks of a decoded instruction: those of its dispatch, then its routine's of the operand bits that its opcode
does not assign (R107). -/
def decodeCheck (op ir n : Nat) (tethered : Bool) : Nat :=
  let c := dispatchCheck (opcodes.contains op) (tsUse op) (condOp op) ir n tethered
  if c ≠ 0 then c else if strayBits op ir then Code.segFormat else 0

/-- The engine can act for its segment now. -/
def State.engReady (s : State) (e : Nat) (g : Seg) : Bool :=
  let x := s.te e
  !x.taking && !x.reload && !x.handler && x.full.isNone && x.miss.isNone && ttLe x.beginAt s.now && s.siteGoing g.site

/-- The instruction is done: `n` data words follow it. -/
def State.advance (s : State) (e n : Nat) : State :=
  s.modTe e (fun x => { x with fetch := x.ipoff + 1 + n, job := none, laneDone := 0, stream := [] })
/-- Execution continues at a word offset. -/
def State.goto (s : State) (e off : Nat) : State :=
  s.modTe e (fun x => { x with fetch := off, job := none, laneDone := 0, stream := [] })

/-- Dispatch the word at the fetch pointer when its opcode is one the row names, or go on with the instruction under way
(`act g ir` with IR). -/
def State.instr (s : State) (e : Nat) (names : Nat → Bool) (act : Seg → Nat → State → State) : State :=
  let x := s.te e
  match x.cur with
  | none => s
  | some g =>
    if ¬ s.engReady e g then s
    else if s.cutReached e g then s.endSeg e
    else if x.job.isSome then (if names x.op then act g x.ir s else s)
    else match s.fetchAll g [x.fetch] with
      | .beyond => s.segErr e Code.segRange
      | .miss l => s.modTe e (fun x => { x with miss := some l })
      | .ok =>
        let ir := s.streamWord g x.fetch
        let op := bits ir 248 8
        if ¬ names op then s
        else
          let s1 := (s.cacheTouch g.site (g.line x.fetch)).modTe e (fun x => { x with
            ir := ir, op := op, ipoff := x.fetch, fetch := x.fetch + 1, spin := x.spin + 1 })
          let c := decodeCheck op ir (x.spin + 1) g.tethered
          if c ≠ 0 then s1.segErr e c else act g ir s1

/-- Run an instruction's UIs from number `k` on, up to the end of a block. `need k` are the stream words UI `k` reads,
`ui t k` its base symbols. At the end `fin`. -/
def State.emitRun (e : Nat) (g : Seg) (K ts : Nat) (hold plain : Bool) (need : Nat → List Nat)
    (ui : State → Nat → List Nat) (fin : State → State) : Nat → Nat → State → State
  | 0, k, s => s.modTe e (fun x => { x with job := some k })
  | n + 1, k, s =>
    if K ≤ k then fin s
    else if (s.te e).full.isSome ∨ s.noRoom e g then s.modTe e (fun x => { x with job := some k })
    else if (s.te e).full32 then s.segErr e Code.segRange
    else match s.fetchAll g (need k) with
      | .beyond => s.segErr e Code.segRange
      | .miss l => s.modTe e (fun x => { x with job := some k, miss := some l })
      | .ok => State.emitRun e g K ts hold plain need ui fin n (k + 1)
          ((s.putUi e g (ui s k) ts hold plain).touchAll g (need k))

/-- UIs already produced by the instruction under way. -/
def State.jobOf (s : State) (e : Nat) : Nat := (s.te e).job.getD 0
/-- Words `w` to `w + n - 1`. -/
def wordRange (w n : Nat) : List Nat := (List.range n).map (· + w)

/-- COUNT outside 1..m ends the segment with SEG_OPERAND. -/
def State.counted (s : State) (e c m : Nat) (act : State → State) : State :=
  if c = 0 ∨ m < c then s.segErr e Code.segOperand else act s

def execNop (e : Nat) (s : State) : Host.Outcome State Fault Refusal :=
  onUnit (decide (e < nEng)) (s.instr e (· == 0x00) (fun _ _ t => t.advance e 0))

/-- VEC: K UIs from consecutive codes (R108, R109). -/
def State.vec (s : State) (e : Nat) (g : Seg) (ir : Nat) : State :=
  let k := bits ir 0 32
  let d := (s.te e).ipoff + 1
  s.counted e k 65536 (fun t =>
    t.emitRun e g k (t.te e).uiTs false true
      (fun u => wordRange (d + u * g.n / 64) ((u * g.n + g.n - 1) / 64 - u * g.n / 64 + 1))
      (fun v u => v.codesAt g d (u * g.n)) (fun v => v.advance e ((k * g.n + 63) / 64)) 65 (t.jobOf e))
def execVec (e : Nat) (s : State) : Host.Outcome State Fault Refusal :=
  onUnit (decide (e < nEng)) (s.instr e (· == 0x01) (fun g ir t => t.vec e g ir))

/-- RPT: one vector C times. -/
def State.rpt (s : State) (e : Nat) (g : Seg) (ir : Nat) : State :=
  let k := bits ir 0 32
  let d := (s.te e).ipoff + 1
  s.counted e k (2 ^ 32 - 1) (fun t =>
    t.emitRun e g k (t.te e).uiTs false true (fun _ => wordRange d g.vw)
      (fun v _ => v.codesAt g d 0) (fun v => v.advance e g.vw) 65 (t.jobOf e))
def execRpt (e : Nat) (s : State) : Host.Outcome State Fault Refusal :=
  onUnit (decide (e < nEng)) (s.instr e (· == 0x02) (fun g ir t => t.rpt e g ir))

/-- HOLD: H UIs of symbol HOLD on every position. -/
def State.holdUis (s : State) (e : Nat) (g : Seg) (ir : Nat) : State :=
  let k := bits ir 0 32
  s.counted e k (2 ^ 32 - 1) (fun t =>
    t.emitRun e g k (t.te e).curTs false true (fun _ => [])
      (fun _ _ => List.replicate g.n symHOLD) (fun v => v.advance e 0) 65 (t.jobOf e))
def execHold (e : Nat) (s : State) : Host.Outcome State Fault Refusal :=
  onUnit (decide (e < nEng)) (s.instr e (· == 0x03) (fun g ir t => t.holdUis e g ir))

/-- TSET (R107, R121). -/
def State.tset (s : State) (e ir : Nat) : State :=
  if bit ir 241 then s.segErr e Code.segFormat
  else (s.modTe e (fun x => { x with curTs := bits ir 242 6 })).advance e 0
def execTset (e : Nat) (s : State) : Host.Outcome State Fault Refusal :=
  onUnit (decide (e < nEng)) (s.instr e (· == 0x04) (fun _ ir t => t.tset e ir))

/-- LVL (R118). -/
def State.lvl (s : State) (e : Nat) (g : Seg) (ir : Nat) : State :=
  let pos := bits ir 0 8
  if (¬ bit ir 8 ∧ g.n ≤ pos) ∨ 9 < bits ir 9 4 then s.segErr e Code.segOperand
  else (s.lvlSend g (s.te e).uis (if bit ir 8 then List.range g.n else [pos]) (bits ir 9 4) (bits ir 16 16)).advance e 0
def execLvl (e : Nat) (s : State) : Host.Outcome State Fault Refusal :=
  onUnit (decide (e < nEng)) (s.instr e (· == 0x05) (fun g ir t => t.lvl e g ir))

/-- MARK (R117). -/
def State.markInstr (s : State) (e : Nat) (g : Seg) (ir : Nat) : State :=
  if g.n ≤ bits ir 0 8 then s.segErr e Code.segOperand
  else (s.mark g (s.te e).uis (bits ir 0 8) (bits ir 8 4) (bit ir 12) (bits ir 16 16)).advance e 0
def execMark (e : Nat) (s : State) : Host.Outcome State Fault Refusal :=
  onUnit (decide (e < nEng)) (s.instr e (· == 0x06) (fun g ir t => t.markInstr e g ir))

/-! ### Conditional instructions (R113 to R115, 08 R167 to R169) -/

/-- Base symbols of the hold vector at word `d`. -/
def State.holdVec (s : State) (g : Seg) (d : Nat) : List Nat := (s.codesAt g d 0).map holdSym

/-- No position of the hold vector compares in repetition 0 (R115). -/
def State.noCompare (s : State) (e : Nat) (g : Seg) (syms : List Nat) : Bool :=
  !(List.zipWith (holdEff true) (s.prevsOf e g) syms).any isCompare

/-- Leave the condition: after the instruction, or at TARGET. -/
def State.condExit (s : State) (e : Nat) (g : Seg) (c : Cond) (after : Bool) : State :=
  (s.goto e (if after then (s.te e).ipoff + 1 + g.vw else c.target)).modTe e (fun x => { x with
    cond := none, pendSync := false, pendMatch := none, mdone := false, mflag := false, sflag := false })

/-- The hold loop: gated repetitions while the condition is open, exit fill once it is resolved (R114, R167, R169). The
gate is judged where a repetition begins a block: repetitions that fill the block in which the condition began are not
gated (DESIGN CHOICE, log entry 55). -/
def State.holdLoop (e : Nat) (g : Seg) (ts : Nat) (syms : List Nat) : Nat → State → State
  | 0, s => s.modTe e (fun x => { x with job := some 0 })
  | n + 1, s =>
    let x := s.te e
    match x.cond with
    | none => s
    | some c =>
      if x.full.isSome then s.modTe e (fun x => { x with job := some 0 })
      else match c.res with
        | none =>
          if (x.uis % 64 = 0 ∧ ttLe (s.now + (s.site g.site).tether * fsNs) (s.paceAt g x.uis)) ∨ s.noRoom e g then
            s.modTe e (fun x => { x with job := some 0 })
          else if x.full32 then s.segErr e Code.segRange
          else State.holdLoop e g ts syms n (s.putUi e g syms ts true false)
        | some (after, td, E) =>
          let out := s.exitUi g c.u0 (max E (td + (s.site g.site).tether * fsNs))
          if out ≤ x.uis ∧ x.uis % 64 = 0 then s.condExit e g c after
          else if s.noRoom e g then s.modTe e (fun x => { x with job := some 0 })
          else if x.full32 then s.segErr e Code.segRange
          else State.holdLoop e g ts syms n (s.putUi e g syms ts true false)

/-- Begin or go on with a conditional instruction; `start` gives its condition at decode. -/
def State.conditional (s : State) (e : Nat) (g : Seg) (start : State → Cond) : State :=
  let x := s.te e
  let d := x.ipoff + 1
  match s.fetchAll g (wordRange d g.vw) with
  | .beyond => s.segErr e Code.segRange
  | .miss l => s.modTe e (fun x => { x with miss := some l, job := some 0 })
  | .ok =>
    let syms := s.holdVec g d
    if x.cond.isSome then State.holdLoop e g x.uiTs syms 65 s
    else
      let c := start s
      if c.kind = 1 ∧ s.noCompare e g syms then s.segErr e Code.segOperand
      else
        let s1 := (s.modTe e (fun x => { x with cond := some (({ c with u0 := x.uis, since := s.now } : Cond).opened g), job := some 0 })).touchAll g
          (wordRange d g.vw)
        State.holdLoop e g x.uiTs syms 65 (if c.kind = 3 then s1.takeBarrier e else s1)

/-- SYNC (R115): the checks, the arrival at decode, then the wait. -/
def State.syncInstr (s : State) (e : Nat) (g : Seg) (ir : Nat) : State :=
  let x := s.te e
  let signal := bit ir 72
  let wait := bit ir 73
  let src := bit ir 74
  let b := bits ir 64 8
  let timeout := bits ir 0 32
  let target := bits ir 32 32
  if x.job.isSome then s.conditional e g (fun t =>
    { kind := if src then 4 else 3, timeout := timeout, target := target, sel := if src then bits ir 75 2 else b
      gen := (t.te e).cond.elim ((t.barrier g.site b).gen) (·.gen) })
  else if wait ∧ ¬ g.tethered then s.segErr e Code.segTether
  else if (¬ signal ∧ ¬ wait) ∨ (src ∧ signal) ∨ (¬ wait ∧ (timeout ≠ 0 ∨ target ≠ 0)) ∨ (wait ∧ timeout = 0) then
    s.segErr e Code.segOperand
  else if wait ∧ g.len ≤ target then s.segErr e Code.segRange
  else
    let gen := (s.barrier g.site b).gen
    let ready := !wait || (s.fetchAll g (wordRange (x.ipoff + 1) g.vw) == .ok)
    let s1 := if signal ∧ ready then s.arrive g.site b (s.uiAt g (g.chans.headD 0) x.uis) else s
    if ¬ wait then s1.advance e 0
    else if ¬ ready then s1.modTe e (fun x => { x with fetch := x.ipoff, spin := x.spin - 1, miss := match s.fetchAll g (wordRange (x.ipoff + 1) g.vw) with
      | .miss l => some l
      | _ => none }) |> (fun t => if s.fetchAll g (wordRange (x.ipoff + 1) g.vw) = .beyond then t.segErr e Code.segRange else t)
    else s1.conditional e g (fun _ =>
      { kind := if src then 4 else 3, timeout := timeout, target := target, sel := if src then bits ir 75 2 else b, gen := gen })
def execSync (e : Nat) (s : State) : Host.Outcome State Fault Refusal :=
  onUnit (decide (e < nEng)) (s.instr e (· == 0x07) (fun g ir t => t.syncInstr e g ir))

/-- MATCH (R115). The specification gives no order of an instruction's own operand checks: TIMEOUT before TARGET here and
in SYNC, TARGET before the pattern stack in CALL, operands before the decompressor's in DECOMP (DESIGN CHOICE, log entry
56). -/
def State.matchInstr (s : State) (e : Nat) (g : Seg) (ir : Nat) : State :=
  if bits ir 0 32 = 0 then s.segErr e Code.segOperand
  else if g.len ≤ bits ir 32 32 then s.segErr e Code.segRange
  else s.conditional e g (fun _ => { kind := 1, timeout := bits ir 0 32, target := bits ir 32 32 })
def execMatch (e : Nat) (s : State) : Host.Outcome State Fault Refusal :=
  onUnit (decide (e < nEng)) (s.instr e (· == 0x20) (fun g ir t => t.matchInstr e g ir))

/-- JMPF (R115). -/
def State.jmpf (s : State) (e : Nat) (g : Seg) (ir : Nat) : State :=
  if g.len ≤ bits ir 0 32 then s.segErr e Code.segRange
  else s.conditional e g (fun _ => { kind := 2, target := bits ir 0 32, sense := bit ir 32 })
def execJmpf (e : Nat) (s : State) : Host.Outcome State Fault Refusal :=
  onUnit (decide (e < nEng)) (s.instr e (· == 0x11) (fun g ir t => t.jmpf e g ir))

/-! ### Control flow (R101, R110, R111) -/

/-- HALT: pad to the block end with HOLD, then halt once every block is posted (R101). -/
def State.haltInstr (s : State) (e : Nat) (g : Seg) : State :=
  let pad := (64 - (s.te e).uis % 64) % 64
  if pad = 0 then s.halt e g
  else s.emitRun e g pad (s.te e).curTs false false (fun _ => []) (fun _ _ => List.replicate g.n symHOLD)
    (fun v => v.modTe e (fun x => { x with job := some 0 })) 65 0
def execHalt (e : Nat) (s : State) : Host.Outcome State Fault Refusal :=
  onUnit (decide (e < nEng)) (s.instr e (· == 0x0F) (fun g _ t => t.haltInstr e g))

def State.jmp (s : State) (e : Nat) (g : Seg) (ir : Nat) : State :=
  if g.len ≤ bits ir 0 32 then s.segErr e Code.segRange else s.goto e (bits ir 0 32)
def execJmp (e : Nat) (s : State) : Host.Outcome State Fault Refusal :=
  onUnit (decide (e < nEng)) (s.instr e (· == 0x10) (fun g ir t => t.jmp e g ir))

def State.call (s : State) (e : Nat) (g : Seg) (ir : Nat) : State :=
  if g.len ≤ bits ir 0 32 then s.segErr e Code.segRange
  else if 8 ≤ (s.te e).pstack.length then s.segErr e Code.segStack
  else (s.modTe e (fun x => { x with pstack := { off := x.ipoff + 1 } :: x.pstack })).goto e (bits ir 0 32)
def execCall (e : Nat) (s : State) : Host.Outcome State Fault Refusal :=
  onUnit (decide (e < nEng)) (s.instr e (· == 0x12) (fun g ir t => t.call e g ir))

def State.ret (s : State) (e : Nat) : State :=
  match (s.te e).pstack with
  | f :: t => if f.loop then s.segErr e Code.segStack else (s.modTe e (fun x => { x with pstack := t })).goto e f.off
  | [] => s.segErr e Code.segStack
def execRet (e : Nat) (s : State) : Host.Outcome State Fault Refusal :=
  onUnit (decide (e < nEng)) (s.instr e (· == 0x13) (fun _ _ t => t.ret e))

def State.loop (s : State) (e ir : Nat) : State :=
  s.counted e (bits ir 0 32) (2 ^ 32 - 1) (fun t =>
    if 8 ≤ (t.te e).pstack.length then t.segErr e Code.segStack
    else (t.modTe e (fun x => { x with pstack := { loop := true, count := bits ir 0 32, off := x.ipoff + 1 } :: x.pstack })).advance e 0)
def execLoop (e : Nat) (s : State) : Host.Outcome State Fault Refusal :=
  onUnit (decide (e < nEng)) (s.instr e (· == 0x14) (fun _ ir t => t.loop e ir))

def State.endLoop (s : State) (e : Nat) : State :=
  match (s.te e).pstack with
  | f :: t =>
    if ¬ f.loop then s.segErr e Code.segStack
    else if 1 < f.count then (s.modTe e (fun x => { x with pstack := { f with count := f.count - 1 } :: t })).goto e f.off
    else (s.modTe e (fun x => { x with pstack := t })).advance e 0
  | [] => s.segErr e Code.segStack
def execEndloop (e : Nat) (s : State) : Host.Outcome State Fault Refusal :=
  onUnit (decide (e < nEng)) (s.instr e (· == 0x15) (fun _ _ t => t.endLoop e))

/-- INVALID_OPCODE: an opcode not in the table ends the segment with SEG_OPCODE (R109, 07 R132 check 2). -/
def execInvalidOpcode (e : Nat) (s : State) : Host.Outcome State Fault Refusal :=
  onUnit (decide (e < nEng)) (s.instr e (fun op => !opcodes.contains op) (fun _ _ t => t))

/-! ### Scan (R122 to R124) -/

/-- The used slots: (position, kind) in slot order. -/
def slots (ir : Nat) : List (Nat × Nat) :=
  ((List.range 8).map (fun k => (bits ir (32 + 8 * k) 8, bits ir (96 + 2 * k) 2))).filter (fun p => p.2 != 0)
/-- S: scan bits per UI. -/
def scanWidth (l : List (Nat × Nat)) : Nat := (l.map (·.2)).foldl (· + ·) 0
def slotsBad (l : List (Nat × Nat)) (n : Nat) : Bool :=
  l.any (fun p => p.2 == 3 || decide (n ≤ p.1)) || scanWidth l == 0 || ((l.map (·.1)).eraseDups.length != l.length)

/-- The base symbols the scan slots take from S bits: (position, symbol) (R123). -/
def scanSyms : List (Nat × Nat) → List Bool → List (Nat × Nat)
  | [], _ => []
  | (p, 1) :: t, bs => (p, if bs.headD false then symD1 else symD0) :: scanSyms t (bs.drop 1)
  | (p, _) :: t, bs =>
    (p, match bs.headD false, bs.getD 1 false with
      | false, false => 3 | true, false => 4 | false, true => symMASK | true, true => 5) :: scanSyms t (bs.drop 2)

/-- A background vector with the scan positions replaced. -/
def withScan (bg : List Nat) (l : List (Nat × Nat)) : List Nat := l.foldl (fun v p => v.set p.1 p.2) bg

/-- SCAN: bit j of the stream is bit j mod 256 of word ⌊j / 256⌋ after the background vector. -/
def State.scan (s : State) (e : Nat) (g : Seg) (ir : Nat) : State :=
  let k := bits ir 0 32
  let l := slots ir
  let w := scanWidth l
  let d := (s.te e).ipoff + 1
  let d2 := d + g.vw
  s.counted e k (2 ^ 32 - 1) (fun t =>
    if slotsBad l g.n then t.segErr e Code.segOperand
    else t.emitRun e g k (t.te e).uiTs false true
      (fun u => wordRange d g.vw ++ wordRange (d2 + u * w / 256) ((u * w + w - 1) / 256 - u * w / 256 + 1))
      (fun v u => withScan (v.codesAt g d 0) (scanSyms l ((List.range w).map (fun i =>
        bit (v.streamWord g (d2 + (u * w + i) / 256)) ((u * w + i) % 256)))))
      (fun v => v.advance e (g.vw + (k * w + 255) / 256)) 65 (t.jobOf e))
def execScan (e : Nat) (s : State) : Host.Outcome State Fault Refusal :=
  onUnit (decide (e < nEng)) (s.instr e (· == 0x30) (fun g ir t => t.scan e g ir))

/-- The decompressor table as its words give it (R124). -/
def State.tableOf (s : State) (g : Seg) : List Nat :=
  (List.range g.dEntries).map (fun i => bits (s.streamWord g (g.dOff + i / 8)) (32 * (i % 8)) 32)
def entryBad (w : Nat) : Bool := bits w 0 5 == 0 || decide (24 < bits w 0 5) || bits w 5 3 != 0
/-- The bits an entry appends, lowest first. -/
def entryBits (w : Nat) : List Bool := (List.range (bits w 0 5)).map (fun i => bit w (8 + i))

/-- What expanding codes up to `w` bits came to: enough bits, a miss, or an error. -/
inductive Expand where
  | bits (l : List Bool) (next : Nat) | miss (line : Nat) | bad | beyond
deriving DecidableEq, Repr

/-- Expand codes from number `j` until the stream holds `w` bits. -/
def State.expand (s : State) (g : Seg) (table : List Nat) (d3 cbytes w : Nat) : Nat → List Bool → Nat → Expand
  | 0, l, j => if w ≤ l.length then .bits l j else .bad
  | n + 1, l, j =>
    if w ≤ l.length then .bits l j
    else if cbytes ≤ j then .bad
    else match s.fetchAll g [d3 + j / 32] with
      | .beyond => .beyond
      | .miss m => .miss m
      | .ok =>
        let code := bits (s.streamWord g (d3 + j / 32)) (8 * (j % 32)) 8
        match table[code]? with
        | none => .bad
        | some w32 => s.expand g table d3 cbytes w n (l ++ entryBits w32) (j + 1)

/-- The UIs of a DECOMP, as `emitRun`, with the expansion of the codes; `laneDone` counts the codes used. -/
def State.decompRun (e : Nat) (g : Seg) (l : List (Nat × Nat)) (table : List Nat) (K ts cbytes d : Nat) : Nat → Nat → State → State
  | 0, k, s => s.modTe e (fun x => { x with job := some k })
  | n + 1, k, s =>
    let x := s.te e
    if K ≤ k then
      (if x.laneDone < cbytes then s.segErr e Code.segDecomp else s.advance e (g.vw + (cbytes + 31) / 32))
    else if x.full.isSome ∨ s.noRoom e g then s.modTe e (fun x => { x with job := some k })
    else if x.full32 then s.segErr e Code.segRange
    else match s.fetchAll g (wordRange d g.vw) with
      | .beyond => s.segErr e Code.segRange
      | .miss m => s.modTe e (fun x => { x with job := some k, miss := some m })
      | .ok =>
        match s.expand g table (d + g.vw) cbytes (scanWidth l) 17 x.stream x.laneDone with
        | .bad => s.segErr e Code.segDecomp
        | .beyond => s.segErr e Code.segRange
        | .miss m => s.modTe e (fun x => { x with job := some k, miss := some m })
        | .bits bs j =>
          State.decompRun e g l table K ts cbytes d n (k + 1)
            (((s.putUi e g (withScan (s.codesAt g d 0) (scanSyms l bs)) ts false true).modTe e (fun x => { x with
              stream := bs.drop (scanWidth l), laneDone := j })).touchAll g (wordRange (d + g.vw + x.laneDone / 32)
                ((j + 31) / 32 - x.laneDone / 32)))

/-- DECOMP (R122, R124): the table is loaded and judged at the segment's first DECOMP. -/
def State.decomp (s : State) (e : Nat) (g : Seg) (ir : Nat) : State :=
  let k := bits ir 0 32
  let cb := bits ir 112 32
  let l := slots ir
  if k = 0 ∨ cb = 0 ∨ slotsBad l g.n then s.segErr e Code.segOperand
  else if ¬ g.hasTable then s.segErr e Code.segDecomp
  else match (s.te e).table with
    | some tb => State.decompRun e g l tb k (s.te e).uiTs cb ((s.te e).ipoff + 1) 65 (s.jobOf e) s
    | none =>
      match s.fetchAll g (wordRange g.dOff ((g.dEntries + 7) / 8)) with
      | .beyond => s.segErr e Code.segRange
      | .miss m => s.modTe e (fun x => { x with miss := some m, job := some 0 })
      | .ok =>
        let tb := s.tableOf g
        if tb.any entryBad then s.segErr e Code.segDecomp
        else State.decompRun e g l tb k (s.te e).uiTs cb ((s.te e).ipoff + 1) 65 0
          ((s.modTe e (fun x => { x with table := some tb })).touchAll g (wordRange g.dOff ((g.dEntries + 7) / 8)))
def execDecomp (e : Nat) (s : State) : Host.Outcome State Fault Refusal :=
  onUnit (decide (e < nEng)) (s.instr e (· == 0x31) (fun g ir t => t.decomp e g ir))

end Sys2Proof.Machine
end

