-- ==== Sys2Proof/Machine/Micro.lean ====
section
/-! DEFINITION. Family: microwords, interrupts, machine checks and reloads of the tin engines (07_tin_engines.md R127 to
R145, R149). -/

namespace Sys2Proof.Machine

/-! ### Microwords (R127 to R130) -/

/-- An engine's control store and dispatch table. -/
def State.store (s : State) (e : Nat) : CStore := Tbl.get {} s.stores e
/-- The control-store word at the engine's micro-PC, with its parity bits, and its 128 data bits. -/
def State.rawWord (s : State) (e : Nat) : Nat := (s.store e).words.getD (s.te e).upc 0
def State.uword (s : State) (e : Nat) : Nat := s.rawWord e % 2 ^ 128
/-- An opcode's dispatch entry. -/
def State.entry (s : State) (e op : Nat) : Nat := (s.store e).entries.getD op 0
def uSafe (w : Nat) : Bool := bit w 127
def uSeq (w : Nat) : Nat := bits w 124 3
def uWait (w : Nat) : Bool := bit w 116
def uAddr (w : Nat) : Nat := bits w 104 12
def uFetch (w : Nat) : Nat := bits w 68 4
def uEmit (w : Nat) : Nat := bits w 64 4
def uEvent (w : Nat) : Nat := bits w 56 4

/-- COUNT operand of the instruction in IR. -/
def Eng.opCount (x : Eng) : Nat := bits x.ir 0 32

/-- A microword condition (R128). -/
def Eng.uCond (x : Eng) (k : Nat) : Bool :=
  match k with
  | 0 => true | 1 => x.z | 2 => x.neg | 3 => x.carry | 4 => x.uc0 == 0 | 5 => x.mdone | 6 => x.mflag | 7 => x.sflag
  | 8 => x.fail | 9 => x.uis % 64 == 0 | 10 => x.cur.any (·.tethered) | 11 => x.mdone || x.uc0 == 0
  | 12 => x.sflag || x.uc0 == 0 | _ => false

/-- An ALU source (R128). -/
def Eng.uSrc (x : Eng) (k imm : Nat) : Nat :=
  if k < 8 then Tbl.get 0 x.gr k
  else if k = 8 then imm
  else if k ≤ 13 then bits x.ir (32 * (k - 9)) 32
  else if k = 14 then x.evtWord % 2 ^ 32
  else (x.cur.elim 0 (·.n)) % 256 + x.pstack.length * 256

/-- ALU result and CARRY (R128); MOV and the logic operations leave CARRY. -/
def aluOp (op a b : Nat) (carry : Bool) : Nat × Bool :=
  match op with
  | 1 => (a, carry)
  | 2 => ((a + b) % 2 ^ 32, decide (2 ^ 32 ≤ a + b))
  | 3 => ((a + 2 ^ 32 - b) % 2 ^ 32, decide (a < b))
  | 4 => (a &&& b, carry) | 5 => (a ||| b, carry) | 6 => (a ^^^ b, carry)
  | 7 => ((a <<< (b % 32)) % 2 ^ 32, carry) | 8 => (a >>> (b % 32), carry)
  | _ => ((a + 2 ^ 32 - b) % 2 ^ 32, decide (a < b))

/-- The ALU part of a word, its sources read from the engine at the start of the cycle `x0`. A write to IPNEXT outside
the stream ends the segment with SEG_RANGE (R110). -/
def State.uAlu (s : State) (e : Nat) (x0 : Eng) (w : Nat) : State :=
  let op := bits w 100 4
  if op = 0 then s
  else if op = 10 then
    let v := x0.uc0 - 1
    s.modTe e (fun x => { x with uc0 := v, z := v == 0, neg := false })
  else
    let r := aluOp op (x0.uSrc (bits w 92 4) (bits w 72 16)) (x0.uSrc (bits w 88 4) (bits w 72 16)) x0.carry
    let s1 := s.modTe e (fun x => { x with z := r.1 == 0, neg := bit r.1 31, carry := r.2 })
    let dst := bits w 96 4
    if op = 9 then s1
    else if dst < 8 then s1.modTe e (fun x => { x with gr := Tbl.set 0 x.gr dst r.1 })
    else if dst = 8 then s1.modTe e (fun x => { x with uc0 := r.1 })
    else if dst = 9 then
      (if x0.cur.any (fun g => decide (g.len ≤ r.1)) then s1.segErr e Code.segRange
       else s1.modTe e (fun x => { x with ipnext := r.1 }))
    else s1

/-- The fetch pointer after the FETCH part. -/
def Eng.fetchNext (x : Eng) (w : Nat) : Nat :=
  match uFetch w with | 1 => x.fetch + 1 | 2 => x.ipnext | 3 => x.fetch + 1 | _ => x.fetch
/-- The words a FETCH and a DISPATCH of the microword read. -/
def Eng.uNeeds (x : Eng) (w : Nat) : List Nat :=
  (if uFetch w = 1 ∨ uFetch w = 3 then [x.fetch] else []) ++ (if uSeq w = 5 ∧ ¬ uWait w then [x.fetchNext w] else [])

/-- The FETCH part: DATA goes to the staging buffer of 4 words, or past the W vector words of a SCAN or DECOMP into the
scan stream or the codes; TABLE into the decompressor table, of which only the segment's E entries count, each judged as
it is loaded (R124); BRANCH moves the fetch pointer. -/
def State.uFetchAct (s : State) (e : Nat) (x0 : Eng) (g : Seg) (w : Nat) : State :=
  let v := s.streamWord g x0.fetch
  match uFetch w with
  | 1 =>
    let s1 := (s.cacheTouch g.site (g.line x0.fetch)).modTe e (fun x => { x with fetch := x0.fetch + 1 })
    if x0.op = 0x30 ∧ g.vw ≤ x0.staging.length then
      s1.modTe e (fun x => { x with stream := x.stream ++ (List.range 256).map (fun i => bit v i) })
    else if x0.op = 0x31 ∧ g.vw ≤ x0.staging.length then
      s1.modTe e (fun x => { x with codes := x.codes ++ (List.range 32).map (fun i => bits v (8 * i) 8) })
    else s1.modTe e (fun x => { x with staging := (x.staging ++ [v]).drop ((x.staging.length + 1) - 4) })
  | 2 => s.modTe e (fun x => { x with fetch := x0.ipnext })
  | 3 =>
    let tb := ((x0.table.getD []) ++ (List.range 8).map (fun i => bits v (32 * i) 32)).take (if g.hasTable then g.dEntries else 0)
    if tb.any entryBad then s.segErr e Code.segDecomp
    else (s.cacheTouch g.site (g.line x0.fetch)).modTe e (fun x => { x with fetch := x0.fetch + 1, table := some tb })
  | _ => s

/-- Code `i` of the staging buffer, as a base symbol of position `p`. -/
def State.stagedSym (s : State) (g : Seg) (staging : List Nat) (i p : Nat) : Nat :=
  (s.chan (g.chans.getD p 0)).symmap (bits (staging.getD (i / 64) 0) (4 * (i % 64)) 4)

/-- One lane-UI of an EMIT: its base symbol and what it uses up; none when the staged data or the count is at an end. -/
def State.laneSym (s : State) (e : Nat) (g : Seg) (kind : Nat) : Option (Nat × Eng) :=
  let x := s.te e
  let p := x.laneDone % g.n
  let total := x.opCount * g.n
  match kind with
  | 1 =>
    if total ≤ x.laneDone ∨ x.staging.isEmpty then none
    else some (s.stagedSym g x.staging (x.laneDone % 64) p,
      { x with staging := if x.laneDone % 64 = 63 ∨ x.laneDone + 1 = total then x.staging.drop 1 else x.staging })
  | 2 => if total ≤ x.laneDone then none else some (s.stagedSym g x.staging p p, x)
  | 4 => if total ≤ x.laneDone then none else some (symHOLD, x)
  | 5 =>
    let l := slots x.ir
    if total ≤ x.laneDone ∨ x.stream.length < scanWidth l then none
    else
      let own := (scanSyms l (x.stream.take (scanWidth l))).find? (fun q => q.1 == p)
      some ((own.map (·.2)).getD (s.stagedSym g x.staging p p),
        { x with stream := if p + 1 = g.n then x.stream.drop (scanWidth l) else x.stream })
  | _ => some (symHOLD, x)

/-- Up to `n` lane-UIs; a UI is complete with its last position. The padding of a HALT stops at the block end, and no UI
begins block 2^32 (06 R101). -/
def State.emitLanes (e : Nat) (g : Seg) (kind : Nat) : Nat → State → State
  | 0, s => s
  | n + 1, s =>
    let x := s.te e
    if x.lanes.isEmpty ∧ ((kind = 6 ∧ x.uis % 64 = 0) ∨ x.full32) then s
    else match s.laneSym e g kind with
      | none => s
      | some (y, x1) =>
        let lanes := x.lanes ++ [y]
        if lanes.length < g.n then
          State.emitLanes e g kind n (s.modTe e (fun _ => { x1 with lanes := lanes, laneDone := x.laneDone + 1 }))
        else
          State.emitLanes e g kind n
            ((s.modTe e (fun _ => { x1 with lanes := [], laneDone := x.laneDone + 1 })).putUi e g lanes
              x.uiTs false (kind != 6))

/-- Base symbols of the staged hold vector. -/
def State.stagedHold (s : State) (e : Nat) (g : Seg) : List Nat :=
  (List.range g.n).map (fun p => holdSym (s.stagedSym g (s.te e).staging p p))

/-- The EMIT part. -/
def State.uEmitAct (s : State) (e : Nat) (g : Seg) (w : Nat) : State :=
  match uEmit w with
  | 0 => s
  | 3 => s.putUi e g (s.stagedHold e g) (s.te e).uiTs true false
  | k => State.emitLanes e g k 32 s

/-- The word's EMIT produces a UI or a part of one. -/
def State.uEmits (s : State) (e : Nat) (g : Seg) (w : Nat) : Bool :=
  let x := s.te e
  match uEmit w with
  | 0 => false
  | 3 => true
  | 6 => !x.lanes.isEmpty || x.uis % 64 != 0
  | k => (s.laneSym e g k).isSome

/-- The word stalls: a complete block waits to be posted, the EMIT would complete one for which a FIFO has no room, or
the tethered gate is closed (R134, 08 R154, R167). -/
def State.uStalls (s : State) (e : Nat) (g : Seg) (w : Nat) : Bool :=
  let x := s.te e
  (s.uEmits e g w && (x.full.isSome || (((s.uEmitAct e g w).te e).full.isSome && !s.roomFor g (x.uis / 64)))) ||
    (uEmit w == 3 && x.cond.any (fun c => c.res.isNone) && x.uis % 64 == 0
      && ttLe (s.now + (s.site g.site).tether * fsNs) (s.paceAt g x.uis))

/-- The PSTK part (R111). -/
def State.uStack (s : State) (e : Nat) (x0 : Eng) (w : Nat) : State :=
  match bits w 60 4 with
  | 1 =>
    if 8 ≤ x0.pstack.length then s.segErr e Code.segStack
    else s.modTe e (fun x => { x with pstack := { off := x0.ipoff + 1 } :: x0.pstack })
  | 2 =>
    if 8 ≤ x0.pstack.length then s.segErr e Code.segStack
    else s.modTe e (fun x => { x with pstack := { loop := true, count := bits x0.ir 0 32, off := x0.ipoff + 1 } :: x0.pstack })
  | 3 =>
    match x0.pstack with
    | f :: t => if f.loop then s.segErr e Code.segStack else s.modTe e (fun x => { x with pstack := t, ipnext := f.off })
    | [] => s.segErr e Code.segStack
  | 4 =>
    match x0.pstack with
    | f :: t =>
      if ¬ f.loop then s.segErr e Code.segStack
      else if 1 < f.count then
        s.modTe e (fun x => { x with pstack := { f with count := f.count - 1 } :: t, ipnext := f.off, z := false })
      else s.modTe e (fun x => { x with pstack := t, z := true })
    | [] => s.segErr e Code.segStack
  | _ => s

/-- The error codes of RAISE (R128). -/
def raiseCode (k : Nat) : Nat :=
  [Code.segFormat, Code.segOpcode, Code.segOperand, Code.segRange, Code.segStack, Code.segSpin, Code.segTether,
   Code.segDecomp].getD k Code.segFormat

/-- ACK makes the handler's event visible: MDONE and MFLAG, or SFLAG (R138, R141). -/
def Eng.ack (x : Eng) : Eng :=
  match x.evt.cls with
  | 3 => { x with sflag := true }
  | 4 => { x with mdone := true, mflag := x.evt.flag }
  | 5 => { x with sflag := x.sflag || x.evt.flag }
  | _ => x

/-- The EVENT part. -/
def State.uEventAct (s : State) (e : Nat) (x0 : Eng) (g : Seg) (w : Nat) : State :=
  let ir := x0.ir
  match uEvent w with
  | 1 => s.mark g x0.uis (bits ir 0 8) (bits ir 8 4) (bit ir 12) (bits ir 16 16)
  | 2 => s.lvlSend g x0.uis [Tbl.get 0 x0.gr 0] (bits ir 9 4) (bits ir 16 16)
  | 3 =>
    let b := bits ir 64 8
    (s.arrive g.site b (s.uiAt g (g.chans.headD 0) x0.uis)).modTe e (fun x => { x with joined := (s.barrier g.site b).gen })
  | 4 =>
    let isMatch := x0.op == 0x20
    let c : Cond := {
      kind := if isMatch then 1 else 2, u0 := x0.uis, timeout := bits ir 0 32
      target := if isMatch then bits ir 32 32 else bits ir 0 32, sense := bit ir 32, since := s.now }
    if isMatch ∧ s.noCompare e g (s.stagedHold e g) then s.segErr e Code.segOperand
    else s.modTe e (fun x => { x with cond := some (c.opened g), mdone := false, mflag := false })
  | 5 =>
    let src := bit ir 74
    let b := bits ir 64 8
    let c : Cond := {
      kind := if src then 4 else 3, u0 := x0.uis, timeout := bits ir 0 32, target := bits ir 32 32
      sel := if src then bits ir 75 2 else b, since := s.now
      gen := if bit ir 72 then x0.joined else (s.barrier g.site b).gen }
    (s.modTe e (fun x => { x with cond := some c, sflag := false })).takeBarrier e
  | 6 => s.halt e g
  | 7 => s.segErr e (raiseCode (bits w 48 8))
  | 8 => s.modTe e Eng.ack
  | _ => s

/-- The DECOMP part (R124): EXPAND takes the first code staged before this word, and keeps those this word stages. -/
def State.uDecompAct (s : State) (e : Nat) (x0 : Eng) (w : Nat) : State :=
  match bits w 44 4 with
  | 1 =>
    match x0.codes, x0.table with
    | c :: _, some tb =>
      match tb[c]? with
      | some v => if entryBad v then s.segErr e Code.segDecomp
                  else s.modTe e (fun x => { x with codes := x.codes.drop 1, stream := x.stream ++ entryBits v })
      | none => s.segErr e Code.segDecomp
    | _, _ => s.segErr e Code.segDecomp
  | 2 => s.modTe e (fun x => { x with stream := [] })
  | _ => s

/-- Do `f` while the segment has not ended. -/
def State.whileCur (s : State) (e : Nat) (f : State → State) : State := if (s.te e).cur.isSome then f s else s

/-- The word's operations act together: every source is read from the engine at the start of the cycle (R128). -/
def State.uAct (s : State) (e : Nat) (g : Seg) (w : Nat) : State :=
  let x0 := s.te e
  let s1 := s.uAlu e x0 w
  let s2 := s1.whileCur e (fun t => t.uEmitAct e g w)
  let s3 := s2.whileCur e (fun t => t.uFetchAct e x0 g w)
  let s4 := s3.whileCur e (fun t => t.uDecompAct e x0 w)
  let s5 := s4.whileCur e (fun t => t.uStack e x0 w)
  let s6 := s5.whileCur e (fun t => when (bits w 40 4 == 1) (fun u => u.modTe e (fun x => { x with curTs := bits x0.ir 242 6 })) t)
  s6.whileCur e (fun t => t.uEventAct e x0 g w)

/-! ### Machine checks (R143) -/

/-- The token recorded with a class (R142). An engine that is still taking its segment has executed nothing of it. -/
def Eng.mkToken (x : Eng) (cls : Nat) (live : Bool) : Token :=
  if x.handler then { x.token with cls := cls, live := live }
  else if x.taking then { cls := cls, live := live, op := bits x.ir 248 8, site := x.cur.map (·.site) }
  else { upc := x.upc, ustack := x.ustack, pdepth := x.pstack.length, cls := cls, live := live, op := bits x.ir 248 8
         ipoff := x.ipoff, uc0 := x.uc0, uis := x.uis, z := x.z, neg := x.neg, carry := x.carry
         site := x.cur.map (·.site) }

/-- Push a re-queued segment onto the engine's deque, or into its re-queue slot (R143). -/
def State.requeue (s : State) (e : Nat) (tail : Bool) (g : Seg) : State :=
  s.modTe e (fun x =>
    if 64 ≤ x.deque.length then { x with slot := some (tail, g) }
    else { x with deque := if tail then x.deque ++ [g] else g :: x.deque })

/-- The fate of an abandoned segment, and whether its site aborts late (R143). START_TT is the descriptor's: 08 R166 lists
the rules in which the effective start replaces it, and R143 is none of them. -/
def State.fate (s : State) (e : Nat) (g : Seg) : State :=
  let lead := (s.site g.site).lead * fsNs
  if ¬ s.siteGoing g.site then s
  else if g.tethered ∧ 0 < g.resolved then s.abortSite g.site Code.burstAbortLate
  else if g.reloc ∧ ttLe (s.now + lead + 60 * fsNs) g.startTt then s.requeue e true g
  else if ¬ g.reloc ∧ ttLe (s.now + lead + 40 * fsUs) g.startTt then s.requeue e false g
  else s.abortSite g.site Code.burstAbortLate

/-- The engine leaves its segment to its fate. -/
def State.leaveSeg (s : State) (e : Nat) : State :=
  let x := s.te e
  let s1 := s.endSeg e
  match x.cur with
  | some g => s1.fate e { g with posted := if x.taking then g.posted else max g.posted (s1.te e).posted }
  | none => s1

/-- The engine stops, records its token and abandons its segment (R143). -/
def State.abandonSeg (s : State) (e cls : Nat) : State :=
  (s.modTe e (fun x => { x with token := x.mkToken cls false })).leaveSeg e

/-- A reload is queued with the region loader (R144). -/
def State.queueReload (s : State) (e code : Nat) (site : Option Nat) (addr : Nat) : State :=
  (s.modTe e (fun x => { x with
    reload := true, reloadCode := code, reloadSite := site, reloadAddr := addr })).modRgn (rgnOfTe e) (fun r => { r with
    reloads := r.reloads ++ [e], reloadAt := if r.reloads.isEmpty then s.up else r.reloadAt
    loaderState := 3, holding := r.holding.filter (· != e) })

/-- A transient of an engine, logged under its code with its address (18 R383, R392); a permanent fault retires it,
any other starts a reload. -/
def State.engTransient (s : State) (e code : Nat) (site : Option Nat) (addr : Nat) : State :=
  let perm := s.permanent (unitKey kEngine e) false
  let s1 := s.transient kEngine e code Ty.te e site addr false false
  if perm then s1 else s1.queueReload e code site addr

/-- MACHINE_CHECK: kind 0 microword parity, 1 dispatch-entry parity, 2 micro-stack (R137, R143). -/
def State.machineCheck (s : State) (e kind : Nat) : State :=
  let x := s.te e
  if ¬ s.inService e ∨ x.reload ∨ s.stage ≠ .on ∨ x.cur.isNone then s
  else
    let code := if kind = 0 then Code.mcParity else if kind = 1 then Code.mcDispatch else Code.mcUstack
    let s1 := s.abandonSeg e 1
    let s2 := (s1.modTe e (fun x => { x with
      mcPar := if kind = 0 then satAdd sat8 x.mcPar 1 else x.mcPar, mcDisp := if kind = 1 then satAdd sat8 x.mcDisp 1 else x.mcDisp
      mcUstk := if kind = 2 then satAdd sat8 x.mcUstk 1 else x.mcUstk })).cause Ty.te e 1
    s2.engTransient e code (x.cur.map (·.site)) (if kind = 1 then x.op else x.upc)

def execMachineCheck (e kind : Nat) (s : State) : Host.Outcome State Fault Refusal :=
  onUnit (decide (e < nEng ∧ kind < 3)) (s.machineCheck e kind)

/-- The first reload of a region's loader ends; the next begins. -/
def State.nextReload (s : State) (r : Nat) (ok : Bool) : State :=
  let writing := s.nor.mcStage.any (fun p => bit p.1 r)
  s.modRgn r (fun x => { x with
    reloads := x.reloads.drop 1, reloadAt := s.up
    holding := x.holding.filter (x.reloads.head? != some ·) ++ (if ok then x.reloads.take 1 else [])
    loaderState := if 1 < x.reloads.length ∨ x.instN.isSome then 3 else if writing then 2 else 0 })

/-- RELOAD_DONE: 40 µs after its start the reload's read-back ends, the engine's stores written from the region's verified
copy; a mismatch retires the engine (R144). A reload that comes up while an install loads the region waits (DEDUCED, log
entry 57). -/
def State.reloadDone (s : State) (e : Nat) (mismatch : Bool) : State :=
  let r := rgnOfTe e
  if (s.rgn r).instOn ∨ (s.rgn r).reloads.head? ≠ some e ∨ s.up < (s.rgn r).reloadAt + 40 * fsUs then s
  else
    let s1 := ((s.loadStore e).nextReload r (!mismatch)).modTe e (fun x => { x with
      reload := false, lastSite := none, upc := 0, ustack := [] })
    if mismatch then
      let x := s.te e
      ((s1.modRgn r (fun y => { y with lastErr := x.reloadCode })).transient kEngine e x.reloadCode Ty.te e
        x.reloadSite x.reloadAddr true false)
    else s1.cause Ty.te e 2

def execReloadDone (e : Nat) (mismatch : Bool) (s : State) : Host.Outcome State Fault Refusal :=
  onUnit (decide (e < nEng)) (s.reloadDone e mismatch)

/-- IDLE_SCAN: an idle engine checks one word; a parity error is a transient and starts a reload (R145). Which word
it has reached is a free value (DESIGN CHOICE, log entry 5). -/
def State.idleScan (s : State) (e : Nat) (bad : Bool) : State :=
  if s.stage ≠ .on ∨ ¬ s.inService e ∨ (s.te e).reload ∨ (s.te e).cur.isSome ∨ ¬ bad then s
  else
    ((s.modTe e (fun x => { x with mcScan := satAdd sat8 x.mcScan 1 })).engTransient e Code.mcScan none
      (s.freeVal % 4096)).useFree

def execIdleScan (e : Nat) (bad : Bool) (s : State) : Host.Outcome State Fault Refusal :=
  onUnit (decide (e < nEng)) (s.idleScan e bad)

/-! ### Sequencing (R129) -/

/-- An event of class SYNC, MATCH or TRIGGER is pending (R137). -/
def Eng.pending (x : Eng) : Bool := x.pendSync || x.pendMatch.isSome || !x.pendTrig.isEmpty

/-- DISPATCH: fetch, the dispatch checks, and the entry of the opcode's routine (R129, R132). A condition the previous
instruction armed and left unresolved is left with it: its events reach the engine no more (R141), and it counts as
resolved in R143 (DEDUCED, log entry 57). -/
def State.uDispatch (s : State) (e : Nat) (g : Seg) : State :=
  let x := s.te e
  let ir := s.streamWord g x.fetch
  let op := bits ir 248 8
  let d := s.entry e op
  let left := x.cond.any (fun c => c.res.isNone)
  let s1 := (s.cacheTouch g.site (g.line x.fetch)).modTe e (fun x => { x with
    ir := ir, op := op, ipoff := x.fetch, fetch := x.fetch + 1, spin := x.spin + 1, laneDone := 0, lanes := [], cond := none
    cur := x.cur.map (fun h => if left then { h with resolved := h.resolved + 1 } else h), upc := bits d 0 12 })
  if ¬ entryParityOk d then s1.machineCheck e 1
  else
    let c := dispatchCheck (bit d 12) (bit d 14) (bit d 13) ir (x.spin + 1) g.tethered
    if c ≠ 0 then s1.segErr e c else s1

/-- RESUME restores the token and unmasks the classes (R138). -/
def Eng.resume (x : Eng) : Eng :=
  { x with
    upc := x.token.upc, ustack := x.token.ustack, uc0 := x.token.uc0, z := x.token.z, neg := x.token.neg
    carry := x.token.carry, handler := false, token := { x.token with live := false } }

/-- The next micro-address after a word that has acted (R129). -/
def State.uNext (s : State) (e : Nat) (g : Seg) (x0 : Eng) (w : Nat) : State :=
  let next := (x0.upc + 1) % 4096
  let upTo := fun (a : Nat) => s.modTe e (fun x => { x with upc := a })
  match uSeq w with
  | 0 => upTo next
  | 1 => upTo (uAddr w)
  | 2 => upTo (if x0.uCond (bits w 118 6) != bit w 117 then uAddr w else next)
  | 3 => s.modTe e (fun x => { x with ustack := next :: x.ustack, upc := uAddr w })
  | 4 => s.modTe e (fun x => { x with upc := x.ustack.headD 0, ustack := x.ustack.drop 1 })
  | 5 => s.uDispatch e g
  | 6 => if x0.uc0 = 0 then upTo next else s.modTe e (fun x => { x with uc0 := x0.uc0 - 1, upc := uAddr w })
  | _ => s.modTe e Eng.resume

/-- One microword whose SEQ is `seq` (R128, R129, R138, R140). A word at which ABORT, an interrupt or a cut is to be
taken first does not act. -/
def State.micro_ (s : State) (e seq : Nat) : State :=
  let x := s.te e
  let w := s.uword e
  match x.cur with
  | none => s
  | some g =>
    let hold := uSafe w || x.handler
    if uSeq w ≠ seq ∨ x.taking ∨ x.reload ∨ (x.miss.isSome ∧ ¬ x.handler) ∨ ¬ ttLe x.beginAt s.now then s
    else if hold ∧ ¬ s.siteGoing g.site then s
    else if uSafe w ∧ ¬ x.handler ∧ s.cutReached e g then s.endSeg e
    else if uSafe w ∧ ¬ x.handler ∧ x.pending then s
    else if ¬ wordParityOk (s.rawWord e) then s.machineCheck e 0
    else
      let c := x.uCond (bits w 118 6) != bit w 117
      if uWait w ∧ c then s.modTe e (fun x => { x with upc := if seq = 1 then uAddr w else (x.upc + 1) % 4096 })
      else if ¬ uWait w ∧ ((seq = 3 ∧ 8 ≤ x.ustack.length) ∨ (seq = 4 ∧ x.ustack.isEmpty)) then s.machineCheck e 2
      else if s.uStalls e g w then s
      else if s.uEmits e g w ∧ x.full32 then s.segErr e Code.segRange
      else match s.fetchAll g (x.uNeeds w) with
        | .beyond => s.segErr e Code.segRange
        | .miss l => s.modTe e (fun x => { x with miss := some l })
        | .ok =>
          let s1 := s.uAct e g w
          if (s1.te e).cur.isNone ∨ uWait w then s1 else s1.uNext e g x w

def execMicroNext (e : Nat) (s : State) : Host.Outcome State Fault Refusal := onUnit (decide (e < nEng)) (s.micro_ e 0)
def execMicroJump (e : Nat) (s : State) : Host.Outcome State Fault Refusal := onUnit (decide (e < nEng)) (s.micro_ e 1)
def execMicroCjump (e : Nat) (s : State) : Host.Outcome State Fault Refusal := onUnit (decide (e < nEng)) (s.micro_ e 2)
def execMicroCall (e : Nat) (s : State) : Host.Outcome State Fault Refusal := onUnit (decide (e < nEng)) (s.micro_ e 3)
def execMicroRet (e : Nat) (s : State) : Host.Outcome State Fault Refusal := onUnit (decide (e < nEng)) (s.micro_ e 4)
def execMicroDispatch (e : Nat) (s : State) : Host.Outcome State Fault Refusal := onUnit (decide (e < nEng)) (s.micro_ e 5)
def execMicroUloop (e : Nat) (s : State) : Host.Outcome State Fault Refusal := onUnit (decide (e < nEng)) (s.micro_ e 6)
def execMicroResume (e : Nat) (s : State) : Host.Outcome State Fault Refusal := onUnit (decide (e < nEng)) (s.micro_ e 7)

/-! ### Interrupts (R137 to R141) -/

/-- The stamp of a TRIGGER event qualifies for the SYNC the engine waits in (R115, R141). -/
def State.stampCounts (s : State) (g : Seg) (x : Eng) (line tt : Nat) : Bool :=
  x.cond.any (fun c => c.kind == 4 && c.sel == line && ttLe (s.paceAt g c.u0) tt && ttLt tt (s.tOut g c))

/-- Enter a handler: token recorded, classes masked, the payload in EVT (R138). What EVT holds is not stated: a free
value (log entry 5). -/
def State.enterHandler (s : State) (e cls entry : Nat) (ev : Evt) (f : Eng → Eng) : State :=
  (s.modTe e (fun x => f { x with
    token := x.mkToken cls true, handler := true, evt := ev, evtWord := s.freeVal % 2 ^ 32, upc := entry })).useFree

/-- ENGINE_INTERRUPT_TAKE: SYNC, then MATCH, then TRIGGER, lowest line first, at a SAFE word (R137, R138). -/
def State.interruptTake (s : State) (e : Nat) : State :=
  let x := s.te e
  match x.cur with
  | none => s
  | some g =>
    if x.taking ∨ x.handler ∨ ¬ uSafe (s.uword e) ∨ ¬ s.siteGoing g.site then s
    else if x.pendSync then s.enterHandler e 3 0x008 { cls := 3, flag := true } (fun x => { x with pendSync := false })
    else match x.pendMatch with
      | some b => s.enterHandler e 4 0x010 { cls := 4, flag := b } (fun x => { x with pendMatch := none })
      | none =>
        match x.pendTrig with
        | (line, some tt) :: _ =>
          s.enterHandler e 5 0x018 { cls := 5, flag := s.stampCounts g x line tt, line := line, stamp := tt }
            (fun x => { x with pendTrig := Tbl.set none x.pendTrig line none })
        | _ => s

def execEngineInterruptTake (e : Nat) (s : State) : Host.Outcome State Fault Refusal :=
  onUnit (decide (e < nEng)) (s.interruptTake e)

/-- ABORT_TAKE: the segment of a site that is no longer RUNNING or DRAINING ends, with no completion, before the engine's
next SAFE or handler word, or before its first microword (R137, R140, R149). -/
def State.abortTake (s : State) (e : Nat) : State :=
  let x := s.te e
  match x.cur with
  | none => s
  | some g =>
    if s.siteGoing g.site ∨ ¬ (x.taking || x.handler || uSafe (s.uword e)) then s
    else (s.modTe e (fun x => { x with token := x.mkToken 2 false })).endSeg e

def execAbortTake (e : Nat) (s : State) : Host.Outcome State Fault Refusal :=
  onUnit (decide (e < nEng)) (s.abortTake e)

end Sys2Proof.Machine
end

