-- ==== Sys2Proof/Machine/Sched.lean ====
section
/-! DEFINITION. Family: placement, stealing, taking and handover of segments, underruns, region thermal shutdown
(08_scheduling_and_lead_time.md R158 to R166, 01 R18), the burst commands (16 R345), the delivery of compare results (11
R226, R227), comparator crossings and LCLK ticks. -/

namespace Sys2Proof.Machine

/-! ### Placement (R160, R163, R164) -/

/-- A segment of this queue is placed and has not halted or ended, and `p` holds of it. -/
def State.outstanding (s : State) (q : Nat) (p : Seg → Bool) : Bool :=
  let hit := fun (g : Seg) => g.queue == q && p g
  s.returned.any hit || allTes.any (fun e =>
    let x := s.te e
    x.cur.any hit || x.deque.any hit || x.slot.any (fun y => hit y.2))

/-- Descriptor `i` from the head of a queue. -/
def State.queueSeg (s : State) (q i : Nat) : Seg :=
  let d := s.queue q
  let g : Seg := { raw := s.bytes (d.base + 64 * ((d.head + i) % d.slots)) 64, queue := q, site := d.owner }
  { g with eff := (g.startTt + d.slip) % 2 ^ 64 }
/-- The descriptor at the head of a queue. -/
def State.headSeg (s : State) (q : Nat) : Seg := s.queueSeg q 0

/-- The head of the queue is held by an ordering rule (R164). -/
def State.queueHeld (s : State) (q : Nat) : Bool :=
  s.outstanding q (fun g => g.syncAfter || g.tethered) || ((s.headSeg q).syncBefore && s.outstanding q (fun _ => true))

/-- An engine is idle: in the pool with no segment. -/
def State.idleEng (s : State) (e : Nat) : Bool := s.inPool e && (s.te e).cur.isNone

/-- Engines of a site's mask in its round-robin order. -/
def State.maskFrom (s : State) (st : Nat) : List Nat :=
  let l := bitList (s.site st).teMask nEng
  l.filter (fun e => decide ((s.site st).rr ≤ e)) ++ l.filter (fun e => decide (e < (s.site st).rr))

/-- The deque a descriptor of a site goes to (R160). -/
def State.chooseDeque (s : State) (st : Nat) : Option Nat :=
  let l := (s.maskFrom st).filter (fun e => s.inPool e)
  match l.find? (fun e => s.idleEng e && (s.te e).deque.isEmpty) with
  | some e => some e
  | none =>
    (l.filter (fun e => decide ((s.te e).deque.length < 64))).foldl (fun b e => match b with
      | none => some e
      | some a => if (s.te e).deque.length < (s.te a).deque.length then some e else some a) none

/-- Append at the tail of the chosen deque; the site's round robin moves on. -/
def State.placeOn (s : State) (e : Nat) (g : Seg) : State :=
  (s.modTe e (fun x => { x with deque := x.deque ++ [g] })).modSite g.site (fun x => { x with rr := (e + 1) % nEng })

/-- An engine that has left the pool for good still holds entries to hand over (R163). -/
def State.leaving (s : State) (e : Nat) : Bool := !s.inService e && (!(s.te e).deque.isEmpty || (s.te e).slot.isSome)

/-- Some engine of a site's mask is in service. -/
def State.hasEngine (s : State) (st : Nat) : Bool := (bitList (s.site st).teMask nEng).any s.inService

/-- A leaving engine has an entry that can be moved now: to a deque with room, or back to its segment queue. -/
def State.handoverDue (s : State) : Bool :=
  allTes.any (fun e => s.leaving e
    && ((s.te e).deque ++ ((s.te e).slot.map (·.2)).toList).any (fun g => !s.hasEngine g.site || (s.chooseDeque g.site).isSome))

/-- The released segment queues with an entry that may be placed now: one handed back, or the head descriptor, which is not
read from HBM before HBM_CLEAR (02 R40). -/
def State.placeable (s : State) : List Nat :=
  (s.queues.filter (fun p =>
    let d := p.2
    d.enable && d.type == 1 && !d.ownerFn
      && ((s.site d.owner).st == .armed || (s.site d.owner).st == .running) && (s.chooseDeque d.owner).isSome
      && (s.glb.hbmClear || decide (hbmTop ≤ d.base))
      && (s.returned.any (fun g => g.queue == p.1) || (d.released && d.head != d.tail && !s.queueHeld p.1)))).map (·.1)

/-- The oldest entry handed back to a queue, else its head descriptor, goes to the deque chosen for its site. -/
def State.placeFrom (s : State) (q : Nat) : State :=
  match s.chooseDeque (s.queue q).owner with
  | none => s
  | some e =>
    match s.returned.find? (fun g => g.queue == q) with
    | some g => { s.placeOn e g with placedQ := q, returned := s.returned.erase g }
    | none =>
      let d := s.queue q
      { ((s.bankHits (d.base + 64 * d.head) 64 false).consume q 1).placeOn e (s.headSeg q) with placedQ := q }

/-- SEGMENT_PLACE: the next queue in round robin gives its head descriptor to a deque (R160, R166). Handed-over entries
go first. -/
def State.segmentPlace (s : State) : State :=
  if ¬ s.qmgr.ready ∨ s.handoverDue then s
  else
    let l := s.placeable
    match (l.filter (fun q => decide (s.placedQ < q))).head?, l.head? with
    | some q, _ => s.placeFrom q
    | none, some q => s.placeFrom q
    | none, none => s

def execSegmentPlace (s : State) : Host.Outcome State Fault Refusal := .next s.segmentPlace

/-- One entry goes to an in-service engine of its site and is bound to it; with none left it goes back to its segment
queue, where it stays pending (R163). -/
def State.handOn (s : State) (g : Seg) : State :=
  if ¬ s.hasEngine g.site then { s with returned := s.returned ++ [g] }
  else match s.chooseDeque g.site with
    | some f => s.placeOn f g
    | none => s

/-- DEQUE_HANDOVER: the entry nearest the head of the deque of an engine that left the pool that can be moved, then the
one in its re-queue slot (R163). -/
def State.handover (s : State) (e : Nat) : State :=
  let x := s.te e
  let can := fun (g : Seg) => !s.hasEngine g.site || (s.chooseDeque g.site).isSome
  if s.inService e then s
  else match x.deque.find? can with
    | some g => (s.modTe e (fun x => { x with deque := x.deque.erase g })).handOn g
    | none =>
      match x.slot with
      | some (_, g) => if x.deque.isEmpty ∧ can g then (s.modTe e (fun x => { x with slot := none })).handOn g else s
      | none => s

def execDequeHandover (e : Nat) (s : State) : Host.Outcome State Fault Refusal :=
  onUnit (decide (e < nEng)) (s.handover e)

/-- REQUEUE_SLOT_DRAIN (07 R143). -/
def execRequeueSlotDrain (e : Nat) (s : State) : Host.Outcome State Fault Refusal :=
  onUnit (decide (e < nEng)) (
    match (s.te e).slot with
    | some (tail, g) =>
      if (s.te e).deque.length < 64 then (s.modTe e (fun x => { x with slot := none })).requeue e tail g else s
    | none => s)

/-! ### Taking (R161, R162; 06 R104; 07 R135) -/

/-- The engine begins to take a segment; execution begins at TT `t`. -/
def State.beginTake (s : State) (e : Nat) (g : Seg) (t : Nat) : State :=
  s.modTe e (fun x => { x with
    cur := some g, taking := true, beginAt := t, segId := g.segId, order := [], busyFrom := some s.up })

/-- The entry nearest the head of a deque whose site is RUNNING. -/
def State.runnable (s : State) (l : List Seg) : Option Seg := l.find? (fun g => (s.site g.site).st == .running)

/-- DEQUE_POP (R161). -/
def State.dequePop (s : State) (e : Nat) : State :=
  if ¬ s.idleEng e then s
  else match s.runnable (s.te e).deque with
    | none => s
    | some g => (s.modTe e (fun x => { x with deque := x.deque.erase g })).beginTake e g (s.now + 2048)

def execDequePop (e : Nat) (s : State) : Host.Outcome State Fault Refusal :=
  onUnit (decide (e < nEng)) (s.dequePop e)

/-- A full probing pass of a thief: its own region from the engine after its last victim, then the next regions
(R162). -/
def State.passOf (s : State) (e : Nat) : List Nat :=
  let r0 := rgnOfTe e
  ((List.range 4).flatMap (fun i =>
    let r := (r0 + i) % 4
    let last := Tbl.get 0 (s.te e).victim r
    let l := tesOfRgn r
    if last = 0 then l else l.filter (fun v => decide (last ≤ v)) ++ l.filter (fun v => decide (v < last)))).filter (· != e)

/-- The steal cost in fine steps (R162). -/
def stealCost (e v : Nat) : Nat := if rgnOfTe e = rgnOfTe v then 60 * fsNs else 220 * fsNs

/-- A thief may take this tail entry now (R162). -/
def State.stealable (s : State) (e : Nat) (g : Seg) (c : Nat) : Bool :=
  g.reloc && (s.site g.site).st == .running && bit (s.site g.site).teMask e && s.inPool e
    && ttLe (s.now + (s.site g.site).lead * fsNs + c) g.eff

/-- An idle engine with nothing to pop. -/
def State.thief (s : State) (e : Nat) : Bool := s.idleEng e && (s.runnable (s.te e).deque).isNone
/-- The order of the thief's probes from here, and the victim of the next one. -/
def State.probes (s : State) (e : Nat) : List Nat :=
  if (s.te e).order.any (fun v => !(s.te v).deque.isEmpty) then (s.te e).order else s.passOf e
def State.victimOf (s : State) (e : Nat) : Option Nat := (s.probes e).find? (fun v => !(s.te v).deque.isEmpty)

/-- The CCLK cycle of the present root edge. -/
def State.cclk (s : State) : Nat := s.uptime / 16

/-- In this CCLK cycle the tail entry `g` of engine `v` goes, or has gone, to another than thief `e`: the owner pops it, a
thief has taken the tail probed in this cycle, or one of lower index that has yet to probe in it takes it (R176). -/
def State.tailTaken (s : State) (e v : Nat) (g : Seg) : Bool :=
  (s.idleEng v && s.runnable (s.te v).deque == some g) || (s.te v).lostAt == some s.cclk
    || (List.range e).any (fun f => (s.te f).probeAt != some s.cclk && s.thief f && s.victimOf f == some v && s.stealable f g (stealCost f v))

/-- STEAL_PROBE: the thief's probe of this CCLK cycle, of the next non-empty deque; the table of last victims holds the
engine after the last (R162). -/
def State.stealProbe (s : State) (e : Nat) : State :=
  if ¬ s.thief e ∨ (s.te e).probeAt = some s.cclk then s
  else
    match s.victimOf e with
    | none => s.modTe e (fun x => { x with order := [] })
    | some v =>
      let rest := ((s.probes e).dropWhile (· != v)).drop 1
      let s1 := s.modTe e (fun x => { x with order := rest, victim := Tbl.set 0 x.victim (rgnOfTe v) (v + 1), probeAt := some s.cclk })
      match (s.te v).deque.getLast? with
      | none => s1
      | some g =>
        if ¬ s.stealable e g (stealCost e v) ∨ s.tailTaken e v g then s1
        else
          let near := rgnOfTe e = rgnOfTe v
          let s2 := (s1.modTe v (fun y => { y with deque := y.deque.dropLast, lostAt := some s.cclk, stealSuf := satAdd sat16 y.stealSuf 1 })).modTe e
            (fun y => { y with stealMade := satAdd sat16 y.stealMade 1 })
          (s2.modQmgr (fun m => if near then { m with stealLocal := satAdd sat32 m.stealLocal 1 }
            else { m with stealRemote := satAdd sat32 m.stealRemote 1 })).beginTake e g (s.now + stealCost e v)

def execStealProbe (e : Nat) (s : State) : Host.Outcome State Fault Refusal :=
  onUnit (decide (e < nEng)) (s.stealProbe e)

/-- Every reserved bit of the descriptor is 0 (06 R103). -/
def Seg.reservedOk (g : Seg) : Bool :=
  bits (g.w 1) 4 4 == 0 && bits (g.w 1) 13 11 == 0 && bits (g.w 5) 8 24 == 0 && bits (g.w 7) 20 11 == 0

/-- The descriptor checks in order; 0 when all pass (06 R104, 17 R370). -/
def State.takeCheck (s : State) (g : Seg) : Nat :=
  let d := s.queue g.queue
  let st := g.siteField
  if crc32 (g.raw.take 60) ≠ g.w 15 then Code.segCrc
  else if bits (g.w 1) 24 8 ≠ 1 ∨ ¬ g.reservedOk then Code.segFormat
  else if d.ownerFn ∨ d.owner ≠ st then Code.ownerConflict
  else if g.mask = 0 ∨ ¬ g.chans.all (fun ch => s.chOwner ch == st) then Code.segChannel
  else if g.len = 0 ∨ 2 ^ 28 < g.len ∨ g.ip % 32 ≠ 0 ∨ hbmTop < g.ip + 32 * g.len ∨ ¬ s.granted st g.ip (32 * g.len) then Code.segRange
  else if g.w 14 ≠ 0 ∧ ¬ (1 ≤ g.dOff ∧ g.dOff + (g.dEntries + 7) / 8 ≤ g.len) then Code.segFormat
  else if g.sealed_ ≠ s.isSealed st ∨ (g.sealed_ ∧ (s.secSite st).boundQ ≠ some g.queue) then Code.segSealed
  else 0

/-- What a segment's start clears (07 R135). A scrub also clears the registers and the token (01 R31). -/
def Eng.fresh (x : Eng) (st : Nat) (scrub : Bool) : Eng :=
  { x with
    taking := false, lastSite := some st, upc := 0, ustack := [], uc0 := 0, z := false, neg := false, carry := false
    ipoff := 0, fetch := 0, staging := [], pstack := [], stream := [], codes := [], table := none, curTs := 0, spin := 0, uis := 0
    plain := 0, posted := 0, asm := {}, full := none, lanes := [], laneDone := 0, job := none, cond := none, fail := false, prevs := []
    lastCmp := 0, mdone := false, mflag := false, sflag := false, handler := false, pendSync := false, pendMatch := none
    pendTrig := [], miss := none, joined := 0
    gr := if scrub then [] else x.gr, ir := if scrub then 0 else x.ir, ipnext := if scrub then 0 else x.ipnext
    token := if scrub then {} else x.token, evtWord := if scrub then 0 else x.evtWord
    scrubs := if scrub then satAdd sat32 x.scrubs 1 else x.scrubs, beginAt := if scrub then x.beginAt + 8 * fsNs else x.beginAt }

/-- SEGMENT_TAKE: the descriptor checks, the scrub when the site changes, and the start at microword 0 (06 R104, 07
R135, 01 R31). A re-executed segment begins from the symbols of its first execution, with the compare results already
delivered to it (R175). -/
def State.segmentTake (s : State) (e : Nat) : State :=
  let x := s.te e
  match x.cur with
  | none => s
  | some g =>
    if ¬ x.taking ∨ ¬ s.siteGoing g.site then s
    else
      let c := s.takeCheck g
      if c ≠ 0 then (s.modTe e (fun x => { x with posted := 0, full := none })).segErr e c
      else
        let s1 := s.modTe e (fun x => x.fresh g.site (x.lastSite != some g.site))
        let s2 := s1.modTe e (fun x => { x with fail := g.fail, lastCmp := g.lastCmp })
        match g.prev0 with
        | none => s2
        | some l => s2.modTe e (fun x => { x with prevs := l })

def execSegmentTake (e : Nat) (s : State) : Host.Outcome State Fault Refusal :=
  onUnit (decide (e < nEng)) (s.segmentTake e)

/-! ### Underrun and slice parity (R158, 18 R386) -/

/-- The descriptors of a segment queue that no ordering rule holds: those up to the first that is held (R158, R164). -/
def freeDescs : List Seg → List Seg
  | [] => []
  | [g] => [g]
  | g :: h :: t => if g.syncAfter || g.tethered || h.syncBefore then [g] else g :: freeDescs (h :: t)

/-- The segments of a site that wait to be executed: in released queues with no rule holding them, handed back, on deques
and in re-queue slots (R158). A descriptor enqueued while the site is DRAINING waits for the next burst (R174). -/
def State.waiting (s : State) (st : Nat) : List Seg :=
  (s.segQueues st).flatMap (fun q =>
      if s.siteSt st != .draining && (s.queue q).released && !s.queueHeld q then freeDescs ((List.range (s.queue q).used).map (s.queueSeg q)) else [])
    ++ s.returned ++ allTes.flatMap (fun e => (s.te e).deque ++ ((s.te e).slot.map (·.2)).toList)

/-- The effective start of the pending segment of a site with this SEG_ID that is judged for block `seq` on the channel
(R158). An executing segment on a block boundary has its next block unless its next instruction is HALT; one that was
abandoned has the block after the last it posted (DEDUCED, log entry 28). -/
def State.judged (s : State) (st segId seq ch : Nat) : Option Nat :=
  let mine := fun (g : Seg) => g.site == st && g.segId == segId && bit g.mask ch
  match allTes.find? (fun e => (s.te e).cur.any mine) with
  | some e =>
    let x := s.te e
    let more := x.taking || decide (64 * x.posted < x.uis) || x.job.isSome
      || x.cur.any (fun g => decide (g.len ≤ x.fetch) || bits (s.streamWord g x.fetch) 248 8 != 0x0F)
    let posted := if x.taking then 0 else x.posted
    if seq < posted ∨ (seq = posted ∧ more) ∨ x.cur.any (fun g => decide (seq ≤ g.posted)) then x.cur.map (·.eff) else none
  | none =>
    match (s.site st).ended.find? (fun d => d.segId == segId && bit d.mask ch && d.next == seq) with
    | some d => some d.eff
    | none => ((s.waiting st).find? (fun g => mine g && decide (seq ≤ g.posted))).map (·.eff)

/-- The TT of a block of a site's pending segment that is missing on a channel, its deadline come: no cut falls at or
before its TT (R158, R159, R173, R176). A channel of another site never has the block (06 R105). -/
def State.missedAt (s : State) (ch segId seq st : Nat) : Option Nat :=
  if ¬ s.siteGoing st ∨ (s.chOwner ch = st ∧ (s.chan ch).present segId seq) then none
  else match s.judged st segId seq ch with
    | none => none
    | some eff =>
      let tt := eff + (s.chan ch).span (64 * seq)
      if ttLt (s.now + 32 * fsNs) tt ∨ (s.site st).cut.any (fun T => ttLe T tt) then none else some tt
def State.isMissing (s : State) (ch segId seq st : Nat) : Bool := (s.missedAt ch segId seq st).isSome

/-- A missing block is an underrun at its deadline (R158). -/
def State.underrun (s : State) (ch segId seq st : Nat) : State :=
  match s.missedAt ch segId seq st with
  | none => s
  | some tt => s.abortSiteAt st Code.burstAbortLate ((tt + 2 ^ 64 - 32 * fsNs) % 2 ^ 64)

/-- BLOCK_DEADLINE: at a block's deadline the slice checks its parity, and a missing block is an underrun (R158). The entry
of a parity error carries the block's TT and, as DETAIL, its SEG_ID (18 R386, R392). -/
def State.blockDeadline (s : State) (ch segId seq : Nat) (parityBad : Bool) : State :=
  let st := s.chOwner ch
  let here := (s.chan ch).fifo.find? (fun b => b.segId == segId && b.seq == seq)
  if parityBad ∧ here.any (fun b => ttLe b.deadline s.now) then
    (let s1 := s.transientAt (here.elim s.now (·.tt)) kSlice (s.sliceOf ch) Code.sliceParity Ty.clu (cluOf ch) (siteOpt st) segId false false
     (s1.modChan ch (fun c => { c with fifo := c.fifo.filter (fun b => !(b.segId == segId && b.seq == seq)) })).abortSiteAt st
        Code.burstAbortLate (here.elim s.now (·.deadline)))
  else forEach allSites (fun i t => t.underrun ch segId seq i) s

def execBlockDeadline (ch segId seq : Nat) (parityBad : Bool) (s : State) : Host.Outcome State Fault Refusal :=
  onUnit (decide (ch < nChan)) (s.blockDeadline ch segId seq parityBad)

/-! ### Burst commands (16 R345) -/

/-- The blocks judged of the pending segments of a site: SEG_ID, channels, and the number of the last block to look at
(R158). -/
def State.pendingBlocks (s : State) (st : Nat) : List (Nat × List Nat × Nat) :=
  ((s.siteRuns st).flatMap (fun e => ((s.te e).cur.map (fun g => (g.segId, g.chans, max g.posted (s.te e).posted))).toList))
    ++ ((s.waiting st).filter (fun g => g.site == st)).map (fun g => (g.segId, g.chans, g.posted))
    ++ (s.site st).ended.map (fun d => (d.segId, bitList d.mask nChan, d.next))

/-- A block of the site whose deadline has come and which is missing once every arrival has been judged: channel, SEG_ID,
SEQ (R158). -/
def State.missingNow (s : State) (st : Nat) : Option (Nat × Nat × Nat) :=
  ((s.pendingBlocks st).flatMap (fun p => p.2.1.flatMap (fun ch => (List.range (p.2.2 + 1)).map (fun q => (ch, p.1, q))))).find?
    (fun b => !((s.chan b.1).flying.any (fun x => x.segId == b.2.1 && x.seq == b.2.2)) && s.isMissing b.1 b.2.1 b.2.2 st)

/-- ABORT (R345). With a block missing at its deadline the underrun has come first (02 R52, R158). -/
def State.abortCmd (s : State) (st : Nat) : State :=
  if (s.site st).st = .running ∨ (s.site st).st = .draining then
    match s.missingNow st with
    | some (ch, segId, q) => s.underrun ch segId q st
    | none => s.abortSite st Code.burstAbortHost
  else s.rejectBurst st Code.burstState

/-- A write of SITE_BURST_CMD (R345). -/
def State.wBurstCmd (s : State) (st val : Nat) : State :=
  match bits val 0 4 with
  | 1 => s.arm st (bit val 4)
  | 2 => s.disarmCmd st
  | 3 => s.start st (bits val 8 24)
  | 4 => s.stop st
  | 5 => s.abortCmd st
  | 6 => s.ack st
  | _ => s.rejectBurst st Code.paramRange

/-- An owner request that takes RUN to SAFE has been accepted in this CCLK cycle (02 R52). -/
def State.safeAsked (s : State) : Bool :=
  s.glb.safeReq && s.glb.mode == .run && s.glb.reqAt.any (fun t => s.cclk == t / 16)

/-- SITE_BURST_CMD written by function `fn`. A START that meets the request ending RUN in one CCLK cycle is rejected as
such, although the request has closed the site (02 R52, 16 R345). -/
def State.burstWrite (s : State) (fn st val : Nat) : State :=
  if bits val 0 4 = 3 ∧ s.safeAsked ∧ s.fnUp fn ∧ ¬ (s.fn fn).inReset ∧ st < nSite
      ∧ (s.modGlb (fun g => { g with busy := false })).mayAccess fn Ty.site st 0x044 true then
    s.rejectBurst st Code.burstMode
  else s.onWrite fn Ty.site st 0x044 (fun t => t.wBurstCmd st val)

def execBurstArm (fn st : Nat) (frame : Bool) (s : State) : Host.Outcome State Fault Refusal :=
  onUnit (decide (fn < 18)) (s.burstWrite fn st (1 + 16 * b2n frame))
def execBurstDisarm (fn st : Nat) (s : State) : Host.Outcome State Fault Refusal :=
  onUnit (decide (fn < 18)) (s.burstWrite fn st 2)
def execBurstStart (fn st t24 : Nat) (s : State) : Host.Outcome State Fault Refusal :=
  onUnit (decide (fn < 18)) (s.burstWrite fn st (3 + 256 * (t24 % 2 ^ 24)))
def execBurstStop (fn st : Nat) (s : State) : Host.Outcome State Fault Refusal :=
  onUnit (decide (fn < 18)) (s.burstWrite fn st 4)
def execBurstAbort (fn st : Nat) (s : State) : Host.Outcome State Fault Refusal :=
  onUnit (decide (fn < 18)) (s.burstWrite fn st 5)
def execBurstAck (fn st : Nat) (s : State) : Host.Outcome State Fault Refusal :=
  onUnit (decide (fn < 18)) (s.burstWrite fn st 6)
/-- BURST_CMD_INVALID: an OP of 0 or 7 to 15; the command does nothing when OP is a defined one. -/
def execBurstCmdInvalid (fn st op : Nat) (s : State) : Host.Outcome State Fault Refusal :=
  onUnit (decide (fn < 18 ∧ (op = 0 ∨ 7 ≤ op) ∧ op < 16)) (s.burstWrite fn st op)

/-! ### Region thermal shutdown (01 R18, 19 R417) -/

/-- Sites that own a channel of a region. -/
def State.rgnSites (s : State) (r : Nat) : List Nat :=
  allSites.filter (fun i => (chansOfRgn r).any (fun ch => s.chOwner ch == i))

/-- REGION_THERMAL_SHUTDOWN: a sensor of the region has read 115 °C or more. Its PMBus fault is shown on the region's analog
page, 2 + r, whichever sensor it was: the specification names no page (DESIGN CHOICE, log entry 55). -/
def State.thermalShutdown (s : State) (r : Nat) : State :=
  let x := s.rgn r
  if s.stage ≠ .on ∨ x.shutdown ∨ x.temp < degC 115 then s
  else
    let s1 := ((s.raise Code.regionThermal Ty.rgn r).modRgn r (fun g => { g with shutdown := true })).cause Ty.rgn r 2
    let s2 := forEach (s1.rgnSites r) (fun i t => t.abortSite i Code.burstAbortLate) s1
    let s3 := forEach (chansOfRgn r) (fun ch t => t.hizFrom false ch) s2
    let s4 := forEach (tesOfRgn r) (fun e t => t.leaveSeg e) s3
    let seqOn := decide (6 ≤ (s4.cal 4).state)
    let s5 := (s4.calAbandon r).modCal 4 (fun c => { c with spoiled := c.spoiled || seqOn })
    s5.modSmb (fun m => { m with stTemp := Tbl.upd 0 m.stTemp (2 + r) (fun v => setBit v 7) })

def execRegionThermalShutdown (r : Nat) (s : State) : Host.Outcome State Fault Refusal :=
  onUnit (decide (r < nRgn)) (s.thermalShutdown r)

/-! ### Comparators and results (11 R222, R226, R227) -/

/-- COMPARATOR_CROSSING: a stamped crossing of CH or CL (`cl`). -/
def State.crossing (s : State) (ch : Nat) (cl rising : Bool) (tt : Nat) : State :=
  let c := s.chan ch
  if s.stage ≠ .on ∨ s.pwr.analogOff ∨ (if cl then c.outCL else c.outCH) = rising then s
  else (s.modChan ch (fun c => { c with
      outCH := if cl then c.outCH else rising, outCL := if cl then rising else c.outCL
      crossings := c.crossings ++ [{ tt := tt, cl := cl, rising := rising, hid := !(s.hdr Ty.cmp ch).en }] })).acqStamp ch cl rising tt

def execComparatorCrossing (ch : Nat) (cl rising : Bool) (tt : Nat) (s : State) : Host.Outcome State Fault Refusal :=
  onUnit (decide (ch < nChan)) (s.crossing ch cl rising (tt % 2 ^ 64))

/-- The value of an EDGE histogram for a compare event at `t`: the nearest crossing within INT, the earlier on a tie
(18 R396). -/
def Chan.nearestCross (c : Chan) (h : Hist) (t : Int) : Option Int :=
  (c.crossings.filter (fun x => !x.hid && x.cl == h.comp && (h.dir == 2 || (h.dir == 0) == x.rising)
      && ttReached x.tt (t - c.perInt) && !ttReached x.tt (t + c.perInt))).foldl
    (fun b x =>
      let v := ((x.tt : Int) - t + 2 ^ 63) % 2 ^ 64 - 2 ^ 63
      match b with
      | none => some v
      | some y => if v.natAbs < y.natAbs ∨ (v.natAbs = y.natAbs ∧ v < y) then some v else some y) none

/-- The result due first. -/
def nextRes : List CmpRes → Option CmpRes
  | [] => none
  | r :: t => match nextRes t with
    | none => some r
    | some x => if ttReached x.due r.due then some r else some x

/-- The effective symbol of a channel in the UI of a compare event, from the same block of the segment, whether the channel
has played it, still holds it or has dropped it (11 R238). -/
def State.symInBlock (s : State) (e : CmpEv) (ch : Nat) : Option Nat :=
  (((s.chan ch).hist ++ (s.chan ch).fifo ++ (s.chan ch).flying).find? (fun b => b.site == e.site && b.segId == e.segId && b.seq == e.seq)).bind
    (fun b => b.syms[e.k]?)

/-- A result for its segment: to the engine that executes it now, which need not be the one that posted the block (R143),
and to the segment itself, also while it waits to be executed again (R175). -/
def State.onSeg (s : State) (e : CmpEv) (f : Eng → Eng) (h : Seg → Seg) : State :=
  let mine := fun (g : Seg) => g.segId == e.segId && g.site == e.site
  let upd := fun (g : Seg) => if mine g then h g else g
  forEach allTes (fun i t => t.modTe i (fun x =>
    let y := { x with cur := x.cur.map upd, deque := x.deque.map upd, slot := x.slot.map (fun p => (p.1, upd p.2)) }
    if x.cur.any mine ∧ ¬ x.taking then f y else y)) { s with returned := s.returned.map upd }

/-- A result of a non-HOLDV UI: fail counter, fail flag, FCU (R226). -/
def State.plainResult (s : State) (ch : Nat) (v : CmpRes) : State :=
  let e := v.ev
  let r := rgnOfCh ch
  let key := 64 * (ch % 48) + e.k
  let fcu := (s.chan ch).fcuEn && (s.hdr Ty.fcu r).en && e.fcu
  let rec_ := fcu && decide (s.fcuMode e.site < 2)
  if v.ev.sym = symCAPT then
    when rec_ (fun t => t.toRec ch v (fun c => { c with
      captUis := setBit c.captUis (ch % 48), capts := if v.capt then Tbl.set 0 c.capts key 1 else c.capts })) s
  else
    let s := s.onSeg e (fun x => { x with lastCmp := max x.lastCmp v.at_, fail := x.fail || !v.pass })
      (fun g => { g with lastCmp := max g.lastCmp v.at_, fail := g.fail || !v.pass })
    if v.pass then when rec_ (fun t => t.toRec ch v id) s
    else
    let s1 := s.countFail ch
    if rec_ then s1.toRec ch v (fun c => { c with fails := Tbl.set 0 c.fails key (sparseEntry (ch % 48) v) })
    else if fcu ∧ s1.fcuMode e.site = 3 then s1.bitmapUpdate ch e (fun c => if bit e.group c then s.symInBlock e c else none)
    else s1

/-- A result of a HOLDV UI: CMP_MATCH and the match combiner of the posting engine (R226, R227). -/
def State.holdResult (s : State) (ch : Nat) (v : CmpRes) : State :=
  let e := v.ev
  let s1 := s.modChan ch (fun c => { c with lastPass := v.pass, mValid := true, reps := satAdd 0xFFFFFF c.reps 1 })
  s1.onSeg e (fun x => { x with cond := x.cond.map (fun c => c.holdSeen (64 * e.seq + e.k) v.pass v.at_) })
    (fun g => { g with holds := g.holds ++ [(64 * e.seq + e.k, v.pass, v.at_)] })

/-- COMPARE_RESULT: 320 ns after its compare event the earliest result of the channel is delivered (R226). -/
def State.compareResult (s : State) (ch : Nat) : State :=
  let c := s.chan ch
  match nextRes c.results with
  | none => s
  | some v =>
    if ¬ ttReached s.now v.due then s
    else
      let s1 := (s.modChan ch (fun c => { c with results := c.results.erase v })).histFeed ch 1 (fun h =>
        c.nearestCross h (c.evOpen v.ev))
      if v.ev.holdv then s1.holdResult ch v else s1.plainResult ch v

def execCompareResult (ch : Nat) (s : State) : Host.Outcome State Fault Refusal :=
  onUnit (decide (ch < nChan)) (s.compareResult ch)

/-! ### LCLK (03 R66, 10 R214) -/

/-- LCLK_TICK of a site (16: the owner function's channels and units): level queues step, MADCs on source 3 are
triggered, LEVEL histograms take a value. -/
def State.tick (s : State) (st : Nat) : State :=
  if ¬ s.lclkDue st then s
  else
    let s1 := s.lclkTick st
    let s2 := forEach (List.range nClu) (fun k t =>
      when ((t.hdr Ty.madc k).owner == st && (t.madc k).run && (t.madc k).src == 3) (fun u => u.madcTrigger k) t) s1
    forEach (s2.siteChans st) (fun ch t => t.histFeed ch 4 (fun h =>
      some (if h.raw then ((t.chan ch).raw h.dac : Int) else ((t.chan ch).applied h.dac : Int)))) s2

def execLclkTick (st : Nat) (s : State) : Host.Outcome State Fault Refusal :=
  onUnit (decide (st ≤ nSite)) (s.tick st)

end Sys2Proof.Machine
end

