-- ==== Sys2Proof/Machine/Sites.lean ====
section
/-! DEFINITION. Family: ownership and grants (01_architecture.md R28 to R30; 05 R90, R93; 16_sites_and_hosts.md R341 to
R344, R352). -/

namespace Sys2Proof.Machine

/-! ### What a change of owner clears (R30) -/

/-- The TG registers at reset; the previous effective symbol is DOFF (09 R197, 06 R121). -/
def Chan.resetTg (c : Chan) : Chan :=
  let z : Chan := {}
  { c with
    drvSkew := z.drvSkew, cmpSkew := z.cmpSkew, perInt := z.perInt, perFrac := z.perFrac, symLo := z.symLo, symHi := z.symHi
    frRun := false, frAnch := false, frTs := 0, frSym := z.frSym, frStop := false, frShift := 0
    conflict := false, tsInv := false, overlap := false, calStale := false, edges := [], fmts := [], prev := z.prev
    tails := [] }
/-- The CMP registers at reset (11 R246). -/
def Chan.resetCmp (c : Chan) : Chan :=
  { c with
    fcuEn := true, captSrc := false, failSeen := false, mask := false, failCount := 0, countSat := false
    lastPass := false, mValid := false, reps := 0, tdcCh := false, tdcCl := false, tdcEdge := 0 }
/-- The PE registers at reset (10 R220). -/
def Chan.resetPe (c : Chan) : Chan :=
  let z : Chan := {}
  { c with
    full := true, drvMode := 0, term := false, clamp := false, rangeAt := none, ctrlNext := none, loadMode := 0
    pmuMode := 0, pmuConn := false, pmuSense := false, pmuRange := z.pmuRange, pmuAt := none, pmuOld := false
    compliance := false, senseFb := false, owEn := false, owDir := false, owCur := 0
    vchAct := false, vclAct := false, vchSeen := false, vclSeen := false, protHi := false, protLo := false, clEvents := 0
    conPol := false, conCur := z.conCur, conAt := none, conRes := 0 }
/-- The LVL registers at reset: the queue is empty (10 R221). -/
def Chan.resetLvl (c : Chan) : Chan := { c with codes := [], lvlq := [], lvlOver := false, lvlLate := false, lvlDrop := 0 }

/-- A channel as after power-up: calibration, comparator outputs and a held Hi-Z stay with the hardware (R30). -/
def Chan.cleared (c : Chan) : Chan :=
  { ({} : Chan) with
    outCH := c.outCH, outCL := c.outCL, held := c.held, cal := c.cal, calNext := c.calNext, calNextAt := c.calNextAt
    calSlew := c.calSlew, rawLag := c.rawLag, rawAt := c.rawAt }
/-- An MADC with its registers at reset; its coefficients stay (12 R261). -/
def Madc.cleared (m : Madc) : Madc := { ({} : Madc) with cal := m.cal, calNext := m.calNext }

/-- The header of a page whose owner changes: vector 0, no enables, lock and causes cleared (05 R91, R93; R30). -/
def Hdr.handed (h : Hdr) (o : Nat) : Hdr := { ({} : Hdr) with owner := min o 16, retired := h.retired }

/-- A channel of the site changes owner: burst count and barriers restart (16 R347, 08 R171). -/
def State.siteChanged (s : State) (o : Nat) : State :=
  if o < 16 then s.modSite o (fun x => { x with burstCount := 0, barriers := [] }) else s

/-- Sealed registers of a site that lie on the channel's pages leave its list (17 R361). -/
def State.dropSealed (s : State) (o ch : Nat) : State :=
  s.modSecSite o (fun x => { x with regs := x.regs.filter (fun a => bits a 12 8 != ch) })

/-- The scan-mask bits of lanes that are now another site's go (R29). -/
def State.dropMask (s : State) (k : Nat) : State := s.modMadc k (fun m => { m with mask := s.maskMine k m.mask })

/-- A channel moves to an owner: cleared first, its four pages together (R30, R90); its cluster's MADC loses it when it
is a site's and the lane becomes another's (R29). -/
def State.moveChannel (s : State) (ch o : Nat) : State :=
  let old := s.chOwner ch
  let s1 := ((s.dropSealed old ch).endRun ch).modChan ch Chan.cleared
  let s2 := forEach [Ty.tg, Ty.cmp, Ty.pe, Ty.lvl] (fun ty t => t.modHdr ty ch (fun h => h.handed o)) s1
  ((s2.dropMask (cluOf ch)).siteChanged old).siteChanged o

/-- A cluster unit moves to an owner, cleared to its reset values (R30). -/
def State.moveUnit (s : State) (ty k o : Nat) : State :=
  let s1 := if ty = Ty.madc then s.modMadc k Madc.cleared
    else if ty = Ty.acq then s.modAcq k (fun _ => {}) else s.modHist k (fun _ => {})
  s1.modHdr ty k (fun h => h.handed o)

def State.moveOwner (s : State) (ty inst o : Nat) : State :=
  if [Ty.tg, Ty.cmp, Ty.pe, Ty.lvl].contains ty then s.moveChannel inst o else s.moveUnit ty inst o

/-- The blocks whose owner is not fixed (05 R97). -/
def ownable (ty : Nat) : Bool := [Ty.tg, Ty.cmp, Ty.pe, Ty.lvl, Ty.madc, Ty.acq, Ty.hist].contains ty

/-- The resource is stopped (R30; 12 R260, 13 R277, 18 R403). -/
def State.stopped (s : State) (ty inst : Nat) : Bool :=
  if ty = Ty.madc then let m := s.madc inst; !m.run && m.scan.isNone && !m.pending
  else if ty = Ty.acq then let a := s.acq inst; !a.run && a.state == 0
  else if ty = Ty.hist then let h := s.hist inst; !h.run && h.feed.isEmpty
  else !(s.chan inst).frRun

/-- A move breaks R29 or R30. -/
def State.moveBad (s : State) (ty inst o : Nat) : Bool :=
  let old := (s.hdr ty inst).owner
  !s.siteIdle old || !s.siteIdle o || !s.stopped ty inst ||
    ([Ty.madc, Ty.acq, Ty.hist].contains ty && o != 16 && !(chansOfClu inst).any (fun ch => s.chOwner ch == o))

/-- A write of BLK_OWNER by the owner function (R90, R93). -/
def State.wOwner (s : State) (fn ty inst val : Nat) : State :=
  let o := bits val 0 5
  let v := bits val 8 8
  let old := (s.hdr ty inst).owner
  s.checked fn ty inst
    [(decide (o < 16 ∧ 63 < v), Code.paramRange),
     (decide (16 < o) || (o != old && (!ownable ty || s.moveBad ty inst o)), Code.ownerConflict)]
    (fun t => (if o = old then t else t.moveOwner ty inst o).modHdr ty inst (fun h => { h with vector := v }))

/-- BLK_OWNER_WRITE. -/
def execBlkOwnerWrite (fn ty inst val : Nat) (s : State) : Host.Outcome State Fault Refusal :=
  onUnit (decide (fn < 18)) (s.onWrite fn ty inst 0x020 (fun t => t.wOwner fn ty inst val))

/-! ### Grant registers of a SITE page (R341 to R344) -/

/-- The channels of word `k` that a write of SITE_CH_MASK_k moves, with their new owners. -/
def State.chMoves (s : State) (st k val : Nat) : List (Nat × Nat) :=
  (List.range 32).filterMap (fun j =>
    let ch := 32 * k + j
    let o := s.chOwner ch
    if bit val j ∧ o ≠ st then some (ch, st) else if ¬ bit val j ∧ o = st then some (ch, 16) else none)

/-- A write of SITE_CH_MASK_k (R341). -/
def State.wChMask (s : State) (fn st k val : Nat) : State :=
  let l := s.chMoves st k val
  s.checked fn Ty.site st
    [(l.any (fun p => (p.2 != 16 && s.chOwner p.1 != 16) || s.moveBad Ty.tg p.1 p.2), Code.ownerConflict)]
    (fun t => l.foldl (fun u p => u.moveChannel p.1 p.2) t)

def execSiteChMaskWrite (fn st k val : Nat) (s : State) : Host.Outcome State Fault Refusal :=
  onUnit (decide (fn < 18 ∧ k < 6)) (s.onWrite fn Ty.site st (0x060 + 4 * k) (fun t => t.wChMask fn st k val))

/-- The three units of a cluster that move together. -/
def cluUnits : List Nat := [Ty.madc, Ty.acq, Ty.hist]
/-- SITE_CLU_MASK of a site: clusters whose three units it owns. -/
def State.cluMask (s : State) (st : Nat) : Nat :=
  maskOf ((List.range nClu).filter (fun k => cluUnits.all (fun ty => (s.hdr ty k).owner == st)))
/-- The units a write of SITE_CLU_MASK moves: (type, cluster, new owner). -/
def State.cluMoves (s : State) (st val : Nat) : List (Nat × Nat × Nat) :=
  let old := s.cluMask st
  (List.range nClu).flatMap (fun k =>
    if bit val k = bit old k then []
    else (cluUnits.filter (fun ty => (s.hdr ty k).owner != (if bit val k then st else 16))).map
      (fun ty => (ty, k, if bit val k then st else 16)))

/-- A write of SITE_CLU_MASK (R342). -/
def State.wCluMask (s : State) (fn st val : Nat) : State :=
  let l := s.cluMoves st val
  s.checked fn Ty.site st [(l.any (fun p => s.moveBad p.1 p.2.1 p.2.2), Code.ownerConflict)]
    (fun t => l.foldl (fun u p => u.moveUnit p.1 p.2.1 p.2.2) t)

def execSiteCluMaskWrite (fn st val : Nat) (s : State) : Host.Outcome State Fault Refusal :=
  onUnit (decide (fn < 18)) (s.onWrite fn Ty.site st 0x078 (fun t => t.wCluMask fn st val))

/-- A 32-bit word `k` of a mask replaced. -/
def putWord (m k v : Nat) : Nat := m % 2 ^ (32 * k) + (v % 2 ^ 32) * 2 ^ (32 * k) + (m >>> (32 * (k + 1))) * 2 ^ (32 * (k + 1))

/-- A write of SITE_TE_MASK_k (R343). -/
def State.wTeMask (s : State) (fn st k val : Nat) : State :=
  s.checked fn Ty.site st [(!s.siteIdle st, Code.blkBusy)]
    (fun t => t.modSite st (fun x => { x with teMask := putWord x.teMask k val }))

def execSiteTeMaskWrite (fn st k val : Nat) (s : State) : Host.Outcome State Fault Refusal :=
  onUnit (decide (fn < 18 ∧ k < 3)) (s.onWrite fn Ty.site st (0x07C + 4 * k) (fun t => t.wTeMask fn st k val))

/-- Ranges [a, a + n) and [b, b + m) share a queue. -/
def rangesMeet (a n b m : Nat) : Bool := decide (0 < n ∧ 0 < m ∧ a < b + m ∧ b < a + n)
def inRange (a n q : Nat) : Bool := decide (a ≤ q ∧ q < a + n)

/-- The queue manager's descriptor of a site's range moves: queues that change owner are cleared, their
bodies zeroed where the old owner still holds them (15 R312), log and completion
queue registers keep VALID only for queues still in the range (R344, R30). -/
def State.setRange (s : State) (st base count : Nat) : State :=
  let x := s.site st
  let moves := fun (p : Nat × QDesc) => inRange x.qBase x.qCount p.1 != inRange base count p.1
  let s0 := forEach ((s.queues.filter moves).map (·.1)) (fun q t =>
    let d := s.queue q
    let n := slotSize d.type * d.slots
    if t.granted (s.qOwner q) d.base n then t.wipe d.base n else t) s
  let s1 := { s0 with queues := s.queues.filter (fun p => !moves p) }
  s1.modSite st (fun x => { x with
    qBase := base, qCount := count
    logQValid := x.logQValid && inRange base count x.logQ, cplQValid := x.cplQValid && inRange base count x.cplQ })

/-- A write of SITE_QUEUE_BASE or SITE_QUEUE_COUNT (R344). -/
def State.wQueueRange (s : State) (fn st : Nat) (isCount : Bool) (val : Nat) : State :=
  let x := s.site st
  let base := if isCount then x.qBase else bits val 0 20
  let count := if isCount then bits val 0 21 else x.qCount
  s.checked fn Ty.site st
    [(decide (1048576 < count ∨ 1048576 < base + count), Code.paramRange),
     (allSites.any (fun i => i != st && rangesMeet base count (s.site i).qBase (s.site i).qCount)
       || s.queues.any (fun p => p.2.enable && inRange x.qBase x.qCount p.1 != inRange base count p.1)
       || ((base != x.qBase || count != x.qCount) && !s.siteIdle st), Code.ownerConflict)]
    (fun t => t.setRange st base count)

/-- SITE_QUEUE_RANGE_WRITE: SITE_QUEUE_BASE, or SITE_QUEUE_COUNT (`isCount`). -/
def execSiteQueueRangeWrite (fn st : Nat) (isCount : Bool) (val : Nat) (s : State) : Host.Outcome State Fault Refusal :=
  onUnit (decide (fn < 18)) (s.onWrite fn Ty.site st (if isCount then 0x08C else 0x088)
    (fun t => t.wQueueRange fn st isCount val))

/-! ### The other SITE registers (R352, 03 R66, 08 R152) -/

def State.wSiteCtrl (s : State) (st val : Nat) : State := s.modSite st (fun x => { x with logEn := bit val 8 })
def State.wLclkDiv (s : State) (fn st val : Nat) : State :=
  let n := bits val 0 12
  s.checked fn Ty.site st [(!decide (20 ≤ n ∧ n ≤ 4000), Code.paramRange)] (fun t => t.modSite st (fun x => { x with lclkDiv := n }))
def State.wFrameGroup (s : State) (fn st val : Nat) : State :=
  s.checked fn Ty.site st [(!s.siteIdle st, Code.blkBusy), (bits val 0 4 == 15, Code.paramRange)]
    (fun t => t.modSite st (fun x => { x with group := bits val 0 4 }))
def State.wLatePolicy (s : State) (fn st val : Nat) : State :=
  s.checked fn Ty.site st [(!s.siteIdle st, Code.blkBusy)] (fun t => t.modSite st (fun x => { x with lateHiz := bit val 0 }))

/-- SITE_LEAD_TIME: each field is checked on its own (08 R152). -/
def State.wLeadTime (s : State) (fn st val : Nat) : State :=
  let l := bits val 0 16
  let w := bits val 16 16
  s.checked fn Ty.site st [(!s.siteIdle st, Code.blkBusy)] (fun t =>
    let t1 := if 500 ≤ l ∧ l ≤ 4000 then t.modSite st (fun x => { x with lead := l }) else t.reject fn Code.paramRange Ty.site st
    if 200 ≤ w ∧ w ≤ 4000 then t1.modSite st (fun x => { x with tether := w }) else t1.reject fn Code.paramRange Ty.site st)

/-- The queue lies in the site's range and has the type. -/
def State.siteQueueOk (s : State) (st q type : Nat) : Bool :=
  inRange (s.site st).qBase (s.site st).qCount q && (s.queue q).type == type

/-- SITE_LOG_QUEUE and SITE_COMPLETION_QUEUE (05 R425). -/
def State.wLogQueue (s : State) (fn st val : Nat) : State :=
  s.checked fn Ty.site st [(bit val 31 && !s.siteQueueOk st (bits val 0 20) 4, Code.ownerConflict)]
    (fun t => t.modSite st (fun x => { x with logQ := bits val 0 20, logQValid := bit val 31 }))
def State.wCplQueue (s : State) (fn st val : Nat) : State :=
  s.checked fn Ty.site st [(bit val 31 && !s.siteQueueOk st (bits val 0 20) 3, Code.ownerConflict)]
    (fun t => t.modSite st (fun x => { x with cplQ := bits val 0 20, cplQValid := bit val 31 }))

/-- A word of a broadcast group record: masks of channels (0 to 5), clusters (6), engines (7 to 9); the rest is reserved
(05 R94). -/
def groupWord (i val : Nat) : Nat := if i < 6 ∨ (7 ≤ i ∧ i ≤ 9) then val % 2 ^ 32 else if i = 6 then val % 2 ^ 24 else 0
def State.wSiteGroup (s : State) (st off val : Nat) : State :=
  let i := (off - 0x400) / 4
  if i < 496 then s.modSite st (fun x => { x with groups := Tbl.set 0 x.groups i (groupWord (i % 16) val) }) else s
def State.wGlbGroup (s : State) (off val : Nat) : State :=
  let i := (off - 0x400) / 4
  if i < 496 then s.modGlb (fun g => { g with groups := Tbl.set 0 g.groups i (groupWord (i % 16) val) }) else s

end Sys2Proof.Machine
end

