-- ==== Sys2Proof/Machine/Health.lean ====
section
/-! DEFINITION. Family: histogram units, module histograms and the ERR ring (18_faults_and_health.md R392 to R403). -/

namespace Sys2Proof.Machine

/-! ### HIST units (R396 to R398, R403) -/

/-- The bin of a value (R397). -/
def Hist.bin (h : Hist) (v : Int) : Nat :=
  if v < h.origin then 0 else min 63 (1 + ((v - h.origin) / (h.width : Int)).toNat)

/-- One value binned; the Bool says whether something saturated (R397). -/
def Hist.take (h : Hist) (v : Int) : Hist × Bool :=
  let b := h.bin v
  let old := Tbl.get 0 h.bins b
  let sum := h.sum + v
  let lo : Int := -0x8000000000000000
  let hi : Int := 0x7FFFFFFFFFFFFFFF
  ({ h with
      bins := Tbl.set 0 h.bins b (satAdd sat32 old 1), count := (h.count + 1) % 2 ^ 64, sum := clampI lo hi sum
      minV := if v < h.minV then v else h.minV, maxV := if h.maxV < v then v else h.maxV },
   decide (old = sat32) || decide (sum < lo ∨ hi < sum))

/-- HIST_SAMPLE: the oldest accepted value of a unit is binned. -/
def State.histSample (s : State) (k : Nat) : State :=
  match (s.hist k).feed with
  | [] => s
  | v :: rest =>
    let r := ({ s.hist k with feed := rest } : Hist).take v
    when r.2 (fun t => (t.modHist k (fun h => { h with sat := true })).cause Ty.hist k 1) (s.modHist k (fun _ => r.1))

def execHistSample (k : Nat) (s : State) : Host.Outcome State Fault Refusal := onUnit (decide (k < nClu)) (s.histSample k)

/-- Statistics and bins at their reset values. -/
def Hist.clear (h : Hist) : Hist :=
  let z : Hist := {}
  { h with bins := [], minV := z.minV, maxV := z.maxV, count := 0, sum := 0 }

/-- A write of HIST_CTRL (R398, R403; 05 R92). CLEAR is judged on RUN as it stands. -/
def State.wHistCtrl (s : State) (fn k val : Nat) : State :=
  let h := s.hist k
  s.checked fn Ty.hist k
    [((bit val 1 && h.run) || (bit val 0 && !h.run && !(s.hdr Ty.hist k).en), Code.blkBusy)]
    (fun t => t.modHist k (fun h =>
      let h := { h with run := bit val 0, sat := h.sat && !bit val 3 }
      if bit val 1 then h.clear else h))

/-- HIST_RUN_START, HIST_RUN_STOP, HIST_CLEAR: HIST_CTRL with the other fields as they stand. -/
def execHistRunStart (fn k : Nat) (s : State) : Host.Outcome State Fault Refusal :=
  onUnit (decide (fn < 18)) (s.onWrite fn Ty.hist k 0x040 (fun t => t.wHistCtrl fn k 1))
def execHistRunStop (fn k : Nat) (s : State) : Host.Outcome State Fault Refusal :=
  onUnit (decide (fn < 18)) (s.onWrite fn Ty.hist k 0x040 (fun t => t.wHistCtrl fn k 0))
def execHistClear (fn k : Nat) (s : State) : Host.Outcome State Fault Refusal :=
  onUnit (decide (fn < 18)) (s.onWrite fn Ty.hist k 0x040 (fun t => t.wHistCtrl fn k (2 + b2n (t.hist k).run)))

/-- The source a write of HIST_SRC names is not the unit's (R396, 01 R29). -/
def State.histSrcBad (s : State) (k val : Nat) : Bool :=
  let o := (s.hdr Ty.hist k).owner
  let kind := bits val 0 4
  ((kind == 1 || kind == 2 || kind == 4) && !s.laneMine o k (bits val 4 3)) ||
    (kind == 3 && ((s.hdr Ty.madc k).owner != o || !bit (s.maskMine k 0xFFFFFFFF) (bits val 10 5)))

def State.wHistSrc (s : State) (fn k val : Nat) : State :=
  s.checked fn Ty.hist k
    [((s.hist k).run, Code.blkBusy),
     (decide (5 < bits val 0 4 ∨ bits val 8 2 = 3 ∨ 9 < bits val 15 4), Code.paramRange),
     (s.histSrcBad k val, Code.ownerConflict)]
    (fun t => t.modHist k (fun h => { h with
      kind := bits val 0 4, lane := bits val 4 3, comp := bit val 7, dir := bits val 8 2, input := bits val 10 5
      dac := bits val 15 4, raw := bit val 19 }))
def State.wHistOrigin (s : State) (fn k val : Nat) : State :=
  let lo := s.lowHalf fn Ty.hist k 0x048 (tc 64 (s.hist k).origin % 2 ^ 32)
  (s.unstage fn Ty.hist k 0x048).checked fn Ty.hist k [((s.hist k).run, Code.blkBusy)]
    (fun t => t.modHist k (fun h => { h with origin := sx 64 (lo + (val % 2 ^ 32) * 2 ^ 32) }))
def State.wHistWidth (s : State) (fn k val : Nat) : State :=
  s.checked fn Ty.hist k [((s.hist k).run, Code.blkBusy), (val % 2 ^ 32 == 0, Code.paramRange)]
    (fun t => t.modHist k (fun h => { h with width := val % 2 ^ 32 }))

/-! ### Module histograms (R399, R402) -/

/-- One value of a module histogram (R399). -/
def ModHist.take (h : ModHist) (v : Nat) : ModHist :=
  let b := min 63 (v >>> h.shift)
  { h with
    bins := Tbl.set 0 h.bins b (satAdd sat32 (Tbl.get 0 h.bins b) 1), count := (h.count + 1) % 2 ^ 64
    sum := satAdd (2 ^ 64 - 1) h.sum v, minV := min h.minV v, maxV := max h.maxV v }
def ModHist.clear (h : ModHist) : ModHist := { run := h.run, shift := h.shift }

/-- CMDLAT_SAMPLE: the latency `ns` of a completed command, one the module has accepted and not binned yet, is binned;
any other value is none of the module's and changes nothing. -/
def execCmdlatSample (ns : Nat) (s : State) : Host.Outcome State Fault Refusal :=
  .next (if s.hlth.lat.contains ns then
    s.modHlth (fun h => { h with lat := h.lat.erase ns, cmdlat := h.cmdlat.take ns }) else s)

/-- QDEPTH_SAMPLE: 1 µs after the last one, the occupancy of the selected queue, binned while QD_RUN is 1. -/
def execQdepthSample (s : State) : Host.Outcome State Fault Refusal :=
  .next (if s.up < s.hlth.sampledAt * 256 + fsUs then s
    else s.modHlth (fun h => { h with
      sampledAt := s.uptime, qdepth := if h.qdepth.run then h.qdepth.take (s.queue h.queue).used else h.qdepth }))

/-- HLTH_HIST_CTRL as read. -/
def Hlth.ctrl (h : Hlth) : Nat :=
  b2n h.cmdlat.run + 2 * b2n h.qdepth.run + 16 * h.cmdlat.shift + 256 * h.qdepth.shift + 4096 * h.queue

/-- A write of HLTH_HIST_CTRL (R398, R402). -/
def State.wHlthCtrl (s : State) (fn val : Nat) : State :=
  let c := s.hlth.cmdlat
  let q := s.hlth.qdepth
  s.checked fn Ty.hlth 0
    [((c.run && (bit val 2 || bits val 4 4 != c.shift)) || (q.run && (bit val 3 || bits val 8 4 != q.shift)), Code.blkBusy)]
    (fun t => t.modHlth (fun h =>
      let c := { h.cmdlat with run := bit val 0, shift := bits val 4 4 }
      let q := { h.qdepth with run := bit val 1, shift := bits val 8 4 }
      { h with
        cmdlat := if bit val 2 then c.clear else c, qdepth := if bit val 3 then q.clear else q
        queue := bits val 12 20 }))

/-- CMD_CLEAR and QD_CLEAR: HLTH_HIST_CTRL with the other fields as read. -/
def execCmdClear (fn : Nat) (s : State) : Host.Outcome State Fault Refusal :=
  onUnit (decide (fn < 18)) (s.onWrite fn Ty.hlth 0 0x060 (fun t => t.wHlthCtrl fn (t.hlth.ctrl + 4)))
def execQdClear (fn : Nat) (s : State) : Host.Outcome State Fault Refusal :=
  onUnit (decide (fn < 18)) (s.onWrite fn Ty.hlth 0 0x060 (fun t => t.wHlthCtrl fn (t.hlth.ctrl + 8)))

/-! ### The ERR ring (R393 to R395) -/

/-- ERR_ENTRY_CLOSE. -/
def execErrEntryClose (s : State) : Host.Outcome State Fault Refusal := .next s.closeDue

/-- ERR_RESERVE_WRITE. -/
def execErrReserveWrite (s : State) : Host.Outcome State Fault Refusal := .next s.errDrain

/-- ERR_MIRROR: the oldest entry of the ring, once closed, goes to the owner function's log queue (R395). -/
def State.errMirror (s : State) : State :=
  match s.err.ring with
  | [] => s
  | e :: rest =>
    if s.err.valid ∧ ¬ e.open_ ∧ 0 < (s.queue s.err.queue).room then
      (s.modErr (fun l => { l with ring := rest, headSeq := (e.seq + 1) % 65536 })).produce s.err.queue [e.bytes]
    else s

def execErrMirror (s : State) : Host.Outcome State Fault Refusal := .next s.errMirror

end Sys2Proof.Machine
end

