-- ==== Sys2Proof/Machine/Image.lean ====
section
/-! DEFINITION. The checks a region loader makes of a microcode image (07_tin_engines.md R128, R131, R136, R146, R147).
A word whose EVENT is HALT or RAISE ends every path through it (DEDUCED: the segment ends there). -/

namespace Sys2Proof.Machine

/-! ### Layout (R146) -/

/-- The image in its stored bytes, less the signature: version, dispatch entries, words. -/
def parseImage (b : List Byte) : McImage :=
  let wc := fromLe ((b.drop 12).take 4)
  { version := fromLe ((b.drop 8).take 4)
    dispatch := (List.range 256).map (fun i => fromLe ((b.drop (0x40 + 2 * i)).take 2))
    words := (List.range (min wc 4096)).map (fun i => fromLe ((b.drop (0x240 + 16 * i)).take 16)) }

/-- Check 1: MAGIC, FORMAT, WORD_COUNT, reserved bytes, size. -/
def imageFormOk (b : List Byte) : Bool :=
  let wc := fromLe ((b.drop 12).take 4)
  b.take 4 == [0x4B, 0x56, 0x4D, 0x43] && fromLe ((b.drop 4).take 2) == 1 && fromLe ((b.drop 6).take 2) == 0
    && decide (1 ≤ wc ∧ wc ≤ 4096) && ((b.drop 0x14).take 44).all (· == 0) && b.length == 0x240 + 16 * wc + 96

/-! ### Words (R128) -/

/-- Check 4 of one word: reserved bits 0, no reserved encoding, ERR 0 unless EVENT = RAISE. -/
def wordOk (w : Nat) : Bool :=
  bits w 0 40 == 0 && decide (bits w 118 6 ≤ 12 ∧ bits w 100 4 ≤ 10 ∧ bits w 96 4 ≤ 10 ∧ bits w 68 4 ≤ 3 ∧ bits w 64 4 ≤ 6
    ∧ bits w 60 4 ≤ 4 ∧ bits w 56 4 ≤ 8 ∧ bits w 44 4 ≤ 2 ∧ bits w 40 4 ≤ 1)
    && (if uEvent w = 7 then decide (bits w 48 8 ≤ 7) else bits w 48 8 == 0)

/-- Bits 15 to 12 of a dispatch entry: VALID, COND_OP, TS_USE for exactly the opcodes R131 names. -/
def entryFlags (op : Nat) : Nat :=
  if opcodes.contains op then 1 + 2 * b2n (condOp op) + 4 * b2n (tsUse op) else 0
def dispatchFlagsOk (i : McImage) : Bool :=
  i.dispatch.length == 256 && (List.range 256).all (fun op => bits (i.dispatch.getD op 0) 12 4 == entryFlags op)

/-- Every ADDR of the dispatch table and of the words lies below WORD_COUNT. -/
def addrsOk (i : McImage) : Bool :=
  i.dispatch.all (fun d => decide (bits d 0 12 < i.words.length)) && i.words.all (fun w => decide (uAddr w < i.words.length))

/-- Entries of the valid opcodes. -/
def McImage.routines (i : McImage) : List Nat := opcodes.map (fun op => bits (i.dispatch.getD op 0) 0 12)
def McImage.word (i : McImage) (a : Nat) : Nat := i.words.getD a 0

/-! ### Paths (R129, R136) -/

/-- A point of a path: micro-address and micro-stack. -/
abbrev UPoint := Nat × List Nat

/-- The word ends every path through it. -/
def uEnds (w : Nat) : Bool := uEvent w == 6 || uEvent w == 7

/-- Where a path goes on after point `p`; RET on an empty stack goes nowhere. -/
def McImage.succs (i : McImage) (p : UPoint) : List UPoint :=
  let w := i.word p.1
  let next := p.1 + 1
  if uWait w then [p, (if uSeq w = 1 then uAddr w else next, p.2)]
  else if uEnds w then []
  else match uSeq w with
    | 0 => [(next, p.2)]
    | 1 => [(uAddr w, p.2)]
    | 2 => [(uAddr w, p.2), (next, p.2)]
    | 3 => [(uAddr w, next :: p.2)]
    | 4 => (match p.2 with | [] => [] | r :: t => [(r, t)])
    | 5 => i.routines.map (fun a => (a, p.2))
    | 6 => [(uAddr w, p.2), (next, p.2)]
    | _ => []

/-- The point breaks a bound: a ninth push or a pop of an empty stack (check 7). -/
def McImage.stackBad (i : McImage) (p : UPoint) : Bool :=
  let w := i.word p.1
  !uWait w && !uEnds w && ((uSeq w == 3 && decide (8 ≤ p.2.length)) || (uSeq w == 4 && p.2.isEmpty))

/-- Points reached from `todo`, those of `seen` among them. A path ends at an address beyond the image or a broken stack
bound. `fuel` exceeds any number of points met. -/
def McImage.reach (i : McImage) : Nat → List UPoint → List UPoint → List UPoint
  | 0, _, seen => seen
  | _ + 1, [], seen => seen
  | n + 1, p :: todo, seen =>
    if seen.contains p then i.reach n todo seen
    else if i.words.length ≤ p.1 ∨ i.stackBad p then i.reach n todo (p :: seen)
    else i.reach n (i.succs p ++ todo) (p :: seen)

def McImage.main (i : McImage) : List UPoint := i.reach (2 ^ 200) [(0, [])] []
def McImage.handlers (i : McImage) : List UPoint := i.reach (2 ^ 200) [(8, []), (16, []), (24, [])] []

/-- Every path from `p` meets a word that `good` accepts, or ends, within `n` words, it included. -/
def McImage.within (i : McImage) (good : Nat → Bool) (endOk : Bool) : Nat → UPoint → Bool
  | 0, _ => false
  | n + 1, p =>
    let w := i.word p.1
    if good w then true
    else if uEnds w then endOk
    else (i.succs p).all (fun q => i.within good endOk n q)

/-- The word can stall (R136). -/
def uCanStall (w : Nat) : Bool := uFetch w != 0 || uEmit w != 0 || uWait w || uSeq w == 5
/-- What a handler word may hold (R136). -/
def handlerWordOk (w : Nat) : Bool :=
  (uSeq w == 0 || uSeq w == 1 || uSeq w == 2 || uSeq w == 7) && bits w 96 4 == 10 && uFetch w == 0 && uEmit w == 0
    && bits w 60 4 == 0 && bits w 44 4 == 0 && bits w 40 4 == 0 && (uEvent w == 0 || uEvent w == 8 || uEvent w == 7)

/-- Check 6: the five conditions of R136. -/
def safePointsOk (i : McImage) : Bool :=
  let main := i.main
  let hs := i.handlers
  i.words.all (fun w => !uCanStall w || uSafe w) && [0, 8, 16, 24].all (fun a => uSafe (i.word a))
    && (main ++ hs).all (fun p => i.within uSafe true 64 p || (hs.contains p && i.within (fun w => uSeq w == 7) true 64 p))
    && [8, 16, 24].all (fun a => i.within (fun w => uSeq w == 7) false 64 (a, []))
    && hs.all (fun p => handlerWordOk (i.word p.1))
    && main.all (fun p => uSeq (i.word p.1) != 7)
    && (List.range i.words.length).all (fun a => uSeq (i.word a) != 7 || hs.any (fun p => p.1 == a))

/-- Checks 4 to 7 of an image, 0 when all pass (R147). -/
def imageRules (i : McImage) : Nat :=
  let all := i.main ++ i.handlers
  if ¬ i.words.all wordOk then Code.mcImageFormat
  else if ¬ (dispatchFlagsOk i && addrsOk i && all.all (fun p => decide (p.1 < i.words.length))) then Code.mcImageDispatch
  else if ¬ safePointsOk i then Code.mcImageSafe
  else if all.any i.stackBad then Code.mcImageStack
  else 0

/-- The checks of an image in a slot, `sig` saying whether its signature verifies (R147 checks 2 to 7; check 1 was made
when the slot was written). -/
def slotCheck (i : McImage) (sig : Bool) (floor : Nat) : Nat :=
  if ¬ sig then Code.mcImageSig else if i.version < floor then Code.mcImageVersion else imageRules i
/-- The checks of an image given in bytes (R147). -/
def imageCheck (b : List Byte) (sig : Bool) (floor : Nat) : Nat :=
  if ¬ imageFormOk b then Code.mcImageFormat else slotCheck (parseImage b) sig floor

/-! ### Loading at power-up (R148, 02 R40, R41) -/

/-- Region `r` runs image `i` from a slot: its verified copy, its 24 control stores. -/
def State.mcRun (s : State) (r : Nat) (i : McImage) (slotB fallback : Bool) : State :=
  (forEach (tesOfRgn r) (fun e t => t.loadStore e) (s.setCopy r i)).modRgn r (fun x => { x with
    loaderState := 0, slot := slotB, fallback := fallback, holding := tesOfRgn r, version := i.version })

/-- A region loader at power-up: the newer committed slot, else the older; the Bool says whether one runs. -/
def State.mcLoadRgn (s : State) (r sigs : Nat) : State × Bool :=
  let p := s.mcSlots r
  let newB := p.newer
  let ok := fun (x : Option (Nat × McImage)) (b : Bool) => match x with
    | none => Code.mcImageFormat
    | some (_, i) => slotCheck i (bit sigs (2 * r + b2n b)) s.sec.mcFloor
  let c := ok p.newest newB
  let older := ok p.older (!newB)
  if c = 0 then (s.mcRun r ((p.newest.map (·.2)).getD {}) newB false, true)
  else
    let s1 := s.modRgn r (fun x => { x with lastErr := c })
    if older = 0 then
      ((s1.mcRun r ((p.older.map (·.2)).getD {}) (!newB) true).raise Code.microcodeFallback Ty.rgn r, true)
    else (s1.modRgn r (fun x => { x with loaderState := 4, lastErr := if p.older.isSome then older else c }), false)

/-- MC_LOAD_DONE: bit 2 r + 1 (slot B) or 2 r (slot A) of `sigs` says whether the signature in that slot of region r
verifies. -/
def State.mcLoad (s : State) (sigs : Nat) : State :=
  let g := s.glb
  if s.stage ≠ .on ∨ ¬ g.bmemClear ∨ ¬ g.fwOk ∨ g.mcLoaded then s
  else
    let r := [0, 1, 2, 3].foldl (fun (p : State × Bool) r => let q := p.1.mcLoadRgn r sigs; (q.1, p.2 && q.2)) (s, true)
    if r.2 then r.1.modGlb (fun g => { g with mcLoaded := true }) else r.1.toSafe causeMc Code.burstAbortSafe

def execMcLoadDone (sigs : Nat) (s : State) : Host.Outcome State Fault Refusal := .next (s.mcLoad sigs)

end Sys2Proof.Machine
end

