-- ==== Sys2Proof/Machine/Memory.lean ====
section
/-! DEFINITION. Family: bank arbitration, the background test and the HBM stacks (15_memory_and_queues.md R307 to R316,
R331, R332). -/

namespace Sys2Proof.Machine

/-! ### Ports and banks (R307 to R310) -/

def BankReq.bank (r : BankReq) : Nat := r.off / 32 % 64
def BankReq.portB (r : BankReq) : Bool := decide (13 ≤ r.master)
def BankReq.span (r : BankReq) : Nat := match r.data with | some d => d.length | none => r.len
/-- The word at an offset is in an allocation the master reaches (R305, R307): of port A the region fill units 0 to 3, the
queue manager 4, FCU_r 5 + r, the region ACQ writers 9 + r; of port B the management controller 13, the host DMA engine 14,
the security engine 15 and the background tester 16, which leaves only the electrum region out (R311). General units are
reached on behalf of their holder. -/
def reaches (m off : Nat) : Bool :=
  if off < 0x1000000 then m == 4 || m == 16
  else if off < 0x3000000 then m == 5 + (off - 0x1000000) / 0x800000 || m == 16
  else if off < 0x4800000 then decide (m < 4) || m == 16
  else if off < 0x5400000 then m == 9 + (off - 0x4800000) / 0x80000 / 6 || m == 16
  else if off < 0x5800000 then m == 15
  else if off < 0x5900000 then m == 13 || m == 16
  else decide (m < 17)
/-- The request names a master, at least one byte, and bank memory that the master reaches. -/
def BankReq.ok (r : BankReq) : Bool :=
  decide (1 ≤ r.span ∧ r.off + r.span ≤ 0x6000000) && reaches r.master r.off && reaches r.master (r.off + r.span - 1)
    && r.got.isEmpty
/-- Bytes of the request's next word access (R310). -/
def BankReq.part (r : BankReq) : Nat := min r.span (32 - r.off % 32)

/-- Ring distance of a master behind the port's last winner. -/
def ringDist (n last i : Nat) : Nat := (i + n - last - 1) % n

/-- The requester a port serves: the first after its last winner in ring order (R308). -/
def portWinner (n last : Nat) : List BankReq → Option BankReq
  | [] => none
  | r :: t => match portWinner n last t with
    | none => some r
    | some x => if ringDist n last (r.master % 13) ≤ ringDist n last (x.master % 13) then some r else some x

/-- A descriptor from its 128 bits; what the queue manager keeps beside them stays (R317). -/
def QDesc.ofWord (d : QDesc) (w : Nat) : QDesc :=
  { d with
    base := bits w 0 40, log2 := bits w 40 5, head := bits w 45 24, tail := bits w 69 24, owner := bits w 93 4, type := bits w 97 3
    enable := bit w 100, ownerFn := bit w 101, released := bit w 102, irqEn := bit w 103, vector := bits w 108 12 }
/-- The byte of bank memory at an offset: the queue table holds the descriptors (R305, R317). -/
def State.bankByte (s : State) (off : Nat) : Byte :=
  if off < 0x1000000 then BitVec.ofNat 8 ((s.queue (off / 16)).word >>> (8 * (off % 16))) else s.byte (bankBase + off)
/-- A byte of bank memory written. -/
def State.setBankByte (s : State) (off : Nat) (b : Byte) : State :=
  if off < 0x1000000 then
    s.modQueue (off / 16) (fun d =>
      let k := 8 * (off % 16)
      d.ofWord (d.word % 2 ^ k + b.toNat * 2 ^ k + (d.word >>> (k + 8)) * 2 ^ (k + 8)))
  else s.setByte (bankBase + off) b
def State.setBankBytes (s : State) : Nat → List Byte → State
  | _, [] => s
  | off, b :: t => (s.setBankByte off b).setBankBytes (off + 1) t

/-- What a served request has yet to access after the word access served, none when it is complete. -/
def BankReq.rest (r : BankReq) (read : List Byte) : Option BankReq :=
  if r.span ≤ r.part then none
  else some { r with off := r.off + r.part, len := r.len - r.part, data := r.data.map (·.drop r.part), got := r.got ++ read }

/-- A served word access; a read takes the data memory held in `old` and is answered with its last word. -/
def State.bankDo (s old : State) (r : BankReq) : State :=
  let s1 := s.shadowHit r.off r.data.isSome
  match r.data with
  | none =>
    if r.span ≤ r.part then s1.emit (.bank r.master (r.got ++ (List.range r.part).map (fun i => old.bankByte (r.off + i)))) else s1
  | some d => s1.setBankBytes r.off (d.take r.part)

/-- The token of bank b is at port A when (cycle + b) is even; the cycle count is TT in CCLK cycles (R309). `cyc` counts the
cycles from the command's. -/
def State.tokenA (s : State) (b : Nat) (cyc : Nat := 0) : Bool := (s.root / 16 + cyc + b) % 2 == 0

/-- Both winners of a bank act: a reader sees the old data; of two writers to one word with different data the token
holder writes first, and BMEM_COLLIDE counts (R309). -/
def State.bankBoth (s : State) (a b : Option BankReq) (bank cyc : Nat) : State :=
  match a, b with
  | none, none => s
  | some x, none => s.bankDo s x
  | none, some y => s.bankDo s y
  | some x, some y =>
    let first := if s.tokenA bank cyc then x else y
    let second := if s.tokenA bank cyc then y else x
    let clash := x.off / 32 == y.off / 32 && x.data.isSome && y.data.isSome && !((x.data.map (·.take x.part)) == (y.data.map (·.take y.part)) && x.off == y.off)
    let s1 := (s.bankDo s first).bankDo s second
    if clash then s1.modBmem (fun m => { m with collide := satAdd sat32 m.collide 1 }) else s1

/-- The requesters a bank serves on port A and port B in one cycle. -/
def State.bankWinA (s : State) (l : List BankReq) (bank : Nat) : Option BankReq :=
  portWinner 13 (Tbl.get 12 s.bmem.winA bank) (l.filter (fun r => r.bank == bank && !r.portB))
def State.bankWinB (s : State) (l : List BankReq) (bank : Nat) : Option BankReq :=
  portWinner 4 (Tbl.get 3 s.bmem.winB bank) (l.filter (fun r => r.bank == bank && r.portB))

/-- One bank's cycle (R308, R309). -/
def State.bankCycle (s : State) (l : List BankReq) (bank cyc : Nat) : State :=
  let pa := l.filter (fun r => r.bank == bank && !r.portB)
  let pb := l.filter (fun r => r.bank == bank && r.portB)
  let wa := s.bankWinA l bank
  let wb := s.bankWinB l bank
  let waits := (pa.length - b2n wa.isSome) + (pb.length - b2n wb.isSome)
  let s1 := s.modBmem (fun m => { m with
    conflict := satAdd sat32 m.conflict waits
    winA := match wa with | some r => Tbl.set 12 m.winA bank r.master | none => m.winA
    winB := match wb with | some r => Tbl.set 3 m.winB bank (r.master - 13) | none => m.winB })
  s1.bankBoth wa wb bank cyc

/-- The banks some request is for. -/
def banksOf (l : List BankReq) : List Nat := (List.range 64).filter (fun b => l.any (fun r => r.bank == b))

/-- What the requests have left after a cycle: the losers wait, a request served goes on with its next word (R308, R310). -/
def State.bankLeft (s : State) (l : List BankReq) : List BankReq :=
  let won := (banksOf l).flatMap (fun b => (s.bankWinA l b).toList ++ (s.bankWinB l b).toList)
  l.filterMap (fun r =>
    if won.contains r then r.rest ((List.range r.part).map (fun i => s.bankByte (r.off + i))) else some r)

/-- The CCLK cycles from a command on until every request is served: `n` bounds them. -/
def State.bankRun (s : State) (cyc : Nat) (l : List BankReq) : Nat → State
  | 0 => s
  | n + 1 => if l = [] then s else (forEach (banksOf l) (fun b t => t.bankCycle l b cyc) s).bankRun (cyc + 1) (s.bankLeft l) n

/-- BANK_ACCESS: requests that begin in one CCLK cycle, each served word by word. No master reads before the power-up clear
(R312). -/
def State.bankAccess (s : State) (l : List BankReq) : State :=
  if s.stage ≠ .on ∨ ¬ s.glb.bmemClear then s
  else s.bankRun 0 l ((l.map (fun r => r.span / 32 + 2)).sum)

def execBankAccess (l : List BankReq) (s : State) : Host.Outcome State Fault Refusal :=
  onUnit (l.all BankReq.ok) (s.bankAccess l)

/-! ### Background test (R311) -/

/-- The first region of a pass at or after `r`, past the electrum region. -/
def skipElectrum (r : Nat) : Nat := if 0x540 ≤ r ∧ r < 0x580 then 0x580 else r

/-- BMEM_TEST_REGION_START: the next region, or one that was abandoned in this pass, is borrowed. -/
def State.regionStart (s : State) : State :=
  let b := s.bmem
  if ¬ b.testEn ∨ ¬ s.inMode [.ready, .run, .service] ∨ b.active
      ∨ b.startAt.any (fun t => decide (s.up < t + b.interval * fsMs)) then s
  else
    let n := skipElectrum b.next
    if n < 1536 then
      s.modBmem (fun b => { b with active := true, marching := true, region := n, next := n + 1, startAt := some s.up })
    else match b.retest with
      | r :: rest => s.modBmem (fun b => { b with active := true, marching := true, region := r, retest := rest, startAt := some s.up })
      | [] => s.modBmem (fun b => { b with active := true, marching := true, region := 0, next := 1, startAt := some s.up })

def execBmemTestRegionStart (s : State) : Host.Outcome State Fault Refusal := .next s.regionStart

/-- A word of the borrowed region fails the march: a transient of its bank; a word that failed in the pass before is its
permanent fault (18 R383). -/
def State.marchFail (s : State) (off : Nat) : State :=
  let again := s.bmem.suspect.contains off
  let s1 := (s.modBmem (fun b => { b with fails := satAdd sat8 b.fails 1 })).cause Ty.bmem 0 1
  s1.transient kBank (off / 32 % 64) Code.bmemTestFail Ty.bmem 0 none off again false

/-- BMEM_MARCH_DONE: `fails` are the offsets of the region's words that failed, in ascending order. -/
def State.marchDone (s : State) (fails : List Nat) : State :=
  let b := s.bmem
  if ¬ b.active then s
  else
    let l := (fails.map (fun o => o / 32 * 32)).filter (fun o => o >>> 16 == b.region)
    let s1 := l.foldl (fun t o => t.marchFail o) s
    s1.modBmem (fun x =>
      let last := decide (1536 ≤ skipElectrum x.next) && x.retest.isEmpty
      { x with
        active := false, marching := false
        suspect := x.suspect.filter (fun o => o >>> 16 != x.region) ++ l
        passes := if last then satAdd sat16 x.passes 1 else x.passes })

def execBmemMarchDone (fails : List Nat) (s : State) : Host.Outcome State Fault Refusal := .next (s.marchDone fails)

/-- A write of BMEM_TEST_CTRL (R331). -/
def State.wBmemTest (s : State) (fn val : Nat) : State :=
  s.checked fn Ty.bmem 0 [(bits val 8 8 == 0, Code.paramRange)]
    (fun t => t.modBmem (fun b => { b with testEn := bit val 0, interval := bits val 8 8 }))

/-! ### HBM (R313 to R316, R332) -/

/-- HBM_TEMP_REFRESH: of each stack the temperature, 1/1,024 °C, and the single-bit errors its controller has corrected
since the last refresh; above 95 °C the refresh rate doubles (R313). -/
def execHbmTempRefresh (t0 t1 t2 : Int × Nat) (s : State) : Host.Outcome State Fault Refusal :=
  .next (if s.stage ≠ .on then s else
    ([(0, t0), (1, t1), (2, t2)] : List (Nat × Int × Nat)).foldl (fun t p =>
      t.modHbm p.1 (fun h => { h with
        temp := p.2.1, doubleRefresh := decide ((95 * 1024 : Int) < p.2.1), eccCorr := satAdd sat32 h.eccCorr p.2.2 })) s)

/-- HBM_BW_WINDOW of a stack: bandwidth served and requested in GB/s by class (pattern, fail, acquisition, host) over the
100 µs that end, the throttled classes (bit 0 FAIL, 1 ACQ, 2 HOST; bit 3 queue traffic under back-pressure, which HBM_DEGRADE does not show), and whether a class is under back-pressure. -/
def State.bwWindow (s : State) (i : Nat) (served demand : List Nat) (thr : Nat) (bp : Bool) : State :=
  let cap := fun (l : List Nat) => ((List.range 4).map (fun c => (c, min sat16 (l.getD c 0)))).filter (fun p => p.2 != 0)
  let old := s.hbm i
  let rise := (bit thr 0 && !old.degFail) || (bit thr 1 && !old.degAcq) || (bit thr 2 && !old.degHost)
  let s1 := s.modHbm i (fun h => { h with
    served := cap served, demand := cap demand, degFail := bit thr 0, degAcq := bit thr 1, degHost := bit thr 2, bpQueue := bit thr 3, bp := bp || bit thr 3
    events := if thr % 8 = 0 then h.events else satAdd sat16 h.events 1 })
  when rise (fun t => t.cause Ty.hbm i 2) s1

def execHbmBwWindow (i : Nat) (served demand : List Nat) (thr : Nat) (bp : Bool) (s : State) :
    Host.Outcome State Fault Refusal :=
  onUnit (decide (i < 3)) (if s.stage = .on then s.bwWindow i served demand thr bp else s)

end Sys2Proof.Machine
end

