-- ==== Sys2Proof/Machine/Commands.lean ====
section
/-! DEFINITION. Family: management commands (01_architecture.md R26; 15_memory_and_queues.md R314, R326 to R330; 07 R148;
08 R171; 11 R239). A row names the command queue whose head the management controller takes; it acts when that entry
carries the row's code. -/

namespace Sys2Proof.Machine

/-- A command entry (R326) and the function that issued it. -/
structure Cmd where
  fn : Nat := 0
  raw : List Byte := []
  /-- uptime at which the entry became visible -/
  seen : Nat := 0
deriving DecidableEq, Repr

def Cmd.num (c : Cmd) (off n : Nat) : Nat := fromLe ((c.raw.drop off).take n)
def Cmd.code (c : Cmd) : Nat := c.num 0 2
def Cmd.tag (c : Cmd) : Nat := c.num 4 4
def Cmd.cq (c : Cmd) : Nat := c.num 8 4 % 2 ^ 20
def Cmd.arg (c : Cmd) (k : Nat) : Nat := c.num (16 + 8 * k) 8
/-- The reserved bytes and bits are 0; `masks` holds the bits each argument may use. -/
def Cmd.formOk (c : Cmd) (masks : List Nat) : Bool :=
  c.num 2 2 == 0 && c.num 12 4 == 0 && c.num 8 4 < 2 ^ 20
    && (List.range 6).all (fun k => (c.arg k) &&& ((2 ^ 64 - 1) ^^^ masks.getD k 0) == 0)

/-- The entry at the head of command queue `q` as the controller takes it: the queue manager is ready, the function not
under reset, fewer than 64 completions held, no earlier command of the owner function in progress (R26, R321). -/
def State.headCmd (s : State) (q : Nat) : Option Cmd :=
  let d := s.queue q
  if s.stage = .on ∧ s.qmgr.ready ∧ (d.base < hbmTop → s.glb.hbmClear) ∧ d.enable ∧ d.type = 5 ∧ d.head ≠ d.tail
      ∧ ¬ (s.fn d.fn).inReset ∧ (s.fn d.fn).held.length < 64
      ∧ (d.fn = 0 → s.qmgr.grant.isNone ∧ s.nor.mcStage.isNone) then
    some { fn := d.fn, raw := s.bytes (d.base + 64 * d.head) 64, seen := d.shown.headD s.uptime }
  else none

/-- It is function `fn`'s turn: no function with a command waiting comes before it in round robin after the function
served last (R26). -/
def State.cmdTurn (s : State) (fn : Nat) : Bool :=
  let rank := fun f => (f + 17 - s.qmgr.lastFn) % 18
  s.queues.all (fun p => (s.headCmd p.1).all (fun c => decide (rank fn ≤ rank c.fn)))

/-- Management commands are no activity of SAFE, and in SERVICE only the owner function acts (02 R34; that a command is
then refused with ACCESS_DENIED is DEDUCED, log entry 32). CMD_NOP does nothing in any mode; MC_INSTALL answers SVC_MODE
(07 R148). -/
def State.cmdMode (s : State) (fn : Nat) : Bool :=
  s.inMode [.ready, .cal, .run, .service] && (fn == 0 || s.inMode [.ready, .cal, .run])

/-- The completion queue is an enabled completion queue of the issuer. -/
def State.cqOk (s : State) (c : Cmd) : Bool :=
  let d := s.queue c.cq
  d.enable && d.type == 3 && d.fn == c.fn

/-- The completion entry of a command; its latency since `seen` is accepted by CMDLAT while that runs (R328, 18 R399). -/
def State.complete (s : State) (fn cq tag seen status : Nat) (result : List Byte := []) : State :=
  (when s.hlth.cmdlat.run (fun t => t.modHlth (fun h => { h with lat := h.lat ++ [(t.uptime - seen) / 16] })) s).postCpl
    fn cq (cplBytes 0 status tag s.now result)

/-- The completion of a command: its STATUS is reported nowhere else (R326, R328). -/
def State.reply (s : State) (c : Cmd) (status : Nat) (result : List Byte := []) : State :=
  s.complete c.fn c.cq c.tag c.seen status result

/-- The codes of the table "Commands". -/
def cmdCodes : List Nat := [0x01, 0x10, 0x11, 0x12, 0x20, 0x21, 0x30, 0x40, 0x50]

/-- Who may issue a command: 0 any function, 1 the owner function, 2 a site. -/
def issuerOk (who fn : Nat) : Bool := who == 0 || (who == 1 && fn == 0) || (who == 2 && fn != 0)

/-- The checks of R326 on a taken entry, then `act`. -/
def State.runCmd (s : State) (q : Nat) (c : Cmd) (who : Nat) (masks : List Nat) (act : Cmd → State → State) : State :=
  let d := s.queue q
  let s1 := ((s.bankHits (d.base + 64 * d.head) 64 false).consume q 1).modQmgr (fun m => { m with lastFn := c.fn })
  if ¬ s.cqOk c then s1.raise Code.cmdNoCq Ty.qmgr 0 (siteOfFn c.fn) (c.cq + c.fn * 2 ^ 20)
  else if ¬ cmdCodes.contains c.code then s1.reply c Code.cmdUnknown
  else if ¬ c.formOk masks then s1.reply c Code.cmdFormat
  else if ¬ issuerOk who c.fn ∨ (c.code ≠ 0x01 ∧ c.code ≠ 0x40 ∧ ¬ s.cmdMode c.fn) then s1.reply c Code.accessDenied
  else act c s1

/-- The head of command queue `q` is taken when it carries `code` and it is its function's turn. -/
def State.onCmd (s : State) (q code who : Nat) (masks : List Nat) (act : Cmd → State → State) : State :=
  match s.headCmd q with
  | none => s
  | some c => if c.code = code ∧ s.cmdTurn c.fn then s.runCmd q c who masks act else s

def m40 : Nat := 2 ^ 40 - 1
def m64 : Nat := 2 ^ 64 - 1
def m32 : Nat := 2 ^ 32 - 1

/-- CMD_NOP. -/
def execCmdNop (q : Nat) (s : State) : Host.Outcome State Fault Refusal :=
  onUnit (decide (q < 2 ^ 20)) (s.onCmd q 0x01 0 [] (fun c t => t.reply c 0))

/-- CMD_UNKNOWN: an entry whose code the table does not have. -/
def execCmdUnknown (q : Nat) (s : State) : Host.Outcome State Fault Refusal :=
  onUnit (decide (q < 2 ^ 20)) (match s.headCmd q with
    | none => s
    | some c => if cmdCodes.contains c.code ∨ ¬ s.cmdTurn c.fn then s else s.runCmd q c 0 [] (fun _ t => t))

/-! ### Copies (R327, R329) -/

/-- The range lies under a MEM_GRANT in progress (R312, R330). -/
def State.inGrant (s : State) (a n : Nat) : Bool :=
  match s.qmgr.grant with
  | none => false
  | some g =>
    let lo := if g.bank then bankBase + unitBase + g.first * 2 ^ 16 else g.first * 2 ^ 28
    let hi := if g.bank then lo + g.count * 2 ^ 16 else lo + g.count * 2 ^ 28
    decide (a < hi ∧ lo < a + n)

/-- Checks of a device range of 1 to 2^30 bytes: 0 when it is granted to the issuer. -/
def State.rangeCode (s : State) (fn a n : Nat) : Nat :=
  if n = 0 ∨ 2 ^ 30 < n ∨ ¬ addrOk a ∨ ¬ addrOk (a + n - 1) then Code.paramRange
  else if ¬ s.granted (ownerOfFn fn) a n ∨ s.inGrant a n then Code.ownerConflict
  else 0

/-- The bytes an HBM block of 16 is stored as under its holder's key (17 R358). -/
def State.storedBlock (s : State) (o a : Nat) : List Byte :=
  let c := (List.range 16).map (fun i => Tbl.get none s.ctext (a + i))
  if c.all (·.isSome) then c.map (fun x => x.getD 0)
  else xtsCipher (s.xtsKey o) a (s.bytes a 16)

/-- The device address holds HBM contents of a sealed site, which COPY_IN and COPY_OUT move as stored (R329). -/
def State.sealedAt (s : State) (a : Nat) : Bool := decide (a < hbmTop) && s.isSealed (s.holderAt a)

/-- A byte as it is stored. -/
def State.stored (s : State) (a : Nat) : Byte :=
  if s.sealedAt a then (s.storedBlock (s.holderAt a) (a / 16 * 16)).getD (a % 16) 0 else s.byte a

/-- A stored block of a sealed site replaced: its plaintext under the holder's key, and the ciphertext kept. -/
def State.storeBlock (s : State) (o a : Nat) (c : List Byte) : State :=
  let s1 := s.setBytes a (xtsPlain (s.xtsKey o) a c)
  { s1 with ctext := (List.range 16).foldl (fun t i => Tbl.set none t (a + i) (some (c.getD i 0))) s1.ctext }

/-- Bytes stored as they come into HBM of a sealed site. -/
def State.storeSealed (s : State) (a : Nat) (data : List Byte) : State :=
  let o := s.holderAt a
  let last := a + data.length - 1
  forEach ((List.range (last / 16 - a / 16 + 1)).map (fun i => a / 16 * 16 + 16 * i)) (fun b t =>
    t.storeBlock o b ((List.range 16).map (fun i =>
      if a ≤ b + i ∧ b + i ≤ last then data.getD (b + i - a) 0 else (s.storedBlock o b).getD i 0))) s

/-- The pattern cache drops its lines of the device addresses `a` to `last`. -/
def State.dropLines (s : State) (a last : Nat) : State :=
  { s with pcache := s.pcache.filter (fun l => ! decide (a / 1024 ≤ l.line ∧ l.line ≤ last / 1024)) }

/-- Bytes COPY_IN writes: as stored for a sealed site's HBM, to the shadow for a borrowed bank region; lines of the
pattern cache in the range are invalidated (R327). -/
def State.copyIn (s : State) (a : Nat) (data : List Byte) : State :=
  if data = [] then s
  else
    let last := a + data.length - 1
    let s1 := if s.sealedAt a then s.storeSealed a data else s.setBytes a data
    (s1.bankHits a data.length true).dropLines a last

/-- Bytes read for the host. -/
def State.copyOut (s : State) (a n : Nat) : State × List Byte :=
  (s.bankHits a n false, (List.range n).map (fun i => s.stored (a + i)))

/-- Memory at this address is still being cleared, at power-up or under its holder's new key: the access stalls (R312,
R330; 17 R358). -/
def State.memWaits (s : State) (a : Nat) : Bool :=
  if a < hbmTop then !s.glb.hbmClear || s.sec.wiping.contains (s.holderAt a) else !s.glb.bmemClear

/-- COPY_IN: `data` is what host memory returned; fewer bytes than the length mean a PCIe error after them. -/
def execCopyIn (q : Nat) (data : List Byte) (s : State) : Host.Outcome State Fault Refusal :=
  onUnit (decide (q < 2 ^ 20)) (
    if ((s.headCmd q).any (fun c => s.memWaits (c.arg 0))) then s
    else s.onCmd q 0x10 0 [m40, m64, m32] (fun c t =>
      let n := c.arg 2
      let code := t.rangeCode c.fn (c.arg 0) n
      if code ≠ 0 then t.reply c code
      else
        let got := data.take n
        let t1 := t.copyIn (c.arg 0) got
        (if got.length = n then t1 else t1.aerReport c.fn .hostError).reply c (if got.length = n then 0 else Code.dmaHostErr) (le 4 got.length)))

/-- Bytes written to host memory with the issuer's requester ID; `err` a PCIe error after so many bytes. -/
def State.dmaOut (s : State) (c : Cmd) (addr : Nat) (data : List Byte) (err : Option Nat) : State × Nat × Bool :=
  let n := match err with | none => data.length | some k => min k data.length
  let s1 := if n = 0 then s else s.emit (.dma c.fn addr (data.take n))
  (if err.isNone then s1 else s1.aerReport c.fn .hostError, n, err.isNone)

/-- COPY_OUT. -/
def execCopyOut (q : Nat) (err : Option Nat) (s : State) : Host.Outcome State Fault Refusal :=
  onUnit (decide (q < 2 ^ 20)) (
    if ((s.headCmd q).any (fun c => s.memWaits (c.arg 1))) then s
    else s.onCmd q 0x11 0 [m64, m40, m32] (fun c t =>
      let code := t.rangeCode c.fn (c.arg 1) (c.arg 2)
      if code ≠ 0 then t.reply c code
      else
        let r := t.copyOut (c.arg 1) (c.arg 2)
        let w := r.1.dmaOut c (c.arg 0) r.2 err
        w.1.reply c (if w.2.2 then 0 else Code.dmaHostErr) (le 4 w.2.1)))

/-- Slots of the whole entries or records from HEAD that fit in `max` slots. -/
def takeRecs (max : Nat) : List Nat → Nat
  | [] => 0
  | r :: t => if r ≤ max then r + takeRecs (max - r) t else 0

/-- Slots QUEUE_OUT copies from a queue when `max` bytes may move. -/
def QDesc.outSlots (d : QDesc) (max : Nat) : Nat :=
  let room := max / slotSize d.type
  if d.type = 2 then min d.used (takeRecs room d.recs) else min d.used room

/-- The bytes of `n` slots from HEAD, as stored. -/
def State.slotBytes (s : State) (d : QDesc) (n : Nat) : List Byte :=
  ((List.range n).map (fun i => (List.range (slotSize d.type)).map (fun k =>
    s.stored (d.base + slotSize d.type * ((d.head + i) % d.slots) + k)))).flatten

/-- The code QUEUE_OUT completes with when it moves nothing. -/
def State.queueOutCode (s : State) (fn q : Nat) : Nat :=
  let d := s.queue q
  if s.qOwner q ≠ ownerOfFn fn then Code.ownerConflict
  else if ¬ d.enable ∨ ¬ (2 ≤ d.type ∧ d.type ≤ 4) then Code.paramRange
  else 0

/-- QUEUE_OUT: HEAD moves past the entries copied; a PCIe error leaves it (DEDUCED: the copy did not complete). -/
def State.queueOut (s : State) (c : Cmd) (err : Option Nat) : State :=
  let q := c.arg 0
  let code := s.queueOutCode c.fn q
  if code ≠ 0 then s.reply c code
  else
    let d := s.queue q
    let n := d.outSlots (c.arg 2)
    let s1 := forEach (List.range n) (fun i t => t.bankHits (d.base + slotSize d.type * ((d.head + i) % d.slots)) (slotSize d.type) false) s
    let w := s1.dmaOut c (c.arg 1) (s.slotBytes d n) err
    let s2 := if w.2.2 then w.1.consume q n else w.1
    s2.reply c (if w.2.2 then 0 else Code.dmaHostErr) (le 4 w.2.1 ++ le 3 (s2.queue q).head)

def execQueueOut (q : Nat) (err : Option Nat) (s : State) : Host.Outcome State Fault Refusal :=
  onUnit (decide (q < 2 ^ 20)) (
    if ((s.headCmd q).any (fun c => s.memWaits (s.queue (c.arg 0)).base)) then s
    else s.onCmd q 0x12 0 [2 ^ 20 - 1, m64, m32] (fun c t => t.queueOut c err))

/-! ### Barriers, scramble tables, coefficients -/

/-- BARRIER_SET (08 R171): the issuer's site, or the site the owner function names. -/
def State.barrierSet (s : State) (c : Cmd) : State :=
  let st := match siteOfFn c.fn with | some k => k | none => bits (c.arg 0) 32 4
  let n := bits (c.arg 0) 16 16
  if n = 0 then s.reply c Code.paramRange
  else if ¬ s.siteIdle st then s.reply c Code.blkBusy
  else (s.modBarrier st (bits (c.arg 0) 0 8) (fun b => { b with count := n })).reply c 0

def execBarrierSet (q : Nat) (s : State) : Host.Outcome State Fault Refusal :=
  onUnit (decide (q < 2 ^ 20)) (s.onCmd q 0x20 0 [0xFFFFF00FF] (fun c t => t.barrierSet c))

/-- The PARAM_RANGE rules of a scramble table (R239). -/
def scrambleForm (t : List Byte) : Bool :=
  let byte := fun i => (t.getD i 0).toNat
  let abits := byte 0
  let base := fromLe ((t.drop 8).take 8)
  let dmask := fromLe ((t.drop 16).take 8)
  decide (1 ≤ abits ∧ abits ≤ 32 ∧ 10 ≤ byte 1 ∧ byte 1 ≤ 38 ∧ dmask ≠ 0 ∧ dmask < 2 ^ 48 ∧ base % 4096 = 0 ∧ base < 2 ^ 40)
    && (t.drop 2).take 6 == List.replicate 6 0 && (t.drop 88).all (· == 0)
    && (List.range 32).all (fun i => if i < abits then decide (byte (24 + i) ≤ 47) else byte (24 + i) == 0xFF)
    && (List.range 32).all (fun j => if j < abits then decide (byte (56 + j) % 32 < abits ∧ bits (byte (56 + j)) 5 2 = 0) else byte (56 + j) == 0)

/-- The lanes and the bitmap of a scramble table belong to the site (R239). -/
def State.scrambleOwned (s : State) (r st : Nat) (t : List Byte) : Bool :=
  let abits := (t.getD 0 0).toNat
  let lanes := bitList (fromLe ((t.drop 16).take 8)) 48 ++ (List.range abits).map (fun i => (t.getD (24 + i) 0).toNat)
  let base := fromLe ((t.drop 8).take 8)
  let n := 2 ^ ((t.getD 1 0).toNat - 3)
  lanes.all (fun l => s.chOwner (48 * r + l) == st) && decide (base + n ≤ hbmTop) && s.granted st base n

/-- FCU_SCRAMBLE_LOAD: a site loads its 256-byte table (R239). -/
def State.scrambleLoad (s : State) (c : Cmd) : State :=
  let st := ownerOfFn c.fn
  let r := bits (c.arg 0) 0 2
  let off := c.arg 1
  let a := bankBase + off
  let t := s.bytes a 256
  if ¬ s.siteIdle st then s.reply c Code.blkBusy
  else if off % 256 ≠ 0 ∨ ¬ addrOk (a + 255) then s.reply c Code.paramRange
  else if ¬ s.granted st a 256 ∨ s.inGrant a 256 then s.reply c Code.ownerConflict
  else if ¬ scrambleForm t then s.reply c Code.paramRange
  else if ¬ s.scrambleOwned r st t then s.reply c Code.ownerConflict
  else
    let b := bankBase + (s.fcu r).scrBase + 256 * st
    ((((s.modPart r st (fun p => { p with table := some t })).bankHits a 256 false).bankHits b 256 true).setBytes b t).reply c 0

def execFcuScrambleLoad (q : Nat) (s : State) : Host.Outcome State Fault Refusal :=
  onUnit (decide (q < 2 ^ 20)) (s.onCmd q 0x21 2 [3, 2 ^ 27 - 1] (fun c t => t.scrambleLoad c))

/-- The state of a lane as CLU_CAL_TAP codes it (14 R303), the first that applies in the order 7, 2, 3, 1, 4, 5, 6. -/
def State.laneState (s : State) (ch : Nat) : Nat :=
  let x := Tbl.get {} (s.clu (cluOf ch)).lanes (laneOf ch)
  if (s.hdr Ty.tg ch).retired ∨ (s.hdr Ty.pe ch).retired then 7
  else if x.deferred then 2
  else if bit (s.cal (rgnOfCh ch)).todo (ch % 48) then 3
  else if (s.chan ch).calNext.isSome && !(s.chan ch).calSlew then 1
  else if x.failed then 4
  else if x.env then 5
  else if (s.chan ch).cal.factory then 6
  else 0

/-- The block of CAL_READ: terms, lane state, and the MADC coefficients of the channel's cluster. -/
def calBlock (rec_ : Nat) (c : CalTerms) (m : Tbl Int) (lane : Nat) : List Byte :=
  let i32 := fun (x : Int) => le 4 (tc 32 x)
  let i16 := fun (x : Int) => le 2 (tc 16 x)
  let tau := i32 c.tau ++ le 4 lane
  if rec_ = 4 then fitBytes 128 (List.replicate 0x18 0 ++ tau)
  else fitBytes 128 (i32 c.drive ++ i32 c.enable ++ i32 c.compare ++ i32 c.spDrive ++ i32 c.spEnable ++ i32 c.spCompare ++ tau
    ++ ((List.range 10).map (fun d => i16 (Tbl.get 0 c.gain d))).flatten
    ++ ((List.range 10).map (fun d => i16 (Tbl.get 0 c.off d))).flatten
    ++ ((List.range 5).map (fun r => i16 (Tbl.get 0 c.pmu (4 * r)) ++ i16 (Tbl.get 0 c.pmu (4 * r + 1)))).flatten
    ++ ((List.range 5).map (fun r => i16 (Tbl.get 0 c.pmu (4 * r + 2)) ++ i16 (Tbl.get 0 c.pmu (4 * r + 3)))).flatten
    ++ ((List.range 6).map (fun i => i16 (Tbl.get 0 m i))).flatten)

/-- CAL_READ: records 0 to 4 give the coefficients in force, record 5 those of FACTORY. -/
def State.calRead (s : State) (c : Cmd) (err : Option Nat) : State :=
  let r := bits (c.arg 0) 0 3
  let ch := bits (c.arg 0) 8 8
  if 5 < r ∨ nChan ≤ ch ∨ (r < 4 ∧ rgnOfCh ch ≠ r) then s.reply c Code.paramRange
  else
    let b := if r = 5 then calBlock r (Tbl.get {} s.nor.factory.chans ch) (Tbl.get [] s.nor.factory.madcs (cluOf ch)) (s.laneState ch)
      else calBlock r (s.chan ch).cal (s.madc (cluOf ch)).cal (s.laneState ch)
    let w := s.dmaOut c (c.arg 1) b err
    w.1.reply c (if w.2.2 then 0 else Code.dmaHostErr)

def execCalRead (q : Nat) (err : Option Nat) (s : State) : Host.Outcome State Fault Refusal :=
  onUnit (decide (q < 2 ^ 20)) (s.onCmd q 0x30 1 [0xFF07, m64] (fun c t => t.calRead c err))

/-! ### MC_INSTALL (07 R148) -/

/-- MC_KEY of the running Deldivel image, the microcode signing key (17 R374). -/
def State.mcKey (s : State) : List Byte :=
  match (if s.glb.fwSlot then s.nor.fw.b else s.nor.fw.a) with
  | some (_, i) => (i.bytes.drop 0x420).take 96
  | none => []

/-- Steps 1 to 3; `key` is the public key under which the image's signature verifies, if any. A passing image goes to the
inactive slots. -/
def State.mcInstall (s : State) (c : Cmd) (key : List Byte) : State :=
  let a := bankBase + c.arg 0
  let m := c.arg 2
  if ¬ s.inMode [.service] then s.reply c Code.svcMode
  else
    let code := s.rangeCode 0 a (c.arg 1)
    if code ≠ 0 then s.reply c code
    else
      let b := s.bytes a (c.arg 1)
      let s := s.bankHits a (c.arg 1) false
      let bad := imageCheck b (key == s.mcKey) s.sec.mcFloor
      if bad ≠ 0 ∧ m ≠ 0 then (forEach (bitList m 4) (fun r t => t.modRgn r (fun x => { x with lastErr := bad })) s).reply c bad
      else (forEach (bitList m 4) (fun r t => t.modRgn r (fun x => { x with loaderState := if x.reloads.isEmpty then 2 else 3 })) s).modNor (fun n => { n with
        mcStage := some (m, parseImage b, c.cq, c.tag, c.seen) })

def execMcInstall (q : Nat) (key : List Byte) (s : State) : Host.Outcome State Fault Refusal :=
  onUnit (decide (q < 2 ^ 20)) (s.onCmd q 0x40 1 [2 ^ 27 - 1, m32, 0xF] (fun c t => t.mcInstall c key))

/-- MC_INSTALL_DONE: with NOR still being written, step 4 ends with the commit records and step 5 begins in each named
region, after a reload in progress (`State.installStep` writes the stores); with every store loaded, the registers are
updated and the completion posted (R148). -/
def State.mcInstallDone (s : State) : State :=
  match s.nor.mcStage with
  | none => s
  | some (m, i, cq, tag, seen) =>
    let l := bitList m 4
    if l.all (fun r => (s.rgn r).instN == some 24) then
      let s1 := forEach l (fun r t => t.modRgn r (fun x => { x with
        loaderState := x.loaderRest, slot := !x.slot, fallback := false, version := i.version, instN := none })) s
      (s1.modNor (fun n => { n with mcStage := none })).complete 0 cq tag seen 0
    else if l.all (fun r => (s.rgn r).instN == none) then
      forEach l (fun r t =>
        let t1 := (t.modMc r (fun p => p.put (!(t.rgn r).slot) i)).modRgn r (fun x => { x with loaderState := 3, instN := some 0 })
        when (t.rgn r).reloads.isEmpty (fun u => u.installBegin r s.up) t1) s
    else s

def execMcInstallDone (s : State) : Host.Outcome State Fault Refusal := .next s.mcInstallDone

/-! ### MEM_GRANT (R312, R327) -/

/-- Address and size of the units a grant moves. -/
def Grant.range (g : Grant) : Nat × Nat :=
  if g.bank then (bankBase + unitBase + g.first * 2 ^ 16, g.count * 2 ^ 16) else (g.first * 2 ^ 28, g.count * 2 ^ 28)
def Grant.units (g : Grant) : List Nat := (List.range g.count).map (· + g.first)
def State.unitHolder (s : State) (bank : Bool) (u : Nat) : Nat := Tbl.get 16 (if bank then s.bankHolder else s.hbmHolder) u

/-- The units lie under an enabled queue body or the scramble area of an FCU. -/
def State.unitsUsed (s : State) (a n : Nat) : Bool :=
  s.queues.any (fun p => p.2.enable && rangesMeet p.2.base (slotSize p.2.type * p.2.slots) a n)
    || (List.range nRgn).any (fun r => rangesMeet (bankBase + (s.fcu r).scrBase) 4096 a n)

/-- MEM_GRANT starts to clear its units, or completes with the code of the check that fails. -/
def State.memGrant (s : State) (c : Cmd) : State :=
  let g : Grant := { cq := c.cq, tag := c.tag, seen := c.seen, holder := bits (c.arg 0) 0 5, bank := bit (c.arg 0) 8
                     first := bits (c.arg 1) 0 16, count := bits (c.arg 1) 16 16 }
  let r := g.range
  if 16 < g.holder ∨ g.count = 0 ∨ (if g.bank then 112 else 288) < g.first + g.count then s.reply c Code.paramRange
  else if ¬ s.siteIdle g.holder ∨ g.units.any (fun u => !s.siteIdle (s.unitHolder g.bank u)) ∨ s.unitsUsed r.1 r.2 then
    s.reply c Code.ownerConflict
  else s.modQmgr (fun m => { m with grant := some g })

def execMemGrant (q : Nat) (s : State) : Host.Outcome State Fault Refusal :=
  onUnit (decide (q < 2 ^ 20)) (s.onCmd q 0x50 1 [0x11F, m32] (fun c t => t.memGrant c))

/-- MEM_GRANT_DONE: the units read as zeros, no line of theirs stays in the pattern cache (DEDUCED, log entry 29), their
holder is the new one, the completion is posted. -/
def State.memGrantDone (s : State) : State :=
  match s.qmgr.grant with
  | none => s
  | some g =>
    let s1 := (s.wipe g.range.1 g.range.2).dropLines g.range.1 (g.range.1 + g.range.2 - 1)
    let set := fun t => g.units.foldl (fun t u => Tbl.set 16 t u g.holder) t
    let s2 : State := if g.bank then { s1 with bankHolder := set s1.bankHolder } else { s1 with hbmHolder := set s1.hbmHolder }
    (s2.modQmgr (fun m => { m with grant := none })).complete 0 g.cq g.tag g.seen 0

def execMemGrantDone (s : State) : Host.Outcome State Fault Refusal := .next s.memGrantDone

/-! ### HBM_UNCORR_READ (R314) -/

/-- The error of the stack: counted, its cause, a transient logged with the device address. -/
def State.uncorr (s : State) (addr : Nat) (site : Option Nat) : State :=
  let i := hbmStack addr
  ((s.modHbm i (fun h => { h with eccUncorr := satAdd sat32 h.eccUncorr 1 })).cause Ty.hbm i 1).transient
    kStack i Code.hbmUncorr Ty.hbm i site (bits addr 5 32) false false

/-- Bytes a command at the head had moved before the failed word, with the host address they went to; none when it does
not read that word. -/
def State.movedBefore (s : State) (c : Cmd) (addr : Nat) : Option (Nat × List Byte) :=
  let w := addr / 32 * 32
  if ¬ s.cmdMode c.fn ∨ ¬ c.formOk (if c.code = 0x11 then [m64, m40, m32] else [2 ^ 20 - 1, m64, m32]) then none
  else if c.code = 0x11 then
    let a := c.arg 1
    if s.rangeCode c.fn a (c.arg 2) = 0 ∧ a < w + 32 ∧ w < a + c.arg 2 then some (c.arg 0, (s.copyOut a (w - a)).2) else none
  else if c.code = 0x12 ∧ s.queueOutCode c.fn (c.arg 0) = 0 then
    let d := s.queue (c.arg 0)
    let n := d.outSlots (c.arg 2)
    let at_ := (List.range (n * slotSize d.type)).find? (fun k =>
      (d.base + slotSize d.type * ((d.head + k / slotSize d.type) % d.slots) + k % slotSize d.type) / 32 * 32 == w)
    at_.map (fun k => (c.arg 1, (s.slotBytes d n).take k))
  else none

/-- HBM_UNCORR_READ of the word at `addr`. `who` is the master: 0 engine `i` fetching its stream, 1 the queue manager
reading the head descriptor of segment queue `i`, 2 the command at the head of command queue `i`, 3 a bitmap update of site
`j` in FCU `i`. -/
def State.uncorrRead (s : State) (addr who i j : Nat) : State :=
  match who with
  | 0 => (match (s.te i).cur with
    | none => s
    | some g => if g.ip ≤ addr ∧ addr < g.ip + 32 * g.len then (s.uncorr addr (some g.site)).segStop i Code.hbmUncorr else s)
  | 1 =>
    let d := s.queue i
    let a := d.base + 64 * d.head
    if s.placeable.contains i ∧ a ≤ addr ∧ addr < a + 64 then
      -- the word with SEG_ID returned no data: the ID of the completion is a free value
      let lost := decide (addr < a + 32)
      let id := if lost then s.freeVal % 2 ^ 32 else (s.headSeg i).segId
      let s1 := (s.uncorr addr (some d.owner)).consume i 1
      (if lost then s1.useFree else s1).siteCpl d.owner (cplBytes 1 Code.hbmUncorr id s.now [])
    else s
  | 2 => (match s.headCmd i with
    | none => s
    | some c => if ¬ s.cqOk c ∨ ¬ s.cmdTurn c.fn then s else match s.movedBefore c addr with
      | none => s
      | some (host, l) =>
        let w := (((s.uncorr addr (siteOfFn c.fn)).consume i 1).modQmgr (fun m => { m with lastFn := c.fn })).dmaOut c host l none
        w.1.reply c Code.hbmUncorr (le 4 w.2.1 ++ (if c.code = 0x12 then le 3 (s.queue (c.arg 0)).head else [])))
  | _ => (match (s.part i j).table with
    | none => s
    | some t =>
      let base := fromLe ((t.drop 8).take 8)
      if base ≤ addr ∧ addr < base + 2 ^ ((t.getD 1 0).toNat - 3) then ((s.uncorr addr (some j)).dropUpdate i j addr).loseUpdate i j else s)

def execHbmUncorrRead (addr who i j : Nat) (s : State) : Host.Outcome State Fault Refusal :=
  onUnit (decide (addr < hbmTop ∧ (who = 0 ∧ i < nEng ∨ (who = 1 ∨ who = 2) ∧ i < 2 ^ 20 ∨ who = 3 ∧ i < nRgn ∧ j < nSite)))
    (if s.stage = .on ∧ s.glb.hbmClear then s.uncorrRead addr who i j else s)

end Sys2Proof.Machine
end

