-- ==== Sys2Proof/Machine/Security.lean ====
section
/-! DEFINITION. Family: sealing, unsealing, firmware, lifecycle and tamper (17_security.md R358 to R382; 14_calibration.md
R299). What verifying a Deldivel or microcode image finds is an operand of the command (log entry 7). -/

namespace Sys2Proof.Machine

/-! ### Host time and its high-water (R364) -/

/-- The largest GLB_HOST_TIME held since power-up. -/
def State.hostMax (s : State) : Nat := max s.sec.hwSeen s.hostTime
/-- HW: the largest host time held, at most the stored bound S until a later one is committed. -/
def State.hwNow (s : State) : Nat := max s.sec.hw (min s.hostMax s.sec.bound)
def State.latchHw (s : State) : State := s.modSec (fun x => { x with hw := s.hwNow, hwSeen := s.hostMax })

/-- A container's EXPIRY passes. -/
def State.expiryOk (s : State) (expiry : Nat) : Bool :=
  expiry == 0 || (s.hostTime != 0 && decide (max s.hostTime s.hwNow < expiry))

/-- A commit of GLB_HOST_TIME: 0 returns it to not set; HW keeps what it held (R364, R381). -/
def State.wHostTime (s : State) (fn hi : Nat) : State :=
  let v := s.lowHalf fn Ty.glb 0 0x050 (s.hostTime % 2 ^ 32) + (hi % 2 ^ 32) * 2 ^ 32
  ((s.latchHw.unstage fn Ty.glb 0 0x050).modGlb (fun g => { g with hostMs := v, hostAt := s.uptime })).latchHw

/-- GLB_HOST_TIME_COMMIT: a write of GLB_HOST_TIME_HI. -/
def execGlbHostTimeCommit (fn hi : Nat) (s : State) : Host.Outcome State Fault Refusal :=
  onUnit (decide (fn < 18)) (s.onWrite fn Ty.glb 0 0x054 (fun t => t.wHostTime fn hi))

/-- HW_BOUND_WRITE: host time has reached S, so the SEC record is written with a later bound. -/
def execHwBoundWrite (s : State) : Host.Outcome State Fault Refusal :=
  .next (if s.stage = .on ∧ s.hostMax ≠ 0 ∧ s.sec.bound ≤ s.hostMax then s.norWrite 7 else s)

/-! ### Sealed registers (R361) -/

/-- A register of a channel page at its reset value. -/
def Chan.resetReg (c : Chan) (ty off : Nat) : Chan :=
  let z : Chan := {}
  match ty with
  | 0x11 =>
    if off = 0x040 then { c with drvSkew := 0, cmpSkew := 0 }
    else if off = 0x044 ∨ off = 0x048 then { c with perInt := z.perInt, perFrac := 0 }
    else if off = 0x04C then { c with conflict := false, tsInv := false, overlap := false }
    else if off = 0x050 ∨ off = 0x054 then { c with symLo := z.symLo, symHi := z.symHi }
    else if off = 0x058 then { c with frRun := false, frAnch := false, frTs := 0, frSym := z.frSym, frStop := false, frShift := 0 }
    else if 0x400 ≤ off ∧ off < 0xC00 then { c with edges := Tbl.set 0 c.edges ((off - 0x400) / 4) 0 }
    else if 0xC00 ≤ off ∧ off < 0xD00 then { c with fmts := Tbl.set {} c.fmts ((off - 0xC00) / 4) {} }
    else c
  | 0x12 =>
    if off = 0x040 then { c with fcuEn := true, captSrc := false }
    else if off = 0x044 then { c with failSeen := false }
    else if off = 0x048 then { c with mask := false }
    else if off = 0x04C then { c with lastPass := z.lastPass, mValid := z.mValid, reps := z.reps }
    else if off = 0x050 then { c with tdcCh := false, tdcCl := false, tdcEdge := 0 }
    else if off = 0x054 ∨ off = 0x058 then { c with failCount := 0, countSat := false }
    else c
  | 0x13 =>
    if off = 0x040 then { c with full := true, drvMode := 0, term := false, clamp := false, rangeAt := none, ctrlNext := none }
    else if off = 0x044 then { c with senseFb := false }
    else if off = 0x048 then { c with loadMode := 0 }
    else if off = 0x04C then { c with pmuMode := 0, pmuConn := false, pmuSense := false }
    else if off = 0x050 then { c with pmuRange := z.pmuRange, pmuAt := none }
    else if off = 0x054 then { c with owEn := false, owDir := false, owCur := 0 }
    else if off = 0x058 then { c with vchSeen := false, vclSeen := false, protHi := false, protLo := false, clEvents := z.clEvents }
    else if off = 0x05C then { c with conPol := false, conCur := z.conCur, conRes := z.conRes }
    else c
  | _ =>
    if 0x040 ≤ off ∧ off < 0x068 then c.setCode ((off - 0x040) / 4) (zeroCode ((off - 0x040) / 4))
    else if off = 0x088 then { c with lvlOver := false, lvlLate := false, lvlDrop := z.lvlDrop }
    else c

/-- Every sealed register of a site returns to its reset value, and its channel's previous effective symbol to DOFF. -/
def State.unsealRegs (s : State) (st : Nat) : State :=
  (forEach (s.secSite st).regs (fun a t => t.modChan (bits a 12 8) (fun c =>
    ({ c.resetReg (bits a 20 8) (bits a 0 12) with prev := symDOFF, tails := [] } : Chan).settleClamps)) s).modSecSite st (fun x => { x with regs := [] })

/-- Keys, container and binding of a site are gone; its sealed registers are cleared. -/
def State.dropContainer (s : State) (st : Nat) : State :=
  (s.unsealRegs st).modSecSite st (fun _ => {})

/-! ### Rejections and responses (R366, R382) -/

/-- A security operation refused: SEC_STATUS.LAST_ERR. -/
def State.secErr (s : State) (code : Nat) : State := s.modSec (fun x => { x with lastErr := code })

/-- A data object of the Foyris protocol: vendor ID 0x1E5F, type 0x01, its length in dwords (R366; the header's form is that of
PCIe DOE, PRESUMED, log entry 9). -/
def doeObject (body : List Byte) : List Byte := le 2 0x1E5F ++ le 1 1 ++ le 1 0 ++ le 4 ((body.length + 11) / 4) ++ body

/-- A response leaves a mailbox unless its function is under reset (R366, R381). -/
def State.doeSend (s : State) (fn op status tag : Nat) (data : List Byte) : State :=
  let s1 := if status = 0 then s else s.secErr status
  if s.fnUp fn ∧ ¬ (s.fn fn).inReset then
    s1.emit (.message fn (doeObject (le 2 (op + 0x8000) ++ le 2 status ++ le 4 tag ++ List.replicate 8 0 ++ data)))
  else s1

def Doe.num (d : Doe) (off n : Nat) : Nat := fromLe ((d.raw.drop off).take n)
def Doe.op (d : Doe) : Nat := d.num 0 2
def Doe.tag (d : Doe) : Nat := d.num 4 4
def Doe.site (d : Doe) : Nat := d.num 8 1
def doeOps : List Nat := [0x01, 0x02, 0x03, 0x04, 0x10, 0x11, 0x12]

def State.doeReply (s : State) (d : Doe) (status : Nat) (data : List Byte := []) : State := s.doeSend d.fn d.op status d.tag data

/-- A LOAD of the site waits (R40, R358). -/
def State.loadPending (s : State) (st : Nat) : Bool := s.sec.loadWait.any (fun d => d.site == st)

/-- The mailbox handles a request (R366). -/
def State.doeBusy (s : State) (fn : Nat) : Bool :=
  s.sec.loadWait.any (fun d => d.fn == fn) ||
  (match s.nor.fwStage with | some (_, _, p, _) => p == fn | none => false)
    || (List.range nSite).any (fun i => match (s.secSite i).unload with | some (_, p, _) => p == fn | none => false)

/-- The mailbox answers this operation: Deldivel runs, and in END only STATUS is answered (R376); while FW_VERIFY is set
boot code answers FW_RECOVER alone (R375). -/
def State.doeUp (s : State) (fn op : Nat) : Bool :=
  decide (s.stage = .on) && s.fnUp fn && !(s.fn fn).inReset
    && (s.glb.fwOk || (op == 0x11 && bit s.glb.cause 1 && fn == 0)) && (s.otp.lcState != 4 || op == 0x04)

/-- A request that finds its mailbox busy waits for its turn (R366). -/
def State.doeQueue (s : State) (d : Doe) : State := s.modSec (fun x => { x with doeWait := x.doeWait ++ [d] })

/-- The checks every operation takes: length and reserved bytes, SITE, issuer (0 any, 1 site or owner, 2 owner; FW_RECOVER boot
code alone). A virtual function's SITE is its own; LOAD, BIND and UNLOAD run where a management command runs (02 R34, log
entry 32). -/
def State.onDoe (s : State) (d : Doe) (op who len : Nat) (exact : Bool) (act : Doe → State → State) : State :=
  let fn := d.fn
  let raw := d.raw
  if ¬ s.doeUp fn op ∨ d.op ≠ op then s
  else if s.doeBusy fn then s.doeQueue d
  else if d.num 2 2 ≠ 0 ∨ d.num 9 7 ≠ 0 ∨ raw.length < 16 + len ∨ (exact ∧ raw.length ≠ 16 + len) then s.doeReply d Code.cmdFormat
  else if (siteOfFn fn).any (fun k => k != d.site) ∨ (who = 1 ∧ (fn = 17 ∨ ¬ s.cmdMode fn)) ∨ (who = 2 ∧ fn ≠ 0)
      ∨ (op = 0x11 ∧ s.glb.fwOk) then
    s.doeReply d Code.accessDenied
  else if nSite ≤ d.site then s.doeReply d Code.paramRange
  else act d s

/-- A request with an OP the table does not have. -/
def State.doeOther (s : State) (d : Doe) : State :=
  if ¬ s.doeUp d.fn d.op then s else if s.doeBusy d.fn then s.doeQueue d else s.doeReply d Code.cmdUnknown

/-- DOE_UNKNOWN: an OP the table does not have. -/
def execDoeUnknown (fn : Nat) (raw : List Byte) (s : State) : Host.Outcome State Fault Refusal :=
  onUnit (decide (fn < 18)) (
    let d : Doe := { fn := fn, raw := raw }
    if doeOps.contains d.op then s else s.doeOther d)

/-- DOE_STATUS. -/
def State.doeStatus (s : State) (d : Doe) : State :=
  let x := s.secSite d.site
  s.doeReply d 0 (le 4 x.loadId ++ le 4 x.allow ++ le 8 x.expiry ++ le 8 s.hwNow ++ le 4 s.sec.fwFloor ++ le 4 s.sec.mcFloor)

def execDoeStatus (fn : Nat) (raw : List Byte) (s : State) : Host.Outcome State Fault Refusal :=
  onUnit (decide (fn < 18)) (s.onDoe { fn := fn, raw := raw } 0x04 0 0 true (fun d t => t.doeStatus d))

/-! ### LOAD (R362 to R368) -/

/-- Step 4: the container's header is consistent and its EPH_PUB a point of the curve. -/
def headerOk (h : List Byte) (srcLen : Nat) : Bool :=
  let n := fld h 0xAC 4
  let len := fld h 0xB0 8
  h.take 4 == [0x51, 0x46, 0x59, 0x53] && fld h 4 2 == 1 && zeros h 6 2 && fld h 0x9A 1 == 1 && fld h 0x9B 1 < 2
    && decide (1 ≤ len ∧ len ≤ 2 ^ 34 ∧ n = (len + 65535) / 65536 ∧ srcLen = 352 + len + 16 * n) && zeros h 0x128 40
    && p384Point ((h.drop 0x38).take 96)

/-- Registers of the block index that a setup record may name, by type (05 R97). -/
def setupReg (ty off : Nat) : Bool :=
  off % 4 == 0 && (match ty with
  | 0x11 => decide ((0x040 ≤ off ∧ off ≤ 0x058) ∨ (0x400 ≤ off ∧ off < 0xD00))
  | 0x12 => decide (0x040 ≤ off ∧ off ≤ 0x058)
  | 0x13 => decide (0x040 ≤ off ∧ off ≤ 0x05C)
  | 0x14 => decide ((0x040 ≤ off ∧ off < 0x068) ∨ off = 0x080 ∨ off = 0x084 ∨ off = 0x088 ∨ (0x0C0 ≤ off ∧ off < 0x0E8))
  | _ => false)

/-- Setup record `i` of an image: type, logical pin, offset, value. -/
def setupRec (b : List Byte) (i : Nat) : Nat × Nat × Nat × Nat :=
  let r := (b.drop (fld b 0x1C 4 + 16 * i)).take 16
  (fld r 0 1, fld r 2 2, fld r 4 2, fld r 8 4)
/-- Descriptor `i` of an image. -/
def imageDesc (b : List Byte) (i : Nat) : Seg := { raw := fitBytes 64 ((b.drop (fld b 0x10 4 + 64 * i)).take 64) }

/-- Step 11: a valid segment image (06, Ziurn output). -/
def segImageOk (b : List Byte) : Bool :=
  let pins := fld b 8 4
  let segs := fld b 0x0C 4
  let setups := fld b 0x20 4
  let words := fld b 0x18 4
  b.take 4 == [0x5A, 0x53, 0x47, 0x49] && fld b 0x3C 4 == crc32 (fitBytes 60 b) && fld b 4 2 == 1
    && decide (1 ≤ pins ∧ pins ≤ 192)
    && decide (fld b 0x10 4 + 64 * segs ≤ b.length ∧ fld b 0x14 4 % 32 = 0 ∧ fld b 0x14 4 + 32 * words ≤ b.length
      ∧ fld b 0x1C 4 + 16 * setups ≤ b.length)
    && (List.range (min segs b.length)).all (fun i =>
      let g := imageDesc b i
      crc32 (g.raw.take 60) == g.w 15 && decide (1 ≤ g.len ∧ g.ip % 32 = 0 ∧ g.ip + 32 * g.len ≤ 32 * words))
    && (List.range (min setups b.length)).all (fun i => let r := setupRec b i; setupReg r.1 r.2.2.1)

/-- The container header a LOAD names, as far as its SRC span of `n` bytes reaches. -/
def State.header (s : State) (src n : Nat) : List Byte := (List.range (min 352 n)).map (fun i => s.stored (src + i))

/-! The content key and the chunks (R363). -/

/-- K: HKDF with salt "QFYS-v1" over Z, the x-coordinate of ECDH of the identity key and EPH_PUB, with info
RECIPIENT ‖ CONTENT_ID. -/
def contentKey (h : List Byte) (identity : Nat) : List Byte :=
  hkdf [0x51, 0x46, 0x59, 0x53, 0x2D, 0x76, 0x31] (ecdhX identity ((h.drop 0x38).take 96))
    ((h.drop 8).take 48 ++ (h.drop 0xB8).take 16) 32
/-- HDR_TAG: the tag over an empty plaintext and the header before it. -/
def hdrTagOf (h : List Byte) : List Byte := (h.drop 0x150).take 16
/-- HDR_TAG verifies under K. -/
def hdrTagOk (h key : List Byte) : Bool :=
  (gcmOpen key (List.replicate 12 0xFF) (h.take 0x150) (hdrTagOf h)).isSome
/-- The nonce of chunk `i`. -/
def chunkNonce (i : Nat) : List Byte := le 4 0 ++ be 8 i
/-- The associated data of chunk `i` of `n`. -/
def chunkAad (h : List Byte) (n i : Nat) : List Byte := hdrTagOf h ++ le 4 i ++ le 1 (b2n (i + 1 == n))
/-- Plaintext bytes of chunk `i` of `n` of a content of `len` bytes (R362). -/
def chunkLen (len n i : Nat) : Nat := if i + 1 = n then len - 65536 * i else 65536
/-- The plaintext of chunk `i` of the container at `src`, none where its tag fails. -/
def State.chunk (s : State) (src : Nat) (h key : List Byte) (i : Nat) : Option (List Byte) :=
  let n := fld h 0xAC 4
  let l := chunkLen (fld h 0xB0 8) n i
  let at_ := src + 352 + 65552 * i
  gcmOpen key (chunkNonce i) (chunkAad h n i) ((List.range (l + 16)).map (fun k => s.stored (at_ + k)))
/-- `n` chunks from number `i` in order up to the first whose tag fails: the plaintext, and whether every tag verified. -/
def openChunks (f : Nat → Option (List Byte)) : Nat → Nat → List Byte × Bool
  | 0, _ => ([], true)
  | n + 1, i =>
    match f i with
    | none => ([], false)
    | some p => let r := openChunks f n (i + 1); (p ++ r.1, r.2)

/-- The private scalar of the identity key, which the security engine alone uses (R354). -/
def State.identity (s : State) : Nat := s.otp.identity.getD 0
/-- The container key K of a header. -/
def State.keyOf (s : State) (h : List Byte) : List Byte := contentKey h s.identity

/-- Steps 1 and 2 of a LOAD, 0 when they pass (R367). -/
def State.loadFree (s : State) (st : Nat) : Nat :=
  if s.otp.lcState ≠ 2 ∨ ¬ s.isSealed st then Code.secState
  else if ¬ s.siteIdle st ∨ (s.secSite st).loaded ∨ s.loadPending st then Code.blkBusy
  else 0

/-- A span of a LOAD lies in HBM granted to the site; one of no bytes names nothing (R367 step 3). -/
def State.spanOk (s : State) (st a n : Nat) : Bool := n == 0 || (decide (a + n ≤ hbmTop) && s.granted st a n)

/-- The first failing step of steps 1 to 9 of a LOAD, 0 when all pass (R367). -/
def State.loadCheck (s : State) (st src srcLen dest : Nat) : Nat :=
  let h := s.header src srcLen
  let len := fld h 0xB0 8
  if s.loadFree st ≠ 0 then s.loadFree st
  else if ¬ s.spanOk st src srcLen ∨ ¬ s.spanOk st dest len ∨ (src < dest + len ∧ dest < src + srcLen) then Code.ownerConflict
  else if ¬ headerOk h srcLen then Code.qfyFormat
  else if (h.drop 8).take 48 ≠ s.otp.device then Code.qfyRecipient
  else if ¬ hdrTagOk h (s.keyOf h) then Code.qfyAuth
  else if ¬ bit (fld h 0x98 2) st ∨ fld h 0x9C 4 = 0 ∨ s.sec.fwVersion < fld h 0xA8 4 then Code.qfyPolicy
  else if ¬ s.expiryOk (fld h 0xA0 8) then Code.qfyExpired
  else if bit (fld h 0x9B 1) 0 ∧ Tbl.get 0 s.sec.ide (st + 1) ≠ 1 then Code.qfyIde
  else 0

/-- The signature of a message by the alias key, with a per-message secret drawn from the DRBG (R354). -/
def State.signAlias (s : State) (m : List Byte) : State × List Byte :=
  let k := s.draw 48
  (k.1, ecdsaSign (scalarOf s.sec.aliasKey) (scalarOf k.2) m)

/-- A successful LOAD: LOAD_ID, policy and allowance kept, result key derived, receipt returned (R368). -/
def State.loadAccept (s : State) (d : Doe) (st dest : Nat) (h plain : List Byte) : State :=
  let id := s.sec.loads + 1
  let cid := (h.drop 0xB8).take 16
  let eph := s.draw 48
  let pub := p384Pub (scalarOf eph.2)
  let dig := sha384 h
  let kr := hkdf [0x51, 0x46, 0x59, 0x52, 0x2D, 0x76, 0x31] (ecdhX (scalarOf eph.2) ((h.drop 0xC8).take 96)) (le 4 id ++ cid) 32
  let rcpt : List Byte := [0x51, 0x46, 0x59, 0x4B] ++ le 1 st ++ [0, 0, 0] ++ le 4 id ++ [0, 0, 0, 0] ++ cid ++ dig ++ pub
  let s1 := (eph.1.setBytes dest plain).modSec (fun x => { x with loads := id })
  let s2 := s1.modSecSite st (fun _ => {
    loaded := true, loadId := id, key := s.keyOf h, kr := kr
    allow := fld h 0x9C 4, expiry := fld h 0xA0 8, needIde := bit (fld h 0x9B 1) 0, siteMask := fld h 0x98 2, minFw := fld h 0xA8 4
    digest := dig, dest := dest, len := plain.length })
  let g := s2.signAlias rcpt
  g.1.doeReply d 0 (rcpt ++ g.2)

/-- HBM of the site is being cleared, at power-up or under a new key: a LOAD waits (R40, R358). -/
def State.loadStalls (s : State) (st : Nat) : Bool := !s.glb.hbmClear || s.sec.wiping.contains st

/-- A LOAD that ends with this code has read the header of its container: steps 4 to 9 judge it (R367). -/
def headerRead (code : Nat) : Bool := !([Code.secState, Code.blkBusy, Code.ownerConflict].contains code)
/-- LOAD: steps 1 to 9, then the chunks in order; plaintext already written to DEST by a LOAD that fails is zeroed. It
waits in its mailbox while HBM of the site is being cleared (R40, R358, R367). -/
def State.load (s : State) (d : Doe) : State :=
  let src := d.num 16 8
  let dest := d.num 32 8
  let h := s.header src (d.num 24 8)
  let len := fld h 0xB0 8
  let code := s.loadCheck d.site src (d.num 24 8) dest
  if s.loadFree d.site = 0 ∧ s.loadStalls d.site then s.modSec (fun x => { x with loadWait := x.loadWait ++ [d] })
  else if code ≠ 0 then (when (headerRead code) (fun t => t.bankHits src (min 352 (d.num 24 8)) false) s).doeReply d code
  else
    let p := openChunks (s.chunk src h (s.keyOf h)) (fld h 0xAC 4) 0
    let s := (s.bankHits src (d.num 24 8) false).bankHits dest p.1.length true
    if ¬ p.2 then (s.wipe dest p.1.length).doeReply d Code.qfyAuth
    else if segImageOk p.1 then s.loadAccept d d.site dest h p.1
    else (s.wipe dest len).doeReply d Code.qfyFormat

/-- LOAD (R367): the request is the DOE object its four parts make. -/
def execLoad (fn : Nat) (head src len dest : List Byte) (s : State) : Host.Outcome State Fault Refusal :=
  onUnit (decide (fn < 18)) (s.onDoe { fn := fn, raw := head ++ src ++ len ++ dest } 0x01 1 24 true (fun d t => t.load d))

/-! ### UNLOAD (R373) and RESULT_FRAME_CLOSE (R372) -/

/-- The producers of sealed frames with their instances. -/
def frameUnits : List (Nat × Nat) :=
  (List.range nRgn).map (fun r => (0, r)) ++ (List.range nClu).map (fun k => (1, k)) ++ (List.range nClu).map (fun k => (2, k))
/-- An open frame of the site. -/
def State.framesOpen (s : State) (st : Nat) : Bool := frameUnits.any (fun p => (s.frm st p.1 p.2).pt != [])

/-- A frame that could not be moved is discarded and its records counted as lost by its unit: those of an MADC join its
gap. -/
def State.loseFrame (s : State) (st kind inst : Nat) : State :=
  let f := s.frm st kind inst
  let pt := f.pt
  if pt = [] then s
  else
    let s1 := s.modFrm st kind inst (fun f => { f with pt := [], n := 0 })
    match kind with
    | 0 => forEach (List.range f.n) (fun _ t => t.loseUpdate inst st) s1
    | 1 => s1.modAcq inst (fun a => { a with gapCount := satAdd sat32 a.gapCount f.n })
    | _ => s1.madcGap inst (fromLe (pt.take 8)) (fromLe ((pt.drop 14).take 2)) (pt.length / 16)

/-- The site's FCU partition rings, the buffers of its ACQ units and the records its MADCs hold are zeroed (R373 step 3,
R380). -/
def State.zeroRings (s : State) (st : Nat) : State :=
  let s1 := forEach (List.range nRgn) (fun r t => t.modPart r st (fun p => { p with ring := [], ups := [], fill := 0, gap := false, gapRecs := 0, gapFails := 0 })) s
  let s2 := forEach ((List.range nClu).filter (fun k => (s.hdr Ty.acq k).owner == st)) (fun k t =>
    t.modAcq k (fun a => { a with buf := [], fly := [], gap := none })) s1
  forEach ((List.range nClu).filter (fun k => (s.hdr Ty.madc k).owner == st)) (fun k t =>
    t.modMadc k (fun m => { m with recs := [], gap := none })) s2

/-- Steps 3 to 7 of an UNLOAD, and its response. -/
def State.unloadEnd (s : State) (st path tag : Nat) : State :=
  (((s.zeroRings st).dropContainer st).rekey st).doeSend path 0x03 0 tag []

/-- An UNLOAD that waits for its frames ends once they are moved, or 10 ms after its start without those left. -/
def State.unloadStep (s : State) (st : Nat) : State :=
  match (s.secSite st).unload with
  | none => s
  | some (at_, path, tag) =>
    if ¬ s.framesOpen st then s.unloadEnd st path tag
    else if at_ + 10 * fsMs ≤ s.up then (frameUnits.foldl (fun t p => t.loseFrame st p.1 p.2) s).unloadEnd st path tag
    else s

/-- Open frames of the site are closed as their queues have room. -/
def State.closeFrames (s : State) (st : Nat) : State :=
  frameUnits.foldl (fun t p => (t.closeFrame st p.1 p.2 (t.frameQueue st p.1 p.2)).1) s

/-- UNLOAD: open frames are closed as their queues have room. -/
def State.unload (s : State) (d : Doe) : State :=
  let st := d.site
  if ¬ s.siteIdle st ∨ (s.secSite st).unload.isSome then s.doeReply d Code.blkBusy
  else
    ((s.closeFrames st).modSecSite st (fun x => { x with unload := some (s.up, d.fn, d.tag) })).unloadStep st

def execUnload (fn : Nat) (raw : List Byte) (s : State) : Host.Outcome State Fault Refusal :=
  onUnit (decide (fn < 18)) (s.onDoe { fn := fn, raw := raw } 0x03 1 0 true (fun d t => t.unload d))

/-- A frame no record has reached for 2 µs, or that an UNLOAD waits for, is closed and written. -/
def State.frameDue (s : State) (st kind inst : Nat) : State :=
  if s.isSealed st ∧ ((s.frm st kind inst).last + 2 * fsUs ≤ s.up ∨ (s.secSite st).unload.isSome) then
    ((s.closeFrame st kind inst (s.frameQueue st kind inst)).1).unloadStep st
  else s

/-! ### Firmware (R374, R375) -/

/-- An image on its way into a NOR slot; the response follows the commit. -/
def State.fwCommit (s : State) (d : Doe) (b : List Byte) (intoA : Bool) : State :=
  (s.modNor (fun n => { n with fwStage := some ({ version := fld b 8 4, bytes := b }, intoA, d.fn, d.tag) })).norWrite 8

/-- FW_INSTALL. -/
def State.fwInstall (s : State) (d : Doe) : State :=
  let a := bankBase + d.num 16 4
  let n := d.num 20 4
  if ¬ s.inMode [.service] then s.doeReply d Code.svcMode
  else if n = 0 ∨ bankTop < a + n then s.doeReply d Code.paramRange
  else if ¬ s.granted 16 a n then s.doeReply d Code.ownerConflict
  else
    let b := s.bytes a n
    let s := s.bankHits a n false
    let code := s.fwCheck b d.sig
    if code ≠ 0 then s.doeReply d code else s.fwCommit d b false

def execFwInstall (fn : Nat) (raw : List Byte) (sig : FwVerdict) (s : State) : Host.Outcome State Fault Refusal :=
  onUnit (decide (fn < 18)) (s.onDoe { fn := fn, raw := raw, sig := sig } 0x10 2 8 true (fun d t => t.fwInstall d))

/-- FW_RECOVER, answered by boot code: the image collects by OFFSET; at LAST = 1 it is checked and committed to slot A. -/
def State.fwRecover (s : State) (d : Doe) : State :=
  let part := d.raw.drop 24
  if d.num 16 4 ≠ s.sec.recover.length ∨ 1 < d.num 20 4 ∨ 65536 < part.length then
    (s.modSec (fun x => { x with recover := [] })).doeReply d Code.cmdFormat
  else
    let b := s.sec.recover ++ part
    if d.num 20 4 = 0 then (s.modSec (fun x => { x with recover := b })).doeReply d 0
    else
      let s1 := s.modSec (fun x => { x with recover := [] })
      let code := s.fwCheck b d.sig
      if code ≠ 0 then s1.doeReply d code else s1.fwCommit d b true

def execFwRecover (fn : Nat) (raw : List Byte) (sig : FwVerdict) (s : State) : Host.Outcome State Fault Refusal :=
  onUnit (decide (fn < 18)) (s.onDoe { fn := fn, raw := raw, sig := sig } 0x11 2 8 false (fun d t => t.fwRecover d))

/-- The lowest RGN_MC_VERSION. -/
def State.mcLowest (s : State) : Nat := (List.range nRgn).foldl (fun m r => min m (s.rgn r).version) (s.rgn 0).version

/-- FLOOR_COMMIT: a floor never falls; the SEC record is written. -/
def State.floorCommit (s : State) (d : Doe) : State :=
  let w := d.num 16 4
  if ¬ s.inMode [.service] then s.doeReply d Code.svcMode
  else if 3 < w then s.doeReply d Code.cmdFormat
  else
    let s1 := s.modSec (fun x => { x with
      fwFloor := if bit w 0 then max x.fwFloor x.fwVersion else x.fwFloor
      mcFloor := if bit w 1 then max x.mcFloor s.mcLowest else x.mcFloor })
    (s1.norWrite 7).doeReply d 0 (le 4 s1.sec.fwFloor ++ le 4 s1.sec.mcFloor)

def execFloorCommit (fn : Nat) (raw : List Byte) (s : State) : Host.Outcome State Fault Refusal :=
  onUnit (decide (fn < 18)) (s.onDoe { fn := fn, raw := raw } 0x12 2 4 true (fun d t => t.floorCommit d))

/-! ### Sealing (R360) -/

/-- A site's queue is enabled. -/
def State.siteQueuesOn (s : State) (st : Nat) : Bool := s.queues.any (fun p => p.2.enable && s.qOwner p.1 == st)

/-- A write of SEC_SEALED_SITES. -/
def State.wSealedSites (s : State) (fn val : Nat) : State :=
  let new := bits val 0 16
  let l := (List.range 16).filter (fun i => bit new i != bit s.sec.sealedSites i)
  let code := firstFail [
    (!l.isEmpty && s.otp.lcState != 2, Code.secState),
    (l.any (fun i => !s.siteIdle i || (s.secSite i).loaded || (s.secSite i).unload.isSome || s.loadPending i), Code.blkBusy),
    (l.any s.siteQueuesOn, Code.ownerConflict)]
  if code ≠ 0 then (s.reject fn code Ty.sec 0).secErr code
  else forEach l (fun i t => (t.dropContainer i).rekey i) (s.modSec (fun x => { x with sealedSites := new }))

def execSecSealedSitesWrite (fn val : Nat) (s : State) : Host.Outcome State Fault Refusal :=
  onUnit (decide (fn < 18)) (s.onWrite fn Ty.sec 0 0x058 (fun t => t.wSealedSites fn val))

/-- A holder's granules are zeroed under its new key. -/
def State.rekeyDone (s : State) (h : Nat) : State := s.modSec (fun x => { x with wiping := x.wiping.filter (· != h) })

/-! ### Lifecycle (R376 to R378) -/

/-- The signers a transition accepts: (Foyris, platform). -/
def lcSigners : Nat → Nat → Bool × Bool
  | 1, 2 => (false, true)
  | 2, 3 => (false, true)
  | 3, 2 => (true, false)
  | 1, 4 => (true, false)
  | 2, 4 => (true, true)
  | 3, 4 => (true, true)
  | _, _ => (false, false)

/-- The transition stands in the table and the counter allows it. -/
def State.lcAllowed (s : State) (to_ : Nat) : Bool :=
  let g := lcSigners s.otp.lcState to_
  (g.1 || g.2) && decide (s.otp.lcCounter < 255) && (to_ == 4 || decide (s.otp.lcCounter + 1 < 255))

/-- KEY of a token, and the SHA-384 that OTP enrols (R377). -/
def tokenKey (t : List Byte) : List Byte := (t.drop 0x40).take 96
/-- The token passes, its signature under its signer's key among the checks (R377). -/
def State.tokenOk (s : State) (to_ : Nat) (t : List Byte) : Bool :=
  let g := lcSigners s.otp.lcState to_
  let plat := fld t 0x0C 1 == 1
  t.take 4 == [0x4B, 0x56, 0x4C, 0x54] && fld t 4 2 == 1 && fld t 6 1 == to_ && fld t 7 1 == s.otp.lcState
    && fld t 8 4 == s.otp.lcCounter && decide (fld t 0x0C 1 ≤ 1) && zeros t 0x0D 3 && (t.drop 0x10).take 48 == s.otp.device
    && (if plat then g.2 && (s.otp.lcState == 1 || sha384 (tokenKey t) == s.otp.platform) else g.1 && zeros t 0x40 96)
    && ecdsaVerify (if plat then tokenKey t else s.otp.foyris) (t.take 0xA0) ((t.drop 0xA0).take 96)

/-- Every session ends, every container is unloaded and every key drawn anew; the electrum region is wiped (R378, R380). -/
def State.secWipe (s : State) : State :=
  let s1 := forEach allSites (fun i t => (when (t.isSealed i) (fun u => u.zeroRings i) t).dropContainer i)
    (s.modSec (fun x => { x with sessions := [], finished := [], loadWait := [] }))
  (forEach (List.range 17) (fun h t => t.rekey h) s1).wipe (bankBase + 0x5400000) 0x400000

/-- Containers are unloaded at once: open frames are closed where their queues have room, the others discarded and counted as
lost (R373, R378). -/
def State.unloadFrames (s : State) : State :=
  forEach allSites (fun i t => frameUnits.foldl (fun u p => u.loseFrame i p.1 p.2) (t.closeFrames i)) s

/-- A write of SEC_LIFECYCLE_CMD: the checks of R377, then steps 1 to 3 of R378. -/
def State.wLifecycle (s : State) (fn val : Nat) : State :=
  let to_ := bits val 0 3
  let a := bankBase + bits val 8 19 * 256
  let t := s.bytes a 256
  let code := firstFail [
    (!s.inMode [.service], Code.svcMode),
    (!s.allIdle || s.sec.lcBusy.isSome, Code.blkBusy),
    (to_ == 0 || decide (4 < to_), Code.paramRange),
    (!s.granted 16 a 256, Code.ownerConflict),
    (!s.lcAllowed to_, Code.lcDenied),
    (!s.tokenOk to_ t, Code.lcToken)]
  let s := when (code == 0 || code == Code.lcToken) (fun t => t.bankHits a 256 false) s
  if code ≠ 0 then (s.reject fn code Ty.sec 0).secErr code
  else
    let hash := if s.otp.lcState = 1 ∧ fld t 0x0C 1 = 1 then sha384 (tokenKey t) else s.otp.platform
    (s.latchHw.unloadFrames.secWipe.modSec (fun x => { x with sealedSites := 0, lcBusy := some (to_, hash) })).norWrite 7

/-- LIFECYCLE_TRANSITION: a write of SEC_LIFECYCLE_CMD. -/
def execLifecycleTransition (fn to_ token rest : Nat) (s : State) : Host.Outcome State Fault Refusal :=
  onUnit (decide (fn < 18)) (s.onWrite fn Ty.sec 0 0x048 (fun t => t.wLifecycle fn
    (to_ % 8 + 8 * (rest % 32) + 256 * (token % 2 ^ 19) + 2 ^ 27 * (rest / 32 % 32))))

/-- LC_DONE: step 4, once the SEC record is committed. Entry to END erases the identity key and enters SAFE. -/
def State.lcDone (s : State) : State :=
  match s.sec.lcBusy with
  | none => s
  | some (to_, hash) =>
    if s.nor.writing = some 7 ∨ s.nor.todo.contains 7 then s
    else
      let s1 : State := { s with otp := { s.otp with
        lcState := to_, lcCounter := s.otp.lcCounter + 1, platform := hash, identity := if to_ = 4 then none else s.otp.identity } }
      let s2 := (s1.modSec (fun x => { x with
        lcBusy := none, identityOk := x.identityOk && to_ != 4, aliasKey := if to_ = 4 then [] else x.aliasKey })).cause Ty.sec 0 2
      if to_ = 4 then (s2.cause Ty.glb 0 2).toSafe 0 Code.burstAbortSafe else s2

def execLcDone (s : State) : Host.Outcome State Fault Refusal := .next s.lcDone

/-! ### Tamper (R379, R380) -/

/-- SEC_TAMPER_COUNT's field for a source. -/
def Sec.countTamper (x : Sec) (src : Nat) : Sec :=
  match src with
  | 0 => { x with cMesh := satAdd sat8 x.cMesh 1 }
  | 1 => { x with cExt := satAdd sat8 x.cExt 1 }
  | 4 => { x with cTemp := satAdd sat8 x.cTemp 1 }
  | _ => { x with cGlitch := satAdd sat8 x.cGlitch 1 }

/-- TAMPER: source 0 MESH, 1 EXT, 2 VOLT, 3 CLOCK, 4 TEMP fires while the module is powered. -/
def State.tamper (s : State) (src : Nat) : State :=
  if s.stage ≠ .on ∨ bit s.sec.tActive src ∨ (src = 1 ∧ ¬ s.sec.extEn) then s
  else
    let s1 := s.modSec (fun x => { (x.countTamper src) with
      tActive := setBit x.tActive src, tSeen := setBit x.tSeen src, identityOk := false, aliasOf := [], aliasKey := [], recover := []
      drbg := {} })
    let s2 := s1.drbgSeed.secWipe.updateAbandon.modNor (fun n => if s.sec.lcBusy.isSome then { n with
      writing := if n.writing = some 7 then none else n.writing, todo := n.todo.filter (· != 7) } else n)
    let s3 := (s2.modSec (fun x => { x with lcBusy := none })).cause Ty.sec 0 1
    (s3.raise Code.tamper Ty.sec 0).toSafe causeTamper Code.burstAbortSafe

def execTamper (src : Nat) (s : State) : Host.Outcome State Fault Refusal := onUnit (decide (src < 5)) (s.tamper src)

/-- TAMPER_CONDITION_END. -/
def execTamperConditionEnd (src : Nat) (s : State) : Host.Outcome State Fault Refusal :=
  onUnit (decide (src < 5)) (s.modSec (fun x => { x with tActive := clearMask x.tActive (2 ^ src) }))

/-- A write of SEC_TAMPER_CTRL: EXT_EN is RWL (05 R87), changes only in SERVICE, and every change is logged (R382). -/
def State.wTamperCtrl (s : State) (fn val : Nat) : State :=
  if (s.hdr Ty.sec 0).lock then s.locked fn Ty.sec 0 0x050
  else if bit val 0 = s.sec.extEn then s
  else if ¬ s.inMode [.service] then (s.reject fn Code.svcMode Ty.sec 0).secErr Code.svcMode
  else (s.modSec (fun x => { x with extEn := bit val 0 })).raise Code.tamperConfig Ty.sec 0

/-! ### NOR records (14 R299, 17 R365, R375) -/

/-- The SEC record as it is written: a bound 10 min past host time when that has reached S (R364), the floors, and the
lifecycle OTP holds or is about to hold (R378). -/
def State.secRecord (s : State) : SecRec :=
  { bound := if s.hostMax ≠ 0 ∧ s.sec.bound ≤ s.hostMax then max s.hwNow s.hostMax + 600000 else s.sec.bound
    fwFloor := s.sec.fwFloor, mcFloor := s.sec.mcFloor
    lcState := match s.sec.lcBusy with | some (t, _) => t | none => s.otp.lcState
    lcCounter := match s.sec.lcBusy with | some _ => s.otp.lcCounter + 1 | none => s.otp.lcCounter
    platform := match s.sec.lcBusy with | some (_, h) => h | none => s.otp.platform }

/-- A Deldivel image is committed: FW_INSTALL's goes to the slot that does not run, and awaits activation; FW_RECOVER's goes to slot A, and the power-up sequence
repeats from the firmware step (R375). -/
def State.fwCommitted (s : State) : State :=
  match s.nor.fwStage with
  | none => s
  | some (i, intoA, path, tag) =>
    let s1 := s.modNor (fun m => { m with fwStage := none, fw := m.fw.put (!intoA && !s.glb.fwSlot) i })
    let s2 := if intoA then s1.modGlb (fun g => { g with cause := clearMask g.cause causeFw, busy := true, target := .ready, seq := true })
      else s1.modGlb (fun g => { g with fwCommitted := true })
    s2.doeSend path (if intoA then 0x11 else 0x10) 0 tag []

/-- NOR_RECORD_WRITE_DONE: the record being written commits, and the next one starts. -/
def State.norDone (s : State) : State :=
  match s.nor.writing with
  | none => s
  | some r =>
    let s1 :=
      if r < 5 then s.modNor (fun n => { n with
        cal := Tbl.upd {} n.cal r (fun p => p.program magicCal r (calEnc r) s.pwr.norHold (s.calRec r)), last := Tbl.set none n.last r (some s.up) })
      else if r = 6 then s.modNor (fun n => { n with
        ret := n.ret.program magicRetire 6 Config.retirePayload s.pwr.norHold s.retiredUnits })
      else if r = 7 then
        let rec_ := s.secRecord
        (s.latchHw.modNor (fun n => { n with
          sec := n.sec.program magicSec 7 SecRec.bytes s.pwr.norHold rec_ })).modSec (fun x => { x with bound := rec_.bound })
      else s.fwCommitted
    (s1.modNor (fun n => { n with writing := none })).norStart

/-! ### IDE (R357) -/

/-- The selective stream of a function changes its state: cause IDE_CHANGE. -/
def State.setIde (s : State) (fn v : Nat) : State :=
  let s1 := s.modSec (fun x => { x with ide := Tbl.set 0 x.ide fn v })
  when (Tbl.get 0 s.sec.ide fn != v) (fun t => t.cause Ty.sec 0 4) s1

/-- IDE_INTEGRITY_FAIL: the TLP is dropped and the stream becomes Insecure. -/
def State.ideFail (s : State) (fn : Nat) : State :=
  if s.stage ≠ .on ∨ Tbl.get 0 s.sec.ide fn ≠ 1 then s
  else (((s.modSec (fun x => { x with ideFails := satAdd sat8 x.ideFails 1 })).setIde fn 2).aerReport fn .ideCheckFailed).raise Code.ideFail Ty.sec 0 (siteOfFn fn)

def execIdeIntegrityFail (fn : Nat) (s : State) : Host.Outcome State Fault Refusal := onUnit (decide (fn < 18)) (s.ideFail fn)

end Sys2Proof.Machine
end

