-- ==== Sys2Proof/Machine/Attest.lean ====
section
/-! DEFINITION. Family: SPDM, IDE_KM and MCTP (17_security.md R354 to R357, 16_sites_and_hosts.md R349, R350). Codes and
layouts of the SPDM and MCTP standards, which the specification names and does not give, are PRESUMED (log entry 9). Path 0 to
17 is the DOE mailbox of a function, 18 MCTP over SMBus. -/

namespace Sys2Proof.Machine

/-! ### SPDM (R355) -/

/-- The responder answers on this path: Deldivel runs; a mailbox's function is up, the SMBus lands are free (19 R414); in END it answers only GET_VERSION and
GET_CAPABILITIES (`early`) (R376). -/
def State.spdmUp (s : State) (path : Nat) (early : Bool) : Bool :=
  decide (s.stage = .on) && s.glb.fwOk && ((path == 18 && s.jtag.hold.isNone && !s.jtag.released) || (s.fnUp path && !(s.fn path).inReset && !s.doeBusy path))
    && (early || s.otp.lcState != 4)

/-- A response: version 1.3 (1.0 for VERSION), code, two parameters, body. -/
def State.spdmSend (s : State) (path code : Nat) (body : List Byte) : State :=
  s.emit (.message path ([if code = 0x04 then 0x10 else 0x13] ++ le 1 code ++ [0, 0] ++ body))
/-- A response signed with the alias key, over the request and the response's body before the signature (R354, R355). -/
def State.spdmSigned (s : State) (path code : Nat) (req body : List Byte) : State :=
  let g := s.signAlias (req ++ body)
  g.1.spdmSend path code (body ++ g.2)
/-- ERROR with a code. -/
def State.spdmError (s : State) (path err : Nat) : State := s.emit (.message path ([0x13, 0x7F] ++ le 1 err ++ [0]))
/-- A response whose body this specification does not give: a free value. -/
def State.spdmFree (s : State) (path code : Nat) (req : List Byte) : State :=
  (s.spdmSend path code (Config.spdmBody code s.free req)).useFree

def State.onSpdm (s : State) (path : Nat) (early : Bool) (act : State → State) : Host.Outcome State Fault Refusal :=
  onUnit (decide (path < 19)) (if s.spdmUp path early then act s else s)

/-- SPDM_GET_VERSION: one version, 1.3. -/
def execSpdmGetVersion (path : Nat) (s : State) : Host.Outcome State Fault Refusal :=
  s.onSpdm path true (fun t => t.spdmSend path 0x04 [0, 1, 0, 0x13])
/-- The capability flags R355 fixes: certificates, challenge, signed measurements, encryption and MAC, key exchange, heartbeat,
key update and the alias certificate are supported; mutual authentication, pre-shared keys and SET_CERTIFICATE are not. -/
def spdmCaps : Nat := 0x000462D6
/-- The flags R355 says something about. -/
def spdmCapsStated : Nat := 0x000C6FDE

/-- CAPABILITIES: timing exponent, flags and the two sizes; what R355 does not fix is a free value. -/
def State.spdmCapabilities (s : State) (path : Nat) : State :=
  let v := s.freeVal
  (s.spdmSend path 0x61 ([0] ++ le 1 (bits v 32 8) ++ [0, 0] ++ le 4 (spdmCaps + ((bits v 0 32) &&& (0xFFFFFFFF - spdmCapsStated)))
    ++ le 8 s.useFree.freeVal)).useFree.useFree
/-- SPDM_GET_CAPABILITIES. -/
def execSpdmGetCapabilities (path : Nat) (req : List Byte) (s : State) : Host.Outcome State Fault Refusal :=
  s.onSpdm path true (fun t => if req.length < 4 then t.spdmError path 0x01 else t.spdmCapabilities path)

/-- ALGORITHMS: SHA-384 measurements, ECDSA P-384, SHA-384, no extensions, and three structures: DHE secp384r1, AEAD
AES-256-GCM, the SPDM key schedule (R355). -/
def spdmAlgorithms : List Byte :=
  le 2 48 ++ le 1 1 ++ le 1 0 ++ le 4 4 ++ le 4 0x80 ++ le 4 2 ++ List.replicate 12 0 ++ le 1 0 ++ le 1 0 ++ [0, 0]
    ++ [2, 0x20] ++ le 2 0x10 ++ [3, 0x20] ++ le 2 2 ++ [5, 0x20] ++ le 2 1
/-- SPDM_NEGOTIATE_ALGORITHMS: the one set of algorithms is selected. -/
def execSpdmNegotiateAlgorithms (path : Nat) (req : List Byte) (s : State) : Host.Outcome State Fault Refusal :=
  s.onSpdm path false (fun t =>
    if req.length < 4 then t.spdmError path 0x01 else t.emit (.message path ([0x13, 0x63, 3, 0] ++ spdmAlgorithms)))
/-- The slot-0 chain, at most 8 KiB (R354). -/
def State.chain (s : State) : List Byte := (Config.certChain (p384Pub (scalarOf s.sec.aliasKey))).take 8192
/-- SPDM_GET_DIGESTS: slot 0 alone holds a chain. -/
def execSpdmGetDigests (path : Nat) (s : State) : Host.Outcome State Fault Refusal :=
  s.onSpdm path false (fun t => if t.sec.identityOk then
    t.emit (.message path ([0x13, 0x01, 0, 1] ++ sha384 t.chain)) else t.spdmError path 0x05)
/-- SPDM_GET_CERTIFICATE: `len` bytes of the chain of slot 0 from `off`; slots 1 to 7 are empty (R354). -/
def execSpdmGetCertificate (path slot off len : Nat) (s : State) : Host.Outcome State Fault Refusal :=
  s.onSpdm path false (fun t =>
    if slot ≠ 0 then t.spdmError path 0x01
    else if ¬ t.sec.identityOk then t.spdmError path 0x05
    else
      let part := (t.chain.drop off).take len
      t.spdmSend path 0x02 (le 2 part.length ++ le 2 (t.chain.length - off - part.length) ++ part))
/-- SPDM_CHALLENGE: signed with the alias key. -/
def execSpdmChallenge (path : Nat) (req : List Byte) (s : State) : Host.Outcome State Fault Refusal :=
  s.onSpdm path false (fun t =>
    if ¬ t.sec.identityOk then t.spdmError path 0x05
    else (t.spdmSigned path 0x03 req (Config.spdmBody 0x03 t.free req)).useFree)

/-- The module's state in a measurement block (R356). -/
def State.measurement (s : State) (k : Nat) : List Byte :=
  let dig := sha384
  match k with
  | 1 => fitBytes 48 Config.bootDigest
  | 2 => fitBytes 48 s.sec.aliasOf ++ le 4 s.sec.fwVersion
  | 7 => le 1 s.otp.lcState ++ le 1 s.otp.lcCounter ++ fitBytes 48 s.otp.platform
  | 8 => le 4 s.sec.fwFloor ++ le 4 s.sec.mcFloor
  | 9 => le 4 (b2n s.sec.extEn) ++ le 4 (s.sec.cMesh + 256 * s.sec.cExt + 65536 * s.sec.cGlitch + 16777216 * s.sec.cTemp)
  | _ =>
    if k < 7 then
      let i : McImage := Tbl.get {} s.micro (k - 3)
      dig ((i.dispatch.map (le 2)).flatten ++ (i.words.map (le 16)).flatten) ++ le 4 (s.rgn (k - 3)).version
    else
      let st := k - 16
      let x := s.secSite st
      le 24 (maskOf (s.siteChans st)) ++ le 4 (s.cluMask st) ++ le 12 (s.site st).teMask ++ le 1 (b2n (s.isSealed st))
        ++ le 4 x.loadId ++ fitBytes 48 x.digest

/-- The blocks a requester receives: a virtual function only its own site's (R356). -/
def measBlocks (path : Nat) : List Nat :=
  (List.range 9).map (· + 1) ++ (match siteOfFn path with | some k => [16 + k] | none => (List.range 16).map (· + 16))

/-- Blocks a request selects by its index byte: 255 every block the requester receives, 0 none (their number is asked). -/
def measWanted (path : Nat) (req : List Byte) : List Nat :=
  let i := (req.getD 3 0).toNat
  if i = 255 then measBlocks path else (measBlocks path).filter (· == i)

/-- The body of MEASUREMENTS: the number of blocks, each with its index and length; the number there are where none is asked
for. -/
def State.measBody (s : State) (path : Nat) (req : List Byte) : List Byte :=
  let l := measWanted path req
  le 1 (if (req.getD 3 0).toNat = 0 then (measBlocks path).length else l.length)
    ++ (l.map (fun k => le 1 k ++ le 2 (s.measurement k).length ++ s.measurement k)).flatten

/-- SPDM_GET_MEASUREMENTS: the selected blocks, signed with the alias key; a block the requester does not receive is absent: the
request is invalid (R356). -/
def execSpdmGetMeasurements (path : Nat) (req : List Byte) (s : State) : Host.Outcome State Fault Refusal :=
  s.onSpdm path false (fun t =>
    if ¬ t.sec.identityOk then t.spdmError path 0x05
    else if (req.getD 3 0).toNat ≠ 0 ∧ measWanted path req = [] then t.spdmError path 0x01
    else t.spdmSigned path 0x60 req (t.measBody path req))

def State.open_ (s : State) (path : Nat) : Nat := Tbl.get 0 s.sec.sessions path
def State.finished (s : State) (path : Nat) : Nat := Tbl.get 0 s.sec.finished path
def State.setSessions (s : State) (path o f : Nat) : State :=
  s.modSec (fun x => { x with sessions := Tbl.set 0 x.sessions path o, finished := Tbl.set 0 x.finished path f })

/-- SPDM_KEY_EXCHANGE: at most two sessions on a path. -/
def execSpdmKeyExchange (path : Nat) (req : List Byte) (s : State) : Host.Outcome State Fault Refusal :=
  s.onSpdm path false (fun t =>
    if ¬ t.sec.identityOk then t.spdmError path 0x05
    else if 2 ≤ t.open_ path then t.spdmError path 0x0A
    else ((t.setSessions path (t.open_ path + 1) (t.finished path)).spdmSigned path 0x64 req (Config.spdmBody 0x64 t.free req)).useFree)
/-- SPDM_FINISH: a session in set-up is complete; `ok` says whether its verify data is right. -/
def execSpdmFinish (path : Nat) (ok : Bool) (s : State) : Host.Outcome State Fault Refusal :=
  s.onSpdm path false (fun t =>
    if t.open_ path ≤ t.finished path then t.spdmError path 0x04
    else if ¬ ok then (t.setSessions path (t.open_ path - 1) (t.finished path)).spdmError path 0x06
    else (t.setSessions path (t.open_ path) (t.finished path + 1)).spdmSend path 0x65 [])
/-- A request inside a session: UnexpectedRequest without one. -/
def State.inSession (s : State) (path : Nat) (act : State → State) : State :=
  if s.finished path = 0 then s.spdmError path 0x04 else act s
def execSpdmHeartbeat (path : Nat) (s : State) : Host.Outcome State Fault Refusal :=
  s.onSpdm path false (fun t => t.inSession path (fun u => u.spdmSend path 0x68 []))
def execSpdmKeyUpdate (path : Nat) (s : State) : Host.Outcome State Fault Refusal :=
  s.onSpdm path false (fun t => t.inSession path (fun u => u.spdmSend path 0x69 []))
/-- SPDM_END_SESSION. -/
def execSpdmEndSession (path : Nat) (s : State) : Host.Outcome State Fault Refusal :=
  s.onSpdm path false (fun t => t.inSession path (fun u =>
    (u.setSessions path (u.open_ path - 1) (u.finished path - 1)).spdmSend path 0x6C []))
/-- SPDM_UNSUPPORTED: any other request draws ERROR UnsupportedRequest. -/
def execSpdmUnsupported (path : Nat) (s : State) : Host.Outcome State Fault Refusal :=
  s.onSpdm path false (fun t => t.spdmError path 0x07)

def IdeKm.path : IdeKm → Nat
  | .query p => p
  | .keyProg p _ => p
  | .setGo p => p
  | .setStop p => p

/-- An IDE_KM request in a session: keys are programmed, the stream goes Secure under them, or leaves that state (R357; its
messages are those of PCIe IDE, PRESUMED, log entry 9). -/
def State.ideKm (s : State) : IdeKm → State
  | .query p => s.spdmSend p 0x7E [1]
  | .keyProg p k => (s.modSec (fun x => { x with ideKeys := Tbl.set [] x.ideKeys p k })).spdmSend p 0x7E [3]
  | .setGo p => if Tbl.get [] s.sec.ideKeys p = [] then s.spdmError p 0x01 else (s.setIde p 1).spdmSend p 0x7E [6]
  | .setStop p => (s.setIde p 2).spdmSend p 0x7E [6]

/-- IDE_KM over a finished session of the function's own mailbox; over MCTP it is not supported (R357). -/
def execIdeKm (req : IdeKm) (s : State) : Host.Outcome State Fault Refusal :=
  s.onSpdm req.path false (fun t =>
    if req.path = 18 then t.spdmError 18 0x07 else t.inSession req.path (fun u => u.ideKm req))

/-! ### MCTP control (16 R350) -/

/-- The MCTP endpoint answers from FW_OK on. -/
def State.mctpUp (s : State) : Bool := decide (s.stage = .on) && s.glb.fwOk && s.jtag.hold.isNone && !s.jtag.released
/-- A control response: message type 0, command, completion code, data. -/
def State.mctpSend (s : State) (cmd cc : Nat) (data : List Byte) : State :=
  if s.mctpUp then s.emit (.message 18 ([0, 0] ++ le 1 cmd ++ le 1 cc ++ data)) else s

/-- SET_ENDPOINT_ID: an ID from 8 to 254 is taken; others are answered as invalid data. -/
def execSetEndpointId (op eid : Nat) (s : State) : Host.Outcome State Fault Refusal :=
  .next (
    if ¬ s.mctpUp then s
    else if 1 < op ∨ eid < 8 ∨ 254 < eid then s.mctpSend 0x01 0x02 []
    else (s.modSmb (fun m => { m with eid := eid })).mctpSend 0x01 0 (le 1 0 ++ le 1 eid ++ le 1 0))
/-- GET_ENDPOINT_ID: EID 0 until one is assigned. -/
def execGetEndpointId (s : State) : Host.Outcome State Fault Refusal := .next (s.mctpSend 0x02 0 (le 1 s.smb.eid ++ [0, 0]))
def execGetEndpointUuid (s : State) : Host.Outcome State Fault Refusal := .next (s.mctpSend 0x03 0 (fitBytes 16 Config.uuid))
/-- GET_MCTP_VERSION_SUPPORT for a message type: control and SPDM are supported. -/
def execGetMctpVersionSupport (type : Nat) (s : State) : Host.Outcome State Fault Refusal :=
  .next (if type = 0x00 ∨ type = 0x05 ∨ type = 0xFF then s.mctpSend 0x04 0 [1, 0xF1, 0xF3, 0xF1, 0] else s.mctpSend 0x04 0x80 [])
/-- GET_MESSAGE_TYPE_SUPPORT: types 0x00 and 0x05. -/
def execGetMessageTypeSupport (s : State) : Host.Outcome State Fault Refusal := .next (s.mctpSend 0x05 0 [2, 0x00, 0x05])
/-- MCTP_UNSUPPORTED: another control command draws ERROR_UNSUPPORTED_CMD; a message of another type is discarded. -/
def execMctpUnsupported (type cmd : Nat) (s : State) : Host.Outcome State Fault Refusal :=
  .next (if type ≠ 0 ∨ (1 ≤ cmd ∧ cmd ≤ 5) then s else s.mctpSend (cmd % 256) 0x05 [])

end Sys2Proof.Machine
end

