-- ==== Sys2Proof/Machine/Jtag.lean ====
section
/-! DEFINITION. Family: the test access port (19_pins_and_electrical.md R410, R413, R414). A row is the loading of an
instruction, with what its data register shifts. `seen` is what the board puts on the 12 lands; the boundary register
holds them in the order R413 lists them, the first in bit 0 (DESIGN CHOICE, log entry 56). -/

namespace Sys2Proof.Machine

/-- The TAP works whenever PWR_GOOD is high. -/
def State.onTap (s : State) (f : Jtag → Jtag) : State := if s.stage = .on then s.modJtag f else s
/-- EXTEST, CLAMP and HIGHZ act only while the mode is SAFE; else as BYPASS. -/
def State.tapActs (s : State) : Bool := s.glb.mode == .safe

/-- FAULT_N is low (R410). -/
def State.faultLow (s : State) : Bool :=
  decide (clearMask s.glb.cause (causeBoot ||| causeRequest) ≠ 0) || (List.range nRgn).any (fun r => (s.rgn r).shutdown)

/-- The 12 lands as observed. The module drives PWR_GOOD and pulls its open-drain lands low, SMB_CLK, SMB_DAT,
SMB_ALERT_N and FAULT_N: by their functions or as they are held; released lands show the board's levels. -/
def State.lands (s : State) (seen : Nat) : Nat :=
  let low := match s.jtag.hold with
    | some v => clearMask 0x407 v
    | none => if s.jtag.released then 0 else 4 * b2n s.smbAlert + 1024 * b2n s.faultLow
  let good := match s.jtag.hold with
    | some v => bit v 9
    | none => !s.jtag.released || bit seen 9
  clearMask (seen % 4096) (512 + low) + 512 * b2n good

/-- The 12 lands return to their functions. -/
def Jtag.free (j : Jtag) : Jtag := { j with hold := none, released := false }

/-- The identification register: die revision, part number, manufacturer code, 1. -/
def idcode : Nat := dieRevision * 2 ^ 28 + 0x0192 * 2 ^ 12 + 0x25F * 2 + 1

/-- EXTEST: the lands take the preloaded values, are observed, then take `drive`. -/
def execExtest (seen drive : Nat) (s : State) : Host.Outcome State Fault Refusal :=
  .next (
    if s.stage ≠ .on then s
    else if s.tapActs then
      let s1 := s.modJtag (fun j => { j with ir := 0, hold := some j.preload, released := false })
      (s1.modJtag (fun j => { j with preload := drive % 4096, hold := some (drive % 4096) })).emit (.jtag (s1.lands seen))
    else s.modJtag (fun j => { j.free with ir := 0 }))
/-- IDCODE. -/
def execIdcode (s : State) : Host.Outcome State Fault Refusal :=
  .next (if s.stage = .on then (s.modJtag (fun j => { j.free with ir := 1 })).emit (.jtag idcode) else s)
/-- SAMPLE/PRELOAD: the lands keep their functions; `load` is preloaded. -/
def execSamplePreload (seen load : Nat) (s : State) : Host.Outcome State Fault Refusal :=
  .next (
    if s.stage = .on then
      let s1 := s.modJtag (fun j => { j.free with ir := 2 })
      (s1.modJtag (fun j => { j with preload := load % 4096 })).emit (.jtag (s1.lands seen))
    else s)
/-- CLAMP. -/
def execClamp (s : State) : Host.Outcome State Fault Refusal :=
  .next (s.onTap (fun j => if s.tapActs then { j with ir := 4, hold := some j.preload, released := false } else { j.free with ir := 4 }))
/-- HIGHZ. -/
def execHighz (s : State) : Host.Outcome State Fault Refusal :=
  .next (s.onTap (fun j => if s.tapActs then { j with ir := 5, hold := none, released := true } else { j.free with ir := 5 }))
/-- BYPASS, and every other code. -/
def execBypass (code : Nat) (s : State) : Host.Outcome State Fault Refusal :=
  .next (if [0, 1, 2, 4, 5].contains (code % 16) then s else s.onTap (fun j => { j.free with ir := code % 16 }))

end Sys2Proof.Machine
end

