-- ==== Sys2Proof/Machine/Flags.lean ====
section
/-! DEFINITION. What every register reads: one word per register, computed from the state that defines it (register tables of
chapters 02 to 19), the 64-bit values of pairs, and what a read clears (05 R87, R88). -/

namespace Sys2Proof.Machine

/-! ### Header (05 R90 to R93, R97) -/

/-- BLK_CAP of a page; 0 for PWR, CLK and SYNC, whose chapters define no field. -/
def State.blkCap (s : State) (ty inst : Nat) : Nat :=
  match ty with
  | 0x00 => b2n s.grade08 + 2 * b2n s.bifur + 4 * s.smbAddr
  | 0x04 => 0x30 | 0x06 => 0x10 | 0x07 => 0x14 | 0x08 => 0x640 | 0x09 => 0x18 | 0x0A => 0x0C | 0x0B => 0x08
  | 0x0C => if inst = 4 then 2 else 1
  | 0x10 => 0x00411000 | 0x11 => 0x00018408 | 0x12 => 0x3022 | 0x13 => 0x25 | 0x14 => 0x40A | 0x15 => 0x520 | 0x16 => 0xEF
  | 0x17 => 0x40 | 0x18 => 0x890 | 0x1A => 9 | 0x1B => 0x618
  | _ => 0

def State.hdrWord (s : State) (ty inst off : Nat) : Nat :=
  let h := s.hdr ty inst
  match off with
  | 0x000 => inst + 256 * ty + 65536
  | 0x004 => s.blkCap ty inst
  | 0x008 => b2n h.en + 4 * b2n h.lock
  | 0x00C => b2n h.en + 2 * b2n h.resetBusy + 4 * b2n h.lock + 8 * b2n h.retired
  | 0x010 => h.irqStatus
  | 0x014 => h.irqEnable
  | 0x01C => h.errCount + 65536 * h.lastCode
  | 0x020 => h.owner + 256 * h.vector
  | _ => 0

/-! ### Package and system pages -/

/-- GLB_IRQ_PEND of a function: types with an enabled cause pending on a page it owns (05 GLB registers). -/
def State.irqPend (s : State) (fn : Nat) : Nat :=
  if fn = 17 then 0 else
  maskOf ((s.hdrs.filter (fun p => p.2.owner == ownerOfFn fn && (p.2.irqStatus &&& p.2.irqEnable) != 0)).map (fun p => p.1 / 256))

def State.glbWord (s : State) (fn off : Nat) : Nat :=
  let g := s.glb
  match off with
  | 0x044 => g.mode.code + 8 * b2n g.busy + 16 * (if g.busy then g.target.code else g.mode.code) + 128 * b2n g.warmup
      + 256 * b2n g.pwrWarn + 65536 * g.lastReject
  | 0x048 => g.cause + 1024 * b2n s.lcHeld
  | 0x04C => b2n g.pwrOk + 2 * b2n g.pllLock + 4 * b2n g.fwOk + 8 * b2n g.fwSlot + 16 * b2n g.bmemClear + 32 * b2n g.hbmClear
      + 64 * b2n g.mcLoaded + 128 * b2n g.retireLoaded + 256 * b2n g.calLoaded + 512 * b2n g.calDefault + 65536 * g.bootMs
  | 0x058 => (s.fn fn).bcastSkip
  | 0x05C => s.irqPend fn
  | 0x060 => (s.fn fn).deniedCount
  | 0x064 => (s.fn fn).deniedOff + 2 ^ 31 * b2n (s.fn fn).deniedWrite
  | _ => if 0x400 ≤ off then Tbl.get 0 g.groups ((off - 0x400) / 4) else 0

def State.pwrWord (s : State) (off : Nat) : Nat :=
  let p := s.pwr
  match off with
  | 0x040 => b2n s.glb.pwrWarn + 2 * b2n p.ov + 4 * b2n p.oc + 8 * b2n p.ot + 16 * b2n p.shed + 32 * b2n p.en
  | 0x044 => p.mv % 2 ^ 20
  | 0x048 => p.ma % 2 ^ 16
  | 0x04C => p.mw % 2 ^ 20
  | 0x070 => p.cntUv + 256 * p.cntOv + 65536 * p.cntOc + 16777216 * p.cntOt
  | _ => if 0x054 ≤ off ∧ off ≤ 0x06C then Tbl.get 0 p.groups ((off - 0x050) / 4) % 2 ^ 20 else 0

def State.clkWord (s : State) (off : Nat) : Nat :=
  let c := s.clk
  match off with
  | 0x040 => b2n c.refclkOk + 2 * b2n c.locked + 4 * b2n c.holdover + 8 * b2n c.ttAligned + 65536 * c.phase
  | 0x04C => tc 16 c.ppm
  | 0x050 => c.cntLoss + 65536 * c.cntUnlock
  | _ => 0

def State.syncWord (s : State) (off : Nat) : Nat :=
  let y := s.sync
  match off with
  | 0x040 => b2n y.lock + 2 * b2n y.slewing + 4 * b2n y.staged + 8 * y.loadReject
  | 0x044 => b2n y.rxEn + 2 * b2n y.echoEn + 4 * b2n y.loadEn + 8 * b2n y.startEn
  | 0x048 => y.delay
  | 0x04C => y.target + 256 * y.current
  | 0x050 => y.crcErr
  | 0x054 => y.loads + 256 * y.starts + 65536 * y.stops + 16777216 * y.ignored
  | _ =>
    if 0x060 ≤ off ∧ off < 0x0E0 then
      let x := s.trigIn ((off - 0x060) / 0x20)
      match (off - 0x060) % 0x20 with
      | 0x00 => x.ctrl | 0x04 => x.queue | 0x10 => x.stamped + 65536 * x.lost | _ => 0
    else if 0x0E0 ≤ off ∧ off < 0x120 then
      let o := s.trigOut ((off - 0x0E0) / 0x10)
      match (off - 0x0E0) % 0x10 with
      | 0x00 => o.ctrl | 0x04 => o.offset | 0x08 => o.width | 0x0C => o.pulses + 65536 * o.dropped + 16777216 * o.late | _ => 0
    else 0

def State.secWord (s : State) (off : Nat) : Nat :=
  let x := s.sec
  match off with
  | 0x040 => b2n x.drbgOk + 2 * b2n x.identityOk + 4 * b2n x.lcBusy.isSome + 8 * b2n (!x.wiping.isEmpty) + 65536 * x.lastErr
  | 0x044 => s.otp.lcState + 8 * b2n (s.otp.platform.any (· != 0)) + 65536 * s.otp.lcCounter
  | 0x04C => x.tActive + 256 * x.tSeen
  | 0x050 => b2n x.extEn
  | 0x054 => x.cMesh + 256 * x.cExt + 65536 * x.cGlitch + 16777216 * x.cTemp
  | 0x058 => x.sealedSites + 65536 * maskOf ((List.range 16).filter (fun i => (s.secSite i).loaded))
  | 0x05C => maskOf ((List.range 16).filter (fun i => Tbl.get 0 x.ide (i + 1) == 1)) + 65536 * b2n (Tbl.get 0 x.ide 0 == 1)
      + 16777216 * x.ideFails
  | 0x060 => x.fwVersion
  | 0x064 => x.mcFloor
  | _ => 0

def State.siteWord (s : State) (st off : Nat) : Nat :=
  let x := s.site st
  match off with
  | 0x040 => b2n x.vfOn + 2 * b2n s.siteOpen + 4 * b2n (s.isSealed st) + 8 * s.endpointOf (st + 1) + 256 * b2n x.logEn
  | 0x048 => x.st.code + 8 * b2n x.srcFrame + 16 * b2n x.frameArmed + 32 * b2n x.pendStart.isSome + 64 * x.abortCause
      + 65536 * x.lastReject
  | 0x04C => x.lclkDiv
  | 0x050 => x.group
  | 0x054 => b2n x.lateHiz
  | 0x058 => x.lead + 65536 * x.tether
  | 0x078 => s.cluMask st
  | 0x088 => x.qBase
  | 0x08C => x.qCount
  | 0x090 => x.logQ + 2 ^ 31 * b2n x.logQValid
  | 0x094 => x.cplQ + 2 ^ 31 * b2n x.cplQValid
  | _ =>
    if 0x060 ≤ off ∧ off < 0x078 then
      let k := (off - 0x060) / 4
      maskOf ((List.range 32).filter (fun j => s.chOwner (32 * k + j) == st))
    else if 0x07C ≤ off ∧ off < 0x088 then bits x.teMask (8 * (off - 0x07C)) 32
    else if 0x400 ≤ off then Tbl.get 0 x.groups ((off - 0x400) / 4)
    else 0

def State.qmgrWord (s : State) (fn off : Nat) : Nat :=
  let f := s.fn fn
  match off with
  | 0x040 => b2n s.qmgr.ready
  | 0x044 => f.descSel
  | 0x048 => f.desc0 | 0x04C => f.desc1 | 0x050 => f.desc2 | 0x054 => f.desc3
  | 0x058 => 65536 * f.descErr
  | 0x05C => s.qmgr.dbDrop | 0x060 => s.qmgr.stealLocal | 0x064 => s.qmgr.stealRemote
  | _ => 0

def State.bmemWord (s : State) (off : Nat) : Nat :=
  let b := s.bmem
  match off with
  | 0x040 => b2n s.glb.bmemClear + 2 * b2n b.active + 256 * b.region
  | 0x044 => b.collide
  | 0x048 => b.conflict
  | 0x04C => b2n b.testEn + 256 * b.interval
  | 0x050 => b.passes + 65536 * b.abandoned + 16777216 * b.fails
  | 0x054 => b.shadowHits
  | _ => 0

def State.hbmWord (s : State) (i off : Nat) : Nat :=
  let h := s.hbm i
  match off with
  | 0x040 => b2n h.cleared + 2 * b2n h.selfRefresh + 4 * b2n h.bp + 8 * b2n h.failed
  | 0x044 => h.eccCorr
  | 0x048 => h.eccUncorr
  | 0x05C => b2n h.degFail + 2 * b2n h.degAcq + 4 * b2n h.degHost + 65536 * h.events
  | 0x060 => tc 20 h.temp
  | _ => if 0x04C ≤ off ∧ off ≤ 0x058 then Tbl.get 0 h.served ((off - 0x04C) / 4) + 65536 * Tbl.get 0 h.demand ((off - 0x04C) / 4) else 0

def State.errWord (s : State) (off : Nat) : Nat :=
  let e := s.err
  match off with
  | 0x040 => e.queue + 2 ^ 20 * b2n e.valid
  | 0x044 => e.headSeq % 4096
  | 0x048 => e.nextSeq % 4096 + 4096 * openCount e.ring
  | 0x04C => e.lost
  | 0x050 => e.lastCode + 65536 * e.lastTy + 16777216 * e.lastInst
  | _ => 0

def State.hlthWord (s : State) (off : Nat) : Nat :=
  let h := s.hlth
  if off < 0x060 then Tbl.get 0 h.retries ((off - 0x040) / 4)
  else if off = 0x060 then h.ctrl
  else if 0x100 ≤ off ∧ off < 0x200 then Tbl.get 0 h.cmdlat.bins ((off - 0x100) / 4)
  else if 0x200 ≤ off ∧ off < 0x300 then Tbl.get 0 h.qdepth.bins ((off - 0x200) / 4)
  else 0

/-- CAL_STATUS.FACTORY: a channel of the region in service has factory terms in force (14 R300, R302). -/
def State.calFactory (s : State) (i : Nat) : Bool :=
  if i = 4 then (s.cal 4).factory
  else (chansOfRgn i).any (fun ch => !(s.hdr Ty.pe ch).retired && (s.chan ch).cal.factory)

def State.calWord (s : State) (i off : Nat) : Nat :=
  let c := s.cal i
  match off with
  | 0x040 => if i = 4 then 4 * b2n c.refplane else 2 * b2n c.auto
  | 0x044 => c.state + 16 * b2n c.lastOk + 32 * b2n (s.calFactory i) + 256 * (c.done % 256) + 65536 * c.lastErr
  | 0x048 => c.count
  | 0x04C => c.failCount
  | 0x060 => if i = 4 then 0 else c.deltaT
  | 0x064 => tc 20 c.tempRef
  | _ => 0

/-! ### Engines (07 R150) -/

/-- An abort of its site waits for the engine. -/
def State.abortPend (s : State) (e : Nat) : Bool := (s.te e).cur.any (fun g => (s.site g.site).st == .aborted)

/-- The instruction under way stalls: for a block to be posted, for room in a FIFO, or at the closed gate of a tethered
condition (07 R134, 08 R167). -/
def State.instrStalls (s : State) (e : Nat) (g : Seg) : Bool :=
  let x := s.te e
  x.job.isSome && (x.full.isSome || s.noRoom e g || (x.cond.any (fun c => c.res.isNone) && x.uis % 64 == 0
    && ttLe (s.now + (s.site g.site).tether * fsNs) (s.paceAt g x.uis)))
/-- The word at the engine's micro-PC is stalled or waiting (07 R150): a miss, an EMIT that stalls, or a false condition of
a WAIT word. -/
def State.wordWaits (s : State) (e : Nat) (g : Seg) : Bool :=
  let x := s.te e
  let w := s.uword e
  x.miss.isSome || s.instrStalls e g || s.uStalls e g w || (uWait w && x.uCond (bits w 118 6) == bit w 117)

/-- TE_STATUS.STATE. -/
def State.teState (s : State) (e : Nat) : Nat :=
  let x := s.te e
  if (s.hdr Ty.te e).retired then 7
  else if x.reload then 5
  else if x.handler then 4
  else match x.cur with
    | none => if s.inService e then 0 else 6
    | some g =>
      if x.taking ∨ ¬ ttLe x.beginAt s.now then 1
      else if s.wordWaits e g then 3 else 2

/-- TE_STATUS as function `fn` reads it: the restricted view for a site other than the segment's. -/
def State.teStatus (s : State) (fn e : Nat) : Nat :=
  let x := s.te e
  let st := s.teState e
  let pool := 8 * b2n (s.inPool e)
  let site := match x.cur with | some g => g.site | none => 0
  if (siteOfFn fn).any (fun k => x.cur.all (fun g => g.site != k)) then (if 1 ≤ st ∧ st ≤ 4 then 2 else st) + pool
  else
    let w : Nat := if st = 3 then bits (s.uword e) 118 6 else 0
    st + pool + 16 * site + 256 * b2n x.cur.isSome + 512 * w
      + 65536 * (b2n (s.abortPend e) + 2 * b2n x.pendSync + 4 * b2n x.pendMatch.isSome + 8 * b2n (!x.pendTrig.isEmpty))

/-- The token belongs to a segment of a sealed site (17 R361). -/
def State.tokenSealed (s : State) (e : Nat) : Bool := (s.te e).token.site.any s.isSealed

def State.teWord (s : State) (fn e off : Nat) : Nat :=
  let x := s.te e
  let t := x.token
  match off with
  | 0x040 => s.teStatus fn e
  | 0x044 => x.segId
  | 0x048 => x.upc + 4096 * x.ustack.length + 65536 * x.op
  | 0x04C => (match siteOfFn fn with | some k => (x.deque.filter (fun g => g.site == k)).length | none => x.deque.length)
  | 0x050 => x.stealMade + 65536 * x.stealSuf
  | 0x054 => x.mcPar + 256 * x.mcDisp + 65536 * x.mcUstk + 16777216 * x.mcScan
  | 0x058 => x.scrubs
  | _ =>
    if s.tokenSealed e then 0
    else match off with
    | 0x060 => t.upc + 4096 * t.ustack.length + 65536 * (t.pdepth % 16) + 2 ^ 20 * t.cls + 2 ^ 23 * b2n t.live + 2 ^ 24 * t.op
    | 0x064 => t.ipoff % 2 ^ 28
    | 0x068 => t.uc0 % 2 ^ 32
    | 0x06C => t.uis % 2 ^ 32
    | _ => 0

/-- TE_BUSY: ECLK cycles in STATE 1 to 4. -/
def State.teBusy (s : State) (e : Nat) : Nat := ((s.te e).endBusy s.up).busy % 2 ^ 64

/-! ### Channel pages (09 R197, 10 R220, R221, 11 R246) -/

def Fmt.word (f : Fmt) (valid : Bool) : Nat :=
  f.format + 16 * b2n f.cmode + 32 * b2n valid + 256 * f.dscript + 16777216 * f.escript

def State.tgWord (s : State) (ch off : Nat) : Nat :=
  let c := s.chan ch
  match off with
  | 0x040 => tc 16 c.drvSkew + 65536 * tc 16 c.cmpSkew
  | 0x04C => b2n c.frRun + 2 * b2n c.frAnch + 4 * b2n c.conflict + 8 * b2n c.tsInv + 16 * b2n c.overlap
      + 32 * b2n (c.calNext.isSome && !c.calSlew)
      + 64 * b2n c.calSlew + 128 * b2n c.calStale + 65536 * c.fifo.length
  | 0x058 => b2n c.frRun + 2 * c.frTs + 128 * c.frSym
  | _ =>
    if 0x400 ≤ off ∧ off < 0xC00 then Tbl.get 0 c.edges ((off - 0x400) / 4)
    else if 0xC00 ≤ off ∧ off < 0xD00 then (c.fmt ((off - 0xC00) / 4)).word (c.tsValid ((off - 0xC00) / 4))
    else 0

/-- CMP_STATUS.MASKED (11 R246). -/
def Chan.masked (c : Chan) : Bool := if c.fifo.isEmpty ∧ c.play.isNone then c.mask else c.maskRel

def State.cmpWord (s : State) (ch off : Nat) : Nat :=
  let c := s.chan ch
  let open_ := !s.isSealed (s.chOwner ch)
  match off with
  | 0x040 => b2n c.fcuEn + 2 * b2n c.captSrc
  | 0x044 => (if open_ then b2n c.outCH + 2 * b2n c.outCL + 4 * b2n c.failSeen else 0) + 8 * b2n c.masked + 16 * b2n c.countSat
  | 0x048 => b2n c.mask
  | 0x04C => if open_ then b2n c.lastPass + 2 * b2n c.mValid + 256 * c.reps else 0
  | 0x050 => b2n c.tdcCh + 2 * b2n c.tdcCl + 4 * c.tdcEdge
  | _ => 0

def State.peWord (s : State) (ch off : Nat) : Nat :=
  let c := s.chan ch
  match off with
  | 0x040 => c.peCtrl
  | 0x044 => let p := s.pinView ch
    b2n p.drvOn + 2 * b2n c.rangeAt.isSome + 4 * b2n (p.isHiz s.now s.up) + 8 * b2n (p.loadOn s.now)
      + 16 * b2n ((c.pmuConn && !c.held) || c.contactOn s.up)
      + 32 * b2n c.pmuAt.isSome + 64 * b2n c.compliance + 128 * b2n c.senseFb + 256 * b2n c.swingLimit + 512 * b2n c.swingLow
      + 1024 * b2n c.clampOrder
  | 0x048 => c.loadMode
  | 0x04C => c.pmuMode + 4 * b2n c.pmuConn + 8 * b2n c.pmuSense
  | 0x050 => c.pmuRange
  | 0x054 => b2n c.owEn + 2 * b2n c.owDir + 4 * c.owCur
  | 0x058 => b2n c.vchAct + 2 * b2n c.vclAct + 4 * b2n c.vchSeen + 8 * b2n c.vclSeen + 16 * b2n c.protHi + 32 * b2n c.protLo
      + 65536 * c.clEvents
  | 0x05C => 2 * b2n c.conPol + 4 * c.conCur + 16 * b2n c.conAt.isSome + 32 * c.conRes
  | _ => 0

def State.lvlWord (s : State) (ch off : Nat) : Nat :=
  let c := s.chan ch
  if 0x040 ≤ off ∧ off < 0x068 then c.code ((off - 0x040) / 4)
  else if off = 0x088 then
    c.lvlq.length + 256 * maskOf ((List.range 10).filter (fun d => c.applied d != c.code d)) + 2 ^ 18 * b2n c.lvlOver
      + 2 ^ 19 * b2n c.lvlLate + 2 ^ 24 * c.lvlDrop
  else if 0x0C0 ≤ off ∧ off < 0x0E8 then c.applied ((off - 0x0C0) / 4) + 65536 * c.raw ((off - 0x0C0) / 4)
  else 0

/-! ### Cluster and region pages -/

def State.madcRegWord (s : State) (k off : Nat) : Nat :=
  let m := s.madc k
  match off with
  | 0x040 => 2 * b2n m.run + 4 * m.spare + 64 * m.mon
  | 0x044 => m.mask
  | 0x048 => m.src + 65536 * m.period
  | 0x04C => s.madcState k + 4 * b2n m.scan.isSome + 8 * b2n m.pending + 16 * b2n m.gap.isSome
      + 256 * (match m.scan with | some c => c.left.headD 0 | none => 0)
      + 65536 * (match m.scan with | some c => c.seq | none => (m.scans - 1) % 65536)
  | 0x050 => m.lost + 16777216 * m.empty
  | 0x054 => m.queue + 2 ^ 31 * b2n m.qValid
  | _ =>
    if 0x100 ≤ off ∧ off < 0x180 ∧ ¬ s.isSealed (s.hdr Ty.madc k).owner ∧ s.madcState k ≠ 3 then
      Tbl.get 0 m.results ((off - 0x100) / 4)
    else 0

def State.acqWord (s : State) (k off : Nat) : Nat :=
  let a := s.acq k
  match off with
  | 0x040 => b2n a.single + 2 * b2n a.run + 4 * b2n a.edgeEn + 8 * b2n a.sampleEn
  | 0x044 => a.state + 8 * b2n a.spill + 16 * b2n a.gap.isSome + 64 * a.lastEnd + 65536 * a.armSeq
  | 0x048 => a.ty + 8 * a.slope + 32 * b2n a.level + 64 * a.cond + 65536 * a.markId
  | 0x04C => b2n a.fromMadc + 2 * a.lane + 16 * a.input + 512 * a.line + 65536 * a.markMask
  | 0x050 => tc 20 a.thLo
  | 0x054 => tc 20 a.thHi
  | 0x068 => a.pre
  | 0x06C => a.post
  | 0x070 => a.queue + 2 ^ 31 * b2n a.qValid
  | 0x074 => a.ignored
  | 0x078 => a.gapCount
  | _ => 0

def State.histWord (s : State) (k off : Nat) : Nat :=
  let h := s.hist k
  match off with
  | 0x040 => b2n h.run + 4 * b2n (!h.feed.isEmpty) + 8 * b2n h.sat
  | 0x044 => h.kind + 16 * h.lane + 128 * b2n h.comp + 256 * h.dir + 1024 * h.input + 32768 * h.dac + 524288 * b2n h.raw
  | 0x050 => h.width
  | _ =>
    if 0x100 ≤ off ∧ off < 0x200 ∧ ¬ s.isSealed (s.hdr Ty.hist k).owner then Tbl.get 0 h.bins ((off - 0x100) / 4) else 0

def State.fcuWord (s : State) (r off : Nat) : Nat :=
  let f := s.fcu r
  match off with
  | 0x040 => f.l1 + 8 * f.l2 + 64 * f.l0
  | 0x044 => maskOf ((List.range 16).filter (fun i => 1 ≤ (s.part r i).shown)) + 65536 * maskOf ((List.range 16).filter (fun i => (s.site i).firstDone))
  | 0x048 => f.sumCount + 65536 * f.lostCount
  | 0x04C => f.scrBase
  | _ =>
    if 0x400 ≤ off ∧ off < 0x800 then
      let st := (off - 0x400) / 0x40
      let p := s.part r st
      match (off - 0x400) % 0x40 with
      | 0x00 => (s.site st).fcuMode + 4 * b2n p.sparseEn + 8 * b2n p.captEn
      | 0x04 => p.n
      | 0x08 => p.queue + 2 ^ 31 * b2n p.qValid
      | 0x0C => p.units
      | 0x10 => p.shown + 4 * b2n (s.site st).firstDone + 8 * b2n (f.recs.any (fun c => c.site == st)) + 16 * b2n p.gap + 256 * (p.fill / 32)
      | 0x1C => (s.site st).firstCount
      | 0x20 => p.lost
      | 0x24 => p.noAddr + 65536 * p.range
      | 0x28 => p.pseq
      | _ => 0
    else 0

def State.cluWord (s : State) (k off : Nat) : Nat :=
  let c := s.clu k
  match off with
  | 0x040 => c.spareFor + 256 * b2n (!bit c.retired 8)
  | 0x044 => c.retired
  | 0x048 => tc 20 c.temp
  | 0x04C => ((List.range 8).map (fun l => s.laneState (8 * k + l) * 8 ^ l)).sum + 2 ^ 24 * b2n c.step + 2 ^ 25 * b2n (s.isoNow k != 0)
  | _ => 0

def State.rgnWord (s : State) (r off : Nat) : Nat :=
  let x := s.rgn r
  match off with
  | 0x040 => b2n x.shutdown + 2 * b2n x.warn + 4 * b2n x.cool + 256 * ((tesOfRgn r).filter s.inPool).length
  | 0x044 => tc 20 x.temp + 2 ^ 20 * x.source
  | 0x04C =>
    (if x.loaderState = 0 ∧ s.stage = .on ∧ s.glb.bmemClear ∧ s.glb.fwOk ∧ ¬ s.glb.mcLoaded then 1 else x.loaderState)
      + 8 * b2n x.slot + 16 * b2n x.fallback + 256 * x.holding.length + 65536 * x.lastErr
  | 0x050 => x.version
  | _ => 0

/-! ### Pairs (05 R88) -/

/-- The 64-bit value of the pair whose _LO register stands at `off` (`Ty.pairLo`). -/
def State.pairValue (s : State) (ty inst off : Nat) : Nat :=
  let hide := fun (b : Bool) (v : Nat) => if b then 0 else v
  match ty with
  | 0x00 => s.hostTime
  | 0x02 => s.root
  | 0x03 => (s.trigIn ((off - 0x060) / 0x20)).stamp
  | 0x0B =>
    let h := if off < 0x320 then s.hlth.cmdlat else s.hlth.qdepth
    match off % 0x20 with
    | 0x00 => h.minV | 0x08 => h.maxV | 0x10 => h.count | _ => h.sum
  | 0x0C => if off = 0x050 then (s.cal inst).lastTT else (s.cal inst).hostMs
  | 0x10 => s.teBusy inst
  | 0x11 =>
    if off = 0x044 then (s.chan inst).perInt + 2 ^ 48 * (s.chan inst).perFrac
    else (s.chan inst).symLo + 2 ^ 32 * (s.chan inst).symHi
  | 0x12 => hide (s.isSealed (s.chOwner inst)) (s.chan inst).failCount
  | 0x16 => if off = 0x058 then (s.acq inst).limA else (s.acq inst).limB
  | 0x17 =>
    let h := s.hist inst
    if off = 0x048 then tc 64 h.origin
    else hide (s.isSealed (s.hdr Ty.hist inst).owner)
      (if off = 0x054 then tc 64 h.minV else if off = 0x05C then tc 64 h.maxV else if off = 0x064 then h.count else tc 64 h.sum)
  | 0x18 => (s.part inst ((off - 0x400) / 0x40)).records
  | _ => 0

/-! ### Reading (05 R86 to R88) -/

/-- The word of a register that is no half of a pair. -/
def State.regWord (s : State) (fn ty inst off : Nat) : Nat :=
  if off < 0x040 then s.hdrWord ty inst off
  else match ty with
  | 0x00 => s.glbWord fn off | 0x01 => s.pwrWord off | 0x02 => s.clkWord off | 0x03 => s.syncWord off | 0x04 => s.secWord off
  | 0x06 => s.siteWord inst off | 0x07 => s.qmgrWord fn off | 0x08 => s.bmemWord off | 0x09 => s.hbmWord inst off
  | 0x0A => s.errWord off | 0x0B => s.hlthWord off | 0x0C => s.calWord inst off | 0x10 => s.teWord fn inst off
  | 0x11 => s.tgWord inst off | 0x12 => s.cmpWord inst off | 0x13 => s.peWord inst off | 0x14 => s.lvlWord inst off
  | 0x15 => s.madcRegWord inst off | 0x16 => s.acqWord inst off | 0x17 => s.histWord inst off | 0x18 => s.fcuWord inst off
  | 0x1A => s.cluWord inst off | 0x1B => s.rgnWord inst off
  | _ => 0

/-- What a read clears: the RC fields of the register. -/
def State.readClear (s : State) (fn ty inst off : Nat) : State :=
  if off = 0x01C then s.modHdr ty inst (fun h => { h with errCount := 0, lastCode := 0 })
  else match ty, off with
  | 0x00, 0x058 => s.modFn fn (fun f => { f with bcastSkip := 0 })
  | 0x00, 0x060 => s.modFn fn (fun f => { f with deniedCount := 0 })
  | 0x01, 0x070 => s.modPwr (fun p => { p with cntUv := 0, cntOv := 0, cntOc := 0, cntOt := 0, oc := false })
  | 0x02, 0x050 => s.modClk (fun c => { c with cntLoss := 0, cntUnlock := 0 })
  | 0x03, 0x050 => s.modSync (fun y => { y with crcErr := 0 })
  | 0x03, 0x054 => s.modSync (fun y => { y with loads := 0, starts := 0, stops := 0, ignored := 0 })
  | 0x04, 0x054 => s.modSec (fun x => { x with cMesh := 0, cExt := 0, cGlitch := 0, cTemp := 0 })
  | 0x04, 0x05C => s.modSec (fun x => { x with ideFails := 0 })
  | 0x07, 0x05C => s.modQmgr (fun m => { m with dbDrop := 0 })
  | 0x07, 0x060 => s.modQmgr (fun m => { m with stealLocal := 0 })
  | 0x07, 0x064 => s.modQmgr (fun m => { m with stealRemote := 0 })
  | 0x08, 0x044 => s.modBmem (fun b => { b with collide := 0 })
  | 0x08, 0x048 => s.modBmem (fun b => { b with conflict := 0 })
  | 0x08, 0x050 => s.modBmem (fun b => { b with abandoned := 0, fails := 0 })
  | 0x08, 0x054 => s.modBmem (fun b => { b with shadowHits := 0 })
  | 0x09, 0x044 => s.modHbm inst (fun h => { h with eccCorr := 0 })
  | 0x09, 0x048 => s.modHbm inst (fun h => { h with eccUncorr := 0 })
  | 0x09, 0x05C => s.modHbm inst (fun h => { h with events := 0 })
  | 0x0A, 0x04C => s.modErr (fun e => { e with lost := 0 })
  | 0x10, 0x050 => s.modTe inst (fun x => { x with stealMade := 0, stealSuf := 0 })
  | 0x10, 0x054 => s.modTe inst (fun x => { x with mcPar := 0, mcDisp := 0, mcUstk := 0, mcScan := 0 })
  | 0x10, 0x058 => s.modTe inst (fun x => { x with scrubs := 0 })
  | 0x13, 0x058 => s.modChan inst (fun c => { c with clEvents := 0 })
  | 0x14, 0x088 => s.modChan inst (fun c => { c with lvlDrop := 0 })
  | 0x15, 0x050 => s.modMadc inst (fun m => { m with lost := 0, empty := 0 })
  | 0x16, 0x074 => s.modAcq inst (fun a => { a with ignored := 0 })
  | 0x16, 0x078 => s.modAcq inst (fun a => { a with gapCount := 0 })
  | 0x18, 0x048 => s.modFcu inst (fun f => { f with sumCount := 0, lostCount := 0 })
  | 0x03, _ =>
    if 0x060 ≤ off ∧ off < 0x0E0 ∧ (off - 0x060) % 0x20 = 0x10 then s.modTrigIn ((off - 0x060) / 0x20) (fun x => { x with stamped := 0, lost := 0 })
    else if 0x0E0 ≤ off ∧ off < 0x120 ∧ (off - 0x0E0) % 0x10 = 0x0C then
      s.modTrigOut ((off - 0x0E0) / 0x10) (fun o => { o with pulses := 0, dropped := 0, late := 0 })
    else s
  | 0x0B, _ => if 0x040 ≤ off ∧ off < 0x060 then s.modHlth (fun h => { h with retries := Tbl.set 0 h.retries ((off - 0x040) / 4) 0 }) else s
  | 0x15, _ =>
    if 0x100 ≤ off ∧ off < 0x180 then s.modMadc inst (fun m => { m with
      results := Tbl.set 0 m.results ((off - 0x100) / 4) (Tbl.get 0 m.results ((off - 0x100) / 4) % 2 ^ 28) }) else s
  | 0x18, _ =>
    if 0x400 ≤ off ∧ off < 0x800 then
      let st := (off - 0x400) / 0x40
      match (off - 0x400) % 0x40 with
      | 0x20 => s.modPart inst st (fun p => { p with lost := 0 })
      | 0x24 => s.modPart inst st (fun p => { p with noAddr := 0, range := 0 })
      | _ => s
    else s
  | _, _ => s

/-- A read of a register by a function: its value, with snapshot and clearing (R87, R88). A _HI register returns the upper
half of the function's last snapshot. -/
def State.readReg (s : State) (fn ty inst off : Nat) : State × Nat :=
  if Ty.pairLo ty off then
    let v := s.pairValue ty inst off
    (s.modFn fn (fun f => { f with snap := Tbl.set 0 f.snap (pairKey ty inst off) v }), v % 2 ^ 32)
  else if 4 ≤ off ∧ Ty.pairLo ty (off - 4) then (s, Tbl.get 0 (s.fn fn).snap (pairKey ty inst (off - 4)) >>> 32)
  else (s.readClear fn ty inst off, s.regWord fn ty inst off)

end Sys2Proof.Machine
end

