-- ==== Sys2Proof/Machine/Regs.lean ====
section
/-! DEFINITION. Family: register writes, header registers, pairs and broadcasts (05_register_pages.md R85 to R95). -/

namespace Sys2Proof.Machine

/-! ### The header registers (R91 to R93) -/

/-- Package and system blocks (01 R9), and CLU (R92): EN = 0 and SOFT_RESET are ignored. -/
def noReset (ty inst : Nat) : Bool :=
  [Ty.glb, Ty.pwr, Ty.clk, Ty.sync, Ty.sec, Ty.site, Ty.qmgr, Ty.bmem, Ty.hbm, Ty.err, Ty.hlth, Ty.clu].contains ty
    || (ty == Ty.cal && inst == 4)
/-- These, and RGN (19 R418): EN = 0 is ignored. -/
def fixedEn (ty inst : Nat) : Bool := noReset ty inst || ty == Ty.rgn

def isChPage (ty : Nat) : Bool := [Ty.tg, Ty.cmp, Ty.pe, Ty.lvl].contains ty

/-- The busy check of R91: the sites an instance serves (R92), and the free-running channel. -/
def State.blkBusy (s : State) (ty inst : Nat) : Bool :=
  if isChPage ty then s.chBusy inst
  else if ty = Ty.fcu then (s.rgnSites inst).any (fun i => !s.siteIdle i)
  else if ty = Ty.te then (s.te inst).cur.any (fun g => !s.siteIdle g.site)
  else if ty = Ty.cal then false
  else s.ownerBusy ty inst

/-- What an accepted EN = 0 does at once (R92): an MADC stops, an ACQ unit acts as on SAFE entry, a HIST unit stops, a PE
channel goes Hi-Z without the level-DAC step, a region's calibration run is abandoned (14 R285). -/
def State.enClear (s : State) (ty inst : Nat) : State :=
  if ty = Ty.madc then s.madcStop inst
  else if ty = Ty.acq then s.acqSafe inst
  else if ty = Ty.hist then s.modHist inst (fun h => { h with run := false })
  else if ty = Ty.pe then s.hizStart false inst
  else if ty = Ty.cal then s.calAbandon inst
  else s

/-- What EN = 1 does at once: an engine returns to the pool and cannot vouch for its last site (01 R31). -/
def State.enSet (s : State) (ty inst : Nat) : State :=
  if ty = Ty.te then s.emptyDeque inst else s

/-- A partition at reset. MODE, N, SPARSE_EN and CAPT_EN are one register per site in all four FCUs (11 R236), so they
return to reset in all four, and the FIRST_N count and its flag of an IDLE site with them (log entry 40). -/
def State.resetPart (s : State) (r st : Nat) : State :=
  forEach [0, 1, 2, 3] (fun i t => t.modPart i st (fun q => { q with sparseEn := true, captEn := true, n := 16777216 }))
    ((s.modPart r st (fun _ => {})).modSite st (fun x => if x.st = .idle then { x with fcuMode := 0, firstCount := 0, firstDone := false } else { x with fcuMode := 0 }))

/-- An FCU at reset, with its partitions. -/
def State.resetFcu (s : State) (r : Nat) : State :=
  (forEach allSites (fun st t => t.resetPart r st) s).modFcu r (fun u => { parts := u.parts })

/-- A CAL instance at reset; what its registers take from the record stays (14 R302). -/
def Cal.cleared (c : Cal) : Cal := { ({} : Cal) with
  factory := c.factory, gradualNext := c.gradualNext, tempRef := c.tempRef, hostMs := c.hostMs }

/-- A TE page at reset: counters, token, SEG_ID and micro-PC clear, the control store stays (07 R150). -/
def Eng.cleared (x : Eng) (up : Nat) : Eng :=
  { x with
    lastSite := none, stealMade := 0, stealSuf := 0, mcPar := 0, mcDisp := 0, mcUstk := 0, mcScan := 0, scrubs := 0
    busy := 0, busyFrom := x.busyFrom.map (fun _ => up), token := {}, segId := 0, upc := 0, ustack := [], op := 0 }

/-- The registers of an instance take their reset values (R91). PE and LVL come to the power-up state of 02 R42 first. -/
def State.resetRegs (s : State) (ty inst : Nat) : State :=
  match ty with
  | 0x11 => s.modChan inst Chan.resetTg
  | 0x12 => s.modChan inst Chan.resetCmp
  | 0x13 => (s.hizDone inst).modChan inst Chan.resetPe
  | 0x14 => (s.hizDone inst).modChan inst Chan.resetLvl
  | 0x15 => (s.madcStop inst).modMadc inst Madc.cleared
  | 0x16 => (s.acqSafe inst).modAcq inst (fun _ => {})
  | 0x17 => s.modHist inst (fun _ => {})
  | 0x18 => s.resetFcu inst
  | 0x0C => (s.calAbandon inst).modCal inst Cal.cleared
  | 0x10 => s.modTe inst (fun x => x.cleared s.up)
  | 0x1B => s.modRgn inst (fun x => { x with lastErr := 0 })
  | _ => s

/-- The header after a soft reset: every register but BLK_OWNER at its reset value. -/
def Hdr.softReset (h : Hdr) : Hdr := { ({} : Hdr) with owner := h.owner, vector := h.vector, retired := h.retired }

/-- A soft reset begins. A PE or LVL page first runs the Hi-Z sequence with its level-DAC step; its registers follow at
the end (SOFT_RESET_DONE). -/
def State.softReset (s : State) (ty inst : Nat) : State :=
  let s1 := if ty = Ty.pe ∨ ty = Ty.lvl then s.hizStart true inst else s.resetRegs ty inst
  s1.modHdr ty inst (fun h => { h.softReset with resetBusy := true })

/-- A write of BLK_CTRL (R91). -/
def State.wBlkCtrl (s : State) (fn ty inst val : Nat) : State :=
  let lock := fun (t : State) => if bit val 2 then t.modHdr ty inst (fun h => { h with lock := true }) else t
  if bit val 1 then
    if noReset ty inst then s
    else if fn ≠ 0 ∧ (s.hdr ty inst).lock then s.locked fn ty inst 0x008
    else s.checked fn ty inst [(s.blkBusy ty inst, Code.blkBusy)] (fun t => t.softReset ty inst)
  else if fixedEn ty inst then lock s
  else if bit val 0 then
    lock ((when (!(s.hdr ty inst).en) (fun t => t.enSet ty inst) s).modHdr ty inst (fun h => { h with en := true }))
  else s.checked fn ty inst [(s.blkBusy ty inst, Code.blkBusy)]
    (fun t => lock ((t.enClear ty inst).modHdr ty inst (fun h => { h with en := false })))

/-- BLK_EN_CLEAR, BLK_EN_SET, BLK_SOFT_RESET, BLK_LOCK: BLK_CTRL written with the one field. -/
def execBlkEnClear (fn ty inst : Nat) (s : State) : Host.Outcome State Fault Refusal :=
  onUnit (decide (fn < 18)) (s.onWrite fn ty inst 0x008 (fun t => t.wBlkCtrl fn ty inst 0))
def execBlkEnSet (fn ty inst : Nat) (s : State) : Host.Outcome State Fault Refusal :=
  onUnit (decide (fn < 18)) (s.onWrite fn ty inst 0x008 (fun t => t.wBlkCtrl fn ty inst 1))
def execBlkSoftReset (fn ty inst : Nat) (s : State) : Host.Outcome State Fault Refusal :=
  onUnit (decide (fn < 18)) (s.onWrite fn ty inst 0x008 (fun t => t.wBlkCtrl fn ty inst 2))
def execBlkLock (fn ty inst : Nat) (s : State) : Host.Outcome State Fault Refusal :=
  onUnit (decide (fn < 18)) (s.onWrite fn ty inst 0x008 (fun t => t.wBlkCtrl fn ty inst (4 + b2n (t.hdr ty inst).en)))

/-- SOFT_RESET_DONE: the reset under way on a page completes. -/
def State.softResetDone (s : State) (ty inst : Nat) : State :=
  if (s.hdr ty inst).resetBusy then
    (if ty = Ty.pe ∨ ty = Ty.lvl then s.resetRegs ty inst else s).modHdr ty inst (fun h => { h with resetBusy := false })
  else s
def execSoftResetDone (ty inst : Nat) (s : State) : Host.Outcome State Fault Refusal :=
  onUnit (mapped ty inst) (s.softResetDone ty inst)

/-- A write of BLK_IRQ_STATUS: W1C. -/
def State.wIrqStatus (s : State) (ty inst val : Nat) : State :=
  s.modHdr ty inst (fun h => { h with irqStatus := clearMask h.irqStatus val })
/-- A write of BLK_IRQ_ENABLE: defined bits only; a message for each enable written while its cause is set (R93). -/
def State.wIrqEnable (s : State) (ty inst val : Nat) : State :=
  let h := s.hdr ty inst
  let en := val &&& causesOf ty
  (s.modHdr ty inst (fun h => { h with irqEnable := en })).pageMsgs ty inst (risen (h.irqStatus &&& h.irqEnable) (h.irqStatus &&& en))
/-- A write of BLK_IRQ_SET: defined bits only. -/
def State.wIrqSet (s : State) (ty inst val : Nat) : State := s.cause ty inst (val &&& causesOf ty)

def execBlkIrqSet (fn ty inst val : Nat) (s : State) : Host.Outcome State Fault Refusal :=
  onUnit (decide (fn < 18)) (s.onWrite fn ty inst 0x018 (fun t => t.wIrqSet ty inst val))
def execBlkIrqEnableWrite (fn ty inst val : Nat) (s : State) : Host.Outcome State Fault Refusal :=
  onUnit (decide (fn < 18)) (s.onWrite fn ty inst 0x014 (fun t => t.wIrqEnable ty inst val))

/-! ### Registers without a row of their own -/

/-- FCU_P_QUEUE (R425): the queue is a stream queue of the partition's site. -/
def State.wPQueue (s : State) (fn r st val : Nat) : State :=
  s.checked fn Ty.fcu r [(bit val 31 && !s.streamQueueOk st (bits val 0 20), Code.ownerConflict)]
    (fun t => t.modPart r st (fun p => { p with queue := bits val 0 20, qValid := bit val 31 }))

/-- FCU_SCRAMBLE_BASE: the area lies in the general units of bank memory; a change unloads every table (11 R247). -/
def State.wScrambleBase (s : State) (fn r val : Nat) : State :=
  let a := bits val 0 27
  s.checked fn Ty.fcu r
    [(a != (s.fcu r).scrBase && allSites.any (fun i => (s.site i).fcuMode == 3 && !s.siteIdle i), Code.blkBusy),
     (decide (a % 4096 ≠ 0) || !s.granted 16 (bankBase + a) 4096, Code.paramRange)]
    (fun t => if a = (t.fcu r).scrBase then t
      else forEach allSites (fun i u => u.modPart r i (fun p => { p with table := none })) (t.modFcu r (fun u => { u with scrBase := a })))

/-- PE_STATUS: W1C of SENSE_FALLBACK. -/
def State.wPeStatus (s : State) (ch val : Nat) : State :=
  s.modChan ch (fun c => { c with senseFb := c.senseFb && !bit val 7 })
/-- SEC_TAMPER_STATUS: W1C of SEEN. -/
def State.wTamperStatus (s : State) (val : Nat) : State :=
  s.modSec (fun x => { x with tSeen := clearMask x.tSeen (bits val 8 5) })

/-- QMGR_DESC_SEL: a site names a queue of its range (15 R333). -/
def State.wDescSel (s : State) (fn val : Nat) : State :=
  let q := bits val 0 20
  s.checked fn Ty.qmgr 0 [(fn != 0 && s.qOwner q != ownerOfFn fn, Code.ownerConflict)]
    (fun t => t.modFn fn (fun f => { f with descSel := q }))
/-- QMGR_DESC_k. -/
def State.wDesc (s : State) (fn k val : Nat) : State :=
  s.modFn fn (fun f => match k with
    | 0 => { f with desc0 := val % 2 ^ 32 } | 1 => { f with desc1 := val % 2 ^ 32 }
    | 2 => { f with desc2 := val % 2 ^ 32 } | _ => { f with desc3 := val % 2 ^ 32 })
/-- QMGR_DESC_CMD: OP 1 READ, 2 WRITE; the others rejected, LAST_ERR holding the code. -/
def State.wDescCmd (s : State) (fn val : Nat) : State :=
  match bits val 0 2 with
  | 1 => s.descRead fn
  | 2 => s.descWrite fn
  | _ => (s.modFn fn (fun f => { f with descErr := Code.paramRange })).raise Code.paramRange Ty.qmgr 0 (siteOfFn fn)

/-! ### Every register write by page -/

def State.writeGlb (s : State) (fn off val : Nat) : State :=
  match off with
  | 0x040 => s.wModeCtrl val
  | 0x048 => s.wSafeCause val
  | 0x050 => s.stageLo fn Ty.glb 0 0x050 val
  | 0x054 => s.wHostTime fn val
  | _ => if 0x400 ≤ off then s.wGlbGroup off val else s
def State.writeSync (s : State) (fn off val : Nat) : State :=
  if off = 0x044 then s.wSyncCtrl val
  else if off = 0x048 then s.wSyncDelay val
  else if 0x060 ≤ off ∧ off < 0x0E0 then
    match (off - 0x060) % 0x20 with
    | 0x00 => s.wTrigIn fn ((off - 0x060) / 0x20) val
    | 0x04 => s.wTrigInQueue fn ((off - 0x060) / 0x20) val
    | _ => s
  else if 0x0E0 ≤ off ∧ off < 0x120 then
    match (off - 0x0E0) % 0x10 with
    | 0x00 => s.wTrigOut fn ((off - 0x0E0) / 0x10) val
    | 0x04 => s.wTrigOutOffset fn ((off - 0x0E0) / 0x10) val
    | 0x08 => s.wTrigOutWidth fn ((off - 0x0E0) / 0x10) val
    | _ => s
  else s
def State.writeSec (s : State) (fn off val : Nat) : State :=
  match off with
  | 0x048 => s.wLifecycle fn val
  | 0x04C => s.wTamperStatus val
  | 0x050 => s.wTamperCtrl fn val
  | 0x058 => s.wSealedSites fn val
  | _ => s
def State.writeSite (s : State) (fn st off val : Nat) : State :=
  match off with
  | 0x040 => s.wSiteCtrl st val
  | 0x044 => s.wBurstCmd st val
  | 0x04C => s.wLclkDiv fn st val
  | 0x050 => s.wFrameGroup fn st val
  | 0x054 => s.wLatePolicy fn st val
  | 0x058 => s.wLeadTime fn st val
  | 0x078 => s.wCluMask fn st val
  | 0x088 => s.wQueueRange fn st false val
  | 0x08C => s.wQueueRange fn st true val
  | 0x090 => s.wLogQueue fn st val
  | 0x094 => s.wCplQueue fn st val
  | _ =>
    if 0x060 ≤ off ∧ off < 0x078 then s.wChMask fn st ((off - 0x060) / 4) val
    else if 0x07C ≤ off ∧ off < 0x088 then s.wTeMask fn st ((off - 0x07C) / 4) val
    else if 0x400 ≤ off then s.wSiteGroup st off val
    else s
def State.writeQmgr (s : State) (fn off val : Nat) : State :=
  match off with
  | 0x044 => s.wDescSel fn val
  | 0x048 => s.wDesc fn 0 val | 0x04C => s.wDesc fn 1 val | 0x050 => s.wDesc fn 2 val | 0x054 => s.wDesc fn 3 val
  | 0x058 => s.wDescCmd fn val
  | _ => s
def State.writeTg (s : State) (fn ch off val : Nat) : State :=
  match off with
  | 0x040 => s.wTgCtrl fn ch val
  | 0x044 => s.stageLo fn Ty.tg ch 0x044 val
  | 0x048 => s.wPeriodHi fn ch val
  | 0x04C => s.wTgStatus ch val
  | 0x050 => s.stageLo fn Ty.tg ch 0x050 val
  | 0x054 => s.wSymHi fn ch val
  | 0x058 => s.wFreerun fn ch val
  | _ =>
    if 0x400 ≤ off ∧ off < 0xC00 then s.wEdge fn ch ((off - 0x400) / 4) val
    else if 0xC00 ≤ off ∧ off < 0xD00 then s.wFmt fn ch ((off - 0xC00) / 4) val
    else s
def State.writeCmp (s : State) (fn ch off val : Nat) : State :=
  match off with
  | 0x040 => s.wCmpCtrl fn ch val
  | 0x044 => s.wCmpStatus ch val
  | 0x048 => s.wCmpMask ch val
  | 0x050 => s.wTdcCtrl fn ch val
  | 0x054 => s.stageLo fn Ty.cmp ch 0x054 val
  | 0x058 => s.wFailHi fn ch val
  | _ => s
def State.writePe (s : State) (fn ch off val : Nat) : State :=
  match off with
  | 0x040 => s.wPeCtrl fn ch val
  | 0x044 => s.wPeStatus ch val
  | 0x048 => s.wPeLoad fn ch val
  | 0x04C => s.wPePmu fn ch val
  | 0x050 => s.wPmuRange fn ch val
  | 0x054 => s.wOpenWire fn ch val
  | 0x058 => s.wClampStatus ch val
  | 0x05C => s.wContact fn ch val
  | _ => s
def State.writeLvl (s : State) (fn ch off val : Nat) : State :=
  match off with
  | 0x080 => s.wLvlPush fn ch val
  | 0x084 => s.wLvlCtrl ch val
  | 0x088 => s.wLvlStatus ch val
  | _ => if 0x040 ≤ off ∧ off < 0x068 then s.wLvlDac ch ((off - 0x040) / 4) val else s
def State.writeMadc (s : State) (fn k off val : Nat) : State :=
  match off with
  | 0x040 => s.wMadcCtrl fn k val
  | 0x044 => s.wMadcMask k val
  | 0x048 => s.wMadcSrc fn k val
  | 0x054 => s.wMadcQueue fn k val
  | _ => s
def State.writeAcq (s : State) (fn k off val : Nat) : State :=
  match off with
  | 0x040 => s.wAcqCtrl fn k val
  | 0x048 => s.wAcqType fn k val
  | 0x04C => s.wAcqSrc fn k val
  | 0x050 => s.wAcqThresh fn k false val
  | 0x054 => s.wAcqThresh fn k true val
  | 0x058 => s.stageLo fn Ty.acq k 0x058 val
  | 0x05C => s.wAcqLimit fn k 0x058 val
  | 0x060 => s.stageLo fn Ty.acq k 0x060 val
  | 0x064 => s.wAcqLimit fn k 0x060 val
  | 0x068 => s.wAcqPre fn k val
  | 0x06C => s.wAcqPost fn k val
  | 0x070 => s.wAcqQueue fn k val
  | 0x07C => s.wAcqArm fn k val
  | _ => s
def State.writeHist (s : State) (fn k off val : Nat) : State :=
  match off with
  | 0x040 => s.wHistCtrl fn k val
  | 0x044 => s.wHistSrc fn k val
  | 0x048 => s.stageLo fn Ty.hist k 0x048 val
  | 0x04C => s.wHistOrigin fn k val
  | 0x050 => s.wHistWidth fn k val
  | _ => s
def State.writeFcu (s : State) (fn r off val : Nat) : State :=
  if off = 0x040 then s.wFcuCtrl fn r val
  else if off = 0x04C then s.wScrambleBase fn r val
  else if 0x400 ≤ off ∧ off < 0x800 then
    let st := (off - 0x400) / 0x40
    match (off - 0x400) % 0x40 with
    | 0x00 => s.wPCtrl fn r st val
    | 0x04 => s.wPN fn r st val
    | 0x08 => s.wPQueue fn r st val
    | 0x0C => if (siteOfFn fn).isNone then s.wPSize fn r st val else s.deny fn Ty.fcu r off true
    | _ => s
  else s

/-- A write of the word `val` to a register of a page the writer has reached: RO registers and reserved offsets ignore
it (R85, R87). -/
def State.writeReg (s : State) (fn ty inst off val : Nat) : State :=
  let val := val % 2 ^ 32
  if off < 0x040 then
    match off with
    | 0x008 => s.wBlkCtrl fn ty inst val
    | 0x010 => s.wIrqStatus ty inst val
    | 0x014 => s.wIrqEnable ty inst val
    | 0x018 => s.wIrqSet ty inst val
    | 0x020 => s.wOwner fn ty inst val
    | _ => s
  else match ty with
  | 0x00 => s.writeGlb fn off val
  | 0x03 => s.writeSync fn off val
  | 0x04 => s.writeSec fn off val
  | 0x06 => s.writeSite fn inst off val
  | 0x07 => s.writeQmgr fn off val
  | 0x08 => if off = 0x04C then s.wBmemTest fn val else s
  | 0x0A => if off = 0x040 then s.wErrCtrl fn val else s
  | 0x0B => if off = 0x060 then s.wHlthCtrl fn val else s
  | 0x0C => if off = 0x040 then s.wCalCtrl inst val else if off = 0x060 then s.wDeltaT fn inst val else s
  | 0x11 => s.writeTg fn inst off val
  | 0x12 => s.writeCmp fn inst off val
  | 0x13 => s.writePe fn inst off val
  | 0x14 => s.writeLvl fn inst off val
  | 0x15 => s.writeMadc fn inst off val
  | 0x16 => s.writeAcq fn inst off val
  | 0x17 => s.writeHist fn inst off val
  | 0x18 => s.writeFcu fn inst off val
  | 0x1B => if off = 0x048 then s.wThermal fn inst val else s
  | _ => s

/-- A unicast register write by a function (R86, R87, R89). -/
def State.regWrite (s : State) (fn ty inst off val : Nat) : State :=
  s.onWrite fn ty inst off (fun t => t.writeReg fn ty inst off val)

/-! ### Broadcast (R94, R95) -/

/-- The words of the writer's group g. -/
def State.groupWordOf (s : State) (fn g i : Nat) : Nat :=
  match siteOfFn fn with
  | some k => Tbl.get 0 (s.site k).groups (16 * g + i)
  | none => Tbl.get 0 s.glb.groups (16 * g + i)
/-- Is an instance of a block in the matching mask of the writer's group? -/
def State.inGroup (s : State) (fn g ty i : Nat) : Bool :=
  if isChPage ty then bit (s.groupWordOf fn g (i / 32)) (i % 32)
  else if ty = Ty.te then bit (s.groupWordOf fn g (7 + i / 32)) (i % 32)
  else bit (s.groupWordOf fn g 6) i
/-- Blocks that a group mask selects in. -/
def hasMask (ty : Nat) : Bool :=
  isChPage ty || ty == Ty.te || [Ty.clu, Ty.madc, Ty.acq, Ty.hist].contains ty
/-- The function owns the page. -/
def State.ownsPage (s : State) (fn ty inst : Nat) : Bool := fn != 17 && (s.hdr ty inst).owner == ownerOfFn fn

/-- A broadcast write: the masks are read first; each owned target takes the write as a unicast one, each other target is
skipped and counted. -/
def State.broadcast (s : State) (fn ty inst off val : Nat) : State :=
  if ¬ s.fnUp fn then s
  else if (s.fn fn).inReset then s.refuseReset fn
  else if ¬ isBcast ty inst ∨ (inst ≠ 0xFF ∧ ¬ hasMask ty) then s.denyUnmapped fn ty inst off true
  else
    let all := List.range (Ty.count ty)
    let targets := if inst = 0xFF then all.filter (fun i => s.ownsPage fn ty i) else all.filter (fun i => s.inGroup fn (inst - 0xE0) ty i)
    let own := targets.filter (fun i => s.ownsPage fn ty i)
    let s1 := forEach own (fun i t => t.regWrite fn ty i off val) s
    s1.modFn fn (fun f => { f with bcastSkip := satAdd sat32 f.bcastSkip (targets.length - own.length) })

/-- BROADCAST_WRITE to instance 0xE0 + g or 0xFF of a block type. -/
def execBroadcastWrite (fn ty inst off val : Nat) (s : State) : Host.Outcome State Fault Refusal :=
  onUnit (decide (fn < 18)) (s.broadcast fn (ty % 256) (inst % 256) (off % 4096 / 4 * 4) val)

/-! ### Writes and reads by window offset (R85, R86) -/

def addrTy (a : Nat) : Nat := bits a 20 8
def addrInst (a : Nat) : Nat := bits a 12 8
def addrOff (a : Nat) : Nat := bits a 0 12

/-- The words a request covers: byte enables of whole aligned words, in one run from its first word on; 0 for any
other (R86). -/
def accWords (a be : Nat) : Nat :=
  let n := (Nat.log2 be + 1) / 4
  if a % 4 = 0 ∧ 0 < be ∧ be = 2 ^ (4 * n) - 1 then n else 0
/-- A partial or misaligned access: logged REG_WIDTH against the page, or against GLB where no page is mapped. -/
def State.badWidth (s : State) (fn a : Nat) (write : Bool) : State :=
  let m := mapped (addrTy a) (addrInst a)
  s.raise Code.regWidth (if m then addrTy a else Ty.glb) (if m then addrInst a else 0) (siteOfFn fn) (a % 2 ^ 28 + b2n write * 2 ^ 31)

/-- One word of a write at window offset `a`. -/
def State.wordWrite (s : State) (fn a val : Nat) : State :=
  if isBcast (addrTy a) (addrInst a) then s.broadcast fn (addrTy a) (addrInst a) (addrOff a) val
  else s.regWrite fn (addrTy a) (addrInst a) (addrOff a) val

/-- REG_WRITE: a write at window offset `a` with byte enables `be`, one access for each word in ascending order; the
word at offset 4 i of the request is bits [32 i + 31 : 32 i] of `val` (R86). -/
def State.winWrite (s : State) (fn a be val : Nat) : State :=
  if ¬ s.fnUp fn then s
  else if (s.fn fn).inReset then s.refuseReset fn
  else if accWords a be = 0 then s.badWidth fn a true
  else forEach (List.range (accWords a be)) (fun i t => t.wordWrite fn (a + 4 * i) (bits val (32 * i) 32)) s

def execRegWrite (fn a be val : Nat) (s : State) : Host.Outcome State Fault Refusal :=
  onUnit (decide (fn < 18)) (s.winWrite fn a be val)

/-- One word of a read at window offset `a`. -/
def State.wordRead (s : State) (fn a : Nat) : State :=
  s.onRead fn (addrTy a) (addrInst a) (addrOff a) (fun t => t.readReg fn (addrTy a) (addrInst a) (addrOff a))

/-- A read at window offset `a`, one access for each word in ascending order (R86). -/
def State.winRead (s : State) (fn a be : Nat) : State :=
  if ¬ s.fnUp fn then s
  else if (s.fn fn).inReset then s.refuseReset fn
  else if accWords a be = 0 then (s.badWidth fn a false).emit (.word fn 0)
  else forEach (List.range (accWords a be)) (fun i t => t.wordRead fn (a + 4 * i)) s

/-- RC_READ: a register read; RC fields clear. -/
def execRcRead (fn a be : Nat) (s : State) : Host.Outcome State Fault Refusal := onUnit (decide (fn < 18)) (s.winRead fn a be)

/-- PAIR_LO_WRITE, PAIR_HI_COMMIT and PAIR_LO_READ of the pair whose _LO register stands at `lo` (R88). -/
def execPairLoWrite (fn ty inst lo val : Nat) (s : State) : Host.Outcome State Fault Refusal :=
  onUnit (decide (fn < 18) && Ty.pairLo ty lo) (s.regWrite fn ty inst lo val)
def execPairHiCommit (fn ty inst lo val : Nat) (s : State) : Host.Outcome State Fault Refusal :=
  onUnit (decide (fn < 18) && Ty.pairLo ty lo) (s.regWrite fn ty inst (lo + 4) val)
def execPairLoRead (fn ty inst lo : Nat) (s : State) : Host.Outcome State Fault Refusal :=
  onUnit (decide (fn < 18) && Ty.pairLo ty lo)
    (s.onRead fn ty inst lo (fun t => t.readReg fn ty inst lo))

end Sys2Proof.Machine
end

