-- ==== Sys2Proof/Machine/Bind.lean ====
section
/-! DEFINITION. Family: BIND, the preparation of one burst of a sealed site (17_security.md R369, R370; 06 R103, R125). -/

namespace Sys2Proof.Machine

/-- The writer under which setup records stage and commit; no PCIe function has this number. -/
def bindFn : Nat := 19

/-- QUEUE is an enabled, empty, unreleased segment queue of the site with its body in the site's HBM granules and room for
`n` descriptors. -/
def State.bindQueueOk (s : State) (st q n : Nat) : Bool :=
  let d := s.queue q
  decide (q < 2 ^ 20) && s.qOwner q == st && d.type == 1 && d.enable && !d.released && d.used == 0
    && decide (d.base + 64 * d.slots ≤ hbmTop) && s.granted st d.base (64 * d.slots) && decide (n < d.slots)

/-- PIN_MAP: entries below PIN_COUNT strictly increasing channels of the site, the others 0xFF. -/
def State.pinMapOk (s : State) (st pins : Nat) (m : List Nat) : Bool :=
  (List.range 192).all (fun k =>
    if k < pins then decide (m.getD k 0 < nChan) && s.chOwner (m.getD k 0) == st && (k == 0 || decide (m.getD (k - 1) 0 < m.getD k 0))
    else m.getD k 0 == 0xFF)

/-- The checks of BIND in their order (step 1). -/
def State.bindCheck (s : State) (st q : Nat) (m : List Nat) (img : List Byte) : Nat :=
  let x := s.secSite st
  firstFail [
    (!x.loaded, Code.secState),
    (!s.siteIdle st || x.unload.isSome, Code.blkBusy),
    (!s.expiryOk x.expiry, Code.qfyExpired),
    (x.needIde && Tbl.get 0 s.sec.ide (st + 1) != 1, Code.qfyIde),
    (x.allow == 0, Code.qfyBursts),
    (!s.bindQueueOk st q (fld img 0x0C 4), Code.qfyBind),
    (!s.pinMapOk st (fld img 8 4) m, Code.qfyBind)]

/-- One setup record written under the ordinary range rules: the register becomes sealed when the write is not rejected
(a rejection counts an error on its page). Where the mode drops a site's writes to these pages (02 R34) the record is
rejected. The Bool says whether it was taken. -/
def State.setupWrite (s : State) (st ty ch off val : Nat) : State × Bool :=
  if ¬ s.inMode [.ready, .run] then (s.deny (st + 1) ty ch off true, false) else
  let old := (s.hdr ty ch).errCount
  let s1 := (s.modHdr ty ch (fun h => { h with errCount := 0 })).writeReg bindFn ty ch off val
  let n := (s1.hdr ty ch).errCount
  let s2 := s1.modHdr ty ch (fun h => { h with errCount := satAdd sat16 old n })
  if n ≠ 0 then (s2, false)
  else (s2.modSecSite st (fun x => { x with
    regs := if x.regs.contains (pageOff ty ch off) then x.regs else x.regs ++ [pageOff ty ch off] }), true)

/-- Step 2: the setup records in order; the index of the first that is rejected. -/
def State.setupAll (s : State) (st : Nat) (m : List Nat) (pins : Nat) : Nat → List (Nat × Nat × Nat × Nat) → State × Option Nat
  | _, [] => (s, none)
  | i, (ty, pin, off, val) :: t =>
    if pins ≤ pin then (s, some i)
    else
      let r := s.setupWrite st ty (m.getD pin 0) off val
      if r.2 then r.1.setupAll st m pins (i + 1) t else (r.1, some i)

/-- Step 3: a descriptor of the image bound to the site, the channels of PIN_MAP, BASE_TT and the stream section. -/
def bindDesc (g : Seg) (st base stream : Nat) (m : List Nat) : List Byte :=
  let w1 := g.w 1
  let w1 := w1 / 16 * 16 + st
  let w1 := if bit w1 12 then w1 else w1 + 4096
  let start := (base + g.w 2 + g.w 3 * 2 ^ 32) % 2 ^ 64
  let ip := (stream + g.w 4 + bits (g.w 5) 0 8 * 2 ^ 32) % 2 ^ 40
  let pins := (List.range 192).filter (fun k => bit (g.w (8 + k / 32)) (k % 32))
  let mask := maskOf (pins.map (fun k => m.getD k 0))
  let body := le 4 (g.w 0) ++ le 4 w1 ++ le 8 start ++ le 4 (ip % 2 ^ 32) ++ le 4 (g.w 5 / 256 * 256 + ip / 2 ^ 32)
    ++ le 4 (g.w 6) ++ le 4 (g.w 7) ++ le 24 mask ++ le 4 (g.w 14)
  body ++ le 4 (crc32 body)

/-- BIND of site `st` under request `d`. -/
def State.bind (s : State) (d : Doe) : State :=
  let st := d.site
  let x := s.secSite st
  let img := s.bytes x.dest x.len
  let base := d.num 16 8
  let q := d.num 24 4
  let m := (List.range 192).map (fun k => d.num (28 + k) 1)
  let code := s.bindCheck st q m img
  if code ≠ 0 then s.doeReply d code
  else
    let r := s.setupAll st m (fld img 8 4) 0 ((List.range (fld img 0x20 4)).map (setupRec img))
    let r := (r.1.bankHits x.dest x.len false, r.2)
    match r.2 with
    | some i => r.1.doeReply d Code.qfyBind (le 4 i)
    | none =>
      let n := fld img 0x0C 4
      let descs := (List.range n).map (fun i => bindDesc (imageDesc img i) st base (x.dest + fld img 0x14 4) m)
      let s1 := r.1.produce q descs
      (s1.modSecSite st (fun x => { x with allow := x.allow - 1, boundQ := some q })).doeReply d 0 (le 4 n)

def execBind (fn : Nat) (raw : List Byte) (s : State) : Host.Outcome State Fault Refusal :=
  onUnit (decide (fn < 18)) (s.onDoe { fn := fn, raw := raw } 0x02 1 204 true (fun d t => t.bind d))

end Sys2Proof.Machine
end

