-- ==== Sys2Proof/Machine/Mailbox.lean ====
section
/-! DEFINITION. Family: events after which a mailbox goes on: a request of the Foyris protocol that waits for memory or for its
turn is handled (17_security.md R366, R367). -/

namespace Sys2Proof.Machine

/-- A request that waited for its mailbox is handled. -/
def State.doeServe (s : State) (d : Doe) : State :=
  match d.op with
  | 0x01 => s.onDoe d 0x01 1 24 true (fun d t => t.load d)
  | 0x02 => s.onDoe d 0x02 1 204 true (fun d t => t.bind d)
  | 0x03 => s.onDoe d 0x03 1 0 true (fun d t => t.unload d)
  | 0x04 => s.onDoe d 0x04 0 0 true (fun d t => t.doeStatus d)
  | 0x10 => s.onDoe d 0x10 2 8 true (fun d t => t.fwInstall d)
  | 0x11 => s.onDoe d 0x11 2 8 false (fun d t => t.fwRecover d)
  | 0x12 => s.onDoe d 0x12 2 4 true (fun d t => t.floorCommit d)
  | _ => s.doeOther d

/-- A LOAD that waits goes on once HBM of its site is cleared. -/
def State.loadResume (s : State) (d : Doe) : State :=
  if s.loadStalls d.site then s else (s.modSec (fun x => { x with loadWait := x.loadWait.erase d })).load d
/-- A request that waits for its mailbox is handled once that is free. -/
def State.doeResume (s : State) (d : Doe) : State :=
  if s.doeBusy d.fn then s else (s.modSec (fun x => { x with doeWait := x.doeWait.erase d })).doeServe d

/-- LOADs that wait for memory, then requests that wait for their mailbox, oldest first. -/
def State.doeNext (s : State) : State :=
  let s1 := s.sec.loadWait.foldl (fun t d => t.loadResume d) s
  s1.sec.doeWait.foldl (fun t d => t.doeResume d) s1

/-- HBM_CLEAR_DONE (15 R312). -/
def execHbmClearDone (failed : Nat) (s : State) : Host.Outcome State Fault Refusal := .next (s.hbmCleared failed).doeNext

/-- REKEY_DONE. The internal check failure of R385 has no row of its own: the model lets the security engine's come with this one
(DESIGN CHOICE, log entry 55). -/
def execRekeyDone (h : Option Nat) (s : State) : Host.Outcome State Fault Refusal :=
  match h with
  | some h => onUnit (decide (h < 17)) (s.rekeyDone h).doeNext
  | none => .next (if s.stage = .on then s.retireUnit kSecurity 0 false else s)

/-- RESULT_FRAME_CLOSE (R372). -/
def execResultFrameClose (st kind inst : Nat) (s : State) : Host.Outcome State Fault Refusal :=
  onUnit (decide (st < nSite ∧ kind < 3 ∧ inst < (if kind = 0 then nRgn else nClu))) (s.frameDue st kind inst).doeNext

/-- NOR_RECORD_WRITE_DONE (14 R299). -/
def execNorRecordWriteDone (s : State) : Host.Outcome State Fault Refusal := .next s.norDone.doeNext

end Sys2Proof.Machine
end

