-- ==== Sys2Proof/Machine/Dispatch.lean ====
section
/-! DEFINITION. One arm per command: the call of its meaning. -/

namespace Sys2Proof.Machine

/-- The effect of a command on everything but the queue of waiting commands. -/
def exec (i : Instr) (s : State) : Host.Outcome State Fault Refusal :=
  match i with
  | .powerUpStart vin => Sys2Proof.Machine.execPowerUpStart vin s
  | .pwrGood bifur smbAddr => Sys2Proof.Machine.execPwrGood bifur smbAddr s
  | .pllLock => Sys2Proof.Machine.execPllLock s
  | .pllLockTimeout => Sys2Proof.Machine.execPllLockTimeout s
  | .bmemClearDone ok => Sys2Proof.Machine.execBmemClearDone ok s
  | .hbmClearDone failed => Sys2Proof.Machine.execHbmClearDone failed s
  | .fwVerifyDone sigA sigB => Sys2Proof.Machine.execFwVerifyDone sigA sigB s
  | .mcLoadDone sigs => Sys2Proof.Machine.execMcLoadDone sigs s
  | .retireLoad => Sys2Proof.Machine.execRetireLoad s
  | .calLoad => Sys2Proof.Machine.execCalLoad s
  | .bootReady => Sys2Proof.Machine.execBootReady s
  | .warmupSample => Sys2Proof.Machine.execWarmupSample s
  | .warmupTimeout => Sys2Proof.Machine.execWarmupTimeout s
  | .powerFailWarning vin => Sys2Proof.Machine.execPowerFailWarning vin s
  | .loadShedDone => Sys2Proof.Machine.execLoadShedDone s
  | .powerWarnRelease vin => Sys2Proof.Machine.execPowerWarnRelease vin s
  | .undervoltageLockout vin => Sys2Proof.Machine.execUndervoltageLockout vin s
  | .pwrEnLow => Sys2Proof.Machine.execPwrEnLow s
  | .powerStageStop => Sys2Proof.Machine.execPowerStageStop s
  | .pwrOvercurrent => Sys2Proof.Machine.execPwrOvercurrent s
  | .pwrOvervoltage vin => Sys2Proof.Machine.execPwrOvervoltage vin s
  | .pwrOvRelease vin => Sys2Proof.Machine.execPwrOvRelease vin s
  | .pwrOvertemp => Sys2Proof.Machine.execPwrOvertemp s
  | .pwrOtClear => Sys2Proof.Machine.execPwrOtClear s
  | .telemetryRefresh mv ma mw groups temps ppm => Sys2Proof.Machine.execTelemetryRefresh mv ma mw groups temps ppm s
  | .page v => Sys2Proof.Machine.execPage v s
  | .clearFaults => Sys2Proof.Machine.execClearFaults s
  | .capability => Sys2Proof.Machine.execCapability s
  | .vinOvFaultLimit => Sys2Proof.Machine.execVinOvFaultLimit s
  | .vinUvWarnLimit => Sys2Proof.Machine.execVinUvWarnLimit s
  | .vinUvFaultLimit => Sys2Proof.Machine.execVinUvFaultLimit s
  | .statusByte => Sys2Proof.Machine.execStatusByte s
  | .statusWord => Sys2Proof.Machine.execStatusWord s
  | .statusInput => Sys2Proof.Machine.execStatusInput s
  | .statusTemperature => Sys2Proof.Machine.execStatusTemperature s
  | .statusCml => Sys2Proof.Machine.execStatusCml s
  | .readVin => Sys2Proof.Machine.execReadVin s
  | .readIin => Sys2Proof.Machine.execReadIin s
  | .readTemperature1 => Sys2Proof.Machine.execReadTemperature1 s
  | .readPout => Sys2Proof.Machine.execReadPout s
  | .readPin => Sys2Proof.Machine.execReadPin s
  | .pmbusRevision => Sys2Proof.Machine.execPmbusRevision s
  | .mfrId => Sys2Proof.Machine.execMfrId s
  | .mfrModel => Sys2Proof.Machine.execMfrModel s
  | .pmbusInvalid kind => Sys2Proof.Machine.execPmbusInvalid kind s
  | .smbusAlertResponse => Sys2Proof.Machine.execSmbusAlertResponse s
  | .smbusTimeout => Sys2Proof.Machine.execSmbusTimeout s
  | .clockLoss => Sys2Proof.Machine.execClockLoss s
  | .pllUnlock => Sys2Proof.Machine.execPllUnlock s
  | .pllRelock => Sys2Proof.Machine.execPllRelock s
  | .analogLinkWatchdog die => Sys2Proof.Machine.execAnalogLinkWatchdog die s
  | .linkRetry d => Sys2Proof.Machine.execLinkRetry d s
  | .linkDown d => Sys2Proof.Machine.execLinkDown d s
  | .modeReqSafe fn force => Sys2Proof.Machine.execModeReqSafe fn force s
  | .modeReqReady fn force => Sys2Proof.Machine.execModeReqReady fn force s
  | .modeReqCal fn => Sys2Proof.Machine.execModeReqCal fn s
  | .modeReqRun fn => Sys2Proof.Machine.execModeReqRun fn s
  | .modeReqService fn => Sys2Proof.Machine.execModeReqService fn s
  | .modeReqIllegal fn val => Sys2Proof.Machine.execModeReqIllegal fn val s
  | .modeTransitionDone => Sys2Proof.Machine.execModeTransitionDone s
  | .perstAssert => Sys2Proof.Machine.execPerstAssert s
  | .pcieLinkDown e => Sys2Proof.Machine.execPcieLinkDown e s
  | .functionReset fn how => Sys2Proof.Machine.execFunctionReset fn how s
  | .functionResetDone fn => Sys2Proof.Machine.execFunctionResetDone fn s
  | .msixVectorUnmask fn v => Sys2Proof.Machine.execMsixVectorUnmask fn v s
  | .regWrite fn a be val => Sys2Proof.Machine.execRegWrite fn a be val s
  | .rcRead fn a be => Sys2Proof.Machine.execRcRead fn a be s
  | .pairLoWrite fn ty inst lo val => Sys2Proof.Machine.execPairLoWrite fn ty inst lo val s
  | .pairHiCommit fn ty inst lo val => Sys2Proof.Machine.execPairHiCommit fn ty inst lo val s
  | .pairLoRead fn ty inst lo => Sys2Proof.Machine.execPairLoRead fn ty inst lo s
  | .blkEnClear fn ty inst => Sys2Proof.Machine.execBlkEnClear fn ty inst s
  | .blkEnSet fn ty inst => Sys2Proof.Machine.execBlkEnSet fn ty inst s
  | .blkSoftReset fn ty inst => Sys2Proof.Machine.execBlkSoftReset fn ty inst s
  | .softResetDone ty inst => Sys2Proof.Machine.execSoftResetDone ty inst s
  | .blkLock fn ty inst => Sys2Proof.Machine.execBlkLock fn ty inst s
  | .blkIrqSet fn ty inst val => Sys2Proof.Machine.execBlkIrqSet fn ty inst val s
  | .blkIrqEnableWrite fn ty inst val => Sys2Proof.Machine.execBlkIrqEnableWrite fn ty inst val s
  | .blkOwnerWrite fn ty inst val => Sys2Proof.Machine.execBlkOwnerWrite fn ty inst val s
  | .broadcastWrite fn ty inst off val => Sys2Proof.Machine.execBroadcastWrite fn ty inst off val s
  | .siteChMaskWrite fn st k val => Sys2Proof.Machine.execSiteChMaskWrite fn st k val s
  | .siteCluMaskWrite fn st val => Sys2Proof.Machine.execSiteCluMaskWrite fn st val s
  | .siteTeMaskWrite fn st k val => Sys2Proof.Machine.execSiteTeMaskWrite fn st k val s
  | .siteQueueRangeWrite fn st isCount val => Sys2Proof.Machine.execSiteQueueRangeWrite fn st isCount val s
  | .burstArm fn st frame => Sys2Proof.Machine.execBurstArm fn st frame s
  | .burstDisarm fn st => Sys2Proof.Machine.execBurstDisarm fn st s
  | .burstStart fn st t24 => Sys2Proof.Machine.execBurstStart fn st t24 s
  | .burstStop fn st => Sys2Proof.Machine.execBurstStop fn st s
  | .burstAbort fn st => Sys2Proof.Machine.execBurstAbort fn st s
  | .burstAck fn st => Sys2Proof.Machine.execBurstAck fn st s
  | .burstCmdInvalid fn st op => Sys2Proof.Machine.execBurstCmdInvalid fn st op s
  | .burstRunEntry st => Sys2Proof.Machine.execBurstRunEntry st s
  | .burstDrainEntry st => Sys2Proof.Machine.execBurstDrainEntry st s
  | .stopDrainEntry st => Sys2Proof.Machine.execStopDrainEntry st s
  | .burstIdleEntry st => Sys2Proof.Machine.execBurstIdleEntry st s
  | .spareSwitch k => Sys2Proof.Machine.execSpareSwitch k s
  | .bsyncFrameSlot w => Sys2Proof.Machine.execBsyncFrameSlot w s
  | .syncLoss => Sys2Proof.Machine.execSyncLoss s
  | .bsyncNop => Sys2Proof.Machine.execBsyncNop s
  | .timeLoadStage t40 => Sys2Proof.Machine.execTimeLoadStage t40 s
  | .timeLoadLoad t24 => Sys2Proof.Machine.execTimeLoadLoad t24 s
  | .phaseSlewStep => Sys2Proof.Machine.execPhaseSlewStep s
  | .bsyncArm g => Sys2Proof.Machine.execBsyncArm g s
  | .startAt g t40 => Sys2Proof.Machine.execStartAt g t40 s
  | .stopAt g t40 => Sys2Proof.Machine.execStopAt g t40 s
  | .ping => Sys2Proof.Machine.execPing s
  | .trigInEdge line rising tt => Sys2Proof.Machine.execTrigInEdge line rising tt s
  | .trigOutPulse line => Sys2Proof.Machine.execTrigOutPulse line s
  | .trigOutFire fn line => Sys2Proof.Machine.execTrigOutFire fn line s
  | .segmentPlace => Sys2Proof.Machine.execSegmentPlace s
  | .dequePop e => Sys2Proof.Machine.execDequePop e s
  | .stealProbe e => Sys2Proof.Machine.execStealProbe e s
  | .segmentTake e => Sys2Proof.Machine.execSegmentTake e s
  | .dequeHandover e => Sys2Proof.Machine.execDequeHandover e s
  | .requeueSlotDrain e => Sys2Proof.Machine.execRequeueSlotDrain e s
  | .nop e => Sys2Proof.Machine.execNop e s
  | .vec e => Sys2Proof.Machine.execVec e s
  | .rpt e => Sys2Proof.Machine.execRpt e s
  | .hold e => Sys2Proof.Machine.execHold e s
  | .tset e => Sys2Proof.Machine.execTset e s
  | .lvl e => Sys2Proof.Machine.execLvl e s
  | .mark e => Sys2Proof.Machine.execMark e s
  | .sync e => Sys2Proof.Machine.execSync e s
  | .halt e => Sys2Proof.Machine.execHalt e s
  | .jmp e => Sys2Proof.Machine.execJmp e s
  | .jmpf e => Sys2Proof.Machine.execJmpf e s
  | .call e => Sys2Proof.Machine.execCall e s
  | .ret e => Sys2Proof.Machine.execRet e s
  | .loop e => Sys2Proof.Machine.execLoop e s
  | .endloop e => Sys2Proof.Machine.execEndloop e s
  | .matchVec e => Sys2Proof.Machine.execMatch e s
  | .scan e => Sys2Proof.Machine.execScan e s
  | .decomp e => Sys2Proof.Machine.execDecomp e s
  | .invalidOpcode e => Sys2Proof.Machine.execInvalidOpcode e s
  | .microNext e => Sys2Proof.Machine.execMicroNext e s
  | .microJump e => Sys2Proof.Machine.execMicroJump e s
  | .microCjump e => Sys2Proof.Machine.execMicroCjump e s
  | .microCall e => Sys2Proof.Machine.execMicroCall e s
  | .microRet e => Sys2Proof.Machine.execMicroRet e s
  | .microDispatch e => Sys2Proof.Machine.execMicroDispatch e s
  | .microUloop e => Sys2Proof.Machine.execMicroUloop e s
  | .microResume e => Sys2Proof.Machine.execMicroResume e s
  | .cacheMissFill e => Sys2Proof.Machine.execCacheMissFill e s
  | .blockPost e => Sys2Proof.Machine.execBlockPost e s
  | .engineInterruptTake e => Sys2Proof.Machine.execEngineInterruptTake e s
  | .abortTake e => Sys2Proof.Machine.execAbortTake e s
  | .machineCheck e kind => Sys2Proof.Machine.execMachineCheck e kind s
  | .reloadDone e mismatch => Sys2Proof.Machine.execReloadDone e mismatch s
  | .idleScan e bad => Sys2Proof.Machine.execIdleScan e bad s
  | .blockArrive ch => Sys2Proof.Machine.execBlockArrive ch s
  | .blockDeadline ch segId seq parityBad => Sys2Proof.Machine.execBlockDeadline ch segId seq parityBad s
  | .blockRelease ch => Sys2Proof.Machine.execBlockRelease ch s
  | .uiStart ch => Sys2Proof.Machine.execUiStart ch s
  | .edgeApply ch => Sys2Proof.Machine.execEdgeApply ch s
  | .compareEvent ch => Sys2Proof.Machine.execCompareEvent ch s
  | .comparatorCrossing ch cl rising tt => Sys2Proof.Machine.execComparatorCrossing ch cl rising tt s
  | .compareResult ch => Sys2Proof.Machine.execCompareResult ch s
  | .matchResult e => Sys2Proof.Machine.execMatchResult e s
  | .barrierComplete st b => Sys2Proof.Machine.execBarrierComplete st b s
  | .condTimeout e => Sys2Proof.Machine.execCondTimeout e s
  | .freerunStart fn ch ts sym => Sys2Proof.Machine.execFreerunStart fn ch ts sym s
  | .freerunStop fn ch ts sym => Sys2Proof.Machine.execFreerunStop fn ch ts sym s
  | .tgPeriodCommit fn ch val => Sys2Proof.Machine.execTgPeriodCommit fn ch val s
  | .tgSymmapCommit fn ch val => Sys2Proof.Machine.execTgSymmapCommit fn ch val s
  | .timesetWrite fn ch t edge val => Sys2Proof.Machine.execTimesetWrite fn ch t edge val s
  | .calSlewStep ch levels => Sys2Proof.Machine.execCalSlewStep ch levels s
  | .calStale ch => Sys2Proof.Machine.execCalStale ch s
  | .peCtrlWrite fn ch val => Sys2Proof.Machine.execPeCtrlWrite fn ch val s
  | .driverRangeDone ch => Sys2Proof.Machine.execDriverRangeDone ch s
  | .pePmuCtrlWrite fn ch val => Sys2Proof.Machine.execPePmuCtrlWrite fn ch val s
  | .pePmuRangeWrite fn ch val => Sys2Proof.Machine.execPePmuRangeWrite fn ch val s
  | .pmuOldStageOpen ch => Sys2Proof.Machine.execPmuOldStageOpen ch s
  | .pmuRangeDone ch => Sys2Proof.Machine.execPmuRangeDone ch s
  | .pmuSenseFallback ch => Sys2Proof.Machine.execPmuSenseFallback ch s
  | .pmuCompliance ch x => Sys2Proof.Machine.execPmuCompliance ch x s
  | .clampConduct ch high on => Sys2Proof.Machine.execClampConduct ch high on s
  | .protClampConduct ch high => Sys2Proof.Machine.execProtClampConduct ch high s
  | .contactTestStart fn ch pol cur => Sys2Proof.Machine.execContactTestStart fn ch pol cur s
  | .contactTestDone ch mv => Sys2Proof.Machine.execContactTestDone ch mv s
  | .lvlDacWrite fn ch d val => Sys2Proof.Machine.execLvlDacWrite fn ch d val s
  | .lvlQueuePush fn ch val => Sys2Proof.Machine.execLvlQueuePush fn ch val s
  | .lvlQueueFlush fn ch => Sys2Proof.Machine.execLvlQueueFlush fn ch s
  | .lvlEntryArrive ch => Sys2Proof.Machine.execLvlEntryArrive ch s
  | .lclkTick st => Sys2Proof.Machine.execLclkTick st s
  | .fcuRecordClose r segId seq => Sys2Proof.Machine.execFcuRecordClose r segId seq s
  | .fcuRecordMove r st => Sys2Proof.Machine.execFcuRecordMove r st s
  | .fcuPSizeWrite fn r st val => Sys2Proof.Machine.execFcuPSizeWrite fn r st val s
  | .fcuPCtrlWrite fn r st val => Sys2Proof.Machine.execFcuPCtrlWrite fn r st val s
  | .madcStart fn k => Sys2Proof.Machine.execMadcStart fn k s
  | .madcRunStart fn k spare mon => Sys2Proof.Machine.execMadcRunStart fn k spare mon s
  | .madcRunStop fn k spare mon => Sys2Proof.Machine.execMadcRunStop fn k spare mon s
  | .madcPeriodicTrigger k => Sys2Proof.Machine.execMadcPeriodicTrigger k s
  | .madcConversionDone k raw => Sys2Proof.Machine.execMadcConversionDone k raw s
  | .madcConversionTimeout k => Sys2Proof.Machine.execMadcConversionTimeout k s
  | .madcRecordMove k => Sys2Proof.Machine.execMadcRecordMove k s
  | .acqArm fn k => Sys2Proof.Machine.execAcqArm fn k s
  | .acqDisarm fn k => Sys2Proof.Machine.execAcqDisarm fn k s
  | .acqForce fn k => Sys2Proof.Machine.execAcqForce fn k s
  | .acqLive k => Sys2Proof.Machine.execAcqLive k s
  | .acqRunStart fn k => Sys2Proof.Machine.execAcqRunStart fn k s
  | .acqRunStop fn k => Sys2Proof.Machine.execAcqRunStop fn k s
  | .acqRecordArrive k => Sys2Proof.Machine.execAcqRecordArrive k s
  | .acqTriggerDeclare k => Sys2Proof.Machine.execAcqTriggerDeclare k s
  | .acqRingMove k => Sys2Proof.Machine.execAcqRingMove k s
  | .acqCaptureDone k => Sys2Proof.Machine.execAcqCaptureDone k s
  | .acqStreamStopped k => Sys2Proof.Machine.execAcqStreamStopped k s
  | .acqBurstFlush st => Sys2Proof.Machine.execAcqBurstFlush st s
  | .calTempEval r => Sys2Proof.Machine.execCalTempEval r s
  | .calStart fn idx => Sys2Proof.Machine.execCalStart fn idx s
  | .calAbort fn idx => Sys2Proof.Machine.execCalAbort fn idx s
  | .calCommonStepDone r vref vbg spine => Sys2Proof.Machine.execCalCommonStepDone r vref vbg spine s
  | .calClusterStepStart k => Sys2Proof.Machine.execCalClusterStepStart k s
  | .calClusterStepDone k lanes madc => Sys2Proof.Machine.execCalClusterStepDone k lanes madc s
  | .calHoldoffExpiry r => Sys2Proof.Machine.execCalHoldoffExpiry r s
  | .calEnvCheckDone k v => Sys2Proof.Machine.execCalEnvCheckDone k v s
  | .calReflectDone ch sum spread clean => Sys2Proof.Machine.execCalReflectDone ch sum spread clean s
  | .calSequenceDone => Sys2Proof.Machine.execCalSequenceDone s
  | .norRecordWriteDone => Sys2Proof.Machine.execNorRecordWriteDone s
  | .analogReadback ch bad again => Sys2Proof.Machine.execAnalogReadback ch bad again s
  | .thermalSensorSample r temps => Sys2Proof.Machine.execThermalSensorSample r temps s
  | .regionThermalShutdown r => Sys2Proof.Machine.execRegionThermalShutdown r s
  | .reenable fn r => Sys2Proof.Machine.execReenable fn r s
  | .bankAccess l => Sys2Proof.Machine.execBankAccess l s
  | .bmemTestRegionStart => Sys2Proof.Machine.execBmemTestRegionStart s
  | .bmemMarchDone fails => Sys2Proof.Machine.execBmemMarchDone fails s
  | .hbmUncorrRead addr who idx j => Sys2Proof.Machine.execHbmUncorrRead addr who idx j s
  | .doorbellTail fn q index => Sys2Proof.Machine.execDoorbellTail fn q index s
  | .doorbellHead fn q index => Sys2Proof.Machine.execDoorbellHead fn q index s
  | .doorbellRelease fn q => Sys2Proof.Machine.execDoorbellRelease fn q s
  | .pushSelWrite fn val => Sys2Proof.Machine.execPushSelWrite fn val s
  | .pushWrite fn off data => Sys2Proof.Machine.execPushWrite fn off data s
  | .descRead fn => Sys2Proof.Machine.execDescRead fn s
  | .descWrite fn => Sys2Proof.Machine.execDescWrite fn s
  | .cmdNop q => Sys2Proof.Machine.execCmdNop q s
  | .copyIn q data => Sys2Proof.Machine.execCopyIn q data s
  | .copyOut q err => Sys2Proof.Machine.execCopyOut q err s
  | .queueOut q err => Sys2Proof.Machine.execQueueOut q err s
  | .barrierSet q => Sys2Proof.Machine.execBarrierSet q s
  | .fcuScrambleLoad q => Sys2Proof.Machine.execFcuScrambleLoad q s
  | .calRead q err => Sys2Proof.Machine.execCalRead q err s
  | .mcInstall q key => Sys2Proof.Machine.execMcInstall q key s
  | .memGrant q => Sys2Proof.Machine.execMemGrant q s
  | .cmdUnknown q => Sys2Proof.Machine.execCmdUnknown q s
  | .heldCompletionPost fn => Sys2Proof.Machine.execHeldCompletionPost fn s
  | .logLostEntry st => Sys2Proof.Machine.execLogLostEntry st s
  | .spdmGetVersion path => Sys2Proof.Machine.execSpdmGetVersion path s
  | .spdmGetCapabilities path req => Sys2Proof.Machine.execSpdmGetCapabilities path req s
  | .spdmNegotiateAlgorithms path req => Sys2Proof.Machine.execSpdmNegotiateAlgorithms path req s
  | .spdmGetDigests path => Sys2Proof.Machine.execSpdmGetDigests path s
  | .spdmGetCertificate path slot off len => Sys2Proof.Machine.execSpdmGetCertificate path slot off len s
  | .spdmChallenge path req => Sys2Proof.Machine.execSpdmChallenge path req s
  | .spdmGetMeasurements path req => Sys2Proof.Machine.execSpdmGetMeasurements path req s
  | .spdmKeyExchange path req => Sys2Proof.Machine.execSpdmKeyExchange path req s
  | .spdmFinish path ok => Sys2Proof.Machine.execSpdmFinish path ok s
  | .spdmHeartbeat path => Sys2Proof.Machine.execSpdmHeartbeat path s
  | .spdmKeyUpdate path => Sys2Proof.Machine.execSpdmKeyUpdate path s
  | .spdmEndSession path => Sys2Proof.Machine.execSpdmEndSession path s
  | .spdmUnsupported path => Sys2Proof.Machine.execSpdmUnsupported path s
  | .ideKm req => Sys2Proof.Machine.execIdeKm req s
  | .ideIntegrityFail fn => Sys2Proof.Machine.execIdeIntegrityFail fn s
  | .setEndpointId op eid => Sys2Proof.Machine.execSetEndpointId op eid s
  | .getEndpointId => Sys2Proof.Machine.execGetEndpointId s
  | .getEndpointUuid => Sys2Proof.Machine.execGetEndpointUuid s
  | .getMctpVersionSupport type => Sys2Proof.Machine.execGetMctpVersionSupport type s
  | .getMessageTypeSupport => Sys2Proof.Machine.execGetMessageTypeSupport s
  | .mctpUnsupported type cmd => Sys2Proof.Machine.execMctpUnsupported type cmd s
  | .load fn head src len dest => Sys2Proof.Machine.execLoad fn head src len dest s
  | .bind fn raw => Sys2Proof.Machine.execBind fn raw s
  | .unload fn raw => Sys2Proof.Machine.execUnload fn raw s
  | .doeStatus fn raw => Sys2Proof.Machine.execDoeStatus fn raw s
  | .fwInstall fn raw sig => Sys2Proof.Machine.execFwInstall fn raw sig s
  | .fwRecover fn raw sig => Sys2Proof.Machine.execFwRecover fn raw sig s
  | .floorCommit fn raw => Sys2Proof.Machine.execFloorCommit fn raw s
  | .doeUnknown fn raw => Sys2Proof.Machine.execDoeUnknown fn raw s
  | .resultFrameClose st kind inst => Sys2Proof.Machine.execResultFrameClose st kind inst s
  | .glbHostTimeCommit fn hi => Sys2Proof.Machine.execGlbHostTimeCommit fn hi s
  | .hwBoundWrite => Sys2Proof.Machine.execHwBoundWrite s
  | .secSealedSitesWrite fn val => Sys2Proof.Machine.execSecSealedSitesWrite fn val s
  | .lifecycleTransition fn to_ token rest => Sys2Proof.Machine.execLifecycleTransition fn to_ token rest s
  | .tamper src => Sys2Proof.Machine.execTamper src s
  | .retireClear fn kind idx => Sys2Proof.Machine.execRetireClear fn kind idx s
  | .errEntryClose => Sys2Proof.Machine.execErrEntryClose s
  | .errReserveWrite => Sys2Proof.Machine.execErrReserveWrite s
  | .errMirror => Sys2Proof.Machine.execErrMirror s
  | .histSample k => Sys2Proof.Machine.execHistSample k s
  | .histRunStart fn k => Sys2Proof.Machine.execHistRunStart fn k s
  | .histRunStop fn k => Sys2Proof.Machine.execHistRunStop fn k s
  | .histClear fn k => Sys2Proof.Machine.execHistClear fn k s
  | .cmdlatSample ns => Sys2Proof.Machine.execCmdlatSample ns s
  | .qdepthSample => Sys2Proof.Machine.execQdepthSample s
  | .cmdClear fn => Sys2Proof.Machine.execCmdClear fn s
  | .qdClear fn => Sys2Proof.Machine.execQdClear fn s
  | .extest seen drive => Sys2Proof.Machine.execExtest seen drive s
  | .idcode => Sys2Proof.Machine.execIdcode s
  | .samplePreload seen load => Sys2Proof.Machine.execSamplePreload seen load s
  | .clampLands => Sys2Proof.Machine.execClamp s
  | .highz => Sys2Proof.Machine.execHighz s
  | .bypass code => Sys2Proof.Machine.execBypass code s
  | .refclkReturn => Sys2Proof.Machine.execRefclkReturn s
  | .pcieLinkUp e => Sys2Proof.Machine.execPcieLinkUp e s
  | .vfEnableSet pf num => Sys2Proof.Machine.execVfEnableSet pf num s
  | .tamperConditionEnd src => Sys2Proof.Machine.execTamperConditionEnd src s
  | .hizSequenceDone ch => Sys2Proof.Machine.execHizSequenceDone ch s
  | .abortPoint st => Sys2Proof.Machine.execAbortPoint st s
  | .triggerEventArrive line => Sys2Proof.Machine.execTriggerEventArrive line s
  | .memGrantDone => Sys2Proof.Machine.execMemGrantDone s
  | .mcInstallDone => Sys2Proof.Machine.execMcInstallDone s
  | .lcDone => Sys2Proof.Machine.execLcDone s
  | .rekeyDone h => Sys2Proof.Machine.execRekeyDone h s
  | .hbmTempRefresh t0 t1 t2 => Sys2Proof.Machine.execHbmTempRefresh t0 t1 t2 s
  | .hbmBwWindow idx served demand thr bp => Sys2Proof.Machine.execHbmBwWindow idx served demand thr bp s

end Sys2Proof.Machine
end

