-- ==== Sys2Proof/WellFormed.lean ====
section
/-! DEFINITION. Which commands name only units, lines, vectors and pages the module has: the others are refused by name.
`bifur` is the PCIE_BIFUR strap: the second endpoint exists only when it is set (16 R334). -/

namespace Sys2Proof

open Sys2Proof.Machine

/-- The operands name units the module has. -/
def Instr.wf (bifur : Bool) (i : Instr) : Bool :=
  match i with
  | .powerUpStart _ => true
  | .pwrGood _ _ => true
  | .pllLock => true
  | .pllLockTimeout => true
  | .bmemClearDone _ => true
  | .hbmClearDone _ => true
  | .fwVerifyDone _ _ => true
  | .mcLoadDone _ => true
  | .retireLoad => true
  | .calLoad => true
  | .bootReady => true
  | .warmupSample => true
  | .warmupTimeout => true
  | .powerFailWarning _ => true
  | .loadShedDone => true
  | .powerWarnRelease _ => true
  | .undervoltageLockout _ => true
  | .pwrEnLow => true
  | .powerStageStop => true
  | .pwrOvercurrent => true
  | .pwrOvervoltage _ => true
  | .pwrOvRelease _ => true
  | .pwrOvertemp => true
  | .pwrOtClear => true
  | .telemetryRefresh _ _ _ _ _ _ => true
  | .page _ => true
  | .clearFaults => true
  | .capability => true
  | .vinOvFaultLimit => true
  | .vinUvWarnLimit => true
  | .vinUvFaultLimit => true
  | .statusByte => true
  | .statusWord => true
  | .statusInput => true
  | .statusTemperature => true
  | .statusCml => true
  | .readVin => true
  | .readIin => true
  | .readTemperature1 => true
  | .readPout => true
  | .readPin => true
  | .pmbusRevision => true
  | .mfrId => true
  | .mfrModel => true
  | .pmbusInvalid kind => decide (kind < 3)
  | .smbusAlertResponse => true
  | .smbusTimeout => true
  | .clockLoss => true
  | .pllUnlock => true
  | .pllRelock => true
  | .analogLinkWatchdog die => decide (die < nRgn)
  | .linkRetry d => decide (d < 8)
  | .linkDown d => decide (d < 8)
  | .modeReqSafe fn _ => decide (fn < 18)
  | .modeReqReady fn _ => decide (fn < 18)
  | .modeReqCal fn => decide (fn < 18)
  | .modeReqRun fn => decide (fn < 18)
  | .modeReqService fn => decide (fn < 18)
  | .modeReqIllegal fn _ => decide (fn < 18)
  | .modeTransitionDone => true
  | .perstAssert => true
  | .pcieLinkDown e => decide (e = 0 ∨ (e = 1 ∧ bifur))
  | .functionReset fn how => decide (fn < 18 ∧ how < 3 ∧ (fn ≠ 17 ∨ bifur))
  | .functionResetDone fn => decide (fn < 18)
  | .msixVectorUnmask fn a => decide (fn < 17) && (match a with | .unmask n => decide (n < vectorsOf fn) | _ => true)
  | .regWrite fn _ _ _ => decide (fn < 18)
  | .rcRead fn _ _ => decide (fn < 18)
  | .pairLoWrite fn ty _ lo _ => decide (fn < 18) && Ty.pairLo ty lo
  | .pairHiCommit fn ty _ lo _ => decide (fn < 18) && Ty.pairLo ty lo
  | .pairLoRead fn ty _ lo => decide (fn < 18) && Ty.pairLo ty lo
  | .blkEnClear fn _ _ => decide (fn < 18)
  | .blkEnSet fn _ _ => decide (fn < 18)
  | .blkSoftReset fn _ _ => decide (fn < 18)
  | .softResetDone ty inst => mapped ty inst
  | .blkLock fn _ _ => decide (fn < 18)
  | .blkIrqSet fn _ _ _ => decide (fn < 18)
  | .blkIrqEnableWrite fn _ _ _ => decide (fn < 18)
  | .blkOwnerWrite fn _ _ _ => decide (fn < 18)
  | .broadcastWrite fn _ _ _ _ => decide (fn < 18)
  | .siteChMaskWrite fn _ k _ => decide (fn < 18 ∧ k < 6)
  | .siteCluMaskWrite fn _ _ => decide (fn < 18)
  | .siteTeMaskWrite fn _ k _ => decide (fn < 18 ∧ k < 3)
  | .siteQueueRangeWrite fn _ _ _ => decide (fn < 18)
  | .burstArm fn _ _ => decide (fn < 18)
  | .burstDisarm fn _ => decide (fn < 18)
  | .burstStart fn _ _ => decide (fn < 18)
  | .burstStop fn _ => decide (fn < 18)
  | .burstAbort fn _ => decide (fn < 18)
  | .burstAck fn _ => decide (fn < 18)
  | .burstCmdInvalid fn _ op => decide (fn < 18 ∧ (op = 0 ∨ 7 ≤ op) ∧ op < 16)
  | .burstRunEntry st => decide (st < nSite)
  | .burstDrainEntry st => decide (st < nSite)
  | .stopDrainEntry st => decide (st < nSite)
  | .burstIdleEntry st => decide (st < nSite)
  | .spareSwitch k => decide (k < nClu)
  | .bsyncFrameSlot _ => true
  | .syncLoss => true
  | .bsyncNop => true
  | .timeLoadStage _ => true
  | .timeLoadLoad _ => true
  | .phaseSlewStep => true
  | .bsyncArm _ => true
  | .startAt _ _ => true
  | .stopAt _ _ => true
  | .ping => true
  | .trigInEdge line _ _ => decide (line < 4)
  | .trigOutPulse line => decide (line < 4)
  | .trigOutFire fn line => decide (fn < 18 ∧ line < 4)
  | .segmentPlace => true
  | .dequePop e => decide (e < nEng)
  | .stealProbe e => decide (e < nEng)
  | .segmentTake e => decide (e < nEng)
  | .dequeHandover e => decide (e < nEng)
  | .requeueSlotDrain e => decide (e < nEng)
  | .nop e => decide (e < nEng)
  | .vec e => decide (e < nEng)
  | .rpt e => decide (e < nEng)
  | .hold e => decide (e < nEng)
  | .tset e => decide (e < nEng)
  | .lvl e => decide (e < nEng)
  | .mark e => decide (e < nEng)
  | .sync e => decide (e < nEng)
  | .halt e => decide (e < nEng)
  | .jmp e => decide (e < nEng)
  | .jmpf e => decide (e < nEng)
  | .call e => decide (e < nEng)
  | .ret e => decide (e < nEng)
  | .loop e => decide (e < nEng)
  | .endloop e => decide (e < nEng)
  | .matchVec e => decide (e < nEng)
  | .scan e => decide (e < nEng)
  | .decomp e => decide (e < nEng)
  | .invalidOpcode e => decide (e < nEng)
  | .microNext e => decide (e < nEng)
  | .microJump e => decide (e < nEng)
  | .microCjump e => decide (e < nEng)
  | .microCall e => decide (e < nEng)
  | .microRet e => decide (e < nEng)
  | .microDispatch e => decide (e < nEng)
  | .microUloop e => decide (e < nEng)
  | .microResume e => decide (e < nEng)
  | .cacheMissFill e => decide (e < nEng)
  | .blockPost e => decide (e < nEng)
  | .engineInterruptTake e => decide (e < nEng)
  | .abortTake e => decide (e < nEng)
  | .machineCheck e kind => decide (e < nEng ∧ kind < 3)
  | .reloadDone e _ => decide (e < nEng)
  | .idleScan e _ => decide (e < nEng)
  | .blockArrive ch => decide (ch < nChan)
  | .blockDeadline ch _ _ _ => decide (ch < nChan)
  | .blockRelease ch => decide (ch < nChan)
  | .uiStart ch => decide (ch < nChan)
  | .edgeApply ch => decide (ch < nChan)
  | .compareEvent ch => decide (ch < nChan)
  | .comparatorCrossing ch _ _ _ => decide (ch < nChan)
  | .compareResult ch => decide (ch < nChan)
  | .matchResult e => decide (e < nEng)
  | .barrierComplete st b => decide (st < nSite ∧ b < 256)
  | .condTimeout e => decide (e < nEng)
  | .freerunStart fn _ _ _ => decide (fn < 18)
  | .freerunStop fn _ _ _ => decide (fn < 18)
  | .tgPeriodCommit fn _ _ => decide (fn < 18)
  | .tgSymmapCommit fn _ _ => decide (fn < 18)
  | .timesetWrite fn _ t edge _ => decide (fn < 18 ∧ t < 64 ∧ edge ≤ 8)
  | .calSlewStep ch _ => decide (ch < nChan)
  | .calStale ch => decide (ch < nChan)
  | .peCtrlWrite fn _ _ => decide (fn < 18)
  | .driverRangeDone ch => decide (ch < nChan)
  | .pePmuCtrlWrite fn _ _ => decide (fn < 18)
  | .pePmuRangeWrite fn _ _ => decide (fn < 18)
  | .pmuOldStageOpen ch => decide (ch < nChan)
  | .pmuRangeDone ch => decide (ch < nChan)
  | .pmuSenseFallback ch => decide (ch < nChan)
  | .pmuCompliance ch _ => decide (ch < nChan)
  | .clampConduct ch _ _ => decide (ch < nChan)
  | .protClampConduct ch _ => decide (ch < nChan)
  | .contactTestStart fn _ _ _ => decide (fn < 18)
  | .contactTestDone ch _ => decide (ch < nChan)
  | .lvlDacWrite fn _ d _ => decide (fn < 18 ∧ d < 10)
  | .lvlQueuePush fn _ _ => decide (fn < 18)
  | .lvlQueueFlush fn _ => decide (fn < 18)
  | .lvlEntryArrive ch => decide (ch < nChan)
  | .lclkTick st => decide (st ≤ nSite)
  | .fcuRecordClose r _ _ => decide (r < nRgn)
  | .fcuRecordMove r st => decide (r < nRgn ∧ st < nSite)
  | .fcuPSizeWrite fn _ st _ => decide (fn < 18 ∧ st < 16)
  | .fcuPCtrlWrite fn _ st _ => decide (fn < 18 ∧ st < 16)
  | .madcStart fn _ => decide (fn < 18)
  | .madcRunStart fn _ _ _ => decide (fn < 18)
  | .madcRunStop fn _ _ _ => decide (fn < 18)
  | .madcPeriodicTrigger k => decide (k < nClu)
  | .madcConversionDone k _ => decide (k < nClu)
  | .madcConversionTimeout k => decide (k < nClu)
  | .madcRecordMove k => decide (k < nClu)
  | .acqArm fn _ => decide (fn < 18)
  | .acqDisarm fn _ => decide (fn < 18)
  | .acqForce fn _ => decide (fn < 18)
  | .acqLive k => decide (k < nClu)
  | .acqRunStart fn _ => decide (fn < 18)
  | .acqRunStop fn _ => decide (fn < 18)
  | .acqRecordArrive k => decide (k < nClu)
  | .acqTriggerDeclare k => decide (k < nClu)
  | .acqRingMove k => decide (k < nClu)
  | .acqCaptureDone k => decide (k < nClu)
  | .acqStreamStopped k => decide (k < nClu)
  | .acqBurstFlush st => decide (st < nSite)
  | .calTempEval r => decide (r < nRgn)
  | .calStart fn _ => decide (fn < 18)
  | .calAbort fn _ => decide (fn < 18)
  | .calCommonStepDone r _ _ _ => decide (r < nRgn)
  | .calClusterStepStart k => decide (k < nClu)
  | .calClusterStepDone k _ _ => decide (k < nClu)
  | .calHoldoffExpiry r => decide (r < nRgn)
  | .calEnvCheckDone k _ => decide (k < nClu)
  | .calReflectDone ch _ _ _ => decide (ch < nChan)
  | .calSequenceDone => true
  | .norRecordWriteDone => true
  | .analogReadback ch _ _ => decide (ch < nChan)
  | .thermalSensorSample r _ => decide (r < nRgn)
  | .regionThermalShutdown r => decide (r < nRgn)
  | .reenable fn _ => decide (fn < 18)
  | .bankAccess l => l.all BankReq.ok
  | .bmemTestRegionStart => true
  | .bmemMarchDone _ => true
  | .hbmUncorrRead addr who idx j => decide (addr < hbmTop ∧ (who = 0 ∧ idx < nEng ∨ (who = 1 ∨ who = 2) ∧ idx < 2 ^ 20 ∨ who = 3 ∧ idx < nRgn ∧ j < nSite))
  | .doorbellTail fn q _ => decide (fn < 18 ∧ q < 2 ^ 20)
  | .doorbellHead fn q _ => decide (fn < 18 ∧ q < 2 ^ 20)
  | .doorbellRelease fn db => decide (fn < 18 ∧ db < 2 ^ 64 ∧ 2 ≤ bits db 20 4)
  | .pushSelWrite fn _ => decide (fn < 17)
  | .pushWrite fn off data => decide (fn < 17 ∧ off + data.length ≤ 64)
  | .descRead fn => decide (fn < 18)
  | .descWrite fn => decide (fn < 18)
  | .cmdNop q => decide (q < 2 ^ 20)
  | .copyIn q _ => decide (q < 2 ^ 20)
  | .copyOut q _ => decide (q < 2 ^ 20)
  | .queueOut q _ => decide (q < 2 ^ 20)
  | .barrierSet q => decide (q < 2 ^ 20)
  | .fcuScrambleLoad q => decide (q < 2 ^ 20)
  | .calRead q _ => decide (q < 2 ^ 20)
  | .mcInstall q _ => decide (q < 2 ^ 20)
  | .memGrant q => decide (q < 2 ^ 20)
  | .cmdUnknown q => decide (q < 2 ^ 20)
  | .heldCompletionPost fn => decide (fn < 17)
  | .logLostEntry st => decide (st < 16)
  | .spdmGetVersion path => decide (path < 19)
  | .spdmGetCapabilities path _ => decide (path < 19)
  | .spdmNegotiateAlgorithms path _ => decide (path < 19)
  | .spdmGetDigests path => decide (path < 19)
  | .spdmGetCertificate path _ _ _ => decide (path < 19)
  | .spdmChallenge path _ => decide (path < 19)
  | .spdmGetMeasurements path _ => decide (path < 19)
  | .spdmKeyExchange path _ => decide (path < 19)
  | .spdmFinish path _ => decide (path < 19)
  | .spdmHeartbeat path => decide (path < 19)
  | .spdmKeyUpdate path => decide (path < 19)
  | .spdmEndSession path => decide (path < 19)
  | .spdmUnsupported path => decide (path < 19)
  | .ideKm (.query path) => decide (path < 19)
  | .ideKm (.keyProg path _) => decide (path < 19)
  | .ideKm (.setGo path) => decide (path < 19)
  | .ideKm (.setStop path) => decide (path < 19)
  | .ideIntegrityFail fn => decide (fn < 18)
  | .setEndpointId _ _ => true
  | .getEndpointId => true
  | .getEndpointUuid => true
  | .getMctpVersionSupport _ => true
  | .getMessageTypeSupport => true
  | .mctpUnsupported _ _ => true
  | .load fn _ _ _ _ => decide (fn < 18)
  | .bind fn _ => decide (fn < 18)
  | .unload fn _ => decide (fn < 18)
  | .doeStatus fn _ => decide (fn < 18)
  | .fwInstall fn _ _ => decide (fn < 18)
  | .fwRecover fn _ _ => decide (fn < 18)
  | .floorCommit fn _ => decide (fn < 18)
  | .doeUnknown fn _ => decide (fn < 18)
  | .resultFrameClose st kind inst => decide (st < nSite ∧ kind < 3 ∧ inst < (if kind = 0 then nRgn else nClu))
  | .glbHostTimeCommit fn _ => decide (fn < 18)
  | .hwBoundWrite => true
  | .secSealedSitesWrite fn _ => decide (fn < 18)
  | .lifecycleTransition fn _ _ _ => decide (fn < 18)
  | .tamper src => decide (src < 5)
  | .retireClear fn kind idx => decide (fn < 18 ∧ 0 < kind ∧ kind < 8 ∧ idx < 256)
  | .errEntryClose => true
  | .errReserveWrite => true
  | .errMirror => true
  | .histSample k => decide (k < nClu)
  | .histRunStart fn _ => decide (fn < 18)
  | .histRunStop fn _ => decide (fn < 18)
  | .histClear fn _ => decide (fn < 18)
  | .cmdlatSample _ => true
  | .qdepthSample => true
  | .cmdClear fn => decide (fn < 18)
  | .qdClear fn => decide (fn < 18)
  | .extest _ _ => true
  | .idcode => true
  | .samplePreload _ _ => true
  | .clampLands => true
  | .highz => true
  | .bypass _ => true
  | .refclkReturn => true
  | .pcieLinkUp e => decide (e < 2)
  | .vfEnableSet pf _ => decide (pf = 0 ∨ (pf = 17 ∧ bifur))
  | .tamperConditionEnd src => decide (src < 5)
  | .hizSequenceDone ch => decide (ch < nChan)
  | .abortPoint st => decide (st < nSite)
  | .triggerEventArrive line => decide (line < 4)
  | .memGrantDone => true
  | .mcInstallDone => true
  | .lcDone => true
  | .rekeyDone h => h.all (· < 17)
  | .hbmTempRefresh _ _ _ => true
  | .hbmBwWindow idx _ _ _ _ => decide (idx < 3)

end Sys2Proof
end

