-- ==== Sys2Proof/Safety.lean ====
section
/-! DEFINITION. What holds of every state the module reaches: memory in canonical form, page headers, site registers, the
ERR log and the engines' deques within the limits the specification gives them. -/

namespace Sys2Proof.Machine

/-- Memory is in canonical form: addresses strictly rising, no byte listed that an unlisted address reads as. -/
def Memory.wf (m : List Host.Cell) : Bool := Tbl.wf (0 : Byte) m

/-- A page header holds only values its registers can read: OWNER a site or 16, a vector of MSI-X, a 16-bit saturating
error count (05 R92, R93). -/
def Hdr.ok (h : Hdr) : Prop := h.owner ≤ 16 ∧ h.vector < 256 ∧ h.errCount ≤ 0xFFFF

/-- Site registers hold only values in their ranges: DIV of SITE_LCLK, L and TW of SITE_LEAD_TIME, the match group (08
R152, 10 R214, 16 R352). -/
def Site.ok (x : Site) : Prop :=
  20 ≤ x.lclkDiv ∧ x.lclkDiv ≤ 4000 ∧ 500 ≤ x.lead ∧ x.lead ≤ 4000 ∧ 200 ≤ x.tether ∧ x.tether ≤ 4000 ∧ x.group < 16

/-- The ERR ring holds at most 4,096 entries, its reserve 1,024 errors (18 R392, R394). -/
def ErrLog.ok (l : ErrLog) : Prop := l.ring.length ≤ 4096 ∧ l.reserve.length ≤ 1024

/-- A deque holds at most 64 segments (08 R160). -/
def Eng.ok (x : Eng) : Prop := x.deque.length ≤ 64

/-- The invariant every step keeps. -/
structure Inv (s : State) : Prop where
  mem : Memory.wf s.mem = true
  hdr : ∀ ty inst, (s.hdr ty inst).ok
  site : ∀ i, (s.site i).ok
  err : s.err.ok
  te : ∀ e, (s.te e).ok

/-- Every check a register write takes before its register's own ones lets this write through: the function exists, can
send and is not under reset, the page is mapped, the access is permitted, the register is not sealed, the page is neither
behind a dead link nor retired (05 R86 to R92, 17 R361). -/
def State.accepts (s : State) (fn ty inst off : Nat) : Bool :=
  decide (fn < 18) && s.fnUp fn && !(s.fn fn).inReset && mapped ty inst && s.mayAccess fn ty inst off true
    && !s.sealedReg ty inst off && !s.pageDead ty inst && (!(s.hdr ty inst).retired || off == 0x020)

/-- Doorbells of this function for this queue are served: the function can send, is not under reset and is no owner of
the second endpoint, the queue manager is ready, the queue is the function's and enabled (15 R324). -/
def State.serves (s : State) (fn q : Nat) : Bool :=
  decide (fn < 17 ∧ q < 2 ^ 20) && s.fnUp fn && !(s.fn fn).inReset && s.qmgr.ready && s.qOwner q == ownerOfFn fn
    && (s.queue q).enable

/-- The parts of the state, one per field. -/
inductive Part where
  | straps | time | power | glb | clk | sync | sec | hdrs | fns | sites | queues | qmgr | bmem | hbms | err | hlth | cals
  | clus | rgns | fcus | madcs | acqs | hists | chans | tes | mem | holders | nor | otp | faults | smb | jtag | outs | free
  | caches | pending
deriving DecidableEq, Repr

/-- A part reads the same in two states. -/
def Part.same : Part → State → State → Prop
  | .straps, s, t => t.grade08 = s.grade08 ∧ t.bifur = s.bifur ∧ t.smbAddr = s.smbAddr
  | .time, s, t => t.root = s.root ∧ t.uptime = s.uptime ∧ t.everLocked = s.everLocked
  | .power, s, t => t.stage = s.stage ∧ t.link0 = s.link0 ∧ t.link1 = s.link1 ∧ t.pwr = s.pwr
  | .glb, s, t => t.glb = s.glb
  | .clk, s, t => t.clk = s.clk
  | .sync, s, t => t.sync = s.sync
  | .sec, s, t => t.sec = s.sec
  | .hdrs, s, t => t.hdrs = s.hdrs
  | .fns, s, t => t.fns = s.fns
  | .sites, s, t => t.sites = s.sites
  | .queues, s, t => t.queues = s.queues
  | .qmgr, s, t => t.qmgr = s.qmgr
  | .bmem, s, t => t.bmem = s.bmem
  | .hbms, s, t => t.hbms = s.hbms
  | .err, s, t => t.err = s.err
  | .hlth, s, t => t.hlth = s.hlth
  | .cals, s, t => t.cals = s.cals
  | .clus, s, t => t.clus = s.clus
  | .rgns, s, t => t.rgns = s.rgns
  | .fcus, s, t => t.fcus = s.fcus
  | .madcs, s, t => t.madcs = s.madcs
  | .acqs, s, t => t.acqs = s.acqs
  | .hists, s, t => t.hists = s.hists
  | .chans, s, t => t.chans = s.chans
  | .tes, s, t => t.tes = s.tes
  | .mem, s, t => t.mem = s.mem ∧ t.ctext = s.ctext
  | .holders, s, t => t.hbmHolder = s.hbmHolder ∧ t.bankHolder = s.bankHolder
  | .nor, s, t => t.nor = s.nor
  | .otp, s, t => t.otp = s.otp
  | .faults, s, t => t.faults = s.faults
  | .smb, s, t => t.smb = s.smb
  | .jtag, s, t => t.jtag = s.jtag
  | .outs, s, t => t.outs = s.outs
  | .free, s, t => t.free = s.free
  | .caches, s, t => t.pcache = s.pcache ∧ t.micro = s.micro ∧ t.stores = s.stores ∧ t.placedQ = s.placedQ ∧ t.returned = s.returned
  | .pending, s, t => t.pending = s.pending

/-- Nothing but the listed parts differs between two states. -/
def Only (l : List Part) (s t : State) : Prop := ∀ p, p ∉ l → p.same s t

/-- What setting a cause can touch: page headers, MSI-X pending bits, messages (05 R93). -/
def causeParts : List Part := [.hdrs, .fns, .outs]
/-- What raising an error can touch: page headers, the log, MSI-X, and the log queues of sites with their bodies and lost
counts (18 R392 to R395, 15 R321), and a memory test whose region holds such a queue (15 R311). -/
def errorParts : List Part := [.hdrs, .fns, .outs, .err, .sites, .queues, .mem, .bmem]

/-- What a burst entry can touch besides the site: its channels, queues, engines, completions, notices, messages (16 R348). -/
def burstParts : List Part := [.hdrs, .fns, .outs, .err, .sites, .queues, .mem, .bmem, .chans, .tes, .caches]
/-- What ending bursts, runs and updates on a mode change can touch (02 R35, R44, R52). -/
def modeParts : List Part :=
  [.hdrs, .fns, .outs, .err, .sites, .queues, .mem, .bmem, .chans, .tes, .glb, .power, .cals, .clus, .rgns, .madcs, .acqs, .hists, .nor, .hbms,
   .jtag, .sec, .caches]
/-- What SAFE entry can touch (02 R35, R44, R52). -/
def safeParts : List Part :=
  [.hdrs, .fns, .outs, .err, .sites, .queues, .mem, .bmem, .chans, .tes, .glb, .cals, .clus, .rgns, .madcs, .acqs, .hists, .nor, .caches]
/-- The Hi-Z sequence of a channel has begun, its driver off; a channel of a burst that is aborting waits for its abort point (02 R43,
08 R159). -/
def State.inHiz (s : State) (ch : Nat) : Prop :=
  if s.beforeA ch then (s.chan ch).hizDue.isSome = true else (s.chan ch).drvMode = 0

/-- Engine `e` executes segment `g`, stands before the word `ir`, in the pattern cache and below LENGTH, with no instruction
under way, no complete block unposted, its site going on and no cut reached (07 R131, R133, R134). -/
abbrev State.dispatches (s : State) (e : Nat) (g : Seg) (ir : Nat) : Prop :=
  e < nEng ∧ (s.te e).cur = some g ∧ s.engReady e g = true ∧ s.cutReached e g = false ∧ (s.te e).job = none
    ∧ (s.te e).fetch < g.len ∧ s.cached g (s.te e).fetch = true ∧ s.streamWord g (s.te e).fetch = ir

/-- The word at the fetch pointer is in IR and counted as one dispatch (07 R131, R133). -/
def State.fetched (s : State) (e : Nat) (g : Seg) : State :=
  (s.cacheTouch g.site (g.line (s.te e).fetch)).modTe e (fun x => { x with
    ir := s.streamWord g x.fetch, op := bits (s.streamWord g x.fetch) 248 8, ipoff := x.fetch, fetch := x.fetch + 1, spin := x.spin + 1 })

/-- The fetched word passes the dispatch checks in a segment, and assigns no reserved operand bit (07 R132, 06 R107). -/
abbrev State.dispatchOk (s : State) (e : Nat) (g : Seg) (ir : Nat) : Prop :=
  decodeCheck (bits ir 248 8) ir ((s.te e).spin + 1) g.tethered = 0

/-- Engine `e` stands at microword `w` of segment `g`, and neither ABORT, an interrupt, a cut nor a stall comes first (07 R129, R137,
R140). -/
abbrev State.atWord (s : State) (e : Nat) (g : Seg) (w : Nat) : Prop :=
  e < nEng ∧ (s.te e).cur = some g ∧ s.uword e = w ∧ wordParityOk (s.rawWord e) = true ∧ (s.te e).taking = false ∧ (s.te e).reload = false ∧ (s.te e).miss = none
    ∧ (s.te e).beginAt ≤ s.now ∧ s.siteGoing g.site = true ∧ s.cutReached e g = false ∧ (s.te e).pending = false

/-- The word has no operation beside its SEQ: no ALU, EMIT, FETCH, DECOMP, PSTK, TS or EVENT part (07 R128). -/
abbrev seqOnly (w : Nat) : Prop :=
  bits w 100 4 = 0 ∧ uEmit w = 0 ∧ uFetch w = 0 ∧ bits w 44 4 = 0 ∧ bits w 60 4 = 0 ∧ bits w 40 4 = 0 ∧ uEvent w = 0

/-- The command controller takes `c` from the head of command queue `q`: it is its function's turn, its completion queue is one of the
issuer's, with room and no completion held for it (01 R26; 15 R321, R326). -/
abbrev State.takes (s : State) (q : Nat) (c : Cmd) : Prop :=
  q < 2 ^ 20 ∧ s.headCmd q = some c ∧ s.cmdTurn c.fn = true ∧ s.cqOk c = true ∧ 0 < (s.queue c.cq).room
    ∧ (s.queue c.cq).head < (s.queue c.cq).slots ∧ (s.fn c.fn).held.all (fun h => h.1 != c.cq) = true

/-- From `s` to `t` the command left the head of its queue, its function is the one served last, its completion with `status` and RESULT
`r` stands in the next slot of its completion queue, and its latency is accepted while CMDLAT runs (01 R26; 15 R326, R328; 18 R399). -/
def State.completed (s t : State) (q : Nat) (c : Cmd) (status : Nat) (r : List Byte) : Prop :=
  (t.queue q).head = ((s.queue q).head + 1) % (s.queue q).slots
    ∧ (t.queue c.cq).tail = ((s.queue c.cq).tail + 1) % (s.queue c.cq).slots
    ∧ (∀ i, i < 32 → t.byte ((s.queue c.cq).base + 32 * (s.queue c.cq).tail + i) = (cplBytes 0 status c.tag s.now r).getD i 0)
    ∧ t.qmgr = { s.qmgr with lastFn := c.fn }
    ∧ t.hlth = (if s.hlth.cmdlat.run then { s.hlth with lat := s.hlth.lat ++ [(s.uptime - c.seen) / 16] } else s.hlth)

/-- The slot the next completion of `c` takes. -/
abbrev State.cplSlot (s : State) (c : Cmd) (a : Nat) : Prop :=
  (s.queue c.cq).base + 32 * (s.queue c.cq).tail ≤ a ∧ a < (s.queue c.cq).base + 32 * (s.queue c.cq).tail + 32

/-- What taking a command and completing it can touch. -/
def cmdParts : List Part := [.queues, .qmgr, .hlth, .mem, .bmem, .fns, .outs]

/-- The mailbox of function `fn` takes the request `raw` of operation `op` with `n` bytes behind its header: it answers the operation and handles no other,
the reserved bytes are 0, a site names itself, SITE is below 16 (17 R366). -/
abbrev State.doeTakes (s : State) (fn : Nat) (raw : List Byte) (op n : Nat) : Prop :=
  fn < 18 ∧ s.doeUp fn op = true ∧ s.doeBusy fn = false ∧ (Doe.mk fn raw {}).op = op ∧ (Doe.mk fn raw {}).num 2 2 = 0 ∧ (Doe.mk fn raw {}).num 9 7 = 0
    ∧ raw.length = 16 + n ∧ (∀ k, siteOfFn fn = some k → (Doe.mk fn raw {}).site = k) ∧ (Doe.mk fn raw {}).site < 16

/-- The response of the Foyris DOE protocol (17 R366). -/
def doeMsg (fn : Nat) (raw : List Byte) (status : Nat) (data : List Byte) : Out :=
  .message fn (doeObject (le 2 ((Doe.mk fn raw {}).op + 0x8000) ++ le 2 status ++ le 4 (Doe.mk fn raw {}).tag ++ List.replicate 8 0 ++ data))

/-- The SPDM ERROR response with a code (17 R355). -/
def spdmErr (path code : Nat) : Out := .message path ([0x13, 0x7F] ++ le 1 code ++ [0])
/-- An SPDM response: version, code, body (17 R355). -/
def spdmMsg (path code : Nat) (body : List Byte) : Out :=
  .message path ([if code = 0x04 then 0x10 else 0x13] ++ le 1 code ++ [0, 0] ++ body)
/-- An MCTP control response: command, completion code, data (16 R350). -/
def mctpMsg (cmd cc : Nat) (data : List Byte) : Out := .message 18 ([0, 0] ++ le 1 cmd ++ le 1 cc ++ data)

/-- Every check of a register read lets this read through (05 R86 to R92, 17 R361). -/
def State.reads (s : State) (fn ty inst off : Nat) : Bool :=
  decide (fn < 18) && s.fnUp fn && !(s.fn fn).inReset && mapped ty inst && s.mayAccess fn ty inst off false && !s.pageDead ty inst
    && !s.sealedReg ty inst off

/-- A run is safe when the module never stops: every command is carried out or leaves the module as it is. -/
def State.answers (s : State) : Prop := ∃ t, step s = .next t

end Sys2Proof.Machine
end

