-- ==== Sys2Proof/Certificates/Slice0/Obligations.lean ====
section
/-! DEFINITION. The statements for the provers. Each is of every state and every operand that meets its hypotheses; where a clause
rests on a choice of the model its docstring names the log entry. -/
open Sys2Proof Sys2Proof.Machine

/-! ### The machine: queue of commands, reset, invariant -/

/-- The command at the front of the queue is the one that runs, on the state with the queue's rest. -/
def Obligations.StepRunsTheFrontCommand : Prop :=
  ∀ (i : Instr) (rest : List Instr) (s : State),
    step { s with pending := i :: rest } = exec i { s with pending := rest }

/-- With no command waiting one root edge passes (the model's choice, log entry 1): the model's clock grows by one, TT by
one once the PLL has locked for the first time (R69), and nothing changes but scan ADC conversions that reach their hold
instant, region loaders that install and calibration runs that are due, which begin; with no scan and no install under way and no
run due nothing else changes at all. -/
def Obligations.EmptyQueuePassesOneRootEdge : Prop :=
  ∀ s : State, s.pending = [] → ∃ t, step s = .next t ∧ t.uptime = s.uptime + 1
    ∧ t.root = (if s.everLocked then (s.root + 1) % 2 ^ 64 else s.root) ∧ t.everLocked = s.everLocked
    ∧ Only [.time, .madcs, .rgns, .caches, .cals] s t
    ∧ (∀ r, r < nRgn → t.cal r = if (s.cal r).state = 1 then { s.cal r with state := 2 } else s.cal r)
    ∧ ((∀ k, k < nClu → (s.madc k).scan = none) → (∀ r, r < nRgn → (s.rgn r).instN = none ∧ (s.cal r).state ≠ 1) →
        Only [.time] s t)

/-- A command is refused exactly when its operands name a unit, line, vector or page the module does not have, and it then
changes nothing; no command faults and every other command answers a next state. -/
def Obligations.RefusedExactlyWhenNoSuchUnit : Prop :=
  ∀ (i : Instr) (s : State),
    (i.wf s.bifur = false → exec i s = .refused .noSuchUnit) ∧ (i.wf s.bifur = true → ∃ t, exec i s = .next t)

/-- What the specification gives for the state after reset: no mode but the power-up one with its SAFE cause, BUSY and
TARGET READY, every page enabled, unlocked and owned by the owner function but SITE_s by site s, no link up, no function
ready to send, every queue disabled, memory reading 0, TT 0, every channel off its driver, load and PMU with a period of
4,096 fine steps and the symbol map 0x77777A98_76543210, every engine idle with an empty deque, every site IDLE. -/
def Obligations.ResetLeavesTheSpecifiedState : Prop :=
  State.reset.glb.mode = .safe ∧ State.reset.glb.busy = true ∧ State.reset.glb.target = .ready
    ∧ State.reset.root = 0 ∧ State.reset.link0 = false ∧ State.reset.link1 = false ∧ State.reset.pending = []
    ∧ State.reset.qmgr.ready = false
    ∧ (∀ ty inst, (State.reset.hdr ty inst).en = true ∧ (State.reset.hdr ty inst).lock = false
        ∧ (State.reset.hdr ty inst).irqStatus = 0 ∧ (State.reset.hdr ty inst).irqEnable = 0
        ∧ (State.reset.hdr ty inst).errCount = 0 ∧ (State.reset.hdr ty inst).lastCode = 0
        ∧ (State.reset.hdr ty inst).vector = 0
        ∧ (State.reset.hdr ty inst).owner = (if ty = Ty.site ∧ inst < 16 then inst else 16))
    ∧ (∀ q, (State.reset.queue q).enable = false ∧ (State.reset.queue q).head = 0 ∧ (State.reset.queue q).tail = 0)
    ∧ (∀ a, State.reset.byte a = 0)
    ∧ (∀ ch, (State.reset.chan ch).drvMode = 0 ∧ (State.reset.chan ch).loadMode = 0 ∧ (State.reset.chan ch).pmuConn = false
        ∧ (State.reset.chan ch).perInt = 4096 ∧ (State.reset.chan ch).perFrac = 0
        ∧ (State.reset.chan ch).symLo = 0x76543210 ∧ (State.reset.chan ch).symHi = 0x77777A98
        ∧ ∀ d, (State.reset.chan ch).code d = (if d = 7 ∨ d = 8 then 0 else 0x4000))
    ∧ (∀ e, (State.reset.te e).deque = [])
    ∧ (∀ i, State.reset.siteSt i = .idle)

/-- The state after reset meets the invariant: memory in canonical form, page headers, site registers, log and deques
within the limits the specification gives them. -/
def Obligations.InvariantHoldsAtReset : Prop :=
 Inv State.reset

/-- Every step keeps the invariant, from every state that meets it. -/
def Obligations.EveryStepKeepsTheInvariant : Prop :=
 ∀ s t : State, Inv s → step s = .next t → Inv t

/-! ### Shared effects -/

/-- Setting causes on a page (R93): its STATUS takes the bits, and each bit of STATUS AND ENABLE that goes from 0 to 1 and
whose vector is open sends one message; no other page's header, and nothing but MSI-X state, changes. -/
def Obligations.CauseSetsStatusAndSendsMessages : Prop :=
  ∀ (s : State) (ty inst m : Nat), inst < 256 →
    (s.cause ty inst m).hdr ty inst = { s.hdr ty inst with irqStatus := (s.hdr ty inst).irqStatus ||| m }
    ∧ (∀ a b, b < 256 → (a, b) ≠ (ty, inst) → (s.cause ty inst m).hdr a b = s.hdr a b)
    ∧ Only causeParts s (s.cause ty inst m)
    ∧ (∀ k, k < 32 → ty ≠ Ty.pwr → m = 2 ^ k → bit (s.hdr ty inst).irqStatus k = false → bit (s.hdr ty inst).irqEnable k = true →
        (s.fn (fnOfOwner (s.hdr ty inst).owner)).msixOn = true →
        Tbl.get false (s.fn (fnOfOwner (s.hdr ty inst).owner)).msixOpen (s.hdr ty inst).vector = true →
        (s.cause ty inst m).outs = .msix (fnOfOwner (s.hdr ty inst).owner) (s.hdr ty inst).vector :: s.outs)

/-- Raising an error (R393): the source page's error count grows, saturating at 65,535, and its last code and the ERR page's
last-error registers name it; nothing but headers, the log, MSI-X and the log queues of sites changes. -/
def Obligations.ErrorIsCountedAndNamedOnItsPage : Prop :=
  ∀ (s : State) (code ty inst : Nat) (site : Option Nat) (detail : Nat), inst < 256 →
    ((s.raise code ty inst site detail).hdr ty inst).errCount = min 65535 ((s.hdr ty inst).errCount + 1)
    ∧ ((s.raise code ty inst site detail).hdr ty inst).lastCode = code
    ∧ (s.raise code ty inst site detail).err.lastCode = code
    ∧ (s.raise code ty inst site detail).err.lastTy = ty
    ∧ (s.raise code ty inst site detail).err.lastInst = inst
    ∧ Only errorParts s (s.raise code ty inst site detail)

/-! ### Queues and doorbells (15 R317 to R325) -/

/-- Doorbells that are served (R324): TAIL on a segment or command queue moves TAIL, HEAD on a stream, completion or log queue
frees the slots before the index, RELEASE on a segment queue of a site that is IDLE, ARMED or RUNNING sets RELEASED.
A HEAD doorbell on a stream queue frees whole records and never splits one (R318, R324): an index at a record boundary moves HEAD
and leaves the records behind it, an index inside a record is dropped and counted.
A doorbell for a queue that is not the sender's, before the queue manager is ready, for a disabled queue or of a function under
reset is dropped, whatever its OP: QMGR_DB_DROP counts it, saturating, and the register pages, channels, engines and sites' bursts stand as
they were (R324, R351). -/
def Obligations.DoorbellsMoveOrAreDropped : Prop :=
  ((∀ (s : State) (fn q index : Nat), s.serves fn q = true → (s.queue q).type = 1 ∨ (s.queue q).type = 5 →
    s.isBound q = false → index < (s.queue q).slots →
    (s.queue q).used ≤ (index + (s.queue q).slots - (s.queue q).head) % (s.queue q).slots →
    ∃ t, exec (.doorbellTail fn q index) s = .next t ∧ (t.queue q).tail = index ∧ (t.queue q).head = (s.queue q).head
      ∧ (t.queue q).enable = true ∧ (∀ j, j ≠ q → t.queue j = s.queue j) ∧ Only [.queues, .bmem] s t)
  ∧ (∀ (s : State) (fn q index : Nat), s.serves fn q = true → (s.queue q).type = 3 ∨ (s.queue q).type = 4 →
    (s.queue q).head < (s.queue q).slots → index < (s.queue q).slots →
    (index + (s.queue q).slots - (s.queue q).head) % (s.queue q).slots ≤ (s.queue q).used →
    ∃ t, exec (.doorbellHead fn q index) s = .next t ∧ (t.queue q).head = index ∧ (t.queue q).tail = (s.queue q).tail
      ∧ (∀ j, j ≠ q → t.queue j = s.queue j) ∧ Only [.queues, .bmem, .fns, .outs] s t)
  ∧ (∀ (s : State) (fn q index : Nat), s.serves fn q = true → (s.queue q).type = 1 → index < (s.queue q).slots → index < 2 ^ 24 →
    s.siteSt (ownerOfFn fn) = .idle ∨ s.siteSt (ownerOfFn fn) = .armed ∨ s.siteSt (ownerOfFn fn) = .running →
    ∃ t, exec (.doorbellRelease fn (q + 2 * 2 ^ 20 + index * 2 ^ 32)) s = .next t
      ∧ t.queue q = { s.queue q with released := true } ∧ (∀ j, j ≠ q → t.queue j = s.queue j) ∧ Only [.queues, .bmem] s t))
  ∧ (∀ (s : State) (fn q index n : Nat), s.serves fn q = true → (s.queue q).type = 2 → (s.queue q).head < (s.queue q).slots →
    index < (s.queue q).slots → n = (index + (s.queue q).slots - (s.queue q).head) % (s.queue q).slots → n ≤ (s.queue q).used →
    (∀ rest : List Nat, recsAfter (s.queue q).recs n = some rest →
      ∃ t, exec (.doorbellHead fn q index) s = .next t ∧ (t.queue q).head = index ∧ (t.queue q).recs = rest
        ∧ (t.queue q).tail = (s.queue q).tail ∧ (∀ j, j ≠ q → t.queue j = s.queue j) ∧ Only [.queues, .bmem] s t)
    ∧ (recsAfter (s.queue q).recs n = none →
      exec (.doorbellHead fn q index) s = .next (s.dbDrop fn q Code.queueDbDrop)
        ∧ (s.dbDrop fn q Code.queueDbDrop).qmgr.dbDrop = min (2 ^ 32 - 1) (s.qmgr.dbDrop + 1)))
  ∧ (∀ (s : State) (fn q index : Nat), fn < 17 → q < 2 ^ 20 → s.fnUp fn = true →
    s.qmgr.ready = false ∨ s.qOwner q ≠ ownerOfFn fn ∨ (s.queue q).enable = false ∨ s.inReset fn = true →
    ∀ (op : Nat) (i : Instr), 2 ≤ op → op < 16 → index < 2 ^ 24 →
      i = .doorbellTail fn q index ∨ i = .doorbellHead fn q index ∨ i = .doorbellRelease fn (q + op * 2 ^ 20 + index * 2 ^ 32) →
      ∃ t, exec i s = .next t ∧ t.qmgr.dbDrop = min (2 ^ 32 - 1) (s.qmgr.dbDrop + 1) ∧ t.qmgr.ready = s.qmgr.ready
        ∧ Only (.qmgr :: errorParts) s t)

/-- PUSH staging (R325): PUSH_SEL selects a queue and discards what is staged; bytes written short of byte 63 are staged;
the write of byte 63 appends a complete entry to an owned, enabled segment or command queue with room: its 64 bytes stand
in the slot TAIL named, TAIL is one further, and no other byte of memory changes.
A held completion whose queue has a free slot is posted there, oldest first, and the LOST entry of a site's log queue
is written with the number of dropped entries once a slot is free, the count starting at 0 again (R321). -/
def Obligations.QueueEntriesAreAppendedWithRoom : Prop :=
  ((∀ (s : State) (fn val : Nat), fn < 17 → s.fnUp fn = true → (s.fn fn).inReset = false →
    exec (.pushSelWrite fn (.write 8 val)) s = .next (s.modFn fn (fun f => { f with pushSel := val % 2 ^ 20, push := [] })))
  ∧ (∀ (s : State) (fn off : Nat) (data : List Byte), fn < 17 → s.fnUp fn = true → (s.fn fn).inReset = false →
    off + data.length < 64 →
    exec (.pushWrite fn off data) s = .next (s.modFn fn (fun f => { f with push := stageBytes f.push off data })))
  ∧ (∀ (s : State) (fn off : Nat) (data e : List Byte), fn < 17 → s.fnUp fn = true → (s.fn fn).inReset = false →
    off + data.length = 64 → data ≠ [] → stagedEntry (stageBytes (s.fn fn).push off data) = some e →
    s.serves fn (s.fn fn).pushSel = true → (s.queue (s.fn fn).pushSel).type = 1 ∨ (s.queue (s.fn fn).pushSel).type = 5 →
    s.isBound (s.fn fn).pushSel = false → 0 < (s.queue (s.fn fn).pushSel).room →
    ∃ t, exec (.pushWrite fn off data) s = .next t ∧ (t.fn fn).push = []
      ∧ (∀ j, t.queue j = if j = (s.fn fn).pushSel then
          (s.queue j).append (((s.queue j).tail + 1) % (s.queue j).slots) s.uptime else s.queue j)
      ∧ (t.queue (s.fn fn).pushSel).tail = ((s.queue (s.fn fn).pushSel).tail + 1) % (s.queue (s.fn fn).pushSel).slots
      ∧ (∀ k, k < e.length →
          t.byte ((s.queue (s.fn fn).pushSel).base + 64 * (s.queue (s.fn fn).pushSel).tail + k) = e.getD k 0)
      ∧ (∀ a, a < (s.queue (s.fn fn).pushSel).base + 64 * (s.queue (s.fn fn).pushSel).tail ∨
          (s.queue (s.fn fn).pushSel).base + 64 * (s.queue (s.fn fn).pushSel).tail + e.length ≤ a → t.byte a = s.byte a)
      ∧ Only [.queues, .bmem, .fns, .mem] s t))
  ∧ ((∀ (s : State) (fn : Nat) (h : Nat × List Byte) (rest : List (Nat × List Byte)), fn < 17 →
    takeHeld (fun q => decide (0 < (s.queue q).room)) (s.fn fn).held = some (h, rest) →
    ∃ t, exec (.heldCompletionPost fn) s = .next t ∧ (t.fn fn).held = rest
      ∧ (t.queue h.1).tail = ((s.queue h.1).tail + 1) % (s.queue h.1).slots ∧ (t.queue h.1).head = (s.queue h.1).head
      ∧ (∀ k, k < h.2.length →
          t.byte ((s.queue h.1).base + slotSize (s.queue h.1).type * (s.queue h.1).tail + k) = h.2.getD k 0)
      ∧ Only [.fns, .queues, .mem, .bmem, .outs] s t)
  ∧ (∀ (s : State) (st : Nat), st < 16 → 0 < (s.site st).logLost → (s.site st).logEn = true → (s.site st).logQValid = true →
    0 < (s.queue (s.site st).logQ).room →
    ∃ t, exec (.logLostEntry st) s = .next t ∧ (t.site st).logLost = 0
      ∧ (t.queue (s.site st).logQ).tail = ((s.queue (s.site st).logQ).tail + 1) % (s.queue (s.site st).logQ).slots
      ∧ (∀ k, k < 2 → t.byte ((s.queue (s.site st).logQ).base
          + slotSize (s.queue (s.site st).logQ).type * (s.queue (s.site st).logQ).tail + k)
          = BitVec.ofNat 8 (Code.errLost / 256 ^ k))
      ∧ Only [.fns, .queues, .mem, .bmem, .outs, .sites] s t))

/-- The descriptor window (R319, R320): READ copies the selected descriptor of a queue the function may see into QMGR_DESC_0
to 3, and WRITE, when no check fails, stores the written BASE, LOG2_SLOTS, TYPE, ENABLE, RELEASED, IRQ_EN and VECTOR with
OWNER from the range rule, HEAD and TAIL 0 when it enables the queue and as they were otherwise. -/
def Obligations.DescriptorWindowReadsAndWrites : Prop :=
  (∀ (s : State) (fn : Nat), s.accepts fn Ty.qmgr 0 0x058 = true →
    fn = 0 ∨ s.qOwner (s.fn fn).descSel = ownerOfFn fn →
    ∃ t, exec (.descRead fn) s = .next t
      ∧ (t.fn fn).desc0 + (t.fn fn).desc1 * 2 ^ 32 + (t.fn fn).desc2 * 2 ^ 64 + (t.fn fn).desc3 * 2 ^ 96
          = (s.queue (s.fn fn).descSel).word
      ∧ (t.fn fn).descErr = 0 ∧ Only [.fns, .bmem] s t ∧ (∀ j, j ≠ fn → t.fn j = s.fn j))
  ∧ (∀ (s : State) (fn w : Nat), s.accepts fn Ty.qmgr 0 0x058 = true →
    w = (s.fn fn).desc0 + (s.fn fn).desc1 * 2 ^ 32 + (s.fn fn).desc2 * 2 ^ 64 + (s.fn fn).desc3 * 2 ^ 96 →
    s.descCheck fn (s.fn fn).descSel w = 0 →
    ∃ t, exec (.descWrite fn) s = .next t ∧ (t.fn fn).descErr = 0 ∧ Only [.fns, .queues, .bmem] s t
      ∧ (∀ j, j ≠ (s.fn fn).descSel → t.queue j = s.queue j)
      ∧ ∃ d, d = t.queue (s.fn fn).descSel ∧ d.base = w % 2 ^ 40 ∧ d.log2 = w / 2 ^ 40 % 32
          ∧ d.type = w / 2 ^ 97 % 8 ∧ d.enable = w.testBit 100 ∧ d.released = w.testBit 102 ∧ d.irqEn = w.testBit 103
          ∧ d.vector = w / 2 ^ 108 % 4096 ∧ (d.ownerFn = true ↔ s.qOwner (s.fn fn).descSel = 16)
          ∧ (w.testBit 100 = true ∧ (s.queue (s.fn fn).descSel).enable = false → d.head = 0 ∧ d.tail = 0)
          ∧ (w.testBit 100 = false ∨ (s.queue (s.fn fn).descSel).enable = true →
              d.head = (s.queue (s.fn fn).descSel).head ∧ d.tail = (s.queue (s.fn fn).descSel).tail))

/-! ### Pin electronics and levels (10) -/

/-- PE_CTRL written with no check against it (R199 to R201, R426): without a change of RANGE the fields are in force at once;
a change of RANGE starts, and 5 µs later DRIVER_RANGE_DONE puts the written DRV_MODE, TERM_EN and CLAMP_EN in force, clears
the change and sets cause RANGE_DONE; clamps that do not act conduct nothing.
PE_CTRL refused (R199, R201, R424): a changed value while the channel's site is not IDLE draws BLK_BUSY, a DRV_MODE above 4 on an
idle, enabled channel PARAM_RANGE, and a drive mode while the PMU is connected PE_CONFLICT; no channel changes. -/
def Obligations.DriverControlActsOrRefuses : Prop :=
  ((∀ (s : State) (fn ch val : Nat), s.accepts fn Ty.pe ch 0x040 = true → s.chBusy ch = false →
    (s.hdr Ty.pe ch).en = true ∨ (val / 2 % 8 = 0 ∧ val.testBit 5 = false) → (s.chan ch).conAt = none → val / 2 % 8 ≤ 4 →
    (s.chan ch).pmuConn = false ∨ val / 2 % 8 = 0 → (s.chan ch).full = val.testBit 0 →
    exec (.peCtrlWrite fn ch val) s = .next (s.modChan ch (fun c => ({ c with
      drvMode := val / 2 % 8, term := val.testBit 4, clamp := val.testBit 5, ctrlNext := none } : Chan).settleClamps)))
  ∧ (∀ (s : State) (fn ch val : Nat), s.accepts fn Ty.pe ch 0x040 = true → s.chBusy ch = false →
    (s.hdr Ty.pe ch).en = true ∨ (val / 2 % 8 = 0 ∧ val.testBit 5 = false) → (s.chan ch).conAt = none → val / 2 % 8 ≤ 4 →
    (s.chan ch).pmuConn = false ∨ val / 2 % 8 = 0 → (s.chan ch).full ≠ val.testBit 0 → (s.chan ch).rangeAt = none →
    minPeriod (val.testBit 0) s.grade08 ≤ (s.chan ch).perInt →
    exec (.peCtrlWrite fn ch val) s = .next ((s.laneFree ch).modChan ch (fun c => { c with
      full := val.testBit 0, rangeAt := some s.up, ctrlNext := some (val / 2 % 8, val.testBit 4, val.testBit 5) })))
  ∧ (∀ (s : State) (ch a drv : Nat) (term clamp : Bool), ch < 192 → (s.chan ch).rangeAt = some a → a + 5 * fsUs ≤ s.up →
    (s.chan ch).ctrlNext = some (drv, term, clamp) →
    exec (.driverRangeDone ch) s = .next ((s.modChan ch (fun c => ({ c with
      drvMode := drv, term := term, clamp := clamp, ctrlNext := none, rangeAt := none } : Chan).settleClamps)).cause Ty.pe ch 1)))
  ∧ (∀ (s : State) (fn ch val : Nat), s.accepts fn Ty.pe ch 0x040 = true →
    (val % 64 ≠ (s.chan ch).peSettled.peCtrl → s.chBusy ch = true →
      exec (.peCtrlWrite fn ch val) s = .next (s.reject fn Code.blkBusy Ty.pe ch))
    ∧ (s.chBusy ch = false → (s.hdr Ty.pe ch).en = true → (s.chan ch).conAt = none → (s.chan ch).rangeAt = none →
        4 < val / 2 % 8 → exec (.peCtrlWrite fn ch val) s = .next (s.reject fn Code.paramRange Ty.pe ch))
    ∧ (s.chBusy ch = false → (s.hdr Ty.pe ch).en = true → (s.chan ch).conAt = none → (s.chan ch).full = val.testBit 0 →
        0 < val / 2 % 8 → val / 2 % 8 ≤ 4 → (s.chan ch).pmuConn = true →
        exec (.peCtrlWrite fn ch val) s = .next (s.reject fn Code.peConflict Ty.pe ch))
    ∧ ∀ code : Nat, Only errorParts s (s.reject fn code Ty.pe ch))

/-- The PMU (R200, R207 to R210, R219): a connection or disconnection is in force at once; a range of a disconnected PMU changes at
once; connected, the change runs make-before-break, in FIMV at the rescaled code: the old stage opens at 20 µs, and at 22 µs
the change ends with cause PMU_RANGE_DONE; reaching a limit and a fallback to local sense are flagged with their causes. -/
def Obligations.PmuConnectsAndChangesRange : Prop :=
  (∀ (s : State) (fn ch val : Nat), s.accepts fn Ty.pe ch 0x04C = true → (s.hdr Ty.pe ch).en = true →
    (s.chan ch).conAt = none → (val % 4 = 1 ∨ val % 4 = 2) → val.testBit 2 = true → (s.chan ch).pmuConn = false →
    (s.chan ch).drvMode = 0 → (s.chan ch).ctrlNext = none → (s.chan ch).loadMode = 0 →
    ∃ t, exec (.pePmuCtrlWrite fn ch val) s = .next t ∧ (t.chan ch).pmuConn = true ∧ (t.chan ch).pmuMode = val % 4
      ∧ (t.chan ch).pmuSense = val.testBit 3 ∧ (t.chan ch).pmuRange = (s.chan ch).pmuRange ∧ (t.chan ch).codes = (s.chan ch).codes
      ∧ Only [.chans, .clus] s t ∧ ∀ c, c ≠ ch → t.chan c = s.chan c)
  ∧ (∀ (s : State) (fn ch val : Nat), s.accepts fn Ty.pe ch 0x04C = true → (s.chan ch).conAt = none → val % 4 ≠ 3 →
    val.testBit 2 = false →
    ∃ t, exec (.pePmuCtrlWrite fn ch val) s = .next t ∧ (t.chan ch).pmuConn = false ∧ (t.chan ch).pmuMode = val % 4
      ∧ (t.chan ch).pmuAt = none ∧ (t.chan ch).pmuOld = false ∧ (t.chan ch).compliance = false ∧ Only [.chans] s t
      ∧ ∀ c, c ≠ ch → t.chan c = s.chan c)
  ∧ (∀ (s : State) (fn ch val : Nat), s.accepts fn Ty.pe ch 0x050 = true → (s.chan ch).pmuAt = none → val % 8 ≤ 4 →
    (s.chan ch).pmuConn = false → val % 8 ≠ (s.chan ch).pmuRange →
    exec (.pePmuRangeWrite fn ch val) s = .next (s.modChan ch (fun c => { c with pmuRange := val % 8 })))
  ∧ (∀ (s : State) (fn ch val : Nat), s.accepts fn Ty.pe ch 0x050 = true → (s.chan ch).pmuAt = none → val % 8 ≤ 4 →
    (s.chan ch).pmuConn = true → (s.chan ch).pmuMode ≠ 2 → val % 8 ≠ (s.chan ch).pmuRange →
    exec (.pePmuRangeWrite fn ch val) s = .next ((s.laneFree ch).modChan ch (fun c => { c with
      pmuRange := val % 8, pmuAt := some s.up, pmuOld := true, pmuWas := c.pmuRange, pmuHold := c.applied 9,
      rangingTo := s.up + 22 * fsUs })))
  ∧ (∀ (s : State) (fn ch val : Nat) (new : Int), s.accepts fn Ty.pe ch 0x050 = true → (s.chan ch).pmuAt = none → val % 8 ≤ 4 →
    (s.chan ch).pmuConn = true → (s.chan ch).pmuMode = 2 → val % 8 ≠ (s.chan ch).pmuRange →
    new = pmuRescale ((s.chan ch).applied 9) (s.chan ch).pmuRange (val % 8) → 384 ≤ new → new ≤ 32384 →
    ∃ t, exec (.pePmuRangeWrite fn ch val) s = .next t ∧ ((t.chan ch).code 9 : Int) = new ∧ (t.chan ch).pmuRange = val % 8
      ∧ (t.chan ch).pmuAt = some s.up ∧ (t.chan ch).pmuOld = true ∧ (t.chan ch).pmuWas = (s.chan ch).pmuRange
      ∧ Only [.chans, .clus] s t ∧ ∀ c, c ≠ ch → t.chan c = s.chan c)
  ∧ (∀ (s : State) (ch a : Nat), ch < 192 → (s.chan ch).pmuAt = some a → a + 20 * fsUs ≤ s.up →
    exec (.pmuOldStageOpen ch) s = .next (s.modChan ch (fun c => { c with pmuOld := false })))
  ∧ (∀ (s : State) (ch a : Nat), ch < 192 → (s.chan ch).pmuAt = some a → a + 22 * fsUs ≤ s.up →
    exec (.pmuRangeDone ch) s = .next ((s.modChan ch (fun c => { c with pmuAt := none, pmuOld := false })).cause Ty.pe ch 2))
  ∧ (∀ (s : State) (ch : Nat) (x : Int), ch < 192 → (s.chan ch).pmuConn = true → (s.chan ch).pmuAtLimit x = true →
    (s.chan ch).compliance = false →
    exec (.pmuCompliance ch x) s = .next ((s.modChan ch (fun c => { c with compliance := true })).cause Ty.pe ch 4))
  ∧ (∀ (s : State) (ch : Nat) (x : Int), ch < 192 → (s.chan ch).pmuConn = false ∨ (s.chan ch).pmuAtLimit x = false →
    exec (.pmuCompliance ch x) s = .next (s.modChan ch (fun c => { c with compliance := false })))
  ∧ (∀ (s : State) (ch : Nat), ch < 192 → (s.chan ch).pmuConn = true → (s.chan ch).pmuSense = false → (s.chan ch).senseFb = false →
    exec (.pmuSenseFallback ch) s = .next
      (((s.modChan ch (fun c => { c with senseFb := true })).cause Ty.pe ch 64).raisePage Code.pmuSense Ty.pe ch))

/-- Clamps (R204, R205): a start of conduction of a programmable clamp that acts, or of a protective clamp of a powered die, is
counted, saturating at 65,535, flagged and sets cause CLAMP or PROT; the end of conduction clears the active flag alone.
The contact test (R217): START on an idle, enabled, Hi-Z channel starts the test with its result 0; 60 µs later the result is
SHORT within 200 mV of 0, OPEN at 1.5 V or more in magnitude, else PASS, with cause CONTACT_DONE. -/
def Obligations.ClampsAndContactTest : Prop :=
  ((∀ (s : State) (ch : Nat), ch < 192 → (s.chan ch).clampsAct = true → (s.chan ch).vchAct = false →
    exec (.clampConduct ch true true) s = .next ((s.modChan ch (fun c => { c with
      clEvents := min 65535 (c.clEvents + 1), vchAct := true, vchSeen := true })).cause Ty.pe ch 8))
  ∧ (∀ (s : State) (ch : Nat), ch < 192 → (s.chan ch).clampsAct = true → (s.chan ch).vclAct = false →
    exec (.clampConduct ch false true) s = .next ((s.modChan ch (fun c => { c with
      clEvents := min 65535 (c.clEvents + 1), vclAct := true, vclSeen := true })).cause Ty.pe ch 8))
  ∧ (∀ (s : State) (ch : Nat), ch < 192 →
    exec (.clampConduct ch true false) s = .next (s.modChan ch (fun c => { c with vchAct := false }))
    ∧ exec (.clampConduct ch false false) s = .next (s.modChan ch (fun c => { c with vclAct := false })))
  ∧ (∀ (s : State) (ch : Nat), ch < 192 → s.stage = .on → s.pwr.analogOff = false →
    exec (.protClampConduct ch true) s = .next ((s.modChan ch (fun c => { c with
      clEvents := min 65535 (c.clEvents + 1), protHi := true })).cause Ty.pe ch 16)
    ∧ exec (.protClampConduct ch false) s = .next ((s.modChan ch (fun c => { c with
      clEvents := min 65535 (c.clEvents + 1), protLo := true })).cause Ty.pe ch 16)))
  ∧ ((∀ (s : State) (fn ch pol cur : Nat), s.accepts fn Ty.pe ch 0x05C = true → s.siteIdle (s.chOwner ch) = true →
    (s.chan ch).conAt = none → (s.hdr Ty.pe ch).en = true → (s.chan ch).isHiz s.now s.up = true →
    exec (.contactTestStart fn ch pol cur) s = .next ((s.laneFree ch).modChan ch (fun c => { c with
      conPol := decide (pol % 2 = 1), conCur := cur % 4, conAt := some s.up, conRes := 0 })))
  ∧ (∀ (s : State) (ch a : Nat) (mv : Int), ch < 192 → (s.chan ch).conAt = some a → a + 60 * fsUs ≤ s.up →
    exec (.contactTestDone ch mv) s = .next ((s.modChan ch (fun c => { c with
      conAt := none,
      conRes := if -200 < mv ∧ mv < 200 then 3 else if mv ≤ -1500 ∨ 1500 ≤ mv then 2 else 1 })).cause Ty.pe ch 32)))

/-- Levels (R212, R214, R215, R219): LVL_DAC_d stores every code, unless a queue entry set that DAC in the same CCLK cycle, whose code
stands; a queue push with room inserts the entry stamped with the arrival TT; FLUSH empties the queue unapplied; an engine entry
that finds 64 waiting is dropped, counted and reported, one stamped at or before the latest tick is marked late, any other one is
inserted; the queue holds entries in ascending stamp order, equal stamps in order of arrival. -/
def Obligations.LevelCodesAndQueue : Prop :=
  (∀ (s : State) (fn ch d val : Nat), d < 10 → s.accepts fn Ty.lvl ch (0x040 + 4 * d) = true →
    (d ∈ (s.chan ch).lvlSet → (s.chan ch).lvlSetAt + fsNs ≤ s.up) →
    ∃ t, exec (.lvlDacWrite fn ch d val) s = .next t ∧ (t.chan ch).code d = val % 65536
      ∧ (∀ e, e ≠ d → (t.chan ch).code e = (s.chan ch).code e) ∧ (∀ c, c ≠ ch → t.chan c = s.chan c) ∧ Only [.chans] s t)
  ∧ (∀ (s : State) (fn ch d val : Nat), d < 10 → s.accepts fn Ty.lvl ch (0x040 + 4 * d) = true →
    d ∈ (s.chan ch).lvlSet → s.up < (s.chan ch).lvlSetAt + fsNs →
    ∃ t, exec (.lvlDacWrite fn ch d val) s = .next t ∧ (∀ c, t.chan c = s.chan c) ∧ Only [.chans] s t)
  ∧ (∀ (s : State) (fn ch val : Nat), s.accepts fn Ty.lvl ch 0x080 = true → (s.chan ch).lvlq.length < 64 →
    val / 65536 % 16 ≤ 9 →
    exec (.lvlQueuePush fn ch val) s = .next (s.modChan ch (fun c => { c with
      lvlq := lvlInsert { dac := val / 65536 % 16, code := val % 65536, stamp := s.now } c.lvlq })))
  ∧ (∀ (s : State) (fn ch val : Nat), s.accepts fn Ty.lvl ch 0x080 = true → 64 ≤ (s.chan ch).lvlq.length →
    exec (.lvlQueuePush fn ch val) s = .next (s.reject fn Code.levelQueueFull Ty.lvl ch))
  ∧ (∀ (s : State) (fn ch : Nat), s.accepts fn Ty.lvl ch 0x084 = true →
    exec (.lvlQueueFlush fn ch) s = .next (s.modChan ch (fun c => { c with lvlq := [] })))
  ∧ (∀ (s : State) (ch : Nat) (e : LvlEntry) (rest : List LvlEntry), ch < 192 → (s.chan ch).lvlFly = e :: rest →
    (s.hdr Ty.lvl ch).retired = false → (s.chan ch).lvlq.length < 64 →
    (∀ r, (s.site (s.chOwner ch)).lclkLast = some r → ttLt (r * 256) e.stamp = true) →
    ∃ t, exec (.lvlEntryArrive ch) s = .next t
      ∧ t.chan ch = { s.chan ch with lvlFly := rest, lvlq := lvlInsert e (s.chan ch).lvlq } ∧ Only [.chans] s t)
  ∧ (∀ (s : State) (ch r : Nat) (e : LvlEntry) (rest : List LvlEntry), ch < 192 → (s.chan ch).lvlFly = e :: rest →
    (s.hdr Ty.lvl ch).retired = false → (s.chan ch).lvlq.length < 64 → (s.site (s.chOwner ch)).lclkLast = some r →
    ttLe e.stamp (r * 256) = true →
    ∃ t, exec (.lvlEntryArrive ch) s = .next t
      ∧ t.chan ch = { s.chan ch with lvlFly := rest, lvlq := lvlInsert e (s.chan ch).lvlq, lvlLate := true }
      ∧ (t.hdr Ty.lvl ch).irqStatus.testBit 2 = true ∧ Only (.chans :: causeParts) s t)
  ∧ (∀ (s : State) (ch : Nat) (e : LvlEntry) (rest : List LvlEntry), ch < 192 → (s.chan ch).lvlFly = e :: rest →
    (s.hdr Ty.lvl ch).retired = false → 64 ≤ (s.chan ch).lvlq.length →
    ∃ t, exec (.lvlEntryArrive ch) s = .next t ∧ t.chan ch = { s.chan ch with
      lvlFly := rest, lvlOver := true, lvlDrop := min 255 ((s.chan ch).lvlDrop + 1) } ∧ Only (.chans :: errorParts) s t)
  ∧ (∀ (e : LvlEntry) (l : List LvlEntry), (∀ x ∈ e :: l, x.stamp < 2 ^ 63) → l.Pairwise (fun a b => a.stamp ≤ b.stamp) →
      (lvlInsert e l).Pairwise (fun a b => a.stamp ≤ b.stamp) ∧ (lvlInsert e l).length = l.length + 1
      ∧ (lvlInsert e l).filter (fun x => x.stamp == e.stamp) = l.filter (fun x => x.stamp == e.stamp) ++ [e])

/-! ### Timing generators (09), pin event FIFOs (08 R153 to R157) -/

/-- The minimum period of R3 by range and grade: 1,280 fine steps in the full range, 256 (16 GT/s grade) or 512 in the fast one.
A write of TG_PERIOD_HI that commits less is rejected: no channel changes, and on a channel that takes period writes PARAM_RANGE is
logged against its page; at or above the minimum the period is the written one, never a clamped one. -/
def Obligations.PeriodBelowMinimumIsRejectedNotClamped : Prop :=
  ∀ (s : State) (fn ch val P : Nat), s.accepts fn Ty.tg ch 0x048 = true →
    P = s.lowHalf fn Ty.tg ch 0x044 ((s.chan ch).perInt % 2 ^ 32) + val % 65536 * 2 ^ 32 →
    (s.chBusy ch = false → P < (if (s.chan ch).full then 1280 else if s.grade08 then 512 else 256) →
      ∃ t, exec (.tgPeriodCommit fn ch val) s = .next t ∧ t.chans = s.chans
        ∧ (t.hdr Ty.tg ch).lastCode = Code.paramRange ∧ (t.hdr Ty.tg ch).errCount = min 65535 ((s.hdr Ty.tg ch).errCount + 1)
        ∧ Only errorParts s t)
    ∧ (s.chBusy ch = true → ∃ t, exec (.tgPeriodCommit fn ch val) s = .next t ∧ t.chans = s.chans
        ∧ (t.hdr Ty.tg ch).lastCode = Code.blkBusy ∧ Only errorParts s t)
    ∧ (s.chBusy ch = false → (if (s.chan ch).full then 1280 else if s.grade08 then 512 else 256) ≤ P →
      ∃ t, exec (.tgPeriodCommit fn ch val) s = .next t ∧ (t.chan ch).perInt = P ∧ (t.chan ch).perFrac = val / 65536 % 65536
        ∧ (∀ c, c ≠ ch → t.chan c = s.chan c) ∧ Only [.chans, .fns] s t)

/-- Symbol map and timesets of an idle channel (06 R120, 09 R181, R182, R184): a commit with no entry of 0xB to 0xF stores all 64
bits, one with such an entry changes no channel and reports PARAM_RANGE, and TG_EDGE_t_e and TG_FMT_t store every value.
Free runs (R191, R193): RUN = 1 on an idle, enabled channel in READY or RUN with a drive or DOFF symbol and a valid timeset starts
the run, its first UI at or after TT + 2 µs on the channel's grid; RUN = 0 asks a run with UIs begun to stop at its next UI,
ends one with none begun at once with cause FREERUN_STOP (its own region's channels alone can then take waiting coefficients, 14 R295),
and on a channel at rest stores TIMESET and SYMBOL. -/
def Obligations.SymbolMapTimesetsAndFreeRuns : Prop :=
  ((∀ (s : State) (fn ch val : Nat), s.accepts fn Ty.tg ch 0x054 = true → s.chBusy ch = false → mapBad val = false →
    mapBad (s.lowHalf fn Ty.tg ch 0x050 (s.chan ch).symLo) = false →
    ∃ t, exec (.tgSymmapCommit fn ch val) s = .next t ∧ (t.chan ch) = { s.chan ch with
        symLo := s.lowHalf fn Ty.tg ch 0x050 (s.chan ch).symLo, symHi := val % 2 ^ 32 }
      ∧ (∀ c, c ≠ ch → t.chan c = s.chan c) ∧ Only [.chans, .fns] s t)
  ∧ (∀ (s : State) (fn ch val : Nat), s.accepts fn Ty.tg ch 0x054 = true → s.chBusy ch = false → mapBad val = true →
    ∃ t, exec (.tgSymmapCommit fn ch val) s = .next t ∧ t.chans = s.chans ∧ t.err.lastCode = Code.paramRange)
  ∧ (∀ (s : State) (fn ch k e val : Nat), k < 64 → e < 8 → s.accepts fn Ty.tg ch (0x400 + 0x20 * k + 4 * e) = true →
    s.chBusy ch = false →
    ∃ t, exec (.timesetWrite fn ch k e val) s = .next t ∧ (t.chan ch).edge k e = val % 2 ^ 31
      ∧ (∀ k' e', e' < 8 → (k', e') ≠ (k, e) → (t.chan ch).edge k' e' = (s.chan ch).edge k' e')
      ∧ (t.chan ch).fmts = (s.chan ch).fmts ∧ (∀ c, c ≠ ch → t.chan c = s.chan c) ∧ Only [.chans] s t)
  ∧ (∀ (s : State) (fn ch k val : Nat), k < 64 → s.accepts fn Ty.tg ch (0xC00 + 4 * k) = true → s.chBusy ch = false →
    ∃ t, exec (.timesetWrite fn ch k 8 val) s = .next t
      ∧ (t.chan ch).fmt k = { format := val % 16, cmode := val.testBit 4, dscript := val / 256 % 65536, escript := val / 2 ^ 24 % 256 }
      ∧ (∀ j, j ≠ k → (t.chan ch).fmt j = (s.chan ch).fmt j) ∧ (t.chan ch).edges = (s.chan ch).edges
      ∧ (∀ c, c ≠ ch → t.chan c = s.chan c) ∧ Only [.chans] s t))
  ∧ ((∀ (s : State) (fn ch ts sym : Nat), s.accepts fn Ty.tg ch 0x058 = true → s.inMode [.ready, .run] = true →
    s.chBusy ch = false → (s.hdr Ty.tg ch).en = true → ts < 64 → sym ≤ 2 → (s.chan ch).tsValid ts = true → 0 < (s.chan ch).q →
    ∃ t, exec (.freerunStart fn ch ts sym) s = .next t ∧ (t.chan ch).frRun = true ∧ (t.chan ch).frTs = ts
      ∧ (t.chan ch).frSym = sym ∧ (t.chan ch).frU = 0 ∧ (t.chan ch).frStop = false
      ∧ s.now + 2 * fsUs ≤ (t.chan ch).frM0 * (t.chan ch).q / 65536
      ∧ (∀ m, m < (t.chan ch).frM0 → m * (s.chan ch).q < (s.now + 2 * fsUs) * 65536)
      ∧ (∀ c, c ≠ ch → t.chan c = s.chan c) ∧ Only [.chans] s t)
  ∧ (∀ (s : State) (fn ch ts sym : Nat), s.accepts fn Ty.tg ch 0x058 = true → (s.chan ch).frRun = true → (s.chan ch).frU ≠ 0 →
    exec (.freerunStop fn ch ts sym) s = .next (s.modChan ch (fun c => { c with frStop := true })))
  ∧ (∀ (s : State) (fn ch ts sym : Nat), s.accepts fn Ty.tg ch 0x058 = true → (s.chan ch).frRun = true → (s.chan ch).frU = 0 →
    ∃ t, exec (.freerunStop fn ch ts sym) s = .next t ∧ (t.chan ch).frRun = false ∧ (t.chan ch).frStop = false
      ∧ (t.hdr Ty.tg ch).irqStatus.testBit 3 = true ∧ (t.chan ch).high = (s.chan ch).high ∧ (t.chan ch).en = (s.chan ch).en
      ∧ (∀ c, c ≠ ch → t.chan c = s.chan c ∨ t.chan c = (s.chan c).boundary s.now) ∧ Only (.chans :: causeParts) s t)
  ∧ (∀ (s : State) (fn ch ts sym : Nat), s.accepts fn Ty.tg ch 0x058 = true → (s.chan ch).frRun = false → ts < 64 → sym ≤ 2 →
    exec (.freerunStop fn ch ts sym) s = .next (s.modChan ch (fun c => { c with frTs := ts, frSym := sym }))))

/-- A UI of the block in play begins at its place on the grid (R178, R184 to R187): at TT of the block + the span of its UIs
since the reference start, with a valid timeset, its driver edges join the waiting ones and a compare or CAPT symbol adds one
compare event; an invalid timeset plays no edge and is flagged and reported (R183); a UI from the abort point on does not play.
A UI of a free run begins likewise (R192), and a run asked to stop ends at its next UI (R193). -/
def Obligations.UisBeginOnTheGrid : Prop :=
  (∀ (s : State) (ch u : Nat) (p : Play), ch < 192 → (s.chan ch).play = some p → p.inert = false →
    u = p.blk.tt + (64 * p.blk.seq + p.k) * (s.chan ch).q / 65536 - 64 * p.blk.seq * (s.chan ch).q / 65536 → ttLe u s.now = true →
    (∀ a, s.abortPoint ch = some a → ttLt u a = true) → (s.chan ch).tsValid (p.blk.tss.getD p.k 0) = true → (s.chan ch).noDrive = false →
    ∃ t, exec (.uiStart ch) s = .next t
      ∧ (t.chan ch).play = (if p.k < 63 then some { p with k := p.k + 1 } else none)
      ∧ (t.chan ch).pedges = (s.chan ch).pedges
          ++ (s.chan ch).uiEdges u u (p.blk.tss.getD p.k 0) (p.blk.syms.getD p.k symHOLD)
      ∧ (t.chan ch).cmpEvs.length = (s.chan ch).cmpEvs.length
          + (if 3 ≤ p.blk.syms.getD p.k symHOLD ∧ p.blk.syms.getD p.k symHOLD ≤ 6 ∨ p.blk.syms.getD p.k symHOLD = 9 then 1 else 0)
      ∧ (∀ c, c ≠ ch → t.chan c = s.chan c) ∧ Only [.chans] s t)
  ∧ (∀ (s : State) (ch : Nat) (p : Play), ch < 192 → (s.chan ch).play = some p → p.inert = false →
    ttLe ((s.chan ch).uiStart p.blk.tt p.blk.seq p.k) s.now = true →
    (∀ a, s.abortPoint ch = some a → ttLt ((s.chan ch).uiStart p.blk.tt p.blk.seq p.k) a = true) →
    (s.chan ch).tsValid (p.blk.tss.getD p.k 0) = false →
    ∃ t, exec (.uiStart ch) s = .next t ∧ (t.chan ch).pedges = (s.chan ch).pedges ∧ (t.chan ch).cmpEvs = (s.chan ch).cmpEvs
      ∧ (t.chan ch).tsInv = true ∧ (t.hdr Ty.tg ch).lastCode = Code.tsInvalid ∧ Only (.chans :: errorParts) s t)
  ∧ (∀ (s : State) (ch a : Nat) (p : Play), ch < 192 → (s.chan ch).play = some p →
    ttLe ((s.chan ch).uiStart p.blk.tt p.blk.seq p.k) s.now = true → s.abortPoint ch = some a →
    ttLe a ((s.chan ch).uiStart p.blk.tt p.blk.seq p.k) = true →
    exec (.uiStart ch) s = .next (s.modChan ch (fun c => { c with play := none })))
  ∧ (∀ (s : State) (ch u : Nat), ch < 192 → (s.chan ch).play = none → (s.chan ch).frRun = true → (s.chan ch).frStop = false →
    (u : Int) = ((((s.chan ch).frM0 + (s.chan ch).frU) * (s.chan ch).q / 65536 : Nat) + (s.chan ch).frShift) % (2 ^ 64 : Nat) →
    ttLe u s.now = true → (s.chan ch).tsValid (s.chan ch).frTs = true → (s.chan ch).noDrive = false →
    ∃ t, exec (.uiStart ch) s = .next t ∧ t.chan ch = { s.chan ch with
        frU := (s.chan ch).frU + 1, pedges := (s.chan ch).pedges ++ (s.chan ch).uiEdges u u (s.chan ch).frTs
          (if (s.hdr Ty.tg ch).en then (s.chan ch).frSym else symHOLD) }
      ∧ Only [.chans] s t)
  ∧ (∀ (s : State) (ch u : Nat), ch < 192 → (s.chan ch).play = none → (s.chan ch).frRun = true → (s.chan ch).frStop = true →
    (u : Int) = ((((s.chan ch).frM0 + (s.chan ch).frU) * (s.chan ch).q / 65536 : Nat) + (s.chan ch).frShift) % (2 ^ 64 : Nat) →
    ttLe u s.now = true → (s.chan ch).pedges = [] →
    ∃ t, exec (.uiStart ch) s = .next t ∧ (t.chan ch).frRun = false ∧ (t.chan ch).frStop = false
      ∧ (t.hdr Ty.tg ch).irqStatus.testBit 3 = true ∧ Only (.chans :: causeParts) s t)

/-- The next driver edge, when its placed time has come and no edge of the UI that begins next precedes it (R188): one that would
change nothing leaves only the waiting list shorter; one at least Smin after the last edge of its path moves the level or the
enable; one closer is discarded, flagged EDGE_CONFLICT with its cause and reported. Data and enable paths alike. -/
def Obligations.EdgesApplyOrConflict : Prop :=
  ∀ (s : State) (ch : Nat) (p : PEdge) (to_ : Bool), ch < 192 → (s.chan ch).nextEdge (s.chan ch).pedges = some p →
    ttReached s.now ((s.chan ch).edgeTime p) = true →
    (∀ x ∈ s.nextEdges ch, ttReached ((s.chan ch).edgeTime x) ((s.chan ch).edgeTime p) = true) →
    (p.enable = false →
      to_ = (if p.act = 2 then !(s.chan ch).high else decide (p.act = 1)) →
      ((s.chan ch).high = to_ → exec (.edgeApply ch) s = .next (s.modChan ch (fun c => { c with pedges := c.pedges.erase p })))
      ∧ ((s.chan ch).high ≠ to_ → (∀ l, (s.chan ch).lastData = some l →
            l + ((s.chan ch).smin : Int) ≤ (s.chan ch).edgeTime p ∧ (s.chan ch).edgeTime p < l + 2 ^ 63) →
          exec (.edgeApply ch) s = .next (s.modChan ch (fun c => { c with
            pedges := c.pedges.erase p, high := to_, lastData := some (c.edgeTime p) })))
      ∧ (∀ l : Int, (s.chan ch).high ≠ to_ → (s.chan ch).lastData = some l → l ≤ (s.chan ch).edgeTime p →
          (s.chan ch).edgeTime p < l + ((s.chan ch).smin : Int) →
          exec (.edgeApply ch) s = .next (((s.modChan ch (fun c => { c with
            pedges := c.pedges.erase p, conflict := true })).cause Ty.tg ch 1).raisePage Code.edgeConflict Ty.tg ch)))
    ∧ (p.enable = true → to_ = decide (p.act = 1) →
      ((s.chan ch).en = to_ → exec (.edgeApply ch) s = .next (s.modChan ch (fun c => { c with pedges := c.pedges.erase p })))
      ∧ ((s.chan ch).en ≠ to_ → (∀ l, (s.chan ch).lastEn = some l →
            l + ((s.chan ch).smin : Int) ≤ (s.chan ch).edgeTime p ∧ (s.chan ch).edgeTime p < l + 2 ^ 63) →
          exec (.edgeApply ch) s = .next (s.modChan ch (fun c => { c with
            pedges := c.pedges.erase p, en := to_, lastEn := some (c.edgeTime p) })))
      ∧ (∀ l : Int, (s.chan ch).en ≠ to_ → (s.chan ch).lastEn = some l → l ≤ (s.chan ch).edgeTime p →
          (s.chan ch).edgeTime p < l + ((s.chan ch).smin : Int) →
          exec (.edgeApply ch) s = .next (((s.modChan ch (fun c => { c with
            pedges := c.pedges.erase p, conflict := true })).cause Ty.tg ch 1).raisePage Code.edgeConflict Ty.tg ch)))

/-- Blocks (R154 to R156, R193): one that arrives by its deadline, 32 ns before its TT, in a running burst, past T_s, in
sequence and clear of every other span joins the FIFO in ascending TT and is recorded; one after its deadline is not kept
and does not count as there; at its TT the head of the FIFO goes into play, or on a free-running channel is removed without effect, which is
reported once in a burst. -/
def Obligations.BlocksArriveAndAreReleased : Prop :=
  (∀ (s : State) (ch : Nat) (b : Block) (rest : List Block), ch < 192 → (s.chan ch).flying = b :: rest →
    (s.site b.site).st = .running → ttLe s.now b.deadline = true → ttLe (s.site b.site).startT b.tt = true →
    (s.hdr Ty.tg ch).retired = false → (∀ r, (s.chan ch).postRec b.segId = some r → r.next ≤ b.seq) → (s.chan ch).overlaps b = false →
    ∃ t, exec (.blockArrive ch) s = .next t ∧ (t.chan ch).fifo = fifoInsert b (s.chan ch).fifo ∧ (t.chan ch).flying = rest
      ∧ (t.chan ch).present b.segId b.seq = true
      ∧ (∀ c, c ≠ ch → t.chan c = s.chan c) ∧ Only [.chans, .hists] s t)
  ∧ (∀ (s : State) (ch : Nat) (b : Block) (rest : List Block), ch < 192 → (s.chan ch).flying = b :: rest →
    (s.site b.site).st = .running → ttLt b.deadline s.now = true →
    ∃ t, exec (.blockArrive ch) s = .next t ∧ (t.chan ch).fifo = (s.chan ch).fifo ∧ (t.chan ch).flying = rest
      ∧ (t.chan ch).inTime = (s.chan ch).inTime ∧ (∀ c, c ≠ ch → t.chan c = s.chan c) ∧ Only [.chans, .hists] s t)
  ∧ (∀ (s : State) (ch : Nat) (b : Block) (rest : List Block), ch < 192 → (s.chan ch).fifo = b :: rest → ttLe b.tt s.now = true →
    (s.site b.site).st = .running → (s.chan ch).frRun = false →
    ∃ t, exec (.blockRelease ch) s = .next t ∧ (t.chan ch).fifo = rest
      ∧ (t.chan ch).play = some { blk := b, k := 0, inert := !(s.hdr Ty.tg ch).en }
      ∧ (t.chan ch).maskNow = ((s.chan ch).mask || !(s.hdr Ty.cmp ch).en) ∧ (∀ c, c ≠ ch → t.chan c = s.chan c)
      ∧ Only [.chans, .fcus] s t)
  ∧ (∀ (s : State) (ch : Nat) (b : Block) (rest : List Block), ch < 192 → (s.chan ch).fifo = b :: rest → ttLe b.tt s.now = true →
    (s.site b.site).st = .running → (s.chan ch).frRun = true →
    ∃ t, exec (.blockRelease ch) s = .next t ∧ (t.chan ch).fifo = rest ∧ (t.chan ch).play = (s.chan ch).play ∧ (t.chan ch).pfLogged = true
      ∧ ((s.chan ch).pfLogged = true → Only [.chans] s t)
      ∧ ((s.chan ch).pfLogged = false → (t.hdr Ty.tg ch).lastCode = Code.pinFreerun ∧ Only (.chans :: errorParts) s t))
  ∧ (∀ (b : Block) (l : List Block), (∀ x ∈ b :: l, x.tt < 2 ^ 63) → l.Pairwise (fun x y => x.tt ≤ y.tt) →
      (fifoInsert b l).Pairwise (fun x y => x.tt ≤ y.tt) ∧ ∀ x : Block, x ∈ fifoInsert b l ↔ x = b ∨ x ∈ l)

/-! ### Compare logic and fail capture (11) -/

/-- A compare event at its strobe or window close (R222, R223, R224, R226): unmasked, its result, due 320 ns later, passes exactly
when the comparators show the expected outputs from open to close, and for CAPT carries the captured value; masked, it produces
none (R225). -/
def Obligations.CompareEventsProduceResults : Prop :=
  ∀ (s : State) (ch : Nat) (e : CmpEv) (a b : Int), ch < 192 → nextEv (s.chan ch).cmpEvs = some e →
    a = (s.chan ch).evOpen e → b = (s.chan ch).evClose e → ttReached s.now b = true →
    (e.masked = false → (s.chan ch).hard = false → (s.chan ch).held = false → (s.hdr Ty.cmp ch).retired = false →
      (s.chan ch).frRun = false → (∀ p, s.abortPoint ch = some p → ttReached b p = false) →
      ∃ t, exec (.compareEvent ch) s = .next t ∧ ∃ r, (t.chan ch).results = (s.chan ch).results ++ [r]
        ∧ (t.chan ch).cmpEvs = (s.chan ch).cmpEvs.erase e ∧ r.ev.sym = e.sym ∧ r.ev.segId = e.segId ∧ r.ev.seq = e.seq ∧ r.ev.k = e.k
        ∧ r.due = b + 320 * fsNs ∧ r.at_ = b
        ∧ (e.sym ≠ 9 → (r.pass = true ↔ (s.chan ch).violation e.sym e.window a b = none))
        ∧ (e.sym = 9 → r.pass = true ∧ r.capt = (s.chan ch).captBit e.window a b)
        ∧ (∀ c, c ≠ ch → t.chan c = s.chan c) ∧ Only [.chans] s t)
    ∧ (e.masked = true ∨ (s.chan ch).hard = true ∨ (s.chan ch).held = true ∨ (s.hdr Ty.cmp ch).retired = true ∨ (s.chan ch).frRun = true →
      exec (.compareEvent ch) s = .next (s.modChan ch (fun c => { c with cmpEvs := c.cmpEvs.erase e })))

/-- A fail record closes once every channel of its segment in the region is through with the block (R228, R230, R232): below the
degradation levels it goes whole into the site's ring, once, and the record is open no more; of a sealed site with no container it
is lost and counted (17 R361). A record of the ring moves to
the site's fail queue, freeing its bytes (R235).
Partition registers (R234, R236): the owner function's write of UNITS for an idle site resizes and clears the partition when the
units of all sites stay within 128, and the size it already has changes nothing; the same write by a site is denied; FCU_P_CTRL
sets the site's mode, SPARSE_EN and CAPT_EN in all four units. -/
def Obligations.FailRecordsAndPartitions : Prop :=
  ((∀ (s : State) (r segId seq : Nat) (c : FcuRec), r < 4 →
    (s.fcu r).recs.find? (fun c => c.segId == segId && c.seq == seq && s.recClosed r c && !s.recWaits r c) = some c →
    c.fails = [] → c.captUis = 0 →
    ∃ t, exec (.fcuRecordClose r segId seq) s = .next t ∧ (t.fcu r).recs = (s.fcu r).recs.erase c
      ∧ (∀ i, t.part r i = s.part r i) ∧ Only [.fcus, .sec, .queues, .mem, .bmem, .fns, .outs] s t
      ∧ ((∀ i, s.isSealed i = false) → Only [.fcus] s t))
  ∧ (∀ (s : State) (r segId seq k : Nat) (c : FcuRec), r < 4 →
    (s.fcu r).recs.find? (fun c => c.segId == segId && c.seq == seq && s.recClosed r c && !s.recWaits r c) = some c →
    c.fails.length = k → 0 < k → c.captUis = 0 → s.fcuMode c.site = 0 →
    (s.part r c.site).gap = false → (s.part r c.site).level = 0 →
    8 * (s.part r c.site).fill < (s.fcu r).l1 * ((s.part r c.site).units * 65536) →
    8 * (s.part r c.site).fill < (s.fcu r).l2 * ((s.part r c.site).units * 65536) → 0 < (s.part r c.site).units →
    (s.part r c.site).fill + 416 ≤ (s.part r c.site).units * 65536 → s.sealedEmpty c.site = false →
    s.overFrame c.site r (if k ≤ 4 ∧ (s.part r c.site).sparseEn then 64 else 416) = false →
    ∃ t, exec (.fcuRecordClose r segId seq) s = .next t ∧ ∃ rec, (t.part r c.site).ring = (s.part r c.site).ring ++ [rec]
      ∧ (t.fcu r).recs = (s.fcu r).recs.erase c
      ∧ (t.part r c.site).fill = (s.part r c.site).fill + rec.length ∧ (t.part r c.site).records = (s.part r c.site).records + 1
      ∧ (t.part r c.site).level = 0 ∧ (t.part r c.site).pseq = ((s.part r c.site).pseq + 1) % 65536
      ∧ rec.length = (if k ≤ 4 ∧ (s.part r c.site).sparseEn then 64 else 416)
      ∧ Only [.fcus, .sec, .queues, .mem, .bmem, .fns, .outs] s t ∧ ((∀ i, s.isSealed i = false) → Only [.fcus] s t))
  ∧ (∀ (s : State) (r segId seq : Nat) (c : FcuRec), r < 4 →
    (s.fcu r).recs.find? (fun c => c.segId == segId && c.seq == seq && s.recClosed r c && !s.recWaits r c) = some c →
    c.fails ≠ [] → c.captUis = 0 → s.fcuMode c.site = 0 → s.sealedEmpty c.site = true →
    ∃ t, exec (.fcuRecordClose r segId seq) s = .next t ∧ (t.fcu r).recs = (s.fcu r).recs.erase c
      ∧ (t.part r c.site).ring = (s.part r c.site).ring ∧ (t.part r c.site).fill = (s.part r c.site).fill
      ∧ (t.part r c.site).lost = min (2 ^ 32 - 1) ((s.part r c.site).lost + 1))
  ∧ (∀ (s : State) (r st : Nat) (rec : List Byte) (rest : List (List Byte)), r < 4 → st < 16 → (s.part r st).gap = false →
    (s.part r st).ups = [] → (s.part r st).ring = rec :: rest → (s.part r st).qValid = true → s.isSealed st = false →
    s.fcuHeld ((s.queue (s.part r st).queue).base + slotSize (s.queue (s.part r st).queue).type * (s.queue (s.part r st).queue).tail) = false →
    (rec.length + 15) / 16 ≤ (s.queue (s.part r st).queue).room →
    ∃ t, exec (.fcuRecordMove r st) s = .next t ∧ (t.part r st).ring = rest ∧ (t.part r st).fill = (s.part r st).fill - rec.length
      ∧ (t.queue (s.part r st).queue).recs = (s.queue (s.part r st).queue).recs ++ [(rec.length + 15) / 16]
      ∧ (t.queue (s.part r st).queue).tail = ((s.queue (s.part r st).queue).tail + (rec.length + 15) / 16) % (s.queue (s.part r st).queue).slots
      ∧ Only [.fcus, .queues, .mem, .bmem, .fns, .outs] s t))
  ∧ ((∀ (s : State) (r st val : Nat), st < 16 → s.accepts 0 Ty.fcu r (0x400 + 0x40 * st + 0x0C) = true → s.siteIdle st = true →
    val % 256 + ((List.range 16).filter (· != st)).foldl (fun n i => n + (s.part r i).units) 0 ≤ 128 →
    (val % 256 ≠ (s.part r st).units →
      ∃ t, exec (.fcuPSizeWrite 0 r st val) s = .next t ∧ (t.part r st).units = val % 256 ∧ (t.part r st).ring = []
        ∧ (t.part r st).fill = 0 ∧ (t.part r st).level = 0 ∧ (t.part r st).records = 0 ∧ (∀ i, i ≠ st → t.part r i = s.part r i)
        ∧ Only [.fcus] s t)
    ∧ (val % 256 = (s.part r st).units → exec (.fcuPSizeWrite 0 r st val) s = .next s))
  ∧ (∀ (s : State) (fn r st val : Nat), st < 16 → fn ≠ 0 → s.accepts fn Ty.fcu r (0x400 + 0x40 * st + 0x0C) = true →
    ∃ t, exec (.fcuPSizeWrite fn r st val) s = .next t ∧ t.fcus = s.fcus ∧ t.err.lastCode = Code.accessDenied)
  ∧ (∀ (s : State) (fn r st val : Nat), st < 16 → s.accepts fn Ty.fcu r (0x400 + 0x40 * st) = true → s.siteIdle st = true →
    ∃ t, exec (.fcuPCtrlWrite fn r st val) s = .next t ∧ (t.site st).fcuMode = val % 4
      ∧ (∀ i, i < 4 → (t.part i st).sparseEn = val.testBit 2 ∧ (t.part i st).captEn = val.testBit 3)
      ∧ Only [.fcus, .sites] s t))

/-! ### Bursts (02 R38, R39; 08 R159, R171 to R174; 16 R345 to R348) -/

/-- Burst commands in the states that take them (R345, R346): ARM on an IDLE site in RUN with an engine in service arms it; DISARM ends that; START
with a T at least LEAD ahead, counted from the end of a lane restoration still running (R288), makes 256 × T pending; STOP cuts the burst LEAD later;
ABORT aborts it, its deques emptied, with BURST_ABORT_LATE from the deadline where a block is missing by then (08 R158); ACK, with engines stopped and
FIFOs flushed, brings it to IDLE; an undefined OP stores PARAM_RANGE in LAST_REJECT and moves nothing else of the site.
Burst commands in any other state (R38, R345): each is rejected with its code in LAST_REJECT and the ERR page, and the site's
burst state stays. -/
def Obligations.BurstCommandsMoveTheSiteOrAreRejected : Prop :=
  (∀ (s : State) (fn st : Nat), s.accepts fn Ty.site st 0x044 = true →
    (∀ frame : Bool, s.inMode [.run] = true → (s.site st).st = .idle →
      (bitList (s.site st).teMask nEng).any (fun e => s.inService e) = true →
      ∃ t, exec (.burstArm fn st frame) s = .next t ∧ (t.site st).st = .armed ∧ (t.site st).srcFrame = frame
        ∧ (t.site st).abortCause = 0 ∧ (t.site st).pendStart = none ∧ (∀ i, i ≠ st → t.site i = s.site i)
        ∧ Only [.sites, .queues, .clus] s t)
    ∧ ((s.site st).st = .armed →
      ∃ t, exec (.burstDisarm fn st) s = .next t ∧ (t.site st).st = .idle ∧ (t.site st).pendStart = none
        ∧ (∀ i, i ≠ st → t.site i = s.site i) ∧ Only [.sites, .chans] s t)
    ∧ (∀ t24 T w, s.safeAsked = false → (s.glb.busy = false ∨ s.glb.mode ≠ .run ∨ s.glb.target = .run) → (s.site st).st = .armed →
      (s.site st).srcFrame = false → w = (s.restoreWait st + 255) / 256 → s.root + w ≤ T → T < s.root + w + 2 ^ 23 →
      T % 2 ^ 24 = t24 % 2 ^ 24 → s.restoreWait st + (s.site st).lead * fsNs ≤ (T - s.root) * 256 →
      exec (.burstStart fn st t24) s = .next (s.modSite st (fun x => { x with pendStart := some (T * 256 % 2 ^ 64) })))
    ∧ ((s.site st).st = .running →
      exec (.burstStop fn st) s = .next (s.modSite st (fun x => { x with cut := some ((s.now + x.lead * fsNs) % 2 ^ 64) })))
    ∧ ((s.site st).st = .running ∨ (s.site st).st = .draining →
      ∃ t, exec (.burstAbort fn st) s = .next t ∧ (t.site st).st = .aborted ∧ (t.site st).abortDone = false
        ∧ (s.missingNow st = none → (t.site st).abortCause = 2 ∧ (t.site st).abortT = some s.now)
        ∧ (∀ b tt, s.missingNow st = some b → s.missedAt b.1 b.2.1 b.2.2 st = some tt → (t.site st).abortCause = 1
            ∧ (t.site st).abortT = some ((tt + 2 ^ 64 - 32 * fsNs) % 2 ^ 64))
        ∧ (∀ e g, e < nEng → g ∈ (t.te e).deque → g.site ≠ st) ∧ Only burstParts s t)
    ∧ ((s.site st).st = .aborted → (s.site st).abortDone = true → s.flushed st = true →
      ∃ t, exec (.burstAck fn st) s = .next t ∧ (t.site st).st = .idle ∧ (t.site st).abortT = none ∧ Only (.fcus :: .sec :: burstParts) s t)
    ∧ (∀ op, op = 0 ∨ 7 ≤ op → op < 16 →
      ∃ t, exec (.burstCmdInvalid fn st op) s = .next t ∧ (t.site st).lastReject = Code.paramRange
        ∧ (t.site st).st = (s.site st).st ∧ t.err.lastCode = Code.paramRange ∧ Only errorParts s t))
  ∧ (∀ (s : State) (fn st : Nat), s.accepts fn Ty.site st 0x044 = true →
    ((s.inMode [.run] = false → (s.site st).st = .idle → ∀ frame : Bool,
        exec (.burstArm fn st frame) s = .next (s.rejectBurst st Code.burstMode))
    ∧ ((s.site st).st ≠ .idle → ∀ frame : Bool,
        exec (.burstArm fn st frame) s = .next (s.rejectBurst st Code.burstState))
    ∧ (s.inMode [.run] = true → (s.site st).st = .idle →
        (bitList (s.site st).teMask nEng).any (fun e => s.inService e) = false → ∀ frame : Bool,
        exec (.burstArm fn st frame) s = .next (s.rejectBurst st Code.burstNoEngine))
    ∧ ((s.glb.busy = true ∧ s.glb.mode = .run ∧ s.glb.target ≠ .run) ∨ s.safeAsked = true → ∀ t24,
        exec (.burstStart fn st t24) s = .next (s.rejectBurst st Code.burstMode))
    ∧ (s.safeAsked = false → s.glb.busy = false → (s.site st).st = .draining ∨ (s.site st).st = .aborted → ∀ t24,
        exec (.burstStart fn st t24) s = .next (s.rejectBurst st Code.burstState))
    ∧ ((s.site st).st ≠ .armed → exec (.burstDisarm fn st) s = .next (s.rejectBurst st Code.burstState))
    ∧ (s.safeAsked = false → s.glb.busy = false → (s.site st).st = .idle → ∀ t24,
        exec (.burstStart fn st t24) s = .next (s.rejectBurst st Code.burstNotArmed))
    ∧ (s.safeAsked = false → s.glb.busy = false → (s.site st).st = .running → ∀ t24,
        exec (.burstStart fn st t24) s = .next (s.rejectBurst st Code.burstBusy))
    ∧ (s.safeAsked = false → s.glb.busy = false → (s.site st).st = .armed → (s.site st).srcFrame = true → ∀ t24,
        exec (.burstStart fn st t24) s = .next (s.rejectBurst st Code.burstSource))
    ∧ (s.safeAsked = false → s.glb.busy = false → (s.site st).st = .armed → (s.site st).srcFrame = false → s.restoreWait st = 0 → ∀ T,
        s.root ≤ T → T < s.root + 2 ^ 24 → s.root + 2 ^ 23 ≤ T ∨ (T - s.root) * 256 < (s.site st).lead * fsNs →
        exec (.burstStart fn st (T % 2 ^ 24)) s = .next (s.rejectBurst st Code.burstLateStart))
    ∧ ((s.site st).st ≠ .running → exec (.burstStop fn st) s = .next (s.rejectBurst st Code.burstState))
    ∧ ((s.site st).st ≠ .running → (s.site st).st ≠ .draining →
        exec (.burstAbort fn st) s = .next (s.rejectBurst st Code.burstState))
    ∧ ((s.site st).st ≠ .aborted → exec (.burstAck fn st) s = .next (s.rejectBurst st Code.burstState))
    ∧ ((s.site st).st = .aborted → (s.site st).abortDone = false ∨ s.flushed st = false →
        exec (.burstAck fn st) s = .next (s.rejectBurst st Code.burstBusy))
    ∧ ∀ code, ((s.rejectBurst st code).site st).lastReject = code ∧ ((s.rejectBurst st code).site st).st = (s.site st).st
        ∧ (s.rejectBurst st code).err.lastCode = code ∧ Only errorParts s (s.rejectBurst st code)))

/-- Burst entries by time (R347, R348; 08 R159, R173, R174; 13 R277): at T_s − LEAD an ARMED site runs, its burst count one up; with no
work left and no STOP it drains; at T − LEAD of a cut it drains, later blocks dropped; drained and flushed it is IDLE; 32 ns after ABORTED
entry its FIFOs are empty and compares masked; 500 ns after its end its ACQ units count as flushed. -/
def Obligations.BurstEntriesByTime : Prop :=
  ∀ (s : State) (st : Nat), st < 16 →
    (∀ ts, (s.site st).pendStart = some ts → (s.site st).st = .armed →
      ttLe ts (s.now + (s.site st).lead * fsNs) = true →
      ∃ t, exec (.burstRunEntry st) s = .next t ∧ (t.site st).st = .running ∧ (t.site st).startT = ts
        ∧ (t.site st).pendStart = none ∧ (t.site st).burstCount = ((s.site st).burstCount + 1) % 2 ^ 32
        ∧ (∀ i, i ≠ st → t.site i = s.site i) ∧ Only burstParts s t)
    ∧ ((s.site st).st = .running → (s.site st).cut = none → s.workLeft st = false →
      exec (.burstDrainEntry st) s = .next (s.modSite st (fun x => { x with
        st := .draining, drainT := s.now, acqFlushed := false })))
    ∧ (∀ T, (s.site st).cut = some T → (s.site st).st = .running →
      ttLe T (s.now + (s.site st).lead * fsNs) = true →
      ∃ t, exec (.stopDrainEntry st) s = .next t ∧ (t.site st).st = .draining ∧ (t.site st).drainT = s.now
        ∧ (∀ ch, ch < nChan → s.chOwner ch = st → (t.chan ch).fifo = (s.chan ch).fifo.filter (fun b => ttLt b.tt T))
        ∧ (∀ ch, s.chOwner ch ≠ st → t.chan ch = s.chan ch)
        ∧ (∀ e g, e < nEng → g ∈ (t.te e).deque → g.site ≠ st) ∧ Only [.sites, .tes, .queues, .chans, .caches] s t)
    ∧ ((s.site st).st = .draining → s.flushed st = true → s.segsLeft st = false → s.fcuFlushed st = true →
        s.endedLeft st = false → ((s.site st).acqFlushed = true ∨ s.siteAcqs st = []) →
      ∃ t, exec (.burstIdleEntry st) s = .next t ∧ (t.site st).st = .idle ∧ (t.site st).cut = none ∧ Only (.fcus :: .sec :: burstParts) s t)
    ∧ (∀ a, (s.site st).abortT = some a → (s.site st).abortDone = false → ttLe (a + 32 * fsNs) s.now = true →
      ∃ t, exec (.abortPoint st) s = .next t ∧ (t.site st).abortDone = true
        ∧ (∀ ch, ch < nChan → s.chOwner ch = st → (t.chan ch).fifo = [] ∧ (t.chan ch).hard = true)
        ∧ (∀ ch, s.chOwner ch ≠ st → t.chan ch = s.chan ch) ∧ Only (.sites :: .chans :: causeParts) s t)
    ∧ (∀ a, ((s.site st).st = .draining ∧ a = (s.site st).drainT) ∨ ((s.site st).st = .aborted ∧ some a = (s.site st).abortT) →
      ttLe (a + 500 * fsNs) s.now = true → s.isSealed st = false →
      exec (.acqBurstFlush st) s = .next (s.modSite st (fun x => { x with acqFlushed := true })))

/-! ### Modes (02 R34 to R52) -/

/-- Mode requests of the owner function with no transition in progress (R35, R36, R49): each transition of the table begins, MODE
kept, BUSY 1 and TARGET the new mode; a request for SAFE holds new NOR writes, and in SAFE only sets cause REQUEST; a request whose
condition fails is rejected with the table's code, and every other pair, or a REQ of 0, 6 or 7, with MODE_ILLEGAL; with a transition in
progress every request is rejected with MODE_BUSY. -/
def Obligations.ModeRequestsFollowTheTable : Prop :=
  (∀ (s : State) (fn : Nat), s.accepts fn Ty.glb 0 0x040 = true → s.glb.busy = false →
    (s.glb.mode = .ready → exec (.modeReqRun fn) s = .next (s.modGlb (fun g => { g with
        busy := true, target := .run, toSafe := false, reqAt := some s.uptime })))
    ∧ (s.glb.mode = .ready → ∃ t, exec (.modeReqService fn) s = .next t ∧ t.glb.mode = .ready ∧ t.glb.busy = true
        ∧ t.glb.target = .service ∧ (∀ ch, ch < nChan → t.inHiz ch) ∧ (∀ i, i < 4 → (t.cal i).state = 0 ∨ 4 < (t.cal i).state)
        ∧ Only modeParts s t)
    ∧ (s.glb.mode = .ready → (∀ ch, ch < nChan → (s.chan ch).frRun = false) →
        ∃ t, exec (.modeReqCal fn) s = .next t ∧ t.glb.mode = .ready ∧ t.glb.busy = true ∧ t.glb.target = .cal
          ∧ (∀ ch, ch < nChan → t.inHiz ch) ∧ (∀ i, i < 4 → (t.cal i).state = 0 ∨ 4 < (t.cal i).state) ∧ Only modeParts s t)
    ∧ (∀ ch, s.glb.mode = .ready → ch < nChan → (s.chan ch).frRun = true →
        exec (.modeReqCal fn) s = .next (s.modeReject Code.modeBusy))
    ∧ (∀ force : Bool, s.glb.mode = .run → s.allIdle = true ∨ force = true →
        ∃ t, exec (.modeReqReady fn force) s = .next t ∧ t.glb.mode = .run ∧ t.glb.busy = true ∧ t.glb.target = .ready
          ∧ (∀ i, i < 16 → (t.site i).st = .idle ∨ (t.site i).st = .aborted) ∧ Only modeParts s t)
    ∧ (∀ force : Bool, s.glb.mode = .safe → s.readyOk = true →
        exec (.modeReqReady fn force) s = .next (s.modGlb (fun g => { g with
          busy := true, target := .ready, toSafe := false, reqAt := some s.uptime })))
    ∧ (∀ force : Bool, s.glb.mode = .safe → s.readyOk = false →
        exec (.modeReqReady fn force) s = .next (s.modeReject Code.modeCauseActive))
    ∧ (∀ force : Bool, s.glb.mode = .cal ∨ s.glb.mode = .service →
        ∃ t, exec (.modeReqReady fn force) s = .next t ∧ t.glb.mode = s.glb.mode ∧ t.glb.busy = true ∧ t.glb.target = .ready
          ∧ (s.glb.mode = .service → t.glb.reboot = s.glb.fwCommitted) ∧ (∀ ch, ch < nChan → t.inHiz ch) ∧ Only modeParts s t)
    ∧ (∀ force : Bool, s.glb.mode = .ready ∨ s.glb.mode = .cal ∨ s.glb.mode = .service
          ∨ (s.glb.mode = .run ∧ (s.allIdle = true ∨ force = true)) →
        ∃ t, exec (.modeReqSafe fn force) s = .next t ∧ t.glb.mode = s.glb.mode ∧ t.glb.busy = true ∧ t.glb.target = .safe
          ∧ t.glb.safeReq = true ∧ t.pwr.norHold = true ∧ t.nor = s.nor
          ∧ (∀ ch, ch < nChan → t.inHiz ch) ∧ (∀ i, i < 16 → (t.site i).st = .idle ∨ (t.site i).st = .aborted)
          ∧ (∀ k, k < nClu → (t.acq k).run = false ∧ (t.hist k).run = false) ∧ Only modeParts s t)
    ∧ (∀ force : Bool, s.glb.mode = .safe → ∃ t, exec (.modeReqSafe fn force) s = .next t ∧ t.glb.cause = s.glb.cause ||| 256
        ∧ t.glb.mode = .safe ∧ t.glb.busy = false ∧ (t.hdr Ty.glb 0).irqStatus.testBit 0 = true ∧ Only (.glb :: causeParts) s t)
    ∧ (s.glb.mode = .run → s.allIdle = false → exec (.modeReqReady fn false) s = .next (s.modeReject Code.modeBusy)
        ∧ exec (.modeReqSafe fn false) s = .next (s.modeReject Code.modeBusy))
    ∧ (s.glb.mode ≠ .ready → exec (.modeReqRun fn) s = .next (s.modeReject Code.modeIllegal)
        ∧ exec (.modeReqCal fn) s = .next (s.modeReject Code.modeIllegal)
        ∧ exec (.modeReqService fn) s = .next (s.modeReject Code.modeIllegal))
    ∧ (s.glb.mode = .ready → ∀ force : Bool, exec (.modeReqReady fn force) s = .next (s.modeReject Code.modeIllegal))
    ∧ (∀ val, val % 8 = 0 ∨ val % 8 = 6 ∨ val % 8 = 7 →
        exec (.modeReqIllegal fn val) s = .next (s.modeReject Code.modeIllegal)))
  ∧ (∀ (s : State) (fn : Nat) (force : Bool) (val : Nat), s.accepts fn Ty.glb 0 0x040 = true → s.glb.busy = true →
    exec (.modeReqRun fn) s = .next (s.modeReject Code.modeBusy) ∧ exec (.modeReqCal fn) s = .next (s.modeReject Code.modeBusy)
    ∧ exec (.modeReqService fn) s = .next (s.modeReject Code.modeBusy)
    ∧ exec (.modeReqReady fn force) s = .next (s.modeReject Code.modeBusy)
    ∧ exec (.modeReqSafe fn force) s = .next (s.modeReject Code.modeBusy)
    ∧ exec (.modeReqIllegal fn val) s = .next (s.modeReject Code.modeBusy))
  ∧ (∀ (s : State) (code : Nat), (s.modeReject code).glb.lastReject = code ∧ (s.modeReject code).glb.mode = s.glb.mode
    ∧ (s.modeReject code).err.lastCode = code ∧ Only (.glb :: errorParts) s (s.modeReject code))

/-- Transitions end (R35, R36, R40, R45, R49): MODE_TRANSITION_DONE, with no Hi-Z sequence running or due and on an owner request for SAFE no
NOR write, enters TARGET with BUSY 0, setting cause REQUEST on such a request; one that activates a firmware image enters SAFE with the
boot steps due again. BOOT_READY, every boot step done and the condition for READY met, enters READY, clears BOOT and at the first entry
since power-up sets WARMUP and BOOT_MS. A WARMUP_SAMPLE 10 ms on from the last ends the warm-up when it closes 60 s in which the six-sensor
sum of every region spread by less than 6 × 512 units of 1/1,024 °C, and 900 s end it in any case.
The Hi-Z sequence (R42 to R44; 10 R206): its end leaves the load off and the PMU disconnected, and on SAFE entry the clamps off, the
level codes 0 V and the level queue empty; the analog link watchdog brings every channel of its die there at once. -/
def Obligations.TransitionsWarmUpAndHiZEnd : Prop :=
  ((∀ s : State, s.stage = .on → s.glb.busy = true → s.glb.seq = false → s.glb.reboot = false →
    (∀ ch, ch < nChan → (s.chan ch).hiz = none ∧ (s.chan ch).hizDue = none) →
    (s.glb.mode = .safe → s.glb.target = .ready → s.sec.wiping = []) →
    (s.glb.safeReq = true → s.norBusy = false) →
    ∃ t, exec .modeTransitionDone s = .next t ∧ t.glb.mode = s.glb.target ∧ t.glb.busy = false ∧ t.glb.target = s.glb.target
      ∧ (t.hdr Ty.glb 0).irqStatus.testBit 0 = true
      ∧ (s.glb.target = .safe → s.glb.safeReq = true → t.glb.cause = s.glb.cause ||| 256) ∧ Only (.hbms :: modeParts) s t)
  ∧ (∀ s : State, s.stage = .on → s.glb.busy = true → s.glb.seq = false → s.glb.reboot = true →
    (∀ ch, ch < nChan → (s.chan ch).hiz = none ∧ (s.chan ch).hizDue = none) → s.glb.mode = .service → s.glb.safeReq = false →
    ∃ t, exec .modeTransitionDone s = .next t ∧ t.glb.mode = .safe ∧ t.glb.busy = true ∧ t.glb.target = s.glb.target
      ∧ t.glb.fwOk = false ∧ t.glb.mcLoaded = false ∧ t.glb.calLoaded = false ∧ t.glb.fwCommitted = false ∧ Only modeParts s t)
  ∧ (∀ s : State, s.stage = .on → s.glb.mode = .safe → s.glb.busy = true → s.glb.seq = true → s.glb.pwrOk = true → s.glb.fwOk = true →
    s.glb.bmemClear = true → s.glb.hbmClear = true → s.glb.mcLoaded = true → s.glb.retireLoaded = true → s.glb.calLoaded = true →
    (s.readyOk = true → ∃ t, exec .bootReady s = .next t ∧ t.glb.mode = .ready ∧ t.glb.busy = false ∧ t.glb.cause % 2 = 0
      ∧ t.glb.readied = true
      ∧ (s.glb.readied = false → t.glb.warmup = true ∧ t.glb.warmAt = s.up ∧ t.glb.bootMs = min 65535 ((s.up - s.glb.goodAt) / fsMs))
      ∧ (s.glb.readied = true → t.glb.bootMs = s.glb.bootMs) ∧ Only (.hbms :: modeParts) s t)
    ∧ (s.lcHeld = true → ∃ t, exec .bootReady s = .next t ∧ t.glb.mode = .safe ∧ t.glb.busy = false ∧ t.glb.target = .safe
        ∧ Only (.glb :: causeParts) s t))
  ∧ (∀ s : State, s.stage = .on → s.glb.warmup = true → s.glb.readied = true →
    (if s.glb.warmN = 0 then s.glb.warmAt else s.glb.warmLast + 10 * fsMs) ≤ s.up →
    ∃ t, exec .warmupSample s = .next t ∧ Only [.glb] s t ∧ t.glb.warmN = s.glb.warmN + 1 ∧ t.glb.warmLast = s.up
      ∧ t.glb.warmTemps = ([s.rgnSum 0, s.rgnSum 1, s.rgnSum 2, s.rgnSum 3] :: s.glb.warmTemps).take 6001
      ∧ (t.glb.warmup = false ↔ 6000 ≤ s.glb.warmN ∧ ∀ r, r < 4 → ∀ a ∈ t.glb.warmTemps, ∀ b ∈ t.glb.warmTemps,
          a.getD r 0 - b.getD r 0 < 6 * 512))
  ∧ (∀ s : State, s.glb.warmup = true → s.glb.readied = true → s.glb.warmAt + 900 * fsSec ≤ s.up →
    exec .warmupTimeout s = .next (s.modGlb (fun g => { g with warmup := false }))))
  ∧ ((∀ (s : State) (ch : Nat) (safe : Bool), ch < nChan → (s.chan ch).hiz = some safe →
    ∃ t, exec (.hizSequenceDone ch) s = .next t ∧ (t.chan ch).loadMode = 0 ∧ (t.chan ch).pmuConn = false ∧ (t.chan ch).hiz = none
      ∧ (safe = true → (t.chan ch).clamp = false ∧ (t.chan ch).codes = [] ∧ (t.chan ch).lvlq = [] ∧ (t.chan ch).vchAct = false
          ∧ (t.chan ch).vclAct = false)
      ∧ (safe = false → (t.chan ch).clamp = (s.chan ch).clamp ∧ (t.chan ch).codes = (s.chan ch).codes)
      ∧ (∀ c, c ≠ ch → t.chan c = s.chan c) ∧ Only [.chans] s t)
  ∧ (∀ (s : State) (die : Nat), die < 4 → ∃ t, exec (.analogLinkWatchdog die) s = .next t
      ∧ (∀ ch, 48 * die ≤ ch → ch < 48 * die + 48 → (t.chan ch).drvMode = 0 ∧ (t.chan ch).loadMode = 0 ∧ (t.chan ch).pmuConn = false
          ∧ (t.chan ch).clamp = false ∧ (t.chan ch).codes = [] ∧ (t.chan ch).frRun = false)
      ∧ (∀ ch, ch < 48 * die ∨ 48 * die + 48 ≤ ch → t.chan ch = s.chan ch) ∧ Only (.chans :: causeParts) s t))

/-- Links and functions (R51; 16 R334, R338, R339): PERST_N and a link-down of endpoint 0 end every burst, reset its functions, clear VF Enable and
begin RUN to READY; a link comes up once the power stage is in regulation; a virtual function's reset ends its burst and empties its own
state, clearing VF Enable resets every virtual function that was enabled, and no other; a reset function answers Unsupported Request until its reset is done; VF Enable
opens the first NumVFs virtual functions; unmasking sends a pending message and clears its bit. -/
def Obligations.LinksAndFunctionsResetAndReturn : Prop :=
  (∀ s : State, s.bifur = false → ∃ t, exec .perstAssert s = .next t ∧ t.link0 = false ∧ t.link1 = false
      ∧ (∀ i, i < 16 → (t.site i).vfOn = false ∧ ((t.site i).st = .idle ∨ (t.site i).st = .aborted))
      ∧ (∀ f, f < 17 → (t.fn f).inReset = true ∧ (t.fn f).msixOn = false) ∧ t.sec.sessions = []
      ∧ (s.glb.mode = .run → s.glb.busy = false → t.glb.busy = true ∧ t.glb.target = .ready ∧ t.glb.mode = .run))
  ∧ (∀ s : State, s.bifur = false → ∃ t, exec (.pcieLinkDown 0) s = .next t ∧ t.link0 = false ∧ t.link1 = s.link1
      ∧ (∀ i, i < 16 → (t.site i).vfOn = false ∧ ((t.site i).st = .idle ∨ (t.site i).st = .aborted))
      ∧ (∀ f, f < 17 → (t.fn f).inReset = true))
  ∧ (∀ s : State, s.stage = .on → exec (.pcieLinkUp 0) s = .next { s with link0 := true }
      ∧ (s.bifur = true → exec (.pcieLinkUp 1) s = .next { s with link1 := true }))
  ∧ (∀ (s : State) (i how : Nat), i < 16 → how < 3 → s.fnExists (i + 1) = true →
      ∃ t, exec (.functionReset (i + 1) how) s = .next t ∧ (t.fn (i + 1)).inReset = true
        ∧ ((t.site i).st = .idle ∨ (t.site i).st = .aborted)
        ∧ ((s.site i).st = .idle → (t.site i).st = .idle ∧ (t.fn (i + 1)).held = (s.fn (i + 1)).held)
        ∧ ((s.site i).st = .armed → (t.site i).st = .idle) ∧ (t.fn (i + 1)).stage = [] ∧ (∀ j, j ≠ i → (t.site j).st = (s.site j).st)
        ∧ (∀ f, f < 17 → f ≠ i + 1 → (t.fn f).inReset = (s.fn f).inReset) ∧ Only (.sec :: .nor :: burstParts) s t)
  ∧ (∀ s : State, s.bifur = false → ∃ t, exec (.functionReset 0 1) s = .next t
      ∧ (∀ i, i < 16 → (t.site i).vfOn = false
          ∧ ((s.site i).vfOn = true → (t.fn (i + 1)).inReset = true ∧ ((t.site i).st = .idle ∨ (t.site i).st = .aborted))
          ∧ ((s.site i).vfOn = false → (t.fn (i + 1)).inReset = (s.fn (i + 1)).inReset ∧ (t.site i).st = (s.site i).st)))
  ∧ (∀ (s : State) (fn : Nat), fn < 18 →
      exec (.functionResetDone fn) s = .next (s.modFn fn (fun f => { f with inReset := false })))
  ∧ (∀ (s : State) (num : Nat), s.bifur = false → s.fnUp 0 = true → (s.fn 0).inReset = false →
      ∃ t, exec (.vfEnableSet 0 num) s = .next t ∧ (∀ i, i < 16 → (t.site i).vfOn = (decide (i < num) || (s.site i).vfOn))
        ∧ Only [.sites] s t)
  ∧ (∀ (s : State) (fn v : Nat), fn < 17 → v < (if fn = 0 then 256 else 64) → s.fnUp fn = true → (s.fn fn).inReset = false →
      (s.fn fn).msixOn = true → (s.fn fn).msixPend = [(v, true)] →
      exec (.msixVectorUnmask fn (.unmask v)) s = .next ((s.modFn fn (fun f => { f with
        msixOpen := Tbl.set false f.msixOpen v true, msixPend := [] })).emit (.msix fn v)))

/-! ### Measurement ADCs (12) and acquisition (13) -/

/-- Scans (R250 to R253, R256): START on an ACTIVE MADC with a mask, its SPARE_LANE a lane it may use, starts a scan at the next ACLK edge,
waits behind one in progress, and is lost and counted behind a waiting one unless the scan in progress ends at that TT (R260); the periodic trigger starts one at its root counts; RUN starts
and stops; a conversion's end stores its word with bit 28; a faulting one writes no result; a record moves to its queue, or joins the gap
when that has no room or HBM holds queue traffic. -/
def Obligations.ScansStartConvertAndRecord : Prop :=
  (∀ (s : State) (fn k : Nat), s.accepts fn Ty.madc k 0x040 = true → s.madcState k = 0 → (s.madc k).spare < 8 → (s.madc k).mon ≤ 9 →
    (s.madc k).mask ≠ 0 → s.laneMine (s.hdr Ty.madc k).owner k (s.madc k).spare = true →
    ((s.madc k).scan = none → ∃ t, exec (.madcStart fn k) s = .next t ∧ ∃ c, (t.madc k).scan = some c ∧ c.start = s.aclkAt s.now
        ∧ c.mask = (s.madc k).mask ∧ c.left = bitList (s.madc k).mask 32 ∧ c.mon = (s.madc k).mon ∧ c.spare = (s.madc k).spare
        ∧ (∀ j, j ≠ k → t.madc j = s.madc j) ∧ Only [.madcs] s t)
    ∧ (∀ c : Scan, (s.madc k).scan = some c → ttLt s.now (c.start + 4096) = false → (s.madc k).pending = false →
        ∃ t, exec (.madcStart fn k) s = .next t ∧ t.madc k = { s.madc k with pending := true } ∧ Only [.madcs] s t)
    ∧ (∀ c : Scan, (s.madc k).scan = some c → ttLt s.now (c.start + 4096) = false → (s.madc k).pending = true →
        c.endsBy s.now = true → (s.madc k).again = false →
        ∃ t, exec (.madcStart fn k) s = .next t ∧ t.madc k = { s.madc k with again := true } ∧ Only [.madcs] s t)
    ∧ (∀ c : Scan, (s.madc k).scan = some c → ttLt s.now (c.start + 4096) = false → (s.madc k).pending = true →
        c.endsBy s.now = false ∨ (s.madc k).again = true →
        ∃ t, exec (.madcStart fn k) s = .next t ∧ t.madc k = { s.madc k with lost := min 0xFFFFFF ((s.madc k).lost + 1) }
          ∧ (t.hdr Ty.madc k).irqStatus = (s.hdr Ty.madc k).irqStatus ||| 4 ∧ Only (.madcs :: causeParts) s t))
  ∧ (∀ (s : State) (k : Nat), k < nClu → s.madcState k = 0 → (s.madc k).mask ≠ 0 → (s.madc k).scan = none → (s.madc k).run = true →
    (s.madc k).src = 2 → s.root % (16000 * (s.madc k).period) = s.clk.phase →
    ∃ t, exec (.madcPeriodicTrigger k) s = .next t ∧ ∃ c, (t.madc k).scan = some c ∧ c.start = s.aclkAt s.now
      ∧ c.left = bitList (s.madc k).mask 32 ∧ Only [.madcs] s t)
  ∧ (∀ (s : State) (fn k spare mon : Nat), s.accepts fn Ty.madc k 0x040 = true → spare < 8 → mon ≤ 9 →
    s.laneMine (s.hdr Ty.madc k).owner k spare = true →
    (s.madcState k < 2 → ∃ t, exec (.madcRunStart fn k spare mon) s = .next t ∧ (t.madc k).run = true ∧ (t.madc k).spare = spare
        ∧ (t.madc k).mon = mon ∧ (∀ j, j ≠ k → t.madc j = s.madc j) ∧ Only [.madcs] s t)
    ∧ ∃ t, exec (.madcRunStop fn k spare mon) s = .next t ∧ (t.madc k).run = false ∧ ((s.madc k).run = true → (t.madc k).pending = false)
        ∧ (t.madc k).spare = spare ∧ (t.madc k).mon = mon ∧ ((s.madc k).mask ≠ 0 → (t.madc k).scans = (s.madc k).scans) ∧ Only [.madcs] s t)
  ∧ (∀ (s : State) (k n : Nat) (c : Scan) (rest : List Nat) (raw : Int), k < nClu → (s.madc k).scan = some c → c.left = n :: rest →
    rest ≠ [] → ttLe (c.cstart + fsUs) s.now = true → n ≠ 31 ∨ (-625 ≤ raw ∧ raw ≤ 625) →
    ∃ t, exec (.madcConversionDone k raw) s = .next t
      ∧ Tbl.get 0 (t.madc k).results n = (s.madcWord k c n raw).1 + 2 ^ 28
      ∧ (∀ j, j ≠ n → Tbl.get 0 (t.madc k).results j = Tbl.get 0 (s.madc k).results j)
      ∧ (t.madc k).scan = some { c with left := rest, cstart := c.cstart + fsUs, held := none }
      ∧ Only ([.madcs, .acqs, .hists] ++ causeParts) s t)
  ∧ (∀ (s : State) (k n : Nat) (c : Scan) (rest : List Nat), k < nClu → (s.madc k).scan = some c → c.left = n :: rest → rest ≠ [] →
    ttLe (c.cstart + 2 * fsUs) s.now = true → (s.fault (unitKey kMadc k)).retired = false → s.permanent (unitKey kMadc k) false = false →
    ∃ t, exec (.madcConversionTimeout k) s = .next t ∧ (t.madc k).results = (s.madc k).results ∧ t.err.lastCode = Code.madcFault
      ∧ (t.madc k).scan = some { c with left := rest, cstart := c.cstart + 2 * fsUs, held := none }
      ∧ (t.fault (unitKey kMadc k)).retired = false ∧ (t.fault (unitKey kMadc k)).times.head? = some s.now
      ∧ Only (.madcs :: .faults :: errorParts) s t)
  ∧ (∀ (s : State) (k tt w n seq : Nat) (rest : List (Nat × Nat × Nat × Nat)), k < nClu → (s.madc k).recs = (tt, w, n, seq) :: rest →
    (s.madc k).gap = none → s.isSealed (s.hdr Ty.madc k).owner = false →
    ((s.queue (s.madc k).queue).room = 0 ∨ s.bpHeld (s.madc k).queue = true → ∃ t, exec (.madcRecordMove k) s = .next t ∧ (t.madc k).recs = rest
      ∧ (t.madc k).gap = some { tt := tt, n := 1, seq := seq } ∧ (t.hdr Ty.madc k).irqStatus.testBit 3 = true ∧ Only (.madcs :: causeParts) s t)
    ∧ (0 < (s.queue (s.madc k).queue).room → s.bpHeld (s.madc k).queue = false →
      ∃ t, exec (.madcRecordMove k) s = .next t ∧ (t.madc k).recs = rest ∧ (t.madc k).gap = none
      ∧ (t.queue (s.madc k).queue).recs = (s.queue (s.madc k).queue).recs ++ [1]
      ∧ (t.queue (s.madc k).queue).tail = ((s.queue (s.madc k).queue).tail + 1) % (s.queue (s.madc k).queue).slots
      ∧ Only [.madcs, .queues, .mem, .bmem, .fns, .outs] s t))

/-- Acquisition units (R264, R269 to R277): ARM starts an arm, live 128 ns later; DISARM ends it; FORCE in ARMED marks the trigger, where no trigger
is declared in the same cycle; a declared trigger in [a, L), or with the unit in POST or DRAIN, is ignored and counted; RUN starts and stops a stream;
a record on its way is taken after the cycle of its arrival, moves to the queue in order, a waiting gap is written once a slot is free (R276), and a
drained capture or stream ends IDLE with its cause. -/
def Obligations.AcquisitionArmsTriggersAndDrains : Prop :=
  (∀ (s : State) (fn k : Nat), s.accepts fn Ty.acq k 0x07C = true →
    (s.acqArmCheck k = 0 → ∃ t, exec (.acqArm fn k) s = .next t ∧ (t.acq k).state = 2 ∧ (t.acq k).armT = s.now
        ∧ (t.acq k).armSeq = ((s.acq k).armSeq + 1) % 65536 ∧ (t.acq k).cross = [] ∧ (∀ j, j ≠ k → t.acq j = s.acq j)
        ∧ Only [.acqs] s t)
    ∧ (s.acqArmCheck k ≠ 0 → exec (.acqArm fn k) s = .next (s.reject fn (s.acqArmCheck k) Ty.acq k))
    ∧ ((s.acq k).single = true → (s.acq k).state = 2 ∨ (s.acq k).state = 3 →
        ∃ t, exec (.acqDisarm fn k) s = .next t ∧ (t.acq k).state = 0 ∧ (t.acq k).buf = [] ∧ (t.acq k).lastEnd = 2 ∧ Only [.acqs] s t)
    ∧ ((s.acq k).single = false → 2 ≤ (s.acq k).state →
        exec (.acqDisarm fn k) s = .next (s.modAcq k (fun a => { a with state := 1 })))
    ∧ ((s.acq k).state = 3 → (s.acq k).single = true → s.now < 2 ^ 64 →
        (∀ p, (s.acq k).nextDecl (s.now / 4096 * 4096 + 4095) = some p → ttReached (s.now / 4096 * 4096 + 4095) p.2 = false) →
        ∃ t, exec (.acqForce fn k) s = .next t ∧ (t.acq k).state = 4 ∧ (t.acq k).postLeft = (s.acq k).post
          ∧ (∃ r, (t.acq k).buf.getLast? = some r ∧ r.kind = 2 ∧ r.tt = s.now ∧ r.info % 8 = 7)
          ∧ (t.hdr Ty.acq k).irqStatus.testBit 0 = true ∧ Only ([.acqs, .sync, .madcs] ++ causeParts) s t)
    ∧ ((s.acq k).state < 2 → exec (.acqForce fn k) s = .next (s.reject fn Code.acqState Ty.acq k)))
  ∧ (∀ (s : State) (k : Nat), k < nClu → (s.acq k).state = 2 → ttLe ((s.acq k).armT + 128 * fsNs) s.now = true →
    exec (.acqLive k) s = .next (s.modAcq k (fun a => { a with state := 3 })))
  ∧ (∀ (s : State) (k : Nat) (T : Int) (i : Bool) (d : Int), k < nClu → 2 ≤ (s.acq k).state → (s.acq k).ty = 0 →
    (s.acq k).cands[(s.acq k).declared]? = some (T, i, some d) → ttReached s.now d = true →
    4 ≤ (s.acq k).state ∨ (((s.acq k).armT : Int) ≤ T ∧ T < ((s.acq k).armT + 128 * fsNs : Nat)) →
    exec (.acqTriggerDeclare k) s = .next (s.modAcq k (fun a => { a with
      declared := a.declared + 1, ignored := min 0xFFFFFFFF (a.ignored + 1) })))
  ∧ (∀ (s : State) (k : Nat) (T : Int) (i : Bool) (d : Int), k < nClu → (s.acq k).state = 3 → (s.acq k).ty = 0 → (s.acq k).single = true →
    (s.acq k).cands[(s.acq k).declared]? = some (T, i, some d) → ttReached s.now d = true →
    T < ((s.acq k).armT : Int) ∨ ((s.acq k).armT + 128 * fsNs : Nat) ≤ T →
    ∃ t, exec (.acqTriggerDeclare k) s = .next t ∧ (t.acq k).state = 4 ∧ (t.acq k).ignored = (s.acq k).ignored
      ∧ (t.acq k).declared = (s.acq k).declared + 1 ∧ Only ([.acqs, .sync, .madcs] ++ causeParts) s t)
  ∧ (∀ (s : State) (fn k : Nat), s.accepts fn Ty.acq k 0x040 = true →
    ((s.acq k).run = false → (s.acq k).state = 0 → (s.acq k).single = false → s.inMode [.ready, .run] = true → (s.hdr Ty.acq k).en = true →
        (s.acq k).qValid = true → exec (.acqRunStart fn k) s = .next (s.modAcq k (fun a => { a with
          run := true, state := 1, runT := s.now, stopT := none })))
    ∧ ((s.acq k).run = true → (s.acq k).single = false → ∃ t, exec (.acqRunStop fn k) s = .next t ∧ (t.acq k).run = false
        ∧ (t.acq k).stopT = some s.now ∧ (2 ≤ (s.acq k).state → (t.acq k).state = 1) ∧ Only [.acqs] s t))
  ∧ (∀ (s : State) (k due : Nat) (r : AcqRec) (rest : List (Nat × AcqRec)), k < nClu → (s.acq k).fly = (due, r) :: rest →
    ttLe (due / 4096 * 4096 + 4096) s.now = true → (s.acq k).single = false → (s.acq k).state = 1 → ttLe (s.acq k).runT r.tt = true →
    (s.acq k).stopT = none → (s.acq k).buf.length < 32766 → (s.acq k).gap = none → r.kind = 1 →
    ∃ t, exec (.acqRecordArrive k) s = .next t ∧ (t.acq k).fly = rest ∧ Only [.acqs] s t
      ∧ (s.sealedEmpty (s.hdr Ty.acq k).owner = false → (t.acq k).buf = (s.acq k).buf ++ [{ r with armSeq := (s.acq k).armSeq }])
      ∧ (s.sealedEmpty (s.hdr Ty.acq k).owner = true → (t.acq k).buf = (s.acq k).buf
          ∧ (t.acq k).gapCount = min 0xFFFFFFFF ((s.acq k).gapCount + 1)))
  ∧ (∀ (s : State) (k : Nat) (r : AcqRec) (rest : List AcqRec), k < nClu → (s.acq k).single = false → 1 ≤ (s.acq k).state →
    (s.acq k).buf = r :: rest → s.isSealed (s.hdr Ty.acq k).owner = false → (s.acq k).gap = none →
    (0 < (s.queue (s.acq k).queue).room → s.acqHeld (s.acq k).queue = false → ∃ t, exec (.acqRingMove k) s = .next t ∧ (t.acq k).buf = rest
        ∧ (t.queue (s.acq k).queue).recs = (s.queue (s.acq k).queue).recs ++ [1] ∧ Only [.acqs, .queues, .mem, .bmem, .fns, .outs] s t)
    ∧ ((s.queue (s.acq k).queue).room = 0 → exec (.acqRingMove k) s = .next s))
  ∧ (∀ (s : State) (k : Nat) (g : Gap), k < nClu → (s.acq k).single = false → 1 ≤ (s.acq k).state → (s.acq k).gap = some g →
    (s.acq k).buf.length < 32766 → (s.queue (s.acq k).queue).room = 0 → s.isSealed (s.hdr Ty.acq k).owner = false →
    ∃ t, exec (.acqRingMove k) s = .next t ∧ (t.acq k).gap = none
      ∧ (t.acq k).buf = (s.acq k).buf ++ [{ tt := g.tt, data := g.n, info := 0, kind := 3, armSeq := (s.acq k).armSeq }]
      ∧ Only (.acqs :: causeParts) s t)
  ∧ (∀ (s : State) (k : Nat), k < nClu → (s.acq k).single = true → (s.acq k).state = 5 → (s.acq k).buf = [] → (s.acq k).gap = none →
    ∃ t, exec (.acqCaptureDone k) s = .next t ∧ (t.acq k).state = 0 ∧ (t.acq k).lastEnd = (if (s.acq k).cut then 2 else 1)
      ∧ (t.hdr Ty.acq k).irqStatus = (s.hdr Ty.acq k).irqStatus ||| (if (s.acq k).cut then 8 else 2) ∧ Only (.acqs :: causeParts) s t)
  ∧ (∀ (s : State) (k T : Nat), k < nClu → (s.acq k).single = false → (s.acq k).stopT = some T → (s.acq k).buf = [] → (s.acq k).gap = none →
    (s.acq k).fly = [] → s.sampleAhead k T = false → ∃ t, exec (.acqStreamStopped k) s = .next t ∧ (t.acq k).state = 0 ∧ (t.acq k).run = false
      ∧ (t.acq k).stopT = none ∧ (t.hdr Ty.acq k).irqStatus = (s.hdr Ty.acq k).irqStatus ||| 8 ∧ Only (.acqs :: causeParts) s t)

/-! ### Faults, retirement, thermal protection (18 R383 to R390; 19 R417) -/

/-- Transients and retirement (R383 to R385, R389, R390): a failed read-back that is not the third in 10 s is a transient and nothing retires; a
permanent one retires the channel, held Hi-Z, in the record; the record's units come up retired, unlogged; with its site IDLE a
waiting lane goes to the spare; a clear in SERVICE returns an engine to reload, elsewhere it is refused.
Region thermal protection (R417): a sample 1 ms or more after the last stores the seven sensors and the region's temperature, the highest of them; warning sets with
its cause at 110 °C; COOL needs a shutdown and every sensor below 100 °C; REENABLE ends a shutdown while COOL is 1 and is
refused with BLK_BUSY while it is 0. -/
def Obligations.UnitsRetireAndRegionsProtect : Prop :=
  ((∀ (s : State) (ch : Nat), ch < nChan → s.stage = .on → s.pwr.analogOff = false → (s.fault (unitKey kChannel ch)).retired = false →
    (s.chan ch).readAt * 256 + 100 * fsUs ≤ s.up →
    (s.permanent (unitKey kChannel ch) false = false →
      ∃ t, exec (.analogReadback ch true false) s = .next t ∧ (t.fault (unitKey kChannel ch)).retired = false
        ∧ (t.fault (unitKey kChannel ch)).times.head? = some s.now ∧ (t.hdr Ty.pe ch).lastCode = Code.analogFault
        ∧ (∀ c, c ≠ ch → t.chan c = s.chan c) ∧ t.chan ch = { s.chan ch with readAt := s.uptime } ∧ Only ([.faults, .chans] ++ errorParts) s t)
    ∧ (∃ t, exec (.analogReadback ch true true) s = .next t ∧ (t.fault (unitKey kChannel ch)).retired = true
        ∧ (∀ ty, ty = Ty.tg ∨ ty = Ty.cmp ∨ ty = Ty.pe ∨ ty = Ty.lvl → (t.hdr ty ch).retired = true)
        ∧ (t.chan ch).drvMode = 0 ∧ (t.chan ch).held = true ∧ t.err.lastCode = Code.chRetired
        ∧ (∀ c, c ≠ ch → t.chan c = s.chan c) ∧ Only ([.faults, .chans, .clus, .nor, .acqs] ++ errorParts) s t))
  ∧ (∀ (s : State) (ch : Nat), ch < nChan → s.stage = .on → s.pwr.analogOff = false → (s.chan ch).readAt * 256 + 100 * fsUs ≤ s.up →
    exec (.analogReadback ch false false) s = .next (s.modChan ch (fun c => { c with readAt := s.uptime })))
  ∧ (∀ (s : State) (l : List Nat) (n : Nat), s.stage = .on → s.glb.fwOk = true → s.glb.retireLoaded = false →
    s.nor.retSlots.newest = some (n, l) →
    ∃ t, exec .retireLoad s = .next t ∧ t.glb.retireLoaded = true ∧ t.err = s.err
      ∧ (∀ key, key ∈ l → 1 ≤ key / 256 → key / 256 ≤ 5 → (t.fault key).retired = true)
      ∧ (∀ e, unitKey kEngine e ∈ l → e < 256 → (t.hdr Ty.te e).retired = true)
      ∧ Only ([.faults, .glb, .clus, .chans, .nor] ++ causeParts) s t)
  ∧ (∀ (s : State) (k n : Nat), k < nClu → (s.clu k).spareWait = some n → n < 8 → s.siteIdle (s.chOwner (8 * k + n)) = true →
    (s.hdr Ty.pe (8 * k + n)).retired = false →
    ∃ t, exec (.spareSwitch k) s = .next t ∧ (t.clu k).spareFor = n ∧ (t.clu k).spareWait = none ∧ (t.chan (8 * k + n)).held = false
      ∧ (t.hdr Ty.clu k).irqStatus.testBit 0 = true ∧ t.err.lastCode = Code.sliceSpared
      ∧ Only ([.clus, .chans, .cals] ++ errorParts) s t)
  ∧ (∀ (s : State) (fn i : Nat), s.accepts fn Ty.err 0 0x040 = true → i < 96 → s.err.queue < 2 ^ 20 →
    (s.err.valid = true → s.qOwner s.err.queue = 16 ∧ (s.queue s.err.queue).type = 4) →
    (s.glb.mode = .service → s.glb.busy = false → (s.fault (unitKey kEngine i)).retired = true →
      ∃ t, exec (.retireClear fn 1 i) s = .next t ∧ (t.fault (unitKey kEngine i)).retired = false ∧ (t.hdr Ty.te i).retired = false
        ∧ (t.te i).reload = true ∧ (t.rgn (rgnOfTe i)).reloads = (s.rgn (rgnOfTe i)).reloads ++ [i] ∧ t.err.lastCode = Code.retireCleared
        ∧ Only ([.faults, .tes, .rgns, .nor] ++ errorParts) s t)
    ∧ (s.glb.mode ≠ .service → ∃ t, exec (.retireClear fn 1 i) s = .next t ∧ t.err.lastCode = Code.svcMode ∧ Only errorParts s t)))
  ∧ ((∀ (s : State) (r : Nat) (l : List Int), r < 4 → s.stage = .on → l.length = 7 →
    (∀ a, (s.rgn r).sampledAt = some a → a + fsMs ≤ s.up) →
    ∃ t, exec (.thermalSensorSample r l) s = .next t ∧ (∀ i, i < 7 → Tbl.get 0 (t.rgn r).sensors i = l.getD i 0)
      ∧ (t.rgn r).temp ∈ l ∧ (∀ x, x ∈ l → x ≤ (t.rgn r).temp)
      ∧ ((t.rgn r).warn = true ↔ 110 * 1024 ≤ (t.rgn r).temp)
      ∧ ((t.rgn r).cool = true ↔ (s.rgn r).shutdown = true ∧ ∀ x, x ∈ l → x < 100 * 1024)
      ∧ (t.rgn r).shutdown = (s.rgn r).shutdown ∧ (∀ i, i < 6 → (t.clu (6 * r + i)).temp = l.getD i 0)
      ∧ ((s.rgn r).warn = false → 110 * 1024 ≤ (t.rgn r).temp → (t.hdr Ty.rgn r).irqStatus.testBit 0 = true)
      ∧ (∀ j, j ≠ r → t.rgn j = s.rgn j) ∧ Only ([.rgns, .clus, .hists, .smb] ++ causeParts) s t)
  ∧ (∀ (s : State) (fn r : Nat), s.accepts fn Ty.rgn r 0x048 = true → (s.rgn r).shutdown = true →
    ((s.rgn r).cool = true → ∃ t, exec (.reenable fn r) s = .next t ∧ (t.rgn r).shutdown = false ∧ (t.rgn r).cool = false
        ∧ (∀ j, j ≠ r → t.rgn j = s.rgn j) ∧ Only [.rgns, .tes, .cals, .caches] s t)
    ∧ ((s.rgn r).cool = false → exec (.reenable fn r) s = .next (s.reject fn Code.blkBusy Ty.rgn r))))

/-! ### Power-up, the 48 V input, PMBus, clocks, links (01 R19, R20; 02 R40 to R50; 03 R53 to R73) -/

/-- Power-up (R40, R41): PWR_EN high with the lockout released (at 34 V, until below 32 V) starts the power stage from OFF; PWR_GOOD leaves every register at reset, PWR_OK and
the straps set; first lock starts TT at 0; without lock 2 ms later, or with a failed clearing or both Deldivel slots rejected,
its SAFE cause is set; cleared memory and a verified slot set their boot bits. -/
def Obligations.PowerUpRunsStepByStep : Prop :=
  (∀ (s : State) (vin : Nat), s.stage = .off → 34000 ≤ vin ∨ (32000 ≤ vin ∧ s.pwr.uvlo = false) →
    ∃ t, exec (.powerUpStart vin) s = .next t ∧ t.stage = .starting ∧ t.pwr = { s.pwr with en := true, vin := vin, uvlo := false }
      ∧ Only [.power] s t)
  ∧ (∀ (s : State) (vin : Nat), s.stage = .off → vin < 32000 ∨ (vin < 34000 ∧ s.pwr.uvlo = true) →
    exec (.powerUpStart vin) s = .next (s.modPwr (fun p => { p with en := true, vin := vin, uvlo := true })))
  ∧ (∀ (s : State) (bifur : Bool) (addr : Nat), s.stage = .starting → ∃ t, exec (.pwrGood bifur addr) s = .next t ∧ t.stage = .on
      ∧ t.bifur = bifur ∧ t.smbAddr = addr % 8 ∧ t.glb = { ({} : Glb) with pwrOk := true, goodAt := s.up } ∧ t.link0 = false
      ∧ t.link1 = false ∧ t.everLocked = false ∧ t.hdrs = [] ∧ t.sites = [] ∧ t.queues = [] ∧ t.chans = [] ∧ t.tes = [] ∧ t.mem = []
      ∧ t.err = {} ∧ t.otp = s.otp ∧ t.pwr = { en := s.pwr.en, vin := s.pwr.vin, uvlo := s.pwr.uvlo } ∧ t.nor.fw = s.nor.fw ∧ t.pending = s.pending ∧ t.uptime = s.uptime)
  ∧ (∀ s : State, s.stage = .on → s.everLocked = false → ∃ t, exec .pllLock s = .next t ∧ t.root = 0 ∧ t.everLocked = true
      ∧ t.clk.locked = true ∧ t.clk.refclkOk = true ∧ t.glb.pllLock = true
      ∧ (s.glb.cause.testBit 0 = true → t.glb.cause.testBit 9 = false)
      ∧ (t.hdr Ty.clk 0).irqStatus = (s.hdr Ty.clk 0).irqStatus ||| 4 ∧ Only ([.time, .clk, .glb] ++ causeParts) s t)
  ∧ (∀ s : State, s.stage = .on → s.everLocked = false → s.glb.goodAt + 2 * fsMs ≤ s.up → s.glb.mode = .safe → s.glb.target = .ready →
    s.glb.cause.testBit 0 = true → s.glb.busy = true → ∃ t, exec .pllLockTimeout s = .next t ∧ t.glb.cause = s.glb.cause ||| 512
      ∧ t.glb.busy = s.glb.seq ∧ t.glb.seq = s.glb.seq ∧ (s.glb.seq = false → t.glb.target = .safe) ∧ Only (.glb :: causeParts) s t)
  ∧ (∀ s : State, s.stage = .on → s.glb.bmemClear = false →
      exec (.bmemClearDone true) s = .next ((s.modGlb (fun g => { g with bmemClear := true })).modQmgr (fun m => { m with ready := true }))
      ∧ (s.glb.mode = .safe → ∃ t, exec (.bmemClearDone false) s = .next t ∧ t.glb.cause.testBit 3 = true ∧ t.qmgr.ready = s.qmgr.ready
          ∧ t.err.lastCode = Code.memClearFail))
  ∧ (∀ s : State, s.stage = .on → s.glb.hbmClear = false →
      (∃ t, exec (.hbmClearDone 0) s = .next t ∧ t.glb.hbmClear = true ∧ (∀ i, i < 3 → (t.hbm i).cleared = true)
          ∧ (s.sec.loadWait = [] → s.sec.doeWait = [] → Only [.glb, .hbms] s t))
      ∧ ∃ t, exec (.hbmClearDone 1) s = .next t ∧ (t.hbm 0).cleared = false ∧ (t.hbm 1).cleared = true ∧ t.glb.hbmClear = false
          ∧ t.glb.cause.testBit 3 = true)
  ∧ (∀ (s : State) (n : Nat) (i : FwImage) (va vb : FwVerdict), s.stage = .on → s.glb.fwOk = false → s.nor.fw.a = some (n, i) → s.nor.fw.b = none →
    (s.fwCheck i.bytes va = 0 → ∃ t, exec (.fwVerifyDone va vb) s = .next t ∧ t.glb.fwOk = true ∧ t.glb.fwSlot = false
        ∧ t.sec.fwVersion = i.version ∧ t.err = s.err ∧ Only [.glb, .sec] s t)
    ∧ (s.fwCheck i.bytes va ≠ 0 → s.glb.mode = .safe → ∃ t, exec (.fwVerifyDone va vb) s = .next t ∧ t.glb.fwOk = false ∧ t.glb.cause.testBit 1 = true))

/-- Power events (R46 to R50; 03 R54 to R56): a warning below 33 V, an overvoltage, an overcurrent, an overtemperature and PWR_EN going low
each set their state, count and cause, enter SAFE with every burst ended and, unless the load is shed already, make load shedding due; shedding puts HBM in
self-refresh and the analog dies off; releases end the conditions; below 32 V, or at the stop after PWR_EN, the module is OFF. -/
def Obligations.PowerEventsEnterSafeOrOff : Prop :=
  (∀ s : State, s.stage = .on → s.glb.mode = .ready → s.glb.busy = false →
    (∀ vin, vin < 33000 → s.glb.pwrWarn = false → ∃ t, exec (.powerFailWarning vin) s = .next t ∧ t.glb.pwrWarn = true ∧ t.pwr.vin = vin
      ∧ t.pwr.cntUv = min 255 (s.pwr.cntUv + 1) ∧ t.glb.cause.testBit 7 = true ∧ t.glb.busy = true ∧ t.glb.target = .safe
      ∧ t.pwr.shedDue = (s.pwr.shedDue || !s.pwr.shed) ∧ t.pwr.norHold = true ∧ (∀ i, i < 16 → (t.site i).st = .idle ∨ (t.site i).st = .aborted) ∧ (∀ ch, ch < nChan → t.inHiz ch)
      ∧ Only ([.power, .smb] ++ safeParts) s t)
    ∧ (∀ vin, 77000 ≤ vin → s.pwr.ov = false → ∃ t, exec (.pwrOvervoltage vin) s = .next t ∧ t.pwr.ov = true
      ∧ t.pwr.cntOv = min 255 (s.pwr.cntOv + 1) ∧ t.glb.pwrWarn = s.glb.pwrWarn ∧ t.glb.cause.testBit 7 = true
      ∧ t.glb.target = .safe ∧ t.pwr.shedDue = (s.pwr.shedDue || !s.pwr.shed) ∧ Only ([.power, .smb] ++ safeParts) s t)
    ∧ (∃ t, exec .pwrOvercurrent s = .next t ∧ t.pwr.oc = true ∧ t.pwr.cntOc = min 255 (s.pwr.cntOc + 1)
      ∧ t.glb.cause.testBit 6 = true ∧ t.glb.target = .safe ∧ t.pwr.shedDue = (s.pwr.shedDue || !s.pwr.shed) ∧ Only ([.power, .smb] ++ safeParts) s t)
    ∧ (s.pwr.ot = false → ∃ t, exec .pwrOvertemp s = .next t ∧ t.pwr.ot = true ∧ t.pwr.cntOt = min 255 (s.pwr.cntOt + 1)
      ∧ t.glb.cause.testBit 6 = true ∧ t.glb.target = .safe ∧ t.pwr.shedDue = (s.pwr.shedDue || !s.pwr.shed) ∧ Only ([.power, .smb] ++ safeParts) s t)
    ∧ (s.pwr.en = true → s.pwr.stopDue = false → ∃ t, exec .pwrEnLow s = .next t ∧ t.pwr.en = false ∧ t.pwr.stopDue = true
      ∧ t.pwr.stopAt = s.up ∧ t.glb.cause.testBit 7 = true ∧ t.glb.target = .safe ∧ Only (.power :: safeParts) s t))
  ∧ (∀ s : State, s.pwr.shedDue = true → s.stage = .on → ∃ t, exec .loadShedDone s = .next t ∧ t.pwr.shed = true ∧ t.pwr.shedDue = false
      ∧ t.pwr.analogOff = true ∧ (∀ i, i < 3 → (t.hbm i).selfRefresh = true) ∧ Only [.power, .hbms] s t)
  ∧ (∀ (s : State) (vin : Nat), s.glb.pwrWarn = true → 34000 ≤ vin → exec (.powerWarnRelease vin) s =
      .next ((s.modPwr (fun p => { p with vin := vin, uvlo := false })).modGlb (fun g => { g with pwrWarn := false })))
  ∧ (∀ (s : State) (vin : Nat), s.pwr.ov = true → vin < 76000 →
      exec (.pwrOvRelease vin) s = .next (s.modPwr (fun p => { p.input vin with ov := false })))
  ∧ (∀ s : State, exec .pwrOtClear s = .next (s.modPwr (fun p => { p with ot := false })))
  ∧ (∀ (s : State) (vin : Nat), vin < 32000 → s.stage ≠ .off → ∃ t, exec (.undervoltageLockout vin) s = .next t ∧ t.stage = .off
      ∧ t.link0 = false ∧ t.link1 = false ∧ t.everLocked = false ∧ t.nor.writing = none ∧ t.nor.cal = s.nor.cal ∧ t.nor.ret = s.nor.ret
      ∧ t.nor.sec = s.nor.sec ∧ t.otp = s.otp ∧ t.pwr.uvlo = true ∧ t.pwr.vin = vin ∧ Only [.time, .power, .nor, .rgns, .tes, .caches] s t)
  ∧ (∀ s : State, s.stage = .on → s.pwr.stopDue = true → s.nor.writing = none ∨ s.pwr.stopAt + 2 * fsMs ≤ s.up →
    ∃ t, exec .powerStageStop s = .next t ∧ t.stage = (if s.pwr.en = true ∧ s.pwr.uvlo = false then .starting else .off)
      ∧ t.link0 = false ∧ t.pwr.stopDue = false ∧ t.nor.writing = none ∧ Only [.time, .power, .nor, .rgns, .tes, .caches] s t)

/-! ### None -/

/-- PMBus (R61, R62; the bit positions of the status registers are the model's): with the power stage on and the lands free, a read on a page that
supports it answers its bytes, the telemetry of the last refresh in LINEAR11, and changes nothing else; a page above 7, a read the
page does not support, and an invalid command draw a NACK and set STATUS_CML; the alert answers the module's address. -/
def Obligations.PmbusAnswersItsCommands : Prop :=
  (∀ s : State, s.stage = .on → s.jtag.hold = none → s.jtag.released = false → s.smb.page < 8 →
    (∀ p, p < 8 → exec (.page (some p)) s = .next (s.modSmb (fun x => { x with page := p })))
    ∧ (∀ p, 8 ≤ p → ∃ t, exec (.page (some p)) s = .next t ∧ t.smb.page = s.smb.page ∧ t.smb.stCml ≠ 0 ∧ t.outs = .nack :: s.outs
        ∧ Only [.smb, .outs] s t)
    ∧ exec (.page none) s = .next (s.emit (.smbus (le 1 s.smb.page)))
    ∧ exec .capability s = .next (s.emit (.smbus [0xD0]))
    ∧ exec .pmbusRevision s = .next (s.emit (.smbus [0x44]))
    ∧ exec .statusByte s = .next (s.emit (.smbus (le 1 (s.statusWord s.smb.page % 256))))
    ∧ exec .statusWord s = .next (s.emit (.smbus (le 2 (s.statusWord s.smb.page))))
    ∧ exec .statusTemperature s = .next (s.emit (.smbus (le 1 (Tbl.get 0 s.smb.stTemp s.smb.page))))
    ∧ exec .statusCml s = .next (s.emit (.smbus (le 1 s.smb.stCml)))
    ∧ exec .readTemperature1 s = .next (s.emit (.smbus (le 2 (lin11 (roundDiv (Tbl.get 0 s.pwr.temps s.smb.page * 1000) 1024)))))
    ∧ exec .mfrId s = .next (s.emit (.smbus [0x46, 0x4F, 0x59, 0x52, 0x49, 0x53]))
    ∧ exec .mfrModel s = .next (s.emit (.smbus ([0x4B, 0x56, 0x58, 0x2D, 0x51, 0x31, 0x39, 0x32, 0x2D, 0x34, 0x38, 0x4C, 0x2D]
        ++ if s.grade08 then [0x30, 0x38] else [0x31, 0x36])))
    ∧ (s.smb.page = 0 →
        exec .vinOvFaultLimit s = .next (s.emit (.smbus (le 2 (lin11 77000))))
        ∧ exec .vinUvWarnLimit s = .next (s.emit (.smbus (le 2 (lin11 33000))))
        ∧ exec .vinUvFaultLimit s = .next (s.emit (.smbus (le 2 (lin11 32000))))
        ∧ exec .statusInput s = .next (s.emit (.smbus (le 1 s.smb.stInput)))
        ∧ exec .readVin s = .next (s.emit (.smbus (le 2 (lin11 s.pwr.mv))))
        ∧ exec .readIin s = .next (s.emit (.smbus (le 2 (lin11 s.pwr.ma))))
        ∧ exec .readPin s = .next (s.emit (.smbus (le 2 (lin11 s.pwr.mw)))))
    ∧ (s.smb.page ≠ 0 → exec .readPout s = .next (s.emit (.smbus (le 2 (lin11 ((Tbl.get 0 s.pwr.groups s.smb.page : Nat) : Int)))))
        ∧ exec .vinOvFaultLimit s = .next (s.nack 7) ∧ exec .vinUvWarnLimit s = .next (s.nack 7) ∧ exec .vinUvFaultLimit s = .next (s.nack 7)
        ∧ exec .statusInput s = .next (s.nack 7) ∧ exec .readVin s = .next (s.nack 7) ∧ exec .readIin s = .next (s.nack 7)
        ∧ exec .readPin s = .next (s.nack 7))
    ∧ (s.smb.page = 0 → exec .readPout s = .next (s.nack 7))
    ∧ (∀ b, b < 8 → (s.nack b).smb.stCml.testBit b = true ∧ (s.nack b).outs = .nack :: s.outs ∧ Only [.smb, .outs] s (s.nack b))
    ∧ (∀ k, k < 3 → ∃ t, exec (.pmbusInvalid k) s = .next t ∧ t.smb.stCml ≠ 0 ∧ t.outs = .nack :: s.outs ∧ Only [.smb, .outs] s t)
    ∧ (∃ t, exec .clearFaults s = .next t ∧ t.smb.stCml = 0 ∧ t.smb.page = s.smb.page
        ∧ (t.smb.stInput.testBit 5 = (s.smb.stInput.testBit 5 && s.glb.pwrWarn)) ∧ Only [.smb] s t)
    ∧ (s.smbAlert = true → exec .smbusAlertResponse s = .next (s.emit (.smbus (le 1 (2 * (0x58 + s.smbAddr)))))))
  ∧ (∀ s : State, exec .smbusTimeout s = .next s)
  ∧ (∀ (s : State) (mv ma mw : Nat) (groups : List Nat) (temps : List Int) (ppm : Int), s.stage = .on →
    ∃ t, exec (.telemetryRefresh mv ma mw groups temps ppm) s = .next t ∧ t.pwr.mv = mv ∧ t.pwr.ma = ma ∧ t.pwr.mw = mw
      ∧ (∀ g, 1 ≤ g → g ≤ 7 → Tbl.get 0 t.pwr.groups g = groups.getD (g - 1) 0)
      ∧ (∀ p, p < 8 → Tbl.get 0 t.pwr.temps p = temps.getD p 0) ∧ (-32767 ≤ ppm → ppm ≤ 32767 → t.clk.ppm = ppm)
      ∧ Only [.power, .clk, .smb] s t)

/-- Clock faults and solder links (R19, R20; 03 R69 to R72): CLOCK_LOSS and PLL_UNLOCK set holdover, count, log and enter SAFE with cause
CLOCK while TT goes on; a relock ends holdover; a retry counts on its link alone; a link down is logged, marked, places every
channel in Hi-Z and enters SAFE with cause LINK_DOWN. -/
def Obligations.ClockAndLinkFaultsEnterSafe : Prop :=
  (∀ s : State, s.stage = .on → s.glb.mode = .ready → s.glb.busy = false →
    (s.everLocked = true → s.clk.refLost = false → ∃ t, exec .clockLoss s = .next t ∧ t.clk.refclkOk = false ∧ t.clk.refLost = true
      ∧ t.clk.cntLoss = min 65535 (s.clk.cntLoss + 1) ∧ t.clk.locked = false ∧ t.clk.holdover = true ∧ t.clk.ttAligned = false
      ∧ t.glb.cause.testBit 9 = true ∧ t.glb.busy = true ∧ t.glb.target = .safe ∧ t.root = s.root ∧ Only (.clk :: .sync :: safeParts) s t)
    ∧ (s.clk.locked = true → s.clk.refclkOk = true → ∃ t, exec .pllUnlock s = .next t ∧ t.clk.cntUnlock = min 65535 (s.clk.cntUnlock + 1)
      ∧ t.clk.locked = false ∧ t.clk.holdover = true ∧ t.glb.cause.testBit 9 = true ∧ t.glb.target = .safe ∧ Only (.clk :: .sync :: safeParts) s t)
    ∧ (∀ d, d < 8 → ∃ t, exec (.linkDown d) s = .next t ∧ t.glb.linksDown.testBit d = true ∧ t.glb.cause.testBit 4 = true
      ∧ t.glb.busy = true ∧ t.glb.target = .safe ∧ (∀ ch, ch < nChan → t.inHiz ch ∧ ((t.chan ch).hiz = some true ∨ (t.chan ch).hizDue = some true))
      ∧ Only safeParts s t))
  ∧ (∀ s : State, s.stage = .on → s.everLocked = true → s.clk.locked = false → s.clk.refclkOk = true →
    ∃ t, exec .pllRelock s = .next t ∧ t.clk.locked = true ∧ t.clk.holdover = false ∧ t.glb.pllLock = true ∧ t.root = s.root
      ∧ (t.hdr Ty.clk 0).irqStatus = (s.hdr Ty.clk 0).irqStatus ||| 4 ∧ Only ([.clk, .glb] ++ causeParts) s t)
  ∧ (∀ s : State, s.clk.refLost = true → exec .refclkReturn s = .next (s.modClk (fun c => { c with refLost := false, refclkOk := true })))
  ∧ (∀ (s : State) (d : Nat), d < 8 → ∃ t, exec (.linkRetry d) s = .next t
      ∧ Tbl.get 0 t.hlth.retries d = min 0xFFFFFFFF (Tbl.get 0 s.hlth.retries d + 1)
      ∧ (∀ e, e ≠ d → Tbl.get 0 t.hlth.retries e = Tbl.get 0 s.hlth.retries e) ∧ Only [.hlth] s t)

/-! ### Calibration (14) -/

/-- An internal run (R285 to R289, R293 to R295): an evaluation 10 ms after the last finds it due on a temperature move of CAL_DELTA_T; START makes
it due, which begins with the next root edge; ABORT discards it and counts a failure; a bad reference fails it with CAL_REF and a 10 s holdoff; plausible spine terms are taken; a
cluster step, the lowest cluster of the region first, isolates the available lanes and holds the MADC, and its end, once its length has
passed with no slew and no holdover, ends the isolation, takes each plausible lane's terms and the lane off the run.
Reference plane, gradual moves, records (R290 to R292, R295, R300; 09 R194): an environment check, 5 ms a cluster in turn, refuses bad lanes; a clean
reflection within its limits, 2.5 ms a channel in turn, stores its plane term; the sequence's end puts the newest terms in force and leaves for READY; slew steps move
terms one step; a free-running channel's terms go stale after 10 min; loading sets CAL_DEFAULT exactly when a record has no valid
slot. -/
def Obligations.CalibrationRunsPlanesAndRecords : Prop :=
  ((∀ (s : State) (r : Nat), r < 4 → (s.cal r).auto = true → (s.cal r).state = 0 →
    (∀ a, (s.cal r).evalAt = some a → a + 10 * fsMs ≤ s.up) →
    (((s.cal r).deltaT : Int) * 1024 ≤ (s.rgnTemp r - (s.cal r).tempRef) * 1000 → s.calAllowed r = true →
      ∃ t, exec (.calTempEval r) s = .next t ∧ (t.cal r).state = 1 ∧ (t.cal r).todo = s.rgnLanes r ∧ (t.cal r).failed = false
        ∧ (∀ j, j ≠ r → t.cal j = s.cal j) ∧ Only [.cals, .nor] s t)
    ∧ (s.nor.owed.contains r = false → -((s.cal r).deltaT : Int) * 1024 < (s.rgnTemp r - (s.cal r).tempRef) * 1000 →
        (s.rgnTemp r - (s.cal r).tempRef) * 1000 < ((s.cal r).deltaT : Int) * 1024 → exec (.calTempEval r) s = .next (s.modCal r (fun c => { c with evalAt := some s.up }))))
  ∧ (∀ (s : State) (fn r : Nat), s.accepts fn Ty.cal r 0x040 = true → r < 4 →
    ((s.cal r).state = 0 ∨ (s.cal r).state = 5 → s.calAllowed r = true →
      ∃ t, exec (.calStart fn r) s = .next t ∧ (t.cal r).state = 1 ∧ (t.cal r).todo = s.rgnLanes r ∧ Only [.cals] s t)
    ∧ (1 ≤ (s.cal r).state → (s.cal r).state ≤ 4 →
      ∃ t, exec (.calAbort fn r) s = .next t ∧ (t.cal r).state = 0 ∧ (t.cal r).failCount = min 0xFFFFFFFF ((s.cal r).failCount + 1)
        ∧ (∀ k, k / 6 = r → (t.clu k).step = false ∧ ((s.clu k).step = true → (t.clu k).isolated = 0))
        ∧ (t.hdr Ty.cal r).irqStatus = (s.hdr Ty.cal r).irqStatus ||| 2 ∧ Only ([.cals, .chans, .clus, .madcs] ++ causeParts) s t))
  ∧ (∀ (s : State) (r : Nat) (vref vbg : Int) (spine : List Int), r < 4 → (s.cal r).state = 2 → (s.cal 4).state = 0 →
    (s.cal r).stepAt + rootUs 200 ≤ s.uptime → s.glb.mode ≠ .cal →
    (vref < 1000000 → ∃ t, exec (.calCommonStepDone r vref vbg spine) s = .next t ∧ (t.cal r).state = 5 ∧ (t.cal r).lastErr = Code.calRef
        ∧ (t.cal r).holdEnd = s.up + 10 * fsSec ∧ (t.cal r).failCount = min 0xFFFFFFFF ((s.cal r).failCount + 1)
        ∧ t.err.lastCode = Code.calRef ∧ Only (.cals :: errorParts) s t)
    ∧ (1000000 ≤ vref → withinI ((vref - vbg) * 200) vbg = true → s.clk.holdover = false →
        s.sync.slewing = false → s.slewMet (s.cal r).stepAt = false → (s.cal r).stepAt + rootUs 600 ≤ s.uptime →
        (∀ ch, ch < nChan → ch / 48 = r → ∀ k, k = ch / 8 → ∀ c, c = (s.chan ch).cal → ∀ f, f = Tbl.get {} s.nor.factory.chans (8 * k) →
          termOk 400 (spine.getD (3 * (k % 6)) 0) c.spDrive f.spDrive (s.rgnTemp r - c.spAt) = true
          ∧ termOk 400 (spine.getD (3 * (k % 6) + 1) 0) c.spEnable f.spEnable (s.rgnTemp r - c.spAt) = true
          ∧ termOk 400 (spine.getD (3 * (k % 6) + 2) 0) c.spCompare f.spCompare (s.rgnTemp r - c.spAt) = true) →
        ∃ t, exec (.calCommonStepDone r vref vbg spine) s = .next t ∧ (t.cal r).common = true ∧ t.err = s.err
          ∧ (∀ ch, ch / 48 = r → (t.chan ch).newestCal.spDrive = spine.getD (3 * (ch / 8 % 6)) 0
              ∧ (t.chan ch).newestCal.spCompare = spine.getD (3 * (ch / 8 % 6) + 2) 0)))
  ∧ (∀ (s : State) (k l : Nat), k < nClu → l < 8 → s.calAllowed (rgnOfClu k) = true → (∀ j, j < nClu → j / 6 = k / 6 → (s.clu j).step = false) →
    (∀ j, j < k → j / 6 = k / 6 → s.stepLanes j = []) →
    (s.cal (rgnOfClu k)).common = true → (s.cal (rgnOfClu k)).state = 3 → (s.cal (rgnOfClu k)).todo.testBit (8 * (k % 6) + l) = true →
    s.laneAvail (8 * k + l) = true →
    ∃ t, exec (.calClusterStepStart k) s = .next t ∧ (t.clu k).step = true ∧ (t.clu k).isolated.testBit l = true
      ∧ ((s.madc k).scan = none → (t.madc k).pending = false) ∧ (∀ j, j ≠ k → t.clu j = s.clu j)
      ∧ Only [.clus, .cals, .madcs, .acqs] s t)
  ∧ (∀ (s : State) (k l : Nat) (lanes : List (List Int)) (madc : List Int), k < nClu → l < 8 → (s.clu k).step = true →
    s.sync.slewing = false → s.clk.holdover = false → s.slewMet (s.clu k).stepAt = false → (s.clu k).stepAt + s.stepLen k ≤ s.uptime →
    (s.clu k).isolated = 2 ^ l → (s.hdr Ty.pe (8 * k + l)).retired = false →
    ∃ t, exec (.calClusterStepDone k lanes madc) s = .next t ∧ (t.clu k).step = false ∧ (t.clu k).isolated = 0
      ∧ (t.cal (rgnOfClu k)).todo.testBit (8 * (k % 6) + l) = false ∧ (t.hdr Ty.clu k).irqStatus.testBit 1 = true
      ∧ (∀ new, new = measuredTerms (s.chan (8 * k + l)).newestCal (s.rgnTemp (rgnOfClu k)) (lanes.getD l []) →
          timingOk new (s.chan (8 * k + l)).cal (Tbl.get {} s.nor.factory.chans (8 * k + l))
            (s.rgnTemp (rgnOfClu k) - (s.chan (8 * k + l)).cal.at_) = true →
          levelsOk new (Tbl.get {} s.nor.factory.chans (8 * k + l)) = true → (t.chan (8 * k + l)).newestCal = new))
  ∧ (∀ (s : State) (r : Nat), r < 4 → (s.cal r).state = 5 → (s.cal r).holdEnd ≤ s.up →
    exec (.calHoldoffExpiry r) s = .next (s.modCal r (fun c => { c with state := 0 }))))
  ∧ ((∀ (s : State) (k : Nat) (v : List (Int × Int × Int)), k < nClu → (s.cal 4).state = 7 → (s.cal 4).todo.testBit k = true →
    (∀ j, j < k → j / 6 = k / 6 → (s.cal 4).todo.testBit j = false) → (s.cal (k / 6)).stepAt + rootUs 5000 ≤ s.uptime →
    ∃ t, exec (.calEnvCheckDone k v) s = .next t ∧ ((t.cal 4).state = 7 → (t.cal 4).todo.testBit k = false)
      ∧ (∀ l, l < 8 → s.planeChans.contains (8 * k + l) = true →
          ¬ (-50000 ≤ (v.getD l (0, 0, 0)).1 ∧ (v.getD l (0, 0, 0)).1 ≤ 50000) →
          Tbl.get 0 (t.cal 4).refused (8 * k + l) = 1 ∧ (t.cal 4).failed = true ∧ (t.cal 4).lastErr = Code.calEnv)
      ∧ (∀ l, l < 8 → -50000 ≤ (v.getD l (0, 0, 0)).1 → (v.getD l (0, 0, 0)).1 ≤ 50000 → -500 ≤ (v.getD l (0, 0, 0)).2.1 →
          (v.getD l (0, 0, 0)).2.1 ≤ 500 → -500 ≤ (v.getD l (0, 0, 0)).2.2 → (v.getD l (0, 0, 0)).2.2 ≤ 500 →
          Tbl.get 0 (t.cal 4).refused (8 * k + l) = Tbl.get 0 (s.cal 4).refused (8 * k + l))
      ∧ t.chans = s.chans)
  ∧ (∀ (s : State) (ch : Nat) (sum spread : Int), ch < nChan → (s.cal 4).state = 8 → s.planeChans.contains ch = true →
    (∀ j, j < ch → j / 48 = ch / 48 → s.planeChans.contains j = true → (s.cal 4).settled j = true) →
    (s.cal (ch / 48)).stepAt + rootUs 2500 ≤ s.uptime → Tbl.get 0 (s.cal 4).refused ch = 0 →
    Tbl.get none (s.cal 4).planes ch = none → spread ≤ 64 → 0 ≤ roundDiv sum 512 → roundDiv sum 512 ≤ 20480 →
    ∃ t, exec (.calReflectDone ch sum spread true) s = .next t ∧ Tbl.get none (t.cal 4).planes ch = some (roundDiv sum 512)
      ∧ (t.chan ch).newestCal = { (s.chan ch).newestCal with tau := roundDiv sum 512 } ∧ (t.chan ch).cal = (s.chan ch).cal
      ∧ (∀ c, c ≠ ch → t.chan c = s.chan c) ∧ Only [.cals, .clus, .chans, .nor] s t)
  ∧ (∀ s : State, (s.cal 4).state = 9 → s.glb.mode = .cal → s.glb.busy = false → s.nor.todo = [] → s.nor.writing = none →
    (s.cal 4).failed = false → (s.cal 4).spoiled = false →
    ∃ t, exec .calSequenceDone s = .next t ∧ t.glb.mode = .cal ∧ t.glb.busy = true ∧ t.glb.target = .ready ∧ (t.cal 4).state = 0
      ∧ (t.cal 4).lastOk = true ∧ (t.cal 4).count = min 0xFFFFFFFF ((s.cal 4).count + 1) ∧ (t.cal 4).lastTT = s.now
      ∧ (∀ ch, ch < nChan → (s.chan ch).frRun = false → (t.chan ch).cal = (s.chan ch).newestCal ∧ (t.chan ch).calNext = none)
      ∧ Only ([.cals, .chans, .glb] ++ causeParts) s t)
  ∧ (∀ (s : State) (ch : Nat) (k : CalTerms), ch < nChan → (s.chan ch).calNext = some k → (s.chan ch).calSlew = true →
    (s.chan ch).calNextAt + fsUs ≤ s.up →
    ∃ t, exec (.calSlewStep ch false) s = .next t ∧ ((((s.chan ch).cal.stepTo k).sameTiming k = true → (t.chan ch).cal = k
        ∧ (t.chan ch).calNext = none) ∧ (((s.chan ch).cal.stepTo k).sameTiming k = false → (t.chan ch).cal = (s.chan ch).cal.stepTo k
        ∧ (t.chan ch).calNext = some k)) ∧ (∀ c, c ≠ ch → t.chan c = s.chan c) ∧ Only [.chans] s t)
  ∧ (∀ (s : State) (ch : Nat), ch < nChan → (s.site (s.lclkOf ch)).lclkLast = some s.root → (s.chan ch).rawAt ≠ some s.root →
    ∃ t, exec (.calSlewStep ch true) s = .next t
      ∧ (∀ d, d < 10 → Tbl.get 0 (t.chan ch).rawLag d = toward (Tbl.get 0 (s.chan ch).rawLag d) 0) ∧ Only [.chans] s t)
  ∧ (∀ (s : State) (ch : Nat) (k : CalTerms), ch < nChan → (s.chan ch).frRun = true → (s.chan ch).calNext = some k → (s.chan ch).calSlew = false →
    (s.chan ch).calStale = false → (s.chan ch).calNextAt + 600 * fsSec ≤ s.up →
    exec (.calStale ch) s = .next (((s.modChan ch (fun c => { c with calStale := true })).cause Ty.tg ch 16).raisePage Code.calStale Ty.tg ch))
  ∧ (∀ s : State, s.stage = .on → s.glb.fwOk = true → s.glb.calLoaded = false →
    ∃ t, exec .calLoad s = .next t ∧ t.glb.calLoaded = true
      ∧ (t.glb.calDefault = true ↔ ∃ r, r < 5 ∧ (s.nor.calSlots r).newest = none)
      ∧ (∀ r n c, r < 4 → (s.nor.calSlots r).newest = some (n, c) → (t.cal r).tempRef = c.tempRef
          ∧ ∀ ch, ch / 48 = r → (t.chan ch).cal.factory = false ∧ (t.chan ch).cal.drive = (Tbl.get ({} : CalTerms) c.chans ch).drive)
      ∧ Only [.chans, .madcs, .clus, .cals, .glb] s t))

/-! ### Benest frame sync bus and trigger lines (04) -/

/-- Frame slots (R75 to R80): without lock, two valid slots in a row give it; in lock, a slot without a valid frame is counted and logged and
runs no command, and the fourth in a row loses lock; the echo repeats a valid preamble's bits 320 root ticks after the reference
point. That ECHO_EN alone governs the echo is the model's choice (log entry 55), that the frame which gives lock is not carried out its reading
(log entry 23).
Frame commands in lock (R76 to R79): STAGE stores the high part of TT; LOAD, with no burst, PLL locked and LOAD_EN, puts TT at the named
value plus cable delay and arrival time and starts the slew; ARM marks the FRAME-armed sites of its group; START_AT makes T
pending, STOP_AT cuts at T; NOP and PING change only the slot count. The arrival time is log entry 23, the order of LOAD_REJECT's reasons log entry 55. -/
def Obligations.FrameSlotsLockAndCommand : Prop :=
  ((∀ (s : State) (w : Nat), w < 2 ^ 64 → s.stage = .on → s.sync.lock = false →
    (s.sync.rxEn = true → preambleOk w = true → crcOk w = true → s.sync.good ≠ 0 →
      ∃ t, exec (.bsyncFrameSlot w) s = .next t ∧ t.sync.lock = true ∧ t.sync.bad = 0
        ∧ (t.hdr Ty.sync 0).irqStatus = (s.hdr Ty.sync 0).irqStatus ||| 1 ∧ Only (.sync :: causeParts) s t)
    ∧ (s.sync.rxEn = true → preambleOk w = true → crcOk w = true → s.sync.good = 0 →
      ∃ t, exec (.bsyncFrameSlot w) s = .next t ∧ t.sync.lock = false ∧ t.sync.good = 1 ∧ Only [.sync, .outs] s t)
    ∧ (crcOk w = false → ∃ t, exec (.bsyncFrameSlot w) s = .next t ∧ t.sync.lock = false ∧ t.sync.good = 0 ∧ Only [.sync, .outs] s t))
  ∧ (∀ (s : State) (w : Nat), w < 2 ^ 64 → s.stage = .on → s.sync.lock = true → s.sync.bad < 4 → s.sync.rxEn = true →
    preambleOk w = false ∨ crcOk w = false →
    ∃ t, exec (.bsyncFrameSlot w) s = .next t ∧ t.sync.bad = s.sync.bad + 1 ∧ t.sync.crcErr = min 0xFFFFFFFF (s.sync.crcErr + 1)
      ∧ t.err.lastCode = Code.syncCrc ∧ t.root = s.root ∧ Only (.sync :: errorParts) s t)
  ∧ (∀ s : State, s.sync.lock = true → 4 ≤ s.sync.bad → ∃ t, exec .syncLoss s = .next t ∧ t.sync.lock = false ∧ t.sync.bad = 0
      ∧ t.err.lastCode = Code.syncLoss ∧ t.root = s.root ∧ Only (.sync :: errorParts) s t)
  ∧ (∀ (s : State) (w : Nat), w < 2 ^ 64 → s.stage = .on → s.sync.lock = false → s.sync.rxEn = false → s.sync.echoEn = true →
    preambleOk w = true → crcOk w = false →
    ∃ t, exec (.bsyncFrameSlot w) s = .next t ∧ t.outs = .bsync w ((s.refRoot + 320) * 256 % 2 ^ 64) :: s.outs))
  ∧ (∀ s : State, s.stage = .on → s.sync.lock = true → s.sync.bad < 4 → s.sync.rxEn = true → s.sync.echoEn = false →
    (exec .bsyncNop s = .next (s.modSync (fun x => { x with bad := 0 })))
    ∧ (exec .ping s = .next (s.modSync (fun x => { x with bad := 0 })))
    ∧ (∀ t40, t40 < 2 ^ 40 → exec (.timeLoadStage t40) s = .next (s.modSync (fun x => { x with bad := 0, stage40 := t40, staged := true })))
    ∧ (∀ t24, t24 < 2 ^ 24 → s.loadReason = 0 → ∃ t, exec (.timeLoadLoad t24) s = .next t
        ∧ t.root = (s.sync.stage40 * 2 ^ 24 + t24 + (s.sync.delay + 255) / 256 + 10880) % 2 ^ 64
        ∧ t.sync.staged = false ∧ t.sync.target = (256 - s.sync.delay % 256) % 256 ∧ t.sync.loads = min 255 (s.sync.loads + 1)
        ∧ t.uptime = s.uptime)
    ∧ (∀ t24, t24 < 2 ^ 24 → s.loadReason ≠ 0 → ∃ t, exec (.timeLoadLoad t24) s = .next t ∧ t.root = s.root
        ∧ t.sync.loadReject = s.loadReason ∧ t.err.lastCode = Code.syncTimeReject ∧ Only (.sync :: errorParts) s t)
    ∧ (∀ g, g < 16 → s.sync.startEn = true → ∃ t, exec (.bsyncArm g) s = .next t
        ∧ (∀ i, i < 16 → (g = 15 ∨ (s.site i).group = g) → (s.site i).st = .armed → (s.site i).srcFrame = true → (t.site i).frameArmed = true)
        ∧ (∀ i, i < 16 → (s.site i).st ≠ .armed → t.site i = s.site i) ∧ Only [.sites, .sync] s t)
    ∧ (∀ g i T, g < 15 → i < 16 → s.sync.startEn = true → (s.site i).group = g → (∀ j, j < 16 → j ≠ i → (s.site j).group ≠ g) →
        s.root ≤ T → T < s.root + 2 ^ 39 →
        ((s.site i).st = .armed → (s.site i).srcFrame = true → (s.site i).frameArmed = true →
          s.startWait i ≤ (T - s.root) * 256 →
          ∃ t, exec (.startAt g (T % 2 ^ 40)) s = .next t ∧ (t.site i).pendStart = some (T * 256 % 2 ^ 64) ∧ (t.site i).st = .armed
            ∧ t.sync.starts = min 255 (s.sync.starts + 1) ∧ Only [.sites, .sync] s t)
        ∧ ((s.site i).st = .running → (s.site i).srcFrame = true →
          ∃ t, exec (.stopAt g (T % 2 ^ 40)) s = .next t ∧ (t.site i).cut = some (T * 256 % 2 ^ 64) ∧ (t.site i).st = .running
            ∧ t.sync.stops = min 255 (s.sync.stops + 1) ∧ Only [.sites, .sync] s t)))

/-- The slew and the trigger lines (R79, R82, R83): a slew step 1 µs after the last moves the phase one fine step and the last one sets
TT_ALIGNED unless a clock fault came since the LOAD; a stamped edge
of an enabled line is kept, relayed and, on the queue route, recorded; one within 5 ns of the last is lost and counted; the
event of an output that begins earliest becomes its pulse at its start, or is dropped when that would begin within 2 ns of the last pulse's end; FIRE makes an
event whose pulse begins OFFSET after now. -/
def Obligations.SlewAndTriggerLines : Prop :=
  (∀ s : State, s.sync.slewing = true → s.sync.slewAt + rootUs 1 ≤ s.uptime → s.sync.current + 1 < s.sync.target →
    exec .phaseSlewStep s = .next (s.modSync (fun x => { x with slewAt := s.uptime, current := x.current + 1 })))
  ∧ (∀ s : State, s.sync.slewing = true → s.sync.slewAt + rootUs 1 ≤ s.uptime → s.sync.current + 1 = s.sync.target →
    (s.sync.stale = true → ∃ t, exec .phaseSlewStep s = .next t ∧ t.sync.current = s.sync.target ∧ t.sync.slewing = false ∧ Only [.sync] s t)
    ∧ (s.sync.stale = false → ∃ t, exec .phaseSlewStep s = .next t
      ∧ t.sync.current = s.sync.target ∧ t.sync.slewing = false ∧ t.clk.ttAligned = true
      ∧ (t.hdr Ty.clk 0).irqStatus = (s.hdr Ty.clk 0).irqStatus ||| 8 ∧ Only ([.sync, .clk] ++ causeParts) s t))
  ∧ (∀ (s : State) (n tt : Nat) (rising : Bool), n < 4 → tt < 2 ^ 64 → s.stage = .on → (s.trigIn n).en = true →
    (s.trigIn n).edge = 2 ∨ (s.trigIn n).edge = (if rising then 0 else 1) →
    ((∀ l, (s.trigIn n).last = some l → 5 * fsNs ≤ (tt + 2 ^ 64 - l) % 2 ^ 64) → (s.trigIn n).routeQ = false → (s.trigIn n).routeAcq = false →
      ∃ t, exec (.trigInEdge n rising tt) s = .next t ∧ (t.trigIn n).stamp = tt ∧ (t.trigIn n).last = some tt
        ∧ (t.trigIn n).seq = ((s.trigIn n).seq + 1) % 2 ^ 32 ∧ (t.trigIn n).stamped = min 65535 ((s.trigIn n).stamped + 1)
        ∧ (t.trigIn n).lost = (s.trigIn n).lost ∧ (∀ j, j ≠ n → t.trigIn j = s.trigIn j) ∧ Only [.sync] s t)
    ∧ (∀ l, (s.trigIn n).last = some l → (tt + 2 ^ 64 - l) % 2 ^ 64 < 5 * fsNs →
      ∃ t, exec (.trigInEdge n rising tt) s = .next t ∧ t.trigIn n = { s.trigIn n with lost := min 65535 ((s.trigIn n).lost + 1) }
        ∧ (t.hdr Ty.sync 0).irqStatus = (s.hdr Ty.sync 0).irqStatus ||| 32 ∧ Only (.sync :: causeParts) s t))
  ∧ (∀ (s : State) (n start : Nat) (late : Bool) (rest : List (Nat × Bool)), n < 4 → firstEvent (s.trigOut n).events = some (start, late) →
    rest = (s.trigOut n).events.erase (start, late) → ttLt s.now start = false → (s.trigOut n).en = true →
    ((∀ e, (s.trigOut n).lastEnd = some e → pulseClash start e = false) →
      ∃ t, exec (.trigOutPulse n) s = .next t ∧ (t.trigOut n).events = rest
        ∧ t.outs.contains (.pulse n start ((start + (s.trigOut n).width) % 2 ^ 64)) = true
        ∧ (t.trigOut n).pulses = min 65535 ((s.trigOut n).pulses + 1) ∧ (t.trigOut n).lastEnd = some ((start + (s.trigOut n).width) % 2 ^ 64)
        ∧ (t.trigOut n).late = (if late then min 255 ((s.trigOut n).late + 1) else (s.trigOut n).late) ∧ Only (.sync :: causeParts) s t)
    ∧ (∀ e, (s.trigOut n).lastEnd = some e → pulseClash start e = true →
      ∃ t, exec (.trigOutPulse n) s = .next t ∧ (t.trigOut n).events = rest ∧ (t.trigOut n).pulses = (s.trigOut n).pulses
        ∧ (t.trigOut n).dropped = min 255 ((s.trigOut n).dropped + 1) ∧ Only (.sync :: causeParts) s t))
  ∧ (∀ (s : State) (n start : Nat) (late : Bool), n < 4 → firstEvent (s.trigOut n).events = some (start, late) → ttLt s.now start = true →
    exec (.trigOutPulse n) s = .next s)
  ∧ (∀ (l : List (Nat × Bool)) (p : Nat × Bool), (∀ x ∈ l, x.1 < 2 ^ 63) → firstEvent l = some p → p ∈ l ∧ ∀ x : Nat × Bool, x ∈ l → p.1 ≤ x.1)
  ∧ (∀ (s : State) (fn n : Nat), s.accepts fn Ty.sync 0 (0x0E0 + 0x10 * n) = true → n < 4 → (s.trigOut n).en = true → (s.trigOut n).src < 4 →
    s.selBad (s.trigOut n).src (s.trigOut n).sel (s.trigOut n).owner = false → (s.trigOut n).sel < 32 → (s.trigOut n).owner ≤ 16 → (s.trigOut n).offset < 2 ^ 24 →
    ∃ t, exec (.trigOutFire fn n) s = .next t ∧ (t.trigOut n) = { s.trigOut n with events := (s.trigOut n).events ++ [((s.now + (s.trigOut n).offset) % 2 ^ 64, false)] }
      ∧ (∀ j, j ≠ n → t.trigOut j = s.trigOut j) ∧ Only [.sync] s t)

/-! ### Vector programs (06 R105 to R124, 07 R131 to R134) -/

/-- Instructions that produce UIs (R108, R109, R121 to R124): VEC, RPT, HOLD, SCAN and DECOMP add their COUNT of UIs to the segment and go on
behind their data words; a run that completes a block needs room in the FIFOs for it, and one that would pass a block's end stops there with the block
complete; COUNT 0 ends the segment with
SEG_OPERAND. -/
def Obligations.VectorInstructionsProduceUis : Prop :=
  (∀ (s : State) (e ir k : Nat) (g : Seg), s.dispatches e g ir → s.dispatchOk e g ir → k = bits ir 0 32 → 0 < k → k ≤ 65536 →
    (s.te e).uis % 64 + k ≤ 64 → (s.te e).uis + k ≤ 64 * 2 ^ 32 → 0 < g.n →
    ((s.te e).uis % 64 + k = 64 → s.roomFor g ((s.te e).uis / 64) = true) →
    (bits ir 248 8 = 0x03 → ∃ t, exec (.hold e) s = .next t ∧ (t.te e).uis = (s.te e).uis + k ∧ (t.te e).plain = (s.te e).plain + k
      ∧ (t.te e).fetch = (s.te e).fetch + 1 ∧ (t.te e).job = none ∧ ((t.te e).full.isSome = true ↔ ((s.te e).uis + k) % 64 = 0)
      ∧ Only [.tes, .caches, .chans] s t)
    ∧ (bits ir 248 8 = 0x02 → (∀ o, o < g.vw → (s.te e).fetch + 1 + o < g.len ∧ (s.fetched e g).cached g ((s.te e).fetch + 1 + o) = true) →
      ∃ t, exec (.rpt e) s = .next t ∧ (t.te e).uis = (s.te e).uis + k ∧ (t.te e).fetch = (s.te e).fetch + 1 + g.vw ∧ (t.te e).job = none
        ∧ Only [.tes, .caches, .chans] s t)
    ∧ (bits ir 248 8 = 0x01 → (∀ o, o < (k * g.n + 63) / 64 →
        (s.te e).fetch + 1 + o < g.len ∧ (s.fetched e g).cached g ((s.te e).fetch + 1 + o) = true) →
      ∃ t, exec (.vec e) s = .next t ∧ (t.te e).uis = (s.te e).uis + k ∧ (t.te e).fetch = (s.te e).fetch + 1 + (k * g.n + 63) / 64
        ∧ (t.te e).job = none ∧ Only [.tes, .caches, .chans] s t)
    ∧ (bits ir 248 8 = 0x30 → slotsBad (slots ir) g.n = false → (∀ o, o < g.vw + (k * scanWidth (slots ir) + 255) / 256 →
        (s.te e).fetch + 1 + o < g.len ∧ (s.fetched e g).cached g ((s.te e).fetch + 1 + o) = true) →
      ∃ t, exec (.scan e) s = .next t ∧ (t.te e).uis = (s.te e).uis + k
        ∧ (t.te e).fetch = (s.te e).fetch + 1 + g.vw + (k * scanWidth (slots ir) + 255) / 256 ∧ Only [.tes, .caches, .chans] s t)
    ∧ (bits ir 248 8 = 0x31 → slotsBad (slots ir) g.n = false → g.hasTable = true → k = 1 → bits ir 112 32 = 1 →
        (s.te e).stream = [] → (s.te e).laneDone = 0 → (∀ o, o < g.vw + 1 →
        (s.te e).fetch + 1 + o < g.len ∧ (s.fetched e g).cached g ((s.te e).fetch + 1 + o) = true) →
      ∀ tb : List Nat, (s.te e).table = some tb → ∀ w,  tb[bits (s.streamWord g ((s.te e).fetch + 1 + g.vw)) 0 8]? = some w →
        bits w 0 5 = scanWidth (slots ir) →
      ∃ t, exec (.decomp e) s = .next t ∧ (t.te e).uis = (s.te e).uis + 1 ∧ (t.te e).fetch = (s.te e).fetch + 2 + g.vw
        ∧ Only [.tes, .caches, .chans] s t))
  ∧ (∀ (s : State) (e ir k : Nat) (g : Seg), s.dispatches e g ir → s.dispatchOk e g ir → bits ir 248 8 = 0x03 → k = bits ir 0 32 →
    64 < (s.te e).uis % 64 + k → (s.te e).uis + 64 ≤ 64 * 2 ^ 32 → s.roomFor g ((s.te e).uis / 64) = true →
    ∃ t, exec (.hold e) s = .next t ∧ (t.te e).uis = 64 * ((s.te e).uis / 64 + 1) ∧ (t.te e).full.isSome = true
      ∧ (t.te e).job = some (64 - (s.te e).uis % 64) ∧ Only [.tes, .caches, .chans] s t)
  ∧ (∀ (s : State) (e ir y : Nat) (g : Seg), s.dispatches e g ir → s.dispatchOk e g ir → bits ir 248 8 = 0x02 → bits ir 0 32 = 1 →
    (s.te e).uis % 64 = 0 → (s.te e).asm = {} → (s.te e).uis + 1 ≤ 64 * 2 ^ 32 → g.chans = [y] → (s.te e).prevs = [] →
    (s.te e).fetch + 1 < g.len → (s.fetched e g).cached g ((s.te e).fetch + 1) = true →
    ∃ t, exec (.rpt e) s = .next t
      ∧ (t.te e).asm.syms = [[effSym ((s.chan y).symBefore g.eff) ((s.chan y).symmap (bits (s.streamWord g ((s.te e).fetch + 1)) 0 4))]]
      ∧ (t.chan y).tails.getLast? = some (g.eff, (g.eff + (s.chan y).span (s.te e).uis) % 2 ^ 64,
          effSym ((s.chan y).symBefore g.eff) ((s.chan y).symmap (bits (s.streamWord g ((s.te e).fetch + 1)) 0 4)))
      ∧ (t.te e).asm.tss = [if ir.testBit 241 then bits ir 242 6 else (s.te e).curTs] ∧ (t.te e).asm.holdv = [false])
  ∧ (∀ (s : State) (e ir : Nat) (g : Seg), s.dispatches e g ir → s.dispatchOk e g ir → bits ir 0 32 = 0 →
    (bits ir 248 8 = 0x01 → ∃ t, exec (.vec e) s = .next t ∧ (t.te e).cur = none ∧ t.err.lastCode = Code.segOperand)
    ∧ (bits ir 248 8 = 0x03 → ∃ t, exec (.hold e) s = .next t ∧ (t.te e).cur = none ∧ t.err.lastCode = Code.segOperand))

/-- Instructions that produce no UI (R101, R107, R110, R111, R117, R118): each acts and the fetch pointer goes on behind it, or to TARGET; CALL and
LOOP push a frame, RET and the last ENDLOOP pop one; HALT on a block boundary ends the segment and releases its
SUCC_QUEUE, elsewhere pads with HOLD; an opcode
outside the table ends it with SEG_OPCODE. -/
def Obligations.ControlInstructionsMoveTheFetchPointer : Prop :=
  ∀ (s : State) (e ir : Nat) (g : Seg), s.dispatches e g ir →
    (opcodes.contains (bits ir 248 8) = false →
      ∃ t, exec (.invalidOpcode e) s = .next t ∧ (t.te e).cur = none ∧ t.err.lastCode = Code.segOpcode ∧ (t.site g.site).st = (s.site g.site).st)
    ∧ (s.dispatchOk e g ir →
      (bits ir 248 8 = 0x00 → ∃ t, exec (.nop e) s = .next t ∧ (t.te e).fetch = (s.te e).fetch + 1 ∧ (t.te e).uis = (s.te e).uis
        ∧ (t.te e).spin = (s.te e).spin + 1 ∧ Only [.tes, .caches] s t)
      ∧ (bits ir 248 8 = 0x04 → ir.testBit 241 = false → ∃ t, exec (.tset e) s = .next t ∧ (t.te e).curTs = bits ir 242 6
        ∧ (t.te e).fetch = (s.te e).fetch + 1 ∧ Only [.tes, .caches] s t)
      ∧ (bits ir 248 8 = 0x05 → ir.testBit 8 = false → bits ir 0 8 < g.n → bits ir 9 4 ≤ 9 → ∀ ch, ch = g.chans.getD (bits ir 0 8) 0 →
        ∃ t, exec (.lvl e) s = .next t ∧ (t.chan ch).lvlFly = (s.chan ch).lvlFly ++
            [{ dac := bits ir 9 4, code := bits ir 16 16, stamp := g.eff + (s.chan ch).span (s.te e).uis }]
          ∧ (∀ c, c ≠ ch → t.chan c = s.chan c) ∧ (t.te e).fetch = (s.te e).fetch + 1 ∧ Only [.tes, .caches, .chans] s t)
      ∧ (bits ir 248 8 = 0x06 → bits ir 0 8 < g.n → ∃ t, exec (.mark e) s = .next t ∧ (t.te e).fetch = (s.te e).fetch + 1
          ∧ (∀ n, n < 4 → ir.testBit (8 + n) = true → (s.trigOut n).owner = g.site → (s.trigOut n).src = 1 → (s.trigOut n).en = true →
              ∀ p, p = (s.uiAt g (g.chans.getD (bits ir 0 8) 0) (s.te e).uis + (s.trigOut n).offset) % 2 ^ 64 →
                (t.trigOut n).events = (s.trigOut n).events ++ [(if ttLt p s.now then s.now else p, ttLt p s.now)])
          ∧ Only [.tes, .caches, .sync, .acqs] s t)
      ∧ (bits ir 248 8 = 0x10 → bits ir 0 32 < g.len → ∃ t, exec (.jmp e) s = .next t ∧ (t.te e).fetch = bits ir 0 32
        ∧ (t.te e).pstack = (s.te e).pstack ∧ Only [.tes, .caches] s t)
      ∧ (bits ir 248 8 = 0x12 → bits ir 0 32 < g.len → (s.te e).pstack.length < 8 → ∃ t, exec (.call e) s = .next t
        ∧ (t.te e).fetch = bits ir 0 32 ∧ (t.te e).pstack = { off := (s.te e).fetch + 1 } :: (s.te e).pstack ∧ Only [.tes, .caches] s t)
      ∧ (bits ir 248 8 = 0x13 → ∀ (f : Frame) (rest : List Frame), (s.te e).pstack = f :: rest → f.loop = false → ∃ t, exec (.ret e) s = .next t
        ∧ (t.te e).fetch = f.off ∧ (t.te e).pstack = rest ∧ Only [.tes, .caches] s t)
      ∧ (bits ir 248 8 = 0x14 → 0 < bits ir 0 32 → (s.te e).pstack.length < 8 → ∃ t, exec (.loop e) s = .next t
        ∧ (t.te e).pstack = { loop := true, count := bits ir 0 32, off := (s.te e).fetch + 1 } :: (s.te e).pstack
        ∧ (t.te e).fetch = (s.te e).fetch + 1 ∧ Only [.tes, .caches] s t)
      ∧ (bits ir 248 8 = 0x15 → ∀ (f : Frame) (rest : List Frame), (s.te e).pstack = f :: rest → f.loop = true → ∃ t, exec (.endloop e) s = .next t
        ∧ (1 < f.count → (t.te e).fetch = f.off ∧ (t.te e).pstack = { f with count := f.count - 1 } :: rest)
        ∧ (f.count ≤ 1 → (t.te e).fetch = (s.te e).fetch + 1 ∧ (t.te e).pstack = rest) ∧ Only [.tes, .caches] s t)
      ∧ (bits ir 248 8 = 0x0F → (s.te e).uis % 64 = 0 →
          g.succValid = false ∨ ((s.queue g.succ).enable = true ∧ (s.queue g.succ).type = 1 ∧ s.qOwner g.succ = g.site) →
        ∃ t, exec (.halt e) s = .next t ∧ (t.te e).cur = none ∧ (t.te e).cond = none
        ∧ (g.succValid = true → (t.queue g.succ).released = true)
        ∧ (g.succValid = false → g.tethered = false → t.queues = s.queues) ∧ Only [.tes, .caches, .queues] s t)
      ∧ (bits ir 248 8 = 0x0F → (s.te e).uis % 64 ≠ 0 → (s.te e).uis + 64 ≤ 64 * 2 ^ 32 → s.roomFor g ((s.te e).uis / 64) = true →
        ∃ t, exec (.halt e) s = .next t
        ∧ (t.te e).cur.isSome = true ∧ (t.te e).uis = 64 * ((s.te e).uis / 64 + 1) ∧ (t.te e).full.isSome = true
        ∧ (t.te e).plain = (s.te e).plain ∧ Only [.tes, .caches, .chans] s t))

/-! ### None -/

/-- Conditions and their events (06 R113 to R115; 07 R133; 08 R153, R154, R167 to R171): SYNC, MATCH and JMPF open a condition at the next UI; a
match result, a barrier completion or the timeout resolves it; a SIGNAL alone arrives and goes on; a trigger stamp reaches
every engine its owner runs; a complete block goes to every channel's FIFO; a filled line is in the cache. -/
def Obligations.ConditionsOpenAndResolve : Prop :=
  (∀ (s : State) (e ir : Nat) (g : Seg), s.dispatches e g ir → s.dispatchOk e g ir → (s.te e).cond = none →
    (s.te e).uis + 128 ≤ 64 * 2 ^ 32 →
    (bits ir 248 8 = 0x07 → ir.testBit 72 = true → ir.testBit 73 = false → ir.testBit 74 = false → bits ir 0 32 = 0 → bits ir 32 32 = 0 →
      0 < (s.barrier g.site (bits ir 64 8)).count → (s.barrier g.site (bits ir 64 8)).arrived + 1 < (s.barrier g.site (bits ir 64 8)).count →
      ∃ t, exec (.sync e) s = .next t ∧ (t.te e).fetch = (s.te e).fetch + 1 ∧ (t.te e).cond = none
        ∧ (t.barrier g.site (bits ir 64 8)).arrived = (s.barrier g.site (bits ir 64 8)).arrived + 1
        ∧ (t.barrier g.site (bits ir 64 8)).lastTT
            = max (s.barrier g.site (bits ir 64 8)).lastTT (s.uiAt g (g.chans.headD 0) (s.te e).uis)
        ∧ Only [.tes, .caches, .sites] s t)
    ∧ ((∀ o, o < g.vw → (s.te e).fetch + 1 + o < g.len ∧ (s.fetched e g).cached g ((s.te e).fetch + 1 + o) = true) →
      (bits ir 248 8 = 0x07 → ir.testBit 72 = false → ir.testBit 73 = true → ir.testBit 74 = true → g.tethered = true → 0 < bits ir 0 32 →
      bits ir 32 32 < g.len → ∃ t, exec (.sync e) s = .next t ∧ ∃ c, (t.te e).cond = some c ∧ c.kind = 4 ∧ c.sel = bits ir 75 2
        ∧ c.timeout = bits ir 0 32 ∧ c.target = bits ir 32 32 ∧ c.u0 = (s.te e).uis ∧ c.since = s.now ∧ c.res = none
        ∧ Only [.tes, .caches, .chans] s t)
    ∧ (bits ir 248 8 = 0x20 → 0 < bits ir 0 32 → bits ir 32 32 < g.len → (s.fetched e g).noCompare e g ((s.fetched e g).holdVec g ((s.te e).fetch + 1)) = false →
      ∃ t, exec (.matchVec e) s = .next t ∧ ∃ c, (t.te e).cond = some c ∧ c.kind = 1 ∧ c.timeout = bits ir 0 32 ∧ c.target = bits ir 32 32
        ∧ c.u0 = (s.te e).uis ∧ c.res = none ∧ Only [.tes, .caches, .chans] s t)
    ∧ (bits ir 248 8 = 0x11 → bits ir 0 32 < g.len → ∃ t, exec (.jmpf e) s = .next t ∧ ∃ c, (t.te e).cond = some c ∧ c.kind = 2
        ∧ c.target = bits ir 0 32 ∧ c.sense = ir.testBit 32 ∧ c.u0 = (s.te e).uis ∧ c.res = none ∧ Only [.tes, .caches, .chans] s t)))
  ∧ (∀ (s : State) (e : Nat) (g : Seg) (c : Cond), e < nEng → (s.te e).cur = some g → (s.te e).cond = some c → c.res = none →
    (∀ td : Int, td = max (s.te e).lastCmp (s.paceAt g c.u0) + 320 * fsNs → c.kind = 2 → ttReached s.now td = true →
      c.u0 ≤ 64 * (s.te e).posted → (∀ ch ∈ g.chans, (s.chan ch).plainOutstanding g.segId c.u0 = false) →
      ∃ t, exec (.matchResult e) s = .next t ∧ (t.te e).cond = some { c with res := some ((s.te e).fail == c.sense, td, td) }
        ∧ (t.te e).fail = false ∧ (t.te e).lastCmp = 0 ∧ (t.te e).pendMatch = some ((s.te e).fail != c.sense) ∧ Only [.tes] s t)
    ∧ (∀ td : Int, td = s.repEvent g c + 320 * fsNs → c.kind = 1 → ttReached s.now td = true → c.u0 + c.rep < (s.te e).uis →
      c.fails.contains c.rep = false → (∀ ch ∈ g.chans, (s.chan ch).uiOutstanding g.segId (c.u0 + c.rep) = false) →
      ∃ t, exec (.matchResult e) s = .next t ∧ (t.te e).cond = some { c with res := some (true, td, td) }
        ∧ (t.te e).fail = false ∧ (t.te e).lastCmp = 0 ∧ (t.te e).pendMatch = some true ∧ Only [.tes] s t)
    ∧ (c.kind = 4 → ttLe (s.tOut g c) s.now = true → (s.trigIn c.sel).flight = [] →
      ∃ t, exec (.condTimeout e) s = .next t ∧ (t.te e).cond = some { c with res := some (false, (s.tOut g c : Int), (s.tOut g c : Int)) }
        ∧ (t.te e).fail = false ∧ Only [.tes] s t)
    ∧ (∀ st b gen C D, st < nSite → b < 256 → c.kind = 3 → c.sel = b → c.gen = gen → g.site = st →
      (s.barrier st b).done = [(gen, C, D, false)] → ttLe D s.now = true → ttLt C (s.tOut g c) = true →
      ttLe (ttMax D c.since) (s.tOut g c) = true →
      ∃ t, exec (.barrierComplete st b) s = .next t ∧ (t.te e).cond = some { c with res := some (true, (ttMax D c.since : Int), (C : Int)) }
        ∧ (t.te e).pendSync = true ∧ (t.barrier st b).done = [(gen, C, D, true)] ∧ Only [.tes, .sites] s t))
  ∧ (∀ (s : State) (n tt : Nat) (rest : List Nat), n < 4 → (s.trigIn n).flight = tt :: rest → ttLe (tt + 40 * fsNs) s.now = true →
    ∃ t, exec (.triggerEventArrive n) s = .next t ∧ (t.trigIn n).flight = rest
      ∧ (∀ e, e < nEng → ∀ g, (s.te e).cur = some g → g.site = (s.trigIn n).owner → (s.te e).taking = false → ttLe (s.te e).beginAt s.now = true →
          Tbl.get none (t.te e).pendTrig n = some tt)
      ∧ Only [.sync, .tes] s t)
  ∧ (∀ (s : State) (e : Nat) (g : Seg) (a : Asm), e < nEng → (s.te e).cur = some g → (s.te e).full = some a → s.siteGoing g.site = true →
    s.roomFor g ((s.te e).uis / 64 - 1) = true →
    ∃ t, exec (.blockPost e) s = .next t ∧ (t.te e).full = none ∧ (t.te e).posted = (s.te e).uis / 64 - 1 + 1
      ∧ (∀ ch ∈ g.chans, ∃ b, (t.chan ch).flying = (s.chan ch).flying ++ [b] ∧ b.segId = g.segId ∧ b.seq = (s.te e).uis / 64 - 1
          ∧ b.tt = (g.eff + (s.chan ch).span (64 * ((s.te e).uis / 64 - 1))) % 2 ^ 64 ∧ b.tss = a.tss ∧ b.holdv = a.holdv)
      ∧ (∀ ch, ¬ g.chans.contains ch = true → t.chan ch = s.chan ch) ∧ Only [.tes, .chans] s t)
  ∧ (∀ (s : State) (e l : Nat) (g : Seg), e < nEng → (s.te e).miss = some l → (s.te e).cur = some g →
    (s.glb.hbmClear = false → exec (.cacheMissFill e) s = .next s)
    ∧ (s.glb.hbmClear = true → ∃ t, exec (.cacheMissFill e) s = .next t ∧ (t.te e).miss = none ∧ (t.lineOf g.site l).isSome = true ∧ Only [.tes, .caches] s t))

/-! ### Microwords, interrupts, machine checks (07 R127 to R145) -/

/-- Microwords (R127 to R130): SEQ picks the next micro-PC: the next word, ADDR, ADDR or the next by COND, with the return address pushed, the
popped one, the routine of the fetched opcode, ADDR while UC0 counts down, or the interrupted point; a word that waits stays
until its condition holds; ADD writes its register and the flags; a ninth CALL is a machine check. -/
def Obligations.MicrowordsSequence : Prop :=
  ∀ (s : State) (e w : Nat) (g : Seg), s.atWord e g w →
    (seqOnly w → uWait w = false →
      (uSeq w = 0 → exec (.microNext e) s = .next (s.modTe e (fun x => { x with upc := (x.upc + 1) % 4096 })))
      ∧ (uSeq w = 1 → exec (.microJump e) s = .next (s.modTe e (fun x => { x with upc := uAddr w })))
      ∧ (uSeq w = 2 → exec (.microCjump e) s = .next (s.modTe e (fun x => { x with
          upc := if (s.te e).uCond (bits w 118 6) = !(w.testBit 117) then uAddr w else (x.upc + 1) % 4096 })))
      ∧ (uSeq w = 3 → (s.te e).ustack.length < 8 → exec (.microCall e) s = .next (s.modTe e (fun x => { x with
          ustack := (x.upc + 1) % 4096 :: x.ustack, upc := uAddr w })))
      ∧ (uSeq w = 3 → 8 ≤ (s.te e).ustack.length → s.inService e = true → s.stage = .on →
          s.permanent (unitKey kEngine e) false = false →
          ∃ t, exec (.microCall e) s = .next t ∧ (t.te e).cur = none ∧ (t.hdr Ty.te e).lastCode = Code.mcUstack)
      ∧ (uSeq w = 4 → ∀ (a : Nat) (l : List Nat), (s.te e).ustack = a :: l → exec (.microRet e) s = .next (s.modTe e (fun x => { x with upc := a, ustack := l })))
      ∧ (uSeq w = 5 → ∀ ir, (s.te e).fetch < g.len → s.cached g (s.te e).fetch = true → s.streamWord g (s.te e).fetch = ir →
          ∀ d, s.entry e (bits ir 248 8) = d → entryParityOk d = true →
          dispatchCheck (d.testBit 12) (d.testBit 14) (d.testBit 13) ir ((s.te e).spin + 1) g.tethered = 0 →
          ∃ t, exec (.microDispatch e) s = .next t ∧ (t.te e).ir = ir ∧ (t.te e).op = bits ir 248 8 ∧ (t.te e).ipoff = (s.te e).fetch
            ∧ (t.te e).fetch = (s.te e).fetch + 1 ∧ (t.te e).spin = (s.te e).spin + 1
            ∧ (t.te e).upc = bits d 0 12 ∧ (t.te e).cond = none ∧ Only [.tes, .caches] s t)
      ∧ (uSeq w = 6 → exec (.microUloop e) s = .next (s.modTe e (fun x =>
          if x.uc0 = 0 then { x with upc := (x.upc + 1) % 4096 } else { x with uc0 := x.uc0 - 1, upc := uAddr w })))
      ∧ (uSeq w = 7 → exec (.microResume e) s = .next (s.modTe e (fun x => { x with
          upc := x.token.upc, ustack := x.token.ustack, uc0 := x.token.uc0, z := x.token.z, neg := x.token.neg, carry := x.token.carry,
          handler := false, token := { x.token with live := false } }))))
    ∧ (seqOnly w → uWait w = true → uSeq w = 0 →
      ((s.te e).uCond (bits w 118 6) = w.testBit 117 → exec (.microNext e) s = .next s)
      ∧ ((s.te e).uCond (bits w 118 6) = !(w.testBit 117) →
          exec (.microNext e) s = .next (s.modTe e (fun x => { x with upc := (x.upc + 1) % 4096 }))))
    ∧ (bits w 100 4 = 2 → bits w 96 4 < 8 → uEmit w = 0 → uFetch w = 0 → bits w 44 4 = 0 → bits w 60 4 = 0 → bits w 40 4 = 0 →
      uEvent w = 0 → uWait w = false → uSeq w = 0 → ∀ a, a = (s.te e).uSrc (bits w 92 4) (bits w 72 16) →
      ∀ b, b = (s.te e).uSrc (bits w 88 4) (bits w 72 16) →
      ∃ t, exec (.microNext e) s = .next t ∧ Tbl.get 0 (t.te e).gr (bits w 96 4) = (a + b) % 2 ^ 32
        ∧ ((t.te e).carry = true ↔ 2 ^ 32 ≤ a + b) ∧ ((t.te e).z = true ↔ (a + b) % 2 ^ 32 = 0)
        ∧ (t.te e).neg = ((a + b) % 2 ^ 32).testBit 31 ∧ (t.te e).upc = ((s.te e).upc + 1) % 4096 ∧ Only [.tes] s t)

/-- Interrupts, ABORT, machine checks and reloads (R137 to R145): SYNC is taken before MATCH before TRIGGER, at a SAFE word, with the token
recorded; ABORT, before a SAFE or handler word, ends the segment of a site that no
longer runs; a machine check abandons the segment, counts and starts a
reload unless the engine retires; 40 µs later the engine is back at micro-address 0, its control store written from its region's image. -/
def Obligations.InterruptsAndMachineChecks : Prop :=
  (∀ (s : State) (e : Nat) (g : Seg), e < nEng → (s.te e).cur = some g → (s.te e).taking = false → (s.te e).handler = false →
    uSafe (s.uword e) = true → s.siteGoing g.site = true → ∃ t, exec (.engineInterruptTake e) s = .next t ∧
      ((s.te e).pendSync = true → (t.te e).upc = 0x008 ∧ (t.te e).pendSync = false ∧ (t.te e).pendMatch = (s.te e).pendMatch)
      ∧ ((s.te e).pendSync = false → (s.te e).pendMatch.isSome = true → (t.te e).upc = 0x010 ∧ (t.te e).pendMatch = none)
      ∧ ((s.te e).pendSync = false → (s.te e).pendMatch = none → ∀ (line tt : Nat) (rest : List (Nat × Option Nat)), (s.te e).pendTrig = (line, some tt) :: rest →
          (t.te e).upc = 0x018 ∧ Tbl.get none (t.te e).pendTrig line = none ∧ (t.te e).evt.line = line ∧ (t.te e).evt.stamp = tt)
      ∧ ((s.te e).pending = true → (∀ p ∈ (s.te e).pendTrig, p.2.isSome = true) → (t.te e).handler = true
          ∧ (t.te e).token.upc = (s.te e).upc ∧ (t.te e).token.ustack = (s.te e).ustack ∧ (t.te e).token.live = true)
      ∧ ((s.te e).pending = false → t = s) ∧ Only [.tes, .free] s t)
  ∧ (∀ (s : State) (e : Nat) (g : Seg), e < nEng → (s.te e).cur = some g →
    (s.siteGoing g.site = false → (s.te e).taking = false → (s.te e).handler = true ∨ uSafe (s.uword e) = true →
      ∃ t, exec (.abortTake e) s = .next t ∧ (t.te e).cur = none ∧ (t.te e).token.cls = 2
      ∧ (t.te e).token.upc = (if (s.te e).handler then (s.te e).token.upc else (s.te e).upc) ∧ Only [.tes] s t)
    ∧ (s.siteGoing g.site = true → exec (.abortTake e) s = .next s))
  ∧ (∀ (s : State) (e k : Nat) (g : Seg), e < nEng → k < 3 → s.inService e = true → (s.te e).reload = false → s.stage = .on →
    (s.te e).cur = some g → s.permanent (unitKey kEngine e) false = false → (s.fault (unitKey kEngine e)).retired = false →
    ∃ t, exec (.machineCheck e k) s = .next t ∧ (t.te e).cur = none ∧ (t.te e).token.cls = 1 ∧ (t.te e).reload = true
      ∧ (t.rgn (rgnOfTe e)).reloads = (s.rgn (rgnOfTe e)).reloads ++ [e] ∧ (t.hdr Ty.te e).irqStatus.testBit 0 = true
      ∧ (t.hdr Ty.te e).lastCode = (if k = 0 then Code.mcParity else if k = 1 then Code.mcDispatch else Code.mcUstack)
      ∧ (s.siteGoing g.site = true → g.tethered = false → g.reloc = true → ttLe (s.now + (s.site g.site).lead * fsNs + 60 * fsNs) g.startTt = true →
          (s.te e).deque.length < 64 → (∃ r, (t.te e).deque = (s.te e).deque ++ [r] ∧ r.raw = g.raw ∧ r.queue = g.queue ∧ r.eff = g.eff) ∧ (t.site g.site).st = (s.site g.site).st)
      ∧ (s.siteGoing g.site = true → g.tethered = false → g.reloc = true → ttLe (s.now + (s.site g.site).lead * fsNs + 60 * fsNs) g.startTt = false →
          (t.site g.site).st = .aborted)
      ∧ Only (.faults :: .rgns :: burstParts) s t)
  ∧ (∀ (s : State) (e : Nat), e < nEng → (s.rgn (rgnOfTe e)).reloads.head? = some e →
    (s.rgn (rgnOfTe e)).reloadAt + 40 * fsUs ≤ s.up → (s.rgn (rgnOfTe e)).instOn = false →
    (∃ t, exec (.reloadDone e false) s = .next t ∧ (t.te e).reload = false ∧ (t.te e).upc = 0 ∧ (t.te e).ustack = []
      ∧ (t.te e).lastSite = none ∧ (t.rgn (rgnOfTe e)).reloads = (s.rgn (rgnOfTe e)).reloads.drop 1
      ∧ (t.hdr Ty.te e).irqStatus.testBit 1 = true ∧ (∀ i : McImage, i = Tbl.get {} s.micro (rgnOfTe e) →
          t.store e = { words := i.words.map withParity, entries := i.dispatch.map entryParity }) ∧ Only ([.tes, .rgns, .caches] ++ causeParts) s t)
    ∧ ((s.fault (unitKey kEngine e)).retired = false → ∃ t, exec (.reloadDone e true) s = .next t ∧ (t.hdr Ty.te e).retired = true
      ∧ (t.fault (unitKey kEngine e)).retired = true))
  ∧ (∀ (s : State) (e : Nat), e < nEng → exec (.idleScan e false) s = .next s)
  ∧ (∀ (s : State) (e : Nat), e < nEng → s.stage = .on → s.inService e = true → (s.te e).reload = false → (s.te e).cur = none →
    s.permanent (unitKey kEngine e) false = false → (s.fault (unitKey kEngine e)).retired = false →
    ∃ t, exec (.idleScan e true) s = .next t ∧ (t.te e).reload = true ∧ (t.te e).mcScan = min 255 ((s.te e).mcScan + 1)
      ∧ (t.hdr Ty.te e).lastCode = Code.mcScan ∧ Only ([.faults, .tes, .rgns, .free] ++ errorParts) s t)

/-! ### Placement, stealing, taking, underruns, results, ticks (08 R158 to R166; 01 R18; 11 R226; 03 R66) -/

/-- Placement and taking (R160 to R164, R31; 06 R104): with no entry to hand over, the next queue in round robin that may place gives
the oldest entry handed back to it, else its head descriptor, to the tail of the chosen deque of its site, and with the head descriptor HEAD moves on;
the entry nearest the head of an engine out of service goes to a deque of its site, or back to its queue where no engine of the site is in
service; a re-queue slot drains into room; an idle engine takes the entry nearest the head of its own deque
whose site runs, else the relocatable tail of a victim that leaves lead and steal cost and that no other engine takes in this cycle;
a take runs the descriptor checks, scrubs on a change of site, and starts at microword 0. -/
def Obligations.SegmentsArePlacedAndTaken : Prop :=
  (∀ (s : State) (q e : Nat), s.qmgr.ready = true → s.handoverDue = false →
    ((s.placeable.filter (fun x => decide (s.placedQ < x))).head?.or s.placeable.head?) = some q →
    s.chooseDeque (s.queue q).owner = some e →
    (s.site (s.queue q).owner).teMask.testBit e = true ∧ s.inPool e = true
    ∧ (s.returned.find? (fun g => g.queue == q) = none →
      ∃ t, exec .segmentPlace s = .next t ∧ (t.te e).deque = (s.te e).deque ++ [s.headSeg q] ∧ (∀ f, f ≠ e → t.te f = s.te f)
        ∧ (t.queue q).head = ((s.queue q).head + 1) % (s.queue q).slots ∧ (t.queue q).tail = (s.queue q).tail ∧ t.placedQ = q
        ∧ (t.site (s.queue q).owner).rr = (e + 1) % nEng ∧ t.returned = s.returned ∧ Only [.queues, .fns, .outs, .tes, .sites, .caches, .bmem] s t)
    ∧ (∀ g : Seg, s.returned.find? (fun g => g.queue == q) = some g →
      ∃ t, exec .segmentPlace s = .next t ∧ (t.te e).deque = (s.te e).deque ++ [g] ∧ (∀ f, f ≠ e → t.te f = s.te f)
        ∧ t.returned = s.returned.erase g ∧ t.placedQ = q ∧ Only [.tes, .sites, .caches] s t))
  ∧ (∀ (s : State), s.placeable = [] → exec .segmentPlace s = .next s)
  ∧ (∀ (s : State) (e : Nat) (g : Seg) (rest : List Seg), e < nEng → s.inService e = false → (s.te e).deque = g :: rest →
    (∀ f, s.chooseDeque g.site = some f → s.hasEngine g.site = true → ∃ t, exec (.dequeHandover e) s = .next t ∧ (t.te e).deque = rest
      ∧ (t.te f).deque = (s.te f).deque ++ [g] ∧ t.returned = s.returned ∧ Only [.tes, .sites] s t)
    ∧ (s.hasEngine g.site = false → ∃ t, exec (.dequeHandover e) s = .next t ∧ (t.te e).deque = rest
      ∧ t.returned = s.returned ++ [g] ∧ (∀ f, f ≠ e → t.te f = s.te f) ∧ Only [.tes, .caches] s t))
  ∧ (∀ (s : State) (e : Nat) (tail : Bool) (g : Seg), e < nEng → (s.te e).slot = some (tail, g) → (s.te e).deque.length < 64 →
    ∃ t, exec (.requeueSlotDrain e) s = .next t ∧ (t.te e).slot = none
      ∧ (t.te e).deque = (if tail then (s.te e).deque ++ [g] else g :: (s.te e).deque) ∧ Only [.tes] s t)
  ∧ (∀ (s : State) (e : Nat) (g : Seg) (pre post : List Seg), e < nEng → s.idleEng e = true → (s.te e).deque = pre ++ g :: post →
    (∀ x ∈ pre, (s.site x.site).st ≠ .running) → (s.site g.site).st = .running →
    ∃ t, exec (.dequePop e) s = .next t ∧ (t.te e).cur = some g ∧ (t.te e).taking = true ∧ (t.te e).deque = pre ++ post
      ∧ (t.te e).beginAt = s.now + 2048 ∧ (∀ f, f ≠ e → t.te f = s.te f) ∧ Only [.tes] s t)
  ∧ (∀ (s : State) (e v : Nat) (g : Seg), e < nEng → s.thief e = true → s.victimOf e = some v → v ≠ e → (s.te v).deque.getLast? = some g →
    (s.stealable e g (stealCost e v) = true → s.tailTaken e v g = false →
      ∃ t, exec (.stealProbe e) s = .next t ∧ (t.te e).cur = some g ∧ (t.te e).taking = true ∧ (t.te v).deque = (s.te v).deque.dropLast
        ∧ (t.te e).beginAt = s.now + stealCost e v ∧ (t.te e).stealMade = min 65535 ((s.te e).stealMade + 1)
        ∧ (t.te v).stealSuf = min 65535 ((s.te v).stealSuf + 1)
        ∧ (rgnOfTe e = rgnOfTe v → t.qmgr.stealLocal = min (2 ^ 32 - 1) (s.qmgr.stealLocal + 1) ∧ t.qmgr.stealRemote = s.qmgr.stealRemote)
        ∧ (rgnOfTe e ≠ rgnOfTe v → t.qmgr.stealRemote = min (2 ^ 32 - 1) (s.qmgr.stealRemote + 1) ∧ t.qmgr.stealLocal = s.qmgr.stealLocal)
        ∧ Only [.tes, .qmgr] s t)
    ∧ (s.stealable e g (stealCost e v) = false ∨ s.tailTaken e v g = true →
      ∃ t, exec (.stealProbe e) s = .next t ∧ (t.te e).cur = none ∧ (∀ x, (t.te x).deque = (s.te x).deque)
        ∧ Tbl.get 0 (t.te e).victim (rgnOfTe v) = v + 1 ∧ Only [.tes] s t))
  ∧ (∀ (s : State) (e : Nat) (g : Seg), e < nEng → (s.te e).cur = some g → (s.te e).taking = true → s.siteGoing g.site = true →
    (s.takeCheck g = 0 →
      ∃ t, exec (.segmentTake e) s = .next t ∧ (t.te e).taking = false ∧ (t.te e).cur = some g ∧ (t.te e).upc = 0 ∧ (t.te e).fetch = 0
        ∧ (t.te e).uis = 0 ∧ (t.te e).pstack = [] ∧ (t.te e).lastSite = some g.site ∧ (t.te e).prevs = g.prev0.getD []
        ∧ ((s.te e).lastSite ≠ some g.site → (t.te e).gr = [] ∧ (t.te e).token = {} ∧ (t.te e).beginAt = (s.te e).beginAt + 8 * fsNs)
        ∧ ((s.te e).lastSite = some g.site → (t.te e).gr = (s.te e).gr ∧ (t.te e).beginAt = (s.te e).beginAt) ∧ Only [.tes] s t)
    ∧ (s.takeCheck g ≠ 0 →
      ∃ t, exec (.segmentTake e) s = .next t ∧ (t.te e).cur = none ∧ t.err.lastCode = s.takeCheck g
        ∧ (t.site g.site).st = (s.site g.site).st ∧ Only (.tes :: .caches :: errorParts) s t))

/-- Deadlines, thermal shutdown, crossings, results, ticks (R158, R173; 18 R386; 01 R18; 11 R222, R226; 10 R214; 03 R65, R66): a block of a pending segment
missing on its channel 32 ns before its TT aborts the site late with that deadline as the entry instant, a present one does nothing; a parity
error on a waiting block at its deadline discards it and aborts; at 115 °C a region
shuts down; a crossing flips its comparator's output; the earliest due result counts, judges the fail flag or feeds the match of its segment on the engine that runs it or in the entry that waits; a
tick applies the due level entries. Stated while no other site's segment is judged on the channel; which block an abandoned segment is judged by is log entry 28. -/
def Obligations.DeadlinesResultsAndTicks : Prop :=
  (∀ (s : State) (ch g q st : Nat), ch < 192 → st < 16 → s.siteGoing st = true →
    (∀ i, i < 16 → i ≠ st → s.judged i g q ch = none) →
    (∀ eff, ¬ (s.chOwner ch = st ∧ (s.chan ch).present g q = true) → s.judged st g q ch = some eff →
      ttLt (s.now + 32 * fsNs) (eff + (s.chan ch).span (64 * q)) = false → (s.site st).cut = none →
      ∃ t, exec (.blockDeadline ch g q false) s = .next t ∧ (t.site st).st = .aborted
        ∧ (t.site st).abortCause = abortCauseCode Code.burstAbortLate
        ∧ (t.site st).abortT = some ((eff + (s.chan ch).span (64 * q) + 2 ^ 64 - 32 * fsNs) % 2 ^ 64) ∧ Only burstParts s t)
    ∧ (s.chOwner ch = st → (s.chan ch).present g q = true → exec (.blockDeadline ch g q false) s = .next s)
    ∧ (s.chOwner ch = st → ∀ b : Block, (s.chan ch).fifo.find? (fun b => b.segId == g && b.seq == q) = some b → ttLe b.deadline s.now = true →
      (s.fault (unitKey kSlice (s.sliceOf ch))).retired = false → s.permanent (unitKey kSlice (s.sliceOf ch)) false = false →
      ∃ t, exec (.blockDeadline ch g q true) s = .next t ∧ (∀ x ∈ (t.chan ch).fifo, ¬ (x.segId = g ∧ x.seq = q))
        ∧ (t.site st).st = .aborted ∧ (t.site st).abortT = some b.deadline
        ∧ (t.hdr Ty.clu (cluOf ch)).lastCode = Code.sliceParity ∧ Only (.faults :: burstParts) s t))
  ∧ (∀ (s : State) (r : Nat), r < 4 → s.stage = .on → (s.rgn r).shutdown = false →
    ((s.rgn r).temp < 115 * 1024 → exec (.regionThermalShutdown r) s = .next s)
    ∧ (115 * 1024 ≤ (s.rgn r).temp → ∃ t, exec (.regionThermalShutdown r) s = .next t ∧ (t.rgn r).shutdown = true
      ∧ (t.hdr Ty.rgn r).irqStatus.testBit 1 = true ∧ (∀ ch, 48 * r ≤ ch → ch < 48 * r + 48 → t.inHiz ch)
      ∧ (∀ ch, 48 * r ≤ ch → ch < 48 * r + 48 → s.chOwner ch < 16 → (t.site (s.chOwner ch)).st ≠ .running)
      ∧ (∀ e, e / 24 = r → e < nEng → (t.te e).cur = none) ∧ (∀ j, j ≠ r → t.rgn j = s.rgn j)
      ∧ Only ([.rgns, .cals, .clus, .smb, .madcs] ++ burstParts) s t))
  ∧ (∀ (s : State) (ch : Nat) (cl rising : Bool) (tt : Nat), ch < 192 → s.stage = .on → s.pwr.analogOff = false → tt < 2 ^ 64 →
    ((if cl then (s.chan ch).outCL else (s.chan ch).outCH) = !rising →
      ∃ t, exec (.comparatorCrossing ch cl rising tt) s = .next t ∧ (if cl then (t.chan ch).outCL else (t.chan ch).outCH) = rising
        ∧ (if cl then (t.chan ch).outCH = (s.chan ch).outCH else (t.chan ch).outCL = (s.chan ch).outCL)
        ∧ (t.chan ch).crossings = (s.chan ch).crossings ++ [{ tt := tt, cl := cl, rising := rising, hid := !(s.hdr Ty.cmp ch).en }]
        ∧ (∀ c, c ≠ ch → t.chan c = s.chan c) ∧ Only [.chans, .acqs] s t)
    ∧ ((if cl then (s.chan ch).outCL else (s.chan ch).outCH) = rising → exec (.comparatorCrossing ch cl rising tt) s = .next s))
  ∧ (∀ (s : State) (ch : Nat) (v : CmpRes), ch < 192 → nextRes (s.chan ch).results = some v →
    (ttReached s.now v.due = false → exec (.compareResult ch) s = .next s)
    ∧ (ttReached s.now v.due = true →
      (v.ev.holdv = false → v.ev.sym ≠ symCAPT → v.pass = true → ∃ t, exec (.compareResult ch) s = .next t
        ∧ t.chan ch = { s.chan ch with results := (s.chan ch).results.erase v } ∧ (∀ e, (t.te e).fail = (s.te e).fail)
        ∧ Only [.chans, .hists, .tes, .caches, .fcus] s t)
      ∧ (v.ev.holdv = false → v.ev.sym = symCAPT → ∃ t, exec (.compareResult ch) s = .next t
        ∧ t.chan ch = { s.chan ch with results := (s.chan ch).results.erase v } ∧ Only [.chans, .hists, .fcus] s t)
      ∧ (v.ev.holdv = false → v.ev.sym ≠ symCAPT → v.pass = false → ∃ t, exec (.compareResult ch) s = .next t
        ∧ (t.chan ch).results = (s.chan ch).results.erase v ∧ (t.chan ch).failCount = min (2 ^ 48 - 1) ((s.chan ch).failCount + 1)
        ∧ (t.chan ch).failSeen = true
        ∧ (∀ e g, e < nEng → (s.te e).cur = some g → g.segId = v.ev.segId → g.site = v.ev.site → (s.te e).taking = false →
            (t.te e).fail = true ∧ (t.te e).lastCmp = max (s.te e).lastCmp v.at_)
        ∧ (∀ e g, e < nEng → g ∈ (s.te e).deque → g.segId = v.ev.segId → g.site = v.ev.site →
            { g with lastCmp := max g.lastCmp v.at_, fail := true } ∈ (t.te e).deque)
        ∧ Only ([.chans, .hists, .tes, .caches, .fcus, .mem, .bmem] ++ causeParts) s t)
      ∧ (v.ev.holdv = true → ∃ t, exec (.compareResult ch) s = .next t ∧ (t.chan ch).lastPass = v.pass ∧ (t.chan ch).mValid = true
        ∧ (t.chan ch).reps = min 0xFFFFFF ((s.chan ch).reps + 1) ∧ (t.chan ch).failCount = (s.chan ch).failCount
        ∧ (∀ e g, e < nEng → (s.te e).cur = some g → g.segId = v.ev.segId → g.site = v.ev.site → (s.te e).taking = false →
            ∀ c, (s.te e).cond = some c → c.kind = 1 → c.u0 ≤ 64 * v.ev.seq + v.ev.k →
            (t.te e).cond = some { c with
              fails := if v.pass then c.fails else c.fails ++ [64 * v.ev.seq + v.ev.k - c.u0],
              ats := c.ats ++ [(64 * v.ev.seq + v.ev.k - c.u0, v.at_)] })
        ∧ Only [.chans, .hists, .tes, .caches] s t)))
  ∧ (∀ (s : State) (st : Nat), st ≤ 16 →
    (s.lclkDue st = false → exec (.lclkTick st) s = .next s)
    ∧ (s.lclkDue st = true → ∃ t, exec (.lclkTick st) s = .next t ∧ (t.site st).lclkLast = some s.root
      ∧ (t.site st).lclkNow = (s.site st).lclkDiv
      ∧ (∀ ch x, ch < 192 → s.chOwner ch = st → (s.hdr Ty.lvl ch).en = true → (s.chan ch).lvlq = [x] →
          (x.stamp ≤ s.now → (t.chan ch).lvlq = [] ∧ (t.chan ch).code x.dac = x.code % 65536 ∧ (t.hdr Ty.lvl ch).irqStatus.testBit 0 = true)
          ∧ (s.now < x.stamp → (t.chan ch).lvlq = [x] ∧ ∀ d, (t.chan ch).code d = (s.chan ch).code d))
      ∧ (∀ ch, s.chOwner ch ≠ st → t.chan ch = s.chan ch) ∧ Only ([.chans, .sites, .madcs, .hists] ++ causeParts) s t))

/-! ### Ownership and grants (01 R28 to R30; 16 R341 to R344) -/

/-- Ownership (R28 to R30, R341, R342, R344): a resource moves between IDLE sites only, stopped, its registers back at reset with the header of
the new owner; a channel's four pages move together; a cluster's three units move together; a move that breaks this is
rejected; the queue range changes only while the site is IDLE and no queue that changes owner is enabled, and the bodies of queues that
change owner are zeroed. -/
def Obligations.OwnersChangeOnlyBetweenIdleSites : Prop :=
  (∀ (s : State) (fn ty inst o v : Nat), s.accepts fn ty inst 0x020 = true → o ≤ 16 → v < 256 → (o < 16 → v ≤ 63) →
    (o = (s.hdr ty inst).owner →
      exec (.blkOwnerWrite fn ty inst (o + 256 * v)) s = .next (s.modHdr ty inst (fun h => { h with vector := v })))
    ∧ (o ≠ (s.hdr ty inst).owner → ownable ty = true → s.moveBad ty inst o = false →
      ∃ t, exec (.blkOwnerWrite fn ty inst (o + 256 * v)) s = .next t
        ∧ t.hdr ty inst = { owner := o, vector := v, retired := (s.hdr ty inst).retired }
        ∧ (ty = Ty.madc → t.madc inst = { cal := (s.madc inst).cal, calNext := (s.madc inst).calNext })
        ∧ (ty = Ty.acq → t.acq inst = {}) ∧ (ty = Ty.hist → t.hist inst = {})
        ∧ (ty = Ty.tg ∨ ty = Ty.cmp ∨ ty = Ty.pe ∨ ty = Ty.lvl →
            t.chan inst = (s.chan inst).cleared ∧ (t.chan inst).codes = [] ∧ (t.chan inst).drvMode = 0
            ∧ (∀ y, y = Ty.tg ∨ y = Ty.cmp ∨ y = Ty.pe ∨ y = Ty.lvl → (t.hdr y inst).owner = o))
        ∧ Only [.hdrs, .chans, .sites, .sec, .madcs, .acqs, .hists] s t)
    ∧ (o ≠ (s.hdr ty inst).owner → (ownable ty = false ∨ s.moveBad ty inst o = true) →
      exec (.blkOwnerWrite fn ty inst (o + 256 * v)) s = .next (s.reject fn Code.ownerConflict ty inst)))
  ∧ (∀ (s : State) (fn st k val : Nat), k < 6 → s.accepts fn Ty.site st (0x060 + 4 * k) = true →
    ((∀ j, j < 32 → (val.testBit j = true → s.chOwner (32 * k + j) = st
          ∨ (s.chOwner (32 * k + j) = 16 ∧ s.moveBad Ty.tg (32 * k + j) st = false))
        ∧ (val.testBit j = false → s.chOwner (32 * k + j) = st → s.moveBad Ty.tg (32 * k + j) 16 = false)) →
      ∃ t, exec (.siteChMaskWrite fn st k val) s = .next t
        ∧ (∀ j, j < 32 → t.chOwner (32 * k + j) = if val.testBit j then st
            else if s.chOwner (32 * k + j) = st then 16 else s.chOwner (32 * k + j))
        ∧ (∀ j, j < 32 → t.chOwner (32 * k + j) ≠ s.chOwner (32 * k + j) → t.chan (32 * k + j) = (s.chan (32 * k + j)).cleared)
        ∧ (∀ c, t.chOwner c = s.chOwner c → t.chan c = s.chan c) ∧ Only [.hdrs, .chans, .sites, .sec, .madcs] s t)
    ∧ (∀ j, j < 32 → val.testBit j = true → s.chOwner (32 * k + j) ≠ st → s.chOwner (32 * k + j) ≠ 16 →
      exec (.siteChMaskWrite fn st k val) s = .next (s.reject fn Code.ownerConflict Ty.site st)))
  ∧ (∀ (s : State) (fn st val : Nat), s.accepts fn Ty.site st 0x078 = true →
    (s.cluMoves st val).all (fun p => !s.moveBad p.1 p.2.1 p.2.2) = true →
    ∃ t, exec (.siteCluMaskWrite fn st val) s = .next t
      ∧ (∀ k ty, k < 24 → ty = Ty.madc ∨ ty = Ty.acq ∨ ty = Ty.hist → val.testBit k ≠ (s.cluMask st).testBit k →
          (t.hdr ty k).owner = if val.testBit k then st else 16)
      ∧ (∀ k ty, k < 24 → val.testBit k = (s.cluMask st).testBit k → t.hdr ty k = s.hdr ty k)
      ∧ Only [.hdrs, .madcs, .acqs, .hists] s t)
  ∧ (∀ (s : State) (fn st val : Nat), s.accepts fn Ty.site st 0x088 = true → bits val 0 20 + (s.site st).qCount ≤ 1048576 →
    (s.site st).qCount ≤ 1048576 → s.siteIdle st = true →
    (∀ i, i < 16 → i ≠ st → rangesMeet (bits val 0 20) (s.site st).qCount (s.site i).qBase (s.site i).qCount = false) →
    (∀ p ∈ s.queues, p.2.enable = true → inRange (s.site st).qBase (s.site st).qCount p.1 = inRange (bits val 0 20) (s.site st).qCount p.1) →
    ∃ t, exec (.siteQueueRangeWrite fn st false val) s = .next t ∧ (t.site st).qBase = bits val 0 20
      ∧ (t.site st).qCount = (s.site st).qCount
      ∧ (∀ q, inRange (s.site st).qBase (s.site st).qCount q ≠ inRange (bits val 0 20) (s.site st).qCount q → t.queue q = {})
      ∧ (∀ q, inRange (s.site st).qBase (s.site st).qCount q ≠ inRange (bits val 0 20) (s.site st).qCount q → q ∈ s.queues.map (·.1) →
          s.granted (s.qOwner q) (s.queue q).base (slotSize (s.queue q).type * (s.queue q).slots) = true →
          ∀ i, i < slotSize (s.queue q).type * (s.queue q).slots → t.byte ((s.queue q).base + i) = 0)
      ∧ (∀ i, i ≠ st → t.site i = s.site i) ∧ Only [.queues, .sites, .mem] s t)
  ∧ (∀ (s : State) (fn st val i : Nat), s.accepts fn Ty.site st 0x08C = true → bits val 0 21 ≤ 1048576 →
    (s.site st).qBase + bits val 0 21 ≤ 1048576 → i < 16 → i ≠ st →
    rangesMeet (s.site st).qBase (bits val 0 21) (s.site i).qBase (s.site i).qCount = true →
    exec (.siteQueueRangeWrite fn st true val) s = .next (s.reject fn Code.ownerConflict Ty.site st))

/-- The engine mask (R343): the owner function's write of SITE_TE_MASK_k puts its 32 bits, whatever engines they name, in bits 32k to 32k +
31 of the site's 96-bit mask while the site is IDLE and is rejected with BLK_BUSY at any other time; a write by another function
changes no mask; other sites may name the same engines. -/
def Obligations.EngineMaskIsWrittenOnlyWhileIdle : Prop :=
  (∀ (s : State) (st k val : Nat), k < 3 → s.accepts 0 Ty.site st (0x07C + 4 * k) = true →
    (s.siteIdle st = true → ∃ t, exec (.siteTeMaskWrite 0 st k val) s = .next t
      ∧ bits (t.site st).teMask (32 * k) 32 = val % 2 ^ 32
      ∧ (∀ j, j ≠ k → bits (t.site st).teMask (32 * j) 32 = bits (s.site st).teMask (32 * j) 32)
      ∧ t.site st = { s.site st with teMask := (t.site st).teMask } ∧ (∀ i, i ≠ st → t.site i = s.site i) ∧ Only [.sites] s t)
    ∧ (s.siteIdle st = false → exec (.siteTeMaskWrite 0 st k val) s = .next (s.reject 0 Code.blkBusy Ty.site st)
      ∧ ∀ i, ((s.reject 0 Code.blkBusy Ty.site st).site i).teMask = (s.site i).teMask))
  ∧ (∀ (s : State) (fn st k val : Nat), k < 3 → st < 16 → fn ≠ 0 → fn < 18 →
    ∃ t, exec (.siteTeMaskWrite fn st k val) s = .next t ∧ ∀ i, (t.site i).teMask = (s.site i).teMask)

/-! ### Bank memory, its tester, HBM, microcode at power-up (15 R307 to R316; 07 R147, R148) -/

/-- Memory units (R308 to R312, R314, R331, R332; 07 R148): a served bank read leaves memory, a served write stores its bytes; a read answers the
bytes it holds; of two clashing writers the token holder writes first and the clash counts; two masters of one port in one bank are served one after
the other, ring order first, an access to the queue table reaches the descriptors; the tester borrows the next region past the electrum region, then
one left from this pass, and gives it back with its failures counted; HBM temperatures set the refresh rate, corrected errors count and a bandwidth
window its counters; at power-up each region loader runs the newer slot if it verifies, else the older with MICROCODE_FALLBACK, in the control stores
of its 24 engines; with neither the module stays in SAFE with its cause. -/
def Obligations.MemoryUnitsServeTestAndLoad : Prop :=
  (∀ (s : State) (r : BankReq), r.ok = true → s.stage = .on → s.glb.bmemClear = true → s.bmem.active = false →
    ∃ t, exec (.bankAccess [r]) s = .next t
      ∧ (∀ d, r.data = some d → 0x1000000 ≤ r.off → (∀ i, i < d.length → t.byte (bankBase + r.off + i) = d.getD i 0)
          ∧ (∀ a, (a < bankBase + r.off ∨ bankBase + r.off + d.length ≤ a) → t.byte a = s.byte a) ∧ t.queues = s.queues)
      ∧ (∀ d, r.data = some d → r.off + d.length ≤ 0x1000000 → t.mem = s.mem
          ∧ (∀ q, (16 * (q + 1) ≤ r.off ∨ r.off + d.length ≤ 16 * q) → t.queue q = s.queue q))
      ∧ (r.data.isSome = true → t.outs = s.outs)
      ∧ (r.data = none → t.mem = s.mem ∧ t.queues = s.queues ∧ ∃ l, t.outs = .bank r.master l :: s.outs ∧ l.length = r.span
          ∧ (0x1000000 ≤ r.off → l = s.bytes (bankBase + r.off) r.span)
          ∧ (∀ q, r.off = 16 * q → r.span = 16 → q < 2 ^ 20 → ∀ i, i < 16 → l.getD i 0 = BitVec.ofNat 8 ((s.queue q).word >>> (8 * i))))
      ∧ t.bmem.conflict = min (2 ^ 32 - 1) s.bmem.conflict ∧ Only [.bmem, .mem, .outs, .queues] s t)
  ∧ (∀ (s : State) (x y : BankReq) (dx dy : List Byte), s.stage = .on → s.glb.bmemClear = true → s.bmem.active = false →
    x.ok = true → y.ok = true → x.portB = false → y.portB = true → x.off = y.off → 0x1000000 ≤ x.off → x.data = some dx → y.data = some dy →
    dx ≠ dy → dx.length = dy.length → x.off % 32 + dx.length ≤ 32 →
    ∃ t, exec (.bankAccess [x, y]) s = .next t ∧ t.bmem.collide = min (2 ^ 32 - 1) (s.bmem.collide + 1)
      ∧ (∀ i, i < dx.length → t.byte (bankBase + x.off + i) = (if s.tokenA x.bank then dy else dx).getD i 0)
      ∧ (∀ a, (a < bankBase + x.off ∨ bankBase + x.off + dx.length ≤ a) → t.byte a = s.byte a) ∧ Only [.bmem, .mem] s t)
  ∧ (∀ (s : State) (x y : BankReq), s.stage = .on → s.glb.bmemClear = true → s.bmem.active = false → x.ok = true → y.ok = true →
    x.portB = false → y.portB = false → x.bank = y.bank → x.data = none → y.data = none → 0x1000000 ≤ x.off → 0x1000000 ≤ y.off →
    x.off % 32 + x.len ≤ 32 → y.off % 32 + y.len ≤ 32 →
    ∃ t, exec (.bankAccess [x, y]) s = .next t ∧ t.mem = s.mem ∧ t.bmem.conflict = min (2 ^ 32 - 1) (s.bmem.conflict + 1)
      ∧ (ringDist 13 (Tbl.get 12 s.bmem.winA x.bank) x.master < ringDist 13 (Tbl.get 12 s.bmem.winA x.bank) y.master →
          Tbl.get 12 t.bmem.winA x.bank = y.master
          ∧ t.outs = .bank y.master (s.bytes (bankBase + y.off) y.len) :: .bank x.master (s.bytes (bankBase + x.off) x.len) :: s.outs)
      ∧ (ringDist 13 (Tbl.get 12 s.bmem.winA x.bank) y.master < ringDist 13 (Tbl.get 12 s.bmem.winA x.bank) x.master →
          Tbl.get 12 t.bmem.winA x.bank = x.master
          ∧ t.outs = .bank x.master (s.bytes (bankBase + x.off) x.len) :: .bank y.master (s.bytes (bankBase + y.off) y.len) :: s.outs)
      ∧ Only [.bmem, .outs] s t)
  ∧ (∀ (s : State), s.bmem.testEn = true → s.inMode [.ready, .run, .service] = true → s.bmem.active = false →
    s.bmem.startAt.any (fun x => decide (s.up < x + s.bmem.interval * fsMs)) = false →
    (∃ t, exec .bmemTestRegionStart s = .next t ∧ t.bmem.active = true ∧ t.bmem.marching = true ∧ t.bmem.startAt = some s.up
      ∧ (s.bmem.next < 1536 → t.bmem.region = (if 0x540 ≤ s.bmem.next ∧ s.bmem.next < 0x580 then 0x580 else s.bmem.next)
          ∧ t.bmem.next = t.bmem.region + 1 ∧ t.bmem.retest = s.bmem.retest)
      ∧ (1536 ≤ s.bmem.next → (∀ x ∈ s.bmem.retest.head?, t.bmem.region = x) ∧ (s.bmem.retest = [] → t.bmem.region = 0 ∧ t.bmem.next = 1)
          ∧ t.bmem.retest = s.bmem.retest.tail) ∧ Only [.bmem] s t))
  ∧ (∀ (s : State), s.bmem.testEn = false → exec .bmemTestRegionStart s = .next s)
  ∧ (∀ (s : State), s.bmem.active = true →
    (∃ t, exec (.bmemMarchDone []) s = .next t ∧ t.bmem.active = false ∧ t.bmem.marching = false ∧ t.bmem.fails = s.bmem.fails
      ∧ t.bmem.passes = (if 1536 ≤ s.bmem.next ∧ s.bmem.retest = [] then min 65535 (s.bmem.passes + 1) else s.bmem.passes)
      ∧ Only [.bmem] s t)
    ∧ (∀ o, o / 65536 = s.bmem.region → s.bmem.suspect.contains (o / 32 * 32) = false →
      s.permanent (unitKey kBank (o / 32 % 64)) false = false →
      ∃ t, exec (.bmemMarchDone [o]) s = .next t ∧ t.bmem.active = false ∧ t.bmem.fails = min 255 (s.bmem.fails + 1)
        ∧ o / 32 * 32 ∈ t.bmem.suspect ∧ (t.hdr Ty.bmem 0).irqStatus.testBit 0 = true ∧ (t.hdr Ty.bmem 0).lastCode = Code.bmemTestFail
        ∧ t.glb = s.glb ∧ Only ([.bmem, .faults] ++ errorParts) s t))
  ∧ (∀ (s : State) (t0 t1 t2 : Int × Nat), s.stage = .on →
    ∃ t, exec (.hbmTempRefresh t0 t1 t2) s = .next t
      ∧ (∀ p ∈ [(0, t0), (1, t1), (2, t2)], t.hbm p.1 = { s.hbm p.1 with
          temp := p.2.1, doubleRefresh := decide (95 * 1024 < p.2.1), eccCorr := min (2 ^ 32 - 1) ((s.hbm p.1).eccCorr + p.2.2) })
      ∧ Only [.hbms] s t)
  ∧ (∀ (s : State) (i thr : Nat) (served demand : List Nat) (bp : Bool), i < 3 → s.stage = .on →
    ∃ t, exec (.hbmBwWindow i served demand thr bp) s = .next t
      ∧ (∀ c, c < 4 → Tbl.get 0 (t.hbm i).served c = min 65535 (served.getD c 0) ∧ Tbl.get 0 (t.hbm i).demand c = min 65535 (demand.getD c 0))
      ∧ (t.hbm i).bp = (bp || thr.testBit 3) ∧ (t.hbm i).bpQueue = thr.testBit 3 ∧ (t.hbm i).degFail = thr.testBit 0 ∧ (t.hbm i).degAcq = thr.testBit 1 ∧ (t.hbm i).degHost = thr.testBit 2
      ∧ (thr % 8 ≠ 0 → (t.hbm i).events = min 65535 ((s.hbm i).events + 1)) ∧ (thr % 8 = 0 → (t.hbm i).events = (s.hbm i).events)
      ∧ (thr.testBit 0 = true → (s.hbm i).degFail = false → (t.hdr Ty.hbm i).irqStatus.testBit 1 = true)
      ∧ (∀ j, j ≠ i → t.hbm j = s.hbm j) ∧ Only (.hbms :: causeParts) s t)
  ∧ (∀ (s : State) (sigs : Nat), s.stage = .on → s.glb.bmemClear = true → s.glb.fwOk = true → s.glb.mcLoaded = false →
    ((∀ r, r < 4 → (s.mcSlots r).newest.any (fun p => slotCheck p.2 (sigs.testBit (2 * r + b2n (s.mcSlots r).newer)) s.sec.mcFloor == 0) = true) →
      ∃ t, exec (.mcLoadDone sigs) s = .next t ∧ t.glb.mcLoaded = true ∧ t.err = s.err
        ∧ (∀ r, r < 4 → (t.rgn r).holding.length = 24 ∧ (t.rgn r).slot = (s.mcSlots r).newer ∧ (t.rgn r).fallback = false
            ∧ (∀ p ∈ (s.mcSlots r).newest, (t.rgn r).version = p.2.version ∧ Tbl.get {} t.micro r = p.2
              ∧ ∀ e, e < 96 → e / 24 = r → Tbl.get {} t.stores e = { words := p.2.words.map withParity, entries := p.2.dispatch.map entryParity }))
        ∧ Only [.glb, .rgns, .caches] s t)
    ∧ ((∀ r, r < 4 → (s.mcSlots r).newest.any (fun p => slotCheck p.2 (sigs.testBit (2 * r + b2n (s.mcSlots r).newer)) s.sec.mcFloor == 0) = false
        ∧ (s.mcSlots r).older.any (fun p => slotCheck p.2 (sigs.testBit (2 * r + b2n (!(s.mcSlots r).newer))) s.sec.mcFloor == 0) = true) →
      ∃ t, exec (.mcLoadDone sigs) s = .next t ∧ t.glb.mcLoaded = true ∧ t.err.lastCode = Code.microcodeFallback
        ∧ (∀ r, r < 4 → (t.rgn r).holding.length = 24 ∧ (t.rgn r).slot = (!(s.mcSlots r).newer) ∧ (t.rgn r).fallback = true
            ∧ (∀ p ∈ (s.mcSlots r).older, (t.rgn r).version = p.2.version ∧ Tbl.get {} t.micro r = p.2))
        ∧ Only ([.glb, .rgns, .caches] ++ errorParts) s t)
    ∧ (s.nor.mcStage = none → (∀ r, r < 4 → (s.mcSlots r).newest = none ∧ (s.mcSlots r).older = none) →
      ∃ t, exec (.mcLoadDone sigs) s = .next t ∧ t.glb.mcLoaded = false ∧ (∀ r, r < 4 → (t.rgn r).loaderState = 4)
        ∧ t.glb.cause &&& causeMc = causeMc ∧ (s.glb.mode = .safe → s.inSafe = false → t.glb.mode = .safe ∧ t.glb.busy = false)
        ∧ Only safeParts s t))

/-! ### Histograms and the error ring (18 R392 to R403) -/

/-- A histogram value (R397): with origin O and width W, v enters bin 0 below O, bin b from O + (b − 1) W to below O + b W for b = 1 to
62, bin 63 from O + 62 W on; COUNT, SUM, MIN and MAX take it, a bin saturates at 0xFFFF_FFFF and SUM at −2^63 and 2^63 − 1, and any
saturation sets SAT and the cause SAT; nothing else changes. -/
def Obligations.HistogramValuesEnterTheirBins : Prop :=
  ∀ (s : State) (k : Nat) (v O W : Int) (rest : List Int), k < 24 → (s.hist k).feed = v :: rest → O = (s.hist k).origin →
    W = ((s.hist k).width : Int) → 0 < W →
    ∃ t, exec (.histSample k) s = .next t ∧ ∃ b : Nat, b < 64
      ∧ (b = 0 ↔ v < O)
      ∧ (∀ n, 1 ≤ n → n ≤ 62 → (b = n ↔ O + ((n : Int) - 1) * W ≤ v ∧ v < O + (n : Int) * W))
      ∧ (b = 63 ↔ O + 62 * W ≤ v)
      ∧ Tbl.get 0 (t.hist k).bins b = min 0xFFFFFFFF (Tbl.get 0 (s.hist k).bins b + 1)
      ∧ (∀ j, j ≠ b → Tbl.get 0 (t.hist k).bins j = Tbl.get 0 (s.hist k).bins j)
      ∧ (t.hist k).count = ((s.hist k).count + 1) % 2 ^ 64
      ∧ (t.hist k).sum = max (-(2 ^ 63)) (min (2 ^ 63 - 1) ((s.hist k).sum + v))
      ∧ (t.hist k).minV = min (s.hist k).minV v ∧ (t.hist k).maxV = max (s.hist k).maxV v
      ∧ (Tbl.get 0 (s.hist k).bins b = 0xFFFFFFFF ∨ (s.hist k).sum + v < -(2 ^ 63) ∨ 2 ^ 63 ≤ (s.hist k).sum + v →
          (t.hist k).sat = true ∧ (t.hdr Ty.hist k).irqStatus.testBit 0 = true)
      ∧ (Tbl.get 0 (s.hist k).bins b ≠ 0xFFFFFFFF → -(2 ^ 63) ≤ (s.hist k).sum + v → (s.hist k).sum + v < 2 ^ 63 →
          (t.hist k).sat = (s.hist k).sat ∧ Only [.hists] s t)
      ∧ (t.hist k).feed = rest ∧ (t.hist k).origin = O ∧ (t.hist k).width = (s.hist k).width ∧ (t.hist k).run = (s.hist k).run
      ∧ (∀ j, j ≠ k → t.hist j = s.hist j) ∧ Only (.hists :: causeParts) s t

/-- Histograms and the ring (R393 to R395, R398, R399, R402, R403): RUN starts and stops, a clear while running is refused, a stopped one empties the
statistics; the command-latency histogram takes the latency the command names, once, where it is one recorded of a completed command, and else nothing
(model's choice, log entry 1), the queue-depth histogram the occupancy each microsecond while it runs; an open entry closes after its millisecond; the
oldest closed entry moves to the owner function's log queue when it has room. -/
def Obligations.HistogramsAndErrorRingAdvance : Prop :=
  (∀ (s : State) (fn k : Nat), s.accepts fn Ty.hist k 0x040 = true →
    ((s.hdr Ty.hist k).en = true → exec (.histRunStart fn k) s = .next (s.modHist k (fun h => { h with run := true })))
    ∧ ((s.hdr Ty.hist k).en = false → (s.hist k).run = false →
        exec (.histRunStart fn k) s = .next (s.reject fn Code.blkBusy Ty.hist k))
    ∧ exec (.histRunStop fn k) s = .next (s.modHist k (fun h => { h with run := false }))
    ∧ ((s.hist k).run = true → exec (.histClear fn k) s = .next (s.reject fn Code.blkBusy Ty.hist k))
    ∧ ((s.hist k).run = false → exec (.histClear fn k) s = .next (s.modHist k (fun h => { h with
        bins := [], minV := 0x7FFFFFFFFFFFFFFF, maxV := -0x8000000000000000, count := 0, sum := 0 }))))
  ∧ (∀ (s : State) (ns : Nat), ns ∉ s.hlth.lat → exec (.cmdlatSample ns) s = .next s)
  ∧ (∀ (s : State) (ns : Nat), ns ∈ s.hlth.lat →
    (∃ t, exec (.cmdlatSample ns) s = .next t ∧ t.hlth.lat = s.hlth.lat.erase ns ∧ t.hlth.cmdlat.count = (s.hlth.cmdlat.count + 1) % 2 ^ 64
      ∧ t.hlth.cmdlat.minV = min s.hlth.cmdlat.minV ns ∧ t.hlth.cmdlat.maxV = max s.hlth.cmdlat.maxV ns
      ∧ t.hlth.cmdlat.sum = min (2 ^ 64 - 1) (s.hlth.cmdlat.sum + ns)
      ∧ (∀ b, b = min 63 (ns >>> s.hlth.cmdlat.shift) →
          Tbl.get 0 t.hlth.cmdlat.bins b = min (2 ^ 32 - 1) (Tbl.get 0 s.hlth.cmdlat.bins b + 1))
      ∧ t.hlth.qdepth = s.hlth.qdepth ∧ Only [.hlth] s t))
  ∧ (∀ (s : State), s.hlth.sampledAt * 256 + fsUs ≤ s.up →
    (s.hlth.qdepth.run = true → ∃ t, exec .qdepthSample s = .next t
      ∧ t.hlth.qdepth.count = (s.hlth.qdepth.count + 1) % 2 ^ 64
      ∧ t.hlth.qdepth.maxV = max s.hlth.qdepth.maxV (s.queue s.hlth.queue).used ∧ t.hlth.cmdlat = s.hlth.cmdlat
      ∧ t.hlth.sampledAt = s.uptime ∧ Only [.hlth] s t)
    ∧ (s.hlth.qdepth.run = false → exec .qdepthSample s = .next (s.modHlth (fun h => { h with sampledAt := s.uptime }))))
  ∧ (∀ (s : State) (fn : Nat), s.accepts fn Ty.hlth 0 0x060 = true → s.hlth.cmdlat.shift < 16 → s.hlth.qdepth.shift < 16 →
    s.hlth.queue < 2 ^ 20 →
    (s.hlth.cmdlat.run = false → exec (.cmdClear fn) s = .next (s.modHlth (fun h => { h with cmdlat := { shift := h.cmdlat.shift } })))
    ∧ (s.hlth.qdepth.run = false → exec (.qdClear fn) s = .next (s.modHlth (fun h => { h with qdepth := { shift := h.qdepth.shift } })))
    ∧ (s.hlth.cmdlat.run = true → exec (.cmdClear fn) s = .next (s.reject fn Code.blkBusy Ty.hlth 0))
    ∧ (s.hlth.qdepth.run = true → exec (.qdClear fn) s = .next (s.reject fn Code.blkBusy Ty.hlth 0)))
  ∧ (∀ (s : State), ∃ t, exec .errEntryClose s = .next t
      ∧ t.err.ring = s.err.ring.map (fun x => if x.open_ = true ∧ ttLe (x.firstTT + fsMs) s.now = true then { x with open_ := false } else x)
      ∧ t.err.nextSeq = s.err.nextSeq ∧ Only errorParts s t)
  ∧ (∀ (s : State), (s.errCanWrite = false → exec .errReserveWrite s = .next s)
    ∧ (s.errCanWrite = true → ∀ (x : ErrEntry) (rest : List ErrEntry), s.err.reserve = x :: rest → ∃ t, exec .errReserveWrite s = .next t ∧ t.err.reserve = rest
        ∧ t.err.nextSeq = (s.err.nextSeq + 1) % 65536 ∧ (∃ y, t.err.ring.getLast? = some y ∧ y.code = x.code ∧ y.seq = s.err.nextSeq)
        ∧ Only errorParts s t)
    ∧ (s.errCanWrite = true → s.err.reserve = [] → 0 < s.err.missed → ∃ t, exec .errReserveWrite s = .next t ∧ t.err.missed = 0
        ∧ (∃ y, t.err.ring.getLast? = some y ∧ y.code = Code.errLost ∧ y.count = s.err.missed ∧ y.site = 16)
        ∧ (t.hdr Ty.err 0).irqStatus.testBit 1 = true ∧ Only errorParts s t))
  ∧ (∀ (s : State) (x : ErrEntry) (rest : List ErrEntry), s.err.ring = x :: rest →
    (s.err.valid = true → x.open_ = false → 0 < (s.queue s.err.queue).room →
      ∃ t, exec .errMirror s = .next t ∧ t.err.ring = rest ∧ t.err.headSeq = (x.seq + 1) % 65536
        ∧ (t.queue s.err.queue).tail = ((s.queue s.err.queue).tail + 1) % (s.queue s.err.queue).slots
        ∧ (t.queue s.err.queue).head = (s.queue s.err.queue).head ∧ Only [.err, .queues, .mem, .bmem, .fns, .outs] s t)
    ∧ (x.open_ = true → exec .errMirror s = .next s))

/-! ### Management commands (15 R326 to R330; 01 R26; 07 R148; 08 R171; 11 R239) -/

/-- Commands (R26, R326 to R329, R171, R239): in its function's turn an entry that passes its checks leaves its queue and completes with status 0 in
the issuer's completion queue, its bytes moved as COPY_IN, COPY_OUT, QUEUE_OUT, CAL_READ say, its barrier or table set; an unknown code, a reserved
bit, the wrong issuer or a failing check completes with the check's code and changes nothing else; a PCIe error completes with DMA_HOST_ERR and the
bytes moved; without a completion queue it is counted as CMD_NO_CQ. That commands other than CMD_NOP and MC_INSTALL complete with ACCESS_DENIED in
SAFE, and those of sites in SERVICE, is log entry 32. -/
def Obligations.CommandsCompleteInTheirQueue : Prop :=
  (∀ (s : State) (q : Nat) (c : Cmd), s.takes q c →
    (c.code = 0x01 → c.formOk [] = true → ∃ t, exec (.cmdNop q) s = .next t ∧ s.completed t q c 0 [] ∧ Only cmdParts s t)
    ∧ (c.code = 0x01 → c.formOk [] = false →
        ∃ t, exec (.cmdNop q) s = .next t ∧ s.completed t q c Code.cmdFormat [] ∧ Only cmdParts s t)
    ∧ (cmdCodes.contains c.code = false →
        ∃ t, exec (.cmdUnknown q) s = .next t ∧ s.completed t q c Code.cmdUnknown [] ∧ Only cmdParts s t)
    ∧ (∀ err : Option Nat, c.code = 0x30 → c.formOk [0xFF07, m64] = true → c.fn ≠ 0 ∨ s.cmdMode c.fn = false →
        ∃ t, exec (.calRead q err) s = .next t ∧ s.completed t q c Code.accessDenied [] ∧ Only cmdParts s t)
    ∧ (s.cmdMode c.fn = true →
      (∀ ch, c.code = 0x30 → c.formOk [0xFF07, m64] = true → c.fn = 0 → ch = bits (c.arg 0) 8 8 → ch < 192 → bits (c.arg 0) 0 3 = ch / 48 →
        (∃ t, exec (.calRead q none) s = .next t ∧ s.completed t q c 0 []
          ∧ Out.dma 0 (c.arg 1) (calBlock (ch / 48) (s.chan ch).cal (s.madc (ch / 8)).cal (s.laneState ch)) ∈ t.outs
          ∧ (calBlock (ch / 48) (s.chan ch).cal (s.madc (ch / 8)).cal (s.laneState ch)).length = 128 ∧ Only cmdParts s t)
        ∧ (∀ k, ∃ t, exec (.calRead q (some k)) s = .next t ∧ s.completed t q c Code.dmaHostErr [] ∧ Only cmdParts s t))
      ∧ (∀ st b n, c.code = 0x20 → c.formOk [0xFFFFF00FF] = true → b = bits (c.arg 0) 0 8 → n = bits (c.arg 0) 16 16 →
        (c.fn = 0 → st = bits (c.arg 0) 32 4) → (c.fn ≠ 0 → c.fn ≤ 16 ∧ st = c.fn - 1) →
        (0 < n → s.siteIdle st = true → ∃ t, exec (.barrierSet q) s = .next t ∧ s.completed t q c 0 []
          ∧ t.barrier st b = { s.barrier st b with count := n } ∧ (∀ j, j ≠ b → t.barrier st j = s.barrier st j)
          ∧ (∀ j, j ≠ st → t.site j = s.site j) ∧ Only (.sites :: cmdParts) s t)
        ∧ (n = 0 → ∃ t, exec (.barrierSet q) s = .next t ∧ s.completed t q c Code.paramRange [] ∧ Only cmdParts s t)
        ∧ (0 < n → s.siteIdle st = false →
            ∃ t, exec (.barrierSet q) s = .next t ∧ s.completed t q c Code.blkBusy [] ∧ Only cmdParts s t))
      ∧ (∀ st r, c.code = 0x21 → c.formOk [3, 2 ^ 27 - 1] = true → 1 ≤ c.fn → c.fn ≤ 16 → st = c.fn - 1 → r = bits (c.arg 0) 0 2 →
        s.siteIdle st = true → c.arg 1 % 256 = 0 → addrOk (bankBase + c.arg 1 + 255) = true → s.granted st (bankBase + c.arg 1) 256 = true →
        s.inGrant (bankBase + c.arg 1) 256 = false → ∀ tb : List Byte, tb = s.bytes (bankBase + c.arg 1) 256 → scrambleForm tb = true →
        s.scrambleOwned r st tb = true →
        ∃ t, exec (.fcuScrambleLoad q) s = .next t ∧ s.completed t q c 0 [] ∧ (t.part r st).table = some tb
          ∧ (∀ r' st', (r', st') ≠ (r, st) → t.part r' st' = s.part r' st')
          ∧ (∀ i, i < 256 → ¬ s.cplSlot c (bankBase + (s.fcu r).scrBase + 256 * st + i) →
              t.byte (bankBase + (s.fcu r).scrBase + 256 * st + i) = tb.getD i 0)
          ∧ (∀ a, ¬ s.cplSlot c a → (a < bankBase + (s.fcu r).scrBase + 256 * st ∨ bankBase + (s.fcu r).scrBase + 256 * st + 256 ≤ a) →
              t.byte a = s.byte a) ∧ Only (.fcus :: cmdParts) s t)
      ∧ (∀ data : List Byte, c.code = 0x10 → c.formOk [m40, m64, m32] = true → s.memWaits (c.arg 0) = false →
        (s.rangeCode c.fn (c.arg 0) (c.arg 2) = 0 → s.sealedAt (c.arg 0) = false → s.bmem.active = false →
          ∃ t, exec (.copyIn q data) s = .next t
            ∧ s.completed t q c (if c.arg 2 ≤ data.length then 0 else Code.dmaHostErr) (le 4 (min (c.arg 2) data.length))
            ∧ (∀ i, i < data.length → i < c.arg 2 → ¬ s.cplSlot c (c.arg 0 + i) → t.byte (c.arg 0 + i) = data.getD i 0)
            ∧ (∀ a, ¬ s.cplSlot c a → (a < c.arg 0 ∨ c.arg 0 + min (c.arg 2) data.length ≤ a) → t.byte a = s.byte a)
            ∧ Only (.caches :: cmdParts) s t)
        ∧ (s.rangeCode c.fn (c.arg 0) (c.arg 2) ≠ 0 → ∃ t, exec (.copyIn q data) s = .next t
            ∧ s.completed t q c (s.rangeCode c.fn (c.arg 0) (c.arg 2)) []
            ∧ (∀ a, ¬ s.cplSlot c a → t.byte a = s.byte a) ∧ Only cmdParts s t))
      ∧ (c.code = 0x11 → c.formOk [m64, m40, m32] = true → s.memWaits (c.arg 1) = false → s.rangeCode c.fn (c.arg 1) (c.arg 2) = 0 →
        s.bmem.active = false →
        (∃ t, exec (.copyOut q none) s = .next t ∧ s.completed t q c 0 (le 4 (c.arg 2))
          ∧ Out.dma c.fn (c.arg 0) ((List.range (c.arg 2)).map (fun i => s.stored (c.arg 1 + i))) ∈ t.outs
          ∧ (∀ a, ¬ s.cplSlot c a → t.byte a = s.byte a) ∧ Only cmdParts s t)
        ∧ (∀ k, ∃ t, exec (.copyOut q (some k)) s = .next t ∧ s.completed t q c Code.dmaHostErr (le 4 (min k (c.arg 2)))
          ∧ (∀ a, ¬ s.cplSlot c a → t.byte a = s.byte a) ∧ Only cmdParts s t))
      ∧ (∀ n, c.code = 0x12 → c.formOk [2 ^ 20 - 1, m64, m32] = true → s.memWaits (s.queue (c.arg 0)).base = false →
        s.queueOutCode c.fn (c.arg 0) = 0 → n = (s.queue (c.arg 0)).outSlots (c.arg 2) →
        (∃ t, exec (.queueOut q none) s = .next t
          ∧ s.completed t q c 0 (le 4 (n * slotSize (s.queue (c.arg 0)).type) ++ le 3 (((s.queue (c.arg 0)).head + n) % (s.queue (c.arg 0)).slots))
          ∧ (t.queue (c.arg 0)).head = ((s.queue (c.arg 0)).head + n) % (s.queue (c.arg 0)).slots
          ∧ (0 < n → Out.dma c.fn (c.arg 1) (s.slotBytes (s.queue (c.arg 0)) n) ∈ t.outs) ∧ Only cmdParts s t)
        ∧ (∀ k, ∃ t, exec (.queueOut q (some k)) s = .next t
          ∧ s.completed t q c Code.dmaHostErr (le 4 (min k (n * slotSize (s.queue (c.arg 0)).type)) ++ le 3 (s.queue (c.arg 0)).head)
          ∧ (t.queue (c.arg 0)).head = (s.queue (c.arg 0)).head ∧ Only cmdParts s t))))
  ∧ (∀ (s : State) (q : Nat) (c : Cmd), q < 2 ^ 20 → s.headCmd q = some c → s.cmdTurn c.fn = true → c.code = 0x01 → s.cqOk c = false →
    ∃ t, exec (.cmdNop q) s = .next t ∧ (t.queue q).head = ((s.queue q).head + 1) % (s.queue q).slots
      ∧ t.err.lastCode = Code.cmdNoCq ∧ t.err.lastTy = Ty.qmgr ∧ Only (.qmgr :: errorParts) s t)

/-- Grants, installs and lost words (R312, R314, R327, R330; 07 R148): MEM_GRANT holds its command until MEM_GRANT_DONE has zeroed the
units, moved their holder and posted the completion; MC_INSTALL in SERVICE stages a passing image; MC_INSTALL_DONE commits it
to the slot each named region does not run and starts the loaders of those with no reload, and with every store loaded posts the completion; an uncorrectable word is counted against its stack and ends
the segment that fetched it, takes the head descriptor, ends the reading command, or loses the bitmap update, by its reader. The SEG_ID a completion reports for a
descriptor whose first word is lost is a free value. -/
def Obligations.GrantsAndInstallsComplete : Prop :=
  (∀ (s : State) (q : Nat) (c : Cmd) (g : Grant), s.takes q c → c.code = 0x50 → c.formOk [0x11F, m32] = true → c.fn = 0 → s.cmdMode 0 = true →
    g = { cq := c.cq, tag := c.tag, seen := c.seen, holder := bits (c.arg 0) 0 5, bank := (c.arg 0).testBit 8, first := bits (c.arg 1) 0 16,
          count := bits (c.arg 1) 16 16 } →
    (g.holder ≤ 16 → 0 < g.count → g.first + g.count ≤ (if g.bank then 112 else 288) → s.siteIdle g.holder = true →
      (∀ u, u < g.first + g.count → g.first ≤ u → s.siteIdle (s.unitHolder g.bank u) = true) → s.unitsUsed g.range.1 g.range.2 = false →
      ∃ t, exec (.memGrant q) s = .next t ∧ t.qmgr.grant = some g ∧ (t.queue q).head = ((s.queue q).head + 1) % (s.queue q).slots
        ∧ (t.queue c.cq).tail = (s.queue c.cq).tail ∧ Only cmdParts s t)
    ∧ (16 < g.holder ∨ g.count = 0 ∨ (if g.bank then 112 else 288) < g.first + g.count →
      ∃ t, exec (.memGrant q) s = .next t ∧ s.completed t q c Code.paramRange [] ∧ Only cmdParts s t))
  ∧ (∀ (s : State) (g : Grant), s.qmgr.grant = some g → g.holder ≤ 16 → 0 < (s.queue g.cq).room →
    (s.fn 0).held.all (fun h => h.1 != g.cq) = true → (s.queue g.cq).type = 3 →
    ∃ t, exec .memGrantDone s = .next t ∧ t.qmgr.grant = none
      ∧ (∀ u, u < g.first + g.count → g.first ≤ u → t.unitHolder g.bank u = g.holder)
      ∧ (∀ u, (u < g.first ∨ g.first + g.count ≤ u) → t.unitHolder g.bank u = s.unitHolder g.bank u)
      ∧ (∀ a, g.range.1 ≤ a → a < g.range.1 + g.range.2 → (a < (s.queue g.cq).base + 32 * (s.queue g.cq).tail
          ∨ (s.queue g.cq).base + 32 * (s.queue g.cq).tail + 32 ≤ a) → t.byte a = 0)
      ∧ (t.queue g.cq).tail = ((s.queue g.cq).tail + 1) % (s.queue g.cq).slots
      ∧ Only ([.holders, .caches] ++ cmdParts) s t)
  ∧ (∀ (s : State) (q : Nat) (c : Cmd), s.takes q c → c.code = 0x40 → c.formOk [2 ^ 27 - 1, m32, 0xF] = true → c.fn = 0 →
    (s.inMode [.service] = false → ∀ key : List Byte, ∃ t, exec (.mcInstall q key) s = .next t ∧ s.completed t q c Code.svcMode [] ∧ Only cmdParts s t)
    ∧ (s.inMode [.service] = true → s.rangeCode 0 (bankBase + c.arg 0) (c.arg 1) = 0 →
      (imageCheck (s.bytes (bankBase + c.arg 0) (c.arg 1)) true s.sec.mcFloor = 0 →
        ∃ t, exec (.mcInstall q s.mcKey) s = .next t
          ∧ t.nor.mcStage = some (c.arg 2, parseImage (s.bytes (bankBase + c.arg 0) (c.arg 1)), c.cq, c.tag, c.seen)
          ∧ (∀ r, r < 4 → (c.arg 2).testBit r = true → (t.rgn r).loaderState = if (s.rgn r).reloads = [] then 2 else 3)
          ∧ (t.queue c.cq).tail = (s.queue c.cq).tail ∧ Only ([.rgns, .nor] ++ cmdParts) s t)
      ∧ (imageFormOk (s.bytes (bankBase + c.arg 0) (c.arg 1)) = true → c.arg 2 ≠ 0 → ∀ key : List Byte, key ≠ s.mcKey →
        ∃ t, exec (.mcInstall q key) s = .next t ∧ s.completed t q c Code.mcImageSig []
          ∧ (∀ r, r < 4 → (c.arg 2).testBit r = true → (t.rgn r).lastErr = Code.mcImageSig)
          ∧ Only (.rgns :: cmdParts) s t)))
  ∧ (∀ (s : State) (m cq tag seen : Nat) (i : McImage), s.nor.mcStage = some (m, i, cq, tag, seen) →
    ((bitList m 4).isEmpty = false → (∀ r, r < 4 → m.testBit r = true → (s.rgn r).instN = none) →
      ∃ t, exec .mcInstallDone s = .next t ∧ t.nor.mcStage = s.nor.mcStage
        ∧ (∀ r, r < 4 → (m.testBit r = true → t.mcSlots r = (s.mcSlots r).put (!(s.rgn r).slot) i ∧ (t.rgn r).loaderState = 3
              ∧ (t.rgn r).instN = some 0 ∧ (t.rgn r).slot = (s.rgn r).slot
              ∧ ((s.rgn r).reloads = [] → Tbl.get {} t.micro r = i ∧ (t.rgn r).holding = [] ∧ (t.rgn r).instOn = true)
              ∧ ((s.rgn r).reloads ≠ [] → Tbl.get {} t.micro r = Tbl.get {} s.micro r ∧ (t.rgn r).holding = (s.rgn r).holding))
            ∧ (m.testBit r = false → Tbl.get {} t.micro r = Tbl.get {} s.micro r ∧ t.rgn r = s.rgn r ∧ t.mcSlots r = s.mcSlots r))
        ∧ Only [.rgns, .nor, .caches] s t)
    ∧ ((∀ r, r < 4 → m.testBit r = true → (s.rgn r).instN = some 24) → 0 < (s.queue cq).room → (s.fn 0).held.all (fun h => h.1 != cq) = true →
      ∃ t, exec .mcInstallDone s = .next t ∧ t.nor.mcStage = none
        ∧ (∀ r, r < 4 → (m.testBit r = true → (t.rgn r).version = i.version ∧ (t.rgn r).slot = (!(s.rgn r).slot) ∧ (t.rgn r).fallback = false
              ∧ (t.rgn r).loaderState = (s.rgn r).loaderRest ∧ (t.rgn r).instN = none ∧ (t.rgn r).holding = (s.rgn r).holding)
            ∧ (m.testBit r = false → t.rgn r = s.rgn r))
        ∧ (t.queue cq).tail = ((s.queue cq).tail + 1) % (s.queue cq).slots ∧ Only ([.rgns, .nor] ++ cmdParts) s t))
  ∧ (∀ (s : State) (a n : Nat), a < hbmTop → n = a / 4096 % 3 → s.stage = .on → s.glb.hbmClear = true → s.permanent (unitKey kStack n) false = false →
    (∀ (e : Nat) (g : Seg), e < nEng → (s.te e).cur = some g → g.ip ≤ a → a < g.ip + 32 * g.len →
      ∃ t, exec (.hbmUncorrRead a 0 e 0) s = .next t ∧ (t.te e).cur = none
        ∧ (t.hbm n).eccUncorr = min (2 ^ 32 - 1) ((s.hbm n).eccUncorr + 1) ∧ (t.hdr Ty.hbm n).lastCode = Code.hbmUncorr
        ∧ (t.hdr Ty.hbm n).irqStatus.testBit 0 = true ∧ (t.site g.site).st = (s.site g.site).st
        ∧ Only ([.hbms, .faults, .tes, .caches, .chans] ++ errorParts) s t)
    ∧ (∀ q, q < 2 ^ 20 → s.placeable.contains q = true → (s.queue q).base + 64 * (s.queue q).head ≤ a →
        a < (s.queue q).base + 64 * (s.queue q).head + 64 →
      ∃ t, exec (.hbmUncorrRead a 1 q 0) s = .next t ∧ (t.queue q).head = ((s.queue q).head + 1) % (s.queue q).slots
        ∧ (t.hbm n).eccUncorr = min (2 ^ 32 - 1) ((s.hbm n).eccUncorr + 1) ∧ (∀ e, (t.te e).deque = (s.te e).deque)
        ∧ Only ([.hbms, .faults, .free] ++ errorParts) s t)
    ∧ (∀ (q : Nat) (c : Cmd) (host : Nat) (l : List Byte), s.takes q c → c.code = 0x11 → s.movedBefore c a = some (host, l) →
      ∃ t, exec (.hbmUncorrRead a 2 q 0) s = .next t ∧ (t.queue q).head = ((s.queue q).head + 1) % (s.queue q).slots
        ∧ (t.hbm n).eccUncorr = min (2 ^ 32 - 1) ((s.hbm n).eccUncorr + 1) ∧ (l ≠ [] → Out.dma c.fn host l ∈ t.outs)
        ∧ Only ([.hbms, .faults, .err, .hdrs, .sites] ++ cmdParts) s t)
    ∧ (∀ (r st : Nat) (tb : List Byte), r < 4 → st < 16 → (s.part r st).table = some tb → fromLe ((tb.drop 8).take 8) ≤ a →
        a < fromLe ((tb.drop 8).take 8) + 2 ^ ((tb.getD 1 0).toNat - 3) →
      ∃ t, exec (.hbmUncorrRead a 3 r st) s = .next t ∧ (t.part r st).lost = min (2 ^ 32 - 1) ((s.part r st).lost + 1)
        ∧ (t.hbm n).eccUncorr = min (2 ^ 32 - 1) ((s.hbm n).eccUncorr + 1) ∧ (t.hdr Ty.fcu r).irqStatus.testBit 1 = true
        ∧ (∀ u, (s.part r st).ups.find? (fun u => u.1 / 32 == a / 32) = some u → (t.part r st).ups = (s.part r st).ups.erase u)
        ∧ Only ([.hbms, .faults, .fcus] ++ errorParts) s t))

/-! ### DOE operations (17 R358 to R375) -/

/-- Mailbox operations (R366 to R375): each answers with its status and data, an error in SEC_STATUS beside it; STATUS reports; an unknown OP or a bad
length is refused; FLOOR_COMMIT raises floors in SERVICE; FW_INSTALL and FW_RECOVER check an image and stage it; LOAD waits while HBM is not cleared
or its site's memory is wiped, answers the code of its first failing step, else opens the chunks in order and puts the plaintext of a good image at
DEST with its policy, or zeroes what it wrote; UNLOAD with no frame open drops the container and draws a new key; BIND writes its setup records and
the bound descriptors and spends one burst, or names the record that fails. Whether a firmware image's certificate and signature verify is an operand
(log entry 7); the algorithms are log entry 58; that LOAD, BIND and UNLOAD are refused where management commands are is log entry 32. -/
def Obligations.MailboxOperationsAnswer : Prop :=
  (∀ (s : State) (fn : Nat) (raw : List Byte), fn < 18 → s.doeUp fn (Doe.mk fn raw {}).op = true → s.doeBusy fn = false → doeOps.contains (Doe.mk fn raw {}).op = false →
    exec (.doeUnknown fn raw) s = .next ((s.secErr Code.cmdUnknown).emit (doeMsg fn raw Code.cmdUnknown [])))
  ∧ (∀ (s : State) (fn : Nat) (raw : List Byte), s.doeTakes fn raw 0x04 0 → ∀ x : SecSite, x = s.secSite (Doe.mk fn raw {}).site →
    exec (.doeStatus fn raw) s = .next (s.emit (doeMsg fn raw 0
      (le 4 x.loadId ++ le 4 x.allow ++ le 8 x.expiry ++ le 8 s.hwNow ++ le 4 s.sec.fwFloor ++ le 4 s.sec.mcFloor))))
  ∧ (∀ (s : State) (fn : Nat) (raw : List Byte), fn < 18 → s.doeUp fn 0x04 = true → s.doeBusy fn = false → (Doe.mk fn raw {}).op = 0x04 → raw.length ≠ 16 →
    exec (.doeStatus fn raw) s = .next ((s.secErr Code.cmdFormat).emit (doeMsg fn raw Code.cmdFormat [])))
  ∧ (∀ (s : State) (raw : List Byte) (w : Nat), s.doeTakes 0 raw 0x12 4 → w = (Doe.mk 0 raw {}).num 16 4 →
    (s.inMode [.service] = true → w ≤ 3 → ∃ t, exec (.floorCommit 0 raw) s = .next t
      ∧ t.sec.fwFloor = (if w.testBit 0 then max s.sec.fwFloor s.sec.fwVersion else s.sec.fwFloor)
      ∧ t.sec.mcFloor = (if w.testBit 1 then max s.sec.mcFloor s.mcLowest else s.sec.mcFloor)
      ∧ (t.nor.writing = some 7 ∨ 7 ∈ t.nor.todo) ∧ t.outs = doeMsg 0 raw 0 (le 4 t.sec.fwFloor ++ le 4 t.sec.mcFloor) :: s.outs
      ∧ Only [.sec, .nor, .outs] s t)
    ∧ (s.inMode [.service] = false →
      exec (.floorCommit 0 raw) s = .next ((s.secErr Code.svcMode).emit (doeMsg 0 raw Code.svcMode []))))
  ∧ (∀ (s : State) (raw : List Byte) (a n : Nat), s.doeTakes 0 raw 0x10 8 → s.inMode [.service] = true → a = bankBase + (Doe.mk 0 raw {}).num 16 4 →
    n = (Doe.mk 0 raw {}).num 20 4 → 0 < n → a + n ≤ bankTop → s.granted 16 a n = true →
    ∀ v : FwVerdict, (s.fwCheck (s.bytes a n) v = 0 → ∃ t, exec (.fwInstall 0 raw v) s = .next t
      ∧ t.nor.fwStage = some ({ version := fld (s.bytes a n) 8 4, bytes := s.bytes a n }, false, 0, (Doe.mk 0 raw {}).tag)
      ∧ (t.nor.writing = some 8 ∨ 8 ∈ t.nor.todo) ∧ Only [.nor, .bmem] s t)
    ∧ (s.fwCheck (s.bytes a n) v ≠ 0 → exec (.fwInstall 0 raw v) s
        = .next (((s.bankHits a n false).secErr (s.fwCheck (s.bytes a n) v)).emit (doeMsg 0 raw (s.fwCheck (s.bytes a n) v) []))))
  ∧ (∀ (s : State) (raw : List Byte), s.doeUp 0 0x11 = true → s.doeBusy 0 = false → s.glb.fwOk = false → (Doe.mk 0 raw {}).op = 0x11 → (Doe.mk 0 raw {}).num 2 2 = 0 →
    (Doe.mk 0 raw {}).num 9 7 = 0 → (Doe.mk 0 raw {}).site < 16 → 24 ≤ raw.length → raw.length ≤ 24 + 65536 → (Doe.mk 0 raw {}).num 20 4 = 0 →
    ((Doe.mk 0 raw {}).num 16 4 = s.sec.recover.length → ∀ v : FwVerdict, ∃ t, exec (.fwRecover 0 raw v) s = .next t
      ∧ t.sec.recover = s.sec.recover ++ raw.drop 24 ∧ t.outs = doeMsg 0 raw 0 [] :: s.outs ∧ Only [.sec, .outs] s t)
    ∧ ((Doe.mk 0 raw {}).num 16 4 ≠ s.sec.recover.length → ∀ v : FwVerdict, ∃ t, exec (.fwRecover 0 raw v) s = .next t ∧ t.sec.recover = []
      ∧ t.sec.lastErr = Code.cmdFormat ∧ t.outs = doeMsg 0 raw Code.cmdFormat [] :: s.outs ∧ Only [.sec, .outs] s t))
  ∧ (∀ (s : State) (raw b : List Byte) (v : FwVerdict), s.doeUp 0 0x11 = true → s.doeBusy 0 = false → s.glb.fwOk = false → (Doe.mk 0 raw {}).op = 0x11 → (Doe.mk 0 raw {}).num 2 2 = 0 →
    (Doe.mk 0 raw {}).num 9 7 = 0 → (Doe.mk 0 raw {}).site < 16 → 24 ≤ raw.length → raw.length ≤ 24 + 65536 → (Doe.mk 0 raw {}).num 20 4 = 1 →
    (Doe.mk 0 raw {}).num 16 4 = s.sec.recover.length → b = s.sec.recover ++ raw.drop 24 →
    (s.fwCheck b v = 0 → ∃ t, exec (.fwRecover 0 raw v) s = .next t ∧ t.sec.recover = []
      ∧ t.nor.fwStage = some ({ version := fld b 8 4, bytes := b }, true, 0, (Doe.mk 0 raw {}).tag)
      ∧ (t.nor.writing = some 8 ∨ 8 ∈ t.nor.todo) ∧ Only [.sec, .nor] s t)
    ∧ (s.fwCheck b v ≠ 0 → ∃ t, exec (.fwRecover 0 raw v) s = .next t ∧ t.sec.recover = []
      ∧ t.sec.lastErr = s.fwCheck b v ∧ t.outs = doeMsg 0 raw (s.fwCheck b v) [] :: s.outs ∧ Only [.sec, .outs] s t))
  ∧ (∀ (s : State) (fn st src dest len code : Nat) (raw h : List Byte) (p : List Byte × Bool) (head srcB lenB destB : List Byte),
    raw = head ++ srcB ++ lenB ++ destB → s.doeTakes fn raw 0x01 24 → fn ≠ 17 → s.cmdMode fn = true →
    st = (Doe.mk fn raw {}).site → src = (Doe.mk fn raw {}).num 16 8 → dest = (Doe.mk fn raw {}).num 32 8 →
    h = s.header src ((Doe.mk fn raw {}).num 24 8) → len = fld h 0xB0 8 → code = s.loadCheck st src ((Doe.mk fn raw {}).num 24 8) dest →
    p = openChunks (s.chunk src h (s.keyOf h)) (fld h 0xAC 4) 0 →
    (s.loadFree st = 0 → (s.glb.hbmClear = false ∨ s.sec.wiping.contains st = true) → exec (.load fn head srcB lenB destB) s
      = .next (s.modSec (fun x => { x with loadWait := x.loadWait ++ [Doe.mk fn raw {}] })))
    ∧ (s.glb.hbmClear = true → s.sec.wiping.contains st = false → ∃ t, exec (.load fn head srcB lenB destB) s = .next t
      ∧ (code ≠ 0 → t.sec = { s.sec with lastErr := code } ∧ t.outs = doeMsg fn raw code [] :: s.outs ∧ Only [.sec, .outs, .bmem] s t)
      ∧ (code = 0 → p.2 = false → (∀ a, dest ≤ a → a < dest + p.1.length → t.byte a = 0)
          ∧ (∀ a, (a < dest ∨ dest + p.1.length ≤ a) → t.byte a = s.byte a)
          ∧ t.outs = doeMsg fn raw Code.qfyAuth [] :: s.outs ∧ t.sec = { s.sec with lastErr := Code.qfyAuth } ∧ Only [.sec, .mem, .outs, .bmem] s t)
      ∧ (code = 0 → p.2 = true → segImageOk p.1 = false → (∀ a, dest ≤ a → a < dest + len → t.byte a = 0)
          ∧ (∀ a, (a < dest ∨ dest + len ≤ a) → t.byte a = s.byte a)
          ∧ t.outs = doeMsg fn raw Code.qfyFormat [] :: s.outs ∧ t.sec = { s.sec with lastErr := Code.qfyFormat } ∧ Only [.sec, .mem, .outs, .bmem] s t)
      ∧ (code = 0 → p.2 = true → segImageOk p.1 = true → (t.secSite st).loaded = true ∧ (t.secSite st).loadId = s.sec.loads + 1
          ∧ t.sec.loads = s.sec.loads + 1 ∧ (t.secSite st).allow = fld h 0x9C 4 ∧ (t.secSite st).expiry = fld h 0xA0 8
          ∧ (t.secSite st).key = s.keyOf h ∧ (t.secSite st).siteMask = fld h 0x98 2 ∧ (t.secSite st).minFw = fld h 0xA8 4 ∧ (t.secSite st).regs = [] ∧ (t.secSite st).boundQ = none
          ∧ (∀ i, i < p.1.length → t.byte (dest + i) = p.1.getD i 0)
          ∧ (∀ a, (a < dest ∨ dest + p.1.length ≤ a) → t.byte a = s.byte a) ∧ (∀ j, j ≠ st → t.secSite j = s.secSite j)
          ∧ t.outs.tail = s.outs ∧ Only [.sec, .mem, .outs, .free, .bmem] s t)))
  ∧ (∀ (s : State) (fn st : Nat) (raw : List Byte), s.doeTakes fn raw 0x03 0 → fn ≠ 17 → s.cmdMode fn = true → st = (Doe.mk fn raw {}).site →
    (s.siteIdle st = true → (s.secSite st).unload = none → s.framesOpen st = false →
      ∃ t, exec (.unload fn raw) s = .next t ∧ t.secSite st = {} ∧ (∀ j, j ≠ st → t.secSite j = s.secSite j) ∧ st ∈ t.sec.wiping
        ∧ t.outs = doeMsg fn raw 0 [] :: s.outs ∧ (∀ r, r < 4 → (t.part r st).ring = [])
        ∧ (∀ g, g < 288 → Tbl.get 16 s.hbmHolder g = st → ∀ a, g * 2 ^ 28 ≤ a → a < (g + 1) * 2 ^ 28 → t.byte a = 0)
        ∧ Only [.sec, .chans, .fcus, .acqs, .madcs, .mem, .outs, .free, .caches] s t)
    ∧ (s.siteIdle st = false → exec (.unload fn raw) s = .next ((s.secErr Code.blkBusy).emit (doeMsg fn raw Code.blkBusy []))))
  ∧ (∀ (s : State) (fn st q n : Nat) (raw img : List Byte) (x : SecSite) (m : List Nat), s.doeTakes fn raw 0x02 204 → fn ≠ 17 → s.cmdMode fn = true →
    st = (Doe.mk fn raw {}).site → x = s.secSite st → img = s.bytes x.dest x.len → q = (Doe.mk fn raw {}).num 24 4 → n = fld img 0x0C 4 →
    m = (List.range 192).map (fun k => (Doe.mk fn raw {}).num (28 + k) 1) →
    (s.bindCheck st q m img ≠ 0 →
      exec (.bind fn raw) s = .next ((s.secErr (s.bindCheck st q m img)).emit (doeMsg fn raw (s.bindCheck st q m img) [])))
    ∧ (s.bindCheck st q m img = 0 → ∀ r : State × Option Nat, r = s.setupAll st m (fld img 8 4) 0 ((List.range (fld img 0x20 4)).map (setupRec img)) →
      (r.2 = none → ∃ t, exec (.bind fn raw) s = .next t ∧ (t.secSite st).allow = (r.1.secSite st).allow - 1 ∧ (t.secSite st).boundQ = some q
        ∧ (t.secSite st).regs = (r.1.secSite st).regs ∧ (∀ ch, t.chan ch = r.1.chan ch)
        ∧ (t.queue q).tail = ((s.queue q).tail + n) % (s.queue q).slots ∧ (t.queue q).head = (s.queue q).head
        ∧ (∀ i, i < n → (s.queue q).tail < (s.queue q).slots → t.bytes ((s.queue q).base + 64 * (((s.queue q).tail + i) % (s.queue q).slots)) 64
            = bindDesc (imageDesc img i) st ((Doe.mk fn raw {}).num 16 8) (x.dest + fld img 0x14 4) m)
        ∧ doeMsg fn raw 0 (le 4 n) ∈ t.outs ∧ (∀ j, j ≠ st → t.secSite j = s.secSite j)
        ∧ (fld img 0x20 4 = 0 → Only [.sec, .queues, .mem, .bmem, .fns, .outs] s t))
      ∧ (∀ i, r.2 = some i → ∃ t, exec (.bind fn raw) s = .next t ∧ t.outs.head? = some (doeMsg fn raw Code.qfyBind (le 4 i))
        ∧ t.sec.lastErr = Code.qfyBind ∧ (∀ ch, t.chan ch = r.1.chan ch) ∧ (t.secSite st).allow = (r.1.secSite st).allow
        ∧ t.queues = r.1.queues)))

/-! ### Host time, sealing, lifecycle, tamper, NOR records, IDE (17 R357 to R382; 14 R299) -/

/-- The security engine (R357 to R382; 14 R299): host time commits with the high-water kept; the sealed set changes for idle, empty sites and draws
their keys anew; a lifecycle transition that passes its checks ends every session and container and is done once its record is committed, to END with
the identity key erased and SAFE entered; tamper wipes secrets and enters SAFE; a NOR record is programmed into its target slot (an image into the
slot not running, a recovered one into slot A, after which the power-up sequence goes on) and the next starts; an integrity failure makes a Secure
stream Insecure; a sealed frame closes when its queue has room. A finished re-key lets a LOAD that waited run; its internal check failure is FATAL,
and that the failure comes with REKEY_DONE is the model's choice (log entry 55). -/
def Obligations.SecurityEngineActs : Prop :=
  (∀ (s : State) (fn hi lo : Nat), s.accepts fn Ty.glb 0 0x054 = true →
    lo = (Tbl.get none (s.fn fn).stage (pairKey Ty.glb 0 0x050)).getD (s.hostTime % 2 ^ 32) →
    ∃ t, exec (.glbHostTimeCommit fn hi) s = .next t ∧ t.glb.hostMs = lo + (hi % 2 ^ 32) * 2 ^ 32 ∧ t.glb.hostAt = s.uptime
      ∧ s.hwNow ≤ t.sec.hw ∧ t.hostTime = lo + (hi % 2 ^ 32) * 2 ^ 32 ∧ t.sec.bound = s.sec.bound
      ∧ Tbl.get none (t.fn fn).stage (pairKey Ty.glb 0 0x050) = none ∧ Only [.glb, .sec, .fns] s t)
  ∧ (∀ (s : State), (s.stage = .on → s.hostMax ≠ 0 → s.sec.bound ≤ s.hostMax →
      ∃ t, exec .hwBoundWrite s = .next t ∧ (t.nor.writing = some 7 ∨ 7 ∈ t.nor.todo) ∧ Only [.nor] s t)
    ∧ (s.hostMax < s.sec.bound → exec .hwBoundWrite s = .next s))
  ∧ (∀ (s : State) (fn v : Nat), s.accepts fn Ty.sec 0 0x058 = true → v < 65536 →
    (s.otp.lcState = 2 →
      (∀ i, i < 16 → v.testBit i ≠ s.sec.sealedSites.testBit i →
        s.siteIdle i = true ∧ (s.secSite i).loaded = false ∧ (s.secSite i).unload = none ∧ s.loadPending i = false ∧ s.siteQueuesOn i = false) →
      ∃ t, exec (.secSealedSitesWrite fn v) s = .next t ∧ t.sec.sealedSites = v
        ∧ (∀ i, i < 16 → (v.testBit i ≠ s.sec.sealedSites.testBit i → t.secSite i = {} ∧ i ∈ t.sec.wiping)
            ∧ (v.testBit i = s.sec.sealedSites.testBit i → t.secSite i = s.secSite i))
        ∧ Only [.sec, .chans, .mem, .free] s t)
    ∧ (s.otp.lcState ≠ 2 → v ≠ s.sec.sealedSites % 65536 →
      ∃ t, exec (.secSealedSitesWrite fn v) s = .next t ∧ t.sec.sealedSites = s.sec.sealedSites ∧ t.sec.lastErr = Code.secState
        ∧ t.err.lastCode = Code.secState ∧ Only (.sec :: errorParts) s t))
  ∧ (∀ (s : State) (h : Nat), h < 17 →
    (s.sec.loadWait = [] → s.sec.doeWait = [] →
      ∃ t, exec (.rekeyDone (some h)) s = .next t ∧ (∀ x, x ∈ t.sec.wiping ↔ x ∈ s.sec.wiping ∧ x ≠ h) ∧ Only [.sec] s t)
    ∧ (∀ d : Doe, s.sec.loadWait = [d] → s.sec.doeWait = [] → d.site = h → s.glb.hbmClear = true →
      ∃ t, exec (.rekeyDone (some h)) s = .next t ∧ t.sec.loadWait = []
        ∧ (s.fnUp d.fn = true → (s.fn d.fn).inReset = false → ∃ l, t.outs = .message d.fn l :: s.outs) ∧ Only [.sec, .mem, .outs, .free, .bmem] s t))
  ∧ (∀ (s : State), s.stage = .on →
    ∃ t, exec (.rekeyDone none) s = .next t ∧ t.glb.cause &&& causeFatal = causeFatal ∧ (s.glb.mode = .ready → s.glb.busy = false → t.glb.target = .safe) ∧ Only safeParts s t)
  ∧ (∀ (s : State) (fn to_ k rest a : Nat), s.accepts fn Ty.sec 0 0x048 = true → to_ < 8 → a = bankBase + k % 2 ^ 19 * 256 →
    (s.inMode [.service] = true → s.allIdle = true → s.sec.lcBusy = none → 1 ≤ to_ → to_ ≤ 4 →
      s.granted 16 a 256 = true → s.lcAllowed to_ = true →
      (s.tokenOk to_ (s.bytes a 256) = true →
        ∃ t, exec (.lifecycleTransition fn to_ k rest) s = .next t ∧ (t.sec.lcBusy.map (·.1)) = some to_ ∧ t.sec.sealedSites = 0
          ∧ t.sec.sessions = [] ∧ (∀ i, i < 16 → t.secSite i = {}) ∧ (t.nor.writing = some 7 ∨ 7 ∈ t.nor.todo) ∧ t.otp = s.otp
          ∧ (t.sec.lcBusy.map (·.2)) = some (if s.otp.lcState = 1 ∧ fld (s.bytes a 256) 0x0C 1 = 1 then sha384 (tokenKey (s.bytes a 256)) else s.otp.platform)
          ∧ Only [.sec, .chans, .mem, .bmem, .queues, .fns, .outs, .fcus, .acqs, .madcs, .free, .nor] s t)
      ∧ (s.tokenOk to_ (s.bytes a 256) = false → exec (.lifecycleTransition fn to_ k rest) s = .next (((s.bankHits a 256 false).reject fn Code.lcToken Ty.sec 0).secErr Code.lcToken)))
    ∧ (s.inMode [.service] = false →
        exec (.lifecycleTransition fn to_ k rest) s = .next ((s.reject fn Code.svcMode Ty.sec 0).secErr Code.svcMode)))
  ∧ (∀ (s : State) (to_ : Nat) (hash : List Byte), s.sec.lcBusy = some (to_, hash) → s.nor.writing ≠ some 7 → 7 ∉ s.nor.todo → to_ ≠ 4 →
    ∃ t, exec .lcDone s = .next t ∧ t.otp = { s.otp with lcState := to_, lcCounter := s.otp.lcCounter + 1, platform := hash }
      ∧ t.sec.lcBusy = none ∧ (t.hdr Ty.sec 0).irqStatus.testBit 1 = true ∧ Only ([.otp, .sec] ++ causeParts) s t)
  ∧ (∀ (s : State) (hash : List Byte), s.sec.lcBusy = some (4, hash) → s.nor.writing ≠ some 7 → 7 ∉ s.nor.todo →
    ∃ t, exec .lcDone s = .next t
      ∧ t.otp = { s.otp with lcState := 4, lcCounter := s.otp.lcCounter + 1, platform := hash, identity := none }
      ∧ t.sec.lcBusy = none ∧ t.sec.identityOk = false ∧ (s.glb.mode = .service → s.glb.busy = false → s.stage = .on → t.glb.target = .safe)
      ∧ Only ([.otp, .sec] ++ safeParts) s t)
  ∧ (∀ (s : State), s.sec.lcBusy = none → exec .lcDone s = .next s)
  ∧ (∀ (s : State) (src : Nat), src < 5 →
    (s.stage = .on → s.sec.tActive.testBit src = false → (src = 1 → s.sec.extEn = true) →
      ∃ t, exec (.tamper src) s = .next t ∧ t.sec.tActive.testBit src = true ∧ t.sec.tSeen.testBit src = true ∧ t.sec.identityOk = false
        ∧ t.sec.sessions = [] ∧ t.sec.lcBusy = none ∧ (∀ i, i < 16 → t.secSite i = {}) ∧ t.glb.cause &&& causeTamper = causeTamper
        ∧ (t.hdr Ty.sec 0).irqStatus.testBit 0 = true ∧ (t.hdr Ty.sec 0).lastCode = Code.tamper
        ∧ (s.glb.mode = .run → s.glb.busy = false → ∀ i, i < 16 → (t.site i).st ≠ .running))
    ∧ (exec (.tamperConditionEnd src) s = .next (s.modSec (fun x => { x with tActive := clearMask x.tActive (2 ^ src) }))))
  ∧ (∀ (s : State) (r : Nat), s.nor.writing = some r → r ∉ s.nor.todo → s.sec.loadWait = [] → s.sec.doeWait = [] →
    (r < 5 → ∃ t, exec .norRecordWriteDone s = .next t ∧ Tbl.get {} t.nor.cal r = (Tbl.get {} s.nor.cal r).program magicCal r (calEnc r) s.pwr.norHold (s.calRec r)
      ∧ Tbl.get none t.nor.last r = some s.up ∧ (s.pwr.norHold = false → t.nor.writing = s.nor.todo.head? ∧ t.nor.todo = s.nor.todo.drop 1)
      ∧ Only [.nor] s t)
    ∧ (r = 6 → ∃ t, exec .norRecordWriteDone s = .next t ∧ t.nor.ret = s.nor.ret.program magicRetire 6 Config.retirePayload s.pwr.norHold s.retiredUnits ∧ Only [.nor] s t)
    ∧ (r = 7 → ∃ t, exec .norRecordWriteDone s = .next t ∧ t.nor.sec = s.nor.sec.program magicSec 7 SecRec.bytes s.pwr.norHold s.secRecord ∧ t.sec.bound = s.secRecord.bound
      ∧ t.sec.hw = s.hwNow ∧ Only [.nor, .sec] s t)
    ∧ (r = 8 → ∀ (i : FwImage) (tag : Nat), s.nor.fwStage = some (i, false, 0, tag) → ∃ t, exec .norRecordWriteDone s = .next t ∧ t.nor.fw = s.nor.fw.put (!s.glb.fwSlot) i
      ∧ t.nor.fwStage = none ∧ t.glb = { s.glb with fwCommitted := true } ∧ Only [.nor, .glb, .outs] s t)
    ∧ (r = 8 → ∀ (i : FwImage) (tag : Nat), s.nor.fwStage = some (i, true, 0, tag) → ∃ t, exec .norRecordWriteDone s = .next t
      ∧ t.nor.fw.a.map (·.2) = some i ∧ t.nor.fw.b = s.nor.fw.b ∧ t.nor.fwStage = none ∧ t.glb.seq = true ∧ t.glb.cause &&& causeFw = 0
      ∧ Only [.nor, .glb, .outs] s t))
  ∧ (∀ (s : State) (fn : Nat), fn < 18 →
    (s.stage = .on → Tbl.get 0 s.sec.ide fn = 1 → ∃ t, exec (.ideIntegrityFail fn) s = .next t ∧ Tbl.get 0 t.sec.ide fn = 2
      ∧ t.sec.ideFails = min 255 (s.sec.ideFails + 1) ∧ (t.hdr Ty.sec 0).irqStatus.testBit 2 = true ∧ t.err.lastCode = Code.ideFail
      ∧ (∀ j, j ≠ fn → Tbl.get 0 t.sec.ide j = Tbl.get 0 s.sec.ide j) ∧ Only (.sec :: errorParts) s t)
    ∧ (Tbl.get 0 s.sec.ide fn ≠ 1 → exec (.ideIntegrityFail fn) s = .next s))
  ∧ (∀ (s : State) (st k i q : Nat) (f : Sys2Proof.Machine.Frm), st < 16 → k < 3 → i < (if k = 0 then 4 else 24) → s.isSealed st = true → f = s.frm st k i →
    f.pt ≠ [] → s.sec.loadWait = [] → s.sec.doeWait = [] → f.last + 2 * fsUs ≤ s.up → (s.secSite st).unload = none → q = s.frameQueue st k i →
    (f.pt.length + 63) / 16 ≤ (s.queue q).room →
    ∃ t, exec (.resultFrameClose st k i) s = .next t ∧ (t.frm st k i).pt = [] ∧ (t.frm st k i).seq = f.seq + 1
      ∧ (t.queue q).tail = ((s.queue q).tail + (f.pt.length + 63) / 16) % (s.queue q).slots
      ∧ Only [.sec, .queues, .mem, .bmem, .fns, .outs] s t)

/-! ### SPDM, IDE_KM, MCTP control (17 R354 to R357; 16 R350) and the test access port (19 R413, R414) -/

/-- SPDM (R354 to R357): a path that is up answers each request: GET_VERSION and GET_CAPABILITIES always, the others with their response or ERROR;
nothing signed leaves once the identity is gone; a session opens, completes, is used and ends, two at most on a path; the measurements carry every
block the requester may see, a site its own alone; IDE_KM over a finished session of a mailbox programs keys, and starts and stops that function's
stream. A path that is not up answers nothing. The response codes and layouts are the model's (PRESUMED, log entry 9), the algorithms those of log
entry 58. -/
def Obligations.SpdmAnswersOnItsPath : Prop :=
  (∀ (s : State) (p : Nat) (req : List Byte), p < 19 → s.spdmUp p true = true →
    exec (.spdmGetVersion p) s = .next (s.emit (spdmMsg p 0x04 [0, 1, 0, 0x13]))
    ∧ (4 ≤ req.length → exec (.spdmGetCapabilities p req) s = .next (s.spdmCapabilities p)
        ∧ ∃ b, (s.spdmCapabilities p).outs = spdmMsg p 0x61 b :: s.outs)
    ∧ (req.length < 4 → exec (.spdmGetCapabilities p req) s = .next (s.emit (spdmErr p 0x01))))
  ∧ (∀ (s : State) (p : Nat), p < 19 → s.spdmUp p true = false → exec (.spdmGetVersion p) s = .next s)
  ∧ (∀ (s : State) (p : Nat) (req : List Byte), p < 19 → s.spdmUp p false = true →
    (4 ≤ req.length → exec (.spdmNegotiateAlgorithms p req) s = .next (s.emit (.message p ([0x13, 0x63, 3, 0] ++ spdmAlgorithms))))
    ∧ exec (.spdmUnsupported p) s = .next (s.emit (spdmErr p 0x07))
    ∧ (s.sec.identityOk = false → exec (.spdmGetDigests p) s = .next (s.emit (spdmErr p 0x05))
        ∧ exec (.spdmChallenge p req) s = .next (s.emit (spdmErr p 0x05))
        ∧ exec (.spdmGetMeasurements p req) s = .next (s.emit (spdmErr p 0x05))
        ∧ exec (.spdmKeyExchange p req) s = .next (s.emit (spdmErr p 0x05)))
    ∧ (s.sec.identityOk = true →
      exec (.spdmGetDigests p) s = .next (s.emit (.message p ([0x13, 0x01, 0, 1] ++ sha384 s.chain)))
      ∧ (∀ off len, ∀ c : List Byte, c = (s.chain.drop off).take len → exec (.spdmGetCertificate p 0 off len) s
          = .next (s.emit (spdmMsg p 0x02 (le 2 c.length ++ le 2 (s.chain.length - off - c.length) ++ c))))
      ∧ (∀ b : List Byte, b = Config.spdmBody 0x03 s.free req → ∃ t, exec (.spdmChallenge p req) s = .next t
          ∧ t.outs = spdmMsg p 0x03 (b ++ (s.signAlias (req ++ b)).2) :: s.outs ∧ Only [.outs, .free, .sec] s t)
      ∧ (∀ (i : Nat) (b : List Byte), i = (req.getD 3 0).toNat →
          (i = 0 → b = le 1 (measBlocks p).length) →
          (i = 255 → b = le 1 (measBlocks p).length
            ++ ((measBlocks p).map (fun k => le 1 k ++ le 2 (s.measurement k).length ++ s.measurement k)).flatten) →
          (i ≠ 0 → i ≠ 255 → i ∈ measBlocks p ∧ b = le 1 1 ++ le 1 i ++ le 2 (s.measurement i).length ++ s.measurement i) →
          ∃ t, exec (.spdmGetMeasurements p req) s = .next t ∧ t.outs = spdmMsg p 0x60 (b ++ (s.signAlias (req ++ b)).2) :: s.outs ∧ Only [.outs, .sec] s t)
      ∧ (∀ i : Nat, i = (req.getD 3 0).toNat → i ≠ 0 → i ≠ 255 → i ∉ measBlocks p →
          exec (.spdmGetMeasurements p req) s = .next (s.emit (spdmErr p 0x01)))
      ∧ (s.open_ p < 2 → ∃ t, exec (.spdmKeyExchange p req) s = .next t ∧ t.open_ p = s.open_ p + 1 ∧ t.finished p = s.finished p
          ∧ t.outs = spdmMsg p 0x64 (Config.spdmBody 0x64 s.free req ++ (s.signAlias (req ++ Config.spdmBody 0x64 s.free req)).2) :: s.outs ∧ Only [.sec, .outs, .free] s t)
      ∧ (2 ≤ s.open_ p → exec (.spdmKeyExchange p req) s = .next (s.emit (spdmErr p 0x0A))))
    ∧ (∀ slot off len, slot ≠ 0 → exec (.spdmGetCertificate p slot off len) s = .next (s.emit (spdmErr p 0x01)))
    ∧ (∀ ok : Bool, s.open_ p ≤ s.finished p → exec (.spdmFinish p ok) s = .next (s.emit (spdmErr p 0x04)))
    ∧ (s.finished p < s.open_ p →
      (∃ t, exec (.spdmFinish p true) s = .next t ∧ t.open_ p = s.open_ p ∧ t.finished p = s.finished p + 1
        ∧ t.outs = spdmMsg p 0x65 [] :: s.outs ∧ Only [.sec, .outs] s t)
      ∧ (∃ t, exec (.spdmFinish p false) s = .next t ∧ t.open_ p = s.open_ p - 1 ∧ t.finished p = s.finished p
        ∧ t.outs = spdmErr p 0x06 :: s.outs ∧ Only [.sec, .outs] s t))
    ∧ (s.finished p = 0 → exec (.spdmHeartbeat p) s = .next (s.emit (spdmErr p 0x04)) ∧ exec (.spdmKeyUpdate p) s = .next (s.emit (spdmErr p 0x04))
        ∧ exec (.spdmEndSession p) s = .next (s.emit (spdmErr p 0x04)))
    ∧ (s.finished p ≠ 0 → exec (.spdmHeartbeat p) s = .next (s.emit (spdmMsg p 0x68 []))
        ∧ exec (.spdmKeyUpdate p) s = .next (s.emit (spdmMsg p 0x69 []))
        ∧ (∃ t, exec (.spdmEndSession p) s = .next t ∧ t.open_ p = s.open_ p - 1 ∧ t.finished p = s.finished p - 1
            ∧ t.outs = spdmMsg p 0x6C [] :: s.outs ∧ Only [.sec, .outs] s t)
        ∧ (p ≠ 18 → exec (.ideKm (.query p)) s = .next (s.emit (spdmMsg p 0x7E [1]))
          ∧ (∀ k : List Byte, exec (.ideKm (.keyProg p k)) s
              = .next ((s.modSec (fun x => { x with ideKeys := Tbl.set [] x.ideKeys p k })).emit (spdmMsg p 0x7E [3])))
          ∧ (Tbl.get [] s.sec.ideKeys p = [] → exec (.ideKm (.setGo p)) s = .next (s.emit (spdmErr p 0x01)))
          ∧ (Tbl.get [] s.sec.ideKeys p ≠ [] → ∃ t, exec (.ideKm (.setGo p)) s = .next t ∧ Tbl.get 0 t.sec.ide p = 1
            ∧ (∀ j, j ≠ p → Tbl.get 0 t.sec.ide j = Tbl.get 0 s.sec.ide j)
            ∧ (Tbl.get 0 s.sec.ide p ≠ 1 → (t.hdr Ty.sec 0).irqStatus.testBit 2 = true)
            ∧ t.outs.head? = some (spdmMsg p 0x7E [6]) ∧ Only (.sec :: causeParts) s t)
          ∧ (∃ t, exec (.ideKm (.setStop p)) s = .next t ∧ Tbl.get 0 t.sec.ide p = 2
            ∧ (∀ j, j ≠ p → Tbl.get 0 t.sec.ide j = Tbl.get 0 s.sec.ide j)
            ∧ (Tbl.get 0 s.sec.ide p ≠ 2 → (t.hdr Ty.sec 0).irqStatus.testBit 2 = true)
            ∧ t.outs.head? = some (spdmMsg p 0x7E [6]) ∧ Only (.sec :: causeParts) s t)))
    ∧ (∀ q : IdeKm, q.path = 18 → p = 18 → exec (.ideKm q) s = .next (s.emit (spdmErr p 0x07))))

/-- MCTP control and the test access port (16 R350; 19 R413, R414): the endpoint answers each control command, takes an ID from 8 to 254, and refuses
an unknown one; messages of other types are dropped; a held land shows its held value, an open-drain one held at 1 the board's level; EXTEST, CLAMP
and HIGHZ act on the lands in SAFE alone, else as BYPASS, which like IDCODE and SAMPLE/PRELOAD gives them back to their functions. The bit order of
the boundary register is log entry 56; the MCTP codes are the model's (PRESUMED, log entry 9). -/
def Obligations.MctpAndTestPortAnswer : Prop :=
  (∀ (s : State), s.mctpUp = true →
    (∀ op eid, op ≤ 1 → 8 ≤ eid → eid ≤ 254 → exec (.setEndpointId op eid) s
      = .next ((s.modSmb (fun m => { m with eid := eid })).emit (mctpMsg 0x01 0 (le 1 0 ++ le 1 eid ++ le 1 0))))
    ∧ (∀ op eid, eid < 8 ∨ 254 < eid → exec (.setEndpointId op eid) s = .next (s.emit (mctpMsg 0x01 0x02 [])))
    ∧ exec .getEndpointId s = .next (s.emit (mctpMsg 0x02 0 (le 1 s.smb.eid ++ [0, 0])))
    ∧ exec .getEndpointUuid s = .next (s.emit (mctpMsg 0x03 0 (fitBytes 16 Config.uuid)))
    ∧ (∀ ty, ty = 0x00 ∨ ty = 0x05 ∨ ty = 0xFF → exec (.getMctpVersionSupport ty) s = .next (s.emit (mctpMsg 0x04 0 [1, 0xF1, 0xF3, 0xF1, 0])))
    ∧ (∀ ty, ty ≠ 0x00 → ty ≠ 0x05 → ty ≠ 0xFF → exec (.getMctpVersionSupport ty) s = .next (s.emit (mctpMsg 0x04 0x80 [])))
    ∧ exec .getMessageTypeSupport s = .next (s.emit (mctpMsg 0x05 0 [2, 0x00, 0x05]))
    ∧ (∀ cmd, cmd < 256 → cmd = 0 ∨ 5 < cmd → exec (.mctpUnsupported 0 cmd) s = .next (s.emit (mctpMsg cmd 0x05 []))))
  ∧ (∀ (s : State) (ty cmd : Nat), ty ≠ 0 → exec (.mctpUnsupported ty cmd) s = .next s)
  ∧ (∀ (s : State) (seen v i : Nat), s.jtag.hold = some v → i < 12 →
    (s.lands seen).testBit i = (if i = 9 then v.testBit 9 else if i ≤ 2 ∨ i = 10 then seen.testBit i && v.testBit i else seen.testBit i))
  ∧ (∀ (s : State) (seen drive : Nat), s.stage = .on →
    (s.glb.mode = .safe →
      exec (.extest seen drive) s = .next ((s.modJtag (fun j => { j with
        ir := 0, preload := drive % 4096, hold := some (drive % 4096), released := false })).emit
          (.jtag ((s.modJtag (fun j => { j with ir := 0, hold := some j.preload, released := false })).lands seen)))
      ∧ exec .clampLands s = .next (s.modJtag (fun j => { j with ir := 4, hold := some j.preload, released := false }))
      ∧ exec .highz s = .next (s.modJtag (fun j => { j with ir := 5, hold := none, released := true })))
    ∧ (s.glb.mode ≠ .safe →
      exec (.extest seen drive) s = .next (s.modJtag (fun j => { j with ir := 0, hold := none, released := false }))
      ∧ exec .clampLands s = .next (s.modJtag (fun j => { j with ir := 4, hold := none, released := false }))
      ∧ exec .highz s = .next (s.modJtag (fun j => { j with ir := 5, hold := none, released := false })))
    ∧ exec .idcode s = .next ((s.modJtag (fun j => { j with ir := 1, hold := none, released := false })).emit (.jtag 0x101924BF))
    ∧ exec (.samplePreload seen drive) s = .next ((s.modJtag (fun j => { j with
        ir := 2, preload := drive % 4096, hold := none, released := false })).emit
          (.jtag ((s.modJtag (fun j => { j with ir := 2, hold := none, released := false })).lands seen)))
    ∧ (∀ c, c < 16 → c ≠ 0 → c ≠ 1 → c ≠ 2 → c ≠ 4 → c ≠ 5 →
        exec (.bypass c) s = .next (s.modJtag (fun j => { j with ir := c, hold := none, released := false }))))

/-! ### Header registers, windows, pairs, broadcasts (05 R85 to R95) -/

/-- Header registers (R91 to R93): EN clears and sets, a soft reset brings the registers back and ends with RESET_BUSY 0, LOCK sets; a block
with a site in its service refuses EN = 0 and a reset with BLK_BUSY, a fixed block ignores both, RGN only EN = 0, a locked page
refuses a site's reset; IRQ_SET raises defined causes, IRQ_ENABLE keeps defined bits. -/
def Obligations.HeaderRegistersAct : Prop :=
  (∀ (s : State) (fn ty inst : Nat), s.accepts fn ty inst 0x008 = true →
    (fixedEn ty inst = true → exec (.blkEnClear fn ty inst) s = .next s ∧ exec (.blkEnSet fn ty inst) s = .next s
      ∧ exec (.blkLock fn ty inst) s = .next (s.modHdr ty inst (fun h => { h with lock := true })))
    ∧ (noReset ty inst = true → exec (.blkSoftReset fn ty inst) s = .next s)
    ∧ (fixedEn ty inst = false → s.blkBusy ty inst = true →
        exec (.blkEnClear fn ty inst) s = .next (s.reject fn Code.blkBusy ty inst))
    ∧ (fixedEn ty inst = false → s.blkBusy ty inst = false → ∃ t, exec (.blkEnClear fn ty inst) s = .next t
        ∧ (t.hdr ty inst).en = false ∧ (t.hdr ty inst).owner = (s.hdr ty inst).owner
        ∧ (ty ∈ [Ty.tg, Ty.cmp, Ty.lvl, Ty.te, Ty.fcu] → t = s.modHdr ty inst (fun h => { h with en := false }))
        ∧ (ty = Ty.hist → t = (s.modHist inst (fun h => { h with run := false })).modHdr ty inst (fun h => { h with en := false }))
        ∧ (ty = Ty.pe → (t.chan inst).drvMode = 0 ∧ (t.chan inst).hiz ≠ none ∧ (t.chan inst).codes = (s.chan inst).codes
            ∧ (t.chan inst).lvlq = (s.chan inst).lvlq))
    ∧ (fixedEn ty inst = false → ∃ t, exec (.blkEnSet fn ty inst) s = .next t ∧ (t.hdr ty inst).en = true
        ∧ (ty ≠ Ty.te ∨ (s.hdr ty inst).en = true → t = s.modHdr ty inst (fun h => { h with en := true }))
        ∧ (ty = Ty.te → (s.hdr ty inst).en = false → (t.te inst).deque = [] ∧ (t.te inst).lastSite = none
            ∧ (∀ e, e ≠ inst → t.te e = s.te e) ∧ Only [.hdrs, .tes, .caches] s t))
    ∧ (noReset ty inst = false → (fn = 0 ∨ (s.hdr ty inst).lock = false) → s.blkBusy ty inst = false →
        ∃ t, exec (.blkSoftReset fn ty inst) s = .next t
          ∧ t.hdr ty inst = { owner := (s.hdr ty inst).owner, vector := (s.hdr ty inst).vector, retired := (s.hdr ty inst).retired,
                              resetBusy := true }
          ∧ (ty = Ty.tg → t.chan inst = (s.chan inst).resetTg) ∧ (ty = Ty.cmp → t.chan inst = (s.chan inst).resetCmp)
          ∧ (ty = Ty.hist → t.hist inst = {}) ∧ (ty = Ty.acq → t.acq inst = {})
          ∧ (ty = Ty.rgn → (t.rgn inst).lastErr = 0) ∧ (ty = Ty.te → (t.te inst).segId = 0 ∧ (t.te inst).token = {})
          ∧ (ty = Ty.fcu → ∀ k, k < 16 → (t.site k).fcuMode = 0)
          ∧ (ty = Ty.madc → (t.madc inst).mask = 0 ∧ (t.madc inst).run = false)
          ∧ (ty = Ty.pe ∨ ty = Ty.lvl → (t.chan inst).drvMode = 0 ∧ (t.chan inst).hiz = some true))
    ∧ (noReset ty inst = false → fn ≠ 0 → (s.hdr ty inst).lock = true →
        exec (.blkSoftReset fn ty inst) s = .next (s.locked fn ty inst 0x008))
    ∧ (noReset ty inst = false → (fn = 0 ∨ (s.hdr ty inst).lock = false) → s.blkBusy ty inst = true →
        exec (.blkSoftReset fn ty inst) s = .next (s.reject fn Code.blkBusy ty inst))
    ∧ ((s.hdr ty inst).en = true → exec (.blkLock fn ty inst) s = .next (s.modHdr ty inst (fun h => { h with lock := true }))))
  ∧ (∀ (s : State) (ty inst : Nat), mapped ty inst = true →
    ((s.hdr ty inst).resetBusy = true → ∃ t, exec (.softResetDone ty inst) s = .next t ∧ (t.hdr ty inst).resetBusy = false
      ∧ (ty ≠ Ty.pe → ty ≠ Ty.lvl → t = s.modHdr ty inst (fun h => { h with resetBusy := false }))
      ∧ (ty = Ty.pe → (t.chan inst).clamp = false ∧ (t.chan inst).pmuConn = false ∧ (t.chan inst).full = true)
      ∧ (ty = Ty.lvl → (t.chan inst).codes = [] ∧ (t.chan inst).lvlq = []) ∧ Only [.hdrs, .chans] s t)
    ∧ ((s.hdr ty inst).resetBusy = false → exec (.softResetDone ty inst) s = .next s))
  ∧ (∀ (s : State) (fn ty inst val : Nat), s.accepts fn ty inst 0x018 = true →
    ∃ t, exec (.blkIrqSet fn ty inst val) s = .next t
      ∧ (t.hdr ty inst).irqStatus = (s.hdr ty inst).irqStatus ||| (val &&& causesOf ty)
      ∧ (∀ a b, b < 256 → (a, b) ≠ (ty, inst) → t.hdr a b = s.hdr a b) ∧ Only causeParts s t)
  ∧ (∀ (s : State) (fn ty inst val : Nat), s.accepts fn ty inst 0x014 = true →
    ∃ t, exec (.blkIrqEnableWrite fn ty inst val) s = .next t ∧ (t.hdr ty inst).irqEnable = (val &&& causesOf ty)
      ∧ (t.hdr ty inst).irqStatus = (s.hdr ty inst).irqStatus ∧ Only causeParts s t)

/-- Windows, pairs and broadcasts (R85 to R88, R94, R95): a whole aligned word reaches its register, a run of words is one access each in ascending
order, any other access is REG_WIDTH and writes nothing; a read returns the word and clears its RC fields; a pair commits with its high half and reads as one snapshot; a
broadcast acts on every owned target and counts the others. -/
def Obligations.WindowsPairsAndBroadcasts : Prop :=
  (∀ (s : State) (fn ty inst off val : Nat), ty < 256 → mapped ty inst = true → off < 4096 → off % 4 = 0 →
    s.accepts fn ty inst off = true → exec (.regWrite fn (pageOff ty inst off) 15 val) s = .next (s.writeReg fn ty inst off val))
  ∧ (∀ (s : State) (fn a n val : Nat), fn < 18 → s.fnUp fn = true → (s.fn fn).inReset = false → a % 4 = 0 → 0 < n → n ≤ 1024 →
    exec (.regWrite fn a (2 ^ (4 * n) - 1) val) s
      = .next (forEach (List.range n) (fun i t => t.wordWrite fn (a + 4 * i) (bits val (32 * i) 32)) s)
    ∧ exec (.rcRead fn a (2 ^ (4 * n) - 1)) s = .next (forEach (List.range n) (fun i t => t.wordRead fn (a + 4 * i)) s))
  ∧ (∀ (s : State) (fn a be val : Nat), fn < 18 → s.fnUp fn = true → (s.fn fn).inReset = false → accWords a be = 0 →
    (∃ t, exec (.regWrite fn a be val) s = .next t ∧ t.err.lastCode = Code.regWidth ∧ Only errorParts s t)
    ∧ (∃ t, exec (.rcRead fn a be) s = .next t ∧ t.err.lastCode = Code.regWidth ∧ t.outs.head? = some (.word fn 0) ∧ Only errorParts s t))
  ∧ (∀ (s : State) (fn ty inst off : Nat), ty < 256 → off < 4096 → off % 4 = 0 → s.reads fn ty inst off = true → Ty.pairLo ty off = false →
    (off < 4 ∨ Ty.pairLo ty (off - 4) = false) →
    ∃ t, exec (.rcRead fn (pageOff ty inst off) 15) s = .next t ∧ t.outs.head? = some (.word fn (s.regWord fn ty inst off))
      ∧ (off = 0x01C → (t.hdr ty inst).errCount = 0 ∧ (t.hdr ty inst).lastCode = 0)
      ∧ (ty = Ty.qmgr → off = 0x05C → t.qmgr.dbDrop = 0) ∧ (ty = Ty.err → off = 0x04C → t.err.lost = 0)
      ∧ (off < 0x01C → Only [.outs] s t))
  ∧ (∀ (s : State) (fn ty inst lo val : Nat), s.accepts fn ty inst lo = true → ty < 256 →
    (ty, lo) ∈ [(Ty.glb, 0x050), (Ty.tg, 0x044), (Ty.tg, 0x050), (Ty.cmp, 0x054), (Ty.acq, 0x058), (Ty.acq, 0x060), (Ty.hist, 0x048)] →
    ∃ t, exec (.pairLoWrite fn ty inst lo val) s = .next t
      ∧ Tbl.get none (t.fn fn).stage (pairKey ty inst lo) = some (val % 2 ^ 32)
      ∧ (∀ k, k ≠ pairKey ty inst lo → Tbl.get none (t.fn fn).stage k = Tbl.get none (s.fn fn).stage k)
      ∧ (∀ f, f ≠ fn → t.fn f = s.fn f) ∧ Only [.fns] s t)
  ∧ (∀ (s : State) (fn k val lo : Nat), s.accepts fn Ty.hist k 0x04C = true → (s.hist k).run = false →
    Tbl.get none (s.fn fn).stage (pairKey Ty.hist k 0x048) = some lo →
    ∃ t, exec (.pairHiCommit fn Ty.hist k 0x048 val) s = .next t ∧ (t.hist k).origin = sx 64 (lo + (val % 2 ^ 32) * 2 ^ 32)
      ∧ Tbl.get none (t.fn fn).stage (pairKey Ty.hist k 0x048) = none ∧ (∀ j, j ≠ k → t.hist j = s.hist j) ∧ Only [.fns, .hists] s t)
  ∧ (∀ (s : State) (fn ty inst lo val : Nat), Ty.pairLo ty lo = true → s.accepts fn ty inst (lo + 4) = true →
    exec (.pairHiCommit fn ty inst lo val) s = .next (s.writeReg fn ty inst (lo + 4) val))
  ∧ (∀ (s : State) (fn ty inst lo : Nat), Ty.pairLo ty lo = true → s.reads fn ty inst lo = true →
    ∃ t, exec (.pairLoRead fn ty inst lo) s = .next t ∧ t.outs.head? = some (.word fn (s.pairValue ty inst lo % 2 ^ 32))
      ∧ Tbl.get 0 (t.fn fn).snap (pairKey ty inst lo) = s.pairValue ty inst lo ∧ Only [.fns, .outs] s t)
  ∧ (∀ (s : State) (fn ty inst off : Nat), ty < 256 → off < 4092 → off % 4 = 0 → Ty.pairLo ty off = true → Ty.pairLo ty (off + 4) = false →
    s.reads fn ty inst (off + 4) = true → exec (.rcRead fn (pageOff ty inst (off + 4)) 15) s
      = .next (s.emit (.word fn (Tbl.get 0 (s.fn fn).snap (pairKey ty inst off) >>> 32))))
  ∧ (∀ (s : State) (fn ty val : Nat), fn < 18 → s.fnUp fn = true → (s.fn fn).inReset = false → ty < 256 → 0 < Ty.count ty →
    (∀ i, i < Ty.count ty → s.ownsPage fn ty i = true → s.accepts fn ty i 0x018 = true) →
    ∃ t, exec (.broadcastWrite fn ty 0xFF 0x018 val) s = .next t
      ∧ (∀ i, i < Ty.count ty → s.ownsPage fn ty i = true →
          (t.hdr ty i).irqStatus = (s.hdr ty i).irqStatus ||| (val % 2 ^ 32 &&& causesOf ty))
      ∧ (∀ i, i < Ty.count ty → s.ownsPage fn ty i = false → t.hdr ty i = s.hdr ty i)
      ∧ Only causeParts s t)
  ∧ (∀ (s : State) (fn g ty val : Nat), fn < 18 → s.fnUp fn = true → (s.fn fn).inReset = false → g < 31 → ty < 256 → hasMask ty = true →
    (∀ i, i < Ty.count ty → s.ownsPage fn ty i = false) →
    ∃ t, exec (.broadcastWrite fn ty (0xE0 + g) 0x018 val) s = .next t
      ∧ (t.fn fn).bcastSkip = min (2 ^ 32 - 1) ((s.fn fn).bcastSkip
          + ((List.range (Ty.count ty)).filter (fun i => s.inGroup fn g ty i)).length)
      ∧ Only [.fns] s t)

/-! ### What every command leaves -/

/-- No command touches the queue of commands, the clock of the model's timers or the ordering grade: only the step does (00 R4; log entry
1). -/
def Obligations.ExecLeavesQueueClockAndGrade : Prop :=
  ∀ (c : Instr) (s t : State), exec c s = .next t → t.pending = s.pending ∧ t.uptime = s.uptime ∧ t.grade08 = s.grade08

/-- TT and the straps change only at power-up, PLL lock, power loss and by frames of the sync bus (03 R69, 04 R77, 16 R334); OTP changes only
when a lifecycle transition is done (17 R376, R378). -/
def Obligations.OnlyNamedCommandsChangeTtStrapsAndOtp : Prop :=
  ∀ (c : Instr) (s t : State), exec c s = .next t →
    (c ≠ .lcDone → t.otp = s.otp)
    ∧ ((∀ b a, c ≠ .pwrGood b a) → c ≠ .pllLock → (∀ v, c ≠ .undervoltageLockout v) → c ≠ .pwrEnLow → c ≠ .powerStageStop →
        (∀ w, c ≠ .bsyncFrameSlot w) → c ≠ .bsyncNop → (∀ a, c ≠ .timeLoadStage a) → (∀ a, c ≠ .timeLoadLoad a) → (∀ g, c ≠ .bsyncArm g) →
        (∀ g a, c ≠ .startAt g a) → (∀ g a, c ≠ .stopAt g a) → c ≠ .ping →
        t.root = s.root ∧ t.everLocked = s.everLocked ∧ t.bifur = s.bifur ∧ t.smbAddr = s.smbAddr)

/-- BLK_CAP of the GLB page (R4) reads the grade in SPEED_GRADE, bit 0: 0 on KVX-Q192-48L-16 and 1 on KVX-Q192-48L-08. -/
def Obligations.GradeIsReportedInBlkCap : Prop :=
  ∀ (s : State) (fn : Nat), s.reads fn Ty.glb 0 0x004 = true →
    exec (.rcRead fn (pageOff Ty.glb 0 0x004) 15) s = .next (s.emit (.word fn (s.regWord fn Ty.glb 0 0x004)))
      ∧ s.regWord fn Ty.glb 0 0x004 % 2 = (if s.grade08 then 1 else 0)
end

