-- ==== Sys2Proof/Laws/Tbl.lean ====
section
/-! SUPPORT. Laws of tables: reading after writing, writing elsewhere, and the canonical form. -/

namespace Sys2Proof

variable {α : Type}

@[simp] theorem Tbl.get_nil (d : α) (k : Nat) : Tbl.get d [] k = d := rfl

theorem Tbl.get_erase_same (d : α) (t : Tbl α) (k : Nat) : Tbl.get d (Tbl.erase t k) k = d := by
  induction t with
  | nil => rfl
  | cons p t ih =>
    obtain ⟨j, v⟩ := p
    by_cases h : j = k <;> simp [Tbl.erase, Tbl.get, h, ih]

theorem Tbl.get_erase_ne (d : α) (t : Tbl α) {k j : Nat} (h : j ≠ k) :
    Tbl.get d (Tbl.erase t k) j = Tbl.get d t j := by
  induction t with
  | nil => rfl
  | cons p t ih =>
    obtain ⟨i, v⟩ := p
    by_cases hk : i = k
    · have hj : i ≠ j := fun e => h (e.symm.trans hk)
      simp only [Tbl.erase, hk, if_true, Tbl.get]
      rw [if_neg (by omega), ih]
    · simp only [Tbl.erase, hk, if_false, Tbl.get, ih]

theorem Tbl.get_insert_same (d : α) (t : Tbl α) (k : Nat) (v : α) (h : ∀ p ∈ t, p.1 ≠ k) :
    Tbl.get d (Tbl.insert t k v) k = v := by
  induction t with
  | nil => simp [Tbl.insert, Tbl.get]
  | cons p t ih =>
    obtain ⟨i, w⟩ := p
    have hi : i ≠ k := h (i, w) (by simp)
    by_cases hk : k < i
    · simp only [Tbl.insert, hk, if_true, Tbl.get]
    · simp only [Tbl.insert, hk, if_false, Tbl.get, hi]
      exact ih (fun p hp => h p (by simp [hp]))

theorem Tbl.get_insert_ne (d : α) (t : Tbl α) {k j : Nat} (v : α) (h : j ≠ k) :
    Tbl.get d (Tbl.insert t k v) j = Tbl.get d t j := by
  have hk : k ≠ j := fun e => h e.symm
  induction t with
  | nil => simp [Tbl.insert, Tbl.get, hk]
  | cons p t ih =>
    obtain ⟨i, w⟩ := p
    by_cases hi : k < i
    · simp only [Tbl.insert, hi, if_true, Tbl.get, hk, if_false]
    · simp only [Tbl.insert, hi, if_false, Tbl.get, ih]

theorem Tbl.mem_erase {t : Tbl α} {k : Nat} {p : Nat × α} (h : p ∈ Tbl.erase t k) : p ∈ t ∧ p.1 ≠ k := by
  induction t with
  | nil => simp [Tbl.erase] at h
  | cons q t ih =>
    obtain ⟨i, v⟩ := q
    by_cases hk : i = k
    · simp only [Tbl.erase, hk, if_true] at h
      exact ⟨by simp [(ih h).1], (ih h).2⟩
    · simp only [Tbl.erase, hk, if_false, List.mem_cons] at h
      rcases h with h | h
      · subst h; exact ⟨by simp, hk⟩
      · exact ⟨by simp [(ih h).1], (ih h).2⟩

theorem Tbl.mem_insert {t : Tbl α} {k : Nat} {v : α} {p : Nat × α} (h : p ∈ Tbl.insert t k v) :
    p = (k, v) ∨ p ∈ t := by
  induction t with
  | nil => simpa [Tbl.insert] using h
  | cons q t ih =>
    obtain ⟨i, w⟩ := q
    by_cases hk : k < i
    · simpa [Tbl.insert, hk] using h
    · simp only [Tbl.insert, hk, if_false, List.mem_cons] at h
      rcases h with h | h
      · exact .inr (by simp [h])
      · rcases ih h with h | h
        · exact .inl h
        · exact .inr (by simp [h])

section
variable [DecidableEq α]

/-- Reading the key just written gives the value written. -/
@[simp] theorem Tbl.get_set_same (d : α) (t : Tbl α) (k : Nat) (v : α) : Tbl.get d (Tbl.set d t k v) k = v := by
  by_cases h : v = d
  · simp [Tbl.set, h, Tbl.get_erase_same]
  · simp only [Tbl.set, h, if_false]
    exact Tbl.get_insert_same d _ k v (fun p hp => (Tbl.mem_erase hp).2)

/-- Reading another key gives what it gave before, whatever each key's unlisted value. -/
theorem Tbl.get_set_ne (d e : α) (t : Tbl α) {k j : Nat} (v : α) (h : j ≠ k) :
    Tbl.get e (Tbl.set d t k v) j = Tbl.get e t j := by
  by_cases hv : v = d
  · simp [Tbl.set, hv, Tbl.get_erase_ne e t h]
  · simp [Tbl.set, hv, Tbl.get_insert_ne e _ v h, Tbl.get_erase_ne e t h]

/-- The key written, read against another unlisted value. -/
theorem Tbl.get_set_other (d e : α) (t : Tbl α) (k : Nat) (v : α) :
    Tbl.get e (Tbl.set d t k v) k = if v = d then e else v := by
  by_cases h : v = d
  · simp [Tbl.set, h, Tbl.get_erase_same]
  · simp only [Tbl.set, h, if_false]
    exact Tbl.get_insert_same e _ k v (fun p hp => (Tbl.mem_erase hp).2)

theorem Tbl.get_upd_same (d : α) (t : Tbl α) (k : Nat) (f : α → α) :
    Tbl.get d (Tbl.upd d t k f) k = f (Tbl.get d t k) := by simp [Tbl.upd]

theorem Tbl.get_upd_ne (d e : α) (t : Tbl α) {k j : Nat} (f : α → α) (h : j ≠ k) :
    Tbl.get e (Tbl.upd d t k f) j = Tbl.get e t j := Tbl.get_set_ne d e t _ h

/-- Reading any key after an update. -/
theorem Tbl.get_upd (d : α) (t : Tbl α) (k j : Nat) (f : α → α) :
    Tbl.get d (Tbl.upd d t k f) j = if j = k then f (Tbl.get d t j) else Tbl.get d t j := by
  by_cases h : j = k
  · subst h; simp [Tbl.get_upd_same]
  · simp [h, Tbl.get_upd_ne d d t f h]

/-- What holds of every value read holds after an update that keeps it. -/
theorem Tbl.forall_upd {P : α → Prop} {d : α} {t : Tbl α} {k : Nat} {f : α → α}
    (h : ∀ j, P (Tbl.get d t j)) (hf : P (f (Tbl.get d t k))) (j : Nat) : P (Tbl.get d (Tbl.upd d t k f) j) := by
  rw [Tbl.get_upd]; split
  · rename_i e; subst e; exact hf
  · exact h j

end

/-! ### The canonical form -/

theorem Tbl.sorted_erase {t : Tbl α} (k : Nat) (h : Tbl.sorted t = true) : Tbl.sorted (Tbl.erase t k) = true := by
  induction t with
  | nil => rfl
  | cons p t ih =>
    obtain ⟨i, v⟩ := p
    simp only [Tbl.sorted, Bool.and_eq_true, List.all_eq_true, decide_eq_true_eq] at h
    by_cases hk : i = k
    · simp [Tbl.erase, hk, ih h.2]
    · simp only [Tbl.erase, hk, if_false, Tbl.sorted, Bool.and_eq_true, List.all_eq_true, decide_eq_true_eq]
      exact ⟨fun q hq => h.1 q (Tbl.mem_erase hq).1, ih h.2⟩

theorem Tbl.sorted_insert {t : Tbl α} (k : Nat) (v : α) (h : Tbl.sorted t = true) (hk : ∀ p ∈ t, p.1 ≠ k) :
    Tbl.sorted (Tbl.insert t k v) = true := by
  induction t with
  | nil => simp [Tbl.insert, Tbl.sorted]
  | cons p t ih =>
    obtain ⟨i, w⟩ := p
    simp only [Tbl.sorted, Bool.and_eq_true, List.all_eq_true, decide_eq_true_eq] at h
    by_cases hi : k < i
    · simp only [Tbl.insert, hi, if_true, Tbl.sorted, Bool.and_eq_true, List.all_eq_true, decide_eq_true_eq,
        List.mem_cons]
      refine ⟨fun q hq => ?_, h⟩
      rcases hq with hq | hq
      · subst hq; exact hi
      · exact Nat.lt_trans hi (h.1 q hq)
    · simp only [Tbl.insert, hi, if_false, Tbl.sorted, Bool.and_eq_true, List.all_eq_true, decide_eq_true_eq]
      refine ⟨fun q hq => ?_, ih h.2 (fun q hq => hk q (by simp [hq]))⟩
      rcases Tbl.mem_insert hq with hq | hq
      · have := hk (i, w) (by simp)
        subst hq; simp only; simp only at this; omega
      · exact h.1 q hq

variable [DecidableEq α]

/-- Writing keeps the canonical form. -/
theorem Tbl.wf_set {d : α} {t : Tbl α} (k : Nat) (v : α) (h : Tbl.wf d t = true) : Tbl.wf d (Tbl.set d t k v) = true := by
  simp only [Tbl.wf, Bool.and_eq_true, List.all_eq_true, decide_eq_true_eq] at h ⊢
  by_cases hv : v = d
  · simp only [Tbl.set, hv, if_true]
    exact ⟨Tbl.sorted_erase k h.1, fun p hp => h.2 p (Tbl.mem_erase hp).1⟩
  · simp only [Tbl.set, hv, if_false]
    refine ⟨Tbl.sorted_insert k v (Tbl.sorted_erase k h.1) (fun p hp => (Tbl.mem_erase hp).2), fun p hp => ?_⟩
    rcases Tbl.mem_insert hp with hp | hp
    · subst hp; exact hv
    · exact h.2 p (Tbl.mem_erase hp).1

/-- Dropping entries keeps the canonical form. -/
theorem Tbl.wf_filter {d : α} {t : Tbl α} (p : Nat × α → Bool) (h : Tbl.wf d t = true) :
    Tbl.wf d (t.filter p) = true := by
  simp only [Tbl.wf, Bool.and_eq_true, List.all_eq_true, decide_eq_true_eq] at h ⊢
  refine ⟨?_, fun q hq => h.2 q (List.mem_filter.mp hq).1⟩
  have hs := h.1
  clear h
  induction t with
  | nil => rfl
  | cons q t ih =>
    obtain ⟨i, v⟩ := q
    simp only [Tbl.sorted, Bool.and_eq_true, List.all_eq_true, decide_eq_true_eq] at hs
    by_cases hp : p (i, v) = true
    · simp only [List.filter_cons, hp, if_true, Tbl.sorted, Bool.and_eq_true, List.all_eq_true, decide_eq_true_eq]
      exact ⟨fun r hr => hs.1 r (List.mem_filter.mp hr).1, ih hs.2⟩
    · simp [hp, ih hs.2]

end Sys2Proof
end

