-- ==== Sys2Proof/Laws/State.lean ====
section
/-! SUPPORT. One lemma per field per update of State, and one per reader of a unit: what an update of one piece of state
leaves alone, and what it gives. -/

namespace Sys2Proof.Machine

@[simp] theorem when_true (f : State → State) (s : State) : when true f s = f s := (rfl)
@[simp] theorem when_false (f : State → State) (s : State) : when false f s = s := (rfl)
@[simp] theorem forEach_nil (f : Nat → State → State) (s : State) : forEach [] f s = s := (rfl)
@[simp] theorem forEach_cons (i : Nat) (l : List Nat) (f : Nat → State → State) (s : State) :
    forEach (i :: l) f s = forEach l f (f i s) := (rfl)
@[simp] theorem onUnit_true (t : State) : onUnit true t = .next t := (rfl)
theorem onUnit_of (b : Bool) (t : State) (h : b = true) : onUnit b t = .next t := by subst h; rfl

/-! modFn -/
section
variable (s : State) (i : Nat) (f : Fn → Fn)
@[simp] theorem State.modFn_grade08 : (s.modFn i f).grade08 = s.grade08 := (rfl)
@[simp] theorem State.modFn_bifur : (s.modFn i f).bifur = s.bifur := (rfl)
@[simp] theorem State.modFn_smbAddr : (s.modFn i f).smbAddr = s.smbAddr := (rfl)
@[simp] theorem State.modFn_root : (s.modFn i f).root = s.root := (rfl)
@[simp] theorem State.modFn_uptime : (s.modFn i f).uptime = s.uptime := (rfl)
@[simp] theorem State.modFn_everLocked : (s.modFn i f).everLocked = s.everLocked := (rfl)
@[simp] theorem State.modFn_stage : (s.modFn i f).stage = s.stage := (rfl)
@[simp] theorem State.modFn_link0 : (s.modFn i f).link0 = s.link0 := (rfl)
@[simp] theorem State.modFn_link1 : (s.modFn i f).link1 = s.link1 := (rfl)
@[simp] theorem State.modFn_pwr : (s.modFn i f).pwr = s.pwr := (rfl)
@[simp] theorem State.modFn_glb : (s.modFn i f).glb = s.glb := (rfl)
@[simp] theorem State.modFn_clk : (s.modFn i f).clk = s.clk := (rfl)
@[simp] theorem State.modFn_sync : (s.modFn i f).sync = s.sync := (rfl)
@[simp] theorem State.modFn_sec : (s.modFn i f).sec = s.sec := (rfl)
@[simp] theorem State.modFn_hdrs : (s.modFn i f).hdrs = s.hdrs := (rfl)
@[simp] theorem State.modFn_sites : (s.modFn i f).sites = s.sites := (rfl)
@[simp] theorem State.modFn_queues : (s.modFn i f).queues = s.queues := (rfl)
@[simp] theorem State.modFn_qmgr : (s.modFn i f).qmgr = s.qmgr := (rfl)
@[simp] theorem State.modFn_bmem : (s.modFn i f).bmem = s.bmem := (rfl)
@[simp] theorem State.modFn_hbms : (s.modFn i f).hbms = s.hbms := (rfl)
@[simp] theorem State.modFn_err : (s.modFn i f).err = s.err := (rfl)
@[simp] theorem State.modFn_hlth : (s.modFn i f).hlth = s.hlth := (rfl)
@[simp] theorem State.modFn_cals : (s.modFn i f).cals = s.cals := (rfl)
@[simp] theorem State.modFn_clus : (s.modFn i f).clus = s.clus := (rfl)
@[simp] theorem State.modFn_rgns : (s.modFn i f).rgns = s.rgns := (rfl)
@[simp] theorem State.modFn_fcus : (s.modFn i f).fcus = s.fcus := (rfl)
@[simp] theorem State.modFn_madcs : (s.modFn i f).madcs = s.madcs := (rfl)
@[simp] theorem State.modFn_acqs : (s.modFn i f).acqs = s.acqs := (rfl)
@[simp] theorem State.modFn_hists : (s.modFn i f).hists = s.hists := (rfl)
@[simp] theorem State.modFn_chans : (s.modFn i f).chans = s.chans := (rfl)
@[simp] theorem State.modFn_tes : (s.modFn i f).tes = s.tes := (rfl)
@[simp] theorem State.modFn_mem : (s.modFn i f).mem = s.mem := (rfl)
@[simp] theorem State.modFn_ctext : (s.modFn i f).ctext = s.ctext := (rfl)
@[simp] theorem State.modFn_hbmHolder : (s.modFn i f).hbmHolder = s.hbmHolder := (rfl)
@[simp] theorem State.modFn_bankHolder : (s.modFn i f).bankHolder = s.bankHolder := (rfl)
@[simp] theorem State.modFn_nor : (s.modFn i f).nor = s.nor := (rfl)
@[simp] theorem State.modFn_otp : (s.modFn i f).otp = s.otp := (rfl)
@[simp] theorem State.modFn_faults : (s.modFn i f).faults = s.faults := (rfl)
@[simp] theorem State.modFn_smb : (s.modFn i f).smb = s.smb := (rfl)
@[simp] theorem State.modFn_jtag : (s.modFn i f).jtag = s.jtag := (rfl)
@[simp] theorem State.modFn_outs : (s.modFn i f).outs = s.outs := (rfl)
@[simp] theorem State.modFn_free : (s.modFn i f).free = s.free := (rfl)
@[simp] theorem State.modFn_pcache : (s.modFn i f).pcache = s.pcache := (rfl)
@[simp] theorem State.modFn_micro : (s.modFn i f).micro = s.micro := (rfl)
@[simp] theorem State.modFn_stores : (s.modFn i f).stores = s.stores := (rfl)
@[simp] theorem State.modFn_returned : (s.modFn i f).returned = s.returned := (rfl)
@[simp] theorem State.modFn_placedQ : (s.modFn i f).placedQ = s.placedQ := (rfl)
@[simp] theorem State.modFn_pending : (s.modFn i f).pending = s.pending := (rfl)
@[simp] theorem State.modFn_site (j : Nat) : (s.modFn i f).site j = s.site j := (rfl)
@[simp] theorem State.modFn_queue (j : Nat) : (s.modFn i f).queue j = s.queue j := (rfl)
@[simp] theorem State.modFn_hbm (j : Nat) : (s.modFn i f).hbm j = s.hbm j := (rfl)
@[simp] theorem State.modFn_cal (j : Nat) : (s.modFn i f).cal j = s.cal j := (rfl)
@[simp] theorem State.modFn_clu (j : Nat) : (s.modFn i f).clu j = s.clu j := (rfl)
@[simp] theorem State.modFn_rgn (j : Nat) : (s.modFn i f).rgn j = s.rgn j := (rfl)
@[simp] theorem State.modFn_fcu (j : Nat) : (s.modFn i f).fcu j = s.fcu j := (rfl)
@[simp] theorem State.modFn_madc (j : Nat) : (s.modFn i f).madc j = s.madc j := (rfl)
@[simp] theorem State.modFn_acq (j : Nat) : (s.modFn i f).acq j = s.acq j := (rfl)
@[simp] theorem State.modFn_hist (j : Nat) : (s.modFn i f).hist j = s.hist j := (rfl)
@[simp] theorem State.modFn_chan (j : Nat) : (s.modFn i f).chan j = s.chan j := (rfl)
@[simp] theorem State.modFn_te (j : Nat) : (s.modFn i f).te j = s.te j := (rfl)
@[simp] theorem State.modFn_fault (j : Nat) : (s.modFn i f).fault j = s.fault j := (rfl)
@[simp] theorem State.modFn_trigIn (j : Nat) : (s.modFn i f).trigIn j = s.trigIn j := (rfl)
@[simp] theorem State.modFn_trigOut (j : Nat) : (s.modFn i f).trigOut j = s.trigOut j := (rfl)
@[simp] theorem State.modFn_secSite (j : Nat) : (s.modFn i f).secSite j = s.secSite j := (rfl)
@[simp] theorem State.modFn_freeVal : (s.modFn i f).freeVal = s.freeVal := (rfl)
@[simp] theorem State.modFn_now : (s.modFn i f).now = s.now := (rfl)
@[simp] theorem State.modFn_up : (s.modFn i f).up = s.up := (rfl)
@[simp] theorem State.modFn_hdr (a b : Nat) : (s.modFn i f).hdr a b = s.hdr a b := (rfl)
/-- Reading a unit after an update. -/
@[simp] theorem State.modFn_fn (j : Nat) : (s.modFn i f).fn j = if j = i then f (s.fn j) else s.fn j :=
  Tbl.get_upd ..
end

/-! modSite -/
section
variable (s : State) (i : Nat) (f : Site → Site)
@[simp] theorem State.modSite_grade08 : (s.modSite i f).grade08 = s.grade08 := (rfl)
@[simp] theorem State.modSite_bifur : (s.modSite i f).bifur = s.bifur := (rfl)
@[simp] theorem State.modSite_smbAddr : (s.modSite i f).smbAddr = s.smbAddr := (rfl)
@[simp] theorem State.modSite_root : (s.modSite i f).root = s.root := (rfl)
@[simp] theorem State.modSite_uptime : (s.modSite i f).uptime = s.uptime := (rfl)
@[simp] theorem State.modSite_everLocked : (s.modSite i f).everLocked = s.everLocked := (rfl)
@[simp] theorem State.modSite_stage : (s.modSite i f).stage = s.stage := (rfl)
@[simp] theorem State.modSite_link0 : (s.modSite i f).link0 = s.link0 := (rfl)
@[simp] theorem State.modSite_link1 : (s.modSite i f).link1 = s.link1 := (rfl)
@[simp] theorem State.modSite_pwr : (s.modSite i f).pwr = s.pwr := (rfl)
@[simp] theorem State.modSite_glb : (s.modSite i f).glb = s.glb := (rfl)
@[simp] theorem State.modSite_clk : (s.modSite i f).clk = s.clk := (rfl)
@[simp] theorem State.modSite_sync : (s.modSite i f).sync = s.sync := (rfl)
@[simp] theorem State.modSite_sec : (s.modSite i f).sec = s.sec := (rfl)
@[simp] theorem State.modSite_hdrs : (s.modSite i f).hdrs = s.hdrs := (rfl)
@[simp] theorem State.modSite_fns : (s.modSite i f).fns = s.fns := (rfl)
@[simp] theorem State.modSite_queues : (s.modSite i f).queues = s.queues := (rfl)
@[simp] theorem State.modSite_qmgr : (s.modSite i f).qmgr = s.qmgr := (rfl)
@[simp] theorem State.modSite_bmem : (s.modSite i f).bmem = s.bmem := (rfl)
@[simp] theorem State.modSite_hbms : (s.modSite i f).hbms = s.hbms := (rfl)
@[simp] theorem State.modSite_err : (s.modSite i f).err = s.err := (rfl)
@[simp] theorem State.modSite_hlth : (s.modSite i f).hlth = s.hlth := (rfl)
@[simp] theorem State.modSite_cals : (s.modSite i f).cals = s.cals := (rfl)
@[simp] theorem State.modSite_clus : (s.modSite i f).clus = s.clus := (rfl)
@[simp] theorem State.modSite_rgns : (s.modSite i f).rgns = s.rgns := (rfl)
@[simp] theorem State.modSite_fcus : (s.modSite i f).fcus = s.fcus := (rfl)
@[simp] theorem State.modSite_madcs : (s.modSite i f).madcs = s.madcs := (rfl)
@[simp] theorem State.modSite_acqs : (s.modSite i f).acqs = s.acqs := (rfl)
@[simp] theorem State.modSite_hists : (s.modSite i f).hists = s.hists := (rfl)
@[simp] theorem State.modSite_chans : (s.modSite i f).chans = s.chans := (rfl)
@[simp] theorem State.modSite_tes : (s.modSite i f).tes = s.tes := (rfl)
@[simp] theorem State.modSite_mem : (s.modSite i f).mem = s.mem := (rfl)
@[simp] theorem State.modSite_ctext : (s.modSite i f).ctext = s.ctext := (rfl)
@[simp] theorem State.modSite_hbmHolder : (s.modSite i f).hbmHolder = s.hbmHolder := (rfl)
@[simp] theorem State.modSite_bankHolder : (s.modSite i f).bankHolder = s.bankHolder := (rfl)
@[simp] theorem State.modSite_nor : (s.modSite i f).nor = s.nor := (rfl)
@[simp] theorem State.modSite_otp : (s.modSite i f).otp = s.otp := (rfl)
@[simp] theorem State.modSite_faults : (s.modSite i f).faults = s.faults := (rfl)
@[simp] theorem State.modSite_smb : (s.modSite i f).smb = s.smb := (rfl)
@[simp] theorem State.modSite_jtag : (s.modSite i f).jtag = s.jtag := (rfl)
@[simp] theorem State.modSite_outs : (s.modSite i f).outs = s.outs := (rfl)
@[simp] theorem State.modSite_free : (s.modSite i f).free = s.free := (rfl)
@[simp] theorem State.modSite_pcache : (s.modSite i f).pcache = s.pcache := (rfl)
@[simp] theorem State.modSite_micro : (s.modSite i f).micro = s.micro := (rfl)
@[simp] theorem State.modSite_stores : (s.modSite i f).stores = s.stores := (rfl)
@[simp] theorem State.modSite_returned : (s.modSite i f).returned = s.returned := (rfl)
@[simp] theorem State.modSite_placedQ : (s.modSite i f).placedQ = s.placedQ := (rfl)
@[simp] theorem State.modSite_pending : (s.modSite i f).pending = s.pending := (rfl)
@[simp] theorem State.modSite_fn (j : Nat) : (s.modSite i f).fn j = s.fn j := (rfl)
@[simp] theorem State.modSite_queue (j : Nat) : (s.modSite i f).queue j = s.queue j := (rfl)
@[simp] theorem State.modSite_hbm (j : Nat) : (s.modSite i f).hbm j = s.hbm j := (rfl)
@[simp] theorem State.modSite_cal (j : Nat) : (s.modSite i f).cal j = s.cal j := (rfl)
@[simp] theorem State.modSite_clu (j : Nat) : (s.modSite i f).clu j = s.clu j := (rfl)
@[simp] theorem State.modSite_rgn (j : Nat) : (s.modSite i f).rgn j = s.rgn j := (rfl)
@[simp] theorem State.modSite_fcu (j : Nat) : (s.modSite i f).fcu j = s.fcu j := (rfl)
@[simp] theorem State.modSite_madc (j : Nat) : (s.modSite i f).madc j = s.madc j := (rfl)
@[simp] theorem State.modSite_acq (j : Nat) : (s.modSite i f).acq j = s.acq j := (rfl)
@[simp] theorem State.modSite_hist (j : Nat) : (s.modSite i f).hist j = s.hist j := (rfl)
@[simp] theorem State.modSite_chan (j : Nat) : (s.modSite i f).chan j = s.chan j := (rfl)
@[simp] theorem State.modSite_te (j : Nat) : (s.modSite i f).te j = s.te j := (rfl)
@[simp] theorem State.modSite_fault (j : Nat) : (s.modSite i f).fault j = s.fault j := (rfl)
@[simp] theorem State.modSite_trigIn (j : Nat) : (s.modSite i f).trigIn j = s.trigIn j := (rfl)
@[simp] theorem State.modSite_trigOut (j : Nat) : (s.modSite i f).trigOut j = s.trigOut j := (rfl)
@[simp] theorem State.modSite_secSite (j : Nat) : (s.modSite i f).secSite j = s.secSite j := (rfl)
@[simp] theorem State.modSite_freeVal : (s.modSite i f).freeVal = s.freeVal := (rfl)
@[simp] theorem State.modSite_now : (s.modSite i f).now = s.now := (rfl)
@[simp] theorem State.modSite_up : (s.modSite i f).up = s.up := (rfl)
@[simp] theorem State.modSite_hdr (a b : Nat) : (s.modSite i f).hdr a b = s.hdr a b := (rfl)
/-- Reading a unit after an update. -/
@[simp] theorem State.modSite_site (j : Nat) : (s.modSite i f).site j = if j = i then f (s.site j) else s.site j :=
  Tbl.get_upd ..
end

/-! modQueue -/
section
variable (s : State) (i : Nat) (f : QDesc → QDesc)
@[simp] theorem State.modQueue_grade08 : (s.modQueue i f).grade08 = s.grade08 := (rfl)
@[simp] theorem State.modQueue_bifur : (s.modQueue i f).bifur = s.bifur := (rfl)
@[simp] theorem State.modQueue_smbAddr : (s.modQueue i f).smbAddr = s.smbAddr := (rfl)
@[simp] theorem State.modQueue_root : (s.modQueue i f).root = s.root := (rfl)
@[simp] theorem State.modQueue_uptime : (s.modQueue i f).uptime = s.uptime := (rfl)
@[simp] theorem State.modQueue_everLocked : (s.modQueue i f).everLocked = s.everLocked := (rfl)
@[simp] theorem State.modQueue_stage : (s.modQueue i f).stage = s.stage := (rfl)
@[simp] theorem State.modQueue_link0 : (s.modQueue i f).link0 = s.link0 := (rfl)
@[simp] theorem State.modQueue_link1 : (s.modQueue i f).link1 = s.link1 := (rfl)
@[simp] theorem State.modQueue_pwr : (s.modQueue i f).pwr = s.pwr := (rfl)
@[simp] theorem State.modQueue_glb : (s.modQueue i f).glb = s.glb := (rfl)
@[simp] theorem State.modQueue_clk : (s.modQueue i f).clk = s.clk := (rfl)
@[simp] theorem State.modQueue_sync : (s.modQueue i f).sync = s.sync := (rfl)
@[simp] theorem State.modQueue_sec : (s.modQueue i f).sec = s.sec := (rfl)
@[simp] theorem State.modQueue_hdrs : (s.modQueue i f).hdrs = s.hdrs := (rfl)
@[simp] theorem State.modQueue_fns : (s.modQueue i f).fns = s.fns := (rfl)
@[simp] theorem State.modQueue_sites : (s.modQueue i f).sites = s.sites := (rfl)
@[simp] theorem State.modQueue_qmgr : (s.modQueue i f).qmgr = s.qmgr := (rfl)
@[simp] theorem State.modQueue_bmem : (s.modQueue i f).bmem = s.bmem := (rfl)
@[simp] theorem State.modQueue_hbms : (s.modQueue i f).hbms = s.hbms := (rfl)
@[simp] theorem State.modQueue_err : (s.modQueue i f).err = s.err := (rfl)
@[simp] theorem State.modQueue_hlth : (s.modQueue i f).hlth = s.hlth := (rfl)
@[simp] theorem State.modQueue_cals : (s.modQueue i f).cals = s.cals := (rfl)
@[simp] theorem State.modQueue_clus : (s.modQueue i f).clus = s.clus := (rfl)
@[simp] theorem State.modQueue_rgns : (s.modQueue i f).rgns = s.rgns := (rfl)
@[simp] theorem State.modQueue_fcus : (s.modQueue i f).fcus = s.fcus := (rfl)
@[simp] theorem State.modQueue_madcs : (s.modQueue i f).madcs = s.madcs := (rfl)
@[simp] theorem State.modQueue_acqs : (s.modQueue i f).acqs = s.acqs := (rfl)
@[simp] theorem State.modQueue_hists : (s.modQueue i f).hists = s.hists := (rfl)
@[simp] theorem State.modQueue_chans : (s.modQueue i f).chans = s.chans := (rfl)
@[simp] theorem State.modQueue_tes : (s.modQueue i f).tes = s.tes := (rfl)
@[simp] theorem State.modQueue_mem : (s.modQueue i f).mem = s.mem := (rfl)
@[simp] theorem State.modQueue_ctext : (s.modQueue i f).ctext = s.ctext := (rfl)
@[simp] theorem State.modQueue_hbmHolder : (s.modQueue i f).hbmHolder = s.hbmHolder := (rfl)
@[simp] theorem State.modQueue_bankHolder : (s.modQueue i f).bankHolder = s.bankHolder := (rfl)
@[simp] theorem State.modQueue_nor : (s.modQueue i f).nor = s.nor := (rfl)
@[simp] theorem State.modQueue_otp : (s.modQueue i f).otp = s.otp := (rfl)
@[simp] theorem State.modQueue_faults : (s.modQueue i f).faults = s.faults := (rfl)
@[simp] theorem State.modQueue_smb : (s.modQueue i f).smb = s.smb := (rfl)
@[simp] theorem State.modQueue_jtag : (s.modQueue i f).jtag = s.jtag := (rfl)
@[simp] theorem State.modQueue_outs : (s.modQueue i f).outs = s.outs := (rfl)
@[simp] theorem State.modQueue_free : (s.modQueue i f).free = s.free := (rfl)
@[simp] theorem State.modQueue_pcache : (s.modQueue i f).pcache = s.pcache := (rfl)
@[simp] theorem State.modQueue_micro : (s.modQueue i f).micro = s.micro := (rfl)
@[simp] theorem State.modQueue_stores : (s.modQueue i f).stores = s.stores := (rfl)
@[simp] theorem State.modQueue_returned : (s.modQueue i f).returned = s.returned := (rfl)
@[simp] theorem State.modQueue_placedQ : (s.modQueue i f).placedQ = s.placedQ := (rfl)
@[simp] theorem State.modQueue_pending : (s.modQueue i f).pending = s.pending := (rfl)
@[simp] theorem State.modQueue_fn (j : Nat) : (s.modQueue i f).fn j = s.fn j := (rfl)
@[simp] theorem State.modQueue_site (j : Nat) : (s.modQueue i f).site j = s.site j := (rfl)
@[simp] theorem State.modQueue_hbm (j : Nat) : (s.modQueue i f).hbm j = s.hbm j := (rfl)
@[simp] theorem State.modQueue_cal (j : Nat) : (s.modQueue i f).cal j = s.cal j := (rfl)
@[simp] theorem State.modQueue_clu (j : Nat) : (s.modQueue i f).clu j = s.clu j := (rfl)
@[simp] theorem State.modQueue_rgn (j : Nat) : (s.modQueue i f).rgn j = s.rgn j := (rfl)
@[simp] theorem State.modQueue_fcu (j : Nat) : (s.modQueue i f).fcu j = s.fcu j := (rfl)
@[simp] theorem State.modQueue_madc (j : Nat) : (s.modQueue i f).madc j = s.madc j := (rfl)
@[simp] theorem State.modQueue_acq (j : Nat) : (s.modQueue i f).acq j = s.acq j := (rfl)
@[simp] theorem State.modQueue_hist (j : Nat) : (s.modQueue i f).hist j = s.hist j := (rfl)
@[simp] theorem State.modQueue_chan (j : Nat) : (s.modQueue i f).chan j = s.chan j := (rfl)
@[simp] theorem State.modQueue_te (j : Nat) : (s.modQueue i f).te j = s.te j := (rfl)
@[simp] theorem State.modQueue_fault (j : Nat) : (s.modQueue i f).fault j = s.fault j := (rfl)
@[simp] theorem State.modQueue_trigIn (j : Nat) : (s.modQueue i f).trigIn j = s.trigIn j := (rfl)
@[simp] theorem State.modQueue_trigOut (j : Nat) : (s.modQueue i f).trigOut j = s.trigOut j := (rfl)
@[simp] theorem State.modQueue_secSite (j : Nat) : (s.modQueue i f).secSite j = s.secSite j := (rfl)
@[simp] theorem State.modQueue_freeVal : (s.modQueue i f).freeVal = s.freeVal := (rfl)
@[simp] theorem State.modQueue_now : (s.modQueue i f).now = s.now := (rfl)
@[simp] theorem State.modQueue_up : (s.modQueue i f).up = s.up := (rfl)
@[simp] theorem State.modQueue_hdr (a b : Nat) : (s.modQueue i f).hdr a b = s.hdr a b := (rfl)
/-- Reading a unit after an update. -/
@[simp] theorem State.modQueue_queue (j : Nat) : (s.modQueue i f).queue j = if j = i then f (s.queue j) else s.queue j :=
  Tbl.get_upd ..
end

/-! modHbm -/
section
variable (s : State) (i : Nat) (f : Hbm → Hbm)
@[simp] theorem State.modHbm_grade08 : (s.modHbm i f).grade08 = s.grade08 := (rfl)
@[simp] theorem State.modHbm_bifur : (s.modHbm i f).bifur = s.bifur := (rfl)
@[simp] theorem State.modHbm_smbAddr : (s.modHbm i f).smbAddr = s.smbAddr := (rfl)
@[simp] theorem State.modHbm_root : (s.modHbm i f).root = s.root := (rfl)
@[simp] theorem State.modHbm_uptime : (s.modHbm i f).uptime = s.uptime := (rfl)
@[simp] theorem State.modHbm_everLocked : (s.modHbm i f).everLocked = s.everLocked := (rfl)
@[simp] theorem State.modHbm_stage : (s.modHbm i f).stage = s.stage := (rfl)
@[simp] theorem State.modHbm_link0 : (s.modHbm i f).link0 = s.link0 := (rfl)
@[simp] theorem State.modHbm_link1 : (s.modHbm i f).link1 = s.link1 := (rfl)
@[simp] theorem State.modHbm_pwr : (s.modHbm i f).pwr = s.pwr := (rfl)
@[simp] theorem State.modHbm_glb : (s.modHbm i f).glb = s.glb := (rfl)
@[simp] theorem State.modHbm_clk : (s.modHbm i f).clk = s.clk := (rfl)
@[simp] theorem State.modHbm_sync : (s.modHbm i f).sync = s.sync := (rfl)
@[simp] theorem State.modHbm_sec : (s.modHbm i f).sec = s.sec := (rfl)
@[simp] theorem State.modHbm_hdrs : (s.modHbm i f).hdrs = s.hdrs := (rfl)
@[simp] theorem State.modHbm_fns : (s.modHbm i f).fns = s.fns := (rfl)
@[simp] theorem State.modHbm_sites : (s.modHbm i f).sites = s.sites := (rfl)
@[simp] theorem State.modHbm_queues : (s.modHbm i f).queues = s.queues := (rfl)
@[simp] theorem State.modHbm_qmgr : (s.modHbm i f).qmgr = s.qmgr := (rfl)
@[simp] theorem State.modHbm_bmem : (s.modHbm i f).bmem = s.bmem := (rfl)
@[simp] theorem State.modHbm_err : (s.modHbm i f).err = s.err := (rfl)
@[simp] theorem State.modHbm_hlth : (s.modHbm i f).hlth = s.hlth := (rfl)
@[simp] theorem State.modHbm_cals : (s.modHbm i f).cals = s.cals := (rfl)
@[simp] theorem State.modHbm_clus : (s.modHbm i f).clus = s.clus := (rfl)
@[simp] theorem State.modHbm_rgns : (s.modHbm i f).rgns = s.rgns := (rfl)
@[simp] theorem State.modHbm_fcus : (s.modHbm i f).fcus = s.fcus := (rfl)
@[simp] theorem State.modHbm_madcs : (s.modHbm i f).madcs = s.madcs := (rfl)
@[simp] theorem State.modHbm_acqs : (s.modHbm i f).acqs = s.acqs := (rfl)
@[simp] theorem State.modHbm_hists : (s.modHbm i f).hists = s.hists := (rfl)
@[simp] theorem State.modHbm_chans : (s.modHbm i f).chans = s.chans := (rfl)
@[simp] theorem State.modHbm_tes : (s.modHbm i f).tes = s.tes := (rfl)
@[simp] theorem State.modHbm_mem : (s.modHbm i f).mem = s.mem := (rfl)
@[simp] theorem State.modHbm_ctext : (s.modHbm i f).ctext = s.ctext := (rfl)
@[simp] theorem State.modHbm_hbmHolder : (s.modHbm i f).hbmHolder = s.hbmHolder := (rfl)
@[simp] theorem State.modHbm_bankHolder : (s.modHbm i f).bankHolder = s.bankHolder := (rfl)
@[simp] theorem State.modHbm_nor : (s.modHbm i f).nor = s.nor := (rfl)
@[simp] theorem State.modHbm_otp : (s.modHbm i f).otp = s.otp := (rfl)
@[simp] theorem State.modHbm_faults : (s.modHbm i f).faults = s.faults := (rfl)
@[simp] theorem State.modHbm_smb : (s.modHbm i f).smb = s.smb := (rfl)
@[simp] theorem State.modHbm_jtag : (s.modHbm i f).jtag = s.jtag := (rfl)
@[simp] theorem State.modHbm_outs : (s.modHbm i f).outs = s.outs := (rfl)
@[simp] theorem State.modHbm_free : (s.modHbm i f).free = s.free := (rfl)
@[simp] theorem State.modHbm_pcache : (s.modHbm i f).pcache = s.pcache := (rfl)
@[simp] theorem State.modHbm_micro : (s.modHbm i f).micro = s.micro := (rfl)
@[simp] theorem State.modHbm_stores : (s.modHbm i f).stores = s.stores := (rfl)
@[simp] theorem State.modHbm_returned : (s.modHbm i f).returned = s.returned := (rfl)
@[simp] theorem State.modHbm_placedQ : (s.modHbm i f).placedQ = s.placedQ := (rfl)
@[simp] theorem State.modHbm_pending : (s.modHbm i f).pending = s.pending := (rfl)
@[simp] theorem State.modHbm_fn (j : Nat) : (s.modHbm i f).fn j = s.fn j := (rfl)
@[simp] theorem State.modHbm_site (j : Nat) : (s.modHbm i f).site j = s.site j := (rfl)
@[simp] theorem State.modHbm_queue (j : Nat) : (s.modHbm i f).queue j = s.queue j := (rfl)
@[simp] theorem State.modHbm_cal (j : Nat) : (s.modHbm i f).cal j = s.cal j := (rfl)
@[simp] theorem State.modHbm_clu (j : Nat) : (s.modHbm i f).clu j = s.clu j := (rfl)
@[simp] theorem State.modHbm_rgn (j : Nat) : (s.modHbm i f).rgn j = s.rgn j := (rfl)
@[simp] theorem State.modHbm_fcu (j : Nat) : (s.modHbm i f).fcu j = s.fcu j := (rfl)
@[simp] theorem State.modHbm_madc (j : Nat) : (s.modHbm i f).madc j = s.madc j := (rfl)
@[simp] theorem State.modHbm_acq (j : Nat) : (s.modHbm i f).acq j = s.acq j := (rfl)
@[simp] theorem State.modHbm_hist (j : Nat) : (s.modHbm i f).hist j = s.hist j := (rfl)
@[simp] theorem State.modHbm_chan (j : Nat) : (s.modHbm i f).chan j = s.chan j := (rfl)
@[simp] theorem State.modHbm_te (j : Nat) : (s.modHbm i f).te j = s.te j := (rfl)
@[simp] theorem State.modHbm_fault (j : Nat) : (s.modHbm i f).fault j = s.fault j := (rfl)
@[simp] theorem State.modHbm_trigIn (j : Nat) : (s.modHbm i f).trigIn j = s.trigIn j := (rfl)
@[simp] theorem State.modHbm_trigOut (j : Nat) : (s.modHbm i f).trigOut j = s.trigOut j := (rfl)
@[simp] theorem State.modHbm_secSite (j : Nat) : (s.modHbm i f).secSite j = s.secSite j := (rfl)
@[simp] theorem State.modHbm_freeVal : (s.modHbm i f).freeVal = s.freeVal := (rfl)
@[simp] theorem State.modHbm_now : (s.modHbm i f).now = s.now := (rfl)
@[simp] theorem State.modHbm_up : (s.modHbm i f).up = s.up := (rfl)
@[simp] theorem State.modHbm_hdr (a b : Nat) : (s.modHbm i f).hdr a b = s.hdr a b := (rfl)
/-- Reading a unit after an update. -/
@[simp] theorem State.modHbm_hbm (j : Nat) : (s.modHbm i f).hbm j = if j = i then f (s.hbm j) else s.hbm j :=
  Tbl.get_upd ..
end

/-! modCal -/
section
variable (s : State) (i : Nat) (f : Cal → Cal)
@[simp] theorem State.modCal_grade08 : (s.modCal i f).grade08 = s.grade08 := (rfl)
@[simp] theorem State.modCal_bifur : (s.modCal i f).bifur = s.bifur := (rfl)
@[simp] theorem State.modCal_smbAddr : (s.modCal i f).smbAddr = s.smbAddr := (rfl)
@[simp] theorem State.modCal_root : (s.modCal i f).root = s.root := (rfl)
@[simp] theorem State.modCal_uptime : (s.modCal i f).uptime = s.uptime := (rfl)
@[simp] theorem State.modCal_everLocked : (s.modCal i f).everLocked = s.everLocked := (rfl)
@[simp] theorem State.modCal_stage : (s.modCal i f).stage = s.stage := (rfl)
@[simp] theorem State.modCal_link0 : (s.modCal i f).link0 = s.link0 := (rfl)
@[simp] theorem State.modCal_link1 : (s.modCal i f).link1 = s.link1 := (rfl)
@[simp] theorem State.modCal_pwr : (s.modCal i f).pwr = s.pwr := (rfl)
@[simp] theorem State.modCal_glb : (s.modCal i f).glb = s.glb := (rfl)
@[simp] theorem State.modCal_clk : (s.modCal i f).clk = s.clk := (rfl)
@[simp] theorem State.modCal_sync : (s.modCal i f).sync = s.sync := (rfl)
@[simp] theorem State.modCal_sec : (s.modCal i f).sec = s.sec := (rfl)
@[simp] theorem State.modCal_hdrs : (s.modCal i f).hdrs = s.hdrs := (rfl)
@[simp] theorem State.modCal_fns : (s.modCal i f).fns = s.fns := (rfl)
@[simp] theorem State.modCal_sites : (s.modCal i f).sites = s.sites := (rfl)
@[simp] theorem State.modCal_queues : (s.modCal i f).queues = s.queues := (rfl)
@[simp] theorem State.modCal_qmgr : (s.modCal i f).qmgr = s.qmgr := (rfl)
@[simp] theorem State.modCal_bmem : (s.modCal i f).bmem = s.bmem := (rfl)
@[simp] theorem State.modCal_hbms : (s.modCal i f).hbms = s.hbms := (rfl)
@[simp] theorem State.modCal_err : (s.modCal i f).err = s.err := (rfl)
@[simp] theorem State.modCal_hlth : (s.modCal i f).hlth = s.hlth := (rfl)
@[simp] theorem State.modCal_clus : (s.modCal i f).clus = s.clus := (rfl)
@[simp] theorem State.modCal_rgns : (s.modCal i f).rgns = s.rgns := (rfl)
@[simp] theorem State.modCal_fcus : (s.modCal i f).fcus = s.fcus := (rfl)
@[simp] theorem State.modCal_madcs : (s.modCal i f).madcs = s.madcs := (rfl)
@[simp] theorem State.modCal_acqs : (s.modCal i f).acqs = s.acqs := (rfl)
@[simp] theorem State.modCal_hists : (s.modCal i f).hists = s.hists := (rfl)
@[simp] theorem State.modCal_chans : (s.modCal i f).chans = s.chans := (rfl)
@[simp] theorem State.modCal_tes : (s.modCal i f).tes = s.tes := (rfl)
@[simp] theorem State.modCal_mem : (s.modCal i f).mem = s.mem := (rfl)
@[simp] theorem State.modCal_ctext : (s.modCal i f).ctext = s.ctext := (rfl)
@[simp] theorem State.modCal_hbmHolder : (s.modCal i f).hbmHolder = s.hbmHolder := (rfl)
@[simp] theorem State.modCal_bankHolder : (s.modCal i f).bankHolder = s.bankHolder := (rfl)
@[simp] theorem State.modCal_nor : (s.modCal i f).nor = s.nor := (rfl)
@[simp] theorem State.modCal_otp : (s.modCal i f).otp = s.otp := (rfl)
@[simp] theorem State.modCal_faults : (s.modCal i f).faults = s.faults := (rfl)
@[simp] theorem State.modCal_smb : (s.modCal i f).smb = s.smb := (rfl)
@[simp] theorem State.modCal_jtag : (s.modCal i f).jtag = s.jtag := (rfl)
@[simp] theorem State.modCal_outs : (s.modCal i f).outs = s.outs := (rfl)
@[simp] theorem State.modCal_free : (s.modCal i f).free = s.free := (rfl)
@[simp] theorem State.modCal_pcache : (s.modCal i f).pcache = s.pcache := (rfl)
@[simp] theorem State.modCal_micro : (s.modCal i f).micro = s.micro := (rfl)
@[simp] theorem State.modCal_stores : (s.modCal i f).stores = s.stores := (rfl)
@[simp] theorem State.modCal_returned : (s.modCal i f).returned = s.returned := (rfl)
@[simp] theorem State.modCal_placedQ : (s.modCal i f).placedQ = s.placedQ := (rfl)
@[simp] theorem State.modCal_pending : (s.modCal i f).pending = s.pending := (rfl)
@[simp] theorem State.modCal_fn (j : Nat) : (s.modCal i f).fn j = s.fn j := (rfl)
@[simp] theorem State.modCal_site (j : Nat) : (s.modCal i f).site j = s.site j := (rfl)
@[simp] theorem State.modCal_queue (j : Nat) : (s.modCal i f).queue j = s.queue j := (rfl)
@[simp] theorem State.modCal_hbm (j : Nat) : (s.modCal i f).hbm j = s.hbm j := (rfl)
@[simp] theorem State.modCal_clu (j : Nat) : (s.modCal i f).clu j = s.clu j := (rfl)
@[simp] theorem State.modCal_rgn (j : Nat) : (s.modCal i f).rgn j = s.rgn j := (rfl)
@[simp] theorem State.modCal_fcu (j : Nat) : (s.modCal i f).fcu j = s.fcu j := (rfl)
@[simp] theorem State.modCal_madc (j : Nat) : (s.modCal i f).madc j = s.madc j := (rfl)
@[simp] theorem State.modCal_acq (j : Nat) : (s.modCal i f).acq j = s.acq j := (rfl)
@[simp] theorem State.modCal_hist (j : Nat) : (s.modCal i f).hist j = s.hist j := (rfl)
@[simp] theorem State.modCal_chan (j : Nat) : (s.modCal i f).chan j = s.chan j := (rfl)
@[simp] theorem State.modCal_te (j : Nat) : (s.modCal i f).te j = s.te j := (rfl)
@[simp] theorem State.modCal_fault (j : Nat) : (s.modCal i f).fault j = s.fault j := (rfl)
@[simp] theorem State.modCal_trigIn (j : Nat) : (s.modCal i f).trigIn j = s.trigIn j := (rfl)
@[simp] theorem State.modCal_trigOut (j : Nat) : (s.modCal i f).trigOut j = s.trigOut j := (rfl)
@[simp] theorem State.modCal_secSite (j : Nat) : (s.modCal i f).secSite j = s.secSite j := (rfl)
@[simp] theorem State.modCal_freeVal : (s.modCal i f).freeVal = s.freeVal := (rfl)
@[simp] theorem State.modCal_now : (s.modCal i f).now = s.now := (rfl)
@[simp] theorem State.modCal_up : (s.modCal i f).up = s.up := (rfl)
@[simp] theorem State.modCal_hdr (a b : Nat) : (s.modCal i f).hdr a b = s.hdr a b := (rfl)
/-- Reading a unit after an update. -/
@[simp] theorem State.modCal_cal (j : Nat) : (s.modCal i f).cal j = if j = i then f (s.cal j) else s.cal j :=
  Tbl.get_upd ..
end

/-! modClu -/
section
variable (s : State) (i : Nat) (f : Clu → Clu)
@[simp] theorem State.modClu_grade08 : (s.modClu i f).grade08 = s.grade08 := (rfl)
@[simp] theorem State.modClu_bifur : (s.modClu i f).bifur = s.bifur := (rfl)
@[simp] theorem State.modClu_smbAddr : (s.modClu i f).smbAddr = s.smbAddr := (rfl)
@[simp] theorem State.modClu_root : (s.modClu i f).root = s.root := (rfl)
@[simp] theorem State.modClu_uptime : (s.modClu i f).uptime = s.uptime := (rfl)
@[simp] theorem State.modClu_everLocked : (s.modClu i f).everLocked = s.everLocked := (rfl)
@[simp] theorem State.modClu_stage : (s.modClu i f).stage = s.stage := (rfl)
@[simp] theorem State.modClu_link0 : (s.modClu i f).link0 = s.link0 := (rfl)
@[simp] theorem State.modClu_link1 : (s.modClu i f).link1 = s.link1 := (rfl)
@[simp] theorem State.modClu_pwr : (s.modClu i f).pwr = s.pwr := (rfl)
@[simp] theorem State.modClu_glb : (s.modClu i f).glb = s.glb := (rfl)
@[simp] theorem State.modClu_clk : (s.modClu i f).clk = s.clk := (rfl)
@[simp] theorem State.modClu_sync : (s.modClu i f).sync = s.sync := (rfl)
@[simp] theorem State.modClu_sec : (s.modClu i f).sec = s.sec := (rfl)
@[simp] theorem State.modClu_hdrs : (s.modClu i f).hdrs = s.hdrs := (rfl)
@[simp] theorem State.modClu_fns : (s.modClu i f).fns = s.fns := (rfl)
@[simp] theorem State.modClu_sites : (s.modClu i f).sites = s.sites := (rfl)
@[simp] theorem State.modClu_queues : (s.modClu i f).queues = s.queues := (rfl)
@[simp] theorem State.modClu_qmgr : (s.modClu i f).qmgr = s.qmgr := (rfl)
@[simp] theorem State.modClu_bmem : (s.modClu i f).bmem = s.bmem := (rfl)
@[simp] theorem State.modClu_hbms : (s.modClu i f).hbms = s.hbms := (rfl)
@[simp] theorem State.modClu_err : (s.modClu i f).err = s.err := (rfl)
@[simp] theorem State.modClu_hlth : (s.modClu i f).hlth = s.hlth := (rfl)
@[simp] theorem State.modClu_cals : (s.modClu i f).cals = s.cals := (rfl)
@[simp] theorem State.modClu_rgns : (s.modClu i f).rgns = s.rgns := (rfl)
@[simp] theorem State.modClu_fcus : (s.modClu i f).fcus = s.fcus := (rfl)
@[simp] theorem State.modClu_madcs : (s.modClu i f).madcs = s.madcs := (rfl)
@[simp] theorem State.modClu_acqs : (s.modClu i f).acqs = s.acqs := (rfl)
@[simp] theorem State.modClu_hists : (s.modClu i f).hists = s.hists := (rfl)
@[simp] theorem State.modClu_chans : (s.modClu i f).chans = s.chans := (rfl)
@[simp] theorem State.modClu_tes : (s.modClu i f).tes = s.tes := (rfl)
@[simp] theorem State.modClu_mem : (s.modClu i f).mem = s.mem := (rfl)
@[simp] theorem State.modClu_ctext : (s.modClu i f).ctext = s.ctext := (rfl)
@[simp] theorem State.modClu_hbmHolder : (s.modClu i f).hbmHolder = s.hbmHolder := (rfl)
@[simp] theorem State.modClu_bankHolder : (s.modClu i f).bankHolder = s.bankHolder := (rfl)
@[simp] theorem State.modClu_nor : (s.modClu i f).nor = s.nor := (rfl)
@[simp] theorem State.modClu_otp : (s.modClu i f).otp = s.otp := (rfl)
@[simp] theorem State.modClu_faults : (s.modClu i f).faults = s.faults := (rfl)
@[simp] theorem State.modClu_smb : (s.modClu i f).smb = s.smb := (rfl)
@[simp] theorem State.modClu_jtag : (s.modClu i f).jtag = s.jtag := (rfl)
@[simp] theorem State.modClu_outs : (s.modClu i f).outs = s.outs := (rfl)
@[simp] theorem State.modClu_free : (s.modClu i f).free = s.free := (rfl)
@[simp] theorem State.modClu_pcache : (s.modClu i f).pcache = s.pcache := (rfl)
@[simp] theorem State.modClu_micro : (s.modClu i f).micro = s.micro := (rfl)
@[simp] theorem State.modClu_stores : (s.modClu i f).stores = s.stores := (rfl)
@[simp] theorem State.modClu_returned : (s.modClu i f).returned = s.returned := (rfl)
@[simp] theorem State.modClu_placedQ : (s.modClu i f).placedQ = s.placedQ := (rfl)
@[simp] theorem State.modClu_pending : (s.modClu i f).pending = s.pending := (rfl)
@[simp] theorem State.modClu_fn (j : Nat) : (s.modClu i f).fn j = s.fn j := (rfl)
@[simp] theorem State.modClu_site (j : Nat) : (s.modClu i f).site j = s.site j := (rfl)
@[simp] theorem State.modClu_queue (j : Nat) : (s.modClu i f).queue j = s.queue j := (rfl)
@[simp] theorem State.modClu_hbm (j : Nat) : (s.modClu i f).hbm j = s.hbm j := (rfl)
@[simp] theorem State.modClu_cal (j : Nat) : (s.modClu i f).cal j = s.cal j := (rfl)
@[simp] theorem State.modClu_rgn (j : Nat) : (s.modClu i f).rgn j = s.rgn j := (rfl)
@[simp] theorem State.modClu_fcu (j : Nat) : (s.modClu i f).fcu j = s.fcu j := (rfl)
@[simp] theorem State.modClu_madc (j : Nat) : (s.modClu i f).madc j = s.madc j := (rfl)
@[simp] theorem State.modClu_acq (j : Nat) : (s.modClu i f).acq j = s.acq j := (rfl)
@[simp] theorem State.modClu_hist (j : Nat) : (s.modClu i f).hist j = s.hist j := (rfl)
@[simp] theorem State.modClu_chan (j : Nat) : (s.modClu i f).chan j = s.chan j := (rfl)
@[simp] theorem State.modClu_te (j : Nat) : (s.modClu i f).te j = s.te j := (rfl)
@[simp] theorem State.modClu_fault (j : Nat) : (s.modClu i f).fault j = s.fault j := (rfl)
@[simp] theorem State.modClu_trigIn (j : Nat) : (s.modClu i f).trigIn j = s.trigIn j := (rfl)
@[simp] theorem State.modClu_trigOut (j : Nat) : (s.modClu i f).trigOut j = s.trigOut j := (rfl)
@[simp] theorem State.modClu_secSite (j : Nat) : (s.modClu i f).secSite j = s.secSite j := (rfl)
@[simp] theorem State.modClu_freeVal : (s.modClu i f).freeVal = s.freeVal := (rfl)
@[simp] theorem State.modClu_now : (s.modClu i f).now = s.now := (rfl)
@[simp] theorem State.modClu_up : (s.modClu i f).up = s.up := (rfl)
@[simp] theorem State.modClu_hdr (a b : Nat) : (s.modClu i f).hdr a b = s.hdr a b := (rfl)
/-- Reading a unit after an update. -/
@[simp] theorem State.modClu_clu (j : Nat) : (s.modClu i f).clu j = if j = i then f (s.clu j) else s.clu j :=
  Tbl.get_upd ..
end

/-! modRgn -/
section
variable (s : State) (i : Nat) (f : Rgn → Rgn)
@[simp] theorem State.modRgn_grade08 : (s.modRgn i f).grade08 = s.grade08 := (rfl)
@[simp] theorem State.modRgn_bifur : (s.modRgn i f).bifur = s.bifur := (rfl)
@[simp] theorem State.modRgn_smbAddr : (s.modRgn i f).smbAddr = s.smbAddr := (rfl)
@[simp] theorem State.modRgn_root : (s.modRgn i f).root = s.root := (rfl)
@[simp] theorem State.modRgn_uptime : (s.modRgn i f).uptime = s.uptime := (rfl)
@[simp] theorem State.modRgn_everLocked : (s.modRgn i f).everLocked = s.everLocked := (rfl)
@[simp] theorem State.modRgn_stage : (s.modRgn i f).stage = s.stage := (rfl)
@[simp] theorem State.modRgn_link0 : (s.modRgn i f).link0 = s.link0 := (rfl)
@[simp] theorem State.modRgn_link1 : (s.modRgn i f).link1 = s.link1 := (rfl)
@[simp] theorem State.modRgn_pwr : (s.modRgn i f).pwr = s.pwr := (rfl)
@[simp] theorem State.modRgn_glb : (s.modRgn i f).glb = s.glb := (rfl)
@[simp] theorem State.modRgn_clk : (s.modRgn i f).clk = s.clk := (rfl)
@[simp] theorem State.modRgn_sync : (s.modRgn i f).sync = s.sync := (rfl)
@[simp] theorem State.modRgn_sec : (s.modRgn i f).sec = s.sec := (rfl)
@[simp] theorem State.modRgn_hdrs : (s.modRgn i f).hdrs = s.hdrs := (rfl)
@[simp] theorem State.modRgn_fns : (s.modRgn i f).fns = s.fns := (rfl)
@[simp] theorem State.modRgn_sites : (s.modRgn i f).sites = s.sites := (rfl)
@[simp] theorem State.modRgn_queues : (s.modRgn i f).queues = s.queues := (rfl)
@[simp] theorem State.modRgn_qmgr : (s.modRgn i f).qmgr = s.qmgr := (rfl)
@[simp] theorem State.modRgn_bmem : (s.modRgn i f).bmem = s.bmem := (rfl)
@[simp] theorem State.modRgn_hbms : (s.modRgn i f).hbms = s.hbms := (rfl)
@[simp] theorem State.modRgn_err : (s.modRgn i f).err = s.err := (rfl)
@[simp] theorem State.modRgn_hlth : (s.modRgn i f).hlth = s.hlth := (rfl)
@[simp] theorem State.modRgn_cals : (s.modRgn i f).cals = s.cals := (rfl)
@[simp] theorem State.modRgn_clus : (s.modRgn i f).clus = s.clus := (rfl)
@[simp] theorem State.modRgn_fcus : (s.modRgn i f).fcus = s.fcus := (rfl)
@[simp] theorem State.modRgn_madcs : (s.modRgn i f).madcs = s.madcs := (rfl)
@[simp] theorem State.modRgn_acqs : (s.modRgn i f).acqs = s.acqs := (rfl)
@[simp] theorem State.modRgn_hists : (s.modRgn i f).hists = s.hists := (rfl)
@[simp] theorem State.modRgn_chans : (s.modRgn i f).chans = s.chans := (rfl)
@[simp] theorem State.modRgn_tes : (s.modRgn i f).tes = s.tes := (rfl)
@[simp] theorem State.modRgn_mem : (s.modRgn i f).mem = s.mem := (rfl)
@[simp] theorem State.modRgn_ctext : (s.modRgn i f).ctext = s.ctext := (rfl)
@[simp] theorem State.modRgn_hbmHolder : (s.modRgn i f).hbmHolder = s.hbmHolder := (rfl)
@[simp] theorem State.modRgn_bankHolder : (s.modRgn i f).bankHolder = s.bankHolder := (rfl)
@[simp] theorem State.modRgn_nor : (s.modRgn i f).nor = s.nor := (rfl)
@[simp] theorem State.modRgn_otp : (s.modRgn i f).otp = s.otp := (rfl)
@[simp] theorem State.modRgn_faults : (s.modRgn i f).faults = s.faults := (rfl)
@[simp] theorem State.modRgn_smb : (s.modRgn i f).smb = s.smb := (rfl)
@[simp] theorem State.modRgn_jtag : (s.modRgn i f).jtag = s.jtag := (rfl)
@[simp] theorem State.modRgn_outs : (s.modRgn i f).outs = s.outs := (rfl)
@[simp] theorem State.modRgn_free : (s.modRgn i f).free = s.free := (rfl)
@[simp] theorem State.modRgn_pcache : (s.modRgn i f).pcache = s.pcache := (rfl)
@[simp] theorem State.modRgn_micro : (s.modRgn i f).micro = s.micro := (rfl)
@[simp] theorem State.modRgn_stores : (s.modRgn i f).stores = s.stores := (rfl)
@[simp] theorem State.modRgn_returned : (s.modRgn i f).returned = s.returned := (rfl)
@[simp] theorem State.modRgn_placedQ : (s.modRgn i f).placedQ = s.placedQ := (rfl)
@[simp] theorem State.modRgn_pending : (s.modRgn i f).pending = s.pending := (rfl)
@[simp] theorem State.modRgn_fn (j : Nat) : (s.modRgn i f).fn j = s.fn j := (rfl)
@[simp] theorem State.modRgn_site (j : Nat) : (s.modRgn i f).site j = s.site j := (rfl)
@[simp] theorem State.modRgn_queue (j : Nat) : (s.modRgn i f).queue j = s.queue j := (rfl)
@[simp] theorem State.modRgn_hbm (j : Nat) : (s.modRgn i f).hbm j = s.hbm j := (rfl)
@[simp] theorem State.modRgn_cal (j : Nat) : (s.modRgn i f).cal j = s.cal j := (rfl)
@[simp] theorem State.modRgn_clu (j : Nat) : (s.modRgn i f).clu j = s.clu j := (rfl)
@[simp] theorem State.modRgn_fcu (j : Nat) : (s.modRgn i f).fcu j = s.fcu j := (rfl)
@[simp] theorem State.modRgn_madc (j : Nat) : (s.modRgn i f).madc j = s.madc j := (rfl)
@[simp] theorem State.modRgn_acq (j : Nat) : (s.modRgn i f).acq j = s.acq j := (rfl)
@[simp] theorem State.modRgn_hist (j : Nat) : (s.modRgn i f).hist j = s.hist j := (rfl)
@[simp] theorem State.modRgn_chan (j : Nat) : (s.modRgn i f).chan j = s.chan j := (rfl)
@[simp] theorem State.modRgn_te (j : Nat) : (s.modRgn i f).te j = s.te j := (rfl)
@[simp] theorem State.modRgn_fault (j : Nat) : (s.modRgn i f).fault j = s.fault j := (rfl)
@[simp] theorem State.modRgn_trigIn (j : Nat) : (s.modRgn i f).trigIn j = s.trigIn j := (rfl)
@[simp] theorem State.modRgn_trigOut (j : Nat) : (s.modRgn i f).trigOut j = s.trigOut j := (rfl)
@[simp] theorem State.modRgn_secSite (j : Nat) : (s.modRgn i f).secSite j = s.secSite j := (rfl)
@[simp] theorem State.modRgn_freeVal : (s.modRgn i f).freeVal = s.freeVal := (rfl)
@[simp] theorem State.modRgn_now : (s.modRgn i f).now = s.now := (rfl)
@[simp] theorem State.modRgn_up : (s.modRgn i f).up = s.up := (rfl)
@[simp] theorem State.modRgn_hdr (a b : Nat) : (s.modRgn i f).hdr a b = s.hdr a b := (rfl)
/-- Reading a unit after an update. -/
@[simp] theorem State.modRgn_rgn (j : Nat) : (s.modRgn i f).rgn j = if j = i then f (s.rgn j) else s.rgn j :=
  Tbl.get_upd ..
end

/-! modFcu -/
section
variable (s : State) (i : Nat) (f : Fcu → Fcu)
@[simp] theorem State.modFcu_grade08 : (s.modFcu i f).grade08 = s.grade08 := (rfl)
@[simp] theorem State.modFcu_bifur : (s.modFcu i f).bifur = s.bifur := (rfl)
@[simp] theorem State.modFcu_smbAddr : (s.modFcu i f).smbAddr = s.smbAddr := (rfl)
@[simp] theorem State.modFcu_root : (s.modFcu i f).root = s.root := (rfl)
@[simp] theorem State.modFcu_uptime : (s.modFcu i f).uptime = s.uptime := (rfl)
@[simp] theorem State.modFcu_everLocked : (s.modFcu i f).everLocked = s.everLocked := (rfl)
@[simp] theorem State.modFcu_stage : (s.modFcu i f).stage = s.stage := (rfl)
@[simp] theorem State.modFcu_link0 : (s.modFcu i f).link0 = s.link0 := (rfl)
@[simp] theorem State.modFcu_link1 : (s.modFcu i f).link1 = s.link1 := (rfl)
@[simp] theorem State.modFcu_pwr : (s.modFcu i f).pwr = s.pwr := (rfl)
@[simp] theorem State.modFcu_glb : (s.modFcu i f).glb = s.glb := (rfl)
@[simp] theorem State.modFcu_clk : (s.modFcu i f).clk = s.clk := (rfl)
@[simp] theorem State.modFcu_sync : (s.modFcu i f).sync = s.sync := (rfl)
@[simp] theorem State.modFcu_sec : (s.modFcu i f).sec = s.sec := (rfl)
@[simp] theorem State.modFcu_hdrs : (s.modFcu i f).hdrs = s.hdrs := (rfl)
@[simp] theorem State.modFcu_fns : (s.modFcu i f).fns = s.fns := (rfl)
@[simp] theorem State.modFcu_sites : (s.modFcu i f).sites = s.sites := (rfl)
@[simp] theorem State.modFcu_queues : (s.modFcu i f).queues = s.queues := (rfl)
@[simp] theorem State.modFcu_qmgr : (s.modFcu i f).qmgr = s.qmgr := (rfl)
@[simp] theorem State.modFcu_bmem : (s.modFcu i f).bmem = s.bmem := (rfl)
@[simp] theorem State.modFcu_hbms : (s.modFcu i f).hbms = s.hbms := (rfl)
@[simp] theorem State.modFcu_err : (s.modFcu i f).err = s.err := (rfl)
@[simp] theorem State.modFcu_hlth : (s.modFcu i f).hlth = s.hlth := (rfl)
@[simp] theorem State.modFcu_cals : (s.modFcu i f).cals = s.cals := (rfl)
@[simp] theorem State.modFcu_clus : (s.modFcu i f).clus = s.clus := (rfl)
@[simp] theorem State.modFcu_rgns : (s.modFcu i f).rgns = s.rgns := (rfl)
@[simp] theorem State.modFcu_madcs : (s.modFcu i f).madcs = s.madcs := (rfl)
@[simp] theorem State.modFcu_acqs : (s.modFcu i f).acqs = s.acqs := (rfl)
@[simp] theorem State.modFcu_hists : (s.modFcu i f).hists = s.hists := (rfl)
@[simp] theorem State.modFcu_chans : (s.modFcu i f).chans = s.chans := (rfl)
@[simp] theorem State.modFcu_tes : (s.modFcu i f).tes = s.tes := (rfl)
@[simp] theorem State.modFcu_mem : (s.modFcu i f).mem = s.mem := (rfl)
@[simp] theorem State.modFcu_ctext : (s.modFcu i f).ctext = s.ctext := (rfl)
@[simp] theorem State.modFcu_hbmHolder : (s.modFcu i f).hbmHolder = s.hbmHolder := (rfl)
@[simp] theorem State.modFcu_bankHolder : (s.modFcu i f).bankHolder = s.bankHolder := (rfl)
@[simp] theorem State.modFcu_nor : (s.modFcu i f).nor = s.nor := (rfl)
@[simp] theorem State.modFcu_otp : (s.modFcu i f).otp = s.otp := (rfl)
@[simp] theorem State.modFcu_faults : (s.modFcu i f).faults = s.faults := (rfl)
@[simp] theorem State.modFcu_smb : (s.modFcu i f).smb = s.smb := (rfl)
@[simp] theorem State.modFcu_jtag : (s.modFcu i f).jtag = s.jtag := (rfl)
@[simp] theorem State.modFcu_outs : (s.modFcu i f).outs = s.outs := (rfl)
@[simp] theorem State.modFcu_free : (s.modFcu i f).free = s.free := (rfl)
@[simp] theorem State.modFcu_pcache : (s.modFcu i f).pcache = s.pcache := (rfl)
@[simp] theorem State.modFcu_micro : (s.modFcu i f).micro = s.micro := (rfl)
@[simp] theorem State.modFcu_stores : (s.modFcu i f).stores = s.stores := (rfl)
@[simp] theorem State.modFcu_returned : (s.modFcu i f).returned = s.returned := (rfl)
@[simp] theorem State.modFcu_placedQ : (s.modFcu i f).placedQ = s.placedQ := (rfl)
@[simp] theorem State.modFcu_pending : (s.modFcu i f).pending = s.pending := (rfl)
@[simp] theorem State.modFcu_fn (j : Nat) : (s.modFcu i f).fn j = s.fn j := (rfl)
@[simp] theorem State.modFcu_site (j : Nat) : (s.modFcu i f).site j = s.site j := (rfl)
@[simp] theorem State.modFcu_queue (j : Nat) : (s.modFcu i f).queue j = s.queue j := (rfl)
@[simp] theorem State.modFcu_hbm (j : Nat) : (s.modFcu i f).hbm j = s.hbm j := (rfl)
@[simp] theorem State.modFcu_cal (j : Nat) : (s.modFcu i f).cal j = s.cal j := (rfl)
@[simp] theorem State.modFcu_clu (j : Nat) : (s.modFcu i f).clu j = s.clu j := (rfl)
@[simp] theorem State.modFcu_rgn (j : Nat) : (s.modFcu i f).rgn j = s.rgn j := (rfl)
@[simp] theorem State.modFcu_madc (j : Nat) : (s.modFcu i f).madc j = s.madc j := (rfl)
@[simp] theorem State.modFcu_acq (j : Nat) : (s.modFcu i f).acq j = s.acq j := (rfl)
@[simp] theorem State.modFcu_hist (j : Nat) : (s.modFcu i f).hist j = s.hist j := (rfl)
@[simp] theorem State.modFcu_chan (j : Nat) : (s.modFcu i f).chan j = s.chan j := (rfl)
@[simp] theorem State.modFcu_te (j : Nat) : (s.modFcu i f).te j = s.te j := (rfl)
@[simp] theorem State.modFcu_fault (j : Nat) : (s.modFcu i f).fault j = s.fault j := (rfl)
@[simp] theorem State.modFcu_trigIn (j : Nat) : (s.modFcu i f).trigIn j = s.trigIn j := (rfl)
@[simp] theorem State.modFcu_trigOut (j : Nat) : (s.modFcu i f).trigOut j = s.trigOut j := (rfl)
@[simp] theorem State.modFcu_secSite (j : Nat) : (s.modFcu i f).secSite j = s.secSite j := (rfl)
@[simp] theorem State.modFcu_freeVal : (s.modFcu i f).freeVal = s.freeVal := (rfl)
@[simp] theorem State.modFcu_now : (s.modFcu i f).now = s.now := (rfl)
@[simp] theorem State.modFcu_up : (s.modFcu i f).up = s.up := (rfl)
@[simp] theorem State.modFcu_hdr (a b : Nat) : (s.modFcu i f).hdr a b = s.hdr a b := (rfl)
/-- Reading a unit after an update. -/
@[simp] theorem State.modFcu_fcu (j : Nat) : (s.modFcu i f).fcu j = if j = i then f (s.fcu j) else s.fcu j :=
  Tbl.get_upd ..
end

/-! modMadc -/
section
variable (s : State) (i : Nat) (f : Madc → Madc)
@[simp] theorem State.modMadc_grade08 : (s.modMadc i f).grade08 = s.grade08 := (rfl)
@[simp] theorem State.modMadc_bifur : (s.modMadc i f).bifur = s.bifur := (rfl)
@[simp] theorem State.modMadc_smbAddr : (s.modMadc i f).smbAddr = s.smbAddr := (rfl)
@[simp] theorem State.modMadc_root : (s.modMadc i f).root = s.root := (rfl)
@[simp] theorem State.modMadc_uptime : (s.modMadc i f).uptime = s.uptime := (rfl)
@[simp] theorem State.modMadc_everLocked : (s.modMadc i f).everLocked = s.everLocked := (rfl)
@[simp] theorem State.modMadc_stage : (s.modMadc i f).stage = s.stage := (rfl)
@[simp] theorem State.modMadc_link0 : (s.modMadc i f).link0 = s.link0 := (rfl)
@[simp] theorem State.modMadc_link1 : (s.modMadc i f).link1 = s.link1 := (rfl)
@[simp] theorem State.modMadc_pwr : (s.modMadc i f).pwr = s.pwr := (rfl)
@[simp] theorem State.modMadc_glb : (s.modMadc i f).glb = s.glb := (rfl)
@[simp] theorem State.modMadc_clk : (s.modMadc i f).clk = s.clk := (rfl)
@[simp] theorem State.modMadc_sync : (s.modMadc i f).sync = s.sync := (rfl)
@[simp] theorem State.modMadc_sec : (s.modMadc i f).sec = s.sec := (rfl)
@[simp] theorem State.modMadc_hdrs : (s.modMadc i f).hdrs = s.hdrs := (rfl)
@[simp] theorem State.modMadc_fns : (s.modMadc i f).fns = s.fns := (rfl)
@[simp] theorem State.modMadc_sites : (s.modMadc i f).sites = s.sites := (rfl)
@[simp] theorem State.modMadc_queues : (s.modMadc i f).queues = s.queues := (rfl)
@[simp] theorem State.modMadc_qmgr : (s.modMadc i f).qmgr = s.qmgr := (rfl)
@[simp] theorem State.modMadc_bmem : (s.modMadc i f).bmem = s.bmem := (rfl)
@[simp] theorem State.modMadc_hbms : (s.modMadc i f).hbms = s.hbms := (rfl)
@[simp] theorem State.modMadc_err : (s.modMadc i f).err = s.err := (rfl)
@[simp] theorem State.modMadc_hlth : (s.modMadc i f).hlth = s.hlth := (rfl)
@[simp] theorem State.modMadc_cals : (s.modMadc i f).cals = s.cals := (rfl)
@[simp] theorem State.modMadc_clus : (s.modMadc i f).clus = s.clus := (rfl)
@[simp] theorem State.modMadc_rgns : (s.modMadc i f).rgns = s.rgns := (rfl)
@[simp] theorem State.modMadc_fcus : (s.modMadc i f).fcus = s.fcus := (rfl)
@[simp] theorem State.modMadc_acqs : (s.modMadc i f).acqs = s.acqs := (rfl)
@[simp] theorem State.modMadc_hists : (s.modMadc i f).hists = s.hists := (rfl)
@[simp] theorem State.modMadc_chans : (s.modMadc i f).chans = s.chans := (rfl)
@[simp] theorem State.modMadc_tes : (s.modMadc i f).tes = s.tes := (rfl)
@[simp] theorem State.modMadc_mem : (s.modMadc i f).mem = s.mem := (rfl)
@[simp] theorem State.modMadc_ctext : (s.modMadc i f).ctext = s.ctext := (rfl)
@[simp] theorem State.modMadc_hbmHolder : (s.modMadc i f).hbmHolder = s.hbmHolder := (rfl)
@[simp] theorem State.modMadc_bankHolder : (s.modMadc i f).bankHolder = s.bankHolder := (rfl)
@[simp] theorem State.modMadc_nor : (s.modMadc i f).nor = s.nor := (rfl)
@[simp] theorem State.modMadc_otp : (s.modMadc i f).otp = s.otp := (rfl)
@[simp] theorem State.modMadc_faults : (s.modMadc i f).faults = s.faults := (rfl)
@[simp] theorem State.modMadc_smb : (s.modMadc i f).smb = s.smb := (rfl)
@[simp] theorem State.modMadc_jtag : (s.modMadc i f).jtag = s.jtag := (rfl)
@[simp] theorem State.modMadc_outs : (s.modMadc i f).outs = s.outs := (rfl)
@[simp] theorem State.modMadc_free : (s.modMadc i f).free = s.free := (rfl)
@[simp] theorem State.modMadc_pcache : (s.modMadc i f).pcache = s.pcache := (rfl)
@[simp] theorem State.modMadc_micro : (s.modMadc i f).micro = s.micro := (rfl)
@[simp] theorem State.modMadc_stores : (s.modMadc i f).stores = s.stores := (rfl)
@[simp] theorem State.modMadc_returned : (s.modMadc i f).returned = s.returned := (rfl)
@[simp] theorem State.modMadc_placedQ : (s.modMadc i f).placedQ = s.placedQ := (rfl)
@[simp] theorem State.modMadc_pending : (s.modMadc i f).pending = s.pending := (rfl)
@[simp] theorem State.modMadc_fn (j : Nat) : (s.modMadc i f).fn j = s.fn j := (rfl)
@[simp] theorem State.modMadc_site (j : Nat) : (s.modMadc i f).site j = s.site j := (rfl)
@[simp] theorem State.modMadc_queue (j : Nat) : (s.modMadc i f).queue j = s.queue j := (rfl)
@[simp] theorem State.modMadc_hbm (j : Nat) : (s.modMadc i f).hbm j = s.hbm j := (rfl)
@[simp] theorem State.modMadc_cal (j : Nat) : (s.modMadc i f).cal j = s.cal j := (rfl)
@[simp] theorem State.modMadc_clu (j : Nat) : (s.modMadc i f).clu j = s.clu j := (rfl)
@[simp] theorem State.modMadc_rgn (j : Nat) : (s.modMadc i f).rgn j = s.rgn j := (rfl)
@[simp] theorem State.modMadc_fcu (j : Nat) : (s.modMadc i f).fcu j = s.fcu j := (rfl)
@[simp] theorem State.modMadc_acq (j : Nat) : (s.modMadc i f).acq j = s.acq j := (rfl)
@[simp] theorem State.modMadc_hist (j : Nat) : (s.modMadc i f).hist j = s.hist j := (rfl)
@[simp] theorem State.modMadc_chan (j : Nat) : (s.modMadc i f).chan j = s.chan j := (rfl)
@[simp] theorem State.modMadc_te (j : Nat) : (s.modMadc i f).te j = s.te j := (rfl)
@[simp] theorem State.modMadc_fault (j : Nat) : (s.modMadc i f).fault j = s.fault j := (rfl)
@[simp] theorem State.modMadc_trigIn (j : Nat) : (s.modMadc i f).trigIn j = s.trigIn j := (rfl)
@[simp] theorem State.modMadc_trigOut (j : Nat) : (s.modMadc i f).trigOut j = s.trigOut j := (rfl)
@[simp] theorem State.modMadc_secSite (j : Nat) : (s.modMadc i f).secSite j = s.secSite j := (rfl)
@[simp] theorem State.modMadc_freeVal : (s.modMadc i f).freeVal = s.freeVal := (rfl)
@[simp] theorem State.modMadc_now : (s.modMadc i f).now = s.now := (rfl)
@[simp] theorem State.modMadc_up : (s.modMadc i f).up = s.up := (rfl)
@[simp] theorem State.modMadc_hdr (a b : Nat) : (s.modMadc i f).hdr a b = s.hdr a b := (rfl)
/-- Reading a unit after an update. -/
@[simp] theorem State.modMadc_madc (j : Nat) : (s.modMadc i f).madc j = if j = i then f (s.madc j) else s.madc j :=
  Tbl.get_upd ..
end

/-! modAcq -/
section
variable (s : State) (i : Nat) (f : Acq → Acq)
@[simp] theorem State.modAcq_grade08 : (s.modAcq i f).grade08 = s.grade08 := (rfl)
@[simp] theorem State.modAcq_bifur : (s.modAcq i f).bifur = s.bifur := (rfl)
@[simp] theorem State.modAcq_smbAddr : (s.modAcq i f).smbAddr = s.smbAddr := (rfl)
@[simp] theorem State.modAcq_root : (s.modAcq i f).root = s.root := (rfl)
@[simp] theorem State.modAcq_uptime : (s.modAcq i f).uptime = s.uptime := (rfl)
@[simp] theorem State.modAcq_everLocked : (s.modAcq i f).everLocked = s.everLocked := (rfl)
@[simp] theorem State.modAcq_stage : (s.modAcq i f).stage = s.stage := (rfl)
@[simp] theorem State.modAcq_link0 : (s.modAcq i f).link0 = s.link0 := (rfl)
@[simp] theorem State.modAcq_link1 : (s.modAcq i f).link1 = s.link1 := (rfl)
@[simp] theorem State.modAcq_pwr : (s.modAcq i f).pwr = s.pwr := (rfl)
@[simp] theorem State.modAcq_glb : (s.modAcq i f).glb = s.glb := (rfl)
@[simp] theorem State.modAcq_clk : (s.modAcq i f).clk = s.clk := (rfl)
@[simp] theorem State.modAcq_sync : (s.modAcq i f).sync = s.sync := (rfl)
@[simp] theorem State.modAcq_sec : (s.modAcq i f).sec = s.sec := (rfl)
@[simp] theorem State.modAcq_hdrs : (s.modAcq i f).hdrs = s.hdrs := (rfl)
@[simp] theorem State.modAcq_fns : (s.modAcq i f).fns = s.fns := (rfl)
@[simp] theorem State.modAcq_sites : (s.modAcq i f).sites = s.sites := (rfl)
@[simp] theorem State.modAcq_queues : (s.modAcq i f).queues = s.queues := (rfl)
@[simp] theorem State.modAcq_qmgr : (s.modAcq i f).qmgr = s.qmgr := (rfl)
@[simp] theorem State.modAcq_bmem : (s.modAcq i f).bmem = s.bmem := (rfl)
@[simp] theorem State.modAcq_hbms : (s.modAcq i f).hbms = s.hbms := (rfl)
@[simp] theorem State.modAcq_err : (s.modAcq i f).err = s.err := (rfl)
@[simp] theorem State.modAcq_hlth : (s.modAcq i f).hlth = s.hlth := (rfl)
@[simp] theorem State.modAcq_cals : (s.modAcq i f).cals = s.cals := (rfl)
@[simp] theorem State.modAcq_clus : (s.modAcq i f).clus = s.clus := (rfl)
@[simp] theorem State.modAcq_rgns : (s.modAcq i f).rgns = s.rgns := (rfl)
@[simp] theorem State.modAcq_fcus : (s.modAcq i f).fcus = s.fcus := (rfl)
@[simp] theorem State.modAcq_madcs : (s.modAcq i f).madcs = s.madcs := (rfl)
@[simp] theorem State.modAcq_hists : (s.modAcq i f).hists = s.hists := (rfl)
@[simp] theorem State.modAcq_chans : (s.modAcq i f).chans = s.chans := (rfl)
@[simp] theorem State.modAcq_tes : (s.modAcq i f).tes = s.tes := (rfl)
@[simp] theorem State.modAcq_mem : (s.modAcq i f).mem = s.mem := (rfl)
@[simp] theorem State.modAcq_ctext : (s.modAcq i f).ctext = s.ctext := (rfl)
@[simp] theorem State.modAcq_hbmHolder : (s.modAcq i f).hbmHolder = s.hbmHolder := (rfl)
@[simp] theorem State.modAcq_bankHolder : (s.modAcq i f).bankHolder = s.bankHolder := (rfl)
@[simp] theorem State.modAcq_nor : (s.modAcq i f).nor = s.nor := (rfl)
@[simp] theorem State.modAcq_otp : (s.modAcq i f).otp = s.otp := (rfl)
@[simp] theorem State.modAcq_faults : (s.modAcq i f).faults = s.faults := (rfl)
@[simp] theorem State.modAcq_smb : (s.modAcq i f).smb = s.smb := (rfl)
@[simp] theorem State.modAcq_jtag : (s.modAcq i f).jtag = s.jtag := (rfl)
@[simp] theorem State.modAcq_outs : (s.modAcq i f).outs = s.outs := (rfl)
@[simp] theorem State.modAcq_free : (s.modAcq i f).free = s.free := (rfl)
@[simp] theorem State.modAcq_pcache : (s.modAcq i f).pcache = s.pcache := (rfl)
@[simp] theorem State.modAcq_micro : (s.modAcq i f).micro = s.micro := (rfl)
@[simp] theorem State.modAcq_stores : (s.modAcq i f).stores = s.stores := (rfl)
@[simp] theorem State.modAcq_returned : (s.modAcq i f).returned = s.returned := (rfl)
@[simp] theorem State.modAcq_placedQ : (s.modAcq i f).placedQ = s.placedQ := (rfl)
@[simp] theorem State.modAcq_pending : (s.modAcq i f).pending = s.pending := (rfl)
@[simp] theorem State.modAcq_fn (j : Nat) : (s.modAcq i f).fn j = s.fn j := (rfl)
@[simp] theorem State.modAcq_site (j : Nat) : (s.modAcq i f).site j = s.site j := (rfl)
@[simp] theorem State.modAcq_queue (j : Nat) : (s.modAcq i f).queue j = s.queue j := (rfl)
@[simp] theorem State.modAcq_hbm (j : Nat) : (s.modAcq i f).hbm j = s.hbm j := (rfl)
@[simp] theorem State.modAcq_cal (j : Nat) : (s.modAcq i f).cal j = s.cal j := (rfl)
@[simp] theorem State.modAcq_clu (j : Nat) : (s.modAcq i f).clu j = s.clu j := (rfl)
@[simp] theorem State.modAcq_rgn (j : Nat) : (s.modAcq i f).rgn j = s.rgn j := (rfl)
@[simp] theorem State.modAcq_fcu (j : Nat) : (s.modAcq i f).fcu j = s.fcu j := (rfl)
@[simp] theorem State.modAcq_madc (j : Nat) : (s.modAcq i f).madc j = s.madc j := (rfl)
@[simp] theorem State.modAcq_hist (j : Nat) : (s.modAcq i f).hist j = s.hist j := (rfl)
@[simp] theorem State.modAcq_chan (j : Nat) : (s.modAcq i f).chan j = s.chan j := (rfl)
@[simp] theorem State.modAcq_te (j : Nat) : (s.modAcq i f).te j = s.te j := (rfl)
@[simp] theorem State.modAcq_fault (j : Nat) : (s.modAcq i f).fault j = s.fault j := (rfl)
@[simp] theorem State.modAcq_trigIn (j : Nat) : (s.modAcq i f).trigIn j = s.trigIn j := (rfl)
@[simp] theorem State.modAcq_trigOut (j : Nat) : (s.modAcq i f).trigOut j = s.trigOut j := (rfl)
@[simp] theorem State.modAcq_secSite (j : Nat) : (s.modAcq i f).secSite j = s.secSite j := (rfl)
@[simp] theorem State.modAcq_freeVal : (s.modAcq i f).freeVal = s.freeVal := (rfl)
@[simp] theorem State.modAcq_now : (s.modAcq i f).now = s.now := (rfl)
@[simp] theorem State.modAcq_up : (s.modAcq i f).up = s.up := (rfl)
@[simp] theorem State.modAcq_hdr (a b : Nat) : (s.modAcq i f).hdr a b = s.hdr a b := (rfl)
/-- Reading a unit after an update. -/
@[simp] theorem State.modAcq_acq (j : Nat) : (s.modAcq i f).acq j = if j = i then f (s.acq j) else s.acq j :=
  Tbl.get_upd ..
end

/-! modHist -/
section
variable (s : State) (i : Nat) (f : Hist → Hist)
@[simp] theorem State.modHist_grade08 : (s.modHist i f).grade08 = s.grade08 := (rfl)
@[simp] theorem State.modHist_bifur : (s.modHist i f).bifur = s.bifur := (rfl)
@[simp] theorem State.modHist_smbAddr : (s.modHist i f).smbAddr = s.smbAddr := (rfl)
@[simp] theorem State.modHist_root : (s.modHist i f).root = s.root := (rfl)
@[simp] theorem State.modHist_uptime : (s.modHist i f).uptime = s.uptime := (rfl)
@[simp] theorem State.modHist_everLocked : (s.modHist i f).everLocked = s.everLocked := (rfl)
@[simp] theorem State.modHist_stage : (s.modHist i f).stage = s.stage := (rfl)
@[simp] theorem State.modHist_link0 : (s.modHist i f).link0 = s.link0 := (rfl)
@[simp] theorem State.modHist_link1 : (s.modHist i f).link1 = s.link1 := (rfl)
@[simp] theorem State.modHist_pwr : (s.modHist i f).pwr = s.pwr := (rfl)
@[simp] theorem State.modHist_glb : (s.modHist i f).glb = s.glb := (rfl)
@[simp] theorem State.modHist_clk : (s.modHist i f).clk = s.clk := (rfl)
@[simp] theorem State.modHist_sync : (s.modHist i f).sync = s.sync := (rfl)
@[simp] theorem State.modHist_sec : (s.modHist i f).sec = s.sec := (rfl)
@[simp] theorem State.modHist_hdrs : (s.modHist i f).hdrs = s.hdrs := (rfl)
@[simp] theorem State.modHist_fns : (s.modHist i f).fns = s.fns := (rfl)
@[simp] theorem State.modHist_sites : (s.modHist i f).sites = s.sites := (rfl)
@[simp] theorem State.modHist_queues : (s.modHist i f).queues = s.queues := (rfl)
@[simp] theorem State.modHist_qmgr : (s.modHist i f).qmgr = s.qmgr := (rfl)
@[simp] theorem State.modHist_bmem : (s.modHist i f).bmem = s.bmem := (rfl)
@[simp] theorem State.modHist_hbms : (s.modHist i f).hbms = s.hbms := (rfl)
@[simp] theorem State.modHist_err : (s.modHist i f).err = s.err := (rfl)
@[simp] theorem State.modHist_hlth : (s.modHist i f).hlth = s.hlth := (rfl)
@[simp] theorem State.modHist_cals : (s.modHist i f).cals = s.cals := (rfl)
@[simp] theorem State.modHist_clus : (s.modHist i f).clus = s.clus := (rfl)
@[simp] theorem State.modHist_rgns : (s.modHist i f).rgns = s.rgns := (rfl)
@[simp] theorem State.modHist_fcus : (s.modHist i f).fcus = s.fcus := (rfl)
@[simp] theorem State.modHist_madcs : (s.modHist i f).madcs = s.madcs := (rfl)
@[simp] theorem State.modHist_acqs : (s.modHist i f).acqs = s.acqs := (rfl)
@[simp] theorem State.modHist_chans : (s.modHist i f).chans = s.chans := (rfl)
@[simp] theorem State.modHist_tes : (s.modHist i f).tes = s.tes := (rfl)
@[simp] theorem State.modHist_mem : (s.modHist i f).mem = s.mem := (rfl)
@[simp] theorem State.modHist_ctext : (s.modHist i f).ctext = s.ctext := (rfl)
@[simp] theorem State.modHist_hbmHolder : (s.modHist i f).hbmHolder = s.hbmHolder := (rfl)
@[simp] theorem State.modHist_bankHolder : (s.modHist i f).bankHolder = s.bankHolder := (rfl)
@[simp] theorem State.modHist_nor : (s.modHist i f).nor = s.nor := (rfl)
@[simp] theorem State.modHist_otp : (s.modHist i f).otp = s.otp := (rfl)
@[simp] theorem State.modHist_faults : (s.modHist i f).faults = s.faults := (rfl)
@[simp] theorem State.modHist_smb : (s.modHist i f).smb = s.smb := (rfl)
@[simp] theorem State.modHist_jtag : (s.modHist i f).jtag = s.jtag := (rfl)
@[simp] theorem State.modHist_outs : (s.modHist i f).outs = s.outs := (rfl)
@[simp] theorem State.modHist_free : (s.modHist i f).free = s.free := (rfl)
@[simp] theorem State.modHist_pcache : (s.modHist i f).pcache = s.pcache := (rfl)
@[simp] theorem State.modHist_micro : (s.modHist i f).micro = s.micro := (rfl)
@[simp] theorem State.modHist_stores : (s.modHist i f).stores = s.stores := (rfl)
@[simp] theorem State.modHist_returned : (s.modHist i f).returned = s.returned := (rfl)
@[simp] theorem State.modHist_placedQ : (s.modHist i f).placedQ = s.placedQ := (rfl)
@[simp] theorem State.modHist_pending : (s.modHist i f).pending = s.pending := (rfl)
@[simp] theorem State.modHist_fn (j : Nat) : (s.modHist i f).fn j = s.fn j := (rfl)
@[simp] theorem State.modHist_site (j : Nat) : (s.modHist i f).site j = s.site j := (rfl)
@[simp] theorem State.modHist_queue (j : Nat) : (s.modHist i f).queue j = s.queue j := (rfl)
@[simp] theorem State.modHist_hbm (j : Nat) : (s.modHist i f).hbm j = s.hbm j := (rfl)
@[simp] theorem State.modHist_cal (j : Nat) : (s.modHist i f).cal j = s.cal j := (rfl)
@[simp] theorem State.modHist_clu (j : Nat) : (s.modHist i f).clu j = s.clu j := (rfl)
@[simp] theorem State.modHist_rgn (j : Nat) : (s.modHist i f).rgn j = s.rgn j := (rfl)
@[simp] theorem State.modHist_fcu (j : Nat) : (s.modHist i f).fcu j = s.fcu j := (rfl)
@[simp] theorem State.modHist_madc (j : Nat) : (s.modHist i f).madc j = s.madc j := (rfl)
@[simp] theorem State.modHist_acq (j : Nat) : (s.modHist i f).acq j = s.acq j := (rfl)
@[simp] theorem State.modHist_chan (j : Nat) : (s.modHist i f).chan j = s.chan j := (rfl)
@[simp] theorem State.modHist_te (j : Nat) : (s.modHist i f).te j = s.te j := (rfl)
@[simp] theorem State.modHist_fault (j : Nat) : (s.modHist i f).fault j = s.fault j := (rfl)
@[simp] theorem State.modHist_trigIn (j : Nat) : (s.modHist i f).trigIn j = s.trigIn j := (rfl)
@[simp] theorem State.modHist_trigOut (j : Nat) : (s.modHist i f).trigOut j = s.trigOut j := (rfl)
@[simp] theorem State.modHist_secSite (j : Nat) : (s.modHist i f).secSite j = s.secSite j := (rfl)
@[simp] theorem State.modHist_freeVal : (s.modHist i f).freeVal = s.freeVal := (rfl)
@[simp] theorem State.modHist_now : (s.modHist i f).now = s.now := (rfl)
@[simp] theorem State.modHist_up : (s.modHist i f).up = s.up := (rfl)
@[simp] theorem State.modHist_hdr (a b : Nat) : (s.modHist i f).hdr a b = s.hdr a b := (rfl)
/-- Reading a unit after an update. -/
@[simp] theorem State.modHist_hist (j : Nat) : (s.modHist i f).hist j = if j = i then f (s.hist j) else s.hist j :=
  Tbl.get_upd ..
end

/-! modChan -/
section
variable (s : State) (i : Nat) (f : Chan → Chan)
@[simp] theorem State.modChan_grade08 : (s.modChan i f).grade08 = s.grade08 := (rfl)
@[simp] theorem State.modChan_bifur : (s.modChan i f).bifur = s.bifur := (rfl)
@[simp] theorem State.modChan_smbAddr : (s.modChan i f).smbAddr = s.smbAddr := (rfl)
@[simp] theorem State.modChan_root : (s.modChan i f).root = s.root := (rfl)
@[simp] theorem State.modChan_uptime : (s.modChan i f).uptime = s.uptime := (rfl)
@[simp] theorem State.modChan_everLocked : (s.modChan i f).everLocked = s.everLocked := (rfl)
@[simp] theorem State.modChan_stage : (s.modChan i f).stage = s.stage := (rfl)
@[simp] theorem State.modChan_link0 : (s.modChan i f).link0 = s.link0 := (rfl)
@[simp] theorem State.modChan_link1 : (s.modChan i f).link1 = s.link1 := (rfl)
@[simp] theorem State.modChan_pwr : (s.modChan i f).pwr = s.pwr := (rfl)
@[simp] theorem State.modChan_glb : (s.modChan i f).glb = s.glb := (rfl)
@[simp] theorem State.modChan_clk : (s.modChan i f).clk = s.clk := (rfl)
@[simp] theorem State.modChan_sync : (s.modChan i f).sync = s.sync := (rfl)
@[simp] theorem State.modChan_sec : (s.modChan i f).sec = s.sec := (rfl)
@[simp] theorem State.modChan_hdrs : (s.modChan i f).hdrs = s.hdrs := (rfl)
@[simp] theorem State.modChan_fns : (s.modChan i f).fns = s.fns := (rfl)
@[simp] theorem State.modChan_sites : (s.modChan i f).sites = s.sites := (rfl)
@[simp] theorem State.modChan_queues : (s.modChan i f).queues = s.queues := (rfl)
@[simp] theorem State.modChan_qmgr : (s.modChan i f).qmgr = s.qmgr := (rfl)
@[simp] theorem State.modChan_bmem : (s.modChan i f).bmem = s.bmem := (rfl)
@[simp] theorem State.modChan_hbms : (s.modChan i f).hbms = s.hbms := (rfl)
@[simp] theorem State.modChan_err : (s.modChan i f).err = s.err := (rfl)
@[simp] theorem State.modChan_hlth : (s.modChan i f).hlth = s.hlth := (rfl)
@[simp] theorem State.modChan_cals : (s.modChan i f).cals = s.cals := (rfl)
@[simp] theorem State.modChan_clus : (s.modChan i f).clus = s.clus := (rfl)
@[simp] theorem State.modChan_rgns : (s.modChan i f).rgns = s.rgns := (rfl)
@[simp] theorem State.modChan_fcus : (s.modChan i f).fcus = s.fcus := (rfl)
@[simp] theorem State.modChan_madcs : (s.modChan i f).madcs = s.madcs := (rfl)
@[simp] theorem State.modChan_acqs : (s.modChan i f).acqs = s.acqs := (rfl)
@[simp] theorem State.modChan_hists : (s.modChan i f).hists = s.hists := (rfl)
@[simp] theorem State.modChan_tes : (s.modChan i f).tes = s.tes := (rfl)
@[simp] theorem State.modChan_mem : (s.modChan i f).mem = s.mem := (rfl)
@[simp] theorem State.modChan_ctext : (s.modChan i f).ctext = s.ctext := (rfl)
@[simp] theorem State.modChan_hbmHolder : (s.modChan i f).hbmHolder = s.hbmHolder := (rfl)
@[simp] theorem State.modChan_bankHolder : (s.modChan i f).bankHolder = s.bankHolder := (rfl)
@[simp] theorem State.modChan_nor : (s.modChan i f).nor = s.nor := (rfl)
@[simp] theorem State.modChan_otp : (s.modChan i f).otp = s.otp := (rfl)
@[simp] theorem State.modChan_faults : (s.modChan i f).faults = s.faults := (rfl)
@[simp] theorem State.modChan_smb : (s.modChan i f).smb = s.smb := (rfl)
@[simp] theorem State.modChan_jtag : (s.modChan i f).jtag = s.jtag := (rfl)
@[simp] theorem State.modChan_outs : (s.modChan i f).outs = s.outs := (rfl)
@[simp] theorem State.modChan_free : (s.modChan i f).free = s.free := (rfl)
@[simp] theorem State.modChan_pcache : (s.modChan i f).pcache = s.pcache := (rfl)
@[simp] theorem State.modChan_micro : (s.modChan i f).micro = s.micro := (rfl)
@[simp] theorem State.modChan_stores : (s.modChan i f).stores = s.stores := (rfl)
@[simp] theorem State.modChan_returned : (s.modChan i f).returned = s.returned := (rfl)
@[simp] theorem State.modChan_placedQ : (s.modChan i f).placedQ = s.placedQ := (rfl)
@[simp] theorem State.modChan_pending : (s.modChan i f).pending = s.pending := (rfl)
@[simp] theorem State.modChan_fn (j : Nat) : (s.modChan i f).fn j = s.fn j := (rfl)
@[simp] theorem State.modChan_site (j : Nat) : (s.modChan i f).site j = s.site j := (rfl)
@[simp] theorem State.modChan_queue (j : Nat) : (s.modChan i f).queue j = s.queue j := (rfl)
@[simp] theorem State.modChan_hbm (j : Nat) : (s.modChan i f).hbm j = s.hbm j := (rfl)
@[simp] theorem State.modChan_cal (j : Nat) : (s.modChan i f).cal j = s.cal j := (rfl)
@[simp] theorem State.modChan_clu (j : Nat) : (s.modChan i f).clu j = s.clu j := (rfl)
@[simp] theorem State.modChan_rgn (j : Nat) : (s.modChan i f).rgn j = s.rgn j := (rfl)
@[simp] theorem State.modChan_fcu (j : Nat) : (s.modChan i f).fcu j = s.fcu j := (rfl)
@[simp] theorem State.modChan_madc (j : Nat) : (s.modChan i f).madc j = s.madc j := (rfl)
@[simp] theorem State.modChan_acq (j : Nat) : (s.modChan i f).acq j = s.acq j := (rfl)
@[simp] theorem State.modChan_hist (j : Nat) : (s.modChan i f).hist j = s.hist j := (rfl)
@[simp] theorem State.modChan_te (j : Nat) : (s.modChan i f).te j = s.te j := (rfl)
@[simp] theorem State.modChan_fault (j : Nat) : (s.modChan i f).fault j = s.fault j := (rfl)
@[simp] theorem State.modChan_trigIn (j : Nat) : (s.modChan i f).trigIn j = s.trigIn j := (rfl)
@[simp] theorem State.modChan_trigOut (j : Nat) : (s.modChan i f).trigOut j = s.trigOut j := (rfl)
@[simp] theorem State.modChan_secSite (j : Nat) : (s.modChan i f).secSite j = s.secSite j := (rfl)
@[simp] theorem State.modChan_freeVal : (s.modChan i f).freeVal = s.freeVal := (rfl)
@[simp] theorem State.modChan_now : (s.modChan i f).now = s.now := (rfl)
@[simp] theorem State.modChan_up : (s.modChan i f).up = s.up := (rfl)
@[simp] theorem State.modChan_hdr (a b : Nat) : (s.modChan i f).hdr a b = s.hdr a b := (rfl)
/-- Reading a unit after an update. -/
@[simp] theorem State.modChan_chan (j : Nat) : (s.modChan i f).chan j = if j = i then f (s.chan j) else s.chan j :=
  Tbl.get_upd ..
end

/-! modTe -/
section
variable (s : State) (i : Nat) (f : Eng → Eng)
@[simp] theorem State.modTe_grade08 : (s.modTe i f).grade08 = s.grade08 := (rfl)
@[simp] theorem State.modTe_bifur : (s.modTe i f).bifur = s.bifur := (rfl)
@[simp] theorem State.modTe_smbAddr : (s.modTe i f).smbAddr = s.smbAddr := (rfl)
@[simp] theorem State.modTe_root : (s.modTe i f).root = s.root := (rfl)
@[simp] theorem State.modTe_uptime : (s.modTe i f).uptime = s.uptime := (rfl)
@[simp] theorem State.modTe_everLocked : (s.modTe i f).everLocked = s.everLocked := (rfl)
@[simp] theorem State.modTe_stage : (s.modTe i f).stage = s.stage := (rfl)
@[simp] theorem State.modTe_link0 : (s.modTe i f).link0 = s.link0 := (rfl)
@[simp] theorem State.modTe_link1 : (s.modTe i f).link1 = s.link1 := (rfl)
@[simp] theorem State.modTe_pwr : (s.modTe i f).pwr = s.pwr := (rfl)
@[simp] theorem State.modTe_glb : (s.modTe i f).glb = s.glb := (rfl)
@[simp] theorem State.modTe_clk : (s.modTe i f).clk = s.clk := (rfl)
@[simp] theorem State.modTe_sync : (s.modTe i f).sync = s.sync := (rfl)
@[simp] theorem State.modTe_sec : (s.modTe i f).sec = s.sec := (rfl)
@[simp] theorem State.modTe_hdrs : (s.modTe i f).hdrs = s.hdrs := (rfl)
@[simp] theorem State.modTe_fns : (s.modTe i f).fns = s.fns := (rfl)
@[simp] theorem State.modTe_sites : (s.modTe i f).sites = s.sites := (rfl)
@[simp] theorem State.modTe_queues : (s.modTe i f).queues = s.queues := (rfl)
@[simp] theorem State.modTe_qmgr : (s.modTe i f).qmgr = s.qmgr := (rfl)
@[simp] theorem State.modTe_bmem : (s.modTe i f).bmem = s.bmem := (rfl)
@[simp] theorem State.modTe_hbms : (s.modTe i f).hbms = s.hbms := (rfl)
@[simp] theorem State.modTe_err : (s.modTe i f).err = s.err := (rfl)
@[simp] theorem State.modTe_hlth : (s.modTe i f).hlth = s.hlth := (rfl)
@[simp] theorem State.modTe_cals : (s.modTe i f).cals = s.cals := (rfl)
@[simp] theorem State.modTe_clus : (s.modTe i f).clus = s.clus := (rfl)
@[simp] theorem State.modTe_rgns : (s.modTe i f).rgns = s.rgns := (rfl)
@[simp] theorem State.modTe_fcus : (s.modTe i f).fcus = s.fcus := (rfl)
@[simp] theorem State.modTe_madcs : (s.modTe i f).madcs = s.madcs := (rfl)
@[simp] theorem State.modTe_acqs : (s.modTe i f).acqs = s.acqs := (rfl)
@[simp] theorem State.modTe_hists : (s.modTe i f).hists = s.hists := (rfl)
@[simp] theorem State.modTe_chans : (s.modTe i f).chans = s.chans := (rfl)
@[simp] theorem State.modTe_mem : (s.modTe i f).mem = s.mem := (rfl)
@[simp] theorem State.modTe_ctext : (s.modTe i f).ctext = s.ctext := (rfl)
@[simp] theorem State.modTe_hbmHolder : (s.modTe i f).hbmHolder = s.hbmHolder := (rfl)
@[simp] theorem State.modTe_bankHolder : (s.modTe i f).bankHolder = s.bankHolder := (rfl)
@[simp] theorem State.modTe_nor : (s.modTe i f).nor = s.nor := (rfl)
@[simp] theorem State.modTe_otp : (s.modTe i f).otp = s.otp := (rfl)
@[simp] theorem State.modTe_faults : (s.modTe i f).faults = s.faults := (rfl)
@[simp] theorem State.modTe_smb : (s.modTe i f).smb = s.smb := (rfl)
@[simp] theorem State.modTe_jtag : (s.modTe i f).jtag = s.jtag := (rfl)
@[simp] theorem State.modTe_outs : (s.modTe i f).outs = s.outs := (rfl)
@[simp] theorem State.modTe_free : (s.modTe i f).free = s.free := (rfl)
@[simp] theorem State.modTe_pcache : (s.modTe i f).pcache = s.pcache := (rfl)
@[simp] theorem State.modTe_micro : (s.modTe i f).micro = s.micro := (rfl)
@[simp] theorem State.modTe_stores : (s.modTe i f).stores = s.stores := (rfl)
@[simp] theorem State.modTe_returned : (s.modTe i f).returned = s.returned := (rfl)
@[simp] theorem State.modTe_placedQ : (s.modTe i f).placedQ = s.placedQ := (rfl)
@[simp] theorem State.modTe_pending : (s.modTe i f).pending = s.pending := (rfl)
@[simp] theorem State.modTe_fn (j : Nat) : (s.modTe i f).fn j = s.fn j := (rfl)
@[simp] theorem State.modTe_site (j : Nat) : (s.modTe i f).site j = s.site j := (rfl)
@[simp] theorem State.modTe_queue (j : Nat) : (s.modTe i f).queue j = s.queue j := (rfl)
@[simp] theorem State.modTe_hbm (j : Nat) : (s.modTe i f).hbm j = s.hbm j := (rfl)
@[simp] theorem State.modTe_cal (j : Nat) : (s.modTe i f).cal j = s.cal j := (rfl)
@[simp] theorem State.modTe_clu (j : Nat) : (s.modTe i f).clu j = s.clu j := (rfl)
@[simp] theorem State.modTe_rgn (j : Nat) : (s.modTe i f).rgn j = s.rgn j := (rfl)
@[simp] theorem State.modTe_fcu (j : Nat) : (s.modTe i f).fcu j = s.fcu j := (rfl)
@[simp] theorem State.modTe_madc (j : Nat) : (s.modTe i f).madc j = s.madc j := (rfl)
@[simp] theorem State.modTe_acq (j : Nat) : (s.modTe i f).acq j = s.acq j := (rfl)
@[simp] theorem State.modTe_hist (j : Nat) : (s.modTe i f).hist j = s.hist j := (rfl)
@[simp] theorem State.modTe_chan (j : Nat) : (s.modTe i f).chan j = s.chan j := (rfl)
@[simp] theorem State.modTe_fault (j : Nat) : (s.modTe i f).fault j = s.fault j := (rfl)
@[simp] theorem State.modTe_trigIn (j : Nat) : (s.modTe i f).trigIn j = s.trigIn j := (rfl)
@[simp] theorem State.modTe_trigOut (j : Nat) : (s.modTe i f).trigOut j = s.trigOut j := (rfl)
@[simp] theorem State.modTe_secSite (j : Nat) : (s.modTe i f).secSite j = s.secSite j := (rfl)
@[simp] theorem State.modTe_freeVal : (s.modTe i f).freeVal = s.freeVal := (rfl)
@[simp] theorem State.modTe_now : (s.modTe i f).now = s.now := (rfl)
@[simp] theorem State.modTe_up : (s.modTe i f).up = s.up := (rfl)
@[simp] theorem State.modTe_hdr (a b : Nat) : (s.modTe i f).hdr a b = s.hdr a b := (rfl)
/-- Reading a unit after an update. -/
@[simp] theorem State.modTe_te (j : Nat) : (s.modTe i f).te j = if j = i then f (s.te j) else s.te j :=
  Tbl.get_upd ..
end

/-! modFault -/
section
variable (s : State) (i : Nat) (f : Fault1 → Fault1)
@[simp] theorem State.modFault_grade08 : (s.modFault i f).grade08 = s.grade08 := (rfl)
@[simp] theorem State.modFault_bifur : (s.modFault i f).bifur = s.bifur := (rfl)
@[simp] theorem State.modFault_smbAddr : (s.modFault i f).smbAddr = s.smbAddr := (rfl)
@[simp] theorem State.modFault_root : (s.modFault i f).root = s.root := (rfl)
@[simp] theorem State.modFault_uptime : (s.modFault i f).uptime = s.uptime := (rfl)
@[simp] theorem State.modFault_everLocked : (s.modFault i f).everLocked = s.everLocked := (rfl)
@[simp] theorem State.modFault_stage : (s.modFault i f).stage = s.stage := (rfl)
@[simp] theorem State.modFault_link0 : (s.modFault i f).link0 = s.link0 := (rfl)
@[simp] theorem State.modFault_link1 : (s.modFault i f).link1 = s.link1 := (rfl)
@[simp] theorem State.modFault_pwr : (s.modFault i f).pwr = s.pwr := (rfl)
@[simp] theorem State.modFault_glb : (s.modFault i f).glb = s.glb := (rfl)
@[simp] theorem State.modFault_clk : (s.modFault i f).clk = s.clk := (rfl)
@[simp] theorem State.modFault_sync : (s.modFault i f).sync = s.sync := (rfl)
@[simp] theorem State.modFault_sec : (s.modFault i f).sec = s.sec := (rfl)
@[simp] theorem State.modFault_hdrs : (s.modFault i f).hdrs = s.hdrs := (rfl)
@[simp] theorem State.modFault_fns : (s.modFault i f).fns = s.fns := (rfl)
@[simp] theorem State.modFault_sites : (s.modFault i f).sites = s.sites := (rfl)
@[simp] theorem State.modFault_queues : (s.modFault i f).queues = s.queues := (rfl)
@[simp] theorem State.modFault_qmgr : (s.modFault i f).qmgr = s.qmgr := (rfl)
@[simp] theorem State.modFault_bmem : (s.modFault i f).bmem = s.bmem := (rfl)
@[simp] theorem State.modFault_hbms : (s.modFault i f).hbms = s.hbms := (rfl)
@[simp] theorem State.modFault_err : (s.modFault i f).err = s.err := (rfl)
@[simp] theorem State.modFault_hlth : (s.modFault i f).hlth = s.hlth := (rfl)
@[simp] theorem State.modFault_cals : (s.modFault i f).cals = s.cals := (rfl)
@[simp] theorem State.modFault_clus : (s.modFault i f).clus = s.clus := (rfl)
@[simp] theorem State.modFault_rgns : (s.modFault i f).rgns = s.rgns := (rfl)
@[simp] theorem State.modFault_fcus : (s.modFault i f).fcus = s.fcus := (rfl)
@[simp] theorem State.modFault_madcs : (s.modFault i f).madcs = s.madcs := (rfl)
@[simp] theorem State.modFault_acqs : (s.modFault i f).acqs = s.acqs := (rfl)
@[simp] theorem State.modFault_hists : (s.modFault i f).hists = s.hists := (rfl)
@[simp] theorem State.modFault_chans : (s.modFault i f).chans = s.chans := (rfl)
@[simp] theorem State.modFault_tes : (s.modFault i f).tes = s.tes := (rfl)
@[simp] theorem State.modFault_mem : (s.modFault i f).mem = s.mem := (rfl)
@[simp] theorem State.modFault_ctext : (s.modFault i f).ctext = s.ctext := (rfl)
@[simp] theorem State.modFault_hbmHolder : (s.modFault i f).hbmHolder = s.hbmHolder := (rfl)
@[simp] theorem State.modFault_bankHolder : (s.modFault i f).bankHolder = s.bankHolder := (rfl)
@[simp] theorem State.modFault_nor : (s.modFault i f).nor = s.nor := (rfl)
@[simp] theorem State.modFault_otp : (s.modFault i f).otp = s.otp := (rfl)
@[simp] theorem State.modFault_smb : (s.modFault i f).smb = s.smb := (rfl)
@[simp] theorem State.modFault_jtag : (s.modFault i f).jtag = s.jtag := (rfl)
@[simp] theorem State.modFault_outs : (s.modFault i f).outs = s.outs := (rfl)
@[simp] theorem State.modFault_free : (s.modFault i f).free = s.free := (rfl)
@[simp] theorem State.modFault_pcache : (s.modFault i f).pcache = s.pcache := (rfl)
@[simp] theorem State.modFault_micro : (s.modFault i f).micro = s.micro := (rfl)
@[simp] theorem State.modFault_stores : (s.modFault i f).stores = s.stores := (rfl)
@[simp] theorem State.modFault_returned : (s.modFault i f).returned = s.returned := (rfl)
@[simp] theorem State.modFault_placedQ : (s.modFault i f).placedQ = s.placedQ := (rfl)
@[simp] theorem State.modFault_pending : (s.modFault i f).pending = s.pending := (rfl)
@[simp] theorem State.modFault_fn (j : Nat) : (s.modFault i f).fn j = s.fn j := (rfl)
@[simp] theorem State.modFault_site (j : Nat) : (s.modFault i f).site j = s.site j := (rfl)
@[simp] theorem State.modFault_queue (j : Nat) : (s.modFault i f).queue j = s.queue j := (rfl)
@[simp] theorem State.modFault_hbm (j : Nat) : (s.modFault i f).hbm j = s.hbm j := (rfl)
@[simp] theorem State.modFault_cal (j : Nat) : (s.modFault i f).cal j = s.cal j := (rfl)
@[simp] theorem State.modFault_clu (j : Nat) : (s.modFault i f).clu j = s.clu j := (rfl)
@[simp] theorem State.modFault_rgn (j : Nat) : (s.modFault i f).rgn j = s.rgn j := (rfl)
@[simp] theorem State.modFault_fcu (j : Nat) : (s.modFault i f).fcu j = s.fcu j := (rfl)
@[simp] theorem State.modFault_madc (j : Nat) : (s.modFault i f).madc j = s.madc j := (rfl)
@[simp] theorem State.modFault_acq (j : Nat) : (s.modFault i f).acq j = s.acq j := (rfl)
@[simp] theorem State.modFault_hist (j : Nat) : (s.modFault i f).hist j = s.hist j := (rfl)
@[simp] theorem State.modFault_chan (j : Nat) : (s.modFault i f).chan j = s.chan j := (rfl)
@[simp] theorem State.modFault_te (j : Nat) : (s.modFault i f).te j = s.te j := (rfl)
@[simp] theorem State.modFault_trigIn (j : Nat) : (s.modFault i f).trigIn j = s.trigIn j := (rfl)
@[simp] theorem State.modFault_trigOut (j : Nat) : (s.modFault i f).trigOut j = s.trigOut j := (rfl)
@[simp] theorem State.modFault_secSite (j : Nat) : (s.modFault i f).secSite j = s.secSite j := (rfl)
@[simp] theorem State.modFault_freeVal : (s.modFault i f).freeVal = s.freeVal := (rfl)
@[simp] theorem State.modFault_now : (s.modFault i f).now = s.now := (rfl)
@[simp] theorem State.modFault_up : (s.modFault i f).up = s.up := (rfl)
@[simp] theorem State.modFault_hdr (a b : Nat) : (s.modFault i f).hdr a b = s.hdr a b := (rfl)
/-- Reading a unit after an update. -/
@[simp] theorem State.modFault_fault (j : Nat) : (s.modFault i f).fault j = if j = i then f (s.fault j) else s.fault j :=
  Tbl.get_upd ..
end

/-! modTrigIn -/
section
variable (s : State) (i : Nat) (f : TrigIn → TrigIn)
@[simp] theorem State.modTrigIn_grade08 : (s.modTrigIn i f).grade08 = s.grade08 := (rfl)
@[simp] theorem State.modTrigIn_bifur : (s.modTrigIn i f).bifur = s.bifur := (rfl)
@[simp] theorem State.modTrigIn_smbAddr : (s.modTrigIn i f).smbAddr = s.smbAddr := (rfl)
@[simp] theorem State.modTrigIn_root : (s.modTrigIn i f).root = s.root := (rfl)
@[simp] theorem State.modTrigIn_uptime : (s.modTrigIn i f).uptime = s.uptime := (rfl)
@[simp] theorem State.modTrigIn_everLocked : (s.modTrigIn i f).everLocked = s.everLocked := (rfl)
@[simp] theorem State.modTrigIn_stage : (s.modTrigIn i f).stage = s.stage := (rfl)
@[simp] theorem State.modTrigIn_link0 : (s.modTrigIn i f).link0 = s.link0 := (rfl)
@[simp] theorem State.modTrigIn_link1 : (s.modTrigIn i f).link1 = s.link1 := (rfl)
@[simp] theorem State.modTrigIn_pwr : (s.modTrigIn i f).pwr = s.pwr := (rfl)
@[simp] theorem State.modTrigIn_glb : (s.modTrigIn i f).glb = s.glb := (rfl)
@[simp] theorem State.modTrigIn_clk : (s.modTrigIn i f).clk = s.clk := (rfl)
@[simp] theorem State.modTrigIn_sec : (s.modTrigIn i f).sec = s.sec := (rfl)
@[simp] theorem State.modTrigIn_hdrs : (s.modTrigIn i f).hdrs = s.hdrs := (rfl)
@[simp] theorem State.modTrigIn_fns : (s.modTrigIn i f).fns = s.fns := (rfl)
@[simp] theorem State.modTrigIn_sites : (s.modTrigIn i f).sites = s.sites := (rfl)
@[simp] theorem State.modTrigIn_queues : (s.modTrigIn i f).queues = s.queues := (rfl)
@[simp] theorem State.modTrigIn_qmgr : (s.modTrigIn i f).qmgr = s.qmgr := (rfl)
@[simp] theorem State.modTrigIn_bmem : (s.modTrigIn i f).bmem = s.bmem := (rfl)
@[simp] theorem State.modTrigIn_hbms : (s.modTrigIn i f).hbms = s.hbms := (rfl)
@[simp] theorem State.modTrigIn_err : (s.modTrigIn i f).err = s.err := (rfl)
@[simp] theorem State.modTrigIn_hlth : (s.modTrigIn i f).hlth = s.hlth := (rfl)
@[simp] theorem State.modTrigIn_cals : (s.modTrigIn i f).cals = s.cals := (rfl)
@[simp] theorem State.modTrigIn_clus : (s.modTrigIn i f).clus = s.clus := (rfl)
@[simp] theorem State.modTrigIn_rgns : (s.modTrigIn i f).rgns = s.rgns := (rfl)
@[simp] theorem State.modTrigIn_fcus : (s.modTrigIn i f).fcus = s.fcus := (rfl)
@[simp] theorem State.modTrigIn_madcs : (s.modTrigIn i f).madcs = s.madcs := (rfl)
@[simp] theorem State.modTrigIn_acqs : (s.modTrigIn i f).acqs = s.acqs := (rfl)
@[simp] theorem State.modTrigIn_hists : (s.modTrigIn i f).hists = s.hists := (rfl)
@[simp] theorem State.modTrigIn_chans : (s.modTrigIn i f).chans = s.chans := (rfl)
@[simp] theorem State.modTrigIn_tes : (s.modTrigIn i f).tes = s.tes := (rfl)
@[simp] theorem State.modTrigIn_mem : (s.modTrigIn i f).mem = s.mem := (rfl)
@[simp] theorem State.modTrigIn_ctext : (s.modTrigIn i f).ctext = s.ctext := (rfl)
@[simp] theorem State.modTrigIn_hbmHolder : (s.modTrigIn i f).hbmHolder = s.hbmHolder := (rfl)
@[simp] theorem State.modTrigIn_bankHolder : (s.modTrigIn i f).bankHolder = s.bankHolder := (rfl)
@[simp] theorem State.modTrigIn_nor : (s.modTrigIn i f).nor = s.nor := (rfl)
@[simp] theorem State.modTrigIn_otp : (s.modTrigIn i f).otp = s.otp := (rfl)
@[simp] theorem State.modTrigIn_faults : (s.modTrigIn i f).faults = s.faults := (rfl)
@[simp] theorem State.modTrigIn_smb : (s.modTrigIn i f).smb = s.smb := (rfl)
@[simp] theorem State.modTrigIn_jtag : (s.modTrigIn i f).jtag = s.jtag := (rfl)
@[simp] theorem State.modTrigIn_outs : (s.modTrigIn i f).outs = s.outs := (rfl)
@[simp] theorem State.modTrigIn_free : (s.modTrigIn i f).free = s.free := (rfl)
@[simp] theorem State.modTrigIn_pcache : (s.modTrigIn i f).pcache = s.pcache := (rfl)
@[simp] theorem State.modTrigIn_micro : (s.modTrigIn i f).micro = s.micro := (rfl)
@[simp] theorem State.modTrigIn_stores : (s.modTrigIn i f).stores = s.stores := (rfl)
@[simp] theorem State.modTrigIn_returned : (s.modTrigIn i f).returned = s.returned := (rfl)
@[simp] theorem State.modTrigIn_placedQ : (s.modTrigIn i f).placedQ = s.placedQ := (rfl)
@[simp] theorem State.modTrigIn_pending : (s.modTrigIn i f).pending = s.pending := (rfl)
@[simp] theorem State.modTrigIn_fn (j : Nat) : (s.modTrigIn i f).fn j = s.fn j := (rfl)
@[simp] theorem State.modTrigIn_site (j : Nat) : (s.modTrigIn i f).site j = s.site j := (rfl)
@[simp] theorem State.modTrigIn_queue (j : Nat) : (s.modTrigIn i f).queue j = s.queue j := (rfl)
@[simp] theorem State.modTrigIn_hbm (j : Nat) : (s.modTrigIn i f).hbm j = s.hbm j := (rfl)
@[simp] theorem State.modTrigIn_cal (j : Nat) : (s.modTrigIn i f).cal j = s.cal j := (rfl)
@[simp] theorem State.modTrigIn_clu (j : Nat) : (s.modTrigIn i f).clu j = s.clu j := (rfl)
@[simp] theorem State.modTrigIn_rgn (j : Nat) : (s.modTrigIn i f).rgn j = s.rgn j := (rfl)
@[simp] theorem State.modTrigIn_fcu (j : Nat) : (s.modTrigIn i f).fcu j = s.fcu j := (rfl)
@[simp] theorem State.modTrigIn_madc (j : Nat) : (s.modTrigIn i f).madc j = s.madc j := (rfl)
@[simp] theorem State.modTrigIn_acq (j : Nat) : (s.modTrigIn i f).acq j = s.acq j := (rfl)
@[simp] theorem State.modTrigIn_hist (j : Nat) : (s.modTrigIn i f).hist j = s.hist j := (rfl)
@[simp] theorem State.modTrigIn_chan (j : Nat) : (s.modTrigIn i f).chan j = s.chan j := (rfl)
@[simp] theorem State.modTrigIn_te (j : Nat) : (s.modTrigIn i f).te j = s.te j := (rfl)
@[simp] theorem State.modTrigIn_fault (j : Nat) : (s.modTrigIn i f).fault j = s.fault j := (rfl)
@[simp] theorem State.modTrigIn_secSite (j : Nat) : (s.modTrigIn i f).secSite j = s.secSite j := (rfl)
@[simp] theorem State.modTrigIn_freeVal : (s.modTrigIn i f).freeVal = s.freeVal := (rfl)
@[simp] theorem State.modTrigIn_now : (s.modTrigIn i f).now = s.now := (rfl)
@[simp] theorem State.modTrigIn_up : (s.modTrigIn i f).up = s.up := (rfl)
@[simp] theorem State.modTrigIn_hdr (a b : Nat) : (s.modTrigIn i f).hdr a b = s.hdr a b := (rfl)
/-- Reading a unit after an update. -/
@[simp] theorem State.modTrigIn_trigIn (j : Nat) : (s.modTrigIn i f).trigIn j = if j = i then f (s.trigIn j) else s.trigIn j :=
  Tbl.get_upd ..
end

/-! modTrigOut -/
section
variable (s : State) (i : Nat) (f : TrigOut → TrigOut)
@[simp] theorem State.modTrigOut_grade08 : (s.modTrigOut i f).grade08 = s.grade08 := (rfl)
@[simp] theorem State.modTrigOut_bifur : (s.modTrigOut i f).bifur = s.bifur := (rfl)
@[simp] theorem State.modTrigOut_smbAddr : (s.modTrigOut i f).smbAddr = s.smbAddr := (rfl)
@[simp] theorem State.modTrigOut_root : (s.modTrigOut i f).root = s.root := (rfl)
@[simp] theorem State.modTrigOut_uptime : (s.modTrigOut i f).uptime = s.uptime := (rfl)
@[simp] theorem State.modTrigOut_everLocked : (s.modTrigOut i f).everLocked = s.everLocked := (rfl)
@[simp] theorem State.modTrigOut_stage : (s.modTrigOut i f).stage = s.stage := (rfl)
@[simp] theorem State.modTrigOut_link0 : (s.modTrigOut i f).link0 = s.link0 := (rfl)
@[simp] theorem State.modTrigOut_link1 : (s.modTrigOut i f).link1 = s.link1 := (rfl)
@[simp] theorem State.modTrigOut_pwr : (s.modTrigOut i f).pwr = s.pwr := (rfl)
@[simp] theorem State.modTrigOut_glb : (s.modTrigOut i f).glb = s.glb := (rfl)
@[simp] theorem State.modTrigOut_clk : (s.modTrigOut i f).clk = s.clk := (rfl)
@[simp] theorem State.modTrigOut_sec : (s.modTrigOut i f).sec = s.sec := (rfl)
@[simp] theorem State.modTrigOut_hdrs : (s.modTrigOut i f).hdrs = s.hdrs := (rfl)
@[simp] theorem State.modTrigOut_fns : (s.modTrigOut i f).fns = s.fns := (rfl)
@[simp] theorem State.modTrigOut_sites : (s.modTrigOut i f).sites = s.sites := (rfl)
@[simp] theorem State.modTrigOut_queues : (s.modTrigOut i f).queues = s.queues := (rfl)
@[simp] theorem State.modTrigOut_qmgr : (s.modTrigOut i f).qmgr = s.qmgr := (rfl)
@[simp] theorem State.modTrigOut_bmem : (s.modTrigOut i f).bmem = s.bmem := (rfl)
@[simp] theorem State.modTrigOut_hbms : (s.modTrigOut i f).hbms = s.hbms := (rfl)
@[simp] theorem State.modTrigOut_err : (s.modTrigOut i f).err = s.err := (rfl)
@[simp] theorem State.modTrigOut_hlth : (s.modTrigOut i f).hlth = s.hlth := (rfl)
@[simp] theorem State.modTrigOut_cals : (s.modTrigOut i f).cals = s.cals := (rfl)
@[simp] theorem State.modTrigOut_clus : (s.modTrigOut i f).clus = s.clus := (rfl)
@[simp] theorem State.modTrigOut_rgns : (s.modTrigOut i f).rgns = s.rgns := (rfl)
@[simp] theorem State.modTrigOut_fcus : (s.modTrigOut i f).fcus = s.fcus := (rfl)
@[simp] theorem State.modTrigOut_madcs : (s.modTrigOut i f).madcs = s.madcs := (rfl)
@[simp] theorem State.modTrigOut_acqs : (s.modTrigOut i f).acqs = s.acqs := (rfl)
@[simp] theorem State.modTrigOut_hists : (s.modTrigOut i f).hists = s.hists := (rfl)
@[simp] theorem State.modTrigOut_chans : (s.modTrigOut i f).chans = s.chans := (rfl)
@[simp] theorem State.modTrigOut_tes : (s.modTrigOut i f).tes = s.tes := (rfl)
@[simp] theorem State.modTrigOut_mem : (s.modTrigOut i f).mem = s.mem := (rfl)
@[simp] theorem State.modTrigOut_ctext : (s.modTrigOut i f).ctext = s.ctext := (rfl)
@[simp] theorem State.modTrigOut_hbmHolder : (s.modTrigOut i f).hbmHolder = s.hbmHolder := (rfl)
@[simp] theorem State.modTrigOut_bankHolder : (s.modTrigOut i f).bankHolder = s.bankHolder := (rfl)
@[simp] theorem State.modTrigOut_nor : (s.modTrigOut i f).nor = s.nor := (rfl)
@[simp] theorem State.modTrigOut_otp : (s.modTrigOut i f).otp = s.otp := (rfl)
@[simp] theorem State.modTrigOut_faults : (s.modTrigOut i f).faults = s.faults := (rfl)
@[simp] theorem State.modTrigOut_smb : (s.modTrigOut i f).smb = s.smb := (rfl)
@[simp] theorem State.modTrigOut_jtag : (s.modTrigOut i f).jtag = s.jtag := (rfl)
@[simp] theorem State.modTrigOut_outs : (s.modTrigOut i f).outs = s.outs := (rfl)
@[simp] theorem State.modTrigOut_free : (s.modTrigOut i f).free = s.free := (rfl)
@[simp] theorem State.modTrigOut_pcache : (s.modTrigOut i f).pcache = s.pcache := (rfl)
@[simp] theorem State.modTrigOut_micro : (s.modTrigOut i f).micro = s.micro := (rfl)
@[simp] theorem State.modTrigOut_stores : (s.modTrigOut i f).stores = s.stores := (rfl)
@[simp] theorem State.modTrigOut_returned : (s.modTrigOut i f).returned = s.returned := (rfl)
@[simp] theorem State.modTrigOut_placedQ : (s.modTrigOut i f).placedQ = s.placedQ := (rfl)
@[simp] theorem State.modTrigOut_pending : (s.modTrigOut i f).pending = s.pending := (rfl)
@[simp] theorem State.modTrigOut_fn (j : Nat) : (s.modTrigOut i f).fn j = s.fn j := (rfl)
@[simp] theorem State.modTrigOut_site (j : Nat) : (s.modTrigOut i f).site j = s.site j := (rfl)
@[simp] theorem State.modTrigOut_queue (j : Nat) : (s.modTrigOut i f).queue j = s.queue j := (rfl)
@[simp] theorem State.modTrigOut_hbm (j : Nat) : (s.modTrigOut i f).hbm j = s.hbm j := (rfl)
@[simp] theorem State.modTrigOut_cal (j : Nat) : (s.modTrigOut i f).cal j = s.cal j := (rfl)
@[simp] theorem State.modTrigOut_clu (j : Nat) : (s.modTrigOut i f).clu j = s.clu j := (rfl)
@[simp] theorem State.modTrigOut_rgn (j : Nat) : (s.modTrigOut i f).rgn j = s.rgn j := (rfl)
@[simp] theorem State.modTrigOut_fcu (j : Nat) : (s.modTrigOut i f).fcu j = s.fcu j := (rfl)
@[simp] theorem State.modTrigOut_madc (j : Nat) : (s.modTrigOut i f).madc j = s.madc j := (rfl)
@[simp] theorem State.modTrigOut_acq (j : Nat) : (s.modTrigOut i f).acq j = s.acq j := (rfl)
@[simp] theorem State.modTrigOut_hist (j : Nat) : (s.modTrigOut i f).hist j = s.hist j := (rfl)
@[simp] theorem State.modTrigOut_chan (j : Nat) : (s.modTrigOut i f).chan j = s.chan j := (rfl)
@[simp] theorem State.modTrigOut_te (j : Nat) : (s.modTrigOut i f).te j = s.te j := (rfl)
@[simp] theorem State.modTrigOut_fault (j : Nat) : (s.modTrigOut i f).fault j = s.fault j := (rfl)
@[simp] theorem State.modTrigOut_secSite (j : Nat) : (s.modTrigOut i f).secSite j = s.secSite j := (rfl)
@[simp] theorem State.modTrigOut_freeVal : (s.modTrigOut i f).freeVal = s.freeVal := (rfl)
@[simp] theorem State.modTrigOut_now : (s.modTrigOut i f).now = s.now := (rfl)
@[simp] theorem State.modTrigOut_up : (s.modTrigOut i f).up = s.up := (rfl)
@[simp] theorem State.modTrigOut_hdr (a b : Nat) : (s.modTrigOut i f).hdr a b = s.hdr a b := (rfl)
/-- Reading a unit after an update. -/
@[simp] theorem State.modTrigOut_trigOut (j : Nat) : (s.modTrigOut i f).trigOut j = if j = i then f (s.trigOut j) else s.trigOut j :=
  Tbl.get_upd ..
end

/-! modSecSite -/
section
variable (s : State) (i : Nat) (f : SecSite → SecSite)
@[simp] theorem State.modSecSite_grade08 : (s.modSecSite i f).grade08 = s.grade08 := (rfl)
@[simp] theorem State.modSecSite_bifur : (s.modSecSite i f).bifur = s.bifur := (rfl)
@[simp] theorem State.modSecSite_smbAddr : (s.modSecSite i f).smbAddr = s.smbAddr := (rfl)
@[simp] theorem State.modSecSite_root : (s.modSecSite i f).root = s.root := (rfl)
@[simp] theorem State.modSecSite_uptime : (s.modSecSite i f).uptime = s.uptime := (rfl)
@[simp] theorem State.modSecSite_everLocked : (s.modSecSite i f).everLocked = s.everLocked := (rfl)
@[simp] theorem State.modSecSite_stage : (s.modSecSite i f).stage = s.stage := (rfl)
@[simp] theorem State.modSecSite_link0 : (s.modSecSite i f).link0 = s.link0 := (rfl)
@[simp] theorem State.modSecSite_link1 : (s.modSecSite i f).link1 = s.link1 := (rfl)
@[simp] theorem State.modSecSite_pwr : (s.modSecSite i f).pwr = s.pwr := (rfl)
@[simp] theorem State.modSecSite_glb : (s.modSecSite i f).glb = s.glb := (rfl)
@[simp] theorem State.modSecSite_clk : (s.modSecSite i f).clk = s.clk := (rfl)
@[simp] theorem State.modSecSite_sync : (s.modSecSite i f).sync = s.sync := (rfl)
@[simp] theorem State.modSecSite_hdrs : (s.modSecSite i f).hdrs = s.hdrs := (rfl)
@[simp] theorem State.modSecSite_fns : (s.modSecSite i f).fns = s.fns := (rfl)
@[simp] theorem State.modSecSite_sites : (s.modSecSite i f).sites = s.sites := (rfl)
@[simp] theorem State.modSecSite_queues : (s.modSecSite i f).queues = s.queues := (rfl)
@[simp] theorem State.modSecSite_qmgr : (s.modSecSite i f).qmgr = s.qmgr := (rfl)
@[simp] theorem State.modSecSite_bmem : (s.modSecSite i f).bmem = s.bmem := (rfl)
@[simp] theorem State.modSecSite_hbms : (s.modSecSite i f).hbms = s.hbms := (rfl)
@[simp] theorem State.modSecSite_err : (s.modSecSite i f).err = s.err := (rfl)
@[simp] theorem State.modSecSite_hlth : (s.modSecSite i f).hlth = s.hlth := (rfl)
@[simp] theorem State.modSecSite_cals : (s.modSecSite i f).cals = s.cals := (rfl)
@[simp] theorem State.modSecSite_clus : (s.modSecSite i f).clus = s.clus := (rfl)
@[simp] theorem State.modSecSite_rgns : (s.modSecSite i f).rgns = s.rgns := (rfl)
@[simp] theorem State.modSecSite_fcus : (s.modSecSite i f).fcus = s.fcus := (rfl)
@[simp] theorem State.modSecSite_madcs : (s.modSecSite i f).madcs = s.madcs := (rfl)
@[simp] theorem State.modSecSite_acqs : (s.modSecSite i f).acqs = s.acqs := (rfl)
@[simp] theorem State.modSecSite_hists : (s.modSecSite i f).hists = s.hists := (rfl)
@[simp] theorem State.modSecSite_chans : (s.modSecSite i f).chans = s.chans := (rfl)
@[simp] theorem State.modSecSite_tes : (s.modSecSite i f).tes = s.tes := (rfl)
@[simp] theorem State.modSecSite_mem : (s.modSecSite i f).mem = s.mem := (rfl)
@[simp] theorem State.modSecSite_ctext : (s.modSecSite i f).ctext = s.ctext := (rfl)
@[simp] theorem State.modSecSite_hbmHolder : (s.modSecSite i f).hbmHolder = s.hbmHolder := (rfl)
@[simp] theorem State.modSecSite_bankHolder : (s.modSecSite i f).bankHolder = s.bankHolder := (rfl)
@[simp] theorem State.modSecSite_nor : (s.modSecSite i f).nor = s.nor := (rfl)
@[simp] theorem State.modSecSite_otp : (s.modSecSite i f).otp = s.otp := (rfl)
@[simp] theorem State.modSecSite_faults : (s.modSecSite i f).faults = s.faults := (rfl)
@[simp] theorem State.modSecSite_smb : (s.modSecSite i f).smb = s.smb := (rfl)
@[simp] theorem State.modSecSite_jtag : (s.modSecSite i f).jtag = s.jtag := (rfl)
@[simp] theorem State.modSecSite_outs : (s.modSecSite i f).outs = s.outs := (rfl)
@[simp] theorem State.modSecSite_free : (s.modSecSite i f).free = s.free := (rfl)
@[simp] theorem State.modSecSite_pcache : (s.modSecSite i f).pcache = s.pcache := (rfl)
@[simp] theorem State.modSecSite_micro : (s.modSecSite i f).micro = s.micro := (rfl)
@[simp] theorem State.modSecSite_stores : (s.modSecSite i f).stores = s.stores := (rfl)
@[simp] theorem State.modSecSite_returned : (s.modSecSite i f).returned = s.returned := (rfl)
@[simp] theorem State.modSecSite_placedQ : (s.modSecSite i f).placedQ = s.placedQ := (rfl)
@[simp] theorem State.modSecSite_pending : (s.modSecSite i f).pending = s.pending := (rfl)
@[simp] theorem State.modSecSite_fn (j : Nat) : (s.modSecSite i f).fn j = s.fn j := (rfl)
@[simp] theorem State.modSecSite_site (j : Nat) : (s.modSecSite i f).site j = s.site j := (rfl)
@[simp] theorem State.modSecSite_queue (j : Nat) : (s.modSecSite i f).queue j = s.queue j := (rfl)
@[simp] theorem State.modSecSite_hbm (j : Nat) : (s.modSecSite i f).hbm j = s.hbm j := (rfl)
@[simp] theorem State.modSecSite_cal (j : Nat) : (s.modSecSite i f).cal j = s.cal j := (rfl)
@[simp] theorem State.modSecSite_clu (j : Nat) : (s.modSecSite i f).clu j = s.clu j := (rfl)
@[simp] theorem State.modSecSite_rgn (j : Nat) : (s.modSecSite i f).rgn j = s.rgn j := (rfl)
@[simp] theorem State.modSecSite_fcu (j : Nat) : (s.modSecSite i f).fcu j = s.fcu j := (rfl)
@[simp] theorem State.modSecSite_madc (j : Nat) : (s.modSecSite i f).madc j = s.madc j := (rfl)
@[simp] theorem State.modSecSite_acq (j : Nat) : (s.modSecSite i f).acq j = s.acq j := (rfl)
@[simp] theorem State.modSecSite_hist (j : Nat) : (s.modSecSite i f).hist j = s.hist j := (rfl)
@[simp] theorem State.modSecSite_chan (j : Nat) : (s.modSecSite i f).chan j = s.chan j := (rfl)
@[simp] theorem State.modSecSite_te (j : Nat) : (s.modSecSite i f).te j = s.te j := (rfl)
@[simp] theorem State.modSecSite_fault (j : Nat) : (s.modSecSite i f).fault j = s.fault j := (rfl)
@[simp] theorem State.modSecSite_trigIn (j : Nat) : (s.modSecSite i f).trigIn j = s.trigIn j := (rfl)
@[simp] theorem State.modSecSite_trigOut (j : Nat) : (s.modSecSite i f).trigOut j = s.trigOut j := (rfl)
@[simp] theorem State.modSecSite_freeVal : (s.modSecSite i f).freeVal = s.freeVal := (rfl)
@[simp] theorem State.modSecSite_now : (s.modSecSite i f).now = s.now := (rfl)
@[simp] theorem State.modSecSite_up : (s.modSecSite i f).up = s.up := (rfl)
@[simp] theorem State.modSecSite_hdr (a b : Nat) : (s.modSecSite i f).hdr a b = s.hdr a b := (rfl)
/-- Reading a unit after an update. -/
@[simp] theorem State.modSecSite_secSite (j : Nat) : (s.modSecSite i f).secSite j = if j = i then f (s.secSite j) else s.secSite j :=
  Tbl.get_upd ..
end

/-! modGlb -/
section
variable (s : State) (f : Glb → Glb)
@[simp] theorem State.modGlb_grade08 : (s.modGlb f).grade08 = s.grade08 := (rfl)
@[simp] theorem State.modGlb_bifur : (s.modGlb f).bifur = s.bifur := (rfl)
@[simp] theorem State.modGlb_smbAddr : (s.modGlb f).smbAddr = s.smbAddr := (rfl)
@[simp] theorem State.modGlb_root : (s.modGlb f).root = s.root := (rfl)
@[simp] theorem State.modGlb_uptime : (s.modGlb f).uptime = s.uptime := (rfl)
@[simp] theorem State.modGlb_everLocked : (s.modGlb f).everLocked = s.everLocked := (rfl)
@[simp] theorem State.modGlb_stage : (s.modGlb f).stage = s.stage := (rfl)
@[simp] theorem State.modGlb_link0 : (s.modGlb f).link0 = s.link0 := (rfl)
@[simp] theorem State.modGlb_link1 : (s.modGlb f).link1 = s.link1 := (rfl)
@[simp] theorem State.modGlb_pwr : (s.modGlb f).pwr = s.pwr := (rfl)
@[simp] theorem State.modGlb_clk : (s.modGlb f).clk = s.clk := (rfl)
@[simp] theorem State.modGlb_sync : (s.modGlb f).sync = s.sync := (rfl)
@[simp] theorem State.modGlb_sec : (s.modGlb f).sec = s.sec := (rfl)
@[simp] theorem State.modGlb_hdrs : (s.modGlb f).hdrs = s.hdrs := (rfl)
@[simp] theorem State.modGlb_fns : (s.modGlb f).fns = s.fns := (rfl)
@[simp] theorem State.modGlb_sites : (s.modGlb f).sites = s.sites := (rfl)
@[simp] theorem State.modGlb_queues : (s.modGlb f).queues = s.queues := (rfl)
@[simp] theorem State.modGlb_qmgr : (s.modGlb f).qmgr = s.qmgr := (rfl)
@[simp] theorem State.modGlb_bmem : (s.modGlb f).bmem = s.bmem := (rfl)
@[simp] theorem State.modGlb_hbms : (s.modGlb f).hbms = s.hbms := (rfl)
@[simp] theorem State.modGlb_err : (s.modGlb f).err = s.err := (rfl)
@[simp] theorem State.modGlb_hlth : (s.modGlb f).hlth = s.hlth := (rfl)
@[simp] theorem State.modGlb_cals : (s.modGlb f).cals = s.cals := (rfl)
@[simp] theorem State.modGlb_clus : (s.modGlb f).clus = s.clus := (rfl)
@[simp] theorem State.modGlb_rgns : (s.modGlb f).rgns = s.rgns := (rfl)
@[simp] theorem State.modGlb_fcus : (s.modGlb f).fcus = s.fcus := (rfl)
@[simp] theorem State.modGlb_madcs : (s.modGlb f).madcs = s.madcs := (rfl)
@[simp] theorem State.modGlb_acqs : (s.modGlb f).acqs = s.acqs := (rfl)
@[simp] theorem State.modGlb_hists : (s.modGlb f).hists = s.hists := (rfl)
@[simp] theorem State.modGlb_chans : (s.modGlb f).chans = s.chans := (rfl)
@[simp] theorem State.modGlb_tes : (s.modGlb f).tes = s.tes := (rfl)
@[simp] theorem State.modGlb_mem : (s.modGlb f).mem = s.mem := (rfl)
@[simp] theorem State.modGlb_ctext : (s.modGlb f).ctext = s.ctext := (rfl)
@[simp] theorem State.modGlb_hbmHolder : (s.modGlb f).hbmHolder = s.hbmHolder := (rfl)
@[simp] theorem State.modGlb_bankHolder : (s.modGlb f).bankHolder = s.bankHolder := (rfl)
@[simp] theorem State.modGlb_nor : (s.modGlb f).nor = s.nor := (rfl)
@[simp] theorem State.modGlb_otp : (s.modGlb f).otp = s.otp := (rfl)
@[simp] theorem State.modGlb_faults : (s.modGlb f).faults = s.faults := (rfl)
@[simp] theorem State.modGlb_smb : (s.modGlb f).smb = s.smb := (rfl)
@[simp] theorem State.modGlb_jtag : (s.modGlb f).jtag = s.jtag := (rfl)
@[simp] theorem State.modGlb_outs : (s.modGlb f).outs = s.outs := (rfl)
@[simp] theorem State.modGlb_free : (s.modGlb f).free = s.free := (rfl)
@[simp] theorem State.modGlb_pcache : (s.modGlb f).pcache = s.pcache := (rfl)
@[simp] theorem State.modGlb_micro : (s.modGlb f).micro = s.micro := (rfl)
@[simp] theorem State.modGlb_stores : (s.modGlb f).stores = s.stores := (rfl)
@[simp] theorem State.modGlb_returned : (s.modGlb f).returned = s.returned := (rfl)
@[simp] theorem State.modGlb_placedQ : (s.modGlb f).placedQ = s.placedQ := (rfl)
@[simp] theorem State.modGlb_pending : (s.modGlb f).pending = s.pending := (rfl)
@[simp] theorem State.modGlb_fn (j : Nat) : (s.modGlb f).fn j = s.fn j := (rfl)
@[simp] theorem State.modGlb_site (j : Nat) : (s.modGlb f).site j = s.site j := (rfl)
@[simp] theorem State.modGlb_queue (j : Nat) : (s.modGlb f).queue j = s.queue j := (rfl)
@[simp] theorem State.modGlb_hbm (j : Nat) : (s.modGlb f).hbm j = s.hbm j := (rfl)
@[simp] theorem State.modGlb_cal (j : Nat) : (s.modGlb f).cal j = s.cal j := (rfl)
@[simp] theorem State.modGlb_clu (j : Nat) : (s.modGlb f).clu j = s.clu j := (rfl)
@[simp] theorem State.modGlb_rgn (j : Nat) : (s.modGlb f).rgn j = s.rgn j := (rfl)
@[simp] theorem State.modGlb_fcu (j : Nat) : (s.modGlb f).fcu j = s.fcu j := (rfl)
@[simp] theorem State.modGlb_madc (j : Nat) : (s.modGlb f).madc j = s.madc j := (rfl)
@[simp] theorem State.modGlb_acq (j : Nat) : (s.modGlb f).acq j = s.acq j := (rfl)
@[simp] theorem State.modGlb_hist (j : Nat) : (s.modGlb f).hist j = s.hist j := (rfl)
@[simp] theorem State.modGlb_chan (j : Nat) : (s.modGlb f).chan j = s.chan j := (rfl)
@[simp] theorem State.modGlb_te (j : Nat) : (s.modGlb f).te j = s.te j := (rfl)
@[simp] theorem State.modGlb_fault (j : Nat) : (s.modGlb f).fault j = s.fault j := (rfl)
@[simp] theorem State.modGlb_trigIn (j : Nat) : (s.modGlb f).trigIn j = s.trigIn j := (rfl)
@[simp] theorem State.modGlb_trigOut (j : Nat) : (s.modGlb f).trigOut j = s.trigOut j := (rfl)
@[simp] theorem State.modGlb_secSite (j : Nat) : (s.modGlb f).secSite j = s.secSite j := (rfl)
@[simp] theorem State.modGlb_freeVal : (s.modGlb f).freeVal = s.freeVal := (rfl)
@[simp] theorem State.modGlb_now : (s.modGlb f).now = s.now := (rfl)
@[simp] theorem State.modGlb_up : (s.modGlb f).up = s.up := (rfl)
@[simp] theorem State.modGlb_hdr (a b : Nat) : (s.modGlb f).hdr a b = s.hdr a b := (rfl)
@[simp] theorem State.modGlb_glb : (s.modGlb f).glb = f s.glb := (rfl)
end

/-! modPwr -/
section
variable (s : State) (f : Pwr → Pwr)
@[simp] theorem State.modPwr_grade08 : (s.modPwr f).grade08 = s.grade08 := (rfl)
@[simp] theorem State.modPwr_bifur : (s.modPwr f).bifur = s.bifur := (rfl)
@[simp] theorem State.modPwr_smbAddr : (s.modPwr f).smbAddr = s.smbAddr := (rfl)
@[simp] theorem State.modPwr_root : (s.modPwr f).root = s.root := (rfl)
@[simp] theorem State.modPwr_uptime : (s.modPwr f).uptime = s.uptime := (rfl)
@[simp] theorem State.modPwr_everLocked : (s.modPwr f).everLocked = s.everLocked := (rfl)
@[simp] theorem State.modPwr_stage : (s.modPwr f).stage = s.stage := (rfl)
@[simp] theorem State.modPwr_link0 : (s.modPwr f).link0 = s.link0 := (rfl)
@[simp] theorem State.modPwr_link1 : (s.modPwr f).link1 = s.link1 := (rfl)
@[simp] theorem State.modPwr_glb : (s.modPwr f).glb = s.glb := (rfl)
@[simp] theorem State.modPwr_clk : (s.modPwr f).clk = s.clk := (rfl)
@[simp] theorem State.modPwr_sync : (s.modPwr f).sync = s.sync := (rfl)
@[simp] theorem State.modPwr_sec : (s.modPwr f).sec = s.sec := (rfl)
@[simp] theorem State.modPwr_hdrs : (s.modPwr f).hdrs = s.hdrs := (rfl)
@[simp] theorem State.modPwr_fns : (s.modPwr f).fns = s.fns := (rfl)
@[simp] theorem State.modPwr_sites : (s.modPwr f).sites = s.sites := (rfl)
@[simp] theorem State.modPwr_queues : (s.modPwr f).queues = s.queues := (rfl)
@[simp] theorem State.modPwr_qmgr : (s.modPwr f).qmgr = s.qmgr := (rfl)
@[simp] theorem State.modPwr_bmem : (s.modPwr f).bmem = s.bmem := (rfl)
@[simp] theorem State.modPwr_hbms : (s.modPwr f).hbms = s.hbms := (rfl)
@[simp] theorem State.modPwr_err : (s.modPwr f).err = s.err := (rfl)
@[simp] theorem State.modPwr_hlth : (s.modPwr f).hlth = s.hlth := (rfl)
@[simp] theorem State.modPwr_cals : (s.modPwr f).cals = s.cals := (rfl)
@[simp] theorem State.modPwr_clus : (s.modPwr f).clus = s.clus := (rfl)
@[simp] theorem State.modPwr_rgns : (s.modPwr f).rgns = s.rgns := (rfl)
@[simp] theorem State.modPwr_fcus : (s.modPwr f).fcus = s.fcus := (rfl)
@[simp] theorem State.modPwr_madcs : (s.modPwr f).madcs = s.madcs := (rfl)
@[simp] theorem State.modPwr_acqs : (s.modPwr f).acqs = s.acqs := (rfl)
@[simp] theorem State.modPwr_hists : (s.modPwr f).hists = s.hists := (rfl)
@[simp] theorem State.modPwr_chans : (s.modPwr f).chans = s.chans := (rfl)
@[simp] theorem State.modPwr_tes : (s.modPwr f).tes = s.tes := (rfl)
@[simp] theorem State.modPwr_mem : (s.modPwr f).mem = s.mem := (rfl)
@[simp] theorem State.modPwr_ctext : (s.modPwr f).ctext = s.ctext := (rfl)
@[simp] theorem State.modPwr_hbmHolder : (s.modPwr f).hbmHolder = s.hbmHolder := (rfl)
@[simp] theorem State.modPwr_bankHolder : (s.modPwr f).bankHolder = s.bankHolder := (rfl)
@[simp] theorem State.modPwr_nor : (s.modPwr f).nor = s.nor := (rfl)
@[simp] theorem State.modPwr_otp : (s.modPwr f).otp = s.otp := (rfl)
@[simp] theorem State.modPwr_faults : (s.modPwr f).faults = s.faults := (rfl)
@[simp] theorem State.modPwr_smb : (s.modPwr f).smb = s.smb := (rfl)
@[simp] theorem State.modPwr_jtag : (s.modPwr f).jtag = s.jtag := (rfl)
@[simp] theorem State.modPwr_outs : (s.modPwr f).outs = s.outs := (rfl)
@[simp] theorem State.modPwr_free : (s.modPwr f).free = s.free := (rfl)
@[simp] theorem State.modPwr_pcache : (s.modPwr f).pcache = s.pcache := (rfl)
@[simp] theorem State.modPwr_micro : (s.modPwr f).micro = s.micro := (rfl)
@[simp] theorem State.modPwr_stores : (s.modPwr f).stores = s.stores := (rfl)
@[simp] theorem State.modPwr_returned : (s.modPwr f).returned = s.returned := (rfl)
@[simp] theorem State.modPwr_placedQ : (s.modPwr f).placedQ = s.placedQ := (rfl)
@[simp] theorem State.modPwr_pending : (s.modPwr f).pending = s.pending := (rfl)
@[simp] theorem State.modPwr_fn (j : Nat) : (s.modPwr f).fn j = s.fn j := (rfl)
@[simp] theorem State.modPwr_site (j : Nat) : (s.modPwr f).site j = s.site j := (rfl)
@[simp] theorem State.modPwr_queue (j : Nat) : (s.modPwr f).queue j = s.queue j := (rfl)
@[simp] theorem State.modPwr_hbm (j : Nat) : (s.modPwr f).hbm j = s.hbm j := (rfl)
@[simp] theorem State.modPwr_cal (j : Nat) : (s.modPwr f).cal j = s.cal j := (rfl)
@[simp] theorem State.modPwr_clu (j : Nat) : (s.modPwr f).clu j = s.clu j := (rfl)
@[simp] theorem State.modPwr_rgn (j : Nat) : (s.modPwr f).rgn j = s.rgn j := (rfl)
@[simp] theorem State.modPwr_fcu (j : Nat) : (s.modPwr f).fcu j = s.fcu j := (rfl)
@[simp] theorem State.modPwr_madc (j : Nat) : (s.modPwr f).madc j = s.madc j := (rfl)
@[simp] theorem State.modPwr_acq (j : Nat) : (s.modPwr f).acq j = s.acq j := (rfl)
@[simp] theorem State.modPwr_hist (j : Nat) : (s.modPwr f).hist j = s.hist j := (rfl)
@[simp] theorem State.modPwr_chan (j : Nat) : (s.modPwr f).chan j = s.chan j := (rfl)
@[simp] theorem State.modPwr_te (j : Nat) : (s.modPwr f).te j = s.te j := (rfl)
@[simp] theorem State.modPwr_fault (j : Nat) : (s.modPwr f).fault j = s.fault j := (rfl)
@[simp] theorem State.modPwr_trigIn (j : Nat) : (s.modPwr f).trigIn j = s.trigIn j := (rfl)
@[simp] theorem State.modPwr_trigOut (j : Nat) : (s.modPwr f).trigOut j = s.trigOut j := (rfl)
@[simp] theorem State.modPwr_secSite (j : Nat) : (s.modPwr f).secSite j = s.secSite j := (rfl)
@[simp] theorem State.modPwr_freeVal : (s.modPwr f).freeVal = s.freeVal := (rfl)
@[simp] theorem State.modPwr_now : (s.modPwr f).now = s.now := (rfl)
@[simp] theorem State.modPwr_up : (s.modPwr f).up = s.up := (rfl)
@[simp] theorem State.modPwr_hdr (a b : Nat) : (s.modPwr f).hdr a b = s.hdr a b := (rfl)
@[simp] theorem State.modPwr_pwr : (s.modPwr f).pwr = f s.pwr := (rfl)
end

/-! modClk -/
section
variable (s : State) (f : Clk → Clk)
@[simp] theorem State.modClk_grade08 : (s.modClk f).grade08 = s.grade08 := (rfl)
@[simp] theorem State.modClk_bifur : (s.modClk f).bifur = s.bifur := (rfl)
@[simp] theorem State.modClk_smbAddr : (s.modClk f).smbAddr = s.smbAddr := (rfl)
@[simp] theorem State.modClk_root : (s.modClk f).root = s.root := (rfl)
@[simp] theorem State.modClk_uptime : (s.modClk f).uptime = s.uptime := (rfl)
@[simp] theorem State.modClk_everLocked : (s.modClk f).everLocked = s.everLocked := (rfl)
@[simp] theorem State.modClk_stage : (s.modClk f).stage = s.stage := (rfl)
@[simp] theorem State.modClk_link0 : (s.modClk f).link0 = s.link0 := (rfl)
@[simp] theorem State.modClk_link1 : (s.modClk f).link1 = s.link1 := (rfl)
@[simp] theorem State.modClk_pwr : (s.modClk f).pwr = s.pwr := (rfl)
@[simp] theorem State.modClk_glb : (s.modClk f).glb = s.glb := (rfl)
@[simp] theorem State.modClk_sync : (s.modClk f).sync = s.sync := (rfl)
@[simp] theorem State.modClk_sec : (s.modClk f).sec = s.sec := (rfl)
@[simp] theorem State.modClk_hdrs : (s.modClk f).hdrs = s.hdrs := (rfl)
@[simp] theorem State.modClk_fns : (s.modClk f).fns = s.fns := (rfl)
@[simp] theorem State.modClk_sites : (s.modClk f).sites = s.sites := (rfl)
@[simp] theorem State.modClk_queues : (s.modClk f).queues = s.queues := (rfl)
@[simp] theorem State.modClk_qmgr : (s.modClk f).qmgr = s.qmgr := (rfl)
@[simp] theorem State.modClk_bmem : (s.modClk f).bmem = s.bmem := (rfl)
@[simp] theorem State.modClk_hbms : (s.modClk f).hbms = s.hbms := (rfl)
@[simp] theorem State.modClk_err : (s.modClk f).err = s.err := (rfl)
@[simp] theorem State.modClk_hlth : (s.modClk f).hlth = s.hlth := (rfl)
@[simp] theorem State.modClk_cals : (s.modClk f).cals = s.cals := (rfl)
@[simp] theorem State.modClk_clus : (s.modClk f).clus = s.clus := (rfl)
@[simp] theorem State.modClk_rgns : (s.modClk f).rgns = s.rgns := (rfl)
@[simp] theorem State.modClk_fcus : (s.modClk f).fcus = s.fcus := (rfl)
@[simp] theorem State.modClk_madcs : (s.modClk f).madcs = s.madcs := (rfl)
@[simp] theorem State.modClk_acqs : (s.modClk f).acqs = s.acqs := (rfl)
@[simp] theorem State.modClk_hists : (s.modClk f).hists = s.hists := (rfl)
@[simp] theorem State.modClk_chans : (s.modClk f).chans = s.chans := (rfl)
@[simp] theorem State.modClk_tes : (s.modClk f).tes = s.tes := (rfl)
@[simp] theorem State.modClk_mem : (s.modClk f).mem = s.mem := (rfl)
@[simp] theorem State.modClk_ctext : (s.modClk f).ctext = s.ctext := (rfl)
@[simp] theorem State.modClk_hbmHolder : (s.modClk f).hbmHolder = s.hbmHolder := (rfl)
@[simp] theorem State.modClk_bankHolder : (s.modClk f).bankHolder = s.bankHolder := (rfl)
@[simp] theorem State.modClk_nor : (s.modClk f).nor = s.nor := (rfl)
@[simp] theorem State.modClk_otp : (s.modClk f).otp = s.otp := (rfl)
@[simp] theorem State.modClk_faults : (s.modClk f).faults = s.faults := (rfl)
@[simp] theorem State.modClk_smb : (s.modClk f).smb = s.smb := (rfl)
@[simp] theorem State.modClk_jtag : (s.modClk f).jtag = s.jtag := (rfl)
@[simp] theorem State.modClk_outs : (s.modClk f).outs = s.outs := (rfl)
@[simp] theorem State.modClk_free : (s.modClk f).free = s.free := (rfl)
@[simp] theorem State.modClk_pcache : (s.modClk f).pcache = s.pcache := (rfl)
@[simp] theorem State.modClk_micro : (s.modClk f).micro = s.micro := (rfl)
@[simp] theorem State.modClk_stores : (s.modClk f).stores = s.stores := (rfl)
@[simp] theorem State.modClk_returned : (s.modClk f).returned = s.returned := (rfl)
@[simp] theorem State.modClk_placedQ : (s.modClk f).placedQ = s.placedQ := (rfl)
@[simp] theorem State.modClk_pending : (s.modClk f).pending = s.pending := (rfl)
@[simp] theorem State.modClk_fn (j : Nat) : (s.modClk f).fn j = s.fn j := (rfl)
@[simp] theorem State.modClk_site (j : Nat) : (s.modClk f).site j = s.site j := (rfl)
@[simp] theorem State.modClk_queue (j : Nat) : (s.modClk f).queue j = s.queue j := (rfl)
@[simp] theorem State.modClk_hbm (j : Nat) : (s.modClk f).hbm j = s.hbm j := (rfl)
@[simp] theorem State.modClk_cal (j : Nat) : (s.modClk f).cal j = s.cal j := (rfl)
@[simp] theorem State.modClk_clu (j : Nat) : (s.modClk f).clu j = s.clu j := (rfl)
@[simp] theorem State.modClk_rgn (j : Nat) : (s.modClk f).rgn j = s.rgn j := (rfl)
@[simp] theorem State.modClk_fcu (j : Nat) : (s.modClk f).fcu j = s.fcu j := (rfl)
@[simp] theorem State.modClk_madc (j : Nat) : (s.modClk f).madc j = s.madc j := (rfl)
@[simp] theorem State.modClk_acq (j : Nat) : (s.modClk f).acq j = s.acq j := (rfl)
@[simp] theorem State.modClk_hist (j : Nat) : (s.modClk f).hist j = s.hist j := (rfl)
@[simp] theorem State.modClk_chan (j : Nat) : (s.modClk f).chan j = s.chan j := (rfl)
@[simp] theorem State.modClk_te (j : Nat) : (s.modClk f).te j = s.te j := (rfl)
@[simp] theorem State.modClk_fault (j : Nat) : (s.modClk f).fault j = s.fault j := (rfl)
@[simp] theorem State.modClk_trigIn (j : Nat) : (s.modClk f).trigIn j = s.trigIn j := (rfl)
@[simp] theorem State.modClk_trigOut (j : Nat) : (s.modClk f).trigOut j = s.trigOut j := (rfl)
@[simp] theorem State.modClk_secSite (j : Nat) : (s.modClk f).secSite j = s.secSite j := (rfl)
@[simp] theorem State.modClk_freeVal : (s.modClk f).freeVal = s.freeVal := (rfl)
@[simp] theorem State.modClk_now : (s.modClk f).now = s.now := (rfl)
@[simp] theorem State.modClk_up : (s.modClk f).up = s.up := (rfl)
@[simp] theorem State.modClk_hdr (a b : Nat) : (s.modClk f).hdr a b = s.hdr a b := (rfl)
@[simp] theorem State.modClk_clk : (s.modClk f).clk = f s.clk := (rfl)
end

/-! modSync -/
section
variable (s : State) (f : Sync → Sync)
@[simp] theorem State.modSync_grade08 : (s.modSync f).grade08 = s.grade08 := (rfl)
@[simp] theorem State.modSync_bifur : (s.modSync f).bifur = s.bifur := (rfl)
@[simp] theorem State.modSync_smbAddr : (s.modSync f).smbAddr = s.smbAddr := (rfl)
@[simp] theorem State.modSync_root : (s.modSync f).root = s.root := (rfl)
@[simp] theorem State.modSync_uptime : (s.modSync f).uptime = s.uptime := (rfl)
@[simp] theorem State.modSync_everLocked : (s.modSync f).everLocked = s.everLocked := (rfl)
@[simp] theorem State.modSync_stage : (s.modSync f).stage = s.stage := (rfl)
@[simp] theorem State.modSync_link0 : (s.modSync f).link0 = s.link0 := (rfl)
@[simp] theorem State.modSync_link1 : (s.modSync f).link1 = s.link1 := (rfl)
@[simp] theorem State.modSync_pwr : (s.modSync f).pwr = s.pwr := (rfl)
@[simp] theorem State.modSync_glb : (s.modSync f).glb = s.glb := (rfl)
@[simp] theorem State.modSync_clk : (s.modSync f).clk = s.clk := (rfl)
@[simp] theorem State.modSync_sec : (s.modSync f).sec = s.sec := (rfl)
@[simp] theorem State.modSync_hdrs : (s.modSync f).hdrs = s.hdrs := (rfl)
@[simp] theorem State.modSync_fns : (s.modSync f).fns = s.fns := (rfl)
@[simp] theorem State.modSync_sites : (s.modSync f).sites = s.sites := (rfl)
@[simp] theorem State.modSync_queues : (s.modSync f).queues = s.queues := (rfl)
@[simp] theorem State.modSync_qmgr : (s.modSync f).qmgr = s.qmgr := (rfl)
@[simp] theorem State.modSync_bmem : (s.modSync f).bmem = s.bmem := (rfl)
@[simp] theorem State.modSync_hbms : (s.modSync f).hbms = s.hbms := (rfl)
@[simp] theorem State.modSync_err : (s.modSync f).err = s.err := (rfl)
@[simp] theorem State.modSync_hlth : (s.modSync f).hlth = s.hlth := (rfl)
@[simp] theorem State.modSync_cals : (s.modSync f).cals = s.cals := (rfl)
@[simp] theorem State.modSync_clus : (s.modSync f).clus = s.clus := (rfl)
@[simp] theorem State.modSync_rgns : (s.modSync f).rgns = s.rgns := (rfl)
@[simp] theorem State.modSync_fcus : (s.modSync f).fcus = s.fcus := (rfl)
@[simp] theorem State.modSync_madcs : (s.modSync f).madcs = s.madcs := (rfl)
@[simp] theorem State.modSync_acqs : (s.modSync f).acqs = s.acqs := (rfl)
@[simp] theorem State.modSync_hists : (s.modSync f).hists = s.hists := (rfl)
@[simp] theorem State.modSync_chans : (s.modSync f).chans = s.chans := (rfl)
@[simp] theorem State.modSync_tes : (s.modSync f).tes = s.tes := (rfl)
@[simp] theorem State.modSync_mem : (s.modSync f).mem = s.mem := (rfl)
@[simp] theorem State.modSync_ctext : (s.modSync f).ctext = s.ctext := (rfl)
@[simp] theorem State.modSync_hbmHolder : (s.modSync f).hbmHolder = s.hbmHolder := (rfl)
@[simp] theorem State.modSync_bankHolder : (s.modSync f).bankHolder = s.bankHolder := (rfl)
@[simp] theorem State.modSync_nor : (s.modSync f).nor = s.nor := (rfl)
@[simp] theorem State.modSync_otp : (s.modSync f).otp = s.otp := (rfl)
@[simp] theorem State.modSync_faults : (s.modSync f).faults = s.faults := (rfl)
@[simp] theorem State.modSync_smb : (s.modSync f).smb = s.smb := (rfl)
@[simp] theorem State.modSync_jtag : (s.modSync f).jtag = s.jtag := (rfl)
@[simp] theorem State.modSync_outs : (s.modSync f).outs = s.outs := (rfl)
@[simp] theorem State.modSync_free : (s.modSync f).free = s.free := (rfl)
@[simp] theorem State.modSync_pcache : (s.modSync f).pcache = s.pcache := (rfl)
@[simp] theorem State.modSync_micro : (s.modSync f).micro = s.micro := (rfl)
@[simp] theorem State.modSync_stores : (s.modSync f).stores = s.stores := (rfl)
@[simp] theorem State.modSync_returned : (s.modSync f).returned = s.returned := (rfl)
@[simp] theorem State.modSync_placedQ : (s.modSync f).placedQ = s.placedQ := (rfl)
@[simp] theorem State.modSync_pending : (s.modSync f).pending = s.pending := (rfl)
@[simp] theorem State.modSync_fn (j : Nat) : (s.modSync f).fn j = s.fn j := (rfl)
@[simp] theorem State.modSync_site (j : Nat) : (s.modSync f).site j = s.site j := (rfl)
@[simp] theorem State.modSync_queue (j : Nat) : (s.modSync f).queue j = s.queue j := (rfl)
@[simp] theorem State.modSync_hbm (j : Nat) : (s.modSync f).hbm j = s.hbm j := (rfl)
@[simp] theorem State.modSync_cal (j : Nat) : (s.modSync f).cal j = s.cal j := (rfl)
@[simp] theorem State.modSync_clu (j : Nat) : (s.modSync f).clu j = s.clu j := (rfl)
@[simp] theorem State.modSync_rgn (j : Nat) : (s.modSync f).rgn j = s.rgn j := (rfl)
@[simp] theorem State.modSync_fcu (j : Nat) : (s.modSync f).fcu j = s.fcu j := (rfl)
@[simp] theorem State.modSync_madc (j : Nat) : (s.modSync f).madc j = s.madc j := (rfl)
@[simp] theorem State.modSync_acq (j : Nat) : (s.modSync f).acq j = s.acq j := (rfl)
@[simp] theorem State.modSync_hist (j : Nat) : (s.modSync f).hist j = s.hist j := (rfl)
@[simp] theorem State.modSync_chan (j : Nat) : (s.modSync f).chan j = s.chan j := (rfl)
@[simp] theorem State.modSync_te (j : Nat) : (s.modSync f).te j = s.te j := (rfl)
@[simp] theorem State.modSync_fault (j : Nat) : (s.modSync f).fault j = s.fault j := (rfl)
@[simp] theorem State.modSync_secSite (j : Nat) : (s.modSync f).secSite j = s.secSite j := (rfl)
@[simp] theorem State.modSync_freeVal : (s.modSync f).freeVal = s.freeVal := (rfl)
@[simp] theorem State.modSync_now : (s.modSync f).now = s.now := (rfl)
@[simp] theorem State.modSync_up : (s.modSync f).up = s.up := (rfl)
@[simp] theorem State.modSync_hdr (a b : Nat) : (s.modSync f).hdr a b = s.hdr a b := (rfl)
@[simp] theorem State.modSync_sync : (s.modSync f).sync = f s.sync := (rfl)
end

/-! modSec -/
section
variable (s : State) (f : Sec → Sec)
@[simp] theorem State.modSec_grade08 : (s.modSec f).grade08 = s.grade08 := (rfl)
@[simp] theorem State.modSec_bifur : (s.modSec f).bifur = s.bifur := (rfl)
@[simp] theorem State.modSec_smbAddr : (s.modSec f).smbAddr = s.smbAddr := (rfl)
@[simp] theorem State.modSec_root : (s.modSec f).root = s.root := (rfl)
@[simp] theorem State.modSec_uptime : (s.modSec f).uptime = s.uptime := (rfl)
@[simp] theorem State.modSec_everLocked : (s.modSec f).everLocked = s.everLocked := (rfl)
@[simp] theorem State.modSec_stage : (s.modSec f).stage = s.stage := (rfl)
@[simp] theorem State.modSec_link0 : (s.modSec f).link0 = s.link0 := (rfl)
@[simp] theorem State.modSec_link1 : (s.modSec f).link1 = s.link1 := (rfl)
@[simp] theorem State.modSec_pwr : (s.modSec f).pwr = s.pwr := (rfl)
@[simp] theorem State.modSec_glb : (s.modSec f).glb = s.glb := (rfl)
@[simp] theorem State.modSec_clk : (s.modSec f).clk = s.clk := (rfl)
@[simp] theorem State.modSec_sync : (s.modSec f).sync = s.sync := (rfl)
@[simp] theorem State.modSec_hdrs : (s.modSec f).hdrs = s.hdrs := (rfl)
@[simp] theorem State.modSec_fns : (s.modSec f).fns = s.fns := (rfl)
@[simp] theorem State.modSec_sites : (s.modSec f).sites = s.sites := (rfl)
@[simp] theorem State.modSec_queues : (s.modSec f).queues = s.queues := (rfl)
@[simp] theorem State.modSec_qmgr : (s.modSec f).qmgr = s.qmgr := (rfl)
@[simp] theorem State.modSec_bmem : (s.modSec f).bmem = s.bmem := (rfl)
@[simp] theorem State.modSec_hbms : (s.modSec f).hbms = s.hbms := (rfl)
@[simp] theorem State.modSec_err : (s.modSec f).err = s.err := (rfl)
@[simp] theorem State.modSec_hlth : (s.modSec f).hlth = s.hlth := (rfl)
@[simp] theorem State.modSec_cals : (s.modSec f).cals = s.cals := (rfl)
@[simp] theorem State.modSec_clus : (s.modSec f).clus = s.clus := (rfl)
@[simp] theorem State.modSec_rgns : (s.modSec f).rgns = s.rgns := (rfl)
@[simp] theorem State.modSec_fcus : (s.modSec f).fcus = s.fcus := (rfl)
@[simp] theorem State.modSec_madcs : (s.modSec f).madcs = s.madcs := (rfl)
@[simp] theorem State.modSec_acqs : (s.modSec f).acqs = s.acqs := (rfl)
@[simp] theorem State.modSec_hists : (s.modSec f).hists = s.hists := (rfl)
@[simp] theorem State.modSec_chans : (s.modSec f).chans = s.chans := (rfl)
@[simp] theorem State.modSec_tes : (s.modSec f).tes = s.tes := (rfl)
@[simp] theorem State.modSec_mem : (s.modSec f).mem = s.mem := (rfl)
@[simp] theorem State.modSec_ctext : (s.modSec f).ctext = s.ctext := (rfl)
@[simp] theorem State.modSec_hbmHolder : (s.modSec f).hbmHolder = s.hbmHolder := (rfl)
@[simp] theorem State.modSec_bankHolder : (s.modSec f).bankHolder = s.bankHolder := (rfl)
@[simp] theorem State.modSec_nor : (s.modSec f).nor = s.nor := (rfl)
@[simp] theorem State.modSec_otp : (s.modSec f).otp = s.otp := (rfl)
@[simp] theorem State.modSec_faults : (s.modSec f).faults = s.faults := (rfl)
@[simp] theorem State.modSec_smb : (s.modSec f).smb = s.smb := (rfl)
@[simp] theorem State.modSec_jtag : (s.modSec f).jtag = s.jtag := (rfl)
@[simp] theorem State.modSec_outs : (s.modSec f).outs = s.outs := (rfl)
@[simp] theorem State.modSec_free : (s.modSec f).free = s.free := (rfl)
@[simp] theorem State.modSec_pcache : (s.modSec f).pcache = s.pcache := (rfl)
@[simp] theorem State.modSec_micro : (s.modSec f).micro = s.micro := (rfl)
@[simp] theorem State.modSec_stores : (s.modSec f).stores = s.stores := (rfl)
@[simp] theorem State.modSec_returned : (s.modSec f).returned = s.returned := (rfl)
@[simp] theorem State.modSec_placedQ : (s.modSec f).placedQ = s.placedQ := (rfl)
@[simp] theorem State.modSec_pending : (s.modSec f).pending = s.pending := (rfl)
@[simp] theorem State.modSec_fn (j : Nat) : (s.modSec f).fn j = s.fn j := (rfl)
@[simp] theorem State.modSec_site (j : Nat) : (s.modSec f).site j = s.site j := (rfl)
@[simp] theorem State.modSec_queue (j : Nat) : (s.modSec f).queue j = s.queue j := (rfl)
@[simp] theorem State.modSec_hbm (j : Nat) : (s.modSec f).hbm j = s.hbm j := (rfl)
@[simp] theorem State.modSec_cal (j : Nat) : (s.modSec f).cal j = s.cal j := (rfl)
@[simp] theorem State.modSec_clu (j : Nat) : (s.modSec f).clu j = s.clu j := (rfl)
@[simp] theorem State.modSec_rgn (j : Nat) : (s.modSec f).rgn j = s.rgn j := (rfl)
@[simp] theorem State.modSec_fcu (j : Nat) : (s.modSec f).fcu j = s.fcu j := (rfl)
@[simp] theorem State.modSec_madc (j : Nat) : (s.modSec f).madc j = s.madc j := (rfl)
@[simp] theorem State.modSec_acq (j : Nat) : (s.modSec f).acq j = s.acq j := (rfl)
@[simp] theorem State.modSec_hist (j : Nat) : (s.modSec f).hist j = s.hist j := (rfl)
@[simp] theorem State.modSec_chan (j : Nat) : (s.modSec f).chan j = s.chan j := (rfl)
@[simp] theorem State.modSec_te (j : Nat) : (s.modSec f).te j = s.te j := (rfl)
@[simp] theorem State.modSec_fault (j : Nat) : (s.modSec f).fault j = s.fault j := (rfl)
@[simp] theorem State.modSec_trigIn (j : Nat) : (s.modSec f).trigIn j = s.trigIn j := (rfl)
@[simp] theorem State.modSec_trigOut (j : Nat) : (s.modSec f).trigOut j = s.trigOut j := (rfl)
@[simp] theorem State.modSec_freeVal : (s.modSec f).freeVal = s.freeVal := (rfl)
@[simp] theorem State.modSec_now : (s.modSec f).now = s.now := (rfl)
@[simp] theorem State.modSec_up : (s.modSec f).up = s.up := (rfl)
@[simp] theorem State.modSec_hdr (a b : Nat) : (s.modSec f).hdr a b = s.hdr a b := (rfl)
@[simp] theorem State.modSec_sec : (s.modSec f).sec = f s.sec := (rfl)
end

/-! modErr -/
section
variable (s : State) (f : ErrLog → ErrLog)
@[simp] theorem State.modErr_grade08 : (s.modErr f).grade08 = s.grade08 := (rfl)
@[simp] theorem State.modErr_bifur : (s.modErr f).bifur = s.bifur := (rfl)
@[simp] theorem State.modErr_smbAddr : (s.modErr f).smbAddr = s.smbAddr := (rfl)
@[simp] theorem State.modErr_root : (s.modErr f).root = s.root := (rfl)
@[simp] theorem State.modErr_uptime : (s.modErr f).uptime = s.uptime := (rfl)
@[simp] theorem State.modErr_everLocked : (s.modErr f).everLocked = s.everLocked := (rfl)
@[simp] theorem State.modErr_stage : (s.modErr f).stage = s.stage := (rfl)
@[simp] theorem State.modErr_link0 : (s.modErr f).link0 = s.link0 := (rfl)
@[simp] theorem State.modErr_link1 : (s.modErr f).link1 = s.link1 := (rfl)
@[simp] theorem State.modErr_pwr : (s.modErr f).pwr = s.pwr := (rfl)
@[simp] theorem State.modErr_glb : (s.modErr f).glb = s.glb := (rfl)
@[simp] theorem State.modErr_clk : (s.modErr f).clk = s.clk := (rfl)
@[simp] theorem State.modErr_sync : (s.modErr f).sync = s.sync := (rfl)
@[simp] theorem State.modErr_sec : (s.modErr f).sec = s.sec := (rfl)
@[simp] theorem State.modErr_hdrs : (s.modErr f).hdrs = s.hdrs := (rfl)
@[simp] theorem State.modErr_fns : (s.modErr f).fns = s.fns := (rfl)
@[simp] theorem State.modErr_sites : (s.modErr f).sites = s.sites := (rfl)
@[simp] theorem State.modErr_queues : (s.modErr f).queues = s.queues := (rfl)
@[simp] theorem State.modErr_qmgr : (s.modErr f).qmgr = s.qmgr := (rfl)
@[simp] theorem State.modErr_bmem : (s.modErr f).bmem = s.bmem := (rfl)
@[simp] theorem State.modErr_hbms : (s.modErr f).hbms = s.hbms := (rfl)
@[simp] theorem State.modErr_hlth : (s.modErr f).hlth = s.hlth := (rfl)
@[simp] theorem State.modErr_cals : (s.modErr f).cals = s.cals := (rfl)
@[simp] theorem State.modErr_clus : (s.modErr f).clus = s.clus := (rfl)
@[simp] theorem State.modErr_rgns : (s.modErr f).rgns = s.rgns := (rfl)
@[simp] theorem State.modErr_fcus : (s.modErr f).fcus = s.fcus := (rfl)
@[simp] theorem State.modErr_madcs : (s.modErr f).madcs = s.madcs := (rfl)
@[simp] theorem State.modErr_acqs : (s.modErr f).acqs = s.acqs := (rfl)
@[simp] theorem State.modErr_hists : (s.modErr f).hists = s.hists := (rfl)
@[simp] theorem State.modErr_chans : (s.modErr f).chans = s.chans := (rfl)
@[simp] theorem State.modErr_tes : (s.modErr f).tes = s.tes := (rfl)
@[simp] theorem State.modErr_mem : (s.modErr f).mem = s.mem := (rfl)
@[simp] theorem State.modErr_ctext : (s.modErr f).ctext = s.ctext := (rfl)
@[simp] theorem State.modErr_hbmHolder : (s.modErr f).hbmHolder = s.hbmHolder := (rfl)
@[simp] theorem State.modErr_bankHolder : (s.modErr f).bankHolder = s.bankHolder := (rfl)
@[simp] theorem State.modErr_nor : (s.modErr f).nor = s.nor := (rfl)
@[simp] theorem State.modErr_otp : (s.modErr f).otp = s.otp := (rfl)
@[simp] theorem State.modErr_faults : (s.modErr f).faults = s.faults := (rfl)
@[simp] theorem State.modErr_smb : (s.modErr f).smb = s.smb := (rfl)
@[simp] theorem State.modErr_jtag : (s.modErr f).jtag = s.jtag := (rfl)
@[simp] theorem State.modErr_outs : (s.modErr f).outs = s.outs := (rfl)
@[simp] theorem State.modErr_free : (s.modErr f).free = s.free := (rfl)
@[simp] theorem State.modErr_pcache : (s.modErr f).pcache = s.pcache := (rfl)
@[simp] theorem State.modErr_micro : (s.modErr f).micro = s.micro := (rfl)
@[simp] theorem State.modErr_stores : (s.modErr f).stores = s.stores := (rfl)
@[simp] theorem State.modErr_returned : (s.modErr f).returned = s.returned := (rfl)
@[simp] theorem State.modErr_placedQ : (s.modErr f).placedQ = s.placedQ := (rfl)
@[simp] theorem State.modErr_pending : (s.modErr f).pending = s.pending := (rfl)
@[simp] theorem State.modErr_fn (j : Nat) : (s.modErr f).fn j = s.fn j := (rfl)
@[simp] theorem State.modErr_site (j : Nat) : (s.modErr f).site j = s.site j := (rfl)
@[simp] theorem State.modErr_queue (j : Nat) : (s.modErr f).queue j = s.queue j := (rfl)
@[simp] theorem State.modErr_hbm (j : Nat) : (s.modErr f).hbm j = s.hbm j := (rfl)
@[simp] theorem State.modErr_cal (j : Nat) : (s.modErr f).cal j = s.cal j := (rfl)
@[simp] theorem State.modErr_clu (j : Nat) : (s.modErr f).clu j = s.clu j := (rfl)
@[simp] theorem State.modErr_rgn (j : Nat) : (s.modErr f).rgn j = s.rgn j := (rfl)
@[simp] theorem State.modErr_fcu (j : Nat) : (s.modErr f).fcu j = s.fcu j := (rfl)
@[simp] theorem State.modErr_madc (j : Nat) : (s.modErr f).madc j = s.madc j := (rfl)
@[simp] theorem State.modErr_acq (j : Nat) : (s.modErr f).acq j = s.acq j := (rfl)
@[simp] theorem State.modErr_hist (j : Nat) : (s.modErr f).hist j = s.hist j := (rfl)
@[simp] theorem State.modErr_chan (j : Nat) : (s.modErr f).chan j = s.chan j := (rfl)
@[simp] theorem State.modErr_te (j : Nat) : (s.modErr f).te j = s.te j := (rfl)
@[simp] theorem State.modErr_fault (j : Nat) : (s.modErr f).fault j = s.fault j := (rfl)
@[simp] theorem State.modErr_trigIn (j : Nat) : (s.modErr f).trigIn j = s.trigIn j := (rfl)
@[simp] theorem State.modErr_trigOut (j : Nat) : (s.modErr f).trigOut j = s.trigOut j := (rfl)
@[simp] theorem State.modErr_secSite (j : Nat) : (s.modErr f).secSite j = s.secSite j := (rfl)
@[simp] theorem State.modErr_freeVal : (s.modErr f).freeVal = s.freeVal := (rfl)
@[simp] theorem State.modErr_now : (s.modErr f).now = s.now := (rfl)
@[simp] theorem State.modErr_up : (s.modErr f).up = s.up := (rfl)
@[simp] theorem State.modErr_hdr (a b : Nat) : (s.modErr f).hdr a b = s.hdr a b := (rfl)
@[simp] theorem State.modErr_err : (s.modErr f).err = f s.err := (rfl)
end

/-! modHlth -/
section
variable (s : State) (f : Hlth → Hlth)
@[simp] theorem State.modHlth_grade08 : (s.modHlth f).grade08 = s.grade08 := (rfl)
@[simp] theorem State.modHlth_bifur : (s.modHlth f).bifur = s.bifur := (rfl)
@[simp] theorem State.modHlth_smbAddr : (s.modHlth f).smbAddr = s.smbAddr := (rfl)
@[simp] theorem State.modHlth_root : (s.modHlth f).root = s.root := (rfl)
@[simp] theorem State.modHlth_uptime : (s.modHlth f).uptime = s.uptime := (rfl)
@[simp] theorem State.modHlth_everLocked : (s.modHlth f).everLocked = s.everLocked := (rfl)
@[simp] theorem State.modHlth_stage : (s.modHlth f).stage = s.stage := (rfl)
@[simp] theorem State.modHlth_link0 : (s.modHlth f).link0 = s.link0 := (rfl)
@[simp] theorem State.modHlth_link1 : (s.modHlth f).link1 = s.link1 := (rfl)
@[simp] theorem State.modHlth_pwr : (s.modHlth f).pwr = s.pwr := (rfl)
@[simp] theorem State.modHlth_glb : (s.modHlth f).glb = s.glb := (rfl)
@[simp] theorem State.modHlth_clk : (s.modHlth f).clk = s.clk := (rfl)
@[simp] theorem State.modHlth_sync : (s.modHlth f).sync = s.sync := (rfl)
@[simp] theorem State.modHlth_sec : (s.modHlth f).sec = s.sec := (rfl)
@[simp] theorem State.modHlth_hdrs : (s.modHlth f).hdrs = s.hdrs := (rfl)
@[simp] theorem State.modHlth_fns : (s.modHlth f).fns = s.fns := (rfl)
@[simp] theorem State.modHlth_sites : (s.modHlth f).sites = s.sites := (rfl)
@[simp] theorem State.modHlth_queues : (s.modHlth f).queues = s.queues := (rfl)
@[simp] theorem State.modHlth_qmgr : (s.modHlth f).qmgr = s.qmgr := (rfl)
@[simp] theorem State.modHlth_bmem : (s.modHlth f).bmem = s.bmem := (rfl)
@[simp] theorem State.modHlth_hbms : (s.modHlth f).hbms = s.hbms := (rfl)
@[simp] theorem State.modHlth_err : (s.modHlth f).err = s.err := (rfl)
@[simp] theorem State.modHlth_cals : (s.modHlth f).cals = s.cals := (rfl)
@[simp] theorem State.modHlth_clus : (s.modHlth f).clus = s.clus := (rfl)
@[simp] theorem State.modHlth_rgns : (s.modHlth f).rgns = s.rgns := (rfl)
@[simp] theorem State.modHlth_fcus : (s.modHlth f).fcus = s.fcus := (rfl)
@[simp] theorem State.modHlth_madcs : (s.modHlth f).madcs = s.madcs := (rfl)
@[simp] theorem State.modHlth_acqs : (s.modHlth f).acqs = s.acqs := (rfl)
@[simp] theorem State.modHlth_hists : (s.modHlth f).hists = s.hists := (rfl)
@[simp] theorem State.modHlth_chans : (s.modHlth f).chans = s.chans := (rfl)
@[simp] theorem State.modHlth_tes : (s.modHlth f).tes = s.tes := (rfl)
@[simp] theorem State.modHlth_mem : (s.modHlth f).mem = s.mem := (rfl)
@[simp] theorem State.modHlth_ctext : (s.modHlth f).ctext = s.ctext := (rfl)
@[simp] theorem State.modHlth_hbmHolder : (s.modHlth f).hbmHolder = s.hbmHolder := (rfl)
@[simp] theorem State.modHlth_bankHolder : (s.modHlth f).bankHolder = s.bankHolder := (rfl)
@[simp] theorem State.modHlth_nor : (s.modHlth f).nor = s.nor := (rfl)
@[simp] theorem State.modHlth_otp : (s.modHlth f).otp = s.otp := (rfl)
@[simp] theorem State.modHlth_faults : (s.modHlth f).faults = s.faults := (rfl)
@[simp] theorem State.modHlth_smb : (s.modHlth f).smb = s.smb := (rfl)
@[simp] theorem State.modHlth_jtag : (s.modHlth f).jtag = s.jtag := (rfl)
@[simp] theorem State.modHlth_outs : (s.modHlth f).outs = s.outs := (rfl)
@[simp] theorem State.modHlth_free : (s.modHlth f).free = s.free := (rfl)
@[simp] theorem State.modHlth_pcache : (s.modHlth f).pcache = s.pcache := (rfl)
@[simp] theorem State.modHlth_micro : (s.modHlth f).micro = s.micro := (rfl)
@[simp] theorem State.modHlth_stores : (s.modHlth f).stores = s.stores := (rfl)
@[simp] theorem State.modHlth_returned : (s.modHlth f).returned = s.returned := (rfl)
@[simp] theorem State.modHlth_placedQ : (s.modHlth f).placedQ = s.placedQ := (rfl)
@[simp] theorem State.modHlth_pending : (s.modHlth f).pending = s.pending := (rfl)
@[simp] theorem State.modHlth_fn (j : Nat) : (s.modHlth f).fn j = s.fn j := (rfl)
@[simp] theorem State.modHlth_site (j : Nat) : (s.modHlth f).site j = s.site j := (rfl)
@[simp] theorem State.modHlth_queue (j : Nat) : (s.modHlth f).queue j = s.queue j := (rfl)
@[simp] theorem State.modHlth_hbm (j : Nat) : (s.modHlth f).hbm j = s.hbm j := (rfl)
@[simp] theorem State.modHlth_cal (j : Nat) : (s.modHlth f).cal j = s.cal j := (rfl)
@[simp] theorem State.modHlth_clu (j : Nat) : (s.modHlth f).clu j = s.clu j := (rfl)
@[simp] theorem State.modHlth_rgn (j : Nat) : (s.modHlth f).rgn j = s.rgn j := (rfl)
@[simp] theorem State.modHlth_fcu (j : Nat) : (s.modHlth f).fcu j = s.fcu j := (rfl)
@[simp] theorem State.modHlth_madc (j : Nat) : (s.modHlth f).madc j = s.madc j := (rfl)
@[simp] theorem State.modHlth_acq (j : Nat) : (s.modHlth f).acq j = s.acq j := (rfl)
@[simp] theorem State.modHlth_hist (j : Nat) : (s.modHlth f).hist j = s.hist j := (rfl)
@[simp] theorem State.modHlth_chan (j : Nat) : (s.modHlth f).chan j = s.chan j := (rfl)
@[simp] theorem State.modHlth_te (j : Nat) : (s.modHlth f).te j = s.te j := (rfl)
@[simp] theorem State.modHlth_fault (j : Nat) : (s.modHlth f).fault j = s.fault j := (rfl)
@[simp] theorem State.modHlth_trigIn (j : Nat) : (s.modHlth f).trigIn j = s.trigIn j := (rfl)
@[simp] theorem State.modHlth_trigOut (j : Nat) : (s.modHlth f).trigOut j = s.trigOut j := (rfl)
@[simp] theorem State.modHlth_secSite (j : Nat) : (s.modHlth f).secSite j = s.secSite j := (rfl)
@[simp] theorem State.modHlth_freeVal : (s.modHlth f).freeVal = s.freeVal := (rfl)
@[simp] theorem State.modHlth_now : (s.modHlth f).now = s.now := (rfl)
@[simp] theorem State.modHlth_up : (s.modHlth f).up = s.up := (rfl)
@[simp] theorem State.modHlth_hdr (a b : Nat) : (s.modHlth f).hdr a b = s.hdr a b := (rfl)
@[simp] theorem State.modHlth_hlth : (s.modHlth f).hlth = f s.hlth := (rfl)
end

/-! modBmem -/
section
variable (s : State) (f : Bmem → Bmem)
@[simp] theorem State.modBmem_grade08 : (s.modBmem f).grade08 = s.grade08 := (rfl)
@[simp] theorem State.modBmem_bifur : (s.modBmem f).bifur = s.bifur := (rfl)
@[simp] theorem State.modBmem_smbAddr : (s.modBmem f).smbAddr = s.smbAddr := (rfl)
@[simp] theorem State.modBmem_root : (s.modBmem f).root = s.root := (rfl)
@[simp] theorem State.modBmem_uptime : (s.modBmem f).uptime = s.uptime := (rfl)
@[simp] theorem State.modBmem_everLocked : (s.modBmem f).everLocked = s.everLocked := (rfl)
@[simp] theorem State.modBmem_stage : (s.modBmem f).stage = s.stage := (rfl)
@[simp] theorem State.modBmem_link0 : (s.modBmem f).link0 = s.link0 := (rfl)
@[simp] theorem State.modBmem_link1 : (s.modBmem f).link1 = s.link1 := (rfl)
@[simp] theorem State.modBmem_pwr : (s.modBmem f).pwr = s.pwr := (rfl)
@[simp] theorem State.modBmem_glb : (s.modBmem f).glb = s.glb := (rfl)
@[simp] theorem State.modBmem_clk : (s.modBmem f).clk = s.clk := (rfl)
@[simp] theorem State.modBmem_sync : (s.modBmem f).sync = s.sync := (rfl)
@[simp] theorem State.modBmem_sec : (s.modBmem f).sec = s.sec := (rfl)
@[simp] theorem State.modBmem_hdrs : (s.modBmem f).hdrs = s.hdrs := (rfl)
@[simp] theorem State.modBmem_fns : (s.modBmem f).fns = s.fns := (rfl)
@[simp] theorem State.modBmem_sites : (s.modBmem f).sites = s.sites := (rfl)
@[simp] theorem State.modBmem_queues : (s.modBmem f).queues = s.queues := (rfl)
@[simp] theorem State.modBmem_qmgr : (s.modBmem f).qmgr = s.qmgr := (rfl)
@[simp] theorem State.modBmem_hbms : (s.modBmem f).hbms = s.hbms := (rfl)
@[simp] theorem State.modBmem_err : (s.modBmem f).err = s.err := (rfl)
@[simp] theorem State.modBmem_hlth : (s.modBmem f).hlth = s.hlth := (rfl)
@[simp] theorem State.modBmem_cals : (s.modBmem f).cals = s.cals := (rfl)
@[simp] theorem State.modBmem_clus : (s.modBmem f).clus = s.clus := (rfl)
@[simp] theorem State.modBmem_rgns : (s.modBmem f).rgns = s.rgns := (rfl)
@[simp] theorem State.modBmem_fcus : (s.modBmem f).fcus = s.fcus := (rfl)
@[simp] theorem State.modBmem_madcs : (s.modBmem f).madcs = s.madcs := (rfl)
@[simp] theorem State.modBmem_acqs : (s.modBmem f).acqs = s.acqs := (rfl)
@[simp] theorem State.modBmem_hists : (s.modBmem f).hists = s.hists := (rfl)
@[simp] theorem State.modBmem_chans : (s.modBmem f).chans = s.chans := (rfl)
@[simp] theorem State.modBmem_tes : (s.modBmem f).tes = s.tes := (rfl)
@[simp] theorem State.modBmem_mem : (s.modBmem f).mem = s.mem := (rfl)
@[simp] theorem State.modBmem_ctext : (s.modBmem f).ctext = s.ctext := (rfl)
@[simp] theorem State.modBmem_hbmHolder : (s.modBmem f).hbmHolder = s.hbmHolder := (rfl)
@[simp] theorem State.modBmem_bankHolder : (s.modBmem f).bankHolder = s.bankHolder := (rfl)
@[simp] theorem State.modBmem_nor : (s.modBmem f).nor = s.nor := (rfl)
@[simp] theorem State.modBmem_otp : (s.modBmem f).otp = s.otp := (rfl)
@[simp] theorem State.modBmem_faults : (s.modBmem f).faults = s.faults := (rfl)
@[simp] theorem State.modBmem_smb : (s.modBmem f).smb = s.smb := (rfl)
@[simp] theorem State.modBmem_jtag : (s.modBmem f).jtag = s.jtag := (rfl)
@[simp] theorem State.modBmem_outs : (s.modBmem f).outs = s.outs := (rfl)
@[simp] theorem State.modBmem_free : (s.modBmem f).free = s.free := (rfl)
@[simp] theorem State.modBmem_pcache : (s.modBmem f).pcache = s.pcache := (rfl)
@[simp] theorem State.modBmem_micro : (s.modBmem f).micro = s.micro := (rfl)
@[simp] theorem State.modBmem_stores : (s.modBmem f).stores = s.stores := (rfl)
@[simp] theorem State.modBmem_returned : (s.modBmem f).returned = s.returned := (rfl)
@[simp] theorem State.modBmem_placedQ : (s.modBmem f).placedQ = s.placedQ := (rfl)
@[simp] theorem State.modBmem_pending : (s.modBmem f).pending = s.pending := (rfl)
@[simp] theorem State.modBmem_fn (j : Nat) : (s.modBmem f).fn j = s.fn j := (rfl)
@[simp] theorem State.modBmem_site (j : Nat) : (s.modBmem f).site j = s.site j := (rfl)
@[simp] theorem State.modBmem_queue (j : Nat) : (s.modBmem f).queue j = s.queue j := (rfl)
@[simp] theorem State.modBmem_hbm (j : Nat) : (s.modBmem f).hbm j = s.hbm j := (rfl)
@[simp] theorem State.modBmem_cal (j : Nat) : (s.modBmem f).cal j = s.cal j := (rfl)
@[simp] theorem State.modBmem_clu (j : Nat) : (s.modBmem f).clu j = s.clu j := (rfl)
@[simp] theorem State.modBmem_rgn (j : Nat) : (s.modBmem f).rgn j = s.rgn j := (rfl)
@[simp] theorem State.modBmem_fcu (j : Nat) : (s.modBmem f).fcu j = s.fcu j := (rfl)
@[simp] theorem State.modBmem_madc (j : Nat) : (s.modBmem f).madc j = s.madc j := (rfl)
@[simp] theorem State.modBmem_acq (j : Nat) : (s.modBmem f).acq j = s.acq j := (rfl)
@[simp] theorem State.modBmem_hist (j : Nat) : (s.modBmem f).hist j = s.hist j := (rfl)
@[simp] theorem State.modBmem_chan (j : Nat) : (s.modBmem f).chan j = s.chan j := (rfl)
@[simp] theorem State.modBmem_te (j : Nat) : (s.modBmem f).te j = s.te j := (rfl)
@[simp] theorem State.modBmem_fault (j : Nat) : (s.modBmem f).fault j = s.fault j := (rfl)
@[simp] theorem State.modBmem_trigIn (j : Nat) : (s.modBmem f).trigIn j = s.trigIn j := (rfl)
@[simp] theorem State.modBmem_trigOut (j : Nat) : (s.modBmem f).trigOut j = s.trigOut j := (rfl)
@[simp] theorem State.modBmem_secSite (j : Nat) : (s.modBmem f).secSite j = s.secSite j := (rfl)
@[simp] theorem State.modBmem_freeVal : (s.modBmem f).freeVal = s.freeVal := (rfl)
@[simp] theorem State.modBmem_now : (s.modBmem f).now = s.now := (rfl)
@[simp] theorem State.modBmem_up : (s.modBmem f).up = s.up := (rfl)
@[simp] theorem State.modBmem_hdr (a b : Nat) : (s.modBmem f).hdr a b = s.hdr a b := (rfl)
@[simp] theorem State.modBmem_bmem : (s.modBmem f).bmem = f s.bmem := (rfl)
end

/-! modQmgr -/
section
variable (s : State) (f : Qmgr → Qmgr)
@[simp] theorem State.modQmgr_grade08 : (s.modQmgr f).grade08 = s.grade08 := (rfl)
@[simp] theorem State.modQmgr_bifur : (s.modQmgr f).bifur = s.bifur := (rfl)
@[simp] theorem State.modQmgr_smbAddr : (s.modQmgr f).smbAddr = s.smbAddr := (rfl)
@[simp] theorem State.modQmgr_root : (s.modQmgr f).root = s.root := (rfl)
@[simp] theorem State.modQmgr_uptime : (s.modQmgr f).uptime = s.uptime := (rfl)
@[simp] theorem State.modQmgr_everLocked : (s.modQmgr f).everLocked = s.everLocked := (rfl)
@[simp] theorem State.modQmgr_stage : (s.modQmgr f).stage = s.stage := (rfl)
@[simp] theorem State.modQmgr_link0 : (s.modQmgr f).link0 = s.link0 := (rfl)
@[simp] theorem State.modQmgr_link1 : (s.modQmgr f).link1 = s.link1 := (rfl)
@[simp] theorem State.modQmgr_pwr : (s.modQmgr f).pwr = s.pwr := (rfl)
@[simp] theorem State.modQmgr_glb : (s.modQmgr f).glb = s.glb := (rfl)
@[simp] theorem State.modQmgr_clk : (s.modQmgr f).clk = s.clk := (rfl)
@[simp] theorem State.modQmgr_sync : (s.modQmgr f).sync = s.sync := (rfl)
@[simp] theorem State.modQmgr_sec : (s.modQmgr f).sec = s.sec := (rfl)
@[simp] theorem State.modQmgr_hdrs : (s.modQmgr f).hdrs = s.hdrs := (rfl)
@[simp] theorem State.modQmgr_fns : (s.modQmgr f).fns = s.fns := (rfl)
@[simp] theorem State.modQmgr_sites : (s.modQmgr f).sites = s.sites := (rfl)
@[simp] theorem State.modQmgr_queues : (s.modQmgr f).queues = s.queues := (rfl)
@[simp] theorem State.modQmgr_bmem : (s.modQmgr f).bmem = s.bmem := (rfl)
@[simp] theorem State.modQmgr_hbms : (s.modQmgr f).hbms = s.hbms := (rfl)
@[simp] theorem State.modQmgr_err : (s.modQmgr f).err = s.err := (rfl)
@[simp] theorem State.modQmgr_hlth : (s.modQmgr f).hlth = s.hlth := (rfl)
@[simp] theorem State.modQmgr_cals : (s.modQmgr f).cals = s.cals := (rfl)
@[simp] theorem State.modQmgr_clus : (s.modQmgr f).clus = s.clus := (rfl)
@[simp] theorem State.modQmgr_rgns : (s.modQmgr f).rgns = s.rgns := (rfl)
@[simp] theorem State.modQmgr_fcus : (s.modQmgr f).fcus = s.fcus := (rfl)
@[simp] theorem State.modQmgr_madcs : (s.modQmgr f).madcs = s.madcs := (rfl)
@[simp] theorem State.modQmgr_acqs : (s.modQmgr f).acqs = s.acqs := (rfl)
@[simp] theorem State.modQmgr_hists : (s.modQmgr f).hists = s.hists := (rfl)
@[simp] theorem State.modQmgr_chans : (s.modQmgr f).chans = s.chans := (rfl)
@[simp] theorem State.modQmgr_tes : (s.modQmgr f).tes = s.tes := (rfl)
@[simp] theorem State.modQmgr_mem : (s.modQmgr f).mem = s.mem := (rfl)
@[simp] theorem State.modQmgr_ctext : (s.modQmgr f).ctext = s.ctext := (rfl)
@[simp] theorem State.modQmgr_hbmHolder : (s.modQmgr f).hbmHolder = s.hbmHolder := (rfl)
@[simp] theorem State.modQmgr_bankHolder : (s.modQmgr f).bankHolder = s.bankHolder := (rfl)
@[simp] theorem State.modQmgr_nor : (s.modQmgr f).nor = s.nor := (rfl)
@[simp] theorem State.modQmgr_otp : (s.modQmgr f).otp = s.otp := (rfl)
@[simp] theorem State.modQmgr_faults : (s.modQmgr f).faults = s.faults := (rfl)
@[simp] theorem State.modQmgr_smb : (s.modQmgr f).smb = s.smb := (rfl)
@[simp] theorem State.modQmgr_jtag : (s.modQmgr f).jtag = s.jtag := (rfl)
@[simp] theorem State.modQmgr_outs : (s.modQmgr f).outs = s.outs := (rfl)
@[simp] theorem State.modQmgr_free : (s.modQmgr f).free = s.free := (rfl)
@[simp] theorem State.modQmgr_pcache : (s.modQmgr f).pcache = s.pcache := (rfl)
@[simp] theorem State.modQmgr_micro : (s.modQmgr f).micro = s.micro := (rfl)
@[simp] theorem State.modQmgr_stores : (s.modQmgr f).stores = s.stores := (rfl)
@[simp] theorem State.modQmgr_returned : (s.modQmgr f).returned = s.returned := (rfl)
@[simp] theorem State.modQmgr_placedQ : (s.modQmgr f).placedQ = s.placedQ := (rfl)
@[simp] theorem State.modQmgr_pending : (s.modQmgr f).pending = s.pending := (rfl)
@[simp] theorem State.modQmgr_fn (j : Nat) : (s.modQmgr f).fn j = s.fn j := (rfl)
@[simp] theorem State.modQmgr_site (j : Nat) : (s.modQmgr f).site j = s.site j := (rfl)
@[simp] theorem State.modQmgr_queue (j : Nat) : (s.modQmgr f).queue j = s.queue j := (rfl)
@[simp] theorem State.modQmgr_hbm (j : Nat) : (s.modQmgr f).hbm j = s.hbm j := (rfl)
@[simp] theorem State.modQmgr_cal (j : Nat) : (s.modQmgr f).cal j = s.cal j := (rfl)
@[simp] theorem State.modQmgr_clu (j : Nat) : (s.modQmgr f).clu j = s.clu j := (rfl)
@[simp] theorem State.modQmgr_rgn (j : Nat) : (s.modQmgr f).rgn j = s.rgn j := (rfl)
@[simp] theorem State.modQmgr_fcu (j : Nat) : (s.modQmgr f).fcu j = s.fcu j := (rfl)
@[simp] theorem State.modQmgr_madc (j : Nat) : (s.modQmgr f).madc j = s.madc j := (rfl)
@[simp] theorem State.modQmgr_acq (j : Nat) : (s.modQmgr f).acq j = s.acq j := (rfl)
@[simp] theorem State.modQmgr_hist (j : Nat) : (s.modQmgr f).hist j = s.hist j := (rfl)
@[simp] theorem State.modQmgr_chan (j : Nat) : (s.modQmgr f).chan j = s.chan j := (rfl)
@[simp] theorem State.modQmgr_te (j : Nat) : (s.modQmgr f).te j = s.te j := (rfl)
@[simp] theorem State.modQmgr_fault (j : Nat) : (s.modQmgr f).fault j = s.fault j := (rfl)
@[simp] theorem State.modQmgr_trigIn (j : Nat) : (s.modQmgr f).trigIn j = s.trigIn j := (rfl)
@[simp] theorem State.modQmgr_trigOut (j : Nat) : (s.modQmgr f).trigOut j = s.trigOut j := (rfl)
@[simp] theorem State.modQmgr_secSite (j : Nat) : (s.modQmgr f).secSite j = s.secSite j := (rfl)
@[simp] theorem State.modQmgr_freeVal : (s.modQmgr f).freeVal = s.freeVal := (rfl)
@[simp] theorem State.modQmgr_now : (s.modQmgr f).now = s.now := (rfl)
@[simp] theorem State.modQmgr_up : (s.modQmgr f).up = s.up := (rfl)
@[simp] theorem State.modQmgr_hdr (a b : Nat) : (s.modQmgr f).hdr a b = s.hdr a b := (rfl)
@[simp] theorem State.modQmgr_qmgr : (s.modQmgr f).qmgr = f s.qmgr := (rfl)
end

/-! modNor -/
section
variable (s : State) (f : Nor → Nor)
@[simp] theorem State.modNor_grade08 : (s.modNor f).grade08 = s.grade08 := (rfl)
@[simp] theorem State.modNor_bifur : (s.modNor f).bifur = s.bifur := (rfl)
@[simp] theorem State.modNor_smbAddr : (s.modNor f).smbAddr = s.smbAddr := (rfl)
@[simp] theorem State.modNor_root : (s.modNor f).root = s.root := (rfl)
@[simp] theorem State.modNor_uptime : (s.modNor f).uptime = s.uptime := (rfl)
@[simp] theorem State.modNor_everLocked : (s.modNor f).everLocked = s.everLocked := (rfl)
@[simp] theorem State.modNor_stage : (s.modNor f).stage = s.stage := (rfl)
@[simp] theorem State.modNor_link0 : (s.modNor f).link0 = s.link0 := (rfl)
@[simp] theorem State.modNor_link1 : (s.modNor f).link1 = s.link1 := (rfl)
@[simp] theorem State.modNor_pwr : (s.modNor f).pwr = s.pwr := (rfl)
@[simp] theorem State.modNor_glb : (s.modNor f).glb = s.glb := (rfl)
@[simp] theorem State.modNor_clk : (s.modNor f).clk = s.clk := (rfl)
@[simp] theorem State.modNor_sync : (s.modNor f).sync = s.sync := (rfl)
@[simp] theorem State.modNor_sec : (s.modNor f).sec = s.sec := (rfl)
@[simp] theorem State.modNor_hdrs : (s.modNor f).hdrs = s.hdrs := (rfl)
@[simp] theorem State.modNor_fns : (s.modNor f).fns = s.fns := (rfl)
@[simp] theorem State.modNor_sites : (s.modNor f).sites = s.sites := (rfl)
@[simp] theorem State.modNor_queues : (s.modNor f).queues = s.queues := (rfl)
@[simp] theorem State.modNor_qmgr : (s.modNor f).qmgr = s.qmgr := (rfl)
@[simp] theorem State.modNor_bmem : (s.modNor f).bmem = s.bmem := (rfl)
@[simp] theorem State.modNor_hbms : (s.modNor f).hbms = s.hbms := (rfl)
@[simp] theorem State.modNor_err : (s.modNor f).err = s.err := (rfl)
@[simp] theorem State.modNor_hlth : (s.modNor f).hlth = s.hlth := (rfl)
@[simp] theorem State.modNor_cals : (s.modNor f).cals = s.cals := (rfl)
@[simp] theorem State.modNor_clus : (s.modNor f).clus = s.clus := (rfl)
@[simp] theorem State.modNor_rgns : (s.modNor f).rgns = s.rgns := (rfl)
@[simp] theorem State.modNor_fcus : (s.modNor f).fcus = s.fcus := (rfl)
@[simp] theorem State.modNor_madcs : (s.modNor f).madcs = s.madcs := (rfl)
@[simp] theorem State.modNor_acqs : (s.modNor f).acqs = s.acqs := (rfl)
@[simp] theorem State.modNor_hists : (s.modNor f).hists = s.hists := (rfl)
@[simp] theorem State.modNor_chans : (s.modNor f).chans = s.chans := (rfl)
@[simp] theorem State.modNor_tes : (s.modNor f).tes = s.tes := (rfl)
@[simp] theorem State.modNor_mem : (s.modNor f).mem = s.mem := (rfl)
@[simp] theorem State.modNor_ctext : (s.modNor f).ctext = s.ctext := (rfl)
@[simp] theorem State.modNor_hbmHolder : (s.modNor f).hbmHolder = s.hbmHolder := (rfl)
@[simp] theorem State.modNor_bankHolder : (s.modNor f).bankHolder = s.bankHolder := (rfl)
@[simp] theorem State.modNor_otp : (s.modNor f).otp = s.otp := (rfl)
@[simp] theorem State.modNor_faults : (s.modNor f).faults = s.faults := (rfl)
@[simp] theorem State.modNor_smb : (s.modNor f).smb = s.smb := (rfl)
@[simp] theorem State.modNor_jtag : (s.modNor f).jtag = s.jtag := (rfl)
@[simp] theorem State.modNor_outs : (s.modNor f).outs = s.outs := (rfl)
@[simp] theorem State.modNor_free : (s.modNor f).free = s.free := (rfl)
@[simp] theorem State.modNor_pcache : (s.modNor f).pcache = s.pcache := (rfl)
@[simp] theorem State.modNor_micro : (s.modNor f).micro = s.micro := (rfl)
@[simp] theorem State.modNor_stores : (s.modNor f).stores = s.stores := (rfl)
@[simp] theorem State.modNor_returned : (s.modNor f).returned = s.returned := (rfl)
@[simp] theorem State.modNor_placedQ : (s.modNor f).placedQ = s.placedQ := (rfl)
@[simp] theorem State.modNor_pending : (s.modNor f).pending = s.pending := (rfl)
@[simp] theorem State.modNor_fn (j : Nat) : (s.modNor f).fn j = s.fn j := (rfl)
@[simp] theorem State.modNor_site (j : Nat) : (s.modNor f).site j = s.site j := (rfl)
@[simp] theorem State.modNor_queue (j : Nat) : (s.modNor f).queue j = s.queue j := (rfl)
@[simp] theorem State.modNor_hbm (j : Nat) : (s.modNor f).hbm j = s.hbm j := (rfl)
@[simp] theorem State.modNor_cal (j : Nat) : (s.modNor f).cal j = s.cal j := (rfl)
@[simp] theorem State.modNor_clu (j : Nat) : (s.modNor f).clu j = s.clu j := (rfl)
@[simp] theorem State.modNor_rgn (j : Nat) : (s.modNor f).rgn j = s.rgn j := (rfl)
@[simp] theorem State.modNor_fcu (j : Nat) : (s.modNor f).fcu j = s.fcu j := (rfl)
@[simp] theorem State.modNor_madc (j : Nat) : (s.modNor f).madc j = s.madc j := (rfl)
@[simp] theorem State.modNor_acq (j : Nat) : (s.modNor f).acq j = s.acq j := (rfl)
@[simp] theorem State.modNor_hist (j : Nat) : (s.modNor f).hist j = s.hist j := (rfl)
@[simp] theorem State.modNor_chan (j : Nat) : (s.modNor f).chan j = s.chan j := (rfl)
@[simp] theorem State.modNor_te (j : Nat) : (s.modNor f).te j = s.te j := (rfl)
@[simp] theorem State.modNor_fault (j : Nat) : (s.modNor f).fault j = s.fault j := (rfl)
@[simp] theorem State.modNor_trigIn (j : Nat) : (s.modNor f).trigIn j = s.trigIn j := (rfl)
@[simp] theorem State.modNor_trigOut (j : Nat) : (s.modNor f).trigOut j = s.trigOut j := (rfl)
@[simp] theorem State.modNor_secSite (j : Nat) : (s.modNor f).secSite j = s.secSite j := (rfl)
@[simp] theorem State.modNor_freeVal : (s.modNor f).freeVal = s.freeVal := (rfl)
@[simp] theorem State.modNor_now : (s.modNor f).now = s.now := (rfl)
@[simp] theorem State.modNor_up : (s.modNor f).up = s.up := (rfl)
@[simp] theorem State.modNor_hdr (a b : Nat) : (s.modNor f).hdr a b = s.hdr a b := (rfl)
@[simp] theorem State.modNor_nor : (s.modNor f).nor = f s.nor := (rfl)
end

/-! modSmb -/
section
variable (s : State) (f : Smb → Smb)
@[simp] theorem State.modSmb_grade08 : (s.modSmb f).grade08 = s.grade08 := (rfl)
@[simp] theorem State.modSmb_bifur : (s.modSmb f).bifur = s.bifur := (rfl)
@[simp] theorem State.modSmb_smbAddr : (s.modSmb f).smbAddr = s.smbAddr := (rfl)
@[simp] theorem State.modSmb_root : (s.modSmb f).root = s.root := (rfl)
@[simp] theorem State.modSmb_uptime : (s.modSmb f).uptime = s.uptime := (rfl)
@[simp] theorem State.modSmb_everLocked : (s.modSmb f).everLocked = s.everLocked := (rfl)
@[simp] theorem State.modSmb_stage : (s.modSmb f).stage = s.stage := (rfl)
@[simp] theorem State.modSmb_link0 : (s.modSmb f).link0 = s.link0 := (rfl)
@[simp] theorem State.modSmb_link1 : (s.modSmb f).link1 = s.link1 := (rfl)
@[simp] theorem State.modSmb_pwr : (s.modSmb f).pwr = s.pwr := (rfl)
@[simp] theorem State.modSmb_glb : (s.modSmb f).glb = s.glb := (rfl)
@[simp] theorem State.modSmb_clk : (s.modSmb f).clk = s.clk := (rfl)
@[simp] theorem State.modSmb_sync : (s.modSmb f).sync = s.sync := (rfl)
@[simp] theorem State.modSmb_sec : (s.modSmb f).sec = s.sec := (rfl)
@[simp] theorem State.modSmb_hdrs : (s.modSmb f).hdrs = s.hdrs := (rfl)
@[simp] theorem State.modSmb_fns : (s.modSmb f).fns = s.fns := (rfl)
@[simp] theorem State.modSmb_sites : (s.modSmb f).sites = s.sites := (rfl)
@[simp] theorem State.modSmb_queues : (s.modSmb f).queues = s.queues := (rfl)
@[simp] theorem State.modSmb_qmgr : (s.modSmb f).qmgr = s.qmgr := (rfl)
@[simp] theorem State.modSmb_bmem : (s.modSmb f).bmem = s.bmem := (rfl)
@[simp] theorem State.modSmb_hbms : (s.modSmb f).hbms = s.hbms := (rfl)
@[simp] theorem State.modSmb_err : (s.modSmb f).err = s.err := (rfl)
@[simp] theorem State.modSmb_hlth : (s.modSmb f).hlth = s.hlth := (rfl)
@[simp] theorem State.modSmb_cals : (s.modSmb f).cals = s.cals := (rfl)
@[simp] theorem State.modSmb_clus : (s.modSmb f).clus = s.clus := (rfl)
@[simp] theorem State.modSmb_rgns : (s.modSmb f).rgns = s.rgns := (rfl)
@[simp] theorem State.modSmb_fcus : (s.modSmb f).fcus = s.fcus := (rfl)
@[simp] theorem State.modSmb_madcs : (s.modSmb f).madcs = s.madcs := (rfl)
@[simp] theorem State.modSmb_acqs : (s.modSmb f).acqs = s.acqs := (rfl)
@[simp] theorem State.modSmb_hists : (s.modSmb f).hists = s.hists := (rfl)
@[simp] theorem State.modSmb_chans : (s.modSmb f).chans = s.chans := (rfl)
@[simp] theorem State.modSmb_tes : (s.modSmb f).tes = s.tes := (rfl)
@[simp] theorem State.modSmb_mem : (s.modSmb f).mem = s.mem := (rfl)
@[simp] theorem State.modSmb_ctext : (s.modSmb f).ctext = s.ctext := (rfl)
@[simp] theorem State.modSmb_hbmHolder : (s.modSmb f).hbmHolder = s.hbmHolder := (rfl)
@[simp] theorem State.modSmb_bankHolder : (s.modSmb f).bankHolder = s.bankHolder := (rfl)
@[simp] theorem State.modSmb_nor : (s.modSmb f).nor = s.nor := (rfl)
@[simp] theorem State.modSmb_otp : (s.modSmb f).otp = s.otp := (rfl)
@[simp] theorem State.modSmb_faults : (s.modSmb f).faults = s.faults := (rfl)
@[simp] theorem State.modSmb_jtag : (s.modSmb f).jtag = s.jtag := (rfl)
@[simp] theorem State.modSmb_outs : (s.modSmb f).outs = s.outs := (rfl)
@[simp] theorem State.modSmb_free : (s.modSmb f).free = s.free := (rfl)
@[simp] theorem State.modSmb_pcache : (s.modSmb f).pcache = s.pcache := (rfl)
@[simp] theorem State.modSmb_micro : (s.modSmb f).micro = s.micro := (rfl)
@[simp] theorem State.modSmb_stores : (s.modSmb f).stores = s.stores := (rfl)
@[simp] theorem State.modSmb_returned : (s.modSmb f).returned = s.returned := (rfl)
@[simp] theorem State.modSmb_placedQ : (s.modSmb f).placedQ = s.placedQ := (rfl)
@[simp] theorem State.modSmb_pending : (s.modSmb f).pending = s.pending := (rfl)
@[simp] theorem State.modSmb_fn (j : Nat) : (s.modSmb f).fn j = s.fn j := (rfl)
@[simp] theorem State.modSmb_site (j : Nat) : (s.modSmb f).site j = s.site j := (rfl)
@[simp] theorem State.modSmb_queue (j : Nat) : (s.modSmb f).queue j = s.queue j := (rfl)
@[simp] theorem State.modSmb_hbm (j : Nat) : (s.modSmb f).hbm j = s.hbm j := (rfl)
@[simp] theorem State.modSmb_cal (j : Nat) : (s.modSmb f).cal j = s.cal j := (rfl)
@[simp] theorem State.modSmb_clu (j : Nat) : (s.modSmb f).clu j = s.clu j := (rfl)
@[simp] theorem State.modSmb_rgn (j : Nat) : (s.modSmb f).rgn j = s.rgn j := (rfl)
@[simp] theorem State.modSmb_fcu (j : Nat) : (s.modSmb f).fcu j = s.fcu j := (rfl)
@[simp] theorem State.modSmb_madc (j : Nat) : (s.modSmb f).madc j = s.madc j := (rfl)
@[simp] theorem State.modSmb_acq (j : Nat) : (s.modSmb f).acq j = s.acq j := (rfl)
@[simp] theorem State.modSmb_hist (j : Nat) : (s.modSmb f).hist j = s.hist j := (rfl)
@[simp] theorem State.modSmb_chan (j : Nat) : (s.modSmb f).chan j = s.chan j := (rfl)
@[simp] theorem State.modSmb_te (j : Nat) : (s.modSmb f).te j = s.te j := (rfl)
@[simp] theorem State.modSmb_fault (j : Nat) : (s.modSmb f).fault j = s.fault j := (rfl)
@[simp] theorem State.modSmb_trigIn (j : Nat) : (s.modSmb f).trigIn j = s.trigIn j := (rfl)
@[simp] theorem State.modSmb_trigOut (j : Nat) : (s.modSmb f).trigOut j = s.trigOut j := (rfl)
@[simp] theorem State.modSmb_secSite (j : Nat) : (s.modSmb f).secSite j = s.secSite j := (rfl)
@[simp] theorem State.modSmb_freeVal : (s.modSmb f).freeVal = s.freeVal := (rfl)
@[simp] theorem State.modSmb_now : (s.modSmb f).now = s.now := (rfl)
@[simp] theorem State.modSmb_up : (s.modSmb f).up = s.up := (rfl)
@[simp] theorem State.modSmb_hdr (a b : Nat) : (s.modSmb f).hdr a b = s.hdr a b := (rfl)
@[simp] theorem State.modSmb_smb : (s.modSmb f).smb = f s.smb := (rfl)
end

/-! modJtag -/
section
variable (s : State) (f : Jtag → Jtag)
@[simp] theorem State.modJtag_grade08 : (s.modJtag f).grade08 = s.grade08 := (rfl)
@[simp] theorem State.modJtag_bifur : (s.modJtag f).bifur = s.bifur := (rfl)
@[simp] theorem State.modJtag_smbAddr : (s.modJtag f).smbAddr = s.smbAddr := (rfl)
@[simp] theorem State.modJtag_root : (s.modJtag f).root = s.root := (rfl)
@[simp] theorem State.modJtag_uptime : (s.modJtag f).uptime = s.uptime := (rfl)
@[simp] theorem State.modJtag_everLocked : (s.modJtag f).everLocked = s.everLocked := (rfl)
@[simp] theorem State.modJtag_stage : (s.modJtag f).stage = s.stage := (rfl)
@[simp] theorem State.modJtag_link0 : (s.modJtag f).link0 = s.link0 := (rfl)
@[simp] theorem State.modJtag_link1 : (s.modJtag f).link1 = s.link1 := (rfl)
@[simp] theorem State.modJtag_pwr : (s.modJtag f).pwr = s.pwr := (rfl)
@[simp] theorem State.modJtag_glb : (s.modJtag f).glb = s.glb := (rfl)
@[simp] theorem State.modJtag_clk : (s.modJtag f).clk = s.clk := (rfl)
@[simp] theorem State.modJtag_sync : (s.modJtag f).sync = s.sync := (rfl)
@[simp] theorem State.modJtag_sec : (s.modJtag f).sec = s.sec := (rfl)
@[simp] theorem State.modJtag_hdrs : (s.modJtag f).hdrs = s.hdrs := (rfl)
@[simp] theorem State.modJtag_fns : (s.modJtag f).fns = s.fns := (rfl)
@[simp] theorem State.modJtag_sites : (s.modJtag f).sites = s.sites := (rfl)
@[simp] theorem State.modJtag_queues : (s.modJtag f).queues = s.queues := (rfl)
@[simp] theorem State.modJtag_qmgr : (s.modJtag f).qmgr = s.qmgr := (rfl)
@[simp] theorem State.modJtag_bmem : (s.modJtag f).bmem = s.bmem := (rfl)
@[simp] theorem State.modJtag_hbms : (s.modJtag f).hbms = s.hbms := (rfl)
@[simp] theorem State.modJtag_err : (s.modJtag f).err = s.err := (rfl)
@[simp] theorem State.modJtag_hlth : (s.modJtag f).hlth = s.hlth := (rfl)
@[simp] theorem State.modJtag_cals : (s.modJtag f).cals = s.cals := (rfl)
@[simp] theorem State.modJtag_clus : (s.modJtag f).clus = s.clus := (rfl)
@[simp] theorem State.modJtag_rgns : (s.modJtag f).rgns = s.rgns := (rfl)
@[simp] theorem State.modJtag_fcus : (s.modJtag f).fcus = s.fcus := (rfl)
@[simp] theorem State.modJtag_madcs : (s.modJtag f).madcs = s.madcs := (rfl)
@[simp] theorem State.modJtag_acqs : (s.modJtag f).acqs = s.acqs := (rfl)
@[simp] theorem State.modJtag_hists : (s.modJtag f).hists = s.hists := (rfl)
@[simp] theorem State.modJtag_chans : (s.modJtag f).chans = s.chans := (rfl)
@[simp] theorem State.modJtag_tes : (s.modJtag f).tes = s.tes := (rfl)
@[simp] theorem State.modJtag_mem : (s.modJtag f).mem = s.mem := (rfl)
@[simp] theorem State.modJtag_ctext : (s.modJtag f).ctext = s.ctext := (rfl)
@[simp] theorem State.modJtag_hbmHolder : (s.modJtag f).hbmHolder = s.hbmHolder := (rfl)
@[simp] theorem State.modJtag_bankHolder : (s.modJtag f).bankHolder = s.bankHolder := (rfl)
@[simp] theorem State.modJtag_nor : (s.modJtag f).nor = s.nor := (rfl)
@[simp] theorem State.modJtag_otp : (s.modJtag f).otp = s.otp := (rfl)
@[simp] theorem State.modJtag_faults : (s.modJtag f).faults = s.faults := (rfl)
@[simp] theorem State.modJtag_smb : (s.modJtag f).smb = s.smb := (rfl)
@[simp] theorem State.modJtag_outs : (s.modJtag f).outs = s.outs := (rfl)
@[simp] theorem State.modJtag_free : (s.modJtag f).free = s.free := (rfl)
@[simp] theorem State.modJtag_pcache : (s.modJtag f).pcache = s.pcache := (rfl)
@[simp] theorem State.modJtag_micro : (s.modJtag f).micro = s.micro := (rfl)
@[simp] theorem State.modJtag_stores : (s.modJtag f).stores = s.stores := (rfl)
@[simp] theorem State.modJtag_returned : (s.modJtag f).returned = s.returned := (rfl)
@[simp] theorem State.modJtag_placedQ : (s.modJtag f).placedQ = s.placedQ := (rfl)
@[simp] theorem State.modJtag_pending : (s.modJtag f).pending = s.pending := (rfl)
@[simp] theorem State.modJtag_fn (j : Nat) : (s.modJtag f).fn j = s.fn j := (rfl)
@[simp] theorem State.modJtag_site (j : Nat) : (s.modJtag f).site j = s.site j := (rfl)
@[simp] theorem State.modJtag_queue (j : Nat) : (s.modJtag f).queue j = s.queue j := (rfl)
@[simp] theorem State.modJtag_hbm (j : Nat) : (s.modJtag f).hbm j = s.hbm j := (rfl)
@[simp] theorem State.modJtag_cal (j : Nat) : (s.modJtag f).cal j = s.cal j := (rfl)
@[simp] theorem State.modJtag_clu (j : Nat) : (s.modJtag f).clu j = s.clu j := (rfl)
@[simp] theorem State.modJtag_rgn (j : Nat) : (s.modJtag f).rgn j = s.rgn j := (rfl)
@[simp] theorem State.modJtag_fcu (j : Nat) : (s.modJtag f).fcu j = s.fcu j := (rfl)
@[simp] theorem State.modJtag_madc (j : Nat) : (s.modJtag f).madc j = s.madc j := (rfl)
@[simp] theorem State.modJtag_acq (j : Nat) : (s.modJtag f).acq j = s.acq j := (rfl)
@[simp] theorem State.modJtag_hist (j : Nat) : (s.modJtag f).hist j = s.hist j := (rfl)
@[simp] theorem State.modJtag_chan (j : Nat) : (s.modJtag f).chan j = s.chan j := (rfl)
@[simp] theorem State.modJtag_te (j : Nat) : (s.modJtag f).te j = s.te j := (rfl)
@[simp] theorem State.modJtag_fault (j : Nat) : (s.modJtag f).fault j = s.fault j := (rfl)
@[simp] theorem State.modJtag_trigIn (j : Nat) : (s.modJtag f).trigIn j = s.trigIn j := (rfl)
@[simp] theorem State.modJtag_trigOut (j : Nat) : (s.modJtag f).trigOut j = s.trigOut j := (rfl)
@[simp] theorem State.modJtag_secSite (j : Nat) : (s.modJtag f).secSite j = s.secSite j := (rfl)
@[simp] theorem State.modJtag_freeVal : (s.modJtag f).freeVal = s.freeVal := (rfl)
@[simp] theorem State.modJtag_now : (s.modJtag f).now = s.now := (rfl)
@[simp] theorem State.modJtag_up : (s.modJtag f).up = s.up := (rfl)
@[simp] theorem State.modJtag_hdr (a b : Nat) : (s.modJtag f).hdr a b = s.hdr a b := (rfl)
@[simp] theorem State.modJtag_jtag : (s.modJtag f).jtag = f s.jtag := (rfl)
end

/-! modHdr -/
section
variable (s : State) (ty i : Nat) (f : Hdr → Hdr)
@[simp] theorem State.modHdr_grade08 : (s.modHdr ty i f).grade08 = s.grade08 := (rfl)
@[simp] theorem State.modHdr_bifur : (s.modHdr ty i f).bifur = s.bifur := (rfl)
@[simp] theorem State.modHdr_smbAddr : (s.modHdr ty i f).smbAddr = s.smbAddr := (rfl)
@[simp] theorem State.modHdr_root : (s.modHdr ty i f).root = s.root := (rfl)
@[simp] theorem State.modHdr_uptime : (s.modHdr ty i f).uptime = s.uptime := (rfl)
@[simp] theorem State.modHdr_everLocked : (s.modHdr ty i f).everLocked = s.everLocked := (rfl)
@[simp] theorem State.modHdr_stage : (s.modHdr ty i f).stage = s.stage := (rfl)
@[simp] theorem State.modHdr_link0 : (s.modHdr ty i f).link0 = s.link0 := (rfl)
@[simp] theorem State.modHdr_link1 : (s.modHdr ty i f).link1 = s.link1 := (rfl)
@[simp] theorem State.modHdr_pwr : (s.modHdr ty i f).pwr = s.pwr := (rfl)
@[simp] theorem State.modHdr_glb : (s.modHdr ty i f).glb = s.glb := (rfl)
@[simp] theorem State.modHdr_clk : (s.modHdr ty i f).clk = s.clk := (rfl)
@[simp] theorem State.modHdr_sync : (s.modHdr ty i f).sync = s.sync := (rfl)
@[simp] theorem State.modHdr_sec : (s.modHdr ty i f).sec = s.sec := (rfl)
@[simp] theorem State.modHdr_fns : (s.modHdr ty i f).fns = s.fns := (rfl)
@[simp] theorem State.modHdr_sites : (s.modHdr ty i f).sites = s.sites := (rfl)
@[simp] theorem State.modHdr_queues : (s.modHdr ty i f).queues = s.queues := (rfl)
@[simp] theorem State.modHdr_qmgr : (s.modHdr ty i f).qmgr = s.qmgr := (rfl)
@[simp] theorem State.modHdr_bmem : (s.modHdr ty i f).bmem = s.bmem := (rfl)
@[simp] theorem State.modHdr_hbms : (s.modHdr ty i f).hbms = s.hbms := (rfl)
@[simp] theorem State.modHdr_err : (s.modHdr ty i f).err = s.err := (rfl)
@[simp] theorem State.modHdr_hlth : (s.modHdr ty i f).hlth = s.hlth := (rfl)
@[simp] theorem State.modHdr_cals : (s.modHdr ty i f).cals = s.cals := (rfl)
@[simp] theorem State.modHdr_clus : (s.modHdr ty i f).clus = s.clus := (rfl)
@[simp] theorem State.modHdr_rgns : (s.modHdr ty i f).rgns = s.rgns := (rfl)
@[simp] theorem State.modHdr_fcus : (s.modHdr ty i f).fcus = s.fcus := (rfl)
@[simp] theorem State.modHdr_madcs : (s.modHdr ty i f).madcs = s.madcs := (rfl)
@[simp] theorem State.modHdr_acqs : (s.modHdr ty i f).acqs = s.acqs := (rfl)
@[simp] theorem State.modHdr_hists : (s.modHdr ty i f).hists = s.hists := (rfl)
@[simp] theorem State.modHdr_chans : (s.modHdr ty i f).chans = s.chans := (rfl)
@[simp] theorem State.modHdr_tes : (s.modHdr ty i f).tes = s.tes := (rfl)
@[simp] theorem State.modHdr_mem : (s.modHdr ty i f).mem = s.mem := (rfl)
@[simp] theorem State.modHdr_ctext : (s.modHdr ty i f).ctext = s.ctext := (rfl)
@[simp] theorem State.modHdr_hbmHolder : (s.modHdr ty i f).hbmHolder = s.hbmHolder := (rfl)
@[simp] theorem State.modHdr_bankHolder : (s.modHdr ty i f).bankHolder = s.bankHolder := (rfl)
@[simp] theorem State.modHdr_nor : (s.modHdr ty i f).nor = s.nor := (rfl)
@[simp] theorem State.modHdr_otp : (s.modHdr ty i f).otp = s.otp := (rfl)
@[simp] theorem State.modHdr_faults : (s.modHdr ty i f).faults = s.faults := (rfl)
@[simp] theorem State.modHdr_smb : (s.modHdr ty i f).smb = s.smb := (rfl)
@[simp] theorem State.modHdr_jtag : (s.modHdr ty i f).jtag = s.jtag := (rfl)
@[simp] theorem State.modHdr_outs : (s.modHdr ty i f).outs = s.outs := (rfl)
@[simp] theorem State.modHdr_free : (s.modHdr ty i f).free = s.free := (rfl)
@[simp] theorem State.modHdr_pcache : (s.modHdr ty i f).pcache = s.pcache := (rfl)
@[simp] theorem State.modHdr_micro : (s.modHdr ty i f).micro = s.micro := (rfl)
@[simp] theorem State.modHdr_stores : (s.modHdr ty i f).stores = s.stores := (rfl)
@[simp] theorem State.modHdr_returned : (s.modHdr ty i f).returned = s.returned := (rfl)
@[simp] theorem State.modHdr_placedQ : (s.modHdr ty i f).placedQ = s.placedQ := (rfl)
@[simp] theorem State.modHdr_pending : (s.modHdr ty i f).pending = s.pending := (rfl)
@[simp] theorem State.modHdr_fn (j : Nat) : (s.modHdr ty i f).fn j = s.fn j := (rfl)
@[simp] theorem State.modHdr_site (j : Nat) : (s.modHdr ty i f).site j = s.site j := (rfl)
@[simp] theorem State.modHdr_queue (j : Nat) : (s.modHdr ty i f).queue j = s.queue j := (rfl)
@[simp] theorem State.modHdr_hbm (j : Nat) : (s.modHdr ty i f).hbm j = s.hbm j := (rfl)
@[simp] theorem State.modHdr_cal (j : Nat) : (s.modHdr ty i f).cal j = s.cal j := (rfl)
@[simp] theorem State.modHdr_clu (j : Nat) : (s.modHdr ty i f).clu j = s.clu j := (rfl)
@[simp] theorem State.modHdr_rgn (j : Nat) : (s.modHdr ty i f).rgn j = s.rgn j := (rfl)
@[simp] theorem State.modHdr_fcu (j : Nat) : (s.modHdr ty i f).fcu j = s.fcu j := (rfl)
@[simp] theorem State.modHdr_madc (j : Nat) : (s.modHdr ty i f).madc j = s.madc j := (rfl)
@[simp] theorem State.modHdr_acq (j : Nat) : (s.modHdr ty i f).acq j = s.acq j := (rfl)
@[simp] theorem State.modHdr_hist (j : Nat) : (s.modHdr ty i f).hist j = s.hist j := (rfl)
@[simp] theorem State.modHdr_chan (j : Nat) : (s.modHdr ty i f).chan j = s.chan j := (rfl)
@[simp] theorem State.modHdr_te (j : Nat) : (s.modHdr ty i f).te j = s.te j := (rfl)
@[simp] theorem State.modHdr_fault (j : Nat) : (s.modHdr ty i f).fault j = s.fault j := (rfl)
@[simp] theorem State.modHdr_trigIn (j : Nat) : (s.modHdr ty i f).trigIn j = s.trigIn j := (rfl)
@[simp] theorem State.modHdr_trigOut (j : Nat) : (s.modHdr ty i f).trigOut j = s.trigOut j := (rfl)
@[simp] theorem State.modHdr_secSite (j : Nat) : (s.modHdr ty i f).secSite j = s.secSite j := (rfl)
@[simp] theorem State.modHdr_freeVal : (s.modHdr ty i f).freeVal = s.freeVal := (rfl)
@[simp] theorem State.modHdr_now : (s.modHdr ty i f).now = s.now := (rfl)
@[simp] theorem State.modHdr_up : (s.modHdr ty i f).up = s.up := (rfl)
/-- Reading the header just updated. -/
@[simp] theorem State.modHdr_hdr : (s.modHdr ty i f).hdr ty i = f (s.hdr ty i) := Tbl.get_upd_same ..
/-- Reading another page's header. -/
theorem State.modHdr_hdr_ne (a b : Nat) (h : pageKey a b ≠ pageKey ty i) : (s.modHdr ty i f).hdr a b = s.hdr a b :=
  Tbl.get_upd_ne _ _ _ _ h
end

/-! emit -/
section
variable (s : State) (o : Out)
@[simp] theorem State.emit_grade08 : (s.emit o).grade08 = s.grade08 := (rfl)
@[simp] theorem State.emit_bifur : (s.emit o).bifur = s.bifur := (rfl)
@[simp] theorem State.emit_smbAddr : (s.emit o).smbAddr = s.smbAddr := (rfl)
@[simp] theorem State.emit_root : (s.emit o).root = s.root := (rfl)
@[simp] theorem State.emit_uptime : (s.emit o).uptime = s.uptime := (rfl)
@[simp] theorem State.emit_everLocked : (s.emit o).everLocked = s.everLocked := (rfl)
@[simp] theorem State.emit_stage : (s.emit o).stage = s.stage := (rfl)
@[simp] theorem State.emit_link0 : (s.emit o).link0 = s.link0 := (rfl)
@[simp] theorem State.emit_link1 : (s.emit o).link1 = s.link1 := (rfl)
@[simp] theorem State.emit_pwr : (s.emit o).pwr = s.pwr := (rfl)
@[simp] theorem State.emit_glb : (s.emit o).glb = s.glb := (rfl)
@[simp] theorem State.emit_clk : (s.emit o).clk = s.clk := (rfl)
@[simp] theorem State.emit_sync : (s.emit o).sync = s.sync := (rfl)
@[simp] theorem State.emit_sec : (s.emit o).sec = s.sec := (rfl)
@[simp] theorem State.emit_hdrs : (s.emit o).hdrs = s.hdrs := (rfl)
@[simp] theorem State.emit_fns : (s.emit o).fns = s.fns := (rfl)
@[simp] theorem State.emit_sites : (s.emit o).sites = s.sites := (rfl)
@[simp] theorem State.emit_queues : (s.emit o).queues = s.queues := (rfl)
@[simp] theorem State.emit_qmgr : (s.emit o).qmgr = s.qmgr := (rfl)
@[simp] theorem State.emit_bmem : (s.emit o).bmem = s.bmem := (rfl)
@[simp] theorem State.emit_hbms : (s.emit o).hbms = s.hbms := (rfl)
@[simp] theorem State.emit_err : (s.emit o).err = s.err := (rfl)
@[simp] theorem State.emit_hlth : (s.emit o).hlth = s.hlth := (rfl)
@[simp] theorem State.emit_cals : (s.emit o).cals = s.cals := (rfl)
@[simp] theorem State.emit_clus : (s.emit o).clus = s.clus := (rfl)
@[simp] theorem State.emit_rgns : (s.emit o).rgns = s.rgns := (rfl)
@[simp] theorem State.emit_fcus : (s.emit o).fcus = s.fcus := (rfl)
@[simp] theorem State.emit_madcs : (s.emit o).madcs = s.madcs := (rfl)
@[simp] theorem State.emit_acqs : (s.emit o).acqs = s.acqs := (rfl)
@[simp] theorem State.emit_hists : (s.emit o).hists = s.hists := (rfl)
@[simp] theorem State.emit_chans : (s.emit o).chans = s.chans := (rfl)
@[simp] theorem State.emit_tes : (s.emit o).tes = s.tes := (rfl)
@[simp] theorem State.emit_mem : (s.emit o).mem = s.mem := (rfl)
@[simp] theorem State.emit_ctext : (s.emit o).ctext = s.ctext := (rfl)
@[simp] theorem State.emit_hbmHolder : (s.emit o).hbmHolder = s.hbmHolder := (rfl)
@[simp] theorem State.emit_bankHolder : (s.emit o).bankHolder = s.bankHolder := (rfl)
@[simp] theorem State.emit_nor : (s.emit o).nor = s.nor := (rfl)
@[simp] theorem State.emit_otp : (s.emit o).otp = s.otp := (rfl)
@[simp] theorem State.emit_faults : (s.emit o).faults = s.faults := (rfl)
@[simp] theorem State.emit_smb : (s.emit o).smb = s.smb := (rfl)
@[simp] theorem State.emit_jtag : (s.emit o).jtag = s.jtag := (rfl)
@[simp] theorem State.emit_free : (s.emit o).free = s.free := (rfl)
@[simp] theorem State.emit_pcache : (s.emit o).pcache = s.pcache := (rfl)
@[simp] theorem State.emit_micro : (s.emit o).micro = s.micro := (rfl)
@[simp] theorem State.emit_stores : (s.emit o).stores = s.stores := (rfl)
@[simp] theorem State.emit_returned : (s.emit o).returned = s.returned := (rfl)
@[simp] theorem State.emit_placedQ : (s.emit o).placedQ = s.placedQ := (rfl)
@[simp] theorem State.emit_pending : (s.emit o).pending = s.pending := (rfl)
@[simp] theorem State.emit_fn (j : Nat) : (s.emit o).fn j = s.fn j := (rfl)
@[simp] theorem State.emit_site (j : Nat) : (s.emit o).site j = s.site j := (rfl)
@[simp] theorem State.emit_queue (j : Nat) : (s.emit o).queue j = s.queue j := (rfl)
@[simp] theorem State.emit_hbm (j : Nat) : (s.emit o).hbm j = s.hbm j := (rfl)
@[simp] theorem State.emit_cal (j : Nat) : (s.emit o).cal j = s.cal j := (rfl)
@[simp] theorem State.emit_clu (j : Nat) : (s.emit o).clu j = s.clu j := (rfl)
@[simp] theorem State.emit_rgn (j : Nat) : (s.emit o).rgn j = s.rgn j := (rfl)
@[simp] theorem State.emit_fcu (j : Nat) : (s.emit o).fcu j = s.fcu j := (rfl)
@[simp] theorem State.emit_madc (j : Nat) : (s.emit o).madc j = s.madc j := (rfl)
@[simp] theorem State.emit_acq (j : Nat) : (s.emit o).acq j = s.acq j := (rfl)
@[simp] theorem State.emit_hist (j : Nat) : (s.emit o).hist j = s.hist j := (rfl)
@[simp] theorem State.emit_chan (j : Nat) : (s.emit o).chan j = s.chan j := (rfl)
@[simp] theorem State.emit_te (j : Nat) : (s.emit o).te j = s.te j := (rfl)
@[simp] theorem State.emit_fault (j : Nat) : (s.emit o).fault j = s.fault j := (rfl)
@[simp] theorem State.emit_trigIn (j : Nat) : (s.emit o).trigIn j = s.trigIn j := (rfl)
@[simp] theorem State.emit_trigOut (j : Nat) : (s.emit o).trigOut j = s.trigOut j := (rfl)
@[simp] theorem State.emit_secSite (j : Nat) : (s.emit o).secSite j = s.secSite j := (rfl)
@[simp] theorem State.emit_freeVal : (s.emit o).freeVal = s.freeVal := (rfl)
@[simp] theorem State.emit_now : (s.emit o).now = s.now := (rfl)
@[simp] theorem State.emit_up : (s.emit o).up = s.up := (rfl)
@[simp] theorem State.emit_hdr (a b : Nat) : (s.emit o).hdr a b = s.hdr a b := (rfl)
@[simp] theorem State.emit_outs : (s.emit o).outs = o :: s.outs := (rfl)
end

/-! useFree -/
section
variable (s : State) 
@[simp] theorem State.useFree_grade08 : (s.useFree).grade08 = s.grade08 := (rfl)
@[simp] theorem State.useFree_bifur : (s.useFree).bifur = s.bifur := (rfl)
@[simp] theorem State.useFree_smbAddr : (s.useFree).smbAddr = s.smbAddr := (rfl)
@[simp] theorem State.useFree_root : (s.useFree).root = s.root := (rfl)
@[simp] theorem State.useFree_uptime : (s.useFree).uptime = s.uptime := (rfl)
@[simp] theorem State.useFree_everLocked : (s.useFree).everLocked = s.everLocked := (rfl)
@[simp] theorem State.useFree_stage : (s.useFree).stage = s.stage := (rfl)
@[simp] theorem State.useFree_link0 : (s.useFree).link0 = s.link0 := (rfl)
@[simp] theorem State.useFree_link1 : (s.useFree).link1 = s.link1 := (rfl)
@[simp] theorem State.useFree_pwr : (s.useFree).pwr = s.pwr := (rfl)
@[simp] theorem State.useFree_glb : (s.useFree).glb = s.glb := (rfl)
@[simp] theorem State.useFree_clk : (s.useFree).clk = s.clk := (rfl)
@[simp] theorem State.useFree_sync : (s.useFree).sync = s.sync := (rfl)
@[simp] theorem State.useFree_sec : (s.useFree).sec = s.sec := (rfl)
@[simp] theorem State.useFree_hdrs : (s.useFree).hdrs = s.hdrs := (rfl)
@[simp] theorem State.useFree_fns : (s.useFree).fns = s.fns := (rfl)
@[simp] theorem State.useFree_sites : (s.useFree).sites = s.sites := (rfl)
@[simp] theorem State.useFree_queues : (s.useFree).queues = s.queues := (rfl)
@[simp] theorem State.useFree_qmgr : (s.useFree).qmgr = s.qmgr := (rfl)
@[simp] theorem State.useFree_bmem : (s.useFree).bmem = s.bmem := (rfl)
@[simp] theorem State.useFree_hbms : (s.useFree).hbms = s.hbms := (rfl)
@[simp] theorem State.useFree_err : (s.useFree).err = s.err := (rfl)
@[simp] theorem State.useFree_hlth : (s.useFree).hlth = s.hlth := (rfl)
@[simp] theorem State.useFree_cals : (s.useFree).cals = s.cals := (rfl)
@[simp] theorem State.useFree_clus : (s.useFree).clus = s.clus := (rfl)
@[simp] theorem State.useFree_rgns : (s.useFree).rgns = s.rgns := (rfl)
@[simp] theorem State.useFree_fcus : (s.useFree).fcus = s.fcus := (rfl)
@[simp] theorem State.useFree_madcs : (s.useFree).madcs = s.madcs := (rfl)
@[simp] theorem State.useFree_acqs : (s.useFree).acqs = s.acqs := (rfl)
@[simp] theorem State.useFree_hists : (s.useFree).hists = s.hists := (rfl)
@[simp] theorem State.useFree_chans : (s.useFree).chans = s.chans := (rfl)
@[simp] theorem State.useFree_tes : (s.useFree).tes = s.tes := (rfl)
@[simp] theorem State.useFree_mem : (s.useFree).mem = s.mem := (rfl)
@[simp] theorem State.useFree_ctext : (s.useFree).ctext = s.ctext := (rfl)
@[simp] theorem State.useFree_hbmHolder : (s.useFree).hbmHolder = s.hbmHolder := (rfl)
@[simp] theorem State.useFree_bankHolder : (s.useFree).bankHolder = s.bankHolder := (rfl)
@[simp] theorem State.useFree_nor : (s.useFree).nor = s.nor := (rfl)
@[simp] theorem State.useFree_otp : (s.useFree).otp = s.otp := (rfl)
@[simp] theorem State.useFree_faults : (s.useFree).faults = s.faults := (rfl)
@[simp] theorem State.useFree_smb : (s.useFree).smb = s.smb := (rfl)
@[simp] theorem State.useFree_jtag : (s.useFree).jtag = s.jtag := (rfl)
@[simp] theorem State.useFree_outs : (s.useFree).outs = s.outs := (rfl)
@[simp] theorem State.useFree_pcache : (s.useFree).pcache = s.pcache := (rfl)
@[simp] theorem State.useFree_micro : (s.useFree).micro = s.micro := (rfl)
@[simp] theorem State.useFree_stores : (s.useFree).stores = s.stores := (rfl)
@[simp] theorem State.useFree_returned : (s.useFree).returned = s.returned := (rfl)
@[simp] theorem State.useFree_placedQ : (s.useFree).placedQ = s.placedQ := (rfl)
@[simp] theorem State.useFree_pending : (s.useFree).pending = s.pending := (rfl)
@[simp] theorem State.useFree_fn (j : Nat) : (s.useFree).fn j = s.fn j := (rfl)
@[simp] theorem State.useFree_site (j : Nat) : (s.useFree).site j = s.site j := (rfl)
@[simp] theorem State.useFree_queue (j : Nat) : (s.useFree).queue j = s.queue j := (rfl)
@[simp] theorem State.useFree_hbm (j : Nat) : (s.useFree).hbm j = s.hbm j := (rfl)
@[simp] theorem State.useFree_cal (j : Nat) : (s.useFree).cal j = s.cal j := (rfl)
@[simp] theorem State.useFree_clu (j : Nat) : (s.useFree).clu j = s.clu j := (rfl)
@[simp] theorem State.useFree_rgn (j : Nat) : (s.useFree).rgn j = s.rgn j := (rfl)
@[simp] theorem State.useFree_fcu (j : Nat) : (s.useFree).fcu j = s.fcu j := (rfl)
@[simp] theorem State.useFree_madc (j : Nat) : (s.useFree).madc j = s.madc j := (rfl)
@[simp] theorem State.useFree_acq (j : Nat) : (s.useFree).acq j = s.acq j := (rfl)
@[simp] theorem State.useFree_hist (j : Nat) : (s.useFree).hist j = s.hist j := (rfl)
@[simp] theorem State.useFree_chan (j : Nat) : (s.useFree).chan j = s.chan j := (rfl)
@[simp] theorem State.useFree_te (j : Nat) : (s.useFree).te j = s.te j := (rfl)
@[simp] theorem State.useFree_fault (j : Nat) : (s.useFree).fault j = s.fault j := (rfl)
@[simp] theorem State.useFree_trigIn (j : Nat) : (s.useFree).trigIn j = s.trigIn j := (rfl)
@[simp] theorem State.useFree_trigOut (j : Nat) : (s.useFree).trigOut j = s.trigOut j := (rfl)
@[simp] theorem State.useFree_secSite (j : Nat) : (s.useFree).secSite j = s.secSite j := (rfl)
@[simp] theorem State.useFree_now : (s.useFree).now = s.now := (rfl)
@[simp] theorem State.useFree_up : (s.useFree).up = s.up := (rfl)
@[simp] theorem State.useFree_hdr (a b : Nat) : (s.useFree).hdr a b = s.hdr a b := (rfl)
@[simp] theorem State.useFree_free : s.useFree.free = s.free + 1 := (rfl)
end

/-! setByte -/
section
variable (s : State) (a : Nat) (b : Byte)
@[simp] theorem State.setByte_grade08 : (s.setByte a b).grade08 = s.grade08 := (rfl)
@[simp] theorem State.setByte_bifur : (s.setByte a b).bifur = s.bifur := (rfl)
@[simp] theorem State.setByte_smbAddr : (s.setByte a b).smbAddr = s.smbAddr := (rfl)
@[simp] theorem State.setByte_root : (s.setByte a b).root = s.root := (rfl)
@[simp] theorem State.setByte_uptime : (s.setByte a b).uptime = s.uptime := (rfl)
@[simp] theorem State.setByte_everLocked : (s.setByte a b).everLocked = s.everLocked := (rfl)
@[simp] theorem State.setByte_stage : (s.setByte a b).stage = s.stage := (rfl)
@[simp] theorem State.setByte_link0 : (s.setByte a b).link0 = s.link0 := (rfl)
@[simp] theorem State.setByte_link1 : (s.setByte a b).link1 = s.link1 := (rfl)
@[simp] theorem State.setByte_pwr : (s.setByte a b).pwr = s.pwr := (rfl)
@[simp] theorem State.setByte_glb : (s.setByte a b).glb = s.glb := (rfl)
@[simp] theorem State.setByte_clk : (s.setByte a b).clk = s.clk := (rfl)
@[simp] theorem State.setByte_sync : (s.setByte a b).sync = s.sync := (rfl)
@[simp] theorem State.setByte_sec : (s.setByte a b).sec = s.sec := (rfl)
@[simp] theorem State.setByte_hdrs : (s.setByte a b).hdrs = s.hdrs := (rfl)
@[simp] theorem State.setByte_fns : (s.setByte a b).fns = s.fns := (rfl)
@[simp] theorem State.setByte_sites : (s.setByte a b).sites = s.sites := (rfl)
@[simp] theorem State.setByte_queues : (s.setByte a b).queues = s.queues := (rfl)
@[simp] theorem State.setByte_qmgr : (s.setByte a b).qmgr = s.qmgr := (rfl)
@[simp] theorem State.setByte_bmem : (s.setByte a b).bmem = s.bmem := (rfl)
@[simp] theorem State.setByte_hbms : (s.setByte a b).hbms = s.hbms := (rfl)
@[simp] theorem State.setByte_err : (s.setByte a b).err = s.err := (rfl)
@[simp] theorem State.setByte_hlth : (s.setByte a b).hlth = s.hlth := (rfl)
@[simp] theorem State.setByte_cals : (s.setByte a b).cals = s.cals := (rfl)
@[simp] theorem State.setByte_clus : (s.setByte a b).clus = s.clus := (rfl)
@[simp] theorem State.setByte_rgns : (s.setByte a b).rgns = s.rgns := (rfl)
@[simp] theorem State.setByte_fcus : (s.setByte a b).fcus = s.fcus := (rfl)
@[simp] theorem State.setByte_madcs : (s.setByte a b).madcs = s.madcs := (rfl)
@[simp] theorem State.setByte_acqs : (s.setByte a b).acqs = s.acqs := (rfl)
@[simp] theorem State.setByte_hists : (s.setByte a b).hists = s.hists := (rfl)
@[simp] theorem State.setByte_chans : (s.setByte a b).chans = s.chans := (rfl)
@[simp] theorem State.setByte_tes : (s.setByte a b).tes = s.tes := (rfl)
@[simp] theorem State.setByte_hbmHolder : (s.setByte a b).hbmHolder = s.hbmHolder := (rfl)
@[simp] theorem State.setByte_bankHolder : (s.setByte a b).bankHolder = s.bankHolder := (rfl)
@[simp] theorem State.setByte_nor : (s.setByte a b).nor = s.nor := (rfl)
@[simp] theorem State.setByte_otp : (s.setByte a b).otp = s.otp := (rfl)
@[simp] theorem State.setByte_faults : (s.setByte a b).faults = s.faults := (rfl)
@[simp] theorem State.setByte_smb : (s.setByte a b).smb = s.smb := (rfl)
@[simp] theorem State.setByte_jtag : (s.setByte a b).jtag = s.jtag := (rfl)
@[simp] theorem State.setByte_outs : (s.setByte a b).outs = s.outs := (rfl)
@[simp] theorem State.setByte_free : (s.setByte a b).free = s.free := (rfl)
@[simp] theorem State.setByte_pcache : (s.setByte a b).pcache = s.pcache := (rfl)
@[simp] theorem State.setByte_micro : (s.setByte a b).micro = s.micro := (rfl)
@[simp] theorem State.setByte_stores : (s.setByte a b).stores = s.stores := (rfl)
@[simp] theorem State.setByte_returned : (s.setByte a b).returned = s.returned := (rfl)
@[simp] theorem State.setByte_placedQ : (s.setByte a b).placedQ = s.placedQ := (rfl)
@[simp] theorem State.setByte_pending : (s.setByte a b).pending = s.pending := (rfl)
@[simp] theorem State.setByte_fn (j : Nat) : (s.setByte a b).fn j = s.fn j := (rfl)
@[simp] theorem State.setByte_site (j : Nat) : (s.setByte a b).site j = s.site j := (rfl)
@[simp] theorem State.setByte_queue (j : Nat) : (s.setByte a b).queue j = s.queue j := (rfl)
@[simp] theorem State.setByte_hbm (j : Nat) : (s.setByte a b).hbm j = s.hbm j := (rfl)
@[simp] theorem State.setByte_cal (j : Nat) : (s.setByte a b).cal j = s.cal j := (rfl)
@[simp] theorem State.setByte_clu (j : Nat) : (s.setByte a b).clu j = s.clu j := (rfl)
@[simp] theorem State.setByte_rgn (j : Nat) : (s.setByte a b).rgn j = s.rgn j := (rfl)
@[simp] theorem State.setByte_fcu (j : Nat) : (s.setByte a b).fcu j = s.fcu j := (rfl)
@[simp] theorem State.setByte_madc (j : Nat) : (s.setByte a b).madc j = s.madc j := (rfl)
@[simp] theorem State.setByte_acq (j : Nat) : (s.setByte a b).acq j = s.acq j := (rfl)
@[simp] theorem State.setByte_hist (j : Nat) : (s.setByte a b).hist j = s.hist j := (rfl)
@[simp] theorem State.setByte_chan (j : Nat) : (s.setByte a b).chan j = s.chan j := (rfl)
@[simp] theorem State.setByte_te (j : Nat) : (s.setByte a b).te j = s.te j := (rfl)
@[simp] theorem State.setByte_fault (j : Nat) : (s.setByte a b).fault j = s.fault j := (rfl)
@[simp] theorem State.setByte_trigIn (j : Nat) : (s.setByte a b).trigIn j = s.trigIn j := (rfl)
@[simp] theorem State.setByte_trigOut (j : Nat) : (s.setByte a b).trigOut j = s.trigOut j := (rfl)
@[simp] theorem State.setByte_secSite (j : Nat) : (s.setByte a b).secSite j = s.secSite j := (rfl)
@[simp] theorem State.setByte_freeVal : (s.setByte a b).freeVal = s.freeVal := (rfl)
@[simp] theorem State.setByte_now : (s.setByte a b).now = s.now := (rfl)
@[simp] theorem State.setByte_up : (s.setByte a b).up = s.up := (rfl)
@[simp] theorem State.setByte_hdr (a b : Nat) : (s.setByte a b).hdr a b = s.hdr a b := (rfl)
end

end Sys2Proof.Machine
end

