-- ==== Sys2Proof/Laws/Inv.lean ====
section
/-! SUPPORT. The updates of State keep the invariant. -/

namespace Sys2Proof.Machine

theorem Inv.of_eq {s t : State} (h : Inv s) (hm : t.mem = s.mem) (hh : t.hdrs = s.hdrs) (hs : t.sites = s.sites)
    (he : t.err = s.err) (ht : t.tes = s.tes) : Inv t where
  mem := by rw [hm]; exact h.mem
  hdr := fun a b => by simp only [State.hdr, hh]; exact h.hdr a b
  site := fun i => by simp only [State.site, hs]; exact h.site i
  err := by rw [he]; exact h.err
  te := fun e => by simp only [State.te, ht]; exact h.te e

variable {s : State}

/-- The invariant of a state whose parts are at their reset values. -/
theorem Inv.blank {t : State} (hm : t.mem = []) (hh : t.hdrs = []) (hs : t.sites = []) (he : t.err = {})
    (ht : t.tes = []) : Inv t where
  mem := by rw [hm]; rfl
  hdr := fun a b => by
    simp only [State.hdr, hh, Tbl.get_nil]
    unfold hdrReset; split <;> simp [Hdr.ok]; rename_i h; have := h.2; simp [nSite] at this; omega
  site := fun i => by simp [State.site, hs, Tbl.get_nil, Site.ok]
  err := by simp [he, ErrLog.ok]
  te := fun e => by simp [State.te, ht, Tbl.get_nil, Eng.ok]

@[simp] theorem satAdd_le_sat16 (a b : Nat) : satAdd sat16 a b ≤ 65535 := by simp only [satAdd, sat16]; omega
@[simp] theorem bits_lt_16 (w lo : Nat) : bits w lo 4 < 16 := by simp [bits]; omega
@[simp] theorem bits_lt_256 (w lo : Nat) : bits w lo 8 < 256 := by simp [bits]; omega
@[simp] theorem length_filter_le_64 {α : Type} (p : α → Bool) (l : List α) (h : l.length ≤ 64) : (l.filter p).length ≤ 64 :=
  Nat.le_trans (List.length_filter_le p l) h

@[simp] theorem Inv.deque (h : Inv s) (e : Nat) : (s.te e).deque.length ≤ 64 := h.te e
@[simp] theorem Inv.owner (h : Inv s) (ty i : Nat) : (s.hdr ty i).owner ≤ 16 := (h.hdr ty i).1
@[simp] theorem Inv.vector (h : Inv s) (ty i : Nat) : (s.hdr ty i).vector < 256 := (h.hdr ty i).2.1
@[simp] theorem Inv.errCount (h : Inv s) (ty i : Nat) : (s.hdr ty i).errCount ≤ 65535 := (h.hdr ty i).2.2
@[simp] theorem Inv.ring (h : Inv s) : s.err.ring.length ≤ 4096 := h.err.1
@[simp] theorem Inv.reserve (h : Inv s) : s.err.reserve.length ≤ 1024 := h.err.2
@[simp] theorem Inv.lclkDiv (h : Inv s) (i : Nat) : 20 ≤ (s.site i).lclkDiv := (h.site i).1
@[simp] theorem Inv.lclkDiv' (h : Inv s) (i : Nat) : (s.site i).lclkDiv ≤ 4000 := (h.site i).2.1
@[simp] theorem Inv.lead (h : Inv s) (i : Nat) : 500 ≤ (s.site i).lead := (h.site i).2.2.1
@[simp] theorem Inv.lead' (h : Inv s) (i : Nat) : (s.site i).lead ≤ 4000 := (h.site i).2.2.2.1
@[simp] theorem Inv.tether (h : Inv s) (i : Nat) : 200 ≤ (s.site i).tether := (h.site i).2.2.2.2.1
@[simp] theorem Inv.tether' (h : Inv s) (i : Nat) : (s.site i).tether ≤ 4000 := (h.site i).2.2.2.2.2.1
@[simp] theorem Inv.group (h : Inv s) (i : Nat) : (s.site i).group < 16 := (h.site i).2.2.2.2.2.2

@[simp] theorem Inv.modFn (h : Inv s) (i : Nat) (f : Fn → Fn) : Inv (s.modFn i f) := h.of_eq rfl rfl rfl rfl rfl
@[simp] theorem Inv.modQueue (h : Inv s) (i : Nat) (f : QDesc → QDesc) : Inv (s.modQueue i f) := h.of_eq rfl rfl rfl rfl rfl
@[simp] theorem Inv.modHbm (h : Inv s) (i : Nat) (f : Hbm → Hbm) : Inv (s.modHbm i f) := h.of_eq rfl rfl rfl rfl rfl
@[simp] theorem Inv.modCal (h : Inv s) (i : Nat) (f : Cal → Cal) : Inv (s.modCal i f) := h.of_eq rfl rfl rfl rfl rfl
@[simp] theorem Inv.modClu (h : Inv s) (i : Nat) (f : Clu → Clu) : Inv (s.modClu i f) := h.of_eq rfl rfl rfl rfl rfl
@[simp] theorem Inv.modRgn (h : Inv s) (i : Nat) (f : Rgn → Rgn) : Inv (s.modRgn i f) := h.of_eq rfl rfl rfl rfl rfl
@[simp] theorem Inv.modFcu (h : Inv s) (i : Nat) (f : Fcu → Fcu) : Inv (s.modFcu i f) := h.of_eq rfl rfl rfl rfl rfl
@[simp] theorem Inv.modMadc (h : Inv s) (i : Nat) (f : Madc → Madc) : Inv (s.modMadc i f) := h.of_eq rfl rfl rfl rfl rfl
@[simp] theorem Inv.modAcq (h : Inv s) (i : Nat) (f : Acq → Acq) : Inv (s.modAcq i f) := h.of_eq rfl rfl rfl rfl rfl
@[simp] theorem Inv.modHist (h : Inv s) (i : Nat) (f : Hist → Hist) : Inv (s.modHist i f) := h.of_eq rfl rfl rfl rfl rfl
@[simp] theorem Inv.modChan (h : Inv s) (i : Nat) (f : Chan → Chan) : Inv (s.modChan i f) := h.of_eq rfl rfl rfl rfl rfl
@[simp] theorem Inv.modFault (h : Inv s) (i : Nat) (f : Fault1 → Fault1) : Inv (s.modFault i f) := h.of_eq rfl rfl rfl rfl rfl
@[simp] theorem Inv.modTrigIn (h : Inv s) (i : Nat) (f : TrigIn → TrigIn) : Inv (s.modTrigIn i f) := h.of_eq rfl rfl rfl rfl rfl
@[simp] theorem Inv.modTrigOut (h : Inv s) (i : Nat) (f : TrigOut → TrigOut) : Inv (s.modTrigOut i f) := h.of_eq rfl rfl rfl rfl rfl
@[simp] theorem Inv.modSecSite (h : Inv s) (i : Nat) (f : SecSite → SecSite) : Inv (s.modSecSite i f) := h.of_eq rfl rfl rfl rfl rfl
@[simp] theorem Inv.modGlb (h : Inv s) (f : Glb → Glb) : Inv (s.modGlb f) := h.of_eq rfl rfl rfl rfl rfl
@[simp] theorem Inv.modPwr (h : Inv s) (f : Pwr → Pwr) : Inv (s.modPwr f) := h.of_eq rfl rfl rfl rfl rfl
@[simp] theorem Inv.modClk (h : Inv s) (f : Clk → Clk) : Inv (s.modClk f) := h.of_eq rfl rfl rfl rfl rfl
@[simp] theorem Inv.modSync (h : Inv s) (f : Sync → Sync) : Inv (s.modSync f) := h.of_eq rfl rfl rfl rfl rfl
@[simp] theorem Inv.modSec (h : Inv s) (f : Sec → Sec) : Inv (s.modSec f) := h.of_eq rfl rfl rfl rfl rfl
@[simp] theorem Inv.modHlth (h : Inv s) (f : Hlth → Hlth) : Inv (s.modHlth f) := h.of_eq rfl rfl rfl rfl rfl
@[simp] theorem Inv.modBmem (h : Inv s) (f : Bmem → Bmem) : Inv (s.modBmem f) := h.of_eq rfl rfl rfl rfl rfl
@[simp] theorem Inv.modQmgr (h : Inv s) (f : Qmgr → Qmgr) : Inv (s.modQmgr f) := h.of_eq rfl rfl rfl rfl rfl
@[simp] theorem Inv.modNor (h : Inv s) (f : Nor → Nor) : Inv (s.modNor f) := h.of_eq rfl rfl rfl rfl rfl
@[simp] theorem Inv.modSmb (h : Inv s) (f : Smb → Smb) : Inv (s.modSmb f) := h.of_eq rfl rfl rfl rfl rfl
@[simp] theorem Inv.modJtag (h : Inv s) (f : Jtag → Jtag) : Inv (s.modJtag f) := h.of_eq rfl rfl rfl rfl rfl
@[simp] theorem Inv.emit (h : Inv s) (o : Out) : Inv (s.emit o) := h.of_eq rfl rfl rfl rfl rfl
@[simp] theorem Inv.useFree (h : Inv s) : Inv s.useFree := h.of_eq rfl rfl rfl rfl rfl

@[simp] theorem Inv.setStores (h : Inv s) (x : Tbl CStore) : Inv { s with stores := x } := h.of_eq rfl rfl rfl rfl rfl
@[simp] theorem Inv.setMicro (h : Inv s) (x : Tbl McImage) : Inv { s with micro := x } := h.of_eq rfl rfl rfl rfl rfl
@[simp] theorem Inv.setPcache (h : Inv s) (x : List CLine) : Inv { s with pcache := x } := h.of_eq rfl rfl rfl rfl rfl
@[simp] theorem Inv.setReturned (h : Inv s) (x : List Seg) : Inv { s with returned := x } := h.of_eq rfl rfl rfl rfl rfl

@[simp] theorem Inv.modSite (h : Inv s) (i : Nat) (f : Site → Site) 
    (h1 : 20 ≤ (f (s.site i)).lclkDiv) (h2 : (f (s.site i)).lclkDiv ≤ 4000) (h3 : 500 ≤ (f (s.site i)).lead)
    (h4 : (f (s.site i)).lead ≤ 4000) (h5 : 200 ≤ (f (s.site i)).tether) (h6 : (f (s.site i)).tether ≤ 4000)
    (h7 : (f (s.site i)).group < 16) :
    Inv (s.modSite i f) where
  mem := h.mem
  hdr := h.hdr
  site := fun j => Tbl.forall_upd h.site ⟨h1, h2, h3, h4, h5, h6, h7⟩ j
  err := h.err
  te := h.te

@[simp] theorem Inv.modTe (h : Inv s) (i : Nat) (f : Eng → Eng) (hf : (f (s.te i)).deque.length ≤ 64) :
    Inv (s.modTe i f) where
  mem := h.mem
  hdr := h.hdr
  site := h.site
  err := h.err
  te := fun j => Tbl.forall_upd h.te hf j

@[simp] theorem Inv.modErr (h : Inv s) (f : ErrLog → ErrLog) (h1 : (f s.err).ring.length ≤ 4096)
    (h2 : (f s.err).reserve.length ≤ 1024) : Inv (s.modErr f) where
  mem := h.mem
  hdr := h.hdr
  site := h.site
  err := ⟨h1, h2⟩
  te := h.te

theorem hdrReset_ok (ty i : Nat) : (hdrReset ty i).ok := by
  unfold hdrReset; split <;> simp [Hdr.ok] ; rename_i h; have := h.2; simp [nSite] at this; omega

@[simp] theorem Inv.modHdr (h : Inv s) (ty i : Nat) (f : Hdr → Hdr) (h1 : (f (s.hdr ty i)).owner ≤ 16)
    (h2 : (f (s.hdr ty i)).vector < 256) (h3 : (f (s.hdr ty i)).errCount ≤ 65535) :
    Inv (s.modHdr ty i f) where
  mem := h.mem
  hdr := fun a b => by
    by_cases hk : pageKey a b = pageKey ty i
    · simp only [State.hdr, State.modHdr, Tbl.upd, hk, Tbl.get_set_other]
      split
      · exact hdrReset_ok a b
      · exact ⟨h1, h2, h3⟩
    · rw [State.modHdr_hdr_ne _ _ _ _ _ _ hk]; exact h.hdr a b
  site := h.site
  err := h.err
  te := h.te

@[simp] theorem Inv.setByte (h : Inv s) (a : Nat) (b : Byte) : Inv (s.setByte a b) where
  mem := Tbl.wf_set a b h.mem
  hdr := h.hdr
  site := h.site
  err := h.err
  te := h.te

@[simp] theorem Inv.wipe (h : Inv s) (a n : Nat) : Inv (s.wipe a n) where
  mem := Tbl.wf_filter _ h.mem
  hdr := h.hdr
  site := h.site
  err := h.err
  te := h.te

@[simp] theorem Inv.setBytes (h : Inv s) (a : Nat) (l : List Byte) : Inv (s.setBytes a l) := by
  induction l generalizing s a with
  | nil => exact h
  | cons b t ih => exact ih (h.setByte a b) (a + 1)

@[simp] theorem Inv.forEach (h : Inv s) (l : List Nat) (f : Nat → State → State) (hf : ∀ i t, Inv t → Inv (f i t)) :
    Inv (forEach l f s) := by
  induction l generalizing s with
  | nil => exact h
  | cons i t ih => exact ih (hf i s h)

@[simp] theorem Inv.when (h : Inv s) (c : Bool) (f : State → State) (hf : ∀ t, Inv t → Inv (f t)) :
    Inv (when c f s) := by cases c <;> simp [h, hf]

@[simp] theorem Inv.foldl {α : Type} (h : Inv s) (l : List α) (f : State → α → State) (hf : ∀ t a, Inv t → Inv (f t a)) :
    Inv (l.foldl f s) := by
  induction l generalizing s with
  | nil => exact h
  | cons a t ih => exact ih (hf s a h)

@[simp] theorem Inv.foldlFst {α β : Type} (l : List α) (p : State × β) (f : State × β → α → State × β) (h : Inv p.1)
    (hf : ∀ p a, Inv p.1 → Inv (f p a).1) : Inv (l.foldl f p).1 := by
  induction l generalizing p with
  | nil => exact h
  | cons a t ih => exact ih (f p a) (hf p a h)

@[simp] theorem Inv.ite {a b : State} (c : Prop) [Decidable c] (ha : Inv a) (hb : Inv b) :
    Inv (if c then a else b) := by split <;> assumption

theorem Inv.of_onUnit {b : Bool} {u t : State} (h : onUnit b u = .next t) (hu : Inv u) : Inv t := by
  cases b <;> simp [onUnit] at h; subst h; exact hu

theorem Inv.of_next {u t : State} (h : (.next u : Host.Outcome State Fault Refusal) = .next t) (hu : Inv u) : Inv t := by
  cases h; exact hu

theorem forEach_keep {α : Type} (g : State → α) (f : Nat → State → State) (h : ∀ i t, g (f i t) = g t) :
    ∀ (l : List Nat) (s : State), g (forEach l f s) = g s
  | [], _ => rfl
  | i :: l, s => (forEach_keep g f h l (f i s)).trans (h i s)

/-- What every change of the BMEM page keeps, the accesses to a borrowed region keep. -/
theorem State.bankHits_keep {α : Type} (g : State → α) (h : ∀ (t : State) f, g (t.modBmem f) = g t) (s : State) (a n : Nat)
    (w : Bool) : g (s.bankHits a n w) = g s := by
  have hh : ∀ (t : State) off, g (t.shadowHit off w) = g t := by
    intro t off; unfold State.shadowHit; dsimp only; (repeat' split) <;> simp [h]
  unfold State.bankHits
  split
  · rfl
  · exact forEach_keep g _ (fun _ _ => hh ..) ..

end Sys2Proof.Machine
end

