-- ==== Sys2Proof/Laws/InvOps.lean ====
section
/-! SUPPORT. Operations of the shared operations keep the invariant, one law each. -/

namespace Sys2Proof.Machine

@[simp] theorem State.loadStore_inv (s : State) (e : Nat) (hs : Inv s) :
    Inv (State.loadStore s e) := by
  unfold State.loadStore
  try dsimp only
  try (repeat' split)
  all_goals (first | (simp (maxDischargeDepth := 30) [hs]; done) | (try simp_all (maxDischargeDepth := 30)))
@[simp] theorem State.setCopy_inv (s : State) (r : Nat) (i : McImage) (hs : Inv s) :
    Inv (State.setCopy s r i) := by
  unfold State.setCopy
  try dsimp only
  try (repeat' split)
  all_goals (first | (simp (maxDischargeDepth := 30) [hs]; done) | (try simp_all (maxDischargeDepth := 30)))
@[simp] theorem State.installBegin_inv (s : State) (r : Nat) (at_ : Nat) (hs : Inv s) :
    Inv (State.installBegin s r at_) := by
  unfold State.installBegin
  try dsimp only
  try (repeat' split)
  all_goals (first | (simp (maxDischargeDepth := 30) [hs]; done) | (try simp_all (maxDischargeDepth := 30)))
@[simp] theorem State.installStep_inv (s : State) (hs : Inv s) :
    Inv (State.installStep s) := by
  unfold State.installStep
  apply hs.forEach
  intro r t ht
  dsimp only
  (repeat' split) <;> simp [ht]
@[simp] theorem State.msix_inv (s : State) (fn : Nat) (v : Nat) (hs : Inv s) :
    Inv (State.msix s fn v) := by
  unfold State.msix
  try dsimp only
  try (repeat' split)
  all_goals (first | (simp (maxDischargeDepth := 30) [hs]; done) | (try simp_all (maxDischargeDepth := 30)))
@[simp] theorem State.pageMsgs_inv (s : State) (ty : Nat) (inst : Nat) (m : Nat) (hs : Inv s) :
    Inv (State.pageMsgs s ty inst m) := by
  unfold State.pageMsgs
  try dsimp only
  try (repeat' split)
  all_goals (first | (simp (maxDischargeDepth := 30) [hs]; done) | (try simp_all (maxDischargeDepth := 30)))
@[simp] theorem State.cause_inv (s : State) (ty : Nat) (inst : Nat) (m : Nat) (hs : Inv s) :
    Inv (State.cause s ty inst m) := by
  unfold State.cause
  try dsimp only
  try (repeat' split)
  all_goals (first | (simp (maxDischargeDepth := 30) [hs]; done) | (try simp_all (maxDischargeDepth := 30)))
@[simp] theorem State.shadowHit_inv (s : State) (off : Nat) (write : Bool) (hs : Inv s) :
    Inv (State.shadowHit s off write) := by
  unfold State.shadowHit
  try dsimp only
  try (repeat' split)
  all_goals (first | (simp (maxDischargeDepth := 30) [hs]; done) | (try simp_all (maxDischargeDepth := 30)))
@[simp] theorem State.bankHits_inv (s : State) (a : Nat) (n : Nat) (write : Bool) (hs : Inv s) :
    Inv (State.bankHits s a n write) := by
  unfold State.bankHits
  try dsimp only
  try (repeat' split)
  all_goals (first | (simp (maxDischargeDepth := 30) [hs]; done) | (try simp_all (maxDischargeDepth := 30)))
@[simp] theorem State.qHit_inv (s : State) (q : Nat) (write : Bool) (hs : Inv s) :
    Inv (State.qHit s q write) := by
  unfold State.qHit
  try dsimp only
  try (repeat' split)
  all_goals (first | (simp (maxDischargeDepth := 30) [hs]; done) | (try simp_all (maxDischargeDepth := 30)))
@[simp] theorem State.produce_inv (s : State) (q : Nat) (slots : List (List Byte)) (hs : Inv s) :
    Inv (State.produce s q slots) := by
  unfold State.produce
  try dsimp only
  try (repeat' split)
  all_goals (first | (simp (maxDischargeDepth := 30) [hs]; done) | (try simp_all (maxDischargeDepth := 30)))
@[simp] theorem State.stream_inv (s : State) (q : Nat) (rec : List Byte) (hs : Inv s) :
    Inv (State.stream s q rec).1 := by
  unfold State.stream
  try dsimp only
  try (repeat' split)
  all_goals (first | (simp (maxDischargeDepth := 30) [hs]; done) | (try simp_all (maxDischargeDepth := 30)))
@[simp] theorem State.consume_inv (s : State) (q : Nat) (n : Nat) (hs : Inv s) :
    Inv (State.consume s q n) := by
  unfold State.consume
  try dsimp only
  try (repeat' split)
  all_goals (first | (simp (maxDischargeDepth := 30) [hs]; done) | (try simp_all (maxDischargeDepth := 30)))
@[simp] theorem State.postCpl_inv (s : State) (fn : Nat) (q : Nat) (entry : List Byte) (hs : Inv s) :
    Inv (State.postCpl s fn q entry) := by
  unfold State.postCpl
  try dsimp only
  try (repeat' split)
  all_goals (first | (simp (maxDischargeDepth := 30) [hs]; done) | (try simp_all (maxDischargeDepth := 30)))
@[simp] theorem State.postLog_inv (s : State) (st : Nat) (e : List Byte) (hs : Inv s) :
    Inv (State.postLog s st e) := by
  unfold State.postLog
  try dsimp only
  try (repeat' split)
  all_goals (first | (simp (maxDischargeDepth := 30) [hs]; done) | (try simp_all (maxDischargeDepth := 30)))
@[simp] theorem State.copyEntry_inv (s : State) (e : ErrEntry) (hs : Inv s) :
    Inv (State.copyEntry s e) := by
  unfold State.copyEntry
  try dsimp only
  try (repeat' split)
  all_goals (first | (simp (maxDischargeDepth := 30) [hs]; done) | (try simp_all (maxDischargeDepth := 30)))

@[simp] theorem State.setBytes_err (s : State) (a : Nat) (l : List Byte) : (s.setBytes a l).err = s.err := by
  induction l generalizing s a with
  | nil => rfl
  | cons b t ih => exact ih ..

@[simp] theorem forEach_err (l : List Nat) (f : Nat → State → State) (hf : ∀ i t, (f i t).err = t.err) (s : State) :
    (forEach l f s).err = s.err := by
  induction l generalizing s with
  | nil => rfl
  | cons i t ih => rw [forEach_cons, ih, hf]

@[simp] theorem State.msix_err (s : State) (fn v : Nat) : (s.msix fn v).err = s.err := by
  unfold State.msix; dsimp only; split <;> simp

@[simp] theorem State.bankHits_err (s : State) (a n : Nat) (w : Bool) : (s.bankHits a n w).err = s.err :=
  State.bankHits_keep (·.err) (fun _ _ => rfl) ..

theorem State.produceSlots_err (f : Nat → Nat) (g : Nat → Nat) (l : List (List Byte)) (p : State × Nat) :
    (l.foldl (fun (p : State × Nat) b => ((p.1.bankHits (f p.2) b.length true).setBytes (f p.2) b, g p.2)) p).1.err = p.1.err := by
  induction l generalizing p with
  | nil => rfl
  | cons b t ih => rw [List.foldl_cons, ih]; simp

@[simp] theorem State.produce_err (s : State) (q : Nat) (l : List (List Byte)) : (s.produce q l).err = s.err := by
  unfold State.produce; dsimp only
  rw [show ∀ (c : Bool) (f : State → State) (t : State), (∀ u, (f u).err = u.err) → (when c f t).err = t.err from
    fun c f t h => by cases c <;> simp [h]]
  · rw [State.modQueue_err]
    exact State.produceSlots_err (fun n => (s.queue q).base + slotSize (s.queue q).type * n)
      (fun n => (n + 1) % (s.queue q).slots) l (s.qHit q true, (s.queue q).tail) |>.trans (State.bankHits_err ..)
  · simp

@[simp] theorem State.postLog_err (s : State) (st : Nat) (e : List Byte) : (s.postLog st e).err = s.err := by
  unfold State.postLog; dsimp only; (repeat' split) <;> simp

@[simp] theorem State.copyEntry_err (s : State) (e : ErrEntry) : (s.copyEntry e).err = s.err := by
  unfold State.copyEntry; simp

theorem State.copyAll_err (l : List ErrEntry) (s : State) : (l.foldl (fun t e => t.copyEntry e) s).err = s.err := by
  induction l generalizing s with
  | nil => rfl
  | cons e t ih => rw [List.foldl_cons, ih]; simp

@[simp] theorem State.closeEntries_ring (s : State) (p : ErrEntry → Bool) :
    (s.closeEntries p).err.ring.length = s.err.ring.length := by
  unfold State.closeEntries; dsimp only; rw [State.copyAll_err]; simp
@[simp] theorem State.closeEntries_reserve (s : State) (p : ErrEntry → Bool) :
    (s.closeEntries p).err.reserve = s.err.reserve := by
  unfold State.closeEntries; dsimp only; rw [State.copyAll_err]; simp

@[simp] theorem State.closeEntries_inv (s : State) (p : ErrEntry → Bool) (hs : Inv s) :
    Inv (State.closeEntries s p) := by
  unfold State.closeEntries
  try dsimp only
  try (repeat' split)
  all_goals (first | (simp (maxDischargeDepth := 30) [hs]; done) | (try simp_all (maxDischargeDepth := 30)))
@[simp] theorem State.closeDue_inv (s : State) (hs : Inv s) :
    Inv (State.closeDue s) := by
  unfold State.closeDue
  try dsimp only
  try (repeat' split)
  all_goals (first | (simp (maxDischargeDepth := 30) [hs]; done) | (try simp_all (maxDischargeDepth := 30)))
theorem State.writeEntry_inv (s : State) (e : ErrEntry) (hs : Inv s) (hr : s.err.ring.length < 4096) :
    Inv (State.writeEntry s e) := by
  have hc : ∀ p, (s.closeEntries p).err.ring.length < 4096 := fun p => by simpa using hr
  unfold State.writeEntry
  dsimp only
  apply State.cause_inv
  have key : ∀ (t : State) (x : ErrEntry), Inv t → t.err.ring.length < 4096 →
      Inv (t.modErr (fun l => { l with
        ring := l.ring ++ [x], nextSeq := (l.nextSeq + 1) % 65536, lastWrite := some s.up })) := by
    intro t x ht hl
    exact ht.modErr _ (by simp; omega) ht.reserve
  (repeat' split) <;> (try apply State.copyEntry_inv) <;> apply key <;> simp (maxDischargeDepth := 30) +contextual [hs, hr, hc]

theorem State.errCanWrite_ring {s : State} (h : s.errCanWrite = true) : s.err.ring.length < 4096 := by
  simp only [State.errCanWrite, Bool.and_eq_true, decide_eq_true_eq] at h; exact h.1

@[simp] theorem State.errDrain_inv (s : State) (hs : Inv s) : Inv (State.errDrain s) := by
  unfold State.errDrain
  split
  · rename_i h
    have hr := State.errCanWrite_ring h
    split
    · rename_i e t heq
      refine State.writeEntry_inv _ _ (hs.modErr _ hs.ring ?_) hr
      have := hs.reserve
      simp [heq] at this ⊢; omega
    · split
      · exact hs
      · exact State.writeEntry_inv _ _ (hs.modErr _ hs.ring hs.reserve) hr
  · exact hs

@[simp] theorem State.newEntry_inv (s : State) (e : ErrEntry) (hs : Inv s) : Inv (State.newEntry s e) := by
  unfold State.newEntry
  dsimp only
  have h := State.errDrain_inv s hs
  split
  · rename_i hw; exact State.writeEntry_inv _ _ h (State.errCanWrite_ring hw)
  · split
    · rename_i hr
      exact h.modErr _ h.ring (by simp; omega)
    · exact h.modErr _ h.ring h.reserve

@[simp] theorem State.raiseAt_inv (s : State) (tt : Nat) (code : Nat) (ty : Nat) (inst : Nat) (site : Option Nat)
    (detail : Nat) (tr : Bool) (perm : Bool) (hs : Inv s) :
    Inv (State.raiseAt s tt code ty inst site detail tr perm) := by
  unfold State.raiseAt
  dsimp only
  have h0 : Inv ((s.closeDue.modHdr ty inst (fun h => { h with errCount := satAdd sat16 h.errCount 1, lastCode := code })).modErr
      (fun l => { l with lastCode := code, lastTy := ty, lastInst := inst })) := by
    have h := State.closeDue_inv s hs
    have h1 := h.modHdr ty inst (fun h => { h with errCount := satAdd sat16 h.errCount 1, lastCode := code })
      (h.owner _ _) (h.vector _ _) (by simp)
    exact h1.modErr _ h1.ring h1.reserve
  split
  · exact h0.modErr _ (by have := h0.ring; simpa using this) h0.reserve
  · exact State.newEntry_inv _ _ h0
@[simp] theorem State.raiseFull_inv (s : State) (code : Nat) (ty : Nat) (inst : Nat) (site : Option Nat)
    (detail : Nat) (tr : Bool) (perm : Bool) (hs : Inv s) :
    Inv (State.raiseFull s code ty inst site detail tr perm) := by
  exact State.raiseAt_inv _ _ _ _ _ _ _ _ _ hs

@[simp] theorem State.raise_inv (s : State) (code : Nat) (ty : Nat) (inst : Nat) (site : Option Nat)
    (detail : Nat) (hs : Inv s) :
    Inv (State.raise s code ty inst site detail) := by
  unfold State.raise
  try dsimp only
  try (repeat' split)
  all_goals (first | (simp (maxDischargeDepth := 30) [hs]; done) | (try simp_all (maxDischargeDepth := 30)))
@[simp] theorem State.raisePage_inv (s : State) (code : Nat) (ty : Nat) (inst : Nat) (hs : Inv s) :
    Inv (State.raisePage s code ty inst) := by
  unfold State.raisePage
  try dsimp only
  try (repeat' split)
  all_goals (first | (simp (maxDischargeDepth := 30) [hs]; done) | (try simp_all (maxDischargeDepth := 30)))
@[simp] theorem State.aerReport_inv (s : State) (fn : Nat) (r : AerReport) (hs : Inv s) :
    Inv (State.aerReport s fn r) := by
  unfold State.aerReport
  try dsimp only
  try (repeat' split)
  all_goals (first | (simp (maxDischargeDepth := 30) [hs]; done) | (try simp_all (maxDischargeDepth := 30)))
@[simp] theorem State.refuseReset_inv (s : State) (fn : Nat) (hs : Inv s) :
    Inv (State.refuseReset s fn) := by
  unfold State.refuseReset
  try dsimp only
  try (repeat' split)
  all_goals (first | (simp (maxDischargeDepth := 30) [hs]; done) | (try simp_all (maxDischargeDepth := 30)))
@[simp] theorem State.deny_inv (s : State) (fn : Nat) (ty : Nat) (inst : Nat) (off : Nat) (write : Bool)
    (hs : Inv s) :
    Inv (State.deny s fn ty inst off write) := by
  unfold State.deny
  try dsimp only
  try (repeat' split)
  all_goals (first | (simp (maxDischargeDepth := 30) [hs]; done) | (try simp_all (maxDischargeDepth := 30)))
@[simp] theorem State.denyUnmapped_inv (s : State) (fn : Nat) (ty : Nat) (inst : Nat) (off : Nat) (write : Bool)
    (hs : Inv s) :
    Inv (State.denyUnmapped s fn ty inst off write) := by
  unfold State.denyUnmapped
  try dsimp only
  try (repeat' split)
  all_goals (first | (simp (maxDischargeDepth := 30) [hs]; done) | (try simp_all (maxDischargeDepth := 30)))
@[simp] theorem State.locked_inv (s : State) (fn : Nat) (ty : Nat) (inst : Nat) (off : Nat) (hs : Inv s) :
    Inv (State.locked s fn ty inst off) := by
  unfold State.locked
  try dsimp only
  try (repeat' split)
  all_goals (first | (simp (maxDischargeDepth := 30) [hs]; done) | (try simp_all (maxDischargeDepth := 30)))
@[simp] theorem State.onWrite_inv (s : State) (fn : Nat) (ty : Nat) (inst : Nat) (off : Nat) (op : State → State)
    (hs : Inv s) (hop : ∀ y1, Inv y1 → Inv (op y1)) :
    Inv (State.onWrite s fn ty inst off op) := by
  unfold State.onWrite
  try dsimp only
  try (repeat' split)
  all_goals (first | (simp (maxDischargeDepth := 30) [hs]; done) | (try simp_all (maxDischargeDepth := 30)))
@[simp] theorem State.onRead_inv (s : State) (fn : Nat) (ty : Nat) (inst : Nat) (off : Nat)
    (op : State → State × Nat) (hs : Inv s) (hop : ∀ y1, Inv y1 → Inv (op y1).1) :
    Inv (State.onRead s fn ty inst off op) := by
  unfold State.onRead
  try dsimp only
  try (repeat' split)
  all_goals (first | (simp (maxDischargeDepth := 30) [hs]; done) | (try simp_all (maxDischargeDepth := 30)))

end Sys2Proof.Machine
end

