-- ==== Sys2Proof/Laws/InvQueue.lean ====
section
/-! SUPPORT. Operations of doorbells, pushes and held completions keep the invariant, one law each. -/

namespace Sys2Proof.Machine

@[simp] theorem State.dbDrop_inv (s : State) (fn : Nat) (q : Nat) (code : Nat) (hs : Inv s) :
    Inv (State.dbDrop s fn q code) := by
  unfold State.dbDrop
  try dsimp only
  try (repeat' split)
  all_goals (first | (simp (maxDischargeDepth := 30) [hs]; done) | (try simp_all (maxDischargeDepth := 30)))
@[simp] theorem State.doorbell_inv (s : State) (fn : Nat) (q : Nat) (ok : QDesc → Bool) (act : State → State)
    (hs : Inv s) (hact : ∀ y1, Inv y1 → Inv (act y1)) :
    Inv (State.doorbell s fn q ok act) := by
  unfold State.doorbell
  try dsimp only
  try (repeat' split)
  all_goals (first | (simp (maxDischargeDepth := 30) [hs]; done) | (try simp_all (maxDischargeDepth := 30)))
@[simp] theorem State.qRelease_inv (s : State) (fn : Nat) (q : Nat) (index : Nat) (hs : Inv s) :
    Inv (State.qRelease s fn q index) := by
  unfold State.qRelease
  try dsimp only
  try (repeat' split)
  all_goals (first | (simp (maxDischargeDepth := 30) [hs]; done) | (try simp_all (maxDischargeDepth := 30)))
@[simp] theorem State.barWrite_inv (s : State) (fn : Nat) (off : Nat) (val : Nat) (hs : Inv s) :
    Inv (State.barWrite s fn off val) := by
  unfold State.barWrite
  try dsimp only
  try (repeat' split)
  all_goals (first | (simp (maxDischargeDepth := 30) [hs]; done) | (try simp_all (maxDischargeDepth := 30)))
@[simp] theorem State.pushBytes_inv (s : State) (fn : Nat) (off : Nat) (data : List Byte) (hs : Inv s) :
    Inv (State.pushBytes s fn off data) := by
  unfold State.pushBytes
  try dsimp only
  try (repeat' split)
  all_goals (first | (simp (maxDischargeDepth := 30) [hs]; done) | (try simp_all (maxDischargeDepth := 30)))
@[simp] theorem State.descRead_inv (s : State) (fn : Nat) (hs : Inv s) :
    Inv (State.descRead s fn) := by
  unfold State.descRead
  try dsimp only
  try (repeat' split)
  all_goals (first | (simp (maxDischargeDepth := 30) [hs]; done) | (try simp_all (maxDischargeDepth := 30)))
@[simp] theorem State.descWrite_inv (s : State) (fn : Nat) (hs : Inv s) :
    Inv (State.descWrite s fn) := by
  unfold State.descWrite
  try dsimp only
  try (repeat' split)
  all_goals (first | (simp (maxDischargeDepth := 30) [hs]; done) | (try simp_all (maxDischargeDepth := 30)))
@[simp] theorem State.postHeld_inv (s : State) (fn : Nat) (hs : Inv s) :
    Inv (State.postHeld s fn) := by
  unfold State.postHeld
  try dsimp only
  try (repeat' split)
  all_goals (first | (simp (maxDischargeDepth := 30) [hs]; done) | (try simp_all (maxDischargeDepth := 30)))
@[simp] theorem State.logLostEntry_inv (s : State) (st : Nat) (hs : Inv s) :
    Inv (State.logLostEntry s st) := by
  unfold State.logLostEntry
  try dsimp only
  try (repeat' split)
  all_goals (first | (simp (maxDischargeDepth := 30) [hs]; done) | (try simp_all (maxDischargeDepth := 30)))

@[simp] theorem State.modFrm_inv (s : State) (st : Nat) (kind : Nat) (inst : Nat) (f : Frm → Frm) (hs : Inv s) :
    Inv (State.modFrm s st kind inst f) := by
  unfold State.modFrm
  try dsimp only
  try (repeat' split)
  all_goals (first | (simp (maxDischargeDepth := 30) [hs]; done) | (try simp_all (maxDischargeDepth := 30)))
@[simp] theorem State.closeFrame_inv (s : State) (st : Nat) (kind : Nat) (inst : Nat) (q : Nat) (hs : Inv s) :
    Inv (State.closeFrame s st kind inst q).1 := by
  unfold State.closeFrame
  try dsimp only
  try (repeat' split)
  all_goals (first | (simp (maxDischargeDepth := 30) [hs]; done) | (try simp_all (maxDischargeDepth := 30)))
@[simp] theorem State.deliver_inv (s : State) (o : Nat) (kind : Nat) (inst : Nat) (q : Nat) (rec : List Byte)
    (hs : Inv s) :
    Inv (State.deliver s o kind inst q rec).1 := by
  unfold State.deliver
  try dsimp only
  try (repeat' split)
  all_goals (first | (simp (maxDischargeDepth := 30) [hs]; done) | (try simp_all (maxDischargeDepth := 30)))

end Sys2Proof.Machine
end

