-- ==== Sys2Proof/Laws/InvPins.lean ====
section
/-! SUPPORT. Operations of pin electronics and levels keep the invariant, one law each. -/

namespace Sys2Proof.Machine

@[simp] theorem State.reject_inv (s : State) (fn : Nat) (code : Nat) (ty : Nat) (inst : Nat) (hs : Inv s) :
    Inv (State.reject s fn code ty inst) := by
  unfold State.reject
  try dsimp only
  try (repeat' split)
  all_goals (first | (simp (maxDischargeDepth := 30) [hs]; done) | (try simp_all (maxDischargeDepth := 30)))
@[simp] theorem State.checked_inv (s : State) (fn : Nat) (ty : Nat) (inst : Nat) (checks : List (Bool × Nat))
    (act : State → State) (hs : Inv s) (hact : ∀ y1, Inv y1 → Inv (act y1)) :
    Inv (State.checked s fn ty inst checks act) := by
  unfold State.checked
  try dsimp only
  try (repeat' split)
  all_goals (first | (simp (maxDischargeDepth := 30) [hs]; done) | (try simp_all (maxDischargeDepth := 30)))
@[simp] theorem State.laneFree_inv (s : State) (ch : Nat) (hs : Inv s) : Inv (s.laneFree ch) := hs.modClu _ _
@[simp] theorem State.wPeCtrl_inv (s : State) (fn : Nat) (ch : Nat) (val : Nat) (hs : Inv s) :
    Inv (State.wPeCtrl s fn ch val) := by
  unfold State.wPeCtrl
  try dsimp only
  try (repeat' split)
  all_goals (first | (simp (maxDischargeDepth := 30) [hs]; done) | (try simp_all (maxDischargeDepth := 30)))
@[simp] theorem State.wPeLoad_inv (s : State) (fn : Nat) (ch : Nat) (val : Nat) (hs : Inv s) :
    Inv (State.wPeLoad s fn ch val) := by
  unfold State.wPeLoad
  try dsimp only
  try (repeat' split)
  all_goals (first | (simp (maxDischargeDepth := 30) [hs]; done) | (try simp_all (maxDischargeDepth := 30)))
@[simp] theorem State.wPePmu_inv (s : State) (fn : Nat) (ch : Nat) (val : Nat) (hs : Inv s) :
    Inv (State.wPePmu s fn ch val) := by
  unfold State.wPePmu
  try dsimp only
  try (repeat' split)
  all_goals (first | (simp (maxDischargeDepth := 30) [hs]; done) | (try simp_all (maxDischargeDepth := 30)))
@[simp] theorem State.wPmuRange_inv (s : State) (fn : Nat) (ch : Nat) (val : Nat) (hs : Inv s) :
    Inv (State.wPmuRange s fn ch val) := by
  unfold State.wPmuRange
  try dsimp only
  try (repeat' split)
  all_goals (first | (simp (maxDischargeDepth := 30) [hs]; done) | (try simp_all (maxDischargeDepth := 30)))
@[simp] theorem State.wOpenWire_inv (s : State) (fn : Nat) (ch : Nat) (val : Nat) (hs : Inv s) :
    Inv (State.wOpenWire s fn ch val) := by
  unfold State.wOpenWire
  try dsimp only
  try (repeat' split)
  all_goals (first | (simp (maxDischargeDepth := 30) [hs]; done) | (try simp_all (maxDischargeDepth := 30)))
@[simp] theorem State.wClampStatus_inv (s : State) (ch : Nat) (val : Nat) (hs : Inv s) :
    Inv (State.wClampStatus s ch val) := by
  unfold State.wClampStatus
  try dsimp only
  try (repeat' split)
  all_goals (first | (simp (maxDischargeDepth := 30) [hs]; done) | (try simp_all (maxDischargeDepth := 30)))
@[simp] theorem State.wContact_inv (s : State) (fn : Nat) (ch : Nat) (val : Nat) (hs : Inv s) :
    Inv (State.wContact s fn ch val) := by
  unfold State.wContact
  try dsimp only
  try (repeat' split)
  all_goals (first | (simp (maxDischargeDepth := 30) [hs]; done) | (try simp_all (maxDischargeDepth := 30)))
@[simp] theorem State.wLvlDac_inv (s : State) (ch : Nat) (d : Nat) (val : Nat) (hs : Inv s) :
    Inv (State.wLvlDac s ch d val) := by
  unfold State.wLvlDac
  try dsimp only
  try (repeat' split)
  all_goals (first | (simp (maxDischargeDepth := 30) [hs]; done) | (try simp_all (maxDischargeDepth := 30)))
@[simp] theorem State.wLvlPush_inv (s : State) (fn : Nat) (ch : Nat) (val : Nat) (hs : Inv s) :
    Inv (State.wLvlPush s fn ch val) := by
  unfold State.wLvlPush
  try dsimp only
  try (repeat' split)
  all_goals (first | (simp (maxDischargeDepth := 30) [hs]; done) | (try simp_all (maxDischargeDepth := 30)))
@[simp] theorem State.wLvlCtrl_inv (s : State) (ch : Nat) (val : Nat) (hs : Inv s) :
    Inv (State.wLvlCtrl s ch val) := by
  unfold State.wLvlCtrl
  try dsimp only
  try (repeat' split)
  all_goals (first | (simp (maxDischargeDepth := 30) [hs]; done) | (try simp_all (maxDischargeDepth := 30)))
@[simp] theorem State.wLvlStatus_inv (s : State) (ch : Nat) (val : Nat) (hs : Inv s) :
    Inv (State.wLvlStatus s ch val) := by
  unfold State.wLvlStatus
  try dsimp only
  try (repeat' split)
  all_goals (first | (simp (maxDischargeDepth := 30) [hs]; done) | (try simp_all (maxDischargeDepth := 30)))
@[simp] theorem State.lvlArrive_inv (s : State) (ch : Nat) (hs : Inv s) :
    Inv (State.lvlArrive s ch) := by
  unfold State.lvlArrive
  try dsimp only
  try (repeat' split)
  all_goals (first | (simp (maxDischargeDepth := 30) [hs]; done) | (try simp_all (maxDischargeDepth := 30)))
@[simp] theorem State.lvlStep_inv (s : State) (ch : Nat) (hs : Inv s) :
    Inv (State.lvlStep s ch) := by
  unfold State.lvlStep
  try dsimp only
  try (repeat' split)
  all_goals (first | (simp (maxDischargeDepth := 30) [hs]; done) | (try simp_all (maxDischargeDepth := 30)))
@[simp] theorem State.lclkTick_inv (s : State) (st : Nat) (hs : Inv s) :
    Inv (State.lclkTick s st) := by
  unfold State.lclkTick
  try dsimp only
  try (repeat' split)
  all_goals (first | (simp (maxDischargeDepth := 30) [hs]; done) | (try simp_all (maxDischargeDepth := 30)))

end Sys2Proof.Machine
end

