-- ==== Sys2Proof/Laws/InvTiming.lean ====
section
/-! SUPPORT. Operations of timing generators keep the invariant, one law each. -/

namespace Sys2Proof.Machine

@[simp] theorem State.stageLo_inv (s : State) (fn : Nat) (ty : Nat) (inst : Nat) (lo : Nat) (val : Nat) (hs : Inv s) :
    Inv (State.stageLo s fn ty inst lo val) := by
  unfold State.stageLo
  try dsimp only
  try (repeat' split)
  all_goals (first | (simp (maxDischargeDepth := 30) [hs]; done) | (try simp_all (maxDischargeDepth := 30)))
@[simp] theorem State.unstage_inv (s : State) (fn : Nat) (ty : Nat) (inst : Nat) (lo : Nat) (hs : Inv s) :
    Inv (State.unstage s fn ty inst lo) := by
  unfold State.unstage
  try dsimp only
  try (repeat' split)
  all_goals (first | (simp (maxDischargeDepth := 30) [hs]; done) | (try simp_all (maxDischargeDepth := 30)))
@[simp] theorem State.wTgCtrl_inv (s : State) (fn : Nat) (ch : Nat) (val : Nat) (hs : Inv s) :
    Inv (State.wTgCtrl s fn ch val) := by
  unfold State.wTgCtrl
  try dsimp only
  try (repeat' split)
  all_goals (first | (simp (maxDischargeDepth := 30) [hs]; done) | (try simp_all (maxDischargeDepth := 30)))
@[simp] theorem State.wPeriodHi_inv (s : State) (fn : Nat) (ch : Nat) (val : Nat) (hs : Inv s) :
    Inv (State.wPeriodHi s fn ch val) := by
  unfold State.wPeriodHi
  try dsimp only
  try (repeat' split)
  all_goals (first | (simp (maxDischargeDepth := 30) [hs]; done) | (try simp_all (maxDischargeDepth := 30)))
@[simp] theorem State.wSymHi_inv (s : State) (fn : Nat) (ch : Nat) (val : Nat) (hs : Inv s) :
    Inv (State.wSymHi s fn ch val) := by
  unfold State.wSymHi
  try dsimp only
  try (repeat' split)
  all_goals (first | (simp (maxDischargeDepth := 30) [hs]; done) | (try simp_all (maxDischargeDepth := 30)))
@[simp] theorem State.wEdge_inv (s : State) (fn : Nat) (ch : Nat) (i : Nat) (val : Nat) (hs : Inv s) :
    Inv (State.wEdge s fn ch i val) := by
  unfold State.wEdge
  try dsimp only
  try (repeat' split)
  all_goals (first | (simp (maxDischargeDepth := 30) [hs]; done) | (try simp_all (maxDischargeDepth := 30)))
@[simp] theorem State.wFmt_inv (s : State) (fn : Nat) (ch : Nat) (i : Nat) (val : Nat) (hs : Inv s) :
    Inv (State.wFmt s fn ch i val) := by
  unfold State.wFmt
  try dsimp only
  try (repeat' split)
  all_goals (first | (simp (maxDischargeDepth := 30) [hs]; done) | (try simp_all (maxDischargeDepth := 30)))
@[simp] theorem State.wTgStatus_inv (s : State) (ch : Nat) (val : Nat) (hs : Inv s) :
    Inv (State.wTgStatus s ch val) := by
  unfold State.wTgStatus
  try dsimp only
  try (repeat' split)
  all_goals (first | (simp (maxDischargeDepth := 30) [hs]; done) | (try simp_all (maxDischargeDepth := 30)))
@[simp] theorem State.rgnBoundary_inv (s : State) (r : Nat) (hs : Inv s) :
    Inv (State.rgnBoundary s r) := by
  unfold State.rgnBoundary
  try dsimp only
  try (repeat' split)
  all_goals (first | (simp (maxDischargeDepth := 30) [hs]; done) | (try simp_all (maxDischargeDepth := 30)))
@[simp] theorem State.endRun_inv (s : State) (ch : Nat) (hs : Inv s) :
    Inv (State.endRun s ch) := by
  unfold State.endRun
  try dsimp only
  try (repeat' split)
  all_goals (first | (simp (maxDischargeDepth := 30) [hs]; done) | (try simp_all (maxDischargeDepth := 30)))
@[simp] theorem State.wFreerun_inv (s : State) (fn : Nat) (ch : Nat) (val : Nat) (hs : Inv s) :
    Inv (State.wFreerun s fn ch val) := by
  unfold State.wFreerun
  try dsimp only
  try (repeat' split)
  all_goals (first | (simp (maxDischargeDepth := 30) [hs]; done) | (try simp_all (maxDischargeDepth := 30)))
@[simp] theorem State.startUi_inv (s : State) (ch : Nat) (u : Nat) (t : Nat) (sym : Nat) (b : Option
    (Block × Nat)) (hs : Inv s) :
    Inv (State.startUi s ch u t sym b) := by
  unfold State.startUi
  try dsimp only
  try (repeat' split)
  all_goals (first | (simp (maxDischargeDepth := 30) [hs]; done) | (try simp_all (maxDischargeDepth := 30)))
@[simp] theorem State.uiStartStep_inv (s : State) (ch : Nat) (hs : Inv s) :
    Inv (State.uiStartStep s ch) := by
  unfold State.uiStartStep
  try dsimp only
  try (repeat' split)
  all_goals (first | (simp (maxDischargeDepth := 30) [hs]; done) | (try simp_all (maxDischargeDepth := 30)))
@[simp] theorem State.edgeStep_inv (s : State) (ch : Nat) (hs : Inv s) :
    Inv (State.edgeStep s ch) := by
  unfold State.edgeStep
  try dsimp only
  try (repeat' split)
  all_goals (first | (simp (maxDischargeDepth := 30) [hs]; done) | (try simp_all (maxDischargeDepth := 30)))
@[simp] theorem State.histFeed_inv (s : State) (ch : Nat) (kind : Nat) (v : Hist → Option Int) (hs : Inv s) :
    Inv (State.histFeed s ch kind v) := by
  unfold State.histFeed
  try dsimp only
  try (repeat' split)
  all_goals (first | (simp (maxDischargeDepth := 30) [hs]; done) | (try simp_all (maxDischargeDepth := 30)))
@[simp] theorem State.takeBlock_inv (s : State) (ch : Nat) (b : Block) (hs : Inv s) :
    Inv (State.takeBlock s ch b) := by
  unfold State.takeBlock
  try dsimp only
  try (repeat' split)
  all_goals (first | (simp (maxDischargeDepth := 30) [hs]; done) | (try simp_all (maxDischargeDepth := 30)))
@[simp] theorem State.withRec_inv (s : State) (r : Nat) (fresh : FcuRec) (f : FcuRec → FcuRec) (hs : Inv s) :
    Inv (State.withRec s r fresh f) := by
  unfold State.withRec
  try dsimp only
  try (repeat' split)
  all_goals (first | (simp (maxDischargeDepth := 30) [hs]; done) | (try simp_all (maxDischargeDepth := 30)))
@[simp] theorem State.openRec_inv (s : State) (ch : Nat) (b : Block) (hs : Inv s) :
    Inv (State.openRec s ch b) := by
  unfold State.openRec
  try dsimp only
  try (repeat' split)
  all_goals (first | (simp (maxDischargeDepth := 30) [hs]; done) | (try simp_all (maxDischargeDepth := 30)))
@[simp] theorem State.release_inv (s : State) (ch : Nat) (hs : Inv s) :
    Inv (State.release s ch) := by
  unfold State.release
  try dsimp only
  try (repeat' split)
  all_goals (first | (simp (maxDischargeDepth := 30) [hs]; done) | (try simp_all (maxDischargeDepth := 30)))

end Sys2Proof.Machine
end

