-- ==== Sys2Proof/Laws/InvCompare.lean ====
section
/-! SUPPORT. Operations of compare logic and fail capture keep the invariant, one law each. -/

namespace Sys2Proof.Machine

@[simp] theorem State.compareStep_inv (s : State) (ch : Nat) (hs : Inv s) :
    Inv (State.compareStep s ch) := by
  unfold State.compareStep
  try dsimp only
  try (repeat' split)
  all_goals (first | (simp (maxDischargeDepth := 30) [hs]; done) | (try simp_all (maxDischargeDepth := 30)))
@[simp] theorem State.modPart_inv (s : State) (r : Nat) (st : Nat) (f : FcuPart → FcuPart) (hs : Inv s) :
    Inv (State.modPart s r st f) := by
  unfold State.modPart
  try dsimp only
  try (repeat' split)
  all_goals (first | (simp (maxDischargeDepth := 30) [hs]; done) | (try simp_all (maxDischargeDepth := 30)))
@[simp] theorem State.partEvent_inv (s : State) (r : Nat) (st : Nat) (mask : Nat) (hs : Inv s) :
    Inv (State.partEvent s r st mask) := by
  unfold State.partEvent
  try dsimp only
  try (repeat' split)
  all_goals (first | (simp (maxDischargeDepth := 30) [hs]; done) | (try simp_all (maxDischargeDepth := 30)))
@[simp] theorem State.setLevel_inv (s : State) (r : Nat) (st : Nat) (lv : Nat) (hs : Inv s) :
    Inv (State.setLevel s r st lv) := by
  unfold State.setLevel
  try dsimp only
  try (repeat' split)
  all_goals (first | (simp (maxDischargeDepth := 30) [hs]; done) | (try simp_all (maxDischargeDepth := 30)))
@[simp] theorem State.loseUpdate_inv (s : State) (r : Nat) (st : Nat) (hs : Inv s) :
    Inv (State.loseUpdate s r st) := by
  unfold State.loseUpdate
  try dsimp only
  try (repeat' split)
  all_goals (first | (simp (maxDischargeDepth := 30) [hs]; done) | (try simp_all (maxDischargeDepth := 30)))
@[simp] theorem State.loseRecord_inv (s : State) (r : Nat) (st : Nat) (tt : Nat) (nfail : Nat) (hs : Inv s) :
    Inv (State.loseRecord s r st tt nfail) := by
  unfold State.loseRecord
  try dsimp only
  try (repeat' split)
  all_goals (first | (simp (maxDischargeDepth := 30) [hs]; done) | (try simp_all (maxDischargeDepth := 30)))
@[simp] theorem State.pushRing_inv (s : State) (r : Nat) (st : Nat) (rec : Nat → List Byte) (count : Bool)
    (hs : Inv s) :
    Inv (State.pushRing s r st rec count) := by
  unfold State.pushRing
  try dsimp only
  try (repeat' split)
  all_goals (first | (simp (maxDischargeDepth := 30) [hs]; done) | (try simp_all (maxDischargeDepth := 30)))
@[simp] theorem State.commitGap_inv (s : State) (r : Nat) (st : Nat) (hs : Inv s) :
    Inv (State.commitGap s r st) := by
  unfold State.commitGap
  try dsimp only
  try (repeat' split)
  all_goals (first | (simp (maxDischargeDepth := 30) [hs]; done) | (try simp_all (maxDischargeDepth := 30)))
@[simp] theorem State.commitRecord_inv (s : State) (r : Nat) (st : Nat) (tt : Nat) (nfail : Nat)
    (full : Nat → List Byte) (summary : Nat → List Byte) (keepAt : Nat) (hs : Inv s) :
    Inv (State.commitRecord s r st tt nfail full summary keepAt).1 := by
  unfold State.commitRecord
  try dsimp only
  try (repeat' split)
  all_goals (first | (simp (maxDischargeDepth := 30) [hs]; done) | (try simp_all (maxDischargeDepth := 30)))
@[simp] theorem State.countN_inv (s : State) (r : Nat) (st : Nat) (hs : Inv s) :
    Inv (State.countN s r st) := by
  unfold State.countN
  try dsimp only
  try (repeat' split)
  all_goals (first | (simp (maxDischargeDepth := 30) [hs]; done) | (try simp_all (maxDischargeDepth := 30)))
@[simp] theorem State.commitFail_inv (s : State) (r : Nat) (c : FcuRec) (hs : Inv s) :
    Inv (State.commitFail s r c) := by
  unfold State.commitFail
  try dsimp only
  try (repeat' split)
  all_goals (first | (simp (maxDischargeDepth := 30) [hs]; done) | (try simp_all (maxDischargeDepth := 30)))
@[simp] theorem State.commitCapture_inv (s : State) (r : Nat) (c : FcuRec) (hs : Inv s) :
    Inv (State.commitCapture s r c) := by
  unfold State.commitCapture
  try dsimp only
  try (repeat' split)
  all_goals (first | (simp (maxDischargeDepth := 30) [hs]; done) | (try simp_all (maxDischargeDepth := 30)))
@[simp] theorem State.recsPast_inv (s : State) (st : Nat) (hs : Inv s) :
    Inv (State.recsPast s st) := by
  unfold State.recsPast
  try dsimp only
  try (repeat' split)
  all_goals (first | (simp (maxDischargeDepth := 30) [hs]; done) | (try simp_all (maxDischargeDepth := 30)))
@[simp] theorem State.closeRecord_inv (s : State) (r : Nat) (segId : Nat) (seq : Nat) (hs : Inv s) :
    Inv (State.closeRecord s r segId seq) := by
  unfold State.closeRecord
  try dsimp only
  try (repeat' split)
  all_goals (first | (simp (maxDischargeDepth := 30) [hs]; done) | (try simp_all (maxDischargeDepth := 30)))
@[simp] theorem State.toRec_inv (s : State) (ch : Nat) (v : CmpRes) (f : FcuRec → FcuRec) (hs : Inv s) :
    Inv (State.toRec s ch v f) := by
  unfold State.toRec
  try dsimp only
  try (repeat' split)
  all_goals (first | (simp (maxDischargeDepth := 30) [hs]; done) | (try simp_all (maxDischargeDepth := 30)))
@[simp] theorem State.writeUps_inv (s : State) (x1 : List (Nat × Nat)) (hs : Inv s) :
    Inv (State.writeUps s x1).1 := by
  induction x1 generalizing s with
  | nil => exact hs
  | cons u t ih => unfold State.writeUps; split; exact hs; exact ih _ (hs.setByte _ _)
@[simp] theorem State.drainUps_inv (s : State) (r : Nat) (st : Nat) (hs : Inv s) :
    Inv (State.drainUps s r st) := by
  unfold State.drainUps
  try dsimp only
  try (repeat' split)
  all_goals (first | (simp (maxDischargeDepth := 30) [hs]; done) | (try simp_all (maxDischargeDepth := 30)))
@[simp] theorem State.dropUpdate_inv (s : State) (r : Nat) (st : Nat) (addr : Nat) (hs : Inv s) :
    Inv (State.dropUpdate s r st addr) := by
  unfold State.dropUpdate
  try dsimp only
  try (repeat' split)
  all_goals (first | (simp (maxDischargeDepth := 30) [hs]; done) | (try simp_all (maxDischargeDepth := 30)))
@[simp] theorem State.bitmapUpdate_inv (s : State) (ch : Nat) (e : CmpEv) (symAt : Nat → Option Nat) (hs : Inv s) :
    Inv (State.bitmapUpdate s ch e symAt) := by
  unfold State.bitmapUpdate
  try dsimp only
  try (repeat' split)
  all_goals (first | (simp (maxDischargeDepth := 30) [hs]; done) | (try simp_all (maxDischargeDepth := 30)))
@[simp] theorem State.countFail_inv (s : State) (ch : Nat) (hs : Inv s) :
    Inv (State.countFail s ch) := by
  unfold State.countFail
  try dsimp only
  try (repeat' split)
  all_goals (first | (simp (maxDischargeDepth := 30) [hs]; done) | (try simp_all (maxDischargeDepth := 30)))
@[simp] theorem State.moveRecord_inv (s : State) (r : Nat) (st : Nat)
    (deliver : State → Nat → List Byte → State × Bool) (hs : Inv s) (hdeliver : ∀ y1 y2 y3, Inv y1 → Inv (deliver y1 y2 y3).1) :
    Inv (State.moveRecord s r st deliver) := by
  unfold State.moveRecord
  try dsimp only
  try (repeat' split)
  all_goals (first | (simp (maxDischargeDepth := 30) [hs]; done) | (try simp_all (maxDischargeDepth := 30)))
@[simp] theorem State.wPSize_inv (s : State) (fn : Nat) (r : Nat) (st : Nat) (val : Nat) (hs : Inv s) :
    Inv (State.wPSize s fn r st val) := by
  unfold State.wPSize
  try dsimp only
  try (repeat' split)
  all_goals (first | (simp (maxDischargeDepth := 30) [hs]; done) | (try simp_all (maxDischargeDepth := 30)))
@[simp] theorem State.wPCtrl_inv (s : State) (fn : Nat) (r : Nat) (st : Nat) (val : Nat) (hs : Inv s) :
    Inv (State.wPCtrl s fn r st val) := by
  unfold State.wPCtrl
  try dsimp only
  try (repeat' split)
  all_goals (first | (simp (maxDischargeDepth := 30) [hs]; done) | (try simp_all (maxDischargeDepth := 30)))
@[simp] theorem State.wPN_inv (s : State) (fn : Nat) (r : Nat) (st : Nat) (val : Nat) (hs : Inv s) :
    Inv (State.wPN s fn r st val) := by
  unfold State.wPN
  try dsimp only
  try (repeat' split)
  all_goals (first | (simp (maxDischargeDepth := 30) [hs]; done) | (try simp_all (maxDischargeDepth := 30)))
@[simp] theorem State.wFcuCtrl_inv (s : State) (fn : Nat) (r : Nat) (val : Nat) (hs : Inv s) :
    Inv (State.wFcuCtrl s fn r val) := by
  unfold State.wFcuCtrl
  try dsimp only
  try (repeat' split)
  all_goals (first | (simp (maxDischargeDepth := 30) [hs]; done) | (try simp_all (maxDischargeDepth := 30)))
@[simp] theorem State.wCmpCtrl_inv (s : State) (fn : Nat) (ch : Nat) (val : Nat) (hs : Inv s) :
    Inv (State.wCmpCtrl s fn ch val) := by
  unfold State.wCmpCtrl
  try dsimp only
  try (repeat' split)
  all_goals (first | (simp (maxDischargeDepth := 30) [hs]; done) | (try simp_all (maxDischargeDepth := 30)))
@[simp] theorem State.wTdcCtrl_inv (s : State) (fn : Nat) (ch : Nat) (val : Nat) (hs : Inv s) :
    Inv (State.wTdcCtrl s fn ch val) := by
  unfold State.wTdcCtrl
  try dsimp only
  try (repeat' split)
  all_goals (first | (simp (maxDischargeDepth := 30) [hs]; done) | (try simp_all (maxDischargeDepth := 30)))
@[simp] theorem State.wCmpMask_inv (s : State) (ch : Nat) (val : Nat) (hs : Inv s) :
    Inv (State.wCmpMask s ch val) := by
  unfold State.wCmpMask
  try dsimp only
  try (repeat' split)
  all_goals (first | (simp (maxDischargeDepth := 30) [hs]; done) | (try simp_all (maxDischargeDepth := 30)))
@[simp] theorem State.wCmpStatus_inv (s : State) (ch : Nat) (val : Nat) (hs : Inv s) :
    Inv (State.wCmpStatus s ch val) := by
  unfold State.wCmpStatus
  try dsimp only
  try (repeat' split)
  all_goals (first | (simp (maxDischargeDepth := 30) [hs]; done) | (try simp_all (maxDischargeDepth := 30)))
@[simp] theorem State.wFailHi_inv (s : State) (fn : Nat) (ch : Nat) (val : Nat) (hs : Inv s) :
    Inv (State.wFailHi s fn ch val) := by
  unfold State.wFailHi
  try dsimp only
  try (repeat' split)
  all_goals (first | (simp (maxDischargeDepth := 30) [hs]; done) | (try simp_all (maxDischargeDepth := 30)))

end Sys2Proof.Machine
end

