-- ==== Sys2Proof/Laws/InvBurst.lean ====
section
/-! SUPPORT. Operations of burst commands keep the invariant, one law each. -/

namespace Sys2Proof.Machine

@[simp] theorem State.siteCpl_inv (s : State) (st : Nat) (entry : List Byte) (hs : Inv s) :
    Inv (State.siteCpl s st entry) := by
  unfold State.siteCpl
  try dsimp only
  try (repeat' split)
  all_goals (first | (simp (maxDischargeDepth := 30) [hs]; done) | (try simp_all (maxDischargeDepth := 30)))
@[simp] theorem State.burstCplAt_inv (s : State) (st : Nat) (status : Nat) (tt : Nat) (entered : Burst) (hs : Inv s) :
    Inv (State.burstCplAt s st status tt entered) := by
  unfold State.burstCplAt
  try dsimp only
  try (repeat' split)
  all_goals (first | (simp (maxDischargeDepth := 30) [hs]; done) | (try simp_all (maxDischargeDepth := 30)))
@[simp] theorem State.burstCpl_inv (s : State) (st : Nat) (status : Nat) (entered : Burst) (hs : Inv s) :
    Inv (State.burstCpl s st status entered) := by
  unfold State.burstCpl
  try dsimp only
  try (repeat' split)
  all_goals (first | (simp (maxDischargeDepth := 30) [hs]; done) | (try simp_all (maxDischargeDepth := 30)))
@[simp] theorem State.burstNotice_inv (s : State) (st : Nat) (entered : Burst) (hs : Inv s) :
    Inv (State.burstNotice s st entered) := by
  unfold State.burstNotice
  try dsimp only
  try (repeat' split)
  all_goals (first | (simp (maxDischargeDepth := 30) [hs]; done) | (try simp_all (maxDischargeDepth := 30)))
@[simp] theorem State.raiseBurst_inv (s : State) (code : Nat) (st : Nat) (hs : Inv s) :
    Inv (State.raiseBurst s code st) := by
  unfold State.raiseBurst
  try dsimp only
  try (repeat' split)
  all_goals (first | (simp (maxDischargeDepth := 30) [hs]; done) | (try simp_all (maxDischargeDepth := 30)))
@[simp] theorem State.rejectBurst_inv (s : State) (st : Nat) (code : Nat) (hs : Inv s) :
    Inv (State.rejectBurst s st code) := by
  unfold State.rejectBurst
  try dsimp only
  try (repeat' split)
  all_goals (first | (simp (maxDischargeDepth := 30) [hs]; done) | (try simp_all (maxDischargeDepth := 30)))
@[simp] theorem State.clearDeques_inv (s : State) (st : Nat) (hs : Inv s) :
    Inv (State.clearDeques s st) := by
  unfold State.clearDeques
  try dsimp only
  try (repeat' split)
  all_goals (first | (simp (maxDischargeDepth := 30) [hs]; done) | (try simp_all (maxDischargeDepth := 30)))
@[simp] theorem State.emptyDeque_inv (s : State) (e : Nat) (hs : Inv s) :
    Inv (State.emptyDeque s e) := by
  unfold State.emptyDeque
  try dsimp only
  try (repeat' split)
  all_goals (first | (simp (maxDischargeDepth := 30) [hs]; done) | (try simp_all (maxDischargeDepth := 30)))
@[simp] theorem State.discardQueues_inv (s : State) (st : Nat) (hs : Inv s) :
    Inv (State.discardQueues s st) := by
  unfold State.discardQueues
  try dsimp only
  try (repeat' split)
  all_goals (first | (simp (maxDischargeDepth := 30) [hs]; done) | (try simp_all (maxDischargeDepth := 30)))
@[simp] theorem State.resetBarriers_inv (s : State) (st : Nat) (hs : Inv s) :
    Inv (State.resetBarriers s st) := by
  unfold State.resetBarriers
  try dsimp only
  try (repeat' split)
  all_goals (first | (simp (maxDischargeDepth := 30) [hs]; done) | (try simp_all (maxDischargeDepth := 30)))
@[simp] theorem State.abortSiteAt_inv (s : State) (st : Nat) (code : Nat) (t : Nat) (hs : Inv s) :
    Inv (State.abortSiteAt s st code t) := by
  unfold State.abortSiteAt
  try dsimp only
  try (repeat' split)
  all_goals (first | (simp (maxDischargeDepth := 30) [hs]; done) | (try simp_all (maxDischargeDepth := 30)))
@[simp] theorem State.abortSite_inv (s : State) (st : Nat) (code : Nat) (hs : Inv s) :
    Inv (State.abortSite s st code) := by
  unfold State.abortSite
  try dsimp only
  try (repeat' split)
  all_goals (first | (simp (maxDischargeDepth := 30) [hs]; done) | (try simp_all (maxDischargeDepth := 30)))
@[simp] theorem State.siteBoundary_inv (s : State) (st : Nat) (hs : Inv s) :
    Inv (State.siteBoundary s st) := by
  unfold State.siteBoundary
  try dsimp only
  try (repeat' split)
  all_goals (first | (simp (maxDischargeDepth := 30) [hs]; done) | (try simp_all (maxDischargeDepth := 30)))
@[simp] theorem State.disarm_inv (s : State) (st : Nat) (hs : Inv s) :
    Inv (State.disarm s st) := by
  unfold State.disarm
  try dsimp only
  try (repeat' split)
  all_goals (first | (simp (maxDischargeDepth := 30) [hs]; done) | (try simp_all (maxDischargeDepth := 30)))
@[simp] theorem State.endBursts_inv (s : State) (l : List Nat) (code : Nat) (hs : Inv s) :
    Inv (State.endBursts s l code) := by
  unfold State.endBursts
  try dsimp only
  try (repeat' split)
  all_goals (first | (simp (maxDischargeDepth := 30) [hs]; done) | (try simp_all (maxDischargeDepth := 30)))
@[simp] theorem State.endIsolation_inv (s : State) (st : Nat) (hs : Inv s) :
    Inv (State.endIsolation s st) := by
  unfold State.endIsolation
  try dsimp only
  try (repeat' split)
  all_goals (first | (simp (maxDischargeDepth := 30) [hs]; done) | (try simp_all (maxDischargeDepth := 30)))
@[simp] theorem State.arm_inv (s : State) (st : Nat) (frame : Bool) (hs : Inv s) :
    Inv (State.arm s st frame) := by
  unfold State.arm
  try dsimp only
  try (repeat' split)
  all_goals (first | (simp (maxDischargeDepth := 30) [hs]; done) | (try simp_all (maxDischargeDepth := 30)))
@[simp] theorem State.disarmCmd_inv (s : State) (st : Nat) (hs : Inv s) :
    Inv (State.disarmCmd s st) := by
  unfold State.disarmCmd
  try dsimp only
  try (repeat' split)
  all_goals (first | (simp (maxDischargeDepth := 30) [hs]; done) | (try simp_all (maxDischargeDepth := 30)))
@[simp] theorem State.acceptStart_inv (s : State) (st : Nat) (ahead : Nat) (hs : Inv s) :
    Inv (State.acceptStart s st ahead) := by
  unfold State.acceptStart
  try dsimp only
  try (repeat' split)
  all_goals (first | (simp (maxDischargeDepth := 30) [hs]; done) | (try simp_all (maxDischargeDepth := 30)))
@[simp] theorem State.start_inv (s : State) (st : Nat) (t24 : Nat) (hs : Inv s) :
    Inv (State.start s st t24) := by
  unfold State.start
  try dsimp only
  try (repeat' split)
  all_goals (first | (simp (maxDischargeDepth := 30) [hs]; done) | (try simp_all (maxDischargeDepth := 30)))
@[simp] theorem State.setCut_inv (s : State) (st : Nat) (T : Nat) (hs : Inv s) :
    Inv (State.setCut s st T) := by
  unfold State.setCut
  try dsimp only
  try (repeat' split)
  all_goals (first | (simp (maxDischargeDepth := 30) [hs]; done) | (try simp_all (maxDischargeDepth := 30)))
@[simp] theorem State.stop_inv (s : State) (st : Nat) (hs : Inv s) :
    Inv (State.stop s st) := by
  unfold State.stop
  try dsimp only
  try (repeat' split)
  all_goals (first | (simp (maxDischargeDepth := 30) [hs]; done) | (try simp_all (maxDischargeDepth := 30)))
@[simp] theorem State.fcuFrames_inv (s : State) (st : Nat) (hs : Inv s) :
    Inv (State.fcuFrames s st) := by
  unfold State.fcuFrames
  try dsimp only
  try (repeat' split)
  all_goals (first | (simp (maxDischargeDepth := 30) [hs]; done) | (try simp_all (maxDischargeDepth := 30)))
@[simp] theorem State.enterIdle_inv (s : State) (st : Nat) (hs : Inv s) :
    Inv (State.enterIdle s st) := by
  unfold State.enterIdle
  try dsimp only
  try (repeat' split)
  all_goals (first | (simp (maxDischargeDepth := 30) [hs]; done) | (try simp_all (maxDischargeDepth := 30)))
@[simp] theorem State.ack_inv (s : State) (st : Nat) (hs : Inv s) :
    Inv (State.ack s st) := by
  unfold State.ack
  try dsimp only
  try (repeat' split)
  all_goals (first | (simp (maxDischargeDepth := 30) [hs]; done) | (try simp_all (maxDischargeDepth := 30)))
@[simp] theorem State.runEntry_inv (s : State) (st : Nat) (hs : Inv s) :
    Inv (State.runEntry s st) := by
  unfold State.runEntry
  try dsimp only
  try (repeat' split)
  all_goals (first | (simp (maxDischargeDepth := 30) [hs]; done) | (try simp_all (maxDischargeDepth := 30)))
@[simp] theorem State.enterDrain_inv (s : State) (st : Nat) (hs : Inv s) :
    Inv (State.enterDrain s st) := by
  unfold State.enterDrain
  try dsimp only
  try (repeat' split)
  all_goals (first | (simp (maxDischargeDepth := 30) [hs]; done) | (try simp_all (maxDischargeDepth := 30)))
@[simp] theorem State.stopDrain_inv (s : State) (st : Nat) (hs : Inv s) :
    Inv (State.stopDrain s st) := by
  unfold State.stopDrain
  try dsimp only
  try (repeat' split)
  all_goals (first | (simp (maxDischargeDepth := 30) [hs]; done) | (try simp_all (maxDischargeDepth := 30)))

end Sys2Proof.Machine
end

