-- ==== Sys2Proof/Laws/InvSeal.lean ====
section
/-! SUPPORT. Operations of sealed records keep the invariant, one law each. -/

namespace Sys2Proof.Machine

@[simp] theorem State.flushFrames_inv (s : State) (st : Nat) (hs : Inv s) :
    Inv (State.flushFrames s st) := by
  unfold State.flushFrames
  try dsimp only
  try (repeat' split)
  all_goals (first | (simp (maxDischargeDepth := 30) [hs]; done) | (try simp_all (maxDischargeDepth := 30)))

end Sys2Proof.Machine
end

