-- ==== Sys2Proof/Laws/InvMadc.lean ====
section
/-! SUPPORT. Operations of measurement ADCs keep the invariant, one law each. -/

namespace Sys2Proof.Machine

@[simp] theorem State.madcLose_inv (s : State) (k : Nat) (hs : Inv s) :
    Inv (State.madcLose s k) := by
  unfold State.madcLose
  try dsimp only
  try (repeat' split)
  all_goals (first | (simp (maxDischargeDepth := 30) [hs]; done) | (try simp_all (maxDischargeDepth := 30)))
@[simp] theorem State.madcStart_inv (s : State) (k : Nat) (t : Nat) (hs : Inv s) :
    Inv (State.madcStart s k t) := by
  unfold State.madcStart
  try dsimp only
  try (repeat' split)
  all_goals (first | (simp (maxDischargeDepth := 30) [hs]; done) | (try simp_all (maxDischargeDepth := 30)))
@[simp] theorem State.madcTriggerAt_inv (s : State) (k : Nat) (cont : Bool) (t : Nat) (hs : Inv s) :
    Inv (State.madcTriggerAt s k cont t) := by
  unfold State.madcTriggerAt
  try dsimp only
  try (repeat' split)
  all_goals (first | (simp (maxDischargeDepth := 30) [hs]; done) | (try simp_all (maxDischargeDepth := 30)))
@[simp] theorem State.madcTrigger_inv (s : State) (k : Nat) (cont : Bool) (hs : Inv s) :
    Inv (State.madcTrigger s k cont) := by
  unfold State.madcTrigger
  try dsimp only
  try (repeat' split)
  all_goals (first | (simp (maxDischargeDepth := 30) [hs]; done) | (try simp_all (maxDischargeDepth := 30)))
@[simp] theorem State.acqRestartPairs_inv (s : State) (k : Nat) (hs : Inv s) :
    Inv (State.acqRestartPairs s k) := by
  unfold State.acqRestartPairs
  try dsimp only
  try (repeat' split)
  all_goals (first | (simp (maxDischargeDepth := 30) [hs]; done) | (try simp_all (maxDischargeDepth := 30)))
@[simp] theorem State.madcStop_inv (s : State) (k : Nat) (hs : Inv s) :
    Inv (State.madcStop s k) := by
  unfold State.madcStop
  try dsimp only
  try (repeat' split)
  all_goals (first | (simp (maxDischargeDepth := 30) [hs]; done) | (try simp_all (maxDischargeDepth := 30)))
@[simp] theorem State.madcHold_inv (s : State) (k : Nat) (hs : Inv s) :
    Inv (State.madcHold s k) := by
  unfold State.madcHold
  try dsimp only
  try (repeat' split)
  all_goals (first | (simp (maxDischargeDepth := 30) [hs]; done) | (try simp_all (maxDischargeDepth := 30)))
@[simp] theorem State.wMadcCtrl_inv (s : State) (fn : Nat) (k : Nat) (val : Nat) (hs : Inv s) :
    Inv (State.wMadcCtrl s fn k val) := by
  unfold State.wMadcCtrl
  try dsimp only
  try (repeat' split)
  all_goals (first | (simp (maxDischargeDepth := 30) [hs]; done) | (try simp_all (maxDischargeDepth := 30)))
@[simp] theorem State.wMadcMask_inv (s : State) (k : Nat) (val : Nat) (hs : Inv s) :
    Inv (State.wMadcMask s k val) := by
  unfold State.wMadcMask
  try dsimp only
  try (repeat' split)
  all_goals (first | (simp (maxDischargeDepth := 30) [hs]; done) | (try simp_all (maxDischargeDepth := 30)))
@[simp] theorem State.wMadcSrc_inv (s : State) (fn : Nat) (k : Nat) (val : Nat) (hs : Inv s) :
    Inv (State.wMadcSrc s fn k val) := by
  unfold State.wMadcSrc
  try dsimp only
  try (repeat' split)
  all_goals (first | (simp (maxDischargeDepth := 30) [hs]; done) | (try simp_all (maxDischargeDepth := 30)))
@[simp] theorem State.wMadcQueue_inv (s : State) (fn : Nat) (k : Nat) (val : Nat) (hs : Inv s) :
    Inv (State.wMadcQueue s fn k val) := by
  unfold State.wMadcQueue
  try dsimp only
  try (repeat' split)
  all_goals (first | (simp (maxDischargeDepth := 30) [hs]; done) | (try simp_all (maxDischargeDepth := 30)))
@[simp] theorem State.madcSample_inv (s : State) (hs : Inv s) :
    Inv (State.madcSample s) := by
  unfold State.madcSample
  apply hs.forEach
  intro k t ht
  split
  · split <;> simp [ht]
  · exact ht
@[simp] theorem State.madcNext_inv (s : State) (k : Nat) (c : Scan) (at_ : Nat) (hs : Inv s) :
    Inv (State.madcNext s k c at_) := by
  unfold State.madcNext
  try dsimp only
  try (repeat' split)
  all_goals (first | (simp (maxDischargeDepth := 30) [hs]; done) | (try simp_all (maxDischargeDepth := 30)))
@[simp] theorem State.madcFaultNext_inv (s : State) (k : Nat) (c : Scan) (at_ : Nat) (hs : Inv s) :
    Inv (State.madcFaultNext s k c at_) := by
  unfold State.madcFaultNext
  try dsimp only
  try (repeat' split)
  all_goals (first | (simp (maxDischargeDepth := 30) [hs]; done) | (try simp_all (maxDischargeDepth := 30)))
@[simp] theorem State.madcGap_inv (s : State) (k : Nat) (tt : Nat) (seq : Nat) (n : Nat) (hs : Inv s) :
    Inv (State.madcGap s k tt seq n) := by
  unfold State.madcGap
  try dsimp only
  try (repeat' split)
  all_goals (first | (simp (maxDischargeDepth := 30) [hs]; done) | (try simp_all (maxDischargeDepth := 30)))
@[simp] theorem State.madcResult_inv (s : State) (k : Nat) (c : Scan) (n : Nat) (raw : Int) (hs : Inv s) :
    Inv (State.madcResult s k c n raw) := by
  unfold State.madcResult
  try dsimp only
  try (repeat' split)
  all_goals (first | (simp (maxDischargeDepth := 30) [hs]; done) | (try simp_all (maxDischargeDepth := 30)))
@[simp] theorem State.madcMove_inv (s : State) (k : Nat) (hs : Inv s) :
    Inv (State.madcMove s k) := by
  unfold State.madcMove
  try dsimp only
  try (repeat' split)
  all_goals (first | (simp (maxDischargeDepth := 30) [hs]; done) | (try simp_all (maxDischargeDepth := 30)))

end Sys2Proof.Machine
end

