-- ==== Sys2Proof/Laws/InvAcq.lean ====
section
/-! SUPPORT. Operations of acquisition units keep the invariant, one law each. -/

namespace Sys2Proof.Machine

@[simp] theorem State.trigOutEvent_inv (s : State) (line : Nat) (tt : Nat) (hs : Inv s) :
    Inv (State.trigOutEvent s line tt) := by
  unfold State.trigOutEvent
  try dsimp only
  try (repeat' split)
  all_goals (first | (simp (maxDischargeDepth := 30) [hs]; done) | (try simp_all (maxDischargeDepth := 30)))
@[simp] theorem State.acqWrite_inv (s : State) (k : Nat) (r : AcqRec) (hs : Inv s) :
    Inv (State.acqWrite s k r) := by
  unfold State.acqWrite
  try dsimp only
  try (repeat' split)
  all_goals (first | (simp (maxDischargeDepth := 30) [hs]; done) | (try simp_all (maxDischargeDepth := 30)))
@[simp] theorem State.acqEdge_inv (s : State) (k : Nat) (r : AcqRec) (hs : Inv s) :
    Inv (State.acqEdge s k r) := by
  unfold State.acqEdge
  try dsimp only
  try (repeat' split)
  all_goals (first | (simp (maxDischargeDepth := 30) [hs]; done) | (try simp_all (maxDischargeDepth := 30)))
@[simp] theorem State.acqLand_inv (s : State) (k : Nat) (hs : Inv s) :
    Inv (State.acqLand s k) := by
  unfold State.acqLand
  try dsimp only
  try (repeat' split)
  all_goals (first | (simp (maxDischargeDepth := 30) [hs]; done) | (try simp_all (maxDischargeDepth := 30)))
@[simp] theorem State.acqArrive_inv (s : State) (k : Nat) (hs : Inv s) :
    Inv (State.acqArrive s k) := by
  unfold State.acqArrive
  try dsimp only
  try (repeat' split)
  all_goals (first | (simp (maxDischargeDepth := 30) [hs]; done) | (try simp_all (maxDischargeDepth := 30)))
@[simp] theorem State.acqCatchUp_inv (s : State) (k : Nat) (tt : Nat) (hs : Inv s) :
    Inv (State.acqCatchUp s k tt) := by
  unfold State.acqCatchUp
  try dsimp only
  try (repeat' split)
  all_goals (first | (simp (maxDischargeDepth := 30) [hs]; done) | (try simp_all (maxDischargeDepth := 30)))
@[simp] theorem State.acqAccept_inv (s0 : State) (k : Nat) (t : Int) (ty : Nat) (interp : Bool) (id : Nat)
    (D : Nat) (hs0 : Inv s0) :
    Inv (State.acqAccept s0 k t ty interp id D) := by
  unfold State.acqAccept
  try dsimp only
  try (repeat' split)
  all_goals (first | (simp (maxDischargeDepth := 30) [hs]; done) | (try simp_all (maxDischargeDepth := 30)))
@[simp] theorem State.acqTrigger_inv (s : State) (k : Nat) (t : Int) (ty : Nat) (interp : Bool) (id : Nat)
    (D : Nat) (hs : Inv s) :
    Inv (State.acqTrigger s k t ty interp id D) := by
  unfold State.acqTrigger
  try dsimp only
  try (repeat' split)
  all_goals (first | (simp (maxDischargeDepth := 30) [hs]; done) | (try simp_all (maxDischargeDepth := 30)))
@[simp] theorem State.acqDeclareBy_inv (s : State) (k : Nat) (by_ : Nat) (hs : Inv s) :
    Inv (State.acqDeclareBy s k by_) := by
  unfold State.acqDeclareBy
  try dsimp only
  try (repeat' split)
  all_goals (first | (simp (maxDischargeDepth := 30) [hs]; done) | (try simp_all (maxDischargeDepth := 30)))
@[simp] theorem State.acqDeclare_inv (s : State) (k : Nat) (hs : Inv s) :
    Inv (State.acqDeclare s k) := by
  unfold State.acqDeclare
  try dsimp only
  try (repeat' split)
  all_goals (first | (simp (maxDischargeDepth := 30) [hs]; done) | (try simp_all (maxDischargeDepth := 30)))
@[simp] theorem State.acqStamp_inv (s : State) (ch : Nat) (cl : Bool) (rising : Bool) (raw : Nat) (hs : Inv s) :
    Inv (State.acqStamp s ch cl rising raw) := by
  unfold State.acqStamp
  try dsimp only
  try (repeat' split)
  all_goals (first | (simp (maxDischargeDepth := 30) [hs]; done) | (try simp_all (maxDischargeDepth := 30)))
@[simp] theorem State.acqSample_inv (s : State) (k : Nat) (n : Nat) (hold : Nat) (word : Nat) (hs : Inv s) :
    Inv (State.acqSample s k n hold word) := by
  unfold State.acqSample
  try dsimp only
  try (repeat' split)
  all_goals (first | (simp (maxDischargeDepth := 30) [hs]; done) | (try simp_all (maxDischargeDepth := 30)))
@[simp] theorem State.acqMark_inv (s : State) (st : Nat) (tt : Nat) (id : Nat) (hs : Inv s) :
    Inv (State.acqMark s st tt id) := by
  unfold State.acqMark
  try dsimp only
  try (repeat' split)
  all_goals (first | (simp (maxDischargeDepth := 30) [hs]; done) | (try simp_all (maxDischargeDepth := 30)))
@[simp] theorem State.acqTrigIn_inv (s : State) (o : Nat) (line : Nat) (tt : Nat) (hs : Inv s) :
    Inv (State.acqTrigIn s o line tt) := by
  unfold State.acqTrigIn
  try dsimp only
  try (repeat' split)
  all_goals (first | (simp (maxDischargeDepth := 30) [hs]; done) | (try simp_all (maxDischargeDepth := 30)))
@[simp] theorem State.madcDone_inv (s : State) (k : Nat) (raw : Int) (fault : State → State) (hs : Inv s)
    (hfault : ∀ y1, Inv y1 → Inv (fault y1)) :
    Inv (State.madcDone s k raw fault) := by
  unfold State.madcDone
  try dsimp only
  try (repeat' split)
  all_goals (first | (simp (maxDischargeDepth := 30) [hs]; done) | (try simp_all (maxDischargeDepth := 30)))
@[simp] theorem State.acqDisarm_inv (s : State) (k : Nat) (hs : Inv s) :
    Inv (State.acqDisarm s k) := by
  unfold State.acqDisarm
  try dsimp only
  try (repeat' split)
  all_goals (first | (simp (maxDischargeDepth := 30) [hs]; done) | (try simp_all (maxDischargeDepth := 30)))
@[simp] theorem State.acqRunStop_inv (s : State) (k : Nat) (hs : Inv s) :
    Inv (State.acqRunStop s k) := by
  unfold State.acqRunStop
  try dsimp only
  try (repeat' split)
  all_goals (first | (simp (maxDischargeDepth := 30) [hs]; done) | (try simp_all (maxDischargeDepth := 30)))
@[simp] theorem State.acqSafe_inv (s : State) (k : Nat) (hs : Inv s) :
    Inv (State.acqSafe s k) := by
  unfold State.acqSafe
  try dsimp only
  try (repeat' split)
  all_goals (first | (simp (maxDischargeDepth := 30) [hs]; done) | (try simp_all (maxDischargeDepth := 30)))
@[simp] theorem State.acqArm_inv (s : State) (fn : Nat) (k : Nat) (hs : Inv s) :
    Inv (State.acqArm s fn k) := by
  unfold State.acqArm
  try dsimp only
  try (repeat' split)
  all_goals (first | (simp (maxDischargeDepth := 30) [hs]; done) | (try simp_all (maxDischargeDepth := 30)))
@[simp] theorem State.acqForce_inv (s : State) (fn : Nat) (k : Nat) (hs : Inv s) :
    Inv (State.acqForce s fn k) := by
  unfold State.acqForce
  try dsimp only
  try (repeat' split)
  all_goals (first | (simp (maxDischargeDepth := 30) [hs]; done) | (try simp_all (maxDischargeDepth := 30)))
@[simp] theorem State.wAcqArm_inv (s : State) (fn : Nat) (k : Nat) (val : Nat) (hs : Inv s) :
    Inv (State.wAcqArm s fn k val) := by
  unfold State.wAcqArm
  try dsimp only
  try (repeat' split)
  all_goals (first | (simp (maxDischargeDepth := 30) [hs]; done) | (try simp_all (maxDischargeDepth := 30)))
@[simp] theorem State.wAcqCtrl_inv (s : State) (fn : Nat) (k : Nat) (val : Nat) (hs : Inv s) :
    Inv (State.wAcqCtrl s fn k val) := by
  unfold State.wAcqCtrl
  try dsimp only
  try (repeat' split)
  all_goals (first | (simp (maxDischargeDepth := 30) [hs]; done) | (try simp_all (maxDischargeDepth := 30)))
@[simp] theorem State.acqConfig_inv (s : State) (fn : Nat) (k : Nat) (bad : Bool) (code : Nat) (f : Acq → Acq)
    (hs : Inv s) :
    Inv (State.acqConfig s fn k bad code f) := by
  unfold State.acqConfig
  try dsimp only
  try (repeat' split)
  all_goals (first | (simp (maxDischargeDepth := 30) [hs]; done) | (try simp_all (maxDischargeDepth := 30)))
@[simp] theorem State.wAcqType_inv (s : State) (fn : Nat) (k : Nat) (val : Nat) (hs : Inv s) :
    Inv (State.wAcqType s fn k val) := by
  unfold State.wAcqType
  try dsimp only
  try (repeat' split)
  all_goals (first | (simp (maxDischargeDepth := 30) [hs]; done) | (try simp_all (maxDischargeDepth := 30)))
@[simp] theorem State.wAcqSrc_inv (s : State) (fn : Nat) (k : Nat) (val : Nat) (hs : Inv s) :
    Inv (State.wAcqSrc s fn k val) := by
  unfold State.wAcqSrc
  try dsimp only
  try (repeat' split)
  all_goals (first | (simp (maxDischargeDepth := 30) [hs]; done) | (try simp_all (maxDischargeDepth := 30)))
@[simp] theorem State.wAcqThresh_inv (s : State) (fn : Nat) (k : Nat) (hi : Bool) (val : Nat) (hs : Inv s) :
    Inv (State.wAcqThresh s fn k hi val) := by
  unfold State.wAcqThresh
  try dsimp only
  try (repeat' split)
  all_goals (first | (simp (maxDischargeDepth := 30) [hs]; done) | (try simp_all (maxDischargeDepth := 30)))
@[simp] theorem State.wAcqLimit_inv (s : State) (fn : Nat) (k : Nat) (lo : Nat) (val : Nat) (hs : Inv s) :
    Inv (State.wAcqLimit s fn k lo val) := by
  unfold State.wAcqLimit
  try dsimp only
  try (repeat' split)
  all_goals (first | (simp (maxDischargeDepth := 30) [hs]; done) | (try simp_all (maxDischargeDepth := 30)))
@[simp] theorem State.wAcqPre_inv (s : State) (fn : Nat) (k : Nat) (val : Nat) (hs : Inv s) :
    Inv (State.wAcqPre s fn k val) := by
  unfold State.wAcqPre
  try dsimp only
  try (repeat' split)
  all_goals (first | (simp (maxDischargeDepth := 30) [hs]; done) | (try simp_all (maxDischargeDepth := 30)))
@[simp] theorem State.wAcqPost_inv (s : State) (fn : Nat) (k : Nat) (val : Nat) (hs : Inv s) :
    Inv (State.wAcqPost s fn k val) := by
  unfold State.wAcqPost
  try dsimp only
  try (repeat' split)
  all_goals (first | (simp (maxDischargeDepth := 30) [hs]; done) | (try simp_all (maxDischargeDepth := 30)))
@[simp] theorem State.wAcqQueue_inv (s : State) (fn : Nat) (k : Nat) (val : Nat) (hs : Inv s) :
    Inv (State.wAcqQueue s fn k val) := by
  unfold State.wAcqQueue
  try dsimp only
  try (repeat' split)
  all_goals (first | (simp (maxDischargeDepth := 30) [hs]; done) | (try simp_all (maxDischargeDepth := 30)))
@[simp] theorem State.acqLoneGap_inv (s : State) (k : Nat) (hs : Inv s) :
    Inv (State.acqLoneGap s k) := by
  unfold State.acqLoneGap
  try dsimp only
  try (repeat' split)
  all_goals (first | (simp (maxDischargeDepth := 30) [hs]; done) | (try simp_all (maxDischargeDepth := 30)))
@[simp] theorem State.acqMove_inv (s : State) (k : Nat) (hs : Inv s) :
    Inv (State.acqMove s k) := by
  unfold State.acqMove
  try dsimp only
  try (repeat' split)
  all_goals (first | (simp (maxDischargeDepth := 30) [hs]; done) | (try simp_all (maxDischargeDepth := 30)))

end Sys2Proof.Machine
end

