-- ==== Sys2Proof/Laws/InvModes.lean ====
section
/-! SUPPORT. Operations of mode changes keep the invariant, one law each. -/

namespace Sys2Proof.Machine

@[simp] theorem State.setCause_inv (s : State) (m : Nat) (hs : Inv s) :
    Inv (State.setCause s m) := by
  unfold State.setCause
  try dsimp only
  try (repeat' split)
  all_goals (first | (simp (maxDischargeDepth := 30) [hs]; done) | (try simp_all (maxDischargeDepth := 30)))
@[simp] theorem State.wSafeCause_inv (s : State) (val : Nat) (hs : Inv s) :
    Inv (State.wSafeCause s val) := by
  unfold State.wSafeCause
  try dsimp only
  try (repeat' split)
  all_goals (first | (simp (maxDischargeDepth := 30) [hs]; done) | (try simp_all (maxDischargeDepth := 30)))
@[simp] theorem State.hizStart_inv (s : State) (safe : Bool) (ch : Nat) (hs : Inv s) :
    Inv (State.hizStart s safe ch) := by
  unfold State.hizStart
  try dsimp only
  try (repeat' split)
  all_goals (first | (simp (maxDischargeDepth := 30) [hs]; done) | (try simp_all (maxDischargeDepth := 30)))
@[simp] theorem State.hizDone_inv (s : State) (ch : Nat) (hs : Inv s) :
    Inv (State.hizDone s ch) := by
  unfold State.hizDone
  try dsimp only
  try (repeat' split)
  all_goals (first | (simp (maxDischargeDepth := 30) [hs]; done) | (try simp_all (maxDischargeDepth := 30)))
@[simp] theorem State.hizFrom_inv (s : State) (safe : Bool) (ch : Nat) (hs : Inv s) :
    Inv (State.hizFrom s safe ch) := by
  unfold State.hizFrom
  try dsimp only
  try (repeat' split)
  all_goals (first | (simp (maxDischargeDepth := 30) [hs]; done) | (try simp_all (maxDischargeDepth := 30)))
@[simp] theorem State.hizAll_inv (s : State) (safe : Bool) (l : List Nat) (hs : Inv s) :
    Inv (State.hizAll s safe l) := by
  unfold State.hizAll
  try dsimp only
  try (repeat' split)
  all_goals (first | (simp (maxDischargeDepth := 30) [hs]; done) | (try simp_all (maxDischargeDepth := 30)))
@[simp] theorem State.powerUpPins_inv (s : State) (ch : Nat) (hs : Inv s) :
    Inv (State.powerUpPins s ch) := by
  unfold State.powerUpPins
  try dsimp only
  try (repeat' split)
  all_goals (first | (simp (maxDischargeDepth := 30) [hs]; done) | (try simp_all (maxDischargeDepth := 30)))
@[simp] theorem State.calFail_inv (s : State) (r : Nat) (code : Nat) (hs : Inv s) :
    Inv (State.calFail s r code) := by
  unfold State.calFail
  try dsimp only
  try (repeat' split)
  all_goals (first | (simp (maxDischargeDepth := 30) [hs]; done) | (try simp_all (maxDischargeDepth := 30)))
@[simp] theorem State.madcRelease_inv (s : State) (k : Nat) (hs : Inv s) :
    Inv (State.madcRelease s k) := by
  unfold State.madcRelease
  try dsimp only
  try (repeat' split)
  all_goals (first | (simp (maxDischargeDepth := 30) [hs]; done) | (try simp_all (maxDischargeDepth := 30)))
@[simp] theorem State.stepEnd_inv (s : State) (k : Nat) (hs : Inv s) :
    Inv (State.stepEnd s k) := by
  unfold State.stepEnd
  try dsimp only
  try (repeat' split)
  all_goals (first | (simp (maxDischargeDepth := 30) [hs]; done) | (try simp_all (maxDischargeDepth := 30)))
@[simp] theorem State.calAbandon_inv (s : State) (i : Nat) (hs : Inv s) :
    Inv (State.calAbandon s i) := by
  unfold State.calAbandon
  try dsimp only
  try (repeat' split)
  all_goals (first | (simp (maxDischargeDepth := 30) [hs]; done) | (try simp_all (maxDischargeDepth := 30)))
@[simp] theorem State.calAbandonAll_inv (s : State) (hs : Inv s) :
    Inv (State.calAbandonAll s) := by
  unfold State.calAbandonAll
  try dsimp only
  try (repeat' split)
  all_goals (first | (simp (maxDischargeDepth := 30) [hs]; done) | (try simp_all (maxDischargeDepth := 30)))
@[simp] theorem State.modMc_inv (s : State) (r : Nat) (f : Slots McImage → Slots McImage) (hs : Inv s) :
    Inv (State.modMc s r f) := by
  unfold State.modMc
  try dsimp only
  try (repeat' split)
  all_goals (first | (simp (maxDischargeDepth := 30) [hs]; done) | (try simp_all (maxDischargeDepth := 30)))
@[simp] theorem State.installUndo_inv (s : State) (r : Nat) (hs : Inv s) :
    Inv (State.installUndo s r) := by
  unfold State.installUndo
  try dsimp only
  try (repeat' split)
  all_goals (first | (simp (maxDischargeDepth := 30) [hs]; done) | (try simp_all (maxDischargeDepth := 30)))
@[simp] theorem State.updateAbandon_inv (s : State) (hs : Inv s) :
    Inv (State.updateAbandon s) := by
  unfold State.updateAbandon
  try dsimp only
  try (repeat' split)
  all_goals (first | (simp (maxDischargeDepth := 30) [hs]; done) | (try simp_all (maxDischargeDepth := 30)))
@[simp] theorem State.unitsSafe_inv (s : State) (hs : Inv s) :
    Inv (State.unitsSafe s) := by
  unfold State.unitsSafe
  try dsimp only
  try (repeat' split)
  all_goals (first | (simp (maxDischargeDepth := 30) [hs]; done) | (try simp_all (maxDischargeDepth := 30)))
@[simp] theorem State.safeEntry_inv (s : State) (code : Nat) (hs : Inv s) :
    Inv (State.safeEntry s code) := by
  unfold State.safeEntry
  try dsimp only
  try (repeat' split)
  all_goals (first | (simp (maxDischargeDepth := 30) [hs]; done) | (try simp_all (maxDischargeDepth := 30)))
@[simp] theorem State.enterSafe_inv (s : State) (code : Nat) (hs : Inv s) :
    Inv (State.enterSafe s code) := by
  unfold State.enterSafe
  try dsimp only
  try (repeat' split)
  all_goals (first | (simp (maxDischargeDepth := 30) [hs]; done) | (try simp_all (maxDischargeDepth := 30)))
@[simp] theorem State.safeRequest_inv (s : State) (hs : Inv s) :
    Inv (State.safeRequest s) := by
  unfold State.safeRequest
  try dsimp only
  try (repeat' split)
  all_goals (first | (simp (maxDischargeDepth := 30) [hs]; done) | (try simp_all (maxDischargeDepth := 30)))
@[simp] theorem State.toSafe_inv (s : State) (m : Nat) (code : Nat) (hs : Inv s) :
    Inv (State.toSafe s m code) := by
  unfold State.toSafe
  try dsimp only
  try (repeat' split)
  all_goals (first | (simp (maxDischargeDepth := 30) [hs]; done) | (try simp_all (maxDischargeDepth := 30)))
@[simp] theorem State.modeReject_inv (s : State) (code : Nat) (hs : Inv s) :
    Inv (State.modeReject s code) := by
  unfold State.modeReject
  try dsimp only
  try (repeat' split)
  all_goals (first | (simp (maxDischargeDepth := 30) [hs]; done) | (try simp_all (maxDischargeDepth := 30)))
@[simp] theorem State.begin_inv (s : State) (m : Mode) (hs : Inv s) :
    Inv (State.begin s m) := by
  unfold State.begin
  try dsimp only
  try (repeat' split)
  all_goals (first | (simp (maxDischargeDepth := 30) [hs]; done) | (try simp_all (maxDischargeDepth := 30)))
@[simp] theorem State.endRunMode_inv (s : State) (hs : Inv s) :
    Inv (State.endRunMode s) := by
  unfold State.endRunMode
  try dsimp only
  try (repeat' split)
  all_goals (first | (simp (maxDischargeDepth := 30) [hs]; done) | (try simp_all (maxDischargeDepth := 30)))
@[simp] theorem State.wModeCtrl_inv (s : State) (val : Nat) (hs : Inv s) :
    Inv (State.wModeCtrl s val) := by
  unfold State.wModeCtrl
  dsimp only
  split
  · simp (maxDischargeDepth := 30) +contextual [*]
  · split <;> (repeat' split) <;> simp (maxDischargeDepth := 30) +contextual [*]
@[simp] theorem State.modeReq_inv (s : State) (fn : Nat) (val : Nat) (hs : Inv s) :
    Inv (State.modeReq s fn val) := by
  unfold State.modeReq
  try dsimp only
  try (repeat' split)
  all_goals (first | (simp (maxDischargeDepth := 30) [hs]; done) | (try simp_all (maxDischargeDepth := 30)))
@[simp] theorem State.siteNotice_inv (s : State) (a : Mode) (b : Mode) (hs : Inv s) :
    Inv (State.siteNotice s a b) := by
  unfold State.siteNotice
  try dsimp only
  try (repeat' split)
  all_goals (first | (simp (maxDischargeDepth := 30) [hs]; done) | (try simp_all (maxDischargeDepth := 30)))
@[simp] theorem State.norStart_inv (s : State) (hs : Inv s) :
    Inv (State.norStart s) := by
  unfold State.norStart
  try dsimp only
  try (repeat' split)
  all_goals (first | (simp (maxDischargeDepth := 30) [hs]; done) | (try simp_all (maxDischargeDepth := 30)))
@[simp] theorem State.norWrite_inv (s : State) (r : Nat) (hs : Inv s) :
    Inv (State.norWrite s r) := by
  unfold State.norWrite
  try dsimp only
  try (repeat' split)
  all_goals (first | (simp (maxDischargeDepth := 30) [hs]; done) | (try simp_all (maxDischargeDepth := 30)))
@[simp] theorem State.leaveSafe_inv (s : State) (hs : Inv s) :
    Inv (State.leaveSafe s) := by
  unfold State.leaveSafe
  try dsimp only
  try (repeat' split)
  all_goals (first | (simp (maxDischargeDepth := 30) [hs]; done) | (try simp_all (maxDischargeDepth := 30)))
@[simp] theorem State.seqAdvance_inv (s : State) (hs : Inv s) :
    Inv (State.seqAdvance s) := by
  unfold State.seqAdvance
  try dsimp only
  try (repeat' split)
  all_goals (first | (simp (maxDischargeDepth := 30) [hs]; done) | (try simp_all (maxDischargeDepth := 30)))
@[simp] theorem State.calSequence_inv (s : State) (hs : Inv s) :
    Inv (State.calSequence s) := by
  unfold State.calSequence
  apply State.seqAdvance_inv
  apply Inv.forEach (hs.modCal ..)
  intro i t ht
  split <;> simp (maxDischargeDepth := 30) +contextual [ht]
@[simp] theorem State.modeLeft_inv (s : State) (old : Mode) (m : Mode) (hs : Inv s) :
    Inv (State.modeLeft s old m) := by
  unfold State.modeLeft
  try dsimp only
  try (repeat' split)
  all_goals (first | (simp (maxDischargeDepth := 30) [hs]; done) | (try simp_all (maxDischargeDepth := 30)))
@[simp] theorem State.finish_inv (s : State) (m : Mode) (hs : Inv s) :
    Inv (State.finish s m) := by
  unfold State.finish
  try dsimp only
  try (repeat' split)
  all_goals (first | (simp (maxDischargeDepth := 30) [hs]; done) | (try simp_all (maxDischargeDepth := 30)))
@[simp] theorem State.jtagRelease_inv (s : State) (hs : Inv s) :
    Inv (State.jtagRelease s) := by
  unfold State.jtagRelease
  try dsimp only
  try (repeat' split)
  all_goals (first | (simp (maxDischargeDepth := 30) [hs]; done) | (try simp_all (maxDischargeDepth := 30)))
@[simp] theorem State.transitionDone_inv (s : State) (hs : Inv s) :
    Inv (State.transitionDone s) := by
  unfold State.transitionDone
  try dsimp only
  try (repeat' split)
  all_goals (first | (simp (maxDischargeDepth := 30) [hs]; done) | (try simp_all (maxDischargeDepth := 30)))
@[simp] theorem State.bootReady_inv (s : State) (hs : Inv s) :
    Inv (State.bootReady s) := by
  unfold State.bootReady
  try dsimp only
  try (repeat' split)
  all_goals (first | (simp (maxDischargeDepth := 30) [hs]; done) | (try simp_all (maxDischargeDepth := 30)))
@[simp] theorem State.warmSample_inv (s : State) (hs : Inv s) :
    Inv (State.warmSample s) := by
  unfold State.warmSample
  try dsimp only
  try (repeat' split)
  all_goals (first | (simp (maxDischargeDepth := 30) [hs]; done) | (try simp_all (maxDischargeDepth := 30)))
@[simp] theorem State.doeForget_inv (s : State) (fn : Nat) (hs : Inv s) :
    Inv (State.doeForget s fn) := by
  unfold State.doeForget
  try dsimp only
  try (repeat' split)
  all_goals (first | (simp (maxDischargeDepth := 30) [hs]; done) | (try simp_all (maxDischargeDepth := 30)))
@[simp] theorem State.fnClear_inv (s : State) (fn : Nat) (hs : Inv s) :
    Inv (State.fnClear s fn) := by
  unfold State.fnClear
  try dsimp only
  try (repeat' split)
  all_goals (first | (simp (maxDischargeDepth := 30) [hs]; done) | (try simp_all (maxDischargeDepth := 30)))
@[simp] theorem State.endpointReset_inv (s : State) (e : Nat) (hs : Inv s) :
    Inv (State.endpointReset s e) := by
  unfold State.endpointReset
  try dsimp only
  try (repeat' split)
  all_goals (first | (simp (maxDischargeDepth := 30) [hs]; done) | (try simp_all (maxDischargeDepth := 30)))
@[simp] theorem State.vfReset_inv (s : State) (i : Nat) (hs : Inv s) :
    Inv (State.vfReset s i) := by
  unfold State.vfReset
  try dsimp only
  try (repeat' split)
  all_goals (first | (simp (maxDischargeDepth := 30) [hs]; done) | (try simp_all (maxDischargeDepth := 30)))
@[simp] theorem State.functionReset_inv (s : State) (fn : Nat) (how : Nat) (hs : Inv s) :
    Inv (State.functionReset s fn how) := by
  unfold State.functionReset
  try dsimp only
  try (repeat' split)
  all_goals (first | (simp (maxDischargeDepth := 30) [hs]; done) | (try simp_all (maxDischargeDepth := 30)))
@[simp] theorem State.msixFlush_inv (s : State) (fn : Nat) (hs : Inv s) :
    Inv (State.msixFlush s fn) := by
  unfold State.msixFlush
  try dsimp only
  try (repeat' split)
  all_goals (first | (simp (maxDischargeDepth := 30) [hs]; done) | (try simp_all (maxDischargeDepth := 30)))

@[simp] theorem State.msixWrite_inv (s : State) (fn : Nat) (off : Nat) (val : Nat) (hs : Inv s) :
    Inv (State.msixWrite s fn off val) := by
  unfold State.msixWrite
  try dsimp only
  try (repeat' split)
  all_goals (first | (simp (maxDischargeDepth := 30) [hs]; done) | (try simp_all (maxDischargeDepth := 30)))

end Sys2Proof.Machine
end

