-- ==== Sys2Proof/Laws/InvPower.lean ====
section
/-! SUPPORT. Operations of power and clocks keep the invariant, one law each. -/

namespace Sys2Proof.Machine

@[simp] theorem State.drbgSeed_inv (s : State) (hs : Inv s) :
    Inv (State.drbgSeed s) := by
  unfold State.drbgSeed
  try dsimp only
  try (repeat' split)
  all_goals (first | (simp (maxDischargeDepth := 30) [hs]; done) | (try simp_all (maxDischargeDepth := 30)))
@[simp] theorem State.drbgReseed_inv (s : State) (hs : Inv s) :
    Inv (State.drbgReseed s) := by
  unfold State.drbgReseed
  try dsimp only
  try (repeat' split)
  all_goals (first | (simp (maxDischargeDepth := 30) [hs]; done) | (try simp_all (maxDischargeDepth := 30)))
@[simp] theorem State.draw_inv (s : State) (n : Nat) (hs : Inv s) :
    Inv (State.draw s n).1 := by
  unfold State.draw
  try dsimp only
  try (repeat' split)
  all_goals (first | (simp (maxDischargeDepth := 30) [hs]; done) | (try simp_all (maxDischargeDepth := 30)))
@[simp] theorem State.newKey_inv (s : State) (h : Nat) (hs : Inv s) :
    Inv (State.newKey s h) := by
  unfold State.newKey
  try dsimp only
  try (repeat' split)
  all_goals (first | (simp (maxDischargeDepth := 30) [hs]; done) | (try simp_all (maxDischargeDepth := 30)))
@[simp] theorem State.rekey_inv (s : State) (h : Nat) (hs : Inv s) :
    Inv (State.rekey s h) := by
  unfold State.rekey
  try dsimp only
  try (repeat' split)
  all_goals (first | (simp (maxDischargeDepth := 30) [hs]; done) | (try simp_all (maxDischargeDepth := 30)))
@[simp] theorem State.powerGood_inv (s : State) (bifur : Bool) (smbAddr : Nat) (hs : Inv s) :
    Inv (State.powerGood s bifur smbAddr) := by
  unfold State.powerGood
  dsimp only
  have hb : ∀ x : Sec, Inv (forEach (List.range 17) (fun h t => t.newKey h) (State.drbgSeed ({
    grade08 := s.grade08, bifur := bifur, smbAddr := smbAddr % 8, uptime := s.uptime, stage := .on
    pwr := { en := s.pwr.en, vin := s.pwr.vin, uvlo := s.pwr.uvlo }
    glb := { pwrOk := true, goodAt := s.up }
    sec := x, nor := s.nor, otp := s.otp, outs := s.outs, free := s.free, pending := s.pending } : State))) :=
    fun x => (State.drbgSeed_inv _ (Inv.blank rfl rfl rfl rfl rfl)).forEach _ _ (fun i t ht => by simp [ht])
  generalize List.range 17 = l at hb ⊢
  split <;> (split <;> first | exact State.norWrite_inv _ _ (hb _) | exact hb _)
@[simp] theorem State.pllLock_inv (s : State) (hs : Inv s) :
    Inv (State.pllLock s) := by
  unfold State.pllLock
  split
  · exact hs
  · dsimp only
    apply State.cause_inv
    exact hs.of_eq rfl rfl rfl rfl rfl
@[simp] theorem State.clearFail_inv (s : State) (ty : Nat) (inst : Nat) (hs : Inv s) :
    Inv (State.clearFail s ty inst) := by
  unfold State.clearFail
  try dsimp only
  try (repeat' split)
  all_goals (first | (simp (maxDischargeDepth := 30) [hs]; done) | (try simp_all (maxDischargeDepth := 30)))
@[simp] theorem State.hbmCleared_inv (s : State) (failed : Nat) (hs : Inv s) :
    Inv (State.hbmCleared s failed) := by
  unfold State.hbmCleared
  try dsimp only
  try (repeat' split)
  all_goals (first | (simp (maxDischargeDepth := 30) [hs]; done) | (try simp_all (maxDischargeDepth := 30)))
@[simp] theorem State.fwStart_inv (s : State) (slotB : Bool) (i : FwImage) (hs : Inv s) :
    Inv (State.fwStart s slotB i) := by
  unfold State.fwStart
  try dsimp only
  try (repeat' split)
  all_goals (first | (simp (maxDischargeDepth := 30) [hs]; done) | (try simp_all (maxDischargeDepth := 30)))
@[simp] theorem State.fwVerify_inv (s : State) (sigA : FwVerdict) (sigB : FwVerdict) (hs : Inv s) :
    Inv (State.fwVerify s sigA sigB) := by
  unfold State.fwVerify
  try dsimp only
  try (repeat' split)
  all_goals (first | (simp (maxDischargeDepth := 30) [hs]; done) | (try simp_all (maxDischargeDepth := 30)))
@[simp] theorem State.powerSteps_inv (s : State) (m : Nat) (hs : Inv s) :
    Inv (State.powerSteps s m) := by
  unfold State.powerSteps
  try dsimp only
  try (repeat' split)
  all_goals (first | (simp (maxDischargeDepth := 30) [hs]; done) | (try simp_all (maxDischargeDepth := 30)))
@[simp] theorem State.powerWarn_inv (s : State) (vin : Nat) (hs : Inv s) :
    Inv (State.powerWarn s vin) := by
  unfold State.powerWarn
  try dsimp only
  try (repeat' split)
  all_goals (first | (simp (maxDischargeDepth := 30) [hs]; done) | (try simp_all (maxDischargeDepth := 30)))
@[simp] theorem State.shedDone_inv (s : State) (hs : Inv s) :
    Inv (State.shedDone s) := by
  unfold State.shedDone
  try dsimp only
  try (repeat' split)
  all_goals (first | (simp (maxDischargeDepth := 30) [hs]; done) | (try simp_all (maxDischargeDepth := 30)))
@[simp] theorem State.powerOff_inv (s : State) (hs : Inv s) :
    Inv (State.powerOff s) := by
  unfold State.powerOff
  have h := (State.updateAbandon_inv s hs).modNor (fun n => { n with writing := none, todo := [], fwStage := none, mcStage := none })
  exact h.of_eq rfl rfl rfl rfl rfl
@[simp] theorem State.pwrEnLow_inv (s : State) (hs : Inv s) :
    Inv (State.pwrEnLow s) := by
  unfold State.pwrEnLow
  try dsimp only
  try (repeat' split)
  all_goals (first | (simp (maxDischargeDepth := 30) [hs]; done) | (try simp_all (maxDischargeDepth := 30)))
@[simp] theorem State.stageStop_inv (s : State) (hs : Inv s) :
    Inv (State.stageStop s) := by
  unfold State.stageStop
  split
  · exact hs
  · dsimp only
    split
    · exact (State.powerOff_inv s hs).of_eq rfl rfl rfl rfl rfl
    · exact State.powerOff_inv s hs
@[simp] theorem State.overCurrent_inv (s : State) (hs : Inv s) :
    Inv (State.overCurrent s) := by
  unfold State.overCurrent
  try dsimp only
  try (repeat' split)
  all_goals (first | (simp (maxDischargeDepth := 30) [hs]; done) | (try simp_all (maxDischargeDepth := 30)))
@[simp] theorem State.overVoltage_inv (s : State) (vin : Nat) (hs : Inv s) :
    Inv (State.overVoltage s vin) := by
  unfold State.overVoltage
  try dsimp only
  try (repeat' split)
  all_goals (first | (simp (maxDischargeDepth := 30) [hs]; done) | (try simp_all (maxDischargeDepth := 30)))
@[simp] theorem State.overTemp_inv (s : State) (hs : Inv s) :
    Inv (State.overTemp s) := by
  unfold State.overTemp
  try dsimp only
  try (repeat' split)
  all_goals (first | (simp (maxDischargeDepth := 30) [hs]; done) | (try simp_all (maxDischargeDepth := 30)))
@[simp] theorem State.telemetry_inv (s : State) (mv : Nat) (ma : Nat) (mw : Nat) (groups : List Nat)
    (temps : List Int) (ppm : Int) (hs : Inv s) :
    Inv (State.telemetry s mv ma mw groups temps ppm) := by
  unfold State.telemetry
  try dsimp only
  try (repeat' split)
  all_goals (first | (simp (maxDischargeDepth := 30) [hs]; done) | (try simp_all (maxDischargeDepth := 30)))
@[simp] theorem State.onPmbus_inv (s : State) (op : State → State) (hs : Inv s) (hop : ∀ y1, Inv y1 → Inv (op y1)) :
    Inv (State.onPmbus s op) := by
  unfold State.onPmbus
  try dsimp only
  try (repeat' split)
  all_goals (first | (simp (maxDischargeDepth := 30) [hs]; done) | (try simp_all (maxDischargeDepth := 30)))
@[simp] theorem State.nack_inv (s : State) (b : Nat) (hs : Inv s) :
    Inv (State.nack s b) := by
  unfold State.nack
  try dsimp only
  try (repeat' split)
  all_goals (first | (simp (maxDischargeDepth := 30) [hs]; done) | (try simp_all (maxDischargeDepth := 30)))
@[simp] theorem State.pmRead_inv (s : State) (pages : List Nat) (n : Nat) (v : State → Nat) (hs : Inv s) :
    Inv (State.pmRead s pages n v) := by
  unfold State.pmRead
  try dsimp only
  try (repeat' split)
  all_goals (first | (simp (maxDischargeDepth := 30) [hs]; done) | (try simp_all (maxDischargeDepth := 30)))
@[simp] theorem State.clearFaults_inv (s : State) (hs : Inv s) :
    Inv (State.clearFaults s) := by
  unfold State.clearFaults
  try dsimp only
  try (repeat' split)
  all_goals (first | (simp (maxDischargeDepth := 30) [hs]; done) | (try simp_all (maxDischargeDepth := 30)))
@[simp] theorem State.calBegin_inv (s : State) (hs : Inv s) :
    Inv (State.calBegin s) := by
  unfold State.calBegin
  try dsimp only
  try (repeat' split)
  all_goals (first | (simp (maxDischargeDepth := 30) [hs]; done) | (try simp_all (maxDischargeDepth := 30)))
@[simp] theorem State.rootEdge_inv (s : State) (hs : Inv s) :
    Inv (State.rootEdge s) := by
  unfold State.rootEdge
  apply State.calBegin_inv
  apply State.installStep_inv
  apply State.madcSample_inv
  exact hs.of_eq rfl rfl rfl rfl rfl
@[simp] theorem State.calClock_inv (s : State) (hs : Inv s) :
    Inv (State.calClock s) := by
  unfold State.calClock
  try dsimp only
  try (repeat' split)
  all_goals (first | (simp (maxDischargeDepth := 30) [hs]; done) | (try simp_all (maxDischargeDepth := 30)))
@[simp] theorem State.clockFault_inv (s : State) (code : Nat) (m : Nat) (hs : Inv s) :
    Inv (State.clockFault s code m) := by
  unfold State.clockFault
  try dsimp only
  try (repeat' split)
  all_goals (first | (simp (maxDischargeDepth := 30) [hs]; done) | (try simp_all (maxDischargeDepth := 30)))
@[simp] theorem State.clockLoss_inv (s : State) (hs : Inv s) :
    Inv (State.clockLoss s) := by
  unfold State.clockLoss
  try dsimp only
  try (repeat' split)
  all_goals (first | (simp (maxDischargeDepth := 30) [hs]; done) | (try simp_all (maxDischargeDepth := 30)))
@[simp] theorem State.pllUnlock_inv (s : State) (hs : Inv s) :
    Inv (State.pllUnlock s) := by
  unfold State.pllUnlock
  try dsimp only
  try (repeat' split)
  all_goals (first | (simp (maxDischargeDepth := 30) [hs]; done) | (try simp_all (maxDischargeDepth := 30)))
@[simp] theorem State.pllRelock_inv (s : State) (hs : Inv s) :
    Inv (State.pllRelock s) := by
  unfold State.pllRelock
  try dsimp only
  try (repeat' split)
  all_goals (first | (simp (maxDischargeDepth := 30) [hs]; done) | (try simp_all (maxDischargeDepth := 30)))

end Sys2Proof.Machine
end

