-- ==== Sys2Proof/Laws/InvFaults.lean ====
section
/-! SUPPORT. Operations of faults and retirement keep the invariant, one law each. -/

namespace Sys2Proof.Machine

@[simp] theorem State.channelPages_inv (s : State) (ch : Nat) (hs : Inv s) :
    Inv (State.channelPages s ch) := by
  unfold State.channelPages
  try dsimp only
  try (repeat' split)
  all_goals (first | (simp (maxDischargeDepth := 30) [hs]; done) | (try simp_all (maxDischargeDepth := 30)))
@[simp] theorem State.channelHold_inv (s : State) (ch : Nat) (hs : Inv s) :
    Inv (State.channelHold s ch) := by
  unfold State.channelHold
  try dsimp only
  try (repeat' split)
  all_goals (first | (simp (maxDischargeDepth := 30) [hs]; done) | (try simp_all (maxDischargeDepth := 30)))
@[simp] theorem State.channelOut_inv (s : State) (ch : Nat) (hs : Inv s) :
    Inv (State.channelOut s ch) := by
  unfold State.channelOut
  try dsimp only
  try (repeat' split)
  all_goals (first | (simp (maxDischargeDepth := 30) [hs]; done) | (try simp_all (maxDischargeDepth := 30)))
@[simp] theorem State.markRetired_inv (s : State) (key : Nat) (hs : Inv s) :
    Inv (State.markRetired s key) := by
  unfold State.markRetired
  try dsimp only
  try (repeat' split)
  all_goals (first | (simp (maxDischargeDepth := 30) [hs]; done) | (try simp_all (maxDischargeDepth := 30)))
@[simp] theorem State.acqLaneGone_inv (s : State) (ch : Nat) (hs : Inv s) :
    Inv (State.acqLaneGone s ch) := by
  unfold State.acqLaneGone
  try dsimp only
  try (repeat' split)
  all_goals (first | (simp (maxDischargeDepth := 30) [hs]; done) | (try simp_all (maxDischargeDepth := 30)))
@[simp] theorem State.retireChannel_inv (s : State) (ch : Nat) (late : Bool) (hs : Inv s) :
    Inv (State.retireChannel s ch late) := by
  unfold State.retireChannel
  try dsimp only
  try (repeat' split)
  all_goals (first | (simp (maxDischargeDepth := 30) [hs]; done) | (try simp_all (maxDischargeDepth := 30)))
@[simp] theorem State.retireSlice_inv (s : State) (k : Nat) (n : Nat) (hold : Bool) (hs : Inv s) :
    Inv (State.retireSlice s k n hold) := by
  unfold State.retireSlice
  try dsimp only
  try (repeat' split)
  all_goals (first | (simp (maxDischargeDepth := 30) [hs]; done) | (try simp_all (maxDischargeDepth := 30)))
@[simp] theorem State.retireUnit_inv (s : State) (kind : Nat) (i : Nat) (hold : Bool) (hs : Inv s) :
    Inv (State.retireUnit s kind i hold) := by
  unfold State.retireUnit
  try dsimp only
  try (repeat' split)
  all_goals (first | (simp (maxDischargeDepth := 30) [hs]; done) | (try simp_all (maxDischargeDepth := 30)))
@[simp] theorem State.transientAt_inv (s : State) (tt : Nat) (kind : Nat) (i : Nat) (code : Nat) (ty : Nat)
    (inst : Nat) (site : Option Nat) (detail : Nat) (retryFailed : Bool) (hold : Bool) (hs : Inv s) :
    Inv (State.transientAt s tt kind i code ty inst site detail retryFailed hold) := by
  unfold State.transientAt
  try dsimp only
  try (repeat' split)
  all_goals (first | (simp (maxDischargeDepth := 30) [hs]; done) | (try simp_all (maxDischargeDepth := 30)))
@[simp] theorem State.transient_inv (s : State) (kind : Nat) (i : Nat) (code : Nat) (ty : Nat) (inst : Nat)
    (site : Option Nat) (detail : Nat) (retryFailed : Bool) (hold : Bool) (hs : Inv s) :
    Inv (State.transient s kind i code ty inst site detail retryFailed hold) := by
  unfold State.transient
  try dsimp only
  try (repeat' split)
  all_goals (first | (simp (maxDischargeDepth := 30) [hs]; done) | (try simp_all (maxDischargeDepth := 30)))
@[simp] theorem State.abortPointStep_inv (s : State) (st : Nat) (hs : Inv s) :
    Inv (State.abortPointStep s st) := by
  unfold State.abortPointStep
  try dsimp only
  try (repeat' split)
  all_goals (first | (simp (maxDischargeDepth := 30) [hs]; done) | (try simp_all (maxDischargeDepth := 30)))

@[simp] theorem State.laneDue_inv (s : State) (ch : Nat) (hs : Inv s) :
    Inv (State.laneDue s ch) := by
  unfold State.laneDue
  try dsimp only
  try (repeat' split)
  all_goals (first | (simp (maxDischargeDepth := 30) [hs]; done) | (try simp_all (maxDischargeDepth := 30)))
@[simp] theorem State.spareSwitch_inv (s : State) (k : Nat) (hs : Inv s) :
    Inv (State.spareSwitch s k) := by
  unfold State.spareSwitch
  try dsimp only
  try (repeat' split)
  all_goals (first | (simp (maxDischargeDepth := 30) [hs]; done) | (try simp_all (maxDischargeDepth := 30)))
@[simp] theorem State.assignSpare_inv (s : State) (k : Nat) (hs : Inv s) :
    Inv (State.assignSpare s k) := by
  unfold State.assignSpare
  try dsimp only
  try (repeat' split)
  all_goals (first | (simp (maxDischargeDepth := 30) [hs]; done) | (try simp_all (maxDischargeDepth := 30)))
@[simp] theorem State.applyRetired_inv (s : State) (key : Nat) (hs : Inv s) :
    Inv (State.applyRetired s key) := by
  unfold State.applyRetired
  dsimp only
  split <;> simp (maxDischargeDepth := 30) +contextual [hs]
@[simp] theorem State.retireLoad_inv (s : State) (hs : Inv s) :
    Inv (State.retireLoad s) := by
  unfold State.retireLoad
  try dsimp only
  try (repeat' split)
  all_goals (first | (simp (maxDischargeDepth := 30) [hs]; done) | (try simp_all (maxDischargeDepth := 30)))
@[simp] theorem State.clearChannel_inv (s : State) (ch : Nat) (hs : Inv s) :
    Inv (State.clearChannel s ch) := by
  unfold State.clearChannel
  try dsimp only
  try (repeat' split)
  all_goals (first | (simp (maxDischargeDepth := 30) [hs]; done) | (try simp_all (maxDischargeDepth := 30)))
@[simp] theorem State.retireClear_inv (s : State) (kind : Nat) (i : Nat) (hs : Inv s) :
    Inv (State.retireClear s kind i) := by
  unfold State.retireClear
  dsimp only
  (iterate 3 (split; · simp (maxDischargeDepth := 30) +contextual [hs]))
  split <;> simp (maxDischargeDepth := 30) +contextual [hs]
@[simp] theorem State.wErrCtrl_inv (s : State) (fn : Nat) (val : Nat) (hs : Inv s) :
    Inv (State.wErrCtrl s fn val) := by
  unfold State.wErrCtrl
  try dsimp only
  try (repeat' split)
  all_goals (first | (simp (maxDischargeDepth := 30) [hs]; done) | (try simp_all (maxDischargeDepth := 30)))
@[simp] theorem State.readback_inv (s : State) (ch : Nat) (bad : Bool) (again : Bool) (hs : Inv s) :
    Inv (State.readback s ch bad again) := by
  unfold State.readback
  try dsimp only
  try (repeat' split)
  all_goals (first | (simp (maxDischargeDepth := 30) [hs]; done) | (try simp_all (maxDischargeDepth := 30)))
@[simp] theorem State.madcFault_inv (s : State) (k : Nat) (hs : Inv s) :
    Inv (State.madcFault s k) := by
  unfold State.madcFault
  try dsimp only
  try (repeat' split)
  all_goals (first | (simp (maxDischargeDepth := 30) [hs]; done) | (try simp_all (maxDischargeDepth := 30)))
@[simp] theorem State.thermalSample_inv (s : State) (r : Nat) (l : List Int) (hs : Inv s) :
    Inv (State.thermalSample s r l) := by
  unfold State.thermalSample
  try dsimp only
  try (repeat' split)
  all_goals (first | (simp (maxDischargeDepth := 30) [hs]; done) | (try simp_all (maxDischargeDepth := 30)))
@[simp] theorem State.reenable_inv (s : State) (fn : Nat) (r : Nat) (hs : Inv s) :
    Inv (State.reenable s fn r) := by
  unfold State.reenable
  try dsimp only
  try (repeat' split)
  all_goals (first | (simp (maxDischargeDepth := 30) [hs]; done) | (try simp_all (maxDischargeDepth := 30)))
@[simp] theorem State.wThermal_inv (s : State) (fn : Nat) (r : Nat) (val : Nat) (hs : Inv s) :
    Inv (State.wThermal s fn r val) := by
  unfold State.wThermal
  try dsimp only
  try (repeat' split)
  all_goals (first | (simp (maxDischargeDepth := 30) [hs]; done) | (try simp_all (maxDischargeDepth := 30)))

end Sys2Proof.Machine
end

