-- ==== Sys2Proof/Laws/InvCal.lean ====
section
/-! SUPPORT. Operations of calibration keep the invariant, one law each. -/

namespace Sys2Proof.Machine

@[simp] theorem State.applyTerms_inv (s : State) (ch : Nat) (k : CalTerms) (recovery : Bool) (hs : Inv s) :
    Inv (State.applyTerms s ch k recovery) := by
  unfold State.applyTerms
  try dsimp only
  try (repeat' split)
  all_goals (first | (simp (maxDischargeDepth := 30) [hs]; done) | (try simp_all (maxDischargeDepth := 30)))
@[simp] theorem State.slewTiming_inv (s : State) (ch : Nat) (hs : Inv s) :
    Inv (State.slewTiming s ch) := by
  unfold State.slewTiming
  try dsimp only
  try (repeat' split)
  all_goals (first | (simp (maxDischargeDepth := 30) [hs]; done) | (try simp_all (maxDischargeDepth := 30)))
@[simp] theorem State.slewLevels_inv (s : State) (ch : Nat) (hs : Inv s) :
    Inv (State.slewLevels s ch) := by
  unfold State.slewLevels
  try dsimp only
  try (repeat' split)
  all_goals (first | (simp (maxDischargeDepth := 30) [hs]; done) | (try simp_all (maxDischargeDepth := 30)))
@[simp] theorem State.calDue_inv (s : State) (r : Nat) (hs : Inv s) :
    Inv (State.calDue s r) := by
  unfold State.calDue
  try dsimp only
  try (repeat' split)
  all_goals (first | (simp (maxDischargeDepth := 30) [hs]; done) | (try simp_all (maxDischargeDepth := 30)))
@[simp] theorem State.calEval_inv (s : State) (r : Nat) (hs : Inv s) :
    Inv (State.calEval s r) := by
  unfold State.calEval
  try dsimp only
  try (repeat' split)
  all_goals (first | (simp (maxDischargeDepth := 30) [hs]; done) | (try simp_all (maxDischargeDepth := 30)))
@[simp] theorem State.wCalCtrl_inv (s : State) (i : Nat) (val : Nat) (hs : Inv s) :
    Inv (State.wCalCtrl s i val) := by
  unfold State.wCalCtrl
  try dsimp only
  try (repeat' split)
  all_goals (first | (simp (maxDischargeDepth := 30) [hs]; done) | (try simp_all (maxDischargeDepth := 30)))
@[simp] theorem State.wDeltaT_inv (s : State) (fn : Nat) (i : Nat) (val : Nat) (hs : Inv s) :
    Inv (State.wDeltaT s fn i val) := by
  unfold State.wDeltaT
  try dsimp only
  try (repeat' split)
  all_goals (first | (simp (maxDischargeDepth := 30) [hs]; done) | (try simp_all (maxDischargeDepth := 30)))
@[simp] theorem State.calEnd_inv (s0 : State) (i : Nat) (hs0 : Inv s0) :
    Inv (State.calEnd s0 i) := by
  unfold State.calEnd
  try dsimp only
  try (repeat' split)
  all_goals (first | (simp (maxDischargeDepth := 30) [hs]; done) | (try simp_all (maxDischargeDepth := 30)))
@[simp] theorem State.calRecord_inv (s : State) (r : Nat) (hs : Inv s) :
    Inv (State.calRecord s r) := by
  unfold State.calRecord
  try dsimp only
  try (repeat' split)
  all_goals (first | (simp (maxDischargeDepth := 30) [hs]; done) | (try simp_all (maxDischargeDepth := 30)))
@[simp] theorem State.calDefer_inv (s : State) (r : Nat) (later : List Nat) (hs : Inv s) :
    Inv (State.calDefer s r later) := by
  unfold State.calDefer
  try dsimp only
  try (repeat' split)
  all_goals (first | (simp (maxDischargeDepth := 30) [hs]; done) | (try simp_all (maxDischargeDepth := 30)))
@[simp] theorem State.calComplete_inv (s : State) (r : Nat) (c : Cal) (hs : Inv s) :
    Inv (State.calComplete s r c) := by
  unfold State.calComplete
  try dsimp only
  try (repeat' split)
  all_goals (first | (simp (maxDischargeDepth := 30) [hs]; done) | (try simp_all (maxDischargeDepth := 30)))
@[simp] theorem State.calAdvance_inv (s : State) (r : Nat) (hs : Inv s) :
    Inv (State.calAdvance s r) := by
  unfold State.calAdvance
  try dsimp only
  try (repeat' split)
  all_goals (first | (simp (maxDischargeDepth := 30) [hs]; done) | (try simp_all (maxDischargeDepth := 30)))
@[simp] theorem State.runFail_inv (s : State) (r : Nat) (code : Nat) (hs : Inv s) :
    Inv (State.runFail s r code) := by
  unfold State.runFail
  try dsimp only
  try (repeat' split)
  all_goals (first | (simp (maxDischargeDepth := 30) [hs]; done) | (try simp_all (maxDischargeDepth := 30)))
@[simp] theorem State.calCommon_inv (s : State) (r : Nat) (vref : Int) (vbg : Int) (spine : List Int) (hs : Inv s) :
    Inv (State.calCommon s r vref vbg spine) := by
  unfold State.calCommon
  try dsimp only
  try (repeat' split)
  all_goals (first | (simp (maxDischargeDepth := 30) [hs]; done) | (try simp_all (maxDischargeDepth := 30)))
@[simp] theorem State.clusterStart_inv (s : State) (k : Nat) (hs : Inv s) :
    Inv (State.clusterStart s k) := by
  unfold State.clusterStart
  try dsimp only
  try (repeat' split)
  all_goals (first | (simp (maxDischargeDepth := 30) [hs]; done) | (try simp_all (maxDischargeDepth := 30)))
@[simp] theorem State.laneResult_inv (s : State) (k : Nat) (l : Nat) (v : List Int) (recovery : Bool) (hs : Inv s) :
    Inv (State.laneResult s k l v recovery) := by
  unfold State.laneResult
  try dsimp only
  try (repeat' split)
  all_goals (first | (simp (maxDischargeDepth := 30) [hs]; done) | (try simp_all (maxDischargeDepth := 30)))
@[simp] theorem State.madcMeasured_inv (s : State) (k : Nat) (v : List Int) (hs : Inv s) :
    Inv (State.madcMeasured s k v) := by
  unfold State.madcMeasured
  try dsimp only
  try (repeat' split)
  all_goals (first | (simp (maxDischargeDepth := 30) [hs]; done) | (try simp_all (maxDischargeDepth := 30)))
@[simp] theorem State.clusterDone_inv (s : State) (k : Nat) (lanes : List (List Int)) (madc : List Int) (hs : Inv s) :
    Inv (State.clusterDone s k lanes madc) := by
  unfold State.clusterDone
  try dsimp only
  try (repeat' split)
  all_goals (first | (simp (maxDischargeDepth := 30) [hs]; done) | (try simp_all (maxDischargeDepth := 30)))
@[simp] theorem State.reflectAdvance_inv (s : State) (hs : Inv s) :
    Inv (State.reflectAdvance s) := by
  unfold State.reflectAdvance
  try dsimp only
  try (repeat' split)
  all_goals (first | (simp (maxDischargeDepth := 30) [hs]; done) | (try simp_all (maxDischargeDepth := 30)))
@[simp] theorem State.envDone_inv (s : State) (k : Nat) (v : List (Int × Int × Int)) (hs : Inv s) :
    Inv (State.envDone s k v) := by
  unfold State.envDone
  try dsimp only
  try (repeat' split)
  all_goals (first | (simp (maxDischargeDepth := 30) [hs]; done) | (try simp_all (maxDischargeDepth := 30)))
@[simp] theorem State.reflectDone_inv (s : State) (ch : Nat) (sum : Int) (spread : Int) (clean : Bool) (hs : Inv s) :
    Inv (State.reflectDone s ch sum spread clean) := by
  unfold State.reflectDone
  try dsimp only
  try (repeat' split)
  all_goals (first | (simp (maxDischargeDepth := 30) [hs]; done) | (try simp_all (maxDischargeDepth := 30)))
@[simp] theorem State.sequenceDone_inv (s : State) (hs : Inv s) :
    Inv (State.sequenceDone s) := by
  unfold State.sequenceDone
  try dsimp only
  try (repeat' split)
  all_goals (first | (simp (maxDischargeDepth := 30) [hs]; done) | (try simp_all (maxDischargeDepth := 30)))
@[simp] theorem State.calApply_inv (s : State) (r : Nat) (c : CalRec) (factory : Bool) (hs : Inv s) :
    Inv (State.calApply s r c factory) := by
  unfold State.calApply
  try dsimp only
  try (repeat' split)
  all_goals (first | (simp (maxDischargeDepth := 30) [hs]; done) | (try simp_all (maxDischargeDepth := 30)))
@[simp] theorem State.calLoad_inv (s : State) (hs : Inv s) :
    Inv (State.calLoad s) := by
  unfold State.calLoad
  dsimp only
  split
  · exact hs
  · apply Inv.modGlb
    apply Inv.modCal
    apply Inv.forEach
    · simp (maxDischargeDepth := 30) +contextual [hs]
    · intro i t ht
      split <;> simp (maxDischargeDepth := 30) +contextual [ht]

end Sys2Proof.Machine
end

