-- ==== Sys2Proof/Laws/InvSync.lean ====
section
/-! SUPPORT. Operations of BSYNC and triggers keep the invariant, one law each. -/

namespace Sys2Proof.Machine

@[simp] theorem State.echo_inv (s : State) (w : Nat) (hs : Inv s) :
    Inv (State.echo s w) := by
  unfold State.echo
  try dsimp only
  try (repeat' split)
  all_goals (first | (simp (maxDischargeDepth := 30) [hs]; done) | (try simp_all (maxDischargeDepth := 30)))
@[simp] theorem State.syncIgnore_inv (s : State) (hs : Inv s) :
    Inv (State.syncIgnore s) := by
  unfold State.syncIgnore
  try dsimp only
  try (repeat' split)
  all_goals (first | (simp (maxDischargeDepth := 30) [hs]; done) | (try simp_all (maxDischargeDepth := 30)))
@[simp] theorem State.frameArm_inv (s : State) (g : Nat) (hs : Inv s) :
    Inv (State.frameArm s g) := by
  unfold State.frameArm
  apply hs.forEach
  intro i t ht
  apply ht.modSite <;> (split <;> simp (maxDischargeDepth := 30) +contextual [ht])
@[simp] theorem State.frameStart_inv (s : State) (t40 : Nat) (i : Nat) (hs : Inv s) :
    Inv (State.frameStart s t40 i) := by
  unfold State.frameStart
  try dsimp only
  try (repeat' split)
  all_goals (first | (simp (maxDischargeDepth := 30) [hs]; done) | (try simp_all (maxDischargeDepth := 30)))
@[simp] theorem State.frameStop_inv (s : State) (t40 : Nat) (i : Nat) (hs : Inv s) :
    Inv (State.frameStop s t40 i) := by
  unfold State.frameStop
  try dsimp only
  try (repeat' split)
  all_goals (first | (simp (maxDischargeDepth := 30) [hs]; done) | (try simp_all (maxDischargeDepth := 30)))
@[simp] theorem State.slewCheck_inv (s : State) (hs : Inv s) :
    Inv (State.slewCheck s) := by
  unfold State.slewCheck
  try dsimp only
  try (repeat' split)
  all_goals (first | (simp (maxDischargeDepth := 30) [hs]; done) | (try simp_all (maxDischargeDepth := 30)))
@[simp] theorem State.jump_inv (s : State) (d : Int) (hs : Inv s) :
    Inv (State.jump s d) := by
  unfold State.jump
  try dsimp only
  try (repeat' split)
  all_goals (first | (simp (maxDischargeDepth := 30) [hs]; done) | (try simp_all (maxDischargeDepth := 30)))
@[simp] theorem State.timeLoad_inv (s : State) (t24 : Nat) (hs : Inv s) :
    Inv (State.timeLoad s t24) := by
  unfold State.timeLoad
  dsimp only
  split
  · apply State.raise_inv
    apply State.cause_inv
    exact hs.modSync _
  · apply State.slewCheck_inv
    apply State.cause_inv
    apply Inv.modClk
    apply Inv.modSync
    have key : ∀ (u : State) (n : Nat), Inv u → Inv { u with root := n } := fun u n h => ⟨h.mem, h.hdr, h.site, h.err, h.te⟩
    exact key _ _ (State.jump_inv _ _ hs)
@[simp] theorem State.bsyncCmd_inv (s : State) (w : Nat) (hs : Inv s) :
    Inv (State.bsyncCmd s w) := by
  unfold State.bsyncCmd
  try dsimp only
  try (repeat' split)
  all_goals (first | (simp (maxDischargeDepth := 30) [hs]; done) | (try simp_all (maxDischargeDepth := 30)))
@[simp] theorem State.badSlot_inv (s : State) (hs : Inv s) :
    Inv (State.badSlot s) := by
  unfold State.badSlot
  try dsimp only
  try (repeat' split)
  all_goals (first | (simp (maxDischargeDepth := 30) [hs]; done) | (try simp_all (maxDischargeDepth := 30)))
@[simp] theorem State.frameSlot_inv (s : State) (w : Nat) (hs : Inv s) :
    Inv (State.frameSlot s w) := by
  unfold State.frameSlot
  try dsimp only
  try (repeat' split)
  all_goals (first | (simp (maxDischargeDepth := 30) [hs]; done) | (try simp_all (maxDischargeDepth := 30)))
@[simp] theorem State.slewStep_inv (s : State) (hs : Inv s) :
    Inv (State.slewStep s) := by
  unfold State.slewStep
  try dsimp only
  try (repeat' split)
  all_goals (first | (simp (maxDischargeDepth := 30) [hs]; done) | (try simp_all (maxDischargeDepth := 30)))
@[simp] theorem State.trigLost_inv (s : State) (n : Nat) (hs : Inv s) :
    Inv (State.trigLost s n) := by
  unfold State.trigLost
  try dsimp only
  try (repeat' split)
  all_goals (first | (simp (maxDischargeDepth := 30) [hs]; done) | (try simp_all (maxDischargeDepth := 30)))
@[simp] theorem State.trigRelay_inv (s : State) (n : Nat) (tt : Nat) (hs : Inv s) :
    Inv (State.trigRelay s n tt) := by
  unfold State.trigRelay
  try dsimp only
  try (repeat' split)
  all_goals (first | (simp (maxDischargeDepth := 30) [hs]; done) | (try simp_all (maxDischargeDepth := 30)))
@[simp] theorem State.trigEdge_inv (s : State) (n : Nat) (rising : Bool) (tt : Nat) (hs : Inv s) :
    Inv (State.trigEdge s n rising tt) := by
  unfold State.trigEdge
  try dsimp only
  try (repeat' split)
  all_goals (first | (simp (maxDischargeDepth := 30) [hs]; done) | (try simp_all (maxDischargeDepth := 30)))
@[simp] theorem State.trigPulse_inv (s : State) (n : Nat) (hs : Inv s) :
    Inv (State.trigPulse s n) := by
  unfold State.trigPulse
  try dsimp only
  try (repeat' split)
  all_goals (first | (simp (maxDischargeDepth := 30) [hs]; done) | (try simp_all (maxDischargeDepth := 30)))
@[simp] theorem State.wSyncCtrl_inv (s : State) (val : Nat) (hs : Inv s) :
    Inv (State.wSyncCtrl s val) := by
  unfold State.wSyncCtrl
  try dsimp only
  try (repeat' split)
  all_goals (first | (simp (maxDischargeDepth := 30) [hs]; done) | (try simp_all (maxDischargeDepth := 30)))
@[simp] theorem State.wSyncDelay_inv (s : State) (val : Nat) (hs : Inv s) :
    Inv (State.wSyncDelay s val) := by
  unfold State.wSyncDelay
  try dsimp only
  try (repeat' split)
  all_goals (first | (simp (maxDischargeDepth := 30) [hs]; done) | (try simp_all (maxDischargeDepth := 30)))
@[simp] theorem State.wTrigIn_inv (s : State) (fn : Nat) (n : Nat) (val : Nat) (hs : Inv s) :
    Inv (State.wTrigIn s fn n val) := by
  unfold State.wTrigIn
  try dsimp only
  try (repeat' split)
  all_goals (first | (simp (maxDischargeDepth := 30) [hs]; done) | (try simp_all (maxDischargeDepth := 30)))
@[simp] theorem State.wTrigInQueue_inv (s : State) (fn : Nat) (n : Nat) (val : Nat) (hs : Inv s) :
    Inv (State.wTrigInQueue s fn n val) := by
  unfold State.wTrigInQueue
  try dsimp only
  try (repeat' split)
  all_goals (first | (simp (maxDischargeDepth := 30) [hs]; done) | (try simp_all (maxDischargeDepth := 30)))
@[simp] theorem State.wTrigOut_inv (s : State) (fn : Nat) (n : Nat) (val : Nat) (hs : Inv s) :
    Inv (State.wTrigOut s fn n val) := by
  unfold State.wTrigOut
  try dsimp only
  try (repeat' split)
  all_goals (first | (simp (maxDischargeDepth := 30) [hs]; done) | (try simp_all (maxDischargeDepth := 30)))
@[simp] theorem State.wTrigOutOffset_inv (s : State) (fn : Nat) (n : Nat) (val : Nat) (hs : Inv s) :
    Inv (State.wTrigOutOffset s fn n val) := by
  unfold State.wTrigOutOffset
  try dsimp only
  try (repeat' split)
  all_goals (first | (simp (maxDischargeDepth := 30) [hs]; done) | (try simp_all (maxDischargeDepth := 30)))
@[simp] theorem State.wTrigOutWidth_inv (s : State) (fn : Nat) (n : Nat) (val : Nat) (hs : Inv s) :
    Inv (State.wTrigOutWidth s fn n val) := by
  unfold State.wTrigOutWidth
  try dsimp only
  try (repeat' split)
  all_goals (first | (simp (maxDischargeDepth := 30) [hs]; done) | (try simp_all (maxDischargeDepth := 30)))

end Sys2Proof.Machine
end

