-- ==== Sys2Proof/Laws/InvEngine.lean ====
section
/-! SUPPORT. Operations of tin engines keep the invariant, one law each. -/

namespace Sys2Proof.Machine

@[simp] theorem State.cacheTouch_inv (s : State) (st : Nat) (line : Nat) (hs : Inv s) :
    Inv (State.cacheTouch s st line) := by
  exact hs.of_eq rfl rfl rfl rfl rfl
@[simp] theorem State.touchAll_inv (s : State) (g : Seg) (l : List Nat) (hs : Inv s) :
    Inv (State.touchAll s g l) := by
  unfold State.touchAll
  try dsimp only
  try (repeat' split)
  all_goals (first | (simp (maxDischargeDepth := 30) [hs]; done) | (try simp_all (maxDischargeDepth := 30)))
@[simp] theorem State.blockPost_inv (s : State) (e : Nat) (hs : Inv s) :
    Inv (State.blockPost s e) := by
  unfold State.blockPost
  try dsimp only
  try (repeat' split)
  all_goals (first | (simp (maxDischargeDepth := 30) [hs]; done) | (try simp_all (maxDischargeDepth := 30)))
@[simp] theorem State.endSeg_inv (s : State) (e : Nat) (hs : Inv s) :
    Inv (State.endSeg s e) := by
  have h := State.blockPost_inv s e hs
  refine h.modTe _ _ ?_
  have := h.deque e
  unfold Eng.endBusy
  split <;> simpa using this
@[simp] theorem State.segStop_inv (s : State) (e : Nat) (code : Nat) (hs : Inv s) :
    Inv (State.segStop s e code) := by
  unfold State.segStop
  try dsimp only
  try (repeat' split)
  all_goals (first | (simp (maxDischargeDepth := 30) [hs]; done) | (try simp_all (maxDischargeDepth := 30)))
@[simp] theorem State.segErr_inv (s : State) (e : Nat) (code : Nat) (hs : Inv s) :
    Inv (State.segErr s e code) := by
  unfold State.segErr
  try dsimp only
  try (repeat' split)
  all_goals (first | (simp (maxDischargeDepth := 30) [hs]; done) | (try simp_all (maxDischargeDepth := 30)))
@[simp] theorem State.releaseSucc_inv (s : State) (g : Seg) (hs : Inv s) :
    Inv (State.releaseSucc s g) := by
  unfold State.releaseSucc
  try dsimp only
  try (repeat' split)
  all_goals (first | (simp (maxDischargeDepth := 30) [hs]; done) | (try simp_all (maxDischargeDepth := 30)))
@[simp] theorem State.halt_inv (s : State) (e : Nat) (g : Seg) (hs : Inv s) :
    Inv (State.halt s e g) := by
  unfold State.halt
  try dsimp only
  try (repeat' split)
  all_goals (first | (simp (maxDischargeDepth := 30) [hs]; done) | (try simp_all (maxDischargeDepth := 30)))
@[simp] theorem State.putUi_inv (s : State) (e : Nat) (g : Seg) (syms : List Nat) (ts : Nat) (hold : Bool)
    (plain : Bool) (hs : Inv s) :
    Inv (State.putUi s e g syms ts hold plain) := by
  unfold State.putUi
  try dsimp only
  try (repeat' split)
  all_goals (first | (simp (maxDischargeDepth := 30) [hs]; done) | (try simp_all (maxDischargeDepth := 30)))
@[simp] theorem State.mark_inv (s : State) (g : Seg) (u : Nat) (ref : Nat) (outs : Nat) (acq : Bool) (id : Nat)
    (hs : Inv s) :
    Inv (State.mark s g u ref outs acq id) := by
  unfold State.mark
  try dsimp only
  try (repeat' split)
  all_goals (first | (simp (maxDischargeDepth := 30) [hs]; done) | (try simp_all (maxDischargeDepth := 30)))
@[simp] theorem State.lvlSend_inv (s : State) (g : Seg) (u : Nat) (pos : List Nat) (dac : Nat) (code : Nat)
    (hs : Inv s) :
    Inv (State.lvlSend s g u pos dac code) := by
  unfold State.lvlSend
  try dsimp only
  try (repeat' split)
  all_goals (first | (simp (maxDischargeDepth := 30) [hs]; done) | (try simp_all (maxDischargeDepth := 30)))
@[simp] theorem State.modBarrier_inv (s : State) (st : Nat) (b : Nat) (f : Barrier → Barrier) (hs : Inv s) :
    Inv (State.modBarrier s st b f) := by
  unfold State.modBarrier
  try dsimp only
  try (repeat' split)
  all_goals (first | (simp (maxDischargeDepth := 30) [hs]; done) | (try simp_all (maxDischargeDepth := 30)))
@[simp] theorem State.arrive_inv (s : State) (st : Nat) (b : Nat) (tt : Nat) (hs : Inv s) :
    Inv (State.arrive s st b tt) := by
  unfold State.arrive
  try dsimp only
  try (repeat' split)
  all_goals (first | (simp (maxDischargeDepth := 30) [hs]; done) | (try simp_all (maxDischargeDepth := 30)))
@[simp] theorem State.resolve_inv (s : State) (e : Nat) (after : Bool) (td : Int) (E : Int) (hs : Inv s) :
    Inv (State.resolve s e after td E) := by
  unfold State.resolve
  try dsimp only
  try (repeat' split)
  all_goals (first | (simp (maxDischargeDepth := 30) [hs]; done) | (try simp_all (maxDischargeDepth := 30)))
@[simp] theorem State.takeBarrier_inv (s : State) (e : Nat) (hs : Inv s) :
    Inv (State.takeBarrier s e) := by
  unfold State.takeBarrier
  try dsimp only
  try (repeat' split)
  all_goals (first | (simp (maxDischargeDepth := 30) [hs]; done) | (try simp_all (maxDischargeDepth := 30)))
@[simp] theorem State.takeTrigger_inv (s : State) (e : Nat) (line : Nat) (tt : Nat) (hs : Inv s) :
    Inv (State.takeTrigger s e line tt) := by
  unfold State.takeTrigger
  try dsimp only
  try (repeat' split)
  all_goals (first | (simp (maxDischargeDepth := 30) [hs]; done) | (try simp_all (maxDischargeDepth := 30)))
@[simp] theorem State.triggerArrive_inv (s : State) (n : Nat) (hs : Inv s) :
    Inv (State.triggerArrive s n) := by
  unfold State.triggerArrive
  try dsimp only
  try (repeat' split)
  all_goals (first | (simp (maxDischargeDepth := 30) [hs]; done) | (try simp_all (maxDischargeDepth := 30)))
@[simp] theorem State.barrierComplete_inv (s : State) (st : Nat) (b : Nat) (hs : Inv s) :
    Inv (State.barrierComplete s st b) := by
  unfold State.barrierComplete
  try dsimp only
  try (repeat' split)
  all_goals (first | (simp (maxDischargeDepth := 30) [hs]; done) | (try simp_all (maxDischargeDepth := 30)))
@[simp] theorem State.matchStep_inv (s : State) (e : Nat) (hs : Inv s) :
    Inv (State.matchStep s e) := by
  unfold State.matchStep
  try dsimp only
  try (repeat' split)
  all_goals (first | (simp (maxDischargeDepth := 30) [hs]; done) | (try simp_all (maxDischargeDepth := 30)))
@[simp] theorem State.condTimeout_inv (s : State) (e : Nat) (hs : Inv s) :
    Inv (State.condTimeout s e) := by
  unfold State.condTimeout
  try dsimp only
  try (repeat' split)
  all_goals (first | (simp (maxDischargeDepth := 30) [hs]; done) | (try simp_all (maxDischargeDepth := 30)))
@[simp] theorem State.missFill_inv (s : State) (e : Nat) (hs : Inv s) :
    Inv (State.missFill s e) := by
  unfold State.missFill
  try dsimp only
  try (repeat' split)
  all_goals (first | (simp (maxDischargeDepth := 30) [hs]; done) | (try simp_all (maxDischargeDepth := 30)))

end Sys2Proof.Machine
end

