-- ==== Sys2Proof/Laws/InvProgram.lean ====
section
/-! SUPPORT. Operations of pattern instructions keep the invariant, one law each. -/

namespace Sys2Proof.Machine

@[simp] theorem State.advance_inv (s : State) (e : Nat) (n : Nat) (hs : Inv s) :
    Inv (State.advance s e n) := by
  unfold State.advance
  try dsimp only
  try (repeat' split)
  all_goals (first | (simp (maxDischargeDepth := 30) [hs]; done) | (try simp_all (maxDischargeDepth := 30)))
@[simp] theorem State.goto_inv (s : State) (e : Nat) (off : Nat) (hs : Inv s) :
    Inv (State.goto s e off) := by
  unfold State.goto
  try dsimp only
  try (repeat' split)
  all_goals (first | (simp (maxDischargeDepth := 30) [hs]; done) | (try simp_all (maxDischargeDepth := 30)))
@[simp] theorem State.instr_inv (s : State) (e : Nat) (names : Nat → Bool) (act : Seg → Nat → State → State)
    (hs : Inv s) (hact : ∀ y1 y2 y3, Inv y3 → Inv (act y1 y2 y3)) :
    Inv (State.instr s e names act) := by
  unfold State.instr
  try dsimp only
  try (repeat' split)
  all_goals (first | (simp (maxDischargeDepth := 30) [hs]; done) | (try simp_all (maxDischargeDepth := 30)))
@[simp] theorem State.emitRun_inv (e : Nat) (g : Seg) (K ts : Nat) (hold plain : Bool) (need : Nat → List Nat)
    (ui : State → Nat → List Nat) (fin : State → State) (hf : ∀ t, Inv t → Inv (fin t)) (n k : Nat) (s : State) (hs : Inv s) :
    Inv (State.emitRun e g K ts hold plain need ui fin n k s) := by
  induction n generalizing k s with
  | zero => unfold State.emitRun; simp (maxDischargeDepth := 30) +contextual [hs]
  | succ n ih =>
    unfold State.emitRun
    split
    · exact hf _ hs
    · split
      · simp [hs]
      · split
        · simp [hs]
        · split
          · simp [hs]
          · simp [hs]
          · exact ih _ _ (by simp [hs])
@[simp] theorem State.counted_inv (s : State) (e : Nat) (c : Nat) (m : Nat) (act : State → State) (hs : Inv s)
    (hact : ∀ y1, Inv y1 → Inv (act y1)) :
    Inv (State.counted s e c m act) := by
  unfold State.counted
  try dsimp only
  try (repeat' split)
  all_goals (first | (simp (maxDischargeDepth := 30) [hs]; done) | (try simp_all (maxDischargeDepth := 30)))
@[simp] theorem State.vec_inv (s : State) (e : Nat) (g : Seg) (ir : Nat) (hs : Inv s) :
    Inv (State.vec s e g ir) := by
  unfold State.vec
  try dsimp only
  try (repeat' split)
  all_goals (first | (simp (maxDischargeDepth := 30) [hs]; done) | (try simp_all (maxDischargeDepth := 30)))
@[simp] theorem State.rpt_inv (s : State) (e : Nat) (g : Seg) (ir : Nat) (hs : Inv s) :
    Inv (State.rpt s e g ir) := by
  unfold State.rpt
  try dsimp only
  try (repeat' split)
  all_goals (first | (simp (maxDischargeDepth := 30) [hs]; done) | (try simp_all (maxDischargeDepth := 30)))
@[simp] theorem State.holdUis_inv (s : State) (e : Nat) (g : Seg) (ir : Nat) (hs : Inv s) :
    Inv (State.holdUis s e g ir) := by
  unfold State.holdUis
  try dsimp only
  try (repeat' split)
  all_goals (first | (simp (maxDischargeDepth := 30) [hs]; done) | (try simp_all (maxDischargeDepth := 30)))
@[simp] theorem State.tset_inv (s : State) (e : Nat) (ir : Nat) (hs : Inv s) :
    Inv (State.tset s e ir) := by
  unfold State.tset
  try dsimp only
  try (repeat' split)
  all_goals (first | (simp (maxDischargeDepth := 30) [hs]; done) | (try simp_all (maxDischargeDepth := 30)))
@[simp] theorem State.lvl_inv (s : State) (e : Nat) (g : Seg) (ir : Nat) (hs : Inv s) :
    Inv (State.lvl s e g ir) := by
  unfold State.lvl
  try dsimp only
  try (repeat' split)
  all_goals (first | (simp (maxDischargeDepth := 30) [hs]; done) | (try simp_all (maxDischargeDepth := 30)))
@[simp] theorem State.markInstr_inv (s : State) (e : Nat) (g : Seg) (ir : Nat) (hs : Inv s) :
    Inv (State.markInstr s e g ir) := by
  unfold State.markInstr
  try dsimp only
  try (repeat' split)
  all_goals (first | (simp (maxDischargeDepth := 30) [hs]; done) | (try simp_all (maxDischargeDepth := 30)))
@[simp] theorem State.condExit_inv (s : State) (e : Nat) (g : Seg) (c : Cond) (after : Bool) (hs : Inv s) :
    Inv (State.condExit s e g c after) := by
  unfold State.condExit
  try dsimp only
  try (repeat' split)
  all_goals (first | (simp (maxDischargeDepth := 30) [hs]; done) | (try simp_all (maxDischargeDepth := 30)))
@[simp] theorem State.holdLoop_inv (e : Nat) (g : Seg) (ts : Nat) (syms : List Nat) (n : Nat) (s : State)
    (hs : Inv s) :
    Inv (State.holdLoop e g ts syms n s) := by
  induction n generalizing s with
  | zero => unfold State.holdLoop; simp (maxDischargeDepth := 30) +contextual [hs]
  | succ n ih =>
    unfold State.holdLoop
    dsimp only
    (repeat' split) <;> simp_all

@[simp] theorem State.conditional_inv (s : State) (e : Nat) (g : Seg) (start : State → Cond) (hs : Inv s) :
    Inv (State.conditional s e g start) := by
  unfold State.conditional
  try dsimp only
  try (repeat' split)
  all_goals (first | (simp (maxDischargeDepth := 30) [hs]; done) | (try simp_all (maxDischargeDepth := 30)))
@[simp] theorem State.syncInstr_inv (s : State) (e : Nat) (g : Seg) (ir : Nat) (hs : Inv s) :
    Inv (State.syncInstr s e g ir) := by
  unfold State.syncInstr
  try dsimp only
  try (repeat' split)
  all_goals (first | (simp (maxDischargeDepth := 30) [hs]; done) | (try simp_all (maxDischargeDepth := 30)))
@[simp] theorem State.matchInstr_inv (s : State) (e : Nat) (g : Seg) (ir : Nat) (hs : Inv s) :
    Inv (State.matchInstr s e g ir) := by
  unfold State.matchInstr
  try dsimp only
  try (repeat' split)
  all_goals (first | (simp (maxDischargeDepth := 30) [hs]; done) | (try simp_all (maxDischargeDepth := 30)))
@[simp] theorem State.jmpf_inv (s : State) (e : Nat) (g : Seg) (ir : Nat) (hs : Inv s) :
    Inv (State.jmpf s e g ir) := by
  unfold State.jmpf
  try dsimp only
  try (repeat' split)
  all_goals (first | (simp (maxDischargeDepth := 30) [hs]; done) | (try simp_all (maxDischargeDepth := 30)))
@[simp] theorem State.haltInstr_inv (s : State) (e : Nat) (g : Seg) (hs : Inv s) :
    Inv (State.haltInstr s e g) := by
  unfold State.haltInstr
  try dsimp only
  try (repeat' split)
  all_goals (first | (simp (maxDischargeDepth := 30) [hs]; done) | (try simp_all (maxDischargeDepth := 30)))
@[simp] theorem State.jmp_inv (s : State) (e : Nat) (g : Seg) (ir : Nat) (hs : Inv s) :
    Inv (State.jmp s e g ir) := by
  unfold State.jmp
  try dsimp only
  try (repeat' split)
  all_goals (first | (simp (maxDischargeDepth := 30) [hs]; done) | (try simp_all (maxDischargeDepth := 30)))
@[simp] theorem State.call_inv (s : State) (e : Nat) (g : Seg) (ir : Nat) (hs : Inv s) :
    Inv (State.call s e g ir) := by
  unfold State.call
  try dsimp only
  try (repeat' split)
  all_goals (first | (simp (maxDischargeDepth := 30) [hs]; done) | (try simp_all (maxDischargeDepth := 30)))
@[simp] theorem State.ret_inv (s : State) (e : Nat) (hs : Inv s) :
    Inv (State.ret s e) := by
  unfold State.ret
  try dsimp only
  try (repeat' split)
  all_goals (first | (simp (maxDischargeDepth := 30) [hs]; done) | (try simp_all (maxDischargeDepth := 30)))
@[simp] theorem State.loop_inv (s : State) (e : Nat) (ir : Nat) (hs : Inv s) :
    Inv (State.loop s e ir) := by
  unfold State.loop
  try dsimp only
  try (repeat' split)
  all_goals (first | (simp (maxDischargeDepth := 30) [hs]; done) | (try simp_all (maxDischargeDepth := 30)))
@[simp] theorem State.endLoop_inv (s : State) (e : Nat) (hs : Inv s) :
    Inv (State.endLoop s e) := by
  unfold State.endLoop
  try dsimp only
  try (repeat' split)
  all_goals (first | (simp (maxDischargeDepth := 30) [hs]; done) | (try simp_all (maxDischargeDepth := 30)))
@[simp] theorem State.scan_inv (s : State) (e : Nat) (g : Seg) (ir : Nat) (hs : Inv s) :
    Inv (State.scan s e g ir) := by
  unfold State.scan
  try dsimp only
  try (repeat' split)
  all_goals (first | (simp (maxDischargeDepth := 30) [hs]; done) | (try simp_all (maxDischargeDepth := 30)))
@[simp] theorem State.decompRun_inv (e : Nat) (g : Seg) (l : List (Nat × Nat)) (table : List Nat)
    (K ts cbytes d n k : Nat)
    (s : State) (hs : Inv s) : Inv (State.decompRun e g l table K ts cbytes d n k s) := by
  induction n generalizing k s with
  | zero => unfold State.decompRun; simp (maxDischargeDepth := 30) +contextual [hs]
  | succ n ih =>
    unfold State.decompRun
    dsimp only
    (repeat' split) <;> simp_all (maxDischargeDepth := 30)

@[simp] theorem State.decomp_inv (s : State) (e : Nat) (g : Seg) (ir : Nat) (hs : Inv s) :
    Inv (State.decomp s e g ir) := by
  unfold State.decomp
  try dsimp only
  try (repeat' split)
  all_goals (first | (simp (maxDischargeDepth := 30) [hs]; done) | (try simp_all (maxDischargeDepth := 30)))

end Sys2Proof.Machine
end

