-- ==== Sys2Proof/Laws/InvMicro.lean ====
section
/-! SUPPORT. Operations of microwords keep the invariant, one law each. -/

namespace Sys2Proof.Machine

@[simp] theorem State.uAlu_inv (s : State) (e : Nat) (x0 : Eng) (w : Nat) (hs : Inv s) :
    Inv (State.uAlu s e x0 w) := by
  unfold State.uAlu
  try dsimp only
  try (repeat' split)
  all_goals (first | (simp (maxDischargeDepth := 30) [hs]; done) | (try simp_all (maxDischargeDepth := 30)))
@[simp] theorem State.uFetchAct_inv (s : State) (e : Nat) (x0 : Eng) (g : Seg) (w : Nat) (hs : Inv s) :
    Inv (State.uFetchAct s e x0 g w) := by
  unfold State.uFetchAct
  try dsimp only
  try (repeat' split)
  all_goals (first | (simp (maxDischargeDepth := 30) [hs]; done) | (try simp_all (maxDischargeDepth := 30)))

theorem State.laneSym_deque {s : State} {e : Nat} {g : Seg} {kind y : Nat} {x : Eng}
    (h : s.laneSym e g kind = some (y, x)) : x.deque = (s.te e).deque := by
  unfold State.laneSym at h
  dsimp only at h
  (repeat' split at h) <;> simp_all <;> (obtain ⟨_, rfl⟩ := h; rfl)

@[simp] theorem State.emitLanes_inv (e : Nat) (g : Seg) (kind n : Nat) (s : State) (hs : Inv s) :
    Inv (State.emitLanes e g kind n s) := by
  induction n generalizing s with
  | zero => unfold State.emitLanes; exact hs
  | succ n ih =>
    unfold State.emitLanes
    dsimp only
    split
    · exact hs
    · split
      · exact hs
      · rename_i y x1 heq
        have hd : x1.deque.length ≤ 64 := by rw [State.laneSym_deque heq]; exact hs.deque e
        split <;> apply ih <;> simp (maxDischargeDepth := 30) +contextual [hs, hd]

@[simp] theorem State.uEmitAct_inv (s : State) (e : Nat) (g : Seg) (w : Nat) (hs : Inv s) :
    Inv (State.uEmitAct s e g w) := by
  unfold State.uEmitAct
  try dsimp only
  try (repeat' split)
  all_goals (first | (simp (maxDischargeDepth := 30) [hs]; done) | (try simp_all (maxDischargeDepth := 30)))
@[simp] theorem State.uStack_inv (s : State) (e : Nat) (x0 : Eng) (w : Nat) (hs : Inv s) :
    Inv (State.uStack s e x0 w) := by
  unfold State.uStack
  try dsimp only
  try (repeat' split)
  all_goals (first | (simp (maxDischargeDepth := 30) [hs]; done) | (try simp_all (maxDischargeDepth := 30)))

@[simp] theorem Eng.ack_deque (x : Eng) : x.ack.deque = x.deque := by unfold Eng.ack; split <;> rfl
@[simp] theorem Eng.resume_deque (x : Eng) : x.resume.deque = x.deque := by simp [Eng.resume]

@[simp] theorem State.uEventAct_inv (s : State) (e : Nat) (x0 : Eng) (g : Seg) (w : Nat) (hs : Inv s) :
    Inv (State.uEventAct s e x0 g w) := by
  unfold State.uEventAct
  dsimp only
  split <;> (try split) <;> simp (maxDischargeDepth := 30) +contextual [hs]
@[simp] theorem State.uDecompAct_inv (s : State) (e : Nat) (x0 : Eng) (w : Nat) (hs : Inv s) :
    Inv (State.uDecompAct s e x0 w) := by
  unfold State.uDecompAct
  try dsimp only
  try (repeat' split)
  all_goals (first | (simp (maxDischargeDepth := 30) [hs]; done) | (try simp_all (maxDischargeDepth := 30)))
@[simp] theorem State.whileCur_inv (s : State) (e : Nat) (f : State → State) (hs : Inv s) (hf : ∀ y1, Inv y1 → Inv
    (f y1)) :
    Inv (State.whileCur s e f) := by
  unfold State.whileCur
  try dsimp only
  try (repeat' split)
  all_goals (first | (simp (maxDischargeDepth := 30) [hs]; done) | (try simp_all (maxDischargeDepth := 30)))
@[simp] theorem State.uAct_inv (s : State) (e : Nat) (g : Seg) (w : Nat) (hs : Inv s) :
    Inv (State.uAct s e g w) := by
  unfold State.uAct
  try dsimp only
  try (repeat' split)
  all_goals (first | (simp (maxDischargeDepth := 30) [hs]; done) | (try simp_all (maxDischargeDepth := 30)))
@[simp] theorem State.requeue_inv (s : State) (e : Nat) (tail : Bool) (g : Seg) (hs : Inv s) :
    Inv (State.requeue s e tail g) := by
  unfold State.requeue
  apply hs.modTe
  have := hs.deque e
  split
  · exact this
  · dsimp only; split <;> simp <;> omega
@[simp] theorem State.fate_inv (s : State) (e : Nat) (g : Seg) (hs : Inv s) :
    Inv (State.fate s e g) := by
  unfold State.fate
  try dsimp only
  try (repeat' split)
  all_goals (first | (simp (maxDischargeDepth := 30) [hs]; done) | (try simp_all (maxDischargeDepth := 30)))
@[simp] theorem State.leaveSeg_inv (s : State) (e : Nat) (hs : Inv s) :
    Inv (State.leaveSeg s e) := by
  unfold State.leaveSeg
  try dsimp only
  try (repeat' split)
  all_goals (first | (simp (maxDischargeDepth := 30) [hs]; done) | (try simp_all (maxDischargeDepth := 30)))
@[simp] theorem State.abandonSeg_inv (s : State) (e : Nat) (cls : Nat) (hs : Inv s) :
    Inv (State.abandonSeg s e cls) := by
  unfold State.abandonSeg
  try dsimp only
  try (repeat' split)
  all_goals (first | (simp (maxDischargeDepth := 30) [hs]; done) | (try simp_all (maxDischargeDepth := 30)))
@[simp] theorem State.queueReload_inv (s : State) (e : Nat) (code : Nat) (site : Option Nat) (addr : Nat)
    (hs : Inv s) :
    Inv (State.queueReload s e code site addr) := by
  unfold State.queueReload
  try dsimp only
  try (repeat' split)
  all_goals (first | (simp (maxDischargeDepth := 30) [hs]; done) | (try simp_all (maxDischargeDepth := 30)))
@[simp] theorem State.engTransient_inv (s : State) (e : Nat) (code : Nat) (site : Option Nat) (addr : Nat)
    (hs : Inv s) :
    Inv (State.engTransient s e code site addr) := by
  unfold State.engTransient
  try dsimp only
  try (repeat' split)
  all_goals (first | (simp (maxDischargeDepth := 30) [hs]; done) | (try simp_all (maxDischargeDepth := 30)))
@[simp] theorem State.machineCheck_inv (s : State) (e : Nat) (kind : Nat) (hs : Inv s) :
    Inv (State.machineCheck s e kind) := by
  unfold State.machineCheck
  try dsimp only
  try (repeat' split)
  all_goals (first | (simp (maxDischargeDepth := 30) [hs]; done) | (try simp_all (maxDischargeDepth := 30)))
@[simp] theorem State.nextReload_inv (s : State) (r : Nat) (ok : Bool) (hs : Inv s) :
    Inv (State.nextReload s r ok) := by
  unfold State.nextReload
  try dsimp only
  try (repeat' split)
  all_goals (first | (simp (maxDischargeDepth := 30) [hs]; done) | (try simp_all (maxDischargeDepth := 30)))
@[simp] theorem State.reloadDone_inv (s : State) (e : Nat) (mismatch : Bool) (hs : Inv s) :
    Inv (State.reloadDone s e mismatch) := by
  unfold State.reloadDone
  try dsimp only
  try (repeat' split)
  all_goals (first | (simp (maxDischargeDepth := 30) [hs]; done) | (try simp_all (maxDischargeDepth := 30)))
@[simp] theorem State.idleScan_inv (s : State) (e : Nat) (bad : Bool) (hs : Inv s) :
    Inv (State.idleScan s e bad) := by
  unfold State.idleScan
  try dsimp only
  try (repeat' split)
  all_goals (first | (simp (maxDischargeDepth := 30) [hs]; done) | (try simp_all (maxDischargeDepth := 30)))
@[simp] theorem State.uDispatch_inv (s : State) (e : Nat) (g : Seg) (hs : Inv s) :
    Inv (State.uDispatch s e g) := by
  unfold State.uDispatch
  try dsimp only
  try (repeat' split)
  all_goals (first | (simp (maxDischargeDepth := 30) [hs]; done) | (try simp_all (maxDischargeDepth := 30)))
@[simp] theorem State.uNext_inv (s : State) (e : Nat) (g : Seg) (x0 : Eng) (w : Nat) (hs : Inv s) :
    Inv (State.uNext s e g x0 w) := by
  unfold State.uNext
  dsimp only
  split <;> (try split) <;> simp (maxDischargeDepth := 30) +contextual [hs]
@[simp] theorem State.micro__inv (s : State) (e : Nat) (seq : Nat) (hs : Inv s) :
    Inv (State.micro_ s e seq) := by
  have hm : ∀ f : Eng → Eng, (∀ x, (f x).deque = x.deque) → Inv (s.modTe e f) :=
    fun f hf => hs.modTe _ _ (by rw [hf]; exact hs.deque _)
  unfold State.micro_
  dsimp only
  split
  · exact hs
  · refine Inv.ite _ hs (Inv.ite _ hs (Inv.ite _ (State.endSeg_inv _ _ hs) (Inv.ite _ hs
      (Inv.ite _ (State.machineCheck_inv _ _ _ hs) (Inv.ite _ (hm _ (fun x => rfl))
        (Inv.ite _ (State.machineCheck_inv _ _ _ hs) (Inv.ite _ hs (Inv.ite _ (State.segErr_inv _ _ _ hs) ?_))))))))
    split
    · exact State.segErr_inv _ _ _ hs
    · exact hm _ (fun x => rfl)
    · exact Inv.ite _ (State.uAct_inv _ _ _ _ hs) (State.uNext_inv _ _ _ _ _ (State.uAct_inv _ _ _ _ hs))
@[simp] theorem State.enterHandler_inv (s : State) (e cls entry : Nat) (ev : Evt) (f : Eng → Eng) (hs : Inv s)
    (hf : ∀ x, (f x).deque = x.deque) : Inv (State.enterHandler s e cls entry ev f) := by
  unfold State.enterHandler
  apply Inv.useFree
  apply hs.modTe
  simp [hf, hs]

@[simp] theorem State.interruptTake_inv (s : State) (e : Nat) (hs : Inv s) :
    Inv (State.interruptTake s e) := by
  unfold State.interruptTake
  try dsimp only
  try (repeat' split)
  all_goals (first | (simp (maxDischargeDepth := 30) [hs]; done) | (try simp_all (maxDischargeDepth := 30)))
@[simp] theorem State.abortTake_inv (s : State) (e : Nat) (hs : Inv s) :
    Inv (State.abortTake s e) := by
  unfold State.abortTake
  try dsimp only
  try (repeat' split)
  all_goals (first | (simp (maxDischargeDepth := 30) [hs]; done) | (try simp_all (maxDischargeDepth := 30)))

end Sys2Proof.Machine
end

