-- ==== Sys2Proof/Laws/InvSched.lean ====
section
/-! SUPPORT. Operations of scheduling keep the invariant, one law each. -/

namespace Sys2Proof.Machine

theorem State.chooseDeque_room {s : State} {st e : Nat} (h : s.chooseDeque st = some e) : (s.te e).deque.length < 64 := by
  unfold State.chooseDeque at h
  dsimp only at h
  split at h
  · rename_i x heq
    have := List.find?_some heq
    simp only [Bool.and_eq_true, List.isEmpty_iff] at this
    cases h
    simp [this.2]
  · have key : ∀ (l : List Nat) (b : Option Nat), (∀ x ∈ l, (s.te x).deque.length < 64) →
        (∀ x, b = some x → (s.te x).deque.length < 64) → ∀ x, l.foldl (fun b e => match b with
          | none => some e
          | some a => if (s.te e).deque.length < (s.te a).deque.length then some e else some a) b = some x →
        (s.te x).deque.length < 64 := by
      intro l
      induction l with
      | nil => intro b _ hb x hx; exact hb x hx
      | cons a t ih =>
        intro b hl hb x hx
        refine ih _ (fun y hy => hl y (by simp [hy])) ?_ x hx
        intro y hy
        have ha := hl a (by simp)
        cases b with
        | none => simp at hy; subst hy; exact ha
        | some c =>
          have hc := hb c rfl
          simp only at hy
          split at hy <;> (simp at hy; subst hy; assumption)
    exact key _ none (fun x hx => by simpa using (List.mem_filter.mp hx).2) (by simp) e h

theorem State.placeOn_inv (s : State) (e : Nat) (g : Seg) (hs : Inv s) (hr : (s.te e).deque.length < 64) :
    Inv (State.placeOn s e g) := by
  unfold State.placeOn
  have h := hs.modTe e (fun x => { x with deque := x.deque ++ [g] }) (by simp; omega)
  exact h.modSite _ _ (h.lclkDiv _) (h.lclkDiv' _) (h.lead _) (h.lead' _) (h.tether _) (h.tether' _) (h.group _)

@[simp] theorem State.msix_te (s : State) (fn v e : Nat) : (s.msix fn v).te e = s.te e := by
  unfold State.msix; dsimp only; split <;> simp
@[simp] theorem State.consume_te (s : State) (q n e : Nat) : (s.consume q n).te e = s.te e := by
  have hq : ∀ w, (s.qHit q w).te e = s.te e := fun w => by
    simp only [State.te, State.qHit, State.bankHits_keep (·.tes) (fun _ _ => rfl)]
  unfold State.consume; dsimp only; cases h : (_ && _) <;> simp [hq]
@[simp] theorem State.placeFrom_inv (s : State) (q : Nat) (hs : Inv s) :
    Inv (State.placeFrom s q) := by
  unfold State.placeFrom
  split
  · exact hs
  · rename_i e heq
    split
    · exact (State.placeOn_inv s e _ hs (State.chooseDeque_room heq)).of_eq rfl rfl rfl rfl rfl
    · have h := State.placeOn_inv ((s.bankHits ((s.queue q).base + 64 * (s.queue q).head) 64 false).consume q 1) e
        (s.headSeg q) (State.consume_inv _ q 1 (by simp [hs]))
        (by
          have hb : ∀ a n w, (s.bankHits a n w).tes = s.tes := fun a n w => State.bankHits_keep (·.tes) (fun _ _ => rfl) ..
          have := State.chooseDeque_room heq; rw [State.consume_te]; simpa [State.te, hb] using this)
      exact h.of_eq rfl rfl rfl rfl rfl
@[simp] theorem State.segmentPlace_inv (s : State) (hs : Inv s) :
    Inv (State.segmentPlace s) := by
  unfold State.segmentPlace
  try dsimp only
  try (repeat' split)
  all_goals (first | (simp (maxDischargeDepth := 30) [hs]; done) | (try simp_all (maxDischargeDepth := 30)))
@[simp] theorem State.handOn_inv (s : State) (g : Seg) (hs : Inv s) :
    Inv (State.handOn s g) := by
  unfold State.handOn
  split
  · simp [hs]
  · split
    · rename_i f hf
      exact State.placeOn_inv _ _ _ hs (State.chooseDeque_room hf)
    · exact hs
@[simp] theorem State.handover_inv (s : State) (e : Nat) (hs : Inv s) :
    Inv (State.handover s e) := by
  unfold State.handover
  dsimp only
  split
  · exact hs
  · split
    · apply State.handOn_inv
      exact hs.modTe _ _ (Nat.le_trans (List.length_erase_le ..) (hs.deque e))
    · split
      · split
        · exact State.handOn_inv _ _ (hs.modTe _ _ (hs.deque e))
        · exact hs
      · exact hs
@[simp] theorem State.beginTake_inv (s : State) (e : Nat) (g : Seg) (t : Nat) (hs : Inv s) :
    Inv (State.beginTake s e g t) := by
  unfold State.beginTake
  try dsimp only
  try (repeat' split)
  all_goals (first | (simp (maxDischargeDepth := 30) [hs]; done) | (try simp_all (maxDischargeDepth := 30)))
@[simp] theorem State.dequePop_inv (s : State) (e : Nat) (hs : Inv s) :
    Inv (State.dequePop s e) := by
  unfold State.dequePop
  split
  · exact hs
  · split
    · exact hs
    · apply State.beginTake_inv
      apply hs.modTe
      have := hs.deque e
      exact Nat.le_trans (List.length_erase_le) this
@[simp] theorem State.stealProbe_inv (s : State) (e : Nat) (hs : Inv s) :
    Inv (State.stealProbe s e) := by
  unfold State.stealProbe
  dsimp only
  split
  · exact hs
  · split
    · simp (maxDischargeDepth := 30) +contextual [hs]
    · split
      · simp (maxDischargeDepth := 30) +contextual [hs]
      · split
        · simp (maxDischargeDepth := 30) +contextual [hs]
        · apply State.beginTake_inv
          apply Inv.modQmgr
          rename_i v _ _ _ _ _
          have h1 : Inv (s.modTe e (fun x => { x with
              order := ((if x.order.any (fun v => !(s.te v).deque.isEmpty) then x.order else s.passOf e).dropWhile (· != v)).drop 1
              victim := Tbl.set 0 x.victim (rgnOfTe v) (v + 1) })) := hs.modTe _ _ (hs.deque e)
          apply Inv.modTe
          · apply Inv.modTe
            · exact hs.modTe _ _ (hs.deque e)
            · simp only [State.modTe_te]
              have := hs.deque v
              split <;> simp <;> omega
          · simp only [State.modTe_te]
            have := hs.deque e
            (repeat' split) <;> simp <;> omega

@[simp] theorem Eng.fresh_deque (x : Eng) (st : Nat) (b : Bool) :
    (x.fresh st b).deque = x.deque := by simp [Eng.fresh]

@[simp] theorem State.segmentTake_inv (s : State) (e : Nat) (hs : Inv s) :
    Inv (State.segmentTake s e) := by
  unfold State.segmentTake
  dsimp only
  split
  · exact hs
  · split
    · exact hs
    · split
      · simp (maxDischargeDepth := 30) +contextual [hs]
      · split <;> simp (maxDischargeDepth := 30) +contextual [hs]
@[simp] theorem State.underrun_inv (s : State) (ch : Nat) (segId : Nat) (seq : Nat) (st : Nat) (hs : Inv s) :
    Inv (State.underrun s ch segId seq st) := by
  unfold State.underrun
  try dsimp only
  try (repeat' split)
  all_goals (first | (simp (maxDischargeDepth := 30) [hs]; done) | (try simp_all (maxDischargeDepth := 30)))
@[simp] theorem State.blockDeadline_inv (s : State) (ch : Nat) (segId : Nat) (seq : Nat) (parityBad : Bool)
    (hs : Inv s) :
    Inv (State.blockDeadline s ch segId seq parityBad) := by
  unfold State.blockDeadline
  try dsimp only
  try (repeat' split)
  all_goals (first | (simp (maxDischargeDepth := 30) [hs]; done) | (try simp_all (maxDischargeDepth := 30)))
@[simp] theorem State.abortCmd_inv (s : State) (st : Nat) (hs : Inv s) :
    Inv (State.abortCmd s st) := by
  unfold State.abortCmd
  try dsimp only
  try (repeat' split)
  all_goals (first | (simp (maxDischargeDepth := 30) [hs]; done) | (try simp_all (maxDischargeDepth := 30)))
@[simp] theorem State.wBurstCmd_inv (s : State) (st : Nat) (val : Nat) (hs : Inv s) :
    Inv (State.wBurstCmd s st val) := by
  unfold State.wBurstCmd
  try dsimp only
  try (repeat' split)
  all_goals (first | (simp (maxDischargeDepth := 30) [hs]; done) | (try simp_all (maxDischargeDepth := 30)))
@[simp] theorem State.burstWrite_inv (s : State) (fn : Nat) (st : Nat) (val : Nat) (hs : Inv s) :
    Inv (State.burstWrite s fn st val) := by
  unfold State.burstWrite
  try dsimp only
  try (repeat' split)
  all_goals (first | (simp (maxDischargeDepth := 30) [hs]; done) | (try simp_all (maxDischargeDepth := 30)))
@[simp] theorem State.thermalShutdown_inv (s : State) (r : Nat) (hs : Inv s) :
    Inv (State.thermalShutdown s r) := by
  unfold State.thermalShutdown
  dsimp only
  split
  · exact hs
  · apply Inv.modSmb
    apply Inv.modCal
    apply State.calAbandon_inv
    apply Inv.forEach
    · simp (maxDischargeDepth := 30) +contextual [hs]
    · intro e t ht
      exact State.leaveSeg_inv _ _ ht
@[simp] theorem State.crossing_inv (s : State) (ch : Nat) (cl : Bool) (rising : Bool) (tt : Nat) (hs : Inv s) :
    Inv (State.crossing s ch cl rising tt) := by
  unfold State.crossing
  try dsimp only
  try (repeat' split)
  all_goals (first | (simp (maxDischargeDepth := 30) [hs]; done) | (try simp_all (maxDischargeDepth := 30)))
@[simp] theorem State.onSeg_inv (s : State) (e : CmpEv) (f : Eng → Eng) (h : Seg → Seg)
    (hf : ∀ x, (f x).deque = x.deque) (hs : Inv s) : Inv (State.onSeg s e f h) := by
  unfold State.onSeg
  dsimp only
  refine Inv.forEach (s := { s with returned := s.returned.map (fun g => if g.segId == e.segId && g.site == e.site then h g else g) })
    (hs.of_eq rfl rfl rfl rfl rfl) _ _ (fun i t ht => ?_)
  apply ht.modTe
  have := ht.deque i
  split
  · rw [hf]; simpa using this
  · simpa using this
@[simp] theorem State.plainResult_inv (s : State) (ch : Nat) (v : CmpRes) (hs : Inv s) :
    Inv (State.plainResult s ch v) := by
  unfold State.plainResult
  dsimp only
  have h1 := State.onSeg_inv s v.ev (fun x => { x with lastCmp := max x.lastCmp v.at_, fail := x.fail || !v.pass })
    (fun g => { g with lastCmp := max g.lastCmp v.at_, fail := g.fail || !v.pass }) (fun _ => rfl) hs
  have h2 := State.countFail_inv _ ch h1
  split
  · exact hs.when _ _ (fun t ht => State.toRec_inv _ _ _ _ ht)
  · split
    · exact h1.when _ _ (fun t ht => State.toRec_inv _ _ _ _ ht)
    · split
      · exact State.toRec_inv _ _ _ _ h2
      · split
        · exact State.bitmapUpdate_inv _ _ _ _ h2
        · exact h2
@[simp] theorem State.holdResult_inv (s : State) (ch : Nat) (v : CmpRes) (hs : Inv s) :
    Inv (State.holdResult s ch v) := by
  unfold State.holdResult
  exact State.onSeg_inv _ _ _ _ (fun _ => rfl) (hs.modChan ch _)
@[simp] theorem State.compareResult_inv (s : State) (ch : Nat) (hs : Inv s) :
    Inv (State.compareResult s ch) := by
  unfold State.compareResult
  try dsimp only
  try (repeat' split)
  all_goals (first | (simp (maxDischargeDepth := 30) [hs]; done) | (try simp_all (maxDischargeDepth := 30)))
@[simp] theorem State.tick_inv (s : State) (st : Nat) (hs : Inv s) :
    Inv (State.tick s st) := by
  unfold State.tick
  try dsimp only
  try (repeat' split)
  all_goals (first | (simp (maxDischargeDepth := 30) [hs]; done) | (try simp_all (maxDischargeDepth := 30)))

end Sys2Proof.Machine
end

