-- ==== Sys2Proof/Laws/InvSites.lean ====
section
/-! SUPPORT. Operations of site registers keep the invariant, one law each. -/

namespace Sys2Proof.Machine

@[simp] theorem State.siteChanged_inv (s : State) (o : Nat) (hs : Inv s) :
    Inv (State.siteChanged s o) := by
  unfold State.siteChanged
  try dsimp only
  try (repeat' split)
  all_goals (first | (simp (maxDischargeDepth := 30) [hs]; done) | (try simp_all (maxDischargeDepth := 30)))
@[simp] theorem State.dropSealed_inv (s : State) (o : Nat) (ch : Nat) (hs : Inv s) :
    Inv (State.dropSealed s o ch) := by
  unfold State.dropSealed
  try dsimp only
  try (repeat' split)
  all_goals (first | (simp (maxDischargeDepth := 30) [hs]; done) | (try simp_all (maxDischargeDepth := 30)))

@[simp] theorem State.dropMask_inv (s : State) (k : Nat) (hs : Inv s) :
    Inv (State.dropMask s k) := by
  unfold State.dropMask
  try dsimp only
  try (repeat' split)
  all_goals (first | (simp (maxDischargeDepth := 30) [hs]; done) | (try simp_all (maxDischargeDepth := 30)))
@[simp] theorem Hdr.handed_owner (h : Hdr) (o : Nat) : (h.handed o).owner ≤ 16 := Nat.min_le_right ..
@[simp] theorem Hdr.handed_vector (h : Hdr) (o : Nat) : (h.handed o).vector = 0 := by simp [Hdr.handed]
@[simp] theorem Hdr.handed_errCount (h : Hdr) (o : Nat) : (h.handed o).errCount = 0 := by simp [Hdr.handed]
/-- A write that fails no check keeps the invariant when its action does. -/
theorem State.checked_inv_of (s : State) (fn ty inst : Nat) (l : List (Bool × Nat)) (act : State → State) (hs : Inv s)
    (ha : firstFail l = 0 → Inv (act s)) : Inv (s.checked fn ty inst l act) := by
  unfold State.checked
  dsimp only
  split
  · simp [hs]
  · rename_i h; exact ha (by omega)

@[simp] theorem State.moveChannel_inv (s : State) (ch : Nat) (o : Nat) (hs : Inv s) :
    Inv (State.moveChannel s ch o) := by
  unfold State.moveChannel
  dsimp only
  simp (maxDischargeDepth := 30) +contextual [hs]
@[simp] theorem State.moveUnit_inv (s : State) (ty : Nat) (k : Nat) (o : Nat) (hs : Inv s) :
    Inv (State.moveUnit s ty k o) := by
  unfold State.moveUnit
  dsimp only
  (repeat' split) <;> simp (maxDischargeDepth := 30) +contextual [hs]
@[simp] theorem State.moveOwner_inv (s : State) (ty : Nat) (inst : Nat) (o : Nat) (hs : Inv s) :
    Inv (State.moveOwner s ty inst o) := by
  unfold State.moveOwner
  try dsimp only
  try (repeat' split)
  all_goals (first | (simp (maxDischargeDepth := 30) [hs]; done) | (try simp_all (maxDischargeDepth := 30)))
@[simp] theorem State.wOwner_inv (s : State) (fn : Nat) (ty : Nat) (inst : Nat) (val : Nat) (hs : Inv s) :
    Inv (State.wOwner s fn ty inst val) := by
  unfold State.wOwner
  dsimp only
  apply State.checked_inv _ _ _ _ _ _ hs
  intro t ht
  apply Inv.modHdr
  · split <;> simp (maxDischargeDepth := 30) +contextual [ht]
  · split <;> simp (maxDischargeDepth := 30) +contextual [ht]
  · simp
  · split <;> simp (maxDischargeDepth := 30) +contextual [ht]
@[simp] theorem State.wChMask_inv (s : State) (fn : Nat) (st : Nat) (k : Nat) (val : Nat) (hs : Inv s) :
    Inv (State.wChMask s fn st k val) := by
  unfold State.wChMask
  try dsimp only
  try (repeat' split)
  all_goals (first | (simp (maxDischargeDepth := 30) [hs]; done) | (try simp_all (maxDischargeDepth := 30)))
@[simp] theorem State.wCluMask_inv (s : State) (fn : Nat) (st : Nat) (val : Nat) (hs : Inv s) :
    Inv (State.wCluMask s fn st val) := by
  unfold State.wCluMask
  try dsimp only
  try (repeat' split)
  all_goals (first | (simp (maxDischargeDepth := 30) [hs]; done) | (try simp_all (maxDischargeDepth := 30)))
@[simp] theorem State.wTeMask_inv (s : State) (fn : Nat) (st : Nat) (k : Nat) (val : Nat) (hs : Inv s) :
    Inv (State.wTeMask s fn st k val) := by
  unfold State.wTeMask
  try dsimp only
  try (repeat' split)
  all_goals (first | (simp (maxDischargeDepth := 30) [hs]; done) | (try simp_all (maxDischargeDepth := 30)))
@[simp] theorem State.setRange_inv (s : State) (st : Nat) (base : Nat) (count : Nat) (hs : Inv s) :
    Inv (State.setRange s st base count) := by
  unfold State.setRange
  dsimp only
  generalize hl : (s.queues.filter _).map (·.1) = l
  have h0 : Inv (forEach l (fun q t =>
      if t.granted (s.qOwner q) (s.queue q).base (slotSize (s.queue q).type * (s.queue q).slots) then
        t.wipe (s.queue q).base (slotSize (s.queue q).type * (s.queue q).slots) else t) s) :=
    hs.forEach _ _ (fun i t ht => by split <;> simp [ht])
  generalize forEach l _ s = s0 at h0 ⊢
  have h : Inv { s0 with queues := s.queues.filter (fun p =>
      !(inRange (s.site st).qBase (s.site st).qCount p.1 != inRange base count p.1)) } := h0.of_eq rfl rfl rfl rfl rfl
  exact h.modSite _ _ (h.lclkDiv _) (h.lclkDiv' _) (h.lead _) (h.lead' _) (h.tether _) (h.tether' _) (h.group _)
@[simp] theorem State.wQueueRange_inv (s : State) (fn : Nat) (st : Nat) (isCount : Bool) (val : Nat) (hs : Inv s) :
    Inv (State.wQueueRange s fn st isCount val) := by
  unfold State.wQueueRange
  try dsimp only
  try (repeat' split)
  all_goals (first | (simp (maxDischargeDepth := 30) [hs]; done) | (try simp_all (maxDischargeDepth := 30)))
@[simp] theorem State.wSiteCtrl_inv (s : State) (st : Nat) (val : Nat) (hs : Inv s) :
    Inv (State.wSiteCtrl s st val) := by
  unfold State.wSiteCtrl
  try dsimp only
  try (repeat' split)
  all_goals (first | (simp (maxDischargeDepth := 30) [hs]; done) | (try simp_all (maxDischargeDepth := 30)))
@[simp] theorem State.wLclkDiv_inv (s : State) (fn : Nat) (st : Nat) (val : Nat) (hs : Inv s) :
    Inv (State.wLclkDiv s fn st val) := by
  unfold State.wLclkDiv
  apply State.checked_inv_of _ _ _ _ _ _ hs
  intro hf
  have h : 20 ≤ bits val 0 12 ∧ bits val 0 12 ≤ 4000 := by
    by_cases h : 20 ≤ bits val 0 12 ∧ bits val 0 12 ≤ 4000
    · exact h
    · simp [firstFail, h, Code.paramRange] at hf
  exact hs.modSite _ _ h.1 h.2 (hs.lead _) (hs.lead' _) (hs.tether _) (hs.tether' _) (hs.group _)
@[simp] theorem State.wFrameGroup_inv (s : State) (fn : Nat) (st : Nat) (val : Nat) (hs : Inv s) :
    Inv (State.wFrameGroup s fn st val) := by
  unfold State.wFrameGroup
  apply State.checked_inv _ _ _ _ _ _ hs
  intro t ht
  apply ht.modSite <;> simp (maxDischargeDepth := 30) +contextual [ht]
@[simp] theorem State.wLatePolicy_inv (s : State) (fn : Nat) (st : Nat) (val : Nat) (hs : Inv s) :
    Inv (State.wLatePolicy s fn st val) := by
  unfold State.wLatePolicy
  try dsimp only
  try (repeat' split)
  all_goals (first | (simp (maxDischargeDepth := 30) [hs]; done) | (try simp_all (maxDischargeDepth := 30)))
@[simp] theorem State.wLeadTime_inv (s : State) (fn : Nat) (st : Nat) (val : Nat) (hs : Inv s) :
    Inv (State.wLeadTime s fn st val) := by
  unfold State.wLeadTime
  try dsimp only
  try (repeat' split)
  all_goals (first | (simp (maxDischargeDepth := 30) [hs]; done) | (try simp_all (maxDischargeDepth := 30)))
@[simp] theorem State.wLogQueue_inv (s : State) (fn : Nat) (st : Nat) (val : Nat) (hs : Inv s) :
    Inv (State.wLogQueue s fn st val) := by
  unfold State.wLogQueue
  try dsimp only
  try (repeat' split)
  all_goals (first | (simp (maxDischargeDepth := 30) [hs]; done) | (try simp_all (maxDischargeDepth := 30)))
@[simp] theorem State.wCplQueue_inv (s : State) (fn : Nat) (st : Nat) (val : Nat) (hs : Inv s) :
    Inv (State.wCplQueue s fn st val) := by
  unfold State.wCplQueue
  try dsimp only
  try (repeat' split)
  all_goals (first | (simp (maxDischargeDepth := 30) [hs]; done) | (try simp_all (maxDischargeDepth := 30)))
@[simp] theorem State.wSiteGroup_inv (s : State) (st : Nat) (off : Nat) (val : Nat) (hs : Inv s) :
    Inv (State.wSiteGroup s st off val) := by
  unfold State.wSiteGroup
  try dsimp only
  try (repeat' split)
  all_goals (first | (simp (maxDischargeDepth := 30) [hs]; done) | (try simp_all (maxDischargeDepth := 30)))
@[simp] theorem State.wGlbGroup_inv (s : State) (off : Nat) (val : Nat) (hs : Inv s) :
    Inv (State.wGlbGroup s off val) := by
  unfold State.wGlbGroup
  try dsimp only
  try (repeat' split)
  all_goals (first | (simp (maxDischargeDepth := 30) [hs]; done) | (try simp_all (maxDischargeDepth := 30)))

end Sys2Proof.Machine
end

