-- ==== Sys2Proof/Laws/InvHealth.lean ====
section
/-! SUPPORT. Operations of histograms and health keep the invariant, one law each. -/

namespace Sys2Proof.Machine

@[simp] theorem State.histSample_inv (s : State) (k : Nat) (hs : Inv s) :
    Inv (State.histSample s k) := by
  unfold State.histSample
  try dsimp only
  try (repeat' split)
  all_goals (first | (simp (maxDischargeDepth := 30) [hs]; done) | (try simp_all (maxDischargeDepth := 30)))
@[simp] theorem State.wHistCtrl_inv (s : State) (fn : Nat) (k : Nat) (val : Nat) (hs : Inv s) :
    Inv (State.wHistCtrl s fn k val) := by
  unfold State.wHistCtrl
  try dsimp only
  try (repeat' split)
  all_goals (first | (simp (maxDischargeDepth := 30) [hs]; done) | (try simp_all (maxDischargeDepth := 30)))
@[simp] theorem State.wHistSrc_inv (s : State) (fn : Nat) (k : Nat) (val : Nat) (hs : Inv s) :
    Inv (State.wHistSrc s fn k val) := by
  unfold State.wHistSrc
  try dsimp only
  try (repeat' split)
  all_goals (first | (simp (maxDischargeDepth := 30) [hs]; done) | (try simp_all (maxDischargeDepth := 30)))
@[simp] theorem State.wHistOrigin_inv (s : State) (fn : Nat) (k : Nat) (val : Nat) (hs : Inv s) :
    Inv (State.wHistOrigin s fn k val) := by
  unfold State.wHistOrigin
  try dsimp only
  try (repeat' split)
  all_goals (first | (simp (maxDischargeDepth := 30) [hs]; done) | (try simp_all (maxDischargeDepth := 30)))
@[simp] theorem State.wHistWidth_inv (s : State) (fn : Nat) (k : Nat) (val : Nat) (hs : Inv s) :
    Inv (State.wHistWidth s fn k val) := by
  unfold State.wHistWidth
  try dsimp only
  try (repeat' split)
  all_goals (first | (simp (maxDischargeDepth := 30) [hs]; done) | (try simp_all (maxDischargeDepth := 30)))
@[simp] theorem State.wHlthCtrl_inv (s : State) (fn : Nat) (val : Nat) (hs : Inv s) :
    Inv (State.wHlthCtrl s fn val) := by
  unfold State.wHlthCtrl
  try dsimp only
  try (repeat' split)
  all_goals (first | (simp (maxDischargeDepth := 30) [hs]; done) | (try simp_all (maxDischargeDepth := 30)))
@[simp] theorem State.errMirror_inv (s : State) (hs : Inv s) :
    Inv (State.errMirror s) := by
  unfold State.errMirror
  split
  · exact hs
  · rename_i e rest heq
    split
    · apply State.produce_inv
      apply hs.modErr
      · have := hs.ring; rw [heq] at this; simp at this ⊢; omega
      · exact hs.reserve
    · exact hs

end Sys2Proof.Machine
end

