-- ==== Sys2Proof/Laws/InvImage.lean ====
section
/-! SUPPORT. Operations of microcode images keep the invariant, one law each. -/

namespace Sys2Proof.Machine

@[simp] theorem State.mcRun_inv (s : State) (r : Nat) (i : McImage) (slotB : Bool) (fallback : Bool) (hs : Inv s) :
    Inv (State.mcRun s r i slotB fallback) := by
  unfold State.mcRun
  apply Inv.modRgn
  exact (State.setCopy_inv s r i hs).forEach _ _ (fun e t ht => State.loadStore_inv _ _ ht)
@[simp] theorem State.mcLoadRgn_inv (s : State) (r : Nat) (sigs : Nat) (hs : Inv s) :
    Inv (State.mcLoadRgn s r sigs).1 := by
  unfold State.mcLoadRgn
  try dsimp only
  try (repeat' split)
  all_goals (first | (simp (maxDischargeDepth := 30) [hs]; done) | (try simp_all (maxDischargeDepth := 30)))
@[simp] theorem State.mcLoad_inv (s : State) (sigs : Nat) (hs : Inv s) :
    Inv (State.mcLoad s sigs) := by
  unfold State.mcLoad
  try dsimp only
  try (repeat' split)
  all_goals (first | (simp (maxDischargeDepth := 30) [hs]; done) | (try simp_all (maxDischargeDepth := 30)))

end Sys2Proof.Machine
end

