-- ==== Sys2Proof/Laws/InvMemory.lean ====
section
/-! SUPPORT. Operations of bank memory and HBM keep the invariant, one law each. -/

namespace Sys2Proof.Machine

@[simp] theorem State.setBankByte_inv (s : State) (off : Nat) (b : Byte) (hs : Inv s) :
    Inv (State.setBankByte s off b) := by
  unfold State.setBankByte
  try dsimp only
  try (repeat' split)
  all_goals (first | (simp (maxDischargeDepth := 30) [hs]; done) | (try simp_all (maxDischargeDepth := 30)))
@[simp] theorem State.setBankBytes_inv (s : State) (x1 : Nat) (x2 : List Byte) (hs : Inv s) :
    Inv (State.setBankBytes s x1 x2) := by
  induction x2 generalizing s x1 with
  | nil => exact hs
  | cons b t ih => exact ih _ _ (State.setBankByte_inv _ _ _ hs)
@[simp] theorem State.bankDo_inv (s : State) (old : State) (r : BankReq) (hs : Inv s) (hold : Inv old) :
    Inv (State.bankDo s old r) := by
  unfold State.bankDo
  try dsimp only
  try (repeat' split)
  all_goals (first | (simp (maxDischargeDepth := 30) [hs]; done) | (try simp_all (maxDischargeDepth := 30)))
@[simp] theorem State.bankBoth_inv (s : State) (a : Option BankReq) (b : Option BankReq) (bank : Nat) (cyc : Nat)
    (hs : Inv s) :
    Inv (State.bankBoth s a b bank cyc) := by
  unfold State.bankBoth
  try dsimp only
  try (repeat' split)
  all_goals (first | (simp (maxDischargeDepth := 30) [hs]; done) | (try simp_all (maxDischargeDepth := 30)))
@[simp] theorem State.bankCycle_inv (s : State) (l : List BankReq) (bank : Nat) (cyc : Nat) (hs : Inv s) :
    Inv (State.bankCycle s l bank cyc) := by
  unfold State.bankCycle
  try dsimp only
  try (repeat' split)
  all_goals (first | (simp (maxDischargeDepth := 30) [hs]; done) | (try simp_all (maxDischargeDepth := 30)))
@[simp] theorem State.bankRun_inv (s : State) (cyc : Nat) (l : List BankReq) (x1 : Nat) (hs : Inv s) :
    Inv (State.bankRun s cyc l x1) := by
  induction x1 generalizing s cyc l with
  | zero => exact hs
  | succ n ih =>
    unfold State.bankRun
    split
    · exact hs
    · exact ih _ _ _ (hs.forEach _ _ (fun b t ht => by simp [ht]))
@[simp] theorem State.bankAccess_inv (s : State) (l : List BankReq) (hs : Inv s) :
    Inv (State.bankAccess s l) := by
  unfold State.bankAccess
  try dsimp only
  try (repeat' split)
  all_goals (first | (simp (maxDischargeDepth := 30) [hs]; done) | (try simp_all (maxDischargeDepth := 30)))
@[simp] theorem State.regionStart_inv (s : State) (hs : Inv s) :
    Inv (State.regionStart s) := by
  unfold State.regionStart
  try dsimp only
  try (repeat' split)
  all_goals (first | (simp (maxDischargeDepth := 30) [hs]; done) | (try simp_all (maxDischargeDepth := 30)))
@[simp] theorem State.marchFail_inv (s : State) (off : Nat) (hs : Inv s) :
    Inv (State.marchFail s off) := by
  unfold State.marchFail
  try dsimp only
  try (repeat' split)
  all_goals (first | (simp (maxDischargeDepth := 30) [hs]; done) | (try simp_all (maxDischargeDepth := 30)))
@[simp] theorem State.marchDone_inv (s : State) (fails : List Nat) (hs : Inv s) :
    Inv (State.marchDone s fails) := by
  unfold State.marchDone
  try dsimp only
  try (repeat' split)
  all_goals (first | (simp (maxDischargeDepth := 30) [hs]; done) | (try simp_all (maxDischargeDepth := 30)))
@[simp] theorem State.wBmemTest_inv (s : State) (fn : Nat) (val : Nat) (hs : Inv s) :
    Inv (State.wBmemTest s fn val) := by
  unfold State.wBmemTest
  try dsimp only
  try (repeat' split)
  all_goals (first | (simp (maxDischargeDepth := 30) [hs]; done) | (try simp_all (maxDischargeDepth := 30)))
@[simp] theorem State.bwWindow_inv (s : State) (i : Nat) (served : List Nat) (demand : List Nat) (thr : Nat)
    (bp : Bool) (hs : Inv s) :
    Inv (State.bwWindow s i served demand thr bp) := by
  unfold State.bwWindow
  try dsimp only
  try (repeat' split)
  all_goals (first | (simp (maxDischargeDepth := 30) [hs]; done) | (try simp_all (maxDischargeDepth := 30)))

end Sys2Proof.Machine
end

