-- ==== Sys2Proof/Laws/InvCommands.lean ====
section
/-! SUPPORT. Operations of management commands keep the invariant, one law each. -/

namespace Sys2Proof.Machine

@[simp] theorem State.complete_inv (s : State) (fn : Nat) (cq : Nat) (tag : Nat) (seen : Nat) (status : Nat)
    (result : List Byte) (hs : Inv s) :
    Inv (State.complete s fn cq tag seen status result) := by
  unfold State.complete
  try dsimp only
  try (repeat' split)
  all_goals (first | (simp (maxDischargeDepth := 30) [hs]; done) | (try simp_all (maxDischargeDepth := 30)))
@[simp] theorem State.reply_inv (s : State) (c : Cmd) (status : Nat) (result : List Byte) (hs : Inv s) :
    Inv (State.reply s c status result) := by
  unfold State.reply
  try dsimp only
  try (repeat' split)
  all_goals (first | (simp (maxDischargeDepth := 30) [hs]; done) | (try simp_all (maxDischargeDepth := 30)))
@[simp] theorem State.runCmd_inv (s : State) (q : Nat) (c : Cmd) (who : Nat) (masks : List Nat)
    (act : Cmd → State → State) (hs : Inv s) (hact : ∀ y1 y2, Inv y2 → Inv (act y1 y2)) :
    Inv (State.runCmd s q c who masks act) := by
  unfold State.runCmd
  try dsimp only
  try (repeat' split)
  all_goals (first | (simp (maxDischargeDepth := 30) [hs]; done) | (try simp_all (maxDischargeDepth := 30)))
@[simp] theorem State.onCmd_inv (s : State) (q : Nat) (code : Nat) (who : Nat) (masks : List Nat)
    (act : Cmd → State → State) (hs : Inv s) (hact : ∀ y1 y2, Inv y2 → Inv (act y1 y2)) :
    Inv (State.onCmd s q code who masks act) := by
  unfold State.onCmd
  try dsimp only
  try (repeat' split)
  all_goals (first | (simp (maxDischargeDepth := 30) [hs]; done) | (try simp_all (maxDischargeDepth := 30)))
@[simp] theorem State.storeBlock_inv (s : State) (o : Nat) (a : Nat) (c : List Byte) (hs : Inv s) :
    Inv (State.storeBlock s o a c) := by
  unfold State.storeBlock
  have key : ∀ (u : State) (x : Tbl (Option Byte)), Inv u → Inv { u with ctext := x } :=
    fun u x h => ⟨h.mem, h.hdr, h.site, h.err, h.te⟩
  exact key _ _ (hs.setBytes _ _)
@[simp] theorem State.storeSealed_inv (s : State) (a : Nat) (data : List Byte) (hs : Inv s) :
    Inv (State.storeSealed s a data) := by
  unfold State.storeSealed
  try dsimp only
  try (repeat' split)
  all_goals (first | (simp (maxDischargeDepth := 30) [hs]; done) | (try simp_all (maxDischargeDepth := 30)))
@[simp] theorem State.dropLines_inv (s : State) (a : Nat) (last : Nat) (hs : Inv s) :
    Inv (State.dropLines s a last) := by
  unfold State.dropLines
  try dsimp only
  try (repeat' split)
  all_goals (first | (simp (maxDischargeDepth := 30) [hs]; done) | (try simp_all (maxDischargeDepth := 30)))
@[simp] theorem State.copyIn_inv (s : State) (a : Nat) (data : List Byte) (hs : Inv s) :
    Inv (State.copyIn s a data) := by
  unfold State.copyIn
  split
  · exact hs
  · have h1 : Inv (if s.sealedAt a then s.storeSealed a data else s.setBytes a data) := by
      split
      · exact State.storeSealed_inv _ _ _ hs
      · exact hs.setBytes _ _
    apply State.dropLines_inv
    exact State.bankHits_inv _ _ _ _ h1
@[simp] theorem State.copyOut_inv (s : State) (a : Nat) (n : Nat) (hs : Inv s) :
    Inv (State.copyOut s a n).1 := by
  unfold State.copyOut
  try dsimp only
  try (repeat' split)
  all_goals (first | (simp (maxDischargeDepth := 30) [hs]; done) | (try simp_all (maxDischargeDepth := 30)))
@[simp] theorem State.dmaOut_inv (s : State) (c : Cmd) (addr : Nat) (data : List Byte) (err : Option Nat)
    (hs : Inv s) :
    Inv (State.dmaOut s c addr data err).1 := by
  unfold State.dmaOut
  try dsimp only
  try (repeat' split)
  all_goals (first | (simp (maxDischargeDepth := 30) [hs]; done) | (try simp_all (maxDischargeDepth := 30)))
@[simp] theorem State.queueOut_inv (s : State) (c : Cmd) (err : Option Nat) (hs : Inv s) :
    Inv (State.queueOut s c err) := by
  unfold State.queueOut
  try dsimp only
  try (repeat' split)
  all_goals (first | (simp (maxDischargeDepth := 30) [hs]; done) | (try simp_all (maxDischargeDepth := 30)))
@[simp] theorem State.barrierSet_inv (s : State) (c : Cmd) (hs : Inv s) :
    Inv (State.barrierSet s c) := by
  unfold State.barrierSet
  try dsimp only
  try (repeat' split)
  all_goals (first | (simp (maxDischargeDepth := 30) [hs]; done) | (try simp_all (maxDischargeDepth := 30)))
@[simp] theorem State.scrambleLoad_inv (s : State) (c : Cmd) (hs : Inv s) :
    Inv (State.scrambleLoad s c) := by
  unfold State.scrambleLoad
  try dsimp only
  try (repeat' split)
  all_goals (first | (simp (maxDischargeDepth := 30) [hs]; done) | (try simp_all (maxDischargeDepth := 30)))
@[simp] theorem State.calRead_inv (s : State) (c : Cmd) (err : Option Nat) (hs : Inv s) :
    Inv (State.calRead s c err) := by
  unfold State.calRead
  try dsimp only
  try (repeat' split)
  all_goals (first | (simp (maxDischargeDepth := 30) [hs]; done) | (try simp_all (maxDischargeDepth := 30)))
@[simp] theorem State.mcInstall_inv (s : State) (c : Cmd) (key : List Byte) (hs : Inv s) :
    Inv (State.mcInstall s c key) := by
  unfold State.mcInstall
  try dsimp only
  try (repeat' split)
  all_goals (first | (simp (maxDischargeDepth := 30) [hs]; done) | (try simp_all (maxDischargeDepth := 30)))
@[simp] theorem State.mcInstallDone_inv (s : State) (hs : Inv s) :
    Inv (State.mcInstallDone s) := by
  unfold State.mcInstallDone
  try dsimp only
  try (repeat' split)
  all_goals (first | (simp (maxDischargeDepth := 30) [hs]; done) | (try simp_all (maxDischargeDepth := 30)))
@[simp] theorem State.memGrant_inv (s : State) (c : Cmd) (hs : Inv s) :
    Inv (State.memGrant s c) := by
  unfold State.memGrant
  try dsimp only
  try (repeat' split)
  all_goals (first | (simp (maxDischargeDepth := 30) [hs]; done) | (try simp_all (maxDischargeDepth := 30)))
@[simp] theorem State.memGrantDone_inv (s : State) (hs : Inv s) :
    Inv (State.memGrantDone s) := by
  unfold State.memGrantDone
  split
  · exact hs
  · rename_i g _
    have h : Inv ((s.wipe g.range.1 g.range.2).dropLines g.range.1 (g.range.1 + g.range.2 - 1)) :=
      State.dropLines_inv _ _ _ (hs.wipe _ _)
    dsimp only
    apply State.complete_inv
    apply Inv.modQmgr
    split <;> exact h.of_eq rfl rfl rfl rfl rfl
@[simp] theorem State.uncorr_inv (s : State) (addr : Nat) (site : Option Nat) (hs : Inv s) :
    Inv (State.uncorr s addr site) := by
  unfold State.uncorr
  try dsimp only
  try (repeat' split)
  all_goals (first | (simp (maxDischargeDepth := 30) [hs]; done) | (try simp_all (maxDischargeDepth := 30)))
@[simp] theorem State.uncorrRead_inv (s : State) (addr : Nat) (who : Nat) (i : Nat) (j : Nat) (hs : Inv s) :
    Inv (State.uncorrRead s addr who i j) := by
  unfold State.uncorrRead
  try dsimp only
  try (repeat' split)
  all_goals (first | (simp (maxDischargeDepth := 30) [hs]; done) | (try simp_all (maxDischargeDepth := 30)))

end Sys2Proof.Machine
end

