-- ==== Sys2Proof/Laws/InvSecurity.lean ====
section
/-! SUPPORT. Operations of security keep the invariant, one law each. -/

namespace Sys2Proof.Machine

@[simp] theorem State.latchHw_inv (s : State) (hs : Inv s) :
    Inv (State.latchHw s) := by
  unfold State.latchHw
  try dsimp only
  try (repeat' split)
  all_goals (first | (simp (maxDischargeDepth := 30) [hs]; done) | (try simp_all (maxDischargeDepth := 30)))
@[simp] theorem State.wHostTime_inv (s : State) (fn : Nat) (hi : Nat) (hs : Inv s) :
    Inv (State.wHostTime s fn hi) := by
  unfold State.wHostTime
  try dsimp only
  try (repeat' split)
  all_goals (first | (simp (maxDischargeDepth := 30) [hs]; done) | (try simp_all (maxDischargeDepth := 30)))
@[simp] theorem State.unsealRegs_inv (s : State) (st : Nat) (hs : Inv s) :
    Inv (State.unsealRegs s st) := by
  unfold State.unsealRegs
  try dsimp only
  try (repeat' split)
  all_goals (first | (simp (maxDischargeDepth := 30) [hs]; done) | (try simp_all (maxDischargeDepth := 30)))
@[simp] theorem State.dropContainer_inv (s : State) (st : Nat) (hs : Inv s) :
    Inv (State.dropContainer s st) := by
  unfold State.dropContainer
  try dsimp only
  try (repeat' split)
  all_goals (first | (simp (maxDischargeDepth := 30) [hs]; done) | (try simp_all (maxDischargeDepth := 30)))
@[simp] theorem State.secErr_inv (s : State) (code : Nat) (hs : Inv s) :
    Inv (State.secErr s code) := by
  unfold State.secErr
  try dsimp only
  try (repeat' split)
  all_goals (first | (simp (maxDischargeDepth := 30) [hs]; done) | (try simp_all (maxDischargeDepth := 30)))
@[simp] theorem State.doeSend_inv (s : State) (fn : Nat) (op : Nat) (status : Nat) (tag : Nat) (data : List Byte)
    (hs : Inv s) :
    Inv (State.doeSend s fn op status tag data) := by
  unfold State.doeSend
  try dsimp only
  try (repeat' split)
  all_goals (first | (simp (maxDischargeDepth := 30) [hs]; done) | (try simp_all (maxDischargeDepth := 30)))
@[simp] theorem State.doeReply_inv (s : State) (d : Doe) (status : Nat) (data : List Byte) (hs : Inv s) :
    Inv (State.doeReply s d status data) := by
  unfold State.doeReply
  try dsimp only
  try (repeat' split)
  all_goals (first | (simp (maxDischargeDepth := 30) [hs]; done) | (try simp_all (maxDischargeDepth := 30)))
@[simp] theorem State.doeQueue_inv (s : State) (d : Doe) (hs : Inv s) :
    Inv (State.doeQueue s d) := by
  unfold State.doeQueue
  try dsimp only
  try (repeat' split)
  all_goals (first | (simp (maxDischargeDepth := 30) [hs]; done) | (try simp_all (maxDischargeDepth := 30)))
@[simp] theorem State.onDoe_inv (s : State) (d : Doe) (op : Nat) (who : Nat) (len : Nat) (exact : Bool)
    (act : Doe → State → State) (hs : Inv s) (hact : ∀ y1 y2, Inv y2 → Inv (act y1 y2)) :
    Inv (State.onDoe s d op who len exact act) := by
  unfold State.onDoe
  try dsimp only
  try (repeat' split)
  all_goals (first | (simp (maxDischargeDepth := 30) [hs]; done) | (try simp_all (maxDischargeDepth := 30)))
@[simp] theorem State.doeOther_inv (s : State) (d : Doe) (hs : Inv s) :
    Inv (State.doeOther s d) := by
  unfold State.doeOther
  try dsimp only
  try (repeat' split)
  all_goals (first | (simp (maxDischargeDepth := 30) [hs]; done) | (try simp_all (maxDischargeDepth := 30)))
@[simp] theorem State.doeStatus_inv (s : State) (d : Doe) (hs : Inv s) :
    Inv (State.doeStatus s d) := by
  unfold State.doeStatus
  try dsimp only
  try (repeat' split)
  all_goals (first | (simp (maxDischargeDepth := 30) [hs]; done) | (try simp_all (maxDischargeDepth := 30)))
@[simp] theorem State.signAlias_inv (s : State) (m : List Byte) (hs : Inv s) :
    Inv (State.signAlias s m).1 := by
  unfold State.signAlias
  try dsimp only
  try (repeat' split)
  all_goals (first | (simp (maxDischargeDepth := 30) [hs]; done) | (try simp_all (maxDischargeDepth := 30)))
@[simp] theorem State.loadAccept_inv (s : State) (d : Doe) (st : Nat) (dest : Nat) (h : List Byte)
    (plain : List Byte) (hs : Inv s) :
    Inv (State.loadAccept s d st dest h plain) := by
  unfold State.loadAccept
  try dsimp only
  try (repeat' split)
  all_goals (first | (simp (maxDischargeDepth := 30) [hs]; done) | (try simp_all (maxDischargeDepth := 30)))
@[simp] theorem State.load_inv (s : State) (d : Doe) (hs : Inv s) :
    Inv (State.load s d) := by
  unfold State.load
  try dsimp only
  try (repeat' split)
  all_goals (first | (simp (maxDischargeDepth := 30) [hs]; done) | (try simp_all (maxDischargeDepth := 30)))
@[simp] theorem State.loseFrame_inv (s : State) (st : Nat) (kind : Nat) (inst : Nat) (hs : Inv s) :
    Inv (State.loseFrame s st kind inst) := by
  unfold State.loseFrame
  try dsimp only
  try (repeat' split)
  all_goals (first | (simp (maxDischargeDepth := 30) [hs]; done) | (try simp_all (maxDischargeDepth := 30)))
@[simp] theorem State.zeroRings_inv (s : State) (st : Nat) (hs : Inv s) :
    Inv (State.zeroRings s st) := by
  unfold State.zeroRings
  try dsimp only
  try (repeat' split)
  all_goals (first | (simp (maxDischargeDepth := 30) [hs]; done) | (try simp_all (maxDischargeDepth := 30)))
@[simp] theorem State.unloadEnd_inv (s : State) (st : Nat) (path : Nat) (tag : Nat) (hs : Inv s) :
    Inv (State.unloadEnd s st path tag) := by
  unfold State.unloadEnd
  try dsimp only
  try (repeat' split)
  all_goals (first | (simp (maxDischargeDepth := 30) [hs]; done) | (try simp_all (maxDischargeDepth := 30)))
@[simp] theorem State.unloadStep_inv (s : State) (st : Nat) (hs : Inv s) :
    Inv (State.unloadStep s st) := by
  unfold State.unloadStep
  try dsimp only
  try (repeat' split)
  all_goals (first | (simp (maxDischargeDepth := 30) [hs]; done) | (try simp_all (maxDischargeDepth := 30)))
@[simp] theorem State.closeFrames_inv (s : State) (st : Nat) (hs : Inv s) :
    Inv (State.closeFrames s st) := by
  unfold State.closeFrames
  try dsimp only
  try (repeat' split)
  all_goals (first | (simp (maxDischargeDepth := 30) [hs]; done) | (try simp_all (maxDischargeDepth := 30)))
@[simp] theorem State.unload_inv (s : State) (d : Doe) (hs : Inv s) :
    Inv (State.unload s d) := by
  unfold State.unload
  try dsimp only
  try (repeat' split)
  all_goals (first | (simp (maxDischargeDepth := 30) [hs]; done) | (try simp_all (maxDischargeDepth := 30)))
@[simp] theorem State.frameDue_inv (s : State) (st : Nat) (kind : Nat) (inst : Nat) (hs : Inv s) :
    Inv (State.frameDue s st kind inst) := by
  unfold State.frameDue
  try dsimp only
  try (repeat' split)
  all_goals (first | (simp (maxDischargeDepth := 30) [hs]; done) | (try simp_all (maxDischargeDepth := 30)))
@[simp] theorem State.fwCommit_inv (s : State) (d : Doe) (b : List Byte) (intoA : Bool) (hs : Inv s) :
    Inv (State.fwCommit s d b intoA) := by
  unfold State.fwCommit
  try dsimp only
  try (repeat' split)
  all_goals (first | (simp (maxDischargeDepth := 30) [hs]; done) | (try simp_all (maxDischargeDepth := 30)))
@[simp] theorem State.fwInstall_inv (s : State) (d : Doe) (hs : Inv s) :
    Inv (State.fwInstall s d) := by
  unfold State.fwInstall
  try dsimp only
  try (repeat' split)
  all_goals (first | (simp (maxDischargeDepth := 30) [hs]; done) | (try simp_all (maxDischargeDepth := 30)))
@[simp] theorem State.fwRecover_inv (s : State) (d : Doe) (hs : Inv s) :
    Inv (State.fwRecover s d) := by
  unfold State.fwRecover
  try dsimp only
  try (repeat' split)
  all_goals (first | (simp (maxDischargeDepth := 30) [hs]; done) | (try simp_all (maxDischargeDepth := 30)))
@[simp] theorem State.floorCommit_inv (s : State) (d : Doe) (hs : Inv s) :
    Inv (State.floorCommit s d) := by
  unfold State.floorCommit
  try dsimp only
  try (repeat' split)
  all_goals (first | (simp (maxDischargeDepth := 30) [hs]; done) | (try simp_all (maxDischargeDepth := 30)))
@[simp] theorem State.wSealedSites_inv (s : State) (fn : Nat) (val : Nat) (hs : Inv s) :
    Inv (State.wSealedSites s fn val) := by
  unfold State.wSealedSites
  try dsimp only
  try (repeat' split)
  all_goals (first | (simp (maxDischargeDepth := 30) [hs]; done) | (try simp_all (maxDischargeDepth := 30)))
@[simp] theorem State.rekeyDone_inv (s : State) (h : Nat) (hs : Inv s) :
    Inv (State.rekeyDone s h) := by
  unfold State.rekeyDone
  try dsimp only
  try (repeat' split)
  all_goals (first | (simp (maxDischargeDepth := 30) [hs]; done) | (try simp_all (maxDischargeDepth := 30)))
@[simp] theorem State.secWipe_inv (s : State) (hs : Inv s) :
    Inv (State.secWipe s) := by
  unfold State.secWipe
  try dsimp only
  try (repeat' split)
  all_goals (first | (simp (maxDischargeDepth := 30) [hs]; done) | (try simp_all (maxDischargeDepth := 30)))
@[simp] theorem State.unloadFrames_inv (s : State) (hs : Inv s) :
    Inv (State.unloadFrames s) := by
  unfold State.unloadFrames
  try dsimp only
  try (repeat' split)
  all_goals (first | (simp (maxDischargeDepth := 30) [hs]; done) | (try simp_all (maxDischargeDepth := 30)))
@[simp] theorem State.wLifecycle_inv (s : State) (fn : Nat) (val : Nat) (hs : Inv s) :
    Inv (State.wLifecycle s fn val) := by
  unfold State.wLifecycle
  try dsimp only
  try (repeat' split)
  all_goals (first | (simp (maxDischargeDepth := 30) [hs]; done) | (try simp_all (maxDischargeDepth := 30)))
@[simp] theorem State.lcDone_inv (s : State) (hs : Inv s) :
    Inv (State.lcDone s) := by
  unfold State.lcDone
  split
  · exact hs
  · split
    · exact hs
    · dsimp only
      split
      · apply State.toSafe_inv; apply State.cause_inv; apply State.cause_inv; apply Inv.modSec; exact hs.of_eq rfl rfl rfl rfl rfl
      · apply State.cause_inv; apply Inv.modSec; exact hs.of_eq rfl rfl rfl rfl rfl
@[simp] theorem State.tamper_inv (s : State) (src : Nat) (hs : Inv s) :
    Inv (State.tamper s src) := by
  unfold State.tamper
  try dsimp only
  try (repeat' split)
  all_goals (first | (simp (maxDischargeDepth := 30) [hs]; done) | (try simp_all (maxDischargeDepth := 30)))
@[simp] theorem State.wTamperCtrl_inv (s : State) (fn : Nat) (val : Nat) (hs : Inv s) :
    Inv (State.wTamperCtrl s fn val) := by
  unfold State.wTamperCtrl
  try dsimp only
  try (repeat' split)
  all_goals (first | (simp (maxDischargeDepth := 30) [hs]; done) | (try simp_all (maxDischargeDepth := 30)))
@[simp] theorem State.fwCommitted_inv (s : State) (hs : Inv s) :
    Inv (State.fwCommitted s) := by
  unfold State.fwCommitted
  try dsimp only
  try (repeat' split)
  all_goals (first | (simp (maxDischargeDepth := 30) [hs]; done) | (try simp_all (maxDischargeDepth := 30)))
@[simp] theorem State.norDone_inv (s : State) (hs : Inv s) :
    Inv (State.norDone s) := by
  unfold State.norDone
  try dsimp only
  try (repeat' split)
  all_goals (first | (simp (maxDischargeDepth := 30) [hs]; done) | (try simp_all (maxDischargeDepth := 30)))
@[simp] theorem State.setIde_inv (s : State) (fn : Nat) (v : Nat) (hs : Inv s) :
    Inv (State.setIde s fn v) := by
  unfold State.setIde
  try dsimp only
  try (repeat' split)
  all_goals (first | (simp (maxDischargeDepth := 30) [hs]; done) | (try simp_all (maxDischargeDepth := 30)))
@[simp] theorem State.ideFail_inv (s : State) (fn : Nat) (hs : Inv s) :
    Inv (State.ideFail s fn) := by
  unfold State.ideFail
  try dsimp only
  try (repeat' split)
  all_goals (first | (simp (maxDischargeDepth := 30) [hs]; done) | (try simp_all (maxDischargeDepth := 30)))

end Sys2Proof.Machine
end

