-- ==== Sys2Proof/Laws/InvAttest.lean ====
section
/-! SUPPORT. Operations of SPDM and MCTP keep the invariant, one law each. -/

namespace Sys2Proof.Machine

@[simp] theorem State.spdmSend_inv (s : State) (path : Nat) (code : Nat) (body : List Byte) (hs : Inv s) :
    Inv (State.spdmSend s path code body) := by
  unfold State.spdmSend
  try dsimp only
  try (repeat' split)
  all_goals (first | (simp (maxDischargeDepth := 30) [hs]; done) | (try simp_all (maxDischargeDepth := 30)))
@[simp] theorem State.spdmSigned_inv (s : State) (path : Nat) (code : Nat) (req : List Byte) (body : List Byte)
    (hs : Inv s) :
    Inv (State.spdmSigned s path code req body) := by
  unfold State.spdmSigned
  try dsimp only
  try (repeat' split)
  all_goals (first | (simp (maxDischargeDepth := 30) [hs]; done) | (try simp_all (maxDischargeDepth := 30)))
@[simp] theorem State.spdmError_inv (s : State) (path : Nat) (err : Nat) (hs : Inv s) :
    Inv (State.spdmError s path err) := by
  unfold State.spdmError
  try dsimp only
  try (repeat' split)
  all_goals (first | (simp (maxDischargeDepth := 30) [hs]; done) | (try simp_all (maxDischargeDepth := 30)))
@[simp] theorem State.spdmFree_inv (s : State) (path : Nat) (code : Nat) (req : List Byte) (hs : Inv s) :
    Inv (State.spdmFree s path code req) := by
  unfold State.spdmFree
  try dsimp only
  try (repeat' split)
  all_goals (first | (simp (maxDischargeDepth := 30) [hs]; done) | (try simp_all (maxDischargeDepth := 30)))
@[simp] theorem State.spdmCapabilities_inv (s : State) (path : Nat) (hs : Inv s) :
    Inv (State.spdmCapabilities s path) := by
  unfold State.spdmCapabilities
  try dsimp only
  try (repeat' split)
  all_goals (first | (simp (maxDischargeDepth := 30) [hs]; done) | (try simp_all (maxDischargeDepth := 30)))
@[simp] theorem State.setSessions_inv (s : State) (path : Nat) (o : Nat) (f : Nat) (hs : Inv s) :
    Inv (State.setSessions s path o f) := by
  unfold State.setSessions
  try dsimp only
  try (repeat' split)
  all_goals (first | (simp (maxDischargeDepth := 30) [hs]; done) | (try simp_all (maxDischargeDepth := 30)))
@[simp] theorem State.inSession_inv (s : State) (path : Nat) (act : State → State) (hs : Inv s)
    (hact : ∀ y1, Inv y1 → Inv (act y1)) :
    Inv (State.inSession s path act) := by
  unfold State.inSession
  try dsimp only
  try (repeat' split)
  all_goals (first | (simp (maxDischargeDepth := 30) [hs]; done) | (try simp_all (maxDischargeDepth := 30)))
@[simp] theorem State.ideKm_inv (s : State) (x1 : IdeKm) (hs : Inv s) :
    Inv (State.ideKm s x1) := by
  unfold State.ideKm
  try dsimp only
  try (repeat' split)
  all_goals (first | (simp (maxDischargeDepth := 30) [hs]; done) | (try simp_all (maxDischargeDepth := 30)))
@[simp] theorem State.mctpSend_inv (s : State) (cmd : Nat) (cc : Nat) (data : List Byte) (hs : Inv s) :
    Inv (State.mctpSend s cmd cc data) := by
  unfold State.mctpSend
  try dsimp only
  try (repeat' split)
  all_goals (first | (simp (maxDischargeDepth := 30) [hs]; done) | (try simp_all (maxDischargeDepth := 30)))

end Sys2Proof.Machine
end

