-- ==== Sys2Proof/Laws/InvJtag.lean ====
section
/-! SUPPORT. Operations of JTAG keep the invariant, one law each. -/

namespace Sys2Proof.Machine

@[simp] theorem State.onTap_inv (s : State) (f : Jtag → Jtag) (hs : Inv s) :
    Inv (State.onTap s f) := by
  unfold State.onTap
  try dsimp only
  try (repeat' split)
  all_goals (first | (simp (maxDischargeDepth := 30) [hs]; done) | (try simp_all (maxDischargeDepth := 30)))

end Sys2Proof.Machine
end

