-- ==== Sys2Proof/Laws/InvFlags.lean ====
section
/-! SUPPORT. Operations of register reads keep the invariant, one law each. -/

namespace Sys2Proof.Machine

@[simp] theorem State.readClear_inv (s : State) (fn : Nat) (ty : Nat) (inst : Nat) (off : Nat) (hs : Inv s) :
    Inv (State.readClear s fn ty inst off) := by
  unfold State.readClear
  split
  · simp (maxDischargeDepth := 30) +contextual [hs]
  · split <;> (repeat' split) <;> simp (maxDischargeDepth := 30) +contextual [hs]
@[simp] theorem State.readReg_inv (s : State) (fn : Nat) (ty : Nat) (inst : Nat) (off : Nat) (hs : Inv s) :
    Inv (State.readReg s fn ty inst off).1 := by
  unfold State.readReg
  try dsimp only
  try (repeat' split)
  all_goals (first | (simp (maxDischargeDepth := 30) [hs]; done) | (try simp_all (maxDischargeDepth := 30)))

end Sys2Proof.Machine
end

