-- ==== Sys2Proof/Laws/InvRegs.lean ====
section
/-! SUPPORT. Operations of register writes keep the invariant, one law each. -/

namespace Sys2Proof.Machine

@[simp] theorem State.enClear_inv (s : State) (ty : Nat) (inst : Nat) (hs : Inv s) :
    Inv (State.enClear s ty inst) := by
  unfold State.enClear
  try dsimp only
  try (repeat' split)
  all_goals (first | (simp (maxDischargeDepth := 30) [hs]; done) | (try simp_all (maxDischargeDepth := 30)))
@[simp] theorem State.enSet_inv (s : State) (ty : Nat) (inst : Nat) (hs : Inv s) :
    Inv (State.enSet s ty inst) := by
  unfold State.enSet
  try dsimp only
  try (repeat' split)
  all_goals (first | (simp (maxDischargeDepth := 30) [hs]; done) | (try simp_all (maxDischargeDepth := 30)))
@[simp] theorem State.resetPart_inv (s : State) (r : Nat) (st : Nat) (hs : Inv s) :
    Inv (State.resetPart s r st) := by
  unfold State.resetPart
  refine Inv.forEach ?_ _ _ (fun i t ht => State.modPart_inv _ _ _ _ ht)
  have h := State.modPart_inv s r st (fun _ => {}) hs
  exact h.modSite _ _ (by split <;> exact h.lclkDiv _) (by split <;> exact h.lclkDiv' _) (by split <;> exact h.lead _)
    (by split <;> exact h.lead' _) (by split <;> exact h.tether _) (by split <;> exact h.tether' _)
    (by split <;> exact h.group _)
@[simp] theorem State.resetFcu_inv (s : State) (r : Nat) (hs : Inv s) :
    Inv (State.resetFcu s r) := by
  unfold State.resetFcu
  try dsimp only
  try (repeat' split)
  all_goals (first | (simp (maxDischargeDepth := 30) [hs]; done) | (try simp_all (maxDischargeDepth := 30)))

@[simp] theorem Eng.cleared_deque (x : Eng) (up : Nat) : (x.cleared up).deque = x.deque := by simp [Eng.cleared]
@[simp] theorem Hdr.softReset_owner (h : Hdr) : h.softReset.owner = h.owner := by simp [Hdr.softReset]
@[simp] theorem Hdr.softReset_vector (h : Hdr) : h.softReset.vector = h.vector := by simp [Hdr.softReset]
@[simp] theorem Hdr.softReset_errCount (h : Hdr) : h.softReset.errCount = 0 := by simp [Hdr.softReset]

@[simp] theorem State.resetRegs_inv (s : State) (ty : Nat) (inst : Nat) (hs : Inv s) :
    Inv (State.resetRegs s ty inst) := by
  unfold State.resetRegs
  split <;> simp (maxDischargeDepth := 30) +contextual [hs]
@[simp] theorem State.softReset_inv (s : State) (ty : Nat) (inst : Nat) (hs : Inv s) :
    Inv (State.softReset s ty inst) := by
  unfold State.softReset
  dsimp only
  have h : Inv (if ty = Ty.pe ∨ ty = Ty.lvl then s.hizStart true inst else s.resetRegs ty inst) := by split <;> simp (maxDischargeDepth := 30) +contextual [hs]
  exact h.modHdr _ _ _ (h.owner _ _) (h.vector _ _) (by simp)
@[simp] theorem State.wBlkCtrl_inv (s : State) (fn : Nat) (ty : Nat) (inst : Nat) (val : Nat) (hs : Inv s) :
    Inv (State.wBlkCtrl s fn ty inst val) := by
  unfold State.wBlkCtrl
  try dsimp only
  try (repeat' split)
  all_goals (first | (simp (maxDischargeDepth := 30) [hs]; done) | (try simp_all (maxDischargeDepth := 30)))
@[simp] theorem State.softResetDone_inv (s : State) (ty : Nat) (inst : Nat) (hs : Inv s) :
    Inv (State.softResetDone s ty inst) := by
  unfold State.softResetDone
  try dsimp only
  try (repeat' split)
  all_goals (first | (simp (maxDischargeDepth := 30) [hs]; done) | (try simp_all (maxDischargeDepth := 30)))
@[simp] theorem State.wIrqStatus_inv (s : State) (ty : Nat) (inst : Nat) (val : Nat) (hs : Inv s) :
    Inv (State.wIrqStatus s ty inst val) := by
  unfold State.wIrqStatus
  try dsimp only
  try (repeat' split)
  all_goals (first | (simp (maxDischargeDepth := 30) [hs]; done) | (try simp_all (maxDischargeDepth := 30)))
@[simp] theorem State.wIrqEnable_inv (s : State) (ty : Nat) (inst : Nat) (val : Nat) (hs : Inv s) :
    Inv (State.wIrqEnable s ty inst val) := by
  unfold State.wIrqEnable
  try dsimp only
  try (repeat' split)
  all_goals (first | (simp (maxDischargeDepth := 30) [hs]; done) | (try simp_all (maxDischargeDepth := 30)))
@[simp] theorem State.wIrqSet_inv (s : State) (ty : Nat) (inst : Nat) (val : Nat) (hs : Inv s) :
    Inv (State.wIrqSet s ty inst val) := by
  unfold State.wIrqSet
  try dsimp only
  try (repeat' split)
  all_goals (first | (simp (maxDischargeDepth := 30) [hs]; done) | (try simp_all (maxDischargeDepth := 30)))
@[simp] theorem State.wPQueue_inv (s : State) (fn : Nat) (r : Nat) (st : Nat) (val : Nat) (hs : Inv s) :
    Inv (State.wPQueue s fn r st val) := by
  unfold State.wPQueue
  try dsimp only
  try (repeat' split)
  all_goals (first | (simp (maxDischargeDepth := 30) [hs]; done) | (try simp_all (maxDischargeDepth := 30)))
@[simp] theorem State.wScrambleBase_inv (s : State) (fn : Nat) (r : Nat) (val : Nat) (hs : Inv s) :
    Inv (State.wScrambleBase s fn r val) := by
  unfold State.wScrambleBase
  try dsimp only
  try (repeat' split)
  all_goals (first | (simp (maxDischargeDepth := 30) [hs]; done) | (try simp_all (maxDischargeDepth := 30)))
@[simp] theorem State.wPeStatus_inv (s : State) (ch : Nat) (val : Nat) (hs : Inv s) :
    Inv (State.wPeStatus s ch val) := by
  unfold State.wPeStatus
  try dsimp only
  try (repeat' split)
  all_goals (first | (simp (maxDischargeDepth := 30) [hs]; done) | (try simp_all (maxDischargeDepth := 30)))
@[simp] theorem State.wTamperStatus_inv (s : State) (val : Nat) (hs : Inv s) :
    Inv (State.wTamperStatus s val) := by
  unfold State.wTamperStatus
  try dsimp only
  try (repeat' split)
  all_goals (first | (simp (maxDischargeDepth := 30) [hs]; done) | (try simp_all (maxDischargeDepth := 30)))
@[simp] theorem State.wDescSel_inv (s : State) (fn : Nat) (val : Nat) (hs : Inv s) :
    Inv (State.wDescSel s fn val) := by
  unfold State.wDescSel
  try dsimp only
  try (repeat' split)
  all_goals (first | (simp (maxDischargeDepth := 30) [hs]; done) | (try simp_all (maxDischargeDepth := 30)))
@[simp] theorem State.wDesc_inv (s : State) (fn : Nat) (k : Nat) (val : Nat) (hs : Inv s) :
    Inv (State.wDesc s fn k val) := by
  unfold State.wDesc
  try dsimp only
  try (repeat' split)
  all_goals (first | (simp (maxDischargeDepth := 30) [hs]; done) | (try simp_all (maxDischargeDepth := 30)))
@[simp] theorem State.wDescCmd_inv (s : State) (fn : Nat) (val : Nat) (hs : Inv s) :
    Inv (State.wDescCmd s fn val) := by
  unfold State.wDescCmd
  try dsimp only
  try (repeat' split)
  all_goals (first | (simp (maxDischargeDepth := 30) [hs]; done) | (try simp_all (maxDischargeDepth := 30)))
@[simp] theorem State.writeGlb_inv (s : State) (fn : Nat) (off : Nat) (val : Nat) (hs : Inv s) :
    Inv (State.writeGlb s fn off val) := by
  unfold State.writeGlb
  try dsimp only
  try (repeat' split)
  all_goals (first | (simp (maxDischargeDepth := 30) [hs]; done) | (try simp_all (maxDischargeDepth := 30)))
@[simp] theorem State.writeSync_inv (s : State) (fn : Nat) (off : Nat) (val : Nat) (hs : Inv s) :
    Inv (State.writeSync s fn off val) := by
  unfold State.writeSync
  try dsimp only
  try (repeat' split)
  all_goals (first | (simp (maxDischargeDepth := 30) [hs]; done) | (try simp_all (maxDischargeDepth := 30)))
@[simp] theorem State.writeSec_inv (s : State) (fn : Nat) (off : Nat) (val : Nat) (hs : Inv s) :
    Inv (State.writeSec s fn off val) := by
  unfold State.writeSec
  try dsimp only
  try (repeat' split)
  all_goals (first | (simp (maxDischargeDepth := 30) [hs]; done) | (try simp_all (maxDischargeDepth := 30)))
@[simp] theorem State.writeSite_inv (s : State) (fn : Nat) (st : Nat) (off : Nat) (val : Nat) (hs : Inv s) :
    Inv (State.writeSite s fn st off val) := by
  unfold State.writeSite
  try dsimp only
  try (repeat' split)
  all_goals (first | (simp (maxDischargeDepth := 30) [hs]; done) | (try simp_all (maxDischargeDepth := 30)))
@[simp] theorem State.writeQmgr_inv (s : State) (fn : Nat) (off : Nat) (val : Nat) (hs : Inv s) :
    Inv (State.writeQmgr s fn off val) := by
  unfold State.writeQmgr
  try dsimp only
  try (repeat' split)
  all_goals (first | (simp (maxDischargeDepth := 30) [hs]; done) | (try simp_all (maxDischargeDepth := 30)))
@[simp] theorem State.writeTg_inv (s : State) (fn : Nat) (ch : Nat) (off : Nat) (val : Nat) (hs : Inv s) :
    Inv (State.writeTg s fn ch off val) := by
  unfold State.writeTg
  try dsimp only
  try (repeat' split)
  all_goals (first | (simp (maxDischargeDepth := 30) [hs]; done) | (try simp_all (maxDischargeDepth := 30)))
@[simp] theorem State.writeCmp_inv (s : State) (fn : Nat) (ch : Nat) (off : Nat) (val : Nat) (hs : Inv s) :
    Inv (State.writeCmp s fn ch off val) := by
  unfold State.writeCmp
  try dsimp only
  try (repeat' split)
  all_goals (first | (simp (maxDischargeDepth := 30) [hs]; done) | (try simp_all (maxDischargeDepth := 30)))
@[simp] theorem State.writePe_inv (s : State) (fn : Nat) (ch : Nat) (off : Nat) (val : Nat) (hs : Inv s) :
    Inv (State.writePe s fn ch off val) := by
  unfold State.writePe
  try dsimp only
  try (repeat' split)
  all_goals (first | (simp (maxDischargeDepth := 30) [hs]; done) | (try simp_all (maxDischargeDepth := 30)))
@[simp] theorem State.writeLvl_inv (s : State) (fn : Nat) (ch : Nat) (off : Nat) (val : Nat) (hs : Inv s) :
    Inv (State.writeLvl s fn ch off val) := by
  unfold State.writeLvl
  try dsimp only
  try (repeat' split)
  all_goals (first | (simp (maxDischargeDepth := 30) [hs]; done) | (try simp_all (maxDischargeDepth := 30)))
@[simp] theorem State.writeMadc_inv (s : State) (fn : Nat) (k : Nat) (off : Nat) (val : Nat) (hs : Inv s) :
    Inv (State.writeMadc s fn k off val) := by
  unfold State.writeMadc
  try dsimp only
  try (repeat' split)
  all_goals (first | (simp (maxDischargeDepth := 30) [hs]; done) | (try simp_all (maxDischargeDepth := 30)))
@[simp] theorem State.writeAcq_inv (s : State) (fn : Nat) (k : Nat) (off : Nat) (val : Nat) (hs : Inv s) :
    Inv (State.writeAcq s fn k off val) := by
  unfold State.writeAcq
  try dsimp only
  try (repeat' split)
  all_goals (first | (simp (maxDischargeDepth := 30) [hs]; done) | (try simp_all (maxDischargeDepth := 30)))
@[simp] theorem State.writeHist_inv (s : State) (fn : Nat) (k : Nat) (off : Nat) (val : Nat) (hs : Inv s) :
    Inv (State.writeHist s fn k off val) := by
  unfold State.writeHist
  try dsimp only
  try (repeat' split)
  all_goals (first | (simp (maxDischargeDepth := 30) [hs]; done) | (try simp_all (maxDischargeDepth := 30)))
@[simp] theorem State.writeFcu_inv (s : State) (fn : Nat) (r : Nat) (off : Nat) (val : Nat) (hs : Inv s) :
    Inv (State.writeFcu s fn r off val) := by
  unfold State.writeFcu
  try dsimp only
  try (repeat' split)
  all_goals (first | (simp (maxDischargeDepth := 30) [hs]; done) | (try simp_all (maxDischargeDepth := 30)))
@[simp] theorem State.writeReg_inv (s : State) (fn : Nat) (ty : Nat) (inst : Nat) (off : Nat) (val : Nat)
    (hs : Inv s) :
    Inv (State.writeReg s fn ty inst off val) := by
  unfold State.writeReg
  try dsimp only
  try (repeat' split)
  all_goals (first | (simp (maxDischargeDepth := 30) [hs]; done) | (try simp_all (maxDischargeDepth := 30)))
@[simp] theorem State.regWrite_inv (s : State) (fn : Nat) (ty : Nat) (inst : Nat) (off : Nat) (val : Nat)
    (hs : Inv s) :
    Inv (State.regWrite s fn ty inst off val) := by
  unfold State.regWrite
  try dsimp only
  try (repeat' split)
  all_goals (first | (simp (maxDischargeDepth := 30) [hs]; done) | (try simp_all (maxDischargeDepth := 30)))
@[simp] theorem State.broadcast_inv (s : State) (fn : Nat) (ty : Nat) (inst : Nat) (off : Nat) (val : Nat)
    (hs : Inv s) :
    Inv (State.broadcast s fn ty inst off val) := by
  unfold State.broadcast
  try dsimp only
  try (repeat' split)
  all_goals (first | (simp (maxDischargeDepth := 30) [hs]; done) | (try simp_all (maxDischargeDepth := 30)))
@[simp] theorem State.badWidth_inv (s : State) (fn : Nat) (a : Nat) (write : Bool) (hs : Inv s) :
    Inv (State.badWidth s fn a write) := by
  unfold State.badWidth
  try dsimp only
  try (repeat' split)
  all_goals (first | (simp (maxDischargeDepth := 30) [hs]; done) | (try simp_all (maxDischargeDepth := 30)))
@[simp] theorem State.wordWrite_inv (s : State) (fn : Nat) (a : Nat) (val : Nat) (hs : Inv s) :
    Inv (State.wordWrite s fn a val) := by
  unfold State.wordWrite
  try dsimp only
  try (repeat' split)
  all_goals (first | (simp (maxDischargeDepth := 30) [hs]; done) | (try simp_all (maxDischargeDepth := 30)))
@[simp] theorem State.winWrite_inv (s : State) (fn : Nat) (a : Nat) (be : Nat) (val : Nat) (hs : Inv s) :
    Inv (State.winWrite s fn a be val) := by
  unfold State.winWrite
  try dsimp only
  try (repeat' split)
  all_goals (first | (simp (maxDischargeDepth := 30) [hs]; done) | (try simp_all (maxDischargeDepth := 30)))
@[simp] theorem State.wordRead_inv (s : State) (fn : Nat) (a : Nat) (hs : Inv s) :
    Inv (State.wordRead s fn a) := by
  unfold State.wordRead
  try dsimp only
  try (repeat' split)
  all_goals (first | (simp (maxDischargeDepth := 30) [hs]; done) | (try simp_all (maxDischargeDepth := 30)))
@[simp] theorem State.winRead_inv (s : State) (fn : Nat) (a : Nat) (be : Nat) (hs : Inv s) :
    Inv (State.winRead s fn a be) := by
  unfold State.winRead
  try dsimp only
  try (repeat' split)
  all_goals (first | (simp (maxDischargeDepth := 30) [hs]; done) | (try simp_all (maxDischargeDepth := 30)))

end Sys2Proof.Machine
end

