-- ==== Sys2Proof/Laws/InvBind.lean ====
section
/-! SUPPORT. Operations of BIND keep the invariant, one law each. -/

namespace Sys2Proof.Machine

@[simp] theorem State.setupWrite_inv (s : State) (st : Nat) (ty : Nat) (ch : Nat) (off : Nat) (val : Nat)
    (hs : Inv s) :
    Inv (State.setupWrite s st ty ch off val).1 := by
  unfold State.setupWrite
  split
  · simp [hs]
  · dsimp only
    have h1 : Inv ((s.modHdr ty ch (fun h => { h with errCount := 0 })).writeReg bindFn ty ch off val) := by simp (maxDischargeDepth := 30) +contextual [hs]
    have h2 : Inv (((s.modHdr ty ch (fun h => { h with errCount := 0 })).writeReg bindFn ty ch off val).modHdr ty ch (fun h => { h with
        errCount := satAdd sat16 (s.hdr ty ch).errCount
          (((s.modHdr ty ch (fun h => { h with errCount := 0 })).writeReg bindFn ty ch off val).hdr ty ch).errCount })) :=
      h1.modHdr _ _ _ (h1.owner _ _) (h1.vector _ _) (by simp)
    split
    · exact h2
    · exact h2.modSecSite _ _
@[simp] theorem State.setupAll_inv (s : State) (st : Nat) (m : List Nat) (pins i : Nat) (l : List
    (Nat × Nat × Nat × Nat))
    (hs : Inv s) : Inv (s.setupAll st m pins i l).1 := by
  induction l generalizing s i with
  | nil => exact hs
  | cons p t ih =>
    obtain ⟨ty, pin, off, val⟩ := p
    unfold State.setupAll
    dsimp only
    have h := State.setupWrite_inv s st ty (m.getD pin 0) off val hs
    split
    · exact hs
    · split
      · exact ih _ _ h
      · exact h

@[simp] theorem State.bind_inv (s : State) (d : Doe) (hs : Inv s) :
    Inv (State.bind s d) := by
  unfold State.bind
  try dsimp only
  try (repeat' split)
  all_goals (first | (simp (maxDischargeDepth := 30) [hs]; done) | (try simp_all (maxDischargeDepth := 30)))

end Sys2Proof.Machine
end

