-- ==== Sys2Proof/Laws/InvMailbox.lean ====
section
/-! SUPPORT. Operations of Mailbox keep the invariant, one law each. -/

namespace Sys2Proof.Machine

@[simp] theorem State.doeServe_inv (s : State) (d : Doe) (hs : Inv s) :
    Inv (State.doeServe s d) := by
  unfold State.doeServe
  try dsimp only
  try (repeat' split)
  all_goals (first | (simp (maxDischargeDepth := 30) [hs]; done) | (try simp_all (maxDischargeDepth := 30)))
@[simp] theorem State.loadResume_inv (s : State) (d : Doe) (hs : Inv s) :
    Inv (State.loadResume s d) := by
  unfold State.loadResume
  try dsimp only
  try (repeat' split)
  all_goals (first | (simp (maxDischargeDepth := 30) [hs]; done) | (try simp_all (maxDischargeDepth := 30)))
@[simp] theorem State.doeResume_inv (s : State) (d : Doe) (hs : Inv s) :
    Inv (State.doeResume s d) := by
  unfold State.doeResume
  try dsimp only
  try (repeat' split)
  all_goals (first | (simp (maxDischargeDepth := 30) [hs]; done) | (try simp_all (maxDischargeDepth := 30)))
@[simp] theorem State.doeNext_inv (s : State) (hs : Inv s) :
    Inv (State.doeNext s) := by
  unfold State.doeNext
  try dsimp only
  try (repeat' split)
  all_goals (first | (simp (maxDischargeDepth := 30) [hs]; done) | (try simp_all (maxDischargeDepth := 30)))

end Sys2Proof.Machine
end

