-- ==== Sys2Proof/Laws/InvExec1.lean ====
section
/-! SUPPORT. The commands of the hardware families (levels to power, faults, calibration) keep the invariant, one law each. -/

namespace Sys2Proof.Machine

theorem execDoorbellTail_inv (fn : Nat) (q : Nat) (index : Nat) (s : State) {t : State} (hs : Inv s)
    (h : execDoorbellTail fn q index s = .next t) : Inv t := by
  unfold execDoorbellTail at h
  refine Inv.of_onUnit h ?_
  try dsimp only
  try (repeat' split)
  all_goals (first | (simp (maxDischargeDepth := 30) [hs]; done) | (try simp_all (maxDischargeDepth := 30)))
theorem execDoorbellHead_inv (fn : Nat) (q : Nat) (index : Nat) (s : State) {t : State} (hs : Inv s)
    (h : execDoorbellHead fn q index s = .next t) : Inv t := by
  unfold execDoorbellHead at h
  refine Inv.of_onUnit h ?_
  try dsimp only
  try (repeat' split)
  all_goals (first | (simp (maxDischargeDepth := 30) [hs]; done) | (try simp_all (maxDischargeDepth := 30)))
theorem execDoorbellRelease_inv (fn : Nat) (db : Nat) (s : State) {t : State} (hs : Inv s)
    (h : execDoorbellRelease fn db s = .next t) : Inv t := by
  unfold execDoorbellRelease at h
  refine Inv.of_onUnit h ?_
  try dsimp only
  try (repeat' split)
  all_goals (first | (simp (maxDischargeDepth := 30) [hs]; done) | (try simp_all (maxDischargeDepth := 30)))
theorem execPushSelWrite_inv (fn : Nat) (a : BarAccess) (s : State) {t : State} (hs : Inv s)
    (h : execPushSelWrite fn a s = .next t) : Inv t := by
  unfold execPushSelWrite at h
  refine Inv.of_onUnit h ?_
  try dsimp only
  try (repeat' split)
  all_goals (first | (simp (maxDischargeDepth := 30) [hs]; done) | (try simp_all (maxDischargeDepth := 30)))
theorem execPushWrite_inv (fn : Nat) (off : Nat) (data : List Byte) (s : State) {t : State} (hs : Inv s)
    (h : execPushWrite fn off data s = .next t) : Inv t := by
  unfold execPushWrite at h
  refine Inv.of_onUnit h ?_
  try dsimp only
  try (repeat' split)
  all_goals (first | (simp (maxDischargeDepth := 30) [hs]; done) | (try simp_all (maxDischargeDepth := 30)))
theorem execDescRead_inv (fn : Nat) (s : State) {t : State} (hs : Inv s)
    (h : execDescRead fn s = .next t) : Inv t := by
  unfold execDescRead at h
  refine Inv.of_onUnit h ?_
  try dsimp only
  try (repeat' split)
  all_goals (first | (simp (maxDischargeDepth := 30) [hs]; done) | (try simp_all (maxDischargeDepth := 30)))
theorem execDescWrite_inv (fn : Nat) (s : State) {t : State} (hs : Inv s)
    (h : execDescWrite fn s = .next t) : Inv t := by
  unfold execDescWrite at h
  refine Inv.of_onUnit h ?_
  try dsimp only
  try (repeat' split)
  all_goals (first | (simp (maxDischargeDepth := 30) [hs]; done) | (try simp_all (maxDischargeDepth := 30)))
theorem execHeldCompletionPost_inv (fn : Nat) (s : State) {t : State} (hs : Inv s)
    (h : execHeldCompletionPost fn s = .next t) : Inv t := by
  unfold execHeldCompletionPost at h
  refine Inv.of_onUnit h ?_
  try dsimp only
  try (repeat' split)
  all_goals (first | (simp (maxDischargeDepth := 30) [hs]; done) | (try simp_all (maxDischargeDepth := 30)))
theorem execLogLostEntry_inv (st : Nat) (s : State) {t : State} (hs : Inv s)
    (h : execLogLostEntry st s = .next t) : Inv t := by
  unfold execLogLostEntry at h
  refine Inv.of_onUnit h ?_
  try dsimp only
  try (repeat' split)
  all_goals (first | (simp (maxDischargeDepth := 30) [hs]; done) | (try simp_all (maxDischargeDepth := 30)))
theorem execPeCtrlWrite_inv (fn : Nat) (ch : Nat) (val : Nat) (s : State) {t : State} (hs : Inv s)
    (h : execPeCtrlWrite fn ch val s = .next t) : Inv t := by
  unfold execPeCtrlWrite at h
  refine Inv.of_onUnit h ?_
  try dsimp only
  try (repeat' split)
  all_goals (first | (simp (maxDischargeDepth := 30) [hs]; done) | (try simp_all (maxDischargeDepth := 30)))
theorem execDriverRangeDone_inv (ch : Nat) (s : State) {t : State} (hs : Inv s)
    (h : execDriverRangeDone ch s = .next t) : Inv t := by
  unfold execDriverRangeDone at h
  refine Inv.of_onUnit h ?_
  try dsimp only
  try (repeat' split)
  all_goals (first | (simp (maxDischargeDepth := 30) [hs]; done) | (try simp_all (maxDischargeDepth := 30)))
theorem execPePmuCtrlWrite_inv (fn : Nat) (ch : Nat) (val : Nat) (s : State) {t : State} (hs : Inv s)
    (h : execPePmuCtrlWrite fn ch val s = .next t) : Inv t := by
  unfold execPePmuCtrlWrite at h
  refine Inv.of_onUnit h ?_
  try dsimp only
  try (repeat' split)
  all_goals (first | (simp (maxDischargeDepth := 30) [hs]; done) | (try simp_all (maxDischargeDepth := 30)))
theorem execPePmuRangeWrite_inv (fn : Nat) (ch : Nat) (val : Nat) (s : State) {t : State} (hs : Inv s)
    (h : execPePmuRangeWrite fn ch val s = .next t) : Inv t := by
  unfold execPePmuRangeWrite at h
  refine Inv.of_onUnit h ?_
  try dsimp only
  try (repeat' split)
  all_goals (first | (simp (maxDischargeDepth := 30) [hs]; done) | (try simp_all (maxDischargeDepth := 30)))
theorem execPmuOldStageOpen_inv (ch : Nat) (s : State) {t : State} (hs : Inv s)
    (h : execPmuOldStageOpen ch s = .next t) : Inv t := by
  unfold execPmuOldStageOpen at h
  refine Inv.of_onUnit h ?_
  try dsimp only
  try (repeat' split)
  all_goals (first | (simp (maxDischargeDepth := 30) [hs]; done) | (try simp_all (maxDischargeDepth := 30)))
theorem execPmuRangeDone_inv (ch : Nat) (s : State) {t : State} (hs : Inv s)
    (h : execPmuRangeDone ch s = .next t) : Inv t := by
  unfold execPmuRangeDone at h
  refine Inv.of_onUnit h ?_
  try dsimp only
  try (repeat' split)
  all_goals (first | (simp (maxDischargeDepth := 30) [hs]; done) | (try simp_all (maxDischargeDepth := 30)))
theorem execPmuSenseFallback_inv (ch : Nat) (s : State) {t : State} (hs : Inv s)
    (h : execPmuSenseFallback ch s = .next t) : Inv t := by
  unfold execPmuSenseFallback at h
  refine Inv.of_onUnit h ?_
  try dsimp only
  try (repeat' split)
  all_goals (first | (simp (maxDischargeDepth := 30) [hs]; done) | (try simp_all (maxDischargeDepth := 30)))
theorem execPmuCompliance_inv (ch : Nat) (x : Int) (s : State) {t : State} (hs : Inv s)
    (h : execPmuCompliance ch x s = .next t) : Inv t := by
  unfold execPmuCompliance at h
  refine Inv.of_onUnit h ?_
  try dsimp only
  try (repeat' split)
  all_goals (first | (simp (maxDischargeDepth := 30) [hs]; done) | (try simp_all (maxDischargeDepth := 30)))
theorem execClampConduct_inv (ch : Nat) (high : Bool) (on : Bool) (s : State) {t : State} (hs : Inv s)
    (h : execClampConduct ch high on s = .next t) : Inv t := by
  unfold execClampConduct at h
  refine Inv.of_onUnit h ?_
  try dsimp only
  try (repeat' split)
  all_goals (first | (simp (maxDischargeDepth := 30) [hs]; done) | (try simp_all (maxDischargeDepth := 30)))
theorem execProtClampConduct_inv (ch : Nat) (high : Bool) (s : State) {t : State} (hs : Inv s)
    (h : execProtClampConduct ch high s = .next t) : Inv t := by
  unfold execProtClampConduct at h
  refine Inv.of_onUnit h ?_
  try dsimp only
  try (repeat' split)
  all_goals (first | (simp (maxDischargeDepth := 30) [hs]; done) | (try simp_all (maxDischargeDepth := 30)))
theorem execContactTestStart_inv (fn : Nat) (ch : Nat) (pol : Nat) (cur : Nat) (s : State) {t : State}
    (hs : Inv s) (h : execContactTestStart fn ch pol cur s = .next t) : Inv t := by
  unfold execContactTestStart at h
  refine Inv.of_onUnit h ?_
  try dsimp only
  try (repeat' split)
  all_goals (first | (simp (maxDischargeDepth := 30) [hs]; done) | (try simp_all (maxDischargeDepth := 30)))
theorem execContactTestDone_inv (ch : Nat) (mv : Int) (s : State) {t : State} (hs : Inv s)
    (h : execContactTestDone ch mv s = .next t) : Inv t := by
  unfold execContactTestDone at h
  refine Inv.of_onUnit h ?_
  try dsimp only
  try (repeat' split)
  all_goals (first | (simp (maxDischargeDepth := 30) [hs]; done) | (try simp_all (maxDischargeDepth := 30)))
theorem execLvlDacWrite_inv (fn : Nat) (ch : Nat) (d : Nat) (val : Nat) (s : State) {t : State} (hs : Inv s)
    (h : execLvlDacWrite fn ch d val s = .next t) : Inv t := by
  unfold execLvlDacWrite at h
  refine Inv.of_onUnit h ?_
  try dsimp only
  try (repeat' split)
  all_goals (first | (simp (maxDischargeDepth := 30) [hs]; done) | (try simp_all (maxDischargeDepth := 30)))
theorem execLvlQueuePush_inv (fn : Nat) (ch : Nat) (val : Nat) (s : State) {t : State} (hs : Inv s)
    (h : execLvlQueuePush fn ch val s = .next t) : Inv t := by
  unfold execLvlQueuePush at h
  refine Inv.of_onUnit h ?_
  try dsimp only
  try (repeat' split)
  all_goals (first | (simp (maxDischargeDepth := 30) [hs]; done) | (try simp_all (maxDischargeDepth := 30)))
theorem execLvlQueueFlush_inv (fn : Nat) (ch : Nat) (s : State) {t : State} (hs : Inv s)
    (h : execLvlQueueFlush fn ch s = .next t) : Inv t := by
  unfold execLvlQueueFlush at h
  refine Inv.of_onUnit h ?_
  try dsimp only
  try (repeat' split)
  all_goals (first | (simp (maxDischargeDepth := 30) [hs]; done) | (try simp_all (maxDischargeDepth := 30)))
theorem execLvlEntryArrive_inv (ch : Nat) (s : State) {t : State} (hs : Inv s)
    (h : execLvlEntryArrive ch s = .next t) : Inv t := by
  unfold execLvlEntryArrive at h
  refine Inv.of_onUnit h ?_
  try dsimp only
  try (repeat' split)
  all_goals (first | (simp (maxDischargeDepth := 30) [hs]; done) | (try simp_all (maxDischargeDepth := 30)))
theorem execTgPeriodCommit_inv (fn : Nat) (ch : Nat) (val : Nat) (s : State) {t : State} (hs : Inv s)
    (h : execTgPeriodCommit fn ch val s = .next t) : Inv t := by
  unfold execTgPeriodCommit at h
  refine Inv.of_onUnit h ?_
  try dsimp only
  try (repeat' split)
  all_goals (first | (simp (maxDischargeDepth := 30) [hs]; done) | (try simp_all (maxDischargeDepth := 30)))
theorem execTgSymmapCommit_inv (fn : Nat) (ch : Nat) (val : Nat) (s : State) {t : State} (hs : Inv s)
    (h : execTgSymmapCommit fn ch val s = .next t) : Inv t := by
  unfold execTgSymmapCommit at h
  refine Inv.of_onUnit h ?_
  try dsimp only
  try (repeat' split)
  all_goals (first | (simp (maxDischargeDepth := 30) [hs]; done) | (try simp_all (maxDischargeDepth := 30)))
theorem execTimesetWrite_inv (fn ch k edge val : Nat) (s : State) {t : State}
    (hs : Inv s) (h : execTimesetWrite fn ch k edge val s = .next t) : Inv t := by
  unfold execTimesetWrite at h
  unfold onUnit at h
  split at h
  · split at h
    · simp at h; subst h; simp_all
    · simp at h; subst h; simp_all
  · cases h
theorem execFreerunStart_inv (fn : Nat) (ch : Nat) (ts : Nat) (sym : Nat) (s : State) {t : State} (hs : Inv s)
    (h : execFreerunStart fn ch ts sym s = .next t) : Inv t := by
  unfold execFreerunStart at h
  refine Inv.of_onUnit h ?_
  try dsimp only
  try (repeat' split)
  all_goals (first | (simp (maxDischargeDepth := 30) [hs]; done) | (try simp_all (maxDischargeDepth := 30)))
theorem execFreerunStop_inv (fn : Nat) (ch : Nat) (ts : Nat) (sym : Nat) (s : State) {t : State} (hs : Inv s)
    (h : execFreerunStop fn ch ts sym s = .next t) : Inv t := by
  unfold execFreerunStop at h
  refine Inv.of_onUnit h ?_
  try dsimp only
  try (repeat' split)
  all_goals (first | (simp (maxDischargeDepth := 30) [hs]; done) | (try simp_all (maxDischargeDepth := 30)))
theorem execUiStart_inv (ch : Nat) (s : State) {t : State} (hs : Inv s) (h : execUiStart ch s = .next t) : Inv t := by
  unfold execUiStart at h
  refine Inv.of_onUnit h ?_
  try dsimp only
  try (repeat' split)
  all_goals (first | (simp (maxDischargeDepth := 30) [hs]; done) | (try simp_all (maxDischargeDepth := 30)))
theorem execEdgeApply_inv (ch : Nat) (s : State) {t : State} (hs : Inv s)
    (h : execEdgeApply ch s = .next t) : Inv t := by
  unfold execEdgeApply at h
  refine Inv.of_onUnit h ?_
  try dsimp only
  try (repeat' split)
  all_goals (first | (simp (maxDischargeDepth := 30) [hs]; done) | (try simp_all (maxDischargeDepth := 30)))
theorem execBlockArrive_inv (ch : Nat) (s : State) {t : State} (hs : Inv s)
    (h : execBlockArrive ch s = .next t) : Inv t := by
  unfold execBlockArrive at h
  refine Inv.of_onUnit h ?_
  clear h
  split
  · exact hs
  · exact State.takeBlock_inv _ _ _ (Inv.when (by simp [hs]) _ _
      (fun t ht => Inv.when ht _ _ (fun u hu => State.histFeed_inv _ _ _ _ hu)))
theorem execBlockRelease_inv (ch : Nat) (s : State) {t : State} (hs : Inv s)
    (h : execBlockRelease ch s = .next t) : Inv t := by
  unfold execBlockRelease at h
  refine Inv.of_onUnit h ?_
  try dsimp only
  try (repeat' split)
  all_goals (first | (simp (maxDischargeDepth := 30) [hs]; done) | (try simp_all (maxDischargeDepth := 30)))
theorem execCompareEvent_inv (ch : Nat) (s : State) {t : State} (hs : Inv s)
    (h : execCompareEvent ch s = .next t) : Inv t := by
  unfold execCompareEvent at h
  refine Inv.of_onUnit h ?_
  try dsimp only
  try (repeat' split)
  all_goals (first | (simp (maxDischargeDepth := 30) [hs]; done) | (try simp_all (maxDischargeDepth := 30)))
theorem execFcuPSizeWrite_inv (fn : Nat) (r : Nat) (st : Nat) (val : Nat) (s : State) {t : State} (hs : Inv s)
    (h : execFcuPSizeWrite fn r st val s = .next t) : Inv t := by
  unfold execFcuPSizeWrite at h
  refine Inv.of_onUnit h ?_
  try dsimp only
  try (repeat' split)
  all_goals (first | (simp (maxDischargeDepth := 30) [hs]; done) | (try simp_all (maxDischargeDepth := 30)))
theorem execFcuPCtrlWrite_inv (fn : Nat) (r : Nat) (st : Nat) (val : Nat) (s : State) {t : State} (hs : Inv s)
    (h : execFcuPCtrlWrite fn r st val s = .next t) : Inv t := by
  unfold execFcuPCtrlWrite at h
  refine Inv.of_onUnit h ?_
  try dsimp only
  try (repeat' split)
  all_goals (first | (simp (maxDischargeDepth := 30) [hs]; done) | (try simp_all (maxDischargeDepth := 30)))
theorem execBurstRunEntry_inv (st : Nat) (s : State) {t : State} (hs : Inv s)
    (h : execBurstRunEntry st s = .next t) : Inv t := by
  unfold execBurstRunEntry at h
  refine Inv.of_onUnit h ?_
  try dsimp only
  try (repeat' split)
  all_goals (first | (simp (maxDischargeDepth := 30) [hs]; done) | (try simp_all (maxDischargeDepth := 30)))
theorem execBurstDrainEntry_inv (st : Nat) (s : State) {t : State} (hs : Inv s)
    (h : execBurstDrainEntry st s = .next t) : Inv t := by
  unfold execBurstDrainEntry at h
  refine Inv.of_onUnit h ?_
  try dsimp only
  try (repeat' split)
  all_goals (first | (simp (maxDischargeDepth := 30) [hs]; done) | (try simp_all (maxDischargeDepth := 30)))
theorem execStopDrainEntry_inv (st : Nat) (s : State) {t : State} (hs : Inv s)
    (h : execStopDrainEntry st s = .next t) : Inv t := by
  unfold execStopDrainEntry at h
  refine Inv.of_onUnit h ?_
  try dsimp only
  try (repeat' split)
  all_goals (first | (simp (maxDischargeDepth := 30) [hs]; done) | (try simp_all (maxDischargeDepth := 30)))
theorem execBurstIdleEntry_inv (st : Nat) (s : State) {t : State} (hs : Inv s)
    (h : execBurstIdleEntry st s = .next t) : Inv t := by
  unfold execBurstIdleEntry at h
  refine Inv.of_onUnit h ?_
  try dsimp only
  try (repeat' split)
  all_goals (first | (simp (maxDischargeDepth := 30) [hs]; done) | (try simp_all (maxDischargeDepth := 30)))
theorem execFcuRecordClose_inv (r : Nat) (segId : Nat) (seq : Nat) (s : State) {t : State} (hs : Inv s)
    (h : execFcuRecordClose r segId seq s = .next t) : Inv t := by
  unfold execFcuRecordClose at h
  refine Inv.of_onUnit h ?_
  try dsimp only
  try (repeat' split)
  all_goals (first | (simp (maxDischargeDepth := 30) [hs]; done) | (try simp_all (maxDischargeDepth := 30)))
theorem execFcuRecordMove_inv (r st : Nat) (s : State) {t : State} (hs : Inv s)
    (h : execFcuRecordMove r st s = .next t) : Inv t := by
  unfold execFcuRecordMove at h
  refine Inv.of_onUnit h (State.moveRecord_inv _ _ _ _ hs (fun u q rec hu => ?_))
  split <;> simp_all
theorem execMadcStart_inv (fn : Nat) (k : Nat) (s : State) {t : State} (hs : Inv s)
    (h : execMadcStart fn k s = .next t) : Inv t := by
  unfold execMadcStart at h
  refine Inv.of_onUnit h ?_
  try dsimp only
  try (repeat' split)
  all_goals (first | (simp (maxDischargeDepth := 30) [hs]; done) | (try simp_all (maxDischargeDepth := 30)))
theorem execMadcRunStart_inv (fn : Nat) (k : Nat) (spare : Nat) (mon : Nat) (s : State) {t : State} (hs : Inv s)
    (h : execMadcRunStart fn k spare mon s = .next t) : Inv t := by
  unfold execMadcRunStart at h
  refine Inv.of_onUnit h ?_
  try dsimp only
  try (repeat' split)
  all_goals (first | (simp (maxDischargeDepth := 30) [hs]; done) | (try simp_all (maxDischargeDepth := 30)))
theorem execMadcRunStop_inv (fn : Nat) (k : Nat) (spare : Nat) (mon : Nat) (s : State) {t : State} (hs : Inv s)
    (h : execMadcRunStop fn k spare mon s = .next t) : Inv t := by
  unfold execMadcRunStop at h
  refine Inv.of_onUnit h ?_
  try dsimp only
  try (repeat' split)
  all_goals (first | (simp (maxDischargeDepth := 30) [hs]; done) | (try simp_all (maxDischargeDepth := 30)))
theorem execMadcPeriodicTrigger_inv (k : Nat) (s : State) {t : State} (hs : Inv s)
    (h : execMadcPeriodicTrigger k s = .next t) : Inv t := by
  unfold execMadcPeriodicTrigger at h
  refine Inv.of_onUnit h ?_
  try dsimp only
  try (repeat' split)
  all_goals (first | (simp (maxDischargeDepth := 30) [hs]; done) | (try simp_all (maxDischargeDepth := 30)))
theorem execMadcRecordMove_inv (k : Nat) (s : State) {t : State} (hs : Inv s)
    (h : execMadcRecordMove k s = .next t) : Inv t := by
  unfold execMadcRecordMove at h
  refine Inv.of_onUnit h ?_
  try dsimp only
  try (repeat' split)
  all_goals (first | (simp (maxDischargeDepth := 30) [hs]; done) | (try simp_all (maxDischargeDepth := 30)))
theorem execAcqRecordArrive_inv (k : Nat) (s : State) {t : State} (hs : Inv s)
    (h : execAcqRecordArrive k s = .next t) : Inv t := by
  unfold execAcqRecordArrive at h
  refine Inv.of_onUnit h ?_
  try dsimp only
  try (repeat' split)
  all_goals (first | (simp (maxDischargeDepth := 30) [hs]; done) | (try simp_all (maxDischargeDepth := 30)))
theorem execAcqTriggerDeclare_inv (k : Nat) (s : State) {t : State} (hs : Inv s)
    (h : execAcqTriggerDeclare k s = .next t) : Inv t := by
  unfold execAcqTriggerDeclare at h
  refine Inv.of_onUnit h ?_
  try dsimp only
  try (repeat' split)
  all_goals (first | (simp (maxDischargeDepth := 30) [hs]; done) | (try simp_all (maxDischargeDepth := 30)))
theorem execAcqArm_inv (fn : Nat) (k : Nat) (s : State) {t : State} (hs : Inv s)
    (h : execAcqArm fn k s = .next t) : Inv t := by
  unfold execAcqArm at h
  refine Inv.of_onUnit h ?_
  try dsimp only
  try (repeat' split)
  all_goals (first | (simp (maxDischargeDepth := 30) [hs]; done) | (try simp_all (maxDischargeDepth := 30)))
theorem execAcqDisarm_inv (fn : Nat) (k : Nat) (s : State) {t : State} (hs : Inv s)
    (h : execAcqDisarm fn k s = .next t) : Inv t := by
  unfold execAcqDisarm at h
  refine Inv.of_onUnit h ?_
  try dsimp only
  try (repeat' split)
  all_goals (first | (simp (maxDischargeDepth := 30) [hs]; done) | (try simp_all (maxDischargeDepth := 30)))
theorem execAcqForce_inv (fn : Nat) (k : Nat) (s : State) {t : State} (hs : Inv s)
    (h : execAcqForce fn k s = .next t) : Inv t := by
  unfold execAcqForce at h
  refine Inv.of_onUnit h ?_
  try dsimp only
  try (repeat' split)
  all_goals (first | (simp (maxDischargeDepth := 30) [hs]; done) | (try simp_all (maxDischargeDepth := 30)))
theorem execAcqLive_inv (k : Nat) (s : State) {t : State} (hs : Inv s) (h : execAcqLive k s = .next t) : Inv t := by
  unfold execAcqLive at h
  refine Inv.of_onUnit h ?_
  try dsimp only
  try (repeat' split)
  all_goals (first | (simp (maxDischargeDepth := 30) [hs]; done) | (try simp_all (maxDischargeDepth := 30)))
theorem execAcqRunStart_inv (fn : Nat) (k : Nat) (s : State) {t : State} (hs : Inv s)
    (h : execAcqRunStart fn k s = .next t) : Inv t := by
  unfold execAcqRunStart at h
  refine Inv.of_onUnit h ?_
  try dsimp only
  try (repeat' split)
  all_goals (first | (simp (maxDischargeDepth := 30) [hs]; done) | (try simp_all (maxDischargeDepth := 30)))
theorem execAcqRunStop_inv (fn : Nat) (k : Nat) (s : State) {t : State} (hs : Inv s)
    (h : execAcqRunStop fn k s = .next t) : Inv t := by
  unfold execAcqRunStop at h
  refine Inv.of_onUnit h ?_
  try dsimp only
  try (repeat' split)
  all_goals (first | (simp (maxDischargeDepth := 30) [hs]; done) | (try simp_all (maxDischargeDepth := 30)))
theorem execAcqRingMove_inv (k : Nat) (s : State) {t : State} (hs : Inv s)
    (h : execAcqRingMove k s = .next t) : Inv t := by
  unfold execAcqRingMove at h
  refine Inv.of_onUnit h ?_
  try dsimp only
  try (repeat' split)
  all_goals (first | (simp (maxDischargeDepth := 30) [hs]; done) | (try simp_all (maxDischargeDepth := 30)))
theorem execAcqCaptureDone_inv (k : Nat) (s : State) {t : State} (hs : Inv s)
    (h : execAcqCaptureDone k s = .next t) : Inv t := by
  unfold execAcqCaptureDone at h
  refine Inv.of_onUnit h ?_
  try dsimp only
  try (repeat' split)
  all_goals (first | (simp (maxDischargeDepth := 30) [hs]; done) | (try simp_all (maxDischargeDepth := 30)))
theorem execAcqStreamStopped_inv (k : Nat) (s : State) {t : State} (hs : Inv s)
    (h : execAcqStreamStopped k s = .next t) : Inv t := by
  unfold execAcqStreamStopped at h
  refine Inv.of_onUnit h ?_
  try dsimp only
  try (repeat' split)
  all_goals (first | (simp (maxDischargeDepth := 30) [hs]; done) | (try simp_all (maxDischargeDepth := 30)))
theorem execAcqBurstFlush_inv (st : Nat) (s : State) {t : State} (hs : Inv s)
    (h : execAcqBurstFlush st s = .next t) : Inv t := by
  unfold execAcqBurstFlush at h
  refine Inv.of_onUnit h ?_
  try dsimp only
  try (repeat' split)
  all_goals (first | (simp (maxDischargeDepth := 30) [hs]; done) | (try simp_all (maxDischargeDepth := 30)))
theorem execHizSequenceDone_inv (ch : Nat) (s : State) {t : State} (hs : Inv s)
    (h : execHizSequenceDone ch s = .next t) : Inv t := by
  unfold execHizSequenceDone at h
  refine Inv.of_onUnit h ?_
  try dsimp only
  try (repeat' split)
  all_goals (first | (simp (maxDischargeDepth := 30) [hs]; done) | (try simp_all (maxDischargeDepth := 30)))
theorem execAnalogLinkWatchdog_inv (die : Nat) (s : State) {t : State} (hs : Inv s)
    (h : execAnalogLinkWatchdog die s = .next t) : Inv t := by
  unfold execAnalogLinkWatchdog at h
  refine Inv.of_onUnit h ?_
  try dsimp only
  try (repeat' split)
  all_goals (first | (simp (maxDischargeDepth := 30) [hs]; done) | (try simp_all (maxDischargeDepth := 30)))
theorem execModeReqSafe_inv (fn : Nat) (force : Bool) (s : State) {t : State} (hs : Inv s)
    (h : execModeReqSafe fn force s = .next t) : Inv t := by
  unfold execModeReqSafe at h
  refine Inv.of_onUnit h ?_
  try dsimp only
  try (repeat' split)
  all_goals (first | (simp (maxDischargeDepth := 30) [hs]; done) | (try simp_all (maxDischargeDepth := 30)))
theorem execModeReqReady_inv (fn : Nat) (force : Bool) (s : State) {t : State} (hs : Inv s)
    (h : execModeReqReady fn force s = .next t) : Inv t := by
  unfold execModeReqReady at h
  refine Inv.of_onUnit h ?_
  try dsimp only
  try (repeat' split)
  all_goals (first | (simp (maxDischargeDepth := 30) [hs]; done) | (try simp_all (maxDischargeDepth := 30)))
theorem execModeReqCal_inv (fn : Nat) (s : State) {t : State} (hs : Inv s)
    (h : execModeReqCal fn s = .next t) : Inv t := by
  unfold execModeReqCal at h
  refine Inv.of_onUnit h ?_
  try dsimp only
  try (repeat' split)
  all_goals (first | (simp (maxDischargeDepth := 30) [hs]; done) | (try simp_all (maxDischargeDepth := 30)))
theorem execModeReqRun_inv (fn : Nat) (s : State) {t : State} (hs : Inv s)
    (h : execModeReqRun fn s = .next t) : Inv t := by
  unfold execModeReqRun at h
  refine Inv.of_onUnit h ?_
  try dsimp only
  try (repeat' split)
  all_goals (first | (simp (maxDischargeDepth := 30) [hs]; done) | (try simp_all (maxDischargeDepth := 30)))
theorem execModeReqService_inv (fn : Nat) (s : State) {t : State} (hs : Inv s)
    (h : execModeReqService fn s = .next t) : Inv t := by
  unfold execModeReqService at h
  refine Inv.of_onUnit h ?_
  try dsimp only
  try (repeat' split)
  all_goals (first | (simp (maxDischargeDepth := 30) [hs]; done) | (try simp_all (maxDischargeDepth := 30)))
theorem execModeReqIllegal_inv (fn : Nat) (val : Nat) (s : State) {t : State} (hs : Inv s)
    (h : execModeReqIllegal fn val s = .next t) : Inv t := by
  unfold execModeReqIllegal at h
  refine Inv.of_onUnit h ?_
  try dsimp only
  try (repeat' split)
  all_goals (first | (simp (maxDischargeDepth := 30) [hs]; done) | (try simp_all (maxDischargeDepth := 30)))
theorem execModeTransitionDone_inv (s : State) {t : State} (hs : Inv s)
    (h : execModeTransitionDone s = .next t) : Inv t := by
  unfold execModeTransitionDone at h
  refine Inv.of_next h ?_
  clear h
  try dsimp only
  try (repeat' split)
  all_goals (first | (simp (maxDischargeDepth := 30) [hs]; done) | (try simp_all (maxDischargeDepth := 30)))
theorem execBootReady_inv (s : State) {t : State} (hs : Inv s) (h : execBootReady s = .next t) : Inv t := by
  unfold execBootReady at h
  refine Inv.of_next h ?_
  clear h
  try dsimp only
  try (repeat' split)
  all_goals (first | (simp (maxDischargeDepth := 30) [hs]; done) | (try simp_all (maxDischargeDepth := 30)))
theorem execWarmupSample_inv (s : State) {t : State} (hs : Inv s) (h : execWarmupSample s = .next t) : Inv t := by
  unfold execWarmupSample at h
  refine Inv.of_next h ?_
  clear h
  try dsimp only
  try (repeat' split)
  all_goals (first | (simp (maxDischargeDepth := 30) [hs]; done) | (try simp_all (maxDischargeDepth := 30)))
theorem execWarmupTimeout_inv (s : State) {t : State} (hs : Inv s) (h : execWarmupTimeout s = .next t) : Inv t := by
  unfold execWarmupTimeout at h
  refine Inv.of_next h ?_
  clear h
  try dsimp only
  try (repeat' split)
  all_goals (first | (simp (maxDischargeDepth := 30) [hs]; done) | (try simp_all (maxDischargeDepth := 30)))
theorem execPerstAssert_inv (s : State) {t : State} (hs : Inv s) (h : execPerstAssert s = .next t) : Inv t := by
  unfold execPerstAssert at h
  refine Inv.of_next h ?_
  clear h
  dsimp only
  have h0 : Inv { s with link0 := false, link1 := false } := hs.of_eq rfl rfl rfl rfl rfl
  have h1 := h0.modSec (fun x => { x with sessions := [], finished := [] })
  split
  · exact State.endpointReset_inv _ _ (State.endpointReset_inv _ _ h1)
  · exact State.endpointReset_inv _ _ h1
theorem execPcieLinkDown_inv (e : Nat) (s : State) {t : State} (hs : Inv s)
    (h : execPcieLinkDown e s = .next t) : Inv t := by
  unfold execPcieLinkDown at h
  refine Inv.of_onUnit h (State.endpointReset_inv _ _ ?_)
  split <;> exact hs.of_eq rfl rfl rfl rfl rfl
theorem execPcieLinkUp_inv (e : Nat) (s : State) {t : State} (hs : Inv s)
    (h : execPcieLinkUp e s = .next t) : Inv t := by
  unfold execPcieLinkUp at h
  refine Inv.of_onUnit h ?_
  (repeat' split) <;> exact hs.of_eq rfl rfl rfl rfl rfl
theorem execFunctionReset_inv (fn : Nat) (how : Nat) (s : State) {t : State} (hs : Inv s)
    (h : execFunctionReset fn how s = .next t) : Inv t := by
  unfold execFunctionReset at h
  refine Inv.of_onUnit h ?_
  try dsimp only
  try (repeat' split)
  all_goals (first | (simp (maxDischargeDepth := 30) [hs]; done) | (try simp_all (maxDischargeDepth := 30)))
theorem execFunctionResetDone_inv (fn : Nat) (s : State) {t : State} (hs : Inv s)
    (h : execFunctionResetDone fn s = .next t) : Inv t := by
  unfold execFunctionResetDone at h
  refine Inv.of_onUnit h ?_
  try dsimp only
  try (repeat' split)
  all_goals (first | (simp (maxDischargeDepth := 30) [hs]; done) | (try simp_all (maxDischargeDepth := 30)))
theorem execVfEnableSet_inv (pf : Nat) (num : Nat) (s : State) {t : State} (hs : Inv s)
    (h : execVfEnableSet pf num s = .next t) : Inv t := by
  unfold execVfEnableSet at h
  refine Inv.of_onUnit h ?_
  try dsimp only
  try (repeat' split)
  all_goals (first | (simp (maxDischargeDepth := 30) [hs]; done) | (try simp_all (maxDischargeDepth := 30)))
theorem execMsixVectorUnmask_inv (fn : Nat) (a : MsixAccess) (s : State) {t : State} (hs : Inv s)
    (h : execMsixVectorUnmask fn a s = .next t) : Inv t := by
  unfold execMsixVectorUnmask at h
  refine Inv.of_onUnit h ?_
  try dsimp only
  try (repeat' split)
  all_goals (first | (simp (maxDischargeDepth := 30) [hs]; done) | (try simp_all (maxDischargeDepth := 30)))
theorem execPowerUpStart_inv (vin : Nat) (s : State) {t : State} (hs : Inv s)
    (h : execPowerUpStart vin s = .next t) : Inv t := by
  unfold execPowerUpStart at h
  refine Inv.of_next h ?_
  clear h
  try dsimp only
  split <;> exact hs.of_eq rfl rfl rfl rfl rfl
theorem execPwrGood_inv (bifur : Bool) (smbAddr : Nat) (s : State) {t : State} (hs : Inv s)
    (h : execPwrGood bifur smbAddr s = .next t) : Inv t := by
  unfold execPwrGood at h
  refine Inv.of_next h ?_
  clear h
  try dsimp only
  try (repeat' split)
  all_goals (first | (simp (maxDischargeDepth := 30) [hs]; done) | (try simp_all (maxDischargeDepth := 30)))
theorem execPllLock_inv (s : State) {t : State} (hs : Inv s) (h : execPllLock s = .next t) : Inv t := by
  unfold execPllLock at h
  refine Inv.of_next h ?_
  clear h
  try dsimp only
  try (repeat' split)
  all_goals (first | (simp (maxDischargeDepth := 30) [hs]; done) | (try simp_all (maxDischargeDepth := 30)))
theorem execPllLockTimeout_inv (s : State) {t : State} (hs : Inv s) (h : execPllLockTimeout s = .next t) : Inv t := by
  unfold execPllLockTimeout at h
  refine Inv.of_next h ?_
  clear h
  try dsimp only
  try (repeat' split)
  all_goals (first | (simp (maxDischargeDepth := 30) [hs]; done) | (try simp_all (maxDischargeDepth := 30)))
theorem execBmemClearDone_inv (ok : Bool) (s : State) {t : State} (hs : Inv s)
    (h : execBmemClearDone ok s = .next t) : Inv t := by
  unfold execBmemClearDone at h
  refine Inv.of_next h ?_
  clear h
  try dsimp only
  try (repeat' split)
  all_goals (first | (simp (maxDischargeDepth := 30) [hs]; done) | (try simp_all (maxDischargeDepth := 30)))
theorem execFwVerifyDone_inv (sigA sigB : FwVerdict) (s : State) {t : State} (hs : Inv s)
    (h : execFwVerifyDone sigA sigB s = .next t) : Inv t := by
  unfold execFwVerifyDone at h
  refine Inv.of_next h ?_
  clear h
  try dsimp only
  try (repeat' split)
  all_goals (first | (simp (maxDischargeDepth := 30) [hs]; done) | (try simp_all (maxDischargeDepth := 30)))
theorem execPowerFailWarning_inv (vin : Nat) (s : State) {t : State} (hs : Inv s)
    (h : execPowerFailWarning vin s = .next t) : Inv t := by
  unfold execPowerFailWarning at h
  refine Inv.of_next h ?_
  clear h
  try dsimp only
  try (repeat' split)
  all_goals (first | (simp (maxDischargeDepth := 30) [hs]; done) | (try simp_all (maxDischargeDepth := 30)))
theorem execLoadShedDone_inv (s : State) {t : State} (hs : Inv s) (h : execLoadShedDone s = .next t) : Inv t := by
  unfold execLoadShedDone at h
  refine Inv.of_next h ?_
  clear h
  try dsimp only
  try (repeat' split)
  all_goals (first | (simp (maxDischargeDepth := 30) [hs]; done) | (try simp_all (maxDischargeDepth := 30)))
theorem execPowerWarnRelease_inv (vin : Nat) (s : State) {t : State} (hs : Inv s)
    (h : execPowerWarnRelease vin s = .next t) : Inv t := by
  unfold execPowerWarnRelease at h
  refine Inv.of_next h ?_
  clear h
  try dsimp only
  try (repeat' split)
  all_goals (first | (simp (maxDischargeDepth := 30) [hs]; done) | (try simp_all (maxDischargeDepth := 30)))
theorem execUndervoltageLockout_inv (vin : Nat) (s : State) {t : State} (hs : Inv s)
    (h : execUndervoltageLockout vin s = .next t) : Inv t := by
  unfold execUndervoltageLockout at h
  refine Inv.of_next h ?_
  clear h
  try dsimp only
  try (repeat' split)
  all_goals (first | (simp (maxDischargeDepth := 30) [hs]; done) | (try simp_all (maxDischargeDepth := 30)))
theorem execPwrEnLow_inv (s : State) {t : State} (hs : Inv s) (h : execPwrEnLow s = .next t) : Inv t := by
  unfold execPwrEnLow at h
  refine Inv.of_next h ?_
  clear h
  try dsimp only
  try (repeat' split)
  all_goals (first | (simp (maxDischargeDepth := 30) [hs]; done) | (try simp_all (maxDischargeDepth := 30)))
theorem execPowerStageStop_inv (s : State) {t : State} (hs : Inv s) (h : execPowerStageStop s = .next t) : Inv t := by
  unfold execPowerStageStop at h
  refine Inv.of_next h ?_
  clear h
  try dsimp only
  try (repeat' split)
  all_goals (first | (simp (maxDischargeDepth := 30) [hs]; done) | (try simp_all (maxDischargeDepth := 30)))
theorem execPwrOvercurrent_inv (s : State) {t : State} (hs : Inv s) (h : execPwrOvercurrent s = .next t) : Inv t := by
  unfold execPwrOvercurrent at h
  refine Inv.of_next h ?_
  clear h
  try dsimp only
  try (repeat' split)
  all_goals (first | (simp (maxDischargeDepth := 30) [hs]; done) | (try simp_all (maxDischargeDepth := 30)))
theorem execPwrOvervoltage_inv (vin : Nat) (s : State) {t : State} (hs : Inv s)
    (h : execPwrOvervoltage vin s = .next t) : Inv t := by
  unfold execPwrOvervoltage at h
  refine Inv.of_next h ?_
  clear h
  try dsimp only
  try (repeat' split)
  all_goals (first | (simp (maxDischargeDepth := 30) [hs]; done) | (try simp_all (maxDischargeDepth := 30)))
theorem execPwrOvRelease_inv (vin : Nat) (s : State) {t : State} (hs : Inv s)
    (h : execPwrOvRelease vin s = .next t) : Inv t := by
  unfold execPwrOvRelease at h
  refine Inv.of_next h ?_
  clear h
  try dsimp only
  try (repeat' split)
  all_goals (first | (simp (maxDischargeDepth := 30) [hs]; done) | (try simp_all (maxDischargeDepth := 30)))
theorem execPwrOvertemp_inv (s : State) {t : State} (hs : Inv s) (h : execPwrOvertemp s = .next t) : Inv t := by
  unfold execPwrOvertemp at h
  refine Inv.of_next h ?_
  clear h
  try dsimp only
  try (repeat' split)
  all_goals (first | (simp (maxDischargeDepth := 30) [hs]; done) | (try simp_all (maxDischargeDepth := 30)))
theorem execPwrOtClear_inv (s : State) {t : State} (hs : Inv s) (h : execPwrOtClear s = .next t) : Inv t := by
  unfold execPwrOtClear at h
  refine Inv.of_next h ?_
  clear h
  try dsimp only
  try (repeat' split)
  all_goals (first | (simp (maxDischargeDepth := 30) [hs]; done) | (try simp_all (maxDischargeDepth := 30)))
theorem execTelemetryRefresh_inv (mv : Nat) (ma : Nat) (mw : Nat) (groups : List Nat) (temps : List Int)
    (ppm : Int) (s : State) {t : State} (hs : Inv s)
    (h : execTelemetryRefresh mv ma mw groups temps ppm s = .next t) : Inv t := by
  unfold execTelemetryRefresh at h
  refine Inv.of_next h ?_
  clear h
  try dsimp only
  try (repeat' split)
  all_goals (first | (simp (maxDischargeDepth := 30) [hs]; done) | (try simp_all (maxDischargeDepth := 30)))
theorem execPage_inv (v : Option Nat) (s : State) {t : State} (hs : Inv s) (h : execPage v s = .next t) : Inv t := by
  unfold execPage at h
  refine Inv.of_next h ?_
  clear h
  try dsimp only
  try (repeat' split)
  all_goals (first | (simp (maxDischargeDepth := 30) [hs]; done) | (try simp_all (maxDischargeDepth := 30)))
theorem execClearFaults_inv (s : State) {t : State} (hs : Inv s) (h : execClearFaults s = .next t) : Inv t := by
  unfold execClearFaults at h
  refine Inv.of_next h ?_
  clear h
  try dsimp only
  try (repeat' split)
  all_goals (first | (simp (maxDischargeDepth := 30) [hs]; done) | (try simp_all (maxDischargeDepth := 30)))
theorem execCapability_inv (s : State) {t : State} (hs : Inv s) (h : execCapability s = .next t) : Inv t := by
  unfold execCapability at h
  refine Inv.of_next h ?_
  clear h
  try dsimp only
  try (repeat' split)
  all_goals (first | (simp (maxDischargeDepth := 30) [hs]; done) | (try simp_all (maxDischargeDepth := 30)))
theorem execVinOvFaultLimit_inv (s : State) {t : State} (hs : Inv s)
    (h : execVinOvFaultLimit s = .next t) : Inv t := by
  unfold execVinOvFaultLimit at h
  refine Inv.of_next h ?_
  clear h
  try dsimp only
  try (repeat' split)
  all_goals (first | (simp (maxDischargeDepth := 30) [hs]; done) | (try simp_all (maxDischargeDepth := 30)))
theorem execVinUvWarnLimit_inv (s : State) {t : State} (hs : Inv s) (h : execVinUvWarnLimit s = .next t) : Inv t := by
  unfold execVinUvWarnLimit at h
  refine Inv.of_next h ?_
  clear h
  try dsimp only
  try (repeat' split)
  all_goals (first | (simp (maxDischargeDepth := 30) [hs]; done) | (try simp_all (maxDischargeDepth := 30)))
theorem execVinUvFaultLimit_inv (s : State) {t : State} (hs : Inv s)
    (h : execVinUvFaultLimit s = .next t) : Inv t := by
  unfold execVinUvFaultLimit at h
  refine Inv.of_next h ?_
  clear h
  try dsimp only
  try (repeat' split)
  all_goals (first | (simp (maxDischargeDepth := 30) [hs]; done) | (try simp_all (maxDischargeDepth := 30)))
theorem execStatusByte_inv (s : State) {t : State} (hs : Inv s) (h : execStatusByte s = .next t) : Inv t := by
  unfold execStatusByte at h
  refine Inv.of_next h ?_
  clear h
  try dsimp only
  try (repeat' split)
  all_goals (first | (simp (maxDischargeDepth := 30) [hs]; done) | (try simp_all (maxDischargeDepth := 30)))
theorem execStatusWord_inv (s : State) {t : State} (hs : Inv s) (h : execStatusWord s = .next t) : Inv t := by
  unfold execStatusWord at h
  refine Inv.of_next h ?_
  clear h
  try dsimp only
  try (repeat' split)
  all_goals (first | (simp (maxDischargeDepth := 30) [hs]; done) | (try simp_all (maxDischargeDepth := 30)))
theorem execStatusInput_inv (s : State) {t : State} (hs : Inv s) (h : execStatusInput s = .next t) : Inv t := by
  unfold execStatusInput at h
  refine Inv.of_next h ?_
  clear h
  try dsimp only
  try (repeat' split)
  all_goals (first | (simp (maxDischargeDepth := 30) [hs]; done) | (try simp_all (maxDischargeDepth := 30)))
theorem execStatusTemperature_inv (s : State) {t : State} (hs : Inv s)
    (h : execStatusTemperature s = .next t) : Inv t := by
  unfold execStatusTemperature at h
  refine Inv.of_next h ?_
  clear h
  try dsimp only
  try (repeat' split)
  all_goals (first | (simp (maxDischargeDepth := 30) [hs]; done) | (try simp_all (maxDischargeDepth := 30)))
theorem execStatusCml_inv (s : State) {t : State} (hs : Inv s) (h : execStatusCml s = .next t) : Inv t := by
  unfold execStatusCml at h
  refine Inv.of_next h ?_
  clear h
  try dsimp only
  try (repeat' split)
  all_goals (first | (simp (maxDischargeDepth := 30) [hs]; done) | (try simp_all (maxDischargeDepth := 30)))
theorem execReadVin_inv (s : State) {t : State} (hs : Inv s) (h : execReadVin s = .next t) : Inv t := by
  unfold execReadVin at h
  refine Inv.of_next h ?_
  clear h
  try dsimp only
  try (repeat' split)
  all_goals (first | (simp (maxDischargeDepth := 30) [hs]; done) | (try simp_all (maxDischargeDepth := 30)))
theorem execReadIin_inv (s : State) {t : State} (hs : Inv s) (h : execReadIin s = .next t) : Inv t := by
  unfold execReadIin at h
  refine Inv.of_next h ?_
  clear h
  try dsimp only
  try (repeat' split)
  all_goals (first | (simp (maxDischargeDepth := 30) [hs]; done) | (try simp_all (maxDischargeDepth := 30)))
theorem execReadTemperature1_inv (s : State) {t : State} (hs : Inv s)
    (h : execReadTemperature1 s = .next t) : Inv t := by
  unfold execReadTemperature1 at h
  refine Inv.of_next h ?_
  clear h
  try dsimp only
  try (repeat' split)
  all_goals (first | (simp (maxDischargeDepth := 30) [hs]; done) | (try simp_all (maxDischargeDepth := 30)))
theorem execReadPout_inv (s : State) {t : State} (hs : Inv s) (h : execReadPout s = .next t) : Inv t := by
  unfold execReadPout at h
  refine Inv.of_next h ?_
  clear h
  try dsimp only
  try (repeat' split)
  all_goals (first | (simp (maxDischargeDepth := 30) [hs]; done) | (try simp_all (maxDischargeDepth := 30)))
theorem execReadPin_inv (s : State) {t : State} (hs : Inv s) (h : execReadPin s = .next t) : Inv t := by
  unfold execReadPin at h
  refine Inv.of_next h ?_
  clear h
  try dsimp only
  try (repeat' split)
  all_goals (first | (simp (maxDischargeDepth := 30) [hs]; done) | (try simp_all (maxDischargeDepth := 30)))
theorem execPmbusRevision_inv (s : State) {t : State} (hs : Inv s) (h : execPmbusRevision s = .next t) : Inv t := by
  unfold execPmbusRevision at h
  refine Inv.of_next h ?_
  clear h
  try dsimp only
  try (repeat' split)
  all_goals (first | (simp (maxDischargeDepth := 30) [hs]; done) | (try simp_all (maxDischargeDepth := 30)))
theorem execMfrId_inv (s : State) {t : State} (hs : Inv s) (h : execMfrId s = .next t) : Inv t := by
  unfold execMfrId at h
  refine Inv.of_next h ?_
  clear h
  try dsimp only
  try (repeat' split)
  all_goals (first | (simp (maxDischargeDepth := 30) [hs]; done) | (try simp_all (maxDischargeDepth := 30)))
theorem execMfrModel_inv (s : State) {t : State} (hs : Inv s) (h : execMfrModel s = .next t) : Inv t := by
  unfold execMfrModel at h
  refine Inv.of_next h ?_
  clear h
  try dsimp only
  try (repeat' split)
  all_goals (first | (simp (maxDischargeDepth := 30) [hs]; done) | (try simp_all (maxDischargeDepth := 30)))
theorem execPmbusInvalid_inv (kind : Nat) (s : State) {t : State} (hs : Inv s)
    (h : execPmbusInvalid kind s = .next t) : Inv t := by
  unfold execPmbusInvalid at h
  refine Inv.of_onUnit h (State.onPmbus_inv _ _ hs (fun u hu => ?_))
  exact State.nack_inv _ _ hu
theorem execSmbusAlertResponse_inv (s : State) {t : State} (hs : Inv s)
    (h : execSmbusAlertResponse s = .next t) : Inv t := by
  unfold execSmbusAlertResponse at h
  refine Inv.of_next h ?_
  clear h
  try dsimp only
  try (repeat' split)
  all_goals (first | (simp (maxDischargeDepth := 30) [hs]; done) | (try simp_all (maxDischargeDepth := 30)))
theorem execSmbusTimeout_inv (s : State) {t : State} (hs : Inv s) (h : execSmbusTimeout s = .next t) : Inv t := by
  unfold execSmbusTimeout at h
  refine Inv.of_next h ?_
  clear h
  try dsimp only
  try (repeat' split)
  all_goals (first | (simp (maxDischargeDepth := 30) [hs]; done) | (try simp_all (maxDischargeDepth := 30)))
theorem execClockLoss_inv (s : State) {t : State} (hs : Inv s) (h : execClockLoss s = .next t) : Inv t := by
  unfold execClockLoss at h
  refine Inv.of_next h ?_
  clear h
  try dsimp only
  try (repeat' split)
  all_goals (first | (simp (maxDischargeDepth := 30) [hs]; done) | (try simp_all (maxDischargeDepth := 30)))
theorem execPllUnlock_inv (s : State) {t : State} (hs : Inv s) (h : execPllUnlock s = .next t) : Inv t := by
  unfold execPllUnlock at h
  refine Inv.of_next h ?_
  clear h
  try dsimp only
  try (repeat' split)
  all_goals (first | (simp (maxDischargeDepth := 30) [hs]; done) | (try simp_all (maxDischargeDepth := 30)))
theorem execPllRelock_inv (s : State) {t : State} (hs : Inv s) (h : execPllRelock s = .next t) : Inv t := by
  unfold execPllRelock at h
  refine Inv.of_next h ?_
  clear h
  try dsimp only
  try (repeat' split)
  all_goals (first | (simp (maxDischargeDepth := 30) [hs]; done) | (try simp_all (maxDischargeDepth := 30)))
theorem execRefclkReturn_inv (s : State) {t : State} (hs : Inv s) (h : execRefclkReturn s = .next t) : Inv t := by
  unfold execRefclkReturn at h
  refine Inv.of_next h ?_
  clear h
  try dsimp only
  try (repeat' split)
  all_goals (first | (simp (maxDischargeDepth := 30) [hs]; done) | (try simp_all (maxDischargeDepth := 30)))
theorem execLinkRetry_inv (d : Nat) (s : State) {t : State} (hs : Inv s)
    (h : execLinkRetry d s = .next t) : Inv t := by
  unfold execLinkRetry at h
  refine Inv.of_onUnit h ?_
  try dsimp only
  try (repeat' split)
  all_goals (first | (simp (maxDischargeDepth := 30) [hs]; done) | (try simp_all (maxDischargeDepth := 30)))
theorem execLinkDown_inv (d : Nat) (s : State) {t : State} (hs : Inv s) (h : execLinkDown d s = .next t) : Inv t := by
  unfold execLinkDown at h
  refine Inv.of_onUnit h ?_
  try dsimp only
  try (repeat' split)
  all_goals (first | (simp (maxDischargeDepth := 30) [hs]; done) | (try simp_all (maxDischargeDepth := 30)))
theorem execAbortPoint_inv (st : Nat) (s : State) {t : State} (hs : Inv s)
    (h : execAbortPoint st s = .next t) : Inv t := by
  unfold execAbortPoint at h
  refine Inv.of_onUnit h ?_
  try dsimp only
  try (repeat' split)
  all_goals (first | (simp (maxDischargeDepth := 30) [hs]; done) | (try simp_all (maxDischargeDepth := 30)))
theorem execSpareSwitch_inv (k : Nat) (s : State) {t : State} (hs : Inv s)
    (h : execSpareSwitch k s = .next t) : Inv t := by
  unfold execSpareSwitch at h
  refine Inv.of_onUnit h ?_
  try dsimp only
  try (repeat' split)
  all_goals (first | (simp (maxDischargeDepth := 30) [hs]; done) | (try simp_all (maxDischargeDepth := 30)))
theorem execRetireLoad_inv (s : State) {t : State} (hs : Inv s) (h : execRetireLoad s = .next t) : Inv t := by
  unfold execRetireLoad at h
  refine Inv.of_next h ?_
  clear h
  try dsimp only
  try (repeat' split)
  all_goals (first | (simp (maxDischargeDepth := 30) [hs]; done) | (try simp_all (maxDischargeDepth := 30)))
theorem execRetireClear_inv (fn : Nat) (kind : Nat) (i : Nat) (s : State) {t : State} (hs : Inv s)
    (h : execRetireClear fn kind i s = .next t) : Inv t := by
  unfold execRetireClear at h
  refine Inv.of_onUnit h ?_
  try dsimp only
  try (repeat' split)
  all_goals (first | (simp (maxDischargeDepth := 30) [hs]; done) | (try simp_all (maxDischargeDepth := 30)))
theorem execAnalogReadback_inv (ch : Nat) (bad : Bool) (again : Bool) (s : State) {t : State} (hs : Inv s)
    (h : execAnalogReadback ch bad again s = .next t) : Inv t := by
  unfold execAnalogReadback at h
  refine Inv.of_onUnit h ?_
  try dsimp only
  try (repeat' split)
  all_goals (first | (simp (maxDischargeDepth := 30) [hs]; done) | (try simp_all (maxDischargeDepth := 30)))
theorem execMadcConversionDone_inv (k : Nat) (raw : Int) (s : State) {t : State} (hs : Inv s)
    (h : execMadcConversionDone k raw s = .next t) : Inv t := by
  unfold execMadcConversionDone at h
  refine Inv.of_onUnit h ?_
  try dsimp only
  try (repeat' split)
  all_goals (first | (simp (maxDischargeDepth := 30) [hs]; done) | (try simp_all (maxDischargeDepth := 30)))
theorem execMadcConversionTimeout_inv (k : Nat) (s : State) {t : State} (hs : Inv s)
    (h : execMadcConversionTimeout k s = .next t) : Inv t := by
  unfold execMadcConversionTimeout at h
  refine Inv.of_onUnit h ?_
  try dsimp only
  try (repeat' split)
  all_goals (first | (simp (maxDischargeDepth := 30) [hs]; done) | (try simp_all (maxDischargeDepth := 30)))
theorem execThermalSensorSample_inv (r : Nat) (temps : List Int) (s : State) {t : State} (hs : Inv s)
    (h : execThermalSensorSample r temps s = .next t) : Inv t := by
  unfold execThermalSensorSample at h
  refine Inv.of_onUnit h ?_
  try dsimp only
  try (repeat' split)
  all_goals (first | (simp (maxDischargeDepth := 30) [hs]; done) | (try simp_all (maxDischargeDepth := 30)))
theorem execReenable_inv (fn : Nat) (r : Nat) (s : State) {t : State} (hs : Inv s)
    (h : execReenable fn r s = .next t) : Inv t := by
  unfold execReenable at h
  refine Inv.of_onUnit h ?_
  try dsimp only
  try (repeat' split)
  all_goals (first | (simp (maxDischargeDepth := 30) [hs]; done) | (try simp_all (maxDischargeDepth := 30)))
theorem execCalSlewStep_inv (ch : Nat) (levels : Bool) (s : State) {t : State} (hs : Inv s)
    (h : execCalSlewStep ch levels s = .next t) : Inv t := by
  unfold execCalSlewStep at h
  refine Inv.of_onUnit h ?_
  try dsimp only
  try (repeat' split)
  all_goals (first | (simp (maxDischargeDepth := 30) [hs]; done) | (try simp_all (maxDischargeDepth := 30)))
theorem execCalStale_inv (ch : Nat) (s : State) {t : State} (hs : Inv s)
    (h : execCalStale ch s = .next t) : Inv t := by
  unfold execCalStale at h
  refine Inv.of_onUnit h ?_
  try dsimp only
  try (repeat' split)
  all_goals (first | (simp (maxDischargeDepth := 30) [hs]; done) | (try simp_all (maxDischargeDepth := 30)))
theorem execCalTempEval_inv (r : Nat) (s : State) {t : State} (hs : Inv s)
    (h : execCalTempEval r s = .next t) : Inv t := by
  unfold execCalTempEval at h
  refine Inv.of_onUnit h ?_
  try dsimp only
  try (repeat' split)
  all_goals (first | (simp (maxDischargeDepth := 30) [hs]; done) | (try simp_all (maxDischargeDepth := 30)))
theorem execCalStart_inv (fn : Nat) (i : Nat) (s : State) {t : State} (hs : Inv s)
    (h : execCalStart fn i s = .next t) : Inv t := by
  unfold execCalStart at h
  refine Inv.of_onUnit h ?_
  try dsimp only
  try (repeat' split)
  all_goals (first | (simp (maxDischargeDepth := 30) [hs]; done) | (try simp_all (maxDischargeDepth := 30)))
theorem execCalAbort_inv (fn : Nat) (i : Nat) (s : State) {t : State} (hs : Inv s)
    (h : execCalAbort fn i s = .next t) : Inv t := by
  unfold execCalAbort at h
  refine Inv.of_onUnit h ?_
  try dsimp only
  try (repeat' split)
  all_goals (first | (simp (maxDischargeDepth := 30) [hs]; done) | (try simp_all (maxDischargeDepth := 30)))
theorem execCalCommonStepDone_inv (r : Nat) (vref : Int) (vbg : Int) (spine : List Int) (s : State) {t : State}
    (hs : Inv s) (h : execCalCommonStepDone r vref vbg spine s = .next t) : Inv t := by
  unfold execCalCommonStepDone at h
  refine Inv.of_onUnit h ?_
  try dsimp only
  try (repeat' split)
  all_goals (first | (simp (maxDischargeDepth := 30) [hs]; done) | (try simp_all (maxDischargeDepth := 30)))
theorem execCalClusterStepStart_inv (k : Nat) (s : State) {t : State} (hs : Inv s)
    (h : execCalClusterStepStart k s = .next t) : Inv t := by
  unfold execCalClusterStepStart at h
  refine Inv.of_onUnit h ?_
  try dsimp only
  try (repeat' split)
  all_goals (first | (simp (maxDischargeDepth := 30) [hs]; done) | (try simp_all (maxDischargeDepth := 30)))
theorem execCalClusterStepDone_inv (k : Nat) (lanes : List (List Int)) (madc : List Int) (s : State) {t : State}
    (hs : Inv s) (h : execCalClusterStepDone k lanes madc s = .next t) : Inv t := by
  unfold execCalClusterStepDone at h
  refine Inv.of_onUnit h ?_
  try dsimp only
  try (repeat' split)
  all_goals (first | (simp (maxDischargeDepth := 30) [hs]; done) | (try simp_all (maxDischargeDepth := 30)))
theorem execCalHoldoffExpiry_inv (r : Nat) (s : State) {t : State} (hs : Inv s)
    (h : execCalHoldoffExpiry r s = .next t) : Inv t := by
  unfold execCalHoldoffExpiry at h
  refine Inv.of_onUnit h ?_
  try dsimp only
  try (repeat' split)
  all_goals (first | (simp (maxDischargeDepth := 30) [hs]; done) | (try simp_all (maxDischargeDepth := 30)))
theorem execCalEnvCheckDone_inv (k : Nat) (v : List (Int × Int × Int)) (s : State) {t : State} (hs : Inv s)
    (h : execCalEnvCheckDone k v s = .next t) : Inv t := by
  unfold execCalEnvCheckDone at h
  refine Inv.of_onUnit h ?_
  try dsimp only
  try (repeat' split)
  all_goals (first | (simp (maxDischargeDepth := 30) [hs]; done) | (try simp_all (maxDischargeDepth := 30)))
theorem execCalReflectDone_inv (ch : Nat) (sum : Int) (spread : Int) (clean : Bool) (s : State) {t : State}
    (hs : Inv s) (h : execCalReflectDone ch sum spread clean s = .next t) : Inv t := by
  unfold execCalReflectDone at h
  refine Inv.of_onUnit h ?_
  try dsimp only
  try (repeat' split)
  all_goals (first | (simp (maxDischargeDepth := 30) [hs]; done) | (try simp_all (maxDischargeDepth := 30)))
theorem execCalSequenceDone_inv (s : State) {t : State} (hs : Inv s)
    (h : execCalSequenceDone s = .next t) : Inv t := by
  unfold execCalSequenceDone at h
  refine Inv.of_next h ?_
  clear h
  try dsimp only
  try (repeat' split)
  all_goals (first | (simp (maxDischargeDepth := 30) [hs]; done) | (try simp_all (maxDischargeDepth := 30)))
theorem execCalLoad_inv (s : State) {t : State} (hs : Inv s) (h : execCalLoad s = .next t) : Inv t := by
  unfold execCalLoad at h
  refine Inv.of_next h ?_
  clear h
  try dsimp only
  try (repeat' split)
  all_goals (first | (simp (maxDischargeDepth := 30) [hs]; done) | (try simp_all (maxDischargeDepth := 30)))
theorem execBsyncFrameSlot_inv (w : Nat) (s : State) {t : State} (hs : Inv s)
    (h : execBsyncFrameSlot w s = .next t) : Inv t := by
  unfold execBsyncFrameSlot at h
  refine Inv.of_next h ?_
  clear h
  try dsimp only
  try (repeat' split)
  all_goals (first | (simp (maxDischargeDepth := 30) [hs]; done) | (try simp_all (maxDischargeDepth := 30)))
theorem execSyncLoss_inv (s : State) {t : State} (hs : Inv s) (h : execSyncLoss s = .next t) : Inv t := by
  unfold execSyncLoss at h
  refine Inv.of_next h ?_
  clear h
  try dsimp only
  try (repeat' split)
  all_goals (first | (simp (maxDischargeDepth := 30) [hs]; done) | (try simp_all (maxDischargeDepth := 30)))
theorem execBsyncNop_inv (s : State) {t : State} (hs : Inv s) (h : execBsyncNop s = .next t) : Inv t := by
  unfold execBsyncNop at h
  refine Inv.of_next h ?_
  clear h
  try dsimp only
  try (repeat' split)
  all_goals (first | (simp (maxDischargeDepth := 30) [hs]; done) | (try simp_all (maxDischargeDepth := 30)))
theorem execTimeLoadStage_inv (t40 : Nat) (s : State) {t : State} (hs : Inv s)
    (h : execTimeLoadStage t40 s = .next t) : Inv t := by
  unfold execTimeLoadStage at h
  refine Inv.of_next h ?_
  clear h
  try dsimp only
  try (repeat' split)
  all_goals (first | (simp (maxDischargeDepth := 30) [hs]; done) | (try simp_all (maxDischargeDepth := 30)))
theorem execTimeLoadLoad_inv (t24 : Nat) (s : State) {t : State} (hs : Inv s)
    (h : execTimeLoadLoad t24 s = .next t) : Inv t := by
  unfold execTimeLoadLoad at h
  refine Inv.of_next h ?_
  clear h
  try dsimp only
  try (repeat' split)
  all_goals (first | (simp (maxDischargeDepth := 30) [hs]; done) | (try simp_all (maxDischargeDepth := 30)))
theorem execBsyncArm_inv (g : Nat) (s : State) {t : State} (hs : Inv s) (h : execBsyncArm g s = .next t) : Inv t := by
  unfold execBsyncArm at h
  refine Inv.of_next h ?_
  clear h
  try dsimp only
  try (repeat' split)
  all_goals (first | (simp (maxDischargeDepth := 30) [hs]; done) | (try simp_all (maxDischargeDepth := 30)))
theorem execStartAt_inv (g : Nat) (t40 : Nat) (s : State) {t : State} (hs : Inv s)
    (h : execStartAt g t40 s = .next t) : Inv t := by
  unfold execStartAt at h
  refine Inv.of_next h ?_
  clear h
  try dsimp only
  try (repeat' split)
  all_goals (first | (simp (maxDischargeDepth := 30) [hs]; done) | (try simp_all (maxDischargeDepth := 30)))
theorem execStopAt_inv (g : Nat) (t40 : Nat) (s : State) {t : State} (hs : Inv s)
    (h : execStopAt g t40 s = .next t) : Inv t := by
  unfold execStopAt at h
  refine Inv.of_next h ?_
  clear h
  try dsimp only
  try (repeat' split)
  all_goals (first | (simp (maxDischargeDepth := 30) [hs]; done) | (try simp_all (maxDischargeDepth := 30)))
theorem execPing_inv (s : State) {t : State} (hs : Inv s) (h : execPing s = .next t) : Inv t := by
  unfold execPing at h
  refine Inv.of_next h ?_
  clear h
  try dsimp only
  try (repeat' split)
  all_goals (first | (simp (maxDischargeDepth := 30) [hs]; done) | (try simp_all (maxDischargeDepth := 30)))
theorem execPhaseSlewStep_inv (s : State) {t : State} (hs : Inv s) (h : execPhaseSlewStep s = .next t) : Inv t := by
  unfold execPhaseSlewStep at h
  refine Inv.of_next h ?_
  clear h
  try dsimp only
  try (repeat' split)
  all_goals (first | (simp (maxDischargeDepth := 30) [hs]; done) | (try simp_all (maxDischargeDepth := 30)))
theorem execTrigInEdge_inv (line : Nat) (rising : Bool) (tt : Nat) (s : State) {t : State} (hs : Inv s)
    (h : execTrigInEdge line rising tt s = .next t) : Inv t := by
  unfold execTrigInEdge at h
  refine Inv.of_onUnit h ?_
  try dsimp only
  try (repeat' split)
  all_goals (first | (simp (maxDischargeDepth := 30) [hs]; done) | (try simp_all (maxDischargeDepth := 30)))
theorem execTrigOutPulse_inv (line : Nat) (s : State) {t : State} (hs : Inv s)
    (h : execTrigOutPulse line s = .next t) : Inv t := by
  unfold execTrigOutPulse at h
  refine Inv.of_onUnit h ?_
  try dsimp only
  try (repeat' split)
  all_goals (first | (simp (maxDischargeDepth := 30) [hs]; done) | (try simp_all (maxDischargeDepth := 30)))
theorem execTrigOutFire_inv (fn : Nat) (line : Nat) (s : State) {t : State} (hs : Inv s)
    (h : execTrigOutFire fn line s = .next t) : Inv t := by
  unfold execTrigOutFire at h
  refine Inv.of_onUnit h ?_
  try dsimp only
  try (repeat' split)
  all_goals (first | (simp (maxDischargeDepth := 30) [hs]; done) | (try simp_all (maxDischargeDepth := 30)))

end Sys2Proof.Machine
end

