-- ==== Sys2Proof/Laws/InvExec2.lean ====
section
/-! SUPPORT. The commands of the engine, scheduling, management and security families keep the invariant, one law each. -/

namespace Sys2Proof.Machine

theorem State.onSpdm_inv (path : Nat) (early : Bool) (act : State → State) {s t : State} (hs : Inv s)
    (ha : ∀ u, Inv u → Inv (act u)) (h : s.onSpdm path early act = .next t) : Inv t := by
  unfold State.onSpdm at h
  refine Inv.of_onUnit h ?_
  split
  · exact ha _ hs
  · exact hs

theorem execBlockPost_inv (e : Nat) (s : State) {t : State} (hs : Inv s)
    (h : execBlockPost e s = .next t) : Inv t := by
  unfold execBlockPost at h
  refine Inv.of_onUnit h ?_
  try dsimp only
  try (repeat' split)
  all_goals (first | (simp (maxDischargeDepth := 30) [hs]; done) | (try simp_all (maxDischargeDepth := 30)))
theorem execTriggerEventArrive_inv (line : Nat) (s : State) {t : State} (hs : Inv s)
    (h : execTriggerEventArrive line s = .next t) : Inv t := by
  unfold execTriggerEventArrive at h
  refine Inv.of_onUnit h ?_
  try dsimp only
  try (repeat' split)
  all_goals (first | (simp (maxDischargeDepth := 30) [hs]; done) | (try simp_all (maxDischargeDepth := 30)))
theorem execBarrierComplete_inv (st : Nat) (b : Nat) (s : State) {t : State} (hs : Inv s)
    (h : execBarrierComplete st b s = .next t) : Inv t := by
  unfold execBarrierComplete at h
  refine Inv.of_onUnit h ?_
  try dsimp only
  try (repeat' split)
  all_goals (first | (simp (maxDischargeDepth := 30) [hs]; done) | (try simp_all (maxDischargeDepth := 30)))
theorem execMatchResult_inv (e : Nat) (s : State) {t : State} (hs : Inv s)
    (h : execMatchResult e s = .next t) : Inv t := by
  unfold execMatchResult at h
  refine Inv.of_onUnit h ?_
  try dsimp only
  try (repeat' split)
  all_goals (first | (simp (maxDischargeDepth := 30) [hs]; done) | (try simp_all (maxDischargeDepth := 30)))
theorem execCondTimeout_inv (e : Nat) (s : State) {t : State} (hs : Inv s)
    (h : execCondTimeout e s = .next t) : Inv t := by
  unfold execCondTimeout at h
  refine Inv.of_onUnit h ?_
  try dsimp only
  try (repeat' split)
  all_goals (first | (simp (maxDischargeDepth := 30) [hs]; done) | (try simp_all (maxDischargeDepth := 30)))
theorem execCacheMissFill_inv (e : Nat) (s : State) {t : State} (hs : Inv s)
    (h : execCacheMissFill e s = .next t) : Inv t := by
  unfold execCacheMissFill at h
  refine Inv.of_onUnit h ?_
  try dsimp only
  try (repeat' split)
  all_goals (first | (simp (maxDischargeDepth := 30) [hs]; done) | (try simp_all (maxDischargeDepth := 30)))
theorem execNop_inv (e : Nat) (s : State) {t : State} (hs : Inv s) (h : execNop e s = .next t) : Inv t := by
  unfold execNop at h
  refine Inv.of_onUnit h ?_
  try dsimp only
  try (repeat' split)
  all_goals (first | (simp (maxDischargeDepth := 30) [hs]; done) | (try simp_all (maxDischargeDepth := 30)))
theorem execVec_inv (e : Nat) (s : State) {t : State} (hs : Inv s) (h : execVec e s = .next t) : Inv t := by
  unfold execVec at h
  refine Inv.of_onUnit h ?_
  try dsimp only
  try (repeat' split)
  all_goals (first | (simp (maxDischargeDepth := 30) [hs]; done) | (try simp_all (maxDischargeDepth := 30)))
theorem execRpt_inv (e : Nat) (s : State) {t : State} (hs : Inv s) (h : execRpt e s = .next t) : Inv t := by
  unfold execRpt at h
  refine Inv.of_onUnit h ?_
  try dsimp only
  try (repeat' split)
  all_goals (first | (simp (maxDischargeDepth := 30) [hs]; done) | (try simp_all (maxDischargeDepth := 30)))
theorem execHold_inv (e : Nat) (s : State) {t : State} (hs : Inv s) (h : execHold e s = .next t) : Inv t := by
  unfold execHold at h
  refine Inv.of_onUnit h ?_
  try dsimp only
  try (repeat' split)
  all_goals (first | (simp (maxDischargeDepth := 30) [hs]; done) | (try simp_all (maxDischargeDepth := 30)))
theorem execTset_inv (e : Nat) (s : State) {t : State} (hs : Inv s) (h : execTset e s = .next t) : Inv t := by
  unfold execTset at h
  refine Inv.of_onUnit h ?_
  try dsimp only
  try (repeat' split)
  all_goals (first | (simp (maxDischargeDepth := 30) [hs]; done) | (try simp_all (maxDischargeDepth := 30)))
theorem execLvl_inv (e : Nat) (s : State) {t : State} (hs : Inv s) (h : execLvl e s = .next t) : Inv t := by
  unfold execLvl at h
  refine Inv.of_onUnit h ?_
  try dsimp only
  try (repeat' split)
  all_goals (first | (simp (maxDischargeDepth := 30) [hs]; done) | (try simp_all (maxDischargeDepth := 30)))
theorem execMark_inv (e : Nat) (s : State) {t : State} (hs : Inv s) (h : execMark e s = .next t) : Inv t := by
  unfold execMark at h
  refine Inv.of_onUnit h ?_
  try dsimp only
  try (repeat' split)
  all_goals (first | (simp (maxDischargeDepth := 30) [hs]; done) | (try simp_all (maxDischargeDepth := 30)))
theorem execSync_inv (e : Nat) (s : State) {t : State} (hs : Inv s) (h : execSync e s = .next t) : Inv t := by
  unfold execSync at h
  refine Inv.of_onUnit h ?_
  try dsimp only
  try (repeat' split)
  all_goals (first | (simp (maxDischargeDepth := 30) [hs]; done) | (try simp_all (maxDischargeDepth := 30)))
theorem execMatch_inv (e : Nat) (s : State) {t : State} (hs : Inv s) (h : execMatch e s = .next t) : Inv t := by
  unfold execMatch at h
  refine Inv.of_onUnit h ?_
  try dsimp only
  try (repeat' split)
  all_goals (first | (simp (maxDischargeDepth := 30) [hs]; done) | (try simp_all (maxDischargeDepth := 30)))
theorem execJmpf_inv (e : Nat) (s : State) {t : State} (hs : Inv s) (h : execJmpf e s = .next t) : Inv t := by
  unfold execJmpf at h
  refine Inv.of_onUnit h ?_
  try dsimp only
  try (repeat' split)
  all_goals (first | (simp (maxDischargeDepth := 30) [hs]; done) | (try simp_all (maxDischargeDepth := 30)))
theorem execHalt_inv (e : Nat) (s : State) {t : State} (hs : Inv s) (h : execHalt e s = .next t) : Inv t := by
  unfold execHalt at h
  refine Inv.of_onUnit h ?_
  try dsimp only
  try (repeat' split)
  all_goals (first | (simp (maxDischargeDepth := 30) [hs]; done) | (try simp_all (maxDischargeDepth := 30)))
theorem execJmp_inv (e : Nat) (s : State) {t : State} (hs : Inv s) (h : execJmp e s = .next t) : Inv t := by
  unfold execJmp at h
  refine Inv.of_onUnit h ?_
  try dsimp only
  try (repeat' split)
  all_goals (first | (simp (maxDischargeDepth := 30) [hs]; done) | (try simp_all (maxDischargeDepth := 30)))
theorem execCall_inv (e : Nat) (s : State) {t : State} (hs : Inv s) (h : execCall e s = .next t) : Inv t := by
  unfold execCall at h
  refine Inv.of_onUnit h ?_
  try dsimp only
  try (repeat' split)
  all_goals (first | (simp (maxDischargeDepth := 30) [hs]; done) | (try simp_all (maxDischargeDepth := 30)))
theorem execRet_inv (e : Nat) (s : State) {t : State} (hs : Inv s) (h : execRet e s = .next t) : Inv t := by
  unfold execRet at h
  refine Inv.of_onUnit h ?_
  try dsimp only
  try (repeat' split)
  all_goals (first | (simp (maxDischargeDepth := 30) [hs]; done) | (try simp_all (maxDischargeDepth := 30)))
theorem execLoop_inv (e : Nat) (s : State) {t : State} (hs : Inv s) (h : execLoop e s = .next t) : Inv t := by
  unfold execLoop at h
  refine Inv.of_onUnit h ?_
  try dsimp only
  try (repeat' split)
  all_goals (first | (simp (maxDischargeDepth := 30) [hs]; done) | (try simp_all (maxDischargeDepth := 30)))
theorem execEndloop_inv (e : Nat) (s : State) {t : State} (hs : Inv s) (h : execEndloop e s = .next t) : Inv t := by
  unfold execEndloop at h
  refine Inv.of_onUnit h ?_
  try dsimp only
  try (repeat' split)
  all_goals (first | (simp (maxDischargeDepth := 30) [hs]; done) | (try simp_all (maxDischargeDepth := 30)))
theorem execInvalidOpcode_inv (e : Nat) (s : State) {t : State} (hs : Inv s)
    (h : execInvalidOpcode e s = .next t) : Inv t := by
  unfold execInvalidOpcode at h
  refine Inv.of_onUnit h ?_
  try dsimp only
  try (repeat' split)
  all_goals (first | (simp (maxDischargeDepth := 30) [hs]; done) | (try simp_all (maxDischargeDepth := 30)))
theorem execScan_inv (e : Nat) (s : State) {t : State} (hs : Inv s) (h : execScan e s = .next t) : Inv t := by
  unfold execScan at h
  refine Inv.of_onUnit h ?_
  try dsimp only
  try (repeat' split)
  all_goals (first | (simp (maxDischargeDepth := 30) [hs]; done) | (try simp_all (maxDischargeDepth := 30)))
theorem execDecomp_inv (e : Nat) (s : State) {t : State} (hs : Inv s) (h : execDecomp e s = .next t) : Inv t := by
  unfold execDecomp at h
  refine Inv.of_onUnit h ?_
  try dsimp only
  try (repeat' split)
  all_goals (first | (simp (maxDischargeDepth := 30) [hs]; done) | (try simp_all (maxDischargeDepth := 30)))
theorem execMachineCheck_inv (e : Nat) (kind : Nat) (s : State) {t : State} (hs : Inv s)
    (h : execMachineCheck e kind s = .next t) : Inv t := by
  unfold execMachineCheck at h
  refine Inv.of_onUnit h ?_
  try dsimp only
  try (repeat' split)
  all_goals (first | (simp (maxDischargeDepth := 30) [hs]; done) | (try simp_all (maxDischargeDepth := 30)))
theorem execReloadDone_inv (e : Nat) (mismatch : Bool) (s : State) {t : State} (hs : Inv s)
    (h : execReloadDone e mismatch s = .next t) : Inv t := by
  unfold execReloadDone at h
  refine Inv.of_onUnit h ?_
  try dsimp only
  try (repeat' split)
  all_goals (first | (simp (maxDischargeDepth := 30) [hs]; done) | (try simp_all (maxDischargeDepth := 30)))
theorem execIdleScan_inv (e : Nat) (bad : Bool) (s : State) {t : State} (hs : Inv s)
    (h : execIdleScan e bad s = .next t) : Inv t := by
  unfold execIdleScan at h
  refine Inv.of_onUnit h ?_
  try dsimp only
  try (repeat' split)
  all_goals (first | (simp (maxDischargeDepth := 30) [hs]; done) | (try simp_all (maxDischargeDepth := 30)))
theorem execMicroNext_inv (e : Nat) (s : State) {t : State} (hs : Inv s)
    (h : execMicroNext e s = .next t) : Inv t := by
  unfold execMicroNext at h
  refine Inv.of_onUnit h ?_
  try dsimp only
  try (repeat' split)
  all_goals (first | (simp (maxDischargeDepth := 30) [hs]; done) | (try simp_all (maxDischargeDepth := 30)))
theorem execMicroJump_inv (e : Nat) (s : State) {t : State} (hs : Inv s)
    (h : execMicroJump e s = .next t) : Inv t := by
  unfold execMicroJump at h
  refine Inv.of_onUnit h ?_
  try dsimp only
  try (repeat' split)
  all_goals (first | (simp (maxDischargeDepth := 30) [hs]; done) | (try simp_all (maxDischargeDepth := 30)))
theorem execMicroCjump_inv (e : Nat) (s : State) {t : State} (hs : Inv s)
    (h : execMicroCjump e s = .next t) : Inv t := by
  unfold execMicroCjump at h
  refine Inv.of_onUnit h ?_
  try dsimp only
  try (repeat' split)
  all_goals (first | (simp (maxDischargeDepth := 30) [hs]; done) | (try simp_all (maxDischargeDepth := 30)))
theorem execMicroCall_inv (e : Nat) (s : State) {t : State} (hs : Inv s)
    (h : execMicroCall e s = .next t) : Inv t := by
  unfold execMicroCall at h
  refine Inv.of_onUnit h ?_
  try dsimp only
  try (repeat' split)
  all_goals (first | (simp (maxDischargeDepth := 30) [hs]; done) | (try simp_all (maxDischargeDepth := 30)))
theorem execMicroRet_inv (e : Nat) (s : State) {t : State} (hs : Inv s) (h : execMicroRet e s = .next t) : Inv t := by
  unfold execMicroRet at h
  refine Inv.of_onUnit h ?_
  try dsimp only
  try (repeat' split)
  all_goals (first | (simp (maxDischargeDepth := 30) [hs]; done) | (try simp_all (maxDischargeDepth := 30)))
theorem execMicroDispatch_inv (e : Nat) (s : State) {t : State} (hs : Inv s)
    (h : execMicroDispatch e s = .next t) : Inv t := by
  unfold execMicroDispatch at h
  refine Inv.of_onUnit h ?_
  try dsimp only
  try (repeat' split)
  all_goals (first | (simp (maxDischargeDepth := 30) [hs]; done) | (try simp_all (maxDischargeDepth := 30)))
theorem execMicroUloop_inv (e : Nat) (s : State) {t : State} (hs : Inv s)
    (h : execMicroUloop e s = .next t) : Inv t := by
  unfold execMicroUloop at h
  refine Inv.of_onUnit h ?_
  try dsimp only
  try (repeat' split)
  all_goals (first | (simp (maxDischargeDepth := 30) [hs]; done) | (try simp_all (maxDischargeDepth := 30)))
theorem execMicroResume_inv (e : Nat) (s : State) {t : State} (hs : Inv s)
    (h : execMicroResume e s = .next t) : Inv t := by
  unfold execMicroResume at h
  refine Inv.of_onUnit h ?_
  try dsimp only
  try (repeat' split)
  all_goals (first | (simp (maxDischargeDepth := 30) [hs]; done) | (try simp_all (maxDischargeDepth := 30)))
theorem execEngineInterruptTake_inv (e : Nat) (s : State) {t : State} (hs : Inv s)
    (h : execEngineInterruptTake e s = .next t) : Inv t := by
  unfold execEngineInterruptTake at h
  refine Inv.of_onUnit h ?_
  try dsimp only
  try (repeat' split)
  all_goals (first | (simp (maxDischargeDepth := 30) [hs]; done) | (try simp_all (maxDischargeDepth := 30)))
theorem execAbortTake_inv (e : Nat) (s : State) {t : State} (hs : Inv s)
    (h : execAbortTake e s = .next t) : Inv t := by
  unfold execAbortTake at h
  refine Inv.of_onUnit h ?_
  try dsimp only
  try (repeat' split)
  all_goals (first | (simp (maxDischargeDepth := 30) [hs]; done) | (try simp_all (maxDischargeDepth := 30)))
theorem execSegmentPlace_inv (s : State) {t : State} (hs : Inv s) (h : execSegmentPlace s = .next t) : Inv t := by
  unfold execSegmentPlace at h
  refine Inv.of_next h ?_
  clear h
  try dsimp only
  try (repeat' split)
  all_goals (first | (simp (maxDischargeDepth := 30) [hs]; done) | (try simp_all (maxDischargeDepth := 30)))
theorem execDequeHandover_inv (e : Nat) (s : State) {t : State} (hs : Inv s)
    (h : execDequeHandover e s = .next t) : Inv t := by
  unfold execDequeHandover at h
  refine Inv.of_onUnit h ?_
  try dsimp only
  try (repeat' split)
  all_goals (first | (simp (maxDischargeDepth := 30) [hs]; done) | (try simp_all (maxDischargeDepth := 30)))
theorem execRequeueSlotDrain_inv (e : Nat) (s : State) {t : State} (hs : Inv s)
    (h : execRequeueSlotDrain e s = .next t) : Inv t := by
  unfold execRequeueSlotDrain at h
  refine Inv.of_onUnit h ?_
  try dsimp only
  try (repeat' split)
  all_goals (first | (simp (maxDischargeDepth := 30) [hs]; done) | (try simp_all (maxDischargeDepth := 30)))
theorem execDequePop_inv (e : Nat) (s : State) {t : State} (hs : Inv s) (h : execDequePop e s = .next t) : Inv t := by
  unfold execDequePop at h
  refine Inv.of_onUnit h ?_
  try dsimp only
  try (repeat' split)
  all_goals (first | (simp (maxDischargeDepth := 30) [hs]; done) | (try simp_all (maxDischargeDepth := 30)))
theorem execStealProbe_inv (e : Nat) (s : State) {t : State} (hs : Inv s)
    (h : execStealProbe e s = .next t) : Inv t := by
  unfold execStealProbe at h
  refine Inv.of_onUnit h ?_
  try dsimp only
  try (repeat' split)
  all_goals (first | (simp (maxDischargeDepth := 30) [hs]; done) | (try simp_all (maxDischargeDepth := 30)))
theorem execSegmentTake_inv (e : Nat) (s : State) {t : State} (hs : Inv s)
    (h : execSegmentTake e s = .next t) : Inv t := by
  unfold execSegmentTake at h
  refine Inv.of_onUnit h ?_
  try dsimp only
  try (repeat' split)
  all_goals (first | (simp (maxDischargeDepth := 30) [hs]; done) | (try simp_all (maxDischargeDepth := 30)))
theorem execBlockDeadline_inv (ch : Nat) (segId : Nat) (seq : Nat) (parityBad : Bool) (s : State) {t : State}
    (hs : Inv s) (h : execBlockDeadline ch segId seq parityBad s = .next t) : Inv t := by
  unfold execBlockDeadline at h
  refine Inv.of_onUnit h ?_
  try dsimp only
  try (repeat' split)
  all_goals (first | (simp (maxDischargeDepth := 30) [hs]; done) | (try simp_all (maxDischargeDepth := 30)))
theorem execBurstArm_inv (fn : Nat) (st : Nat) (frame : Bool) (s : State) {t : State} (hs : Inv s)
    (h : execBurstArm fn st frame s = .next t) : Inv t := by
  unfold execBurstArm at h
  refine Inv.of_onUnit h ?_
  try dsimp only
  try (repeat' split)
  all_goals (first | (simp (maxDischargeDepth := 30) [hs]; done) | (try simp_all (maxDischargeDepth := 30)))
theorem execBurstDisarm_inv (fn : Nat) (st : Nat) (s : State) {t : State} (hs : Inv s)
    (h : execBurstDisarm fn st s = .next t) : Inv t := by
  unfold execBurstDisarm at h
  refine Inv.of_onUnit h ?_
  try dsimp only
  try (repeat' split)
  all_goals (first | (simp (maxDischargeDepth := 30) [hs]; done) | (try simp_all (maxDischargeDepth := 30)))
theorem execBurstStart_inv (fn : Nat) (st : Nat) (t24 : Nat) (s : State) {t : State} (hs : Inv s)
    (h : execBurstStart fn st t24 s = .next t) : Inv t := by
  unfold execBurstStart at h
  refine Inv.of_onUnit h ?_
  try dsimp only
  try (repeat' split)
  all_goals (first | (simp (maxDischargeDepth := 30) [hs]; done) | (try simp_all (maxDischargeDepth := 30)))
theorem execBurstStop_inv (fn : Nat) (st : Nat) (s : State) {t : State} (hs : Inv s)
    (h : execBurstStop fn st s = .next t) : Inv t := by
  unfold execBurstStop at h
  refine Inv.of_onUnit h ?_
  try dsimp only
  try (repeat' split)
  all_goals (first | (simp (maxDischargeDepth := 30) [hs]; done) | (try simp_all (maxDischargeDepth := 30)))
theorem execBurstAbort_inv (fn : Nat) (st : Nat) (s : State) {t : State} (hs : Inv s)
    (h : execBurstAbort fn st s = .next t) : Inv t := by
  unfold execBurstAbort at h
  refine Inv.of_onUnit h ?_
  try dsimp only
  try (repeat' split)
  all_goals (first | (simp (maxDischargeDepth := 30) [hs]; done) | (try simp_all (maxDischargeDepth := 30)))
theorem execBurstAck_inv (fn : Nat) (st : Nat) (s : State) {t : State} (hs : Inv s)
    (h : execBurstAck fn st s = .next t) : Inv t := by
  unfold execBurstAck at h
  refine Inv.of_onUnit h ?_
  try dsimp only
  try (repeat' split)
  all_goals (first | (simp (maxDischargeDepth := 30) [hs]; done) | (try simp_all (maxDischargeDepth := 30)))
theorem execBurstCmdInvalid_inv (fn : Nat) (st : Nat) (op : Nat) (s : State) {t : State} (hs : Inv s)
    (h : execBurstCmdInvalid fn st op s = .next t) : Inv t := by
  unfold execBurstCmdInvalid at h
  refine Inv.of_onUnit h ?_
  try dsimp only
  try (repeat' split)
  all_goals (first | (simp (maxDischargeDepth := 30) [hs]; done) | (try simp_all (maxDischargeDepth := 30)))
theorem execRegionThermalShutdown_inv (r : Nat) (s : State) {t : State} (hs : Inv s)
    (h : execRegionThermalShutdown r s = .next t) : Inv t := by
  unfold execRegionThermalShutdown at h
  refine Inv.of_onUnit h ?_
  try dsimp only
  try (repeat' split)
  all_goals (first | (simp (maxDischargeDepth := 30) [hs]; done) | (try simp_all (maxDischargeDepth := 30)))
theorem execComparatorCrossing_inv (ch : Nat) (cl : Bool) (rising : Bool) (tt : Nat) (s : State) {t : State}
    (hs : Inv s) (h : execComparatorCrossing ch cl rising tt s = .next t) : Inv t := by
  unfold execComparatorCrossing at h
  refine Inv.of_onUnit h ?_
  try dsimp only
  try (repeat' split)
  all_goals (first | (simp (maxDischargeDepth := 30) [hs]; done) | (try simp_all (maxDischargeDepth := 30)))
theorem execCompareResult_inv (ch : Nat) (s : State) {t : State} (hs : Inv s)
    (h : execCompareResult ch s = .next t) : Inv t := by
  unfold execCompareResult at h
  refine Inv.of_onUnit h ?_
  try dsimp only
  try (repeat' split)
  all_goals (first | (simp (maxDischargeDepth := 30) [hs]; done) | (try simp_all (maxDischargeDepth := 30)))
theorem execLclkTick_inv (st : Nat) (s : State) {t : State} (hs : Inv s)
    (h : execLclkTick st s = .next t) : Inv t := by
  unfold execLclkTick at h
  refine Inv.of_onUnit h ?_
  try dsimp only
  try (repeat' split)
  all_goals (first | (simp (maxDischargeDepth := 30) [hs]; done) | (try simp_all (maxDischargeDepth := 30)))
theorem execBlkOwnerWrite_inv (fn : Nat) (ty : Nat) (inst : Nat) (val : Nat) (s : State) {t : State} (hs : Inv s)
    (h : execBlkOwnerWrite fn ty inst val s = .next t) : Inv t := by
  unfold execBlkOwnerWrite at h
  refine Inv.of_onUnit h ?_
  try dsimp only
  try (repeat' split)
  all_goals (first | (simp (maxDischargeDepth := 30) [hs]; done) | (try simp_all (maxDischargeDepth := 30)))
theorem execSiteChMaskWrite_inv (fn : Nat) (st : Nat) (k : Nat) (val : Nat) (s : State) {t : State} (hs : Inv s)
    (h : execSiteChMaskWrite fn st k val s = .next t) : Inv t := by
  unfold execSiteChMaskWrite at h
  refine Inv.of_onUnit h ?_
  try dsimp only
  try (repeat' split)
  all_goals (first | (simp (maxDischargeDepth := 30) [hs]; done) | (try simp_all (maxDischargeDepth := 30)))
theorem execSiteCluMaskWrite_inv (fn : Nat) (st : Nat) (val : Nat) (s : State) {t : State} (hs : Inv s)
    (h : execSiteCluMaskWrite fn st val s = .next t) : Inv t := by
  unfold execSiteCluMaskWrite at h
  refine Inv.of_onUnit h ?_
  try dsimp only
  try (repeat' split)
  all_goals (first | (simp (maxDischargeDepth := 30) [hs]; done) | (try simp_all (maxDischargeDepth := 30)))
theorem execSiteTeMaskWrite_inv (fn : Nat) (st : Nat) (k : Nat) (val : Nat) (s : State) {t : State} (hs : Inv s)
    (h : execSiteTeMaskWrite fn st k val s = .next t) : Inv t := by
  unfold execSiteTeMaskWrite at h
  refine Inv.of_onUnit h ?_
  try dsimp only
  try (repeat' split)
  all_goals (first | (simp (maxDischargeDepth := 30) [hs]; done) | (try simp_all (maxDischargeDepth := 30)))
theorem execSiteQueueRangeWrite_inv (fn : Nat) (st : Nat) (isCount : Bool) (val : Nat) (s : State) {t : State}
    (hs : Inv s) (h : execSiteQueueRangeWrite fn st isCount val s = .next t) : Inv t := by
  unfold execSiteQueueRangeWrite at h
  refine Inv.of_onUnit h ?_
  try dsimp only
  try (repeat' split)
  all_goals (first | (simp (maxDischargeDepth := 30) [hs]; done) | (try simp_all (maxDischargeDepth := 30)))
theorem execHistSample_inv (k : Nat) (s : State) {t : State} (hs : Inv s)
    (h : execHistSample k s = .next t) : Inv t := by
  unfold execHistSample at h
  refine Inv.of_onUnit h ?_
  try dsimp only
  try (repeat' split)
  all_goals (first | (simp (maxDischargeDepth := 30) [hs]; done) | (try simp_all (maxDischargeDepth := 30)))
theorem execHistRunStart_inv (fn : Nat) (k : Nat) (s : State) {t : State} (hs : Inv s)
    (h : execHistRunStart fn k s = .next t) : Inv t := by
  unfold execHistRunStart at h
  refine Inv.of_onUnit h ?_
  try dsimp only
  try (repeat' split)
  all_goals (first | (simp (maxDischargeDepth := 30) [hs]; done) | (try simp_all (maxDischargeDepth := 30)))
theorem execHistRunStop_inv (fn : Nat) (k : Nat) (s : State) {t : State} (hs : Inv s)
    (h : execHistRunStop fn k s = .next t) : Inv t := by
  unfold execHistRunStop at h
  refine Inv.of_onUnit h ?_
  try dsimp only
  try (repeat' split)
  all_goals (first | (simp (maxDischargeDepth := 30) [hs]; done) | (try simp_all (maxDischargeDepth := 30)))
theorem execHistClear_inv (fn : Nat) (k : Nat) (s : State) {t : State} (hs : Inv s)
    (h : execHistClear fn k s = .next t) : Inv t := by
  unfold execHistClear at h
  refine Inv.of_onUnit h ?_
  try dsimp only
  try (repeat' split)
  all_goals (first | (simp (maxDischargeDepth := 30) [hs]; done) | (try simp_all (maxDischargeDepth := 30)))
theorem execCmdlatSample_inv (ns : Nat) (s : State) {t : State} (hs : Inv s) (h : execCmdlatSample ns s = .next t) : Inv t := by
  unfold execCmdlatSample at h
  refine Inv.of_next h ?_
  clear h
  try dsimp only
  try (repeat' split)
  all_goals (first | (simp (maxDischargeDepth := 30) [hs]; done) | (try simp_all (maxDischargeDepth := 30)))
theorem execQdepthSample_inv (s : State) {t : State} (hs : Inv s) (h : execQdepthSample s = .next t) : Inv t := by
  unfold execQdepthSample at h
  refine Inv.of_next h ?_
  clear h
  try dsimp only
  try (repeat' split)
  all_goals (first | (simp (maxDischargeDepth := 30) [hs]; done) | (try simp_all (maxDischargeDepth := 30)))
theorem execCmdClear_inv (fn : Nat) (s : State) {t : State} (hs : Inv s)
    (h : execCmdClear fn s = .next t) : Inv t := by
  unfold execCmdClear at h
  refine Inv.of_onUnit h ?_
  try dsimp only
  try (repeat' split)
  all_goals (first | (simp (maxDischargeDepth := 30) [hs]; done) | (try simp_all (maxDischargeDepth := 30)))
theorem execQdClear_inv (fn : Nat) (s : State) {t : State} (hs : Inv s) (h : execQdClear fn s = .next t) : Inv t := by
  unfold execQdClear at h
  refine Inv.of_onUnit h ?_
  try dsimp only
  try (repeat' split)
  all_goals (first | (simp (maxDischargeDepth := 30) [hs]; done) | (try simp_all (maxDischargeDepth := 30)))
theorem execErrEntryClose_inv (s : State) {t : State} (hs : Inv s) (h : execErrEntryClose s = .next t) : Inv t := by
  unfold execErrEntryClose at h
  refine Inv.of_next h ?_
  clear h
  try dsimp only
  try (repeat' split)
  all_goals (first | (simp (maxDischargeDepth := 30) [hs]; done) | (try simp_all (maxDischargeDepth := 30)))
theorem execErrReserveWrite_inv (s : State) {t : State} (hs : Inv s)
    (h : execErrReserveWrite s = .next t) : Inv t := by
  unfold execErrReserveWrite at h
  refine Inv.of_next h ?_
  clear h
  try dsimp only
  try (repeat' split)
  all_goals (first | (simp (maxDischargeDepth := 30) [hs]; done) | (try simp_all (maxDischargeDepth := 30)))
theorem execErrMirror_inv (s : State) {t : State} (hs : Inv s) (h : execErrMirror s = .next t) : Inv t := by
  unfold execErrMirror at h
  refine Inv.of_next h ?_
  clear h
  try dsimp only
  try (repeat' split)
  all_goals (first | (simp (maxDischargeDepth := 30) [hs]; done) | (try simp_all (maxDischargeDepth := 30)))
theorem execMcLoadDone_inv (sigs : Nat) (s : State) {t : State} (hs : Inv s)
    (h : execMcLoadDone sigs s = .next t) : Inv t := by
  unfold execMcLoadDone at h
  refine Inv.of_next h ?_
  clear h
  try dsimp only
  try (repeat' split)
  all_goals (first | (simp (maxDischargeDepth := 30) [hs]; done) | (try simp_all (maxDischargeDepth := 30)))
theorem execBankAccess_inv (l : List BankReq) (s : State) {t : State} (hs : Inv s)
    (h : execBankAccess l s = .next t) : Inv t := by
  unfold execBankAccess at h
  refine Inv.of_onUnit h ?_
  try dsimp only
  try (repeat' split)
  all_goals (first | (simp (maxDischargeDepth := 30) [hs]; done) | (try simp_all (maxDischargeDepth := 30)))
theorem execBmemTestRegionStart_inv (s : State) {t : State} (hs : Inv s)
    (h : execBmemTestRegionStart s = .next t) : Inv t := by
  unfold execBmemTestRegionStart at h
  refine Inv.of_next h ?_
  clear h
  try dsimp only
  try (repeat' split)
  all_goals (first | (simp (maxDischargeDepth := 30) [hs]; done) | (try simp_all (maxDischargeDepth := 30)))
theorem execBmemMarchDone_inv (fails : List Nat) (s : State) {t : State} (hs : Inv s)
    (h : execBmemMarchDone fails s = .next t) : Inv t := by
  unfold execBmemMarchDone at h
  refine Inv.of_next h ?_
  clear h
  try dsimp only
  try (repeat' split)
  all_goals (first | (simp (maxDischargeDepth := 30) [hs]; done) | (try simp_all (maxDischargeDepth := 30)))
theorem execHbmTempRefresh_inv (t0 t1 t2 : Int × Nat) (s : State) {t : State} (hs : Inv s)
    (h : execHbmTempRefresh t0 t1 t2 s = .next t) : Inv t := by
  unfold execHbmTempRefresh at h
  refine Inv.of_next h ?_
  clear h
  try dsimp only
  try (repeat' split)
  all_goals (first | (simp (maxDischargeDepth := 30) [hs]; done) | (try simp_all (maxDischargeDepth := 30)))
theorem execHbmBwWindow_inv (i : Nat) (served : List Nat) (demand : List Nat) (thr : Nat) (bp : Bool) (s : State)
    {t : State} (hs : Inv s) (h : execHbmBwWindow i served demand thr bp s = .next t) : Inv t := by
  unfold execHbmBwWindow at h
  refine Inv.of_onUnit h ?_
  try dsimp only
  try (repeat' split)
  all_goals (first | (simp (maxDischargeDepth := 30) [hs]; done) | (try simp_all (maxDischargeDepth := 30)))
theorem execCmdNop_inv (q : Nat) (s : State) {t : State} (hs : Inv s) (h : execCmdNop q s = .next t) : Inv t := by
  unfold execCmdNop at h
  refine Inv.of_onUnit h ?_
  try dsimp only
  try (repeat' split)
  all_goals (first | (simp (maxDischargeDepth := 30) [hs]; done) | (try simp_all (maxDischargeDepth := 30)))
theorem execCmdUnknown_inv (q : Nat) (s : State) {t : State} (hs : Inv s)
    (h : execCmdUnknown q s = .next t) : Inv t := by
  unfold execCmdUnknown at h
  refine Inv.of_onUnit h ?_
  try dsimp only
  try (repeat' split)
  all_goals (first | (simp (maxDischargeDepth := 30) [hs]; done) | (try simp_all (maxDischargeDepth := 30)))
theorem execCopyIn_inv (q : Nat) (data : List Byte) (s : State) {t : State} (hs : Inv s)
    (h : execCopyIn q data s = .next t) : Inv t := by
  unfold execCopyIn at h
  refine Inv.of_onUnit h ?_
  try dsimp only
  try (repeat' split)
  all_goals (first | (simp (maxDischargeDepth := 30) [hs]; done) | (try simp_all (maxDischargeDepth := 30)))
theorem execCopyOut_inv (q : Nat) (err : Option Nat) (s : State) {t : State} (hs : Inv s)
    (h : execCopyOut q err s = .next t) : Inv t := by
  unfold execCopyOut at h
  refine Inv.of_onUnit h ?_
  try dsimp only
  try (repeat' split)
  all_goals (first | (simp (maxDischargeDepth := 30) [hs]; done) | (try simp_all (maxDischargeDepth := 30)))
theorem execQueueOut_inv (q : Nat) (err : Option Nat) (s : State) {t : State} (hs : Inv s)
    (h : execQueueOut q err s = .next t) : Inv t := by
  unfold execQueueOut at h
  refine Inv.of_onUnit h ?_
  try dsimp only
  try (repeat' split)
  all_goals (first | (simp (maxDischargeDepth := 30) [hs]; done) | (try simp_all (maxDischargeDepth := 30)))
theorem execBarrierSet_inv (q : Nat) (s : State) {t : State} (hs : Inv s)
    (h : execBarrierSet q s = .next t) : Inv t := by
  unfold execBarrierSet at h
  refine Inv.of_onUnit h ?_
  try dsimp only
  try (repeat' split)
  all_goals (first | (simp (maxDischargeDepth := 30) [hs]; done) | (try simp_all (maxDischargeDepth := 30)))
theorem execFcuScrambleLoad_inv (q : Nat) (s : State) {t : State} (hs : Inv s)
    (h : execFcuScrambleLoad q s = .next t) : Inv t := by
  unfold execFcuScrambleLoad at h
  refine Inv.of_onUnit h ?_
  try dsimp only
  try (repeat' split)
  all_goals (first | (simp (maxDischargeDepth := 30) [hs]; done) | (try simp_all (maxDischargeDepth := 30)))
theorem execCalRead_inv (q : Nat) (err : Option Nat) (s : State) {t : State} (hs : Inv s)
    (h : execCalRead q err s = .next t) : Inv t := by
  unfold execCalRead at h
  refine Inv.of_onUnit h ?_
  try dsimp only
  try (repeat' split)
  all_goals (first | (simp (maxDischargeDepth := 30) [hs]; done) | (try simp_all (maxDischargeDepth := 30)))
theorem execMcInstall_inv (q : Nat) (key : List Byte) (s : State) {t : State} (hs : Inv s)
    (h : execMcInstall q key s = .next t) : Inv t := by
  unfold execMcInstall at h
  refine Inv.of_onUnit h ?_
  try dsimp only
  try (repeat' split)
  all_goals (first | (simp (maxDischargeDepth := 30) [hs]; done) | (try simp_all (maxDischargeDepth := 30)))
theorem execMcInstallDone_inv (s : State) {t : State} (hs : Inv s) (h : execMcInstallDone s = .next t) : Inv t := by
  unfold execMcInstallDone at h
  refine Inv.of_next h ?_
  clear h
  try dsimp only
  try (repeat' split)
  all_goals (first | (simp (maxDischargeDepth := 30) [hs]; done) | (try simp_all (maxDischargeDepth := 30)))
theorem execMemGrant_inv (q : Nat) (s : State) {t : State} (hs : Inv s) (h : execMemGrant q s = .next t) : Inv t := by
  unfold execMemGrant at h
  refine Inv.of_onUnit h ?_
  try dsimp only
  try (repeat' split)
  all_goals (first | (simp (maxDischargeDepth := 30) [hs]; done) | (try simp_all (maxDischargeDepth := 30)))
theorem execMemGrantDone_inv (s : State) {t : State} (hs : Inv s) (h : execMemGrantDone s = .next t) : Inv t := by
  unfold execMemGrantDone at h
  refine Inv.of_next h ?_
  clear h
  try dsimp only
  try (repeat' split)
  all_goals (first | (simp (maxDischargeDepth := 30) [hs]; done) | (try simp_all (maxDischargeDepth := 30)))
theorem execHbmUncorrRead_inv (addr : Nat) (who : Nat) (i : Nat) (j : Nat) (s : State) {t : State} (hs : Inv s)
    (h : execHbmUncorrRead addr who i j s = .next t) : Inv t := by
  unfold execHbmUncorrRead at h
  refine Inv.of_onUnit h ?_
  try dsimp only
  try (repeat' split)
  all_goals (first | (simp (maxDischargeDepth := 30) [hs]; done) | (try simp_all (maxDischargeDepth := 30)))
theorem execGlbHostTimeCommit_inv (fn : Nat) (hi : Nat) (s : State) {t : State} (hs : Inv s)
    (h : execGlbHostTimeCommit fn hi s = .next t) : Inv t := by
  unfold execGlbHostTimeCommit at h
  refine Inv.of_onUnit h ?_
  try dsimp only
  try (repeat' split)
  all_goals (first | (simp (maxDischargeDepth := 30) [hs]; done) | (try simp_all (maxDischargeDepth := 30)))
theorem execHwBoundWrite_inv (s : State) {t : State} (hs : Inv s) (h : execHwBoundWrite s = .next t) : Inv t := by
  unfold execHwBoundWrite at h
  refine Inv.of_next h ?_
  clear h
  try dsimp only
  try (repeat' split)
  all_goals (first | (simp (maxDischargeDepth := 30) [hs]; done) | (try simp_all (maxDischargeDepth := 30)))
theorem execDoeUnknown_inv (fn : Nat) (raw : List Byte) (s : State) {t : State} (hs : Inv s)
    (h : execDoeUnknown fn raw s = .next t) : Inv t := by
  unfold execDoeUnknown at h
  refine Inv.of_onUnit h ?_
  try dsimp only
  try (repeat' split)
  all_goals (first | (simp (maxDischargeDepth := 30) [hs]; done) | (try simp_all (maxDischargeDepth := 30)))
theorem execDoeStatus_inv (fn : Nat) (raw : List Byte) (s : State) {t : State} (hs : Inv s)
    (h : execDoeStatus fn raw s = .next t) : Inv t := by
  unfold execDoeStatus at h
  refine Inv.of_onUnit h ?_
  try dsimp only
  try (repeat' split)
  all_goals (first | (simp (maxDischargeDepth := 30) [hs]; done) | (try simp_all (maxDischargeDepth := 30)))
theorem execLoad_inv (fn : Nat) (head src len dest : List Byte) (s : State) {t : State} (hs : Inv s)
    (h : execLoad fn head src len dest s = .next t) : Inv t := by
  unfold execLoad at h
  refine Inv.of_onUnit h ?_
  try dsimp only
  try (repeat' split)
  all_goals (first | (simp (maxDischargeDepth := 30) [hs]; done) | (try simp_all (maxDischargeDepth := 30)))
theorem execUnload_inv (fn : Nat) (raw : List Byte) (s : State) {t : State} (hs : Inv s)
    (h : execUnload fn raw s = .next t) : Inv t := by
  unfold execUnload at h
  refine Inv.of_onUnit h ?_
  try dsimp only
  try (repeat' split)
  all_goals (first | (simp (maxDischargeDepth := 30) [hs]; done) | (try simp_all (maxDischargeDepth := 30)))
theorem execFwInstall_inv (fn : Nat) (raw : List Byte) (sig : FwVerdict) (s : State) {t : State} (hs : Inv s)
    (h : execFwInstall fn raw sig s = .next t) : Inv t := by
  unfold execFwInstall at h
  refine Inv.of_onUnit h ?_
  try dsimp only
  try (repeat' split)
  all_goals (first | (simp (maxDischargeDepth := 30) [hs]; done) | (try simp_all (maxDischargeDepth := 30)))
theorem execFwRecover_inv (fn : Nat) (raw : List Byte) (sig : FwVerdict) (s : State) {t : State} (hs : Inv s)
    (h : execFwRecover fn raw sig s = .next t) : Inv t := by
  unfold execFwRecover at h
  refine Inv.of_onUnit h ?_
  try dsimp only
  try (repeat' split)
  all_goals (first | (simp (maxDischargeDepth := 30) [hs]; done) | (try simp_all (maxDischargeDepth := 30)))
theorem execFloorCommit_inv (fn : Nat) (raw : List Byte) (s : State) {t : State} (hs : Inv s)
    (h : execFloorCommit fn raw s = .next t) : Inv t := by
  unfold execFloorCommit at h
  refine Inv.of_onUnit h ?_
  try dsimp only
  try (repeat' split)
  all_goals (first | (simp (maxDischargeDepth := 30) [hs]; done) | (try simp_all (maxDischargeDepth := 30)))
theorem execSecSealedSitesWrite_inv (fn : Nat) (val : Nat) (s : State) {t : State} (hs : Inv s)
    (h : execSecSealedSitesWrite fn val s = .next t) : Inv t := by
  unfold execSecSealedSitesWrite at h
  refine Inv.of_onUnit h ?_
  try dsimp only
  try (repeat' split)
  all_goals (first | (simp (maxDischargeDepth := 30) [hs]; done) | (try simp_all (maxDischargeDepth := 30)))
theorem execLifecycleTransition_inv (fn : Nat) (to_ : Nat) (token : Nat) (rest : Nat) (s : State) {t : State}
    (hs : Inv s) (h : execLifecycleTransition fn to_ token rest s = .next t) : Inv t := by
  unfold execLifecycleTransition at h
  refine Inv.of_onUnit h ?_
  try dsimp only
  try (repeat' split)
  all_goals (first | (simp (maxDischargeDepth := 30) [hs]; done) | (try simp_all (maxDischargeDepth := 30)))
theorem execLcDone_inv (s : State) {t : State} (hs : Inv s) (h : execLcDone s = .next t) : Inv t := by
  unfold execLcDone at h
  refine Inv.of_next h ?_
  clear h
  try dsimp only
  try (repeat' split)
  all_goals (first | (simp (maxDischargeDepth := 30) [hs]; done) | (try simp_all (maxDischargeDepth := 30)))
theorem execTamper_inv (src : Nat) (s : State) {t : State} (hs : Inv s) (h : execTamper src s = .next t) : Inv t := by
  unfold execTamper at h
  refine Inv.of_onUnit h ?_
  try dsimp only
  try (repeat' split)
  all_goals (first | (simp (maxDischargeDepth := 30) [hs]; done) | (try simp_all (maxDischargeDepth := 30)))
theorem execTamperConditionEnd_inv (src : Nat) (s : State) {t : State} (hs : Inv s)
    (h : execTamperConditionEnd src s = .next t) : Inv t := by
  unfold execTamperConditionEnd at h
  refine Inv.of_onUnit h ?_
  try dsimp only
  try (repeat' split)
  all_goals (first | (simp (maxDischargeDepth := 30) [hs]; done) | (try simp_all (maxDischargeDepth := 30)))
theorem execIdeIntegrityFail_inv (fn : Nat) (s : State) {t : State} (hs : Inv s)
    (h : execIdeIntegrityFail fn s = .next t) : Inv t := by
  unfold execIdeIntegrityFail at h
  refine Inv.of_onUnit h ?_
  try dsimp only
  try (repeat' split)
  all_goals (first | (simp (maxDischargeDepth := 30) [hs]; done) | (try simp_all (maxDischargeDepth := 30)))
theorem execSpdmGetVersion_inv (path : Nat) (s : State) {t : State} (hs : Inv s)
    (h : execSpdmGetVersion path s = .next t) : Inv t := by
  unfold execSpdmGetVersion at h
  refine State.onSpdm_inv _ _ _ hs (fun u hu => ?_) h
  try clear h
  try dsimp only
  try (repeat' split)
  all_goals (first | (simp (maxDischargeDepth := 30) [hs]; done) | (try simp_all (maxDischargeDepth := 30)))
theorem execSpdmGetCapabilities_inv (path : Nat) (req : List Byte) (s : State) {t : State} (hs : Inv s)
    (h : execSpdmGetCapabilities path req s = .next t) : Inv t := by
  unfold execSpdmGetCapabilities at h
  refine State.onSpdm_inv _ _ _ hs (fun u hu => ?_) h
  try clear h
  try dsimp only
  try (repeat' split)
  all_goals (first | (simp (maxDischargeDepth := 30) [hs]; done) | (try simp_all (maxDischargeDepth := 30)))
theorem execSpdmNegotiateAlgorithms_inv (path : Nat) (req : List Byte) (s : State) {t : State} (hs : Inv s)
    (h : execSpdmNegotiateAlgorithms path req s = .next t) : Inv t := by
  unfold execSpdmNegotiateAlgorithms at h
  refine State.onSpdm_inv _ _ _ hs (fun u hu => ?_) h
  try clear h
  try dsimp only
  try (repeat' split)
  all_goals (first | (simp (maxDischargeDepth := 30) [hs]; done) | (try simp_all (maxDischargeDepth := 30)))
theorem execSpdmGetDigests_inv (path : Nat) (s : State) {t : State} (hs : Inv s)
    (h : execSpdmGetDigests path s = .next t) : Inv t := by
  unfold execSpdmGetDigests at h
  refine State.onSpdm_inv _ _ _ hs (fun u hu => ?_) h
  try clear h
  try dsimp only
  try (repeat' split)
  all_goals (first | (simp (maxDischargeDepth := 30) [hs]; done) | (try simp_all (maxDischargeDepth := 30)))
theorem execSpdmGetCertificate_inv (path : Nat) (slot : Nat) (off : Nat) (len : Nat) (s : State) {t : State}
    (hs : Inv s) (h : execSpdmGetCertificate path slot off len s = .next t) : Inv t := by
  unfold execSpdmGetCertificate at h
  refine State.onSpdm_inv _ _ _ hs (fun u hu => ?_) h
  try clear h
  try dsimp only
  try (repeat' split)
  all_goals (first | (simp (maxDischargeDepth := 30) [hs]; done) | (try simp_all (maxDischargeDepth := 30)))
theorem execSpdmChallenge_inv (path : Nat) (req : List Byte) (s : State) {t : State} (hs : Inv s)
    (h : execSpdmChallenge path req s = .next t) : Inv t := by
  unfold execSpdmChallenge at h
  refine State.onSpdm_inv _ _ _ hs (fun u hu => ?_) h
  try clear h
  try dsimp only
  try (repeat' split)
  all_goals (first | (simp (maxDischargeDepth := 30) [hs]; done) | (try simp_all (maxDischargeDepth := 30)))
theorem execSpdmGetMeasurements_inv (path : Nat) (req : List Byte) (s : State) {t : State} (hs : Inv s)
    (h : execSpdmGetMeasurements path req s = .next t) : Inv t := by
  unfold execSpdmGetMeasurements at h
  refine State.onSpdm_inv _ _ _ hs (fun u hu => ?_) h
  try clear h
  try dsimp only
  try (repeat' split)
  all_goals (first | (simp (maxDischargeDepth := 30) [hs]; done) | (try simp_all (maxDischargeDepth := 30)))
theorem execSpdmKeyExchange_inv (path : Nat) (req : List Byte) (s : State) {t : State} (hs : Inv s)
    (h : execSpdmKeyExchange path req s = .next t) : Inv t := by
  unfold execSpdmKeyExchange at h
  refine State.onSpdm_inv _ _ _ hs (fun u hu => ?_) h
  try clear h
  try dsimp only
  try (repeat' split)
  all_goals (first | (simp (maxDischargeDepth := 30) [hs]; done) | (try simp_all (maxDischargeDepth := 30)))
theorem execSpdmFinish_inv (path : Nat) (ok : Bool) (s : State) {t : State} (hs : Inv s)
    (h : execSpdmFinish path ok s = .next t) : Inv t := by
  unfold execSpdmFinish at h
  refine State.onSpdm_inv _ _ _ hs (fun u hu => ?_) h
  try clear h
  try dsimp only
  try (repeat' split)
  all_goals (first | (simp (maxDischargeDepth := 30) [hs]; done) | (try simp_all (maxDischargeDepth := 30)))
theorem execSpdmHeartbeat_inv (path : Nat) (s : State) {t : State} (hs : Inv s)
    (h : execSpdmHeartbeat path s = .next t) : Inv t := by
  unfold execSpdmHeartbeat at h
  refine State.onSpdm_inv _ _ _ hs (fun u hu => ?_) h
  try clear h
  try dsimp only
  try (repeat' split)
  all_goals (first | (simp (maxDischargeDepth := 30) [hs]; done) | (try simp_all (maxDischargeDepth := 30)))
theorem execSpdmKeyUpdate_inv (path : Nat) (s : State) {t : State} (hs : Inv s)
    (h : execSpdmKeyUpdate path s = .next t) : Inv t := by
  unfold execSpdmKeyUpdate at h
  refine State.onSpdm_inv _ _ _ hs (fun u hu => ?_) h
  try clear h
  try dsimp only
  try (repeat' split)
  all_goals (first | (simp (maxDischargeDepth := 30) [hs]; done) | (try simp_all (maxDischargeDepth := 30)))
theorem execSpdmEndSession_inv (path : Nat) (s : State) {t : State} (hs : Inv s)
    (h : execSpdmEndSession path s = .next t) : Inv t := by
  unfold execSpdmEndSession at h
  refine State.onSpdm_inv _ _ _ hs (fun u hu => ?_) h
  try clear h
  try dsimp only
  try (repeat' split)
  all_goals (first | (simp (maxDischargeDepth := 30) [hs]; done) | (try simp_all (maxDischargeDepth := 30)))
theorem execSpdmUnsupported_inv (path : Nat) (s : State) {t : State} (hs : Inv s)
    (h : execSpdmUnsupported path s = .next t) : Inv t := by
  unfold execSpdmUnsupported at h
  refine State.onSpdm_inv _ _ _ hs (fun u hu => ?_) h
  try clear h
  try dsimp only
  try (repeat' split)
  all_goals (first | (simp (maxDischargeDepth := 30) [hs]; done) | (try simp_all (maxDischargeDepth := 30)))
theorem execIdeKm_inv (req : IdeKm) (s : State) {t : State} (hs : Inv s) (h : execIdeKm req s = .next t) : Inv t := by
  unfold execIdeKm at h
  refine State.onSpdm_inv _ _ _ hs (fun u hu => ?_) h
  try clear h
  try dsimp only
  try (repeat' split)
  all_goals (first | (simp (maxDischargeDepth := 30) [hs]; done) | (try simp_all (maxDischargeDepth := 30)))
theorem execSetEndpointId_inv (op : Nat) (eid : Nat) (s : State) {t : State} (hs : Inv s)
    (h : execSetEndpointId op eid s = .next t) : Inv t := by
  unfold execSetEndpointId at h
  refine Inv.of_next h ?_
  clear h
  try dsimp only
  try (repeat' split)
  all_goals (first | (simp (maxDischargeDepth := 30) [hs]; done) | (try simp_all (maxDischargeDepth := 30)))
theorem execGetEndpointId_inv (s : State) {t : State} (hs : Inv s) (h : execGetEndpointId s = .next t) : Inv t := by
  unfold execGetEndpointId at h
  refine Inv.of_next h ?_
  clear h
  try dsimp only
  try (repeat' split)
  all_goals (first | (simp (maxDischargeDepth := 30) [hs]; done) | (try simp_all (maxDischargeDepth := 30)))
theorem execGetEndpointUuid_inv (s : State) {t : State} (hs : Inv s)
    (h : execGetEndpointUuid s = .next t) : Inv t := by
  unfold execGetEndpointUuid at h
  refine Inv.of_next h ?_
  clear h
  try dsimp only
  try (repeat' split)
  all_goals (first | (simp (maxDischargeDepth := 30) [hs]; done) | (try simp_all (maxDischargeDepth := 30)))
theorem execGetMctpVersionSupport_inv (type : Nat) (s : State) {t : State} (hs : Inv s)
    (h : execGetMctpVersionSupport type s = .next t) : Inv t := by
  unfold execGetMctpVersionSupport at h
  refine Inv.of_next h ?_
  clear h
  try dsimp only
  try (repeat' split)
  all_goals (first | (simp (maxDischargeDepth := 30) [hs]; done) | (try simp_all (maxDischargeDepth := 30)))
theorem execGetMessageTypeSupport_inv (s : State) {t : State} (hs : Inv s)
    (h : execGetMessageTypeSupport s = .next t) : Inv t := by
  unfold execGetMessageTypeSupport at h
  refine Inv.of_next h ?_
  clear h
  try dsimp only
  try (repeat' split)
  all_goals (first | (simp (maxDischargeDepth := 30) [hs]; done) | (try simp_all (maxDischargeDepth := 30)))
theorem execMctpUnsupported_inv (type : Nat) (cmd : Nat) (s : State) {t : State} (hs : Inv s)
    (h : execMctpUnsupported type cmd s = .next t) : Inv t := by
  unfold execMctpUnsupported at h
  refine Inv.of_next h ?_
  clear h
  try dsimp only
  try (repeat' split)
  all_goals (first | (simp (maxDischargeDepth := 30) [hs]; done) | (try simp_all (maxDischargeDepth := 30)))
theorem execExtest_inv (seen : Nat) (drive : Nat) (s : State) {t : State} (hs : Inv s)
    (h : execExtest seen drive s = .next t) : Inv t := by
  unfold execExtest at h
  refine Inv.of_next h ?_
  clear h
  try dsimp only
  try (repeat' split)
  all_goals (first | (simp (maxDischargeDepth := 30) [hs]; done) | (try simp_all (maxDischargeDepth := 30)))
theorem execIdcode_inv (s : State) {t : State} (hs : Inv s) (h : execIdcode s = .next t) : Inv t := by
  unfold execIdcode at h
  refine Inv.of_next h ?_
  clear h
  try dsimp only
  try (repeat' split)
  all_goals (first | (simp (maxDischargeDepth := 30) [hs]; done) | (try simp_all (maxDischargeDepth := 30)))
theorem execSamplePreload_inv (seen : Nat) (load : Nat) (s : State) {t : State} (hs : Inv s)
    (h : execSamplePreload seen load s = .next t) : Inv t := by
  unfold execSamplePreload at h
  refine Inv.of_next h ?_
  clear h
  try dsimp only
  try (repeat' split)
  all_goals (first | (simp (maxDischargeDepth := 30) [hs]; done) | (try simp_all (maxDischargeDepth := 30)))
theorem execClamp_inv (s : State) {t : State} (hs : Inv s) (h : execClamp s = .next t) : Inv t := by
  unfold execClamp at h
  refine Inv.of_next h ?_
  clear h
  try dsimp only
  try (repeat' split)
  all_goals (first | (simp (maxDischargeDepth := 30) [hs]; done) | (try simp_all (maxDischargeDepth := 30)))
theorem execHighz_inv (s : State) {t : State} (hs : Inv s) (h : execHighz s = .next t) : Inv t := by
  unfold execHighz at h
  refine Inv.of_next h ?_
  clear h
  try dsimp only
  try (repeat' split)
  all_goals (first | (simp (maxDischargeDepth := 30) [hs]; done) | (try simp_all (maxDischargeDepth := 30)))
theorem execBypass_inv (code : Nat) (s : State) {t : State} (hs : Inv s)
    (h : execBypass code s = .next t) : Inv t := by
  unfold execBypass at h
  refine Inv.of_next h ?_
  clear h
  try dsimp only
  try (repeat' split)
  all_goals (first | (simp (maxDischargeDepth := 30) [hs]; done) | (try simp_all (maxDischargeDepth := 30)))
theorem execBlkEnClear_inv (fn : Nat) (ty : Nat) (inst : Nat) (s : State) {t : State} (hs : Inv s)
    (h : execBlkEnClear fn ty inst s = .next t) : Inv t := by
  unfold execBlkEnClear at h
  refine Inv.of_onUnit h ?_
  try dsimp only
  try (repeat' split)
  all_goals (first | (simp (maxDischargeDepth := 30) [hs]; done) | (try simp_all (maxDischargeDepth := 30)))
theorem execBlkEnSet_inv (fn : Nat) (ty : Nat) (inst : Nat) (s : State) {t : State} (hs : Inv s)
    (h : execBlkEnSet fn ty inst s = .next t) : Inv t := by
  unfold execBlkEnSet at h
  refine Inv.of_onUnit h ?_
  try dsimp only
  try (repeat' split)
  all_goals (first | (simp (maxDischargeDepth := 30) [hs]; done) | (try simp_all (maxDischargeDepth := 30)))
theorem execBlkSoftReset_inv (fn : Nat) (ty : Nat) (inst : Nat) (s : State) {t : State} (hs : Inv s)
    (h : execBlkSoftReset fn ty inst s = .next t) : Inv t := by
  unfold execBlkSoftReset at h
  refine Inv.of_onUnit h ?_
  try dsimp only
  try (repeat' split)
  all_goals (first | (simp (maxDischargeDepth := 30) [hs]; done) | (try simp_all (maxDischargeDepth := 30)))
theorem execBlkLock_inv (fn : Nat) (ty : Nat) (inst : Nat) (s : State) {t : State} (hs : Inv s)
    (h : execBlkLock fn ty inst s = .next t) : Inv t := by
  unfold execBlkLock at h
  refine Inv.of_onUnit h ?_
  try dsimp only
  try (repeat' split)
  all_goals (first | (simp (maxDischargeDepth := 30) [hs]; done) | (try simp_all (maxDischargeDepth := 30)))
theorem execSoftResetDone_inv (ty : Nat) (inst : Nat) (s : State) {t : State} (hs : Inv s)
    (h : execSoftResetDone ty inst s = .next t) : Inv t := by
  unfold execSoftResetDone at h
  refine Inv.of_onUnit h ?_
  try dsimp only
  try (repeat' split)
  all_goals (first | (simp (maxDischargeDepth := 30) [hs]; done) | (try simp_all (maxDischargeDepth := 30)))
theorem execBlkIrqSet_inv (fn : Nat) (ty : Nat) (inst : Nat) (val : Nat) (s : State) {t : State} (hs : Inv s)
    (h : execBlkIrqSet fn ty inst val s = .next t) : Inv t := by
  unfold execBlkIrqSet at h
  refine Inv.of_onUnit h ?_
  try dsimp only
  try (repeat' split)
  all_goals (first | (simp (maxDischargeDepth := 30) [hs]; done) | (try simp_all (maxDischargeDepth := 30)))
theorem execBlkIrqEnableWrite_inv (fn : Nat) (ty : Nat) (inst : Nat) (val : Nat) (s : State) {t : State}
    (hs : Inv s) (h : execBlkIrqEnableWrite fn ty inst val s = .next t) : Inv t := by
  unfold execBlkIrqEnableWrite at h
  refine Inv.of_onUnit h ?_
  try dsimp only
  try (repeat' split)
  all_goals (first | (simp (maxDischargeDepth := 30) [hs]; done) | (try simp_all (maxDischargeDepth := 30)))
theorem execBroadcastWrite_inv (fn : Nat) (ty : Nat) (inst : Nat) (off : Nat) (val : Nat) (s : State) {t : State}
    (hs : Inv s) (h : execBroadcastWrite fn ty inst off val s = .next t) : Inv t := by
  unfold execBroadcastWrite at h
  refine Inv.of_onUnit h ?_
  try dsimp only
  try (repeat' split)
  all_goals (first | (simp (maxDischargeDepth := 30) [hs]; done) | (try simp_all (maxDischargeDepth := 30)))
theorem execRegWrite_inv (fn : Nat) (a : Nat) (be : Nat) (val : Nat) (s : State) {t : State} (hs : Inv s)
    (h : execRegWrite fn a be val s = .next t) : Inv t := by
  unfold execRegWrite at h
  refine Inv.of_onUnit h ?_
  try dsimp only
  try (repeat' split)
  all_goals (first | (simp (maxDischargeDepth := 30) [hs]; done) | (try simp_all (maxDischargeDepth := 30)))
theorem execRcRead_inv (fn : Nat) (a : Nat) (be : Nat) (s : State) {t : State} (hs : Inv s)
    (h : execRcRead fn a be s = .next t) : Inv t := by
  unfold execRcRead at h
  refine Inv.of_onUnit h ?_
  try dsimp only
  try (repeat' split)
  all_goals (first | (simp (maxDischargeDepth := 30) [hs]; done) | (try simp_all (maxDischargeDepth := 30)))
theorem execPairLoWrite_inv (fn : Nat) (ty : Nat) (inst : Nat) (lo : Nat) (val : Nat) (s : State) {t : State}
    (hs : Inv s) (h : execPairLoWrite fn ty inst lo val s = .next t) : Inv t := by
  unfold execPairLoWrite at h
  refine Inv.of_onUnit h ?_
  try dsimp only
  try (repeat' split)
  all_goals (first | (simp (maxDischargeDepth := 30) [hs]; done) | (try simp_all (maxDischargeDepth := 30)))
theorem execPairHiCommit_inv (fn : Nat) (ty : Nat) (inst : Nat) (lo : Nat) (val : Nat) (s : State) {t : State}
    (hs : Inv s) (h : execPairHiCommit fn ty inst lo val s = .next t) : Inv t := by
  unfold execPairHiCommit at h
  refine Inv.of_onUnit h ?_
  try dsimp only
  try (repeat' split)
  all_goals (first | (simp (maxDischargeDepth := 30) [hs]; done) | (try simp_all (maxDischargeDepth := 30)))
theorem execPairLoRead_inv (fn : Nat) (ty : Nat) (inst : Nat) (lo : Nat) (s : State) {t : State} (hs : Inv s)
    (h : execPairLoRead fn ty inst lo s = .next t) : Inv t := by
  unfold execPairLoRead at h
  refine Inv.of_onUnit h ?_
  try dsimp only
  try (repeat' split)
  all_goals (first | (simp (maxDischargeDepth := 30) [hs]; done) | (try simp_all (maxDischargeDepth := 30)))
theorem execBind_inv (fn : Nat) (raw : List Byte) (s : State) {t : State} (hs : Inv s)
    (h : execBind fn raw s = .next t) : Inv t := by
  unfold execBind at h
  refine Inv.of_onUnit h ?_
  try dsimp only
  try (repeat' split)
  all_goals (first | (simp (maxDischargeDepth := 30) [hs]; done) | (try simp_all (maxDischargeDepth := 30)))

theorem execHbmClearDone_inv (failed : Nat) (s : State) {t : State} (hs : Inv s)
    (h : execHbmClearDone failed s = .next t) : Inv t := by
  unfold execHbmClearDone at h
  refine Inv.of_next h ?_
  clear h
  try dsimp only
  try (repeat' split)
  all_goals (first | (simp (maxDischargeDepth := 30) [hs]; done) | (try simp_all (maxDischargeDepth := 30)))
theorem execRekeyDone_inv (h : Nat) (s : State) {t : State} (hs : Inv s)
    (h : execRekeyDone h s = .next t) : Inv t := by
  unfold execRekeyDone at h
  refine Inv.of_onUnit h ?_
  try dsimp only
  try (repeat' split)
  all_goals (first | (simp (maxDischargeDepth := 30) [hs]; done) | (try simp_all (maxDischargeDepth := 30)))
theorem execResultFrameClose_inv (st : Nat) (kind : Nat) (inst : Nat) (s : State) {t : State} (hs : Inv s)
    (h : execResultFrameClose st kind inst s = .next t) : Inv t := by
  unfold execResultFrameClose at h
  refine Inv.of_onUnit h ?_
  try dsimp only
  try (repeat' split)
  all_goals (first | (simp (maxDischargeDepth := 30) [hs]; done) | (try simp_all (maxDischargeDepth := 30)))
theorem execNorRecordWriteDone_inv (s : State) {t : State} (hs : Inv s)
    (h : execNorRecordWriteDone s = .next t) : Inv t := by
  unfold execNorRecordWriteDone at h
  refine Inv.of_next h ?_
  clear h
  try dsimp only
  try (repeat' split)
  all_goals (first | (simp (maxDischargeDepth := 30) [hs]; done) | (try simp_all (maxDischargeDepth := 30)))

end Sys2Proof.Machine
end

