-- ==== Sys2Proof/Laws/Outer.lean ====
section
/-! SUPPORT. No command touches the queue of commands, the clock or the grade: what `State.outer` reads stays, one law per
operation. -/

namespace Sys2Proof.Machine

/-- The queue of commands, the clock of the timers, the grade. -/
def State.outer (s : State) : List Instr × Nat × Bool := (s.pending, s.uptime, s.grade08)

variable (s : State)
@[simp] theorem State.modFn_outer (i : Nat) (f : Fn → Fn) : (s.modFn i f).outer = s.outer := (rfl)
@[simp] theorem State.modSite_outer (i : Nat) (f : Site → Site) : (s.modSite i f).outer = s.outer := (rfl)
@[simp] theorem State.modQueue_outer (i : Nat) (f : QDesc → QDesc) : (s.modQueue i f).outer = s.outer := (rfl)
@[simp] theorem State.modHbm_outer (i : Nat) (f : Hbm → Hbm) : (s.modHbm i f).outer = s.outer := (rfl)
@[simp] theorem State.modCal_outer (i : Nat) (f : Cal → Cal) : (s.modCal i f).outer = s.outer := (rfl)
@[simp] theorem State.modClu_outer (i : Nat) (f : Clu → Clu) : (s.modClu i f).outer = s.outer := (rfl)
@[simp] theorem State.modRgn_outer (i : Nat) (f : Rgn → Rgn) : (s.modRgn i f).outer = s.outer := (rfl)
@[simp] theorem State.modFcu_outer (i : Nat) (f : Fcu → Fcu) : (s.modFcu i f).outer = s.outer := (rfl)
@[simp] theorem State.modMadc_outer (i : Nat) (f : Madc → Madc) : (s.modMadc i f).outer = s.outer := (rfl)
@[simp] theorem State.modAcq_outer (i : Nat) (f : Acq → Acq) : (s.modAcq i f).outer = s.outer := (rfl)
@[simp] theorem State.modHist_outer (i : Nat) (f : Hist → Hist) : (s.modHist i f).outer = s.outer := (rfl)
@[simp] theorem State.modChan_outer (i : Nat) (f : Chan → Chan) : (s.modChan i f).outer = s.outer := (rfl)
@[simp] theorem State.modTe_outer (i : Nat) (f : Eng → Eng) : (s.modTe i f).outer = s.outer := (rfl)
@[simp] theorem State.modFault_outer (i : Nat) (f : Fault1 → Fault1) : (s.modFault i f).outer = s.outer := (rfl)
@[simp] theorem State.modTrigIn_outer (i : Nat) (f : TrigIn → TrigIn) : (s.modTrigIn i f).outer = s.outer := (rfl)
@[simp] theorem State.modTrigOut_outer (i : Nat) (f : TrigOut → TrigOut) : (s.modTrigOut i f).outer = s.outer := (rfl)
@[simp] theorem State.modSecSite_outer (i : Nat) (f : SecSite → SecSite) : (s.modSecSite i f).outer = s.outer := (rfl)
@[simp] theorem State.modGlb_outer (f : Glb → Glb) : (s.modGlb f).outer = s.outer := (rfl)
@[simp] theorem State.modPwr_outer (f : Pwr → Pwr) : (s.modPwr f).outer = s.outer := (rfl)
@[simp] theorem State.modClk_outer (f : Clk → Clk) : (s.modClk f).outer = s.outer := (rfl)
@[simp] theorem State.modSync_outer (f : Sync → Sync) : (s.modSync f).outer = s.outer := (rfl)
@[simp] theorem State.modSec_outer (f : Sec → Sec) : (s.modSec f).outer = s.outer := (rfl)
@[simp] theorem State.modErr_outer (f : ErrLog → ErrLog) : (s.modErr f).outer = s.outer := (rfl)
@[simp] theorem State.modHlth_outer (f : Hlth → Hlth) : (s.modHlth f).outer = s.outer := (rfl)
@[simp] theorem State.modBmem_outer (f : Bmem → Bmem) : (s.modBmem f).outer = s.outer := (rfl)
@[simp] theorem State.modQmgr_outer (f : Qmgr → Qmgr) : (s.modQmgr f).outer = s.outer := (rfl)
@[simp] theorem State.modNor_outer (f : Nor → Nor) : (s.modNor f).outer = s.outer := (rfl)
@[simp] theorem State.modSmb_outer (f : Smb → Smb) : (s.modSmb f).outer = s.outer := (rfl)
@[simp] theorem State.modJtag_outer (f : Jtag → Jtag) : (s.modJtag f).outer = s.outer := (rfl)
@[simp] theorem State.modHdr_outer (a i : Nat) (f : Hdr → Hdr) : (s.modHdr a i f).outer = s.outer := (rfl)
@[simp] theorem State.setStores_outer (x : Tbl CStore) : ({ s with stores := x } : State).outer = s.outer := (rfl)
@[simp] theorem State.setMicro_outer (x : Tbl McImage) : ({ s with micro := x } : State).outer = s.outer := (rfl)
@[simp] theorem State.setPcache_outer (x : List CLine) : ({ s with pcache := x } : State).outer = s.outer := (rfl)
@[simp] theorem State.setReturned_outer (x : List Seg) : ({ s with returned := x } : State).outer = s.outer := (rfl)
@[simp] theorem State.setByte_outer (a : Nat) (b : Byte) : (s.setByte a b).outer = s.outer := (rfl)
@[simp] theorem State.wipe_outer (a n : Nat) : (s.wipe a n).outer = s.outer := (rfl)
@[simp] theorem State.emit_outer (x : Out) : (s.emit x).outer = s.outer := (rfl)
@[simp] theorem State.useFree_outer : s.useFree.outer = s.outer := (rfl)
@[simp] theorem State.setBytes_outer (a : Nat) (l : List Byte) : (s.setBytes a l).outer = s.outer := by
  induction l generalizing s a with
  | nil => rfl
  | cons b t ih => exact (ih (s.setByte a b) (a + 1)).trans rfl
@[simp] theorem forEach_outer (l : List Nat) (f : Nat → State → State) (hf : ∀ i t, (f i t).outer = t.outer) :
    (forEach l f s).outer = s.outer := by
  induction l generalizing s with
  | nil => rfl
  | cons i t ih => exact (ih (f i s)).trans (hf i s)
@[simp] theorem when_outer (c : Bool) (f : State → State) (hf : ∀ t, (f t).outer = t.outer) :
    (when c f s).outer = s.outer := by cases c <;> simp [hf]
@[simp] theorem foldl_outer {α : Type} (l : List α) (f : State → α → State) (hf : ∀ t a, (f t a).outer = t.outer) :
    (l.foldl f s).outer = s.outer := by
  induction l generalizing s with
  | nil => rfl
  | cons a t ih => exact (ih (f s a)).trans (hf s a)
@[simp] theorem foldlFst_outer {α β : Type} (l : List α) (p : State × β) (f : State × β → α → State × β)
    (hf : ∀ p a, (f p a).1.outer = p.1.outer) : (l.foldl f p).1.outer = p.1.outer := by
  induction l generalizing p with
  | nil => rfl
  | cons a t ih => exact (ih (f p a)).trans (hf p a)
@[simp] theorem ite_outer {a b : State} (c : Prop) [Decidable c] :
    (if c then a else b).outer = if c then a.outer else b.outer := by split <;> rfl

theorem outer_of_ite {s a b : State} (c : Prop) [Decidable c] (ha : a.outer = s.outer) (hb : b.outer = s.outer) :
    (if c then a else b).outer = s.outer := by split <;> assumption

end Sys2Proof.Machine
end

