-- ==== Sys2Proof/Laws/OuterOps.lean ====
section
/-! SUPPORT. Operations of Ops keep what `State.outer` reads. -/

namespace Sys2Proof.Machine

@[simp] theorem State.loadStore_outer (s : State) (e : Nat)  :
    (State.loadStore s e).outer = s.outer := by
  unfold State.loadStore
  try dsimp only
  try (repeat' split)
  all_goals (first | (simp (maxDischargeDepth := 30); done) | (try simp_all (maxDischargeDepth := 30)))
@[simp] theorem State.setCopy_outer (s : State) (r : Nat) (i : McImage)  :
    (State.setCopy s r i).outer = s.outer := by
  unfold State.setCopy
  try dsimp only
  try (repeat' split)
  all_goals (first | (simp (maxDischargeDepth := 30); done) | (try simp_all (maxDischargeDepth := 30)))
@[simp] theorem State.installBegin_outer (s : State) (r : Nat) (at_ : Nat)  :
    (State.installBegin s r at_).outer = s.outer := by
  unfold State.installBegin
  try dsimp only
  try (repeat' split)
  all_goals (first | (simp (maxDischargeDepth := 30); done) | (try simp_all (maxDischargeDepth := 30)))
@[simp] theorem State.installStep_outer (s : State)  :
    (State.installStep s).outer = s.outer := by
  unfold State.installStep
  apply forEach_outer
  intro r t
  dsimp only
  (repeat' split) <;> simp
@[simp] theorem State.msix_outer (s : State) (fn : Nat) (v : Nat)  :
    (State.msix s fn v).outer = s.outer := by
  unfold State.msix
  try dsimp only
  try (repeat' split)
  all_goals (first | (simp (maxDischargeDepth := 30); done) | (try simp_all (maxDischargeDepth := 30)))
@[simp] theorem State.pageMsgs_outer (s : State) (ty : Nat) (inst : Nat) (m : Nat)  :
    (State.pageMsgs s ty inst m).outer = s.outer := by
  unfold State.pageMsgs
  try dsimp only
  try (repeat' split)
  all_goals (first | (simp (maxDischargeDepth := 30); done) | (try simp_all (maxDischargeDepth := 30)))
@[simp] theorem State.cause_outer (s : State) (ty : Nat) (inst : Nat) (m : Nat)  :
    (State.cause s ty inst m).outer = s.outer := by
  unfold State.cause
  try dsimp only
  try (repeat' split)
  all_goals (first | (simp (maxDischargeDepth := 30); done) | (try simp_all (maxDischargeDepth := 30)))
@[simp] theorem State.shadowHit_outer (s : State) (off : Nat) (write : Bool)  :
    (State.shadowHit s off write).outer = s.outer := by
  unfold State.shadowHit
  try dsimp only
  try (repeat' split)
  all_goals (first | (simp (maxDischargeDepth := 30); done) | (try simp_all (maxDischargeDepth := 30)))
@[simp] theorem State.bankHits_outer (s : State) (a : Nat) (n : Nat) (write : Bool)  :
    (State.bankHits s a n write).outer = s.outer := by
  unfold State.bankHits
  try dsimp only
  try (repeat' split)
  all_goals (first | (simp (maxDischargeDepth := 30); done) | (try simp_all (maxDischargeDepth := 30)))
@[simp] theorem State.qHit_outer (s : State) (q : Nat) (write : Bool)  :
    (State.qHit s q write).outer = s.outer := by
  unfold State.qHit
  try dsimp only
  try (repeat' split)
  all_goals (first | (simp (maxDischargeDepth := 30); done) | (try simp_all (maxDischargeDepth := 30)))
@[simp] theorem State.produce_outer (s : State) (q : Nat) (slots : List (List Byte))  :
    (State.produce s q slots).outer = s.outer := by
  unfold State.produce
  try dsimp only
  try (repeat' split)
  all_goals (first | (simp (maxDischargeDepth := 30); done) | (try simp_all (maxDischargeDepth := 30)))
@[simp] theorem State.stream_outer (s : State) (q : Nat) (rec : List Byte)  :
    (State.stream s q rec).1.outer = s.outer := by
  unfold State.stream
  try dsimp only
  try (repeat' split)
  all_goals (first | (simp (maxDischargeDepth := 30); done) | (try simp_all (maxDischargeDepth := 30)))
@[simp] theorem State.consume_outer (s : State) (q : Nat) (n : Nat)  :
    (State.consume s q n).outer = s.outer := by
  unfold State.consume
  try dsimp only
  try (repeat' split)
  all_goals (first | (simp (maxDischargeDepth := 30); done) | (try simp_all (maxDischargeDepth := 30)))
@[simp] theorem State.postCpl_outer (s : State) (fn : Nat) (q : Nat) (entry : List Byte)  :
    (State.postCpl s fn q entry).outer = s.outer := by
  unfold State.postCpl
  try dsimp only
  try (repeat' split)
  all_goals (first | (simp (maxDischargeDepth := 30); done) | (try simp_all (maxDischargeDepth := 30)))
@[simp] theorem State.postLog_outer (s : State) (st : Nat) (e : List Byte)  :
    (State.postLog s st e).outer = s.outer := by
  unfold State.postLog
  try dsimp only
  try (repeat' split)
  all_goals (first | (simp (maxDischargeDepth := 30); done) | (try simp_all (maxDischargeDepth := 30)))
@[simp] theorem State.copyEntry_outer (s : State) (e : ErrEntry)  :
    (State.copyEntry s e).outer = s.outer := by
  unfold State.copyEntry
  try dsimp only
  try (repeat' split)
  all_goals (first | (simp (maxDischargeDepth := 30); done) | (try simp_all (maxDischargeDepth := 30)))
@[simp] theorem State.closeEntries_outer (s : State) (p : ErrEntry → Bool)  :
    (State.closeEntries s p).outer = s.outer := by
  unfold State.closeEntries
  try dsimp only
  try (repeat' split)
  all_goals (first | (simp (maxDischargeDepth := 30); done) | (try simp_all (maxDischargeDepth := 30)))
@[simp] theorem State.closeDue_outer (s : State)  :
    (State.closeDue s).outer = s.outer := by
  unfold State.closeDue
  try dsimp only
  try (repeat' split)
  all_goals (first | (simp (maxDischargeDepth := 30); done) | (try simp_all (maxDischargeDepth := 30)))
@[simp] theorem State.writeEntry_outer (s : State) (e : ErrEntry)  :
    (State.writeEntry s e).outer = s.outer := by
  unfold State.writeEntry
  try dsimp only
  try (repeat' split)
  all_goals (first | (simp (maxDischargeDepth := 30); done) | (try simp_all (maxDischargeDepth := 30)))
@[simp] theorem State.errDrain_outer (s : State)  :
    (State.errDrain s).outer = s.outer := by
  unfold State.errDrain
  try dsimp only
  try (repeat' split)
  all_goals (first | (simp (maxDischargeDepth := 30); done) | (try simp_all (maxDischargeDepth := 30)))
@[simp] theorem State.newEntry_outer (s : State) (e : ErrEntry)  :
    (State.newEntry s e).outer = s.outer := by
  unfold State.newEntry
  try dsimp only
  try (repeat' split)
  all_goals (first | (simp (maxDischargeDepth := 30); done) | (try simp_all (maxDischargeDepth := 30)))
@[simp] theorem State.raiseAt_outer (s : State) (tt : Nat) (code : Nat) (ty : Nat) (inst : Nat)
    (site : Option Nat) (detail : Nat) (tr : Bool) (perm : Bool)  :
    (State.raiseAt s tt code ty inst site detail tr perm).outer = s.outer := by
  unfold State.raiseAt
  try dsimp only
  try (repeat' split)
  all_goals (first | (simp (maxDischargeDepth := 30); done) | (try simp_all (maxDischargeDepth := 30)))
@[simp] theorem State.raiseFull_outer (s : State) (code : Nat) (ty : Nat) (inst : Nat) (site : Option Nat)
    (detail : Nat) (tr : Bool) (perm : Bool)  :
    (State.raiseFull s code ty inst site detail tr perm).outer = s.outer := by
  unfold State.raiseFull
  try dsimp only
  try (repeat' split)
  all_goals (first | (simp (maxDischargeDepth := 30); done) | (try simp_all (maxDischargeDepth := 30)))
@[simp] theorem State.raise_outer (s : State) (code : Nat) (ty : Nat) (inst : Nat) (site : Option Nat)
    (detail : Nat)  :
    (State.raise s code ty inst site detail).outer = s.outer := by
  unfold State.raise
  try dsimp only
  try (repeat' split)
  all_goals (first | (simp (maxDischargeDepth := 30); done) | (try simp_all (maxDischargeDepth := 30)))
@[simp] theorem State.raisePage_outer (s : State) (code : Nat) (ty : Nat) (inst : Nat)  :
    (State.raisePage s code ty inst).outer = s.outer := by
  unfold State.raisePage
  try dsimp only
  try (repeat' split)
  all_goals (first | (simp (maxDischargeDepth := 30); done) | (try simp_all (maxDischargeDepth := 30)))
@[simp] theorem State.aerReport_outer (s : State) (fn : Nat) (r : AerReport)  :
    (State.aerReport s fn r).outer = s.outer := by
  unfold State.aerReport
  try dsimp only
  try (repeat' split)
  all_goals (first | (simp (maxDischargeDepth := 30); done) | (try simp_all (maxDischargeDepth := 30)))
@[simp] theorem State.refuseReset_outer (s : State) (fn : Nat)  :
    (State.refuseReset s fn).outer = s.outer := by
  unfold State.refuseReset
  try dsimp only
  try (repeat' split)
  all_goals (first | (simp (maxDischargeDepth := 30); done) | (try simp_all (maxDischargeDepth := 30)))
@[simp] theorem State.deny_outer (s : State) (fn : Nat) (ty : Nat) (inst : Nat) (off : Nat) (write : Bool)  :
    (State.deny s fn ty inst off write).outer = s.outer := by
  unfold State.deny
  try dsimp only
  try (repeat' split)
  all_goals (first | (simp (maxDischargeDepth := 30); done) | (try simp_all (maxDischargeDepth := 30)))
@[simp] theorem State.denyUnmapped_outer (s : State) (fn : Nat) (ty : Nat) (inst : Nat) (off : Nat) (write : Bool)  :
    (State.denyUnmapped s fn ty inst off write).outer = s.outer := by
  unfold State.denyUnmapped
  try dsimp only
  try (repeat' split)
  all_goals (first | (simp (maxDischargeDepth := 30); done) | (try simp_all (maxDischargeDepth := 30)))
@[simp] theorem State.locked_outer (s : State) (fn : Nat) (ty : Nat) (inst : Nat) (off : Nat)  :
    (State.locked s fn ty inst off).outer = s.outer := by
  unfold State.locked
  try dsimp only
  try (repeat' split)
  all_goals (first | (simp (maxDischargeDepth := 30); done) | (try simp_all (maxDischargeDepth := 30)))
@[simp] theorem State.onWrite_outer (s : State) (fn : Nat) (ty : Nat) (inst : Nat) (off : Nat)
    (op : State → State) (hop : ∀ y1, (op y1).outer = y1.outer) :
    (State.onWrite s fn ty inst off op).outer = s.outer := by
  unfold State.onWrite
  try dsimp only
  try (repeat' split)
  all_goals (first | (simp (maxDischargeDepth := 30); done) | (try simp_all (maxDischargeDepth := 30)))
@[simp] theorem State.onRead_outer (s : State) (fn : Nat) (ty : Nat) (inst : Nat) (off : Nat)
    (op : State → State × Nat) (hop : ∀ y1, (op y1).1.outer = y1.outer) :
    (State.onRead s fn ty inst off op).outer = s.outer := by
  unfold State.onRead
  try dsimp only
  try (repeat' split)
  all_goals (first | (simp (maxDischargeDepth := 30); done) | (try simp_all (maxDischargeDepth := 30)))

end Sys2Proof.Machine
end

