-- ==== Sys2Proof/Laws/OuterQueue.lean ====
section
/-! SUPPORT. Operations of Queue keep what `State.outer` reads. -/

namespace Sys2Proof.Machine

@[simp] theorem State.dbDrop_outer (s : State) (fn : Nat) (q : Nat) (code : Nat)  :
    (State.dbDrop s fn q code).outer = s.outer := by
  unfold State.dbDrop
  try dsimp only
  try (repeat' split)
  all_goals (first | (simp (maxDischargeDepth := 30); done) | (try simp_all (maxDischargeDepth := 30)))
@[simp] theorem State.doorbell_outer (s : State) (fn : Nat) (q : Nat) (ok : QDesc → Bool) (act : State → State)
    (hact : ∀ y1, (act y1).outer = y1.outer) :
    (State.doorbell s fn q ok act).outer = s.outer := by
  unfold State.doorbell
  try dsimp only
  try (repeat' split)
  all_goals (first | (simp (maxDischargeDepth := 30); done) | (try simp_all (maxDischargeDepth := 30)))
@[simp] theorem State.qRelease_outer (s : State) (fn : Nat) (q : Nat) (index : Nat)  :
    (State.qRelease s fn q index).outer = s.outer := by
  unfold State.qRelease
  try dsimp only
  try (repeat' split)
  all_goals (first | (simp (maxDischargeDepth := 30); done) | (try simp_all (maxDischargeDepth := 30)))
@[simp] theorem State.barWrite_outer (s : State) (fn : Nat) (off : Nat) (val : Nat)  :
    (State.barWrite s fn off val).outer = s.outer := by
  unfold State.barWrite
  try dsimp only
  try (repeat' split)
  all_goals (first | (simp (maxDischargeDepth := 30); done) | (try simp_all (maxDischargeDepth := 30)))
@[simp] theorem State.pushBytes_outer (s : State) (fn : Nat) (off : Nat) (data : List Byte)  :
    (State.pushBytes s fn off data).outer = s.outer := by
  unfold State.pushBytes
  try dsimp only
  try (repeat' split)
  all_goals (first | (simp (maxDischargeDepth := 30); done) | (try simp_all (maxDischargeDepth := 30)))
@[simp] theorem State.descRead_outer (s : State) (fn : Nat)  :
    (State.descRead s fn).outer = s.outer := by
  unfold State.descRead
  try dsimp only
  try (repeat' split)
  all_goals (first | (simp (maxDischargeDepth := 30); done) | (try simp_all (maxDischargeDepth := 30)))
@[simp] theorem State.descWrite_outer (s : State) (fn : Nat)  :
    (State.descWrite s fn).outer = s.outer := by
  unfold State.descWrite
  try dsimp only
  try (repeat' split)
  all_goals (first | (simp (maxDischargeDepth := 30); done) | (try simp_all (maxDischargeDepth := 30)))
@[simp] theorem State.postHeld_outer (s : State) (fn : Nat)  :
    (State.postHeld s fn).outer = s.outer := by
  unfold State.postHeld
  try dsimp only
  try (repeat' split)
  all_goals (first | (simp (maxDischargeDepth := 30); done) | (try simp_all (maxDischargeDepth := 30)))
@[simp] theorem State.logLostEntry_outer (s : State) (st : Nat)  :
    (State.logLostEntry s st).outer = s.outer := by
  unfold State.logLostEntry
  try dsimp only
  try (repeat' split)
  all_goals (first | (simp (maxDischargeDepth := 30); done) | (try simp_all (maxDischargeDepth := 30)))

@[simp] theorem State.modFrm_outer (s : State) (st : Nat) (kind : Nat) (inst : Nat) (f : Frm → Frm)  :
    (State.modFrm s st kind inst f).outer = s.outer := by
  unfold State.modFrm
  try dsimp only
  try (repeat' split)
  all_goals (first | (simp (maxDischargeDepth := 30); done) | (try simp_all (maxDischargeDepth := 30)))
@[simp] theorem State.closeFrame_outer (s : State) (st : Nat) (kind : Nat) (inst : Nat) (q : Nat)  :
    (State.closeFrame s st kind inst q).1.outer = s.outer := by
  unfold State.closeFrame
  try dsimp only
  try (repeat' split)
  all_goals (first | (simp (maxDischargeDepth := 30); done) | (try simp_all (maxDischargeDepth := 30)))
@[simp] theorem State.deliver_outer (s : State) (o : Nat) (kind : Nat) (inst : Nat) (q : Nat) (rec : List Byte)  :
    (State.deliver s o kind inst q rec).1.outer = s.outer := by
  unfold State.deliver
  try dsimp only
  try (repeat' split)
  all_goals (first | (simp (maxDischargeDepth := 30); done) | (try simp_all (maxDischargeDepth := 30)))

end Sys2Proof.Machine
end

