-- ==== Sys2Proof/Laws/OuterPins.lean ====
section
/-! SUPPORT. Operations of Pins keep what `State.outer` reads. -/

namespace Sys2Proof.Machine

@[simp] theorem State.reject_outer (s : State) (fn : Nat) (code : Nat) (ty : Nat) (inst : Nat)  :
    (State.reject s fn code ty inst).outer = s.outer := by
  unfold State.reject
  try dsimp only
  try (repeat' split)
  all_goals (first | (simp (maxDischargeDepth := 30); done) | (try simp_all (maxDischargeDepth := 30)))
@[simp] theorem State.checked_outer (s : State) (fn : Nat) (ty : Nat) (inst : Nat) (checks : List (Bool × Nat))
    (act : State → State) (hact : ∀ y1, (act y1).outer = y1.outer) :
    (State.checked s fn ty inst checks act).outer = s.outer := by
  unfold State.checked
  try dsimp only
  try (repeat' split)
  all_goals (first | (simp (maxDischargeDepth := 30); done) | (try simp_all (maxDischargeDepth := 30)))
@[simp] theorem State.laneFree_outer (s : State) (ch : Nat) : (s.laneFree ch).outer = s.outer := (rfl)
@[simp] theorem State.wPeCtrl_outer (s : State) (fn : Nat) (ch : Nat) (val : Nat)  :
    (State.wPeCtrl s fn ch val).outer = s.outer := by
  unfold State.wPeCtrl
  try dsimp only
  try (repeat' split)
  all_goals (first | (simp (maxDischargeDepth := 30); done) | (try simp_all (maxDischargeDepth := 30)))
@[simp] theorem State.wPeLoad_outer (s : State) (fn : Nat) (ch : Nat) (val : Nat)  :
    (State.wPeLoad s fn ch val).outer = s.outer := by
  unfold State.wPeLoad
  try dsimp only
  try (repeat' split)
  all_goals (first | (simp (maxDischargeDepth := 30); done) | (try simp_all (maxDischargeDepth := 30)))
@[simp] theorem State.wPePmu_outer (s : State) (fn : Nat) (ch : Nat) (val : Nat)  :
    (State.wPePmu s fn ch val).outer = s.outer := by
  unfold State.wPePmu
  try dsimp only
  try (repeat' split)
  all_goals (first | (simp (maxDischargeDepth := 30); done) | (try simp_all (maxDischargeDepth := 30)))
@[simp] theorem State.wPmuRange_outer (s : State) (fn : Nat) (ch : Nat) (val : Nat)  :
    (State.wPmuRange s fn ch val).outer = s.outer := by
  unfold State.wPmuRange
  try dsimp only
  try (repeat' split)
  all_goals (first | (simp (maxDischargeDepth := 30); done) | (try simp_all (maxDischargeDepth := 30)))
@[simp] theorem State.wOpenWire_outer (s : State) (fn : Nat) (ch : Nat) (val : Nat)  :
    (State.wOpenWire s fn ch val).outer = s.outer := by
  unfold State.wOpenWire
  try dsimp only
  try (repeat' split)
  all_goals (first | (simp (maxDischargeDepth := 30); done) | (try simp_all (maxDischargeDepth := 30)))
@[simp] theorem State.wClampStatus_outer (s : State) (ch : Nat) (val : Nat)  :
    (State.wClampStatus s ch val).outer = s.outer := by
  unfold State.wClampStatus
  try dsimp only
  try (repeat' split)
  all_goals (first | (simp (maxDischargeDepth := 30); done) | (try simp_all (maxDischargeDepth := 30)))
@[simp] theorem State.wContact_outer (s : State) (fn : Nat) (ch : Nat) (val : Nat)  :
    (State.wContact s fn ch val).outer = s.outer := by
  unfold State.wContact
  try dsimp only
  try (repeat' split)
  all_goals (first | (simp (maxDischargeDepth := 30); done) | (try simp_all (maxDischargeDepth := 30)))
@[simp] theorem State.wLvlDac_outer (s : State) (ch : Nat) (d : Nat) (val : Nat)  :
    (State.wLvlDac s ch d val).outer = s.outer := by
  unfold State.wLvlDac
  try dsimp only
  try (repeat' split)
  all_goals (first | (simp (maxDischargeDepth := 30); done) | (try simp_all (maxDischargeDepth := 30)))
@[simp] theorem State.wLvlPush_outer (s : State) (fn : Nat) (ch : Nat) (val : Nat)  :
    (State.wLvlPush s fn ch val).outer = s.outer := by
  unfold State.wLvlPush
  try dsimp only
  try (repeat' split)
  all_goals (first | (simp (maxDischargeDepth := 30); done) | (try simp_all (maxDischargeDepth := 30)))
@[simp] theorem State.wLvlCtrl_outer (s : State) (ch : Nat) (val : Nat)  :
    (State.wLvlCtrl s ch val).outer = s.outer := by
  unfold State.wLvlCtrl
  try dsimp only
  try (repeat' split)
  all_goals (first | (simp (maxDischargeDepth := 30); done) | (try simp_all (maxDischargeDepth := 30)))
@[simp] theorem State.wLvlStatus_outer (s : State) (ch : Nat) (val : Nat)  :
    (State.wLvlStatus s ch val).outer = s.outer := by
  unfold State.wLvlStatus
  try dsimp only
  try (repeat' split)
  all_goals (first | (simp (maxDischargeDepth := 30); done) | (try simp_all (maxDischargeDepth := 30)))
@[simp] theorem State.lvlArrive_outer (s : State) (ch : Nat)  :
    (State.lvlArrive s ch).outer = s.outer := by
  unfold State.lvlArrive
  try dsimp only
  try (repeat' split)
  all_goals (first | (simp (maxDischargeDepth := 30); done) | (try simp_all (maxDischargeDepth := 30)))
@[simp] theorem State.lvlStep_outer (s : State) (ch : Nat)  :
    (State.lvlStep s ch).outer = s.outer := by
  unfold State.lvlStep
  try dsimp only
  try (repeat' split)
  all_goals (first | (simp (maxDischargeDepth := 30); done) | (try simp_all (maxDischargeDepth := 30)))
@[simp] theorem State.lclkTick_outer (s : State) (st : Nat)  :
    (State.lclkTick s st).outer = s.outer := by
  unfold State.lclkTick
  try dsimp only
  try (repeat' split)
  all_goals (first | (simp (maxDischargeDepth := 30); done) | (try simp_all (maxDischargeDepth := 30)))

end Sys2Proof.Machine
end

