-- ==== Sys2Proof/Laws/OuterTiming.lean ====
section
/-! SUPPORT. Operations of Timing keep what `State.outer` reads. -/

namespace Sys2Proof.Machine

@[simp] theorem State.stageLo_outer (s : State) (fn : Nat) (ty : Nat) (inst : Nat) (lo : Nat) (val : Nat)  :
    (State.stageLo s fn ty inst lo val).outer = s.outer := by
  unfold State.stageLo
  try dsimp only
  try (repeat' split)
  all_goals (first | (simp (maxDischargeDepth := 30); done) | (try simp_all (maxDischargeDepth := 30)))
@[simp] theorem State.unstage_outer (s : State) (fn : Nat) (ty : Nat) (inst : Nat) (lo : Nat)  :
    (State.unstage s fn ty inst lo).outer = s.outer := by
  unfold State.unstage
  try dsimp only
  try (repeat' split)
  all_goals (first | (simp (maxDischargeDepth := 30); done) | (try simp_all (maxDischargeDepth := 30)))
@[simp] theorem State.wTgCtrl_outer (s : State) (fn : Nat) (ch : Nat) (val : Nat)  :
    (State.wTgCtrl s fn ch val).outer = s.outer := by
  unfold State.wTgCtrl
  try dsimp only
  try (repeat' split)
  all_goals (first | (simp (maxDischargeDepth := 30); done) | (try simp_all (maxDischargeDepth := 30)))
@[simp] theorem State.wPeriodHi_outer (s : State) (fn : Nat) (ch : Nat) (val : Nat)  :
    (State.wPeriodHi s fn ch val).outer = s.outer := by
  unfold State.wPeriodHi
  try dsimp only
  try (repeat' split)
  all_goals (first | (simp (maxDischargeDepth := 30); done) | (try simp_all (maxDischargeDepth := 30)))
@[simp] theorem State.wSymHi_outer (s : State) (fn : Nat) (ch : Nat) (val : Nat)  :
    (State.wSymHi s fn ch val).outer = s.outer := by
  unfold State.wSymHi
  try dsimp only
  try (repeat' split)
  all_goals (first | (simp (maxDischargeDepth := 30); done) | (try simp_all (maxDischargeDepth := 30)))
@[simp] theorem State.wEdge_outer (s : State) (fn : Nat) (ch : Nat) (i : Nat) (val : Nat)  :
    (State.wEdge s fn ch i val).outer = s.outer := by
  unfold State.wEdge
  try dsimp only
  try (repeat' split)
  all_goals (first | (simp (maxDischargeDepth := 30); done) | (try simp_all (maxDischargeDepth := 30)))
@[simp] theorem State.wFmt_outer (s : State) (fn : Nat) (ch : Nat) (i : Nat) (val : Nat)  :
    (State.wFmt s fn ch i val).outer = s.outer := by
  unfold State.wFmt
  try dsimp only
  try (repeat' split)
  all_goals (first | (simp (maxDischargeDepth := 30); done) | (try simp_all (maxDischargeDepth := 30)))
@[simp] theorem State.wTgStatus_outer (s : State) (ch : Nat) (val : Nat)  :
    (State.wTgStatus s ch val).outer = s.outer := by
  unfold State.wTgStatus
  try dsimp only
  try (repeat' split)
  all_goals (first | (simp (maxDischargeDepth := 30); done) | (try simp_all (maxDischargeDepth := 30)))
@[simp] theorem State.rgnBoundary_outer (s : State) (r : Nat)  :
    (State.rgnBoundary s r).outer = s.outer := by
  unfold State.rgnBoundary
  try dsimp only
  try (repeat' split)
  all_goals (first | (simp (maxDischargeDepth := 30); done) | (try simp_all (maxDischargeDepth := 30)))
@[simp] theorem State.endRun_outer (s : State) (ch : Nat)  :
    (State.endRun s ch).outer = s.outer := by
  unfold State.endRun
  try dsimp only
  try (repeat' split)
  all_goals (first | (simp (maxDischargeDepth := 30); done) | (try simp_all (maxDischargeDepth := 30)))
@[simp] theorem State.wFreerun_outer (s : State) (fn : Nat) (ch : Nat) (val : Nat)  :
    (State.wFreerun s fn ch val).outer = s.outer := by
  unfold State.wFreerun
  try dsimp only
  try (repeat' split)
  all_goals (first | (simp (maxDischargeDepth := 30); done) | (try simp_all (maxDischargeDepth := 30)))
@[simp] theorem State.startUi_outer (s : State) (ch : Nat) (u : Nat) (t : Nat) (sym : Nat) (b : Option
    (Block × Nat))  :
    (State.startUi s ch u t sym b).outer = s.outer := by
  unfold State.startUi
  try dsimp only
  try (repeat' split)
  all_goals (first | (simp (maxDischargeDepth := 30); done) | (try simp_all (maxDischargeDepth := 30)))
@[simp] theorem State.uiStartStep_outer (s : State) (ch : Nat)  :
    (State.uiStartStep s ch).outer = s.outer := by
  unfold State.uiStartStep
  try dsimp only
  try (repeat' split)
  all_goals (first | (simp (maxDischargeDepth := 30); done) | (try simp_all (maxDischargeDepth := 30)))
@[simp] theorem State.edgeStep_outer (s : State) (ch : Nat)  :
    (State.edgeStep s ch).outer = s.outer := by
  unfold State.edgeStep
  try dsimp only
  try (repeat' split)
  all_goals (first | (simp (maxDischargeDepth := 30); done) | (try simp_all (maxDischargeDepth := 30)))
@[simp] theorem State.histFeed_outer (s : State) (ch : Nat) (kind : Nat) (v : Hist → Option Int)  :
    (State.histFeed s ch kind v).outer = s.outer := by
  unfold State.histFeed
  try dsimp only
  try (repeat' split)
  all_goals (first | (simp (maxDischargeDepth := 30); done) | (try simp_all (maxDischargeDepth := 30)))
@[simp] theorem State.takeBlock_outer (s : State) (ch : Nat) (b : Block)  :
    (State.takeBlock s ch b).outer = s.outer := by
  unfold State.takeBlock
  try dsimp only
  try (repeat' split)
  all_goals (first | (simp (maxDischargeDepth := 30); done) | (try simp_all (maxDischargeDepth := 30)))
@[simp] theorem State.withRec_outer (s : State) (r : Nat) (fresh : FcuRec) (f : FcuRec → FcuRec)  :
    (State.withRec s r fresh f).outer = s.outer := by
  unfold State.withRec
  try dsimp only
  try (repeat' split)
  all_goals (first | (simp (maxDischargeDepth := 30); done) | (try simp_all (maxDischargeDepth := 30)))
@[simp] theorem State.openRec_outer (s : State) (ch : Nat) (b : Block)  :
    (State.openRec s ch b).outer = s.outer := by
  unfold State.openRec
  try dsimp only
  try (repeat' split)
  all_goals (first | (simp (maxDischargeDepth := 30); done) | (try simp_all (maxDischargeDepth := 30)))
@[simp] theorem State.release_outer (s : State) (ch : Nat)  :
    (State.release s ch).outer = s.outer := by
  unfold State.release
  try dsimp only
  try (repeat' split)
  all_goals (first | (simp (maxDischargeDepth := 30); done) | (try simp_all (maxDischargeDepth := 30)))

end Sys2Proof.Machine
end

