-- ==== Sys2Proof/Laws/OuterCompare.lean ====
section
/-! SUPPORT. Operations of Compare keep what `State.outer` reads. -/

namespace Sys2Proof.Machine

@[simp] theorem State.compareStep_outer (s : State) (ch : Nat)  :
    (State.compareStep s ch).outer = s.outer := by
  unfold State.compareStep
  try dsimp only
  try (repeat' split)
  all_goals (first | (simp (maxDischargeDepth := 30); done) | (try simp_all (maxDischargeDepth := 30)))
@[simp] theorem State.modPart_outer (s : State) (r : Nat) (st : Nat) (f : FcuPart → FcuPart)  :
    (State.modPart s r st f).outer = s.outer := by
  unfold State.modPart
  try dsimp only
  try (repeat' split)
  all_goals (first | (simp (maxDischargeDepth := 30); done) | (try simp_all (maxDischargeDepth := 30)))
@[simp] theorem State.partEvent_outer (s : State) (r : Nat) (st : Nat) (mask : Nat)  :
    (State.partEvent s r st mask).outer = s.outer := by
  unfold State.partEvent
  try dsimp only
  try (repeat' split)
  all_goals (first | (simp (maxDischargeDepth := 30); done) | (try simp_all (maxDischargeDepth := 30)))
@[simp] theorem State.setLevel_outer (s : State) (r : Nat) (st : Nat) (lv : Nat)  :
    (State.setLevel s r st lv).outer = s.outer := by
  unfold State.setLevel
  try dsimp only
  try (repeat' split)
  all_goals (first | (simp (maxDischargeDepth := 30); done) | (try simp_all (maxDischargeDepth := 30)))
@[simp] theorem State.loseUpdate_outer (s : State) (r : Nat) (st : Nat)  :
    (State.loseUpdate s r st).outer = s.outer := by
  unfold State.loseUpdate
  try dsimp only
  try (repeat' split)
  all_goals (first | (simp (maxDischargeDepth := 30); done) | (try simp_all (maxDischargeDepth := 30)))
@[simp] theorem State.loseRecord_outer (s : State) (r : Nat) (st : Nat) (tt : Nat) (nfail : Nat)  :
    (State.loseRecord s r st tt nfail).outer = s.outer := by
  unfold State.loseRecord
  try dsimp only
  try (repeat' split)
  all_goals (first | (simp (maxDischargeDepth := 30); done) | (try simp_all (maxDischargeDepth := 30)))
@[simp] theorem State.pushRing_outer (s : State) (r : Nat) (st : Nat) (rec : Nat → List Byte) (count : Bool)  :
    (State.pushRing s r st rec count).outer = s.outer := by
  unfold State.pushRing
  try dsimp only
  try (repeat' split)
  all_goals (first | (simp (maxDischargeDepth := 30); done) | (try simp_all (maxDischargeDepth := 30)))
@[simp] theorem State.commitGap_outer (s : State) (r : Nat) (st : Nat)  :
    (State.commitGap s r st).outer = s.outer := by
  unfold State.commitGap
  try dsimp only
  try (repeat' split)
  all_goals (first | (simp (maxDischargeDepth := 30); done) | (try simp_all (maxDischargeDepth := 30)))
@[simp] theorem State.commitRecord_outer (s : State) (r : Nat) (st : Nat) (tt : Nat) (nfail : Nat)
    (full : Nat → List Byte) (summary : Nat → List Byte) (keepAt : Nat)  :
    (State.commitRecord s r st tt nfail full summary keepAt).1.outer = s.outer := by
  unfold State.commitRecord
  try dsimp only
  try (repeat' split)
  all_goals (first | (simp (maxDischargeDepth := 30); done) | (try simp_all (maxDischargeDepth := 30)))
@[simp] theorem State.countN_outer (s : State) (r : Nat) (st : Nat)  :
    (State.countN s r st).outer = s.outer := by
  unfold State.countN
  try dsimp only
  try (repeat' split)
  all_goals (first | (simp (maxDischargeDepth := 30); done) | (try simp_all (maxDischargeDepth := 30)))
@[simp] theorem State.commitFail_outer (s : State) (r : Nat) (c : FcuRec)  :
    (State.commitFail s r c).outer = s.outer := by
  unfold State.commitFail
  try dsimp only
  try (repeat' split)
  all_goals (first | (simp (maxDischargeDepth := 30); done) | (try simp_all (maxDischargeDepth := 30)))
@[simp] theorem State.commitCapture_outer (s : State) (r : Nat) (c : FcuRec)  :
    (State.commitCapture s r c).outer = s.outer := by
  unfold State.commitCapture
  try dsimp only
  try (repeat' split)
  all_goals (first | (simp (maxDischargeDepth := 30); done) | (try simp_all (maxDischargeDepth := 30)))
@[simp] theorem State.recsPast_outer (s : State) (st : Nat)  :
    (State.recsPast s st).outer = s.outer := by
  unfold State.recsPast
  try dsimp only
  try (repeat' split)
  all_goals (first | (simp (maxDischargeDepth := 30); done) | (try simp_all (maxDischargeDepth := 30)))
@[simp] theorem State.closeRecord_outer (s : State) (r : Nat) (segId : Nat) (seq : Nat)  :
    (State.closeRecord s r segId seq).outer = s.outer := by
  unfold State.closeRecord
  try dsimp only
  try (repeat' split)
  all_goals (first | (simp (maxDischargeDepth := 30); done) | (try simp_all (maxDischargeDepth := 30)))
@[simp] theorem State.toRec_outer (s : State) (ch : Nat) (v : CmpRes) (f : FcuRec → FcuRec)  :
    (State.toRec s ch v f).outer = s.outer := by
  unfold State.toRec
  try dsimp only
  try (repeat' split)
  all_goals (first | (simp (maxDischargeDepth := 30); done) | (try simp_all (maxDischargeDepth := 30)))
@[simp] theorem State.writeUps_outer (s : State) (x1 : List (Nat × Nat))  :
    (State.writeUps s x1).1.outer = s.outer := by
  induction x1 generalizing s with
  | nil => rfl
  | cons u t ih => unfold State.writeUps; split; rfl; exact (ih _).trans rfl
@[simp] theorem State.drainUps_outer (s : State) (r : Nat) (st : Nat)  :
    (State.drainUps s r st).outer = s.outer := by
  unfold State.drainUps
  try dsimp only
  try (repeat' split)
  all_goals (first | (simp (maxDischargeDepth := 30); done) | (try simp_all (maxDischargeDepth := 30)))
@[simp] theorem State.dropUpdate_outer (s : State) (r : Nat) (st : Nat) (addr : Nat)  :
    (State.dropUpdate s r st addr).outer = s.outer := by
  unfold State.dropUpdate
  try dsimp only
  try (repeat' split)
  all_goals (first | (simp (maxDischargeDepth := 30); done) | (try simp_all (maxDischargeDepth := 30)))
@[simp] theorem State.bitmapUpdate_outer (s : State) (ch : Nat) (e : CmpEv) (symAt : Nat → Option Nat)  :
    (State.bitmapUpdate s ch e symAt).outer = s.outer := by
  unfold State.bitmapUpdate
  try dsimp only
  try (repeat' split)
  all_goals (first | (simp (maxDischargeDepth := 30); done) | (try simp_all (maxDischargeDepth := 30)))
@[simp] theorem State.countFail_outer (s : State) (ch : Nat)  :
    (State.countFail s ch).outer = s.outer := by
  unfold State.countFail
  try dsimp only
  try (repeat' split)
  all_goals (first | (simp (maxDischargeDepth := 30); done) | (try simp_all (maxDischargeDepth := 30)))
@[simp] theorem State.moveRecord_outer (s : State) (r : Nat) (st : Nat)
    (deliver : State → Nat → List Byte → State × Bool) (hdeliver : ∀ y1 y2 y3,
    (deliver y1 y2 y3).1.outer = y1.outer) :
    (State.moveRecord s r st deliver).outer = s.outer := by
  unfold State.moveRecord
  try dsimp only
  try (repeat' split)
  all_goals (first | (simp (maxDischargeDepth := 30); done) | (try simp_all (maxDischargeDepth := 30)))
@[simp] theorem State.wPSize_outer (s : State) (fn : Nat) (r : Nat) (st : Nat) (val : Nat)  :
    (State.wPSize s fn r st val).outer = s.outer := by
  unfold State.wPSize
  try dsimp only
  try (repeat' split)
  all_goals (first | (simp (maxDischargeDepth := 30); done) | (try simp_all (maxDischargeDepth := 30)))
@[simp] theorem State.wPCtrl_outer (s : State) (fn : Nat) (r : Nat) (st : Nat) (val : Nat)  :
    (State.wPCtrl s fn r st val).outer = s.outer := by
  unfold State.wPCtrl
  try dsimp only
  try (repeat' split)
  all_goals (first | (simp (maxDischargeDepth := 30); done) | (try simp_all (maxDischargeDepth := 30)))
@[simp] theorem State.wPN_outer (s : State) (fn : Nat) (r : Nat) (st : Nat) (val : Nat)  :
    (State.wPN s fn r st val).outer = s.outer := by
  unfold State.wPN
  try dsimp only
  try (repeat' split)
  all_goals (first | (simp (maxDischargeDepth := 30); done) | (try simp_all (maxDischargeDepth := 30)))
@[simp] theorem State.wFcuCtrl_outer (s : State) (fn : Nat) (r : Nat) (val : Nat)  :
    (State.wFcuCtrl s fn r val).outer = s.outer := by
  unfold State.wFcuCtrl
  try dsimp only
  try (repeat' split)
  all_goals (first | (simp (maxDischargeDepth := 30); done) | (try simp_all (maxDischargeDepth := 30)))
@[simp] theorem State.wCmpCtrl_outer (s : State) (fn : Nat) (ch : Nat) (val : Nat)  :
    (State.wCmpCtrl s fn ch val).outer = s.outer := by
  unfold State.wCmpCtrl
  try dsimp only
  try (repeat' split)
  all_goals (first | (simp (maxDischargeDepth := 30); done) | (try simp_all (maxDischargeDepth := 30)))
@[simp] theorem State.wTdcCtrl_outer (s : State) (fn : Nat) (ch : Nat) (val : Nat)  :
    (State.wTdcCtrl s fn ch val).outer = s.outer := by
  unfold State.wTdcCtrl
  try dsimp only
  try (repeat' split)
  all_goals (first | (simp (maxDischargeDepth := 30); done) | (try simp_all (maxDischargeDepth := 30)))
@[simp] theorem State.wCmpMask_outer (s : State) (ch : Nat) (val : Nat)  :
    (State.wCmpMask s ch val).outer = s.outer := by
  unfold State.wCmpMask
  try dsimp only
  try (repeat' split)
  all_goals (first | (simp (maxDischargeDepth := 30); done) | (try simp_all (maxDischargeDepth := 30)))
@[simp] theorem State.wCmpStatus_outer (s : State) (ch : Nat) (val : Nat)  :
    (State.wCmpStatus s ch val).outer = s.outer := by
  unfold State.wCmpStatus
  try dsimp only
  try (repeat' split)
  all_goals (first | (simp (maxDischargeDepth := 30); done) | (try simp_all (maxDischargeDepth := 30)))
@[simp] theorem State.wFailHi_outer (s : State) (fn : Nat) (ch : Nat) (val : Nat)  :
    (State.wFailHi s fn ch val).outer = s.outer := by
  unfold State.wFailHi
  try dsimp only
  try (repeat' split)
  all_goals (first | (simp (maxDischargeDepth := 30); done) | (try simp_all (maxDischargeDepth := 30)))

end Sys2Proof.Machine
end

