-- ==== Sys2Proof/Laws/OuterBurst.lean ====
section
/-! SUPPORT. Operations of Burst keep what `State.outer` reads. -/

namespace Sys2Proof.Machine

@[simp] theorem State.siteCpl_outer (s : State) (st : Nat) (entry : List Byte)  :
    (State.siteCpl s st entry).outer = s.outer := by
  unfold State.siteCpl
  try dsimp only
  try (repeat' split)
  all_goals (first | (simp (maxDischargeDepth := 30); done) | (try simp_all (maxDischargeDepth := 30)))
@[simp] theorem State.burstCplAt_outer (s : State) (st : Nat) (status : Nat) (tt : Nat) (entered : Burst)  :
    (State.burstCplAt s st status tt entered).outer = s.outer := by
  unfold State.burstCplAt
  try dsimp only
  try (repeat' split)
  all_goals (first | (simp (maxDischargeDepth := 30); done) | (try simp_all (maxDischargeDepth := 30)))
@[simp] theorem State.burstCpl_outer (s : State) (st : Nat) (status : Nat) (entered : Burst)  :
    (State.burstCpl s st status entered).outer = s.outer := by
  unfold State.burstCpl
  try dsimp only
  try (repeat' split)
  all_goals (first | (simp (maxDischargeDepth := 30); done) | (try simp_all (maxDischargeDepth := 30)))
@[simp] theorem State.burstNotice_outer (s : State) (st : Nat) (entered : Burst)  :
    (State.burstNotice s st entered).outer = s.outer := by
  unfold State.burstNotice
  try dsimp only
  try (repeat' split)
  all_goals (first | (simp (maxDischargeDepth := 30); done) | (try simp_all (maxDischargeDepth := 30)))
@[simp] theorem State.raiseBurst_outer (s : State) (code : Nat) (st : Nat)  :
    (State.raiseBurst s code st).outer = s.outer := by
  unfold State.raiseBurst
  try dsimp only
  try (repeat' split)
  all_goals (first | (simp (maxDischargeDepth := 30); done) | (try simp_all (maxDischargeDepth := 30)))
@[simp] theorem State.rejectBurst_outer (s : State) (st : Nat) (code : Nat)  :
    (State.rejectBurst s st code).outer = s.outer := by
  unfold State.rejectBurst
  try dsimp only
  try (repeat' split)
  all_goals (first | (simp (maxDischargeDepth := 30); done) | (try simp_all (maxDischargeDepth := 30)))
@[simp] theorem State.clearDeques_outer (s : State) (st : Nat)  :
    (State.clearDeques s st).outer = s.outer := by
  unfold State.clearDeques
  try dsimp only
  try (repeat' split)
  all_goals (first | (simp (maxDischargeDepth := 30); done) | (try simp_all (maxDischargeDepth := 30)))
@[simp] theorem State.emptyDeque_outer (s : State) (e : Nat)  :
    (State.emptyDeque s e).outer = s.outer := by
  unfold State.emptyDeque
  try dsimp only
  try (repeat' split)
  all_goals (first | (simp (maxDischargeDepth := 30); done) | (try simp_all (maxDischargeDepth := 30)))
@[simp] theorem State.discardQueues_outer (s : State) (st : Nat)  :
    (State.discardQueues s st).outer = s.outer := by
  unfold State.discardQueues
  try dsimp only
  try (repeat' split)
  all_goals (first | (simp (maxDischargeDepth := 30); done) | (try simp_all (maxDischargeDepth := 30)))
@[simp] theorem State.resetBarriers_outer (s : State) (st : Nat)  :
    (State.resetBarriers s st).outer = s.outer := by
  unfold State.resetBarriers
  try dsimp only
  try (repeat' split)
  all_goals (first | (simp (maxDischargeDepth := 30); done) | (try simp_all (maxDischargeDepth := 30)))
@[simp] theorem State.abortSiteAt_outer (s : State) (st : Nat) (code : Nat) (t : Nat)  :
    (State.abortSiteAt s st code t).outer = s.outer := by
  unfold State.abortSiteAt
  try dsimp only
  try (repeat' split)
  all_goals (first | (simp (maxDischargeDepth := 30); done) | (try simp_all (maxDischargeDepth := 30)))
@[simp] theorem State.abortSite_outer (s : State) (st : Nat) (code : Nat)  :
    (State.abortSite s st code).outer = s.outer := by
  unfold State.abortSite
  try dsimp only
  try (repeat' split)
  all_goals (first | (simp (maxDischargeDepth := 30); done) | (try simp_all (maxDischargeDepth := 30)))
@[simp] theorem State.siteBoundary_outer (s : State) (st : Nat)  :
    (State.siteBoundary s st).outer = s.outer := by
  unfold State.siteBoundary
  try dsimp only
  try (repeat' split)
  all_goals (first | (simp (maxDischargeDepth := 30); done) | (try simp_all (maxDischargeDepth := 30)))
@[simp] theorem State.disarm_outer (s : State) (st : Nat)  :
    (State.disarm s st).outer = s.outer := by
  unfold State.disarm
  try dsimp only
  try (repeat' split)
  all_goals (first | (simp (maxDischargeDepth := 30); done) | (try simp_all (maxDischargeDepth := 30)))
@[simp] theorem State.endBursts_outer (s : State) (l : List Nat) (code : Nat)  :
    (State.endBursts s l code).outer = s.outer := by
  unfold State.endBursts
  try dsimp only
  try (repeat' split)
  all_goals (first | (simp (maxDischargeDepth := 30); done) | (try simp_all (maxDischargeDepth := 30)))
@[simp] theorem State.endIsolation_outer (s : State) (st : Nat)  :
    (State.endIsolation s st).outer = s.outer := by
  unfold State.endIsolation
  try dsimp only
  try (repeat' split)
  all_goals (first | (simp (maxDischargeDepth := 30); done) | (try simp_all (maxDischargeDepth := 30)))
@[simp] theorem State.arm_outer (s : State) (st : Nat) (frame : Bool)  :
    (State.arm s st frame).outer = s.outer := by
  unfold State.arm
  try dsimp only
  try (repeat' split)
  all_goals (first | (simp (maxDischargeDepth := 30); done) | (try simp_all (maxDischargeDepth := 30)))
@[simp] theorem State.disarmCmd_outer (s : State) (st : Nat)  :
    (State.disarmCmd s st).outer = s.outer := by
  unfold State.disarmCmd
  try dsimp only
  try (repeat' split)
  all_goals (first | (simp (maxDischargeDepth := 30); done) | (try simp_all (maxDischargeDepth := 30)))
@[simp] theorem State.acceptStart_outer (s : State) (st : Nat) (ahead : Nat)  :
    (State.acceptStart s st ahead).outer = s.outer := by
  unfold State.acceptStart
  try dsimp only
  try (repeat' split)
  all_goals (first | (simp (maxDischargeDepth := 30); done) | (try simp_all (maxDischargeDepth := 30)))
@[simp] theorem State.start_outer (s : State) (st : Nat) (t24 : Nat)  :
    (State.start s st t24).outer = s.outer := by
  unfold State.start
  try dsimp only
  try (repeat' split)
  all_goals (first | (simp (maxDischargeDepth := 30); done) | (try simp_all (maxDischargeDepth := 30)))
@[simp] theorem State.setCut_outer (s : State) (st : Nat) (T : Nat)  :
    (State.setCut s st T).outer = s.outer := by
  unfold State.setCut
  try dsimp only
  try (repeat' split)
  all_goals (first | (simp (maxDischargeDepth := 30); done) | (try simp_all (maxDischargeDepth := 30)))
@[simp] theorem State.stop_outer (s : State) (st : Nat)  :
    (State.stop s st).outer = s.outer := by
  unfold State.stop
  try dsimp only
  try (repeat' split)
  all_goals (first | (simp (maxDischargeDepth := 30); done) | (try simp_all (maxDischargeDepth := 30)))
@[simp] theorem State.fcuFrames_outer (s : State) (st : Nat)  :
    (State.fcuFrames s st).outer = s.outer := by
  unfold State.fcuFrames
  try dsimp only
  try (repeat' split)
  all_goals (first | (simp (maxDischargeDepth := 30); done) | (try simp_all (maxDischargeDepth := 30)))
@[simp] theorem State.enterIdle_outer (s : State) (st : Nat)  :
    (State.enterIdle s st).outer = s.outer := by
  unfold State.enterIdle
  try dsimp only
  try (repeat' split)
  all_goals (first | (simp (maxDischargeDepth := 30); done) | (try simp_all (maxDischargeDepth := 30)))
@[simp] theorem State.ack_outer (s : State) (st : Nat)  :
    (State.ack s st).outer = s.outer := by
  unfold State.ack
  try dsimp only
  try (repeat' split)
  all_goals (first | (simp (maxDischargeDepth := 30); done) | (try simp_all (maxDischargeDepth := 30)))
@[simp] theorem State.runEntry_outer (s : State) (st : Nat)  :
    (State.runEntry s st).outer = s.outer := by
  unfold State.runEntry
  try dsimp only
  try (repeat' split)
  all_goals (first | (simp (maxDischargeDepth := 30); done) | (try simp_all (maxDischargeDepth := 30)))
@[simp] theorem State.enterDrain_outer (s : State) (st : Nat)  :
    (State.enterDrain s st).outer = s.outer := by
  unfold State.enterDrain
  try dsimp only
  try (repeat' split)
  all_goals (first | (simp (maxDischargeDepth := 30); done) | (try simp_all (maxDischargeDepth := 30)))
@[simp] theorem State.stopDrain_outer (s : State) (st : Nat)  :
    (State.stopDrain s st).outer = s.outer := by
  unfold State.stopDrain
  try dsimp only
  try (repeat' split)
  all_goals (first | (simp (maxDischargeDepth := 30); done) | (try simp_all (maxDischargeDepth := 30)))

end Sys2Proof.Machine
end

