-- ==== Sys2Proof/Laws/OuterSeal.lean ====
section
/-! SUPPORT. Operations of Seal keep what `State.outer` reads. -/

namespace Sys2Proof.Machine

@[simp] theorem State.flushFrames_outer (s : State) (st : Nat)  :
    (State.flushFrames s st).outer = s.outer := by
  unfold State.flushFrames
  try dsimp only
  try (repeat' split)
  all_goals (first | (simp (maxDischargeDepth := 30); done) | (try simp_all (maxDischargeDepth := 30)))

end Sys2Proof.Machine
end

