-- ==== Sys2Proof/Laws/OuterMadc.lean ====
section
/-! SUPPORT. Operations of Madc keep what `State.outer` reads. -/

namespace Sys2Proof.Machine

@[simp] theorem State.madcLose_outer (s : State) (k : Nat)  :
    (State.madcLose s k).outer = s.outer := by
  unfold State.madcLose
  try dsimp only
  try (repeat' split)
  all_goals (first | (simp (maxDischargeDepth := 30); done) | (try simp_all (maxDischargeDepth := 30)))
@[simp] theorem State.madcStart_outer (s : State) (k : Nat) (t : Nat)  :
    (State.madcStart s k t).outer = s.outer := by
  unfold State.madcStart
  try dsimp only
  try (repeat' split)
  all_goals (first | (simp (maxDischargeDepth := 30); done) | (try simp_all (maxDischargeDepth := 30)))
@[simp] theorem State.madcTriggerAt_outer (s : State) (k : Nat) (cont : Bool) (t : Nat)  :
    (State.madcTriggerAt s k cont t).outer = s.outer := by
  unfold State.madcTriggerAt
  try dsimp only
  try (repeat' split)
  all_goals (first | (simp (maxDischargeDepth := 30); done) | (try simp_all (maxDischargeDepth := 30)))
@[simp] theorem State.madcTrigger_outer (s : State) (k : Nat) (cont : Bool)  :
    (State.madcTrigger s k cont).outer = s.outer := by
  unfold State.madcTrigger
  try dsimp only
  try (repeat' split)
  all_goals (first | (simp (maxDischargeDepth := 30); done) | (try simp_all (maxDischargeDepth := 30)))
@[simp] theorem State.acqRestartPairs_outer (s : State) (k : Nat)  :
    (State.acqRestartPairs s k).outer = s.outer := by
  unfold State.acqRestartPairs
  try dsimp only
  try (repeat' split)
  all_goals (first | (simp (maxDischargeDepth := 30); done) | (try simp_all (maxDischargeDepth := 30)))
@[simp] theorem State.madcStop_outer (s : State) (k : Nat)  :
    (State.madcStop s k).outer = s.outer := by
  unfold State.madcStop
  try dsimp only
  try (repeat' split)
  all_goals (first | (simp (maxDischargeDepth := 30); done) | (try simp_all (maxDischargeDepth := 30)))
@[simp] theorem State.madcHold_outer (s : State) (k : Nat)  :
    (State.madcHold s k).outer = s.outer := by
  unfold State.madcHold
  try dsimp only
  try (repeat' split)
  all_goals (first | (simp (maxDischargeDepth := 30); done) | (try simp_all (maxDischargeDepth := 30)))
@[simp] theorem State.wMadcCtrl_outer (s : State) (fn : Nat) (k : Nat) (val : Nat)  :
    (State.wMadcCtrl s fn k val).outer = s.outer := by
  unfold State.wMadcCtrl
  try dsimp only
  try (repeat' split)
  all_goals (first | (simp (maxDischargeDepth := 30); done) | (try simp_all (maxDischargeDepth := 30)))
@[simp] theorem State.wMadcMask_outer (s : State) (k : Nat) (val : Nat)  :
    (State.wMadcMask s k val).outer = s.outer := by
  unfold State.wMadcMask
  try dsimp only
  try (repeat' split)
  all_goals (first | (simp (maxDischargeDepth := 30); done) | (try simp_all (maxDischargeDepth := 30)))
@[simp] theorem State.wMadcSrc_outer (s : State) (fn : Nat) (k : Nat) (val : Nat)  :
    (State.wMadcSrc s fn k val).outer = s.outer := by
  unfold State.wMadcSrc
  try dsimp only
  try (repeat' split)
  all_goals (first | (simp (maxDischargeDepth := 30); done) | (try simp_all (maxDischargeDepth := 30)))
@[simp] theorem State.wMadcQueue_outer (s : State) (fn : Nat) (k : Nat) (val : Nat)  :
    (State.wMadcQueue s fn k val).outer = s.outer := by
  unfold State.wMadcQueue
  try dsimp only
  try (repeat' split)
  all_goals (first | (simp (maxDischargeDepth := 30); done) | (try simp_all (maxDischargeDepth := 30)))
@[simp] theorem State.madcSample_outer (s : State)  :
    (State.madcSample s).outer = s.outer := by
  unfold State.madcSample
  apply forEach_outer
  intro j t
  split
  · split <;> simp
  · rfl
@[simp] theorem State.madcNext_outer (s : State) (k : Nat) (c : Scan) (at_ : Nat)  :
    (State.madcNext s k c at_).outer = s.outer := by
  unfold State.madcNext
  try dsimp only
  try (repeat' split)
  all_goals (first | (simp (maxDischargeDepth := 30); done) | (try simp_all (maxDischargeDepth := 30)))
@[simp] theorem State.madcFaultNext_outer (s : State) (k : Nat) (c : Scan) (at_ : Nat)  :
    (State.madcFaultNext s k c at_).outer = s.outer := by
  unfold State.madcFaultNext
  try dsimp only
  try (repeat' split)
  all_goals (first | (simp (maxDischargeDepth := 30); done) | (try simp_all (maxDischargeDepth := 30)))
@[simp] theorem State.madcGap_outer (s : State) (k : Nat) (tt : Nat) (seq : Nat) (n : Nat)  :
    (State.madcGap s k tt seq n).outer = s.outer := by
  unfold State.madcGap
  try dsimp only
  try (repeat' split)
  all_goals (first | (simp (maxDischargeDepth := 30); done) | (try simp_all (maxDischargeDepth := 30)))
@[simp] theorem State.madcResult_outer (s : State) (k : Nat) (c : Scan) (n : Nat) (raw : Int)  :
    (State.madcResult s k c n raw).outer = s.outer := by
  unfold State.madcResult
  try dsimp only
  try (repeat' split)
  all_goals (first | (simp (maxDischargeDepth := 30); done) | (try simp_all (maxDischargeDepth := 30)))
@[simp] theorem State.madcMove_outer (s : State) (k : Nat)  :
    (State.madcMove s k).outer = s.outer := by
  unfold State.madcMove
  try dsimp only
  try (repeat' split)
  all_goals (first | (simp (maxDischargeDepth := 30); done) | (try simp_all (maxDischargeDepth := 30)))

end Sys2Proof.Machine
end

