-- ==== Sys2Proof/Laws/OuterAcq.lean ====
section
/-! SUPPORT. Operations of Acq keep what `State.outer` reads. -/

namespace Sys2Proof.Machine

@[simp] theorem State.trigOutEvent_outer (s : State) (line : Nat) (tt : Nat)  :
    (State.trigOutEvent s line tt).outer = s.outer := by
  unfold State.trigOutEvent
  try dsimp only
  try (repeat' split)
  all_goals (first | (simp (maxDischargeDepth := 30); done) | (try simp_all (maxDischargeDepth := 30)))
@[simp] theorem State.acqWrite_outer (s : State) (k : Nat) (r : AcqRec)  :
    (State.acqWrite s k r).outer = s.outer := by
  unfold State.acqWrite
  try dsimp only
  try (repeat' split)
  all_goals (first | (simp (maxDischargeDepth := 30); done) | (try simp_all (maxDischargeDepth := 30)))
@[simp] theorem State.acqEdge_outer (s : State) (k : Nat) (r : AcqRec)  :
    (State.acqEdge s k r).outer = s.outer := by
  unfold State.acqEdge
  try dsimp only
  try (repeat' split)
  all_goals (first | (simp (maxDischargeDepth := 30); done) | (try simp_all (maxDischargeDepth := 30)))
@[simp] theorem State.acqLand_outer (s : State) (k : Nat)  :
    (State.acqLand s k).outer = s.outer := by
  unfold State.acqLand
  try dsimp only
  try (repeat' split)
  all_goals (first | (simp (maxDischargeDepth := 30); done) | (try simp_all (maxDischargeDepth := 30)))
@[simp] theorem State.acqArrive_outer (s : State) (k : Nat)  :
    (State.acqArrive s k).outer = s.outer := by
  unfold State.acqArrive
  try dsimp only
  try (repeat' split)
  all_goals (first | (simp (maxDischargeDepth := 30); done) | (try simp_all (maxDischargeDepth := 30)))
@[simp] theorem State.acqCatchUp_outer (s : State) (k : Nat) (tt : Nat)  :
    (State.acqCatchUp s k tt).outer = s.outer := by
  unfold State.acqCatchUp
  try dsimp only
  try (repeat' split)
  all_goals (first | (simp (maxDischargeDepth := 30); done) | (try simp_all (maxDischargeDepth := 30)))
@[simp] theorem State.acqAccept_outer (s0 : State) (k : Nat) (t : Int) (ty : Nat) (interp : Bool) (id : Nat)
    (D : Nat)  :
    (State.acqAccept s0 k t ty interp id D).outer = s0.outer := by
  unfold State.acqAccept
  try dsimp only
  try (repeat' split)
  all_goals (first | (simp (maxDischargeDepth := 30); done) | (try simp_all (maxDischargeDepth := 30)))
@[simp] theorem State.acqTrigger_outer (s : State) (k : Nat) (t : Int) (ty : Nat) (interp : Bool) (id : Nat)
    (D : Nat)  :
    (State.acqTrigger s k t ty interp id D).outer = s.outer := by
  unfold State.acqTrigger
  try dsimp only
  try (repeat' split)
  all_goals (first | (simp (maxDischargeDepth := 30); done) | (try simp_all (maxDischargeDepth := 30)))
@[simp] theorem State.acqDeclareBy_outer (s : State) (k : Nat) (by_ : Nat)  :
    (State.acqDeclareBy s k by_).outer = s.outer := by
  unfold State.acqDeclareBy
  try dsimp only
  try (repeat' split)
  all_goals (first | (simp (maxDischargeDepth := 30); done) | (try simp_all (maxDischargeDepth := 30)))
@[simp] theorem State.acqDeclare_outer (s : State) (k : Nat)  :
    (State.acqDeclare s k).outer = s.outer := by
  unfold State.acqDeclare
  try dsimp only
  try (repeat' split)
  all_goals (first | (simp (maxDischargeDepth := 30); done) | (try simp_all (maxDischargeDepth := 30)))
@[simp] theorem State.acqStamp_outer (s : State) (ch : Nat) (cl : Bool) (rising : Bool) (raw : Nat)  :
    (State.acqStamp s ch cl rising raw).outer = s.outer := by
  unfold State.acqStamp
  try dsimp only
  try (repeat' split)
  all_goals (first | (simp (maxDischargeDepth := 30); done) | (try simp_all (maxDischargeDepth := 30)))
@[simp] theorem State.acqSample_outer (s : State) (k : Nat) (n : Nat) (hold : Nat) (word : Nat)  :
    (State.acqSample s k n hold word).outer = s.outer := by
  unfold State.acqSample
  try dsimp only
  try (repeat' split)
  all_goals (first | (simp (maxDischargeDepth := 30); done) | (try simp_all (maxDischargeDepth := 30)))
@[simp] theorem State.acqMark_outer (s : State) (st : Nat) (tt : Nat) (id : Nat)  :
    (State.acqMark s st tt id).outer = s.outer := by
  unfold State.acqMark
  try dsimp only
  try (repeat' split)
  all_goals (first | (simp (maxDischargeDepth := 30); done) | (try simp_all (maxDischargeDepth := 30)))
@[simp] theorem State.acqTrigIn_outer (s : State) (o : Nat) (line : Nat) (tt : Nat)  :
    (State.acqTrigIn s o line tt).outer = s.outer := by
  unfold State.acqTrigIn
  try dsimp only
  try (repeat' split)
  all_goals (first | (simp (maxDischargeDepth := 30); done) | (try simp_all (maxDischargeDepth := 30)))
@[simp] theorem State.madcDone_outer (s : State) (k : Nat) (raw : Int) (fault : State → State) (hfault : ∀ y1,
    (fault y1).outer = y1.outer) :
    (State.madcDone s k raw fault).outer = s.outer := by
  unfold State.madcDone
  try dsimp only
  try (repeat' split)
  all_goals (first | (simp (maxDischargeDepth := 30); done) | (try simp_all (maxDischargeDepth := 30)))
@[simp] theorem State.acqDisarm_outer (s : State) (k : Nat)  :
    (State.acqDisarm s k).outer = s.outer := by
  unfold State.acqDisarm
  try dsimp only
  try (repeat' split)
  all_goals (first | (simp (maxDischargeDepth := 30); done) | (try simp_all (maxDischargeDepth := 30)))
@[simp] theorem State.acqRunStop_outer (s : State) (k : Nat)  :
    (State.acqRunStop s k).outer = s.outer := by
  unfold State.acqRunStop
  try dsimp only
  try (repeat' split)
  all_goals (first | (simp (maxDischargeDepth := 30); done) | (try simp_all (maxDischargeDepth := 30)))
@[simp] theorem State.acqSafe_outer (s : State) (k : Nat)  :
    (State.acqSafe s k).outer = s.outer := by
  unfold State.acqSafe
  try dsimp only
  try (repeat' split)
  all_goals (first | (simp (maxDischargeDepth := 30); done) | (try simp_all (maxDischargeDepth := 30)))
@[simp] theorem State.acqArm_outer (s : State) (fn : Nat) (k : Nat)  :
    (State.acqArm s fn k).outer = s.outer := by
  unfold State.acqArm
  try dsimp only
  try (repeat' split)
  all_goals (first | (simp (maxDischargeDepth := 30); done) | (try simp_all (maxDischargeDepth := 30)))
@[simp] theorem State.acqForce_outer (s : State) (fn : Nat) (k : Nat)  :
    (State.acqForce s fn k).outer = s.outer := by
  unfold State.acqForce
  try dsimp only
  try (repeat' split)
  all_goals (first | (simp (maxDischargeDepth := 30); done) | (try simp_all (maxDischargeDepth := 30)))
@[simp] theorem State.wAcqArm_outer (s : State) (fn : Nat) (k : Nat) (val : Nat)  :
    (State.wAcqArm s fn k val).outer = s.outer := by
  unfold State.wAcqArm
  try dsimp only
  try (repeat' split)
  all_goals (first | (simp (maxDischargeDepth := 30); done) | (try simp_all (maxDischargeDepth := 30)))
@[simp] theorem State.wAcqCtrl_outer (s : State) (fn : Nat) (k : Nat) (val : Nat)  :
    (State.wAcqCtrl s fn k val).outer = s.outer := by
  unfold State.wAcqCtrl
  try dsimp only
  try (repeat' split)
  all_goals (first | (simp (maxDischargeDepth := 30); done) | (try simp_all (maxDischargeDepth := 30)))
@[simp] theorem State.acqConfig_outer (s : State) (fn : Nat) (k : Nat) (bad : Bool) (code : Nat) (f : Acq → Acq)  :
    (State.acqConfig s fn k bad code f).outer = s.outer := by
  unfold State.acqConfig
  try dsimp only
  try (repeat' split)
  all_goals (first | (simp (maxDischargeDepth := 30); done) | (try simp_all (maxDischargeDepth := 30)))
@[simp] theorem State.wAcqType_outer (s : State) (fn : Nat) (k : Nat) (val : Nat)  :
    (State.wAcqType s fn k val).outer = s.outer := by
  unfold State.wAcqType
  try dsimp only
  try (repeat' split)
  all_goals (first | (simp (maxDischargeDepth := 30); done) | (try simp_all (maxDischargeDepth := 30)))
@[simp] theorem State.wAcqSrc_outer (s : State) (fn : Nat) (k : Nat) (val : Nat)  :
    (State.wAcqSrc s fn k val).outer = s.outer := by
  unfold State.wAcqSrc
  try dsimp only
  try (repeat' split)
  all_goals (first | (simp (maxDischargeDepth := 30); done) | (try simp_all (maxDischargeDepth := 30)))
@[simp] theorem State.wAcqThresh_outer (s : State) (fn : Nat) (k : Nat) (hi : Bool) (val : Nat)  :
    (State.wAcqThresh s fn k hi val).outer = s.outer := by
  unfold State.wAcqThresh
  try dsimp only
  try (repeat' split)
  all_goals (first | (simp (maxDischargeDepth := 30); done) | (try simp_all (maxDischargeDepth := 30)))
@[simp] theorem State.wAcqLimit_outer (s : State) (fn : Nat) (k : Nat) (lo : Nat) (val : Nat)  :
    (State.wAcqLimit s fn k lo val).outer = s.outer := by
  unfold State.wAcqLimit
  try dsimp only
  try (repeat' split)
  all_goals (first | (simp (maxDischargeDepth := 30); done) | (try simp_all (maxDischargeDepth := 30)))
@[simp] theorem State.wAcqPre_outer (s : State) (fn : Nat) (k : Nat) (val : Nat)  :
    (State.wAcqPre s fn k val).outer = s.outer := by
  unfold State.wAcqPre
  try dsimp only
  try (repeat' split)
  all_goals (first | (simp (maxDischargeDepth := 30); done) | (try simp_all (maxDischargeDepth := 30)))
@[simp] theorem State.wAcqPost_outer (s : State) (fn : Nat) (k : Nat) (val : Nat)  :
    (State.wAcqPost s fn k val).outer = s.outer := by
  unfold State.wAcqPost
  try dsimp only
  try (repeat' split)
  all_goals (first | (simp (maxDischargeDepth := 30); done) | (try simp_all (maxDischargeDepth := 30)))
@[simp] theorem State.wAcqQueue_outer (s : State) (fn : Nat) (k : Nat) (val : Nat)  :
    (State.wAcqQueue s fn k val).outer = s.outer := by
  unfold State.wAcqQueue
  try dsimp only
  try (repeat' split)
  all_goals (first | (simp (maxDischargeDepth := 30); done) | (try simp_all (maxDischargeDepth := 30)))
@[simp] theorem State.acqLoneGap_outer (s : State) (k : Nat)  :
    (State.acqLoneGap s k).outer = s.outer := by
  unfold State.acqLoneGap
  try dsimp only
  try (repeat' split)
  all_goals (first | (simp (maxDischargeDepth := 30); done) | (try simp_all (maxDischargeDepth := 30)))
@[simp] theorem State.acqMove_outer (s : State) (k : Nat)  :
    (State.acqMove s k).outer = s.outer := by
  unfold State.acqMove
  try dsimp only
  try (repeat' split)
  all_goals (first | (simp (maxDischargeDepth := 30); done) | (try simp_all (maxDischargeDepth := 30)))

end Sys2Proof.Machine
end

