-- ==== Sys2Proof/Laws/OuterModes.lean ====
section
/-! SUPPORT. Operations of Modes keep what `State.outer` reads. -/

namespace Sys2Proof.Machine

@[simp] theorem State.setCause_outer (s : State) (m : Nat)  :
    (State.setCause s m).outer = s.outer := by
  unfold State.setCause
  try dsimp only
  try (repeat' split)
  all_goals (first | (simp (maxDischargeDepth := 30); done) | (try simp_all (maxDischargeDepth := 30)))
@[simp] theorem State.wSafeCause_outer (s : State) (val : Nat)  :
    (State.wSafeCause s val).outer = s.outer := by
  unfold State.wSafeCause
  try dsimp only
  try (repeat' split)
  all_goals (first | (simp (maxDischargeDepth := 30); done) | (try simp_all (maxDischargeDepth := 30)))
@[simp] theorem State.hizStart_outer (s : State) (safe : Bool) (ch : Nat)  :
    (State.hizStart s safe ch).outer = s.outer := by
  unfold State.hizStart
  try dsimp only
  try (repeat' split)
  all_goals (first | (simp (maxDischargeDepth := 30); done) | (try simp_all (maxDischargeDepth := 30)))
@[simp] theorem State.hizDone_outer (s : State) (ch : Nat)  :
    (State.hizDone s ch).outer = s.outer := by
  unfold State.hizDone
  try dsimp only
  try (repeat' split)
  all_goals (first | (simp (maxDischargeDepth := 30); done) | (try simp_all (maxDischargeDepth := 30)))
@[simp] theorem State.hizFrom_outer (s : State) (safe : Bool) (ch : Nat)  :
    (State.hizFrom s safe ch).outer = s.outer := by
  unfold State.hizFrom
  try dsimp only
  try (repeat' split)
  all_goals (first | (simp (maxDischargeDepth := 30); done) | (try simp_all (maxDischargeDepth := 30)))
@[simp] theorem State.hizAll_outer (s : State) (safe : Bool) (l : List Nat)  :
    (State.hizAll s safe l).outer = s.outer := by
  unfold State.hizAll
  try dsimp only
  try (repeat' split)
  all_goals (first | (simp (maxDischargeDepth := 30); done) | (try simp_all (maxDischargeDepth := 30)))
@[simp] theorem State.powerUpPins_outer (s : State) (ch : Nat)  :
    (State.powerUpPins s ch).outer = s.outer := by
  unfold State.powerUpPins
  try dsimp only
  try (repeat' split)
  all_goals (first | (simp (maxDischargeDepth := 30); done) | (try simp_all (maxDischargeDepth := 30)))
@[simp] theorem State.calFail_outer (s : State) (r : Nat) (code : Nat)  :
    (State.calFail s r code).outer = s.outer := by
  unfold State.calFail
  try dsimp only
  try (repeat' split)
  all_goals (first | (simp (maxDischargeDepth := 30); done) | (try simp_all (maxDischargeDepth := 30)))
@[simp] theorem State.madcRelease_outer (s : State) (k : Nat)  :
    (State.madcRelease s k).outer = s.outer := by
  unfold State.madcRelease
  try dsimp only
  try (repeat' split)
  all_goals (first | (simp (maxDischargeDepth := 30); done) | (try simp_all (maxDischargeDepth := 30)))
@[simp] theorem State.stepEnd_outer (s : State) (k : Nat)  :
    (State.stepEnd s k).outer = s.outer := by
  unfold State.stepEnd
  try dsimp only
  try (repeat' split)
  all_goals (first | (simp (maxDischargeDepth := 30); done) | (try simp_all (maxDischargeDepth := 30)))
@[simp] theorem State.calAbandon_outer (s : State) (i : Nat)  :
    (State.calAbandon s i).outer = s.outer := by
  unfold State.calAbandon
  try dsimp only
  try (repeat' split)
  all_goals (first | (simp (maxDischargeDepth := 30); done) | (try simp_all (maxDischargeDepth := 30)))
@[simp] theorem State.calAbandonAll_outer (s : State)  :
    (State.calAbandonAll s).outer = s.outer := by
  unfold State.calAbandonAll
  try dsimp only
  try (repeat' split)
  all_goals (first | (simp (maxDischargeDepth := 30); done) | (try simp_all (maxDischargeDepth := 30)))
@[simp] theorem State.modMc_outer (s : State) (r : Nat) (f : Slots McImage → Slots McImage)  :
    (State.modMc s r f).outer = s.outer := by
  unfold State.modMc
  try dsimp only
  try (repeat' split)
  all_goals (first | (simp (maxDischargeDepth := 30); done) | (try simp_all (maxDischargeDepth := 30)))
@[simp] theorem State.installUndo_outer (s : State) (r : Nat)  :
    (State.installUndo s r).outer = s.outer := by
  unfold State.installUndo
  try dsimp only
  try (repeat' split)
  all_goals (first | (simp (maxDischargeDepth := 30); done) | (try simp_all (maxDischargeDepth := 30)))
@[simp] theorem State.updateAbandon_outer (s : State)  :
    (State.updateAbandon s).outer = s.outer := by
  unfold State.updateAbandon
  try dsimp only
  try (repeat' split)
  all_goals (first | (simp (maxDischargeDepth := 30); done) | (try simp_all (maxDischargeDepth := 30)))
@[simp] theorem State.unitsSafe_outer (s : State)  :
    (State.unitsSafe s).outer = s.outer := by
  unfold State.unitsSafe
  try dsimp only
  try (repeat' split)
  all_goals (first | (simp (maxDischargeDepth := 30); done) | (try simp_all (maxDischargeDepth := 30)))
@[simp] theorem State.safeEntry_outer (s : State) (code : Nat)  :
    (State.safeEntry s code).outer = s.outer := by
  unfold State.safeEntry
  try dsimp only
  try (repeat' split)
  all_goals (first | (simp (maxDischargeDepth := 30); done) | (try simp_all (maxDischargeDepth := 30)))
@[simp] theorem State.enterSafe_outer (s : State) (code : Nat)  :
    (State.enterSafe s code).outer = s.outer := by
  unfold State.enterSafe
  try dsimp only
  try (repeat' split)
  all_goals (first | (simp (maxDischargeDepth := 30); done) | (try simp_all (maxDischargeDepth := 30)))
@[simp] theorem State.safeRequest_outer (s : State)  :
    (State.safeRequest s).outer = s.outer := by
  unfold State.safeRequest
  try dsimp only
  try (repeat' split)
  all_goals (first | (simp (maxDischargeDepth := 30); done) | (try simp_all (maxDischargeDepth := 30)))
@[simp] theorem State.toSafe_outer (s : State) (m : Nat) (code : Nat)  :
    (State.toSafe s m code).outer = s.outer := by
  unfold State.toSafe
  try dsimp only
  try (repeat' split)
  all_goals (first | (simp (maxDischargeDepth := 30); done) | (try simp_all (maxDischargeDepth := 30)))
@[simp] theorem State.modeReject_outer (s : State) (code : Nat)  :
    (State.modeReject s code).outer = s.outer := by
  unfold State.modeReject
  try dsimp only
  try (repeat' split)
  all_goals (first | (simp (maxDischargeDepth := 30); done) | (try simp_all (maxDischargeDepth := 30)))
@[simp] theorem State.begin_outer (s : State) (m : Mode)  :
    (State.begin s m).outer = s.outer := by
  unfold State.begin
  try dsimp only
  try (repeat' split)
  all_goals (first | (simp (maxDischargeDepth := 30); done) | (try simp_all (maxDischargeDepth := 30)))
@[simp] theorem State.endRunMode_outer (s : State)  :
    (State.endRunMode s).outer = s.outer := by
  unfold State.endRunMode
  try dsimp only
  try (repeat' split)
  all_goals (first | (simp (maxDischargeDepth := 30); done) | (try simp_all (maxDischargeDepth := 30)))
@[simp] theorem State.wModeCtrl_outer (s : State) (val : Nat)  :
    (State.wModeCtrl s val).outer = s.outer := by
  unfold State.wModeCtrl
  dsimp only
  split
  · simp
  · split <;> (repeat' split) <;> simp
@[simp] theorem State.modeReq_outer (s : State) (fn : Nat) (val : Nat)  :
    (State.modeReq s fn val).outer = s.outer := by
  unfold State.modeReq
  try dsimp only
  try (repeat' split)
  all_goals (first | (simp (maxDischargeDepth := 30); done) | (try simp_all (maxDischargeDepth := 30)))
@[simp] theorem State.siteNotice_outer (s : State) (a : Mode) (b : Mode)  :
    (State.siteNotice s a b).outer = s.outer := by
  unfold State.siteNotice
  try dsimp only
  try (repeat' split)
  all_goals (first | (simp (maxDischargeDepth := 30); done) | (try simp_all (maxDischargeDepth := 30)))
@[simp] theorem State.norStart_outer (s : State)  :
    (State.norStart s).outer = s.outer := by
  unfold State.norStart
  try dsimp only
  try (repeat' split)
  all_goals (first | (simp (maxDischargeDepth := 30); done) | (try simp_all (maxDischargeDepth := 30)))
@[simp] theorem State.norWrite_outer (s : State) (r : Nat)  :
    (State.norWrite s r).outer = s.outer := by
  unfold State.norWrite
  try dsimp only
  try (repeat' split)
  all_goals (first | (simp (maxDischargeDepth := 30); done) | (try simp_all (maxDischargeDepth := 30)))
@[simp] theorem State.leaveSafe_outer (s : State)  :
    (State.leaveSafe s).outer = s.outer := by
  unfold State.leaveSafe
  try dsimp only
  try (repeat' split)
  all_goals (first | (simp (maxDischargeDepth := 30); done) | (try simp_all (maxDischargeDepth := 30)))
@[simp] theorem State.seqAdvance_outer (s : State)  :
    (State.seqAdvance s).outer = s.outer := by
  unfold State.seqAdvance
  try dsimp only
  try (repeat' split)
  all_goals (first | (simp (maxDischargeDepth := 30); done) | (try simp_all (maxDischargeDepth := 30)))
@[simp] theorem State.calSequence_outer (s : State)  :
    (State.calSequence s).outer = s.outer := by
  unfold State.calSequence
  try dsimp only
  try (repeat' split)
  all_goals (first | (simp (maxDischargeDepth := 30); done) | (try simp_all (maxDischargeDepth := 30)))
@[simp] theorem State.modeLeft_outer (s : State) (old : Mode) (m : Mode)  :
    (State.modeLeft s old m).outer = s.outer := by
  unfold State.modeLeft
  try dsimp only
  try (repeat' split)
  all_goals (first | (simp (maxDischargeDepth := 30); done) | (try simp_all (maxDischargeDepth := 30)))
@[simp] theorem State.finish_outer (s : State) (m : Mode)  :
    (State.finish s m).outer = s.outer := by
  unfold State.finish
  try dsimp only
  try (repeat' split)
  all_goals (first | (simp (maxDischargeDepth := 30); done) | (try simp_all (maxDischargeDepth := 30)))
@[simp] theorem State.jtagRelease_outer (s : State)  :
    (State.jtagRelease s).outer = s.outer := by
  unfold State.jtagRelease
  try dsimp only
  try (repeat' split)
  all_goals (first | (simp (maxDischargeDepth := 30); done) | (try simp_all (maxDischargeDepth := 30)))
@[simp] theorem State.transitionDone_outer (s : State)  :
    (State.transitionDone s).outer = s.outer := by
  unfold State.transitionDone
  try dsimp only
  try (repeat' split)
  all_goals (first | (simp (maxDischargeDepth := 30); done) | (try simp_all (maxDischargeDepth := 30)))
@[simp] theorem State.bootReady_outer (s : State)  :
    (State.bootReady s).outer = s.outer := by
  unfold State.bootReady
  try dsimp only
  try (repeat' split)
  all_goals (first | (simp (maxDischargeDepth := 30); done) | (try simp_all (maxDischargeDepth := 30)))
@[simp] theorem State.warmSample_outer (s : State)  :
    (State.warmSample s).outer = s.outer := by
  unfold State.warmSample
  try dsimp only
  try (repeat' split)
  all_goals (first | (simp (maxDischargeDepth := 30); done) | (try simp_all (maxDischargeDepth := 30)))
@[simp] theorem State.doeForget_outer (s : State) (fn : Nat)  :
    (State.doeForget s fn).outer = s.outer := by
  unfold State.doeForget
  try dsimp only
  try (repeat' split)
  all_goals (first | (simp (maxDischargeDepth := 30); done) | (try simp_all (maxDischargeDepth := 30)))
@[simp] theorem State.fnClear_outer (s : State) (fn : Nat)  :
    (State.fnClear s fn).outer = s.outer := by
  unfold State.fnClear
  try dsimp only
  try (repeat' split)
  all_goals (first | (simp (maxDischargeDepth := 30); done) | (try simp_all (maxDischargeDepth := 30)))
@[simp] theorem State.endpointReset_outer (s : State) (e : Nat)  :
    (State.endpointReset s e).outer = s.outer := by
  unfold State.endpointReset
  try dsimp only
  try (repeat' split)
  all_goals (first | (simp (maxDischargeDepth := 30); done) | (try simp_all (maxDischargeDepth := 30)))
@[simp] theorem State.vfReset_outer (s : State) (i : Nat)  :
    (State.vfReset s i).outer = s.outer := by
  unfold State.vfReset
  try dsimp only
  try (repeat' split)
  all_goals (first | (simp (maxDischargeDepth := 30); done) | (try simp_all (maxDischargeDepth := 30)))
@[simp] theorem State.functionReset_outer (s : State) (fn : Nat) (how : Nat)  :
    (State.functionReset s fn how).outer = s.outer := by
  unfold State.functionReset
  try dsimp only
  try (repeat' split)
  all_goals (first | (simp (maxDischargeDepth := 30); done) | (try simp_all (maxDischargeDepth := 30)))
@[simp] theorem State.msixFlush_outer (s : State) (fn : Nat)  :
    (State.msixFlush s fn).outer = s.outer := by
  unfold State.msixFlush
  try dsimp only
  try (repeat' split)
  all_goals (first | (simp (maxDischargeDepth := 30); done) | (try simp_all (maxDischargeDepth := 30)))

@[simp] theorem State.msixWrite_outer (s : State) (fn : Nat) (off : Nat) (val : Nat)  :
    (State.msixWrite s fn off val).outer = s.outer := by
  unfold State.msixWrite
  try dsimp only
  try (repeat' split)
  all_goals (first | (simp (maxDischargeDepth := 30); done) | (try simp_all (maxDischargeDepth := 30)))

end Sys2Proof.Machine
end

