-- ==== Sys2Proof/Laws/OuterPower.lean ====
section
/-! SUPPORT. Operations of Power keep what `State.outer` reads. -/

namespace Sys2Proof.Machine

@[simp] theorem State.drbgSeed_outer (s : State)  :
    (State.drbgSeed s).outer = s.outer := by
  unfold State.drbgSeed
  try dsimp only
  try (repeat' split)
  all_goals (first | (simp (maxDischargeDepth := 30); done) | (try simp_all (maxDischargeDepth := 30)))
@[simp] theorem State.drbgReseed_outer (s : State)  :
    (State.drbgReseed s).outer = s.outer := by
  unfold State.drbgReseed
  try dsimp only
  try (repeat' split)
  all_goals (first | (simp (maxDischargeDepth := 30); done) | (try simp_all (maxDischargeDepth := 30)))
@[simp] theorem State.draw_outer (s : State) (n : Nat)  :
    (State.draw s n).1.outer = s.outer := by
  unfold State.draw
  try dsimp only
  try (repeat' split)
  all_goals (first | (simp (maxDischargeDepth := 30); done) | (try simp_all (maxDischargeDepth := 30)))
@[simp] theorem State.newKey_outer (s : State) (h : Nat)  :
    (State.newKey s h).outer = s.outer := by
  unfold State.newKey
  try dsimp only
  try (repeat' split)
  all_goals (first | (simp (maxDischargeDepth := 30); done) | (try simp_all (maxDischargeDepth := 30)))
@[simp] theorem State.rekey_outer (s : State) (h : Nat)  :
    (State.rekey s h).outer = s.outer := by
  unfold State.rekey
  try dsimp only
  try (repeat' split)
  all_goals (first | (simp (maxDischargeDepth := 30); done) | (try simp_all (maxDischargeDepth := 30)))
@[simp] theorem State.powerGood_outer (s : State) (bifur : Bool) (smbAddr : Nat)  :
    (State.powerGood s bifur smbAddr).outer = s.outer := by
  unfold State.powerGood
  dsimp only
  have hb : ∀ x : Sec, (forEach (List.range 17) (fun h t => t.newKey h) (State.drbgSeed ({
    grade08 := s.grade08, bifur := bifur, smbAddr := smbAddr % 8, uptime := s.uptime, stage := .on
    pwr := { en := s.pwr.en, vin := s.pwr.vin, uvlo := s.pwr.uvlo }
    glb := { pwrOk := true, goodAt := s.up }
    sec := x, nor := s.nor, otp := s.otp, outs := s.outs, free := s.free, pending := s.pending } : State))).outer = s.outer :=
    fun x => (forEach_outer _ _ _ (fun i t => by simp)).trans (State.drbgSeed_outer _)
  generalize List.range 17 = l at hb ⊢
  split <;> (split <;> first | exact (State.norWrite_outer _ _).trans (hb _) | exact hb _)
@[simp] theorem State.pllLock_outer (s : State)  :
    (State.pllLock s).outer = s.outer := by
  unfold State.pllLock
  split
  · rfl
  · dsimp only
    rw [State.cause_outer]
    rfl
@[simp] theorem State.clearFail_outer (s : State) (ty : Nat) (inst : Nat)  :
    (State.clearFail s ty inst).outer = s.outer := by
  unfold State.clearFail
  try dsimp only
  try (repeat' split)
  all_goals (first | (simp (maxDischargeDepth := 30); done) | (try simp_all (maxDischargeDepth := 30)))
@[simp] theorem State.hbmCleared_outer (s : State) (failed : Nat)  :
    (State.hbmCleared s failed).outer = s.outer := by
  unfold State.hbmCleared
  try dsimp only
  try (repeat' split)
  all_goals (first | (simp (maxDischargeDepth := 30); done) | (try simp_all (maxDischargeDepth := 30)))
@[simp] theorem State.fwStart_outer (s : State) (slotB : Bool) (i : FwImage)  :
    (State.fwStart s slotB i).outer = s.outer := by
  unfold State.fwStart
  try dsimp only
  try (repeat' split)
  all_goals (first | (simp (maxDischargeDepth := 30); done) | (try simp_all (maxDischargeDepth := 30)))
@[simp] theorem State.fwVerify_outer (s : State) (sigA : FwVerdict) (sigB : FwVerdict)  :
    (State.fwVerify s sigA sigB).outer = s.outer := by
  unfold State.fwVerify
  try dsimp only
  try (repeat' split)
  all_goals (first | (simp (maxDischargeDepth := 30); done) | (try simp_all (maxDischargeDepth := 30)))
@[simp] theorem State.powerSteps_outer (s : State) (m : Nat)  :
    (State.powerSteps s m).outer = s.outer := by
  unfold State.powerSteps
  try dsimp only
  try (repeat' split)
  all_goals (first | (simp (maxDischargeDepth := 30); done) | (try simp_all (maxDischargeDepth := 30)))
@[simp] theorem State.powerWarn_outer (s : State) (vin : Nat)  :
    (State.powerWarn s vin).outer = s.outer := by
  unfold State.powerWarn
  try dsimp only
  try (repeat' split)
  all_goals (first | (simp (maxDischargeDepth := 30); done) | (try simp_all (maxDischargeDepth := 30)))
@[simp] theorem State.shedDone_outer (s : State)  :
    (State.shedDone s).outer = s.outer := by
  unfold State.shedDone
  try dsimp only
  try (repeat' split)
  all_goals (first | (simp (maxDischargeDepth := 30); done) | (try simp_all (maxDischargeDepth := 30)))
@[simp] theorem State.powerOff_outer (s : State)  :
    (State.powerOff s).outer = s.outer := by
  unfold State.powerOff
  have h := State.updateAbandon_outer s
  dsimp only [State.outer, State.modNor] at h ⊢
  exact h
@[simp] theorem State.pwrEnLow_outer (s : State)  :
    (State.pwrEnLow s).outer = s.outer := by
  unfold State.pwrEnLow
  try dsimp only
  try (repeat' split)
  all_goals (first | (simp (maxDischargeDepth := 30); done) | (try simp_all (maxDischargeDepth := 30)))
@[simp] theorem State.stageStop_outer (s : State)  :
    (State.stageStop s).outer = s.outer := by
  unfold State.stageStop
  split
  · rfl
  · dsimp only
    split <;> exact State.powerOff_outer s
@[simp] theorem State.overCurrent_outer (s : State)  :
    (State.overCurrent s).outer = s.outer := by
  unfold State.overCurrent
  try dsimp only
  try (repeat' split)
  all_goals (first | (simp (maxDischargeDepth := 30); done) | (try simp_all (maxDischargeDepth := 30)))
@[simp] theorem State.overVoltage_outer (s : State) (vin : Nat)  :
    (State.overVoltage s vin).outer = s.outer := by
  unfold State.overVoltage
  try dsimp only
  try (repeat' split)
  all_goals (first | (simp (maxDischargeDepth := 30); done) | (try simp_all (maxDischargeDepth := 30)))
@[simp] theorem State.overTemp_outer (s : State)  :
    (State.overTemp s).outer = s.outer := by
  unfold State.overTemp
  try dsimp only
  try (repeat' split)
  all_goals (first | (simp (maxDischargeDepth := 30); done) | (try simp_all (maxDischargeDepth := 30)))
@[simp] theorem State.telemetry_outer (s : State) (mv : Nat) (ma : Nat) (mw : Nat) (groups : List Nat)
    (temps : List Int) (ppm : Int)  :
    (State.telemetry s mv ma mw groups temps ppm).outer = s.outer := by
  unfold State.telemetry
  try dsimp only
  try (repeat' split)
  all_goals (first | (simp (maxDischargeDepth := 30); done) | (try simp_all (maxDischargeDepth := 30)))
@[simp] theorem State.onPmbus_outer (s : State) (op : State → State) (hop : ∀ y1, (op y1).outer = y1.outer) :
    (State.onPmbus s op).outer = s.outer := by
  unfold State.onPmbus
  try dsimp only
  try (repeat' split)
  all_goals (first | (simp (maxDischargeDepth := 30); done) | (try simp_all (maxDischargeDepth := 30)))
@[simp] theorem State.nack_outer (s : State) (b : Nat)  :
    (State.nack s b).outer = s.outer := by
  unfold State.nack
  try dsimp only
  try (repeat' split)
  all_goals (first | (simp (maxDischargeDepth := 30); done) | (try simp_all (maxDischargeDepth := 30)))
@[simp] theorem State.pmRead_outer (s : State) (pages : List Nat) (n : Nat) (v : State → Nat)  :
    (State.pmRead s pages n v).outer = s.outer := by
  unfold State.pmRead
  try dsimp only
  try (repeat' split)
  all_goals (first | (simp (maxDischargeDepth := 30); done) | (try simp_all (maxDischargeDepth := 30)))
@[simp] theorem State.clearFaults_outer (s : State)  :
    (State.clearFaults s).outer = s.outer := by
  unfold State.clearFaults
  try dsimp only
  try (repeat' split)
  all_goals (first | (simp (maxDischargeDepth := 30); done) | (try simp_all (maxDischargeDepth := 30)))
@[simp] theorem State.calBegin_outer (s : State)  :
    (State.calBegin s).outer = s.outer := by
  unfold State.calBegin
  try dsimp only
  try (repeat' split)
  all_goals (first | (simp (maxDischargeDepth := 30); done) | (try simp_all (maxDischargeDepth := 30)))
@[simp] theorem State.calClock_outer (s : State)  :
    (State.calClock s).outer = s.outer := by
  unfold State.calClock
  try dsimp only
  try (repeat' split)
  all_goals (first | (simp (maxDischargeDepth := 30); done) | (try simp_all (maxDischargeDepth := 30)))
@[simp] theorem State.clockFault_outer (s : State) (code : Nat) (m : Nat)  :
    (State.clockFault s code m).outer = s.outer := by
  unfold State.clockFault
  try dsimp only
  try (repeat' split)
  all_goals (first | (simp (maxDischargeDepth := 30); done) | (try simp_all (maxDischargeDepth := 30)))
@[simp] theorem State.clockLoss_outer (s : State)  :
    (State.clockLoss s).outer = s.outer := by
  unfold State.clockLoss
  try dsimp only
  try (repeat' split)
  all_goals (first | (simp (maxDischargeDepth := 30); done) | (try simp_all (maxDischargeDepth := 30)))
@[simp] theorem State.pllUnlock_outer (s : State)  :
    (State.pllUnlock s).outer = s.outer := by
  unfold State.pllUnlock
  try dsimp only
  try (repeat' split)
  all_goals (first | (simp (maxDischargeDepth := 30); done) | (try simp_all (maxDischargeDepth := 30)))
@[simp] theorem State.pllRelock_outer (s : State)  :
    (State.pllRelock s).outer = s.outer := by
  unfold State.pllRelock
  try dsimp only
  try (repeat' split)
  all_goals (first | (simp (maxDischargeDepth := 30); done) | (try simp_all (maxDischargeDepth := 30)))

end Sys2Proof.Machine
end

