-- ==== Sys2Proof/Laws/OuterFaults.lean ====
section
/-! SUPPORT. Operations of Faults keep what `State.outer` reads. -/

namespace Sys2Proof.Machine

@[simp] theorem State.channelPages_outer (s : State) (ch : Nat)  :
    (State.channelPages s ch).outer = s.outer := by
  unfold State.channelPages
  try dsimp only
  try (repeat' split)
  all_goals (first | (simp (maxDischargeDepth := 30); done) | (try simp_all (maxDischargeDepth := 30)))
@[simp] theorem State.channelHold_outer (s : State) (ch : Nat)  :
    (State.channelHold s ch).outer = s.outer := by
  unfold State.channelHold
  try dsimp only
  try (repeat' split)
  all_goals (first | (simp (maxDischargeDepth := 30); done) | (try simp_all (maxDischargeDepth := 30)))
@[simp] theorem State.channelOut_outer (s : State) (ch : Nat)  :
    (State.channelOut s ch).outer = s.outer := by
  unfold State.channelOut
  try dsimp only
  try (repeat' split)
  all_goals (first | (simp (maxDischargeDepth := 30); done) | (try simp_all (maxDischargeDepth := 30)))
@[simp] theorem State.markRetired_outer (s : State) (key : Nat)  :
    (State.markRetired s key).outer = s.outer := by
  unfold State.markRetired
  try dsimp only
  try (repeat' split)
  all_goals (first | (simp (maxDischargeDepth := 30); done) | (try simp_all (maxDischargeDepth := 30)))
@[simp] theorem State.acqLaneGone_outer (s : State) (ch : Nat)  :
    (State.acqLaneGone s ch).outer = s.outer := by
  unfold State.acqLaneGone
  try dsimp only
  try (repeat' split)
  all_goals (first | (simp (maxDischargeDepth := 30); done) | (try simp_all (maxDischargeDepth := 30)))
@[simp] theorem State.retireChannel_outer (s : State) (ch : Nat) (late : Bool)  :
    (State.retireChannel s ch late).outer = s.outer := by
  unfold State.retireChannel
  try dsimp only
  try (repeat' split)
  all_goals (first | (simp (maxDischargeDepth := 30); done) | (try simp_all (maxDischargeDepth := 30)))
@[simp] theorem State.retireSlice_outer (s : State) (k : Nat) (n : Nat) (hold : Bool)  :
    (State.retireSlice s k n hold).outer = s.outer := by
  unfold State.retireSlice
  try dsimp only
  try (repeat' split)
  all_goals (first | (simp (maxDischargeDepth := 30); done) | (try simp_all (maxDischargeDepth := 30)))
@[simp] theorem State.retireUnit_outer (s : State) (kind : Nat) (i : Nat) (hold : Bool)  :
    (State.retireUnit s kind i hold).outer = s.outer := by
  unfold State.retireUnit
  try dsimp only
  try (repeat' split)
  all_goals (first | (simp (maxDischargeDepth := 30); done) | (try simp_all (maxDischargeDepth := 30)))
@[simp] theorem State.transientAt_outer (s : State) (tt : Nat) (kind : Nat) (i : Nat) (code : Nat) (ty : Nat)
    (inst : Nat) (site : Option Nat) (detail : Nat) (retryFailed : Bool) (hold : Bool)  :
    (State.transientAt s tt kind i code ty inst site detail retryFailed hold).outer = s.outer := by
  unfold State.transientAt
  try dsimp only
  try (repeat' split)
  all_goals (first | (simp (maxDischargeDepth := 30); done) | (try simp_all (maxDischargeDepth := 30)))
@[simp] theorem State.transient_outer (s : State) (kind : Nat) (i : Nat) (code : Nat) (ty : Nat) (inst : Nat)
    (site : Option Nat) (detail : Nat) (retryFailed : Bool) (hold : Bool)  :
    (State.transient s kind i code ty inst site detail retryFailed hold).outer = s.outer := by
  unfold State.transient
  try dsimp only
  try (repeat' split)
  all_goals (first | (simp (maxDischargeDepth := 30); done) | (try simp_all (maxDischargeDepth := 30)))
@[simp] theorem State.abortPointStep_outer (s : State) (st : Nat)  :
    (State.abortPointStep s st).outer = s.outer := by
  unfold State.abortPointStep
  try dsimp only
  try (repeat' split)
  all_goals (first | (simp (maxDischargeDepth := 30); done) | (try simp_all (maxDischargeDepth := 30)))

@[simp] theorem State.laneDue_outer (s : State) (ch : Nat)  :
    (State.laneDue s ch).outer = s.outer := by
  unfold State.laneDue
  try dsimp only
  try (repeat' split)
  all_goals (first | (simp (maxDischargeDepth := 30); done) | (try simp_all (maxDischargeDepth := 30)))
@[simp] theorem State.spareSwitch_outer (s : State) (k : Nat)  :
    (State.spareSwitch s k).outer = s.outer := by
  unfold State.spareSwitch
  try dsimp only
  try (repeat' split)
  all_goals (first | (simp (maxDischargeDepth := 30); done) | (try simp_all (maxDischargeDepth := 30)))
@[simp] theorem State.assignSpare_outer (s : State) (k : Nat)  :
    (State.assignSpare s k).outer = s.outer := by
  unfold State.assignSpare
  try dsimp only
  try (repeat' split)
  all_goals (first | (simp (maxDischargeDepth := 30); done) | (try simp_all (maxDischargeDepth := 30)))
@[simp] theorem State.applyRetired_outer (s : State) (key : Nat)  :
    (State.applyRetired s key).outer = s.outer := by
  unfold State.applyRetired
  try dsimp only
  try (repeat' split)
  all_goals (first | (simp (maxDischargeDepth := 30); done) | (try simp_all (maxDischargeDepth := 30)))
@[simp] theorem State.retireLoad_outer (s : State)  :
    (State.retireLoad s).outer = s.outer := by
  unfold State.retireLoad
  try dsimp only
  try (repeat' split)
  all_goals (first | (simp (maxDischargeDepth := 30); done) | (try simp_all (maxDischargeDepth := 30)))
@[simp] theorem State.clearChannel_outer (s : State) (ch : Nat)  :
    (State.clearChannel s ch).outer = s.outer := by
  unfold State.clearChannel
  try dsimp only
  try (repeat' split)
  all_goals (first | (simp (maxDischargeDepth := 30); done) | (try simp_all (maxDischargeDepth := 30)))
@[simp] theorem State.retireClear_outer (s : State) (kind : Nat) (i : Nat)  :
    (State.retireClear s kind i).outer = s.outer := by
  unfold State.retireClear
  try dsimp only
  try (repeat' split)
  all_goals (first | (simp (maxDischargeDepth := 30); done) | (try simp_all (maxDischargeDepth := 30)))
@[simp] theorem State.wErrCtrl_outer (s : State) (fn : Nat) (val : Nat)  :
    (State.wErrCtrl s fn val).outer = s.outer := by
  unfold State.wErrCtrl
  try dsimp only
  try (repeat' split)
  all_goals (first | (simp (maxDischargeDepth := 30); done) | (try simp_all (maxDischargeDepth := 30)))
@[simp] theorem State.readback_outer (s : State) (ch : Nat) (bad : Bool) (again : Bool)  :
    (State.readback s ch bad again).outer = s.outer := by
  unfold State.readback
  try dsimp only
  try (repeat' split)
  all_goals (first | (simp (maxDischargeDepth := 30); done) | (try simp_all (maxDischargeDepth := 30)))
@[simp] theorem State.madcFault_outer (s : State) (k : Nat)  :
    (State.madcFault s k).outer = s.outer := by
  unfold State.madcFault
  try dsimp only
  try (repeat' split)
  all_goals (first | (simp (maxDischargeDepth := 30); done) | (try simp_all (maxDischargeDepth := 30)))
@[simp] theorem State.thermalSample_outer (s : State) (r : Nat) (l : List Int)  :
    (State.thermalSample s r l).outer = s.outer := by
  unfold State.thermalSample
  try dsimp only
  try (repeat' split)
  all_goals (first | (simp (maxDischargeDepth := 30); done) | (try simp_all (maxDischargeDepth := 30)))
@[simp] theorem State.reenable_outer (s : State) (fn : Nat) (r : Nat)  :
    (State.reenable s fn r).outer = s.outer := by
  unfold State.reenable
  try dsimp only
  try (repeat' split)
  all_goals (first | (simp (maxDischargeDepth := 30); done) | (try simp_all (maxDischargeDepth := 30)))
@[simp] theorem State.wThermal_outer (s : State) (fn : Nat) (r : Nat) (val : Nat)  :
    (State.wThermal s fn r val).outer = s.outer := by
  unfold State.wThermal
  try dsimp only
  try (repeat' split)
  all_goals (first | (simp (maxDischargeDepth := 30); done) | (try simp_all (maxDischargeDepth := 30)))

end Sys2Proof.Machine
end

