-- ==== Sys2Proof/Laws/OuterCal.lean ====
section
/-! SUPPORT. Operations of Cal keep what `State.outer` reads. -/

namespace Sys2Proof.Machine

@[simp] theorem State.applyTerms_outer (s : State) (ch : Nat) (k : CalTerms) (recovery : Bool)  :
    (State.applyTerms s ch k recovery).outer = s.outer := by
  unfold State.applyTerms
  try dsimp only
  try (repeat' split)
  all_goals (first | (simp (maxDischargeDepth := 30); done) | (try simp_all (maxDischargeDepth := 30)))
@[simp] theorem State.slewTiming_outer (s : State) (ch : Nat)  :
    (State.slewTiming s ch).outer = s.outer := by
  unfold State.slewTiming
  try dsimp only
  try (repeat' split)
  all_goals (first | (simp (maxDischargeDepth := 30); done) | (try simp_all (maxDischargeDepth := 30)))
@[simp] theorem State.slewLevels_outer (s : State) (ch : Nat)  :
    (State.slewLevels s ch).outer = s.outer := by
  unfold State.slewLevels
  try dsimp only
  try (repeat' split)
  all_goals (first | (simp (maxDischargeDepth := 30); done) | (try simp_all (maxDischargeDepth := 30)))
@[simp] theorem State.calDue_outer (s : State) (r : Nat)  :
    (State.calDue s r).outer = s.outer := by
  unfold State.calDue
  try dsimp only
  try (repeat' split)
  all_goals (first | (simp (maxDischargeDepth := 30); done) | (try simp_all (maxDischargeDepth := 30)))
@[simp] theorem State.calEval_outer (s : State) (r : Nat)  :
    (State.calEval s r).outer = s.outer := by
  unfold State.calEval
  try dsimp only
  try (repeat' split)
  all_goals (first | (simp (maxDischargeDepth := 30); done) | (try simp_all (maxDischargeDepth := 30)))
@[simp] theorem State.wCalCtrl_outer (s : State) (i : Nat) (val : Nat)  :
    (State.wCalCtrl s i val).outer = s.outer := by
  unfold State.wCalCtrl
  try dsimp only
  try (repeat' split)
  all_goals (first | (simp (maxDischargeDepth := 30); done) | (try simp_all (maxDischargeDepth := 30)))
@[simp] theorem State.wDeltaT_outer (s : State) (fn : Nat) (i : Nat) (val : Nat)  :
    (State.wDeltaT s fn i val).outer = s.outer := by
  unfold State.wDeltaT
  try dsimp only
  try (repeat' split)
  all_goals (first | (simp (maxDischargeDepth := 30); done) | (try simp_all (maxDischargeDepth := 30)))
@[simp] theorem State.calEnd_outer (s0 : State) (i : Nat)  :
    (State.calEnd s0 i).outer = s0.outer := by
  unfold State.calEnd
  try dsimp only
  try (repeat' split)
  all_goals (first | (simp (maxDischargeDepth := 30); done) | (try simp_all (maxDischargeDepth := 30)))
@[simp] theorem State.calRecord_outer (s : State) (r : Nat)  :
    (State.calRecord s r).outer = s.outer := by
  unfold State.calRecord
  try dsimp only
  try (repeat' split)
  all_goals (first | (simp (maxDischargeDepth := 30); done) | (try simp_all (maxDischargeDepth := 30)))
@[simp] theorem State.calDefer_outer (s : State) (r : Nat) (later : List Nat)  :
    (State.calDefer s r later).outer = s.outer := by
  unfold State.calDefer
  try dsimp only
  try (repeat' split)
  all_goals (first | (simp (maxDischargeDepth := 30); done) | (try simp_all (maxDischargeDepth := 30)))
@[simp] theorem State.calComplete_outer (s : State) (r : Nat) (c : Cal)  :
    (State.calComplete s r c).outer = s.outer := by
  unfold State.calComplete
  try dsimp only
  try (repeat' split)
  all_goals (first | (simp (maxDischargeDepth := 30); done) | (try simp_all (maxDischargeDepth := 30)))
@[simp] theorem State.calAdvance_outer (s : State) (r : Nat)  :
    (State.calAdvance s r).outer = s.outer := by
  unfold State.calAdvance
  try dsimp only
  try (repeat' split)
  all_goals (first | (simp (maxDischargeDepth := 30); done) | (try simp_all (maxDischargeDepth := 30)))
@[simp] theorem State.runFail_outer (s : State) (r : Nat) (code : Nat)  :
    (State.runFail s r code).outer = s.outer := by
  unfold State.runFail
  try dsimp only
  try (repeat' split)
  all_goals (first | (simp (maxDischargeDepth := 30); done) | (try simp_all (maxDischargeDepth := 30)))
@[simp] theorem State.calCommon_outer (s : State) (r : Nat) (vref : Int) (vbg : Int) (spine : List Int)  :
    (State.calCommon s r vref vbg spine).outer = s.outer := by
  unfold State.calCommon
  try dsimp only
  try (repeat' split)
  all_goals (first | (simp (maxDischargeDepth := 30); done) | (try simp_all (maxDischargeDepth := 30)))
@[simp] theorem State.clusterStart_outer (s : State) (k : Nat)  :
    (State.clusterStart s k).outer = s.outer := by
  unfold State.clusterStart
  try dsimp only
  try (repeat' split)
  all_goals (first | (simp (maxDischargeDepth := 30); done) | (try simp_all (maxDischargeDepth := 30)))
@[simp] theorem State.laneResult_outer (s : State) (k : Nat) (l : Nat) (v : List Int) (recovery : Bool)  :
    (State.laneResult s k l v recovery).outer = s.outer := by
  unfold State.laneResult
  try dsimp only
  try (repeat' split)
  all_goals (first | (simp (maxDischargeDepth := 30); done) | (try simp_all (maxDischargeDepth := 30)))
@[simp] theorem State.madcMeasured_outer (s : State) (k : Nat) (v : List Int)  :
    (State.madcMeasured s k v).outer = s.outer := by
  unfold State.madcMeasured
  try dsimp only
  try (repeat' split)
  all_goals (first | (simp (maxDischargeDepth := 30); done) | (try simp_all (maxDischargeDepth := 30)))
@[simp] theorem State.clusterDone_outer (s : State) (k : Nat) (lanes : List (List Int)) (madc : List Int)  :
    (State.clusterDone s k lanes madc).outer = s.outer := by
  unfold State.clusterDone
  try dsimp only
  try (repeat' split)
  all_goals (first | (simp (maxDischargeDepth := 30); done) | (try simp_all (maxDischargeDepth := 30)))
@[simp] theorem State.reflectAdvance_outer (s : State)  :
    (State.reflectAdvance s).outer = s.outer := by
  unfold State.reflectAdvance
  try dsimp only
  try (repeat' split)
  all_goals (first | (simp (maxDischargeDepth := 30); done) | (try simp_all (maxDischargeDepth := 30)))
@[simp] theorem State.envDone_outer (s : State) (k : Nat) (v : List (Int × Int × Int))  :
    (State.envDone s k v).outer = s.outer := by
  unfold State.envDone
  try dsimp only
  try (repeat' split)
  all_goals (first | (simp (maxDischargeDepth := 30); done) | (try simp_all (maxDischargeDepth := 30)))
@[simp] theorem State.reflectDone_outer (s : State) (ch : Nat) (sum : Int) (spread : Int) (clean : Bool)  :
    (State.reflectDone s ch sum spread clean).outer = s.outer := by
  unfold State.reflectDone
  try dsimp only
  try (repeat' split)
  all_goals (first | (simp (maxDischargeDepth := 30); done) | (try simp_all (maxDischargeDepth := 30)))
@[simp] theorem State.sequenceDone_outer (s : State)  :
    (State.sequenceDone s).outer = s.outer := by
  unfold State.sequenceDone
  try dsimp only
  try (repeat' split)
  all_goals (first | (simp (maxDischargeDepth := 30); done) | (try simp_all (maxDischargeDepth := 30)))
@[simp] theorem State.calApply_outer (s : State) (r : Nat) (c : CalRec) (factory : Bool)  :
    (State.calApply s r c factory).outer = s.outer := by
  unfold State.calApply
  try dsimp only
  try (repeat' split)
  all_goals (first | (simp (maxDischargeDepth := 30); done) | (try simp_all (maxDischargeDepth := 30)))
@[simp] theorem State.calLoad_outer (s : State)  :
    (State.calLoad s).outer = s.outer := by
  unfold State.calLoad
  dsimp only
  split
  · rfl
  · rw [State.modGlb_outer, State.modCal_outer, forEach_outer]
    · simp
    · intro i t
      split <;> simp

end Sys2Proof.Machine
end

