-- ==== Sys2Proof/Laws/OuterSync.lean ====
section
/-! SUPPORT. Operations of Sync keep what `State.outer` reads. -/

namespace Sys2Proof.Machine

@[simp] theorem State.echo_outer (s : State) (w : Nat)  :
    (State.echo s w).outer = s.outer := by
  unfold State.echo
  try dsimp only
  try (repeat' split)
  all_goals (first | (simp (maxDischargeDepth := 30); done) | (try simp_all (maxDischargeDepth := 30)))
@[simp] theorem State.syncIgnore_outer (s : State)  :
    (State.syncIgnore s).outer = s.outer := by
  unfold State.syncIgnore
  try dsimp only
  try (repeat' split)
  all_goals (first | (simp (maxDischargeDepth := 30); done) | (try simp_all (maxDischargeDepth := 30)))
@[simp] theorem State.frameArm_outer (s : State) (g : Nat)  :
    (State.frameArm s g).outer = s.outer := by
  unfold State.frameArm
  try dsimp only
  try (repeat' split)
  all_goals (first | (simp (maxDischargeDepth := 30); done) | (try simp_all (maxDischargeDepth := 30)))
@[simp] theorem State.frameStart_outer (s : State) (t40 : Nat) (i : Nat)  :
    (State.frameStart s t40 i).outer = s.outer := by
  unfold State.frameStart
  try dsimp only
  try (repeat' split)
  all_goals (first | (simp (maxDischargeDepth := 30); done) | (try simp_all (maxDischargeDepth := 30)))
@[simp] theorem State.frameStop_outer (s : State) (t40 : Nat) (i : Nat)  :
    (State.frameStop s t40 i).outer = s.outer := by
  unfold State.frameStop
  try dsimp only
  try (repeat' split)
  all_goals (first | (simp (maxDischargeDepth := 30); done) | (try simp_all (maxDischargeDepth := 30)))
@[simp] theorem State.slewCheck_outer (s : State)  :
    (State.slewCheck s).outer = s.outer := by
  unfold State.slewCheck
  try dsimp only
  try (repeat' split)
  all_goals (first | (simp (maxDischargeDepth := 30); done) | (try simp_all (maxDischargeDepth := 30)))
@[simp] theorem State.jump_outer (s : State) (d : Int)  :
    (State.jump s d).outer = s.outer := by
  unfold State.jump
  try dsimp only
  try (repeat' split)
  all_goals (first | (simp (maxDischargeDepth := 30); done) | (try simp_all (maxDischargeDepth := 30)))
@[simp] theorem State.timeLoad_outer (s : State) (t24 : Nat)  :
    (State.timeLoad s t24).outer = s.outer := by
  unfold State.timeLoad
  dsimp only
  split
  · simp
  · rw [State.slewCheck_outer, State.cause_outer, State.modClk_outer, State.modSync_outer]
    have key : ∀ (u : State) (n : Nat), ({ u with root := n } : State).outer = u.outer := fun _ _ => rfl
    rw [key, State.jump_outer]
@[simp] theorem State.bsyncCmd_outer (s : State) (w : Nat)  :
    (State.bsyncCmd s w).outer = s.outer := by
  unfold State.bsyncCmd
  try dsimp only
  try (repeat' split)
  all_goals (first | (simp (maxDischargeDepth := 30); done) | (try simp_all (maxDischargeDepth := 30)))
@[simp] theorem State.badSlot_outer (s : State)  :
    (State.badSlot s).outer = s.outer := by
  unfold State.badSlot
  try dsimp only
  try (repeat' split)
  all_goals (first | (simp (maxDischargeDepth := 30); done) | (try simp_all (maxDischargeDepth := 30)))
@[simp] theorem State.frameSlot_outer (s : State) (w : Nat)  :
    (State.frameSlot s w).outer = s.outer := by
  unfold State.frameSlot
  try dsimp only
  try (repeat' split)
  all_goals (first | (simp (maxDischargeDepth := 30); done) | (try simp_all (maxDischargeDepth := 30)))
@[simp] theorem State.slewStep_outer (s : State)  :
    (State.slewStep s).outer = s.outer := by
  unfold State.slewStep
  try dsimp only
  try (repeat' split)
  all_goals (first | (simp (maxDischargeDepth := 30); done) | (try simp_all (maxDischargeDepth := 30)))
@[simp] theorem State.trigLost_outer (s : State) (n : Nat)  :
    (State.trigLost s n).outer = s.outer := by
  unfold State.trigLost
  try dsimp only
  try (repeat' split)
  all_goals (first | (simp (maxDischargeDepth := 30); done) | (try simp_all (maxDischargeDepth := 30)))
@[simp] theorem State.trigRelay_outer (s : State) (n : Nat) (tt : Nat)  :
    (State.trigRelay s n tt).outer = s.outer := by
  unfold State.trigRelay
  try dsimp only
  try (repeat' split)
  all_goals (first | (simp (maxDischargeDepth := 30); done) | (try simp_all (maxDischargeDepth := 30)))
@[simp] theorem State.trigEdge_outer (s : State) (n : Nat) (rising : Bool) (tt : Nat)  :
    (State.trigEdge s n rising tt).outer = s.outer := by
  unfold State.trigEdge
  try dsimp only
  try (repeat' split)
  all_goals (first | (simp (maxDischargeDepth := 30); done) | (try simp_all (maxDischargeDepth := 30)))
@[simp] theorem State.trigPulse_outer (s : State) (n : Nat)  :
    (State.trigPulse s n).outer = s.outer := by
  unfold State.trigPulse
  try dsimp only
  try (repeat' split)
  all_goals (first | (simp (maxDischargeDepth := 30); done) | (try simp_all (maxDischargeDepth := 30)))
@[simp] theorem State.wSyncCtrl_outer (s : State) (val : Nat)  :
    (State.wSyncCtrl s val).outer = s.outer := by
  unfold State.wSyncCtrl
  try dsimp only
  try (repeat' split)
  all_goals (first | (simp (maxDischargeDepth := 30); done) | (try simp_all (maxDischargeDepth := 30)))
@[simp] theorem State.wSyncDelay_outer (s : State) (val : Nat)  :
    (State.wSyncDelay s val).outer = s.outer := by
  unfold State.wSyncDelay
  try dsimp only
  try (repeat' split)
  all_goals (first | (simp (maxDischargeDepth := 30); done) | (try simp_all (maxDischargeDepth := 30)))
@[simp] theorem State.wTrigIn_outer (s : State) (fn : Nat) (n : Nat) (val : Nat)  :
    (State.wTrigIn s fn n val).outer = s.outer := by
  unfold State.wTrigIn
  try dsimp only
  try (repeat' split)
  all_goals (first | (simp (maxDischargeDepth := 30); done) | (try simp_all (maxDischargeDepth := 30)))
@[simp] theorem State.wTrigInQueue_outer (s : State) (fn : Nat) (n : Nat) (val : Nat)  :
    (State.wTrigInQueue s fn n val).outer = s.outer := by
  unfold State.wTrigInQueue
  try dsimp only
  try (repeat' split)
  all_goals (first | (simp (maxDischargeDepth := 30); done) | (try simp_all (maxDischargeDepth := 30)))
@[simp] theorem State.wTrigOut_outer (s : State) (fn : Nat) (n : Nat) (val : Nat)  :
    (State.wTrigOut s fn n val).outer = s.outer := by
  unfold State.wTrigOut
  try dsimp only
  try (repeat' split)
  all_goals (first | (simp (maxDischargeDepth := 30); done) | (try simp_all (maxDischargeDepth := 30)))
@[simp] theorem State.wTrigOutOffset_outer (s : State) (fn : Nat) (n : Nat) (val : Nat)  :
    (State.wTrigOutOffset s fn n val).outer = s.outer := by
  unfold State.wTrigOutOffset
  try dsimp only
  try (repeat' split)
  all_goals (first | (simp (maxDischargeDepth := 30); done) | (try simp_all (maxDischargeDepth := 30)))
@[simp] theorem State.wTrigOutWidth_outer (s : State) (fn : Nat) (n : Nat) (val : Nat)  :
    (State.wTrigOutWidth s fn n val).outer = s.outer := by
  unfold State.wTrigOutWidth
  try dsimp only
  try (repeat' split)
  all_goals (first | (simp (maxDischargeDepth := 30); done) | (try simp_all (maxDischargeDepth := 30)))

end Sys2Proof.Machine
end

