-- ==== Sys2Proof/Laws/OuterEngine.lean ====
section
/-! SUPPORT. Operations of Engine keep what `State.outer` reads. -/

namespace Sys2Proof.Machine

@[simp] theorem State.cacheTouch_outer (s : State) (st : Nat) (line : Nat)  :
    (State.cacheTouch s st line).outer = s.outer := by
  rfl
@[simp] theorem State.touchAll_outer (s : State) (g : Seg) (l : List Nat)  :
    (State.touchAll s g l).outer = s.outer := by
  unfold State.touchAll
  try dsimp only
  try (repeat' split)
  all_goals (first | (simp (maxDischargeDepth := 30); done) | (try simp_all (maxDischargeDepth := 30)))
@[simp] theorem State.blockPost_outer (s : State) (e : Nat)  :
    (State.blockPost s e).outer = s.outer := by
  unfold State.blockPost
  try dsimp only
  try (repeat' split)
  all_goals (first | (simp (maxDischargeDepth := 30); done) | (try simp_all (maxDischargeDepth := 30)))
@[simp] theorem State.endSeg_outer (s : State) (e : Nat)  :
    (State.endSeg s e).outer = s.outer := by
  unfold State.endSeg
  try dsimp only
  try (repeat' split)
  all_goals (first | (simp (maxDischargeDepth := 30); done) | (try simp_all (maxDischargeDepth := 30)))
@[simp] theorem State.segStop_outer (s : State) (e : Nat) (code : Nat)  :
    (State.segStop s e code).outer = s.outer := by
  unfold State.segStop
  try dsimp only
  try (repeat' split)
  all_goals (first | (simp (maxDischargeDepth := 30); done) | (try simp_all (maxDischargeDepth := 30)))
@[simp] theorem State.segErr_outer (s : State) (e : Nat) (code : Nat)  :
    (State.segErr s e code).outer = s.outer := by
  unfold State.segErr
  try dsimp only
  try (repeat' split)
  all_goals (first | (simp (maxDischargeDepth := 30); done) | (try simp_all (maxDischargeDepth := 30)))
@[simp] theorem State.releaseSucc_outer (s : State) (g : Seg)  :
    (State.releaseSucc s g).outer = s.outer := by
  unfold State.releaseSucc
  try dsimp only
  try (repeat' split)
  all_goals (first | (simp (maxDischargeDepth := 30); done) | (try simp_all (maxDischargeDepth := 30)))
@[simp] theorem State.halt_outer (s : State) (e : Nat) (g : Seg)  :
    (State.halt s e g).outer = s.outer := by
  unfold State.halt
  try dsimp only
  try (repeat' split)
  all_goals (first | (simp (maxDischargeDepth := 30); done) | (try simp_all (maxDischargeDepth := 30)))
@[simp] theorem State.putUi_outer (s : State) (e : Nat) (g : Seg) (syms : List Nat) (ts : Nat) (hold : Bool)
    (plain : Bool)  :
    (State.putUi s e g syms ts hold plain).outer = s.outer := by
  unfold State.putUi
  try dsimp only
  try (repeat' split)
  all_goals (first | (simp (maxDischargeDepth := 30); done) | (try simp_all (maxDischargeDepth := 30)))
@[simp] theorem State.mark_outer (s : State) (g : Seg) (u : Nat) (ref : Nat) (outs : Nat) (acq : Bool) (id : Nat)  :
    (State.mark s g u ref outs acq id).outer = s.outer := by
  unfold State.mark
  try dsimp only
  try (repeat' split)
  all_goals (first | (simp (maxDischargeDepth := 30); done) | (try simp_all (maxDischargeDepth := 30)))
@[simp] theorem State.lvlSend_outer (s : State) (g : Seg) (u : Nat) (pos : List Nat) (dac : Nat) (code : Nat)  :
    (State.lvlSend s g u pos dac code).outer = s.outer := by
  unfold State.lvlSend
  try dsimp only
  try (repeat' split)
  all_goals (first | (simp (maxDischargeDepth := 30); done) | (try simp_all (maxDischargeDepth := 30)))
@[simp] theorem State.modBarrier_outer (s : State) (st : Nat) (b : Nat) (f : Barrier → Barrier)  :
    (State.modBarrier s st b f).outer = s.outer := by
  unfold State.modBarrier
  try dsimp only
  try (repeat' split)
  all_goals (first | (simp (maxDischargeDepth := 30); done) | (try simp_all (maxDischargeDepth := 30)))
@[simp] theorem State.arrive_outer (s : State) (st : Nat) (b : Nat) (tt : Nat)  :
    (State.arrive s st b tt).outer = s.outer := by
  unfold State.arrive
  try dsimp only
  try (repeat' split)
  all_goals (first | (simp (maxDischargeDepth := 30); done) | (try simp_all (maxDischargeDepth := 30)))
@[simp] theorem State.resolve_outer (s : State) (e : Nat) (after : Bool) (td : Int) (E : Int)  :
    (State.resolve s e after td E).outer = s.outer := by
  unfold State.resolve
  try dsimp only
  try (repeat' split)
  all_goals (first | (simp (maxDischargeDepth := 30); done) | (try simp_all (maxDischargeDepth := 30)))
@[simp] theorem State.takeBarrier_outer (s : State) (e : Nat)  :
    (State.takeBarrier s e).outer = s.outer := by
  unfold State.takeBarrier
  try dsimp only
  try (repeat' split)
  all_goals (first | (simp (maxDischargeDepth := 30); done) | (try simp_all (maxDischargeDepth := 30)))
@[simp] theorem State.takeTrigger_outer (s : State) (e : Nat) (line : Nat) (tt : Nat)  :
    (State.takeTrigger s e line tt).outer = s.outer := by
  unfold State.takeTrigger
  try dsimp only
  try (repeat' split)
  all_goals (first | (simp (maxDischargeDepth := 30); done) | (try simp_all (maxDischargeDepth := 30)))
@[simp] theorem State.triggerArrive_outer (s : State) (n : Nat)  :
    (State.triggerArrive s n).outer = s.outer := by
  unfold State.triggerArrive
  try dsimp only
  try (repeat' split)
  all_goals (first | (simp (maxDischargeDepth := 30); done) | (try simp_all (maxDischargeDepth := 30)))
@[simp] theorem State.barrierComplete_outer (s : State) (st : Nat) (b : Nat)  :
    (State.barrierComplete s st b).outer = s.outer := by
  unfold State.barrierComplete
  try dsimp only
  try (repeat' split)
  all_goals (first | (simp (maxDischargeDepth := 30); done) | (try simp_all (maxDischargeDepth := 30)))
@[simp] theorem State.matchStep_outer (s : State) (e : Nat)  :
    (State.matchStep s e).outer = s.outer := by
  unfold State.matchStep
  try dsimp only
  try (repeat' split)
  all_goals (first | (simp (maxDischargeDepth := 30); done) | (try simp_all (maxDischargeDepth := 30)))
@[simp] theorem State.condTimeout_outer (s : State) (e : Nat)  :
    (State.condTimeout s e).outer = s.outer := by
  unfold State.condTimeout
  try dsimp only
  try (repeat' split)
  all_goals (first | (simp (maxDischargeDepth := 30); done) | (try simp_all (maxDischargeDepth := 30)))
@[simp] theorem State.missFill_outer (s : State) (e : Nat)  :
    (State.missFill s e).outer = s.outer := by
  unfold State.missFill
  try dsimp only
  try (repeat' split)
  all_goals (first | (simp (maxDischargeDepth := 30); done) | (try simp_all (maxDischargeDepth := 30)))

end Sys2Proof.Machine
end

