-- ==== Sys2Proof/Laws/OuterProgram.lean ====
section
/-! SUPPORT. Operations of Program keep what `State.outer` reads. -/

namespace Sys2Proof.Machine

@[simp] theorem State.advance_outer (s : State) (e : Nat) (n : Nat)  :
    (State.advance s e n).outer = s.outer := by
  unfold State.advance
  try dsimp only
  try (repeat' split)
  all_goals (first | (simp (maxDischargeDepth := 30); done) | (try simp_all (maxDischargeDepth := 30)))
@[simp] theorem State.goto_outer (s : State) (e : Nat) (off : Nat)  :
    (State.goto s e off).outer = s.outer := by
  unfold State.goto
  try dsimp only
  try (repeat' split)
  all_goals (first | (simp (maxDischargeDepth := 30); done) | (try simp_all (maxDischargeDepth := 30)))
@[simp] theorem State.instr_outer (s : State) (e : Nat) (names : Nat → Bool) (act : Seg → Nat → State → State)
    (hact : ∀ y1 y2 y3, (act y1 y2 y3).outer = y3.outer) :
    (State.instr s e names act).outer = s.outer := by
  unfold State.instr
  try dsimp only
  try (repeat' split)
  all_goals (first | (simp (maxDischargeDepth := 30); done) | (try simp_all (maxDischargeDepth := 30)))
@[simp] theorem State.emitRun_outer (e : Nat) (g : Seg) (K ts : Nat) (hold plain : Bool) (need : Nat → List Nat)
    (ui : State → Nat → List Nat) (fin : State → State) (hf : ∀ t, (fin t).outer = t.outer) (n k : Nat) (s : State) :
    (State.emitRun e g K ts hold plain need ui fin n k s).outer = s.outer := by
  induction n generalizing k s with
  | zero => unfold State.emitRun; simp
  | succ n ih =>
    unfold State.emitRun
    (repeat' split) <;> simp_all
@[simp] theorem State.counted_outer (s : State) (e : Nat) (c : Nat) (m : Nat) (act : State → State) (hact : ∀ y1,
    (act y1).outer = y1.outer) :
    (State.counted s e c m act).outer = s.outer := by
  unfold State.counted
  try dsimp only
  try (repeat' split)
  all_goals (first | (simp (maxDischargeDepth := 30); done) | (try simp_all (maxDischargeDepth := 30)))
@[simp] theorem State.vec_outer (s : State) (e : Nat) (g : Seg) (ir : Nat)  :
    (State.vec s e g ir).outer = s.outer := by
  unfold State.vec
  try dsimp only
  try (repeat' split)
  all_goals (first | (simp (maxDischargeDepth := 30); done) | (try simp_all (maxDischargeDepth := 30)))
@[simp] theorem State.rpt_outer (s : State) (e : Nat) (g : Seg) (ir : Nat)  :
    (State.rpt s e g ir).outer = s.outer := by
  unfold State.rpt
  try dsimp only
  try (repeat' split)
  all_goals (first | (simp (maxDischargeDepth := 30); done) | (try simp_all (maxDischargeDepth := 30)))
@[simp] theorem State.holdUis_outer (s : State) (e : Nat) (g : Seg) (ir : Nat)  :
    (State.holdUis s e g ir).outer = s.outer := by
  unfold State.holdUis
  try dsimp only
  try (repeat' split)
  all_goals (first | (simp (maxDischargeDepth := 30); done) | (try simp_all (maxDischargeDepth := 30)))
@[simp] theorem State.tset_outer (s : State) (e : Nat) (ir : Nat)  :
    (State.tset s e ir).outer = s.outer := by
  unfold State.tset
  try dsimp only
  try (repeat' split)
  all_goals (first | (simp (maxDischargeDepth := 30); done) | (try simp_all (maxDischargeDepth := 30)))
@[simp] theorem State.lvl_outer (s : State) (e : Nat) (g : Seg) (ir : Nat)  :
    (State.lvl s e g ir).outer = s.outer := by
  unfold State.lvl
  try dsimp only
  try (repeat' split)
  all_goals (first | (simp (maxDischargeDepth := 30); done) | (try simp_all (maxDischargeDepth := 30)))
@[simp] theorem State.markInstr_outer (s : State) (e : Nat) (g : Seg) (ir : Nat)  :
    (State.markInstr s e g ir).outer = s.outer := by
  unfold State.markInstr
  try dsimp only
  try (repeat' split)
  all_goals (first | (simp (maxDischargeDepth := 30); done) | (try simp_all (maxDischargeDepth := 30)))
@[simp] theorem State.condExit_outer (s : State) (e : Nat) (g : Seg) (c : Cond) (after : Bool)  :
    (State.condExit s e g c after).outer = s.outer := by
  unfold State.condExit
  try dsimp only
  try (repeat' split)
  all_goals (first | (simp (maxDischargeDepth := 30); done) | (try simp_all (maxDischargeDepth := 30)))
@[simp] theorem State.holdLoop_outer (e : Nat) (g : Seg) (ts : Nat) (syms : List Nat) (n : Nat) (s : State) :
    (State.holdLoop e g ts syms n s).outer = s.outer := by
  induction n generalizing s with
  | zero => unfold State.holdLoop; simp
  | succ n ih =>
    unfold State.holdLoop
    dsimp only
    (repeat' split) <;> simp_all
@[simp] theorem State.conditional_outer (s : State) (e : Nat) (g : Seg) (start : State → Cond)  :
    (State.conditional s e g start).outer = s.outer := by
  unfold State.conditional
  try dsimp only
  try (repeat' split)
  all_goals (first | (simp (maxDischargeDepth := 30); done) | (try simp_all (maxDischargeDepth := 30)))
@[simp] theorem State.syncInstr_outer (s : State) (e : Nat) (g : Seg) (ir : Nat)  :
    (State.syncInstr s e g ir).outer = s.outer := by
  unfold State.syncInstr
  try dsimp only
  try (repeat' split)
  all_goals (first | (simp (maxDischargeDepth := 30); done) | (try simp_all (maxDischargeDepth := 30)))
@[simp] theorem State.matchInstr_outer (s : State) (e : Nat) (g : Seg) (ir : Nat)  :
    (State.matchInstr s e g ir).outer = s.outer := by
  unfold State.matchInstr
  try dsimp only
  try (repeat' split)
  all_goals (first | (simp (maxDischargeDepth := 30); done) | (try simp_all (maxDischargeDepth := 30)))
@[simp] theorem State.jmpf_outer (s : State) (e : Nat) (g : Seg) (ir : Nat)  :
    (State.jmpf s e g ir).outer = s.outer := by
  unfold State.jmpf
  try dsimp only
  try (repeat' split)
  all_goals (first | (simp (maxDischargeDepth := 30); done) | (try simp_all (maxDischargeDepth := 30)))
@[simp] theorem State.haltInstr_outer (s : State) (e : Nat) (g : Seg)  :
    (State.haltInstr s e g).outer = s.outer := by
  unfold State.haltInstr
  try dsimp only
  try (repeat' split)
  all_goals (first | (simp (maxDischargeDepth := 30); done) | (try simp_all (maxDischargeDepth := 30)))
@[simp] theorem State.jmp_outer (s : State) (e : Nat) (g : Seg) (ir : Nat)  :
    (State.jmp s e g ir).outer = s.outer := by
  unfold State.jmp
  try dsimp only
  try (repeat' split)
  all_goals (first | (simp (maxDischargeDepth := 30); done) | (try simp_all (maxDischargeDepth := 30)))
@[simp] theorem State.call_outer (s : State) (e : Nat) (g : Seg) (ir : Nat)  :
    (State.call s e g ir).outer = s.outer := by
  unfold State.call
  try dsimp only
  try (repeat' split)
  all_goals (first | (simp (maxDischargeDepth := 30); done) | (try simp_all (maxDischargeDepth := 30)))
@[simp] theorem State.ret_outer (s : State) (e : Nat)  :
    (State.ret s e).outer = s.outer := by
  unfold State.ret
  try dsimp only
  try (repeat' split)
  all_goals (first | (simp (maxDischargeDepth := 30); done) | (try simp_all (maxDischargeDepth := 30)))
@[simp] theorem State.loop_outer (s : State) (e : Nat) (ir : Nat)  :
    (State.loop s e ir).outer = s.outer := by
  unfold State.loop
  try dsimp only
  try (repeat' split)
  all_goals (first | (simp (maxDischargeDepth := 30); done) | (try simp_all (maxDischargeDepth := 30)))
@[simp] theorem State.endLoop_outer (s : State) (e : Nat)  :
    (State.endLoop s e).outer = s.outer := by
  unfold State.endLoop
  try dsimp only
  try (repeat' split)
  all_goals (first | (simp (maxDischargeDepth := 30); done) | (try simp_all (maxDischargeDepth := 30)))
@[simp] theorem State.scan_outer (s : State) (e : Nat) (g : Seg) (ir : Nat)  :
    (State.scan s e g ir).outer = s.outer := by
  unfold State.scan
  try dsimp only
  try (repeat' split)
  all_goals (first | (simp (maxDischargeDepth := 30); done) | (try simp_all (maxDischargeDepth := 30)))
@[simp] theorem State.decompRun_outer (e : Nat) (g : Seg) (l : List (Nat × Nat)) (table : List Nat)
    (K ts cbytes d n k : Nat) (s : State) : (State.decompRun e g l table K ts cbytes d n k s).outer = s.outer := by
  induction n generalizing k s with
  | zero => unfold State.decompRun; simp
  | succ n ih =>
    unfold State.decompRun
    dsimp only
    (repeat' split) <;> simp_all
@[simp] theorem State.decomp_outer (s : State) (e : Nat) (g : Seg) (ir : Nat)  :
    (State.decomp s e g ir).outer = s.outer := by
  unfold State.decomp
  try dsimp only
  try (repeat' split)
  all_goals (first | (simp (maxDischargeDepth := 30); done) | (try simp_all (maxDischargeDepth := 30)))

end Sys2Proof.Machine
end

