-- ==== Sys2Proof/Laws/OuterMicro.lean ====
section
/-! SUPPORT. Operations of Micro keep what `State.outer` reads. -/

namespace Sys2Proof.Machine

@[simp] theorem State.uAlu_outer (s : State) (e : Nat) (x0 : Eng) (w : Nat)  :
    (State.uAlu s e x0 w).outer = s.outer := by
  unfold State.uAlu
  try dsimp only
  try (repeat' split)
  all_goals (first | (simp (maxDischargeDepth := 30); done) | (try simp_all (maxDischargeDepth := 30)))
@[simp] theorem State.uFetchAct_outer (s : State) (e : Nat) (x0 : Eng) (g : Seg) (w : Nat)  :
    (State.uFetchAct s e x0 g w).outer = s.outer := by
  unfold State.uFetchAct
  try dsimp only
  try (repeat' split)
  all_goals (first | (simp (maxDischargeDepth := 30); done) | (try simp_all (maxDischargeDepth := 30)))
@[simp] theorem State.emitLanes_outer (e : Nat) (g : Seg) (kind n : Nat) (s : State) :
    (State.emitLanes e g kind n s).outer = s.outer := by
  induction n generalizing s with
  | zero => unfold State.emitLanes; rfl
  | succ n ih =>
    unfold State.emitLanes
    dsimp only
    split
    · rfl
    · split
      · rfl
      · split <;> rw [ih] <;> simp
@[simp] theorem State.uEmitAct_outer (s : State) (e : Nat) (g : Seg) (w : Nat)  :
    (State.uEmitAct s e g w).outer = s.outer := by
  unfold State.uEmitAct
  try dsimp only
  try (repeat' split)
  all_goals (first | (simp (maxDischargeDepth := 30); done) | (try simp_all (maxDischargeDepth := 30)))
@[simp] theorem State.uStack_outer (s : State) (e : Nat) (x0 : Eng) (w : Nat)  :
    (State.uStack s e x0 w).outer = s.outer := by
  unfold State.uStack
  try dsimp only
  try (repeat' split)
  all_goals (first | (simp (maxDischargeDepth := 30); done) | (try simp_all (maxDischargeDepth := 30)))
@[simp] theorem State.uEventAct_outer (s : State) (e : Nat) (x0 : Eng) (g : Seg) (w : Nat)  :
    (State.uEventAct s e x0 g w).outer = s.outer := by
  unfold State.uEventAct
  try dsimp only
  try (repeat' split)
  all_goals (first | (simp (maxDischargeDepth := 30); done) | (try simp_all (maxDischargeDepth := 30)))
@[simp] theorem State.uDecompAct_outer (s : State) (e : Nat) (x0 : Eng) (w : Nat)  :
    (State.uDecompAct s e x0 w).outer = s.outer := by
  unfold State.uDecompAct
  try dsimp only
  try (repeat' split)
  all_goals (first | (simp (maxDischargeDepth := 30); done) | (try simp_all (maxDischargeDepth := 30)))
@[simp] theorem State.whileCur_outer (s : State) (e : Nat) (f : State → State) (hf : ∀ y1, (f y1).outer = y1.outer) :
    (State.whileCur s e f).outer = s.outer := by
  unfold State.whileCur
  try dsimp only
  try (repeat' split)
  all_goals (first | (simp (maxDischargeDepth := 30); done) | (try simp_all (maxDischargeDepth := 30)))
@[simp] theorem State.uAct_outer (s : State) (e : Nat) (g : Seg) (w : Nat)  :
    (State.uAct s e g w).outer = s.outer := by
  unfold State.uAct
  try dsimp only
  try (repeat' split)
  all_goals (first | (simp (maxDischargeDepth := 30); done) | (try simp_all (maxDischargeDepth := 30)))
@[simp] theorem State.requeue_outer (s : State) (e : Nat) (tail : Bool) (g : Seg)  :
    (State.requeue s e tail g).outer = s.outer := by
  unfold State.requeue
  try dsimp only
  try (repeat' split)
  all_goals (first | (simp (maxDischargeDepth := 30); done) | (try simp_all (maxDischargeDepth := 30)))
@[simp] theorem State.fate_outer (s : State) (e : Nat) (g : Seg)  :
    (State.fate s e g).outer = s.outer := by
  unfold State.fate
  try dsimp only
  try (repeat' split)
  all_goals (first | (simp (maxDischargeDepth := 30); done) | (try simp_all (maxDischargeDepth := 30)))
@[simp] theorem State.leaveSeg_outer (s : State) (e : Nat)  :
    (State.leaveSeg s e).outer = s.outer := by
  unfold State.leaveSeg
  try dsimp only
  try (repeat' split)
  all_goals (first | (simp (maxDischargeDepth := 30); done) | (try simp_all (maxDischargeDepth := 30)))
@[simp] theorem State.abandonSeg_outer (s : State) (e : Nat) (cls : Nat)  :
    (State.abandonSeg s e cls).outer = s.outer := by
  unfold State.abandonSeg
  try dsimp only
  try (repeat' split)
  all_goals (first | (simp (maxDischargeDepth := 30); done) | (try simp_all (maxDischargeDepth := 30)))
@[simp] theorem State.queueReload_outer (s : State) (e : Nat) (code : Nat) (site : Option Nat) (addr : Nat)  :
    (State.queueReload s e code site addr).outer = s.outer := by
  unfold State.queueReload
  try dsimp only
  try (repeat' split)
  all_goals (first | (simp (maxDischargeDepth := 30); done) | (try simp_all (maxDischargeDepth := 30)))
@[simp] theorem State.engTransient_outer (s : State) (e : Nat) (code : Nat) (site : Option Nat) (addr : Nat)  :
    (State.engTransient s e code site addr).outer = s.outer := by
  unfold State.engTransient
  try dsimp only
  try (repeat' split)
  all_goals (first | (simp (maxDischargeDepth := 30); done) | (try simp_all (maxDischargeDepth := 30)))
@[simp] theorem State.machineCheck_outer (s : State) (e : Nat) (kind : Nat)  :
    (State.machineCheck s e kind).outer = s.outer := by
  unfold State.machineCheck
  try dsimp only
  try (repeat' split)
  all_goals (first | (simp (maxDischargeDepth := 30); done) | (try simp_all (maxDischargeDepth := 30)))
@[simp] theorem State.nextReload_outer (s : State) (r : Nat) (ok : Bool)  :
    (State.nextReload s r ok).outer = s.outer := by
  unfold State.nextReload
  try dsimp only
  try (repeat' split)
  all_goals (first | (simp (maxDischargeDepth := 30); done) | (try simp_all (maxDischargeDepth := 30)))
@[simp] theorem State.reloadDone_outer (s : State) (e : Nat) (mismatch : Bool)  :
    (State.reloadDone s e mismatch).outer = s.outer := by
  unfold State.reloadDone
  try dsimp only
  try (repeat' split)
  all_goals (first | (simp (maxDischargeDepth := 30); done) | (try simp_all (maxDischargeDepth := 30)))
@[simp] theorem State.idleScan_outer (s : State) (e : Nat) (bad : Bool)  :
    (State.idleScan s e bad).outer = s.outer := by
  unfold State.idleScan
  try dsimp only
  try (repeat' split)
  all_goals (first | (simp (maxDischargeDepth := 30); done) | (try simp_all (maxDischargeDepth := 30)))
@[simp] theorem State.uDispatch_outer (s : State) (e : Nat) (g : Seg)  :
    (State.uDispatch s e g).outer = s.outer := by
  unfold State.uDispatch
  try dsimp only
  try (repeat' split)
  all_goals (first | (simp (maxDischargeDepth := 30); done) | (try simp_all (maxDischargeDepth := 30)))
@[simp] theorem State.uNext_outer (s : State) (e : Nat) (g : Seg) (x0 : Eng) (w : Nat)  :
    (State.uNext s e g x0 w).outer = s.outer := by
  unfold State.uNext
  try dsimp only
  try (repeat' split)
  all_goals (first | (simp (maxDischargeDepth := 30); done) | (try simp_all (maxDischargeDepth := 30)))
@[simp] theorem State.micro__outer (s : State) (e : Nat) (seq : Nat)  :
    (State.micro_ s e seq).outer = s.outer := by
  unfold State.micro_
  dsimp only
  split
  · rfl
  · refine outer_of_ite _ rfl (outer_of_ite _ rfl (outer_of_ite _ (by simp) (outer_of_ite _ rfl (outer_of_ite _ (by simp)
      (outer_of_ite _ (by simp) (outer_of_ite _ (by simp) (outer_of_ite _ rfl (outer_of_ite _ (by simp) ?_))))))))
    split
    · simp
    · simp
    · exact outer_of_ite _ (by simp) (by simp)
@[simp] theorem State.enterHandler_outer (s : State) (e : Nat) (cls : Nat) (entry : Nat) (ev : Evt) (f : Eng → Eng)  :
    (State.enterHandler s e cls entry ev f).outer = s.outer := by
  unfold State.enterHandler
  try dsimp only
  try (repeat' split)
  all_goals (first | (simp (maxDischargeDepth := 30); done) | (try simp_all (maxDischargeDepth := 30)))
@[simp] theorem State.interruptTake_outer (s : State) (e : Nat)  :
    (State.interruptTake s e).outer = s.outer := by
  unfold State.interruptTake
  try dsimp only
  try (repeat' split)
  all_goals (first | (simp (maxDischargeDepth := 30); done) | (try simp_all (maxDischargeDepth := 30)))
@[simp] theorem State.abortTake_outer (s : State) (e : Nat)  :
    (State.abortTake s e).outer = s.outer := by
  unfold State.abortTake
  try dsimp only
  try (repeat' split)
  all_goals (first | (simp (maxDischargeDepth := 30); done) | (try simp_all (maxDischargeDepth := 30)))

end Sys2Proof.Machine
end

