-- ==== Sys2Proof/Laws/OuterSched.lean ====
section
/-! SUPPORT. Operations of Sched keep what `State.outer` reads. -/

namespace Sys2Proof.Machine

@[simp] theorem State.placeOn_outer (s : State) (e : Nat) (g : Seg)  :
    (State.placeOn s e g).outer = s.outer := by
  unfold State.placeOn
  try dsimp only
  try (repeat' split)
  all_goals (first | (simp (maxDischargeDepth := 30); done) | (try simp_all (maxDischargeDepth := 30)))
@[simp] theorem State.placeFrom_outer (s : State) (q : Nat)  :
    (State.placeFrom s q).outer = s.outer := by
  unfold State.placeFrom
  split
  · rfl
  · split
    · rename_i e _ _ g _
      exact State.placeOn_outer s e g
    · rename_i e _ _ _
      exact (State.placeOn_outer ((s.bankHits ((s.queue q).base + 64 * (s.queue q).head) 64 false).consume q 1) e
        (s.headSeg q)).trans (by simp)
@[simp] theorem State.segmentPlace_outer (s : State)  :
    (State.segmentPlace s).outer = s.outer := by
  unfold State.segmentPlace
  try dsimp only
  try (repeat' split)
  all_goals (first | (simp (maxDischargeDepth := 30); done) | (try simp_all (maxDischargeDepth := 30)))
@[simp] theorem State.handOn_outer (s : State) (g : Seg)  :
    (State.handOn s g).outer = s.outer := by
  unfold State.handOn
  try dsimp only
  try (repeat' split)
  all_goals (first | (simp (maxDischargeDepth := 30); done) | (try simp_all (maxDischargeDepth := 30)))
@[simp] theorem State.handover_outer (s : State) (e : Nat)  :
    (State.handover s e).outer = s.outer := by
  unfold State.handover
  try dsimp only
  try (repeat' split)
  all_goals (first | (simp (maxDischargeDepth := 30); done) | (try simp_all (maxDischargeDepth := 30)))
@[simp] theorem State.beginTake_outer (s : State) (e : Nat) (g : Seg) (t : Nat)  :
    (State.beginTake s e g t).outer = s.outer := by
  unfold State.beginTake
  try dsimp only
  try (repeat' split)
  all_goals (first | (simp (maxDischargeDepth := 30); done) | (try simp_all (maxDischargeDepth := 30)))
@[simp] theorem State.dequePop_outer (s : State) (e : Nat)  :
    (State.dequePop s e).outer = s.outer := by
  unfold State.dequePop
  try dsimp only
  try (repeat' split)
  all_goals (first | (simp (maxDischargeDepth := 30); done) | (try simp_all (maxDischargeDepth := 30)))
@[simp] theorem State.stealProbe_outer (s : State) (e : Nat)  :
    (State.stealProbe s e).outer = s.outer := by
  unfold State.stealProbe
  try dsimp only
  try (repeat' split)
  all_goals (first | (simp (maxDischargeDepth := 30); done) | (try simp_all (maxDischargeDepth := 30)))
@[simp] theorem State.segmentTake_outer (s : State) (e : Nat)  :
    (State.segmentTake s e).outer = s.outer := by
  unfold State.segmentTake
  try dsimp only
  try (repeat' split)
  all_goals (first | (simp (maxDischargeDepth := 30); done) | (try simp_all (maxDischargeDepth := 30)))
@[simp] theorem State.underrun_outer (s : State) (ch : Nat) (segId : Nat) (seq : Nat) (st : Nat)  :
    (State.underrun s ch segId seq st).outer = s.outer := by
  unfold State.underrun
  try dsimp only
  try (repeat' split)
  all_goals (first | (simp (maxDischargeDepth := 30); done) | (try simp_all (maxDischargeDepth := 30)))
@[simp] theorem State.blockDeadline_outer (s : State) (ch : Nat) (segId : Nat) (seq : Nat) (parityBad : Bool)  :
    (State.blockDeadline s ch segId seq parityBad).outer = s.outer := by
  unfold State.blockDeadline
  try dsimp only
  try (repeat' split)
  all_goals (first | (simp (maxDischargeDepth := 30); done) | (try simp_all (maxDischargeDepth := 30)))
@[simp] theorem State.abortCmd_outer (s : State) (st : Nat)  :
    (State.abortCmd s st).outer = s.outer := by
  unfold State.abortCmd
  try dsimp only
  try (repeat' split)
  all_goals (first | (simp (maxDischargeDepth := 30); done) | (try simp_all (maxDischargeDepth := 30)))
@[simp] theorem State.wBurstCmd_outer (s : State) (st : Nat) (val : Nat)  :
    (State.wBurstCmd s st val).outer = s.outer := by
  unfold State.wBurstCmd
  try dsimp only
  try (repeat' split)
  all_goals (first | (simp (maxDischargeDepth := 30); done) | (try simp_all (maxDischargeDepth := 30)))
@[simp] theorem State.burstWrite_outer (s : State) (fn : Nat) (st : Nat) (val : Nat)  :
    (State.burstWrite s fn st val).outer = s.outer := by
  unfold State.burstWrite
  try dsimp only
  try (repeat' split)
  all_goals (first | (simp (maxDischargeDepth := 30); done) | (try simp_all (maxDischargeDepth := 30)))
@[simp] theorem State.thermalShutdown_outer (s : State) (r : Nat)  :
    (State.thermalShutdown s r).outer = s.outer := by
  unfold State.thermalShutdown
  dsimp only
  split
  · rfl
  · simp
@[simp] theorem State.crossing_outer (s : State) (ch : Nat) (cl : Bool) (rising : Bool) (tt : Nat)  :
    (State.crossing s ch cl rising tt).outer = s.outer := by
  unfold State.crossing
  try dsimp only
  try (repeat' split)
  all_goals (first | (simp (maxDischargeDepth := 30); done) | (try simp_all (maxDischargeDepth := 30)))
@[simp] theorem State.onSeg_outer (s : State) (e : CmpEv) (f : Eng → Eng) (h : Seg → Seg)  :
    (State.onSeg s e f h).outer = s.outer := by
  unfold State.onSeg
  try dsimp only
  try (repeat' split)
  all_goals (first | (simp (maxDischargeDepth := 30); done) | (try simp_all (maxDischargeDepth := 30)))
@[simp] theorem State.plainResult_outer (s : State) (ch : Nat) (v : CmpRes)  :
    (State.plainResult s ch v).outer = s.outer := by
  unfold State.plainResult
  try dsimp only
  try (repeat' split)
  all_goals (first | (simp (maxDischargeDepth := 30); done) | (try simp_all (maxDischargeDepth := 30)))
@[simp] theorem State.holdResult_outer (s : State) (ch : Nat) (v : CmpRes)  :
    (State.holdResult s ch v).outer = s.outer := by
  unfold State.holdResult
  try dsimp only
  try (repeat' split)
  all_goals (first | (simp (maxDischargeDepth := 30); done) | (try simp_all (maxDischargeDepth := 30)))
@[simp] theorem State.compareResult_outer (s : State) (ch : Nat)  :
    (State.compareResult s ch).outer = s.outer := by
  unfold State.compareResult
  try dsimp only
  try (repeat' split)
  all_goals (first | (simp (maxDischargeDepth := 30); done) | (try simp_all (maxDischargeDepth := 30)))
@[simp] theorem State.tick_outer (s : State) (st : Nat)  :
    (State.tick s st).outer = s.outer := by
  unfold State.tick
  try dsimp only
  try (repeat' split)
  all_goals (first | (simp (maxDischargeDepth := 30); done) | (try simp_all (maxDischargeDepth := 30)))

end Sys2Proof.Machine
end

