-- ==== Sys2Proof/Laws/OuterSites.lean ====
section
/-! SUPPORT. Operations of Sites keep what `State.outer` reads. -/

namespace Sys2Proof.Machine

@[simp] theorem State.siteChanged_outer (s : State) (o : Nat)  :
    (State.siteChanged s o).outer = s.outer := by
  unfold State.siteChanged
  try dsimp only
  try (repeat' split)
  all_goals (first | (simp (maxDischargeDepth := 30); done) | (try simp_all (maxDischargeDepth := 30)))
@[simp] theorem State.dropSealed_outer (s : State) (o : Nat) (ch : Nat)  :
    (State.dropSealed s o ch).outer = s.outer := by
  unfold State.dropSealed
  try dsimp only
  try (repeat' split)
  all_goals (first | (simp (maxDischargeDepth := 30); done) | (try simp_all (maxDischargeDepth := 30)))
@[simp] theorem State.dropMask_outer (s : State) (k : Nat)  :
    (State.dropMask s k).outer = s.outer := by
  unfold State.dropMask
  try dsimp only
  try (repeat' split)
  all_goals (first | (simp (maxDischargeDepth := 30); done) | (try simp_all (maxDischargeDepth := 30)))
@[simp] theorem State.moveChannel_outer (s : State) (ch : Nat) (o : Nat)  :
    (State.moveChannel s ch o).outer = s.outer := by
  unfold State.moveChannel
  try dsimp only
  try (repeat' split)
  all_goals (first | (simp (maxDischargeDepth := 30); done) | (try simp_all (maxDischargeDepth := 30)))
@[simp] theorem State.moveUnit_outer (s : State) (ty : Nat) (k : Nat) (o : Nat)  :
    (State.moveUnit s ty k o).outer = s.outer := by
  unfold State.moveUnit
  try dsimp only
  try (repeat' split)
  all_goals (first | (simp (maxDischargeDepth := 30); done) | (try simp_all (maxDischargeDepth := 30)))
@[simp] theorem State.moveOwner_outer (s : State) (ty : Nat) (inst : Nat) (o : Nat)  :
    (State.moveOwner s ty inst o).outer = s.outer := by
  unfold State.moveOwner
  try dsimp only
  try (repeat' split)
  all_goals (first | (simp (maxDischargeDepth := 30); done) | (try simp_all (maxDischargeDepth := 30)))
@[simp] theorem State.wOwner_outer (s : State) (fn : Nat) (ty : Nat) (inst : Nat) (val : Nat)  :
    (State.wOwner s fn ty inst val).outer = s.outer := by
  unfold State.wOwner
  try dsimp only
  try (repeat' split)
  all_goals (first | (simp (maxDischargeDepth := 30); done) | (try simp_all (maxDischargeDepth := 30)))
@[simp] theorem State.wChMask_outer (s : State) (fn : Nat) (st : Nat) (k : Nat) (val : Nat)  :
    (State.wChMask s fn st k val).outer = s.outer := by
  unfold State.wChMask
  try dsimp only
  try (repeat' split)
  all_goals (first | (simp (maxDischargeDepth := 30); done) | (try simp_all (maxDischargeDepth := 30)))
@[simp] theorem State.wCluMask_outer (s : State) (fn : Nat) (st : Nat) (val : Nat)  :
    (State.wCluMask s fn st val).outer = s.outer := by
  unfold State.wCluMask
  try dsimp only
  try (repeat' split)
  all_goals (first | (simp (maxDischargeDepth := 30); done) | (try simp_all (maxDischargeDepth := 30)))
@[simp] theorem State.wTeMask_outer (s : State) (fn : Nat) (st : Nat) (k : Nat) (val : Nat)  :
    (State.wTeMask s fn st k val).outer = s.outer := by
  unfold State.wTeMask
  try dsimp only
  try (repeat' split)
  all_goals (first | (simp (maxDischargeDepth := 30); done) | (try simp_all (maxDischargeDepth := 30)))
@[simp] theorem State.setRange_outer (s : State) (st : Nat) (base : Nat) (count : Nat)  :
    (State.setRange s st base count).outer = s.outer := by
  unfold State.setRange
  dsimp only
  exact (State.modSite_outer ..).trans (forEach_outer _ _ _ (fun i t => by split <;> simp))
@[simp] theorem State.wQueueRange_outer (s : State) (fn : Nat) (st : Nat) (isCount : Bool) (val : Nat)  :
    (State.wQueueRange s fn st isCount val).outer = s.outer := by
  unfold State.wQueueRange
  try dsimp only
  try (repeat' split)
  all_goals (first | (simp (maxDischargeDepth := 30); done) | (try simp_all (maxDischargeDepth := 30)))
@[simp] theorem State.wSiteCtrl_outer (s : State) (st : Nat) (val : Nat)  :
    (State.wSiteCtrl s st val).outer = s.outer := by
  unfold State.wSiteCtrl
  try dsimp only
  try (repeat' split)
  all_goals (first | (simp (maxDischargeDepth := 30); done) | (try simp_all (maxDischargeDepth := 30)))
@[simp] theorem State.wLclkDiv_outer (s : State) (fn : Nat) (st : Nat) (val : Nat)  :
    (State.wLclkDiv s fn st val).outer = s.outer := by
  unfold State.wLclkDiv
  try dsimp only
  try (repeat' split)
  all_goals (first | (simp (maxDischargeDepth := 30); done) | (try simp_all (maxDischargeDepth := 30)))
@[simp] theorem State.wFrameGroup_outer (s : State) (fn : Nat) (st : Nat) (val : Nat)  :
    (State.wFrameGroup s fn st val).outer = s.outer := by
  unfold State.wFrameGroup
  try dsimp only
  try (repeat' split)
  all_goals (first | (simp (maxDischargeDepth := 30); done) | (try simp_all (maxDischargeDepth := 30)))
@[simp] theorem State.wLatePolicy_outer (s : State) (fn : Nat) (st : Nat) (val : Nat)  :
    (State.wLatePolicy s fn st val).outer = s.outer := by
  unfold State.wLatePolicy
  try dsimp only
  try (repeat' split)
  all_goals (first | (simp (maxDischargeDepth := 30); done) | (try simp_all (maxDischargeDepth := 30)))
@[simp] theorem State.wLeadTime_outer (s : State) (fn : Nat) (st : Nat) (val : Nat)  :
    (State.wLeadTime s fn st val).outer = s.outer := by
  unfold State.wLeadTime
  try dsimp only
  try (repeat' split)
  all_goals (first | (simp (maxDischargeDepth := 30); done) | (try simp_all (maxDischargeDepth := 30)))
@[simp] theorem State.wLogQueue_outer (s : State) (fn : Nat) (st : Nat) (val : Nat)  :
    (State.wLogQueue s fn st val).outer = s.outer := by
  unfold State.wLogQueue
  try dsimp only
  try (repeat' split)
  all_goals (first | (simp (maxDischargeDepth := 30); done) | (try simp_all (maxDischargeDepth := 30)))
@[simp] theorem State.wCplQueue_outer (s : State) (fn : Nat) (st : Nat) (val : Nat)  :
    (State.wCplQueue s fn st val).outer = s.outer := by
  unfold State.wCplQueue
  try dsimp only
  try (repeat' split)
  all_goals (first | (simp (maxDischargeDepth := 30); done) | (try simp_all (maxDischargeDepth := 30)))
@[simp] theorem State.wSiteGroup_outer (s : State) (st : Nat) (off : Nat) (val : Nat)  :
    (State.wSiteGroup s st off val).outer = s.outer := by
  unfold State.wSiteGroup
  try dsimp only
  try (repeat' split)
  all_goals (first | (simp (maxDischargeDepth := 30); done) | (try simp_all (maxDischargeDepth := 30)))
@[simp] theorem State.wGlbGroup_outer (s : State) (off : Nat) (val : Nat)  :
    (State.wGlbGroup s off val).outer = s.outer := by
  unfold State.wGlbGroup
  try dsimp only
  try (repeat' split)
  all_goals (first | (simp (maxDischargeDepth := 30); done) | (try simp_all (maxDischargeDepth := 30)))

end Sys2Proof.Machine
end

