-- ==== Sys2Proof/Laws/OuterHealth.lean ====
section
/-! SUPPORT. Operations of Health keep what `State.outer` reads. -/

namespace Sys2Proof.Machine

@[simp] theorem State.histSample_outer (s : State) (k : Nat)  :
    (State.histSample s k).outer = s.outer := by
  unfold State.histSample
  try dsimp only
  try (repeat' split)
  all_goals (first | (simp (maxDischargeDepth := 30); done) | (try simp_all (maxDischargeDepth := 30)))
@[simp] theorem State.wHistCtrl_outer (s : State) (fn : Nat) (k : Nat) (val : Nat)  :
    (State.wHistCtrl s fn k val).outer = s.outer := by
  unfold State.wHistCtrl
  try dsimp only
  try (repeat' split)
  all_goals (first | (simp (maxDischargeDepth := 30); done) | (try simp_all (maxDischargeDepth := 30)))
@[simp] theorem State.wHistSrc_outer (s : State) (fn : Nat) (k : Nat) (val : Nat)  :
    (State.wHistSrc s fn k val).outer = s.outer := by
  unfold State.wHistSrc
  try dsimp only
  try (repeat' split)
  all_goals (first | (simp (maxDischargeDepth := 30); done) | (try simp_all (maxDischargeDepth := 30)))
@[simp] theorem State.wHistOrigin_outer (s : State) (fn : Nat) (k : Nat) (val : Nat)  :
    (State.wHistOrigin s fn k val).outer = s.outer := by
  unfold State.wHistOrigin
  try dsimp only
  try (repeat' split)
  all_goals (first | (simp (maxDischargeDepth := 30); done) | (try simp_all (maxDischargeDepth := 30)))
@[simp] theorem State.wHistWidth_outer (s : State) (fn : Nat) (k : Nat) (val : Nat)  :
    (State.wHistWidth s fn k val).outer = s.outer := by
  unfold State.wHistWidth
  try dsimp only
  try (repeat' split)
  all_goals (first | (simp (maxDischargeDepth := 30); done) | (try simp_all (maxDischargeDepth := 30)))
@[simp] theorem State.wHlthCtrl_outer (s : State) (fn : Nat) (val : Nat)  :
    (State.wHlthCtrl s fn val).outer = s.outer := by
  unfold State.wHlthCtrl
  try dsimp only
  try (repeat' split)
  all_goals (first | (simp (maxDischargeDepth := 30); done) | (try simp_all (maxDischargeDepth := 30)))
@[simp] theorem State.errMirror_outer (s : State)  :
    (State.errMirror s).outer = s.outer := by
  unfold State.errMirror
  try dsimp only
  try (repeat' split)
  all_goals (first | (simp (maxDischargeDepth := 30); done) | (try simp_all (maxDischargeDepth := 30)))

end Sys2Proof.Machine
end

