-- ==== Sys2Proof/Laws/OuterImage.lean ====
section
/-! SUPPORT. Operations of Image keep what `State.outer` reads. -/

namespace Sys2Proof.Machine

@[simp] theorem State.mcRun_outer (s : State) (r : Nat) (i : McImage) (slotB : Bool) (fallback : Bool)  :
    (State.mcRun s r i slotB fallback).outer = s.outer := by
  unfold State.mcRun
  rw [State.modRgn_outer, forEach_outer _ _ _ (fun e t => State.loadStore_outer t e), State.setCopy_outer]
@[simp] theorem State.mcLoadRgn_outer (s : State) (r : Nat) (sigs : Nat)  :
    (State.mcLoadRgn s r sigs).1.outer = s.outer := by
  unfold State.mcLoadRgn
  try dsimp only
  try (repeat' split)
  all_goals (first | (simp (maxDischargeDepth := 30); done) | (try simp_all (maxDischargeDepth := 30)))
@[simp] theorem State.mcLoad_outer (s : State) (sigs : Nat)  :
    (State.mcLoad s sigs).outer = s.outer := by
  unfold State.mcLoad
  try dsimp only
  try (repeat' split)
  all_goals (first | (simp (maxDischargeDepth := 30); done) | (try simp_all (maxDischargeDepth := 30)))

end Sys2Proof.Machine
end

