-- ==== Sys2Proof/Laws/OuterMemory.lean ====
section
/-! SUPPORT. Operations of Memory keep what `State.outer` reads. -/

namespace Sys2Proof.Machine

@[simp] theorem State.setBankByte_outer (s : State) (off : Nat) (b : Byte)  :
    (State.setBankByte s off b).outer = s.outer := by
  unfold State.setBankByte
  try dsimp only
  try (repeat' split)
  all_goals (first | (simp (maxDischargeDepth := 30); done) | (try simp_all (maxDischargeDepth := 30)))
@[simp] theorem State.setBankBytes_outer (s : State) (x1 : Nat) (x2 : List Byte)  :
    (State.setBankBytes s x1 x2).outer = s.outer := by
  induction x2 generalizing s x1 with
  | nil => rfl
  | cons b t ih => exact (ih _ _).trans (State.setBankByte_outer _ _ _)
@[simp] theorem State.bankDo_outer (s : State) (old : State) (r : BankReq)  :
    (State.bankDo s old r).outer = s.outer := by
  unfold State.bankDo
  try dsimp only
  try (repeat' split)
  all_goals (first | (simp (maxDischargeDepth := 30); done) | (try simp_all (maxDischargeDepth := 30)))
@[simp] theorem State.bankBoth_outer (s : State) (a : Option BankReq) (b : Option BankReq) (bank : Nat) (cyc : Nat)  :
    (State.bankBoth s a b bank cyc).outer = s.outer := by
  unfold State.bankBoth
  try dsimp only
  try (repeat' split)
  all_goals (first | (simp (maxDischargeDepth := 30); done) | (try simp_all (maxDischargeDepth := 30)))
@[simp] theorem State.bankCycle_outer (s : State) (l : List BankReq) (bank : Nat) (cyc : Nat)  :
    (State.bankCycle s l bank cyc).outer = s.outer := by
  unfold State.bankCycle
  try dsimp only
  try (repeat' split)
  all_goals (first | (simp (maxDischargeDepth := 30); done) | (try simp_all (maxDischargeDepth := 30)))
@[simp] theorem State.bankRun_outer (s : State) (cyc : Nat) (l : List BankReq) (x1 : Nat)  :
    (State.bankRun s cyc l x1).outer = s.outer := by
  induction x1 generalizing s cyc l with
  | zero => rfl
  | succ n ih =>
    unfold State.bankRun
    split
    · rfl
    · exact (ih _ _ _).trans (forEach_outer _ _ _ (fun b t => by simp))
@[simp] theorem State.bankAccess_outer (s : State) (l : List BankReq)  :
    (State.bankAccess s l).outer = s.outer := by
  unfold State.bankAccess
  try dsimp only
  try (repeat' split)
  all_goals (first | (simp (maxDischargeDepth := 30); done) | (try simp_all (maxDischargeDepth := 30)))
@[simp] theorem State.regionStart_outer (s : State)  :
    (State.regionStart s).outer = s.outer := by
  unfold State.regionStart
  try dsimp only
  try (repeat' split)
  all_goals (first | (simp (maxDischargeDepth := 30); done) | (try simp_all (maxDischargeDepth := 30)))
@[simp] theorem State.marchFail_outer (s : State) (off : Nat)  :
    (State.marchFail s off).outer = s.outer := by
  unfold State.marchFail
  try dsimp only
  try (repeat' split)
  all_goals (first | (simp (maxDischargeDepth := 30); done) | (try simp_all (maxDischargeDepth := 30)))
@[simp] theorem State.marchDone_outer (s : State) (fails : List Nat)  :
    (State.marchDone s fails).outer = s.outer := by
  unfold State.marchDone
  try dsimp only
  try (repeat' split)
  all_goals (first | (simp (maxDischargeDepth := 30); done) | (try simp_all (maxDischargeDepth := 30)))
@[simp] theorem State.wBmemTest_outer (s : State) (fn : Nat) (val : Nat)  :
    (State.wBmemTest s fn val).outer = s.outer := by
  unfold State.wBmemTest
  try dsimp only
  try (repeat' split)
  all_goals (first | (simp (maxDischargeDepth := 30); done) | (try simp_all (maxDischargeDepth := 30)))
@[simp] theorem State.bwWindow_outer (s : State) (i : Nat) (served : List Nat) (demand : List Nat) (thr : Nat)
    (bp : Bool)  :
    (State.bwWindow s i served demand thr bp).outer = s.outer := by
  unfold State.bwWindow
  try dsimp only
  try (repeat' split)
  all_goals (first | (simp (maxDischargeDepth := 30); done) | (try simp_all (maxDischargeDepth := 30)))

end Sys2Proof.Machine
end

