-- ==== Sys2Proof/Laws/OuterCommands.lean ====
section
/-! SUPPORT. Operations of Commands keep what `State.outer` reads. -/

namespace Sys2Proof.Machine

@[simp] theorem State.complete_outer (s : State) (fn : Nat) (cq : Nat) (tag : Nat) (seen : Nat) (status : Nat)
    (result : List Byte)  :
    (State.complete s fn cq tag seen status result).outer = s.outer := by
  unfold State.complete
  try dsimp only
  try (repeat' split)
  all_goals (first | (simp (maxDischargeDepth := 30); done) | (try simp_all (maxDischargeDepth := 30)))
@[simp] theorem State.reply_outer (s : State) (c : Cmd) (status : Nat) (result : List Byte)  :
    (State.reply s c status result).outer = s.outer := by
  unfold State.reply
  try dsimp only
  try (repeat' split)
  all_goals (first | (simp (maxDischargeDepth := 30); done) | (try simp_all (maxDischargeDepth := 30)))
@[simp] theorem State.runCmd_outer (s : State) (q : Nat) (c : Cmd) (who : Nat) (masks : List Nat)
    (act : Cmd → State → State) (hact : ∀ y1 y2, (act y1 y2).outer = y2.outer) :
    (State.runCmd s q c who masks act).outer = s.outer := by
  unfold State.runCmd
  try dsimp only
  try (repeat' split)
  all_goals (first | (simp (maxDischargeDepth := 30); done) | (try simp_all (maxDischargeDepth := 30)))
@[simp] theorem State.onCmd_outer (s : State) (q : Nat) (code : Nat) (who : Nat) (masks : List Nat)
    (act : Cmd → State → State) (hact : ∀ y1 y2, (act y1 y2).outer = y2.outer) :
    (State.onCmd s q code who masks act).outer = s.outer := by
  unfold State.onCmd
  try dsimp only
  try (repeat' split)
  all_goals (first | (simp (maxDischargeDepth := 30); done) | (try simp_all (maxDischargeDepth := 30)))
@[simp] theorem State.storeBlock_outer (s : State) (o : Nat) (a : Nat) (c : List Byte)  :
    (State.storeBlock s o a c).outer = s.outer := by
  unfold State.storeBlock
  dsimp only
  have key : ∀ (u : State) (n : Tbl (Option Byte)), ({ u with ctext := n } : State).outer = u.outer := fun _ _ => rfl
  rw [key, State.setBytes_outer]
@[simp] theorem State.storeSealed_outer (s : State) (a : Nat) (data : List Byte)  :
    (State.storeSealed s a data).outer = s.outer := by
  unfold State.storeSealed
  try dsimp only
  try (repeat' split)
  all_goals (first | (simp (maxDischargeDepth := 30); done) | (try simp_all (maxDischargeDepth := 30)))
@[simp] theorem State.dropLines_outer (s : State) (a : Nat) (last : Nat)  :
    (State.dropLines s a last).outer = s.outer := by
  unfold State.dropLines
  try dsimp only
  try (repeat' split)
  all_goals (first | (simp (maxDischargeDepth := 30); done) | (try simp_all (maxDischargeDepth := 30)))
@[simp] theorem State.copyIn_outer (s : State) (a : Nat) (data : List Byte)  :
    (State.copyIn s a data).outer = s.outer := by
  unfold State.copyIn
  split
  · rfl
  · exact (State.dropLines_outer ..).trans ((State.bankHits_outer ..).trans (by split <;> simp))
@[simp] theorem State.copyOut_outer (s : State) (a : Nat) (n : Nat)  :
    (State.copyOut s a n).1.outer = s.outer := by
  unfold State.copyOut
  try dsimp only
  try (repeat' split)
  all_goals (first | (simp (maxDischargeDepth := 30); done) | (try simp_all (maxDischargeDepth := 30)))
@[simp] theorem State.dmaOut_outer (s : State) (c : Cmd) (addr : Nat) (data : List Byte) (err : Option Nat)  :
    (State.dmaOut s c addr data err).1.outer = s.outer := by
  unfold State.dmaOut
  try dsimp only
  try (repeat' split)
  all_goals (first | (simp (maxDischargeDepth := 30); done) | (try simp_all (maxDischargeDepth := 30)))
@[simp] theorem State.queueOut_outer (s : State) (c : Cmd) (err : Option Nat)  :
    (State.queueOut s c err).outer = s.outer := by
  unfold State.queueOut
  try dsimp only
  try (repeat' split)
  all_goals (first | (simp (maxDischargeDepth := 30); done) | (try simp_all (maxDischargeDepth := 30)))
@[simp] theorem State.barrierSet_outer (s : State) (c : Cmd)  :
    (State.barrierSet s c).outer = s.outer := by
  unfold State.barrierSet
  try dsimp only
  try (repeat' split)
  all_goals (first | (simp (maxDischargeDepth := 30); done) | (try simp_all (maxDischargeDepth := 30)))
@[simp] theorem State.scrambleLoad_outer (s : State) (c : Cmd)  :
    (State.scrambleLoad s c).outer = s.outer := by
  unfold State.scrambleLoad
  try dsimp only
  try (repeat' split)
  all_goals (first | (simp (maxDischargeDepth := 30); done) | (try simp_all (maxDischargeDepth := 30)))
@[simp] theorem State.calRead_outer (s : State) (c : Cmd) (err : Option Nat)  :
    (State.calRead s c err).outer = s.outer := by
  unfold State.calRead
  try dsimp only
  try (repeat' split)
  all_goals (first | (simp (maxDischargeDepth := 30); done) | (try simp_all (maxDischargeDepth := 30)))
@[simp] theorem State.mcInstall_outer (s : State) (c : Cmd) (key : List Byte)  :
    (State.mcInstall s c key).outer = s.outer := by
  unfold State.mcInstall
  try dsimp only
  try (repeat' split)
  all_goals (first | (simp (maxDischargeDepth := 30); done) | (try simp_all (maxDischargeDepth := 30)))
@[simp] theorem State.mcInstallDone_outer (s : State)  :
    (State.mcInstallDone s).outer = s.outer := by
  unfold State.mcInstallDone
  try dsimp only
  try (repeat' split)
  all_goals (first | (simp (maxDischargeDepth := 30); done) | (try simp_all (maxDischargeDepth := 30)))
@[simp] theorem State.memGrant_outer (s : State) (c : Cmd)  :
    (State.memGrant s c).outer = s.outer := by
  unfold State.memGrant
  try dsimp only
  try (repeat' split)
  all_goals (first | (simp (maxDischargeDepth := 30); done) | (try simp_all (maxDischargeDepth := 30)))
@[simp] theorem State.memGrantDone_outer (s : State)  :
    (State.memGrantDone s).outer = s.outer := by
  unfold State.memGrantDone
  split
  · rfl
  · rename_i g _
    have h : ((s.wipe g.range.1 g.range.2).dropLines g.range.1 (g.range.1 + g.range.2 - 1)).outer = s.outer := by simp
    dsimp only
    rw [State.complete_outer, State.modQmgr_outer]
    split <;> exact h
@[simp] theorem State.uncorr_outer (s : State) (addr : Nat) (site : Option Nat)  :
    (State.uncorr s addr site).outer = s.outer := by
  unfold State.uncorr
  try dsimp only
  try (repeat' split)
  all_goals (first | (simp (maxDischargeDepth := 30); done) | (try simp_all (maxDischargeDepth := 30)))
@[simp] theorem State.uncorrRead_outer (s : State) (addr : Nat) (who : Nat) (i : Nat) (j : Nat)  :
    (State.uncorrRead s addr who i j).outer = s.outer := by
  unfold State.uncorrRead
  try dsimp only
  try (repeat' split)
  all_goals (first | (simp (maxDischargeDepth := 30); done) | (try simp_all (maxDischargeDepth := 30)))

end Sys2Proof.Machine
end

