-- ==== Sys2Proof/Laws/OuterSecurity.lean ====
section
/-! SUPPORT. Operations of Security keep what `State.outer` reads. -/

namespace Sys2Proof.Machine

@[simp] theorem State.latchHw_outer (s : State)  :
    (State.latchHw s).outer = s.outer := by
  unfold State.latchHw
  try dsimp only
  try (repeat' split)
  all_goals (first | (simp (maxDischargeDepth := 30); done) | (try simp_all (maxDischargeDepth := 30)))
@[simp] theorem State.wHostTime_outer (s : State) (fn : Nat) (hi : Nat)  :
    (State.wHostTime s fn hi).outer = s.outer := by
  unfold State.wHostTime
  try dsimp only
  try (repeat' split)
  all_goals (first | (simp (maxDischargeDepth := 30); done) | (try simp_all (maxDischargeDepth := 30)))
@[simp] theorem State.unsealRegs_outer (s : State) (st : Nat)  :
    (State.unsealRegs s st).outer = s.outer := by
  unfold State.unsealRegs
  try dsimp only
  try (repeat' split)
  all_goals (first | (simp (maxDischargeDepth := 30); done) | (try simp_all (maxDischargeDepth := 30)))
@[simp] theorem State.dropContainer_outer (s : State) (st : Nat)  :
    (State.dropContainer s st).outer = s.outer := by
  unfold State.dropContainer
  try dsimp only
  try (repeat' split)
  all_goals (first | (simp (maxDischargeDepth := 30); done) | (try simp_all (maxDischargeDepth := 30)))
@[simp] theorem State.secErr_outer (s : State) (code : Nat)  :
    (State.secErr s code).outer = s.outer := by
  unfold State.secErr
  try dsimp only
  try (repeat' split)
  all_goals (first | (simp (maxDischargeDepth := 30); done) | (try simp_all (maxDischargeDepth := 30)))
@[simp] theorem State.doeSend_outer (s : State) (fn : Nat) (op : Nat) (status : Nat) (tag : Nat) (data : List Byte)  :
    (State.doeSend s fn op status tag data).outer = s.outer := by
  unfold State.doeSend
  try dsimp only
  try (repeat' split)
  all_goals (first | (simp (maxDischargeDepth := 30); done) | (try simp_all (maxDischargeDepth := 30)))
@[simp] theorem State.doeReply_outer (s : State) (d : Doe) (status : Nat) (data : List Byte)  :
    (State.doeReply s d status data).outer = s.outer := by
  unfold State.doeReply
  try dsimp only
  try (repeat' split)
  all_goals (first | (simp (maxDischargeDepth := 30); done) | (try simp_all (maxDischargeDepth := 30)))
@[simp] theorem State.doeQueue_outer (s : State) (d : Doe)  :
    (State.doeQueue s d).outer = s.outer := by
  unfold State.doeQueue
  try dsimp only
  try (repeat' split)
  all_goals (first | (simp (maxDischargeDepth := 30); done) | (try simp_all (maxDischargeDepth := 30)))
@[simp] theorem State.onDoe_outer (s : State) (d : Doe) (op : Nat) (who : Nat) (len : Nat) (exact : Bool)
    (act : Doe → State → State) (hact : ∀ y1 y2, (act y1 y2).outer = y2.outer) :
    (State.onDoe s d op who len exact act).outer = s.outer := by
  unfold State.onDoe
  try dsimp only
  try (repeat' split)
  all_goals (first | (simp (maxDischargeDepth := 30); done) | (try simp_all (maxDischargeDepth := 30)))
@[simp] theorem State.doeOther_outer (s : State) (d : Doe)  :
    (State.doeOther s d).outer = s.outer := by
  unfold State.doeOther
  try dsimp only
  try (repeat' split)
  all_goals (first | (simp (maxDischargeDepth := 30); done) | (try simp_all (maxDischargeDepth := 30)))
@[simp] theorem State.doeStatus_outer (s : State) (d : Doe)  :
    (State.doeStatus s d).outer = s.outer := by
  unfold State.doeStatus
  try dsimp only
  try (repeat' split)
  all_goals (first | (simp (maxDischargeDepth := 30); done) | (try simp_all (maxDischargeDepth := 30)))
@[simp] theorem State.signAlias_outer (s : State) (m : List Byte)  :
    (State.signAlias s m).1.outer = s.outer := by
  unfold State.signAlias
  try dsimp only
  try (repeat' split)
  all_goals (first | (simp (maxDischargeDepth := 30); done) | (try simp_all (maxDischargeDepth := 30)))
@[simp] theorem State.loadAccept_outer (s : State) (d : Doe) (st : Nat) (dest : Nat) (h : List Byte)
    (plain : List Byte)  :
    (State.loadAccept s d st dest h plain).outer = s.outer := by
  unfold State.loadAccept
  try dsimp only
  try (repeat' split)
  all_goals (first | (simp (maxDischargeDepth := 30); done) | (try simp_all (maxDischargeDepth := 30)))
@[simp] theorem State.load_outer (s : State) (d : Doe)  :
    (State.load s d).outer = s.outer := by
  unfold State.load
  try dsimp only
  try (repeat' split)
  all_goals (first | (simp (maxDischargeDepth := 30); done) | (try simp_all (maxDischargeDepth := 30)))
@[simp] theorem State.loseFrame_outer (s : State) (st : Nat) (kind : Nat) (inst : Nat)  :
    (State.loseFrame s st kind inst).outer = s.outer := by
  unfold State.loseFrame
  try dsimp only
  try (repeat' split)
  all_goals (first | (simp (maxDischargeDepth := 30); done) | (try simp_all (maxDischargeDepth := 30)))
@[simp] theorem State.zeroRings_outer (s : State) (st : Nat)  :
    (State.zeroRings s st).outer = s.outer := by
  unfold State.zeroRings
  try dsimp only
  try (repeat' split)
  all_goals (first | (simp (maxDischargeDepth := 30); done) | (try simp_all (maxDischargeDepth := 30)))
@[simp] theorem State.unloadEnd_outer (s : State) (st : Nat) (path : Nat) (tag : Nat)  :
    (State.unloadEnd s st path tag).outer = s.outer := by
  unfold State.unloadEnd
  try dsimp only
  try (repeat' split)
  all_goals (first | (simp (maxDischargeDepth := 30); done) | (try simp_all (maxDischargeDepth := 30)))
@[simp] theorem State.unloadStep_outer (s : State) (st : Nat)  :
    (State.unloadStep s st).outer = s.outer := by
  unfold State.unloadStep
  try dsimp only
  try (repeat' split)
  all_goals (first | (simp (maxDischargeDepth := 30); done) | (try simp_all (maxDischargeDepth := 30)))
@[simp] theorem State.closeFrames_outer (s : State) (st : Nat)  :
    (State.closeFrames s st).outer = s.outer := by
  unfold State.closeFrames
  try dsimp only
  try (repeat' split)
  all_goals (first | (simp (maxDischargeDepth := 30); done) | (try simp_all (maxDischargeDepth := 30)))
@[simp] theorem State.unload_outer (s : State) (d : Doe)  :
    (State.unload s d).outer = s.outer := by
  unfold State.unload
  try dsimp only
  try (repeat' split)
  all_goals (first | (simp (maxDischargeDepth := 30); done) | (try simp_all (maxDischargeDepth := 30)))
@[simp] theorem State.frameDue_outer (s : State) (st : Nat) (kind : Nat) (inst : Nat)  :
    (State.frameDue s st kind inst).outer = s.outer := by
  unfold State.frameDue
  try dsimp only
  try (repeat' split)
  all_goals (first | (simp (maxDischargeDepth := 30); done) | (try simp_all (maxDischargeDepth := 30)))
@[simp] theorem State.fwCommit_outer (s : State) (d : Doe) (b : List Byte) (intoA : Bool)  :
    (State.fwCommit s d b intoA).outer = s.outer := by
  unfold State.fwCommit
  try dsimp only
  try (repeat' split)
  all_goals (first | (simp (maxDischargeDepth := 30); done) | (try simp_all (maxDischargeDepth := 30)))
@[simp] theorem State.fwInstall_outer (s : State) (d : Doe)  :
    (State.fwInstall s d).outer = s.outer := by
  unfold State.fwInstall
  try dsimp only
  try (repeat' split)
  all_goals (first | (simp (maxDischargeDepth := 30); done) | (try simp_all (maxDischargeDepth := 30)))
@[simp] theorem State.fwRecover_outer (s : State) (d : Doe)  :
    (State.fwRecover s d).outer = s.outer := by
  unfold State.fwRecover
  try dsimp only
  try (repeat' split)
  all_goals (first | (simp (maxDischargeDepth := 30); done) | (try simp_all (maxDischargeDepth := 30)))
@[simp] theorem State.floorCommit_outer (s : State) (d : Doe)  :
    (State.floorCommit s d).outer = s.outer := by
  unfold State.floorCommit
  try dsimp only
  try (repeat' split)
  all_goals (first | (simp (maxDischargeDepth := 30); done) | (try simp_all (maxDischargeDepth := 30)))
@[simp] theorem State.wSealedSites_outer (s : State) (fn : Nat) (val : Nat)  :
    (State.wSealedSites s fn val).outer = s.outer := by
  unfold State.wSealedSites
  try dsimp only
  try (repeat' split)
  all_goals (first | (simp (maxDischargeDepth := 30); done) | (try simp_all (maxDischargeDepth := 30)))
@[simp] theorem State.rekeyDone_outer (s : State) (h : Nat)  :
    (State.rekeyDone s h).outer = s.outer := by
  unfold State.rekeyDone
  try dsimp only
  try (repeat' split)
  all_goals (first | (simp (maxDischargeDepth := 30); done) | (try simp_all (maxDischargeDepth := 30)))
@[simp] theorem State.secWipe_outer (s : State)  :
    (State.secWipe s).outer = s.outer := by
  unfold State.secWipe
  try dsimp only
  try (repeat' split)
  all_goals (first | (simp (maxDischargeDepth := 30); done) | (try simp_all (maxDischargeDepth := 30)))
@[simp] theorem State.unloadFrames_outer (s : State)  :
    (State.unloadFrames s).outer = s.outer := by
  unfold State.unloadFrames
  try dsimp only
  try (repeat' split)
  all_goals (first | (simp (maxDischargeDepth := 30); done) | (try simp_all (maxDischargeDepth := 30)))
@[simp] theorem State.wLifecycle_outer (s : State) (fn : Nat) (val : Nat)  :
    (State.wLifecycle s fn val).outer = s.outer := by
  unfold State.wLifecycle
  try dsimp only
  try (repeat' split)
  all_goals (first | (simp (maxDischargeDepth := 30); done) | (try simp_all (maxDischargeDepth := 30)))
@[simp] theorem State.lcDone_outer (s : State)  :
    (State.lcDone s).outer = s.outer := by
  unfold State.lcDone
  split
  · rfl
  · split
    · rfl
    · dsimp only
      split
      · rw [State.toSafe_outer, State.cause_outer, State.cause_outer]; rfl
      · rw [State.cause_outer]; rfl
@[simp] theorem State.tamper_outer (s : State) (src : Nat)  :
    (State.tamper s src).outer = s.outer := by
  unfold State.tamper
  try dsimp only
  try (repeat' split)
  all_goals (first | (simp (maxDischargeDepth := 30); done) | (try simp_all (maxDischargeDepth := 30)))
@[simp] theorem State.wTamperCtrl_outer (s : State) (fn : Nat) (val : Nat)  :
    (State.wTamperCtrl s fn val).outer = s.outer := by
  unfold State.wTamperCtrl
  try dsimp only
  try (repeat' split)
  all_goals (first | (simp (maxDischargeDepth := 30); done) | (try simp_all (maxDischargeDepth := 30)))
@[simp] theorem State.fwCommitted_outer (s : State)  :
    (State.fwCommitted s).outer = s.outer := by
  unfold State.fwCommitted
  try dsimp only
  try (repeat' split)
  all_goals (first | (simp (maxDischargeDepth := 30); done) | (try simp_all (maxDischargeDepth := 30)))
@[simp] theorem State.norDone_outer (s : State)  :
    (State.norDone s).outer = s.outer := by
  unfold State.norDone
  try dsimp only
  try (repeat' split)
  all_goals (first | (simp (maxDischargeDepth := 30); done) | (try simp_all (maxDischargeDepth := 30)))
@[simp] theorem State.setIde_outer (s : State) (fn : Nat) (v : Nat)  :
    (State.setIde s fn v).outer = s.outer := by
  unfold State.setIde
  try dsimp only
  try (repeat' split)
  all_goals (first | (simp (maxDischargeDepth := 30); done) | (try simp_all (maxDischargeDepth := 30)))
@[simp] theorem State.ideFail_outer (s : State) (fn : Nat)  :
    (State.ideFail s fn).outer = s.outer := by
  unfold State.ideFail
  try dsimp only
  try (repeat' split)
  all_goals (first | (simp (maxDischargeDepth := 30); done) | (try simp_all (maxDischargeDepth := 30)))

end Sys2Proof.Machine
end

