-- ==== Sys2Proof/Laws/OuterAttest.lean ====
section
/-! SUPPORT. Operations of Attest keep what `State.outer` reads. -/

namespace Sys2Proof.Machine

@[simp] theorem State.spdmSend_outer (s : State) (path : Nat) (code : Nat) (body : List Byte)  :
    (State.spdmSend s path code body).outer = s.outer := by
  unfold State.spdmSend
  try dsimp only
  try (repeat' split)
  all_goals (first | (simp (maxDischargeDepth := 30); done) | (try simp_all (maxDischargeDepth := 30)))
@[simp] theorem State.spdmSigned_outer (s : State) (path : Nat) (code : Nat) (req : List Byte) (body : List Byte)  :
    (State.spdmSigned s path code req body).outer = s.outer := by
  unfold State.spdmSigned
  try dsimp only
  try (repeat' split)
  all_goals (first | (simp (maxDischargeDepth := 30); done) | (try simp_all (maxDischargeDepth := 30)))
@[simp] theorem State.spdmError_outer (s : State) (path : Nat) (err : Nat)  :
    (State.spdmError s path err).outer = s.outer := by
  unfold State.spdmError
  try dsimp only
  try (repeat' split)
  all_goals (first | (simp (maxDischargeDepth := 30); done) | (try simp_all (maxDischargeDepth := 30)))
@[simp] theorem State.spdmFree_outer (s : State) (path : Nat) (code : Nat) (req : List Byte)  :
    (State.spdmFree s path code req).outer = s.outer := by
  unfold State.spdmFree
  try dsimp only
  try (repeat' split)
  all_goals (first | (simp (maxDischargeDepth := 30); done) | (try simp_all (maxDischargeDepth := 30)))
@[simp] theorem State.spdmCapabilities_outer (s : State) (path : Nat)  :
    (State.spdmCapabilities s path).outer = s.outer := by
  unfold State.spdmCapabilities
  try dsimp only
  try (repeat' split)
  all_goals (first | (simp (maxDischargeDepth := 30); done) | (try simp_all (maxDischargeDepth := 30)))
@[simp] theorem State.setSessions_outer (s : State) (path : Nat) (o : Nat) (f : Nat)  :
    (State.setSessions s path o f).outer = s.outer := by
  unfold State.setSessions
  try dsimp only
  try (repeat' split)
  all_goals (first | (simp (maxDischargeDepth := 30); done) | (try simp_all (maxDischargeDepth := 30)))
@[simp] theorem State.inSession_outer (s : State) (path : Nat) (act : State → State) (hact : ∀ y1,
    (act y1).outer = y1.outer) :
    (State.inSession s path act).outer = s.outer := by
  unfold State.inSession
  try dsimp only
  try (repeat' split)
  all_goals (first | (simp (maxDischargeDepth := 30); done) | (try simp_all (maxDischargeDepth := 30)))
@[simp] theorem State.ideKm_outer (s : State) (x1 : IdeKm)  :
    (State.ideKm s x1).outer = s.outer := by
  unfold State.ideKm
  try dsimp only
  try (repeat' split)
  all_goals (first | (simp (maxDischargeDepth := 30); done) | (try simp_all (maxDischargeDepth := 30)))
@[simp] theorem State.mctpSend_outer (s : State) (cmd : Nat) (cc : Nat) (data : List Byte)  :
    (State.mctpSend s cmd cc data).outer = s.outer := by
  unfold State.mctpSend
  try dsimp only
  try (repeat' split)
  all_goals (first | (simp (maxDischargeDepth := 30); done) | (try simp_all (maxDischargeDepth := 30)))

end Sys2Proof.Machine
end

