-- ==== Sys2Proof/Laws/OuterJtag.lean ====
section
/-! SUPPORT. Operations of Jtag keep what `State.outer` reads. -/

namespace Sys2Proof.Machine

@[simp] theorem State.onTap_outer (s : State) (f : Jtag → Jtag)  :
    (State.onTap s f).outer = s.outer := by
  unfold State.onTap
  try dsimp only
  try (repeat' split)
  all_goals (first | (simp (maxDischargeDepth := 30); done) | (try simp_all (maxDischargeDepth := 30)))

end Sys2Proof.Machine
end

