-- ==== Sys2Proof/Laws/OuterFlags.lean ====
section
/-! SUPPORT. Operations of Flags keep what `State.outer` reads. -/

namespace Sys2Proof.Machine

@[simp] theorem State.readClear_outer (s : State) (fn : Nat) (ty : Nat) (inst : Nat) (off : Nat)  :
    (State.readClear s fn ty inst off).outer = s.outer := by
  unfold State.readClear
  split
  · simp
  · split <;> (repeat' split) <;> simp
@[simp] theorem State.readReg_outer (s : State) (fn : Nat) (ty : Nat) (inst : Nat) (off : Nat)  :
    (State.readReg s fn ty inst off).1.outer = s.outer := by
  unfold State.readReg
  dsimp only
  (repeat' split) <;> simp_all

end Sys2Proof.Machine
end

