-- ==== Sys2Proof/Laws/OuterRegs.lean ====
section
/-! SUPPORT. Operations of Regs keep what `State.outer` reads. -/

namespace Sys2Proof.Machine

@[simp] theorem State.enClear_outer (s : State) (ty : Nat) (inst : Nat)  :
    (State.enClear s ty inst).outer = s.outer := by
  unfold State.enClear
  try dsimp only
  try (repeat' split)
  all_goals (first | (simp (maxDischargeDepth := 30); done) | (try simp_all (maxDischargeDepth := 30)))
@[simp] theorem State.enSet_outer (s : State) (ty : Nat) (inst : Nat)  :
    (State.enSet s ty inst).outer = s.outer := by
  unfold State.enSet
  try dsimp only
  try (repeat' split)
  all_goals (first | (simp (maxDischargeDepth := 30); done) | (try simp_all (maxDischargeDepth := 30)))
@[simp] theorem State.resetPart_outer (s : State) (r : Nat) (st : Nat)  :
    (State.resetPart s r st).outer = s.outer := by
  unfold State.resetPart
  try dsimp only
  try (repeat' split)
  all_goals (first | (simp (maxDischargeDepth := 30); done) | (try simp_all (maxDischargeDepth := 30)))
@[simp] theorem State.resetFcu_outer (s : State) (r : Nat)  :
    (State.resetFcu s r).outer = s.outer := by
  unfold State.resetFcu
  try dsimp only
  try (repeat' split)
  all_goals (first | (simp (maxDischargeDepth := 30); done) | (try simp_all (maxDischargeDepth := 30)))
@[simp] theorem State.resetRegs_outer (s : State) (ty : Nat) (inst : Nat)  :
    (State.resetRegs s ty inst).outer = s.outer := by
  unfold State.resetRegs
  try dsimp only
  try (repeat' split)
  all_goals (first | (simp (maxDischargeDepth := 30); done) | (try simp_all (maxDischargeDepth := 30)))
@[simp] theorem State.softReset_outer (s : State) (ty : Nat) (inst : Nat)  :
    (State.softReset s ty inst).outer = s.outer := by
  unfold State.softReset
  try dsimp only
  try (repeat' split)
  all_goals (first | (simp (maxDischargeDepth := 30); done) | (try simp_all (maxDischargeDepth := 30)))
@[simp] theorem State.wBlkCtrl_outer (s : State) (fn : Nat) (ty : Nat) (inst : Nat) (val : Nat)  :
    (State.wBlkCtrl s fn ty inst val).outer = s.outer := by
  unfold State.wBlkCtrl
  try dsimp only
  try (repeat' split)
  all_goals (first | (simp (maxDischargeDepth := 30); done) | (try simp_all (maxDischargeDepth := 30)))
@[simp] theorem State.softResetDone_outer (s : State) (ty : Nat) (inst : Nat)  :
    (State.softResetDone s ty inst).outer = s.outer := by
  unfold State.softResetDone
  try dsimp only
  try (repeat' split)
  all_goals (first | (simp (maxDischargeDepth := 30); done) | (try simp_all (maxDischargeDepth := 30)))
@[simp] theorem State.wIrqStatus_outer (s : State) (ty : Nat) (inst : Nat) (val : Nat)  :
    (State.wIrqStatus s ty inst val).outer = s.outer := by
  unfold State.wIrqStatus
  try dsimp only
  try (repeat' split)
  all_goals (first | (simp (maxDischargeDepth := 30); done) | (try simp_all (maxDischargeDepth := 30)))
@[simp] theorem State.wIrqEnable_outer (s : State) (ty : Nat) (inst : Nat) (val : Nat)  :
    (State.wIrqEnable s ty inst val).outer = s.outer := by
  unfold State.wIrqEnable
  try dsimp only
  try (repeat' split)
  all_goals (first | (simp (maxDischargeDepth := 30); done) | (try simp_all (maxDischargeDepth := 30)))
@[simp] theorem State.wIrqSet_outer (s : State) (ty : Nat) (inst : Nat) (val : Nat)  :
    (State.wIrqSet s ty inst val).outer = s.outer := by
  unfold State.wIrqSet
  try dsimp only
  try (repeat' split)
  all_goals (first | (simp (maxDischargeDepth := 30); done) | (try simp_all (maxDischargeDepth := 30)))
@[simp] theorem State.wPQueue_outer (s : State) (fn : Nat) (r : Nat) (st : Nat) (val : Nat)  :
    (State.wPQueue s fn r st val).outer = s.outer := by
  unfold State.wPQueue
  try dsimp only
  try (repeat' split)
  all_goals (first | (simp (maxDischargeDepth := 30); done) | (try simp_all (maxDischargeDepth := 30)))
@[simp] theorem State.wScrambleBase_outer (s : State) (fn : Nat) (r : Nat) (val : Nat)  :
    (State.wScrambleBase s fn r val).outer = s.outer := by
  unfold State.wScrambleBase
  try dsimp only
  try (repeat' split)
  all_goals (first | (simp (maxDischargeDepth := 30); done) | (try simp_all (maxDischargeDepth := 30)))
@[simp] theorem State.wPeStatus_outer (s : State) (ch : Nat) (val : Nat)  :
    (State.wPeStatus s ch val).outer = s.outer := by
  unfold State.wPeStatus
  try dsimp only
  try (repeat' split)
  all_goals (first | (simp (maxDischargeDepth := 30); done) | (try simp_all (maxDischargeDepth := 30)))
@[simp] theorem State.wTamperStatus_outer (s : State) (val : Nat)  :
    (State.wTamperStatus s val).outer = s.outer := by
  unfold State.wTamperStatus
  try dsimp only
  try (repeat' split)
  all_goals (first | (simp (maxDischargeDepth := 30); done) | (try simp_all (maxDischargeDepth := 30)))
@[simp] theorem State.wDescSel_outer (s : State) (fn : Nat) (val : Nat)  :
    (State.wDescSel s fn val).outer = s.outer := by
  unfold State.wDescSel
  try dsimp only
  try (repeat' split)
  all_goals (first | (simp (maxDischargeDepth := 30); done) | (try simp_all (maxDischargeDepth := 30)))
@[simp] theorem State.wDesc_outer (s : State) (fn : Nat) (k : Nat) (val : Nat)  :
    (State.wDesc s fn k val).outer = s.outer := by
  unfold State.wDesc
  try dsimp only
  try (repeat' split)
  all_goals (first | (simp (maxDischargeDepth := 30); done) | (try simp_all (maxDischargeDepth := 30)))
@[simp] theorem State.wDescCmd_outer (s : State) (fn : Nat) (val : Nat)  :
    (State.wDescCmd s fn val).outer = s.outer := by
  unfold State.wDescCmd
  try dsimp only
  try (repeat' split)
  all_goals (first | (simp (maxDischargeDepth := 30); done) | (try simp_all (maxDischargeDepth := 30)))
@[simp] theorem State.writeGlb_outer (s : State) (fn : Nat) (off : Nat) (val : Nat)  :
    (State.writeGlb s fn off val).outer = s.outer := by
  unfold State.writeGlb
  try dsimp only
  try (repeat' split)
  all_goals (first | (simp (maxDischargeDepth := 30); done) | (try simp_all (maxDischargeDepth := 30)))
@[simp] theorem State.writeSync_outer (s : State) (fn : Nat) (off : Nat) (val : Nat)  :
    (State.writeSync s fn off val).outer = s.outer := by
  unfold State.writeSync
  try dsimp only
  try (repeat' split)
  all_goals (first | (simp (maxDischargeDepth := 30); done) | (try simp_all (maxDischargeDepth := 30)))
@[simp] theorem State.writeSec_outer (s : State) (fn : Nat) (off : Nat) (val : Nat)  :
    (State.writeSec s fn off val).outer = s.outer := by
  unfold State.writeSec
  try dsimp only
  try (repeat' split)
  all_goals (first | (simp (maxDischargeDepth := 30); done) | (try simp_all (maxDischargeDepth := 30)))
@[simp] theorem State.writeSite_outer (s : State) (fn : Nat) (st : Nat) (off : Nat) (val : Nat)  :
    (State.writeSite s fn st off val).outer = s.outer := by
  unfold State.writeSite
  try dsimp only
  try (repeat' split)
  all_goals (first | (simp (maxDischargeDepth := 30); done) | (try simp_all (maxDischargeDepth := 30)))
@[simp] theorem State.writeQmgr_outer (s : State) (fn : Nat) (off : Nat) (val : Nat)  :
    (State.writeQmgr s fn off val).outer = s.outer := by
  unfold State.writeQmgr
  try dsimp only
  try (repeat' split)
  all_goals (first | (simp (maxDischargeDepth := 30); done) | (try simp_all (maxDischargeDepth := 30)))
@[simp] theorem State.writeTg_outer (s : State) (fn : Nat) (ch : Nat) (off : Nat) (val : Nat)  :
    (State.writeTg s fn ch off val).outer = s.outer := by
  unfold State.writeTg
  try dsimp only
  try (repeat' split)
  all_goals (first | (simp (maxDischargeDepth := 30); done) | (try simp_all (maxDischargeDepth := 30)))
@[simp] theorem State.writeCmp_outer (s : State) (fn : Nat) (ch : Nat) (off : Nat) (val : Nat)  :
    (State.writeCmp s fn ch off val).outer = s.outer := by
  unfold State.writeCmp
  try dsimp only
  try (repeat' split)
  all_goals (first | (simp (maxDischargeDepth := 30); done) | (try simp_all (maxDischargeDepth := 30)))
@[simp] theorem State.writePe_outer (s : State) (fn : Nat) (ch : Nat) (off : Nat) (val : Nat)  :
    (State.writePe s fn ch off val).outer = s.outer := by
  unfold State.writePe
  try dsimp only
  try (repeat' split)
  all_goals (first | (simp (maxDischargeDepth := 30); done) | (try simp_all (maxDischargeDepth := 30)))
@[simp] theorem State.writeLvl_outer (s : State) (fn : Nat) (ch : Nat) (off : Nat) (val : Nat)  :
    (State.writeLvl s fn ch off val).outer = s.outer := by
  unfold State.writeLvl
  try dsimp only
  try (repeat' split)
  all_goals (first | (simp (maxDischargeDepth := 30); done) | (try simp_all (maxDischargeDepth := 30)))
@[simp] theorem State.writeMadc_outer (s : State) (fn : Nat) (k : Nat) (off : Nat) (val : Nat)  :
    (State.writeMadc s fn k off val).outer = s.outer := by
  unfold State.writeMadc
  try dsimp only
  try (repeat' split)
  all_goals (first | (simp (maxDischargeDepth := 30); done) | (try simp_all (maxDischargeDepth := 30)))
@[simp] theorem State.writeAcq_outer (s : State) (fn : Nat) (k : Nat) (off : Nat) (val : Nat)  :
    (State.writeAcq s fn k off val).outer = s.outer := by
  unfold State.writeAcq
  try dsimp only
  try (repeat' split)
  all_goals (first | (simp (maxDischargeDepth := 30); done) | (try simp_all (maxDischargeDepth := 30)))
@[simp] theorem State.writeHist_outer (s : State) (fn : Nat) (k : Nat) (off : Nat) (val : Nat)  :
    (State.writeHist s fn k off val).outer = s.outer := by
  unfold State.writeHist
  try dsimp only
  try (repeat' split)
  all_goals (first | (simp (maxDischargeDepth := 30); done) | (try simp_all (maxDischargeDepth := 30)))
@[simp] theorem State.writeFcu_outer (s : State) (fn : Nat) (r : Nat) (off : Nat) (val : Nat)  :
    (State.writeFcu s fn r off val).outer = s.outer := by
  unfold State.writeFcu
  try dsimp only
  try (repeat' split)
  all_goals (first | (simp (maxDischargeDepth := 30); done) | (try simp_all (maxDischargeDepth := 30)))
@[simp] theorem State.writeReg_outer (s : State) (fn : Nat) (ty : Nat) (inst : Nat) (off : Nat) (val : Nat)  :
    (State.writeReg s fn ty inst off val).outer = s.outer := by
  unfold State.writeReg
  try dsimp only
  try (repeat' split)
  all_goals (first | (simp (maxDischargeDepth := 30); done) | (try simp_all (maxDischargeDepth := 30)))
@[simp] theorem State.regWrite_outer (s : State) (fn : Nat) (ty : Nat) (inst : Nat) (off : Nat) (val : Nat)  :
    (State.regWrite s fn ty inst off val).outer = s.outer := by
  unfold State.regWrite
  try dsimp only
  try (repeat' split)
  all_goals (first | (simp (maxDischargeDepth := 30); done) | (try simp_all (maxDischargeDepth := 30)))
@[simp] theorem State.broadcast_outer (s : State) (fn : Nat) (ty : Nat) (inst : Nat) (off : Nat) (val : Nat)  :
    (State.broadcast s fn ty inst off val).outer = s.outer := by
  unfold State.broadcast
  try dsimp only
  try (repeat' split)
  all_goals (first | (simp (maxDischargeDepth := 30); done) | (try simp_all (maxDischargeDepth := 30)))
@[simp] theorem State.badWidth_outer (s : State) (fn : Nat) (a : Nat) (write : Bool)  :
    (State.badWidth s fn a write).outer = s.outer := by
  unfold State.badWidth
  try dsimp only
  try (repeat' split)
  all_goals (first | (simp (maxDischargeDepth := 30); done) | (try simp_all (maxDischargeDepth := 30)))
@[simp] theorem State.wordWrite_outer (s : State) (fn : Nat) (a : Nat) (val : Nat)  :
    (State.wordWrite s fn a val).outer = s.outer := by
  unfold State.wordWrite
  try dsimp only
  try (repeat' split)
  all_goals (first | (simp (maxDischargeDepth := 30); done) | (try simp_all (maxDischargeDepth := 30)))
@[simp] theorem State.winWrite_outer (s : State) (fn : Nat) (a : Nat) (be : Nat) (val : Nat)  :
    (State.winWrite s fn a be val).outer = s.outer := by
  unfold State.winWrite
  try dsimp only
  try (repeat' split)
  all_goals (first | (simp (maxDischargeDepth := 30); done) | (try simp_all (maxDischargeDepth := 30)))
@[simp] theorem State.wordRead_outer (s : State) (fn : Nat) (a : Nat)  :
    (State.wordRead s fn a).outer = s.outer := by
  unfold State.wordRead
  try dsimp only
  try (repeat' split)
  all_goals (first | (simp (maxDischargeDepth := 30); done) | (try simp_all (maxDischargeDepth := 30)))
@[simp] theorem State.winRead_outer (s : State) (fn : Nat) (a : Nat) (be : Nat)  :
    (State.winRead s fn a be).outer = s.outer := by
  unfold State.winRead
  try dsimp only
  try (repeat' split)
  all_goals (first | (simp (maxDischargeDepth := 30); done) | (try simp_all (maxDischargeDepth := 30)))

end Sys2Proof.Machine
end

