-- ==== Sys2Proof/Laws/OuterBind.lean ====
section
/-! SUPPORT. Operations of Bind keep what `State.outer` reads. -/

namespace Sys2Proof.Machine

@[simp] theorem State.setupWrite_outer (s : State) (st : Nat) (ty : Nat) (ch : Nat) (off : Nat) (val : Nat)  :
    (State.setupWrite s st ty ch off val).1.outer = s.outer := by
  unfold State.setupWrite
  try dsimp only
  try (repeat' split)
  all_goals (first | (simp (maxDischargeDepth := 30); done) | (try simp_all (maxDischargeDepth := 30)))
@[simp] theorem State.setupAll_outer (s : State) (st : Nat) (m : List Nat) (pins i : Nat)
    (l : List (Nat × Nat × Nat × Nat)) : (s.setupAll st m pins i l).1.outer = s.outer := by
  induction l generalizing s i with
  | nil => rfl
  | cons p t ih =>
    obtain ⟨ty, pin, off, val⟩ := p
    unfold State.setupAll
    dsimp only
    have h := State.setupWrite_outer s st ty (m.getD pin 0) off val
    split
    · rfl
    · split
      · exact (ih _ _).trans h
      · exact h
@[simp] theorem State.bind_outer (s : State) (d : Doe)  :
    (State.bind s d).outer = s.outer := by
  unfold State.bind
  try dsimp only
  try (repeat' split)
  all_goals (first | (simp (maxDischargeDepth := 30); done) | (try simp_all (maxDischargeDepth := 30)))

end Sys2Proof.Machine
end

