-- ==== Sys2Proof/Laws/OuterMailbox.lean ====
section
/-! SUPPORT. Operations of Mailbox keep what `State.outer` reads, one law each. -/

namespace Sys2Proof.Machine

@[simp] theorem State.doeServe_outer (s : State) (d : Doe)  :
    (State.doeServe s d).outer = s.outer := by
  unfold State.doeServe
  try dsimp only
  try (repeat' split)
  all_goals (first | (simp (maxDischargeDepth := 30); done) | (try simp_all (maxDischargeDepth := 30)))
@[simp] theorem State.loadResume_outer (s : State) (d : Doe)  :
    (State.loadResume s d).outer = s.outer := by
  unfold State.loadResume
  try dsimp only
  try (repeat' split)
  all_goals (first | (simp (maxDischargeDepth := 30); done) | (try simp_all (maxDischargeDepth := 30)))
@[simp] theorem State.doeResume_outer (s : State) (d : Doe)  :
    (State.doeResume s d).outer = s.outer := by
  unfold State.doeResume
  try dsimp only
  try (repeat' split)
  all_goals (first | (simp (maxDischargeDepth := 30); done) | (try simp_all (maxDischargeDepth := 30)))
@[simp] theorem State.doeNext_outer (s : State)  :
    (State.doeNext s).outer = s.outer := by
  unfold State.doeNext
  try dsimp only
  try (repeat' split)
  all_goals (first | (simp (maxDischargeDepth := 30); done) | (try simp_all (maxDischargeDepth := 30)))

end Sys2Proof.Machine
end

