-- ==== Sys2Proof/Laws/OuterExec1.lean ====
section
/-! SUPPORT. Commands keep what `State.outer` reads, one law each. -/

namespace Sys2Proof.Machine

theorem outer_of_onUnit {b : Bool} {s u t : State} (h : onUnit b u = .next t) (hu : u.outer = s.outer) :
    t.outer = s.outer := by
  cases b <;> simp [onUnit] at h; subst h; exact hu

theorem outer_of_next {s u t : State} (h : (.next u : Host.Outcome State Fault Refusal) = .next t)
    (hu : u.outer = s.outer) : t.outer = s.outer := by
  cases h; exact hu

theorem State.onSpdm_outer (path : Nat) (early : Bool) (act : State → State) (s : State) {t : State}
    (ha : ∀ u, (act u).outer = u.outer) (h : s.onSpdm path early act = .next t) : t.outer = s.outer := by
  unfold State.onSpdm at h
  refine outer_of_onUnit h ?_
  split
  · exact ha _
  · rfl

theorem execDoorbellTail_outer (fn : Nat) (q : Nat) (index : Nat) (s : State) {t : State}
    (h : execDoorbellTail fn q index s = .next t) : t.outer = s.outer := by
  unfold execDoorbellTail at h
  refine outer_of_onUnit h ?_
  clear h
  try dsimp only
  try (repeat' split)
  all_goals (first | (simp (maxDischargeDepth := 30); done) | (try simp_all (maxDischargeDepth := 30)))
theorem execDoorbellHead_outer (fn : Nat) (q : Nat) (index : Nat) (s : State) {t : State}
    (h : execDoorbellHead fn q index s = .next t) : t.outer = s.outer := by
  unfold execDoorbellHead at h
  refine outer_of_onUnit h ?_
  clear h
  try dsimp only
  try (repeat' split)
  all_goals (first | (simp (maxDischargeDepth := 30); done) | (try simp_all (maxDischargeDepth := 30)))
theorem execDoorbellRelease_outer (fn : Nat) (db : Nat) (s : State) {t : State}
    (h : execDoorbellRelease fn db s = .next t) : t.outer = s.outer := by
  unfold execDoorbellRelease at h
  refine outer_of_onUnit h ?_
  clear h
  try dsimp only
  try (repeat' split)
  all_goals (first | (simp (maxDischargeDepth := 30); done) | (try simp_all (maxDischargeDepth := 30)))
theorem execPushSelWrite_outer (fn : Nat) (a : BarAccess) (s : State) {t : State}
    (h : execPushSelWrite fn a s = .next t) : t.outer = s.outer := by
  unfold execPushSelWrite at h
  refine outer_of_onUnit h ?_
  clear h
  try dsimp only
  try (repeat' split)
  all_goals (first | (simp (maxDischargeDepth := 30); done) | (try simp_all (maxDischargeDepth := 30)))
theorem execPushWrite_outer (fn : Nat) (off : Nat) (data : List Byte) (s : State) {t : State}
    (h : execPushWrite fn off data s = .next t) : t.outer = s.outer := by
  unfold execPushWrite at h
  refine outer_of_onUnit h ?_
  clear h
  try dsimp only
  try (repeat' split)
  all_goals (first | (simp (maxDischargeDepth := 30); done) | (try simp_all (maxDischargeDepth := 30)))
theorem execDescRead_outer (fn : Nat) (s : State) {t : State}
    (h : execDescRead fn s = .next t) : t.outer = s.outer := by
  unfold execDescRead at h
  refine outer_of_onUnit h ?_
  clear h
  try dsimp only
  try (repeat' split)
  all_goals (first | (simp (maxDischargeDepth := 30); done) | (try simp_all (maxDischargeDepth := 30)))
theorem execDescWrite_outer (fn : Nat) (s : State) {t : State}
    (h : execDescWrite fn s = .next t) : t.outer = s.outer := by
  unfold execDescWrite at h
  refine outer_of_onUnit h ?_
  clear h
  try dsimp only
  try (repeat' split)
  all_goals (first | (simp (maxDischargeDepth := 30); done) | (try simp_all (maxDischargeDepth := 30)))
theorem execHeldCompletionPost_outer (fn : Nat) (s : State) {t : State}
    (h : execHeldCompletionPost fn s = .next t) : t.outer = s.outer := by
  unfold execHeldCompletionPost at h
  refine outer_of_onUnit h ?_
  clear h
  try dsimp only
  try (repeat' split)
  all_goals (first | (simp (maxDischargeDepth := 30); done) | (try simp_all (maxDischargeDepth := 30)))
theorem execLogLostEntry_outer (st : Nat) (s : State) {t : State}
    (h : execLogLostEntry st s = .next t) : t.outer = s.outer := by
  unfold execLogLostEntry at h
  refine outer_of_onUnit h ?_
  clear h
  try dsimp only
  try (repeat' split)
  all_goals (first | (simp (maxDischargeDepth := 30); done) | (try simp_all (maxDischargeDepth := 30)))
theorem execPeCtrlWrite_outer (fn : Nat) (ch : Nat) (val : Nat) (s : State) {t : State}
    (h : execPeCtrlWrite fn ch val s = .next t) : t.outer = s.outer := by
  unfold execPeCtrlWrite at h
  refine outer_of_onUnit h ?_
  clear h
  try dsimp only
  try (repeat' split)
  all_goals (first | (simp (maxDischargeDepth := 30); done) | (try simp_all (maxDischargeDepth := 30)))
theorem execDriverRangeDone_outer (ch : Nat) (s : State) {t : State}
    (h : execDriverRangeDone ch s = .next t) : t.outer = s.outer := by
  unfold execDriverRangeDone at h
  refine outer_of_onUnit h ?_
  clear h
  try dsimp only
  try (repeat' split)
  all_goals (first | (simp (maxDischargeDepth := 30); done) | (try simp_all (maxDischargeDepth := 30)))
theorem execPePmuCtrlWrite_outer (fn : Nat) (ch : Nat) (val : Nat) (s : State) {t : State}
    (h : execPePmuCtrlWrite fn ch val s = .next t) : t.outer = s.outer := by
  unfold execPePmuCtrlWrite at h
  refine outer_of_onUnit h ?_
  clear h
  try dsimp only
  try (repeat' split)
  all_goals (first | (simp (maxDischargeDepth := 30); done) | (try simp_all (maxDischargeDepth := 30)))
theorem execPePmuRangeWrite_outer (fn : Nat) (ch : Nat) (val : Nat) (s : State) {t : State}
    (h : execPePmuRangeWrite fn ch val s = .next t) : t.outer = s.outer := by
  unfold execPePmuRangeWrite at h
  refine outer_of_onUnit h ?_
  clear h
  try dsimp only
  try (repeat' split)
  all_goals (first | (simp (maxDischargeDepth := 30); done) | (try simp_all (maxDischargeDepth := 30)))
theorem execPmuOldStageOpen_outer (ch : Nat) (s : State) {t : State}
    (h : execPmuOldStageOpen ch s = .next t) : t.outer = s.outer := by
  unfold execPmuOldStageOpen at h
  refine outer_of_onUnit h ?_
  clear h
  try dsimp only
  try (repeat' split)
  all_goals (first | (simp (maxDischargeDepth := 30); done) | (try simp_all (maxDischargeDepth := 30)))
theorem execPmuRangeDone_outer (ch : Nat) (s : State) {t : State}
    (h : execPmuRangeDone ch s = .next t) : t.outer = s.outer := by
  unfold execPmuRangeDone at h
  refine outer_of_onUnit h ?_
  clear h
  try dsimp only
  try (repeat' split)
  all_goals (first | (simp (maxDischargeDepth := 30); done) | (try simp_all (maxDischargeDepth := 30)))
theorem execPmuSenseFallback_outer (ch : Nat) (s : State) {t : State}
    (h : execPmuSenseFallback ch s = .next t) : t.outer = s.outer := by
  unfold execPmuSenseFallback at h
  refine outer_of_onUnit h ?_
  clear h
  try dsimp only
  try (repeat' split)
  all_goals (first | (simp (maxDischargeDepth := 30); done) | (try simp_all (maxDischargeDepth := 30)))
theorem execPmuCompliance_outer (ch : Nat) (x : Int) (s : State) {t : State}
    (h : execPmuCompliance ch x s = .next t) : t.outer = s.outer := by
  unfold execPmuCompliance at h
  refine outer_of_onUnit h ?_
  clear h
  try dsimp only
  try (repeat' split)
  all_goals (first | (simp (maxDischargeDepth := 30); done) | (try simp_all (maxDischargeDepth := 30)))
theorem execClampConduct_outer (ch : Nat) (high : Bool) (on : Bool) (s : State) {t : State}
    (h : execClampConduct ch high on s = .next t) : t.outer = s.outer := by
  unfold execClampConduct at h
  refine outer_of_onUnit h ?_
  clear h
  try dsimp only
  try (repeat' split)
  all_goals (first | (simp (maxDischargeDepth := 30); done) | (try simp_all (maxDischargeDepth := 30)))
theorem execProtClampConduct_outer (ch : Nat) (high : Bool) (s : State) {t : State}
    (h : execProtClampConduct ch high s = .next t) : t.outer = s.outer := by
  unfold execProtClampConduct at h
  refine outer_of_onUnit h ?_
  clear h
  try dsimp only
  try (repeat' split)
  all_goals (first | (simp (maxDischargeDepth := 30); done) | (try simp_all (maxDischargeDepth := 30)))
theorem execContactTestStart_outer (fn : Nat) (ch : Nat) (pol : Nat) (cur : Nat) (s : State) {t : State}
    (h : execContactTestStart fn ch pol cur s = .next t) : t.outer = s.outer := by
  unfold execContactTestStart at h
  refine outer_of_onUnit h ?_
  clear h
  try dsimp only
  try (repeat' split)
  all_goals (first | (simp (maxDischargeDepth := 30); done) | (try simp_all (maxDischargeDepth := 30)))
theorem execContactTestDone_outer (ch : Nat) (mv : Int) (s : State) {t : State}
    (h : execContactTestDone ch mv s = .next t) : t.outer = s.outer := by
  unfold execContactTestDone at h
  refine outer_of_onUnit h ?_
  clear h
  try dsimp only
  try (repeat' split)
  all_goals (first | (simp (maxDischargeDepth := 30); done) | (try simp_all (maxDischargeDepth := 30)))
theorem execLvlDacWrite_outer (fn : Nat) (ch : Nat) (d : Nat) (val : Nat) (s : State) {t : State}
    (h : execLvlDacWrite fn ch d val s = .next t) : t.outer = s.outer := by
  unfold execLvlDacWrite at h
  refine outer_of_onUnit h ?_
  clear h
  try dsimp only
  try (repeat' split)
  all_goals (first | (simp (maxDischargeDepth := 30); done) | (try simp_all (maxDischargeDepth := 30)))
theorem execLvlQueuePush_outer (fn : Nat) (ch : Nat) (val : Nat) (s : State) {t : State}
    (h : execLvlQueuePush fn ch val s = .next t) : t.outer = s.outer := by
  unfold execLvlQueuePush at h
  refine outer_of_onUnit h ?_
  clear h
  try dsimp only
  try (repeat' split)
  all_goals (first | (simp (maxDischargeDepth := 30); done) | (try simp_all (maxDischargeDepth := 30)))
theorem execLvlQueueFlush_outer (fn : Nat) (ch : Nat) (s : State) {t : State}
    (h : execLvlQueueFlush fn ch s = .next t) : t.outer = s.outer := by
  unfold execLvlQueueFlush at h
  refine outer_of_onUnit h ?_
  clear h
  try dsimp only
  try (repeat' split)
  all_goals (first | (simp (maxDischargeDepth := 30); done) | (try simp_all (maxDischargeDepth := 30)))
theorem execLvlEntryArrive_outer (ch : Nat) (s : State) {t : State}
    (h : execLvlEntryArrive ch s = .next t) : t.outer = s.outer := by
  unfold execLvlEntryArrive at h
  refine outer_of_onUnit h ?_
  clear h
  try dsimp only
  try (repeat' split)
  all_goals (first | (simp (maxDischargeDepth := 30); done) | (try simp_all (maxDischargeDepth := 30)))
theorem execTgPeriodCommit_outer (fn : Nat) (ch : Nat) (val : Nat) (s : State) {t : State}
    (h : execTgPeriodCommit fn ch val s = .next t) : t.outer = s.outer := by
  unfold execTgPeriodCommit at h
  refine outer_of_onUnit h ?_
  clear h
  try dsimp only
  try (repeat' split)
  all_goals (first | (simp (maxDischargeDepth := 30); done) | (try simp_all (maxDischargeDepth := 30)))
theorem execTgSymmapCommit_outer (fn : Nat) (ch : Nat) (val : Nat) (s : State) {t : State}
    (h : execTgSymmapCommit fn ch val s = .next t) : t.outer = s.outer := by
  unfold execTgSymmapCommit at h
  refine outer_of_onUnit h ?_
  clear h
  try dsimp only
  try (repeat' split)
  all_goals (first | (simp (maxDischargeDepth := 30); done) | (try simp_all (maxDischargeDepth := 30)))
theorem execTimesetWrite_outer (fn ch k edge val : Nat) (s : State) {t : State}
    (h : execTimesetWrite fn ch k edge val s = .next t) : t.outer = s.outer := by
  unfold execTimesetWrite at h
  unfold onUnit at h
  split at h
  · split at h
    · simp at h; subst h; simp
    · simp at h; subst h; simp
  · cases h
theorem execFreerunStart_outer (fn : Nat) (ch : Nat) (ts : Nat) (sym : Nat) (s : State) {t : State}
    (h : execFreerunStart fn ch ts sym s = .next t) : t.outer = s.outer := by
  unfold execFreerunStart at h
  refine outer_of_onUnit h ?_
  clear h
  try dsimp only
  try (repeat' split)
  all_goals (first | (simp (maxDischargeDepth := 30); done) | (try simp_all (maxDischargeDepth := 30)))
theorem execFreerunStop_outer (fn : Nat) (ch : Nat) (ts : Nat) (sym : Nat) (s : State) {t : State}
    (h : execFreerunStop fn ch ts sym s = .next t) : t.outer = s.outer := by
  unfold execFreerunStop at h
  refine outer_of_onUnit h ?_
  clear h
  try dsimp only
  try (repeat' split)
  all_goals (first | (simp (maxDischargeDepth := 30); done) | (try simp_all (maxDischargeDepth := 30)))
theorem execUiStart_outer (ch : Nat) (s : State) {t : State}
    (h : execUiStart ch s = .next t) : t.outer = s.outer := by
  unfold execUiStart at h
  refine outer_of_onUnit h ?_
  clear h
  try dsimp only
  try (repeat' split)
  all_goals (first | (simp (maxDischargeDepth := 30); done) | (try simp_all (maxDischargeDepth := 30)))
theorem execEdgeApply_outer (ch : Nat) (s : State) {t : State}
    (h : execEdgeApply ch s = .next t) : t.outer = s.outer := by
  unfold execEdgeApply at h
  refine outer_of_onUnit h ?_
  clear h
  try dsimp only
  try (repeat' split)
  all_goals (first | (simp (maxDischargeDepth := 30); done) | (try simp_all (maxDischargeDepth := 30)))
theorem execBlockArrive_outer (ch : Nat) (s : State) {t : State}
    (h : execBlockArrive ch s = .next t) : t.outer = s.outer := by
  unfold execBlockArrive at h
  refine outer_of_onUnit h ?_
  clear h
  split
  · rfl
  · exact (State.takeBlock_outer _ _ _).trans ((when_outer _ _ _
      (fun t => when_outer _ _ _ (fun u => State.histFeed_outer _ _ _ _))).trans (by simp))
theorem execBlockRelease_outer (ch : Nat) (s : State) {t : State}
    (h : execBlockRelease ch s = .next t) : t.outer = s.outer := by
  unfold execBlockRelease at h
  refine outer_of_onUnit h ?_
  clear h
  try dsimp only
  try (repeat' split)
  all_goals (first | (simp (maxDischargeDepth := 30); done) | (try simp_all (maxDischargeDepth := 30)))
theorem execCompareEvent_outer (ch : Nat) (s : State) {t : State}
    (h : execCompareEvent ch s = .next t) : t.outer = s.outer := by
  unfold execCompareEvent at h
  refine outer_of_onUnit h ?_
  clear h
  try dsimp only
  try (repeat' split)
  all_goals (first | (simp (maxDischargeDepth := 30); done) | (try simp_all (maxDischargeDepth := 30)))
theorem execFcuPSizeWrite_outer (fn : Nat) (r : Nat) (st : Nat) (val : Nat) (s : State) {t : State}
    (h : execFcuPSizeWrite fn r st val s = .next t) : t.outer = s.outer := by
  unfold execFcuPSizeWrite at h
  refine outer_of_onUnit h ?_
  clear h
  try dsimp only
  try (repeat' split)
  all_goals (first | (simp (maxDischargeDepth := 30); done) | (try simp_all (maxDischargeDepth := 30)))
theorem execFcuPCtrlWrite_outer (fn : Nat) (r : Nat) (st : Nat) (val : Nat) (s : State) {t : State}
    (h : execFcuPCtrlWrite fn r st val s = .next t) : t.outer = s.outer := by
  unfold execFcuPCtrlWrite at h
  refine outer_of_onUnit h ?_
  clear h
  try dsimp only
  try (repeat' split)
  all_goals (first | (simp (maxDischargeDepth := 30); done) | (try simp_all (maxDischargeDepth := 30)))
theorem execBurstRunEntry_outer (st : Nat) (s : State) {t : State}
    (h : execBurstRunEntry st s = .next t) : t.outer = s.outer := by
  unfold execBurstRunEntry at h
  refine outer_of_onUnit h ?_
  clear h
  try dsimp only
  try (repeat' split)
  all_goals (first | (simp (maxDischargeDepth := 30); done) | (try simp_all (maxDischargeDepth := 30)))
theorem execBurstDrainEntry_outer (st : Nat) (s : State) {t : State}
    (h : execBurstDrainEntry st s = .next t) : t.outer = s.outer := by
  unfold execBurstDrainEntry at h
  refine outer_of_onUnit h ?_
  clear h
  try dsimp only
  try (repeat' split)
  all_goals (first | (simp (maxDischargeDepth := 30); done) | (try simp_all (maxDischargeDepth := 30)))
theorem execStopDrainEntry_outer (st : Nat) (s : State) {t : State}
    (h : execStopDrainEntry st s = .next t) : t.outer = s.outer := by
  unfold execStopDrainEntry at h
  refine outer_of_onUnit h ?_
  clear h
  try dsimp only
  try (repeat' split)
  all_goals (first | (simp (maxDischargeDepth := 30); done) | (try simp_all (maxDischargeDepth := 30)))
theorem execBurstIdleEntry_outer (st : Nat) (s : State) {t : State}
    (h : execBurstIdleEntry st s = .next t) : t.outer = s.outer := by
  unfold execBurstIdleEntry at h
  refine outer_of_onUnit h ?_
  clear h
  try dsimp only
  try (repeat' split)
  all_goals (first | (simp (maxDischargeDepth := 30); done) | (try simp_all (maxDischargeDepth := 30)))
theorem execFcuRecordClose_outer (r : Nat) (segId : Nat) (seq : Nat) (s : State) {t : State}
    (h : execFcuRecordClose r segId seq s = .next t) : t.outer = s.outer := by
  unfold execFcuRecordClose at h
  refine outer_of_onUnit h ?_
  clear h
  try dsimp only
  try (repeat' split)
  all_goals (first | (simp (maxDischargeDepth := 30); done) | (try simp_all (maxDischargeDepth := 30)))
theorem execFcuRecordMove_outer (r st : Nat) (s : State) {t : State}
    (h : execFcuRecordMove r st s = .next t) : t.outer = s.outer := by
  unfold execFcuRecordMove at h
  refine outer_of_onUnit h (State.moveRecord_outer _ _ _ _ (fun u q rec => ?_))
  split <;> simp
theorem execMadcStart_outer (fn : Nat) (k : Nat) (s : State) {t : State}
    (h : execMadcStart fn k s = .next t) : t.outer = s.outer := by
  unfold execMadcStart at h
  refine outer_of_onUnit h ?_
  clear h
  try dsimp only
  try (repeat' split)
  all_goals (first | (simp (maxDischargeDepth := 30); done) | (try simp_all (maxDischargeDepth := 30)))
theorem execMadcRunStart_outer (fn : Nat) (k : Nat) (spare : Nat) (mon : Nat) (s : State) {t : State}
    (h : execMadcRunStart fn k spare mon s = .next t) : t.outer = s.outer := by
  unfold execMadcRunStart at h
  refine outer_of_onUnit h ?_
  clear h
  try dsimp only
  try (repeat' split)
  all_goals (first | (simp (maxDischargeDepth := 30); done) | (try simp_all (maxDischargeDepth := 30)))
theorem execMadcRunStop_outer (fn : Nat) (k : Nat) (spare : Nat) (mon : Nat) (s : State) {t : State}
    (h : execMadcRunStop fn k spare mon s = .next t) : t.outer = s.outer := by
  unfold execMadcRunStop at h
  refine outer_of_onUnit h ?_
  clear h
  try dsimp only
  try (repeat' split)
  all_goals (first | (simp (maxDischargeDepth := 30); done) | (try simp_all (maxDischargeDepth := 30)))
theorem execMadcPeriodicTrigger_outer (k : Nat) (s : State) {t : State}
    (h : execMadcPeriodicTrigger k s = .next t) : t.outer = s.outer := by
  unfold execMadcPeriodicTrigger at h
  refine outer_of_onUnit h ?_
  clear h
  try dsimp only
  try (repeat' split)
  all_goals (first | (simp (maxDischargeDepth := 30); done) | (try simp_all (maxDischargeDepth := 30)))
theorem execMadcRecordMove_outer (k : Nat) (s : State) {t : State}
    (h : execMadcRecordMove k s = .next t) : t.outer = s.outer := by
  unfold execMadcRecordMove at h
  refine outer_of_onUnit h ?_
  clear h
  try dsimp only
  try (repeat' split)
  all_goals (first | (simp (maxDischargeDepth := 30); done) | (try simp_all (maxDischargeDepth := 30)))
theorem execAcqRecordArrive_outer (k : Nat) (s : State) {t : State}
    (h : execAcqRecordArrive k s = .next t) : t.outer = s.outer := by
  unfold execAcqRecordArrive at h
  refine outer_of_onUnit h ?_
  clear h
  try dsimp only
  try (repeat' split)
  all_goals (first | (simp (maxDischargeDepth := 30); done) | (try simp_all (maxDischargeDepth := 30)))
theorem execAcqTriggerDeclare_outer (k : Nat) (s : State) {t : State}
    (h : execAcqTriggerDeclare k s = .next t) : t.outer = s.outer := by
  unfold execAcqTriggerDeclare at h
  refine outer_of_onUnit h ?_
  clear h
  try dsimp only
  try (repeat' split)
  all_goals (first | (simp (maxDischargeDepth := 30); done) | (try simp_all (maxDischargeDepth := 30)))
theorem execAcqArm_outer (fn : Nat) (k : Nat) (s : State) {t : State}
    (h : execAcqArm fn k s = .next t) : t.outer = s.outer := by
  unfold execAcqArm at h
  refine outer_of_onUnit h ?_
  clear h
  try dsimp only
  try (repeat' split)
  all_goals (first | (simp (maxDischargeDepth := 30); done) | (try simp_all (maxDischargeDepth := 30)))
theorem execAcqDisarm_outer (fn : Nat) (k : Nat) (s : State) {t : State}
    (h : execAcqDisarm fn k s = .next t) : t.outer = s.outer := by
  unfold execAcqDisarm at h
  refine outer_of_onUnit h ?_
  clear h
  try dsimp only
  try (repeat' split)
  all_goals (first | (simp (maxDischargeDepth := 30); done) | (try simp_all (maxDischargeDepth := 30)))
theorem execAcqForce_outer (fn : Nat) (k : Nat) (s : State) {t : State}
    (h : execAcqForce fn k s = .next t) : t.outer = s.outer := by
  unfold execAcqForce at h
  refine outer_of_onUnit h ?_
  clear h
  try dsimp only
  try (repeat' split)
  all_goals (first | (simp (maxDischargeDepth := 30); done) | (try simp_all (maxDischargeDepth := 30)))
theorem execAcqLive_outer (k : Nat) (s : State) {t : State} (h : execAcqLive k s = .next t) : t.outer = s.outer := by
  unfold execAcqLive at h
  refine outer_of_onUnit h ?_
  clear h
  try dsimp only
  try (repeat' split)
  all_goals (first | (simp (maxDischargeDepth := 30); done) | (try simp_all (maxDischargeDepth := 30)))
theorem execAcqRunStart_outer (fn : Nat) (k : Nat) (s : State) {t : State}
    (h : execAcqRunStart fn k s = .next t) : t.outer = s.outer := by
  unfold execAcqRunStart at h
  refine outer_of_onUnit h ?_
  clear h
  try dsimp only
  try (repeat' split)
  all_goals (first | (simp (maxDischargeDepth := 30); done) | (try simp_all (maxDischargeDepth := 30)))
theorem execAcqRunStop_outer (fn : Nat) (k : Nat) (s : State) {t : State}
    (h : execAcqRunStop fn k s = .next t) : t.outer = s.outer := by
  unfold execAcqRunStop at h
  refine outer_of_onUnit h ?_
  clear h
  try dsimp only
  try (repeat' split)
  all_goals (first | (simp (maxDischargeDepth := 30); done) | (try simp_all (maxDischargeDepth := 30)))
theorem execAcqRingMove_outer (k : Nat) (s : State) {t : State}
    (h : execAcqRingMove k s = .next t) : t.outer = s.outer := by
  unfold execAcqRingMove at h
  refine outer_of_onUnit h ?_
  clear h
  try dsimp only
  try (repeat' split)
  all_goals (first | (simp (maxDischargeDepth := 30); done) | (try simp_all (maxDischargeDepth := 30)))
theorem execAcqCaptureDone_outer (k : Nat) (s : State) {t : State}
    (h : execAcqCaptureDone k s = .next t) : t.outer = s.outer := by
  unfold execAcqCaptureDone at h
  refine outer_of_onUnit h ?_
  clear h
  try dsimp only
  try (repeat' split)
  all_goals (first | (simp (maxDischargeDepth := 30); done) | (try simp_all (maxDischargeDepth := 30)))
theorem execAcqStreamStopped_outer (k : Nat) (s : State) {t : State}
    (h : execAcqStreamStopped k s = .next t) : t.outer = s.outer := by
  unfold execAcqStreamStopped at h
  refine outer_of_onUnit h ?_
  clear h
  try dsimp only
  try (repeat' split)
  all_goals (first | (simp (maxDischargeDepth := 30); done) | (try simp_all (maxDischargeDepth := 30)))
theorem execAcqBurstFlush_outer (st : Nat) (s : State) {t : State}
    (h : execAcqBurstFlush st s = .next t) : t.outer = s.outer := by
  unfold execAcqBurstFlush at h
  refine outer_of_onUnit h ?_
  clear h
  try dsimp only
  try (repeat' split)
  all_goals (first | (simp (maxDischargeDepth := 30); done) | (try simp_all (maxDischargeDepth := 30)))
theorem execHizSequenceDone_outer (ch : Nat) (s : State) {t : State}
    (h : execHizSequenceDone ch s = .next t) : t.outer = s.outer := by
  unfold execHizSequenceDone at h
  refine outer_of_onUnit h ?_
  clear h
  try dsimp only
  try (repeat' split)
  all_goals (first | (simp (maxDischargeDepth := 30); done) | (try simp_all (maxDischargeDepth := 30)))
theorem execAnalogLinkWatchdog_outer (die : Nat) (s : State) {t : State}
    (h : execAnalogLinkWatchdog die s = .next t) : t.outer = s.outer := by
  unfold execAnalogLinkWatchdog at h
  refine outer_of_onUnit h ?_
  clear h
  try dsimp only
  try (repeat' split)
  all_goals (first | (simp (maxDischargeDepth := 30); done) | (try simp_all (maxDischargeDepth := 30)))
theorem execModeReqSafe_outer (fn : Nat) (force : Bool) (s : State) {t : State}
    (h : execModeReqSafe fn force s = .next t) : t.outer = s.outer := by
  unfold execModeReqSafe at h
  refine outer_of_onUnit h ?_
  clear h
  try dsimp only
  try (repeat' split)
  all_goals (first | (simp (maxDischargeDepth := 30); done) | (try simp_all (maxDischargeDepth := 30)))
theorem execModeReqReady_outer (fn : Nat) (force : Bool) (s : State) {t : State}
    (h : execModeReqReady fn force s = .next t) : t.outer = s.outer := by
  unfold execModeReqReady at h
  refine outer_of_onUnit h ?_
  clear h
  try dsimp only
  try (repeat' split)
  all_goals (first | (simp (maxDischargeDepth := 30); done) | (try simp_all (maxDischargeDepth := 30)))
theorem execModeReqCal_outer (fn : Nat) (s : State) {t : State}
    (h : execModeReqCal fn s = .next t) : t.outer = s.outer := by
  unfold execModeReqCal at h
  refine outer_of_onUnit h ?_
  clear h
  try dsimp only
  try (repeat' split)
  all_goals (first | (simp (maxDischargeDepth := 30); done) | (try simp_all (maxDischargeDepth := 30)))
theorem execModeReqRun_outer (fn : Nat) (s : State) {t : State}
    (h : execModeReqRun fn s = .next t) : t.outer = s.outer := by
  unfold execModeReqRun at h
  refine outer_of_onUnit h ?_
  clear h
  try dsimp only
  try (repeat' split)
  all_goals (first | (simp (maxDischargeDepth := 30); done) | (try simp_all (maxDischargeDepth := 30)))
theorem execModeReqService_outer (fn : Nat) (s : State) {t : State}
    (h : execModeReqService fn s = .next t) : t.outer = s.outer := by
  unfold execModeReqService at h
  refine outer_of_onUnit h ?_
  clear h
  try dsimp only
  try (repeat' split)
  all_goals (first | (simp (maxDischargeDepth := 30); done) | (try simp_all (maxDischargeDepth := 30)))
theorem execModeReqIllegal_outer (fn : Nat) (val : Nat) (s : State) {t : State}
    (h : execModeReqIllegal fn val s = .next t) : t.outer = s.outer := by
  unfold execModeReqIllegal at h
  refine outer_of_onUnit h ?_
  clear h
  try dsimp only
  try (repeat' split)
  all_goals (first | (simp (maxDischargeDepth := 30); done) | (try simp_all (maxDischargeDepth := 30)))
theorem execModeTransitionDone_outer (s : State) {t : State}
    (h : execModeTransitionDone s = .next t) : t.outer = s.outer := by
  unfold execModeTransitionDone at h
  refine outer_of_next h ?_
  clear h
  try dsimp only
  try (repeat' split)
  all_goals (first | (simp (maxDischargeDepth := 30); done) | (try simp_all (maxDischargeDepth := 30)))
theorem execBootReady_outer (s : State) {t : State} (h : execBootReady s = .next t) : t.outer = s.outer := by
  unfold execBootReady at h
  refine outer_of_next h ?_
  clear h
  try dsimp only
  try (repeat' split)
  all_goals (first | (simp (maxDischargeDepth := 30); done) | (try simp_all (maxDischargeDepth := 30)))
theorem execWarmupSample_outer (s : State) {t : State} (h : execWarmupSample s = .next t) : t.outer = s.outer := by
  unfold execWarmupSample at h
  refine outer_of_next h ?_
  clear h
  try dsimp only
  try (repeat' split)
  all_goals (first | (simp (maxDischargeDepth := 30); done) | (try simp_all (maxDischargeDepth := 30)))
theorem execWarmupTimeout_outer (s : State) {t : State} (h : execWarmupTimeout s = .next t) : t.outer = s.outer := by
  unfold execWarmupTimeout at h
  refine outer_of_next h ?_
  clear h
  try dsimp only
  try (repeat' split)
  all_goals (first | (simp (maxDischargeDepth := 30); done) | (try simp_all (maxDischargeDepth := 30)))
theorem execPerstAssert_outer (s : State) {t : State} (h : execPerstAssert s = .next t) : t.outer = s.outer := by
  unfold execPerstAssert at h
  refine outer_of_next h ?_
  clear h
  try dsimp only
  split
  · rw [State.endpointReset_outer, State.endpointReset_outer]; rfl
  · rw [State.endpointReset_outer]; rfl
theorem execPcieLinkDown_outer (e : Nat) (s : State) {t : State}
    (h : execPcieLinkDown e s = .next t) : t.outer = s.outer := by
  unfold execPcieLinkDown at h
  refine outer_of_onUnit h ?_
  rw [State.endpointReset_outer]
  split <;> rfl
theorem execPcieLinkUp_outer (e : Nat) (s : State) {t : State}
    (h : execPcieLinkUp e s = .next t) : t.outer = s.outer := by
  unfold execPcieLinkUp at h
  refine outer_of_onUnit h ?_
  (repeat' split) <;> rfl
theorem execFunctionReset_outer (fn : Nat) (how : Nat) (s : State) {t : State}
    (h : execFunctionReset fn how s = .next t) : t.outer = s.outer := by
  unfold execFunctionReset at h
  refine outer_of_onUnit h ?_
  clear h
  try dsimp only
  try (repeat' split)
  all_goals (first | (simp (maxDischargeDepth := 30); done) | (try simp_all (maxDischargeDepth := 30)))
theorem execFunctionResetDone_outer (fn : Nat) (s : State) {t : State}
    (h : execFunctionResetDone fn s = .next t) : t.outer = s.outer := by
  unfold execFunctionResetDone at h
  refine outer_of_onUnit h ?_
  clear h
  try dsimp only
  try (repeat' split)
  all_goals (first | (simp (maxDischargeDepth := 30); done) | (try simp_all (maxDischargeDepth := 30)))
theorem execVfEnableSet_outer (pf : Nat) (num : Nat) (s : State) {t : State}
    (h : execVfEnableSet pf num s = .next t) : t.outer = s.outer := by
  unfold execVfEnableSet at h
  refine outer_of_onUnit h ?_
  clear h
  try dsimp only
  try (repeat' split)
  all_goals (first | (simp (maxDischargeDepth := 30); done) | (try simp_all (maxDischargeDepth := 30)))
theorem execMsixVectorUnmask_outer (fn : Nat) (a : MsixAccess) (s : State) {t : State}
    (h : execMsixVectorUnmask fn a s = .next t) : t.outer = s.outer := by
  unfold execMsixVectorUnmask at h
  refine outer_of_onUnit h ?_
  clear h
  try dsimp only
  try (repeat' split)
  all_goals (first | (simp (maxDischargeDepth := 30); done) | (try simp_all (maxDischargeDepth := 30)))
theorem execPowerUpStart_outer (vin : Nat) (s : State) {t : State}
    (h : execPowerUpStart vin s = .next t) : t.outer = s.outer := by
  unfold execPowerUpStart at h
  refine outer_of_next h ?_
  clear h
  try dsimp only
  split <;> rfl
theorem execPwrGood_outer (bifur : Bool) (smbAddr : Nat) (s : State) {t : State}
    (h : execPwrGood bifur smbAddr s = .next t) : t.outer = s.outer := by
  unfold execPwrGood at h
  refine outer_of_next h ?_
  clear h
  try dsimp only
  try (repeat' split)
  all_goals (first | (simp (maxDischargeDepth := 30); done) | (try simp_all (maxDischargeDepth := 30)))
theorem execPllLock_outer (s : State) {t : State} (h : execPllLock s = .next t) : t.outer = s.outer := by
  unfold execPllLock at h
  refine outer_of_next h ?_
  clear h
  try dsimp only
  try (repeat' split)
  all_goals (first | (simp (maxDischargeDepth := 30); done) | (try simp_all (maxDischargeDepth := 30)))
theorem execPllLockTimeout_outer (s : State) {t : State}
    (h : execPllLockTimeout s = .next t) : t.outer = s.outer := by
  unfold execPllLockTimeout at h
  refine outer_of_next h ?_
  clear h
  try dsimp only
  try (repeat' split)
  all_goals (first | (simp (maxDischargeDepth := 30); done) | (try simp_all (maxDischargeDepth := 30)))
theorem execBmemClearDone_outer (ok : Bool) (s : State) {t : State}
    (h : execBmemClearDone ok s = .next t) : t.outer = s.outer := by
  unfold execBmemClearDone at h
  refine outer_of_next h ?_
  clear h
  try dsimp only
  try (repeat' split)
  all_goals (first | (simp (maxDischargeDepth := 30); done) | (try simp_all (maxDischargeDepth := 30)))
theorem execFwVerifyDone_outer (sigA sigB : FwVerdict) (s : State) {t : State}
    (h : execFwVerifyDone sigA sigB s = .next t) : t.outer = s.outer := by
  unfold execFwVerifyDone at h
  refine outer_of_next h ?_
  clear h
  try dsimp only
  try (repeat' split)
  all_goals (first | (simp (maxDischargeDepth := 30); done) | (try simp_all (maxDischargeDepth := 30)))
theorem execPowerFailWarning_outer (vin : Nat) (s : State) {t : State}
    (h : execPowerFailWarning vin s = .next t) : t.outer = s.outer := by
  unfold execPowerFailWarning at h
  refine outer_of_next h ?_
  clear h
  try dsimp only
  try (repeat' split)
  all_goals (first | (simp (maxDischargeDepth := 30); done) | (try simp_all (maxDischargeDepth := 30)))
theorem execLoadShedDone_outer (s : State) {t : State} (h : execLoadShedDone s = .next t) : t.outer = s.outer := by
  unfold execLoadShedDone at h
  refine outer_of_next h ?_
  clear h
  try dsimp only
  try (repeat' split)
  all_goals (first | (simp (maxDischargeDepth := 30); done) | (try simp_all (maxDischargeDepth := 30)))
theorem execPowerWarnRelease_outer (vin : Nat) (s : State) {t : State}
    (h : execPowerWarnRelease vin s = .next t) : t.outer = s.outer := by
  unfold execPowerWarnRelease at h
  refine outer_of_next h ?_
  clear h
  try dsimp only
  try (repeat' split)
  all_goals (first | (simp (maxDischargeDepth := 30); done) | (try simp_all (maxDischargeDepth := 30)))
theorem execUndervoltageLockout_outer (vin : Nat) (s : State) {t : State}
    (h : execUndervoltageLockout vin s = .next t) : t.outer = s.outer := by
  unfold execUndervoltageLockout at h
  refine outer_of_next h ?_
  clear h
  try dsimp only
  try (repeat' split)
  all_goals (first | (simp (maxDischargeDepth := 30); done) | (try simp_all (maxDischargeDepth := 30)))
theorem execPwrEnLow_outer (s : State) {t : State} (h : execPwrEnLow s = .next t) : t.outer = s.outer := by
  unfold execPwrEnLow at h
  refine outer_of_next h ?_
  clear h
  try dsimp only
  try (repeat' split)
  all_goals (first | (simp (maxDischargeDepth := 30); done) | (try simp_all (maxDischargeDepth := 30)))
theorem execPowerStageStop_outer (s : State) {t : State}
    (h : execPowerStageStop s = .next t) : t.outer = s.outer := by
  unfold execPowerStageStop at h
  refine outer_of_next h ?_
  clear h
  try dsimp only
  try (repeat' split)
  all_goals (first | (simp (maxDischargeDepth := 30); done) | (try simp_all (maxDischargeDepth := 30)))
theorem execPwrOvercurrent_outer (s : State) {t : State}
    (h : execPwrOvercurrent s = .next t) : t.outer = s.outer := by
  unfold execPwrOvercurrent at h
  refine outer_of_next h ?_
  clear h
  try dsimp only
  try (repeat' split)
  all_goals (first | (simp (maxDischargeDepth := 30); done) | (try simp_all (maxDischargeDepth := 30)))
theorem execPwrOvervoltage_outer (vin : Nat) (s : State) {t : State}
    (h : execPwrOvervoltage vin s = .next t) : t.outer = s.outer := by
  unfold execPwrOvervoltage at h
  refine outer_of_next h ?_
  clear h
  try dsimp only
  try (repeat' split)
  all_goals (first | (simp (maxDischargeDepth := 30); done) | (try simp_all (maxDischargeDepth := 30)))
theorem execPwrOvRelease_outer (vin : Nat) (s : State) {t : State}
    (h : execPwrOvRelease vin s = .next t) : t.outer = s.outer := by
  unfold execPwrOvRelease at h
  refine outer_of_next h ?_
  clear h
  try dsimp only
  try (repeat' split)
  all_goals (first | (simp (maxDischargeDepth := 30); done) | (try simp_all (maxDischargeDepth := 30)))
theorem execPwrOvertemp_outer (s : State) {t : State} (h : execPwrOvertemp s = .next t) : t.outer = s.outer := by
  unfold execPwrOvertemp at h
  refine outer_of_next h ?_
  clear h
  try dsimp only
  try (repeat' split)
  all_goals (first | (simp (maxDischargeDepth := 30); done) | (try simp_all (maxDischargeDepth := 30)))
theorem execPwrOtClear_outer (s : State) {t : State} (h : execPwrOtClear s = .next t) : t.outer = s.outer := by
  unfold execPwrOtClear at h
  refine outer_of_next h ?_
  clear h
  try dsimp only
  try (repeat' split)
  all_goals (first | (simp (maxDischargeDepth := 30); done) | (try simp_all (maxDischargeDepth := 30)))
theorem execTelemetryRefresh_outer (mv : Nat) (ma : Nat) (mw : Nat) (groups : List Nat) (temps : List Int)
    (ppm : Int) (s : State) {t : State}
    (h : execTelemetryRefresh mv ma mw groups temps ppm s = .next t) : t.outer = s.outer := by
  unfold execTelemetryRefresh at h
  refine outer_of_next h ?_
  clear h
  try dsimp only
  try (repeat' split)
  all_goals (first | (simp (maxDischargeDepth := 30); done) | (try simp_all (maxDischargeDepth := 30)))
theorem execPage_outer (v : Option Nat) (s : State) {t : State} (h : execPage v s = .next t) : t.outer = s.outer := by
  unfold execPage at h
  refine outer_of_next h ?_
  clear h
  try dsimp only
  try (repeat' split)
  all_goals (first | (simp (maxDischargeDepth := 30); done) | (try simp_all (maxDischargeDepth := 30)))
theorem execClearFaults_outer (s : State) {t : State} (h : execClearFaults s = .next t) : t.outer = s.outer := by
  unfold execClearFaults at h
  refine outer_of_next h ?_
  clear h
  try dsimp only
  try (repeat' split)
  all_goals (first | (simp (maxDischargeDepth := 30); done) | (try simp_all (maxDischargeDepth := 30)))
theorem execCapability_outer (s : State) {t : State} (h : execCapability s = .next t) : t.outer = s.outer := by
  unfold execCapability at h
  refine outer_of_next h ?_
  clear h
  try dsimp only
  try (repeat' split)
  all_goals (first | (simp (maxDischargeDepth := 30); done) | (try simp_all (maxDischargeDepth := 30)))
theorem execVinOvFaultLimit_outer (s : State) {t : State}
    (h : execVinOvFaultLimit s = .next t) : t.outer = s.outer := by
  unfold execVinOvFaultLimit at h
  refine outer_of_next h ?_
  clear h
  try dsimp only
  try (repeat' split)
  all_goals (first | (simp (maxDischargeDepth := 30); done) | (try simp_all (maxDischargeDepth := 30)))
theorem execVinUvWarnLimit_outer (s : State) {t : State}
    (h : execVinUvWarnLimit s = .next t) : t.outer = s.outer := by
  unfold execVinUvWarnLimit at h
  refine outer_of_next h ?_
  clear h
  try dsimp only
  try (repeat' split)
  all_goals (first | (simp (maxDischargeDepth := 30); done) | (try simp_all (maxDischargeDepth := 30)))
theorem execVinUvFaultLimit_outer (s : State) {t : State}
    (h : execVinUvFaultLimit s = .next t) : t.outer = s.outer := by
  unfold execVinUvFaultLimit at h
  refine outer_of_next h ?_
  clear h
  try dsimp only
  try (repeat' split)
  all_goals (first | (simp (maxDischargeDepth := 30); done) | (try simp_all (maxDischargeDepth := 30)))
theorem execStatusByte_outer (s : State) {t : State} (h : execStatusByte s = .next t) : t.outer = s.outer := by
  unfold execStatusByte at h
  refine outer_of_next h ?_
  clear h
  try dsimp only
  try (repeat' split)
  all_goals (first | (simp (maxDischargeDepth := 30); done) | (try simp_all (maxDischargeDepth := 30)))
theorem execStatusWord_outer (s : State) {t : State} (h : execStatusWord s = .next t) : t.outer = s.outer := by
  unfold execStatusWord at h
  refine outer_of_next h ?_
  clear h
  try dsimp only
  try (repeat' split)
  all_goals (first | (simp (maxDischargeDepth := 30); done) | (try simp_all (maxDischargeDepth := 30)))
theorem execStatusInput_outer (s : State) {t : State} (h : execStatusInput s = .next t) : t.outer = s.outer := by
  unfold execStatusInput at h
  refine outer_of_next h ?_
  clear h
  try dsimp only
  try (repeat' split)
  all_goals (first | (simp (maxDischargeDepth := 30); done) | (try simp_all (maxDischargeDepth := 30)))
theorem execStatusTemperature_outer (s : State) {t : State}
    (h : execStatusTemperature s = .next t) : t.outer = s.outer := by
  unfold execStatusTemperature at h
  refine outer_of_next h ?_
  clear h
  try dsimp only
  try (repeat' split)
  all_goals (first | (simp (maxDischargeDepth := 30); done) | (try simp_all (maxDischargeDepth := 30)))
theorem execStatusCml_outer (s : State) {t : State} (h : execStatusCml s = .next t) : t.outer = s.outer := by
  unfold execStatusCml at h
  refine outer_of_next h ?_
  clear h
  try dsimp only
  try (repeat' split)
  all_goals (first | (simp (maxDischargeDepth := 30); done) | (try simp_all (maxDischargeDepth := 30)))
theorem execReadVin_outer (s : State) {t : State} (h : execReadVin s = .next t) : t.outer = s.outer := by
  unfold execReadVin at h
  refine outer_of_next h ?_
  clear h
  try dsimp only
  try (repeat' split)
  all_goals (first | (simp (maxDischargeDepth := 30); done) | (try simp_all (maxDischargeDepth := 30)))
theorem execReadIin_outer (s : State) {t : State} (h : execReadIin s = .next t) : t.outer = s.outer := by
  unfold execReadIin at h
  refine outer_of_next h ?_
  clear h
  try dsimp only
  try (repeat' split)
  all_goals (first | (simp (maxDischargeDepth := 30); done) | (try simp_all (maxDischargeDepth := 30)))
theorem execReadTemperature1_outer (s : State) {t : State}
    (h : execReadTemperature1 s = .next t) : t.outer = s.outer := by
  unfold execReadTemperature1 at h
  refine outer_of_next h ?_
  clear h
  try dsimp only
  try (repeat' split)
  all_goals (first | (simp (maxDischargeDepth := 30); done) | (try simp_all (maxDischargeDepth := 30)))
theorem execReadPout_outer (s : State) {t : State} (h : execReadPout s = .next t) : t.outer = s.outer := by
  unfold execReadPout at h
  refine outer_of_next h ?_
  clear h
  try dsimp only
  try (repeat' split)
  all_goals (first | (simp (maxDischargeDepth := 30); done) | (try simp_all (maxDischargeDepth := 30)))
theorem execReadPin_outer (s : State) {t : State} (h : execReadPin s = .next t) : t.outer = s.outer := by
  unfold execReadPin at h
  refine outer_of_next h ?_
  clear h
  try dsimp only
  try (repeat' split)
  all_goals (first | (simp (maxDischargeDepth := 30); done) | (try simp_all (maxDischargeDepth := 30)))
theorem execPmbusRevision_outer (s : State) {t : State} (h : execPmbusRevision s = .next t) : t.outer = s.outer := by
  unfold execPmbusRevision at h
  refine outer_of_next h ?_
  clear h
  try dsimp only
  try (repeat' split)
  all_goals (first | (simp (maxDischargeDepth := 30); done) | (try simp_all (maxDischargeDepth := 30)))
theorem execMfrId_outer (s : State) {t : State} (h : execMfrId s = .next t) : t.outer = s.outer := by
  unfold execMfrId at h
  refine outer_of_next h ?_
  clear h
  try dsimp only
  try (repeat' split)
  all_goals (first | (simp (maxDischargeDepth := 30); done) | (try simp_all (maxDischargeDepth := 30)))
theorem execMfrModel_outer (s : State) {t : State} (h : execMfrModel s = .next t) : t.outer = s.outer := by
  unfold execMfrModel at h
  refine outer_of_next h ?_
  clear h
  try dsimp only
  try (repeat' split)
  all_goals (first | (simp (maxDischargeDepth := 30); done) | (try simp_all (maxDischargeDepth := 30)))
theorem execPmbusInvalid_outer (kind : Nat) (s : State) {t : State}
    (h : execPmbusInvalid kind s = .next t) : t.outer = s.outer := by
  unfold execPmbusInvalid at h
  refine outer_of_onUnit h ?_
  clear h
  try dsimp only
  try (repeat' split)
  all_goals (first | (simp (maxDischargeDepth := 30); done) | (try simp_all (maxDischargeDepth := 30)))
theorem execSmbusAlertResponse_outer (s : State) {t : State}
    (h : execSmbusAlertResponse s = .next t) : t.outer = s.outer := by
  unfold execSmbusAlertResponse at h
  refine outer_of_next h ?_
  clear h
  try dsimp only
  try (repeat' split)
  all_goals (first | (simp (maxDischargeDepth := 30); done) | (try simp_all (maxDischargeDepth := 30)))
theorem execSmbusTimeout_outer (s : State) {t : State} (h : execSmbusTimeout s = .next t) : t.outer = s.outer := by
  unfold execSmbusTimeout at h
  refine outer_of_next h ?_
  clear h
  try dsimp only
  try (repeat' split)
  all_goals (first | (simp (maxDischargeDepth := 30); done) | (try simp_all (maxDischargeDepth := 30)))
theorem execClockLoss_outer (s : State) {t : State} (h : execClockLoss s = .next t) : t.outer = s.outer := by
  unfold execClockLoss at h
  refine outer_of_next h ?_
  clear h
  try dsimp only
  try (repeat' split)
  all_goals (first | (simp (maxDischargeDepth := 30); done) | (try simp_all (maxDischargeDepth := 30)))
theorem execPllUnlock_outer (s : State) {t : State} (h : execPllUnlock s = .next t) : t.outer = s.outer := by
  unfold execPllUnlock at h
  refine outer_of_next h ?_
  clear h
  try dsimp only
  try (repeat' split)
  all_goals (first | (simp (maxDischargeDepth := 30); done) | (try simp_all (maxDischargeDepth := 30)))
theorem execPllRelock_outer (s : State) {t : State} (h : execPllRelock s = .next t) : t.outer = s.outer := by
  unfold execPllRelock at h
  refine outer_of_next h ?_
  clear h
  try dsimp only
  try (repeat' split)
  all_goals (first | (simp (maxDischargeDepth := 30); done) | (try simp_all (maxDischargeDepth := 30)))
theorem execRefclkReturn_outer (s : State) {t : State} (h : execRefclkReturn s = .next t) : t.outer = s.outer := by
  unfold execRefclkReturn at h
  refine outer_of_next h ?_
  clear h
  try dsimp only
  try (repeat' split)
  all_goals (first | (simp (maxDischargeDepth := 30); done) | (try simp_all (maxDischargeDepth := 30)))
theorem execLinkRetry_outer (d : Nat) (s : State) {t : State}
    (h : execLinkRetry d s = .next t) : t.outer = s.outer := by
  unfold execLinkRetry at h
  refine outer_of_onUnit h ?_
  clear h
  try dsimp only
  try (repeat' split)
  all_goals (first | (simp (maxDischargeDepth := 30); done) | (try simp_all (maxDischargeDepth := 30)))
theorem execLinkDown_outer (d : Nat) (s : State) {t : State}
    (h : execLinkDown d s = .next t) : t.outer = s.outer := by
  unfold execLinkDown at h
  refine outer_of_onUnit h ?_
  clear h
  try dsimp only
  try (repeat' split)
  all_goals (first | (simp (maxDischargeDepth := 30); done) | (try simp_all (maxDischargeDepth := 30)))
theorem execAbortPoint_outer (st : Nat) (s : State) {t : State}
    (h : execAbortPoint st s = .next t) : t.outer = s.outer := by
  unfold execAbortPoint at h
  refine outer_of_onUnit h ?_
  clear h
  try dsimp only
  try (repeat' split)
  all_goals (first | (simp (maxDischargeDepth := 30); done) | (try simp_all (maxDischargeDepth := 30)))
theorem execSpareSwitch_outer (k : Nat) (s : State) {t : State}
    (h : execSpareSwitch k s = .next t) : t.outer = s.outer := by
  unfold execSpareSwitch at h
  refine outer_of_onUnit h ?_
  clear h
  try dsimp only
  try (repeat' split)
  all_goals (first | (simp (maxDischargeDepth := 30); done) | (try simp_all (maxDischargeDepth := 30)))
theorem execRetireLoad_outer (s : State) {t : State} (h : execRetireLoad s = .next t) : t.outer = s.outer := by
  unfold execRetireLoad at h
  refine outer_of_next h ?_
  clear h
  try dsimp only
  try (repeat' split)
  all_goals (first | (simp (maxDischargeDepth := 30); done) | (try simp_all (maxDischargeDepth := 30)))
theorem execRetireClear_outer (fn : Nat) (kind : Nat) (i : Nat) (s : State) {t : State}
    (h : execRetireClear fn kind i s = .next t) : t.outer = s.outer := by
  unfold execRetireClear at h
  refine outer_of_onUnit h ?_
  clear h
  try dsimp only
  try (repeat' split)
  all_goals (first | (simp (maxDischargeDepth := 30); done) | (try simp_all (maxDischargeDepth := 30)))
theorem execAnalogReadback_outer (ch : Nat) (bad : Bool) (again : Bool) (s : State) {t : State}
    (h : execAnalogReadback ch bad again s = .next t) : t.outer = s.outer := by
  unfold execAnalogReadback at h
  refine outer_of_onUnit h ?_
  clear h
  try dsimp only
  try (repeat' split)
  all_goals (first | (simp (maxDischargeDepth := 30); done) | (try simp_all (maxDischargeDepth := 30)))
theorem execMadcConversionDone_outer (k : Nat) (raw : Int) (s : State) {t : State}
    (h : execMadcConversionDone k raw s = .next t) : t.outer = s.outer := by
  unfold execMadcConversionDone at h
  refine outer_of_onUnit h ?_
  clear h
  try dsimp only
  try (repeat' split)
  all_goals (first | (simp (maxDischargeDepth := 30); done) | (try simp_all (maxDischargeDepth := 30)))
theorem execMadcConversionTimeout_outer (k : Nat) (s : State) {t : State}
    (h : execMadcConversionTimeout k s = .next t) : t.outer = s.outer := by
  unfold execMadcConversionTimeout at h
  refine outer_of_onUnit h ?_
  clear h
  try dsimp only
  try (repeat' split)
  all_goals (first | (simp (maxDischargeDepth := 30); done) | (try simp_all (maxDischargeDepth := 30)))
theorem execThermalSensorSample_outer (r : Nat) (temps : List Int) (s : State) {t : State}
    (h : execThermalSensorSample r temps s = .next t) : t.outer = s.outer := by
  unfold execThermalSensorSample at h
  refine outer_of_onUnit h ?_
  clear h
  try dsimp only
  try (repeat' split)
  all_goals (first | (simp (maxDischargeDepth := 30); done) | (try simp_all (maxDischargeDepth := 30)))
theorem execReenable_outer (fn : Nat) (r : Nat) (s : State) {t : State}
    (h : execReenable fn r s = .next t) : t.outer = s.outer := by
  unfold execReenable at h
  refine outer_of_onUnit h ?_
  clear h
  try dsimp only
  try (repeat' split)
  all_goals (first | (simp (maxDischargeDepth := 30); done) | (try simp_all (maxDischargeDepth := 30)))
theorem execCalSlewStep_outer (ch : Nat) (levels : Bool) (s : State) {t : State}
    (h : execCalSlewStep ch levels s = .next t) : t.outer = s.outer := by
  unfold execCalSlewStep at h
  refine outer_of_onUnit h ?_
  clear h
  try dsimp only
  try (repeat' split)
  all_goals (first | (simp (maxDischargeDepth := 30); done) | (try simp_all (maxDischargeDepth := 30)))
theorem execCalStale_outer (ch : Nat) (s : State) {t : State}
    (h : execCalStale ch s = .next t) : t.outer = s.outer := by
  unfold execCalStale at h
  refine outer_of_onUnit h ?_
  clear h
  try dsimp only
  try (repeat' split)
  all_goals (first | (simp (maxDischargeDepth := 30); done) | (try simp_all (maxDischargeDepth := 30)))
theorem execCalTempEval_outer (r : Nat) (s : State) {t : State}
    (h : execCalTempEval r s = .next t) : t.outer = s.outer := by
  unfold execCalTempEval at h
  refine outer_of_onUnit h ?_
  clear h
  try dsimp only
  try (repeat' split)
  all_goals (first | (simp (maxDischargeDepth := 30); done) | (try simp_all (maxDischargeDepth := 30)))
theorem execCalStart_outer (fn : Nat) (i : Nat) (s : State) {t : State}
    (h : execCalStart fn i s = .next t) : t.outer = s.outer := by
  unfold execCalStart at h
  refine outer_of_onUnit h ?_
  clear h
  try dsimp only
  try (repeat' split)
  all_goals (first | (simp (maxDischargeDepth := 30); done) | (try simp_all (maxDischargeDepth := 30)))
theorem execCalAbort_outer (fn : Nat) (i : Nat) (s : State) {t : State}
    (h : execCalAbort fn i s = .next t) : t.outer = s.outer := by
  unfold execCalAbort at h
  refine outer_of_onUnit h ?_
  clear h
  try dsimp only
  try (repeat' split)
  all_goals (first | (simp (maxDischargeDepth := 30); done) | (try simp_all (maxDischargeDepth := 30)))
theorem execCalCommonStepDone_outer (r : Nat) (vref : Int) (vbg : Int) (spine : List Int) (s : State) {t : State}
    (h : execCalCommonStepDone r vref vbg spine s = .next t) : t.outer = s.outer := by
  unfold execCalCommonStepDone at h
  refine outer_of_onUnit h ?_
  clear h
  try dsimp only
  try (repeat' split)
  all_goals (first | (simp (maxDischargeDepth := 30); done) | (try simp_all (maxDischargeDepth := 30)))
theorem execCalClusterStepStart_outer (k : Nat) (s : State) {t : State}
    (h : execCalClusterStepStart k s = .next t) : t.outer = s.outer := by
  unfold execCalClusterStepStart at h
  refine outer_of_onUnit h ?_
  clear h
  try dsimp only
  try (repeat' split)
  all_goals (first | (simp (maxDischargeDepth := 30); done) | (try simp_all (maxDischargeDepth := 30)))
theorem execCalClusterStepDone_outer (k : Nat) (lanes : List (List Int)) (madc : List Int) (s : State) {t : State}
    (h : execCalClusterStepDone k lanes madc s = .next t) : t.outer = s.outer := by
  unfold execCalClusterStepDone at h
  refine outer_of_onUnit h ?_
  clear h
  try dsimp only
  try (repeat' split)
  all_goals (first | (simp (maxDischargeDepth := 30); done) | (try simp_all (maxDischargeDepth := 30)))
theorem execCalHoldoffExpiry_outer (r : Nat) (s : State) {t : State}
    (h : execCalHoldoffExpiry r s = .next t) : t.outer = s.outer := by
  unfold execCalHoldoffExpiry at h
  refine outer_of_onUnit h ?_
  clear h
  try dsimp only
  try (repeat' split)
  all_goals (first | (simp (maxDischargeDepth := 30); done) | (try simp_all (maxDischargeDepth := 30)))
theorem execCalEnvCheckDone_outer (k : Nat) (v : List (Int × Int × Int)) (s : State) {t : State}
    (h : execCalEnvCheckDone k v s = .next t) : t.outer = s.outer := by
  unfold execCalEnvCheckDone at h
  refine outer_of_onUnit h ?_
  clear h
  try dsimp only
  try (repeat' split)
  all_goals (first | (simp (maxDischargeDepth := 30); done) | (try simp_all (maxDischargeDepth := 30)))
theorem execCalReflectDone_outer (ch : Nat) (sum : Int) (spread : Int) (clean : Bool) (s : State) {t : State}
    (h : execCalReflectDone ch sum spread clean s = .next t) : t.outer = s.outer := by
  unfold execCalReflectDone at h
  refine outer_of_onUnit h ?_
  clear h
  try dsimp only
  try (repeat' split)
  all_goals (first | (simp (maxDischargeDepth := 30); done) | (try simp_all (maxDischargeDepth := 30)))
theorem execCalSequenceDone_outer (s : State) {t : State}
    (h : execCalSequenceDone s = .next t) : t.outer = s.outer := by
  unfold execCalSequenceDone at h
  refine outer_of_next h ?_
  clear h
  try dsimp only
  try (repeat' split)
  all_goals (first | (simp (maxDischargeDepth := 30); done) | (try simp_all (maxDischargeDepth := 30)))
theorem execCalLoad_outer (s : State) {t : State} (h : execCalLoad s = .next t) : t.outer = s.outer := by
  unfold execCalLoad at h
  refine outer_of_next h ?_
  clear h
  try dsimp only
  try (repeat' split)
  all_goals (first | (simp (maxDischargeDepth := 30); done) | (try simp_all (maxDischargeDepth := 30)))
theorem execBsyncFrameSlot_outer (w : Nat) (s : State) {t : State}
    (h : execBsyncFrameSlot w s = .next t) : t.outer = s.outer := by
  unfold execBsyncFrameSlot at h
  refine outer_of_next h ?_
  clear h
  try dsimp only
  try (repeat' split)
  all_goals (first | (simp (maxDischargeDepth := 30); done) | (try simp_all (maxDischargeDepth := 30)))
theorem execSyncLoss_outer (s : State) {t : State} (h : execSyncLoss s = .next t) : t.outer = s.outer := by
  unfold execSyncLoss at h
  refine outer_of_next h ?_
  clear h
  try dsimp only
  try (repeat' split)
  all_goals (first | (simp (maxDischargeDepth := 30); done) | (try simp_all (maxDischargeDepth := 30)))
theorem execBsyncNop_outer (s : State) {t : State} (h : execBsyncNop s = .next t) : t.outer = s.outer := by
  unfold execBsyncNop at h
  refine outer_of_next h ?_
  clear h
  try dsimp only
  try (repeat' split)
  all_goals (first | (simp (maxDischargeDepth := 30); done) | (try simp_all (maxDischargeDepth := 30)))
theorem execTimeLoadStage_outer (t40 : Nat) (s : State) {t : State}
    (h : execTimeLoadStage t40 s = .next t) : t.outer = s.outer := by
  unfold execTimeLoadStage at h
  refine outer_of_next h ?_
  clear h
  try dsimp only
  try (repeat' split)
  all_goals (first | (simp (maxDischargeDepth := 30); done) | (try simp_all (maxDischargeDepth := 30)))
theorem execTimeLoadLoad_outer (t24 : Nat) (s : State) {t : State}
    (h : execTimeLoadLoad t24 s = .next t) : t.outer = s.outer := by
  unfold execTimeLoadLoad at h
  refine outer_of_next h ?_
  clear h
  try dsimp only
  try (repeat' split)
  all_goals (first | (simp (maxDischargeDepth := 30); done) | (try simp_all (maxDischargeDepth := 30)))
theorem execBsyncArm_outer (g : Nat) (s : State) {t : State}
    (h : execBsyncArm g s = .next t) : t.outer = s.outer := by
  unfold execBsyncArm at h
  refine outer_of_next h ?_
  clear h
  try dsimp only
  try (repeat' split)
  all_goals (first | (simp (maxDischargeDepth := 30); done) | (try simp_all (maxDischargeDepth := 30)))
theorem execStartAt_outer (g : Nat) (t40 : Nat) (s : State) {t : State}
    (h : execStartAt g t40 s = .next t) : t.outer = s.outer := by
  unfold execStartAt at h
  refine outer_of_next h ?_
  clear h
  try dsimp only
  try (repeat' split)
  all_goals (first | (simp (maxDischargeDepth := 30); done) | (try simp_all (maxDischargeDepth := 30)))
theorem execStopAt_outer (g : Nat) (t40 : Nat) (s : State) {t : State}
    (h : execStopAt g t40 s = .next t) : t.outer = s.outer := by
  unfold execStopAt at h
  refine outer_of_next h ?_
  clear h
  try dsimp only
  try (repeat' split)
  all_goals (first | (simp (maxDischargeDepth := 30); done) | (try simp_all (maxDischargeDepth := 30)))
theorem execPing_outer (s : State) {t : State} (h : execPing s = .next t) : t.outer = s.outer := by
  unfold execPing at h
  refine outer_of_next h ?_
  clear h
  try dsimp only
  try (repeat' split)
  all_goals (first | (simp (maxDischargeDepth := 30); done) | (try simp_all (maxDischargeDepth := 30)))
theorem execPhaseSlewStep_outer (s : State) {t : State} (h : execPhaseSlewStep s = .next t) : t.outer = s.outer := by
  unfold execPhaseSlewStep at h
  refine outer_of_next h ?_
  clear h
  try dsimp only
  try (repeat' split)
  all_goals (first | (simp (maxDischargeDepth := 30); done) | (try simp_all (maxDischargeDepth := 30)))
theorem execTrigInEdge_outer (line : Nat) (rising : Bool) (tt : Nat) (s : State) {t : State}
    (h : execTrigInEdge line rising tt s = .next t) : t.outer = s.outer := by
  unfold execTrigInEdge at h
  refine outer_of_onUnit h ?_
  clear h
  try dsimp only
  try (repeat' split)
  all_goals (first | (simp (maxDischargeDepth := 30); done) | (try simp_all (maxDischargeDepth := 30)))
theorem execTrigOutPulse_outer (line : Nat) (s : State) {t : State}
    (h : execTrigOutPulse line s = .next t) : t.outer = s.outer := by
  unfold execTrigOutPulse at h
  refine outer_of_onUnit h ?_
  clear h
  try dsimp only
  try (repeat' split)
  all_goals (first | (simp (maxDischargeDepth := 30); done) | (try simp_all (maxDischargeDepth := 30)))
theorem execTrigOutFire_outer (fn : Nat) (line : Nat) (s : State) {t : State}
    (h : execTrigOutFire fn line s = .next t) : t.outer = s.outer := by
  unfold execTrigOutFire at h
  refine outer_of_onUnit h ?_
  clear h
  try dsimp only
  try (repeat' split)
  all_goals (first | (simp (maxDischargeDepth := 30); done) | (try simp_all (maxDischargeDepth := 30)))

end Sys2Proof.Machine
end

