-- ==== Sys2Proof/Laws/OuterExec2.lean ====
section
/-! SUPPORT. Commands keep what `State.outer` reads, one law each. -/

namespace Sys2Proof.Machine

theorem execBlockPost_outer (e : Nat) (s : State) {t : State}
    (h : execBlockPost e s = .next t) : t.outer = s.outer := by
  unfold execBlockPost at h
  refine outer_of_onUnit h ?_
  clear h
  try dsimp only
  try (repeat' split)
  all_goals (first | (simp (maxDischargeDepth := 30); done) | (try simp_all (maxDischargeDepth := 30)))
theorem execTriggerEventArrive_outer (line : Nat) (s : State) {t : State}
    (h : execTriggerEventArrive line s = .next t) : t.outer = s.outer := by
  unfold execTriggerEventArrive at h
  refine outer_of_onUnit h ?_
  clear h
  try dsimp only
  try (repeat' split)
  all_goals (first | (simp (maxDischargeDepth := 30); done) | (try simp_all (maxDischargeDepth := 30)))
theorem execBarrierComplete_outer (st : Nat) (b : Nat) (s : State) {t : State}
    (h : execBarrierComplete st b s = .next t) : t.outer = s.outer := by
  unfold execBarrierComplete at h
  refine outer_of_onUnit h ?_
  clear h
  try dsimp only
  try (repeat' split)
  all_goals (first | (simp (maxDischargeDepth := 30); done) | (try simp_all (maxDischargeDepth := 30)))
theorem execMatchResult_outer (e : Nat) (s : State) {t : State}
    (h : execMatchResult e s = .next t) : t.outer = s.outer := by
  unfold execMatchResult at h
  refine outer_of_onUnit h ?_
  clear h
  try dsimp only
  try (repeat' split)
  all_goals (first | (simp (maxDischargeDepth := 30); done) | (try simp_all (maxDischargeDepth := 30)))
theorem execCondTimeout_outer (e : Nat) (s : State) {t : State}
    (h : execCondTimeout e s = .next t) : t.outer = s.outer := by
  unfold execCondTimeout at h
  refine outer_of_onUnit h ?_
  clear h
  try dsimp only
  try (repeat' split)
  all_goals (first | (simp (maxDischargeDepth := 30); done) | (try simp_all (maxDischargeDepth := 30)))
theorem execCacheMissFill_outer (e : Nat) (s : State) {t : State}
    (h : execCacheMissFill e s = .next t) : t.outer = s.outer := by
  unfold execCacheMissFill at h
  refine outer_of_onUnit h ?_
  clear h
  try dsimp only
  try (repeat' split)
  all_goals (first | (simp (maxDischargeDepth := 30); done) | (try simp_all (maxDischargeDepth := 30)))
theorem execNop_outer (e : Nat) (s : State) {t : State} (h : execNop e s = .next t) : t.outer = s.outer := by
  unfold execNop at h
  refine outer_of_onUnit h ?_
  clear h
  try dsimp only
  try (repeat' split)
  all_goals (first | (simp (maxDischargeDepth := 30); done) | (try simp_all (maxDischargeDepth := 30)))
theorem execVec_outer (e : Nat) (s : State) {t : State} (h : execVec e s = .next t) : t.outer = s.outer := by
  unfold execVec at h
  refine outer_of_onUnit h ?_
  clear h
  try dsimp only
  try (repeat' split)
  all_goals (first | (simp (maxDischargeDepth := 30); done) | (try simp_all (maxDischargeDepth := 30)))
theorem execRpt_outer (e : Nat) (s : State) {t : State} (h : execRpt e s = .next t) : t.outer = s.outer := by
  unfold execRpt at h
  refine outer_of_onUnit h ?_
  clear h
  try dsimp only
  try (repeat' split)
  all_goals (first | (simp (maxDischargeDepth := 30); done) | (try simp_all (maxDischargeDepth := 30)))
theorem execHold_outer (e : Nat) (s : State) {t : State} (h : execHold e s = .next t) : t.outer = s.outer := by
  unfold execHold at h
  refine outer_of_onUnit h ?_
  clear h
  try dsimp only
  try (repeat' split)
  all_goals (first | (simp (maxDischargeDepth := 30); done) | (try simp_all (maxDischargeDepth := 30)))
theorem execTset_outer (e : Nat) (s : State) {t : State} (h : execTset e s = .next t) : t.outer = s.outer := by
  unfold execTset at h
  refine outer_of_onUnit h ?_
  clear h
  try dsimp only
  try (repeat' split)
  all_goals (first | (simp (maxDischargeDepth := 30); done) | (try simp_all (maxDischargeDepth := 30)))
theorem execLvl_outer (e : Nat) (s : State) {t : State} (h : execLvl e s = .next t) : t.outer = s.outer := by
  unfold execLvl at h
  refine outer_of_onUnit h ?_
  clear h
  try dsimp only
  try (repeat' split)
  all_goals (first | (simp (maxDischargeDepth := 30); done) | (try simp_all (maxDischargeDepth := 30)))
theorem execMark_outer (e : Nat) (s : State) {t : State} (h : execMark e s = .next t) : t.outer = s.outer := by
  unfold execMark at h
  refine outer_of_onUnit h ?_
  clear h
  try dsimp only
  try (repeat' split)
  all_goals (first | (simp (maxDischargeDepth := 30); done) | (try simp_all (maxDischargeDepth := 30)))
theorem execSync_outer (e : Nat) (s : State) {t : State} (h : execSync e s = .next t) : t.outer = s.outer := by
  unfold execSync at h
  refine outer_of_onUnit h ?_
  clear h
  try dsimp only
  try (repeat' split)
  all_goals (first | (simp (maxDischargeDepth := 30); done) | (try simp_all (maxDischargeDepth := 30)))
theorem execMatch_outer (e : Nat) (s : State) {t : State} (h : execMatch e s = .next t) : t.outer = s.outer := by
  unfold execMatch at h
  refine outer_of_onUnit h ?_
  clear h
  try dsimp only
  try (repeat' split)
  all_goals (first | (simp (maxDischargeDepth := 30); done) | (try simp_all (maxDischargeDepth := 30)))
theorem execJmpf_outer (e : Nat) (s : State) {t : State} (h : execJmpf e s = .next t) : t.outer = s.outer := by
  unfold execJmpf at h
  refine outer_of_onUnit h ?_
  clear h
  try dsimp only
  try (repeat' split)
  all_goals (first | (simp (maxDischargeDepth := 30); done) | (try simp_all (maxDischargeDepth := 30)))
theorem execHalt_outer (e : Nat) (s : State) {t : State} (h : execHalt e s = .next t) : t.outer = s.outer := by
  unfold execHalt at h
  refine outer_of_onUnit h ?_
  clear h
  try dsimp only
  try (repeat' split)
  all_goals (first | (simp (maxDischargeDepth := 30); done) | (try simp_all (maxDischargeDepth := 30)))
theorem execJmp_outer (e : Nat) (s : State) {t : State} (h : execJmp e s = .next t) : t.outer = s.outer := by
  unfold execJmp at h
  refine outer_of_onUnit h ?_
  clear h
  try dsimp only
  try (repeat' split)
  all_goals (first | (simp (maxDischargeDepth := 30); done) | (try simp_all (maxDischargeDepth := 30)))
theorem execCall_outer (e : Nat) (s : State) {t : State} (h : execCall e s = .next t) : t.outer = s.outer := by
  unfold execCall at h
  refine outer_of_onUnit h ?_
  clear h
  try dsimp only
  try (repeat' split)
  all_goals (first | (simp (maxDischargeDepth := 30); done) | (try simp_all (maxDischargeDepth := 30)))
theorem execRet_outer (e : Nat) (s : State) {t : State} (h : execRet e s = .next t) : t.outer = s.outer := by
  unfold execRet at h
  refine outer_of_onUnit h ?_
  clear h
  try dsimp only
  try (repeat' split)
  all_goals (first | (simp (maxDischargeDepth := 30); done) | (try simp_all (maxDischargeDepth := 30)))
theorem execLoop_outer (e : Nat) (s : State) {t : State} (h : execLoop e s = .next t) : t.outer = s.outer := by
  unfold execLoop at h
  refine outer_of_onUnit h ?_
  clear h
  try dsimp only
  try (repeat' split)
  all_goals (first | (simp (maxDischargeDepth := 30); done) | (try simp_all (maxDischargeDepth := 30)))
theorem execEndloop_outer (e : Nat) (s : State) {t : State} (h : execEndloop e s = .next t) : t.outer = s.outer := by
  unfold execEndloop at h
  refine outer_of_onUnit h ?_
  clear h
  try dsimp only
  try (repeat' split)
  all_goals (first | (simp (maxDischargeDepth := 30); done) | (try simp_all (maxDischargeDepth := 30)))
theorem execInvalidOpcode_outer (e : Nat) (s : State) {t : State}
    (h : execInvalidOpcode e s = .next t) : t.outer = s.outer := by
  unfold execInvalidOpcode at h
  refine outer_of_onUnit h ?_
  clear h
  try dsimp only
  try (repeat' split)
  all_goals (first | (simp (maxDischargeDepth := 30); done) | (try simp_all (maxDischargeDepth := 30)))
theorem execScan_outer (e : Nat) (s : State) {t : State} (h : execScan e s = .next t) : t.outer = s.outer := by
  unfold execScan at h
  refine outer_of_onUnit h ?_
  clear h
  try dsimp only
  try (repeat' split)
  all_goals (first | (simp (maxDischargeDepth := 30); done) | (try simp_all (maxDischargeDepth := 30)))
theorem execDecomp_outer (e : Nat) (s : State) {t : State} (h : execDecomp e s = .next t) : t.outer = s.outer := by
  unfold execDecomp at h
  refine outer_of_onUnit h ?_
  clear h
  try dsimp only
  try (repeat' split)
  all_goals (first | (simp (maxDischargeDepth := 30); done) | (try simp_all (maxDischargeDepth := 30)))
theorem execMachineCheck_outer (e : Nat) (kind : Nat) (s : State) {t : State}
    (h : execMachineCheck e kind s = .next t) : t.outer = s.outer := by
  unfold execMachineCheck at h
  refine outer_of_onUnit h ?_
  clear h
  try dsimp only
  try (repeat' split)
  all_goals (first | (simp (maxDischargeDepth := 30); done) | (try simp_all (maxDischargeDepth := 30)))
theorem execReloadDone_outer (e : Nat) (mismatch : Bool) (s : State) {t : State}
    (h : execReloadDone e mismatch s = .next t) : t.outer = s.outer := by
  unfold execReloadDone at h
  refine outer_of_onUnit h ?_
  clear h
  try dsimp only
  try (repeat' split)
  all_goals (first | (simp (maxDischargeDepth := 30); done) | (try simp_all (maxDischargeDepth := 30)))
theorem execIdleScan_outer (e : Nat) (bad : Bool) (s : State) {t : State}
    (h : execIdleScan e bad s = .next t) : t.outer = s.outer := by
  unfold execIdleScan at h
  refine outer_of_onUnit h ?_
  clear h
  try dsimp only
  try (repeat' split)
  all_goals (first | (simp (maxDischargeDepth := 30); done) | (try simp_all (maxDischargeDepth := 30)))
theorem execMicroNext_outer (e : Nat) (s : State) {t : State}
    (h : execMicroNext e s = .next t) : t.outer = s.outer := by
  unfold execMicroNext at h
  refine outer_of_onUnit h ?_
  clear h
  try dsimp only
  try (repeat' split)
  all_goals (first | (simp (maxDischargeDepth := 30); done) | (try simp_all (maxDischargeDepth := 30)))
theorem execMicroJump_outer (e : Nat) (s : State) {t : State}
    (h : execMicroJump e s = .next t) : t.outer = s.outer := by
  unfold execMicroJump at h
  refine outer_of_onUnit h ?_
  clear h
  try dsimp only
  try (repeat' split)
  all_goals (first | (simp (maxDischargeDepth := 30); done) | (try simp_all (maxDischargeDepth := 30)))
theorem execMicroCjump_outer (e : Nat) (s : State) {t : State}
    (h : execMicroCjump e s = .next t) : t.outer = s.outer := by
  unfold execMicroCjump at h
  refine outer_of_onUnit h ?_
  clear h
  try dsimp only
  try (repeat' split)
  all_goals (first | (simp (maxDischargeDepth := 30); done) | (try simp_all (maxDischargeDepth := 30)))
theorem execMicroCall_outer (e : Nat) (s : State) {t : State}
    (h : execMicroCall e s = .next t) : t.outer = s.outer := by
  unfold execMicroCall at h
  refine outer_of_onUnit h ?_
  clear h
  try dsimp only
  try (repeat' split)
  all_goals (first | (simp (maxDischargeDepth := 30); done) | (try simp_all (maxDischargeDepth := 30)))
theorem execMicroRet_outer (e : Nat) (s : State) {t : State}
    (h : execMicroRet e s = .next t) : t.outer = s.outer := by
  unfold execMicroRet at h
  refine outer_of_onUnit h ?_
  clear h
  try dsimp only
  try (repeat' split)
  all_goals (first | (simp (maxDischargeDepth := 30); done) | (try simp_all (maxDischargeDepth := 30)))
theorem execMicroDispatch_outer (e : Nat) (s : State) {t : State}
    (h : execMicroDispatch e s = .next t) : t.outer = s.outer := by
  unfold execMicroDispatch at h
  refine outer_of_onUnit h ?_
  clear h
  try dsimp only
  try (repeat' split)
  all_goals (first | (simp (maxDischargeDepth := 30); done) | (try simp_all (maxDischargeDepth := 30)))
theorem execMicroUloop_outer (e : Nat) (s : State) {t : State}
    (h : execMicroUloop e s = .next t) : t.outer = s.outer := by
  unfold execMicroUloop at h
  refine outer_of_onUnit h ?_
  clear h
  try dsimp only
  try (repeat' split)
  all_goals (first | (simp (maxDischargeDepth := 30); done) | (try simp_all (maxDischargeDepth := 30)))
theorem execMicroResume_outer (e : Nat) (s : State) {t : State}
    (h : execMicroResume e s = .next t) : t.outer = s.outer := by
  unfold execMicroResume at h
  refine outer_of_onUnit h ?_
  clear h
  try dsimp only
  try (repeat' split)
  all_goals (first | (simp (maxDischargeDepth := 30); done) | (try simp_all (maxDischargeDepth := 30)))
theorem execEngineInterruptTake_outer (e : Nat) (s : State) {t : State}
    (h : execEngineInterruptTake e s = .next t) : t.outer = s.outer := by
  unfold execEngineInterruptTake at h
  refine outer_of_onUnit h ?_
  clear h
  try dsimp only
  try (repeat' split)
  all_goals (first | (simp (maxDischargeDepth := 30); done) | (try simp_all (maxDischargeDepth := 30)))
theorem execAbortTake_outer (e : Nat) (s : State) {t : State}
    (h : execAbortTake e s = .next t) : t.outer = s.outer := by
  unfold execAbortTake at h
  refine outer_of_onUnit h ?_
  clear h
  try dsimp only
  try (repeat' split)
  all_goals (first | (simp (maxDischargeDepth := 30); done) | (try simp_all (maxDischargeDepth := 30)))
theorem execSegmentPlace_outer (s : State) {t : State} (h : execSegmentPlace s = .next t) : t.outer = s.outer := by
  unfold execSegmentPlace at h
  refine outer_of_next h ?_
  clear h
  try dsimp only
  try (repeat' split)
  all_goals (first | (simp (maxDischargeDepth := 30); done) | (try simp_all (maxDischargeDepth := 30)))
theorem execDequeHandover_outer (e : Nat) (s : State) {t : State}
    (h : execDequeHandover e s = .next t) : t.outer = s.outer := by
  unfold execDequeHandover at h
  refine outer_of_onUnit h ?_
  clear h
  try dsimp only
  try (repeat' split)
  all_goals (first | (simp (maxDischargeDepth := 30); done) | (try simp_all (maxDischargeDepth := 30)))
theorem execRequeueSlotDrain_outer (e : Nat) (s : State) {t : State}
    (h : execRequeueSlotDrain e s = .next t) : t.outer = s.outer := by
  unfold execRequeueSlotDrain at h
  refine outer_of_onUnit h ?_
  clear h
  try dsimp only
  try (repeat' split)
  all_goals (first | (simp (maxDischargeDepth := 30); done) | (try simp_all (maxDischargeDepth := 30)))
theorem execDequePop_outer (e : Nat) (s : State) {t : State}
    (h : execDequePop e s = .next t) : t.outer = s.outer := by
  unfold execDequePop at h
  refine outer_of_onUnit h ?_
  clear h
  try dsimp only
  try (repeat' split)
  all_goals (first | (simp (maxDischargeDepth := 30); done) | (try simp_all (maxDischargeDepth := 30)))
theorem execStealProbe_outer (e : Nat) (s : State) {t : State}
    (h : execStealProbe e s = .next t) : t.outer = s.outer := by
  unfold execStealProbe at h
  refine outer_of_onUnit h ?_
  clear h
  try dsimp only
  try (repeat' split)
  all_goals (first | (simp (maxDischargeDepth := 30); done) | (try simp_all (maxDischargeDepth := 30)))
theorem execSegmentTake_outer (e : Nat) (s : State) {t : State}
    (h : execSegmentTake e s = .next t) : t.outer = s.outer := by
  unfold execSegmentTake at h
  refine outer_of_onUnit h ?_
  clear h
  try dsimp only
  try (repeat' split)
  all_goals (first | (simp (maxDischargeDepth := 30); done) | (try simp_all (maxDischargeDepth := 30)))
theorem execBlockDeadline_outer (ch : Nat) (segId : Nat) (seq : Nat) (parityBad : Bool) (s : State) {t : State}
    (h : execBlockDeadline ch segId seq parityBad s = .next t) : t.outer = s.outer := by
  unfold execBlockDeadline at h
  refine outer_of_onUnit h ?_
  clear h
  try dsimp only
  try (repeat' split)
  all_goals (first | (simp (maxDischargeDepth := 30); done) | (try simp_all (maxDischargeDepth := 30)))
theorem execBurstArm_outer (fn : Nat) (st : Nat) (frame : Bool) (s : State) {t : State}
    (h : execBurstArm fn st frame s = .next t) : t.outer = s.outer := by
  unfold execBurstArm at h
  refine outer_of_onUnit h ?_
  clear h
  try dsimp only
  try (repeat' split)
  all_goals (first | (simp (maxDischargeDepth := 30); done) | (try simp_all (maxDischargeDepth := 30)))
theorem execBurstDisarm_outer (fn : Nat) (st : Nat) (s : State) {t : State}
    (h : execBurstDisarm fn st s = .next t) : t.outer = s.outer := by
  unfold execBurstDisarm at h
  refine outer_of_onUnit h ?_
  clear h
  try dsimp only
  try (repeat' split)
  all_goals (first | (simp (maxDischargeDepth := 30); done) | (try simp_all (maxDischargeDepth := 30)))
theorem execBurstStart_outer (fn : Nat) (st : Nat) (t24 : Nat) (s : State) {t : State}
    (h : execBurstStart fn st t24 s = .next t) : t.outer = s.outer := by
  unfold execBurstStart at h
  refine outer_of_onUnit h ?_
  clear h
  try dsimp only
  try (repeat' split)
  all_goals (first | (simp (maxDischargeDepth := 30); done) | (try simp_all (maxDischargeDepth := 30)))
theorem execBurstStop_outer (fn : Nat) (st : Nat) (s : State) {t : State}
    (h : execBurstStop fn st s = .next t) : t.outer = s.outer := by
  unfold execBurstStop at h
  refine outer_of_onUnit h ?_
  clear h
  try dsimp only
  try (repeat' split)
  all_goals (first | (simp (maxDischargeDepth := 30); done) | (try simp_all (maxDischargeDepth := 30)))
theorem execBurstAbort_outer (fn : Nat) (st : Nat) (s : State) {t : State}
    (h : execBurstAbort fn st s = .next t) : t.outer = s.outer := by
  unfold execBurstAbort at h
  refine outer_of_onUnit h ?_
  clear h
  try dsimp only
  try (repeat' split)
  all_goals (first | (simp (maxDischargeDepth := 30); done) | (try simp_all (maxDischargeDepth := 30)))
theorem execBurstAck_outer (fn : Nat) (st : Nat) (s : State) {t : State}
    (h : execBurstAck fn st s = .next t) : t.outer = s.outer := by
  unfold execBurstAck at h
  refine outer_of_onUnit h ?_
  clear h
  try dsimp only
  try (repeat' split)
  all_goals (first | (simp (maxDischargeDepth := 30); done) | (try simp_all (maxDischargeDepth := 30)))
theorem execBurstCmdInvalid_outer (fn : Nat) (st : Nat) (op : Nat) (s : State) {t : State}
    (h : execBurstCmdInvalid fn st op s = .next t) : t.outer = s.outer := by
  unfold execBurstCmdInvalid at h
  refine outer_of_onUnit h ?_
  clear h
  try dsimp only
  try (repeat' split)
  all_goals (first | (simp (maxDischargeDepth := 30); done) | (try simp_all (maxDischargeDepth := 30)))
theorem execRegionThermalShutdown_outer (r : Nat) (s : State) {t : State}
    (h : execRegionThermalShutdown r s = .next t) : t.outer = s.outer := by
  unfold execRegionThermalShutdown at h
  refine outer_of_onUnit h ?_
  clear h
  try dsimp only
  try (repeat' split)
  all_goals (first | (simp (maxDischargeDepth := 30); done) | (try simp_all (maxDischargeDepth := 30)))
theorem execComparatorCrossing_outer (ch : Nat) (cl : Bool) (rising : Bool) (tt : Nat) (s : State) {t : State}
    (h : execComparatorCrossing ch cl rising tt s = .next t) : t.outer = s.outer := by
  unfold execComparatorCrossing at h
  refine outer_of_onUnit h ?_
  clear h
  try dsimp only
  try (repeat' split)
  all_goals (first | (simp (maxDischargeDepth := 30); done) | (try simp_all (maxDischargeDepth := 30)))
theorem execCompareResult_outer (ch : Nat) (s : State) {t : State}
    (h : execCompareResult ch s = .next t) : t.outer = s.outer := by
  unfold execCompareResult at h
  refine outer_of_onUnit h ?_
  clear h
  try dsimp only
  try (repeat' split)
  all_goals (first | (simp (maxDischargeDepth := 30); done) | (try simp_all (maxDischargeDepth := 30)))
theorem execLclkTick_outer (st : Nat) (s : State) {t : State}
    (h : execLclkTick st s = .next t) : t.outer = s.outer := by
  unfold execLclkTick at h
  refine outer_of_onUnit h ?_
  clear h
  try dsimp only
  try (repeat' split)
  all_goals (first | (simp (maxDischargeDepth := 30); done) | (try simp_all (maxDischargeDepth := 30)))
theorem execBlkOwnerWrite_outer (fn : Nat) (ty : Nat) (inst : Nat) (val : Nat) (s : State) {t : State}
    (h : execBlkOwnerWrite fn ty inst val s = .next t) : t.outer = s.outer := by
  unfold execBlkOwnerWrite at h
  refine outer_of_onUnit h ?_
  clear h
  try dsimp only
  try (repeat' split)
  all_goals (first | (simp (maxDischargeDepth := 30); done) | (try simp_all (maxDischargeDepth := 30)))
theorem execSiteChMaskWrite_outer (fn : Nat) (st : Nat) (k : Nat) (val : Nat) (s : State) {t : State}
    (h : execSiteChMaskWrite fn st k val s = .next t) : t.outer = s.outer := by
  unfold execSiteChMaskWrite at h
  refine outer_of_onUnit h ?_
  clear h
  try dsimp only
  try (repeat' split)
  all_goals (first | (simp (maxDischargeDepth := 30); done) | (try simp_all (maxDischargeDepth := 30)))
theorem execSiteCluMaskWrite_outer (fn : Nat) (st : Nat) (val : Nat) (s : State) {t : State}
    (h : execSiteCluMaskWrite fn st val s = .next t) : t.outer = s.outer := by
  unfold execSiteCluMaskWrite at h
  refine outer_of_onUnit h ?_
  clear h
  try dsimp only
  try (repeat' split)
  all_goals (first | (simp (maxDischargeDepth := 30); done) | (try simp_all (maxDischargeDepth := 30)))
theorem execSiteTeMaskWrite_outer (fn : Nat) (st : Nat) (k : Nat) (val : Nat) (s : State) {t : State}
    (h : execSiteTeMaskWrite fn st k val s = .next t) : t.outer = s.outer := by
  unfold execSiteTeMaskWrite at h
  refine outer_of_onUnit h ?_
  clear h
  try dsimp only
  try (repeat' split)
  all_goals (first | (simp (maxDischargeDepth := 30); done) | (try simp_all (maxDischargeDepth := 30)))
theorem execSiteQueueRangeWrite_outer (fn : Nat) (st : Nat) (isCount : Bool) (val : Nat) (s : State) {t : State}
    (h : execSiteQueueRangeWrite fn st isCount val s = .next t) : t.outer = s.outer := by
  unfold execSiteQueueRangeWrite at h
  refine outer_of_onUnit h ?_
  clear h
  try dsimp only
  try (repeat' split)
  all_goals (first | (simp (maxDischargeDepth := 30); done) | (try simp_all (maxDischargeDepth := 30)))
theorem execHistSample_outer (k : Nat) (s : State) {t : State}
    (h : execHistSample k s = .next t) : t.outer = s.outer := by
  unfold execHistSample at h
  refine outer_of_onUnit h ?_
  clear h
  try dsimp only
  try (repeat' split)
  all_goals (first | (simp (maxDischargeDepth := 30); done) | (try simp_all (maxDischargeDepth := 30)))
theorem execHistRunStart_outer (fn : Nat) (k : Nat) (s : State) {t : State}
    (h : execHistRunStart fn k s = .next t) : t.outer = s.outer := by
  unfold execHistRunStart at h
  refine outer_of_onUnit h ?_
  clear h
  try dsimp only
  try (repeat' split)
  all_goals (first | (simp (maxDischargeDepth := 30); done) | (try simp_all (maxDischargeDepth := 30)))
theorem execHistRunStop_outer (fn : Nat) (k : Nat) (s : State) {t : State}
    (h : execHistRunStop fn k s = .next t) : t.outer = s.outer := by
  unfold execHistRunStop at h
  refine outer_of_onUnit h ?_
  clear h
  try dsimp only
  try (repeat' split)
  all_goals (first | (simp (maxDischargeDepth := 30); done) | (try simp_all (maxDischargeDepth := 30)))
theorem execHistClear_outer (fn : Nat) (k : Nat) (s : State) {t : State}
    (h : execHistClear fn k s = .next t) : t.outer = s.outer := by
  unfold execHistClear at h
  refine outer_of_onUnit h ?_
  clear h
  try dsimp only
  try (repeat' split)
  all_goals (first | (simp (maxDischargeDepth := 30); done) | (try simp_all (maxDischargeDepth := 30)))
theorem execCmdlatSample_outer (ns : Nat) (s : State) {t : State} (h : execCmdlatSample ns s = .next t) : t.outer = s.outer := by
  unfold execCmdlatSample at h
  refine outer_of_next h ?_
  clear h
  try dsimp only
  try (repeat' split)
  all_goals (first | (simp (maxDischargeDepth := 30); done) | (try simp_all (maxDischargeDepth := 30)))
theorem execQdepthSample_outer (s : State) {t : State} (h : execQdepthSample s = .next t) : t.outer = s.outer := by
  unfold execQdepthSample at h
  refine outer_of_next h ?_
  clear h
  try dsimp only
  try (repeat' split)
  all_goals (first | (simp (maxDischargeDepth := 30); done) | (try simp_all (maxDischargeDepth := 30)))
theorem execCmdClear_outer (fn : Nat) (s : State) {t : State}
    (h : execCmdClear fn s = .next t) : t.outer = s.outer := by
  unfold execCmdClear at h
  refine outer_of_onUnit h ?_
  clear h
  try dsimp only
  try (repeat' split)
  all_goals (first | (simp (maxDischargeDepth := 30); done) | (try simp_all (maxDischargeDepth := 30)))
theorem execQdClear_outer (fn : Nat) (s : State) {t : State}
    (h : execQdClear fn s = .next t) : t.outer = s.outer := by
  unfold execQdClear at h
  refine outer_of_onUnit h ?_
  clear h
  try dsimp only
  try (repeat' split)
  all_goals (first | (simp (maxDischargeDepth := 30); done) | (try simp_all (maxDischargeDepth := 30)))
theorem execErrEntryClose_outer (s : State) {t : State} (h : execErrEntryClose s = .next t) : t.outer = s.outer := by
  unfold execErrEntryClose at h
  refine outer_of_next h ?_
  clear h
  try dsimp only
  try (repeat' split)
  all_goals (first | (simp (maxDischargeDepth := 30); done) | (try simp_all (maxDischargeDepth := 30)))
theorem execErrReserveWrite_outer (s : State) {t : State}
    (h : execErrReserveWrite s = .next t) : t.outer = s.outer := by
  unfold execErrReserveWrite at h
  refine outer_of_next h ?_
  clear h
  try dsimp only
  try (repeat' split)
  all_goals (first | (simp (maxDischargeDepth := 30); done) | (try simp_all (maxDischargeDepth := 30)))
theorem execErrMirror_outer (s : State) {t : State} (h : execErrMirror s = .next t) : t.outer = s.outer := by
  unfold execErrMirror at h
  refine outer_of_next h ?_
  clear h
  try dsimp only
  try (repeat' split)
  all_goals (first | (simp (maxDischargeDepth := 30); done) | (try simp_all (maxDischargeDepth := 30)))
theorem execMcLoadDone_outer (sigs : Nat) (s : State) {t : State}
    (h : execMcLoadDone sigs s = .next t) : t.outer = s.outer := by
  unfold execMcLoadDone at h
  refine outer_of_next h ?_
  clear h
  try dsimp only
  try (repeat' split)
  all_goals (first | (simp (maxDischargeDepth := 30); done) | (try simp_all (maxDischargeDepth := 30)))
theorem execBankAccess_outer (l : List BankReq) (s : State) {t : State}
    (h : execBankAccess l s = .next t) : t.outer = s.outer := by
  unfold execBankAccess at h
  refine outer_of_onUnit h ?_
  clear h
  try dsimp only
  try (repeat' split)
  all_goals (first | (simp (maxDischargeDepth := 30); done) | (try simp_all (maxDischargeDepth := 30)))
theorem execBmemTestRegionStart_outer (s : State) {t : State}
    (h : execBmemTestRegionStart s = .next t) : t.outer = s.outer := by
  unfold execBmemTestRegionStart at h
  refine outer_of_next h ?_
  clear h
  try dsimp only
  try (repeat' split)
  all_goals (first | (simp (maxDischargeDepth := 30); done) | (try simp_all (maxDischargeDepth := 30)))
theorem execBmemMarchDone_outer (fails : List Nat) (s : State) {t : State}
    (h : execBmemMarchDone fails s = .next t) : t.outer = s.outer := by
  unfold execBmemMarchDone at h
  refine outer_of_next h ?_
  clear h
  try dsimp only
  try (repeat' split)
  all_goals (first | (simp (maxDischargeDepth := 30); done) | (try simp_all (maxDischargeDepth := 30)))
theorem execHbmTempRefresh_outer (t0 t1 t2 : Int × Nat) (s : State) {t : State}
    (h : execHbmTempRefresh t0 t1 t2 s = .next t) : t.outer = s.outer := by
  unfold execHbmTempRefresh at h
  refine outer_of_next h ?_
  clear h
  try dsimp only
  try (repeat' split)
  all_goals (first | (simp (maxDischargeDepth := 30); done) | (try simp_all (maxDischargeDepth := 30)))
theorem execHbmBwWindow_outer (i : Nat) (served : List Nat) (demand : List Nat) (thr : Nat) (bp : Bool)
    (s : State) {t : State} (h : execHbmBwWindow i served demand thr bp s = .next t) : t.outer = s.outer := by
  unfold execHbmBwWindow at h
  refine outer_of_onUnit h ?_
  clear h
  try dsimp only
  try (repeat' split)
  all_goals (first | (simp (maxDischargeDepth := 30); done) | (try simp_all (maxDischargeDepth := 30)))
theorem execCmdNop_outer (q : Nat) (s : State) {t : State} (h : execCmdNop q s = .next t) : t.outer = s.outer := by
  unfold execCmdNop at h
  refine outer_of_onUnit h ?_
  clear h
  try dsimp only
  try (repeat' split)
  all_goals (first | (simp (maxDischargeDepth := 30); done) | (try simp_all (maxDischargeDepth := 30)))
theorem execCmdUnknown_outer (q : Nat) (s : State) {t : State}
    (h : execCmdUnknown q s = .next t) : t.outer = s.outer := by
  unfold execCmdUnknown at h
  refine outer_of_onUnit h ?_
  clear h
  try dsimp only
  try (repeat' split)
  all_goals (first | (simp (maxDischargeDepth := 30); done) | (try simp_all (maxDischargeDepth := 30)))
theorem execCopyIn_outer (q : Nat) (data : List Byte) (s : State) {t : State}
    (h : execCopyIn q data s = .next t) : t.outer = s.outer := by
  unfold execCopyIn at h
  refine outer_of_onUnit h ?_
  clear h
  try dsimp only
  try (repeat' split)
  all_goals (first | (simp (maxDischargeDepth := 30); done) | (try simp_all (maxDischargeDepth := 30)))
theorem execCopyOut_outer (q : Nat) (err : Option Nat) (s : State) {t : State}
    (h : execCopyOut q err s = .next t) : t.outer = s.outer := by
  unfold execCopyOut at h
  refine outer_of_onUnit h ?_
  clear h
  try dsimp only
  try (repeat' split)
  all_goals (first | (simp (maxDischargeDepth := 30); done) | (try simp_all (maxDischargeDepth := 30)))
theorem execQueueOut_outer (q : Nat) (err : Option Nat) (s : State) {t : State}
    (h : execQueueOut q err s = .next t) : t.outer = s.outer := by
  unfold execQueueOut at h
  refine outer_of_onUnit h ?_
  clear h
  try dsimp only
  try (repeat' split)
  all_goals (first | (simp (maxDischargeDepth := 30); done) | (try simp_all (maxDischargeDepth := 30)))
theorem execBarrierSet_outer (q : Nat) (s : State) {t : State}
    (h : execBarrierSet q s = .next t) : t.outer = s.outer := by
  unfold execBarrierSet at h
  refine outer_of_onUnit h ?_
  clear h
  try dsimp only
  try (repeat' split)
  all_goals (first | (simp (maxDischargeDepth := 30); done) | (try simp_all (maxDischargeDepth := 30)))
theorem execFcuScrambleLoad_outer (q : Nat) (s : State) {t : State}
    (h : execFcuScrambleLoad q s = .next t) : t.outer = s.outer := by
  unfold execFcuScrambleLoad at h
  refine outer_of_onUnit h ?_
  clear h
  try dsimp only
  try (repeat' split)
  all_goals (first | (simp (maxDischargeDepth := 30); done) | (try simp_all (maxDischargeDepth := 30)))
theorem execCalRead_outer (q : Nat) (err : Option Nat) (s : State) {t : State}
    (h : execCalRead q err s = .next t) : t.outer = s.outer := by
  unfold execCalRead at h
  refine outer_of_onUnit h ?_
  clear h
  try dsimp only
  try (repeat' split)
  all_goals (first | (simp (maxDischargeDepth := 30); done) | (try simp_all (maxDischargeDepth := 30)))
theorem execMcInstall_outer (q : Nat) (key : List Byte) (s : State) {t : State}
    (h : execMcInstall q key s = .next t) : t.outer = s.outer := by
  unfold execMcInstall at h
  refine outer_of_onUnit h ?_
  clear h
  try dsimp only
  try (repeat' split)
  all_goals (first | (simp (maxDischargeDepth := 30); done) | (try simp_all (maxDischargeDepth := 30)))
theorem execMcInstallDone_outer (s : State) {t : State} (h : execMcInstallDone s = .next t) : t.outer = s.outer := by
  unfold execMcInstallDone at h
  refine outer_of_next h ?_
  clear h
  try dsimp only
  try (repeat' split)
  all_goals (first | (simp (maxDischargeDepth := 30); done) | (try simp_all (maxDischargeDepth := 30)))
theorem execMemGrant_outer (q : Nat) (s : State) {t : State}
    (h : execMemGrant q s = .next t) : t.outer = s.outer := by
  unfold execMemGrant at h
  refine outer_of_onUnit h ?_
  clear h
  try dsimp only
  try (repeat' split)
  all_goals (first | (simp (maxDischargeDepth := 30); done) | (try simp_all (maxDischargeDepth := 30)))
theorem execMemGrantDone_outer (s : State) {t : State} (h : execMemGrantDone s = .next t) : t.outer = s.outer := by
  unfold execMemGrantDone at h
  refine outer_of_next h ?_
  clear h
  try dsimp only
  try (repeat' split)
  all_goals (first | (simp (maxDischargeDepth := 30); done) | (try simp_all (maxDischargeDepth := 30)))
theorem execHbmUncorrRead_outer (addr : Nat) (who : Nat) (i : Nat) (j : Nat) (s : State) {t : State}
    (h : execHbmUncorrRead addr who i j s = .next t) : t.outer = s.outer := by
  unfold execHbmUncorrRead at h
  refine outer_of_onUnit h ?_
  clear h
  try dsimp only
  try (repeat' split)
  all_goals (first | (simp (maxDischargeDepth := 30); done) | (try simp_all (maxDischargeDepth := 30)))
theorem execGlbHostTimeCommit_outer (fn : Nat) (hi : Nat) (s : State) {t : State}
    (h : execGlbHostTimeCommit fn hi s = .next t) : t.outer = s.outer := by
  unfold execGlbHostTimeCommit at h
  refine outer_of_onUnit h ?_
  clear h
  try dsimp only
  try (repeat' split)
  all_goals (first | (simp (maxDischargeDepth := 30); done) | (try simp_all (maxDischargeDepth := 30)))
theorem execHwBoundWrite_outer (s : State) {t : State} (h : execHwBoundWrite s = .next t) : t.outer = s.outer := by
  unfold execHwBoundWrite at h
  refine outer_of_next h ?_
  clear h
  try dsimp only
  try (repeat' split)
  all_goals (first | (simp (maxDischargeDepth := 30); done) | (try simp_all (maxDischargeDepth := 30)))
theorem execDoeUnknown_outer (fn : Nat) (raw : List Byte) (s : State) {t : State}
    (h : execDoeUnknown fn raw s = .next t) : t.outer = s.outer := by
  unfold execDoeUnknown at h
  refine outer_of_onUnit h ?_
  clear h
  try dsimp only
  try (repeat' split)
  all_goals (first | (simp (maxDischargeDepth := 30); done) | (try simp_all (maxDischargeDepth := 30)))
theorem execDoeStatus_outer (fn : Nat) (raw : List Byte) (s : State) {t : State}
    (h : execDoeStatus fn raw s = .next t) : t.outer = s.outer := by
  unfold execDoeStatus at h
  refine outer_of_onUnit h ?_
  clear h
  try dsimp only
  try (repeat' split)
  all_goals (first | (simp (maxDischargeDepth := 30); done) | (try simp_all (maxDischargeDepth := 30)))
theorem execLoad_outer (fn : Nat) (head src len dest : List Byte) (s : State) {t : State}
    (h : execLoad fn head src len dest s = .next t) : t.outer = s.outer := by
  unfold execLoad at h
  refine outer_of_onUnit h ?_
  clear h
  try dsimp only
  try (repeat' split)
  all_goals (first | (simp (maxDischargeDepth := 30); done) | (try simp_all (maxDischargeDepth := 30)))
theorem execUnload_outer (fn : Nat) (raw : List Byte) (s : State) {t : State}
    (h : execUnload fn raw s = .next t) : t.outer = s.outer := by
  unfold execUnload at h
  refine outer_of_onUnit h ?_
  clear h
  try dsimp only
  try (repeat' split)
  all_goals (first | (simp (maxDischargeDepth := 30); done) | (try simp_all (maxDischargeDepth := 30)))
theorem execFwInstall_outer (fn : Nat) (raw : List Byte) (sig : FwVerdict) (s : State) {t : State}
    (h : execFwInstall fn raw sig s = .next t) : t.outer = s.outer := by
  unfold execFwInstall at h
  refine outer_of_onUnit h ?_
  clear h
  try dsimp only
  try (repeat' split)
  all_goals (first | (simp (maxDischargeDepth := 30); done) | (try simp_all (maxDischargeDepth := 30)))
theorem execFwRecover_outer (fn : Nat) (raw : List Byte) (sig : FwVerdict) (s : State) {t : State}
    (h : execFwRecover fn raw sig s = .next t) : t.outer = s.outer := by
  unfold execFwRecover at h
  refine outer_of_onUnit h ?_
  clear h
  try dsimp only
  try (repeat' split)
  all_goals (first | (simp (maxDischargeDepth := 30); done) | (try simp_all (maxDischargeDepth := 30)))
theorem execFloorCommit_outer (fn : Nat) (raw : List Byte) (s : State) {t : State}
    (h : execFloorCommit fn raw s = .next t) : t.outer = s.outer := by
  unfold execFloorCommit at h
  refine outer_of_onUnit h ?_
  clear h
  try dsimp only
  try (repeat' split)
  all_goals (first | (simp (maxDischargeDepth := 30); done) | (try simp_all (maxDischargeDepth := 30)))
theorem execSecSealedSitesWrite_outer (fn : Nat) (val : Nat) (s : State) {t : State}
    (h : execSecSealedSitesWrite fn val s = .next t) : t.outer = s.outer := by
  unfold execSecSealedSitesWrite at h
  refine outer_of_onUnit h ?_
  clear h
  try dsimp only
  try (repeat' split)
  all_goals (first | (simp (maxDischargeDepth := 30); done) | (try simp_all (maxDischargeDepth := 30)))
theorem execLifecycleTransition_outer (fn : Nat) (to_ : Nat) (token : Nat) (rest : Nat) (s : State) {t : State}
    (h : execLifecycleTransition fn to_ token rest s = .next t) : t.outer = s.outer := by
  unfold execLifecycleTransition at h
  refine outer_of_onUnit h ?_
  clear h
  try dsimp only
  try (repeat' split)
  all_goals (first | (simp (maxDischargeDepth := 30); done) | (try simp_all (maxDischargeDepth := 30)))
theorem execLcDone_outer (s : State) {t : State} (h : execLcDone s = .next t) : t.outer = s.outer := by
  unfold execLcDone at h
  refine outer_of_next h ?_
  clear h
  try dsimp only
  try (repeat' split)
  all_goals (first | (simp (maxDischargeDepth := 30); done) | (try simp_all (maxDischargeDepth := 30)))
theorem execTamper_outer (src : Nat) (s : State) {t : State}
    (h : execTamper src s = .next t) : t.outer = s.outer := by
  unfold execTamper at h
  refine outer_of_onUnit h ?_
  clear h
  try dsimp only
  try (repeat' split)
  all_goals (first | (simp (maxDischargeDepth := 30); done) | (try simp_all (maxDischargeDepth := 30)))
theorem execTamperConditionEnd_outer (src : Nat) (s : State) {t : State}
    (h : execTamperConditionEnd src s = .next t) : t.outer = s.outer := by
  unfold execTamperConditionEnd at h
  refine outer_of_onUnit h ?_
  clear h
  try dsimp only
  try (repeat' split)
  all_goals (first | (simp (maxDischargeDepth := 30); done) | (try simp_all (maxDischargeDepth := 30)))
theorem execIdeIntegrityFail_outer (fn : Nat) (s : State) {t : State}
    (h : execIdeIntegrityFail fn s = .next t) : t.outer = s.outer := by
  unfold execIdeIntegrityFail at h
  refine outer_of_onUnit h ?_
  clear h
  try dsimp only
  try (repeat' split)
  all_goals (first | (simp (maxDischargeDepth := 30); done) | (try simp_all (maxDischargeDepth := 30)))
theorem execSpdmGetVersion_outer (path : Nat) (s : State) {t : State}
    (h : execSpdmGetVersion path s = .next t) : t.outer = s.outer := by
  unfold execSpdmGetVersion at h
  refine State.onSpdm_outer _ _ _ _ (fun u => ?_) h
  clear h
  try dsimp only
  try (repeat' split)
  all_goals (first | (simp (maxDischargeDepth := 30); done) | (try simp_all (maxDischargeDepth := 30)))
theorem execSpdmGetCapabilities_outer (path : Nat) (req : List Byte) (s : State) {t : State}
    (h : execSpdmGetCapabilities path req s = .next t) : t.outer = s.outer := by
  unfold execSpdmGetCapabilities at h
  refine State.onSpdm_outer _ _ _ _ (fun u => ?_) h
  clear h
  try dsimp only
  try (repeat' split)
  all_goals (first | (simp (maxDischargeDepth := 30); done) | (try simp_all (maxDischargeDepth := 30)))
theorem execSpdmNegotiateAlgorithms_outer (path : Nat) (req : List Byte) (s : State) {t : State}
    (h : execSpdmNegotiateAlgorithms path req s = .next t) : t.outer = s.outer := by
  unfold execSpdmNegotiateAlgorithms at h
  refine State.onSpdm_outer _ _ _ _ (fun u => ?_) h
  clear h
  try dsimp only
  try (repeat' split)
  all_goals (first | (simp (maxDischargeDepth := 30); done) | (try simp_all (maxDischargeDepth := 30)))
theorem execSpdmGetDigests_outer (path : Nat) (s : State) {t : State}
    (h : execSpdmGetDigests path s = .next t) : t.outer = s.outer := by
  unfold execSpdmGetDigests at h
  refine State.onSpdm_outer _ _ _ _ (fun u => ?_) h
  clear h
  try dsimp only
  try (repeat' split)
  all_goals (first | (simp (maxDischargeDepth := 30); done) | (try simp_all (maxDischargeDepth := 30)))
theorem execSpdmGetCertificate_outer (path : Nat) (slot : Nat) (off : Nat) (len : Nat) (s : State) {t : State}
    (h : execSpdmGetCertificate path slot off len s = .next t) : t.outer = s.outer := by
  unfold execSpdmGetCertificate at h
  refine State.onSpdm_outer _ _ _ _ (fun u => ?_) h
  clear h
  try dsimp only
  try (repeat' split)
  all_goals (first | (simp (maxDischargeDepth := 30); done) | (try simp_all (maxDischargeDepth := 30)))
theorem execSpdmChallenge_outer (path : Nat) (req : List Byte) (s : State) {t : State}
    (h : execSpdmChallenge path req s = .next t) : t.outer = s.outer := by
  unfold execSpdmChallenge at h
  refine State.onSpdm_outer _ _ _ _ (fun u => ?_) h
  clear h
  try dsimp only
  try (repeat' split)
  all_goals (first | (simp (maxDischargeDepth := 30); done) | (try simp_all (maxDischargeDepth := 30)))
theorem execSpdmGetMeasurements_outer (path : Nat) (req : List Byte) (s : State) {t : State}
    (h : execSpdmGetMeasurements path req s = .next t) : t.outer = s.outer := by
  unfold execSpdmGetMeasurements at h
  refine State.onSpdm_outer _ _ _ _ (fun u => ?_) h
  clear h
  try dsimp only
  try (repeat' split)
  all_goals (first | (simp (maxDischargeDepth := 30); done) | (try simp_all (maxDischargeDepth := 30)))
theorem execSpdmKeyExchange_outer (path : Nat) (req : List Byte) (s : State) {t : State}
    (h : execSpdmKeyExchange path req s = .next t) : t.outer = s.outer := by
  unfold execSpdmKeyExchange at h
  refine State.onSpdm_outer _ _ _ _ (fun u => ?_) h
  clear h
  try dsimp only
  try (repeat' split)
  all_goals (first | (simp (maxDischargeDepth := 30); done) | (try simp_all (maxDischargeDepth := 30)))
theorem execSpdmFinish_outer (path : Nat) (ok : Bool) (s : State) {t : State}
    (h : execSpdmFinish path ok s = .next t) : t.outer = s.outer := by
  unfold execSpdmFinish at h
  refine State.onSpdm_outer _ _ _ _ (fun u => ?_) h
  clear h
  try dsimp only
  try (repeat' split)
  all_goals (first | (simp (maxDischargeDepth := 30); done) | (try simp_all (maxDischargeDepth := 30)))
theorem execSpdmHeartbeat_outer (path : Nat) (s : State) {t : State}
    (h : execSpdmHeartbeat path s = .next t) : t.outer = s.outer := by
  unfold execSpdmHeartbeat at h
  refine State.onSpdm_outer _ _ _ _ (fun u => ?_) h
  clear h
  try dsimp only
  try (repeat' split)
  all_goals (first | (simp (maxDischargeDepth := 30); done) | (try simp_all (maxDischargeDepth := 30)))
theorem execSpdmKeyUpdate_outer (path : Nat) (s : State) {t : State}
    (h : execSpdmKeyUpdate path s = .next t) : t.outer = s.outer := by
  unfold execSpdmKeyUpdate at h
  refine State.onSpdm_outer _ _ _ _ (fun u => ?_) h
  clear h
  try dsimp only
  try (repeat' split)
  all_goals (first | (simp (maxDischargeDepth := 30); done) | (try simp_all (maxDischargeDepth := 30)))
theorem execSpdmEndSession_outer (path : Nat) (s : State) {t : State}
    (h : execSpdmEndSession path s = .next t) : t.outer = s.outer := by
  unfold execSpdmEndSession at h
  refine State.onSpdm_outer _ _ _ _ (fun u => ?_) h
  clear h
  try dsimp only
  try (repeat' split)
  all_goals (first | (simp (maxDischargeDepth := 30); done) | (try simp_all (maxDischargeDepth := 30)))
theorem execSpdmUnsupported_outer (path : Nat) (s : State) {t : State}
    (h : execSpdmUnsupported path s = .next t) : t.outer = s.outer := by
  unfold execSpdmUnsupported at h
  refine State.onSpdm_outer _ _ _ _ (fun u => ?_) h
  clear h
  try dsimp only
  try (repeat' split)
  all_goals (first | (simp (maxDischargeDepth := 30); done) | (try simp_all (maxDischargeDepth := 30)))
theorem execIdeKm_outer (req : IdeKm) (s : State) {t : State}
    (h : execIdeKm req s = .next t) : t.outer = s.outer := by
  unfold execIdeKm at h
  refine State.onSpdm_outer _ _ _ _ (fun u => ?_) h
  clear h
  try dsimp only
  try (repeat' split)
  all_goals (first | (simp (maxDischargeDepth := 30); done) | (try simp_all (maxDischargeDepth := 30)))
theorem execSetEndpointId_outer (op : Nat) (eid : Nat) (s : State) {t : State}
    (h : execSetEndpointId op eid s = .next t) : t.outer = s.outer := by
  unfold execSetEndpointId at h
  refine outer_of_next h ?_
  clear h
  try dsimp only
  try (repeat' split)
  all_goals (first | (simp (maxDischargeDepth := 30); done) | (try simp_all (maxDischargeDepth := 30)))
theorem execGetEndpointId_outer (s : State) {t : State} (h : execGetEndpointId s = .next t) : t.outer = s.outer := by
  unfold execGetEndpointId at h
  refine outer_of_next h ?_
  clear h
  try dsimp only
  try (repeat' split)
  all_goals (first | (simp (maxDischargeDepth := 30); done) | (try simp_all (maxDischargeDepth := 30)))
theorem execGetEndpointUuid_outer (s : State) {t : State}
    (h : execGetEndpointUuid s = .next t) : t.outer = s.outer := by
  unfold execGetEndpointUuid at h
  refine outer_of_next h ?_
  clear h
  try dsimp only
  try (repeat' split)
  all_goals (first | (simp (maxDischargeDepth := 30); done) | (try simp_all (maxDischargeDepth := 30)))
theorem execGetMctpVersionSupport_outer (type : Nat) (s : State) {t : State}
    (h : execGetMctpVersionSupport type s = .next t) : t.outer = s.outer := by
  unfold execGetMctpVersionSupport at h
  refine outer_of_next h ?_
  clear h
  try dsimp only
  try (repeat' split)
  all_goals (first | (simp (maxDischargeDepth := 30); done) | (try simp_all (maxDischargeDepth := 30)))
theorem execGetMessageTypeSupport_outer (s : State) {t : State}
    (h : execGetMessageTypeSupport s = .next t) : t.outer = s.outer := by
  unfold execGetMessageTypeSupport at h
  refine outer_of_next h ?_
  clear h
  try dsimp only
  try (repeat' split)
  all_goals (first | (simp (maxDischargeDepth := 30); done) | (try simp_all (maxDischargeDepth := 30)))
theorem execMctpUnsupported_outer (type : Nat) (cmd : Nat) (s : State) {t : State}
    (h : execMctpUnsupported type cmd s = .next t) : t.outer = s.outer := by
  unfold execMctpUnsupported at h
  refine outer_of_next h ?_
  clear h
  try dsimp only
  try (repeat' split)
  all_goals (first | (simp (maxDischargeDepth := 30); done) | (try simp_all (maxDischargeDepth := 30)))
theorem execExtest_outer (seen : Nat) (drive : Nat) (s : State) {t : State}
    (h : execExtest seen drive s = .next t) : t.outer = s.outer := by
  unfold execExtest at h
  refine outer_of_next h ?_
  clear h
  try dsimp only
  try (repeat' split)
  all_goals (first | (simp (maxDischargeDepth := 30); done) | (try simp_all (maxDischargeDepth := 30)))
theorem execIdcode_outer (s : State) {t : State} (h : execIdcode s = .next t) : t.outer = s.outer := by
  unfold execIdcode at h
  refine outer_of_next h ?_
  clear h
  try dsimp only
  try (repeat' split)
  all_goals (first | (simp (maxDischargeDepth := 30); done) | (try simp_all (maxDischargeDepth := 30)))
theorem execSamplePreload_outer (seen : Nat) (load : Nat) (s : State) {t : State}
    (h : execSamplePreload seen load s = .next t) : t.outer = s.outer := by
  unfold execSamplePreload at h
  refine outer_of_next h ?_
  clear h
  try dsimp only
  try (repeat' split)
  all_goals (first | (simp (maxDischargeDepth := 30); done) | (try simp_all (maxDischargeDepth := 30)))
theorem execClamp_outer (s : State) {t : State} (h : execClamp s = .next t) : t.outer = s.outer := by
  unfold execClamp at h
  refine outer_of_next h ?_
  clear h
  try dsimp only
  try (repeat' split)
  all_goals (first | (simp (maxDischargeDepth := 30); done) | (try simp_all (maxDischargeDepth := 30)))
theorem execHighz_outer (s : State) {t : State} (h : execHighz s = .next t) : t.outer = s.outer := by
  unfold execHighz at h
  refine outer_of_next h ?_
  clear h
  try dsimp only
  try (repeat' split)
  all_goals (first | (simp (maxDischargeDepth := 30); done) | (try simp_all (maxDischargeDepth := 30)))
theorem execBypass_outer (code : Nat) (s : State) {t : State}
    (h : execBypass code s = .next t) : t.outer = s.outer := by
  unfold execBypass at h
  refine outer_of_next h ?_
  clear h
  try dsimp only
  try (repeat' split)
  all_goals (first | (simp (maxDischargeDepth := 30); done) | (try simp_all (maxDischargeDepth := 30)))
theorem execBlkEnClear_outer (fn : Nat) (ty : Nat) (inst : Nat) (s : State) {t : State}
    (h : execBlkEnClear fn ty inst s = .next t) : t.outer = s.outer := by
  unfold execBlkEnClear at h
  refine outer_of_onUnit h ?_
  clear h
  try dsimp only
  try (repeat' split)
  all_goals (first | (simp (maxDischargeDepth := 30); done) | (try simp_all (maxDischargeDepth := 30)))
theorem execBlkEnSet_outer (fn : Nat) (ty : Nat) (inst : Nat) (s : State) {t : State}
    (h : execBlkEnSet fn ty inst s = .next t) : t.outer = s.outer := by
  unfold execBlkEnSet at h
  refine outer_of_onUnit h ?_
  clear h
  try dsimp only
  try (repeat' split)
  all_goals (first | (simp (maxDischargeDepth := 30); done) | (try simp_all (maxDischargeDepth := 30)))
theorem execBlkSoftReset_outer (fn : Nat) (ty : Nat) (inst : Nat) (s : State) {t : State}
    (h : execBlkSoftReset fn ty inst s = .next t) : t.outer = s.outer := by
  unfold execBlkSoftReset at h
  refine outer_of_onUnit h ?_
  clear h
  try dsimp only
  try (repeat' split)
  all_goals (first | (simp (maxDischargeDepth := 30); done) | (try simp_all (maxDischargeDepth := 30)))
theorem execBlkLock_outer (fn : Nat) (ty : Nat) (inst : Nat) (s : State) {t : State}
    (h : execBlkLock fn ty inst s = .next t) : t.outer = s.outer := by
  unfold execBlkLock at h
  refine outer_of_onUnit h ?_
  clear h
  try dsimp only
  try (repeat' split)
  all_goals (first | (simp (maxDischargeDepth := 30); done) | (try simp_all (maxDischargeDepth := 30)))
theorem execSoftResetDone_outer (ty : Nat) (inst : Nat) (s : State) {t : State}
    (h : execSoftResetDone ty inst s = .next t) : t.outer = s.outer := by
  unfold execSoftResetDone at h
  refine outer_of_onUnit h ?_
  clear h
  try dsimp only
  try (repeat' split)
  all_goals (first | (simp (maxDischargeDepth := 30); done) | (try simp_all (maxDischargeDepth := 30)))
theorem execBlkIrqSet_outer (fn : Nat) (ty : Nat) (inst : Nat) (val : Nat) (s : State) {t : State}
    (h : execBlkIrqSet fn ty inst val s = .next t) : t.outer = s.outer := by
  unfold execBlkIrqSet at h
  refine outer_of_onUnit h ?_
  clear h
  try dsimp only
  try (repeat' split)
  all_goals (first | (simp (maxDischargeDepth := 30); done) | (try simp_all (maxDischargeDepth := 30)))
theorem execBlkIrqEnableWrite_outer (fn : Nat) (ty : Nat) (inst : Nat) (val : Nat) (s : State) {t : State}
    (h : execBlkIrqEnableWrite fn ty inst val s = .next t) : t.outer = s.outer := by
  unfold execBlkIrqEnableWrite at h
  refine outer_of_onUnit h ?_
  clear h
  try dsimp only
  try (repeat' split)
  all_goals (first | (simp (maxDischargeDepth := 30); done) | (try simp_all (maxDischargeDepth := 30)))
theorem execBroadcastWrite_outer (fn : Nat) (ty : Nat) (inst : Nat) (off : Nat) (val : Nat) (s : State)
    {t : State} (h : execBroadcastWrite fn ty inst off val s = .next t) : t.outer = s.outer := by
  unfold execBroadcastWrite at h
  refine outer_of_onUnit h ?_
  clear h
  try dsimp only
  try (repeat' split)
  all_goals (first | (simp (maxDischargeDepth := 30); done) | (try simp_all (maxDischargeDepth := 30)))
theorem execRegWrite_outer (fn : Nat) (a : Nat) (be : Nat) (val : Nat) (s : State) {t : State}
    (h : execRegWrite fn a be val s = .next t) : t.outer = s.outer := by
  unfold execRegWrite at h
  refine outer_of_onUnit h ?_
  clear h
  try dsimp only
  try (repeat' split)
  all_goals (first | (simp (maxDischargeDepth := 30); done) | (try simp_all (maxDischargeDepth := 30)))
theorem execRcRead_outer (fn : Nat) (a : Nat) (be : Nat) (s : State) {t : State}
    (h : execRcRead fn a be s = .next t) : t.outer = s.outer := by
  unfold execRcRead at h
  refine outer_of_onUnit h ?_
  clear h
  try dsimp only
  try (repeat' split)
  all_goals (first | (simp (maxDischargeDepth := 30); done) | (try simp_all (maxDischargeDepth := 30)))
theorem execPairLoWrite_outer (fn : Nat) (ty : Nat) (inst : Nat) (lo : Nat) (val : Nat) (s : State) {t : State}
    (h : execPairLoWrite fn ty inst lo val s = .next t) : t.outer = s.outer := by
  unfold execPairLoWrite at h
  refine outer_of_onUnit h ?_
  clear h
  try dsimp only
  try (repeat' split)
  all_goals (first | (simp (maxDischargeDepth := 30); done) | (try simp_all (maxDischargeDepth := 30)))
theorem execPairHiCommit_outer (fn : Nat) (ty : Nat) (inst : Nat) (lo : Nat) (val : Nat) (s : State) {t : State}
    (h : execPairHiCommit fn ty inst lo val s = .next t) : t.outer = s.outer := by
  unfold execPairHiCommit at h
  refine outer_of_onUnit h ?_
  clear h
  try dsimp only
  try (repeat' split)
  all_goals (first | (simp (maxDischargeDepth := 30); done) | (try simp_all (maxDischargeDepth := 30)))
theorem execPairLoRead_outer (fn : Nat) (ty : Nat) (inst : Nat) (lo : Nat) (s : State) {t : State}
    (h : execPairLoRead fn ty inst lo s = .next t) : t.outer = s.outer := by
  unfold execPairLoRead at h
  refine outer_of_onUnit h ?_
  clear h
  try dsimp only
  try (repeat' split)
  all_goals (first | (simp (maxDischargeDepth := 30); done) | (try simp_all (maxDischargeDepth := 30)))
theorem execBind_outer (fn : Nat) (raw : List Byte) (s : State) {t : State}
    (h : execBind fn raw s = .next t) : t.outer = s.outer := by
  unfold execBind at h
  refine outer_of_onUnit h ?_
  clear h
  try dsimp only
  try (repeat' split)
  all_goals (first | (simp (maxDischargeDepth := 30); done) | (try simp_all (maxDischargeDepth := 30)))

theorem execHbmClearDone_outer (failed : Nat) (s : State) {t : State}
    (h : execHbmClearDone failed s = .next t) : t.outer = s.outer := by
  unfold execHbmClearDone at h
  refine outer_of_next h ?_
  clear h
  try dsimp only
  try (repeat' split)
  all_goals (first | (simp (maxDischargeDepth := 30); done) | (try simp_all (maxDischargeDepth := 30)))
theorem execRekeyDone_outer (h : Nat) (s : State) {t : State}
    (h : execRekeyDone h s = .next t) : t.outer = s.outer := by
  unfold execRekeyDone at h
  refine outer_of_onUnit h ?_
  clear h
  try dsimp only
  try (repeat' split)
  all_goals (first | (simp (maxDischargeDepth := 30); done) | (try simp_all (maxDischargeDepth := 30)))
theorem execResultFrameClose_outer (st : Nat) (kind : Nat) (inst : Nat) (s : State) {t : State}
    (h : execResultFrameClose st kind inst s = .next t) : t.outer = s.outer := by
  unfold execResultFrameClose at h
  refine outer_of_onUnit h ?_
  clear h
  try dsimp only
  try (repeat' split)
  all_goals (first | (simp (maxDischargeDepth := 30); done) | (try simp_all (maxDischargeDepth := 30)))
theorem execNorRecordWriteDone_outer (s : State) {t : State}
    (h : execNorRecordWriteDone s = .next t) : t.outer = s.outer := by
  unfold execNorRecordWriteDone at h
  refine outer_of_next h ?_
  clear h
  try dsimp only
  try (repeat' split)
  all_goals (first | (simp (maxDischargeDepth := 30); done) | (try simp_all (maxDischargeDepth := 30)))

end Sys2Proof.Machine
end

