-- ==== Sys2Proof/Laws/Fixed.lean ====
section
/-! SUPPORT. TT, the straps and OTP change only under the few commands that name them: every other operation keeps what `State.fixed`
reads, one law each. -/

namespace Sys2Proof.Machine

/-- TT's root count and whether it runs, the straps, OTP. -/
def State.fixed (s : State) : Nat × Bool × Bool × Nat × Otp := (s.root, s.everLocked, s.bifur, s.smbAddr, s.otp)

variable (s : State)
@[simp] theorem State.modFn_fixed (i : Nat) (f : Fn → Fn) : (s.modFn i f).fixed = s.fixed := (rfl)
@[simp] theorem State.modSite_fixed (i : Nat) (f : Site → Site) : (s.modSite i f).fixed = s.fixed := (rfl)
@[simp] theorem State.modQueue_fixed (i : Nat) (f : QDesc → QDesc) : (s.modQueue i f).fixed = s.fixed := (rfl)
@[simp] theorem State.modHbm_fixed (i : Nat) (f : Hbm → Hbm) : (s.modHbm i f).fixed = s.fixed := (rfl)
@[simp] theorem State.modCal_fixed (i : Nat) (f : Cal → Cal) : (s.modCal i f).fixed = s.fixed := (rfl)
@[simp] theorem State.modClu_fixed (i : Nat) (f : Clu → Clu) : (s.modClu i f).fixed = s.fixed := (rfl)
@[simp] theorem State.modRgn_fixed (i : Nat) (f : Rgn → Rgn) : (s.modRgn i f).fixed = s.fixed := (rfl)
@[simp] theorem State.modFcu_fixed (i : Nat) (f : Fcu → Fcu) : (s.modFcu i f).fixed = s.fixed := (rfl)
@[simp] theorem State.modMadc_fixed (i : Nat) (f : Madc → Madc) : (s.modMadc i f).fixed = s.fixed := (rfl)
@[simp] theorem State.modAcq_fixed (i : Nat) (f : Acq → Acq) : (s.modAcq i f).fixed = s.fixed := (rfl)
@[simp] theorem State.modHist_fixed (i : Nat) (f : Hist → Hist) : (s.modHist i f).fixed = s.fixed := (rfl)
@[simp] theorem State.modChan_fixed (i : Nat) (f : Chan → Chan) : (s.modChan i f).fixed = s.fixed := (rfl)
@[simp] theorem State.modTe_fixed (i : Nat) (f : Eng → Eng) : (s.modTe i f).fixed = s.fixed := (rfl)
@[simp] theorem State.modFault_fixed (i : Nat) (f : Fault1 → Fault1) : (s.modFault i f).fixed = s.fixed := (rfl)
@[simp] theorem State.modTrigIn_fixed (i : Nat) (f : TrigIn → TrigIn) : (s.modTrigIn i f).fixed = s.fixed := (rfl)
@[simp] theorem State.modTrigOut_fixed (i : Nat) (f : TrigOut → TrigOut) : (s.modTrigOut i f).fixed = s.fixed := (rfl)
@[simp] theorem State.modSecSite_fixed (i : Nat) (f : SecSite → SecSite) : (s.modSecSite i f).fixed = s.fixed := (rfl)
@[simp] theorem State.modGlb_fixed (f : Glb → Glb) : (s.modGlb f).fixed = s.fixed := (rfl)
@[simp] theorem State.modPwr_fixed (f : Pwr → Pwr) : (s.modPwr f).fixed = s.fixed := (rfl)
@[simp] theorem State.modClk_fixed (f : Clk → Clk) : (s.modClk f).fixed = s.fixed := (rfl)
@[simp] theorem State.modSync_fixed (f : Sync → Sync) : (s.modSync f).fixed = s.fixed := (rfl)
@[simp] theorem State.modSec_fixed (f : Sec → Sec) : (s.modSec f).fixed = s.fixed := (rfl)
@[simp] theorem State.modErr_fixed (f : ErrLog → ErrLog) : (s.modErr f).fixed = s.fixed := (rfl)
@[simp] theorem State.modHlth_fixed (f : Hlth → Hlth) : (s.modHlth f).fixed = s.fixed := (rfl)
@[simp] theorem State.modBmem_fixed (f : Bmem → Bmem) : (s.modBmem f).fixed = s.fixed := (rfl)
@[simp] theorem State.modQmgr_fixed (f : Qmgr → Qmgr) : (s.modQmgr f).fixed = s.fixed := (rfl)
@[simp] theorem State.modNor_fixed (f : Nor → Nor) : (s.modNor f).fixed = s.fixed := (rfl)
@[simp] theorem State.modSmb_fixed (f : Smb → Smb) : (s.modSmb f).fixed = s.fixed := (rfl)
@[simp] theorem State.modJtag_fixed (f : Jtag → Jtag) : (s.modJtag f).fixed = s.fixed := (rfl)
@[simp] theorem State.modHdr_fixed (a i : Nat) (f : Hdr → Hdr) : (s.modHdr a i f).fixed = s.fixed := (rfl)
@[simp] theorem State.setStores_fixed (x : Tbl CStore) : ({ s with stores := x } : State).fixed = s.fixed := (rfl)
@[simp] theorem State.setMicro_fixed (x : Tbl McImage) : ({ s with micro := x } : State).fixed = s.fixed := (rfl)
@[simp] theorem State.setPcache_fixed (x : List CLine) : ({ s with pcache := x } : State).fixed = s.fixed := (rfl)
@[simp] theorem State.setReturned_fixed (x : List Seg) : ({ s with returned := x } : State).fixed = s.fixed := (rfl)
@[simp] theorem State.setByte_fixed (a : Nat) (b : Byte) : (s.setByte a b).fixed = s.fixed := (rfl)
@[simp] theorem State.wipe_fixed (a n : Nat) : (s.wipe a n).fixed = s.fixed := (rfl)
@[simp] theorem State.emit_fixed (x : Out) : (s.emit x).fixed = s.fixed := (rfl)
@[simp] theorem State.useFree_fixed : s.useFree.fixed = s.fixed := (rfl)
@[simp] theorem State.setBytes_fixed (a : Nat) (l : List Byte) : (s.setBytes a l).fixed = s.fixed := by
  induction l generalizing s a with
  | nil => rfl
  | cons b t ih => exact (ih (s.setByte a b) (a + 1)).trans rfl
@[simp] theorem forEach_fixed (l : List Nat) (f : Nat → State → State) (hf : ∀ i t, (f i t).fixed = t.fixed) :
    (forEach l f s).fixed = s.fixed := by
  induction l generalizing s with
  | nil => rfl
  | cons i t ih => exact (ih (f i s)).trans (hf i s)
@[simp] theorem when_fixed (c : Bool) (f : State → State) (hf : ∀ t, (f t).fixed = t.fixed) :
    (when c f s).fixed = s.fixed := by cases c <;> simp [hf]
@[simp] theorem foldl_fixed {α : Type} (l : List α) (f : State → α → State) (hf : ∀ t a, (f t a).fixed = t.fixed) :
    (l.foldl f s).fixed = s.fixed := by
  induction l generalizing s with
  | nil => rfl
  | cons a t ih => exact (ih (f s a)).trans (hf s a)
@[simp] theorem foldlFst_fixed {α β : Type} (l : List α) (p : State × β) (f : State × β → α → State × β)
    (hf : ∀ p a, (f p a).1.fixed = p.1.fixed) : (l.foldl f p).1.fixed = p.1.fixed := by
  induction l generalizing p with
  | nil => rfl
  | cons a t ih => exact (ih (f p a)).trans (hf p a)
@[simp] theorem ite_fixed {a b : State} (c : Prop) [Decidable c] :
    (if c then a else b).fixed = if c then a.fixed else b.fixed := by split <;> rfl

theorem fixed_of_ite {s a b : State} (c : Prop) [Decidable c] (ha : a.fixed = s.fixed) (hb : b.fixed = s.fixed) :
    (if c then a else b).fixed = s.fixed := by split <;> assumption

end Sys2Proof.Machine
end

