-- ==== Sys2Proof/Laws/FixedOps.lean ====
section
/-! SUPPORT. Operations of Ops keep what `State.fixed` reads. -/

namespace Sys2Proof.Machine

@[simp] theorem State.loadStore_fixed (s : State) (e : Nat)  :
    (State.loadStore s e).fixed = s.fixed := by
  unfold State.loadStore
  try dsimp only
  try (repeat' split)
  all_goals (first | (simp (maxDischargeDepth := 30); done) | (try simp_all (maxDischargeDepth := 30)))
@[simp] theorem State.setCopy_fixed (s : State) (r : Nat) (i : McImage)  :
    (State.setCopy s r i).fixed = s.fixed := by
  unfold State.setCopy
  try dsimp only
  try (repeat' split)
  all_goals (first | (simp (maxDischargeDepth := 30); done) | (try simp_all (maxDischargeDepth := 30)))
@[simp] theorem State.installBegin_fixed (s : State) (r : Nat) (at_ : Nat)  :
    (State.installBegin s r at_).fixed = s.fixed := by
  unfold State.installBegin
  try dsimp only
  try (repeat' split)
  all_goals (first | (simp (maxDischargeDepth := 30); done) | (try simp_all (maxDischargeDepth := 30)))
@[simp] theorem State.installStep_fixed (s : State)  :
    (State.installStep s).fixed = s.fixed := by
  unfold State.installStep
  apply forEach_fixed
  intro r t
  dsimp only
  (repeat' split) <;> simp
@[simp] theorem State.msix_fixed (s : State) (fn : Nat) (v : Nat)  :
    (State.msix s fn v).fixed = s.fixed := by
  unfold State.msix
  try dsimp only
  try (repeat' split)
  all_goals (first | (simp (maxDischargeDepth := 30); done) | (try simp_all (maxDischargeDepth := 30)))
@[simp] theorem State.pageMsgs_fixed (s : State) (ty : Nat) (inst : Nat) (m : Nat)  :
    (State.pageMsgs s ty inst m).fixed = s.fixed := by
  unfold State.pageMsgs
  try dsimp only
  try (repeat' split)
  all_goals (first | (simp (maxDischargeDepth := 30); done) | (try simp_all (maxDischargeDepth := 30)))
@[simp] theorem State.cause_fixed (s : State) (ty : Nat) (inst : Nat) (m : Nat)  :
    (State.cause s ty inst m).fixed = s.fixed := by
  unfold State.cause
  try dsimp only
  try (repeat' split)
  all_goals (first | (simp (maxDischargeDepth := 30); done) | (try simp_all (maxDischargeDepth := 30)))
@[simp] theorem State.shadowHit_fixed (s : State) (off : Nat) (write : Bool)  :
    (State.shadowHit s off write).fixed = s.fixed := by
  unfold State.shadowHit
  try dsimp only
  try (repeat' split)
  all_goals (first | (simp (maxDischargeDepth := 30); done) | (try simp_all (maxDischargeDepth := 30)))
@[simp] theorem State.bankHits_fixed (s : State) (a : Nat) (n : Nat) (write : Bool)  :
    (State.bankHits s a n write).fixed = s.fixed := by
  unfold State.bankHits
  try dsimp only
  try (repeat' split)
  all_goals (first | (simp (maxDischargeDepth := 30); done) | (try simp_all (maxDischargeDepth := 30)))
@[simp] theorem State.qHit_fixed (s : State) (q : Nat) (write : Bool)  :
    (State.qHit s q write).fixed = s.fixed := by
  unfold State.qHit
  try dsimp only
  try (repeat' split)
  all_goals (first | (simp (maxDischargeDepth := 30); done) | (try simp_all (maxDischargeDepth := 30)))
@[simp] theorem State.produce_fixed (s : State) (q : Nat) (slots : List (List Byte))  :
    (State.produce s q slots).fixed = s.fixed := by
  unfold State.produce
  try dsimp only
  try (repeat' split)
  all_goals (first | (simp (maxDischargeDepth := 30); done) | (try simp_all (maxDischargeDepth := 30)))
@[simp] theorem State.stream_fixed (s : State) (q : Nat) (rec : List Byte)  :
    (State.stream s q rec).1.fixed = s.fixed := by
  unfold State.stream
  try dsimp only
  try (repeat' split)
  all_goals (first | (simp (maxDischargeDepth := 30); done) | (try simp_all (maxDischargeDepth := 30)))
@[simp] theorem State.consume_fixed (s : State) (q : Nat) (n : Nat)  :
    (State.consume s q n).fixed = s.fixed := by
  unfold State.consume
  try dsimp only
  try (repeat' split)
  all_goals (first | (simp (maxDischargeDepth := 30); done) | (try simp_all (maxDischargeDepth := 30)))
@[simp] theorem State.postCpl_fixed (s : State) (fn : Nat) (q : Nat) (entry : List Byte)  :
    (State.postCpl s fn q entry).fixed = s.fixed := by
  unfold State.postCpl
  try dsimp only
  try (repeat' split)
  all_goals (first | (simp (maxDischargeDepth := 30); done) | (try simp_all (maxDischargeDepth := 30)))
@[simp] theorem State.postLog_fixed (s : State) (st : Nat) (e : List Byte)  :
    (State.postLog s st e).fixed = s.fixed := by
  unfold State.postLog
  try dsimp only
  try (repeat' split)
  all_goals (first | (simp (maxDischargeDepth := 30); done) | (try simp_all (maxDischargeDepth := 30)))
@[simp] theorem State.copyEntry_fixed (s : State) (e : ErrEntry)  :
    (State.copyEntry s e).fixed = s.fixed := by
  unfold State.copyEntry
  try dsimp only
  try (repeat' split)
  all_goals (first | (simp (maxDischargeDepth := 30); done) | (try simp_all (maxDischargeDepth := 30)))
@[simp] theorem State.closeEntries_fixed (s : State) (p : ErrEntry → Bool)  :
    (State.closeEntries s p).fixed = s.fixed := by
  unfold State.closeEntries
  try dsimp only
  try (repeat' split)
  all_goals (first | (simp (maxDischargeDepth := 30); done) | (try simp_all (maxDischargeDepth := 30)))
@[simp] theorem State.closeDue_fixed (s : State)  :
    (State.closeDue s).fixed = s.fixed := by
  unfold State.closeDue
  try dsimp only
  try (repeat' split)
  all_goals (first | (simp (maxDischargeDepth := 30); done) | (try simp_all (maxDischargeDepth := 30)))
@[simp] theorem State.writeEntry_fixed (s : State) (e : ErrEntry)  :
    (State.writeEntry s e).fixed = s.fixed := by
  unfold State.writeEntry
  try dsimp only
  try (repeat' split)
  all_goals (first | (simp (maxDischargeDepth := 30); done) | (try simp_all (maxDischargeDepth := 30)))
@[simp] theorem State.errDrain_fixed (s : State)  :
    (State.errDrain s).fixed = s.fixed := by
  unfold State.errDrain
  try dsimp only
  try (repeat' split)
  all_goals (first | (simp (maxDischargeDepth := 30); done) | (try simp_all (maxDischargeDepth := 30)))
@[simp] theorem State.newEntry_fixed (s : State) (e : ErrEntry)  :
    (State.newEntry s e).fixed = s.fixed := by
  unfold State.newEntry
  try dsimp only
  try (repeat' split)
  all_goals (first | (simp (maxDischargeDepth := 30); done) | (try simp_all (maxDischargeDepth := 30)))
@[simp] theorem State.raiseAt_fixed (s : State) (tt : Nat) (code : Nat) (ty : Nat) (inst : Nat)
    (site : Option Nat) (detail : Nat) (tr : Bool) (perm : Bool)  :
    (State.raiseAt s tt code ty inst site detail tr perm).fixed = s.fixed := by
  unfold State.raiseAt
  try dsimp only
  try (repeat' split)
  all_goals (first | (simp (maxDischargeDepth := 30); done) | (try simp_all (maxDischargeDepth := 30)))
@[simp] theorem State.raiseFull_fixed (s : State) (code : Nat) (ty : Nat) (inst : Nat) (site : Option Nat)
    (detail : Nat) (tr : Bool) (perm : Bool)  :
    (State.raiseFull s code ty inst site detail tr perm).fixed = s.fixed := by
  unfold State.raiseFull
  try dsimp only
  try (repeat' split)
  all_goals (first | (simp (maxDischargeDepth := 30); done) | (try simp_all (maxDischargeDepth := 30)))
@[simp] theorem State.raise_fixed (s : State) (code : Nat) (ty : Nat) (inst : Nat) (site : Option Nat)
    (detail : Nat)  :
    (State.raise s code ty inst site detail).fixed = s.fixed := by
  unfold State.raise
  try dsimp only
  try (repeat' split)
  all_goals (first | (simp (maxDischargeDepth := 30); done) | (try simp_all (maxDischargeDepth := 30)))
@[simp] theorem State.raisePage_fixed (s : State) (code : Nat) (ty : Nat) (inst : Nat)  :
    (State.raisePage s code ty inst).fixed = s.fixed := by
  unfold State.raisePage
  try dsimp only
  try (repeat' split)
  all_goals (first | (simp (maxDischargeDepth := 30); done) | (try simp_all (maxDischargeDepth := 30)))
@[simp] theorem State.aerReport_fixed (s : State) (fn : Nat) (r : AerReport)  :
    (State.aerReport s fn r).fixed = s.fixed := by
  unfold State.aerReport
  try dsimp only
  try (repeat' split)
  all_goals (first | (simp (maxDischargeDepth := 30); done) | (try simp_all (maxDischargeDepth := 30)))
@[simp] theorem State.refuseReset_fixed (s : State) (fn : Nat)  :
    (State.refuseReset s fn).fixed = s.fixed := by
  unfold State.refuseReset
  try dsimp only
  try (repeat' split)
  all_goals (first | (simp (maxDischargeDepth := 30); done) | (try simp_all (maxDischargeDepth := 30)))
@[simp] theorem State.deny_fixed (s : State) (fn : Nat) (ty : Nat) (inst : Nat) (off : Nat) (write : Bool)  :
    (State.deny s fn ty inst off write).fixed = s.fixed := by
  unfold State.deny
  try dsimp only
  try (repeat' split)
  all_goals (first | (simp (maxDischargeDepth := 30); done) | (try simp_all (maxDischargeDepth := 30)))
@[simp] theorem State.denyUnmapped_fixed (s : State) (fn : Nat) (ty : Nat) (inst : Nat) (off : Nat) (write : Bool)  :
    (State.denyUnmapped s fn ty inst off write).fixed = s.fixed := by
  unfold State.denyUnmapped
  try dsimp only
  try (repeat' split)
  all_goals (first | (simp (maxDischargeDepth := 30); done) | (try simp_all (maxDischargeDepth := 30)))
@[simp] theorem State.locked_fixed (s : State) (fn : Nat) (ty : Nat) (inst : Nat) (off : Nat)  :
    (State.locked s fn ty inst off).fixed = s.fixed := by
  unfold State.locked
  try dsimp only
  try (repeat' split)
  all_goals (first | (simp (maxDischargeDepth := 30); done) | (try simp_all (maxDischargeDepth := 30)))
@[simp] theorem State.onWrite_fixed (s : State) (fn : Nat) (ty : Nat) (inst : Nat) (off : Nat)
    (op : State → State) (hop : ∀ y1, (op y1).fixed = y1.fixed) :
    (State.onWrite s fn ty inst off op).fixed = s.fixed := by
  unfold State.onWrite
  try dsimp only
  try (repeat' split)
  all_goals (first | (simp (maxDischargeDepth := 30); done) | (try simp_all (maxDischargeDepth := 30)))
@[simp] theorem State.onRead_fixed (s : State) (fn : Nat) (ty : Nat) (inst : Nat) (off : Nat)
    (op : State → State × Nat) (hop : ∀ y1, (op y1).1.fixed = y1.fixed) :
    (State.onRead s fn ty inst off op).fixed = s.fixed := by
  unfold State.onRead
  try dsimp only
  try (repeat' split)
  all_goals (first | (simp (maxDischargeDepth := 30); done) | (try simp_all (maxDischargeDepth := 30)))

end Sys2Proof.Machine
end

