-- ==== Sys2Proof/Laws/FixedQueue.lean ====
section
/-! SUPPORT. Operations of Queue keep what `State.fixed` reads. -/

namespace Sys2Proof.Machine

@[simp] theorem State.dbDrop_fixed (s : State) (fn : Nat) (q : Nat) (code : Nat)  :
    (State.dbDrop s fn q code).fixed = s.fixed := by
  unfold State.dbDrop
  try dsimp only
  try (repeat' split)
  all_goals (first | (simp (maxDischargeDepth := 30); done) | (try simp_all (maxDischargeDepth := 30)))
@[simp] theorem State.doorbell_fixed (s : State) (fn : Nat) (q : Nat) (ok : QDesc → Bool) (act : State → State)
    (hact : ∀ y1, (act y1).fixed = y1.fixed) :
    (State.doorbell s fn q ok act).fixed = s.fixed := by
  unfold State.doorbell
  try dsimp only
  try (repeat' split)
  all_goals (first | (simp (maxDischargeDepth := 30); done) | (try simp_all (maxDischargeDepth := 30)))
@[simp] theorem State.qRelease_fixed (s : State) (fn : Nat) (q : Nat) (index : Nat)  :
    (State.qRelease s fn q index).fixed = s.fixed := by
  unfold State.qRelease
  try dsimp only
  try (repeat' split)
  all_goals (first | (simp (maxDischargeDepth := 30); done) | (try simp_all (maxDischargeDepth := 30)))
@[simp] theorem State.barWrite_fixed (s : State) (fn : Nat) (off : Nat) (val : Nat)  :
    (State.barWrite s fn off val).fixed = s.fixed := by
  unfold State.barWrite
  try dsimp only
  try (repeat' split)
  all_goals (first | (simp (maxDischargeDepth := 30); done) | (try simp_all (maxDischargeDepth := 30)))
@[simp] theorem State.pushBytes_fixed (s : State) (fn : Nat) (off : Nat) (data : List Byte)  :
    (State.pushBytes s fn off data).fixed = s.fixed := by
  unfold State.pushBytes
  try dsimp only
  try (repeat' split)
  all_goals (first | (simp (maxDischargeDepth := 30); done) | (try simp_all (maxDischargeDepth := 30)))
@[simp] theorem State.descRead_fixed (s : State) (fn : Nat)  :
    (State.descRead s fn).fixed = s.fixed := by
  unfold State.descRead
  try dsimp only
  try (repeat' split)
  all_goals (first | (simp (maxDischargeDepth := 30); done) | (try simp_all (maxDischargeDepth := 30)))
@[simp] theorem State.descWrite_fixed (s : State) (fn : Nat)  :
    (State.descWrite s fn).fixed = s.fixed := by
  unfold State.descWrite
  try dsimp only
  try (repeat' split)
  all_goals (first | (simp (maxDischargeDepth := 30); done) | (try simp_all (maxDischargeDepth := 30)))
@[simp] theorem State.postHeld_fixed (s : State) (fn : Nat)  :
    (State.postHeld s fn).fixed = s.fixed := by
  unfold State.postHeld
  try dsimp only
  try (repeat' split)
  all_goals (first | (simp (maxDischargeDepth := 30); done) | (try simp_all (maxDischargeDepth := 30)))
@[simp] theorem State.logLostEntry_fixed (s : State) (st : Nat)  :
    (State.logLostEntry s st).fixed = s.fixed := by
  unfold State.logLostEntry
  try dsimp only
  try (repeat' split)
  all_goals (first | (simp (maxDischargeDepth := 30); done) | (try simp_all (maxDischargeDepth := 30)))

@[simp] theorem State.modFrm_fixed (s : State) (st : Nat) (kind : Nat) (inst : Nat) (f : Frm → Frm)  :
    (State.modFrm s st kind inst f).fixed = s.fixed := by
  unfold State.modFrm
  try dsimp only
  try (repeat' split)
  all_goals (first | (simp (maxDischargeDepth := 30); done) | (try simp_all (maxDischargeDepth := 30)))
@[simp] theorem State.closeFrame_fixed (s : State) (st : Nat) (kind : Nat) (inst : Nat) (q : Nat)  :
    (State.closeFrame s st kind inst q).1.fixed = s.fixed := by
  unfold State.closeFrame
  try dsimp only
  try (repeat' split)
  all_goals (first | (simp (maxDischargeDepth := 30); done) | (try simp_all (maxDischargeDepth := 30)))
@[simp] theorem State.deliver_fixed (s : State) (o : Nat) (kind : Nat) (inst : Nat) (q : Nat) (rec : List Byte)  :
    (State.deliver s o kind inst q rec).1.fixed = s.fixed := by
  unfold State.deliver
  try dsimp only
  try (repeat' split)
  all_goals (first | (simp (maxDischargeDepth := 30); done) | (try simp_all (maxDischargeDepth := 30)))

end Sys2Proof.Machine
end

