-- ==== Sys2Proof/Laws/FixedPins.lean ====
section
/-! SUPPORT. Operations of Pins keep what `State.fixed` reads. -/

namespace Sys2Proof.Machine

@[simp] theorem State.reject_fixed (s : State) (fn : Nat) (code : Nat) (ty : Nat) (inst : Nat)  :
    (State.reject s fn code ty inst).fixed = s.fixed := by
  unfold State.reject
  try dsimp only
  try (repeat' split)
  all_goals (first | (simp (maxDischargeDepth := 30); done) | (try simp_all (maxDischargeDepth := 30)))
@[simp] theorem State.checked_fixed (s : State) (fn : Nat) (ty : Nat) (inst : Nat) (checks : List (Bool × Nat))
    (act : State → State) (hact : ∀ y1, (act y1).fixed = y1.fixed) :
    (State.checked s fn ty inst checks act).fixed = s.fixed := by
  unfold State.checked
  try dsimp only
  try (repeat' split)
  all_goals (first | (simp (maxDischargeDepth := 30); done) | (try simp_all (maxDischargeDepth := 30)))
@[simp] theorem State.laneFree_fixed (s : State) (ch : Nat) : (s.laneFree ch).fixed = s.fixed := (rfl)
@[simp] theorem State.wPeCtrl_fixed (s : State) (fn : Nat) (ch : Nat) (val : Nat)  :
    (State.wPeCtrl s fn ch val).fixed = s.fixed := by
  unfold State.wPeCtrl
  try dsimp only
  try (repeat' split)
  all_goals (first | (simp (maxDischargeDepth := 30); done) | (try simp_all (maxDischargeDepth := 30)))
@[simp] theorem State.wPeLoad_fixed (s : State) (fn : Nat) (ch : Nat) (val : Nat)  :
    (State.wPeLoad s fn ch val).fixed = s.fixed := by
  unfold State.wPeLoad
  try dsimp only
  try (repeat' split)
  all_goals (first | (simp (maxDischargeDepth := 30); done) | (try simp_all (maxDischargeDepth := 30)))
@[simp] theorem State.wPePmu_fixed (s : State) (fn : Nat) (ch : Nat) (val : Nat)  :
    (State.wPePmu s fn ch val).fixed = s.fixed := by
  unfold State.wPePmu
  try dsimp only
  try (repeat' split)
  all_goals (first | (simp (maxDischargeDepth := 30); done) | (try simp_all (maxDischargeDepth := 30)))
@[simp] theorem State.wPmuRange_fixed (s : State) (fn : Nat) (ch : Nat) (val : Nat)  :
    (State.wPmuRange s fn ch val).fixed = s.fixed := by
  unfold State.wPmuRange
  try dsimp only
  try (repeat' split)
  all_goals (first | (simp (maxDischargeDepth := 30); done) | (try simp_all (maxDischargeDepth := 30)))
@[simp] theorem State.wOpenWire_fixed (s : State) (fn : Nat) (ch : Nat) (val : Nat)  :
    (State.wOpenWire s fn ch val).fixed = s.fixed := by
  unfold State.wOpenWire
  try dsimp only
  try (repeat' split)
  all_goals (first | (simp (maxDischargeDepth := 30); done) | (try simp_all (maxDischargeDepth := 30)))
@[simp] theorem State.wClampStatus_fixed (s : State) (ch : Nat) (val : Nat)  :
    (State.wClampStatus s ch val).fixed = s.fixed := by
  unfold State.wClampStatus
  try dsimp only
  try (repeat' split)
  all_goals (first | (simp (maxDischargeDepth := 30); done) | (try simp_all (maxDischargeDepth := 30)))
@[simp] theorem State.wContact_fixed (s : State) (fn : Nat) (ch : Nat) (val : Nat)  :
    (State.wContact s fn ch val).fixed = s.fixed := by
  unfold State.wContact
  try dsimp only
  try (repeat' split)
  all_goals (first | (simp (maxDischargeDepth := 30); done) | (try simp_all (maxDischargeDepth := 30)))
@[simp] theorem State.wLvlDac_fixed (s : State) (ch : Nat) (d : Nat) (val : Nat)  :
    (State.wLvlDac s ch d val).fixed = s.fixed := by
  unfold State.wLvlDac
  try dsimp only
  try (repeat' split)
  all_goals (first | (simp (maxDischargeDepth := 30); done) | (try simp_all (maxDischargeDepth := 30)))
@[simp] theorem State.wLvlPush_fixed (s : State) (fn : Nat) (ch : Nat) (val : Nat)  :
    (State.wLvlPush s fn ch val).fixed = s.fixed := by
  unfold State.wLvlPush
  try dsimp only
  try (repeat' split)
  all_goals (first | (simp (maxDischargeDepth := 30); done) | (try simp_all (maxDischargeDepth := 30)))
@[simp] theorem State.wLvlCtrl_fixed (s : State) (ch : Nat) (val : Nat)  :
    (State.wLvlCtrl s ch val).fixed = s.fixed := by
  unfold State.wLvlCtrl
  try dsimp only
  try (repeat' split)
  all_goals (first | (simp (maxDischargeDepth := 30); done) | (try simp_all (maxDischargeDepth := 30)))
@[simp] theorem State.wLvlStatus_fixed (s : State) (ch : Nat) (val : Nat)  :
    (State.wLvlStatus s ch val).fixed = s.fixed := by
  unfold State.wLvlStatus
  try dsimp only
  try (repeat' split)
  all_goals (first | (simp (maxDischargeDepth := 30); done) | (try simp_all (maxDischargeDepth := 30)))
@[simp] theorem State.lvlArrive_fixed (s : State) (ch : Nat)  :
    (State.lvlArrive s ch).fixed = s.fixed := by
  unfold State.lvlArrive
  try dsimp only
  try (repeat' split)
  all_goals (first | (simp (maxDischargeDepth := 30); done) | (try simp_all (maxDischargeDepth := 30)))
@[simp] theorem State.lvlStep_fixed (s : State) (ch : Nat)  :
    (State.lvlStep s ch).fixed = s.fixed := by
  unfold State.lvlStep
  try dsimp only
  try (repeat' split)
  all_goals (first | (simp (maxDischargeDepth := 30); done) | (try simp_all (maxDischargeDepth := 30)))
@[simp] theorem State.lclkTick_fixed (s : State) (st : Nat)  :
    (State.lclkTick s st).fixed = s.fixed := by
  unfold State.lclkTick
  try dsimp only
  try (repeat' split)
  all_goals (first | (simp (maxDischargeDepth := 30); done) | (try simp_all (maxDischargeDepth := 30)))

end Sys2Proof.Machine
end

