-- ==== Sys2Proof/Laws/FixedTiming.lean ====
section
/-! SUPPORT. Operations of Timing keep what `State.fixed` reads. -/

namespace Sys2Proof.Machine

@[simp] theorem State.stageLo_fixed (s : State) (fn : Nat) (ty : Nat) (inst : Nat) (lo : Nat) (val : Nat)  :
    (State.stageLo s fn ty inst lo val).fixed = s.fixed := by
  unfold State.stageLo
  try dsimp only
  try (repeat' split)
  all_goals (first | (simp (maxDischargeDepth := 30); done) | (try simp_all (maxDischargeDepth := 30)))
@[simp] theorem State.unstage_fixed (s : State) (fn : Nat) (ty : Nat) (inst : Nat) (lo : Nat)  :
    (State.unstage s fn ty inst lo).fixed = s.fixed := by
  unfold State.unstage
  try dsimp only
  try (repeat' split)
  all_goals (first | (simp (maxDischargeDepth := 30); done) | (try simp_all (maxDischargeDepth := 30)))
@[simp] theorem State.wTgCtrl_fixed (s : State) (fn : Nat) (ch : Nat) (val : Nat)  :
    (State.wTgCtrl s fn ch val).fixed = s.fixed := by
  unfold State.wTgCtrl
  try dsimp only
  try (repeat' split)
  all_goals (first | (simp (maxDischargeDepth := 30); done) | (try simp_all (maxDischargeDepth := 30)))
@[simp] theorem State.wPeriodHi_fixed (s : State) (fn : Nat) (ch : Nat) (val : Nat)  :
    (State.wPeriodHi s fn ch val).fixed = s.fixed := by
  unfold State.wPeriodHi
  try dsimp only
  try (repeat' split)
  all_goals (first | (simp (maxDischargeDepth := 30); done) | (try simp_all (maxDischargeDepth := 30)))
@[simp] theorem State.wSymHi_fixed (s : State) (fn : Nat) (ch : Nat) (val : Nat)  :
    (State.wSymHi s fn ch val).fixed = s.fixed := by
  unfold State.wSymHi
  try dsimp only
  try (repeat' split)
  all_goals (first | (simp (maxDischargeDepth := 30); done) | (try simp_all (maxDischargeDepth := 30)))
@[simp] theorem State.wEdge_fixed (s : State) (fn : Nat) (ch : Nat) (i : Nat) (val : Nat)  :
    (State.wEdge s fn ch i val).fixed = s.fixed := by
  unfold State.wEdge
  try dsimp only
  try (repeat' split)
  all_goals (first | (simp (maxDischargeDepth := 30); done) | (try simp_all (maxDischargeDepth := 30)))
@[simp] theorem State.wFmt_fixed (s : State) (fn : Nat) (ch : Nat) (i : Nat) (val : Nat)  :
    (State.wFmt s fn ch i val).fixed = s.fixed := by
  unfold State.wFmt
  try dsimp only
  try (repeat' split)
  all_goals (first | (simp (maxDischargeDepth := 30); done) | (try simp_all (maxDischargeDepth := 30)))
@[simp] theorem State.wTgStatus_fixed (s : State) (ch : Nat) (val : Nat)  :
    (State.wTgStatus s ch val).fixed = s.fixed := by
  unfold State.wTgStatus
  try dsimp only
  try (repeat' split)
  all_goals (first | (simp (maxDischargeDepth := 30); done) | (try simp_all (maxDischargeDepth := 30)))
@[simp] theorem State.rgnBoundary_fixed (s : State) (r : Nat)  :
    (State.rgnBoundary s r).fixed = s.fixed := by
  unfold State.rgnBoundary
  try dsimp only
  try (repeat' split)
  all_goals (first | (simp (maxDischargeDepth := 30); done) | (try simp_all (maxDischargeDepth := 30)))
@[simp] theorem State.endRun_fixed (s : State) (ch : Nat)  :
    (State.endRun s ch).fixed = s.fixed := by
  unfold State.endRun
  try dsimp only
  try (repeat' split)
  all_goals (first | (simp (maxDischargeDepth := 30); done) | (try simp_all (maxDischargeDepth := 30)))
@[simp] theorem State.wFreerun_fixed (s : State) (fn : Nat) (ch : Nat) (val : Nat)  :
    (State.wFreerun s fn ch val).fixed = s.fixed := by
  unfold State.wFreerun
  try dsimp only
  try (repeat' split)
  all_goals (first | (simp (maxDischargeDepth := 30); done) | (try simp_all (maxDischargeDepth := 30)))
@[simp] theorem State.startUi_fixed (s : State) (ch : Nat) (u : Nat) (t : Nat) (sym : Nat) (b : Option
    (Block × Nat))  :
    (State.startUi s ch u t sym b).fixed = s.fixed := by
  unfold State.startUi
  try dsimp only
  try (repeat' split)
  all_goals (first | (simp (maxDischargeDepth := 30); done) | (try simp_all (maxDischargeDepth := 30)))
@[simp] theorem State.uiStartStep_fixed (s : State) (ch : Nat)  :
    (State.uiStartStep s ch).fixed = s.fixed := by
  unfold State.uiStartStep
  try dsimp only
  try (repeat' split)
  all_goals (first | (simp (maxDischargeDepth := 30); done) | (try simp_all (maxDischargeDepth := 30)))
@[simp] theorem State.edgeStep_fixed (s : State) (ch : Nat)  :
    (State.edgeStep s ch).fixed = s.fixed := by
  unfold State.edgeStep
  try dsimp only
  try (repeat' split)
  all_goals (first | (simp (maxDischargeDepth := 30); done) | (try simp_all (maxDischargeDepth := 30)))
@[simp] theorem State.histFeed_fixed (s : State) (ch : Nat) (kind : Nat) (v : Hist → Option Int)  :
    (State.histFeed s ch kind v).fixed = s.fixed := by
  unfold State.histFeed
  try dsimp only
  try (repeat' split)
  all_goals (first | (simp (maxDischargeDepth := 30); done) | (try simp_all (maxDischargeDepth := 30)))
@[simp] theorem State.takeBlock_fixed (s : State) (ch : Nat) (b : Block)  :
    (State.takeBlock s ch b).fixed = s.fixed := by
  unfold State.takeBlock
  try dsimp only
  try (repeat' split)
  all_goals (first | (simp (maxDischargeDepth := 30); done) | (try simp_all (maxDischargeDepth := 30)))
@[simp] theorem State.withRec_fixed (s : State) (r : Nat) (fresh : FcuRec) (f : FcuRec → FcuRec)  :
    (State.withRec s r fresh f).fixed = s.fixed := by
  unfold State.withRec
  try dsimp only
  try (repeat' split)
  all_goals (first | (simp (maxDischargeDepth := 30); done) | (try simp_all (maxDischargeDepth := 30)))
@[simp] theorem State.openRec_fixed (s : State) (ch : Nat) (b : Block)  :
    (State.openRec s ch b).fixed = s.fixed := by
  unfold State.openRec
  try dsimp only
  try (repeat' split)
  all_goals (first | (simp (maxDischargeDepth := 30); done) | (try simp_all (maxDischargeDepth := 30)))
@[simp] theorem State.release_fixed (s : State) (ch : Nat)  :
    (State.release s ch).fixed = s.fixed := by
  unfold State.release
  try dsimp only
  try (repeat' split)
  all_goals (first | (simp (maxDischargeDepth := 30); done) | (try simp_all (maxDischargeDepth := 30)))

end Sys2Proof.Machine
end

