-- ==== Sys2Proof/Laws/FixedCompare.lean ====
section
/-! SUPPORT. Operations of Compare keep what `State.fixed` reads. -/

namespace Sys2Proof.Machine

@[simp] theorem State.compareStep_fixed (s : State) (ch : Nat)  :
    (State.compareStep s ch).fixed = s.fixed := by
  unfold State.compareStep
  try dsimp only
  try (repeat' split)
  all_goals (first | (simp (maxDischargeDepth := 30); done) | (try simp_all (maxDischargeDepth := 30)))
@[simp] theorem State.modPart_fixed (s : State) (r : Nat) (st : Nat) (f : FcuPart → FcuPart)  :
    (State.modPart s r st f).fixed = s.fixed := by
  unfold State.modPart
  try dsimp only
  try (repeat' split)
  all_goals (first | (simp (maxDischargeDepth := 30); done) | (try simp_all (maxDischargeDepth := 30)))
@[simp] theorem State.partEvent_fixed (s : State) (r : Nat) (st : Nat) (mask : Nat)  :
    (State.partEvent s r st mask).fixed = s.fixed := by
  unfold State.partEvent
  try dsimp only
  try (repeat' split)
  all_goals (first | (simp (maxDischargeDepth := 30); done) | (try simp_all (maxDischargeDepth := 30)))
@[simp] theorem State.setLevel_fixed (s : State) (r : Nat) (st : Nat) (lv : Nat)  :
    (State.setLevel s r st lv).fixed = s.fixed := by
  unfold State.setLevel
  try dsimp only
  try (repeat' split)
  all_goals (first | (simp (maxDischargeDepth := 30); done) | (try simp_all (maxDischargeDepth := 30)))
@[simp] theorem State.loseUpdate_fixed (s : State) (r : Nat) (st : Nat)  :
    (State.loseUpdate s r st).fixed = s.fixed := by
  unfold State.loseUpdate
  try dsimp only
  try (repeat' split)
  all_goals (first | (simp (maxDischargeDepth := 30); done) | (try simp_all (maxDischargeDepth := 30)))
@[simp] theorem State.loseRecord_fixed (s : State) (r : Nat) (st : Nat) (tt : Nat) (nfail : Nat)  :
    (State.loseRecord s r st tt nfail).fixed = s.fixed := by
  unfold State.loseRecord
  try dsimp only
  try (repeat' split)
  all_goals (first | (simp (maxDischargeDepth := 30); done) | (try simp_all (maxDischargeDepth := 30)))
@[simp] theorem State.pushRing_fixed (s : State) (r : Nat) (st : Nat) (rec : Nat → List Byte) (count : Bool)  :
    (State.pushRing s r st rec count).fixed = s.fixed := by
  unfold State.pushRing
  try dsimp only
  try (repeat' split)
  all_goals (first | (simp (maxDischargeDepth := 30); done) | (try simp_all (maxDischargeDepth := 30)))
@[simp] theorem State.commitGap_fixed (s : State) (r : Nat) (st : Nat)  :
    (State.commitGap s r st).fixed = s.fixed := by
  unfold State.commitGap
  try dsimp only
  try (repeat' split)
  all_goals (first | (simp (maxDischargeDepth := 30); done) | (try simp_all (maxDischargeDepth := 30)))
@[simp] theorem State.commitRecord_fixed (s : State) (r : Nat) (st : Nat) (tt : Nat) (nfail : Nat)
    (full : Nat → List Byte) (summary : Nat → List Byte) (keepAt : Nat)  :
    (State.commitRecord s r st tt nfail full summary keepAt).1.fixed = s.fixed := by
  unfold State.commitRecord
  try dsimp only
  try (repeat' split)
  all_goals (first | (simp (maxDischargeDepth := 30); done) | (try simp_all (maxDischargeDepth := 30)))
@[simp] theorem State.countN_fixed (s : State) (r : Nat) (st : Nat)  :
    (State.countN s r st).fixed = s.fixed := by
  unfold State.countN
  try dsimp only
  try (repeat' split)
  all_goals (first | (simp (maxDischargeDepth := 30); done) | (try simp_all (maxDischargeDepth := 30)))
@[simp] theorem State.commitFail_fixed (s : State) (r : Nat) (c : FcuRec)  :
    (State.commitFail s r c).fixed = s.fixed := by
  unfold State.commitFail
  try dsimp only
  try (repeat' split)
  all_goals (first | (simp (maxDischargeDepth := 30); done) | (try simp_all (maxDischargeDepth := 30)))
@[simp] theorem State.commitCapture_fixed (s : State) (r : Nat) (c : FcuRec)  :
    (State.commitCapture s r c).fixed = s.fixed := by
  unfold State.commitCapture
  try dsimp only
  try (repeat' split)
  all_goals (first | (simp (maxDischargeDepth := 30); done) | (try simp_all (maxDischargeDepth := 30)))
@[simp] theorem State.recsPast_fixed (s : State) (st : Nat)  :
    (State.recsPast s st).fixed = s.fixed := by
  unfold State.recsPast
  try dsimp only
  try (repeat' split)
  all_goals (first | (simp (maxDischargeDepth := 30); done) | (try simp_all (maxDischargeDepth := 30)))
@[simp] theorem State.closeRecord_fixed (s : State) (r : Nat) (segId : Nat) (seq : Nat)  :
    (State.closeRecord s r segId seq).fixed = s.fixed := by
  unfold State.closeRecord
  try dsimp only
  try (repeat' split)
  all_goals (first | (simp (maxDischargeDepth := 30); done) | (try simp_all (maxDischargeDepth := 30)))
@[simp] theorem State.toRec_fixed (s : State) (ch : Nat) (v : CmpRes) (f : FcuRec → FcuRec)  :
    (State.toRec s ch v f).fixed = s.fixed := by
  unfold State.toRec
  try dsimp only
  try (repeat' split)
  all_goals (first | (simp (maxDischargeDepth := 30); done) | (try simp_all (maxDischargeDepth := 30)))
@[simp] theorem State.writeUps_fixed (s : State) (x1 : List (Nat × Nat))  :
    (State.writeUps s x1).1.fixed = s.fixed := by
  induction x1 generalizing s with
  | nil => rfl
  | cons u t ih => unfold State.writeUps; split; rfl; exact (ih _).trans rfl
@[simp] theorem State.drainUps_fixed (s : State) (r : Nat) (st : Nat)  :
    (State.drainUps s r st).fixed = s.fixed := by
  unfold State.drainUps
  try dsimp only
  try (repeat' split)
  all_goals (first | (simp (maxDischargeDepth := 30); done) | (try simp_all (maxDischargeDepth := 30)))
@[simp] theorem State.dropUpdate_fixed (s : State) (r : Nat) (st : Nat) (addr : Nat)  :
    (State.dropUpdate s r st addr).fixed = s.fixed := by
  unfold State.dropUpdate
  try dsimp only
  try (repeat' split)
  all_goals (first | (simp (maxDischargeDepth := 30); done) | (try simp_all (maxDischargeDepth := 30)))
@[simp] theorem State.bitmapUpdate_fixed (s : State) (ch : Nat) (e : CmpEv) (symAt : Nat → Option Nat)  :
    (State.bitmapUpdate s ch e symAt).fixed = s.fixed := by
  unfold State.bitmapUpdate
  try dsimp only
  try (repeat' split)
  all_goals (first | (simp (maxDischargeDepth := 30); done) | (try simp_all (maxDischargeDepth := 30)))
@[simp] theorem State.countFail_fixed (s : State) (ch : Nat)  :
    (State.countFail s ch).fixed = s.fixed := by
  unfold State.countFail
  try dsimp only
  try (repeat' split)
  all_goals (first | (simp (maxDischargeDepth := 30); done) | (try simp_all (maxDischargeDepth := 30)))
@[simp] theorem State.moveRecord_fixed (s : State) (r : Nat) (st : Nat)
    (deliver : State → Nat → List Byte → State × Bool) (hdeliver : ∀ y1 y2 y3,
    (deliver y1 y2 y3).1.fixed = y1.fixed) :
    (State.moveRecord s r st deliver).fixed = s.fixed := by
  unfold State.moveRecord
  try dsimp only
  try (repeat' split)
  all_goals (first | (simp (maxDischargeDepth := 30); done) | (try simp_all (maxDischargeDepth := 30)))
@[simp] theorem State.wPSize_fixed (s : State) (fn : Nat) (r : Nat) (st : Nat) (val : Nat)  :
    (State.wPSize s fn r st val).fixed = s.fixed := by
  unfold State.wPSize
  try dsimp only
  try (repeat' split)
  all_goals (first | (simp (maxDischargeDepth := 30); done) | (try simp_all (maxDischargeDepth := 30)))
@[simp] theorem State.wPCtrl_fixed (s : State) (fn : Nat) (r : Nat) (st : Nat) (val : Nat)  :
    (State.wPCtrl s fn r st val).fixed = s.fixed := by
  unfold State.wPCtrl
  try dsimp only
  try (repeat' split)
  all_goals (first | (simp (maxDischargeDepth := 30); done) | (try simp_all (maxDischargeDepth := 30)))
@[simp] theorem State.wPN_fixed (s : State) (fn : Nat) (r : Nat) (st : Nat) (val : Nat)  :
    (State.wPN s fn r st val).fixed = s.fixed := by
  unfold State.wPN
  try dsimp only
  try (repeat' split)
  all_goals (first | (simp (maxDischargeDepth := 30); done) | (try simp_all (maxDischargeDepth := 30)))
@[simp] theorem State.wFcuCtrl_fixed (s : State) (fn : Nat) (r : Nat) (val : Nat)  :
    (State.wFcuCtrl s fn r val).fixed = s.fixed := by
  unfold State.wFcuCtrl
  try dsimp only
  try (repeat' split)
  all_goals (first | (simp (maxDischargeDepth := 30); done) | (try simp_all (maxDischargeDepth := 30)))
@[simp] theorem State.wCmpCtrl_fixed (s : State) (fn : Nat) (ch : Nat) (val : Nat)  :
    (State.wCmpCtrl s fn ch val).fixed = s.fixed := by
  unfold State.wCmpCtrl
  try dsimp only
  try (repeat' split)
  all_goals (first | (simp (maxDischargeDepth := 30); done) | (try simp_all (maxDischargeDepth := 30)))
@[simp] theorem State.wTdcCtrl_fixed (s : State) (fn : Nat) (ch : Nat) (val : Nat)  :
    (State.wTdcCtrl s fn ch val).fixed = s.fixed := by
  unfold State.wTdcCtrl
  try dsimp only
  try (repeat' split)
  all_goals (first | (simp (maxDischargeDepth := 30); done) | (try simp_all (maxDischargeDepth := 30)))
@[simp] theorem State.wCmpMask_fixed (s : State) (ch : Nat) (val : Nat)  :
    (State.wCmpMask s ch val).fixed = s.fixed := by
  unfold State.wCmpMask
  try dsimp only
  try (repeat' split)
  all_goals (first | (simp (maxDischargeDepth := 30); done) | (try simp_all (maxDischargeDepth := 30)))
@[simp] theorem State.wCmpStatus_fixed (s : State) (ch : Nat) (val : Nat)  :
    (State.wCmpStatus s ch val).fixed = s.fixed := by
  unfold State.wCmpStatus
  try dsimp only
  try (repeat' split)
  all_goals (first | (simp (maxDischargeDepth := 30); done) | (try simp_all (maxDischargeDepth := 30)))
@[simp] theorem State.wFailHi_fixed (s : State) (fn : Nat) (ch : Nat) (val : Nat)  :
    (State.wFailHi s fn ch val).fixed = s.fixed := by
  unfold State.wFailHi
  try dsimp only
  try (repeat' split)
  all_goals (first | (simp (maxDischargeDepth := 30); done) | (try simp_all (maxDischargeDepth := 30)))

end Sys2Proof.Machine
end

