-- ==== Sys2Proof/Laws/FixedBurst.lean ====
section
/-! SUPPORT. Operations of Burst keep what `State.fixed` reads. -/

namespace Sys2Proof.Machine

@[simp] theorem State.siteCpl_fixed (s : State) (st : Nat) (entry : List Byte)  :
    (State.siteCpl s st entry).fixed = s.fixed := by
  unfold State.siteCpl
  try dsimp only
  try (repeat' split)
  all_goals (first | (simp (maxDischargeDepth := 30); done) | (try simp_all (maxDischargeDepth := 30)))
@[simp] theorem State.burstCplAt_fixed (s : State) (st : Nat) (status : Nat) (tt : Nat) (entered : Burst)  :
    (State.burstCplAt s st status tt entered).fixed = s.fixed := by
  unfold State.burstCplAt
  try dsimp only
  try (repeat' split)
  all_goals (first | (simp (maxDischargeDepth := 30); done) | (try simp_all (maxDischargeDepth := 30)))
@[simp] theorem State.burstCpl_fixed (s : State) (st : Nat) (status : Nat) (entered : Burst)  :
    (State.burstCpl s st status entered).fixed = s.fixed := by
  unfold State.burstCpl
  try dsimp only
  try (repeat' split)
  all_goals (first | (simp (maxDischargeDepth := 30); done) | (try simp_all (maxDischargeDepth := 30)))
@[simp] theorem State.burstNotice_fixed (s : State) (st : Nat) (entered : Burst)  :
    (State.burstNotice s st entered).fixed = s.fixed := by
  unfold State.burstNotice
  try dsimp only
  try (repeat' split)
  all_goals (first | (simp (maxDischargeDepth := 30); done) | (try simp_all (maxDischargeDepth := 30)))
@[simp] theorem State.raiseBurst_fixed (s : State) (code : Nat) (st : Nat)  :
    (State.raiseBurst s code st).fixed = s.fixed := by
  unfold State.raiseBurst
  try dsimp only
  try (repeat' split)
  all_goals (first | (simp (maxDischargeDepth := 30); done) | (try simp_all (maxDischargeDepth := 30)))
@[simp] theorem State.rejectBurst_fixed (s : State) (st : Nat) (code : Nat)  :
    (State.rejectBurst s st code).fixed = s.fixed := by
  unfold State.rejectBurst
  try dsimp only
  try (repeat' split)
  all_goals (first | (simp (maxDischargeDepth := 30); done) | (try simp_all (maxDischargeDepth := 30)))
@[simp] theorem State.clearDeques_fixed (s : State) (st : Nat)  :
    (State.clearDeques s st).fixed = s.fixed := by
  unfold State.clearDeques
  try dsimp only
  try (repeat' split)
  all_goals (first | (simp (maxDischargeDepth := 30); done) | (try simp_all (maxDischargeDepth := 30)))
@[simp] theorem State.emptyDeque_fixed (s : State) (e : Nat)  :
    (State.emptyDeque s e).fixed = s.fixed := by
  unfold State.emptyDeque
  try dsimp only
  try (repeat' split)
  all_goals (first | (simp (maxDischargeDepth := 30); done) | (try simp_all (maxDischargeDepth := 30)))
@[simp] theorem State.discardQueues_fixed (s : State) (st : Nat)  :
    (State.discardQueues s st).fixed = s.fixed := by
  unfold State.discardQueues
  try dsimp only
  try (repeat' split)
  all_goals (first | (simp (maxDischargeDepth := 30); done) | (try simp_all (maxDischargeDepth := 30)))
@[simp] theorem State.resetBarriers_fixed (s : State) (st : Nat)  :
    (State.resetBarriers s st).fixed = s.fixed := by
  unfold State.resetBarriers
  try dsimp only
  try (repeat' split)
  all_goals (first | (simp (maxDischargeDepth := 30); done) | (try simp_all (maxDischargeDepth := 30)))
@[simp] theorem State.abortSiteAt_fixed (s : State) (st : Nat) (code : Nat) (t : Nat)  :
    (State.abortSiteAt s st code t).fixed = s.fixed := by
  unfold State.abortSiteAt
  try dsimp only
  try (repeat' split)
  all_goals (first | (simp (maxDischargeDepth := 30); done) | (try simp_all (maxDischargeDepth := 30)))
@[simp] theorem State.abortSite_fixed (s : State) (st : Nat) (code : Nat)  :
    (State.abortSite s st code).fixed = s.fixed := by
  unfold State.abortSite
  try dsimp only
  try (repeat' split)
  all_goals (first | (simp (maxDischargeDepth := 30); done) | (try simp_all (maxDischargeDepth := 30)))
@[simp] theorem State.siteBoundary_fixed (s : State) (st : Nat)  :
    (State.siteBoundary s st).fixed = s.fixed := by
  unfold State.siteBoundary
  try dsimp only
  try (repeat' split)
  all_goals (first | (simp (maxDischargeDepth := 30); done) | (try simp_all (maxDischargeDepth := 30)))
@[simp] theorem State.disarm_fixed (s : State) (st : Nat)  :
    (State.disarm s st).fixed = s.fixed := by
  unfold State.disarm
  try dsimp only
  try (repeat' split)
  all_goals (first | (simp (maxDischargeDepth := 30); done) | (try simp_all (maxDischargeDepth := 30)))
@[simp] theorem State.endBursts_fixed (s : State) (l : List Nat) (code : Nat)  :
    (State.endBursts s l code).fixed = s.fixed := by
  unfold State.endBursts
  try dsimp only
  try (repeat' split)
  all_goals (first | (simp (maxDischargeDepth := 30); done) | (try simp_all (maxDischargeDepth := 30)))
@[simp] theorem State.endIsolation_fixed (s : State) (st : Nat)  :
    (State.endIsolation s st).fixed = s.fixed := by
  unfold State.endIsolation
  try dsimp only
  try (repeat' split)
  all_goals (first | (simp (maxDischargeDepth := 30); done) | (try simp_all (maxDischargeDepth := 30)))
@[simp] theorem State.arm_fixed (s : State) (st : Nat) (frame : Bool)  :
    (State.arm s st frame).fixed = s.fixed := by
  unfold State.arm
  try dsimp only
  try (repeat' split)
  all_goals (first | (simp (maxDischargeDepth := 30); done) | (try simp_all (maxDischargeDepth := 30)))
@[simp] theorem State.disarmCmd_fixed (s : State) (st : Nat)  :
    (State.disarmCmd s st).fixed = s.fixed := by
  unfold State.disarmCmd
  try dsimp only
  try (repeat' split)
  all_goals (first | (simp (maxDischargeDepth := 30); done) | (try simp_all (maxDischargeDepth := 30)))
@[simp] theorem State.acceptStart_fixed (s : State) (st : Nat) (ahead : Nat)  :
    (State.acceptStart s st ahead).fixed = s.fixed := by
  unfold State.acceptStart
  try dsimp only
  try (repeat' split)
  all_goals (first | (simp (maxDischargeDepth := 30); done) | (try simp_all (maxDischargeDepth := 30)))
@[simp] theorem State.start_fixed (s : State) (st : Nat) (t24 : Nat)  :
    (State.start s st t24).fixed = s.fixed := by
  unfold State.start
  try dsimp only
  try (repeat' split)
  all_goals (first | (simp (maxDischargeDepth := 30); done) | (try simp_all (maxDischargeDepth := 30)))
@[simp] theorem State.setCut_fixed (s : State) (st : Nat) (T : Nat)  :
    (State.setCut s st T).fixed = s.fixed := by
  unfold State.setCut
  try dsimp only
  try (repeat' split)
  all_goals (first | (simp (maxDischargeDepth := 30); done) | (try simp_all (maxDischargeDepth := 30)))
@[simp] theorem State.stop_fixed (s : State) (st : Nat)  :
    (State.stop s st).fixed = s.fixed := by
  unfold State.stop
  try dsimp only
  try (repeat' split)
  all_goals (first | (simp (maxDischargeDepth := 30); done) | (try simp_all (maxDischargeDepth := 30)))
@[simp] theorem State.fcuFrames_fixed (s : State) (st : Nat)  :
    (State.fcuFrames s st).fixed = s.fixed := by
  unfold State.fcuFrames
  try dsimp only
  try (repeat' split)
  all_goals (first | (simp (maxDischargeDepth := 30); done) | (try simp_all (maxDischargeDepth := 30)))
@[simp] theorem State.enterIdle_fixed (s : State) (st : Nat)  :
    (State.enterIdle s st).fixed = s.fixed := by
  unfold State.enterIdle
  try dsimp only
  try (repeat' split)
  all_goals (first | (simp (maxDischargeDepth := 30); done) | (try simp_all (maxDischargeDepth := 30)))
@[simp] theorem State.ack_fixed (s : State) (st : Nat)  :
    (State.ack s st).fixed = s.fixed := by
  unfold State.ack
  try dsimp only
  try (repeat' split)
  all_goals (first | (simp (maxDischargeDepth := 30); done) | (try simp_all (maxDischargeDepth := 30)))
@[simp] theorem State.runEntry_fixed (s : State) (st : Nat)  :
    (State.runEntry s st).fixed = s.fixed := by
  unfold State.runEntry
  try dsimp only
  try (repeat' split)
  all_goals (first | (simp (maxDischargeDepth := 30); done) | (try simp_all (maxDischargeDepth := 30)))
@[simp] theorem State.enterDrain_fixed (s : State) (st : Nat)  :
    (State.enterDrain s st).fixed = s.fixed := by
  unfold State.enterDrain
  try dsimp only
  try (repeat' split)
  all_goals (first | (simp (maxDischargeDepth := 30); done) | (try simp_all (maxDischargeDepth := 30)))
@[simp] theorem State.stopDrain_fixed (s : State) (st : Nat)  :
    (State.stopDrain s st).fixed = s.fixed := by
  unfold State.stopDrain
  try dsimp only
  try (repeat' split)
  all_goals (first | (simp (maxDischargeDepth := 30); done) | (try simp_all (maxDischargeDepth := 30)))

end Sys2Proof.Machine
end

