-- ==== Sys2Proof/Laws/FixedSeal.lean ====
section
/-! SUPPORT. Operations of Seal keep what `State.fixed` reads. -/

namespace Sys2Proof.Machine

@[simp] theorem State.flushFrames_fixed (s : State) (st : Nat)  :
    (State.flushFrames s st).fixed = s.fixed := by
  unfold State.flushFrames
  try dsimp only
  try (repeat' split)
  all_goals (first | (simp (maxDischargeDepth := 30); done) | (try simp_all (maxDischargeDepth := 30)))

end Sys2Proof.Machine
end

