-- ==== Sys2Proof/Laws/FixedMadc.lean ====
section
/-! SUPPORT. Operations of Madc keep what `State.fixed` reads. -/

namespace Sys2Proof.Machine

@[simp] theorem State.madcLose_fixed (s : State) (k : Nat)  :
    (State.madcLose s k).fixed = s.fixed := by
  unfold State.madcLose
  try dsimp only
  try (repeat' split)
  all_goals (first | (simp (maxDischargeDepth := 30); done) | (try simp_all (maxDischargeDepth := 30)))
@[simp] theorem State.madcStart_fixed (s : State) (k : Nat) (t : Nat)  :
    (State.madcStart s k t).fixed = s.fixed := by
  unfold State.madcStart
  try dsimp only
  try (repeat' split)
  all_goals (first | (simp (maxDischargeDepth := 30); done) | (try simp_all (maxDischargeDepth := 30)))
@[simp] theorem State.madcTriggerAt_fixed (s : State) (k : Nat) (cont : Bool) (t : Nat)  :
    (State.madcTriggerAt s k cont t).fixed = s.fixed := by
  unfold State.madcTriggerAt
  try dsimp only
  try (repeat' split)
  all_goals (first | (simp (maxDischargeDepth := 30); done) | (try simp_all (maxDischargeDepth := 30)))
@[simp] theorem State.madcTrigger_fixed (s : State) (k : Nat) (cont : Bool)  :
    (State.madcTrigger s k cont).fixed = s.fixed := by
  unfold State.madcTrigger
  try dsimp only
  try (repeat' split)
  all_goals (first | (simp (maxDischargeDepth := 30); done) | (try simp_all (maxDischargeDepth := 30)))
@[simp] theorem State.acqRestartPairs_fixed (s : State) (k : Nat)  :
    (State.acqRestartPairs s k).fixed = s.fixed := by
  unfold State.acqRestartPairs
  try dsimp only
  try (repeat' split)
  all_goals (first | (simp (maxDischargeDepth := 30); done) | (try simp_all (maxDischargeDepth := 30)))
@[simp] theorem State.madcStop_fixed (s : State) (k : Nat)  :
    (State.madcStop s k).fixed = s.fixed := by
  unfold State.madcStop
  try dsimp only
  try (repeat' split)
  all_goals (first | (simp (maxDischargeDepth := 30); done) | (try simp_all (maxDischargeDepth := 30)))
@[simp] theorem State.madcHold_fixed (s : State) (k : Nat)  :
    (State.madcHold s k).fixed = s.fixed := by
  unfold State.madcHold
  try dsimp only
  try (repeat' split)
  all_goals (first | (simp (maxDischargeDepth := 30); done) | (try simp_all (maxDischargeDepth := 30)))
@[simp] theorem State.wMadcCtrl_fixed (s : State) (fn : Nat) (k : Nat) (val : Nat)  :
    (State.wMadcCtrl s fn k val).fixed = s.fixed := by
  unfold State.wMadcCtrl
  try dsimp only
  try (repeat' split)
  all_goals (first | (simp (maxDischargeDepth := 30); done) | (try simp_all (maxDischargeDepth := 30)))
@[simp] theorem State.wMadcMask_fixed (s : State) (k : Nat) (val : Nat)  :
    (State.wMadcMask s k val).fixed = s.fixed := by
  unfold State.wMadcMask
  try dsimp only
  try (repeat' split)
  all_goals (first | (simp (maxDischargeDepth := 30); done) | (try simp_all (maxDischargeDepth := 30)))
@[simp] theorem State.wMadcSrc_fixed (s : State) (fn : Nat) (k : Nat) (val : Nat)  :
    (State.wMadcSrc s fn k val).fixed = s.fixed := by
  unfold State.wMadcSrc
  try dsimp only
  try (repeat' split)
  all_goals (first | (simp (maxDischargeDepth := 30); done) | (try simp_all (maxDischargeDepth := 30)))
@[simp] theorem State.wMadcQueue_fixed (s : State) (fn : Nat) (k : Nat) (val : Nat)  :
    (State.wMadcQueue s fn k val).fixed = s.fixed := by
  unfold State.wMadcQueue
  try dsimp only
  try (repeat' split)
  all_goals (first | (simp (maxDischargeDepth := 30); done) | (try simp_all (maxDischargeDepth := 30)))
@[simp] theorem State.madcSample_fixed (s : State)  :
    (State.madcSample s).fixed = s.fixed := by
  unfold State.madcSample
  apply forEach_fixed
  intro j t
  split
  · split <;> simp
  · rfl
@[simp] theorem State.madcNext_fixed (s : State) (k : Nat) (c : Scan) (at_ : Nat)  :
    (State.madcNext s k c at_).fixed = s.fixed := by
  unfold State.madcNext
  try dsimp only
  try (repeat' split)
  all_goals (first | (simp (maxDischargeDepth := 30); done) | (try simp_all (maxDischargeDepth := 30)))
@[simp] theorem State.madcFaultNext_fixed (s : State) (k : Nat) (c : Scan) (at_ : Nat)  :
    (State.madcFaultNext s k c at_).fixed = s.fixed := by
  unfold State.madcFaultNext
  try dsimp only
  try (repeat' split)
  all_goals (first | (simp (maxDischargeDepth := 30); done) | (try simp_all (maxDischargeDepth := 30)))
@[simp] theorem State.madcGap_fixed (s : State) (k : Nat) (tt : Nat) (seq : Nat) (n : Nat)  :
    (State.madcGap s k tt seq n).fixed = s.fixed := by
  unfold State.madcGap
  try dsimp only
  try (repeat' split)
  all_goals (first | (simp (maxDischargeDepth := 30); done) | (try simp_all (maxDischargeDepth := 30)))
@[simp] theorem State.madcResult_fixed (s : State) (k : Nat) (c : Scan) (n : Nat) (raw : Int)  :
    (State.madcResult s k c n raw).fixed = s.fixed := by
  unfold State.madcResult
  try dsimp only
  try (repeat' split)
  all_goals (first | (simp (maxDischargeDepth := 30); done) | (try simp_all (maxDischargeDepth := 30)))
@[simp] theorem State.madcMove_fixed (s : State) (k : Nat)  :
    (State.madcMove s k).fixed = s.fixed := by
  unfold State.madcMove
  try dsimp only
  try (repeat' split)
  all_goals (first | (simp (maxDischargeDepth := 30); done) | (try simp_all (maxDischargeDepth := 30)))

end Sys2Proof.Machine
end

