-- ==== Sys2Proof/Laws/FixedAcq.lean ====
section
/-! SUPPORT. Operations of Acq keep what `State.fixed` reads. -/

namespace Sys2Proof.Machine

@[simp] theorem State.trigOutEvent_fixed (s : State) (line : Nat) (tt : Nat)  :
    (State.trigOutEvent s line tt).fixed = s.fixed := by
  unfold State.trigOutEvent
  try dsimp only
  try (repeat' split)
  all_goals (first | (simp (maxDischargeDepth := 30); done) | (try simp_all (maxDischargeDepth := 30)))
@[simp] theorem State.acqWrite_fixed (s : State) (k : Nat) (r : AcqRec)  :
    (State.acqWrite s k r).fixed = s.fixed := by
  unfold State.acqWrite
  try dsimp only
  try (repeat' split)
  all_goals (first | (simp (maxDischargeDepth := 30); done) | (try simp_all (maxDischargeDepth := 30)))
@[simp] theorem State.acqEdge_fixed (s : State) (k : Nat) (r : AcqRec)  :
    (State.acqEdge s k r).fixed = s.fixed := by
  unfold State.acqEdge
  try dsimp only
  try (repeat' split)
  all_goals (first | (simp (maxDischargeDepth := 30); done) | (try simp_all (maxDischargeDepth := 30)))
@[simp] theorem State.acqLand_fixed (s : State) (k : Nat)  :
    (State.acqLand s k).fixed = s.fixed := by
  unfold State.acqLand
  try dsimp only
  try (repeat' split)
  all_goals (first | (simp (maxDischargeDepth := 30); done) | (try simp_all (maxDischargeDepth := 30)))
@[simp] theorem State.acqArrive_fixed (s : State) (k : Nat)  :
    (State.acqArrive s k).fixed = s.fixed := by
  unfold State.acqArrive
  try dsimp only
  try (repeat' split)
  all_goals (first | (simp (maxDischargeDepth := 30); done) | (try simp_all (maxDischargeDepth := 30)))
@[simp] theorem State.acqCatchUp_fixed (s : State) (k : Nat) (tt : Nat)  :
    (State.acqCatchUp s k tt).fixed = s.fixed := by
  unfold State.acqCatchUp
  try dsimp only
  try (repeat' split)
  all_goals (first | (simp (maxDischargeDepth := 30); done) | (try simp_all (maxDischargeDepth := 30)))
@[simp] theorem State.acqAccept_fixed (s0 : State) (k : Nat) (t : Int) (ty : Nat) (interp : Bool) (id : Nat)
    (D : Nat)  :
    (State.acqAccept s0 k t ty interp id D).fixed = s0.fixed := by
  unfold State.acqAccept
  try dsimp only
  try (repeat' split)
  all_goals (first | (simp (maxDischargeDepth := 30); done) | (try simp_all (maxDischargeDepth := 30)))
@[simp] theorem State.acqTrigger_fixed (s : State) (k : Nat) (t : Int) (ty : Nat) (interp : Bool) (id : Nat)
    (D : Nat)  :
    (State.acqTrigger s k t ty interp id D).fixed = s.fixed := by
  unfold State.acqTrigger
  try dsimp only
  try (repeat' split)
  all_goals (first | (simp (maxDischargeDepth := 30); done) | (try simp_all (maxDischargeDepth := 30)))
@[simp] theorem State.acqDeclareBy_fixed (s : State) (k : Nat) (by_ : Nat)  :
    (State.acqDeclareBy s k by_).fixed = s.fixed := by
  unfold State.acqDeclareBy
  try dsimp only
  try (repeat' split)
  all_goals (first | (simp (maxDischargeDepth := 30); done) | (try simp_all (maxDischargeDepth := 30)))
@[simp] theorem State.acqDeclare_fixed (s : State) (k : Nat)  :
    (State.acqDeclare s k).fixed = s.fixed := by
  unfold State.acqDeclare
  try dsimp only
  try (repeat' split)
  all_goals (first | (simp (maxDischargeDepth := 30); done) | (try simp_all (maxDischargeDepth := 30)))
@[simp] theorem State.acqStamp_fixed (s : State) (ch : Nat) (cl : Bool) (rising : Bool) (raw : Nat)  :
    (State.acqStamp s ch cl rising raw).fixed = s.fixed := by
  unfold State.acqStamp
  try dsimp only
  try (repeat' split)
  all_goals (first | (simp (maxDischargeDepth := 30); done) | (try simp_all (maxDischargeDepth := 30)))
@[simp] theorem State.acqSample_fixed (s : State) (k : Nat) (n : Nat) (hold : Nat) (word : Nat)  :
    (State.acqSample s k n hold word).fixed = s.fixed := by
  unfold State.acqSample
  try dsimp only
  try (repeat' split)
  all_goals (first | (simp (maxDischargeDepth := 30); done) | (try simp_all (maxDischargeDepth := 30)))
@[simp] theorem State.acqMark_fixed (s : State) (st : Nat) (tt : Nat) (id : Nat)  :
    (State.acqMark s st tt id).fixed = s.fixed := by
  unfold State.acqMark
  try dsimp only
  try (repeat' split)
  all_goals (first | (simp (maxDischargeDepth := 30); done) | (try simp_all (maxDischargeDepth := 30)))
@[simp] theorem State.acqTrigIn_fixed (s : State) (o : Nat) (line : Nat) (tt : Nat)  :
    (State.acqTrigIn s o line tt).fixed = s.fixed := by
  unfold State.acqTrigIn
  try dsimp only
  try (repeat' split)
  all_goals (first | (simp (maxDischargeDepth := 30); done) | (try simp_all (maxDischargeDepth := 30)))
@[simp] theorem State.madcDone_fixed (s : State) (k : Nat) (raw : Int) (fault : State → State) (hfault : ∀ y1,
    (fault y1).fixed = y1.fixed) :
    (State.madcDone s k raw fault).fixed = s.fixed := by
  unfold State.madcDone
  try dsimp only
  try (repeat' split)
  all_goals (first | (simp (maxDischargeDepth := 30); done) | (try simp_all (maxDischargeDepth := 30)))
@[simp] theorem State.acqDisarm_fixed (s : State) (k : Nat)  :
    (State.acqDisarm s k).fixed = s.fixed := by
  unfold State.acqDisarm
  try dsimp only
  try (repeat' split)
  all_goals (first | (simp (maxDischargeDepth := 30); done) | (try simp_all (maxDischargeDepth := 30)))
@[simp] theorem State.acqRunStop_fixed (s : State) (k : Nat)  :
    (State.acqRunStop s k).fixed = s.fixed := by
  unfold State.acqRunStop
  try dsimp only
  try (repeat' split)
  all_goals (first | (simp (maxDischargeDepth := 30); done) | (try simp_all (maxDischargeDepth := 30)))
@[simp] theorem State.acqSafe_fixed (s : State) (k : Nat)  :
    (State.acqSafe s k).fixed = s.fixed := by
  unfold State.acqSafe
  try dsimp only
  try (repeat' split)
  all_goals (first | (simp (maxDischargeDepth := 30); done) | (try simp_all (maxDischargeDepth := 30)))
@[simp] theorem State.acqArm_fixed (s : State) (fn : Nat) (k : Nat)  :
    (State.acqArm s fn k).fixed = s.fixed := by
  unfold State.acqArm
  try dsimp only
  try (repeat' split)
  all_goals (first | (simp (maxDischargeDepth := 30); done) | (try simp_all (maxDischargeDepth := 30)))
@[simp] theorem State.acqForce_fixed (s : State) (fn : Nat) (k : Nat)  :
    (State.acqForce s fn k).fixed = s.fixed := by
  unfold State.acqForce
  try dsimp only
  try (repeat' split)
  all_goals (first | (simp (maxDischargeDepth := 30); done) | (try simp_all (maxDischargeDepth := 30)))
@[simp] theorem State.wAcqArm_fixed (s : State) (fn : Nat) (k : Nat) (val : Nat)  :
    (State.wAcqArm s fn k val).fixed = s.fixed := by
  unfold State.wAcqArm
  try dsimp only
  try (repeat' split)
  all_goals (first | (simp (maxDischargeDepth := 30); done) | (try simp_all (maxDischargeDepth := 30)))
@[simp] theorem State.wAcqCtrl_fixed (s : State) (fn : Nat) (k : Nat) (val : Nat)  :
    (State.wAcqCtrl s fn k val).fixed = s.fixed := by
  unfold State.wAcqCtrl
  try dsimp only
  try (repeat' split)
  all_goals (first | (simp (maxDischargeDepth := 30); done) | (try simp_all (maxDischargeDepth := 30)))
@[simp] theorem State.acqConfig_fixed (s : State) (fn : Nat) (k : Nat) (bad : Bool) (code : Nat) (f : Acq → Acq)  :
    (State.acqConfig s fn k bad code f).fixed = s.fixed := by
  unfold State.acqConfig
  try dsimp only
  try (repeat' split)
  all_goals (first | (simp (maxDischargeDepth := 30); done) | (try simp_all (maxDischargeDepth := 30)))
@[simp] theorem State.wAcqType_fixed (s : State) (fn : Nat) (k : Nat) (val : Nat)  :
    (State.wAcqType s fn k val).fixed = s.fixed := by
  unfold State.wAcqType
  try dsimp only
  try (repeat' split)
  all_goals (first | (simp (maxDischargeDepth := 30); done) | (try simp_all (maxDischargeDepth := 30)))
@[simp] theorem State.wAcqSrc_fixed (s : State) (fn : Nat) (k : Nat) (val : Nat)  :
    (State.wAcqSrc s fn k val).fixed = s.fixed := by
  unfold State.wAcqSrc
  try dsimp only
  try (repeat' split)
  all_goals (first | (simp (maxDischargeDepth := 30); done) | (try simp_all (maxDischargeDepth := 30)))
@[simp] theorem State.wAcqThresh_fixed (s : State) (fn : Nat) (k : Nat) (hi : Bool) (val : Nat)  :
    (State.wAcqThresh s fn k hi val).fixed = s.fixed := by
  unfold State.wAcqThresh
  try dsimp only
  try (repeat' split)
  all_goals (first | (simp (maxDischargeDepth := 30); done) | (try simp_all (maxDischargeDepth := 30)))
@[simp] theorem State.wAcqLimit_fixed (s : State) (fn : Nat) (k : Nat) (lo : Nat) (val : Nat)  :
    (State.wAcqLimit s fn k lo val).fixed = s.fixed := by
  unfold State.wAcqLimit
  try dsimp only
  try (repeat' split)
  all_goals (first | (simp (maxDischargeDepth := 30); done) | (try simp_all (maxDischargeDepth := 30)))
@[simp] theorem State.wAcqPre_fixed (s : State) (fn : Nat) (k : Nat) (val : Nat)  :
    (State.wAcqPre s fn k val).fixed = s.fixed := by
  unfold State.wAcqPre
  try dsimp only
  try (repeat' split)
  all_goals (first | (simp (maxDischargeDepth := 30); done) | (try simp_all (maxDischargeDepth := 30)))
@[simp] theorem State.wAcqPost_fixed (s : State) (fn : Nat) (k : Nat) (val : Nat)  :
    (State.wAcqPost s fn k val).fixed = s.fixed := by
  unfold State.wAcqPost
  try dsimp only
  try (repeat' split)
  all_goals (first | (simp (maxDischargeDepth := 30); done) | (try simp_all (maxDischargeDepth := 30)))
@[simp] theorem State.wAcqQueue_fixed (s : State) (fn : Nat) (k : Nat) (val : Nat)  :
    (State.wAcqQueue s fn k val).fixed = s.fixed := by
  unfold State.wAcqQueue
  try dsimp only
  try (repeat' split)
  all_goals (first | (simp (maxDischargeDepth := 30); done) | (try simp_all (maxDischargeDepth := 30)))
@[simp] theorem State.acqLoneGap_fixed (s : State) (k : Nat)  :
    (State.acqLoneGap s k).fixed = s.fixed := by
  unfold State.acqLoneGap
  try dsimp only
  try (repeat' split)
  all_goals (first | (simp (maxDischargeDepth := 30); done) | (try simp_all (maxDischargeDepth := 30)))
@[simp] theorem State.acqMove_fixed (s : State) (k : Nat)  :
    (State.acqMove s k).fixed = s.fixed := by
  unfold State.acqMove
  try dsimp only
  try (repeat' split)
  all_goals (first | (simp (maxDischargeDepth := 30); done) | (try simp_all (maxDischargeDepth := 30)))

end Sys2Proof.Machine
end

