-- ==== Sys2Proof/Laws/FixedModes.lean ====
section
/-! SUPPORT. Operations of Modes keep what `State.fixed` reads. -/

namespace Sys2Proof.Machine

@[simp] theorem State.setCause_fixed (s : State) (m : Nat)  :
    (State.setCause s m).fixed = s.fixed := by
  unfold State.setCause
  try dsimp only
  try (repeat' split)
  all_goals (first | (simp (maxDischargeDepth := 30); done) | (try simp_all (maxDischargeDepth := 30)))
@[simp] theorem State.wSafeCause_fixed (s : State) (val : Nat)  :
    (State.wSafeCause s val).fixed = s.fixed := by
  unfold State.wSafeCause
  try dsimp only
  try (repeat' split)
  all_goals (first | (simp (maxDischargeDepth := 30); done) | (try simp_all (maxDischargeDepth := 30)))
@[simp] theorem State.hizStart_fixed (s : State) (safe : Bool) (ch : Nat)  :
    (State.hizStart s safe ch).fixed = s.fixed := by
  unfold State.hizStart
  try dsimp only
  try (repeat' split)
  all_goals (first | (simp (maxDischargeDepth := 30); done) | (try simp_all (maxDischargeDepth := 30)))
@[simp] theorem State.hizDone_fixed (s : State) (ch : Nat)  :
    (State.hizDone s ch).fixed = s.fixed := by
  unfold State.hizDone
  try dsimp only
  try (repeat' split)
  all_goals (first | (simp (maxDischargeDepth := 30); done) | (try simp_all (maxDischargeDepth := 30)))
@[simp] theorem State.hizFrom_fixed (s : State) (safe : Bool) (ch : Nat)  :
    (State.hizFrom s safe ch).fixed = s.fixed := by
  unfold State.hizFrom
  try dsimp only
  try (repeat' split)
  all_goals (first | (simp (maxDischargeDepth := 30); done) | (try simp_all (maxDischargeDepth := 30)))
@[simp] theorem State.hizAll_fixed (s : State) (safe : Bool) (l : List Nat)  :
    (State.hizAll s safe l).fixed = s.fixed := by
  unfold State.hizAll
  try dsimp only
  try (repeat' split)
  all_goals (first | (simp (maxDischargeDepth := 30); done) | (try simp_all (maxDischargeDepth := 30)))
@[simp] theorem State.powerUpPins_fixed (s : State) (ch : Nat)  :
    (State.powerUpPins s ch).fixed = s.fixed := by
  unfold State.powerUpPins
  try dsimp only
  try (repeat' split)
  all_goals (first | (simp (maxDischargeDepth := 30); done) | (try simp_all (maxDischargeDepth := 30)))
@[simp] theorem State.calFail_fixed (s : State) (r : Nat) (code : Nat)  :
    (State.calFail s r code).fixed = s.fixed := by
  unfold State.calFail
  try dsimp only
  try (repeat' split)
  all_goals (first | (simp (maxDischargeDepth := 30); done) | (try simp_all (maxDischargeDepth := 30)))
@[simp] theorem State.madcRelease_fixed (s : State) (k : Nat)  :
    (State.madcRelease s k).fixed = s.fixed := by
  unfold State.madcRelease
  try dsimp only
  try (repeat' split)
  all_goals (first | (simp (maxDischargeDepth := 30); done) | (try simp_all (maxDischargeDepth := 30)))
@[simp] theorem State.stepEnd_fixed (s : State) (k : Nat)  :
    (State.stepEnd s k).fixed = s.fixed := by
  unfold State.stepEnd
  try dsimp only
  try (repeat' split)
  all_goals (first | (simp (maxDischargeDepth := 30); done) | (try simp_all (maxDischargeDepth := 30)))
@[simp] theorem State.calAbandon_fixed (s : State) (i : Nat)  :
    (State.calAbandon s i).fixed = s.fixed := by
  unfold State.calAbandon
  try dsimp only
  try (repeat' split)
  all_goals (first | (simp (maxDischargeDepth := 30); done) | (try simp_all (maxDischargeDepth := 30)))
@[simp] theorem State.calAbandonAll_fixed (s : State)  :
    (State.calAbandonAll s).fixed = s.fixed := by
  unfold State.calAbandonAll
  try dsimp only
  try (repeat' split)
  all_goals (first | (simp (maxDischargeDepth := 30); done) | (try simp_all (maxDischargeDepth := 30)))
@[simp] theorem State.modMc_fixed (s : State) (r : Nat) (f : Slots McImage → Slots McImage)  :
    (State.modMc s r f).fixed = s.fixed := by
  unfold State.modMc
  try dsimp only
  try (repeat' split)
  all_goals (first | (simp (maxDischargeDepth := 30); done) | (try simp_all (maxDischargeDepth := 30)))
@[simp] theorem State.installUndo_fixed (s : State) (r : Nat)  :
    (State.installUndo s r).fixed = s.fixed := by
  unfold State.installUndo
  try dsimp only
  try (repeat' split)
  all_goals (first | (simp (maxDischargeDepth := 30); done) | (try simp_all (maxDischargeDepth := 30)))
@[simp] theorem State.updateAbandon_fixed (s : State)  :
    (State.updateAbandon s).fixed = s.fixed := by
  unfold State.updateAbandon
  try dsimp only
  try (repeat' split)
  all_goals (first | (simp (maxDischargeDepth := 30); done) | (try simp_all (maxDischargeDepth := 30)))
@[simp] theorem State.unitsSafe_fixed (s : State)  :
    (State.unitsSafe s).fixed = s.fixed := by
  unfold State.unitsSafe
  try dsimp only
  try (repeat' split)
  all_goals (first | (simp (maxDischargeDepth := 30); done) | (try simp_all (maxDischargeDepth := 30)))
@[simp] theorem State.safeEntry_fixed (s : State) (code : Nat)  :
    (State.safeEntry s code).fixed = s.fixed := by
  unfold State.safeEntry
  try dsimp only
  try (repeat' split)
  all_goals (first | (simp (maxDischargeDepth := 30); done) | (try simp_all (maxDischargeDepth := 30)))
@[simp] theorem State.enterSafe_fixed (s : State) (code : Nat)  :
    (State.enterSafe s code).fixed = s.fixed := by
  unfold State.enterSafe
  try dsimp only
  try (repeat' split)
  all_goals (first | (simp (maxDischargeDepth := 30); done) | (try simp_all (maxDischargeDepth := 30)))
@[simp] theorem State.safeRequest_fixed (s : State)  :
    (State.safeRequest s).fixed = s.fixed := by
  unfold State.safeRequest
  try dsimp only
  try (repeat' split)
  all_goals (first | (simp (maxDischargeDepth := 30); done) | (try simp_all (maxDischargeDepth := 30)))
@[simp] theorem State.toSafe_fixed (s : State) (m : Nat) (code : Nat)  :
    (State.toSafe s m code).fixed = s.fixed := by
  unfold State.toSafe
  try dsimp only
  try (repeat' split)
  all_goals (first | (simp (maxDischargeDepth := 30); done) | (try simp_all (maxDischargeDepth := 30)))
@[simp] theorem State.modeReject_fixed (s : State) (code : Nat)  :
    (State.modeReject s code).fixed = s.fixed := by
  unfold State.modeReject
  try dsimp only
  try (repeat' split)
  all_goals (first | (simp (maxDischargeDepth := 30); done) | (try simp_all (maxDischargeDepth := 30)))
@[simp] theorem State.begin_fixed (s : State) (m : Mode)  :
    (State.begin s m).fixed = s.fixed := by
  unfold State.begin
  try dsimp only
  try (repeat' split)
  all_goals (first | (simp (maxDischargeDepth := 30); done) | (try simp_all (maxDischargeDepth := 30)))
@[simp] theorem State.endRunMode_fixed (s : State)  :
    (State.endRunMode s).fixed = s.fixed := by
  unfold State.endRunMode
  try dsimp only
  try (repeat' split)
  all_goals (first | (simp (maxDischargeDepth := 30); done) | (try simp_all (maxDischargeDepth := 30)))
@[simp] theorem State.wModeCtrl_fixed (s : State) (val : Nat)  :
    (State.wModeCtrl s val).fixed = s.fixed := by
  unfold State.wModeCtrl
  dsimp only
  split
  · simp
  · split <;> (repeat' split) <;> simp
@[simp] theorem State.modeReq_fixed (s : State) (fn : Nat) (val : Nat)  :
    (State.modeReq s fn val).fixed = s.fixed := by
  unfold State.modeReq
  try dsimp only
  try (repeat' split)
  all_goals (first | (simp (maxDischargeDepth := 30); done) | (try simp_all (maxDischargeDepth := 30)))
@[simp] theorem State.siteNotice_fixed (s : State) (a : Mode) (b : Mode)  :
    (State.siteNotice s a b).fixed = s.fixed := by
  unfold State.siteNotice
  try dsimp only
  try (repeat' split)
  all_goals (first | (simp (maxDischargeDepth := 30); done) | (try simp_all (maxDischargeDepth := 30)))
@[simp] theorem State.norStart_fixed (s : State)  :
    (State.norStart s).fixed = s.fixed := by
  unfold State.norStart
  try dsimp only
  try (repeat' split)
  all_goals (first | (simp (maxDischargeDepth := 30); done) | (try simp_all (maxDischargeDepth := 30)))
@[simp] theorem State.norWrite_fixed (s : State) (r : Nat)  :
    (State.norWrite s r).fixed = s.fixed := by
  unfold State.norWrite
  try dsimp only
  try (repeat' split)
  all_goals (first | (simp (maxDischargeDepth := 30); done) | (try simp_all (maxDischargeDepth := 30)))
@[simp] theorem State.leaveSafe_fixed (s : State)  :
    (State.leaveSafe s).fixed = s.fixed := by
  unfold State.leaveSafe
  try dsimp only
  try (repeat' split)
  all_goals (first | (simp (maxDischargeDepth := 30); done) | (try simp_all (maxDischargeDepth := 30)))
@[simp] theorem State.seqAdvance_fixed (s : State)  :
    (State.seqAdvance s).fixed = s.fixed := by
  unfold State.seqAdvance
  try dsimp only
  try (repeat' split)
  all_goals (first | (simp (maxDischargeDepth := 30); done) | (try simp_all (maxDischargeDepth := 30)))
@[simp] theorem State.calSequence_fixed (s : State)  :
    (State.calSequence s).fixed = s.fixed := by
  unfold State.calSequence
  try dsimp only
  try (repeat' split)
  all_goals (first | (simp (maxDischargeDepth := 30); done) | (try simp_all (maxDischargeDepth := 30)))
@[simp] theorem State.modeLeft_fixed (s : State) (old : Mode) (m : Mode)  :
    (State.modeLeft s old m).fixed = s.fixed := by
  unfold State.modeLeft
  try dsimp only
  try (repeat' split)
  all_goals (first | (simp (maxDischargeDepth := 30); done) | (try simp_all (maxDischargeDepth := 30)))
@[simp] theorem State.finish_fixed (s : State) (m : Mode)  :
    (State.finish s m).fixed = s.fixed := by
  unfold State.finish
  try dsimp only
  try (repeat' split)
  all_goals (first | (simp (maxDischargeDepth := 30); done) | (try simp_all (maxDischargeDepth := 30)))
@[simp] theorem State.jtagRelease_fixed (s : State)  :
    (State.jtagRelease s).fixed = s.fixed := by
  unfold State.jtagRelease
  try dsimp only
  try (repeat' split)
  all_goals (first | (simp (maxDischargeDepth := 30); done) | (try simp_all (maxDischargeDepth := 30)))
@[simp] theorem State.transitionDone_fixed (s : State)  :
    (State.transitionDone s).fixed = s.fixed := by
  unfold State.transitionDone
  try dsimp only
  try (repeat' split)
  all_goals (first | (simp (maxDischargeDepth := 30); done) | (try simp_all (maxDischargeDepth := 30)))
@[simp] theorem State.bootReady_fixed (s : State)  :
    (State.bootReady s).fixed = s.fixed := by
  unfold State.bootReady
  try dsimp only
  try (repeat' split)
  all_goals (first | (simp (maxDischargeDepth := 30); done) | (try simp_all (maxDischargeDepth := 30)))
@[simp] theorem State.warmSample_fixed (s : State)  :
    (State.warmSample s).fixed = s.fixed := by
  unfold State.warmSample
  try dsimp only
  try (repeat' split)
  all_goals (first | (simp (maxDischargeDepth := 30); done) | (try simp_all (maxDischargeDepth := 30)))
@[simp] theorem State.doeForget_fixed (s : State) (fn : Nat)  :
    (State.doeForget s fn).fixed = s.fixed := by
  unfold State.doeForget
  try dsimp only
  try (repeat' split)
  all_goals (first | (simp (maxDischargeDepth := 30); done) | (try simp_all (maxDischargeDepth := 30)))
@[simp] theorem State.fnClear_fixed (s : State) (fn : Nat)  :
    (State.fnClear s fn).fixed = s.fixed := by
  unfold State.fnClear
  try dsimp only
  try (repeat' split)
  all_goals (first | (simp (maxDischargeDepth := 30); done) | (try simp_all (maxDischargeDepth := 30)))
@[simp] theorem State.endpointReset_fixed (s : State) (e : Nat)  :
    (State.endpointReset s e).fixed = s.fixed := by
  unfold State.endpointReset
  try dsimp only
  try (repeat' split)
  all_goals (first | (simp (maxDischargeDepth := 30); done) | (try simp_all (maxDischargeDepth := 30)))
@[simp] theorem State.vfReset_fixed (s : State) (i : Nat)  :
    (State.vfReset s i).fixed = s.fixed := by
  unfold State.vfReset
  try dsimp only
  try (repeat' split)
  all_goals (first | (simp (maxDischargeDepth := 30); done) | (try simp_all (maxDischargeDepth := 30)))
@[simp] theorem State.functionReset_fixed (s : State) (fn : Nat) (how : Nat)  :
    (State.functionReset s fn how).fixed = s.fixed := by
  unfold State.functionReset
  try dsimp only
  try (repeat' split)
  all_goals (first | (simp (maxDischargeDepth := 30); done) | (try simp_all (maxDischargeDepth := 30)))
@[simp] theorem State.msixFlush_fixed (s : State) (fn : Nat)  :
    (State.msixFlush s fn).fixed = s.fixed := by
  unfold State.msixFlush
  try dsimp only
  try (repeat' split)
  all_goals (first | (simp (maxDischargeDepth := 30); done) | (try simp_all (maxDischargeDepth := 30)))

@[simp] theorem State.msixWrite_fixed (s : State) (fn : Nat) (off : Nat) (val : Nat)  :
    (State.msixWrite s fn off val).fixed = s.fixed := by
  unfold State.msixWrite
  try dsimp only
  try (repeat' split)
  all_goals (first | (simp (maxDischargeDepth := 30); done) | (try simp_all (maxDischargeDepth := 30)))

end Sys2Proof.Machine
end

