-- ==== Sys2Proof/Laws/FixedPower.lean ====
section
/-! SUPPORT. Operations of Power keep what `State.fixed` reads. -/

namespace Sys2Proof.Machine

@[simp] theorem State.drbgSeed_fixed (s : State)  :
    (State.drbgSeed s).fixed = s.fixed := by
  unfold State.drbgSeed
  try dsimp only
  try (repeat' split)
  all_goals (first | (simp (maxDischargeDepth := 30); done) | (try simp_all (maxDischargeDepth := 30)))
@[simp] theorem State.drbgReseed_fixed (s : State)  :
    (State.drbgReseed s).fixed = s.fixed := by
  unfold State.drbgReseed
  try dsimp only
  try (repeat' split)
  all_goals (first | (simp (maxDischargeDepth := 30); done) | (try simp_all (maxDischargeDepth := 30)))
@[simp] theorem State.draw_fixed (s : State) (n : Nat)  :
    (State.draw s n).1.fixed = s.fixed := by
  unfold State.draw
  try dsimp only
  try (repeat' split)
  all_goals (first | (simp (maxDischargeDepth := 30); done) | (try simp_all (maxDischargeDepth := 30)))
@[simp] theorem State.newKey_fixed (s : State) (h : Nat)  :
    (State.newKey s h).fixed = s.fixed := by
  unfold State.newKey
  try dsimp only
  try (repeat' split)
  all_goals (first | (simp (maxDischargeDepth := 30); done) | (try simp_all (maxDischargeDepth := 30)))
@[simp] theorem State.rekey_fixed (s : State) (h : Nat)  :
    (State.rekey s h).fixed = s.fixed := by
  unfold State.rekey
  try dsimp only
  try (repeat' split)
  all_goals (first | (simp (maxDischargeDepth := 30); done) | (try simp_all (maxDischargeDepth := 30)))
@[simp] theorem State.clearFail_fixed (s : State) (ty : Nat) (inst : Nat)  :
    (State.clearFail s ty inst).fixed = s.fixed := by
  unfold State.clearFail
  try dsimp only
  try (repeat' split)
  all_goals (first | (simp (maxDischargeDepth := 30); done) | (try simp_all (maxDischargeDepth := 30)))
@[simp] theorem State.hbmCleared_fixed (s : State) (failed : Nat)  :
    (State.hbmCleared s failed).fixed = s.fixed := by
  unfold State.hbmCleared
  try dsimp only
  try (repeat' split)
  all_goals (first | (simp (maxDischargeDepth := 30); done) | (try simp_all (maxDischargeDepth := 30)))
@[simp] theorem State.fwStart_fixed (s : State) (slotB : Bool) (i : FwImage)  :
    (State.fwStart s slotB i).fixed = s.fixed := by
  unfold State.fwStart
  try dsimp only
  try (repeat' split)
  all_goals (first | (simp (maxDischargeDepth := 30); done) | (try simp_all (maxDischargeDepth := 30)))
@[simp] theorem State.fwVerify_fixed (s : State) (sigA : FwVerdict) (sigB : FwVerdict)  :
    (State.fwVerify s sigA sigB).fixed = s.fixed := by
  unfold State.fwVerify
  try dsimp only
  try (repeat' split)
  all_goals (first | (simp (maxDischargeDepth := 30); done) | (try simp_all (maxDischargeDepth := 30)))
@[simp] theorem State.powerSteps_fixed (s : State) (m : Nat)  :
    (State.powerSteps s m).fixed = s.fixed := by
  unfold State.powerSteps
  try dsimp only
  try (repeat' split)
  all_goals (first | (simp (maxDischargeDepth := 30); done) | (try simp_all (maxDischargeDepth := 30)))
@[simp] theorem State.powerWarn_fixed (s : State) (vin : Nat)  :
    (State.powerWarn s vin).fixed = s.fixed := by
  unfold State.powerWarn
  try dsimp only
  try (repeat' split)
  all_goals (first | (simp (maxDischargeDepth := 30); done) | (try simp_all (maxDischargeDepth := 30)))
@[simp] theorem State.shedDone_fixed (s : State)  :
    (State.shedDone s).fixed = s.fixed := by
  unfold State.shedDone
  try dsimp only
  try (repeat' split)
  all_goals (first | (simp (maxDischargeDepth := 30); done) | (try simp_all (maxDischargeDepth := 30)))
@[simp] theorem State.overCurrent_fixed (s : State)  :
    (State.overCurrent s).fixed = s.fixed := by
  unfold State.overCurrent
  try dsimp only
  try (repeat' split)
  all_goals (first | (simp (maxDischargeDepth := 30); done) | (try simp_all (maxDischargeDepth := 30)))
@[simp] theorem State.overVoltage_fixed (s : State) (vin : Nat)  :
    (State.overVoltage s vin).fixed = s.fixed := by
  unfold State.overVoltage
  try dsimp only
  try (repeat' split)
  all_goals (first | (simp (maxDischargeDepth := 30); done) | (try simp_all (maxDischargeDepth := 30)))
@[simp] theorem State.overTemp_fixed (s : State)  :
    (State.overTemp s).fixed = s.fixed := by
  unfold State.overTemp
  try dsimp only
  try (repeat' split)
  all_goals (first | (simp (maxDischargeDepth := 30); done) | (try simp_all (maxDischargeDepth := 30)))
@[simp] theorem State.telemetry_fixed (s : State) (mv : Nat) (ma : Nat) (mw : Nat) (groups : List Nat)
    (temps : List Int) (ppm : Int)  :
    (State.telemetry s mv ma mw groups temps ppm).fixed = s.fixed := by
  unfold State.telemetry
  try dsimp only
  try (repeat' split)
  all_goals (first | (simp (maxDischargeDepth := 30); done) | (try simp_all (maxDischargeDepth := 30)))
@[simp] theorem State.onPmbus_fixed (s : State) (op : State → State) (hop : ∀ y1, (op y1).fixed = y1.fixed) :
    (State.onPmbus s op).fixed = s.fixed := by
  unfold State.onPmbus
  try dsimp only
  try (repeat' split)
  all_goals (first | (simp (maxDischargeDepth := 30); done) | (try simp_all (maxDischargeDepth := 30)))
@[simp] theorem State.nack_fixed (s : State) (b : Nat)  :
    (State.nack s b).fixed = s.fixed := by
  unfold State.nack
  try dsimp only
  try (repeat' split)
  all_goals (first | (simp (maxDischargeDepth := 30); done) | (try simp_all (maxDischargeDepth := 30)))
@[simp] theorem State.pmRead_fixed (s : State) (pages : List Nat) (n : Nat) (v : State → Nat)  :
    (State.pmRead s pages n v).fixed = s.fixed := by
  unfold State.pmRead
  try dsimp only
  try (repeat' split)
  all_goals (first | (simp (maxDischargeDepth := 30); done) | (try simp_all (maxDischargeDepth := 30)))
@[simp] theorem State.clearFaults_fixed (s : State)  :
    (State.clearFaults s).fixed = s.fixed := by
  unfold State.clearFaults
  try dsimp only
  try (repeat' split)
  all_goals (first | (simp (maxDischargeDepth := 30); done) | (try simp_all (maxDischargeDepth := 30)))
@[simp] theorem State.calBegin_fixed (s : State)  :
    (State.calBegin s).fixed = s.fixed := by
  unfold State.calBegin
  try dsimp only
  try (repeat' split)
  all_goals (first | (simp (maxDischargeDepth := 30); done) | (try simp_all (maxDischargeDepth := 30)))
@[simp] theorem State.calClock_fixed (s : State)  :
    (State.calClock s).fixed = s.fixed := by
  unfold State.calClock
  try dsimp only
  try (repeat' split)
  all_goals (first | (simp (maxDischargeDepth := 30); done) | (try simp_all (maxDischargeDepth := 30)))
@[simp] theorem State.clockFault_fixed (s : State) (code : Nat) (m : Nat)  :
    (State.clockFault s code m).fixed = s.fixed := by
  unfold State.clockFault
  try dsimp only
  try (repeat' split)
  all_goals (first | (simp (maxDischargeDepth := 30); done) | (try simp_all (maxDischargeDepth := 30)))
@[simp] theorem State.clockLoss_fixed (s : State)  :
    (State.clockLoss s).fixed = s.fixed := by
  unfold State.clockLoss
  try dsimp only
  try (repeat' split)
  all_goals (first | (simp (maxDischargeDepth := 30); done) | (try simp_all (maxDischargeDepth := 30)))
@[simp] theorem State.pllUnlock_fixed (s : State)  :
    (State.pllUnlock s).fixed = s.fixed := by
  unfold State.pllUnlock
  try dsimp only
  try (repeat' split)
  all_goals (first | (simp (maxDischargeDepth := 30); done) | (try simp_all (maxDischargeDepth := 30)))
@[simp] theorem State.pllRelock_fixed (s : State)  :
    (State.pllRelock s).fixed = s.fixed := by
  unfold State.pllRelock
  try dsimp only
  try (repeat' split)
  all_goals (first | (simp (maxDischargeDepth := 30); done) | (try simp_all (maxDischargeDepth := 30)))

end Sys2Proof.Machine
end

