-- ==== Sys2Proof/Laws/FixedFaults.lean ====
section
/-! SUPPORT. Operations of Faults keep what `State.fixed` reads. -/

namespace Sys2Proof.Machine

@[simp] theorem State.channelPages_fixed (s : State) (ch : Nat)  :
    (State.channelPages s ch).fixed = s.fixed := by
  unfold State.channelPages
  try dsimp only
  try (repeat' split)
  all_goals (first | (simp (maxDischargeDepth := 30); done) | (try simp_all (maxDischargeDepth := 30)))
@[simp] theorem State.channelHold_fixed (s : State) (ch : Nat)  :
    (State.channelHold s ch).fixed = s.fixed := by
  unfold State.channelHold
  try dsimp only
  try (repeat' split)
  all_goals (first | (simp (maxDischargeDepth := 30); done) | (try simp_all (maxDischargeDepth := 30)))
@[simp] theorem State.channelOut_fixed (s : State) (ch : Nat)  :
    (State.channelOut s ch).fixed = s.fixed := by
  unfold State.channelOut
  try dsimp only
  try (repeat' split)
  all_goals (first | (simp (maxDischargeDepth := 30); done) | (try simp_all (maxDischargeDepth := 30)))
@[simp] theorem State.markRetired_fixed (s : State) (key : Nat)  :
    (State.markRetired s key).fixed = s.fixed := by
  unfold State.markRetired
  try dsimp only
  try (repeat' split)
  all_goals (first | (simp (maxDischargeDepth := 30); done) | (try simp_all (maxDischargeDepth := 30)))
@[simp] theorem State.acqLaneGone_fixed (s : State) (ch : Nat)  :
    (State.acqLaneGone s ch).fixed = s.fixed := by
  unfold State.acqLaneGone
  try dsimp only
  try (repeat' split)
  all_goals (first | (simp (maxDischargeDepth := 30); done) | (try simp_all (maxDischargeDepth := 30)))
@[simp] theorem State.retireChannel_fixed (s : State) (ch : Nat) (late : Bool)  :
    (State.retireChannel s ch late).fixed = s.fixed := by
  unfold State.retireChannel
  try dsimp only
  try (repeat' split)
  all_goals (first | (simp (maxDischargeDepth := 30); done) | (try simp_all (maxDischargeDepth := 30)))
@[simp] theorem State.retireSlice_fixed (s : State) (k : Nat) (n : Nat) (hold : Bool)  :
    (State.retireSlice s k n hold).fixed = s.fixed := by
  unfold State.retireSlice
  try dsimp only
  try (repeat' split)
  all_goals (first | (simp (maxDischargeDepth := 30); done) | (try simp_all (maxDischargeDepth := 30)))
@[simp] theorem State.retireUnit_fixed (s : State) (kind : Nat) (i : Nat) (hold : Bool)  :
    (State.retireUnit s kind i hold).fixed = s.fixed := by
  unfold State.retireUnit
  try dsimp only
  try (repeat' split)
  all_goals (first | (simp (maxDischargeDepth := 30); done) | (try simp_all (maxDischargeDepth := 30)))
@[simp] theorem State.transientAt_fixed (s : State) (tt : Nat) (kind : Nat) (i : Nat) (code : Nat) (ty : Nat)
    (inst : Nat) (site : Option Nat) (detail : Nat) (retryFailed : Bool) (hold : Bool)  :
    (State.transientAt s tt kind i code ty inst site detail retryFailed hold).fixed = s.fixed := by
  unfold State.transientAt
  try dsimp only
  try (repeat' split)
  all_goals (first | (simp (maxDischargeDepth := 30); done) | (try simp_all (maxDischargeDepth := 30)))
@[simp] theorem State.transient_fixed (s : State) (kind : Nat) (i : Nat) (code : Nat) (ty : Nat) (inst : Nat)
    (site : Option Nat) (detail : Nat) (retryFailed : Bool) (hold : Bool)  :
    (State.transient s kind i code ty inst site detail retryFailed hold).fixed = s.fixed := by
  unfold State.transient
  try dsimp only
  try (repeat' split)
  all_goals (first | (simp (maxDischargeDepth := 30); done) | (try simp_all (maxDischargeDepth := 30)))
@[simp] theorem State.abortPointStep_fixed (s : State) (st : Nat)  :
    (State.abortPointStep s st).fixed = s.fixed := by
  unfold State.abortPointStep
  try dsimp only
  try (repeat' split)
  all_goals (first | (simp (maxDischargeDepth := 30); done) | (try simp_all (maxDischargeDepth := 30)))

@[simp] theorem State.laneDue_fixed (s : State) (ch : Nat)  :
    (State.laneDue s ch).fixed = s.fixed := by
  unfold State.laneDue
  try dsimp only
  try (repeat' split)
  all_goals (first | (simp (maxDischargeDepth := 30); done) | (try simp_all (maxDischargeDepth := 30)))
@[simp] theorem State.spareSwitch_fixed (s : State) (k : Nat)  :
    (State.spareSwitch s k).fixed = s.fixed := by
  unfold State.spareSwitch
  try dsimp only
  try (repeat' split)
  all_goals (first | (simp (maxDischargeDepth := 30); done) | (try simp_all (maxDischargeDepth := 30)))
@[simp] theorem State.assignSpare_fixed (s : State) (k : Nat)  :
    (State.assignSpare s k).fixed = s.fixed := by
  unfold State.assignSpare
  try dsimp only
  try (repeat' split)
  all_goals (first | (simp (maxDischargeDepth := 30); done) | (try simp_all (maxDischargeDepth := 30)))
@[simp] theorem State.applyRetired_fixed (s : State) (key : Nat)  :
    (State.applyRetired s key).fixed = s.fixed := by
  unfold State.applyRetired
  try dsimp only
  try (repeat' split)
  all_goals (first | (simp (maxDischargeDepth := 30); done) | (try simp_all (maxDischargeDepth := 30)))
@[simp] theorem State.retireLoad_fixed (s : State)  :
    (State.retireLoad s).fixed = s.fixed := by
  unfold State.retireLoad
  try dsimp only
  try (repeat' split)
  all_goals (first | (simp (maxDischargeDepth := 30); done) | (try simp_all (maxDischargeDepth := 30)))
@[simp] theorem State.clearChannel_fixed (s : State) (ch : Nat)  :
    (State.clearChannel s ch).fixed = s.fixed := by
  unfold State.clearChannel
  try dsimp only
  try (repeat' split)
  all_goals (first | (simp (maxDischargeDepth := 30); done) | (try simp_all (maxDischargeDepth := 30)))
@[simp] theorem State.retireClear_fixed (s : State) (kind : Nat) (i : Nat)  :
    (State.retireClear s kind i).fixed = s.fixed := by
  unfold State.retireClear
  try dsimp only
  try (repeat' split)
  all_goals (first | (simp (maxDischargeDepth := 30); done) | (try simp_all (maxDischargeDepth := 30)))
@[simp] theorem State.wErrCtrl_fixed (s : State) (fn : Nat) (val : Nat)  :
    (State.wErrCtrl s fn val).fixed = s.fixed := by
  unfold State.wErrCtrl
  try dsimp only
  try (repeat' split)
  all_goals (first | (simp (maxDischargeDepth := 30); done) | (try simp_all (maxDischargeDepth := 30)))
@[simp] theorem State.readback_fixed (s : State) (ch : Nat) (bad : Bool) (again : Bool)  :
    (State.readback s ch bad again).fixed = s.fixed := by
  unfold State.readback
  try dsimp only
  try (repeat' split)
  all_goals (first | (simp (maxDischargeDepth := 30); done) | (try simp_all (maxDischargeDepth := 30)))
@[simp] theorem State.madcFault_fixed (s : State) (k : Nat)  :
    (State.madcFault s k).fixed = s.fixed := by
  unfold State.madcFault
  try dsimp only
  try (repeat' split)
  all_goals (first | (simp (maxDischargeDepth := 30); done) | (try simp_all (maxDischargeDepth := 30)))
@[simp] theorem State.thermalSample_fixed (s : State) (r : Nat) (l : List Int)  :
    (State.thermalSample s r l).fixed = s.fixed := by
  unfold State.thermalSample
  try dsimp only
  try (repeat' split)
  all_goals (first | (simp (maxDischargeDepth := 30); done) | (try simp_all (maxDischargeDepth := 30)))
@[simp] theorem State.reenable_fixed (s : State) (fn : Nat) (r : Nat)  :
    (State.reenable s fn r).fixed = s.fixed := by
  unfold State.reenable
  try dsimp only
  try (repeat' split)
  all_goals (first | (simp (maxDischargeDepth := 30); done) | (try simp_all (maxDischargeDepth := 30)))
@[simp] theorem State.wThermal_fixed (s : State) (fn : Nat) (r : Nat) (val : Nat)  :
    (State.wThermal s fn r val).fixed = s.fixed := by
  unfold State.wThermal
  try dsimp only
  try (repeat' split)
  all_goals (first | (simp (maxDischargeDepth := 30); done) | (try simp_all (maxDischargeDepth := 30)))

end Sys2Proof.Machine
end

