-- ==== Sys2Proof/Laws/FixedCal.lean ====
section
/-! SUPPORT. Operations of Cal keep what `State.fixed` reads. -/

namespace Sys2Proof.Machine

@[simp] theorem State.applyTerms_fixed (s : State) (ch : Nat) (k : CalTerms) (recovery : Bool)  :
    (State.applyTerms s ch k recovery).fixed = s.fixed := by
  unfold State.applyTerms
  try dsimp only
  try (repeat' split)
  all_goals (first | (simp (maxDischargeDepth := 30); done) | (try simp_all (maxDischargeDepth := 30)))
@[simp] theorem State.slewTiming_fixed (s : State) (ch : Nat)  :
    (State.slewTiming s ch).fixed = s.fixed := by
  unfold State.slewTiming
  try dsimp only
  try (repeat' split)
  all_goals (first | (simp (maxDischargeDepth := 30); done) | (try simp_all (maxDischargeDepth := 30)))
@[simp] theorem State.slewLevels_fixed (s : State) (ch : Nat)  :
    (State.slewLevels s ch).fixed = s.fixed := by
  unfold State.slewLevels
  try dsimp only
  try (repeat' split)
  all_goals (first | (simp (maxDischargeDepth := 30); done) | (try simp_all (maxDischargeDepth := 30)))
@[simp] theorem State.calDue_fixed (s : State) (r : Nat)  :
    (State.calDue s r).fixed = s.fixed := by
  unfold State.calDue
  try dsimp only
  try (repeat' split)
  all_goals (first | (simp (maxDischargeDepth := 30); done) | (try simp_all (maxDischargeDepth := 30)))
@[simp] theorem State.calEval_fixed (s : State) (r : Nat)  :
    (State.calEval s r).fixed = s.fixed := by
  unfold State.calEval
  try dsimp only
  try (repeat' split)
  all_goals (first | (simp (maxDischargeDepth := 30); done) | (try simp_all (maxDischargeDepth := 30)))
@[simp] theorem State.wCalCtrl_fixed (s : State) (i : Nat) (val : Nat)  :
    (State.wCalCtrl s i val).fixed = s.fixed := by
  unfold State.wCalCtrl
  try dsimp only
  try (repeat' split)
  all_goals (first | (simp (maxDischargeDepth := 30); done) | (try simp_all (maxDischargeDepth := 30)))
@[simp] theorem State.wDeltaT_fixed (s : State) (fn : Nat) (i : Nat) (val : Nat)  :
    (State.wDeltaT s fn i val).fixed = s.fixed := by
  unfold State.wDeltaT
  try dsimp only
  try (repeat' split)
  all_goals (first | (simp (maxDischargeDepth := 30); done) | (try simp_all (maxDischargeDepth := 30)))
@[simp] theorem State.calEnd_fixed (s0 : State) (i : Nat)  :
    (State.calEnd s0 i).fixed = s0.fixed := by
  unfold State.calEnd
  try dsimp only
  try (repeat' split)
  all_goals (first | (simp (maxDischargeDepth := 30); done) | (try simp_all (maxDischargeDepth := 30)))
@[simp] theorem State.calRecord_fixed (s : State) (r : Nat)  :
    (State.calRecord s r).fixed = s.fixed := by
  unfold State.calRecord
  try dsimp only
  try (repeat' split)
  all_goals (first | (simp (maxDischargeDepth := 30); done) | (try simp_all (maxDischargeDepth := 30)))
@[simp] theorem State.calDefer_fixed (s : State) (r : Nat) (later : List Nat)  :
    (State.calDefer s r later).fixed = s.fixed := by
  unfold State.calDefer
  try dsimp only
  try (repeat' split)
  all_goals (first | (simp (maxDischargeDepth := 30); done) | (try simp_all (maxDischargeDepth := 30)))
@[simp] theorem State.calComplete_fixed (s : State) (r : Nat) (c : Cal)  :
    (State.calComplete s r c).fixed = s.fixed := by
  unfold State.calComplete
  try dsimp only
  try (repeat' split)
  all_goals (first | (simp (maxDischargeDepth := 30); done) | (try simp_all (maxDischargeDepth := 30)))
@[simp] theorem State.calAdvance_fixed (s : State) (r : Nat)  :
    (State.calAdvance s r).fixed = s.fixed := by
  unfold State.calAdvance
  try dsimp only
  try (repeat' split)
  all_goals (first | (simp (maxDischargeDepth := 30); done) | (try simp_all (maxDischargeDepth := 30)))
@[simp] theorem State.runFail_fixed (s : State) (r : Nat) (code : Nat)  :
    (State.runFail s r code).fixed = s.fixed := by
  unfold State.runFail
  try dsimp only
  try (repeat' split)
  all_goals (first | (simp (maxDischargeDepth := 30); done) | (try simp_all (maxDischargeDepth := 30)))
@[simp] theorem State.calCommon_fixed (s : State) (r : Nat) (vref : Int) (vbg : Int) (spine : List Int)  :
    (State.calCommon s r vref vbg spine).fixed = s.fixed := by
  unfold State.calCommon
  try dsimp only
  try (repeat' split)
  all_goals (first | (simp (maxDischargeDepth := 30); done) | (try simp_all (maxDischargeDepth := 30)))
@[simp] theorem State.clusterStart_fixed (s : State) (k : Nat)  :
    (State.clusterStart s k).fixed = s.fixed := by
  unfold State.clusterStart
  try dsimp only
  try (repeat' split)
  all_goals (first | (simp (maxDischargeDepth := 30); done) | (try simp_all (maxDischargeDepth := 30)))
@[simp] theorem State.laneResult_fixed (s : State) (k : Nat) (l : Nat) (v : List Int) (recovery : Bool)  :
    (State.laneResult s k l v recovery).fixed = s.fixed := by
  unfold State.laneResult
  try dsimp only
  try (repeat' split)
  all_goals (first | (simp (maxDischargeDepth := 30); done) | (try simp_all (maxDischargeDepth := 30)))
@[simp] theorem State.madcMeasured_fixed (s : State) (k : Nat) (v : List Int)  :
    (State.madcMeasured s k v).fixed = s.fixed := by
  unfold State.madcMeasured
  try dsimp only
  try (repeat' split)
  all_goals (first | (simp (maxDischargeDepth := 30); done) | (try simp_all (maxDischargeDepth := 30)))
@[simp] theorem State.clusterDone_fixed (s : State) (k : Nat) (lanes : List (List Int)) (madc : List Int)  :
    (State.clusterDone s k lanes madc).fixed = s.fixed := by
  unfold State.clusterDone
  try dsimp only
  try (repeat' split)
  all_goals (first | (simp (maxDischargeDepth := 30); done) | (try simp_all (maxDischargeDepth := 30)))
@[simp] theorem State.reflectAdvance_fixed (s : State)  :
    (State.reflectAdvance s).fixed = s.fixed := by
  unfold State.reflectAdvance
  try dsimp only
  try (repeat' split)
  all_goals (first | (simp (maxDischargeDepth := 30); done) | (try simp_all (maxDischargeDepth := 30)))
@[simp] theorem State.envDone_fixed (s : State) (k : Nat) (v : List (Int × Int × Int))  :
    (State.envDone s k v).fixed = s.fixed := by
  unfold State.envDone
  try dsimp only
  try (repeat' split)
  all_goals (first | (simp (maxDischargeDepth := 30); done) | (try simp_all (maxDischargeDepth := 30)))
@[simp] theorem State.reflectDone_fixed (s : State) (ch : Nat) (sum : Int) (spread : Int) (clean : Bool)  :
    (State.reflectDone s ch sum spread clean).fixed = s.fixed := by
  unfold State.reflectDone
  try dsimp only
  try (repeat' split)
  all_goals (first | (simp (maxDischargeDepth := 30); done) | (try simp_all (maxDischargeDepth := 30)))
@[simp] theorem State.sequenceDone_fixed (s : State)  :
    (State.sequenceDone s).fixed = s.fixed := by
  unfold State.sequenceDone
  try dsimp only
  try (repeat' split)
  all_goals (first | (simp (maxDischargeDepth := 30); done) | (try simp_all (maxDischargeDepth := 30)))
@[simp] theorem State.calApply_fixed (s : State) (r : Nat) (c : CalRec) (factory : Bool)  :
    (State.calApply s r c factory).fixed = s.fixed := by
  unfold State.calApply
  try dsimp only
  try (repeat' split)
  all_goals (first | (simp (maxDischargeDepth := 30); done) | (try simp_all (maxDischargeDepth := 30)))
@[simp] theorem State.calLoad_fixed (s : State)  :
    (State.calLoad s).fixed = s.fixed := by
  unfold State.calLoad
  dsimp only
  split
  · rfl
  · rw [State.modGlb_fixed, State.modCal_fixed, forEach_fixed]
    · simp
    · intro i t
      split <;> simp

end Sys2Proof.Machine
end

