-- ==== Sys2Proof/Laws/FixedSync.lean ====
section
/-! SUPPORT. Operations of Sync keep what `State.fixed` reads. -/

namespace Sys2Proof.Machine

@[simp] theorem State.echo_fixed (s : State) (w : Nat)  :
    (State.echo s w).fixed = s.fixed := by
  unfold State.echo
  try dsimp only
  try (repeat' split)
  all_goals (first | (simp (maxDischargeDepth := 30); done) | (try simp_all (maxDischargeDepth := 30)))
@[simp] theorem State.syncIgnore_fixed (s : State)  :
    (State.syncIgnore s).fixed = s.fixed := by
  unfold State.syncIgnore
  try dsimp only
  try (repeat' split)
  all_goals (first | (simp (maxDischargeDepth := 30); done) | (try simp_all (maxDischargeDepth := 30)))
@[simp] theorem State.frameArm_fixed (s : State) (g : Nat)  :
    (State.frameArm s g).fixed = s.fixed := by
  unfold State.frameArm
  try dsimp only
  try (repeat' split)
  all_goals (first | (simp (maxDischargeDepth := 30); done) | (try simp_all (maxDischargeDepth := 30)))
@[simp] theorem State.frameStart_fixed (s : State) (t40 : Nat) (i : Nat)  :
    (State.frameStart s t40 i).fixed = s.fixed := by
  unfold State.frameStart
  try dsimp only
  try (repeat' split)
  all_goals (first | (simp (maxDischargeDepth := 30); done) | (try simp_all (maxDischargeDepth := 30)))
@[simp] theorem State.frameStop_fixed (s : State) (t40 : Nat) (i : Nat)  :
    (State.frameStop s t40 i).fixed = s.fixed := by
  unfold State.frameStop
  try dsimp only
  try (repeat' split)
  all_goals (first | (simp (maxDischargeDepth := 30); done) | (try simp_all (maxDischargeDepth := 30)))
@[simp] theorem State.slewCheck_fixed (s : State)  :
    (State.slewCheck s).fixed = s.fixed := by
  unfold State.slewCheck
  try dsimp only
  try (repeat' split)
  all_goals (first | (simp (maxDischargeDepth := 30); done) | (try simp_all (maxDischargeDepth := 30)))
@[simp] theorem State.jump_fixed (s : State) (d : Int)  :
    (State.jump s d).fixed = s.fixed := by
  unfold State.jump
  try dsimp only
  try (repeat' split)
  all_goals (first | (simp (maxDischargeDepth := 30); done) | (try simp_all (maxDischargeDepth := 30)))
@[simp] theorem State.badSlot_fixed (s : State)  :
    (State.badSlot s).fixed = s.fixed := by
  unfold State.badSlot
  try dsimp only
  try (repeat' split)
  all_goals (first | (simp (maxDischargeDepth := 30); done) | (try simp_all (maxDischargeDepth := 30)))
@[simp] theorem State.slewStep_fixed (s : State)  :
    (State.slewStep s).fixed = s.fixed := by
  unfold State.slewStep
  try dsimp only
  try (repeat' split)
  all_goals (first | (simp (maxDischargeDepth := 30); done) | (try simp_all (maxDischargeDepth := 30)))
@[simp] theorem State.trigLost_fixed (s : State) (n : Nat)  :
    (State.trigLost s n).fixed = s.fixed := by
  unfold State.trigLost
  try dsimp only
  try (repeat' split)
  all_goals (first | (simp (maxDischargeDepth := 30); done) | (try simp_all (maxDischargeDepth := 30)))
@[simp] theorem State.trigRelay_fixed (s : State) (n : Nat) (tt : Nat)  :
    (State.trigRelay s n tt).fixed = s.fixed := by
  unfold State.trigRelay
  try dsimp only
  try (repeat' split)
  all_goals (first | (simp (maxDischargeDepth := 30); done) | (try simp_all (maxDischargeDepth := 30)))
@[simp] theorem State.trigEdge_fixed (s : State) (n : Nat) (rising : Bool) (tt : Nat)  :
    (State.trigEdge s n rising tt).fixed = s.fixed := by
  unfold State.trigEdge
  try dsimp only
  try (repeat' split)
  all_goals (first | (simp (maxDischargeDepth := 30); done) | (try simp_all (maxDischargeDepth := 30)))
@[simp] theorem State.trigPulse_fixed (s : State) (n : Nat)  :
    (State.trigPulse s n).fixed = s.fixed := by
  unfold State.trigPulse
  try dsimp only
  try (repeat' split)
  all_goals (first | (simp (maxDischargeDepth := 30); done) | (try simp_all (maxDischargeDepth := 30)))
@[simp] theorem State.wSyncCtrl_fixed (s : State) (val : Nat)  :
    (State.wSyncCtrl s val).fixed = s.fixed := by
  unfold State.wSyncCtrl
  try dsimp only
  try (repeat' split)
  all_goals (first | (simp (maxDischargeDepth := 30); done) | (try simp_all (maxDischargeDepth := 30)))
@[simp] theorem State.wSyncDelay_fixed (s : State) (val : Nat)  :
    (State.wSyncDelay s val).fixed = s.fixed := by
  unfold State.wSyncDelay
  try dsimp only
  try (repeat' split)
  all_goals (first | (simp (maxDischargeDepth := 30); done) | (try simp_all (maxDischargeDepth := 30)))
@[simp] theorem State.wTrigIn_fixed (s : State) (fn : Nat) (n : Nat) (val : Nat)  :
    (State.wTrigIn s fn n val).fixed = s.fixed := by
  unfold State.wTrigIn
  try dsimp only
  try (repeat' split)
  all_goals (first | (simp (maxDischargeDepth := 30); done) | (try simp_all (maxDischargeDepth := 30)))
@[simp] theorem State.wTrigInQueue_fixed (s : State) (fn : Nat) (n : Nat) (val : Nat)  :
    (State.wTrigInQueue s fn n val).fixed = s.fixed := by
  unfold State.wTrigInQueue
  try dsimp only
  try (repeat' split)
  all_goals (first | (simp (maxDischargeDepth := 30); done) | (try simp_all (maxDischargeDepth := 30)))
@[simp] theorem State.wTrigOut_fixed (s : State) (fn : Nat) (n : Nat) (val : Nat)  :
    (State.wTrigOut s fn n val).fixed = s.fixed := by
  unfold State.wTrigOut
  try dsimp only
  try (repeat' split)
  all_goals (first | (simp (maxDischargeDepth := 30); done) | (try simp_all (maxDischargeDepth := 30)))
@[simp] theorem State.wTrigOutOffset_fixed (s : State) (fn : Nat) (n : Nat) (val : Nat)  :
    (State.wTrigOutOffset s fn n val).fixed = s.fixed := by
  unfold State.wTrigOutOffset
  try dsimp only
  try (repeat' split)
  all_goals (first | (simp (maxDischargeDepth := 30); done) | (try simp_all (maxDischargeDepth := 30)))
@[simp] theorem State.wTrigOutWidth_fixed (s : State) (fn : Nat) (n : Nat) (val : Nat)  :
    (State.wTrigOutWidth s fn n val).fixed = s.fixed := by
  unfold State.wTrigOutWidth
  try dsimp only
  try (repeat' split)
  all_goals (first | (simp (maxDischargeDepth := 30); done) | (try simp_all (maxDischargeDepth := 30)))

end Sys2Proof.Machine
end

