-- ==== Sys2Proof/Laws/FixedEngine.lean ====
section
/-! SUPPORT. Operations of Engine keep what `State.fixed` reads. -/

namespace Sys2Proof.Machine

@[simp] theorem State.cacheTouch_fixed (s : State) (st : Nat) (line : Nat)  :
    (State.cacheTouch s st line).fixed = s.fixed := by
  rfl
@[simp] theorem State.touchAll_fixed (s : State) (g : Seg) (l : List Nat)  :
    (State.touchAll s g l).fixed = s.fixed := by
  unfold State.touchAll
  try dsimp only
  try (repeat' split)
  all_goals (first | (simp (maxDischargeDepth := 30); done) | (try simp_all (maxDischargeDepth := 30)))
@[simp] theorem State.blockPost_fixed (s : State) (e : Nat)  :
    (State.blockPost s e).fixed = s.fixed := by
  unfold State.blockPost
  try dsimp only
  try (repeat' split)
  all_goals (first | (simp (maxDischargeDepth := 30); done) | (try simp_all (maxDischargeDepth := 30)))
@[simp] theorem State.endSeg_fixed (s : State) (e : Nat)  :
    (State.endSeg s e).fixed = s.fixed := by
  unfold State.endSeg
  try dsimp only
  try (repeat' split)
  all_goals (first | (simp (maxDischargeDepth := 30); done) | (try simp_all (maxDischargeDepth := 30)))
@[simp] theorem State.segStop_fixed (s : State) (e : Nat) (code : Nat)  :
    (State.segStop s e code).fixed = s.fixed := by
  unfold State.segStop
  try dsimp only
  try (repeat' split)
  all_goals (first | (simp (maxDischargeDepth := 30); done) | (try simp_all (maxDischargeDepth := 30)))
@[simp] theorem State.segErr_fixed (s : State) (e : Nat) (code : Nat)  :
    (State.segErr s e code).fixed = s.fixed := by
  unfold State.segErr
  try dsimp only
  try (repeat' split)
  all_goals (first | (simp (maxDischargeDepth := 30); done) | (try simp_all (maxDischargeDepth := 30)))
@[simp] theorem State.releaseSucc_fixed (s : State) (g : Seg)  :
    (State.releaseSucc s g).fixed = s.fixed := by
  unfold State.releaseSucc
  try dsimp only
  try (repeat' split)
  all_goals (first | (simp (maxDischargeDepth := 30); done) | (try simp_all (maxDischargeDepth := 30)))
@[simp] theorem State.halt_fixed (s : State) (e : Nat) (g : Seg)  :
    (State.halt s e g).fixed = s.fixed := by
  unfold State.halt
  try dsimp only
  try (repeat' split)
  all_goals (first | (simp (maxDischargeDepth := 30); done) | (try simp_all (maxDischargeDepth := 30)))
@[simp] theorem State.putUi_fixed (s : State) (e : Nat) (g : Seg) (syms : List Nat) (ts : Nat) (hold : Bool)
    (plain : Bool)  :
    (State.putUi s e g syms ts hold plain).fixed = s.fixed := by
  unfold State.putUi
  try dsimp only
  try (repeat' split)
  all_goals (first | (simp (maxDischargeDepth := 30); done) | (try simp_all (maxDischargeDepth := 30)))
@[simp] theorem State.mark_fixed (s : State) (g : Seg) (u : Nat) (ref : Nat) (outs : Nat) (acq : Bool) (id : Nat)  :
    (State.mark s g u ref outs acq id).fixed = s.fixed := by
  unfold State.mark
  try dsimp only
  try (repeat' split)
  all_goals (first | (simp (maxDischargeDepth := 30); done) | (try simp_all (maxDischargeDepth := 30)))
@[simp] theorem State.lvlSend_fixed (s : State) (g : Seg) (u : Nat) (pos : List Nat) (dac : Nat) (code : Nat)  :
    (State.lvlSend s g u pos dac code).fixed = s.fixed := by
  unfold State.lvlSend
  try dsimp only
  try (repeat' split)
  all_goals (first | (simp (maxDischargeDepth := 30); done) | (try simp_all (maxDischargeDepth := 30)))
@[simp] theorem State.modBarrier_fixed (s : State) (st : Nat) (b : Nat) (f : Barrier → Barrier)  :
    (State.modBarrier s st b f).fixed = s.fixed := by
  unfold State.modBarrier
  try dsimp only
  try (repeat' split)
  all_goals (first | (simp (maxDischargeDepth := 30); done) | (try simp_all (maxDischargeDepth := 30)))
@[simp] theorem State.arrive_fixed (s : State) (st : Nat) (b : Nat) (tt : Nat)  :
    (State.arrive s st b tt).fixed = s.fixed := by
  unfold State.arrive
  try dsimp only
  try (repeat' split)
  all_goals (first | (simp (maxDischargeDepth := 30); done) | (try simp_all (maxDischargeDepth := 30)))
@[simp] theorem State.resolve_fixed (s : State) (e : Nat) (after : Bool) (td : Int) (E : Int)  :
    (State.resolve s e after td E).fixed = s.fixed := by
  unfold State.resolve
  try dsimp only
  try (repeat' split)
  all_goals (first | (simp (maxDischargeDepth := 30); done) | (try simp_all (maxDischargeDepth := 30)))
@[simp] theorem State.takeBarrier_fixed (s : State) (e : Nat)  :
    (State.takeBarrier s e).fixed = s.fixed := by
  unfold State.takeBarrier
  try dsimp only
  try (repeat' split)
  all_goals (first | (simp (maxDischargeDepth := 30); done) | (try simp_all (maxDischargeDepth := 30)))
@[simp] theorem State.takeTrigger_fixed (s : State) (e : Nat) (line : Nat) (tt : Nat)  :
    (State.takeTrigger s e line tt).fixed = s.fixed := by
  unfold State.takeTrigger
  try dsimp only
  try (repeat' split)
  all_goals (first | (simp (maxDischargeDepth := 30); done) | (try simp_all (maxDischargeDepth := 30)))
@[simp] theorem State.triggerArrive_fixed (s : State) (n : Nat)  :
    (State.triggerArrive s n).fixed = s.fixed := by
  unfold State.triggerArrive
  try dsimp only
  try (repeat' split)
  all_goals (first | (simp (maxDischargeDepth := 30); done) | (try simp_all (maxDischargeDepth := 30)))
@[simp] theorem State.barrierComplete_fixed (s : State) (st : Nat) (b : Nat)  :
    (State.barrierComplete s st b).fixed = s.fixed := by
  unfold State.barrierComplete
  try dsimp only
  try (repeat' split)
  all_goals (first | (simp (maxDischargeDepth := 30); done) | (try simp_all (maxDischargeDepth := 30)))
@[simp] theorem State.matchStep_fixed (s : State) (e : Nat)  :
    (State.matchStep s e).fixed = s.fixed := by
  unfold State.matchStep
  try dsimp only
  try (repeat' split)
  all_goals (first | (simp (maxDischargeDepth := 30); done) | (try simp_all (maxDischargeDepth := 30)))
@[simp] theorem State.condTimeout_fixed (s : State) (e : Nat)  :
    (State.condTimeout s e).fixed = s.fixed := by
  unfold State.condTimeout
  try dsimp only
  try (repeat' split)
  all_goals (first | (simp (maxDischargeDepth := 30); done) | (try simp_all (maxDischargeDepth := 30)))
@[simp] theorem State.missFill_fixed (s : State) (e : Nat)  :
    (State.missFill s e).fixed = s.fixed := by
  unfold State.missFill
  try dsimp only
  try (repeat' split)
  all_goals (first | (simp (maxDischargeDepth := 30); done) | (try simp_all (maxDischargeDepth := 30)))

end Sys2Proof.Machine
end

