-- ==== Sys2Proof/Laws/FixedMicro.lean ====
section
/-! SUPPORT. Operations of Micro keep what `State.fixed` reads. -/

namespace Sys2Proof.Machine

@[simp] theorem State.uAlu_fixed (s : State) (e : Nat) (x0 : Eng) (w : Nat)  :
    (State.uAlu s e x0 w).fixed = s.fixed := by
  unfold State.uAlu
  try dsimp only
  try (repeat' split)
  all_goals (first | (simp (maxDischargeDepth := 30); done) | (try simp_all (maxDischargeDepth := 30)))
@[simp] theorem State.uFetchAct_fixed (s : State) (e : Nat) (x0 : Eng) (g : Seg) (w : Nat)  :
    (State.uFetchAct s e x0 g w).fixed = s.fixed := by
  unfold State.uFetchAct
  try dsimp only
  try (repeat' split)
  all_goals (first | (simp (maxDischargeDepth := 30); done) | (try simp_all (maxDischargeDepth := 30)))
@[simp] theorem State.emitLanes_fixed (e : Nat) (g : Seg) (kind n : Nat) (s : State) :
    (State.emitLanes e g kind n s).fixed = s.fixed := by
  induction n generalizing s with
  | zero => unfold State.emitLanes; rfl
  | succ n ih =>
    unfold State.emitLanes
    dsimp only
    split
    · rfl
    · split
      · rfl
      · split <;> rw [ih] <;> simp
@[simp] theorem State.uEmitAct_fixed (s : State) (e : Nat) (g : Seg) (w : Nat)  :
    (State.uEmitAct s e g w).fixed = s.fixed := by
  unfold State.uEmitAct
  try dsimp only
  try (repeat' split)
  all_goals (first | (simp (maxDischargeDepth := 30); done) | (try simp_all (maxDischargeDepth := 30)))
@[simp] theorem State.uStack_fixed (s : State) (e : Nat) (x0 : Eng) (w : Nat)  :
    (State.uStack s e x0 w).fixed = s.fixed := by
  unfold State.uStack
  try dsimp only
  try (repeat' split)
  all_goals (first | (simp (maxDischargeDepth := 30); done) | (try simp_all (maxDischargeDepth := 30)))
@[simp] theorem State.uEventAct_fixed (s : State) (e : Nat) (x0 : Eng) (g : Seg) (w : Nat)  :
    (State.uEventAct s e x0 g w).fixed = s.fixed := by
  unfold State.uEventAct
  try dsimp only
  try (repeat' split)
  all_goals (first | (simp (maxDischargeDepth := 30); done) | (try simp_all (maxDischargeDepth := 30)))
@[simp] theorem State.uDecompAct_fixed (s : State) (e : Nat) (x0 : Eng) (w : Nat)  :
    (State.uDecompAct s e x0 w).fixed = s.fixed := by
  unfold State.uDecompAct
  try dsimp only
  try (repeat' split)
  all_goals (first | (simp (maxDischargeDepth := 30); done) | (try simp_all (maxDischargeDepth := 30)))
@[simp] theorem State.whileCur_fixed (s : State) (e : Nat) (f : State → State) (hf : ∀ y1, (f y1).fixed = y1.fixed) :
    (State.whileCur s e f).fixed = s.fixed := by
  unfold State.whileCur
  try dsimp only
  try (repeat' split)
  all_goals (first | (simp (maxDischargeDepth := 30); done) | (try simp_all (maxDischargeDepth := 30)))
@[simp] theorem State.uAct_fixed (s : State) (e : Nat) (g : Seg) (w : Nat)  :
    (State.uAct s e g w).fixed = s.fixed := by
  unfold State.uAct
  try dsimp only
  try (repeat' split)
  all_goals (first | (simp (maxDischargeDepth := 30); done) | (try simp_all (maxDischargeDepth := 30)))
@[simp] theorem State.requeue_fixed (s : State) (e : Nat) (tail : Bool) (g : Seg)  :
    (State.requeue s e tail g).fixed = s.fixed := by
  unfold State.requeue
  try dsimp only
  try (repeat' split)
  all_goals (first | (simp (maxDischargeDepth := 30); done) | (try simp_all (maxDischargeDepth := 30)))
@[simp] theorem State.fate_fixed (s : State) (e : Nat) (g : Seg)  :
    (State.fate s e g).fixed = s.fixed := by
  unfold State.fate
  try dsimp only
  try (repeat' split)
  all_goals (first | (simp (maxDischargeDepth := 30); done) | (try simp_all (maxDischargeDepth := 30)))
@[simp] theorem State.leaveSeg_fixed (s : State) (e : Nat)  :
    (State.leaveSeg s e).fixed = s.fixed := by
  unfold State.leaveSeg
  try dsimp only
  try (repeat' split)
  all_goals (first | (simp (maxDischargeDepth := 30); done) | (try simp_all (maxDischargeDepth := 30)))
@[simp] theorem State.abandonSeg_fixed (s : State) (e : Nat) (cls : Nat)  :
    (State.abandonSeg s e cls).fixed = s.fixed := by
  unfold State.abandonSeg
  try dsimp only
  try (repeat' split)
  all_goals (first | (simp (maxDischargeDepth := 30); done) | (try simp_all (maxDischargeDepth := 30)))
@[simp] theorem State.queueReload_fixed (s : State) (e : Nat) (code : Nat) (site : Option Nat) (addr : Nat)  :
    (State.queueReload s e code site addr).fixed = s.fixed := by
  unfold State.queueReload
  try dsimp only
  try (repeat' split)
  all_goals (first | (simp (maxDischargeDepth := 30); done) | (try simp_all (maxDischargeDepth := 30)))
@[simp] theorem State.engTransient_fixed (s : State) (e : Nat) (code : Nat) (site : Option Nat) (addr : Nat)  :
    (State.engTransient s e code site addr).fixed = s.fixed := by
  unfold State.engTransient
  try dsimp only
  try (repeat' split)
  all_goals (first | (simp (maxDischargeDepth := 30); done) | (try simp_all (maxDischargeDepth := 30)))
@[simp] theorem State.machineCheck_fixed (s : State) (e : Nat) (kind : Nat)  :
    (State.machineCheck s e kind).fixed = s.fixed := by
  unfold State.machineCheck
  try dsimp only
  try (repeat' split)
  all_goals (first | (simp (maxDischargeDepth := 30); done) | (try simp_all (maxDischargeDepth := 30)))
@[simp] theorem State.nextReload_fixed (s : State) (r : Nat) (ok : Bool)  :
    (State.nextReload s r ok).fixed = s.fixed := by
  unfold State.nextReload
  try dsimp only
  try (repeat' split)
  all_goals (first | (simp (maxDischargeDepth := 30); done) | (try simp_all (maxDischargeDepth := 30)))
@[simp] theorem State.reloadDone_fixed (s : State) (e : Nat) (mismatch : Bool)  :
    (State.reloadDone s e mismatch).fixed = s.fixed := by
  unfold State.reloadDone
  try dsimp only
  try (repeat' split)
  all_goals (first | (simp (maxDischargeDepth := 30); done) | (try simp_all (maxDischargeDepth := 30)))
@[simp] theorem State.idleScan_fixed (s : State) (e : Nat) (bad : Bool)  :
    (State.idleScan s e bad).fixed = s.fixed := by
  unfold State.idleScan
  try dsimp only
  try (repeat' split)
  all_goals (first | (simp (maxDischargeDepth := 30); done) | (try simp_all (maxDischargeDepth := 30)))
@[simp] theorem State.uDispatch_fixed (s : State) (e : Nat) (g : Seg)  :
    (State.uDispatch s e g).fixed = s.fixed := by
  unfold State.uDispatch
  try dsimp only
  try (repeat' split)
  all_goals (first | (simp (maxDischargeDepth := 30); done) | (try simp_all (maxDischargeDepth := 30)))
@[simp] theorem State.uNext_fixed (s : State) (e : Nat) (g : Seg) (x0 : Eng) (w : Nat)  :
    (State.uNext s e g x0 w).fixed = s.fixed := by
  unfold State.uNext
  try dsimp only
  try (repeat' split)
  all_goals (first | (simp (maxDischargeDepth := 30); done) | (try simp_all (maxDischargeDepth := 30)))
@[simp] theorem State.micro__fixed (s : State) (e : Nat) (seq : Nat)  :
    (State.micro_ s e seq).fixed = s.fixed := by
  unfold State.micro_
  dsimp only
  split
  · rfl
  · refine fixed_of_ite _ rfl (fixed_of_ite _ rfl (fixed_of_ite _ (by simp) (fixed_of_ite _ rfl (fixed_of_ite _ (by simp)
      (fixed_of_ite _ (by simp) (fixed_of_ite _ (by simp) (fixed_of_ite _ rfl (fixed_of_ite _ (by simp) ?_))))))))
    split
    · simp
    · simp
    · exact fixed_of_ite _ (by simp) (by simp)
@[simp] theorem State.enterHandler_fixed (s : State) (e : Nat) (cls : Nat) (entry : Nat) (ev : Evt) (f : Eng → Eng)  :
    (State.enterHandler s e cls entry ev f).fixed = s.fixed := by
  unfold State.enterHandler
  try dsimp only
  try (repeat' split)
  all_goals (first | (simp (maxDischargeDepth := 30); done) | (try simp_all (maxDischargeDepth := 30)))
@[simp] theorem State.interruptTake_fixed (s : State) (e : Nat)  :
    (State.interruptTake s e).fixed = s.fixed := by
  unfold State.interruptTake
  try dsimp only
  try (repeat' split)
  all_goals (first | (simp (maxDischargeDepth := 30); done) | (try simp_all (maxDischargeDepth := 30)))
@[simp] theorem State.abortTake_fixed (s : State) (e : Nat)  :
    (State.abortTake s e).fixed = s.fixed := by
  unfold State.abortTake
  try dsimp only
  try (repeat' split)
  all_goals (first | (simp (maxDischargeDepth := 30); done) | (try simp_all (maxDischargeDepth := 30)))

end Sys2Proof.Machine
end

