-- ==== Sys2Proof/Laws/FixedSched.lean ====
section
/-! SUPPORT. Operations of Sched keep what `State.fixed` reads. -/

namespace Sys2Proof.Machine

@[simp] theorem State.placeOn_fixed (s : State) (e : Nat) (g : Seg)  :
    (State.placeOn s e g).fixed = s.fixed := by
  unfold State.placeOn
  try dsimp only
  try (repeat' split)
  all_goals (first | (simp (maxDischargeDepth := 30); done) | (try simp_all (maxDischargeDepth := 30)))
@[simp] theorem State.placeFrom_fixed (s : State) (q : Nat)  :
    (State.placeFrom s q).fixed = s.fixed := by
  unfold State.placeFrom
  split
  · rfl
  · split
    · rename_i e _ _ g _
      exact State.placeOn_fixed s e g
    · rename_i e _ _ _
      exact (State.placeOn_fixed ((s.bankHits ((s.queue q).base + 64 * (s.queue q).head) 64 false).consume q 1) e
        (s.headSeg q)).trans (by simp)
@[simp] theorem State.segmentPlace_fixed (s : State)  :
    (State.segmentPlace s).fixed = s.fixed := by
  unfold State.segmentPlace
  try dsimp only
  try (repeat' split)
  all_goals (first | (simp (maxDischargeDepth := 30); done) | (try simp_all (maxDischargeDepth := 30)))
@[simp] theorem State.handOn_fixed (s : State) (g : Seg)  :
    (State.handOn s g).fixed = s.fixed := by
  unfold State.handOn
  try dsimp only
  try (repeat' split)
  all_goals (first | (simp (maxDischargeDepth := 30); done) | (try simp_all (maxDischargeDepth := 30)))
@[simp] theorem State.handover_fixed (s : State) (e : Nat)  :
    (State.handover s e).fixed = s.fixed := by
  unfold State.handover
  try dsimp only
  try (repeat' split)
  all_goals (first | (simp (maxDischargeDepth := 30); done) | (try simp_all (maxDischargeDepth := 30)))
@[simp] theorem State.beginTake_fixed (s : State) (e : Nat) (g : Seg) (t : Nat)  :
    (State.beginTake s e g t).fixed = s.fixed := by
  unfold State.beginTake
  try dsimp only
  try (repeat' split)
  all_goals (first | (simp (maxDischargeDepth := 30); done) | (try simp_all (maxDischargeDepth := 30)))
@[simp] theorem State.dequePop_fixed (s : State) (e : Nat)  :
    (State.dequePop s e).fixed = s.fixed := by
  unfold State.dequePop
  try dsimp only
  try (repeat' split)
  all_goals (first | (simp (maxDischargeDepth := 30); done) | (try simp_all (maxDischargeDepth := 30)))
@[simp] theorem State.stealProbe_fixed (s : State) (e : Nat)  :
    (State.stealProbe s e).fixed = s.fixed := by
  unfold State.stealProbe
  try dsimp only
  try (repeat' split)
  all_goals (first | (simp (maxDischargeDepth := 30); done) | (try simp_all (maxDischargeDepth := 30)))
@[simp] theorem State.segmentTake_fixed (s : State) (e : Nat)  :
    (State.segmentTake s e).fixed = s.fixed := by
  unfold State.segmentTake
  try dsimp only
  try (repeat' split)
  all_goals (first | (simp (maxDischargeDepth := 30); done) | (try simp_all (maxDischargeDepth := 30)))
@[simp] theorem State.underrun_fixed (s : State) (ch : Nat) (segId : Nat) (seq : Nat) (st : Nat)  :
    (State.underrun s ch segId seq st).fixed = s.fixed := by
  unfold State.underrun
  try dsimp only
  try (repeat' split)
  all_goals (first | (simp (maxDischargeDepth := 30); done) | (try simp_all (maxDischargeDepth := 30)))
@[simp] theorem State.blockDeadline_fixed (s : State) (ch : Nat) (segId : Nat) (seq : Nat) (parityBad : Bool)  :
    (State.blockDeadline s ch segId seq parityBad).fixed = s.fixed := by
  unfold State.blockDeadline
  try dsimp only
  try (repeat' split)
  all_goals (first | (simp (maxDischargeDepth := 30); done) | (try simp_all (maxDischargeDepth := 30)))
@[simp] theorem State.abortCmd_fixed (s : State) (st : Nat)  :
    (State.abortCmd s st).fixed = s.fixed := by
  unfold State.abortCmd
  try dsimp only
  try (repeat' split)
  all_goals (first | (simp (maxDischargeDepth := 30); done) | (try simp_all (maxDischargeDepth := 30)))
@[simp] theorem State.wBurstCmd_fixed (s : State) (st : Nat) (val : Nat)  :
    (State.wBurstCmd s st val).fixed = s.fixed := by
  unfold State.wBurstCmd
  try dsimp only
  try (repeat' split)
  all_goals (first | (simp (maxDischargeDepth := 30); done) | (try simp_all (maxDischargeDepth := 30)))
@[simp] theorem State.burstWrite_fixed (s : State) (fn : Nat) (st : Nat) (val : Nat)  :
    (State.burstWrite s fn st val).fixed = s.fixed := by
  unfold State.burstWrite
  try dsimp only
  try (repeat' split)
  all_goals (first | (simp (maxDischargeDepth := 30); done) | (try simp_all (maxDischargeDepth := 30)))
@[simp] theorem State.thermalShutdown_fixed (s : State) (r : Nat)  :
    (State.thermalShutdown s r).fixed = s.fixed := by
  unfold State.thermalShutdown
  dsimp only
  split
  · rfl
  · simp
@[simp] theorem State.crossing_fixed (s : State) (ch : Nat) (cl : Bool) (rising : Bool) (tt : Nat)  :
    (State.crossing s ch cl rising tt).fixed = s.fixed := by
  unfold State.crossing
  try dsimp only
  try (repeat' split)
  all_goals (first | (simp (maxDischargeDepth := 30); done) | (try simp_all (maxDischargeDepth := 30)))
@[simp] theorem State.onSeg_fixed (s : State) (e : CmpEv) (f : Eng → Eng) (h : Seg → Seg)  :
    (State.onSeg s e f h).fixed = s.fixed := by
  unfold State.onSeg
  try dsimp only
  try (repeat' split)
  all_goals (first | (simp (maxDischargeDepth := 30); done) | (try simp_all (maxDischargeDepth := 30)))
@[simp] theorem State.plainResult_fixed (s : State) (ch : Nat) (v : CmpRes)  :
    (State.plainResult s ch v).fixed = s.fixed := by
  unfold State.plainResult
  try dsimp only
  try (repeat' split)
  all_goals (first | (simp (maxDischargeDepth := 30); done) | (try simp_all (maxDischargeDepth := 30)))
@[simp] theorem State.holdResult_fixed (s : State) (ch : Nat) (v : CmpRes)  :
    (State.holdResult s ch v).fixed = s.fixed := by
  unfold State.holdResult
  try dsimp only
  try (repeat' split)
  all_goals (first | (simp (maxDischargeDepth := 30); done) | (try simp_all (maxDischargeDepth := 30)))
@[simp] theorem State.compareResult_fixed (s : State) (ch : Nat)  :
    (State.compareResult s ch).fixed = s.fixed := by
  unfold State.compareResult
  try dsimp only
  try (repeat' split)
  all_goals (first | (simp (maxDischargeDepth := 30); done) | (try simp_all (maxDischargeDepth := 30)))
@[simp] theorem State.tick_fixed (s : State) (st : Nat)  :
    (State.tick s st).fixed = s.fixed := by
  unfold State.tick
  try dsimp only
  try (repeat' split)
  all_goals (first | (simp (maxDischargeDepth := 30); done) | (try simp_all (maxDischargeDepth := 30)))

end Sys2Proof.Machine
end

