-- ==== Sys2Proof/Laws/FixedSites.lean ====
section
/-! SUPPORT. Operations of Sites keep what `State.fixed` reads. -/

namespace Sys2Proof.Machine

@[simp] theorem State.siteChanged_fixed (s : State) (o : Nat)  :
    (State.siteChanged s o).fixed = s.fixed := by
  unfold State.siteChanged
  try dsimp only
  try (repeat' split)
  all_goals (first | (simp (maxDischargeDepth := 30); done) | (try simp_all (maxDischargeDepth := 30)))
@[simp] theorem State.dropSealed_fixed (s : State) (o : Nat) (ch : Nat)  :
    (State.dropSealed s o ch).fixed = s.fixed := by
  unfold State.dropSealed
  try dsimp only
  try (repeat' split)
  all_goals (first | (simp (maxDischargeDepth := 30); done) | (try simp_all (maxDischargeDepth := 30)))
@[simp] theorem State.dropMask_fixed (s : State) (k : Nat)  :
    (State.dropMask s k).fixed = s.fixed := by
  unfold State.dropMask
  try dsimp only
  try (repeat' split)
  all_goals (first | (simp (maxDischargeDepth := 30); done) | (try simp_all (maxDischargeDepth := 30)))
@[simp] theorem State.moveChannel_fixed (s : State) (ch : Nat) (o : Nat)  :
    (State.moveChannel s ch o).fixed = s.fixed := by
  unfold State.moveChannel
  try dsimp only
  try (repeat' split)
  all_goals (first | (simp (maxDischargeDepth := 30); done) | (try simp_all (maxDischargeDepth := 30)))
@[simp] theorem State.moveUnit_fixed (s : State) (ty : Nat) (k : Nat) (o : Nat)  :
    (State.moveUnit s ty k o).fixed = s.fixed := by
  unfold State.moveUnit
  try dsimp only
  try (repeat' split)
  all_goals (first | (simp (maxDischargeDepth := 30); done) | (try simp_all (maxDischargeDepth := 30)))
@[simp] theorem State.moveOwner_fixed (s : State) (ty : Nat) (inst : Nat) (o : Nat)  :
    (State.moveOwner s ty inst o).fixed = s.fixed := by
  unfold State.moveOwner
  try dsimp only
  try (repeat' split)
  all_goals (first | (simp (maxDischargeDepth := 30); done) | (try simp_all (maxDischargeDepth := 30)))
@[simp] theorem State.wOwner_fixed (s : State) (fn : Nat) (ty : Nat) (inst : Nat) (val : Nat)  :
    (State.wOwner s fn ty inst val).fixed = s.fixed := by
  unfold State.wOwner
  try dsimp only
  try (repeat' split)
  all_goals (first | (simp (maxDischargeDepth := 30); done) | (try simp_all (maxDischargeDepth := 30)))
@[simp] theorem State.wChMask_fixed (s : State) (fn : Nat) (st : Nat) (k : Nat) (val : Nat)  :
    (State.wChMask s fn st k val).fixed = s.fixed := by
  unfold State.wChMask
  try dsimp only
  try (repeat' split)
  all_goals (first | (simp (maxDischargeDepth := 30); done) | (try simp_all (maxDischargeDepth := 30)))
@[simp] theorem State.wCluMask_fixed (s : State) (fn : Nat) (st : Nat) (val : Nat)  :
    (State.wCluMask s fn st val).fixed = s.fixed := by
  unfold State.wCluMask
  try dsimp only
  try (repeat' split)
  all_goals (first | (simp (maxDischargeDepth := 30); done) | (try simp_all (maxDischargeDepth := 30)))
@[simp] theorem State.wTeMask_fixed (s : State) (fn : Nat) (st : Nat) (k : Nat) (val : Nat)  :
    (State.wTeMask s fn st k val).fixed = s.fixed := by
  unfold State.wTeMask
  try dsimp only
  try (repeat' split)
  all_goals (first | (simp (maxDischargeDepth := 30); done) | (try simp_all (maxDischargeDepth := 30)))
@[simp] theorem State.setRange_fixed (s : State) (st : Nat) (base : Nat) (count : Nat)  :
    (State.setRange s st base count).fixed = s.fixed := by
  unfold State.setRange
  dsimp only
  exact (State.modSite_fixed ..).trans (forEach_fixed _ _ _ (fun i t => by split <;> simp))
@[simp] theorem State.wQueueRange_fixed (s : State) (fn : Nat) (st : Nat) (isCount : Bool) (val : Nat)  :
    (State.wQueueRange s fn st isCount val).fixed = s.fixed := by
  unfold State.wQueueRange
  try dsimp only
  try (repeat' split)
  all_goals (first | (simp (maxDischargeDepth := 30); done) | (try simp_all (maxDischargeDepth := 30)))
@[simp] theorem State.wSiteCtrl_fixed (s : State) (st : Nat) (val : Nat)  :
    (State.wSiteCtrl s st val).fixed = s.fixed := by
  unfold State.wSiteCtrl
  try dsimp only
  try (repeat' split)
  all_goals (first | (simp (maxDischargeDepth := 30); done) | (try simp_all (maxDischargeDepth := 30)))
@[simp] theorem State.wLclkDiv_fixed (s : State) (fn : Nat) (st : Nat) (val : Nat)  :
    (State.wLclkDiv s fn st val).fixed = s.fixed := by
  unfold State.wLclkDiv
  try dsimp only
  try (repeat' split)
  all_goals (first | (simp (maxDischargeDepth := 30); done) | (try simp_all (maxDischargeDepth := 30)))
@[simp] theorem State.wFrameGroup_fixed (s : State) (fn : Nat) (st : Nat) (val : Nat)  :
    (State.wFrameGroup s fn st val).fixed = s.fixed := by
  unfold State.wFrameGroup
  try dsimp only
  try (repeat' split)
  all_goals (first | (simp (maxDischargeDepth := 30); done) | (try simp_all (maxDischargeDepth := 30)))
@[simp] theorem State.wLatePolicy_fixed (s : State) (fn : Nat) (st : Nat) (val : Nat)  :
    (State.wLatePolicy s fn st val).fixed = s.fixed := by
  unfold State.wLatePolicy
  try dsimp only
  try (repeat' split)
  all_goals (first | (simp (maxDischargeDepth := 30); done) | (try simp_all (maxDischargeDepth := 30)))
@[simp] theorem State.wLeadTime_fixed (s : State) (fn : Nat) (st : Nat) (val : Nat)  :
    (State.wLeadTime s fn st val).fixed = s.fixed := by
  unfold State.wLeadTime
  try dsimp only
  try (repeat' split)
  all_goals (first | (simp (maxDischargeDepth := 30); done) | (try simp_all (maxDischargeDepth := 30)))
@[simp] theorem State.wLogQueue_fixed (s : State) (fn : Nat) (st : Nat) (val : Nat)  :
    (State.wLogQueue s fn st val).fixed = s.fixed := by
  unfold State.wLogQueue
  try dsimp only
  try (repeat' split)
  all_goals (first | (simp (maxDischargeDepth := 30); done) | (try simp_all (maxDischargeDepth := 30)))
@[simp] theorem State.wCplQueue_fixed (s : State) (fn : Nat) (st : Nat) (val : Nat)  :
    (State.wCplQueue s fn st val).fixed = s.fixed := by
  unfold State.wCplQueue
  try dsimp only
  try (repeat' split)
  all_goals (first | (simp (maxDischargeDepth := 30); done) | (try simp_all (maxDischargeDepth := 30)))
@[simp] theorem State.wSiteGroup_fixed (s : State) (st : Nat) (off : Nat) (val : Nat)  :
    (State.wSiteGroup s st off val).fixed = s.fixed := by
  unfold State.wSiteGroup
  try dsimp only
  try (repeat' split)
  all_goals (first | (simp (maxDischargeDepth := 30); done) | (try simp_all (maxDischargeDepth := 30)))
@[simp] theorem State.wGlbGroup_fixed (s : State) (off : Nat) (val : Nat)  :
    (State.wGlbGroup s off val).fixed = s.fixed := by
  unfold State.wGlbGroup
  try dsimp only
  try (repeat' split)
  all_goals (first | (simp (maxDischargeDepth := 30); done) | (try simp_all (maxDischargeDepth := 30)))

end Sys2Proof.Machine
end

