-- ==== Sys2Proof/Laws/FixedHealth.lean ====
section
/-! SUPPORT. Operations of Health keep what `State.fixed` reads. -/

namespace Sys2Proof.Machine

@[simp] theorem State.histSample_fixed (s : State) (k : Nat)  :
    (State.histSample s k).fixed = s.fixed := by
  unfold State.histSample
  try dsimp only
  try (repeat' split)
  all_goals (first | (simp (maxDischargeDepth := 30); done) | (try simp_all (maxDischargeDepth := 30)))
@[simp] theorem State.wHistCtrl_fixed (s : State) (fn : Nat) (k : Nat) (val : Nat)  :
    (State.wHistCtrl s fn k val).fixed = s.fixed := by
  unfold State.wHistCtrl
  try dsimp only
  try (repeat' split)
  all_goals (first | (simp (maxDischargeDepth := 30); done) | (try simp_all (maxDischargeDepth := 30)))
@[simp] theorem State.wHistSrc_fixed (s : State) (fn : Nat) (k : Nat) (val : Nat)  :
    (State.wHistSrc s fn k val).fixed = s.fixed := by
  unfold State.wHistSrc
  try dsimp only
  try (repeat' split)
  all_goals (first | (simp (maxDischargeDepth := 30); done) | (try simp_all (maxDischargeDepth := 30)))
@[simp] theorem State.wHistOrigin_fixed (s : State) (fn : Nat) (k : Nat) (val : Nat)  :
    (State.wHistOrigin s fn k val).fixed = s.fixed := by
  unfold State.wHistOrigin
  try dsimp only
  try (repeat' split)
  all_goals (first | (simp (maxDischargeDepth := 30); done) | (try simp_all (maxDischargeDepth := 30)))
@[simp] theorem State.wHistWidth_fixed (s : State) (fn : Nat) (k : Nat) (val : Nat)  :
    (State.wHistWidth s fn k val).fixed = s.fixed := by
  unfold State.wHistWidth
  try dsimp only
  try (repeat' split)
  all_goals (first | (simp (maxDischargeDepth := 30); done) | (try simp_all (maxDischargeDepth := 30)))
@[simp] theorem State.wHlthCtrl_fixed (s : State) (fn : Nat) (val : Nat)  :
    (State.wHlthCtrl s fn val).fixed = s.fixed := by
  unfold State.wHlthCtrl
  try dsimp only
  try (repeat' split)
  all_goals (first | (simp (maxDischargeDepth := 30); done) | (try simp_all (maxDischargeDepth := 30)))
@[simp] theorem State.errMirror_fixed (s : State)  :
    (State.errMirror s).fixed = s.fixed := by
  unfold State.errMirror
  try dsimp only
  try (repeat' split)
  all_goals (first | (simp (maxDischargeDepth := 30); done) | (try simp_all (maxDischargeDepth := 30)))

end Sys2Proof.Machine
end

