-- ==== Sys2Proof/Laws/FixedImage.lean ====
section
/-! SUPPORT. Operations of Image keep what `State.fixed` reads. -/

namespace Sys2Proof.Machine

@[simp] theorem State.mcRun_fixed (s : State) (r : Nat) (i : McImage) (slotB : Bool) (fallback : Bool)  :
    (State.mcRun s r i slotB fallback).fixed = s.fixed := by
  unfold State.mcRun
  rw [State.modRgn_fixed, forEach_fixed _ _ _ (fun e t => State.loadStore_fixed t e), State.setCopy_fixed]
@[simp] theorem State.mcLoadRgn_fixed (s : State) (r : Nat) (sigs : Nat)  :
    (State.mcLoadRgn s r sigs).1.fixed = s.fixed := by
  unfold State.mcLoadRgn
  try dsimp only
  try (repeat' split)
  all_goals (first | (simp (maxDischargeDepth := 30); done) | (try simp_all (maxDischargeDepth := 30)))
@[simp] theorem State.mcLoad_fixed (s : State) (sigs : Nat)  :
    (State.mcLoad s sigs).fixed = s.fixed := by
  unfold State.mcLoad
  try dsimp only
  try (repeat' split)
  all_goals (first | (simp (maxDischargeDepth := 30); done) | (try simp_all (maxDischargeDepth := 30)))

end Sys2Proof.Machine
end

