-- ==== Sys2Proof/Laws/FixedMemory.lean ====
section
/-! SUPPORT. Operations of Memory keep what `State.fixed` reads. -/

namespace Sys2Proof.Machine

@[simp] theorem State.setBankByte_fixed (s : State) (off : Nat) (b : Byte)  :
    (State.setBankByte s off b).fixed = s.fixed := by
  unfold State.setBankByte
  try dsimp only
  try (repeat' split)
  all_goals (first | (simp (maxDischargeDepth := 30); done) | (try simp_all (maxDischargeDepth := 30)))
@[simp] theorem State.setBankBytes_fixed (s : State) (x1 : Nat) (x2 : List Byte)  :
    (State.setBankBytes s x1 x2).fixed = s.fixed := by
  induction x2 generalizing s x1 with
  | nil => rfl
  | cons b t ih => exact (ih _ _).trans (State.setBankByte_fixed _ _ _)
@[simp] theorem State.bankDo_fixed (s : State) (old : State) (r : BankReq)  :
    (State.bankDo s old r).fixed = s.fixed := by
  unfold State.bankDo
  try dsimp only
  try (repeat' split)
  all_goals (first | (simp (maxDischargeDepth := 30); done) | (try simp_all (maxDischargeDepth := 30)))
@[simp] theorem State.bankBoth_fixed (s : State) (a : Option BankReq) (b : Option BankReq) (bank : Nat) (cyc : Nat)  :
    (State.bankBoth s a b bank cyc).fixed = s.fixed := by
  unfold State.bankBoth
  try dsimp only
  try (repeat' split)
  all_goals (first | (simp (maxDischargeDepth := 30); done) | (try simp_all (maxDischargeDepth := 30)))
@[simp] theorem State.bankCycle_fixed (s : State) (l : List BankReq) (bank : Nat) (cyc : Nat)  :
    (State.bankCycle s l bank cyc).fixed = s.fixed := by
  unfold State.bankCycle
  try dsimp only
  try (repeat' split)
  all_goals (first | (simp (maxDischargeDepth := 30); done) | (try simp_all (maxDischargeDepth := 30)))
@[simp] theorem State.bankRun_fixed (s : State) (cyc : Nat) (l : List BankReq) (x1 : Nat)  :
    (State.bankRun s cyc l x1).fixed = s.fixed := by
  induction x1 generalizing s cyc l with
  | zero => rfl
  | succ n ih =>
    unfold State.bankRun
    split
    · rfl
    · exact (ih _ _ _).trans (forEach_fixed _ _ _ (fun b t => by simp))
@[simp] theorem State.bankAccess_fixed (s : State) (l : List BankReq)  :
    (State.bankAccess s l).fixed = s.fixed := by
  unfold State.bankAccess
  try dsimp only
  try (repeat' split)
  all_goals (first | (simp (maxDischargeDepth := 30); done) | (try simp_all (maxDischargeDepth := 30)))
@[simp] theorem State.regionStart_fixed (s : State)  :
    (State.regionStart s).fixed = s.fixed := by
  unfold State.regionStart
  try dsimp only
  try (repeat' split)
  all_goals (first | (simp (maxDischargeDepth := 30); done) | (try simp_all (maxDischargeDepth := 30)))
@[simp] theorem State.marchFail_fixed (s : State) (off : Nat)  :
    (State.marchFail s off).fixed = s.fixed := by
  unfold State.marchFail
  try dsimp only
  try (repeat' split)
  all_goals (first | (simp (maxDischargeDepth := 30); done) | (try simp_all (maxDischargeDepth := 30)))
@[simp] theorem State.marchDone_fixed (s : State) (fails : List Nat)  :
    (State.marchDone s fails).fixed = s.fixed := by
  unfold State.marchDone
  try dsimp only
  try (repeat' split)
  all_goals (first | (simp (maxDischargeDepth := 30); done) | (try simp_all (maxDischargeDepth := 30)))
@[simp] theorem State.wBmemTest_fixed (s : State) (fn : Nat) (val : Nat)  :
    (State.wBmemTest s fn val).fixed = s.fixed := by
  unfold State.wBmemTest
  try dsimp only
  try (repeat' split)
  all_goals (first | (simp (maxDischargeDepth := 30); done) | (try simp_all (maxDischargeDepth := 30)))
@[simp] theorem State.bwWindow_fixed (s : State) (i : Nat) (served : List Nat) (demand : List Nat) (thr : Nat)
    (bp : Bool)  :
    (State.bwWindow s i served demand thr bp).fixed = s.fixed := by
  unfold State.bwWindow
  try dsimp only
  try (repeat' split)
  all_goals (first | (simp (maxDischargeDepth := 30); done) | (try simp_all (maxDischargeDepth := 30)))

end Sys2Proof.Machine
end

