-- ==== Sys2Proof/Laws/FixedCommands.lean ====
section
/-! SUPPORT. Operations of Commands keep what `State.fixed` reads. -/

namespace Sys2Proof.Machine

@[simp] theorem State.complete_fixed (s : State) (fn : Nat) (cq : Nat) (tag : Nat) (seen : Nat) (status : Nat)
    (result : List Byte)  :
    (State.complete s fn cq tag seen status result).fixed = s.fixed := by
  unfold State.complete
  try dsimp only
  try (repeat' split)
  all_goals (first | (simp (maxDischargeDepth := 30); done) | (try simp_all (maxDischargeDepth := 30)))
@[simp] theorem State.reply_fixed (s : State) (c : Cmd) (status : Nat) (result : List Byte)  :
    (State.reply s c status result).fixed = s.fixed := by
  unfold State.reply
  try dsimp only
  try (repeat' split)
  all_goals (first | (simp (maxDischargeDepth := 30); done) | (try simp_all (maxDischargeDepth := 30)))
@[simp] theorem State.runCmd_fixed (s : State) (q : Nat) (c : Cmd) (who : Nat) (masks : List Nat)
    (act : Cmd → State → State) (hact : ∀ y1 y2, (act y1 y2).fixed = y2.fixed) :
    (State.runCmd s q c who masks act).fixed = s.fixed := by
  unfold State.runCmd
  try dsimp only
  try (repeat' split)
  all_goals (first | (simp (maxDischargeDepth := 30); done) | (try simp_all (maxDischargeDepth := 30)))
@[simp] theorem State.onCmd_fixed (s : State) (q : Nat) (code : Nat) (who : Nat) (masks : List Nat)
    (act : Cmd → State → State) (hact : ∀ y1 y2, (act y1 y2).fixed = y2.fixed) :
    (State.onCmd s q code who masks act).fixed = s.fixed := by
  unfold State.onCmd
  try dsimp only
  try (repeat' split)
  all_goals (first | (simp (maxDischargeDepth := 30); done) | (try simp_all (maxDischargeDepth := 30)))
@[simp] theorem State.storeBlock_fixed (s : State) (o : Nat) (a : Nat) (c : List Byte)  :
    (State.storeBlock s o a c).fixed = s.fixed := by
  unfold State.storeBlock
  dsimp only
  have key : ∀ (u : State) (n : Tbl (Option Byte)), ({ u with ctext := n } : State).fixed = u.fixed := fun _ _ => rfl
  rw [key, State.setBytes_fixed]
@[simp] theorem State.storeSealed_fixed (s : State) (a : Nat) (data : List Byte)  :
    (State.storeSealed s a data).fixed = s.fixed := by
  unfold State.storeSealed
  try dsimp only
  try (repeat' split)
  all_goals (first | (simp (maxDischargeDepth := 30); done) | (try simp_all (maxDischargeDepth := 30)))
@[simp] theorem State.dropLines_fixed (s : State) (a : Nat) (last : Nat)  :
    (State.dropLines s a last).fixed = s.fixed := by
  unfold State.dropLines
  try dsimp only
  try (repeat' split)
  all_goals (first | (simp (maxDischargeDepth := 30); done) | (try simp_all (maxDischargeDepth := 30)))
@[simp] theorem State.copyIn_fixed (s : State) (a : Nat) (data : List Byte)  :
    (State.copyIn s a data).fixed = s.fixed := by
  unfold State.copyIn
  split
  · rfl
  · exact (State.dropLines_fixed ..).trans ((State.bankHits_fixed ..).trans (by split <;> simp))
@[simp] theorem State.copyOut_fixed (s : State) (a : Nat) (n : Nat)  :
    (State.copyOut s a n).1.fixed = s.fixed := by
  unfold State.copyOut
  try dsimp only
  try (repeat' split)
  all_goals (first | (simp (maxDischargeDepth := 30); done) | (try simp_all (maxDischargeDepth := 30)))
@[simp] theorem State.dmaOut_fixed (s : State) (c : Cmd) (addr : Nat) (data : List Byte) (err : Option Nat)  :
    (State.dmaOut s c addr data err).1.fixed = s.fixed := by
  unfold State.dmaOut
  try dsimp only
  try (repeat' split)
  all_goals (first | (simp (maxDischargeDepth := 30); done) | (try simp_all (maxDischargeDepth := 30)))
@[simp] theorem State.queueOut_fixed (s : State) (c : Cmd) (err : Option Nat)  :
    (State.queueOut s c err).fixed = s.fixed := by
  unfold State.queueOut
  try dsimp only
  try (repeat' split)
  all_goals (first | (simp (maxDischargeDepth := 30); done) | (try simp_all (maxDischargeDepth := 30)))
@[simp] theorem State.barrierSet_fixed (s : State) (c : Cmd)  :
    (State.barrierSet s c).fixed = s.fixed := by
  unfold State.barrierSet
  try dsimp only
  try (repeat' split)
  all_goals (first | (simp (maxDischargeDepth := 30); done) | (try simp_all (maxDischargeDepth := 30)))
@[simp] theorem State.scrambleLoad_fixed (s : State) (c : Cmd)  :
    (State.scrambleLoad s c).fixed = s.fixed := by
  unfold State.scrambleLoad
  try dsimp only
  try (repeat' split)
  all_goals (first | (simp (maxDischargeDepth := 30); done) | (try simp_all (maxDischargeDepth := 30)))
@[simp] theorem State.calRead_fixed (s : State) (c : Cmd) (err : Option Nat)  :
    (State.calRead s c err).fixed = s.fixed := by
  unfold State.calRead
  try dsimp only
  try (repeat' split)
  all_goals (first | (simp (maxDischargeDepth := 30); done) | (try simp_all (maxDischargeDepth := 30)))
@[simp] theorem State.mcInstall_fixed (s : State) (c : Cmd) (key : List Byte)  :
    (State.mcInstall s c key).fixed = s.fixed := by
  unfold State.mcInstall
  try dsimp only
  try (repeat' split)
  all_goals (first | (simp (maxDischargeDepth := 30); done) | (try simp_all (maxDischargeDepth := 30)))
@[simp] theorem State.mcInstallDone_fixed (s : State)  :
    (State.mcInstallDone s).fixed = s.fixed := by
  unfold State.mcInstallDone
  try dsimp only
  try (repeat' split)
  all_goals (first | (simp (maxDischargeDepth := 30); done) | (try simp_all (maxDischargeDepth := 30)))
@[simp] theorem State.memGrant_fixed (s : State) (c : Cmd)  :
    (State.memGrant s c).fixed = s.fixed := by
  unfold State.memGrant
  try dsimp only
  try (repeat' split)
  all_goals (first | (simp (maxDischargeDepth := 30); done) | (try simp_all (maxDischargeDepth := 30)))
@[simp] theorem State.memGrantDone_fixed (s : State)  :
    (State.memGrantDone s).fixed = s.fixed := by
  unfold State.memGrantDone
  split
  · rfl
  · rename_i g _
    have h : ((s.wipe g.range.1 g.range.2).dropLines g.range.1 (g.range.1 + g.range.2 - 1)).fixed = s.fixed := by simp
    dsimp only
    rw [State.complete_fixed, State.modQmgr_fixed]
    split <;> exact h
@[simp] theorem State.uncorr_fixed (s : State) (addr : Nat) (site : Option Nat)  :
    (State.uncorr s addr site).fixed = s.fixed := by
  unfold State.uncorr
  try dsimp only
  try (repeat' split)
  all_goals (first | (simp (maxDischargeDepth := 30); done) | (try simp_all (maxDischargeDepth := 30)))
@[simp] theorem State.uncorrRead_fixed (s : State) (addr : Nat) (who : Nat) (i : Nat) (j : Nat)  :
    (State.uncorrRead s addr who i j).fixed = s.fixed := by
  unfold State.uncorrRead
  try dsimp only
  try (repeat' split)
  all_goals (first | (simp (maxDischargeDepth := 30); done) | (try simp_all (maxDischargeDepth := 30)))

end Sys2Proof.Machine
end

