-- ==== Sys2Proof/Laws/FixedSecurity.lean ====
section
/-! SUPPORT. Operations of Security keep what `State.fixed` reads. -/

namespace Sys2Proof.Machine

@[simp] theorem State.latchHw_fixed (s : State)  :
    (State.latchHw s).fixed = s.fixed := by
  unfold State.latchHw
  try dsimp only
  try (repeat' split)
  all_goals (first | (simp (maxDischargeDepth := 30); done) | (try simp_all (maxDischargeDepth := 30)))
@[simp] theorem State.wHostTime_fixed (s : State) (fn : Nat) (hi : Nat)  :
    (State.wHostTime s fn hi).fixed = s.fixed := by
  unfold State.wHostTime
  try dsimp only
  try (repeat' split)
  all_goals (first | (simp (maxDischargeDepth := 30); done) | (try simp_all (maxDischargeDepth := 30)))
@[simp] theorem State.unsealRegs_fixed (s : State) (st : Nat)  :
    (State.unsealRegs s st).fixed = s.fixed := by
  unfold State.unsealRegs
  try dsimp only
  try (repeat' split)
  all_goals (first | (simp (maxDischargeDepth := 30); done) | (try simp_all (maxDischargeDepth := 30)))
@[simp] theorem State.dropContainer_fixed (s : State) (st : Nat)  :
    (State.dropContainer s st).fixed = s.fixed := by
  unfold State.dropContainer
  try dsimp only
  try (repeat' split)
  all_goals (first | (simp (maxDischargeDepth := 30); done) | (try simp_all (maxDischargeDepth := 30)))
@[simp] theorem State.secErr_fixed (s : State) (code : Nat)  :
    (State.secErr s code).fixed = s.fixed := by
  unfold State.secErr
  try dsimp only
  try (repeat' split)
  all_goals (first | (simp (maxDischargeDepth := 30); done) | (try simp_all (maxDischargeDepth := 30)))
@[simp] theorem State.doeSend_fixed (s : State) (fn : Nat) (op : Nat) (status : Nat) (tag : Nat) (data : List Byte)  :
    (State.doeSend s fn op status tag data).fixed = s.fixed := by
  unfold State.doeSend
  try dsimp only
  try (repeat' split)
  all_goals (first | (simp (maxDischargeDepth := 30); done) | (try simp_all (maxDischargeDepth := 30)))
@[simp] theorem State.doeReply_fixed (s : State) (d : Doe) (status : Nat) (data : List Byte)  :
    (State.doeReply s d status data).fixed = s.fixed := by
  unfold State.doeReply
  try dsimp only
  try (repeat' split)
  all_goals (first | (simp (maxDischargeDepth := 30); done) | (try simp_all (maxDischargeDepth := 30)))
@[simp] theorem State.doeQueue_fixed (s : State) (d : Doe)  :
    (State.doeQueue s d).fixed = s.fixed := by
  unfold State.doeQueue
  try dsimp only
  try (repeat' split)
  all_goals (first | (simp (maxDischargeDepth := 30); done) | (try simp_all (maxDischargeDepth := 30)))
@[simp] theorem State.onDoe_fixed (s : State) (d : Doe) (op : Nat) (who : Nat) (len : Nat) (exact : Bool)
    (act : Doe → State → State) (hact : ∀ y1 y2, (act y1 y2).fixed = y2.fixed) :
    (State.onDoe s d op who len exact act).fixed = s.fixed := by
  unfold State.onDoe
  try dsimp only
  try (repeat' split)
  all_goals (first | (simp (maxDischargeDepth := 30); done) | (try simp_all (maxDischargeDepth := 30)))
@[simp] theorem State.doeOther_fixed (s : State) (d : Doe)  :
    (State.doeOther s d).fixed = s.fixed := by
  unfold State.doeOther
  try dsimp only
  try (repeat' split)
  all_goals (first | (simp (maxDischargeDepth := 30); done) | (try simp_all (maxDischargeDepth := 30)))
@[simp] theorem State.doeStatus_fixed (s : State) (d : Doe)  :
    (State.doeStatus s d).fixed = s.fixed := by
  unfold State.doeStatus
  try dsimp only
  try (repeat' split)
  all_goals (first | (simp (maxDischargeDepth := 30); done) | (try simp_all (maxDischargeDepth := 30)))
@[simp] theorem State.signAlias_fixed (s : State) (m : List Byte)  :
    (State.signAlias s m).1.fixed = s.fixed := by
  unfold State.signAlias
  try dsimp only
  try (repeat' split)
  all_goals (first | (simp (maxDischargeDepth := 30); done) | (try simp_all (maxDischargeDepth := 30)))
@[simp] theorem State.loadAccept_fixed (s : State) (d : Doe) (st : Nat) (dest : Nat) (h : List Byte)
    (plain : List Byte)  :
    (State.loadAccept s d st dest h plain).fixed = s.fixed := by
  unfold State.loadAccept
  try dsimp only
  try (repeat' split)
  all_goals (first | (simp (maxDischargeDepth := 30); done) | (try simp_all (maxDischargeDepth := 30)))
@[simp] theorem State.load_fixed (s : State) (d : Doe)  :
    (State.load s d).fixed = s.fixed := by
  unfold State.load
  try dsimp only
  try (repeat' split)
  all_goals (first | (simp (maxDischargeDepth := 30); done) | (try simp_all (maxDischargeDepth := 30)))
@[simp] theorem State.loseFrame_fixed (s : State) (st : Nat) (kind : Nat) (inst : Nat)  :
    (State.loseFrame s st kind inst).fixed = s.fixed := by
  unfold State.loseFrame
  try dsimp only
  try (repeat' split)
  all_goals (first | (simp (maxDischargeDepth := 30); done) | (try simp_all (maxDischargeDepth := 30)))
@[simp] theorem State.zeroRings_fixed (s : State) (st : Nat)  :
    (State.zeroRings s st).fixed = s.fixed := by
  unfold State.zeroRings
  try dsimp only
  try (repeat' split)
  all_goals (first | (simp (maxDischargeDepth := 30); done) | (try simp_all (maxDischargeDepth := 30)))
@[simp] theorem State.unloadEnd_fixed (s : State) (st : Nat) (path : Nat) (tag : Nat)  :
    (State.unloadEnd s st path tag).fixed = s.fixed := by
  unfold State.unloadEnd
  try dsimp only
  try (repeat' split)
  all_goals (first | (simp (maxDischargeDepth := 30); done) | (try simp_all (maxDischargeDepth := 30)))
@[simp] theorem State.unloadStep_fixed (s : State) (st : Nat)  :
    (State.unloadStep s st).fixed = s.fixed := by
  unfold State.unloadStep
  try dsimp only
  try (repeat' split)
  all_goals (first | (simp (maxDischargeDepth := 30); done) | (try simp_all (maxDischargeDepth := 30)))
@[simp] theorem State.closeFrames_fixed (s : State) (st : Nat)  :
    (State.closeFrames s st).fixed = s.fixed := by
  unfold State.closeFrames
  try dsimp only
  try (repeat' split)
  all_goals (first | (simp (maxDischargeDepth := 30); done) | (try simp_all (maxDischargeDepth := 30)))
@[simp] theorem State.unload_fixed (s : State) (d : Doe)  :
    (State.unload s d).fixed = s.fixed := by
  unfold State.unload
  try dsimp only
  try (repeat' split)
  all_goals (first | (simp (maxDischargeDepth := 30); done) | (try simp_all (maxDischargeDepth := 30)))
@[simp] theorem State.frameDue_fixed (s : State) (st : Nat) (kind : Nat) (inst : Nat)  :
    (State.frameDue s st kind inst).fixed = s.fixed := by
  unfold State.frameDue
  try dsimp only
  try (repeat' split)
  all_goals (first | (simp (maxDischargeDepth := 30); done) | (try simp_all (maxDischargeDepth := 30)))
@[simp] theorem State.fwCommit_fixed (s : State) (d : Doe) (b : List Byte) (intoA : Bool)  :
    (State.fwCommit s d b intoA).fixed = s.fixed := by
  unfold State.fwCommit
  try dsimp only
  try (repeat' split)
  all_goals (first | (simp (maxDischargeDepth := 30); done) | (try simp_all (maxDischargeDepth := 30)))
@[simp] theorem State.fwInstall_fixed (s : State) (d : Doe)  :
    (State.fwInstall s d).fixed = s.fixed := by
  unfold State.fwInstall
  try dsimp only
  try (repeat' split)
  all_goals (first | (simp (maxDischargeDepth := 30); done) | (try simp_all (maxDischargeDepth := 30)))
@[simp] theorem State.fwRecover_fixed (s : State) (d : Doe)  :
    (State.fwRecover s d).fixed = s.fixed := by
  unfold State.fwRecover
  try dsimp only
  try (repeat' split)
  all_goals (first | (simp (maxDischargeDepth := 30); done) | (try simp_all (maxDischargeDepth := 30)))
@[simp] theorem State.floorCommit_fixed (s : State) (d : Doe)  :
    (State.floorCommit s d).fixed = s.fixed := by
  unfold State.floorCommit
  try dsimp only
  try (repeat' split)
  all_goals (first | (simp (maxDischargeDepth := 30); done) | (try simp_all (maxDischargeDepth := 30)))
@[simp] theorem State.wSealedSites_fixed (s : State) (fn : Nat) (val : Nat)  :
    (State.wSealedSites s fn val).fixed = s.fixed := by
  unfold State.wSealedSites
  try dsimp only
  try (repeat' split)
  all_goals (first | (simp (maxDischargeDepth := 30); done) | (try simp_all (maxDischargeDepth := 30)))
@[simp] theorem State.rekeyDone_fixed (s : State) (h : Nat)  :
    (State.rekeyDone s h).fixed = s.fixed := by
  unfold State.rekeyDone
  try dsimp only
  try (repeat' split)
  all_goals (first | (simp (maxDischargeDepth := 30); done) | (try simp_all (maxDischargeDepth := 30)))
@[simp] theorem State.secWipe_fixed (s : State)  :
    (State.secWipe s).fixed = s.fixed := by
  unfold State.secWipe
  try dsimp only
  try (repeat' split)
  all_goals (first | (simp (maxDischargeDepth := 30); done) | (try simp_all (maxDischargeDepth := 30)))
@[simp] theorem State.unloadFrames_fixed (s : State)  :
    (State.unloadFrames s).fixed = s.fixed := by
  unfold State.unloadFrames
  try dsimp only
  try (repeat' split)
  all_goals (first | (simp (maxDischargeDepth := 30); done) | (try simp_all (maxDischargeDepth := 30)))
@[simp] theorem State.wLifecycle_fixed (s : State) (fn : Nat) (val : Nat)  :
    (State.wLifecycle s fn val).fixed = s.fixed := by
  unfold State.wLifecycle
  try dsimp only
  try (repeat' split)
  all_goals (first | (simp (maxDischargeDepth := 30); done) | (try simp_all (maxDischargeDepth := 30)))
@[simp] theorem State.tamper_fixed (s : State) (src : Nat)  :
    (State.tamper s src).fixed = s.fixed := by
  unfold State.tamper
  try dsimp only
  try (repeat' split)
  all_goals (first | (simp (maxDischargeDepth := 30); done) | (try simp_all (maxDischargeDepth := 30)))
@[simp] theorem State.wTamperCtrl_fixed (s : State) (fn : Nat) (val : Nat)  :
    (State.wTamperCtrl s fn val).fixed = s.fixed := by
  unfold State.wTamperCtrl
  try dsimp only
  try (repeat' split)
  all_goals (first | (simp (maxDischargeDepth := 30); done) | (try simp_all (maxDischargeDepth := 30)))
@[simp] theorem State.fwCommitted_fixed (s : State)  :
    (State.fwCommitted s).fixed = s.fixed := by
  unfold State.fwCommitted
  try dsimp only
  try (repeat' split)
  all_goals (first | (simp (maxDischargeDepth := 30); done) | (try simp_all (maxDischargeDepth := 30)))
@[simp] theorem State.norDone_fixed (s : State)  :
    (State.norDone s).fixed = s.fixed := by
  unfold State.norDone
  try dsimp only
  try (repeat' split)
  all_goals (first | (simp (maxDischargeDepth := 30); done) | (try simp_all (maxDischargeDepth := 30)))
@[simp] theorem State.setIde_fixed (s : State) (fn : Nat) (v : Nat)  :
    (State.setIde s fn v).fixed = s.fixed := by
  unfold State.setIde
  try dsimp only
  try (repeat' split)
  all_goals (first | (simp (maxDischargeDepth := 30); done) | (try simp_all (maxDischargeDepth := 30)))
@[simp] theorem State.ideFail_fixed (s : State) (fn : Nat)  :
    (State.ideFail s fn).fixed = s.fixed := by
  unfold State.ideFail
  try dsimp only
  try (repeat' split)
  all_goals (first | (simp (maxDischargeDepth := 30); done) | (try simp_all (maxDischargeDepth := 30)))

end Sys2Proof.Machine
end

