-- ==== Sys2Proof/Laws/FixedAttest.lean ====
section
/-! SUPPORT. Operations of Attest keep what `State.fixed` reads. -/

namespace Sys2Proof.Machine

@[simp] theorem State.spdmSend_fixed (s : State) (path : Nat) (code : Nat) (body : List Byte)  :
    (State.spdmSend s path code body).fixed = s.fixed := by
  unfold State.spdmSend
  try dsimp only
  try (repeat' split)
  all_goals (first | (simp (maxDischargeDepth := 30); done) | (try simp_all (maxDischargeDepth := 30)))
@[simp] theorem State.spdmSigned_fixed (s : State) (path : Nat) (code : Nat) (req : List Byte) (body : List Byte)  :
    (State.spdmSigned s path code req body).fixed = s.fixed := by
  unfold State.spdmSigned
  try dsimp only
  try (repeat' split)
  all_goals (first | (simp (maxDischargeDepth := 30); done) | (try simp_all (maxDischargeDepth := 30)))
@[simp] theorem State.spdmError_fixed (s : State) (path : Nat) (err : Nat)  :
    (State.spdmError s path err).fixed = s.fixed := by
  unfold State.spdmError
  try dsimp only
  try (repeat' split)
  all_goals (first | (simp (maxDischargeDepth := 30); done) | (try simp_all (maxDischargeDepth := 30)))
@[simp] theorem State.spdmFree_fixed (s : State) (path : Nat) (code : Nat) (req : List Byte)  :
    (State.spdmFree s path code req).fixed = s.fixed := by
  unfold State.spdmFree
  try dsimp only
  try (repeat' split)
  all_goals (first | (simp (maxDischargeDepth := 30); done) | (try simp_all (maxDischargeDepth := 30)))
@[simp] theorem State.spdmCapabilities_fixed (s : State) (path : Nat)  :
    (State.spdmCapabilities s path).fixed = s.fixed := by
  unfold State.spdmCapabilities
  try dsimp only
  try (repeat' split)
  all_goals (first | (simp (maxDischargeDepth := 30); done) | (try simp_all (maxDischargeDepth := 30)))
@[simp] theorem State.setSessions_fixed (s : State) (path : Nat) (o : Nat) (f : Nat)  :
    (State.setSessions s path o f).fixed = s.fixed := by
  unfold State.setSessions
  try dsimp only
  try (repeat' split)
  all_goals (first | (simp (maxDischargeDepth := 30); done) | (try simp_all (maxDischargeDepth := 30)))
@[simp] theorem State.inSession_fixed (s : State) (path : Nat) (act : State → State) (hact : ∀ y1,
    (act y1).fixed = y1.fixed) :
    (State.inSession s path act).fixed = s.fixed := by
  unfold State.inSession
  try dsimp only
  try (repeat' split)
  all_goals (first | (simp (maxDischargeDepth := 30); done) | (try simp_all (maxDischargeDepth := 30)))
@[simp] theorem State.ideKm_fixed (s : State) (x1 : IdeKm)  :
    (State.ideKm s x1).fixed = s.fixed := by
  unfold State.ideKm
  try dsimp only
  try (repeat' split)
  all_goals (first | (simp (maxDischargeDepth := 30); done) | (try simp_all (maxDischargeDepth := 30)))
@[simp] theorem State.mctpSend_fixed (s : State) (cmd : Nat) (cc : Nat) (data : List Byte)  :
    (State.mctpSend s cmd cc data).fixed = s.fixed := by
  unfold State.mctpSend
  try dsimp only
  try (repeat' split)
  all_goals (first | (simp (maxDischargeDepth := 30); done) | (try simp_all (maxDischargeDepth := 30)))

end Sys2Proof.Machine
end

