-- ==== Sys2Proof/Laws/FixedJtag.lean ====
section
/-! SUPPORT. Operations of Jtag keep what `State.fixed` reads. -/

namespace Sys2Proof.Machine

@[simp] theorem State.onTap_fixed (s : State) (f : Jtag → Jtag)  :
    (State.onTap s f).fixed = s.fixed := by
  unfold State.onTap
  try dsimp only
  try (repeat' split)
  all_goals (first | (simp (maxDischargeDepth := 30); done) | (try simp_all (maxDischargeDepth := 30)))

end Sys2Proof.Machine
end

