-- ==== Sys2Proof/Laws/FixedFlags.lean ====
section
/-! SUPPORT. Operations of Flags keep what `State.fixed` reads. -/

namespace Sys2Proof.Machine

@[simp] theorem State.readClear_fixed (s : State) (fn : Nat) (ty : Nat) (inst : Nat) (off : Nat)  :
    (State.readClear s fn ty inst off).fixed = s.fixed := by
  unfold State.readClear
  split
  · simp
  · split <;> (repeat' split) <;> simp
@[simp] theorem State.readReg_fixed (s : State) (fn : Nat) (ty : Nat) (inst : Nat) (off : Nat)  :
    (State.readReg s fn ty inst off).1.fixed = s.fixed := by
  unfold State.readReg
  dsimp only
  (repeat' split) <;> simp_all

end Sys2Proof.Machine
end

