-- ==== Sys2Proof/Laws/FixedRegs.lean ====
section
/-! SUPPORT. Operations of Regs keep what `State.fixed` reads. -/

namespace Sys2Proof.Machine

@[simp] theorem State.enClear_fixed (s : State) (ty : Nat) (inst : Nat)  :
    (State.enClear s ty inst).fixed = s.fixed := by
  unfold State.enClear
  try dsimp only
  try (repeat' split)
  all_goals (first | (simp (maxDischargeDepth := 30); done) | (try simp_all (maxDischargeDepth := 30)))
@[simp] theorem State.enSet_fixed (s : State) (ty : Nat) (inst : Nat)  :
    (State.enSet s ty inst).fixed = s.fixed := by
  unfold State.enSet
  try dsimp only
  try (repeat' split)
  all_goals (first | (simp (maxDischargeDepth := 30); done) | (try simp_all (maxDischargeDepth := 30)))
@[simp] theorem State.resetPart_fixed (s : State) (r : Nat) (st : Nat)  :
    (State.resetPart s r st).fixed = s.fixed := by
  unfold State.resetPart
  try dsimp only
  try (repeat' split)
  all_goals (first | (simp (maxDischargeDepth := 30); done) | (try simp_all (maxDischargeDepth := 30)))
@[simp] theorem State.resetFcu_fixed (s : State) (r : Nat)  :
    (State.resetFcu s r).fixed = s.fixed := by
  unfold State.resetFcu
  try dsimp only
  try (repeat' split)
  all_goals (first | (simp (maxDischargeDepth := 30); done) | (try simp_all (maxDischargeDepth := 30)))
@[simp] theorem State.resetRegs_fixed (s : State) (ty : Nat) (inst : Nat)  :
    (State.resetRegs s ty inst).fixed = s.fixed := by
  unfold State.resetRegs
  try dsimp only
  try (repeat' split)
  all_goals (first | (simp (maxDischargeDepth := 30); done) | (try simp_all (maxDischargeDepth := 30)))
@[simp] theorem State.softReset_fixed (s : State) (ty : Nat) (inst : Nat)  :
    (State.softReset s ty inst).fixed = s.fixed := by
  unfold State.softReset
  try dsimp only
  try (repeat' split)
  all_goals (first | (simp (maxDischargeDepth := 30); done) | (try simp_all (maxDischargeDepth := 30)))
@[simp] theorem State.wBlkCtrl_fixed (s : State) (fn : Nat) (ty : Nat) (inst : Nat) (val : Nat)  :
    (State.wBlkCtrl s fn ty inst val).fixed = s.fixed := by
  unfold State.wBlkCtrl
  try dsimp only
  try (repeat' split)
  all_goals (first | (simp (maxDischargeDepth := 30); done) | (try simp_all (maxDischargeDepth := 30)))
@[simp] theorem State.softResetDone_fixed (s : State) (ty : Nat) (inst : Nat)  :
    (State.softResetDone s ty inst).fixed = s.fixed := by
  unfold State.softResetDone
  try dsimp only
  try (repeat' split)
  all_goals (first | (simp (maxDischargeDepth := 30); done) | (try simp_all (maxDischargeDepth := 30)))
@[simp] theorem State.wIrqStatus_fixed (s : State) (ty : Nat) (inst : Nat) (val : Nat)  :
    (State.wIrqStatus s ty inst val).fixed = s.fixed := by
  unfold State.wIrqStatus
  try dsimp only
  try (repeat' split)
  all_goals (first | (simp (maxDischargeDepth := 30); done) | (try simp_all (maxDischargeDepth := 30)))
@[simp] theorem State.wIrqEnable_fixed (s : State) (ty : Nat) (inst : Nat) (val : Nat)  :
    (State.wIrqEnable s ty inst val).fixed = s.fixed := by
  unfold State.wIrqEnable
  try dsimp only
  try (repeat' split)
  all_goals (first | (simp (maxDischargeDepth := 30); done) | (try simp_all (maxDischargeDepth := 30)))
@[simp] theorem State.wIrqSet_fixed (s : State) (ty : Nat) (inst : Nat) (val : Nat)  :
    (State.wIrqSet s ty inst val).fixed = s.fixed := by
  unfold State.wIrqSet
  try dsimp only
  try (repeat' split)
  all_goals (first | (simp (maxDischargeDepth := 30); done) | (try simp_all (maxDischargeDepth := 30)))
@[simp] theorem State.wPQueue_fixed (s : State) (fn : Nat) (r : Nat) (st : Nat) (val : Nat)  :
    (State.wPQueue s fn r st val).fixed = s.fixed := by
  unfold State.wPQueue
  try dsimp only
  try (repeat' split)
  all_goals (first | (simp (maxDischargeDepth := 30); done) | (try simp_all (maxDischargeDepth := 30)))
@[simp] theorem State.wScrambleBase_fixed (s : State) (fn : Nat) (r : Nat) (val : Nat)  :
    (State.wScrambleBase s fn r val).fixed = s.fixed := by
  unfold State.wScrambleBase
  try dsimp only
  try (repeat' split)
  all_goals (first | (simp (maxDischargeDepth := 30); done) | (try simp_all (maxDischargeDepth := 30)))
@[simp] theorem State.wPeStatus_fixed (s : State) (ch : Nat) (val : Nat)  :
    (State.wPeStatus s ch val).fixed = s.fixed := by
  unfold State.wPeStatus
  try dsimp only
  try (repeat' split)
  all_goals (first | (simp (maxDischargeDepth := 30); done) | (try simp_all (maxDischargeDepth := 30)))
@[simp] theorem State.wTamperStatus_fixed (s : State) (val : Nat)  :
    (State.wTamperStatus s val).fixed = s.fixed := by
  unfold State.wTamperStatus
  try dsimp only
  try (repeat' split)
  all_goals (first | (simp (maxDischargeDepth := 30); done) | (try simp_all (maxDischargeDepth := 30)))
@[simp] theorem State.wDescSel_fixed (s : State) (fn : Nat) (val : Nat)  :
    (State.wDescSel s fn val).fixed = s.fixed := by
  unfold State.wDescSel
  try dsimp only
  try (repeat' split)
  all_goals (first | (simp (maxDischargeDepth := 30); done) | (try simp_all (maxDischargeDepth := 30)))
@[simp] theorem State.wDesc_fixed (s : State) (fn : Nat) (k : Nat) (val : Nat)  :
    (State.wDesc s fn k val).fixed = s.fixed := by
  unfold State.wDesc
  try dsimp only
  try (repeat' split)
  all_goals (first | (simp (maxDischargeDepth := 30); done) | (try simp_all (maxDischargeDepth := 30)))
@[simp] theorem State.wDescCmd_fixed (s : State) (fn : Nat) (val : Nat)  :
    (State.wDescCmd s fn val).fixed = s.fixed := by
  unfold State.wDescCmd
  try dsimp only
  try (repeat' split)
  all_goals (first | (simp (maxDischargeDepth := 30); done) | (try simp_all (maxDischargeDepth := 30)))
@[simp] theorem State.writeGlb_fixed (s : State) (fn : Nat) (off : Nat) (val : Nat)  :
    (State.writeGlb s fn off val).fixed = s.fixed := by
  unfold State.writeGlb
  try dsimp only
  try (repeat' split)
  all_goals (first | (simp (maxDischargeDepth := 30); done) | (try simp_all (maxDischargeDepth := 30)))
@[simp] theorem State.writeSync_fixed (s : State) (fn : Nat) (off : Nat) (val : Nat)  :
    (State.writeSync s fn off val).fixed = s.fixed := by
  unfold State.writeSync
  try dsimp only
  try (repeat' split)
  all_goals (first | (simp (maxDischargeDepth := 30); done) | (try simp_all (maxDischargeDepth := 30)))
@[simp] theorem State.writeSec_fixed (s : State) (fn : Nat) (off : Nat) (val : Nat)  :
    (State.writeSec s fn off val).fixed = s.fixed := by
  unfold State.writeSec
  try dsimp only
  try (repeat' split)
  all_goals (first | (simp (maxDischargeDepth := 30); done) | (try simp_all (maxDischargeDepth := 30)))
@[simp] theorem State.writeSite_fixed (s : State) (fn : Nat) (st : Nat) (off : Nat) (val : Nat)  :
    (State.writeSite s fn st off val).fixed = s.fixed := by
  unfold State.writeSite
  try dsimp only
  try (repeat' split)
  all_goals (first | (simp (maxDischargeDepth := 30); done) | (try simp_all (maxDischargeDepth := 30)))
@[simp] theorem State.writeQmgr_fixed (s : State) (fn : Nat) (off : Nat) (val : Nat)  :
    (State.writeQmgr s fn off val).fixed = s.fixed := by
  unfold State.writeQmgr
  try dsimp only
  try (repeat' split)
  all_goals (first | (simp (maxDischargeDepth := 30); done) | (try simp_all (maxDischargeDepth := 30)))
@[simp] theorem State.writeTg_fixed (s : State) (fn : Nat) (ch : Nat) (off : Nat) (val : Nat)  :
    (State.writeTg s fn ch off val).fixed = s.fixed := by
  unfold State.writeTg
  try dsimp only
  try (repeat' split)
  all_goals (first | (simp (maxDischargeDepth := 30); done) | (try simp_all (maxDischargeDepth := 30)))
@[simp] theorem State.writeCmp_fixed (s : State) (fn : Nat) (ch : Nat) (off : Nat) (val : Nat)  :
    (State.writeCmp s fn ch off val).fixed = s.fixed := by
  unfold State.writeCmp
  try dsimp only
  try (repeat' split)
  all_goals (first | (simp (maxDischargeDepth := 30); done) | (try simp_all (maxDischargeDepth := 30)))
@[simp] theorem State.writePe_fixed (s : State) (fn : Nat) (ch : Nat) (off : Nat) (val : Nat)  :
    (State.writePe s fn ch off val).fixed = s.fixed := by
  unfold State.writePe
  try dsimp only
  try (repeat' split)
  all_goals (first | (simp (maxDischargeDepth := 30); done) | (try simp_all (maxDischargeDepth := 30)))
@[simp] theorem State.writeLvl_fixed (s : State) (fn : Nat) (ch : Nat) (off : Nat) (val : Nat)  :
    (State.writeLvl s fn ch off val).fixed = s.fixed := by
  unfold State.writeLvl
  try dsimp only
  try (repeat' split)
  all_goals (first | (simp (maxDischargeDepth := 30); done) | (try simp_all (maxDischargeDepth := 30)))
@[simp] theorem State.writeMadc_fixed (s : State) (fn : Nat) (k : Nat) (off : Nat) (val : Nat)  :
    (State.writeMadc s fn k off val).fixed = s.fixed := by
  unfold State.writeMadc
  try dsimp only
  try (repeat' split)
  all_goals (first | (simp (maxDischargeDepth := 30); done) | (try simp_all (maxDischargeDepth := 30)))
@[simp] theorem State.writeAcq_fixed (s : State) (fn : Nat) (k : Nat) (off : Nat) (val : Nat)  :
    (State.writeAcq s fn k off val).fixed = s.fixed := by
  unfold State.writeAcq
  try dsimp only
  try (repeat' split)
  all_goals (first | (simp (maxDischargeDepth := 30); done) | (try simp_all (maxDischargeDepth := 30)))
@[simp] theorem State.writeHist_fixed (s : State) (fn : Nat) (k : Nat) (off : Nat) (val : Nat)  :
    (State.writeHist s fn k off val).fixed = s.fixed := by
  unfold State.writeHist
  try dsimp only
  try (repeat' split)
  all_goals (first | (simp (maxDischargeDepth := 30); done) | (try simp_all (maxDischargeDepth := 30)))
@[simp] theorem State.writeFcu_fixed (s : State) (fn : Nat) (r : Nat) (off : Nat) (val : Nat)  :
    (State.writeFcu s fn r off val).fixed = s.fixed := by
  unfold State.writeFcu
  try dsimp only
  try (repeat' split)
  all_goals (first | (simp (maxDischargeDepth := 30); done) | (try simp_all (maxDischargeDepth := 30)))
@[simp] theorem State.writeReg_fixed (s : State) (fn : Nat) (ty : Nat) (inst : Nat) (off : Nat) (val : Nat)  :
    (State.writeReg s fn ty inst off val).fixed = s.fixed := by
  unfold State.writeReg
  try dsimp only
  try (repeat' split)
  all_goals (first | (simp (maxDischargeDepth := 30); done) | (try simp_all (maxDischargeDepth := 30)))
@[simp] theorem State.regWrite_fixed (s : State) (fn : Nat) (ty : Nat) (inst : Nat) (off : Nat) (val : Nat)  :
    (State.regWrite s fn ty inst off val).fixed = s.fixed := by
  unfold State.regWrite
  try dsimp only
  try (repeat' split)
  all_goals (first | (simp (maxDischargeDepth := 30); done) | (try simp_all (maxDischargeDepth := 30)))
@[simp] theorem State.broadcast_fixed (s : State) (fn : Nat) (ty : Nat) (inst : Nat) (off : Nat) (val : Nat)  :
    (State.broadcast s fn ty inst off val).fixed = s.fixed := by
  unfold State.broadcast
  try dsimp only
  try (repeat' split)
  all_goals (first | (simp (maxDischargeDepth := 30); done) | (try simp_all (maxDischargeDepth := 30)))
@[simp] theorem State.badWidth_fixed (s : State) (fn : Nat) (a : Nat) (write : Bool)  :
    (State.badWidth s fn a write).fixed = s.fixed := by
  unfold State.badWidth
  try dsimp only
  try (repeat' split)
  all_goals (first | (simp (maxDischargeDepth := 30); done) | (try simp_all (maxDischargeDepth := 30)))
@[simp] theorem State.wordWrite_fixed (s : State) (fn : Nat) (a : Nat) (val : Nat)  :
    (State.wordWrite s fn a val).fixed = s.fixed := by
  unfold State.wordWrite
  try dsimp only
  try (repeat' split)
  all_goals (first | (simp (maxDischargeDepth := 30); done) | (try simp_all (maxDischargeDepth := 30)))
@[simp] theorem State.winWrite_fixed (s : State) (fn : Nat) (a : Nat) (be : Nat) (val : Nat)  :
    (State.winWrite s fn a be val).fixed = s.fixed := by
  unfold State.winWrite
  try dsimp only
  try (repeat' split)
  all_goals (first | (simp (maxDischargeDepth := 30); done) | (try simp_all (maxDischargeDepth := 30)))
@[simp] theorem State.wordRead_fixed (s : State) (fn : Nat) (a : Nat)  :
    (State.wordRead s fn a).fixed = s.fixed := by
  unfold State.wordRead
  try dsimp only
  try (repeat' split)
  all_goals (first | (simp (maxDischargeDepth := 30); done) | (try simp_all (maxDischargeDepth := 30)))
@[simp] theorem State.winRead_fixed (s : State) (fn : Nat) (a : Nat) (be : Nat)  :
    (State.winRead s fn a be).fixed = s.fixed := by
  unfold State.winRead
  try dsimp only
  try (repeat' split)
  all_goals (first | (simp (maxDischargeDepth := 30); done) | (try simp_all (maxDischargeDepth := 30)))

end Sys2Proof.Machine
end

