-- ==== Sys2Proof/Laws/FixedMailbox.lean ====
section
/-! SUPPORT. Operations of Mailbox keep what `State.fixed` reads, one law each. -/

namespace Sys2Proof.Machine

@[simp] theorem State.doeServe_fixed (s : State) (d : Doe)  :
    (State.doeServe s d).fixed = s.fixed := by
  unfold State.doeServe
  try dsimp only
  try (repeat' split)
  all_goals (first | (simp (maxDischargeDepth := 30); done) | (try simp_all (maxDischargeDepth := 30)))
@[simp] theorem State.loadResume_fixed (s : State) (d : Doe)  :
    (State.loadResume s d).fixed = s.fixed := by
  unfold State.loadResume
  try dsimp only
  try (repeat' split)
  all_goals (first | (simp (maxDischargeDepth := 30); done) | (try simp_all (maxDischargeDepth := 30)))
@[simp] theorem State.doeResume_fixed (s : State) (d : Doe)  :
    (State.doeResume s d).fixed = s.fixed := by
  unfold State.doeResume
  try dsimp only
  try (repeat' split)
  all_goals (first | (simp (maxDischargeDepth := 30); done) | (try simp_all (maxDischargeDepth := 30)))
@[simp] theorem State.doeNext_fixed (s : State)  :
    (State.doeNext s).fixed = s.fixed := by
  unfold State.doeNext
  try dsimp only
  try (repeat' split)
  all_goals (first | (simp (maxDischargeDepth := 30); done) | (try simp_all (maxDischargeDepth := 30)))

end Sys2Proof.Machine
end

