-- ==== Sys2Proof/Laws/FixedExec1.lean ====
section
/-! SUPPORT. Commands keep what `State.fixed` reads, one law each. -/

namespace Sys2Proof.Machine

theorem fixed_of_onUnit {b : Bool} {s u t : State} (h : onUnit b u = .next t) (hu : u.fixed = s.fixed) :
    t.fixed = s.fixed := by
  cases b <;> simp [onUnit] at h; subst h; exact hu

theorem fixed_of_next {s u t : State} (h : (.next u : Host.Outcome State Fault Refusal) = .next t)
    (hu : u.fixed = s.fixed) : t.fixed = s.fixed := by
  cases h; exact hu

theorem State.onSpdm_fixed (path : Nat) (early : Bool) (act : State → State) (s : State) {t : State}
    (ha : ∀ u, (act u).fixed = u.fixed) (h : s.onSpdm path early act = .next t) : t.fixed = s.fixed := by
  unfold State.onSpdm at h
  refine fixed_of_onUnit h ?_
  split
  · exact ha _
  · rfl

theorem execDoorbellTail_fixed (fn : Nat) (q : Nat) (index : Nat) (s : State) {t : State}
    (h : execDoorbellTail fn q index s = .next t) : t.fixed = s.fixed := by
  unfold execDoorbellTail at h
  refine fixed_of_onUnit h ?_
  clear h
  try dsimp only
  try (repeat' split)
  all_goals (first | (simp (maxDischargeDepth := 30); done) | (try simp_all (maxDischargeDepth := 30)))
theorem execDoorbellHead_fixed (fn : Nat) (q : Nat) (index : Nat) (s : State) {t : State}
    (h : execDoorbellHead fn q index s = .next t) : t.fixed = s.fixed := by
  unfold execDoorbellHead at h
  refine fixed_of_onUnit h ?_
  clear h
  try dsimp only
  try (repeat' split)
  all_goals (first | (simp (maxDischargeDepth := 30); done) | (try simp_all (maxDischargeDepth := 30)))
theorem execDoorbellRelease_fixed (fn : Nat) (db : Nat) (s : State) {t : State}
    (h : execDoorbellRelease fn db s = .next t) : t.fixed = s.fixed := by
  unfold execDoorbellRelease at h
  refine fixed_of_onUnit h ?_
  clear h
  try dsimp only
  try (repeat' split)
  all_goals (first | (simp (maxDischargeDepth := 30); done) | (try simp_all (maxDischargeDepth := 30)))
theorem execPushSelWrite_fixed (fn : Nat) (a : BarAccess) (s : State) {t : State}
    (h : execPushSelWrite fn a s = .next t) : t.fixed = s.fixed := by
  unfold execPushSelWrite at h
  refine fixed_of_onUnit h ?_
  clear h
  try dsimp only
  try (repeat' split)
  all_goals (first | (simp (maxDischargeDepth := 30); done) | (try simp_all (maxDischargeDepth := 30)))
theorem execPushWrite_fixed (fn : Nat) (off : Nat) (data : List Byte) (s : State) {t : State}
    (h : execPushWrite fn off data s = .next t) : t.fixed = s.fixed := by
  unfold execPushWrite at h
  refine fixed_of_onUnit h ?_
  clear h
  try dsimp only
  try (repeat' split)
  all_goals (first | (simp (maxDischargeDepth := 30); done) | (try simp_all (maxDischargeDepth := 30)))
theorem execDescRead_fixed (fn : Nat) (s : State) {t : State}
    (h : execDescRead fn s = .next t) : t.fixed = s.fixed := by
  unfold execDescRead at h
  refine fixed_of_onUnit h ?_
  clear h
  try dsimp only
  try (repeat' split)
  all_goals (first | (simp (maxDischargeDepth := 30); done) | (try simp_all (maxDischargeDepth := 30)))
theorem execDescWrite_fixed (fn : Nat) (s : State) {t : State}
    (h : execDescWrite fn s = .next t) : t.fixed = s.fixed := by
  unfold execDescWrite at h
  refine fixed_of_onUnit h ?_
  clear h
  try dsimp only
  try (repeat' split)
  all_goals (first | (simp (maxDischargeDepth := 30); done) | (try simp_all (maxDischargeDepth := 30)))
theorem execHeldCompletionPost_fixed (fn : Nat) (s : State) {t : State}
    (h : execHeldCompletionPost fn s = .next t) : t.fixed = s.fixed := by
  unfold execHeldCompletionPost at h
  refine fixed_of_onUnit h ?_
  clear h
  try dsimp only
  try (repeat' split)
  all_goals (first | (simp (maxDischargeDepth := 30); done) | (try simp_all (maxDischargeDepth := 30)))
theorem execLogLostEntry_fixed (st : Nat) (s : State) {t : State}
    (h : execLogLostEntry st s = .next t) : t.fixed = s.fixed := by
  unfold execLogLostEntry at h
  refine fixed_of_onUnit h ?_
  clear h
  try dsimp only
  try (repeat' split)
  all_goals (first | (simp (maxDischargeDepth := 30); done) | (try simp_all (maxDischargeDepth := 30)))
theorem execPeCtrlWrite_fixed (fn : Nat) (ch : Nat) (val : Nat) (s : State) {t : State}
    (h : execPeCtrlWrite fn ch val s = .next t) : t.fixed = s.fixed := by
  unfold execPeCtrlWrite at h
  refine fixed_of_onUnit h ?_
  clear h
  try dsimp only
  try (repeat' split)
  all_goals (first | (simp (maxDischargeDepth := 30); done) | (try simp_all (maxDischargeDepth := 30)))
theorem execDriverRangeDone_fixed (ch : Nat) (s : State) {t : State}
    (h : execDriverRangeDone ch s = .next t) : t.fixed = s.fixed := by
  unfold execDriverRangeDone at h
  refine fixed_of_onUnit h ?_
  clear h
  try dsimp only
  try (repeat' split)
  all_goals (first | (simp (maxDischargeDepth := 30); done) | (try simp_all (maxDischargeDepth := 30)))
theorem execPePmuCtrlWrite_fixed (fn : Nat) (ch : Nat) (val : Nat) (s : State) {t : State}
    (h : execPePmuCtrlWrite fn ch val s = .next t) : t.fixed = s.fixed := by
  unfold execPePmuCtrlWrite at h
  refine fixed_of_onUnit h ?_
  clear h
  try dsimp only
  try (repeat' split)
  all_goals (first | (simp (maxDischargeDepth := 30); done) | (try simp_all (maxDischargeDepth := 30)))
theorem execPePmuRangeWrite_fixed (fn : Nat) (ch : Nat) (val : Nat) (s : State) {t : State}
    (h : execPePmuRangeWrite fn ch val s = .next t) : t.fixed = s.fixed := by
  unfold execPePmuRangeWrite at h
  refine fixed_of_onUnit h ?_
  clear h
  try dsimp only
  try (repeat' split)
  all_goals (first | (simp (maxDischargeDepth := 30); done) | (try simp_all (maxDischargeDepth := 30)))
theorem execPmuOldStageOpen_fixed (ch : Nat) (s : State) {t : State}
    (h : execPmuOldStageOpen ch s = .next t) : t.fixed = s.fixed := by
  unfold execPmuOldStageOpen at h
  refine fixed_of_onUnit h ?_
  clear h
  try dsimp only
  try (repeat' split)
  all_goals (first | (simp (maxDischargeDepth := 30); done) | (try simp_all (maxDischargeDepth := 30)))
theorem execPmuRangeDone_fixed (ch : Nat) (s : State) {t : State}
    (h : execPmuRangeDone ch s = .next t) : t.fixed = s.fixed := by
  unfold execPmuRangeDone at h
  refine fixed_of_onUnit h ?_
  clear h
  try dsimp only
  try (repeat' split)
  all_goals (first | (simp (maxDischargeDepth := 30); done) | (try simp_all (maxDischargeDepth := 30)))
theorem execPmuSenseFallback_fixed (ch : Nat) (s : State) {t : State}
    (h : execPmuSenseFallback ch s = .next t) : t.fixed = s.fixed := by
  unfold execPmuSenseFallback at h
  refine fixed_of_onUnit h ?_
  clear h
  try dsimp only
  try (repeat' split)
  all_goals (first | (simp (maxDischargeDepth := 30); done) | (try simp_all (maxDischargeDepth := 30)))
theorem execPmuCompliance_fixed (ch : Nat) (x : Int) (s : State) {t : State}
    (h : execPmuCompliance ch x s = .next t) : t.fixed = s.fixed := by
  unfold execPmuCompliance at h
  refine fixed_of_onUnit h ?_
  clear h
  try dsimp only
  try (repeat' split)
  all_goals (first | (simp (maxDischargeDepth := 30); done) | (try simp_all (maxDischargeDepth := 30)))
theorem execClampConduct_fixed (ch : Nat) (high : Bool) (on : Bool) (s : State) {t : State}
    (h : execClampConduct ch high on s = .next t) : t.fixed = s.fixed := by
  unfold execClampConduct at h
  refine fixed_of_onUnit h ?_
  clear h
  try dsimp only
  try (repeat' split)
  all_goals (first | (simp (maxDischargeDepth := 30); done) | (try simp_all (maxDischargeDepth := 30)))
theorem execProtClampConduct_fixed (ch : Nat) (high : Bool) (s : State) {t : State}
    (h : execProtClampConduct ch high s = .next t) : t.fixed = s.fixed := by
  unfold execProtClampConduct at h
  refine fixed_of_onUnit h ?_
  clear h
  try dsimp only
  try (repeat' split)
  all_goals (first | (simp (maxDischargeDepth := 30); done) | (try simp_all (maxDischargeDepth := 30)))
theorem execContactTestStart_fixed (fn : Nat) (ch : Nat) (pol : Nat) (cur : Nat) (s : State) {t : State}
    (h : execContactTestStart fn ch pol cur s = .next t) : t.fixed = s.fixed := by
  unfold execContactTestStart at h
  refine fixed_of_onUnit h ?_
  clear h
  try dsimp only
  try (repeat' split)
  all_goals (first | (simp (maxDischargeDepth := 30); done) | (try simp_all (maxDischargeDepth := 30)))
theorem execContactTestDone_fixed (ch : Nat) (mv : Int) (s : State) {t : State}
    (h : execContactTestDone ch mv s = .next t) : t.fixed = s.fixed := by
  unfold execContactTestDone at h
  refine fixed_of_onUnit h ?_
  clear h
  try dsimp only
  try (repeat' split)
  all_goals (first | (simp (maxDischargeDepth := 30); done) | (try simp_all (maxDischargeDepth := 30)))
theorem execLvlDacWrite_fixed (fn : Nat) (ch : Nat) (d : Nat) (val : Nat) (s : State) {t : State}
    (h : execLvlDacWrite fn ch d val s = .next t) : t.fixed = s.fixed := by
  unfold execLvlDacWrite at h
  refine fixed_of_onUnit h ?_
  clear h
  try dsimp only
  try (repeat' split)
  all_goals (first | (simp (maxDischargeDepth := 30); done) | (try simp_all (maxDischargeDepth := 30)))
theorem execLvlQueuePush_fixed (fn : Nat) (ch : Nat) (val : Nat) (s : State) {t : State}
    (h : execLvlQueuePush fn ch val s = .next t) : t.fixed = s.fixed := by
  unfold execLvlQueuePush at h
  refine fixed_of_onUnit h ?_
  clear h
  try dsimp only
  try (repeat' split)
  all_goals (first | (simp (maxDischargeDepth := 30); done) | (try simp_all (maxDischargeDepth := 30)))
theorem execLvlQueueFlush_fixed (fn : Nat) (ch : Nat) (s : State) {t : State}
    (h : execLvlQueueFlush fn ch s = .next t) : t.fixed = s.fixed := by
  unfold execLvlQueueFlush at h
  refine fixed_of_onUnit h ?_
  clear h
  try dsimp only
  try (repeat' split)
  all_goals (first | (simp (maxDischargeDepth := 30); done) | (try simp_all (maxDischargeDepth := 30)))
theorem execLvlEntryArrive_fixed (ch : Nat) (s : State) {t : State}
    (h : execLvlEntryArrive ch s = .next t) : t.fixed = s.fixed := by
  unfold execLvlEntryArrive at h
  refine fixed_of_onUnit h ?_
  clear h
  try dsimp only
  try (repeat' split)
  all_goals (first | (simp (maxDischargeDepth := 30); done) | (try simp_all (maxDischargeDepth := 30)))
theorem execTgPeriodCommit_fixed (fn : Nat) (ch : Nat) (val : Nat) (s : State) {t : State}
    (h : execTgPeriodCommit fn ch val s = .next t) : t.fixed = s.fixed := by
  unfold execTgPeriodCommit at h
  refine fixed_of_onUnit h ?_
  clear h
  try dsimp only
  try (repeat' split)
  all_goals (first | (simp (maxDischargeDepth := 30); done) | (try simp_all (maxDischargeDepth := 30)))
theorem execTgSymmapCommit_fixed (fn : Nat) (ch : Nat) (val : Nat) (s : State) {t : State}
    (h : execTgSymmapCommit fn ch val s = .next t) : t.fixed = s.fixed := by
  unfold execTgSymmapCommit at h
  refine fixed_of_onUnit h ?_
  clear h
  try dsimp only
  try (repeat' split)
  all_goals (first | (simp (maxDischargeDepth := 30); done) | (try simp_all (maxDischargeDepth := 30)))
theorem execTimesetWrite_fixed (fn ch k edge val : Nat) (s : State) {t : State}
    (h : execTimesetWrite fn ch k edge val s = .next t) : t.fixed = s.fixed := by
  unfold execTimesetWrite at h
  unfold onUnit at h
  split at h
  · split at h
    · simp at h; subst h; simp
    · simp at h; subst h; simp
  · cases h
theorem execFreerunStart_fixed (fn : Nat) (ch : Nat) (ts : Nat) (sym : Nat) (s : State) {t : State}
    (h : execFreerunStart fn ch ts sym s = .next t) : t.fixed = s.fixed := by
  unfold execFreerunStart at h
  refine fixed_of_onUnit h ?_
  clear h
  try dsimp only
  try (repeat' split)
  all_goals (first | (simp (maxDischargeDepth := 30); done) | (try simp_all (maxDischargeDepth := 30)))
theorem execFreerunStop_fixed (fn : Nat) (ch : Nat) (ts : Nat) (sym : Nat) (s : State) {t : State}
    (h : execFreerunStop fn ch ts sym s = .next t) : t.fixed = s.fixed := by
  unfold execFreerunStop at h
  refine fixed_of_onUnit h ?_
  clear h
  try dsimp only
  try (repeat' split)
  all_goals (first | (simp (maxDischargeDepth := 30); done) | (try simp_all (maxDischargeDepth := 30)))
theorem execUiStart_fixed (ch : Nat) (s : State) {t : State}
    (h : execUiStart ch s = .next t) : t.fixed = s.fixed := by
  unfold execUiStart at h
  refine fixed_of_onUnit h ?_
  clear h
  try dsimp only
  try (repeat' split)
  all_goals (first | (simp (maxDischargeDepth := 30); done) | (try simp_all (maxDischargeDepth := 30)))
theorem execEdgeApply_fixed (ch : Nat) (s : State) {t : State}
    (h : execEdgeApply ch s = .next t) : t.fixed = s.fixed := by
  unfold execEdgeApply at h
  refine fixed_of_onUnit h ?_
  clear h
  try dsimp only
  try (repeat' split)
  all_goals (first | (simp (maxDischargeDepth := 30); done) | (try simp_all (maxDischargeDepth := 30)))
theorem execBlockArrive_fixed (ch : Nat) (s : State) {t : State}
    (h : execBlockArrive ch s = .next t) : t.fixed = s.fixed := by
  unfold execBlockArrive at h
  refine fixed_of_onUnit h ?_
  clear h
  split
  · rfl
  · exact (State.takeBlock_fixed _ _ _).trans ((when_fixed _ _ _
      (fun t => when_fixed _ _ _ (fun u => State.histFeed_fixed _ _ _ _))).trans (by simp))
theorem execBlockRelease_fixed (ch : Nat) (s : State) {t : State}
    (h : execBlockRelease ch s = .next t) : t.fixed = s.fixed := by
  unfold execBlockRelease at h
  refine fixed_of_onUnit h ?_
  clear h
  try dsimp only
  try (repeat' split)
  all_goals (first | (simp (maxDischargeDepth := 30); done) | (try simp_all (maxDischargeDepth := 30)))
theorem execCompareEvent_fixed (ch : Nat) (s : State) {t : State}
    (h : execCompareEvent ch s = .next t) : t.fixed = s.fixed := by
  unfold execCompareEvent at h
  refine fixed_of_onUnit h ?_
  clear h
  try dsimp only
  try (repeat' split)
  all_goals (first | (simp (maxDischargeDepth := 30); done) | (try simp_all (maxDischargeDepth := 30)))
theorem execFcuPSizeWrite_fixed (fn : Nat) (r : Nat) (st : Nat) (val : Nat) (s : State) {t : State}
    (h : execFcuPSizeWrite fn r st val s = .next t) : t.fixed = s.fixed := by
  unfold execFcuPSizeWrite at h
  refine fixed_of_onUnit h ?_
  clear h
  try dsimp only
  try (repeat' split)
  all_goals (first | (simp (maxDischargeDepth := 30); done) | (try simp_all (maxDischargeDepth := 30)))
theorem execFcuPCtrlWrite_fixed (fn : Nat) (r : Nat) (st : Nat) (val : Nat) (s : State) {t : State}
    (h : execFcuPCtrlWrite fn r st val s = .next t) : t.fixed = s.fixed := by
  unfold execFcuPCtrlWrite at h
  refine fixed_of_onUnit h ?_
  clear h
  try dsimp only
  try (repeat' split)
  all_goals (first | (simp (maxDischargeDepth := 30); done) | (try simp_all (maxDischargeDepth := 30)))
theorem execBurstRunEntry_fixed (st : Nat) (s : State) {t : State}
    (h : execBurstRunEntry st s = .next t) : t.fixed = s.fixed := by
  unfold execBurstRunEntry at h
  refine fixed_of_onUnit h ?_
  clear h
  try dsimp only
  try (repeat' split)
  all_goals (first | (simp (maxDischargeDepth := 30); done) | (try simp_all (maxDischargeDepth := 30)))
theorem execBurstDrainEntry_fixed (st : Nat) (s : State) {t : State}
    (h : execBurstDrainEntry st s = .next t) : t.fixed = s.fixed := by
  unfold execBurstDrainEntry at h
  refine fixed_of_onUnit h ?_
  clear h
  try dsimp only
  try (repeat' split)
  all_goals (first | (simp (maxDischargeDepth := 30); done) | (try simp_all (maxDischargeDepth := 30)))
theorem execStopDrainEntry_fixed (st : Nat) (s : State) {t : State}
    (h : execStopDrainEntry st s = .next t) : t.fixed = s.fixed := by
  unfold execStopDrainEntry at h
  refine fixed_of_onUnit h ?_
  clear h
  try dsimp only
  try (repeat' split)
  all_goals (first | (simp (maxDischargeDepth := 30); done) | (try simp_all (maxDischargeDepth := 30)))
theorem execBurstIdleEntry_fixed (st : Nat) (s : State) {t : State}
    (h : execBurstIdleEntry st s = .next t) : t.fixed = s.fixed := by
  unfold execBurstIdleEntry at h
  refine fixed_of_onUnit h ?_
  clear h
  try dsimp only
  try (repeat' split)
  all_goals (first | (simp (maxDischargeDepth := 30); done) | (try simp_all (maxDischargeDepth := 30)))
theorem execFcuRecordClose_fixed (r : Nat) (segId : Nat) (seq : Nat) (s : State) {t : State}
    (h : execFcuRecordClose r segId seq s = .next t) : t.fixed = s.fixed := by
  unfold execFcuRecordClose at h
  refine fixed_of_onUnit h ?_
  clear h
  try dsimp only
  try (repeat' split)
  all_goals (first | (simp (maxDischargeDepth := 30); done) | (try simp_all (maxDischargeDepth := 30)))
theorem execFcuRecordMove_fixed (r st : Nat) (s : State) {t : State}
    (h : execFcuRecordMove r st s = .next t) : t.fixed = s.fixed := by
  unfold execFcuRecordMove at h
  refine fixed_of_onUnit h (State.moveRecord_fixed _ _ _ _ (fun u q rec => ?_))
  split <;> simp
theorem execMadcStart_fixed (fn : Nat) (k : Nat) (s : State) {t : State}
    (h : execMadcStart fn k s = .next t) : t.fixed = s.fixed := by
  unfold execMadcStart at h
  refine fixed_of_onUnit h ?_
  clear h
  try dsimp only
  try (repeat' split)
  all_goals (first | (simp (maxDischargeDepth := 30); done) | (try simp_all (maxDischargeDepth := 30)))
theorem execMadcRunStart_fixed (fn : Nat) (k : Nat) (spare : Nat) (mon : Nat) (s : State) {t : State}
    (h : execMadcRunStart fn k spare mon s = .next t) : t.fixed = s.fixed := by
  unfold execMadcRunStart at h
  refine fixed_of_onUnit h ?_
  clear h
  try dsimp only
  try (repeat' split)
  all_goals (first | (simp (maxDischargeDepth := 30); done) | (try simp_all (maxDischargeDepth := 30)))
theorem execMadcRunStop_fixed (fn : Nat) (k : Nat) (spare : Nat) (mon : Nat) (s : State) {t : State}
    (h : execMadcRunStop fn k spare mon s = .next t) : t.fixed = s.fixed := by
  unfold execMadcRunStop at h
  refine fixed_of_onUnit h ?_
  clear h
  try dsimp only
  try (repeat' split)
  all_goals (first | (simp (maxDischargeDepth := 30); done) | (try simp_all (maxDischargeDepth := 30)))
theorem execMadcPeriodicTrigger_fixed (k : Nat) (s : State) {t : State}
    (h : execMadcPeriodicTrigger k s = .next t) : t.fixed = s.fixed := by
  unfold execMadcPeriodicTrigger at h
  refine fixed_of_onUnit h ?_
  clear h
  try dsimp only
  try (repeat' split)
  all_goals (first | (simp (maxDischargeDepth := 30); done) | (try simp_all (maxDischargeDepth := 30)))
theorem execMadcRecordMove_fixed (k : Nat) (s : State) {t : State}
    (h : execMadcRecordMove k s = .next t) : t.fixed = s.fixed := by
  unfold execMadcRecordMove at h
  refine fixed_of_onUnit h ?_
  clear h
  try dsimp only
  try (repeat' split)
  all_goals (first | (simp (maxDischargeDepth := 30); done) | (try simp_all (maxDischargeDepth := 30)))
theorem execAcqRecordArrive_fixed (k : Nat) (s : State) {t : State}
    (h : execAcqRecordArrive k s = .next t) : t.fixed = s.fixed := by
  unfold execAcqRecordArrive at h
  refine fixed_of_onUnit h ?_
  clear h
  try dsimp only
  try (repeat' split)
  all_goals (first | (simp (maxDischargeDepth := 30); done) | (try simp_all (maxDischargeDepth := 30)))
theorem execAcqTriggerDeclare_fixed (k : Nat) (s : State) {t : State}
    (h : execAcqTriggerDeclare k s = .next t) : t.fixed = s.fixed := by
  unfold execAcqTriggerDeclare at h
  refine fixed_of_onUnit h ?_
  clear h
  try dsimp only
  try (repeat' split)
  all_goals (first | (simp (maxDischargeDepth := 30); done) | (try simp_all (maxDischargeDepth := 30)))
theorem execAcqArm_fixed (fn : Nat) (k : Nat) (s : State) {t : State}
    (h : execAcqArm fn k s = .next t) : t.fixed = s.fixed := by
  unfold execAcqArm at h
  refine fixed_of_onUnit h ?_
  clear h
  try dsimp only
  try (repeat' split)
  all_goals (first | (simp (maxDischargeDepth := 30); done) | (try simp_all (maxDischargeDepth := 30)))
theorem execAcqDisarm_fixed (fn : Nat) (k : Nat) (s : State) {t : State}
    (h : execAcqDisarm fn k s = .next t) : t.fixed = s.fixed := by
  unfold execAcqDisarm at h
  refine fixed_of_onUnit h ?_
  clear h
  try dsimp only
  try (repeat' split)
  all_goals (first | (simp (maxDischargeDepth := 30); done) | (try simp_all (maxDischargeDepth := 30)))
theorem execAcqForce_fixed (fn : Nat) (k : Nat) (s : State) {t : State}
    (h : execAcqForce fn k s = .next t) : t.fixed = s.fixed := by
  unfold execAcqForce at h
  refine fixed_of_onUnit h ?_
  clear h
  try dsimp only
  try (repeat' split)
  all_goals (first | (simp (maxDischargeDepth := 30); done) | (try simp_all (maxDischargeDepth := 30)))
theorem execAcqLive_fixed (k : Nat) (s : State) {t : State} (h : execAcqLive k s = .next t) : t.fixed = s.fixed := by
  unfold execAcqLive at h
  refine fixed_of_onUnit h ?_
  clear h
  try dsimp only
  try (repeat' split)
  all_goals (first | (simp (maxDischargeDepth := 30); done) | (try simp_all (maxDischargeDepth := 30)))
theorem execAcqRunStart_fixed (fn : Nat) (k : Nat) (s : State) {t : State}
    (h : execAcqRunStart fn k s = .next t) : t.fixed = s.fixed := by
  unfold execAcqRunStart at h
  refine fixed_of_onUnit h ?_
  clear h
  try dsimp only
  try (repeat' split)
  all_goals (first | (simp (maxDischargeDepth := 30); done) | (try simp_all (maxDischargeDepth := 30)))
theorem execAcqRunStop_fixed (fn : Nat) (k : Nat) (s : State) {t : State}
    (h : execAcqRunStop fn k s = .next t) : t.fixed = s.fixed := by
  unfold execAcqRunStop at h
  refine fixed_of_onUnit h ?_
  clear h
  try dsimp only
  try (repeat' split)
  all_goals (first | (simp (maxDischargeDepth := 30); done) | (try simp_all (maxDischargeDepth := 30)))
theorem execAcqRingMove_fixed (k : Nat) (s : State) {t : State}
    (h : execAcqRingMove k s = .next t) : t.fixed = s.fixed := by
  unfold execAcqRingMove at h
  refine fixed_of_onUnit h ?_
  clear h
  try dsimp only
  try (repeat' split)
  all_goals (first | (simp (maxDischargeDepth := 30); done) | (try simp_all (maxDischargeDepth := 30)))
theorem execAcqCaptureDone_fixed (k : Nat) (s : State) {t : State}
    (h : execAcqCaptureDone k s = .next t) : t.fixed = s.fixed := by
  unfold execAcqCaptureDone at h
  refine fixed_of_onUnit h ?_
  clear h
  try dsimp only
  try (repeat' split)
  all_goals (first | (simp (maxDischargeDepth := 30); done) | (try simp_all (maxDischargeDepth := 30)))
theorem execAcqStreamStopped_fixed (k : Nat) (s : State) {t : State}
    (h : execAcqStreamStopped k s = .next t) : t.fixed = s.fixed := by
  unfold execAcqStreamStopped at h
  refine fixed_of_onUnit h ?_
  clear h
  try dsimp only
  try (repeat' split)
  all_goals (first | (simp (maxDischargeDepth := 30); done) | (try simp_all (maxDischargeDepth := 30)))
theorem execAcqBurstFlush_fixed (st : Nat) (s : State) {t : State}
    (h : execAcqBurstFlush st s = .next t) : t.fixed = s.fixed := by
  unfold execAcqBurstFlush at h
  refine fixed_of_onUnit h ?_
  clear h
  try dsimp only
  try (repeat' split)
  all_goals (first | (simp (maxDischargeDepth := 30); done) | (try simp_all (maxDischargeDepth := 30)))
theorem execHizSequenceDone_fixed (ch : Nat) (s : State) {t : State}
    (h : execHizSequenceDone ch s = .next t) : t.fixed = s.fixed := by
  unfold execHizSequenceDone at h
  refine fixed_of_onUnit h ?_
  clear h
  try dsimp only
  try (repeat' split)
  all_goals (first | (simp (maxDischargeDepth := 30); done) | (try simp_all (maxDischargeDepth := 30)))
theorem execAnalogLinkWatchdog_fixed (die : Nat) (s : State) {t : State}
    (h : execAnalogLinkWatchdog die s = .next t) : t.fixed = s.fixed := by
  unfold execAnalogLinkWatchdog at h
  refine fixed_of_onUnit h ?_
  clear h
  try dsimp only
  try (repeat' split)
  all_goals (first | (simp (maxDischargeDepth := 30); done) | (try simp_all (maxDischargeDepth := 30)))
theorem execModeReqSafe_fixed (fn : Nat) (force : Bool) (s : State) {t : State}
    (h : execModeReqSafe fn force s = .next t) : t.fixed = s.fixed := by
  unfold execModeReqSafe at h
  refine fixed_of_onUnit h ?_
  clear h
  try dsimp only
  try (repeat' split)
  all_goals (first | (simp (maxDischargeDepth := 30); done) | (try simp_all (maxDischargeDepth := 30)))
theorem execModeReqReady_fixed (fn : Nat) (force : Bool) (s : State) {t : State}
    (h : execModeReqReady fn force s = .next t) : t.fixed = s.fixed := by
  unfold execModeReqReady at h
  refine fixed_of_onUnit h ?_
  clear h
  try dsimp only
  try (repeat' split)
  all_goals (first | (simp (maxDischargeDepth := 30); done) | (try simp_all (maxDischargeDepth := 30)))
theorem execModeReqCal_fixed (fn : Nat) (s : State) {t : State}
    (h : execModeReqCal fn s = .next t) : t.fixed = s.fixed := by
  unfold execModeReqCal at h
  refine fixed_of_onUnit h ?_
  clear h
  try dsimp only
  try (repeat' split)
  all_goals (first | (simp (maxDischargeDepth := 30); done) | (try simp_all (maxDischargeDepth := 30)))
theorem execModeReqRun_fixed (fn : Nat) (s : State) {t : State}
    (h : execModeReqRun fn s = .next t) : t.fixed = s.fixed := by
  unfold execModeReqRun at h
  refine fixed_of_onUnit h ?_
  clear h
  try dsimp only
  try (repeat' split)
  all_goals (first | (simp (maxDischargeDepth := 30); done) | (try simp_all (maxDischargeDepth := 30)))
theorem execModeReqService_fixed (fn : Nat) (s : State) {t : State}
    (h : execModeReqService fn s = .next t) : t.fixed = s.fixed := by
  unfold execModeReqService at h
  refine fixed_of_onUnit h ?_
  clear h
  try dsimp only
  try (repeat' split)
  all_goals (first | (simp (maxDischargeDepth := 30); done) | (try simp_all (maxDischargeDepth := 30)))
theorem execModeReqIllegal_fixed (fn : Nat) (val : Nat) (s : State) {t : State}
    (h : execModeReqIllegal fn val s = .next t) : t.fixed = s.fixed := by
  unfold execModeReqIllegal at h
  refine fixed_of_onUnit h ?_
  clear h
  try dsimp only
  try (repeat' split)
  all_goals (first | (simp (maxDischargeDepth := 30); done) | (try simp_all (maxDischargeDepth := 30)))
theorem execModeTransitionDone_fixed (s : State) {t : State}
    (h : execModeTransitionDone s = .next t) : t.fixed = s.fixed := by
  unfold execModeTransitionDone at h
  refine fixed_of_next h ?_
  clear h
  try dsimp only
  try (repeat' split)
  all_goals (first | (simp (maxDischargeDepth := 30); done) | (try simp_all (maxDischargeDepth := 30)))
theorem execBootReady_fixed (s : State) {t : State} (h : execBootReady s = .next t) : t.fixed = s.fixed := by
  unfold execBootReady at h
  refine fixed_of_next h ?_
  clear h
  try dsimp only
  try (repeat' split)
  all_goals (first | (simp (maxDischargeDepth := 30); done) | (try simp_all (maxDischargeDepth := 30)))
theorem execWarmupSample_fixed (s : State) {t : State} (h : execWarmupSample s = .next t) : t.fixed = s.fixed := by
  unfold execWarmupSample at h
  refine fixed_of_next h ?_
  clear h
  try dsimp only
  try (repeat' split)
  all_goals (first | (simp (maxDischargeDepth := 30); done) | (try simp_all (maxDischargeDepth := 30)))
theorem execWarmupTimeout_fixed (s : State) {t : State} (h : execWarmupTimeout s = .next t) : t.fixed = s.fixed := by
  unfold execWarmupTimeout at h
  refine fixed_of_next h ?_
  clear h
  try dsimp only
  try (repeat' split)
  all_goals (first | (simp (maxDischargeDepth := 30); done) | (try simp_all (maxDischargeDepth := 30)))
theorem execPerstAssert_fixed (s : State) {t : State} (h : execPerstAssert s = .next t) : t.fixed = s.fixed := by
  unfold execPerstAssert at h
  refine fixed_of_next h ?_
  clear h
  try dsimp only
  split
  · rw [State.endpointReset_fixed, State.endpointReset_fixed]; rfl
  · rw [State.endpointReset_fixed]; rfl
theorem execPcieLinkDown_fixed (e : Nat) (s : State) {t : State}
    (h : execPcieLinkDown e s = .next t) : t.fixed = s.fixed := by
  unfold execPcieLinkDown at h
  refine fixed_of_onUnit h ?_
  rw [State.endpointReset_fixed]
  split <;> rfl
theorem execPcieLinkUp_fixed (e : Nat) (s : State) {t : State}
    (h : execPcieLinkUp e s = .next t) : t.fixed = s.fixed := by
  unfold execPcieLinkUp at h
  refine fixed_of_onUnit h ?_
  (repeat' split) <;> rfl
theorem execFunctionReset_fixed (fn : Nat) (how : Nat) (s : State) {t : State}
    (h : execFunctionReset fn how s = .next t) : t.fixed = s.fixed := by
  unfold execFunctionReset at h
  refine fixed_of_onUnit h ?_
  clear h
  try dsimp only
  try (repeat' split)
  all_goals (first | (simp (maxDischargeDepth := 30); done) | (try simp_all (maxDischargeDepth := 30)))
theorem execFunctionResetDone_fixed (fn : Nat) (s : State) {t : State}
    (h : execFunctionResetDone fn s = .next t) : t.fixed = s.fixed := by
  unfold execFunctionResetDone at h
  refine fixed_of_onUnit h ?_
  clear h
  try dsimp only
  try (repeat' split)
  all_goals (first | (simp (maxDischargeDepth := 30); done) | (try simp_all (maxDischargeDepth := 30)))
theorem execVfEnableSet_fixed (pf : Nat) (num : Nat) (s : State) {t : State}
    (h : execVfEnableSet pf num s = .next t) : t.fixed = s.fixed := by
  unfold execVfEnableSet at h
  refine fixed_of_onUnit h ?_
  clear h
  try dsimp only
  try (repeat' split)
  all_goals (first | (simp (maxDischargeDepth := 30); done) | (try simp_all (maxDischargeDepth := 30)))
theorem execMsixVectorUnmask_fixed (fn : Nat) (a : MsixAccess) (s : State) {t : State}
    (h : execMsixVectorUnmask fn a s = .next t) : t.fixed = s.fixed := by
  unfold execMsixVectorUnmask at h
  refine fixed_of_onUnit h ?_
  clear h
  try dsimp only
  try (repeat' split)
  all_goals (first | (simp (maxDischargeDepth := 30); done) | (try simp_all (maxDischargeDepth := 30)))
theorem execPowerUpStart_fixed (vin : Nat) (s : State) {t : State}
    (h : execPowerUpStart vin s = .next t) : t.fixed = s.fixed := by
  unfold execPowerUpStart at h
  refine fixed_of_next h ?_
  clear h
  try dsimp only
  split <;> rfl
theorem execPllLockTimeout_fixed (s : State) {t : State}
    (h : execPllLockTimeout s = .next t) : t.fixed = s.fixed := by
  unfold execPllLockTimeout at h
  refine fixed_of_next h ?_
  clear h
  try dsimp only
  try (repeat' split)
  all_goals (first | (simp (maxDischargeDepth := 30); done) | (try simp_all (maxDischargeDepth := 30)))
theorem execBmemClearDone_fixed (ok : Bool) (s : State) {t : State}
    (h : execBmemClearDone ok s = .next t) : t.fixed = s.fixed := by
  unfold execBmemClearDone at h
  refine fixed_of_next h ?_
  clear h
  try dsimp only
  try (repeat' split)
  all_goals (first | (simp (maxDischargeDepth := 30); done) | (try simp_all (maxDischargeDepth := 30)))
theorem execFwVerifyDone_fixed (sigA sigB : FwVerdict) (s : State) {t : State}
    (h : execFwVerifyDone sigA sigB s = .next t) : t.fixed = s.fixed := by
  unfold execFwVerifyDone at h
  refine fixed_of_next h ?_
  clear h
  try dsimp only
  try (repeat' split)
  all_goals (first | (simp (maxDischargeDepth := 30); done) | (try simp_all (maxDischargeDepth := 30)))
theorem execPowerFailWarning_fixed (vin : Nat) (s : State) {t : State}
    (h : execPowerFailWarning vin s = .next t) : t.fixed = s.fixed := by
  unfold execPowerFailWarning at h
  refine fixed_of_next h ?_
  clear h
  try dsimp only
  try (repeat' split)
  all_goals (first | (simp (maxDischargeDepth := 30); done) | (try simp_all (maxDischargeDepth := 30)))
theorem execLoadShedDone_fixed (s : State) {t : State} (h : execLoadShedDone s = .next t) : t.fixed = s.fixed := by
  unfold execLoadShedDone at h
  refine fixed_of_next h ?_
  clear h
  try dsimp only
  try (repeat' split)
  all_goals (first | (simp (maxDischargeDepth := 30); done) | (try simp_all (maxDischargeDepth := 30)))
theorem execPowerWarnRelease_fixed (vin : Nat) (s : State) {t : State}
    (h : execPowerWarnRelease vin s = .next t) : t.fixed = s.fixed := by
  unfold execPowerWarnRelease at h
  refine fixed_of_next h ?_
  clear h
  try dsimp only
  try (repeat' split)
  all_goals (first | (simp (maxDischargeDepth := 30); done) | (try simp_all (maxDischargeDepth := 30)))
theorem execPwrOvercurrent_fixed (s : State) {t : State}
    (h : execPwrOvercurrent s = .next t) : t.fixed = s.fixed := by
  unfold execPwrOvercurrent at h
  refine fixed_of_next h ?_
  clear h
  try dsimp only
  try (repeat' split)
  all_goals (first | (simp (maxDischargeDepth := 30); done) | (try simp_all (maxDischargeDepth := 30)))
theorem execPwrOvervoltage_fixed (vin : Nat) (s : State) {t : State}
    (h : execPwrOvervoltage vin s = .next t) : t.fixed = s.fixed := by
  unfold execPwrOvervoltage at h
  refine fixed_of_next h ?_
  clear h
  try dsimp only
  try (repeat' split)
  all_goals (first | (simp (maxDischargeDepth := 30); done) | (try simp_all (maxDischargeDepth := 30)))
theorem execPwrOvRelease_fixed (vin : Nat) (s : State) {t : State}
    (h : execPwrOvRelease vin s = .next t) : t.fixed = s.fixed := by
  unfold execPwrOvRelease at h
  refine fixed_of_next h ?_
  clear h
  try dsimp only
  try (repeat' split)
  all_goals (first | (simp (maxDischargeDepth := 30); done) | (try simp_all (maxDischargeDepth := 30)))
theorem execPwrOvertemp_fixed (s : State) {t : State} (h : execPwrOvertemp s = .next t) : t.fixed = s.fixed := by
  unfold execPwrOvertemp at h
  refine fixed_of_next h ?_
  clear h
  try dsimp only
  try (repeat' split)
  all_goals (first | (simp (maxDischargeDepth := 30); done) | (try simp_all (maxDischargeDepth := 30)))
theorem execPwrOtClear_fixed (s : State) {t : State} (h : execPwrOtClear s = .next t) : t.fixed = s.fixed := by
  unfold execPwrOtClear at h
  refine fixed_of_next h ?_
  clear h
  try dsimp only
  try (repeat' split)
  all_goals (first | (simp (maxDischargeDepth := 30); done) | (try simp_all (maxDischargeDepth := 30)))
theorem execTelemetryRefresh_fixed (mv : Nat) (ma : Nat) (mw : Nat) (groups : List Nat) (temps : List Int)
    (ppm : Int) (s : State) {t : State}
    (h : execTelemetryRefresh mv ma mw groups temps ppm s = .next t) : t.fixed = s.fixed := by
  unfold execTelemetryRefresh at h
  refine fixed_of_next h ?_
  clear h
  try dsimp only
  try (repeat' split)
  all_goals (first | (simp (maxDischargeDepth := 30); done) | (try simp_all (maxDischargeDepth := 30)))
theorem execPage_fixed (v : Option Nat) (s : State) {t : State} (h : execPage v s = .next t) : t.fixed = s.fixed := by
  unfold execPage at h
  refine fixed_of_next h ?_
  clear h
  try dsimp only
  try (repeat' split)
  all_goals (first | (simp (maxDischargeDepth := 30); done) | (try simp_all (maxDischargeDepth := 30)))
theorem execClearFaults_fixed (s : State) {t : State} (h : execClearFaults s = .next t) : t.fixed = s.fixed := by
  unfold execClearFaults at h
  refine fixed_of_next h ?_
  clear h
  try dsimp only
  try (repeat' split)
  all_goals (first | (simp (maxDischargeDepth := 30); done) | (try simp_all (maxDischargeDepth := 30)))
theorem execCapability_fixed (s : State) {t : State} (h : execCapability s = .next t) : t.fixed = s.fixed := by
  unfold execCapability at h
  refine fixed_of_next h ?_
  clear h
  try dsimp only
  try (repeat' split)
  all_goals (first | (simp (maxDischargeDepth := 30); done) | (try simp_all (maxDischargeDepth := 30)))
theorem execVinOvFaultLimit_fixed (s : State) {t : State}
    (h : execVinOvFaultLimit s = .next t) : t.fixed = s.fixed := by
  unfold execVinOvFaultLimit at h
  refine fixed_of_next h ?_
  clear h
  try dsimp only
  try (repeat' split)
  all_goals (first | (simp (maxDischargeDepth := 30); done) | (try simp_all (maxDischargeDepth := 30)))
theorem execVinUvWarnLimit_fixed (s : State) {t : State}
    (h : execVinUvWarnLimit s = .next t) : t.fixed = s.fixed := by
  unfold execVinUvWarnLimit at h
  refine fixed_of_next h ?_
  clear h
  try dsimp only
  try (repeat' split)
  all_goals (first | (simp (maxDischargeDepth := 30); done) | (try simp_all (maxDischargeDepth := 30)))
theorem execVinUvFaultLimit_fixed (s : State) {t : State}
    (h : execVinUvFaultLimit s = .next t) : t.fixed = s.fixed := by
  unfold execVinUvFaultLimit at h
  refine fixed_of_next h ?_
  clear h
  try dsimp only
  try (repeat' split)
  all_goals (first | (simp (maxDischargeDepth := 30); done) | (try simp_all (maxDischargeDepth := 30)))
theorem execStatusByte_fixed (s : State) {t : State} (h : execStatusByte s = .next t) : t.fixed = s.fixed := by
  unfold execStatusByte at h
  refine fixed_of_next h ?_
  clear h
  try dsimp only
  try (repeat' split)
  all_goals (first | (simp (maxDischargeDepth := 30); done) | (try simp_all (maxDischargeDepth := 30)))
theorem execStatusWord_fixed (s : State) {t : State} (h : execStatusWord s = .next t) : t.fixed = s.fixed := by
  unfold execStatusWord at h
  refine fixed_of_next h ?_
  clear h
  try dsimp only
  try (repeat' split)
  all_goals (first | (simp (maxDischargeDepth := 30); done) | (try simp_all (maxDischargeDepth := 30)))
theorem execStatusInput_fixed (s : State) {t : State} (h : execStatusInput s = .next t) : t.fixed = s.fixed := by
  unfold execStatusInput at h
  refine fixed_of_next h ?_
  clear h
  try dsimp only
  try (repeat' split)
  all_goals (first | (simp (maxDischargeDepth := 30); done) | (try simp_all (maxDischargeDepth := 30)))
theorem execStatusTemperature_fixed (s : State) {t : State}
    (h : execStatusTemperature s = .next t) : t.fixed = s.fixed := by
  unfold execStatusTemperature at h
  refine fixed_of_next h ?_
  clear h
  try dsimp only
  try (repeat' split)
  all_goals (first | (simp (maxDischargeDepth := 30); done) | (try simp_all (maxDischargeDepth := 30)))
theorem execStatusCml_fixed (s : State) {t : State} (h : execStatusCml s = .next t) : t.fixed = s.fixed := by
  unfold execStatusCml at h
  refine fixed_of_next h ?_
  clear h
  try dsimp only
  try (repeat' split)
  all_goals (first | (simp (maxDischargeDepth := 30); done) | (try simp_all (maxDischargeDepth := 30)))
theorem execReadVin_fixed (s : State) {t : State} (h : execReadVin s = .next t) : t.fixed = s.fixed := by
  unfold execReadVin at h
  refine fixed_of_next h ?_
  clear h
  try dsimp only
  try (repeat' split)
  all_goals (first | (simp (maxDischargeDepth := 30); done) | (try simp_all (maxDischargeDepth := 30)))
theorem execReadIin_fixed (s : State) {t : State} (h : execReadIin s = .next t) : t.fixed = s.fixed := by
  unfold execReadIin at h
  refine fixed_of_next h ?_
  clear h
  try dsimp only
  try (repeat' split)
  all_goals (first | (simp (maxDischargeDepth := 30); done) | (try simp_all (maxDischargeDepth := 30)))
theorem execReadTemperature1_fixed (s : State) {t : State}
    (h : execReadTemperature1 s = .next t) : t.fixed = s.fixed := by
  unfold execReadTemperature1 at h
  refine fixed_of_next h ?_
  clear h
  try dsimp only
  try (repeat' split)
  all_goals (first | (simp (maxDischargeDepth := 30); done) | (try simp_all (maxDischargeDepth := 30)))
theorem execReadPout_fixed (s : State) {t : State} (h : execReadPout s = .next t) : t.fixed = s.fixed := by
  unfold execReadPout at h
  refine fixed_of_next h ?_
  clear h
  try dsimp only
  try (repeat' split)
  all_goals (first | (simp (maxDischargeDepth := 30); done) | (try simp_all (maxDischargeDepth := 30)))
theorem execReadPin_fixed (s : State) {t : State} (h : execReadPin s = .next t) : t.fixed = s.fixed := by
  unfold execReadPin at h
  refine fixed_of_next h ?_
  clear h
  try dsimp only
  try (repeat' split)
  all_goals (first | (simp (maxDischargeDepth := 30); done) | (try simp_all (maxDischargeDepth := 30)))
theorem execPmbusRevision_fixed (s : State) {t : State} (h : execPmbusRevision s = .next t) : t.fixed = s.fixed := by
  unfold execPmbusRevision at h
  refine fixed_of_next h ?_
  clear h
  try dsimp only
  try (repeat' split)
  all_goals (first | (simp (maxDischargeDepth := 30); done) | (try simp_all (maxDischargeDepth := 30)))
theorem execMfrId_fixed (s : State) {t : State} (h : execMfrId s = .next t) : t.fixed = s.fixed := by
  unfold execMfrId at h
  refine fixed_of_next h ?_
  clear h
  try dsimp only
  try (repeat' split)
  all_goals (first | (simp (maxDischargeDepth := 30); done) | (try simp_all (maxDischargeDepth := 30)))
theorem execMfrModel_fixed (s : State) {t : State} (h : execMfrModel s = .next t) : t.fixed = s.fixed := by
  unfold execMfrModel at h
  refine fixed_of_next h ?_
  clear h
  try dsimp only
  try (repeat' split)
  all_goals (first | (simp (maxDischargeDepth := 30); done) | (try simp_all (maxDischargeDepth := 30)))
theorem execPmbusInvalid_fixed (kind : Nat) (s : State) {t : State}
    (h : execPmbusInvalid kind s = .next t) : t.fixed = s.fixed := by
  unfold execPmbusInvalid at h
  refine fixed_of_onUnit h ?_
  clear h
  try dsimp only
  try (repeat' split)
  all_goals (first | (simp (maxDischargeDepth := 30); done) | (try simp_all (maxDischargeDepth := 30)))
theorem execSmbusAlertResponse_fixed (s : State) {t : State}
    (h : execSmbusAlertResponse s = .next t) : t.fixed = s.fixed := by
  unfold execSmbusAlertResponse at h
  refine fixed_of_next h ?_
  clear h
  try dsimp only
  try (repeat' split)
  all_goals (first | (simp (maxDischargeDepth := 30); done) | (try simp_all (maxDischargeDepth := 30)))
theorem execSmbusTimeout_fixed (s : State) {t : State} (h : execSmbusTimeout s = .next t) : t.fixed = s.fixed := by
  unfold execSmbusTimeout at h
  refine fixed_of_next h ?_
  clear h
  try dsimp only
  try (repeat' split)
  all_goals (first | (simp (maxDischargeDepth := 30); done) | (try simp_all (maxDischargeDepth := 30)))
theorem execClockLoss_fixed (s : State) {t : State} (h : execClockLoss s = .next t) : t.fixed = s.fixed := by
  unfold execClockLoss at h
  refine fixed_of_next h ?_
  clear h
  try dsimp only
  try (repeat' split)
  all_goals (first | (simp (maxDischargeDepth := 30); done) | (try simp_all (maxDischargeDepth := 30)))
theorem execPllUnlock_fixed (s : State) {t : State} (h : execPllUnlock s = .next t) : t.fixed = s.fixed := by
  unfold execPllUnlock at h
  refine fixed_of_next h ?_
  clear h
  try dsimp only
  try (repeat' split)
  all_goals (first | (simp (maxDischargeDepth := 30); done) | (try simp_all (maxDischargeDepth := 30)))
theorem execPllRelock_fixed (s : State) {t : State} (h : execPllRelock s = .next t) : t.fixed = s.fixed := by
  unfold execPllRelock at h
  refine fixed_of_next h ?_
  clear h
  try dsimp only
  try (repeat' split)
  all_goals (first | (simp (maxDischargeDepth := 30); done) | (try simp_all (maxDischargeDepth := 30)))
theorem execRefclkReturn_fixed (s : State) {t : State} (h : execRefclkReturn s = .next t) : t.fixed = s.fixed := by
  unfold execRefclkReturn at h
  refine fixed_of_next h ?_
  clear h
  try dsimp only
  try (repeat' split)
  all_goals (first | (simp (maxDischargeDepth := 30); done) | (try simp_all (maxDischargeDepth := 30)))
theorem execLinkRetry_fixed (d : Nat) (s : State) {t : State}
    (h : execLinkRetry d s = .next t) : t.fixed = s.fixed := by
  unfold execLinkRetry at h
  refine fixed_of_onUnit h ?_
  clear h
  try dsimp only
  try (repeat' split)
  all_goals (first | (simp (maxDischargeDepth := 30); done) | (try simp_all (maxDischargeDepth := 30)))
theorem execLinkDown_fixed (d : Nat) (s : State) {t : State}
    (h : execLinkDown d s = .next t) : t.fixed = s.fixed := by
  unfold execLinkDown at h
  refine fixed_of_onUnit h ?_
  clear h
  try dsimp only
  try (repeat' split)
  all_goals (first | (simp (maxDischargeDepth := 30); done) | (try simp_all (maxDischargeDepth := 30)))
theorem execAbortPoint_fixed (st : Nat) (s : State) {t : State}
    (h : execAbortPoint st s = .next t) : t.fixed = s.fixed := by
  unfold execAbortPoint at h
  refine fixed_of_onUnit h ?_
  clear h
  try dsimp only
  try (repeat' split)
  all_goals (first | (simp (maxDischargeDepth := 30); done) | (try simp_all (maxDischargeDepth := 30)))
theorem execSpareSwitch_fixed (k : Nat) (s : State) {t : State}
    (h : execSpareSwitch k s = .next t) : t.fixed = s.fixed := by
  unfold execSpareSwitch at h
  refine fixed_of_onUnit h ?_
  clear h
  try dsimp only
  try (repeat' split)
  all_goals (first | (simp (maxDischargeDepth := 30); done) | (try simp_all (maxDischargeDepth := 30)))
theorem execRetireLoad_fixed (s : State) {t : State} (h : execRetireLoad s = .next t) : t.fixed = s.fixed := by
  unfold execRetireLoad at h
  refine fixed_of_next h ?_
  clear h
  try dsimp only
  try (repeat' split)
  all_goals (first | (simp (maxDischargeDepth := 30); done) | (try simp_all (maxDischargeDepth := 30)))
theorem execRetireClear_fixed (fn : Nat) (kind : Nat) (i : Nat) (s : State) {t : State}
    (h : execRetireClear fn kind i s = .next t) : t.fixed = s.fixed := by
  unfold execRetireClear at h
  refine fixed_of_onUnit h ?_
  clear h
  try dsimp only
  try (repeat' split)
  all_goals (first | (simp (maxDischargeDepth := 30); done) | (try simp_all (maxDischargeDepth := 30)))
theorem execAnalogReadback_fixed (ch : Nat) (bad : Bool) (again : Bool) (s : State) {t : State}
    (h : execAnalogReadback ch bad again s = .next t) : t.fixed = s.fixed := by
  unfold execAnalogReadback at h
  refine fixed_of_onUnit h ?_
  clear h
  try dsimp only
  try (repeat' split)
  all_goals (first | (simp (maxDischargeDepth := 30); done) | (try simp_all (maxDischargeDepth := 30)))
theorem execMadcConversionDone_fixed (k : Nat) (raw : Int) (s : State) {t : State}
    (h : execMadcConversionDone k raw s = .next t) : t.fixed = s.fixed := by
  unfold execMadcConversionDone at h
  refine fixed_of_onUnit h ?_
  clear h
  try dsimp only
  try (repeat' split)
  all_goals (first | (simp (maxDischargeDepth := 30); done) | (try simp_all (maxDischargeDepth := 30)))
theorem execMadcConversionTimeout_fixed (k : Nat) (s : State) {t : State}
    (h : execMadcConversionTimeout k s = .next t) : t.fixed = s.fixed := by
  unfold execMadcConversionTimeout at h
  refine fixed_of_onUnit h ?_
  clear h
  try dsimp only
  try (repeat' split)
  all_goals (first | (simp (maxDischargeDepth := 30); done) | (try simp_all (maxDischargeDepth := 30)))
theorem execThermalSensorSample_fixed (r : Nat) (temps : List Int) (s : State) {t : State}
    (h : execThermalSensorSample r temps s = .next t) : t.fixed = s.fixed := by
  unfold execThermalSensorSample at h
  refine fixed_of_onUnit h ?_
  clear h
  try dsimp only
  try (repeat' split)
  all_goals (first | (simp (maxDischargeDepth := 30); done) | (try simp_all (maxDischargeDepth := 30)))
theorem execReenable_fixed (fn : Nat) (r : Nat) (s : State) {t : State}
    (h : execReenable fn r s = .next t) : t.fixed = s.fixed := by
  unfold execReenable at h
  refine fixed_of_onUnit h ?_
  clear h
  try dsimp only
  try (repeat' split)
  all_goals (first | (simp (maxDischargeDepth := 30); done) | (try simp_all (maxDischargeDepth := 30)))
theorem execCalSlewStep_fixed (ch : Nat) (levels : Bool) (s : State) {t : State}
    (h : execCalSlewStep ch levels s = .next t) : t.fixed = s.fixed := by
  unfold execCalSlewStep at h
  refine fixed_of_onUnit h ?_
  clear h
  try dsimp only
  try (repeat' split)
  all_goals (first | (simp (maxDischargeDepth := 30); done) | (try simp_all (maxDischargeDepth := 30)))
theorem execCalStale_fixed (ch : Nat) (s : State) {t : State}
    (h : execCalStale ch s = .next t) : t.fixed = s.fixed := by
  unfold execCalStale at h
  refine fixed_of_onUnit h ?_
  clear h
  try dsimp only
  try (repeat' split)
  all_goals (first | (simp (maxDischargeDepth := 30); done) | (try simp_all (maxDischargeDepth := 30)))
theorem execCalTempEval_fixed (r : Nat) (s : State) {t : State}
    (h : execCalTempEval r s = .next t) : t.fixed = s.fixed := by
  unfold execCalTempEval at h
  refine fixed_of_onUnit h ?_
  clear h
  try dsimp only
  try (repeat' split)
  all_goals (first | (simp (maxDischargeDepth := 30); done) | (try simp_all (maxDischargeDepth := 30)))
theorem execCalStart_fixed (fn : Nat) (i : Nat) (s : State) {t : State}
    (h : execCalStart fn i s = .next t) : t.fixed = s.fixed := by
  unfold execCalStart at h
  refine fixed_of_onUnit h ?_
  clear h
  try dsimp only
  try (repeat' split)
  all_goals (first | (simp (maxDischargeDepth := 30); done) | (try simp_all (maxDischargeDepth := 30)))
theorem execCalAbort_fixed (fn : Nat) (i : Nat) (s : State) {t : State}
    (h : execCalAbort fn i s = .next t) : t.fixed = s.fixed := by
  unfold execCalAbort at h
  refine fixed_of_onUnit h ?_
  clear h
  try dsimp only
  try (repeat' split)
  all_goals (first | (simp (maxDischargeDepth := 30); done) | (try simp_all (maxDischargeDepth := 30)))
theorem execCalCommonStepDone_fixed (r : Nat) (vref : Int) (vbg : Int) (spine : List Int) (s : State) {t : State}
    (h : execCalCommonStepDone r vref vbg spine s = .next t) : t.fixed = s.fixed := by
  unfold execCalCommonStepDone at h
  refine fixed_of_onUnit h ?_
  clear h
  try dsimp only
  try (repeat' split)
  all_goals (first | (simp (maxDischargeDepth := 30); done) | (try simp_all (maxDischargeDepth := 30)))
theorem execCalClusterStepStart_fixed (k : Nat) (s : State) {t : State}
    (h : execCalClusterStepStart k s = .next t) : t.fixed = s.fixed := by
  unfold execCalClusterStepStart at h
  refine fixed_of_onUnit h ?_
  clear h
  try dsimp only
  try (repeat' split)
  all_goals (first | (simp (maxDischargeDepth := 30); done) | (try simp_all (maxDischargeDepth := 30)))
theorem execCalClusterStepDone_fixed (k : Nat) (lanes : List (List Int)) (madc : List Int) (s : State) {t : State}
    (h : execCalClusterStepDone k lanes madc s = .next t) : t.fixed = s.fixed := by
  unfold execCalClusterStepDone at h
  refine fixed_of_onUnit h ?_
  clear h
  try dsimp only
  try (repeat' split)
  all_goals (first | (simp (maxDischargeDepth := 30); done) | (try simp_all (maxDischargeDepth := 30)))
theorem execCalHoldoffExpiry_fixed (r : Nat) (s : State) {t : State}
    (h : execCalHoldoffExpiry r s = .next t) : t.fixed = s.fixed := by
  unfold execCalHoldoffExpiry at h
  refine fixed_of_onUnit h ?_
  clear h
  try dsimp only
  try (repeat' split)
  all_goals (first | (simp (maxDischargeDepth := 30); done) | (try simp_all (maxDischargeDepth := 30)))
theorem execCalEnvCheckDone_fixed (k : Nat) (v : List (Int × Int × Int)) (s : State) {t : State}
    (h : execCalEnvCheckDone k v s = .next t) : t.fixed = s.fixed := by
  unfold execCalEnvCheckDone at h
  refine fixed_of_onUnit h ?_
  clear h
  try dsimp only
  try (repeat' split)
  all_goals (first | (simp (maxDischargeDepth := 30); done) | (try simp_all (maxDischargeDepth := 30)))
theorem execCalReflectDone_fixed (ch : Nat) (sum : Int) (spread : Int) (clean : Bool) (s : State) {t : State}
    (h : execCalReflectDone ch sum spread clean s = .next t) : t.fixed = s.fixed := by
  unfold execCalReflectDone at h
  refine fixed_of_onUnit h ?_
  clear h
  try dsimp only
  try (repeat' split)
  all_goals (first | (simp (maxDischargeDepth := 30); done) | (try simp_all (maxDischargeDepth := 30)))
theorem execCalSequenceDone_fixed (s : State) {t : State}
    (h : execCalSequenceDone s = .next t) : t.fixed = s.fixed := by
  unfold execCalSequenceDone at h
  refine fixed_of_next h ?_
  clear h
  try dsimp only
  try (repeat' split)
  all_goals (first | (simp (maxDischargeDepth := 30); done) | (try simp_all (maxDischargeDepth := 30)))
theorem execCalLoad_fixed (s : State) {t : State} (h : execCalLoad s = .next t) : t.fixed = s.fixed := by
  unfold execCalLoad at h
  refine fixed_of_next h ?_
  clear h
  try dsimp only
  try (repeat' split)
  all_goals (first | (simp (maxDischargeDepth := 30); done) | (try simp_all (maxDischargeDepth := 30)))
theorem execSyncLoss_fixed (s : State) {t : State} (h : execSyncLoss s = .next t) : t.fixed = s.fixed := by
  unfold execSyncLoss at h
  refine fixed_of_next h ?_
  clear h
  try dsimp only
  try (repeat' split)
  all_goals (first | (simp (maxDischargeDepth := 30); done) | (try simp_all (maxDischargeDepth := 30)))
theorem execPhaseSlewStep_fixed (s : State) {t : State} (h : execPhaseSlewStep s = .next t) : t.fixed = s.fixed := by
  unfold execPhaseSlewStep at h
  refine fixed_of_next h ?_
  clear h
  try dsimp only
  try (repeat' split)
  all_goals (first | (simp (maxDischargeDepth := 30); done) | (try simp_all (maxDischargeDepth := 30)))
theorem execTrigInEdge_fixed (line : Nat) (rising : Bool) (tt : Nat) (s : State) {t : State}
    (h : execTrigInEdge line rising tt s = .next t) : t.fixed = s.fixed := by
  unfold execTrigInEdge at h
  refine fixed_of_onUnit h ?_
  clear h
  try dsimp only
  try (repeat' split)
  all_goals (first | (simp (maxDischargeDepth := 30); done) | (try simp_all (maxDischargeDepth := 30)))
theorem execTrigOutPulse_fixed (line : Nat) (s : State) {t : State}
    (h : execTrigOutPulse line s = .next t) : t.fixed = s.fixed := by
  unfold execTrigOutPulse at h
  refine fixed_of_onUnit h ?_
  clear h
  try dsimp only
  try (repeat' split)
  all_goals (first | (simp (maxDischargeDepth := 30); done) | (try simp_all (maxDischargeDepth := 30)))
theorem execTrigOutFire_fixed (fn : Nat) (line : Nat) (s : State) {t : State}
    (h : execTrigOutFire fn line s = .next t) : t.fixed = s.fixed := by
  unfold execTrigOutFire at h
  refine fixed_of_onUnit h ?_
  clear h
  try dsimp only
  try (repeat' split)
  all_goals (first | (simp (maxDischargeDepth := 30); done) | (try simp_all (maxDischargeDepth := 30)))

end Sys2Proof.Machine
end

