-- ==== Sys2Proof/Laws/FixedExec2.lean ====
section
/-! SUPPORT. Commands keep what `State.fixed` reads, one law each. -/

namespace Sys2Proof.Machine

theorem execBlockPost_fixed (e : Nat) (s : State) {t : State}
    (h : execBlockPost e s = .next t) : t.fixed = s.fixed := by
  unfold execBlockPost at h
  refine fixed_of_onUnit h ?_
  clear h
  try dsimp only
  try (repeat' split)
  all_goals (first | (simp (maxDischargeDepth := 30); done) | (try simp_all (maxDischargeDepth := 30)))
theorem execTriggerEventArrive_fixed (line : Nat) (s : State) {t : State}
    (h : execTriggerEventArrive line s = .next t) : t.fixed = s.fixed := by
  unfold execTriggerEventArrive at h
  refine fixed_of_onUnit h ?_
  clear h
  try dsimp only
  try (repeat' split)
  all_goals (first | (simp (maxDischargeDepth := 30); done) | (try simp_all (maxDischargeDepth := 30)))
theorem execBarrierComplete_fixed (st : Nat) (b : Nat) (s : State) {t : State}
    (h : execBarrierComplete st b s = .next t) : t.fixed = s.fixed := by
  unfold execBarrierComplete at h
  refine fixed_of_onUnit h ?_
  clear h
  try dsimp only
  try (repeat' split)
  all_goals (first | (simp (maxDischargeDepth := 30); done) | (try simp_all (maxDischargeDepth := 30)))
theorem execMatchResult_fixed (e : Nat) (s : State) {t : State}
    (h : execMatchResult e s = .next t) : t.fixed = s.fixed := by
  unfold execMatchResult at h
  refine fixed_of_onUnit h ?_
  clear h
  try dsimp only
  try (repeat' split)
  all_goals (first | (simp (maxDischargeDepth := 30); done) | (try simp_all (maxDischargeDepth := 30)))
theorem execCondTimeout_fixed (e : Nat) (s : State) {t : State}
    (h : execCondTimeout e s = .next t) : t.fixed = s.fixed := by
  unfold execCondTimeout at h
  refine fixed_of_onUnit h ?_
  clear h
  try dsimp only
  try (repeat' split)
  all_goals (first | (simp (maxDischargeDepth := 30); done) | (try simp_all (maxDischargeDepth := 30)))
theorem execCacheMissFill_fixed (e : Nat) (s : State) {t : State}
    (h : execCacheMissFill e s = .next t) : t.fixed = s.fixed := by
  unfold execCacheMissFill at h
  refine fixed_of_onUnit h ?_
  clear h
  try dsimp only
  try (repeat' split)
  all_goals (first | (simp (maxDischargeDepth := 30); done) | (try simp_all (maxDischargeDepth := 30)))
theorem execNop_fixed (e : Nat) (s : State) {t : State} (h : execNop e s = .next t) : t.fixed = s.fixed := by
  unfold execNop at h
  refine fixed_of_onUnit h ?_
  clear h
  try dsimp only
  try (repeat' split)
  all_goals (first | (simp (maxDischargeDepth := 30); done) | (try simp_all (maxDischargeDepth := 30)))
theorem execVec_fixed (e : Nat) (s : State) {t : State} (h : execVec e s = .next t) : t.fixed = s.fixed := by
  unfold execVec at h
  refine fixed_of_onUnit h ?_
  clear h
  try dsimp only
  try (repeat' split)
  all_goals (first | (simp (maxDischargeDepth := 30); done) | (try simp_all (maxDischargeDepth := 30)))
theorem execRpt_fixed (e : Nat) (s : State) {t : State} (h : execRpt e s = .next t) : t.fixed = s.fixed := by
  unfold execRpt at h
  refine fixed_of_onUnit h ?_
  clear h
  try dsimp only
  try (repeat' split)
  all_goals (first | (simp (maxDischargeDepth := 30); done) | (try simp_all (maxDischargeDepth := 30)))
theorem execHold_fixed (e : Nat) (s : State) {t : State} (h : execHold e s = .next t) : t.fixed = s.fixed := by
  unfold execHold at h
  refine fixed_of_onUnit h ?_
  clear h
  try dsimp only
  try (repeat' split)
  all_goals (first | (simp (maxDischargeDepth := 30); done) | (try simp_all (maxDischargeDepth := 30)))
theorem execTset_fixed (e : Nat) (s : State) {t : State} (h : execTset e s = .next t) : t.fixed = s.fixed := by
  unfold execTset at h
  refine fixed_of_onUnit h ?_
  clear h
  try dsimp only
  try (repeat' split)
  all_goals (first | (simp (maxDischargeDepth := 30); done) | (try simp_all (maxDischargeDepth := 30)))
theorem execLvl_fixed (e : Nat) (s : State) {t : State} (h : execLvl e s = .next t) : t.fixed = s.fixed := by
  unfold execLvl at h
  refine fixed_of_onUnit h ?_
  clear h
  try dsimp only
  try (repeat' split)
  all_goals (first | (simp (maxDischargeDepth := 30); done) | (try simp_all (maxDischargeDepth := 30)))
theorem execMark_fixed (e : Nat) (s : State) {t : State} (h : execMark e s = .next t) : t.fixed = s.fixed := by
  unfold execMark at h
  refine fixed_of_onUnit h ?_
  clear h
  try dsimp only
  try (repeat' split)
  all_goals (first | (simp (maxDischargeDepth := 30); done) | (try simp_all (maxDischargeDepth := 30)))
theorem execSync_fixed (e : Nat) (s : State) {t : State} (h : execSync e s = .next t) : t.fixed = s.fixed := by
  unfold execSync at h
  refine fixed_of_onUnit h ?_
  clear h
  try dsimp only
  try (repeat' split)
  all_goals (first | (simp (maxDischargeDepth := 30); done) | (try simp_all (maxDischargeDepth := 30)))
theorem execMatch_fixed (e : Nat) (s : State) {t : State} (h : execMatch e s = .next t) : t.fixed = s.fixed := by
  unfold execMatch at h
  refine fixed_of_onUnit h ?_
  clear h
  try dsimp only
  try (repeat' split)
  all_goals (first | (simp (maxDischargeDepth := 30); done) | (try simp_all (maxDischargeDepth := 30)))
theorem execJmpf_fixed (e : Nat) (s : State) {t : State} (h : execJmpf e s = .next t) : t.fixed = s.fixed := by
  unfold execJmpf at h
  refine fixed_of_onUnit h ?_
  clear h
  try dsimp only
  try (repeat' split)
  all_goals (first | (simp (maxDischargeDepth := 30); done) | (try simp_all (maxDischargeDepth := 30)))
theorem execHalt_fixed (e : Nat) (s : State) {t : State} (h : execHalt e s = .next t) : t.fixed = s.fixed := by
  unfold execHalt at h
  refine fixed_of_onUnit h ?_
  clear h
  try dsimp only
  try (repeat' split)
  all_goals (first | (simp (maxDischargeDepth := 30); done) | (try simp_all (maxDischargeDepth := 30)))
theorem execJmp_fixed (e : Nat) (s : State) {t : State} (h : execJmp e s = .next t) : t.fixed = s.fixed := by
  unfold execJmp at h
  refine fixed_of_onUnit h ?_
  clear h
  try dsimp only
  try (repeat' split)
  all_goals (first | (simp (maxDischargeDepth := 30); done) | (try simp_all (maxDischargeDepth := 30)))
theorem execCall_fixed (e : Nat) (s : State) {t : State} (h : execCall e s = .next t) : t.fixed = s.fixed := by
  unfold execCall at h
  refine fixed_of_onUnit h ?_
  clear h
  try dsimp only
  try (repeat' split)
  all_goals (first | (simp (maxDischargeDepth := 30); done) | (try simp_all (maxDischargeDepth := 30)))
theorem execRet_fixed (e : Nat) (s : State) {t : State} (h : execRet e s = .next t) : t.fixed = s.fixed := by
  unfold execRet at h
  refine fixed_of_onUnit h ?_
  clear h
  try dsimp only
  try (repeat' split)
  all_goals (first | (simp (maxDischargeDepth := 30); done) | (try simp_all (maxDischargeDepth := 30)))
theorem execLoop_fixed (e : Nat) (s : State) {t : State} (h : execLoop e s = .next t) : t.fixed = s.fixed := by
  unfold execLoop at h
  refine fixed_of_onUnit h ?_
  clear h
  try dsimp only
  try (repeat' split)
  all_goals (first | (simp (maxDischargeDepth := 30); done) | (try simp_all (maxDischargeDepth := 30)))
theorem execEndloop_fixed (e : Nat) (s : State) {t : State} (h : execEndloop e s = .next t) : t.fixed = s.fixed := by
  unfold execEndloop at h
  refine fixed_of_onUnit h ?_
  clear h
  try dsimp only
  try (repeat' split)
  all_goals (first | (simp (maxDischargeDepth := 30); done) | (try simp_all (maxDischargeDepth := 30)))
theorem execInvalidOpcode_fixed (e : Nat) (s : State) {t : State}
    (h : execInvalidOpcode e s = .next t) : t.fixed = s.fixed := by
  unfold execInvalidOpcode at h
  refine fixed_of_onUnit h ?_
  clear h
  try dsimp only
  try (repeat' split)
  all_goals (first | (simp (maxDischargeDepth := 30); done) | (try simp_all (maxDischargeDepth := 30)))
theorem execScan_fixed (e : Nat) (s : State) {t : State} (h : execScan e s = .next t) : t.fixed = s.fixed := by
  unfold execScan at h
  refine fixed_of_onUnit h ?_
  clear h
  try dsimp only
  try (repeat' split)
  all_goals (first | (simp (maxDischargeDepth := 30); done) | (try simp_all (maxDischargeDepth := 30)))
theorem execDecomp_fixed (e : Nat) (s : State) {t : State} (h : execDecomp e s = .next t) : t.fixed = s.fixed := by
  unfold execDecomp at h
  refine fixed_of_onUnit h ?_
  clear h
  try dsimp only
  try (repeat' split)
  all_goals (first | (simp (maxDischargeDepth := 30); done) | (try simp_all (maxDischargeDepth := 30)))
theorem execMachineCheck_fixed (e : Nat) (kind : Nat) (s : State) {t : State}
    (h : execMachineCheck e kind s = .next t) : t.fixed = s.fixed := by
  unfold execMachineCheck at h
  refine fixed_of_onUnit h ?_
  clear h
  try dsimp only
  try (repeat' split)
  all_goals (first | (simp (maxDischargeDepth := 30); done) | (try simp_all (maxDischargeDepth := 30)))
theorem execReloadDone_fixed (e : Nat) (mismatch : Bool) (s : State) {t : State}
    (h : execReloadDone e mismatch s = .next t) : t.fixed = s.fixed := by
  unfold execReloadDone at h
  refine fixed_of_onUnit h ?_
  clear h
  try dsimp only
  try (repeat' split)
  all_goals (first | (simp (maxDischargeDepth := 30); done) | (try simp_all (maxDischargeDepth := 30)))
theorem execIdleScan_fixed (e : Nat) (bad : Bool) (s : State) {t : State}
    (h : execIdleScan e bad s = .next t) : t.fixed = s.fixed := by
  unfold execIdleScan at h
  refine fixed_of_onUnit h ?_
  clear h
  try dsimp only
  try (repeat' split)
  all_goals (first | (simp (maxDischargeDepth := 30); done) | (try simp_all (maxDischargeDepth := 30)))
theorem execMicroNext_fixed (e : Nat) (s : State) {t : State}
    (h : execMicroNext e s = .next t) : t.fixed = s.fixed := by
  unfold execMicroNext at h
  refine fixed_of_onUnit h ?_
  clear h
  try dsimp only
  try (repeat' split)
  all_goals (first | (simp (maxDischargeDepth := 30); done) | (try simp_all (maxDischargeDepth := 30)))
theorem execMicroJump_fixed (e : Nat) (s : State) {t : State}
    (h : execMicroJump e s = .next t) : t.fixed = s.fixed := by
  unfold execMicroJump at h
  refine fixed_of_onUnit h ?_
  clear h
  try dsimp only
  try (repeat' split)
  all_goals (first | (simp (maxDischargeDepth := 30); done) | (try simp_all (maxDischargeDepth := 30)))
theorem execMicroCjump_fixed (e : Nat) (s : State) {t : State}
    (h : execMicroCjump e s = .next t) : t.fixed = s.fixed := by
  unfold execMicroCjump at h
  refine fixed_of_onUnit h ?_
  clear h
  try dsimp only
  try (repeat' split)
  all_goals (first | (simp (maxDischargeDepth := 30); done) | (try simp_all (maxDischargeDepth := 30)))
theorem execMicroCall_fixed (e : Nat) (s : State) {t : State}
    (h : execMicroCall e s = .next t) : t.fixed = s.fixed := by
  unfold execMicroCall at h
  refine fixed_of_onUnit h ?_
  clear h
  try dsimp only
  try (repeat' split)
  all_goals (first | (simp (maxDischargeDepth := 30); done) | (try simp_all (maxDischargeDepth := 30)))
theorem execMicroRet_fixed (e : Nat) (s : State) {t : State}
    (h : execMicroRet e s = .next t) : t.fixed = s.fixed := by
  unfold execMicroRet at h
  refine fixed_of_onUnit h ?_
  clear h
  try dsimp only
  try (repeat' split)
  all_goals (first | (simp (maxDischargeDepth := 30); done) | (try simp_all (maxDischargeDepth := 30)))
theorem execMicroDispatch_fixed (e : Nat) (s : State) {t : State}
    (h : execMicroDispatch e s = .next t) : t.fixed = s.fixed := by
  unfold execMicroDispatch at h
  refine fixed_of_onUnit h ?_
  clear h
  try dsimp only
  try (repeat' split)
  all_goals (first | (simp (maxDischargeDepth := 30); done) | (try simp_all (maxDischargeDepth := 30)))
theorem execMicroUloop_fixed (e : Nat) (s : State) {t : State}
    (h : execMicroUloop e s = .next t) : t.fixed = s.fixed := by
  unfold execMicroUloop at h
  refine fixed_of_onUnit h ?_
  clear h
  try dsimp only
  try (repeat' split)
  all_goals (first | (simp (maxDischargeDepth := 30); done) | (try simp_all (maxDischargeDepth := 30)))
theorem execMicroResume_fixed (e : Nat) (s : State) {t : State}
    (h : execMicroResume e s = .next t) : t.fixed = s.fixed := by
  unfold execMicroResume at h
  refine fixed_of_onUnit h ?_
  clear h
  try dsimp only
  try (repeat' split)
  all_goals (first | (simp (maxDischargeDepth := 30); done) | (try simp_all (maxDischargeDepth := 30)))
theorem execEngineInterruptTake_fixed (e : Nat) (s : State) {t : State}
    (h : execEngineInterruptTake e s = .next t) : t.fixed = s.fixed := by
  unfold execEngineInterruptTake at h
  refine fixed_of_onUnit h ?_
  clear h
  try dsimp only
  try (repeat' split)
  all_goals (first | (simp (maxDischargeDepth := 30); done) | (try simp_all (maxDischargeDepth := 30)))
theorem execAbortTake_fixed (e : Nat) (s : State) {t : State}
    (h : execAbortTake e s = .next t) : t.fixed = s.fixed := by
  unfold execAbortTake at h
  refine fixed_of_onUnit h ?_
  clear h
  try dsimp only
  try (repeat' split)
  all_goals (first | (simp (maxDischargeDepth := 30); done) | (try simp_all (maxDischargeDepth := 30)))
theorem execSegmentPlace_fixed (s : State) {t : State} (h : execSegmentPlace s = .next t) : t.fixed = s.fixed := by
  unfold execSegmentPlace at h
  refine fixed_of_next h ?_
  clear h
  try dsimp only
  try (repeat' split)
  all_goals (first | (simp (maxDischargeDepth := 30); done) | (try simp_all (maxDischargeDepth := 30)))
theorem execDequeHandover_fixed (e : Nat) (s : State) {t : State}
    (h : execDequeHandover e s = .next t) : t.fixed = s.fixed := by
  unfold execDequeHandover at h
  refine fixed_of_onUnit h ?_
  clear h
  try dsimp only
  try (repeat' split)
  all_goals (first | (simp (maxDischargeDepth := 30); done) | (try simp_all (maxDischargeDepth := 30)))
theorem execRequeueSlotDrain_fixed (e : Nat) (s : State) {t : State}
    (h : execRequeueSlotDrain e s = .next t) : t.fixed = s.fixed := by
  unfold execRequeueSlotDrain at h
  refine fixed_of_onUnit h ?_
  clear h
  try dsimp only
  try (repeat' split)
  all_goals (first | (simp (maxDischargeDepth := 30); done) | (try simp_all (maxDischargeDepth := 30)))
theorem execDequePop_fixed (e : Nat) (s : State) {t : State}
    (h : execDequePop e s = .next t) : t.fixed = s.fixed := by
  unfold execDequePop at h
  refine fixed_of_onUnit h ?_
  clear h
  try dsimp only
  try (repeat' split)
  all_goals (first | (simp (maxDischargeDepth := 30); done) | (try simp_all (maxDischargeDepth := 30)))
theorem execStealProbe_fixed (e : Nat) (s : State) {t : State}
    (h : execStealProbe e s = .next t) : t.fixed = s.fixed := by
  unfold execStealProbe at h
  refine fixed_of_onUnit h ?_
  clear h
  try dsimp only
  try (repeat' split)
  all_goals (first | (simp (maxDischargeDepth := 30); done) | (try simp_all (maxDischargeDepth := 30)))
theorem execSegmentTake_fixed (e : Nat) (s : State) {t : State}
    (h : execSegmentTake e s = .next t) : t.fixed = s.fixed := by
  unfold execSegmentTake at h
  refine fixed_of_onUnit h ?_
  clear h
  try dsimp only
  try (repeat' split)
  all_goals (first | (simp (maxDischargeDepth := 30); done) | (try simp_all (maxDischargeDepth := 30)))
theorem execBlockDeadline_fixed (ch : Nat) (segId : Nat) (seq : Nat) (parityBad : Bool) (s : State) {t : State}
    (h : execBlockDeadline ch segId seq parityBad s = .next t) : t.fixed = s.fixed := by
  unfold execBlockDeadline at h
  refine fixed_of_onUnit h ?_
  clear h
  try dsimp only
  try (repeat' split)
  all_goals (first | (simp (maxDischargeDepth := 30); done) | (try simp_all (maxDischargeDepth := 30)))
theorem execBurstArm_fixed (fn : Nat) (st : Nat) (frame : Bool) (s : State) {t : State}
    (h : execBurstArm fn st frame s = .next t) : t.fixed = s.fixed := by
  unfold execBurstArm at h
  refine fixed_of_onUnit h ?_
  clear h
  try dsimp only
  try (repeat' split)
  all_goals (first | (simp (maxDischargeDepth := 30); done) | (try simp_all (maxDischargeDepth := 30)))
theorem execBurstDisarm_fixed (fn : Nat) (st : Nat) (s : State) {t : State}
    (h : execBurstDisarm fn st s = .next t) : t.fixed = s.fixed := by
  unfold execBurstDisarm at h
  refine fixed_of_onUnit h ?_
  clear h
  try dsimp only
  try (repeat' split)
  all_goals (first | (simp (maxDischargeDepth := 30); done) | (try simp_all (maxDischargeDepth := 30)))
theorem execBurstStart_fixed (fn : Nat) (st : Nat) (t24 : Nat) (s : State) {t : State}
    (h : execBurstStart fn st t24 s = .next t) : t.fixed = s.fixed := by
  unfold execBurstStart at h
  refine fixed_of_onUnit h ?_
  clear h
  try dsimp only
  try (repeat' split)
  all_goals (first | (simp (maxDischargeDepth := 30); done) | (try simp_all (maxDischargeDepth := 30)))
theorem execBurstStop_fixed (fn : Nat) (st : Nat) (s : State) {t : State}
    (h : execBurstStop fn st s = .next t) : t.fixed = s.fixed := by
  unfold execBurstStop at h
  refine fixed_of_onUnit h ?_
  clear h
  try dsimp only
  try (repeat' split)
  all_goals (first | (simp (maxDischargeDepth := 30); done) | (try simp_all (maxDischargeDepth := 30)))
theorem execBurstAbort_fixed (fn : Nat) (st : Nat) (s : State) {t : State}
    (h : execBurstAbort fn st s = .next t) : t.fixed = s.fixed := by
  unfold execBurstAbort at h
  refine fixed_of_onUnit h ?_
  clear h
  try dsimp only
  try (repeat' split)
  all_goals (first | (simp (maxDischargeDepth := 30); done) | (try simp_all (maxDischargeDepth := 30)))
theorem execBurstAck_fixed (fn : Nat) (st : Nat) (s : State) {t : State}
    (h : execBurstAck fn st s = .next t) : t.fixed = s.fixed := by
  unfold execBurstAck at h
  refine fixed_of_onUnit h ?_
  clear h
  try dsimp only
  try (repeat' split)
  all_goals (first | (simp (maxDischargeDepth := 30); done) | (try simp_all (maxDischargeDepth := 30)))
theorem execBurstCmdInvalid_fixed (fn : Nat) (st : Nat) (op : Nat) (s : State) {t : State}
    (h : execBurstCmdInvalid fn st op s = .next t) : t.fixed = s.fixed := by
  unfold execBurstCmdInvalid at h
  refine fixed_of_onUnit h ?_
  clear h
  try dsimp only
  try (repeat' split)
  all_goals (first | (simp (maxDischargeDepth := 30); done) | (try simp_all (maxDischargeDepth := 30)))
theorem execRegionThermalShutdown_fixed (r : Nat) (s : State) {t : State}
    (h : execRegionThermalShutdown r s = .next t) : t.fixed = s.fixed := by
  unfold execRegionThermalShutdown at h
  refine fixed_of_onUnit h ?_
  clear h
  try dsimp only
  try (repeat' split)
  all_goals (first | (simp (maxDischargeDepth := 30); done) | (try simp_all (maxDischargeDepth := 30)))
theorem execComparatorCrossing_fixed (ch : Nat) (cl : Bool) (rising : Bool) (tt : Nat) (s : State) {t : State}
    (h : execComparatorCrossing ch cl rising tt s = .next t) : t.fixed = s.fixed := by
  unfold execComparatorCrossing at h
  refine fixed_of_onUnit h ?_
  clear h
  try dsimp only
  try (repeat' split)
  all_goals (first | (simp (maxDischargeDepth := 30); done) | (try simp_all (maxDischargeDepth := 30)))
theorem execCompareResult_fixed (ch : Nat) (s : State) {t : State}
    (h : execCompareResult ch s = .next t) : t.fixed = s.fixed := by
  unfold execCompareResult at h
  refine fixed_of_onUnit h ?_
  clear h
  try dsimp only
  try (repeat' split)
  all_goals (first | (simp (maxDischargeDepth := 30); done) | (try simp_all (maxDischargeDepth := 30)))
theorem execLclkTick_fixed (st : Nat) (s : State) {t : State}
    (h : execLclkTick st s = .next t) : t.fixed = s.fixed := by
  unfold execLclkTick at h
  refine fixed_of_onUnit h ?_
  clear h
  try dsimp only
  try (repeat' split)
  all_goals (first | (simp (maxDischargeDepth := 30); done) | (try simp_all (maxDischargeDepth := 30)))
theorem execBlkOwnerWrite_fixed (fn : Nat) (ty : Nat) (inst : Nat) (val : Nat) (s : State) {t : State}
    (h : execBlkOwnerWrite fn ty inst val s = .next t) : t.fixed = s.fixed := by
  unfold execBlkOwnerWrite at h
  refine fixed_of_onUnit h ?_
  clear h
  try dsimp only
  try (repeat' split)
  all_goals (first | (simp (maxDischargeDepth := 30); done) | (try simp_all (maxDischargeDepth := 30)))
theorem execSiteChMaskWrite_fixed (fn : Nat) (st : Nat) (k : Nat) (val : Nat) (s : State) {t : State}
    (h : execSiteChMaskWrite fn st k val s = .next t) : t.fixed = s.fixed := by
  unfold execSiteChMaskWrite at h
  refine fixed_of_onUnit h ?_
  clear h
  try dsimp only
  try (repeat' split)
  all_goals (first | (simp (maxDischargeDepth := 30); done) | (try simp_all (maxDischargeDepth := 30)))
theorem execSiteCluMaskWrite_fixed (fn : Nat) (st : Nat) (val : Nat) (s : State) {t : State}
    (h : execSiteCluMaskWrite fn st val s = .next t) : t.fixed = s.fixed := by
  unfold execSiteCluMaskWrite at h
  refine fixed_of_onUnit h ?_
  clear h
  try dsimp only
  try (repeat' split)
  all_goals (first | (simp (maxDischargeDepth := 30); done) | (try simp_all (maxDischargeDepth := 30)))
theorem execSiteTeMaskWrite_fixed (fn : Nat) (st : Nat) (k : Nat) (val : Nat) (s : State) {t : State}
    (h : execSiteTeMaskWrite fn st k val s = .next t) : t.fixed = s.fixed := by
  unfold execSiteTeMaskWrite at h
  refine fixed_of_onUnit h ?_
  clear h
  try dsimp only
  try (repeat' split)
  all_goals (first | (simp (maxDischargeDepth := 30); done) | (try simp_all (maxDischargeDepth := 30)))
theorem execSiteQueueRangeWrite_fixed (fn : Nat) (st : Nat) (isCount : Bool) (val : Nat) (s : State) {t : State}
    (h : execSiteQueueRangeWrite fn st isCount val s = .next t) : t.fixed = s.fixed := by
  unfold execSiteQueueRangeWrite at h
  refine fixed_of_onUnit h ?_
  clear h
  try dsimp only
  try (repeat' split)
  all_goals (first | (simp (maxDischargeDepth := 30); done) | (try simp_all (maxDischargeDepth := 30)))
theorem execHistSample_fixed (k : Nat) (s : State) {t : State}
    (h : execHistSample k s = .next t) : t.fixed = s.fixed := by
  unfold execHistSample at h
  refine fixed_of_onUnit h ?_
  clear h
  try dsimp only
  try (repeat' split)
  all_goals (first | (simp (maxDischargeDepth := 30); done) | (try simp_all (maxDischargeDepth := 30)))
theorem execHistRunStart_fixed (fn : Nat) (k : Nat) (s : State) {t : State}
    (h : execHistRunStart fn k s = .next t) : t.fixed = s.fixed := by
  unfold execHistRunStart at h
  refine fixed_of_onUnit h ?_
  clear h
  try dsimp only
  try (repeat' split)
  all_goals (first | (simp (maxDischargeDepth := 30); done) | (try simp_all (maxDischargeDepth := 30)))
theorem execHistRunStop_fixed (fn : Nat) (k : Nat) (s : State) {t : State}
    (h : execHistRunStop fn k s = .next t) : t.fixed = s.fixed := by
  unfold execHistRunStop at h
  refine fixed_of_onUnit h ?_
  clear h
  try dsimp only
  try (repeat' split)
  all_goals (first | (simp (maxDischargeDepth := 30); done) | (try simp_all (maxDischargeDepth := 30)))
theorem execHistClear_fixed (fn : Nat) (k : Nat) (s : State) {t : State}
    (h : execHistClear fn k s = .next t) : t.fixed = s.fixed := by
  unfold execHistClear at h
  refine fixed_of_onUnit h ?_
  clear h
  try dsimp only
  try (repeat' split)
  all_goals (first | (simp (maxDischargeDepth := 30); done) | (try simp_all (maxDischargeDepth := 30)))
theorem execCmdlatSample_fixed (ns : Nat) (s : State) {t : State} (h : execCmdlatSample ns s = .next t) : t.fixed = s.fixed := by
  unfold execCmdlatSample at h
  refine fixed_of_next h ?_
  clear h
  try dsimp only
  try (repeat' split)
  all_goals (first | (simp (maxDischargeDepth := 30); done) | (try simp_all (maxDischargeDepth := 30)))
theorem execQdepthSample_fixed (s : State) {t : State} (h : execQdepthSample s = .next t) : t.fixed = s.fixed := by
  unfold execQdepthSample at h
  refine fixed_of_next h ?_
  clear h
  try dsimp only
  try (repeat' split)
  all_goals (first | (simp (maxDischargeDepth := 30); done) | (try simp_all (maxDischargeDepth := 30)))
theorem execCmdClear_fixed (fn : Nat) (s : State) {t : State}
    (h : execCmdClear fn s = .next t) : t.fixed = s.fixed := by
  unfold execCmdClear at h
  refine fixed_of_onUnit h ?_
  clear h
  try dsimp only
  try (repeat' split)
  all_goals (first | (simp (maxDischargeDepth := 30); done) | (try simp_all (maxDischargeDepth := 30)))
theorem execQdClear_fixed (fn : Nat) (s : State) {t : State}
    (h : execQdClear fn s = .next t) : t.fixed = s.fixed := by
  unfold execQdClear at h
  refine fixed_of_onUnit h ?_
  clear h
  try dsimp only
  try (repeat' split)
  all_goals (first | (simp (maxDischargeDepth := 30); done) | (try simp_all (maxDischargeDepth := 30)))
theorem execErrEntryClose_fixed (s : State) {t : State} (h : execErrEntryClose s = .next t) : t.fixed = s.fixed := by
  unfold execErrEntryClose at h
  refine fixed_of_next h ?_
  clear h
  try dsimp only
  try (repeat' split)
  all_goals (first | (simp (maxDischargeDepth := 30); done) | (try simp_all (maxDischargeDepth := 30)))
theorem execErrReserveWrite_fixed (s : State) {t : State}
    (h : execErrReserveWrite s = .next t) : t.fixed = s.fixed := by
  unfold execErrReserveWrite at h
  refine fixed_of_next h ?_
  clear h
  try dsimp only
  try (repeat' split)
  all_goals (first | (simp (maxDischargeDepth := 30); done) | (try simp_all (maxDischargeDepth := 30)))
theorem execErrMirror_fixed (s : State) {t : State} (h : execErrMirror s = .next t) : t.fixed = s.fixed := by
  unfold execErrMirror at h
  refine fixed_of_next h ?_
  clear h
  try dsimp only
  try (repeat' split)
  all_goals (first | (simp (maxDischargeDepth := 30); done) | (try simp_all (maxDischargeDepth := 30)))
theorem execMcLoadDone_fixed (sigs : Nat) (s : State) {t : State}
    (h : execMcLoadDone sigs s = .next t) : t.fixed = s.fixed := by
  unfold execMcLoadDone at h
  refine fixed_of_next h ?_
  clear h
  try dsimp only
  try (repeat' split)
  all_goals (first | (simp (maxDischargeDepth := 30); done) | (try simp_all (maxDischargeDepth := 30)))
theorem execBankAccess_fixed (l : List BankReq) (s : State) {t : State}
    (h : execBankAccess l s = .next t) : t.fixed = s.fixed := by
  unfold execBankAccess at h
  refine fixed_of_onUnit h ?_
  clear h
  try dsimp only
  try (repeat' split)
  all_goals (first | (simp (maxDischargeDepth := 30); done) | (try simp_all (maxDischargeDepth := 30)))
theorem execBmemTestRegionStart_fixed (s : State) {t : State}
    (h : execBmemTestRegionStart s = .next t) : t.fixed = s.fixed := by
  unfold execBmemTestRegionStart at h
  refine fixed_of_next h ?_
  clear h
  try dsimp only
  try (repeat' split)
  all_goals (first | (simp (maxDischargeDepth := 30); done) | (try simp_all (maxDischargeDepth := 30)))
theorem execBmemMarchDone_fixed (fails : List Nat) (s : State) {t : State}
    (h : execBmemMarchDone fails s = .next t) : t.fixed = s.fixed := by
  unfold execBmemMarchDone at h
  refine fixed_of_next h ?_
  clear h
  try dsimp only
  try (repeat' split)
  all_goals (first | (simp (maxDischargeDepth := 30); done) | (try simp_all (maxDischargeDepth := 30)))
theorem execHbmTempRefresh_fixed (t0 t1 t2 : Int × Nat) (s : State) {t : State}
    (h : execHbmTempRefresh t0 t1 t2 s = .next t) : t.fixed = s.fixed := by
  unfold execHbmTempRefresh at h
  refine fixed_of_next h ?_
  clear h
  try dsimp only
  try (repeat' split)
  all_goals (first | (simp (maxDischargeDepth := 30); done) | (try simp_all (maxDischargeDepth := 30)))
theorem execHbmBwWindow_fixed (i : Nat) (served : List Nat) (demand : List Nat) (thr : Nat) (bp : Bool)
    (s : State) {t : State} (h : execHbmBwWindow i served demand thr bp s = .next t) : t.fixed = s.fixed := by
  unfold execHbmBwWindow at h
  refine fixed_of_onUnit h ?_
  clear h
  try dsimp only
  try (repeat' split)
  all_goals (first | (simp (maxDischargeDepth := 30); done) | (try simp_all (maxDischargeDepth := 30)))
theorem execCmdNop_fixed (q : Nat) (s : State) {t : State} (h : execCmdNop q s = .next t) : t.fixed = s.fixed := by
  unfold execCmdNop at h
  refine fixed_of_onUnit h ?_
  clear h
  try dsimp only
  try (repeat' split)
  all_goals (first | (simp (maxDischargeDepth := 30); done) | (try simp_all (maxDischargeDepth := 30)))
theorem execCmdUnknown_fixed (q : Nat) (s : State) {t : State}
    (h : execCmdUnknown q s = .next t) : t.fixed = s.fixed := by
  unfold execCmdUnknown at h
  refine fixed_of_onUnit h ?_
  clear h
  try dsimp only
  try (repeat' split)
  all_goals (first | (simp (maxDischargeDepth := 30); done) | (try simp_all (maxDischargeDepth := 30)))
theorem execCopyIn_fixed (q : Nat) (data : List Byte) (s : State) {t : State}
    (h : execCopyIn q data s = .next t) : t.fixed = s.fixed := by
  unfold execCopyIn at h
  refine fixed_of_onUnit h ?_
  clear h
  try dsimp only
  try (repeat' split)
  all_goals (first | (simp (maxDischargeDepth := 30); done) | (try simp_all (maxDischargeDepth := 30)))
theorem execCopyOut_fixed (q : Nat) (err : Option Nat) (s : State) {t : State}
    (h : execCopyOut q err s = .next t) : t.fixed = s.fixed := by
  unfold execCopyOut at h
  refine fixed_of_onUnit h ?_
  clear h
  try dsimp only
  try (repeat' split)
  all_goals (first | (simp (maxDischargeDepth := 30); done) | (try simp_all (maxDischargeDepth := 30)))
theorem execQueueOut_fixed (q : Nat) (err : Option Nat) (s : State) {t : State}
    (h : execQueueOut q err s = .next t) : t.fixed = s.fixed := by
  unfold execQueueOut at h
  refine fixed_of_onUnit h ?_
  clear h
  try dsimp only
  try (repeat' split)
  all_goals (first | (simp (maxDischargeDepth := 30); done) | (try simp_all (maxDischargeDepth := 30)))
theorem execBarrierSet_fixed (q : Nat) (s : State) {t : State}
    (h : execBarrierSet q s = .next t) : t.fixed = s.fixed := by
  unfold execBarrierSet at h
  refine fixed_of_onUnit h ?_
  clear h
  try dsimp only
  try (repeat' split)
  all_goals (first | (simp (maxDischargeDepth := 30); done) | (try simp_all (maxDischargeDepth := 30)))
theorem execFcuScrambleLoad_fixed (q : Nat) (s : State) {t : State}
    (h : execFcuScrambleLoad q s = .next t) : t.fixed = s.fixed := by
  unfold execFcuScrambleLoad at h
  refine fixed_of_onUnit h ?_
  clear h
  try dsimp only
  try (repeat' split)
  all_goals (first | (simp (maxDischargeDepth := 30); done) | (try simp_all (maxDischargeDepth := 30)))
theorem execCalRead_fixed (q : Nat) (err : Option Nat) (s : State) {t : State}
    (h : execCalRead q err s = .next t) : t.fixed = s.fixed := by
  unfold execCalRead at h
  refine fixed_of_onUnit h ?_
  clear h
  try dsimp only
  try (repeat' split)
  all_goals (first | (simp (maxDischargeDepth := 30); done) | (try simp_all (maxDischargeDepth := 30)))
theorem execMcInstall_fixed (q : Nat) (key : List Byte) (s : State) {t : State}
    (h : execMcInstall q key s = .next t) : t.fixed = s.fixed := by
  unfold execMcInstall at h
  refine fixed_of_onUnit h ?_
  clear h
  try dsimp only
  try (repeat' split)
  all_goals (first | (simp (maxDischargeDepth := 30); done) | (try simp_all (maxDischargeDepth := 30)))
theorem execMcInstallDone_fixed (s : State) {t : State} (h : execMcInstallDone s = .next t) : t.fixed = s.fixed := by
  unfold execMcInstallDone at h
  refine fixed_of_next h ?_
  clear h
  try dsimp only
  try (repeat' split)
  all_goals (first | (simp (maxDischargeDepth := 30); done) | (try simp_all (maxDischargeDepth := 30)))
theorem execMemGrant_fixed (q : Nat) (s : State) {t : State}
    (h : execMemGrant q s = .next t) : t.fixed = s.fixed := by
  unfold execMemGrant at h
  refine fixed_of_onUnit h ?_
  clear h
  try dsimp only
  try (repeat' split)
  all_goals (first | (simp (maxDischargeDepth := 30); done) | (try simp_all (maxDischargeDepth := 30)))
theorem execMemGrantDone_fixed (s : State) {t : State} (h : execMemGrantDone s = .next t) : t.fixed = s.fixed := by
  unfold execMemGrantDone at h
  refine fixed_of_next h ?_
  clear h
  try dsimp only
  try (repeat' split)
  all_goals (first | (simp (maxDischargeDepth := 30); done) | (try simp_all (maxDischargeDepth := 30)))
theorem execHbmUncorrRead_fixed (addr : Nat) (who : Nat) (i : Nat) (j : Nat) (s : State) {t : State}
    (h : execHbmUncorrRead addr who i j s = .next t) : t.fixed = s.fixed := by
  unfold execHbmUncorrRead at h
  refine fixed_of_onUnit h ?_
  clear h
  try dsimp only
  try (repeat' split)
  all_goals (first | (simp (maxDischargeDepth := 30); done) | (try simp_all (maxDischargeDepth := 30)))
theorem execGlbHostTimeCommit_fixed (fn : Nat) (hi : Nat) (s : State) {t : State}
    (h : execGlbHostTimeCommit fn hi s = .next t) : t.fixed = s.fixed := by
  unfold execGlbHostTimeCommit at h
  refine fixed_of_onUnit h ?_
  clear h
  try dsimp only
  try (repeat' split)
  all_goals (first | (simp (maxDischargeDepth := 30); done) | (try simp_all (maxDischargeDepth := 30)))
theorem execHwBoundWrite_fixed (s : State) {t : State} (h : execHwBoundWrite s = .next t) : t.fixed = s.fixed := by
  unfold execHwBoundWrite at h
  refine fixed_of_next h ?_
  clear h
  try dsimp only
  try (repeat' split)
  all_goals (first | (simp (maxDischargeDepth := 30); done) | (try simp_all (maxDischargeDepth := 30)))
theorem execDoeUnknown_fixed (fn : Nat) (raw : List Byte) (s : State) {t : State}
    (h : execDoeUnknown fn raw s = .next t) : t.fixed = s.fixed := by
  unfold execDoeUnknown at h
  refine fixed_of_onUnit h ?_
  clear h
  try dsimp only
  try (repeat' split)
  all_goals (first | (simp (maxDischargeDepth := 30); done) | (try simp_all (maxDischargeDepth := 30)))
theorem execDoeStatus_fixed (fn : Nat) (raw : List Byte) (s : State) {t : State}
    (h : execDoeStatus fn raw s = .next t) : t.fixed = s.fixed := by
  unfold execDoeStatus at h
  refine fixed_of_onUnit h ?_
  clear h
  try dsimp only
  try (repeat' split)
  all_goals (first | (simp (maxDischargeDepth := 30); done) | (try simp_all (maxDischargeDepth := 30)))
theorem execLoad_fixed (fn : Nat) (head src len dest : List Byte) (s : State) {t : State}
    (h : execLoad fn head src len dest s = .next t) : t.fixed = s.fixed := by
  unfold execLoad at h
  refine fixed_of_onUnit h ?_
  clear h
  try dsimp only
  try (repeat' split)
  all_goals (first | (simp (maxDischargeDepth := 30); done) | (try simp_all (maxDischargeDepth := 30)))
theorem execUnload_fixed (fn : Nat) (raw : List Byte) (s : State) {t : State}
    (h : execUnload fn raw s = .next t) : t.fixed = s.fixed := by
  unfold execUnload at h
  refine fixed_of_onUnit h ?_
  clear h
  try dsimp only
  try (repeat' split)
  all_goals (first | (simp (maxDischargeDepth := 30); done) | (try simp_all (maxDischargeDepth := 30)))
theorem execFwInstall_fixed (fn : Nat) (raw : List Byte) (sig : FwVerdict) (s : State) {t : State}
    (h : execFwInstall fn raw sig s = .next t) : t.fixed = s.fixed := by
  unfold execFwInstall at h
  refine fixed_of_onUnit h ?_
  clear h
  try dsimp only
  try (repeat' split)
  all_goals (first | (simp (maxDischargeDepth := 30); done) | (try simp_all (maxDischargeDepth := 30)))
theorem execFwRecover_fixed (fn : Nat) (raw : List Byte) (sig : FwVerdict) (s : State) {t : State}
    (h : execFwRecover fn raw sig s = .next t) : t.fixed = s.fixed := by
  unfold execFwRecover at h
  refine fixed_of_onUnit h ?_
  clear h
  try dsimp only
  try (repeat' split)
  all_goals (first | (simp (maxDischargeDepth := 30); done) | (try simp_all (maxDischargeDepth := 30)))
theorem execFloorCommit_fixed (fn : Nat) (raw : List Byte) (s : State) {t : State}
    (h : execFloorCommit fn raw s = .next t) : t.fixed = s.fixed := by
  unfold execFloorCommit at h
  refine fixed_of_onUnit h ?_
  clear h
  try dsimp only
  try (repeat' split)
  all_goals (first | (simp (maxDischargeDepth := 30); done) | (try simp_all (maxDischargeDepth := 30)))
theorem execSecSealedSitesWrite_fixed (fn : Nat) (val : Nat) (s : State) {t : State}
    (h : execSecSealedSitesWrite fn val s = .next t) : t.fixed = s.fixed := by
  unfold execSecSealedSitesWrite at h
  refine fixed_of_onUnit h ?_
  clear h
  try dsimp only
  try (repeat' split)
  all_goals (first | (simp (maxDischargeDepth := 30); done) | (try simp_all (maxDischargeDepth := 30)))
theorem execLifecycleTransition_fixed (fn : Nat) (to_ : Nat) (token : Nat) (rest : Nat) (s : State) {t : State}
    (h : execLifecycleTransition fn to_ token rest s = .next t) : t.fixed = s.fixed := by
  unfold execLifecycleTransition at h
  refine fixed_of_onUnit h ?_
  clear h
  try dsimp only
  try (repeat' split)
  all_goals (first | (simp (maxDischargeDepth := 30); done) | (try simp_all (maxDischargeDepth := 30)))
theorem execTamper_fixed (src : Nat) (s : State) {t : State}
    (h : execTamper src s = .next t) : t.fixed = s.fixed := by
  unfold execTamper at h
  refine fixed_of_onUnit h ?_
  clear h
  try dsimp only
  try (repeat' split)
  all_goals (first | (simp (maxDischargeDepth := 30); done) | (try simp_all (maxDischargeDepth := 30)))
theorem execTamperConditionEnd_fixed (src : Nat) (s : State) {t : State}
    (h : execTamperConditionEnd src s = .next t) : t.fixed = s.fixed := by
  unfold execTamperConditionEnd at h
  refine fixed_of_onUnit h ?_
  clear h
  try dsimp only
  try (repeat' split)
  all_goals (first | (simp (maxDischargeDepth := 30); done) | (try simp_all (maxDischargeDepth := 30)))
theorem execIdeIntegrityFail_fixed (fn : Nat) (s : State) {t : State}
    (h : execIdeIntegrityFail fn s = .next t) : t.fixed = s.fixed := by
  unfold execIdeIntegrityFail at h
  refine fixed_of_onUnit h ?_
  clear h
  try dsimp only
  try (repeat' split)
  all_goals (first | (simp (maxDischargeDepth := 30); done) | (try simp_all (maxDischargeDepth := 30)))
theorem execSpdmGetVersion_fixed (path : Nat) (s : State) {t : State}
    (h : execSpdmGetVersion path s = .next t) : t.fixed = s.fixed := by
  unfold execSpdmGetVersion at h
  refine State.onSpdm_fixed _ _ _ _ (fun u => ?_) h
  clear h
  try dsimp only
  try (repeat' split)
  all_goals (first | (simp (maxDischargeDepth := 30); done) | (try simp_all (maxDischargeDepth := 30)))
theorem execSpdmGetCapabilities_fixed (path : Nat) (req : List Byte) (s : State) {t : State}
    (h : execSpdmGetCapabilities path req s = .next t) : t.fixed = s.fixed := by
  unfold execSpdmGetCapabilities at h
  refine State.onSpdm_fixed _ _ _ _ (fun u => ?_) h
  clear h
  try dsimp only
  try (repeat' split)
  all_goals (first | (simp (maxDischargeDepth := 30); done) | (try simp_all (maxDischargeDepth := 30)))
theorem execSpdmNegotiateAlgorithms_fixed (path : Nat) (req : List Byte) (s : State) {t : State}
    (h : execSpdmNegotiateAlgorithms path req s = .next t) : t.fixed = s.fixed := by
  unfold execSpdmNegotiateAlgorithms at h
  refine State.onSpdm_fixed _ _ _ _ (fun u => ?_) h
  clear h
  try dsimp only
  try (repeat' split)
  all_goals (first | (simp (maxDischargeDepth := 30); done) | (try simp_all (maxDischargeDepth := 30)))
theorem execSpdmGetDigests_fixed (path : Nat) (s : State) {t : State}
    (h : execSpdmGetDigests path s = .next t) : t.fixed = s.fixed := by
  unfold execSpdmGetDigests at h
  refine State.onSpdm_fixed _ _ _ _ (fun u => ?_) h
  clear h
  try dsimp only
  try (repeat' split)
  all_goals (first | (simp (maxDischargeDepth := 30); done) | (try simp_all (maxDischargeDepth := 30)))
theorem execSpdmGetCertificate_fixed (path : Nat) (slot : Nat) (off : Nat) (len : Nat) (s : State) {t : State}
    (h : execSpdmGetCertificate path slot off len s = .next t) : t.fixed = s.fixed := by
  unfold execSpdmGetCertificate at h
  refine State.onSpdm_fixed _ _ _ _ (fun u => ?_) h
  clear h
  try dsimp only
  try (repeat' split)
  all_goals (first | (simp (maxDischargeDepth := 30); done) | (try simp_all (maxDischargeDepth := 30)))
theorem execSpdmChallenge_fixed (path : Nat) (req : List Byte) (s : State) {t : State}
    (h : execSpdmChallenge path req s = .next t) : t.fixed = s.fixed := by
  unfold execSpdmChallenge at h
  refine State.onSpdm_fixed _ _ _ _ (fun u => ?_) h
  clear h
  try dsimp only
  try (repeat' split)
  all_goals (first | (simp (maxDischargeDepth := 30); done) | (try simp_all (maxDischargeDepth := 30)))
theorem execSpdmGetMeasurements_fixed (path : Nat) (req : List Byte) (s : State) {t : State}
    (h : execSpdmGetMeasurements path req s = .next t) : t.fixed = s.fixed := by
  unfold execSpdmGetMeasurements at h
  refine State.onSpdm_fixed _ _ _ _ (fun u => ?_) h
  clear h
  try dsimp only
  try (repeat' split)
  all_goals (first | (simp (maxDischargeDepth := 30); done) | (try simp_all (maxDischargeDepth := 30)))
theorem execSpdmKeyExchange_fixed (path : Nat) (req : List Byte) (s : State) {t : State}
    (h : execSpdmKeyExchange path req s = .next t) : t.fixed = s.fixed := by
  unfold execSpdmKeyExchange at h
  refine State.onSpdm_fixed _ _ _ _ (fun u => ?_) h
  clear h
  try dsimp only
  try (repeat' split)
  all_goals (first | (simp (maxDischargeDepth := 30); done) | (try simp_all (maxDischargeDepth := 30)))
theorem execSpdmFinish_fixed (path : Nat) (ok : Bool) (s : State) {t : State}
    (h : execSpdmFinish path ok s = .next t) : t.fixed = s.fixed := by
  unfold execSpdmFinish at h
  refine State.onSpdm_fixed _ _ _ _ (fun u => ?_) h
  clear h
  try dsimp only
  try (repeat' split)
  all_goals (first | (simp (maxDischargeDepth := 30); done) | (try simp_all (maxDischargeDepth := 30)))
theorem execSpdmHeartbeat_fixed (path : Nat) (s : State) {t : State}
    (h : execSpdmHeartbeat path s = .next t) : t.fixed = s.fixed := by
  unfold execSpdmHeartbeat at h
  refine State.onSpdm_fixed _ _ _ _ (fun u => ?_) h
  clear h
  try dsimp only
  try (repeat' split)
  all_goals (first | (simp (maxDischargeDepth := 30); done) | (try simp_all (maxDischargeDepth := 30)))
theorem execSpdmKeyUpdate_fixed (path : Nat) (s : State) {t : State}
    (h : execSpdmKeyUpdate path s = .next t) : t.fixed = s.fixed := by
  unfold execSpdmKeyUpdate at h
  refine State.onSpdm_fixed _ _ _ _ (fun u => ?_) h
  clear h
  try dsimp only
  try (repeat' split)
  all_goals (first | (simp (maxDischargeDepth := 30); done) | (try simp_all (maxDischargeDepth := 30)))
theorem execSpdmEndSession_fixed (path : Nat) (s : State) {t : State}
    (h : execSpdmEndSession path s = .next t) : t.fixed = s.fixed := by
  unfold execSpdmEndSession at h
  refine State.onSpdm_fixed _ _ _ _ (fun u => ?_) h
  clear h
  try dsimp only
  try (repeat' split)
  all_goals (first | (simp (maxDischargeDepth := 30); done) | (try simp_all (maxDischargeDepth := 30)))
theorem execSpdmUnsupported_fixed (path : Nat) (s : State) {t : State}
    (h : execSpdmUnsupported path s = .next t) : t.fixed = s.fixed := by
  unfold execSpdmUnsupported at h
  refine State.onSpdm_fixed _ _ _ _ (fun u => ?_) h
  clear h
  try dsimp only
  try (repeat' split)
  all_goals (first | (simp (maxDischargeDepth := 30); done) | (try simp_all (maxDischargeDepth := 30)))
theorem execIdeKm_fixed (req : IdeKm) (s : State) {t : State}
    (h : execIdeKm req s = .next t) : t.fixed = s.fixed := by
  unfold execIdeKm at h
  refine State.onSpdm_fixed _ _ _ _ (fun u => ?_) h
  clear h
  try dsimp only
  try (repeat' split)
  all_goals (first | (simp (maxDischargeDepth := 30); done) | (try simp_all (maxDischargeDepth := 30)))
theorem execSetEndpointId_fixed (op : Nat) (eid : Nat) (s : State) {t : State}
    (h : execSetEndpointId op eid s = .next t) : t.fixed = s.fixed := by
  unfold execSetEndpointId at h
  refine fixed_of_next h ?_
  clear h
  try dsimp only
  try (repeat' split)
  all_goals (first | (simp (maxDischargeDepth := 30); done) | (try simp_all (maxDischargeDepth := 30)))
theorem execGetEndpointId_fixed (s : State) {t : State} (h : execGetEndpointId s = .next t) : t.fixed = s.fixed := by
  unfold execGetEndpointId at h
  refine fixed_of_next h ?_
  clear h
  try dsimp only
  try (repeat' split)
  all_goals (first | (simp (maxDischargeDepth := 30); done) | (try simp_all (maxDischargeDepth := 30)))
theorem execGetEndpointUuid_fixed (s : State) {t : State}
    (h : execGetEndpointUuid s = .next t) : t.fixed = s.fixed := by
  unfold execGetEndpointUuid at h
  refine fixed_of_next h ?_
  clear h
  try dsimp only
  try (repeat' split)
  all_goals (first | (simp (maxDischargeDepth := 30); done) | (try simp_all (maxDischargeDepth := 30)))
theorem execGetMctpVersionSupport_fixed (type : Nat) (s : State) {t : State}
    (h : execGetMctpVersionSupport type s = .next t) : t.fixed = s.fixed := by
  unfold execGetMctpVersionSupport at h
  refine fixed_of_next h ?_
  clear h
  try dsimp only
  try (repeat' split)
  all_goals (first | (simp (maxDischargeDepth := 30); done) | (try simp_all (maxDischargeDepth := 30)))
theorem execGetMessageTypeSupport_fixed (s : State) {t : State}
    (h : execGetMessageTypeSupport s = .next t) : t.fixed = s.fixed := by
  unfold execGetMessageTypeSupport at h
  refine fixed_of_next h ?_
  clear h
  try dsimp only
  try (repeat' split)
  all_goals (first | (simp (maxDischargeDepth := 30); done) | (try simp_all (maxDischargeDepth := 30)))
theorem execMctpUnsupported_fixed (type : Nat) (cmd : Nat) (s : State) {t : State}
    (h : execMctpUnsupported type cmd s = .next t) : t.fixed = s.fixed := by
  unfold execMctpUnsupported at h
  refine fixed_of_next h ?_
  clear h
  try dsimp only
  try (repeat' split)
  all_goals (first | (simp (maxDischargeDepth := 30); done) | (try simp_all (maxDischargeDepth := 30)))
theorem execExtest_fixed (seen : Nat) (drive : Nat) (s : State) {t : State}
    (h : execExtest seen drive s = .next t) : t.fixed = s.fixed := by
  unfold execExtest at h
  refine fixed_of_next h ?_
  clear h
  try dsimp only
  try (repeat' split)
  all_goals (first | (simp (maxDischargeDepth := 30); done) | (try simp_all (maxDischargeDepth := 30)))
theorem execIdcode_fixed (s : State) {t : State} (h : execIdcode s = .next t) : t.fixed = s.fixed := by
  unfold execIdcode at h
  refine fixed_of_next h ?_
  clear h
  try dsimp only
  try (repeat' split)
  all_goals (first | (simp (maxDischargeDepth := 30); done) | (try simp_all (maxDischargeDepth := 30)))
theorem execSamplePreload_fixed (seen : Nat) (load : Nat) (s : State) {t : State}
    (h : execSamplePreload seen load s = .next t) : t.fixed = s.fixed := by
  unfold execSamplePreload at h
  refine fixed_of_next h ?_
  clear h
  try dsimp only
  try (repeat' split)
  all_goals (first | (simp (maxDischargeDepth := 30); done) | (try simp_all (maxDischargeDepth := 30)))
theorem execClamp_fixed (s : State) {t : State} (h : execClamp s = .next t) : t.fixed = s.fixed := by
  unfold execClamp at h
  refine fixed_of_next h ?_
  clear h
  try dsimp only
  try (repeat' split)
  all_goals (first | (simp (maxDischargeDepth := 30); done) | (try simp_all (maxDischargeDepth := 30)))
theorem execHighz_fixed (s : State) {t : State} (h : execHighz s = .next t) : t.fixed = s.fixed := by
  unfold execHighz at h
  refine fixed_of_next h ?_
  clear h
  try dsimp only
  try (repeat' split)
  all_goals (first | (simp (maxDischargeDepth := 30); done) | (try simp_all (maxDischargeDepth := 30)))
theorem execBypass_fixed (code : Nat) (s : State) {t : State}
    (h : execBypass code s = .next t) : t.fixed = s.fixed := by
  unfold execBypass at h
  refine fixed_of_next h ?_
  clear h
  try dsimp only
  try (repeat' split)
  all_goals (first | (simp (maxDischargeDepth := 30); done) | (try simp_all (maxDischargeDepth := 30)))
theorem execBlkEnClear_fixed (fn : Nat) (ty : Nat) (inst : Nat) (s : State) {t : State}
    (h : execBlkEnClear fn ty inst s = .next t) : t.fixed = s.fixed := by
  unfold execBlkEnClear at h
  refine fixed_of_onUnit h ?_
  clear h
  try dsimp only
  try (repeat' split)
  all_goals (first | (simp (maxDischargeDepth := 30); done) | (try simp_all (maxDischargeDepth := 30)))
theorem execBlkEnSet_fixed (fn : Nat) (ty : Nat) (inst : Nat) (s : State) {t : State}
    (h : execBlkEnSet fn ty inst s = .next t) : t.fixed = s.fixed := by
  unfold execBlkEnSet at h
  refine fixed_of_onUnit h ?_
  clear h
  try dsimp only
  try (repeat' split)
  all_goals (first | (simp (maxDischargeDepth := 30); done) | (try simp_all (maxDischargeDepth := 30)))
theorem execBlkSoftReset_fixed (fn : Nat) (ty : Nat) (inst : Nat) (s : State) {t : State}
    (h : execBlkSoftReset fn ty inst s = .next t) : t.fixed = s.fixed := by
  unfold execBlkSoftReset at h
  refine fixed_of_onUnit h ?_
  clear h
  try dsimp only
  try (repeat' split)
  all_goals (first | (simp (maxDischargeDepth := 30); done) | (try simp_all (maxDischargeDepth := 30)))
theorem execBlkLock_fixed (fn : Nat) (ty : Nat) (inst : Nat) (s : State) {t : State}
    (h : execBlkLock fn ty inst s = .next t) : t.fixed = s.fixed := by
  unfold execBlkLock at h
  refine fixed_of_onUnit h ?_
  clear h
  try dsimp only
  try (repeat' split)
  all_goals (first | (simp (maxDischargeDepth := 30); done) | (try simp_all (maxDischargeDepth := 30)))
theorem execSoftResetDone_fixed (ty : Nat) (inst : Nat) (s : State) {t : State}
    (h : execSoftResetDone ty inst s = .next t) : t.fixed = s.fixed := by
  unfold execSoftResetDone at h
  refine fixed_of_onUnit h ?_
  clear h
  try dsimp only
  try (repeat' split)
  all_goals (first | (simp (maxDischargeDepth := 30); done) | (try simp_all (maxDischargeDepth := 30)))
theorem execBlkIrqSet_fixed (fn : Nat) (ty : Nat) (inst : Nat) (val : Nat) (s : State) {t : State}
    (h : execBlkIrqSet fn ty inst val s = .next t) : t.fixed = s.fixed := by
  unfold execBlkIrqSet at h
  refine fixed_of_onUnit h ?_
  clear h
  try dsimp only
  try (repeat' split)
  all_goals (first | (simp (maxDischargeDepth := 30); done) | (try simp_all (maxDischargeDepth := 30)))
theorem execBlkIrqEnableWrite_fixed (fn : Nat) (ty : Nat) (inst : Nat) (val : Nat) (s : State) {t : State}
    (h : execBlkIrqEnableWrite fn ty inst val s = .next t) : t.fixed = s.fixed := by
  unfold execBlkIrqEnableWrite at h
  refine fixed_of_onUnit h ?_
  clear h
  try dsimp only
  try (repeat' split)
  all_goals (first | (simp (maxDischargeDepth := 30); done) | (try simp_all (maxDischargeDepth := 30)))
theorem execBroadcastWrite_fixed (fn : Nat) (ty : Nat) (inst : Nat) (off : Nat) (val : Nat) (s : State)
    {t : State} (h : execBroadcastWrite fn ty inst off val s = .next t) : t.fixed = s.fixed := by
  unfold execBroadcastWrite at h
  refine fixed_of_onUnit h ?_
  clear h
  try dsimp only
  try (repeat' split)
  all_goals (first | (simp (maxDischargeDepth := 30); done) | (try simp_all (maxDischargeDepth := 30)))
theorem execRegWrite_fixed (fn : Nat) (a : Nat) (be : Nat) (val : Nat) (s : State) {t : State}
    (h : execRegWrite fn a be val s = .next t) : t.fixed = s.fixed := by
  unfold execRegWrite at h
  refine fixed_of_onUnit h ?_
  clear h
  try dsimp only
  try (repeat' split)
  all_goals (first | (simp (maxDischargeDepth := 30); done) | (try simp_all (maxDischargeDepth := 30)))
theorem execRcRead_fixed (fn : Nat) (a : Nat) (be : Nat) (s : State) {t : State}
    (h : execRcRead fn a be s = .next t) : t.fixed = s.fixed := by
  unfold execRcRead at h
  refine fixed_of_onUnit h ?_
  clear h
  try dsimp only
  try (repeat' split)
  all_goals (first | (simp (maxDischargeDepth := 30); done) | (try simp_all (maxDischargeDepth := 30)))
theorem execPairLoWrite_fixed (fn : Nat) (ty : Nat) (inst : Nat) (lo : Nat) (val : Nat) (s : State) {t : State}
    (h : execPairLoWrite fn ty inst lo val s = .next t) : t.fixed = s.fixed := by
  unfold execPairLoWrite at h
  refine fixed_of_onUnit h ?_
  clear h
  try dsimp only
  try (repeat' split)
  all_goals (first | (simp (maxDischargeDepth := 30); done) | (try simp_all (maxDischargeDepth := 30)))
theorem execPairHiCommit_fixed (fn : Nat) (ty : Nat) (inst : Nat) (lo : Nat) (val : Nat) (s : State) {t : State}
    (h : execPairHiCommit fn ty inst lo val s = .next t) : t.fixed = s.fixed := by
  unfold execPairHiCommit at h
  refine fixed_of_onUnit h ?_
  clear h
  try dsimp only
  try (repeat' split)
  all_goals (first | (simp (maxDischargeDepth := 30); done) | (try simp_all (maxDischargeDepth := 30)))
theorem execPairLoRead_fixed (fn : Nat) (ty : Nat) (inst : Nat) (lo : Nat) (s : State) {t : State}
    (h : execPairLoRead fn ty inst lo s = .next t) : t.fixed = s.fixed := by
  unfold execPairLoRead at h
  refine fixed_of_onUnit h ?_
  clear h
  try dsimp only
  try (repeat' split)
  all_goals (first | (simp (maxDischargeDepth := 30); done) | (try simp_all (maxDischargeDepth := 30)))
theorem execBind_fixed (fn : Nat) (raw : List Byte) (s : State) {t : State}
    (h : execBind fn raw s = .next t) : t.fixed = s.fixed := by
  unfold execBind at h
  refine fixed_of_onUnit h ?_
  clear h
  try dsimp only
  try (repeat' split)
  all_goals (first | (simp (maxDischargeDepth := 30); done) | (try simp_all (maxDischargeDepth := 30)))

theorem execHbmClearDone_fixed (failed : Nat) (s : State) {t : State}
    (h : execHbmClearDone failed s = .next t) : t.fixed = s.fixed := by
  unfold execHbmClearDone at h
  refine fixed_of_next h ?_
  clear h
  try dsimp only
  try (repeat' split)
  all_goals (first | (simp (maxDischargeDepth := 30); done) | (try simp_all (maxDischargeDepth := 30)))
theorem execRekeyDone_fixed (h : Nat) (s : State) {t : State}
    (h : execRekeyDone h s = .next t) : t.fixed = s.fixed := by
  unfold execRekeyDone at h
  refine fixed_of_onUnit h ?_
  clear h
  try dsimp only
  try (repeat' split)
  all_goals (first | (simp (maxDischargeDepth := 30); done) | (try simp_all (maxDischargeDepth := 30)))
theorem execResultFrameClose_fixed (st : Nat) (kind : Nat) (inst : Nat) (s : State) {t : State}
    (h : execResultFrameClose st kind inst s = .next t) : t.fixed = s.fixed := by
  unfold execResultFrameClose at h
  refine fixed_of_onUnit h ?_
  clear h
  try dsimp only
  try (repeat' split)
  all_goals (first | (simp (maxDischargeDepth := 30); done) | (try simp_all (maxDischargeDepth := 30)))
theorem execNorRecordWriteDone_fixed (s : State) {t : State}
    (h : execNorRecordWriteDone s = .next t) : t.fixed = s.fixed := by
  unfold execNorRecordWriteDone at h
  refine fixed_of_next h ?_
  clear h
  try dsimp only
  try (repeat' split)
  all_goals (first | (simp (maxDischargeDepth := 30); done) | (try simp_all (maxDischargeDepth := 30)))

end Sys2Proof.Machine
end

