-- ==== Sys2Proof/Laws/Frames.lean ====
section
/-! SUPPORT. What the shared operations leave alone: messages, causes, errors, queue productions. -/

namespace Sys2Proof.Machine

theorem foldl_keep {α β : Type} (g : State → α) (f : State → β → State) (h : ∀ t b, g (f t b) = g t) :
    ∀ (l : List β) (s : State), g (l.foldl f s) = g s
  | [], _ => rfl
  | b :: l, s => (foldl_keep g f h l (f s b)).trans (h s b)

theorem foldl_keep_fst {α β γ : Type} (g : State → α) (f : State × γ → β → State × γ)
    (h : ∀ p b, g (f p b).1 = g p.1) : ∀ (l : List β) (p : State × γ), g (l.foldl f p).1 = g p.1
  | [], _ => rfl
  | b :: l, p => (foldl_keep_fst g f h l (f p b)).trans (h p b)

theorem setBytes_keep {α : Type} (g : State → α) (h : ∀ (t : State) a b, g (t.setByte a b) = g t) :
    ∀ (l : List Byte) (s : State) (a : Nat), g (s.setBytes a l) = g s
  | [], _, _ => rfl
  | b :: l, s, a => (setBytes_keep g h l (s.setByte a b) (a + 1)).trans (h s a b)

/-! State.msix -/
section
variable (s : State) (fn v : Nat)
@[simp] theorem State.msix_grade08 : (s.msix fn v).grade08 = s.grade08 := by
  unfold State.msix; dsimp only; split <;> simp
@[simp] theorem State.msix_bifur : (s.msix fn v).bifur = s.bifur := by
  unfold State.msix; dsimp only; split <;> simp
@[simp] theorem State.msix_smbAddr : (s.msix fn v).smbAddr = s.smbAddr := by
  unfold State.msix; dsimp only; split <;> simp
@[simp] theorem State.msix_root : (s.msix fn v).root = s.root := by
  unfold State.msix; dsimp only; split <;> simp
@[simp] theorem State.msix_uptime : (s.msix fn v).uptime = s.uptime := by
  unfold State.msix; dsimp only; split <;> simp
@[simp] theorem State.msix_everLocked : (s.msix fn v).everLocked = s.everLocked := by
  unfold State.msix; dsimp only; split <;> simp
@[simp] theorem State.msix_stage : (s.msix fn v).stage = s.stage := by
  unfold State.msix; dsimp only; split <;> simp
@[simp] theorem State.msix_link0 : (s.msix fn v).link0 = s.link0 := by
  unfold State.msix; dsimp only; split <;> simp
@[simp] theorem State.msix_link1 : (s.msix fn v).link1 = s.link1 := by
  unfold State.msix; dsimp only; split <;> simp
@[simp] theorem State.msix_pwr : (s.msix fn v).pwr = s.pwr := by
  unfold State.msix; dsimp only; split <;> simp
@[simp] theorem State.msix_glb : (s.msix fn v).glb = s.glb := by
  unfold State.msix; dsimp only; split <;> simp
@[simp] theorem State.msix_clk : (s.msix fn v).clk = s.clk := by
  unfold State.msix; dsimp only; split <;> simp
@[simp] theorem State.msix_sync : (s.msix fn v).sync = s.sync := by
  unfold State.msix; dsimp only; split <;> simp
@[simp] theorem State.msix_sec : (s.msix fn v).sec = s.sec := by
  unfold State.msix; dsimp only; split <;> simp
@[simp] theorem State.msix_hdrs : (s.msix fn v).hdrs = s.hdrs := by
  unfold State.msix; dsimp only; split <;> simp
@[simp] theorem State.msix_sites : (s.msix fn v).sites = s.sites := by
  unfold State.msix; dsimp only; split <;> simp
@[simp] theorem State.msix_queues : (s.msix fn v).queues = s.queues := by
  unfold State.msix; dsimp only; split <;> simp
@[simp] theorem State.msix_qmgr : (s.msix fn v).qmgr = s.qmgr := by
  unfold State.msix; dsimp only; split <;> simp
@[simp] theorem State.msix_bmem : (s.msix fn v).bmem = s.bmem := by
  unfold State.msix; dsimp only; split <;> simp
@[simp] theorem State.msix_hbms : (s.msix fn v).hbms = s.hbms := by
  unfold State.msix; dsimp only; split <;> simp
@[simp] theorem State.msix_err_eq : (s.msix fn v).err = s.err := by
  unfold State.msix; dsimp only; split <;> simp
@[simp] theorem State.msix_hlth : (s.msix fn v).hlth = s.hlth := by
  unfold State.msix; dsimp only; split <;> simp
@[simp] theorem State.msix_cals : (s.msix fn v).cals = s.cals := by
  unfold State.msix; dsimp only; split <;> simp
@[simp] theorem State.msix_clus : (s.msix fn v).clus = s.clus := by
  unfold State.msix; dsimp only; split <;> simp
@[simp] theorem State.msix_rgns : (s.msix fn v).rgns = s.rgns := by
  unfold State.msix; dsimp only; split <;> simp
@[simp] theorem State.msix_fcus : (s.msix fn v).fcus = s.fcus := by
  unfold State.msix; dsimp only; split <;> simp
@[simp] theorem State.msix_madcs : (s.msix fn v).madcs = s.madcs := by
  unfold State.msix; dsimp only; split <;> simp
@[simp] theorem State.msix_acqs : (s.msix fn v).acqs = s.acqs := by
  unfold State.msix; dsimp only; split <;> simp
@[simp] theorem State.msix_hists : (s.msix fn v).hists = s.hists := by
  unfold State.msix; dsimp only; split <;> simp
@[simp] theorem State.msix_chans : (s.msix fn v).chans = s.chans := by
  unfold State.msix; dsimp only; split <;> simp
@[simp] theorem State.msix_tes : (s.msix fn v).tes = s.tes := by
  unfold State.msix; dsimp only; split <;> simp
@[simp] theorem State.msix_mem : (s.msix fn v).mem = s.mem := by
  unfold State.msix; dsimp only; split <;> simp
@[simp] theorem State.msix_ctext : (s.msix fn v).ctext = s.ctext := by
  unfold State.msix; dsimp only; split <;> simp
@[simp] theorem State.msix_hbmHolder : (s.msix fn v).hbmHolder = s.hbmHolder := by
  unfold State.msix; dsimp only; split <;> simp
@[simp] theorem State.msix_bankHolder : (s.msix fn v).bankHolder = s.bankHolder := by
  unfold State.msix; dsimp only; split <;> simp
@[simp] theorem State.msix_nor : (s.msix fn v).nor = s.nor := by
  unfold State.msix; dsimp only; split <;> simp
@[simp] theorem State.msix_otp : (s.msix fn v).otp = s.otp := by
  unfold State.msix; dsimp only; split <;> simp
@[simp] theorem State.msix_faults : (s.msix fn v).faults = s.faults := by
  unfold State.msix; dsimp only; split <;> simp
@[simp] theorem State.msix_smb : (s.msix fn v).smb = s.smb := by
  unfold State.msix; dsimp only; split <;> simp
@[simp] theorem State.msix_jtag : (s.msix fn v).jtag = s.jtag := by
  unfold State.msix; dsimp only; split <;> simp
@[simp] theorem State.msix_free : (s.msix fn v).free = s.free := by
  unfold State.msix; dsimp only; split <;> simp
@[simp] theorem State.msix_pcache : (s.msix fn v).pcache = s.pcache := by
  unfold State.msix; dsimp only; split <;> simp
@[simp] theorem State.msix_micro : (s.msix fn v).micro = s.micro := by
  unfold State.msix; dsimp only; split <;> simp
@[simp] theorem State.msix_placedQ : (s.msix fn v).placedQ = s.placedQ := by
  unfold State.msix; dsimp only; split <;> simp
@[simp] theorem State.msix_pending : (s.msix fn v).pending = s.pending := by
  unfold State.msix; dsimp only; split <;> simp
@[simp] theorem State.msix_site (j : Nat) : (s.msix fn v).site j = s.site j := by simp only [State.site, State.msix_sites]
@[simp] theorem State.msix_queue (j : Nat) : (s.msix fn v).queue j = s.queue j := by simp only [State.queue, State.msix_queues]
@[simp] theorem State.msix_hbm (j : Nat) : (s.msix fn v).hbm j = s.hbm j := by simp only [State.hbm, State.msix_hbms]
@[simp] theorem State.msix_cal (j : Nat) : (s.msix fn v).cal j = s.cal j := by simp only [State.cal, State.msix_cals]
@[simp] theorem State.msix_clu (j : Nat) : (s.msix fn v).clu j = s.clu j := by simp only [State.clu, State.msix_clus]
@[simp] theorem State.msix_rgn (j : Nat) : (s.msix fn v).rgn j = s.rgn j := by simp only [State.rgn, State.msix_rgns]
@[simp] theorem State.msix_fcu (j : Nat) : (s.msix fn v).fcu j = s.fcu j := by simp only [State.fcu, State.msix_fcus]
@[simp] theorem State.msix_madc (j : Nat) : (s.msix fn v).madc j = s.madc j := by simp only [State.madc, State.msix_madcs]
@[simp] theorem State.msix_acq (j : Nat) : (s.msix fn v).acq j = s.acq j := by simp only [State.acq, State.msix_acqs]
@[simp] theorem State.msix_hist (j : Nat) : (s.msix fn v).hist j = s.hist j := by simp only [State.hist, State.msix_hists]
@[simp] theorem State.msix_chan (j : Nat) : (s.msix fn v).chan j = s.chan j := by simp only [State.chan, State.msix_chans]
@[simp] theorem State.msix_te_eq (j : Nat) : (s.msix fn v).te j = s.te j := by simp only [State.te, State.msix_tes]
@[simp] theorem State.msix_fault (j : Nat) : (s.msix fn v).fault j = s.fault j := by simp only [State.fault, State.msix_faults]
@[simp] theorem State.msix_trigIn (j : Nat) : (s.msix fn v).trigIn j = s.trigIn j := by simp only [State.trigIn, State.msix_sync]
@[simp] theorem State.msix_trigOut (j : Nat) : (s.msix fn v).trigOut j = s.trigOut j := by simp only [State.trigOut, State.msix_sync]
@[simp] theorem State.msix_secSite (j : Nat) : (s.msix fn v).secSite j = s.secSite j := by simp only [State.secSite, State.msix_sec]
@[simp] theorem State.msix_freeVal : (s.msix fn v).freeVal = s.freeVal := by simp only [State.freeVal, State.msix_free]
@[simp] theorem State.msix_now : (s.msix fn v).now = s.now := by simp only [State.now, State.msix_root]
@[simp] theorem State.msix_up : (s.msix fn v).up = s.up := by simp only [State.up, State.msix_uptime]
@[simp] theorem State.msix_hdr (a b : Nat) : (s.msix fn v).hdr a b = s.hdr a b := by simp only [State.hdr, State.msix_hdrs]
end

/-! State.pageMsgs -/
section
variable (s : State) (ty inst m : Nat)
@[simp] theorem State.pageMsgs_grade08 : (s.pageMsgs ty inst m).grade08 = s.grade08 := by
  unfold State.pageMsgs; dsimp only; split
  · rfl
  · exact forEach_keep (·.grade08) _ (fun _ _ => by simp) _ _
@[simp] theorem State.pageMsgs_bifur : (s.pageMsgs ty inst m).bifur = s.bifur := by
  unfold State.pageMsgs; dsimp only; split
  · rfl
  · exact forEach_keep (·.bifur) _ (fun _ _ => by simp) _ _
@[simp] theorem State.pageMsgs_smbAddr : (s.pageMsgs ty inst m).smbAddr = s.smbAddr := by
  unfold State.pageMsgs; dsimp only; split
  · rfl
  · exact forEach_keep (·.smbAddr) _ (fun _ _ => by simp) _ _
@[simp] theorem State.pageMsgs_root : (s.pageMsgs ty inst m).root = s.root := by
  unfold State.pageMsgs; dsimp only; split
  · rfl
  · exact forEach_keep (·.root) _ (fun _ _ => by simp) _ _
@[simp] theorem State.pageMsgs_uptime : (s.pageMsgs ty inst m).uptime = s.uptime := by
  unfold State.pageMsgs; dsimp only; split
  · rfl
  · exact forEach_keep (·.uptime) _ (fun _ _ => by simp) _ _
@[simp] theorem State.pageMsgs_everLocked : (s.pageMsgs ty inst m).everLocked = s.everLocked := by
  unfold State.pageMsgs; dsimp only; split
  · rfl
  · exact forEach_keep (·.everLocked) _ (fun _ _ => by simp) _ _
@[simp] theorem State.pageMsgs_stage : (s.pageMsgs ty inst m).stage = s.stage := by
  unfold State.pageMsgs; dsimp only; split
  · rfl
  · exact forEach_keep (·.stage) _ (fun _ _ => by simp) _ _
@[simp] theorem State.pageMsgs_link0 : (s.pageMsgs ty inst m).link0 = s.link0 := by
  unfold State.pageMsgs; dsimp only; split
  · rfl
  · exact forEach_keep (·.link0) _ (fun _ _ => by simp) _ _
@[simp] theorem State.pageMsgs_link1 : (s.pageMsgs ty inst m).link1 = s.link1 := by
  unfold State.pageMsgs; dsimp only; split
  · rfl
  · exact forEach_keep (·.link1) _ (fun _ _ => by simp) _ _
@[simp] theorem State.pageMsgs_pwr : (s.pageMsgs ty inst m).pwr = s.pwr := by
  unfold State.pageMsgs; dsimp only; split
  · rfl
  · exact forEach_keep (·.pwr) _ (fun _ _ => by simp) _ _
@[simp] theorem State.pageMsgs_glb : (s.pageMsgs ty inst m).glb = s.glb := by
  unfold State.pageMsgs; dsimp only; split
  · rfl
  · exact forEach_keep (·.glb) _ (fun _ _ => by simp) _ _
@[simp] theorem State.pageMsgs_clk : (s.pageMsgs ty inst m).clk = s.clk := by
  unfold State.pageMsgs; dsimp only; split
  · rfl
  · exact forEach_keep (·.clk) _ (fun _ _ => by simp) _ _
@[simp] theorem State.pageMsgs_sync : (s.pageMsgs ty inst m).sync = s.sync := by
  unfold State.pageMsgs; dsimp only; split
  · rfl
  · exact forEach_keep (·.sync) _ (fun _ _ => by simp) _ _
@[simp] theorem State.pageMsgs_sec : (s.pageMsgs ty inst m).sec = s.sec := by
  unfold State.pageMsgs; dsimp only; split
  · rfl
  · exact forEach_keep (·.sec) _ (fun _ _ => by simp) _ _
@[simp] theorem State.pageMsgs_hdrs : (s.pageMsgs ty inst m).hdrs = s.hdrs := by
  unfold State.pageMsgs; dsimp only; split
  · rfl
  · exact forEach_keep (·.hdrs) _ (fun _ _ => by simp) _ _
@[simp] theorem State.pageMsgs_sites : (s.pageMsgs ty inst m).sites = s.sites := by
  unfold State.pageMsgs; dsimp only; split
  · rfl
  · exact forEach_keep (·.sites) _ (fun _ _ => by simp) _ _
@[simp] theorem State.pageMsgs_queues : (s.pageMsgs ty inst m).queues = s.queues := by
  unfold State.pageMsgs; dsimp only; split
  · rfl
  · exact forEach_keep (·.queues) _ (fun _ _ => by simp) _ _
@[simp] theorem State.pageMsgs_qmgr : (s.pageMsgs ty inst m).qmgr = s.qmgr := by
  unfold State.pageMsgs; dsimp only; split
  · rfl
  · exact forEach_keep (·.qmgr) _ (fun _ _ => by simp) _ _
@[simp] theorem State.pageMsgs_bmem : (s.pageMsgs ty inst m).bmem = s.bmem := by
  unfold State.pageMsgs; dsimp only; split
  · rfl
  · exact forEach_keep (·.bmem) _ (fun _ _ => by simp) _ _
@[simp] theorem State.pageMsgs_hbms : (s.pageMsgs ty inst m).hbms = s.hbms := by
  unfold State.pageMsgs; dsimp only; split
  · rfl
  · exact forEach_keep (·.hbms) _ (fun _ _ => by simp) _ _
@[simp] theorem State.pageMsgs_err : (s.pageMsgs ty inst m).err = s.err := by
  unfold State.pageMsgs; dsimp only; split
  · rfl
  · exact forEach_keep (·.err) _ (fun _ _ => by simp) _ _
@[simp] theorem State.pageMsgs_hlth : (s.pageMsgs ty inst m).hlth = s.hlth := by
  unfold State.pageMsgs; dsimp only; split
  · rfl
  · exact forEach_keep (·.hlth) _ (fun _ _ => by simp) _ _
@[simp] theorem State.pageMsgs_cals : (s.pageMsgs ty inst m).cals = s.cals := by
  unfold State.pageMsgs; dsimp only; split
  · rfl
  · exact forEach_keep (·.cals) _ (fun _ _ => by simp) _ _
@[simp] theorem State.pageMsgs_clus : (s.pageMsgs ty inst m).clus = s.clus := by
  unfold State.pageMsgs; dsimp only; split
  · rfl
  · exact forEach_keep (·.clus) _ (fun _ _ => by simp) _ _
@[simp] theorem State.pageMsgs_rgns : (s.pageMsgs ty inst m).rgns = s.rgns := by
  unfold State.pageMsgs; dsimp only; split
  · rfl
  · exact forEach_keep (·.rgns) _ (fun _ _ => by simp) _ _
@[simp] theorem State.pageMsgs_fcus : (s.pageMsgs ty inst m).fcus = s.fcus := by
  unfold State.pageMsgs; dsimp only; split
  · rfl
  · exact forEach_keep (·.fcus) _ (fun _ _ => by simp) _ _
@[simp] theorem State.pageMsgs_madcs : (s.pageMsgs ty inst m).madcs = s.madcs := by
  unfold State.pageMsgs; dsimp only; split
  · rfl
  · exact forEach_keep (·.madcs) _ (fun _ _ => by simp) _ _
@[simp] theorem State.pageMsgs_acqs : (s.pageMsgs ty inst m).acqs = s.acqs := by
  unfold State.pageMsgs; dsimp only; split
  · rfl
  · exact forEach_keep (·.acqs) _ (fun _ _ => by simp) _ _
@[simp] theorem State.pageMsgs_hists : (s.pageMsgs ty inst m).hists = s.hists := by
  unfold State.pageMsgs; dsimp only; split
  · rfl
  · exact forEach_keep (·.hists) _ (fun _ _ => by simp) _ _
@[simp] theorem State.pageMsgs_chans : (s.pageMsgs ty inst m).chans = s.chans := by
  unfold State.pageMsgs; dsimp only; split
  · rfl
  · exact forEach_keep (·.chans) _ (fun _ _ => by simp) _ _
@[simp] theorem State.pageMsgs_tes : (s.pageMsgs ty inst m).tes = s.tes := by
  unfold State.pageMsgs; dsimp only; split
  · rfl
  · exact forEach_keep (·.tes) _ (fun _ _ => by simp) _ _
@[simp] theorem State.pageMsgs_mem : (s.pageMsgs ty inst m).mem = s.mem := by
  unfold State.pageMsgs; dsimp only; split
  · rfl
  · exact forEach_keep (·.mem) _ (fun _ _ => by simp) _ _
@[simp] theorem State.pageMsgs_ctext : (s.pageMsgs ty inst m).ctext = s.ctext := by
  unfold State.pageMsgs; dsimp only; split
  · rfl
  · exact forEach_keep (·.ctext) _ (fun _ _ => by simp) _ _
@[simp] theorem State.pageMsgs_hbmHolder : (s.pageMsgs ty inst m).hbmHolder = s.hbmHolder := by
  unfold State.pageMsgs; dsimp only; split
  · rfl
  · exact forEach_keep (·.hbmHolder) _ (fun _ _ => by simp) _ _
@[simp] theorem State.pageMsgs_bankHolder : (s.pageMsgs ty inst m).bankHolder = s.bankHolder := by
  unfold State.pageMsgs; dsimp only; split
  · rfl
  · exact forEach_keep (·.bankHolder) _ (fun _ _ => by simp) _ _
@[simp] theorem State.pageMsgs_nor : (s.pageMsgs ty inst m).nor = s.nor := by
  unfold State.pageMsgs; dsimp only; split
  · rfl
  · exact forEach_keep (·.nor) _ (fun _ _ => by simp) _ _
@[simp] theorem State.pageMsgs_otp : (s.pageMsgs ty inst m).otp = s.otp := by
  unfold State.pageMsgs; dsimp only; split
  · rfl
  · exact forEach_keep (·.otp) _ (fun _ _ => by simp) _ _
@[simp] theorem State.pageMsgs_faults : (s.pageMsgs ty inst m).faults = s.faults := by
  unfold State.pageMsgs; dsimp only; split
  · rfl
  · exact forEach_keep (·.faults) _ (fun _ _ => by simp) _ _
@[simp] theorem State.pageMsgs_smb : (s.pageMsgs ty inst m).smb = s.smb := by
  unfold State.pageMsgs; dsimp only; split
  · rfl
  · exact forEach_keep (·.smb) _ (fun _ _ => by simp) _ _
@[simp] theorem State.pageMsgs_jtag : (s.pageMsgs ty inst m).jtag = s.jtag := by
  unfold State.pageMsgs; dsimp only; split
  · rfl
  · exact forEach_keep (·.jtag) _ (fun _ _ => by simp) _ _
@[simp] theorem State.pageMsgs_free : (s.pageMsgs ty inst m).free = s.free := by
  unfold State.pageMsgs; dsimp only; split
  · rfl
  · exact forEach_keep (·.free) _ (fun _ _ => by simp) _ _
@[simp] theorem State.pageMsgs_pcache : (s.pageMsgs ty inst m).pcache = s.pcache := by
  unfold State.pageMsgs; dsimp only; split
  · rfl
  · exact forEach_keep (·.pcache) _ (fun _ _ => by simp) _ _
@[simp] theorem State.pageMsgs_micro : (s.pageMsgs ty inst m).micro = s.micro := by
  unfold State.pageMsgs; dsimp only; split
  · rfl
  · exact forEach_keep (·.micro) _ (fun _ _ => by simp) _ _
@[simp] theorem State.pageMsgs_placedQ : (s.pageMsgs ty inst m).placedQ = s.placedQ := by
  unfold State.pageMsgs; dsimp only; split
  · rfl
  · exact forEach_keep (·.placedQ) _ (fun _ _ => by simp) _ _
@[simp] theorem State.pageMsgs_pending : (s.pageMsgs ty inst m).pending = s.pending := by
  unfold State.pageMsgs; dsimp only; split
  · rfl
  · exact forEach_keep (·.pending) _ (fun _ _ => by simp) _ _
@[simp] theorem State.pageMsgs_site (j : Nat) : (s.pageMsgs ty inst m).site j = s.site j := by simp only [State.site, State.pageMsgs_sites]
@[simp] theorem State.pageMsgs_queue (j : Nat) : (s.pageMsgs ty inst m).queue j = s.queue j := by simp only [State.queue, State.pageMsgs_queues]
@[simp] theorem State.pageMsgs_hbm (j : Nat) : (s.pageMsgs ty inst m).hbm j = s.hbm j := by simp only [State.hbm, State.pageMsgs_hbms]
@[simp] theorem State.pageMsgs_cal (j : Nat) : (s.pageMsgs ty inst m).cal j = s.cal j := by simp only [State.cal, State.pageMsgs_cals]
@[simp] theorem State.pageMsgs_clu (j : Nat) : (s.pageMsgs ty inst m).clu j = s.clu j := by simp only [State.clu, State.pageMsgs_clus]
@[simp] theorem State.pageMsgs_rgn (j : Nat) : (s.pageMsgs ty inst m).rgn j = s.rgn j := by simp only [State.rgn, State.pageMsgs_rgns]
@[simp] theorem State.pageMsgs_fcu (j : Nat) : (s.pageMsgs ty inst m).fcu j = s.fcu j := by simp only [State.fcu, State.pageMsgs_fcus]
@[simp] theorem State.pageMsgs_madc (j : Nat) : (s.pageMsgs ty inst m).madc j = s.madc j := by simp only [State.madc, State.pageMsgs_madcs]
@[simp] theorem State.pageMsgs_acq (j : Nat) : (s.pageMsgs ty inst m).acq j = s.acq j := by simp only [State.acq, State.pageMsgs_acqs]
@[simp] theorem State.pageMsgs_hist (j : Nat) : (s.pageMsgs ty inst m).hist j = s.hist j := by simp only [State.hist, State.pageMsgs_hists]
@[simp] theorem State.pageMsgs_chan (j : Nat) : (s.pageMsgs ty inst m).chan j = s.chan j := by simp only [State.chan, State.pageMsgs_chans]
@[simp] theorem State.pageMsgs_te (j : Nat) : (s.pageMsgs ty inst m).te j = s.te j := by simp only [State.te, State.pageMsgs_tes]
@[simp] theorem State.pageMsgs_fault (j : Nat) : (s.pageMsgs ty inst m).fault j = s.fault j := by simp only [State.fault, State.pageMsgs_faults]
@[simp] theorem State.pageMsgs_trigIn (j : Nat) : (s.pageMsgs ty inst m).trigIn j = s.trigIn j := by simp only [State.trigIn, State.pageMsgs_sync]
@[simp] theorem State.pageMsgs_trigOut (j : Nat) : (s.pageMsgs ty inst m).trigOut j = s.trigOut j := by simp only [State.trigOut, State.pageMsgs_sync]
@[simp] theorem State.pageMsgs_secSite (j : Nat) : (s.pageMsgs ty inst m).secSite j = s.secSite j := by simp only [State.secSite, State.pageMsgs_sec]
@[simp] theorem State.pageMsgs_freeVal : (s.pageMsgs ty inst m).freeVal = s.freeVal := by simp only [State.freeVal, State.pageMsgs_free]
@[simp] theorem State.pageMsgs_now : (s.pageMsgs ty inst m).now = s.now := by simp only [State.now, State.pageMsgs_root]
@[simp] theorem State.pageMsgs_up : (s.pageMsgs ty inst m).up = s.up := by simp only [State.up, State.pageMsgs_uptime]
@[simp] theorem State.pageMsgs_hdr (a b : Nat) : (s.pageMsgs ty inst m).hdr a b = s.hdr a b := by simp only [State.hdr, State.pageMsgs_hdrs]
end

/-! State.cause -/
section
variable (s : State) (ty inst m : Nat)
@[simp] theorem State.cause_grade08 : (s.cause ty inst m).grade08 = s.grade08 := by
  unfold State.cause; simp
@[simp] theorem State.cause_bifur : (s.cause ty inst m).bifur = s.bifur := by
  unfold State.cause; simp
@[simp] theorem State.cause_smbAddr : (s.cause ty inst m).smbAddr = s.smbAddr := by
  unfold State.cause; simp
@[simp] theorem State.cause_root : (s.cause ty inst m).root = s.root := by
  unfold State.cause; simp
@[simp] theorem State.cause_uptime : (s.cause ty inst m).uptime = s.uptime := by
  unfold State.cause; simp
@[simp] theorem State.cause_everLocked : (s.cause ty inst m).everLocked = s.everLocked := by
  unfold State.cause; simp
@[simp] theorem State.cause_stage : (s.cause ty inst m).stage = s.stage := by
  unfold State.cause; simp
@[simp] theorem State.cause_link0 : (s.cause ty inst m).link0 = s.link0 := by
  unfold State.cause; simp
@[simp] theorem State.cause_link1 : (s.cause ty inst m).link1 = s.link1 := by
  unfold State.cause; simp
@[simp] theorem State.cause_pwr : (s.cause ty inst m).pwr = s.pwr := by
  unfold State.cause; simp
@[simp] theorem State.cause_glb : (s.cause ty inst m).glb = s.glb := by
  unfold State.cause; simp
@[simp] theorem State.cause_clk : (s.cause ty inst m).clk = s.clk := by
  unfold State.cause; simp
@[simp] theorem State.cause_sync : (s.cause ty inst m).sync = s.sync := by
  unfold State.cause; simp
@[simp] theorem State.cause_sec : (s.cause ty inst m).sec = s.sec := by
  unfold State.cause; simp
@[simp] theorem State.cause_sites : (s.cause ty inst m).sites = s.sites := by
  unfold State.cause; simp
@[simp] theorem State.cause_queues : (s.cause ty inst m).queues = s.queues := by
  unfold State.cause; simp
@[simp] theorem State.cause_qmgr : (s.cause ty inst m).qmgr = s.qmgr := by
  unfold State.cause; simp
@[simp] theorem State.cause_bmem : (s.cause ty inst m).bmem = s.bmem := by
  unfold State.cause; simp
@[simp] theorem State.cause_hbms : (s.cause ty inst m).hbms = s.hbms := by
  unfold State.cause; simp
@[simp] theorem State.cause_err : (s.cause ty inst m).err = s.err := by
  unfold State.cause; simp
@[simp] theorem State.cause_hlth : (s.cause ty inst m).hlth = s.hlth := by
  unfold State.cause; simp
@[simp] theorem State.cause_cals : (s.cause ty inst m).cals = s.cals := by
  unfold State.cause; simp
@[simp] theorem State.cause_clus : (s.cause ty inst m).clus = s.clus := by
  unfold State.cause; simp
@[simp] theorem State.cause_rgns : (s.cause ty inst m).rgns = s.rgns := by
  unfold State.cause; simp
@[simp] theorem State.cause_fcus : (s.cause ty inst m).fcus = s.fcus := by
  unfold State.cause; simp
@[simp] theorem State.cause_madcs : (s.cause ty inst m).madcs = s.madcs := by
  unfold State.cause; simp
@[simp] theorem State.cause_acqs : (s.cause ty inst m).acqs = s.acqs := by
  unfold State.cause; simp
@[simp] theorem State.cause_hists : (s.cause ty inst m).hists = s.hists := by
  unfold State.cause; simp
@[simp] theorem State.cause_chans : (s.cause ty inst m).chans = s.chans := by
  unfold State.cause; simp
@[simp] theorem State.cause_tes : (s.cause ty inst m).tes = s.tes := by
  unfold State.cause; simp
@[simp] theorem State.cause_mem : (s.cause ty inst m).mem = s.mem := by
  unfold State.cause; simp
@[simp] theorem State.cause_ctext : (s.cause ty inst m).ctext = s.ctext := by
  unfold State.cause; simp
@[simp] theorem State.cause_hbmHolder : (s.cause ty inst m).hbmHolder = s.hbmHolder := by
  unfold State.cause; simp
@[simp] theorem State.cause_bankHolder : (s.cause ty inst m).bankHolder = s.bankHolder := by
  unfold State.cause; simp
@[simp] theorem State.cause_nor : (s.cause ty inst m).nor = s.nor := by
  unfold State.cause; simp
@[simp] theorem State.cause_otp : (s.cause ty inst m).otp = s.otp := by
  unfold State.cause; simp
@[simp] theorem State.cause_faults : (s.cause ty inst m).faults = s.faults := by
  unfold State.cause; simp
@[simp] theorem State.cause_smb : (s.cause ty inst m).smb = s.smb := by
  unfold State.cause; simp
@[simp] theorem State.cause_jtag : (s.cause ty inst m).jtag = s.jtag := by
  unfold State.cause; simp
@[simp] theorem State.cause_free : (s.cause ty inst m).free = s.free := by
  unfold State.cause; simp
@[simp] theorem State.cause_pcache : (s.cause ty inst m).pcache = s.pcache := by
  unfold State.cause; simp
@[simp] theorem State.cause_micro : (s.cause ty inst m).micro = s.micro := by
  unfold State.cause; simp
@[simp] theorem State.cause_placedQ : (s.cause ty inst m).placedQ = s.placedQ := by
  unfold State.cause; simp
@[simp] theorem State.cause_pending : (s.cause ty inst m).pending = s.pending := by
  unfold State.cause; simp
@[simp] theorem State.cause_site (j : Nat) : (s.cause ty inst m).site j = s.site j := by simp only [State.site, State.cause_sites]
@[simp] theorem State.cause_queue (j : Nat) : (s.cause ty inst m).queue j = s.queue j := by simp only [State.queue, State.cause_queues]
@[simp] theorem State.cause_hbm (j : Nat) : (s.cause ty inst m).hbm j = s.hbm j := by simp only [State.hbm, State.cause_hbms]
@[simp] theorem State.cause_cal (j : Nat) : (s.cause ty inst m).cal j = s.cal j := by simp only [State.cal, State.cause_cals]
@[simp] theorem State.cause_clu (j : Nat) : (s.cause ty inst m).clu j = s.clu j := by simp only [State.clu, State.cause_clus]
@[simp] theorem State.cause_rgn (j : Nat) : (s.cause ty inst m).rgn j = s.rgn j := by simp only [State.rgn, State.cause_rgns]
@[simp] theorem State.cause_fcu (j : Nat) : (s.cause ty inst m).fcu j = s.fcu j := by simp only [State.fcu, State.cause_fcus]
@[simp] theorem State.cause_madc (j : Nat) : (s.cause ty inst m).madc j = s.madc j := by simp only [State.madc, State.cause_madcs]
@[simp] theorem State.cause_acq (j : Nat) : (s.cause ty inst m).acq j = s.acq j := by simp only [State.acq, State.cause_acqs]
@[simp] theorem State.cause_hist (j : Nat) : (s.cause ty inst m).hist j = s.hist j := by simp only [State.hist, State.cause_hists]
@[simp] theorem State.cause_chan (j : Nat) : (s.cause ty inst m).chan j = s.chan j := by simp only [State.chan, State.cause_chans]
@[simp] theorem State.cause_te (j : Nat) : (s.cause ty inst m).te j = s.te j := by simp only [State.te, State.cause_tes]
@[simp] theorem State.cause_fault (j : Nat) : (s.cause ty inst m).fault j = s.fault j := by simp only [State.fault, State.cause_faults]
@[simp] theorem State.cause_trigIn (j : Nat) : (s.cause ty inst m).trigIn j = s.trigIn j := by simp only [State.trigIn, State.cause_sync]
@[simp] theorem State.cause_trigOut (j : Nat) : (s.cause ty inst m).trigOut j = s.trigOut j := by simp only [State.trigOut, State.cause_sync]
@[simp] theorem State.cause_secSite (j : Nat) : (s.cause ty inst m).secSite j = s.secSite j := by simp only [State.secSite, State.cause_sec]
@[simp] theorem State.cause_freeVal : (s.cause ty inst m).freeVal = s.freeVal := by simp only [State.freeVal, State.cause_free]
@[simp] theorem State.cause_now : (s.cause ty inst m).now = s.now := by simp only [State.now, State.cause_root]
@[simp] theorem State.cause_up : (s.cause ty inst m).up = s.up := by simp only [State.up, State.cause_uptime]
end

/-! State.setBytes -/
section
variable (s : State) (a : Nat) (l : List Byte)
@[simp] theorem State.setBytes_grade08 : (s.setBytes a l).grade08 = s.grade08 := by
  exact setBytes_keep (·.grade08) (fun _ _ _ => rfl) _ _ _
@[simp] theorem State.setBytes_bifur : (s.setBytes a l).bifur = s.bifur := by
  exact setBytes_keep (·.bifur) (fun _ _ _ => rfl) _ _ _
@[simp] theorem State.setBytes_smbAddr : (s.setBytes a l).smbAddr = s.smbAddr := by
  exact setBytes_keep (·.smbAddr) (fun _ _ _ => rfl) _ _ _
@[simp] theorem State.setBytes_root : (s.setBytes a l).root = s.root := by
  exact setBytes_keep (·.root) (fun _ _ _ => rfl) _ _ _
@[simp] theorem State.setBytes_uptime : (s.setBytes a l).uptime = s.uptime := by
  exact setBytes_keep (·.uptime) (fun _ _ _ => rfl) _ _ _
@[simp] theorem State.setBytes_everLocked : (s.setBytes a l).everLocked = s.everLocked := by
  exact setBytes_keep (·.everLocked) (fun _ _ _ => rfl) _ _ _
@[simp] theorem State.setBytes_stage : (s.setBytes a l).stage = s.stage := by
  exact setBytes_keep (·.stage) (fun _ _ _ => rfl) _ _ _
@[simp] theorem State.setBytes_link0 : (s.setBytes a l).link0 = s.link0 := by
  exact setBytes_keep (·.link0) (fun _ _ _ => rfl) _ _ _
@[simp] theorem State.setBytes_link1 : (s.setBytes a l).link1 = s.link1 := by
  exact setBytes_keep (·.link1) (fun _ _ _ => rfl) _ _ _
@[simp] theorem State.setBytes_pwr : (s.setBytes a l).pwr = s.pwr := by
  exact setBytes_keep (·.pwr) (fun _ _ _ => rfl) _ _ _
@[simp] theorem State.setBytes_glb : (s.setBytes a l).glb = s.glb := by
  exact setBytes_keep (·.glb) (fun _ _ _ => rfl) _ _ _
@[simp] theorem State.setBytes_clk : (s.setBytes a l).clk = s.clk := by
  exact setBytes_keep (·.clk) (fun _ _ _ => rfl) _ _ _
@[simp] theorem State.setBytes_sync : (s.setBytes a l).sync = s.sync := by
  exact setBytes_keep (·.sync) (fun _ _ _ => rfl) _ _ _
@[simp] theorem State.setBytes_sec : (s.setBytes a l).sec = s.sec := by
  exact setBytes_keep (·.sec) (fun _ _ _ => rfl) _ _ _
@[simp] theorem State.setBytes_hdrs : (s.setBytes a l).hdrs = s.hdrs := by
  exact setBytes_keep (·.hdrs) (fun _ _ _ => rfl) _ _ _
@[simp] theorem State.setBytes_fns : (s.setBytes a l).fns = s.fns := by
  exact setBytes_keep (·.fns) (fun _ _ _ => rfl) _ _ _
@[simp] theorem State.setBytes_sites : (s.setBytes a l).sites = s.sites := by
  exact setBytes_keep (·.sites) (fun _ _ _ => rfl) _ _ _
@[simp] theorem State.setBytes_queues : (s.setBytes a l).queues = s.queues := by
  exact setBytes_keep (·.queues) (fun _ _ _ => rfl) _ _ _
@[simp] theorem State.setBytes_qmgr : (s.setBytes a l).qmgr = s.qmgr := by
  exact setBytes_keep (·.qmgr) (fun _ _ _ => rfl) _ _ _
@[simp] theorem State.setBytes_bmem : (s.setBytes a l).bmem = s.bmem := by
  exact setBytes_keep (·.bmem) (fun _ _ _ => rfl) _ _ _
@[simp] theorem State.setBytes_hbms : (s.setBytes a l).hbms = s.hbms := by
  exact setBytes_keep (·.hbms) (fun _ _ _ => rfl) _ _ _
@[simp] theorem State.setBytes_err_eq : (s.setBytes a l).err = s.err := by
  exact setBytes_keep (·.err) (fun _ _ _ => rfl) _ _ _
@[simp] theorem State.setBytes_hlth : (s.setBytes a l).hlth = s.hlth := by
  exact setBytes_keep (·.hlth) (fun _ _ _ => rfl) _ _ _
@[simp] theorem State.setBytes_cals : (s.setBytes a l).cals = s.cals := by
  exact setBytes_keep (·.cals) (fun _ _ _ => rfl) _ _ _
@[simp] theorem State.setBytes_clus : (s.setBytes a l).clus = s.clus := by
  exact setBytes_keep (·.clus) (fun _ _ _ => rfl) _ _ _
@[simp] theorem State.setBytes_rgns : (s.setBytes a l).rgns = s.rgns := by
  exact setBytes_keep (·.rgns) (fun _ _ _ => rfl) _ _ _
@[simp] theorem State.setBytes_fcus : (s.setBytes a l).fcus = s.fcus := by
  exact setBytes_keep (·.fcus) (fun _ _ _ => rfl) _ _ _
@[simp] theorem State.setBytes_madcs : (s.setBytes a l).madcs = s.madcs := by
  exact setBytes_keep (·.madcs) (fun _ _ _ => rfl) _ _ _
@[simp] theorem State.setBytes_acqs : (s.setBytes a l).acqs = s.acqs := by
  exact setBytes_keep (·.acqs) (fun _ _ _ => rfl) _ _ _
@[simp] theorem State.setBytes_hists : (s.setBytes a l).hists = s.hists := by
  exact setBytes_keep (·.hists) (fun _ _ _ => rfl) _ _ _
@[simp] theorem State.setBytes_chans : (s.setBytes a l).chans = s.chans := by
  exact setBytes_keep (·.chans) (fun _ _ _ => rfl) _ _ _
@[simp] theorem State.setBytes_tes : (s.setBytes a l).tes = s.tes := by
  exact setBytes_keep (·.tes) (fun _ _ _ => rfl) _ _ _
@[simp] theorem State.setBytes_hbmHolder : (s.setBytes a l).hbmHolder = s.hbmHolder := by
  exact setBytes_keep (·.hbmHolder) (fun _ _ _ => rfl) _ _ _
@[simp] theorem State.setBytes_bankHolder : (s.setBytes a l).bankHolder = s.bankHolder := by
  exact setBytes_keep (·.bankHolder) (fun _ _ _ => rfl) _ _ _
@[simp] theorem State.setBytes_nor : (s.setBytes a l).nor = s.nor := by
  exact setBytes_keep (·.nor) (fun _ _ _ => rfl) _ _ _
@[simp] theorem State.setBytes_otp : (s.setBytes a l).otp = s.otp := by
  exact setBytes_keep (·.otp) (fun _ _ _ => rfl) _ _ _
@[simp] theorem State.setBytes_faults : (s.setBytes a l).faults = s.faults := by
  exact setBytes_keep (·.faults) (fun _ _ _ => rfl) _ _ _
@[simp] theorem State.setBytes_smb : (s.setBytes a l).smb = s.smb := by
  exact setBytes_keep (·.smb) (fun _ _ _ => rfl) _ _ _
@[simp] theorem State.setBytes_jtag : (s.setBytes a l).jtag = s.jtag := by
  exact setBytes_keep (·.jtag) (fun _ _ _ => rfl) _ _ _
@[simp] theorem State.setBytes_outs : (s.setBytes a l).outs = s.outs := by
  exact setBytes_keep (·.outs) (fun _ _ _ => rfl) _ _ _
@[simp] theorem State.setBytes_free : (s.setBytes a l).free = s.free := by
  exact setBytes_keep (·.free) (fun _ _ _ => rfl) _ _ _
@[simp] theorem State.setBytes_pcache : (s.setBytes a l).pcache = s.pcache := by
  exact setBytes_keep (·.pcache) (fun _ _ _ => rfl) _ _ _
@[simp] theorem State.setBytes_micro : (s.setBytes a l).micro = s.micro := by
  exact setBytes_keep (·.micro) (fun _ _ _ => rfl) _ _ _
@[simp] theorem State.setBytes_placedQ : (s.setBytes a l).placedQ = s.placedQ := by
  exact setBytes_keep (·.placedQ) (fun _ _ _ => rfl) _ _ _
@[simp] theorem State.setBytes_pending : (s.setBytes a l).pending = s.pending := by
  exact setBytes_keep (·.pending) (fun _ _ _ => rfl) _ _ _
@[simp] theorem State.setBytes_fn (j : Nat) : (s.setBytes a l).fn j = s.fn j := by simp only [State.fn, State.setBytes_fns]
@[simp] theorem State.setBytes_site (j : Nat) : (s.setBytes a l).site j = s.site j := by simp only [State.site, State.setBytes_sites]
@[simp] theorem State.setBytes_queue (j : Nat) : (s.setBytes a l).queue j = s.queue j := by simp only [State.queue, State.setBytes_queues]
@[simp] theorem State.setBytes_hbm (j : Nat) : (s.setBytes a l).hbm j = s.hbm j := by simp only [State.hbm, State.setBytes_hbms]
@[simp] theorem State.setBytes_cal (j : Nat) : (s.setBytes a l).cal j = s.cal j := by simp only [State.cal, State.setBytes_cals]
@[simp] theorem State.setBytes_clu (j : Nat) : (s.setBytes a l).clu j = s.clu j := by simp only [State.clu, State.setBytes_clus]
@[simp] theorem State.setBytes_rgn (j : Nat) : (s.setBytes a l).rgn j = s.rgn j := by simp only [State.rgn, State.setBytes_rgns]
@[simp] theorem State.setBytes_fcu (j : Nat) : (s.setBytes a l).fcu j = s.fcu j := by simp only [State.fcu, State.setBytes_fcus]
@[simp] theorem State.setBytes_madc (j : Nat) : (s.setBytes a l).madc j = s.madc j := by simp only [State.madc, State.setBytes_madcs]
@[simp] theorem State.setBytes_acq (j : Nat) : (s.setBytes a l).acq j = s.acq j := by simp only [State.acq, State.setBytes_acqs]
@[simp] theorem State.setBytes_hist (j : Nat) : (s.setBytes a l).hist j = s.hist j := by simp only [State.hist, State.setBytes_hists]
@[simp] theorem State.setBytes_chan (j : Nat) : (s.setBytes a l).chan j = s.chan j := by simp only [State.chan, State.setBytes_chans]
@[simp] theorem State.setBytes_te (j : Nat) : (s.setBytes a l).te j = s.te j := by simp only [State.te, State.setBytes_tes]
@[simp] theorem State.setBytes_fault (j : Nat) : (s.setBytes a l).fault j = s.fault j := by simp only [State.fault, State.setBytes_faults]
@[simp] theorem State.setBytes_trigIn (j : Nat) : (s.setBytes a l).trigIn j = s.trigIn j := by simp only [State.trigIn, State.setBytes_sync]
@[simp] theorem State.setBytes_trigOut (j : Nat) : (s.setBytes a l).trigOut j = s.trigOut j := by simp only [State.trigOut, State.setBytes_sync]
@[simp] theorem State.setBytes_secSite (j : Nat) : (s.setBytes a l).secSite j = s.secSite j := by simp only [State.secSite, State.setBytes_sec]
@[simp] theorem State.setBytes_freeVal : (s.setBytes a l).freeVal = s.freeVal := by simp only [State.freeVal, State.setBytes_free]
@[simp] theorem State.setBytes_now : (s.setBytes a l).now = s.now := by simp only [State.now, State.setBytes_root]
@[simp] theorem State.setBytes_up : (s.setBytes a l).up = s.up := by simp only [State.up, State.setBytes_uptime]
@[simp] theorem State.setBytes_hdr (a b : Nat) : (s.setBytes a l).hdr a b = s.hdr a b := by simp only [State.hdr, State.setBytes_hdrs]
end

/-! State.bankHits, State.qHit -/
section
variable (s : State) (a n : Nat) (w : Bool)
@[simp] theorem State.bankHits_grade08 : (s.bankHits a n w).grade08 = s.grade08 := State.bankHits_keep (·.grade08) (fun _ _ => rfl) ..
@[simp] theorem State.bankHits_bifur : (s.bankHits a n w).bifur = s.bifur := State.bankHits_keep (·.bifur) (fun _ _ => rfl) ..
@[simp] theorem State.bankHits_smbAddr : (s.bankHits a n w).smbAddr = s.smbAddr := State.bankHits_keep (·.smbAddr) (fun _ _ => rfl) ..
@[simp] theorem State.bankHits_root : (s.bankHits a n w).root = s.root := State.bankHits_keep (·.root) (fun _ _ => rfl) ..
@[simp] theorem State.bankHits_uptime : (s.bankHits a n w).uptime = s.uptime := State.bankHits_keep (·.uptime) (fun _ _ => rfl) ..
@[simp] theorem State.bankHits_everLocked : (s.bankHits a n w).everLocked = s.everLocked := State.bankHits_keep (·.everLocked) (fun _ _ => rfl) ..
@[simp] theorem State.bankHits_stage : (s.bankHits a n w).stage = s.stage := State.bankHits_keep (·.stage) (fun _ _ => rfl) ..
@[simp] theorem State.bankHits_link0 : (s.bankHits a n w).link0 = s.link0 := State.bankHits_keep (·.link0) (fun _ _ => rfl) ..
@[simp] theorem State.bankHits_link1 : (s.bankHits a n w).link1 = s.link1 := State.bankHits_keep (·.link1) (fun _ _ => rfl) ..
@[simp] theorem State.bankHits_pwr : (s.bankHits a n w).pwr = s.pwr := State.bankHits_keep (·.pwr) (fun _ _ => rfl) ..
@[simp] theorem State.bankHits_glb : (s.bankHits a n w).glb = s.glb := State.bankHits_keep (·.glb) (fun _ _ => rfl) ..
@[simp] theorem State.bankHits_clk : (s.bankHits a n w).clk = s.clk := State.bankHits_keep (·.clk) (fun _ _ => rfl) ..
@[simp] theorem State.bankHits_sync : (s.bankHits a n w).sync = s.sync := State.bankHits_keep (·.sync) (fun _ _ => rfl) ..
@[simp] theorem State.bankHits_sec : (s.bankHits a n w).sec = s.sec := State.bankHits_keep (·.sec) (fun _ _ => rfl) ..
@[simp] theorem State.bankHits_hdrs : (s.bankHits a n w).hdrs = s.hdrs := State.bankHits_keep (·.hdrs) (fun _ _ => rfl) ..
@[simp] theorem State.bankHits_fns : (s.bankHits a n w).fns = s.fns := State.bankHits_keep (·.fns) (fun _ _ => rfl) ..
@[simp] theorem State.bankHits_sites : (s.bankHits a n w).sites = s.sites := State.bankHits_keep (·.sites) (fun _ _ => rfl) ..
@[simp] theorem State.bankHits_queues : (s.bankHits a n w).queues = s.queues := State.bankHits_keep (·.queues) (fun _ _ => rfl) ..
@[simp] theorem State.bankHits_qmgr : (s.bankHits a n w).qmgr = s.qmgr := State.bankHits_keep (·.qmgr) (fun _ _ => rfl) ..
@[simp] theorem State.bankHits_hbms : (s.bankHits a n w).hbms = s.hbms := State.bankHits_keep (·.hbms) (fun _ _ => rfl) ..
@[simp] theorem State.bankHits_err_eq : (s.bankHits a n w).err = s.err := State.bankHits_keep (·.err) (fun _ _ => rfl) ..
@[simp] theorem State.bankHits_hlth : (s.bankHits a n w).hlth = s.hlth := State.bankHits_keep (·.hlth) (fun _ _ => rfl) ..
@[simp] theorem State.bankHits_cals : (s.bankHits a n w).cals = s.cals := State.bankHits_keep (·.cals) (fun _ _ => rfl) ..
@[simp] theorem State.bankHits_clus : (s.bankHits a n w).clus = s.clus := State.bankHits_keep (·.clus) (fun _ _ => rfl) ..
@[simp] theorem State.bankHits_rgns : (s.bankHits a n w).rgns = s.rgns := State.bankHits_keep (·.rgns) (fun _ _ => rfl) ..
@[simp] theorem State.bankHits_fcus : (s.bankHits a n w).fcus = s.fcus := State.bankHits_keep (·.fcus) (fun _ _ => rfl) ..
@[simp] theorem State.bankHits_madcs : (s.bankHits a n w).madcs = s.madcs := State.bankHits_keep (·.madcs) (fun _ _ => rfl) ..
@[simp] theorem State.bankHits_acqs : (s.bankHits a n w).acqs = s.acqs := State.bankHits_keep (·.acqs) (fun _ _ => rfl) ..
@[simp] theorem State.bankHits_hists : (s.bankHits a n w).hists = s.hists := State.bankHits_keep (·.hists) (fun _ _ => rfl) ..
@[simp] theorem State.bankHits_chans : (s.bankHits a n w).chans = s.chans := State.bankHits_keep (·.chans) (fun _ _ => rfl) ..
@[simp] theorem State.bankHits_tes : (s.bankHits a n w).tes = s.tes := State.bankHits_keep (·.tes) (fun _ _ => rfl) ..
@[simp] theorem State.bankHits_mem : (s.bankHits a n w).mem = s.mem := State.bankHits_keep (·.mem) (fun _ _ => rfl) ..
@[simp] theorem State.bankHits_ctext : (s.bankHits a n w).ctext = s.ctext := State.bankHits_keep (·.ctext) (fun _ _ => rfl) ..
@[simp] theorem State.bankHits_hbmHolder : (s.bankHits a n w).hbmHolder = s.hbmHolder := State.bankHits_keep (·.hbmHolder) (fun _ _ => rfl) ..
@[simp] theorem State.bankHits_bankHolder : (s.bankHits a n w).bankHolder = s.bankHolder := State.bankHits_keep (·.bankHolder) (fun _ _ => rfl) ..
@[simp] theorem State.bankHits_nor : (s.bankHits a n w).nor = s.nor := State.bankHits_keep (·.nor) (fun _ _ => rfl) ..
@[simp] theorem State.bankHits_otp : (s.bankHits a n w).otp = s.otp := State.bankHits_keep (·.otp) (fun _ _ => rfl) ..
@[simp] theorem State.bankHits_faults : (s.bankHits a n w).faults = s.faults := State.bankHits_keep (·.faults) (fun _ _ => rfl) ..
@[simp] theorem State.bankHits_smb : (s.bankHits a n w).smb = s.smb := State.bankHits_keep (·.smb) (fun _ _ => rfl) ..
@[simp] theorem State.bankHits_jtag : (s.bankHits a n w).jtag = s.jtag := State.bankHits_keep (·.jtag) (fun _ _ => rfl) ..
@[simp] theorem State.bankHits_outs : (s.bankHits a n w).outs = s.outs := State.bankHits_keep (·.outs) (fun _ _ => rfl) ..
@[simp] theorem State.bankHits_free : (s.bankHits a n w).free = s.free := State.bankHits_keep (·.free) (fun _ _ => rfl) ..
@[simp] theorem State.bankHits_pcache : (s.bankHits a n w).pcache = s.pcache := State.bankHits_keep (·.pcache) (fun _ _ => rfl) ..
@[simp] theorem State.bankHits_micro : (s.bankHits a n w).micro = s.micro := State.bankHits_keep (·.micro) (fun _ _ => rfl) ..
@[simp] theorem State.bankHits_stores : (s.bankHits a n w).stores = s.stores := State.bankHits_keep (·.stores) (fun _ _ => rfl) ..
@[simp] theorem State.bankHits_returned : (s.bankHits a n w).returned = s.returned := State.bankHits_keep (·.returned) (fun _ _ => rfl) ..
@[simp] theorem State.bankHits_placedQ : (s.bankHits a n w).placedQ = s.placedQ := State.bankHits_keep (·.placedQ) (fun _ _ => rfl) ..
@[simp] theorem State.bankHits_pending : (s.bankHits a n w).pending = s.pending := State.bankHits_keep (·.pending) (fun _ _ => rfl) ..
@[simp] theorem State.qHit_grade08 : (s.qHit a w).grade08 = s.grade08 := State.bankHits_grade08 ..
@[simp] theorem State.qHit_bifur : (s.qHit a w).bifur = s.bifur := State.bankHits_bifur ..
@[simp] theorem State.qHit_smbAddr : (s.qHit a w).smbAddr = s.smbAddr := State.bankHits_smbAddr ..
@[simp] theorem State.qHit_root : (s.qHit a w).root = s.root := State.bankHits_root ..
@[simp] theorem State.qHit_uptime : (s.qHit a w).uptime = s.uptime := State.bankHits_uptime ..
@[simp] theorem State.qHit_everLocked : (s.qHit a w).everLocked = s.everLocked := State.bankHits_everLocked ..
@[simp] theorem State.qHit_stage : (s.qHit a w).stage = s.stage := State.bankHits_stage ..
@[simp] theorem State.qHit_link0 : (s.qHit a w).link0 = s.link0 := State.bankHits_link0 ..
@[simp] theorem State.qHit_link1 : (s.qHit a w).link1 = s.link1 := State.bankHits_link1 ..
@[simp] theorem State.qHit_pwr : (s.qHit a w).pwr = s.pwr := State.bankHits_pwr ..
@[simp] theorem State.qHit_glb : (s.qHit a w).glb = s.glb := State.bankHits_glb ..
@[simp] theorem State.qHit_clk : (s.qHit a w).clk = s.clk := State.bankHits_clk ..
@[simp] theorem State.qHit_sync : (s.qHit a w).sync = s.sync := State.bankHits_sync ..
@[simp] theorem State.qHit_sec : (s.qHit a w).sec = s.sec := State.bankHits_sec ..
@[simp] theorem State.qHit_hdrs : (s.qHit a w).hdrs = s.hdrs := State.bankHits_hdrs ..
@[simp] theorem State.qHit_fns : (s.qHit a w).fns = s.fns := State.bankHits_fns ..
@[simp] theorem State.qHit_sites : (s.qHit a w).sites = s.sites := State.bankHits_sites ..
@[simp] theorem State.qHit_queues : (s.qHit a w).queues = s.queues := State.bankHits_queues ..
@[simp] theorem State.qHit_qmgr : (s.qHit a w).qmgr = s.qmgr := State.bankHits_qmgr ..
@[simp] theorem State.qHit_hbms : (s.qHit a w).hbms = s.hbms := State.bankHits_hbms ..
@[simp] theorem State.qHit_err : (s.qHit a w).err = s.err := State.bankHits_err_eq ..
@[simp] theorem State.qHit_hlth : (s.qHit a w).hlth = s.hlth := State.bankHits_hlth ..
@[simp] theorem State.qHit_cals : (s.qHit a w).cals = s.cals := State.bankHits_cals ..
@[simp] theorem State.qHit_clus : (s.qHit a w).clus = s.clus := State.bankHits_clus ..
@[simp] theorem State.qHit_rgns : (s.qHit a w).rgns = s.rgns := State.bankHits_rgns ..
@[simp] theorem State.qHit_fcus : (s.qHit a w).fcus = s.fcus := State.bankHits_fcus ..
@[simp] theorem State.qHit_madcs : (s.qHit a w).madcs = s.madcs := State.bankHits_madcs ..
@[simp] theorem State.qHit_acqs : (s.qHit a w).acqs = s.acqs := State.bankHits_acqs ..
@[simp] theorem State.qHit_hists : (s.qHit a w).hists = s.hists := State.bankHits_hists ..
@[simp] theorem State.qHit_chans : (s.qHit a w).chans = s.chans := State.bankHits_chans ..
@[simp] theorem State.qHit_tes : (s.qHit a w).tes = s.tes := State.bankHits_tes ..
@[simp] theorem State.qHit_mem : (s.qHit a w).mem = s.mem := State.bankHits_mem ..
@[simp] theorem State.qHit_ctext : (s.qHit a w).ctext = s.ctext := State.bankHits_ctext ..
@[simp] theorem State.qHit_hbmHolder : (s.qHit a w).hbmHolder = s.hbmHolder := State.bankHits_hbmHolder ..
@[simp] theorem State.qHit_bankHolder : (s.qHit a w).bankHolder = s.bankHolder := State.bankHits_bankHolder ..
@[simp] theorem State.qHit_nor : (s.qHit a w).nor = s.nor := State.bankHits_nor ..
@[simp] theorem State.qHit_otp : (s.qHit a w).otp = s.otp := State.bankHits_otp ..
@[simp] theorem State.qHit_faults : (s.qHit a w).faults = s.faults := State.bankHits_faults ..
@[simp] theorem State.qHit_smb : (s.qHit a w).smb = s.smb := State.bankHits_smb ..
@[simp] theorem State.qHit_jtag : (s.qHit a w).jtag = s.jtag := State.bankHits_jtag ..
@[simp] theorem State.qHit_outs : (s.qHit a w).outs = s.outs := State.bankHits_outs ..
@[simp] theorem State.qHit_free : (s.qHit a w).free = s.free := State.bankHits_free ..
@[simp] theorem State.qHit_pcache : (s.qHit a w).pcache = s.pcache := State.bankHits_pcache ..
@[simp] theorem State.qHit_micro : (s.qHit a w).micro = s.micro := State.bankHits_micro ..
@[simp] theorem State.qHit_stores : (s.qHit a w).stores = s.stores := State.bankHits_stores ..
@[simp] theorem State.qHit_returned : (s.qHit a w).returned = s.returned := State.bankHits_returned ..
@[simp] theorem State.qHit_placedQ : (s.qHit a w).placedQ = s.placedQ := State.bankHits_placedQ ..
@[simp] theorem State.qHit_pending : (s.qHit a w).pending = s.pending := State.bankHits_pending ..
@[simp] theorem State.bankHits_byte (k : Nat) : (s.bankHits a n w).byte k = s.byte k := by simp only [State.byte, State.bankHits_mem]
@[simp] theorem State.qHit_byte (k : Nat) : (s.qHit a w).byte k = s.byte k := State.bankHits_byte ..
end

/-! State.produce -/
section
variable (s : State) (q : Nat) (l : List (List Byte))
@[simp] theorem State.produce_grade08 : (s.produce q l).grade08 = s.grade08 := by
  unfold State.produce; dsimp only
  have h := foldl_keep_fst (·.grade08) (fun (p : State × Nat) b =>
    ((p.1.bankHits ((s.queue q).base + slotSize (s.queue q).type * p.2) b.length true).setBytes
      ((s.queue q).base + slotSize (s.queue q).type * p.2) b, (p.2 + 1) % (s.queue q).slots)) (by simp) l (s.qHit q true, (s.queue q).tail)
  unfold when; split <;> simpa using h
@[simp] theorem State.produce_bifur : (s.produce q l).bifur = s.bifur := by
  unfold State.produce; dsimp only
  have h := foldl_keep_fst (·.bifur) (fun (p : State × Nat) b =>
    ((p.1.bankHits ((s.queue q).base + slotSize (s.queue q).type * p.2) b.length true).setBytes
      ((s.queue q).base + slotSize (s.queue q).type * p.2) b, (p.2 + 1) % (s.queue q).slots)) (by simp) l (s.qHit q true, (s.queue q).tail)
  unfold when; split <;> simpa using h
@[simp] theorem State.produce_smbAddr : (s.produce q l).smbAddr = s.smbAddr := by
  unfold State.produce; dsimp only
  have h := foldl_keep_fst (·.smbAddr) (fun (p : State × Nat) b =>
    ((p.1.bankHits ((s.queue q).base + slotSize (s.queue q).type * p.2) b.length true).setBytes
      ((s.queue q).base + slotSize (s.queue q).type * p.2) b, (p.2 + 1) % (s.queue q).slots)) (by simp) l (s.qHit q true, (s.queue q).tail)
  unfold when; split <;> simpa using h
@[simp] theorem State.produce_root : (s.produce q l).root = s.root := by
  unfold State.produce; dsimp only
  have h := foldl_keep_fst (·.root) (fun (p : State × Nat) b =>
    ((p.1.bankHits ((s.queue q).base + slotSize (s.queue q).type * p.2) b.length true).setBytes
      ((s.queue q).base + slotSize (s.queue q).type * p.2) b, (p.2 + 1) % (s.queue q).slots)) (by simp) l (s.qHit q true, (s.queue q).tail)
  unfold when; split <;> simpa using h
@[simp] theorem State.produce_uptime : (s.produce q l).uptime = s.uptime := by
  unfold State.produce; dsimp only
  have h := foldl_keep_fst (·.uptime) (fun (p : State × Nat) b =>
    ((p.1.bankHits ((s.queue q).base + slotSize (s.queue q).type * p.2) b.length true).setBytes
      ((s.queue q).base + slotSize (s.queue q).type * p.2) b, (p.2 + 1) % (s.queue q).slots)) (by simp) l (s.qHit q true, (s.queue q).tail)
  unfold when; split <;> simpa using h
@[simp] theorem State.produce_everLocked : (s.produce q l).everLocked = s.everLocked := by
  unfold State.produce; dsimp only
  have h := foldl_keep_fst (·.everLocked) (fun (p : State × Nat) b =>
    ((p.1.bankHits ((s.queue q).base + slotSize (s.queue q).type * p.2) b.length true).setBytes
      ((s.queue q).base + slotSize (s.queue q).type * p.2) b, (p.2 + 1) % (s.queue q).slots)) (by simp) l (s.qHit q true, (s.queue q).tail)
  unfold when; split <;> simpa using h
@[simp] theorem State.produce_stage : (s.produce q l).stage = s.stage := by
  unfold State.produce; dsimp only
  have h := foldl_keep_fst (·.stage) (fun (p : State × Nat) b =>
    ((p.1.bankHits ((s.queue q).base + slotSize (s.queue q).type * p.2) b.length true).setBytes
      ((s.queue q).base + slotSize (s.queue q).type * p.2) b, (p.2 + 1) % (s.queue q).slots)) (by simp) l (s.qHit q true, (s.queue q).tail)
  unfold when; split <;> simpa using h
@[simp] theorem State.produce_link0 : (s.produce q l).link0 = s.link0 := by
  unfold State.produce; dsimp only
  have h := foldl_keep_fst (·.link0) (fun (p : State × Nat) b =>
    ((p.1.bankHits ((s.queue q).base + slotSize (s.queue q).type * p.2) b.length true).setBytes
      ((s.queue q).base + slotSize (s.queue q).type * p.2) b, (p.2 + 1) % (s.queue q).slots)) (by simp) l (s.qHit q true, (s.queue q).tail)
  unfold when; split <;> simpa using h
@[simp] theorem State.produce_link1 : (s.produce q l).link1 = s.link1 := by
  unfold State.produce; dsimp only
  have h := foldl_keep_fst (·.link1) (fun (p : State × Nat) b =>
    ((p.1.bankHits ((s.queue q).base + slotSize (s.queue q).type * p.2) b.length true).setBytes
      ((s.queue q).base + slotSize (s.queue q).type * p.2) b, (p.2 + 1) % (s.queue q).slots)) (by simp) l (s.qHit q true, (s.queue q).tail)
  unfold when; split <;> simpa using h
@[simp] theorem State.produce_pwr : (s.produce q l).pwr = s.pwr := by
  unfold State.produce; dsimp only
  have h := foldl_keep_fst (·.pwr) (fun (p : State × Nat) b =>
    ((p.1.bankHits ((s.queue q).base + slotSize (s.queue q).type * p.2) b.length true).setBytes
      ((s.queue q).base + slotSize (s.queue q).type * p.2) b, (p.2 + 1) % (s.queue q).slots)) (by simp) l (s.qHit q true, (s.queue q).tail)
  unfold when; split <;> simpa using h
@[simp] theorem State.produce_glb : (s.produce q l).glb = s.glb := by
  unfold State.produce; dsimp only
  have h := foldl_keep_fst (·.glb) (fun (p : State × Nat) b =>
    ((p.1.bankHits ((s.queue q).base + slotSize (s.queue q).type * p.2) b.length true).setBytes
      ((s.queue q).base + slotSize (s.queue q).type * p.2) b, (p.2 + 1) % (s.queue q).slots)) (by simp) l (s.qHit q true, (s.queue q).tail)
  unfold when; split <;> simpa using h
@[simp] theorem State.produce_clk : (s.produce q l).clk = s.clk := by
  unfold State.produce; dsimp only
  have h := foldl_keep_fst (·.clk) (fun (p : State × Nat) b =>
    ((p.1.bankHits ((s.queue q).base + slotSize (s.queue q).type * p.2) b.length true).setBytes
      ((s.queue q).base + slotSize (s.queue q).type * p.2) b, (p.2 + 1) % (s.queue q).slots)) (by simp) l (s.qHit q true, (s.queue q).tail)
  unfold when; split <;> simpa using h
@[simp] theorem State.produce_sync : (s.produce q l).sync = s.sync := by
  unfold State.produce; dsimp only
  have h := foldl_keep_fst (·.sync) (fun (p : State × Nat) b =>
    ((p.1.bankHits ((s.queue q).base + slotSize (s.queue q).type * p.2) b.length true).setBytes
      ((s.queue q).base + slotSize (s.queue q).type * p.2) b, (p.2 + 1) % (s.queue q).slots)) (by simp) l (s.qHit q true, (s.queue q).tail)
  unfold when; split <;> simpa using h
@[simp] theorem State.produce_sec : (s.produce q l).sec = s.sec := by
  unfold State.produce; dsimp only
  have h := foldl_keep_fst (·.sec) (fun (p : State × Nat) b =>
    ((p.1.bankHits ((s.queue q).base + slotSize (s.queue q).type * p.2) b.length true).setBytes
      ((s.queue q).base + slotSize (s.queue q).type * p.2) b, (p.2 + 1) % (s.queue q).slots)) (by simp) l (s.qHit q true, (s.queue q).tail)
  unfold when; split <;> simpa using h
@[simp] theorem State.produce_hdrs : (s.produce q l).hdrs = s.hdrs := by
  unfold State.produce; dsimp only
  have h := foldl_keep_fst (·.hdrs) (fun (p : State × Nat) b =>
    ((p.1.bankHits ((s.queue q).base + slotSize (s.queue q).type * p.2) b.length true).setBytes
      ((s.queue q).base + slotSize (s.queue q).type * p.2) b, (p.2 + 1) % (s.queue q).slots)) (by simp) l (s.qHit q true, (s.queue q).tail)
  unfold when; split <;> simpa using h
@[simp] theorem State.produce_sites : (s.produce q l).sites = s.sites := by
  unfold State.produce; dsimp only
  have h := foldl_keep_fst (·.sites) (fun (p : State × Nat) b =>
    ((p.1.bankHits ((s.queue q).base + slotSize (s.queue q).type * p.2) b.length true).setBytes
      ((s.queue q).base + slotSize (s.queue q).type * p.2) b, (p.2 + 1) % (s.queue q).slots)) (by simp) l (s.qHit q true, (s.queue q).tail)
  unfold when; split <;> simpa using h
@[simp] theorem State.produce_qmgr : (s.produce q l).qmgr = s.qmgr := by
  unfold State.produce; dsimp only
  have h := foldl_keep_fst (·.qmgr) (fun (p : State × Nat) b =>
    ((p.1.bankHits ((s.queue q).base + slotSize (s.queue q).type * p.2) b.length true).setBytes
      ((s.queue q).base + slotSize (s.queue q).type * p.2) b, (p.2 + 1) % (s.queue q).slots)) (by simp) l (s.qHit q true, (s.queue q).tail)
  unfold when; split <;> simpa using h
@[simp] theorem State.produce_hbms : (s.produce q l).hbms = s.hbms := by
  unfold State.produce; dsimp only
  have h := foldl_keep_fst (·.hbms) (fun (p : State × Nat) b =>
    ((p.1.bankHits ((s.queue q).base + slotSize (s.queue q).type * p.2) b.length true).setBytes
      ((s.queue q).base + slotSize (s.queue q).type * p.2) b, (p.2 + 1) % (s.queue q).slots)) (by simp) l (s.qHit q true, (s.queue q).tail)
  unfold when; split <;> simpa using h
@[simp] theorem State.produce_err_eq : (s.produce q l).err = s.err := by
  unfold State.produce; dsimp only
  have h := foldl_keep_fst (·.err) (fun (p : State × Nat) b =>
    ((p.1.bankHits ((s.queue q).base + slotSize (s.queue q).type * p.2) b.length true).setBytes
      ((s.queue q).base + slotSize (s.queue q).type * p.2) b, (p.2 + 1) % (s.queue q).slots)) (by simp) l (s.qHit q true, (s.queue q).tail)
  unfold when; split <;> simpa using h
@[simp] theorem State.produce_hlth : (s.produce q l).hlth = s.hlth := by
  unfold State.produce; dsimp only
  have h := foldl_keep_fst (·.hlth) (fun (p : State × Nat) b =>
    ((p.1.bankHits ((s.queue q).base + slotSize (s.queue q).type * p.2) b.length true).setBytes
      ((s.queue q).base + slotSize (s.queue q).type * p.2) b, (p.2 + 1) % (s.queue q).slots)) (by simp) l (s.qHit q true, (s.queue q).tail)
  unfold when; split <;> simpa using h
@[simp] theorem State.produce_cals : (s.produce q l).cals = s.cals := by
  unfold State.produce; dsimp only
  have h := foldl_keep_fst (·.cals) (fun (p : State × Nat) b =>
    ((p.1.bankHits ((s.queue q).base + slotSize (s.queue q).type * p.2) b.length true).setBytes
      ((s.queue q).base + slotSize (s.queue q).type * p.2) b, (p.2 + 1) % (s.queue q).slots)) (by simp) l (s.qHit q true, (s.queue q).tail)
  unfold when; split <;> simpa using h
@[simp] theorem State.produce_clus : (s.produce q l).clus = s.clus := by
  unfold State.produce; dsimp only
  have h := foldl_keep_fst (·.clus) (fun (p : State × Nat) b =>
    ((p.1.bankHits ((s.queue q).base + slotSize (s.queue q).type * p.2) b.length true).setBytes
      ((s.queue q).base + slotSize (s.queue q).type * p.2) b, (p.2 + 1) % (s.queue q).slots)) (by simp) l (s.qHit q true, (s.queue q).tail)
  unfold when; split <;> simpa using h
@[simp] theorem State.produce_rgns : (s.produce q l).rgns = s.rgns := by
  unfold State.produce; dsimp only
  have h := foldl_keep_fst (·.rgns) (fun (p : State × Nat) b =>
    ((p.1.bankHits ((s.queue q).base + slotSize (s.queue q).type * p.2) b.length true).setBytes
      ((s.queue q).base + slotSize (s.queue q).type * p.2) b, (p.2 + 1) % (s.queue q).slots)) (by simp) l (s.qHit q true, (s.queue q).tail)
  unfold when; split <;> simpa using h
@[simp] theorem State.produce_fcus : (s.produce q l).fcus = s.fcus := by
  unfold State.produce; dsimp only
  have h := foldl_keep_fst (·.fcus) (fun (p : State × Nat) b =>
    ((p.1.bankHits ((s.queue q).base + slotSize (s.queue q).type * p.2) b.length true).setBytes
      ((s.queue q).base + slotSize (s.queue q).type * p.2) b, (p.2 + 1) % (s.queue q).slots)) (by simp) l (s.qHit q true, (s.queue q).tail)
  unfold when; split <;> simpa using h
@[simp] theorem State.produce_madcs : (s.produce q l).madcs = s.madcs := by
  unfold State.produce; dsimp only
  have h := foldl_keep_fst (·.madcs) (fun (p : State × Nat) b =>
    ((p.1.bankHits ((s.queue q).base + slotSize (s.queue q).type * p.2) b.length true).setBytes
      ((s.queue q).base + slotSize (s.queue q).type * p.2) b, (p.2 + 1) % (s.queue q).slots)) (by simp) l (s.qHit q true, (s.queue q).tail)
  unfold when; split <;> simpa using h
@[simp] theorem State.produce_acqs : (s.produce q l).acqs = s.acqs := by
  unfold State.produce; dsimp only
  have h := foldl_keep_fst (·.acqs) (fun (p : State × Nat) b =>
    ((p.1.bankHits ((s.queue q).base + slotSize (s.queue q).type * p.2) b.length true).setBytes
      ((s.queue q).base + slotSize (s.queue q).type * p.2) b, (p.2 + 1) % (s.queue q).slots)) (by simp) l (s.qHit q true, (s.queue q).tail)
  unfold when; split <;> simpa using h
@[simp] theorem State.produce_hists : (s.produce q l).hists = s.hists := by
  unfold State.produce; dsimp only
  have h := foldl_keep_fst (·.hists) (fun (p : State × Nat) b =>
    ((p.1.bankHits ((s.queue q).base + slotSize (s.queue q).type * p.2) b.length true).setBytes
      ((s.queue q).base + slotSize (s.queue q).type * p.2) b, (p.2 + 1) % (s.queue q).slots)) (by simp) l (s.qHit q true, (s.queue q).tail)
  unfold when; split <;> simpa using h
@[simp] theorem State.produce_chans : (s.produce q l).chans = s.chans := by
  unfold State.produce; dsimp only
  have h := foldl_keep_fst (·.chans) (fun (p : State × Nat) b =>
    ((p.1.bankHits ((s.queue q).base + slotSize (s.queue q).type * p.2) b.length true).setBytes
      ((s.queue q).base + slotSize (s.queue q).type * p.2) b, (p.2 + 1) % (s.queue q).slots)) (by simp) l (s.qHit q true, (s.queue q).tail)
  unfold when; split <;> simpa using h
@[simp] theorem State.produce_tes : (s.produce q l).tes = s.tes := by
  unfold State.produce; dsimp only
  have h := foldl_keep_fst (·.tes) (fun (p : State × Nat) b =>
    ((p.1.bankHits ((s.queue q).base + slotSize (s.queue q).type * p.2) b.length true).setBytes
      ((s.queue q).base + slotSize (s.queue q).type * p.2) b, (p.2 + 1) % (s.queue q).slots)) (by simp) l (s.qHit q true, (s.queue q).tail)
  unfold when; split <;> simpa using h
@[simp] theorem State.produce_hbmHolder : (s.produce q l).hbmHolder = s.hbmHolder := by
  unfold State.produce; dsimp only
  have h := foldl_keep_fst (·.hbmHolder) (fun (p : State × Nat) b =>
    ((p.1.bankHits ((s.queue q).base + slotSize (s.queue q).type * p.2) b.length true).setBytes
      ((s.queue q).base + slotSize (s.queue q).type * p.2) b, (p.2 + 1) % (s.queue q).slots)) (by simp) l (s.qHit q true, (s.queue q).tail)
  unfold when; split <;> simpa using h
@[simp] theorem State.produce_bankHolder : (s.produce q l).bankHolder = s.bankHolder := by
  unfold State.produce; dsimp only
  have h := foldl_keep_fst (·.bankHolder) (fun (p : State × Nat) b =>
    ((p.1.bankHits ((s.queue q).base + slotSize (s.queue q).type * p.2) b.length true).setBytes
      ((s.queue q).base + slotSize (s.queue q).type * p.2) b, (p.2 + 1) % (s.queue q).slots)) (by simp) l (s.qHit q true, (s.queue q).tail)
  unfold when; split <;> simpa using h
@[simp] theorem State.produce_nor : (s.produce q l).nor = s.nor := by
  unfold State.produce; dsimp only
  have h := foldl_keep_fst (·.nor) (fun (p : State × Nat) b =>
    ((p.1.bankHits ((s.queue q).base + slotSize (s.queue q).type * p.2) b.length true).setBytes
      ((s.queue q).base + slotSize (s.queue q).type * p.2) b, (p.2 + 1) % (s.queue q).slots)) (by simp) l (s.qHit q true, (s.queue q).tail)
  unfold when; split <;> simpa using h
@[simp] theorem State.produce_otp : (s.produce q l).otp = s.otp := by
  unfold State.produce; dsimp only
  have h := foldl_keep_fst (·.otp) (fun (p : State × Nat) b =>
    ((p.1.bankHits ((s.queue q).base + slotSize (s.queue q).type * p.2) b.length true).setBytes
      ((s.queue q).base + slotSize (s.queue q).type * p.2) b, (p.2 + 1) % (s.queue q).slots)) (by simp) l (s.qHit q true, (s.queue q).tail)
  unfold when; split <;> simpa using h
@[simp] theorem State.produce_faults : (s.produce q l).faults = s.faults := by
  unfold State.produce; dsimp only
  have h := foldl_keep_fst (·.faults) (fun (p : State × Nat) b =>
    ((p.1.bankHits ((s.queue q).base + slotSize (s.queue q).type * p.2) b.length true).setBytes
      ((s.queue q).base + slotSize (s.queue q).type * p.2) b, (p.2 + 1) % (s.queue q).slots)) (by simp) l (s.qHit q true, (s.queue q).tail)
  unfold when; split <;> simpa using h
@[simp] theorem State.produce_smb : (s.produce q l).smb = s.smb := by
  unfold State.produce; dsimp only
  have h := foldl_keep_fst (·.smb) (fun (p : State × Nat) b =>
    ((p.1.bankHits ((s.queue q).base + slotSize (s.queue q).type * p.2) b.length true).setBytes
      ((s.queue q).base + slotSize (s.queue q).type * p.2) b, (p.2 + 1) % (s.queue q).slots)) (by simp) l (s.qHit q true, (s.queue q).tail)
  unfold when; split <;> simpa using h
@[simp] theorem State.produce_jtag : (s.produce q l).jtag = s.jtag := by
  unfold State.produce; dsimp only
  have h := foldl_keep_fst (·.jtag) (fun (p : State × Nat) b =>
    ((p.1.bankHits ((s.queue q).base + slotSize (s.queue q).type * p.2) b.length true).setBytes
      ((s.queue q).base + slotSize (s.queue q).type * p.2) b, (p.2 + 1) % (s.queue q).slots)) (by simp) l (s.qHit q true, (s.queue q).tail)
  unfold when; split <;> simpa using h
@[simp] theorem State.produce_free : (s.produce q l).free = s.free := by
  unfold State.produce; dsimp only
  have h := foldl_keep_fst (·.free) (fun (p : State × Nat) b =>
    ((p.1.bankHits ((s.queue q).base + slotSize (s.queue q).type * p.2) b.length true).setBytes
      ((s.queue q).base + slotSize (s.queue q).type * p.2) b, (p.2 + 1) % (s.queue q).slots)) (by simp) l (s.qHit q true, (s.queue q).tail)
  unfold when; split <;> simpa using h
@[simp] theorem State.produce_pcache : (s.produce q l).pcache = s.pcache := by
  unfold State.produce; dsimp only
  have h := foldl_keep_fst (·.pcache) (fun (p : State × Nat) b =>
    ((p.1.bankHits ((s.queue q).base + slotSize (s.queue q).type * p.2) b.length true).setBytes
      ((s.queue q).base + slotSize (s.queue q).type * p.2) b, (p.2 + 1) % (s.queue q).slots)) (by simp) l (s.qHit q true, (s.queue q).tail)
  unfold when; split <;> simpa using h
@[simp] theorem State.produce_micro : (s.produce q l).micro = s.micro := by
  unfold State.produce; dsimp only
  have h := foldl_keep_fst (·.micro) (fun (p : State × Nat) b =>
    ((p.1.bankHits ((s.queue q).base + slotSize (s.queue q).type * p.2) b.length true).setBytes
      ((s.queue q).base + slotSize (s.queue q).type * p.2) b, (p.2 + 1) % (s.queue q).slots)) (by simp) l (s.qHit q true, (s.queue q).tail)
  unfold when; split <;> simpa using h
@[simp] theorem State.produce_placedQ : (s.produce q l).placedQ = s.placedQ := by
  unfold State.produce; dsimp only
  have h := foldl_keep_fst (·.placedQ) (fun (p : State × Nat) b =>
    ((p.1.bankHits ((s.queue q).base + slotSize (s.queue q).type * p.2) b.length true).setBytes
      ((s.queue q).base + slotSize (s.queue q).type * p.2) b, (p.2 + 1) % (s.queue q).slots)) (by simp) l (s.qHit q true, (s.queue q).tail)
  unfold when; split <;> simpa using h
@[simp] theorem State.produce_pending : (s.produce q l).pending = s.pending := by
  unfold State.produce; dsimp only
  have h := foldl_keep_fst (·.pending) (fun (p : State × Nat) b =>
    ((p.1.bankHits ((s.queue q).base + slotSize (s.queue q).type * p.2) b.length true).setBytes
      ((s.queue q).base + slotSize (s.queue q).type * p.2) b, (p.2 + 1) % (s.queue q).slots)) (by simp) l (s.qHit q true, (s.queue q).tail)
  unfold when; split <;> simpa using h
@[simp] theorem State.produce_site (j : Nat) : (s.produce q l).site j = s.site j := by simp only [State.site, State.produce_sites]
@[simp] theorem State.produce_hbm (j : Nat) : (s.produce q l).hbm j = s.hbm j := by simp only [State.hbm, State.produce_hbms]
@[simp] theorem State.produce_cal (j : Nat) : (s.produce q l).cal j = s.cal j := by simp only [State.cal, State.produce_cals]
@[simp] theorem State.produce_clu (j : Nat) : (s.produce q l).clu j = s.clu j := by simp only [State.clu, State.produce_clus]
@[simp] theorem State.produce_rgn (j : Nat) : (s.produce q l).rgn j = s.rgn j := by simp only [State.rgn, State.produce_rgns]
@[simp] theorem State.produce_fcu (j : Nat) : (s.produce q l).fcu j = s.fcu j := by simp only [State.fcu, State.produce_fcus]
@[simp] theorem State.produce_madc (j : Nat) : (s.produce q l).madc j = s.madc j := by simp only [State.madc, State.produce_madcs]
@[simp] theorem State.produce_acq (j : Nat) : (s.produce q l).acq j = s.acq j := by simp only [State.acq, State.produce_acqs]
@[simp] theorem State.produce_hist (j : Nat) : (s.produce q l).hist j = s.hist j := by simp only [State.hist, State.produce_hists]
@[simp] theorem State.produce_chan (j : Nat) : (s.produce q l).chan j = s.chan j := by simp only [State.chan, State.produce_chans]
@[simp] theorem State.produce_te (j : Nat) : (s.produce q l).te j = s.te j := by simp only [State.te, State.produce_tes]
@[simp] theorem State.produce_fault (j : Nat) : (s.produce q l).fault j = s.fault j := by simp only [State.fault, State.produce_faults]
@[simp] theorem State.produce_trigIn (j : Nat) : (s.produce q l).trigIn j = s.trigIn j := by simp only [State.trigIn, State.produce_sync]
@[simp] theorem State.produce_trigOut (j : Nat) : (s.produce q l).trigOut j = s.trigOut j := by simp only [State.trigOut, State.produce_sync]
@[simp] theorem State.produce_secSite (j : Nat) : (s.produce q l).secSite j = s.secSite j := by simp only [State.secSite, State.produce_sec]
@[simp] theorem State.produce_freeVal : (s.produce q l).freeVal = s.freeVal := by simp only [State.freeVal, State.produce_free]
@[simp] theorem State.produce_now : (s.produce q l).now = s.now := by simp only [State.now, State.produce_root]
@[simp] theorem State.produce_up : (s.produce q l).up = s.up := by simp only [State.up, State.produce_uptime]
@[simp] theorem State.produce_hdr (a b : Nat) : (s.produce q l).hdr a b = s.hdr a b := by simp only [State.hdr, State.produce_hdrs]
end

/-! State.postLog -/
section
variable (s : State) (st : Nat) (e : List Byte)
@[simp] theorem State.postLog_grade08 : (s.postLog st e).grade08 = s.grade08 := by
  unfold State.postLog; dsimp only; (repeat' split) <;> simp
@[simp] theorem State.postLog_bifur : (s.postLog st e).bifur = s.bifur := by
  unfold State.postLog; dsimp only; (repeat' split) <;> simp
@[simp] theorem State.postLog_smbAddr : (s.postLog st e).smbAddr = s.smbAddr := by
  unfold State.postLog; dsimp only; (repeat' split) <;> simp
@[simp] theorem State.postLog_root : (s.postLog st e).root = s.root := by
  unfold State.postLog; dsimp only; (repeat' split) <;> simp
@[simp] theorem State.postLog_uptime : (s.postLog st e).uptime = s.uptime := by
  unfold State.postLog; dsimp only; (repeat' split) <;> simp
@[simp] theorem State.postLog_everLocked : (s.postLog st e).everLocked = s.everLocked := by
  unfold State.postLog; dsimp only; (repeat' split) <;> simp
@[simp] theorem State.postLog_stage : (s.postLog st e).stage = s.stage := by
  unfold State.postLog; dsimp only; (repeat' split) <;> simp
@[simp] theorem State.postLog_link0 : (s.postLog st e).link0 = s.link0 := by
  unfold State.postLog; dsimp only; (repeat' split) <;> simp
@[simp] theorem State.postLog_link1 : (s.postLog st e).link1 = s.link1 := by
  unfold State.postLog; dsimp only; (repeat' split) <;> simp
@[simp] theorem State.postLog_pwr : (s.postLog st e).pwr = s.pwr := by
  unfold State.postLog; dsimp only; (repeat' split) <;> simp
@[simp] theorem State.postLog_glb : (s.postLog st e).glb = s.glb := by
  unfold State.postLog; dsimp only; (repeat' split) <;> simp
@[simp] theorem State.postLog_clk : (s.postLog st e).clk = s.clk := by
  unfold State.postLog; dsimp only; (repeat' split) <;> simp
@[simp] theorem State.postLog_sync : (s.postLog st e).sync = s.sync := by
  unfold State.postLog; dsimp only; (repeat' split) <;> simp
@[simp] theorem State.postLog_sec : (s.postLog st e).sec = s.sec := by
  unfold State.postLog; dsimp only; (repeat' split) <;> simp
@[simp] theorem State.postLog_hdrs : (s.postLog st e).hdrs = s.hdrs := by
  unfold State.postLog; dsimp only; (repeat' split) <;> simp
@[simp] theorem State.postLog_qmgr : (s.postLog st e).qmgr = s.qmgr := by
  unfold State.postLog; dsimp only; (repeat' split) <;> simp
@[simp] theorem State.postLog_hbms : (s.postLog st e).hbms = s.hbms := by
  unfold State.postLog; dsimp only; (repeat' split) <;> simp
@[simp] theorem State.postLog_err_eq : (s.postLog st e).err = s.err := by
  unfold State.postLog; dsimp only; (repeat' split) <;> simp
@[simp] theorem State.postLog_hlth : (s.postLog st e).hlth = s.hlth := by
  unfold State.postLog; dsimp only; (repeat' split) <;> simp
@[simp] theorem State.postLog_cals : (s.postLog st e).cals = s.cals := by
  unfold State.postLog; dsimp only; (repeat' split) <;> simp
@[simp] theorem State.postLog_clus : (s.postLog st e).clus = s.clus := by
  unfold State.postLog; dsimp only; (repeat' split) <;> simp
@[simp] theorem State.postLog_rgns : (s.postLog st e).rgns = s.rgns := by
  unfold State.postLog; dsimp only; (repeat' split) <;> simp
@[simp] theorem State.postLog_fcus : (s.postLog st e).fcus = s.fcus := by
  unfold State.postLog; dsimp only; (repeat' split) <;> simp
@[simp] theorem State.postLog_madcs : (s.postLog st e).madcs = s.madcs := by
  unfold State.postLog; dsimp only; (repeat' split) <;> simp
@[simp] theorem State.postLog_acqs : (s.postLog st e).acqs = s.acqs := by
  unfold State.postLog; dsimp only; (repeat' split) <;> simp
@[simp] theorem State.postLog_hists : (s.postLog st e).hists = s.hists := by
  unfold State.postLog; dsimp only; (repeat' split) <;> simp
@[simp] theorem State.postLog_chans : (s.postLog st e).chans = s.chans := by
  unfold State.postLog; dsimp only; (repeat' split) <;> simp
@[simp] theorem State.postLog_tes : (s.postLog st e).tes = s.tes := by
  unfold State.postLog; dsimp only; (repeat' split) <;> simp
@[simp] theorem State.postLog_hbmHolder : (s.postLog st e).hbmHolder = s.hbmHolder := by
  unfold State.postLog; dsimp only; (repeat' split) <;> simp
@[simp] theorem State.postLog_bankHolder : (s.postLog st e).bankHolder = s.bankHolder := by
  unfold State.postLog; dsimp only; (repeat' split) <;> simp
@[simp] theorem State.postLog_nor : (s.postLog st e).nor = s.nor := by
  unfold State.postLog; dsimp only; (repeat' split) <;> simp
@[simp] theorem State.postLog_otp : (s.postLog st e).otp = s.otp := by
  unfold State.postLog; dsimp only; (repeat' split) <;> simp
@[simp] theorem State.postLog_faults : (s.postLog st e).faults = s.faults := by
  unfold State.postLog; dsimp only; (repeat' split) <;> simp
@[simp] theorem State.postLog_smb : (s.postLog st e).smb = s.smb := by
  unfold State.postLog; dsimp only; (repeat' split) <;> simp
@[simp] theorem State.postLog_jtag : (s.postLog st e).jtag = s.jtag := by
  unfold State.postLog; dsimp only; (repeat' split) <;> simp
@[simp] theorem State.postLog_free : (s.postLog st e).free = s.free := by
  unfold State.postLog; dsimp only; (repeat' split) <;> simp
@[simp] theorem State.postLog_pcache : (s.postLog st e).pcache = s.pcache := by
  unfold State.postLog; dsimp only; (repeat' split) <;> simp
@[simp] theorem State.postLog_micro : (s.postLog st e).micro = s.micro := by
  unfold State.postLog; dsimp only; (repeat' split) <;> simp
@[simp] theorem State.postLog_placedQ : (s.postLog st e).placedQ = s.placedQ := by
  unfold State.postLog; dsimp only; (repeat' split) <;> simp
@[simp] theorem State.postLog_pending : (s.postLog st e).pending = s.pending := by
  unfold State.postLog; dsimp only; (repeat' split) <;> simp
@[simp] theorem State.postLog_hbm (j : Nat) : (s.postLog st e).hbm j = s.hbm j := by simp only [State.hbm, State.postLog_hbms]
@[simp] theorem State.postLog_cal (j : Nat) : (s.postLog st e).cal j = s.cal j := by simp only [State.cal, State.postLog_cals]
@[simp] theorem State.postLog_clu (j : Nat) : (s.postLog st e).clu j = s.clu j := by simp only [State.clu, State.postLog_clus]
@[simp] theorem State.postLog_rgn (j : Nat) : (s.postLog st e).rgn j = s.rgn j := by simp only [State.rgn, State.postLog_rgns]
@[simp] theorem State.postLog_fcu (j : Nat) : (s.postLog st e).fcu j = s.fcu j := by simp only [State.fcu, State.postLog_fcus]
@[simp] theorem State.postLog_madc (j : Nat) : (s.postLog st e).madc j = s.madc j := by simp only [State.madc, State.postLog_madcs]
@[simp] theorem State.postLog_acq (j : Nat) : (s.postLog st e).acq j = s.acq j := by simp only [State.acq, State.postLog_acqs]
@[simp] theorem State.postLog_hist (j : Nat) : (s.postLog st e).hist j = s.hist j := by simp only [State.hist, State.postLog_hists]
@[simp] theorem State.postLog_chan (j : Nat) : (s.postLog st e).chan j = s.chan j := by simp only [State.chan, State.postLog_chans]
@[simp] theorem State.postLog_te (j : Nat) : (s.postLog st e).te j = s.te j := by simp only [State.te, State.postLog_tes]
@[simp] theorem State.postLog_fault (j : Nat) : (s.postLog st e).fault j = s.fault j := by simp only [State.fault, State.postLog_faults]
@[simp] theorem State.postLog_trigIn (j : Nat) : (s.postLog st e).trigIn j = s.trigIn j := by simp only [State.trigIn, State.postLog_sync]
@[simp] theorem State.postLog_trigOut (j : Nat) : (s.postLog st e).trigOut j = s.trigOut j := by simp only [State.trigOut, State.postLog_sync]
@[simp] theorem State.postLog_secSite (j : Nat) : (s.postLog st e).secSite j = s.secSite j := by simp only [State.secSite, State.postLog_sec]
@[simp] theorem State.postLog_freeVal : (s.postLog st e).freeVal = s.freeVal := by simp only [State.freeVal, State.postLog_free]
@[simp] theorem State.postLog_now : (s.postLog st e).now = s.now := by simp only [State.now, State.postLog_root]
@[simp] theorem State.postLog_up : (s.postLog st e).up = s.up := by simp only [State.up, State.postLog_uptime]
@[simp] theorem State.postLog_hdr (a b : Nat) : (s.postLog st e).hdr a b = s.hdr a b := by simp only [State.hdr, State.postLog_hdrs]
end

/-! State.copyEntry -/
section
variable (s : State) (e : ErrEntry)
@[simp] theorem State.copyEntry_grade08 : (s.copyEntry e).grade08 = s.grade08 := by
  exact forEach_keep (·.grade08) _ (fun _ _ => by simp) _ _
@[simp] theorem State.copyEntry_bifur : (s.copyEntry e).bifur = s.bifur := by
  exact forEach_keep (·.bifur) _ (fun _ _ => by simp) _ _
@[simp] theorem State.copyEntry_smbAddr : (s.copyEntry e).smbAddr = s.smbAddr := by
  exact forEach_keep (·.smbAddr) _ (fun _ _ => by simp) _ _
@[simp] theorem State.copyEntry_root : (s.copyEntry e).root = s.root := by
  exact forEach_keep (·.root) _ (fun _ _ => by simp) _ _
@[simp] theorem State.copyEntry_uptime : (s.copyEntry e).uptime = s.uptime := by
  exact forEach_keep (·.uptime) _ (fun _ _ => by simp) _ _
@[simp] theorem State.copyEntry_everLocked : (s.copyEntry e).everLocked = s.everLocked := by
  exact forEach_keep (·.everLocked) _ (fun _ _ => by simp) _ _
@[simp] theorem State.copyEntry_stage : (s.copyEntry e).stage = s.stage := by
  exact forEach_keep (·.stage) _ (fun _ _ => by simp) _ _
@[simp] theorem State.copyEntry_link0 : (s.copyEntry e).link0 = s.link0 := by
  exact forEach_keep (·.link0) _ (fun _ _ => by simp) _ _
@[simp] theorem State.copyEntry_link1 : (s.copyEntry e).link1 = s.link1 := by
  exact forEach_keep (·.link1) _ (fun _ _ => by simp) _ _
@[simp] theorem State.copyEntry_pwr : (s.copyEntry e).pwr = s.pwr := by
  exact forEach_keep (·.pwr) _ (fun _ _ => by simp) _ _
@[simp] theorem State.copyEntry_glb : (s.copyEntry e).glb = s.glb := by
  exact forEach_keep (·.glb) _ (fun _ _ => by simp) _ _
@[simp] theorem State.copyEntry_clk : (s.copyEntry e).clk = s.clk := by
  exact forEach_keep (·.clk) _ (fun _ _ => by simp) _ _
@[simp] theorem State.copyEntry_sync : (s.copyEntry e).sync = s.sync := by
  exact forEach_keep (·.sync) _ (fun _ _ => by simp) _ _
@[simp] theorem State.copyEntry_sec : (s.copyEntry e).sec = s.sec := by
  exact forEach_keep (·.sec) _ (fun _ _ => by simp) _ _
@[simp] theorem State.copyEntry_hdrs : (s.copyEntry e).hdrs = s.hdrs := by
  exact forEach_keep (·.hdrs) _ (fun _ _ => by simp) _ _
@[simp] theorem State.copyEntry_qmgr : (s.copyEntry e).qmgr = s.qmgr := by
  exact forEach_keep (·.qmgr) _ (fun _ _ => by simp) _ _
@[simp] theorem State.copyEntry_hbms : (s.copyEntry e).hbms = s.hbms := by
  exact forEach_keep (·.hbms) _ (fun _ _ => by simp) _ _
@[simp] theorem State.copyEntry_err_eq : (s.copyEntry e).err = s.err := by
  exact forEach_keep (·.err) _ (fun _ _ => by simp) _ _
@[simp] theorem State.copyEntry_hlth : (s.copyEntry e).hlth = s.hlth := by
  exact forEach_keep (·.hlth) _ (fun _ _ => by simp) _ _
@[simp] theorem State.copyEntry_cals : (s.copyEntry e).cals = s.cals := by
  exact forEach_keep (·.cals) _ (fun _ _ => by simp) _ _
@[simp] theorem State.copyEntry_clus : (s.copyEntry e).clus = s.clus := by
  exact forEach_keep (·.clus) _ (fun _ _ => by simp) _ _
@[simp] theorem State.copyEntry_rgns : (s.copyEntry e).rgns = s.rgns := by
  exact forEach_keep (·.rgns) _ (fun _ _ => by simp) _ _
@[simp] theorem State.copyEntry_fcus : (s.copyEntry e).fcus = s.fcus := by
  exact forEach_keep (·.fcus) _ (fun _ _ => by simp) _ _
@[simp] theorem State.copyEntry_madcs : (s.copyEntry e).madcs = s.madcs := by
  exact forEach_keep (·.madcs) _ (fun _ _ => by simp) _ _
@[simp] theorem State.copyEntry_acqs : (s.copyEntry e).acqs = s.acqs := by
  exact forEach_keep (·.acqs) _ (fun _ _ => by simp) _ _
@[simp] theorem State.copyEntry_hists : (s.copyEntry e).hists = s.hists := by
  exact forEach_keep (·.hists) _ (fun _ _ => by simp) _ _
@[simp] theorem State.copyEntry_chans : (s.copyEntry e).chans = s.chans := by
  exact forEach_keep (·.chans) _ (fun _ _ => by simp) _ _
@[simp] theorem State.copyEntry_tes : (s.copyEntry e).tes = s.tes := by
  exact forEach_keep (·.tes) _ (fun _ _ => by simp) _ _
@[simp] theorem State.copyEntry_hbmHolder : (s.copyEntry e).hbmHolder = s.hbmHolder := by
  exact forEach_keep (·.hbmHolder) _ (fun _ _ => by simp) _ _
@[simp] theorem State.copyEntry_bankHolder : (s.copyEntry e).bankHolder = s.bankHolder := by
  exact forEach_keep (·.bankHolder) _ (fun _ _ => by simp) _ _
@[simp] theorem State.copyEntry_nor : (s.copyEntry e).nor = s.nor := by
  exact forEach_keep (·.nor) _ (fun _ _ => by simp) _ _
@[simp] theorem State.copyEntry_otp : (s.copyEntry e).otp = s.otp := by
  exact forEach_keep (·.otp) _ (fun _ _ => by simp) _ _
@[simp] theorem State.copyEntry_faults : (s.copyEntry e).faults = s.faults := by
  exact forEach_keep (·.faults) _ (fun _ _ => by simp) _ _
@[simp] theorem State.copyEntry_smb : (s.copyEntry e).smb = s.smb := by
  exact forEach_keep (·.smb) _ (fun _ _ => by simp) _ _
@[simp] theorem State.copyEntry_jtag : (s.copyEntry e).jtag = s.jtag := by
  exact forEach_keep (·.jtag) _ (fun _ _ => by simp) _ _
@[simp] theorem State.copyEntry_free : (s.copyEntry e).free = s.free := by
  exact forEach_keep (·.free) _ (fun _ _ => by simp) _ _
@[simp] theorem State.copyEntry_pcache : (s.copyEntry e).pcache = s.pcache := by
  exact forEach_keep (·.pcache) _ (fun _ _ => by simp) _ _
@[simp] theorem State.copyEntry_micro : (s.copyEntry e).micro = s.micro := by
  exact forEach_keep (·.micro) _ (fun _ _ => by simp) _ _
@[simp] theorem State.copyEntry_placedQ : (s.copyEntry e).placedQ = s.placedQ := by
  exact forEach_keep (·.placedQ) _ (fun _ _ => by simp) _ _
@[simp] theorem State.copyEntry_pending : (s.copyEntry e).pending = s.pending := by
  exact forEach_keep (·.pending) _ (fun _ _ => by simp) _ _
@[simp] theorem State.copyEntry_hbm (j : Nat) : (s.copyEntry e).hbm j = s.hbm j := by simp only [State.hbm, State.copyEntry_hbms]
@[simp] theorem State.copyEntry_cal (j : Nat) : (s.copyEntry e).cal j = s.cal j := by simp only [State.cal, State.copyEntry_cals]
@[simp] theorem State.copyEntry_clu (j : Nat) : (s.copyEntry e).clu j = s.clu j := by simp only [State.clu, State.copyEntry_clus]
@[simp] theorem State.copyEntry_rgn (j : Nat) : (s.copyEntry e).rgn j = s.rgn j := by simp only [State.rgn, State.copyEntry_rgns]
@[simp] theorem State.copyEntry_fcu (j : Nat) : (s.copyEntry e).fcu j = s.fcu j := by simp only [State.fcu, State.copyEntry_fcus]
@[simp] theorem State.copyEntry_madc (j : Nat) : (s.copyEntry e).madc j = s.madc j := by simp only [State.madc, State.copyEntry_madcs]
@[simp] theorem State.copyEntry_acq (j : Nat) : (s.copyEntry e).acq j = s.acq j := by simp only [State.acq, State.copyEntry_acqs]
@[simp] theorem State.copyEntry_hist (j : Nat) : (s.copyEntry e).hist j = s.hist j := by simp only [State.hist, State.copyEntry_hists]
@[simp] theorem State.copyEntry_chan (j : Nat) : (s.copyEntry e).chan j = s.chan j := by simp only [State.chan, State.copyEntry_chans]
@[simp] theorem State.copyEntry_te (j : Nat) : (s.copyEntry e).te j = s.te j := by simp only [State.te, State.copyEntry_tes]
@[simp] theorem State.copyEntry_fault (j : Nat) : (s.copyEntry e).fault j = s.fault j := by simp only [State.fault, State.copyEntry_faults]
@[simp] theorem State.copyEntry_trigIn (j : Nat) : (s.copyEntry e).trigIn j = s.trigIn j := by simp only [State.trigIn, State.copyEntry_sync]
@[simp] theorem State.copyEntry_trigOut (j : Nat) : (s.copyEntry e).trigOut j = s.trigOut j := by simp only [State.trigOut, State.copyEntry_sync]
@[simp] theorem State.copyEntry_secSite (j : Nat) : (s.copyEntry e).secSite j = s.secSite j := by simp only [State.secSite, State.copyEntry_sec]
@[simp] theorem State.copyEntry_freeVal : (s.copyEntry e).freeVal = s.freeVal := by simp only [State.freeVal, State.copyEntry_free]
@[simp] theorem State.copyEntry_now : (s.copyEntry e).now = s.now := by simp only [State.now, State.copyEntry_root]
@[simp] theorem State.copyEntry_up : (s.copyEntry e).up = s.up := by simp only [State.up, State.copyEntry_uptime]
@[simp] theorem State.copyEntry_hdr (a b : Nat) : (s.copyEntry e).hdr a b = s.hdr a b := by simp only [State.hdr, State.copyEntry_hdrs]
end

/-! State.closeEntries -/
section
variable (s : State) (p : ErrEntry → Bool)
@[simp] theorem State.closeEntries_grade08 : (s.closeEntries p).grade08 = s.grade08 := by
  unfold State.closeEntries; dsimp only
  exact (foldl_keep (·.grade08) _ (fun _ _ => by simp) _ _).trans (by simp)
@[simp] theorem State.closeEntries_bifur : (s.closeEntries p).bifur = s.bifur := by
  unfold State.closeEntries; dsimp only
  exact (foldl_keep (·.bifur) _ (fun _ _ => by simp) _ _).trans (by simp)
@[simp] theorem State.closeEntries_smbAddr : (s.closeEntries p).smbAddr = s.smbAddr := by
  unfold State.closeEntries; dsimp only
  exact (foldl_keep (·.smbAddr) _ (fun _ _ => by simp) _ _).trans (by simp)
@[simp] theorem State.closeEntries_root : (s.closeEntries p).root = s.root := by
  unfold State.closeEntries; dsimp only
  exact (foldl_keep (·.root) _ (fun _ _ => by simp) _ _).trans (by simp)
@[simp] theorem State.closeEntries_uptime : (s.closeEntries p).uptime = s.uptime := by
  unfold State.closeEntries; dsimp only
  exact (foldl_keep (·.uptime) _ (fun _ _ => by simp) _ _).trans (by simp)
@[simp] theorem State.closeEntries_everLocked : (s.closeEntries p).everLocked = s.everLocked := by
  unfold State.closeEntries; dsimp only
  exact (foldl_keep (·.everLocked) _ (fun _ _ => by simp) _ _).trans (by simp)
@[simp] theorem State.closeEntries_stage : (s.closeEntries p).stage = s.stage := by
  unfold State.closeEntries; dsimp only
  exact (foldl_keep (·.stage) _ (fun _ _ => by simp) _ _).trans (by simp)
@[simp] theorem State.closeEntries_link0 : (s.closeEntries p).link0 = s.link0 := by
  unfold State.closeEntries; dsimp only
  exact (foldl_keep (·.link0) _ (fun _ _ => by simp) _ _).trans (by simp)
@[simp] theorem State.closeEntries_link1 : (s.closeEntries p).link1 = s.link1 := by
  unfold State.closeEntries; dsimp only
  exact (foldl_keep (·.link1) _ (fun _ _ => by simp) _ _).trans (by simp)
@[simp] theorem State.closeEntries_pwr : (s.closeEntries p).pwr = s.pwr := by
  unfold State.closeEntries; dsimp only
  exact (foldl_keep (·.pwr) _ (fun _ _ => by simp) _ _).trans (by simp)
@[simp] theorem State.closeEntries_glb : (s.closeEntries p).glb = s.glb := by
  unfold State.closeEntries; dsimp only
  exact (foldl_keep (·.glb) _ (fun _ _ => by simp) _ _).trans (by simp)
@[simp] theorem State.closeEntries_clk : (s.closeEntries p).clk = s.clk := by
  unfold State.closeEntries; dsimp only
  exact (foldl_keep (·.clk) _ (fun _ _ => by simp) _ _).trans (by simp)
@[simp] theorem State.closeEntries_sync : (s.closeEntries p).sync = s.sync := by
  unfold State.closeEntries; dsimp only
  exact (foldl_keep (·.sync) _ (fun _ _ => by simp) _ _).trans (by simp)
@[simp] theorem State.closeEntries_sec : (s.closeEntries p).sec = s.sec := by
  unfold State.closeEntries; dsimp only
  exact (foldl_keep (·.sec) _ (fun _ _ => by simp) _ _).trans (by simp)
@[simp] theorem State.closeEntries_hdrs : (s.closeEntries p).hdrs = s.hdrs := by
  unfold State.closeEntries; dsimp only
  exact (foldl_keep (·.hdrs) _ (fun _ _ => by simp) _ _).trans (by simp)
@[simp] theorem State.closeEntries_qmgr : (s.closeEntries p).qmgr = s.qmgr := by
  unfold State.closeEntries; dsimp only
  exact (foldl_keep (·.qmgr) _ (fun _ _ => by simp) _ _).trans (by simp)
@[simp] theorem State.closeEntries_hbms : (s.closeEntries p).hbms = s.hbms := by
  unfold State.closeEntries; dsimp only
  exact (foldl_keep (·.hbms) _ (fun _ _ => by simp) _ _).trans (by simp)
@[simp] theorem State.closeEntries_hlth : (s.closeEntries p).hlth = s.hlth := by
  unfold State.closeEntries; dsimp only
  exact (foldl_keep (·.hlth) _ (fun _ _ => by simp) _ _).trans (by simp)
@[simp] theorem State.closeEntries_cals : (s.closeEntries p).cals = s.cals := by
  unfold State.closeEntries; dsimp only
  exact (foldl_keep (·.cals) _ (fun _ _ => by simp) _ _).trans (by simp)
@[simp] theorem State.closeEntries_clus : (s.closeEntries p).clus = s.clus := by
  unfold State.closeEntries; dsimp only
  exact (foldl_keep (·.clus) _ (fun _ _ => by simp) _ _).trans (by simp)
@[simp] theorem State.closeEntries_rgns : (s.closeEntries p).rgns = s.rgns := by
  unfold State.closeEntries; dsimp only
  exact (foldl_keep (·.rgns) _ (fun _ _ => by simp) _ _).trans (by simp)
@[simp] theorem State.closeEntries_fcus : (s.closeEntries p).fcus = s.fcus := by
  unfold State.closeEntries; dsimp only
  exact (foldl_keep (·.fcus) _ (fun _ _ => by simp) _ _).trans (by simp)
@[simp] theorem State.closeEntries_madcs : (s.closeEntries p).madcs = s.madcs := by
  unfold State.closeEntries; dsimp only
  exact (foldl_keep (·.madcs) _ (fun _ _ => by simp) _ _).trans (by simp)
@[simp] theorem State.closeEntries_acqs : (s.closeEntries p).acqs = s.acqs := by
  unfold State.closeEntries; dsimp only
  exact (foldl_keep (·.acqs) _ (fun _ _ => by simp) _ _).trans (by simp)
@[simp] theorem State.closeEntries_hists : (s.closeEntries p).hists = s.hists := by
  unfold State.closeEntries; dsimp only
  exact (foldl_keep (·.hists) _ (fun _ _ => by simp) _ _).trans (by simp)
@[simp] theorem State.closeEntries_chans : (s.closeEntries p).chans = s.chans := by
  unfold State.closeEntries; dsimp only
  exact (foldl_keep (·.chans) _ (fun _ _ => by simp) _ _).trans (by simp)
@[simp] theorem State.closeEntries_tes : (s.closeEntries p).tes = s.tes := by
  unfold State.closeEntries; dsimp only
  exact (foldl_keep (·.tes) _ (fun _ _ => by simp) _ _).trans (by simp)
@[simp] theorem State.closeEntries_hbmHolder : (s.closeEntries p).hbmHolder = s.hbmHolder := by
  unfold State.closeEntries; dsimp only
  exact (foldl_keep (·.hbmHolder) _ (fun _ _ => by simp) _ _).trans (by simp)
@[simp] theorem State.closeEntries_bankHolder : (s.closeEntries p).bankHolder = s.bankHolder := by
  unfold State.closeEntries; dsimp only
  exact (foldl_keep (·.bankHolder) _ (fun _ _ => by simp) _ _).trans (by simp)
@[simp] theorem State.closeEntries_nor : (s.closeEntries p).nor = s.nor := by
  unfold State.closeEntries; dsimp only
  exact (foldl_keep (·.nor) _ (fun _ _ => by simp) _ _).trans (by simp)
@[simp] theorem State.closeEntries_otp : (s.closeEntries p).otp = s.otp := by
  unfold State.closeEntries; dsimp only
  exact (foldl_keep (·.otp) _ (fun _ _ => by simp) _ _).trans (by simp)
@[simp] theorem State.closeEntries_faults : (s.closeEntries p).faults = s.faults := by
  unfold State.closeEntries; dsimp only
  exact (foldl_keep (·.faults) _ (fun _ _ => by simp) _ _).trans (by simp)
@[simp] theorem State.closeEntries_smb : (s.closeEntries p).smb = s.smb := by
  unfold State.closeEntries; dsimp only
  exact (foldl_keep (·.smb) _ (fun _ _ => by simp) _ _).trans (by simp)
@[simp] theorem State.closeEntries_jtag : (s.closeEntries p).jtag = s.jtag := by
  unfold State.closeEntries; dsimp only
  exact (foldl_keep (·.jtag) _ (fun _ _ => by simp) _ _).trans (by simp)
@[simp] theorem State.closeEntries_free : (s.closeEntries p).free = s.free := by
  unfold State.closeEntries; dsimp only
  exact (foldl_keep (·.free) _ (fun _ _ => by simp) _ _).trans (by simp)
@[simp] theorem State.closeEntries_pcache : (s.closeEntries p).pcache = s.pcache := by
  unfold State.closeEntries; dsimp only
  exact (foldl_keep (·.pcache) _ (fun _ _ => by simp) _ _).trans (by simp)
@[simp] theorem State.closeEntries_micro : (s.closeEntries p).micro = s.micro := by
  unfold State.closeEntries; dsimp only
  exact (foldl_keep (·.micro) _ (fun _ _ => by simp) _ _).trans (by simp)
@[simp] theorem State.closeEntries_placedQ : (s.closeEntries p).placedQ = s.placedQ := by
  unfold State.closeEntries; dsimp only
  exact (foldl_keep (·.placedQ) _ (fun _ _ => by simp) _ _).trans (by simp)
@[simp] theorem State.closeEntries_pending : (s.closeEntries p).pending = s.pending := by
  unfold State.closeEntries; dsimp only
  exact (foldl_keep (·.pending) _ (fun _ _ => by simp) _ _).trans (by simp)
@[simp] theorem State.closeEntries_hbm (j : Nat) : (s.closeEntries p).hbm j = s.hbm j := by simp only [State.hbm, State.closeEntries_hbms]
@[simp] theorem State.closeEntries_cal (j : Nat) : (s.closeEntries p).cal j = s.cal j := by simp only [State.cal, State.closeEntries_cals]
@[simp] theorem State.closeEntries_clu (j : Nat) : (s.closeEntries p).clu j = s.clu j := by simp only [State.clu, State.closeEntries_clus]
@[simp] theorem State.closeEntries_rgn (j : Nat) : (s.closeEntries p).rgn j = s.rgn j := by simp only [State.rgn, State.closeEntries_rgns]
@[simp] theorem State.closeEntries_fcu (j : Nat) : (s.closeEntries p).fcu j = s.fcu j := by simp only [State.fcu, State.closeEntries_fcus]
@[simp] theorem State.closeEntries_madc (j : Nat) : (s.closeEntries p).madc j = s.madc j := by simp only [State.madc, State.closeEntries_madcs]
@[simp] theorem State.closeEntries_acq (j : Nat) : (s.closeEntries p).acq j = s.acq j := by simp only [State.acq, State.closeEntries_acqs]
@[simp] theorem State.closeEntries_hist (j : Nat) : (s.closeEntries p).hist j = s.hist j := by simp only [State.hist, State.closeEntries_hists]
@[simp] theorem State.closeEntries_chan (j : Nat) : (s.closeEntries p).chan j = s.chan j := by simp only [State.chan, State.closeEntries_chans]
@[simp] theorem State.closeEntries_te (j : Nat) : (s.closeEntries p).te j = s.te j := by simp only [State.te, State.closeEntries_tes]
@[simp] theorem State.closeEntries_fault (j : Nat) : (s.closeEntries p).fault j = s.fault j := by simp only [State.fault, State.closeEntries_faults]
@[simp] theorem State.closeEntries_trigIn (j : Nat) : (s.closeEntries p).trigIn j = s.trigIn j := by simp only [State.trigIn, State.closeEntries_sync]
@[simp] theorem State.closeEntries_trigOut (j : Nat) : (s.closeEntries p).trigOut j = s.trigOut j := by simp only [State.trigOut, State.closeEntries_sync]
@[simp] theorem State.closeEntries_secSite (j : Nat) : (s.closeEntries p).secSite j = s.secSite j := by simp only [State.secSite, State.closeEntries_sec]
@[simp] theorem State.closeEntries_freeVal : (s.closeEntries p).freeVal = s.freeVal := by simp only [State.freeVal, State.closeEntries_free]
@[simp] theorem State.closeEntries_now : (s.closeEntries p).now = s.now := by simp only [State.now, State.closeEntries_root]
@[simp] theorem State.closeEntries_up : (s.closeEntries p).up = s.up := by simp only [State.up, State.closeEntries_uptime]
@[simp] theorem State.closeEntries_hdr (a b : Nat) : (s.closeEntries p).hdr a b = s.hdr a b := by simp only [State.hdr, State.closeEntries_hdrs]
end

/-! State.closeDue -/
section
variable (s : State) 
@[simp] theorem State.closeDue_grade08 : (s.closeDue).grade08 = s.grade08 := by
  unfold State.closeDue; simp
@[simp] theorem State.closeDue_bifur : (s.closeDue).bifur = s.bifur := by
  unfold State.closeDue; simp
@[simp] theorem State.closeDue_smbAddr : (s.closeDue).smbAddr = s.smbAddr := by
  unfold State.closeDue; simp
@[simp] theorem State.closeDue_root : (s.closeDue).root = s.root := by
  unfold State.closeDue; simp
@[simp] theorem State.closeDue_uptime : (s.closeDue).uptime = s.uptime := by
  unfold State.closeDue; simp
@[simp] theorem State.closeDue_everLocked : (s.closeDue).everLocked = s.everLocked := by
  unfold State.closeDue; simp
@[simp] theorem State.closeDue_stage : (s.closeDue).stage = s.stage := by
  unfold State.closeDue; simp
@[simp] theorem State.closeDue_link0 : (s.closeDue).link0 = s.link0 := by
  unfold State.closeDue; simp
@[simp] theorem State.closeDue_link1 : (s.closeDue).link1 = s.link1 := by
  unfold State.closeDue; simp
@[simp] theorem State.closeDue_pwr : (s.closeDue).pwr = s.pwr := by
  unfold State.closeDue; simp
@[simp] theorem State.closeDue_glb : (s.closeDue).glb = s.glb := by
  unfold State.closeDue; simp
@[simp] theorem State.closeDue_clk : (s.closeDue).clk = s.clk := by
  unfold State.closeDue; simp
@[simp] theorem State.closeDue_sync : (s.closeDue).sync = s.sync := by
  unfold State.closeDue; simp
@[simp] theorem State.closeDue_sec : (s.closeDue).sec = s.sec := by
  unfold State.closeDue; simp
@[simp] theorem State.closeDue_hdrs : (s.closeDue).hdrs = s.hdrs := by
  unfold State.closeDue; simp
@[simp] theorem State.closeDue_qmgr : (s.closeDue).qmgr = s.qmgr := by
  unfold State.closeDue; simp
@[simp] theorem State.closeDue_hbms : (s.closeDue).hbms = s.hbms := by
  unfold State.closeDue; simp
@[simp] theorem State.closeDue_hlth : (s.closeDue).hlth = s.hlth := by
  unfold State.closeDue; simp
@[simp] theorem State.closeDue_cals : (s.closeDue).cals = s.cals := by
  unfold State.closeDue; simp
@[simp] theorem State.closeDue_clus : (s.closeDue).clus = s.clus := by
  unfold State.closeDue; simp
@[simp] theorem State.closeDue_rgns : (s.closeDue).rgns = s.rgns := by
  unfold State.closeDue; simp
@[simp] theorem State.closeDue_fcus : (s.closeDue).fcus = s.fcus := by
  unfold State.closeDue; simp
@[simp] theorem State.closeDue_madcs : (s.closeDue).madcs = s.madcs := by
  unfold State.closeDue; simp
@[simp] theorem State.closeDue_acqs : (s.closeDue).acqs = s.acqs := by
  unfold State.closeDue; simp
@[simp] theorem State.closeDue_hists : (s.closeDue).hists = s.hists := by
  unfold State.closeDue; simp
@[simp] theorem State.closeDue_chans : (s.closeDue).chans = s.chans := by
  unfold State.closeDue; simp
@[simp] theorem State.closeDue_tes : (s.closeDue).tes = s.tes := by
  unfold State.closeDue; simp
@[simp] theorem State.closeDue_hbmHolder : (s.closeDue).hbmHolder = s.hbmHolder := by
  unfold State.closeDue; simp
@[simp] theorem State.closeDue_bankHolder : (s.closeDue).bankHolder = s.bankHolder := by
  unfold State.closeDue; simp
@[simp] theorem State.closeDue_nor : (s.closeDue).nor = s.nor := by
  unfold State.closeDue; simp
@[simp] theorem State.closeDue_otp : (s.closeDue).otp = s.otp := by
  unfold State.closeDue; simp
@[simp] theorem State.closeDue_faults : (s.closeDue).faults = s.faults := by
  unfold State.closeDue; simp
@[simp] theorem State.closeDue_smb : (s.closeDue).smb = s.smb := by
  unfold State.closeDue; simp
@[simp] theorem State.closeDue_jtag : (s.closeDue).jtag = s.jtag := by
  unfold State.closeDue; simp
@[simp] theorem State.closeDue_free : (s.closeDue).free = s.free := by
  unfold State.closeDue; simp
@[simp] theorem State.closeDue_pcache : (s.closeDue).pcache = s.pcache := by
  unfold State.closeDue; simp
@[simp] theorem State.closeDue_micro : (s.closeDue).micro = s.micro := by
  unfold State.closeDue; simp
@[simp] theorem State.closeDue_placedQ : (s.closeDue).placedQ = s.placedQ := by
  unfold State.closeDue; simp
@[simp] theorem State.closeDue_pending : (s.closeDue).pending = s.pending := by
  unfold State.closeDue; simp
@[simp] theorem State.closeDue_hbm (j : Nat) : (s.closeDue).hbm j = s.hbm j := by simp only [State.hbm, State.closeDue_hbms]
@[simp] theorem State.closeDue_cal (j : Nat) : (s.closeDue).cal j = s.cal j := by simp only [State.cal, State.closeDue_cals]
@[simp] theorem State.closeDue_clu (j : Nat) : (s.closeDue).clu j = s.clu j := by simp only [State.clu, State.closeDue_clus]
@[simp] theorem State.closeDue_rgn (j : Nat) : (s.closeDue).rgn j = s.rgn j := by simp only [State.rgn, State.closeDue_rgns]
@[simp] theorem State.closeDue_fcu (j : Nat) : (s.closeDue).fcu j = s.fcu j := by simp only [State.fcu, State.closeDue_fcus]
@[simp] theorem State.closeDue_madc (j : Nat) : (s.closeDue).madc j = s.madc j := by simp only [State.madc, State.closeDue_madcs]
@[simp] theorem State.closeDue_acq (j : Nat) : (s.closeDue).acq j = s.acq j := by simp only [State.acq, State.closeDue_acqs]
@[simp] theorem State.closeDue_hist (j : Nat) : (s.closeDue).hist j = s.hist j := by simp only [State.hist, State.closeDue_hists]
@[simp] theorem State.closeDue_chan (j : Nat) : (s.closeDue).chan j = s.chan j := by simp only [State.chan, State.closeDue_chans]
@[simp] theorem State.closeDue_te (j : Nat) : (s.closeDue).te j = s.te j := by simp only [State.te, State.closeDue_tes]
@[simp] theorem State.closeDue_fault (j : Nat) : (s.closeDue).fault j = s.fault j := by simp only [State.fault, State.closeDue_faults]
@[simp] theorem State.closeDue_trigIn (j : Nat) : (s.closeDue).trigIn j = s.trigIn j := by simp only [State.trigIn, State.closeDue_sync]
@[simp] theorem State.closeDue_trigOut (j : Nat) : (s.closeDue).trigOut j = s.trigOut j := by simp only [State.trigOut, State.closeDue_sync]
@[simp] theorem State.closeDue_secSite (j : Nat) : (s.closeDue).secSite j = s.secSite j := by simp only [State.secSite, State.closeDue_sec]
@[simp] theorem State.closeDue_freeVal : (s.closeDue).freeVal = s.freeVal := by simp only [State.freeVal, State.closeDue_free]
@[simp] theorem State.closeDue_now : (s.closeDue).now = s.now := by simp only [State.now, State.closeDue_root]
@[simp] theorem State.closeDue_up : (s.closeDue).up = s.up := by simp only [State.up, State.closeDue_uptime]
@[simp] theorem State.closeDue_hdr (a b : Nat) : (s.closeDue).hdr a b = s.hdr a b := by simp only [State.hdr, State.closeDue_hdrs]
end

/-! State.writeEntry -/
section
variable (s : State) (e : ErrEntry)
@[simp] theorem State.writeEntry_grade08 : (s.writeEntry e).grade08 = s.grade08 := by
  unfold State.writeEntry; dsimp only; simp only [State.cause_grade08]; (repeat' split) <;> simp
@[simp] theorem State.writeEntry_bifur : (s.writeEntry e).bifur = s.bifur := by
  unfold State.writeEntry; dsimp only; simp only [State.cause_bifur]; (repeat' split) <;> simp
@[simp] theorem State.writeEntry_smbAddr : (s.writeEntry e).smbAddr = s.smbAddr := by
  unfold State.writeEntry; dsimp only; simp only [State.cause_smbAddr]; (repeat' split) <;> simp
@[simp] theorem State.writeEntry_root : (s.writeEntry e).root = s.root := by
  unfold State.writeEntry; dsimp only; simp only [State.cause_root]; (repeat' split) <;> simp
@[simp] theorem State.writeEntry_uptime : (s.writeEntry e).uptime = s.uptime := by
  unfold State.writeEntry; dsimp only; simp only [State.cause_uptime]; (repeat' split) <;> simp
@[simp] theorem State.writeEntry_everLocked : (s.writeEntry e).everLocked = s.everLocked := by
  unfold State.writeEntry; dsimp only; simp only [State.cause_everLocked]; (repeat' split) <;> simp
@[simp] theorem State.writeEntry_stage : (s.writeEntry e).stage = s.stage := by
  unfold State.writeEntry; dsimp only; simp only [State.cause_stage]; (repeat' split) <;> simp
@[simp] theorem State.writeEntry_link0 : (s.writeEntry e).link0 = s.link0 := by
  unfold State.writeEntry; dsimp only; simp only [State.cause_link0]; (repeat' split) <;> simp
@[simp] theorem State.writeEntry_link1 : (s.writeEntry e).link1 = s.link1 := by
  unfold State.writeEntry; dsimp only; simp only [State.cause_link1]; (repeat' split) <;> simp
@[simp] theorem State.writeEntry_pwr : (s.writeEntry e).pwr = s.pwr := by
  unfold State.writeEntry; dsimp only; simp only [State.cause_pwr]; (repeat' split) <;> simp
@[simp] theorem State.writeEntry_glb : (s.writeEntry e).glb = s.glb := by
  unfold State.writeEntry; dsimp only; simp only [State.cause_glb]; (repeat' split) <;> simp
@[simp] theorem State.writeEntry_clk : (s.writeEntry e).clk = s.clk := by
  unfold State.writeEntry; dsimp only; simp only [State.cause_clk]; (repeat' split) <;> simp
@[simp] theorem State.writeEntry_sync : (s.writeEntry e).sync = s.sync := by
  unfold State.writeEntry; dsimp only; simp only [State.cause_sync]; (repeat' split) <;> simp
@[simp] theorem State.writeEntry_sec : (s.writeEntry e).sec = s.sec := by
  unfold State.writeEntry; dsimp only; simp only [State.cause_sec]; (repeat' split) <;> simp
@[simp] theorem State.writeEntry_qmgr : (s.writeEntry e).qmgr = s.qmgr := by
  unfold State.writeEntry; dsimp only; simp only [State.cause_qmgr]; (repeat' split) <;> simp
@[simp] theorem State.writeEntry_hbms : (s.writeEntry e).hbms = s.hbms := by
  unfold State.writeEntry; dsimp only; simp only [State.cause_hbms]; (repeat' split) <;> simp
@[simp] theorem State.writeEntry_hlth : (s.writeEntry e).hlth = s.hlth := by
  unfold State.writeEntry; dsimp only; simp only [State.cause_hlth]; (repeat' split) <;> simp
@[simp] theorem State.writeEntry_cals : (s.writeEntry e).cals = s.cals := by
  unfold State.writeEntry; dsimp only; simp only [State.cause_cals]; (repeat' split) <;> simp
@[simp] theorem State.writeEntry_clus : (s.writeEntry e).clus = s.clus := by
  unfold State.writeEntry; dsimp only; simp only [State.cause_clus]; (repeat' split) <;> simp
@[simp] theorem State.writeEntry_rgns : (s.writeEntry e).rgns = s.rgns := by
  unfold State.writeEntry; dsimp only; simp only [State.cause_rgns]; (repeat' split) <;> simp
@[simp] theorem State.writeEntry_fcus : (s.writeEntry e).fcus = s.fcus := by
  unfold State.writeEntry; dsimp only; simp only [State.cause_fcus]; (repeat' split) <;> simp
@[simp] theorem State.writeEntry_madcs : (s.writeEntry e).madcs = s.madcs := by
  unfold State.writeEntry; dsimp only; simp only [State.cause_madcs]; (repeat' split) <;> simp
@[simp] theorem State.writeEntry_acqs : (s.writeEntry e).acqs = s.acqs := by
  unfold State.writeEntry; dsimp only; simp only [State.cause_acqs]; (repeat' split) <;> simp
@[simp] theorem State.writeEntry_hists : (s.writeEntry e).hists = s.hists := by
  unfold State.writeEntry; dsimp only; simp only [State.cause_hists]; (repeat' split) <;> simp
@[simp] theorem State.writeEntry_chans : (s.writeEntry e).chans = s.chans := by
  unfold State.writeEntry; dsimp only; simp only [State.cause_chans]; (repeat' split) <;> simp
@[simp] theorem State.writeEntry_tes : (s.writeEntry e).tes = s.tes := by
  unfold State.writeEntry; dsimp only; simp only [State.cause_tes]; (repeat' split) <;> simp
@[simp] theorem State.writeEntry_hbmHolder : (s.writeEntry e).hbmHolder = s.hbmHolder := by
  unfold State.writeEntry; dsimp only; simp only [State.cause_hbmHolder]; (repeat' split) <;> simp
@[simp] theorem State.writeEntry_bankHolder : (s.writeEntry e).bankHolder = s.bankHolder := by
  unfold State.writeEntry; dsimp only; simp only [State.cause_bankHolder]; (repeat' split) <;> simp
@[simp] theorem State.writeEntry_nor : (s.writeEntry e).nor = s.nor := by
  unfold State.writeEntry; dsimp only; simp only [State.cause_nor]; (repeat' split) <;> simp
@[simp] theorem State.writeEntry_otp : (s.writeEntry e).otp = s.otp := by
  unfold State.writeEntry; dsimp only; simp only [State.cause_otp]; (repeat' split) <;> simp
@[simp] theorem State.writeEntry_faults : (s.writeEntry e).faults = s.faults := by
  unfold State.writeEntry; dsimp only; simp only [State.cause_faults]; (repeat' split) <;> simp
@[simp] theorem State.writeEntry_smb : (s.writeEntry e).smb = s.smb := by
  unfold State.writeEntry; dsimp only; simp only [State.cause_smb]; (repeat' split) <;> simp
@[simp] theorem State.writeEntry_jtag : (s.writeEntry e).jtag = s.jtag := by
  unfold State.writeEntry; dsimp only; simp only [State.cause_jtag]; (repeat' split) <;> simp
@[simp] theorem State.writeEntry_free : (s.writeEntry e).free = s.free := by
  unfold State.writeEntry; dsimp only; simp only [State.cause_free]; (repeat' split) <;> simp
@[simp] theorem State.writeEntry_pcache : (s.writeEntry e).pcache = s.pcache := by
  unfold State.writeEntry; dsimp only; simp only [State.cause_pcache]; (repeat' split) <;> simp
@[simp] theorem State.writeEntry_micro : (s.writeEntry e).micro = s.micro := by
  unfold State.writeEntry; dsimp only; simp only [State.cause_micro]; (repeat' split) <;> simp
@[simp] theorem State.writeEntry_placedQ : (s.writeEntry e).placedQ = s.placedQ := by
  unfold State.writeEntry; dsimp only; simp only [State.cause_placedQ]; (repeat' split) <;> simp
@[simp] theorem State.writeEntry_pending : (s.writeEntry e).pending = s.pending := by
  unfold State.writeEntry; dsimp only; simp only [State.cause_pending]; (repeat' split) <;> simp
@[simp] theorem State.writeEntry_hbm (j : Nat) : (s.writeEntry e).hbm j = s.hbm j := by simp only [State.hbm, State.writeEntry_hbms]
@[simp] theorem State.writeEntry_cal (j : Nat) : (s.writeEntry e).cal j = s.cal j := by simp only [State.cal, State.writeEntry_cals]
@[simp] theorem State.writeEntry_clu (j : Nat) : (s.writeEntry e).clu j = s.clu j := by simp only [State.clu, State.writeEntry_clus]
@[simp] theorem State.writeEntry_rgn (j : Nat) : (s.writeEntry e).rgn j = s.rgn j := by simp only [State.rgn, State.writeEntry_rgns]
@[simp] theorem State.writeEntry_fcu (j : Nat) : (s.writeEntry e).fcu j = s.fcu j := by simp only [State.fcu, State.writeEntry_fcus]
@[simp] theorem State.writeEntry_madc (j : Nat) : (s.writeEntry e).madc j = s.madc j := by simp only [State.madc, State.writeEntry_madcs]
@[simp] theorem State.writeEntry_acq (j : Nat) : (s.writeEntry e).acq j = s.acq j := by simp only [State.acq, State.writeEntry_acqs]
@[simp] theorem State.writeEntry_hist (j : Nat) : (s.writeEntry e).hist j = s.hist j := by simp only [State.hist, State.writeEntry_hists]
@[simp] theorem State.writeEntry_chan (j : Nat) : (s.writeEntry e).chan j = s.chan j := by simp only [State.chan, State.writeEntry_chans]
@[simp] theorem State.writeEntry_te (j : Nat) : (s.writeEntry e).te j = s.te j := by simp only [State.te, State.writeEntry_tes]
@[simp] theorem State.writeEntry_fault (j : Nat) : (s.writeEntry e).fault j = s.fault j := by simp only [State.fault, State.writeEntry_faults]
@[simp] theorem State.writeEntry_trigIn (j : Nat) : (s.writeEntry e).trigIn j = s.trigIn j := by simp only [State.trigIn, State.writeEntry_sync]
@[simp] theorem State.writeEntry_trigOut (j : Nat) : (s.writeEntry e).trigOut j = s.trigOut j := by simp only [State.trigOut, State.writeEntry_sync]
@[simp] theorem State.writeEntry_secSite (j : Nat) : (s.writeEntry e).secSite j = s.secSite j := by simp only [State.secSite, State.writeEntry_sec]
@[simp] theorem State.writeEntry_freeVal : (s.writeEntry e).freeVal = s.freeVal := by simp only [State.freeVal, State.writeEntry_free]
@[simp] theorem State.writeEntry_now : (s.writeEntry e).now = s.now := by simp only [State.now, State.writeEntry_root]
@[simp] theorem State.writeEntry_up : (s.writeEntry e).up = s.up := by simp only [State.up, State.writeEntry_uptime]
end

/-! State.errDrain -/
section
variable (s : State) 
@[simp] theorem State.errDrain_grade08 : (s.errDrain).grade08 = s.grade08 := by
  unfold State.errDrain; (repeat' split) <;> simp
@[simp] theorem State.errDrain_bifur : (s.errDrain).bifur = s.bifur := by
  unfold State.errDrain; (repeat' split) <;> simp
@[simp] theorem State.errDrain_smbAddr : (s.errDrain).smbAddr = s.smbAddr := by
  unfold State.errDrain; (repeat' split) <;> simp
@[simp] theorem State.errDrain_root : (s.errDrain).root = s.root := by
  unfold State.errDrain; (repeat' split) <;> simp
@[simp] theorem State.errDrain_uptime : (s.errDrain).uptime = s.uptime := by
  unfold State.errDrain; (repeat' split) <;> simp
@[simp] theorem State.errDrain_everLocked : (s.errDrain).everLocked = s.everLocked := by
  unfold State.errDrain; (repeat' split) <;> simp
@[simp] theorem State.errDrain_stage : (s.errDrain).stage = s.stage := by
  unfold State.errDrain; (repeat' split) <;> simp
@[simp] theorem State.errDrain_link0 : (s.errDrain).link0 = s.link0 := by
  unfold State.errDrain; (repeat' split) <;> simp
@[simp] theorem State.errDrain_link1 : (s.errDrain).link1 = s.link1 := by
  unfold State.errDrain; (repeat' split) <;> simp
@[simp] theorem State.errDrain_pwr : (s.errDrain).pwr = s.pwr := by
  unfold State.errDrain; (repeat' split) <;> simp
@[simp] theorem State.errDrain_glb : (s.errDrain).glb = s.glb := by
  unfold State.errDrain; (repeat' split) <;> simp
@[simp] theorem State.errDrain_clk : (s.errDrain).clk = s.clk := by
  unfold State.errDrain; (repeat' split) <;> simp
@[simp] theorem State.errDrain_sync : (s.errDrain).sync = s.sync := by
  unfold State.errDrain; (repeat' split) <;> simp
@[simp] theorem State.errDrain_sec : (s.errDrain).sec = s.sec := by
  unfold State.errDrain; (repeat' split) <;> simp
@[simp] theorem State.errDrain_qmgr : (s.errDrain).qmgr = s.qmgr := by
  unfold State.errDrain; (repeat' split) <;> simp
@[simp] theorem State.errDrain_hbms : (s.errDrain).hbms = s.hbms := by
  unfold State.errDrain; (repeat' split) <;> simp
@[simp] theorem State.errDrain_hlth : (s.errDrain).hlth = s.hlth := by
  unfold State.errDrain; (repeat' split) <;> simp
@[simp] theorem State.errDrain_cals : (s.errDrain).cals = s.cals := by
  unfold State.errDrain; (repeat' split) <;> simp
@[simp] theorem State.errDrain_clus : (s.errDrain).clus = s.clus := by
  unfold State.errDrain; (repeat' split) <;> simp
@[simp] theorem State.errDrain_rgns : (s.errDrain).rgns = s.rgns := by
  unfold State.errDrain; (repeat' split) <;> simp
@[simp] theorem State.errDrain_fcus : (s.errDrain).fcus = s.fcus := by
  unfold State.errDrain; (repeat' split) <;> simp
@[simp] theorem State.errDrain_madcs : (s.errDrain).madcs = s.madcs := by
  unfold State.errDrain; (repeat' split) <;> simp
@[simp] theorem State.errDrain_acqs : (s.errDrain).acqs = s.acqs := by
  unfold State.errDrain; (repeat' split) <;> simp
@[simp] theorem State.errDrain_hists : (s.errDrain).hists = s.hists := by
  unfold State.errDrain; (repeat' split) <;> simp
@[simp] theorem State.errDrain_chans : (s.errDrain).chans = s.chans := by
  unfold State.errDrain; (repeat' split) <;> simp
@[simp] theorem State.errDrain_tes : (s.errDrain).tes = s.tes := by
  unfold State.errDrain; (repeat' split) <;> simp
@[simp] theorem State.errDrain_hbmHolder : (s.errDrain).hbmHolder = s.hbmHolder := by
  unfold State.errDrain; (repeat' split) <;> simp
@[simp] theorem State.errDrain_bankHolder : (s.errDrain).bankHolder = s.bankHolder := by
  unfold State.errDrain; (repeat' split) <;> simp
@[simp] theorem State.errDrain_nor : (s.errDrain).nor = s.nor := by
  unfold State.errDrain; (repeat' split) <;> simp
@[simp] theorem State.errDrain_otp : (s.errDrain).otp = s.otp := by
  unfold State.errDrain; (repeat' split) <;> simp
@[simp] theorem State.errDrain_faults : (s.errDrain).faults = s.faults := by
  unfold State.errDrain; (repeat' split) <;> simp
@[simp] theorem State.errDrain_smb : (s.errDrain).smb = s.smb := by
  unfold State.errDrain; (repeat' split) <;> simp
@[simp] theorem State.errDrain_jtag : (s.errDrain).jtag = s.jtag := by
  unfold State.errDrain; (repeat' split) <;> simp
@[simp] theorem State.errDrain_free : (s.errDrain).free = s.free := by
  unfold State.errDrain; (repeat' split) <;> simp
@[simp] theorem State.errDrain_pcache : (s.errDrain).pcache = s.pcache := by
  unfold State.errDrain; (repeat' split) <;> simp
@[simp] theorem State.errDrain_micro : (s.errDrain).micro = s.micro := by
  unfold State.errDrain; (repeat' split) <;> simp
@[simp] theorem State.errDrain_placedQ : (s.errDrain).placedQ = s.placedQ := by
  unfold State.errDrain; (repeat' split) <;> simp
@[simp] theorem State.errDrain_pending : (s.errDrain).pending = s.pending := by
  unfold State.errDrain; (repeat' split) <;> simp
@[simp] theorem State.errDrain_hbm (j : Nat) : (s.errDrain).hbm j = s.hbm j := by simp only [State.hbm, State.errDrain_hbms]
@[simp] theorem State.errDrain_cal (j : Nat) : (s.errDrain).cal j = s.cal j := by simp only [State.cal, State.errDrain_cals]
@[simp] theorem State.errDrain_clu (j : Nat) : (s.errDrain).clu j = s.clu j := by simp only [State.clu, State.errDrain_clus]
@[simp] theorem State.errDrain_rgn (j : Nat) : (s.errDrain).rgn j = s.rgn j := by simp only [State.rgn, State.errDrain_rgns]
@[simp] theorem State.errDrain_fcu (j : Nat) : (s.errDrain).fcu j = s.fcu j := by simp only [State.fcu, State.errDrain_fcus]
@[simp] theorem State.errDrain_madc (j : Nat) : (s.errDrain).madc j = s.madc j := by simp only [State.madc, State.errDrain_madcs]
@[simp] theorem State.errDrain_acq (j : Nat) : (s.errDrain).acq j = s.acq j := by simp only [State.acq, State.errDrain_acqs]
@[simp] theorem State.errDrain_hist (j : Nat) : (s.errDrain).hist j = s.hist j := by simp only [State.hist, State.errDrain_hists]
@[simp] theorem State.errDrain_chan (j : Nat) : (s.errDrain).chan j = s.chan j := by simp only [State.chan, State.errDrain_chans]
@[simp] theorem State.errDrain_te (j : Nat) : (s.errDrain).te j = s.te j := by simp only [State.te, State.errDrain_tes]
@[simp] theorem State.errDrain_fault (j : Nat) : (s.errDrain).fault j = s.fault j := by simp only [State.fault, State.errDrain_faults]
@[simp] theorem State.errDrain_trigIn (j : Nat) : (s.errDrain).trigIn j = s.trigIn j := by simp only [State.trigIn, State.errDrain_sync]
@[simp] theorem State.errDrain_trigOut (j : Nat) : (s.errDrain).trigOut j = s.trigOut j := by simp only [State.trigOut, State.errDrain_sync]
@[simp] theorem State.errDrain_secSite (j : Nat) : (s.errDrain).secSite j = s.secSite j := by simp only [State.secSite, State.errDrain_sec]
@[simp] theorem State.errDrain_freeVal : (s.errDrain).freeVal = s.freeVal := by simp only [State.freeVal, State.errDrain_free]
@[simp] theorem State.errDrain_now : (s.errDrain).now = s.now := by simp only [State.now, State.errDrain_root]
@[simp] theorem State.errDrain_up : (s.errDrain).up = s.up := by simp only [State.up, State.errDrain_uptime]
end

/-! State.newEntry -/
section
variable (s : State) (e : ErrEntry)
@[simp] theorem State.newEntry_grade08 : (s.newEntry e).grade08 = s.grade08 := by
  unfold State.newEntry; dsimp only; (repeat' split) <;> simp
@[simp] theorem State.newEntry_bifur : (s.newEntry e).bifur = s.bifur := by
  unfold State.newEntry; dsimp only; (repeat' split) <;> simp
@[simp] theorem State.newEntry_smbAddr : (s.newEntry e).smbAddr = s.smbAddr := by
  unfold State.newEntry; dsimp only; (repeat' split) <;> simp
@[simp] theorem State.newEntry_root : (s.newEntry e).root = s.root := by
  unfold State.newEntry; dsimp only; (repeat' split) <;> simp
@[simp] theorem State.newEntry_uptime : (s.newEntry e).uptime = s.uptime := by
  unfold State.newEntry; dsimp only; (repeat' split) <;> simp
@[simp] theorem State.newEntry_everLocked : (s.newEntry e).everLocked = s.everLocked := by
  unfold State.newEntry; dsimp only; (repeat' split) <;> simp
@[simp] theorem State.newEntry_stage : (s.newEntry e).stage = s.stage := by
  unfold State.newEntry; dsimp only; (repeat' split) <;> simp
@[simp] theorem State.newEntry_link0 : (s.newEntry e).link0 = s.link0 := by
  unfold State.newEntry; dsimp only; (repeat' split) <;> simp
@[simp] theorem State.newEntry_link1 : (s.newEntry e).link1 = s.link1 := by
  unfold State.newEntry; dsimp only; (repeat' split) <;> simp
@[simp] theorem State.newEntry_pwr : (s.newEntry e).pwr = s.pwr := by
  unfold State.newEntry; dsimp only; (repeat' split) <;> simp
@[simp] theorem State.newEntry_glb : (s.newEntry e).glb = s.glb := by
  unfold State.newEntry; dsimp only; (repeat' split) <;> simp
@[simp] theorem State.newEntry_clk : (s.newEntry e).clk = s.clk := by
  unfold State.newEntry; dsimp only; (repeat' split) <;> simp
@[simp] theorem State.newEntry_sync : (s.newEntry e).sync = s.sync := by
  unfold State.newEntry; dsimp only; (repeat' split) <;> simp
@[simp] theorem State.newEntry_sec : (s.newEntry e).sec = s.sec := by
  unfold State.newEntry; dsimp only; (repeat' split) <;> simp
@[simp] theorem State.newEntry_qmgr : (s.newEntry e).qmgr = s.qmgr := by
  unfold State.newEntry; dsimp only; (repeat' split) <;> simp
@[simp] theorem State.newEntry_hbms : (s.newEntry e).hbms = s.hbms := by
  unfold State.newEntry; dsimp only; (repeat' split) <;> simp
@[simp] theorem State.newEntry_hlth : (s.newEntry e).hlth = s.hlth := by
  unfold State.newEntry; dsimp only; (repeat' split) <;> simp
@[simp] theorem State.newEntry_cals : (s.newEntry e).cals = s.cals := by
  unfold State.newEntry; dsimp only; (repeat' split) <;> simp
@[simp] theorem State.newEntry_clus : (s.newEntry e).clus = s.clus := by
  unfold State.newEntry; dsimp only; (repeat' split) <;> simp
@[simp] theorem State.newEntry_rgns : (s.newEntry e).rgns = s.rgns := by
  unfold State.newEntry; dsimp only; (repeat' split) <;> simp
@[simp] theorem State.newEntry_fcus : (s.newEntry e).fcus = s.fcus := by
  unfold State.newEntry; dsimp only; (repeat' split) <;> simp
@[simp] theorem State.newEntry_madcs : (s.newEntry e).madcs = s.madcs := by
  unfold State.newEntry; dsimp only; (repeat' split) <;> simp
@[simp] theorem State.newEntry_acqs : (s.newEntry e).acqs = s.acqs := by
  unfold State.newEntry; dsimp only; (repeat' split) <;> simp
@[simp] theorem State.newEntry_hists : (s.newEntry e).hists = s.hists := by
  unfold State.newEntry; dsimp only; (repeat' split) <;> simp
@[simp] theorem State.newEntry_chans : (s.newEntry e).chans = s.chans := by
  unfold State.newEntry; dsimp only; (repeat' split) <;> simp
@[simp] theorem State.newEntry_tes : (s.newEntry e).tes = s.tes := by
  unfold State.newEntry; dsimp only; (repeat' split) <;> simp
@[simp] theorem State.newEntry_hbmHolder : (s.newEntry e).hbmHolder = s.hbmHolder := by
  unfold State.newEntry; dsimp only; (repeat' split) <;> simp
@[simp] theorem State.newEntry_bankHolder : (s.newEntry e).bankHolder = s.bankHolder := by
  unfold State.newEntry; dsimp only; (repeat' split) <;> simp
@[simp] theorem State.newEntry_nor : (s.newEntry e).nor = s.nor := by
  unfold State.newEntry; dsimp only; (repeat' split) <;> simp
@[simp] theorem State.newEntry_otp : (s.newEntry e).otp = s.otp := by
  unfold State.newEntry; dsimp only; (repeat' split) <;> simp
@[simp] theorem State.newEntry_faults : (s.newEntry e).faults = s.faults := by
  unfold State.newEntry; dsimp only; (repeat' split) <;> simp
@[simp] theorem State.newEntry_smb : (s.newEntry e).smb = s.smb := by
  unfold State.newEntry; dsimp only; (repeat' split) <;> simp
@[simp] theorem State.newEntry_jtag : (s.newEntry e).jtag = s.jtag := by
  unfold State.newEntry; dsimp only; (repeat' split) <;> simp
@[simp] theorem State.newEntry_free : (s.newEntry e).free = s.free := by
  unfold State.newEntry; dsimp only; (repeat' split) <;> simp
@[simp] theorem State.newEntry_pcache : (s.newEntry e).pcache = s.pcache := by
  unfold State.newEntry; dsimp only; (repeat' split) <;> simp
@[simp] theorem State.newEntry_micro : (s.newEntry e).micro = s.micro := by
  unfold State.newEntry; dsimp only; (repeat' split) <;> simp
@[simp] theorem State.newEntry_placedQ : (s.newEntry e).placedQ = s.placedQ := by
  unfold State.newEntry; dsimp only; (repeat' split) <;> simp
@[simp] theorem State.newEntry_pending : (s.newEntry e).pending = s.pending := by
  unfold State.newEntry; dsimp only; (repeat' split) <;> simp
@[simp] theorem State.newEntry_hbm (j : Nat) : (s.newEntry e).hbm j = s.hbm j := by simp only [State.hbm, State.newEntry_hbms]
@[simp] theorem State.newEntry_cal (j : Nat) : (s.newEntry e).cal j = s.cal j := by simp only [State.cal, State.newEntry_cals]
@[simp] theorem State.newEntry_clu (j : Nat) : (s.newEntry e).clu j = s.clu j := by simp only [State.clu, State.newEntry_clus]
@[simp] theorem State.newEntry_rgn (j : Nat) : (s.newEntry e).rgn j = s.rgn j := by simp only [State.rgn, State.newEntry_rgns]
@[simp] theorem State.newEntry_fcu (j : Nat) : (s.newEntry e).fcu j = s.fcu j := by simp only [State.fcu, State.newEntry_fcus]
@[simp] theorem State.newEntry_madc (j : Nat) : (s.newEntry e).madc j = s.madc j := by simp only [State.madc, State.newEntry_madcs]
@[simp] theorem State.newEntry_acq (j : Nat) : (s.newEntry e).acq j = s.acq j := by simp only [State.acq, State.newEntry_acqs]
@[simp] theorem State.newEntry_hist (j : Nat) : (s.newEntry e).hist j = s.hist j := by simp only [State.hist, State.newEntry_hists]
@[simp] theorem State.newEntry_chan (j : Nat) : (s.newEntry e).chan j = s.chan j := by simp only [State.chan, State.newEntry_chans]
@[simp] theorem State.newEntry_te (j : Nat) : (s.newEntry e).te j = s.te j := by simp only [State.te, State.newEntry_tes]
@[simp] theorem State.newEntry_fault (j : Nat) : (s.newEntry e).fault j = s.fault j := by simp only [State.fault, State.newEntry_faults]
@[simp] theorem State.newEntry_trigIn (j : Nat) : (s.newEntry e).trigIn j = s.trigIn j := by simp only [State.trigIn, State.newEntry_sync]
@[simp] theorem State.newEntry_trigOut (j : Nat) : (s.newEntry e).trigOut j = s.trigOut j := by simp only [State.trigOut, State.newEntry_sync]
@[simp] theorem State.newEntry_secSite (j : Nat) : (s.newEntry e).secSite j = s.secSite j := by simp only [State.secSite, State.newEntry_sec]
@[simp] theorem State.newEntry_freeVal : (s.newEntry e).freeVal = s.freeVal := by simp only [State.freeVal, State.newEntry_free]
@[simp] theorem State.newEntry_now : (s.newEntry e).now = s.now := by simp only [State.now, State.newEntry_root]
@[simp] theorem State.newEntry_up : (s.newEntry e).up = s.up := by simp only [State.up, State.newEntry_uptime]
end

/-! State.raiseAt -/
section
variable (s : State) (tt code ty inst : Nat) (site : Option Nat) (detail : Nat) (tr perm : Bool)
@[simp] theorem State.raiseAt_grade08 : (s.raiseAt tt code ty inst site detail tr perm).grade08 = s.grade08 := by
  unfold State.raiseAt; dsimp only; split <;> simp
@[simp] theorem State.raiseAt_bifur : (s.raiseAt tt code ty inst site detail tr perm).bifur = s.bifur := by
  unfold State.raiseAt; dsimp only; split <;> simp
@[simp] theorem State.raiseAt_smbAddr : (s.raiseAt tt code ty inst site detail tr perm).smbAddr = s.smbAddr := by
  unfold State.raiseAt; dsimp only; split <;> simp
@[simp] theorem State.raiseAt_root : (s.raiseAt tt code ty inst site detail tr perm).root = s.root := by
  unfold State.raiseAt; dsimp only; split <;> simp
@[simp] theorem State.raiseAt_uptime : (s.raiseAt tt code ty inst site detail tr perm).uptime = s.uptime := by
  unfold State.raiseAt; dsimp only; split <;> simp
@[simp] theorem State.raiseAt_everLocked : (s.raiseAt tt code ty inst site detail tr perm).everLocked = s.everLocked := by
  unfold State.raiseAt; dsimp only; split <;> simp
@[simp] theorem State.raiseAt_stage : (s.raiseAt tt code ty inst site detail tr perm).stage = s.stage := by
  unfold State.raiseAt; dsimp only; split <;> simp
@[simp] theorem State.raiseAt_link0 : (s.raiseAt tt code ty inst site detail tr perm).link0 = s.link0 := by
  unfold State.raiseAt; dsimp only; split <;> simp
@[simp] theorem State.raiseAt_link1 : (s.raiseAt tt code ty inst site detail tr perm).link1 = s.link1 := by
  unfold State.raiseAt; dsimp only; split <;> simp
@[simp] theorem State.raiseAt_pwr : (s.raiseAt tt code ty inst site detail tr perm).pwr = s.pwr := by
  unfold State.raiseAt; dsimp only; split <;> simp
@[simp] theorem State.raiseAt_glb : (s.raiseAt tt code ty inst site detail tr perm).glb = s.glb := by
  unfold State.raiseAt; dsimp only; split <;> simp
@[simp] theorem State.raiseAt_clk : (s.raiseAt tt code ty inst site detail tr perm).clk = s.clk := by
  unfold State.raiseAt; dsimp only; split <;> simp
@[simp] theorem State.raiseAt_sync : (s.raiseAt tt code ty inst site detail tr perm).sync = s.sync := by
  unfold State.raiseAt; dsimp only; split <;> simp
@[simp] theorem State.raiseAt_sec : (s.raiseAt tt code ty inst site detail tr perm).sec = s.sec := by
  unfold State.raiseAt; dsimp only; split <;> simp
@[simp] theorem State.raiseAt_qmgr : (s.raiseAt tt code ty inst site detail tr perm).qmgr = s.qmgr := by
  unfold State.raiseAt; dsimp only; split <;> simp
@[simp] theorem State.raiseAt_hbms : (s.raiseAt tt code ty inst site detail tr perm).hbms = s.hbms := by
  unfold State.raiseAt; dsimp only; split <;> simp
@[simp] theorem State.raiseAt_hlth : (s.raiseAt tt code ty inst site detail tr perm).hlth = s.hlth := by
  unfold State.raiseAt; dsimp only; split <;> simp
@[simp] theorem State.raiseAt_cals : (s.raiseAt tt code ty inst site detail tr perm).cals = s.cals := by
  unfold State.raiseAt; dsimp only; split <;> simp
@[simp] theorem State.raiseAt_clus : (s.raiseAt tt code ty inst site detail tr perm).clus = s.clus := by
  unfold State.raiseAt; dsimp only; split <;> simp
@[simp] theorem State.raiseAt_rgns : (s.raiseAt tt code ty inst site detail tr perm).rgns = s.rgns := by
  unfold State.raiseAt; dsimp only; split <;> simp
@[simp] theorem State.raiseAt_fcus : (s.raiseAt tt code ty inst site detail tr perm).fcus = s.fcus := by
  unfold State.raiseAt; dsimp only; split <;> simp
@[simp] theorem State.raiseAt_madcs : (s.raiseAt tt code ty inst site detail tr perm).madcs = s.madcs := by
  unfold State.raiseAt; dsimp only; split <;> simp
@[simp] theorem State.raiseAt_acqs : (s.raiseAt tt code ty inst site detail tr perm).acqs = s.acqs := by
  unfold State.raiseAt; dsimp only; split <;> simp
@[simp] theorem State.raiseAt_hists : (s.raiseAt tt code ty inst site detail tr perm).hists = s.hists := by
  unfold State.raiseAt; dsimp only; split <;> simp
@[simp] theorem State.raiseAt_chans : (s.raiseAt tt code ty inst site detail tr perm).chans = s.chans := by
  unfold State.raiseAt; dsimp only; split <;> simp
@[simp] theorem State.raiseAt_tes : (s.raiseAt tt code ty inst site detail tr perm).tes = s.tes := by
  unfold State.raiseAt; dsimp only; split <;> simp
@[simp] theorem State.raiseAt_hbmHolder : (s.raiseAt tt code ty inst site detail tr perm).hbmHolder = s.hbmHolder := by
  unfold State.raiseAt; dsimp only; split <;> simp
@[simp] theorem State.raiseAt_bankHolder : (s.raiseAt tt code ty inst site detail tr perm).bankHolder = s.bankHolder := by
  unfold State.raiseAt; dsimp only; split <;> simp
@[simp] theorem State.raiseAt_nor : (s.raiseAt tt code ty inst site detail tr perm).nor = s.nor := by
  unfold State.raiseAt; dsimp only; split <;> simp
@[simp] theorem State.raiseAt_otp : (s.raiseAt tt code ty inst site detail tr perm).otp = s.otp := by
  unfold State.raiseAt; dsimp only; split <;> simp
@[simp] theorem State.raiseAt_faults : (s.raiseAt tt code ty inst site detail tr perm).faults = s.faults := by
  unfold State.raiseAt; dsimp only; split <;> simp
@[simp] theorem State.raiseAt_smb : (s.raiseAt tt code ty inst site detail tr perm).smb = s.smb := by
  unfold State.raiseAt; dsimp only; split <;> simp
@[simp] theorem State.raiseAt_jtag : (s.raiseAt tt code ty inst site detail tr perm).jtag = s.jtag := by
  unfold State.raiseAt; dsimp only; split <;> simp
@[simp] theorem State.raiseAt_free : (s.raiseAt tt code ty inst site detail tr perm).free = s.free := by
  unfold State.raiseAt; dsimp only; split <;> simp
@[simp] theorem State.raiseAt_pcache : (s.raiseAt tt code ty inst site detail tr perm).pcache = s.pcache := by
  unfold State.raiseAt; dsimp only; split <;> simp
@[simp] theorem State.raiseAt_micro : (s.raiseAt tt code ty inst site detail tr perm).micro = s.micro := by
  unfold State.raiseAt; dsimp only; split <;> simp
@[simp] theorem State.raiseAt_placedQ : (s.raiseAt tt code ty inst site detail tr perm).placedQ = s.placedQ := by
  unfold State.raiseAt; dsimp only; split <;> simp
@[simp] theorem State.raiseAt_pending : (s.raiseAt tt code ty inst site detail tr perm).pending = s.pending := by
  unfold State.raiseAt; dsimp only; split <;> simp
@[simp] theorem State.raiseAt_hbm (j : Nat) : (s.raiseAt tt code ty inst site detail tr perm).hbm j = s.hbm j := by simp only [State.hbm, State.raiseAt_hbms]
@[simp] theorem State.raiseAt_cal (j : Nat) : (s.raiseAt tt code ty inst site detail tr perm).cal j = s.cal j := by simp only [State.cal, State.raiseAt_cals]
@[simp] theorem State.raiseAt_clu (j : Nat) : (s.raiseAt tt code ty inst site detail tr perm).clu j = s.clu j := by simp only [State.clu, State.raiseAt_clus]
@[simp] theorem State.raiseAt_rgn (j : Nat) : (s.raiseAt tt code ty inst site detail tr perm).rgn j = s.rgn j := by simp only [State.rgn, State.raiseAt_rgns]
@[simp] theorem State.raiseAt_fcu (j : Nat) : (s.raiseAt tt code ty inst site detail tr perm).fcu j = s.fcu j := by simp only [State.fcu, State.raiseAt_fcus]
@[simp] theorem State.raiseAt_madc (j : Nat) : (s.raiseAt tt code ty inst site detail tr perm).madc j = s.madc j := by simp only [State.madc, State.raiseAt_madcs]
@[simp] theorem State.raiseAt_acq (j : Nat) : (s.raiseAt tt code ty inst site detail tr perm).acq j = s.acq j := by simp only [State.acq, State.raiseAt_acqs]
@[simp] theorem State.raiseAt_hist (j : Nat) : (s.raiseAt tt code ty inst site detail tr perm).hist j = s.hist j := by simp only [State.hist, State.raiseAt_hists]
@[simp] theorem State.raiseAt_chan (j : Nat) : (s.raiseAt tt code ty inst site detail tr perm).chan j = s.chan j := by simp only [State.chan, State.raiseAt_chans]
@[simp] theorem State.raiseAt_te (j : Nat) : (s.raiseAt tt code ty inst site detail tr perm).te j = s.te j := by simp only [State.te, State.raiseAt_tes]
@[simp] theorem State.raiseAt_fault (j : Nat) : (s.raiseAt tt code ty inst site detail tr perm).fault j = s.fault j := by simp only [State.fault, State.raiseAt_faults]
@[simp] theorem State.raiseAt_trigIn (j : Nat) : (s.raiseAt tt code ty inst site detail tr perm).trigIn j = s.trigIn j := by simp only [State.trigIn, State.raiseAt_sync]
@[simp] theorem State.raiseAt_trigOut (j : Nat) : (s.raiseAt tt code ty inst site detail tr perm).trigOut j = s.trigOut j := by simp only [State.trigOut, State.raiseAt_sync]
@[simp] theorem State.raiseAt_secSite (j : Nat) : (s.raiseAt tt code ty inst site detail tr perm).secSite j = s.secSite j := by simp only [State.secSite, State.raiseAt_sec]
@[simp] theorem State.raiseAt_freeVal : (s.raiseAt tt code ty inst site detail tr perm).freeVal = s.freeVal := by simp only [State.freeVal, State.raiseAt_free]
@[simp] theorem State.raiseAt_now : (s.raiseAt tt code ty inst site detail tr perm).now = s.now := by simp only [State.now, State.raiseAt_root]
@[simp] theorem State.raiseAt_up : (s.raiseAt tt code ty inst site detail tr perm).up = s.up := by simp only [State.up, State.raiseAt_uptime]
end

/-! State.raiseFull -/
section
variable (s : State) (code ty inst : Nat) (site : Option Nat) (detail : Nat) (tr perm : Bool)
@[simp] theorem State.raiseFull_grade08 : (s.raiseFull code ty inst site detail tr perm).grade08 = s.grade08 := by
  exact State.raiseAt_grade08 ..
@[simp] theorem State.raiseFull_bifur : (s.raiseFull code ty inst site detail tr perm).bifur = s.bifur := by
  exact State.raiseAt_bifur ..
@[simp] theorem State.raiseFull_smbAddr : (s.raiseFull code ty inst site detail tr perm).smbAddr = s.smbAddr := by
  exact State.raiseAt_smbAddr ..
@[simp] theorem State.raiseFull_root : (s.raiseFull code ty inst site detail tr perm).root = s.root := by
  exact State.raiseAt_root ..
@[simp] theorem State.raiseFull_uptime : (s.raiseFull code ty inst site detail tr perm).uptime = s.uptime := by
  exact State.raiseAt_uptime ..
@[simp] theorem State.raiseFull_everLocked : (s.raiseFull code ty inst site detail tr perm).everLocked = s.everLocked := by
  exact State.raiseAt_everLocked ..
@[simp] theorem State.raiseFull_stage : (s.raiseFull code ty inst site detail tr perm).stage = s.stage := by
  exact State.raiseAt_stage ..
@[simp] theorem State.raiseFull_link0 : (s.raiseFull code ty inst site detail tr perm).link0 = s.link0 := by
  exact State.raiseAt_link0 ..
@[simp] theorem State.raiseFull_link1 : (s.raiseFull code ty inst site detail tr perm).link1 = s.link1 := by
  exact State.raiseAt_link1 ..
@[simp] theorem State.raiseFull_pwr : (s.raiseFull code ty inst site detail tr perm).pwr = s.pwr := by
  exact State.raiseAt_pwr ..
@[simp] theorem State.raiseFull_glb : (s.raiseFull code ty inst site detail tr perm).glb = s.glb := by
  exact State.raiseAt_glb ..
@[simp] theorem State.raiseFull_clk : (s.raiseFull code ty inst site detail tr perm).clk = s.clk := by
  exact State.raiseAt_clk ..
@[simp] theorem State.raiseFull_sync : (s.raiseFull code ty inst site detail tr perm).sync = s.sync := by
  exact State.raiseAt_sync ..
@[simp] theorem State.raiseFull_sec : (s.raiseFull code ty inst site detail tr perm).sec = s.sec := by
  exact State.raiseAt_sec ..
@[simp] theorem State.raiseFull_qmgr : (s.raiseFull code ty inst site detail tr perm).qmgr = s.qmgr := by
  exact State.raiseAt_qmgr ..
@[simp] theorem State.raiseFull_hbms : (s.raiseFull code ty inst site detail tr perm).hbms = s.hbms := by
  exact State.raiseAt_hbms ..
@[simp] theorem State.raiseFull_hlth : (s.raiseFull code ty inst site detail tr perm).hlth = s.hlth := by
  exact State.raiseAt_hlth ..
@[simp] theorem State.raiseFull_cals : (s.raiseFull code ty inst site detail tr perm).cals = s.cals := by
  exact State.raiseAt_cals ..
@[simp] theorem State.raiseFull_clus : (s.raiseFull code ty inst site detail tr perm).clus = s.clus := by
  exact State.raiseAt_clus ..
@[simp] theorem State.raiseFull_rgns : (s.raiseFull code ty inst site detail tr perm).rgns = s.rgns := by
  exact State.raiseAt_rgns ..
@[simp] theorem State.raiseFull_fcus : (s.raiseFull code ty inst site detail tr perm).fcus = s.fcus := by
  exact State.raiseAt_fcus ..
@[simp] theorem State.raiseFull_madcs : (s.raiseFull code ty inst site detail tr perm).madcs = s.madcs := by
  exact State.raiseAt_madcs ..
@[simp] theorem State.raiseFull_acqs : (s.raiseFull code ty inst site detail tr perm).acqs = s.acqs := by
  exact State.raiseAt_acqs ..
@[simp] theorem State.raiseFull_hists : (s.raiseFull code ty inst site detail tr perm).hists = s.hists := by
  exact State.raiseAt_hists ..
@[simp] theorem State.raiseFull_chans : (s.raiseFull code ty inst site detail tr perm).chans = s.chans := by
  exact State.raiseAt_chans ..
@[simp] theorem State.raiseFull_tes : (s.raiseFull code ty inst site detail tr perm).tes = s.tes := by
  exact State.raiseAt_tes ..
@[simp] theorem State.raiseFull_hbmHolder : (s.raiseFull code ty inst site detail tr perm).hbmHolder = s.hbmHolder := by
  exact State.raiseAt_hbmHolder ..
@[simp] theorem State.raiseFull_bankHolder : (s.raiseFull code ty inst site detail tr perm).bankHolder = s.bankHolder := by
  exact State.raiseAt_bankHolder ..
@[simp] theorem State.raiseFull_nor : (s.raiseFull code ty inst site detail tr perm).nor = s.nor := by
  exact State.raiseAt_nor ..
@[simp] theorem State.raiseFull_otp : (s.raiseFull code ty inst site detail tr perm).otp = s.otp := by
  exact State.raiseAt_otp ..
@[simp] theorem State.raiseFull_faults : (s.raiseFull code ty inst site detail tr perm).faults = s.faults := by
  exact State.raiseAt_faults ..
@[simp] theorem State.raiseFull_smb : (s.raiseFull code ty inst site detail tr perm).smb = s.smb := by
  exact State.raiseAt_smb ..
@[simp] theorem State.raiseFull_jtag : (s.raiseFull code ty inst site detail tr perm).jtag = s.jtag := by
  exact State.raiseAt_jtag ..
@[simp] theorem State.raiseFull_free : (s.raiseFull code ty inst site detail tr perm).free = s.free := by
  exact State.raiseAt_free ..
@[simp] theorem State.raiseFull_pcache : (s.raiseFull code ty inst site detail tr perm).pcache = s.pcache := by
  exact State.raiseAt_pcache ..
@[simp] theorem State.raiseFull_micro : (s.raiseFull code ty inst site detail tr perm).micro = s.micro := by
  exact State.raiseAt_micro ..
@[simp] theorem State.raiseFull_placedQ : (s.raiseFull code ty inst site detail tr perm).placedQ = s.placedQ := by
  exact State.raiseAt_placedQ ..
@[simp] theorem State.raiseFull_pending : (s.raiseFull code ty inst site detail tr perm).pending = s.pending := by
  exact State.raiseAt_pending ..
@[simp] theorem State.raiseFull_hbm (j : Nat) : (s.raiseFull code ty inst site detail tr perm).hbm j = s.hbm j := by simp only [State.hbm, State.raiseFull_hbms]
@[simp] theorem State.raiseFull_cal (j : Nat) : (s.raiseFull code ty inst site detail tr perm).cal j = s.cal j := by simp only [State.cal, State.raiseFull_cals]
@[simp] theorem State.raiseFull_clu (j : Nat) : (s.raiseFull code ty inst site detail tr perm).clu j = s.clu j := by simp only [State.clu, State.raiseFull_clus]
@[simp] theorem State.raiseFull_rgn (j : Nat) : (s.raiseFull code ty inst site detail tr perm).rgn j = s.rgn j := by simp only [State.rgn, State.raiseFull_rgns]
@[simp] theorem State.raiseFull_fcu (j : Nat) : (s.raiseFull code ty inst site detail tr perm).fcu j = s.fcu j := by simp only [State.fcu, State.raiseFull_fcus]
@[simp] theorem State.raiseFull_madc (j : Nat) : (s.raiseFull code ty inst site detail tr perm).madc j = s.madc j := by simp only [State.madc, State.raiseFull_madcs]
@[simp] theorem State.raiseFull_acq (j : Nat) : (s.raiseFull code ty inst site detail tr perm).acq j = s.acq j := by simp only [State.acq, State.raiseFull_acqs]
@[simp] theorem State.raiseFull_hist (j : Nat) : (s.raiseFull code ty inst site detail tr perm).hist j = s.hist j := by simp only [State.hist, State.raiseFull_hists]
@[simp] theorem State.raiseFull_chan (j : Nat) : (s.raiseFull code ty inst site detail tr perm).chan j = s.chan j := by simp only [State.chan, State.raiseFull_chans]
@[simp] theorem State.raiseFull_te (j : Nat) : (s.raiseFull code ty inst site detail tr perm).te j = s.te j := by simp only [State.te, State.raiseFull_tes]
@[simp] theorem State.raiseFull_fault (j : Nat) : (s.raiseFull code ty inst site detail tr perm).fault j = s.fault j := by simp only [State.fault, State.raiseFull_faults]
@[simp] theorem State.raiseFull_trigIn (j : Nat) : (s.raiseFull code ty inst site detail tr perm).trigIn j = s.trigIn j := by simp only [State.trigIn, State.raiseFull_sync]
@[simp] theorem State.raiseFull_trigOut (j : Nat) : (s.raiseFull code ty inst site detail tr perm).trigOut j = s.trigOut j := by simp only [State.trigOut, State.raiseFull_sync]
@[simp] theorem State.raiseFull_secSite (j : Nat) : (s.raiseFull code ty inst site detail tr perm).secSite j = s.secSite j := by simp only [State.secSite, State.raiseFull_sec]
@[simp] theorem State.raiseFull_freeVal : (s.raiseFull code ty inst site detail tr perm).freeVal = s.freeVal := by simp only [State.freeVal, State.raiseFull_free]
@[simp] theorem State.raiseFull_now : (s.raiseFull code ty inst site detail tr perm).now = s.now := by simp only [State.now, State.raiseFull_root]
@[simp] theorem State.raiseFull_up : (s.raiseFull code ty inst site detail tr perm).up = s.up := by simp only [State.up, State.raiseFull_uptime]
end

/-! State.raise -/
section
variable (s : State) (code ty inst : Nat) (site : Option Nat) (detail : Nat)
@[simp] theorem State.raise_grade08 : (s.raise code ty inst site detail).grade08 = s.grade08 := by
  exact State.raiseFull_grade08 ..
@[simp] theorem State.raise_bifur : (s.raise code ty inst site detail).bifur = s.bifur := by
  exact State.raiseFull_bifur ..
@[simp] theorem State.raise_smbAddr : (s.raise code ty inst site detail).smbAddr = s.smbAddr := by
  exact State.raiseFull_smbAddr ..
@[simp] theorem State.raise_root : (s.raise code ty inst site detail).root = s.root := by
  exact State.raiseFull_root ..
@[simp] theorem State.raise_uptime : (s.raise code ty inst site detail).uptime = s.uptime := by
  exact State.raiseFull_uptime ..
@[simp] theorem State.raise_everLocked : (s.raise code ty inst site detail).everLocked = s.everLocked := by
  exact State.raiseFull_everLocked ..
@[simp] theorem State.raise_stage : (s.raise code ty inst site detail).stage = s.stage := by
  exact State.raiseFull_stage ..
@[simp] theorem State.raise_link0 : (s.raise code ty inst site detail).link0 = s.link0 := by
  exact State.raiseFull_link0 ..
@[simp] theorem State.raise_link1 : (s.raise code ty inst site detail).link1 = s.link1 := by
  exact State.raiseFull_link1 ..
@[simp] theorem State.raise_pwr : (s.raise code ty inst site detail).pwr = s.pwr := by
  exact State.raiseFull_pwr ..
@[simp] theorem State.raise_glb : (s.raise code ty inst site detail).glb = s.glb := by
  exact State.raiseFull_glb ..
@[simp] theorem State.raise_clk : (s.raise code ty inst site detail).clk = s.clk := by
  exact State.raiseFull_clk ..
@[simp] theorem State.raise_sync : (s.raise code ty inst site detail).sync = s.sync := by
  exact State.raiseFull_sync ..
@[simp] theorem State.raise_sec : (s.raise code ty inst site detail).sec = s.sec := by
  exact State.raiseFull_sec ..
@[simp] theorem State.raise_qmgr : (s.raise code ty inst site detail).qmgr = s.qmgr := by
  exact State.raiseFull_qmgr ..
@[simp] theorem State.raise_hbms : (s.raise code ty inst site detail).hbms = s.hbms := by
  exact State.raiseFull_hbms ..
@[simp] theorem State.raise_hlth : (s.raise code ty inst site detail).hlth = s.hlth := by
  exact State.raiseFull_hlth ..
@[simp] theorem State.raise_cals : (s.raise code ty inst site detail).cals = s.cals := by
  exact State.raiseFull_cals ..
@[simp] theorem State.raise_clus : (s.raise code ty inst site detail).clus = s.clus := by
  exact State.raiseFull_clus ..
@[simp] theorem State.raise_rgns : (s.raise code ty inst site detail).rgns = s.rgns := by
  exact State.raiseFull_rgns ..
@[simp] theorem State.raise_fcus : (s.raise code ty inst site detail).fcus = s.fcus := by
  exact State.raiseFull_fcus ..
@[simp] theorem State.raise_madcs : (s.raise code ty inst site detail).madcs = s.madcs := by
  exact State.raiseFull_madcs ..
@[simp] theorem State.raise_acqs : (s.raise code ty inst site detail).acqs = s.acqs := by
  exact State.raiseFull_acqs ..
@[simp] theorem State.raise_hists : (s.raise code ty inst site detail).hists = s.hists := by
  exact State.raiseFull_hists ..
@[simp] theorem State.raise_chans : (s.raise code ty inst site detail).chans = s.chans := by
  exact State.raiseFull_chans ..
@[simp] theorem State.raise_tes : (s.raise code ty inst site detail).tes = s.tes := by
  exact State.raiseFull_tes ..
@[simp] theorem State.raise_hbmHolder : (s.raise code ty inst site detail).hbmHolder = s.hbmHolder := by
  exact State.raiseFull_hbmHolder ..
@[simp] theorem State.raise_bankHolder : (s.raise code ty inst site detail).bankHolder = s.bankHolder := by
  exact State.raiseFull_bankHolder ..
@[simp] theorem State.raise_nor : (s.raise code ty inst site detail).nor = s.nor := by
  exact State.raiseFull_nor ..
@[simp] theorem State.raise_otp : (s.raise code ty inst site detail).otp = s.otp := by
  exact State.raiseFull_otp ..
@[simp] theorem State.raise_faults : (s.raise code ty inst site detail).faults = s.faults := by
  exact State.raiseFull_faults ..
@[simp] theorem State.raise_smb : (s.raise code ty inst site detail).smb = s.smb := by
  exact State.raiseFull_smb ..
@[simp] theorem State.raise_jtag : (s.raise code ty inst site detail).jtag = s.jtag := by
  exact State.raiseFull_jtag ..
@[simp] theorem State.raise_free : (s.raise code ty inst site detail).free = s.free := by
  exact State.raiseFull_free ..
@[simp] theorem State.raise_pcache : (s.raise code ty inst site detail).pcache = s.pcache := by
  exact State.raiseFull_pcache ..
@[simp] theorem State.raise_micro : (s.raise code ty inst site detail).micro = s.micro := by
  exact State.raiseFull_micro ..
@[simp] theorem State.raise_placedQ : (s.raise code ty inst site detail).placedQ = s.placedQ := by
  exact State.raiseFull_placedQ ..
@[simp] theorem State.raise_pending : (s.raise code ty inst site detail).pending = s.pending := by
  exact State.raiseFull_pending ..
@[simp] theorem State.raise_hbm (j : Nat) : (s.raise code ty inst site detail).hbm j = s.hbm j := by simp only [State.hbm, State.raise_hbms]
@[simp] theorem State.raise_cal (j : Nat) : (s.raise code ty inst site detail).cal j = s.cal j := by simp only [State.cal, State.raise_cals]
@[simp] theorem State.raise_clu (j : Nat) : (s.raise code ty inst site detail).clu j = s.clu j := by simp only [State.clu, State.raise_clus]
@[simp] theorem State.raise_rgn (j : Nat) : (s.raise code ty inst site detail).rgn j = s.rgn j := by simp only [State.rgn, State.raise_rgns]
@[simp] theorem State.raise_fcu (j : Nat) : (s.raise code ty inst site detail).fcu j = s.fcu j := by simp only [State.fcu, State.raise_fcus]
@[simp] theorem State.raise_madc (j : Nat) : (s.raise code ty inst site detail).madc j = s.madc j := by simp only [State.madc, State.raise_madcs]
@[simp] theorem State.raise_acq (j : Nat) : (s.raise code ty inst site detail).acq j = s.acq j := by simp only [State.acq, State.raise_acqs]
@[simp] theorem State.raise_hist (j : Nat) : (s.raise code ty inst site detail).hist j = s.hist j := by simp only [State.hist, State.raise_hists]
@[simp] theorem State.raise_chan (j : Nat) : (s.raise code ty inst site detail).chan j = s.chan j := by simp only [State.chan, State.raise_chans]
@[simp] theorem State.raise_te (j : Nat) : (s.raise code ty inst site detail).te j = s.te j := by simp only [State.te, State.raise_tes]
@[simp] theorem State.raise_fault (j : Nat) : (s.raise code ty inst site detail).fault j = s.fault j := by simp only [State.fault, State.raise_faults]
@[simp] theorem State.raise_trigIn (j : Nat) : (s.raise code ty inst site detail).trigIn j = s.trigIn j := by simp only [State.trigIn, State.raise_sync]
@[simp] theorem State.raise_trigOut (j : Nat) : (s.raise code ty inst site detail).trigOut j = s.trigOut j := by simp only [State.trigOut, State.raise_sync]
@[simp] theorem State.raise_secSite (j : Nat) : (s.raise code ty inst site detail).secSite j = s.secSite j := by simp only [State.secSite, State.raise_sec]
@[simp] theorem State.raise_freeVal : (s.raise code ty inst site detail).freeVal = s.freeVal := by simp only [State.freeVal, State.raise_free]
@[simp] theorem State.raise_now : (s.raise code ty inst site detail).now = s.now := by simp only [State.now, State.raise_root]
@[simp] theorem State.raise_up : (s.raise code ty inst site detail).up = s.up := by simp only [State.up, State.raise_uptime]
end

/-! State.raisePage -/
section
variable (s : State) (code ty inst : Nat)
@[simp] theorem State.raisePage_grade08 : (s.raisePage code ty inst).grade08 = s.grade08 := by
  exact State.raise_grade08 ..
@[simp] theorem State.raisePage_bifur : (s.raisePage code ty inst).bifur = s.bifur := by
  exact State.raise_bifur ..
@[simp] theorem State.raisePage_smbAddr : (s.raisePage code ty inst).smbAddr = s.smbAddr := by
  exact State.raise_smbAddr ..
@[simp] theorem State.raisePage_root : (s.raisePage code ty inst).root = s.root := by
  exact State.raise_root ..
@[simp] theorem State.raisePage_uptime : (s.raisePage code ty inst).uptime = s.uptime := by
  exact State.raise_uptime ..
@[simp] theorem State.raisePage_everLocked : (s.raisePage code ty inst).everLocked = s.everLocked := by
  exact State.raise_everLocked ..
@[simp] theorem State.raisePage_stage : (s.raisePage code ty inst).stage = s.stage := by
  exact State.raise_stage ..
@[simp] theorem State.raisePage_link0 : (s.raisePage code ty inst).link0 = s.link0 := by
  exact State.raise_link0 ..
@[simp] theorem State.raisePage_link1 : (s.raisePage code ty inst).link1 = s.link1 := by
  exact State.raise_link1 ..
@[simp] theorem State.raisePage_pwr : (s.raisePage code ty inst).pwr = s.pwr := by
  exact State.raise_pwr ..
@[simp] theorem State.raisePage_glb : (s.raisePage code ty inst).glb = s.glb := by
  exact State.raise_glb ..
@[simp] theorem State.raisePage_clk : (s.raisePage code ty inst).clk = s.clk := by
  exact State.raise_clk ..
@[simp] theorem State.raisePage_sync : (s.raisePage code ty inst).sync = s.sync := by
  exact State.raise_sync ..
@[simp] theorem State.raisePage_sec : (s.raisePage code ty inst).sec = s.sec := by
  exact State.raise_sec ..
@[simp] theorem State.raisePage_qmgr : (s.raisePage code ty inst).qmgr = s.qmgr := by
  exact State.raise_qmgr ..
@[simp] theorem State.raisePage_hbms : (s.raisePage code ty inst).hbms = s.hbms := by
  exact State.raise_hbms ..
@[simp] theorem State.raisePage_hlth : (s.raisePage code ty inst).hlth = s.hlth := by
  exact State.raise_hlth ..
@[simp] theorem State.raisePage_cals : (s.raisePage code ty inst).cals = s.cals := by
  exact State.raise_cals ..
@[simp] theorem State.raisePage_clus : (s.raisePage code ty inst).clus = s.clus := by
  exact State.raise_clus ..
@[simp] theorem State.raisePage_rgns : (s.raisePage code ty inst).rgns = s.rgns := by
  exact State.raise_rgns ..
@[simp] theorem State.raisePage_fcus : (s.raisePage code ty inst).fcus = s.fcus := by
  exact State.raise_fcus ..
@[simp] theorem State.raisePage_madcs : (s.raisePage code ty inst).madcs = s.madcs := by
  exact State.raise_madcs ..
@[simp] theorem State.raisePage_acqs : (s.raisePage code ty inst).acqs = s.acqs := by
  exact State.raise_acqs ..
@[simp] theorem State.raisePage_hists : (s.raisePage code ty inst).hists = s.hists := by
  exact State.raise_hists ..
@[simp] theorem State.raisePage_chans : (s.raisePage code ty inst).chans = s.chans := by
  exact State.raise_chans ..
@[simp] theorem State.raisePage_tes : (s.raisePage code ty inst).tes = s.tes := by
  exact State.raise_tes ..
@[simp] theorem State.raisePage_hbmHolder : (s.raisePage code ty inst).hbmHolder = s.hbmHolder := by
  exact State.raise_hbmHolder ..
@[simp] theorem State.raisePage_bankHolder : (s.raisePage code ty inst).bankHolder = s.bankHolder := by
  exact State.raise_bankHolder ..
@[simp] theorem State.raisePage_nor : (s.raisePage code ty inst).nor = s.nor := by
  exact State.raise_nor ..
@[simp] theorem State.raisePage_otp : (s.raisePage code ty inst).otp = s.otp := by
  exact State.raise_otp ..
@[simp] theorem State.raisePage_faults : (s.raisePage code ty inst).faults = s.faults := by
  exact State.raise_faults ..
@[simp] theorem State.raisePage_smb : (s.raisePage code ty inst).smb = s.smb := by
  exact State.raise_smb ..
@[simp] theorem State.raisePage_jtag : (s.raisePage code ty inst).jtag = s.jtag := by
  exact State.raise_jtag ..
@[simp] theorem State.raisePage_free : (s.raisePage code ty inst).free = s.free := by
  exact State.raise_free ..
@[simp] theorem State.raisePage_pcache : (s.raisePage code ty inst).pcache = s.pcache := by
  exact State.raise_pcache ..
@[simp] theorem State.raisePage_micro : (s.raisePage code ty inst).micro = s.micro := by
  exact State.raise_micro ..
@[simp] theorem State.raisePage_placedQ : (s.raisePage code ty inst).placedQ = s.placedQ := by
  exact State.raise_placedQ ..
@[simp] theorem State.raisePage_pending : (s.raisePage code ty inst).pending = s.pending := by
  exact State.raise_pending ..
@[simp] theorem State.raisePage_hbm (j : Nat) : (s.raisePage code ty inst).hbm j = s.hbm j := by simp only [State.hbm, State.raisePage_hbms]
@[simp] theorem State.raisePage_cal (j : Nat) : (s.raisePage code ty inst).cal j = s.cal j := by simp only [State.cal, State.raisePage_cals]
@[simp] theorem State.raisePage_clu (j : Nat) : (s.raisePage code ty inst).clu j = s.clu j := by simp only [State.clu, State.raisePage_clus]
@[simp] theorem State.raisePage_rgn (j : Nat) : (s.raisePage code ty inst).rgn j = s.rgn j := by simp only [State.rgn, State.raisePage_rgns]
@[simp] theorem State.raisePage_fcu (j : Nat) : (s.raisePage code ty inst).fcu j = s.fcu j := by simp only [State.fcu, State.raisePage_fcus]
@[simp] theorem State.raisePage_madc (j : Nat) : (s.raisePage code ty inst).madc j = s.madc j := by simp only [State.madc, State.raisePage_madcs]
@[simp] theorem State.raisePage_acq (j : Nat) : (s.raisePage code ty inst).acq j = s.acq j := by simp only [State.acq, State.raisePage_acqs]
@[simp] theorem State.raisePage_hist (j : Nat) : (s.raisePage code ty inst).hist j = s.hist j := by simp only [State.hist, State.raisePage_hists]
@[simp] theorem State.raisePage_chan (j : Nat) : (s.raisePage code ty inst).chan j = s.chan j := by simp only [State.chan, State.raisePage_chans]
@[simp] theorem State.raisePage_te (j : Nat) : (s.raisePage code ty inst).te j = s.te j := by simp only [State.te, State.raisePage_tes]
@[simp] theorem State.raisePage_fault (j : Nat) : (s.raisePage code ty inst).fault j = s.fault j := by simp only [State.fault, State.raisePage_faults]
@[simp] theorem State.raisePage_trigIn (j : Nat) : (s.raisePage code ty inst).trigIn j = s.trigIn j := by simp only [State.trigIn, State.raisePage_sync]
@[simp] theorem State.raisePage_trigOut (j : Nat) : (s.raisePage code ty inst).trigOut j = s.trigOut j := by simp only [State.trigOut, State.raisePage_sync]
@[simp] theorem State.raisePage_secSite (j : Nat) : (s.raisePage code ty inst).secSite j = s.secSite j := by simp only [State.secSite, State.raisePage_sec]
@[simp] theorem State.raisePage_freeVal : (s.raisePage code ty inst).freeVal = s.freeVal := by simp only [State.freeVal, State.raisePage_free]
@[simp] theorem State.raisePage_now : (s.raisePage code ty inst).now = s.now := by simp only [State.now, State.raisePage_root]
@[simp] theorem State.raisePage_up : (s.raisePage code ty inst).up = s.up := by simp only [State.up, State.raisePage_uptime]
end

/-! State.deny -/
section
variable (s : State) (fn ty inst off : Nat) (w : Bool)
@[simp] theorem State.deny_grade08 : (s.deny fn ty inst off w).grade08 = s.grade08 := by
  unfold State.deny; simp
@[simp] theorem State.deny_bifur : (s.deny fn ty inst off w).bifur = s.bifur := by
  unfold State.deny; simp
@[simp] theorem State.deny_smbAddr : (s.deny fn ty inst off w).smbAddr = s.smbAddr := by
  unfold State.deny; simp
@[simp] theorem State.deny_root : (s.deny fn ty inst off w).root = s.root := by
  unfold State.deny; simp
@[simp] theorem State.deny_uptime : (s.deny fn ty inst off w).uptime = s.uptime := by
  unfold State.deny; simp
@[simp] theorem State.deny_everLocked : (s.deny fn ty inst off w).everLocked = s.everLocked := by
  unfold State.deny; simp
@[simp] theorem State.deny_stage : (s.deny fn ty inst off w).stage = s.stage := by
  unfold State.deny; simp
@[simp] theorem State.deny_link0 : (s.deny fn ty inst off w).link0 = s.link0 := by
  unfold State.deny; simp
@[simp] theorem State.deny_link1 : (s.deny fn ty inst off w).link1 = s.link1 := by
  unfold State.deny; simp
@[simp] theorem State.deny_pwr : (s.deny fn ty inst off w).pwr = s.pwr := by
  unfold State.deny; simp
@[simp] theorem State.deny_glb : (s.deny fn ty inst off w).glb = s.glb := by
  unfold State.deny; simp
@[simp] theorem State.deny_clk : (s.deny fn ty inst off w).clk = s.clk := by
  unfold State.deny; simp
@[simp] theorem State.deny_sync : (s.deny fn ty inst off w).sync = s.sync := by
  unfold State.deny; simp
@[simp] theorem State.deny_sec : (s.deny fn ty inst off w).sec = s.sec := by
  unfold State.deny; simp
@[simp] theorem State.deny_qmgr : (s.deny fn ty inst off w).qmgr = s.qmgr := by
  unfold State.deny; simp
@[simp] theorem State.deny_hbms : (s.deny fn ty inst off w).hbms = s.hbms := by
  unfold State.deny; simp
@[simp] theorem State.deny_hlth : (s.deny fn ty inst off w).hlth = s.hlth := by
  unfold State.deny; simp
@[simp] theorem State.deny_cals : (s.deny fn ty inst off w).cals = s.cals := by
  unfold State.deny; simp
@[simp] theorem State.deny_clus : (s.deny fn ty inst off w).clus = s.clus := by
  unfold State.deny; simp
@[simp] theorem State.deny_rgns : (s.deny fn ty inst off w).rgns = s.rgns := by
  unfold State.deny; simp
@[simp] theorem State.deny_fcus : (s.deny fn ty inst off w).fcus = s.fcus := by
  unfold State.deny; simp
@[simp] theorem State.deny_madcs : (s.deny fn ty inst off w).madcs = s.madcs := by
  unfold State.deny; simp
@[simp] theorem State.deny_acqs : (s.deny fn ty inst off w).acqs = s.acqs := by
  unfold State.deny; simp
@[simp] theorem State.deny_hists : (s.deny fn ty inst off w).hists = s.hists := by
  unfold State.deny; simp
@[simp] theorem State.deny_chans : (s.deny fn ty inst off w).chans = s.chans := by
  unfold State.deny; simp
@[simp] theorem State.deny_tes : (s.deny fn ty inst off w).tes = s.tes := by
  unfold State.deny; simp
@[simp] theorem State.deny_hbmHolder : (s.deny fn ty inst off w).hbmHolder = s.hbmHolder := by
  unfold State.deny; simp
@[simp] theorem State.deny_bankHolder : (s.deny fn ty inst off w).bankHolder = s.bankHolder := by
  unfold State.deny; simp
@[simp] theorem State.deny_nor : (s.deny fn ty inst off w).nor = s.nor := by
  unfold State.deny; simp
@[simp] theorem State.deny_otp : (s.deny fn ty inst off w).otp = s.otp := by
  unfold State.deny; simp
@[simp] theorem State.deny_faults : (s.deny fn ty inst off w).faults = s.faults := by
  unfold State.deny; simp
@[simp] theorem State.deny_smb : (s.deny fn ty inst off w).smb = s.smb := by
  unfold State.deny; simp
@[simp] theorem State.deny_jtag : (s.deny fn ty inst off w).jtag = s.jtag := by
  unfold State.deny; simp
@[simp] theorem State.deny_free : (s.deny fn ty inst off w).free = s.free := by
  unfold State.deny; simp
@[simp] theorem State.deny_pcache : (s.deny fn ty inst off w).pcache = s.pcache := by
  unfold State.deny; simp
@[simp] theorem State.deny_micro : (s.deny fn ty inst off w).micro = s.micro := by
  unfold State.deny; simp
@[simp] theorem State.deny_placedQ : (s.deny fn ty inst off w).placedQ = s.placedQ := by
  unfold State.deny; simp
@[simp] theorem State.deny_pending : (s.deny fn ty inst off w).pending = s.pending := by
  unfold State.deny; simp
@[simp] theorem State.deny_hbm (j : Nat) : (s.deny fn ty inst off w).hbm j = s.hbm j := by simp only [State.hbm, State.deny_hbms]
@[simp] theorem State.deny_cal (j : Nat) : (s.deny fn ty inst off w).cal j = s.cal j := by simp only [State.cal, State.deny_cals]
@[simp] theorem State.deny_clu (j : Nat) : (s.deny fn ty inst off w).clu j = s.clu j := by simp only [State.clu, State.deny_clus]
@[simp] theorem State.deny_rgn (j : Nat) : (s.deny fn ty inst off w).rgn j = s.rgn j := by simp only [State.rgn, State.deny_rgns]
@[simp] theorem State.deny_fcu (j : Nat) : (s.deny fn ty inst off w).fcu j = s.fcu j := by simp only [State.fcu, State.deny_fcus]
@[simp] theorem State.deny_madc (j : Nat) : (s.deny fn ty inst off w).madc j = s.madc j := by simp only [State.madc, State.deny_madcs]
@[simp] theorem State.deny_acq (j : Nat) : (s.deny fn ty inst off w).acq j = s.acq j := by simp only [State.acq, State.deny_acqs]
@[simp] theorem State.deny_hist (j : Nat) : (s.deny fn ty inst off w).hist j = s.hist j := by simp only [State.hist, State.deny_hists]
@[simp] theorem State.deny_chan (j : Nat) : (s.deny fn ty inst off w).chan j = s.chan j := by simp only [State.chan, State.deny_chans]
@[simp] theorem State.deny_te (j : Nat) : (s.deny fn ty inst off w).te j = s.te j := by simp only [State.te, State.deny_tes]
@[simp] theorem State.deny_fault (j : Nat) : (s.deny fn ty inst off w).fault j = s.fault j := by simp only [State.fault, State.deny_faults]
@[simp] theorem State.deny_trigIn (j : Nat) : (s.deny fn ty inst off w).trigIn j = s.trigIn j := by simp only [State.trigIn, State.deny_sync]
@[simp] theorem State.deny_trigOut (j : Nat) : (s.deny fn ty inst off w).trigOut j = s.trigOut j := by simp only [State.trigOut, State.deny_sync]
@[simp] theorem State.deny_secSite (j : Nat) : (s.deny fn ty inst off w).secSite j = s.secSite j := by simp only [State.secSite, State.deny_sec]
@[simp] theorem State.deny_freeVal : (s.deny fn ty inst off w).freeVal = s.freeVal := by simp only [State.freeVal, State.deny_free]
@[simp] theorem State.deny_now : (s.deny fn ty inst off w).now = s.now := by simp only [State.now, State.deny_root]
@[simp] theorem State.deny_up : (s.deny fn ty inst off w).up = s.up := by simp only [State.up, State.deny_uptime]
end

/-! State.locked -/
section
variable (s : State) (fn ty inst off : Nat)
@[simp] theorem State.locked_grade08 : (s.locked fn ty inst off).grade08 = s.grade08 := by
  exact State.raise_grade08 ..
@[simp] theorem State.locked_bifur : (s.locked fn ty inst off).bifur = s.bifur := by
  exact State.raise_bifur ..
@[simp] theorem State.locked_smbAddr : (s.locked fn ty inst off).smbAddr = s.smbAddr := by
  exact State.raise_smbAddr ..
@[simp] theorem State.locked_root : (s.locked fn ty inst off).root = s.root := by
  exact State.raise_root ..
@[simp] theorem State.locked_uptime : (s.locked fn ty inst off).uptime = s.uptime := by
  exact State.raise_uptime ..
@[simp] theorem State.locked_everLocked : (s.locked fn ty inst off).everLocked = s.everLocked := by
  exact State.raise_everLocked ..
@[simp] theorem State.locked_stage : (s.locked fn ty inst off).stage = s.stage := by
  exact State.raise_stage ..
@[simp] theorem State.locked_link0 : (s.locked fn ty inst off).link0 = s.link0 := by
  exact State.raise_link0 ..
@[simp] theorem State.locked_link1 : (s.locked fn ty inst off).link1 = s.link1 := by
  exact State.raise_link1 ..
@[simp] theorem State.locked_pwr : (s.locked fn ty inst off).pwr = s.pwr := by
  exact State.raise_pwr ..
@[simp] theorem State.locked_glb : (s.locked fn ty inst off).glb = s.glb := by
  exact State.raise_glb ..
@[simp] theorem State.locked_clk : (s.locked fn ty inst off).clk = s.clk := by
  exact State.raise_clk ..
@[simp] theorem State.locked_sync : (s.locked fn ty inst off).sync = s.sync := by
  exact State.raise_sync ..
@[simp] theorem State.locked_sec : (s.locked fn ty inst off).sec = s.sec := by
  exact State.raise_sec ..
@[simp] theorem State.locked_qmgr : (s.locked fn ty inst off).qmgr = s.qmgr := by
  exact State.raise_qmgr ..
@[simp] theorem State.locked_hbms : (s.locked fn ty inst off).hbms = s.hbms := by
  exact State.raise_hbms ..
@[simp] theorem State.locked_hlth : (s.locked fn ty inst off).hlth = s.hlth := by
  exact State.raise_hlth ..
@[simp] theorem State.locked_cals : (s.locked fn ty inst off).cals = s.cals := by
  exact State.raise_cals ..
@[simp] theorem State.locked_clus : (s.locked fn ty inst off).clus = s.clus := by
  exact State.raise_clus ..
@[simp] theorem State.locked_rgns : (s.locked fn ty inst off).rgns = s.rgns := by
  exact State.raise_rgns ..
@[simp] theorem State.locked_fcus : (s.locked fn ty inst off).fcus = s.fcus := by
  exact State.raise_fcus ..
@[simp] theorem State.locked_madcs : (s.locked fn ty inst off).madcs = s.madcs := by
  exact State.raise_madcs ..
@[simp] theorem State.locked_acqs : (s.locked fn ty inst off).acqs = s.acqs := by
  exact State.raise_acqs ..
@[simp] theorem State.locked_hists : (s.locked fn ty inst off).hists = s.hists := by
  exact State.raise_hists ..
@[simp] theorem State.locked_chans : (s.locked fn ty inst off).chans = s.chans := by
  exact State.raise_chans ..
@[simp] theorem State.locked_tes : (s.locked fn ty inst off).tes = s.tes := by
  exact State.raise_tes ..
@[simp] theorem State.locked_hbmHolder : (s.locked fn ty inst off).hbmHolder = s.hbmHolder := by
  exact State.raise_hbmHolder ..
@[simp] theorem State.locked_bankHolder : (s.locked fn ty inst off).bankHolder = s.bankHolder := by
  exact State.raise_bankHolder ..
@[simp] theorem State.locked_nor : (s.locked fn ty inst off).nor = s.nor := by
  exact State.raise_nor ..
@[simp] theorem State.locked_otp : (s.locked fn ty inst off).otp = s.otp := by
  exact State.raise_otp ..
@[simp] theorem State.locked_faults : (s.locked fn ty inst off).faults = s.faults := by
  exact State.raise_faults ..
@[simp] theorem State.locked_smb : (s.locked fn ty inst off).smb = s.smb := by
  exact State.raise_smb ..
@[simp] theorem State.locked_jtag : (s.locked fn ty inst off).jtag = s.jtag := by
  exact State.raise_jtag ..
@[simp] theorem State.locked_free : (s.locked fn ty inst off).free = s.free := by
  exact State.raise_free ..
@[simp] theorem State.locked_pcache : (s.locked fn ty inst off).pcache = s.pcache := by
  exact State.raise_pcache ..
@[simp] theorem State.locked_micro : (s.locked fn ty inst off).micro = s.micro := by
  exact State.raise_micro ..
@[simp] theorem State.locked_placedQ : (s.locked fn ty inst off).placedQ = s.placedQ := by
  exact State.raise_placedQ ..
@[simp] theorem State.locked_pending : (s.locked fn ty inst off).pending = s.pending := by
  exact State.raise_pending ..
@[simp] theorem State.locked_hbm (j : Nat) : (s.locked fn ty inst off).hbm j = s.hbm j := by simp only [State.hbm, State.locked_hbms]
@[simp] theorem State.locked_cal (j : Nat) : (s.locked fn ty inst off).cal j = s.cal j := by simp only [State.cal, State.locked_cals]
@[simp] theorem State.locked_clu (j : Nat) : (s.locked fn ty inst off).clu j = s.clu j := by simp only [State.clu, State.locked_clus]
@[simp] theorem State.locked_rgn (j : Nat) : (s.locked fn ty inst off).rgn j = s.rgn j := by simp only [State.rgn, State.locked_rgns]
@[simp] theorem State.locked_fcu (j : Nat) : (s.locked fn ty inst off).fcu j = s.fcu j := by simp only [State.fcu, State.locked_fcus]
@[simp] theorem State.locked_madc (j : Nat) : (s.locked fn ty inst off).madc j = s.madc j := by simp only [State.madc, State.locked_madcs]
@[simp] theorem State.locked_acq (j : Nat) : (s.locked fn ty inst off).acq j = s.acq j := by simp only [State.acq, State.locked_acqs]
@[simp] theorem State.locked_hist (j : Nat) : (s.locked fn ty inst off).hist j = s.hist j := by simp only [State.hist, State.locked_hists]
@[simp] theorem State.locked_chan (j : Nat) : (s.locked fn ty inst off).chan j = s.chan j := by simp only [State.chan, State.locked_chans]
@[simp] theorem State.locked_te (j : Nat) : (s.locked fn ty inst off).te j = s.te j := by simp only [State.te, State.locked_tes]
@[simp] theorem State.locked_fault (j : Nat) : (s.locked fn ty inst off).fault j = s.fault j := by simp only [State.fault, State.locked_faults]
@[simp] theorem State.locked_trigIn (j : Nat) : (s.locked fn ty inst off).trigIn j = s.trigIn j := by simp only [State.trigIn, State.locked_sync]
@[simp] theorem State.locked_trigOut (j : Nat) : (s.locked fn ty inst off).trigOut j = s.trigOut j := by simp only [State.trigOut, State.locked_sync]
@[simp] theorem State.locked_secSite (j : Nat) : (s.locked fn ty inst off).secSite j = s.secSite j := by simp only [State.secSite, State.locked_sec]
@[simp] theorem State.locked_freeVal : (s.locked fn ty inst off).freeVal = s.freeVal := by simp only [State.freeVal, State.locked_free]
@[simp] theorem State.locked_now : (s.locked fn ty inst off).now = s.now := by simp only [State.now, State.locked_root]
@[simp] theorem State.locked_up : (s.locked fn ty inst off).up = s.up := by simp only [State.up, State.locked_uptime]
end

end Sys2Proof.Machine
end

