-- ==== Sys2Proof/Laws/Ops.lean ====
section
/-! SUPPORT. What the shared operations do: one lemma per operation, for proofs to cite instead of unfolding it. -/

namespace Sys2Proof.Machine

/-! ### Records of the NOR flash -/

/-- A record as it is programmed reads back valid, whatever its payload's bytes are (14 R298). -/
theorem RecSlot.made_valid {α : Type} (magic : List Byte) (id : Nat) (enc : α → List Byte) (seq : Nat) (v : α) :
    (RecSlot.made magic id enc seq v).valid magic id enc = true := by
  simp [RecSlot.made, RecSlot.valid, RecSlot.header]
/-- Slot A holding one programmed record and slot B nothing, that record is the newest. -/
theorem RecSlots.view_made {α : Type} (magic : List Byte) (id : Nat) (enc : α → List Byte) (seq : Nat) (v : α) :
    (({ a := some (RecSlot.made magic id enc seq v) } : RecSlots α).view magic id enc).newest = some (seq, v) := by
  simp only [RecSlots.view, Option.bind_some, RecSlot.made_valid, if_true]; rfl

/-! ### The access check -/

theorem State.accepts_fn {s : State} {fn ty inst off : Nat} (h : s.accepts fn ty inst off = true) : fn < 18 := by
  simp [State.accepts] at h; exact h.1.1.1.1.1.1.1

/-- A write the checks let through acts. -/
theorem State.onWrite_of_accepts {s : State} {fn ty inst off : Nat} (h : s.accepts fn ty inst off = true)
    (op : State → State) : s.onWrite fn ty inst off op = op s := by
  simp only [State.accepts, Bool.and_eq_true, decide_eq_true_eq, Bool.not_eq_true', Bool.or_eq_true, beq_iff_eq] at h
  obtain ⟨⟨⟨⟨⟨⟨⟨-, h1⟩, h2⟩, h3⟩, h4⟩, h5⟩, h6⟩, h7⟩ := h
  unfold State.onWrite
  rw [if_neg (by simp [h1]), if_neg (by simp [h2]), if_neg (by simp [h3]), if_neg (by simp [h6]), if_neg (by simp [h4, h5]),
    if_neg]
  rintro ⟨ha, hb⟩
  rcases h7 with h7 | h7
  · simp [h7] at ha
  · exact hb h7

/-- The command form: a register write the checks let through answers the state its operation gives. -/
theorem onUnit_onWrite {s : State} {fn ty inst off : Nat} (h : s.accepts fn ty inst off = true) (op : State → State) :
    onUnit (decide (fn < 18)) (s.onWrite fn ty inst off op) = .next (op s) := by
  rw [State.onWrite_of_accepts h]
  exact onUnit_of _ _ (by simpa using State.accepts_fn h)

/-- All of `checked`'s checks pass: the operation acts. -/
theorem State.checked_pass {s : State} {fn ty inst : Nat} {l : List (Bool × Nat)} (act : State → State)
    (h : ∀ p ∈ l, p.1 = false) : s.checked fn ty inst l act = act s := by
  have hf : firstFail l = 0 := by
    induction l with
    | nil => rfl
    | cons p t ih =>
      obtain ⟨a, b⟩ := p
      have ha : a = false := h (a, b) (by simp)
      subst ha
      exact ih (fun q hq => h q (by simp [hq]))
  unfold State.checked
  simp [hf]

/-! ### An update looks only at the unit it updates -/

theorem State.modFn_congr {s : State} {i : Nat} {f g : Fn → Fn} (h : f (s.fn i) = g (s.fn i)) :
    s.modFn i f = s.modFn i g := by
  unfold State.modFn
  simp only [Tbl.upd, State.fn] at *
  rw [h]

theorem State.modSite_congr {s : State} {i : Nat} {f g : Site → Site} (h : f (s.site i) = g (s.site i)) :
    s.modSite i f = s.modSite i g := by
  unfold State.modSite
  simp only [Tbl.upd, State.site] at *
  rw [h]

theorem State.modQueue_congr {s : State} {i : Nat} {f g : QDesc → QDesc} (h : f (s.queue i) = g (s.queue i)) :
    s.modQueue i f = s.modQueue i g := by
  unfold State.modQueue
  simp only [Tbl.upd, State.queue] at *
  rw [h]

theorem State.modHbm_congr {s : State} {i : Nat} {f g : Hbm → Hbm} (h : f (s.hbm i) = g (s.hbm i)) :
    s.modHbm i f = s.modHbm i g := by
  unfold State.modHbm
  simp only [Tbl.upd, State.hbm] at *
  rw [h]

theorem State.modCal_congr {s : State} {i : Nat} {f g : Cal → Cal} (h : f (s.cal i) = g (s.cal i)) :
    s.modCal i f = s.modCal i g := by
  unfold State.modCal
  simp only [Tbl.upd, State.cal] at *
  rw [h]

theorem State.modClu_congr {s : State} {i : Nat} {f g : Clu → Clu} (h : f (s.clu i) = g (s.clu i)) :
    s.modClu i f = s.modClu i g := by
  unfold State.modClu
  simp only [Tbl.upd, State.clu] at *
  rw [h]

theorem State.modRgn_congr {s : State} {i : Nat} {f g : Rgn → Rgn} (h : f (s.rgn i) = g (s.rgn i)) :
    s.modRgn i f = s.modRgn i g := by
  unfold State.modRgn
  simp only [Tbl.upd, State.rgn] at *
  rw [h]

theorem State.modFcu_congr {s : State} {i : Nat} {f g : Fcu → Fcu} (h : f (s.fcu i) = g (s.fcu i)) :
    s.modFcu i f = s.modFcu i g := by
  unfold State.modFcu
  simp only [Tbl.upd, State.fcu] at *
  rw [h]

theorem State.modMadc_congr {s : State} {i : Nat} {f g : Madc → Madc} (h : f (s.madc i) = g (s.madc i)) :
    s.modMadc i f = s.modMadc i g := by
  unfold State.modMadc
  simp only [Tbl.upd, State.madc] at *
  rw [h]

theorem State.modAcq_congr {s : State} {i : Nat} {f g : Acq → Acq} (h : f (s.acq i) = g (s.acq i)) :
    s.modAcq i f = s.modAcq i g := by
  unfold State.modAcq
  simp only [Tbl.upd, State.acq] at *
  rw [h]

theorem State.modHist_congr {s : State} {i : Nat} {f g : Hist → Hist} (h : f (s.hist i) = g (s.hist i)) :
    s.modHist i f = s.modHist i g := by
  unfold State.modHist
  simp only [Tbl.upd, State.hist] at *
  rw [h]

theorem State.modChan_congr {s : State} {i : Nat} {f g : Chan → Chan} (h : f (s.chan i) = g (s.chan i)) :
    s.modChan i f = s.modChan i g := by
  unfold State.modChan
  simp only [Tbl.upd, State.chan] at *
  rw [h]

theorem State.modTe_congr {s : State} {i : Nat} {f g : Eng → Eng} (h : f (s.te i) = g (s.te i)) :
    s.modTe i f = s.modTe i g := by
  unfold State.modTe
  simp only [Tbl.upd, State.te] at *
  rw [h]

theorem State.modFault_congr {s : State} {i : Nat} {f g : Fault1 → Fault1} (h : f (s.fault i) = g (s.fault i)) :
    s.modFault i f = s.modFault i g := by
  unfold State.modFault
  simp only [Tbl.upd, State.fault] at *
  rw [h]

theorem State.modTrigIn_congr {s : State} {i : Nat} {f g : TrigIn → TrigIn} (h : f (s.trigIn i) = g (s.trigIn i)) :
    s.modTrigIn i f = s.modTrigIn i g := by
  unfold State.modTrigIn
  simp only [Tbl.upd, State.trigIn] at *
  rw [h]

theorem State.modTrigOut_congr {s : State} {i : Nat} {f g : TrigOut → TrigOut} (h : f (s.trigOut i) = g (s.trigOut i)) :
    s.modTrigOut i f = s.modTrigOut i g := by
  unfold State.modTrigOut
  simp only [Tbl.upd, State.trigOut] at *
  rw [h]

theorem State.modSecSite_congr {s : State} {i : Nat} {f g : SecSite → SecSite} (h : f (s.secSite i) = g (s.secSite i)) :
    s.modSecSite i f = s.modSecSite i g := by
  unfold State.modSecSite
  simp only [Tbl.upd, State.secSite] at *
  rw [h]

theorem State.modHdr_congr {s : State} {ty i : Nat} {f g : Hdr → Hdr} (h : f (s.hdr ty i) = g (s.hdr ty i)) :
    s.modHdr ty i f = s.modHdr ty i g := by
  unfold State.modHdr
  simp only [Tbl.upd, State.hdr] at *
  rw [h]

/-! ### Page headers -/

theorem pageKey_inj {a b c d : Nat} (hb : b < 256) (hd : d < 256) : pageKey a b = pageKey c d ↔ a = c ∧ b = d := by
  unfold pageKey; omega

theorem State.modHdr_same (s : State) (ty inst : Nat) (f : Hdr → Hdr) : (s.modHdr ty inst f).hdr ty inst = f (s.hdr ty inst) :=
  Tbl.get_upd_same ..

theorem State.modHdr_other (s : State) {ty inst a b : Nat} (f : Hdr → Hdr) (h : pageKey a b ≠ pageKey ty inst) :
    (s.modHdr ty inst f).hdr a b = s.hdr a b := Tbl.get_upd_ne _ _ _ _ h

/-- A cause: the page's status takes the bits, nothing else of any header changes. -/
theorem State.cause_hdr (s : State) (ty inst m : Nat) :
    (s.cause ty inst m).hdr ty inst = { s.hdr ty inst with irqStatus := (s.hdr ty inst).irqStatus ||| m } := by
  unfold State.cause
  simp [State.modHdr_same]

theorem State.cause_hdr_other (s : State) {ty inst a b : Nat} (m : Nat) (h : pageKey a b ≠ pageKey ty inst) :
    (s.cause ty inst m).hdr a b = s.hdr a b := by
  unfold State.cause
  simp [State.modHdr_other _ _ h]

/-- What a cause leaves of every header: all but the page's status. -/
theorem State.cause_keep {α : Type} (g : Hdr → α) (hg : ∀ h : Hdr, ∀ n, g { h with irqStatus := n } = g h) (s : State)
    {ty inst a b : Nat} (m : Nat) (hb : b < 256) (hi : inst < 256) :
    g ((s.cause ty inst m).hdr a b) = g (s.hdr a b) := by
  by_cases h : pageKey a b = pageKey ty inst
  · obtain ⟨rfl, rfl⟩ := (pageKey_inj hb hi).1 h
    rw [State.cause_hdr, hg]
  · rw [State.cause_hdr_other _ _ h]

/-! ### Memory -/

/-- A written byte reads back, every other byte reads as before. -/
theorem State.setByte_byte (s : State) (a : Nat) (b : Byte) (k : Nat) :
    (s.setByte a b).byte k = if k = a then b else s.byte k := by
  unfold State.setByte State.byte
  dsimp only
  split
  · next h => subst h; exact Tbl.get_set_same ..
  · next h => exact Tbl.get_set_ne _ _ _ _ h

/-- Bytes written in a row read back, every other byte reads as before. -/
theorem State.setBytes_byte (l : List Byte) : ∀ (s : State) (a k : Nat),
    (s.setBytes a l).byte k = if h : a ≤ k ∧ k < a + l.length then l[k - a]'(by omega) else s.byte k := by
  induction l with
  | nil => intro s a k; simp only [State.setBytes]; rw [dif_neg]; simp
  | cons b t ih =>
    intro s a k
    rw [State.setBytes, ih]
    by_cases h : k = a
    · subst h; rw [dif_neg (by omega), dif_pos ⟨Nat.le_refl _, by simp⟩]; simp [State.setByte_byte]
    · by_cases h2 : a + 1 ≤ k ∧ k < a + 1 + t.length
      · have h3 : a ≤ k ∧ k < a + (b :: t).length := by simp; omega
        simp only [h2, h3, and_self, dif_pos]
        rw [List.getElem_cons]
        have h4 : k - a ≠ 0 := by omega
        simp only [h4, dif_neg, not_false_eq_true]
        congr 1
      · have h3 : ¬ (a ≤ k ∧ k < a + (b :: t).length) := by simp; omega
        simp only [h2, h3, dif_neg, not_false_eq_true]
        simp [State.setByte_byte, h]

@[simp] theorem State.msix_byte (s : State) (fn v a : Nat) : (s.msix fn v).byte a = s.byte a := by
  simp only [State.byte, State.msix_mem]
@[simp] theorem State.modQueue_byte (s : State) (q : Nat) (f : QDesc → QDesc) (a : Nat) :
    (s.modQueue q f).byte a = s.byte a := rfl
@[simp] theorem State.modFn_byte (s : State) (q : Nat) (f : Fn → Fn) (a : Nat) : (s.modFn q f).byte a = s.byte a := rfl

/-! ### Queues -/

/-- A produced entry: TAIL one further, the entry's bytes in the slot it named, every other byte as before. -/
theorem State.produce_byte (s : State) (q : Nat) (b : List Byte) (k : Nat) :
    (s.produce q [b]).byte k = (s.setBytes ((s.queue q).base + slotSize (s.queue q).type * (s.queue q).tail) b).byte k := by
  unfold State.produce
  simp only [List.foldl, when]
  split <;> simp [State.setBytes_byte]
theorem State.produce_queue (s : State) (q j : Nat) (l : List (List Byte)) :
    (s.produce q l).queue j = if j = q then { s.queue j with tail := ((s.queue j).tail + l.length) % (s.queue j).slots }
      else s.queue j := by
  have hk := foldl_keep_fst (·.queues) (fun (p : State × Nat) b =>
    ((p.1.bankHits ((s.queue q).base + slotSize (s.queue q).type * p.2) b.length true).setBytes
      ((s.queue q).base + slotSize (s.queue q).type * p.2) b, (p.2 + 1) % (s.queue q).slots)) (by simp) l
    (s.qHit q true, (s.queue q).tail)
  have hq : ∀ i, ((l.foldl (fun (p : State × Nat) b =>
      ((p.1.bankHits ((s.queue q).base + slotSize (s.queue q).type * p.2) b.length true).setBytes
        ((s.queue q).base + slotSize (s.queue q).type * p.2) b, (p.2 + 1) % (s.queue q).slots))
      (s.qHit q true, (s.queue q).tail)).1).queue i = s.queue i := by
    intro i; simp only [State.queue]; exact congrArg (Tbl.get {} · i) (hk.trans (State.qHit_queues ..))
  unfold State.produce when
  dsimp only
  split <;> simp only [State.msix_queue, State.modQueue_queue, hq] <;> split <;> (try rfl)

end Sys2Proof.Machine
end

