-- ==== Sys2Proof/Machine/Lands.lean ====
section
/-! DEFINITION. The land grid: every land (x, y) of the 68 × 68 grid and its group (19_pins_and_electrical.md R404 to
R406). No command reads it; it says where each land of the package lies. -/

namespace Sys2Proof.Machine

/-- The groups of the table "Land groups", the PCIe and low-speed lands as one group each. -/
inductive Land where
  | force (ch : Nat)
  | sense (ch : Nat)
  | vin
  | pgnd
  | pcie
  | lvds
  | lowSpeed
  | reference
  | factory
  | ground
deriving DecidableEq, Repr

/-- Land of depth `d`, position `p` of a region's DUT zone. -/
def dutLand (r d p : Nat) : Nat × Nat :=
  match r with
  | 0 => (8 + p, d)
  | 1 => (69 - d, 8 + p)
  | 2 => (61 - p, 69 - d)
  | _ => (d, 61 - p)

/-- CH_nnn_F: depth 1 for an even region lane, 3 for an odd one. -/
def forceLand (ch : Nat) : Nat × Nat := dutLand (rgnOfCh ch) (if ch % 48 % 2 = 0 then 1 else 3) (3 + ch % 48)
/-- CH_nnn_S. -/
def senseLand (ch : Nat) : Nat × Nat := dutLand (rgnOfCh ch) 4 (3 + ch % 48)

/-- The lands of the table "Interior lands". -/
def interiorLand (x y : Nat) : Land :=
  if 29 ≤ x ∧ x ≤ 40 ∧ 29 ≤ y ∧ y ≤ 32 then .vin
  else if 29 ≤ x ∧ x ≤ 40 ∧ 33 ≤ y ∧ y ≤ 36 then .pgnd
  else if ((x = 13 ∨ x = 14) ∧ 27 ≤ y ∧ y ≤ 43) ∨ ((x = 16 ∨ x = 17) ∧ 27 ≤ y ∧ y ≤ 42) then .pcie
  else if (x = 51 ∨ x = 52) ∧ 27 ≤ y ∧ y ≤ 37 then .lvds
  else if y = 50 ∧ 26 ≤ x ∧ x ≤ 42 then .lowSpeed
  else if [(34, 6), (35, 6), (63, 34), (63, 35), (35, 63), (34, 63), (6, 35), (6, 34)].contains (x, y) then .reference
  else if y = 56 ∧ 27 ≤ x ∧ x ≤ 42 then .factory
  else .ground

/-- The group of a land. -/
def landAt (x y : Nat) : Land :=
  match (List.range nChan).find? (fun ch => forceLand ch == (x, y)), (List.range nChan).find? (fun ch => senseLand ch == (x, y)) with
  | some ch, _ => .force ch
  | none, some ch => .sense ch
  | none, none => interiorLand x y

end Sys2Proof.Machine
end

