-- ==== Sys2Proof/Tests/Slice0.lean ====
section
/-! SUPPORT. The model's own tests: the well-formedness smoke test, worked examples of the specification with the values it
prints, and for every statement with hypotheses a state and operands that meet them. -/

set_option maxRecDepth 100000
set_option Elab.async false

namespace Sys2Proof.Tests

open Sys2Proof.Machine

/-! ### Well-formedness: commands that name no unit, line, vector or page of the module are refused -/


theorem test_illFormed_refused_1 :
    (([.pmbusInvalid (2 ^ 41), .analogLinkWatchdog (2 ^ 41), .linkRetry (2 ^ 41), .linkDown (2 ^ 41), .modeReqSafe (2 ^ 41) true,
   .modeReqReady (2 ^ 41) true, .modeReqCal (2 ^ 41), .modeReqRun (2 ^ 41), .modeReqService (2 ^ 41),
   .modeReqIllegal (2 ^ 41) (2 ^ 41), .pcieLinkDown (2 ^ 41), .functionReset (2 ^ 41) (2 ^ 41), .functionResetDone (2 ^ 41),
   .msixVectorUnmask (2 ^ 41) (.read 0), .regWrite (2 ^ 41) (2 ^ 41) (2 ^ 41) (2 ^ 41), .rcRead (2 ^ 41) (2 ^ 41) (2 ^ 41),
   .pairLoWrite (2 ^ 41) (2 ^ 41) (2 ^ 41) (2 ^ 41) (2 ^ 41), .pairHiCommit (2 ^ 41) (2 ^ 41) (2 ^ 41) (2 ^ 41) (2 ^ 41),
   .pairLoRead (2 ^ 41) (2 ^ 41) (2 ^ 41) (2 ^ 41), .blkEnClear (2 ^ 41) (2 ^ 41) (2 ^ 41),
   .blkEnSet (2 ^ 41) (2 ^ 41) (2 ^ 41), .blkSoftReset (2 ^ 41) (2 ^ 41) (2 ^ 41), .softResetDone (2 ^ 41) (2 ^ 41),
   .blkLock (2 ^ 41) (2 ^ 41) (2 ^ 41), .blkIrqSet (2 ^ 41) (2 ^ 41) (2 ^ 41) (2 ^ 41),
   .blkIrqEnableWrite (2 ^ 41) (2 ^ 41) (2 ^ 41) (2 ^ 41), .blkOwnerWrite (2 ^ 41) (2 ^ 41) (2 ^ 41) (2 ^ 41),
   .broadcastWrite (2 ^ 41) (2 ^ 41) (2 ^ 41) (2 ^ 41) (2 ^ 41), .siteChMaskWrite (2 ^ 41) (2 ^ 41) (2 ^ 41) (2 ^ 41),
   .siteCluMaskWrite (2 ^ 41) (2 ^ 41) (2 ^ 41)] : List Instr)).all (fun i => !i.wf false) = true := by decide +kernel

theorem test_illFormed_refused_2 :
    (([.siteTeMaskWrite (2 ^ 41) (2 ^ 41) (2 ^ 41) (2 ^ 41), .siteQueueRangeWrite (2 ^ 41) (2 ^ 41) true (2 ^ 41),
   .burstArm (2 ^ 41) (2 ^ 41) true, .burstDisarm (2 ^ 41) (2 ^ 41), .burstStart (2 ^ 41) (2 ^ 41) (2 ^ 41),
   .burstStop (2 ^ 41) (2 ^ 41), .burstAbort (2 ^ 41) (2 ^ 41), .burstAck (2 ^ 41) (2 ^ 41),
   .burstCmdInvalid (2 ^ 41) (2 ^ 41) (2 ^ 41), .burstRunEntry (2 ^ 41), .burstDrainEntry (2 ^ 41), .stopDrainEntry (2 ^ 41),
   .burstIdleEntry (2 ^ 41), .spareSwitch (2 ^ 41), .trigInEdge (2 ^ 41) true (2 ^ 41), .trigOutPulse (2 ^ 41),
   .trigOutFire (2 ^ 41) (2 ^ 41), .dequePop (2 ^ 41), .stealProbe (2 ^ 41), .segmentTake (2 ^ 41), .dequeHandover (2 ^ 41),
   .requeueSlotDrain (2 ^ 41), .nop (2 ^ 41), .vec (2 ^ 41), .rpt (2 ^ 41), .hold (2 ^ 41), .tset (2 ^ 41), .lvl (2 ^ 41),
   .mark (2 ^ 41), .sync (2 ^ 41)] : List Instr)).all (fun i => !i.wf false) = true := by decide +kernel

theorem test_illFormed_refused_3 :
    (([.halt (2 ^ 41), .jmp (2 ^ 41), .jmpf (2 ^ 41), .call (2 ^ 41), .ret (2 ^ 41), .loop (2 ^ 41), .endloop (2 ^ 41),
   .matchVec (2 ^ 41), .scan (2 ^ 41), .decomp (2 ^ 41), .invalidOpcode (2 ^ 41), .microNext (2 ^ 41), .microJump (2 ^ 41),
   .microCjump (2 ^ 41), .microCall (2 ^ 41), .microRet (2 ^ 41), .microDispatch (2 ^ 41), .microUloop (2 ^ 41),
   .microResume (2 ^ 41), .cacheMissFill (2 ^ 41), .blockPost (2 ^ 41), .engineInterruptTake (2 ^ 41), .abortTake (2 ^ 41),
   .machineCheck (2 ^ 41) (2 ^ 41), .reloadDone (2 ^ 41) true, .idleScan (2 ^ 41) true, .blockArrive (2 ^ 41),
   .blockDeadline (2 ^ 41) (2 ^ 41) (2 ^ 41) true, .blockRelease (2 ^ 41), .uiStart (2 ^ 41)] : List Instr)).all (fun i => !i.wf false) = true := by decide +kernel

theorem test_illFormed_refused_4 :
    (([.edgeApply (2 ^ 41), .compareEvent (2 ^ 41), .comparatorCrossing (2 ^ 41) true true (2 ^ 41), .compareResult (2 ^ 41),
   .matchResult (2 ^ 41), .barrierComplete (2 ^ 41) (2 ^ 41), .condTimeout (2 ^ 41),
   .freerunStart (2 ^ 41) (2 ^ 41) (2 ^ 41) (2 ^ 41), .freerunStop (2 ^ 41) (2 ^ 41) (2 ^ 41) (2 ^ 41),
   .tgPeriodCommit (2 ^ 41) (2 ^ 41) (2 ^ 41), .tgSymmapCommit (2 ^ 41) (2 ^ 41) (2 ^ 41),
   .timesetWrite (2 ^ 41) (2 ^ 41) (2 ^ 41) (2 ^ 41) (2 ^ 41), .calSlewStep (2 ^ 41) true, .calStale (2 ^ 41),
   .peCtrlWrite (2 ^ 41) (2 ^ 41) (2 ^ 41), .driverRangeDone (2 ^ 41), .pePmuCtrlWrite (2 ^ 41) (2 ^ 41) (2 ^ 41),
   .pePmuRangeWrite (2 ^ 41) (2 ^ 41) (2 ^ 41), .pmuOldStageOpen (2 ^ 41), .pmuRangeDone (2 ^ 41), .pmuSenseFallback (2 ^ 41),
   .pmuCompliance (2 ^ 41) 0, .clampConduct (2 ^ 41) true true, .protClampConduct (2 ^ 41) true,
   .contactTestStart (2 ^ 41) (2 ^ 41) (2 ^ 41) (2 ^ 41), .contactTestDone (2 ^ 41) 0,
   .lvlDacWrite (2 ^ 41) (2 ^ 41) (2 ^ 41) (2 ^ 41), .lvlQueuePush (2 ^ 41) (2 ^ 41) (2 ^ 41),
   .lvlQueueFlush (2 ^ 41) (2 ^ 41), .lvlEntryArrive (2 ^ 41)] : List Instr)).all (fun i => !i.wf false) = true := by decide +kernel

theorem test_illFormed_refused_5 :
    (([.lclkTick (2 ^ 41), .fcuRecordClose (2 ^ 41) (2 ^ 41) (2 ^ 41), .fcuRecordMove (2 ^ 41) (2 ^ 41),
   .fcuPSizeWrite (2 ^ 41) (2 ^ 41) (2 ^ 41) (2 ^ 41), .fcuPCtrlWrite (2 ^ 41) (2 ^ 41) (2 ^ 41) (2 ^ 41),
   .madcStart (2 ^ 41) (2 ^ 41), .madcRunStart (2 ^ 41) (2 ^ 41) (2 ^ 41) (2 ^ 41),
   .madcRunStop (2 ^ 41) (2 ^ 41) (2 ^ 41) (2 ^ 41), .madcPeriodicTrigger (2 ^ 41), .madcConversionDone (2 ^ 41) 0,
   .madcConversionTimeout (2 ^ 41), .madcRecordMove (2 ^ 41), .acqArm (2 ^ 41) (2 ^ 41), .acqDisarm (2 ^ 41) (2 ^ 41),
   .acqForce (2 ^ 41) (2 ^ 41), .acqLive (2 ^ 41), .acqRunStart (2 ^ 41) (2 ^ 41), .acqRunStop (2 ^ 41) (2 ^ 41),
   .acqRecordArrive (2 ^ 41), .acqTriggerDeclare (2 ^ 41), .acqRingMove (2 ^ 41), .acqCaptureDone (2 ^ 41),
   .acqStreamStopped (2 ^ 41), .acqBurstFlush (2 ^ 41), .calTempEval (2 ^ 41), .calStart (2 ^ 41) (2 ^ 41),
   .calAbort (2 ^ 41) (2 ^ 41), .calCommonStepDone (2 ^ 41) 0 0 [], .calClusterStepStart (2 ^ 41),
   .calClusterStepDone (2 ^ 41) [] []] : List Instr)).all (fun i => !i.wf false) = true := by decide +kernel

theorem test_illFormed_refused_6 :
    (([.calHoldoffExpiry (2 ^ 41), .calEnvCheckDone (2 ^ 41) [], .calReflectDone (2 ^ 41) 0 0 true,
   .analogReadback (2 ^ 41) true true, .thermalSensorSample (2 ^ 41) [], .regionThermalShutdown (2 ^ 41),
   .reenable (2 ^ 41) (2 ^ 41), .bankAccess [{ master := 17 }], .bankAccess [{ master := 3, off := 16, len := 17 }],
   .hbmUncorrRead (2 ^ 41) (2 ^ 41) (2 ^ 41) (2 ^ 41), .doorbellTail (2 ^ 41) (2 ^ 41) (2 ^ 41),
   .doorbellHead (2 ^ 41) (2 ^ 41) (2 ^ 41), .doorbellRelease (2 ^ 41) (2 ^ 41), .pushSelWrite (2 ^ 41) (.read 0),
   .pushWrite (2 ^ 41) (2 ^ 41) [], .descRead (2 ^ 41), .descWrite (2 ^ 41), .cmdNop (2 ^ 41), .copyIn (2 ^ 41) [],
   .copyOut (2 ^ 41) (some 17), .queueOut (2 ^ 41) (some 17), .barrierSet (2 ^ 41), .fcuScrambleLoad (2 ^ 41),
   .calRead (2 ^ 41) (some 17), .mcInstall (2 ^ 41) [], .memGrant (2 ^ 41), .cmdUnknown (2 ^ 41), .heldCompletionPost (2 ^ 41),
   .logLostEntry (2 ^ 41), .spdmGetVersion (2 ^ 41)] : List Instr)).all (fun i => !i.wf false) = true := by decide +kernel

theorem test_illFormed_refused_7 :
    (([.spdmGetCapabilities (2 ^ 41) [], .spdmNegotiateAlgorithms (2 ^ 41) [], .spdmGetDigests (2 ^ 41),
   .spdmGetCertificate (2 ^ 41) (2 ^ 41) (2 ^ 41) (2 ^ 41), .spdmChallenge (2 ^ 41) [], .spdmGetMeasurements (2 ^ 41) [],
   .spdmKeyExchange (2 ^ 41) [], .spdmFinish (2 ^ 41) true, .spdmHeartbeat (2 ^ 41), .spdmKeyUpdate (2 ^ 41),
   .spdmEndSession (2 ^ 41), .spdmUnsupported (2 ^ 41), .ideKm (.query 19), .ideKm (.keyProg 19 [1]), .ideKm (.setGo 19),
   .ideKm (.setStop 19), .ideIntegrityFail (2 ^ 41), .load (2 ^ 41) [] [] [] [], .bind (2 ^ 41) [], .unload (2 ^ 41) [],
   .doeStatus (2 ^ 41) [], .fwInstall (2 ^ 41) [] {}, .fwRecover (2 ^ 41) [] {}, .floorCommit (2 ^ 41) [],
   .doeUnknown (2 ^ 41) [], .resultFrameClose (2 ^ 41) (2 ^ 41) (2 ^ 41), .glbHostTimeCommit (2 ^ 41) (2 ^ 41),
   .secSealedSitesWrite (2 ^ 41) (2 ^ 41), .lifecycleTransition (2 ^ 41) (2 ^ 41) (2 ^ 41) (2 ^ 41), .tamper (2 ^ 41)] : List Instr)).all (fun i => !i.wf false) = true := by decide +kernel

theorem test_illFormed_refused_8 :
    (([.retireClear (2 ^ 41) (2 ^ 41) (2 ^ 41), .histSample (2 ^ 41), .histRunStart (2 ^ 41) (2 ^ 41),
   .histRunStop (2 ^ 41) (2 ^ 41), .histClear (2 ^ 41) (2 ^ 41), .cmdClear (2 ^ 41), .qdClear (2 ^ 41), .pcieLinkUp (2 ^ 41),
   .vfEnableSet (2 ^ 41) (2 ^ 41), .tamperConditionEnd (2 ^ 41), .hizSequenceDone (2 ^ 41), .abortPoint (2 ^ 41),
   .triggerEventArrive (2 ^ 41), .rekeyDone (some 17), .hbmBwWindow (2 ^ 41) [] [] (2 ^ 41) true, .functionReset 0 3,
   .functionReset 17 0, .pcieLinkDown 1, .burstCmdInvalid 0 0 3, .siteChMaskWrite 0 0 6 0, .siteTeMaskWrite 0 0 3 0,
   .timesetWrite 0 0 64 0 0, .timesetWrite 0 0 0 9 0, .lvlDacWrite 0 0 10 0, .trigOutFire 0 4, .barrierComplete 0 256,
   .machineCheck 0 3, .pushWrite 0 61 [0, 0, 0, 0], .hbmUncorrRead 0 0 96 0, .retireClear 0 0 0] : List Instr)).all (fun i => !i.wf false) = true := by decide +kernel

theorem test_illFormed_refused_9 :
    (([.retireClear 0 8 0, .resultFrameClose 0 0 4, .resultFrameClose 0 3 0, .vfEnableSet 17 1, .msixVectorUnmask 1 (.unmask 64),
   .doorbellRelease 0 (2 ^ 64 + 2 ^ 21), .pairLoWrite 0 0x11 0 0x048 0, .softResetDone 0x11 192, .doorbellTail 0 (2 ^ 20) 0] : List Instr)).all (fun i => !i.wf false) = true := by decide +kernel


/-- With the second endpoint its function and link exist. -/
theorem test_second_endpoint_wf : Instr.wf true (.functionReset 17 0) = true ∧ Instr.wf true (.pcieLinkDown 1) = true := by decide +kernel
/-- The table spells no command by bits. -/
theorem test_no_table_words : decodeTableWord 32 0x00000013 = none := by decide +kernel

/-! ### States the tests start from -/

/-- The module in READY with the link of endpoint 0 up, TT and uptime at `n` root ticks, every site idle. -/
def base (n : Nat) : State := { State.reset with
  stage := .on, link0 := true, everLocked := true, qmgr := { ready := true }, root := n, uptime := n
  clk := { refclkOk := true, locked := true }
  glb := { mode := .ready, busy := false, target := .ready, seq := false, pwrOk := true, pllLock := true, fwOk := true, bmemClear := true
           hbmClear := true, mcLoaded := true, retireLoaded := true, calLoaded := true, cause := 0 } }
/-- The same with channel 0, site 0, queue 5, engine 0 changed. -/
def chan0 (f : Chan → Chan) : State := (base 1000000).modChan 0 f
def queue5 (d : QDesc) : State := (base 1000).modQueue 5 (fun _ => d)
/-- Endpoint 0's function 1, and site 0 with channel 0, clusters and queue 5. -/
def siteBase (n : Nat) (f : Site → Site) : State :=
  let s := (base n).modSite 0 (fun x => { f x with vfOn := true, qBase := 5, qCount := 4 })
  let s := (List.range 4).foldl (fun t ty => t.modHdr (Ty.tg + ty) 0 (fun h => { h with owner := 0 })) s
  { s with glb := { s.glb with mode := .run, target := .run } }
/-- Owner of the channel pages 0 is site 0, which runs a burst. -/
def runBase (n : Nat) (f : Site → Site) (g : Chan → Chan) : State :=
  (siteBase n (fun x => f { x with st := .running, startT := 0 })).modChan 0 g
def blk0 : Block := { site := 0, segId := 7, seq := 0, tt := 300000, syms := List.replicate 64 4, tss := List.replicate 64 0, group := 1, engine := 0 }
def madc0 (n : Nat) (m : Madc) : State := { base n with madcs := [(0, m)] }
def acq0 (n : Nat) (a : Acq) : State := { base n with acqs := [(0, a)], queues := [(5, { type := 2, enable := true, log2 := 4, base := 4096 })] }
def syncS (n : Nat) (f : Sync → Sync) : State := (base n).modSync f
def lockS (n : Nat) (f : Site → Site) : State := (siteBase n f).modSync (fun x => { x with lock := true, echoEn := false })
def mod40 (n : Nat) : Nat := n % 2 ^ 40
def segG (fl len mask dt succ : Nat) : Seg := { raw := le 4 7 ++ le 4 fl ++ le 8 0 ++ le 8 0 ++ le 4 len ++ le 4 succ ++ le 24 mask ++ le 4 dt, queue := 6, site := 0, eff := 200000 }
def opI (op operand : Nat) : Nat := op * 2 ^ 248 + operand
/-- Engine 0 of running site 0 stands before words `ws` of segment g. -/
def engS (g : Seg) (ws : List Nat) (f : Eng → Eng) : State :=
  { siteBase 900 (fun x => {x with st := .running}) with
    tes := [(0, f { cur := some g })], pcache := [{ site := 0, line := 0, data := ws.map .plain }] }
def sg : Seg := segG 0 20 1 0 0
def sg2 : Seg := segG 512 20 3 0x5A000004 0
/-- Engine 0 at micro-address 0 with word w. -/
def uS (w : Nat) (f : Eng → Eng) : State :=
  { engS sg [opI 0 0] f with stores := [(0, { words := [withParity w], entries := [entryParity 0x1007] })] }
def seqW (k : Nat) : Nat := k * 2 ^ 124 + 0x123 * 2 ^ 104
/-- Site 0 running with engines of `m` in its mask; queue 6 a released segment queue of it holding `n` descriptors. -/
def placeS (m n : Nat) (f : State → State) : State :=
  f ((siteBase 900 (fun x => { x with st := .running, teMask := m })).modQueue 6 (fun _ =>
    { base := 4096, log2 := 4, head := 3, tail := 3 + n, type := 1, enable := true, released := true, owner := 0 }))
def offTe (l : List Nat) (s : State) : State := l.foldl (fun t e => t.modHdr Ty.te e (fun h => { h with en := false })) s
def segOk (fl ip len mask dt : Nat) : Seg :=
  let raw := le 4 7 ++ le 4 fl ++ le 8 200000 ++ le 8 ip ++ le 4 len ++ le 4 0 ++ le 24 mask ++ le 4 dt
  { raw := raw ++ le 4 (crc32 raw), queue := 6, site := 0, eff := 200000 }
def takeS (g : Seg) (f : Eng → Eng) : State :=
  { placeS 7 1 (fun s => { s with hbmHolder := [(0, 0)] }) with tes := [(0, f { cur := some g, taking := true, beginAt := 5000, gr := [(0, 5)] })] }
def resS (v : CmpRes) (f : State → State) : State :=
  f (runBase 900 (fun x => x) (fun c => { c with results := [v, { due := 900000 }] }))
def bm (n : Nat) (f : Bmem → Bmem) : State := (base n).modBmem f
def sl2 : Slots McImage := { a := some (3, McImage.blank), b := some (4, McImage.blank) }
/-- Power-up before the microcode is loaded. -/
def mcS (f : Nor → Nor) : State :=
  let s := base 900
  { s with nor := f s.nor, glb := { s.glb with mcLoaded := false, mode := .safe, busy := true, seq := true, retireLoaded := false, calLoaded := false, cause := 1 } }
/-- Bytes placed above everything listed so far. -/
def putB (s : State) (a : Nat) (l : List Byte) : State :=
  { s with mem := s.mem ++ ((List.range l.length).zip l).filterMap (fun p => if p.2 = 0 then none else some (a + p.1, p.2)) }
def cmdRaw (code : Nat) (args : List Nat) : List Byte :=
  le 2 code ++ le 2 0 ++ le 4 77 ++ le 4 7 ++ le 4 0 ++ (((List.range 6).map (fun k => le 8 (args.getD k 0))).flatten)
/-- A command at the head of command queue 6, completion queue 7, of the owner function or of site 0. -/
def cmdS (own : Bool) (raw : List Byte) (f : State → State) : State :=
  let s := siteBase 900 id
  let s := { s with queues := [(6, { base := 4096, log2 := 4, head := 3, tail := 4, owner := 0, type := 5, enable := true, ownerFn := own }),
                               (7, { base := 8192, log2 := 4, head := 1, tail := 2, owner := 0, type := 3, enable := true, ownerFn := own })] }
  f (putB s (4096 + 64 * 3) raw)
def cmdC (own : Bool) (raw : List Byte) : Cmd := { fn := if own then 0 else 1, raw := raw, seen := 900 }
def scrT : List Byte := [2, 12] ++ List.replicate 6 0 ++ le 8 (1 * 2 ^ 28) ++ le 8 3 ++ [0, 1] ++ List.replicate 30 0xFF ++ [0, 1] ++ List.replicate 30 0 ++ List.replicate 168 0
def scrS : State := cmdS false (cmdRaw 0x21 [0, 0x5A00000]) (fun s =>
  let s := { s with hbmHolder := [(1, 0)], bankHolder := (List.range 112).map (fun u => (u, 0)) }
  let s := (List.range 4).foldl (fun t ty => t.modHdr (Ty.tg + ty) 1 (fun h => { h with owner := 0 })) s
  putB s (bankBase + 0x5A00000) scrT)
def svc (s : State) : State := { s with glb := { s.glb with mode := .service, target := .service } }
def imgB : List Byte := [0x4B, 0x56, 0x4D, 0x43] ++ le 2 1 ++ le 2 0 ++ le 4 3 ++ le 4 McImage.blank.words.length ++ le 4 0 ++ List.replicate 44 0
  ++ (McImage.blank.dispatch.map (le 2)).flatten ++ (McImage.blank.words.map (le 16)).flatten ++ List.replicate 96 0
def doeRaw (op site : Nat) (body : List Byte) : List Byte := le 2 op ++ le 2 0 ++ le 4 88 ++ le 1 site ++ List.replicate 7 0 ++ body
def fwV (ok : Bool) : FwVerdict := { root := State.reset.otp.root, sig := ok }
def fwB (n : Nat) : List Byte := [0x4B, 0x56, 0x46, 0x57] ++ le 2 1 ++ le 2 0 ++ le 4 5 ++ le 4 1 ++ le 4 0 ++ List.replicate (0x4EC + 97 - n) 0
def fwS (n : Nat) : State := svc { putB (base 900) (bankBase + 0x5A00000) (fwB n) with bankHolder := (List.range 112).map (fun u => (u, 16)) }
def recS (l : List Byte) : State := { base 900 with
  glb := { (base 900).glb with mode := .safe, fwOk := false, cause := 2 }, sec := { (base 900).sec with recover := l } }
/-- A segment image of one pin, one segment and `k` setup records, the first of a register at `off`. -/
def imgS (k off : Nat) : List Byte :=
  [0x5A, 0x53, 0x47, 0x49] ++ le 4 1 ++ le 4 1 ++ le 4 1 ++ le 4 0x40 ++ le 4 0x100 ++ le 4 20 ++ le 4 0x80 ++ le 4 k ++ List.replicate 28 0
    ++ (segG 0 20 1 0 0).raw ++ le 4 0 ++ (le 2 0x11 ++ le 2 (off / 65536) ++ le 4 (off % 65536) ++ le 4 5 ++ le 4 0)
/-- Site 0 sealed with a loaded container, queue 6 ready to bind. -/
def bindS (img : List Byte) (f : SecSite → SecSite) : State :=
  let s := siteBase 900 id
  let s := { s with queues := [(6, { base := 4096, log2 := 4, owner := 0, type := 1, enable := true })], hbmHolder := [(0, 0)] }
  let s := (s.modSec (fun x => { x with sealedSites := 1 })).modSecSite 0 (fun x => f { x with loaded := true, loadId := 1, allow := 3, dest := 65536, len := img.length })
  putB s 65536 img
def bindRaw : List Byte := doeRaw 2 0 (le 8 100000 ++ le 4 6 ++ [0] ++ List.replicate 191 0xFF)
/-- A segment image of one pin, one descriptor and one word; `bad` spoils its header. -/
def imgL (bad : Bool) : List Byte :=
  let h : List Byte := [0x5A, 0x53, 0x47, if bad then 0 else 0x49] ++ le 4 1 ++ le 4 1 ++ le 4 1 ++ le 4 0x40 ++ le 4 0x80 ++ le 4 1 ++ le 4 0xA0 ++ List.replicate 28 0
  let g : List Byte := le 4 7 ++ le 4 0 ++ le 8 0 ++ le 8 0 ++ le 4 1 ++ le 4 0 ++ le 24 1 ++ le 4 0
  h ++ le 4 (crc32 h) ++ g ++ le 4 (crc32 g) ++ List.replicate 32 0
/-- The container of an image for the device of State.reset, whose identity scalar is 1, so that the ephemeral key is the shared point. -/
def boxL (bad : Bool) : List Byte :=
  let h0 : List Byte := [0x51, 0x46, 0x59, 0x53] ++ le 2 1 ++ le 2 0 ++ State.reset.otp.device ++ be 48 p384Gx ++ be 48 p384Gy ++ le 2 1 ++ le 1 1 ++ le 1 0
    ++ le 4 3 ++ le 8 0 ++ le 4 0 ++ le 4 1 ++ le 8 160 ++ List.replicate 16 9 ++ be 48 p384Gx ++ be 48 p384Gy ++ List.replicate 40 0
  let h := h0 ++ gcmSeal (contentKey h0 1) (List.replicate 12 0xFF) h0 []
  h ++ gcmSeal (contentKey h0 1) (chunkNonce 0) (chunkAad h 1 0) (imgL bad)
/-- Site 0 sealed, a container in its memory at 0. -/
def loadS (box : List Byte) : State :=
  let s := siteBase 900 id
  let s := { s with hbmHolder := [(0, 0)] }
  let s := s.modSec (fun x => { x with sealedSites := 1, fwVersion := 5 })
  { s with ctext := (List.range 528).map (fun i => (i, some (box.getD i 0))) }
def loadR : List Byte := doeRaw 1 0 (le 8 0 ++ le 8 528 ++ le 8 131072)
/-- A token signed by the enrolled platform key, whose scalar is 2. -/
def tokB (to_ : Nat) : List Byte :=
  let m : List Byte := [0x4B, 0x56, 0x4C, 0x54] ++ le 2 1 ++ le 1 to_ ++ le 1 2 ++ le 4 1 ++ le 4 1 ++ State.reset.otp.device ++ p384Pub 2
  m ++ ecdsaSign 2 3 m
def lcS (tok : List Byte) (f : Sec → Sec) : State :=
  svc ((putB { base 900 with bankHolder := (List.range 112).map (fun u => (u, 16)) } (bankBase + 0x5A00000) tok).modSec f)
def frmS (n : Nat) (f : QDesc → QDesc) : State :=
  let s := siteBase n id
  let s := { s with queues := [(5, f { base := 4096, log2 := 4, owner := 0, type := 2, enable := true })] }
  ((s.modSec (fun x => { x with sealedSites := 1 })).modSecSite 0 (fun x => { x with loaded := true, loadId := 1, frames := [(frmKey 1 0, { pt := [1, 2, 3], n := 1, seq := 4 })] })).modAcq 0 (fun a => { a with queue := 5 })
def spS (f : Sec → Sec) : State := (siteBase 900 id).modSec (fun x => f { x with identityOk := true })
def safeS : State := { base 900 with glb := { (base 900).glb with mode := .safe, target := .safe }, jtag := { preload := 0x5A5 } }

/-! ### Worked examples of the specification -/

/-- The CRC-32 check value (06_pattern_model.md, line 38). -/
theorem test_crc32_check_value :
    crc32 [0x31, 0x32, 0x33, 0x34, 0x35, 0x36, 0x37, 0x38, 0x39] = 0xCBF43926 := by decide +kernel
/-- Pages of CH_125 (00_scope.md, line 182) and of the aperture of group 3 (05_register_pages.md, line 217). -/
theorem test_page_addresses : pageOff Ty.tg 125 0x040 = 0x0117D040 ∧ pageOff Ty.tg 0xE3 0x044 = 0x011E3044 := by decide +kernel
/-- The lands of CH_125 and its neighbours (19_pins_and_electrical.md, line 42). -/
theorem test_lands_of_ch125 : landAt 29 66 = .force 125 ∧ landAt 29 65 = .sense 125 ∧ landAt 28 66 = .ground ∧ landAt 30 66 = .ground := by
  decide +kernel
/-- The ERR entry of the third machine check of TE_50 (18_faults_and_health.md, line 54). -/
theorem test_err_entry_bytes :
    (ErrEntry.bytes { code := 0x7001, site := 3, ty := Ty.te, inst := 50, transient := true, permanent := true, seq := 41
                      firstTT := 45056000000000 }).take 16
      = [0x01, 0x70, 0x03, 0x10, 0x32, 0x06, 0x29, 0x00, 0x00, 0x00, 0xE0, 0x6A, 0xFA, 0x28, 0x00, 0x00] := by decide +kernel
/-- The header of the SPARSE record of block 1 (11_compare_and_fail_capture.md, line 204). -/
theorem test_sparse_record_header :
    recHeader 40976384 0x2C00 1 3 2 1 0 1 1 0x20000000 7
      = [0x00, 0x40, 0x71, 0x02, 0, 0, 0, 0, 0x00, 0x2C, 0, 0, 1, 0, 0, 0, 0x23, 0x01, 0, 0, 1, 0, 1, 0, 0, 0, 0, 0x20, 0, 0, 7, 0] := by
  decide +kernel

/-- Site 3 owns CH_120 to CH_127 in fast range, CH_127 in full range; site 4 owns CH_128 to CH_131; group 3 of site 3 selects
CH_120 to CH_131. -/
def groupState : State :=
  let s := (base 1000).modSite 3 (fun x => { x with vfOn := true, groups := [(51, 0xFF000000), (52, 0xF)] })
  let s := (List.range 12).foldl (fun t i => (List.range 4).foldl (fun t k =>
    t.modHdr (Ty.tg + k) (120 + i) (fun h => { h with owner := if i < 8 then 3 else 4 })) t) s
  (List.range 7).foldl (fun t i => t.modChan (120 + i) (fun c => { c with full := false })) s
/-- The period pair through the aperture of group 3 (05_register_pages.md, line 217): seven channels commit 512, CH_127 keeps its
period with PARAM_RANGE, eight targets are skipped. -/
theorem test_group_period_write :
    let t := (groupState.winWrite 4 0x011E3044 15 0x200).winWrite 4 0x011E3048 15 0
    (t.chan 120).perInt = 512 ∧ (t.chan 126).perInt = 512 ∧ (t.chan 127).perInt = 4096 ∧ (t.chan 128).perInt = 4096
      ∧ (t.fn 4).bcastSkip = 8 ∧ (t.hdr Ty.tg 127).errCount = 1 ∧ (t.hdr Ty.tg 127).lastCode = Code.paramRange := by decide +kernel

/-- CH_120 forces +150 µA in FIMV on RANGE 2. -/
def pmuState : State :=
  ({ base 1000 with glb := { (base 1000).glb with mode := .run, target := .run } }).modChan 120 (fun c => { c with
    pmuConn := true, pmuMode := 2, pmuRange := 2, codes := [(9, 28384)] })
/-- RANGE = 3 is accepted with the code 17,584 (10_pin_electronics.md, line 205). -/
theorem test_pmu_range_code : ((pmuState.wPmuRange 0 120 3).chan 120).code 9 = 17584 := by decide +kernel
/-- RANGE = 1 after that lies outside the window: PARAM_RANGE. -/
theorem test_pmu_range_rejected :
    let s := pmuState.modChan 120 (fun c => { c with pmuRange := 3, codes := [(9, 17584)] })
    ((s.wPmuRange 0 120 1).hdr Ty.pe 120).lastCode = Code.paramRange ∧ ((s.wPmuRange 0 120 1).chan 120).code 9 = 17584 := by decide +kernel

/-- SHA-384 of "abc" (FIPS 180-4). -/
theorem test_sha384_abc : sha384 [0x61, 0x62, 0x63]
    = be 48 0xCB00753F45A35E8BB5A03D699AC65007272C32AB0EDED1631A8B605A43FF5BED8086072BA1E7CC2358BAECA134C825A7 := by decide +kernel
/-- AES-256-GCM of one block of zeros under a key and a nonce of zeros (test case 14 of the GCM specification). -/
theorem test_gcm_zero_block : gcmSeal (List.replicate 32 0) (List.replicate 12 0) [] (List.replicate 16 0)
    = be 16 0xCEA7403D4D606B6E074EC5D3BAF39D18 ++ be 16 0xD0D1C8A799996BF0265B98B5D48AB919 := by decide +kernel

/-! ### Witnesses: states and operands that meet the hypotheses of the statements -/

/-- Inputs that meet the hypotheses of Obligations.EmptyQueuePassesOneRootEdge, clause by clause. -/
theorem witness_EmptyQueuePassesOneRootEdge :
    ∃ s : State, s.pending = [] :=
  ⟨base 5, by decide +kernel⟩

/-- Inputs that meet the hypotheses of Obligations.RefusedExactlyWhenNoSuchUnit, clause by clause. -/
theorem witness_RefusedExactlyWhenNoSuchUnit :
    (∃ i : Instr, ∃ s : State, i.wf s.bifur = false) ∧
    (∃ i : Instr, ∃ s : State, i.wf s.bifur = true) :=
  ⟨⟨.trigInEdge 99 true 0, base 5, by decide +kernel⟩,
    ⟨.idcode, base 5, by decide +kernel⟩⟩

/-- Inputs that meet the hypotheses of Obligations.EveryStepKeepsTheInvariant. -/
theorem witness_EveryStepKeepsTheInvariant : ∃ s t : State, Inv s ∧ step s = .next t := by
  refine ⟨{ base 900 with pending := [.pmbusRevision] }, _, ⟨by decide +kernel, ?_, ?_, ?_, ?_⟩, rfl⟩
  · intro ty inst
    show (hdrReset ty inst).ok
    unfold hdrReset Hdr.ok
    split <;> rename_i h
    · exact ⟨by have := h.2; simp only [nSite] at this ⊢; omega, (by decide : 0 < 256), (by decide : 0 ≤ 0xFFFF)⟩
    · decide
  · intro i
    show Site.ok {}
    unfold Site.ok
    decide
  · unfold ErrLog.ok
    decide +kernel
  · intro e
    show Eng.ok {}
    unfold Eng.ok
    decide

/-- Inputs that meet the hypotheses of Obligations.CauseSetsStatusAndSendsMessages, clause by clause. -/
theorem witness_CauseSetsStatusAndSendsMessages :
    (∃ _s : State, ∃ _ty inst _m : Nat, inst < 256) ∧
    (∃ _s : State, ∃ ty inst _m a b : Nat, inst < 256 ∧ b < 256 ∧ (a, b) ≠ (ty, inst)) ∧
    (∃ _s : State, ∃ _ty inst _m : Nat, inst < 256) ∧
    (∃ s : State, ∃ ty inst m k : Nat, inst < 256 ∧ k < 32 ∧ ty ≠ Ty.pwr ∧ m = 2 ^ k ∧ bit (s.hdr ty inst).irqStatus k = false ∧ bit (s.hdr ty inst).irqEnable k = true ∧ (s.fn (fnOfOwner (s.hdr ty inst).owner)).msixOn = true ∧ Tbl.get false (s.fn (fnOfOwner (s.hdr ty inst).owner)).msixOpen (s.hdr ty inst).vector = true) :=
  ⟨⟨base 5, Ty.tg, 3, 5, by decide +kernel⟩,
    ⟨base 5, Ty.tg, 3, 5, Ty.tg, 4, by decide +kernel⟩,
    ⟨base 5, Ty.tg, 3, 5, by decide +kernel⟩,
    ⟨(base 5).modFn 0 (fun f => {f with msixOn := true, msixOpen := [(0,true)]}) |>.modHdr Ty.tg 3 (fun h => {h with irqEnable := 3}), Ty.tg, 3, 1, 0, by decide +kernel⟩⟩

/-- Inputs that meet the hypotheses of Obligations.ErrorIsCountedAndNamedOnItsPage, clause by clause. -/
theorem witness_ErrorIsCountedAndNamedOnItsPage :
    ∃ _s : State, ∃ _code _ty inst : Nat, ∃ _site : Option Nat, ∃ _detail : Nat, inst < 256 :=
  ⟨base 5, 0x123, Ty.tg, 3, some 1, 9, by decide +kernel⟩

/-- Inputs that meet the hypotheses of Obligations.DoorbellsMoveOrAreDropped, clause by clause. -/
theorem witness_DoorbellsMoveOrAreDropped :
    (∃ s : State, ∃ fn q index : Nat, s.serves fn q = true ∧ (s.queue q).type = 1 ∨ (s.queue q).type = 5 ∧ s.isBound q = false ∧ index < (s.queue q).slots ∧ (s.queue q).used ≤ (index + (s.queue q).slots - (s.queue q).head) % (s.queue q).slots) ∧
    (∃ s : State, ∃ fn q index : Nat, s.serves fn q = true ∧ (s.queue q).type = 3 ∨ (s.queue q).type = 4 ∧ (s.queue q).head < (s.queue q).slots ∧ index < (s.queue q).slots ∧ (index + (s.queue q).slots - (s.queue q).head) % (s.queue q).slots ≤ (s.queue q).used) ∧
    (∃ s : State, ∃ fn q index : Nat, s.serves fn q = true ∧ (s.queue q).type = 1 ∧ index < (s.queue q).slots ∧ index < 2 ^ 24 ∧ (s.siteSt (ownerOfFn fn) = .idle ∨ s.siteSt (ownerOfFn fn) = .armed ∨ s.siteSt (ownerOfFn fn) = .running)) ∧
    (∃ s : State, ∃ fn q index n : Nat, ∃ rest : List Nat, s.serves fn q = true ∧ (s.queue q).type = 2 ∧ (s.queue q).head < (s.queue q).slots ∧ index < (s.queue q).slots ∧ n = (index + (s.queue q).slots - (s.queue q).head) % (s.queue q).slots ∧ n ≤ (s.queue q).used ∧ recsAfter (s.queue q).recs n = some rest) ∧
    (∃ s : State, ∃ fn q index n : Nat, s.serves fn q = true ∧ (s.queue q).type = 2 ∧ (s.queue q).head < (s.queue q).slots ∧ index < (s.queue q).slots ∧ n = (index + (s.queue q).slots - (s.queue q).head) % (s.queue q).slots ∧ n ≤ (s.queue q).used ∧ recsAfter (s.queue q).recs n = none) ∧
    (∃ s : State, ∃ fn q index op : Nat, ∃ i : Instr, fn < 17 ∧ q < 2 ^ 20 ∧ s.fnUp fn = true ∧ (s.qmgr.ready = false ∨ s.qOwner q ≠ ownerOfFn fn ∨ (s.queue q).enable = false ∨ s.inReset fn = true) ∧ 2 ≤ op ∧ op < 16 ∧ index < 2 ^ 24 ∧ (i = .doorbellTail fn q index ∨ i = .doorbellHead fn q index ∨ i = .doorbellRelease fn (q + op * 2 ^ 20 + index * 2 ^ 32))) :=
  ⟨⟨queue5 {type := 1, enable := true, log2 := 4, base := 4096}, 0, 5, 3, by decide +kernel⟩,
    ⟨queue5 {type := 3, enable := true, log2 := 4, head := 14, tail := 2}, 0, 5, 1, by decide +kernel⟩,
    ⟨(siteBase 9 (fun x => {x with st := .running})).modQueue 5 (fun d => {d with type := 1, enable := true, log2 := 4}), 1, 5, 3, by decide +kernel⟩,
    ⟨queue5 {type := 2, enable := true, log2 := 4, tail := 3, recs := [1,2]}, 0, 5, 1, 1, [2], by decide +kernel⟩,
    ⟨queue5 {type := 2, enable := true, log2 := 4, tail := 3, recs := [1,2]}, 0, 5, 2, 2, by decide +kernel⟩,
    ⟨{queue5 {type := 2, enable := false, log2 := 4, tail := 3, recs := [1,2]} with qmgr := {ready := true, dbDrop := 2^32-1}}, 0, 5, 2, 2, .doorbellTail 0 5 2, by decide +kernel⟩⟩

/-- Inputs that meet the hypotheses of Obligations.QueueEntriesAreAppendedWithRoom, clause by clause. -/
theorem witness_QueueEntriesAreAppendedWithRoom :
    (∃ s : State, ∃ fn _val : Nat, fn < 17 ∧ s.fnUp fn = true ∧ (s.fn fn).inReset = false) ∧
    (∃ s : State, ∃ fn off : Nat, ∃ data : List Byte, fn < 17 ∧ s.fnUp fn = true ∧ (s.fn fn).inReset = false ∧ off + data.length < 64) ∧
    (∃ s : State, ∃ fn off : Nat, ∃ data e : List Byte, fn < 17 ∧ s.fnUp fn = true ∧ (s.fn fn).inReset = false ∧ off + data.length = 64 ∧ data ≠ [] ∧ stagedEntry (stageBytes (s.fn fn).push off data) = some e ∧ s.serves fn (s.fn fn).pushSel = true ∧ (s.queue (s.fn fn).pushSel).type = 1 ∨ (s.queue (s.fn fn).pushSel).type = 5 ∧ s.isBound (s.fn fn).pushSel = false ∧ 0 < (s.queue (s.fn fn).pushSel).room) ∧
    (∃ s : State, ∃ fn : Nat, ∃ h : Nat × List Byte, ∃ rest : List (Nat × List Byte), fn < 17 ∧ takeHeld (fun q => decide (0 < (s.queue q).room)) (s.fn fn).held = some (h, rest)) ∧
    (∃ s : State, ∃ st : Nat, st < 16 ∧ 0 < (s.site st).logLost ∧ (s.site st).logEn = true ∧ (s.site st).logQValid = true ∧ 0 < (s.queue (s.site st).logQ).room) :=
  ⟨⟨base 1, 0, 2^20+3, by decide +kernel⟩,
    ⟨base 1, 0, 3, [1,2], by decide +kernel⟩,
    ⟨(queue5 {type := 1, enable := true, log2 := 4, base := 4096}).modFn 0 (fun f => {f with pushSel := 5, push := (List.range 60).map (fun k => (k, some k))}), 0, 60, [1,2,3,4], ((List.range 60).map (fun k => (BitVec.ofNat 8 k)) ++ [1,2,3,4]), by decide +kernel⟩,
    ⟨(queue5 {type := 3, enable := true, log2 := 4, base := 4096, head := 3, tail := 15}).modFn 0 (fun f => {f with held := [(5,[1,2,3])]}), 0, (5,[1,2,3]), [], by decide +kernel⟩,
    ⟨(siteBase 9 (fun x => {x with logLost := 3, logQ := 5, logQValid := true, logEn := true})).modQueue 5 (fun d => {d with type := 4, enable := true, log2 := 4, base := 8192, tail := 2}), 0, by decide +kernel⟩⟩

/-- Inputs that meet the hypotheses of Obligations.DescriptorWindowReadsAndWrites, clause by clause. -/
theorem witness_DescriptorWindowReadsAndWrites :
    (∃ s : State, ∃ fn : Nat, s.accepts fn Ty.qmgr 0 0x058 = true ∧ (fn = 0 ∨ s.qOwner (s.fn fn).descSel = ownerOfFn fn)) ∧
    (∃ s : State, ∃ fn w : Nat, s.accepts fn Ty.qmgr 0 0x058 = true ∧ w = (s.fn fn).desc0 + (s.fn fn).desc1 * 2 ^ 32 + (s.fn fn).desc2 * 2 ^ 64 + (s.fn fn).desc3 * 2 ^ 96 ∧ s.descCheck fn (s.fn fn).descSel w = 0) :=
  ⟨⟨(queue5 {type := 1, enable := true, log2 := 4, base := 4096, tail := 3, ownerFn := true}).modFn 0 (fun f => {f with descSel := 5}), 0, by decide +kernel⟩,
    ⟨(base 5).modFn 0 (fun f => {f with descSel := 5, desc0 := 4096, desc1 := 10*256, desc2 := 0, desc3 := 2 + 16 + 128}), 0, (4096 + 10 * 2^40 + (2+16+128) * 2^96), by decide +kernel⟩⟩

/-- Inputs that meet the hypotheses of Obligations.DriverControlActsOrRefuses, clause by clause. -/
theorem witness_DriverControlActsOrRefuses :
    (∃ s : State, ∃ fn ch val : Nat, s.accepts fn Ty.pe ch 0x040 = true ∧ s.chBusy ch = false ∧ (s.hdr Ty.pe ch).en = true ∨ (val / 2 % 8 = 0 ∧ val.testBit 5 = false) ∧ (s.chan ch).conAt = none ∧ val / 2 % 8 ≤ 4 ∧ (s.chan ch).pmuConn = false ∨ val / 2 % 8 = 0 ∧ (s.chan ch).full = val.testBit 0) ∧
    (∃ s : State, ∃ fn ch val : Nat, s.accepts fn Ty.pe ch 0x040 = true ∧ s.chBusy ch = false ∧ (s.hdr Ty.pe ch).en = true ∨ (val / 2 % 8 = 0 ∧ val.testBit 5 = false) ∧ (s.chan ch).conAt = none ∧ val / 2 % 8 ≤ 4 ∧ (s.chan ch).pmuConn = false ∨ val / 2 % 8 = 0 ∧ (s.chan ch).full ≠ val.testBit 0 ∧ (s.chan ch).rangeAt = none ∧ minPeriod (val.testBit 0) s.grade08 ≤ (s.chan ch).perInt) ∧
    (∃ s : State, ∃ ch a drv : Nat, ∃ term clamp : Bool, ch < 192 ∧ (s.chan ch).rangeAt = some a ∧ a + 5 * fsUs ≤ s.up ∧ (s.chan ch).ctrlNext = some (drv, term, clamp)) ∧
    (∃ s : State, ∃ fn ch val : Nat, s.accepts fn Ty.pe ch 0x040 = true ∧ val % 64 ≠ (s.chan ch).peSettled.peCtrl ∧ s.chBusy ch = true) ∧
    (∃ s : State, ∃ fn ch val : Nat, s.accepts fn Ty.pe ch 0x040 = true ∧ s.chBusy ch = false ∧ (s.hdr Ty.pe ch).en = true ∧ (s.chan ch).conAt = none ∧ (s.chan ch).rangeAt = none ∧ 4 < val / 2 % 8) ∧
    (∃ s : State, ∃ fn ch val : Nat, s.accepts fn Ty.pe ch 0x040 = true ∧ s.chBusy ch = false ∧ (s.hdr Ty.pe ch).en = true ∧ (s.chan ch).conAt = none ∧ (s.chan ch).full = val.testBit 0 ∧ 0 < val / 2 % 8 ∧ val / 2 % 8 ≤ 4 ∧ (s.chan ch).pmuConn = true) ∧
    (∃ s : State, ∃ fn ch _val _code : Nat, s.accepts fn Ty.pe ch 0x040 = true) :=
  ⟨⟨chan0 (fun c => {c with full := false, clamp := true, vchAct := true}), 0, 0, 0x12, by decide +kernel⟩,
    ⟨chan0 (fun c => {c with full := false}), 0, 0, 0x13, by decide +kernel⟩,
    ⟨chan0 (fun c => {c with rangeAt := some 0, ctrlNext := some (1,true,true)}), 0, 0, 1, true, true, by decide +kernel⟩,
    ⟨(siteBase 9 (fun x => {x with st := .running})), 0, 0, 0x12, by decide +kernel⟩,
    ⟨chan0 (fun c => {c with full := false}), 0, 0, 0x1A, by decide +kernel⟩,
    ⟨chan0 (fun c => {c with full := false, pmuConn := true}), 0, 0, 0x12, by decide +kernel⟩,
    ⟨chan0 (fun c => {c with full := false, pmuConn := true}), 0, 0, 0x12, 7, by decide +kernel⟩⟩

/-- Inputs that meet the hypotheses of Obligations.PmuConnectsAndChangesRange, clause by clause. -/
theorem witness_PmuConnectsAndChangesRange :
    (∃ s : State, ∃ fn ch val : Nat, s.accepts fn Ty.pe ch 0x04C = true ∧ (s.hdr Ty.pe ch).en = true ∧ (s.chan ch).conAt = none ∧ (val % 4 = 1 ∨ val % 4 = 2) ∧ val.testBit 2 = true ∧ (s.chan ch).pmuConn = false ∧ (s.chan ch).drvMode = 0 ∧ (s.chan ch).ctrlNext = none ∧ (s.chan ch).loadMode = 0) ∧
    (∃ s : State, ∃ fn ch val : Nat, s.accepts fn Ty.pe ch 0x04C = true ∧ (s.chan ch).conAt = none ∧ val % 4 ≠ 3 ∧ val.testBit 2 = false) ∧
    (∃ s : State, ∃ fn ch val : Nat, s.accepts fn Ty.pe ch 0x050 = true ∧ (s.chan ch).pmuAt = none ∧ val % 8 ≤ 4 ∧ (s.chan ch).pmuConn = false ∧ val % 8 ≠ (s.chan ch).pmuRange) ∧
    (∃ s : State, ∃ fn ch val : Nat, s.accepts fn Ty.pe ch 0x050 = true ∧ (s.chan ch).pmuAt = none ∧ val % 8 ≤ 4 ∧ (s.chan ch).pmuConn = true ∧ (s.chan ch).pmuMode ≠ 2 ∧ val % 8 ≠ (s.chan ch).pmuRange) ∧
    (∃ s : State, ∃ fn ch val : Nat, ∃ new : Int, s.accepts fn Ty.pe ch 0x050 = true ∧ (s.chan ch).pmuAt = none ∧ val % 8 ≤ 4 ∧ (s.chan ch).pmuConn = true ∧ (s.chan ch).pmuMode = 2 ∧ val % 8 ≠ (s.chan ch).pmuRange ∧ new = pmuRescale ((s.chan ch).applied 9) (s.chan ch).pmuRange (val % 8) ∧ 384 ≤ new ∧ new ≤ 32384) ∧
    (∃ s : State, ∃ ch a : Nat, ch < 192 ∧ (s.chan ch).pmuAt = some a ∧ a + 20 * fsUs ≤ s.up) ∧
    (∃ s : State, ∃ ch a : Nat, ch < 192 ∧ (s.chan ch).pmuAt = some a ∧ a + 22 * fsUs ≤ s.up) ∧
    (∃ s : State, ∃ ch : Nat, ∃ x : Int, ch < 192 ∧ (s.chan ch).pmuConn = true ∧ (s.chan ch).pmuAtLimit x = true ∧ (s.chan ch).compliance = false) ∧
    (∃ s : State, ∃ ch : Nat, ∃ x : Int, ch < 192 ∧ (s.chan ch).pmuConn = false ∨ (s.chan ch).pmuAtLimit x = false) ∧
    (∃ s : State, ∃ ch : Nat, ch < 192 ∧ (s.chan ch).pmuConn = true ∧ (s.chan ch).pmuSense = false ∧ (s.chan ch).senseFb = false) :=
  ⟨⟨base 9, 0, 0, 0xD, by decide +kernel⟩,
    ⟨chan0 (fun c => {c with pmuConn := true, pmuMode := 1}), 0, 0, 1, by decide +kernel⟩,
    ⟨base 9, 0, 0, 3, by decide +kernel⟩,
    ⟨chan0 (fun c => {c with pmuConn := true, pmuMode := 1}), 0, 0, 0, by decide +kernel⟩,
    ⟨chan0 (fun c => {c with pmuConn := true, pmuMode := 2}), 0, 0, 3, 16384, by decide +kernel⟩,
    ⟨chan0 (fun c => {c with pmuConn := true, pmuMode := 1, pmuAt := some 0, pmuOld := true}), 0, 0, by decide +kernel⟩,
    ⟨chan0 (fun c => {c with pmuConn := true, pmuMode := 1, pmuAt := some 0, pmuOld := true}), 0, 0, by decide +kernel⟩,
    ⟨chan0 (fun c => {c with pmuConn := true, pmuMode := 1}), 0, 10000000000000000, by decide +kernel⟩,
    ⟨chan0 (fun c => {c with pmuConn := true, pmuMode := 1, compliance := true}), 191, 0, by decide +kernel⟩,
    ⟨chan0 (fun c => {c with pmuConn := true, pmuMode := 1}), 0, by decide +kernel⟩⟩

/-- Inputs that meet the hypotheses of Obligations.ClampsAndContactTest, clause by clause. -/
theorem witness_ClampsAndContactTest :
    (∃ s : State, ∃ ch : Nat, ch < 192 ∧ (s.chan ch).clampsAct = true ∧ (s.chan ch).vchAct = false) ∧
    (∃ s : State, ∃ ch : Nat, ch < 192 ∧ (s.chan ch).clampsAct = true ∧ (s.chan ch).vclAct = false) ∧
    (∃ _s : State, ∃ ch : Nat, ch < 192) ∧
    (∃ s : State, ∃ ch : Nat, ch < 192 ∧ s.stage = .on ∧ s.pwr.analogOff = false) ∧
    (∃ s : State, ∃ fn ch _pol _cur : Nat, s.accepts fn Ty.pe ch 0x05C = true ∧ s.siteIdle (s.chOwner ch) = true ∧ (s.chan ch).conAt = none ∧ (s.hdr Ty.pe ch).en = true ∧ (s.chan ch).isHiz s.now s.up = true) ∧
    (∃ s : State, ∃ ch a : Nat, ∃ _mv : Int, ch < 192 ∧ (s.chan ch).conAt = some a ∧ a + 60 * fsUs ≤ s.up) :=
  ⟨⟨chan0 (fun c => {c with clamp := true, clEvents := 65535, codes := [(6,0)]}), 0, by decide +kernel⟩,
    ⟨chan0 (fun c => {c with clamp := true, codes := [(6,0)], clEvents := 9}), 0, by decide +kernel⟩,
    ⟨chan0 (fun c => {c with clamp := true, vchAct := true}), 0, by decide +kernel⟩,
    ⟨chan0 (fun c => {c with clamp := true, vchAct := true}), 191, by decide +kernel⟩,
    ⟨base 9, 0, 0, 0, 2, by decide +kernel⟩,
    ⟨chan0 (fun c => {c with conAt := some 0}), 0, 0, -199, by decide +kernel⟩⟩

/-- Inputs that meet the hypotheses of Obligations.LevelCodesAndQueue, clause by clause. -/
theorem witness_LevelCodesAndQueue :
    (∃ s : State, ∃ fn ch d _val : Nat, d < 10 ∧ s.accepts fn Ty.lvl ch (0x040 + 4 * d) = true ∧ (d ∈ (s.chan ch).lvlSet → (s.chan ch).lvlSetAt + fsNs ≤ s.up)) ∧
    (∃ s : State, ∃ fn ch d _val : Nat, d < 10 ∧ s.accepts fn Ty.lvl ch (0x040 + 4 * d) = true ∧ d ∈ (s.chan ch).lvlSet ∧ s.up < (s.chan ch).lvlSetAt + fsNs) ∧
    (∃ s : State, ∃ fn ch val : Nat, s.accepts fn Ty.lvl ch 0x080 = true ∧ (s.chan ch).lvlq.length < 64 ∧ val / 65536 % 16 ≤ 9) ∧
    (∃ s : State, ∃ fn ch _val : Nat, s.accepts fn Ty.lvl ch 0x080 = true ∧ 64 ≤ (s.chan ch).lvlq.length) ∧
    (∃ s : State, ∃ fn ch : Nat, s.accepts fn Ty.lvl ch 0x084 = true) ∧
    (∃ s : State, ∃ ch : Nat, ∃ e : LvlEntry, ∃ rest : List LvlEntry, ch < 192 ∧ (s.chan ch).lvlFly = e :: rest ∧ (s.hdr Ty.lvl ch).retired = false ∧ (s.chan ch).lvlq.length < 64 ∧ (∀ r, (s.site (s.chOwner ch)).lclkLast = some r → ttLt (r * 256) e.stamp = true)) ∧
    (∃ s : State, ∃ ch r : Nat, ∃ e : LvlEntry, ∃ rest : List LvlEntry, ch < 192 ∧ (s.chan ch).lvlFly = e :: rest ∧ (s.hdr Ty.lvl ch).retired = false ∧ (s.chan ch).lvlq.length < 64 ∧ (s.site (s.chOwner ch)).lclkLast = some r ∧ ttLe e.stamp (r * 256) = true) ∧
    (∃ s : State, ∃ ch : Nat, ∃ e : LvlEntry, ∃ rest : List LvlEntry, ch < 192 ∧ (s.chan ch).lvlFly = e :: rest ∧ (s.hdr Ty.lvl ch).retired = false ∧ 64 ≤ (s.chan ch).lvlq.length) ∧
    (∃ e : LvlEntry, ∃ l : List LvlEntry, (∀ x ∈ e :: l, x.stamp < 2 ^ 63) ∧ l.Pairwise (fun a b => a.stamp ≤ b.stamp)) :=
  ⟨⟨base 5, 0, 0, 9, 70000, by decide +kernel⟩,
    ⟨chan0 (fun c => {c with lvlSet := [9], lvlSetAt := 256000000}), 0, 0, 9, 70000, by decide +kernel⟩,
    ⟨base 5, 0, 0, 0x90003, by decide +kernel⟩,
    ⟨chan0 (fun c => {c with lvlq := List.replicate 64 {dac:=1,code:=2,stamp:=3}}), 0, 0, 0x90003, by decide +kernel⟩,
    ⟨chan0 (fun c => {c with lvlq := List.replicate 64 {dac:=1,code:=2,stamp:=3}}), 0, 0, by decide +kernel⟩,
    ⟨(chan0 (fun c => {c with lvlFly := [{dac:=1,code:=2,stamp:=300}]})).modSite 16 (fun x => { x with lclkLast := some 1 }), 0, {dac:=1,code:=2,stamp:=300}, [], by decide +kernel⟩,
    ⟨(chan0 (fun c => {c with lvlFly := [{dac:=1,code:=2,stamp:=3}]})).modSite 16 (fun x => { x with lclkLast := some 1 }), 0, 1, {dac:=1,code:=2,stamp:=3}, [], by decide +kernel⟩,
    ⟨chan0 (fun c => {c with lvlFly := [{dac:=1,code:=2,stamp:=3}], lvlq := List.replicate 64 {dac:=1,code:=2,stamp:=3}, lvlDrop := 255}), 0, {dac:=1,code:=2,stamp:=3}, [], by decide +kernel⟩,
    ⟨{dac := 1, code := 3, stamp := 5}, [{dac := 1, code := 3, stamp := 4},{dac := 1, code := 3, stamp := 5}, {dac := 1, code := 3, stamp := 6}], by decide +kernel⟩⟩

/-- Inputs that meet the hypotheses of Obligations.PeriodBelowMinimumIsRejectedNotClamped, clause by clause. -/
theorem witness_PeriodBelowMinimumIsRejectedNotClamped :
    (∃ s : State, ∃ fn ch val P : Nat, s.accepts fn Ty.tg ch 0x048 = true ∧ P = s.lowHalf fn Ty.tg ch 0x044 ((s.chan ch).perInt % 2 ^ 32) + val % 65536 * 2 ^ 32 ∧ s.chBusy ch = false ∧ P < (if (s.chan ch).full then 1280 else if s.grade08 then 512 else 256)) ∧
    (∃ s : State, ∃ fn ch val P : Nat, s.accepts fn Ty.tg ch 0x048 = true ∧ P = s.lowHalf fn Ty.tg ch 0x044 ((s.chan ch).perInt % 2 ^ 32) + val % 65536 * 2 ^ 32 ∧ s.chBusy ch = true) ∧
    (∃ s : State, ∃ fn ch val P : Nat, s.accepts fn Ty.tg ch 0x048 = true ∧ P = s.lowHalf fn Ty.tg ch 0x044 ((s.chan ch).perInt % 2 ^ 32) + val % 65536 * 2 ^ 32 ∧ s.chBusy ch = false ∧ (if (s.chan ch).full then 1280 else if s.grade08 then 512 else 256) ≤ P) :=
  ⟨⟨(base 9).modFn 0 (fun f => {f with stage := [(pairKey Ty.tg 0 0x044, some 1279)]}), 0, 0, 0, 1279, by decide +kernel⟩,
    ⟨(siteBase 9 (fun x => {x with st := .running})), 0, 0, 5, (4096 + 5 * 2^32), by decide +kernel⟩,
    ⟨(base 9).modFn 0 (fun f => {f with stage := [(pairKey Ty.tg 0 0x044, some 1280)]}), 0, 0, 0x70000, 1280, by decide +kernel⟩⟩

/-- Inputs that meet the hypotheses of Obligations.SymbolMapTimesetsAndFreeRuns, clause by clause. -/
theorem witness_SymbolMapTimesetsAndFreeRuns :
    (∃ s : State, ∃ fn ch val : Nat, s.accepts fn Ty.tg ch 0x054 = true ∧ s.chBusy ch = false ∧ mapBad val = false ∧ mapBad (s.lowHalf fn Ty.tg ch 0x050 (s.chan ch).symLo) = false) ∧
    (∃ s : State, ∃ fn ch val : Nat, s.accepts fn Ty.tg ch 0x054 = true ∧ s.chBusy ch = false ∧ mapBad val = true) ∧
    (∃ s : State, ∃ fn ch k e _val : Nat, k < 64 ∧ e < 8 ∧ s.accepts fn Ty.tg ch (0x400 + 0x20 * k + 4 * e) = true ∧ s.chBusy ch = false) ∧
    (∃ s : State, ∃ fn ch k _val : Nat, k < 64 ∧ s.accepts fn Ty.tg ch (0xC00 + 4 * k) = true ∧ s.chBusy ch = false) ∧
    (∃ s : State, ∃ fn ch ts sym : Nat, s.accepts fn Ty.tg ch 0x058 = true ∧ s.inMode [.ready, .run] = true ∧ s.chBusy ch = false ∧ (s.hdr Ty.tg ch).en = true ∧ ts < 64 ∧ sym ≤ 2 ∧ (s.chan ch).tsValid ts = true ∧ 0 < (s.chan ch).q) ∧
    (∃ s : State, ∃ fn ch _ts _sym : Nat, s.accepts fn Ty.tg ch 0x058 = true ∧ (s.chan ch).frRun = true ∧ (s.chan ch).frU ≠ 0) ∧
    (∃ s : State, ∃ fn ch _ts _sym : Nat, s.accepts fn Ty.tg ch 0x058 = true ∧ (s.chan ch).frRun = true ∧ (s.chan ch).frU = 0) ∧
    (∃ s : State, ∃ fn ch ts sym : Nat, s.accepts fn Ty.tg ch 0x058 = true ∧ (s.chan ch).frRun = false ∧ ts < 64 ∧ sym ≤ 2) :=
  ⟨⟨(base 9).modFn 0 (fun f => {f with stage := [(pairKey Ty.tg 0 0x050, some 0x1A)]}), 0, 0, 0x98, by decide +kernel⟩,
    ⟨base 9, 0, 0, 0xB0, by decide +kernel⟩,
    ⟨base 9, 0, 0, 63, 7, 5000000000, by decide +kernel⟩,
    ⟨base 9, 0, 0, 63, 0xFFFFFFFF, by decide +kernel⟩,
    ⟨base 100000, 0, 0, 0, 1, by decide +kernel⟩,
    ⟨chan0 (fun c => {c with frRun := true, frU := 3}), 0, 0, 0, 1, by decide +kernel⟩,
    ⟨chan0 (fun c => {c with frRun := true, frU := 0}), 0, 0, 0, 1, by decide +kernel⟩,
    ⟨chan0 (fun c => {c with frRun := false, frU := 0}), 0, 0, 5, 2, by decide +kernel⟩⟩

/-- Inputs that meet the hypotheses of Obligations.UisBeginOnTheGrid, clause by clause. -/
theorem witness_UisBeginOnTheGrid :
    (∃ s : State, ∃ ch u : Nat, ∃ p : Play, ch < 192 ∧ (s.chan ch).play = some p ∧ p.inert = false ∧ u = p.blk.tt + (64 * p.blk.seq + p.k) * (s.chan ch).q / 65536 - 64 * p.blk.seq * (s.chan ch).q / 65536 ∧ ttLe u s.now = true ∧ (∀ a, s.abortPoint ch = some a → ttLt u a = true) ∧ (s.chan ch).tsValid (p.blk.tss.getD p.k 0) = true ∧ (s.chan ch).noDrive = false) ∧
    (∃ s : State, ∃ ch : Nat, ∃ p : Play, ch < 192 ∧ (s.chan ch).play = some p ∧ p.inert = false ∧ ttLe ((s.chan ch).uiStart p.blk.tt p.blk.seq p.k) s.now = true ∧ (∀ a, s.abortPoint ch = some a → ttLt ((s.chan ch).uiStart p.blk.tt p.blk.seq p.k) a = true) ∧ (s.chan ch).tsValid (p.blk.tss.getD p.k 0) = false) ∧
    (∃ s : State, ∃ ch a : Nat, ∃ p : Play, ch < 192 ∧ (s.chan ch).play = some p ∧ ttLe ((s.chan ch).uiStart p.blk.tt p.blk.seq p.k) s.now = true ∧ s.abortPoint ch = some a ∧ ttLe a ((s.chan ch).uiStart p.blk.tt p.blk.seq p.k) = true) ∧
    (∃ s : State, ∃ ch u : Nat, ch < 192 ∧ (s.chan ch).play = none ∧ (s.chan ch).frRun = true ∧ (s.chan ch).frStop = false ∧ (u : Int) = ((((s.chan ch).frM0 + (s.chan ch).frU) * (s.chan ch).q / 65536 : Nat) + (s.chan ch).frShift) % (2 ^ 64 : Nat) ∧ ttLe u s.now = true ∧ (s.chan ch).tsValid (s.chan ch).frTs = true ∧ (s.chan ch).noDrive = false) ∧
    (∃ s : State, ∃ ch u : Nat, ch < 192 ∧ (s.chan ch).play = none ∧ (s.chan ch).frRun = true ∧ (s.chan ch).frStop = true ∧ (u : Int) = ((((s.chan ch).frM0 + (s.chan ch).frU) * (s.chan ch).q / 65536 : Nat) + (s.chan ch).frShift) % (2 ^ 64 : Nat) ∧ ttLe u s.now = true ∧ (s.chan ch).pedges = []) :=
  ⟨⟨runBase 2000 id (fun c => {c with play := some { blk := blk0, k := 3 }}), 0, 312288, { blk := blk0, k := 3 }, by decide +kernel⟩,
    ⟨runBase 2000 id (fun c => {c with play := some { blk := blk0, k := 3 }, edges := [(6, 9000)]}), 0, { blk := blk0, k := 3 }, by decide +kernel⟩,
    ⟨runBase 2000 (fun x => { x with abortT := some 100000 }) (fun c => {c with play := some { blk := blk0, k := 3 }}), 0, 231072, { blk := blk0, k := 3 }, by decide +kernel⟩,
    ⟨chan0 (fun c => {c with frRun := true, frM0 := 40, frU := 3}), 0, 176128, by decide +kernel⟩,
    ⟨chan0 (fun c => {c with frRun := true, frStop := true, frM0 := 40, frU := 3}), 0, 176128, by decide +kernel⟩⟩

/-- Inputs that meet the hypotheses of Obligations.EdgesApplyOrConflict, clause by clause. -/
theorem witness_EdgesApplyOrConflict :
    (∃ s : State, ∃ ch : Nat, ∃ p : PEdge, ∃ to_ : Bool, ch < 192 ∧ (s.chan ch).nextEdge (s.chan ch).pedges = some p ∧ ttReached s.now ((s.chan ch).edgeTime p) = true ∧ (∀ x ∈ s.nextEdges ch, ttReached ((s.chan ch).edgeTime x) ((s.chan ch).edgeTime p) = true) ∧ p.enable = false ∧ to_ = (if p.act = 2 then !(s.chan ch).high else decide (p.act = 1)) ∧ (s.chan ch).high = to_) ∧
    (∃ s : State, ∃ ch : Nat, ∃ p : PEdge, ∃ to_ : Bool, ch < 192 ∧ (s.chan ch).nextEdge (s.chan ch).pedges = some p ∧ ttReached s.now ((s.chan ch).edgeTime p) = true ∧ (∀ x ∈ s.nextEdges ch, ttReached ((s.chan ch).edgeTime x) ((s.chan ch).edgeTime p) = true) ∧ p.enable = false ∧ to_ = (if p.act = 2 then !(s.chan ch).high else decide (p.act = 1)) ∧ (s.chan ch).high ≠ to_ ∧ (∀ l, (s.chan ch).lastData = some l → l + ((s.chan ch).smin : Int) ≤ (s.chan ch).edgeTime p ∧ (s.chan ch).edgeTime p < l + 2 ^ 63)) ∧
    (∃ s : State, ∃ ch : Nat, ∃ p : PEdge, ∃ to_ : Bool, ∃ l : Int, ch < 192 ∧ (s.chan ch).nextEdge (s.chan ch).pedges = some p ∧ ttReached s.now ((s.chan ch).edgeTime p) = true ∧ (∀ x ∈ s.nextEdges ch, ttReached ((s.chan ch).edgeTime x) ((s.chan ch).edgeTime p) = true) ∧ p.enable = false ∧ to_ = (if p.act = 2 then !(s.chan ch).high else decide (p.act = 1)) ∧ (s.chan ch).high ≠ to_ ∧ (s.chan ch).lastData = some l ∧ l ≤ (s.chan ch).edgeTime p ∧ (s.chan ch).edgeTime p < l + ((s.chan ch).smin : Int)) ∧
    (∃ s : State, ∃ ch : Nat, ∃ p : PEdge, ∃ to_ : Bool, ch < 192 ∧ (s.chan ch).nextEdge (s.chan ch).pedges = some p ∧ ttReached s.now ((s.chan ch).edgeTime p) = true ∧ (∀ x ∈ s.nextEdges ch, ttReached ((s.chan ch).edgeTime x) ((s.chan ch).edgeTime p) = true) ∧ p.enable = true ∧ to_ = decide (p.act = 1) ∧ (s.chan ch).en = to_) ∧
    (∃ s : State, ∃ ch : Nat, ∃ p : PEdge, ∃ to_ : Bool, ch < 192 ∧ (s.chan ch).nextEdge (s.chan ch).pedges = some p ∧ ttReached s.now ((s.chan ch).edgeTime p) = true ∧ (∀ x ∈ s.nextEdges ch, ttReached ((s.chan ch).edgeTime x) ((s.chan ch).edgeTime p) = true) ∧ p.enable = true ∧ to_ = decide (p.act = 1) ∧ (s.chan ch).en ≠ to_ ∧ (∀ l, (s.chan ch).lastEn = some l → l + ((s.chan ch).smin : Int) ≤ (s.chan ch).edgeTime p ∧ (s.chan ch).edgeTime p < l + 2 ^ 63)) ∧
    (∃ s : State, ∃ ch : Nat, ∃ p : PEdge, ∃ to_ : Bool, ∃ l : Int, ch < 192 ∧ (s.chan ch).nextEdge (s.chan ch).pedges = some p ∧ ttReached s.now ((s.chan ch).edgeTime p) = true ∧ (∀ x ∈ s.nextEdges ch, ttReached ((s.chan ch).edgeTime x) ((s.chan ch).edgeTime p) = true) ∧ p.enable = true ∧ to_ = decide (p.act = 1) ∧ (s.chan ch).en ≠ to_ ∧ (s.chan ch).lastEn = some l ∧ l ≤ (s.chan ch).edgeTime p ∧ (s.chan ch).edgeTime p < l + ((s.chan ch).smin : Int)) :=
  ⟨⟨chan0 (fun c => {c with pedges := [{ base := 1000, act := 0 }], high := false}), 0, { base := 1000, act := 0 }, false, by decide +kernel⟩,
    ⟨chan0 (fun c => {c with pedges := [{ base := 1000, act := 1 }], high := false, lastData := some 300}), 0, { base := 1000, act := 1 }, true, by decide +kernel⟩,
    ⟨chan0 (fun c => {c with pedges := [{ base := 1000, act := 1 }], high := false, lastData := some 500}), 0, { base := 1000, act := 1 }, true, 500, by decide +kernel⟩,
    ⟨chan0 (fun c => {c with pedges := [{ base := 1000, act := 0, enable := true }], en := false}), 0, { base := 1000, act := 0, enable := true }, false, by decide +kernel⟩,
    ⟨chan0 (fun c => {c with pedges := [{ base := 1000, act := 1, enable := true }], en := false, lastEn := some 300}), 0, { base := 1000, act := 1, enable := true }, true, by decide +kernel⟩,
    ⟨chan0 (fun c => {c with pedges := [{ base := 1000, act := 1, enable := true }], en := false, lastEn := some 500}), 0, { base := 1000, act := 1, enable := true }, true, 500, by decide +kernel⟩⟩

/-- Inputs that meet the hypotheses of Obligations.BlocksArriveAndAreReleased, clause by clause. -/
theorem witness_BlocksArriveAndAreReleased :
    (∃ s : State, ∃ ch : Nat, ∃ b : Block, ∃ rest : List Block, ch < 192 ∧ (s.chan ch).flying = b :: rest ∧ (s.site b.site).st = .running ∧ ttLe s.now b.deadline = true ∧ ttLe (s.site b.site).startT b.tt = true ∧ (s.hdr Ty.tg ch).retired = false ∧ (∀ r, (s.chan ch).postRec b.segId = some r → r.next ≤ b.seq) ∧ (s.chan ch).overlaps b = false) ∧
    (∃ s : State, ∃ ch : Nat, ∃ b : Block, ∃ rest : List Block, ch < 192 ∧ (s.chan ch).flying = b :: rest ∧ (s.site b.site).st = .running ∧ ttLt b.deadline s.now = true) ∧
    (∃ s : State, ∃ ch : Nat, ∃ b : Block, ∃ rest : List Block, ch < 192 ∧ (s.chan ch).fifo = b :: rest ∧ ttLe b.tt s.now = true ∧ (s.site b.site).st = .running ∧ (s.chan ch).frRun = false) ∧
    (∃ s : State, ∃ ch : Nat, ∃ b : Block, ∃ rest : List Block, ch < 192 ∧ (s.chan ch).fifo = b :: rest ∧ ttLe b.tt s.now = true ∧ (s.site b.site).st = .running ∧ (s.chan ch).frRun = true) ∧
    (∃ b : Block, ∃ l : List Block, (∀ x ∈ b :: l, x.tt < 2 ^ 63) ∧ l.Pairwise (fun x y => x.tt ≤ y.tt)) ∧
    (∃ b : Block, ∃ l : List Block, ∃ x : Block, (∀ x ∈ b :: l, x.tt < 2 ^ 63) ∧ l.Pairwise (fun x y => x.tt ≤ y.tt)) :=
  ⟨⟨runBase 200 id (fun c => {c with flying := [blk0], fifo := [{ blk0 with segId := 9, tt := 1000000 }]}), 0, blk0, [], by decide +kernel⟩,
    ⟨runBase 2000 id (fun c => {c with flying := [blk0]}), 0, blk0, [], by decide +kernel⟩,
    ⟨runBase 2000 id (fun c => {c with fifo := [blk0]}), 0, blk0, [], by decide +kernel⟩,
    ⟨runBase 2000 id (fun c => {c with fifo := [blk0], frRun := true}), 0, blk0, [], by decide +kernel⟩,
    ⟨blk0, [{ blk0 with tt := 5 }, blk0, { blk0 with tt := 900000 }], by decide +kernel⟩,
    ⟨blk0, [{ blk0 with tt := 5 }, blk0, { blk0 with tt := 900000 }], blk0, by decide +kernel⟩⟩

/-- Inputs that meet the hypotheses of Obligations.CompareEventsProduceResults, clause by clause. -/
theorem witness_CompareEventsProduceResults :
    (∃ s : State, ∃ ch : Nat, ∃ e : CmpEv, ∃ a b : Int, ch < 192 ∧ nextEv (s.chan ch).cmpEvs = some e ∧ a = (s.chan ch).evOpen e ∧ b = (s.chan ch).evClose e ∧ ttReached s.now b = true ∧ e.masked = false ∧ (s.chan ch).hard = false ∧ (s.chan ch).held = false ∧ (s.hdr Ty.cmp ch).retired = false ∧ (s.chan ch).frRun = false ∧ (∀ p, s.abortPoint ch = some p → ttReached b p = false)) ∧
    (∃ s : State, ∃ ch : Nat, ∃ e : CmpEv, ∃ a b : Int, ch < 192 ∧ nextEv (s.chan ch).cmpEvs = some e ∧ a = (s.chan ch).evOpen e ∧ b = (s.chan ch).evClose e ∧ ttReached s.now b = true ∧ (e.masked = true ∨ (s.chan ch).hard = true ∨ (s.chan ch).held = true ∨ (s.hdr Ty.cmp ch).retired = true ∨ (s.chan ch).frRun = true)) :=
  ⟨⟨chan0 (fun c => {c with cmpEvs := [{ open_ := 1000, close := 1000, sym := 4 }]}), 0, { open_ := 1000, close := 1000, sym := 4 }, 1000, 1000, by decide +kernel⟩,
    ⟨chan0 (fun c => {c with hard := true, cmpEvs := [{ open_ := 1000, close := 1000, sym := 4 }]}), 0, { open_ := 1000, close := 1000, sym := 4 }, 1000, 1000, by decide +kernel⟩⟩

/-- Inputs that meet the hypotheses of Obligations.FailRecordsAndPartitions, clause by clause. -/
theorem witness_FailRecordsAndPartitions :
    (∃ s : State, ∃ r segId seq : Nat, ∃ c : FcuRec, r < 4 ∧ (s.fcu r).recs.find? (fun c => c.segId == segId && c.seq == seq && s.recClosed r c && !s.recWaits r c) = some c ∧ c.fails = [] ∧ c.captUis = 0) ∧
    (∃ s : State, ∃ r segId seq k : Nat, ∃ c : FcuRec, r < 4 ∧ (s.fcu r).recs.find? (fun c => c.segId == segId && c.seq == seq && s.recClosed r c && !s.recWaits r c) = some c ∧ c.fails.length = k ∧ 0 < k ∧ c.captUis = 0 ∧ s.fcuMode c.site = 0 ∧ (s.part r c.site).gap = false ∧ (s.part r c.site).level = 0 ∧ 8 * (s.part r c.site).fill < (s.fcu r).l1 * ((s.part r c.site).units * 65536) ∧ 8 * (s.part r c.site).fill < (s.fcu r).l2 * ((s.part r c.site).units * 65536) ∧ 0 < (s.part r c.site).units ∧ (s.part r c.site).fill + 416 ≤ (s.part r c.site).units * 65536 ∧ s.sealedEmpty c.site = false ∧ s.overFrame c.site r (if k ≤ 4 ∧ (s.part r c.site).sparseEn then 64 else 416) = false) ∧
    (∃ s : State, ∃ r segId seq : Nat, ∃ c : FcuRec, r < 4 ∧ (s.fcu r).recs.find? (fun c => c.segId == segId && c.seq == seq && s.recClosed r c && !s.recWaits r c) = some c ∧ c.fails ≠ [] ∧ c.captUis = 0 ∧ s.fcuMode c.site = 0 ∧ s.sealedEmpty c.site = true) ∧
    (∃ s : State, ∃ r st : Nat, ∃ rec : List Byte, ∃ rest : List (List Byte), r < 4 ∧ st < 16 ∧ (s.part r st).gap = false ∧ (s.part r st).ups = [] ∧ (s.part r st).ring = rec :: rest ∧ (s.part r st).qValid = true ∧ s.isSealed st = false ∧ s.fcuHeld ((s.queue (s.part r st).queue).base + slotSize (s.queue (s.part r st).queue).type * (s.queue (s.part r st).queue).tail) = false ∧ (rec.length + 15) / 16 ≤ (s.queue (s.part r st).queue).room) ∧
    (∃ s : State, ∃ r st val : Nat, st < 16 ∧ s.accepts 0 Ty.fcu r (0x400 + 0x40 * st + 0x0C) = true ∧ s.siteIdle st = true ∧ val % 256 + ((List.range 16).filter (· != st)).foldl (fun n i => n + (s.part r i).units) 0 ≤ 128 ∧ val % 256 ≠ (s.part r st).units) ∧
    (∃ s : State, ∃ r st val : Nat, st < 16 ∧ s.accepts 0 Ty.fcu r (0x400 + 0x40 * st + 0x0C) = true ∧ s.siteIdle st = true ∧ val % 256 + ((List.range 16).filter (· != st)).foldl (fun n i => n + (s.part r i).units) 0 ≤ 128 ∧ val % 256 = (s.part r st).units) ∧
    (∃ s : State, ∃ fn r st _val : Nat, st < 16 ∧ fn ≠ 0 ∧ s.accepts fn Ty.fcu r (0x400 + 0x40 * st + 0x0C) = true) ∧
    (∃ s : State, ∃ fn r st _val : Nat, st < 16 ∧ s.accepts fn Ty.fcu r (0x400 + 0x40 * st) = true ∧ s.siteIdle st = true) :=
  ⟨⟨{ base 9000 with fcus := [(0, { recs := [{ segId := 7, seq := 2, group := 0 }] })] }, 0, 7, 2, { segId := 7, seq := 2, group := 0 }, by decide +kernel⟩,
    ⟨{ base 9000 with fcus := [(0, { parts := [(0, { units := 4 })], recs := [{ segId := 7, seq := 2, group := 0, fails := [(65, 9)] }] })] }, 0, 7, 2, 1, { segId := 7, seq := 2, group := 0, fails := [(65, 9)] }, by decide +kernel⟩,
    ⟨{ base 9000 with sec := { (base 9000).sec with sealedSites := 1 }, fcus := [(0, { parts := [(0, { units := 4 })], recs := [{ segId := 7, seq := 2, group := 0, fails := [(65, 9)] }] })] }, 0, 7, 2, { segId := 7, seq := 2, group := 0, fails := [(65, 9)] }, by decide +kernel⟩,
    ⟨{ queue5 { type := 2, enable := true, log2 := 4, base := 4096 } with fcus := [(0, { parts := [(0, { units := 4, queue := 5, qValid := true, ring := [List.replicate 64 3, [7]], fill := 65 })] })] }, 0, 0, List.replicate 64 3, [[7]], by decide +kernel⟩,
    ⟨{ base 9000 with fcus := [(0, { parts := [(0, { units := 4 })] })] }, 0, 0, 128, by decide +kernel⟩,
    ⟨{ base 9000 with fcus := [(0, { parts := [(0, { units := 4 })] })] }, 0, 0, 4, by decide +kernel⟩,
    ⟨siteBase 9000 (fun x => x), 1, 0, 0, 4, by decide +kernel⟩,
    ⟨base 9000, 0, 3, 2, 13, by decide +kernel⟩⟩

/-- Inputs that meet the hypotheses of Obligations.BurstCommandsMoveTheSiteOrAreRejected, clause by clause. -/
theorem witness_BurstCommandsMoveTheSiteOrAreRejected :
    (∃ s : State, ∃ fn st : Nat, ∃ _frame : Bool, s.accepts fn Ty.site st 0x044 = true ∧ s.inMode [.run] = true ∧ (s.site st).st = .idle ∧ (bitList (s.site st).teMask nEng).any (fun e => s.inService e) = true) ∧
    (∃ s : State, ∃ fn st : Nat, s.accepts fn Ty.site st 0x044 = true ∧ (s.site st).st = .armed) ∧
    (∃ s : State, ∃ fn st t24 T w : Nat, s.accepts fn Ty.site st 0x044 = true ∧ s.safeAsked = false ∧ (s.glb.busy = false ∨ s.glb.mode ≠ .run ∨ s.glb.target = .run) ∧ (s.site st).st = .armed ∧ (s.site st).srcFrame = false ∧ w = (s.restoreWait st + 255) / 256 ∧ s.root + w ≤ T ∧ T < s.root + w + 2 ^ 23 ∧ T % 2 ^ 24 = t24 % 2 ^ 24 ∧ s.restoreWait st + (s.site st).lead * fsNs ≤ (T - s.root) * 256) ∧
    (∃ s : State, ∃ fn st : Nat, s.accepts fn Ty.site st 0x044 = true ∧ (s.site st).st = .running) ∧
    (∃ s : State, ∃ fn st : Nat, s.accepts fn Ty.site st 0x044 = true ∧ (s.site st).st = .running ∨ (s.site st).st = .draining) ∧
    (∃ s : State, ∃ fn st : Nat, s.accepts fn Ty.site st 0x044 = true ∧ (s.site st).st = .aborted ∧ (s.site st).abortDone = true ∧ s.flushed st = true) ∧
    (∃ s : State, ∃ fn st op : Nat, s.accepts fn Ty.site st 0x044 = true ∧ (op = 0 ∨ 7 ≤ op) ∧ op < 16) ∧
    (∃ s : State, ∃ fn st : Nat, ∃ _frame : Bool, s.accepts fn Ty.site st 0x044 = true ∧ s.inMode [.run] = false ∧ (s.site st).st = .idle) ∧
    (∃ s : State, ∃ fn st : Nat, ∃ _frame : Bool, s.accepts fn Ty.site st 0x044 = true ∧ (s.site st).st ≠ .idle) ∧
    (∃ s : State, ∃ fn st : Nat, ∃ _frame : Bool, s.accepts fn Ty.site st 0x044 = true ∧ s.inMode [.run] = true ∧ (s.site st).st = .idle ∧ (bitList (s.site st).teMask nEng).any (fun e => s.inService e) = false) ∧
    (∃ s : State, ∃ fn st _t24 : Nat, s.accepts fn Ty.site st 0x044 = true ∧ (s.glb.busy = true ∧ s.glb.mode = .run ∧ s.glb.target ≠ .run) ∨ s.safeAsked = true) ∧
    (∃ s : State, ∃ fn st _t24 : Nat, s.accepts fn Ty.site st 0x044 = true ∧ s.safeAsked = false ∧ s.glb.busy = false ∧ (s.site st).st = .draining ∨ (s.site st).st = .aborted) ∧
    (∃ s : State, ∃ fn st : Nat, s.accepts fn Ty.site st 0x044 = true ∧ (s.site st).st ≠ .armed) ∧
    (∃ s : State, ∃ fn st _t24 : Nat, s.accepts fn Ty.site st 0x044 = true ∧ s.safeAsked = false ∧ s.glb.busy = false ∧ (s.site st).st = .idle) ∧
    (∃ s : State, ∃ fn st _t24 : Nat, s.accepts fn Ty.site st 0x044 = true ∧ s.safeAsked = false ∧ s.glb.busy = false ∧ (s.site st).st = .running) ∧
    (∃ s : State, ∃ fn st _t24 : Nat, s.accepts fn Ty.site st 0x044 = true ∧ s.safeAsked = false ∧ s.glb.busy = false ∧ (s.site st).st = .armed ∧ (s.site st).srcFrame = true) ∧
    (∃ s : State, ∃ fn st T : Nat, s.accepts fn Ty.site st 0x044 = true ∧ s.safeAsked = false ∧ s.glb.busy = false ∧ (s.site st).st = .armed ∧ (s.site st).srcFrame = false ∧ s.restoreWait st = 0 ∧ s.root ≤ T ∧ T < s.root + 2 ^ 24 ∧ (s.root + 2 ^ 23 ≤ T ∨ (T - s.root) * 256 < (s.site st).lead * fsNs)) ∧
    (∃ s : State, ∃ fn st : Nat, s.accepts fn Ty.site st 0x044 = true ∧ (s.site st).st ≠ .running) ∧
    (∃ s : State, ∃ fn st : Nat, s.accepts fn Ty.site st 0x044 = true ∧ (s.site st).st ≠ .running ∧ (s.site st).st ≠ .draining) ∧
    (∃ s : State, ∃ fn st : Nat, s.accepts fn Ty.site st 0x044 = true ∧ (s.site st).st ≠ .aborted) ∧
    (∃ s : State, ∃ fn st : Nat, s.accepts fn Ty.site st 0x044 = true ∧ (s.site st).st = .aborted ∧ (s.site st).abortDone = false ∨ s.flushed st = false) ∧
    (∃ s : State, ∃ fn st _code : Nat, s.accepts fn Ty.site st 0x044 = true) :=
  ⟨⟨siteBase 900 (fun x => {x with teMask := 1}), 1, 0, true, by decide +kernel⟩,
    ⟨siteBase 900 (fun x => {x with st := .armed}), 1, 0, by decide +kernel⟩,
    ⟨siteBase 900 (fun x => {x with st := .armed}), 1, 0, 50000, 50000, 0, by decide +kernel⟩,
    ⟨siteBase 900 (fun x => {x with st := .running}), 1, 0, by decide +kernel⟩,
    ⟨siteBase 900 (fun x => {x with st := .running}), 1, 0, by decide +kernel⟩,
    ⟨siteBase 900 (fun x => {x with st := .aborted, abortDone := true}), 1, 0, by decide +kernel⟩,
    ⟨siteBase 900 (fun x => {x with st := .aborted, abortDone := true}), 1, 0, 15, by decide +kernel⟩,
    ⟨base 900, 0, 0, true, by decide +kernel⟩,
    ⟨siteBase 900 (fun x => {x with st := .aborted}), 1, 0, false, by decide +kernel⟩,
    ⟨siteBase 900 (fun x => {x with st := .idle}), 1, 0, false, by decide +kernel⟩,
    ⟨let s := siteBase 900 (fun x => {x with st := .armed}); { s with glb := { s.glb with busy := true, mode := .run, target := .ready } }, 1, 0, 3, by decide +kernel⟩,
    ⟨siteBase 900 (fun x => {x with st := .draining}), 1, 0, 4, by decide +kernel⟩,
    ⟨siteBase 900 (fun x => {x with st := .draining}), 1, 0, by decide +kernel⟩,
    ⟨siteBase 900 (fun x => {x with st := .idle}), 1, 0, 3, by decide +kernel⟩,
    ⟨siteBase 900 (fun x => {x with st := .running}), 1, 0, 3, by decide +kernel⟩,
    ⟨siteBase 900 (fun x => {x with st := .armed, srcFrame := true}), 1, 0, 3, by decide +kernel⟩,
    ⟨siteBase 900 (fun x => {x with st := .armed}), 1, 0, 1000, by decide +kernel⟩,
    ⟨siteBase 900 (fun x => {x with st := .armed}), 1, 0, by decide +kernel⟩,
    ⟨siteBase 900 (fun x => {x with st := .armed}), 1, 0, by decide +kernel⟩,
    ⟨siteBase 900 (fun x => {x with st := .armed}), 1, 0, by decide +kernel⟩,
    ⟨siteBase 900 (fun x => {x with st := .aborted, abortDone := false}), 1, 0, by decide +kernel⟩,
    ⟨siteBase 900 (fun x => {x with st := .aborted, abortDone := false}), 1, 0, 0x2007, by decide +kernel⟩⟩

/-- Inputs that meet the hypotheses of Obligations.BurstEntriesByTime, clause by clause. -/
theorem witness_BurstEntriesByTime :
    (∃ s : State, ∃ st ts : Nat, st < 16 ∧ (s.site st).pendStart = some ts ∧ (s.site st).st = .armed ∧ ttLe ts (s.now + (s.site st).lead * fsNs) = true) ∧
    (∃ s : State, ∃ st : Nat, st < 16 ∧ (s.site st).st = .running ∧ (s.site st).cut = none ∧ s.workLeft st = false) ∧
    (∃ s : State, ∃ st T : Nat, st < 16 ∧ (s.site st).cut = some T ∧ (s.site st).st = .running ∧ ttLe T (s.now + (s.site st).lead * fsNs) = true) ∧
    (∃ s : State, ∃ st : Nat, st < 16 ∧ (s.site st).st = .draining ∧ s.flushed st = true ∧ s.segsLeft st = false ∧ s.fcuFlushed st = true ∧ s.endedLeft st = false ∧ ((s.site st).acqFlushed = true ∨ s.siteAcqs st = [])) ∧
    (∃ s : State, ∃ st a : Nat, st < 16 ∧ (s.site st).abortT = some a ∧ (s.site st).abortDone = false ∧ ttLe (a + 32 * fsNs) s.now = true) ∧
    (∃ s : State, ∃ st a : Nat, st < 16 ∧ ((s.site st).st = .draining ∧ a = (s.site st).drainT) ∨ ((s.site st).st = .aborted ∧ some a = (s.site st).abortT) ∧ ttLe (a + 500 * fsNs) s.now = true ∧ s.isSealed st = false) :=
  ⟨⟨siteBase 900 (fun x => {x with st := .armed, pendStart := some 500000}), 0, 500000, by decide +kernel⟩,
    ⟨siteBase 900 (fun x => {x with st := .running}), 0, by decide +kernel⟩,
    ⟨(siteBase 900 (fun x => {x with st := .running, cut := some 500000})).modChan 0 (fun c => {c with fifo := [blk0, { blk0 with tt := 600000 }]}), 0, 500000, by decide +kernel⟩,
    ⟨siteBase 900 (fun x => {x with st := .draining}), 0, by decide +kernel⟩,
    ⟨(siteBase 9000 (fun x => {x with st := .aborted, abortT := some 500000})).modChan 0 (fun c => {c with fifo := [blk0], play := some { blk := blk0, k := 3 }}), 0, 500000, by decide +kernel⟩,
    ⟨siteBase 90000 (fun x => {x with st := .draining, drainT := 500000}), 0, 500000, by decide +kernel⟩⟩

/-- Inputs that meet the hypotheses of Obligations.ModeRequestsFollowTheTable, clause by clause. -/
theorem witness_ModeRequestsFollowTheTable :
    (∃ s : State, ∃ fn : Nat, s.accepts fn Ty.glb 0 0x040 = true ∧ s.glb.busy = false ∧ s.glb.mode = .ready) ∧
    (∃ s : State, ∃ fn : Nat, s.accepts fn Ty.glb 0 0x040 = true ∧ s.glb.busy = false ∧ s.glb.mode = .ready) ∧
    (∃ s : State, ∃ fn : Nat, s.accepts fn Ty.glb 0 0x040 = true ∧ s.glb.busy = false ∧ s.glb.mode = .ready ∧ (∀ ch, ch < nChan → (s.chan ch).frRun = false)) ∧
    (∃ s : State, ∃ fn ch : Nat, s.accepts fn Ty.glb 0 0x040 = true ∧ s.glb.busy = false ∧ s.glb.mode = .ready ∧ ch < nChan ∧ (s.chan ch).frRun = true) ∧
    (∃ s : State, ∃ fn : Nat, ∃ force : Bool, s.accepts fn Ty.glb 0 0x040 = true ∧ s.glb.busy = false ∧ s.glb.mode = .run ∧ (s.allIdle = true ∨ force = true)) ∧
    (∃ s : State, ∃ fn : Nat, ∃ _force : Bool, s.accepts fn Ty.glb 0 0x040 = true ∧ s.glb.busy = false ∧ s.glb.mode = .safe ∧ s.readyOk = true) ∧
    (∃ s : State, ∃ fn : Nat, ∃ _force : Bool, s.accepts fn Ty.glb 0 0x040 = true ∧ s.glb.busy = false ∧ s.glb.mode = .safe ∧ s.readyOk = false) ∧
    (∃ s : State, ∃ fn : Nat, ∃ _force : Bool, s.accepts fn Ty.glb 0 0x040 = true ∧ s.glb.busy = false ∧ (s.glb.mode = .cal ∨ s.glb.mode = .service)) ∧
    (∃ s : State, ∃ fn : Nat, ∃ force : Bool, s.accepts fn Ty.glb 0 0x040 = true ∧ s.glb.busy = false ∧ (s.glb.mode = .ready ∨ s.glb.mode = .cal ∨ s.glb.mode = .service ∨ (s.glb.mode = .run ∧ (s.allIdle = true ∨ force = true)))) ∧
    (∃ s : State, ∃ fn : Nat, ∃ _force : Bool, s.accepts fn Ty.glb 0 0x040 = true ∧ s.glb.busy = false ∧ s.glb.mode = .safe) ∧
    (∃ s : State, ∃ fn : Nat, s.accepts fn Ty.glb 0 0x040 = true ∧ s.glb.busy = false ∧ s.glb.mode = .run ∧ s.allIdle = false) ∧
    (∃ s : State, ∃ fn : Nat, s.accepts fn Ty.glb 0 0x040 = true ∧ s.glb.busy = false ∧ s.glb.mode ≠ .ready) ∧
    (∃ s : State, ∃ fn : Nat, ∃ _force : Bool, s.accepts fn Ty.glb 0 0x040 = true ∧ s.glb.busy = false ∧ s.glb.mode = .ready) ∧
    (∃ s : State, ∃ fn val : Nat, s.accepts fn Ty.glb 0 0x040 = true ∧ s.glb.busy = false ∧ (val % 8 = 0 ∨ val % 8 = 6 ∨ val % 8 = 7)) ∧
    (∃ s : State, ∃ fn : Nat, ∃ _force : Bool, ∃ _val : Nat, s.accepts fn Ty.glb 0 0x040 = true ∧ s.glb.busy = true) :=
  ⟨⟨base 900, 0, by decide +kernel⟩,
    ⟨base 900, 0, by decide +kernel⟩,
    ⟨base 900, 0, by decide +kernel⟩,
    ⟨chan0 (fun c => {c with frRun := true}), 0, 0, by decide +kernel⟩,
    ⟨siteBase 900 (fun x => {x with st := .running}), 0, true, by decide +kernel⟩,
    ⟨let s := base 900; { s with glb := { s.glb with mode := .safe }, otp := { s.otp with lcState := 2 } }, 0, false, by decide +kernel⟩,
    ⟨let s := base 900; { s with glb := { s.glb with mode := .safe, cause := 8 } }, 0, false, by decide +kernel⟩,
    ⟨let s := base 900; { s with glb := { s.glb with mode := .service, fwCommitted := true } }, 0, false, by decide +kernel⟩,
    ⟨siteBase 900 (fun x => {x with st := .running}), 0, true, by decide +kernel⟩,
    ⟨let s := base 900; { s with glb := { s.glb with mode := .safe } }, 0, true, by decide +kernel⟩,
    ⟨siteBase 900 (fun x => {x with st := .running}), 0, by decide +kernel⟩,
    ⟨siteBase 900 (fun x => x), 0, by decide +kernel⟩,
    ⟨base 900, 0, true, by decide +kernel⟩,
    ⟨base 900, 0, 7, by decide +kernel⟩,
    ⟨let s := base 900; { s with glb := { s.glb with busy := true } }, 0, true, 7, by decide +kernel⟩⟩

/-- Inputs that meet the hypotheses of Obligations.TransitionsWarmUpAndHiZEnd, clause by clause. -/
theorem witness_TransitionsWarmUpAndHiZEnd :
    (∃ s : State, s.stage = .on ∧ s.glb.busy = true ∧ s.glb.seq = false ∧ s.glb.reboot = false ∧ (∀ ch, ch < nChan → (s.chan ch).hiz = none ∧ (s.chan ch).hizDue = none) ∧ (s.glb.mode = .safe → s.glb.target = .ready → s.sec.wiping = []) ∧ (s.glb.safeReq = true → s.norBusy = false)) ∧
    (∃ s : State, s.stage = .on ∧ s.glb.busy = true ∧ s.glb.seq = false ∧ s.glb.reboot = true ∧ (∀ ch, ch < nChan → (s.chan ch).hiz = none ∧ (s.chan ch).hizDue = none) ∧ s.glb.mode = .service ∧ s.glb.safeReq = false) ∧
    (∃ s : State, s.stage = .on ∧ s.glb.mode = .safe ∧ s.glb.busy = true ∧ s.glb.seq = true ∧ s.glb.pwrOk = true ∧ s.glb.fwOk = true ∧ s.glb.bmemClear = true ∧ s.glb.hbmClear = true ∧ s.glb.mcLoaded = true ∧ s.glb.retireLoaded = true ∧ s.glb.calLoaded = true ∧ s.readyOk = true) ∧
    (∃ s : State, s.stage = .on ∧ s.glb.mode = .safe ∧ s.glb.busy = true ∧ s.glb.seq = true ∧ s.glb.pwrOk = true ∧ s.glb.fwOk = true ∧ s.glb.bmemClear = true ∧ s.glb.hbmClear = true ∧ s.glb.mcLoaded = true ∧ s.glb.retireLoaded = true ∧ s.glb.calLoaded = true ∧ s.lcHeld = true) ∧
    (∃ s : State, s.stage = .on ∧ s.glb.warmup = true ∧ s.glb.readied = true ∧ (if s.glb.warmN = 0 then s.glb.warmAt else s.glb.warmLast + 10 * fsMs) ≤ s.up) ∧
    (∃ s : State, s.glb.warmup = true ∧ s.glb.readied = true ∧ s.glb.warmAt + 900 * fsSec ≤ s.up) ∧
    (∃ s : State, ∃ ch : Nat, ∃ safe : Bool, ch < nChan ∧ (s.chan ch).hiz = some safe) ∧
    (∃ _s : State, ∃ die : Nat, die < 4) :=
  ⟨⟨let s := base 900; { s with glb := { s.glb with busy := true, target := .run } }, by decide +kernel⟩,
    ⟨let s := base 900; { s with glb := { s.glb with busy := true, mode := .service, target := .ready, reboot := true } }, by decide +kernel⟩,
    ⟨let s := base 900; { s with glb := { s.glb with busy := true, mode := .safe, target := .ready, seq := true, cause := 1 }, otp := { s.otp with lcState := 2 } }, by decide +kernel⟩,
    ⟨let s := base 900; { s with glb := { s.glb with busy := true, mode := .safe, target := .ready, seq := true, cause := 1 }, otp := { s.otp with lcState := 4 } }, by decide +kernel⟩,
    ⟨let s := base 2000000000; { s with glb := { s.glb with warmup := true, readied := true } }, by decide +kernel⟩,
    ⟨let s := base 14500000000000; { s with glb := { s.glb with warmup := true, readied := true } }, by decide +kernel⟩,
    ⟨chan0 (fun c => {c with hiz := some true, pmuConn := true, loadMode := 1, codes := [(1,2)]}), 0, true, by decide +kernel⟩,
    ⟨chan0 (fun c => {c with drvMode := 3, loadMode := 1}), 0, by decide +kernel⟩⟩

/-- Inputs that meet the hypotheses of Obligations.LinksAndFunctionsResetAndReturn, clause by clause. -/
theorem witness_LinksAndFunctionsResetAndReturn :
    (∃ s : State, s.bifur = false) ∧
    (∃ s : State, s.bifur = false) ∧
    (∃ s : State, s.stage = .on) ∧
    (∃ s : State, s.stage = .on ∧ s.bifur = true) ∧
    (∃ s : State, ∃ i how : Nat, i < 16 ∧ how < 3 ∧ s.fnExists (i + 1) = true) ∧
    (∃ s : State, s.bifur = false) ∧
    (∃ _s : State, ∃ fn : Nat, fn < 18) ∧
    (∃ s : State, ∃ _num : Nat, s.bifur = false ∧ s.fnUp 0 = true ∧ (s.fn 0).inReset = false) ∧
    (∃ s : State, ∃ fn v : Nat, fn < 17 ∧ v < (if fn = 0 then 256 else 64) ∧ s.fnUp fn = true ∧ (s.fn fn).inReset = false ∧ (s.fn fn).msixOn = true ∧ (s.fn fn).msixPend = [(v, true)]) :=
  ⟨⟨siteBase 900 (fun x => {x with st := .running}), by decide +kernel⟩,
    ⟨siteBase 900 (fun x => {x with st := .armed}), by decide +kernel⟩,
    ⟨base 900, by decide +kernel⟩,
    ⟨{ base 900 with bifur := true }, by decide +kernel⟩,
    ⟨siteBase 900 (fun x => {x with st := .armed}), 0, 0, by decide +kernel⟩,
    ⟨siteBase 900 (fun x => {x with st := .armed}), by decide +kernel⟩,
    ⟨base 900, 3, by decide +kernel⟩,
    ⟨base 900, 5, by decide +kernel⟩,
    ⟨(base 900).modFn 0 (fun f => {f with msixOn := true, msixPend := [(7, true)]}), 0, 7, by decide +kernel⟩⟩

/-- Inputs that meet the hypotheses of Obligations.ScansStartConvertAndRecord, clause by clause. -/
theorem witness_ScansStartConvertAndRecord :
    (∃ s : State, ∃ fn k : Nat, s.accepts fn Ty.madc k 0x040 = true ∧ s.madcState k = 0 ∧ (s.madc k).spare < 8 ∧ (s.madc k).mon ≤ 9 ∧ (s.madc k).mask ≠ 0 ∧ s.laneMine (s.hdr Ty.madc k).owner k (s.madc k).spare = true ∧ (s.madc k).scan = none) ∧
    (∃ s : State, ∃ fn k : Nat, ∃ c : Scan, s.accepts fn Ty.madc k 0x040 = true ∧ s.madcState k = 0 ∧ (s.madc k).spare < 8 ∧ (s.madc k).mon ≤ 9 ∧ (s.madc k).mask ≠ 0 ∧ s.laneMine (s.hdr Ty.madc k).owner k (s.madc k).spare = true ∧ (s.madc k).scan = some c ∧ ttLt s.now (c.start + 4096) = false ∧ (s.madc k).pending = false) ∧
    (∃ s : State, ∃ fn k : Nat, ∃ c : Scan, s.accepts fn Ty.madc k 0x040 = true ∧ s.madcState k = 0 ∧ (s.madc k).spare < 8 ∧ (s.madc k).mon ≤ 9 ∧ (s.madc k).mask ≠ 0 ∧ s.laneMine (s.hdr Ty.madc k).owner k (s.madc k).spare = true ∧ (s.madc k).scan = some c ∧ ttLt s.now (c.start + 4096) = false ∧ (s.madc k).pending = true ∧ c.endsBy s.now = true ∧ (s.madc k).again = false) ∧
    (∃ s : State, ∃ fn k : Nat, ∃ c : Scan, s.accepts fn Ty.madc k 0x040 = true ∧ s.madcState k = 0 ∧ (s.madc k).spare < 8 ∧ (s.madc k).mon ≤ 9 ∧ (s.madc k).mask ≠ 0 ∧ s.laneMine (s.hdr Ty.madc k).owner k (s.madc k).spare = true ∧ (s.madc k).scan = some c ∧ ttLt s.now (c.start + 4096) = false ∧ (s.madc k).pending = true ∧ (c.endsBy s.now = false ∨ (s.madc k).again = true)) ∧
    (∃ s : State, ∃ k : Nat, k < nClu ∧ s.madcState k = 0 ∧ (s.madc k).mask ≠ 0 ∧ (s.madc k).scan = none ∧ (s.madc k).run = true ∧ (s.madc k).src = 2 ∧ s.root % (16000 * (s.madc k).period) = s.clk.phase) ∧
    (∃ s : State, ∃ fn k spare mon : Nat, s.accepts fn Ty.madc k 0x040 = true ∧ spare < 8 ∧ mon ≤ 9 ∧ s.laneMine (s.hdr Ty.madc k).owner k spare = true ∧ s.madcState k < 2) ∧
    (∃ s : State, ∃ fn k spare mon : Nat, s.accepts fn Ty.madc k 0x040 = true ∧ spare < 8 ∧ mon ≤ 9 ∧ s.laneMine (s.hdr Ty.madc k).owner k spare = true) ∧
    (∃ s : State, ∃ k n : Nat, ∃ c : Scan, ∃ rest : List Nat, ∃ raw : Int, k < nClu ∧ (s.madc k).scan = some c ∧ c.left = n :: rest ∧ rest ≠ [] ∧ ttLe (c.cstart + fsUs) s.now = true ∧ (n ≠ 31 ∨ (-625 ≤ raw ∧ raw ≤ 625))) ∧
    (∃ s : State, ∃ k n : Nat, ∃ c : Scan, ∃ rest : List Nat, k < nClu ∧ (s.madc k).scan = some c ∧ c.left = n :: rest ∧ rest ≠ [] ∧ ttLe (c.cstart + 2 * fsUs) s.now = true ∧ (s.fault (unitKey kMadc k)).retired = false ∧ s.permanent (unitKey kMadc k) false = false) ∧
    (∃ s : State, ∃ k tt w n seq : Nat, ∃ rest : List (Nat × Nat × Nat × Nat), k < nClu ∧ (s.madc k).recs = (tt, w, n, seq) :: rest ∧ (s.madc k).gap = none ∧ s.isSealed (s.hdr Ty.madc k).owner = false ∧ (s.queue (s.madc k).queue).room = 0 ∨ s.bpHeld (s.madc k).queue = true) ∧
    (∃ s : State, ∃ k tt w n seq : Nat, ∃ rest : List (Nat × Nat × Nat × Nat), k < nClu ∧ (s.madc k).recs = (tt, w, n, seq) :: rest ∧ (s.madc k).gap = none ∧ s.isSealed (s.hdr Ty.madc k).owner = false ∧ 0 < (s.queue (s.madc k).queue).room ∧ s.bpHeld (s.madc k).queue = false) :=
  ⟨⟨madc0 900 { mask := 5 }, 0, 0, by decide +kernel⟩,
    ⟨madc0 90000 { mask := 5, scan := some { start := 400, cstart := 400, left := [1] } }, 0, 0, { start := 400, cstart := 400, left := [1] }, by decide +kernel⟩,
    ⟨madc0 90000 { mask := 5, pending := true, run := true, scan := some { start := 400, cstart := 400, left := [1] } }, 0, 0, { start := 400, cstart := 400, left := [1] }, by decide +kernel⟩,
    ⟨madc0 90000 { mask := 5, pending := true, again := true, run := true, scan := some { start := 400, cstart := 400, left := [1] } }, 0, 0, { start := 400, cstart := 400, left := [1] }, by decide +kernel⟩,
    ⟨madc0 16000000 { mask := 5, run := true, src := 2 }, 0, by decide +kernel⟩,
    ⟨madc0 900 { mask := 5, src := 1 }, 0, 0, 3, 7, by decide +kernel⟩,
    ⟨madc0 900 { mask := 5, src := 1, run := true, scan := some { start := 400, cstart := 400, left := [1] } }, 0, 0, 3, 7, by decide +kernel⟩,
    ⟨madc0 90000 { mask := 5, scan := some { start := 400, cstart := 400, left := [1, 31] }, qValid := true }, 0, 1, { start := 400, cstart := 400, left := [1, 31] }, [31], 700, by decide +kernel⟩,
    ⟨madc0 90000 { mask := 5, scan := some { start := 400, cstart := 400, left := [1, 31] }, qValid := true }, 0, 1, { start := 400, cstart := 400, left := [1, 31] }, [31], by decide +kernel⟩,
    ⟨madc0 90000 { recs := [(300, 9, 1, 2), (400, 8, 2, 2)], qValid := true, queue := 5 }, 0, 300, 9, 1, 2, [(400, 8, 2, 2)], by decide +kernel⟩,
    ⟨{ madc0 90000 { recs := [(300, 9, 1, 2), (400, 8, 2, 2)], qValid := true, queue := 5 } with queues := [(5, { type := 2, enable := true, log2 := 4, base := 4096 })] }, 0, 300, 9, 1, 2, [(400, 8, 2, 2)], by decide +kernel⟩⟩

/-- Inputs that meet the hypotheses of Obligations.AcquisitionArmsTriggersAndDrains, clause by clause. -/
theorem witness_AcquisitionArmsTriggersAndDrains :
    (∃ s : State, ∃ fn k : Nat, s.accepts fn Ty.acq k 0x07C = true ∧ s.acqArmCheck k = 0) ∧
    (∃ s : State, ∃ fn k : Nat, s.accepts fn Ty.acq k 0x07C = true ∧ s.acqArmCheck k ≠ 0) ∧
    (∃ s : State, ∃ fn k : Nat, s.accepts fn Ty.acq k 0x07C = true ∧ (s.acq k).single = true ∧ (s.acq k).state = 2 ∨ (s.acq k).state = 3) ∧
    (∃ s : State, ∃ fn k : Nat, s.accepts fn Ty.acq k 0x07C = true ∧ (s.acq k).single = false ∧ 2 ≤ (s.acq k).state) ∧
    (∃ s : State, ∃ fn k : Nat, s.accepts fn Ty.acq k 0x07C = true ∧ (s.acq k).state = 3 ∧ (s.acq k).single = true ∧ s.now < 2 ^ 64 ∧ (∀ p, (s.acq k).nextDecl (s.now / 4096 * 4096 + 4095) = some p → ttReached (s.now / 4096 * 4096 + 4095) p.2 = false)) ∧
    (∃ s : State, ∃ fn k : Nat, s.accepts fn Ty.acq k 0x07C = true ∧ (s.acq k).state < 2) ∧
    (∃ s : State, ∃ k : Nat, k < nClu ∧ (s.acq k).state = 2 ∧ ttLe ((s.acq k).armT + 128 * fsNs) s.now = true) ∧
    (∃ s : State, ∃ k : Nat, ∃ T : Int, ∃ i : Bool, ∃ d : Int, k < nClu ∧ 2 ≤ (s.acq k).state ∧ (s.acq k).ty = 0 ∧ (s.acq k).cands[(s.acq k).declared]? = some (T, i, some d) ∧ ttReached s.now d = true ∧ (4 ≤ (s.acq k).state ∨ (((s.acq k).armT : Int) ≤ T ∧ T < ((s.acq k).armT + 128 * fsNs : Nat)))) ∧
    (∃ s : State, ∃ k : Nat, ∃ T : Int, ∃ i : Bool, ∃ d : Int, k < nClu ∧ (s.acq k).state = 3 ∧ (s.acq k).ty = 0 ∧ (s.acq k).single = true ∧ (s.acq k).cands[(s.acq k).declared]? = some (T, i, some d) ∧ ttReached s.now d = true ∧ (T < ((s.acq k).armT : Int) ∨ ((s.acq k).armT + 128 * fsNs : Nat) ≤ T)) ∧
    (∃ s : State, ∃ fn k : Nat, s.accepts fn Ty.acq k 0x040 = true ∧ (s.acq k).run = false ∧ (s.acq k).state = 0 ∧ (s.acq k).single = false ∧ s.inMode [.ready, .run] = true ∧ (s.hdr Ty.acq k).en = true ∧ (s.acq k).qValid = true) ∧
    (∃ s : State, ∃ fn k : Nat, s.accepts fn Ty.acq k 0x040 = true ∧ (s.acq k).run = true ∧ (s.acq k).single = false) ∧
    (∃ s : State, ∃ k due : Nat, ∃ r : AcqRec, ∃ rest : List (Nat × AcqRec), k < nClu ∧ (s.acq k).fly = (due, r) :: rest ∧ ttLe (due / 4096 * 4096 + 4096) s.now = true ∧ (s.acq k).single = false ∧ (s.acq k).state = 1 ∧ ttLe (s.acq k).runT r.tt = true ∧ (s.acq k).stopT = none ∧ (s.acq k).buf.length < 32766 ∧ (s.acq k).gap = none ∧ r.kind = 1) ∧
    (∃ s : State, ∃ k : Nat, ∃ r : AcqRec, ∃ rest : List AcqRec, k < nClu ∧ (s.acq k).single = false ∧ 1 ≤ (s.acq k).state ∧ (s.acq k).buf = r :: rest ∧ s.isSealed (s.hdr Ty.acq k).owner = false ∧ (s.acq k).gap = none ∧ 0 < (s.queue (s.acq k).queue).room ∧ s.acqHeld (s.acq k).queue = false) ∧
    (∃ s : State, ∃ k : Nat, ∃ r : AcqRec, ∃ rest : List AcqRec, k < nClu ∧ (s.acq k).single = false ∧ 1 ≤ (s.acq k).state ∧ (s.acq k).buf = r :: rest ∧ s.isSealed (s.hdr Ty.acq k).owner = false ∧ (s.acq k).gap = none ∧ (s.queue (s.acq k).queue).room = 0) ∧
    (∃ s : State, ∃ k : Nat, ∃ g : Gap, k < nClu ∧ (s.acq k).single = false ∧ 1 ≤ (s.acq k).state ∧ (s.acq k).gap = some g ∧ (s.acq k).buf.length < 32766 ∧ (s.queue (s.acq k).queue).room = 0 ∧ s.isSealed (s.hdr Ty.acq k).owner = false) ∧
    (∃ s : State, ∃ k : Nat, k < nClu ∧ (s.acq k).single = true ∧ (s.acq k).state = 5 ∧ (s.acq k).buf = [] ∧ (s.acq k).gap = none) ∧
    (∃ s : State, ∃ k T : Nat, k < nClu ∧ (s.acq k).single = false ∧ (s.acq k).stopT = some T ∧ (s.acq k).buf = [] ∧ (s.acq k).gap = none ∧ (s.acq k).fly = [] ∧ s.sampleAhead k T = false) :=
  ⟨⟨acq0 900 { run := true, state := 1, qValid := true, queue := 5, ty := 5 }, 0, 0, by decide +kernel⟩,
    ⟨acq0 900 { run := true, state := 1, qValid := false, queue := 5, ty := 5 }, 0, 0, by decide +kernel⟩,
    ⟨acq0 900 { single := true, state := 3, qValid := true, queue := 5, ty := 5, post := 3, buf := [{ kind := 1 }] }, 0, 0, by decide +kernel⟩,
    ⟨acq0 900 { run := true, state := 2, qValid := true, queue := 5, ty := 5 }, 0, 0, by decide +kernel⟩,
    ⟨acq0 900 { single := true, state := 3, qValid := true, queue := 5, ty := 5, post := 3, buf := [{ kind := 1 }] }, 0, 0, by decide +kernel⟩,
    ⟨acq0 900 { run := true, state := 1 }, 0, 0, by decide +kernel⟩,
    ⟨acq0 90000 { run := true, state := 2, armT := 7 }, 0, by decide +kernel⟩,
    ⟨acq0 90000 { run := true, state := 3, armT := 7, cross := [{ t := 100, hi := true, rising := true, avail := 200 }] }, 0, 100, false, 200, by decide +kernel⟩,
    ⟨acq0 90000 { single := true, state := 3, armT := 7, cross := [{ t := 700000, hi := true, rising := true, avail := 900000 }] }, 0, 700000, false, 900000, by decide +kernel⟩,
    ⟨acq0 90000 { qValid := true, queue := 5 }, 0, 0, by decide +kernel⟩,
    ⟨acq0 90000 { qValid := true, queue := 5, run := true, state := 3 }, 0, 0, by decide +kernel⟩,
    ⟨acq0 90000 { run := true, state := 1, fly := [(700, { tt := 300, kind := 1 }), (800, {})] }, 0, 700, { tt := 300, kind := 1 }, [(800, {})], by decide +kernel⟩,
    ⟨acq0 90000 { run := true, state := 1, queue := 5, buf := [{ tt := 300, kind := 1 }, {}] }, 0, { tt := 300, kind := 1 }, [{}], by decide +kernel⟩,
    ⟨acq0 90000 { run := true, state := 1, queue := 6, buf := [{ tt := 300, kind := 1 }, {}] }, 0, { tt := 300, kind := 1 }, [{}], by decide +kernel⟩,
    ⟨acq0 90000 { run := true, state := 1, queue := 6, gap := some { n := 3 } }, 0, { n := 3 }, by decide +kernel⟩,
    ⟨acq0 90000 { single := true, state := 5 }, 0, by decide +kernel⟩,
    ⟨acq0 90000 { run := true, state := 1, stopT := some 800 }, 0, 800, by decide +kernel⟩⟩

/-- Inputs that meet the hypotheses of Obligations.UnitsRetireAndRegionsProtect, clause by clause. -/
theorem witness_UnitsRetireAndRegionsProtect :
    (∃ s : State, ∃ ch : Nat, ch < nChan ∧ s.stage = .on ∧ s.pwr.analogOff = false ∧ (s.fault (unitKey kChannel ch)).retired = false ∧ (s.chan ch).readAt * 256 + 100 * fsUs ≤ s.up ∧ s.permanent (unitKey kChannel ch) false = false) ∧
    (∃ s : State, ∃ ch : Nat, ch < nChan ∧ s.stage = .on ∧ s.pwr.analogOff = false ∧ (s.fault (unitKey kChannel ch)).retired = false ∧ (s.chan ch).readAt * 256 + 100 * fsUs ≤ s.up) ∧
    (∃ s : State, ∃ ch : Nat, ch < nChan ∧ s.stage = .on ∧ s.pwr.analogOff = false ∧ (s.chan ch).readAt * 256 + 100 * fsUs ≤ s.up) ∧
    (∃ s : State, ∃ l : List Nat, ∃ n : Nat, s.stage = .on ∧ s.glb.fwOk = true ∧ s.glb.retireLoaded = false ∧ s.nor.retSlots.newest = some (n, l)) ∧
    (∃ s : State, ∃ k n : Nat, k < nClu ∧ (s.clu k).spareWait = some n ∧ n < 8 ∧ s.siteIdle (s.chOwner (8 * k + n)) = true ∧ (s.hdr Ty.pe (8 * k + n)).retired = false) ∧
    (∃ s : State, ∃ fn i : Nat, s.accepts fn Ty.err 0 0x040 = true ∧ i < 96 ∧ s.err.queue < 2 ^ 20 ∧ (s.err.valid = true → s.qOwner s.err.queue = 16 ∧ (s.queue s.err.queue).type = 4) ∧ s.glb.mode = .service ∧ s.glb.busy = false ∧ (s.fault (unitKey kEngine i)).retired = true) ∧
    (∃ s : State, ∃ fn i : Nat, s.accepts fn Ty.err 0 0x040 = true ∧ i < 96 ∧ s.err.queue < 2 ^ 20 ∧ (s.err.valid = true → s.qOwner s.err.queue = 16 ∧ (s.queue s.err.queue).type = 4) ∧ s.glb.mode ≠ .service) ∧
    (∃ s : State, ∃ r : Nat, ∃ l : List Int, r < 4 ∧ s.stage = .on ∧ l.length = 7 ∧ (∀ a, (s.rgn r).sampledAt = some a → a + fsMs ≤ s.up)) ∧
    (∃ s : State, ∃ fn r : Nat, s.accepts fn Ty.rgn r 0x048 = true ∧ (s.rgn r).shutdown = true ∧ (s.rgn r).cool = true) ∧
    (∃ s : State, ∃ fn r : Nat, s.accepts fn Ty.rgn r 0x048 = true ∧ (s.rgn r).shutdown = true ∧ (s.rgn r).cool = false) :=
  ⟨⟨base 9000000, 0, by decide +kernel⟩,
    ⟨base 9000000, 0, by decide +kernel⟩,
    ⟨base 9000000, 0, by decide +kernel⟩,
    ⟨let s := base 900; { s with glb := { s.glb with retireLoaded := false }, nor := { s.nor with ret := { a := some (RecSlot.made magicRetire 6 Config.retirePayload 4 [256, 517, 770, 1025, 1281]) } } }, [256, 517, 770, 1025, 1281], 4, by decide +kernel, by decide +kernel, ⟨by decide +kernel, RecSlots.view_made _ _ _ _ _⟩⟩,
    ⟨{ base 900 with clus := [(0, { spareWait := some 2 })] }, 0, 2, by decide +kernel⟩,
    ⟨let s := base 900; { s with glb := { s.glb with mode := .service }, faults := [(259, { retired := true })] }, 0, 3, by decide +kernel⟩,
    ⟨let s := base 900; { s with faults := [(259, { retired := true })] }, 0, 3, by decide +kernel⟩,
    ⟨base 90000000, 1, [1, 2, 3, 120000, 4, 5, 6], by decide +kernel⟩,
    ⟨{ base 900 with rgns := [(1, { shutdown := true, cool := true })] }, 0, 1, by decide +kernel⟩,
    ⟨{ base 900 with rgns := [(1, { shutdown := true })] }, 0, 1, by decide +kernel⟩⟩

/-- Inputs that meet the hypotheses of Obligations.PowerUpRunsStepByStep, clause by clause. -/
theorem witness_PowerUpRunsStepByStep :
    (∃ s : State, ∃ vin : Nat, s.stage = .off ∧ (34000 ≤ vin ∨ (32000 ≤ vin ∧ s.pwr.uvlo = false))) ∧
    (∃ s : State, ∃ vin : Nat, s.stage = .off ∧ (vin < 32000 ∨ (vin < 34000 ∧ s.pwr.uvlo = true))) ∧
    (∃ s : State, ∃ _bifur : Bool, ∃ _addr : Nat, s.stage = .starting) ∧
    (∃ s : State, s.stage = .on ∧ s.everLocked = false) ∧
    (∃ s : State, s.stage = .on ∧ s.everLocked = false ∧ s.glb.goodAt + 2 * fsMs ≤ s.up ∧ s.glb.mode = .safe ∧ s.glb.target = .ready ∧ s.glb.cause.testBit 0 = true ∧ s.glb.busy = true) ∧
    (∃ s : State, s.stage = .on ∧ s.glb.bmemClear = false) ∧
    (∃ s : State, s.stage = .on ∧ s.glb.bmemClear = false ∧ s.glb.mode = .safe) ∧
    (∃ s : State, s.stage = .on ∧ s.glb.hbmClear = false) ∧
    (∃ s : State, ∃ n : Nat, ∃ i : FwImage, ∃ va _vb : FwVerdict, s.stage = .on ∧ s.glb.fwOk = false ∧ s.nor.fw.a = some (n, i) ∧ s.nor.fw.b = none ∧ s.fwCheck i.bytes va = 0) ∧
    (∃ s : State, ∃ n : Nat, ∃ i : FwImage, ∃ va _vb : FwVerdict, s.stage = .on ∧ s.glb.fwOk = false ∧ s.nor.fw.a = some (n, i) ∧ s.nor.fw.b = none ∧ s.fwCheck i.bytes va ≠ 0 ∧ s.glb.mode = .safe) :=
  ⟨⟨State.reset, 40000, by decide +kernel⟩,
    ⟨State.reset, 30000, by decide +kernel⟩,
    ⟨{ State.reset with stage := .starting }, true, 3, by decide +kernel⟩,
    ⟨{ State.reset with stage := .on }, by decide +kernel⟩,
    ⟨let s := base 900000000; { s with everLocked := false, glb := { s.glb with mode := .safe, target := .ready, cause := 1, busy := true, seq := true } }, by decide +kernel⟩,
    ⟨let s := base 900; { s with glb := { s.glb with bmemClear := false } }, by decide +kernel⟩,
    ⟨let s := base 900; { s with glb := { s.glb with bmemClear := false, mode := .safe } }, by decide +kernel⟩,
    ⟨let s := base 900; { s with glb := { s.glb with hbmClear := false, mode := .safe } }, by decide +kernel⟩,
    ⟨let s := base 900; { s with glb := { s.glb with fwOk := false }, nor := { s.nor with fw := { a := some (3, { version := 5, bytes := fwB 0 }) } } }, 3, { version := 5, bytes := fwB 0 }, fwV true, fwV true, by decide +kernel⟩,
    ⟨let s := base 900; { s with glb := { s.glb with fwOk := false, mode := .safe }, nor := { s.nor with fw := { a := some (3, { version := 5, bytes := fwB 0 }) } } }, 3, { version := 5, bytes := fwB 0 }, fwV false, fwV true, by decide +kernel⟩⟩

/-- Inputs that meet the hypotheses of Obligations.PowerEventsEnterSafeOrOff, clause by clause. -/
theorem witness_PowerEventsEnterSafeOrOff :
    (∃ s : State, ∃ vin : Nat, s.stage = .on ∧ s.glb.mode = .ready ∧ s.glb.busy = false ∧ vin < 33000 ∧ s.glb.pwrWarn = false) ∧
    (∃ s : State, ∃ vin : Nat, s.stage = .on ∧ s.glb.mode = .ready ∧ s.glb.busy = false ∧ 77000 ≤ vin ∧ s.pwr.ov = false) ∧
    (∃ s : State, s.stage = .on ∧ s.glb.mode = .ready ∧ s.glb.busy = false) ∧
    (∃ s : State, s.stage = .on ∧ s.glb.mode = .ready ∧ s.glb.busy = false ∧ s.pwr.ot = false) ∧
    (∃ s : State, s.stage = .on ∧ s.glb.mode = .ready ∧ s.glb.busy = false ∧ s.pwr.en = true ∧ s.pwr.stopDue = false) ∧
    (∃ s : State, s.pwr.shedDue = true ∧ s.stage = .on) ∧
    (∃ s : State, ∃ vin : Nat, s.glb.pwrWarn = true ∧ 34000 ≤ vin) ∧
    (∃ s : State, ∃ vin : Nat, s.pwr.ov = true ∧ vin < 76000) ∧
    (∃ s : State, ∃ vin : Nat, vin < 32000 ∧ s.stage ≠ .off) ∧
    (∃ s : State, s.stage = .on ∧ s.pwr.stopDue = true ∧ (s.nor.writing = none ∨ s.pwr.stopAt + 2 * fsMs ≤ s.up)) :=
  ⟨⟨base 900, 32500, by decide +kernel⟩,
    ⟨base 900, 78000, by decide +kernel⟩,
    ⟨base 900, by decide +kernel⟩,
    ⟨base 900, by decide +kernel⟩,
    ⟨let s := base 900; { s with pwr := { s.pwr with en := true } }, by decide +kernel⟩,
    ⟨let s := base 900; { s with pwr := { s.pwr with shedDue := true } }, by decide +kernel⟩,
    ⟨let s := base 900; { s with glb := { s.glb with pwrWarn := true } }, 35000, by decide +kernel⟩,
    ⟨let s := base 900; { s with pwr := { s.pwr with ov := true } }, 75000, by decide +kernel⟩,
    ⟨base 900, 31000, by decide +kernel⟩,
    ⟨let s := base 900; { s with pwr := { s.pwr with stopDue := true, en := true, uvlo := false, vin := 48000 } }, by decide +kernel⟩⟩

/-- Inputs that meet the hypotheses of Obligations.PmbusAnswersItsCommands, clause by clause. -/
theorem witness_PmbusAnswersItsCommands :
    (∃ s : State, ∃ p : Nat, s.stage = .on ∧ s.jtag.hold = none ∧ s.jtag.released = false ∧ s.smb.page < 8 ∧ p < 8) ∧
    (∃ s : State, ∃ p : Nat, s.stage = .on ∧ s.jtag.hold = none ∧ s.jtag.released = false ∧ s.smb.page < 8 ∧ 8 ≤ p) ∧
    (∃ s : State, s.stage = .on ∧ s.jtag.hold = none ∧ s.jtag.released = false ∧ s.smb.page < 8) ∧
    (∃ s : State, s.stage = .on ∧ s.jtag.hold = none ∧ s.jtag.released = false ∧ s.smb.page < 8) ∧
    (∃ s : State, s.stage = .on ∧ s.jtag.hold = none ∧ s.jtag.released = false ∧ s.smb.page < 8) ∧
    (∃ s : State, s.stage = .on ∧ s.jtag.hold = none ∧ s.jtag.released = false ∧ s.smb.page < 8) ∧
    (∃ s : State, s.stage = .on ∧ s.jtag.hold = none ∧ s.jtag.released = false ∧ s.smb.page < 8) ∧
    (∃ s : State, s.stage = .on ∧ s.jtag.hold = none ∧ s.jtag.released = false ∧ s.smb.page < 8) ∧
    (∃ s : State, s.stage = .on ∧ s.jtag.hold = none ∧ s.jtag.released = false ∧ s.smb.page < 8) ∧
    (∃ s : State, s.stage = .on ∧ s.jtag.hold = none ∧ s.jtag.released = false ∧ s.smb.page < 8) ∧
    (∃ s : State, s.stage = .on ∧ s.jtag.hold = none ∧ s.jtag.released = false ∧ s.smb.page < 8) ∧
    (∃ s : State, s.stage = .on ∧ s.jtag.hold = none ∧ s.jtag.released = false ∧ s.smb.page < 8) ∧
    (∃ s : State, s.stage = .on ∧ s.jtag.hold = none ∧ s.jtag.released = false ∧ s.smb.page < 8 ∧ s.smb.page = 0) ∧
    (∃ s : State, s.stage = .on ∧ s.jtag.hold = none ∧ s.jtag.released = false ∧ s.smb.page < 8 ∧ s.smb.page ≠ 0) ∧
    (∃ s : State, s.stage = .on ∧ s.jtag.hold = none ∧ s.jtag.released = false ∧ s.smb.page < 8 ∧ s.smb.page = 0) ∧
    (∃ s : State, ∃ b : Nat, s.stage = .on ∧ s.jtag.hold = none ∧ s.jtag.released = false ∧ s.smb.page < 8 ∧ b < 8) ∧
    (∃ s : State, ∃ k : Nat, s.stage = .on ∧ s.jtag.hold = none ∧ s.jtag.released = false ∧ s.smb.page < 8 ∧ k < 3) ∧
    (∃ s : State, s.stage = .on ∧ s.jtag.hold = none ∧ s.jtag.released = false ∧ s.smb.page < 8) ∧
    (∃ s : State, s.stage = .on ∧ s.jtag.hold = none ∧ s.jtag.released = false ∧ s.smb.page < 8 ∧ s.smbAlert = true) ∧
    (∃ s : State, ∃ _mv _ma _mw : Nat, ∃ _groups : List Nat, ∃ _temps : List Int, ∃ _ppm : Int, s.stage = .on) :=
  ⟨⟨base 900, 3, by decide +kernel⟩,
    ⟨base 900, 9, by decide +kernel⟩,
    ⟨base 900, by decide +kernel⟩,
    ⟨base 900, by decide +kernel⟩,
    ⟨base 900, by decide +kernel⟩,
    ⟨base 900, by decide +kernel⟩,
    ⟨base 900, by decide +kernel⟩,
    ⟨base 900, by decide +kernel⟩,
    ⟨base 900, by decide +kernel⟩,
    ⟨base 900, by decide +kernel⟩,
    ⟨base 900, by decide +kernel⟩,
    ⟨base 900, by decide +kernel⟩,
    ⟨base 900, by decide +kernel⟩,
    ⟨let s := base 900; { s with smb := { s.smb with page := 2 } }, by decide +kernel⟩,
    ⟨base 900, by decide +kernel⟩,
    ⟨base 900, 3, by decide +kernel⟩,
    ⟨base 900, 2, by decide +kernel⟩,
    ⟨let s := base 900; { s with smb := { s.smb with stInput := 32, stCml := 7 } }, by decide +kernel⟩,
    ⟨let s := base 900; { s with smb := { s.smb with stInput := 32, stCml := 7 } }, by decide +kernel⟩,
    ⟨base 900, 48000, 1000, 48000, [1,2,3,4,5,6,7], [100,200,300,400,500,600,700,800], 77, by decide +kernel⟩⟩

/-- Inputs that meet the hypotheses of Obligations.ClockAndLinkFaultsEnterSafe, clause by clause. -/
theorem witness_ClockAndLinkFaultsEnterSafe :
    (∃ s : State, s.stage = .on ∧ s.glb.mode = .ready ∧ s.glb.busy = false ∧ s.everLocked = true ∧ s.clk.refLost = false) ∧
    (∃ s : State, s.stage = .on ∧ s.glb.mode = .ready ∧ s.glb.busy = false ∧ s.clk.locked = true ∧ s.clk.refclkOk = true) ∧
    (∃ s : State, ∃ d : Nat, s.stage = .on ∧ s.glb.mode = .ready ∧ s.glb.busy = false ∧ d < 8) ∧
    (∃ s : State, s.stage = .on ∧ s.everLocked = true ∧ s.clk.locked = false ∧ s.clk.refclkOk = true) ∧
    (∃ s : State, s.clk.refLost = true) ∧
    (∃ _s : State, ∃ d : Nat, d < 8) :=
  ⟨⟨base 900, by decide +kernel⟩,
    ⟨base 900, by decide +kernel⟩,
    ⟨base 900, 3, by decide +kernel⟩,
    ⟨let s := base 900; { s with clk := { s.clk with locked := false, holdover := true } }, by decide +kernel⟩,
    ⟨let s := base 900; { s with clk := { s.clk with locked := false, holdover := true, refLost := true } }, by decide +kernel⟩,
    ⟨base 900, 3, by decide +kernel⟩⟩

/-- Inputs that meet the hypotheses of Obligations.CalibrationRunsPlanesAndRecords, clause by clause. -/
theorem witness_CalibrationRunsPlanesAndRecords :
    (∃ s : State, ∃ r : Nat, r < 4 ∧ (s.cal r).auto = true ∧ (s.cal r).state = 0 ∧ (∀ a, (s.cal r).evalAt = some a → a + 10 * fsMs ≤ s.up) ∧ ((s.cal r).deltaT : Int) * 1024 ≤ (s.rgnTemp r - (s.cal r).tempRef) * 1000 ∧ s.calAllowed r = true) ∧
    (∃ s : State, ∃ r : Nat, r < 4 ∧ (s.cal r).auto = true ∧ (s.cal r).state = 0 ∧ (∀ a, (s.cal r).evalAt = some a → a + 10 * fsMs ≤ s.up) ∧ s.nor.owed.contains r = false ∧ -((s.cal r).deltaT : Int) * 1024 < (s.rgnTemp r - (s.cal r).tempRef) * 1000 ∧ (s.rgnTemp r - (s.cal r).tempRef) * 1000 < ((s.cal r).deltaT : Int) * 1024) ∧
    (∃ s : State, ∃ fn r : Nat, s.accepts fn Ty.cal r 0x040 = true ∧ r < 4 ∧ (s.cal r).state = 0 ∨ (s.cal r).state = 5 ∧ s.calAllowed r = true) ∧
    (∃ s : State, ∃ fn r : Nat, s.accepts fn Ty.cal r 0x040 = true ∧ r < 4 ∧ 1 ≤ (s.cal r).state ∧ (s.cal r).state ≤ 4) ∧
    (∃ s : State, ∃ r : Nat, ∃ vref _vbg : Int, ∃ _spine : List Int, r < 4 ∧ (s.cal r).state = 2 ∧ (s.cal 4).state = 0 ∧ (s.cal r).stepAt + rootUs 200 ≤ s.uptime ∧ s.glb.mode ≠ .cal ∧ vref < 1000000) ∧
    (∃ s : State, ∃ r : Nat, ∃ vref vbg : Int, ∃ spine : List Int, r < 4 ∧ (s.cal r).state = 2 ∧ (s.cal 4).state = 0 ∧ (s.cal r).stepAt + rootUs 200 ≤ s.uptime ∧ s.glb.mode ≠ .cal ∧ 1000000 ≤ vref ∧ withinI ((vref - vbg) * 200) vbg = true ∧ s.clk.holdover = false ∧ s.sync.slewing = false ∧ s.slewMet (s.cal r).stepAt = false ∧ (s.cal r).stepAt + rootUs 600 ≤ s.uptime ∧ (∀ ch, ch < nChan → ch / 48 = r → ∀ k, k = ch / 8 → ∀ c, c = (s.chan ch).cal → ∀ f, f = Tbl.get {} s.nor.factory.chans (8 * k) → termOk 400 (spine.getD (3 * (k % 6)) 0) c.spDrive f.spDrive (s.rgnTemp r - c.spAt) = true ∧ termOk 400 (spine.getD (3 * (k % 6) + 1) 0) c.spEnable f.spEnable (s.rgnTemp r - c.spAt) = true ∧ termOk 400 (spine.getD (3 * (k % 6) + 2) 0) c.spCompare f.spCompare (s.rgnTemp r - c.spAt) = true)) ∧
    (∃ s : State, ∃ k l : Nat, k < nClu ∧ l < 8 ∧ s.calAllowed (rgnOfClu k) = true ∧ (∀ j, j < nClu → j / 6 = k / 6 → (s.clu j).step = false) ∧ (∀ j, j < k → j / 6 = k / 6 → s.stepLanes j = []) ∧ (s.cal (rgnOfClu k)).common = true ∧ (s.cal (rgnOfClu k)).state = 3 ∧ (s.cal (rgnOfClu k)).todo.testBit (8 * (k % 6) + l) = true ∧ s.laneAvail (8 * k + l) = true) ∧
    (∃ s : State, ∃ k l : Nat, ∃ _lanes : List (List Int), ∃ _madc : List Int, k < nClu ∧ l < 8 ∧ (s.clu k).step = true ∧ s.sync.slewing = false ∧ s.clk.holdover = false ∧ s.slewMet (s.clu k).stepAt = false ∧ (s.clu k).stepAt + s.stepLen k ≤ s.uptime ∧ (s.clu k).isolated = 2 ^ l ∧ (s.hdr Ty.pe (8 * k + l)).retired = false) ∧
    (∃ s : State, ∃ r : Nat, r < 4 ∧ (s.cal r).state = 5 ∧ (s.cal r).holdEnd ≤ s.up) ∧
    (∃ s : State, ∃ k : Nat, ∃ _v : List (Int × Int × Int), k < nClu ∧ (s.cal 4).state = 7 ∧ (s.cal 4).todo.testBit k = true ∧ (∀ j, j < k → j / 6 = k / 6 → (s.cal 4).todo.testBit j = false) ∧ (s.cal (k / 6)).stepAt + rootUs 5000 ≤ s.uptime) ∧
    (∃ s : State, ∃ ch : Nat, ∃ sum spread : Int, ch < nChan ∧ (s.cal 4).state = 8 ∧ s.planeChans.contains ch = true ∧ (∀ j, j < ch → j / 48 = ch / 48 → s.planeChans.contains j = true → (s.cal 4).settled j = true) ∧ (s.cal (ch / 48)).stepAt + rootUs 2500 ≤ s.uptime ∧ Tbl.get 0 (s.cal 4).refused ch = 0 ∧ Tbl.get none (s.cal 4).planes ch = none ∧ spread ≤ 64 ∧ 0 ≤ roundDiv sum 512 ∧ roundDiv sum 512 ≤ 20480) ∧
    (∃ s : State, (s.cal 4).state = 9 ∧ s.glb.mode = .cal ∧ s.glb.busy = false ∧ s.nor.todo = [] ∧ s.nor.writing = none ∧ (s.cal 4).failed = false ∧ (s.cal 4).spoiled = false) ∧
    (∃ s : State, ∃ ch : Nat, ∃ k : CalTerms, ch < nChan ∧ (s.chan ch).calNext = some k ∧ (s.chan ch).calSlew = true ∧ (s.chan ch).calNextAt + fsUs ≤ s.up) ∧
    (∃ s : State, ∃ ch : Nat, ch < nChan ∧ (s.site (s.lclkOf ch)).lclkLast = some s.root ∧ (s.chan ch).rawAt ≠ some s.root) ∧
    (∃ s : State, ∃ ch : Nat, ∃ k : CalTerms, ch < nChan ∧ (s.chan ch).frRun = true ∧ (s.chan ch).calNext = some k ∧ (s.chan ch).calSlew = false ∧ (s.chan ch).calStale = false ∧ (s.chan ch).calNextAt + 600 * fsSec ≤ s.up) ∧
    (∃ s : State, s.stage = .on ∧ s.glb.fwOk = true ∧ s.glb.calLoaded = false) :=
  ⟨⟨{ base 900 with cals := [(1, { auto := true, deltaT := 500, tempRef := -3000 })] }, 1, by decide +kernel⟩,
    ⟨{ base 900 with cals := [(1, { auto := true, deltaT := 500, tempRef := 10 })] }, 1, by decide +kernel⟩,
    ⟨{ base 900 with cals := [(1, { state := 5 })] }, 0, 1, by decide +kernel⟩,
    ⟨{ base 900 with cals := [(1, { state := 3 })], clus := [(6, { step := true, isolated := 3 })] }, 0, 1, by decide +kernel⟩,
    ⟨{ base 9000000 with cals := [(1, { state := 2 })] }, 1, 1, 2, [], by decide +kernel⟩,
    ⟨{ base 20000000 with cals := [(1, { state := 2 })] }, 1, 2500000, 2500000, [1,2,3,4,5,6,7,8,9,10,11,12,13,14,15,16,17,18], ⟨by decide +kernel, by decide +kernel, by decide +kernel, by decide +kernel, by decide +kernel, ⟨by decide +kernel, by decide +kernel, by decide +kernel, by decide +kernel, by decide +kernel, ⟨by decide +kernel, by intro ch hn hr k hk c hc f hf; subst hc hf hk; revert ch; decide +kernel⟩⟩⟩⟩,
    ⟨{ base 900 with cals := [(0, { state := 3, common := true, todo := 3 })] }, 0, 1, by decide +kernel⟩,
    ⟨{ base 200000000 with cals := [(0, { state := 3, common := true, todo := 3 })], clus := [(0, { step := true, isolated := 2 })] }, 0, 1, [[], [1,2,3,4,5]], [1,2,3], by decide +kernel⟩,
    ⟨{ base 200000000 with cals := [(0, { state := 5, holdEnd := 7 })] }, 0, by decide +kernel⟩,
    ⟨let s := base 200000000; { s with glb := { s.glb with mode := .cal }, cals := [(4, { state := 7, todo := 3 })] }, 0, [(1,2,3),(60000,1,2)], by decide +kernel⟩,
    ⟨let s := base 200000000; { s with glb := { s.glb with mode := .cal }, cals := [(4, { state := 8 })] }, 0, 5120, 3, by decide +kernel⟩,
    ⟨let s := base 200000000; { s with glb := { s.glb with mode := .cal }, cals := [(4, { state := 9 })] }, by decide +kernel⟩,
    ⟨{ base 200000000 with chans := [(0, { calNext := some { tau := 3 }, calSlew := true })] }, 0, { tau := 3 }, by decide +kernel⟩,
    ⟨{ base 200000000 with chans := [(0, { rawLag := [(0, 3)] })], sites := [(0, { lclkLast := some 200000000 })], hdrs := [(4352, { owner := 0 })] }, 0, by decide +kernel⟩,
    ⟨{ base 9700000000000 with chans := [(0, { frRun := true, calNext := some { tau := 3 } })] }, 0, { tau := 3 }, by decide +kernel⟩,
    ⟨let s := base 900; { s with glb := { s.glb with calLoaded := false } }, by decide +kernel⟩⟩

/-- Inputs that meet the hypotheses of Obligations.FrameSlotsLockAndCommand, clause by clause. -/
theorem witness_FrameSlotsLockAndCommand :
    (∃ s : State, ∃ w : Nat, w < 2 ^ 64 ∧ s.stage = .on ∧ s.sync.lock = false ∧ s.sync.rxEn = true ∧ preambleOk w = true ∧ crcOk w = true ∧ s.sync.good ≠ 0) ∧
    (∃ s : State, ∃ w : Nat, w < 2 ^ 64 ∧ s.stage = .on ∧ s.sync.lock = false ∧ s.sync.rxEn = true ∧ preambleOk w = true ∧ crcOk w = true ∧ s.sync.good = 0) ∧
    (∃ s : State, ∃ w : Nat, w < 2 ^ 64 ∧ s.stage = .on ∧ s.sync.lock = false ∧ crcOk w = false) ∧
    (∃ s : State, ∃ w : Nat, w < 2 ^ 64 ∧ s.stage = .on ∧ s.sync.lock = true ∧ s.sync.bad < 4 ∧ s.sync.rxEn = true ∧ (preambleOk w = false ∨ crcOk w = false)) ∧
    (∃ s : State, s.sync.lock = true ∧ 4 ≤ s.sync.bad) ∧
    (∃ s : State, ∃ w : Nat, w < 2 ^ 64 ∧ s.stage = .on ∧ s.sync.lock = false ∧ s.sync.rxEn = false ∧ s.sync.echoEn = true ∧ preambleOk w = true ∧ crcOk w = false) ∧
    (∃ s : State, s.stage = .on ∧ s.sync.lock = true ∧ s.sync.bad < 4 ∧ s.sync.rxEn = true ∧ s.sync.echoEn = false) ∧
    (∃ s : State, s.stage = .on ∧ s.sync.lock = true ∧ s.sync.bad < 4 ∧ s.sync.rxEn = true ∧ s.sync.echoEn = false) ∧
    (∃ s : State, ∃ t40 : Nat, s.stage = .on ∧ s.sync.lock = true ∧ s.sync.bad < 4 ∧ s.sync.rxEn = true ∧ s.sync.echoEn = false ∧ t40 < 2 ^ 40) ∧
    (∃ s : State, ∃ t24 : Nat, s.stage = .on ∧ s.sync.lock = true ∧ s.sync.bad < 4 ∧ s.sync.rxEn = true ∧ s.sync.echoEn = false ∧ t24 < 2 ^ 24 ∧ s.loadReason = 0) ∧
    (∃ s : State, ∃ t24 : Nat, s.stage = .on ∧ s.sync.lock = true ∧ s.sync.bad < 4 ∧ s.sync.rxEn = true ∧ s.sync.echoEn = false ∧ t24 < 2 ^ 24 ∧ s.loadReason ≠ 0) ∧
    (∃ s : State, ∃ g : Nat, s.stage = .on ∧ s.sync.lock = true ∧ s.sync.bad < 4 ∧ s.sync.rxEn = true ∧ s.sync.echoEn = false ∧ g < 16 ∧ s.sync.startEn = true) ∧
    (∃ s : State, ∃ g i T : Nat, s.stage = .on ∧ s.sync.lock = true ∧ s.sync.bad < 4 ∧ s.sync.rxEn = true ∧ s.sync.echoEn = false ∧ g < 15 ∧ i < 16 ∧ s.sync.startEn = true ∧ (s.site i).group = g ∧ (∀ j, j < 16 → j ≠ i → (s.site j).group ≠ g) ∧ s.root ≤ T ∧ T < s.root + 2 ^ 39 ∧ (s.site i).st = .armed ∧ (s.site i).srcFrame = true ∧ (s.site i).frameArmed = true ∧ s.startWait i ≤ (T - s.root) * 256) ∧
    (∃ s : State, ∃ g i T : Nat, s.stage = .on ∧ s.sync.lock = true ∧ s.sync.bad < 4 ∧ s.sync.rxEn = true ∧ s.sync.echoEn = false ∧ g < 15 ∧ i < 16 ∧ s.sync.startEn = true ∧ (s.site i).group = g ∧ (∀ j, j < 16 → j ≠ i → (s.site j).group ≠ g) ∧ s.root ≤ T ∧ T < s.root + 2 ^ 39 ∧ (s.site i).st = .running ∧ (s.site i).srcFrame = true) :=
  ⟨⟨syncS 90000 (fun x => {x with good := 1}), bsyncFrame 2 3 0, by decide +kernel⟩,
    ⟨syncS 90000 (fun x => x), bsyncFrame 2 3 0, by decide +kernel⟩,
    ⟨syncS 90000 (fun x => x), bsyncFrame 2 3 0 + 1, by decide +kernel⟩,
    ⟨syncS 90000 (fun x => {x with lock := true}), bsyncFrame 2 3 0 + 1, by decide +kernel⟩,
    ⟨syncS 90000 (fun x => {x with lock := true, bad := 4}), by decide +kernel⟩,
    ⟨syncS 90000 (fun x => {x with rxEn := false}), bsyncFrame 2 3 0 + 1, by decide +kernel⟩,
    ⟨lockS 90000 (fun x => x), by decide +kernel⟩,
    ⟨lockS 90000 (fun x => x), by decide +kernel⟩,
    ⟨lockS 90000 (fun x => x), 777, by decide +kernel⟩,
    ⟨(lockS 90000 (fun x => x)).modSync (fun x => {x with staged := true, delay := 1000}), 777777, by decide +kernel⟩,
    ⟨lockS 90000 (fun x => x), 777, by decide +kernel⟩,
    ⟨lockS 90000 (fun x => {x with st := .armed, srcFrame := true, group := 3}), 3, by decide +kernel⟩,
    ⟨lockS 90000 (fun x => {x with st := .armed, srcFrame := true, frameArmed := true, group := 3}), 3, 0, 900000, by decide +kernel⟩,
    ⟨lockS 90000 (fun x => {x with st := .running, srcFrame := true, group := 3}), 3, 0, 900000, by decide +kernel⟩⟩

/-- Inputs that meet the hypotheses of Obligations.SlewAndTriggerLines, clause by clause. -/
theorem witness_SlewAndTriggerLines :
    (∃ s : State, s.sync.slewing = true ∧ s.sync.slewAt + rootUs 1 ≤ s.uptime ∧ s.sync.current + 1 < s.sync.target) ∧
    (∃ s : State, s.sync.slewing = true ∧ s.sync.slewAt + rootUs 1 ≤ s.uptime ∧ s.sync.current + 1 = s.sync.target ∧ s.sync.stale = true) ∧
    (∃ s : State, s.sync.slewing = true ∧ s.sync.slewAt + rootUs 1 ≤ s.uptime ∧ s.sync.current + 1 = s.sync.target ∧ s.sync.stale = false) ∧
    (∃ s : State, ∃ n tt : Nat, ∃ rising : Bool, n < 4 ∧ tt < 2 ^ 64 ∧ s.stage = .on ∧ (s.trigIn n).en = true ∧ (s.trigIn n).edge = 2 ∨ (s.trigIn n).edge = (if rising then 0 else 1) ∧ (∀ l, (s.trigIn n).last = some l → 5 * fsNs ≤ (tt + 2 ^ 64 - l) % 2 ^ 64) ∧ (s.trigIn n).routeQ = false ∧ (s.trigIn n).routeAcq = false) ∧
    (∃ s : State, ∃ n tt : Nat, ∃ rising : Bool, ∃ l : Nat, n < 4 ∧ tt < 2 ^ 64 ∧ s.stage = .on ∧ (s.trigIn n).en = true ∧ (s.trigIn n).edge = 2 ∨ (s.trigIn n).edge = (if rising then 0 else 1) ∧ (s.trigIn n).last = some l ∧ (tt + 2 ^ 64 - l) % 2 ^ 64 < 5 * fsNs) ∧
    (∃ s : State, ∃ n start : Nat, ∃ late : Bool, ∃ rest : List (Nat × Bool), n < 4 ∧ firstEvent (s.trigOut n).events = some (start, late) ∧ rest = (s.trigOut n).events.erase (start, late) ∧ ttLt s.now start = false ∧ (s.trigOut n).en = true ∧ (∀ e, (s.trigOut n).lastEnd = some e → pulseClash start e = false)) ∧
    (∃ s : State, ∃ n start : Nat, ∃ late : Bool, ∃ rest : List (Nat × Bool), ∃ e : Nat, n < 4 ∧ firstEvent (s.trigOut n).events = some (start, late) ∧ rest = (s.trigOut n).events.erase (start, late) ∧ ttLt s.now start = false ∧ (s.trigOut n).en = true ∧ (s.trigOut n).lastEnd = some e ∧ pulseClash start e = true) ∧
    (∃ s : State, ∃ n start : Nat, ∃ late : Bool, n < 4 ∧ firstEvent (s.trigOut n).events = some (start, late) ∧ ttLt s.now start = true) ∧
    (∃ l : List (Nat × Bool), ∃ p : Nat × Bool, (∀ x ∈ l, x.1 < 2 ^ 63) ∧ firstEvent l = some p) ∧
    (∃ l : List (Nat × Bool), ∃ p x : Nat × Bool, (∀ x ∈ l, x.1 < 2 ^ 63) ∧ firstEvent l = some p ∧ x ∈ l) ∧
    (∃ s : State, ∃ fn n : Nat, s.accepts fn Ty.sync 0 (0x0E0 + 0x10 * n) = true ∧ n < 4 ∧ (s.trigOut n).en = true ∧ (s.trigOut n).src < 4 ∧ s.selBad (s.trigOut n).src (s.trigOut n).sel (s.trigOut n).owner = false ∧ (s.trigOut n).sel < 32 ∧ (s.trigOut n).owner ≤ 16 ∧ (s.trigOut n).offset < 2 ^ 24) :=
  ⟨⟨syncS 90000 (fun x => {x with slewing := true, target := 50}), by decide +kernel⟩,
    ⟨syncS 90000 (fun x => {x with slewing := true, target := 50, current := 49, stale := true}), by decide +kernel⟩,
    ⟨syncS 90000 (fun x => {x with slewing := true, target := 50, current := 49}), by decide +kernel⟩,
    ⟨(base 90000).modTrigIn 1 (fun x => {x with en := true, edge := 2, last := some 800}), 1, 900000, true, by decide +kernel⟩,
    ⟨(base 90000).modTrigIn 1 (fun x => {x with en := true, edge := 2, last := some 800}), 1, 900, true, 800, by decide +kernel⟩,
    ⟨(base 90000).modTrigOut 1 (fun x => {x with en := true, events := [(900000, false), (950000, true)]}), 1, 900000, false, [(950000, true)], by decide +kernel⟩,
    ⟨(base 90000).modTrigOut 1 (fun x => {x with en := true, lastEnd := some 900000, events := [(900000, false), (950000, true)]}), 1, 900000, false, [(950000, true)], 900000, by decide +kernel⟩,
    ⟨(base 90000).modTrigOut 1 (fun x => {x with en := true, events := [(90000000, false), (95000000, true)]}), 1, 90000000, false, by decide +kernel⟩,
    ⟨[(9, true), (5, false)], (5, false), by decide +kernel⟩,
    ⟨[(9, true), (5, false)], (5, false), (9, true), by decide +kernel⟩,
    ⟨(base 90000).modTrigOut 1 (fun x => {x with en := true}), 0, 1, by decide +kernel⟩⟩

/-- Inputs that meet the hypotheses of Obligations.VectorInstructionsProduceUis, clause by clause. -/
theorem witness_VectorInstructionsProduceUis :
    (∃ s : State, ∃ e ir k : Nat, ∃ g : Seg, s.dispatches e g ir ∧ s.dispatchOk e g ir ∧ k = bits ir 0 32 ∧ 0 < k ∧ k ≤ 65536 ∧ (s.te e).uis % 64 + k ≤ 64 ∧ (s.te e).uis + k ≤ 64 * 2 ^ 32 ∧ 0 < g.n ∧ ((s.te e).uis % 64 + k = 64 → s.roomFor g ((s.te e).uis / 64) = true) ∧ bits ir 248 8 = 0x03) ∧
    (∃ s : State, ∃ e ir k : Nat, ∃ g : Seg, s.dispatches e g ir ∧ s.dispatchOk e g ir ∧ k = bits ir 0 32 ∧ 0 < k ∧ k ≤ 65536 ∧ (s.te e).uis % 64 + k ≤ 64 ∧ (s.te e).uis + k ≤ 64 * 2 ^ 32 ∧ 0 < g.n ∧ ((s.te e).uis % 64 + k = 64 → s.roomFor g ((s.te e).uis / 64) = true) ∧ bits ir 248 8 = 0x02 ∧ (∀ o, o < g.vw → (s.te e).fetch + 1 + o < g.len ∧ (s.fetched e g).cached g ((s.te e).fetch + 1 + o) = true)) ∧
    (∃ s : State, ∃ e ir k : Nat, ∃ g : Seg, s.dispatches e g ir ∧ s.dispatchOk e g ir ∧ k = bits ir 0 32 ∧ 0 < k ∧ k ≤ 65536 ∧ (s.te e).uis % 64 + k ≤ 64 ∧ (s.te e).uis + k ≤ 64 * 2 ^ 32 ∧ 0 < g.n ∧ ((s.te e).uis % 64 + k = 64 → s.roomFor g ((s.te e).uis / 64) = true) ∧ bits ir 248 8 = 0x01 ∧ (∀ o, o < (k * g.n + 63) / 64 → (s.te e).fetch + 1 + o < g.len ∧ (s.fetched e g).cached g ((s.te e).fetch + 1 + o) = true)) ∧
    (∃ s : State, ∃ e ir k : Nat, ∃ g : Seg, s.dispatches e g ir ∧ s.dispatchOk e g ir ∧ k = bits ir 0 32 ∧ 0 < k ∧ k ≤ 65536 ∧ (s.te e).uis % 64 + k ≤ 64 ∧ (s.te e).uis + k ≤ 64 * 2 ^ 32 ∧ 0 < g.n ∧ ((s.te e).uis % 64 + k = 64 → s.roomFor g ((s.te e).uis / 64) = true) ∧ bits ir 248 8 = 0x30 ∧ slotsBad (slots ir) g.n = false ∧ (∀ o, o < g.vw + (k * scanWidth (slots ir) + 255) / 256 → (s.te e).fetch + 1 + o < g.len ∧ (s.fetched e g).cached g ((s.te e).fetch + 1 + o) = true)) ∧
    (∃ s : State, ∃ e ir k : Nat, ∃ g : Seg, ∃ tb : List Nat, ∃ w : Nat, s.dispatches e g ir ∧ s.dispatchOk e g ir ∧ k = bits ir 0 32 ∧ 0 < k ∧ k ≤ 65536 ∧ (s.te e).uis % 64 + k ≤ 64 ∧ (s.te e).uis + k ≤ 64 * 2 ^ 32 ∧ 0 < g.n ∧ ((s.te e).uis % 64 + k = 64 → s.roomFor g ((s.te e).uis / 64) = true) ∧ bits ir 248 8 = 0x31 ∧ slotsBad (slots ir) g.n = false ∧ g.hasTable = true ∧ k = 1 ∧ bits ir 112 32 = 1 ∧ (s.te e).stream = [] ∧ (s.te e).laneDone = 0 ∧ (∀ o, o < g.vw + 1 → (s.te e).fetch + 1 + o < g.len ∧ (s.fetched e g).cached g ((s.te e).fetch + 1 + o) = true) ∧ (s.te e).table = some tb ∧ tb[bits (s.streamWord g ((s.te e).fetch + 1 + g.vw)) 0 8]? = some w ∧ bits w 0 5 = scanWidth (slots ir)) ∧
    (∃ s : State, ∃ e ir k : Nat, ∃ g : Seg, s.dispatches e g ir ∧ s.dispatchOk e g ir ∧ bits ir 248 8 = 0x03 ∧ k = bits ir 0 32 ∧ 64 < (s.te e).uis % 64 + k ∧ (s.te e).uis + 64 ≤ 64 * 2 ^ 32 ∧ s.roomFor g ((s.te e).uis / 64) = true) ∧
    (∃ s : State, ∃ e ir y : Nat, ∃ g : Seg, s.dispatches e g ir ∧ s.dispatchOk e g ir ∧ bits ir 248 8 = 0x02 ∧ bits ir 0 32 = 1 ∧ (s.te e).uis % 64 = 0 ∧ (s.te e).asm = {} ∧ (s.te e).uis + 1 ≤ 64 * 2 ^ 32 ∧ g.chans = [y] ∧ (s.te e).prevs = [] ∧ (s.te e).fetch + 1 < g.len ∧ (s.fetched e g).cached g ((s.te e).fetch + 1) = true) ∧
    (∃ s : State, ∃ e ir : Nat, ∃ g : Seg, s.dispatches e g ir ∧ s.dispatchOk e g ir ∧ bits ir 0 32 = 0 ∧ bits ir 248 8 = 0x01) ∧
    (∃ s : State, ∃ e ir : Nat, ∃ g : Seg, s.dispatches e g ir ∧ s.dispatchOk e g ir ∧ bits ir 0 32 = 0 ∧ bits ir 248 8 = 0x03) :=
  ⟨⟨engS sg [opI 3 5] (fun x => x), 0, opI 3 5, 5, sg, by decide +kernel⟩,
    ⟨engS sg [opI 2 5, 0x3] (fun x => x), 0, opI 2 5, 5, sg, by decide +kernel⟩,
    ⟨engS sg [opI 1 5, 0x34567] (fun x => x), 0, opI 1 5, 5, sg, by decide +kernel⟩,
    ⟨engS sg [opI 0x30 (5 + 2 ^ 96), 0x3, 0xFFFF] (fun x => x), 0, opI 0x30 (5 + 2 ^ 96), 5, sg, by decide +kernel⟩,
    ⟨engS sg2 [opI 0x31 (1 + 2 ^ 96 + 2 ^ 112), 0x3, 0] (fun x => { x with table := some [0x101] }), 0, opI 0x31 (1 + 2 ^ 96 + 2 ^ 112), 1, sg2, [0x101], 0x101, by decide +kernel⟩,
    ⟨engS sg [opI 3 500] (fun x => x), 0, opI 3 500, 500, sg, by decide +kernel⟩,
    ⟨engS sg [opI 2 1, 0x3] (fun x => x), 0, opI 2 1, 0, sg, by decide +kernel⟩,
    ⟨engS sg [opI 1 0, 0x3] (fun x => x), 0, opI 1 0, sg, by decide +kernel⟩,
    ⟨engS sg [opI 3 0, 0x3] (fun x => x), 0, opI 3 0, sg, by decide +kernel⟩⟩

/-- Inputs that meet the hypotheses of Obligations.ControlInstructionsMoveTheFetchPointer, clause by clause. -/
theorem witness_ControlInstructionsMoveTheFetchPointer :
    (∃ s : State, ∃ e ir : Nat, ∃ g : Seg, s.dispatches e g ir ∧ opcodes.contains (bits ir 248 8) = false) ∧
    (∃ s : State, ∃ e ir : Nat, ∃ g : Seg, s.dispatches e g ir ∧ s.dispatchOk e g ir ∧ bits ir 248 8 = 0x00) ∧
    (∃ s : State, ∃ e ir : Nat, ∃ g : Seg, s.dispatches e g ir ∧ s.dispatchOk e g ir ∧ bits ir 248 8 = 0x04 ∧ ir.testBit 241 = false) ∧
    (∃ s : State, ∃ e ir : Nat, ∃ g : Seg, ∃ ch : Nat, s.dispatches e g ir ∧ s.dispatchOk e g ir ∧ bits ir 248 8 = 0x05 ∧ ir.testBit 8 = false ∧ bits ir 0 8 < g.n ∧ bits ir 9 4 ≤ 9 ∧ ch = g.chans.getD (bits ir 0 8) 0) ∧
    (∃ s : State, ∃ e ir : Nat, ∃ g : Seg, s.dispatches e g ir ∧ s.dispatchOk e g ir ∧ bits ir 248 8 = 0x06 ∧ bits ir 0 8 < g.n) ∧
    (∃ s : State, ∃ e ir : Nat, ∃ g : Seg, s.dispatches e g ir ∧ s.dispatchOk e g ir ∧ bits ir 248 8 = 0x10 ∧ bits ir 0 32 < g.len) ∧
    (∃ s : State, ∃ e ir : Nat, ∃ g : Seg, s.dispatches e g ir ∧ s.dispatchOk e g ir ∧ bits ir 248 8 = 0x12 ∧ bits ir 0 32 < g.len ∧ (s.te e).pstack.length < 8) ∧
    (∃ s : State, ∃ e ir : Nat, ∃ g : Seg, ∃ f : Frame, ∃ rest : List Frame, s.dispatches e g ir ∧ s.dispatchOk e g ir ∧ bits ir 248 8 = 0x13 ∧ (s.te e).pstack = f :: rest ∧ f.loop = false) ∧
    (∃ s : State, ∃ e ir : Nat, ∃ g : Seg, s.dispatches e g ir ∧ s.dispatchOk e g ir ∧ bits ir 248 8 = 0x14 ∧ 0 < bits ir 0 32 ∧ (s.te e).pstack.length < 8) ∧
    (∃ s : State, ∃ e ir : Nat, ∃ g : Seg, ∃ f : Frame, ∃ rest : List Frame, s.dispatches e g ir ∧ s.dispatchOk e g ir ∧ bits ir 248 8 = 0x15 ∧ (s.te e).pstack = f :: rest ∧ f.loop = true) ∧
    (∃ s : State, ∃ e ir : Nat, ∃ g : Seg, s.dispatches e g ir ∧ s.dispatchOk e g ir ∧ bits ir 248 8 = 0x0F ∧ (s.te e).uis % 64 = 0 ∧ (g.succValid = false ∨ ((s.queue g.succ).enable = true ∧ (s.queue g.succ).type = 1 ∧ s.qOwner g.succ = g.site))) ∧
    (∃ s : State, ∃ e ir : Nat, ∃ g : Seg, s.dispatches e g ir ∧ s.dispatchOk e g ir ∧ bits ir 248 8 = 0x0F ∧ (s.te e).uis % 64 ≠ 0 ∧ (s.te e).uis + 64 ≤ 64 * 2 ^ 32 ∧ s.roomFor g ((s.te e).uis / 64) = true) :=
  ⟨⟨engS sg [opI 0x55 0] (fun x => x), 0, opI 0x55 0, sg, by decide +kernel⟩,
    ⟨engS sg [opI 0 0] (fun x => x), 0, opI 0 0, sg, by decide +kernel⟩,
    ⟨engS sg [opI 4 (7 * 2 ^ 242)] (fun x => x), 0, opI 4 (7 * 2 ^ 242), sg, by decide +kernel⟩,
    ⟨engS sg2 [opI 5 (1 + 3 * 512 + 77 * 65536)] (fun x => x), 0, opI 5 (1 + 3 * 512 + 77 * 65536), sg2, 1, by decide +kernel⟩,
    ⟨(engS sg2 [opI 6 (1 + 0x1F00 + 77 * 65536)] (fun x => x)).modTrigOut 2 (fun o => {o with owner := 0, src := 1, en := true}), 0, opI 6 (1 + 0x1F00 + 77 * 65536), sg2, by decide +kernel⟩,
    ⟨engS sg [opI 0x10 7] (fun x => x), 0, opI 0x10 7, sg, by decide +kernel⟩,
    ⟨engS sg [opI 0x12 7] (fun x => x), 0, opI 0x12 7, sg, by decide +kernel⟩,
    ⟨engS sg [opI 0x13 0] (fun x => { x with pstack := [{ off := 9 }, {}] }), 0, opI 0x13 0, sg, { off := 9 }, [{}], by decide +kernel⟩,
    ⟨engS sg [opI 0x14 7] (fun x => x), 0, opI 0x14 7, sg, by decide +kernel⟩,
    ⟨engS sg [opI 0x15 0] (fun x => { x with pstack := [{ off := 9, loop := true, count := 2 }, {}] }), 0, opI 0x15 0, sg, { off := 9, loop := true, count := 2 }, [{}], by decide +kernel⟩,
    ⟨engS sg [opI 0xF 0] (fun x => { x with uis := 64 }), 0, opI 0xF 0, sg, by decide +kernel⟩,
    ⟨engS sg [opI 0xF 0] (fun x => { x with uis := 60, asm := { syms := [List.replicate 60 1], tss := List.replicate 60 0, holdv := List.replicate 60 false }, prevs := [1] }), 0, opI 0xF 0, sg, by decide +kernel⟩⟩

/-- Inputs that meet the hypotheses of Obligations.ConditionsOpenAndResolve, clause by clause. -/
theorem witness_ConditionsOpenAndResolve :
    (∃ s : State, ∃ e ir : Nat, ∃ g : Seg, s.dispatches e g ir ∧ s.dispatchOk e g ir ∧ (s.te e).cond = none ∧ (s.te e).uis + 128 ≤ 64 * 2 ^ 32 ∧ bits ir 248 8 = 0x07 ∧ ir.testBit 72 = true ∧ ir.testBit 73 = false ∧ ir.testBit 74 = false ∧ bits ir 0 32 = 0 ∧ bits ir 32 32 = 0 ∧ 0 < (s.barrier g.site (bits ir 64 8)).count ∧ (s.barrier g.site (bits ir 64 8)).arrived + 1 < (s.barrier g.site (bits ir 64 8)).count) ∧
    (∃ s : State, ∃ e ir : Nat, ∃ g : Seg, s.dispatches e g ir ∧ s.dispatchOk e g ir ∧ (s.te e).cond = none ∧ (s.te e).uis + 128 ≤ 64 * 2 ^ 32 ∧ (∀ o, o < g.vw → (s.te e).fetch + 1 + o < g.len ∧ (s.fetched e g).cached g ((s.te e).fetch + 1 + o) = true) ∧ bits ir 248 8 = 0x07 ∧ ir.testBit 72 = false ∧ ir.testBit 73 = true ∧ ir.testBit 74 = true ∧ g.tethered = true ∧ 0 < bits ir 0 32 ∧ bits ir 32 32 < g.len) ∧
    (∃ s : State, ∃ e ir : Nat, ∃ g : Seg, s.dispatches e g ir ∧ s.dispatchOk e g ir ∧ (s.te e).cond = none ∧ (s.te e).uis + 128 ≤ 64 * 2 ^ 32 ∧ (∀ o, o < g.vw → (s.te e).fetch + 1 + o < g.len ∧ (s.fetched e g).cached g ((s.te e).fetch + 1 + o) = true) ∧ bits ir 248 8 = 0x20 ∧ 0 < bits ir 0 32 ∧ bits ir 32 32 < g.len ∧ (s.fetched e g).noCompare e g ((s.fetched e g).holdVec g ((s.te e).fetch + 1)) = false) ∧
    (∃ s : State, ∃ e ir : Nat, ∃ g : Seg, s.dispatches e g ir ∧ s.dispatchOk e g ir ∧ (s.te e).cond = none ∧ (s.te e).uis + 128 ≤ 64 * 2 ^ 32 ∧ (∀ o, o < g.vw → (s.te e).fetch + 1 + o < g.len ∧ (s.fetched e g).cached g ((s.te e).fetch + 1 + o) = true) ∧ bits ir 248 8 = 0x11 ∧ bits ir 0 32 < g.len) ∧
    (∃ s : State, ∃ e : Nat, ∃ g : Seg, ∃ c : Cond, ∃ td : Int, e < nEng ∧ (s.te e).cur = some g ∧ (s.te e).cond = some c ∧ c.res = none ∧ td = max (s.te e).lastCmp (s.paceAt g c.u0) + 320 * fsNs ∧ c.kind = 2 ∧ ttReached s.now td = true ∧ c.u0 ≤ 64 * (s.te e).posted ∧ (∀ ch ∈ g.chans, (s.chan ch).plainOutstanding g.segId c.u0 = false)) ∧
    (∃ s : State, ∃ e : Nat, ∃ g : Seg, ∃ c : Cond, ∃ td : Int, e < nEng ∧ (s.te e).cur = some g ∧ (s.te e).cond = some c ∧ c.res = none ∧ td = s.repEvent g c + 320 * fsNs ∧ c.kind = 1 ∧ ttReached s.now td = true ∧ c.u0 + c.rep < (s.te e).uis ∧ c.fails.contains c.rep = false ∧ (∀ ch ∈ g.chans, (s.chan ch).uiOutstanding g.segId (c.u0 + c.rep) = false)) ∧
    (∃ s : State, ∃ e : Nat, ∃ g : Seg, ∃ c : Cond, e < nEng ∧ (s.te e).cur = some g ∧ (s.te e).cond = some c ∧ c.res = none ∧ c.kind = 4 ∧ ttLe (s.tOut g c) s.now = true ∧ (s.trigIn c.sel).flight = []) ∧
    (∃ s : State, ∃ e : Nat, ∃ g : Seg, ∃ c : Cond, ∃ st b gen C D : Nat, e < nEng ∧ (s.te e).cur = some g ∧ (s.te e).cond = some c ∧ c.res = none ∧ st < nSite ∧ b < 256 ∧ c.kind = 3 ∧ c.sel = b ∧ c.gen = gen ∧ g.site = st ∧ (s.barrier st b).done = [(gen, C, D, false)] ∧ ttLe D s.now = true ∧ ttLt C (s.tOut g c) = true ∧ ttLe (ttMax D c.since) (s.tOut g c) = true) ∧
    (∃ s : State, ∃ n tt : Nat, ∃ rest : List Nat, n < 4 ∧ (s.trigIn n).flight = tt :: rest ∧ ttLe (tt + 40 * fsNs) s.now = true) ∧
    (∃ s : State, ∃ e : Nat, ∃ g : Seg, ∃ a : Asm, e < nEng ∧ (s.te e).cur = some g ∧ (s.te e).full = some a ∧ s.siteGoing g.site = true ∧ s.roomFor g ((s.te e).uis / 64 - 1) = true) ∧
    (∃ s : State, ∃ e l : Nat, ∃ g : Seg, e < nEng ∧ (s.te e).miss = some l ∧ (s.te e).cur = some g ∧ s.glb.hbmClear = false) ∧
    (∃ s : State, ∃ e l : Nat, ∃ g : Seg, e < nEng ∧ (s.te e).miss = some l ∧ (s.te e).cur = some g ∧ s.glb.hbmClear = true) :=
  ⟨⟨{ engS sg [opI 7 (2 ^ 72 + 3 * 2 ^ 64)] (fun x => x) with sites := [(0, { st := .running, vfOn := true, barriers := [(3, { count := 4 })] })] }, 0, opI 7 (2 ^ 72 + 3 * 2 ^ 64), sg, by decide +kernel⟩,
    ⟨engS sg2 [opI 7 (2 ^ 73 + 2 ^ 74 + 2 ^ 75 + 100 + 7 * 2 ^ 32), 3] (fun x => x), 0, opI 7 (2 ^ 73 + 2 ^ 74 + 2 ^ 75 + 100 + 7 * 2 ^ 32), sg2, by decide +kernel⟩,
    ⟨engS sg2 [opI 0x20 (100 + 7 * 2 ^ 32), 0x65] (fun x => x), 0, opI 0x20 (100 + 7 * 2 ^ 32), sg2, by decide +kernel⟩,
    ⟨engS sg2 [opI 0x11 (7 + 2 ^ 32), 0x65] (fun x => x), 0, opI 0x11 (7 + 2 ^ 32), sg2, by decide +kernel⟩,
    ⟨(engS sg2 [] (fun x => { x with cond := some { kind := 2, u0 := 64 }, posted := 1, uis := 64 })).modHdr 0 0 (fun h => h) |> (fun s => { s with root := 9000000 }), 0, sg2, { kind := 2, u0 := 64 }, max 0 ({ engS sg2 [] (fun x => x) with root := 9000000 }.paceAt sg2 64) + 320 * 4096, by decide +kernel⟩,
    ⟨{ engS sg2 [] (fun x => { x with cond := some { kind := 1, u0 := 64, timeout := 9 }, posted := 1, uis := 66 }) with root := 9000000 }, 0, sg2, { kind := 1, u0 := 64, timeout := 9 }, ({ engS sg2 [] (fun x => x) with root := 9000000 }.paceAt sg2 64) + 320 * 4096, by decide +kernel⟩,
    ⟨{ engS sg2 [] (fun x => { x with cond := some { kind := 4, u0 := 64, timeout := 9, sel := 1 }, uis := 66 }) with root := 9000000 }, 0, sg2, { kind := 4, u0 := 64, timeout := 9, sel := 1 }, by decide +kernel⟩,
    ⟨{ engS sg2 [] (fun x => { x with cond := some { kind := 3, u0 := 64, timeout := 9, sel := 1 }, uis := 66 }) with root := 9000000, sites := [(0, { st := .running, vfOn := true, barriers := [(1, { count := 4, gen := 1, done := [(0, 1000, 2000, false)] })] })] }, 0, sg2, { kind := 3, u0 := 64, timeout := 9, sel := 1 }, 0, 1, 0, 1000, 2000, by decide +kernel⟩,
    ⟨({ engS sg2 [] (fun x => { x with cond := some { kind := 4, u0 := 64, timeout := 9, sel := 1 }, uis := 66 }) with root := 9000000 }).modTrigIn 1 (fun x => { x with owner := 0, flight := [100, 200] }), 1, 100, [200], by decide +kernel⟩,
    ⟨{ engS sg2 [] (fun x => { x with full := some { syms := [List.replicate 64 1, List.replicate 64 2], tss := List.replicate 64 0, holdv := List.replicate 64 false }, uis := 64 }) with root := 9000 }, 0, sg2, { syms := [List.replicate 64 1, List.replicate 64 2], tss := List.replicate 64 0, holdv := List.replicate 64 false }, by decide +kernel⟩,
    ⟨{ engS sg2 [] (fun x => { x with miss := some 7 }) with glb := { (base 900).glb with mode := .run, target := .run, hbmClear := false } }, 0, 7, sg2, by decide +kernel⟩,
    ⟨engS sg2 [] (fun x => { x with miss := some 7 }), 0, 7, sg2, by decide +kernel⟩⟩

/-- Inputs that meet the hypotheses of Obligations.MicrowordsSequence, clause by clause. -/
theorem witness_MicrowordsSequence :
    (∃ s : State, ∃ e w : Nat, ∃ g : Seg, s.atWord e g w ∧ seqOnly w ∧ uWait w = false ∧ uSeq w = 0) ∧
    (∃ s : State, ∃ e w : Nat, ∃ g : Seg, s.atWord e g w ∧ seqOnly w ∧ uWait w = false ∧ uSeq w = 1) ∧
    (∃ s : State, ∃ e w : Nat, ∃ g : Seg, s.atWord e g w ∧ seqOnly w ∧ uWait w = false ∧ uSeq w = 2) ∧
    (∃ s : State, ∃ e w : Nat, ∃ g : Seg, s.atWord e g w ∧ seqOnly w ∧ uWait w = false ∧ uSeq w = 3 ∧ (s.te e).ustack.length < 8) ∧
    (∃ s : State, ∃ e w : Nat, ∃ g : Seg, s.atWord e g w ∧ seqOnly w ∧ uWait w = false ∧ uSeq w = 3 ∧ 8 ≤ (s.te e).ustack.length ∧ s.inService e = true ∧ s.stage = .on ∧ s.permanent (unitKey kEngine e) false = false) ∧
    (∃ s : State, ∃ e w : Nat, ∃ g : Seg, ∃ a : Nat, ∃ l : List Nat, s.atWord e g w ∧ seqOnly w ∧ uWait w = false ∧ uSeq w = 4 ∧ (s.te e).ustack = a :: l) ∧
    (∃ s : State, ∃ e w : Nat, ∃ g : Seg, ∃ ir d : Nat, s.atWord e g w ∧ seqOnly w ∧ uWait w = false ∧ uSeq w = 5 ∧ (s.te e).fetch < g.len ∧ s.cached g (s.te e).fetch = true ∧ s.streamWord g (s.te e).fetch = ir ∧ s.entry e (bits ir 248 8) = d ∧ entryParityOk d = true ∧ dispatchCheck (d.testBit 12) (d.testBit 14) (d.testBit 13) ir ((s.te e).spin + 1) g.tethered = 0) ∧
    (∃ s : State, ∃ e w : Nat, ∃ g : Seg, s.atWord e g w ∧ seqOnly w ∧ uWait w = false ∧ uSeq w = 6) ∧
    (∃ s : State, ∃ e w : Nat, ∃ g : Seg, s.atWord e g w ∧ seqOnly w ∧ uWait w = false ∧ uSeq w = 7) ∧
    (∃ s : State, ∃ e w : Nat, ∃ g : Seg, s.atWord e g w ∧ seqOnly w ∧ uWait w = true ∧ uSeq w = 0 ∧ (s.te e).uCond (bits w 118 6) = w.testBit 117) ∧
    (∃ s : State, ∃ e w : Nat, ∃ g : Seg, s.atWord e g w ∧ seqOnly w ∧ uWait w = true ∧ uSeq w = 0 ∧ (s.te e).uCond (bits w 118 6) = !(w.testBit 117)) ∧
    (∃ s : State, ∃ e w : Nat, ∃ g : Seg, ∃ a b : Nat, s.atWord e g w ∧ bits w 100 4 = 2 ∧ bits w 96 4 < 8 ∧ uEmit w = 0 ∧ uFetch w = 0 ∧ bits w 44 4 = 0 ∧ bits w 60 4 = 0 ∧ bits w 40 4 = 0 ∧ uEvent w = 0 ∧ uWait w = false ∧ uSeq w = 0 ∧ a = (s.te e).uSrc (bits w 92 4) (bits w 72 16) ∧ b = (s.te e).uSrc (bits w 88 4) (bits w 72 16)) :=
  ⟨⟨uS (seqW 0) (fun x => x), 0, seqW 0, sg, by decide +kernel⟩,
    ⟨uS (seqW 1) (fun x => x), 0, seqW 1, sg, by decide +kernel⟩,
    ⟨uS (seqW 2) (fun x => x), 0, seqW 2, sg, by decide +kernel⟩,
    ⟨uS (seqW 3) (fun x => x), 0, seqW 3, sg, by decide +kernel⟩,
    ⟨uS (seqW 3) (fun x => { x with ustack := [1,2,3,4,5,6,7,8] }), 0, seqW 3, sg, by decide +kernel⟩,
    ⟨uS (seqW 4) (fun x => { x with ustack := [1,2,3,4,5,6,7,8] }), 0, seqW 4, sg, 1, [2,3,4,5,6,7,8], by decide +kernel⟩,
    ⟨uS (seqW 5) (fun x => x), 0, seqW 5, sg, opI 0 0, entryParity 0x1007, by decide +kernel⟩,
    ⟨uS (seqW 6) (fun x => { x with uc0 := 3 }), 0, seqW 6, sg, by decide +kernel⟩,
    ⟨uS (seqW 7) (fun x => { x with handler := true, token := { upc := 9, ustack := [7], live := true } }), 0, seqW 7, sg, by decide +kernel⟩,
    ⟨uS (seqW 0 + 2 ^ 116 + 2 ^ 118) (fun x => x), 0, seqW 0 + 2 ^ 116 + 2 ^ 118, sg, by decide +kernel⟩,
    ⟨uS (seqW 0 + 2 ^ 116) (fun x => x), 0, seqW 0 + 2 ^ 116, sg, by decide +kernel⟩,
    ⟨uS (2 * 2 ^ 100 + 3 * 2 ^ 96 + 1 * 2 ^ 92 + 8 * 2 ^ 88 + 0x1234 * 2 ^ 72) (fun x => { x with gr := [(1, 2 ^ 32 - 9)] }), 0, 2 * 2 ^ 100 + 3 * 2 ^ 96 + 1 * 2 ^ 92 + 8 * 2 ^ 88 + 0x1234 * 2 ^ 72, sg, 2 ^ 32 - 9, 0x1234, by decide +kernel⟩⟩

/-- Inputs that meet the hypotheses of Obligations.InterruptsAndMachineChecks, clause by clause. -/
theorem witness_InterruptsAndMachineChecks :
    (∃ s : State, ∃ e : Nat, ∃ g : Seg, e < nEng ∧ (s.te e).cur = some g ∧ (s.te e).taking = false ∧ (s.te e).handler = false ∧ uSafe (s.uword e) = true ∧ s.siteGoing g.site = true) ∧
    (∃ s : State, ∃ e : Nat, ∃ g : Seg, e < nEng ∧ (s.te e).cur = some g ∧ s.siteGoing g.site = false ∧ (s.te e).taking = false ∧ (s.te e).handler = true ∨ uSafe (s.uword e) = true) ∧
    (∃ s : State, ∃ e : Nat, ∃ g : Seg, e < nEng ∧ (s.te e).cur = some g ∧ s.siteGoing g.site = true) ∧
    (∃ s : State, ∃ e k : Nat, ∃ g : Seg, e < nEng ∧ k < 3 ∧ s.inService e = true ∧ (s.te e).reload = false ∧ s.stage = .on ∧ (s.te e).cur = some g ∧ s.permanent (unitKey kEngine e) false = false ∧ (s.fault (unitKey kEngine e)).retired = false) ∧
    (∃ s : State, ∃ e : Nat, e < nEng ∧ (s.rgn (rgnOfTe e)).reloads.head? = some e ∧ (s.rgn (rgnOfTe e)).reloadAt + 40 * fsUs ≤ s.up ∧ (s.rgn (rgnOfTe e)).instOn = false) ∧
    (∃ s : State, ∃ e : Nat, e < nEng ∧ (s.rgn (rgnOfTe e)).reloads.head? = some e ∧ (s.rgn (rgnOfTe e)).reloadAt + 40 * fsUs ≤ s.up ∧ (s.rgn (rgnOfTe e)).instOn = false ∧ (s.fault (unitKey kEngine e)).retired = false) ∧
    (∃ _s : State, ∃ e : Nat, e < nEng) ∧
    (∃ s : State, ∃ e : Nat, e < nEng ∧ s.stage = .on ∧ s.inService e = true ∧ (s.te e).reload = false ∧ (s.te e).cur = none ∧ s.permanent (unitKey kEngine e) false = false ∧ (s.fault (unitKey kEngine e)).retired = false) :=
  ⟨⟨uS (2 ^ 127) (fun x => { x with pendSync := true, pendMatch := some true }), 0, sg, by decide +kernel⟩,
    ⟨(uS (2 ^ 127) (fun x => x)).modSite 0 (fun x => { x with st := .aborted }), 0, sg, by decide +kernel⟩,
    ⟨uS (2 ^ 127) (fun x => x), 0, sg, by decide +kernel⟩,
    ⟨engS { raw := (segG 256 20 1 0 0).raw.take 8 ++ le 8 900000000 ++ (segG 256 20 1 0 0).raw.drop 16 } [] (fun x => x), 0, 0, { raw := (segG 256 20 1 0 0).raw.take 8 ++ le 8 900000000 ++ (segG 256 20 1 0 0).raw.drop 16 }, by decide +kernel⟩,
    ⟨{ base 900000000 with tes := [(0, { reload := true })], rgns := [(0, { reloads := [0, 1] })], micro := [(0, { words := [5], dispatch := [7] })] }, 0, by decide +kernel⟩,
    ⟨{ base 900000000 with tes := [(0, { reload := true })], rgns := [(0, { reloads := [0, 1] })], micro := [(0, { words := [5], dispatch := [7] })] }, 0, by decide +kernel⟩,
    ⟨base 900, 0, by decide +kernel⟩,
    ⟨base 900, 0, by decide +kernel⟩⟩

/-- Inputs that meet the hypotheses of Obligations.SegmentsArePlacedAndTaken, clause by clause. -/
theorem witness_SegmentsArePlacedAndTaken :
    (∃ s : State, ∃ q e : Nat, s.qmgr.ready = true ∧ s.handoverDue = false ∧ ((s.placeable.filter (fun x => decide (s.placedQ < x))).head?.or s.placeable.head?) = some q ∧ s.chooseDeque (s.queue q).owner = some e) ∧
    (∃ s : State, ∃ q e : Nat, s.qmgr.ready = true ∧ s.handoverDue = false ∧ ((s.placeable.filter (fun x => decide (s.placedQ < x))).head?.or s.placeable.head?) = some q ∧ s.chooseDeque (s.queue q).owner = some e) ∧
    (∃ s : State, ∃ q e : Nat, s.qmgr.ready = true ∧ s.handoverDue = false ∧ ((s.placeable.filter (fun x => decide (s.placedQ < x))).head?.or s.placeable.head?) = some q ∧ s.chooseDeque (s.queue q).owner = some e ∧ s.returned.find? (fun g => g.queue == q) = none) ∧
    (∃ s : State, ∃ q e : Nat, ∃ g : Seg, s.qmgr.ready = true ∧ s.handoverDue = false ∧ ((s.placeable.filter (fun x => decide (s.placedQ < x))).head?.or s.placeable.head?) = some q ∧ s.chooseDeque (s.queue q).owner = some e ∧ s.returned.find? (fun g => g.queue == q) = some g) ∧
    (∃ s : State, s.placeable = []) ∧
    (∃ s : State, ∃ e : Nat, ∃ g : Seg, ∃ rest : List Seg, ∃ f : Nat, e < nEng ∧ s.inService e = false ∧ (s.te e).deque = g :: rest ∧ s.chooseDeque g.site = some f ∧ s.hasEngine g.site = true) ∧
    (∃ s : State, ∃ e : Nat, ∃ g : Seg, ∃ rest : List Seg, e < nEng ∧ s.inService e = false ∧ (s.te e).deque = g :: rest ∧ s.hasEngine g.site = false) ∧
    (∃ s : State, ∃ e : Nat, ∃ tail : Bool, ∃ g : Seg, e < nEng ∧ (s.te e).slot = some (tail, g) ∧ (s.te e).deque.length < 64) ∧
    (∃ s : State, ∃ e : Nat, ∃ g : Seg, ∃ pre post : List Seg, e < nEng ∧ s.idleEng e = true ∧ (s.te e).deque = pre ++ g :: post ∧ (∀ x ∈ pre, (s.site x.site).st ≠ .running) ∧ (s.site g.site).st = .running) ∧
    (∃ s : State, ∃ e v : Nat, ∃ g : Seg, e < nEng ∧ s.thief e = true ∧ s.victimOf e = some v ∧ v ≠ e ∧ (s.te v).deque.getLast? = some g ∧ s.stealable e g (stealCost e v) = true ∧ s.tailTaken e v g = false) ∧
    (∃ s : State, ∃ e v : Nat, ∃ g : Seg, e < nEng ∧ s.thief e = true ∧ s.victimOf e = some v ∧ v ≠ e ∧ (s.te v).deque.getLast? = some g ∧ (s.stealable e g (stealCost e v) = false ∨ s.tailTaken e v g = true)) ∧
    (∃ s : State, ∃ e : Nat, ∃ g : Seg, e < nEng ∧ (s.te e).cur = some g ∧ (s.te e).taking = true ∧ s.siteGoing g.site = true ∧ s.takeCheck g = 0) ∧
    (∃ s : State, ∃ e : Nat, ∃ g : Seg, e < nEng ∧ (s.te e).cur = some g ∧ (s.te e).taking = true ∧ s.siteGoing g.site = true ∧ s.takeCheck g ≠ 0) :=
  ⟨⟨placeS 7 2 id, 6, 0, by decide +kernel⟩,
    ⟨placeS 7 2 id, 6, 0, by decide +kernel⟩,
    ⟨placeS 7 2 id, 6, 0, by decide +kernel⟩,
    ⟨placeS 7 0 (fun s => { s with returned := [{ sg with queue := 5 }, sg, sg2] }), 6, 0, sg, by decide +kernel⟩,
    ⟨base 900, by decide +kernel⟩,
    ⟨offTe [0] (placeS 7 0 (fun s => { s with tes := [(0, { deque := [sg, sg2] }), (1, { deque := [sg2] })] })), 0, sg, [sg2], 2, by decide +kernel⟩,
    ⟨offTe [0, 1, 2] (placeS 7 0 (fun s => { s with tes := [(0, { deque := [sg, sg2] }), (1, { deque := [sg2] })] })), 0, sg, [sg2], by decide +kernel⟩,
    ⟨{ base 900 with tes := [(0, { slot := some (true, sg), deque := [sg2] })] }, 0, true, sg, by decide +kernel⟩,
    ⟨placeS 7 0 (fun s => { s with tes := [(0, { deque := [{ sg with site := 3 }, sg, sg2] })] }), 0, sg, [{ sg with site := 3 }], [sg2], by decide +kernel⟩,
    ⟨placeS 7 0 (fun s => { s with tes := [(0, {}), (1, { cur := some sg, deque := [sg2, { segG 256 20 1 0 0 with eff := 5000000 }] })] }), 0, 1, { segG 256 20 1 0 0 with eff := 5000000 }, by decide +kernel⟩,
    ⟨placeS 7 0 (fun s => { s with tes := [(0, {}), (1, { cur := some sg, deque := [sg2, sg] })] }), 0, 1, sg, by decide +kernel⟩,
    ⟨takeS (segOk 16777216 64 20 1 0) id, 0, segOk 16777216 64 20 1 0, by decide +kernel⟩,
    ⟨takeS (segOk 16777216 64 0 1 0) id, 0, segOk 16777216 64 0 1 0, by decide +kernel⟩⟩

/-- Inputs that meet the hypotheses of Obligations.DeadlinesResultsAndTicks, clause by clause. -/
theorem witness_DeadlinesResultsAndTicks :
    (∃ s : State, ∃ ch g q st eff : Nat, ch < 192 ∧ st < 16 ∧ s.siteGoing st = true ∧ (∀ i, i < 16 → i ≠ st → s.judged i g q ch = none) ∧ ¬ (s.chOwner ch = st ∧ (s.chan ch).present g q = true) ∧ s.judged st g q ch = some eff ∧ ttLt (s.now + 32 * fsNs) (eff + (s.chan ch).span (64 * q)) = false ∧ (s.site st).cut = none) ∧
    (∃ s : State, ∃ ch g q st : Nat, ch < 192 ∧ st < 16 ∧ s.siteGoing st = true ∧ (∀ i, i < 16 → i ≠ st → s.judged i g q ch = none) ∧ s.chOwner ch = st ∧ (s.chan ch).present g q = true) ∧
    (∃ s : State, ∃ ch g q st : Nat, ∃ b : Block, ch < 192 ∧ st < 16 ∧ s.siteGoing st = true ∧ (∀ i, i < 16 → i ≠ st → s.judged i g q ch = none) ∧ s.chOwner ch = st ∧ (s.chan ch).fifo.find? (fun b => b.segId == g && b.seq == q) = some b ∧ ttLe b.deadline s.now = true ∧ (s.fault (unitKey kSlice (s.sliceOf ch))).retired = false ∧ s.permanent (unitKey kSlice (s.sliceOf ch)) false = false) ∧
    (∃ s : State, ∃ r : Nat, r < 4 ∧ s.stage = .on ∧ (s.rgn r).shutdown = false ∧ (s.rgn r).temp < 115 * 1024) ∧
    (∃ s : State, ∃ r : Nat, r < 4 ∧ s.stage = .on ∧ (s.rgn r).shutdown = false ∧ 115 * 1024 ≤ (s.rgn r).temp) ∧
    (∃ s : State, ∃ ch : Nat, ∃ cl rising : Bool, ∃ tt : Nat, ch < 192 ∧ s.stage = .on ∧ s.pwr.analogOff = false ∧ tt < 2 ^ 64 ∧ (if cl then (s.chan ch).outCL else (s.chan ch).outCH) = !rising) ∧
    (∃ s : State, ∃ ch : Nat, ∃ cl rising : Bool, ∃ tt : Nat, ch < 192 ∧ s.stage = .on ∧ s.pwr.analogOff = false ∧ tt < 2 ^ 64 ∧ (if cl then (s.chan ch).outCL else (s.chan ch).outCH) = rising) ∧
    (∃ s : State, ∃ ch : Nat, ∃ v : CmpRes, ch < 192 ∧ nextRes (s.chan ch).results = some v ∧ ttReached s.now v.due = false) ∧
    (∃ s : State, ∃ ch : Nat, ∃ v : CmpRes, ch < 192 ∧ nextRes (s.chan ch).results = some v ∧ ttReached s.now v.due = true ∧ v.ev.holdv = false ∧ v.ev.sym ≠ symCAPT ∧ v.pass = true) ∧
    (∃ s : State, ∃ ch : Nat, ∃ v : CmpRes, ch < 192 ∧ nextRes (s.chan ch).results = some v ∧ ttReached s.now v.due = true ∧ v.ev.holdv = false ∧ v.ev.sym = symCAPT) ∧
    (∃ s : State, ∃ ch : Nat, ∃ v : CmpRes, ch < 192 ∧ nextRes (s.chan ch).results = some v ∧ ttReached s.now v.due = true ∧ v.ev.holdv = false ∧ v.ev.sym ≠ symCAPT ∧ v.pass = false) ∧
    (∃ s : State, ∃ ch : Nat, ∃ v : CmpRes, ch < 192 ∧ nextRes (s.chan ch).results = some v ∧ ttReached s.now v.due = true ∧ v.ev.holdv = true) ∧
    (∃ s : State, ∃ st : Nat, st ≤ 16 ∧ s.lclkDue st = false) ∧
    (∃ s : State, ∃ st : Nat, st ≤ 16 ∧ s.lclkDue st = true) :=
  ⟨⟨placeS 7 0 (fun s => { s with tes := [(0, { cur := some sg })] }), 0, 7, 0, 0, 200000, by decide +kernel⟩,
    ⟨(placeS 7 0 (fun s => { s with tes := [(0, { cur := some sg })] })).modChan 0 (fun c => { c with inTime := [(7, 0)] }), 0, 7, 0, 0, by decide +kernel⟩,
    ⟨(placeS 7 0 (fun s => { s with tes := [(0, { cur := some sg })] })).modChan 0 (fun c => { c with fifo := [{ blk0 with tt := 200000 }] }), 0, 7, 0, 0, { blk0 with tt := 200000 }, by decide +kernel⟩,
    ⟨base 900, 1, by decide +kernel⟩,
    ⟨(runBase 900 (fun x => x) (fun c => { c with drvMode := 3 })).modRgn 0 (fun x => { x with temp := 118000 }), 0, by decide +kernel⟩,
    ⟨base 900, 0, true, true, 12345, by decide +kernel⟩,
    ⟨base 900, 0, true, false, 12345, by decide +kernel⟩,
    ⟨runBase 900 (fun x => x) (fun c => { c with results := [{ due := 900000 }] }), 0, { due := 900000 }, by decide +kernel⟩,
    ⟨resS { due := 9000, ev := { sym := 4 } } id, 0, { due := 9000, ev := { sym := 4 } }, by decide +kernel⟩,
    ⟨resS { due := 9000, ev := { sym := symCAPT }, capt := true } id, 0, { due := 9000, ev := { sym := symCAPT }, capt := true }, by decide +kernel⟩,
    ⟨resS { due := 9000, at_ := 77, pass := false, ev := { sym := 4, segId := 7 } } (fun s => { s with tes := [(0, { cur := some sg })] }), 0, { due := 9000, at_ := 77, pass := false, ev := { sym := 4, segId := 7 } }, by decide +kernel⟩,
    ⟨resS { due := 9000, at_ := 77, pass := false, ev := { sym := 4, segId := 7, seq := 1, k := 3, holdv := true } } (fun s => { s with tes := [(0, { cur := some sg, cond := some { kind := 1, u0 := 60 } })] }), 0, { due := 9000, at_ := 77, pass := false, ev := { sym := 4, segId := 7, seq := 1, k := 3, holdv := true } }, by decide +kernel⟩,
    ⟨base 900, 0, by decide +kernel⟩,
    ⟨(siteBase 16000 (fun x => x)).modChan 0 (fun c => { c with lvlq := [{ dac := 2, code := 500, stamp := 100 }] }), 0, by decide +kernel⟩⟩

/-- Inputs that meet the hypotheses of Obligations.OwnersChangeOnlyBetweenIdleSites, clause by clause. -/
theorem witness_OwnersChangeOnlyBetweenIdleSites :
    (∃ s : State, ∃ fn ty inst o v : Nat, s.accepts fn ty inst 0x020 = true ∧ o ≤ 16 ∧ v < 256 ∧ (o < 16 → v ≤ 63) ∧ o = (s.hdr ty inst).owner) ∧
    (∃ s : State, ∃ fn ty inst o v : Nat, s.accepts fn ty inst 0x020 = true ∧ o ≤ 16 ∧ v < 256 ∧ (o < 16 → v ≤ 63) ∧ o ≠ (s.hdr ty inst).owner ∧ ownable ty = true ∧ s.moveBad ty inst o = false) ∧
    (∃ s : State, ∃ fn ty inst o v : Nat, s.accepts fn ty inst 0x020 = true ∧ o ≤ 16 ∧ v < 256 ∧ (o < 16 → v ≤ 63) ∧ o ≠ (s.hdr ty inst).owner ∧ (ownable ty = false ∨ s.moveBad ty inst o = true)) ∧
    (∃ s : State, ∃ fn st k val : Nat, k < 6 ∧ s.accepts fn Ty.site st (0x060 + 4 * k) = true ∧ (∀ j, j < 32 → (val.testBit j = true → s.chOwner (32 * k + j) = st ∨ (s.chOwner (32 * k + j) = 16 ∧ s.moveBad Ty.tg (32 * k + j) st = false)) ∧ (val.testBit j = false → s.chOwner (32 * k + j) = st → s.moveBad Ty.tg (32 * k + j) 16 = false))) ∧
    (∃ s : State, ∃ fn st k val j : Nat, k < 6 ∧ s.accepts fn Ty.site st (0x060 + 4 * k) = true ∧ j < 32 ∧ val.testBit j = true ∧ s.chOwner (32 * k + j) ≠ st ∧ s.chOwner (32 * k + j) ≠ 16) ∧
    (∃ s : State, ∃ fn st val : Nat, s.accepts fn Ty.site st 0x078 = true ∧ (s.cluMoves st val).all (fun p => !s.moveBad p.1 p.2.1 p.2.2) = true) ∧
    (∃ s : State, ∃ fn st val : Nat, s.accepts fn Ty.site st 0x088 = true ∧ bits val 0 20 + (s.site st).qCount ≤ 1048576 ∧ (s.site st).qCount ≤ 1048576 ∧ s.siteIdle st = true ∧ (∀ i, i < 16 → i ≠ st → rangesMeet (bits val 0 20) (s.site st).qCount (s.site i).qBase (s.site i).qCount = false) ∧ (∀ p ∈ s.queues, p.2.enable = true → inRange (s.site st).qBase (s.site st).qCount p.1 = inRange (bits val 0 20) (s.site st).qCount p.1)) ∧
    (∃ s : State, ∃ fn st val i : Nat, s.accepts fn Ty.site st 0x08C = true ∧ bits val 0 21 ≤ 1048576 ∧ (s.site st).qBase + bits val 0 21 ≤ 1048576 ∧ i < 16 ∧ i ≠ st ∧ rangesMeet (s.site st).qBase (bits val 0 21) (s.site i).qBase (s.site i).qCount = true) :=
  ⟨⟨base 900, 0, Ty.te, 3, 16, 5, by decide +kernel⟩,
    ⟨base 900, 0, Ty.tg, 3, 2, 5, by decide +kernel⟩,
    ⟨base 900, 0, Ty.madc, 3, 2, 5, by decide +kernel⟩,
    ⟨siteBase 900 id, 0, 0, 0, 5, by decide +kernel⟩,
    ⟨siteBase 900 id, 0, 1, 0, 5, 0, by decide +kernel⟩,
    ⟨siteBase 900 id, 0, 0, 1, by decide +kernel⟩,
    ⟨siteBase 900 id, 0, 0, 7, by decide +kernel⟩,
    ⟨siteBase 900 id, 0, 1, 6, 0, by decide +kernel⟩⟩

/-- Inputs that meet the hypotheses of Obligations.EngineMaskIsWrittenOnlyWhileIdle, clause by clause. -/
theorem witness_EngineMaskIsWrittenOnlyWhileIdle :
    (∃ s : State, ∃ st k _val : Nat, k < 3 ∧ s.accepts 0 Ty.site st (0x07C + 4 * k) = true ∧ s.siteIdle st = true) ∧
    (∃ s : State, ∃ st k _val : Nat, k < 3 ∧ s.accepts 0 Ty.site st (0x07C + 4 * k) = true ∧ s.siteIdle st = false) ∧
    (∃ s : State, ∃ st k _val _i : Nat, k < 3 ∧ s.accepts 0 Ty.site st (0x07C + 4 * k) = true ∧ s.siteIdle st = false) ∧
    (∃ _s : State, ∃ fn st k _val : Nat, k < 3 ∧ st < 16 ∧ fn ≠ 0 ∧ fn < 18) :=
  ⟨⟨siteBase 900 (fun x => { x with teMask := 2 ^ 96 - 1 }), 0, 1, 0x1234, by decide +kernel⟩,
    ⟨siteBase 900 (fun x => { x with st := .armed }), 0, 1, 0x1234, by decide +kernel⟩,
    ⟨siteBase 900 (fun x => { x with st := .armed }), 0, 1, 0x1234, 0, by decide +kernel⟩,
    ⟨siteBase 900 id, 1, 0, 1, 5, by decide +kernel⟩⟩

/-- Inputs that meet the hypotheses of Obligations.MemoryUnitsServeTestAndLoad, clause by clause. -/
theorem witness_MemoryUnitsServeTestAndLoad :
    (∃ s : State, ∃ r : BankReq, r.ok = true ∧ s.stage = .on ∧ s.glb.bmemClear = true ∧ s.bmem.active = false) ∧
    (∃ s : State, ∃ x y : BankReq, ∃ dx dy : List Byte, s.stage = .on ∧ s.glb.bmemClear = true ∧ s.bmem.active = false ∧ x.ok = true ∧ y.ok = true ∧ x.portB = false ∧ y.portB = true ∧ x.off = y.off ∧ 0x1000000 ≤ x.off ∧ x.data = some dx ∧ y.data = some dy ∧ dx ≠ dy ∧ dx.length = dy.length ∧ x.off % 32 + dx.length ≤ 32) ∧
    (∃ s : State, ∃ x y : BankReq, s.stage = .on ∧ s.glb.bmemClear = true ∧ s.bmem.active = false ∧ x.ok = true ∧ y.ok = true ∧ x.portB = false ∧ y.portB = false ∧ x.bank = y.bank ∧ x.data = none ∧ y.data = none ∧ 0x1000000 ≤ x.off ∧ 0x1000000 ≤ y.off ∧ x.off % 32 + x.len ≤ 32 ∧ y.off % 32 + y.len ≤ 32) ∧
    (∃ s : State, s.bmem.testEn = true ∧ s.inMode [.ready, .run, .service] = true ∧ s.bmem.active = false ∧ s.bmem.startAt.any (fun x => decide (s.up < x + s.bmem.interval * fsMs)) = false) ∧
    (∃ s : State, s.bmem.testEn = false) ∧
    (∃ s : State, s.bmem.active = true) ∧
    (∃ s : State, ∃ o : Nat, s.bmem.active = true ∧ o / 65536 = s.bmem.region ∧ s.bmem.suspect.contains (o / 32 * 32) = false ∧ s.permanent (unitKey kBank (o / 32 % 64)) false = false) ∧
    (∃ s : State, ∃ _t0 _t1 _t2 : Int × Nat, s.stage = .on) ∧
    (∃ s : State, ∃ i _thr : Nat, ∃ _served _demand : List Nat, ∃ _bp : Bool, i < 3 ∧ s.stage = .on) ∧
    (∃ s : State, ∃ sigs : Nat, s.stage = .on ∧ s.glb.bmemClear = true ∧ s.glb.fwOk = true ∧ s.glb.mcLoaded = false ∧ (∀ r, r < 4 → (s.mcSlots r).newest.any (fun p => slotCheck p.2 (sigs.testBit (2 * r + b2n (s.mcSlots r).newer)) s.sec.mcFloor == 0) = true)) ∧
    (∃ s : State, ∃ sigs : Nat, s.stage = .on ∧ s.glb.bmemClear = true ∧ s.glb.fwOk = true ∧ s.glb.mcLoaded = false ∧ (∀ r, r < 4 → (s.mcSlots r).newest.any (fun p => slotCheck p.2 (sigs.testBit (2 * r + b2n (s.mcSlots r).newer)) s.sec.mcFloor == 0) = false ∧ (s.mcSlots r).older.any (fun p => slotCheck p.2 (sigs.testBit (2 * r + b2n (!(s.mcSlots r).newer))) s.sec.mcFloor == 0) = true)) ∧
    (∃ s : State, ∃ _sigs : Nat, s.stage = .on ∧ s.glb.bmemClear = true ∧ s.glb.fwOk = true ∧ s.glb.mcLoaded = false ∧ s.nor.mcStage = none ∧ (∀ r, r < 4 → (s.mcSlots r).newest = none ∧ (s.mcSlots r).older = none)) :=
  ⟨⟨bm 900 (fun b => b), { master := 3, off := 0x5A00040, len := 8 }, by decide +kernel⟩,
    ⟨bm 900 (fun b => b), { master := 3, off := 0x5A00040, data := some [1, 2] }, { master := 14, off := 0x5A00040, data := some [3, 4] }, [1, 2], [3, 4], by decide +kernel⟩,
    ⟨bm 900 (fun b => { b with winA := [(2, 4)] }), { master := 3, off := 0x5A00040, len := 2 }, { master := 7, off := 0x5A00044, len := 2 }, by decide +kernel⟩,
    ⟨base 900, by decide +kernel⟩,
    ⟨bm 900 (fun b => { b with testEn := false }), by decide +kernel⟩,
    ⟨bm 900 (fun b => { b with active := true, marching := true }), by decide +kernel⟩,
    ⟨bm 900 (fun b => { b with active := true, marching := true }), 96, by decide +kernel⟩,
    ⟨base 900, (98000, 3), (1, 0), (2, 5), by decide +kernel⟩,
    ⟨base 900, 1, 7, [1, 2, 3, 4], [5, 6, 7, 70000], true, by decide +kernel⟩,
    ⟨mcS (fun n => n), 0x55, by decide +kernel⟩,
    ⟨mcS (fun n => { n with mc := [(0, sl2), (1, sl2), (2, sl2), (3, sl2)] }), 0x55, by decide +kernel⟩,
    ⟨mcS (fun n => { n with mc := [(0, {}), (1, {}), (2, {}), (3, {})] }), 0x55, by decide +kernel⟩⟩

/-- Inputs that meet the hypotheses of Obligations.HistogramValuesEnterTheirBins, clause by clause. -/
theorem witness_HistogramValuesEnterTheirBins :
    ∃ s : State, ∃ k : Nat, ∃ v O W : Int, ∃ rest : List Int, k < 24 ∧ (s.hist k).feed = v :: rest ∧ O = (s.hist k).origin ∧ W = ((s.hist k).width : Int) ∧ 0 < W :=
  ⟨{ base 900 with hists := [(0, { run := true, origin := -5, width := 3, feed := [7, 9] })] }, 0, 7, -5, 3, [9], by decide +kernel⟩

/-- Inputs that meet the hypotheses of Obligations.HistogramsAndErrorRingAdvance, clause by clause. -/
theorem witness_HistogramsAndErrorRingAdvance :
    (∃ s : State, ∃ fn k : Nat, s.accepts fn Ty.hist k 0x040 = true ∧ (s.hdr Ty.hist k).en = true) ∧
    (∃ s : State, ∃ fn k : Nat, s.accepts fn Ty.hist k 0x040 = true ∧ (s.hdr Ty.hist k).en = false ∧ (s.hist k).run = false) ∧
    (∃ s : State, ∃ fn k : Nat, s.accepts fn Ty.hist k 0x040 = true) ∧
    (∃ s : State, ∃ fn k : Nat, s.accepts fn Ty.hist k 0x040 = true ∧ (s.hist k).run = true) ∧
    (∃ s : State, ∃ fn k : Nat, s.accepts fn Ty.hist k 0x040 = true ∧ (s.hist k).run = false) ∧
    (∃ s : State, ∃ ns : Nat, ns ∉ s.hlth.lat) ∧
    (∃ s : State, ∃ ns : Nat, ns ∈ s.hlth.lat) ∧
    (∃ s : State, s.hlth.sampledAt * 256 + fsUs ≤ s.up ∧ s.hlth.qdepth.run = true) ∧
    (∃ s : State, s.hlth.sampledAt * 256 + fsUs ≤ s.up ∧ s.hlth.qdepth.run = false) ∧
    (∃ s : State, ∃ fn : Nat, s.accepts fn Ty.hlth 0 0x060 = true ∧ s.hlth.cmdlat.shift < 16 ∧ s.hlth.qdepth.shift < 16 ∧ s.hlth.queue < 2 ^ 20 ∧ s.hlth.cmdlat.run = false) ∧
    (∃ s : State, ∃ fn : Nat, s.accepts fn Ty.hlth 0 0x060 = true ∧ s.hlth.cmdlat.shift < 16 ∧ s.hlth.qdepth.shift < 16 ∧ s.hlth.queue < 2 ^ 20 ∧ s.hlth.qdepth.run = false) ∧
    (∃ s : State, ∃ fn : Nat, s.accepts fn Ty.hlth 0 0x060 = true ∧ s.hlth.cmdlat.shift < 16 ∧ s.hlth.qdepth.shift < 16 ∧ s.hlth.queue < 2 ^ 20 ∧ s.hlth.cmdlat.run = true) ∧
    (∃ s : State, ∃ fn : Nat, s.accepts fn Ty.hlth 0 0x060 = true ∧ s.hlth.cmdlat.shift < 16 ∧ s.hlth.qdepth.shift < 16 ∧ s.hlth.queue < 2 ^ 20 ∧ s.hlth.qdepth.run = true) ∧
    (∃ s : State, s.errCanWrite = false) ∧
    (∃ s : State, ∃ x : ErrEntry, ∃ rest : List ErrEntry, s.errCanWrite = true ∧ s.err.reserve = x :: rest) ∧
    (∃ s : State, s.errCanWrite = true ∧ s.err.reserve = [] ∧ 0 < s.err.missed) ∧
    (∃ s : State, ∃ x : ErrEntry, ∃ rest : List ErrEntry, s.err.ring = x :: rest ∧ s.err.valid = true ∧ x.open_ = false ∧ 0 < (s.queue s.err.queue).room) ∧
    (∃ s : State, ∃ x : ErrEntry, ∃ rest : List ErrEntry, s.err.ring = x :: rest ∧ x.open_ = true) :=
  ⟨⟨base 900, 0, 3, by decide +kernel⟩,
    ⟨(base 900).modHdr Ty.hist 3 (fun h => { h with en := false }), 0, 3, by decide +kernel⟩,
    ⟨(base 900).modHist 3 (fun h => { h with run := true }), 0, 3, by decide +kernel⟩,
    ⟨(base 900).modHist 3 (fun h => { h with run := true }), 0, 3, by decide +kernel⟩,
    ⟨(base 900).modHist 3 (fun h => { h with count := 3 }), 0, 3, by decide +kernel⟩,
    ⟨base 900, 7, by decide +kernel⟩,
    ⟨(base 900).modHlth (fun h => { h with lat := [5000, 1] }), 5000, by decide +kernel⟩,
    ⟨(base 90000).modHlth (fun h => { h with qdepth := { run := true } }), by decide +kernel⟩,
    ⟨base 90000, by decide +kernel⟩,
    ⟨(base 900).modHlth (fun h => { h with cmdlat := { run := false, shift := 3, count := 3 } }), 0, by decide +kernel⟩,
    ⟨(base 900).modHlth (fun h => { h with cmdlat := { run := false, shift := 3, count := 3 } }), 0, by decide +kernel⟩,
    ⟨base 900, 0, by decide +kernel⟩,
    ⟨(base 900).modHlth (fun h => { h with qdepth := { run := true } }), 0, by decide +kernel⟩,
    ⟨{ base 900 with err := { lastWrite := some (900 * 256) } }, by decide +kernel⟩,
    ⟨{ base 900 with err := { reserve := [{ code := 0x1234 }, {}] } }, { code := 0x1234 }, [{}], by decide +kernel⟩,
    ⟨{ base 900 with err := { missed := 5, missFirst := 3, missLast := 9 } }, by decide +kernel⟩,
    ⟨{ base 900 with err := { valid := true, queue := 5, ring := [{ open_ := false, seq := 7 }] }, queues := [(5, { base := 4096, log2 := 4, type := 4, enable := true })] }, { open_ := false, seq := 7 }, [], by decide +kernel⟩,
    ⟨{ base 900 with err := { valid := true, queue := 5, ring := [{ seq := 7 }] } }, { seq := 7 }, [], by decide +kernel⟩⟩

/-- Inputs that meet the hypotheses of Obligations.CommandsCompleteInTheirQueue, clause by clause. -/
theorem witness_CommandsCompleteInTheirQueue :
    (∃ s : State, ∃ q : Nat, ∃ c : Cmd, s.takes q c ∧ c.code = 0x01 ∧ c.formOk [] = true) ∧
    (∃ s : State, ∃ q : Nat, ∃ c : Cmd, s.takes q c ∧ c.code = 0x01 ∧ c.formOk [] = false) ∧
    (∃ s : State, ∃ q : Nat, ∃ c : Cmd, s.takes q c ∧ cmdCodes.contains c.code = false) ∧
    (∃ s : State, ∃ q : Nat, ∃ c : Cmd, ∃ _err : Option Nat, s.takes q c ∧ c.code = 0x30 ∧ c.formOk [0xFF07, m64] = true ∧ (c.fn ≠ 0 ∨ s.cmdMode c.fn = false)) ∧
    (∃ s : State, ∃ q : Nat, ∃ c : Cmd, ∃ ch : Nat, s.takes q c ∧ s.cmdMode c.fn = true ∧ c.code = 0x30 ∧ c.formOk [0xFF07, m64] = true ∧ c.fn = 0 ∧ ch = bits (c.arg 0) 8 8 ∧ ch < 192 ∧ bits (c.arg 0) 0 3 = ch / 48) ∧
    (∃ s : State, ∃ q : Nat, ∃ c : Cmd, ∃ ch _k : Nat, s.takes q c ∧ s.cmdMode c.fn = true ∧ c.code = 0x30 ∧ c.formOk [0xFF07, m64] = true ∧ c.fn = 0 ∧ ch = bits (c.arg 0) 8 8 ∧ ch < 192 ∧ bits (c.arg 0) 0 3 = ch / 48) ∧
    (∃ s : State, ∃ q : Nat, ∃ c : Cmd, ∃ st b n : Nat, s.takes q c ∧ s.cmdMode c.fn = true ∧ c.code = 0x20 ∧ c.formOk [0xFFFFF00FF] = true ∧ b = bits (c.arg 0) 0 8 ∧ n = bits (c.arg 0) 16 16 ∧ (c.fn = 0 → st = bits (c.arg 0) 32 4) ∧ (c.fn ≠ 0 → c.fn ≤ 16 ∧ st = c.fn - 1) ∧ 0 < n ∧ s.siteIdle st = true) ∧
    (∃ s : State, ∃ q : Nat, ∃ c : Cmd, ∃ st b n : Nat, s.takes q c ∧ s.cmdMode c.fn = true ∧ c.code = 0x20 ∧ c.formOk [0xFFFFF00FF] = true ∧ b = bits (c.arg 0) 0 8 ∧ n = bits (c.arg 0) 16 16 ∧ (c.fn = 0 → st = bits (c.arg 0) 32 4) ∧ (c.fn ≠ 0 → c.fn ≤ 16 ∧ st = c.fn - 1) ∧ n = 0) ∧
    (∃ s : State, ∃ q : Nat, ∃ c : Cmd, ∃ st b n : Nat, s.takes q c ∧ s.cmdMode c.fn = true ∧ c.code = 0x20 ∧ c.formOk [0xFFFFF00FF] = true ∧ b = bits (c.arg 0) 0 8 ∧ n = bits (c.arg 0) 16 16 ∧ (c.fn = 0 → st = bits (c.arg 0) 32 4) ∧ (c.fn ≠ 0 → c.fn ≤ 16 ∧ st = c.fn - 1) ∧ 0 < n ∧ s.siteIdle st = false) ∧
    (∃ s : State, ∃ q : Nat, ∃ c : Cmd, ∃ st r : Nat, ∃ tb : List Byte, s.takes q c ∧ s.cmdMode c.fn = true ∧ c.code = 0x21 ∧ c.formOk [3, 2 ^ 27 - 1] = true ∧ 1 ≤ c.fn ∧ c.fn ≤ 16 ∧ st = c.fn - 1 ∧ r = bits (c.arg 0) 0 2 ∧ s.siteIdle st = true ∧ c.arg 1 % 256 = 0 ∧ addrOk (bankBase + c.arg 1 + 255) = true ∧ s.granted st (bankBase + c.arg 1) 256 = true ∧ s.inGrant (bankBase + c.arg 1) 256 = false ∧ tb = s.bytes (bankBase + c.arg 1) 256 ∧ scrambleForm tb = true ∧ s.scrambleOwned r st tb = true) ∧
    (∃ s : State, ∃ q : Nat, ∃ c : Cmd, ∃ _data : List Byte, s.takes q c ∧ s.cmdMode c.fn = true ∧ c.code = 0x10 ∧ c.formOk [m40, m64, m32] = true ∧ s.memWaits (c.arg 0) = false ∧ s.rangeCode c.fn (c.arg 0) (c.arg 2) = 0 ∧ s.sealedAt (c.arg 0) = false ∧ s.bmem.active = false) ∧
    (∃ s : State, ∃ q : Nat, ∃ c : Cmd, ∃ _data : List Byte, s.takes q c ∧ s.cmdMode c.fn = true ∧ c.code = 0x10 ∧ c.formOk [m40, m64, m32] = true ∧ s.memWaits (c.arg 0) = false ∧ s.rangeCode c.fn (c.arg 0) (c.arg 2) ≠ 0) ∧
    (∃ s : State, ∃ q : Nat, ∃ c : Cmd, s.takes q c ∧ s.cmdMode c.fn = true ∧ c.code = 0x11 ∧ c.formOk [m64, m40, m32] = true ∧ s.memWaits (c.arg 1) = false ∧ s.rangeCode c.fn (c.arg 1) (c.arg 2) = 0 ∧ s.bmem.active = false) ∧
    (∃ s : State, ∃ q : Nat, ∃ c : Cmd, ∃ _k : Nat, s.takes q c ∧ s.cmdMode c.fn = true ∧ c.code = 0x11 ∧ c.formOk [m64, m40, m32] = true ∧ s.memWaits (c.arg 1) = false ∧ s.rangeCode c.fn (c.arg 1) (c.arg 2) = 0 ∧ s.bmem.active = false) ∧
    (∃ s : State, ∃ q : Nat, ∃ c : Cmd, ∃ n : Nat, s.takes q c ∧ s.cmdMode c.fn = true ∧ c.code = 0x12 ∧ c.formOk [2 ^ 20 - 1, m64, m32] = true ∧ s.memWaits (s.queue (c.arg 0)).base = false ∧ s.queueOutCode c.fn (c.arg 0) = 0 ∧ n = (s.queue (c.arg 0)).outSlots (c.arg 2)) ∧
    (∃ s : State, ∃ q : Nat, ∃ c : Cmd, ∃ n _k : Nat, s.takes q c ∧ s.cmdMode c.fn = true ∧ c.code = 0x12 ∧ c.formOk [2 ^ 20 - 1, m64, m32] = true ∧ s.memWaits (s.queue (c.arg 0)).base = false ∧ s.queueOutCode c.fn (c.arg 0) = 0 ∧ n = (s.queue (c.arg 0)).outSlots (c.arg 2)) ∧
    (∃ s : State, ∃ q : Nat, ∃ c : Cmd, q < 2 ^ 20 ∧ s.headCmd q = some c ∧ s.cmdTurn c.fn = true ∧ c.code = 0x01 ∧ s.cqOk c = false) :=
  ⟨⟨cmdS false (cmdRaw 1 []) id, 6, cmdC false (cmdRaw 1 []), by decide +kernel⟩,
    ⟨cmdS false (cmdRaw 1 [5]) id, 6, cmdC false (cmdRaw 1 [5]), by decide +kernel⟩,
    ⟨cmdS false (cmdRaw 2 [5]) id, 6, cmdC false (cmdRaw 2 [5]), by decide +kernel⟩,
    ⟨cmdS false (cmdRaw 0x30 [0x101, 64]) id, 6, cmdC false (cmdRaw 0x30 [0x101, 64]), none, by decide +kernel⟩,
    ⟨cmdS true (cmdRaw 0x30 [0x3201, 64]) id, 6, cmdC true (cmdRaw 0x30 [0x3201, 64]), 50, by decide +kernel⟩,
    ⟨cmdS true (cmdRaw 0x30 [0x3201, 64]) id, 6, cmdC true (cmdRaw 0x30 [0x3201, 64]), 50, 7, by decide +kernel⟩,
    ⟨cmdS true (cmdRaw 0x20 [5 * 65536 + 3 + 2 ^ 32]) id, 6, cmdC true (cmdRaw 0x20 [5 * 65536 + 3 + 2 ^ 32]), 1, 3, 5, by decide +kernel⟩,
    ⟨cmdS false (cmdRaw 0x20 [3 + 2 ^ 32]) id, 6, cmdC false (cmdRaw 0x20 [3 + 2 ^ 32]), 0, 3, 0, by decide +kernel⟩,
    ⟨(cmdS false (cmdRaw 0x20 [5 * 65536 + 3 + 2 ^ 32]) id).modSite 0 (fun x => { x with st := .armed }), 6, cmdC false (cmdRaw 0x20 [5 * 65536 + 3 + 2 ^ 32]), 0, 3, 5, by decide +kernel⟩,
    ⟨scrS, 6, cmdC false (cmdRaw 0x21 [0, 0x5A00000]), 0, 0, scrT, by decide +kernel⟩,
    ⟨cmdS false (cmdRaw 0x10 [0x8000, 0, 4]) (fun s => { s with hbmHolder := [(0, 0)] }), 6, cmdC false (cmdRaw 0x10 [0x8000, 0, 4]), [1, 2, 3, 4, 5], by decide +kernel⟩,
    ⟨cmdS false (cmdRaw 0x10 [0x8000, 0, 4]) id, 6, cmdC false (cmdRaw 0x10 [0x8000, 0, 4]), [1, 2], by decide +kernel⟩,
    ⟨cmdS false (cmdRaw 0x11 [64, 4096, 400]) (fun s => { s with hbmHolder := [(0, 0)] }), 6, cmdC false (cmdRaw 0x11 [64, 4096, 400]), by decide +kernel⟩,
    ⟨cmdS false (cmdRaw 0x11 [64, 4096, 400]) (fun s => { s with hbmHolder := [(0, 0)] }), 6, cmdC false (cmdRaw 0x11 [64, 4096, 400]), 5, by decide +kernel⟩,
    ⟨cmdS false (cmdRaw 0x12 [7, 64, 400]) id, 6, cmdC false (cmdRaw 0x12 [7, 64, 400]), 1, by decide +kernel⟩,
    ⟨cmdS false (cmdRaw 0x12 [7, 64, 400]) id, 6, cmdC false (cmdRaw 0x12 [7, 64, 400]), 1, 5, by decide +kernel⟩,
    ⟨(cmdS false (cmdRaw 1 []) id).modQueue 7 (fun d => { d with enable := false }), 6, cmdC false (cmdRaw 1 []), by decide +kernel⟩⟩

/-- Inputs that meet the hypotheses of Obligations.GrantsAndInstallsComplete, clause by clause. -/
theorem witness_GrantsAndInstallsComplete :
    (∃ s : State, ∃ q : Nat, ∃ c : Cmd, ∃ g : Grant, s.takes q c ∧ c.code = 0x50 ∧ c.formOk [0x11F, m32] = true ∧ c.fn = 0 ∧ s.cmdMode 0 = true ∧ g = { cq := c.cq, tag := c.tag, seen := c.seen, holder := bits (c.arg 0) 0 5, bank := (c.arg 0).testBit 8, first := bits (c.arg 1) 0 16, count := bits (c.arg 1) 16 16 } ∧ g.holder ≤ 16 ∧ 0 < g.count ∧ g.first + g.count ≤ (if g.bank then 112 else 288) ∧ s.siteIdle g.holder = true ∧ (∀ u, u < g.first + g.count → g.first ≤ u → s.siteIdle (s.unitHolder g.bank u) = true) ∧ s.unitsUsed g.range.1 g.range.2 = false) ∧
    (∃ s : State, ∃ q : Nat, ∃ c : Cmd, ∃ g : Grant, s.takes q c ∧ c.code = 0x50 ∧ c.formOk [0x11F, m32] = true ∧ c.fn = 0 ∧ s.cmdMode 0 = true ∧ g = { cq := c.cq, tag := c.tag, seen := c.seen, holder := bits (c.arg 0) 0 5, bank := (c.arg 0).testBit 8, first := bits (c.arg 1) 0 16, count := bits (c.arg 1) 16 16 } ∧ (16 < g.holder ∨ g.count = 0 ∨ (if g.bank then 112 else 288) < g.first + g.count)) ∧
    (∃ s : State, ∃ g : Grant, s.qmgr.grant = some g ∧ g.holder ≤ 16 ∧ 0 < (s.queue g.cq).room ∧ (s.fn 0).held.all (fun h => h.1 != g.cq) = true ∧ (s.queue g.cq).type = 3) ∧
    (∃ s : State, ∃ q : Nat, ∃ c : Cmd, ∃ _key : List Byte, s.takes q c ∧ c.code = 0x40 ∧ c.formOk [2 ^ 27 - 1, m32, 0xF] = true ∧ c.fn = 0 ∧ s.inMode [.service] = false) ∧
    (∃ s : State, ∃ q : Nat, ∃ c : Cmd, s.takes q c ∧ c.code = 0x40 ∧ c.formOk [2 ^ 27 - 1, m32, 0xF] = true ∧ c.fn = 0 ∧ s.inMode [.service] = true ∧ s.rangeCode 0 (bankBase + c.arg 0) (c.arg 1) = 0 ∧ imageCheck (s.bytes (bankBase + c.arg 0) (c.arg 1)) true s.sec.mcFloor = 0) ∧
    (∃ s : State, ∃ q : Nat, ∃ c : Cmd, ∃ key : List Byte, s.takes q c ∧ c.code = 0x40 ∧ c.formOk [2 ^ 27 - 1, m32, 0xF] = true ∧ c.fn = 0 ∧ s.inMode [.service] = true ∧ s.rangeCode 0 (bankBase + c.arg 0) (c.arg 1) = 0 ∧ imageFormOk (s.bytes (bankBase + c.arg 0) (c.arg 1)) = true ∧ c.arg 2 ≠ 0 ∧ key ≠ s.mcKey) ∧
    (∃ s : State, ∃ m cq tag seen : Nat, ∃ i : McImage, s.nor.mcStage = some (m, i, cq, tag, seen) ∧ (bitList m 4).isEmpty = false ∧ (∀ r, r < 4 → m.testBit r = true → (s.rgn r).instN = none)) ∧
    (∃ s : State, ∃ m cq tag seen : Nat, ∃ i : McImage, s.nor.mcStage = some (m, i, cq, tag, seen) ∧ (∀ r, r < 4 → m.testBit r = true → (s.rgn r).instN = some 24) ∧ 0 < (s.queue cq).room ∧ (s.fn 0).held.all (fun h => h.1 != cq) = true) ∧
    (∃ s : State, ∃ a n e : Nat, ∃ g : Seg, a < hbmTop ∧ n = a / 4096 % 3 ∧ s.stage = .on ∧ s.glb.hbmClear = true ∧ s.permanent (unitKey kStack n) false = false ∧ e < nEng ∧ (s.te e).cur = some g ∧ g.ip ≤ a ∧ a < g.ip + 32 * g.len) ∧
    (∃ s : State, ∃ a n q : Nat, a < hbmTop ∧ n = a / 4096 % 3 ∧ s.stage = .on ∧ s.glb.hbmClear = true ∧ s.permanent (unitKey kStack n) false = false ∧ q < 2 ^ 20 ∧ s.placeable.contains q = true ∧ (s.queue q).base + 64 * (s.queue q).head ≤ a ∧ a < (s.queue q).base + 64 * (s.queue q).head + 64) ∧
    (∃ s : State, ∃ a n q : Nat, ∃ c : Cmd, ∃ host : Nat, ∃ l : List Byte, a < hbmTop ∧ n = a / 4096 % 3 ∧ s.stage = .on ∧ s.glb.hbmClear = true ∧ s.permanent (unitKey kStack n) false = false ∧ s.takes q c ∧ c.code = 0x11 ∧ s.movedBefore c a = some (host, l)) ∧
    (∃ s : State, ∃ a n r st : Nat, ∃ tb : List Byte, a < hbmTop ∧ n = a / 4096 % 3 ∧ s.stage = .on ∧ s.glb.hbmClear = true ∧ s.permanent (unitKey kStack n) false = false ∧ r < 4 ∧ st < 16 ∧ (s.part r st).table = some tb ∧ fromLe ((tb.drop 8).take 8) ≤ a ∧ a < fromLe ((tb.drop 8).take 8) + 2 ^ ((tb.getD 1 0).toNat - 3)) :=
  ⟨⟨cmdS true (cmdRaw 0x50 [0x103, 2 * 65536 + 5]) id, 6, cmdC true (cmdRaw 0x50 [0x103, 2 * 65536 + 5]), { cq := 7, tag := 77, seen := 900, holder := 3, bank := true, first := 5, count := 2 }, by decide +kernel⟩,
    ⟨cmdS true (cmdRaw 0x50 [0x012, 2 * 65536 + 5]) id, 6, cmdC true (cmdRaw 0x50 [0x012, 2 * 65536 + 5]), { cq := 7, tag := 77, seen := 900, holder := 18, bank := false, first := 5, count := 2 }, by decide +kernel⟩,
    ⟨(cmdS true [] (fun s => putB s (5 * 2 ^ 28 + 100) [1, 2, 3])).modQmgr (fun m => { m with grant := some { cq := 7, holder := 2, first := 5, count := 2 } }), { cq := 7, holder := 2, first := 5, count := 2 }, by decide +kernel⟩,
    ⟨cmdS true (cmdRaw 0x40 [0x5A00000, 400, 3]) id, 6, cmdC true (cmdRaw 0x40 [0x5A00000, 400, 3]), [1], by decide +kernel⟩,
    ⟨svc (cmdS true (cmdRaw 0x40 [0x5A00000, 1072, 3]) (fun s => { putB s (bankBase + 0x5A00000) imgB with bankHolder := (List.range 112).map (fun u => (u, 16)) })), 6, cmdC true (cmdRaw 0x40 [0x5A00000, 1072, 3]), by decide +kernel⟩,
    ⟨svc (cmdS true (cmdRaw 0x40 [0x5A00000, 1072, 3]) (fun s => { putB s (bankBase + 0x5A00000) imgB with bankHolder := (List.range 112).map (fun u => (u, 16)) })), 6, cmdC true (cmdRaw 0x40 [0x5A00000, 1072, 3]), [1], by decide +kernel⟩,
    ⟨{ base 900 with nor := { mcStage := some (3, McImage.blank, 7, 77, 800) } }, 3, 7, 77, 800, McImage.blank, by decide +kernel⟩,
    ⟨(cmdS true [] (fun s => { s with nor := { mcStage := some (3, { McImage.blank with version := 9 }, 7, 77, 800) } })).modRgn 0 (fun x => { x with instN := some 24, holding := tesOfRgn 0 }) |>.modRgn 1 (fun x => { x with instN := some 24, holding := tesOfRgn 0 }), 3, 7, 77, 800, { McImage.blank with version := 9 }, by decide +kernel⟩,
    ⟨engS sg [] id, 96, 0, 0, sg, by decide +kernel⟩,
    ⟨placeS 7 1 id, 4096 + 192 + 40, 1, 6, by decide +kernel⟩,
    ⟨cmdS false (cmdRaw 0x11 [64, 4096, 400]) (fun s => { s with hbmHolder := [(0, 0)] }), 4200, 1, 6, cmdC false (cmdRaw 0x11 [64, 4096, 400]), 64, ((cmdS false (cmdRaw 0x11 [64, 4096, 400]) id).bytes 4096 96), by decide +kernel⟩,
    ⟨scrS.modPart 0 0 (fun p => { p with table := some scrT }), 2 ^ 28 + 5, 1, 0, 0, scrT, by decide +kernel⟩⟩

/-- Inputs that meet the hypotheses of Obligations.MailboxOperationsAnswer, clause by clause. -/
theorem witness_MailboxOperationsAnswer :
    (∃ s : State, ∃ fn : Nat, ∃ raw : List Byte, fn < 18 ∧ s.doeUp fn (Doe.mk fn raw {}).op = true ∧ s.doeBusy fn = false ∧ doeOps.contains (Doe.mk fn raw {}).op = false) ∧
    (∃ s : State, ∃ fn : Nat, ∃ raw : List Byte, ∃ x : SecSite, s.doeTakes fn raw 0x04 0 ∧ x = s.secSite (Doe.mk fn raw {}).site) ∧
    (∃ s : State, ∃ fn : Nat, ∃ raw : List Byte, fn < 18 ∧ s.doeUp fn 0x04 = true ∧ s.doeBusy fn = false ∧ (Doe.mk fn raw {}).op = 0x04 ∧ raw.length ≠ 16) ∧
    (∃ s : State, ∃ raw : List Byte, ∃ w : Nat, s.doeTakes 0 raw 0x12 4 ∧ w = (Doe.mk 0 raw {}).num 16 4 ∧ s.inMode [.service] = true ∧ w ≤ 3) ∧
    (∃ s : State, ∃ raw : List Byte, ∃ w : Nat, s.doeTakes 0 raw 0x12 4 ∧ w = (Doe.mk 0 raw {}).num 16 4 ∧ s.inMode [.service] = false) ∧
    (∃ s : State, ∃ raw : List Byte, ∃ a n : Nat, ∃ v : FwVerdict, s.doeTakes 0 raw 0x10 8 ∧ s.inMode [.service] = true ∧ a = bankBase + (Doe.mk 0 raw {}).num 16 4 ∧ n = (Doe.mk 0 raw {}).num 20 4 ∧ 0 < n ∧ a + n ≤ bankTop ∧ s.granted 16 a n = true ∧ s.fwCheck (s.bytes a n) v = 0) ∧
    (∃ s : State, ∃ raw : List Byte, ∃ a n : Nat, ∃ v : FwVerdict, s.doeTakes 0 raw 0x10 8 ∧ s.inMode [.service] = true ∧ a = bankBase + (Doe.mk 0 raw {}).num 16 4 ∧ n = (Doe.mk 0 raw {}).num 20 4 ∧ 0 < n ∧ a + n ≤ bankTop ∧ s.granted 16 a n = true ∧ s.fwCheck (s.bytes a n) v ≠ 0) ∧
    (∃ s : State, ∃ raw : List Byte, ∃ _v : FwVerdict, s.doeUp 0 0x11 = true ∧ s.doeBusy 0 = false ∧ s.glb.fwOk = false ∧ (Doe.mk 0 raw {}).op = 0x11 ∧ (Doe.mk 0 raw {}).num 2 2 = 0 ∧ (Doe.mk 0 raw {}).num 9 7 = 0 ∧ (Doe.mk 0 raw {}).site < 16 ∧ 24 ≤ raw.length ∧ raw.length ≤ 24 + 65536 ∧ (Doe.mk 0 raw {}).num 20 4 = 0 ∧ (Doe.mk 0 raw {}).num 16 4 = s.sec.recover.length) ∧
    (∃ s : State, ∃ raw : List Byte, ∃ _v : FwVerdict, s.doeUp 0 0x11 = true ∧ s.doeBusy 0 = false ∧ s.glb.fwOk = false ∧ (Doe.mk 0 raw {}).op = 0x11 ∧ (Doe.mk 0 raw {}).num 2 2 = 0 ∧ (Doe.mk 0 raw {}).num 9 7 = 0 ∧ (Doe.mk 0 raw {}).site < 16 ∧ 24 ≤ raw.length ∧ raw.length ≤ 24 + 65536 ∧ (Doe.mk 0 raw {}).num 20 4 = 0 ∧ (Doe.mk 0 raw {}).num 16 4 ≠ s.sec.recover.length) ∧
    (∃ s : State, ∃ raw b : List Byte, ∃ v : FwVerdict, s.doeUp 0 0x11 = true ∧ s.doeBusy 0 = false ∧ s.glb.fwOk = false ∧ (Doe.mk 0 raw {}).op = 0x11 ∧ (Doe.mk 0 raw {}).num 2 2 = 0 ∧ (Doe.mk 0 raw {}).num 9 7 = 0 ∧ (Doe.mk 0 raw {}).site < 16 ∧ 24 ≤ raw.length ∧ raw.length ≤ 24 + 65536 ∧ (Doe.mk 0 raw {}).num 20 4 = 1 ∧ (Doe.mk 0 raw {}).num 16 4 = s.sec.recover.length ∧ b = s.sec.recover ++ raw.drop 24 ∧ s.fwCheck b v = 0) ∧
    (∃ s : State, ∃ raw b : List Byte, ∃ v : FwVerdict, s.doeUp 0 0x11 = true ∧ s.doeBusy 0 = false ∧ s.glb.fwOk = false ∧ (Doe.mk 0 raw {}).op = 0x11 ∧ (Doe.mk 0 raw {}).num 2 2 = 0 ∧ (Doe.mk 0 raw {}).num 9 7 = 0 ∧ (Doe.mk 0 raw {}).site < 16 ∧ 24 ≤ raw.length ∧ raw.length ≤ 24 + 65536 ∧ (Doe.mk 0 raw {}).num 20 4 = 1 ∧ (Doe.mk 0 raw {}).num 16 4 = s.sec.recover.length ∧ b = s.sec.recover ++ raw.drop 24 ∧ s.fwCheck b v ≠ 0) ∧
    (∃ s : State, ∃ fn st src dest len code : Nat, ∃ raw h : List Byte, ∃ p : List Byte × Bool, ∃ head srcB lenB destB : List Byte, raw = head ++ srcB ++ lenB ++ destB ∧ s.doeTakes fn raw 0x01 24 ∧ fn ≠ 17 ∧ s.cmdMode fn = true ∧ st = (Doe.mk fn raw {}).site ∧ src = (Doe.mk fn raw {}).num 16 8 ∧ dest = (Doe.mk fn raw {}).num 32 8 ∧ h = s.header src ((Doe.mk fn raw {}).num 24 8) ∧ len = fld h 0xB0 8 ∧ code = s.loadCheck st src ((Doe.mk fn raw {}).num 24 8) dest ∧ p = openChunks (s.chunk src h (s.keyOf h)) (fld h 0xAC 4) 0 ∧ s.loadFree st = 0 ∧ (s.glb.hbmClear = false ∨ s.sec.wiping.contains st = true)) ∧
    (∃ s : State, ∃ fn st src dest len code : Nat, ∃ raw h : List Byte, ∃ p : List Byte × Bool, ∃ head srcB lenB destB : List Byte, raw = head ++ srcB ++ lenB ++ destB ∧ s.doeTakes fn raw 0x01 24 ∧ fn ≠ 17 ∧ s.cmdMode fn = true ∧ st = (Doe.mk fn raw {}).site ∧ src = (Doe.mk fn raw {}).num 16 8 ∧ dest = (Doe.mk fn raw {}).num 32 8 ∧ h = s.header src ((Doe.mk fn raw {}).num 24 8) ∧ len = fld h 0xB0 8 ∧ code = s.loadCheck st src ((Doe.mk fn raw {}).num 24 8) dest ∧ p = openChunks (s.chunk src h (s.keyOf h)) (fld h 0xAC 4) 0 ∧ s.glb.hbmClear = true ∧ s.sec.wiping.contains st = false) ∧
    (∃ s : State, ∃ fn st : Nat, ∃ raw : List Byte, s.doeTakes fn raw 0x03 0 ∧ fn ≠ 17 ∧ s.cmdMode fn = true ∧ st = (Doe.mk fn raw {}).site ∧ s.siteIdle st = true ∧ (s.secSite st).unload = none ∧ s.framesOpen st = false) ∧
    (∃ s : State, ∃ fn st : Nat, ∃ raw : List Byte, s.doeTakes fn raw 0x03 0 ∧ fn ≠ 17 ∧ s.cmdMode fn = true ∧ st = (Doe.mk fn raw {}).site ∧ s.siteIdle st = false) ∧
    (∃ s : State, ∃ fn st q n : Nat, ∃ raw img : List Byte, ∃ x : SecSite, ∃ m : List Nat, s.doeTakes fn raw 0x02 204 ∧ fn ≠ 17 ∧ s.cmdMode fn = true ∧ st = (Doe.mk fn raw {}).site ∧ x = s.secSite st ∧ img = s.bytes x.dest x.len ∧ q = (Doe.mk fn raw {}).num 24 4 ∧ n = fld img 0x0C 4 ∧ m = (List.range 192).map (fun k => (Doe.mk fn raw {}).num (28 + k) 1) ∧ s.bindCheck st q m img ≠ 0) ∧
    (∃ s : State, ∃ fn st q n : Nat, ∃ raw img : List Byte, ∃ x : SecSite, ∃ m : List Nat, ∃ r : State × Option Nat, s.doeTakes fn raw 0x02 204 ∧ fn ≠ 17 ∧ s.cmdMode fn = true ∧ st = (Doe.mk fn raw {}).site ∧ x = s.secSite st ∧ img = s.bytes x.dest x.len ∧ q = (Doe.mk fn raw {}).num 24 4 ∧ n = fld img 0x0C 4 ∧ m = (List.range 192).map (fun k => (Doe.mk fn raw {}).num (28 + k) 1) ∧ s.bindCheck st q m img = 0 ∧ r = s.setupAll st m (fld img 8 4) 0 ((List.range (fld img 0x20 4)).map (setupRec img)) ∧ r.2 = none) ∧
    (∃ s : State, ∃ fn st q n : Nat, ∃ raw img : List Byte, ∃ x : SecSite, ∃ m : List Nat, ∃ r : State × Option Nat, ∃ i : Nat, s.doeTakes fn raw 0x02 204 ∧ fn ≠ 17 ∧ s.cmdMode fn = true ∧ st = (Doe.mk fn raw {}).site ∧ x = s.secSite st ∧ img = s.bytes x.dest x.len ∧ q = (Doe.mk fn raw {}).num 24 4 ∧ n = fld img 0x0C 4 ∧ m = (List.range 192).map (fun k => (Doe.mk fn raw {}).num (28 + k) 1) ∧ s.bindCheck st q m img = 0 ∧ r = s.setupAll st m (fld img 8 4) 0 ((List.range (fld img 0x20 4)).map (setupRec img)) ∧ r.2 = some i) :=
  ⟨⟨base 900, 0, doeRaw 0x77 0 [], by decide +kernel⟩,
    ⟨bindS [] id, 1, doeRaw 4 0 [], (bindS [] id).secSite 0, by decide +kernel⟩,
    ⟨siteBase 900 id, 1, doeRaw 4 0 [1], by decide +kernel⟩,
    ⟨svc (base 900), doeRaw 0x12 0 (le 4 3), 3, by decide +kernel⟩,
    ⟨base 900, doeRaw 0x12 0 (le 4 3), 3, by decide +kernel⟩,
    ⟨fwS 0, doeRaw 0x10 0 (le 4 0x5A00000 ++ le 4 1377), bankBase + 0x5A00000, 1377, fwV true, by decide +kernel⟩,
    ⟨fwS 0, doeRaw 0x10 0 (le 4 0x5A00000 ++ le 4 1376), bankBase + 0x5A00000, 1376, fwV true, by decide +kernel⟩,
    ⟨recS [], doeRaw 0x11 0 (le 4 0 ++ le 4 0 ++ [1, 2, 3]), fwV true, by decide +kernel⟩,
    ⟨recS [], doeRaw 0x11 0 (le 4 1 ++ le 4 0 ++ [1, 2, 3]), fwV true, by decide +kernel⟩,
    ⟨recS (fwB 3), doeRaw 0x11 0 (le 4 1374 ++ le 4 1 ++ [0, 0, 0]), fwB 0, fwV true, by decide +kernel⟩,
    ⟨recS (fwB 3), doeRaw 0x11 0 (le 4 1374 ++ le 4 1 ++ [0, 0]), fwB 1, fwV true, by decide +kernel⟩,
    ⟨(loadS []).modGlb (fun g => { g with hbmClear := false }), 1, 0, 0, 131072, ⟨fld (((loadS []).modGlb (fun g => { g with hbmClear := false })).header 0 ((Doe.mk 1 loadR {}).num 24 8)) 0xB0 8, ((loadS []).modGlb (fun g => { g with hbmClear := false })).loadCheck 0 0 ((Doe.mk 1 loadR {}).num 24 8) 131072, loadR, (((loadS []).modGlb (fun g => { g with hbmClear := false })).header 0 ((Doe.mk 1 loadR {}).num 24 8)), openChunks (((loadS []).modGlb (fun g => { g with hbmClear := false })).chunk 0 (((loadS []).modGlb (fun g => { g with hbmClear := false })).header 0 ((Doe.mk 1 loadR {}).num 24 8)) (((loadS []).modGlb (fun g => { g with hbmClear := false })).keyOf (((loadS []).modGlb (fun g => { g with hbmClear := false })).header 0 ((Doe.mk 1 loadR {}).num 24 8)))) (fld (((loadS []).modGlb (fun g => { g with hbmClear := false })).header 0 ((Doe.mk 1 loadR {}).num 24 8)) 0xAC 4) 0, ⟨(loadR).take 16, ((loadR).drop 16).take 8, ((loadR).drop 24).take 8, (loadR).drop 32, by decide +kernel, ⟨by decide +kernel, by decide +kernel, by decide +kernel, by decide +kernel, by decide +kernel, ⟨by decide +kernel, rfl, rfl, rfl, rfl, ⟨by decide +kernel, by decide +kernel⟩⟩⟩⟩⟩⟩,
    ⟨loadS (boxL false), 1, 0, 0, 131072, ⟨fld ((loadS (boxL false)).header 0 ((Doe.mk 1 loadR {}).num 24 8)) 0xB0 8, (loadS (boxL false)).loadCheck 0 0 ((Doe.mk 1 loadR {}).num 24 8) 131072, loadR, ((loadS (boxL false)).header 0 ((Doe.mk 1 loadR {}).num 24 8)), openChunks ((loadS (boxL false)).chunk 0 ((loadS (boxL false)).header 0 ((Doe.mk 1 loadR {}).num 24 8)) ((loadS (boxL false)).keyOf ((loadS (boxL false)).header 0 ((Doe.mk 1 loadR {}).num 24 8)))) (fld ((loadS (boxL false)).header 0 ((Doe.mk 1 loadR {}).num 24 8)) 0xAC 4) 0, ⟨(loadR).take 16, ((loadR).drop 16).take 8, ((loadR).drop 24).take 8, (loadR).drop 32, by decide +kernel, ⟨by decide +kernel, by decide +kernel, by decide +kernel, by decide +kernel, by decide +kernel, ⟨by decide +kernel, rfl, rfl, rfl, rfl, ⟨by decide +kernel, by decide +kernel⟩⟩⟩⟩⟩⟩,
    ⟨bindS [] id, 1, 0, doeRaw 3 0 [], by decide +kernel⟩,
    ⟨(bindS [] id).modSite 0 (fun x => { x with st := .armed }), 1, 0, doeRaw 3 0 [], by decide +kernel⟩,
    ⟨bindS (imgS 0 0) (fun x => { x with loaded := false }), 1, 0, 6, 1, bindRaw, imgS 0 0, (bindS (imgS 0 0) (fun x => { x with loaded := false })).secSite 0, 0 :: List.replicate 191 255, by decide +kernel⟩,
    ⟨bindS (imgS 0 0) id, 1, 0, 6, 1, bindRaw, imgS 0 0, (bindS (imgS 0 0) id).secSite 0, 0 :: List.replicate 191 255, (bindS (imgS 0 0) id, none), by decide +kernel⟩,
    ⟨bindS (imgS 1 0x10040) id, 1, 0, 6, 1, bindRaw, imgS 1 0x10040, (bindS (imgS 1 0x10040) id).secSite 0, 0 :: List.replicate 191 255, (bindS (imgS 1 0x10040) id).setupAll 0 (0 :: List.replicate 191 255) 1 0 [(0x11, 1, 0x040, 5)], 0, by decide +kernel⟩⟩

/-- Inputs that meet the hypotheses of Obligations.SecurityEngineActs, clause by clause. -/
theorem witness_SecurityEngineActs :
    (∃ s : State, ∃ fn _hi lo : Nat, s.accepts fn Ty.glb 0 0x054 = true ∧ lo = (Tbl.get none (s.fn fn).stage (pairKey Ty.glb 0 0x050)).getD (s.hostTime % 2 ^ 32)) ∧
    (∃ s : State, s.stage = .on ∧ s.hostMax ≠ 0 ∧ s.sec.bound ≤ s.hostMax) ∧
    (∃ s : State, s.hostMax < s.sec.bound) ∧
    (∃ s : State, ∃ fn v : Nat, s.accepts fn Ty.sec 0 0x058 = true ∧ v < 65536 ∧ s.otp.lcState = 2 ∧ (∀ i, i < 16 → v.testBit i ≠ s.sec.sealedSites.testBit i → s.siteIdle i = true ∧ (s.secSite i).loaded = false ∧ (s.secSite i).unload = none ∧ s.loadPending i = false ∧ s.siteQueuesOn i = false)) ∧
    (∃ s : State, ∃ fn v : Nat, s.accepts fn Ty.sec 0 0x058 = true ∧ v < 65536 ∧ s.otp.lcState ≠ 2 ∧ v ≠ s.sec.sealedSites % 65536) ∧
    (∃ s : State, ∃ h : Nat, h < 17 ∧ s.sec.loadWait = [] ∧ s.sec.doeWait = []) ∧
    (∃ s : State, ∃ h : Nat, ∃ d : Doe, h < 17 ∧ s.sec.loadWait = [d] ∧ s.sec.doeWait = [] ∧ d.site = h ∧ s.glb.hbmClear = true) ∧
    (∃ s : State, s.stage = .on) ∧
    (∃ s : State, ∃ fn to_ k _rest a : Nat, s.accepts fn Ty.sec 0 0x048 = true ∧ to_ < 8 ∧ a = bankBase + k % 2 ^ 19 * 256 ∧ s.inMode [.service] = true ∧ s.allIdle = true ∧ s.sec.lcBusy = none ∧ 1 ≤ to_ ∧ to_ ≤ 4 ∧ s.granted 16 a 256 = true ∧ s.lcAllowed to_ = true ∧ s.tokenOk to_ (s.bytes a 256) = true) ∧
    (∃ s : State, ∃ fn to_ k _rest a : Nat, s.accepts fn Ty.sec 0 0x048 = true ∧ to_ < 8 ∧ a = bankBase + k % 2 ^ 19 * 256 ∧ s.inMode [.service] = true ∧ s.allIdle = true ∧ s.sec.lcBusy = none ∧ 1 ≤ to_ ∧ to_ ≤ 4 ∧ s.granted 16 a 256 = true ∧ s.lcAllowed to_ = true ∧ s.tokenOk to_ (s.bytes a 256) = false) ∧
    (∃ s : State, ∃ fn to_ k _rest a : Nat, s.accepts fn Ty.sec 0 0x048 = true ∧ to_ < 8 ∧ a = bankBase + k % 2 ^ 19 * 256 ∧ s.inMode [.service] = false) ∧
    (∃ s : State, ∃ to_ : Nat, ∃ hash : List Byte, s.sec.lcBusy = some (to_, hash) ∧ s.nor.writing ≠ some 7 ∧ 7 ∉ s.nor.todo ∧ to_ ≠ 4) ∧
    (∃ s : State, ∃ hash : List Byte, s.sec.lcBusy = some (4, hash) ∧ s.nor.writing ≠ some 7 ∧ 7 ∉ s.nor.todo) ∧
    (∃ s : State, s.sec.lcBusy = none) ∧
    (∃ s : State, ∃ src : Nat, src < 5 ∧ s.stage = .on ∧ s.sec.tActive.testBit src = false ∧ (src = 1 → s.sec.extEn = true)) ∧
    (∃ _s : State, ∃ src : Nat, src < 5) ∧
    (∃ s : State, ∃ r : Nat, s.nor.writing = some r ∧ r ∉ s.nor.todo ∧ s.sec.loadWait = [] ∧ s.sec.doeWait = [] ∧ r < 5) ∧
    (∃ s : State, ∃ r : Nat, s.nor.writing = some r ∧ r ∉ s.nor.todo ∧ s.sec.loadWait = [] ∧ s.sec.doeWait = [] ∧ r = 6) ∧
    (∃ s : State, ∃ r : Nat, s.nor.writing = some r ∧ r ∉ s.nor.todo ∧ s.sec.loadWait = [] ∧ s.sec.doeWait = [] ∧ r = 7) ∧
    (∃ s : State, ∃ r : Nat, ∃ i : FwImage, ∃ tag : Nat, s.nor.writing = some r ∧ r ∉ s.nor.todo ∧ s.sec.loadWait = [] ∧ s.sec.doeWait = [] ∧ r = 8 ∧ s.nor.fwStage = some (i, false, 0, tag)) ∧
    (∃ s : State, ∃ r : Nat, ∃ i : FwImage, ∃ tag : Nat, s.nor.writing = some r ∧ r ∉ s.nor.todo ∧ s.sec.loadWait = [] ∧ s.sec.doeWait = [] ∧ r = 8 ∧ s.nor.fwStage = some (i, true, 0, tag)) ∧
    (∃ s : State, ∃ fn : Nat, fn < 18 ∧ s.stage = .on ∧ Tbl.get 0 s.sec.ide fn = 1) ∧
    (∃ s : State, ∃ fn : Nat, fn < 18 ∧ Tbl.get 0 s.sec.ide fn ≠ 1) ∧
    (∃ s : State, ∃ st k i q : Nat, ∃ f : Sys2Proof.Machine.Frm, st < 16 ∧ k < 3 ∧ i < (if k = 0 then 4 else 24) ∧ s.isSealed st = true ∧ f = s.frm st k i ∧ f.pt ≠ [] ∧ s.sec.loadWait = [] ∧ s.sec.doeWait = [] ∧ f.last + 2 * fsUs ≤ s.up ∧ (s.secSite st).unload = none ∧ q = s.frameQueue st k i ∧ (f.pt.length + 63) / 16 ≤ (s.queue q).room) :=
  ⟨⟨(base 900).modGlb (fun g => { g with hostMs := 7 }), 0, 3, (((base 900).modGlb (fun g => { g with hostMs := 7 })).hostTime % 2 ^ 32), by decide +kernel⟩,
    ⟨(base 900).modGlb (fun g => { g with hostMs := 7000 }), by decide +kernel⟩,
    ⟨(base 900).modSec (fun x => { x with bound := 5 }), by decide +kernel⟩,
    ⟨bindS [] (fun x => { x with loaded := false }) |>.modQueue 6 (fun d => { d with enable := false }), 0, 6, by decide +kernel⟩,
    ⟨{ base 900 with otp := { lcState := 1 } }, 0, 6, by decide +kernel⟩,
    ⟨(base 900).modSec (fun x => { x with wiping := [3, 4] }), 3, by decide +kernel⟩,
    ⟨(loadS []).modSec (fun x => { x with wiping := [0, 4], loadWait := [Doe.mk 1 loadR {}] }), 0, Doe.mk 1 loadR {}, by decide +kernel⟩,
    ⟨base 900, by decide +kernel⟩,
    ⟨lcS (tokB 3) id, 0, 3, 0x5A000, 0, bankBase + 0x5A00000, by decide +kernel⟩,
    ⟨lcS ((tokB 3).set 70 1) id, 0, 3, 0x5A000, 0, bankBase + 0x5A00000, by decide +kernel⟩,
    ⟨base 900, 0, 3, 3, 0, bankBase + 768, by decide +kernel⟩,
    ⟨lcS [] (fun x => { x with lcBusy := some (3, [1]) }), 3, [1], by decide +kernel⟩,
    ⟨lcS [] (fun x => { x with lcBusy := some (4, [1]) }), [1], by decide +kernel⟩,
    ⟨base 900, by decide +kernel⟩,
    ⟨siteBase 900 (fun x => { x with st := .running }), 1, by decide +kernel⟩,
    ⟨(base 900).modSec (fun x => { x with tActive := 3 }), 1, by decide +kernel⟩,
    ⟨{ base 900 with nor := { writing := some 2, todo := [7] } }, 2, by decide +kernel⟩,
    ⟨{ base 900 with nor := { writing := some 6, todo := [7] } }, 6, by decide +kernel⟩,
    ⟨{ base 900 with nor := { writing := some 7, todo := [] } }, 7, by decide +kernel⟩,
    ⟨{ base 900 with nor := { writing := some 8, fwStage := some ({ version := 9 }, false, 0, 5) } }, 8, { version := 9 }, 5, by decide +kernel⟩,
    ⟨{ recS [] with nor := { writing := some 8, fwStage := some ({ version := 9 }, true, 0, 5) } }, 8, { version := 9 }, 5, by decide +kernel⟩,
    ⟨(base 900).modSec (fun x => { x with ide := [(3, 1)] }), 3, by decide +kernel⟩,
    ⟨base 900, 3, by decide +kernel⟩,
    ⟨frmS 90000 id, 0, 1, 0, 5, { pt := [1, 2, 3], n := 1, seq := 4 }, by decide +kernel⟩⟩

/-- Inputs that meet the hypotheses of Obligations.SpdmAnswersOnItsPath, clause by clause. -/
theorem witness_SpdmAnswersOnItsPath :
    (∃ s : State, ∃ p : Nat, ∃ _req : List Byte, p < 19 ∧ s.spdmUp p true = true) ∧
    (∃ s : State, ∃ p : Nat, ∃ req : List Byte, p < 19 ∧ s.spdmUp p true = true ∧ 4 ≤ req.length) ∧
    (∃ s : State, ∃ p : Nat, ∃ req : List Byte, p < 19 ∧ s.spdmUp p true = true ∧ req.length < 4) ∧
    (∃ s : State, ∃ p : Nat, p < 19 ∧ s.spdmUp p true = false) ∧
    (∃ s : State, ∃ p : Nat, ∃ req : List Byte, p < 19 ∧ s.spdmUp p false = true ∧ 4 ≤ req.length) ∧
    (∃ s : State, ∃ p : Nat, ∃ _req : List Byte, p < 19 ∧ s.spdmUp p false = true) ∧
    (∃ s : State, ∃ p : Nat, ∃ _req : List Byte, p < 19 ∧ s.spdmUp p false = true ∧ s.sec.identityOk = false) ∧
    (∃ s : State, ∃ p : Nat, ∃ _req : List Byte, p < 19 ∧ s.spdmUp p false = true ∧ s.sec.identityOk = true) ∧
    (∃ s : State, ∃ p : Nat, ∃ _req : List Byte, ∃ off len : Nat, ∃ c : List Byte, p < 19 ∧ s.spdmUp p false = true ∧ s.sec.identityOk = true ∧ c = (s.chain.drop off).take len) ∧
    (∃ s : State, ∃ p : Nat, ∃ req b : List Byte, p < 19 ∧ s.spdmUp p false = true ∧ s.sec.identityOk = true ∧ b = Config.spdmBody 0x03 s.free req) ∧
    (∃ s : State, ∃ p : Nat, ∃ req : List Byte, ∃ i : Nat, ∃ b : List Byte, p < 19 ∧ s.spdmUp p false = true ∧ s.sec.identityOk = true ∧ i = (req.getD 3 0).toNat ∧ (i = 0 → b = le 1 (measBlocks p).length) ∧ (i = 255 → b = le 1 (measBlocks p).length ++ ((measBlocks p).map (fun k => le 1 k ++ le 2 (s.measurement k).length ++ s.measurement k)).flatten) ∧ (i ≠ 0 → i ≠ 255 → i ∈ measBlocks p ∧ b = le 1 1 ++ le 1 i ++ le 2 (s.measurement i).length ++ s.measurement i)) ∧
    (∃ s : State, ∃ p : Nat, ∃ req : List Byte, ∃ i : Nat, p < 19 ∧ s.spdmUp p false = true ∧ s.sec.identityOk = true ∧ i = (req.getD 3 0).toNat ∧ i ≠ 0 ∧ i ≠ 255 ∧ i ∉ measBlocks p) ∧
    (∃ s : State, ∃ p : Nat, ∃ _req : List Byte, p < 19 ∧ s.spdmUp p false = true ∧ s.sec.identityOk = true ∧ s.open_ p < 2) ∧
    (∃ s : State, ∃ p : Nat, ∃ _req : List Byte, p < 19 ∧ s.spdmUp p false = true ∧ s.sec.identityOk = true ∧ 2 ≤ s.open_ p) ∧
    (∃ s : State, ∃ p : Nat, ∃ _req : List Byte, ∃ slot _off _len : Nat, p < 19 ∧ s.spdmUp p false = true ∧ slot ≠ 0) ∧
    (∃ s : State, ∃ p : Nat, ∃ _req : List Byte, ∃ _ok : Bool, p < 19 ∧ s.spdmUp p false = true ∧ s.open_ p ≤ s.finished p) ∧
    (∃ s : State, ∃ p : Nat, ∃ _req : List Byte, p < 19 ∧ s.spdmUp p false = true ∧ s.finished p < s.open_ p) ∧
    (∃ s : State, ∃ p : Nat, ∃ _req : List Byte, p < 19 ∧ s.spdmUp p false = true ∧ s.finished p = 0) ∧
    (∃ s : State, ∃ p : Nat, ∃ _req : List Byte, p < 19 ∧ s.spdmUp p false = true ∧ s.finished p ≠ 0) ∧
    (∃ s : State, ∃ p : Nat, ∃ _req : List Byte, p < 19 ∧ s.spdmUp p false = true ∧ s.finished p ≠ 0) ∧
    (∃ s : State, ∃ p : Nat, ∃ _req : List Byte, p < 19 ∧ s.spdmUp p false = true ∧ s.finished p ≠ 0) ∧
    (∃ s : State, ∃ p : Nat, ∃ _req : List Byte, p < 19 ∧ s.spdmUp p false = true ∧ s.finished p ≠ 0 ∧ p ≠ 18) ∧
    (∃ s : State, ∃ p : Nat, ∃ _req _k : List Byte, p < 19 ∧ s.spdmUp p false = true ∧ s.finished p ≠ 0 ∧ p ≠ 18) ∧
    (∃ s : State, ∃ p : Nat, ∃ _req : List Byte, p < 19 ∧ s.spdmUp p false = true ∧ s.finished p ≠ 0 ∧ p ≠ 18 ∧ Tbl.get [] s.sec.ideKeys p = []) ∧
    (∃ s : State, ∃ p : Nat, ∃ _req : List Byte, p < 19 ∧ s.spdmUp p false = true ∧ s.finished p ≠ 0 ∧ p ≠ 18 ∧ Tbl.get [] s.sec.ideKeys p ≠ []) ∧
    (∃ s : State, ∃ p : Nat, ∃ _req : List Byte, p < 19 ∧ s.spdmUp p false = true ∧ s.finished p ≠ 0 ∧ p ≠ 18) ∧
    (∃ s : State, ∃ p : Nat, ∃ _req : List Byte, ∃ q : IdeKm, p < 19 ∧ s.spdmUp p false = true ∧ q.path = 18 ∧ p = 18) :=
  ⟨⟨spS id, 1, [1, 2], by decide +kernel⟩,
    ⟨spS id, 1, [1, 2, 3, 4], by decide +kernel⟩,
    ⟨spS id, 1, [1, 2], by decide +kernel⟩,
    ⟨base 900, 1, by decide +kernel⟩,
    ⟨spS id, 18, [1, 2, 3, 4], by decide +kernel⟩,
    ⟨spS id, 18, [1, 2], by decide +kernel⟩,
    ⟨base 900, 0, [1], by decide +kernel⟩,
    ⟨spS id, 0, [1], by decide +kernel⟩,
    ⟨spS id, 0, [1], 2, 3, ⟨((spS id).chain.drop 2).take 3, by decide +kernel, by decide +kernel, by decide +kernel, rfl⟩⟩,
    ⟨spS id, 0, [1], Config.spdmBody 0x03 0 [1], by decide +kernel, ⟨by decide +kernel, by decide +kernel, rfl⟩⟩,
    ⟨spS id, 1, [1], 0, le 1 (measBlocks 1).length, ⟨by decide +kernel, by decide +kernel, by decide +kernel, by decide +kernel, fun _ => rfl, ⟨by intro h; exact absurd h (by decide), by intro h; exact absurd rfl h⟩⟩⟩,
    ⟨spS id, 1, [0x13, 0xE0, 0, 17], 17, by decide +kernel⟩,
    ⟨spS (fun x => { x with sessions := [(1, 1)] }), 1, [1], by decide +kernel⟩,
    ⟨spS (fun x => { x with sessions := [(1, 2)] }), 1, [1], by decide +kernel⟩,
    ⟨spS id, 1, [1], 2, 3, 4, by decide +kernel⟩,
    ⟨spS id, 1, [1], true, by decide +kernel⟩,
    ⟨spS (fun x => { x with sessions := [(1, 1)] }), 1, [1], by decide +kernel⟩,
    ⟨spS id, 1, [1], by decide +kernel⟩,
    ⟨spS (fun x => { x with sessions := [(1, 1)], finished := [(1, 1)] }), 1, [1], by decide +kernel⟩,
    ⟨spS (fun x => { x with sessions := [(1, 1)], finished := [(1, 1)] }), 1, [1], by decide +kernel⟩,
    ⟨spS (fun x => { x with sessions := [(1, 1)], finished := [(1, 1)] }), 1, [1], by decide +kernel⟩,
    ⟨spS (fun x => { x with sessions := [(1, 1)], finished := [(1, 1)] }), 1, [1], by decide +kernel⟩,
    ⟨spS (fun x => { x with sessions := [(1, 1)], finished := [(1, 1)] }), 1, [1], [7, 8], by decide +kernel⟩,
    ⟨spS (fun x => { x with sessions := [(1, 1)], finished := [(1, 1)] }), 1, [1], by decide +kernel⟩,
    ⟨spS (fun x => { x with sessions := [(1, 1)], finished := [(1, 1)], ideKeys := [(1, [7])] }), 1, [1], by decide +kernel⟩,
    ⟨spS (fun x => { x with sessions := [(1, 1)], finished := [(1, 1)] }), 1, [1], by decide +kernel⟩,
    ⟨spS id, 18, [1], .setGo 18, by decide +kernel⟩⟩

/-- Inputs that meet the hypotheses of Obligations.MctpAndTestPortAnswer, clause by clause. -/
theorem witness_MctpAndTestPortAnswer :
    (∃ s : State, ∃ op eid : Nat, s.mctpUp = true ∧ op ≤ 1 ∧ 8 ≤ eid ∧ eid ≤ 254) ∧
    (∃ s : State, ∃ _op eid : Nat, s.mctpUp = true ∧ (eid < 8 ∨ 254 < eid)) ∧
    (∃ s : State, s.mctpUp = true) ∧
    (∃ s : State, s.mctpUp = true) ∧
    (∃ s : State, ∃ ty : Nat, s.mctpUp = true ∧ (ty = 0x00 ∨ ty = 0x05 ∨ ty = 0xFF)) ∧
    (∃ s : State, ∃ ty : Nat, s.mctpUp = true ∧ ty ≠ 0x00 ∧ ty ≠ 0x05 ∧ ty ≠ 0xFF) ∧
    (∃ s : State, s.mctpUp = true) ∧
    (∃ s : State, ∃ cmd : Nat, s.mctpUp = true ∧ cmd < 256 ∧ (cmd = 0 ∨ 5 < cmd)) ∧
    (∃ _s : State, ∃ ty _cmd : Nat, ty ≠ 0) ∧
    (∃ s : State, ∃ _seen v i : Nat, s.jtag.hold = some v ∧ i < 12) ∧
    (∃ s : State, ∃ _seen _drive : Nat, s.stage = .on ∧ s.glb.mode = .safe) ∧
    (∃ s : State, ∃ _seen _drive : Nat, s.stage = .on ∧ s.glb.mode ≠ .safe) ∧
    (∃ s : State, ∃ _seen _drive : Nat, s.stage = .on) ∧
    (∃ s : State, ∃ _seen _drive : Nat, s.stage = .on) ∧
    (∃ s : State, ∃ _seen _drive c : Nat, s.stage = .on ∧ c < 16 ∧ c ≠ 0 ∧ c ≠ 1 ∧ c ≠ 2 ∧ c ≠ 4 ∧ c ≠ 5) :=
  ⟨⟨base 900, 1, 8, by decide +kernel⟩,
    ⟨base 900, 1, 255, by decide +kernel⟩,
    ⟨base 900, by decide +kernel⟩,
    ⟨base 900, by decide +kernel⟩,
    ⟨base 900, 5, by decide +kernel⟩,
    ⟨base 900, 7, by decide +kernel⟩,
    ⟨base 900, by decide +kernel⟩,
    ⟨base 900, 6, by decide +kernel⟩,
    ⟨base 900, 5, 6, by decide +kernel⟩,
    ⟨{ base 900 with jtag := { hold := some 0x5A5 } }, 0xFFF, 0x5A5, 10, by decide +kernel⟩,
    ⟨safeS, 0xF0F, 0x123, by decide +kernel⟩,
    ⟨base 900, 0xF0F, 0x123, by decide +kernel⟩,
    ⟨base 900, 0xF0F, 0x123, by decide +kernel⟩,
    ⟨base 900, 0xF0F, 0x123, by decide +kernel⟩,
    ⟨base 900, 0xF0F, 0x123, 9, by decide +kernel⟩⟩

/-- Inputs that meet the hypotheses of Obligations.HeaderRegistersAct, clause by clause. -/
theorem witness_HeaderRegistersAct :
    (∃ s : State, ∃ fn ty inst : Nat, s.accepts fn ty inst 0x008 = true ∧ fixedEn ty inst = true) ∧
    (∃ s : State, ∃ fn ty inst : Nat, s.accepts fn ty inst 0x008 = true ∧ noReset ty inst = true) ∧
    (∃ s : State, ∃ fn ty inst : Nat, s.accepts fn ty inst 0x008 = true ∧ fixedEn ty inst = false ∧ s.blkBusy ty inst = true) ∧
    (∃ s : State, ∃ fn ty inst : Nat, s.accepts fn ty inst 0x008 = true ∧ fixedEn ty inst = false ∧ s.blkBusy ty inst = false) ∧
    (∃ s : State, ∃ fn ty inst : Nat, s.accepts fn ty inst 0x008 = true ∧ fixedEn ty inst = false) ∧
    (∃ s : State, ∃ fn ty inst : Nat, s.accepts fn ty inst 0x008 = true ∧ noReset ty inst = false ∧ (fn = 0 ∨ (s.hdr ty inst).lock = false) ∧ s.blkBusy ty inst = false) ∧
    (∃ s : State, ∃ fn ty inst : Nat, s.accepts fn ty inst 0x008 = true ∧ noReset ty inst = false ∧ fn ≠ 0 ∧ (s.hdr ty inst).lock = true) ∧
    (∃ s : State, ∃ fn ty inst : Nat, s.accepts fn ty inst 0x008 = true ∧ noReset ty inst = false ∧ (fn = 0 ∨ (s.hdr ty inst).lock = false) ∧ s.blkBusy ty inst = true) ∧
    (∃ s : State, ∃ fn ty inst : Nat, s.accepts fn ty inst 0x008 = true ∧ (s.hdr ty inst).en = true) ∧
    (∃ s : State, ∃ ty inst : Nat, mapped ty inst = true ∧ (s.hdr ty inst).resetBusy = true) ∧
    (∃ s : State, ∃ ty inst : Nat, mapped ty inst = true ∧ (s.hdr ty inst).resetBusy = false) ∧
    (∃ s : State, ∃ fn ty inst _val : Nat, s.accepts fn ty inst 0x018 = true) ∧
    (∃ s : State, ∃ fn ty inst _val : Nat, s.accepts fn ty inst 0x014 = true) :=
  ⟨⟨base 900, 0, Ty.glb, 0, by decide +kernel⟩,
    ⟨base 900, 0, Ty.err, 0, by decide +kernel⟩,
    ⟨runBase 900 id id, 0, Ty.pe, 0, by decide +kernel⟩,
    ⟨base 900, 0, Ty.pe, 0, by decide +kernel⟩,
    ⟨base 900, 0, Ty.te, 0, by decide +kernel⟩,
    ⟨base 900, 0, Ty.pe, 0, by decide +kernel⟩,
    ⟨(siteBase 900 id).modHdr Ty.pe 0 (fun h => { h with lock := true }), 1, Ty.pe, 0, by decide +kernel⟩,
    ⟨runBase 900 id id, 0, Ty.cmp, 0, by decide +kernel⟩,
    ⟨base 900, 0, Ty.pe, 0, by decide +kernel⟩,
    ⟨(base 900).modHdr Ty.pe 0 (fun h => { h with resetBusy := true }), Ty.pe, 0, by decide +kernel⟩,
    ⟨base 900, Ty.pe, 0, by decide +kernel⟩,
    ⟨base 900, 0, Ty.err, 0, 0xFFFFFFFFF, by decide +kernel⟩,
    ⟨base 900, 0, Ty.pe, 0, 0xFF, by decide +kernel⟩⟩

/-- Inputs that meet the hypotheses of Obligations.WindowsPairsAndBroadcasts, clause by clause. -/
theorem witness_WindowsPairsAndBroadcasts :
    (∃ s : State, ∃ fn ty inst off _val : Nat, ty < 256 ∧ mapped ty inst = true ∧ off < 4096 ∧ off % 4 = 0 ∧ s.accepts fn ty inst off = true) ∧
    (∃ s : State, ∃ fn a n _val : Nat, fn < 18 ∧ s.fnUp fn = true ∧ (s.fn fn).inReset = false ∧ a % 4 = 0 ∧ 0 < n ∧ n ≤ 1024) ∧
    (∃ s : State, ∃ fn a be _val : Nat, fn < 18 ∧ s.fnUp fn = true ∧ (s.fn fn).inReset = false ∧ accWords a be = 0) ∧
    (∃ s : State, ∃ fn ty inst off : Nat, ty < 256 ∧ off < 4096 ∧ off % 4 = 0 ∧ s.reads fn ty inst off = true ∧ Ty.pairLo ty off = false ∧ (off < 4 ∨ Ty.pairLo ty (off - 4) = false)) ∧
    (∃ s : State, ∃ fn ty inst lo _val : Nat, s.accepts fn ty inst lo = true ∧ ty < 256 ∧ (ty, lo) ∈ [(Ty.glb, 0x050), (Ty.tg, 0x044), (Ty.tg, 0x050), (Ty.cmp, 0x054), (Ty.acq, 0x058), (Ty.acq, 0x060), (Ty.hist, 0x048)]) ∧
    (∃ s : State, ∃ fn k _val lo : Nat, s.accepts fn Ty.hist k 0x04C = true ∧ (s.hist k).run = false ∧ Tbl.get none (s.fn fn).stage (pairKey Ty.hist k 0x048) = some lo) ∧
    (∃ s : State, ∃ fn ty inst lo _val : Nat, Ty.pairLo ty lo = true ∧ s.accepts fn ty inst (lo + 4) = true) ∧
    (∃ s : State, ∃ fn ty inst lo : Nat, Ty.pairLo ty lo = true ∧ s.reads fn ty inst lo = true) ∧
    (∃ s : State, ∃ fn ty inst off : Nat, ty < 256 ∧ off < 4092 ∧ off % 4 = 0 ∧ Ty.pairLo ty off = true ∧ Ty.pairLo ty (off + 4) = false ∧ s.reads fn ty inst (off + 4) = true) ∧
    (∃ s : State, ∃ fn ty _val : Nat, fn < 18 ∧ s.fnUp fn = true ∧ (s.fn fn).inReset = false ∧ ty < 256 ∧ 0 < Ty.count ty ∧ (∀ i, i < Ty.count ty → s.ownsPage fn ty i = true → s.accepts fn ty i 0x018 = true)) ∧
    (∃ s : State, ∃ fn g ty _val : Nat, fn < 18 ∧ s.fnUp fn = true ∧ (s.fn fn).inReset = false ∧ g < 31 ∧ ty < 256 ∧ hasMask ty = true ∧ (∀ i, i < Ty.count ty → s.ownsPage fn ty i = false)) :=
  ⟨⟨base 900, 0, Ty.tg, 5, 0x040, 5, by decide +kernel⟩,
    ⟨base 900, 0, pageOff Ty.lvl 5 0x040, 3, 0x100000002, by decide +kernel⟩,
    ⟨base 900, 0, 1, 15, 0, by decide +kernel⟩,
    ⟨base 900, 0, Ty.tg, 5, 0x01C, by decide +kernel⟩,
    ⟨base 900, 0, Ty.tg, 5, 0x044, 7, by decide +kernel⟩,
    ⟨(base 900).modFn 0 (fun x => { x with stage := [(pairKey Ty.hist 2 0x048, some 77)] }), 0, 2, 0xFFFFFFFF, 77, by decide +kernel⟩,
    ⟨(base 900).modFn 0 (fun x => { x with stage := [(pairKey Ty.tg 2 0x044, some 77)] }), 0, Ty.tg, 2, 0x044, 3, by decide +kernel⟩,
    ⟨base 900, 0, Ty.tg, 5, 0x044, by decide +kernel⟩,
    ⟨(base 900).modFn 0 (fun x => { x with snap := [(pairKey Ty.glb 0 0x050, 2 ^ 33)] }), 0, Ty.glb, 0, 0x050, by decide +kernel⟩,
    ⟨base 900, 0, Ty.madc, 3, by decide +kernel⟩,
    ⟨(siteBase 900 id).modSite 2 (fun x => { x with vfOn := true }), 3, 0, Ty.te, 3, by decide +kernel⟩⟩

/-- Inputs that meet the hypotheses of Obligations.ExecLeavesQueueClockAndGrade. -/
theorem witness_ExecLeavesQueueClockAndGrade : ∃ (c : Instr) (s t : State), exec c s = .next t :=
  ⟨.pmbusRevision, base 900, _, rfl⟩

/-- Inputs that meet the hypotheses of Obligations.OnlyNamedCommandsChangeTtStrapsAndOtp. -/
theorem witness_OnlyNamedCommandsChangeTtStrapsAndOtp :
    (∃ (c : Instr) (s t : State), exec c s = .next t ∧ c ≠ .lcDone) ∧
    (∃ (c : Instr) (s t : State), exec c s = .next t ∧ (∀ b a, c ≠ .pwrGood b a) ∧ c ≠ .pllLock ∧ (∀ v, c ≠ .undervoltageLockout v)
      ∧ c ≠ .pwrEnLow ∧ c ≠ .powerStageStop ∧ (∀ w, c ≠ .bsyncFrameSlot w) ∧ c ≠ .bsyncNop ∧ (∀ a, c ≠ .timeLoadStage a)
      ∧ (∀ a, c ≠ .timeLoadLoad a) ∧ (∀ g, c ≠ .bsyncArm g) ∧ (∀ g a, c ≠ .startAt g a) ∧ (∀ g a, c ≠ .stopAt g a) ∧ c ≠ .ping) :=
  ⟨⟨.pmbusRevision, base 900, _, rfl, nofun⟩,
   ⟨.pmbusRevision, base 900, _, rfl, nofun, nofun, nofun, nofun, nofun, nofun, nofun, nofun, nofun, nofun, nofun, nofun, nofun⟩⟩

/-- Inputs that meet the hypotheses of Obligations.GradeIsReportedInBlkCap, clause by clause. -/
theorem witness_GradeIsReportedInBlkCap :
    ∃ s : State, ∃ fn : Nat, s.reads fn Ty.glb 0 0x004 = true :=
  ⟨base 900, 0, by decide +kernel⟩

end Sys2Proof.Tests
end

section
/-! Proofs of the statements of the family 00_scope.md, and the rules about reads, frames and raised errors they rest on. -/

namespace Sys2Proof.Machine

/-! ### Reads at a window offset (05 R85, R86) -/

theorem count_eq_zero_of_large {ty : Nat} (h : 0x1C ≤ ty) : Ty.count ty = 0 := by
  unfold Ty.count
  split <;> omega

theorem count_le (ty : Nat) : Ty.count ty ≤ 192 := by
  unfold Ty.count
  split <;> omega

/-- A mapped page lies in the window: both its numbers fit their fields of the offset. -/
theorem lt_of_mapped {ty inst : Nat} (h : mapped ty inst = true) : ty < 256 ∧ inst < 192 := by
  have hinst : inst < Ty.count ty := of_decide_eq_true h
  refine ⟨Nat.lt_of_not_le fun hty => ?_, Nat.lt_of_lt_of_le hinst (count_le ty)⟩
  rw [count_eq_zero_of_large (by omega)] at hinst
  exact Nat.not_lt_zero inst hinst

/-- A mapped page is no broadcast target. -/
theorem isBcast_of_mapped {ty inst : Nat} (h : mapped ty inst = true) : isBcast ty inst = false := by
  obtain ⟨-, hinst⟩ := lt_of_mapped h
  have h1 : (inst == 0xFF) = false := beq_eq_false_iff_ne.mpr (by omega)
  have h2 : decide (0xE0 ≤ inst) = false := decide_eq_false (by omega)
  simp [isBcast, h1, h2]

section
variable {ty inst off : Nat}

theorem addrTy_pageOff (hty : ty < 256) (hinst : inst < 256) (hoff : off < 4096) : addrTy (pageOff ty inst off) = ty := by
  simp only [addrTy, bits, pageOff, Nat.shiftRight_eq_div_pow]
  omega

theorem addrInst_pageOff (hinst : inst < 256) (hoff : off < 4096) : addrInst (pageOff ty inst off) = inst := by
  simp only [addrInst, bits, pageOff, Nat.shiftRight_eq_div_pow]
  omega

theorem addrOff_pageOff (hoff : off < 4096) : addrOff (pageOff ty inst off) = off := by
  simp only [addrOff, bits, pageOff, Nat.shiftRight_eq_div_pow]
  omega

end

/-- All four byte enables at an aligned offset cover one word. -/
theorem accWords_fullWord {a : Nat} (h : a % 4 = 0) : accWords a 15 = 1 := by
  have hlog : Nat.log2 15 = 3 := by decide
  simp [accWords, h, hlog]

/-- What `State.reads` asks for, part by part. -/
theorem State.reads_iff {s : State} {fn ty inst off : Nat} : s.reads fn ty inst off = true ↔
    fn < 18 ∧ s.fnUp fn = true ∧ (s.fn fn).inReset = false ∧ mapped ty inst = true
      ∧ s.mayAccess fn ty inst off false = true ∧ s.pageDead ty inst = false ∧ s.sealedReg ty inst off = false := by
  simp [State.reads, and_assoc]

/-- A read the checks let through answers the word of the register and leaves what reading it leaves. -/
theorem State.onRead_of_reads {s : State} {fn ty inst off : Nat} (h : s.reads fn ty inst off = true)
    (op : State → State × Nat) : s.onRead fn ty inst off op = (op s).1.emit (.word fn (op s).2) := by
  obtain ⟨-, hup, hreset, hmapped, haccess, hdead, hsealed⟩ := State.reads_iff.mp h
  simp [State.onRead, hup, hreset, isBcast_of_mapped hmapped, hmapped, hdead, haccess, hsealed]

/-- RC_READ of one whole register the checks let through. -/
theorem exec_rcRead_of_reads {s : State} {fn ty inst off : Nat} (h : s.reads fn ty inst off = true) (hoff : off < 4096)
    (haligned : off % 4 = 0) :
    exec (.rcRead fn (pageOff ty inst off) 15) s
      = .next ((s.readReg fn ty inst off).1.emit (.word fn (s.readReg fn ty inst off).2)) := by
  obtain ⟨hfn, hup, hreset, hmapped, -⟩ := State.reads_iff.mp h
  obtain ⟨hty, hinst⟩ := lt_of_mapped hmapped
  have hinst : inst < 256 := by omega
  have hpage : pageOff ty inst off % 4 = 0 := by unfold pageOff; omega
  have hword : s.winRead fn (pageOff ty inst off) 15 = s.wordRead fn (pageOff ty inst off) := by
    simp [State.winRead, hup, hreset, accWords_fullWord hpage, List.range_succ]
  calc exec (.rcRead fn (pageOff ty inst off) 15) s
      = .next (s.winRead fn (pageOff ty inst off) 15) := onUnit_of _ _ (decide_eq_true hfn)
    _ = .next (s.onRead fn ty inst off (fun t => t.readReg fn ty inst off)) := by
        rw [hword, State.wordRead, addrTy_pageOff hty hinst hoff, addrInst_pageOff hinst hoff, addrOff_pageOff hoff]
    _ = _ := by rw [State.onRead_of_reads h]

/-- Bit 0 of BLK_CAP of the GLB page is the grade; the straps stand above it. -/
theorem State.blkCap_glb_mod_two (s : State) (inst : Nat) : s.blkCap Ty.glb inst % 2 = b2n s.grade08 := by
  have hgrade : b2n s.grade08 < 2 := by cases s.grade08 <;> decide
  simp only [State.blkCap]
  omega

/-- Settles O60: the read of BLK_CAP clears nothing and answers the word whose bit 0 is the grade. -/
theorem gradeIsReportedInBlkCap : Obligations.GradeIsReportedInBlkCap := by
  intro s fn h
  exact ⟨exec_rcRead_of_reads h (by decide) (by decide), s.blkCap_glb_mod_two 0⟩

/-! ### What a command leaves of the queue of commands, the clock and the grade (00 R4, log entry 1) -/

/-- REKEY_DONE of a stack is `execRekeyDone_outer`; without one it retires the security unit. -/
theorem execRekeyDone_outer_of_option (stack : Option Nat) (s : State) {t : State} (hnext : execRekeyDone stack s = .next t) :
    t.outer = s.outer := by
  cases stack with
  | some k => exact execRekeyDone_outer k s hnext
  | none =>
    refine outer_of_next hnext ?_
    exact outer_of_ite _ (State.retireUnit_outer ..) rfl

/-- Each command keeps what `State.outer` reads, by the law of its meaning. -/
theorem exec_outer (c : Instr) (s t : State) (hnext : exec c s = .next t) : t.outer = s.outer := by
  cases c with
  | powerUpStart vin => exact execPowerUpStart_outer vin s hnext
  | pwrGood bifur smbAddr => exact execPwrGood_outer bifur smbAddr s hnext
  | pllLock => exact execPllLock_outer s hnext
  | pllLockTimeout => exact execPllLockTimeout_outer s hnext
  | bmemClearDone ok => exact execBmemClearDone_outer ok s hnext
  | hbmClearDone failed => exact execHbmClearDone_outer failed s hnext
  | fwVerifyDone sigA sigB => exact execFwVerifyDone_outer sigA sigB s hnext
  | mcLoadDone sigs => exact execMcLoadDone_outer sigs s hnext
  | retireLoad => exact execRetireLoad_outer s hnext
  | calLoad => exact execCalLoad_outer s hnext
  | bootReady => exact execBootReady_outer s hnext
  | warmupSample => exact execWarmupSample_outer s hnext
  | warmupTimeout => exact execWarmupTimeout_outer s hnext
  | powerFailWarning vin => exact execPowerFailWarning_outer vin s hnext
  | loadShedDone => exact execLoadShedDone_outer s hnext
  | powerWarnRelease vin => exact execPowerWarnRelease_outer vin s hnext
  | undervoltageLockout vin => exact execUndervoltageLockout_outer vin s hnext
  | pwrEnLow => exact execPwrEnLow_outer s hnext
  | powerStageStop => exact execPowerStageStop_outer s hnext
  | pwrOvercurrent => exact execPwrOvercurrent_outer s hnext
  | pwrOvervoltage vin => exact execPwrOvervoltage_outer vin s hnext
  | pwrOvRelease vin => exact execPwrOvRelease_outer vin s hnext
  | pwrOvertemp => exact execPwrOvertemp_outer s hnext
  | pwrOtClear => exact execPwrOtClear_outer s hnext
  | telemetryRefresh mv ma mw groups temps ppm => exact execTelemetryRefresh_outer mv ma mw groups temps ppm s hnext
  | page v => exact execPage_outer v s hnext
  | clearFaults => exact execClearFaults_outer s hnext
  | capability => exact execCapability_outer s hnext
  | vinOvFaultLimit => exact execVinOvFaultLimit_outer s hnext
  | vinUvWarnLimit => exact execVinUvWarnLimit_outer s hnext
  | vinUvFaultLimit => exact execVinUvFaultLimit_outer s hnext
  | statusByte => exact execStatusByte_outer s hnext
  | statusWord => exact execStatusWord_outer s hnext
  | statusInput => exact execStatusInput_outer s hnext
  | statusTemperature => exact execStatusTemperature_outer s hnext
  | statusCml => exact execStatusCml_outer s hnext
  | readVin => exact execReadVin_outer s hnext
  | readIin => exact execReadIin_outer s hnext
  | readTemperature1 => exact execReadTemperature1_outer s hnext
  | readPout => exact execReadPout_outer s hnext
  | readPin => exact execReadPin_outer s hnext
  | pmbusRevision => exact execPmbusRevision_outer s hnext
  | mfrId => exact execMfrId_outer s hnext
  | mfrModel => exact execMfrModel_outer s hnext
  | pmbusInvalid kind => exact execPmbusInvalid_outer kind s hnext
  | smbusAlertResponse => exact execSmbusAlertResponse_outer s hnext
  | smbusTimeout => exact execSmbusTimeout_outer s hnext
  | clockLoss => exact execClockLoss_outer s hnext
  | pllUnlock => exact execPllUnlock_outer s hnext
  | pllRelock => exact execPllRelock_outer s hnext
  | analogLinkWatchdog die => exact execAnalogLinkWatchdog_outer die s hnext
  | linkRetry d => exact execLinkRetry_outer d s hnext
  | linkDown d => exact execLinkDown_outer d s hnext
  | modeReqSafe fn force => exact execModeReqSafe_outer fn force s hnext
  | modeReqReady fn force => exact execModeReqReady_outer fn force s hnext
  | modeReqCal fn => exact execModeReqCal_outer fn s hnext
  | modeReqRun fn => exact execModeReqRun_outer fn s hnext
  | modeReqService fn => exact execModeReqService_outer fn s hnext
  | modeReqIllegal fn val => exact execModeReqIllegal_outer fn val s hnext
  | modeTransitionDone => exact execModeTransitionDone_outer s hnext
  | perstAssert => exact execPerstAssert_outer s hnext
  | pcieLinkDown e => exact execPcieLinkDown_outer e s hnext
  | functionReset fn how => exact execFunctionReset_outer fn how s hnext
  | functionResetDone fn => exact execFunctionResetDone_outer fn s hnext
  | msixVectorUnmask fn v => exact execMsixVectorUnmask_outer fn v s hnext
  | regWrite fn a be val => exact execRegWrite_outer fn a be val s hnext
  | rcRead fn a be => exact execRcRead_outer fn a be s hnext
  | pairLoWrite fn ty inst lo val => exact execPairLoWrite_outer fn ty inst lo val s hnext
  | pairHiCommit fn ty inst lo val => exact execPairHiCommit_outer fn ty inst lo val s hnext
  | pairLoRead fn ty inst lo => exact execPairLoRead_outer fn ty inst lo s hnext
  | blkEnClear fn ty inst => exact execBlkEnClear_outer fn ty inst s hnext
  | blkEnSet fn ty inst => exact execBlkEnSet_outer fn ty inst s hnext
  | blkSoftReset fn ty inst => exact execBlkSoftReset_outer fn ty inst s hnext
  | softResetDone ty inst => exact execSoftResetDone_outer ty inst s hnext
  | blkLock fn ty inst => exact execBlkLock_outer fn ty inst s hnext
  | blkIrqSet fn ty inst val => exact execBlkIrqSet_outer fn ty inst val s hnext
  | blkIrqEnableWrite fn ty inst val => exact execBlkIrqEnableWrite_outer fn ty inst val s hnext
  | blkOwnerWrite fn ty inst val => exact execBlkOwnerWrite_outer fn ty inst val s hnext
  | broadcastWrite fn ty inst off val => exact execBroadcastWrite_outer fn ty inst off val s hnext
  | siteChMaskWrite fn st k val => exact execSiteChMaskWrite_outer fn st k val s hnext
  | siteCluMaskWrite fn st val => exact execSiteCluMaskWrite_outer fn st val s hnext
  | siteTeMaskWrite fn st k val => exact execSiteTeMaskWrite_outer fn st k val s hnext
  | siteQueueRangeWrite fn st isCount val => exact execSiteQueueRangeWrite_outer fn st isCount val s hnext
  | burstArm fn st frame => exact execBurstArm_outer fn st frame s hnext
  | burstDisarm fn st => exact execBurstDisarm_outer fn st s hnext
  | burstStart fn st t24 => exact execBurstStart_outer fn st t24 s hnext
  | burstStop fn st => exact execBurstStop_outer fn st s hnext
  | burstAbort fn st => exact execBurstAbort_outer fn st s hnext
  | burstAck fn st => exact execBurstAck_outer fn st s hnext
  | burstCmdInvalid fn st op => exact execBurstCmdInvalid_outer fn st op s hnext
  | burstRunEntry st => exact execBurstRunEntry_outer st s hnext
  | burstDrainEntry st => exact execBurstDrainEntry_outer st s hnext
  | stopDrainEntry st => exact execStopDrainEntry_outer st s hnext
  | burstIdleEntry st => exact execBurstIdleEntry_outer st s hnext
  | spareSwitch k => exact execSpareSwitch_outer k s hnext
  | bsyncFrameSlot w => exact execBsyncFrameSlot_outer w s hnext
  | syncLoss => exact execSyncLoss_outer s hnext
  | bsyncNop => exact execBsyncNop_outer s hnext
  | timeLoadStage t40 => exact execTimeLoadStage_outer t40 s hnext
  | timeLoadLoad t24 => exact execTimeLoadLoad_outer t24 s hnext
  | phaseSlewStep => exact execPhaseSlewStep_outer s hnext
  | bsyncArm g => exact execBsyncArm_outer g s hnext
  | startAt g t40 => exact execStartAt_outer g t40 s hnext
  | stopAt g t40 => exact execStopAt_outer g t40 s hnext
  | ping => exact execPing_outer s hnext
  | trigInEdge line rising tt => exact execTrigInEdge_outer line rising tt s hnext
  | trigOutPulse line => exact execTrigOutPulse_outer line s hnext
  | trigOutFire fn line => exact execTrigOutFire_outer fn line s hnext
  | segmentPlace => exact execSegmentPlace_outer s hnext
  | dequePop e => exact execDequePop_outer e s hnext
  | stealProbe e => exact execStealProbe_outer e s hnext
  | segmentTake e => exact execSegmentTake_outer e s hnext
  | dequeHandover e => exact execDequeHandover_outer e s hnext
  | requeueSlotDrain e => exact execRequeueSlotDrain_outer e s hnext
  | nop e => exact execNop_outer e s hnext
  | vec e => exact execVec_outer e s hnext
  | rpt e => exact execRpt_outer e s hnext
  | hold e => exact execHold_outer e s hnext
  | tset e => exact execTset_outer e s hnext
  | lvl e => exact execLvl_outer e s hnext
  | mark e => exact execMark_outer e s hnext
  | sync e => exact execSync_outer e s hnext
  | halt e => exact execHalt_outer e s hnext
  | jmp e => exact execJmp_outer e s hnext
  | jmpf e => exact execJmpf_outer e s hnext
  | call e => exact execCall_outer e s hnext
  | ret e => exact execRet_outer e s hnext
  | loop e => exact execLoop_outer e s hnext
  | endloop e => exact execEndloop_outer e s hnext
  | matchVec e => exact execMatch_outer e s hnext
  | scan e => exact execScan_outer e s hnext
  | decomp e => exact execDecomp_outer e s hnext
  | invalidOpcode e => exact execInvalidOpcode_outer e s hnext
  | microNext e => exact execMicroNext_outer e s hnext
  | microJump e => exact execMicroJump_outer e s hnext
  | microCjump e => exact execMicroCjump_outer e s hnext
  | microCall e => exact execMicroCall_outer e s hnext
  | microRet e => exact execMicroRet_outer e s hnext
  | microDispatch e => exact execMicroDispatch_outer e s hnext
  | microUloop e => exact execMicroUloop_outer e s hnext
  | microResume e => exact execMicroResume_outer e s hnext
  | cacheMissFill e => exact execCacheMissFill_outer e s hnext
  | blockPost e => exact execBlockPost_outer e s hnext
  | engineInterruptTake e => exact execEngineInterruptTake_outer e s hnext
  | abortTake e => exact execAbortTake_outer e s hnext
  | machineCheck e kind => exact execMachineCheck_outer e kind s hnext
  | reloadDone e mismatch => exact execReloadDone_outer e mismatch s hnext
  | idleScan e bad => exact execIdleScan_outer e bad s hnext
  | blockArrive ch => exact execBlockArrive_outer ch s hnext
  | blockDeadline ch segId seq parityBad => exact execBlockDeadline_outer ch segId seq parityBad s hnext
  | blockRelease ch => exact execBlockRelease_outer ch s hnext
  | uiStart ch => exact execUiStart_outer ch s hnext
  | edgeApply ch => exact execEdgeApply_outer ch s hnext
  | compareEvent ch => exact execCompareEvent_outer ch s hnext
  | comparatorCrossing ch cl rising tt => exact execComparatorCrossing_outer ch cl rising tt s hnext
  | compareResult ch => exact execCompareResult_outer ch s hnext
  | matchResult e => exact execMatchResult_outer e s hnext
  | barrierComplete st b => exact execBarrierComplete_outer st b s hnext
  | condTimeout e => exact execCondTimeout_outer e s hnext
  | freerunStart fn ch ts sym => exact execFreerunStart_outer fn ch ts sym s hnext
  | freerunStop fn ch ts sym => exact execFreerunStop_outer fn ch ts sym s hnext
  | tgPeriodCommit fn ch val => exact execTgPeriodCommit_outer fn ch val s hnext
  | tgSymmapCommit fn ch val => exact execTgSymmapCommit_outer fn ch val s hnext
  | timesetWrite fn ch t edge val => exact execTimesetWrite_outer fn ch t edge val s hnext
  | calSlewStep ch levels => exact execCalSlewStep_outer ch levels s hnext
  | calStale ch => exact execCalStale_outer ch s hnext
  | peCtrlWrite fn ch val => exact execPeCtrlWrite_outer fn ch val s hnext
  | driverRangeDone ch => exact execDriverRangeDone_outer ch s hnext
  | pePmuCtrlWrite fn ch val => exact execPePmuCtrlWrite_outer fn ch val s hnext
  | pePmuRangeWrite fn ch val => exact execPePmuRangeWrite_outer fn ch val s hnext
  | pmuOldStageOpen ch => exact execPmuOldStageOpen_outer ch s hnext
  | pmuRangeDone ch => exact execPmuRangeDone_outer ch s hnext
  | pmuSenseFallback ch => exact execPmuSenseFallback_outer ch s hnext
  | pmuCompliance ch x => exact execPmuCompliance_outer ch x s hnext
  | clampConduct ch high on => exact execClampConduct_outer ch high on s hnext
  | protClampConduct ch high => exact execProtClampConduct_outer ch high s hnext
  | contactTestStart fn ch pol cur => exact execContactTestStart_outer fn ch pol cur s hnext
  | contactTestDone ch mv => exact execContactTestDone_outer ch mv s hnext
  | lvlDacWrite fn ch d val => exact execLvlDacWrite_outer fn ch d val s hnext
  | lvlQueuePush fn ch val => exact execLvlQueuePush_outer fn ch val s hnext
  | lvlQueueFlush fn ch => exact execLvlQueueFlush_outer fn ch s hnext
  | lvlEntryArrive ch => exact execLvlEntryArrive_outer ch s hnext
  | lclkTick st => exact execLclkTick_outer st s hnext
  | fcuRecordClose r segId seq => exact execFcuRecordClose_outer r segId seq s hnext
  | fcuRecordMove r st => exact execFcuRecordMove_outer r st s hnext
  | fcuPSizeWrite fn r st val => exact execFcuPSizeWrite_outer fn r st val s hnext
  | fcuPCtrlWrite fn r st val => exact execFcuPCtrlWrite_outer fn r st val s hnext
  | madcStart fn k => exact execMadcStart_outer fn k s hnext
  | madcRunStart fn k spare mon => exact execMadcRunStart_outer fn k spare mon s hnext
  | madcRunStop fn k spare mon => exact execMadcRunStop_outer fn k spare mon s hnext
  | madcPeriodicTrigger k => exact execMadcPeriodicTrigger_outer k s hnext
  | madcConversionDone k raw => exact execMadcConversionDone_outer k raw s hnext
  | madcConversionTimeout k => exact execMadcConversionTimeout_outer k s hnext
  | madcRecordMove k => exact execMadcRecordMove_outer k s hnext
  | acqArm fn k => exact execAcqArm_outer fn k s hnext
  | acqDisarm fn k => exact execAcqDisarm_outer fn k s hnext
  | acqForce fn k => exact execAcqForce_outer fn k s hnext
  | acqLive k => exact execAcqLive_outer k s hnext
  | acqRunStart fn k => exact execAcqRunStart_outer fn k s hnext
  | acqRunStop fn k => exact execAcqRunStop_outer fn k s hnext
  | acqRecordArrive k => exact execAcqRecordArrive_outer k s hnext
  | acqTriggerDeclare k => exact execAcqTriggerDeclare_outer k s hnext
  | acqRingMove k => exact execAcqRingMove_outer k s hnext
  | acqCaptureDone k => exact execAcqCaptureDone_outer k s hnext
  | acqStreamStopped k => exact execAcqStreamStopped_outer k s hnext
  | acqBurstFlush st => exact execAcqBurstFlush_outer st s hnext
  | calTempEval r => exact execCalTempEval_outer r s hnext
  | calStart fn idx => exact execCalStart_outer fn idx s hnext
  | calAbort fn idx => exact execCalAbort_outer fn idx s hnext
  | calCommonStepDone r vref vbg spine => exact execCalCommonStepDone_outer r vref vbg spine s hnext
  | calClusterStepStart k => exact execCalClusterStepStart_outer k s hnext
  | calClusterStepDone k lanes madc => exact execCalClusterStepDone_outer k lanes madc s hnext
  | calHoldoffExpiry r => exact execCalHoldoffExpiry_outer r s hnext
  | calEnvCheckDone k v => exact execCalEnvCheckDone_outer k v s hnext
  | calReflectDone ch sum spread clean => exact execCalReflectDone_outer ch sum spread clean s hnext
  | calSequenceDone => exact execCalSequenceDone_outer s hnext
  | norRecordWriteDone => exact execNorRecordWriteDone_outer s hnext
  | analogReadback ch bad again => exact execAnalogReadback_outer ch bad again s hnext
  | thermalSensorSample r temps => exact execThermalSensorSample_outer r temps s hnext
  | regionThermalShutdown r => exact execRegionThermalShutdown_outer r s hnext
  | reenable fn r => exact execReenable_outer fn r s hnext
  | bankAccess l => exact execBankAccess_outer l s hnext
  | bmemTestRegionStart => exact execBmemTestRegionStart_outer s hnext
  | bmemMarchDone fails => exact execBmemMarchDone_outer fails s hnext
  | hbmUncorrRead addr who idx j => exact execHbmUncorrRead_outer addr who idx j s hnext
  | doorbellTail fn q index => exact execDoorbellTail_outer fn q index s hnext
  | doorbellHead fn q index => exact execDoorbellHead_outer fn q index s hnext
  | doorbellRelease fn q => exact execDoorbellRelease_outer fn q s hnext
  | pushSelWrite fn val => exact execPushSelWrite_outer fn val s hnext
  | pushWrite fn off data => exact execPushWrite_outer fn off data s hnext
  | descRead fn => exact execDescRead_outer fn s hnext
  | descWrite fn => exact execDescWrite_outer fn s hnext
  | cmdNop q => exact execCmdNop_outer q s hnext
  | copyIn q data => exact execCopyIn_outer q data s hnext
  | copyOut q err => exact execCopyOut_outer q err s hnext
  | queueOut q err => exact execQueueOut_outer q err s hnext
  | barrierSet q => exact execBarrierSet_outer q s hnext
  | fcuScrambleLoad q => exact execFcuScrambleLoad_outer q s hnext
  | calRead q err => exact execCalRead_outer q err s hnext
  | mcInstall q key => exact execMcInstall_outer q key s hnext
  | memGrant q => exact execMemGrant_outer q s hnext
  | cmdUnknown q => exact execCmdUnknown_outer q s hnext
  | heldCompletionPost fn => exact execHeldCompletionPost_outer fn s hnext
  | logLostEntry st => exact execLogLostEntry_outer st s hnext
  | spdmGetVersion path => exact execSpdmGetVersion_outer path s hnext
  | spdmGetCapabilities path req => exact execSpdmGetCapabilities_outer path req s hnext
  | spdmNegotiateAlgorithms path req => exact execSpdmNegotiateAlgorithms_outer path req s hnext
  | spdmGetDigests path => exact execSpdmGetDigests_outer path s hnext
  | spdmGetCertificate path slot off len => exact execSpdmGetCertificate_outer path slot off len s hnext
  | spdmChallenge path req => exact execSpdmChallenge_outer path req s hnext
  | spdmGetMeasurements path req => exact execSpdmGetMeasurements_outer path req s hnext
  | spdmKeyExchange path req => exact execSpdmKeyExchange_outer path req s hnext
  | spdmFinish path ok => exact execSpdmFinish_outer path ok s hnext
  | spdmHeartbeat path => exact execSpdmHeartbeat_outer path s hnext
  | spdmKeyUpdate path => exact execSpdmKeyUpdate_outer path s hnext
  | spdmEndSession path => exact execSpdmEndSession_outer path s hnext
  | spdmUnsupported path => exact execSpdmUnsupported_outer path s hnext
  | ideKm req => exact execIdeKm_outer req s hnext
  | ideIntegrityFail fn => exact execIdeIntegrityFail_outer fn s hnext
  | setEndpointId op eid => exact execSetEndpointId_outer op eid s hnext
  | getEndpointId => exact execGetEndpointId_outer s hnext
  | getEndpointUuid => exact execGetEndpointUuid_outer s hnext
  | getMctpVersionSupport type => exact execGetMctpVersionSupport_outer type s hnext
  | getMessageTypeSupport => exact execGetMessageTypeSupport_outer s hnext
  | mctpUnsupported type cmd => exact execMctpUnsupported_outer type cmd s hnext
  | load fn head src len dest => exact execLoad_outer fn head src len dest s hnext
  | bind fn raw => exact execBind_outer fn raw s hnext
  | unload fn raw => exact execUnload_outer fn raw s hnext
  | doeStatus fn raw => exact execDoeStatus_outer fn raw s hnext
  | fwInstall fn raw sig => exact execFwInstall_outer fn raw sig s hnext
  | fwRecover fn raw sig => exact execFwRecover_outer fn raw sig s hnext
  | floorCommit fn raw => exact execFloorCommit_outer fn raw s hnext
  | doeUnknown fn raw => exact execDoeUnknown_outer fn raw s hnext
  | resultFrameClose st kind inst => exact execResultFrameClose_outer st kind inst s hnext
  | glbHostTimeCommit fn hi => exact execGlbHostTimeCommit_outer fn hi s hnext
  | hwBoundWrite => exact execHwBoundWrite_outer s hnext
  | secSealedSitesWrite fn val => exact execSecSealedSitesWrite_outer fn val s hnext
  | lifecycleTransition fn to_ token rest => exact execLifecycleTransition_outer fn to_ token rest s hnext
  | tamper src => exact execTamper_outer src s hnext
  | retireClear fn kind idx => exact execRetireClear_outer fn kind idx s hnext
  | errEntryClose => exact execErrEntryClose_outer s hnext
  | errReserveWrite => exact execErrReserveWrite_outer s hnext
  | errMirror => exact execErrMirror_outer s hnext
  | histSample k => exact execHistSample_outer k s hnext
  | histRunStart fn k => exact execHistRunStart_outer fn k s hnext
  | histRunStop fn k => exact execHistRunStop_outer fn k s hnext
  | histClear fn k => exact execHistClear_outer fn k s hnext
  | cmdlatSample ns => exact execCmdlatSample_outer ns s hnext
  | qdepthSample => exact execQdepthSample_outer s hnext
  | cmdClear fn => exact execCmdClear_outer fn s hnext
  | qdClear fn => exact execQdClear_outer fn s hnext
  | extest seen drive => exact execExtest_outer seen drive s hnext
  | idcode => exact execIdcode_outer s hnext
  | samplePreload seen load => exact execSamplePreload_outer seen load s hnext
  | clampLands => exact execClamp_outer s hnext
  | highz => exact execHighz_outer s hnext
  | bypass code => exact execBypass_outer code s hnext
  | refclkReturn => exact execRefclkReturn_outer s hnext
  | pcieLinkUp e => exact execPcieLinkUp_outer e s hnext
  | vfEnableSet pf num => exact execVfEnableSet_outer pf num s hnext
  | tamperConditionEnd src => exact execTamperConditionEnd_outer src s hnext
  | hizSequenceDone ch => exact execHizSequenceDone_outer ch s hnext
  | abortPoint st => exact execAbortPoint_outer st s hnext
  | triggerEventArrive line => exact execTriggerEventArrive_outer line s hnext
  | memGrantDone => exact execMemGrantDone_outer s hnext
  | mcInstallDone => exact execMcInstallDone_outer s hnext
  | lcDone => exact execLcDone_outer s hnext
  | rekeyDone stack => exact execRekeyDone_outer_of_option stack s hnext
  | hbmTempRefresh t0 t1 t2 => exact execHbmTempRefresh_outer t0 t1 t2 s hnext
  | hbmBwWindow idx served demand thr bp => exact execHbmBwWindow_outer idx served demand thr bp s hnext

/-- Settles O58: the queue of commands, the clock and the grade are what `State.outer` reads, which every command keeps. -/
theorem execLeavesQueueClockAndGrade : Obligations.ExecLeavesQueueClockAndGrade := by
  intro c s t hnext
  have houter : (t.pending, t.uptime, t.grade08) = (s.pending, s.uptime, s.grade08) := exec_outer c s t hnext
  simpa only [Prod.mk.injEq] using houter

/-! ### Frames: what differs between two states -/

theorem Part.same_refl (p : Part) (s : State) : p.same s s := by
  cases p <;> simp [Part.same]

theorem Part.same_trans {p : Part} {s t u : State} (h₁ : p.same s t) (h₂ : p.same t u) : p.same s u := by
  cases p <;> simp_all only [Part.same, and_self]

theorem Only.trans {l : List Part} {s t u : State} (h₁ : Only l s t) (h₂ : Only l t u) : Only l s u :=
  fun p hp => Part.same_trans (h₁ p hp) (h₂ p hp)

theorem Only.mono {l m : List Part} {s t : State} (h : Only l s t) (hlm : l ⊆ m) : Only m s t :=
  fun p hp => h p (fun hl => hp (hlm hl))

theorem State.modFn_only (s : State) (i : Nat) (f : Fn → Fn) : Only [.fns] s (s.modFn i f) := by
  intro p hp
  cases p <;> simp [Part.same] at hp ⊢

theorem State.modChan_only (s : State) (i : Nat) (f : Chan → Chan) : Only [.chans] s (s.modChan i f) := by
  intro p hp
  cases p <;> simp [Part.same] at hp ⊢

/-! ### What raising an error touches (18 R392 to R395)

`errorParts` names it. The rest of a state is the state with these parts emptied, and every operation of the ERR log keeps
that rest. -/

/-- The state with the parts an error can touch emptied. -/
def State.sansErrorParts (s : State) : State :=
  { s with hdrs := [], fns := [], outs := [], err := {}, sites := [], queues := [], mem := [], ctext := [], bmem := {} }

/-- Two states that agree once the parts an error can touch are emptied differ in these parts alone. -/
theorem only_errorParts_of_sansErrorParts {s t : State} (h : t.sansErrorParts = s.sansErrorParts) : Only errorParts s t := by
  simp only [State.sansErrorParts, State.mk.injEq] at h
  intro p hp
  cases p <;> simp_all only [Part.same, errorParts, List.mem_cons, true_or, or_true, not_true_eq_false, and_self]

section
variable (s : State)
@[simp] theorem State.modHdr_sansErrorParts (ty inst : Nat) (f : Hdr → Hdr) :
    (s.modHdr ty inst f).sansErrorParts = s.sansErrorParts := rfl
@[simp] theorem State.modFn_sansErrorParts (i : Nat) (f : Fn → Fn) : (s.modFn i f).sansErrorParts = s.sansErrorParts := rfl
@[simp] theorem State.modSite_sansErrorParts (i : Nat) (f : Site → Site) :
    (s.modSite i f).sansErrorParts = s.sansErrorParts := rfl
@[simp] theorem State.modQueue_sansErrorParts (q : Nat) (f : QDesc → QDesc) :
    (s.modQueue q f).sansErrorParts = s.sansErrorParts := rfl
@[simp] theorem State.modErr_sansErrorParts (f : ErrLog → ErrLog) : (s.modErr f).sansErrorParts = s.sansErrorParts := rfl
@[simp] theorem State.modBmem_sansErrorParts (f : Bmem → Bmem) : (s.modBmem f).sansErrorParts = s.sansErrorParts := rfl
@[simp] theorem State.emit_sansErrorParts (o : Out) : (s.emit o).sansErrorParts = s.sansErrorParts := rfl
@[simp] theorem State.setByte_sansErrorParts (a : Nat) (b : Byte) :
    (s.setByte a b).sansErrorParts = s.sansErrorParts := rfl

@[simp] theorem State.setBytes_sansErrorParts (a : Nat) (l : List Byte) :
    (s.setBytes a l).sansErrorParts = s.sansErrorParts :=
  setBytes_keep (·.sansErrorParts) (fun _ _ _ => rfl) l s a

@[simp] theorem State.bankHits_sansErrorParts (a n : Nat) (w : Bool) :
    (s.bankHits a n w).sansErrorParts = s.sansErrorParts :=
  State.bankHits_keep (·.sansErrorParts) (fun _ _ => rfl) s a n w

@[simp] theorem State.qHit_sansErrorParts (q : Nat) (w : Bool) : (s.qHit q w).sansErrorParts = s.sansErrorParts :=
  s.bankHits_sansErrorParts ..

@[simp] theorem State.msix_sansErrorParts (fn v : Nat) : (s.msix fn v).sansErrorParts = s.sansErrorParts := by
  unfold State.msix
  dsimp only
  split <;> simp

@[simp] theorem State.pageMsgs_sansErrorParts (ty inst m : Nat) :
    (s.pageMsgs ty inst m).sansErrorParts = s.sansErrorParts := by
  unfold State.pageMsgs
  dsimp only
  split
  · rfl
  · exact forEach_keep (·.sansErrorParts) _ (fun _ _ => by simp) _ _

@[simp] theorem State.cause_sansErrorParts (ty inst m : Nat) : (s.cause ty inst m).sansErrorParts = s.sansErrorParts := by
  unfold State.cause
  simp

@[simp] theorem State.produce_sansErrorParts (q : Nat) (l : List (List Byte)) :
    (s.produce q l).sansErrorParts = s.sansErrorParts := by
  have hslots := foldl_keep_fst (·.sansErrorParts) (fun (p : State × Nat) b =>
    ((p.1.bankHits ((s.queue q).base + slotSize (s.queue q).type * p.2) b.length true).setBytes
      ((s.queue q).base + slotSize (s.queue q).type * p.2) b, (p.2 + 1) % (s.queue q).slots)) (by simp) l
    (s.qHit q true, (s.queue q).tail)
  unfold State.produce when
  dsimp only
  split <;> simpa using hslots

@[simp] theorem State.postLog_sansErrorParts (st : Nat) (e : List Byte) :
    (s.postLog st e).sansErrorParts = s.sansErrorParts := by
  unfold State.postLog
  dsimp only
  split
  · split <;> simp
  · rfl

@[simp] theorem State.copyEntry_sansErrorParts (e : ErrEntry) : (s.copyEntry e).sansErrorParts = s.sansErrorParts :=
  forEach_keep (·.sansErrorParts) _ (fun _ _ => by simp) _ _

@[simp] theorem State.closeEntries_sansErrorParts (p : ErrEntry → Bool) :
    (s.closeEntries p).sansErrorParts = s.sansErrorParts :=
  (foldl_keep (·.sansErrorParts) _ (fun _ _ => by simp) _ _).trans (by simp)

@[simp] theorem State.closeDue_sansErrorParts : s.closeDue.sansErrorParts = s.sansErrorParts :=
  s.closeEntries_sansErrorParts _

@[simp] theorem State.writeEntry_sansErrorParts (e : ErrEntry) : (s.writeEntry e).sansErrorParts = s.sansErrorParts := by
  unfold State.writeEntry
  dsimp only
  rw [State.cause_sansErrorParts]
  (repeat' split) <;> simp

@[simp] theorem State.errDrain_sansErrorParts : s.errDrain.sansErrorParts = s.sansErrorParts := by
  unfold State.errDrain
  (repeat' split) <;> simp

@[simp] theorem State.newEntry_sansErrorParts (e : ErrEntry) : (s.newEntry e).sansErrorParts = s.sansErrorParts := by
  unfold State.newEntry
  dsimp only
  (repeat' split) <;> simp

@[simp] theorem State.raiseAt_sansErrorParts (tt code ty inst : Nat) (site : Option Nat) (detail : Nat) (tr perm : Bool) :
    (s.raiseAt tt code ty inst site detail tr perm).sansErrorParts = s.sansErrorParts := by
  unfold State.raiseAt
  dsimp only
  split <;> simp

/-- Raising an error changes nothing beside the parts of `errorParts`. -/
theorem State.raise_only (code ty inst : Nat) (site : Option Nat) (detail : Nat) :
    Only errorParts s (s.raise code ty inst site detail) :=
  only_errorParts_of_sansErrorParts (s.raiseAt_sansErrorParts ..)

theorem State.reject_only (fn code ty inst : Nat) : Only errorParts s (s.reject fn code ty inst) :=
  s.raise_only code ty inst _ 0

@[simp] theorem State.reject_chans (fn code ty inst : Nat) : (s.reject fn code ty inst).chans = s.chans :=
  s.raise_chans ..

end

/-! ### What raising an error does to page headers (18 R393): the source page counts it; only the ERR page's causes change beside -/

section
variable {a b : Nat} (hne : pageKey a b ≠ pageKey Ty.err 0)
include hne

theorem State.writeEntry_hdr_of_ne_err (s : State) (e : ErrEntry) : (s.writeEntry e).hdr a b = s.hdr a b := by
  unfold State.writeEntry
  dsimp only
  rw [State.cause_hdr_other _ _ hne]
  (repeat' split) <;> simp

theorem State.errDrain_hdr_of_ne_err (s : State) : s.errDrain.hdr a b = s.hdr a b := by
  unfold State.errDrain
  (repeat' split) <;> simp [State.writeEntry_hdr_of_ne_err hne]

theorem State.newEntry_hdr_of_ne_err (s : State) (e : ErrEntry) : (s.newEntry e).hdr a b = s.hdr a b := by
  unfold State.newEntry
  dsimp only
  (repeat' split) <;> simp [State.writeEntry_hdr_of_ne_err hne, State.errDrain_hdr_of_ne_err hne]

end

/-- The source page of an error counts it, saturating, and keeps its code. -/
theorem State.raise_hdr_source {ty inst : Nat} (hne : pageKey ty inst ≠ pageKey Ty.err 0) (s : State) (code : Nat)
    (site : Option Nat) (detail : Nat) :
    (s.raise code ty inst site detail).hdr ty inst
      = { s.hdr ty inst with errCount := satAdd sat16 (s.hdr ty inst).errCount 1, lastCode := code } := by
  unfold State.raise State.raiseFull State.raiseAt
  dsimp only
  split <;> simp [State.newEntry_hdr_of_ne_err hne]

theorem State.reject_hdr_source {ty inst : Nat} (hne : pageKey ty inst ≠ pageKey Ty.err 0) (s : State) (fn code : Nat) :
    (s.reject fn code ty inst).hdr ty inst
      = { s.hdr ty inst with errCount := satAdd sat16 (s.hdr ty inst).errCount 1, lastCode := code } :=
  s.raise_hdr_source hne ..

/-! ### Checks before an operation, and staged low halves -/

/-- The first check of the list fails: the write is rejected with its code. -/
theorem State.checked_fail {l : List (Bool × Nat)} {code : Nat} (hfail : firstFail l = code) (hcode : code ≠ 0) (s : State)
    (fn ty inst : Nat) (act : State → State) : s.checked fn ty inst l act = s.reject fn code ty inst := by
  simp [State.checked, hfail, hcode]

@[simp] theorem State.unstage_chans (s : State) (fn ty inst lo : Nat) : (s.unstage fn ty inst lo).chans = s.chans := rfl
@[simp] theorem State.unstage_chan (s : State) (fn ty inst lo ch : Nat) :
    (s.unstage fn ty inst lo).chan ch = s.chan ch := rfl
@[simp] theorem State.unstage_hdr (s : State) (fn ty inst lo a b : Nat) :
    (s.unstage fn ty inst lo).hdr a b = s.hdr a b := rfl
theorem State.unstage_only (s : State) (fn ty inst lo : Nat) : Only [.fns] s (s.unstage fn ty inst lo) :=
  s.modFn_only fn _

/-! ### Writes of TG_PERIOD_HI (00 R3, 09 R177, R179) -/

/-- The whole part of the period that a write of TG_PERIOD_HI by `fn` commits. -/
def State.committedPeriod (s : State) (fn ch val : Nat) : Nat :=
  s.lowHalf fn Ty.tg ch 0x044 ((s.chan ch).perInt % 2 ^ 32) + val % 65536 * 2 ^ 32

/-- The checks of a write of TG_PERIOD_HI, in their order. -/
def State.periodChecks (s : State) (fn ch val : Nat) : List (Bool × Nat) :=
  [(s.chBusy ch, Code.blkBusy),
   (decide (s.committedPeriod fn ch val < minPeriod (s.chan ch).full s.grade08), Code.paramRange)]

/-- A write of TG_PERIOD_HI uses up the staged half, then commits the period if its checks pass. -/
theorem exec_tgPeriodCommit {s : State} {fn ch val : Nat} (haccepts : s.accepts fn Ty.tg ch 0x048 = true) :
    exec (.tgPeriodCommit fn ch val) s
      = .next ((s.unstage fn Ty.tg ch 0x044).checked fn Ty.tg ch (s.periodChecks fn ch val) (fun t => t.modChan ch
          (fun c => { c with perInt := s.committedPeriod fn ch val, perFrac := val / 65536 % 65536 }))) := by
  have hlow : bits val 0 16 = val % 65536 := rfl
  have hfrac : bits val 16 16 = val / 65536 % 65536 := by simp [bits, Nat.shiftRight_eq_div_pow]
  have hexec : exec (.tgPeriodCommit fn ch val) s = .next (s.wPeriodHi fn ch val) := onUnit_onWrite haccepts _
  rw [hexec, State.wPeriodHi, hlow, hfrac]
  rfl

theorem pageKey_tg_ne_err (ch : Nat) : pageKey Ty.tg ch ≠ pageKey Ty.err 0 := by
  simp only [pageKey, Ty.tg, Ty.err]
  omega

/-- A write of TG_PERIOD_HI whose checks fail with `code` changes no channel and is counted and logged against the TG page. -/
theorem exec_tgPeriodCommit_rejected {s : State} {fn ch val code : Nat} (haccepts : s.accepts fn Ty.tg ch 0x048 = true)
    (hfail : firstFail (s.periodChecks fn ch val) = code) (hcode : code ≠ 0) :
    ∃ t, exec (.tgPeriodCommit fn ch val) s = .next t ∧ t.chans = s.chans ∧ (t.hdr Ty.tg ch).lastCode = code
      ∧ (t.hdr Ty.tg ch).errCount = min 65535 ((s.hdr Ty.tg ch).errCount + 1) ∧ Only errorParts s t := by
  have hhdr := (s.unstage fn Ty.tg ch 0x044).reject_hdr_source (pageKey_tg_ne_err ch) fn code
  refine ⟨(s.unstage fn Ty.tg ch 0x044).reject fn code Ty.tg ch, ?_, by simp, by rw [hhdr], by rw [hhdr]; rfl, ?_⟩
  · rw [exec_tgPeriodCommit haccepts, State.checked_fail hfail hcode]
  · exact ((s.unstage_only fn Ty.tg ch 0x044).mono (by decide)).trans (State.reject_only _ fn code Ty.tg ch)

/-- A write of TG_PERIOD_HI whose checks pass sets the period of its channel to the committed one, and of no other. -/
theorem exec_tgPeriodCommit_committed {s : State} {fn ch val : Nat} (haccepts : s.accepts fn Ty.tg ch 0x048 = true)
    (hpass : ∀ p ∈ s.periodChecks fn ch val, p.1 = false) :
    ∃ t, exec (.tgPeriodCommit fn ch val) s = .next t ∧ (t.chan ch).perInt = s.committedPeriod fn ch val
      ∧ (t.chan ch).perFrac = val / 65536 % 65536 ∧ (∀ c, c ≠ ch → t.chan c = s.chan c) ∧ Only [.chans, .fns] s t := by
  refine ⟨_, by rw [exec_tgPeriodCommit haccepts, State.checked_pass _ hpass], by simp, by simp, ?_, ?_⟩
  · intro c hc
    simp [hc]
  · exact ((s.unstage_only fn Ty.tg ch 0x044).mono (by decide)).trans ((State.modChan_only _ ch _).mono (by decide))

/-- Settles O16: BLK_BUSY is judged first, then the minimum of R3; the period that passes both is stored as written. -/
theorem periodBelowMinimumIsRejectedNotClamped : Obligations.PeriodBelowMinimumIsRejectedNotClamped := by
  intro s fn ch val P haccepts hP
  obtain rfl : P = s.committedPeriod fn ch val := hP
  refine ⟨fun hidle hlow => ?_, fun hbusy => ?_, fun hidle hmin => ?_⟩
  · have hlow : s.committedPeriod fn ch val < minPeriod (s.chan ch).full s.grade08 := hlow
    exact exec_tgPeriodCommit_rejected haccepts (by simp [State.periodChecks, firstFail, hidle, hlow]) (by decide)
  · obtain ⟨t, hnext, hchans, hcode, -, honly⟩ := exec_tgPeriodCommit_rejected haccepts
      (code := Code.blkBusy) (by simp [State.periodChecks, firstFail, hbusy]) (by decide)
    exact ⟨t, hnext, hchans, hcode, honly⟩
  · have hmin : minPeriod (s.chan ch).full s.grade08 ≤ s.committedPeriod fn ch val := hmin
    exact exec_tgPeriodCommit_committed haccepts (by simp [State.periodChecks, hidle, hmin])

end Sys2Proof.Machine
end

section
/-! Proofs of the statements of the family 03_power_and_clocks.md, and the rules about TT, the straps and OTP, about root
edges and about PMBus they rest on. -/

namespace Sys2Proof

/-! ### Tables and words -/

/-- A table written at the keys `key 0` to `key (n - 1)` reads there what was written. -/
theorem Tbl.get_foldl_set {α : Type} [DecidableEq α] (d : α) {key : Nat → Nat} (hkey : Function.Injective key)
    (v : Nat → α) {n k : Nat} (hk : k < n) (t : Tbl α) :
    Tbl.get d ((List.range n).foldl (fun t i => Tbl.set d t (key i) (v i)) t) (key k) = v k := by
  induction n with
  | zero => omega
  | succ n ih =>
    rw [List.range_succ, List.foldl_append, List.foldl_cons, List.foldl_nil]
    by_cases hkn : k = n
    · rw [hkn, Tbl.get_set_same]
    · rw [Tbl.get_set_ne _ _ _ _ (hkey.ne hkn), ih (by omega)]

theorem clampI_of_mem {lo hi i : Int} (hlo : lo ≤ i) (hhi : i ≤ hi) : clampI lo hi i = i := by
  rw [clampI, if_neg (by omega), if_neg (by omega)]

theorem setBit_testBit (w i : Nat) : (setBit w i).testBit i = true := by
  simp [setBit, Nat.testBit_two_pow_self]

theorem setBit_ne_zero (w i : Nat) : setBit w i ≠ 0 := by
  intro hzero
  simpa [hzero] using setBit_testBit w i

end Sys2Proof

namespace Sys2Proof.Machine

/-! ### TT, the straps and OTP (03 R69, 04 R77, 16 R334, 17 R378)

`State.fixed` reads the three, and the Fixed laws say which operations keep it. The few operations left out there keep OTP,
and LC_DONE keeps the rest. -/

theorem otp_of_fixed {s t : State} (h : t.fixed = s.fixed) : t.otp = s.otp := congrArg (·.2.2.2.2) h

/-- TT and the straps are as in `u`, whatever OTP became. -/
theorem timeAndStraps_of_fixed {s t u : State} (hfixed : t.fixed = u.fixed) (hroot : u.root = s.root)
    (hlocked : u.everLocked = s.everLocked) (hbifur : u.bifur = s.bifur) (haddr : u.smbAddr = s.smbAddr) :
    t.root = s.root ∧ t.everLocked = s.everLocked ∧ t.bifur = s.bifur ∧ t.smbAddr = s.smbAddr := by
  simp only [State.fixed, Prod.mk.injEq] at hfixed
  obtain ⟨h₁, h₂, h₃, h₄, -⟩ := hfixed
  exact ⟨h₁.trans hroot, h₂.trans hlocked, h₃.trans hbifur, h₄.trans haddr⟩

theorem ite_otp {c : Prop} [Decidable c] {s a b : State} (ha : a.otp = s.otp) (hb : b.otp = s.otp) :
    (if c then a else b).otp = s.otp := by
  split <;> assumption

section
variable (s : State)

/-- PWR_GOOD carries OTP over; drawing the keys and writing the SEC record leave it. -/
theorem State.powerGood_otp (bifur : Bool) (smbAddr : Nat) : (s.powerGood bifur smbAddr).otp = s.otp := by
  unfold State.powerGood
  extract_lets rec_ base s1
  have hkeys : s1.otp = s.otp := otp_of_fixed (s := base)
    ((forEach_fixed _ _ _ (fun i t => t.newKey_fixed i)).trans base.drbgSeed_fixed)
  exact ite_otp ((otp_of_fixed (s1.norWrite_fixed 7)).trans hkeys) hkeys

theorem State.pllLock_otp : s.pllLock.otp = s.otp := by
  unfold State.pllLock
  split
  · rfl
  · exact State.cause_otp ..

theorem State.powerOff_otp : s.powerOff.otp = s.otp := (otp_of_fixed s.updateAbandon_fixed :)

theorem State.pwrEnLow_otp : s.pwrEnLow.otp = s.otp := by
  unfold State.pwrEnLow
  extract_lets s1
  split
  · rfl
  · split
    · rfl
    · exact s1.powerOff_otp
    · exact otp_of_fixed ((State.modPwr_fixed ..).trans ((State.powerSteps_fixed ..).trans (State.cause_fixed ..)))

theorem State.stageStop_otp : s.stageStop.otp = s.otp := by
  unfold State.stageStop
  exact ite_otp rfl (ite_otp s.powerOff_otp s.powerOff_otp)

theorem State.setRoot_otp (n : Nat) : ({ s with root := n } : State).otp = s.otp := rfl

/-- A LOAD sets TT; its jump, its cause and the check for a slew of no steps leave OTP. -/
theorem State.timeLoad_otp (t24 : Nat) : (s.timeLoad t24).otp = s.otp := by
  unfold State.timeLoad
  refine ite_otp (by simp) ?_
  rw [otp_of_fixed (State.slewCheck_fixed _), State.cause_otp, State.modClk_otp, State.modSync_otp, State.setRoot_otp]
  exact otp_of_fixed (s.jump_fixed _)

/-- Beside a LOAD no command of the sync bus goes past what `State.fixed` reads. -/
theorem State.bsyncCmd_otp (w : Nat) : (s.bsyncCmd w).otp = s.otp := by
  have hignore (t : State) : t.syncIgnore.otp = t.otp := otp_of_fixed t.syncIgnore_fixed
  unfold State.bsyncCmd
  dsimp only
  split
  · exact ite_otp rfl (hignore s)
  · exact ite_otp rfl (ite_otp (s.timeLoad_otp _) (hignore s))
  · exact ite_otp (ite_otp (otp_of_fixed (s.frameArm_fixed _)) (hignore s)) (hignore s)
  · exact ite_otp (otp_of_fixed (forEach_fixed _ _ _ (fun i t => t.frameStart_fixed _ i))) (hignore _)
  · exact ite_otp (otp_of_fixed (forEach_fixed _ _ _ (fun i t => t.frameStop_fixed _ i))) (hignore _)
  · exact ite_otp rfl (hignore s)
  · exact hignore s

theorem State.frameSlot_otp (w : Nat) : (s.frameSlot w).otp = s.otp := by
  have hecho : (s.echo w).otp = s.otp := otp_of_fixed (s.echo_fixed w)
  unfold State.frameSlot
  extract_lets s0 ok
  have hbad : s0.badSlot.otp = s.otp := (otp_of_fixed s0.badSlot_fixed).trans hecho
  have hcmd := ((s0.modSync (fun x => { x with bad := 0 })).bsyncCmd_otp w).trans hecho
  have hlock : ((s0.modSync (fun x => { x with lock := true, good := 0, bad := 0 })).cause Ty.sync 0 1).otp = s.otp :=
    (State.cause_otp ..).trans hecho
  exact ite_otp rfl (ite_otp (ite_otp hcmd hbad)
    (ite_otp hecho (ite_otp hecho (ite_otp hecho hlock))))

/-- LC_DONE sets OTP, or nothing; TT and the straps stay. -/
theorem State.lcDone_fixed_but_otp : ∃ o, s.lcDone.fixed = ({ s with otp := o } : State).fixed := by
  unfold State.lcDone
  split
  · exact ⟨s.otp, rfl⟩
  · split
    · exact ⟨s.otp, rfl⟩
    · extract_lets otp s1 s2
      have hcause : s2.fixed = s1.fixed := State.cause_fixed ..
      exact ⟨s1.otp, (fixed_of_ite _ ((State.toSafe_fixed ..).trans ((State.cause_fixed ..).trans hcause)) hcause)⟩

end

/-- The commands that may set TT or the straps: power-up, PLL lock, power loss, frames of the sync bus. -/
inductive SetsTimeOrStraps : Instr → Prop
  | pwrGood (bifur : Bool) (smbAddr : Nat) : SetsTimeOrStraps (.pwrGood bifur smbAddr)
  | pllLock : SetsTimeOrStraps .pllLock
  | undervoltageLockout (vin : Nat) : SetsTimeOrStraps (.undervoltageLockout vin)
  | pwrEnLow : SetsTimeOrStraps .pwrEnLow
  | powerStageStop : SetsTimeOrStraps .powerStageStop
  | bsyncFrameSlot (w : Nat) : SetsTimeOrStraps (.bsyncFrameSlot w)
  | bsyncNop : SetsTimeOrStraps .bsyncNop
  | timeLoadStage (t40 : Nat) : SetsTimeOrStraps (.timeLoadStage t40)
  | timeLoadLoad (t24 : Nat) : SetsTimeOrStraps (.timeLoadLoad t24)
  | bsyncArm (g : Nat) : SetsTimeOrStraps (.bsyncArm g)
  | startAt (g t40 : Nat) : SetsTimeOrStraps (.startAt g t40)
  | stopAt (g t40 : Nat) : SetsTimeOrStraps (.stopAt g t40)
  | ping : SetsTimeOrStraps .ping

/-- A command whose meaning is one operation keeps OTP if the operation does. -/
theorem otp_of_next {s u t : State} (hnext : (.next u : Host.Outcome State Fault Refusal) = .next t)
    (hu : u.otp = s.otp) : t.otp = s.otp := by
  cases hnext
  exact hu

/-- These commands leave OTP: the slots by `State.frameSlot_otp`, the others by the law of their operation. -/
theorem exec_otp_of_setsTimeOrStraps {c : Instr} (hc : SetsTimeOrStraps c) {s t : State} (hnext : exec c s = .next t) :
    t.otp = s.otp := by
  cases hc with
  | pwrGood bifur smbAddr => exact otp_of_next hnext (ite_otp (s.powerGood_otp bifur smbAddr) rfl)
  | pllLock => exact otp_of_next hnext s.pllLock_otp
  | undervoltageLockout vin => exact otp_of_next hnext (ite_otp s.powerOff_otp (ite_otp rfl rfl))
  | pwrEnLow => exact otp_of_next hnext s.pwrEnLow_otp
  | powerStageStop => exact otp_of_next hnext s.stageStop_otp
  | bsyncFrameSlot w => exact otp_of_next hnext (s.frameSlot_otp _)
  | bsyncNop => exact otp_of_next hnext (s.frameSlot_otp _)
  | timeLoadStage t40 => exact otp_of_next hnext (s.frameSlot_otp _)
  | timeLoadLoad t24 => exact otp_of_next hnext (s.frameSlot_otp _)
  | bsyncArm g => exact otp_of_next hnext (s.frameSlot_otp _)
  | startAt g t40 => exact otp_of_next hnext (s.frameSlot_otp _)
  | stopAt g t40 => exact otp_of_next hnext (s.frameSlot_otp _)
  | ping => exact otp_of_next hnext (s.frameSlot_otp _)

/-- REKEY_DONE of a stack is `execRekeyDone_fixed`; without one it retires the security unit. -/
theorem execRekeyDone_fixed_of_option (stack : Option Nat) (s : State) {t : State}
    (hnext : execRekeyDone stack s = .next t) : t.fixed = s.fixed := by
  cases stack with
  | some k => exact execRekeyDone_fixed k s hnext
  | none => exact fixed_of_next hnext (fixed_of_ite _ (State.retireUnit_fixed ..) rfl)

/-- Each command keeps what `State.fixed` reads by the law of its meaning, but for those of `SetsTimeOrStraps` and
LC_DONE. -/
theorem exec_fixed_or_named (c : Instr) (s t : State) (hnext : exec c s = .next t) :
    t.fixed = s.fixed ∨ SetsTimeOrStraps c ∨ c = .lcDone := by
  cases c with
  | powerUpStart vin => exact .inl (execPowerUpStart_fixed vin s hnext)
  | pwrGood bifur smbAddr => exact .inr (.inl (.pwrGood bifur smbAddr))
  | pllLock => exact .inr (.inl .pllLock)
  | pllLockTimeout => exact .inl (execPllLockTimeout_fixed s hnext)
  | bmemClearDone ok => exact .inl (execBmemClearDone_fixed ok s hnext)
  | hbmClearDone failed => exact .inl (execHbmClearDone_fixed failed s hnext)
  | fwVerifyDone sigA sigB => exact .inl (execFwVerifyDone_fixed sigA sigB s hnext)
  | mcLoadDone sigs => exact .inl (execMcLoadDone_fixed sigs s hnext)
  | retireLoad => exact .inl (execRetireLoad_fixed s hnext)
  | calLoad => exact .inl (execCalLoad_fixed s hnext)
  | bootReady => exact .inl (execBootReady_fixed s hnext)
  | warmupSample => exact .inl (execWarmupSample_fixed s hnext)
  | warmupTimeout => exact .inl (execWarmupTimeout_fixed s hnext)
  | powerFailWarning vin => exact .inl (execPowerFailWarning_fixed vin s hnext)
  | loadShedDone => exact .inl (execLoadShedDone_fixed s hnext)
  | powerWarnRelease vin => exact .inl (execPowerWarnRelease_fixed vin s hnext)
  | undervoltageLockout vin => exact .inr (.inl (.undervoltageLockout vin))
  | pwrEnLow => exact .inr (.inl .pwrEnLow)
  | powerStageStop => exact .inr (.inl .powerStageStop)
  | pwrOvercurrent => exact .inl (execPwrOvercurrent_fixed s hnext)
  | pwrOvervoltage vin => exact .inl (execPwrOvervoltage_fixed vin s hnext)
  | pwrOvRelease vin => exact .inl (execPwrOvRelease_fixed vin s hnext)
  | pwrOvertemp => exact .inl (execPwrOvertemp_fixed s hnext)
  | pwrOtClear => exact .inl (execPwrOtClear_fixed s hnext)
  | telemetryRefresh mv ma mw groups temps ppm => exact .inl (execTelemetryRefresh_fixed mv ma mw groups temps ppm s hnext)
  | page v => exact .inl (execPage_fixed v s hnext)
  | clearFaults => exact .inl (execClearFaults_fixed s hnext)
  | capability => exact .inl (execCapability_fixed s hnext)
  | vinOvFaultLimit => exact .inl (execVinOvFaultLimit_fixed s hnext)
  | vinUvWarnLimit => exact .inl (execVinUvWarnLimit_fixed s hnext)
  | vinUvFaultLimit => exact .inl (execVinUvFaultLimit_fixed s hnext)
  | statusByte => exact .inl (execStatusByte_fixed s hnext)
  | statusWord => exact .inl (execStatusWord_fixed s hnext)
  | statusInput => exact .inl (execStatusInput_fixed s hnext)
  | statusTemperature => exact .inl (execStatusTemperature_fixed s hnext)
  | statusCml => exact .inl (execStatusCml_fixed s hnext)
  | readVin => exact .inl (execReadVin_fixed s hnext)
  | readIin => exact .inl (execReadIin_fixed s hnext)
  | readTemperature1 => exact .inl (execReadTemperature1_fixed s hnext)
  | readPout => exact .inl (execReadPout_fixed s hnext)
  | readPin => exact .inl (execReadPin_fixed s hnext)
  | pmbusRevision => exact .inl (execPmbusRevision_fixed s hnext)
  | mfrId => exact .inl (execMfrId_fixed s hnext)
  | mfrModel => exact .inl (execMfrModel_fixed s hnext)
  | pmbusInvalid kind => exact .inl (execPmbusInvalid_fixed kind s hnext)
  | smbusAlertResponse => exact .inl (execSmbusAlertResponse_fixed s hnext)
  | smbusTimeout => exact .inl (execSmbusTimeout_fixed s hnext)
  | clockLoss => exact .inl (execClockLoss_fixed s hnext)
  | pllUnlock => exact .inl (execPllUnlock_fixed s hnext)
  | pllRelock => exact .inl (execPllRelock_fixed s hnext)
  | analogLinkWatchdog die => exact .inl (execAnalogLinkWatchdog_fixed die s hnext)
  | linkRetry d => exact .inl (execLinkRetry_fixed d s hnext)
  | linkDown d => exact .inl (execLinkDown_fixed d s hnext)
  | modeReqSafe fn force => exact .inl (execModeReqSafe_fixed fn force s hnext)
  | modeReqReady fn force => exact .inl (execModeReqReady_fixed fn force s hnext)
  | modeReqCal fn => exact .inl (execModeReqCal_fixed fn s hnext)
  | modeReqRun fn => exact .inl (execModeReqRun_fixed fn s hnext)
  | modeReqService fn => exact .inl (execModeReqService_fixed fn s hnext)
  | modeReqIllegal fn val => exact .inl (execModeReqIllegal_fixed fn val s hnext)
  | modeTransitionDone => exact .inl (execModeTransitionDone_fixed s hnext)
  | perstAssert => exact .inl (execPerstAssert_fixed s hnext)
  | pcieLinkDown e => exact .inl (execPcieLinkDown_fixed e s hnext)
  | functionReset fn how => exact .inl (execFunctionReset_fixed fn how s hnext)
  | functionResetDone fn => exact .inl (execFunctionResetDone_fixed fn s hnext)
  | msixVectorUnmask fn v => exact .inl (execMsixVectorUnmask_fixed fn v s hnext)
  | regWrite fn a be val => exact .inl (execRegWrite_fixed fn a be val s hnext)
  | rcRead fn a be => exact .inl (execRcRead_fixed fn a be s hnext)
  | pairLoWrite fn ty inst lo val => exact .inl (execPairLoWrite_fixed fn ty inst lo val s hnext)
  | pairHiCommit fn ty inst lo val => exact .inl (execPairHiCommit_fixed fn ty inst lo val s hnext)
  | pairLoRead fn ty inst lo => exact .inl (execPairLoRead_fixed fn ty inst lo s hnext)
  | blkEnClear fn ty inst => exact .inl (execBlkEnClear_fixed fn ty inst s hnext)
  | blkEnSet fn ty inst => exact .inl (execBlkEnSet_fixed fn ty inst s hnext)
  | blkSoftReset fn ty inst => exact .inl (execBlkSoftReset_fixed fn ty inst s hnext)
  | softResetDone ty inst => exact .inl (execSoftResetDone_fixed ty inst s hnext)
  | blkLock fn ty inst => exact .inl (execBlkLock_fixed fn ty inst s hnext)
  | blkIrqSet fn ty inst val => exact .inl (execBlkIrqSet_fixed fn ty inst val s hnext)
  | blkIrqEnableWrite fn ty inst val => exact .inl (execBlkIrqEnableWrite_fixed fn ty inst val s hnext)
  | blkOwnerWrite fn ty inst val => exact .inl (execBlkOwnerWrite_fixed fn ty inst val s hnext)
  | broadcastWrite fn ty inst off val => exact .inl (execBroadcastWrite_fixed fn ty inst off val s hnext)
  | siteChMaskWrite fn st k val => exact .inl (execSiteChMaskWrite_fixed fn st k val s hnext)
  | siteCluMaskWrite fn st val => exact .inl (execSiteCluMaskWrite_fixed fn st val s hnext)
  | siteTeMaskWrite fn st k val => exact .inl (execSiteTeMaskWrite_fixed fn st k val s hnext)
  | siteQueueRangeWrite fn st isCount val => exact .inl (execSiteQueueRangeWrite_fixed fn st isCount val s hnext)
  | burstArm fn st frame => exact .inl (execBurstArm_fixed fn st frame s hnext)
  | burstDisarm fn st => exact .inl (execBurstDisarm_fixed fn st s hnext)
  | burstStart fn st t24 => exact .inl (execBurstStart_fixed fn st t24 s hnext)
  | burstStop fn st => exact .inl (execBurstStop_fixed fn st s hnext)
  | burstAbort fn st => exact .inl (execBurstAbort_fixed fn st s hnext)
  | burstAck fn st => exact .inl (execBurstAck_fixed fn st s hnext)
  | burstCmdInvalid fn st op => exact .inl (execBurstCmdInvalid_fixed fn st op s hnext)
  | burstRunEntry st => exact .inl (execBurstRunEntry_fixed st s hnext)
  | burstDrainEntry st => exact .inl (execBurstDrainEntry_fixed st s hnext)
  | stopDrainEntry st => exact .inl (execStopDrainEntry_fixed st s hnext)
  | burstIdleEntry st => exact .inl (execBurstIdleEntry_fixed st s hnext)
  | spareSwitch k => exact .inl (execSpareSwitch_fixed k s hnext)
  | bsyncFrameSlot w => exact .inr (.inl (.bsyncFrameSlot w))
  | syncLoss => exact .inl (execSyncLoss_fixed s hnext)
  | bsyncNop => exact .inr (.inl .bsyncNop)
  | timeLoadStage t40 => exact .inr (.inl (.timeLoadStage t40))
  | timeLoadLoad t24 => exact .inr (.inl (.timeLoadLoad t24))
  | phaseSlewStep => exact .inl (execPhaseSlewStep_fixed s hnext)
  | bsyncArm g => exact .inr (.inl (.bsyncArm g))
  | startAt g t40 => exact .inr (.inl (.startAt g t40))
  | stopAt g t40 => exact .inr (.inl (.stopAt g t40))
  | ping => exact .inr (.inl .ping)
  | trigInEdge line rising tt => exact .inl (execTrigInEdge_fixed line rising tt s hnext)
  | trigOutPulse line => exact .inl (execTrigOutPulse_fixed line s hnext)
  | trigOutFire fn line => exact .inl (execTrigOutFire_fixed fn line s hnext)
  | segmentPlace => exact .inl (execSegmentPlace_fixed s hnext)
  | dequePop e => exact .inl (execDequePop_fixed e s hnext)
  | stealProbe e => exact .inl (execStealProbe_fixed e s hnext)
  | segmentTake e => exact .inl (execSegmentTake_fixed e s hnext)
  | dequeHandover e => exact .inl (execDequeHandover_fixed e s hnext)
  | requeueSlotDrain e => exact .inl (execRequeueSlotDrain_fixed e s hnext)
  | nop e => exact .inl (execNop_fixed e s hnext)
  | vec e => exact .inl (execVec_fixed e s hnext)
  | rpt e => exact .inl (execRpt_fixed e s hnext)
  | hold e => exact .inl (execHold_fixed e s hnext)
  | tset e => exact .inl (execTset_fixed e s hnext)
  | lvl e => exact .inl (execLvl_fixed e s hnext)
  | mark e => exact .inl (execMark_fixed e s hnext)
  | sync e => exact .inl (execSync_fixed e s hnext)
  | halt e => exact .inl (execHalt_fixed e s hnext)
  | jmp e => exact .inl (execJmp_fixed e s hnext)
  | jmpf e => exact .inl (execJmpf_fixed e s hnext)
  | call e => exact .inl (execCall_fixed e s hnext)
  | ret e => exact .inl (execRet_fixed e s hnext)
  | loop e => exact .inl (execLoop_fixed e s hnext)
  | endloop e => exact .inl (execEndloop_fixed e s hnext)
  | matchVec e => exact .inl (execMatch_fixed e s hnext)
  | scan e => exact .inl (execScan_fixed e s hnext)
  | decomp e => exact .inl (execDecomp_fixed e s hnext)
  | invalidOpcode e => exact .inl (execInvalidOpcode_fixed e s hnext)
  | microNext e => exact .inl (execMicroNext_fixed e s hnext)
  | microJump e => exact .inl (execMicroJump_fixed e s hnext)
  | microCjump e => exact .inl (execMicroCjump_fixed e s hnext)
  | microCall e => exact .inl (execMicroCall_fixed e s hnext)
  | microRet e => exact .inl (execMicroRet_fixed e s hnext)
  | microDispatch e => exact .inl (execMicroDispatch_fixed e s hnext)
  | microUloop e => exact .inl (execMicroUloop_fixed e s hnext)
  | microResume e => exact .inl (execMicroResume_fixed e s hnext)
  | cacheMissFill e => exact .inl (execCacheMissFill_fixed e s hnext)
  | blockPost e => exact .inl (execBlockPost_fixed e s hnext)
  | engineInterruptTake e => exact .inl (execEngineInterruptTake_fixed e s hnext)
  | abortTake e => exact .inl (execAbortTake_fixed e s hnext)
  | machineCheck e kind => exact .inl (execMachineCheck_fixed e kind s hnext)
  | reloadDone e mismatch => exact .inl (execReloadDone_fixed e mismatch s hnext)
  | idleScan e bad => exact .inl (execIdleScan_fixed e bad s hnext)
  | blockArrive ch => exact .inl (execBlockArrive_fixed ch s hnext)
  | blockDeadline ch segId seq parityBad => exact .inl (execBlockDeadline_fixed ch segId seq parityBad s hnext)
  | blockRelease ch => exact .inl (execBlockRelease_fixed ch s hnext)
  | uiStart ch => exact .inl (execUiStart_fixed ch s hnext)
  | edgeApply ch => exact .inl (execEdgeApply_fixed ch s hnext)
  | compareEvent ch => exact .inl (execCompareEvent_fixed ch s hnext)
  | comparatorCrossing ch cl rising tt => exact .inl (execComparatorCrossing_fixed ch cl rising tt s hnext)
  | compareResult ch => exact .inl (execCompareResult_fixed ch s hnext)
  | matchResult e => exact .inl (execMatchResult_fixed e s hnext)
  | barrierComplete st b => exact .inl (execBarrierComplete_fixed st b s hnext)
  | condTimeout e => exact .inl (execCondTimeout_fixed e s hnext)
  | freerunStart fn ch ts sym => exact .inl (execFreerunStart_fixed fn ch ts sym s hnext)
  | freerunStop fn ch ts sym => exact .inl (execFreerunStop_fixed fn ch ts sym s hnext)
  | tgPeriodCommit fn ch val => exact .inl (execTgPeriodCommit_fixed fn ch val s hnext)
  | tgSymmapCommit fn ch val => exact .inl (execTgSymmapCommit_fixed fn ch val s hnext)
  | timesetWrite fn ch t edge val => exact .inl (execTimesetWrite_fixed fn ch t edge val s hnext)
  | calSlewStep ch levels => exact .inl (execCalSlewStep_fixed ch levels s hnext)
  | calStale ch => exact .inl (execCalStale_fixed ch s hnext)
  | peCtrlWrite fn ch val => exact .inl (execPeCtrlWrite_fixed fn ch val s hnext)
  | driverRangeDone ch => exact .inl (execDriverRangeDone_fixed ch s hnext)
  | pePmuCtrlWrite fn ch val => exact .inl (execPePmuCtrlWrite_fixed fn ch val s hnext)
  | pePmuRangeWrite fn ch val => exact .inl (execPePmuRangeWrite_fixed fn ch val s hnext)
  | pmuOldStageOpen ch => exact .inl (execPmuOldStageOpen_fixed ch s hnext)
  | pmuRangeDone ch => exact .inl (execPmuRangeDone_fixed ch s hnext)
  | pmuSenseFallback ch => exact .inl (execPmuSenseFallback_fixed ch s hnext)
  | pmuCompliance ch x => exact .inl (execPmuCompliance_fixed ch x s hnext)
  | clampConduct ch high on => exact .inl (execClampConduct_fixed ch high on s hnext)
  | protClampConduct ch high => exact .inl (execProtClampConduct_fixed ch high s hnext)
  | contactTestStart fn ch pol cur => exact .inl (execContactTestStart_fixed fn ch pol cur s hnext)
  | contactTestDone ch mv => exact .inl (execContactTestDone_fixed ch mv s hnext)
  | lvlDacWrite fn ch d val => exact .inl (execLvlDacWrite_fixed fn ch d val s hnext)
  | lvlQueuePush fn ch val => exact .inl (execLvlQueuePush_fixed fn ch val s hnext)
  | lvlQueueFlush fn ch => exact .inl (execLvlQueueFlush_fixed fn ch s hnext)
  | lvlEntryArrive ch => exact .inl (execLvlEntryArrive_fixed ch s hnext)
  | lclkTick st => exact .inl (execLclkTick_fixed st s hnext)
  | fcuRecordClose r segId seq => exact .inl (execFcuRecordClose_fixed r segId seq s hnext)
  | fcuRecordMove r st => exact .inl (execFcuRecordMove_fixed r st s hnext)
  | fcuPSizeWrite fn r st val => exact .inl (execFcuPSizeWrite_fixed fn r st val s hnext)
  | fcuPCtrlWrite fn r st val => exact .inl (execFcuPCtrlWrite_fixed fn r st val s hnext)
  | madcStart fn k => exact .inl (execMadcStart_fixed fn k s hnext)
  | madcRunStart fn k spare mon => exact .inl (execMadcRunStart_fixed fn k spare mon s hnext)
  | madcRunStop fn k spare mon => exact .inl (execMadcRunStop_fixed fn k spare mon s hnext)
  | madcPeriodicTrigger k => exact .inl (execMadcPeriodicTrigger_fixed k s hnext)
  | madcConversionDone k raw => exact .inl (execMadcConversionDone_fixed k raw s hnext)
  | madcConversionTimeout k => exact .inl (execMadcConversionTimeout_fixed k s hnext)
  | madcRecordMove k => exact .inl (execMadcRecordMove_fixed k s hnext)
  | acqArm fn k => exact .inl (execAcqArm_fixed fn k s hnext)
  | acqDisarm fn k => exact .inl (execAcqDisarm_fixed fn k s hnext)
  | acqForce fn k => exact .inl (execAcqForce_fixed fn k s hnext)
  | acqLive k => exact .inl (execAcqLive_fixed k s hnext)
  | acqRunStart fn k => exact .inl (execAcqRunStart_fixed fn k s hnext)
  | acqRunStop fn k => exact .inl (execAcqRunStop_fixed fn k s hnext)
  | acqRecordArrive k => exact .inl (execAcqRecordArrive_fixed k s hnext)
  | acqTriggerDeclare k => exact .inl (execAcqTriggerDeclare_fixed k s hnext)
  | acqRingMove k => exact .inl (execAcqRingMove_fixed k s hnext)
  | acqCaptureDone k => exact .inl (execAcqCaptureDone_fixed k s hnext)
  | acqStreamStopped k => exact .inl (execAcqStreamStopped_fixed k s hnext)
  | acqBurstFlush st => exact .inl (execAcqBurstFlush_fixed st s hnext)
  | calTempEval r => exact .inl (execCalTempEval_fixed r s hnext)
  | calStart fn idx => exact .inl (execCalStart_fixed fn idx s hnext)
  | calAbort fn idx => exact .inl (execCalAbort_fixed fn idx s hnext)
  | calCommonStepDone r vref vbg spine => exact .inl (execCalCommonStepDone_fixed r vref vbg spine s hnext)
  | calClusterStepStart k => exact .inl (execCalClusterStepStart_fixed k s hnext)
  | calClusterStepDone k lanes madc => exact .inl (execCalClusterStepDone_fixed k lanes madc s hnext)
  | calHoldoffExpiry r => exact .inl (execCalHoldoffExpiry_fixed r s hnext)
  | calEnvCheckDone k v => exact .inl (execCalEnvCheckDone_fixed k v s hnext)
  | calReflectDone ch sum spread clean => exact .inl (execCalReflectDone_fixed ch sum spread clean s hnext)
  | calSequenceDone => exact .inl (execCalSequenceDone_fixed s hnext)
  | norRecordWriteDone => exact .inl (execNorRecordWriteDone_fixed s hnext)
  | analogReadback ch bad again => exact .inl (execAnalogReadback_fixed ch bad again s hnext)
  | thermalSensorSample r temps => exact .inl (execThermalSensorSample_fixed r temps s hnext)
  | regionThermalShutdown r => exact .inl (execRegionThermalShutdown_fixed r s hnext)
  | reenable fn r => exact .inl (execReenable_fixed fn r s hnext)
  | bankAccess l => exact .inl (execBankAccess_fixed l s hnext)
  | bmemTestRegionStart => exact .inl (execBmemTestRegionStart_fixed s hnext)
  | bmemMarchDone fails => exact .inl (execBmemMarchDone_fixed fails s hnext)
  | hbmUncorrRead addr who idx j => exact .inl (execHbmUncorrRead_fixed addr who idx j s hnext)
  | doorbellTail fn q index => exact .inl (execDoorbellTail_fixed fn q index s hnext)
  | doorbellHead fn q index => exact .inl (execDoorbellHead_fixed fn q index s hnext)
  | doorbellRelease fn q => exact .inl (execDoorbellRelease_fixed fn q s hnext)
  | pushSelWrite fn val => exact .inl (execPushSelWrite_fixed fn val s hnext)
  | pushWrite fn off data => exact .inl (execPushWrite_fixed fn off data s hnext)
  | descRead fn => exact .inl (execDescRead_fixed fn s hnext)
  | descWrite fn => exact .inl (execDescWrite_fixed fn s hnext)
  | cmdNop q => exact .inl (execCmdNop_fixed q s hnext)
  | copyIn q data => exact .inl (execCopyIn_fixed q data s hnext)
  | copyOut q err => exact .inl (execCopyOut_fixed q err s hnext)
  | queueOut q err => exact .inl (execQueueOut_fixed q err s hnext)
  | barrierSet q => exact .inl (execBarrierSet_fixed q s hnext)
  | fcuScrambleLoad q => exact .inl (execFcuScrambleLoad_fixed q s hnext)
  | calRead q err => exact .inl (execCalRead_fixed q err s hnext)
  | mcInstall q key => exact .inl (execMcInstall_fixed q key s hnext)
  | memGrant q => exact .inl (execMemGrant_fixed q s hnext)
  | cmdUnknown q => exact .inl (execCmdUnknown_fixed q s hnext)
  | heldCompletionPost fn => exact .inl (execHeldCompletionPost_fixed fn s hnext)
  | logLostEntry st => exact .inl (execLogLostEntry_fixed st s hnext)
  | spdmGetVersion path => exact .inl (execSpdmGetVersion_fixed path s hnext)
  | spdmGetCapabilities path req => exact .inl (execSpdmGetCapabilities_fixed path req s hnext)
  | spdmNegotiateAlgorithms path req => exact .inl (execSpdmNegotiateAlgorithms_fixed path req s hnext)
  | spdmGetDigests path => exact .inl (execSpdmGetDigests_fixed path s hnext)
  | spdmGetCertificate path slot off len => exact .inl (execSpdmGetCertificate_fixed path slot off len s hnext)
  | spdmChallenge path req => exact .inl (execSpdmChallenge_fixed path req s hnext)
  | spdmGetMeasurements path req => exact .inl (execSpdmGetMeasurements_fixed path req s hnext)
  | spdmKeyExchange path req => exact .inl (execSpdmKeyExchange_fixed path req s hnext)
  | spdmFinish path ok => exact .inl (execSpdmFinish_fixed path ok s hnext)
  | spdmHeartbeat path => exact .inl (execSpdmHeartbeat_fixed path s hnext)
  | spdmKeyUpdate path => exact .inl (execSpdmKeyUpdate_fixed path s hnext)
  | spdmEndSession path => exact .inl (execSpdmEndSession_fixed path s hnext)
  | spdmUnsupported path => exact .inl (execSpdmUnsupported_fixed path s hnext)
  | ideKm req => exact .inl (execIdeKm_fixed req s hnext)
  | ideIntegrityFail fn => exact .inl (execIdeIntegrityFail_fixed fn s hnext)
  | setEndpointId op eid => exact .inl (execSetEndpointId_fixed op eid s hnext)
  | getEndpointId => exact .inl (execGetEndpointId_fixed s hnext)
  | getEndpointUuid => exact .inl (execGetEndpointUuid_fixed s hnext)
  | getMctpVersionSupport type => exact .inl (execGetMctpVersionSupport_fixed type s hnext)
  | getMessageTypeSupport => exact .inl (execGetMessageTypeSupport_fixed s hnext)
  | mctpUnsupported type cmd => exact .inl (execMctpUnsupported_fixed type cmd s hnext)
  | load fn head src len dest => exact .inl (execLoad_fixed fn head src len dest s hnext)
  | bind fn raw => exact .inl (execBind_fixed fn raw s hnext)
  | unload fn raw => exact .inl (execUnload_fixed fn raw s hnext)
  | doeStatus fn raw => exact .inl (execDoeStatus_fixed fn raw s hnext)
  | fwInstall fn raw sig => exact .inl (execFwInstall_fixed fn raw sig s hnext)
  | fwRecover fn raw sig => exact .inl (execFwRecover_fixed fn raw sig s hnext)
  | floorCommit fn raw => exact .inl (execFloorCommit_fixed fn raw s hnext)
  | doeUnknown fn raw => exact .inl (execDoeUnknown_fixed fn raw s hnext)
  | resultFrameClose st kind inst => exact .inl (execResultFrameClose_fixed st kind inst s hnext)
  | glbHostTimeCommit fn hi => exact .inl (execGlbHostTimeCommit_fixed fn hi s hnext)
  | hwBoundWrite => exact .inl (execHwBoundWrite_fixed s hnext)
  | secSealedSitesWrite fn val => exact .inl (execSecSealedSitesWrite_fixed fn val s hnext)
  | lifecycleTransition fn to_ token rest => exact .inl (execLifecycleTransition_fixed fn to_ token rest s hnext)
  | tamper src => exact .inl (execTamper_fixed src s hnext)
  | retireClear fn kind idx => exact .inl (execRetireClear_fixed fn kind idx s hnext)
  | errEntryClose => exact .inl (execErrEntryClose_fixed s hnext)
  | errReserveWrite => exact .inl (execErrReserveWrite_fixed s hnext)
  | errMirror => exact .inl (execErrMirror_fixed s hnext)
  | histSample k => exact .inl (execHistSample_fixed k s hnext)
  | histRunStart fn k => exact .inl (execHistRunStart_fixed fn k s hnext)
  | histRunStop fn k => exact .inl (execHistRunStop_fixed fn k s hnext)
  | histClear fn k => exact .inl (execHistClear_fixed fn k s hnext)
  | cmdlatSample ns => exact .inl (execCmdlatSample_fixed ns s hnext)
  | qdepthSample => exact .inl (execQdepthSample_fixed s hnext)
  | cmdClear fn => exact .inl (execCmdClear_fixed fn s hnext)
  | qdClear fn => exact .inl (execQdClear_fixed fn s hnext)
  | extest seen drive => exact .inl (execExtest_fixed seen drive s hnext)
  | idcode => exact .inl (execIdcode_fixed s hnext)
  | samplePreload seen load => exact .inl (execSamplePreload_fixed seen load s hnext)
  | clampLands => exact .inl (execClamp_fixed s hnext)
  | highz => exact .inl (execHighz_fixed s hnext)
  | bypass code => exact .inl (execBypass_fixed code s hnext)
  | refclkReturn => exact .inl (execRefclkReturn_fixed s hnext)
  | pcieLinkUp e => exact .inl (execPcieLinkUp_fixed e s hnext)
  | vfEnableSet pf num => exact .inl (execVfEnableSet_fixed pf num s hnext)
  | tamperConditionEnd src => exact .inl (execTamperConditionEnd_fixed src s hnext)
  | hizSequenceDone ch => exact .inl (execHizSequenceDone_fixed ch s hnext)
  | abortPoint st => exact .inl (execAbortPoint_fixed st s hnext)
  | triggerEventArrive line => exact .inl (execTriggerEventArrive_fixed line s hnext)
  | memGrantDone => exact .inl (execMemGrantDone_fixed s hnext)
  | mcInstallDone => exact .inl (execMcInstallDone_fixed s hnext)
  | lcDone => exact .inr (.inr rfl)
  | rekeyDone stack => exact .inl (execRekeyDone_fixed_of_option stack s hnext)
  | hbmTempRefresh t0 t1 t2 => exact .inl (execHbmTempRefresh_fixed t0 t1 t2 s hnext)
  | hbmBwWindow idx served demand thr bp => exact .inl (execHbmBwWindow_fixed idx served demand thr bp s hnext)

/-- Settles O59: a command keeps what `State.fixed` reads, or is one of the named ones, whose laws say what they leave. -/
theorem onlyNamedCommandsChangeTtStrapsAndOtp : Obligations.OnlyNamedCommandsChangeTtStrapsAndOtp := by
  intro c s t hnext
  obtain hfixed | hnamed | rfl := exec_fixed_or_named c s t hnext
  · exact ⟨fun _ => otp_of_fixed hfixed, fun _ _ _ _ _ _ _ _ _ _ _ _ _ => timeAndStraps_of_fixed hfixed rfl rfl rfl rfl⟩
  · refine ⟨fun _ => exec_otp_of_setsTimeOrStraps hnamed hnext, ?_⟩
    intro hpwrGood hpllLock hlockout henLow hstop hslot hnop hstage hload harm hstart hcut hping
    cases hnamed with
    | pwrGood bifur smbAddr => exact absurd rfl (hpwrGood bifur smbAddr)
    | pllLock => exact absurd rfl hpllLock
    | undervoltageLockout vin => exact absurd rfl (hlockout vin)
    | pwrEnLow => exact absurd rfl henLow
    | powerStageStop => exact absurd rfl hstop
    | bsyncFrameSlot w => exact absurd rfl (hslot w)
    | bsyncNop => exact absurd rfl hnop
    | timeLoadStage t40 => exact absurd rfl (hstage t40)
    | timeLoadLoad t24 => exact absurd rfl (hload t24)
    | bsyncArm g => exact absurd rfl (harm g)
    | startAt g t40 => exact absurd rfl (hstart g t40)
    | stopAt g t40 => exact absurd rfl (hcut g t40)
    | ping => exact absurd rfl hping
  · cases hnext
    obtain ⟨o, hfixed⟩ := s.lcDone_fixed_but_otp
    exact ⟨fun h => absurd rfl h, fun _ _ _ _ _ _ _ _ _ _ _ _ _ => timeAndStraps_of_fixed hfixed rfl rfl rfl rfl⟩

/-! ### One root edge (03 R69, 12 R250, 07 R148, 14 R302; log entry 1) -/

theorem Only.refl (l : List Part) (s : State) : Only l s s := fun p _ => p.same_refl s

theorem Only.of_ite {l : List Part} {c : Prop} [Decidable c] {s a b : State} (ha : Only l s a) (hb : Only l s b) :
    Only l s (if c then a else b) := by
  split <;> assumption

theorem Only.forEach {l : List Part} {f : Nat → State → State} (hf : ∀ i t, Only l t (f i t)) (is : List Nat)
    (s : State) : Only l s (forEach is f s) := by
  induction is generalizing s with
  | nil => exact Only.refl l s
  | cons i is ih => exact (hf i s).trans (ih (f i s))

theorem Only.cal {l : List Part} {s t : State} (h : Only l s t) (hl : Part.cals ∉ l) (r : Nat) : t.cal r = s.cal r := by
  have hcals : t.cals = s.cals := h .cals hl
  rw [State.cal, State.cal, hcals]

/-- Operations that each leave a state as it is leave it so in a row. -/
theorem forEach_eq_self {f : Nat → State → State} {is : List Nat} {s : State} (hf : ∀ i ∈ is, f i s = s) :
    forEach is f s = s := by
  induction is with
  | nil => rfl
  | cons i is ih =>
    rw [forEach_cons, hf i (by simp), ih (fun j hj => hf j (by simp [hj]))]

/-- Operations on one unit each, in a row: a unit reads what its own operation gives. -/
theorem forEach_unit {α : Type} {f : Nat → State → State} {read : State → Nat → α} {g : α → α}
    (hunit : ∀ i t j, read (f i t) j = if j = i then g (read t j) else read t j)
    {is : List Nat} (hnodup : is.Nodup) (s : State) (j : Nat) :
    read (forEach is f s) j = if j ∈ is then g (read s j) else read s j := by
  induction is generalizing s with
  | nil => simp
  | cons i is ih =>
    obtain ⟨hi, hnodup⟩ := List.nodup_cons.mp hnodup
    rw [forEach_cons, ih hnodup]
    by_cases hj : j = i
    · subst hj
      simp [hi, hunit]
    · simp [hj, hunit]

/-- A calibration run after a root edge: one that was due has begun its common step. -/
def Cal.begun (c : Cal) : Cal := if c.state = 1 then { c with state := 2 } else c

theorem mem_regions {r : Nat} : r ∈ [0, 1, 2, 3] ↔ r < nRgn := by
  simp only [nRgn, List.mem_cons, List.not_mem_nil, or_false]
  omega

section
variable (s : State)

theorem State.modMadc_only (i : Nat) (f : Madc → Madc) : Only [.madcs] s (s.modMadc i f) := by
  intro p hp
  cases p <;> simp [Part.same] at hp ⊢

theorem State.modRgn_only (i : Nat) (f : Rgn → Rgn) : Only [.rgns] s (s.modRgn i f) := by
  intro p hp
  cases p <;> simp [Part.same] at hp ⊢

theorem State.modCal_only (i : Nat) (f : Cal → Cal) : Only [.cals] s (s.modCal i f) := by
  intro p hp
  cases p <;> simp [Part.same] at hp ⊢

theorem State.loadStore_only (e : Nat) : Only [.caches] s (s.loadStore e) := by
  intro p hp
  cases p <;> simp [Part.same, State.loadStore] at hp ⊢

theorem State.setCopy_only (r : Nat) (image : McImage) : Only [.caches] s (s.setCopy r image) := by
  intro p hp
  cases p <;> simp [Part.same, State.setCopy] at hp ⊢

/-- A conversion at its hold instant fills its scan's probe. -/
theorem State.madcSample_only : Only [.madcs] s s.madcSample := by
  refine Only.forEach (fun k t => ?_) _ s
  split
  · exact Only.of_ite (t.modMadc_only k _) (Only.refl _ t)
  · exact Only.refl _ t

theorem State.madcSample_of_noScan (hscan : ∀ k, k < nClu → (s.madc k).scan = none) : s.madcSample = s :=
  forEach_eq_self (fun k hk => by simp [hscan k (List.mem_range.mp hk)])

/-- The step 5 that begins replaces the region's verified copy and notes when. -/
theorem State.installBegin_only (r at_ : Nat) : Only [.rgns, .caches] s (s.installBegin r at_) := by
  unfold State.installBegin
  refine Only.trans (l := [.rgns, .caches]) ?_ ((State.modRgn_only _ r _).mono (by decide))
  split
  · exact (s.setCopy_only r _).mono (by decide)
  · exact Only.refl _ s

/-- A region loader waits, begins step 5, or writes one control store. -/
theorem State.installStep_only : Only [.rgns, .caches] s s.installStep := by
  refine Only.forEach (fun r t => ?_) _ s
  dsimp only
  split
  · exact Only.refl _ t
  · refine Only.of_ite (Only.refl _ t) (Only.of_ite (Only.of_ite (t.installBegin_only r _) (Only.refl _ t))
      (Only.of_ite ?_ (Only.refl _ t)))
    exact ((t.loadStore_only _).mono (by decide)).trans ((State.modRgn_only _ r _).mono (by decide))

theorem State.installStep_of_noInstall (hinst : ∀ r, r < nRgn → (s.rgn r).instN = none) : s.installStep = s :=
  forEach_eq_self (fun r hr => by simp [hinst r (mem_regions.mp hr)])

/-- One region's part of `State.calBegin`. -/
def State.calBeginAt (r : Nat) : State :=
  if (s.cal r).state = 1 then s.modCal r (fun c => { c with state := 2 }) else s

theorem State.calBegin_eq : s.calBegin = forEach [0, 1, 2, 3] (fun r t => t.calBeginAt r) s := rfl

theorem State.calBeginAt_only (r : Nat) : Only [.cals] s (s.calBeginAt r) :=
  Only.of_ite (s.modCal_only r _) (Only.refl _ s)

theorem State.calBeginAt_cal (r j : Nat) : (s.calBeginAt r).cal j = if j = r then (s.cal j).begun else s.cal j := by
  unfold State.calBeginAt Cal.begun
  by_cases hj : j = r
  · subst hj
    split <;> simp
  · split <;> simp [hj]

theorem State.calBegin_only : Only [.cals] s s.calBegin := Only.forEach (fun r t => t.calBeginAt_only r) _ s

theorem State.calBegin_of_noRunDue (hdue : ∀ r, r < nRgn → (s.cal r).state ≠ 1) : s.calBegin = s :=
  forEach_eq_self (fun r hr => if_neg (hdue r (mem_regions.mp hr)))

/-- A run that is due begins its common step; any other stays as it is. -/
theorem State.calBegin_cal {r : Nat} (hr : r < nRgn) : s.calBegin.cal r = (s.cal r).begun := by
  rw [State.calBegin_eq, forEach_unit (fun i t j => t.calBeginAt_cal i j) (by decide), if_pos (mem_regions.mpr hr)]

/-- The state with its clock one root edge on, TT too once it runs. -/
def State.clockTick : State :=
  { s with uptime := s.uptime + 1, root := if s.everLocked then (s.root + 1) % 2 ^ 64 else s.root }

theorem State.rootEdge_eq : s.rootEdge = s.clockTick.madcSample.installStep.calBegin := rfl

@[simp] theorem State.clockTick_uptime : s.clockTick.uptime = s.uptime + 1 := rfl
@[simp] theorem State.clockTick_root :
    s.clockTick.root = if s.everLocked then (s.root + 1) % 2 ^ 64 else s.root := rfl
@[simp] theorem State.clockTick_everLocked : s.clockTick.everLocked = s.everLocked := rfl

theorem State.clockTick_only : Only [.time] s s.clockTick := by
  intro p hp
  cases p <;> simp [Part.same, State.clockTick] at hp ⊢

theorem State.rootEdge_only_of_clockTick : Only [.madcs, .rgns, .caches, .cals] s.clockTick s.rootEdge :=
  ((s.clockTick.madcSample_only.mono (by decide)).trans ((State.installStep_only _).mono (by decide))).trans
    ((State.calBegin_only _).mono (by decide))

end

/-- Settles O2: after the tick of the clocks come conversions, loaders and calibration runs; each reads and writes its own
part and is the identity where it has nothing to do. -/
theorem emptyQueuePassesOneRootEdge : Obligations.EmptyQueuePassesOneRootEdge := by
  intro s hempty
  have hrest := s.rootEdge_only_of_clockTick
  obtain ⟨hroot, huptime, hlocked⟩ := hrest .time (by decide)
  refine ⟨s.rootEdge, by simp [step, hempty], huptime.trans s.clockTick_uptime, hroot.trans s.clockTick_root,
    hlocked.trans s.clockTick_everLocked, (s.clockTick_only.mono (by decide)).trans (hrest.mono (by decide)),
    fun r hr => ?_, fun hscan hidle => ?_⟩
  · rw [State.rootEdge_eq, State.calBegin_cal _ hr, (State.installStep_only _).cal (by decide),
      (State.madcSample_only _).cal (by decide), s.clockTick_only.cal (by decide), Cal.begun]
  · rw [State.rootEdge_eq, s.clockTick.madcSample_of_noScan hscan,
      s.clockTick.installStep_of_noInstall fun r hr => (hidle r hr).1,
      s.clockTick.calBegin_of_noRunDue fun r hr => (hidle r hr).2]
    exact s.clockTick_only

/-! ### PMBus (03 R61, R62; log entries 9 and 49) -/

/-- The power stage is on and the test access port leaves the lands free: PMBus transactions are answered. -/
def State.pmbusUp (s : State) : Prop := s.stage = .on ∧ s.jtag.hold = none ∧ s.jtag.released = false

section
variable {s : State} (hup : s.pmbusUp)
include hup

theorem State.onPmbus_of_up (op : State → State) : s.onPmbus op = op s := by
  obtain ⟨hstage, hhold, hreleased⟩ := hup
  simp [State.onPmbus, hstage, hhold, hreleased]

/-- A read on a page that supports it answers its bytes. -/
theorem pmRead_supported {pages : List Nat} (hpage : s.smb.page ∈ pages) (n : Nat) (v : State → Nat) :
    (.next (s.pmRead pages n v) : Host.Outcome State Fault Refusal) = .next (s.emit (.smbus (le n (v s)))) := by
  rw [State.pmRead, State.onPmbus_of_up hup, if_pos (List.contains_iff_mem.mpr hpage)]

/-- A read on a page that does not support it draws a NACK. -/
theorem pmRead_unsupported {pages : List Nat} (hpage : s.smb.page ∉ pages) (n : Nat) (v : State → Nat) :
    (.next (s.pmRead pages n v) : Host.Outcome State Fault Refusal) = .next (s.nack 7) := by
  rw [State.pmRead, State.onPmbus_of_up hup, if_neg (by simpa using hpage)]

end

theorem mem_allPages {p : Nat} : p ∈ allPages ↔ p < 8 := by
  simp only [allPages, List.mem_cons, List.not_mem_nil, or_false]
  omega

/-- READ_POUT is on the pages of power groups, all but page 0. -/
theorem mem_groupPages {p : Nat} (hp : p < 8) : p ∈ [1, 2, 3, 4, 5, 6, 7] ↔ p ≠ 0 := by
  simp only [List.mem_cons, List.not_mem_nil, or_false]
  omega

section
variable (s : State)

theorem State.modSmb_only (f : Smb → Smb) : Only [.smb] s (s.modSmb f) := by
  intro p hp
  cases p <;> simp [Part.same] at hp ⊢

theorem State.modPwr_only (f : Pwr → Pwr) : Only [.power] s (s.modPwr f) := by
  intro p hp
  cases p <;> simp [Part.same] at hp ⊢

theorem State.modClk_only (f : Clk → Clk) : Only [.clk] s (s.modClk f) := by
  intro p hp
  cases p <;> simp [Part.same] at hp ⊢

theorem State.emit_only (o : Out) : Only [.outs] s (s.emit o) := by
  intro p hp
  cases p <;> simp [Part.same] at hp ⊢

theorem State.nack_outs (b : Nat) : (s.nack b).outs = .nack :: s.outs := rfl

theorem State.nack_only (b : Nat) : Only [.smb, .outs] s (s.nack b) :=
  ((s.modSmb_only _).mono (by decide)).trans ((State.emit_only _ .nack).mono (by decide))

/-- A NACK leaves the module and sets a STATUS_CML bit. -/
theorem State.nack_spec (b : Nat) :
    (s.nack b).smb.stCml ≠ 0 ∧ (s.nack b).outs = .nack :: s.outs ∧ Only [.smb, .outs] s (s.nack b) :=
  ⟨setBit_ne_zero _ b, s.nack_outs b, s.nack_only b⟩

/-- CLEAR_FAULTS keeps VIN_UV_WARNING while the warning stands. -/
theorem State.clearFaults_stInput_testBit_five :
    s.clearFaults.smb.stInput.testBit 5 = (s.smb.stInput.testBit 5 && s.glb.pwrWarn) := by
  have h32 : Nat.testBit 32 5 = true := by decide
  have h128 : Nat.testBit 128 5 = false := by decide
  unfold State.clearFaults
  rw [State.modSmb_smb]
  cases s.glb.pwrWarn <;> cases s.pwr.ov <;> simp [h32, h128]

end

section
variable {s : State} (hup : s.pmbusUp)
include hup

theorem exec_page_none : exec (.page none) s = .next (s.emit (.smbus (le 1 s.smb.page))) :=
  congrArg Host.Outcome.next (State.onPmbus_of_up hup _)

/-- PAGE selects pages 0 to 7. -/
theorem exec_page_of_lt {p : Nat} (hp : p < 8) :
    exec (.page (some p)) s = .next (s.modSmb (fun x => { x with page := p })) :=
  congrArg Host.Outcome.next ((State.onPmbus_of_up hup _).trans (if_pos hp))

theorem exec_page_of_ge {p : Nat} (hp : 8 ≤ p) : exec (.page (some p)) s = .next (s.nack 6) :=
  congrArg Host.Outcome.next ((State.onPmbus_of_up hup _).trans (if_neg (by omega)))

/-- PMBUS_INVALID draws a NACK with the STATUS_CML bit of its kind. -/
theorem exec_pmbusInvalid {kind : Nat} (hkind : kind < 3) :
    exec (.pmbusInvalid kind) s = .next (s.nack (if kind = 0 then 7 else if kind = 1 then 6 else 5)) :=
  (onUnit_of _ _ (decide_eq_true hkind)).trans (congrArg Host.Outcome.next (State.onPmbus_of_up hup _))

theorem exec_clearFaults : exec .clearFaults s = .next s.clearFaults :=
  congrArg Host.Outcome.next (State.onPmbus_of_up hup _)

theorem exec_smbusAlertResponse (halert : s.smbAlert = true) :
    exec .smbusAlertResponse s = .next (s.emit (.smbus (le 1 (2 * (0x58 + s.smbAddr))))) :=
  congrArg Host.Outcome.next ((State.onPmbus_of_up hup _).trans (if_pos halert))

/-- MFR_MODEL names the grade at its end. -/
theorem exec_mfrModel :
    exec .mfrModel s = .next (s.emit (.smbus ([0x4B, 0x56, 0x58, 0x2D, 0x51, 0x31, 0x39, 0x32, 0x2D, 0x34, 0x38, 0x4C, 0x2D]
      ++ if s.grade08 then [0x30, 0x38] else [0x31, 0x36]))) := by
  have hname (grade08 : Bool) : modelName grade08
      = [0x4B, 0x56, 0x58, 0x2D, 0x51, 0x31, 0x39, 0x32, 0x2D, 0x34, 0x38, 0x4C, 0x2D]
        ++ if grade08 then [0x30, 0x38] else [0x31, 0x36] := by
    cases grade08 <;> decide
  rw [← hname]
  exact congrArg Host.Outcome.next (State.onPmbus_of_up hup _)

theorem exec_mfrId : exec .mfrId s = .next (s.emit (.smbus [0x46, 0x4F, 0x59, 0x52, 0x49, 0x53])) :=
  congrArg Host.Outcome.next (State.onPmbus_of_up hup _)

end

/-! ### Telemetry (03 R61) -/

/-- A refresh writes the input, the power groups, the page temperatures and the REFCLK error as measured. -/
theorem State.telemetry_spec {s t : State} {mv ma mw : Nat} {groups : List Nat} {temps : List Int} {ppm : Int}
    (hstage : s.stage = .on) (ht : s.telemetry mv ma mw groups temps ppm = t) :
    t.pwr.mv = mv ∧ t.pwr.ma = ma ∧ t.pwr.mw = mw
      ∧ t.pwr.groups = (List.range 7).foldl (fun t i => Tbl.set 0 t (i + 1) (groups.getD i 0)) []
      ∧ t.pwr.temps = (List.range 8).foldl (fun t i => Tbl.set 0 t i (temps.getD i 0)) []
      ∧ t.clk.ppm = clampI (-32767) 32767 ppm ∧ Only [.power, .clk, .smb] s t := by
  rw [State.telemetry, if_neg (by simp [hstage])] at ht
  subst ht
  refine ⟨rfl, rfl, rfl, rfl, rfl, rfl, ?_⟩
  exact (((s.modPwr_only _).mono (by decide)).trans ((State.modClk_only _ _).mono (by decide))).trans
    ((State.modSmb_only _ _).mono (by decide))

/-- Settles O33: each read is `pmRead_supported` or `pmRead_unsupported` at its pages. -/
theorem pmbusAnswersItsCommands : Obligations.PmbusAnswersItsCommands := by
  refine ⟨?_, fun _ => rfl, ?_⟩
  · intro s hstage hhold hreleased hpage
    have hup : s.pmbusUp := ⟨hstage, hhold, hreleased⟩
    have hall := pmRead_supported hup (mem_allPages.mpr hpage)
    refine ⟨fun p hp => exec_page_of_lt hup hp, fun p hp => ⟨_, exec_page_of_ge hup hp, rfl, s.nack_spec 6⟩,
      exec_page_none hup, hall 1 _, hall 1 _, hall 1 _, hall 2 _, hall 1 _, hall 1 _, hall 2 _, exec_mfrId hup,
      exec_mfrModel hup, fun hzero => ?_, fun hne => ?_, fun hzero => ?_, fun b _ => ?_, fun k hk => ?_, ?_,
      exec_smbusAlertResponse hup⟩
    · have hinput := pmRead_supported hup (pages := [0]) (by simp [hzero])
      exact ⟨hinput 2 _, hinput 2 _, hinput 2 _, hinput 1 _, hinput 2 _, hinput 2 _, hinput 2 _⟩
    · have hinput := pmRead_unsupported hup (pages := [0]) (by simp [hne])
      exact ⟨pmRead_supported hup ((mem_groupPages hpage).mpr hne) 2 _, hinput 2 _, hinput 2 _, hinput 2 _, hinput 1 _,
        hinput 2 _, hinput 2 _, hinput 2 _⟩
    · exact pmRead_unsupported hup (by simp [hzero]) 2 _
    · exact ⟨setBit_testBit _ b, s.nack_outs b, s.nack_only b⟩
    · exact ⟨_, exec_pmbusInvalid hup hk, s.nack_spec _⟩
    · exact ⟨_, exec_clearFaults hup, rfl, rfl, s.clearFaults_stInput_testBit_five, s.modSmb_only _⟩
  · intro s mv ma mw groups temps ppm hstage
    obtain ⟨hmv, hma, hmw, hgroups, htemps, hppm, honly⟩ := State.telemetry_spec hstage
      (rfl : s.telemetry mv ma mw groups temps ppm = _)
    refine ⟨_, rfl, hmv, hma, hmw, fun g hg hg7 => ?_, fun p hp => ?_, fun hlo hhi => ?_, honly⟩
    · obtain ⟨k, rfl⟩ : ∃ k, g = k + 1 := ⟨g - 1, by omega⟩
      rw [hgroups]
      exact Tbl.get_foldl_set 0 (fun _ _ => Nat.add_right_cancel) (fun i => groups.getD i 0) (by omega) []
    · rw [htemps]
      exact Tbl.get_foldl_set 0 Function.injective_id (fun i => temps.getD i 0) hp []
    · rw [hppm, clampI_of_mem hlo hhi]

end Sys2Proof.Machine
end

section
/-! Proofs of the statements of the family 04_benest_sync.md, and the rules about frames, raised errors and the sites of a
group they rest on. -/

namespace Sys2Proof.Machine

/-! ### What updates, causes and errors touch (05 R93, 18 R392 to R395) -/

section
variable (s : State)

theorem State.modSync_only (f : Sync → Sync) : Only [.sync] s (s.modSync f) := by
  intro p hp
  cases p <;> simp [Part.same] at hp ⊢

theorem State.modSite_only (i : Nat) (f : Site → Site) : Only [.sites] s (s.modSite i f) := by
  intro p hp
  cases p <;> simp [Part.same] at hp ⊢

theorem State.modHdr_only (ty inst : Nat) (f : Hdr → Hdr) : Only [.hdrs] s (s.modHdr ty inst f) := by
  intro p hp
  cases p <;> simp [Part.same] at hp ⊢

/-- A message leaves the module, or its pending bit is set. -/
theorem State.msix_only (fn v : Nat) : Only [.fns, .outs] s (s.msix fn v) :=
  Only.of_ite ((s.emit_only _).mono (by decide)) ((s.modFn_only fn _).mono (by decide))

theorem State.pageMsgs_only (ty inst m : Nat) : Only [.fns, .outs] s (s.pageMsgs ty inst m) :=
  Only.of_ite (Only.refl _ s) (Only.forEach (fun _ t => t.msix_only _ _) _ s)

/-- Setting causes changes nothing beside the parts of `causeParts`. -/
theorem State.cause_only (ty inst m : Nat) : Only causeParts s (s.cause ty inst m) :=
  ((s.modHdr_only ty inst _).mono (by decide)).trans ((State.pageMsgs_only _ ty inst _).mono (by decide))

@[simp] theorem State.closeEntries_lastCode (p : ErrEntry → Bool) : (s.closeEntries p).err.lastCode = s.err.lastCode := by
  unfold State.closeEntries
  dsimp only
  rw [State.copyAll_err, State.modErr_err]

@[simp] theorem State.writeEntry_lastCode (e : ErrEntry) : (s.writeEntry e).err.lastCode = s.err.lastCode := by
  unfold State.writeEntry
  dsimp only
  rw [State.cause_err]
  (repeat' split) <;> simp

@[simp] theorem State.errDrain_lastCode : s.errDrain.err.lastCode = s.err.lastCode := by
  unfold State.errDrain
  (repeat' split) <;> simp

@[simp] theorem State.newEntry_lastCode (e : ErrEntry) : (s.newEntry e).err.lastCode = s.err.lastCode := by
  unfold State.newEntry
  dsimp only
  (repeat' split) <;> simp

/-- The ERR page keeps the code of the error raised last. -/
theorem State.raise_lastCode (code ty inst : Nat) (site : Option Nat) (detail : Nat) :
    (s.raise code ty inst site detail).err.lastCode = code := by
  unfold State.raise State.raiseFull State.raiseAt
  dsimp only
  split <;> simp

/-- A fault of the bus: SYNC registers change, a SYNC cause is set, the error is raised. TT stays. -/
theorem State.syncFault_spec (f : Sync → Sync) (m code : Nat) {t : State}
    (ht : ((s.modSync f).cause Ty.sync 0 m).raise code Ty.sync 0 = t) :
    t.sync = f s.sync ∧ t.err.lastCode = code ∧ t.root = s.root ∧ Only (.sync :: errorParts) s t := by
  subst ht
  refine ⟨by simp, State.raise_lastCode .., by simp, ?_⟩
  exact (((s.modSync_only f).mono (by decide)).trans ((State.cause_only _ Ty.sync 0 m).mono (by decide))).trans
    ((State.raise_only _ code Ty.sync 0 none 0).mono (by decide))

end

/-! ### Frames (04 R75) -/

theorem crc8Step_lt (c : Nat) (b : Bool) : crc8Step c b < 256 := by
  have hdouble : 2 * c % 256 < 2 ^ 8 := Nat.mod_lt _ (by decide)
  unfold crc8Step
  split
  · exact hdouble
  · exact Nat.xor_lt_two_pow hdouble (by decide)

theorem crc8_lt (w : Nat) : crc8 w < 256 := by
  rw [crc8, List.range_succ, List.foldl_append]
  exact crc8Step_lt _ _

/-- The CRC reads the bits above the CRC field alone. -/
theorem crc8_congr {v w : Nat} (h : v / 2 ^ 8 = w / 2 ^ 8) : crc8 v = crc8 w := by
  refine List.foldl_rel (r := Eq) rfl fun i hi c d hcd => ?_
  have hpos : 55 - i = (47 - i) + 8 := by have := List.mem_range.mp hi; omega
  have hbit : bit v (55 - i) = bit w (55 - i) := by
    rw [bit, bit, hpos, Nat.testBit_add, Nat.testBit_add, h]
  rw [hbit, hcd]

/-- The fields of a frame read back. -/
theorem bsyncFrame_fields (cmd param payload : Nat) :
    bits (bsyncFrame cmd param payload) 52 4 = cmd % 16 ∧ bits (bsyncFrame cmd param payload) 48 4 = param % 16
      ∧ bits (bsyncFrame cmd param payload) 8 40 = payload % 2 ^ 40
      ∧ bits (bsyncFrame cmd param payload) 8 24 = payload % 2 ^ 24
      ∧ bits (bsyncFrame cmd param payload) 32 16 = payload % 2 ^ 40 / 2 ^ 24 := by
  unfold bsyncFrame
  extract_lets w
  have hcrc := crc8_lt w
  generalize crc8 w = c at hcrc
  simp only [bits, Nat.shiftRight_eq_div_pow, w]
  omega

theorem preambleOk_bsyncFrame (cmd param payload : Nat) : preambleOk (bsyncFrame cmd param payload) = true := by
  unfold preambleOk bsyncFrame
  extract_lets w
  have hcrc := crc8_lt w
  generalize crc8 w = c at hcrc
  simp only [bits, Nat.shiftRight_eq_div_pow, w, beq_iff_eq]
  omega

theorem crcOk_bsyncFrame (cmd param payload : Nat) : crcOk (bsyncFrame cmd param payload) = true := by
  unfold crcOk bsyncFrame
  extract_lets w
  have hcrc := crc8_lt w
  have hbody : crc8 (w + crc8 w) = crc8 w := crc8_congr (by omega)
  rw [hbody, beq_iff_eq]
  generalize crc8 w = c at hcrc
  simp only [bits, Nat.shiftRight_eq_div_pow, w]
  omega

/-! ### Frame slots (04 R76, R80; log entries 23 and 55) -/

section
variable {s : State} {w : Nat}

/-- The echo leaves the module and changes nothing else. -/
theorem State.echo_only (s : State) (w : Nat) : Only [.outs] s (s.echo w) :=
  Only.of_ite (State.emit_only _ _) (Only.refl _ s)

@[simp] theorem State.echo_sync (s : State) (w : Nat) : (s.echo w).sync = s.sync :=
  (s.echo_only w) .sync (by decide)

@[simp] theorem State.echo_root (s : State) (w : Nat) : (s.echo w).root = s.root :=
  ((s.echo_only w) .time (by decide)).1

@[simp] theorem State.echo_hdr (s : State) (w ty inst : Nat) : (s.echo w).hdr ty inst = s.hdr ty inst := by
  have hhdrs : (s.echo w).hdrs = s.hdrs := (s.echo_only w) .hdrs (by decide)
  rw [State.hdr, State.hdr, hhdrs]

theorem exec_bsyncFrameSlot (hw : w < 2 ^ 64) : exec (.bsyncFrameSlot w) s = .next (s.frameSlot w) :=
  congrArg (fun v => Host.Outcome.next (s.frameSlot v)) (Nat.mod_eq_of_lt hw)

section
variable (hon : s.stage = .on)
include hon

/-- Without lock, a slot with no valid frame starts the count of valid slots again. -/
theorem State.frameSlot_unlocked_invalid (hlock : s.sync.lock = false)
    (hinvalid : (s.sync.rxEn && preambleOk w && crcOk w) = false) :
    s.frameSlot w = (s.echo w).modSync (fun x => { x with good := 0 }) := by
  simp [State.frameSlot, hon, hlock, hinvalid]

/-- Without lock, a first valid slot is counted. -/
theorem State.frameSlot_unlocked_first (hlock : s.sync.lock = false)
    (hvalid : (s.sync.rxEn && preambleOk w && crcOk w) = true) (hgood : s.sync.good = 0) :
    s.frameSlot w = (s.echo w).modSync (fun x => { x with good := 1 }) := by
  simp [State.frameSlot, hon, hlock, hvalid, hgood]

/-- Without lock, a second valid slot in a row gives lock, and its cause is set. -/
theorem State.frameSlot_unlocked_second (hlock : s.sync.lock = false)
    (hvalid : (s.sync.rxEn && preambleOk w && crcOk w) = true) (hgood : s.sync.good ≠ 0) :
    s.frameSlot w = ((s.echo w).modSync (fun x => { x with lock := true, good := 0, bad := 0 })).cause Ty.sync 0 1 := by
  simp [State.frameSlot, hon, hlock, hvalid, hgood]

/-- In lock, a slot with no valid frame is discarded. -/
theorem State.frameSlot_locked_invalid (hlock : s.sync.lock = true) (hbad : s.sync.bad < 4)
    (hinvalid : (s.sync.rxEn && preambleOk w && crcOk w) = false) : s.frameSlot w = (s.echo w).badSlot := by
  simp [State.frameSlot, hon, hlock, hbad, hinvalid]

end

/-- A discarded slot of a receiver that is on is counted, in its row and as a CRC error, and logged. -/
theorem State.badSlot_of_rxEn (hrx : s.sync.rxEn = true) :
    s.badSlot = ((s.modSync (fun x => { x with good := 0, bad := x.bad + 1, crcErr := satAdd sat32 x.crcErr 1 })).cause
      Ty.sync 0 4).raise Code.syncCrc Ty.sync 0 := by
  simp only [State.badSlot, hrx, if_true]
  rfl

theorem State.echo_modSync_only (s : State) (w : Nat) (f : Sync → Sync) :
    Only [.sync, .outs] s ((s.echo w).modSync f) :=
  ((s.echo_only w).mono (by decide)).trans ((State.modSync_only _ f).mono (by decide))

section
variable (hw : w < 2 ^ 64) (hon : s.stage = .on) (hlock : s.sync.lock = false)
include hw hon hlock

theorem frameSlot_gives_lock (hrx : s.sync.rxEn = true) (hpre : preambleOk w = true) (hcrc : crcOk w = true)
    (hgood : s.sync.good ≠ 0) :
    ∃ t, exec (.bsyncFrameSlot w) s = .next t ∧ t.sync.lock = true ∧ t.sync.bad = 0
      ∧ (t.hdr Ty.sync 0).irqStatus = (s.hdr Ty.sync 0).irqStatus ||| 1 ∧ Only (.sync :: causeParts) s t := by
  refine ⟨_, exec_bsyncFrameSlot hw, ?_⟩
  rw [State.frameSlot_unlocked_second hon hlock (by simp [hrx, hpre, hcrc]) hgood, State.cause_hdr]
  refine ⟨by simp, by simp, by simp, ?_⟩
  exact ((s.echo_modSync_only w _).mono (by decide)).trans ((State.cause_only _ Ty.sync 0 1).mono (by decide))

theorem frameSlot_counts_first (hrx : s.sync.rxEn = true) (hpre : preambleOk w = true) (hcrc : crcOk w = true)
    (hgood : s.sync.good = 0) :
    ∃ t, exec (.bsyncFrameSlot w) s = .next t ∧ t.sync.lock = false ∧ t.sync.good = 1 ∧ Only [.sync, .outs] s t := by
  refine ⟨_, exec_bsyncFrameSlot hw, ?_⟩
  rw [State.frameSlot_unlocked_first hon hlock (by simp [hrx, hpre, hcrc]) hgood]
  exact ⟨by simp [hlock], by simp, s.echo_modSync_only w _⟩

theorem frameSlot_restarts_count (hcrc : crcOk w = false) :
    ∃ t, exec (.bsyncFrameSlot w) s = .next t ∧ t.sync.lock = false ∧ t.sync.good = 0 ∧ Only [.sync, .outs] s t := by
  refine ⟨_, exec_bsyncFrameSlot hw, ?_⟩
  rw [State.frameSlot_unlocked_invalid hon hlock (by simp [hcrc])]
  exact ⟨by simp [hlock], by simp, s.echo_modSync_only w _⟩

/-- A slot whose CRC fails is echoed as received, 320 root ticks after its reference point. -/
theorem frameSlot_echoes (hecho : s.sync.echoEn = true) (hpre : preambleOk w = true) (hcrc : crcOk w = false) :
    ∃ t, exec (.bsyncFrameSlot w) s = .next t ∧ t.outs = .bsync w ((s.refRoot + 320) * 256 % 2 ^ 64) :: s.outs := by
  refine ⟨_, exec_bsyncFrameSlot hw, ?_⟩
  rw [State.frameSlot_unlocked_invalid hon hlock (by simp [hcrc]), State.modSync_outs]
  simp [State.echo, hecho, hpre, hcrc]

end

/-- In lock, a slot without a valid frame is counted and logged, and runs no command: TT stays. -/
theorem frameSlot_invalid_in_lock (hw : w < 2 ^ 64) (hon : s.stage = .on) (hlock : s.sync.lock = true)
    (hbad : s.sync.bad < 4) (hrx : s.sync.rxEn = true) (hinvalid : preambleOk w = false ∨ crcOk w = false) :
    ∃ t, exec (.bsyncFrameSlot w) s = .next t ∧ t.sync.bad = s.sync.bad + 1
      ∧ t.sync.crcErr = min 0xFFFFFFFF (s.sync.crcErr + 1) ∧ t.err.lastCode = Code.syncCrc ∧ t.root = s.root
      ∧ Only (.sync :: errorParts) s t := by
  have hslot : (s.sync.rxEn && preambleOk w && crcOk w) = false := by
    rcases hinvalid with h | h <;> simp [h]
  have ht := State.badSlot_of_rxEn (s := s.echo w) (by simpa using hrx)
  obtain ⟨hsync, hcode, hroot, honly⟩ := State.syncFault_spec _ _ _ _ ht.symm
  refine ⟨_, (exec_bsyncFrameSlot hw).trans (congrArg _ (State.frameSlot_locked_invalid hon hlock hbad hslot)),
    by simp [hsync], by simp [hsync, satAdd], hcode, by simp [hroot], ?_⟩
  exact ((s.echo_only w).mono (by decide)).trans honly

/-- The fourth slot in a row without a valid frame loses lock. -/
theorem syncLoss_of_four_bad (hlock : s.sync.lock = true) (hbad : 4 ≤ s.sync.bad) :
    ∃ t, exec .syncLoss s = .next t ∧ t.sync.lock = false ∧ t.sync.bad = 0 ∧ t.err.lastCode = Code.syncLoss
      ∧ t.root = s.root ∧ Only (.sync :: errorParts) s t := by
  obtain ⟨hsync, hcode, hroot, honly⟩ :=
    s.syncFault_spec (fun x => { x with lock := false, bad := 0, good := 0 }) 2 Code.syncLoss rfl
  exact ⟨_, congrArg Host.Outcome.next (if_pos ⟨hlock, hbad⟩), by rw [hsync], by rw [hsync], hcode, hroot, honly⟩

end

/-! ### Frame commands (04 R76 to R79) -/

/-- The module carries out the frames of its slots: power on, lock, the receiver on, no row of four bad slots. Echoes are
off, so that nothing beside the command happens. -/
structure State.TakesFrames (s : State) : Prop where
  on : s.stage = .on
  lock : s.sync.lock = true
  bad : s.sync.bad < 4
  rxEn : s.sync.rxEn = true
  noEcho : s.sync.echoEn = false

/-- The state in which the command of a valid frame acts: the row of bad slots has ended. -/
def State.slotTaken (s : State) : State := s.modSync (fun x => { x with bad := 0 })

/-- In lock, the slot of a frame acts as its command. -/
theorem State.TakesFrames.frameSlot {s : State} (h : s.TakesFrames) (cmd param payload : Nat) :
    s.frameSlot (bsyncFrame cmd param payload) = s.slotTaken.bsyncCmd (bsyncFrame cmd param payload) := by
  obtain ⟨hon, hlock, hbad, hrx, hecho⟩ := h
  have hnoEcho : s.echo (bsyncFrame cmd param payload) = s := by simp [State.echo, hecho]
  simp [State.frameSlot, hon, hlock, hbad, hrx, hnoEcho, preambleOk_bsyncFrame, crcOk_bsyncFrame, State.slotTaken]

section
variable (s : State)

theorem State.slotTaken_only : Only [.sync] s s.slotTaken := s.modSync_only _

theorem State.bsyncCmd_nop : s.bsyncCmd (bsyncFrame 0 0 0) = s := by
  obtain ⟨hcmd, hparam, hpay, -, -⟩ := bsyncFrame_fields 0 0 0
  simp [State.bsyncCmd, hcmd, hparam, hpay]

theorem State.bsyncCmd_ping : s.bsyncCmd (bsyncFrame 5 0 0) = s := by
  obtain ⟨hcmd, hparam, hpay, -, -⟩ := bsyncFrame_fields 5 0 0
  simp [State.bsyncCmd, hcmd, hparam, hpay]

theorem State.bsyncCmd_stage {t40 : Nat} (ht : t40 < 2 ^ 40) :
    s.bsyncCmd (bsyncFrame 1 1 t40) = s.modSync (fun x => { x with stage40 := t40, staged := true }) := by
  obtain ⟨hcmd, hparam, hpay, -, -⟩ := bsyncFrame_fields 1 1 t40
  simp [State.bsyncCmd, hcmd, hparam, hpay.trans (Nat.mod_eq_of_lt ht)]

theorem State.bsyncCmd_load {t24 : Nat} (ht : t24 < 2 ^ 24) : s.bsyncCmd (bsyncFrame 1 0 t24) = s.timeLoad t24 := by
  obtain ⟨hcmd, hparam, -, hlow, hhigh⟩ := bsyncFrame_fields 1 0 t24
  have hzero : t24 % 2 ^ 40 / 2 ^ 24 = 0 := by omega
  simp [State.bsyncCmd, hcmd, hparam, hlow.trans (Nat.mod_eq_of_lt ht), hhigh.trans hzero]

section
variable {s} (hstart : s.sync.startEn = true)
include hstart

theorem State.bsyncCmd_arm {g : Nat} (hg : g < 16) : s.bsyncCmd (bsyncFrame 2 g 0) = s.frameArm g := by
  obtain ⟨hcmd, hparam, hpay, -, -⟩ := bsyncFrame_fields 2 g 0
  simp [State.bsyncCmd, hcmd, hparam, hpay, hstart, Nat.mod_eq_of_lt hg]

/-- START_AT is counted, then acts at the sites of its group. -/
theorem State.bsyncCmd_startAt {g t40 : Nat} (hg : g < 16) (ht : t40 < 2 ^ 40) :
    s.bsyncCmd (bsyncFrame 3 g t40) = forEach (s.groupSites g) (fun i t => t.frameStart t40 i)
      (s.modSync (fun x => { x with starts := satAdd sat8 x.starts 1 })) := by
  obtain ⟨hcmd, hparam, hpay, -, -⟩ := bsyncFrame_fields 3 g t40
  simp only [State.bsyncCmd, hcmd, hparam, hpay, Nat.mod_eq_of_lt hg, Nat.mod_eq_of_lt ht, hstart, if_true]
  rfl

/-- STOP_AT is counted, then acts at the sites of its group. -/
theorem State.bsyncCmd_stopAt {g t40 : Nat} (hg : g < 16) (ht : t40 < 2 ^ 40) :
    s.bsyncCmd (bsyncFrame 4 g t40) = forEach (s.groupSites g) (fun i t => t.frameStop t40 i)
      (s.modSync (fun x => { x with stops := satAdd sat8 x.stops 1 })) := by
  obtain ⟨hcmd, hparam, hpay, -, -⟩ := bsyncFrame_fields 4 g t40
  simp only [State.bsyncCmd, hcmd, hparam, hpay, Nat.mod_eq_of_lt hg, Nat.mod_eq_of_lt ht, hstart, if_true]
  rfl

end

/-! ### TIME_LOAD (04 R79) -/

/-- A LOAD is rejected with its reason; TT stays. -/
theorem State.timeLoad_rejected {t24 : Nat} (hreason : s.loadReason ≠ 0) :
    s.timeLoad t24 = ((s.modSync (fun x => { x with loadReject := s.loadReason })).cause Ty.sync 0 16).raise
      Code.syncTimeReject Ty.sync 0 :=
  if_pos hreason

@[simp] theorem State.acqDisarm_sync (k : Nat) : (s.acqDisarm k).sync = s.sync := by
  unfold State.acqDisarm
  dsimp only
  (repeat' split) <;> rfl

/-- Operations that count no LOAD count none in a row. -/
theorem forEach_loads {f : Nat → State → State} (hf : ∀ i t, (f i t).sync.loads = t.sync.loads) (is : List Nat) :
    (forEach is f s).sync.loads = s.sync.loads :=
  forEach_keep (·.sync.loads) f hf is s

/-- A jump of TT moves the instants trigger lines hold, and counts no LOAD. -/
theorem State.jump_loads (d : Int) : (s.jump d).sync.loads = s.sync.loads := by
  unfold State.jump
  dsimp only
  rw [forEach_loads, forEach_loads, forEach_loads, forEach_loads]
  · rfl
  · exact fun _ _ => rfl
  · exact fun _ _ => rfl
  · exact fun _ _ => rfl
  · intro k t
    split <;> simp

theorem State.slewCheck_root : s.slewCheck.root = s.root := congrArg (·.1) s.slewCheck_fixed

/-- The end of a slew changes SLEWING alone of the SYNC registers. -/
theorem State.slewCheck_sync : ∃ slewing, s.slewCheck.sync = { s.sync with slewing := slewing } := by
  unfold State.slewCheck
  dsimp only
  split
  · refine ⟨false, ?_⟩
    split <;> simp
  · exact ⟨s.sync.slewing, rfl⟩

theorem State.timeLoad_uptime (t24 : Nat) : (s.timeLoad t24).uptime = s.uptime :=
  congrArg (·.2.1) (s.timeLoad_outer t24)

/-- An accepted LOAD puts TT at the named value plus cable delay and arrival time, and starts the slew. -/
theorem State.timeLoad_accepted {t24 : Nat} (ht : t24 < 2 ^ 24) (hreason : s.loadReason = 0) :
    (s.timeLoad t24).root = (s.sync.stage40 * 2 ^ 24 + t24 + (s.sync.delay + 255) / 256 + 10880) % 2 ^ 64
      ∧ (s.timeLoad t24).sync.staged = false
      ∧ (s.timeLoad t24).sync.target = (256 - s.sync.delay % 256) % 256
      ∧ (s.timeLoad t24).sync.loads = min 255 (s.sync.loads + 1) := by
  unfold State.timeLoad
  extract_lets r D V new jumped s1 s2
  rw [if_neg (by simpa using hreason)]
  obtain ⟨slewing, hsync⟩ := (s2.cause Ty.sync 0 8).slewCheck_sync
  have hloads : jumped.sync.loads = s.sync.loads := by rw [State.jump_loads]
  rw [State.slewCheck_root, hsync, State.cause_root, State.cause_sync]
  refine ⟨?_, rfl, rfl, ?_⟩
  · have hroot : s2.root = new := rfl
    simp only [hroot, new, V, D, Nat.mod_eq_of_lt ht]
  · simp only [s2, s1, State.modClk_sync, State.modSync_sync, hloads, satAdd]

/-! ### ARM (04 R77) -/

/-- A site an ARM addresses: FRAME-armed once it is armed with source FRAME. -/
def Site.marked (x : Site) : Site := if x.st = .armed ∧ x.srcFrame then { x with frameArmed := true } else x

theorem Site.marked_frameArmed {x : Site} (harmed : x.st = .armed) (hframe : x.srcFrame = true) :
    x.marked.frameArmed = true := by
  simp [Site.marked, harmed, hframe]

theorem Site.marked_of_ne_armed {x : Site} (h : x.st ≠ .armed) : x.marked = x := by
  simp [Site.marked, h]

theorem State.mem_groupSites {g i : Nat} : i ∈ s.groupSites g ↔ i < 16 ∧ (g = 15 ∨ (s.site i).group = g) := by
  simp [State.groupSites, allSites]

theorem State.groupSites_nodup (g : Nat) : (s.groupSites g).Nodup := List.nodup_range.filter _

/-- ARM marks the sites of its group, and no other. -/
theorem State.frameArm_site (g i : Nat) :
    (s.frameArm g).site i = if i ∈ s.groupSites g then (s.site i).marked else s.site i :=
  forEach_unit (read := State.site) (g := Site.marked) (fun i t j => t.modSite_site i Site.marked j)
    (s.groupSites_nodup g) s i

theorem State.frameArm_only (g : Nat) : Only [.sites] s (s.frameArm g) :=
  Only.forEach (fun i t => t.modSite_only i _) _ s

/-! ### START_AT and STOP_AT at one site (04 R77, R78) -/

/-- A group that one site alone is in addresses that site. -/
theorem State.groupSites_of_alone {g i : Nat} (hg : g < 15) (hi : i < 16) (hgroup : (s.site i).group = g)
    (halone : ∀ j, j < 16 → j ≠ i → (s.site j).group ≠ g) : s.groupSites g = [i] := by
  have hmem (j : Nat) : j ∈ s.groupSites g ↔ j ∈ [i] := by
    rw [s.mem_groupSites, List.mem_singleton]
    refine ⟨fun ⟨hj, hor⟩ => ?_, fun hj => hj ▸ ⟨hi, .inr hgroup⟩⟩
    exact Decidable.byContradiction fun hne => hor.elim (by omega) (halone j hj hne)
  have honce : [i].Nodup := List.pairwise_singleton _ i
  exact List.perm_singleton.mp ((List.perm_ext_iff_of_nodup (s.groupSites_nodup g) honce).mpr hmem)

/-- The low bits of a time less than half their span ahead name it. -/
theorem State.namedAhead_of_near {T : Nat} (hpast : s.root ≤ T) (hnear : T < s.root + 2 ^ 39) :
    s.namedAhead (T % 2 ^ 40) = some (T - s.root) := by
  unfold State.namedAhead
  extract_lets ahead
  have hahead : ahead = T - s.root := by omega
  rw [if_neg (by omega), hahead]

section
variable {s} {t40 i n : Nat}

/-- START_AT at a FRAME-armed site, early enough: the named time is its pending start. -/
theorem State.frameStart_pending (harmed : (s.site i).st = .armed) (hframe : (s.site i).srcFrame = true)
    (hmarked : (s.site i).frameArmed = true) (hahead : s.namedAhead t40 = some n) (hlead : s.startWait i ≤ n * 256) :
    s.frameStart t40 i = s.modSite i (fun x => { x with pendStart := some ((s.root + n) * 256 % 2 ^ 64) }) := by
  simp [State.frameStart, State.acceptStart, harmed, hframe, hmarked, hahead, Nat.not_lt.mpr hlead]

/-- STOP_AT at a running site of source FRAME: a cut at the named time. -/
theorem State.frameStop_cut (hrunning : (s.site i).st = .running) (hframe : (s.site i).srcFrame = true)
    (hahead : s.namedAhead t40 = some n) :
    s.frameStop t40 i = s.modSite i (fun x => { x with cut := some ((s.root + n) * 256 % 2 ^ 64) }) := by
  simp [State.frameStop, State.setCut, hrunning, hframe, hahead]

end

end

/-! ### The commands as the module carries them out -/

namespace State.TakesFrames
variable {s : State} (h : s.TakesFrames)
include h

theorem exec_bsyncNop : exec .bsyncNop s = .next s.slotTaken :=
  congrArg Host.Outcome.next ((h.frameSlot 0 0 0).trans s.slotTaken.bsyncCmd_nop)

theorem exec_ping : exec .ping s = .next s.slotTaken :=
  congrArg Host.Outcome.next ((h.frameSlot 5 0 0).trans s.slotTaken.bsyncCmd_ping)

theorem exec_timeLoadStage {t40 : Nat} (ht : t40 < 2 ^ 40) :
    exec (.timeLoadStage t40) s = .next (s.slotTaken.modSync (fun x => { x with stage40 := t40, staged := true })) :=
  congrArg Host.Outcome.next ((h.frameSlot 1 1 t40).trans (s.slotTaken.bsyncCmd_stage ht))

theorem exec_timeLoadLoad {t24 : Nat} (ht : t24 < 2 ^ 24) :
    exec (.timeLoadLoad t24) s = .next (s.slotTaken.timeLoad t24) := by
  have hmod : exec (.timeLoadLoad t24) s = .next (s.frameSlot (bsyncFrame 1 0 (t24 % 2 ^ 24))) := rfl
  rw [hmod, Nat.mod_eq_of_lt ht, h.frameSlot, State.bsyncCmd_load _ ht]

/-- A LOAD that is rejected leaves TT and keeps its reason. -/
theorem timeLoadLoad_rejected {t24 : Nat} (ht : t24 < 2 ^ 24) (hreason : s.loadReason ≠ 0) :
    ∃ t, exec (.timeLoadLoad t24) s = .next t ∧ t.root = s.root ∧ t.sync.loadReject = s.loadReason
      ∧ t.err.lastCode = Code.syncTimeReject ∧ Only (.sync :: errorParts) s t := by
  obtain ⟨hsync, hcode, hroot, honly⟩ :=
    s.slotTaken.syncFault_spec _ _ _ (s.slotTaken.timeLoad_rejected hreason (t24 := t24)).symm
  exact ⟨_, h.exec_timeLoadLoad ht, hroot, by rw [hsync]; rfl, hcode, (s.slotTaken_only.mono (by decide)).trans honly⟩

section
variable (hstart : s.sync.startEn = true)
include hstart

/-- ARM marks the FRAME-armed sites of its group. -/
theorem bsyncArm_marks {g : Nat} (hg : g < 16) :
    ∃ t, exec (.bsyncArm g) s = .next t
      ∧ (∀ i, i < 16 → (g = 15 ∨ (s.site i).group = g) → (s.site i).st = .armed → (s.site i).srcFrame = true →
        (t.site i).frameArmed = true)
      ∧ (∀ i, i < 16 → (s.site i).st ≠ .armed → t.site i = s.site i) ∧ Only [.sites, .sync] s t := by
  have hsite (i : Nat) : (s.slotTaken.frameArm g).site i = if i ∈ s.groupSites g then (s.site i).marked else s.site i :=
    s.slotTaken.frameArm_site g i
  refine ⟨s.slotTaken.frameArm g, ?_, fun i hi hgroup harmed hframe => ?_, fun i _ hne => ?_, ?_⟩
  · exact congrArg Host.Outcome.next ((h.frameSlot 2 g 0).trans (State.bsyncCmd_arm (s := s.slotTaken) hstart hg))
  · rw [hsite, if_pos (s.mem_groupSites.mpr ⟨hi, hgroup⟩)]
    exact Site.marked_frameArmed harmed hframe
  · rw [hsite, Site.marked_of_ne_armed hne, ite_self]
  · exact (s.slotTaken_only.mono (by decide)).trans ((State.frameArm_only _ g).mono (by decide))

section
variable {g i T : Nat} (hg : g < 15) (halone : s.groupSites g = [i]) (hpast : s.root ≤ T) (hnear : T < s.root + 2 ^ 39)
include hg halone hpast hnear

/-- START_AT makes the named time pending at the FRAME-armed site of its group. -/
theorem startAt_pending (harmed : (s.site i).st = .armed) (hframe : (s.site i).srcFrame = true)
    (hmarked : (s.site i).frameArmed = true) (hlead : s.startWait i ≤ (T - s.root) * 256) :
    ∃ t, exec (.startAt g (T % 2 ^ 40)) s = .next t ∧ (t.site i).pendStart = some (T * 256 % 2 ^ 64)
      ∧ (t.site i).st = .armed ∧ t.sync.starts = min 255 (s.sync.starts + 1) ∧ Only [.sites, .sync] s t := by
  have hT : s.root + (T - s.root) = T := by omega
  have hcmd := State.bsyncCmd_startAt (s := s.slotTaken) hstart (g := g) (t40 := T % 2 ^ 40) (by omega) (by omega)
  have hgroup : s.slotTaken.groupSites g = [i] := halone
  rw [hgroup, forEach_cons, forEach_nil,
    State.frameStart_pending (s := s.slotTaken.modSync _) harmed hframe hmarked (s.namedAhead_of_near hpast hnear)
      hlead] at hcmd
  refine ⟨_, congrArg Host.Outcome.next ((h.frameSlot 3 g _).trans hcmd), ?_, by simpa [State.slotTaken] using harmed,
    rfl, ?_⟩
  · simp [State.slotTaken, hT]
  · exact ((s.slotTaken_only.mono (by decide)).trans ((State.modSync_only _ _).mono (by decide))).trans
      ((State.modSite_only _ i _).mono (by decide))

/-- STOP_AT cuts the running site of its group at the named time. -/
theorem stopAt_cut (hrunning : (s.site i).st = .running) (hframe : (s.site i).srcFrame = true) :
    ∃ t, exec (.stopAt g (T % 2 ^ 40)) s = .next t ∧ (t.site i).cut = some (T * 256 % 2 ^ 64)
      ∧ (t.site i).st = .running ∧ t.sync.stops = min 255 (s.sync.stops + 1) ∧ Only [.sites, .sync] s t := by
  have hT : s.root + (T - s.root) = T := by omega
  have hcmd := State.bsyncCmd_stopAt (s := s.slotTaken) hstart (g := g) (t40 := T % 2 ^ 40) (by omega) (by omega)
  have hgroup : s.slotTaken.groupSites g = [i] := halone
  rw [hgroup, forEach_cons, forEach_nil,
    State.frameStop_cut (s := s.slotTaken.modSync _) hrunning hframe (s.namedAhead_of_near hpast hnear)] at hcmd
  refine ⟨_, congrArg Host.Outcome.next ((h.frameSlot 4 g _).trans hcmd), ?_, by simpa [State.slotTaken] using hrunning,
    rfl, ?_⟩
  · simp [State.slotTaken, hT]
  · exact ((s.slotTaken_only.mono (by decide)).trans ((State.modSync_only _ _).mono (by decide))).trans
      ((State.modSite_only _ i _).mono (by decide))

end

end

end State.TakesFrames

/-- Settles O36: slots are judged by `State.frameSlot` case by case; in lock, the slot of a frame acts as its command. -/
theorem frameSlotsLockAndCommand : Obligations.FrameSlotsLockAndCommand := by
  refine ⟨⟨fun s w hw hon hlock => ?_, fun _ _ => frameSlot_invalid_in_lock, fun _ => syncLoss_of_four_bad,
    fun s w hw hon hlock _ => frameSlot_echoes hw hon hlock⟩, fun s hon hlock hbad hrx hnoEcho => ?_⟩
  · exact ⟨frameSlot_gives_lock hw hon hlock, frameSlot_counts_first hw hon hlock,
      frameSlot_restarts_count hw hon hlock⟩
  · have h : s.TakesFrames := ⟨hon, hlock, hbad, hrx, hnoEcho⟩
    refine ⟨h.exec_bsyncNop, h.exec_ping, fun t40 ht => h.exec_timeLoadStage ht, fun t24 ht hreason => ?_,
      fun t24 ht hreason => h.timeLoadLoad_rejected ht hreason, fun g hg hstart => h.bsyncArm_marks hstart hg,
      fun g i T hg hi hstart hgroup halone hpast hnear => ?_⟩
    · obtain ⟨hroot, hstaged, htarget, hloads⟩ := s.slotTaken.timeLoad_accepted ht hreason
      exact ⟨_, h.exec_timeLoadLoad ht, hroot, hstaged, htarget, hloads, State.timeLoad_uptime _ t24⟩
    · have halone := s.groupSites_of_alone hg hi hgroup halone
      exact ⟨h.startAt_pending hstart hg halone hpast hnear, h.stopAt_cut hstart hg halone hpast hnear⟩

end Sys2Proof.Machine
end

section
/-! Proofs of the statements of the family 07_tin_engines.md, and the rules about engines, aborted bursts, transients and
reloads they rest on. -/

namespace Sys2Proof.Machine

/-! ### Microwords (07 R129; 03 R69) -/

/-- Times are ordered by the sign of their 64-bit difference (03 R69): before the begin of its segment so ordered, an engine
carries out no microword. -/
theorem State.micro_of_begin_ahead {s : State} {e : Nat} (hahead : ttLe (s.te e).beginAt s.now = false) (seq : Nat) :
    s.micro_ e seq = s := by
  unfold State.micro_
  dsimp only
  split
  · rfl
  · exact if_pos (by simp [hahead])

/-- Engine 0 stands before a word of zeroes of a running site's segment whose begin, TT 0, lies 2^63 fine steps (26 days)
back: the 64-bit difference orders it ahead of the present TT. -/
def longRunningEngine : State :=
  { root := 2 ^ 55, sites := [(0, { st := .running })], tes := [(0, { cur := some {} })] }

theorem longRunningEngine_atWord : longRunningEngine.atWord 0 {} 0 := by decide

theorem longRunningEngine_begin_ahead : ttLe (longRunningEngine.te 0).beginAt longRunningEngine.now = false := by decide

theorem exec_microNext_longRunningEngine : exec (.microNext 0) longRunningEngine = .next longRunningEngine :=
  (onUnit_of (decide (0 < nEng)) _ (by decide)).trans
    (congrArg _ (State.micro_of_begin_ahead longRunningEngine_begin_ahead 0))

/-- Refutes O41: `State.atWord` compares the begin of the segment with the present TT as numbers, the engine by their 64-bit
difference. From 2^63 fine steps after the begin on the two differ: a word with SEQ NEXT and nothing else stays. -/
theorem not_microwordsSequence : ¬ Obligations.MicrowordsSequence := by
  intro h
  have hnext : exec (.microNext 0) longRunningEngine
      = .next (longRunningEngine.modTe 0 (fun x => { x with upc := (x.upc + 1) % 4096 })) :=
    ((h longRunningEngine 0 0 {} longRunningEngine_atWord).1 (by decide) (by decide)).1 (by decide)
  rw [exec_microNext_longRunningEngine, Host.Outcome.next.injEq] at hnext
  have hupc : (longRunningEngine.te 0).upc = ((longRunningEngine.te 0).upc + 1) % 4096 := by
    simpa using congrArg (fun t => (t.te 0).upc) hnext
  exact absurd hupc (by decide)

/-! ### Frames: what engine, burst and fault operations touch -/

theorem Only.te {l : List Part} {s t : State} (h : Only l s t) (hl : Part.tes ∉ l) (e : Nat) : t.te e = s.te e := by
  have htes : t.tes = s.tes := h .tes hl
  rw [State.te, State.te, htes]

theorem Only.rgn {l : List Part} {s t : State} (h : Only l s t) (hl : Part.rgns ∉ l) (r : Nat) : t.rgn r = s.rgn r := by
  have hrgns : t.rgns = s.rgns := h .rgns hl
  rw [State.rgn, State.rgn, hrgns]

theorem Only.site {l : List Part} {s t : State} (h : Only l s t) (hl : Part.sites ∉ l) (i : Nat) :
    t.site i = s.site i := by
  have hsites : t.sites = s.sites := h .sites hl
  rw [State.site, State.site, hsites]

theorem Only.fault {l : List Part} {s t : State} (h : Only l s t) (hl : Part.faults ∉ l) (k : Nat) :
    t.fault k = s.fault k := by
  have hfaults : t.faults = s.faults := h .faults hl
  rw [State.fault, State.fault, hfaults]

theorem Only.store {l : List Part} {s t : State} (h : Only l s t) (hl : Part.caches ∉ l) (e : Nat) :
    t.store e = s.store e := by
  obtain ⟨-, -, hstores, -⟩ := h .caches hl
  rw [State.store, State.store, hstores]

theorem Only.now {l : List Part} {s t : State} (h : Only l s t) (hl : Part.time ∉ l) : t.now = s.now := by
  obtain ⟨hroot, -⟩ := h .time hl
  rw [State.now, State.now, hroot]

/-- Whether the next transient of a unit is its permanent fault depends on its fault record and TT. -/
theorem Only.permanent {l : List Part} {s t : State} (h : Only l s t) (hfaults : Part.faults ∉ l) (htime : Part.time ∉ l)
    (key : Nat) (retryFailed : Bool) : t.permanent key retryFailed = s.permanent key retryFailed := by
  rw [State.permanent, State.permanent, State.recent, State.recent, h.fault hfaults, h.now htime]

theorem Only.foldl {α : Type} {l : List Part} {f : State → α → State} (hf : ∀ t a, Only l t (f t a)) (as : List α)
    (s : State) : Only l s (as.foldl f s) := by
  induction as generalizing s with
  | nil => exact Only.refl l s
  | cons a as ih => exact (hf s a).trans (ih (f s a))

section
variable (s : State)

theorem State.modTe_only (e : Nat) (f : Eng → Eng) : Only [.tes] s (s.modTe e f) := by
  intro p hp
  cases p <;> simp [Part.same] at hp ⊢

theorem State.modQueue_only (q : Nat) (f : QDesc → QDesc) : Only [.queues] s (s.modQueue q f) := by
  intro p hp
  cases p <;> simp [Part.same] at hp ⊢

theorem State.modFault_only (k : Nat) (f : Fault1 → Fault1) : Only [.faults] s (s.modFault k f) := by
  intro p hp
  cases p <;> simp [Part.same] at hp ⊢

theorem State.modNor_only (f : Nor → Nor) : Only [.nor] s (s.modNor f) := by
  intro p hp
  cases p <;> simp [Part.same] at hp ⊢

theorem State.useFree_only : Only [.free] s s.useFree := by
  intro p hp
  cases p <;> simp [Part.same] at hp ⊢

theorem State.raiseAt_only (tt code ty inst : Nat) (site : Option Nat) (detail : Nat) (tr perm : Bool) :
    Only errorParts s (s.raiseAt tt code ty inst site detail tr perm) :=
  only_errorParts_of_sansErrorParts (s.raiseAt_sansErrorParts ..)

/-- A completion of a site is posted, held, or counted as an error of its page. -/
theorem State.siteCpl_only (st : Nat) (entry : List Byte) : Only errorParts s (s.siteCpl st entry) := by
  unfold State.siteCpl State.postCpl
  refine Only.of_ite (Only.of_ite ?_ ((s.modFn_only _ _).mono (by decide))) ((s.modHdr_only _ _ _).mono (by decide))
  exact only_errorParts_of_sansErrorParts (s.produce_sansErrorParts ..)

theorem State.clearDeques_only (st : Nat) : Only [.tes, .caches] s (s.clearDeques st) := by
  refine Only.trans (t := { s with returned := s.returned.filter (fun g => g.site != st) }) ?_
    (Only.forEach (fun e t => (t.modTe_only e _).mono (by decide)) _ _)
  intro p hp
  cases p <;> simp [Part.same] at hp ⊢

theorem State.discardQueues_only (st : Nat) : Only [.queues] s (s.discardQueues st) :=
  Only.forEach (fun q t => t.modQueue_only q _) _ s

/-- Entry to ABORTED touches what a burst entry can touch. -/
theorem State.abortSiteAt_only (st code t : Nat) : Only burstParts s (s.abortSiteAt st code t) := by
  unfold State.abortSiteAt
  refine Only.of_ite (Only.refl _ s) ?_
  dsimp only [State.burstCplAt, State.raiseBurst]
  refine Only.trans ?_ ((State.cause_only _ _ _ _).mono (by decide))
  refine Only.trans ?_ ((State.raise_only _ _ _ _ _ _).mono (by decide))
  refine Only.trans ?_ ((State.siteCpl_only _ _ _).mono (by decide))
  refine Only.trans ?_ (Only.forEach (fun ch t => (t.modChan_only ch _).mono (by decide)) _ _)
  refine Only.trans ?_ ((State.modSite_only _ _ _).mono (by decide))
  refine Only.trans ?_ ((State.discardQueues_only _ _).mono (by decide))
  exact ((s.modSite_only st _).mono (by decide)).trans ((State.clearDeques_only _ st).mono (by decide))

theorem State.blockPost_only (e : Nat) : Only [.tes, .chans] s (s.blockPost e) := by
  unfold State.blockPost
  dsimp only
  split
  · refine Only.of_ite (Only.refl _ s) (Only.trans ?_ ((State.modTe_only _ e _).mono (by decide)))
    exact (Only.foldl (l := [.chans]) (fun t p => t.modChan_only (Prod.fst p) _) _ s).mono (by decide)
  · exact Only.refl _ s

theorem State.endSeg_only (e : Nat) : Only [.tes, .chans] s (s.endSeg e) :=
  (s.blockPost_only e).trans ((State.modTe_only _ e _).mono (by decide))

theorem State.requeue_only (e : Nat) (tail : Bool) (g : Seg) : Only [.tes] s (s.requeue e tail g) := s.modTe_only e _

theorem State.fate_only (e : Nat) (g : Seg) : Only burstParts s (s.fate e g) :=
  Only.of_ite (Only.refl _ s) (Only.of_ite (s.abortSiteAt_only _ _ _) (Only.of_ite ((s.requeue_only e _ g).mono (by decide))
    (Only.of_ite ((s.requeue_only e _ g).mono (by decide)) (s.abortSiteAt_only _ _ _))))

theorem State.leaveSeg_only (e : Nat) : Only burstParts s (s.leaveSeg e) := by
  have hend : Only burstParts s (s.endSeg e) := (s.endSeg_only e).mono (by decide)
  unfold State.leaveSeg
  dsimp only
  split
  · exact hend.trans (State.fate_only _ e _)
  · exact hend

theorem State.abandonSeg_only (e cls : Nat) : Only burstParts s (s.abandonSeg e cls) :=
  ((s.modTe_only e _).mono (by decide)).trans (State.leaveSeg_only _ e)

theorem State.queueReload_only (e code : Nat) (site : Option Nat) (addr : Nat) :
    Only [.tes, .rgns] s (s.queueReload e code site addr) :=
  ((s.modTe_only e _).mono (by decide)).trans ((State.modRgn_only _ _ _).mono (by decide))

theorem State.nextReload_only (r : Nat) (ok : Bool) : Only [.rgns] s (s.nextReload r ok) := s.modRgn_only r _

theorem State.norStart_only : Only [.nor] s s.norStart := by
  unfold State.norStart
  refine Only.of_ite (Only.refl _ s) ?_
  split
  · exact Only.refl _ s
  · exact s.modNor_only _

theorem State.norWrite_only (r : Nat) : Only [.nor] s (s.norWrite r) := by
  unfold State.norWrite
  exact Only.trans (Only.of_ite (Only.refl _ s) (s.modNor_only _)) (State.norStart_only _)

end

/-! ### Errors: the burst state of a site and the header of the source page (18 R393, R395) -/

section
variable (s : State) (i : Nat)

@[simp] theorem State.postLog_st (j : Nat) (e : List Byte) : ((s.postLog j e).site i).st = (s.site i).st := by
  unfold State.postLog
  dsimp only
  split
  · split
    · simp
    · rw [State.modSite_site]
      split <;> rfl
  · rfl

@[simp] theorem State.copyEntry_st (e : ErrEntry) : ((s.copyEntry e).site i).st = (s.site i).st :=
  forEach_keep (fun t => (t.site i).st) _ (fun _ _ => by simp) _ _

@[simp] theorem State.closeEntries_st (p : ErrEntry → Bool) : ((s.closeEntries p).site i).st = (s.site i).st :=
  (foldl_keep (fun t => (t.site i).st) _ (fun _ _ => by simp) _ _).trans (by simp)

@[simp] theorem State.writeEntry_st (e : ErrEntry) : ((s.writeEntry e).site i).st = (s.site i).st := by
  unfold State.writeEntry
  dsimp only
  rw [State.cause_site]
  (repeat' split) <;> simp

@[simp] theorem State.errDrain_st : (s.errDrain.site i).st = (s.site i).st := by
  unfold State.errDrain
  (repeat' split) <;> simp

@[simp] theorem State.newEntry_st (e : ErrEntry) : ((s.newEntry e).site i).st = (s.site i).st := by
  unfold State.newEntry
  dsimp only
  (repeat' split) <;> simp

/-- Raising an error leaves the burst state of every site. -/
@[simp] theorem State.raiseAt_st (tt code ty inst : Nat) (site : Option Nat) (detail : Nat) (tr perm : Bool) :
    ((s.raiseAt tt code ty inst site detail tr perm).site i).st = (s.site i).st := by
  unfold State.raiseAt State.closeDue
  dsimp only
  split <;> simp

@[simp] theorem State.raise_st (code ty inst : Nat) (site : Option Nat) (detail : Nat) :
    ((s.raise code ty inst site detail).site i).st = (s.site i).st :=
  s.raiseAt_st i ..

@[simp] theorem State.siteCpl_st (j : Nat) (entry : List Byte) : ((s.siteCpl j entry).site i).st = (s.site i).st := by
  unfold State.siteCpl State.postCpl
  dsimp only
  (repeat' split) <;> simp

end

/-- The source page of an error, a transient included, counts it, saturating, and keeps its code. -/
theorem State.raiseAt_hdr_source {ty inst : Nat} (hne : pageKey ty inst ≠ pageKey Ty.err 0) (s : State) (tt code : Nat)
    (site : Option Nat) (detail : Nat) (tr perm : Bool) :
    (s.raiseAt tt code ty inst site detail tr perm).hdr ty inst
      = { s.hdr ty inst with errCount := satAdd sat16 (s.hdr ty inst).errCount 1, lastCode := code } := by
  unfold State.raiseAt
  dsimp only
  split <;> simp [State.newEntry_hdr_of_ne_err hne]

theorem pageKey_te_ne_err (e : Nat) : pageKey Ty.te e ≠ pageKey Ty.err 0 := by
  simp only [pageKey, Ty.te, Ty.err]
  omega

/-- A cause that is set reads 1. -/
theorem State.cause_irqStatus {m k : Nat} (hm : m.testBit k = true) (s : State) (ty inst : Nat) :
    ((s.cause ty inst m).hdr ty inst).irqStatus.testBit k = true := by
  rw [State.cause_hdr, Nat.testBit_or, hm, Bool.or_true]

/-! ### Entry to ABORTED (02 R38) -/

section
variable (s : State)

/-- Entry to ABORTED takes a site's segments from an engine's deque and re-queue slot, and leaves the rest of the engine. -/
theorem State.abortSiteAt_te_keep {α : Type} {f : Eng → α} (hf : ∀ x d sl, f { x with deque := d, slot := sl } = f x)
    (st code t e : Nat) : f ((s.abortSiteAt st code t).te e) = f (s.te e) := by
  have hclear : ∀ u : State, f ((u.clearDeques st).te e) = f (u.te e) := fun u => by
    refine (forEach_keep (fun t => f (t.te e)) _ (fun j t => ?_) _ _).trans rfl
    rw [State.modTe_te]
    split
    · exact hf ..
    · rfl
  unfold State.abortSiteAt
  split
  · rfl
  · dsimp only [State.burstCplAt, State.raiseBurst]
    rw [State.cause_te, State.raise_te, (State.siteCpl_only _ _ _).te (by decide),
      (Only.forEach (fun ch t => t.modChan_only ch _) _ _).te (by decide), State.resetBarriers, State.modSite_te,
      (State.discardQueues_only _ _).te (by decide), hclear]
    rfl

/-- A site with a burst under way enters ABORTED. -/
theorem State.abortSiteAt_st {st : Nat} (hgoing : s.siteGoing st = true) (code t : Nat) :
    ((s.abortSiteAt st code t).site st).st = .aborted := by
  have hst : ¬ ((s.site st).st ≠ .running ∧ (s.site st).st ≠ .draining) := by
    rintro ⟨hrunning, hdraining⟩
    rw [State.siteGoing, beq_false_of_ne hrunning, beq_false_of_ne hdraining] at hgoing
    exact Bool.false_ne_true hgoing
  unfold State.abortSiteAt
  rw [if_neg hst]
  dsimp only [State.burstCplAt, State.raiseBurst]
  rw [State.cause_site, State.raise_st, State.siteCpl_st,
    (Only.forEach (fun ch t => t.modChan_only ch _) _ _).site (by decide), State.resetBarriers, State.modSite_site,
    if_pos rfl, (State.discardQueues_only _ _).site (by decide), (State.clearDeques_only _ _).site (by decide),
    State.modSite_site, if_pos rfl]

end

/-! ### Ends of a segment (07 R140, R142, R143) -/

theorem Eng.mkToken_cls (x : Eng) (cls : Nat) (live : Bool) : (x.mkToken cls live).cls = cls := by
  unfold Eng.mkToken
  (repeat' split) <;> rfl

/-- The token of an engine that has begun its segment keeps the interrupted micro-address: in a handler, that of the point
the handler interrupted. -/
theorem Eng.mkToken_upc {x : Eng} (htaking : x.taking = false) (cls : Nat) (live : Bool) :
    (x.mkToken cls live).upc = if x.handler then x.token.upc else x.upc := by
  simp only [Eng.mkToken, htaking]
  split <;> rfl

section
variable (s : State)

/-- Posting a block changes of an engine only the block and the count of blocks. -/
theorem State.blockPost_te_keep {α : Type} {f : Eng → α} (hf : ∀ x a n, f { x with full := a, posted := n } = f x)
    (e j : Nat) : f ((s.blockPost e).te j) = f (s.te j) := by
  unfold State.blockPost
  dsimp only
  split
  · split
    · rfl
    · rw [State.modTe_te, (Only.foldl (fun t p => t.modChan_only (Prod.fst p) _) _ _).te (by decide)]
      split
      · exact hf ..
      · rfl
  · rfl

/-- An engine whose site no longer runs has no block to post. -/
theorem State.blockPost_of_not_going {e : Nat} {g : Seg} (hcur : (s.te e).cur = some g)
    (hstopped : s.siteGoing g.site = false) : s.blockPost e = s := by
  unfold State.blockPost
  dsimp only
  split
  · next h a hh hfull =>
    obtain rfl : g = h := Option.some.inj (hcur.symm.trans hh)
    exact if_pos (.inl (by simp [hstopped]))
  · rfl

theorem State.endSeg_te (e : Nat) :
    ((s.endSeg e).te e).cur = none ∧ ((s.endSeg e).te e).token = { (s.te e).token with live := false }
      ∧ ((s.endSeg e).te e).deque = (s.te e).deque := by
  have htoken := s.blockPost_te_keep (f := Eng.token) (fun _ _ _ => rfl) e e
  have hdeque := s.blockPost_te_keep (f := Eng.deque) (fun _ _ _ => rfl) e e
  simp [State.endSeg, Eng.endBusy, htoken, hdeque]

/-- The fate of a segment changes of an engine only its deque and its re-queue slot. -/
theorem State.fate_te_keep {α : Type} {f : Eng → α} (hf : ∀ x d sl, f { x with deque := d, slot := sl } = f x)
    (e : Nat) (g : Seg) (j : Nat) : f ((s.fate e g).te j) = f (s.te j) := by
  have hrequeue : ∀ tail, f ((s.requeue e tail g).te j) = f (s.te j) := fun tail => by
    rw [State.requeue, State.modTe_te]
    split
    · split <;> exact hf ..
    · rfl
  have habort := fun code => s.abortSiteAt_te_keep hf g.site code s.now j
  unfold State.fate State.abortSite
  dsimp only
  split
  · rfl
  split
  · exact habort _
  split
  · exact hrequeue true
  split
  · exact hrequeue false
  · exact habort _

/-- A relocatable segment with its lead still to come goes to the tail of the engine's deque. -/
theorem State.fate_requeued {e : Nat} {g : Seg} (hgoing : s.siteGoing g.site = true) (htethered : g.tethered = false)
    (hreloc : g.reloc = true) (hlead : ttLe (s.now + (s.site g.site).lead * fsNs + 60 * fsNs) g.startTt = true) :
    s.fate e g = s.requeue e true g := by
  simp [State.fate, hgoing, htethered, hreloc, hlead]

/-- A relocatable segment whose lead has passed aborts its site. -/
theorem State.fate_late {e : Nat} {g : Seg} (hgoing : s.siteGoing g.site = true) (htethered : g.tethered = false)
    (hreloc : g.reloc = true) (hlead : ttLe (s.now + (s.site g.site).lead * fsNs + 60 * fsNs) g.startTt = false) :
    s.fate e g = s.abortSite g.site Code.burstAbortLate := by
  simp [State.fate, hgoing, htethered, hreloc, hlead]

end

/-! ### Transients of an engine (18 R383, R384; 07 R144) -/

section
variable (s : State) (e code : Nat) (site : Option Nat) (addr : Nat)

/-- A transient that is no permanent fault of its engine is logged and counted, and queues a reload. -/
theorem State.engTransient_of_recoverable (hperm : s.permanent (unitKey kEngine e) false = false)
    (hkept : (s.fault (unitKey kEngine e)).retired = false) :
    s.engTransient e code site addr
      = ((s.raiseAt s.now code Ty.te e site addr true false).modFault (unitKey kEngine e)
          (fun f => { f with times := s.now :: f.times })).queueReload e code site addr := by
  simp [State.engTransient, State.transient, State.transientAt, hperm, hkept]

/-- A transient that is a permanent fault of its engine, a failed retry included, retires it. -/
theorem State.transient_retires_engine (hkept : (s.fault (unitKey kEngine e)).retired = false) (hold : Bool) {t : State}
    (ht : s.transient kEngine e code Ty.te e site addr true hold = t) :
    (t.hdr Ty.te e).retired = true ∧ (t.fault (unitKey kEngine e)).retired = true := by
  have hfault : ∀ u : State, ((u.markRetired (unitKey kEngine e)).fault (unitKey kEngine e)).retired = true := fun u => by
    rw [State.markRetired, (State.norWrite_only _ 6).fault (by decide)]
    simp
  subst ht
  simp only [State.transient, State.transientAt, hkept, State.permanent, Bool.true_or, State.retireUnit, if_true,
    if_false, Bool.false_eq_true]
  refine ⟨?_, ?_⟩
  · rw [State.cause_hdr, State.raise_hdr_source (pageKey_te_ne_err e), State.modHdr_hdr]
  · rw [State.cause_fault, State.raise_fault, State.modHdr_fault]
    exact hfault _

/-- What a transient leaves that is no permanent fault: a reload queued, the code counted on the engine's page. -/
theorem State.engTransient_spec (hperm : s.permanent (unitKey kEngine e) false = false)
    (hkept : (s.fault (unitKey kEngine e)).retired = false) {t : State} (ht : s.engTransient e code site addr = t) :
    t.te e = { s.te e with reload := true, reloadCode := code, reloadSite := site, reloadAddr := addr }
      ∧ (t.rgn (rgnOfTe e)).reloads = (s.rgn (rgnOfTe e)).reloads ++ [e]
      ∧ t.hdr Ty.te e = { s.hdr Ty.te e with errCount := satAdd sat16 (s.hdr Ty.te e).errCount 1, lastCode := code }
      ∧ (∀ i, (t.site i).st = (s.site i).st) ∧ Only ([.faults, .tes, .rgns] ++ errorParts) s t := by
  subst ht
  rw [s.engTransient_of_recoverable e code site addr hperm hkept]
  refine ⟨by simp [State.queueReload], by simp [State.queueReload], ?_, fun i => by simp [State.queueReload], ?_⟩
  · simpa [State.queueReload] using s.raiseAt_hdr_source (pageKey_te_ne_err e) s.now code site addr true false
  · refine Only.trans ?_ ((State.queueReload_only _ e code site addr).mono (by decide))
    exact ((s.raiseAt_only _ _ _ _ _ _ _ _).mono (by decide)).trans ((State.modFault_only _ _ _).mono (by decide))

end

/-! ### Interrupts (07 R137, R138) -/

section
variable (s : State) (e : Nat)

theorem exec_engineInterruptTake (he : e < nEng) : exec (.engineInterruptTake e) s = .next (s.interruptTake e) :=
  onUnit_of _ _ (decide_eq_true he)

theorem State.enterHandler_te (cls entry : Nat) (ev : Evt) (f : Eng → Eng) :
    (s.enterHandler e cls entry ev f).te e = f { s.te e with
      token := (s.te e).mkToken cls true, handler := true, evt := ev, evtWord := s.freeVal % 2 ^ 32, upc := entry } := by
  simp [State.enterHandler]

theorem State.enterHandler_only (cls entry : Nat) (ev : Evt) (f : Eng → Eng) :
    Only [.tes, .free] s (s.enterHandler e cls entry ev f) :=
  ((s.modTe_only e _).mono (by decide)).trans ((State.useFree_only _).mono (by decide))

end

section
variable {s : State} {e : Nat} {g : Seg} (hcur : (s.te e).cur = some g) (htaking : (s.te e).taking = false)
  (hhandler : (s.te e).handler = false) (hsafe : uSafe (s.uword e) = true) (hgoing : s.siteGoing g.site = true)
include hcur htaking hhandler hsafe hgoing

theorem State.interruptTake_sync (hsync : (s.te e).pendSync = true) :
    s.interruptTake e
      = s.enterHandler e 3 0x008 { cls := 3, flag := true } (fun x => { x with pendSync := false }) := by
  simp [State.interruptTake, hcur, htaking, hhandler, hsafe, hgoing, hsync]

theorem State.interruptTake_match (hsync : (s.te e).pendSync = false) {b : Bool} (hmatch : (s.te e).pendMatch = some b) :
    s.interruptTake e
      = s.enterHandler e 4 0x010 { cls := 4, flag := b } (fun x => { x with pendMatch := none }) := by
  simp [State.interruptTake, hcur, htaking, hhandler, hsafe, hgoing, hsync, hmatch]

theorem State.interruptTake_trigger (hsync : (s.te e).pendSync = false) (hmatch : (s.te e).pendMatch = none)
    {line tt : Nat} {rest : List (Nat × Option Nat)} (htrig : (s.te e).pendTrig = (line, some tt) :: rest) :
    s.interruptTake e
      = s.enterHandler e 5 0x018 { cls := 5, flag := s.stampCounts g (s.te e) line tt, line := line, stamp := tt }
          (fun x => { x with pendTrig := Tbl.set none x.pendTrig line none }) := by
  simp [State.interruptTake, hcur, htaking, hhandler, hsafe, hgoing, hsync, hmatch, htrig]

theorem State.interruptTake_unstamped (hsync : (s.te e).pendSync = false) (hmatch : (s.te e).pendMatch = none)
    (htrig : ∀ p ∈ (s.te e).pendTrig.head?, p.2 = none) : s.interruptTake e = s := by
  match hpend : (s.te e).pendTrig with
  | [] => simp [State.interruptTake, hcur, htaking, hhandler, hsafe, hgoing, hsync, hmatch, hpend]
  | (line, none) :: rest => simp [State.interruptTake, hcur, htaking, hhandler, hsafe, hgoing, hsync, hmatch, hpend]
  | (line, some tt) :: rest => simp [hpend] at htrig

/-- SYNC before MATCH before TRIGGER: what the taken interrupt leaves of the engine. -/
theorem State.interruptTake_spec {t : State} (ht : s.interruptTake e = t) :
    ((s.te e).pendSync = true → (t.te e).upc = 0x008 ∧ (t.te e).pendSync = false ∧ (t.te e).pendMatch = (s.te e).pendMatch)
      ∧ ((s.te e).pendSync = false → (s.te e).pendMatch.isSome = true → (t.te e).upc = 0x010 ∧ (t.te e).pendMatch = none)
      ∧ ((s.te e).pendSync = false → (s.te e).pendMatch = none → ∀ (line tt : Nat) (rest : List (Nat × Option Nat)),
          (s.te e).pendTrig = (line, some tt) :: rest → (t.te e).upc = 0x018
            ∧ Tbl.get none (t.te e).pendTrig line = none ∧ (t.te e).evt.line = line ∧ (t.te e).evt.stamp = tt)
      ∧ ((s.te e).pending = true → (∀ p ∈ (s.te e).pendTrig, p.2.isSome = true) → (t.te e).handler = true
          ∧ (t.te e).token.upc = (s.te e).upc ∧ (t.te e).token.ustack = (s.te e).ustack ∧ (t.te e).token.live = true)
      ∧ ((s.te e).pending = false → t = s) ∧ Only [.tes, .free] s t := by
  subst ht
  cases hsync : (s.te e).pendSync with
  | true =>
    rw [State.interruptTake_sync hcur htaking hhandler hsafe hgoing hsync, State.enterHandler_te]
    refine ⟨?_, ?_, ?_, ?_, ?_, s.enterHandler_only e _ _ _ _⟩ <;>
      simp [Eng.pending, Eng.mkToken, htaking, hhandler, hsync]
  | false =>
    cases hmatch : (s.te e).pendMatch with
    | some b =>
      rw [State.interruptTake_match hcur htaking hhandler hsafe hgoing hsync hmatch, State.enterHandler_te]
      refine ⟨?_, ?_, ?_, ?_, ?_, s.enterHandler_only e _ _ _ _⟩ <;>
        simp [Eng.pending, Eng.mkToken, htaking, hhandler, hmatch]
    | none =>
      match htrig : (s.te e).pendTrig with
      | (line, some tt) :: rest =>
        rw [State.interruptTake_trigger hcur htaking hhandler hsafe hgoing hsync hmatch htrig, State.enterHandler_te]
        refine ⟨?_, ?_, ?_, ?_, ?_, s.enterHandler_only e _ _ _ _⟩ <;>
          simp +contextual [Eng.pending, Eng.mkToken, htaking, hhandler, htrig]
      | (line, none) :: rest =>
        rw [State.interruptTake_unstamped hcur htaking hhandler hsafe hgoing hsync hmatch (by simp [htrig])]
        refine ⟨?_, ?_, ?_, ?_, ?_, Only.refl _ s⟩ <;> simp [hsync]
      | [] =>
        rw [State.interruptTake_unstamped hcur htaking hhandler hsafe hgoing hsync hmatch (by simp [htrig])]
        refine ⟨?_, ?_, ?_, ?_, ?_, Only.refl _ s⟩ <;> simp [Eng.pending, hsync, hmatch, htrig]

end

/-! ### ABORT (07 R137, R140) -/

/-- An engine records its token under a class and has no segment any more. -/
def State.stopWithToken (s : State) (e cls : Nat) : State :=
  (s.modTe e (fun x => { x with token := x.mkToken cls false })).endSeg e

section
variable {s : State} {e : Nat} {g : Seg}

theorem exec_abortTake (he : e < nEng) : exec (.abortTake e) s = .next (s.abortTake e) :=
  onUnit_of _ _ (decide_eq_true he)

theorem State.stopWithToken_te (s : State) (e cls : Nat) :
    ((s.stopWithToken e cls).te e).cur = none
      ∧ ((s.stopWithToken e cls).te e).token = { (s.te e).mkToken cls false with live := false }
      ∧ ((s.stopWithToken e cls).te e).deque = (s.te e).deque := by
  obtain ⟨hcur, htoken, hdeque⟩ := (s.modTe e (fun x => { x with token := x.mkToken cls false })).endSeg_te e
  refine ⟨hcur, htoken.trans ?_, hdeque.trans ?_⟩ <;> simp

theorem State.stopWithToken_only (s : State) (e cls : Nat) : Only [.tes, .chans] s (s.stopWithToken e cls) :=
  ((s.modTe_only e _).mono (by decide)).trans (State.endSeg_only _ e)

section
variable (hcur : (s.te e).cur = some g)
include hcur

theorem State.abortTake_going (hgoing : s.siteGoing g.site = true) : s.abortTake e = s := by
  simp [State.abortTake, hcur, hgoing]

theorem State.abortTake_stops (hstopped : s.siteGoing g.site = false)
    (hpoint : (s.te e).handler = true ∨ uSafe (s.uword e) = true) : s.abortTake e = s.stopWithToken e 2 := by
  have hpoint : ((s.te e).taking || (s.te e).handler || uSafe (s.uword e)) = true := by
    rw [Bool.or_assoc, (Bool.or_eq_true ..).mpr hpoint, Bool.or_true]
  simp [State.abortTake, hcur, hstopped, hpoint, State.stopWithToken]

/-- A segment of a site that no longer runs ends without posting a block. -/
theorem State.stopWithToken_only_tes (hstopped : s.siteGoing g.site = false) (cls : Nat) :
    Only [.tes] s (s.stopWithToken e cls) := by
  have hcur : ((s.modTe e (fun x => { x with token := x.mkToken cls false })).te e).cur = some g := by simpa using hcur
  rw [State.stopWithToken, State.endSeg, State.blockPost_of_not_going _ hcur hstopped]
  exact (s.modTe_only e _).trans (State.modTe_only _ e _)

/-! ### Machine checks (07 R142, R143) -/

theorem State.abandonSeg_eq (cls : Nat) :
    ∃ n, s.abandonSeg e cls = (s.stopWithToken e cls).fate e { g with posted := n } := by
  have hcur : ((s.modTe e (fun x => { x with token := x.mkToken cls false })).te e).cur = some g := by simpa using hcur
  unfold State.abandonSeg State.leaveSeg
  dsimp only
  rw [hcur]
  exact ⟨_, rfl⟩

theorem State.abandonSeg_te (cls : Nat) :
    ((s.abandonSeg e cls).te e).cur = none ∧ ((s.abandonSeg e cls).te e).token.cls = cls := by
  obtain ⟨n, heq⟩ := State.abandonSeg_eq hcur cls
  obtain ⟨hnone, htoken, -⟩ := s.stopWithToken_te e cls
  rw [heq]
  refine ⟨(State.fate_te_keep _ (f := Eng.cur) (fun _ _ _ => rfl) e _ e).trans hnone, ?_⟩
  rw [State.fate_te_keep _ (f := fun x => x.token.cls) (fun _ _ _ => rfl) e _ e, htoken]
  exact Eng.mkToken_cls ..

section
variable (hgoing : s.siteGoing g.site = true) (htethered : g.tethered = false) (hreloc : g.reloc = true)
include hgoing htethered hreloc

/-- An abandoned relocatable segment with its lead still to come stands at the tail of its engine's deque, its site as it
was. -/
theorem State.abandonSeg_requeued (cls : Nat)
    (hlead : ttLe (s.now + (s.site g.site).lead * fsNs + 60 * fsNs) g.startTt = true) (hroom : (s.te e).deque.length < 64) :
    (∃ r : Seg, ((s.abandonSeg e cls).te e).deque = (s.te e).deque ++ [r] ∧ r.raw = g.raw ∧ r.queue = g.queue
      ∧ r.eff = g.eff) ∧ (s.abandonSeg e cls).site g.site = s.site g.site := by
  obtain ⟨n, heq⟩ := State.abandonSeg_eq hcur cls
  have honly := s.stopWithToken_only e cls
  have hsite := honly.site (by decide) g.site
  have hgoing : (s.stopWithToken e cls).siteGoing g.site = true := by simpa [State.siteGoing, hsite] using hgoing
  obtain ⟨-, -, hdeque⟩ := s.stopWithToken_te e cls
  rw [heq, State.fate_requeued (g := { g with posted := n }) _ hgoing htethered hreloc
    (by rw [honly.now (by decide), hsite]; exact hlead)]
  refine ⟨⟨{ g with posted := n }, ?_, rfl, rfl, rfl⟩, ((State.requeue_only _ e true _).site (by decide) _).trans hsite⟩
  simp [State.requeue, hdeque, Nat.not_le.mpr hroom]

/-- An abandoned relocatable segment whose lead has passed aborts its site. -/
theorem State.abandonSeg_late (cls : Nat)
    (hlead : ttLe (s.now + (s.site g.site).lead * fsNs + 60 * fsNs) g.startTt = false) :
    ((s.abandonSeg e cls).site g.site).st = .aborted := by
  obtain ⟨n, heq⟩ := State.abandonSeg_eq hcur cls
  have honly := s.stopWithToken_only e cls
  have hsite := honly.site (by decide) g.site
  have hgoing : (s.stopWithToken e cls).siteGoing g.site = true := by simpa [State.siteGoing, hsite] using hgoing
  rw [heq, State.fate_late (g := { g with posted := n }) _ hgoing htethered hreloc
    (by rw [honly.now (by decide), hsite]; exact hlead)]
  exact State.abortSiteAt_st _ hgoing _ _

end

end

end

/-- The code of a machine check of a kind (07 R143). -/
def mcCode (kind : Nat) : Nat := if kind = 0 then Code.mcParity else if kind = 1 then Code.mcDispatch else Code.mcUstack

/-- The engine's count of machine checks of a kind goes up. -/
def Eng.mcCounted (kind : Nat) (x : Eng) : Eng :=
  { x with
    mcPar := if kind = 0 then satAdd sat8 x.mcPar 1 else x.mcPar
    mcDisp := if kind = 1 then satAdd sat8 x.mcDisp 1 else x.mcDisp
    mcUstk := if kind = 2 then satAdd sat8 x.mcUstk 1 else x.mcUstk }

/-- A machine check before its transient: the segment abandoned, the check counted, the cause MCHECK set. -/
def State.mcStopped (s : State) (e kind : Nat) : State :=
  ((s.abandonSeg e 1).modTe e (Eng.mcCounted kind)).cause Ty.te e 1

section
variable {s : State} {e k : Nat} {g : Seg}

theorem State.mcStopped_te (s : State) (e k : Nat) :
    (s.mcStopped e k).te e = ((s.abandonSeg e 1).te e).mcCounted k := by
  simp [State.mcStopped]

theorem State.mcStopped_site (s : State) (e k i : Nat) : (s.mcStopped e k).site i = (s.abandonSeg e 1).site i := by
  simp [State.mcStopped]

theorem State.mcStopped_irqStatus (s : State) (e k : Nat) : ((s.mcStopped e k).hdr Ty.te e).irqStatus.testBit 0 = true :=
  State.cause_irqStatus (by decide) _ Ty.te e

theorem State.mcStopped_only (s : State) (e k : Nat) : Only burstParts s (s.mcStopped e k) :=
  ((s.abandonSeg_only e 1).trans ((State.modTe_only _ e _).mono (by decide))).trans
    ((State.cause_only _ Ty.te e 1).mono (by decide))

/-- What the transient of a machine check leaves that is no permanent fault. -/
theorem State.mcStopped_engTransient_spec (hperm : s.permanent (unitKey kEngine e) false = false)
    (hkept : (s.fault (unitKey kEngine e)).retired = false) {code addr : Nat} {site : Option Nat} {t : State}
    (ht : (s.mcStopped e k).engTransient e code site addr = t) :
    t.te e = { ((s.abandonSeg e 1).te e).mcCounted k with
        reload := true, reloadCode := code, reloadSite := site, reloadAddr := addr }
      ∧ (t.rgn (rgnOfTe e)).reloads = (s.rgn (rgnOfTe e)).reloads ++ [e]
      ∧ (t.hdr Ty.te e).irqStatus.testBit 0 = true ∧ (t.hdr Ty.te e).lastCode = code
      ∧ (∀ i, (t.site i).st = ((s.abandonSeg e 1).site i).st) ∧ Only (.faults :: .rgns :: burstParts) s t := by
  have honly := s.mcStopped_only e k
  obtain ⟨hte, hreloads, hhdr, hst, honly'⟩ := (s.mcStopped e k).engTransient_spec e code site addr
    ((honly.permanent (by decide) (by decide) _ _).trans hperm) (by rw [honly.fault (by decide), hkept]) ht
  rw [State.mcStopped_te] at hte
  rw [honly.rgn (by decide)] at hreloads
  refine ⟨hte, hreloads, ?_, by rw [hhdr], fun i => ?_, (honly.mono (by decide)).trans (honly'.mono (by decide))⟩
  · rw [hhdr]
    exact s.mcStopped_irqStatus e k
  · rw [hst, State.mcStopped_site]

/-- A machine check of an engine in service that executes a segment: a transient after the stop. -/
theorem exec_machineCheck (he : e < nEng) (hk : k < 3) (hin : s.inService e = true) (hreload : (s.te e).reload = false)
    (hon : s.stage = .on) (hcur : (s.te e).cur = some g) :
    exec (.machineCheck e k) s = .next ((s.mcStopped e k).engTransient e (mcCode k) (some g.site)
      (if k = 1 then (s.te e).op else (s.te e).upc)) := by
  refine (onUnit_of _ _ (decide_eq_true ⟨he, hk⟩)).trans (congrArg _ ?_)
  simp [State.machineCheck, hin, hreload, hon, hcur, State.mcStopped, mcCode]
  rfl

end

/-! ### Reloads (07 R144) -/

section
variable {s : State} {e : Nat} (hhead : (s.rgn (rgnOfTe e)).reloads.head? = some e)
  (hdone : (s.rgn (rgnOfTe e)).reloadAt + 40 * fsUs ≤ s.up) (hidle : (s.rgn (rgnOfTe e)).instOn = false)

/-- The engine's stores are written and its reload leaves the loader's queue. -/
def State.reloaded (s : State) (e : Nat) (ok : Bool) : State :=
  ((s.loadStore e).nextReload (rgnOfTe e) ok).modTe e (fun x => { x with
    reload := false, lastSite := none, upc := 0, ustack := [] })

theorem State.reloaded_only (s : State) (e : Nat) (ok : Bool) : Only [.tes, .rgns, .caches] s (s.reloaded e ok) :=
  (((s.loadStore_only e).mono (by decide)).trans ((State.nextReload_only _ _ ok).mono (by decide))).trans
    ((State.modTe_only _ e _).mono (by decide))

theorem State.reloaded_te (s : State) (e : Nat) (ok : Bool) :
    (s.reloaded e ok).te e = { s.te e with reload := false, lastSite := none, upc := 0, ustack := [] } := by
  rw [State.reloaded, State.modTe_te, if_pos rfl, (State.nextReload_only _ _ ok).te (by decide),
    (s.loadStore_only e).te (by decide)]

theorem State.reloaded_reloads (s : State) (e : Nat) (ok : Bool) :
    ((s.reloaded e ok).rgn (rgnOfTe e)).reloads = (s.rgn (rgnOfTe e)).reloads.drop 1 := by
  rw [State.reloaded, State.modTe_rgn, State.nextReload, State.modRgn_rgn, if_pos rfl,
    (s.loadStore_only e).rgn (by decide)]

/-- The store holds the region's verified copy, with parity. -/
theorem State.reloaded_store (s : State) (e : Nat) (ok : Bool) {i : McImage} (hi : i = Tbl.get {} s.micro (rgnOfTe e)) :
    (s.reloaded e ok).store e = { words := i.words.map withParity, entries := i.dispatch.map entryParity } := by
  subst hi
  exact Tbl.get_set_same ..

section
include hhead hdone hidle

theorem State.reloadDone_matched : s.reloadDone e false = (s.reloaded e true).cause Ty.te e 2 := by
  simp [State.reloadDone, State.reloaded, hhead, Nat.not_lt.mpr hdone, hidle]

theorem State.reloadDone_mismatched :
    s.reloadDone e true
      = ((s.reloaded e false).modRgn (rgnOfTe e) (fun y => { y with lastErr := (s.te e).reloadCode })).transient kEngine e
          (s.te e).reloadCode Ty.te e (s.te e).reloadSite (s.te e).reloadAddr true false := by
  simp [State.reloadDone, State.reloaded, hhead, Nat.not_lt.mpr hdone, hidle]

end

theorem exec_reloadDone (he : e < nEng) (mismatch : Bool) :
    exec (.reloadDone e mismatch) s = .next (s.reloadDone e mismatch) :=
  onUnit_of _ _ (decide_eq_true he)

end

/-! ### The scan of idle engines (07 R145) -/

theorem exec_idleScan {e : Nat} (he : e < nEng) (bad : Bool) (s : State) :
    exec (.idleScan e bad) s = .next (s.idleScan e bad) :=
  onUnit_of _ _ (decide_eq_true he)

theorem State.idleScan_good (s : State) (e : Nat) : s.idleScan e false = s := by
  simp [State.idleScan]

/-- The engine's count of parity errors found by its scan goes up. -/
def Eng.scanCounted (x : Eng) : Eng := { x with mcScan := satAdd sat8 x.mcScan 1 }

theorem State.idleScan_bad {s : State} {e : Nat} (hon : s.stage = .on) (hin : s.inService e = true)
    (hreload : (s.te e).reload = false) (hcur : (s.te e).cur = none) :
    s.idleScan e true
      = ((s.modTe e Eng.scanCounted).engTransient e Code.mcScan none (s.freeVal % 4096)).useFree := by
  simp [State.idleScan, hon, hin, hreload, hcur]
  rfl

/-- Settles O42: each clause from the equation of its command and the rules of the operations that the command is made of. -/
theorem interruptsAndMachineChecks : Obligations.InterruptsAndMachineChecks := by
  refine ⟨fun s e g he hcur htaking hhandler hsafe hgoing => ?_, fun s e g he hcur => ⟨fun hstopped htaking hpoint => ?_,
    fun hgoing => ?_⟩, fun s e k g he hk hin hreload hon hcur hperm hkept => ?_, fun s e he hhead hdone hidle => ⟨?_,
    fun hkept => ?_⟩, fun s e he => ?_, fun s e he hon hin hreload hcur hperm hkept => ?_⟩
  · exact ⟨_, exec_engineInterruptTake s e he, State.interruptTake_spec hcur htaking hhandler hsafe hgoing rfl⟩
  · obtain ⟨hnone, htoken, -⟩ := s.stopWithToken_te e 2
    refine ⟨_, exec_abortTake he, ?_⟩
    rw [State.abortTake_stops hcur hstopped hpoint, htoken]
    exact ⟨hnone, Eng.mkToken_cls .., Eng.mkToken_upc htaking .., State.stopWithToken_only_tes hcur hstopped 2⟩
  · rw [exec_abortTake he, State.abortTake_going hcur hgoing]
  · obtain ⟨hnone, hcls⟩ := State.abandonSeg_te hcur 1
    obtain ⟨hte, hreloads, hirq, hcode, hst, honly⟩ := State.mcStopped_engTransient_spec (k := k) (code := mcCode k)
      (site := some g.site) (addr := if k = 1 then (s.te e).op else (s.te e).upc) hperm hkept rfl
    refine ⟨_, exec_machineCheck he hk hin hreload hon hcur, ?_⟩
    rw [hte, hst]
    refine ⟨hnone, hcls, rfl, hreloads, hirq, hcode, fun hgoing htethered hreloc hlead hroom => ?_,
      fun hgoing htethered hreloc => State.abandonSeg_late hcur hgoing htethered hreloc 1, honly⟩
    obtain ⟨hdeque, hsite⟩ := State.abandonSeg_requeued hcur hgoing htethered hreloc 1 hlead hroom
    exact ⟨hdeque, congrArg Site.st hsite⟩
  · refine ⟨_, exec_reloadDone he false, ?_⟩
    rw [State.reloadDone_matched hhead hdone hidle, State.cause_te, State.reloaded_te, State.cause_rgn]
    refine ⟨rfl, rfl, rfl, rfl, s.reloaded_reloads e true, State.cause_irqStatus (by decide) _ Ty.te e,
      fun i hi => ?_, ((s.reloaded_only e true).mono (by decide)).trans ((State.cause_only _ _ _ _).mono (by decide))⟩
    rw [(State.cause_only _ Ty.te e 2).store (by decide)]
    exact s.reloaded_store e true hi
  · refine ⟨_, exec_reloadDone he true, State.transient_retires_engine _ e (s.te e).reloadCode (s.te e).reloadSite
      (s.te e).reloadAddr ?_ false (State.reloadDone_mismatched hhead hdone hidle).symm⟩
    rw [(State.modRgn_only _ _ _).fault (by decide), (s.reloaded_only e false).fault (by decide)]
    exact hkept
  · rw [exec_idleScan he, s.idleScan_good]
  · have honly := s.modTe_only e Eng.scanCounted
    obtain ⟨hte, -, hhdr, -, honly'⟩ := (s.modTe e Eng.scanCounted).engTransient_spec e Code.mcScan none (s.freeVal % 4096)
      ((honly.permanent (by decide) (by decide) _ _).trans hperm) hkept rfl
    refine ⟨_, exec_idleScan he true s, ?_⟩
    rw [State.idleScan_bad hon hin hreload hcur, State.useFree_te, State.useFree_hdr, hte, hhdr, State.modTe_te, if_pos rfl]
    exact ⟨rfl, rfl, rfl, ((honly.mono (by decide)).trans (honly'.mono (by decide))).trans
      ((State.useFree_only _).mono (by decide))⟩

end Sys2Proof.Machine
end

section
/-! Proofs of the statements of the family 08_scheduling_and_lead_time.md, and the rules about the order of times, the pin event
FIFOs and a thief's probes they rest on. -/

namespace Sys2Proof.Machine

/-! ### The order of times (03 R69) -/

/-- A time at or before another does not lie after it. -/
theorem ttLt_of_ttLe {a b : Nat} (h : ttLe a b = true) : ttLt b a = false := by
  rw [ttLe, decide_eq_true_eq] at h
  rw [ttLt, decide_eq_false_iff_not]
  unfold ttDiff sx at h ⊢
  split at h <;> split <;> omega

/-- Times of the first half of the range are ordered as numbers. -/
theorem ttLt_of_lt_half {a b : Nat} (ha : a < 2 ^ 63) (hb : b < 2 ^ 63) : ttLt a b = decide (a < b) := by
  rw [ttLt, decide_eq_decide]
  unfold ttDiff sx
  split <;> omega

/-! ### Blocks in ascending TT (08 R154) -/

theorem mem_fifoInsert {b x : Block} {l : List Block} : x ∈ fifoInsert b l ↔ x = b ∨ x ∈ l := by
  induction l with
  | nil => simp [fifoInsert]
  | cons y l ih =>
    rw [fifoInsert]
    split
    · exact List.mem_cons
    · rw [List.mem_cons, ih, List.mem_cons, or_left_comm]

/-- A block takes its place in ascending TT. -/
theorem fifoInsert_pairwise {b : Block} {l : List Block} (hhalf : ∀ x ∈ b :: l, x.tt < 2 ^ 63)
    (hsorted : l.Pairwise (fun x y => x.tt ≤ y.tt)) : (fifoInsert b l).Pairwise (fun x y => x.tt ≤ y.tt) := by
  induction l with
  | nil => exact List.pairwise_singleton ..
  | cons y l ih =>
    obtain ⟨hfirst, hrest⟩ := List.pairwise_cons.mp hsorted
    have hbefore := ttLt_of_lt_half (hhalf b (by simp)) (hhalf y (by simp))
    rw [fifoInsert]
    split
    · next hlt =>
      have hby : b.tt < y.tt := by simpa [hbefore] using hlt
      refine List.pairwise_cons.mpr ⟨fun x hx => ?_, hsorted⟩
      rcases List.mem_cons.mp hx with rfl | hx
      · exact Nat.le_of_lt hby
      · exact Nat.le_trans (Nat.le_of_lt hby) (hfirst x hx)
    · next hnlt =>
      have hyb : y.tt ≤ b.tt := by simpa [hbefore] using hnlt
      refine List.pairwise_cons.mpr ⟨fun x hx => ?_, ih (fun x hx => hhalf x ?_) hrest⟩
      · rcases mem_fifoInsert.mp hx with rfl | hx
        · exact hyb
        · exact hfirst x hx
      · rcases List.mem_cons.mp hx with rfl | hx <;> simp [*]

/-! ### What channels and their feeds touch -/

theorem Only.chan {l : List Part} {s t : State} (h : Only l s t) (hl : Part.chans ∉ l) (ch : Nat) : t.chan ch = s.chan ch := by
  have hchans : t.chans = s.chans := h .chans hl
  rw [State.chan, State.chan, hchans]

theorem Only.hdr {l : List Part} {s t : State} (h : Only l s t) (hl : Part.hdrs ∉ l) (ty inst : Nat) :
    t.hdr ty inst = s.hdr ty inst := by
  have hhdrs : t.hdrs = s.hdrs := h .hdrs hl
  rw [State.hdr, State.hdr, hhdrs]

section
variable (s : State)

theorem State.modHist_only (k : Nat) (f : Hist → Hist) : Only [.hists] s (s.modHist k f) := by
  intro p hp
  cases p <;> simp [Part.same] at hp ⊢

theorem State.modFcu_only (r : Nat) (f : Fcu → Fcu) : Only [.fcus] s (s.modFcu r f) := by
  intro p hp
  cases p <;> simp [Part.same] at hp ⊢

theorem State.histFeed_only (ch kind : Nat) (v : Hist → Option Int) : Only [.hists] s (s.histFeed ch kind v) := by
  unfold State.histFeed
  refine Only.of_ite ?_ (Only.refl _ s)
  split
  · exact s.modHist_only _ _
  · exact Only.refl _ s

theorem State.openRec_only (ch : Nat) (b : Block) : Only [.fcus] s (s.openRec ch b) :=
  Only.of_ite (Only.refl _ s) (s.modFcu_only _ _)

theorem State.raisePage_only (code ty inst : Nat) : Only errorParts s (s.raisePage code ty inst) := s.raise_only _ _ _ _ _

end

/-! ### Arrival (08 R154 to R157) -/

/-- Recording a block changes of a channel only its posting records. -/
theorem Chan.record_keep {α : Type} {f : Chan → α} (hf : ∀ c l, f { c with posted := l } = f c) (c : Chan) (b : Block) :
    f (c.record b) = f c := by
  unfold Chan.record
  dsimp only
  split <;> exact hf ..

/-- The block counts as in the FIFO. -/
def Chan.counted (c : Chan) (b : Block) : Chan :=
  { c with inTime := if c.inTime.contains (b.segId, b.seq) then c.inTime else (b.segId, b.seq) :: c.inTime }

theorem Chan.counted_present (c : Chan) (b : Block) : (c.counted b).present b.segId b.seq = true := by
  unfold Chan.present Chan.counted
  dsimp only
  split
  · assumption
  · simp

/-- The block is in the FIFO, in its place, and recorded. -/
def Chan.joined (c : Chan) (b : Block) : Chan := { (c.counted b).record b with fifo := fifoInsert b c.fifo }

theorem Chan.joined_flying (c : Chan) (b : Block) : (c.joined b).flying = c.flying :=
  Chan.record_keep (f := Chan.flying) (fun _ _ => rfl) (c.counted b) b

theorem Chan.joined_present (c : Chan) (b : Block) : (c.joined b).present b.segId b.seq = true :=
  (Chan.record_keep (f := fun c => c.present b.segId b.seq) (fun _ _ => rfl) (c.counted b) b).trans (c.counted_present b)

/-- The block has left the way to the channel; its slack is fed to the histogram unit, unless it arrives again. -/
def State.landed (s : State) (ch : Nat) (b : Block) (rest : List Block) : State :=
  let s1 := s.modChan ch (fun c => { c with flying := rest })
  when (s.siteSt b.site == .running || s.siteSt b.site == .draining) (fun t =>
    when (!((s1.chan ch).postRec b.segId).any (fun r => decide (b.seq < r.next)))
      (fun u => u.histFeed ch 2 (fun _ => some (ttDiff b.deadline s.now))) t) s1

section
variable {s : State} {ch : Nat} {b : Block} {rest : List Block}

theorem State.landed_feeds : Only [.hists] (s.modChan ch (fun c => { c with flying := rest })) (s.landed ch b rest) :=
  Only.of_ite (Only.of_ite (State.histFeed_only _ _ _ _) (Only.refl _ _)) (Only.refl _ _)

theorem State.landed_only : Only [.chans, .hists] s (s.landed ch b rest) :=
  ((s.modChan_only ch _).mono (by decide)).trans (State.landed_feeds.mono (by decide))

theorem State.landed_chan (c : Nat) :
    (s.landed ch b rest).chan c = if c = ch then { s.chan c with flying := rest } else s.chan c :=
  (State.landed_feeds.chan (by decide) c).trans (State.modChan_chan ..)

theorem exec_blockArrive (hch : ch < 192) (hflying : (s.chan ch).flying = b :: rest) :
    exec (.blockArrive ch) s = .next ((s.landed ch b rest).takeBlock ch b) := by
  refine (onUnit_of _ _ (decide_eq_true hch)).trans (congrArg _ ?_)
  dsimp only
  rw [hflying]
  rfl

/-- A block after its deadline is not kept. -/
theorem exec_blockArrive_late (hch : ch < 192) (hflying : (s.chan ch).flying = b :: rest)
    (hlate : ttLt b.deadline s.now = true) : exec (.blockArrive ch) s = .next (s.landed ch b rest) := by
  rw [exec_blockArrive hch hflying]
  exact congrArg _ (if_pos (.inr (.inl (by rw [State.landed_only.now (by decide), hlate]))))

section
variable (hrunning : (s.site b.site).st = .running) (hdeadline : ttLe s.now b.deadline = true)
  (hstart : ttLe (s.site b.site).startT b.tt = true) (hkept : (s.hdr Ty.tg ch).retired = false)
  (hseq : ∀ r, (s.chan ch).postRec b.segId = some r → r.next ≤ b.seq) (hclear : (s.chan ch).overlaps b = false)
include hrunning hdeadline hstart hkept hseq hclear

/-- A block by its deadline, in a running burst, past T_s, in sequence and clear of every other span joins the FIFO. -/
theorem State.takeBlock_joins :
    s.takeBlock ch b = (s.modChan ch (Chan.counted · b)).modChan ch (fun c => { c.record b with fifo := fifoInsert b c.fifo }) := by
  have hchan : (s.modChan ch (Chan.counted · b)).chan ch = (s.chan ch).counted b := by
    rw [State.modChan_chan, if_pos rfl]
  have hwindow : ¬ (((s.site b.site).st ≠ .running ∧ (s.site b.site).st ≠ .draining) ∨ ttLt b.deadline s.now
      ∨ ttLt b.tt (s.site b.site).startT) := by
    simp [hrunning, ttLt_of_ttLe hdeadline, ttLt_of_ttLe hstart]
  have huncut : ¬ ((s.site b.site).st = .draining ∧ (s.site b.site).cut.any (fun t => ttLe t b.tt)) := by
    simp [hrunning]
  have hnew : ¬ (((s.modChan ch (Chan.counted · b)).chan ch).postRec b.segId).any (fun r => decide (b.seq < r.next)) := by
    rw [hchan, Option.any_eq_true]
    rintro ⟨r, hr, hlt⟩
    exact absurd (hseq r hr) (Nat.not_le.mpr (of_decide_eq_true hlt))
  have hfree : ¬ ((s.modChan ch (Chan.counted · b)).chan ch).overlaps b := by
    rw [hchan]
    exact Bool.eq_false_iff.mp hclear
  exact (if_neg hwindow).trans ((if_neg huncut).trans ((if_neg hnew).trans ((if_neg (Bool.eq_false_iff.mp hkept)).trans
    (if_neg hfree))))

theorem exec_blockArrive_joins (hch : ch < 192) (hflying : (s.chan ch).flying = b :: rest) :
    exec (.blockArrive ch) s = .next (((s.landed ch b rest).modChan ch (Chan.counted · b)).modChan ch
      (fun c => { c.record b with fifo := fifoInsert b c.fifo })) := by
  have honly : Only [.chans, .hists] s (s.landed ch b rest) := State.landed_only
  have hchan : (s.landed ch b rest).chan ch = { s.chan ch with flying := rest } := (State.landed_chan ch).trans (if_pos rfl)
  rw [exec_blockArrive hch hflying, State.takeBlock_joins (s := s.landed ch b rest)]
  · rw [honly.site (by decide), hrunning]
  · rw [honly.now (by decide), hdeadline]
  · rw [honly.site (by decide), hstart]
  · rw [honly.hdr (by decide), hkept]
  · rw [hchan]
    exact hseq
  · rw [hchan]
    exact hclear

end

/-- The channel of a block that joins its FIFO, the other channels, and what else is touched. -/
theorem State.landed_joined_spec {t : State} (ht : ((s.landed ch b rest).modChan ch (Chan.counted · b)).modChan ch
      (fun c => { c.record b with fifo := fifoInsert b c.fifo }) = t) :
    t.chan ch = { s.chan ch with flying := rest }.joined b ∧ (∀ c, c ≠ ch → t.chan c = s.chan c)
      ∧ Only [.chans, .hists] s t := by
  subst ht
  refine ⟨?_, fun c hc => ?_, State.landed_only.trans
    (((State.modChan_only _ ch _).trans (State.modChan_only _ ch _)).mono (by decide))⟩
  · rw [State.modChan_chan, if_pos rfl, State.modChan_chan, if_pos rfl, State.landed_chan, if_pos rfl]
    rfl
  · rw [State.modChan_chan, if_neg hc, State.modChan_chan, if_neg hc, State.landed_chan, if_neg hc]

end

/-! ### Release (08 R154, 09 R193) -/

/-- The head of the FIFO has left it; the channel keeps its span (R156). -/
def Chan.released (c : Chan) (b : Block) (rest : List Block) : Chan :=
  { c with fifo := rest, spans := (b.tt, b.tt + c.span 64) :: c.spans }

section
variable {s : State} {ch : Nat} {b : Block} {rest : List Block} (hfifo : (s.chan ch).fifo = b :: rest)
  (hdue : ttLe b.tt s.now = true) (hrunning : (s.site b.site).st = .running)

include hfifo hdue hrunning

/-- On a channel that does not run free the block goes into play, and the FCU opens its record. -/
theorem State.release_plays (hfree : (s.chan ch).frRun = false) :
    s.release ch = ((s.modChan ch (Chan.released · b rest)).modChan ch (fun c => { c with
      play := some { blk := b, k := 0, inert := !(s.hdr Ty.tg ch).en }, hist := (b :: c.hist).take 96, maskRel := c.mask
      maskNow := c.mask || !(s.hdr Ty.cmp ch).en, fcuNow := (s.hdr Ty.fcu (rgnOfCh ch)).en })).openRec ch b := by
  unfold State.release
  dsimp only
  rw [hfifo]
  dsimp only
  rw [if_neg (by simp [ttLt_of_ttLe hdue]), if_neg (by simp [hrunning]), if_neg (by simp [hfree])]
  rfl

/-- On a free-running channel the block is removed without effect, which the burst's first reports. -/
theorem State.release_drops (hfree : (s.chan ch).frRun = true) {u : State}
    (hu : (s.modChan ch (Chan.released · b rest)).modChan ch (Chan.dropBlock · b) = u) :
    s.release ch = if (s.chan ch).pfLogged then u
      else (u.modChan ch (fun c => { c with pfLogged := true })).raisePage Code.pinFreerun Ty.tg ch := by
  subst hu
  unfold State.release
  dsimp only
  rw [hfifo]
  dsimp only
  rw [if_neg (by simp [ttLt_of_ttLe hdue]), if_neg (by simp [hrunning]), if_pos hfree]
  rfl

end

theorem exec_blockRelease {ch : Nat} (hch : ch < 192) (s : State) : exec (.blockRelease ch) s = .next (s.release ch) :=
  onUnit_of _ _ (decide_eq_true hch)

/-- Settles O20: an arrival and a release each run to the branch that the block's times, its sequence and the free run pick. -/
theorem blocksArriveAndAreReleased : Obligations.BlocksArriveAndAreReleased := by
  refine ⟨fun s ch b rest hch hflying hrunning hdeadline hstart hkept hseq hclear => ?_,
    fun s ch b rest hch hflying hrunning hlate => ?_, fun s ch b rest hch hfifo hdue hrunning hfree => ?_,
    fun s ch b rest hch hfifo hdue hrunning hfree => ?_,
    fun b l hhalf hsorted => ⟨fifoInsert_pairwise hhalf hsorted, fun x => mem_fifoInsert⟩⟩
  · obtain ⟨hchan, hothers, honly⟩ := State.landed_joined_spec (s := s) (ch := ch) (b := b) (rest := rest) rfl
    refine ⟨_, exec_blockArrive_joins hrunning hdeadline hstart hkept hseq hclear hch hflying, ?_⟩
    rw [hchan]
    exact ⟨rfl, Chan.joined_flying _ b, Chan.joined_present _ b, hothers, honly⟩
  · refine ⟨_, exec_blockArrive_late hch hflying hlate, ?_⟩
    rw [State.landed_chan, if_pos rfl]
    exact ⟨rfl, rfl, rfl, fun c hc => (State.landed_chan c).trans (if_neg hc), State.landed_only⟩
  · refine ⟨_, exec_blockRelease hch s, ?_⟩
    rw [State.release_plays hfifo hdue hrunning hfree]
    have hopen := fun u : State => u.openRec_only ch b
    rw [(hopen _).chan (by decide), State.modChan_chan, if_pos rfl, State.modChan_chan, if_pos rfl]
    refine ⟨rfl, rfl, rfl, fun c hc => ?_, ?_⟩
    · rw [(hopen _).chan (by decide), State.modChan_chan, if_neg hc, State.modChan_chan, if_neg hc]
    · exact (((s.modChan_only ch _).trans (State.modChan_only _ ch _)).mono (by decide)).trans
        ((hopen _).mono (by decide))
  · refine ⟨_, exec_blockRelease hch s, ?_⟩
    rw [State.release_drops hfifo hdue hrunning hfree rfl]
    have hdropped := (s.modChan_only ch (Chan.released · b rest)).trans (State.modChan_only _ ch (Chan.dropBlock · b))
    cases hlogged : (s.chan ch).pfLogged
    case true =>
      rw [if_pos rfl, State.modChan_chan, if_pos rfl, State.modChan_chan, if_pos rfl]
      exact ⟨rfl, rfl, hlogged, fun _ => hdropped, nofun⟩
    case false =>
      rw [if_neg Bool.false_ne_true, State.raisePage_chan, State.modChan_chan, if_pos rfl, State.modChan_chan, if_pos rfl,
        State.modChan_chan, if_pos rfl]
      refine ⟨rfl, rfl, rfl, nofun, fun _ => ⟨?_, ?_⟩⟩
      · rw [State.raisePage, State.raise_hdr_source (pageKey_tg_ne_err ch)]
      · exact ((hdropped.trans (State.modChan_only _ ch _)).mono (by decide)).trans
          ((State.raisePage_only _ _ _ _).mono (by decide))

/-! ### A thief's probes (08 R162) -/

/-- A thief probes one victim in a CCLK cycle. -/
theorem State.stealProbe_of_probed {s : State} {e : Nat} (hprobed : (s.te e).probeAt = some s.cclk) : s.stealProbe e = s :=
  if_pos (.inr hprobed)

/-- Engine 0, idle and with nothing to pop, has probed in this CCLK cycle; the deque of engine 1 holds a segment of a site
that does not run. -/
def probedThief : State := { tes := [(0, { probeAt := some 0 }), (1, { deque := [{}] })] }

theorem probedThief_victimOf : probedThief.victimOf 0 = some 1 := by decide

theorem exec_stealProbe_probedThief : exec (.stealProbe 0) probedThief = .next probedThief :=
  (onUnit_of (decide (0 < nEng)) _ (by decide)).trans (congrArg _ (State.stealProbe_of_probed (by decide)))

/-- Refutes O43: the clauses of a steal do not ask that the thief has yet to probe in this CCLK cycle (R162: one victim per
cycle). One that has probed in it stays as it is, its table of last victims too. -/
theorem not_segmentsArePlacedAndTaken : ¬ Obligations.SegmentsArePlacedAndTaken := by
  rintro ⟨-, -, -, -, -, hsteal, -⟩
  obtain ⟨t, hnext, -, -, hvictim, -⟩ := (hsteal probedThief 0 1 {} (by decide) (by decide) probedThief_victimOf (by decide)
    (by decide)).2 (.inl (by decide))
  rw [exec_stealProbe_probedThief, Host.Outcome.next.injEq] at hnext
  subst hnext
  exact absurd hvictim (by decide)

/-! ### LCLK ticks (10 R214; 03 R69) -/

/-- TT has wrapped at this root edge, an LCLK tick of site 0; the level queue of its channel 0 holds an entry stamped one
root edge earlier, before the wrap. -/
def wrappedTick : State :=
  { root := 2 ^ 56, everLocked := true, hdrs := [(pageKey Ty.tg 0, { owner := 0 })]
    chans := [(0, { lvlq := [{ stamp := 2 ^ 64 - 256 }] })] }

theorem wrappedTick_lclkDue : wrappedTick.lclkDue 0 = true := by decide

/-- By the 64-bit difference the entry is due, and the tick applies it. -/
theorem wrappedTick_applies : ((wrappedTick.tick 0).chan 0).lvlq = [] := by decide +kernel

theorem exec_lclkTick_wrappedTick : exec (.lclkTick 0) wrappedTick = .next (wrappedTick.tick 0) :=
  onUnit_of (decide (0 ≤ nSite)) _ (by decide)

/-- Refutes O44: its last clause orders the stamp of a level entry and TT as numbers, the queue by their 64-bit difference
(R69). An entry stamped just before TT wraps is due after the wrap, though its stamp is the greater number. -/
theorem not_deadlinesResultsAndTicks : ¬ Obligations.DeadlinesResultsAndTicks := by
  rintro ⟨-, -, -, -, hticks⟩
  obtain ⟨t, hnext, -, -, hentry, -⟩ := (hticks wrappedTick 0 (by decide)).2 wrappedTick_lclkDue
  rw [exec_lclkTick_wrappedTick, Host.Outcome.next.injEq] at hnext
  subst hnext
  obtain ⟨hkept, -⟩ := (hentry 0 { stamp := 2 ^ 64 - 256 } (by decide) (by decide) (by decide) (by decide)).2 (by decide)
  rw [wrappedTick_applies] at hkept
  exact List.cons_ne_nil _ _ hkept.symm

end Sys2Proof.Machine
end

section
/-! Proofs of the statements of the family 09_timing_generators.md, and the rules about the UIs a channel begins, the end of a free
run and the spacing of driver edges they rest on. -/

namespace Sys2Proof.Machine

/-! ### A channel after an update -/

theorem State.modChan_chan_same (s : State) (ch : Nat) (f : Chan → Chan) : (s.modChan ch f).chan ch = f (s.chan ch) := by
  rw [State.modChan_chan, if_pos rfl]

theorem State.modChan_chan_ne (s : State) {ch c : Nat} (hc : c ≠ ch) (f : Chan → Chan) :
    (s.modChan ch f).chan c = s.chan c := by
  rw [State.modChan_chan, if_neg hc]

/-! ### The end of a free run (09 R193, R194; 14 R295) -/

/-- Waiting coefficients that take effect change of a channel its calibration terms and the placed times they freeze. -/
theorem Chan.boundary_keep {α : Type} {f : Chan → α} (hf : ∀ (c : Chan) es evs k waiting old stale,
      f { c with pedges := es, cmpEvs := evs, cal := k, calNext := waiting, calOld := old, calStale := stale } = f c)
    (now : Int) (c : Chan) : f (c.boundary now) = f c := by
  unfold Chan.boundary Chan.setCal Chan.freeze
  split
  · split
    · rfl
    · exact hf c _ _ _ _ _ _
  · exact hf c _ _ _ _ _ _

theorem Chan.boundary_frRun (now : Int) (c : Chan) : (c.boundary now).frRun = c.frRun :=
  Chan.boundary_keep (f := Chan.frRun) (fun _ _ _ _ _ _ _ => rfl) now c

theorem Chan.boundary_frStop (now : Int) (c : Chan) : (c.boundary now).frStop = c.frStop :=
  Chan.boundary_keep (f := Chan.frStop) (fun _ _ _ _ _ _ _ => rfl) now c

section
variable (s : State)

theorem State.rgnBoundary_only (r : Nat) : Only [.chans] s (s.rgnBoundary r) :=
  Only.of_ite (Only.refl _ s) (Only.forEach (fun ch t => t.modChan_only ch _) _ s)

/-- What a boundary leaves of a channel, the boundary of a region leaves of every channel. -/
theorem State.rgnBoundary_chan_keep {α : Type} {f : Chan → α} (hf : ∀ now c, f (Chan.boundary now c) = f c) (r ch : Nat) :
    f ((s.rgnBoundary r).chan ch) = f (s.chan ch) := by
  unfold State.rgnBoundary
  split
  · rfl
  · refine forEach_keep (fun t => f (t.chan ch)) _ (fun i t => ?_) _ s
    rw [State.modChan_chan]
    split
    · exact hf ..
    · rfl

/-- The free run has stopped on its channel, with its cause set; the boundary of the region is still to come. -/
def State.runStopped (s : State) (ch : Nat) : State :=
  (s.modChan ch (fun c => Chan.boundary s.now { c with frRun := false, frAnch := false, frStop := false, frShift := 0 })).cause
    Ty.tg ch 8

theorem State.runStopped_only (ch : Nat) : Only (.chans :: causeParts) s (s.runStopped ch) :=
  ((s.modChan_only ch _).mono (by decide)).trans ((State.cause_only _ _ _ _).mono (by decide))

/-- The end of a run that is on: the run is off, no stop is asked for, FREERUN_STOP is set. -/
theorem State.endRun_spec {ch : Nat} (hrun : (s.chan ch).frRun = true) {t : State} (ht : s.endRun ch = t) :
    (t.chan ch).frRun = false ∧ (t.chan ch).frStop = false ∧ (t.hdr Ty.tg ch).irqStatus.testBit 3 = true
      ∧ Only (.chans :: causeParts) s t := by
  have hchan : (s.runStopped ch).chan ch
      = Chan.boundary s.now { s.chan ch with frRun := false, frAnch := false, frStop := false, frShift := 0 } := by
    rw [State.runStopped, State.cause_chan, State.modChan_chan_same]
  have hoff : ((s.runStopped ch).chan ch).frRun = false := by rw [hchan, Chan.boundary_frRun]
  have hidle : ((s.runStopped ch).chan ch).frStop = false := by rw [hchan, Chan.boundary_frStop]
  have hcause : ((s.runStopped ch).hdr Ty.tg ch).irqStatus.testBit 3 = true := State.cause_irqStatus (by decide) _ Ty.tg ch
  have hend : s.endRun ch = when ((s.runStopped ch).glb.mode == .ready && !(s.runStopped ch).glb.busy)
      (fun t => t.rgnBoundary (rgnOfCh ch)) (s.runStopped ch) := if_pos hrun
  subst ht
  rw [hend, when]
  split
  · have honly := (s.runStopped ch).rgnBoundary_only (rgnOfCh ch)
    rw [State.rgnBoundary_chan_keep (f := Chan.frRun) _ Chan.boundary_frRun,
      State.rgnBoundary_chan_keep (f := Chan.frStop) _ Chan.boundary_frStop, honly.hdr (by decide)]
    exact ⟨hoff, hidle, hcause, (s.runStopped_only ch).trans (honly.mono (by decide))⟩
  · exact ⟨hoff, hidle, hcause, s.runStopped_only ch⟩

end

/-! ### What a UI that begins leaves (09 R183 to R187) -/

section
variable {s : State} {ch u t sym : Nat}

/-- A UI with an invalid timeset plays no edge and queues no compare event; it is flagged and reported. -/
theorem State.startUi_invalid (hinvalid : (s.chan ch).tsValid t = false) (b : Option (Block × Nat)) :
    s.startUi ch u t sym b
      = ((s.modChan ch (fun c => { c with tsInv := true })).cause Ty.tg ch 2).raisePage Code.tsInvalid Ty.tg ch :=
  if_pos (by simp [hinvalid])

section
variable (hvalid : (s.chan ch).tsValid t = true) (hdrive : (s.chan ch).noDrive = false)
include hvalid hdrive

/-- A UI of a block adds its driver edges, and one compare event exactly when its symbol compares or captures. -/
theorem State.startUi_block (b : Block) (k : Nat) :
    ∃ evs : List CmpEv, evs.length = (if 3 ≤ sym ∧ sym ≤ 6 ∨ sym = 9 then 1 else 0)
      ∧ s.startUi ch u t sym (some (b, k)) = s.modChan ch (fun c => { c with
          pedges := c.pedges ++ (s.chan ch).uiEdges u u t sym, cmpEvs := c.cmpEvs ++ evs }) := by
  refine ⟨_, ?_, (if_neg (by simp [hvalid])).trans (State.modChan_congr (congrArg (fun es => ({ s.chan ch with
    pedges := es, cmpEvs := (s.chan ch).cmpEvs ++ _ } : Chan)) (if_neg (by simp [hdrive]))))⟩
  simp only [isCompare, decide_eq_true_eq]
  split <;> rfl

/-- A UI of a free run adds its driver edges alone. -/
theorem State.startUi_free :
    s.startUi ch u t sym none
      = s.modChan ch (fun c => { c with pedges := c.pedges ++ (s.chan ch).uiEdges u u t sym }) := by
  refine (if_neg (by simp [hvalid])).trans (State.modChan_congr ?_)
  simp only [hdrive, Bool.false_eq_true, if_false, List.append_nil]

end

end

/-! ### The next UI begins (09 R178, R192, R193) -/

theorem exec_uiStart {ch : Nat} (hch : ch < 192) (s : State) : exec (.uiStart ch) s = .next (s.uiStartStep ch) :=
  onUnit_of _ _ (decide_eq_true hch)

/-- At its start a UI is due. -/
theorem State.uiDue_of_started {s : State} {u : Nat} (hstart : ttLe u s.now = true) (ch t sym : Nat) :
    s.uiDue ch u t sym = true := by
  rw [State.uiDue, hstart, Bool.true_or]

/-- The block in play after its present UI: none after the last of its 64. -/
def Play.next (p : Play) : Option Play := if p.k < 63 then some { p with k := p.k + 1 } else none

section
variable {s : State} {ch : Nat} {p : Play} (hplay : (s.chan ch).play = some p)
  (hstart : ttLe ((s.chan ch).uiStart p.blk.tt p.blk.seq p.k) s.now = true)
include hplay hstart

/-- From the abort point on no UI of the block plays. -/
theorem State.uiStartStep_aborted {a : Nat} (habort : s.abortPoint ch = some a)
    (hpast : ttLe a ((s.chan ch).uiStart p.blk.tt p.blk.seq p.k) = true) :
    s.uiStartStep ch = s.modChan ch (fun c => { c with play := none }) := by
  have hends : (s.abortPoint ch).any (fun a => ttLe a ((s.chan ch).uiStart p.blk.tt p.blk.seq p.k)) = true :=
    Option.any_eq_true _ _ |>.mpr ⟨a, habort, hpast⟩
  unfold State.uiStartStep
  dsimp only
  rw [hplay]
  dsimp only
  rw [if_neg (by simp [State.uiDue_of_started hstart]), if_pos hends]

/-- Before the abort point the UI begins and the block moves to its next one. -/
theorem State.uiStartStep_plays (hplays : p.inert = false)
    (hbefore : ∀ a, s.abortPoint ch = some a → ttLt ((s.chan ch).uiStart p.blk.tt p.blk.seq p.k) a = true) :
    s.uiStartStep ch = (s.modChan ch (fun c => { c with play := p.next })).startUi ch
      ((s.chan ch).uiStart p.blk.tt p.blk.seq p.k) (p.blk.tss.getD p.k 0) (p.blk.syms.getD p.k symHOLD)
      (some (p.blk, p.k)) := by
  have hgoes : ¬ (s.abortPoint ch).any (fun a => ttLe a ((s.chan ch).uiStart p.blk.tt p.blk.seq p.k)) := by
    rw [Option.any_eq_true]
    rintro ⟨a, habort, hpast⟩
    exact Bool.false_ne_true ((ttLt_of_ttLe hpast).symm.trans (hbefore a habort))
  have hnext : (if 63 ≤ p.k then none else some { p with k := p.k + 1 }) = p.next := by
    simp only [Play.next, ← Nat.not_lt, ite_not]
  unfold State.uiStartStep
  dsimp only
  rw [hplay]
  dsimp only
  rw [if_neg (by simp [State.uiDue_of_started hstart]), if_neg hgoes, if_neg (by simp [hplays]), hnext]

end

section
variable {s : State} {ch : Nat} (hplay : (s.chan ch).play = none) (hrun : (s.chan ch).frRun = true)
  (hstart : ttLe (s.chan ch).freeAt s.now = true)
include hplay hrun hstart

/-- A run that goes on begins its next UI. -/
theorem State.uiStartStep_free (hgoes : (s.chan ch).frStop = false) :
    s.uiStartStep ch = (s.modChan ch (fun c => { c with frU := c.frU + 1 })).startUi ch (s.chan ch).freeAt (s.chan ch).frTs
      (if (s.hdr Ty.tg ch).en then (s.chan ch).frSym else symHOLD) none := by
  unfold State.uiStartStep
  dsimp only
  rw [hplay]
  dsimp only
  rw [if_pos hrun, if_neg (by simp [hgoes]), if_neg (by simp [State.uiDue_of_started hstart])]

/-- A run asked to stop ends at its next UI, once no edge waits. -/
theorem State.uiStartStep_stops (hstop : (s.chan ch).frStop = true) (hdone : (s.chan ch).pedges = []) :
    s.uiStartStep ch = s.endRun ch := by
  unfold State.uiStartStep
  dsimp only
  rw [hplay]
  dsimp only
  rw [if_pos hrun, if_pos hstop, if_neg (by simp [hstart, hdone])]

end

/-- The start of the next UI of a free run, from its place on the grid. -/
theorem Chan.freeAt_of_grid {c : Chan} {u : Nat}
    (hu : (u : Int) = (((c.frM0 + c.frU) * c.q / 65536 : Nat) + c.frShift) % (2 ^ 64 : Nat)) : c.freeAt = u := by
  rw [Chan.freeAt, ttMove, Chan.span, ← hu, Int.toNat_natCast]

/-- Settles O18: the time and the abort point pick whether a UI begins, the timeset what it leaves; a run asked to stop ends. -/
theorem uisBeginOnTheGrid : Obligations.UisBeginOnTheGrid := by
  refine ⟨fun s ch u p hch hplay hplays hu hstart hbefore hvalid hdrive => ?_,
    fun s ch p hch hplay hplays hstart hbefore hinvalid => ?_, fun s ch a p hch hplay hstart habort hpast => ?_,
    fun s ch u hch hplay hrun hgoes hu hstart hvalid hdrive => ?_,
    fun s ch u hch hplay hrun hstop hu hstart hdone => ?_⟩
  · obtain rfl : u = (s.chan ch).uiStart p.blk.tt p.blk.seq p.k := hu
    obtain ⟨evs, hlength, hbegun⟩ := State.startUi_block (s := s.modChan ch (fun c => { c with play := p.next }))
      (u := (s.chan ch).uiStart p.blk.tt p.blk.seq p.k) (sym := p.blk.syms.getD p.k symHOLD)
      (by rw [State.modChan_chan_same]; exact hvalid) (by rw [State.modChan_chan_same]; exact hdrive) p.blk p.k
    refine ⟨_, exec_uiStart hch s, ?_⟩
    rw [State.uiStartStep_plays hplay hstart hplays hbefore, hbegun, State.modChan_chan_same, State.modChan_chan_same]
    refine ⟨rfl, rfl, ?_, fun c hc => ?_, (s.modChan_only ch _).trans (State.modChan_only _ ch _)⟩
    · rw [List.length_append, hlength]
    · rw [State.modChan_chan_ne _ hc, State.modChan_chan_ne _ hc]
  · refine ⟨_, exec_uiStart hch s, ?_⟩
    rw [State.uiStartStep_plays hplay hstart hplays hbefore,
      State.startUi_invalid (by rw [State.modChan_chan_same]; exact hinvalid), State.raisePage_chan, State.cause_chan,
      State.modChan_chan_same, State.modChan_chan_same]
    refine ⟨rfl, rfl, rfl, ?_, ?_⟩
    · rw [State.raisePage, State.raise_hdr_source (pageKey_tg_ne_err ch)]
    · exact (((s.modChan_only ch _).trans (State.modChan_only _ ch _)).mono (by decide)).trans
        (((State.cause_only _ _ _ _).mono (by decide)).trans ((State.raisePage_only _ _ _ _).mono (by decide)))
  · rw [exec_uiStart hch s, State.uiStartStep_aborted hplay hstart habort hpast]
  · obtain rfl := Chan.freeAt_of_grid hu
    refine ⟨_, exec_uiStart hch s, ?_⟩
    rw [State.uiStartStep_free hplay hrun hstart hgoes,
      State.startUi_free (by rw [State.modChan_chan_same]; exact hvalid) (by rw [State.modChan_chan_same]; exact hdrive),
      State.modChan_chan_same, State.modChan_chan_same]
    exact ⟨rfl, (s.modChan_only ch _).trans (State.modChan_only _ ch _)⟩
  · obtain rfl := Chan.freeAt_of_grid hu
    refine ⟨_, exec_uiStart hch s, ?_⟩
    exact s.endRun_spec hrun (State.uiStartStep_stops hplay hrun hstart hstop hdone).symm

/-! ### Driver edges (09 R188)

The rule is one for both paths, so it is stated once, for the path an edge belongs to. -/

/-- The level an edge brings its path to. -/
def Chan.edgeTarget (c : Chan) (p : PEdge) : Bool := if p.enable then p.act == 1 else if p.act = 2 then !c.high else p.act == 1

/-- The level of the path an edge belongs to. -/
def Chan.pathLevel (c : Chan) (p : PEdge) : Bool := if p.enable then c.en else c.high

/-- The time of the last edge of the path an edge belongs to. -/
def Chan.pathLast (c : Chan) (p : PEdge) : Option Int := if p.enable then c.lastEn else c.lastData

/-- The edge has moved its path. -/
def Chan.moved (c : Chan) (p : PEdge) : Chan :=
  if p.enable then { c with en := c.edgeTarget p, lastEn := some (c.edgeTime p) }
  else { c with high := c.edgeTarget p, lastData := some (c.edgeTime p) }

section
variable {c : Chan} {p : PEdge} {to_ : Bool}

theorem Chan.edgeTarget_of_data (hdata : p.enable = false) :
    c.edgeTarget p = if p.act = 2 then !c.high else decide (p.act = 1) := by
  rw [Chan.edgeTarget, hdata]
  rfl

theorem Chan.edgeTarget_of_enable (henable : p.enable = true) : c.edgeTarget p = decide (p.act = 1) := by
  rw [Chan.edgeTarget, henable]
  rfl

/-- Leaving the waiting list, a data edge moves the level. -/
theorem Chan.moved_of_data (hdata : p.enable = false) (hto : c.edgeTarget p = to_) :
    ({ c with pedges := c.pedges.erase p } : Chan).moved p
      = { c with pedges := c.pedges.erase p, high := to_, lastData := some (c.edgeTime p) } := by
  rw [← hto, Chan.moved, if_neg (by simp [hdata])]
  rfl

/-- Leaving the waiting list, an enable edge moves the enable. -/
theorem Chan.moved_of_enable (henable : p.enable = true) (hto : c.edgeTarget p = to_) :
    ({ c with pedges := c.pedges.erase p } : Chan).moved p
      = { c with pedges := c.pedges.erase p, en := to_, lastEn := some (c.edgeTime p) } := by
  rw [← hto, Chan.moved, if_pos henable]
  rfl

end

/-- An edge at `t`, in the half range after the one at `l`, is closer than `m` to it by the 64-bit difference exactly when it is as
numbers. -/
theorem tooClose_iff {t l : Int} {m : Nat} (hlow : l ≤ t) (hhigh : t < l + 2 ^ 63) :
    (t - l + 2 ^ 40) % 2 ^ 64 < 2 ^ 40 + (m : Int) ↔ t < l + m := by
  omega

theorem Chan.smin_le (c : Chan) : c.smin ≤ 640 := by
  unfold Chan.smin
  split <;> omega

section
variable {c : Chan} {p : PEdge}

/-- An edge that would change nothing is none. -/
theorem Chan.applyEdge_of_level (hsame : c.pathLevel p = c.edgeTarget p) : c.applyEdge p = (c, false) :=
  if_pos hsame.symm

/-- An edge at least Smin after the last of its path moves it. -/
theorem Chan.applyEdge_of_apart (hmoves : c.pathLevel p ≠ c.edgeTarget p)
    (hapart : ∀ l, c.pathLast p = some l → l + (c.smin : Int) ≤ c.edgeTime p ∧ c.edgeTime p < l + 2 ^ 63) :
    c.applyEdge p = (c.moved p, false) := by
  have hclear : ¬ (c.pathLast p).any (fun l => decide ((c.edgeTime p - l + 2 ^ 40) % 2 ^ 64 < 2 ^ 40 + (c.smin : Int))) := by
    rw [Option.any_eq_true]
    rintro ⟨l, hlast, hclose⟩
    obtain ⟨hlow, hhigh⟩ := hapart l hlast
    have hlt := (tooClose_iff (by omega) hhigh).mp (of_decide_eq_true hclose)
    omega
  refine (if_neg hmoves.symm).trans ((if_neg hclear).trans ?_)
  unfold Chan.moved Chan.edgeTarget
  cases p.enable <;> rfl

/-- An edge less than Smin after the last of its path is discarded and flagged. -/
theorem Chan.applyEdge_of_close (hmoves : c.pathLevel p ≠ c.edgeTarget p) {l : Int} (hlast : c.pathLast p = some l)
    (hlow : l ≤ c.edgeTime p) (hclose : c.edgeTime p < l + (c.smin : Int)) :
    c.applyEdge p = ({ c with conflict := true }, true) := by
  have hsmin := c.smin_le
  have hany : (c.pathLast p).any (fun l => decide ((c.edgeTime p - l + 2 ^ 40) % 2 ^ 64 < 2 ^ 40 + (c.smin : Int))) = true :=
    Option.any_eq_true _ _ |>.mpr ⟨l, hlast, decide_eq_true ((tooClose_iff hlow (by omega)).mpr hclose)⟩
  exact (if_neg hmoves.symm).trans (if_pos hany)

end

section
variable {s : State} {ch : Nat} {p : PEdge} (hch : ch < 192) (hnext : (s.chan ch).nextEdge (s.chan ch).pedges = some p)
  (hreached : ttReached s.now ((s.chan ch).edgeTime p) = true)
  (hfirst : ∀ x ∈ s.nextEdges ch, ttReached ((s.chan ch).edgeTime x) ((s.chan ch).edgeTime p) = true)
include hch hnext hreached hfirst

/-- The next edge, once its placed time has come, leaves the waiting list and meets the formatter, which discards it or not. -/
theorem exec_edgeApply {c : Chan} {discarded : Bool}
    (hedge : ({ s.chan ch with pedges := (s.chan ch).pedges.erase p } : Chan).applyEdge p = (c, discarded)) :
    exec (.edgeApply ch) s = .next (if discarded then
      ((s.modChan ch (fun _ => c)).cause Ty.tg ch 1).raisePage Code.edgeConflict Ty.tg ch else s.modChan ch (fun _ => c)) := by
  have hready : ¬ (¬ ttReached s.now ((s.chan ch).edgeTime p)
      ∨ (s.nextEdges ch).any (fun x => !ttReached ((s.chan ch).edgeTime x) ((s.chan ch).edgeTime p))) := by
    simpa [hreached] using hfirst
  refine (onUnit_of _ _ (decide_eq_true hch)).trans (congrArg _ ?_)
  unfold State.edgeStep
  dsimp only
  rw [hnext]
  dsimp only
  rw [if_neg hready, hedge]

theorem exec_edgeApply_of_level (hsame : (s.chan ch).pathLevel p = (s.chan ch).edgeTarget p) :
    exec (.edgeApply ch) s = .next (s.modChan ch (fun c => { c with pedges := c.pedges.erase p })) := by
  rw [exec_edgeApply hch hnext hreached hfirst (Chan.applyEdge_of_level hsame), if_neg Bool.false_ne_true]
  exact congrArg _ (State.modChan_congr rfl)

theorem exec_edgeApply_of_apart (hmoves : (s.chan ch).pathLevel p ≠ (s.chan ch).edgeTarget p)
    (hapart : ∀ l, (s.chan ch).pathLast p = some l →
      l + ((s.chan ch).smin : Int) ≤ (s.chan ch).edgeTime p ∧ (s.chan ch).edgeTime p < l + 2 ^ 63) :
    exec (.edgeApply ch) s
      = .next (s.modChan ch (fun c => ({ c with pedges := c.pedges.erase p } : Chan).moved p)) := by
  rw [exec_edgeApply hch hnext hreached hfirst (Chan.applyEdge_of_apart hmoves hapart), if_neg Bool.false_ne_true]
  exact congrArg _ (State.modChan_congr rfl)

theorem exec_edgeApply_of_close (hmoves : (s.chan ch).pathLevel p ≠ (s.chan ch).edgeTarget p) {l : Int}
    (hlast : (s.chan ch).pathLast p = some l) (hlow : l ≤ (s.chan ch).edgeTime p)
    (hclose : (s.chan ch).edgeTime p < l + ((s.chan ch).smin : Int)) :
    exec (.edgeApply ch) s = .next (((s.modChan ch (fun c => { c with
      pedges := c.pedges.erase p, conflict := true })).cause Ty.tg ch 1).raisePage Code.edgeConflict Ty.tg ch) := by
  rw [exec_edgeApply hch hnext hreached hfirst (Chan.applyEdge_of_close hmoves hlast hlow hclose), if_pos rfl]
  exact congrArg (fun t : State => Host.Outcome.next ((t.cause Ty.tg ch 1).raisePage Code.edgeConflict Ty.tg ch))
    (State.modChan_congr rfl)

end

/-- Settles O19: on either path the target and the distance to the path's last edge pick the outcome. -/
theorem edgesApplyOrConflict : Obligations.EdgesApplyOrConflict := by
  intro s ch p to_ hch hnext hreached hfirst
  have hsame := exec_edgeApply_of_level hch hnext hreached hfirst
  have hapart := exec_edgeApply_of_apart hch hnext hreached hfirst
  have hclose := exec_edgeApply_of_close hch hnext hreached hfirst
  refine ⟨fun hdata hto => ?_, fun henable hto => ?_⟩
  · have htarget : (s.chan ch).edgeTarget p = to_ := (Chan.edgeTarget_of_data hdata).trans hto.symm
    simp only [Chan.pathLevel, Chan.pathLast, hdata, htarget, Bool.false_eq_true, if_false] at hsame hapart hclose
    refine ⟨hsame, fun hmoves hlast => ?_, fun l hmoves => hclose hmoves⟩
    rw [hapart hmoves hlast]
    exact congrArg _ (State.modChan_congr (Chan.moved_of_data hdata htarget))
  · have htarget : (s.chan ch).edgeTarget p = to_ := (Chan.edgeTarget_of_enable henable).trans hto.symm
    simp only [Chan.pathLevel, Chan.pathLast, henable, htarget, if_true] at hsame hapart hclose
    refine ⟨hsame, fun hmoves hlast => ?_, fun l hmoves => hclose hmoves⟩
    rw [hapart hmoves hlast]
    exact congrArg _ (State.modChan_congr (Chan.moved_of_enable henable htarget))

end Sys2Proof.Machine
end

section
/-! Proofs of the statements of the family 10_pin_electronics.md, and the rules about the writes of the pin electronics
registers and the level queue they rest on. -/

namespace Sys2Proof.Machine

/-! ### Fields of a written word -/

theorem bits_eq (w lo n : Nat) : bits w lo n = w / 2 ^ lo % 2 ^ n := by
  rw [bits, Nat.shiftRight_eq_div_pow]

/-! ### The isolation of a lane ends (14 R287) -/

theorem State.modClu_only (s : State) (k : Nat) (f : Clu → Clu) : Only [.clus] s (s.modClu k f) := by
  intro p hp
  cases p <;> simp [Part.same] at hp ⊢

theorem State.laneFree_only (s : State) (ch : Nat) : Only [.clus] s (s.laneFree ch) := s.modClu_only _ _

@[simp] theorem State.laneFree_chan (s : State) (ch c : Nat) : (s.laneFree ch).chan c = s.chan c := rfl

/-- A change of a channel whose lane's isolation ends with it touches that channel and the cluster. -/
theorem State.laneFree_modChan_only (s : State) (ch : Nat) (f : Chan → Chan) :
    Only [.chans, .clus] s ((s.laneFree ch).modChan ch f) :=
  ((s.laneFree_only ch).mono (by decide)).trans ((State.modChan_only _ ch f).mono (by decide))

/-! ### PE_CTRL (10 R199 to R201; 05 R424, R426) -/

/-- The checks of a write of PE_CTRL in their order. -/
def State.peCtrlChecks (s : State) (ch val : Nat) : List (Bool × Nat) :=
  [(val % 64 != (s.chan ch).peSettled.peCtrl && s.chBusy ch, Code.blkBusy),
   (!(s.hdr Ty.pe ch).en && (val / 2 % 8 != 0 || val.testBit 5), Code.blkBusy),
   ((s.chan ch).conAt.isSome || (val.testBit 0 != (s.chan ch).full && (s.chan ch).rangeAt.isSome), Code.peBusy),
   (decide (4 < val / 2 % 8), Code.paramRange),
   (val.testBit 0 != (s.chan ch).full && decide ((s.chan ch).perInt < minPeriod (val.testBit 0) s.grade08), Code.paramRange),
   (val / 2 % 8 != 0 && (s.chan ch).pmuConn, Code.peConflict)]

/-- A channel after a write of PE_CTRL that no check stops, at uptime `up`: a change of RANGE starts, or the fields are in force. -/
def Chan.peCtrlWritten (up val : Nat) (c : Chan) : Chan :=
  if val.testBit 0 != c.full then
    { c with full := val.testBit 0, rangeAt := some up, ctrlNext := some (val / 2 % 8, val.testBit 4, val.testBit 5) }
  else ({ c with
    drvMode := val / 2 % 8, term := val.testBit 4, clamp := val.testBit 5, ctrlNext := none } : Chan).settleClamps

theorem Chan.peCtrlWritten_sameRange {c : Chan} {val : Nat} (hsame : c.full = val.testBit 0) (up : Nat) :
    c.peCtrlWritten up val = ({ c with
      drvMode := val / 2 % 8, term := val.testBit 4, clamp := val.testBit 5, ctrlNext := none } : Chan).settleClamps :=
  if_neg (by simp [hsame])

theorem Chan.peCtrlWritten_newRange {c : Chan} {val : Nat} (hnew : c.full ≠ val.testBit 0) (up : Nat) :
    c.peCtrlWritten up val = { c with
      full := val.testBit 0, rangeAt := some up, ctrlNext := some (val / 2 % 8, val.testBit 4, val.testBit 5) } :=
  if_pos (bne_iff_ne.mpr hnew.symm)

/-- What lets a write of PE_CTRL pass: an idle channel, an enabled one for a drive mode or the clamps, no contact test, a range
that stays or can change, a mode of the five, no drive beside a connected PMU. -/
theorem State.peCtrlChecks_pass {s : State} {ch val : Nat} (hidle : s.chBusy ch = false)
    (hen : (s.hdr Ty.pe ch).en = true ∨ (val / 2 % 8 = 0 ∧ val.testBit 5 = false)) (hcon : (s.chan ch).conAt = none)
    (hrange : (s.chan ch).full = val.testBit 0
      ∨ (s.chan ch).rangeAt = none ∧ minPeriod (val.testBit 0) s.grade08 ≤ (s.chan ch).perInt)
    (hmode : val / 2 % 8 ≤ 4) (hpmu : (s.chan ch).pmuConn = false ∨ val / 2 % 8 = 0) :
    ∀ p ∈ s.peCtrlChecks ch val, p.1 = false := by
  have hdisabled : (!(s.hdr Ty.pe ch).en && (val / 2 % 8 != 0 || val.testBit 5)) = false := by
    rcases hen with hen | ⟨hoff, hclamp⟩ <;> simp [*]
  have hchanging : (val.testBit 0 != (s.chan ch).full && (s.chan ch).rangeAt.isSome) = false := by
    rcases hrange with hsame | ⟨hrest, -⟩ <;> simp [*]
  have hperiod : (val.testBit 0 != (s.chan ch).full
      && decide ((s.chan ch).perInt < minPeriod (val.testBit 0) s.grade08)) = false := by
    rcases hrange with hsame | ⟨-, hmin⟩ <;> simp [*, -Nat.testBit_zero]
  have hconflict : (val / 2 % 8 != 0 && (s.chan ch).pmuConn) = false := by
    rcases hpmu with hopen | hoff <;> simp [*]
  simp [State.peCtrlChecks, hidle, hdisabled, hcon, hchanging, hmode, hperiod, hconflict, -Nat.testBit_zero]

section
variable {s : State} {fn ch val : Nat} (haccepts : s.accepts fn Ty.pe ch 0x040 = true)
include haccepts

theorem exec_peCtrlWrite : exec (.peCtrlWrite fn ch val) s = .next (s.checked fn Ty.pe ch (s.peCtrlChecks ch val)
    (fun t => (when (val.testBit 0 != (s.chan ch).full) (fun u => u.laneFree ch) t).modChan ch (Chan.peCtrlWritten s.up val))) := by
  have hdrv : bits val 1 3 = val / 2 % 8 := bits_eq val 1 3
  have hexec : exec (.peCtrlWrite fn ch val) s = .next (s.wPeCtrl fn ch val) := onUnit_onWrite haccepts _
  rw [hexec, State.wPeCtrl, hdrv]
  rfl

theorem exec_peCtrlWrite_rejected {code : Nat} (hfail : firstFail (s.peCtrlChecks ch val) = code) (hcode : code ≠ 0) :
    exec (.peCtrlWrite fn ch val) s = .next (s.reject fn code Ty.pe ch) := by
  rw [exec_peCtrlWrite haccepts, State.checked_fail hfail hcode]

section
variable (hpass : ∀ p ∈ s.peCtrlChecks ch val, p.1 = false)
include hpass

theorem exec_peCtrlWrite_sameRange (hsame : (s.chan ch).full = val.testBit 0) :
    exec (.peCtrlWrite fn ch val) s = .next (s.modChan ch (fun c => ({ c with
      drvMode := val / 2 % 8, term := val.testBit 4, clamp := val.testBit 5, ctrlNext := none } : Chan).settleClamps)) := by
  rw [exec_peCtrlWrite haccepts, State.checked_pass _ hpass, when, if_neg (by simp [hsame])]
  exact congrArg _ (State.modChan_congr (Chan.peCtrlWritten_sameRange hsame s.up))

theorem exec_peCtrlWrite_newRange (hnew : (s.chan ch).full ≠ val.testBit 0) :
    exec (.peCtrlWrite fn ch val) s = .next ((s.laneFree ch).modChan ch (fun c => { c with
      full := val.testBit 0, rangeAt := some s.up, ctrlNext := some (val / 2 % 8, val.testBit 4, val.testBit 5) })) := by
  rw [exec_peCtrlWrite haccepts, State.checked_pass _ hpass, when, if_pos (bne_iff_ne.mpr hnew.symm)]
  exact congrArg _ (State.modChan_congr (Chan.peCtrlWritten_newRange hnew s.up))

end

end

/-- A driver range change ends: the fields to come are in force. -/
theorem exec_driverRangeDone {s : State} {ch a drv : Nat} {term clamp : Bool} (hch : ch < 192)
    (hbegan : (s.chan ch).rangeAt = some a) (hended : a + 5 * fsUs ≤ s.up)
    (hnext : (s.chan ch).ctrlNext = some (drv, term, clamp)) :
    exec (.driverRangeDone ch) s = .next ((s.modChan ch (fun c => ({ c with
      drvMode := drv, term := term, clamp := clamp, ctrlNext := none, rangeAt := none } : Chan).settleClamps)).cause Ty.pe ch 1) := by
  have hsettled : (s.chan ch).peSettled = { s.chan ch with drvMode := drv, term := term, clamp := clamp, ctrlNext := none } := by
    rw [Chan.peSettled, hnext]
  refine (onUnit_of _ _ (decide_eq_true hch)).trans (congrArg _ ?_)
  rw [hbegan]
  refine (if_pos hended).trans (congrArg (State.cause · Ty.pe ch 1) (State.modChan_congr ?_))
  rw [hsettled]

/-- Settles O12: the range written picks between the two acting cases, the first check that fails the code of a refusal. The fields
a refusal compares with and what a write within a range change overrides are log entries 55 and 42. -/
theorem driverControlActsOrRefuses : Obligations.DriverControlActsOrRefuses := by
  refine ⟨⟨fun s fn ch val haccepts hidle hen hcon hmode hpmu hsame => ?_,
    fun s fn ch val haccepts hidle hen hcon hmode hpmu hnew hrange hperiod => ?_,
    fun s ch a drv term clamp hch => exec_driverRangeDone hch⟩,
    fun s fn ch val haccepts => ⟨fun hchanged hbusy => ?_, fun hidle hen hcon hrange hmode => ?_,
      fun hidle hen hcon hsame hdrives hmode hpmu => ?_, fun code => s.reject_only fn code Ty.pe ch⟩⟩
  · exact exec_peCtrlWrite_sameRange haccepts (State.peCtrlChecks_pass hidle hen hcon (.inl hsame) hmode hpmu) hsame
  · exact exec_peCtrlWrite_newRange haccepts
      (State.peCtrlChecks_pass hidle hen hcon (.inr ⟨hrange, hperiod⟩) hmode hpmu) hnew
  · exact exec_peCtrlWrite_rejected haccepts (by simp [State.peCtrlChecks, firstFail, hchanged, hbusy]) (by decide)
  · exact exec_peCtrlWrite_rejected haccepts
      (by simp [State.peCtrlChecks, firstFail, hidle, hen, hcon, hrange, hmode]) (by decide)
  · exact exec_peCtrlWrite_rejected haccepts
      (by simp [State.peCtrlChecks, firstFail, hidle, hen, hcon, hsame, Nat.not_lt.mpr hmode, hpmu, Nat.ne_of_gt hdrives])
      (by decide)

/-! ### PE_PMU_CTRL (10 R200, R207) -/

/-- The checks of a write of PE_PMU_CTRL in their order. -/
def State.pmuCtrlChecks (s : State) (ch val : Nat) : List (Bool × Nat) :=
  [(!(s.hdr Ty.pe ch).en && val.testBit 2, Code.blkBusy), ((s.chan ch).conAt.isSome, Code.peBusy),
   (val % 4 == 3, Code.paramRange), (val.testBit 2 && val % 4 == 0, Code.paramRange),
   (val.testBit 2 && (s.chan ch).pmuConn && val % 4 != (s.chan ch).pmuMode, Code.peConflict),
   (val.testBit 2 && ((s.chan ch).drvMode != 0 || (s.chan ch).peSettled.drvMode != 0 || (s.chan ch).loadMode != 0),
     Code.peConflict)]

/-- A channel after a write of PE_PMU_CTRL that no check stops, at uptime `up`. -/
def Chan.pmuCtrlWritten (up val : Nat) (c : Chan) : Chan := { c with
  pmuMode := val % 4, pmuConn := val.testBit 2, pmuSense := val.testBit 3
  pmuAt := if val.testBit 2 then c.pmuAt else none
  pmuOld := c.pmuOld && val.testBit 2
  rangingTo := if !val.testBit 2 && c.pmuAt.isSome then up + 2 * fsUs else c.rangingTo
  compliance := c.compliance && val.testBit 2 }

section
variable {s : State} {fn ch val : Nat} (haccepts : s.accepts fn Ty.pe ch 0x04C = true)
  (hpass : ∀ p ∈ s.pmuCtrlChecks ch val, p.1 = false)
include haccepts hpass

theorem exec_pePmuCtrlWrite : exec (.pePmuCtrlWrite fn ch val) s
    = .next ((when (val.testBit 2 && !(s.chan ch).pmuConn) (fun u => u.laneFree ch) s).modChan ch
        (Chan.pmuCtrlWritten s.up val)) := by
  have hmode : bits val 0 2 = val % 4 := rfl
  refine (onUnit_onWrite haccepts _).trans (congrArg _ ?_)
  rw [State.wPePmu, hmode]
  exact State.checked_pass _ hpass

theorem exec_pePmuCtrlWrite_connects (hon : val.testBit 2 = true) (hopen : (s.chan ch).pmuConn = false) :
    exec (.pePmuCtrlWrite fn ch val) s = .next ((s.laneFree ch).modChan ch (Chan.pmuCtrlWritten s.up val)) := by
  rw [exec_pePmuCtrlWrite haccepts hpass, when, if_pos (by simp [hon, hopen])]

theorem exec_pePmuCtrlWrite_disconnects (hoff : val.testBit 2 = false) :
    exec (.pePmuCtrlWrite fn ch val) s = .next (s.modChan ch (Chan.pmuCtrlWritten s.up val)) := by
  rw [exec_pePmuCtrlWrite haccepts hpass, when, if_neg (by simp [hoff])]

end

/-! ### PE_PMU_RANGE (10 R208 to R210) -/

/-- The checks of a write of PE_PMU_RANGE in their order. -/
def State.pmuRangeChecks (s : State) (ch val : Nat) : List (Bool × Nat) :=
  [((s.chan ch).pmuAt.isSome, Code.peBusy), (decide (4 < val % 8), Code.paramRange),
   ((s.chan ch).pmuConn && (s.chan ch).pmuMode == 2 && val % 8 != (s.chan ch).pmuRange
     && !(decide (384 ≤ pmuRescale ((s.chan ch).applied 9) (s.chan ch).pmuRange (val % 8)
       ∧ pmuRescale ((s.chan ch).applied 9) (s.chan ch).pmuRange (val % 8) ≤ 32384)), Code.paramRange)]

/-- In FIMV DAC 9 takes the code rescaled to range `r`. -/
def Chan.rescaled (r : Nat) (c : Chan) : Chan :=
  if c.pmuMode = 2 then c.setCode 9 (pmuRescale (c.applied 9) c.pmuRange r).toNat else c

/-- A make-before-break change of the PMU's range to `r` has begun at uptime `up`. -/
def Chan.rangeBegun (up r : Nat) (c : Chan) : Chan := { c.rescaled r with
  pmuRange := r, pmuAt := some up, pmuOld := true, pmuWas := c.pmuRange, pmuHold := (c.rescaled r).applied 9
  rangingTo := up + 22 * fsUs }

theorem Chan.setCode_code_same (c : Chan) (d v : Nat) : (c.setCode d v).code d = v % 65536 := Tbl.get_set_same ..

theorem Chan.setCode_code_ne (c : Chan) {d e : Nat} (he : e ≠ d) (v : Nat) : (c.setCode d v).code e = c.code e :=
  Tbl.get_set_ne _ _ _ _ he

/-- The rescaled code of a change in FIMV is in DAC 9. -/
theorem Chan.rangeBegun_code {c : Chan} {r : Nat} {new : Int} (hfimv : c.pmuMode = 2)
    (hnew : new = pmuRescale (c.applied 9) c.pmuRange r) (hlow : 384 ≤ new) (hhigh : new ≤ 32384) (up : Nat) :
    ((c.rangeBegun up r).code 9 : Int) = new := by
  have hcode : (c.rangeBegun up r).code 9 = (c.rescaled r).code 9 := rfl
  rw [hcode, Chan.rescaled, if_pos hfimv, Chan.setCode_code_same, ← hnew]
  omega

section
variable {s : State} {fn ch val : Nat} (haccepts : s.accepts fn Ty.pe ch 0x050 = true)
  (hpass : ∀ p ∈ s.pmuRangeChecks ch val, p.1 = false) (hnew : val % 8 ≠ (s.chan ch).pmuRange)
include haccepts hpass hnew

theorem exec_pePmuRangeWrite_disconnected (hopen : (s.chan ch).pmuConn = false) :
    exec (.pePmuRangeWrite fn ch val) s = .next (s.modChan ch (fun c => { c with pmuRange := val % 8 })) := by
  have hrange : bits val 0 3 = val % 8 := rfl
  refine (onUnit_onWrite haccepts _).trans (congrArg _ ?_)
  rw [State.wPmuRange, hrange]
  refine (State.checked_pass _ hpass).trans ?_
  rw [if_neg hnew, if_pos (by simp [hopen])]

theorem exec_pePmuRangeWrite_connected (hconn : (s.chan ch).pmuConn = true) :
    exec (.pePmuRangeWrite fn ch val) s = .next ((s.laneFree ch).modChan ch (Chan.rangeBegun s.up (val % 8))) := by
  have hrange : bits val 0 3 = val % 8 := rfl
  refine (onUnit_onWrite haccepts _).trans (congrArg _ ?_)
  rw [State.wPmuRange, hrange]
  refine (State.checked_pass _ hpass).trans ?_
  rw [if_neg hnew, if_neg (by simp [hconn])]
  exact State.modChan_congr rfl

end

/-! ### What the PMU does by itself (10 R207, R209, R219) -/

section
variable {s : State} {ch : Nat} (hch : ch < 192)
include hch

theorem exec_pmuOldStageOpen {a : Nat} (hbegan : (s.chan ch).pmuAt = some a) (hreached : a + 20 * fsUs ≤ s.up) :
    exec (.pmuOldStageOpen ch) s = .next (s.modChan ch (fun c => { c with pmuOld := false })) := by
  refine (onUnit_of _ _ (decide_eq_true hch)).trans (congrArg _ ?_)
  rw [hbegan]
  exact if_pos hreached

theorem exec_pmuRangeDone {a : Nat} (hbegan : (s.chan ch).pmuAt = some a) (hended : a + 22 * fsUs ≤ s.up) :
    exec (.pmuRangeDone ch) s
      = .next ((s.modChan ch (fun c => { c with pmuAt := none, pmuOld := false })).cause Ty.pe ch 2) := by
  refine (onUnit_of _ _ (decide_eq_true hch)).trans (congrArg _ ?_)
  rw [hbegan]
  exact if_pos hended

/-- The start of an episode at the limit sets the cause, and nothing else does. -/
theorem exec_pmuCompliance {x : Int} {lim : Bool} (hlim : ((s.chan ch).pmuConn && (s.chan ch).pmuAtLimit x) = lim) :
    exec (.pmuCompliance ch x) s = .next (when (lim && !(s.chan ch).compliance) (fun t => t.cause Ty.pe ch 4)
      (s.modChan ch (fun c => { c with compliance := lim }))) := by
  rw [← hlim]
  exact onUnit_of _ _ (decide_eq_true hch)

theorem exec_pmuSenseFallback (hconn : (s.chan ch).pmuConn = true) (hkelvin : (s.chan ch).pmuSense = false)
    (hfirst : (s.chan ch).senseFb = false) :
    exec (.pmuSenseFallback ch) s = .next
      (((s.modChan ch (fun c => { c with senseFb := true })).cause Ty.pe ch 64).raisePage Code.pmuSense Ty.pe ch) :=
  (onUnit_of _ _ (decide_eq_true hch)).trans (congrArg _ (if_pos (by simp [hconn, hkelvin, hfirst])))

end

/-- Settles O13: the checks pass, then connection, mode and elapsed time pick what the channel becomes. -/
theorem pmuConnectsAndChangesRange : Obligations.PmuConnectsAndChangesRange := by
  refine ⟨fun s fn ch val haccepts hen hcon hmode hon hopen hdrv hnext hload => ?_,
    fun s fn ch val haccepts hcon hmode hoff => ?_, fun s fn ch val haccepts hrest hrange hopen hnew => ?_,
    fun s fn ch val haccepts hrest hrange hconn hfvmi hnew => ?_,
    fun s fn ch val new haccepts hrest hrange hconn hfimv hnew hcode hlow hhigh => ?_,
    fun s ch a hch => exec_pmuOldStageOpen hch, fun s ch a hch => exec_pmuRangeDone hch,
    fun s ch x hch hconn hlimit hfirst => ?_, fun s ch x hch hleft => ?_, fun s ch hch => exec_pmuSenseFallback hch⟩
  · have hmode0 : val % 4 ≠ 0 := by omega
    have hmode3 : val % 4 ≠ 3 := by omega
    have hsettled : (s.chan ch).peSettled = s.chan ch := by rw [Chan.peSettled, hnext]
    have hpass : ∀ p ∈ s.pmuCtrlChecks ch val, p.1 = false := by
      simp [State.pmuCtrlChecks, hen, hcon, hmode0, hmode3, hopen, hsettled, hdrv, hload]
    refine ⟨_, exec_pePmuCtrlWrite_connects haccepts hpass hon hopen, ?_⟩
    rw [State.modChan_chan_same]
    exact ⟨hon, rfl, rfl, rfl, rfl, s.laneFree_modChan_only ch _, fun c hc => State.modChan_chan_ne _ hc _⟩
  · have hpass : ∀ p ∈ s.pmuCtrlChecks ch val, p.1 = false := by simp [State.pmuCtrlChecks, hcon, hmode, hoff]
    refine ⟨_, exec_pePmuCtrlWrite_disconnects haccepts hpass hoff, ?_⟩
    rw [State.modChan_chan_same]
    refine ⟨hoff, rfl, ?_, ?_, ?_, s.modChan_only ch _, fun c hc => State.modChan_chan_ne _ hc _⟩ <;>
      simp [Chan.pmuCtrlWritten, hoff]
  · exact exec_pePmuRangeWrite_disconnected haccepts (by simp [State.pmuRangeChecks, hrest, hrange, hopen]) hnew hopen
  · rw [exec_pePmuRangeWrite_connected haccepts (by simp [State.pmuRangeChecks, hrest, hrange, hfvmi]) hnew hconn]
    have hkept : (s.chan ch).rescaled (val % 8) = s.chan ch := if_neg hfvmi
    exact congrArg _ (State.modChan_congr (by rw [State.laneFree_chan, Chan.rangeBegun, hkept]))
  · have hpass : ∀ p ∈ s.pmuRangeChecks ch val, p.1 = false := by
      simp [State.pmuRangeChecks, hrest, hrange, ← hcode, hlow, hhigh]
    refine ⟨_, exec_pePmuRangeWrite_connected haccepts hpass hnew hconn, ?_⟩
    rw [State.modChan_chan_same]
    exact ⟨Chan.rangeBegun_code hfimv hcode hlow hhigh _, rfl, rfl, rfl, rfl, s.laneFree_modChan_only ch _,
      fun c hc => State.modChan_chan_ne _ hc _⟩
  · rw [exec_pmuCompliance hch (lim := true) (by simp [hconn, hlimit]), hfirst]
    rfl
  · rw [exec_pmuCompliance hch (lim := false) (by rcases hleft with h | h <;> simp [h])]
    rfl

/-! ### Clamps (10 R204, R205) -/

/-- The upper or lower programmable clamp starts to conduct: counted, active, seen. -/
def Chan.clampStarted (high : Bool) (c : Chan) : Chan :=
  if high then { c with clEvents := min 65535 (c.clEvents + 1), vchAct := true, vchSeen := true }
  else { c with clEvents := min 65535 (c.clEvents + 1), vclAct := true, vclSeen := true }

/-- The upper or lower protective clamp starts to conduct: counted, seen. -/
def Chan.protStarted (high : Bool) (c : Chan) : Chan :=
  if high then { c with clEvents := min 65535 (c.clEvents + 1), protHi := true }
  else { c with clEvents := min 65535 (c.clEvents + 1), protLo := true }

section
variable {s : State} {ch : Nat} (hch : ch < 192)
include hch

theorem exec_clampConduct_starts (high : Bool) (hacts : (s.chan ch).clampsAct = true)
    (hrest : (if high then (s.chan ch).vchAct else (s.chan ch).vclAct) = false) :
    exec (.clampConduct ch high true) s = .next ((s.modChan ch (Chan.clampStarted high)).cause Ty.pe ch 8) :=
  (onUnit_of _ _ (decide_eq_true hch)).trans (congrArg _
    ((if_neg (not_not_intro rfl)).trans (if_pos ⟨hacts, by simp [hrest]⟩)))

theorem exec_clampConduct_ends (high : Bool) : exec (.clampConduct ch high false) s
    = .next (s.modChan ch (fun c => if high then { c with vchAct := false } else { c with vclAct := false })) :=
  (onUnit_of _ _ (decide_eq_true hch)).trans (congrArg _ (if_pos Bool.false_ne_true))

theorem exec_protClampConduct (high : Bool) (hon : s.stage = .on) (hpowered : s.pwr.analogOff = false) :
    exec (.protClampConduct ch high) s = .next ((s.modChan ch (Chan.protStarted high)).cause Ty.pe ch 16) :=
  (onUnit_of _ _ (decide_eq_true hch)).trans (congrArg _ (if_pos ⟨hon, by simp [hpowered]⟩))

end

/-! ### The contact test (10 R217) -/

theorem exec_contactTestDone {s : State} {ch a : Nat} (hch : ch < 192) (hbegan : (s.chan ch).conAt = some a)
    (hended : a + 60 * fsUs ≤ s.up) (mv : Int) :
    exec (.contactTestDone ch mv) s = .next ((s.modChan ch (fun c => { c with
      conAt := none,
      conRes := if -200 < mv ∧ mv < 200 then 3 else if mv ≤ -1500 ∨ 1500 ≤ mv then 2 else 1 })).cause Ty.pe ch 32) := by
  refine (onUnit_of _ _ (decide_eq_true hch)).trans (congrArg _ ?_)
  rw [hbegan]
  exact if_pos hended

/-- The fields of the word CONTACT_TEST_START writes: START, POLARITY, CURRENT. -/
theorem contactWord_fields (pol cur : Nat) : bit (1 + 2 * (pol % 2) + 4 * (cur % 4)) 0 = true
    ∧ bit (1 + 2 * (pol % 2) + 4 * (cur % 4)) 1 = decide (pol % 2 = 1)
    ∧ bits (1 + 2 * (pol % 2) + 4 * (cur % 4)) 2 2 = cur % 4 := by
  simp only [bit, bits_eq, Nat.testBit_eq_decide_div_mod_eq, decide_eq_true_eq, decide_eq_decide]
  omega

theorem exec_contactTestStart {s : State} {fn ch : Nat} (haccepts : s.accepts fn Ty.pe ch 0x05C = true)
    (hidle : s.siteIdle (s.chOwner ch) = true) (hcon : (s.chan ch).conAt = none) (hen : (s.hdr Ty.pe ch).en = true)
    (hhiz : (s.chan ch).isHiz s.now s.up = true) (pol cur : Nat) :
    exec (.contactTestStart fn ch pol cur) s = .next ((s.laneFree ch).modChan ch (fun c => { c with
      conPol := decide (pol % 2 = 1), conCur := cur % 4, conAt := some s.up, conRes := 0 })) := by
  obtain ⟨hstart, hpol, hcur⟩ := contactWord_fields pol cur
  refine (onUnit_onWrite haccepts _).trans (congrArg _ ?_)
  rw [State.wContact, hstart, hpol, hcur, State.checked_pass _ (by simp [hidle, hcon, hen, hhiz])]
  rfl

/-- Settles O14: the clamp's state tells which start of conduction counts, the elapsed time when a test ends. That a test ends the
isolation of its lane is log entry 57. -/
theorem clampsAndContactTest : Obligations.ClampsAndContactTest :=
  ⟨⟨fun _ _ hch => exec_clampConduct_starts hch true, fun _ _ hch => exec_clampConduct_starts hch false,
    fun _ _ hch => ⟨exec_clampConduct_ends hch true, exec_clampConduct_ends hch false⟩,
    fun _ _ hch hon hpowered => ⟨exec_protClampConduct hch true hon hpowered, exec_protClampConduct hch false hon hpowered⟩⟩,
   fun _ _ _ pol cur haccepts hidle hcon hen hhiz => exec_contactTestStart haccepts hidle hcon hen hhiz pol cur,
   fun _ _ _ mv hch hbegan hended => exec_contactTestDone hch hbegan hended mv⟩

/-! ### Writes of the level registers (10 R212, R214, R215, R219) -/

@[simp] theorem Chan.settleClamps_code (c : Chan) (d : Nat) : c.settleClamps.code d = c.code d := by
  rw [Chan.settleClamps]
  split <;> rfl

section
variable {s : State} {fn ch d val : Nat} (hd : d < 10) (haccepts : s.accepts fn Ty.lvl ch (0x040 + 4 * d) = true)
include hd haccepts

theorem exec_lvlDacWrite : exec (.lvlDacWrite fn ch d val) s = .next (s.wLvlDac ch d val) := by
  refine (onUnit_of _ _ (decide_eq_true ⟨State.accepts_fn haccepts, hd⟩)).trans (congrArg _ ?_)
  exact State.onWrite_of_accepts haccepts _

theorem exec_lvlDacWrite_stores (hfree : d ∈ (s.chan ch).lvlSet → (s.chan ch).lvlSetAt + fsNs ≤ s.up) :
    exec (.lvlDacWrite fn ch d val) s
      = .next (s.modChan ch (fun c => (c.setCode d (val % 65536)).settleClamps)) := by
  rw [exec_lvlDacWrite hd haccepts]
  refine congrArg _ (State.modChan_congr (if_neg ?_))
  rintro ⟨hset, hlate⟩
  exact Nat.not_le.mpr hlate (hfree (List.contains_iff_mem.mp hset))

theorem exec_lvlDacWrite_yields (hset : d ∈ (s.chan ch).lvlSet) (hlate : s.up < (s.chan ch).lvlSetAt + fsNs) :
    exec (.lvlDacWrite fn ch d val) s = .next (s.modChan ch id) := by
  rw [exec_lvlDacWrite hd haccepts]
  exact congrArg _ (State.modChan_congr (if_pos ⟨List.contains_iff_mem.mpr hset, hlate⟩))

end

section
variable {s : State} {fn ch val : Nat} (haccepts : s.accepts fn Ty.lvl ch 0x080 = true)
include haccepts

theorem exec_lvlQueuePush_room (hroom : (s.chan ch).lvlq.length < 64) (hdac : val / 65536 % 16 ≤ 9) :
    exec (.lvlQueuePush fn ch val) s = .next (s.modChan ch (fun c => { c with
      lvlq := lvlInsert { dac := val / 65536 % 16, code := val % 65536, stamp := s.now } c.lvlq })) := by
  have hfield : bits val 16 4 = val / 65536 % 16 := bits_eq val 16 4
  refine (onUnit_onWrite haccepts _).trans (congrArg _ ?_)
  rw [State.wLvlPush, hfield, State.checked_pass _ (by simp [hroom, hdac])]

theorem exec_lvlQueuePush_full (hfull : 64 ≤ (s.chan ch).lvlq.length) :
    exec (.lvlQueuePush fn ch val) s = .next (s.reject fn Code.levelQueueFull Ty.lvl ch) :=
  (onUnit_onWrite haccepts _).trans (congrArg _ 
    (State.checked_fail (code := Code.levelQueueFull) (by simp [firstFail, hfull]) (by decide) s _ _ _ _))

end

theorem exec_lvlQueueFlush {s : State} {fn ch : Nat} (haccepts : s.accepts fn Ty.lvl ch 0x084 = true) :
    exec (.lvlQueueFlush fn ch) s = .next (s.modChan ch (fun c => { c with lvlq := [] })) :=
  (onUnit_onWrite haccepts _).trans (congrArg _ (if_pos (by decide)))

/-! ### Engine entries (10 R214, R215) -/

theorem State.modChan_lclkOf (s : State) (i ch : Nat) (f : Chan → Chan) : (s.modChan i f).lclkOf ch = s.chOwner ch := rfl

section
variable {s : State} {ch : Nat} {e : LvlEntry} {rest : List LvlEntry} (hch : ch < 192)
  (hfly : (s.chan ch).lvlFly = e :: rest) (hlive : (s.hdr Ty.lvl ch).retired = false)
include hch hfly hlive

/-- An engine entry finds the queue full. -/
theorem exec_lvlEntryArrive_full (hfull : 64 ≤ (s.chan ch).lvlq.length) :
    exec (.lvlEntryArrive ch) s = .next (((((s.modChan ch (fun c => { c with lvlFly := rest })).modChan ch
      (fun c => { c with lvlOver := true, lvlDrop := satAdd sat8 c.lvlDrop 1 })).cause Ty.lvl ch 2).raisePage
        Code.levelDropped Ty.lvl ch)) := by
  refine (onUnit_of _ _ (decide_eq_true hch)).trans (congrArg _ ?_)
  rw [State.lvlArrive, hfly]
  exact (if_neg (by simp [hlive])).trans (if_pos (by simpa using hfull))

/-- An engine entry finds room: it is inserted, and marked late when the latest tick has come to its stamp. -/
theorem exec_lvlEntryArrive_room (hroom : (s.chan ch).lvlq.length < 64) :
    exec (.lvlEntryArrive ch) s = .next (when ((s.site (s.chOwner ch)).lclkLast.any (fun r => ttLe e.stamp (r * 256)))
      (fun t => (t.modChan ch (fun c => { c with lvlLate := true })).cause Ty.lvl ch 4)
      ((s.modChan ch (fun c => { c with lvlFly := rest })).modChan ch (fun c => { c with lvlq := lvlInsert e c.lvlq }))) := by
  refine (onUnit_of _ _ (decide_eq_true hch)).trans (congrArg _ ?_)
  rw [State.lvlArrive, hfly]
  refine (if_neg (by simp [hlive])).trans ((if_neg (by simpa using hroom)).trans ?_)
  rw [State.modChan_site, State.modChan_lclkOf]
  cases (s.site (s.chOwner ch)).lclkLast with
  | none => rfl
  | some r => rw [Option.any_some, when]

end

/-! ### The order of the level queue (10 R214) -/

/-- An entry goes behind the entries stamped at or before it and before the later ones. -/
theorem lvlInsert_split {e : LvlEntry} {l : List LvlEntry} (hhalf : ∀ x ∈ e :: l, x.stamp < 2 ^ 63)
    (hsorted : l.Pairwise (fun a b => a.stamp ≤ b.stamp)) :
    ∃ pre post, l = pre ++ post ∧ lvlInsert e l = pre ++ e :: post
      ∧ (∀ x ∈ pre, x.stamp ≤ e.stamp) ∧ ∀ x ∈ post, e.stamp < x.stamp := by
  induction l with
  | nil => exact ⟨[], [], rfl, rfl, by simp, by simp⟩
  | cons x l ih =>
    obtain ⟨hfirst, hrest⟩ := List.pairwise_cons.mp hsorted
    have hbefore := ttLt_of_lt_half (hhalf e (by simp)) (hhalf x (by simp))
    rw [lvlInsert, hbefore]
    by_cases hlt : e.stamp < x.stamp
    · refine ⟨[], x :: l, rfl, if_pos (by simpa using hlt), by simp, fun y hy => ?_⟩
      rcases List.mem_cons.mp hy with rfl | hy
      · exact hlt
      · exact Nat.lt_of_lt_of_le hlt (hfirst y hy)
    · obtain ⟨pre, post, rfl, hinsert, hpre, hpost⟩ := ih (fun y hy => hhalf y (by grind)) hrest
      refine ⟨x :: pre, post, rfl, ?_, ?_, hpost⟩
      · rw [if_neg (by simpa using hlt), hinsert, List.cons_append]
      · exact List.forall_mem_cons.mpr ⟨Nat.not_lt.mp hlt, hpre⟩

theorem lvlInsert_length (e : LvlEntry) (l : List LvlEntry) : (lvlInsert e l).length = l.length + 1 := by
  induction l with
  | nil => rfl
  | cons x l ih =>
    rw [lvlInsert]
    split
    · rfl
    · rw [List.length_cons, ih, List.length_cons]

section
variable {e : LvlEntry} {l : List LvlEntry} (hhalf : ∀ x ∈ e :: l, x.stamp < 2 ^ 63)
  (hsorted : l.Pairwise (fun a b => a.stamp ≤ b.stamp))
include hhalf hsorted

theorem lvlInsert_pairwise : (lvlInsert e l).Pairwise (fun a b => a.stamp ≤ b.stamp) := by
  obtain ⟨pre, post, rfl, hinsert, hpre, hpost⟩ := lvlInsert_split hhalf hsorted
  obtain ⟨hbefore, hafter, hacross⟩ := List.pairwise_append.mp hsorted
  rw [hinsert]
  refine List.pairwise_append.mpr ⟨hbefore, List.pairwise_cons.mpr ⟨fun x hx => Nat.le_of_lt (hpost x hx), hafter⟩, fun x hx => ?_⟩
  exact List.forall_mem_cons.mpr ⟨hpre x hx, hacross x hx⟩

/-- Among equal stamps the entry is the last. -/
theorem lvlInsert_filter : (lvlInsert e l).filter (fun x => x.stamp == e.stamp)
    = l.filter (fun x => x.stamp == e.stamp) ++ [e] := by
  obtain ⟨pre, post, rfl, hinsert, -, hpost⟩ := lvlInsert_split hhalf hsorted
  have hlater : post.filter (fun x => x.stamp == e.stamp) = [] :=
    List.filter_eq_nil_iff.mpr fun x hx => by simpa using Nat.ne_of_gt (hpost x hx)
  simp [hinsert, hlater]

end

/-- Settles O15: a DAC's latest tick, the room of the queue and the order of times pick each case. -/
theorem levelCodesAndQueue : Obligations.LevelCodesAndQueue := by
  refine ⟨fun s fn ch d val hd haccepts hfree => ?_, fun s fn ch d val hd haccepts hset hlate => ?_,
    fun s fn ch val => exec_lvlQueuePush_room, fun s fn ch val => exec_lvlQueuePush_full, fun s fn ch => exec_lvlQueueFlush,
    fun s ch e rest hch hfly hlive hroom hahead => ?_, fun s ch r e rest hch hfly hlive hroom htick hlate => ?_,
    fun s ch e rest hch hfly hlive hfull => ?_, fun e l hhalf hsorted =>
      ⟨lvlInsert_pairwise hhalf hsorted, lvlInsert_length e l, lvlInsert_filter hhalf hsorted⟩⟩
  · refine ⟨_, exec_lvlDacWrite_stores hd haccepts hfree, ?_⟩
    rw [State.modChan_chan_same]
    refine ⟨?_, fun k hk => ?_, fun c hc => State.modChan_chan_ne _ hc _, s.modChan_only ch _⟩
    · rw [Chan.settleClamps_code, Chan.setCode_code_same, Nat.mod_mod]
    · rw [Chan.settleClamps_code, Chan.setCode_code_ne _ hk]
  · refine ⟨_, exec_lvlDacWrite_yields hd haccepts hset hlate, fun c => ?_, s.modChan_only ch _⟩
    simp
  · have hontime : ¬ (s.site (s.chOwner ch)).lclkLast.any (fun r => ttLe e.stamp (r * 256)) = true := by
      rw [Option.any_eq_true]
      rintro ⟨r, htick, hlate⟩
      exact Bool.false_ne_true ((ttLt_of_ttLe hlate).symm.trans (hahead r htick))
    refine ⟨_, (exec_lvlEntryArrive_room hch hfly hlive hroom).trans (congrArg _ (if_neg hontime)), ?_,
      (s.modChan_only ch _).trans (State.modChan_only _ ch _)⟩
    rw [State.modChan_chan_same, State.modChan_chan_same]
  · have hpast : (s.site (s.chOwner ch)).lclkLast.any (fun r => ttLe e.stamp (r * 256)) = true :=
      Option.any_eq_true _ _ |>.mpr ⟨r, htick, hlate⟩
    refine ⟨_, (exec_lvlEntryArrive_room hch hfly hlive hroom).trans (congrArg _ (if_pos hpast)), ?_,
      State.cause_irqStatus (by decide) _ _ _, ?_⟩
    · rw [State.cause_chan, State.modChan_chan_same, State.modChan_chan_same, State.modChan_chan_same]
    · exact (((s.modChan_only ch _).trans ((State.modChan_only _ ch _).trans (State.modChan_only _ ch _))).mono (by decide)).trans
        ((State.cause_only _ _ _ _).mono (by decide))
  · refine ⟨_, exec_lvlEntryArrive_full hch hfly hlive hfull, ?_, ?_⟩
    · rw [State.raisePage_chan, State.cause_chan, State.modChan_chan_same, State.modChan_chan_same]
      rfl
    · exact (((s.modChan_only ch _).trans (State.modChan_only _ ch _)).mono (by decide)).trans
        (((State.cause_only _ _ _ _).mono (by decide)).trans ((State.raisePage_only _ _ _ _).mono (by decide)))

end Sys2Proof.Machine
end

section
/-! The rules shared by the statements of 11_compare_and_fail_capture.md to 18_faults_and_health.md: what updates, memory
accesses and queue operations touch. -/

namespace Sys2Proof.Machine

-- In one thread: the whole text is compiled near its memory limit.
set_option Elab.async false

/-! ### Frames composed -/

/-- Two changes in a row, within the parts of both. -/
theorem Only.comp {l m n : List Part} {s t u : State} (h₁ : Only l s t) (h₂ : Only m t u) (hl : l ⊆ n := by decide)
    (hm : m ⊆ n := by decide) : Only n s u := (h₁.mono hl).trans (h₂.mono hm)

theorem Only.foldl_fst {α β : Type} {l : List Part} {f : State × α → β → State × α} (hf : ∀ p b, Only l p.1 (f p b).1)
    (bs : List β) (p : State × α) : Only l p.1 (bs.foldl f p).1 := by
  induction bs generalizing p with
  | nil => exact Only.refl l p.1
  | cons b bs ih => exact (hf p b).trans (ih (f p b))

theorem Only.when {l : List Part} {f : State → State} (hf : ∀ t, Only l t (f t)) (c : Bool) (s : State) :
    Only l s (when c f s) := by
  cases c
  · exact Only.refl l s
  · exact hf s

section
variable {l : List Part} {s t : State} (h : Only l s t)
include h

theorem Only.queue (hl : Part.queues ∉ l) (q : Nat) : t.queue q = s.queue q :=
  congrArg (Tbl.get ({} : QDesc) · q) (h _ hl)
theorem Only.fn (hl : Part.fns ∉ l) (i : Nat) : t.fn i = s.fn i := congrArg (Tbl.get ({} : Fn) · i) (h _ hl)
theorem Only.acq (hl : Part.acqs ∉ l) (k : Nat) : t.acq k = s.acq k := congrArg (Tbl.get ({} : Acq) · k) (h _ hl)
theorem Only.madc (hl : Part.madcs ∉ l) (k : Nat) : t.madc k = s.madc k := congrArg (Tbl.get ({} : Madc) · k) (h _ hl)
theorem Only.hist (hl : Part.hists ∉ l) (k : Nat) : t.hist k = s.hist k := congrArg (Tbl.get ({} : Hist) · k) (h _ hl)
theorem Only.fcu (hl : Part.fcus ∉ l) (r : Nat) : t.fcu r = s.fcu r := congrArg (Tbl.get ({} : Fcu) · r) (h _ hl)
theorem Only.clu (hl : Part.clus ∉ l) (k : Nat) : t.clu k = s.clu k := congrArg (Tbl.get ({} : Clu) · k) (h _ hl)
theorem Only.hbm (hl : Part.hbms ∉ l) (i : Nat) : t.hbm i = s.hbm i := congrArg (Tbl.get ({} : Hbm) · i) (h _ hl)
theorem Only.byte (hl : Part.mem ∉ l) (a : Nat) : t.byte a = s.byte a :=
  congrArg (Tbl.get (0 : Byte) · a) (h _ hl).1
theorem Only.secSite (hl : Part.sec ∉ l) (i : Nat) : t.secSite i = s.secSite i :=
  congrArg (fun x : Sec => Tbl.get ({} : SecSite) x.sites i) (h _ hl)
theorem Only.up (hl : Part.time ∉ l) : t.up = s.up := congrArg (· * 256) (h _ hl).2.1

end

/-! ### Updates of one part -/

section
variable (s : State)

theorem State.modHbm_only (i : Nat) (f : Hbm → Hbm) : Only [.hbms] s (s.modHbm i f) := by
  intro p hp
  cases p <;> simp [Part.same] at hp ⊢
theorem State.modAcq_only (i : Nat) (f : Acq → Acq) : Only [.acqs] s (s.modAcq i f) := by
  intro p hp
  cases p <;> simp [Part.same] at hp ⊢
theorem State.modSec_only (f : Sec → Sec) : Only [.sec] s (s.modSec f) := by
  intro p hp
  cases p <;> simp [Part.same] at hp ⊢
theorem State.modSecSite_only (i : Nat) (f : SecSite → SecSite) : Only [.sec] s (s.modSecSite i f) := by
  intro p hp
  cases p <;> simp [Part.same] at hp ⊢
theorem State.modGlb_only (f : Glb → Glb) : Only [.glb] s (s.modGlb f) := by
  intro p hp
  cases p <;> simp [Part.same] at hp ⊢
theorem State.modErr_only (f : ErrLog → ErrLog) : Only [.err] s (s.modErr f) := by
  intro p hp
  cases p <;> simp [Part.same] at hp ⊢
theorem State.modHlth_only (f : Hlth → Hlth) : Only [.hlth] s (s.modHlth f) := by
  intro p hp
  cases p <;> simp [Part.same] at hp ⊢
theorem State.modBmem_only (f : Bmem → Bmem) : Only [.bmem] s (s.modBmem f) := by
  intro p hp
  cases p <;> simp [Part.same] at hp ⊢
theorem State.modQmgr_only (f : Qmgr → Qmgr) : Only [.qmgr] s (s.modQmgr f) := by
  intro p hp
  cases p <;> simp [Part.same] at hp ⊢

/-! ### Memory and queues (15 R311, R317 to R322) -/

theorem State.setByte_only (a : Nat) (b : Byte) : Only [.mem] s (s.setByte a b) := by
  intro p hp
  cases p <;> simp [Part.same] at hp ⊢

theorem State.setBytes_only (a : Nat) (l : List Byte) : Only [.mem] s (s.setBytes a l) := by
  induction l generalizing s a with
  | nil => exact Only.refl _ s
  | cons b l ih => exact (s.setByte_only a b).trans (ih (s.setByte a b) (a + 1))

theorem State.wipe_only (a n : Nat) : Only [.mem] s (s.wipe a n) := by
  intro p hp
  cases p <;> simp [Part.same, State.wipe] at hp ⊢

theorem State.bankHits_only (a n : Nat) (w : Bool) : Only [.bmem] s (s.bankHits a n w) := by
  intro p hp
  cases p <;> simp [Part.same] at hp ⊢

theorem State.qHit_only (q : Nat) (w : Bool) : Only [.bmem] s (s.qHit q w) := s.bankHits_only _ _ w

/-- A production writes slots, TAIL and, with IRQ_EN, a message. -/
theorem State.produce_only (q : Nat) (l : List (List Byte)) : Only [.queues, .mem, .bmem, .fns, .outs] s (s.produce q l) := by
  have hslot : ∀ (t : State) (a n : Nat) (b : List Byte), Only [.bmem, .mem] t ((t.bankHits a n true).setBytes a b) :=
    fun t a n b => (t.bankHits_only a n true).comp (State.setBytes_only _ a b)
  unfold State.produce
  refine Only.trans ?_ ((Only.when (fun t => t.msix_only _ _) _ _).mono (by decide))
  refine Only.trans ?_ ((State.modQueue_only _ q _).mono (by decide))
  refine Only.trans ((s.qHit_only q true).mono (by decide)) (Only.mono (l := [.bmem, .mem]) ?_ (by decide))
  exact Only.foldl_fst (fun p b => hslot p.1 _ _ b) l (s.qHit q true, (s.queue q).tail)

/-- A consumption moves HEAD and, with IRQ_EN on a segment or command queue, sends a message. -/
theorem State.consume_only (q n : Nat) : Only [.queues, .bmem, .fns, .outs] s (s.consume q n) :=
  ((s.qHit_only q true).comp (State.modQueue_only _ q _)).comp
    (Only.when (fun t => t.msix_only _ _) _ _) (l := [.bmem, .queues])

end

end Sys2Proof.Machine
end

section
/-! Proofs of the statements of the family 18_faults_and_health.md, and the rules about the ERR log they rest on. -/

namespace Sys2Proof.Machine

-- In one thread: the whole text is compiled near its memory limit.
set_option Elab.async false

/-! ### The ERR log after a closing and after a new entry (18 R393 to R395) -/

/-- What the ERR page names: code, type and unit of the error raised last. -/
def ErrLog.named (l : ErrLog) : Nat × Nat × Nat := (l.lastCode, l.lastTy, l.lastInst)

/-- The entry closes as soon as it is written: classes 0xE and 0xF, and transients. -/
def ErrEntry.atOnce (e : ErrEntry) : Bool := decide (0xE000 ≤ e.code) || e.transient

/-- A new entry as the log keeps it. -/
def ErrEntry.entered (e : ErrEntry) (seq : Nat) : ErrEntry := { e with seq := seq, open_ := !e.atOnce }

/-- The causes of the ERR page that a new entry sets. -/
def ErrEntry.causes (e : ErrEntry) : Nat :=
  (if e.code / 4096 = 0xE then 1 else 0) + (if e.code = Code.errLost then 2 else 0)
    + (if e.code = Code.unitRetired ∨ e.code = Code.chRetired then 4 else 0)

/-- The state in which entry `e` is written: where it would be the 65th open one, the earliest has closed. -/
def State.openingFor (s : State) (e : ErrEntry) : State :=
  if !e.atOnce ∧ 64 ≤ openCount s.err.ring then
    (match earliest s.err.ring with | some x => s.closeEntries (fun y => y.seq == x.seq) | none => s)
  else s

section
variable (s : State)

/-- Closing entries changes of the log the open flags of the ring. -/
theorem State.closeEntries_err (p : ErrEntry → Bool) : (s.closeEntries p).err
    = { s.err with ring := s.err.ring.map (fun e => if e.open_ && p e then { e with open_ := false } else e) } := by
  unfold State.closeEntries
  dsimp only
  rw [State.copyAll_err]
  rfl

theorem State.openingFor_err (e : ErrEntry) : ∃ ring, (s.openingFor e).err = { s.err with ring := ring } := by
  unfold State.openingFor
  split
  · split
    · exact ⟨_, s.closeEntries_err _⟩
    · exact ⟨_, rfl⟩
  · exact ⟨_, rfl⟩

/-- The log with entry `e` written, before its site copies and causes. -/
def State.enteredLog (s : State) (e : ErrEntry) : State :=
  (s.openingFor e).modErr (fun l => { l with
    ring := l.ring ++ [e.entered s.err.nextSeq], nextSeq := (l.nextSeq + 1) % 65536, lastWrite := some s.up })

theorem State.writeEntry_eq (e : ErrEntry) : s.writeEntry e
    = (if e.atOnce then (s.enteredLog e).copyEntry (e.entered s.err.nextSeq) else s.enteredLog e).cause Ty.err 0 e.causes :=
  rfl

/-- A new entry stands last in the ring under the next number; of the other fields only the time of the write changes. -/
theorem State.writeEntry_err (e : ErrEntry) : ∃ ring, (s.writeEntry e).err = { s.err with
    ring := ring ++ [e.entered s.err.nextSeq], nextSeq := (s.err.nextSeq + 1) % 65536, lastWrite := some s.up } := by
  obtain ⟨ring, hring⟩ := s.openingFor_err e
  refine ⟨ring, ?_⟩
  have hentered : (s.enteredLog e).err = { s.err with
      ring := ring ++ [e.entered s.err.nextSeq], nextSeq := (s.err.nextSeq + 1) % 65536, lastWrite := some s.up } := by
    rw [State.enteredLog, State.modErr_err, hring]
  rw [State.writeEntry_eq, State.cause_err]
  split
  · rw [State.copyEntry_err, hentered]
  · exact hentered

@[simp] theorem State.writeEntry_named (e : ErrEntry) : (s.writeEntry e).err.named = s.err.named := by
  obtain ⟨ring, hlog⟩ := s.writeEntry_err e
  rw [hlog]
  rfl

@[simp] theorem State.errDrain_named : s.errDrain.err.named = s.err.named := by
  unfold State.errDrain
  split
  · split
    · exact State.writeEntry_named _ _
    · split
      · rfl
      · exact State.writeEntry_named _ _
  · rfl

@[simp] theorem State.newEntry_named (e : ErrEntry) : (s.newEntry e).err.named = s.err.named := by
  unfold State.newEntry
  dsimp only
  split
  · rw [State.writeEntry_named, State.errDrain_named]
  · split <;> exact s.errDrain_named

/-- The ERR page names the error raised last by code, type and unit. -/
theorem State.raise_named (code ty inst : Nat) (site : Option Nat) (detail : Nat) :
    (s.raise code ty inst site detail).err.named = (code, ty, inst) := by
  unfold State.raise State.raiseFull State.raiseAt
  dsimp only
  split
  · rfl
  · rw [State.newEntry_named]
    rfl

end

/-! ### What raising an error does to page headers (18 R393)

The log sets causes of the ERR page and changes no other field of a header. -/

section
variable {α : Type} {f : Hdr → α} (hf : ∀ (h : Hdr) n, f { h with irqStatus := n } = f h) {b : Nat} (hb : b < 256)
include hf hb

theorem State.writeEntry_hdr_keep (s : State) (e : ErrEntry) (a : Nat) : f ((s.writeEntry e).hdr a b) = f (s.hdr a b) := by
  unfold State.writeEntry
  dsimp only
  rw [State.cause_keep f hf _ _ hb (by decide)]
  (repeat' split) <;> simp

theorem State.errDrain_hdr_keep (s : State) (a : Nat) : f (s.errDrain.hdr a b) = f (s.hdr a b) := by
  unfold State.errDrain
  (repeat' split) <;> simp [State.writeEntry_hdr_keep hf hb]

theorem State.newEntry_hdr_keep (s : State) (e : ErrEntry) (a : Nat) : f ((s.newEntry e).hdr a b) = f (s.hdr a b) := by
  unfold State.newEntry
  dsimp only
  (repeat' split) <;> simp [State.writeEntry_hdr_keep hf hb, State.errDrain_hdr_keep hf hb]

end

/-- The source page of an error counts it, saturating, and keeps its code, the ERR page too. -/
theorem State.raise_hdr_counted {inst : Nat} (hinst : inst < 256) (s : State) (code ty : Nat) (site : Option Nat) (detail : Nat) :
    ((s.raise code ty inst site detail).hdr ty inst).errCount = satAdd sat16 (s.hdr ty inst).errCount 1
      ∧ ((s.raise code ty inst site detail).hdr ty inst).lastCode = code := by
  refine Prod.mk_inj.mp ?_
  unfold State.raise State.raiseFull State.raiseAt
  dsimp only
  split
  · simp
  · rw [State.newEntry_hdr_keep (f := fun h => (h.errCount, h.lastCode)) (fun _ _ => rfl) hinst]
    simp

/-- Settles O8: the source page counts and keeps the code, the ERR page names the error, and `errorParts` is the frame. -/
theorem errorIsCountedAndNamedOnItsPage : Obligations.ErrorIsCountedAndNamedOnItsPage := by
  intro s code ty inst site detail hinst
  obtain ⟨hcount, hcode⟩ := State.raise_hdr_counted hinst s code ty site detail
  obtain ⟨hlast, hty, hid⟩ := And.imp_right Prod.mk_inj.mp (Prod.mk_inj.mp (s.raise_named code ty inst site detail))
  exact ⟨hcount, hcode, hlast, hty, hid, s.raise_only code ty inst site detail⟩

/-! ### Values of a histogram unit (18 R397) -/

theorem Hist.bin_lt (h : Hist) (v : Int) : h.bin v < 64 := by
  unfold Hist.bin
  split <;> omega

theorem Hist.bin_eq_zero_iff {h : Hist} {v : Int} : h.bin v = 0 ↔ v < h.origin := by
  unfold Hist.bin
  split <;> omega

section
variable {h : Hist} {v : Int} (hwidth : 0 < (h.width : Int))
include hwidth

/-- From the origin on, the bins below `n` are full ranges below `origin + (n − 1) · width`. -/
theorem Hist.le_bin_iff {n : Nat} (hpos : 1 ≤ n) (hle : n ≤ 63) :
    n ≤ h.bin v ↔ h.origin + ((n : Int) - 1) * h.width ≤ v := by
  have hbelow : 0 ≤ ((n : Int) - 1) * h.width := Int.mul_nonneg (by omega) (by omega)
  have hquot : (n : Int) - 1 ≤ (v - h.origin) / h.width ↔ ((n : Int) - 1) * h.width ≤ v - h.origin :=
    Int.le_ediv_iff_mul_le hwidth
  have hquot_nonneg : 0 ≤ v - h.origin → 0 ≤ (v - h.origin) / h.width := fun hv => Int.ediv_nonneg hv (by omega)
  unfold Hist.bin
  split <;> omega

/-- A bin inside the range takes the values of its WIDTH. -/
theorem Hist.bin_eq_iff {n : Nat} (hpos : 1 ≤ n) (hle : n ≤ 62) :
    h.bin v = n ↔ h.origin + ((n : Int) - 1) * h.width ≤ v ∧ v < h.origin + (n : Int) * h.width := by
  have hfrom := Hist.le_bin_iff (v := v) hwidth hpos (by omega)
  have hbelow := Hist.le_bin_iff (v := v) hwidth (n := n + 1) (by omega) (by omega)
  rw [show ((n + 1 : Nat) : Int) - 1 = n by omega] at hbelow
  omega

theorem Hist.bin_eq_last_iff : h.bin v = 63 ↔ h.origin + 62 * (h.width : Int) ≤ v := by
  have hfrom := Hist.le_bin_iff (v := v) hwidth (n := 63) (by omega) (by omega)
  have hlt := h.bin_lt v
  omega

end

/-- What saturates when a unit takes a value: its bin or SUM. -/
def Hist.saturates (h : Hist) (v : Int) : Prop :=
  Tbl.get 0 h.bins (h.bin v) = 0xFFFFFFFF ∨ h.sum + v < -(2 ^ 63) ∨ 2 ^ 63 ≤ h.sum + v

theorem Hist.take_snd (h : Hist) (v : Int) : (h.take v).2 = true ↔ h.saturates v := by
  simp [Hist.take, Hist.saturates, sat32]
  omega

theorem clampI_eq (lo hi i : Int) (h : lo ≤ hi) : clampI lo hi i = max lo (min hi i) := by
  unfold clampI
  split
  · omega
  · split <;> omega

/-- The state in which unit `k` has taken a value: its registers as `r` gives them, a saturation flagged with its cause. -/
def State.histTaken (s : State) (k : Nat) (r : Hist × Bool) : State :=
  when r.2 (fun t => (t.modHist k (fun h => { h with sat := true })).cause Ty.hist k 1) (s.modHist k (fun _ => r.1))

theorem State.histTaken_hist (s : State) (k j : Nat) (r : Hist × Bool) :
    (s.histTaken k r).hist j = if j = k then { r.1 with sat := r.1.sat || r.2 } else s.hist j := by
  obtain ⟨h, sat⟩ := r
  cases sat <;> by_cases hj : j = k <;> simp [State.histTaken, hj]

theorem State.histTaken_only (s : State) (k : Nat) (r : Hist × Bool) : Only (.hists :: causeParts) s (s.histTaken k r) := by
  have htaken : Only (.hists :: causeParts) s (s.modHist k (fun _ => r.1)) := (s.modHist_only k _).mono (by decide)
  unfold State.histTaken when
  split
  · exact htaken.trans (((State.modHist_only _ k _).mono (by decide)).trans ((State.cause_only _ _ _ _).mono (by decide)))
  · exact htaken

/-- HIST_SAMPLE takes the oldest value of the feed. -/
theorem exec_histSample {s : State} {k : Nat} (hk : k < 24) {v : Int} {rest : List Int} (hfeed : (s.hist k).feed = v :: rest) :
    exec (.histSample k) s = .next (s.histTaken k (({ s.hist k with feed := rest } : Hist).take v)) := by
  refine (onUnit_of _ _ (decide_eq_true hk)).trans (congrArg _ ?_)
  rw [State.histSample, hfeed]
  rfl

/-- Settles O48: the bin by its quotient, the statistics by one value, and a saturation sets SAT and its cause beside. -/
theorem histogramValuesEnterTheirBins : Obligations.HistogramValuesEnterTheirBins := by
  rintro s k v O W rest hk hfeed rfl rfl hwidth
  obtain ⟨r, hr⟩ : ∃ r, ({ s.hist k with feed := rest } : Hist).take v = r := ⟨_, rfl⟩
  obtain ⟨t, ht⟩ : ∃ t, s.histTaken k r = t := ⟨_, rfl⟩
  have hunit : t.hist k = { r.1 with sat := r.1.sat || r.2 } := by rw [← ht, State.histTaken_hist, if_pos rfl]
  have hsat : r.2 = true ↔ (s.hist k).saturates v := by rw [← hr]; exact Hist.take_snd _ v
  refine ⟨t, by rw [exec_histSample hk hfeed, hr, ht], (s.hist k).bin v, (s.hist k).bin_lt v, Hist.bin_eq_zero_iff,
    fun n => Hist.bin_eq_iff hwidth, Hist.bin_eq_last_iff hwidth, ?_⟩
  rw [hunit]
  subst hr
  refine ⟨Tbl.get_set_same .., fun j hj => Tbl.get_set_ne _ _ _ _ hj, rfl, clampI_eq _ _ _ (by decide), ?_, ?_,
    fun hsaturates => ?_, fun hbin hlow hhigh => ?_, rfl, rfl, rfl, rfl, fun j hj => ?_, ht ▸ s.histTaken_only k _⟩
  · change (if v < (s.hist k).minV then v else (s.hist k).minV) = _
    omega
  · change (if (s.hist k).maxV < v then v else (s.hist k).maxV) = _
    omega
  · have hflag := hsat.mpr hsaturates
    refine ⟨by simp [hflag], ?_⟩
    rw [← ht, State.histTaken, hflag]
    exact State.cause_irqStatus (by decide) _ _ _
  · have hflag := Bool.eq_false_iff.mpr (mt hsat.mp (by rintro (h | h | h) <;> omega))
    refine ⟨by rw [hflag, Bool.or_false]; rfl, ?_⟩
    rw [← ht, State.histTaken, hflag]
    exact s.modHist_only k _
  · rw [← ht, State.histTaken_hist, if_neg hj]

/-! ### Histogram controls (18 R398, R402, R403) -/

section
variable {s : State} {fn k : Nat} (haccepts : s.accepts fn Ty.hist k 0x040 = true)
include haccepts

theorem exec_histRunStart :
    exec (.histRunStart fn k) s = .next (s.wHistCtrl fn k 1) := onUnit_onWrite haccepts _

theorem exec_histRunStop :
    exec (.histRunStop fn k) s = .next (s.wHistCtrl fn k 0) := onUnit_onWrite haccepts _

theorem exec_histClear :
    exec (.histClear fn k) s = .next (s.wHistCtrl fn k (2 + b2n (s.hist k).run)) := onUnit_onWrite haccepts _

end

/-- The check of a write of HIST_CTRL fails: a clear while running, or a start of a unit that is off. -/
def State.histCtrlBad (s : State) (k val : Nat) : Bool :=
  (bit val 1 && (s.hist k).run) || (bit val 0 && !(s.hist k).run && !(s.hdr Ty.hist k).en)

/-- What a write of HIST_CTRL makes of the unit. -/
def Hist.ctrlWritten (val : Nat) (h : Hist) : Hist :=
  let h := { h with run := bit val 0, sat := h.sat && !bit val 3 }
  if bit val 1 then h.clear else h

section
variable {s : State} {fn k val : Nat}

theorem State.wHistCtrl_eq : s.wHistCtrl fn k val = s.checked fn Ty.hist k [(s.histCtrlBad k val, Code.blkBusy)]
    (fun t => t.modHist k (Hist.ctrlWritten val)) := rfl

theorem State.wHistCtrl_refused (hbad : s.histCtrlBad k val = true) :
    s.wHistCtrl fn k val = s.reject fn Code.blkBusy Ty.hist k := by
  rw [State.wHistCtrl_eq, State.checked_fail (code := Code.blkBusy) (by rw [hbad]; rfl) (by decide)]

theorem State.wHistCtrl_written (hgood : s.histCtrlBad k val = false) :
    s.wHistCtrl fn k val = s.modHist k (Hist.ctrlWritten val) := by
  rw [State.wHistCtrl_eq, State.checked_pass _ (by simpa using hgood)]

end

/-! ### The ring (18 R393 to R395) -/

/-- The entry that names the errors missed. -/
def State.lostEntry (s : State) : ErrEntry :=
  { code := Code.errLost, site := 16, ty := Ty.err, inst := 0, firstTT := s.err.missFirst, lastTT := s.err.missLast
    count := s.err.missed }

theorem State.lostEntry_causes (s : State) : s.lostEntry.causes = 2 := by
  simp [State.lostEntry, ErrEntry.causes, Code.errLost, Code.unitRetired, Code.chRetired]

theorem State.closeDue_only (s : State) : Only errorParts s s.closeDue :=
  only_errorParts_of_sansErrorParts s.closeDue_sansErrorParts

theorem State.errDrain_only (s : State) : Only errorParts s s.errDrain :=
  only_errorParts_of_sansErrorParts s.errDrain_sansErrorParts

/-- Entries a millisecond old close; their numbers stay. -/
theorem State.closeDue_err (s : State) : s.closeDue.err = { s.err with ring := s.err.ring.map (fun x =>
    if x.open_ = true ∧ ttLe (x.firstTT + fsMs) s.now = true then { x with open_ := false } else x) } := by
  rw [State.closeDue, State.closeEntries_err]
  simp only [Bool.and_eq_true]

section
variable {s : State}

theorem State.errDrain_waits (hwait : s.errCanWrite = false) : s.errDrain = s := by
  rw [State.errDrain, hwait]
  rfl

section
variable (hcan : s.errCanWrite = true)
include hcan

theorem State.errDrain_reserve {x : ErrEntry} {rest : List ErrEntry} (hres : s.err.reserve = x :: rest) :
    s.errDrain = (s.modErr (fun l => { l with reserve := rest })).writeEntry x := by
  rw [State.errDrain, hcan, hres]
  rfl

theorem State.errDrain_missed (hres : s.err.reserve = []) (hmissed : 0 < s.err.missed) :
    s.errDrain = (s.modErr (fun l => { l with missed := 0 })).writeEntry s.lostEntry := by
  rw [State.errDrain, hcan, hres]
  simp [Nat.ne_of_gt hmissed, State.lostEntry]

end

theorem State.errMirror_open {x : ErrEntry} {rest : List ErrEntry} (hring : s.err.ring = x :: rest) (hopen : x.open_ = true) :
    s.errMirror = s := by
  rw [State.errMirror, hring]
  simp [hopen]

theorem State.errMirror_moves {x : ErrEntry} {rest : List ErrEntry} (hring : s.err.ring = x :: rest) (hvalid : s.err.valid = true)
    (hclosed : x.open_ = false) (hroom : 0 < (s.queue s.err.queue).room) :
    s.errMirror = (s.modErr (fun l => { l with ring := rest, headSeq := (x.seq + 1) % 65536 })).produce s.err.queue [x.bytes] := by
  rw [State.errMirror, hring]
  simp [hvalid, hclosed, hroom]

end

/-! ### Module histograms (18 R399, R402) -/

/-- The check of a write of HLTH_HIST_CTRL fails: a clear or a new shift of a histogram that runs. -/
def Hlth.ctrlBad (h : Hlth) (val : Nat) : Bool :=
  (h.cmdlat.run && (bit val 2 || bits val 4 4 != h.cmdlat.shift)) || (h.qdepth.run && (bit val 3 || bits val 8 4 != h.qdepth.shift))

/-- What a write of HLTH_HIST_CTRL makes of the HLTH page. -/
def Hlth.ctrlWritten (val : Nat) (h : Hlth) : Hlth :=
  let c := { h.cmdlat with run := bit val 0, shift := bits val 4 4 }
  let q := { h.qdepth with run := bit val 1, shift := bits val 8 4 }
  { h with cmdlat := if bit val 2 then c.clear else c, qdepth := if bit val 3 then q.clear else q, queue := bits val 12 20 }

section
variable {s : State} {fn : Nat}

theorem State.wHlthCtrl_eq (val : Nat) : s.wHlthCtrl fn val = s.checked fn Ty.hlth 0 [(s.hlth.ctrlBad val, Code.blkBusy)]
    (fun t => t.modHlth (Hlth.ctrlWritten val)) := rfl

theorem State.wHlthCtrl_refused {val : Nat} (hbad : s.hlth.ctrlBad val = true) :
    s.wHlthCtrl fn val = s.reject fn Code.blkBusy Ty.hlth 0 := by
  rw [State.wHlthCtrl_eq, State.checked_fail (code := Code.blkBusy) (by rw [hbad]; rfl) (by decide)]

theorem State.wHlthCtrl_written {val : Nat} (hgood : s.hlth.ctrlBad val = false) {h : Hlth} (hh : s.hlth.ctrlWritten val = h) :
    s.wHlthCtrl fn val = s.modHlth (fun _ => h) := by
  rw [State.wHlthCtrl_eq, State.checked_pass _ (by simpa using hgood)]
  subst hh
  rfl

/-- CMD_CLEAR and QD_CLEAR write HLTH_HIST_CTRL as read with their bit set; a write judged by `ctrlBad` alone is refused or acts. -/
theorem exec_cmdClear (haccepts : s.accepts fn Ty.hlth 0 0x060 = true) :
    exec (.cmdClear fn) s = .next (s.wHlthCtrl fn (s.hlth.ctrl + 4)) := onUnit_onWrite haccepts _

theorem exec_qdClear (haccepts : s.accepts fn Ty.hlth 0 0x060 = true) :
    exec (.qdClear fn) s = .next (s.wHlthCtrl fn (s.hlth.ctrl + 8)) := onUnit_onWrite haccepts _

end

/-- HLTH_HIST_CTRL as read, with the clear bits `c` and `q` of the two histograms. -/
def Hlth.clearing (h : Hlth) (c q : Bool) : Nat := h.ctrl + 4 * b2n c + 8 * b2n q

section
variable {h : Hlth} (hcmd : h.cmdlat.shift < 16) (hqd : h.qdepth.shift < 16) (hqueue : h.queue < 2 ^ 20) (c q : Bool)
include hcmd hqd hqueue

theorem Hlth.clearing_fields : bit (h.clearing c q) 0 = h.cmdlat.run ∧ bit (h.clearing c q) 1 = h.qdepth.run
    ∧ bit (h.clearing c q) 2 = c ∧ bit (h.clearing c q) 3 = q ∧ bits (h.clearing c q) 4 4 = h.cmdlat.shift
    ∧ bits (h.clearing c q) 8 4 = h.qdepth.shift ∧ bits (h.clearing c q) 12 20 = h.queue := by
  have hrun : ∀ b : Bool, b2n b < 2 := by decide
  have hbool : ∀ (b : Bool) (n : Nat), n % 2 = b2n b → decide (n % 2 = 1) = b := by
    intro b n h
    cases b <;> simp [h, b2n]
  have h0 := hrun h.cmdlat.run
  have h1 := hrun h.qdepth.run
  have h2 := hrun c
  have h3 := hrun q
  simp only [bits_eq, bit, Hlth.clearing, Hlth.ctrl, Nat.testBit_eq_decide_div_mod_eq]
  refine ⟨hbool _ _ ?_, hbool _ _ ?_, hbool _ _ ?_, hbool _ _ ?_, ?_, ?_, ?_⟩ <;> omega

theorem Hlth.ctrlBad_clearing : h.ctrlBad (h.clearing c q) = (h.cmdlat.run && c || h.qdepth.run && q) := by
  obtain ⟨-, -, hc, hq, hs, hs', -⟩ := Hlth.clearing_fields hcmd hqd hqueue c q
  simp [Hlth.ctrlBad, hc, hq, hs, hs']

theorem Hlth.ctrlWritten_clearing : h.ctrlWritten (h.clearing c q) = { h with
    cmdlat := if c then h.cmdlat.clear else h.cmdlat, qdepth := if q then h.qdepth.clear else h.qdepth } := by
  obtain ⟨h0, h1, hc, hq, hs, hs', hn⟩ := Hlth.clearing_fields hcmd hqd hqueue c q
  simp only [Hlth.ctrlWritten, h0, h1, hc, hq, hs, hs', hn]

end

/-- A module histogram that does not run, cleared. -/
theorem ModHist.clear_of_stopped {h : ModHist} (hrun : h.run = false) : h.clear = { shift := h.shift } := by
  rw [ModHist.clear, hrun]

/-- CMDLAT_SAMPLE of a latency the module has accepted. -/
theorem exec_cmdlatSample {s : State} {ns : Nat} (hmem : ns ∈ s.hlth.lat) : exec (.cmdlatSample ns) s
    = .next (s.modHlth (fun h => { h with lat := h.lat.erase ns, cmdlat := h.cmdlat.take ns })) :=
  congrArg _ (if_pos (List.contains_iff_mem.mpr hmem))

/-- QDEPTH_SAMPLE, a microsecond after the last. -/
theorem exec_qdepthSample {s : State} (hdue : s.hlth.sampledAt * 256 + fsUs ≤ s.up) : exec .qdepthSample s
    = .next (s.modHlth (fun h => { h with
        sampledAt := s.uptime, qdepth := if h.qdepth.run then h.qdepth.take (s.queue h.queue).used else h.qdepth })) :=
  congrArg _ (if_neg (Nat.not_lt.mpr hdue))

/-- The entry written stands last in the ring. -/
theorem State.writeEntry_getLast (s : State) (e : ErrEntry) :
    (s.writeEntry e).err.ring.getLast? = some (e.entered s.err.nextSeq) := by
  obtain ⟨ring, hlog⟩ := s.writeEntry_err e
  rw [hlog]
  exact List.getLast?_concat

theorem State.writeEntry_nextSeq (s : State) (e : ErrEntry) :
    (s.writeEntry e).err.nextSeq = (s.err.nextSeq + 1) % 65536 := by
  obtain ⟨ring, hlog⟩ := s.writeEntry_err e
  rw [hlog]

theorem State.writeEntry_waiting (s : State) (e : ErrEntry) :
    (s.writeEntry e).err.reserve = s.err.reserve ∧ (s.writeEntry e).err.missed = s.err.missed := by
  obtain ⟨ring, hlog⟩ := s.writeEntry_err e
  rw [hlog]
  exact ⟨rfl, rfl⟩

/-- Settles O49: a control is refused or written by its check; the ring closes, fills and empties by the rules of the log. -/
theorem histogramsAndErrorRingAdvance : Obligations.HistogramsAndErrorRingAdvance := by
  refine ⟨fun s fn k haccepts => ⟨fun hen => ?_, fun hoff hstop => ?_, ?_, fun hrun => ?_, fun hstop => ?_⟩,
    fun s ns hmem => congrArg _ (if_neg (mt List.contains_iff_mem.mp hmem)), fun s ns hmem => ?_,
    fun s hdue => ⟨fun hrun => ?_, fun hstop => ?_⟩, fun s fn haccepts hcmd hqd hqueue => ?_, fun s => ?_,
    fun s => ⟨fun hwait => congrArg _ (State.errDrain_waits hwait), fun hcan x rest hres => ?_, fun hcan hres hmissed => ?_⟩,
    fun s x rest hring => ⟨fun hvalid hclosed hroom => ?_, fun hopen => congrArg _ (State.errMirror_open hring hopen)⟩⟩
  · rw [exec_histRunStart haccepts,
      State.wHistCtrl_written (by simp [State.histCtrlBad, hen, bit, Nat.testBit_eq_decide_div_mod_eq])]
    exact congrArg _ (State.modHist_congr (by simp [Hist.ctrlWritten, bit, Nat.testBit_eq_decide_div_mod_eq]))
  · rw [exec_histRunStart haccepts, State.wHistCtrl_refused (by simp [State.histCtrlBad, hoff, hstop, bit])]
  · rw [exec_histRunStop haccepts, State.wHistCtrl_written (by simp [State.histCtrlBad, bit])]
    exact congrArg _ (State.modHist_congr (by simp [Hist.ctrlWritten, bit]))
  · rw [exec_histClear haccepts, hrun, State.wHistCtrl_refused
      (by simp [State.histCtrlBad, hrun, bit, b2n, Nat.testBit_eq_decide_div_mod_eq])]
  · rw [exec_histClear haccepts, hstop, State.wHistCtrl_written (by simp [State.histCtrlBad, hstop, bit, b2n])]
    exact congrArg _ (State.modHist_congr
      (by simp [Hist.ctrlWritten, Hist.clear, hstop, bit, b2n, Nat.testBit_eq_decide_div_mod_eq]))
  · exact ⟨_, exec_cmdlatSample hmem, rfl, rfl, rfl, rfl, rfl, fun b hb => hb ▸ Tbl.get_set_same .., rfl, s.modHlth_only _⟩
  · rw [exec_qdepthSample hdue]
    exact ⟨_, rfl, by simp [hrun, ModHist.take], by simp [hrun, ModHist.take], rfl, rfl, s.modHlth_only _⟩
  · rw [exec_qdepthSample hdue, State.modHlth, hstop]
    rfl
  · have hwritten := @Hlth.ctrlWritten_clearing s.hlth hcmd hqd hqueue
    have hbad := @Hlth.ctrlBad_clearing s.hlth hcmd hqd hqueue
    refine ⟨fun hstop => ?_, fun hstop => ?_, fun hrun => ?_, fun hrun => ?_⟩
    · refine (exec_cmdClear haccepts).trans (congrArg _ ((State.wHlthCtrl_written (val := s.hlth.clearing true false) ?_
        (hwritten true false)).trans ?_))
      · simp [hbad, hstop]
      · simp [State.modHlth, ModHist.clear_of_stopped hstop]
    · refine (exec_qdClear haccepts).trans (congrArg _ ((State.wHlthCtrl_written (val := s.hlth.clearing false true) ?_
        (hwritten false true)).trans ?_))
      · simp [hbad, hstop]
      · simp [State.modHlth, ModHist.clear_of_stopped hstop]
    · refine (exec_cmdClear haccepts).trans (congrArg _ (State.wHlthCtrl_refused (val := s.hlth.clearing true false) ?_))
      simp [hbad, hrun]
    · refine (exec_qdClear haccepts).trans (congrArg _ (State.wHlthCtrl_refused (val := s.hlth.clearing false true) ?_))
      simp [hbad, hrun]
  · exact ⟨_, rfl, by rw [State.closeDue_err], by rw [State.closeDue_err], s.closeDue_only⟩
  · refine ⟨_, congrArg Host.Outcome.next (State.errDrain_reserve hcan hres), (State.writeEntry_waiting _ x).1, State.writeEntry_nextSeq _ x,
      ⟨_, State.writeEntry_getLast _ x, rfl, rfl⟩, ?_⟩
    rw [← State.errDrain_reserve hcan hres]
    exact s.errDrain_only
  · refine ⟨_, congrArg Host.Outcome.next (State.errDrain_missed hcan hres hmissed), (State.writeEntry_waiting _ _).2,
      ⟨_, State.writeEntry_getLast _ _, rfl, rfl, rfl⟩, ?_, ?_⟩
    · rw [State.writeEntry_eq]
      exact State.cause_irqStatus (by rw [State.lostEntry_causes]; decide) _ _ _
    · rw [← State.errDrain_missed hcan hres hmissed]
      exact s.errDrain_only
  · refine ⟨_, congrArg Host.Outcome.next (State.errMirror_moves hring hvalid hclosed hroom), ?_, ?_, ?_, ?_,
      (s.modErr_only _).comp (State.produce_only _ _ _)⟩
    · rw [State.produce_err_eq]
      rfl
    · rw [State.produce_err_eq]
      rfl
    · rw [State.produce_queue, if_pos rfl]
      rfl
    · rw [State.produce_queue, if_pos rfl]
      rfl

end Sys2Proof.Machine
end

section
/-! Proofs of the statements of the family 15_memory_and_queues.md on queues, and the rules about doorbells, the descriptor window
and the staging of entries they rest on. -/

namespace Sys2Proof.Machine

-- In one thread: the whole text is compiled near its memory limit.
set_option Elab.async false

/-! ### Doorbells (15 R324) -/

/-- What `State.serves` asks for, part by part. -/
theorem State.serves_iff {s : State} {fn q : Nat} : s.serves fn q = true ↔ fn < 17 ∧ q < 2 ^ 20 ∧ s.fnUp fn = true
    ∧ (s.fn fn).inReset = false ∧ s.qmgr.ready = true ∧ s.qOwner q = ownerOfFn fn ∧ (s.queue q).enable = true := by
  simp [State.serves, and_assoc]

section
variable {s : State} {fn q : Nat} {ok : QDesc → Bool} {act : State → State}

/-- A doorbell that is served and passes the checks of its OP acts. -/
theorem State.doorbell_acts (h : s.serves fn q = true) (hok : ok (s.queue q) = true) : s.doorbell fn q ok act = act s := by
  obtain ⟨hfn, -, hup, hreset, hready, howner, hen⟩ := State.serves_iff.mp h
  simp [State.doorbell, State.inReset, hup, hreset, hready, howner, hen, hok, Nat.ne_of_lt hfn]

/-- A doorbell that fails the checks of its OP is dropped. -/
theorem State.doorbell_fails (h : s.serves fn q = true) (hbad : ok (s.queue q) = false) :
    s.doorbell fn q ok act = s.dbDrop fn q Code.queueDbDrop := by
  obtain ⟨hfn, -, hup, hreset, hready, howner, hen⟩ := State.serves_iff.mp h
  simp [State.doorbell, State.inReset, hup, hreset, hready, howner, hen, hbad, Nat.ne_of_lt hfn]

/-- A doorbell that is not served is dropped, whatever its OP. -/
theorem State.doorbell_unserved (hup : s.fnUp fn = true)
    (hrefused : s.qmgr.ready = false ∨ s.qOwner q ≠ ownerOfFn fn ∨ (s.queue q).enable = false ∨ s.inReset fn = true) :
    s.doorbell fn q ok act = s.dbDrop fn q Code.queueDbDrop := by
  unfold State.doorbell
  rw [if_neg (by simp [hup])]
  split
  · rfl
  · next hserved =>
    refine if_neg fun hacts => ?_
    rcases hrefused with h | h | h | h <;> simp_all

end

section
variable (s : State) (fn q code : Nat)

/-- A drop is counted, saturating; the rest is the error raised for it. -/
theorem State.dbDrop_qmgr : (s.dbDrop fn q code).qmgr = { s.qmgr with dbDrop := min (2 ^ 32 - 1) (s.qmgr.dbDrop + 1) } := by
  rw [State.dbDrop, State.raise_qmgr, State.cause_qmgr]
  rfl

theorem State.dbDrop_only : Only (.qmgr :: errorParts) s (s.dbDrop fn q code) :=
  ((s.modQmgr_only _).comp (State.cause_only _ _ _ _) (n := .qmgr :: causeParts)).comp (State.raise_only _ _ _ _ _ _)

end

/-! ### HEAD and TAIL of a queue -/

/-- From HEAD, the slots before `index` end at `index`. -/
theorem QDesc.head_to_index {d : QDesc} {index : Nat} (hhead : d.head < d.slots) (hindex : index < d.slots) :
    (d.head + (index + d.slots - d.head) % d.slots) % d.slots = index := by
  rw [Nat.add_mod_mod, show d.head + (index + d.slots - d.head) = index + d.slots by omega, Nat.add_mod_right, Nat.mod_eq_of_lt hindex]

section
variable (s : State) (q n : Nat)

theorem State.consume_queue (j : Nat) : (s.consume q n).queue j = if j = q then { s.queue j with
    head := ((s.queue j).head + n) % (s.queue j).slots, recs := (recsAfter (s.queue j).recs n).getD []
    shown := (s.queue j).shown.drop n } else s.queue j := by
  have hmsg : ∀ c t, ((when c (fun t => t.msix (s.queue q).fn (s.queue q).vector) t).queue j) = t.queue j := by
    intro c t
    cases c <;> simp
  unfold State.consume
  rw [hmsg, State.modQueue_queue]
  simp only [State.queue, State.qHit_queues]

/-- Consumption of a stream, completion or log queue sends no message. -/
theorem State.consume_only_queues (hkind : (s.queue q).type ≠ 1) (hkind' : (s.queue q).type ≠ 5) :
    Only [.queues, .bmem] s (s.consume q n) := by
  have hsilent : ((s.queue q).type == 1 || (s.queue q).type == 5) = false := by simp [hkind, hkind']
  unfold State.consume
  dsimp only
  rw [hsilent, Bool.and_false, when_false]
  exact (s.qHit_only q true).comp (State.modQueue_only _ q _)

end

/-! ### The doorbell commands -/

section
variable {s : State} {fn q index : Nat}

theorem exec_doorbellTail (hserves : s.serves fn q = true) (hkind : (s.queue q).type = 1 ∨ (s.queue q).type = 5)
    (hbound : s.isBound q = false) (hindex : index < (s.queue q).slots)
    (hused : (s.queue q).used ≤ (index + (s.queue q).slots - (s.queue q).head) % (s.queue q).slots) :
    exec (.doorbellTail fn q index) s
      = .next ((s.qHit q true).modQueue q (fun d => d.append index (s.qHit q true).uptime)) := by
  obtain ⟨hfn, hq, -⟩ := State.serves_iff.mp hserves
  refine (onUnit_of _ _ (decide_eq_true ⟨by omega, hq⟩)).trans (congrArg Host.Outcome.next ?_)
  rw [State.doorbell_acts hserves (by rcases hkind with h | h <;> simp [h, hbound, hindex, hused]), State.qHit_uptime]

/-- The checks of a HEAD doorbell on a descriptor. -/
def QDesc.headOk (d : QDesc) (index : Nat) : Bool :=
  (d.type == 2 || d.type == 3 || d.type == 4) && decide (index < d.slots)
    && decide ((index + d.slots - d.head) % d.slots ≤ d.used)
    && (d.type != 2 || (recsAfter d.recs ((index + d.slots - d.head) % d.slots)).isSome)

theorem exec_doorbellHead (hserves : s.serves fn q = true) : exec (.doorbellHead fn q index) s
    = .next (if (s.queue q).headOk index then
        s.consume q ((index + (s.queue q).slots - (s.queue q).head) % (s.queue q).slots)
      else s.dbDrop fn q Code.queueDbDrop) := by
  obtain ⟨hfn, hq, -⟩ := State.serves_iff.mp hserves
  refine (onUnit_of _ _ (decide_eq_true ⟨by omega, hq⟩)).trans (congrArg Host.Outcome.next ?_)
  split
  · next hok => exact State.doorbell_acts hserves hok
  · next hbad => exact State.doorbell_fails hserves (Bool.eq_false_iff.mpr hbad)

/-- The 8 bytes of a doorbell, field by field. -/
theorem doorbell_fields {op : Nat} (hq : q < 2 ^ 20) (hop : op < 16) (hindex : index < 2 ^ 24) :
    bits (q + op * 2 ^ 20 + index * 2 ^ 32) 20 4 = op ∧ bits (q + op * 2 ^ 20 + index * 2 ^ 32) 0 20 = q
      ∧ bits (q + op * 2 ^ 20 + index * 2 ^ 32) 32 24 = index ∧ q + op * 2 ^ 20 + index * 2 ^ 32 < 2 ^ 64 := by
  simp only [bits_eq]
  omega

theorem exec_doorbellRelease {op : Nat} (hfn : fn < 17) (hq : q < 2 ^ 20) (hlow : 2 ≤ op) (hop : op < 16) (hindex : index < 2 ^ 24) :
    exec (.doorbellRelease fn (q + op * 2 ^ 20 + index * 2 ^ 32)) s
      = .next (if op = 2 then s.qRelease fn q index else s.doorbell fn q (fun _ => false) (fun t => t)) := by
  obtain ⟨hop', hq', hindex', hlt⟩ := doorbell_fields hq hop hindex
  refine (onUnit_of _ _ (decide_eq_true ⟨by omega, hlt, by omega⟩)).trans ?_
  rw [hop', hq', hindex']

theorem State.qRelease_releases (hserves : s.serves fn q = true) (hkind : (s.queue q).type = 1) (hindex : index < (s.queue q).slots)
    (hsite : s.siteSt (ownerOfFn fn) = .idle ∨ s.siteSt (ownerOfFn fn) = .armed ∨ s.siteSt (ownerOfFn fn) = .running) :
    s.qRelease fn q index = (s.qHit q true).modQueue q (fun d => { d with released := true }) :=
  State.doorbell_acts hserves (by simp [hkind, hindex]; tauto)

end

/-- Settles O9: a served doorbell moves its queue or fails its OP's checks; one that is not served is dropped and counted. -/
theorem doorbellsMoveOrAreDropped : Obligations.DoorbellsMoveOrAreDropped := by
  refine ⟨⟨fun s fn q index hserves hkind hbound hindex hused => ?_, fun s fn q index hserves hkind hhead hindex hused => ?_,
    fun s fn q index hserves hkind hindex hindex' hsite => ?_⟩, fun s fn q index n hserves hkind hhead hindex hn hused =>
      ⟨fun rest hrest => ?_, fun hsplit => ⟨?_, ?_⟩⟩, fun s fn q index hfn hq hup hrefused op i hlow hop hindex hi => ?_⟩
  · obtain ⟨-, -, -, -, -, -, hen⟩ := State.serves_iff.mp hserves
    refine ⟨_, exec_doorbellTail hserves hkind hbound hindex hused, ?_, ?_, ?_, fun j hj => ?_,
      (s.qHit_only q true).comp (State.modQueue_only _ q _)⟩
    all_goals rw [State.modQueue_queue, (s.qHit_only q true).queue (by decide)]
    · rw [if_pos rfl, QDesc.append]
    · rw [if_pos rfl, QDesc.append]
    · rw [if_pos rfl, QDesc.append, hen]
    · rw [if_neg hj]
  · have hok : (s.queue q).headOk index = true := by rcases hkind with h | h <;> simp [QDesc.headOk, h, hindex, hused]
    refine ⟨_, (exec_doorbellHead hserves).trans (congrArg _ (if_pos hok)), ?_, ?_, fun j hj => ?_,
      (s.consume_only_queues q _ (by omega) (by omega)).mono (by decide)⟩
    all_goals rw [State.consume_queue]
    · rw [if_pos rfl, QDesc.head_to_index hhead hindex]
    · rw [if_pos rfl]
    · rw [if_neg hj]
  · obtain ⟨hfn, hq, -⟩ := State.serves_iff.mp hserves
    refine ⟨(s.qHit q true).modQueue q (fun d => { d with released := true }), ?_, ?_, fun j hj => ?_,
      (s.qHit_only q true).comp (State.modQueue_only _ q _)⟩
    · rw [exec_doorbellRelease hfn hq (by decide) (by decide) hindex', if_pos rfl,
        State.qRelease_releases hserves hkind hindex hsite]
    all_goals rw [State.modQueue_queue, (s.qHit_only q true).queue (by decide)]
    · rw [if_pos rfl]
    · rw [if_neg hj]
  · subst hn
    have hok : (s.queue q).headOk index = true := by simp [QDesc.headOk, hkind, hindex, hused, hrest]
    refine ⟨_, (exec_doorbellHead hserves).trans (congrArg _ (if_pos hok)), ?_, ?_, ?_, fun j hj => ?_,
      s.consume_only_queues q _ (by omega) (by omega)⟩
    all_goals rw [State.consume_queue]
    · rw [if_pos rfl, QDesc.head_to_index hhead hindex]
    · rw [if_pos rfl, hrest, Option.getD_some]
    · rw [if_pos rfl]
    · rw [if_neg hj]
  · subst hn
    have hbad : ¬ (s.queue q).headOk index = true := by simp [QDesc.headOk, hkind, hsplit]
    exact (exec_doorbellHead hserves).trans (congrArg _ (if_neg hbad))
  · rw [State.dbDrop_qmgr]
  · have hdrop : exec i s = .next (s.dbDrop fn q Code.queueDbDrop) := by
      rcases hi with rfl | rfl | rfl
      · exact (onUnit_of _ _ (decide_eq_true ⟨by omega, hq⟩)).trans (congrArg _ (State.doorbell_unserved hup hrefused))
      · exact (onUnit_of _ _ (decide_eq_true ⟨by omega, hq⟩)).trans (congrArg _ (State.doorbell_unserved hup hrefused))
      · refine (exec_doorbellRelease hfn hq hlow hop hindex).trans (congrArg Host.Outcome.next ?_)
        split
        · exact State.doorbell_unserved hup hrefused
        · exact State.doorbell_unserved hup hrefused
    exact ⟨_, hdrop, by rw [State.dbDrop_qmgr], by rw [State.dbDrop_qmgr], s.dbDrop_only fn q _⟩

end Sys2Proof.Machine
end

section
/-! Proofs of the statements of the family 15_memory_and_queues.md on entries appended to queues. -/

namespace Sys2Proof.Machine

-- In one thread: the whole text is compiled near its memory limit.
set_option Elab.async false

/-! ### Bytes written in a row -/

section
variable (s : State) {l : List Byte} {a k : Nat}

theorem State.setBytes_byte_add (hk : k < l.length) : (s.setBytes a l).byte (a + k) = l.getD k 0 := by
  rw [State.setBytes_byte, dif_pos ⟨by omega, by omega⟩]
  simp [hk]

theorem State.setBytes_byte_outside (hk : k < a ∨ a + l.length ≤ k) : (s.setBytes a l).byte k = s.byte k := by
  rw [State.setBytes_byte, dif_neg (by omega)]

/-- The entry produced stands in the slot TAIL named. -/
theorem State.produce_byte_add (q : Nat) (hk : k < l.length) :
    (s.produce q [l]).byte ((s.queue q).base + slotSize (s.queue q).type * (s.queue q).tail + k) = l.getD k 0 := by
  rw [State.produce_byte, State.setBytes_byte_add s hk]

end

/-- A production sends at most a message, which leaves of a function all but its pending bits. -/
theorem State.produce_fn_keep {α : Type} {f : Fn → α} (hf : ∀ x p, f { x with msixPend := p } = f x) (s : State) (q : Nat)
    (l : List (List Byte)) (i : Nat) : f ((s.produce q l).fn i) = f (s.fn i) := by
  have hmsix : ∀ (t : State) fn v, f ((t.msix fn v).fn i) = f (t.fn i) := by
    intro t fn v
    unfold State.msix
    dsimp only
    split
    · rfl
    · rw [State.modFn_fn]
      split
      · exact hf _ _
      · rfl
  have hslots := foldl_keep_fst (·.fns) (fun (p : State × Nat) b =>
    ((p.1.bankHits ((s.queue q).base + slotSize (s.queue q).type * p.2) b.length true).setBytes
      ((s.queue q).base + slotSize (s.queue q).type * p.2) b, (p.2 + 1) % (s.queue q).slots)) (by simp) l
    (s.qHit q true, (s.queue q).tail)
  have hfn : ∀ (u t : State), u.fns = t.fns → f (u.fn i) = f (t.fn i) := fun u t h => by simp only [State.fn, h]
  unfold State.produce when
  dsimp only
  split
  · rw [hmsix]
    exact hfn _ _ (hslots.trans (s.qHit_fns q true))
  · exact hfn _ _ (hslots.trans (s.qHit_fns q true))

/-! ### PUSH (15 R325) -/

section
variable {s : State} {fn : Nat} (hfn : fn < 17) (hup : s.fnUp fn = true) (hreset : (s.fn fn).inReset = false)
include hfn hup hreset

theorem exec_pushSelWrite (val : Nat) :
    exec (.pushSelWrite fn (.write 8 val)) s = .next (s.modFn fn (fun f => { f with pushSel := val % 2 ^ 20, push := [] })) := by
  refine (onUnit_of _ _ (decide_eq_true hfn)).trans (congrArg Host.Outcome.next ?_)
  simp [hup, State.barWrite, State.inReset, hreset]

theorem exec_pushWrite {off : Nat} {data : List Byte} (hlen : off + data.length ≤ 64) :
    exec (.pushWrite fn off data) s = .next (s.pushBytes fn off data) := by
  refine (onUnit_of _ _ (decide_eq_true ⟨hfn, hlen⟩)).trans (congrArg Host.Outcome.next ?_)
  simp [hup, hreset]

end

section
variable {s : State} {fn off : Nat} {data : List Byte}

theorem State.pushBytes_stages (hlen : off + data.length < 64) :
    s.pushBytes fn off data = s.modFn fn (fun f => { f with push := stageBytes f.push off data }) := by
  unfold State.pushBytes
  rw [if_pos (.inl (by omega))]
  exact State.modFn_congr rfl

/-- The state with entry `e` appended to the queue that function `fn` has selected. -/
def State.pushed (s : State) (fn : Nat) (e : List Byte) : State :=
  ((((s.modFn fn (fun f => { f with push := [] })).qHit (s.fn fn).pushSel true).bankHits
    ((s.queue (s.fn fn).pushSel).base + 64 * (s.queue (s.fn fn).pushSel).tail) 64 true).setBytes
    ((s.queue (s.fn fn).pushSel).base + 64 * (s.queue (s.fn fn).pushSel).tail) e).modQueue (s.fn fn).pushSel
      (fun d => d.append ((d.tail + 1) % d.slots) s.uptime)

theorem State.pushBytes_appends {e : List Byte} (hlen : off + data.length = 64) (hdata : data ≠ [])
    (hentry : stagedEntry (stageBytes (s.fn fn).push off data) = some e) (hserves : s.serves fn (s.fn fn).pushSel = true)
    (hkind : (s.queue (s.fn fn).pushSel).type = 1 ∨ (s.queue (s.fn fn).pushSel).type = 5)
    (hbound : s.isBound (s.fn fn).pushSel = false) (hroom : 0 < (s.queue (s.fn fn).pushSel).room) :
    s.pushBytes fn off data = s.pushed fn e := by
  obtain ⟨-, -, -, -, hready, howner, hen⟩ := State.serves_iff.mp hserves
  unfold State.pushBytes
  rw [if_neg (by simp [hlen, hdata])]
  dsimp only
  rw [hentry]
  dsimp only
  rw [if_pos ⟨hready, howner, hen, hkind, by simp [hbound]⟩, if_pos hroom]
  rfl

theorem State.pushed_only (s : State) (fn : Nat) (e : List Byte) : Only [.queues, .bmem, .fns, .mem] s (s.pushed fn e) :=
  (((s.modFn_only fn _).comp (State.qHit_only _ _ true) (n := [.fns, .bmem])).comp
    (State.bankHits_only _ _ 64 true) (n := [.fns, .bmem])).comp
      ((State.setBytes_only _ _ e).comp (State.modQueue_only _ _ _) (n := [.mem, .queues]))

theorem State.pushed_fn (s : State) (fn : Nat) (e : List Byte) : (s.pushed fn e).fn fn = { s.fn fn with push := [] } := by
  rw [State.pushed, State.modQueue_fn, (State.setBytes_only _ _ _).fn (by decide), (State.bankHits_only _ _ _ _).fn (by decide),
    (State.qHit_only _ _ _).fn (by decide), State.modFn_fn, if_pos rfl]

theorem State.pushed_queue (s : State) (fn : Nat) (e : List Byte) (j : Nat) : (s.pushed fn e).queue j
    = if j = (s.fn fn).pushSel then (s.queue j).append (((s.queue j).tail + 1) % (s.queue j).slots) s.uptime else s.queue j := by
  rw [State.pushed, State.modQueue_queue]
  simp [State.queue]

theorem State.pushed_byte (s : State) (fn : Nat) (e : List Byte) (a : Nat) : (s.pushed fn e).byte a
    = (s.setBytes ((s.queue (s.fn fn).pushSel).base + 64 * (s.queue (s.fn fn).pushSel).tail) e).byte a := by
  simp [State.pushed, State.setBytes_byte]

end

/-! ### Held completions and LOST entries (15 R321) -/

theorem exec_heldCompletionPost {s : State} {fn : Nat} (hfn : fn < 17) {h : Nat × List Byte} {rest : List (Nat × List Byte)}
    (htake : takeHeld (fun q => decide (0 < (s.queue q).room)) (s.fn fn).held = some (h, rest)) :
    exec (.heldCompletionPost fn) s = .next ((s.modFn fn (fun f => { f with held := rest })).produce h.1 [h.2]) := by
  refine (onUnit_of _ _ (decide_eq_true hfn)).trans (congrArg Host.Outcome.next ?_)
  rw [State.postHeld, htake]

/-- The LOST entry of a site's log queue. -/
def Site.lostEntry (x : Site) : ErrEntry :=
  { code := Code.errLost, site := 16, ty := Ty.err, inst := 0, firstTT := x.lostFirst, lastTT := x.lostLast, count := x.logLost }

theorem exec_logLostEntry {s : State} {st : Nat} (hst : st < 16) (hlost : 0 < (s.site st).logLost)
    (hen : (s.site st).logEn = true) (hvalid : (s.site st).logQValid = true) (hroom : 0 < (s.queue (s.site st).logQ).room) :
    exec (.logLostEntry st) s = .next ((s.produce (s.site st).logQ [(s.site st).lostEntry.bytes]).modSite st
      (fun x => { x with logLost := 0 })) :=
  (onUnit_of _ _ (decide_eq_true hst)).trans (congrArg Host.Outcome.next (if_pos ⟨hlost, hen, hvalid, hroom⟩))

/-- A log entry begins with its code. -/
theorem ErrEntry.bytes_code (e : ErrEntry) {k : Nat} (hk : k < 2) :
    e.bytes.getD k 0 = BitVec.ofNat 8 (e.code / 256 ^ k) ∧ k < e.bytes.length := by
  obtain rfl | rfl : k = 0 ∨ k = 1 := by omega
  · exact ⟨by simp [ErrEntry.bytes, le, List.range_succ], by simp [ErrEntry.bytes, le]⟩
  · exact ⟨by simp [ErrEntry.bytes, le, List.range_succ, Nat.shiftRight_eq_div_pow], by simp [ErrEntry.bytes, le]⟩

/-- Settles O10: every append writes one slot at TAIL and moves TAIL by one; staging and counts are of the function and the site. -/
theorem queueEntriesAreAppendedWithRoom : Obligations.QueueEntriesAreAppendedWithRoom := by
  refine ⟨⟨fun s fn val hfn hup hreset => exec_pushSelWrite hfn hup hreset val, fun s fn off data hfn hup hreset hlen => ?_,
    fun s fn off data e hfn hup hreset hlen hdata hentry hserves hkind hbound hroom => ?_⟩,
    fun s fn h rest hfn htake => ?_, fun s st hst hlost hen hvalid hroom => ?_⟩
  · exact (exec_pushWrite hfn hup hreset hlen.le).trans (congrArg _ (State.pushBytes_stages hlen))
  · refine ⟨_, (exec_pushWrite hfn hup hreset hlen.le).trans
      (congrArg _ (State.pushBytes_appends hlen hdata hentry hserves hkind hbound hroom)), ?_, ?_, ?_, fun k hk => ?_,
      fun a ha => ?_, s.pushed_only fn e⟩
    · rw [State.pushed_fn]
    · intro j
      rw [State.pushed_queue]
    · rw [State.pushed_queue, if_pos rfl, QDesc.append]
    · rw [State.pushed_byte]
      exact State.setBytes_byte_add s hk
    · rw [State.pushed_byte]
      exact State.setBytes_byte_outside s ha
  · refine ⟨_, exec_heldCompletionPost hfn htake, ?_, ?_, ?_, fun k hk => ?_, (s.modFn_only fn _).comp (State.produce_only _ _ _)⟩
    · rw [State.produce_fn_keep (f := Fn.held) (fun _ _ => rfl)]
      simp
    · rw [State.produce_queue, if_pos rfl]
      rfl
    · rw [State.produce_queue, if_pos rfl]
      rfl
    · exact State.produce_byte_add _ h.1 hk
  · refine ⟨_, exec_logLostEntry hst hlost hen hvalid hroom, by simp, ?_, fun k hk => ?_,
      ((s.produce_only _ _).comp (State.modSite_only _ st _))⟩
    · rw [State.modSite_queue, State.produce_queue, if_pos rfl]
      rfl
    · obtain ⟨hcode, hlen⟩ := (s.site st).lostEntry.bytes_code hk
      exact (State.produce_byte_add s _ hlen).trans hcode

end Sys2Proof.Machine
end

section
/-! Proofs of the statements of the family 15_memory_and_queues.md on the descriptor window. -/

namespace Sys2Proof.Machine

-- In one thread: the whole text is compiled near its memory limit.
set_option Elab.async false

theorem QDesc.word_lt (d : QDesc) : d.word < 2 ^ 128 := by
  have hflag : ∀ b : Bool, b2n b ≤ 1 := by decide
  have h₁ := hflag d.enable
  have h₂ := hflag d.ownerFn
  have h₃ := hflag d.released
  have h₄ := hflag d.irqEn
  unfold QDesc.word
  omega

/-- A value of 128 bits from its four words. -/
theorem words_join {w : Nat} (h : w < 2 ^ 128) :
    bits w 0 32 + bits w 32 32 * 2 ^ 32 + bits w 64 32 * 2 ^ 64 + bits w 96 32 * 2 ^ 96 = w := by
  simp only [bits_eq]
  omega

section
variable {s : State} {fn : Nat}

/-- The descriptor READ shows, in the four words of the window. -/
def Fn.withDesc (f : Fn) (w : Nat) : Fn :=
  { f with desc0 := bits w 0 32, desc1 := bits w 32 32, desc2 := bits w 64 32, desc3 := bits w 96 32, descErr := 0 }

theorem exec_descRead (h : s.accepts fn Ty.qmgr 0 0x058 = true) (hseen : fn = 0 ∨ s.qOwner (s.fn fn).descSel = ownerOfFn fn) :
    exec (.descRead fn) s = .next ((s.qHit (s.fn fn).descSel false).modFn fn
      (fun f => f.withDesc (s.queue (s.fn fn).descSel).word)) :=
  (onUnit_onWrite h _).trans (congrArg Host.Outcome.next (if_pos hseen))

/-- The 128-bit value in the window's words. -/
def Fn.descWord (f : Fn) : Nat := f.desc0 + f.desc1 * 2 ^ 32 + f.desc2 * 2 ^ 64 + f.desc3 * 2 ^ 96

/-- The descriptor WRITE stores: the fields of `w`, OWNER from the range rule. -/
def QDesc.stored (d : QDesc) (own w : Nat) : QDesc :=
  let fresh := bit w 100 && !d.enable
  { d with
    base := bits w 0 40, log2 := bits w 40 5, type := bits w 97 3, enable := bit w 100, released := bit w 102
    irqEn := bit w 103, vector := bits w 108 12, owner := if own < 16 then own else 0, ownerFn := own == 16
    head := if fresh then 0 else d.head, tail := if fresh then 0 else d.tail
    recs := if fresh then [] else d.recs, slip := if fresh then 0 else d.slip, shown := if fresh then [] else d.shown }

theorem exec_descWrite (h : s.accepts fn Ty.qmgr 0 0x058 = true)
    (hcheck : s.descCheck fn (s.fn fn).descSel (s.fn fn).descWord = 0) :
    exec (.descWrite fn) s = .next (((s.modFn fn (fun f => { f with descErr := 0 })).qHit (s.fn fn).descSel true).modQueue
      (s.fn fn).descSel (fun d => d.stored (s.qOwner (s.fn fn).descSel) (s.fn fn).descWord)) := by
  refine (onUnit_onWrite h _).trans (congrArg Host.Outcome.next ?_)
  have hcheck' : s.descCheck fn (s.fn fn).descSel
      ((s.fn fn).desc0 + (s.fn fn).desc1 * 2 ^ 32 + (s.fn fn).desc2 * 2 ^ 64 + (s.fn fn).desc3 * 2 ^ 96) = 0 := hcheck
  unfold State.descWrite
  simp only [hcheck', ne_eq, not_true_eq_false, if_false]
  rfl

end

/-- Settles O11: READ cuts the descriptor's word in four, WRITE stores the fields of the window's word. -/
theorem descriptorWindowReadsAndWrites : Obligations.DescriptorWindowReadsAndWrites := by
  refine ⟨fun s fn h hseen => ⟨_, exec_descRead h hseen, ?_, ?_,
    (s.qHit_only _ false).comp (State.modFn_only _ fn _), fun j hj => ?_⟩, fun s fn w h hw hcheck => ?_⟩
  · rw [State.modFn_fn, if_pos rfl]
    exact words_join (QDesc.word_lt _)
  · rw [State.modFn_fn, if_pos rfl]
    rfl
  · rw [State.modFn_fn, if_neg hj, (s.qHit_only _ false).fn (by decide)]
  · subst hw
    refine ⟨_, exec_descWrite h hcheck, ?_, ((s.modFn_only fn _).comp (State.qHit_only _ _ true) (n := [.fns, .bmem])).comp
      (State.modQueue_only _ _ _), fun j hj => ?_, _, rfl, ?_⟩
    · rw [State.modQueue_fn, (State.qHit_only _ _ true).fn (by decide), State.modFn_fn, if_pos rfl]
    · rw [State.modQueue_queue, if_neg hj, (State.qHit_only _ _ true).queue (by decide)]
      rfl
    · rw [State.modQueue_queue, if_pos rfl, (State.qHit_only _ _ true).queue (by decide), State.modFn_queue]
      refine ⟨rfl, bits_eq _ 40 5, bits_eq _ 97 3, rfl, rfl, rfl, bits_eq _ 108 12, beq_iff_eq, fun hfresh => ?_, fun hstale => ?_⟩
      · have hnew : (bit (s.fn fn).descWord 100 && !(s.queue (s.fn fn).descSel).enable) = true := by
          rw [hfresh.2]
          exact congrArg (· && true) hfresh.1
        exact ⟨if_pos hnew, if_pos hnew⟩
      · have hkept : ¬ (bit (s.fn fn).descWord 100 && !(s.queue (s.fn fn).descSel).enable) = true := by
          rcases hstale with h | h
          · rw [show bit (s.fn fn).descWord 100 = false from h]
            simp
          · simp [h]
        exact ⟨if_neg hkept, if_neg hkept⟩

end Sys2Proof.Machine
end

section
/-! Proofs of the statements of the family 16_sites_and_hosts.md on the engine mask, bursts and MCTP, and the rules they
rest on. -/

namespace Sys2Proof.Machine

-- In one thread: the whole text is compiled near its memory limit.
set_option Elab.async false

/-! ### What errors and completions leave of a site (18 R393, 15 R321) -/

/-- A site without the account of the log entries its queue lost. -/
def Site.sansLost (x : Site) : Site := { x with logLost := 0, lostFirst := 0, lostLast := 0 }

section
variable (s : State) (i : Nat)

@[simp] theorem State.postLog_sansLost (j : Nat) (e : List Byte) : ((s.postLog j e).site i).sansLost = (s.site i).sansLost := by
  unfold State.postLog
  dsimp only
  split
  · split
    · simp
    · rw [State.modSite_site]
      split <;> rfl
  · rfl

@[simp] theorem State.copyEntry_sansLost (e : ErrEntry) : ((s.copyEntry e).site i).sansLost = (s.site i).sansLost :=
  forEach_keep (fun t => (t.site i).sansLost) _ (fun _ _ => by simp) _ _

@[simp] theorem State.closeEntries_sansLost (p : ErrEntry → Bool) :
    ((s.closeEntries p).site i).sansLost = (s.site i).sansLost :=
  (foldl_keep (fun t => (t.site i).sansLost) _ (fun _ _ => by simp) _ _).trans (by simp)

@[simp] theorem State.writeEntry_sansLost (e : ErrEntry) : ((s.writeEntry e).site i).sansLost = (s.site i).sansLost := by
  unfold State.writeEntry
  dsimp only
  rw [State.cause_site]
  (repeat' split) <;> simp

@[simp] theorem State.errDrain_sansLost : (s.errDrain.site i).sansLost = (s.site i).sansLost := by
  unfold State.errDrain
  (repeat' split) <;> simp

@[simp] theorem State.newEntry_sansLost (e : ErrEntry) : ((s.newEntry e).site i).sansLost = (s.site i).sansLost := by
  unfold State.newEntry
  dsimp only
  (repeat' split) <;> simp

/-- Raising an error leaves all of a site but the count of its lost log entries. -/
@[simp] theorem State.raiseAt_sansLost (tt code ty inst : Nat) (site : Option Nat) (detail : Nat) (tr perm : Bool) :
    ((s.raiseAt tt code ty inst site detail tr perm).site i).sansLost = (s.site i).sansLost := by
  unfold State.raiseAt State.closeDue
  dsimp only
  split <;> simp

@[simp] theorem State.raise_sansLost (code ty inst : Nat) (site : Option Nat) (detail : Nat) :
    ((s.raise code ty inst site detail).site i).sansLost = (s.site i).sansLost :=
  s.raiseAt_sansLost i ..

@[simp] theorem State.raise_teMask (code ty inst : Nat) (site : Option Nat) (detail : Nat) :
    ((s.raise code ty inst site detail).site i).teMask = (s.site i).teMask :=
  (congrArg Site.teMask (s.raise_sansLost i code ty inst site detail) :)

end

/-! ### The engine mask (16 R343) -/

/-- The bits of a mask after the write of its word `k`. -/
theorem putWord_testBit (m k v i : Nat) : (putWord m k v).testBit i
    = if i < 32 * k then m.testBit i else if i < 32 * k + 32 then v.testBit (i - 32 * k) else m.testBit i := by
  have hsplit : putWord m k v = 2 ^ (32 * k) * (2 ^ 32 * (m >>> (32 * (k + 1))) + v % 2 ^ 32) + m % 2 ^ (32 * k) := by
    unfold putWord
    ring
  rw [hsplit, Nat.testBit_two_pow_mul_add _ (Nat.mod_lt _ (Nat.two_pow_pos _)),
    Nat.testBit_two_pow_mul_add _ (Nat.mod_lt _ (Nat.two_pow_pos _))]
  split
  · next h => simp [Nat.testBit_mod_two_pow, h]
  · split
    · next h => rw [if_pos (by omega), Nat.testBit_mod_two_pow, decide_eq_true (by omega), Bool.true_and]
    · next h => rw [if_neg (by omega), Nat.testBit_shiftRight, show 32 * (k + 1) + (i - 32 * k - 32) = i by omega]

theorem bits_testBit (w lo n i : Nat) : (bits w lo n).testBit i = (decide (i < n) && w.testBit (lo + i)) := by
  rw [bits, Nat.testBit_mod_two_pow, Nat.testBit_shiftRight]

theorem bits_putWord_same (m k v : Nat) : bits (putWord m k v) (32 * k) 32 = v % 2 ^ 32 := by
  refine Nat.eq_of_testBit_eq fun i => ?_
  rw [bits_testBit, putWord_testBit, Nat.testBit_mod_two_pow, if_neg (by omega), Nat.add_sub_cancel_left]
  by_cases h : i < 32
  · rw [if_pos (by omega)]
  · simp [h]

theorem bits_putWord_ne (m v : Nat) {k j : Nat} (h : j ≠ k) : bits (putWord m k v) (32 * j) 32 = bits m (32 * j) 32 := by
  refine Nat.eq_of_testBit_eq fun i => ?_
  rw [bits_testBit, bits_testBit, putWord_testBit]
  by_cases hi : i < 32
  · split
    · rfl
    · rw [if_neg (by omega)]
  · simp [hi]

/-- A site does not write the engine mask of any site page. -/
theorem State.mayAccess_teMask (s : State) {fn st k : Nat} (hk : k < 3) (hfn : fn ≠ 0) :
    s.mayAccess fn Ty.site st (0x07C + 4 * k) true = false := by
  have hro : siteReadOnly Ty.site (0x07C + 4 * k) = true := by simp [siteReadOnly]; omega
  unfold State.mayAccess
  cases siteOfFn fn with
  | none => simp [hfn]
  | some i => simp [hro, State.siteWindow]

theorem State.onWrite_teMask (s : State) {fn st k : Nat} (hk : k < 3) (hfn : fn ≠ 0) (op : State → State) (i : Nat) :
    ((s.onWrite fn Ty.site st (0x07C + 4 * k) op).site i).teMask = (s.site i).teMask := by
  unfold State.onWrite
  rw [s.mayAccess_teMask hk hfn, if_pos (c := ¬ false = true ∨ _) (.inl Bool.false_ne_true)]
  split
  · rfl
  · split
    · simp [State.refuseReset, State.aerReport]
    · split
      · simp [State.denyUnmapped]
      · split
        · rfl
        · simp [State.deny]

theorem exec_siteTeMaskWrite {s : State} {fn st k : Nat} (hk : k < 3) (hfn : fn < 18) (val : Nat) :
    exec (.siteTeMaskWrite fn st k val) s = .next (s.onWrite fn Ty.site st (0x07C + 4 * k) (fun t => t.wTeMask fn st k val)) :=
  onUnit_of _ _ (decide_eq_true ⟨hfn, hk⟩)

/-- Settles O46: the owner function's write of one word of the mask, and the refusals. -/
theorem engineMaskIsWrittenOnlyWhileIdle : Obligations.EngineMaskIsWrittenOnlyWhileIdle := by
  refine ⟨fun s st k val hk h => ⟨fun hidle => ?_, fun hbusy => ?_⟩, fun s fn st k val hk hst hfn hfn' => ?_⟩
  · rw [exec_siteTeMaskWrite hk (by decide), State.onWrite_of_accepts h, State.wTeMask, State.checked_pass _ (by simp [hidle])]
    refine ⟨_, rfl, ?_, fun j hj => ?_, ?_, fun i hi => ?_, s.modSite_only st _⟩
    · rw [State.modSite_site, if_pos rfl, bits_putWord_same]
    · rw [State.modSite_site, if_pos rfl, bits_putWord_ne _ _ hj]
    · rw [State.modSite_site, if_pos rfl]
    · rw [State.modSite_site, if_neg hi]
  · rw [exec_siteTeMaskWrite hk (by decide), State.onWrite_of_accepts h, State.wTeMask,
      State.checked_fail (code := Code.blkBusy) (by simp [firstFail, hbusy]) (by decide)]
    exact ⟨rfl, fun i => s.raise_teMask i _ _ _ _ _⟩
  · exact ⟨_, exec_siteTeMaskWrite hk hfn' val, s.onWrite_teMask hk hfn _⟩

end Sys2Proof.Machine
end

section
/-! Proofs of the statement of MCTP control (16 R350) and the test access port (19 R413, R414). -/

namespace Sys2Proof.Machine

-- In one thread: the whole text is compiled near its memory limit.
set_option Elab.async false

/-! ### MCTP control (16 R350) -/

section
variable {s : State} (hup : s.mctpUp = true)
include hup

theorem State.mctpSend_up (cmd cc : Nat) (data : List Byte) : s.mctpSend cmd cc data = s.emit (mctpMsg cmd cc data) :=
  if_pos hup

theorem exec_setEndpointId (op eid : Nat) : exec (.setEndpointId op eid) s
    = .next (if 1 < op ∨ eid < 8 ∨ 254 < eid then s.emit (mctpMsg 0x01 0x02 [])
      else (s.modSmb (fun m => { m with eid := eid })).emit (mctpMsg 0x01 0 (le 1 0 ++ le 1 eid ++ le 1 0))) := by
  refine congrArg Host.Outcome.next ((if_neg (not_not.mpr hup)).trans ?_)
  have hup' : (s.modSmb (fun m => { m with eid := eid })).mctpUp = true := hup
  rw [State.mctpSend_up hup, State.mctpSend_up hup']

theorem exec_getMctpVersionSupport (ty : Nat) : exec (.getMctpVersionSupport ty) s
    = .next (if ty = 0x00 ∨ ty = 0x05 ∨ ty = 0xFF then s.emit (mctpMsg 0x04 0 [1, 0xF1, 0xF3, 0xF1, 0])
      else s.emit (mctpMsg 0x04 0x80 [])) := by
  refine congrArg Host.Outcome.next ?_
  rw [State.mctpSend_up hup, State.mctpSend_up hup]

theorem exec_mctpUnsupported_control {cmd : Nat} (hcmd : cmd < 256) (hunknown : cmd = 0 ∨ 5 < cmd) :
    exec (.mctpUnsupported 0 cmd) s = .next (s.emit (mctpMsg cmd 0x05 [])) := by
  refine congrArg Host.Outcome.next ((if_neg (by omega)).trans ?_)
  rw [Nat.mod_eq_of_lt hcmd, State.mctpSend_up hup]

end

/-! ### The lands (19 R413, R414) -/

theorem clearMask_testBit (w m i : Nat) : (clearMask w m).testBit i = (w.testBit i && (decide (i < 32) && !m.testBit i)) := by
  simp only [clearMask, Nat.testBit_and, Nat.testBit_xor, Nat.testBit_two_pow_sub_one]
  cases w.testBit i <;> cases m.testBit i <;> cases decide (i < 32) <;> rfl

theorem add_two_pow_testBit {x k : Nat} (hx : x.testBit k = false) (i : Nat) :
    (x + 2 ^ k).testBit i = (x.testBit i || decide (i = k)) := by
  rcases lt_trichotomy i k with h | rfl | h
  · rw [Nat.add_comm, Nat.testBit_two_pow_add_gt h, decide_eq_false h.ne, Bool.or_false]
  · rw [Nat.add_comm, Nat.testBit_two_pow_add_eq, hx]
    simp
  · have heven : x / 2 ^ k % 2 = 0 := by
      rw [Nat.testBit_eq_decide_div_mod_eq] at hx
      have := of_decide_eq_false hx
      omega
    have hdiv : (x + 2 ^ k) / 2 ^ (k + 1) = x / 2 ^ (k + 1) := by
      rw [pow_succ, ← Nat.div_div_eq_div_mul, ← Nat.div_div_eq_div_mul, Nat.add_div_right _ (Nat.two_pow_pos k)]
      omega
    obtain ⟨j, rfl⟩ : ∃ j, i = j + (k + 1) := ⟨i - (k + 1), by omega⟩
    rw [Nat.testBit_add, Nat.testBit_add, hdiv, decide_eq_false h.ne', Bool.or_false]

theorem add_flag_testBit {x k : Nat} (hx : x.testBit k = false) (b : Bool) (i : Nat) :
    (x + 2 ^ k * b2n b).testBit i = (x.testBit i || (decide (i = k) && b)) := by
  cases b
  · simp [b2n]
  · simp [b2n, add_two_pow_testBit hx]

/-- The bits of 0x407, the open-drain lands, among the 12 lands. -/
theorem openDrain_testBit {i : Nat} (hi : i < 12) : (0x407 : Nat).testBit i = decide (i ≤ 2 ∨ i = 10) := by
  revert i
  decide

/-- A held land shows its held value, an open-drain one held at 1 the level of the board. -/
theorem State.lands_held {s : State} {v : Nat} (hhold : s.jtag.hold = some v) (seen : Nat) {i : Nat} (hi : i < 12) :
    (s.lands seen).testBit i
      = if i = 9 then v.testBit 9 else if i ≤ 2 ∨ i = 10 then seen.testBit i && v.testBit i else seen.testBit i := by
  have hgood : (clearMask 0x407 v).testBit 9 = false := by
    rw [clearMask_testBit, openDrain_testBit (by decide)]
    rfl
  have hlow : ∀ j, (512 + clearMask 0x407 v).testBit j = ((clearMask 0x407 v).testBit j || decide (j = 9)) := by
    intro j
    rw [Nat.add_comm]
    exact add_two_pow_testBit hgood j
  have hclear : (clearMask (seen % 4096) (512 + clearMask 0x407 v)).testBit 9 = false := by
    rw [clearMask_testBit, hlow]
    simp
  have hseen : (seen % 4096).testBit i = seen.testBit i := by
    rw [show 4096 = 2 ^ 12 from rfl, Nat.testBit_mod_two_pow, decide_eq_true hi, Bool.true_and]
  have hlands : s.lands seen = clearMask (seen % 4096) (512 + clearMask 0x407 v) + 2 ^ 9 * b2n (bit v 9) := by
    simp only [State.lands, hhold]
    rfl
  rw [hlands, add_flag_testBit hclear, clearMask_testBit, hseen, hlow, clearMask_testBit, openDrain_testBit hi,
    decide_eq_true (show i < 32 by omega)]
  by_cases h9 : i = 9
  · simp [h9, bit]
  · by_cases hod : i ≤ 2 ∨ i = 10
    · simp [h9, hod]
    · simp [h9, hod]

/-! ### The test access port (19 R413, R414) -/

section
variable {s : State} (hon : s.stage = .on)
include hon

theorem State.onTap_on (f : Jtag → Jtag) : s.onTap f = s.modJtag f := if_pos hon

/-- In SAFE the instructions act on the lands. -/
theorem tap_acts (hsafe : s.glb.mode = .safe) (seen drive : Nat) :
    exec (.extest seen drive) s = .next ((s.modJtag (fun j => { j with
      ir := 0, preload := drive % 4096, hold := some (drive % 4096), released := false })).emit
        (.jtag ((s.modJtag (fun j => { j with ir := 0, hold := some j.preload, released := false })).lands seen)))
    ∧ exec .clampLands s = .next (s.modJtag (fun j => { j with ir := 4, hold := some j.preload, released := false }))
    ∧ exec .highz s = .next (s.modJtag (fun j => { j with ir := 5, hold := none, released := true })) := by
  have hacts : s.tapActs = true := beq_iff_eq.mpr hsafe
  refine ⟨congrArg Host.Outcome.next ((if_neg (not_not.mpr hon)).trans (if_pos hacts)), ?_, ?_⟩
  · refine congrArg Host.Outcome.next ?_
    rw [State.onTap_on hon, hacts]
    rfl
  · refine congrArg Host.Outcome.next ?_
    rw [State.onTap_on hon, hacts]
    rfl

/-- In any other mode they act as BYPASS. -/
theorem tap_bypasses (hmode : s.glb.mode ≠ .safe) (seen drive : Nat) :
    exec (.extest seen drive) s = .next (s.modJtag (fun j => { j with ir := 0, hold := none, released := false }))
    ∧ exec .clampLands s = .next (s.modJtag (fun j => { j with ir := 4, hold := none, released := false }))
    ∧ exec .highz s = .next (s.modJtag (fun j => { j with ir := 5, hold := none, released := false })) := by
  have hacts : s.tapActs = false := beq_false_of_ne hmode
  refine ⟨congrArg Host.Outcome.next ((if_neg (not_not.mpr hon)).trans (if_neg (by simp [hacts]))), ?_, ?_⟩
  · refine congrArg Host.Outcome.next ?_
    rw [State.onTap_on hon, hacts]
    rfl
  · refine congrArg Host.Outcome.next ?_
    rw [State.onTap_on hon, hacts]
    rfl

theorem exec_bypass {c : Nat} (hc : c < 16) (hother : c ≠ 0 ∧ c ≠ 1 ∧ c ≠ 2 ∧ c ≠ 4 ∧ c ≠ 5) :
    exec (.bypass c) s = .next (s.modJtag (fun j => { j with ir := c, hold := none, released := false })) := by
  refine congrArg Host.Outcome.next ((if_neg (by simp [Nat.mod_eq_of_lt hc]; omega)).trans ?_)
  rw [State.onTap_on hon, Nat.mod_eq_of_lt hc]
  rfl

end

/-- Settles O55: each control command and each instruction of the port, case by case. -/
theorem mctpAndTestPortAnswer : Obligations.MctpAndTestPortAnswer := by
  refine ⟨fun s hup => ⟨fun op eid hop hlow hhigh => ?_, fun op eid hbad => ?_, ?_, ?_, fun ty hty => ?_, fun ty h0 h5 hff => ?_, ?_,
    fun cmd => exec_mctpUnsupported_control hup⟩, fun s ty cmd hty => ?_, fun s seen v i hhold hi => State.lands_held hhold seen hi,
    fun s seen drive hon => ⟨fun hsafe => tap_acts hon hsafe seen drive, fun hmode => tap_bypasses hon hmode seen drive, ?_, ?_,
      fun c hc h0 h1 h2 h4 h5 => exec_bypass hon hc ⟨h0, h1, h2, h4, h5⟩⟩⟩
  · rw [exec_setEndpointId hup, if_neg (by omega)]
  · rw [exec_setEndpointId hup, if_pos (.inr hbad)]
  · exact congrArg Host.Outcome.next (State.mctpSend_up hup _ _ _)
  · exact congrArg Host.Outcome.next (State.mctpSend_up hup _ _ _)
  · rw [exec_getMctpVersionSupport hup, if_pos hty]
  · rw [exec_getMctpVersionSupport hup, if_neg (by omega)]
  · exact congrArg Host.Outcome.next (State.mctpSend_up hup _ _ _)
  · exact congrArg Host.Outcome.next (if_pos (.inl hty))
  · exact congrArg Host.Outcome.next (if_pos hon)
  · exact congrArg Host.Outcome.next (if_pos hon)

end Sys2Proof.Machine
end

section
/-! Proofs of the statements of the family 11_compare_and_fail_capture.md. -/

namespace Sys2Proof.Machine

-- In one thread: the whole text is compiled near its memory limit.
set_option Elab.async false

/-- Channel 0, its compare page retired while its burst still runs: its outputs hold from the abort point on, and it has a
compare event at TT 0. -/
def retiringChannel : State :=
  (({} : State).modChan 0 (fun c => { c with outDue := true, cmpEvs := [{}] })).modHdr Ty.cmp 0 (fun h => { h with retired := true })

theorem retiringChannel_judges : ((retiringChannel.compareStep 0).chan 0).results.length = 1 := by decide

/-- Refutes O21: a retired channel whose outputs are still due (01 R13) is masked from the abort point of its site on, so
that before it, or with none, its events still produce results. -/
theorem not_compareEventsProduceResults : ¬ Obligations.CompareEventsProduceResults := by
  intro h
  have hmasked : exec (.compareEvent 0) retiringChannel
      = .next (retiringChannel.modChan 0 (fun c => { c with cmpEvs := c.cmpEvs.erase {} })) :=
    (h retiringChannel 0 {} _ _ (by decide) (by decide) rfl rfl (by decide)).2 (.inr (.inr (.inr (.inl (by decide)))))
  have hstep : exec (.compareEvent 0) retiringChannel = .next (retiringChannel.compareStep 0) :=
    onUnit_of (decide (0 < nChan)) (retiringChannel.compareStep 0) (by decide)
  have hresults := congrArg (fun t => (t.chan 0).results.length) (Host.Outcome.next.inj (hstep.symm.trans hmasked))
  exact absurd (retiringChannel_judges.symm.trans hresults) (by decide)

end Sys2Proof.Machine
end

section
/-! Proofs of the statements of the family 11_compare_and_fail_capture.md on fail records and partitions, and the rules about
them they rest on. -/

namespace Sys2Proof.Machine

-- In one thread: the whole text is compiled near its memory limit.
set_option Elab.async false

/-! ### Partitions (11 R234) -/

section
variable (s : State) (r st : Nat) (f : FcuPart → FcuPart)

@[simp] theorem State.modPart_part (j i : Nat) :
    (s.modPart r st f).part j i = if j = r ∧ i = st then f (s.part j i) else s.part j i := by
  unfold State.modPart State.part
  rw [State.modFcu_fcu]
  by_cases hj : j = r
  · subst hj
    rw [if_pos rfl]
    by_cases hi : i = st
    · subst hi
      rw [if_pos ⟨rfl, rfl⟩]
      exact Tbl.get_upd_same ..
    · rw [if_neg (fun h => hi h.2)]
      exact Tbl.get_upd_ne _ _ _ _ hi
  · rw [if_neg hj, if_neg (fun h => hj h.1)]

theorem State.modPart_congr {s : State} {r st : Nat} {f g : FcuPart → FcuPart} (h : f (s.part r st) = g (s.part r st)) :
    s.modPart r st f = s.modPart r st g := by
  refine State.modFcu_congr ?_
  unfold Tbl.upd
  rw [show f (Tbl.get {} (s.fcu r).parts st) = g (Tbl.get {} (s.fcu r).parts st) from h]

@[simp] theorem State.modPart_recs (j : Nat) : ((s.modPart r st f).fcu j).recs = (s.fcu j).recs := by
  unfold State.modPart
  rw [State.modFcu_fcu]
  split <;> rfl

theorem State.modPart_only : Only [.fcus] s (s.modPart r st f) := s.modFcu_only r _

theorem State.modFcu_part_keep {g : Fcu → Fcu} (hg : ∀ u, (g u).parts = u.parts) (j i : Nat) :
    (s.modFcu r g).part j i = s.part j i := by
  unfold State.part
  rw [State.modFcu_fcu]
  split
  · rw [hg]
  · rfl

/-- The record leaves the open records of its unit. -/
def State.takeRec (s : State) (r : Nat) (c : FcuRec) : State := s.modFcu r (fun u => { u with recs := u.recs.erase c })

@[simp] theorem State.takeRec_recs (c : FcuRec) : ((s.takeRec r c).fcu r).recs = (s.fcu r).recs.erase c := by
  rw [State.takeRec, State.modFcu_fcu, if_pos rfl]

@[simp] theorem State.takeRec_part (c : FcuRec) (j i : Nat) : (s.takeRec r c).part j i = s.part j i :=
  s.modFcu_part_keep r (g := fun u => { u with recs := u.recs.erase c }) (fun _ => rfl) j i

theorem State.takeRec_only (c : FcuRec) : Only [.fcus] s (s.takeRec r c) := s.modFcu_only r _

end

theorem Only.part {l : List Part} {s t : State} (h : Only l s t) (hl : Part.fcus ∉ l) (r i : Nat) : t.part r i = s.part r i :=
  congrArg (fun u : Fcu => Tbl.get ({} : FcuPart) u.parts i) (h.fcu hl r)

theorem Only.isSealed {l : List Part} {s t : State} (h : Only l s t) (hl : Part.sec ∉ l) (i : Nat) : t.isSealed i = s.isSealed i :=
  congrArg (fun x : Sec => decide (i < 16) && bit x.sealedSites i) (h _ hl)

/-! ### Sealed frames of a fail queue (17 R372) -/

section
variable (s : State)

theorem State.modFrm_only (st kind inst : Nat) (f : Frm → Frm) : Only [.sec] s (s.modFrm st kind inst f) :=
  s.modSecSite_only st _

theorem State.stream_only (q : Nat) (rec : List Byte) : Only [.queues, .mem, .bmem, .fns, .outs] s (s.stream q rec).1 := by
  unfold State.stream
  dsimp only
  split
  · exact (s.produce_only q _).comp (State.modQueue_only _ q _)
  · exact Only.refl _ s

theorem State.closeFrame_only (st kind inst q : Nat) :
    Only [.sec, .queues, .mem, .bmem, .fns, .outs] s (s.closeFrame st kind inst q).1 := by
  unfold State.closeFrame
  dsimp only
  split
  · exact Only.refl _ s
  · split
    · exact (s.stream_only q _).comp (State.modFrm_only _ st kind inst _)
    · exact Only.refl _ s

theorem State.flushFrames_only (st : Nat) : Only [.sec, .queues, .mem, .bmem, .fns, .outs] s (s.flushFrames st) :=
  Only.of_ite (Only.of_ite (Only.forEach (fun r t => t.closeFrame_only st 0 r _) _ s) (Only.refl _ s)) (Only.refl _ s)

/-- A site that is not sealed has no frame to flush. -/
theorem State.flushFrames_unsealed {s : State} {st : Nat} (h : s.isSealed st = false) : s.flushFrames st = s := by
  unfold State.flushFrames State.fcuFrames
  simp only [h, Bool.false_eq_true, if_false, ite_self]

/-- The frames closed behind a record that closes. -/
def State.flushedAfter (t : State) (l : List FcuRec) : State := l.foldl (fun t c => t.flushFrames c.site) t

theorem State.flushedAfter_only (l : List FcuRec) : Only [.sec, .queues, .mem, .bmem, .fns, .outs] s (s.flushedAfter l) :=
  Only.foldl (fun t (c : FcuRec) => t.flushFrames_only c.site) l s

theorem State.flushedAfter_unsealed {s : State} (h : ∀ i, s.isSealed i = false) (l : List FcuRec) : s.flushedAfter l = s := by
  unfold State.flushedAfter
  induction l with
  | nil => rfl
  | cons c l ih => rw [List.foldl_cons, State.flushFrames_unsealed (h c.site), ih]

end

/-! ### Fail records (11 R228 to R232) -/

section
variable {s : State} {r st : Nat}

theorem State.setLevel_zero (h : (s.part r st).level = 0) :
    s.setLevel r st 0 = s.modPart r st (fun p => { p with level := 0 }) := by
  simp [State.setLevel, h]

/-- Below the degradation levels a record that fits goes whole into the ring. -/
theorem State.commitRecord_whole (tt nfail : Nat) {full : Nat → List Byte} (summary : Nat → List Byte) (keepAt : Nat)
    (hloaded : s.sealedEmpty st = false) (hgap : (s.part r st).gap = false) (hlevel : (s.part r st).level = 0)
    (hl1 : 8 * (s.part r st).fill < (s.fcu r).l1 * (s.part r st).cap)
    (hl2 : 8 * (s.part r st).fill < (s.fcu r).l2 * (s.part r st).cap) (hunits : 0 < (s.part r st).units)
    (hfits : (s.part r st).fill + (full 0).length ≤ (s.part r st).cap) (hframe : s.overFrame st r (full 0).length = false) :
    s.commitRecord r st tt nfail full summary keepAt
      = ((s.modPart r st (fun p => { p with level := 0 })).pushRing r st full true, true) := by
  have hcommit : s.commitGap r st = s := if_neg (by simp [hgap])
  have hlv : ∀ len, fcuLevel (s.fcu r) (s.part r st) len = 0 := by
    intro len
    simp only [fcuLevel, hlevel]
    rw [if_neg (by omega), if_neg (by omega)]
  unfold State.commitRecord
  rw [if_neg (by simp [hloaded]), hcommit]
  dsimp only
  rw [hlv]
  simp only [Nat.zero_le, decide_true, if_true]
  rw [if_neg (by simp [hframe]; omega), State.setLevel_zero hlevel]

/-- The record of a sealed site with no container is lost. -/
theorem State.commitRecord_sealedEmpty (tt nfail : Nat) (full summary : Nat → List Byte) (keepAt : Nat)
    (h : s.sealedEmpty st = true) : s.commitRecord r st tt nfail full summary keepAt = (s.loseUpdate r st, false) := by
  unfold State.commitRecord
  rw [if_pos h]

theorem recHeader_length (tt segId seq st r kind flags nfail nent lanes pseq : Nat) :
    (recHeader tt segId seq st r kind flags nfail nent lanes pseq).length = 32 := by
  simp [recHeader, le]

theorem bitmap_length (keys : List Nat) : (bitmap keys).length = 384 := by simp [bitmap]

/-- Sparse entries fill up to four (11 R231). -/
theorem sparseEntries_length {l : List Nat} (h : l.length ≤ 4) :
    ((l ++ List.replicate (4 - l.length) 0).flatMap (fun e => le 8 e)).length = 32 := by
  simp [List.length_flatMap, le]
  omega

/-- Only the FIRST_N mode counts records. -/
theorem State.countN_plain (hmode : s.fcuMode st = 0) : s.countN r st = s := if_pos (.inl (by rw [hmode]; decide))

/-- Outside the FIRST_N mode a fail record of 64 bytes with few fails and SPARSE_EN, else of 416, is committed, and no
count of records moves. -/
theorem State.commitFail_plain {c : FcuRec} (hfails : c.fails ≠ []) (hmode : s.fcuMode c.site = 0) :
    ∃ (full summary : Nat → List Byte) (keepAt : Nat),
      (∀ q, (full q).length = if c.fails.length ≤ 4 ∧ (s.part r c.site).sparseEn then 64 else 416)
      ∧ s.commitFail r c
        = ((s.commitRecord r c.site c.tt c.fails.length full summary keepAt).1).countN r c.site := by
  have hlen : 0 < c.fails.length := List.length_pos_iff.mpr hfails
  have hkept : ¬ (c.fails.length = 0 ∨ 2 ≤ s.fcuMode c.site ∨ (s.fcuMode c.site = 1 ∧ (s.site c.site).firstDone)) := by
    rw [hmode]
    omega
  refine ⟨_, _, _, fun q => ?_, if_neg hkept⟩
  split
  · next hsparse =>
    rw [List.length_append, recHeader_length, FcuRec.entries, ← List.length_map (f := Prod.snd), sparseEntries_length]
    rw [List.length_map]
    exact hsparse.1
  · rw [List.length_append, recHeader_length, bitmap_length]

/-- A fail record of a sealed site with no container is lost. -/
theorem State.commitFail_sealedEmpty {c : FcuRec} (hfails : c.fails ≠ []) (hmode : s.fcuMode c.site = 0)
    (hempty : s.sealedEmpty c.site = true) : s.commitFail r c = s.loseUpdate r c.site := by
  obtain ⟨full, summary, keepAt, -, hcommit⟩ := State.commitFail_plain (r := r) hfails hmode
  have hmode' : (s.loseUpdate r c.site).fcuMode c.site = 0 := by simpa [State.loseUpdate, State.fcuMode, State.modPart] using hmode
  rw [hcommit, State.commitRecord_sealedEmpty _ _ _ _ _ hempty, State.countN_plain hmode']

/-- Below the degradation levels a fail record goes whole into the ring. -/
theorem State.commitFail_whole {c : FcuRec} (hfails : c.fails ≠ []) (hmode : s.fcuMode c.site = 0)
    (hloaded : s.sealedEmpty c.site = false) (hgap : (s.part r c.site).gap = false) (hlevel : (s.part r c.site).level = 0)
    (hl1 : 8 * (s.part r c.site).fill < (s.fcu r).l1 * (s.part r c.site).cap)
    (hl2 : 8 * (s.part r c.site).fill < (s.fcu r).l2 * (s.part r c.site).cap) (hunits : 0 < (s.part r c.site).units)
    (hfits : (s.part r c.site).fill + 416 ≤ (s.part r c.site).cap)
    (hframe : s.overFrame c.site r (if c.fails.length ≤ 4 ∧ (s.part r c.site).sparseEn then 64 else 416) = false) :
    ∃ full : Nat → List Byte, (∀ q, (full q).length = if c.fails.length ≤ 4 ∧ (s.part r c.site).sparseEn then 64 else 416)
      ∧ s.commitFail r c = (s.modPart r c.site (fun p => { p with level := 0 })).pushRing r c.site full true := by
  obtain ⟨full, summary, keepAt, hlen, hcommit⟩ := State.commitFail_plain (r := r) hfails hmode
  have hle : (full 0).length ≤ 416 := by
    rw [hlen]
    split <;> decide
  refine ⟨full, hlen, ?_⟩
  rw [hcommit, State.commitRecord_whole _ _ _ _ hloaded hgap hlevel hl1 hl2 hunits (by omega) (by rw [hlen]; exact hframe),
    State.countN_plain (by simpa [State.pushRing, State.fcuMode, State.modPart] using hmode)]

theorem State.commitFail_none {c : FcuRec} (hfails : c.fails = []) : s.commitFail r c = s := if_pos (.inl (by rw [hfails]; rfl))

theorem State.commitCapture_none {c : FcuRec} (hcapt : c.captUis = 0) : s.commitCapture r c = s := if_pos (.inl hcapt)

/-- The record `FCU_RECORD_CLOSE` names. -/
def State.closing (s : State) (r segId seq : Nat) : Option FcuRec :=
  (s.fcu r).recs.find? (fun c => c.segId == segId && c.seq == seq && s.recClosed r c && !s.recWaits r c)

/-- The record closes with what its abort point or cut says of it. -/
def State.closed (s : State) (r : Nat) (c : FcuRec) : FcuRec := { c with trunc := s.recTrunc r c }

theorem exec_fcuRecordClose (hr : r < 4) {segId seq : Nat} {c : FcuRec} (hfind : s.closing r segId seq = some c)
    (hcapt : c.captUis = 0) : exec (.fcuRecordClose r segId seq) s = .next (((s.takeRec r c).commitFail r (s.closed r c)).flushedAfter
      ((s.fcu r).recs.filter (fun c => c.segId == segId && c.seq == seq))) := by
  refine (onUnit_of (decide (r < nRgn)) _ (decide_eq_true hr)).trans (congrArg Host.Outcome.next ?_)
  have hclose : s.closeRecord r segId seq = (s.takeRec r c).commitFail r (s.closed r c) := by
    have hfind' : (s.fcu r).recs.find? (fun c => c.segId == segId && c.seq == seq && s.recClosed r c && !s.recWaits r c)
      = some c := hfind
    unfold State.closeRecord
    rw [hfind']
    exact State.commitCapture_none (c := s.closed r c) hcapt
  rw [hclose]
  rfl

end

section
variable (s : State) (r st : Nat)

/-- A whole record behind the others of its ring. -/
def FcuPart.withRecord (p : FcuPart) (b : List Byte) : FcuPart :=
  { p with level := 0, ring := p.ring ++ [b], fill := p.fill + b.length, pseq := (p.pseq + 1) % 65536, records := p.records + 1 }

theorem State.pushedWhole (full : Nat → List Byte) :
    let t := (s.modPart r st (fun p => { p with level := 0 })).pushRing r st full true
    t.part r st = (s.part r st).withRecord (full (s.part r st).pseq) ∧ (t.fcu r).recs = (s.fcu r).recs ∧ Only [.fcus] s t := by
  refine ⟨?_, (State.modPart_recs _ _ _ _ _).trans (State.modPart_recs _ _ _ _ _), (s.modPart_only r st _).trans
    (State.modPart_only _ r st _)⟩
  rw [State.pushRing, State.modPart_part, if_pos ⟨rfl, rfl⟩, State.modPart_part, if_pos ⟨rfl, rfl⟩]
  rfl

theorem State.loseUpdate_part : (s.loseUpdate r st).part r st
    = { s.part r st with lost := min (2 ^ 32 - 1) ((s.part r st).lost + 1) } := by
  rw [State.loseUpdate, (State.cause_only _ _ _ _).part (by decide)]
  refine (State.modFcu_part_keep _ r (g := fun u => { u with lostCount := satAdd sat16 u.lostCount 1 }) (fun _ => rfl) r st).trans ?_
  rw [State.modPart_part, if_pos ⟨rfl, rfl⟩]
  rfl

theorem State.loseUpdate_recs : ((s.loseUpdate r st).fcu r).recs = (s.fcu r).recs := by
  rw [State.loseUpdate, State.cause_fcu, State.modFcu_fcu, if_pos rfl]
  exact State.modPart_recs _ _ _ _ _

end

/-! ### Records move to the fail queue (11 R235) -/

theorem chunks_length (n : Nat) (l : List Byte) (hl : l.length ≤ 16 * n) : (chunks 16 n l).length = (l.length + 15) / 16 := by
  induction n generalizing l with
  | zero => simp [chunks]; omega
  | succ n ih =>
    unfold chunks
    split
    · next h => simp [List.isEmpty_iff.mp h]
    · next h =>
      have hpos : 0 < l.length := List.length_pos_iff.mpr (fun e => h (List.isEmpty_iff.mpr e))
      rw [List.length_cons, ih _ (by rw [List.length_drop]; omega), List.length_drop]
      omega

section
variable {s : State} {r st : Nat}

theorem State.stream_queue {q : Nat} {rec : List Byte} (hroom : (rec.length + 15) / 16 ≤ (s.queue q).room) :
    (s.stream q rec).2 = true ∧ ((s.stream q rec).1.queue q).recs = (s.queue q).recs ++ [(rec.length + 15) / 16]
    ∧ ((s.stream q rec).1.queue q).tail = ((s.queue q).tail + (rec.length + 15) / 16) % (s.queue q).slots := by
  unfold State.stream
  rw [if_pos hroom]
  refine ⟨rfl, ?_, ?_⟩
  · rw [State.modQueue_queue, if_pos rfl, State.produce_queue, if_pos rfl]
  · rw [State.modQueue_queue, if_pos rfl, State.produce_queue, if_pos rfl, chunks_length _ _ (by omega)]

theorem State.drainUps_none (hups : (s.part r st).ups = []) : s.drainUps r st = s.modPart r st (fun p => p) := by
  unfold State.drainUps
  dsimp only
  rw [hups]
  refine State.modPart_congr ?_
  dsimp only [State.writeUps, List.take_nil, List.length_nil, List.getLast?_nil]
  rw [← hups]
  rfl

/-- A record the fail queue takes leaves the ring. -/
theorem State.moveRecord_takes {u : State} {deliver : State → Nat → List Byte → State × Bool} {rec : List Byte}
    {rest : List (List Byte)} (hu : (s.drainUps r st).commitGap r st = u) (hring : (u.part r st).ring = rec :: rest)
    (hq : (u.part r st).qValid = true) (hheld : u.fcuHeld ((u.queue (u.part r st).queue).base
      + slotSize (u.queue (u.part r st).queue).type * (u.queue (u.part r st).queue).tail) = false)
    (htaken : (deliver u (u.part r st).queue rec).2 = true) :
    s.moveRecord r st deliver = ((deliver u (u.part r st).queue rec).1).modPart r st
      (fun p => { p with ring := rest, fill := p.fill - rec.length }) := by
  unfold State.moveRecord
  rw [hu]
  dsimp only
  rw [hring]
  dsimp only
  rw [if_neg (not_or.mpr ⟨not_not.mpr hq, fun h => Bool.false_ne_true (hheld.symm.trans h)⟩), if_pos htaken]

/-- The fail queue of a partition with its oldest record in it. -/
def State.moved (s : State) (r st : Nat) (rec : List Byte) (rest : List (List Byte)) : State :=
  (((s.modPart r st (fun p => p)).stream (s.part r st).queue rec).1).modPart r st
    (fun p => { p with ring := rest, fill := p.fill - rec.length })

theorem exec_fcuRecordMove {rec : List Byte} {rest : List (List Byte)} (hr : r < 4) (hst : st < 16)
    (hgap : (s.part r st).gap = false) (hups : (s.part r st).ups = []) (hring : (s.part r st).ring = rec :: rest)
    (hq : (s.part r st).qValid = true) (hsealed : s.isSealed st = false)
    (hheld : s.fcuHeld ((s.queue (s.part r st).queue).base
      + slotSize (s.queue (s.part r st).queue).type * (s.queue (s.part r st).queue).tail) = false)
    (hroom : (rec.length + 15) / 16 ≤ (s.queue (s.part r st).queue).room) :
    exec (.fcuRecordMove r st) s = .next (s.moved r st rec rest) := by
  have hpart : (s.modPart r st (fun p => p)).part r st = s.part r st := by simp
  have hcommit : (s.modPart r st (fun p => p)).commitGap r st = s.modPart r st (fun p => p) :=
    if_neg (by rw [hpart, hgap]; simp)
  have hdeliver : (if (s.modPart r st (fun p => p)).overFrame st r rec.length
      then ((s.modPart r st (fun p => p)).loseUpdate r st, true)
      else (s.modPart r st (fun p => p)).deliver st 0 r (s.part r st).queue rec)
        = (s.modPart r st (fun p => p)).stream (s.part r st).queue rec := by
    have hplain : (s.modPart r st (fun p => p)).isSealed st = false := hsealed
    rw [State.overFrame, State.deliver, hplain]
    rfl
  have htaken := (State.stream_queue (s := s.modPart r st (fun p => p)) hroom).1
  refine (onUnit_of (decide (r < nRgn ∧ st < nSite)) _ (decide_eq_true ⟨hr, hst⟩)).trans (congrArg Host.Outcome.next ?_)
  rw [State.moveRecord_takes ((congrArg (State.commitGap · r st) (State.drainUps_none hups)).trans hcommit)
    (by rw [hpart, hring]) (by rw [hpart, hq]) (by rw [hpart]; exact hheld) (by rw [hpart, hdeliver]; exact htaken), hpart, hdeliver]
  rfl

end

section
variable (s : State) (r st : Nat) (rec : List Byte) (rest : List (List Byte))

theorem State.moved_only : Only [.fcus, .queues, .mem, .bmem, .fns, .outs] s (s.moved r st rec rest) :=
  ((s.modPart_only r st _).comp (State.stream_only _ _ rec) (n := [.fcus, .queues, .mem, .bmem, .fns, .outs])).comp
    (State.modPart_only _ r st _)

theorem State.moved_part : (s.moved r st rec rest).part r st
    = { s.part r st with ring := rest, fill := (s.part r st).fill - rec.length } := by
  rw [State.moved, State.modPart_part, if_pos ⟨rfl, rfl⟩, (State.stream_only _ _ rec).part (by decide), State.modPart_part,
    if_pos ⟨rfl, rfl⟩]

end

/-! ### Partition registers (11 R234, R236) -/

section
variable {s : State} {r st : Nat}

/-- The partition of a new size, empty. -/
def FcuPart.resized (p : FcuPart) (n : Nat) : FcuPart :=
  { p with
    units := n, level := 0, ring := [], ups := [], fill := 0, gap := false, gapRecs := 0, gapFails := 0, pseq := 0
    records := 0, lost := 0, noAddr := 0, range := 0 }

theorem exec_fcuPSizeWrite {fn : Nat} (hst : st < 16) (h : s.accepts fn Ty.fcu r (0x400 + 0x40 * st + 0x0C) = true) (val : Nat) :
    exec (.fcuPSizeWrite fn r st val) s
      = .next (if fn = 0 then s.wPSize fn r st val else s.deny fn Ty.fcu r (0x400 + 0x40 * st + 0x0C) true) := by
  refine (onUnit_of (decide (fn < 18 ∧ st < 16)) _ (decide_eq_true ⟨by simpa using State.accepts_fn h, hst⟩)).trans
    (congrArg Host.Outcome.next ?_)
  exact State.onWrite_of_accepts h _

theorem State.wPSize_acts {fn val : Nat} (hidle : s.siteIdle st = true)
    (hsum : val % 256 + ((List.range 16).filter (· != st)).foldl (fun n i => n + (s.part r i).units) 0 ≤ 128) :
    s.wPSize fn r st val
      = if val % 256 = (s.part r st).units then s else s.modPart r st (fun p => p.resized (val % 256)) := by
  unfold State.wPSize
  rw [State.checked_pass]
  · rfl
  · have hval : bits val 0 8 = val % 256 := rfl
    simp [hidle, hval]
    omega

theorem State.wPCtrl_acts {fn : Nat} (hidle : s.siteIdle st = true) (val : Nat) :
    s.wPCtrl fn r st val = forEach [0, 1, 2, 3] (fun i t => t.modPart i st (fun p => { p with
        sparseEn := bit val 2, captEn := bit val 3 })) (s.modSite st (fun x => { x with fcuMode := bits val 0 2 })) := by
  unfold State.wPCtrl
  rw [State.checked_pass _ (by simp [hidle])]

end

/-- Settles O22, clause by clause: the record that closes, the record that moves, the partition registers. -/
theorem failRecordsAndPartitions : Obligations.FailRecordsAndPartitions := by
  refine ⟨⟨fun s r segId seq c hr hfind hfails hcapt => ?_, fun s r segId seq k c hr hfind hk hpos hcapt hmode hgap hlevel hl1 hl2 hunits
    hfits hloaded hframe => ?_, fun s r segId seq c hr hfind hfails hcapt hmode hempty => ?_,
    fun s r st rec rest hr hst hgap hups hring hq hsealed hheld hroom => ?_⟩, fun s r st val hst haccepts hidle hsum => ⟨fun hnew => ?_,
    fun hsame => ?_⟩, fun s fn r st val hst hfn haccepts => ?_, fun s fn r st val hst haccepts hidle => ?_⟩
  · rw [exec_fcuRecordClose hr hfind hcapt, State.commitFail_none (c := s.closed r c) hfails]
    refine ⟨_, rfl, ?_, fun i => ?_, (s.takeRec_only r c).comp (State.flushedAfter_only _ _), fun hplain => ?_⟩
    · rw [(State.flushedAfter_only _ _).fcu (by decide), State.takeRec_recs]
    · rw [(State.flushedAfter_only _ _).part (by decide), State.takeRec_part]
    · rw [State.flushedAfter_unsealed (s := s.takeRec r c) hplain]
      exact s.takeRec_only r c
  · subst hk
    have hpart : (s.takeRec r c).part r (s.closed r c).site = s.part r c.site := s.takeRec_part r c r c.site
    have hunit : ((s.takeRec r c).fcu r).l1 = (s.fcu r).l1 ∧ ((s.takeRec r c).fcu r).l2 = (s.fcu r).l2 := by
      rw [State.takeRec, State.modFcu_fcu, if_pos rfl]
      exact ⟨rfl, rfl⟩
    have hover : ∀ n, (s.takeRec r c).overFrame (s.closed r c).site r n = s.overFrame c.site r n := by
      intro n
      unfold State.overFrame
      rw [hpart]
      rfl
    obtain ⟨full, hlen, hcommit⟩ := State.commitFail_whole (s := s.takeRec r c) (r := r) (c := s.closed r c)
      (List.ne_nil_of_length_pos hpos) hmode hloaded (by rw [hpart]; exact hgap) (by rw [hpart]; exact hlevel)
      (by rw [hpart, hunit.1]; exact hl1) (by rw [hpart, hunit.2]; exact hl2) (by rw [hpart]; exact hunits)
      (by rw [hpart]; exact hfits) (by rw [hover, hpart]; exact hframe)
    obtain ⟨hpushed, hrecs, honly⟩ := (s.takeRec r c).pushedWhole r (s.closed r c).site full
    generalize State.pushRing _ _ _ full true = u at hcommit hpushed hrecs honly
    have honly' : Only [.fcus] s u := (s.takeRec_only r c).trans honly
    rw [hpart] at hpushed
    rw [exec_fcuRecordClose hr hfind hcapt, hcommit]
    have hflush := u.flushedAfter_only ((s.fcu r).recs.filter (fun c => c.segId == segId && c.seq == seq))
    refine ⟨_, rfl, full (s.part r c.site).pseq, ?_, ?_, ?_, ?_, ?_, ?_, ?_, honly'.comp hflush, fun hplain => ?_⟩
    · exact congrArg FcuPart.ring ((hflush.part (by decide) r c.site).trans hpushed)
    · exact ((congrArg Fcu.recs (hflush.fcu (by decide) r)).trans hrecs).trans (s.takeRec_recs r c)
    · exact congrArg FcuPart.fill ((hflush.part (by decide) r c.site).trans hpushed)
    · exact congrArg FcuPart.records ((hflush.part (by decide) r c.site).trans hpushed)
    · exact congrArg FcuPart.level ((hflush.part (by decide) r c.site).trans hpushed)
    · exact congrArg FcuPart.pseq ((hflush.part (by decide) r c.site).trans hpushed)
    · rw [hlen, hpart]
      rfl
    · have hplain' : ∀ i, u.isSealed i = false := fun i => (honly'.isSealed (by decide) i).trans (hplain i)
      rw [State.flushedAfter_unsealed hplain']
      exact honly'
  · have hflush := ((s.takeRec r c).loseUpdate r c.site).flushedAfter_only
      ((s.fcu r).recs.filter (fun c => c.segId == segId && c.seq == seq))
    have hlost := (s.takeRec r c).loseUpdate_part r c.site
    rw [State.takeRec_part] at hlost
    rw [exec_fcuRecordClose hr hfind hcapt, State.commitFail_sealedEmpty (s := s.takeRec r c) (c := s.closed r c) hfails hmode hempty]
    refine ⟨_, rfl, ?_, ?_, ?_, ?_⟩
    · refine (congrArg Fcu.recs (hflush.fcu (by decide) r)).trans ?_
      exact ((s.takeRec r c).loseUpdate_recs r c.site).trans (s.takeRec_recs r c)
    · exact (congrArg FcuPart.ring ((hflush.part (by decide) r c.site).trans hlost) :)
    · exact (congrArg FcuPart.fill ((hflush.part (by decide) r c.site).trans hlost) :)
    · exact congrArg FcuPart.lost ((hflush.part (by decide) r c.site).trans hlost)
  · refine ⟨_, exec_fcuRecordMove hr hst hgap hups hring hq hsealed hheld hroom, ?_, ?_, ?_, ?_, ?_⟩
    · rw [State.moved_part]
    · rw [State.moved_part]
    · exact (State.stream_queue (s := s.modPart r st (fun p => p)) hroom).2.1
    · exact (State.stream_queue (s := s.modPart r st (fun p => p)) hroom).2.2
    · exact s.moved_only r st rec rest
  · rw [exec_fcuPSizeWrite hst haccepts, if_pos rfl, State.wPSize_acts hidle hsum, if_neg hnew]
    have hpart : (s.modPart r st (fun p => p.resized (val % 256))).part r st = (s.part r st).resized (val % 256) := by
      rw [State.modPart_part, if_pos ⟨rfl, rfl⟩]
    refine ⟨_, rfl, congrArg FcuPart.units hpart, congrArg FcuPart.ring hpart, congrArg FcuPart.fill hpart,
      congrArg FcuPart.level hpart, congrArg FcuPart.records hpart, fun i hi => ?_, s.modPart_only r st _⟩
    rw [State.modPart_part, if_neg (fun h => hi h.2)]
  · rw [exec_fcuPSizeWrite hst haccepts, if_pos rfl, State.wPSize_acts hidle hsum, if_pos hsame]
  · rw [exec_fcuPSizeWrite hst haccepts, if_neg hfn]
    refine ⟨_, rfl, ?_, ?_⟩
    · simp [State.deny]
    · rw [State.deny, State.raise_lastCode]
  · have hfn : fn < 18 := by simpa using State.accepts_fn haccepts
    refine ⟨_, (onUnit_of (decide (fn < 18 ∧ st < 16)) _ (decide_eq_true ⟨hfn, hst⟩)).trans
      (congrArg Host.Outcome.next ((State.onWrite_of_accepts haccepts _).trans (State.wPCtrl_acts hidle val))), ?_, fun i hi => ?_, ?_⟩
    · rw [(Only.forEach (fun i t => t.modPart_only i st _) _ _).site (by decide), State.modSite_site, if_pos rfl]
      rfl
    · rw [forEach_unit (read := fun t i => t.part i st) (g := fun p => { p with sparseEn := bit val 2, captEn := bit val 3 })
        (fun r t j => by simp) (by decide), if_pos (by simp; omega)]
      exact ⟨rfl, rfl⟩
    · exact (s.modSite_only st _).comp (Only.forEach (fun i t => t.modPart_only i st _) _ _)

end Sys2Proof.Machine
end

section
/-! The statement of the family 16_sites_and_hosts.md on burst entries by time. -/

namespace Sys2Proof.Machine

-- In one thread: the whole text is compiled near its memory limit.
set_option Elab.async false

/-- A module in READY whose site 0, its burst aborted at TT 0 with a cause that asks for Hi-Z, has not reached its abort point
32 ns later: its channel 0 runs free, the last of the region; channel 1, of the owner function, has a stale CAL term. -/
def lastFreeRunAborted : State :=
  { root := 2 ^ 20, glb := { mode := .ready, busy := false }, sites := [(0, { st := .aborted, abortT := some 0, lateHiz := true })]
    hdrs := [(pageKey Ty.tg 0, { owner := 0 })], chans := [(0, { frRun := true }), (1, { calStale := true })] }

/-- The free run ends with the abort point, which is a boundary of every channel of the region. -/
theorem lastFreeRunAborted_bounds : ((lastFreeRunAborted.abortPointStep 0).chan 1).calStale = false := by decide +kernel

/-- Refutes O24: at an abort point that sends the last free-running channel of a region to Hi-Z in READY the end of its run is a
boundary of every channel of the region (09 R194), channels of other owners included. -/
theorem not_burstEntriesByTime : ¬ Obligations.BurstEntriesByTime := by
  intro h
  obtain ⟨-, -, -, -, habort, -⟩ := h lastFreeRunAborted 0 (by decide)
  obtain ⟨t, hexec, -, -, hother, -⟩ := habort 0 (by decide) (by decide) (by decide)
  have hstep : exec (.abortPoint 0) lastFreeRunAborted = .next (lastFreeRunAborted.abortPointStep 0) :=
    onUnit_of (decide (0 < nSite)) (lastFreeRunAborted.abortPointStep 0) (by decide)
  have ht : lastFreeRunAborted.abortPointStep 0 = t := Host.Outcome.next.inj (hstep.symm.trans hexec)
  have hstale : (t.chan 1).calStale = true := congrArg Chan.calStale (hother 1 (by decide))
  rw [← ht, lastFreeRunAborted_bounds] at hstale
  exact Bool.false_ne_true hstale

end Sys2Proof.Machine
end

section
/-! Proofs of the statement of the family 16_sites_and_hosts.md on burst commands, and the rules about them it rests on. -/

namespace Sys2Proof.Machine

-- In one thread: the whole text is compiled near its memory limit.
set_option Elab.async false

/-! ### What a burst command writes (16 R345) -/

section
variable {s : State} {fn st : Nat}

/-- A command whose OP is not START, or that meets no request ending RUN, goes by its OP. -/
theorem State.burstWrite_accepts {val : Nat} (h : s.accepts fn Ty.site st 0x044 = true)
    (hop : bits val 0 4 ≠ 3 ∨ s.safeAsked = false) : s.burstWrite fn st val = s.wBurstCmd st val := by
  unfold State.burstWrite
  rw [if_neg, State.onWrite_of_accepts h]
  rintro ⟨h3, hasked, -⟩
  rcases hop with hop | hop
  · exact hop h3
  · exact Bool.false_ne_true (hop.symm.trans hasked)

/-- What `State.accepts` asks for, part by part. -/
theorem State.accepts_iff {ty inst off : Nat} : s.accepts fn ty inst off = true ↔ fn < 18 ∧ s.fnUp fn = true ∧ (s.fn fn).inReset = false
    ∧ mapped ty inst = true ∧ s.mayAccess fn ty inst off true = true ∧ s.sealedReg ty inst off = false ∧ s.pageDead ty inst = false
    ∧ ((s.hdr ty inst).retired = false ∨ off = 0x020) := by
  simp [State.accepts, and_assoc]

/-- The module as though no transition were in progress. -/
def State.unbusy (s : State) : State := s.modGlb (fun g => { g with busy := false })

/-- A transition in progress permits no more than the mode it leaves. -/
theorem State.inMode_unbusy {l : List Mode} (h : s.inMode l = true) : s.unbusy.inMode l = true := by
  have hmodes : s.unbusy.modes = if s.stage ≠ .on then [.off] else [s.glb.mode] := rfl
  unfold State.inMode at h ⊢
  rw [hmodes]
  unfold State.modes at h
  by_cases hon : s.stage ≠ .on
  · rwa [if_pos hon] at h ⊢
  · rw [if_neg hon] at h ⊢
    cases hbusy : s.glb.busy
    · rwa [hbusy] at h
    · rw [hbusy] at h
      simp only [if_true, List.all_cons, List.all_nil, Bool.and_true, Bool.and_eq_true] at h ⊢
      exact h.1

theorem State.mayAccess_unbusy {ty inst off : Nat} {w : Bool} (h : s.mayAccess fn ty inst off w = true) :
    s.unbusy.mayAccess fn ty inst off w = true := by
  revert h
  unfold State.mayAccess
  dsimp only
  simp only [Bool.and_eq_true, Bool.or_eq_true]
  exact And.imp id (Or.imp id (And.imp (And.imp (Or.imp State.inMode_unbusy id) (Or.imp id State.inMode_unbusy))
    (Or.imp (Or.imp id State.inMode_unbusy) id)))

/-- A START that meets the request ending RUN is rejected as such (02 R52). -/
theorem State.burstWrite_asked {val : Nat} (h : s.accepts fn Ty.site st 0x044 = true) (hop : bits val 0 4 = 3)
    (hasked : s.safeAsked = true) : s.burstWrite fn st val = s.rejectBurst st Code.burstMode := by
  obtain ⟨-, hup, hreset, hmapped, haccess, -⟩ := State.accepts_iff.mp h
  have hst : st < nSite := of_decide_eq_true hmapped
  exact if_pos ⟨hop, hasked, hup, by rw [hreset]; decide, hst, State.mayAccess_unbusy haccess⟩

variable (h : s.accepts fn Ty.site st 0x044 = true)
include h

theorem exec_burstArm (frame : Bool) : exec (.burstArm fn st frame) s = .next (s.arm st frame) := by
  refine (onUnit_of (decide (fn < 18)) _ (decide_eq_true (State.accepts_fn h))).trans (congrArg Host.Outcome.next ?_)
  cases frame
  · exact State.burstWrite_accepts h (.inl (by decide))
  · exact State.burstWrite_accepts h (.inl (by decide))

theorem exec_burstDisarm : exec (.burstDisarm fn st) s = .next (s.disarmCmd st) :=
  (onUnit_of (decide (fn < 18)) _ (decide_eq_true (State.accepts_fn h))).trans
    (congrArg Host.Outcome.next (State.burstWrite_accepts h (.inl (by decide))))

theorem exec_burstStop : exec (.burstStop fn st) s = .next (s.stop st) :=
  (onUnit_of (decide (fn < 18)) _ (decide_eq_true (State.accepts_fn h))).trans
    (congrArg Host.Outcome.next (State.burstWrite_accepts h (.inl (by decide))))

theorem exec_burstAbort : exec (.burstAbort fn st) s = .next (s.abortCmd st) :=
  (onUnit_of (decide (fn < 18)) _ (decide_eq_true (State.accepts_fn h))).trans
    (congrArg Host.Outcome.next (State.burstWrite_accepts h (.inl (by decide))))

theorem exec_burstAck : exec (.burstAck fn st) s = .next (s.ack st) :=
  (onUnit_of (decide (fn < 18)) _ (decide_eq_true (State.accepts_fn h))).trans
    (congrArg Host.Outcome.next (State.burstWrite_accepts h (.inl (by decide))))

/-- START carries its 24 bits of TT above the OP. -/
theorem exec_burstStart (t24 : Nat) : exec (.burstStart fn st t24) s
    = .next (if s.safeAsked then s.rejectBurst st Code.burstMode else s.start st (t24 % 2 ^ 24)) := by
  have hop : bits (3 + 256 * (t24 % 2 ^ 24)) 0 4 = 3 := by rw [bits_eq]; omega
  have hval : bits (3 + 256 * (t24 % 2 ^ 24)) 8 24 = t24 % 2 ^ 24 := by rw [bits_eq]; omega
  refine (onUnit_of (decide (fn < 18)) _ (decide_eq_true (State.accepts_fn h))).trans (congrArg Host.Outcome.next ?_)
  split
  · next hasked => exact State.burstWrite_asked h hop hasked
  · next hasked =>
    rw [State.burstWrite_accepts h (.inr (Bool.eq_false_iff.mpr hasked)), State.wBurstCmd, hop]
    exact congrArg (s.start st) hval

theorem exec_burstCmdInvalid {op : Nat} (hop : op = 0 ∨ 7 ≤ op) (hop' : op < 16) :
    exec (.burstCmdInvalid fn st op) s = .next (s.rejectBurst st Code.paramRange) := by
  have hbits : bits op 0 4 = op := Nat.mod_eq_of_lt hop'
  refine (onUnit_of (decide (fn < 18 ∧ (op = 0 ∨ 7 ≤ op) ∧ op < 16)) _
    (decide_eq_true ⟨State.accepts_fn h, hop, hop'⟩)).trans (congrArg Host.Outcome.next ?_)
  rw [State.burstWrite_accepts h (.inl (by rw [hbits]; omega)), State.wBurstCmd, hbits]
  split
  · omega
  · omega
  · omega
  · omega
  · omega
  · omega
  · rfl

end

/-! ### Rejections (16 R345) -/

section
variable (s : State) (st code : Nat)

theorem State.rejectBurst_only : Only errorParts s (s.rejectBurst st code) :=
  ((s.modSite_only st _).mono (by decide)).trans (State.raise_only _ _ _ _ _ _)

/-- A refused command leaves its code in LAST_REJECT and on the ERR page, and the burst state. -/
theorem State.rejectBurst_site : ((s.rejectBurst st code).site st).sansLost = { (s.site st).sansLost with lastReject := code } := by
  rw [State.rejectBurst, State.raiseBurst, State.raise_sansLost, State.modSite_site, if_pos rfl]
  rfl

theorem State.rejectBurst_spec : ((s.rejectBurst st code).site st).lastReject = code
    ∧ ((s.rejectBurst st code).site st).st = (s.site st).st ∧ (s.rejectBurst st code).err.lastCode = code
    ∧ Only errorParts s (s.rejectBurst st code) := by
  have hsite := s.rejectBurst_site st code
  exact ⟨(congrArg Site.lastReject hsite :), (congrArg Site.st hsite :), by rw [State.rejectBurst, State.raiseBurst, State.raise_lastCode],
    s.rejectBurst_only st code⟩

end

/-! ### ARM and START (16 R345, R346; 14 R288) -/

section
variable {s : State} {st : Nat}

/-- The state before the site is armed: its segment queues' slips cleared, its lanes in service. -/
def State.armable (s : State) (st : Nat) : State :=
  forEach (s.segQueues st) (fun q t => t.modQueue q (fun d => { d with slip := 0 })) (s.endIsolation st)

theorem State.armable_only (s : State) (st : Nat) : Only [.queues, .clus] s (s.armable st) :=
  (Only.forEach (fun ch t => t.laneFree_only ch) _ s).comp (Only.forEach (fun q t => t.modQueue_only q _) _ _)

theorem State.armCmd_acts (frame : Bool) (hmode : s.inMode [.run] = true) (hidle : (s.site st).st = .idle)
    (hengine : (bitList (s.site st).teMask nEng).any (fun e => s.inService e) = true) :
    s.arm st frame = (s.armable st).modSite st (fun x => { x with
      st := .armed, srcFrame := frame, frameArmed := false, abortCause := 0, pendStart := none
      restoreT := if s.siteIsolated st then s.now + 5 * fsUs else x.restoreT }) := by
  unfold State.arm
  rw [if_neg (not_not.mpr hidle), if_neg (not_not.mpr hmode), if_neg (not_not.mpr hengine)]
  rfl

theorem State.disarmCmd_acts (harmed : (s.site st).st = .armed) : s.disarmCmd st
    = (s.modSite st (fun x => { x with st := .idle, pendStart := none, frameArmed := false })).siteBoundary st :=
  (if_pos harmed).trans (if_pos harmed)

theorem State.siteBoundary_only (s : State) (st : Nat) : Only [.chans] s (s.siteBoundary st) :=
  Only.forEach (fun ch t => t.modChan_only ch _) _ s

/-- The smallest root count with the low 24 bits given, less than half their range ahead. -/
theorem startAhead_eq {now t24 T : Nat} (hlow : now ≤ T) (hhigh : T < now + 2 ^ 24) (hT : T % 2 ^ 24 = t24 % 2 ^ 24) :
    startAhead now t24 = T - now := by
  unfold startAhead
  omega

/-- START of an armed site in the modes that take it. -/
theorem State.start_armed (t24 : Nat) (hmode : s.glb.busy = false ∨ s.glb.mode ≠ .run ∨ s.glb.target = .run)
    (harmed : (s.site st).st = .armed) : s.start st t24
    = if (s.site st).srcFrame then s.rejectBurst st Code.burstSource
      else if 2 ^ 23 ≤ startAhead (s.root + (s.restoreWait st + 255) / 256) t24 then s.rejectBurst st Code.burstLateStart
      else s.acceptStart st ((s.restoreWait st + 255) / 256 + startAhead (s.root + (s.restoreWait st + 255) / 256) t24) := by
  unfold State.start
  rw [if_neg (by rintro ⟨h1, h2, h3⟩; simp [h1, h2, h3] at hmode)]
  dsimp only
  rw [harmed]

theorem State.start_unarmed (t24 : Nat) (hmode : s.glb.busy = false) (hunarmed : (s.site st).st ≠ .armed) :
    s.start st t24 = s.rejectBurst st (match (s.site st).st with
      | .idle => Code.burstNotArmed | .running => Code.burstBusy | _ => Code.burstState) := by
  unfold State.start
  rw [if_neg (by simp [hmode])]
  dsimp only
  cases hst : (s.site st).st with
  | armed => exact absurd hst hunarmed
  | idle => rfl
  | running => rfl
  | draining => rfl
  | aborted => rfl

end

/-! ### ABORT (16 R345; 08 R158, R159) -/

section
variable {s : State} {st : Nat}

@[simp] theorem State.siteCpl_sansLost (s : State) (i j : Nat) (entry : List Byte) :
    ((s.siteCpl j entry).site i).sansLost = (s.site i).sansLost := by
  unfold State.siteCpl State.postCpl
  dsimp only
  (repeat' split) <;> simp

/-- A cleared deque holds no segment of the site. -/
theorem State.clearDeques_deque {e : Nat} {g : Seg} (he : e < nEng) (hg : g ∈ ((s.clearDeques st).te e).deque) : g.site ≠ st := by
  unfold State.clearDeques allTes at hg
  rw [forEach_unit (read := State.te) (fun i t j => t.modTe_te i _ j) List.nodup_range, if_pos (List.mem_range.mpr he)] at hg
  simpa using (List.mem_filter.mp hg).2

/-- The site as its burst is aborted at TT `t`. -/
def Site.abortedAt (x : Site) (code t : Nat) : Site :=
  { x with
    st := .aborted, abortCause := abortCauseCode code, abortT := some t, abortDone := false, cut := none, pendStart := none, ended := []
    barriers := (x.barriers.map (fun p => (p.1, ({ count := p.2.count } : Barrier)))).filter (fun p => p.2 ≠ {}) }

/-- The state as a burst is aborted, before its completion, error and message. -/
def State.aborting (s : State) (st code t : Nat) : State :=
  let s1 := (((s.modSite st (fun x => { x with
    st := .aborted, abortCause := abortCauseCode code, abortT := some t, abortDone := false, cut := none
    pendStart := none, ended := [] })).clearDeques st).discardQueues st).resetBarriers st
  forEach (s1.siteChans st) (fun ch u => u.modChan ch (fun c => { c with
    fifo := c.fifo.filter (fun b => ttLt b.tt (t + 32 * fsNs)) })) s1

section
variable (hgoing : (s.site st).st = .running ∨ (s.site st).st = .draining) (code t : Nat)
include hgoing

theorem State.abortSiteAt_eq : s.abortSiteAt st code t
    = (((s.aborting st code t).burstCplAt st code t .aborted).raiseBurst code st).cause Ty.site st 1 :=
  if_neg (by rintro ⟨hrun, hdrain⟩; exact hgoing.elim hrun hdrain)

theorem State.abortSiteAt_site : ((s.abortSiteAt st code t).site st).sansLost = ((s.site st).abortedAt code t).sansLost := by
  rw [State.abortSiteAt_eq hgoing, State.cause_site, State.raiseBurst, State.raise_sansLost, State.burstCplAt, State.siteCpl_sansLost,
    State.aborting, (Only.forEach (fun ch t => t.modChan_only ch _) _ _).site (by decide), State.resetBarriers, State.modSite_site,
    if_pos rfl, (State.discardQueues_only _ _).site (by decide), (State.clearDeques_only _ _).site (by decide),
    State.modSite_site, if_pos rfl]
  rfl

/-- The deques of the engines hold no segment of a site whose burst is aborted. -/
theorem State.abortSiteAt_deques {e : Nat} {g : Seg} (he : e < nEng) (hg : g ∈ ((s.abortSiteAt st code t).te e).deque) :
    g.site ≠ st := by
  rw [State.abortSiteAt_eq hgoing, (State.cause_only _ _ _ _).te (by decide), State.raiseBurst, (State.raise_only _ _ _ _ _ _).te (by decide),
    State.burstCplAt, (State.siteCpl_only _ _ _).te (by decide), State.aborting,
    (Only.forEach (fun ch t => t.modChan_only ch _) _ _).te (by decide), State.resetBarriers, State.modSite_te,
    (State.discardQueues_only _ _).te (by decide)] at hg
  exact State.clearDeques_deque he hg

end

/-- ABORT of a burst under way: at its own cause, or at the deadline of a block that is missing. -/
theorem State.abortCmd_acts (hgoing : (s.site st).st = .running ∨ (s.site st).st = .draining) :
    ∃ code t, s.abortCmd st = s.abortSiteAt st code t ∧ (s.missingNow st = none → abortCauseCode code = 2 ∧ t = s.now)
      ∧ ∀ b tt, s.missingNow st = some b → s.missedAt b.1 b.2.1 b.2.2 st = some tt →
        abortCauseCode code = 1 ∧ t = (tt + 2 ^ 64 - 32 * fsNs) % 2 ^ 64 := by
  have hcmd : s.abortCmd st = match s.missingNow st with
      | some (ch, segId, q) => s.underrun ch segId q st
      | none => s.abortSite st Code.burstAbortHost := if_pos hgoing
  rw [hcmd]
  cases hmissing : s.missingNow st with
  | none => exact ⟨Code.burstAbortHost, s.now, rfl, fun _ => ⟨rfl, rfl⟩, fun b tt h => absurd h (by simp)⟩
  | some b =>
    have hmiss : s.isMissing b.1 b.2.1 b.2.2 st = true := by
      have := List.find?_some hmissing
      simp only [Bool.and_eq_true] at this
      exact this.2
    obtain ⟨tt, htt⟩ := Option.isSome_iff_exists.mp hmiss
    refine ⟨Code.burstAbortLate, (tt + 2 ^ 64 - 32 * fsNs) % 2 ^ 64, ?_, fun h => absurd h (by simp), fun b' tt' hb' htt' => ?_⟩
    · change s.underrun b.1 b.2.1 b.2.2 st = _
      rw [State.underrun, htt]
    · obtain rfl := Option.some.inj hb'
      obtain rfl := Option.some.inj (htt.symm.trans htt')
      exact ⟨rfl, rfl⟩

/-! ### Entry to IDLE (16 R348; 11 R244) -/

theorem State.fcuFrames_only (s : State) (st : Nat) : Only [.sec, .queues, .mem, .bmem, .fns, .outs] s (s.fcuFrames st) :=
  Only.of_ite (Only.forEach (fun r t => t.closeFrame_only st 0 r _) _ s) (Only.refl _ s)

theorem State.recsPast_only (s : State) (st : Nat) : Only [.fcus] s (s.recsPast st) :=
  Only.forEach (fun r t => t.modFcu_only r _) _ s

/-- The state as the site enters IDLE, before its completion, notice and message. -/
def State.idling (s : State) (st : Nat) : State :=
  (((s.fcuFrames st).recsPast st).modSite st (fun x => { x with
    st := .idle, cut := none, abortT := none, abortDone := false, ended := [] })).siteBoundary st

theorem State.postLog_only (s : State) (st : Nat) (e : List Byte) : Only errorParts s (s.postLog st e) := by
  unfold State.postLog
  exact Only.of_ite (Only.of_ite ((s.produce_only _ _).mono (by decide)) ((s.modSite_only st _).mono (by decide))) (Only.refl _ s)

theorem State.enterIdle_only (s : State) (st : Nat) : Only (.fcus :: .sec :: burstParts) s (s.enterIdle st) := by
  have hidling : Only (.fcus :: .sec :: burstParts) s (s.idling st) :=
    (((s.fcuFrames_only st).comp (State.recsPast_only _ st) (n := [.fcus, .sec, .queues, .mem, .bmem, .fns, .outs])).comp
      (State.modSite_only _ st _) (n := [.fcus, .sec, .queues, .mem, .bmem, .fns, .outs, .sites])).comp (State.siteBoundary_only _ st)
  change Only _ s ((((s.idling st).burstCpl st 0 .idle).burstNotice st .idle).cause Ty.site st 1)
  exact ((hidling.trans ((State.siteCpl_only _ st _).mono (by decide))).trans ((State.postLog_only _ st _).mono (by decide))).trans
    ((State.cause_only _ _ _ _).mono (by decide))

theorem State.enterIdle_site (s : State) (st : Nat) : ((s.enterIdle st).site st).sansLost
    = { (s.site st).sansLost with st := .idle, cut := none, abortT := none, abortDone := false, ended := [] } := by
  change (((((s.idling st).burstCpl st 0 .idle).burstNotice st .idle).cause Ty.site st 1).site st).sansLost = _
  rw [State.cause_site, State.burstNotice, State.postLog_sansLost, State.burstCpl, State.burstCplAt, State.siteCpl_sansLost, State.idling,
    (State.siteBoundary_only _ st).site (by decide), State.modSite_site, if_pos rfl, (State.recsPast_only _ st).site (by decide),
    (State.fcuFrames_only _ st).site (by decide)]
  rfl

end

/-- Settles O23: a burst command goes by its OP and the state of its site. -/
theorem burstCommandsMoveTheSiteOrAreRejected : Obligations.BurstCommandsMoveTheSiteOrAreRejected := by
  refine ⟨fun s fn st h => ⟨fun frame hmode hidle hengine => ?_, fun harmed => ?_,
    fun t24 T w hasked hmode harmed hsource hw hlow hhigh hT hlead => ?_, fun hrun => ?_, fun hgoing => ?_,
    fun haborted hdone hflushed => ?_, fun op hop hop' => ?_⟩,
    fun s fn st h => ⟨fun hmode hidle frame => ?_, fun hbusy frame => ?_, fun hmode hidle hnone frame => ?_, fun hmode t24 => ?_,
      fun hasked hmode hst t24 => ?_, fun hst => ?_, fun hasked hmode hst t24 => ?_, fun hasked hmode hst t24 => ?_,
      fun hasked hmode hst hsource t24 => ?_, fun hasked hmode hst hsource hwait T hlow hhigh hlate => ?_, fun hst => ?_,
      fun hst hst' => ?_, fun hst => ?_, fun hst hearly => ?_, fun code => s.rejectBurst_spec st code⟩⟩
  · rw [exec_burstArm h, State.armCmd_acts frame hmode hidle hengine]
    refine ⟨_, rfl, ?_, ?_, ?_, ?_, fun i hi => ?_, (s.armable_only st).comp (State.modSite_only _ st _)⟩
    · rw [State.modSite_site, if_pos rfl]
    · rw [State.modSite_site, if_pos rfl]
    · rw [State.modSite_site, if_pos rfl]
    · rw [State.modSite_site, if_pos rfl]
    · rw [State.modSite_site, if_neg hi, (s.armable_only st).site (by decide)]
  · rw [exec_burstDisarm h, State.disarmCmd_acts harmed]
    have hchans := State.siteBoundary_only (s.modSite st (fun x => { x with st := .idle, pendStart := none, frameArmed := false })) st
    refine ⟨_, rfl, ?_, ?_, fun i hi => ?_, (s.modSite_only st _).comp hchans⟩
    · rw [hchans.site (by decide), State.modSite_site, if_pos rfl]
    · rw [hchans.site (by decide), State.modSite_site, if_pos rfl]
    · rw [hchans.site (by decide), State.modSite_site, if_neg hi]
  · have hahead : startAhead (s.root + w) (t24 % 2 ^ 24) = T - (s.root + w) := startAhead_eq hlow (by omega) (by omega)
    have hticks : w + (T - (s.root + w)) = T - s.root := by omega
    rw [exec_burstStart h, if_neg (by simp [hasked]), State.start_armed _ hmode harmed, if_neg (by simp [hsource]), ← hw, hahead,
      if_neg (by omega), hticks, State.acceptStart, if_neg (by unfold State.startWait; omega),
      show s.root + (T - s.root) = T by omega]
  · rw [exec_burstStop h, State.stop, if_pos hrun]
    exact congrArg Host.Outcome.next (State.modSite_congr rfl)
  · obtain ⟨code, t, hcmd, hown, hmissing⟩ := State.abortCmd_acts hgoing
    have hsite := State.abortSiteAt_site hgoing code t
    have hcause : ((s.abortSiteAt st code t).site st).abortCause = abortCauseCode code := (congrArg Site.abortCause hsite :)
    have htime : ((s.abortSiteAt st code t).site st).abortT = some t := (congrArg Site.abortT hsite :)
    rw [exec_burstAbort h, hcmd]
    refine ⟨_, rfl, (congrArg Site.st hsite :), (congrArg Site.abortDone hsite :), fun hnone => ?_, fun b tt hb htt => ?_,
      fun e g he hg => State.abortSiteAt_deques hgoing code t he hg, s.abortSiteAt_only st code t⟩
    · rw [hcause, htime, (hown hnone).1, (hown hnone).2]
      exact ⟨rfl, rfl⟩
    · rw [hcause, htime, (hmissing b tt hb htt).1, (hmissing b tt hb htt).2]
      exact ⟨rfl, rfl⟩
  · rw [exec_burstAck h, State.ack, if_neg (not_not.mpr haborted), if_pos ⟨hdone, hflushed⟩]
    have hsite := s.enterIdle_site st
    exact ⟨_, rfl, (congrArg Site.st hsite :), (congrArg Site.abortT hsite :), s.enterIdle_only st⟩
  · rw [exec_burstCmdInvalid h hop hop']
    obtain ⟨hreject, hst, hlast, honly⟩ := s.rejectBurst_spec st Code.paramRange
    exact ⟨_, rfl, hreject, hst, hlast, honly⟩
  · rw [exec_burstArm h, State.arm, if_neg (not_not.mpr hidle), if_pos (by simp [hmode])]
  · rw [exec_burstArm h, State.arm, if_pos hbusy]
  · rw [exec_burstArm h, State.arm, if_neg (not_not.mpr hidle), if_neg (not_not.mpr hmode), if_pos (by simp [hnone])]
  · rw [exec_burstStart h]
    split
    · rfl
    · next hasked => rw [State.start, if_pos (hmode.resolve_right hasked)]
  · rw [exec_burstStart h, if_neg (by simp [hasked]), State.start_unarmed _ hmode (by rcases hst with hst | hst <;> rw [hst] <;> decide)]
    rcases hst with hst | hst <;> rw [hst]
  · rw [exec_burstDisarm h, State.disarmCmd, if_neg hst]
  · rw [exec_burstStart h, if_neg (by simp [hasked]), State.start_unarmed _ hmode (by rw [hst]; decide), hst]
  · rw [exec_burstStart h, if_neg (by simp [hasked]), State.start_unarmed _ hmode (by rw [hst]; decide), hst]
  · rw [exec_burstStart h, if_neg (by simp [hasked]), State.start_armed _ (.inl hmode) hst, if_pos hsource]
  · have hahead : startAhead s.root (T % 2 ^ 24 % 2 ^ 24) = T - s.root := startAhead_eq hlow hhigh (by omega)
    rw [exec_burstStart h, if_neg (by simp [hasked]), State.start_armed _ (.inl hmode) hst, if_neg (by simp [hsource]), hwait,
      show s.root + (0 + 255) / 256 = s.root by omega, hahead]
    split
    · rfl
    · next hnear =>
      rw [State.acceptStart, if_pos]
      unfold State.startWait
      omega
  · rw [exec_burstStop h, State.stop, if_neg hst]
  · rw [exec_burstAbort h, State.abortCmd, if_neg (not_or.mpr ⟨hst, hst'⟩)]
  · rw [exec_burstAck h, State.ack, if_pos hst]
  · rw [exec_burstAck h, State.ack, if_neg (not_not.mpr hst), if_neg (by rcases hearly with he | he <;> simp [he])]

end Sys2Proof.Machine
end

section
/-! Proofs of the statement of the family 12_measurement_adc.md, and the rules about scans it rests on. -/

namespace Sys2Proof.Machine

-- In one thread: the whole text is compiled near its memory limit.
set_option Elab.async false

/-! ### MADC_CTRL (12 R249 to R252) -/

/-- The fields of MADC_CTRL, bit by bit. -/
theorem madcCtrl_fields {start run : Bool} {spare mon : Nat} (hspare : spare < 8) (hmon : mon < 16) :
    bit (b2n start + madcWord run spare mon) 0 = start ∧ bit (b2n start + madcWord run spare mon) 1 = run
      ∧ bits (b2n start + madcWord run spare mon) 2 3 = spare ∧ bits (b2n start + madcWord run spare mon) 6 4 = mon := by
  simp only [bit, Nat.testBit_eq_decide_div_mod_eq, bits_eq, madcWord]
  cases start <;> cases run <;> simp only [b2n, if_true, if_false, Bool.false_eq_true, decide_eq_true_eq, decide_eq_false_iff_not] <;> omega

/-- The fields a write of MADC_CTRL leaves. -/
def Madc.written (m : Madc) (run : Bool) (spare mon : Nat) : Madc :=
  { m with
    run := run, spare := spare, mon := mon, pending := m.pending && (run || !m.run), again := m.again && (run || !m.run) }

section
variable {s : State} {k : Nat}

theorem State.wMadcCtrl_acts {fn val spare mon : Nat} {start run : Bool} (hval : val = b2n start + Machine.madcWord run spare mon)
    (hspare : spare < 8) (hmon : mon ≤ 9) (hmine : s.laneMine (s.hdr Ty.madc k).owner k spare = true) : s.wMadcCtrl fn k val
    = when start (fun u => u.madcTrigger k)
      (when ((run && decide (s.madcState k < 2)) && !(s.madc k).run && (s.madc k).src == 1) (fun u => u.madcTrigger k true)
        (s.modMadc k (fun m => (m.written (run && decide (s.madcState k < 2)) spare mon).relatch s.now))) := by
  obtain ⟨h0, h1, h2, h6⟩ := madcCtrl_fields (start := start) (run := run) hspare (show mon < 16 by omega)
  rw [← hval] at h0 h1 h2 h6
  unfold State.wMadcCtrl
  dsimp only
  rw [h2, h6, State.checked_pass _ (by simp [hmine, hmon]), h0, h1]
  rfl

/-- A scan that has begun keeps its mask, and what is not scanning has none. -/
theorem Madc.relatch_begun {m : Madc} {now : Nat} (h : ∀ c, m.scan = some c → ttLt now (c.start + 4096) = false) :
    m.relatch now = m := by
  unfold Madc.relatch
  split
  · next c hc => exact if_neg (by simp [h c hc])
  · rfl

theorem Madc.relatch_fields (m : Madc) (now : Nat) : (m.relatch now).run = m.run ∧ (m.relatch now).spare = m.spare
    ∧ (m.relatch now).mon = m.mon ∧ (m.pending = false → (m.relatch now).pending = false)
    ∧ (m.mask ≠ 0 → (m.relatch now).scans = m.scans) := by
  unfold Madc.relatch
  split
  · split
    · split
      · next hmask =>
        dsimp only
        split
        · exact ⟨rfl, rfl, rfl, fun _ => rfl, fun h => absurd hmask h⟩
        · exact ⟨rfl, rfl, rfl, fun _ => rfl, fun h => absurd hmask h⟩
      · exact ⟨rfl, rfl, rfl, id, fun _ => rfl⟩
    · exact ⟨rfl, rfl, rfl, id, fun _ => rfl⟩
  · exact ⟨rfl, rfl, rfl, id, fun _ => rfl⟩

/-! ### Triggers (12 R250 to R253) -/

theorem State.madcStart_only (s : State) (k t : Nat) : Only [.madcs] s (s.madcStart k t) := s.modMadc_only k _

theorem State.madcStart_fields (s : State) (k t : Nat) : ((s.madcStart k t).madc k).run = (s.madc k).run
    ∧ ((s.madcStart k t).madc k).spare = (s.madc k).spare ∧ ((s.madcStart k t).madc k).mon = (s.madc k).mon
    ∧ ∀ j, j ≠ k → (s.madcStart k t).madc j = s.madc j := by
  unfold State.madcStart
  dsimp only
  refine ⟨?_, ?_, ?_, fun j hj => by rw [State.modMadc_madc, if_neg hj]⟩
  all_goals
    rw [State.modMadc_madc, if_pos rfl]
    split <;> rfl

/-- The scan a trigger at TT `t` starts. -/
def State.newScan (s : State) (k t : Nat) : Scan :=
  { start := s.aclkAt t, mask := (s.madc k).mask, mon := (s.madc k).mon, spare := (s.madc k).spare, left := bitList (s.madc k).mask 32
    cstart := s.aclkAt t, seq := (s.madc k).scans % 65536 }

theorem State.madcStart_madc (t : Nat) (hmask : (s.madc k).mask ≠ 0) (j : Nat) : (s.madcStart k t).madc j
    = if j = k then { s.madc j with scan := some (s.newScan k t), scans := (s.madc j).scans + 1 } else s.madc j := by
  unfold State.madcStart
  dsimp only
  rw [State.modMadc_madc]
  split
  · next hj =>
    subst hj
    rw [if_neg hmask]
    rfl
  · rfl

/-- A trigger of an ACTIVE MADC. -/
theorem State.madcTrigger_active (hactive : s.madcState k = 0) : s.madcTrigger k = match (s.madc k).scan with
    | none => s.madcStart k s.now
    | some c =>
      if ¬ (s.madc k).pending then s.modMadc k (fun m => { m with pending := true })
      else if c.endsBy s.now ∧ ¬ (s.madc k).again then s.modMadc k (fun m => { m with again := true })
      else s.madcLose k := by
  unfold State.madcTrigger State.madcTriggerAt
  rw [hactive]
  rfl

/-- The continuous source starts a scan or does nothing. -/
theorem State.madcTrigger_continuous (s : State) (k : Nat) :
    s.madcTrigger k true = s ∨ s.madcTrigger k true = s.madcStart k s.now := by
  unfold State.madcTrigger State.madcTriggerAt
  dsimp only
  split
  · split
    · exact .inr rfl
    · exact .inl rfl
  · exact .inl rfl
  · exact .inl rfl

/-! ### Writes of MADC_CTRL as commands -/

section
variable {fn : Nat} (h : s.accepts fn Ty.madc k 0x040 = true)
include h

/-- START leaves the other fields of MADC_CTRL as they stand and triggers. -/
theorem exec_madcStart (hactive : s.madcState k = 0) (hspare : (s.madc k).spare < 8) (hmon : (s.madc k).mon ≤ 9)
    (hmine : s.laneMine (s.hdr Ty.madc k).owner k (s.madc k).spare = true)
    (hbegun : ∀ c, (s.madc k).scan = some c → ttLt s.now (c.start + 4096) = false) :
    exec (.madcStart fn k) s = .next ((s.modMadc k (fun m => m)).madcTrigger k) := by
  refine (onUnit_onWrite h _).trans (congrArg Host.Outcome.next ?_)
  refine (State.wMadcCtrl_acts (start := true) (run := (s.madc k).run) rfl hspare hmon hmine).trans ?_
  rw [hactive]
  have hkept : ((s.madc k).written ((s.madc k).run && decide (0 < 2)) (s.madc k).spare (s.madc k).mon).relatch s.now = s.madc k := by
    rw [show (decide (0 < 2)) = true from rfl, Bool.and_true, Madc.written, Bool.or_not_self, Bool.and_true, Bool.and_true]
    exact Madc.relatch_begun hbegun
  rw [State.modMadc_congr (g := fun m => m) hkept]
  cases (s.madc k).run <;> rfl

theorem exec_madcRunStart {spare mon : Nat} (hspare : spare < 8) (hmon : mon ≤ 9)
    (hmine : s.laneMine (s.hdr Ty.madc k).owner k spare = true) (hstate : s.madcState k < 2) :
    exec (.madcRunStart fn k spare mon) s = .next (when (!(s.madc k).run && (s.madc k).src == 1) (fun u => u.madcTrigger k true)
      (s.modMadc k (fun m => (m.written true spare mon).relatch s.now))) := by
  refine (onUnit_onWrite h _).trans (congrArg Host.Outcome.next ?_)
  rw [Nat.mod_eq_of_lt hspare, Nat.mod_eq_of_lt (show mon < 16 by omega),
    State.wMadcCtrl_acts (start := false) (run := true) (Nat.zero_add _).symm hspare hmon hmine, decide_eq_true hstate]
  rfl

theorem exec_madcRunStop {spare mon : Nat} (hspare : spare < 8) (hmon : mon ≤ 9)
    (hmine : s.laneMine (s.hdr Ty.madc k).owner k spare = true) :
    exec (.madcRunStop fn k spare mon) s = .next (s.modMadc k (fun m => (m.written false spare mon).relatch s.now)) := by
  refine (onUnit_onWrite h _).trans (congrArg Host.Outcome.next ?_)
  rw [Nat.mod_eq_of_lt hspare, Nat.mod_eq_of_lt (show mon < 16 by omega),
    State.wMadcCtrl_acts (start := false) (run := false) (Nat.zero_add _).symm hspare hmon hmine]
  rfl

end

/-- The trigger of an MADC whose registers were written back as they stand. -/
theorem State.rewritten_active (hactive : s.madcState k = 0) : (s.modMadc k (fun m => m)).madcState k = 0 := by
  unfold State.madcState at hactive ⊢
  simpa using hactive

theorem State.madcLose_madc (s : State) (k : Nat) :
    (s.madcLose k).madc k = { s.madc k with lost := min 0xFFFFFF ((s.madc k).lost + 1) } := by
  rw [State.madcLose, State.cause_madc, State.modMadc_madc, if_pos rfl]
  rfl

theorem State.madcLose_only (s : State) (k : Nat) : Only (.madcs :: causeParts) s (s.madcLose k) :=
  (s.modMadc_only k _).comp (State.cause_only _ _ _ _)

/-! ### Transients (18 R383, R384) -/

theorem State.raiseAt_lastCode (s : State) (tt code ty inst : Nat) (site : Option Nat) (detail : Nat) (tr perm : Bool) :
    (s.raiseAt tt code ty inst site detail tr perm).err.lastCode = code := by
  unfold State.raiseAt
  dsimp only
  split
  · rfl
  · exact (congrArg Prod.fst (State.newEntry_named _ _) :)

/-- The state after a transient of a unit that is not its permanent fault. -/
def State.charged (s : State) (key code ty inst : Nat) (site : Option Nat) (detail : Nat) : State :=
  (s.raiseAt s.now code ty inst site detail true false).modFault key (fun f => { f with times := s.now :: f.times })

theorem State.transient_charged {kind i code ty inst : Nat} {site : Option Nat} {detail : Nat} {retry hold : Bool}
    (hkept : (s.fault (unitKey kind i)).retired = false) (htransient : s.permanent (unitKey kind i) retry = false) :
    s.transient kind i code ty inst site detail retry hold = s.charged (unitKey kind i) code ty inst site detail := by
  unfold State.transient State.transientAt
  dsimp only
  rw [hkept, htransient]
  rfl

theorem State.charged_only (s : State) (key code ty inst : Nat) (site : Option Nat) (detail : Nat) :
    Only (.faults :: errorParts) s (s.charged key code ty inst site detail) :=
  (s.raiseAt_only _ _ _ _ _ _ _ _).comp (State.modFault_only _ key _)

theorem State.charged_fault (s : State) (key code ty inst : Nat) (site : Option Nat) (detail : Nat) :
    (s.charged key code ty inst site detail).fault key = { s.fault key with times := s.now :: (s.fault key).times } := by
  rw [State.charged, State.modFault_fault, if_pos rfl, (s.raiseAt_only _ _ _ _ _ _ _ _).fault (by decide)]

theorem State.charged_lastCode (s : State) (key code ty inst : Nat) (site : Option Nat) (detail : Nat) :
    (s.charged key code ty inst site detail).err.lastCode = code := by
  rw [State.charged, State.modFault_err, State.raiseAt_lastCode]

/-! ### Conversions (12 R250 to R255) -/

/-- Between two conversions the scan goes on with its next input. -/
theorem State.madcNext_goes {c : Scan} {n : Nat} {rest : List Nat} (hleft : c.left = n :: rest) (hmore : rest ≠ []) (at_ : Nat) :
    s.madcNext k c at_ = s.modMadc k (fun m => { m with scan := some { c with left := rest, cstart := at_, held := none } }) := by
  obtain ⟨n', rest', rfl⟩ := List.exists_cons_of_ne_nil hmore
  unfold State.madcNext
  rw [hleft]

theorem State.acqSample_only (s : State) (k n hold word : Nat) : Only [.acqs] s (s.acqSample k n hold word) := by
  unfold State.acqSample
  dsimp only
  refine Only.of_ite (Only.refl _ s) (Only.of_ite ?_ (Only.of_ite ?_ ?_))
  · exact Only.when (fun t => t.modAcq_only k _) _ s
  · exact (Only.when (fun t => t.modAcq_only k _) _ s).trans (State.modAcq_only _ k _)
  · exact (Only.when (fun t => t.modAcq_only k _) _ s).trans (State.modAcq_only _ k _)

theorem State.madcGap_only (s : State) (k tt seq n : Nat) : Only (.madcs :: causeParts) s (s.madcGap k tt seq n) :=
  (s.modMadc_only k _).comp (State.cause_only _ _ _ _)

theorem State.madcResult_only (s : State) (k : Nat) (c : Scan) (n : Nat) (raw : Int) :
    Only (.madcs :: .hists :: causeParts) s (s.madcResult k c n raw) := by
  unfold State.madcResult
  dsimp only
  have hstored : ∀ (f : Madc → Madc) (b d : Bool) (tt seq : Nat), Only (.madcs :: .hists :: causeParts) s
      (when b (fun t => t.cause Ty.madc k 2) (when d (fun t => t.madcGap k tt seq 1) (s.modMadc k f))) := fun f b d tt seq =>
    (((s.modMadc_only k f).comp (Only.when (fun t => t.madcGap_only k tt seq 1) _ _) (n := .madcs :: causeParts)).comp
      (Only.when (fun t => t.cause_only _ _ _) _ _))
  exact Only.of_ite ((hstored _ _ _ _ _).trans ((State.modHist_only _ k _).mono (by decide))) (hstored _ _ _ _ _)

/-- The results of an MADC after a conversion. -/
theorem State.madcResult_results (s : State) (k : Nat) (c : Scan) (n : Nat) (raw : Int) :
    ((s.madcResult k c n raw).madc k).results = Tbl.set 0 (s.madc k).results n ((s.madcWord k c n raw).1 + 2 ^ 28) := by
  have hstored : ∀ (f : Madc → Madc) (b d : Bool) (tt seq : Nat), ((when b (fun t => t.cause Ty.madc k 2)
      (when d (fun t => t.madcGap k tt seq 1) (s.modMadc k f))).madc k).results = (f (s.madc k)).results := by
    intro f b d tt seq
    cases b <;> cases d <;> simp [State.madcGap]
  have hhist : ∀ (t : State) (p : Prop) [Decidable p] (f : Hist → Hist), (if p then t.modHist k f else t).madc k = t.madc k := by
    intro t p _ f
    split <;> rfl
  exact (congrArg Madc.results (hhist _ _ _)).trans (hstored _ _ _ _ _)

/-! ### Records (12 R256) -/

/-- A record of 16 bytes takes one slot of a stream queue with room. -/
theorem State.stream_slot {q : Nat} {rec : List Byte} (hlen : rec.length = 16) (hroom : 0 < (s.queue q).room) :
    (s.stream q rec).2 = true ∧ ((s.stream q rec).1.queue q).recs = (s.queue q).recs ++ [1]
    ∧ ((s.stream q rec).1.queue q).tail = ((s.queue q).tail + 1) % (s.queue q).slots := by
  have hslots : (rec.length + 15) / 16 = 1 := by rw [hlen]
  have hstream := State.stream_queue (s := s) (q := q) (rec := rec) (by rw [hslots]; exact hroom)
  rwa [hslots] at hstream

theorem State.stream_full {q : Nat} {rec : List Byte} (hlen : rec.length = 16) (hfull : (s.queue q).room = 0) :
    s.stream q rec = (s, false) :=
  if_neg (by rw [hlen, hfull]; decide)

theorem State.deliver_plain {o : Nat} (hplain : s.isSealed o = false) (kind inst q : Nat) (rec : List Byte) :
    s.deliver o kind inst q rec = s.stream q rec :=
  if_pos (by rw [hplain]; decide)

theorem madcRec_length (tt word input kind seq : Nat) : (madcRec tt word input kind seq).length = 16 := by simp [madcRec, le]

section
variable {tt w n seq : Nat} {rest : List (Nat × Nat × Nat × Nat)} (hk : k < nClu) (hrecs : (s.madc k).recs = (tt, w, n, seq) :: rest)
  (hgap : (s.madc k).gap = none) (hplain : s.isSealed (s.hdr Ty.madc k).owner = false)
include hk hrecs hgap hplain

/-- The oldest record goes to the queue, or where it is not taken into the gap. -/
theorem exec_madcRecordMove : exec (.madcRecordMove k) s
    = .next (let u := s.modMadc k (fun m => { m with recs := rest })
      let r := if s.bpHeld (s.madc k).queue then (u, false) else u.stream (s.madc k).queue (madcRec tt w n 0 seq)
      if r.2 then r.1 else r.1.madcGap k tt seq 1) := by
  refine (onUnit_of (decide (k < nClu)) _ (decide_eq_true hk)).trans (congrArg Host.Outcome.next ?_)
  have hdeliver := State.deliver_plain (s := s.modMadc k (fun m => { m with recs := rest })) hplain 2 k (s.madc k).queue
    (madcRec tt w n 0 seq)
  unfold State.madcMove
  dsimp only
  rw [hrecs, hgap]
  dsimp only
  rw [hdeliver]

/-- A record that finds no room, or whose class HBM holds back, joins the gap. -/
theorem exec_madcRecordMove_gap (hfull : (s.queue (s.madc k).queue).room = 0 ∨ s.bpHeld (s.madc k).queue = true) :
    exec (.madcRecordMove k) s = .next ((s.modMadc k (fun m => { m with recs := rest })).madcGap k tt seq 1) := by
  rw [exec_madcRecordMove hk hrecs hgap hplain]
  by_cases hheld : s.bpHeld (s.madc k).queue = true
  · rw [hheld]
    rfl
  · have hstream := State.stream_full (s := s.modMadc k (fun m => { m with recs := rest })) (madcRec_length tt w n 0 seq)
      (hfull.resolve_right hheld)
    dsimp only
    rw [if_neg hheld, hstream]
    rfl

/-- A record that finds room goes to the queue. -/
theorem exec_madcRecordMove_stream (hroom : 0 < (s.queue (s.madc k).queue).room) (hfree : s.bpHeld (s.madc k).queue = false) :
    exec (.madcRecordMove k) s
      = .next ((s.modMadc k (fun m => { m with recs := rest })).stream (s.madc k).queue (madcRec tt w n 0 seq)).1 := by
  have htaken := (State.stream_slot (s := s.modMadc k (fun m => { m with recs := rest })) (madcRec_length tt w n 0 seq) hroom).1
  rw [exec_madcRecordMove hk hrecs hgap hplain, hfree]
  exact congrArg Host.Outcome.next (if_pos htaken)

end

end

/-- Settles O28, command by command: a write of MADC_CTRL, the triggers, the conversions, the records. -/
theorem scansStartConvertAndRecord : Obligations.ScansStartConvertAndRecord := by
  refine ⟨fun s fn k h hactive hspare hmon hmask hmine => ?_, fun s k hk hactive hmask hscan hrun hsrc hroot => ?_,
    fun s fn k spare mon h hspare hmon hmine => ⟨fun hstate => ?_, ?_⟩, fun s k n c rest raw hk hscan hleft hmore htime hraw => ?_,
    fun s k n c rest hk hscan hleft hmore htime hkept htransient => ?_, fun s k tt w n seq rest hk hrecs hgap hplain => ⟨fun hfull => ?_,
      fun hroom hfree => ?_⟩⟩
  · have hexec := fun hbegun => (exec_madcStart h hactive hspare hmon hmine hbegun).trans
      (congrArg Host.Outcome.next (State.madcTrigger_active (State.rewritten_active hactive)))
    have hmadc : (s.modMadc k (fun m => m)).madc k = s.madc k := by simp
    rw [hmadc] at hexec
    have hown := s.modMadc_only k (fun m => m)
    refine ⟨fun hscan => ?_, fun c hscan hbegun hpending => ?_, fun c hscan hbegun hpending hends hagain => ?_,
      fun c hscan hbegun hpending hlost => ?_⟩

    · rw [hscan] at hexec
      have hstart := (s.modMadc k (fun m => m)).madcStart_madc s.now (k := k) (by rw [hmadc]; exact hmask)
      refine ⟨_, hexec (fun c hc => absurd hc (by simp)), _, (congrArg Madc.scan ((hstart k).trans (if_pos rfl)) :),
        rfl, ?_, ?_, ?_, ?_, fun j hj => ?_, hown.trans (State.madcStart_only _ k _)⟩
      · rw [State.newScan, hmadc]
      · rw [State.newScan, hmadc]
      · rw [State.newScan, hmadc]
      · rw [State.newScan, hmadc]
      · exact (hstart j).trans ((if_neg hj).trans (by rw [State.modMadc_madc, if_neg hj]))
    · rw [hscan] at hexec
      have hbegun' : ∀ c', some c = some c' → ttLt s.now (c'.start + 4096) = false := fun c' hc => Option.some.inj hc ▸ hbegun
      refine ⟨_, (hexec hbegun').trans (congrArg Host.Outcome.next (if_pos (by simp [hpending]))), ?_, hown.trans (State.modMadc_only _ k _)⟩
      rw [State.modMadc_madc, if_pos rfl, hmadc]
    · rw [hscan] at hexec
      have hbegun' : ∀ c', some c = some c' → ttLt s.now (c'.start + 4096) = false := fun c' hc => Option.some.inj hc ▸ hbegun
      refine ⟨_, (hexec hbegun').trans (congrArg Host.Outcome.next ((if_neg (by simp [hpending])).trans (if_pos ⟨hends, by simp [hagain]⟩))),
        ?_, hown.trans (State.modMadc_only _ k _)⟩
      rw [State.modMadc_madc, if_pos rfl, hmadc]
    · rw [hscan] at hexec
      have hbegun' : ∀ c', some c = some c' → ttLt s.now (c'.start + 4096) = false := fun c' hc => Option.some.inj hc ▸ hbegun
      refine ⟨_, (hexec hbegun').trans (congrArg Host.Outcome.next ((if_neg (by simp [hpending])).trans (if_neg ?_))),
        ?_, ?_, (hown.mono (by decide)).trans (State.madcLose_only _ k)⟩
      · rintro ⟨hends, hagain⟩
        rcases hlost with h | h
        · exact Bool.false_ne_true (h.symm.trans hends)
        · exact hagain h
      · rw [State.madcLose_madc, hmadc]
      · rw [State.madcLose, State.cause_hdr]
        rfl
  · have hactive' : s.madcTrigger k = s.madcStart k s.now := by rw [State.madcTrigger_active hactive, hscan]
    have hexec : exec (.madcPeriodicTrigger k) s = .next (s.madcStart k s.now) := by
      refine (onUnit_of (decide (k < nClu)) _ (decide_eq_true hk)).trans (congrArg Host.Outcome.next ?_)
      exact (if_pos ⟨hrun, hsrc, hroot⟩).trans hactive'
    exact ⟨_, hexec, _, (congrArg Madc.scan ((s.madcStart_madc s.now hmask k).trans (if_pos rfl)) :), rfl, rfl, s.madcStart_only k _⟩
  · rw [exec_madcRunStart h hspare hmon hmine hstate]
    obtain ⟨hrun, hsp, hmn, -, -⟩ := ((s.madc k).written true spare mon).relatch_fields s.now
    generalize hu : s.modMadc k (fun m => (m.written true spare mon).relatch s.now) = u
    have hmadc : ∀ j, u.madc j = if j = k then ((s.madc j).written true spare mon).relatch s.now else s.madc j := by
      intro j
      rw [← hu, State.modMadc_madc]
    have honly : Only [.madcs] s u := hu ▸ s.modMadc_only k _
    have hk := hmadc k
    rw [if_pos rfl] at hk
    have hwritten : (u.madc k).run = true ∧ (u.madc k).spare = spare ∧ (u.madc k).mon = mon ∧ ∀ j, j ≠ k → u.madc j = s.madc j :=
      ⟨by rw [hk, hrun]; rfl, by rw [hk, hsp]; rfl, by rw [hk, hmn]; rfl, fun j hj => by rw [hmadc, if_neg hj]⟩
    obtain ⟨hrun', hsp', hmn', hother⟩ := hwritten
    have htrigger : when (!(s.madc k).run && (s.madc k).src == 1) (fun u => u.madcTrigger k true) u = u
        ∨ when (!(s.madc k).run && (s.madc k).src == 1) (fun u => u.madcTrigger k true) u = u.madcStart k u.now := by
      cases (!(s.madc k).run && (s.madc k).src == 1)
      · exact .inl rfl
      · exact u.madcTrigger_continuous k
    refine ⟨_, rfl, ?_⟩
    rcases htrigger with ht | ht
    · rw [ht]
      exact ⟨hrun', hsp', hmn', hother, honly⟩
    · rw [ht]
      obtain ⟨hr, hs, hm, hj⟩ := u.madcStart_fields k u.now
      exact ⟨hr.trans hrun', hs.trans hsp', hm.trans hmn', fun j h => (hj j h).trans (hother j h), honly.trans (u.madcStart_only k _)⟩
  · rw [exec_madcRunStop h hspare hmon hmine]
    obtain ⟨hrun, hsp, hmn, hpending, hscans⟩ := ((s.madc k).written false spare mon).relatch_fields s.now
    refine ⟨_, rfl, ?_, fun hran => ?_, ?_, ?_, fun hmask => ?_, s.modMadc_only k _⟩
    · rw [State.modMadc_madc, if_pos rfl, hrun]
      rfl
    · rw [State.modMadc_madc, if_pos rfl, hpending]
      rw [Madc.written, hran]
      exact Bool.and_false _
    · rw [State.modMadc_madc, if_pos rfl, hsp]
      rfl
    · rw [State.modMadc_madc, if_pos rfl, hmn]
      rfl
    · rw [State.modMadc_madc, if_pos rfl, hscans hmask]
      rfl
  · have hexec : exec (.madcConversionDone k raw) s = .next (((s.madcResult k c n raw).acqSample k n c.hold (s.madcWord k c n raw).1).madcNext k c
        (c.cstart + fsUs)) := by
      refine (onUnit_of (decide (k < nClu)) _ (decide_eq_true hk)).trans (congrArg Host.Outcome.next ?_)
      unfold State.madcDone
      rw [hscan]
      dsimp only
      rw [hleft]
      dsimp only
      rw [if_neg (not_not.mpr htime), if_neg (by omega)]
    have hstored : Only (([.madcs, .acqs, .hists] : List Part) ++ causeParts) s ((s.madcResult k c n raw).acqSample k n c.hold (s.madcWord k c n raw).1) :=
      (s.madcResult_only k c n raw).comp (State.acqSample_only _ k n _ _)
    rw [State.madcNext_goes hleft hmore] at hexec
    have hresults : ((((s.madcResult k c n raw).acqSample k n c.hold (s.madcWord k c n raw).1)).madc k).results
        = Tbl.set 0 (s.madc k).results n ((s.madcWord k c n raw).1 + 2 ^ 28) := by
      rw [(State.acqSample_only _ k n _ _).madc (by decide), State.madcResult_results]
    refine ⟨_, hexec, ?_, fun j hj => ?_, ?_, hstored.trans ((State.modMadc_only _ k _).mono (by decide))⟩
    · rw [State.modMadc_madc, if_pos rfl, hresults, Tbl.get_set_same]
    · rw [State.modMadc_madc, if_pos rfl, hresults, Tbl.get_set_ne _ _ _ _ hj]
    · rw [State.modMadc_madc, if_pos rfl]
  · have hfault : s.madcFault k = s.charged (unitKey kMadc k) Code.madcFault Ty.madc k (siteOpt (s.hdr Ty.madc k).owner) 0 :=
      State.transient_charged hkept htransient
    have honly : Only (.faults :: errorParts) s (s.madcFault k) := hfault ▸ s.charged_only _ _ _ _ _ _
    have hmadc : (s.madcFault k).madc k = s.madc k := honly.madc (by decide) k
    have hfaults : (s.madcFault k).fault (unitKey kMadc k)
        = { s.fault (unitKey kMadc k) with times := s.now :: (s.fault (unitKey kMadc k)).times } := by
      rw [hfault, State.charged_fault]
    have hexec : exec (.madcConversionTimeout k) s = .next ((s.madcFault k).modMadc k (fun m => { m with
        scan := some { c with left := rest, cstart := c.cstart + 2 * fsUs, held := none } })) := by
      refine (onUnit_of (decide (k < nClu)) _ (decide_eq_true hk)).trans (congrArg Host.Outcome.next ?_)
      rw [hscan]
      dsimp only
      rw [if_neg (by simp [hleft, htime]), State.madcFaultNext, hmadc, hscan, State.madcNext_goes hleft hmore]
      rfl
    refine ⟨_, hexec, ?_, ?_, ?_, ?_, ?_, honly.comp (State.modMadc_only _ k _)⟩
    · rw [State.modMadc_madc, if_pos rfl, hmadc]
    · rw [State.modMadc_err, hfault, State.charged_lastCode]
    · rw [State.modMadc_madc, if_pos rfl]
    · rw [State.modMadc_fault, hfaults]
      exact hkept
    · rw [State.modMadc_fault, hfaults]
      rfl
  · refine ⟨_, exec_madcRecordMove_gap hk hrecs hgap hplain hfull, ?_, ?_, ?_, ((s.modMadc_only k _).mono (by decide)).trans (State.madcGap_only _ k _ _ _)⟩
    · rw [State.madcGap, State.cause_madc, State.modMadc_madc, if_pos rfl, State.modMadc_madc, if_pos rfl]
    · rw [State.madcGap, State.cause_madc, State.modMadc_madc, if_pos rfl, State.modMadc_madc, if_pos rfl, hgap]
      rfl
    · exact State.cause_irqStatus (by decide) _ _ _
  · obtain ⟨-, hqrecs, hqtail⟩ := State.stream_slot (s := s.modMadc k (fun m => { m with recs := rest })) (q := (s.madc k).queue)
      (madcRec_length tt w n 0 seq) hroom
    have honly := (s.modMadc k (fun m => { m with recs := rest })).stream_only (s.madc k).queue (madcRec tt w n 0 seq)
    refine ⟨_, exec_madcRecordMove_stream hk hrecs hgap hplain hroom hfree, ?_, ?_, hqrecs, hqtail, (s.modMadc_only k _).comp honly⟩
    · rw [honly.madc (by decide), State.modMadc_madc, if_pos rfl]
    · rw [honly.madc (by decide), State.modMadc_madc, if_pos rfl, hgap]

end Sys2Proof.Machine
end

section
/-! Proofs of the statement of the family 13_triggers_and_acquisition.md, and the rules about acquisition units it rests on. -/

namespace Sys2Proof.Machine

-- In one thread: the whole text is compiled near its memory limit.
set_option Elab.async false

/-! ### Two writes of one unit in a row -/

section
variable {α : Type} (t : Tbl α) (k : Nat) (v : α)

theorem Tbl.erase_erase : Tbl.erase (Tbl.erase t k) k = Tbl.erase t k := by
  induction t with
  | nil => rfl
  | cons p t ih =>
    obtain ⟨j, w⟩ := p
    by_cases h : j = k <;> simp [Tbl.erase, h, ih]

theorem Tbl.erase_insert : Tbl.erase (Tbl.insert t k v) k = Tbl.erase t k := by
  induction t with
  | nil => simp [Tbl.insert, Tbl.erase]
  | cons p t ih =>
    obtain ⟨j, w⟩ := p
    unfold Tbl.insert
    split
    · simp [Tbl.erase]
    · by_cases h : j = k <;> simp [Tbl.erase, h, ih]

theorem Tbl.set_set [DecidableEq α] (d w : α) : Tbl.set d (Tbl.set d t k v) k w = Tbl.set d t k w := by
  have herase : Tbl.erase (Tbl.set d t k v) k = Tbl.erase t k := by
    unfold Tbl.set
    split
    · exact Tbl.erase_erase t k
    · rw [Tbl.erase_insert, Tbl.erase_erase]
  rw [Tbl.set, herase, Tbl.set]

end

theorem State.modAcq_modAcq (s : State) (k : Nat) (f g : Acq → Acq) : (s.modAcq k f).modAcq k g = s.modAcq k (fun a => g (f a)) := by
  have htbl : Tbl.upd {} (Tbl.upd {} s.acqs k f) k g = Tbl.upd {} s.acqs k (fun a => g (f a)) := by
    unfold Tbl.upd
    rw [Tbl.get_set_same, Tbl.set_set]
  exact congrArg (fun l => { s with acqs := l }) htbl

/-! ### Records into the ring (13 R264, R272, R276) -/

section
variable {s : State} {k : Nat}

theorem Acq.append_stream {a : Acq} (hsingle : a.single = false) (r : AcqRec) : a.append r = { a with buf := a.buf ++ [r] } := by
  simp [Acq.append, hsingle]

/-- Only records after a trigger count toward POST. -/
theorem Acq.countPost_other {a : Acq} (hstate : a.state ≠ 4) : a.countPost = a := if_neg hstate

theorem State.acqWrite_only (s : State) (k : Nat) (r : AcqRec) : Only (.acqs :: causeParts) s (s.acqWrite k r) := by
  unfold State.acqWrite
  dsimp only
  refine Only.of_ite (Only.refl _ s) (Only.of_ite ((s.modAcq_only k _).mono (by decide)) (Only.of_ite ((s.modAcq_only k _).mono (by decide)) ?_))
  exact (s.modAcq_only k _).comp (Only.when (fun t => t.cause_only _ _ _) _ _)

theorem State.acqEdge_only (s : State) (k : Nat) (r : AcqRec) : Only (.acqs :: causeParts) s (s.acqEdge k r) := by
  unfold State.acqEdge
  dsimp only
  refine Only.of_ite (Only.refl _ s) (Only.of_ite ((s.modAcq_only k _).mono (by decide)) (Only.of_ite ?_ ?_))
  · exact ((s.modAcq_only k _).trans (State.modAcq_only _ k _)).mono (by decide)
  · exact (((s.modAcq_only k _).trans (State.modAcq_only _ k _)).mono (by decide)).trans (State.acqWrite_only _ k r)

theorem State.acqLand_only (s : State) (k : Nat) : Only (.acqs :: causeParts) s (s.acqLand k) := by
  unfold State.acqLand
  split
  · exact Only.refl _ s
  · exact ((s.modAcq_only k _).mono (by decide)).trans (Only.of_ite (State.acqEdge_only _ k _) (State.acqWrite_only _ k _))

theorem State.acqCatchUp_only (s : State) (k tt : Nat) : Only (.acqs :: causeParts) s (s.acqCatchUp k tt) :=
  Only.foldl (fun t (_ : Nat × AcqRec) => Only.when (fun u => u.acqLand_only k) _ t) _ s

/-! ### What the arrival of records keeps of a unit that waits for its trigger -/

/-- A unit as its arm left it: what no record on its way changes. -/
def Acq.armed (a : Acq) : Nat × Bool × Nat × Nat × Nat × Nat := (a.state, a.single, a.post, a.ignored, a.declared, a.armT)

theorem Acq.armed_state {a b : Acq} (h : a.armed = b.armed) : a.state = b.state := congrArg Prod.fst h

theorem Acq.armed_single {a b : Acq} (h : a.armed = b.armed) : a.single = b.single := congrArg (fun x => x.2.1) h

theorem Acq.writeGap_armed {a : Acq} (hstate : a.state ≠ 4) : a.writeGap.1.armed = a.armed := by
  unfold Acq.writeGap
  split
  · rfl
  · rw [Acq.countPost_other (by exact hstate)]
    rfl

theorem State.acqWrite_armed (hstate : (s.acq k).state ≠ 4) (r : AcqRec) : ((s.acqWrite k r).acq k).armed = (s.acq k).armed := by
  have hgap := Acq.writeGap_armed hstate
  have hgap' : (s.acq k).writeGap.1.state ≠ 4 := by rwa [show (s.acq k).writeGap.1.state = (s.acq k).state from congrArg Prod.fst hgap]
  have hset : ∀ f : Acq → Acq, ((s.modAcq k f).acq k) = f (s.acq k) := fun f => by rw [State.modAcq_acq, if_pos rfl]
  unfold State.acqWrite
  dsimp only
  split
  · rfl
  · split
    · rw [hset]
      rfl
    · split
      · rw [hset]
        rfl
      · rw [(Only.when (fun t => t.cause_only _ _ _) _ _).acq (by decide), hset]
        split
        · exact hgap
        · rw [Acq.countPost_other (by exact hgap')]
          exact hgap

theorem State.acqEdge_armed (hstate : (s.acq k).state ≠ 4) (r : AcqRec) : ((s.acqEdge k r).acq k).armed = (s.acq k).armed := by
  have hset : ∀ (t : State) (f : Acq → Acq), ((t.modAcq k f).acq k) = f (t.acq k) := fun t f => by rw [State.modAcq_acq, if_pos rfl]
  unfold State.acqEdge
  dsimp only
  split
  · rfl
  · split
    · rw [hset]
      rfl
    · split
      · rw [hset, hset]
        rfl
      · rw [State.acqWrite_armed (by rw [hset, hset]; exact hstate), hset, hset]
        rfl

theorem State.acqLand_armed (hstate : (s.acq k).state ≠ 4) : ((s.acqLand k).acq k).armed = (s.acq k).armed := by
  have hset : ∀ (t : State) (f : Acq → Acq), ((t.modAcq k f).acq k) = f (t.acq k) := fun t f => by rw [State.modAcq_acq, if_pos rfl]
  unfold State.acqLand
  split
  · rfl
  · split
    · rw [State.acqEdge_armed (by rw [hset]; exact hstate), hset]
      rfl
    · rw [State.acqWrite_armed (by rw [hset]; exact hstate), hset]
      rfl

theorem State.acqCatchUp_armed (hstate : (s.acq k).state ≠ 4) (tt : Nat) : ((s.acqCatchUp k tt).acq k).armed = (s.acq k).armed := by
  unfold State.acqCatchUp
  generalize (s.acq k).fly = l
  induction l generalizing s with
  | nil => rfl
  | cons x l ih =>
    have hstep : ((when (ttLt x.1 (tt / 4096 * 4096)) (fun u => u.acqLand k) s).acq k).armed = (s.acq k).armed := by
      cases ttLt x.1 (tt / 4096 * 4096)
      · rfl
      · exact State.acqLand_armed hstate
    rw [List.foldl_cons, ih (by rwa [Acq.armed_state hstep]), hstep]

/-! ### Accepted triggers (13 R264, R269, R271) -/

theorem State.modTrigOut_only (s : State) (n : Nat) (f : TrigOut → TrigOut) : Only [.sync] s (s.modTrigOut n f) := by
  intro p hp
  cases p <;> simp [Part.same] at hp ⊢

theorem State.trigOutEvent_only (s : State) (line tt : Nat) : Only [.sync] s (s.trigOutEvent line tt) :=
  Only.of_ite (s.modTrigOut_only _ _) (Only.refl _ s)

theorem State.madcLose_causes (s : State) (k : Nat) : Only (.madcs :: causeParts) s (s.madcLose k)
    ∧ ∀ a b, pageKey a b ≠ pageKey Ty.madc k → (s.madcLose k).hdr a b = s.hdr a b :=
  ⟨s.madcLose_only k, fun _ _ h => State.cause_hdr_other _ 4 h⟩

/-- A scan trigger touches the MADC, and of the page headers at most its own. -/
theorem State.madcTriggerAt_touches (s : State) (k : Nat) (cont : Bool) (t : Nat) :
    Only (.madcs :: causeParts) s (s.madcTriggerAt k cont t)
    ∧ ∀ a b, pageKey a b ≠ pageKey Ty.madc k → (s.madcTriggerAt k cont t).hdr a b = s.hdr a b := by
  have hunit : ∀ u : State, Only [.madcs] s u → Only (.madcs :: causeParts) s u
      ∧ ∀ a b, pageKey a b ≠ pageKey Ty.madc k → u.hdr a b = s.hdr a b :=
    fun u hu => ⟨hu.mono (by decide), fun a b _ => hu.hdr (by decide) a b⟩
  unfold State.madcTriggerAt
  dsimp only
  split
  · split
    · exact hunit _ (s.madcStart_only k t)
    · split
      · exact hunit _ (Only.refl _ s)
      · split
        · exact hunit _ (s.modMadc_only k _)
        · split
          · exact hunit _ (s.modMadc_only k _)
          · exact s.madcLose_causes k
  · split
    · exact hunit _ (Only.refl _ s)
    · exact s.madcLose_causes k
  · exact hunit _ (Only.refl _ s)

/-- An accepted trigger reaches the TRIG_OUT lines and the MADC that select the unit. -/
def State.acqNotify (s1 : State) (k D : Nat) : State :=
  let o := (s1.hdr Ty.acq k).owner
  let s2 := forEach (List.range 4) (fun n u =>
    let l := u.trigOut n
    when (l.src == 2 && l.sel == k && l.owner == o) (fun v => v.trigOutEvent n D) u) s1
  when ((s2.madc k).src == 4 && (s2.madc k).run && (s2.hdr Ty.madc k).owner == o) (fun u => u.madcTriggerAt k false D) s2

theorem State.acqNotify_touches (s : State) (k D : Nat) : Only (.sync :: .madcs :: causeParts) s (s.acqNotify k D)
    ∧ ∀ a b, pageKey a b ≠ pageKey Ty.madc k → (s.acqNotify k D).hdr a b = s.hdr a b := by
  unfold State.acqNotify
  dsimp only
  generalize hu : forEach (List.range 4) _ s = u
  have honly : Only [.sync] s u := hu ▸ Only.forEach (fun n v => Only.when (fun w => w.trigOutEvent_only n D) _ v) _ s
  cases (u.madc k).src == 4 && (u.madc k).run && (u.hdr Ty.madc k).owner == (s.hdr Ty.acq k).owner
  · exact ⟨honly.mono (by decide), fun a b _ => honly.hdr (by decide) a b⟩
  · obtain ⟨htouch, hhdr⟩ := u.madcTriggerAt_touches k false D
    exact ⟨honly.comp htouch, fun a b h => (hhdr a b h).trans (honly.hdr (by decide) a b)⟩

/-- The unit of a windowed capture as it accepts a trigger: the mark behind the records before it. -/
def Acq.accepted (a : Acq) (T : Int) (ty : Nat) (interp : Bool) (id : Nat) : Acq :=
  { a.putMark (a.markRec T ty interp id) with
    state := 4, postLeft := a.post, spill := decide (32768 < a.pre + 1 + a.post), cut := false }

/-- The unit behind the records that came before a trigger declared at D, its pending gap written. -/
def State.acqBefore (s : State) (k D : Nat) : Acq := ((s.acqCatchUp k D).acq k).writeGap.1

theorem State.acqBefore_armed (hstate : (s.acq k).state ≠ 4) (D : Nat) : (s.acqBefore k D).armed = (s.acq k).armed := by
  have hcatch := State.acqCatchUp_armed hstate D
  rw [State.acqBefore, Acq.writeGap_armed (by rwa [Acq.armed_state hcatch]), hcatch]

theorem State.acqAccept_single (hstate : (s.acq k).state ≠ 4) (hsingle : (s.acq k).single = true) (T : Int) (ty : Nat) (interp : Bool)
    (id D : Nat) : s.acqAccept k T ty interp id D
    = (((s.acqCatchUp k D).modAcq k (fun _ => (s.acqBefore k D).accepted T ty interp id)).cause Ty.acq k
        (1 + 4 * b2n ((s.acqCatchUp k D).acq k).writeGap.2)).acqNotify k D := by
  have hcatch : ((s.acqCatchUp k D).acq k).single = true := (Acq.armed_single (State.acqCatchUp_armed hstate D)).trans hsingle
  have hbefore : (s.acqBefore k D).single = true := (Acq.armed_single (State.acqBefore_armed hstate D)).trans hsingle
  unfold State.acqBefore at hbefore
  unfold State.acqAccept
  simp only [hcatch, hbefore, true_or, if_true]
  rfl

/-- What an accepted trigger of a windowed capture leaves. -/
theorem State.acqAccept_spec (hstate : (s.acq k).state ≠ 4) (hsingle : (s.acq k).single = true) (T : Int) (ty : Nat) (interp : Bool)
    (id D : Nat) : (s.acqAccept k T ty interp id D).acq k = (s.acqBefore k D).accepted T ty interp id
      ∧ ((s.acqAccept k T ty interp id D).hdr Ty.acq k).irqStatus.testBit 0 = true
      ∧ Only (([.acqs, .sync, .madcs] : List Part) ++ causeParts) s (s.acqAccept k T ty interp id D) := by
  rw [State.acqAccept_single hstate hsingle]
  generalize hu : (((s.acqCatchUp k D).modAcq k (fun _ => (s.acqBefore k D).accepted T ty interp id)).cause Ty.acq k _) = u
  obtain ⟨htouch, hhdr⟩ := u.acqNotify_touches k D
  have honly : Only (.acqs :: causeParts) s u := hu ▸ ((s.acqCatchUp_only k D).trans ((State.modAcq_only _ k _).mono (by decide))).trans
    ((State.cause_only _ _ _ _).mono (by decide))
  refine ⟨?_, ?_, honly.comp htouch⟩
  · rw [htouch.acq (by decide), ← hu, State.cause_acq, State.modAcq_acq, if_pos rfl]
  · rw [hhdr Ty.acq k (by simp [pageKey]), ← hu]
    refine State.cause_irqStatus ?_ _ _ _
    cases ((s.acqCatchUp k D).acq k).writeGap.2 <;> rfl

/-- The mark of an accepted trigger is the newest record. -/
theorem Acq.accepted_mark {a : Acq} (hsingle : a.single = true) (T : Int) (ty : Nat) (interp : Bool) (id : Nat) :
    (a.accepted T ty interp id).buf.getLast? = some (a.markRec T ty interp id) := by
  have hput : a.putMark (a.markRec T ty interp id) = { a with buf := a.buf ++ [a.markRec T ty interp id] } :=
    if_neg (by simp [hsingle])
  rw [Acq.accepted, hput]
  exact List.getLast?_concat

theorem Acq.accepted_kept {a : Acq} (hsingle : a.single = true) (T : Int) (ty : Nat) (interp : Bool) (id : Nat) :
    (a.accepted T ty interp id).ignored = a.ignored ∧ (a.accepted T ty interp id).declared = a.declared := by
  have hput : a.putMark (a.markRec T ty interp id) = { a with buf := a.buf ++ [a.markRec T ty interp id] } :=
    if_neg (by simp [hsingle])
  rw [Acq.accepted, hput]
  exact ⟨rfl, rfl⟩

/-- A trigger of the present TT lies at it on the unit's own scale. -/
theorem Acq.lift_now (a : Acq) {now : Nat} (hnow : now < 2 ^ 64) : (a.lift now % (2 ^ 64 : Nat)).toNat = now := by
  unfold Acq.lift ttDiff sx
  split <;> omega

/-! ### Commands of ACQ_ARM and ACQ_CTRL (13 R270 to R273) -/

section
variable {fn : Nat}

theorem exec_acqArm (h : s.accepts fn Ty.acq k 0x07C = true) : exec (.acqArm fn k) s = .next (s.acqArm fn k) :=
  onUnit_onWrite h _

theorem exec_acqDisarm (h : s.accepts fn Ty.acq k 0x07C = true) : exec (.acqDisarm fn k) s = .next (s.acqDisarm k) :=
  onUnit_onWrite h _

theorem exec_acqForce (h : s.accepts fn Ty.acq k 0x07C = true) : exec (.acqForce fn k) s = .next (s.acqForce fn k) :=
  onUnit_onWrite h _

/-- The fields of ACQ_CTRL, bit by bit. -/
theorem acqCtrl_fields (single run edge sample : Bool) :
    let val := b2n single + 2 * b2n run + 4 * b2n edge + 8 * b2n sample
    bit val 0 = single ∧ bit val 1 = run ∧ bit val 2 = edge ∧ bit val 3 = sample := by
  revert single run edge sample
  decide

end

/-! ### A stream takes, keeps and hands on its records (13 R264, R274, R276) -/

section
variable {r : AcqRec}

theorem AcqRec.bytes_length (r : AcqRec) : r.bytes.length = 16 := by simp [AcqRec.bytes, le]

/-- A record taken by a stream with room stands behind the others. -/
theorem State.acqWrite_stream (htakes : (s.acq k).takes r.tt = true) (hsealed : s.sealedEmpty (s.hdr Ty.acq k).owner = false)
    (hsingle : (s.acq k).single = false) (hroom : (s.acq k).buf.length < 32766) (hgap : (s.acq k).gap = none) (hstate : (s.acq k).state = 1) :
    s.acqWrite k r = s.modAcq k (fun a => { a with buf := a.buf ++ [{ r with armSeq := a.armSeq }] }) := by
  have hkeep : (s.acq k).writeGap = (s.acq k, false) := by rw [Acq.writeGap, hgap]
  unfold State.acqWrite
  dsimp only
  rw [if_neg (not_not.mpr htakes), if_neg (by simp [hsealed]), if_neg (by omega), hkeep]
  dsimp only
  rw [if_neg (by omega), Acq.append_stream hsingle, Acq.countPost_other (by dsimp only; omega)]
  exact State.modAcq_congr rfl

/-- A record of a sealed site with no container is lost and counted. -/
theorem State.acqWrite_lost (htakes : (s.acq k).takes r.tt = true) (hsealed : s.sealedEmpty (s.hdr Ty.acq k).owner = true) :
    s.acqWrite k r = s.modAcq k (fun a => { a with gapCount := satAdd sat32 a.gapCount 1 }) := by
  unfold State.acqWrite
  dsimp only
  rw [if_neg (not_not.mpr htakes), if_pos hsealed]

theorem State.acqLoneGap_none (hgap : (s.acq k).gap = none) : s.acqLoneGap k = s := if_neg (by simp [hgap])

theorem State.acqLoneGap_writes {g : Gap} (hstate : 1 ≤ (s.acq k).state) (hgap : (s.acq k).gap = some g)
    (hroom : (s.acq k).buf.length < 32766) : s.acqLoneGap k = (s.modAcq k (fun a => a.writeGap.1)).cause Ty.acq k 4 :=
  if_pos ⟨by omega, by simp [hgap], .inr hroom⟩

/-- The gap of a stream, once written: its record stands behind the others. -/
theorem Acq.writeGap_stream {a : Acq} {g : Gap} (hsingle : a.single = false) (hgap : a.gap = some g) : a.writeGap.1.gap = none
    ∧ a.writeGap.1.buf = a.buf ++ [{ tt := g.tt, data := g.n, info := 0, kind := 3, armSeq := a.armSeq }]
    ∧ a.writeGap.1.queue = a.queue := by
  rw [Acq.writeGap, hgap]
  dsimp only
  rw [Acq.append_stream (by exact hsingle), Acq.countPost]
  split <;> exact ⟨rfl, rfl, rfl⟩

/-- The oldest record of a stream goes to its queue where that takes it. -/
theorem State.acqMove_stream {s0 : State} {rest : List AcqRec} (hsingle : (s.acq k).single = false) (hstate : 1 ≤ (s.acq k).state)
    (hlone : s.acqLoneGap k = s0) (hplain : s0.isSealed (s.hdr Ty.acq k).owner = false) (hbuf : (s0.acq k).buf = r :: rest) :
    s.acqMove k = if s0.acqHeld (s0.acq k).queue then s0 else
      if (s0.stream (s0.acq k).queue r.bytes).2 then (s0.stream (s0.acq k).queue r.bytes).1.modAcq k (fun a => { a with buf := rest })
      else s0 := by
  unfold State.acqMove
  dsimp only
  rw [hlone, if_neg (by simp [hsingle, hstate]), hbuf]
  dsimp only
  rw [if_neg (by simp [hplain]), State.deliver_plain hplain]

/-- With its queue full a stream keeps its records. -/
theorem State.acqMove_full {s0 : State} (hsingle : (s.acq k).single = false) (hstate : 1 ≤ (s.acq k).state)
    (hlone : s.acqLoneGap k = s0) (hplain : s0.isSealed (s.hdr Ty.acq k).owner = false) (hfull : (s0.queue (s0.acq k).queue).room = 0) :
    s.acqMove k = s0 := by
  cases hbuf : (s0.acq k).buf with
  | nil =>
    unfold State.acqMove
    dsimp only
    rw [hlone, if_neg (by simp [hsingle, hstate]), hbuf]
  | cons r rest =>
    rw [State.acqMove_stream hsingle hstate hlone hplain hbuf, State.stream_full r.bytes_length hfull]
    split <;> rfl

end

/-- With no trigger known to have come nothing is declared. -/
theorem State.acqDeclareBy_quiet {by_ : Nat} (hquiet : ∀ p, (s.acq k).nextDecl by_ = some p → ttReached by_ p.2 = false) :
    s.acqDeclareBy k by_ = s := by
  unfold State.acqDeclareBy
  dsimp only
  cases hnext : (s.acq k).nextDecl by_ with
  | none => rfl
  | some p => exact if_pos (by simp [hquiet p hnext])

/-- An edge trigger the history holds is declared once its instant has come. -/
theorem State.acqDeclare_edge {T d : Int} {i : Bool} (hstate : 2 ≤ (s.acq k).state) (hty : (s.acq k).ty = 0)
    (hcand : (s.acq k).cands[(s.acq k).declared]? = some (T, i, some d)) (hreached : ttReached s.now d = true) : s.acqDeclare k
    = (s.modAcq k (fun a => { a with declared := a.declared + 1 })).acqTrigger k T 0 i 0 (d % (2 ^ 64 : Nat)).toNat := by
  have hnext : (s.acq k).nextDecl s.now = some ((T, i, some d), d) := by
    unfold Acq.nextDecl
    rw [if_neg (by omega), if_neg (by omega), hcand]
    rfl
  unfold State.acqDeclare State.acqDeclareBy
  dsimp only
  rw [hnext]
  dsimp only
  rw [if_neg (not_not.mpr hreached), hty]
  refine congrArg (fun u : State => u.acqTrigger k T 0 i 0 _) (State.modAcq_congr ?_)
  rw [hty]
  rfl

/-- A trigger of an ARMED unit outside [a, L) is accepted; FORCE always is. -/
theorem State.acqTrigger_accepts {T : Int} {ty : Nat} (hstate : (s.acq k).state = 3)
    (hoff : ty = 7 ∨ T < (s.acq k).armT ∨ ((s.acq k).armT + 128 * fsNs : Int) ≤ T) (interp : Bool) (id D : Nat) :
    s.acqTrigger k T ty interp id D = s.acqAccept k T ty interp id D := by
  refine if_pos ⟨?_, ?_⟩
  · simp [Acq.liveAt, hstate]
  · rcases hoff with h | h | h
    · exact .inl ⟨hstate, .inl h⟩
    · exact .inl ⟨hstate, .inr h⟩
    · exact .inr h

/-- A trigger in [a, L), or behind an accepted one, is ignored and counted. -/
theorem State.acqTrigger_ignores {T : Int} (hlate : 4 ≤ (s.acq k).state ∨ ((s.acq k).armT ≤ T ∧ T < (s.acq k).armT + 128 * fsNs))
    (interp : Bool) (id D : Nat) :
    s.acqTrigger k T 0 interp id D = s.modAcq k (fun a => { a with ignored := satAdd sat32 a.ignored 1 }) := by
  refine if_neg ?_
  rintro ⟨hlive, haccept⟩
  rcases hlate with h | ⟨h, h'⟩
  · simp [Acq.liveAt] at hlive
    omega
  · rcases haccept with ⟨-, haccept | haccept⟩ | haccept <;> omega

/-- A write of RUN alone is a start of the stream. -/
theorem exec_acqRunStart {fn : Nat} (h : s.accepts fn Ty.acq k 0x040 = true) (hrun : (s.acq k).run = false) (hstate : (s.acq k).state = 0)
    (hsingle : (s.acq k).single = false) (hmode : s.inMode [.ready, .run] = true) (hen : (s.hdr Ty.acq k).en = true)
    (hq : (s.acq k).qValid = true) : exec (.acqRunStart fn k) s = .next (s.modAcq k (fun a => { a with
      run := true, state := 1, runT := s.now, stopT := none })) := by
  obtain ⟨h0, h1, h2, h3⟩ := acqCtrl_fields (s.acq k).single true (s.acq k).edgeEn (s.acq k).sampleEn
  refine (onUnit_onWrite h _).trans (congrArg Host.Outcome.next ?_)
  change s.wAcqCtrl fn k (b2n (s.acq k).single + 2 * b2n true + 4 * b2n (s.acq k).edgeEn + 8 * b2n (s.acq k).sampleEn) = _
  unfold State.wAcqCtrl
  dsimp only
  rw [h0, h1, h2, h3, if_neg (by simp [hrun]), State.checked_pass _ (by simp [hsingle, hstate, hrun, hmode, hen, hq])]
  refine State.modAcq_congr ?_
  rw [hrun]
  rfl

theorem exec_acqRunStop {fn : Nat} (h : s.accepts fn Ty.acq k 0x040 = true) (hrun : (s.acq k).run = true) (hsingle : (s.acq k).single = false) :
    exec (.acqRunStop fn k) s = .next ((s.acqDisarm k).modAcq k (fun a => { a with run := false, stopT := some s.now })) := by
  obtain ⟨h0, h1, h2, h3⟩ := acqCtrl_fields (s.acq k).single false (s.acq k).edgeEn (s.acq k).sampleEn
  refine (onUnit_onWrite h _).trans (congrArg Host.Outcome.next ?_)
  change s.wAcqCtrl fn k (b2n (s.acq k).single + 2 * b2n false + 4 * b2n (s.acq k).edgeEn + 8 * b2n (s.acq k).sampleEn) = _
  unfold State.wAcqCtrl
  dsimp only
  rw [h0, h1, h2, h3, if_pos (by simp [hrun])]
  exact if_neg (by simp [hrun, hsingle])

theorem State.acqDisarm_stream (hsingle : (s.acq k).single = false) :
    s.acqDisarm k = s.modAcq k (fun a => if 2 ≤ a.state then { a with state := 1 } else a) :=
  if_pos (by simp [hsingle])

end

/-- Settles O29, command by command. -/
theorem acquisitionArmsTriggersAndDrains : Obligations.AcquisitionArmsTriggersAndDrains := by
  refine ⟨fun s fn k h => ⟨fun hcheck => ?_, fun hcheck => ?_, fun hsingle hstate => ?_, fun hsingle hstate => ?_,
    fun hstate hsingle hnow hquiet => ?_, fun hstate => ?_⟩, fun s k hk hstate hlive => ?_,
    fun s k T i d hk hstate hty hcand hreached hignored => ?_, fun s k T i d hk hstate hty hsingle hcand hreached hoff => ?_,
    fun s fn k h => ⟨fun hrun hstate hsingle hmode hen hq => ?_, fun hrun hsingle => ?_⟩,
    fun s k due r rest hk hfly hcycle hsingle hstate hrunT hstop hroom hgap hkind => ?_,
    fun s k r rest hk hsingle hstate hbuf hplain hgap => ⟨fun hroom hfree => ?_, fun hfull => ?_⟩,
    fun s k g hk hsingle hstate hgap hroom hfull hplain => ?_, fun s k hk hsingle hstate hbuf hgap => ?_,
    fun s k T hk hsingle hstop hbuf hgap hfly hahead => ?_⟩
  · refine ⟨_, (exec_acqArm h).trans (congrArg Host.Outcome.next (if_neg (not_not.mpr hcheck))), ?_, ?_, ?_, ?_, fun j hj => ?_,
      s.modAcq_only k _⟩
    · rw [State.modAcq_acq, if_pos rfl]
    · rw [State.modAcq_acq, if_pos rfl]
    · rw [State.modAcq_acq, if_pos rfl]
    · rw [State.modAcq_acq, if_pos rfl]
    · rw [State.modAcq_acq, if_neg hj]
  · rw [exec_acqArm h, State.acqArm, if_pos hcheck]
  · have hdisarm : s.acqDisarm k = s.modAcq k (fun a => a.abandon 2) := by
      unfold State.acqDisarm
      dsimp only
      rw [if_neg (by simp [hsingle])]
      rcases hstate with hstate | hstate
      · rw [hstate]
        rfl
      · rw [hstate]
        rfl
    rw [exec_acqDisarm h, hdisarm]
    refine ⟨_, rfl, ?_, ?_, ?_, s.modAcq_only k _⟩
    all_goals rw [State.modAcq_acq, if_pos rfl, Acq.abandon]
  · rw [exec_acqDisarm h, State.acqDisarm, if_pos (by simp [hsingle])]
    exact congrArg Host.Outcome.next (State.modAcq_congr (if_pos hstate))
  · have hforce : s.acqForce fn k = s.acqAccept k ((s.acq k).lift s.now) 7 false 0 s.now := by
      unfold State.acqForce
      dsimp only
      rw [State.acqDeclareBy_quiet hquiet, if_neg (by omega), if_neg (by omega), State.acqTrigger_accepts hstate (.inl rfl)]
    obtain ⟨hacq, hcause, honly⟩ := State.acqAccept_spec (by omega) hsingle ((s.acq k).lift s.now) 7 false 0 s.now
    have hbefore := State.acqBefore_armed (s := s) (k := k) (by omega) s.now
    rw [exec_acqForce h, hforce]
    refine ⟨_, rfl, ?_, ?_, ⟨(s.acqBefore k s.now).markRec ((s.acq k).lift s.now) 7 false 0, ?_, ?_, ?_, ?_⟩, hcause, honly⟩
    · rw [hacq]
      rfl
    · rw [hacq]
      exact (congrArg (fun x => x.2.2.1) hbefore :)
    · rw [hacq, Acq.accepted_mark ((Acq.armed_single hbefore).trans hsingle)]
    · rfl
    · exact (s.acq k).lift_now hnow
    · simp [Acq.markRec]
      omega
  · rw [exec_acqForce h, State.acqForce, if_pos hstate]
  · exact (onUnit_of (decide (k < nClu)) _ (decide_eq_true hk)).trans (congrArg Host.Outcome.next (if_pos ⟨hstate, hlive⟩))
  · have hkept : (s.modAcq k (fun a => { a with declared := a.declared + 1 })).acq k = { s.acq k with declared := (s.acq k).declared + 1 } := by
      rw [State.modAcq_acq, if_pos rfl]
    refine (onUnit_of (decide (k < nClu)) _ (decide_eq_true hk)).trans (congrArg Host.Outcome.next ?_)
    rw [State.acqDeclare_edge hstate hty hcand hreached, State.acqTrigger_ignores (by rw [hkept]; exact hignored), State.modAcq_modAcq]
    rfl
  · have hkept : (s.modAcq k (fun a => { a with declared := a.declared + 1 })).acq k = { s.acq k with declared := (s.acq k).declared + 1 } := by
      rw [State.modAcq_acq, if_pos rfl]
    have hdeclare : s.acqDeclare k = (s.modAcq k (fun a => { a with declared := a.declared + 1 })).acqAccept k T 0 i 0 (d % (2 ^ 64 : Nat)).toNat := by
      rw [State.acqDeclare_edge (by omega) hty hcand hreached,
        State.acqTrigger_accepts (by rw [hkept]; exact hstate) (.inr (by rw [hkept]; exact hoff))]
    obtain ⟨hacq, -, honly⟩ := State.acqAccept_spec (s := s.modAcq k (fun a => { a with declared := a.declared + 1 })) (k := k)
      (by rw [hkept]; exact (show (s.acq k).state ≠ 4 by omega)) (by rw [hkept]; exact hsingle) T 0 i 0 (d % (2 ^ 64 : Nat)).toNat
    have hbefore := State.acqBefore_armed (s := s.modAcq k (fun a => { a with declared := a.declared + 1 })) (k := k)
      (by rw [hkept]; exact (show (s.acq k).state ≠ 4 by omega)) (d % (2 ^ 64 : Nat)).toNat
    rw [hkept] at hbefore
    obtain ⟨hign, hdecl⟩ := Acq.accepted_kept ((Acq.armed_single hbefore).trans hsingle) T 0 i 0
    refine ⟨_, (onUnit_of (decide (k < nClu)) _ (decide_eq_true hk)).trans (congrArg Host.Outcome.next hdeclare), ?_, ?_, ?_,
      ((s.modAcq_only k _).mono (by decide)).trans honly⟩
    · rw [hacq]
      rfl
    · rw [hacq, hign]
      exact (congrArg (fun x => x.2.2.2.1) hbefore :)
    · rw [hacq, hdecl]
      exact (congrArg (fun x => x.2.2.2.2.1) hbefore :)
  · exact exec_acqRunStart h hrun hstate hsingle hmode hen hq
  · rw [exec_acqRunStop h hrun hsingle, State.acqDisarm_stream hsingle]
    refine ⟨_, rfl, ?_, ?_, fun hstate => ?_, (s.modAcq_only k _).trans (State.modAcq_only _ k _)⟩
    · rw [State.modAcq_acq, if_pos rfl]
    · rw [State.modAcq_acq, if_pos rfl]
    · rw [State.modAcq_acq, if_pos rfl, State.modAcq_acq, if_pos rfl, if_pos hstate]
  · have hland : s.acqArrive k = (s.modAcq k (fun a => { a with fly := rest })).acqWrite k r := by
      have hwait : ((s.acq k).nextDecl s.now) = none := if_pos (by omega)
      unfold State.acqArrive State.acqLand
      rw [hfly]
      dsimp only
      rw [hwait, if_neg (by simp [hcycle]), if_neg (by omega)]
    have hkept : (s.modAcq k (fun a => { a with fly := rest })).acq k = { s.acq k with fly := rest } := by
      rw [State.modAcq_acq, if_pos rfl]
    refine ⟨_, (onUnit_of (decide (k < nClu)) _ (decide_eq_true hk)).trans (congrArg Host.Outcome.next hland), ?_⟩
    have htakes : ({ s.acq k with fly := rest } : Acq).takes r.tt = true := by simp [Acq.takes, hsingle, hstate, hrunT, hstop]
    cases hsealed : s.sealedEmpty (s.hdr Ty.acq k).owner
    · rw [State.acqWrite_stream (by rwa [hkept]) (by exact hsealed) (by rw [hkept]; exact hsingle) (by rw [hkept]; exact hroom)
        (by rw [hkept]; exact hgap) (by rw [hkept]; exact (show (s.acq k).state = 1 by exact hstate)), State.modAcq_modAcq]
      refine ⟨?_, s.modAcq_only k _, fun _ => ?_, fun h => absurd h (by simp)⟩
      · rw [State.modAcq_acq, if_pos rfl]
      · rw [State.modAcq_acq, if_pos rfl]
    · rw [State.acqWrite_lost (by rwa [hkept]) (by exact hsealed), State.modAcq_modAcq]
      refine ⟨?_, s.modAcq_only k _, fun h => absurd h (by simp), fun _ => ⟨?_, ?_⟩⟩
      all_goals rw [State.modAcq_acq, if_pos rfl]
      rfl
  · have hmove := State.acqMove_stream hsingle hstate (State.acqLoneGap_none hgap) hplain hbuf
    obtain ⟨htaken, hrecs, -⟩ := State.stream_slot (s := s) r.bytes_length hroom
    rw [if_neg (by simp [hfree]), if_pos htaken] at hmove
    refine ⟨_, (onUnit_of (decide (k < nClu)) _ (decide_eq_true hk)).trans (congrArg Host.Outcome.next hmove), ?_, hrecs,
      ((s.stream_only _ _).mono (by decide)).trans ((State.modAcq_only _ k _).mono (by decide))⟩
    rw [State.modAcq_acq, if_pos rfl]
  · exact (onUnit_of (decide (k < nClu)) _ (decide_eq_true hk)).trans (congrArg Host.Outcome.next
      (State.acqMove_full hsingle hstate (State.acqLoneGap_none hgap) hplain hfull))
  · have hlone := State.acqLoneGap_writes hstate hgap hroom
    have honly : Only (.acqs :: causeParts) s (s.acqLoneGap k) := hlone ▸ (s.modAcq_only k _).comp (State.cause_only _ _ _ _)
    have hset : (s.acqLoneGap k).acq k = (s.acq k).writeGap.1 := by rw [hlone, State.cause_acq, State.modAcq_acq, if_pos rfl]
    obtain ⟨hgap', hbuf', hqueue⟩ := Acq.writeGap_stream hsingle hgap
    have hmove : s.acqMove k = s.acqLoneGap k :=
      State.acqMove_full hsingle hstate rfl ((honly.isSealed (by decide) _).trans hplain)
        (by rwa [hset, hqueue, honly.queue (by decide)])
    refine ⟨_, (onUnit_of (decide (k < nClu)) _ (decide_eq_true hk)).trans (congrArg Host.Outcome.next hmove), ?_, ?_, honly⟩
    · rw [hset, hgap']
    · rw [hset, hbuf']
  · refine ⟨_, (onUnit_of (decide (k < nClu)) _ (decide_eq_true hk)).trans
      (congrArg Host.Outcome.next (if_pos ⟨hsingle, hstate, hbuf, hgap⟩)), ?_, ?_, ?_, (s.modAcq_only k _).comp (State.cause_only _ _ _ _)⟩
    · rw [State.cause_acq, State.modAcq_acq, if_pos rfl]
      rfl
    · rw [State.cause_acq, State.modAcq_acq, if_pos rfl]
      rfl
    · rw [State.cause_hdr]
      rfl
  · refine ⟨(s.modAcq k (fun a => { a.abandon a.lastEnd with run := false })).cause Ty.acq k 8, ?_, ?_, ?_, ?_, ?_,
      (s.modAcq_only k _).comp (State.cause_only _ _ _ _)⟩
    · refine (onUnit_of (decide (k < nClu)) _ (decide_eq_true hk)).trans (congrArg Host.Outcome.next ?_)
      dsimp only
      rw [hstop]
      exact if_pos (by simp [hsingle, hbuf, hgap, hfly, hahead])
    · rw [State.cause_acq, State.modAcq_acq, if_pos rfl]
      rfl
    · rw [State.cause_acq, State.modAcq_acq, if_pos rfl]
    · rw [State.cause_acq, State.modAcq_acq, if_pos rfl]
      rfl
    · rw [State.cause_hdr]
      rfl

end Sys2Proof.Machine
end

section
/-! The statement of the family 17_security.md on SPDM. -/

namespace Sys2Proof.Machine

-- In one thread: the whole text is compiled near its memory limit.
set_option Elab.async false

/-- The 2^20th request reseeds the DRBG first, from the next value of the entropy source (17 R358). -/
theorem State.draw_free_reseed {s : State} (hcount : 2 ^ 20 ≤ s.sec.drbg.count) (n : Nat) : (s.draw n).1.free = s.free + 1 := by
  rw [State.draw, decide_eq_true hcount]
  rfl

/-- A signature draws its per-message secret. -/
theorem State.spdmSigned_free (s : State) (path code : Nat) (req body : List Byte) :
    (s.spdmSigned path code req body).free = (s.draw 48).1.free := rfl

/-- A module that answers over MCTP, with 2^20 requests to its DRBG since the last seed. -/
def reseedDue : State := { stage := .on, glb := { fwOk := true }, sec := { identityOk := true, drbg := { count := 2 ^ 20 } } }

/-- MEASUREMENTS that ask for the number of blocks, over MCTP. -/
theorem exec_reseedDue : exec (.spdmGetMeasurements 18 []) reseedDue
    = .next (reseedDue.spdmSigned 18 0x60 [] (reseedDue.measBody 18 [])) := by
  have hup : reseedDue.spdmUp 18 false = true := by decide
  refine (onUnit_of (decide (18 < 19)) _ (by decide)).trans (congrArg Host.Outcome.next ?_)
  rw [if_pos hup]
  dsimp only
  rw [if_neg (by decide), if_neg (by decide)]

/-- Refutes O54: the signature of MEASUREMENTS draws from the DRBG, which after 2^20 requests reseeds itself (17 R358) and so
takes a free value, which the clause on MEASUREMENTS leaves as it was. -/
theorem not_spdmAnswersOnItsPath : ¬ Obligations.SpdmAnswersOnItsPath := by
  intro h
  obtain ⟨-, -, hup⟩ := h
  obtain ⟨-, -, -, hidentity, -⟩ := hup reseedDue 18 [] (by decide) (by decide)
  obtain ⟨-, -, -, hmeasurements, -⟩ := hidentity (by decide)
  obtain ⟨t, hexec, -, honly⟩ := hmeasurements 0 _ (by decide) (fun _ => rfl) (by decide) (by decide)
  have ht : reseedDue.spdmSigned 18 0x60 [] (reseedDue.measBody 18 []) = t := Host.Outcome.next.inj (exec_reseedDue.symm.trans hexec)
  have hkept : t.free = reseedDue.free := honly .free (by decide)
  rw [← ht, State.spdmSigned_free, State.draw_free_reseed (by decide)] at hkept
  exact absurd hkept (Nat.succ_ne_self _)

end Sys2Proof.Machine
end

section
/-! Proof of the statement on the front of the queue of commands. -/

namespace Sys2Proof.Machine

-- In one thread: the whole text is compiled near its memory limit.
set_option Elab.async false

/-- Settles O1: the step of a queue that is not empty is by definition the meaning of its first command. -/
theorem stepRunsTheFrontCommand : Obligations.StepRunsTheFrontCommand :=
  fun _ _ _ => rfl

end Sys2Proof.Machine
end

section
/-! The statement of the family 18_errors_and_health.md on retirement. -/

namespace Sys2Proof.Machine

-- In one thread: the whole text is compiled near its memory limit.
set_option Elab.async false

/-- A module in READY whose channel 0 runs free, the last of its region, 1 ms after its last read-back; the CAL term of channel 1 is stale. -/
def lastFreeRunRetired : State :=
  { stage := .on, uptime := 16000000, glb := { mode := .ready, busy := false }, chans := [(0, { frRun := true }), (1, { calStale := true })] }

/-- The free run ends with the channel, which is a boundary of every channel of the region. -/
theorem lastFreeRunRetired_bounds : ((lastFreeRunRetired.readback 0 true true).chan 1).calStale = false := by decide +kernel

/-- Refutes O30: the retirement of the last free-running channel of a region in READY ends its run, a boundary of every channel of the
region (09 R194); the clause on a permanent fault leaves every other channel as it was. -/
theorem not_unitsRetireAndRegionsProtect : ¬ Obligations.UnitsRetireAndRegionsProtect := by
  intro h
  obtain ⟨⟨hreadback, -⟩, -⟩ := h
  obtain ⟨-, t, hexec, -, -, -, -, -, hother, -⟩ := hreadback lastFreeRunRetired 0 (by decide) rfl rfl (by decide) (by decide)
  have hstep : exec (.analogReadback 0 true true) lastFreeRunRetired = .next (lastFreeRunRetired.readback 0 true true) :=
    onUnit_of (decide (0 < nChan)) (lastFreeRunRetired.readback 0 true true) (by decide)
  have ht : lastFreeRunRetired.readback 0 true true = t := Host.Outcome.next.inj (hstep.symm.trans hexec)
  have hstale : (t.chan 1).calStale = true := congrArg Chan.calStale (hother 1 (by decide))
  rw [← ht, lastFreeRunRetired_bounds] at hstale
  exact Bool.false_ne_true hstale

end Sys2Proof.Machine
end

section
/-! The statement of the family 17_security.md on the security engine. -/

namespace Sys2Proof.Machine

-- In one thread: the whole text is compiled near its memory limit.
set_option Elab.async false

/-! ### What the end of containers and keys touches (17 R358, R373, R378) -/

section
variable (s : State)

theorem State.draw_only (n : Nat) : Only [.sec, .free] s (s.draw n).1 := by
  have hreseed : ∀ t : State, Only [.sec, .free] t t.drbgReseed := fun t p hp => by
    cases p <;> simp [Part.same, State.drbgReseed, State.useFree] at hp ⊢
  exact (Only.when hreseed (decide (2 ^ 20 ≤ s.sec.drbg.count)) s).trans
    ((State.modSec_only _ (fun x => { x with drbg := _ })).mono (l := [.sec]) (m := [.sec, .free]) (by decide))

theorem State.rekey_only (h : Nat) : Only [.sec, .free, .mem] s (s.rekey h) := by
  have hkey : Only [.sec, .free, .mem] s (s.newKey h) :=
    ((s.draw_only 64).mono (by decide)).trans (((State.modSec_only _ _).mono (by decide)).trans ((State.useFree_only _).mono (by decide)))
  unfold State.rekey
  exact (hkey.trans (Only.forEach (fun g t => (t.wipe_only _ _).mono (by decide)) _ _)).trans ((State.modSec_only _ _).mono (by decide))

theorem State.dropContainer_only (st : Nat) : Only [.sec, .chans] s (s.dropContainer st) := by
  have hregs : Only [.sec, .chans] s (s.unsealRegs st) :=
    (Only.forEach (fun a t => (t.modChan_only _ _).mono (by decide)) _ s).trans ((State.modSecSite_only _ _ _).mono (by decide))
  exact hregs.trans ((State.modSecSite_only _ _ _).mono (by decide))

theorem State.zeroRings_only (st : Nat) : Only [.fcus, .acqs, .madcs] s (s.zeroRings st) :=
  ((Only.forEach (fun r t => (t.modPart_only _ _ _).mono (by decide)) _ s).trans
    (Only.forEach (fun k t => (t.modAcq_only k _).mono (by decide)) _ _)).trans
    (Only.forEach (fun k t => (t.modMadc_only k _).mono (by decide)) _ _)

theorem State.secWipe_only : Only [.sec, .chans, .mem, .free, .fcus, .acqs, .madcs] s s.secWipe := by
  have hsites : Only [.sec, .chans, .fcus, .acqs, .madcs] s (forEach allSites (fun i t => (when (t.isSealed i) (fun u => u.zeroRings i) t).dropContainer i)
      (s.modSec (fun x => { x with sessions := [], finished := [], loadWait := [] }))) :=
    ((s.modSec_only _).mono (by decide)).trans (Only.forEach (fun i t =>
      ((Only.when (fun u => u.zeroRings_only i) _ t).mono (by decide)).trans ((State.dropContainer_only _ i).mono (by decide))) _ _)
  exact (hsites.mono (by decide)).trans ((Only.forEach (fun h t => (t.rekey_only h).mono (by decide)) _ _).trans ((State.wipe_only _ _ _).mono (by decide)))

end

/-! ### Frames that are closed or cannot be moved (17 R372, R373) -/

theorem foldl_stays {α : Type} {f : State → α → State} {s : State} : ∀ {l : List α}, (∀ a ∈ l, f s a = s) → l.foldl f s = s
  | [], _ => rfl
  | a :: l, h => by
    rw [List.foldl_cons, h a List.mem_cons_self]
    exact foldl_stays (fun b hb => h b (List.mem_cons_of_mem a hb))

theorem forEach_append (l m : List Nat) (f : Nat → State → State) (s : State) : forEach (l ++ m) f s = forEach m f (forEach l f s) :=
  List.foldl_append

theorem forEach_stays {f : Nat → State → State} {s : State} {l : List Nat} (h : ∀ i ∈ l, f i s = s) : forEach l f s = s :=
  foldl_stays h

section
variable {s : State} {st kind inst : Nat}

theorem State.closeFrame_closed (hclosed : (s.frm st kind inst).pt = []) (q : Nat) : (s.closeFrame st kind inst q).1 = s := by
  rw [State.closeFrame]
  exact congrArg Prod.fst (if_pos hclosed)

theorem State.closeFrame_full {q : Nat} (hfull : (s.queue q).room = 0) : (s.closeFrame st kind inst q).1 = s := by
  have hstream : s.stream q (frameBytes (s.secSite st) st kind inst (s.frm st kind inst)) = (s, false) :=
    if_neg (by rw [hfull]; simp only [frameBytes, List.length_append, List.length_cons]; omega)
  unfold State.closeFrame
  dsimp only
  rw [hstream]
  split <;> rfl

theorem State.loseFrame_closed (hclosed : (s.frm st kind inst).pt = []) : s.loseFrame st kind inst = s := if_pos hclosed

/-- The frame of an MADC that is lost raises cause RECORDS_LOST of its page. -/
theorem State.loseFrame_madc_hdr (hopen : (s.frm st 2 inst).pt ≠ []) :
    ((s.loseFrame st 2 inst).hdr Ty.madc inst).irqStatus = (s.hdr Ty.madc inst).irqStatus ||| 8 := by
  have hlose : s.loseFrame st 2 inst = (s.modFrm st 2 inst (fun f => { f with pt := [], n := 0 })).madcGap inst
      (fromLe ((s.frm st 2 inst).pt.take 8)) (fromLe (((s.frm st 2 inst).pt.drop 14).take 2)) ((s.frm st 2 inst).pt.length / 16) := if_neg hopen
  rw [hlose, State.madcGap, State.cause_hdr]
  rfl

end

/-- The frames of one site are moved or discarded. -/
def State.unloadSite (i : Nat) (s : State) : State := frameUnits.foldl (fun u p => u.loseFrame i p.1 p.2) (s.closeFrames i)

theorem State.unloadFrames_eq (s : State) : s.unloadFrames = forEach (List.range 15 ++ [15]) State.unloadSite s := rfl

/-! ### A lifecycle transition with an open frame -/

/-- A token from FIELD to RETURN at lifecycle counter 1, by the platform key of scalar 2, before its signature (17 R377). -/
def returnBody : List Byte :=
  [0x4B, 0x56, 0x4C, 0x54] ++ le 2 1 ++ le 1 3 ++ le 1 2 ++ le 4 1 ++ le 4 1 ++ ({} : Otp).device ++ p384Pub 2

/-- The signed token. -/
def returnToken : List Byte := returnBody ++ ecdsaSign 2 3 returnBody

/-- A module in SERVICE whose sites are idle, the token in general unit 0 of bank memory. Site 15, sealed, has an open frame of MADC 23, whose
queue is not enabled. -/
def openFrame : State :=
  { stage := .on, link0 := true, everLocked := true, qmgr := { ready := true }, otp := { platform := sha384 (p384Pub 2) }
    glb := { mode := .service, target := .service, busy := false, seq := false, fwOk := true, bmemClear := true, cause := 0 }
    mem := ((List.range 256).zip returnToken).map (fun p => (bankBase + 0x5900000 + p.1, p.2))
    sec := { sealedSites := 2 ^ 15, sites := [(15, { loaded := true, frames := [(frmKey 2 23, { pt := List.replicate 16 1, n := 1 })] })] } }

theorem openFrame_accepts : openFrame.accepts 0 Ty.sec 0 0x048 = true := by decide +kernel

theorem openFrame_service : openFrame.inMode [.service] = true ∧ openFrame.allIdle = true
    ∧ openFrame.granted 16 (bankBase + 0x59000 * 256) 256 = true ∧ openFrame.lcAllowed 3 = true := by
  decide +kernel

theorem openFrame_token : openFrame.tokenOk 3 (openFrame.bytes (bankBase + 0x59000 * 256) 256) = true := by
  decide +kernel

theorem openFrame_closed : (∀ i < 15, ∀ p ∈ frameUnits, (openFrame.latchHw.frm i p.1 p.2).pt = [])
    ∧ ∀ p ∈ frameUnits.dropLast, (openFrame.latchHw.frm 15 p.1 p.2).pt = [] := by
  decide +kernel

theorem frameUnits_eq : frameUnits = frameUnits.dropLast ++ [(2, 23)] := by decide

/-- No frame can be moved: all but one are closed, and the queue of that one takes nothing. -/
theorem openFrame_closeFrames {i : Nat} (hi : i < 16) : openFrame.latchHw.closeFrames i = openFrame.latchHw := by
  obtain ⟨hothers, hlast⟩ := openFrame_closed
  refine foldl_stays fun p hp => ?_
  by_cases h : i = 15
  · subst h
    rw [frameUnits_eq, List.mem_append, List.mem_singleton] at hp
    rcases hp with hp | rfl
    · exact State.closeFrame_closed (hlast p hp) _
    · exact State.closeFrame_full (by decide +kernel)
  · exact State.closeFrame_closed (hothers i (by omega) p hp) _

/-- The open frame is discarded, its record counted as lost. -/
theorem openFrame_unloadFrames : openFrame.latchHw.unloadFrames = openFrame.latchHw.loseFrame 15 2 23 := by
  obtain ⟨hothers, hlast⟩ := openFrame_closed
  have hfirst : forEach (List.range 15) State.unloadSite openFrame.latchHw = openFrame.latchHw := forEach_stays fun i hi => by
    have hi : i < 15 := List.mem_range.mp hi
    rw [State.unloadSite, openFrame_closeFrames (by omega)]
    exact foldl_stays fun p hp => State.loseFrame_closed (hothers i hi p hp)
  have hsecond : frameUnits.dropLast.foldl (fun u p => u.loseFrame 15 p.1 p.2) openFrame.latchHw = openFrame.latchHw :=
    foldl_stays fun p hp => State.loseFrame_closed (hlast p hp)
  rw [State.unloadFrames_eq, forEach_append, hfirst, forEach_cons, forEach_nil, State.unloadSite, openFrame_closeFrames (by decide), frameUnits_eq,
    List.foldl_append, hsecond, List.foldl_cons, List.foldl_nil]

/-- The transition that the token asks for. -/
theorem exec_openFrame : exec (.lifecycleTransition 0 3 0x59000 0) openFrame
    = .next ((openFrame.latchHw.unloadFrames.secWipe.modSec (fun x => { x with
        sealedSites := 0, lcBusy := some (3, openFrame.otp.platform) })).norWrite 7) := by
  obtain ⟨hservice, hidle, hgranted, hallowed⟩ := openFrame_service
  refine (onUnit_onWrite openFrame_accepts _).trans (congrArg Host.Outcome.next ?_)
  have hto : bits (3 % 8 + 8 * (0 % 32) + 256 * (0x59000 % 2 ^ 19) + 2 ^ 27 * (0 / 32 % 32)) 0 3 = 3 := by decide
  have hat : bits (3 % 8 + 8 * (0 % 32) + 256 * (0x59000 % 2 ^ 19) + 2 ^ 27 * (0 / 32 % 32)) 8 19 = 0x59000 := by decide
  have hbusy : openFrame.sec.lcBusy.isSome = false := rfl
  have hplain : openFrame.bankHits (bankBase + 0x59000 * 256) 256 false = openFrame := by
    rw [State.bankHits]
    exact if_pos (Or.inl (by decide))
  have hwhen : ∀ c, when c (fun t => t.bankHits (bankBase + 0x59000 * 256) 256 false) openFrame = openFrame := fun c => by
    cases c
    · rfl
    · exact hplain
  unfold State.wLifecycle
  dsimp only
  rw [hto, hat, hservice, hidle, hgranted, hallowed, openFrame_token, hbusy]
  rw [hwhen, if_neg (by decide), if_neg fun h => absurd h.1 (by decide)]

/-- Refutes O53: a lifecycle transition discards a sealed frame that its queue does not take and counts its records as lost (17 R373, R378),
which raises the cause of their unit's page; the clause on transitions leaves every page header as it was. -/
theorem not_securityEngineActs : ¬ Obligations.SecurityEngineActs := by
  intro h
  obtain ⟨-, -, -, -, -, hlifecycle, -⟩ := h
  obtain ⟨hservice, hidle, hgranted, hallowed⟩ := openFrame_service
  obtain ⟨haccepted, -⟩ := hlifecycle openFrame 0 3 0x59000 0 _ openFrame_accepts (by decide) rfl
  obtain ⟨htoken, -⟩ := haccepted hservice hidle rfl (by decide) (by decide) hgranted hallowed
  obtain ⟨t, hexec, -, -, -, -, -, -, -, honly⟩ := htoken openFrame_token
  have ht := Host.Outcome.next.inj (exec_openFrame.symm.trans hexec)
  have hkept : (t.hdr Ty.madc 23).irqStatus = 0 := congrArg Hdr.irqStatus (honly.hdr (by decide) Ty.madc 23)
  have hwipe : Only [.sec, .chans, .mem, .free, .fcus, .acqs, .madcs, .nor] (openFrame.latchHw.loseFrame 15 2 23) t := by
    rw [← ht, openFrame_unloadFrames]
    exact (((State.secWipe_only _).mono (by decide)).trans ((State.modSec_only _ _).mono (by decide))).trans ((State.norWrite_only _ _).mono (by decide))
  rw [hwipe.hdr (by decide), State.loseFrame_madc_hdr (by decide +kernel)] at hkept
  exact absurd hkept (by decide)

end Sys2Proof.Machine
end

section
/-! The statement of the family 17_security.md on the operations of the DOE mailbox. -/

namespace Sys2Proof.Machine

-- In one thread: the whole text is compiled near its memory limit.
set_option Elab.async false

/-- A segment image of one pin and no descriptor whose one setup record writes 3 to offset 0x058 of page type 0x04: SEC_SEALED_SITES, which
seals site 1 beside site 0. -/
def sealingImage : List Byte :=
  List.replicate 8 0 ++ le 4 1 ++ List.replicate 16 0 ++ le 4 0x24 ++ le 4 1 ++ (le 2 4 ++ le 2 0 ++ le 4 0x058 ++ le 4 3 ++ le 4 0)

/-- A BIND of site 0 to queue 5, its pin on channel 0. -/
def sealingBind : List Byte :=
  le 2 2 ++ List.replicate 14 0 ++ (le 8 0 ++ le 4 5 ++ [0] ++ List.replicate 191 0xFF)

/-- A module in READY whose site 0 is sealed and holds that image; the allowance of site 1 is not 0. -/
def sealingSetup : State :=
  { stage := .on, link0 := true, everLocked := true, glb := { mode := .ready, target := .ready, busy := false, seq := false, fwOk := true, cause := 0 }
    hdrs := [(pageKey Ty.tg 0, { owner := 0 })], sites := [(0, { qBase := 5, qCount := 1 })], hbmHolder := [(0, 0)]
    queues := [(5, { base := 4096, log2 := 4, owner := 0, type := 1, enable := true })]
    mem := ((List.range 52).zip sealingImage).map (fun p => (65536 + p.1, p.2))
    sec := { sealedSites := 1, sites := [(0, { loaded := true, allow := 1, dest := 65536, len := 52 }), (1, { allow := 1 })] } }

abbrev sealingDoe : Doe := { fn := 0, raw := sealingBind }

theorem sealingSetup_takes : sealingSetup.doeUp 0 0x02 = true ∧ sealingSetup.doeBusy 0 = false ∧ sealingDoe.op = 0x02
    ∧ sealingDoe.num 2 2 = 0 ∧ sealingDoe.num 9 7 = 0 ∧ sealingBind.length = 16 + 204 ∧ sealingDoe.site = 0 := by
  decide +kernel

theorem sealingSetup_binds : sealingSetup.cmdMode 0 = true
    ∧ sealingSetup.bindCheck 0 5 ((List.range 192).map (fun k => sealingDoe.num (28 + k) 1)) (sealingSetup.bytes 65536 52) = 0
    ∧ (sealingSetup.setupAll 0 ((List.range 192).map (fun k => sealingDoe.num (28 + k) 1)) (fld (sealingSetup.bytes 65536 52) 8 4) 0
      ((List.range (fld (sealingSetup.bytes 65536 52) 0x20 4)).map (setupRec (sealingSetup.bytes 65536 52)))).2 = none := by
  decide +kernel

/-- The setup record is carried out, and the container of site 1 dropped with what was left of its allowance. -/
theorem sealingSetup_drops : ((sealingSetup.bind sealingDoe).secSite 1).allow = 0 := by decide +kernel

theorem exec_sealingSetup : exec (.bind 0 sealingBind) sealingSetup = .next (sealingSetup.bind sealingDoe) := by
  obtain ⟨hup, hbusy, hop, hzero, hzero', hlen, hsite⟩ := sealingSetup_takes
  obtain ⟨hmode, -⟩ := sealingSetup_binds
  refine (onUnit_of (decide (0 < 18)) _ (by decide)).trans (congrArg Host.Outcome.next ?_)
  change sealingSetup.onDoe sealingDoe 0x02 1 204 true (fun d t => t.bind d) = _
  unfold State.onDoe
  dsimp only
  rw [if_neg (by simp [hup, hop]), if_neg (by simp [hbusy]), if_neg (by simp [hzero, hzero', hlen]), if_neg (by simp [hmode, siteOfFn]),
    if_neg (by rw [hsite]; decide)]

/-- Refutes O52: BIND writes whatever register a setup record of the image in memory names, here SEC_SEALED_SITES, which LOAD would not let pass
(17 R367, step 11) and BIND does not judge again (17 R369); so the container state of another site changes with it. -/
theorem not_mailboxOperationsAnswer : ¬ Obligations.MailboxOperationsAnswer := by
  intro h
  obtain ⟨-, -, -, -, -, -, -, -, -, hbind⟩ := h
  obtain ⟨hup, hbusy, hop, hzero, hzero', hlen, hsite⟩ := sealingSetup_takes
  obtain ⟨hmode, hcheck, hsetup⟩ := sealingSetup_binds
  have htakes : sealingSetup.doeTakes 0 sealingBind 0x02 204 :=
    ⟨by decide, hup, hbusy, hop, hzero, hzero', hlen, fun k hk => by simp [siteOfFn] at hk, lt_of_eq_of_lt hsite (by decide)⟩
  obtain ⟨-, hrun⟩ := hbind sealingSetup 0 0 5 _ sealingBind (sealingSetup.bytes 65536 52) (sealingSetup.secSite 0) _ htakes (by decide) hmode
    hsite.symm rfl rfl (by decide +kernel) rfl rfl
  obtain ⟨hdone, -⟩ := hrun hcheck _ rfl
  obtain ⟨t, hexec, -, -, -, -, -, -, -, -, hothers, -⟩ := hdone hsetup
  have ht : sealingSetup.bind sealingDoe = t := Host.Outcome.next.inj (exec_sealingSetup.symm.trans hexec)
  have hkept : (t.secSite 1).allow = 1 := congrArg SecSite.allow (hothers 1 (by decide))
  rw [← ht, sealingSetup_drops] at hkept
  exact absurd hkept (by decide)

end Sys2Proof.Machine
end

section
/-! Proofs of the statement of the family 15_memory_and_queues.md on grants, installs and lost words. -/

namespace Sys2Proof.Machine

-- In one thread: the whole text is compiled near its memory limit.
set_option Elab.async false

/-! ### Commands taken and completed (15 R321, R326, R328) -/

theorem cplBytes_length (kind status id tt : Nat) (result : List Byte) : (cplBytes kind status id tt result).length = 32 := by
  simp [cplBytes, le]

section
variable {s : State} {q : Nat} {c : Cmd}

/-- An entry the controller may take stands in an enabled command queue of the function that issued it; no grant or install of the owner
function is in progress. -/
theorem State.headCmd_some (hhead : s.headCmd q = some c) : (s.queue q).enable = true ∧ (s.queue q).type = 5
    ∧ (s.fn c.fn).inReset = false ∧ (c.fn = 0 → s.qmgr.grant = none ∧ s.nor.mcStage = none) := by
  unfold State.headCmd at hhead
  dsimp only at hhead
  split at hhead
  next h =>
    obtain ⟨-, -, -, hen, htype, -, hreset, -, hfree⟩ := h
    cases hhead
    exact ⟨hen, htype, by simpa using hreset, fun h0 => by simpa using hfree h0⟩
  next => cases hhead

theorem State.takes_apart (htakes : s.takes q c) : q ≠ c.cq ∧ (s.queue c.cq).type = 3 := by
  obtain ⟨-, hhead, -, hcq, -⟩ := htakes
  have htype : (s.queue c.cq).type = 3 := by
    unfold State.cqOk at hcq
    simp only [Bool.and_eq_true, beq_iff_eq] at hcq
    exact hcq.1.2
  refine ⟨fun h => ?_, htype⟩
  have := (State.headCmd_some hhead).2.1
  rw [h, htype] at this
  cases this

/-- The state with the entry at the head of the command queue taken (01 R26). -/
def State.taken (s : State) (q : Nat) (c : Cmd) : State :=
  ((s.bankHits ((s.queue q).base + 64 * (s.queue q).head) 64 false).consume q 1).modQmgr (fun m => { m with lastFn := c.fn })

theorem State.taken_only (s : State) (q : Nat) (c : Cmd) : Only [.queues, .bmem, .fns, .outs, .qmgr] s (s.taken q c) :=
  ((s.bankHits_only _ _ false).comp (State.consume_only _ q 1) (n := [.queues, .bmem, .fns, .outs])).comp (State.modQmgr_only _ _)

theorem State.taken_qmgr (s : State) (q : Nat) (c : Cmd) : (s.taken q c).qmgr = { s.qmgr with lastFn := c.fn } := by
  have h : ((s.bankHits ((s.queue q).base + 64 * (s.queue q).head) 64 false).consume q 1).qmgr = s.qmgr :=
    ((s.bankHits_only _ _ false).comp (State.consume_only _ q 1) (n := [.queues, .bmem, .fns, .outs])) .qmgr (by decide)
  exact congrArg (fun m : Qmgr => { m with lastFn := c.fn }) h

theorem State.taken_queue (s : State) (q : Nat) (c : Cmd) (j : Nat) : (s.taken q c).queue j = if j = q then { s.queue j with
    head := ((s.queue j).head + 1) % (s.queue j).slots, recs := (recsAfter (s.queue j).recs 1).getD []
    shown := (s.queue j).shown.drop 1 } else s.queue j := by
  unfold State.taken
  rw [State.modQmgr_queue, State.consume_queue]
  simp only [State.queue, State.bankHits_queues]

theorem State.taken_cq (htakes : s.takes q c) : (s.taken q c).queue c.cq = s.queue c.cq := by
  rw [State.taken_queue, if_neg (Ne.symm (State.takes_apart htakes).1)]

theorem State.msix_held (s : State) (fn v i : Nat) : ((s.msix fn v).fn i).held = (s.fn i).held := by
  unfold State.msix
  dsimp only
  split
  · rfl
  · rw [State.modFn_fn]
    split
    · rename_i h
      rw [h]
    · rfl

theorem State.consume_held (s : State) (q n i : Nat) : ((s.consume q n).fn i).held = (s.fn i).held := by
  unfold State.consume when
  dsimp only
  split
  · rw [State.msix_held, ((s.qHit_only q true).comp (State.modQueue_only _ q _) (n := [.bmem, .queues])).fn (by decide)]
  · rw [((s.qHit_only q true).comp (State.modQueue_only _ q _) (n := [.bmem, .queues])).fn (by decide)]

theorem State.taken_held (s : State) (q : Nat) (c : Cmd) (i : Nat) : ((s.taken q c).fn i).held = (s.fn i).held := by
  unfold State.taken
  rw [State.modQmgr_fn, State.consume_held]
  simp only [State.fn, State.bankHits_fns]

/-- A command that passes the checks of R326 acts on the state with its entry taken. -/
theorem State.onCmd_acts {code who : Nat} {masks : List Nat} (htakes : s.takes q c) (hcode : c.code = code)
    (hknown : cmdCodes.contains code = true) (hform : c.formOk masks = true) (hissuer : issuerOk who c.fn = true)
    (hmode : code = 0x01 ∨ code = 0x40 ∨ s.cmdMode c.fn = true) (act : Cmd → State → State) :
    s.onCmd q code who masks act = act c (s.taken q c) := by
  obtain ⟨-, hhead, hturn, hcq, -⟩ := htakes
  unfold State.onCmd
  simp only [hhead]
  rw [if_pos ⟨hcode, hturn⟩]
  unfold State.runCmd
  dsimp only
  rw [if_neg (not_not_intro hcq), hcode, if_neg (not_not_intro hknown), if_neg (not_not_intro hform), if_neg]
  · rfl
  · rintro (h | ⟨h1, h40, h⟩)
    · exact h hissuer
    · exact hmode.elim h1 (fun h' => h'.elim h40 h)

end

/-! ### Completions -/

section
variable {s t : State}

/-- The state in which the completion is posted: the latency is accepted while CMDLAT runs (18 R399). -/
def State.timed (s : State) (seen : Nat) : State :=
  when s.hlth.cmdlat.run (fun t => t.modHlth (fun h => { h with lat := h.lat ++ [(t.uptime - seen) / 16] })) s

theorem State.timed_only (s : State) (seen : Nat) : Only [.hlth] s (s.timed seen) := Only.when (fun t => t.modHlth_only _) _ s

theorem State.timed_hlth (s : State) (seen : Nat) : (s.timed seen).hlth
    = if s.hlth.cmdlat.run then { s.hlth with lat := s.hlth.lat ++ [(s.uptime - seen) / 16] } else s.hlth := by
  unfold State.timed when
  split <;> rfl

theorem State.complete_posts {fn cq tag seen status : Nat} {r : List Byte} (hroom : 0 < (s.queue cq).room)
    (hheld : (s.fn fn).held.all (fun h => h.1 != cq) = true) :
    s.complete fn cq tag seen status r = (s.timed seen).produce cq [cplBytes 0 status tag s.now r] := by
  have h := s.timed_only seen
  refine if_pos ⟨?_, ?_⟩
  · exact (congrArg QDesc.room (h.queue (by decide) cq)).symm ▸ hroom
  · exact (congrArg Fn.held (h.fn (by decide) fn)).symm ▸ hheld

theorem State.complete_only {fn cq tag seen status : Nat} {r : List Byte} (hroom : 0 < (s.queue cq).room)
    (hheld : (s.fn fn).held.all (fun h => h.1 != cq) = true) :
    Only [.queues, .hlth, .mem, .bmem, .fns, .outs] s (s.complete fn cq tag seen status r) := by
  rw [State.complete_posts hroom hheld]
  exact (s.timed_only seen).comp (State.produce_only _ _ _)

theorem State.complete_queue {fn cq tag seen status : Nat} {r : List Byte} (hroom : 0 < (s.queue cq).room)
    (hheld : (s.fn fn).held.all (fun h => h.1 != cq) = true) (j : Nat) : (s.complete fn cq tag seen status r).queue j
      = if j = cq then { s.queue j with tail := ((s.queue j).tail + 1) % (s.queue j).slots } else s.queue j := by
  rw [State.complete_posts hroom hheld, State.produce_queue, (s.timed_only seen).queue (by decide)]
  rfl

theorem State.complete_byte {fn cq tag seen status : Nat} {r : List Byte} (hroom : 0 < (s.queue cq).room)
    (hheld : (s.fn fn).held.all (fun h => h.1 != cq) = true) (htype : (s.queue cq).type = 3) (a : Nat) :
    (s.complete fn cq tag seen status r).byte a
      = (s.setBytes ((s.queue cq).base + 32 * (s.queue cq).tail) (cplBytes 0 status tag s.now r)).byte a := by
  have h := s.timed_only seen
  rw [State.complete_posts hroom hheld, State.produce_byte, h.queue (by decide), State.setBytes_byte, State.setBytes_byte,
    h.byte (by decide), htype]
  rfl

end

/-- A command whose function acts on parts other than its queues, MSI-X and the histograms completes with `status` and RESULT `r`. -/
theorem State.reply_completed {s t : State} {q : Nat} {c : Cmd} {l : List Part} (htakes : s.takes q c) (hacts : Only l (s.taken q c) t)
    (status : Nat) (r : List Byte) (hq : Part.queues ∉ l) (hfn : Part.fns ∉ l) (hqm : Part.qmgr ∉ l) (hh : Part.hlth ∉ l)
    (htime : Part.time ∉ l) :
    s.completed (t.reply c status r) q c status r ∧ Only [.queues, .hlth, .mem, .bmem, .fns, .outs] t (t.reply c status r)
      ∧ ∀ a, (t.reply c status r).byte a
        = (t.setBytes ((s.queue c.cq).base + 32 * (s.queue c.cq).tail) (cplBytes 0 status c.tag s.now r)).byte a := by
  obtain ⟨hapart, htype⟩ := State.takes_apart htakes
  have htaken := s.taken_only q c
  have hcq : t.queue c.cq = s.queue c.cq := (hacts.queue hq c.cq).trans (State.taken_cq htakes)
  have hroom : 0 < (t.queue c.cq).room := hcq ▸ htakes.2.2.2.2.1
  have hheld : (t.fn c.fn).held.all (fun h => h.1 != c.cq) = true := by
    rw [hacts.fn hfn, s.taken_held]
    exact htakes.2.2.2.2.2.2
  have hnow : t.now = s.now := (hacts.now htime).trans (htaken.now (by decide))
  have hbyte : ∀ a, (t.reply c status r).byte a
      = (t.setBytes ((s.queue c.cq).base + 32 * (s.queue c.cq).tail) (cplBytes 0 status c.tag s.now r)).byte a := by
    intro a
    have h := State.complete_byte (tag := c.tag) (seen := c.seen) (status := status) (r := r) hroom hheld (hcq ▸ htype) a
    rwa [hcq, hnow] at h
  have honly := State.complete_only (tag := c.tag) (seen := c.seen) (status := status) (r := r) hroom hheld
  refine ⟨⟨?_, ?_, fun i hi => ?_, ?_, ?_⟩, honly, hbyte⟩
  · show ((t.complete c.fn c.cq c.tag c.seen status r).queue q).head = _
    rw [State.complete_queue hroom hheld, if_neg hapart, hacts.queue hq, s.taken_queue, if_pos rfl]
  · show ((t.complete c.fn c.cq c.tag c.seen status r).queue c.cq).tail = _
    rw [State.complete_queue hroom hheld, if_pos rfl, hcq]
  · rw [hbyte, State.setBytes_byte_add _ ((cplBytes_length ..).symm ▸ hi)]
  · exact (honly .qmgr (by decide)).trans ((hacts .qmgr hqm).trans (s.taken_qmgr q c))
  · have hl : t.hlth = s.hlth := (hacts .hlth hh).trans (htaken .hlth (by decide))
    have hu : t.uptime = s.uptime := (hacts .time htime).2.1.trans (htaken .time (by decide)).2.1
    show (t.complete c.fn c.cq c.tag c.seen status r).hlth = _
    rw [State.complete_posts hroom hheld, State.produce_only _ _ _ .hlth (by decide), State.timed_hlth, hl, hu]

/-! ### Grants (15 R312, R327) -/

/-- What no entry of a table has, none has after one entry changed to a value without it. -/
theorem Tbl.any_upd {α : Type} [DecidableEq α] {p : Nat × α → Bool} {t : Tbl α} (ht : t.any p = false) (d : α) (k : Nat) {f : α → α}
    (hf : p (k, f (Tbl.get d t k)) = false) : (Tbl.upd d t k f).any p = false := by
  rw [List.any_eq_false] at ht ⊢
  intro x hx
  unfold Tbl.upd Tbl.set at hx
  split at hx
  · exact ht x (Tbl.mem_erase hx).1
  · rcases Tbl.mem_insert hx with rfl | hx
    · simpa using hf
    · exact ht x (Tbl.mem_erase hx).1

/-- An entry other than the unlisted value stands in the table. -/
theorem Tbl.mem_of_get {α : Type} {d : α} : ∀ {t : Tbl α} {k : Nat}, Tbl.get d t k ≠ d → (k, Tbl.get d t k) ∈ t
  | [], _, h => absurd rfl h
  | (j, v) :: t, k, h => by
    unfold Tbl.get at h ⊢
    split
    next hjk => exact List.mem_cons.2 (.inl (by rw [hjk]))
    next hjk =>
      rw [if_neg hjk] at h
      exact List.mem_cons_of_mem _ (Tbl.mem_of_get h)

theorem Tbl.get_filter {α : Type} (d : α) (p : Nat → Bool) : ∀ (t : Tbl α) (k : Nat),
    Tbl.get d (t.filter (fun c => p c.1)) k = if p k then Tbl.get d t k else d
  | [], _ => by simp
  | (j, v) :: t, k => by
    have ih := Tbl.get_filter d p t k
    by_cases hjk : j = k
    · subst hjk
      by_cases hp : p j
      · simp [hp, Tbl.get]
      · simpa [hp] using ih
    · by_cases hp : p j
      · simpa [hp, Tbl.get, hjk] using ih
      · simpa [hp, Tbl.get, hjk] using ih

/-- Wiped memory reads zero, other memory as before. -/
theorem State.wipe_byte (s : State) (a n k : Nat) : (s.wipe a n).byte k = if a ≤ k ∧ k < a + n then 0 else s.byte k := by
  have h := Tbl.get_filter (0 : Byte) (fun i => decide ¬(a ≤ i ∧ i < a + n)) s.mem k
  refine h.trans ?_
  by_cases hk : a ≤ k ∧ k < a + n
  · rw [if_pos hk, if_neg (by simp [hk])]
  · rw [if_neg hk, if_pos (decide_eq_true hk)]
    rfl

/-- A table written with one value at the listed keys. -/
theorem Tbl.get_foldl_set_const {α : Type} [DecidableEq α] (d v : α) (l : List Nat) (t : Tbl α) (k : Nat) :
    Tbl.get d (l.foldl (fun t u => Tbl.set d t u v) t) k = if k ∈ l then v else Tbl.get d t k := by
  induction l generalizing t with
  | nil => simp
  | cons u l ih =>
    rw [List.foldl_cons, ih]
    by_cases hl : k ∈ l
    · simp [hl]
    · by_cases hu : k = u
      · simp [hu]
      · simp [hl, hu, Tbl.get_set_ne _ _ _ _ hu]

theorem State.dropLines_only (s : State) (a last : Nat) : Only [.caches] s (s.dropLines a last) := by
  intro p hp
  cases p <;> simp [Part.same, State.dropLines] at hp ⊢

section
variable {s : State} {q : Nat} {c : Cmd}

theorem State.taken_queues (s : State) (q : Nat) (c : Cmd) : (s.taken q c).queues = Tbl.upd {} s.queues q (fun d => { d with
    head := (d.head + 1) % d.slots, recs := (recsAfter d.recs 1).getD [], shown := d.shown.drop 1 }) := by
  have h : ∀ t : State, (t.consume q 1).queues = Tbl.upd {} t.queues q (fun d => { d with
      head := (d.head + 1) % d.slots, recs := (recsAfter d.recs 1).getD [], shown := d.shown.drop 1 }) := by
    intro t
    unfold State.consume
    dsimp only
    rw [Only.when (fun u => u.msix_only _ _) _ _ .queues (by decide)]
    have hmod : ∀ (u : State) (f : QDesc → QDesc), (u.modQueue q f).queues = Tbl.upd {} u.queues q f := fun _ _ => rfl
    rw [hmod, State.qHit_queues]
  unfold State.taken
  rw [State.modQmgr_queues, h, State.bankHits_queues]

/-- Taking a command enables no queue and moves no body. -/
theorem State.taken_unitsUsed (hen : (s.queue q).enable = true) {a n : Nat} (hused : s.unitsUsed a n = false) :
    (s.taken q c).unitsUsed a n = false := by
  have hfcu : ∀ r, (s.taken q c).fcu r = s.fcu r := (s.taken_only q c).fcu (by decide)
  simp only [State.unitsUsed, Bool.or_eq_false_iff] at hused ⊢
  obtain ⟨hqueues, hscr⟩ := hused
  refine ⟨?_, by simpa only [hfcu] using hscr⟩
  rw [s.taken_queues]
  refine Tbl.any_upd hqueues {} q ?_
  have hlisted : Tbl.get {} s.queues q ≠ ({} : QDesc) := fun h => by
    have hoff : (s.queue q).enable = false := congrArg QDesc.enable h
    rw [hoff] at hen
    cases hen
  have hmem : (q, s.queue q) ∈ s.queues := Tbl.mem_of_get hlisted
  have hfree := Bool.eq_false_iff.2 (List.any_eq_false.1 hqueues _ hmem)
  exact hfree

/-- The grant a command asks for. -/
def Cmd.grant (c : Cmd) : Grant where
  cq := c.cq
  tag := c.tag
  seen := c.seen
  holder := bits (c.arg 0) 0 5
  bank := (c.arg 0).testBit 8
  first := bits (c.arg 1) 0 16
  count := bits (c.arg 1) 16 16

theorem State.memGrant_eq (s : State) (c : Cmd) : s.memGrant c
    = if 16 < c.grant.holder ∨ c.grant.count = 0 ∨ (if c.grant.bank then 112 else 288) < c.grant.first + c.grant.count then
        s.reply c Code.paramRange
      else if ¬ s.siteIdle c.grant.holder ∨ c.grant.units.any (fun u => !s.siteIdle (s.unitHolder c.grant.bank u))
          ∨ s.unitsUsed c.grant.range.1 c.grant.range.2 then s.reply c Code.ownerConflict
      else s.modQmgr (fun m => { m with grant := some c.grant }) := rfl

/-- A grant of well-formed operands holds its command when its units may move, and else completes with the code of the check. -/
theorem State.memGrant_starts {g : Grant} (hg : g = c.grant) (hholder : g.holder ≤ 16) (hcount : 0 < g.count) (hrange : g.first + g.count ≤ if g.bank then 112 else 288)
    (hidle : s.siteIdle g.holder = true)
    (hunits : ∀ u, u < g.first + g.count → g.first ≤ u → s.siteIdle (s.unitHolder g.bank u) = true)
    (hused : s.unitsUsed g.range.1 g.range.2 = false) :
    s.memGrant c = s.modQmgr (fun m => { m with grant := some g }) := by
  rw [s.memGrant_eq, ← hg, if_neg (by omega), if_neg]
  rintro (h | h | h)
  · exact h hidle
  · obtain ⟨u, hu, hbad⟩ := List.any_eq_true.1 h
    simp only [Grant.units, List.mem_map, List.mem_range] at hu
    obtain ⟨k, hk, rfl⟩ := hu
    rw [hunits _ (by omega) (by omega)] at hbad
    cases hbad
  · rw [hused] at h
    cases h

theorem State.memGrant_range (hbad : 16 < c.grant.holder ∨ c.grant.count = 0
      ∨ (if c.grant.bank then 112 else 288) < c.grant.first + c.grant.count) :
    s.memGrant c = s.reply c Code.paramRange := by
  rw [s.memGrant_eq, if_pos hbad]

theorem exec_memGrant (htakes : s.takes q c) (hcode : c.code = 0x50) (hform : c.formOk [0x11F, m32] = true) (hfn : c.fn = 0)
    (hmode : s.cmdMode 0 = true) : exec (.memGrant q) s = .next ((s.taken q c).memGrant c) :=
  (onUnit_of (decide (q < 2 ^ 20)) _ (by simpa using htakes.1)).trans
    (congrArg _ (State.onCmd_acts htakes hcode (by decide) hform (by rw [hfn]; rfl) (.inr (.inr (hfn ▸ hmode))) _))

end

section
variable {s : State} {g : Grant}

/-- The units of a grant belong to its holder. -/
def State.moveUnits (s : State) (g : Grant) : State :=
  let set := fun t => g.units.foldl (fun t u => Tbl.set 16 t u g.holder) t
  if g.bank then { s with bankHolder := set s.bankHolder } else { s with hbmHolder := set s.hbmHolder }

theorem State.moveUnits_only (s : State) (g : Grant) : Only [.holders] s (s.moveUnits g) := by
  unfold State.moveUnits
  refine Only.of_ite ?_ ?_ <;>
  · intro p hp
    cases p <;> simp [Part.same] at hp ⊢

theorem State.moveUnits_unitHolder (s : State) (g : Grant) (u : Nat) : (s.moveUnits g).unitHolder g.bank u
    = if u ∈ g.units then g.holder else s.unitHolder g.bank u := by
  unfold State.moveUnits State.unitHolder
  cases hbank : g.bank <;> exact Tbl.get_foldl_set_const 16 g.holder g.units _ u

/-- The units of a grant cleared and moved to their new holder, the grant over (15 R312). -/
def State.regranted (s : State) (g : Grant) : State :=
  (((s.wipe g.range.1 g.range.2).dropLines g.range.1 (g.range.1 + g.range.2 - 1)).moveUnits g).modQmgr
    (fun m => { m with grant := none })

theorem State.regranted_only (s : State) (g : Grant) : Only [.mem, .caches, .holders, .qmgr] s (s.regranted g) := by
  have hclear := (s.wipe_only g.range.1 g.range.2).comp (State.dropLines_only _ g.range.1 (g.range.1 + g.range.2 - 1))
    (n := [.mem, .caches])
  exact (hclear.comp (State.moveUnits_only _ g) (n := [.mem, .caches, .holders])).comp (State.modQmgr_only _ _)

theorem State.regranted_byte (s : State) (g : Grant) (a : Nat) : (s.regranted g).byte a = (s.wipe g.range.1 g.range.2).byte a := by
  unfold State.regranted
  rw [(State.modQmgr_only _ _).byte (by decide), (State.moveUnits_only _ g).byte (by decide), (State.dropLines_only _ _ _).byte (by decide)]

theorem Grant.mem_units {u : Nat} : u ∈ g.units ↔ g.first ≤ u ∧ u < g.first + g.count := by
  simp only [Grant.units, List.mem_map, List.mem_range]
  constructor
  · rintro ⟨k, hk, rfl⟩
    omega
  · intro h
    exact ⟨u - g.first, by omega, by omega⟩

theorem State.regranted_unitHolder (s : State) (g : Grant) (u : Nat) : (s.regranted g).unitHolder g.bank u
    = if u ∈ g.units then g.holder else s.unitHolder g.bank u := by
  have h := State.moveUnits_unitHolder ((s.wipe g.range.1 g.range.2).dropLines g.range.1 (g.range.1 + g.range.2 - 1)) g u
  exact h

theorem exec_memGrantDone (hgrant : s.qmgr.grant = some g) :
    exec .memGrantDone s = .next ((s.regranted g).complete 0 g.cq g.tag g.seen 0) := by
  show Host.Outcome.next s.memGrantDone = _
  unfold State.memGrantDone
  simp only [hgrant]
  rfl

/-- The second clause of `GrantsAndInstallsComplete`: the units of a grant read zero and belong to their new holder. -/
theorem exec_memGrantDone_spec (hgrant : s.qmgr.grant = some g) (hroom : 0 < (s.queue g.cq).room)
    (hheld : (s.fn 0).held.all (fun h => h.1 != g.cq) = true) (htype : (s.queue g.cq).type = 3) :
    ∃ t : State, exec .memGrantDone s = .next t ∧ t.qmgr.grant = none
      ∧ (∀ u, u < g.first + g.count → g.first ≤ u → t.unitHolder g.bank u = g.holder)
      ∧ (∀ u, (u < g.first ∨ g.first + g.count ≤ u) → t.unitHolder g.bank u = s.unitHolder g.bank u)
      ∧ (∀ a, g.range.1 ≤ a → a < g.range.1 + g.range.2 → (a < (s.queue g.cq).base + 32 * (s.queue g.cq).tail
          ∨ (s.queue g.cq).base + 32 * (s.queue g.cq).tail + 32 ≤ a) → t.byte a = 0)
      ∧ (t.queue g.cq).tail = ((s.queue g.cq).tail + 1) % (s.queue g.cq).slots
      ∧ Only (([.holders, .caches] : List Part) ++ cmdParts) s t := by
  have hmoved := s.regranted_only g
  have hcq : (s.regranted g).queue g.cq = s.queue g.cq := hmoved.queue (by decide) _
  have hroom' : 0 < ((s.regranted g).queue g.cq).room := hcq ▸ hroom
  have hheld' : ((s.regranted g).fn 0).held.all (fun h => h.1 != g.cq) = true := by rwa [hmoved.fn (by decide)]
  have honly := State.complete_only (tag := g.tag) (seen := g.seen) (status := 0) (r := []) hroom' hheld'
  have hholder : ∀ u, ((s.regranted g).complete 0 g.cq g.tag g.seen 0).unitHolder g.bank u
      = if u ∈ g.units then g.holder else s.unitHolder g.bank u := by
    intro u
    obtain ⟨hh, hb⟩ := honly .holders (by decide)
    rw [← s.regranted_unitHolder, State.unitHolder, State.unitHolder, hh, hb]
  refine ⟨_, exec_memGrantDone hgrant, ?_, fun u h1 h2 => ?_, fun u hu => ?_, fun a h1 h2 hout => ?_, ?_, hmoved.comp honly⟩
  · rw [honly .qmgr (by decide)]
    rfl
  · rw [hholder, if_pos (Grant.mem_units.2 ⟨h2, h1⟩)]
  · rw [hholder, if_neg (fun h => by have := Grant.mem_units.1 h; omega)]
  · rw [State.complete_byte hroom' hheld' (hcq ▸ htype), hcq, State.setBytes_byte_outside _ (by rw [cplBytes_length]; omega),
      s.regranted_byte, s.wipe_byte, if_pos ⟨h1, h2⟩]
  · rw [State.complete_queue hroom' hheld', if_pos rfl, hcq]

end

/-! ### Installs (07 R148) -/

theorem Only.inMode {l : List Part} {s t : State} (h : Only l s t) (hp : Part.power ∉ l) (hg : Part.glb ∉ l) (m : List Mode) :
    t.inMode m = s.inMode m := by
  obtain ⟨hstage, -⟩ := h .power hp
  have hglb : t.glb = s.glb := h .glb hg
  simp only [State.inMode, State.modes, hstage, hglb]

theorem mem_bitList {m n r : Nat} : r ∈ bitList m n ↔ r < n ∧ m.testBit r = true := by
  simp [bitList]

theorem bitList_nodup (m n : Nat) : (bitList m n).Nodup := List.nodup_range.filter _

/-- The same update of each listed region. -/
theorem State.forEach_modRgn_rgn (f : Rgn → Rgn) {l : List Nat} (hl : l.Nodup) (s : State) (r : Nat) :
    (forEach l (fun i t => t.modRgn i f) s).rgn r = if r ∈ l then f (s.rgn r) else s.rgn r :=
  forEach_unit (read := State.rgn) (fun i t j => by
    rw [State.modRgn_rgn]) hl s r

theorem State.forEach_modRgn_only (f : Rgn → Rgn) (l : List Nat) (s : State) : Only [.rgns] s (forEach l (fun i t => t.modRgn i f) s) :=
  Only.forEach (fun i t => t.modRgn_only i f) l s

section
variable {s : State} {q : Nat} {c : Cmd} {key : List Byte}

theorem State.taken_rangeCode (fn a n : Nat) : (s.taken q c).rangeCode fn a n = s.rangeCode fn a n := by
  obtain ⟨hhbm, hbank⟩ := s.taken_only q c .holders (by decide)
  have hgrant : (s.taken q c).qmgr.grant = s.qmgr.grant := by rw [s.taken_qmgr]
  have hholder : ∀ u, (s.taken q c).holderAt u = s.holderAt u := fun u => by simp only [State.holderAt, hhbm, hbank]
  have hgranted : ∀ o, (s.taken q c).granted o a n = s.granted o a n := fun o => by simp only [State.granted, hholder]
  have hin : (s.taken q c).inGrant a n = s.inGrant a n := by unfold State.inGrant; rw [hgrant]
  unfold State.rangeCode
  rw [hgranted, hin]

theorem Only.bytes {l : List Part} {t : State} (h : Only l s t) (hl : Part.mem ∉ l) (a n : Nat) : t.bytes a n = s.bytes a n := by
  simp only [State.bytes, h.byte hl]

theorem Only.mcKey {l : List Part} {t : State} (h : Only l s t) (hl : Part.nor ∉ l) (hg : Part.glb ∉ l) : t.mcKey = s.mcKey := by
  have hnor : t.nor = s.nor := h .nor hl
  have hglb : t.glb = s.glb := h .glb hg
  simp only [State.mcKey, hnor, hglb]

theorem exec_mcInstall (htakes : s.takes q c) (hcode : c.code = 0x40) (hform : c.formOk [2 ^ 27 - 1, m32, 0xF] = true)
    (hfn : c.fn = 0) : exec (.mcInstall q key) s = .next ((s.taken q c).mcInstall c key) :=
  (onUnit_of (decide (q < 2 ^ 20)) _ (by simpa using htakes.1)).trans
    (congrArg _ (State.onCmd_acts htakes hcode (by decide) hform (by rw [hfn]; rfl) (.inr (.inl rfl)) _))

theorem State.mcInstall_mode (hmode : s.inMode [.service] = false) : s.mcInstall c key = s.reply c Code.svcMode :=
  if_pos (by simp [hmode])

/-- Step 1 with an image that passes: its regions stage it, or wait for the end of a reload. -/
theorem State.mcInstall_stages (hmode : s.inMode [.service] = true) (hrange : s.rangeCode 0 (bankBase + c.arg 0) (c.arg 1) = 0)
    (hkey : key = s.mcKey) (hgood : imageCheck (s.bytes (bankBase + c.arg 0) (c.arg 1)) true s.sec.mcFloor = 0) :
    s.mcInstall c key = (forEach (bitList (c.arg 2) 4) (fun r t => t.modRgn r (fun x => { x with
        loaderState := if x.reloads.isEmpty then 2 else 3 })) (s.bankHits (bankBase + c.arg 0) (c.arg 1) false)).modNor (fun n =>
      { n with mcStage := some (c.arg 2, parseImage (s.bytes (bankBase + c.arg 0) (c.arg 1)), c.cq, c.tag, c.seen) }) := by
  have hhits := s.bankHits_only (bankBase + c.arg 0) (c.arg 1) false
  have hsec : (s.bankHits (bankBase + c.arg 0) (c.arg 1) false).sec = s.sec := hhits .sec (by decide)
  unfold State.mcInstall
  dsimp only
  rw [if_neg (by simp [hmode]), if_neg (by simp [hrange]), hhits.mcKey (by decide) (by decide), hsec, hkey, beq_self_eq_true, hgood]
  rfl

/-- An image whose signature does not verify names its code in each region and completes with it. -/
theorem State.mcInstall_unsigned (hmode : s.inMode [.service] = true) (hrange : s.rangeCode 0 (bankBase + c.arg 0) (c.arg 1) = 0)
    (hform : imageFormOk (s.bytes (bankBase + c.arg 0) (c.arg 1)) = true) (hmask : c.arg 2 ≠ 0) (hkey : key ≠ s.mcKey) :
    s.mcInstall c key = (forEach (bitList (c.arg 2) 4) (fun r t => t.modRgn r (fun x => { x with lastErr := Code.mcImageSig }))
      (s.bankHits (bankBase + c.arg 0) (c.arg 1) false)).reply c Code.mcImageSig := by
  have hhits := s.bankHits_only (bankBase + c.arg 0) (c.arg 1) false
  have hbad : ∀ floor, imageCheck (s.bytes (bankBase + c.arg 0) (c.arg 1)) false floor = Code.mcImageSig := fun floor => by
    simp [imageCheck, slotCheck, hform]
  have hfalse : (key == s.mcKey) = false := by simpa using hkey
  unfold State.mcInstall
  dsimp only
  rw [if_neg (by simp [hmode]), if_neg (by simp [hrange]), hhits.mcKey (by decide) (by decide), hfalse, hbad, if_pos ⟨by decide, hmask⟩]

end

/-! ### The end of an install -/

section
variable {s : State} {m cq tag seen : Nat} {i : McImage}

/-- A region whose install begins: the image stands in its inactive slot, its stores to be written from its reloads' end on. -/
def State.mcBegun (s : State) (i : McImage) (up r : Nat) : State :=
  let t1 := (s.modMc r (fun p => p.put (!(s.rgn r).slot) i)).modRgn r (fun x => { x with loaderState := 3, instN := some 0 })
  when (s.rgn r).reloads.isEmpty (fun u => u.installBegin r up) t1

theorem exec_mcInstallDone_begins (hstage : s.nor.mcStage = some (m, i, cq, tag, seen)) (hany : (bitList m 4).isEmpty = false)
    (hnone : ∀ r, r < 4 → m.testBit r = true → (s.rgn r).instN = none) :
    exec .mcInstallDone s = .next (forEach (bitList m 4) (fun r t => t.mcBegun i s.up r) s) := by
  have hinst : ∀ r ∈ bitList m 4, (s.rgn r).instN = none := fun r hr => hnone r (mem_bitList.1 hr).1 (mem_bitList.1 hr).2
  show Host.Outcome.next s.mcInstallDone = _
  unfold State.mcInstallDone
  simp only [hstage]
  rw [if_neg, if_pos]
  · rfl
  · exact List.all_eq_true.2 (fun r hr => by rw [hinst r hr]; rfl)
  · intro hall
    obtain ⟨r, hr⟩ := List.exists_mem_of_ne_nil (bitList m 4) (by simpa using hany)
    have := List.all_eq_true.1 hall r hr
    rw [hinst r hr] at this
    cases this

/-- What the start of an install reads and writes of region `r`: registers, slots in NOR, verified copy, and the staged image. -/
def State.installRow (s : State) (r : Nat) : Rgn × Slots McImage × McImage × Option (Nat × McImage × Nat × Nat × Nat) :=
  (s.rgn r, s.mcSlots r, Tbl.get {} s.micro r, s.nor.mcStage)

def beginInstall (i : McImage) (up : Nat) (x : Rgn × Slots McImage × McImage × Option (Nat × McImage × Nat × Nat × Nat)) :
    Rgn × Slots McImage × McImage × Option (Nat × McImage × Nat × Nat × Nat) :=
  let p := x.2.1.put (!x.1.slot) i
  if x.1.reloads.isEmpty then
    ({ x.1 with loaderState := 3, instN := some 0, instOn := true, instAt := up, holding := [] }, p,
      (match x.2.2.2 with | some (_, i, _) => i | none => x.2.2.1), x.2.2.2)
  else ({ x.1 with loaderState := 3, instN := some 0 }, p, x.2.2.1, x.2.2.2)

theorem State.mcSlots_modMc (s : State) (r j : Nat) (f : Slots McImage → Slots McImage) :
    (s.modMc r f).mcSlots j = if j = r then f (s.mcSlots j) else s.mcSlots j := Tbl.get_upd ..

theorem State.installBegin_installRow (s : State) (r up j : Nat) : (s.installBegin r up).installRow j
    = if j = r then ({ s.rgn j with instOn := true, instAt := up, holding := [] }, s.mcSlots j,
        (match s.nor.mcStage with | some (_, i, _) => i | none => Tbl.get {} s.micro j), s.nor.mcStage) else s.installRow j := by
  have hcopy : ∀ (i : McImage), Tbl.get {} (Tbl.set {} s.micro r i) j = if j = r then i else Tbl.get {} s.micro j := by
    intro i
    by_cases h : j = r
    · rw [h, Tbl.get_set_same, if_pos rfl]
    · rw [Tbl.get_set_ne _ _ _ _ h, if_neg h]
  unfold State.installBegin State.installRow
  cases hstage : s.nor.mcStage with
  | none =>
    rw [State.modRgn_rgn]
    by_cases h : j = r <;> simp [h, hstage, State.mcSlots]
  | some x =>
    rw [State.modRgn_rgn]
    by_cases h : j = r <;> simp [h, hstage, State.mcSlots, State.setCopy, hcopy, State.rgn]

theorem State.mcBegun_installRow (s : State) (i : McImage) (up r j : Nat) :
    (s.mcBegun i up r).installRow j = if j = r then beginInstall i up (s.installRow j) else s.installRow j := by
  have hput : ∀ k, ((s.modMc r (fun p => p.put (!(s.rgn r).slot) i)).modRgn r (fun x =>
      { x with loaderState := 3, instN := some 0 })).installRow k = if k = r then ({ s.rgn r with loaderState := 3, instN := some 0 },
        (s.mcSlots r).put (!(s.rgn r).slot) i, Tbl.get {} s.micro r, s.nor.mcStage) else s.installRow k := by
    intro k
    have hslots := s.mcSlots_modMc r k (fun p => p.put (!(s.rgn r).slot) i)
    have hrgn : (s.modMc r (fun p => p.put (!(s.rgn r).slot) i)).rgn k = s.rgn k := rfl
    unfold State.installRow
    rw [State.modRgn_rgn, hrgn]
    by_cases h : k = r
    · subst h
      rw [if_pos rfl] at hslots
      simp only [if_true]
      exact Prod.ext rfl (Prod.ext hslots rfl)
    · rw [if_neg h] at hslots
      simp only [if_neg h]
      exact Prod.ext rfl (Prod.ext hslots rfl)
  unfold State.mcBegun beginInstall when
  dsimp only
  by_cases hreload : (s.rgn r).reloads.isEmpty = true
  · rw [if_pos hreload, State.installBegin_installRow]
    by_cases h : j = r
    · subst h
      have hrow := hput j
      rw [if_pos rfl] at hrow
      simp only [State.installRow, Prod.mk.injEq] at hrow
      obtain ⟨h1, h2, h3, h4⟩ := hrow
      simp only [if_true, State.installRow, hreload]
      rw [h1, h2, h3, h4]
    · rw [if_neg h, if_neg h, hput, if_neg h]
  · rw [if_neg hreload, hput]
    by_cases h : j = r
    · subst h
      rw [if_pos rfl, if_pos rfl]
      exact (if_neg hreload).symm
    · rw [if_neg h, if_neg h]

theorem State.modMc_only (s : State) (r : Nat) (f : Slots McImage → Slots McImage) : Only [.nor] s (s.modMc r f) := s.modNor_only _

theorem State.mcBegun_only (s : State) (i : McImage) (up r : Nat) : Only [.rgns, .nor, .caches] s (s.mcBegun i up r) :=
  ((s.modMc_only r _).comp (State.modRgn_only _ r _) (n := [.rgns, .nor])).comp
    (Only.when (fun t => t.installBegin_only r up) _ _)

/-- The registers of a region once every store holds the new image. -/
def Rgn.installed (i : McImage) (x : Rgn) : Rgn :=
  { x with loaderState := x.loaderRest, slot := !x.slot, fallback := false, version := i.version, instN := none }

theorem exec_mcInstallDone_ends (hstage : s.nor.mcStage = some (m, i, cq, tag, seen))
    (hfull : ∀ r, r < 4 → m.testBit r = true → (s.rgn r).instN = some 24) : exec .mcInstallDone s
      = .next (((forEach (bitList m 4) (fun r t => t.modRgn r (Rgn.installed i)) s).modNor
        (fun n => { n with mcStage := none })).complete 0 cq tag seen 0) := by
  show Host.Outcome.next s.mcInstallDone = _
  unfold State.mcInstallDone
  simp only [hstage]
  rw [if_pos]
  · rfl
  · exact List.all_eq_true.2 (fun r hr => by rw [hfull r (mem_bitList.1 hr).1 (mem_bitList.1 hr).2]; rfl)

end

/-- The fourth clause of `GrantsAndInstallsComplete`: the install begins in each named region. -/
theorem exec_mcInstallDone_begins_spec {s : State} {m cq tag seen : Nat} {i : McImage}
    (hstage : s.nor.mcStage = some (m, i, cq, tag, seen)) (hany : (bitList m 4).isEmpty = false)
    (hnone : ∀ r, r < 4 → m.testBit r = true → (s.rgn r).instN = none) :
    ∃ t : State, exec .mcInstallDone s = .next t ∧ t.nor.mcStage = s.nor.mcStage
      ∧ (∀ r, r < 4 → (m.testBit r = true → t.mcSlots r = (s.mcSlots r).put (!(s.rgn r).slot) i ∧ (t.rgn r).loaderState = 3
            ∧ (t.rgn r).instN = some 0 ∧ (t.rgn r).slot = (s.rgn r).slot
            ∧ ((s.rgn r).reloads = [] → Tbl.get {} t.micro r = i ∧ (t.rgn r).holding = [] ∧ (t.rgn r).instOn = true)
            ∧ ((s.rgn r).reloads ≠ [] → Tbl.get {} t.micro r = Tbl.get {} s.micro r ∧ (t.rgn r).holding = (s.rgn r).holding))
          ∧ (m.testBit r = false → Tbl.get {} t.micro r = Tbl.get {} s.micro r ∧ t.rgn r = s.rgn r ∧ t.mcSlots r = s.mcSlots r))
      ∧ Only [.rgns, .nor, .caches] s t := by
  refine ⟨_, exec_mcInstallDone_begins hstage hany hnone, ?_, fun r hr => ?_, Only.forEach (fun r t => t.mcBegun_only i s.up r) _ s⟩
  all_goals
    have hrow := forEach_unit (read := State.installRow) (fun r t j => t.mcBegun_installRow i s.up r j) (bitList_nodup m 4) s
  · have h := congrArg (fun x => x.2.2.2) (hrow 4)
    rw [if_neg (fun h => by have := (mem_bitList.1 h).1; omega)] at h
    exact h
  · have h := hrow r
    generalize forEach (bitList m 4) (fun r t => t.mcBegun i s.up r) s = t at h
    refine ⟨fun hbit => ?_, fun hbit => ?_⟩
    · rw [if_pos (mem_bitList.2 ⟨hr, hbit⟩)] at h
      by_cases hreload : (s.rgn r).reloads = []
      · have hg : beginInstall i s.up (s.installRow r) = ({ s.rgn r with
            loaderState := 3, instN := some 0, instOn := true, instAt := s.up, holding := [] },
            (s.mcSlots r).put (!(s.rgn r).slot) i, i, s.nor.mcStage) := by
          simp [beginInstall, State.installRow, hreload, hstage]
        obtain ⟨h1, h2, h3, -⟩ := by simpa only [State.installRow, Prod.mk.injEq] using h.trans hg
        exact ⟨h2, by rw [h1], by rw [h1], by rw [h1], fun _ => ⟨h3, by rw [h1], by rw [h1]⟩, fun hne => absurd hreload hne⟩
      · have hg : beginInstall i s.up (s.installRow r) = ({ s.rgn r with loaderState := 3, instN := some 0 },
            (s.mcSlots r).put (!(s.rgn r).slot) i, Tbl.get {} s.micro r, s.nor.mcStage) := by
          simp [beginInstall, State.installRow, hreload]
        obtain ⟨h1, h2, h3, -⟩ := by simpa only [State.installRow, Prod.mk.injEq] using h.trans hg
        exact ⟨h2, by rw [h1], by rw [h1], by rw [h1], fun he => absurd he hreload, fun _ => ⟨h3, by rw [h1]⟩⟩
    · rw [if_neg (fun hm => by rw [(mem_bitList.1 hm).2] at hbit; cases hbit)] at h
      obtain ⟨h1, h2, h3, -⟩ := by simpa only [State.installRow, Prod.mk.injEq] using h
      exact ⟨h3, h1, h2⟩

/-- The fifth clause: with every store loaded the registers are updated and the completion is posted. -/
theorem exec_mcInstallDone_ends_spec {s : State} {m cq tag seen : Nat} {i : McImage}
    (hstage : s.nor.mcStage = some (m, i, cq, tag, seen)) (hfull : ∀ r, r < 4 → m.testBit r = true → (s.rgn r).instN = some 24)
    (hroom : 0 < (s.queue cq).room) (hheld : (s.fn 0).held.all (fun h => h.1 != cq) = true) :
    ∃ t : State, exec .mcInstallDone s = .next t ∧ t.nor.mcStage = none
      ∧ (∀ r, r < 4 → (m.testBit r = true → (t.rgn r).version = i.version ∧ (t.rgn r).slot = (!(s.rgn r).slot) ∧ (t.rgn r).fallback = false
            ∧ (t.rgn r).loaderState = (s.rgn r).loaderRest ∧ (t.rgn r).instN = none ∧ (t.rgn r).holding = (s.rgn r).holding)
          ∧ (m.testBit r = false → t.rgn r = s.rgn r))
      ∧ (t.queue cq).tail = ((s.queue cq).tail + 1) % (s.queue cq).slots ∧ Only (([.rgns, .nor] : List Part) ++ cmdParts) s t := by
  have hmoved := (State.forEach_modRgn_only (Rgn.installed i) (bitList m 4) s).comp
    (State.modNor_only _ (fun n => { n with mcStage := none })) (n := [.rgns, .nor])
  have hroom' := (congrArg QDesc.room (hmoved.queue (by decide) cq)).symm ▸ hroom
  have hheld' := (congrArg Fn.held (hmoved.fn (by decide) 0)).symm ▸ hheld
  have honly := State.complete_only (tag := tag) (seen := seen) (status := 0) (r := []) hroom' hheld'
  refine ⟨_, exec_mcInstallDone_ends hstage hfull, ?_, fun r hr => ?_, ?_, hmoved.comp honly⟩
  · rw [honly .nor (by decide)]
    rfl
  · have hrgn : ∀ t : State, (t.modNor (fun n => { n with mcStage := none })).rgn r = t.rgn r := fun _ => rfl
    rw [honly.rgn (by decide), hrgn, State.forEach_modRgn_rgn _ (bitList_nodup m 4)]
    refine ⟨fun hbit => ?_, fun hbit => ?_⟩
    · rw [if_pos (mem_bitList.2 ⟨hr, hbit⟩)]
      exact ⟨rfl, rfl, rfl, rfl, rfl, rfl⟩
    · rw [if_neg (fun hm => by rw [(mem_bitList.1 hm).2] at hbit; cases hbit)]
  · rw [State.complete_queue hroom' hheld', if_pos rfl, hmoved.queue (by decide)]

end Sys2Proof.Machine
end

section
/-! Proofs of the statement of the family 15_memory_and_queues.md on grants, installs and lost words: uncorrectable words of HBM. -/

namespace Sys2Proof.Machine

-- In one thread: the whole text is compiled near its memory limit.
set_option Elab.async false

/-! ### What an error leaves: all that a log entry, a header and a message leave (18 R393, R395) -/

section
variable {α : Type} {g : State → α} (hproduce : ∀ t q l, g (State.produce t q l) = g t)
  (hsite : ∀ t i f, g (State.modSite t i f) = g t) (herr : ∀ t f, g (State.modErr t f) = g t)
  (hcause : ∀ t ty inst m, g (State.cause t ty inst m) = g t)
include hproduce hsite

theorem State.postLog_keep (s : State) (st : Nat) (e : List Byte) : g (s.postLog st e) = g s := by
  unfold State.postLog
  dsimp only
  split
  · split
    · exact hproduce _ _ _
    · exact hsite _ _ _
  · rfl

theorem State.copyEntry_keep (s : State) (e : ErrEntry) : g (s.copyEntry e) = g s :=
  forEach_keep g _ (fun i t => State.postLog_keep hproduce hsite t i _) _ s

include herr

theorem State.closeEntries_keep (s : State) (p : ErrEntry → Bool) : g (s.closeEntries p) = g s :=
  (foldl_keep g _ (fun t e => State.copyEntry_keep hproduce hsite t e) _ _).trans (herr _ _)

include hcause

theorem State.writeEntry_keep (s : State) (e : ErrEntry) : g (s.writeEntry e) = g s := by
  have hlog : g (s.enteredLog e) = g s := by
    refine (herr _ _).trans ?_
    unfold State.openingFor
    split
    · split
      · exact State.closeEntries_keep hproduce hsite herr s _
      · rfl
    · rfl
  rw [s.writeEntry_eq, hcause]
  split
  · exact (State.copyEntry_keep hproduce hsite _ _).trans hlog
  · exact hlog

theorem State.errDrain_keep (s : State) : g s.errDrain = g s := by
  unfold State.errDrain
  split
  · split
    · exact (State.writeEntry_keep hproduce hsite herr hcause _ _).trans (herr _ _)
    · split
      · rfl
      · exact (State.writeEntry_keep hproduce hsite herr hcause _ _).trans (herr _ _)
  · rfl

theorem State.newEntry_keep (s : State) (e : ErrEntry) : g (s.newEntry e) = g s := by
  have hdrain := State.errDrain_keep hproduce hsite herr hcause s
  unfold State.newEntry
  dsimp only
  split
  · exact (State.writeEntry_keep hproduce hsite herr hcause _ _).trans hdrain
  · split <;> exact (herr _ _).trans hdrain

theorem State.raiseAt_keep (hhdr : ∀ t ty inst f, g (State.modHdr t ty inst f) = g t) (s : State) (tt code ty inst : Nat)
    (site : Option Nat) (detail : Nat) (tr perm : Bool) : g (s.raiseAt tt code ty inst site detail tr perm) = g s := by
  have hdue : g s.closeDue = g s := State.closeEntries_keep hproduce hsite herr s _
  have hnamed : ∀ u : State, g ((u.modHdr ty inst (fun h => { h with errCount := satAdd sat16 h.errCount 1, lastCode := code })).modErr
      (fun l => { l with lastCode := code, lastTy := ty, lastInst := inst })) = g u := fun u => (herr _ _).trans (hhdr _ _ _ _)
  unfold State.raiseAt
  dsimp only
  split
  · exact (herr _ _).trans ((hnamed _).trans hdue)
  · exact (State.newEntry_keep hproduce hsite herr hcause _ _).trans ((hnamed _).trans hdue)

end

section
variable {α : Type} {f : QDesc → α} (hf : ∀ (d : QDesc) n, f { d with tail := n } = f d) (s : State) (j : Nat)
include hf

theorem State.produce_queue_keep (q : Nat) (l : List (List Byte)) : f ((s.produce q l).queue j) = f (s.queue j) := by
  rw [State.produce_queue]
  split
  · exact hf _ _
  · rfl

/-- Raising an error moves no HEAD and changes no descriptor but the TAIL of a log queue. -/
theorem State.raiseAt_queue_keep (tt code ty inst : Nat) (site : Option Nat) (detail : Nat) (tr perm : Bool) :
    f ((s.raiseAt tt code ty inst site detail tr perm).queue j) = f (s.queue j) :=
  State.raiseAt_keep (g := fun t => f (t.queue j)) (fun t q l => t.produce_queue_keep hf j q l) (fun _ _ _ => rfl) (fun _ _ => rfl)
    (fun t ty inst m => congrArg f (t.cause_queue ty inst m j)) (fun _ _ _ _ => rfl) s ..

end

/-! ### An uncorrectable word (15 R314) -/

section
variable {s : State} {a n : Nat} {site : Option Nat}

/-- A transient that is no permanent fault is raised as an error, and counted against its unit unless that is retired. -/
theorem State.transient_raises {kind i code ty inst : Nat} {detail : Nat} {hold : Bool}
    (hperm : s.permanent (unitKey kind i) false = false) : ∃ tr,
    Only [.faults] (s.raiseAt s.now code ty inst site detail tr false) (s.transient kind i code ty inst site detail false hold) := by
  unfold State.transient State.transientAt
  dsimp only
  split
  · exact ⟨false, Only.refl _ _⟩
  · rw [hperm]
    exact ⟨true, State.modFault_only _ _ _⟩

theorem hbmStack_eq (a : Nat) : hbmStack a = a / 4096 % 3 := by
  rw [hbmStack, Nat.shiftRight_eq_div_pow]

/-- An uncorrectable word is counted against its stack, whose page has the cause and the code; queues and sites stand but for log
entries. -/
theorem State.uncorr_spec (hn : n = a / 4096 % 3) (hperm : s.permanent (unitKey kStack n) false = false) :
    (s.uncorr a site).hbm n = { s.hbm n with eccUncorr := min (2 ^ 32 - 1) ((s.hbm n).eccUncorr + 1) }
      ∧ ((s.uncorr a site).hdr Ty.hbm n).lastCode = Code.hbmUncorr ∧ ((s.uncorr a site).hdr Ty.hbm n).irqStatus.testBit 0 = true
      ∧ (∀ j, ((s.uncorr a site).site j).st = (s.site j).st)
      ∧ (∀ {α : Type} (f : QDesc → α), (∀ (d : QDesc) n, f { d with tail := n } = f d) → ∀ j, f ((s.uncorr a site).queue j) = f (s.queue j))
      ∧ Only (([.hbms, .faults] : List Part) ++ errorParts) s (s.uncorr a site) := by
  subst hn
  obtain ⟨s1, hs1⟩ : ∃ s1, s1 = s.modHbm (a / 4096 % 3) (fun h => { h with eccUncorr := satAdd sat32 h.eccUncorr 1 }) := ⟨_, rfl⟩
  obtain ⟨s2, hs2⟩ : ∃ s2, s2 = s1.cause Ty.hbm (a / 4096 % 3) 1 := ⟨_, rfl⟩
  have h1 : Only [.hbms] s s1 := hs1 ▸ s.modHbm_only _ _
  have h2 : Only causeParts s1 s2 := hs2 ▸ s1.cause_only _ _ _
  have h12 : Only (.hbms :: causeParts) s s2 := h1.comp h2
  have hperm2 : s2.permanent (unitKey kStack (a / 4096 % 3)) false = false := by
    rw [h12.permanent (by decide) (by decide)]
    exact hperm
  obtain ⟨tr, h3⟩ := State.transient_raises (site := site) (code := Code.hbmUncorr) (ty := Ty.hbm) (inst := a / 4096 % 3)
    (detail := bits a 5 32) (hold := false) hperm2
  have heq : s.uncorr a site = s2.transient kStack (a / 4096 % 3) Code.hbmUncorr Ty.hbm (a / 4096 % 3) site (bits a 5 32) false false := by
    rw [hs2, hs1, ← hbmStack_eq]
    rfl
  rw [← heq] at h3
  generalize s.uncorr a site = t at h3
  have hraise := s2.raiseAt_only s2.now Code.hbmUncorr Ty.hbm (a / 4096 % 3) site (bits a 5 32) tr false
  have hne : pageKey Ty.hbm (a / 4096 % 3) ≠ pageKey Ty.err 0 := by
    rw [Ne, pageKey_inj (by omega) (by decide)]
    exact fun h => absurd h.1 (by decide)
  have hhdr := State.raiseAt_hdr_source hne s2 s2.now Code.hbmUncorr site (bits a 5 32) tr false
  refine ⟨?_, ?_, ?_, fun j => ?_, fun f hf j => ?_, (h12.comp hraise (n := .hbms :: errorParts)).comp h3⟩
  · rw [h3.hbm (by decide), hraise.hbm (by decide), h2.hbm (by decide), hs1, State.modHbm_hbm, if_pos rfl]
    rfl
  · rw [h3.hdr (by decide), hhdr]
  · rw [h3.hdr (by decide), hhdr, hs2]
    exact State.cause_irqStatus (by decide) _ _ _
  · rw [h3.site (by decide), State.raiseAt_st, h12.site (by decide)]
  · rw [h3.queue (by decide), State.raiseAt_queue_keep hf, h12.queue (by decide)]

end

/-! ### What the reader of the word loses -/

theorem exec_hbmUncorrRead {s : State} {a who i j : Nat} (ha : a < hbmTop) (hon : s.stage = .on) (hclear : s.glb.hbmClear = true)
    (hwf : who = 0 ∧ i < nEng ∨ (who = 1 ∨ who = 2) ∧ i < 2 ^ 20 ∨ who = 3 ∧ i < nRgn ∧ j < nSite) :
    exec (.hbmUncorrRead a who i j) s = .next (s.uncorrRead a who i j) :=
  (onUnit_of (decide _) _ (decide_eq_true ⟨ha, hwf⟩)).trans (congrArg _ (if_pos ⟨hon, hclear⟩))

theorem Tbl.get_unlisted {α β : Type} (f : α → β) {d d' : α} (h : f d = f d') : ∀ (t : Tbl α) (k : Nat),
    f (Tbl.get d t k) = f (Tbl.get d' t k)
  | [], _ => h
  | (j, v) :: t, k => by
    unfold Tbl.get
    split
    · rfl
    · exact Tbl.get_unlisted f h t k

theorem hdrReset_codes (ty inst : Nat) : (hdrReset ty inst).lastCode = 0 ∧ (hdrReset ty inst).irqStatus = 0 := by
  unfold hdrReset
  split <;> exact ⟨rfl, rfl⟩

/-- Posting a completion leaves the codes and causes of every page. -/
theorem State.siteCpl_hdr_keep {α : Type} {f : Hdr → α} (hf : ∀ (h : Hdr) n, f { h with errCount := n } = f h)
    (hreset : ∀ ty inst ty' inst', f (hdrReset ty inst) = f (hdrReset ty' inst')) (s : State) (st : Nat)
    (entry : List Byte) (ty inst : Nat) : f ((s.siteCpl st entry).hdr ty inst) = f (s.hdr ty inst) := by
  unfold State.siteCpl State.postCpl
  dsimp only
  split
  · split
    · rw [State.produce_hdr]
    · rfl
  · by_cases hpage : pageKey ty inst = pageKey Ty.site st
    · have hread : ∀ u : State, f (u.hdr ty inst) = f (u.hdr Ty.site st) := fun u => by
        unfold State.hdr
        rw [hpage]
        exact Tbl.get_unlisted f (hreset _ _ _ _) _ _
      rw [hread, hread, State.modHdr_hdr]
      exact hf _ _
    · rw [State.modHdr_hdr_ne _ _ _ _ _ _ hpage]

section
variable {α : Type} {f : QDesc → α} (hf : ∀ (d : QDesc) n, f { d with tail := n } = f d) (s : State)
include hf

theorem State.postCpl_queue_keep (fn q : Nat) (entry : List Byte) (j : Nat) : f ((s.postCpl fn q entry).queue j) = f (s.queue j) := by
  unfold State.postCpl
  split
  · exact s.produce_queue_keep hf j _ _
  · rfl

theorem State.siteCpl_queue_keep (st : Nat) (entry : List Byte) (j : Nat) : f ((s.siteCpl st entry).queue j) = f (s.queue j) := by
  unfold State.siteCpl
  dsimp only
  split
  · exact s.postCpl_queue_keep hf _ _ _ j
  · rfl

end

theorem State.postCpl_only (s : State) (fn q : Nat) (entry : List Byte) :
    Only [.queues, .mem, .bmem, .fns, .outs] s (s.postCpl fn q entry) := by
  unfold State.postCpl
  exact Only.of_ite (s.produce_only _ _) ((s.modFn_only _ _).mono (by decide))

/-- A message sent stays sent while a completion is posted. -/
theorem State.postCpl_outs {o : Out} {s : State} (ho : o ∈ s.outs) (fn q : Nat) (entry : List Byte) : o ∈ (s.postCpl fn q entry).outs := by
  have hmsix : ∀ (t : State) fn v, o ∈ t.outs → o ∈ (t.msix fn v).outs := by
    intro t fn v h
    unfold State.msix
    dsimp only
    split
    · exact List.mem_cons_of_mem _ h
    · exact h
  have hslots : ∀ l : List (List Byte), o ∈ (s.produce q l).outs := by
    intro l
    have hk := foldl_keep_fst (·.outs) (fun (p : State × Nat) b =>
      ((p.1.bankHits ((s.queue q).base + slotSize (s.queue q).type * p.2) b.length true).setBytes
        ((s.queue q).base + slotSize (s.queue q).type * p.2) b, (p.2 + 1) % (s.queue q).slots)) (by simp) l
      (s.qHit q true, (s.queue q).tail)
    have hbody := (hk.trans (s.qHit_outs q true)) ▸ ho
    unfold State.produce when
    dsimp only
    split
    · exact hmsix _ _ _ hbody
    · exact hbody
  unfold State.postCpl
  split
  · exact hslots _
  · exact ho

section
variable {s : State} {a n e q : Nat}

/-- An uncorrectable word fetched by an engine: its segment ends. -/
theorem hbmUncorrRead_engine {g : Seg} (ha : a < hbmTop) (hn : n = a / 4096 % 3) (hon : s.stage = .on) (hclear : s.glb.hbmClear = true)
    (hperm : s.permanent (unitKey kStack n) false = false) (he : e < nEng) (hcur : (s.te e).cur = some g) (hlow : g.ip ≤ a)
    (hhigh : a < g.ip + 32 * g.len) : ∃ t : State, exec (.hbmUncorrRead a 0 e 0) s = .next t ∧ (t.te e).cur = none
      ∧ (t.hbm n).eccUncorr = min (2 ^ 32 - 1) ((s.hbm n).eccUncorr + 1) ∧ (t.hdr Ty.hbm n).lastCode = Code.hbmUncorr
      ∧ (t.hdr Ty.hbm n).irqStatus.testBit 0 = true ∧ (t.site g.site).st = (s.site g.site).st
      ∧ Only (([.hbms, .faults, .tes, .caches, .chans] : List Part) ++ errorParts) s t := by
  obtain ⟨hecc, hcode, hirq, hst, -, honly⟩ := State.uncorr_spec (site := some g.site) hn hperm
  have hexec : exec (.hbmUncorrRead a 0 e 0) s = .next ((s.uncorr a (some g.site)).segStop e Code.hbmUncorr) := by
    rw [exec_hbmUncorrRead ha hon hclear (.inl ⟨rfl, he⟩)]
    unfold State.uncorrRead
    simp only [hcur]
    rw [if_pos ⟨hlow, hhigh⟩]
  have hcur' : ((s.uncorr a (some g.site)).te e).cur = some g := by rwa [honly.te (by decide)]
  generalize s.uncorr a (some g.site) = u at *
  obtain ⟨v, hv⟩ : ∃ v, v = (u.blockPost e).modSite g.site (fun x => { x with
    ended := x.ended ++ [{ segId := g.segId, mask := g.mask, eff := g.eff, next := max ((u.blockPost e).te e).posted g.posted }] }) := ⟨_, rfl⟩
  have huv : Only [.tes, .chans, .sites] u v := hv ▸ (u.blockPost_only e).comp (State.modSite_only _ _ _)
  have hvw := v.endSeg_only e
  have huw : Only [.tes, .chans, .sites] u (v.endSeg e) := huv.comp hvw
  have hstop : u.segStop e Code.hbmUncorr = (v.endSeg e).siteCpl g.site (cplBytes 1 Code.hbmUncorr g.segId u.now []) := by
    unfold State.segStop
    simp only [hcur', hv]
  have hcpl := (v.endSeg e).siteCpl_only g.site (cplBytes 1 Code.hbmUncorr g.segId u.now [])
  have hhdr : ∀ {α : Type} (f : Hdr → α), (∀ (h : Hdr) n, f { h with errCount := n } = f h) →
      (∀ ty inst ty' inst', f (hdrReset ty inst) = f (hdrReset ty' inst')) → f ((u.segStop e Code.hbmUncorr).hdr Ty.hbm n) = f (u.hdr Ty.hbm n) := by
    intro α f hf hreset
    rw [hstop, State.siteCpl_hdr_keep hf hreset, huw.hdr (by decide)]
  have hends : Only (([.hbms, .faults, .tes, .caches, .chans] : List Part) ++ errorParts) s (v.endSeg e) := honly.comp huw
  refine ⟨_, hexec, ?_, ?_, ?_, ?_, ?_, ?_⟩
  · rw [hstop, hcpl.te (by decide)]
    exact (v.endSeg_te e).1
  · rw [hstop, hcpl.hbm (by decide), huw.hbm (by decide), hecc]
  · rw [hhdr (fun h => h.lastCode) (fun _ _ => rfl) (fun _ _ _ _ => (hdrReset_codes _ _).1.trans (hdrReset_codes _ _).1.symm), hcode]
  · rw [hhdr (fun h => h.irqStatus) (fun _ _ => rfl) (fun _ _ _ _ => (hdrReset_codes _ _).2.trans (hdrReset_codes _ _).2.symm), hirq]
  · rw [hstop, State.siteCpl_st, hvw.site (by decide), hv, State.modSite_site, if_pos rfl]
    show ((u.blockPost e).site g.site).st = _
    rw [(u.blockPost_only e).site (by decide), hst]
  · rw [hstop]
    exact hends.comp hcpl

/-- An uncorrectable word of a head descriptor: the queue loses it. -/
theorem hbmUncorrRead_descriptor (ha : a < hbmTop) (hn : n = a / 4096 % 3) (hon : s.stage = .on) (hclear : s.glb.hbmClear = true)
    (hperm : s.permanent (unitKey kStack n) false = false) (hq : q < 2 ^ 20) (hplace : s.placeable.contains q = true)
    (hlow : (s.queue q).base + 64 * (s.queue q).head ≤ a) (hhigh : a < (s.queue q).base + 64 * (s.queue q).head + 64) :
    ∃ t : State, exec (.hbmUncorrRead a 1 q 0) s = .next t ∧ (t.queue q).head = ((s.queue q).head + 1) % (s.queue q).slots
      ∧ (t.hbm n).eccUncorr = min (2 ^ 32 - 1) ((s.hbm n).eccUncorr + 1) ∧ (∀ e, (t.te e).deque = (s.te e).deque)
      ∧ Only (([.hbms, .faults, .free] : List Part) ++ errorParts) s t := by
  obtain ⟨hecc, -, -, -, hqueue, honly⟩ := State.uncorr_spec (site := some (s.queue q).owner) hn hperm
  obtain ⟨lost, id, hexec⟩ : ∃ (lost : Bool) (id : Nat), exec (.hbmUncorrRead a 1 q 0) s
      = .next ((when lost State.useFree ((s.uncorr a (some (s.queue q).owner)).consume q 1)).siteCpl (s.queue q).owner
        (cplBytes 1 Code.hbmUncorr id s.now [])) := by
    rw [exec_hbmUncorrRead ha hon hclear (.inr (.inl ⟨.inl rfl, hq⟩))]
    unfold State.uncorrRead
    dsimp only
    rw [if_pos ⟨hplace, hlow, hhigh⟩]
    exact ⟨_, _, rfl⟩
  generalize s.uncorr a (some (s.queue q).owner) = u at *
  obtain ⟨v, hv⟩ : ∃ v, v = when lost State.useFree (u.consume q 1) := ⟨_, rfl⟩
  have hfree : Only [.free] (u.consume q 1) v := hv ▸ Only.when (fun t => t.useFree_only) lost _
  have huv : Only [.queues, .bmem, .fns, .outs, .free] u v := (u.consume_only q 1).comp hfree
  have hcpl := v.siteCpl_only (s.queue q).owner (cplBytes 1 Code.hbmUncorr id s.now [])
  rw [← hv] at hexec
  have htaken : Only (([.hbms, .faults, .free] : List Part) ++ errorParts) s v := honly.comp huv
  refine ⟨_, hexec, ?_, ?_, fun e => ?_, htaken.comp hcpl⟩
  · have hhead := hqueue (fun d => d.head) (fun _ _ => rfl) q
    have hslots := hqueue (fun d => d.slots) (fun _ _ => rfl) q
    rw [State.siteCpl_queue_keep (f := fun d => d.head) (fun _ _ => rfl), hfree.queue (by decide), State.consume_queue, if_pos rfl]
    show ((u.queue q).head + 1) % (u.queue q).slots = _
    rw [hhead, hslots]
  · rw [hcpl.hbm (by decide), huv.hbm (by decide), hecc]
  · rw [hcpl.te (by decide), huv.te (by decide), honly.te (by decide)]

/-- Bytes written to host memory with no PCIe error. -/
theorem State.dmaOut_none (s : State) (c : Cmd) (host : Nat) (l : List Byte) :
    s.dmaOut c host l none = (if l.length = 0 then s else s.emit (.dma c.fn host l), l.length, true) := by
  unfold State.dmaOut
  simp only [List.take_length]
  rfl

/-- An uncorrectable word that a COPY_OUT reads: the command completes with the bytes before it. -/
theorem hbmUncorrRead_command {c : Cmd} {host : Nat} {l : List Byte} (ha : a < hbmTop) (hn : n = a / 4096 % 3) (hon : s.stage = .on)
    (hclear : s.glb.hbmClear = true) (hperm : s.permanent (unitKey kStack n) false = false) (htakes : s.takes q c)
    (hmoved : s.movedBefore c a = some (host, l)) :
    ∃ t : State, exec (.hbmUncorrRead a 2 q 0) s = .next t ∧ (t.queue q).head = ((s.queue q).head + 1) % (s.queue q).slots
      ∧ (t.hbm n).eccUncorr = min (2 ^ 32 - 1) ((s.hbm n).eccUncorr + 1) ∧ (l ≠ [] → Out.dma c.fn host l ∈ t.outs)
      ∧ Only (([.hbms, .faults, .err, .hdrs, .sites] : List Part) ++ cmdParts) s t := by
  obtain ⟨hq, hhead, hturn, hcq, -⟩ := htakes
  obtain ⟨hecc, -, -, -, hqueue, honly⟩ := State.uncorr_spec (site := siteOfFn c.fn) hn hperm
  obtain ⟨r, hexec⟩ : ∃ r, exec (.hbmUncorrRead a 2 q 0) s = .next (((((s.uncorr a (siteOfFn c.fn)).consume q 1).modQmgr
      (fun m => { m with lastFn := c.fn })).dmaOut c host l none).1.reply c Code.hbmUncorr r) := by
    rw [exec_hbmUncorrRead ha hon hclear (.inr (.inl ⟨.inr rfl, hq⟩))]
    unfold State.uncorrRead
    simp only [hhead, hmoved]
    rw [if_neg (by simp [hcq, hturn])]
    exact ⟨_, rfl⟩
  generalize s.uncorr a (siteOfFn c.fn) = u at *
  obtain ⟨v, hv⟩ : ∃ v, v = (u.consume q 1).modQmgr (fun m => { m with lastFn := c.fn }) := ⟨_, rfl⟩
  have huv : Only [.queues, .bmem, .fns, .outs, .qmgr] u v := hv ▸ (u.consume_only q 1).comp (State.modQmgr_only _ _)
  obtain ⟨w, hw⟩ : ∃ w, w = if l.length = 0 then v else v.emit (.dma c.fn host l) := ⟨_, rfl⟩
  have hvw : Only [.outs] v w := hw ▸ Only.of_ite (Only.refl _ v) (v.emit_only _)
  rw [State.dmaOut_none, ← hv, ← hw] at hexec
  obtain ⟨x, hx⟩ : ∃ x, x = w.timed c.seen := ⟨_, rfl⟩
  have hwx : Only [.hlth] w x := hx ▸ w.timed_only c.seen
  have hreply : w.reply c Code.hbmUncorr r = x.postCpl c.fn c.cq (cplBytes 0 Code.hbmUncorr c.tag w.now r) := by
    rw [hx]
    rfl
  have hpost := x.postCpl_only c.fn c.cq (cplBytes 0 Code.hbmUncorr c.tag w.now r)
  have htaken : Only (([.hbms, .faults, .err, .hdrs, .sites] : List Part) ++ cmdParts) s v := honly.comp huv
  have hsent : Only (([.hbms, .faults, .err, .hdrs, .sites] : List Part) ++ cmdParts) s w := htaken.comp hvw
  have htimed : Only (([.hbms, .faults, .err, .hdrs, .sites] : List Part) ++ cmdParts) s x := hsent.comp hwx
  rw [hreply] at hexec
  refine ⟨_, hexec, ?_, ?_, fun hne => ?_, htimed.comp hpost⟩
  · have hhead := hqueue (fun d => d.head) (fun _ _ => rfl) q
    have hslots := hqueue (fun d => d.slots) (fun _ _ => rfl) q
    rw [State.postCpl_queue_keep (f := fun d => d.head) (fun _ _ => rfl), hwx.queue (by decide), hvw.queue (by decide), hv,
      State.modQmgr_queue, State.consume_queue, if_pos rfl]
    show ((u.queue q).head + 1) % (u.queue q).slots = _
    rw [hhead, hslots]
  · rw [hpost.hbm (by decide), hwx.hbm (by decide), hvw.hbm (by decide), huv.hbm (by decide), hecc]
  · refine State.postCpl_outs ?_ _ _ _
    rw [hwx .outs (by decide), hw, if_neg (fun h => hne (List.length_eq_zero_iff.1 h))]
    exact List.mem_cons_self

/-! ### Bitmap updates (11 R238, R243) -/

theorem State.dropUpdate_spec (s : State) (r st a : Nat) : Only [.fcus, .mem] s (s.dropUpdate r st a)
    ∧ ((s.dropUpdate r st a).part r st).lost = (s.part r st).lost
    ∧ ∀ u, (s.part r st).ups.find? (fun u => u.1 / 32 == a / 32) = some u →
      ((s.dropUpdate r st a).part r st).ups = (s.part r st).ups.erase u := by
  unfold State.dropUpdate
  dsimp only
  split
  next u _ hfind =>
    refine ⟨(s.modPart_only r st _).mono (by decide), ?_, fun v hv => ?_⟩
    · rw [State.modPart_part, if_pos ⟨rfl, rfl⟩]
    · rw [State.modPart_part, if_pos ⟨rfl, rfl⟩]
      cases hfind.symm.trans hv
      rfl
  next b bit was hfind hlast =>
    refine ⟨?_, ?_, fun v hv => (nomatch hfind.symm.trans hv)⟩
    · exact Only.of_ite ((s.setByte_only _ _).comp (State.modPart_only _ r st _)) (Only.refl _ s)
    · split
      · rw [State.modPart_part, if_pos ⟨rfl, rfl⟩]
        rfl
      · rfl
  next hfind hlast => exact ⟨Only.refl _ s, rfl, fun v hv => (nomatch hfind.symm.trans hv)⟩

theorem State.loseUpdate_only (s : State) (r st : Nat) : Only (.fcus :: causeParts) s (s.loseUpdate r st) :=
  ((s.modPart_only r st _).trans (State.modFcu_only _ r _)).comp (State.cause_only _ _ _ _) (l := [.fcus])

/-- An uncorrectable word that a bitmap update reads: the update is lost. -/
theorem hbmUncorrRead_update {r st : Nat} {tb : List Byte} (ha : a < hbmTop) (hn : n = a / 4096 % 3) (hon : s.stage = .on)
    (hclear : s.glb.hbmClear = true) (hperm : s.permanent (unitKey kStack n) false = false) (hr : r < 4) (hst : st < 16)
    (htable : (s.part r st).table = some tb) (hlow : fromLe ((tb.drop 8).take 8) ≤ a)
    (hhigh : a < fromLe ((tb.drop 8).take 8) + 2 ^ ((tb.getD 1 0).toNat - 3)) :
    ∃ t : State, exec (.hbmUncorrRead a 3 r st) s = .next t ∧ (t.part r st).lost = min (2 ^ 32 - 1) ((s.part r st).lost + 1)
      ∧ (t.hbm n).eccUncorr = min (2 ^ 32 - 1) ((s.hbm n).eccUncorr + 1) ∧ (t.hdr Ty.fcu r).irqStatus.testBit 1 = true
      ∧ (∀ u, (s.part r st).ups.find? (fun u => u.1 / 32 == a / 32) = some u → (t.part r st).ups = (s.part r st).ups.erase u)
      ∧ Only (([.hbms, .faults, .fcus] : List Part) ++ errorParts) s t := by
  obtain ⟨hecc, -, -, -, -, honly⟩ := State.uncorr_spec (site := some st) hn hperm
  have hexec : exec (.hbmUncorrRead a 3 r st) s = .next (((s.uncorr a (some st)).dropUpdate r st a).loseUpdate r st) := by
    rw [exec_hbmUncorrRead ha hon hclear (.inr (.inr ⟨rfl, hr, hst⟩))]
    unfold State.uncorrRead
    simp only [htable]
    rw [if_pos ⟨hlow, hhigh⟩]
  have hpart : (s.uncorr a (some st)).part r st = s.part r st := honly.part (by decide) r st
  generalize s.uncorr a (some st) = u at *
  obtain ⟨hdrop, hlost, hups⟩ := u.dropUpdate_spec r st a
  rw [hpart] at hlost hups
  generalize u.dropUpdate r st a = v at *
  have hlose := v.loseUpdate_only r st
  have hdropped : Only (([.hbms, .faults, .fcus] : List Part) ++ errorParts) s v := honly.comp hdrop
  refine ⟨_, hexec, ?_, ?_, ?_, fun x hx => ?_, hdropped.comp hlose⟩
  · rw [State.loseUpdate_part, hlost]
  · rw [hlose.hbm (by decide), hdrop.hbm (by decide), hecc]
  · exact State.cause_irqStatus (by decide) _ _ _
  · rw [State.loseUpdate_part]
    exact hups x hx

end

/-- The clause on MEM_GRANT. -/
theorem exec_memGrant_spec {s : State} {q : Nat} {c : Cmd} {g : Grant} (htakes : s.takes q c) (hcode : c.code = 0x50)
    (hform : c.formOk [0x11F, m32] = true) (hfn : c.fn = 0) (hmode : s.cmdMode 0 = true) (hg : g = c.grant) :
    (g.holder ≤ 16 → 0 < g.count → g.first + g.count ≤ (if g.bank then 112 else 288) → s.siteIdle g.holder = true →
      (∀ u, u < g.first + g.count → g.first ≤ u → s.siteIdle (s.unitHolder g.bank u) = true) → s.unitsUsed g.range.1 g.range.2 = false →
      ∃ t : State, exec (.memGrant q) s = .next t ∧ t.qmgr.grant = some g ∧ (t.queue q).head = ((s.queue q).head + 1) % (s.queue q).slots
        ∧ (t.queue c.cq).tail = (s.queue c.cq).tail ∧ Only cmdParts s t)
    ∧ (16 < g.holder ∨ g.count = 0 ∨ (if g.bank then 112 else 288) < g.first + g.count →
      ∃ t : State, exec (.memGrant q) s = .next t ∧ s.completed t q c Code.paramRange [] ∧ Only cmdParts s t) := by
  have hexec := exec_memGrant htakes hcode hform hfn hmode
  have htaken := s.taken_only q c
  refine ⟨fun hholder hcount hrange hidle hunits hused => ⟨_, hexec, ?_⟩, fun hbad => ⟨_, hexec, ?_⟩⟩
  · have hsite : ∀ o, (s.taken q c).siteIdle o = s.siteIdle o := fun o => by
      simp only [State.siteIdle, State.siteSt, htaken.site (by decide)]
    have hholders : ∀ u, (s.taken q c).unitHolder g.bank u = s.unitHolder g.bank u := fun u => by
      obtain ⟨hh, hb⟩ := htaken .holders (by decide)
      rw [State.unitHolder, State.unitHolder, hh, hb]
    rw [State.memGrant_starts hg hholder hcount hrange (by rwa [hsite])
      (fun u h1 h2 => by rw [hholders, hsite]; exact hunits u h1 h2) (State.taken_unitsUsed (State.headCmd_some htakes.2.1).1 hused)]
    refine ⟨rfl, ?_, ?_, htaken.comp (State.modQmgr_only _ _)⟩
    · rw [State.modQmgr_queue, s.taken_queue, if_pos rfl]
    · rw [State.modQmgr_queue, State.taken_cq htakes]
  · rw [State.memGrant_range (hg ▸ hbad)]
    obtain ⟨hdone, hreply, -⟩ := State.reply_completed (l := []) htakes (Only.refl _ _) Code.paramRange [] (by decide) (by decide)
      (by decide) (by decide) (by decide)
    exact ⟨hdone, htaken.comp hreply⟩

/-- The clause on MC_INSTALL. -/
theorem exec_mcInstall_spec {s : State} {q : Nat} {c : Cmd} (htakes : s.takes q c) (hcode : c.code = 0x40)
    (hform : c.formOk [2 ^ 27 - 1, m32, 0xF] = true) (hfn : c.fn = 0) :
    (s.inMode [.service] = false → ∀ key : List Byte, ∃ t : State, exec (.mcInstall q key) s = .next t
      ∧ s.completed t q c Code.svcMode [] ∧ Only cmdParts s t)
    ∧ (s.inMode [.service] = true → s.rangeCode 0 (bankBase + c.arg 0) (c.arg 1) = 0 →
      (imageCheck (s.bytes (bankBase + c.arg 0) (c.arg 1)) true s.sec.mcFloor = 0 →
        ∃ t : State, exec (.mcInstall q s.mcKey) s = .next t
          ∧ t.nor.mcStage = some (c.arg 2, parseImage (s.bytes (bankBase + c.arg 0) (c.arg 1)), c.cq, c.tag, c.seen)
          ∧ (∀ r, r < 4 → (c.arg 2).testBit r = true → (t.rgn r).loaderState = if (s.rgn r).reloads = [] then 2 else 3)
          ∧ (t.queue c.cq).tail = (s.queue c.cq).tail ∧ Only (([.rgns, .nor] : List Part) ++ cmdParts) s t)
      ∧ (imageFormOk (s.bytes (bankBase + c.arg 0) (c.arg 1)) = true → c.arg 2 ≠ 0 → ∀ key : List Byte, key ≠ s.mcKey →
        ∃ t : State, exec (.mcInstall q key) s = .next t ∧ s.completed t q c Code.mcImageSig []
          ∧ (∀ r, r < 4 → (c.arg 2).testBit r = true → (t.rgn r).lastErr = Code.mcImageSig)
          ∧ Only (.rgns :: cmdParts) s t)) := by
  have htaken := s.taken_only q c
  have hmodes := htaken.inMode (by decide) (by decide) [.service]
  have hbytes := htaken.bytes (by decide) (bankBase + c.arg 0) (c.arg 1)
  have hkeys := htaken.mcKey (by decide) (by decide)
  have hsec : (s.taken q c).sec = s.sec := htaken .sec (by decide)
  have hrgn := htaken.rgn (by decide)
  refine ⟨fun hmode key => ?_, fun hmode hrange => ⟨fun hgood => ?_, fun himage hmask key hkey => ?_⟩⟩
  · refine ⟨_, exec_mcInstall htakes hcode hform hfn, ?_⟩
    rw [State.mcInstall_mode (hmodes.trans hmode)]
    obtain ⟨hdone, hreply, -⟩ := State.reply_completed (l := []) htakes (Only.refl _ _) Code.svcMode [] (by decide) (by decide)
      (by decide) (by decide) (by decide)
    exact ⟨hdone, htaken.comp hreply⟩
  · refine ⟨_, exec_mcInstall htakes hcode hform hfn, ?_⟩
    rw [State.mcInstall_stages (hmodes.trans hmode) (by rwa [State.taken_rangeCode]) hkeys.symm (by rwa [hbytes, hsec]), hbytes]
    obtain ⟨u, hu⟩ : ∃ u, u = (s.taken q c).bankHits (bankBase + c.arg 0) (c.arg 1) false := ⟨_, rfl⟩
    have huonly : Only [.bmem] (s.taken q c) u := hu ▸ State.bankHits_only _ _ _ false
    rw [← hu]
    have hstaged := State.forEach_modRgn_only (fun x => { x with loaderState := if x.reloads.isEmpty then 2 else 3 })
      (bitList (c.arg 2) 4) u
    refine ⟨rfl, fun r hr hbit => ?_, ?_, ?_⟩
    · rw [(State.modNor_only _ _).rgn (by decide), State.forEach_modRgn_rgn _ (bitList_nodup _ 4), if_pos (mem_bitList.2 ⟨hr, hbit⟩),
        huonly.rgn (by decide), hrgn]
      simp only [List.isEmpty_iff]
    · rw [(State.modNor_only _ _).queue (by decide), hstaged.queue (by decide), huonly.queue (by decide), State.taken_cq htakes]
    · have hread : Only cmdParts s u := htaken.comp huonly
      have hrgns : Only (.rgns :: cmdParts) s _ := hread.comp hstaged
      exact hrgns.comp (State.modNor_only _ _)
  · refine ⟨_, exec_mcInstall htakes hcode hform hfn, ?_⟩
    rw [State.mcInstall_unsigned (hmodes.trans hmode) (by rwa [State.taken_rangeCode]) (by rwa [hbytes]) hmask (by rwa [hkeys])]
    obtain ⟨u, hu⟩ : ∃ u, u = (s.taken q c).bankHits (bankBase + c.arg 0) (c.arg 1) false := ⟨_, rfl⟩
    have huonly : Only [.bmem] (s.taken q c) u := hu ▸ State.bankHits_only _ _ _ false
    rw [← hu]
    have hnamed := State.forEach_modRgn_only (fun x => { x with lastErr := Code.mcImageSig }) (bitList (c.arg 2) 4) u
    obtain ⟨hdone, hreply, -⟩ := State.reply_completed (l := [.bmem, .rgns]) htakes (huonly.comp hnamed) Code.mcImageSig []
      (by decide) (by decide) (by decide) (by decide) (by decide)
    refine ⟨hdone, fun r hr hbit => ?_, ?_⟩
    · rw [hreply.rgn (by decide), State.forEach_modRgn_rgn _ (bitList_nodup _ 4), if_pos (mem_bitList.2 ⟨hr, hbit⟩)]
    · have hread : Only cmdParts s u := htaken.comp huonly
      have hrgns : Only (.rgns :: cmdParts) s _ := hread.comp hnamed
      exact hrgns.comp hreply

/-- Settles O51: grants, installs and uncorrectable words, clause by clause. -/
theorem grantsAndInstallsComplete : Obligations.GrantsAndInstallsComplete := by
  refine ⟨?_, ?_, ?_, ?_, ?_⟩
  · intro s q c g htakes hcode hform hfn hmode hg
    exact exec_memGrant_spec htakes hcode hform hfn hmode hg
  · intro s g hgrant _ hroom hheld htype
    exact exec_memGrantDone_spec hgrant hroom hheld htype
  · intro s q c htakes hcode hform hfn
    exact exec_mcInstall_spec htakes hcode hform hfn
  · intro s m cq tag seen i hstage
    exact ⟨exec_mcInstallDone_begins_spec hstage, exec_mcInstallDone_ends_spec hstage⟩
  · intro s a n ha hn hon hclear hperm
    refine ⟨fun e g => hbmUncorrRead_engine ha hn hon hclear hperm, fun q => hbmUncorrRead_descriptor ha hn hon hclear hperm,
      fun q c host l htakes _ => hbmUncorrRead_command ha hn hon hclear hperm htakes,
      fun r st tb => hbmUncorrRead_update ha hn hon hclear hperm⟩

end Sys2Proof.Machine
end

section
/-! Proofs of the statement of the family 15_memory_and_queues.md on memory units: the background tester, HBM, the region loaders. -/

namespace Sys2Proof.Machine

-- In one thread: the whole text is compiled near its memory limit.
set_option Elab.async false

/-! ### The background tester (15 R311) -/

section
variable {s : State}

/-- The region the tester borrows next. -/
def Bmem.borrowing (b : Bmem) (up : Nat) : Bmem :=
  if skipElectrum b.next < 1536 then
    { b with active := true, marching := true, region := skipElectrum b.next, next := skipElectrum b.next + 1, startAt := some up }
  else match b.retest with
    | r :: rest => { b with active := true, marching := true, region := r, retest := rest, startAt := some up }
    | [] => { b with active := true, marching := true, region := 0, next := 1, startAt := some up }

theorem skipElectrum_lt {n : Nat} : skipElectrum n < 1536 ↔ n < 1536 := by
  unfold skipElectrum
  split <;> omega

theorem exec_bmemTestRegionStart (hen : s.bmem.testEn = true) (hmode : s.inMode [.ready, .run, .service] = true)
    (hidle : s.bmem.active = false) (hdue : s.bmem.startAt.any (fun x => decide (s.up < x + s.bmem.interval * fsMs)) = false) :
    exec .bmemTestRegionStart s = .next (s.modBmem (fun b => b.borrowing s.up)) := by
  show Host.Outcome.next s.regionStart = _
  unfold State.regionStart
  dsimp only
  rw [if_neg (by simp [hen, hmode, hidle, hdue])]
  have hmod : ∀ {f : Bmem → Bmem}, f s.bmem = s.bmem.borrowing s.up → s.modBmem f = s.modBmem (fun b => b.borrowing s.up) := fun h =>
    congrArg (fun b => ({ s with bmem := b } : State)) h
  refine congrArg Host.Outcome.next ?_
  unfold Bmem.borrowing at hmod
  split
  next hfirst => exact hmod (if_pos hfirst).symm
  next hfirst =>
    rw [if_neg hfirst] at hmod
    cases hretest : s.bmem.retest with
    | nil => exact hmod (by rw [hretest])
    | cons r rest => exact hmod (by rw [hretest])

theorem exec_bmemTestRegionStart_spec (hen : s.bmem.testEn = true) (hmode : s.inMode [.ready, .run, .service] = true)
    (hidle : s.bmem.active = false) (hdue : s.bmem.startAt.any (fun x => decide (s.up < x + s.bmem.interval * fsMs)) = false) :
    ∃ t : State, exec .bmemTestRegionStart s = .next t ∧ t.bmem.active = true ∧ t.bmem.marching = true ∧ t.bmem.startAt = some s.up
      ∧ (s.bmem.next < 1536 → t.bmem.region = (if 0x540 ≤ s.bmem.next ∧ s.bmem.next < 0x580 then 0x580 else s.bmem.next)
          ∧ t.bmem.next = t.bmem.region + 1 ∧ t.bmem.retest = s.bmem.retest)
      ∧ (1536 ≤ s.bmem.next → (∀ x ∈ s.bmem.retest.head?, t.bmem.region = x) ∧ (s.bmem.retest = [] → t.bmem.region = 0 ∧ t.bmem.next = 1)
          ∧ t.bmem.retest = s.bmem.retest.tail) ∧ Only [.bmem] s t := by
  refine ⟨_, exec_bmemTestRegionStart hen hmode hidle hdue, ?_⟩
  show (s.bmem.borrowing s.up).active = true ∧ (s.bmem.borrowing s.up).marching = true ∧ (s.bmem.borrowing s.up).startAt = some s.up
    ∧ (s.bmem.next < 1536 → (s.bmem.borrowing s.up).region = skipElectrum s.bmem.next
        ∧ (s.bmem.borrowing s.up).next = (s.bmem.borrowing s.up).region + 1 ∧ (s.bmem.borrowing s.up).retest = s.bmem.retest)
    ∧ (1536 ≤ s.bmem.next → (∀ x ∈ s.bmem.retest.head?, (s.bmem.borrowing s.up).region = x)
        ∧ (s.bmem.retest = [] → (s.bmem.borrowing s.up).region = 0 ∧ (s.bmem.borrowing s.up).next = 1)
        ∧ (s.bmem.borrowing s.up).retest = s.bmem.retest.tail) ∧ _
  by_cases hnext : s.bmem.next < 1536
  · have h : s.bmem.borrowing s.up = { s.bmem with
        active := true, marching := true, region := skipElectrum s.bmem.next, next := skipElectrum s.bmem.next + 1, startAt := some s.up } :=
      if_pos (skipElectrum_lt.2 hnext)
    rw [h]
    exact ⟨rfl, rfl, rfl, fun _ => ⟨rfl, rfl, rfl⟩, fun hlast => absurd hnext (by omega), s.modBmem_only _⟩
  · unfold Bmem.borrowing
    rw [if_neg (fun h => hnext (skipElectrum_lt.1 h))]
    cases hretest : s.bmem.retest with
    | nil => exact ⟨rfl, rfl, rfl, fun h => absurd h hnext, fun _ => ⟨by simp, fun _ => ⟨rfl, rfl⟩, rfl⟩, s.modBmem_only _⟩
    | cons r rest => exact ⟨rfl, rfl, rfl, fun h => absurd h hnext, fun _ => ⟨by simp, by simp, rfl⟩, s.modBmem_only _⟩

theorem exec_bmemTestRegionStart_off (hoff : s.bmem.testEn = false) : exec .bmemTestRegionStart s = .next s := by
  show Host.Outcome.next s.regionStart = _
  unfold State.regionStart
  dsimp only
  rw [if_pos (.inl (by simp [hoff]))]

/-- The borrowed region given back, `l` its words that failed. -/
def Bmem.returned (b : Bmem) (l : List Nat) : Bmem := { b with
  active := false, marching := false, suspect := b.suspect.filter (fun o => o >>> 16 != b.region) ++ l
  passes := if decide (1536 ≤ skipElectrum b.next) && b.retest.isEmpty then satAdd sat16 b.passes 1 else b.passes }

theorem exec_bmemMarchDone (hactive : s.bmem.active = true) (fails : List Nat) {l : List Nat}
    (hl : (fails.map (fun o => o / 32 * 32)).filter (fun o => o >>> 16 == s.bmem.region) = l) :
    exec (.bmemMarchDone fails) s = .next ((l.foldl (fun t o => t.marchFail o) s).modBmem (fun b => b.returned l)) := by
  show Host.Outcome.next (s.marchDone fails) = _
  unfold State.marchDone
  dsimp only
  rw [if_neg (by simp [hactive]), hl]
  rfl

theorem exec_bmemMarchDone_clean (hactive : s.bmem.active = true) :
    ∃ t : State, exec (.bmemMarchDone []) s = .next t ∧ t.bmem.active = false ∧ t.bmem.marching = false ∧ t.bmem.fails = s.bmem.fails
      ∧ t.bmem.passes = (if 1536 ≤ s.bmem.next ∧ s.bmem.retest = [] then min 65535 (s.bmem.passes + 1) else s.bmem.passes)
      ∧ Only [.bmem] s t := by
  refine ⟨_, exec_bmemMarchDone hactive [] rfl, rfl, rfl, rfl, ?_, s.modBmem_only _⟩
  have hlast : (decide (1536 ≤ skipElectrum s.bmem.next) && s.bmem.retest.isEmpty) = true ↔ 1536 ≤ s.bmem.next ∧ s.bmem.retest = [] := by
    rw [Bool.and_eq_true, decide_eq_true_iff, List.isEmpty_iff, ← not_lt, skipElectrum_lt, not_lt]
  show (if (decide (1536 ≤ skipElectrum s.bmem.next) && s.bmem.retest.isEmpty) = true then satAdd sat16 s.bmem.passes 1 else s.bmem.passes) = _
  simp only [hlast]
  rfl

/-! ### A word that failed -/

/-- What an access to the borrowed region leaves of the tester's registers. -/
theorem State.shadowHit_fails (s : State) (off : Nat) (w : Bool) : (s.shadowHit off w).bmem.fails = s.bmem.fails := by
  unfold State.shadowHit
  dsimp only
  split
  · rfl
  · split <;> rfl

theorem State.bankHits_fails (s : State) (a n : Nat) (w : Bool) : (s.bankHits a n w).bmem.fails = s.bmem.fails := by
  unfold State.bankHits
  split
  · rfl
  · exact forEach_keep (fun t => t.bmem.fails) _ (fun i t => t.shadowHit_fails _ w) _ s

theorem State.produce_fails (s : State) (q : Nat) (l : List (List Byte)) : (s.produce q l).bmem.fails = s.bmem.fails := by
  have hslots := foldl_keep_fst (·.bmem.fails) (fun (p : State × Nat) b =>
    ((p.1.bankHits ((s.queue q).base + slotSize (s.queue q).type * p.2) b.length true).setBytes
      ((s.queue q).base + slotSize (s.queue q).type * p.2) b, (p.2 + 1) % (s.queue q).slots))
    (fun p b => (congrArg Bmem.fails (State.setBytes_only _ _ b .bmem (by decide))).trans (p.1.bankHits_fails _ _ true)) l
    (s.qHit q true, (s.queue q).tail)
  unfold State.produce
  exact (congrArg Bmem.fails (Only.when (fun t => t.msix_only _ _) _ _ .bmem (by decide))).trans
    (hslots.trans (s.bankHits_fails _ _ true))

theorem State.raiseAt_fails (s : State) (tt code ty inst : Nat) (site : Option Nat) (detail : Nat) (tr perm : Bool) :
    (s.raiseAt tt code ty inst site detail tr perm).bmem.fails = s.bmem.fails :=
  State.raiseAt_keep (g := fun t => t.bmem.fails) (fun t q l => t.produce_fails q l) (fun _ _ _ => rfl) (fun _ _ => rfl)
    (fun t ty inst m => congrArg Bmem.fails (t.cause_only ty inst m .bmem (by decide))) (fun _ _ _ _ => rfl) s ..

theorem exec_bmemMarchDone_failed {o : Nat} (hactive : s.bmem.active = true) (ho : o / 65536 = s.bmem.region)
    (hnew : s.bmem.suspect.contains (o / 32 * 32) = false) (hperm : s.permanent (unitKey kBank (o / 32 % 64)) false = false) :
    ∃ t : State, exec (.bmemMarchDone [o]) s = .next t ∧ t.bmem.active = false ∧ t.bmem.fails = min 255 (s.bmem.fails + 1)
      ∧ o / 32 * 32 ∈ t.bmem.suspect ∧ (t.hdr Ty.bmem 0).irqStatus.testBit 0 = true ∧ (t.hdr Ty.bmem 0).lastCode = Code.bmemTestFail
      ∧ t.glb = s.glb ∧ Only (([.bmem, .faults] : List Part) ++ errorParts) s t := by
  have hl : ([o].map (fun o => o / 32 * 32)).filter (fun o => o >>> 16 == s.bmem.region) = [o / 32 * 32] := by
    have : (o / 32 * 32) >>> 16 = s.bmem.region := by
      rw [Nat.shiftRight_eq_div_pow]
      omega
    simp [this]
  obtain ⟨s1, hs1⟩ : ∃ s1, s1 = s.modBmem (fun b => { b with fails := satAdd sat8 b.fails 1 }) := ⟨_, rfl⟩
  obtain ⟨s2, hs2⟩ : ∃ s2, s2 = s1.cause Ty.bmem 0 1 := ⟨_, rfl⟩
  have h1 : Only [.bmem] s s1 := hs1 ▸ s.modBmem_only _
  have h2 : Only causeParts s1 s2 := hs2 ▸ s1.cause_only _ _ _
  have h12 : Only (.bmem :: causeParts) s s2 := h1.comp h2
  have hkey : o / 32 * 32 / 32 % 64 = o / 32 % 64 := by omega
  have hfail : s.marchFail (o / 32 * 32)
      = s2.transient kBank (o / 32 % 64) Code.bmemTestFail Ty.bmem 0 none (o / 32 * 32) false false := by
    unfold State.marchFail
    dsimp only
    rw [hnew, hkey, hs2, hs1]
  obtain ⟨tr, h3⟩ := State.transient_raises (site := none) (code := Code.bmemTestFail) (ty := Ty.bmem) (inst := 0)
    (detail := o / 32 * 32) (hold := false) ((h12.permanent (by decide) (by decide) _ _).trans hperm)
  rw [← hfail] at h3
  refine ⟨_, exec_bmemMarchDone hactive [o] hl, ?_⟩
  rw [List.foldl_cons, List.foldl_nil]
  have hraise := s2.raiseAt_only s2.now Code.bmemTestFail Ty.bmem 0 none (o / 32 * 32) tr false
  have hhdr := State.raiseAt_hdr_source (ty := Ty.bmem) (inst := 0) (by decide) s2 s2.now Code.bmemTestFail none (o / 32 * 32) tr false
  have hfails := s2.raiseAt_fails s2.now Code.bmemTestFail Ty.bmem 0 none (o / 32 * 32) tr false
  generalize s.marchFail (o / 32 * 32) = u at *
  generalize s2.raiseAt s2.now Code.bmemTestFail Ty.bmem 0 none (o / 32 * 32) tr false = v at *
  have hv : Only (([.bmem, .faults] : List Part) ++ errorParts) s v := h12.comp hraise
  have hu : Only (([.bmem, .faults] : List Part) ++ errorParts) s u := hv.comp h3
  have hback := u.modBmem_only (fun b => b.returned [o / 32 * 32])
  have hfails' : u.bmem.fails = min 255 (s.bmem.fails + 1) := by
    rw [h3 .bmem (by decide), hfails, h2 .bmem (by decide), hs1]
    rfl
  refine ⟨rfl, hfails', List.mem_append_right _ List.mem_cons_self, ?_, ?_, (hback .glb (by decide)).trans (hu .glb (by decide)),
    hu.comp hback⟩
  · rw [hback.hdr (by decide), h3.hdr (by decide), hhdr, hs2]
    exact State.cause_irqStatus (by decide) _ _ _
  · rw [hback.hdr (by decide), h3.hdr (by decide), hhdr]

/-! ### HBM temperature and bandwidth (15 R313, R315, R316) -/

/-- What a temperature refresh writes of a stack. -/
def Hbm.refreshed (x : Int × Nat) (h : Hbm) : Hbm :=
  { h with temp := x.1, doubleRefresh := decide ((95 * 1024 : Int) < x.1), eccCorr := satAdd sat32 h.eccCorr x.2 }

theorem exec_hbmTempRefresh (hon : s.stage = .on) (t0 t1 t2 : Int × Nat) : exec (.hbmTempRefresh t0 t1 t2) s
    = .next (((s.modHbm 0 (Hbm.refreshed t0)).modHbm 1 (Hbm.refreshed t1)).modHbm 2 (Hbm.refreshed t2)) :=
  congrArg Host.Outcome.next (if_neg (not_not_intro hon))

theorem exec_hbmTempRefresh_spec (hon : s.stage = .on) (t0 t1 t2 : Int × Nat) :
    ∃ t : State, exec (.hbmTempRefresh t0 t1 t2) s = .next t
      ∧ (∀ p ∈ [(0, t0), (1, t1), (2, t2)], t.hbm p.1 = { s.hbm p.1 with
          temp := p.2.1, doubleRefresh := decide (95 * 1024 < p.2.1), eccCorr := min (2 ^ 32 - 1) ((s.hbm p.1).eccCorr + p.2.2) })
      ∧ Only [.hbms] s t := by
  refine ⟨_, exec_hbmTempRefresh hon t0 t1 t2, fun p hp => ?_,
    ((s.modHbm_only 0 _).trans (State.modHbm_only _ 1 _)).trans (State.modHbm_only _ 2 _)⟩
  simp only [List.mem_cons, List.not_mem_nil, or_false] at hp
  rcases hp with rfl | rfl | rfl <;> simp only [State.modHbm_hbm] <;> rfl

/-- The four values of a bandwidth report, each saturated. -/
def bwReport (l : List Nat) : Tbl Nat := ((List.range 4).map (fun c => (c, min sat16 (l.getD c 0)))).filter (fun p => p.2 != 0)

theorem bwReport_get (l : List Nat) {c : Nat} (hc : c < 4) : Tbl.get 0 (bwReport l) c = min 65535 (l.getD c 0) := by
  have hfour : ∀ a b d e : Nat, ∀ c < 4, Tbl.get 0 (([(0, a), (1, b), (2, d), (3, e)] : Tbl Nat).filter (fun p => p.2 != 0)) c
      = [a, b, d, e].getD c 0 := by
    intro a b d e c hc
    interval_cases c <;> simp only [List.filter_cons, List.filter_nil] <;> (repeat' split) <;> simp_all [Tbl.get]
  have h := hfour (min sat16 (l.getD 0 0)) (min sat16 (l.getD 1 0)) (min sat16 (l.getD 2 0)) (min sat16 (l.getD 3 0)) c hc
  refine h.trans ?_
  interval_cases c <;> rfl

/-- What the end of a bandwidth window writes of its stack. -/
def Hbm.windowed (served demand : List Nat) (thr : Nat) (bp : Bool) (h : Hbm) : Hbm := { h with
  served := bwReport served, demand := bwReport demand, degFail := bit thr 0, degAcq := bit thr 1, degHost := bit thr 2, bpQueue := bit thr 3
  bp := bp || bit thr 3, events := if thr % 8 = 0 then h.events else satAdd sat16 h.events 1 }

/-- A class is throttled that was not. -/
def Hbm.rises (thr : Nat) (h : Hbm) : Bool := (bit thr 0 && !h.degFail) || (bit thr 1 && !h.degAcq) || (bit thr 2 && !h.degHost)

theorem exec_hbmBwWindow {i : Nat} (hi : i < 3) (hon : s.stage = .on) (served demand : List Nat) (thr : Nat) (bp : Bool) :
    exec (.hbmBwWindow i served demand thr bp) s
      = .next (when ((s.hbm i).rises thr) (fun t => t.cause Ty.hbm i 2) (s.modHbm i (Hbm.windowed served demand thr bp))) :=
  (onUnit_of (decide (i < 3)) _ (decide_eq_true hi)).trans (congrArg Host.Outcome.next (if_pos hon))

theorem exec_hbmBwWindow_spec {i : Nat} (hi : i < 3) (hon : s.stage = .on) (served demand : List Nat) (thr : Nat) (bp : Bool) :
    ∃ t : State, exec (.hbmBwWindow i served demand thr bp) s = .next t
      ∧ (∀ c, c < 4 → Tbl.get 0 (t.hbm i).served c = min 65535 (served.getD c 0) ∧ Tbl.get 0 (t.hbm i).demand c = min 65535 (demand.getD c 0))
      ∧ (t.hbm i).bp = (bp || thr.testBit 3) ∧ (t.hbm i).bpQueue = thr.testBit 3 ∧ (t.hbm i).degFail = thr.testBit 0
      ∧ (t.hbm i).degAcq = thr.testBit 1 ∧ (t.hbm i).degHost = thr.testBit 2
      ∧ (thr % 8 ≠ 0 → (t.hbm i).events = min 65535 ((s.hbm i).events + 1)) ∧ (thr % 8 = 0 → (t.hbm i).events = (s.hbm i).events)
      ∧ (thr.testBit 0 = true → (s.hbm i).degFail = false → (t.hdr Ty.hbm i).irqStatus.testBit 1 = true)
      ∧ (∀ j, j ≠ i → t.hbm j = s.hbm j) ∧ Only (.hbms :: causeParts) s t := by
  have hcause : Only causeParts (s.modHbm i (Hbm.windowed served demand thr bp))
      (when ((s.hbm i).rises thr) (fun t => t.cause Ty.hbm i 2) (s.modHbm i (Hbm.windowed served demand thr bp))) :=
    Only.when (fun t => t.cause_only _ _ _) _ _
  refine ⟨_, exec_hbmBwWindow hi hon served demand thr bp, ?_⟩
  have hstack := hcause.hbm (by decide)
  have hrise : thr.testBit 0 = true → (s.hbm i).degFail = false → ((when ((s.hbm i).rises thr) (fun t => t.cause Ty.hbm i 2)
      (s.modHbm i (Hbm.windowed served demand thr bp))).hdr Ty.hbm i).irqStatus.testBit 1 = true := fun hbit hnot => by
    have hrises : (s.hbm i).rises thr = true := by simp [Hbm.rises, bit, hbit, hnot]
    rw [hrises]
    exact State.cause_irqStatus (by decide) _ _ _
  have hframe : Only (.hbms :: causeParts) s _ := (s.modHbm_only i _).comp hcause
  generalize when ((s.hbm i).rises thr) (fun t => t.cause Ty.hbm i 2) (s.modHbm i (Hbm.windowed served demand thr bp)) = t at *
  have hown : t.hbm i = (s.hbm i).windowed served demand thr bp := by rw [hstack, State.modHbm_hbm, if_pos rfl]
  refine ⟨fun c hc => ?_, congrArg Hbm.bp hown, congrArg Hbm.bpQueue hown, congrArg Hbm.degFail hown, congrArg Hbm.degAcq hown,
    congrArg Hbm.degHost hown, fun hthr => ?_, fun hthr => ?_, hrise, fun j hj => ?_, hframe⟩
  · rw [hown]
    exact ⟨bwReport_get served hc, bwReport_get demand hc⟩
  · exact (congrArg Hbm.events hown).trans (if_neg hthr)
  · exact (congrArg Hbm.events hown).trans (if_pos hthr)
  · rw [hstack, State.modHbm_hbm, if_neg hj]

end

end Sys2Proof.Machine
end

section
/-! What the end of bursts, runs, scans and calibrations touches on SAFE entry and in the CAL sequence (02 R35, R43, R52). -/

namespace Sys2Proof.Machine

-- In one thread: the whole text is compiled near its memory limit.
set_option Elab.async false

section
variable (s : State)

/-- The end of a free run, whether one goes on or not. -/
theorem State.endRun_only (ch : Nat) : Only (.chans :: causeParts) s (s.endRun ch) := by
  by_cases hrun : (s.chan ch).frRun = true
  · obtain ⟨-, -, -, honly⟩ := State.endRun_spec s hrun rfl
    exact honly
  · rw [State.endRun, if_neg hrun]
    exact Only.refl _ s

theorem State.hizStart_only (safe : Bool) (ch : Nat) : Only (.chans :: causeParts) s (s.hizStart safe ch) :=
  (s.endRun_only ch).comp (State.modChan_only _ ch _)

theorem State.hizFrom_only (safe : Bool) (ch : Nat) : Only (.chans :: causeParts) s (s.hizFrom safe ch) :=
  Only.of_ite ((s.endRun_only ch).comp (State.modChan_only _ ch _)) (s.hizStart_only safe ch)

theorem State.hizAll_only (safe : Bool) (l : List Nat) : Only (.chans :: causeParts) s (s.hizAll safe l) :=
  Only.forEach (fun ch t => t.hizFrom_only safe ch) l s

theorem State.disarm_only (st : Nat) : Only [.sites, .chans] s (s.disarm st) :=
  Only.of_ite ((s.modSite_only st _).comp (State.siteBoundary_only _ st)) (Only.refl _ s)

theorem State.endBursts_only (l : List Nat) (code : Nat) : Only burstParts s (s.endBursts l code) :=
  Only.forEach (fun st t => (t.abortSiteAt_only st code t.now).comp (State.disarm_only _ st)) l s

theorem State.madcTrigger_only (k : Nat) (cont : Bool) : Only (.madcs :: causeParts) s (s.madcTrigger k cont) :=
  (s.madcTriggerAt_touches k cont s.now).1

theorem State.madcRelease_only (k : Nat) : Only (.madcs :: causeParts) s (s.madcRelease k) :=
  (s.modMadc_only k _).comp (Only.when (fun t => t.madcTrigger_only k true) _ _)

theorem State.stepEnd_only (k : Nat) : Only (.clus :: .madcs :: causeParts) s (s.stepEnd k) :=
  Only.when (fun t => (t.modClu_only k _).comp (State.madcRelease_only _ k)) _ s

/-- What the end of a calibration run touches. -/
def calEndParts : List Part := [.cals, .chans, .madcs, .clus, .hdrs, .fns, .outs]

theorem State.calAbandon_only (i : Nat) : Only calEndParts s (s.calAbandon i) := by
  have hchans : ∀ (f : Chan → Chan) (l : List Nat) (t : State), Only calEndParts t (forEach l (fun ch u => u.modChan ch f) t) :=
    fun f l t => (Only.forEach (l := [.chans]) (fun ch u => u.modChan_only ch f) l t).mono (by decide)
  have hcal : ∀ (t : State) (f : Cal → Cal), Only calEndParts t (t.modCal i f) := fun t f => (t.modCal_only i f).mono (by decide)
  have hcause : ∀ t : State, Only calEndParts t (t.cause Ty.cal i 2) := fun t => (t.cause_only _ _ _).mono (by decide)
  have hmadc : ∀ (t : State) k (f : Madc → Madc), Only calEndParts t (t.modMadc k f) := fun t k f => (t.modMadc_only k f).mono (by decide)
  have hstep : ∀ (t : State) k, Only calEndParts t (t.stepEnd k) := fun t k => (t.stepEnd_only k).mono (by decide)
  unfold State.calAbandon
  dsimp only
  split
  · refine Only.trans (Only.trans ((hcal s _).trans (hchans _ _ _)) (Only.forEach (fun k t => ?_) _ _)) (hcause _)
    exact (Only.when (fun u => hmadc u k _) _ t).trans (hstep _ k)
  · split
    · exact Only.forEach (fun k t => hstep t k) _ s
    · split
      next hi =>
        obtain ⟨rfl, -⟩ := hi
        exact Only.trans (Only.trans ((hcal s _).trans (hchans _ _ _)) (Only.forEach (fun k t => hmadc t k _) _ _)) (hcause _)
      next => exact Only.refl _ s

theorem State.calAbandonAll_only : Only calEndParts s s.calAbandonAll := Only.forEach (fun i t => t.calAbandon_only i) _ s

theorem State.madcStop_only (k : Nat) : Only [.madcs, .acqs] s (s.madcStop k) :=
  (s.modMadc_only k _).comp (State.modAcq_only _ k _)

theorem State.acqSafe_only (k : Nat) : Only (.acqs :: causeParts) s (s.acqSafe k) :=
  (s.modAcq_only k _).comp (State.cause_only _ _ _ _)

theorem State.unitsSafe_only : Only (.madcs :: .acqs :: .hists :: causeParts) s s.unitsSafe := by
  refine Only.forEach (fun k t => ?_) _ s
  have hstop : Only (.madcs :: .acqs :: .hists :: causeParts) t (t.madcStop k) := (t.madcStop_only k).mono (by decide)
  have hacq : Only (.madcs :: .acqs :: .hists :: causeParts) t ((t.madcStop k).acqSafe k) := hstop.comp (State.acqSafe_only _ k)
  exact hacq.comp (State.modHist_only _ k _)

/-- SAFE entry touches what `safeParts` lists but for the region loaders and NOR. -/
theorem State.safeEntry_only (code : Nat) : Only [.hdrs, .fns, .outs, .err, .sites, .queues, .mem, .bmem, .chans, .tes, .glb, .cals, .clus,
    .madcs, .acqs, .hists, .caches] s (s.safeEntry code) := by
  have hbursts := (s.endBursts_only allSites code).comp (State.hizAll_only _ true allChans) (n := burstParts)
  have hcals := hbursts.comp (State.calAbandonAll_only _) (n := [.hdrs, .fns, .outs, .err, .sites, .queues, .mem, .bmem, .chans, .tes, .cals,
    .clus, .madcs, .caches])
  have hunits := hcals.comp (State.unitsSafe_only _) (n := [.hdrs, .fns, .outs, .err, .sites, .queues, .mem, .bmem, .chans, .tes, .cals, .clus,
    .madcs, .acqs, .hists, .caches])
  unfold State.safeEntry
  exact hunits.comp (State.modGlb_only _ _)

end

end Sys2Proof.Machine
end

section
/-! Proofs of the statement of the family 15_memory_and_queues.md on memory units: the region loaders at power-up (07 R148, 02 R40). -/

namespace Sys2Proof.Machine

-- In one thread: the whole text is compiled near its memory limit.
set_option Elab.async false

/-! ### SAFE entered with no update in progress (02 R35) -/

section
variable {s : State}

/-- SAFE entry but for the region loaders. -/
def safeUnits : List Part :=
  [.hdrs, .fns, .outs, .err, .sites, .queues, .mem, .bmem, .chans, .tes, .glb, .cals, .clus, .madcs, .acqs, .hists, .nor, .caches]

/-- The module's mode registers with the SAFE causes `m` set. -/
def Glb.addCause (g : Glb) (m : Nat) : Glb := { g with cause := g.cause ||| m }

theorem State.setCause_glb (s : State) (m : Nat) : (s.setCause m).glb = s.glb.addCause m := by
  have h := Only.when (fun t => t.cause_only Ty.glb 0 2) (risen s.glb.cause m != 0) (s.modGlb (fun g => { g with cause := g.cause ||| m }))
    .glb (by decide)
  exact h

theorem State.setCause_only (s : State) (m : Nat) : Only (.glb :: causeParts) s (s.setCause m) :=
  (s.modGlb_only _).comp (Only.when (fun t => t.cause_only _ _ _) _ _)

theorem State.updateAbandon_only (hstage : s.nor.mcStage = none) : Only [.nor] s s.updateAbandon := by
  cases hfw : s.nor.fwStage with
  | none =>
    have habandon : s.updateAbandon = s := by simp [State.updateAbandon, hfw, hstage]
    rw [habandon]
    exact Only.refl _ s
  | some x =>
    obtain ⟨_, intoA, _⟩ := x
    have habandon : s.updateAbandon = s.modNor (fun n => { n with
        fwStage := none, fw := n.fw.drop (!intoA && !s.glb.fwSlot), writing := if n.writing = some 8 then none else n.writing
        todo := n.todo.filter (· != 8) }) := by simp [State.updateAbandon, hfw, hstage]
    rw [habandon]
    exact s.modNor_only _

/-- The module's mode registers once SAFE is being entered. -/
def Glb.entering (g : Glb) : Glb := { g with busy := true, target := .safe, seq := false, reboot := false, toSafe := true }

theorem State.enterSafe_spec (hstage : s.nor.mcStage = none) (code : Nat) :
    (s.enterSafe code).glb = s.glb.entering ∧ Only safeUnits s (s.enterSafe code) := by
  have habandon := State.updateAbandon_only hstage
  have hentry := s.updateAbandon.safeEntry_only code
  refine ⟨?_, habandon.comp hentry⟩
  have hbursts := ((State.endBursts_only s.updateAbandon allSites code).comp (State.hizAll_only _ true allChans) (n := burstParts))
    .glb (by decide)
  have hcals := State.calAbandonAll_only ((s.updateAbandon.endBursts allSites code).hizAll true allChans) .glb (by decide)
  have hunits := State.unitsSafe_only (((s.updateAbandon.endBursts allSites code).hizAll true allChans).calAbandonAll) .glb (by decide)
  have hglb := ((hunits.trans hcals).trans hbursts).trans (habandon .glb (by decide))
  exact congrArg Glb.entering hglb

/-- The module's mode registers once SAFE stands. -/
def Glb.settled (g : Glb) : Glb := { g with busy := false, target := .safe, seq := false }

/-- A SAFE cause other than a clock's, with no microcode update in progress: its bits are set, the region loaders stand. -/
theorem State.toSafe_spec (hon : s.stage = .on) (hstage : s.nor.mcStage = none) {m : Nat} (hm : m ≠ causeClock) (code : Nat) :
    (s.toSafe m code).glb.cause = s.glb.cause ||| m ∧ (s.toSafe m code).glb.mcLoaded = s.glb.mcLoaded
      ∧ (s.glb.mode = .safe → s.inSafe = false → (s.toSafe m code).glb.mode = .safe ∧ (s.toSafe m code).glb.busy = false)
      ∧ Only safeUnits s (s.toSafe m code) := by
  have hset := s.setCause_only m
  have hglb := s.setCause_glb m
  have hset' : Only safeUnits s (s.setCause m) := hset.mono (by decide)
  have hin : (s.setCause m).inSafe = s.inSafe := by simp only [State.inSafe, hglb, Glb.addCause]
  have hstage' : (s.setCause m).stage = .on := (hset .power (by decide)).1.trans hon
  have hmode : (s.setCause m).glb.mode = s.glb.mode := (congrArg Glb.mode hglb).trans rfl
  unfold State.toSafe
  dsimp only
  rw [hin, hstage', hmode]
  by_cases hsafe : s.inSafe = true
  · rw [if_pos (.inr hsafe)]
    exact ⟨(congrArg Glb.cause hglb).trans rfl, (congrArg Glb.mcLoaded hglb).trans rfl, fun _ h => absurd hsafe (by simp [h]), hset'⟩
  · rw [if_neg (by simp [hsafe])]
    by_cases hm' : s.glb.mode = .safe
    · rw [if_pos hm', if_neg (fun h => hm h.1)]
      have hcause := ((s.setCause m).modGlb Glb.settled).cause_only Ty.glb 0 1
      have hg := (hcause .glb (by decide)).trans
        (congrArg Glb.settled hglb)
      exact ⟨(congrArg Glb.cause hg).trans rfl, (congrArg Glb.mcLoaded hg).trans rfl, fun _ _ => ⟨((congrArg Glb.mode hg).trans rfl).trans hm', (congrArg Glb.busy hg).trans rfl⟩,
        (hset'.comp ((s.setCause m).modGlb_only Glb.settled) (n := safeUnits)).comp hcause⟩
    · rw [if_neg hm']
      obtain ⟨hg, henter⟩ := State.enterSafe_spec (s := s.setCause m) ((congrArg Nor.mcStage (hset .nor (by decide))).trans hstage) code
      rw [hglb] at hg
      exact ⟨(congrArg Glb.cause hg).trans rfl, (congrArg Glb.mcLoaded hg).trans rfl, fun h => absurd h hm', hset'.trans henter⟩

end

end Sys2Proof.Machine
end

section
/-! Proofs of the statement of the family 15_memory_and_queues.md on memory units: an image in a region (07 R148). -/

namespace Sys2Proof.Machine

-- In one thread: the whole text is compiled near its memory limit.
set_option Elab.async false

section
variable (s : State) (r : Nat) (i : McImage) (slotB fallback : Bool)

theorem mem_tesOfRgn (e : Nat) : e ∈ tesOfRgn r ↔ e / 24 = r := by
  simp only [tesOfRgn, List.mem_map, List.mem_range]
  constructor
  · rintro ⟨k, hk, rfl⟩
    omega
  · intro h
    exact ⟨e - 24 * r, by omega, by omega⟩

/-- A control store that holds image `i` (07 R129). -/
def storeOf (i : McImage) : CStore := { words := i.words.map withParity, entries := i.dispatch.map entryParity }

theorem State.loadStore_micro (e : Nat) : (s.loadStore e).micro = s.micro := rfl

theorem State.forEach_loadStore_micro (l : List Nat) : (forEach l (fun e t => t.loadStore e) s).micro = s.micro :=
  forEach_keep State.micro (fun e t => t.loadStore e) (fun _ _ => rfl) l s

theorem State.loadStore_stores (e j : Nat) :
    Tbl.get {} (s.loadStore e).stores j = if j = e then storeOf (Tbl.get {} s.micro (rgnOfTe e)) else Tbl.get {} s.stores j := by
  by_cases h : j = e
  · rw [if_pos h, h]
    exact Tbl.get_set_same ({} : CStore) ..
  · rw [if_neg h]
    exact Tbl.get_set_ne _ _ _ _ h

/-- The control stores of a list of engines, loaded from the copies of their regions. -/
theorem State.forEach_loadStore_stores (l : List Nat) (j : Nat) : Tbl.get {} (forEach l (fun e t => t.loadStore e) s).stores j
    = if j ∈ l then storeOf (Tbl.get {} s.micro (rgnOfTe j)) else Tbl.get {} s.stores j := by
  induction l generalizing s with
  | nil => rfl
  | cons e l ih =>
    have htail := ih (s.loadStore e)
    rw [s.loadStore_micro e, s.loadStore_stores e j] at htail
    by_cases hj : j = e
    · subst hj
      exact htail.trans (by simp)
    · exact htail.trans (by simp [hj])

/-- A region's page once it runs image `i` from a slot. -/
def Rgn.run (x : Rgn) : Rgn :=
  { x with loaderState := 0, slot := slotB, fallback := fallback, holding := tesOfRgn r, version := i.version }

theorem State.mcRun_rgn (j : Nat) :
    (s.mcRun r i slotB fallback).rgn j = if j = r then (s.rgn j).run r i slotB fallback else s.rgn j := by
  have hrun : s.mcRun r i slotB fallback
      = (forEach (tesOfRgn r) (fun e t => t.loadStore e) (s.setCopy r i)).modRgn r (Rgn.run r i slotB fallback) := rfl
  have hloads : Only [.caches] s (forEach (tesOfRgn r) (fun e t => t.loadStore e) (s.setCopy r i)) :=
    (s.setCopy_only r i).trans (Only.forEach (fun e t => t.loadStore_only e) _ _)
  rw [hrun, State.modRgn_rgn, hloads.rgn (by decide) j]

theorem State.mcRun_micro (j : Nat) :
    Tbl.get {} (s.mcRun r i slotB fallback).micro j = if j = r then i else Tbl.get {} s.micro j := by
  have hmicro : (s.mcRun r i slotB fallback).micro = Tbl.set {} s.micro r i := by
    unfold State.mcRun
    rw [State.modRgn_micro, State.forEach_loadStore_micro, State.setCopy]
  rw [hmicro]
  by_cases h : j = r
  · rw [if_pos h, h, Tbl.get_set_same]
  · rw [if_neg h, Tbl.get_set_ne _ _ _ _ h]

theorem State.mcRun_stores (j : Nat) :
    Tbl.get {} (s.mcRun r i slotB fallback).stores j = if j / 24 = r then storeOf i else Tbl.get {} s.stores j := by
  have hstores := (s.setCopy r i).forEach_loadStore_stores (tesOfRgn r) j
  by_cases h : j / 24 = r
  · rw [if_pos ((mem_tesOfRgn r j).mpr h)] at hstores
    rw [if_pos h]
    refine hstores.trans ?_
    rw [rgnOfTe, h]
    exact congrArg storeOf (Tbl.get_set_same ..)
  · rw [if_neg (fun hm => h ((mem_tesOfRgn r j).mp hm))] at hstores
    rw [if_neg h]
    exact hstores

theorem State.mcRun_only : Only [.rgns, .caches] s (s.mcRun r i slotB fallback) :=
  ((s.setCopy_only r i).trans (Only.forEach (fun e t => t.loadStore_only e) _ _)).comp (State.modRgn_only _ _ _)
end

/-! ### A region loader at power-up (02 R40) -/

section
variable {s : State} {r sigs : Nat}

/-- Region `r` runs image `i`, its 24 engines holding it. -/
structure State.RunsImage (s : State) (r : Nat) (i : McImage) (slotB fallback : Bool) : Prop where
  holding : (s.rgn r).holding.length = 24
  slot : (s.rgn r).slot = slotB
  fallback : (s.rgn r).fallback = fallback
  version : (s.rgn r).version = i.version
  copy : Tbl.get {} s.micro r = i
  stores : ∀ e, e / 24 = r → Tbl.get {} s.stores e = storeOf i

theorem State.mcRun_runs (s : State) (r : Nat) (i : McImage) (slotB fallback : Bool) :
    (s.mcRun r i slotB fallback).RunsImage r i slotB fallback := by
  have hrgn := s.mcRun_rgn r i slotB fallback r
  rw [if_pos rfl] at hrgn
  refine ⟨?_, ?_, ?_, ?_, ?_, fun e he => ?_⟩
  · rw [hrgn]
    simp [Rgn.run, tesOfRgn]
  · rw [hrgn, Rgn.run]
  · rw [hrgn, Rgn.run]
  · rw [hrgn, Rgn.run]
  · rw [State.mcRun_micro, if_pos rfl]
  · rw [State.mcRun_stores, if_pos he]

/-- What keeps the region's page, its copy and its control stores keeps what it runs. -/
theorem State.RunsImage.keep {t : State} {i : McImage} {slotB fallback : Bool} (h : s.RunsImage r i slotB fallback)
    (hrgn : t.rgn r = s.rgn r) (hmicro : Tbl.get {} t.micro r = Tbl.get {} s.micro r)
    (hstores : ∀ e, e / 24 = r → Tbl.get {} t.stores e = Tbl.get {} s.stores e) : t.RunsImage r i slotB fallback := by
  obtain ⟨hhold, hslot, hfall, hver, hcopy, hst⟩ := h
  exact ⟨hrgn ▸ hhold, hrgn ▸ hslot, hrgn ▸ hfall, hrgn ▸ hver, hmicro.trans hcopy, fun e he => (hstores e he).trans (hst e he)⟩

theorem State.RunsImage.mcRun {j : Nat} {i i' : McImage} {slotB fallback slotB' fallback' : Bool}
    (h : s.RunsImage j i slotB fallback) (hj : j ≠ r) : (s.mcRun r i' slotB' fallback').RunsImage j i slotB fallback :=
  h.keep ((s.mcRun_rgn r i' slotB' fallback' j).trans (if_neg hj)) ((s.mcRun_micro r i' slotB' fallback' j).trans (if_neg hj))
    (fun e he => (s.mcRun_stores r i' slotB' fallback' e).trans (if_neg (fun h => hj (he.symm.trans h))))

theorem State.RunsImage.only {t : State} {l : List Part} {i : McImage} {slotB fallback : Bool} (h : s.RunsImage r i slotB fallback)
    (ht : Only l s t) (hrgns : Part.rgns ∉ l) (hcaches : Part.caches ∉ l) : t.RunsImage r i slotB fallback := by
  obtain ⟨_, hmicro, hstores, _⟩ := ht .caches hcaches
  exact h.keep (ht.rgn hrgns r) (congrArg (Tbl.get {} · r) hmicro) (fun e _ => congrArg (Tbl.get {} · e) hstores)

/-- The code of a slot's checks, bit `k` of the operand saying whether its signature verifies (07 R147). -/
def slotCode (x : Option (Nat × McImage)) (sigs k floor : Nat) : Nat :=
  match x with
  | none => Code.mcImageFormat
  | some (_, i) => slotCheck i (bit sigs k) floor

theorem any_slotCheck (x : Option (Nat × McImage)) (sigs k floor : Nat) :
    x.any (fun p => slotCheck p.2 (sigs.testBit k) floor == 0) = true ↔ slotCode x sigs k floor = 0 := by
  cases x with
  | none => simp [slotCode, show Code.mcImageFormat ≠ 0 by decide]
  | some p => simp [slotCode, bit]

/-- The image of a slot, an empty one where there is none. -/
def imageIn (x : Option (Nat × McImage)) : McImage := (x.map (·.2)).getD {}

variable (s r sigs) in
/-- The code of the newer slot, and of the older one. -/
abbrev State.newestCode : Nat := slotCode (s.mcSlots r).newest sigs (2 * r + b2n (s.mcSlots r).newer) s.sec.mcFloor

variable (s r sigs) in
abbrev State.olderCode : Nat := slotCode (s.mcSlots r).older sigs (2 * r + b2n (!(s.mcSlots r).newer)) s.sec.mcFloor

/-- The three outcomes of a loader: the newer slot, the older one with its error, or neither. -/
theorem State.mcLoadRgn_eq : s.mcLoadRgn r sigs =
    if s.newestCode r sigs = 0 then (s.mcRun r (imageIn (s.mcSlots r).newest) (s.mcSlots r).newer false, true)
    else if s.olderCode r sigs = 0 then
      (((s.modRgn r (fun x => { x with lastErr := s.newestCode r sigs })).mcRun r (imageIn (s.mcSlots r).older)
        (!(s.mcSlots r).newer) true).raise Code.microcodeFallback Ty.rgn r, true)
    else
      ((s.modRgn r (fun x => { x with lastErr := s.newestCode r sigs })).modRgn r (fun x => { x with
        loaderState := 4, lastErr := if (s.mcSlots r).older.isSome then s.olderCode r sigs else s.newestCode r sigs }), false) := rfl

end

end Sys2Proof.Machine
end

section
/-! Proofs of the statement of the family 15_memory_and_queues.md on memory units: the four region loaders (07 R148, 02 R40, R41). -/

namespace Sys2Proof.Machine

-- In one thread: the whole text is compiled near its memory limit.
set_option Elab.async false

section
variable {s : State} {sigs : Nat}

/-- What the loaders of a list of regions leave: a step lemma for one of them, from every state with the slots and floors of `s`. -/
theorem State.mcLoadRgn_foldl {P : Nat → State → Prop} {parts : List Part} {b : Bool} (hnor : Part.nor ∉ parts) (hsec : Part.sec ∉ parts)
    {l : List Nat} (hstep : ∀ r ∈ l, ∀ t : State, t.nor = s.nor → t.sec = s.sec → Only parts t (t.mcLoadRgn r sigs).1
      ∧ (t.mcLoadRgn r sigs).2 = b ∧ P r (t.mcLoadRgn r sigs).1 ∧ ∀ j, j ≠ r → P j t → P j (t.mcLoadRgn r sigs).1)
    (p : State × Bool) (hpn : p.1.nor = s.nor) (hps : p.1.sec = s.sec) :
    Only parts p.1 (l.foldl (fun p r => ((p.1.mcLoadRgn r sigs).1, p.2 && (p.1.mcLoadRgn r sigs).2)) p).1
      ∧ (l.foldl (fun p r => ((p.1.mcLoadRgn r sigs).1, p.2 && (p.1.mcLoadRgn r sigs).2)) p).2 = (p.2 && l.all (fun _ => b))
      ∧ ∀ j, (j ∈ l ∨ P j p.1) → P j (l.foldl (fun p r => ((p.1.mcLoadRgn r sigs).1, p.2 && (p.1.mcLoadRgn r sigs).2)) p).1 := by
  induction l generalizing p with
  | nil => exact ⟨Only.refl _ _, by simp, fun j h => h.resolve_left (by simp)⟩
  | cons r l ih =>
    obtain ⟨honly, hb, hown, hkeep⟩ := hstep r (by simp) p.1 hpn hps
    obtain ⟨htail, hall, hP⟩ := ih (fun r' hr' => hstep r' (by simp [hr'])) ((p.1.mcLoadRgn r sigs).1, p.2 && (p.1.mcLoadRgn r sigs).2)
      ((honly .nor hnor).trans hpn) ((honly .sec hsec).trans hps)
    refine ⟨honly.trans htail, hall.trans (by simp [hb, Bool.and_assoc]), fun j hj => hP j ?_⟩
    by_cases hjr : j = r
    · exact .inr (hjr ▸ hown)
    · exact hj.imp (fun h => (List.mem_cons.mp h).resolve_left hjr) (hkeep j hjr)

theorem State.mcSlots_nor {t : State} (h : t.nor = s.nor) (r : Nat) : t.mcSlots r = s.mcSlots r := by
  rw [State.mcSlots, State.mcSlots, h]

theorem State.newestCode_keep {t : State} (hnor : t.nor = s.nor) (hsec : t.sec = s.sec) (r : Nat) :
    t.newestCode r sigs = s.newestCode r sigs ∧ t.olderCode r sigs = s.olderCode r sigs := by
  simp only [State.newestCode, State.olderCode, State.mcSlots_nor hnor, hsec, and_self]

theorem imageIn_of_mem {x : Option (Nat × McImage)} {p : Nat × McImage} (h : p ∈ x) : imageIn x = p.2 := by
  rw [Option.mem_def.mp h]
  rfl

/-- The loaders of all four regions, from the state as it stands. -/
def State.loaders (s : State) (sigs : Nat) : State × Bool :=
  [0, 1, 2, 3].foldl (fun p r => ((p.1.mcLoadRgn r sigs).1, p.2 && (p.1.mcLoadRgn r sigs).2)) (s, true)

theorem exec_mcLoadDone (hon : s.stage = .on) (hbank : s.glb.bmemClear = true) (hfw : s.glb.fwOk = true) (hload : s.glb.mcLoaded = false) :
    exec (.mcLoadDone sigs) s = .next (if (s.loaders sigs).2 then (s.loaders sigs).1.modGlb (fun g => { g with mcLoaded := true })
      else (s.loaders sigs).1.toSafe causeMc Code.burstAbortSafe) := by
  show Host.Outcome.next (s.mcLoad sigs) = _
  unfold State.mcLoad
  rw [if_neg (by simp [hon, hbank, hfw, hload])]
  rfl

/-- What the four loaders leave, from a step lemma for one of them. -/
theorem State.loaders_spec {P : Nat → State → Prop} {parts : List Part} {b : Bool} (hnor : Part.nor ∉ parts) (hsec : Part.sec ∉ parts)
    (hstep : ∀ r, r < 4 → ∀ t : State, t.nor = s.nor → t.sec = s.sec → Only parts t (t.mcLoadRgn r sigs).1
      ∧ (t.mcLoadRgn r sigs).2 = b ∧ P r (t.mcLoadRgn r sigs).1 ∧ ∀ j, j ≠ r → P j t → P j (t.mcLoadRgn r sigs).1) :
    Only parts s (s.loaders sigs).1 ∧ (s.loaders sigs).2 = b ∧ ∀ r, r < 4 → P r (s.loaders sigs).1 := by
  obtain ⟨honly, hall, hP⟩ := State.mcLoadRgn_foldl hnor hsec (l := [0, 1, 2, 3])
    (fun r hr => hstep r (by simp at hr; omega)) (s, true) rfl rfl
  exact ⟨honly, hall.trans (by simp), fun r hr => hP r (.inl (by simp; omega))⟩

/-- A region whose newer slot passes runs it. -/
theorem State.mcLoadRgn_newest {t : State} {r : Nat} (hcode : t.newestCode r sigs = 0) :
    Only [.rgns, .caches] t (t.mcLoadRgn r sigs).1 ∧ (t.mcLoadRgn r sigs).2 = true
      ∧ (t.mcLoadRgn r sigs).1.RunsImage r (imageIn (t.mcSlots r).newest) (t.mcSlots r).newer false
      ∧ ∀ j i b f, j ≠ r → t.RunsImage j i b f → (t.mcLoadRgn r sigs).1.RunsImage j i b f := by
  rw [t.mcLoadRgn_eq, if_pos hcode]
  exact ⟨t.mcRun_only r _ _ _, rfl, t.mcRun_runs r _ _ _, fun j i b f hj h => h.mcRun hj⟩

/-- A region whose newer slot fails and whose older one passes runs the older, with its error. -/
theorem State.mcLoadRgn_older {t : State} {r : Nat} (hbad : t.newestCode r sigs ≠ 0) (hok : t.olderCode r sigs = 0) :
    Only (([.rgns, .caches] : List Part) ++ errorParts) t (t.mcLoadRgn r sigs).1 ∧ (t.mcLoadRgn r sigs).2 = true
      ∧ (t.mcLoadRgn r sigs).1.err.lastCode = Code.microcodeFallback
      ∧ (t.mcLoadRgn r sigs).1.RunsImage r (imageIn (t.mcSlots r).older) (!(t.mcSlots r).newer) true
      ∧ ∀ j i b f, j ≠ r → t.RunsImage j i b f → (t.mcLoadRgn r sigs).1.RunsImage j i b f := by
  rw [t.mcLoadRgn_eq, if_neg hbad, if_pos hok]
  dsimp only
  have hmark := t.modRgn_only r (fun x => { x with lastErr := t.newestCode r sigs })
  have hkeep : ∀ j, j ≠ r → (t.modRgn r (fun x => { x with lastErr := t.newestCode r sigs })).rgn j = t.rgn j :=
    fun j hj => (t.modRgn_rgn r _ j).trans (if_neg hj)
  generalize t.modRgn r (fun x => { x with lastErr := t.newestCode r sigs }) = u at hmark hkeep ⊢
  have hrun := u.mcRun_only r (imageIn (t.mcSlots r).older) (!(t.mcSlots r).newer) true
  have hown := u.mcRun_runs r (imageIn (t.mcSlots r).older) (!(t.mcSlots r).newer) true
  have hother : ∀ j i b f, j ≠ r → t.RunsImage j i b f →
      (u.mcRun r (imageIn (t.mcSlots r).older) (!(t.mcSlots r).newer) true).RunsImage j i b f := fun j i b f hj h => by
    obtain ⟨_, hmicro, hstores, _⟩ := hmark .caches (by decide)
    exact (h.keep (hkeep j hj) (congrArg (Tbl.get {} · j) hmicro) (fun e _ => congrArg (Tbl.get {} · e) hstores)).mcRun hj
  generalize u.mcRun r (imageIn (t.mcSlots r).older) (!(t.mcSlots r).newer) true = v at hrun hown hother ⊢
  have hraise := State.raise_only v Code.microcodeFallback Ty.rgn r none 0
  exact ⟨(hmark.comp hrun (n := [.rgns, .caches])).comp hraise, rfl, v.raiseAt_lastCode _ _ _ _ _ _ _ _, hown.only hraise (by decide) (by decide),
    fun j i b f hj h => (hother j i b f hj h).only hraise (by decide) (by decide)⟩

/-- A region with no committed slot is left in its fault state. -/
theorem State.mcLoadRgn_none {t : State} {r : Nat} (hnew : (t.mcSlots r).newest = none) (hold : (t.mcSlots r).older = none) :
    Only [.rgns] t (t.mcLoadRgn r sigs).1 ∧ (t.mcLoadRgn r sigs).2 = false ∧ ((t.mcLoadRgn r sigs).1.rgn r).loaderState = 4
      ∧ ∀ j, j ≠ r → (t.rgn j).loaderState = 4 → ((t.mcLoadRgn r sigs).1.rgn j).loaderState = 4 := by
  have hnewest : t.newestCode r sigs ≠ 0 := by
    rw [State.newestCode, hnew]
    exact (by decide : Code.mcImageFormat ≠ 0)
  have holder : t.olderCode r sigs ≠ 0 := by
    rw [State.olderCode, hold]
    exact (by decide : Code.mcImageFormat ≠ 0)
  rw [t.mcLoadRgn_eq, if_neg hnewest, if_neg holder]
  refine ⟨(t.modRgn_only r _).trans (State.modRgn_only _ r _), rfl, ?_, fun j hj hP => ?_⟩
  · rw [State.modRgn_rgn, if_pos rfl]
  · rw [State.modRgn_rgn, if_neg hj, State.modRgn_rgn, if_neg hj]
    exact hP

theorem exec_mcLoadDone_newest (hon : s.stage = .on) (hbank : s.glb.bmemClear = true) (hfw : s.glb.fwOk = true)
    (hload : s.glb.mcLoaded = false) (hok : ∀ r, r < 4 → s.newestCode r sigs = 0) :
    ∃ t : State, exec (.mcLoadDone sigs) s = .next t ∧ t.glb.mcLoaded = true ∧ t.err = s.err
      ∧ (∀ r, r < 4 → t.RunsImage r (imageIn (s.mcSlots r).newest) (s.mcSlots r).newer false) ∧ Only [.glb, .rgns, .caches] s t := by
  obtain ⟨honly, hall, hruns⟩ := State.loaders_spec (s := s) (sigs := sigs) (b := true) (parts := [.rgns, .caches])
    (P := fun r t => t.RunsImage r (imageIn (s.mcSlots r).newest) (s.mcSlots r).newer false)
    (by decide) (by decide) (fun r hr t hnor hsec => by
      obtain ⟨h1, h2, h3, h4⟩ := State.mcLoadRgn_newest ((State.newestCode_keep hnor hsec r).1.trans (hok r hr))
      rw [State.mcSlots_nor hnor] at h3
      exact ⟨h1, h2, h3, fun j hj h => h4 j _ _ _ hj h⟩)
  rw [exec_mcLoadDone hon hbank hfw hload, if_pos hall]
  generalize (s.loaders sigs).1 = u at honly hruns ⊢
  have hglb := u.modGlb_only (fun g => { g with mcLoaded := true })
  exact ⟨_, rfl, rfl, honly .err (by decide), fun r hr => (hruns r hr).only hglb (by decide) (by decide), honly.comp hglb⟩

theorem exec_mcLoadDone_older (hon : s.stage = .on) (hbank : s.glb.bmemClear = true) (hfw : s.glb.fwOk = true)
    (hload : s.glb.mcLoaded = false) (hbad : ∀ r, r < 4 → s.newestCode r sigs ≠ 0) (hok : ∀ r, r < 4 → s.olderCode r sigs = 0) :
    ∃ t : State, exec (.mcLoadDone sigs) s = .next t ∧ t.glb.mcLoaded = true ∧ t.err.lastCode = Code.microcodeFallback
      ∧ (∀ r, r < 4 → t.RunsImage r (imageIn (s.mcSlots r).older) (!(s.mcSlots r).newer) true)
      ∧ Only (([.glb, .rgns, .caches] : List Part) ++ errorParts) s t := by
  obtain ⟨honly, hall, hruns⟩ := State.loaders_spec (s := s) (sigs := sigs) (b := true) (parts := ([.rgns, .caches] : List Part) ++ errorParts)
    (P := fun r t => t.err.lastCode = Code.microcodeFallback ∧ t.RunsImage r (imageIn (s.mcSlots r).older) (!(s.mcSlots r).newer) true)
    (by decide) (by decide) (fun r hr t hnor hsec => by
      obtain ⟨hnew, hold⟩ := State.newestCode_keep (sigs := sigs) hnor hsec r
      obtain ⟨h1, h2, h3, h4, h5⟩ := State.mcLoadRgn_older (fun h => hbad r hr (hnew.symm.trans h)) (hold.trans (hok r hr))
      rw [State.mcSlots_nor hnor] at h4
      exact ⟨h1, h2, ⟨h3, h4⟩, fun j hj h => ⟨h3, h5 j _ _ _ hj h.2⟩⟩)
  rw [exec_mcLoadDone hon hbank hfw hload, if_pos hall]
  generalize (s.loaders sigs).1 = u at honly hruns ⊢
  have hglb := u.modGlb_only (fun g => { g with mcLoaded := true })
  exact ⟨_, rfl, rfl, (hruns 0 (by decide)).1, fun r hr => (hruns r hr).2.only hglb (by decide) (by decide), honly.comp hglb⟩

theorem exec_mcLoadDone_none (hon : s.stage = .on) (hbank : s.glb.bmemClear = true) (hfw : s.glb.fwOk = true)
    (hload : s.glb.mcLoaded = false) (hstage : s.nor.mcStage = none)
    (hnone : ∀ r, r < 4 → (s.mcSlots r).newest = none ∧ (s.mcSlots r).older = none) :
    ∃ t : State, exec (.mcLoadDone sigs) s = .next t ∧ t.glb.mcLoaded = false ∧ (∀ r, r < 4 → (t.rgn r).loaderState = 4)
      ∧ t.glb.cause &&& causeMc = causeMc ∧ (s.glb.mode = .safe → s.inSafe = false → t.glb.mode = .safe ∧ t.glb.busy = false)
      ∧ Only safeParts s t := by
  obtain ⟨honly, hall, hstate⟩ := State.loaders_spec (s := s) (sigs := sigs) (b := false) (parts := [.rgns])
    (P := fun r t => (t.rgn r).loaderState = 4) (by decide) (by decide) (fun r hr t hnor _ => by
      obtain ⟨hnew, hold⟩ := hnone r hr
      exact State.mcLoadRgn_none ((congrArg _ (State.mcSlots_nor hnor r)).trans hnew) ((congrArg _ (State.mcSlots_nor hnor r)).trans hold))
  rw [exec_mcLoadDone hon hbank hfw hload, if_neg (by rw [hall]; decide)]
  generalize (s.loaders sigs).1 = u at honly hstate ⊢
  have hglb : u.glb = s.glb := honly .glb (by decide)
  have hin : u.inSafe = s.inSafe := by rw [State.inSafe, State.inSafe, hglb]
  obtain ⟨hcause, hloaded, hmode, hsafe⟩ := State.toSafe_spec (s := u) ((honly .power (by decide)).1.trans hon)
    ((congrArg Nor.mcStage (honly .nor (by decide))).trans hstage) (m := causeMc) (by decide) Code.burstAbortSafe
  rw [hglb, hin] at hmode
  refine ⟨_, rfl, ?_, fun r hr => ?_, ?_, hmode, honly.comp hsafe⟩
  · rw [hloaded, hglb, hload]
  · rw [hsafe.rgn (by decide)]
    exact hstate r hr
  · rw [hcause]
    refine Nat.eq_of_testBit_eq (fun i => ?_)
    rw [Nat.testBit_and, Nat.testBit_or]
    cases causeMc.testBit i <;> simp

end

end Sys2Proof.Machine
end

section
/-! Proofs of the statement of the family 15_memory_and_queues.md on memory units: bank arbitration (15 R308 to R310). -/

namespace Sys2Proof.Machine

-- In one thread: the whole text is compiled near its memory limit.
set_option Elab.async false

section
variable {s : State} {r : BankReq}

/-! ### Words of bank memory -/

theorem State.shadowHit_inactive (h : s.bmem.active = false) (off : Nat) (w : Bool) : s.shadowHit off w = s := by
  unfold State.shadowHit State.borrowed
  rw [if_pos (by simp [h])]

theorem State.setBankByte_only (s : State) (off : Nat) (b : Byte) : Only [.mem, .queues] s (s.setBankByte off b) := by
  unfold State.setBankByte
  split
  · exact (s.modQueue_only _ _).mono (by decide)
  · exact (s.setByte_only _ _).mono (by decide)

theorem State.setBankBytes_only (s : State) (off : Nat) (l : List Byte) : Only [.mem, .queues] s (s.setBankBytes off l) := by
  induction l generalizing s off with
  | nil => exact Only.refl _ s
  | cons b l ih => exact (s.setBankByte_only off b).trans (ih _ _)

/-- Past the queue table the bytes of bank memory are bytes of memory. -/
theorem State.setBankBytes_high (s : State) {off : Nat} (hoff : 0x1000000 ≤ off) (l : List Byte) :
    s.setBankBytes off l = s.setBytes (bankBase + off) l := by
  induction l generalizing s off with
  | nil => rfl
  | cons b l ih =>
    have hbyte : s.setBankByte off b = s.setByte (bankBase + off) b := by rw [State.setBankByte, if_neg (by omega)]
    show (s.setBankByte off b).setBankBytes (off + 1) l = (s.setByte (bankBase + off) b).setBytes (bankBase + off + 1) l
    rw [hbyte, ih _ (by omega)]
    rfl

/-- In the queue table only descriptors change, those the bytes lie in. -/
theorem State.setBankBytes_low (s : State) {off : Nat} {l : List Byte} (hoff : off + l.length ≤ 0x1000000) :
    Only [.queues] s (s.setBankBytes off l)
      ∧ ∀ q, (16 * (q + 1) ≤ off ∨ off + l.length ≤ 16 * q) → (s.setBankBytes off l).queue q = s.queue q := by
  induction l generalizing s off with
  | nil => exact ⟨Only.refl _ s, fun _ _ => rfl⟩
  | cons b l ih =>
    rw [List.length_cons] at hoff
    obtain ⟨honly, hkeep⟩ := ih (s.setBankByte off b) (off := off + 1) (by omega)
    have hbyte : Only [.queues] s (s.setBankByte off b) ∧ ∀ q, q ≠ off / 16 → (s.setBankByte off b).queue q = s.queue q := by
      rw [State.setBankByte, if_pos (by omega)]
      exact ⟨s.modQueue_only _ _, fun q hq => by rw [State.modQueue_queue, if_neg hq]⟩
    refine ⟨hbyte.1.trans honly, fun q hq => (hkeep q ?_).trans (hbyte.2 q ?_)⟩ <;> rw [List.length_cons] at hq <;> omega

theorem State.bankByte_high (s : State) {off : Nat} (h : 0x1000000 ≤ off) : s.bankByte off = s.byte (bankBase + off) := by
  rw [State.bankByte, if_neg (by omega)]

/-- A served write stores the bytes of its word access. -/
theorem State.bankDo_write (h : s.bmem.active = false) {d : List Byte} (hd : r.data = some d) (old : State) :
    s.bankDo old r = s.setBankBytes r.off (d.take r.part) := by
  unfold State.bankDo
  rw [State.shadowHit_inactive h, hd]

/-- A served read answers with its last word. -/
theorem State.bankDo_read (h : s.bmem.active = false) (hd : r.data = none) (old : State) :
    s.bankDo old r = if r.span ≤ r.part then s.emit (.bank r.master (r.got ++ (List.range r.part).map (fun i => old.bankByte (r.off + i))))
      else s := by
  unfold State.bankDo
  rw [State.shadowHit_inactive h, hd]

/-! ### One request alone -/

/-- The request is its port's last winner, `waits` others waiting. -/
def State.bankGrant (s : State) (r : BankReq) (waits : Nat) : State := s.modBmem (fun m => { m with
  conflict := satAdd sat32 m.conflict waits
  winA := if r.portB then m.winA else Tbl.set 12 m.winA r.bank r.master
  winB := if r.portB then Tbl.set 3 m.winB r.bank (r.master - 13) else m.winB })

theorem BankReq.bank_lt (r : BankReq) : r.bank < 64 := Nat.mod_lt _ (by decide)

theorem banksOf_one (r : BankReq) : banksOf [r] = [r.bank] := by
  have hb := r.bank_lt
  generalize hbank : r.bank = b at hb
  have : banksOf [r] = (List.range 64).filter (fun c => b == c) := by simp [banksOf, hbank]
  rw [this]
  clear this hbank
  revert b
  decide

theorem State.bankWin_one (s : State) (r : BankReq) :
    s.bankWinA [r] r.bank = (if r.portB then none else some r) ∧ s.bankWinB [r] r.bank = (if r.portB then some r else none) := by
  cases h : r.portB <;> simp [State.bankWinA, State.bankWinB, portWinner, h]

theorem State.bankCycle_one (s : State) (r : BankReq) (cyc : Nat) :
    s.bankCycle [r] r.bank cyc = (s.bankGrant r 0).bankDo (s.bankGrant r 0) r := by
  obtain ⟨ha, hb⟩ := s.bankWin_one r
  unfold State.bankCycle
  rw [ha, hb]
  cases h : r.portB <;> simp [h, State.bankBoth, State.bankGrant, b2n]

/-- What a lone request has left after its cycle. -/
def State.bankRest (s : State) (r : BankReq) : List BankReq := (r.rest ((List.range r.part).map (fun i => s.bankByte (r.off + i)))).toList

theorem State.bankLeft_one (s : State) (r : BankReq) : s.bankLeft [r] = s.bankRest r := by
  obtain ⟨ha, hb⟩ := s.bankWin_one r
  unfold State.bankLeft State.bankRest
  rw [banksOf_one, List.flatMap_singleton, ha, hb]
  cases r.portB <;> cases hrest : r.rest ((List.range r.part).map (fun i => s.bankByte (r.off + i))) <;> simp [hrest]

theorem State.bankRun_one (s : State) (r : BankReq) (cyc n : Nat) :
    s.bankRun cyc [r] (n + 1) = ((s.bankGrant r 0).bankDo (s.bankGrant r 0) r).bankRun (cyc + 1) (s.bankRest r) n := by
  rw [State.bankRun, if_neg (by simp), banksOf_one, s.bankLeft_one]
  show (s.bankCycle [r] r.bank cyc).bankRun _ _ _ = _
  rw [s.bankCycle_one]

theorem State.bankRun_nil (s : State) (cyc n : Nat) : s.bankRun cyc [] n = s := by
  cases n with
  | zero => rfl
  | succ n => rw [State.bankRun, if_pos rfl]

end

end Sys2Proof.Machine
end

section
/-! Proofs of the statement of the family 15_memory_and_queues.md on memory units: one bank access alone, word by word (15 R310). -/

namespace Sys2Proof.Machine

-- In one thread: the whole text is compiled near its memory limit.
set_option Elab.async false

theorem setBytes_append (s : State) (a : Nat) (l m : List Byte) :
    s.setBytes a (l ++ m) = (s.setBytes a l).setBytes (a + l.length) m := by
  induction l generalizing s a with
  | nil => rfl
  | cons b l ih =>
    refine (ih (s.setByte a b) (a + 1)).trans ?_
    rw [List.length_cons, show a + 1 + l.length = a + (l.length + 1) by omega]
    rfl

theorem setBytes_byte_congr {s t : State} (h : ∀ k, s.byte k = t.byte k) (a : Nat) (l : List Byte) (k : Nat) :
    (s.setBytes a l).byte k = (t.setBytes a l).byte k := by
  rw [State.setBytes_byte, State.setBytes_byte, h k]

section
variable {s t u : State} {r : BankReq} {off k cyc n : Nat} {d : List Byte}

/-! ### A write -/

/-- The bytes `d` stand at an offset of bank memory: in memory past the queue table, in descriptors in it. -/
structure State.BankWritten (s t : State) (off : Nat) (d : List Byte) : Prop where
  high : 0x1000000 ≤ off → (∀ a, t.byte a = (s.setBytes (bankBase + off) d).byte a) ∧ t.queues = s.queues
  low : off + d.length ≤ 0x1000000 → t.mem = s.mem ∧ ∀ q, (16 * (q + 1) ≤ off ∨ off + d.length ≤ 16 * q) → t.queue q = s.queue q
  conflict : t.bmem.conflict = min sat32 s.bmem.conflict
  only : Only [.bmem, .mem, .queues] s t

theorem State.BankWritten.trans (h : s.BankWritten t off (d.take k)) (hk : k ≤ d.length)
    (h' : t.BankWritten u (off + k) (d.drop k)) : s.BankWritten u off d := by
  have hlen : (d.take k).length = k := List.length_take_of_le hk
  have hdrop : (d.drop k).length = d.length - k := List.length_drop
  refine ⟨fun hoff => ?_, fun hoff => ?_, ?_, h.only.trans h'.only⟩
  · obtain ⟨hbyte, hqueue⟩ := h.high hoff
    obtain ⟨hbyte', hqueue'⟩ := h'.high (by omega)
    refine ⟨fun a => ?_, hqueue'.trans hqueue⟩
    rw [hbyte' a, setBytes_byte_congr hbyte, ← Nat.add_assoc]
    conv_rhs => rw [← List.take_append_drop k d, setBytes_append, hlen]
  · obtain ⟨hmem, hqueue⟩ := h.low (by omega)
    obtain ⟨hmem', hqueue'⟩ := h'.low (by omega)
    exact ⟨hmem'.trans hmem, fun q hq => (hqueue' q (by omega)).trans (hqueue q (by omega))⟩
  · rw [h'.conflict, h.conflict, ← Nat.min_assoc, Nat.min_self]

theorem State.bankGrant_only (s : State) (r : BankReq) (waits : Nat) : Only [.bmem] s (s.bankGrant r waits) := s.modBmem_only _

theorem State.bankDo_written (h : s.bmem.active = false) (hd : r.data = some d) :
    s.BankWritten ((s.bankGrant r 0).bankDo (s.bankGrant r 0) r) r.off (d.take r.part) := by
  have hg := s.bankGrant_only r 0
  have hset := (s.bankGrant r 0).setBankBytes_only r.off (d.take r.part)
  rw [State.bankDo_write (s := s.bankGrant r 0) h hd]
  refine ⟨fun hoff => ?_, fun hoff => ?_, ?_, hg.comp hset⟩
  · rw [State.setBankBytes_high _ hoff]
    exact ⟨setBytes_byte_congr (fun k => hg.byte (by decide) k) _ _, State.setBytes_queues ..⟩
  · obtain ⟨hlow, hkeep⟩ := (s.bankGrant r 0).setBankBytes_low hoff
    exact ⟨(hlow .mem (by decide)).1, fun q hq => hkeep q hq⟩
  · exact congrArg Bmem.conflict (hset .bmem (by decide))

theorem BankReq.span_data (hd : r.data = some d) : r.span = d.length := by
  rw [BankReq.span, hd]

/-- The bytes of a word access are some, and lie within the word and the span. -/
theorem BankReq.part_spec (hspan : 1 ≤ r.span) : 1 ≤ r.part ∧ r.part ≤ r.span ∧ r.off % 32 + r.part ≤ 32
    ∧ (¬ r.span ≤ r.part → (r.off + r.part) % 32 = 0 ∧ r.off % 32 + r.part = 32) := by
  unfold BankReq.part
  omega

/-- A write alone is served word by word until all its bytes stand. -/
theorem State.bankRun_written (h : s.bmem.active = false) (hd : r.data = some d) (hlen : 1 ≤ d.length)
    (hn : r.off % 32 + d.length ≤ 32 * n) : s.BankWritten (s.bankRun cyc [r] n) r.off d := by
  induction n generalizing s r d cyc with
  | zero => omega
  | succ n ih =>
    have hspan := BankReq.span_data hd
    obtain ⟨_, hle, hword, hfull⟩ := BankReq.part_spec (r := r) (by omega)
    have hone := State.bankDo_written h hd
    rw [State.bankRun_one, State.bankRest, BankReq.rest]
    by_cases hlast : r.span ≤ r.part
    · rw [if_pos hlast, Option.toList_none, State.bankRun_nil]
      rwa [List.take_of_length_le (by omega)] at hone
    · obtain ⟨halign, _⟩ := hfull hlast
      rw [if_neg hlast, Option.toList_some]
      refine hone.trans (by omega) (ih ?_ (by simp [hd]) ?_ ?_)
      · rw [State.bankDo_write (s := s.bankGrant r 0) h hd]
        exact (congrArg Bmem.active ((s.bankGrant r 0).setBankBytes_only r.off (d.take r.part) .bmem (by decide))).trans h
      · rw [List.length_drop]
        omega
      · show (r.off + r.part) % 32 + (d.drop r.part).length ≤ 32 * n
        rw [List.length_drop]
        omega

/-! ### A read -/

/-- A master is answered with the bytes `l`. -/
structure State.BankAnswered (s t : State) (m : Nat) (l : List Byte) : Prop where
  outs : t.outs = .bank m l :: s.outs
  conflict : t.bmem.conflict = min sat32 s.bmem.conflict
  only : Only [.bmem, .outs] s t

/-- The bytes of bank memory in a span. -/
def State.bankBytes (s : State) (off n : Nat) : List Byte := (List.range n).map (fun i => s.bankByte (off + i))

theorem State.bankBytes_add (s : State) (off m n : Nat) : s.bankBytes off (m + n) = s.bankBytes off m ++ s.bankBytes (off + m) n := by
  simp [State.bankBytes, List.range_add, Nat.add_assoc]

theorem State.bankGrant_bankBytes (s : State) (r : BankReq) (w off n : Nat) : (s.bankGrant r w).bankBytes off n = s.bankBytes off n := rfl

theorem State.bankRun_answered (h : s.bmem.active = false) (hd : r.data = none) (hlen : 1 ≤ r.len)
    (hn : r.off % 32 + r.len ≤ 32 * n) :
    s.BankAnswered (s.bankRun cyc [r] n) r.master (r.got ++ s.bankBytes r.off r.len) := by
  induction n generalizing s r cyc with
  | zero => omega
  | succ n ih =>
    have hspan : r.span = r.len := by rw [BankReq.span, hd]
    obtain ⟨_, hle, hword, hfull⟩ := BankReq.part_spec (r := r) (by omega)
    rw [State.bankRun_one, State.bankRest, BankReq.rest, State.bankDo_read (s := s.bankGrant r 0) h hd]
    have hg := s.bankGrant_only r 0
    by_cases hlast : r.span ≤ r.part
    · rw [if_pos hlast, if_pos hlast, Option.toList_none, State.bankRun_nil]
      have hpart : r.part = r.len := by omega
      rw [hpart]
      exact ⟨rfl, rfl, hg.comp ((s.bankGrant r 0).emit_only _)⟩
    · obtain ⟨halign, _⟩ := hfull hlast
      rw [if_neg hlast, if_neg hlast, Option.toList_some]
      have hrest := ih (s := s.bankGrant r 0) (cyc := cyc + 1) (r := { r with off := r.off + r.part, len := r.len - r.part, data := r.data.map (·.drop r.part), got := r.got ++ s.bankBytes r.off r.part })
        h (by simp [hd]) (by dsimp only; omega) (by dsimp only; omega)
      obtain ⟨houts, hconf, honly⟩ := hrest
      refine ⟨?_, ?_, (hg.mono (by decide)).trans honly⟩
      · rw [List.append_assoc, s.bankGrant_bankBytes, ← s.bankBytes_add, Nat.add_sub_cancel' (by omega)] at houts
        exact houts
      · refine hconf.trans ?_
        show min sat32 (min sat32 s.bmem.conflict) = _
        rw [← Nat.min_assoc, Nat.min_self]

end

end Sys2Proof.Machine
end

section
/-! Proofs of the statement of the family 15_memory_and_queues.md on memory units: bank accesses (15 R308 to R310). -/

namespace Sys2Proof.Machine

-- In one thread: the whole text is compiled near its memory limit.
set_option Elab.async false

section
variable {s : State} {l : List BankReq}

theorem exec_bankAccess (hok : l.all BankReq.ok = true) (hon : s.stage = .on) (hclear : s.glb.bmemClear = true) :
    exec (.bankAccess l) s = .next (s.bankRun 0 l ((l.map (fun r => r.span / 32 + 2)).sum)) := by
  show onUnit _ _ = _
  rw [onUnit_of _ _ hok, State.bankAccess, if_neg (by simp [hon, hclear])]

theorem BankReq.ok_spec {r : BankReq} (h : r.ok = true) : 1 ≤ r.span ∧ r.got = [] := by
  simp only [BankReq.ok, Bool.and_eq_true, decide_eq_true_eq, List.isEmpty_iff] at h
  obtain ⟨⟨⟨⟨hspan, _⟩, _⟩, _⟩, hgot⟩ := h
  exact ⟨hspan, hgot⟩

theorem State.bankBytes_high (s : State) {off : Nat} (h : 0x1000000 ≤ off) (n : Nat) :
    s.bankBytes off n = s.bytes (bankBase + off) n := by
  refine List.map_congr_left (fun i _ => ?_)
  rw [State.bankByte_high s (by omega), Nat.add_assoc]

/-- A queue's descriptor read through its bytes of the queue table. -/
theorem State.bankBytes_descriptor (s : State) {q i : Nat} (hq : q < 2 ^ 20) (hi : i < 16) :
    (s.bankBytes (16 * q) 16).getD i 0 = BitVec.ofNat 8 ((s.queue q).word >>> (8 * i)) := by
  have hbyte : s.bankByte (16 * q + i) = BitVec.ofNat 8 ((s.queue q).word >>> (8 * i)) := by
    rw [State.bankByte, if_pos (by omega), show (16 * q + i) / 16 = q by omega, show (16 * q + i) % 16 = i by omega]
  rw [← hbyte]
  simp [State.bankBytes, List.getD_eq_getElem?_getD, hi]

theorem exec_bankAccess_write {r : BankReq} {d : List Byte} (hok : r.ok = true) (hon : s.stage = .on) (hclear : s.glb.bmemClear = true)
    (hidle : s.bmem.active = false) (hd : r.data = some d) : ∃ t : State, exec (.bankAccess [r]) s = .next t ∧ s.BankWritten t r.off d := by
  obtain ⟨hspan, _⟩ := BankReq.ok_spec hok
  have hlen := BankReq.span_data hd
  refine ⟨_, exec_bankAccess (by simp [hok]) hon hclear, State.bankRun_written hidle hd (by omega) ?_⟩
  simp only [List.map_cons, List.map_nil, List.sum_cons, List.sum_nil]
  omega

theorem exec_bankAccess_read {r : BankReq} (hok : r.ok = true) (hon : s.stage = .on) (hclear : s.glb.bmemClear = true)
    (hidle : s.bmem.active = false) (hd : r.data = none) :
    ∃ t : State, exec (.bankAccess [r]) s = .next t ∧ s.BankAnswered t r.master (s.bankBytes r.off r.span) := by
  obtain ⟨hspan, hgot⟩ := BankReq.ok_spec hok
  have hlen : r.span = r.len := by rw [BankReq.span, hd]
  have hrun := State.bankRun_answered (s := s) (r := r) (cyc := 0) (n := ([r].map (fun r => r.span / 32 + 2)).sum) hidle hd (by omega) (by
    simp only [List.map_cons, List.map_nil, List.sum_cons, List.sum_nil]
    omega)
  rw [hgot, List.nil_append, ← hlen] at hrun
  exact ⟨_, exec_bankAccess (by simp [hok]) hon hclear, hrun⟩

/-- One request: a served write stores its bytes, a served read answers the bytes it holds. -/
theorem exec_bankAccess_one {r : BankReq} (hok : r.ok = true) (hon : s.stage = .on) (hclear : s.glb.bmemClear = true)
    (hidle : s.bmem.active = false) : ∃ t : State, exec (.bankAccess [r]) s = .next t
      ∧ (∀ d, r.data = some d → 0x1000000 ≤ r.off → (∀ i, i < d.length → t.byte (bankBase + r.off + i) = d.getD i 0)
          ∧ (∀ a, (a < bankBase + r.off ∨ bankBase + r.off + d.length ≤ a) → t.byte a = s.byte a) ∧ t.queues = s.queues)
      ∧ (∀ d, r.data = some d → r.off + d.length ≤ 0x1000000 → t.mem = s.mem
          ∧ (∀ q, (16 * (q + 1) ≤ r.off ∨ r.off + d.length ≤ 16 * q) → t.queue q = s.queue q))
      ∧ (r.data.isSome = true → t.outs = s.outs)
      ∧ (r.data = none → t.mem = s.mem ∧ t.queues = s.queues ∧ ∃ l, t.outs = .bank r.master l :: s.outs ∧ l.length = r.span
          ∧ (0x1000000 ≤ r.off → l = s.bytes (bankBase + r.off) r.span)
          ∧ (∀ q, r.off = 16 * q → r.span = 16 → q < 2 ^ 20 → ∀ i, i < 16 → l.getD i 0 = BitVec.ofNat 8 ((s.queue q).word >>> (8 * i))))
      ∧ t.bmem.conflict = min (2 ^ 32 - 1) s.bmem.conflict ∧ Only [.bmem, .mem, .outs, .queues] s t := by
  cases hd : r.data with
  | some d =>
    obtain ⟨t, hexec, hhigh, hlow, hconf, honly⟩ := exec_bankAccess_write hok hon hclear hidle hd
    refine ⟨t, hexec, fun d' hd' hoff => ?_, fun d' hd' hoff => ?_, fun _ => honly .outs (by decide), fun h => by simp at h, hconf,
      honly.mono (by decide)⟩
    · obtain rfl := Option.some.inj hd'
      obtain ⟨hbyte, hqueues⟩ := hhigh hoff
      exact ⟨fun i hi => (hbyte _).trans (State.setBytes_byte_add s hi), fun a ha => (hbyte a).trans (State.setBytes_byte_outside s ha), hqueues⟩
    · obtain rfl := Option.some.inj hd'
      exact hlow hoff
  | none =>
    obtain ⟨t, hexec, houts, hconf, honly⟩ := exec_bankAccess_read hok hon hclear hidle hd
    refine ⟨t, hexec, fun _ h => by simp at h, fun _ h => by simp at h, fun h => by simp at h, fun _ => ⟨(honly .mem (by decide)).1,
      honly .queues (by decide), _, houts, by simp [State.bankBytes], fun hoff => s.bankBytes_high hoff _, fun q hoff hspan hq i hi => ?_⟩,
      hconf, honly.mono (by decide)⟩
    rw [hoff, hspan]
    exact s.bankBytes_descriptor hq hi

/-! ### Two requests at one bank -/

section
variable {x y : BankReq}

theorem banksOf_two (hbank : x.bank = y.bank) : banksOf [x, y] = [x.bank] := by
  have h : banksOf [x, y] = banksOf [x] := by simp [banksOf, hbank]
  rw [h, banksOf_one]

theorem State.bankRun_two (hbank : x.bank = y.bank) (cyc n : Nat) :
    s.bankRun cyc [x, y] (n + 1) = (s.bankCycle [x, y] x.bank cyc).bankRun (cyc + 1) (s.bankLeft [x, y]) n := by
  rw [State.bankRun, if_neg (by simp), banksOf_two hbank]
  rfl

/-- A request of one word access leaves nothing to access. -/
theorem BankReq.part_word {r : BankReq} (hspan : r.off % 32 + r.span ≤ 32) : BankReq.part r = r.span := by
  unfold BankReq.part
  omega

theorem BankReq.rest_word {r : BankReq} (hword : r.off % 32 + r.span ≤ 32) (l : List Byte) : r.rest l = none := by
  rw [BankReq.rest, if_pos (BankReq.part_word hword).ge]

/-- Writers of both ports at one bank are both served, the token holder first. -/
theorem State.bankCycle_ports (hbank : x.bank = y.bank) (hx : x.portB = false) (hy : y.portB = true) :
    s.bankWinA [x, y] x.bank = some x ∧ s.bankWinB [x, y] x.bank = some y := by
  simp [State.bankWinA, State.bankWinB, portWinner, hx, hy, hbank]

/-- Requesters of port A at one bank: the first in ring order behind the last winner is served. -/
theorem State.bankWin_ring (hbank : x.bank = y.bank) (hx : x.portB = false) (hy : y.portB = false) :
    s.bankWinA [x, y] x.bank = some (if ringDist 13 (Tbl.get 12 s.bmem.winA x.bank) x.master
        ≤ ringDist 13 (Tbl.get 12 s.bmem.winA x.bank) y.master then x else y)
      ∧ s.bankWinB [x, y] x.bank = none := by
  have hmx : x.master % 13 = x.master := Nat.mod_eq_of_lt (by simpa [BankReq.portB] using hx)
  have hmy : y.master % 13 = y.master := Nat.mod_eq_of_lt (by simpa [BankReq.portB] using hy)
  simp [State.bankWinA, State.bankWinB, portWinner, hx, hy, hbank, hmx, hmy, apply_ite some]

/-- What a request that is served leaves of two requests for words of one bank. -/
theorem State.bankLeft_words (hbank : x.bank = y.bank) (hx : x.off % 32 + x.span ≤ 32) (hy : y.off % 32 + y.span ≤ 32) :
    s.bankLeft [x, y] = [x, y].filter (fun r => !((s.bankWinA [x, y] x.bank).toList ++ (s.bankWinB [x, y] x.bank).toList).contains r) := by
  unfold State.bankLeft
  rw [banksOf_two hbank, List.flatMap_singleton]
  generalize (s.bankWinA [x, y] x.bank).toList ++ (s.bankWinB [x, y] x.bank).toList = won
  dsimp only
  cases hwx : won.contains x <;> cases hwy : won.contains y <;>
    simp only [List.filterMap_cons, List.filterMap_nil, List.filter_cons, List.filter_nil, hwx, hwy, BankReq.rest_word hx, BankReq.rest_word hy] <;> rfl

/-- Two writers of the same bytes from both ports: both stand, the token holder's first, and the clash counts. -/
theorem State.bankBoth_clash {dx dy : List Byte} (hidle : s.bmem.active = false) (hoff : x.off = y.off) (hhigh : 0x1000000 ≤ x.off)
    (hdx : x.data = some dx) (hdy : y.data = some dy) (hne : dx ≠ dy) (hlen : dx.length = dy.length) (hword : x.off % 32 + dx.length ≤ 32)
    (bank cyc : Nat) : s.bankBoth (some x) (some y) bank cyc
      = ((s.setBytes (bankBase + x.off) (if s.tokenA bank cyc then dx else dy)).setBytes (bankBase + x.off)
          (if s.tokenA bank cyc then dy else dx)).modBmem (fun m => { m with collide := satAdd sat32 m.collide 1 }) := by
  have hpx : dx.take x.part = dx := List.take_of_length_le (by
    have hspan := BankReq.span_data hdx
    rw [BankReq.part_word (by omega)]
    omega)
  have hpy : dy.take y.part = dy := List.take_of_length_le (by
    have hspan := BankReq.span_data hdy
    rw [BankReq.part_word (by omega)]
    omega)
  have hfirst : ∀ r : BankReq, r.off = x.off → ∀ d, r.data = some d → d.take r.part = d → ∀ (t old : State), t.bmem.active = false →
      t.bankDo old r = t.setBytes (bankBase + x.off) d := fun r hr d hd htake t old ht => by
    rw [State.bankDo_write ht hd, htake, hr, t.setBankBytes_high hhigh]
  have hbusy : ∀ d, (s.setBytes (bankBase + x.off) d).bmem.active = false := fun d => by rw [State.setBytes_bmem, hidle]
  have hclash : (x.off / 32 == y.off / 32 && x.data.isSome && y.data.isSome
      && !((x.data.map (·.take x.part)) == (y.data.map (·.take y.part)) && x.off == y.off)) = true := by
    simp [hoff, hdx, hdy, hpx, hpy, hne]
  unfold State.bankBoth
  dsimp only
  rw [if_pos hclash]
  cases s.tokenA bank cyc with
  | true =>
    simp only [if_true]
    rw [hfirst x rfl dx hdx hpx s s hidle, hfirst y hoff.symm dy hdy hpy _ s (hbusy dx)]
  | false =>
    simp only [Bool.false_eq_true, if_false]
    rw [hfirst y hoff.symm dy hdy hpy s s hidle, hfirst x rfl dx hdx hpx _ s (hbusy dy)]

theorem State.bankCycle_clash (hbank : x.bank = y.bank) (hx : x.portB = false) (hy : y.portB = true) (cyc : Nat) :
    ∃ f : Bmem → Bmem, (∀ m, (f m).collide = m.collide ∧ (f m).active = m.active)
      ∧ s.bankCycle [x, y] x.bank cyc = (s.modBmem f).bankBoth (some x) (some y) x.bank cyc := by
  obtain ⟨ha, hb⟩ := s.bankCycle_ports hbank hx hy
  unfold State.bankCycle
  rw [ha, hb]
  refine ⟨_, ?_, rfl⟩
  exact fun _ => ⟨rfl, rfl⟩

/-- Writers of both ports to the same bytes: the token holder writes first, and the clash counts. -/
theorem exec_bankAccess_clash {dx dy : List Byte} (hon : s.stage = .on) (hclear : s.glb.bmemClear = true) (hidle : s.bmem.active = false)
    (hxok : x.ok = true) (hyok : y.ok = true) (hx : x.portB = false) (hy : y.portB = true) (hoff : x.off = y.off) (hhigh : 0x1000000 ≤ x.off)
    (hdx : x.data = some dx) (hdy : y.data = some dy) (hne : dx ≠ dy) (hlen : dx.length = dy.length) (hword : x.off % 32 + dx.length ≤ 32) :
    ∃ t : State, exec (.bankAccess [x, y]) s = .next t ∧ t.bmem.collide = min (2 ^ 32 - 1) (s.bmem.collide + 1)
      ∧ (∀ i, i < dx.length → t.byte (bankBase + x.off + i) = (if s.tokenA x.bank then dy else dx).getD i 0)
      ∧ (∀ a, (a < bankBase + x.off ∨ bankBase + x.off + dx.length ≤ a) → t.byte a = s.byte a) ∧ Only [.bmem, .mem] s t := by
  have hbank : x.bank = y.bank := by rw [BankReq.bank, BankReq.bank, hoff]
  have hspanx := BankReq.span_data hdx
  have hspany := BankReq.span_data hdy
  obtain ⟨hwa, hwb⟩ := s.bankCycle_ports hbank hx hy
  have hleft : s.bankLeft [x, y] = [] := by
    rw [State.bankLeft_words hbank (by omega) (by omega), hwa, hwb]
    simp
  obtain ⟨f, hf, hcycle⟩ := State.bankCycle_clash (s := s) hbank hx hy 0
  have hidle' : (s.modBmem f).bmem.active = false := (hf s.bmem).2.trans hidle
  have hrun : s.bankRun 0 [x, y] (([x, y].map (fun r => r.span / 32 + 2)).sum) = (s.modBmem f).bankBoth (some x) (some y) x.bank 0 := by
    rw [show ([x, y].map (fun r => r.span / 32 + 2)).sum = (x.span / 32 + y.span / 32 + 3) + 1 by simp; omega,
      State.bankRun_two hbank, hleft, State.bankRun_nil, hcycle]
  rw [State.bankBoth_clash hidle' hoff hhigh hdx hdy hne hlen hword] at hrun
  have htoken : (s.modBmem f).tokenA x.bank 0 = s.tokenA x.bank := rfl
  rw [htoken] at hrun
  have hl2 : (if s.tokenA x.bank then dy else dx).length = dx.length := by split <;> omega
  have hl1 : (if s.tokenA x.bank then dx else dy).length = dx.length := by split <;> omega
  refine ⟨_, (exec_bankAccess (by simp [hxok, hyok]) hon hclear).trans (congrArg _ hrun), ?_, fun i hi => ?_, fun a ha => ?_, ?_⟩
  · rw [State.modBmem_bmem, State.setBytes_bmem, State.setBytes_bmem, State.modBmem_bmem]
    exact congrArg (fun c => min sat32 (c + 1)) (hf s.bmem).1
  · exact State.setBytes_byte_add _ (by omega)
  · refine (State.setBytes_byte_outside _ (by omega)).trans ((State.setBytes_byte_outside _ (by omega)).trans rfl)
  · exact (((s.modBmem_only f).comp (State.setBytes_only _ _ _) (n := [.bmem, .mem])).comp (State.setBytes_only _ _ _)
      (n := [.bmem, .mem])).comp (State.modBmem_only _ _)

/-! ### Two readers of one port -/

theorem State.bankCycle_ring {w : BankReq} (ha : s.bankWinA [x, y] x.bank = some w) (hb : s.bankWinB [x, y] x.bank = none)
    (hbank : x.bank = y.bank) (hx : x.portB = false) (hy : y.portB = false) (hw : w.portB = false) (hwb : w.bank = x.bank) (cyc : Nat) :
    s.bankCycle [x, y] x.bank cyc = (s.bankGrant w 1).bankDo (s.bankGrant w 1) w := by
  unfold State.bankCycle
  rw [ha, hb]
  simp [hx, hy, hbank, State.bankBoth, State.bankGrant, b2n, hw, hwb]

/-- A reader served in one word access is answered at once. -/
theorem State.bankDo_answer {w : BankReq} {waits : Nat} (hidle : s.bmem.active = false) (hd : w.data = none) (hgot : w.got = [])
    (hword : w.off % 32 + w.span ≤ 32) (hhigh : 0x1000000 ≤ w.off) :
    (s.bankGrant w waits).bankDo (s.bankGrant w waits) w
      = (s.bankGrant w waits).emit (.bank w.master (s.bytes (bankBase + w.off) w.len)) := by
  have hpart := BankReq.part_word hword
  have hlen : w.span = w.len := by rw [BankReq.span, hd]
  rw [State.bankDo_read (s := s.bankGrant w waits) hidle hd, if_pos hpart.ge, hgot, List.nil_append, hpart, hlen, ← s.bankBytes_high hhigh]
  rfl

/-- Two readers of a bank answered one after the other, the second once the first has waited for none. -/
def State.bankAnswers (s : State) (w z : BankReq) : State :=
  (((s.bankGrant w 1).emit (.bank w.master (s.bytes (bankBase + w.off) w.len))).bankGrant z 0).emit
    (.bank z.master (s.bytes (bankBase + z.off) z.len))

theorem State.bankAnswers_spec (s : State) {w z : BankReq} (hz : z.portB = false) :
    (s.bankAnswers w z).mem = s.mem ∧ (s.bankAnswers w z).bmem.conflict = min sat32 (s.bmem.conflict + 1)
      ∧ Tbl.get 12 (s.bankAnswers w z).bmem.winA z.bank = z.master
      ∧ (s.bankAnswers w z).outs
        = .bank z.master (s.bytes (bankBase + z.off) z.len) :: .bank w.master (s.bytes (bankBase + w.off) w.len) :: s.outs
      ∧ Only [.bmem, .outs] s (s.bankAnswers w z) := by
  refine ⟨?_, ?_, ?_, ?_, ?_⟩
  · simp only [State.bankAnswers, State.bankGrant, State.emit_mem, State.modBmem_mem]
  · show min sat32 (min sat32 (s.bmem.conflict + 1)) = _
    rw [← Nat.min_assoc, Nat.min_self]
  · show Tbl.get 12 (if z.portB then _ else _) z.bank = z.master
    rw [hz]
    exact Tbl.get_set_same ..
  · simp only [State.bankAnswers, State.bankGrant, State.emit_outs, State.modBmem_outs]
  · unfold State.bankAnswers
    exact (((s.bankGrant_only w 1).comp (State.emit_only _ _) (n := [.bmem, .outs])).comp (State.bankGrant_only _ z 0)
      (n := [.bmem, .outs])).comp (State.emit_only _ _)

theorem State.bankRun_answers {w z : BankReq} {cyc n : Nat} (hidle : s.bmem.active = false) (hz : z.data = none) (hgot : z.got = [])
    (hword : z.off % 32 + z.span ≤ 32) (hhigh : 0x1000000 ≤ z.off) :
    ((s.bankGrant w 1).emit (.bank w.master (s.bytes (bankBase + w.off) w.len))).bankRun cyc [z] (n + 1) = s.bankAnswers w z := by
  rw [State.bankRun_one, State.bankRest, BankReq.rest_word hword, Option.toList_none, State.bankRun_nil,
    State.bankDo_answer (s := (s.bankGrant w 1).emit (.bank w.master (s.bytes (bankBase + w.off) w.len))) hidle hz hgot hword hhigh]
  rfl

/-- Two readers of port A: the first in ring order is answered first, the other in the next cycle; the wait counts. -/
theorem exec_bankAccess_ring (hon : s.stage = .on) (hclear : s.glb.bmemClear = true) (hidle : s.bmem.active = false)
    (hxok : x.ok = true) (hyok : y.ok = true) (hx : x.portB = false) (hy : y.portB = false) (hbank : x.bank = y.bank)
    (hdx : x.data = none) (hdy : y.data = none) (hhx : 0x1000000 ≤ x.off) (hhy : 0x1000000 ≤ y.off)
    (hwx : x.off % 32 + x.len ≤ 32) (hwy : y.off % 32 + y.len ≤ 32) :
    ∃ t : State, exec (.bankAccess [x, y]) s = .next t ∧ t.mem = s.mem ∧ t.bmem.conflict = min (2 ^ 32 - 1) (s.bmem.conflict + 1)
      ∧ (ringDist 13 (Tbl.get 12 s.bmem.winA x.bank) x.master < ringDist 13 (Tbl.get 12 s.bmem.winA x.bank) y.master →
          Tbl.get 12 t.bmem.winA x.bank = y.master
          ∧ t.outs = .bank y.master (s.bytes (bankBase + y.off) y.len) :: .bank x.master (s.bytes (bankBase + x.off) x.len) :: s.outs)
      ∧ (ringDist 13 (Tbl.get 12 s.bmem.winA x.bank) y.master < ringDist 13 (Tbl.get 12 s.bmem.winA x.bank) x.master →
          Tbl.get 12 t.bmem.winA x.bank = x.master
          ∧ t.outs = .bank x.master (s.bytes (bankBase + x.off) x.len) :: .bank y.master (s.bytes (bankBase + y.off) y.len) :: s.outs)
      ∧ Only [.bmem, .outs] s t := by
  have hsx : x.off % 32 + x.span ≤ 32 := by rw [BankReq.span, hdx]; exact hwx
  have hsy : y.off % 32 + y.span ≤ 32 := by rw [BankReq.span, hdy]; exact hwy
  have hgx := (BankReq.ok_spec hxok).2
  have hgy := (BankReq.ok_spec hyok).2
  obtain ⟨hwa, hwb⟩ := s.bankWin_ring hbank hx hy
  have hexec := exec_bankAccess (s := s) (l := [x, y]) (by simp [hxok, hyok]) hon hclear
  rw [show ([x, y].map (fun r => r.span / 32 + 2)).sum = (x.span / 32 + y.span / 32 + 2) + 1 + 1 by simp; omega,
    State.bankRun_two hbank] at hexec
  have hleft := State.bankLeft_words (s := s) hbank hsx hsy
  rw [hwa, hwb] at hleft
  by_cases hle : ringDist 13 (Tbl.get 12 s.bmem.winA x.bank) x.master ≤ ringDist 13 (Tbl.get 12 s.bmem.winA x.bank) y.master
  · rw [if_pos hle] at hwa hleft
    rw [State.bankCycle_ring hwa hwb hbank hx hy hx rfl, State.bankDo_answer hidle hdx hgx hsx hhx] at hexec
    by_cases hxy : y = x
    · have hnone : s.bankLeft [x, y] = [] := by
        rw [hleft]
        simp [hxy]
      rw [hnone, State.bankRun_nil] at hexec
      exact ⟨_, hexec, rfl, rfl, fun h => absurd h (by simp [hxy]), fun h => absurd h (by simp [hxy]),
        (s.bankGrant_only x 1).comp (State.emit_only _ _)⟩
    · have hone : s.bankLeft [x, y] = [y] := by
        rw [hleft]
        simp [hxy]
      rw [hone, State.bankRun_answers hidle hdy hgy hsy hhy] at hexec
      obtain ⟨hmem, hconf, hwin, houts, honly⟩ := s.bankAnswers_spec (w := x) hy
      exact ⟨_, hexec, hmem, hconf, fun _ => ⟨hbank ▸ hwin, houts⟩, fun h => absurd h (by omega), honly⟩
  · rw [if_neg hle] at hwa hleft
    have hxy : x ≠ y := fun h => hle (by rw [h])
    rw [State.bankCycle_ring hwa hwb hbank hx hy hy hbank.symm, State.bankDo_answer hidle hdy hgy hsy hhy] at hexec
    have hone : s.bankLeft [x, y] = [x] := by
      rw [hleft]
      simp [hxy]
    rw [hone, State.bankRun_answers hidle hdx hgx hsx hhx] at hexec
    obtain ⟨hmem, hconf, hwin, houts, honly⟩ := s.bankAnswers_spec (w := y) hx
    exact ⟨_, hexec, hmem, hconf, fun h => absurd h (by omega), fun _ => ⟨hwin, houts⟩, honly⟩

end
end

end Sys2Proof.Machine
end

section
/-! Proofs of the statement of the family 15_memory_and_queues.md on memory units: the statement settled. -/

namespace Sys2Proof.Machine

-- In one thread: the whole text is compiled near its memory limit.
set_option Elab.async false

section
variable {s : State} {r sigs : Nat}

/-- A region's newer slot passes, in the words of the statement. -/
theorem State.newestCode_iff : (s.mcSlots r).newest.any (fun p => slotCheck p.2 (sigs.testBit (2 * r + b2n (s.mcSlots r).newer)) s.sec.mcFloor == 0)
    = true ↔ s.newestCode r sigs = 0 := any_slotCheck ..

theorem State.olderCode_iff : (s.mcSlots r).older.any (fun p => slotCheck p.2 (sigs.testBit (2 * r + b2n (!(s.mcSlots r).newer))) s.sec.mcFloor == 0)
    = true ↔ s.olderCode r sigs = 0 := any_slotCheck ..

end

/-- Settles O47: bank accesses go word by word through one cycle's arbitration, a pass of the tester borrows one region, and each region loader
keeps what the others run. -/
theorem memoryUnitsServeTestAndLoad : Obligations.MemoryUnitsServeTestAndLoad := by
  unfold Obligations.MemoryUnitsServeTestAndLoad
  refine ⟨fun s r hok hon hclear hidle => exec_bankAccess_one hok hon hclear hidle,
    fun s x y dx dy hon hclear hidle hxok hyok hx hy hoff hhigh hdx hdy hne hlen hword =>
      exec_bankAccess_clash hon hclear hidle hxok hyok hx hy hoff hhigh hdx hdy hne hlen hword,
    fun s x y hon hclear hidle hxok hyok hx hy hbank hdx hdy hhx hhy hwx hwy =>
      exec_bankAccess_ring hon hclear hidle hxok hyok hx hy hbank hdx hdy hhx hhy hwx hwy,
    fun s hen hmode hidle hdue => exec_bmemTestRegionStart_spec hen hmode hidle hdue,
    fun s hoff => exec_bmemTestRegionStart_off hoff,
    fun s hactive => ⟨exec_bmemMarchDone_clean hactive, fun o ho hnew hperm => exec_bmemMarchDone_failed hactive ho hnew hperm⟩,
    fun s t0 t1 t2 hon => exec_hbmTempRefresh_spec hon t0 t1 t2,
    fun s i thr served demand bp hi hon => exec_hbmBwWindow_spec hi hon served demand thr bp,
    fun s sigs hon hclear hfw hload => ⟨fun hnew => ?_, fun hold => ?_, fun hstage hnone =>
      exec_mcLoadDone_none hon hclear hfw hload hstage hnone⟩⟩
  · obtain ⟨t, hexec, hloaded, herr, hruns, honly⟩ :=
      exec_mcLoadDone_newest hon hclear hfw hload (fun r hr => State.newestCode_iff.mp (hnew r hr))
    refine ⟨t, hexec, hloaded, herr, fun r hr => ?_, honly⟩
    obtain ⟨hholding, hslot, hfallback, hversion, hcopy, hstores⟩ := hruns r hr
    refine ⟨hholding, hslot, hfallback, fun p hp => ?_⟩
    rw [imageIn_of_mem hp] at hversion hcopy hstores
    exact ⟨hversion, hcopy, fun e _ he => hstores e he⟩
  · obtain ⟨t, hexec, hloaded, herr, hruns, honly⟩ :=
      exec_mcLoadDone_older hon hclear hfw hload (fun r hr h => absurd (State.newestCode_iff.mpr h) (by simp [(hold r hr).1]))
        (fun r hr => State.olderCode_iff.mp (hold r hr).2)
    refine ⟨t, hexec, hloaded, herr, fun r hr => ?_, honly⟩
    obtain ⟨hholding, hslot, hfallback, hversion, hcopy, _⟩ := hruns r hr
    refine ⟨hholding, hslot, hfallback, fun p hp => ?_⟩
    rw [imageIn_of_mem hp] at hversion hcopy
    exact ⟨hversion, hcopy⟩

end Sys2Proof.Machine
end

section
/-! Proofs of the statement of the family 14_calibration.md: temperature evaluation, START, ABORT and the small commands (14 R285, R289, R294,
R295; 09 R194). -/

namespace Sys2Proof.Machine

-- In one thread: the whole text is compiled near its memory limit.
set_option Elab.async false

section
variable {s : State} {r : Nat}

theorem testBit_setBit (w i j : Nat) : (setBit w i).testBit j = (w.testBit j || decide (i = j)) := by
  rw [setBit, Nat.testBit_or, Nat.testBit_two_pow]

theorem testBit_maskOf (l : List Nat) (j : Nat) : (maskOf l).testBit j = l.contains j := by
  have h : ∀ w, (l.foldl setBit w).testBit j = (w.testBit j || l.contains j) := by
    induction l with
    | nil => simp
    | cons i l ih =>
      intro w
      rw [List.foldl_cons, ih, testBit_setBit, Bool.or_assoc, List.contains_cons]
      congr 2
      exact (beq_eq_decide j i ▸ by simp [eq_comm] : decide (i = j) = (j == i))
  rw [maskOf, h, Nat.zero_testBit, Bool.false_or]

theorem mem_clusOfRgn (r k : Nat) : k ∈ clusOfRgn r ↔ k / 6 = r := by
  simp only [clusOfRgn, List.mem_map, List.mem_range]
  constructor
  · rintro ⟨i, hi, rfl⟩
    omega
  · intro h
    exact ⟨k - 6 * r, by omega, by omega⟩

/-! ### A run becomes due (14 R285) -/

/-- What decides whether a run may become due, and which lanes it covers, calibration pages aside. -/
theorem State.calAllowed_only {t : State} {l : List Part} (h : Only l s t) (hl : ∀ p ∈ l, p = .cals ∨ p = .nor) :
    t.calAllowed r = s.calAllowed r ∧ t.rgnLanes r = s.rgnLanes r ∧ t.uptime = s.uptime := by
  have hkeep : Only [.cals, .nor] s t := h.mono (fun p hp => by rcases hl p hp with rfl | rfl <;> decide)
  have hglb : t.glb = s.glb := hkeep .glb (by decide)
  have hstage : t.stage = s.stage := (hkeep .power (by decide)).1
  have hup : t.uptime = s.uptime := (hkeep .time (by decide)).2.1
  refine ⟨?_, ?_, hup⟩
  · simp only [State.calAllowed, State.inSafe, hglb, hstage, hkeep.rgn (by decide), hkeep.hdr (by decide)]
  · simp only [State.rgnLanes, hkeep.hdr (by decide)]

theorem State.calDue_spec (hallowed : s.calAllowed r = true) (hidle : ¬ (1 ≤ (s.cal r).state ∧ (s.cal r).state ≤ 4)) :
    s.calDue r = s.modCal r (fun c => if 1 ≤ c.state ∧ c.state ≤ 4 then c else c.runStart (s.rgnLanes r) s.uptime)
      ∧ (s.calDue r).cal r = (s.cal r).runStart (s.rgnLanes r) s.uptime ∧ Only [.cals] s (s.calDue r) := by
  have heq : s.calDue r = s.modCal r (fun c => if 1 ≤ c.state ∧ c.state ≤ 4 then c else c.runStart (s.rgnLanes r) s.uptime) :=
    if_neg (by simp [hallowed])
  refine ⟨heq, ?_, heq ▸ s.modCal_only r _⟩
  rw [heq, State.modCal_cal, if_pos rfl, if_neg hidle]

/-- The region's record, when its 10 min are over, is written before an evaluation (14 R299). -/
def State.recordDue (s : State) (r : Nat) : State :=
  when (s.nor.owed.contains r && s.recordFree r) (fun t => (t.modNor (fun n => { n with owed := n.owed.erase r })).norWrite r) s

theorem State.recordDue_only : Only [.nor] s (s.recordDue r) :=
  Only.when (fun t => (t.modNor_only _).trans (State.norWrite_only _ r)) _ s

/-- An evaluation 10 ms after the last. -/
theorem exec_calTempEval (hr : r < 4) (hauto : (s.cal r).auto = true) (hstate : (s.cal r).state = 0)
    (hlast : ∀ a, (s.cal r).evalAt = some a → a + 10 * fsMs ≤ s.up) :
    exec (.calTempEval r) s = .next (if ((s.cal r).deltaT : Int) * 1024 ≤ (s.rgnTemp r - (s.cal r).tempRef) * 1000
        ∨ ((s.cal r).deltaT : Int) * 1024 ≤ -(s.rgnTemp r - (s.cal r).tempRef) * 1000
      then ((s.recordDue r).modCal r (fun c => { c with evalAt := some s.up })).calDue r
      else (s.recordDue r).modCal r (fun c => { c with evalAt := some s.up })) := by
  have hdue : (s.cal r).evalAt.all (fun t => decide (t + 10 * fsMs ≤ s.up)) = true := by
    rw [Option.all_eq_true]
    exact fun a ha => decide_eq_true (hlast a ha)
  show onUnit (decide (r < nRgn)) _ = _
  rw [onUnit_of _ _ (decide_eq_true hr)]
  refine congrArg Host.Outcome.next ?_
  unfold State.calEval
  dsimp only
  rw [if_pos ⟨hauto, hdue⟩]
  by_cases hmove : ((s.cal r).deltaT : Int) * 1024 ≤ (s.rgnTemp r - (s.cal r).tempRef) * 1000
      ∨ ((s.cal r).deltaT : Int) * 1024 ≤ -(s.rgnTemp r - (s.cal r).tempRef) * 1000
  · rw [if_pos hmove, if_pos ⟨by simp [hstate], hmove⟩]
    rfl
  · rw [if_neg hmove, if_neg (fun h => hmove h.2)]
    rfl

theorem exec_calTempEval_due (hr : r < 4) (hauto : (s.cal r).auto = true) (hstate : (s.cal r).state = 0)
    (hlast : ∀ a, (s.cal r).evalAt = some a → a + 10 * fsMs ≤ s.up)
    (hmove : ((s.cal r).deltaT : Int) * 1024 ≤ (s.rgnTemp r - (s.cal r).tempRef) * 1000) (hallowed : s.calAllowed r = true) :
    ∃ t : State, exec (.calTempEval r) s = .next t ∧ (t.cal r).state = 1 ∧ (t.cal r).todo = s.rgnLanes r ∧ (t.cal r).failed = false
      ∧ (∀ j, j ≠ r → t.cal j = s.cal j) ∧ Only [.cals, .nor] s t := by
  have hexec := exec_calTempEval hr hauto hstate hlast
  rw [if_pos (.inl hmove)] at hexec
  have hrec := State.recordDue_only (s := s) (r := r)
  have hmark : Only [.cals, .nor] s ((s.recordDue r).modCal r (fun c => { c with evalAt := some s.up })) :=
    hrec.comp (State.modCal_only _ r _)
  have hcal : ∀ j, ((s.recordDue r).modCal r (fun c => { c with evalAt := some s.up })).cal j
      = if j = r then { s.cal j with evalAt := some s.up } else s.cal j := fun j => by
    rw [State.modCal_cal, hrec.cal (by decide)]
  generalize (s.recordDue r).modCal r (fun c => { c with evalAt := some s.up }) = u at hexec hmark hcal
  obtain ⟨hall, hlanes, hup⟩ := State.calAllowed_only (r := r) hmark (by decide)
  have hcalr := hcal r
  rw [if_pos rfl] at hcalr
  obtain ⟨heq, hrun, honly⟩ := State.calDue_spec (s := u) (r := r) (hall.trans hallowed) (by rw [hcalr, hstate]; decide)
  rw [hlanes] at hrun
  refine ⟨_, hexec, ?_, ?_, ?_, fun j hj => ?_, hmark.comp honly⟩
  · rw [hrun, Cal.runStart]
  · rw [hrun, Cal.runStart]
  · rw [hrun, Cal.runStart]
  · rw [heq, State.modCal_cal, if_neg hj, hcal, if_neg hj]

theorem exec_calTempEval_steady (hr : r < 4) (hauto : (s.cal r).auto = true) (hstate : (s.cal r).state = 0)
    (hlast : ∀ a, (s.cal r).evalAt = some a → a + 10 * fsMs ≤ s.up) (howed : s.nor.owed.contains r = false)
    (hlow : -((s.cal r).deltaT : Int) * 1024 < (s.rgnTemp r - (s.cal r).tempRef) * 1000)
    (hhigh : (s.rgnTemp r - (s.cal r).tempRef) * 1000 < ((s.cal r).deltaT : Int) * 1024) :
    exec (.calTempEval r) s = .next (s.modCal r (fun c => { c with evalAt := some s.up })) := by
  have hexec := exec_calTempEval hr hauto hstate hlast
  have hrec : s.recordDue r = s := by
    rw [State.recordDue, howed]
    rfl
  rw [if_neg (by omega), hrec] at hexec
  exact hexec

/-! ### START and ABORT -/

/-- CAL_CTRL as it is written with one command bit, the other fields as they stand. -/
def Cal.ctrl (c : Cal) (m : Nat) : Nat := m + 2 * b2n c.auto + 4 * b2n c.refplane

theorem Cal.ctrl_bits (c : Cal) : bit (c.ctrl 1) 0 = true ∧ bit (c.ctrl 1) 1 = c.auto ∧ bit (c.ctrl 1) 3 = false
    ∧ bit (c.ctrl 8) 0 = false ∧ bit (c.ctrl 8) 1 = c.auto ∧ bit (c.ctrl 8) 3 = true := by
  unfold Cal.ctrl
  cases c.auto <;> cases c.refplane <;> decide

theorem State.modCal_self {f : Cal → Cal} (h : f (s.cal r) = s.cal r) : ∀ j, (s.modCal r f).cal j = s.cal j := fun j => by
  rw [State.modCal_cal]
  split
  next hj => rw [hj, h]
  next => rfl

theorem exec_calStart_due {fn : Nat} (haccepts : s.accepts fn Ty.cal r 0x040 = true) (hr : r < 4)
    (hidle : (s.cal r).state = 0 ∨ (s.cal r).state = 5) (hallowed : s.calAllowed r = true) :
    ∃ t : State, exec (.calStart fn r) s = .next t ∧ (t.cal r).state = 1 ∧ (t.cal r).todo = s.rgnLanes r ∧ Only [.cals] s t := by
  have hexec : exec (.calStart fn r) s = .next (s.wCalCtrl r ((s.cal r).ctrl 1)) := onUnit_onWrite haccepts _
  obtain ⟨h0, h1, h3, -, -, -⟩ := (s.cal r).ctrl_bits
  have hwrite : s.wCalCtrl r ((s.cal r).ctrl 1) = (s.modCal r (fun c => { c with auto := bit ((s.cal r).ctrl 1) 1 })).calDue r := by
    unfold State.wCalCtrl
    dsimp only
    rw [if_neg (by omega), h3, h0]
    rfl
  rw [hwrite] at hexec
  have hmark := s.modCal_only r (fun c => { c with auto := bit ((s.cal r).ctrl 1) 1 })
  have hcal := State.modCal_self (s := s) (r := r) (f := fun c => { c with auto := bit ((s.cal r).ctrl 1) 1 }) (by rw [h1]) r
  generalize s.modCal r (fun c => { c with auto := bit ((s.cal r).ctrl 1) 1 }) = u at hexec hmark hcal
  obtain ⟨hall, hlanes, -⟩ := State.calAllowed_only (r := r) hmark (by decide)
  obtain ⟨-, hrun, honly⟩ := State.calDue_spec (s := u) (r := r) (hall.trans hallowed) (by rw [hcal]; omega)
  refine ⟨_, hexec, ?_, ?_, hmark.trans honly⟩
  · rw [hrun, Cal.runStart]
  · rw [hrun, Cal.runStart, hlanes]

/-! ### The small commands -/

theorem exec_calHoldoffExpiry (hr : r < 4) (hstate : (s.cal r).state = 5) (hend : (s.cal r).holdEnd ≤ s.up) :
    exec (.calHoldoffExpiry r) s = .next (s.modCal r (fun c => { c with state := 0 })) :=
  (onUnit_of (decide (r < nRgn)) _ (decide_eq_true hr)).trans (congrArg Host.Outcome.next (if_pos ⟨hstate, hend⟩))

section
variable {ch : Nat}

theorem exec_calStale {k : CalTerms} (hch : ch < nChan) (hrun : (s.chan ch).frRun = true) (hnext : (s.chan ch).calNext = some k)
    (hslew : (s.chan ch).calSlew = false) (hstale : (s.chan ch).calStale = false) (hlong : (s.chan ch).calNextAt + 600 * fsSec ≤ s.up) :
    exec (.calStale ch) s
      = .next (((s.modChan ch (fun c => { c with calStale := true })).cause Ty.tg ch 16).raisePage Code.calStale Ty.tg ch) :=
  (onUnit_of (decide (ch < nChan)) _ (decide_eq_true hch)).trans
    (congrArg Host.Outcome.next (if_pos ⟨hrun, by simp [hnext], by simp [hslew], by simp [hstale], hlong⟩))

theorem exec_calSlewStep_timing {k : CalTerms} (hch : ch < nChan) (hnext : (s.chan ch).calNext = some k) (hslew : (s.chan ch).calSlew = true)
    (hdue : (s.chan ch).calNextAt + fsUs ≤ s.up) :
    ∃ t : State, exec (.calSlewStep ch false) s = .next t ∧ ((((s.chan ch).cal.stepTo k).sameTiming k = true → (t.chan ch).cal = k
        ∧ (t.chan ch).calNext = none) ∧ (((s.chan ch).cal.stepTo k).sameTiming k = false → (t.chan ch).cal = (s.chan ch).cal.stepTo k
        ∧ (t.chan ch).calNext = some k)) ∧ (∀ c, c ≠ ch → t.chan c = s.chan c) ∧ Only [.chans] s t := by
  have hexec : exec (.calSlewStep ch false) s = .next (s.slewTiming ch) := onUnit_of _ _ (decide_eq_true hch)
  unfold State.slewTiming at hexec
  dsimp only at hexec
  rw [hnext] at hexec
  dsimp only at hexec
  rw [if_neg (by rw [hslew]; simp; omega)] at hexec
  refine ⟨_, hexec, ⟨fun hsame => ?_, fun hsame => ?_⟩, fun c hc => State.modChan_chan_ne _ hc _, s.modChan_only ch _⟩
  · rw [State.modChan_chan_same, if_pos hsame]
    exact ⟨rfl, rfl⟩
  · rw [State.modChan_chan_same, if_neg (by simp [hsame])]
    exact ⟨rfl, hnext⟩

theorem Tbl.get_foldl_upd {α : Type} [DecidableEq α] (x : α) (f : α → α) {l : List Nat} (hl : l.Nodup) (t : Tbl α) (j : Nat) :
    Tbl.get x (l.foldl (fun t d => Tbl.upd x t d f) t) j = if j ∈ l then f (Tbl.get x t j) else Tbl.get x t j := by
  induction l generalizing t with
  | nil => simp
  | cons d l ih =>
    obtain ⟨hd, hl⟩ := List.nodup_cons.mp hl
    rw [List.foldl_cons, ih hl, Tbl.get_upd]
    by_cases hj : j = d
    · subst hj
      simp [hd]
    · simp [hj]

/-- The raw codes of a channel one LSB nearer (14 R295). -/
def Chan.levelTick (root : Nat) (c : Chan) : Chan :=
  { c with rawAt := some root, rawLag := (List.range 10).foldl (fun t d => Tbl.upd 0 t d (fun v => toward v 0)) c.rawLag }

theorem Chan.levelTick_rawLag (root : Nat) (c : Chan) {d : Nat} (hd : d < 10) :
    Tbl.get 0 (c.levelTick root).rawLag d = toward (Tbl.get 0 c.rawLag d) 0 := by
  unfold Chan.levelTick
  dsimp only
  rw [Tbl.get_foldl_upd 0 (fun v => toward v 0) List.nodup_range, if_pos (List.mem_range.mpr hd)]

theorem exec_calSlewStep_levels (hch : ch < nChan) (htick : (s.site (s.lclkOf ch)).lclkLast = some s.root) (hraw : (s.chan ch).rawAt ≠ some s.root) :
    ∃ t : State, exec (.calSlewStep ch true) s = .next t
      ∧ (∀ d, d < 10 → Tbl.get 0 (t.chan ch).rawLag d = toward (Tbl.get 0 (s.chan ch).rawLag d) 0) ∧ Only [.chans] s t := by
  have hlevels : s.slewLevels ch = s.modChan ch (Chan.levelTick s.root) := if_neg (fun h => h.elim (fun h => h htick) hraw)
  have hexec : exec (.calSlewStep ch true) s = .next (s.slewLevels ch) := onUnit_of _ _ (decide_eq_true hch)
  rw [hlevels] at hexec
  refine ⟨_, hexec, fun d hd => ?_, s.modChan_only ch _⟩
  rw [State.modChan_chan_same, Chan.levelTick_rawLag _ _ hd]

end

end

end Sys2Proof.Machine
end

section
/-! Proofs of the statement of the family 14_calibration.md: ABORT, and a run that fails as a whole (14 R282, R289, R294). -/

namespace Sys2Proof.Machine

-- In one thread: the whole text is compiled near its memory limit.
set_option Elab.async false

section
variable (s : State) (k : Nat)

/-- What each operation of a row keeps, the row keeps. -/
theorem forEach_mem {P : State → Prop} {f : Nat → State → State} {l : List Nat} (h : ∀ i ∈ l, ∀ t, P t → P (f i t)) {s : State} (hs : P s) :
    P (forEach l f s) := by
  induction l generalizing s with
  | nil => exact hs
  | cons i l ih => exact ih (fun j hj => h j (by simp [hj])) (h i (by simp) s hs)

/-! ### The end of a cluster step -/

theorem State.madcRelease_hdr_other {a b : Nat} (h : pageKey a b ≠ pageKey Ty.madc k) : (s.madcRelease k).hdr a b = s.hdr a b := by
  unfold State.madcRelease when
  dsimp only
  split
  · rw [State.madcTrigger, (State.madcTriggerAt_touches _ k true _).2 a b h, State.modMadc_hdr]
  · rw [State.modMadc_hdr]

theorem State.stepEnd_hdr_other {a b : Nat} (h : pageKey a b ≠ pageKey Ty.madc k) : (s.stepEnd k).hdr a b = s.hdr a b := by
  unfold State.stepEnd when
  split
  · rw [State.madcRelease_hdr_other _ k h, State.modClu_hdr]
  · rfl

/-- A cluster page once its step has ended. -/
def Clu.stepEnded (x : Clu) : Clu := if x.step then { x with step := false, isolated := 0 } else x

theorem State.stepEnd_clu (j : Nat) : (s.stepEnd k).clu j = if j = k then (s.clu j).stepEnded else s.clu j := by
  unfold State.stepEnd when Clu.stepEnded
  by_cases hj : j = k
  · subst hj
    rw [if_pos rfl]
    split
    · rw [(State.madcRelease_only _ j).clu (by decide), State.modClu_clu, if_pos rfl]
    · rfl
  · rw [if_neg hj]
    split
    · rw [(State.madcRelease_only _ k).clu (by decide), State.modClu_clu, if_neg hj]
    · rfl

end

section
variable {s : State} {r : Nat}

/-! ### ABORT -/

theorem pageKey_cal_ne_madc (hr : r < 5) (k : Nat) : pageKey Ty.cal r ≠ pageKey Ty.madc k := by
  simp only [pageKey, Ty.cal, Ty.madc]
  omega

/-- A calibration page once its run is abandoned. -/
def Cal.abandoned (c : Cal) : Cal := { c with
  state := 0, failCount := satAdd sat32 c.failCount 1, lastOk := false, todo := 0, common := false, failed := false
  spareOnly := false, gradual := false }

/-- One cluster of a run that is abandoned: what its MADC measured goes, a step in progress ends. -/
def State.cluAbandon (c : Cal) (k : Nat) (t : State) : State :=
  (when (!c.spareOnly && bit c.madcDone (k % 6)) (fun u => u.modMadc k (fun m => { m with calNext := none })) t).stepEnd k

theorem State.cluAbandon_only (c : Cal) (k : Nat) (t : State) : Only ([.clus, .madcs] ++ causeParts) t (t.cluAbandon c k) :=
  (Only.when (fun u => u.modMadc_only k _) _ t).comp (State.stepEnd_only _ k)

theorem State.cluAbandon_clu (c : Cal) (k : Nat) (t : State) (j : Nat) :
    (t.cluAbandon c k).clu j = if j = k then (t.clu j).stepEnded else t.clu j := by
  unfold State.cluAbandon
  rw [State.stepEnd_clu, (Only.when (fun u => u.modMadc_only k _) _ t).clu (by decide)]

theorem State.cluAbandon_hdr_other {a b : Nat} (c : Cal) (k : Nat) (h : pageKey a b ≠ pageKey Ty.madc k) (t : State) :
    (t.cluAbandon c k).hdr a b = t.hdr a b := by
  unfold State.cluAbandon
  rw [State.stepEnd_hdr_other _ k h, (Only.when (fun u => u.modMadc_only k _) _ t).hdr (by decide)]

/-- The channels of a run that is abandoned lose what they wait for. -/
def State.chansAbandon (t : State) (r at_ : Nat) : State := forEach (chansOfRgn r) (fun ch u => u.modChan ch (fun x => x.dropSince at_)) t

theorem State.calAbandon_running (hr : r < 4) (hlow : 1 ≤ (s.cal r).state) (hhigh : (s.cal r).state ≤ 4) : s.calAbandon r
    = (forEach (clusOfRgn r) (State.cluAbandon (s.cal r)) ((s.modCal r Cal.abandoned).chansAbandon r (s.cal r).startAt)).cause Ty.cal r 2 :=
  if_pos ⟨hr, hlow, hhigh⟩

theorem clusOfRgn_nodup (r : Nat) : (clusOfRgn r).Nodup :=
  List.Nodup.map (fun _ _ h => Nat.add_right_cancel h) List.nodup_range

/-- A run in progress that is abandoned: its page, its clusters, its cause. -/
theorem State.calAbandon_spec (hr : r < 4) (hlow : 1 ≤ (s.cal r).state) (hhigh : (s.cal r).state ≤ 4) :
    (s.calAbandon r).cal r = (s.cal r).abandoned ∧ (∀ k, k / 6 = r → (s.calAbandon r).clu k = (s.clu k).stepEnded)
      ∧ ((s.calAbandon r).hdr Ty.cal r).irqStatus = (s.hdr Ty.cal r).irqStatus ||| 2
      ∧ Only (([.cals, .chans, .clus, .madcs] : List Part) ++ causeParts) s (s.calAbandon r) := by
  rw [State.calAbandon_running hr hlow hhigh]
  have hcal := s.modCal_only r Cal.abandoned
  have hchans : Only [.chans] (s.modCal r Cal.abandoned) ((s.modCal r Cal.abandoned).chansAbandon r (s.cal r).startAt) :=
    Only.forEach (fun ch u => u.modChan_only ch _) _ _
  have hbegin : Only [.cals, .chans] s ((s.modCal r Cal.abandoned).chansAbandon r (s.cal r).startAt) := hcal.comp hchans
  have hcalr : ((s.modCal r Cal.abandoned).chansAbandon r (s.cal r).startAt).cal r = (s.cal r).abandoned := by
    rw [hchans.cal (by decide), State.modCal_cal, if_pos rfl]
  generalize (s.modCal r Cal.abandoned).chansAbandon r (s.cal r).startAt = u at hbegin hcalr
  have hclus : Only (([.clus, .madcs] : List Part) ++ causeParts) u (forEach (clusOfRgn r) (State.cluAbandon (s.cal r)) u) :=
    Only.forEach (fun k t => t.cluAbandon_only (s.cal r) k) _ _
  refine ⟨?_, fun k hk => ?_, ?_, (hbegin.comp hclus (n := ([.cals, .chans, .clus, .madcs] : List Part) ++ causeParts)).comp
    (State.cause_only _ _ _ _)⟩
  · rw [State.cause_cal, hclus.cal (by decide), hcalr]
  · have hclu := forEach_unit (read := State.clu) (g := Clu.stepEnded) (fun i t j => t.cluAbandon_clu (s.cal r) i j) (clusOfRgn_nodup r) u k
    rw [State.cause_clu, hclu, if_pos ((mem_clusOfRgn r k).mpr hk), hbegin.clu (by decide)]
  · have hhdr : (forEach (clusOfRgn r) (State.cluAbandon (s.cal r)) u).hdr Ty.cal r = u.hdr Ty.cal r :=
      forEach_keep (fun t => t.hdr Ty.cal r) _ (fun k t => t.cluAbandon_hdr_other (s.cal r) k (pageKey_cal_ne_madc (by omega) k)) _ u
    rw [State.cause_hdr, hhdr, hbegin.hdr (by decide)]

theorem exec_calAbort_running {fn : Nat} (haccepts : s.accepts fn Ty.cal r 0x040 = true) (hr : r < 4) (hlow : 1 ≤ (s.cal r).state)
    (hhigh : (s.cal r).state ≤ 4) :
    ∃ t : State, exec (.calAbort fn r) s = .next t ∧ (t.cal r).state = 0 ∧ (t.cal r).failCount = min 0xFFFFFFFF ((s.cal r).failCount + 1)
      ∧ (∀ k, k / 6 = r → (t.clu k).step = false ∧ ((s.clu k).step = true → (t.clu k).isolated = 0))
      ∧ (t.hdr Ty.cal r).irqStatus = (s.hdr Ty.cal r).irqStatus ||| 2
      ∧ Only (([.cals, .chans, .clus, .madcs] : List Part) ++ causeParts) s t := by
  have hexec : exec (.calAbort fn r) s = .next (s.wCalCtrl r ((s.cal r).ctrl 8)) := onUnit_onWrite haccepts _
  obtain ⟨-, -, -, h0, h1, h3⟩ := (s.cal r).ctrl_bits
  have hwrite : s.wCalCtrl r ((s.cal r).ctrl 8) = (s.modCal r (fun c => { c with auto := bit ((s.cal r).ctrl 8) 1 })).calAbandon r := by
    unfold State.wCalCtrl
    dsimp only
    rw [if_neg (by omega), h3, h0]
    rfl
  rw [hwrite] at hexec
  have hmark := s.modCal_only r (fun c => { c with auto := bit ((s.cal r).ctrl 8) 1 })
  have hcal := State.modCal_self (s := s) (r := r) (f := fun c => { c with auto := bit ((s.cal r).ctrl 8) 1 }) (by rw [h1]) r
  generalize s.modCal r (fun c => { c with auto := bit ((s.cal r).ctrl 8) 1 }) = u at hexec hmark hcal
  obtain ⟨hpage, hclus, hirq, honly⟩ := State.calAbandon_spec (s := u) hr (by rw [hcal]; exact hlow) (by rw [hcal]; exact hhigh)
  rw [hcal] at hpage
  refine ⟨_, hexec, ?_, ?_, fun k hk => ?_, ?_, (hmark.mono (by decide)).trans honly⟩
  · rw [hpage, Cal.abandoned]
  · rw [hpage]
    rfl
  · rw [hclus k hk, hmark.clu (by decide), Clu.stepEnded]
    split
    · exact ⟨rfl, fun _ => rfl⟩
    next h => exact ⟨by simpa using h, fun hs => absurd hs h⟩
  · rw [hirq, hmark.hdr (by decide)]

/-! ### A run that fails as a whole -/

theorem State.seqAdvance_idle (h : (s.cal 4).state ≠ 6) : s.seqAdvance = s := if_neg (fun h' => h h'.1)

/-- A region's page once its run has failed. -/
def Cal.runFailed (c : Cal) (code up : Nat) : Cal := { c with
  failed := true, lastErr := code, todo := 0, gradual := false, state := 5, failCount := satAdd sat32 c.failCount 1, lastOk := false
  holdEnd := up + 10 * fsSec }

theorem State.calEnd_failed (h : (s.cal r).failed = true) : s.calEnd r
    = ((s.modCal r (fun c => { c with gradual := false })).modCal r (fun c => { c with
        state := if r < 4 then 5 else 0, failCount := satAdd sat32 c.failCount 1, lastOk := false, holdEnd := s.up + 10 * fsSec })).cause Ty.cal r 2 := by
  unfold State.calEnd
  dsimp only
  rw [State.modCal_cal, if_pos rfl, if_pos h]
  rfl

theorem State.runFail_spec (hr : r < 4) (hseq : (s.cal 4).state = 0) (code : Nat) :
    (s.runFail r code).cal r = (s.cal r).runFailed code s.up ∧ (s.runFail r code).err.lastCode = code
      ∧ Only (.cals :: errorParts) s (s.runFail r code) := by
  have hfail : s.calFail r code = s.modCal r (fun c => { c with failed := true, lastErr := code }) := if_neg (by rw [hseq]; decide)
  have hmark := s.modCal_only r (fun c => { c with failed := true, lastErr := code })
  have hcal : ∀ j, (s.modCal r (fun c => { c with failed := true, lastErr := code })).cal j
      = if j = r then { s.cal j with failed := true, lastErr := code } else s.cal j := fun j => s.modCal_cal r _ j
  unfold State.runFail
  dsimp only
  rw [hfail]
  generalize s.modCal r (fun c => { c with failed := true, lastErr := code }) = u at hmark hcal
  have hraise := State.raise_only u code Ty.cal r none 0
  have hcode : (u.raise code Ty.cal r).err.lastCode = code := u.raiseAt_lastCode _ _ _ _ _ _ _ _
  have hcal' : ∀ j, (u.raise code Ty.cal r).cal j = if j = r then { s.cal j with failed := true, lastErr := code } else s.cal j :=
    fun j => (hraise.cal (by decide) j).trans (hcal j)
  have hlate : Only (.cals :: errorParts) s (u.raise code Ty.cal r) := hmark.comp hraise
  generalize u.raise code Ty.cal r = v at hcode hcal' hlate
  have hdrop : ∀ j, (v.modCal r (fun c => { c with todo := 0 })).cal j
      = if j = r then { s.cal j with failed := true, lastErr := code, todo := 0 } else s.cal j := fun j => by
    rw [State.modCal_cal, hcal']
    split <;> rfl
  have hend := v.modCal_only r (fun c => { c with todo := 0 })
  have herr : (v.modCal r (fun c => { c with todo := 0 })).err.lastCode = code := hcode
  have hlate' : Only (.cals :: errorParts) s (v.modCal r (fun c => { c with todo := 0 })) := hlate.comp hend
  generalize v.modCal r (fun c => { c with todo := 0 }) = w at hdrop herr hlate'
  have hr' := hdrop r
  rw [if_pos rfl] at hr'
  have hfailed : (w.cal r).failed = true := by rw [hr']
  rw [State.calEnd_failed hfailed]
  have hlast := (((w.modCal_only r (fun c => { c with gradual := false })).trans (State.modCal_only _ r (fun c => { c with
        state := if r < 4 then 5 else 0, failCount := satAdd sat32 c.failCount 1, lastOk := false, holdEnd := w.up + 10 * fsSec }))).comp
        (State.cause_only _ Ty.cal r 2) (n := .cals :: causeParts))
  have h4 : ((((w.modCal r (fun c => { c with gradual := false })).modCal r (fun c => { c with
        state := if r < 4 then 5 else 0, failCount := satAdd sat32 c.failCount 1, lastOk := false, holdEnd := w.up + 10 * fsSec })).cause
        Ty.cal r 2).cal 4).state = 0 := by
    rw [State.cause_cal, State.modCal_cal, if_neg (by omega), State.modCal_cal, if_neg (by omega), hdrop, if_neg (by omega), hseq]
  rw [State.seqAdvance_idle (by rw [h4]; decide)]
  refine ⟨?_, (congrArg ErrLog.lastCode (hlast .err (by decide))).trans herr, hlate'.comp hlast⟩
  rw [State.cause_cal, State.modCal_cal, if_pos rfl, State.modCal_cal, if_pos rfl, hr', if_pos hr, hlate'.up (by decide)]
  rfl

theorem exec_calCommonStepDone_bad {vref vbg : Int} {spine : List Int} (hr : r < 4) (hstate : (s.cal r).state = 2) (hseq : (s.cal 4).state = 0)
    (hdue : (s.cal r).stepAt + rootUs 200 ≤ s.uptime) (hvref : vref < 1000000) :
    ∃ t : State, exec (.calCommonStepDone r vref vbg spine) s = .next t ∧ (t.cal r).state = 5 ∧ (t.cal r).lastErr = Code.calRef
      ∧ (t.cal r).holdEnd = s.up + 10 * fsSec ∧ (t.cal r).failCount = min 0xFFFFFFFF ((s.cal r).failCount + 1)
      ∧ t.err.lastCode = Code.calRef ∧ Only (.cals :: errorParts) s t := by
  have hexec : exec (.calCommonStepDone r vref vbg spine) s = .next (s.runFail r Code.calRef) := by
    refine (onUnit_of (decide (r < nRgn)) _ (decide_eq_true hr)).trans (congrArg Host.Outcome.next ?_)
    unfold State.calCommon
    dsimp only
    rw [if_neg (by rw [hstate]; omega), if_pos (.inl hvref)]
  obtain ⟨hpage, herr, honly⟩ := State.runFail_spec hr hseq Code.calRef
  refine ⟨_, hexec, ?_, ?_, ?_, ?_, herr, honly⟩
  · rw [hpage, Cal.runFailed]
  · rw [hpage, Cal.runFailed]
  · rw [hpage, Cal.runFailed]
  · rw [hpage]
    rfl

end

end Sys2Proof.Machine
end

section
/-! Proofs of the statement of the family 14_calibration.md: what the progress of a run leaves as it was (14 R284, R286, R290, R294). -/

namespace Sys2Proof.Machine

-- In one thread: the whole text is compiled near its memory limit.
set_option Elab.async false

/-- What the progress of region `r`'s run keeps: the steps of clusters, the lanes no more due, the common step, the headers of other pages. -/
structure CalKept (r : Nat) (s t : State) : Prop where
  only : Only (([.cals, .clus, .nor] : List Part) ++ causeParts) s t
  clu : ∀ k, (t.clu k).step = (s.clu k).step ∧ (t.clu k).isolated = (s.clu k).isolated
  cal : (t.cal r).common = (s.cal r).common ∧ ∀ i, (s.cal r).todo.testBit i = false → (t.cal r).todo.testBit i = false
  hdr : ∀ a b, pageKey a b ≠ pageKey Ty.cal r → t.hdr a b = s.hdr a b

section
variable {r : Nat} {s t u : State}

theorem CalKept.refl (r : Nat) (s : State) : CalKept r s s :=
  ⟨Only.refl _ s, fun _ => ⟨rfl, rfl⟩, ⟨rfl, fun _ h => h⟩, fun _ _ _ => rfl⟩

theorem CalKept.trans (h : CalKept r s t) (h' : CalKept r t u) : CalKept r s u :=
  ⟨h.only.trans h'.only, fun k => ⟨(h'.clu k).1.trans (h.clu k).1, (h'.clu k).2.trans (h.clu k).2⟩,
    ⟨h'.cal.1.trans h.cal.1, fun i hi => h'.cal.2 i (h.cal.2 i hi)⟩, fun a b hk => (h'.hdr a b hk).trans (h.hdr a b hk)⟩

theorem CalKept.when {f : State → State} (h : ∀ t, CalKept r t (f t)) (c : Bool) (s : State) : CalKept r s (when c f s) := by
  cases c
  · exact CalKept.refl r s
  · exact h s

theorem CalKept.forEach {f : Nat → State → State} (h : ∀ i t, CalKept r t (f i t)) (l : List Nat) (s : State) :
    CalKept r s (forEach l f s) := by
  induction l generalizing s with
  | nil => exact CalKept.refl r s
  | cons i l ih => exact (h i s).trans (ih (f i s))

/-- NOR alone changes. -/
theorem CalKept.of_nor (h : Only [.nor] s t) : CalKept r s t :=
  ⟨h.mono (by decide), fun k => by rw [h.clu (by decide)]; exact ⟨rfl, rfl⟩,
    by rw [h.cal (by decide)]; exact ⟨rfl, fun _ h => h⟩, fun a b _ => h.hdr (by decide) a b⟩

/-- A calibration page changes, region `r`'s but for its common step and with no lane more due. -/
theorem CalKept.modCal {j : Nat} {f : Cal → Cal} (hf : j = r → (f (s.cal r)).common = (s.cal r).common
    ∧ ∀ i, (s.cal r).todo.testBit i = false → (f (s.cal r)).todo.testBit i = false) : CalKept r s (s.modCal j f) := by
  have h := s.modCal_only j f
  refine ⟨h.mono (by decide), fun k => by rw [h.clu (by decide)]; exact ⟨rfl, rfl⟩, ?_, fun a b _ => h.hdr (by decide) a b⟩
  rw [State.modCal_cal]
  by_cases hj : r = j
  · rw [if_pos hj]
    exact hf hj.symm
  · rw [if_neg hj]
    exact ⟨rfl, fun _ h => h⟩

theorem CalKept.modCal_state (v : Nat) : CalKept r s (s.modCal r (fun c => { c with state := v })) :=
  CalKept.modCal (f := fun c => { c with state := v }) (fun _ => ⟨rfl, fun _ h => h⟩)

theorem CalKept.modClu {k : Nat} {f : Clu → Clu} (hf : ∀ x, (f x).step = x.step ∧ (f x).isolated = x.isolated) :
    CalKept r s (s.modClu k f) := by
  have h := s.modClu_only k f
  refine ⟨h.mono (by decide), fun j => ?_, by rw [h.cal (by decide)]; exact ⟨rfl, fun _ h => h⟩, fun a b _ => h.hdr (by decide) a b⟩
  rw [State.modClu_clu]
  split
  · exact hf _
  · exact ⟨rfl, rfl⟩

theorem CalKept.cause (m : Nat) : CalKept r s (s.cause Ty.cal r m) :=
  ⟨(s.cause_only _ _ _).mono (by decide), fun k => by rw [State.cause_clu]; exact ⟨rfl, rfl⟩,
    by rw [State.cause_cal]; exact ⟨rfl, fun _ h => h⟩, fun a b h => s.cause_hdr_other m h⟩

theorem State.seqAdvance_kept (hr : r < 4) (s : State) : CalKept r s s.seqAdvance := by
  unfold State.seqAdvance
  split
  · split
    · exact (CalKept.modCal (fun h => absurd h (by omega))).trans
        (CalKept.forEach (fun i t => CalKept.modCal (fun _ => ⟨rfl, fun _ h => h⟩)) _ _)
    · exact (CalKept.modCal (fun h => absurd h (by omega))).trans
        (CalKept.forEach (fun i t => CalKept.of_nor (t.norWrite_only i)) _ _)
  · exact CalKept.refl r s

theorem State.calEnd_kept (s : State) : CalKept r s (s.calEnd r) := by
  have hbegin : CalKept r s (s.modCal r (fun c => { c with gradual := false })) := CalKept.modCal (fun _ => ⟨rfl, fun _ h => h⟩)
  unfold State.calEnd
  dsimp only
  split
  · refine (hbegin.trans (CalKept.modCal ?_)).trans (CalKept.cause 2)
    exact fun _ => ⟨rfl, fun _ h => h⟩
  · refine (hbegin.trans (CalKept.modCal ?_)).trans (CalKept.cause 1)
    exact fun _ => ⟨rfl, fun _ h => h⟩

theorem State.calRecord_only (s : State) (r : Nat) : Only [.nor] s (s.calRecord r) := by
  unfold State.calRecord
  split
  · exact s.norWrite_only r
  · exact s.modNor_only _

theorem State.calComplete_kept (hr : r < 4) (s : State) (c : Cal) : CalKept r s (s.calComplete r c) := by
  unfold State.calComplete
  split
  · exact CalKept.modCal (fun _ => ⟨rfl, fun _ h => h⟩)
  · exact (s.calEnd_kept.trans (CalKept.when (fun t => CalKept.of_nor (t.calRecord_only r)) _ _)).trans (State.seqAdvance_kept hr _)

theorem State.calDefer_kept (s : State) (l : List Nat) : CalKept r s (s.calDefer r l) := by
  unfold State.calDefer
  refine CalKept.forEach (fun i t => CalKept.modClu ?_) l s
  exact fun _ => ⟨rfl, rfl⟩

theorem State.calDefer_only (s : State) (r : Nat) (l : List Nat) : Only [.clus] s (s.calDefer r l) :=
  Only.forEach (fun _ t => t.modClu_only _ _) l s

/-- Lanes that were not due are not due after a part of those due is taken. -/
theorem testBit_maskOf_part {w n : Nat} {l : List Nat} (hl : ∀ i ∈ l, i ∈ bitList w n) {i : Nat} (hi : w.testBit i = false) :
    (maskOf l).testBit i = false := by
  rw [testBit_maskOf]
  by_contra h
  have hmem := hl i (by simpa using h)
  simp [bitList, hi] at hmem

/-- The advance of a run after a step. -/
theorem State.calAdvance_kept (hr : r < 4) (s : State) : CalKept r s (s.calAdvance r) := by
  unfold State.calAdvance
  dsimp only
  split
  · exact CalKept.refl r s
  · generalize hlive : (bitList (s.cal r).todo 48).filter (fun i => !(s.hdr Ty.pe (48 * r + i)).retired) = live
    generalize live.filter (fun i => decide (i / 8 ≤ ((live.filter (fun i => s.laneAvail (48 * r + i))).headD 48) / 8)
      && s.laneIdle (48 * r + i) && !(s.chan (48 * r + i)).quiet) = later
    have hleft : ∀ i ∈ live.filter (fun i => !later.contains i), i ∈ bitList (s.cal r).todo 48 := fun i hi => by
      rw [← hlive] at hi
      exact List.mem_of_mem_filter (List.mem_of_mem_filter hi)
    generalize live.filter (fun i => !later.contains i) = left at hleft ⊢
    have hdefer : CalKept r s ((s.calDefer r later).modCal r (fun c => { c with todo := maskOf left })) := by
      refine (s.calDefer_kept later).trans (CalKept.modCal ?_)
      refine fun _ => ⟨rfl, fun _ hi => ?_⟩
      rw [(s.calDefer_only r later).cal (by decide)] at hi
      exact testBit_maskOf_part hleft hi
    split
    · exact hdefer.trans (State.calComplete_kept hr _ _)
    · split
      · exact (hdefer.trans (CalKept.modCal_state 4)).trans (CalKept.when (fun _ => CalKept.cause 4) _ _)
      · exact hdefer.trans (CalKept.modCal_state 3)

/-! ### A cluster step starts (14 R284, R286, R287) -/

theorem State.madcHold_spec (s : State) (k : Nat) : ((s.madc k).scan = none → ((s.madcHold k).madc k).pending = false)
    ∧ Only [.madcs, .acqs] s (s.madcHold k) := by
  have hmod := s.modMadc_only k (fun m => { m with pending := m.pending && m.scan.isSome, again := m.again && m.scan.isSome })
  unfold State.madcHold
  dsimp only
  split
  next h => exact ⟨fun hnone => by simp [hnone] at h, hmod.mono (by decide)⟩
  next h =>
    refine ⟨fun hnone => ?_, hmod.comp (State.modAcq_only _ k _)⟩
    rw [State.acqRestartPairs, (State.modAcq_only _ k _).madc (by decide), State.modMadc_madc, if_pos rfl, hnone]
    simp

theorem mem_stepLanes {k l : Nat} (hl : l < 8) (hcommon : (s.cal (rgnOfClu k)).common = true) (hstate : (s.cal (rgnOfClu k)).state = 3)
    (htodo : (s.cal (rgnOfClu k)).todo.testBit (8 * (k % 6) + l) = true) (havail : s.laneAvail (8 * k + l) = true) : l ∈ s.stepLanes k := by
  simp only [State.stepLanes, List.mem_filter, List.mem_range]
  exact ⟨hl, by simp [bit, hcommon, hstate, htodo, havail]⟩

theorem exec_calClusterStepStart_spec {k l : Nat} (hk : k < nClu) (hl : l < 8) (hallowed : s.calAllowed (rgnOfClu k) = true)
    (hidle : ∀ j, j < nClu → j / 6 = k / 6 → (s.clu j).step = false) (hbefore : ∀ j, j < k → j / 6 = k / 6 → s.stepLanes j = [])
    (hcommon : (s.cal (rgnOfClu k)).common = true) (hstate : (s.cal (rgnOfClu k)).state = 3)
    (htodo : (s.cal (rgnOfClu k)).todo.testBit (8 * (k % 6) + l) = true) (havail : s.laneAvail (8 * k + l) = true) :
    ∃ t : State, exec (.calClusterStepStart k) s = .next t ∧ (t.clu k).step = true ∧ (t.clu k).isolated.testBit l = true
      ∧ ((s.madc k).scan = none → (t.madc k).pending = false) ∧ (∀ j, j ≠ k → t.clu j = s.clu j)
      ∧ Only [.clus, .cals, .madcs, .acqs] s t := by
  have hmem := mem_stepLanes hl hcommon hstate htodo havail
  have hturn : (clusOfRgn (rgnOfClu k)).any (fun j => (s.clu j).step || (decide (j < k) && s.stepLanes j != [])) = false := by
    rw [List.any_eq_false]
    intro j hj
    have hrgn : j / 6 = k / 6 := (mem_clusOfRgn _ j).mp hj
    have hlt : j < nClu := by
      have : k < 24 := hk
      show j < 24
      omega
    rw [hidle j hlt hrgn]
    by_cases hjk : j < k
    · simp [hbefore j hjk hrgn]
    · simp [hjk]
  have hexec : exec (.calClusterStepStart k) s = .next ((when ((s.cal (rgnOfClu k)).state == 4)
      (fun t => t.modCal (rgnOfClu k) (fun c => { c with state := 3 })) (s.modClu k (fun x => { x with
        step := true, stepAt := s.uptime, isolated := maskOf (s.stepLanes k)
        isoAt := s.uptime + (if s.madcPart k then rootUs 300 else 0) }))).madcHold k) := by
    refine (onUnit_of (decide (k < nClu)) _ (decide_eq_true hk)).trans (congrArg Host.Outcome.next ?_)
    unfold State.clusterStart
    dsimp only
    rw [if_neg (by simp [hallowed, hturn]), if_neg (List.ne_nil_of_mem hmem)]
  have hwhen : ((s.cal (rgnOfClu k)).state == 4) = false := by simp [hstate]
  rw [hwhen] at hexec
  have hclu := s.modClu_only k (fun x => { x with
        step := true, stepAt := s.uptime, isolated := maskOf (s.stepLanes k)
        isoAt := s.uptime + (if s.madcPart k then rootUs 300 else 0) })
  obtain ⟨hpend, hhold⟩ := State.madcHold_spec (s.modClu k (fun x => { x with
        step := true, stepAt := s.uptime, isolated := maskOf (s.stepLanes k)
        isoAt := s.uptime + (if s.madcPart k then rootUs 300 else 0) })) k
  rw [hclu.madc (by decide)] at hpend
  refine ⟨_, hexec, ?_, ?_, hpend, fun j hj => ?_, hclu.comp hhold⟩
  · exact (congrArg Clu.step (hhold.clu (by decide) k)).trans (by rw [State.modClu_clu, if_pos rfl])
  · refine (congrArg (fun x : Clu => x.isolated.testBit l) (hhold.clu (by decide) k)).trans ?_
    rw [State.modClu_clu, if_pos rfl]
    exact (testBit_maskOf _ l).trans (by simpa using hmem)
  · exact (hhold.clu (by decide) j).trans (by rw [State.modClu_clu, if_neg hj])

end

end Sys2Proof.Machine
end

section
/-! Proofs of the statement of the family 14_calibration.md: a cluster step ends (14 R284, R287, R293, R294). -/

namespace Sys2Proof.Machine

-- In one thread: the whole text is compiled near its memory limit.
set_option Elab.async false

/-! ### What a measurement is judged by -/

/-- Terms in force and waiting, FACTORY and the cluster temperatures are the same: results are judged alike. -/
structure TermsKept (s t : State) : Prop where
  chans : t.chans = s.chans
  factory : t.nor.factory = s.nor.factory
  temp : ∀ k, (t.clu k).temp = (s.clu k).temp

section
variable {s t u : State} {k : Nat}

theorem TermsKept.refl (s : State) : TermsKept s s := ⟨rfl, rfl, fun _ => rfl⟩

theorem TermsKept.trans (h : TermsKept s t) (h' : TermsKept t u) : TermsKept s u :=
  ⟨h'.chans.trans h.chans, h'.factory.trans h.factory, fun k => (h'.temp k).trans (h.temp k)⟩

theorem TermsKept.of_only {l : List Part} (h : Only l s t) (hchans : Part.chans ∉ l := by decide) (hnor : Part.nor ∉ l := by decide)
    (hclus : Part.clus ∉ l := by decide) : TermsKept s t :=
  ⟨h .chans hchans, congrArg Nor.factory (h .nor hnor), fun k => congrArg Clu.temp (h.clu hclus k)⟩

theorem TermsKept.modClu {f : Clu → Clu} (hf : ∀ x, (f x).temp = x.temp) : TermsKept s (s.modClu k f) := by
  refine ⟨rfl, rfl, fun j => ?_⟩
  rw [State.modClu_clu]
  split
  · exact hf _
  · rfl

theorem TermsKept.modNor {f : Nor → Nor} (hf : ∀ n, (f n).factory = n.factory) : TermsKept s (s.modNor f) :=
  ⟨rfl, hf _, fun _ => rfl⟩

theorem Nor.erase_factory (n : Nor) (r : Nat) : (n.erase r).factory = n.factory := by
  unfold Nor.erase
  split
  · rfl
  · split
    · rfl
    · split <;> rfl

theorem State.norStart_terms (s : State) : TermsKept s s.norStart := by
  unfold State.norStart
  split
  · exact TermsKept.refl s
  · split
    · exact TermsKept.refl s
    next r rest _ => exact TermsKept.modNor (fun n => n.erase_factory r)

theorem State.norWrite_terms (s : State) (r : Nat) : TermsKept s (s.norWrite r) := by
  unfold State.norWrite
  split
  · exact s.norStart_terms
  · refine TermsKept.trans (TermsKept.modNor ?_) (State.norStart_terms _)
    exact fun _ => rfl

theorem State.markRetired_terms (s : State) (key : Nat) : TermsKept s (s.markRetired key) :=
  (TermsKept.of_only (s.modFault_only key _)).trans (State.norWrite_terms _ 6)

/-- The retirement of an MADC. -/
theorem State.retireMadc_terms (s : State) (i : Nat) (hold : Bool) : TermsKept s (s.retireUnit kMadc i hold) := by
  show TermsKept s (State.raise _ _ _ _ _ _)
  refine TermsKept.trans ?_ (TermsKept.of_only (State.raise_only _ _ _ _ _ _))
  refine TermsKept.trans ?_ (TermsKept.modClu (fun _ => rfl))
  refine TermsKept.trans ?_ (TermsKept.of_only (State.madcStop_only _ i))
  exact (s.markRetired_terms _).trans (TermsKept.of_only (State.modHdr_only _ _ _ _))

theorem State.transientMadc_terms (s : State) (i code ty inst : Nat) (site : Option Nat) (detail : Nat) (retry hold : Bool) :
    TermsKept s (s.transient kMadc i code ty inst site detail retry hold) := by
  unfold State.transient State.transientAt
  dsimp only
  have hraise : ∀ tr perm, TermsKept s (s.raiseAt s.now code ty inst site detail tr perm) := fun tr perm =>
    TermsKept.of_only (s.raiseAt_only _ _ _ _ _ _ _ _)
  split
  · exact hraise _ _
  · have hcount := (hraise true (s.permanent (unitKey kMadc i) retry)).trans
      (TermsKept.of_only (State.modFault_only _ (unitKey kMadc i) (fun f => { f with times := s.now :: f.times })))
    split
    · exact hcount.trans (State.retireMadc_terms _ i hold)
    · exact hcount

theorem State.calFail_only (s : State) (r code : Nat) : Only [.cals] s (s.calFail r code) := by
  unfold State.calFail
  dsimp only
  split
  · exact (s.modCal_only r _).trans (State.modCal_only _ 4 _)
  · exact s.modCal_only r _

theorem State.madcMeasured_terms (s : State) (k : Nat) (v : List Int) : TermsKept s (s.madcMeasured k v) := by
  unfold State.madcMeasured
  dsimp only
  have hdone := TermsKept.of_only (s.modCal_only (rgnOfClu k) (fun c => { c with madcDone := setBit c.madcDone (k % 6) }))
  split
  · refine (hdone.trans (TermsKept.of_only (State.modMadc_only _ k _))).trans (TermsKept.modClu (fun _ => rfl))
  · refine ((hdone.trans (TermsKept.of_only (State.calFail_only _ _ _))).trans (State.transientMadc_terms _ _ _ _ _ _ _ _ _)).trans
      (TermsKept.modClu (fun _ => rfl))

/-! ### New terms of a channel (14 R295, R296) -/

theorem State.applyTerms_spec (s : State) (ch : Nat) (k : CalTerms) (recovery : Bool) :
    ((s.applyTerms ch k recovery).chan ch).newestCal = k ∧ (∀ c, c ≠ ch → (s.applyTerms ch k recovery).chan c = s.chan c)
      ∧ Only [.chans] s (s.applyTerms ch k recovery) := by
  have hmod : ∀ f : Chan → Chan, (∀ x, (f x).newestCal = k) → ((s.modChan ch f).chan ch).newestCal = k
      ∧ (∀ c, c ≠ ch → (s.modChan ch f).chan c = s.chan c) ∧ Only [.chans] s (s.modChan ch f) := fun f hf =>
    ⟨by rw [State.modChan_chan_same, hf], fun c hc => s.modChan_chan_ne hc f, s.modChan_only ch f⟩
  unfold State.applyTerms
  dsimp only
  split
  · exact hmod _ (fun _ => rfl)
  · split
    · exact hmod _ (fun _ => rfl)
    · split
      · exact hmod _ (fun _ => rfl)
      · exact hmod _ (fun _ => rfl)

/-- The results of a lane are plausible: its terms are those measured. -/
theorem State.laneResult_good {l : Nat} {v : List Int} {recovery : Bool} {new : CalTerms}
    (hnew : new = measuredTerms (s.chan (8 * k + l)).newestCal (s.rgnTemp (rgnOfClu k)) v)
    (htiming : timingOk new (s.chan (8 * k + l)).cal (Tbl.get {} s.nor.factory.chans (8 * k + l))
      (s.rgnTemp (rgnOfClu k) - (s.chan (8 * k + l)).cal.at_) = true)
    (hlevels : levelsOk new (Tbl.get {} s.nor.factory.chans (8 * k + l)) = true) :
    ((s.laneResult k l v recovery).chan (8 * k + l)).newestCal = new := by
  unfold State.laneResult
  dsimp only
  rw [← hnew, htiming, hlevels, if_pos (by decide)]
  exact (State.applyTerms_spec _ _ _ _).1

/-! ### The end of a step -/

/-- The end of a cluster's step once its `covered` lanes are judged: they leave the run, the step and its isolation end, and the run goes on. -/
def State.stepOver (s2 : State) (k : Nat) (covered : List Nat) : State :=
  let r := rgnOfClu k
  let m := maskOf (covered.map (· + 8 * (k % 6)))
  let n := (bitList ((s2.cal r).todo &&& m) 48).length
  let s3 := s2.modCal r (fun c => { c with todo := c.todo &&& ((2 ^ 48 - 1) ^^^ m), done := c.done + n })
  let s3 := when ((s3.cal 4).state == 6) (fun t => t.modCal 4 (fun c => { c with done := c.done + n })) s3
  let s4 := (s3.modClu k (fun x => { x with step := false, isolated := 0 })).cause Ty.clu k 2
  let s5 := when (s4.madcState k == 0) (fun t => t.madcRelease k) s4
  s5.calAdvance r

theorem pageKey_clu_ne_cal {r : Nat} (hr : r < 4) (k : Nat) : pageKey Ty.clu k ≠ pageKey Ty.cal r := by
  simp only [pageKey, Ty.cal, Ty.clu]
  omega

theorem pageKey_clu_ne_madc (hk : k < nClu) (j : Nat) : pageKey Ty.clu j ≠ pageKey Ty.madc k := by
  have : k < 24 := hk
  simp only [pageKey, Ty.madc, Ty.clu]
  omega

theorem testBit_dropMask {i : Nat} (hi : i < 48) (w : Nat) {m : Nat} (hm : m.testBit i = true) :
    (w &&& ((2 ^ 48 - 1) ^^^ m)).testBit i = false := by
  rw [Nat.testBit_and, Nat.testBit_xor, Nat.testBit_two_pow_sub_one, hm, decide_eq_true hi]
  simp

theorem State.stepOver_spec (hk : k < nClu) {l : Nat} (hl : l < 8) (u : State) :
    ((u.stepOver k [l]).clu k).step = false ∧ ((u.stepOver k [l]).clu k).isolated = 0
      ∧ ((u.stepOver k [l]).cal (rgnOfClu k)).todo.testBit (8 * (k % 6) + l) = false
      ∧ ((u.stepOver k [l]).hdr Ty.clu k).irqStatus.testBit 1 = true ∧ (u.stepOver k [l]).chans = u.chans := by
  have hr : rgnOfClu k < 4 := by
    have : k < 24 := hk
    show k / 6 < 4
    omega
  have hbit : (maskOf ([l].map (· + 8 * (k % 6)))).testBit (8 * (k % 6) + l) = true := by
    rw [testBit_maskOf]
    simp [Nat.add_comm]
  unfold State.stepOver
  dsimp only
  generalize maskOf ([l].map (· + 8 * (k % 6))) = m at hbit
  generalize (bitList ((u.cal (rgnOfClu k)).todo &&& m) 48).length = n
  obtain ⟨s3, hs3⟩ : ∃ s3, s3 = u.modCal (rgnOfClu k) (fun c => { c with todo := c.todo &&& ((2 ^ 48 - 1) ^^^ m), done := c.done + n }) := ⟨_, rfl⟩
  have h3 : Only [.cals] u s3 := hs3 ▸ u.modCal_only _ _
  have htodo3 : (s3.cal (rgnOfClu k)).todo.testBit (8 * (k % 6) + l) = false := by
    rw [hs3, State.modCal_cal, if_pos rfl]
    exact testBit_dropMask (by omega) _ hbit
  rw [← hs3]
  have h3' : Only [.cals] s3 (when ((s3.cal 4).state == 6) (fun t => t.modCal 4 (fun c => { c with done := c.done + n })) s3) :=
    Only.when (fun t => t.modCal_only 4 _) _ s3
  have htodo3' : ((when ((s3.cal 4).state == 6) (fun t => t.modCal 4 (fun c => { c with done := c.done + n })) s3).cal (rgnOfClu k)).todo.testBit
      (8 * (k % 6) + l) = false := by
    unfold when
    split
    · rw [State.modCal_cal, if_neg (by omega)]
      exact htodo3
    · exact htodo3
  have h4 := h3.trans h3'
  generalize when ((s3.cal 4).state == 6) (fun t => t.modCal 4 (fun c => { c with done := c.done + n })) s3 = s4 at h4 htodo3' ⊢
  have hclu := s4.modClu_only k (fun x => { x with step := false, isolated := 0 })
  have hcluk : (s4.modClu k (fun x => { x with step := false, isolated := 0 })).clu k = { s4.clu k with step := false, isolated := 0 } := by
    rw [State.modClu_clu, if_pos rfl]
  generalize s4.modClu k (fun x => { x with step := false, isolated := 0 }) = s5 at hclu hcluk ⊢
  have hcause := s5.cause_only Ty.clu k 2
  have hirq : ((s5.cause Ty.clu k 2).hdr Ty.clu k).irqStatus.testBit 1 = true := State.cause_irqStatus (by decide) s5 Ty.clu k
  generalize s5.cause Ty.clu k 2 = s6 at hcause hirq ⊢
  have hrel : Only (.madcs :: causeParts) s6 (when (s6.madcState k == 0) (fun t => t.madcRelease k) s6) :=
    Only.when (fun t => t.madcRelease_only k) _ s6
  have hrelhdr : (when (s6.madcState k == 0) (fun t => t.madcRelease k) s6).hdr Ty.clu k = s6.hdr Ty.clu k := by
    unfold when
    split
    · exact s6.madcRelease_hdr_other k (pageKey_clu_ne_madc hk k)
    · rfl
  generalize when (s6.madcState k == 0) (fun t => t.madcRelease k) s6 = s7 at hrel hrelhdr ⊢
  obtain ⟨honly, hsteps, ⟨-, hlanes⟩, hhdr⟩ := s7.calAdvance_kept hr
  have hclu7 : s7.clu k = { s4.clu k with step := false, isolated := 0 } := by
    rw [hrel.clu (by decide), hcause.clu (by decide), hcluk]
  refine ⟨?_, ?_, hlanes _ ?_, ?_, ?_⟩
  · rw [(hsteps k).1, hclu7]
  · rw [(hsteps k).2, hclu7]
  · rw [hrel.cal (by decide), hcause.cal (by decide), hclu.cal (by decide)]
    exact htodo3'
  · rw [hhdr _ _ (pageKey_clu_ne_cal hr k), hrelhdr]
    exact hirq
  · have h7 : s7.chans = u.chans :=
      (hrel .chans (by decide)).trans ((hcause .chans (by decide)).trans ((hclu .chans (by decide)).trans (h4 .chans (by decide))))
    exact (honly .chans (by decide)).trans h7

theorem bitList_two_pow {l : Nat} (hl : l < 8) : bitList (2 ^ l) 8 = [l] := by
  revert l
  decide

theorem exec_calClusterStepDone_lane {l : Nat} {lanes : List (List Int)} {madc : List Int} (hk : k < nClu) (hl : l < 8)
    (hstep : (s.clu k).step = true) (hslew : s.sync.slewing = false) (hhold : s.clk.holdover = false)
    (hmet : s.slewMet (s.clu k).stepAt = false) (hdue : (s.clu k).stepAt + s.stepLen k ≤ s.uptime) (hiso : (s.clu k).isolated = 2 ^ l)
    (hserv : (s.hdr Ty.pe (8 * k + l)).retired = false) :
    ∃ t : State, exec (.calClusterStepDone k lanes madc) s = .next t ∧ (t.clu k).step = false ∧ (t.clu k).isolated = 0
      ∧ (t.cal (rgnOfClu k)).todo.testBit (8 * (k % 6) + l) = false ∧ (t.hdr Ty.clu k).irqStatus.testBit 1 = true
      ∧ (∀ new, new = measuredTerms (s.chan (8 * k + l)).newestCal (s.rgnTemp (rgnOfClu k)) (lanes.getD l []) →
          timingOk new (s.chan (8 * k + l)).cal (Tbl.get {} s.nor.factory.chans (8 * k + l))
            (s.rgnTemp (rgnOfClu k) - (s.chan (8 * k + l)).cal.at_) = true →
          levelsOk new (Tbl.get {} s.nor.factory.chans (8 * k + l)) = true → (t.chan (8 * k + l)).newestCal = new) := by
  have hcovered : (bitList (s.clu k).isolated 8).filter (fun l => !(s.hdr Ty.pe (8 * k + l)).retired) = [l] := by
    simp [hiso, bitList_two_pow hl, hserv]
  obtain ⟨s1, hs1⟩ : ∃ s1, s1 = when (s.madcPart k && decide ((s.clu k).stepAt + rootUs 300 ≤ s.uptime)) (fun t => t.madcMeasured k madc)
    (s.modClu k (fun x => { x with recovery := false })) := ⟨_, rfl⟩
  have hexec : exec (.calClusterStepDone k lanes madc) s
      = .next ((s1.laneResult k l (lanes.getD l []) ((s.clu k).recovery || (s.cal (rgnOfClu k)).gradual)).stepOver k [l]) := by
    refine (onUnit_of (decide (k < nClu)) _ (decide_eq_true hk)).trans (congrArg Host.Outcome.next ?_)
    unfold State.clusterDone
    dsimp only
    rw [if_neg (by rw [hstep, hslew]; simp; omega), if_neg (by simp [hhold]), if_neg (by simp [hmet]), hcovered, ← hs1]
    rfl
  have hkept : TermsKept s s1 := by
    rw [hs1]
    have hclear : TermsKept s (s.modClu k (fun x => { x with recovery := false })) := TermsKept.modClu (fun _ => rfl)
    unfold when
    split
    · exact hclear.trans (State.madcMeasured_terms _ k madc)
    · exact hclear
  obtain ⟨h1, h2, h3, h4, hchans⟩ := State.stepOver_spec hk hl
    (s1.laneResult k l (lanes.getD l []) ((s.clu k).recovery || (s.cal (rgnOfClu k)).gradual))
  refine ⟨_, hexec, h1, h2, h3, h4, fun new hnew htiming hlevels => ?_⟩
  have hchan : ∀ ch, s1.chan ch = s.chan ch := fun ch => by rw [State.chan, State.chan, hkept.chans]
  have htemp : s1.rgnTemp (rgnOfClu k) = s.rgnTemp (rgnOfClu k) := by simp only [State.rgnTemp, hkept.temp]
  have hgood := State.laneResult_good (s := s1) (k := k) (l := l) (v := lanes.getD l [])
    (recovery := (s.clu k).recovery || (s.cal (rgnOfClu k)).gradual) (new := new) (by rw [hchan, htemp, hnew])
    (by rw [hchan, htemp, hkept.factory, htiming]) (by rw [hkept.factory, hlevels])
  rw [State.chan, hchans]
  exact hgood

end

end Sys2Proof.Machine
end

section
/-! Proofs of the statement of the family 14_calibration.md: the spine terms of a common step (14 R282 to R284, R293). -/

namespace Sys2Proof.Machine

-- In one thread: the whole text is compiled near its memory limit.
set_option Elab.async false

section
variable {s t : State} {r k : Nat} {spine : List Int}

/-- A row of operations, each on its own unit: what each establishes for its unit holds of every unit of the row. -/
theorem forEach_each {P : Nat → State → Prop} {f : Nat → State → State} (hown : ∀ i t, P i (f i t))
    (hkeep : ∀ i j t, j ≠ i → P j t → P j (f i t)) {l : List Nat} {j : Nat} (s : State) (hj : j ∈ l ∨ P j s) : P j (forEach l f s) := by
  induction l generalizing s with
  | nil => exact hj.resolve_left (by simp)
  | cons i l ih =>
    refine ih (f i s) ?_
    by_cases hji : j = i
    · exact .inr (hji ▸ hown i s)
    · exact hj.imp (fun h => (List.mem_cons.mp h).resolve_left hji) (hkeep i j s hji)

theorem mem_chansOfClu (k ch : Nat) : ch ∈ chansOfClu k ↔ ch / 8 = k := by
  simp only [chansOfClu, List.mem_map, List.mem_range]
  constructor
  · rintro ⟨i, hi, rfl⟩
    omega
  · intro h
    exact ⟨ch - 8 * k, by omega, by omega⟩

/-- The spine terms measured of cluster `k`: drive, enable, compare. -/
def spineOf (spine : List Int) (k p : Nat) : Int := spine.getD (3 * (k % 6) + p) 0

/-- The spine terms of a cluster are plausible on each of its channels. -/
def State.spinePasses (t : State) (spine : List Int) (temp : Int) (k : Nat) : Bool :=
  (chansOfClu k).all (fun ch => spineOk (spineOf spine k) (t.chan ch).cal (Tbl.get ({} : CalTerms) t.nor.factory.chans (8 * k)) temp)

/-- Plausible spine terms are taken by the channels of the cluster. -/
def State.spineTaken (t : State) (spine : List Int) (temp : Int) (gradual : Bool) (k : Nat) : State :=
  forEach (chansOfClu k) (fun ch u => u.applyTerms ch { (u.chan ch).newestCal with
    spDrive := spineOf spine k 0, spEnable := spineOf spine k 1, spCompare := spineOf spine k 2, spAt := temp } gradual)
    (t.modClu k (fun x => { x with spineFailed := false }))

/-- The spine terms of a cluster judged. -/
def State.spineStep (spine : List Int) (temp : Int) (r : Nat) (gradual : Bool) (k : Nat) (t : State) : State :=
  if t.spinePasses spine temp k then t.spineTaken spine temp gradual k
  else
    ((t.calFail r Code.calPlaus).transient kSpine k Code.calPlaus Ty.clu k none 0 (t.clu k).spineFailed true).modClu k
      (fun x => { x with spineFailed := true })

/-- The newest terms of a channel hold the spine terms measured. -/
def State.spineIn (t : State) (spine : List Int) (ch : Nat) : Prop :=
  (t.chan ch).newestCal.spDrive = spineOf spine (ch / 8) 0 ∧ (t.chan ch).newestCal.spCompare = spineOf spine (ch / 8) 2

theorem State.spineTaken_spec (t : State) (spine : List Int) (temp : Int) (gradual : Bool) (k : Nat) :
    (∀ ch, ch / 8 = k → (t.spineTaken spine temp gradual k).spineIn spine ch)
      ∧ (∀ ch, ch / 8 ≠ k → (t.spineTaken spine temp gradual k).chan ch = t.chan ch)
      ∧ Only [.chans, .clus] t (t.spineTaken spine temp gradual k) := by
  have hclu := t.modClu_only k (fun x => { x with spineFailed := false })
  unfold State.spineTaken
  generalize t.modClu k (fun x => { x with spineFailed := false }) = u at hclu ⊢
  refine ⟨fun ch hch => ?_, fun ch hch => ?_, ?_⟩
  · have htaken := forEach_each (l := chansOfClu k) (P := fun ch u => (u.chan ch).newestCal.spDrive = spineOf spine k 0
        ∧ (u.chan ch).newestCal.spCompare = spineOf spine k 2)
      (f := fun ch u => u.applyTerms ch { (u.chan ch).newestCal with
        spDrive := spineOf spine k 0, spEnable := spineOf spine k 1, spCompare := spineOf spine k 2, spAt := temp } gradual)
      (fun ch v => by
        rw [(v.applyTerms_spec ch _ gradual).1]
        exact ⟨rfl, rfl⟩)
      (fun ch j v hj h => by
        rw [(v.applyTerms_spec ch _ gradual).2.1 j hj]
        exact h) u (.inl ((mem_chansOfClu k ch).mpr hch))
    rw [← hch] at htaken ⊢
    exact htaken
  · refine forEach_mem (P := fun v => v.chan ch = t.chan ch) (fun i hi v hv => ?_) (hclu.chan (by decide) ch)
    rw [(v.applyTerms_spec i _ gradual).2.1 ch (fun h => hch (by rw [h]; exact (mem_chansOfClu k i).mp hi)), hv]
  · exact hclu.comp (Only.forEach (fun ch v => (v.applyTerms_spec ch _ gradual).2.2) _ u)

/-- Clusters whose spine terms all pass: each channel of them takes them, the others stay. -/
theorem State.spineSteps_spec {temp : Int} {gradual : Bool} {l : List Nat} (hl : l.Nodup) (t : State)
    (hpass : ∀ k ∈ l, t.spinePasses spine temp k = true) :
    (∀ ch, ch / 8 ∈ l → (forEach l (State.spineStep spine temp r gradual) t).spineIn spine ch)
      ∧ (∀ ch, ch / 8 ∉ l → (forEach l (State.spineStep spine temp r gradual) t).chan ch = t.chan ch)
      ∧ Only [.chans, .clus] t (forEach l (State.spineStep spine temp r gradual) t) := by
  induction l generalizing t with
  | nil => exact ⟨fun _ h => absurd h (by simp), fun _ _ => rfl, Only.refl _ t⟩
  | cons k l ih =>
    obtain ⟨hk, hl⟩ := List.nodup_cons.mp hl
    have hstep : State.spineStep spine temp r gradual k t = t.spineTaken spine temp gradual k := if_pos (hpass k (by simp))
    obtain ⟨hin, hother, honly⟩ := t.spineTaken_spec spine temp gradual k
    rw [forEach_cons, hstep]
    have hpass' : ∀ j ∈ l, (t.spineTaken spine temp gradual k).spinePasses spine temp j = true := fun j hj => by
      have hj' := hpass j (by simp [hj])
      rw [State.spinePasses, List.all_eq_true] at hj' ⊢
      intro ch hch
      rw [honly .nor (by decide), hother ch (fun h => hk (by rw [← h, (mem_chansOfClu j ch).mp hch]; exact hj))]
      exact hj' ch hch
    obtain ⟨hin', hother', honly'⟩ := ih hl (t.spineTaken spine temp gradual k) hpass'
    refine ⟨fun ch hch => ?_, fun ch hch => ?_, honly.trans honly'⟩
    · rcases List.mem_cons.mp hch with hck | hcl
      · have hstay := hother' ch (by rw [hck]; exact hk)
        have := hin ch hck
        rw [State.spineIn] at this ⊢
        rw [hstay]
        exact this
      · exact hin' ch hcl
    · rw [List.mem_cons, not_or] at hch
      rw [hother' ch hch.2, hother ch hch.1]

theorem State.calCommon_good {vref vbg : Int} (hstate : (s.cal r).state = 2)
    (hvref : 1000000 ≤ vref) (hwithin : withinI ((vref - vbg) * 200) vbg = true) (hhold : s.clk.holdover = false)
    (hslew : s.sync.slewing = false) (hmet : s.slewMet (s.cal r).stepAt = false) (hdue : (s.cal r).stepAt + rootUs 600 ≤ s.uptime) :
    s.calCommon r vref vbg spine = ((forEach (clusOfRgn r) (State.spineStep spine (s.rgnTemp r) r (s.cal r).gradual) s).modCal r
      (fun c => { c with state := 3, common := true })).calAdvance r := by
  have hfirst : ¬ ((s.cal r).state ≠ 2 ∨ s.uptime < (s.cal r).stepAt + rootUs 200) := by
    have hus : rootUs 200 ≤ rootUs 600 := by decide
    rw [hstate]
    omega
  unfold State.calCommon
  dsimp only
  rw [if_neg hfirst, if_neg (by rw [hwithin]; simp; omega), if_neg (by rw [hslew]; simp; omega), if_neg (by simp [hhold]), if_neg (by simp [hmet])]
  rfl

theorem exec_calCommonStepDone_good {vref vbg : Int} (hr : r < 4) (hstate : (s.cal r).state = 2)
    (hvref : 1000000 ≤ vref) (hwithin : withinI ((vref - vbg) * 200) vbg = true) (hhold : s.clk.holdover = false)
    (hslew : s.sync.slewing = false) (hmet : s.slewMet (s.cal r).stepAt = false) (hdue : (s.cal r).stepAt + rootUs 600 ≤ s.uptime)
    (hterms : ∀ ch, ch < nChan → ch / 48 = r → ∀ k, k = ch / 8 → ∀ c, c = (s.chan ch).cal → ∀ f, f = Tbl.get {} s.nor.factory.chans (8 * k) →
      termOk 400 (spine.getD (3 * (k % 6)) 0) c.spDrive f.spDrive (s.rgnTemp r - c.spAt) = true
      ∧ termOk 400 (spine.getD (3 * (k % 6) + 1) 0) c.spEnable f.spEnable (s.rgnTemp r - c.spAt) = true
      ∧ termOk 400 (spine.getD (3 * (k % 6) + 2) 0) c.spCompare f.spCompare (s.rgnTemp r - c.spAt) = true) :
    ∃ t : State, exec (.calCommonStepDone r vref vbg spine) s = .next t ∧ (t.cal r).common = true ∧ t.err = s.err
      ∧ (∀ ch, ch / 48 = r → (t.chan ch).newestCal.spDrive = spine.getD (3 * (ch / 8 % 6)) 0
          ∧ (t.chan ch).newestCal.spCompare = spine.getD (3 * (ch / 8 % 6) + 2) 0) := by
  have hexec : exec (.calCommonStepDone r vref vbg spine) s = .next (s.calCommon r vref vbg spine) :=
    onUnit_of (decide (r < nRgn)) _ (decide_eq_true hr)
  rw [State.calCommon_good hstate hvref hwithin hhold hslew hmet hdue] at hexec
  have hpass : ∀ k ∈ clusOfRgn r, s.spinePasses spine (s.rgnTemp r) k = true := fun k hk => by
    rw [State.spinePasses, List.all_eq_true]
    intro ch hch
    have hkr := (mem_clusOfRgn r k).mp hk
    have hck := (mem_chansOfClu k ch).mp hch
    have hlt : ch < nChan := by
      show ch < 192
      omega
    obtain ⟨h1, h2, h3⟩ := hterms ch hlt (by omega) k hck.symm _ rfl _ rfl
    rw [spineOk]
    rw [Bool.and_eq_true, Bool.and_eq_true]
    exact ⟨⟨h1, h2⟩, h3⟩
  obtain ⟨hin, -, honly⟩ := State.spineSteps_spec (r := r) (gradual := (s.cal r).gradual) (clusOfRgn_nodup r) s hpass
  generalize forEach (clusOfRgn r) (State.spineStep spine (s.rgnTemp r) r (s.cal r).gradual) s = u at hexec hin honly
  have hmark := u.modCal_only r (fun c => { c with state := 3, common := true })
  have hcommon : ((u.modCal r (fun c => { c with state := 3, common := true })).cal r).common = true := by
    rw [State.modCal_cal, if_pos rfl]
  generalize u.modCal r (fun c => { c with state := 3, common := true }) = v at hexec hmark hcommon
  obtain ⟨hlast, -, ⟨hkept, -⟩, -⟩ := v.calAdvance_kept hr
  refine ⟨_, hexec, hkept.trans hcommon, ?_, fun ch hch => ?_⟩
  · exact (hlast .err (by decide)).trans ((hmark .err (by decide)).trans (honly .err (by decide)))
  · rw [hlast.chan (by decide), hmark.chan (by decide)]
    exact hin ch ((mem_clusOfRgn r _).mpr (by omega))

end

end Sys2Proof.Machine
end

section
/-! Proofs of the statement of the family 14_calibration.md: the reference plane and the end of the CAL sequence (14 R290 to R292). -/

namespace Sys2Proof.Machine

-- In one thread: the whole text is compiled near its memory limit.
set_option Elab.async false

section
variable {s : State}

/-! ### Environment checks and reflections (14 R291, R292) -/

/-- The move to the plausibility phase changes of the sequence's page its state and progress alone. -/
theorem State.reflectAdvance_keep {α : Type} {f : Cal → α} (hf : ∀ (c : Cal) a b, f { c with state := a, done := b } = f c) (s : State) :
    f (s.reflectAdvance.cal 4) = f (s.cal 4) ∧ Only [.cals, .nor] s s.reflectAdvance := by
  have hmod := s.modCal_only 4 (fun c => { c with state := 9, done := 0 })
  unfold State.reflectAdvance
  dsimp only
  split
  · have hnor : Only [.nor] (s.modCal 4 (fun c => { c with state := 9, done := 0 }))
        (forEach [0, 1, 2, 3, 4] (fun r t => t.norWrite r) (s.modCal 4 (fun c => { c with state := 9, done := 0 }))) :=
      Only.forEach (fun r t => t.norWrite_only r) _ _
    refine ⟨?_, hmod.comp hnor⟩
    rw [hnor.cal (by decide), State.modCal_cal, if_pos rfl, hf]
  · exact ⟨rfl, Only.refl _ s⟩

/-- A lane's environment is outside its limits. -/
def envBad (m : Int × Int × Int) : Bool := !(withinI m.1 50000 && withinI m.2.1 500 && withinI m.2.2 500)

theorem envBad_of_volts {m : Int × Int × Int} (h : ¬ (-50000 ≤ m.1 ∧ m.1 ≤ 50000)) : envBad m = true := by
  simp [envBad, withinI, h]

theorem envBad_of_limits {m : Int × Int × Int} (h1 : -50000 ≤ m.1 ∧ m.1 ≤ 50000) (h2 : -500 ≤ m.2.1 ∧ m.2.1 ≤ 500)
    (h3 : -500 ≤ m.2.2 ∧ m.2.2 ≤ 500) : envBad m = false := by
  simp [envBad, withinI, h1, h2, h3]

/-- A lane's environment check. -/
def State.envLane (k : Nat) (v : List (Int × Int × Int)) (l : Nat) (t : State) : State :=
  let t1 := t.modClu k (fun x => { x with lanes := Tbl.upd {} x.lanes l (fun y => { y with env := envBad (v.getD l (0, 0, 0)) }) })
  if envBad (v.getD l (0, 0, 0)) then
    ((t1.calFail 4 Code.calEnv).modCal 4 (fun c => { c with refused := Tbl.set 0 c.refused (8 * k + l) 1 })).raise Code.calEnv Ty.pe (8 * k + l)
      (siteOpt (t1.chOwner (8 * k + l)))
  else t1

/-- What the sequence's page holds once a bad lane is refused. -/
def Cal.refuse (ch : Nat) (c : Cal) : Cal := { c with failed := true, lastErr := Code.calEnv, refused := Tbl.set 0 c.refused ch 1 }

theorem State.envLane_spec (k : Nat) (v : List (Int × Int × Int)) (l : Nat) (t : State) (hstate : (t.cal 4).state ≠ 6) :
    (t.envLane k v l).cal 4 = (if envBad (v.getD l (0, 0, 0)) then (t.cal 4).refuse (8 * k + l) else t.cal 4)
      ∧ (t.envLane k v l).chans = t.chans := by
  have hclu := t.modClu_only k (fun x => { x with lanes := Tbl.upd {} x.lanes l (fun y => { y with env := envBad (v.getD l (0, 0, 0)) }) })
  unfold State.envLane
  dsimp only
  generalize t.modClu k (fun x => { x with lanes := Tbl.upd {} x.lanes l (fun y => { y with env := envBad (v.getD l (0, 0, 0)) }) }) = u at hclu ⊢
  have hcal := hclu.cal (by decide) 4
  split
  · have hfail : u.calFail 4 Code.calEnv = u.modCal 4 (fun c => { c with failed := true, lastErr := Code.calEnv }) :=
      if_neg (by rw [hcal]; exact hstate)
    rw [hfail]
    have hraise := State.raise_only ((u.modCal 4 (fun c => { c with failed := true, lastErr := Code.calEnv })).modCal 4
      (fun c => { c with refused := Tbl.set 0 c.refused (8 * k + l) 1 })) Code.calEnv Ty.pe (8 * k + l) (siteOpt (u.chOwner (8 * k + l))) 0
    refine ⟨?_, (hraise .chans (by decide)).trans (hclu .chans (by decide))⟩
    rw [hraise.cal (by decide), State.modCal_cal, if_pos rfl, State.modCal_cal, if_pos rfl, hcal]
    rfl
  · exact ⟨hcal, hclu .chans (by decide)⟩

/-- The sequence's page after a lane's check. -/
def Cal.envJudge (k : Nat) (v : List (Int × Int × Int)) (c : Cal) (l : Nat) : Cal :=
  if envBad (v.getD l (0, 0, 0)) then c.refuse (8 * k + l) else c

theorem Cal.envJudge_state (k : Nat) (v : List (Int × Int × Int)) (c : Cal) (l : Nat) :
    (c.envJudge k v l).state = c.state ∧ (c.envJudge k v l).todo = c.todo := by
  unfold Cal.envJudge
  split <;> exact ⟨rfl, rfl⟩

theorem Cal.envJudge_refused (k : Nat) (v : List (Int × Int × Int)) (c : Cal) (l j : Nat) :
    Tbl.get 0 (c.envJudge k v l).refused (8 * k + j)
      = if j = l ∧ envBad (v.getD l (0, 0, 0)) = true then 1 else Tbl.get 0 c.refused (8 * k + j) := by
  unfold Cal.envJudge
  split
  next hbad =>
    by_cases hj : j = l
    · rw [if_pos ⟨hj, hbad⟩, hj, Cal.refuse, Tbl.get_set_same]
    · rw [if_neg (fun h => hj h.1), Cal.refuse, Tbl.get_set_ne _ _ _ _ (by omega)]
  next hbad => rw [if_neg (fun h => hbad h.2)]

theorem State.envLanes_cal (k : Nat) (v : List (Int × Int × Int)) (live : List Nat) (t : State) (hstate : (t.cal 4).state ≠ 6) :
    (forEach live (State.envLane k v) t).cal 4 = live.foldl (Cal.envJudge k v) (t.cal 4)
      ∧ (forEach live (State.envLane k v) t).chans = t.chans := by
  induction live generalizing t with
  | nil => exact ⟨rfl, rfl⟩
  | cons l live ih =>
    obtain ⟨hcal, hchans⟩ := State.envLane_spec k v l t hstate
    obtain ⟨hcal', hchans'⟩ := ih (State.envLane k v l t) (by
      rw [hcal]
      exact (((t.cal 4).envJudge_state k v l).1).symm ▸ hstate)
    rw [forEach_cons, List.foldl_cons]
    refine ⟨hcal'.trans ?_, hchans'.trans hchans⟩
    rw [hcal]
    rfl

/-- A row of lanes judged: bad ones are refused and named, the others stay as they were. -/
theorem Cal.envJudges_spec (k : Nat) (v : List (Int × Int × Int)) (live : List Nat) (c : Cal) :
    (live.foldl (Cal.envJudge k v) c).state = c.state ∧ (live.foldl (Cal.envJudge k v) c).todo = c.todo
      ∧ (∀ l ∈ live, envBad (v.getD l (0, 0, 0)) = true → Tbl.get 0 (live.foldl (Cal.envJudge k v) c).refused (8 * k + l) = 1)
      ∧ (∀ l, (l ∉ live ∨ envBad (v.getD l (0, 0, 0)) = false) →
          Tbl.get 0 (live.foldl (Cal.envJudge k v) c).refused (8 * k + l) = Tbl.get 0 c.refused (8 * k + l))
      ∧ (((∃ l ∈ live, envBad (v.getD l (0, 0, 0)) = true) ∨ c.failed = true ∧ c.lastErr = Code.calEnv) →
          (live.foldl (Cal.envJudge k v) c).failed = true ∧ (live.foldl (Cal.envJudge k v) c).lastErr = Code.calEnv) := by
  induction live generalizing c with
  | nil => exact ⟨rfl, rfl, fun _ h => absurd h (by simp), fun _ _ => rfl, fun h => h.resolve_left (by simp)⟩
  | cons i live ih =>
    obtain ⟨hstate, htodo, hbad, hgood, hnamed⟩ := ih (c.envJudge k v i)
    obtain ⟨hs, ht⟩ := c.envJudge_state k v i
    rw [List.foldl_cons]
    refine ⟨hstate.trans hs, htodo.trans ht, fun l hl hb => ?_, fun l hl => ?_, fun h => hnamed ?_⟩
    · by_cases hmem : l ∈ live
      · exact hbad l hmem hb
      · obtain rfl := (List.mem_cons.mp hl).resolve_right hmem
        rw [hgood l (.inl hmem), Cal.envJudge_refused, if_pos ⟨rfl, hb⟩]
    · rw [hgood l (hl.imp (fun h hm => h (List.mem_cons_of_mem i hm)) id), Cal.envJudge_refused, if_neg]
      rintro ⟨rfl, hb⟩
      exact hl.elim (fun h => h (by simp)) (fun h => Bool.false_ne_true (h.symm.trans hb))
    · by_cases hi : envBad (v.getD i (0, 0, 0)) = true
      · refine .inr ?_
        rw [Cal.envJudge, if_pos hi]
        exact ⟨rfl, rfl⟩
      · rw [Cal.envJudge, if_neg hi]
        refine h.imp (fun ⟨l, hl, hb⟩ => ⟨l, (List.mem_cons.mp hl).resolve_left ?_, hb⟩) id
        rintro rfl
        exact hi hb

/-- What follows the lanes' checks of a cluster: the cluster leaves the phase, and the phase ends with the last. -/
def State.envOver (s1 : State) (k up n : Nat) : State :=
  let s2 := (s1.modCal 4 (fun c => { c with todo := clearMask c.todo (2 ^ k), done := c.done + n })).modCal (rgnOfClu k) (fun c => { c with stepAt := up })
  if (s2.cal 4).todo = 0 then
    (forEach [0, 1, 2, 3] (fun r t => t.modCal r (fun c => { c with stepAt := up }))
      (s2.modCal 4 (fun c => { c with state := 8, done := 0 }))).reflectAdvance
  else s2

theorem State.envOver_spec {k : Nat} (hk : k < nClu) (s1 : State) (up n : Nat) :
    ((s1.envOver k up n).cal 4).todo = clearMask (s1.cal 4).todo (2 ^ k) ∧ ((s1.envOver k up n).cal 4).refused = (s1.cal 4).refused
      ∧ ((s1.envOver k up n).cal 4).failed = (s1.cal 4).failed ∧ ((s1.envOver k up n).cal 4).lastErr = (s1.cal 4).lastErr
      ∧ (s1.envOver k up n).chans = s1.chans := by
  have hr : 4 ≠ rgnOfClu k := by
    have : k < 24 := hk
    show 4 ≠ k / 6
    omega
  have hfirst := s1.modCal_only 4 (fun c => { c with todo := clearMask c.todo (2 ^ k), done := c.done + n })
  have hcal1 : (s1.modCal 4 (fun c => { c with todo := clearMask c.todo (2 ^ k), done := c.done + n })).cal 4
      = { s1.cal 4 with todo := clearMask (s1.cal 4).todo (2 ^ k), done := (s1.cal 4).done + n } := by
    rw [State.modCal_cal, if_pos rfl]
  unfold State.envOver
  dsimp only
  generalize s1.modCal 4 (fun c => { c with todo := clearMask c.todo (2 ^ k), done := c.done + n }) = u at hfirst hcal1 ⊢
  have hsecond := u.modCal_only (rgnOfClu k) (fun c => { c with stepAt := up })
  have hcal2 : (u.modCal (rgnOfClu k) (fun c => { c with stepAt := up })).cal 4 = u.cal 4 := by rw [State.modCal_cal, if_neg hr]
  generalize u.modCal (rgnOfClu k) (fun c => { c with stepAt := up }) = w at hsecond hcal2 ⊢
  have hchans : w.chans = s1.chans := (hsecond .chans (by decide)).trans (hfirst .chans (by decide))
  rw [hcal1] at hcal2
  split
  · have hthird := w.modCal_only 4 (fun c => { c with state := 8, done := 0 })
    have hcal3 : (w.modCal 4 (fun c => { c with state := 8, done := 0 })).cal 4 = { w.cal 4 with state := 8, done := 0 } := by
      rw [State.modCal_cal, if_pos rfl]
    generalize w.modCal 4 (fun c => { c with state := 8, done := 0 }) = x at hthird hcal3 ⊢
    have hsteps : Only [.cals] x (forEach [0, 1, 2, 3] (fun r t => t.modCal r (fun c => { c with stepAt := up })) x) :=
      Only.forEach (fun r t => t.modCal_only r _) _ x
    have hcal4 : (forEach [0, 1, 2, 3] (fun r t => t.modCal r (fun c => { c with stepAt := up })) x).cal 4 = x.cal 4 :=
      forEach_mem (P := fun t => t.cal 4 = x.cal 4) (fun i hi t ht => by
        rw [State.modCal_cal, if_neg (by simp at hi; omega), ht]) rfl
    generalize forEach [0, 1, 2, 3] (fun r t => t.modCal r (fun c => { c with stepAt := up })) x = y at hsteps hcal4 ⊢
    obtain ⟨hkeep, honly⟩ := State.reflectAdvance_keep (f := fun c => (c.todo, c.refused, c.failed, c.lastErr)) (fun _ _ _ => rfl) y
    rw [hcal4, hcal3, hcal2] at hkeep
    simp only [Prod.mk.injEq] at hkeep
    obtain ⟨h1, h2, h3, h4⟩ := hkeep
    exact ⟨h1, h2, h3, h4, (honly .chans (by decide)).trans ((hsteps .chans (by decide)).trans ((hthird .chans (by decide)).trans hchans))⟩
  · rw [hcal2]
    exact ⟨rfl, rfl, rfl, rfl, hchans⟩

theorem testBit_clearMask_two_pow {k : Nat} (hk : k < 32) (w : Nat) : (clearMask w (2 ^ k)).testBit k = false := by
  rw [clearMask, Nat.testBit_and, Nat.testBit_xor, Nat.testBit_and, Nat.testBit_two_pow_sub_one, Nat.testBit_two_pow_self, decide_eq_true hk]
  simp

theorem exec_calEnvCheckDone_spec {k : Nat} {v : List (Int × Int × Int)} (hk : k < nClu) (hstate : (s.cal 4).state = 7)
    (htodo : (s.cal 4).todo.testBit k = true) (hturn : ∀ j, j < k → j / 6 = k / 6 → (s.cal 4).todo.testBit j = false)
    (hdue : (s.cal (k / 6)).stepAt + rootUs 5000 ≤ s.uptime) :
    ∃ t : State, exec (.calEnvCheckDone k v) s = .next t ∧ ((t.cal 4).state = 7 → (t.cal 4).todo.testBit k = false)
      ∧ (∀ l, l < 8 → s.planeChans.contains (8 * k + l) = true →
          ¬ (-50000 ≤ (v.getD l (0, 0, 0)).1 ∧ (v.getD l (0, 0, 0)).1 ≤ 50000) →
          Tbl.get 0 (t.cal 4).refused (8 * k + l) = 1 ∧ (t.cal 4).failed = true ∧ (t.cal 4).lastErr = Code.calEnv)
      ∧ (∀ l, l < 8 → -50000 ≤ (v.getD l (0, 0, 0)).1 → (v.getD l (0, 0, 0)).1 ≤ 50000 → -500 ≤ (v.getD l (0, 0, 0)).2.1 →
          (v.getD l (0, 0, 0)).2.1 ≤ 500 → -500 ≤ (v.getD l (0, 0, 0)).2.2 → (v.getD l (0, 0, 0)).2.2 ≤ 500 →
          Tbl.get 0 (t.cal 4).refused (8 * k + l) = Tbl.get 0 (s.cal 4).refused (8 * k + l))
      ∧ t.chans = s.chans := by
  have hfirst : (clusOfRgn (rgnOfClu k)).any (fun j => decide (j < k) && bit (s.cal 4).todo j) = false := by
    rw [List.any_eq_false]
    intro j hj
    by_cases hjk : j < k
    · simp [bit, hturn j hjk ((mem_clusOfRgn _ j).mp hj)]
    · simp [hjk]
  have hexec : exec (.calEnvCheckDone k v) s = .next ((forEach ((List.range 8).filter (fun l => s.planeChans.contains (8 * k + l)))
      (State.envLane k v) s).envOver k s.uptime ((List.range 8).filter (fun l => s.planeChans.contains (8 * k + l))).length) := by
    refine (onUnit_of (decide (k < nClu)) _ (decide_eq_true hk)).trans (congrArg Host.Outcome.next ?_)
    unfold State.envDone
    dsimp only
    rw [if_neg (by
      rw [hfirst]
      simp only [hstate, ne_eq, not_true, bit, htodo, Bool.false_eq_true, false_or, not_lt]
      exact hdue)]
    rfl
  generalize hlive : (List.range 8).filter (fun l => s.planeChans.contains (8 * k + l)) = live at hexec
  obtain ⟨hcal, hchans⟩ := s.envLanes_cal k v live (by rw [hstate]; decide)
  generalize forEach live (State.envLane k v) s = u at hexec hcal hchans
  obtain ⟨htodo', hrefused, hfailed, herr, hchans'⟩ := u.envOver_spec hk s.uptime live.length
  obtain ⟨-, -, hbad, hgood, hnamed⟩ := Cal.envJudges_spec k v live (s.cal 4)
  rw [← hcal] at hbad hgood hnamed
  refine ⟨_, hexec, fun _ => ?_, fun l hl hplane hout => ?_, fun l hl h1 h2 h3 h4 h5 h6 => ?_, hchans'.trans hchans⟩
  · rw [htodo']
    exact testBit_clearMask_two_pow (Nat.lt_trans hk (by decide)) _
  · have hb := envBad_of_volts hout
    have hmem : l ∈ live := by
      rw [← hlive, List.mem_filter, List.mem_range]
      exact ⟨hl, hplane⟩
    obtain ⟨hf, he⟩ := hnamed (.inl ⟨l, hmem, hb⟩)
    rw [hrefused, hfailed, herr]
    exact ⟨hbad l hmem hb, hf, he⟩
  · rw [hrefused]
    exact hgood l (.inr (envBad_of_limits ⟨h1, h2⟩ ⟨h3, h4⟩ ⟨h5, h6⟩))

end

end Sys2Proof.Machine
end

section
/-! Proofs of the statement of the family 14_calibration.md: reflections, the end of the CAL sequence, and the load of records (14 R290, R292,
R294, R300). -/

namespace Sys2Proof.Machine

-- In one thread: the whole text is compiled near its memory limit.
set_option Elab.async false

section
variable {s : State} {ch : Nat}

/-! ### A reflection (14 R292) -/

/-- A cluster page once the reflection of its lane `l` has passed. -/
def Clu.reflected (l at_ : Nat) (x : Clu) : Clu :=
  { x with lanes := Tbl.upd {} x.lanes l (fun y => { y.judge at_ false with reflFailed := false }) }

/-- A channel's plane term measured, to wait for the end of the sequence. -/
def Chan.reflected (since up : Nat) (tau : Int) (x : Chan) : Chan := x.await since up { x.newestCal with tau := tau }

/-- A clean reflection within its limits stored. -/
def State.reflected (s : State) (ch : Nat) (tau : Int) : State :=
  ((((s.modCal 4 (fun c => { c with done := c.done + 1 })).modCal (rgnOfCh ch) (fun c => { c with stepAt := s.uptime })).modClu (cluOf ch)
    (Clu.reflected (laneOf ch) (s.cal 4).startAt)).modCal 4 (fun c => { c with planes := Tbl.set none c.planes ch (some tau) })).modChan ch
    (Chan.reflected (s.cal 4).startAt s.up tau)

theorem State.reflected_spec (s : State) (ch : Nat) (tau : Int) : Tbl.get none ((s.reflected ch tau).cal 4).planes ch = some tau
    ∧ (s.reflected ch tau).chan ch = (s.chan ch).reflected (s.cal 4).startAt s.up tau
    ∧ (∀ c, c ≠ ch → (s.reflected ch tau).chan c = s.chan c) ∧ Only [.cals, .clus, .chans] s (s.reflected ch tau) := by
  have hpages := ((s.modCal_only 4 (fun c => { c with done := c.done + 1 })).trans
    (State.modCal_only _ (rgnOfCh ch) (fun c => { c with stepAt := s.uptime }))).comp
    (State.modClu_only _ (cluOf ch) (Clu.reflected (laneOf ch) (s.cal 4).startAt)) (n := [.cals, .clus])
  unfold State.reflected
  generalize ((s.modCal 4 (fun c => { c with done := c.done + 1 })).modCal (rgnOfCh ch) (fun c => { c with stepAt := s.uptime })).modClu
    (cluOf ch) (Clu.reflected (laneOf ch) (s.cal 4).startAt) = u at hpages ⊢
  have hplane := u.modCal_only 4 (fun c => { c with planes := Tbl.set none c.planes ch (some tau) })
  have hbefore : Only [.cals, .clus] s (u.modCal 4 (fun c => { c with planes := Tbl.set none c.planes ch (some tau) })) := hpages.comp hplane
  refine ⟨?_, ?_, fun c hc => ?_, hbefore.comp (State.modChan_only _ ch _)⟩
  · rw [State.modChan_cal, State.modCal_cal, if_pos rfl, Tbl.get_set_same]
  · rw [State.modChan_chan_same, hbefore.chan (by decide)]
  · rw [State.modChan_chan_ne _ hc, hbefore.chan (by decide)]

theorem exec_calReflectDone_clean {sum spread : Int} (hch : ch < nChan) (hstate : (s.cal 4).state = 8)
    (hplane : s.planeChans.contains ch = true)
    (hturn : ∀ j, j < ch → j / 48 = ch / 48 → s.planeChans.contains j = true → (s.cal 4).settled j = true)
    (hdue : (s.cal (ch / 48)).stepAt + rootUs 2500 ≤ s.uptime) (hrefused : Tbl.get 0 (s.cal 4).refused ch = 0)
    (hplanes : Tbl.get none (s.cal 4).planes ch = none) (hspread : spread ≤ 64) (hlow : 0 ≤ roundDiv sum 512)
    (hhigh : roundDiv sum 512 ≤ 20480) :
    ∃ t : State, exec (.calReflectDone ch sum spread true) s = .next t ∧ Tbl.get none (t.cal 4).planes ch = some (roundDiv sum 512)
      ∧ (t.chan ch).newestCal = { (s.chan ch).newestCal with tau := roundDiv sum 512 } ∧ (t.chan ch).cal = (s.chan ch).cal
      ∧ (∀ c, c ≠ ch → t.chan c = s.chan c) ∧ Only [.cals, .clus, .chans, .nor] s t := by
  have hsettled : (s.cal 4).settled ch = false := by simp [Cal.settled, hplanes, hrefused]
  have hfirst : s.planeChans.any (fun j => rgnOfCh j == rgnOfCh ch && decide (j < ch) && !(s.cal 4).settled j) = false := by
    rw [List.any_eq_false]
    intro j hj
    by_cases hjc : j < ch ∧ j / 48 = ch / 48
    · simp [hturn j hjc.1 hjc.2 (by simpa using hj)]
    · simp only [Bool.and_eq_true, beq_iff_eq, decide_eq_true_eq, rgnOfCh]
      exact fun h => hjc ⟨h.1.2, h.1.1⟩
  have hexec : exec (.calReflectDone ch sum spread true) s = .next ((s.reflected ch (roundDiv sum 512)).reflectAdvance) := by
    refine (onUnit_of (decide (ch < nChan)) _ (decide_eq_true hch)).trans (congrArg Host.Outcome.next ?_)
    unfold State.reflectDone
    dsimp only
    rw [if_neg (by
        rw [hfirst]
        simp only [hstate, ne_eq, not_true, hplane, hsettled, Bool.false_eq_true, false_or, not_lt]
        exact hdue), if_pos ⟨rfl, hspread, hlow, hhigh⟩]
    rfl
  obtain ⟨hset, hown, hother, honly⟩ := s.reflected_spec ch (roundDiv sum 512)
  obtain ⟨hkeep, hlast⟩ := State.reflectAdvance_keep (f := Cal.planes) (fun _ _ _ => rfl) (s.reflected ch (roundDiv sum 512))
  refine ⟨_, hexec, ?_, ?_, ?_, fun c hc => ?_, honly.comp hlast⟩
  · rw [hkeep, hset]
  · rw [hlast.chan (by decide), hown]
    rfl
  · rw [hlast.chan (by decide), hown]
    rfl
  · rw [hlast.chan (by decide), hother c hc]

/-! ### The end of the sequence (14 R290, R294) -/

/-- A channel whose newest terms come into force. -/
def Chan.settle (now : Int) (x : Chan) : Chan :=
  { x.setCal now x.newestCal with calNext := none, calOld := none, calSlew := false, calStale := false }

/-- The end of a free run of one channel leaves the others, but at READY. -/
theorem State.endRun_chan_other (s : State) {ch c : Nat} (hmode : s.glb.mode ≠ .ready) (hc : c ≠ ch) : (s.endRun ch).chan c = s.chan c := by
  have hother : ((s.modChan ch (fun c => Chan.boundary s.now { c with frRun := false, frAnch := false, frStop := false, frShift := 0 })).cause
      Ty.tg ch 8).chan c = s.chan c := by
    rw [State.cause_chan, s.modChan_chan_ne hc]
  have hglb : ((s.modChan ch (fun c => Chan.boundary s.now { c with frRun := false, frAnch := false, frStop := false, frShift := 0 })).cause
      Ty.tg ch 8).glb = s.glb := by
    rw [State.cause_glb, State.modChan_glb]
  unfold State.endRun
  split
  · dsimp only
    rw [hglb, beq_eq_false_iff_ne.mpr hmode]
    exact hother
  · rfl

theorem State.endRun_stopped (s : State) {ch : Nat} (h : (s.chan ch).frRun = false) : s.endRun ch = s := by
  rw [State.endRun, if_neg (by simp [h])]

/-- The terms of a channel that does not free-run stay while Hi-Z begins on any channel. -/
theorem State.hizFrom_terms (s : State) (safe : Bool) {c : Nat} (ch : Nat) (hmode : s.glb.mode ≠ .ready) (hrun : (s.chan c).frRun = false) :
    ((s.hizFrom safe ch).chan c).frRun = false ∧ ((s.hizFrom safe ch).chan c).cal = (s.chan c).cal
      ∧ ((s.hizFrom safe ch).chan c).calNext = (s.chan c).calNext := by
  have hend : (s.endRun ch).chan c = s.chan c := by
    by_cases hc : c = ch
    · rw [s.endRun_stopped (hc ▸ hrun)]
    · exact s.endRun_chan_other hmode hc
  have hmod : ∀ f : Chan → Chan, (∀ x, (f x).frRun = x.frRun ∧ (f x).cal = x.cal ∧ (f x).calNext = x.calNext) →
      (((s.endRun ch).modChan ch f).chan c).frRun = false ∧ (((s.endRun ch).modChan ch f).chan c).cal = (s.chan c).cal
        ∧ (((s.endRun ch).modChan ch f).chan c).calNext = (s.chan c).calNext := fun f hf => by
    rw [State.modChan_chan, hend]
    split
    · obtain ⟨h1, h2, h3⟩ := hf (s.chan c)
      exact ⟨h1.trans hrun, h2, h3⟩
    · exact ⟨hrun, rfl, rfl⟩
  unfold State.hizFrom
  split
  · exact hmod _ (fun _ => ⟨rfl, rfl, rfl⟩)
  · exact hmod _ (fun _ => ⟨rfl, rfl, rfl⟩)

theorem State.hizAll_terms (s : State) (safe : Bool) (l : List Nat) {c : Nat} (hmode : s.glb.mode ≠ .ready) (hrun : (s.chan c).frRun = false) :
    ((s.hizAll safe l).chan c).cal = (s.chan c).cal ∧ ((s.hizAll safe l).chan c).calNext = (s.chan c).calNext := by
  have h := forEach_mem (l := l) (f := fun ch t => t.hizFrom safe ch) (P := fun t => t.glb = s.glb ∧ (t.chan c).frRun = false
      ∧ (t.chan c).cal = (s.chan c).cal ∧ (t.chan c).calNext = (s.chan c).calNext)
    (fun ch _ t ⟨hg, hr, hc, hn⟩ => by
      obtain ⟨h1, h2, h3⟩ := t.hizFrom_terms safe ch (c := c) (by rw [hg]; exact hmode) hr
      exact ⟨((t.hizFrom_only safe ch) .glb (by decide)).trans hg, h1, h2.trans hc, h3.trans hn⟩)
    (s := s) ⟨rfl, hrun, rfl, rfl⟩
  exact ⟨h.2.2.1, h.2.2.2⟩

/-- The end of a sequence without a failed result. -/
theorem State.calEnd_passed (h : ((s.cal 4).failed) = false) :
    ((s.calEnd 4).cal 4).state = 0 ∧ ((s.calEnd 4).cal 4).lastOk = true ∧ ((s.calEnd 4).cal 4).count = min 0xFFFFFFFF ((s.cal 4).count + 1)
      ∧ ((s.calEnd 4).cal 4).lastTT = s.now ∧ Only (.cals :: causeParts) s (s.calEnd 4) := by
  have hfirst := s.modCal_only 4 (fun c => { c with gradual := false })
  have hcal : (s.modCal 4 (fun c => { c with gradual := false })).cal 4 = { s.cal 4 with gradual := false } := by
    rw [State.modCal_cal, if_pos rfl]
  unfold State.calEnd
  dsimp only
  generalize s.modCal 4 (fun c => { c with gradual := false }) = u at hfirst hcal ⊢
  have hnow : u.now = s.now := hfirst.now (by decide)
  rw [if_neg (by rw [hcal]; simp [h])]
  refine ⟨?_, ?_, ?_, ?_, (hfirst.trans (State.modCal_only _ 4 _)).comp (State.cause_only _ _ _ _)⟩
  · rw [State.cause_cal, State.modCal_cal, if_pos rfl]
  · rw [State.cause_cal, State.modCal_cal, if_pos rfl]
  · rw [State.cause_cal, State.modCal_cal, if_pos rfl, hcal]
    rfl
  · rw [State.cause_cal, State.modCal_cal, if_pos rfl, hnow]

theorem allChans_nodup : allChans.Nodup := List.nodup_range

/-- The newest terms of every channel in force. -/
def State.settleAll (s : State) : State := forEach allChans (fun ch t => t.modChan ch (Chan.settle s.now)) s

theorem State.settleAll_spec (s : State) : (∀ ch, ch < nChan → s.settleAll.chan ch = (s.chan ch).settle s.now) ∧ Only [.chans] s s.settleAll :=
  ⟨fun ch hch => (forEach_unit (read := State.chan) (g := Chan.settle s.now) (fun i t j => t.modChan_chan i _ j) allChans_nodup s ch).trans
    (if_pos (List.mem_range.mpr hch)), Only.forEach (fun ch t => t.modChan_only ch _) _ s⟩

/-- The sequence's page as it is judged, and once the sequence is over. -/
def Cal.judged (c : Cal) : Cal :=
  { c with failed := c.failed || c.spoiled, factory := c.factory && (!c.refplane || c.failed || c.spoiled) }

def Cal.over (c : Cal) : Cal := { c with planes := [], refused := [], failed := false, spoiled := false }

theorem exec_calSequenceDone_spec (hstate : (s.cal 4).state = 9) (hmode : s.glb.mode = .cal) (hbusy : s.glb.busy = false)
    (htodo : s.nor.todo = []) (hwriting : s.nor.writing = none) (hfailed : (s.cal 4).failed = false) (hspoiled : (s.cal 4).spoiled = false) :
    ∃ t : State, exec .calSequenceDone s = .next t ∧ t.glb.mode = .cal ∧ t.glb.busy = true ∧ t.glb.target = .ready ∧ (t.cal 4).state = 0
      ∧ (t.cal 4).lastOk = true ∧ (t.cal 4).count = min 0xFFFFFFFF ((s.cal 4).count + 1) ∧ (t.cal 4).lastTT = s.now
      ∧ (∀ ch, ch < nChan → (s.chan ch).frRun = false → (t.chan ch).cal = (s.chan ch).newestCal ∧ (t.chan ch).calNext = none)
      ∧ Only (([.cals, .chans, .glb] : List Part) ++ causeParts) s t := by
  have hexec : exec .calSequenceDone s = .next (((((s.settleAll.modCal 4 Cal.judged).calEnd 4).modCal 4 Cal.over).hizAll false allChans).begin .ready) := by
    refine congrArg Host.Outcome.next ?_
    unfold State.sequenceDone
    dsimp only
    rw [if_neg (by simp [hstate, hmode, hbusy, htodo, hwriting])]
    rfl
  obtain ⟨hsettled, hchans⟩ := s.settleAll_spec
  generalize s.settleAll = u at hexec hchans hsettled
  have hjudge := u.modCal_only 4 Cal.judged
  have hcal1 : (u.modCal 4 Cal.judged).cal 4 = (s.cal 4).judged := by rw [State.modCal_cal, if_pos rfl, hchans.cal (by decide)]
  have h1 : Only [.cals, .chans] s (u.modCal 4 Cal.judged) := hchans.comp hjudge
  have hchan1 : ∀ ch, (u.modCal 4 Cal.judged).chan ch = u.chan ch := fun ch => hjudge.chan (by decide) ch
  generalize u.modCal 4 Cal.judged = v at hexec hcal1 h1 hchan1
  obtain ⟨hst, hok, hcount, hlast, hend⟩ := State.calEnd_passed (s := v) (by rw [hcal1, Cal.judged, hfailed, hspoiled]; rfl)
  rw [hcal1] at hcount
  rw [h1.now (by decide)] at hlast
  generalize v.calEnd 4 = w at hexec hst hok hcount hlast hend
  have hover := w.modCal_only 4 Cal.over
  have hcal2 : (w.modCal 4 Cal.over).cal 4 = (w.cal 4).over := by rw [State.modCal_cal, if_pos rfl]
  have h2 : Only (.cals :: causeParts) v (w.modCal 4 Cal.over) := hend.comp hover
  generalize w.modCal 4 Cal.over = x at hexec hcal2 h2
  have hx : Only (([.cals, .chans, .glb] : List Part) ++ causeParts) s x := h1.comp h2
  have hglb : x.glb = s.glb := (h2 .glb (by decide)).trans (h1 .glb (by decide))
  have hterms : ∀ ch, (x.chan ch).frRun = false → ((x.hizAll false allChans).chan ch).cal = (x.chan ch).cal
      ∧ ((x.hizAll false allChans).chan ch).calNext = (x.chan ch).calNext :=
    fun ch hrun => x.hizAll_terms false allChans (by rw [hglb, hmode]; decide) hrun
  have hhiz := x.hizAll_only false allChans
  generalize x.hizAll false allChans = y at hexec hterms hhiz
  have hbegin : Only [.glb] y (y.begin .ready) := y.modGlb_only _
  have hcaly : (y.begin .ready).cal 4 = (w.cal 4).over := by rw [hbegin.cal (by decide), hhiz.cal (by decide), hcal2]
  have hglby : y.glb = s.glb := (hhiz .glb (by decide)).trans hglb
  refine ⟨_, hexec, ?_, rfl, rfl, ?_, ?_, ?_, ?_, fun ch hch hrun => ?_, (hx.comp hhiz (n := ([.cals, .chans, .glb] : List Part) ++ causeParts)).comp hbegin⟩
  · exact (congrArg Glb.mode hglby).trans hmode
  · rw [hcaly]
    exact hst
  · rw [hcaly]
    exact hok
  · rw [hcaly]
    exact hcount
  · rw [hcaly]
    exact hlast
  · have hchanx : x.chan ch = (s.chan ch).settle s.now := by rw [h2.chan (by decide), hchan1, hsettled ch hch]
    obtain ⟨hc, hn⟩ := hterms ch (by rw [hchanx]; exact hrun)
    rw [hbegin.chan (by decide), hc, hn, hchanx]
    exact ⟨rfl, rfl⟩

end

end Sys2Proof.Machine
end

section
/-! Proofs of the statement of the family 14_calibration.md: the load of records, and the statement settled (14 R300). -/

namespace Sys2Proof.Machine

-- In one thread: the whole text is compiled near its memory limit.
set_option Elab.async false

section
variable {s : State}

theorem mem_chansOfRgn (r ch : Nat) : ch ∈ chansOfRgn r ↔ ch / 48 = r := by
  simp only [chansOfRgn, List.mem_map, List.mem_range]
  constructor
  · rintro ⟨i, hi, rfl⟩
    omega
  · intro h
    exact ⟨ch - 48 * r, by omega, by omega⟩

/-! ### A region's record in force -/

/-- Terms of region `r` come from record `c`, in force. -/
structure State.Loaded (t : State) (r : Nat) (c : CalRec) (factory : Bool) : Prop where
  page : (t.cal r).tempRef = c.tempRef
  terms : ∀ ch, ch / 48 = r → (t.chan ch).cal.factory = factory ∧ (t.chan ch).cal.drive = (Tbl.get ({} : CalTerms) c.chans ch).drive

/-- A channel's terms from its entry of a record. -/
def Chan.loaded (k : CalTerms) (tempRef : Int) (factory : Bool) (x : Chan) : Chan := { x with
  cal := { k with tau := x.cal.tau, spAt := tempRef, at_ := tempRef, factory := factory }
  calNext := none, calOld := none, calSlew := false, rawLag := [] }

theorem State.calApply_spec (s : State) (r : Nat) (c : CalRec) (factory : Bool) :
    (s.calApply r c factory).Loaded r c factory ∧ (∀ ch, ch / 48 ≠ r → (s.calApply r c factory).chan ch = s.chan ch)
      ∧ (∀ j, j ≠ r → (s.calApply r c factory).cal j = s.cal j) ∧ Only [.chans, .madcs, .cals] s (s.calApply r c factory) := by
  have hchans : Only [.chans] s (forEach (chansOfRgn r) (fun ch t => t.modChan ch (Chan.loaded (Tbl.get ({} : CalTerms) c.chans ch) c.tempRef factory)) s) :=
    Only.forEach (fun ch t => t.modChan_only ch _) _ s
  have hown : ∀ ch, ch / 48 = r → ((forEach (chansOfRgn r) (fun ch t => t.modChan ch (Chan.loaded (Tbl.get ({} : CalTerms) c.chans ch) c.tempRef
      factory)) s).chan ch).cal.factory = factory ∧ ((forEach (chansOfRgn r) (fun ch t => t.modChan ch (Chan.loaded (Tbl.get ({} : CalTerms)
      c.chans ch) c.tempRef factory)) s).chan ch).cal.drive = (Tbl.get ({} : CalTerms) c.chans ch).drive := fun ch hch =>
    forEach_each (P := fun ch t => (t.chan ch).cal.factory = factory ∧ (t.chan ch).cal.drive = (Tbl.get ({} : CalTerms) c.chans ch).drive)
      (fun i t => by
        rw [State.modChan_chan_same]
        exact ⟨rfl, rfl⟩)
      (fun i j t hj h => by
        rw [State.modChan_chan_ne _ hj]
        exact h) s (.inl ((mem_chansOfRgn r ch).mpr hch))
  have hother : ∀ ch, ch / 48 ≠ r → (forEach (chansOfRgn r) (fun ch t => t.modChan ch (Chan.loaded (Tbl.get ({} : CalTerms) c.chans ch) c.tempRef
      factory)) s).chan ch = s.chan ch := fun ch hch =>
    forEach_mem (P := fun t => t.chan ch = s.chan ch) (fun i hi t ht => by
      rw [State.modChan_chan_ne _ (fun h => hch (by rw [h]; exact (mem_chansOfRgn r i).mp hi)), ht]) rfl
  have happly : s.calApply r c factory = (forEach (clusOfRgn r) (fun k t => t.modMadc k (fun m => { m with
      cal := Tbl.get [] c.madcs k, calNext := none })) (forEach (chansOfRgn r) (fun ch t => t.modChan ch (Chan.loaded (Tbl.get ({} : CalTerms)
      c.chans ch) c.tempRef factory)) s)).modCal r (fun x => { x with tempRef := c.tempRef, hostMs := c.hostMs }) := rfl
  rw [happly]
  generalize forEach (chansOfRgn r) (fun ch t => t.modChan ch (Chan.loaded (Tbl.get ({} : CalTerms) c.chans ch) c.tempRef factory)) s = u
    at hchans hown hother ⊢
  have hmadcs : Only [.madcs] u (forEach (clusOfRgn r) (fun k t => t.modMadc k (fun m => { m with
      cal := Tbl.get [] c.madcs k, calNext := none })) u) := Only.forEach (fun k t => t.modMadc_only k _) _ u
  generalize forEach (clusOfRgn r) (fun k t => t.modMadc k (fun m => { m with cal := Tbl.get [] c.madcs k, calNext := none })) u = w
    at hmadcs ⊢
  have hpage := w.modCal_only r (fun x => { x with tempRef := c.tempRef, hostMs := c.hostMs })
  have hchan : ∀ ch, (w.modCal r (fun x => { x with tempRef := c.tempRef, hostMs := c.hostMs })).chan ch = u.chan ch := fun ch => by
    rw [hpage.chan (by decide), hmadcs.chan (by decide)]
  refine ⟨⟨?_, fun ch hch => ?_⟩, fun ch hch => ?_, fun j hj => ?_, (hchans.comp hmadcs (n := [.chans, .madcs])).comp hpage⟩
  · rw [State.modCal_cal, if_pos rfl]
  · rw [hchan]
    exact hown ch hch
  · rw [hchan, hother ch hch]
  · rw [State.modCal_cal, if_neg hj, hmadcs.cal (by decide), hchans.cal (by decide)]

theorem State.Loaded.calApply {r j : Nat} {c c' : CalRec} {f f' : Bool} (h : s.Loaded j c f) (hj : j ≠ r) : (s.calApply r c' f').Loaded j c f := by
  obtain ⟨-, hchan, hcal, -⟩ := s.calApply_spec r c' f'
  refine ⟨(congrArg Cal.tempRef (hcal j hj)).trans h.page, fun ch hch => ?_⟩
  rw [hchan ch (by omega)]
  exact h.terms ch hch

theorem State.Loaded.only {t : State} {l : List Part} {r : Nat} {c : CalRec} {f : Bool} (h : s.Loaded r c f) (ht : Only l s t)
    (hchans : Part.chans ∉ l) (hpage : (t.cal r).tempRef = (s.cal r).tempRef) : t.Loaded r c f :=
  ⟨hpage.trans h.page, fun ch hch => by
    rw [ht.chan hchans]
    exact h.terms ch hch⟩

/-! ### CAL_LOAD -/

/-- A region's coefficients loaded from the newest valid slot of its record, or from FACTORY. -/
def State.calLoadRgn (s : State) (r : Nat) (t : State) : State :=
  match (s.nor.calSlots r).newest with
  | some (_, c) => t.calApply r c false
  | none => t.calApply r s.nor.factory true

theorem State.calLoadRgn_keep (s : State) (r : Nat) (t : State) {j : Nat} {c : CalRec} {f : Bool} (hj : j ≠ r) (h : t.Loaded j c f) :
    (s.calLoadRgn r t).Loaded j c f := by
  unfold State.calLoadRgn
  split
  · exact h.calApply hj
  · exact h.calApply hj

theorem State.calLoadRgn_only (s : State) (r : Nat) (t : State) : Only [.chans, .madcs, .cals] t (s.calLoadRgn r t) := by
  unfold State.calLoadRgn
  split
  · exact (t.calApply_spec r _ _).2.2.2
  · exact (t.calApply_spec r _ _).2.2.2

theorem State.calLoadRgn_loaded (s : State) (r : Nat) (t : State) {n : Nat} {c : CalRec} (h : (s.nor.calSlots r).newest = some (n, c)) :
    (s.calLoadRgn r t).Loaded r c false := by
  have heq : s.calLoadRgn r t = t.calApply r c false := by
    unfold State.calLoadRgn
    rw [h]
  rw [heq]
  exact (t.calApply_spec r c false).1

/-- The plane terms loaded from the PLANE record. -/
def State.planeLoad (s : State) : State :=
  let plane := match (s.nor.calSlots 4).newest with | some (_, c) => c.chans | none => []
  forEach allChans (fun ch t => t.modChan ch (fun x => { x with cal := { x.cal with tau := (Tbl.get ({} : CalTerms) plane ch).tau } })) s

theorem exec_calLoad_spec (hon : s.stage = .on) (hfw : s.glb.fwOk = true) (hload : s.glb.calLoaded = false) :
    ∃ t : State, exec .calLoad s = .next t ∧ t.glb.calLoaded = true
      ∧ (t.glb.calDefault = true ↔ ∃ r, r < 5 ∧ (s.nor.calSlots r).newest = none)
      ∧ (∀ r n c, r < 4 → (s.nor.calSlots r).newest = some (n, c) → (t.cal r).tempRef = c.tempRef
          ∧ ∀ ch, ch / 48 = r → (t.chan ch).cal.factory = false ∧ (t.chan ch).cal.drive = (Tbl.get ({} : CalTerms) c.chans ch).drive)
      ∧ Only [.chans, .madcs, .clus, .cals, .glb] s t := by
  have hexec : exec .calLoad s = .next (((forEach [0, 1, 2, 3] s.calLoadRgn s.planeLoad).modCal 4 (fun c => { c with
      factory := ((s.nor.calSlots 4).newest).isNone })).modGlb (fun g => { g with
      calLoaded := true, calDefault := (List.range 5).any (fun r => ((s.nor.calSlots r).newest).isNone) })) := by
    refine congrArg Host.Outcome.next ?_
    unfold State.calLoad
    rw [if_neg (by simp [hon, hfw, hload])]
    rfl
  have hplane : Only [.chans] s s.planeLoad := Only.forEach (fun ch t => t.modChan_only ch _) _ s
  have hrgns : Only [.chans, .madcs, .cals] s.planeLoad (forEach [0, 1, 2, 3] s.calLoadRgn s.planeLoad) :=
    Only.forEach (fun r t => s.calLoadRgn_only r t) _ _
  have hloaded : ∀ r n c, r < 4 → (s.nor.calSlots r).newest = some (n, c) →
      (forEach [0, 1, 2, 3] s.calLoadRgn s.planeLoad).Loaded r c false := fun r n c hr h =>
    forEach_each (P := fun r t => ∀ n c, (s.nor.calSlots r).newest = some (n, c) → t.Loaded r c false)
      (fun i t n c h => s.calLoadRgn_loaded i t h) (fun i j t hj hP n c h => s.calLoadRgn_keep i t hj (hP n c h)) s.planeLoad
      (.inl (by simp; omega)) n c h
  generalize forEach [0, 1, 2, 3] s.calLoadRgn s.planeLoad = u at hexec hrgns hloaded
  have hpage := u.modCal_only 4 (fun c => { c with factory := ((s.nor.calSlots 4).newest).isNone })
  have hcal : ∀ r, r < 4 → (u.modCal 4 (fun c => { c with factory := ((s.nor.calSlots 4).newest).isNone })).cal r = u.cal r := fun r hr => by
    rw [State.modCal_cal, if_neg (by omega)]
  generalize u.modCal 4 (fun c => { c with factory := ((s.nor.calSlots 4).newest).isNone }) = w at hexec hpage hcal
  have hglb := w.modGlb_only (fun g => { g with
      calLoaded := true, calDefault := (List.range 5).any (fun r => ((s.nor.calSlots r).newest).isNone) })
  refine ⟨_, hexec, rfl, ?_, fun r n c hr h => ?_, ((hplane.comp hrgns (n := [.chans, .madcs, .cals])).comp hpage (n := [.chans, .madcs, .cals])).comp hglb⟩
  · show (List.range 5).any (fun r => ((s.nor.calSlots r).newest).isNone) = true ↔ _
    simp only [List.any_eq_true, List.mem_range, Option.isNone_iff_eq_none]
  · obtain ⟨htemp, hterms⟩ := (((hloaded r n c hr h).only hpage (by decide) (by rw [hcal r hr])).only hglb (by decide)
      (by rw [hglb.cal (by decide)]))
    exact ⟨htemp, hterms⟩

end

/-- Settles O35: a run keeps what belongs to other clusters through its advance, results are judged against terms a measurement leaves, and
the sequence's checks touch one lane or channel each. -/
theorem calibrationRunsPlanesAndRecords : Obligations.CalibrationRunsPlanesAndRecords := by
  unfold Obligations.CalibrationRunsPlanesAndRecords
  refine ⟨⟨fun s r hr hauto hstate hlast => ⟨fun hmove hallowed => exec_calTempEval_due hr hauto hstate hlast hmove hallowed,
      fun howed hlow hhigh => exec_calTempEval_steady hr hauto hstate hlast howed hlow hhigh⟩,
    fun s fn r haccepts hr => ⟨fun hidle hallowed => exec_calStart_due haccepts hr hidle hallowed,
      fun hlow hhigh => exec_calAbort_running haccepts hr hlow hhigh⟩,
    fun s r vref vbg spine hr hstate hseq hdue hmode => ⟨fun hvref => exec_calCommonStepDone_bad hr hstate hseq hdue hvref,
      fun hvref hwithin hhold hslew hmet hlong hterms => exec_calCommonStepDone_good hr hstate hvref hwithin hhold hslew hmet hlong hterms⟩,
    fun s k l hk hl hallowed hidle hbefore hcommon hstate htodo havail =>
      exec_calClusterStepStart_spec hk hl hallowed hidle hbefore hcommon hstate htodo havail,
    fun s k l lanes madc hk hl hstep hslew hhold hmet hdue hiso hserv => exec_calClusterStepDone_lane hk hl hstep hslew hhold hmet hdue hiso hserv,
    fun s r hr hstate hend => exec_calHoldoffExpiry hr hstate hend⟩,
    fun s k v hk hstate htodo hturn hdue => exec_calEnvCheckDone_spec hk hstate htodo hturn hdue,
    fun s ch sum spread hch hstate hplane hturn hdue hrefused hplanes hspread hlow hhigh =>
      exec_calReflectDone_clean hch hstate hplane hturn hdue hrefused hplanes hspread hlow hhigh,
    fun s hstate hmode hbusy htodo hwriting hfailed hspoiled => exec_calSequenceDone_spec hstate hmode hbusy htodo hwriting hfailed hspoiled,
    fun s ch k hch hnext hslew hdue => exec_calSlewStep_timing hch hnext hslew hdue,
    fun s ch hch htick hraw => exec_calSlewStep_levels hch htick hraw,
    fun s ch k hch hrun hnext hslew hstale hlong => exec_calStale hch hrun hnext hslew hstale hlong,
    fun s hon hfw hload => exec_calLoad_spec hon hfw hload⟩

end Sys2Proof.Machine
end
